-- ==== Sys2Proof/Word.lean ====
section
/-! DEFINITION. The word and byte types of the device and the names of its index types. -/

namespace Sys2Proof

/-- A register is 32 bits wide (R13). -/
abbrev Word := BitVec 32

/-- The smallest addressable unit of memory. -/
abbrev Byte := BitVec 8

/-- A table from numbers to values that lists only the entries that differ from a default, keys strictly rising. -/
abbrev Tab (α : Type) := List (Nat × α)

/-- A compute die, numbered from 0: `0` is `d1` (R21). -/
abbrev Die := Fin 8

/-- A physical engine site (R11). -/
abbrev Site := Fin 128

/-- A logical engine (R11). -/
abbrev Eng := Fin 96

/-- A sequence slot of the sampling unit (R26: 64 sequences in flight). -/
abbrev Slot := Fin 64

/-- An entry of the span table (R35). -/
abbrev SpanIx := Fin 4096

/-- A causeway bundle pair (R22). -/
abbrev Bundle := Fin 78

/-- A Wealey port (R21). -/
abbrev Port := Fin 16

/-- A memory stack (R21). -/
abbrev Stack := Fin 8

/-- A barge mover (R21). -/
abbrev Mover := Fin 16

/-- A flash channel (R21). -/
abbrev Chan := Fin 32

/-- A ticket (R214). -/
abbrev Ticket := Fin 16

/-- An interrupt source (R399). -/
abbrev Src := Fin 512

/-- An interrupt target (R399). -/
abbrev Tgt := Fin 16

/-- A device of the group (R10). -/
abbrev Dev := Fin 64

end Sys2Proof
end

