-- ==== Sys2Proof/Syntax.lean ====
section
/-! DEFINITION. The commands of the device: one constructor of `Instr` for each row of spec/opcode_table.json, with the
operands that the rule of the row gives it.  What a command brings from outside the model (a measured value, the data of
a host, the result of a physical event) is an operand. -/

namespace Sys2Proof

/-- Who makes a register access (R508): a function of the host bridge (0 is the physical function, v + 1 is VF v), a
device of the group through a window, the landing port, or REGACC through the test access port. -/
inductive Agent where
  | host (fn : Fin 17)
  | wealey (dev : Dev)
  | landing
  | tap
  deriving DecidableEq, Repr

/-- Who makes a memory access (R174). -/
inductive Requester where
  | engine (e : Eng)
  | re (r : Fin 16)
  | mover (m : Mover)
  | host (fn : Fin 17)
  | wealey (p : Port)
  | die (p : Bundle)
  | hub
  deriving DecidableEq, Repr

/-- A read or write request to memory: requester (`die p` is the unit whose command header comes on bundle p, R300),
device-local address, bytes, ticket, the HELD field it arrives with (R227), the level its resource's queue reaches with it (R224),
the DRAM page misses it meets (R165), the interval that its resource measures for it (R219), and for a write its bytes, which of
them are poisoned, and the manifests that its whole blocks bring (none: the writer makes them, R205). -/
structure MemReq where
  rq : Requester
  addr : Nat
  len : Nat
  ticket : Ticket
  held : Fin 1024
  level : Fin 2048
  misses : Nat
  interval : Nat
  data : List Byte
  pois : List Bool
  mans : List Word := []
  deriving DecidableEq, Repr

/-- The sender of a SYNC_SIGNAL (R76): an engine of this device, or another device of a group span. -/
inductive Signaller where
  | engine (e : Eng)
  | device (d : Dev)
  deriving DecidableEq, Repr

/-- A unit of a mode change (R154, R156). -/
inductive ModeUnit where
  | engine (e : Eng)
  | mover (m : Mover)
  | re (r : Fin 16)
  | part (p : Fin 256)
  | block (b : Fin 8)
  | device (d : Dev)
  deriving DecidableEq, Repr

/-- What the decoder finds in a codeword that a page read delivers (R240, R243): the decode does not converge, or it
converges with the syndrome weight `s` of the hard input and `bits` corrected bits; then `clean` is whether it has found the codeword that
was written, and otherwise it is a miscorrection that the manifests show (R242). -/
inductive Decoded where
  | failed (s : Nat)
  | converged (s bits : Nat) (clean : Bool)
  deriving DecidableEq, Repr

/-- A LUN as discovery finds it (R235, R237): channel, chip enable × 4 + LUN; whether its target answers Read ID at address 0x20 with the
ONFI signature, and which copies of its parameter page have a correct CRC; then, as the first of these says, the highest rate code
(0 when it declares neither NV-DDR3 nor NV-LPDDR4), whether it declares DQ training, and its geometry. -/
structure FoundLun where
  chan : Chan
  lun : Fin 32
  onfi : Bool
  copies : List Bool
  rate : Fin 8
  dq : Bool
  pageBytes : Nat
  pages : Nat
  blocks : Nat
  deriving DecidableEq, Repr

/-- What the decoder finds in one codeword of a raw page read (R243, R262) at each stage that the read comes to, the first stage first. -/
structure RawUnit where
  decs : List Decoded
  deriving DecidableEq, Repr

/-- A flit as a receiver takes it (R298, R299): its 32 words of 39 bits, MAN_HALF, its CRC and its valid field. -/
structure Flit where
  words : List Nat
  man : Fin 65536
  crc : Fin 65536
  valid : Fin 1048576
  deriving DecidableEq, Repr

/-- A Wealey frame (R324): its header fields, its data, and the words that its poison slice marks; POISONED is set when there
are any. -/
structure Frame where
  typ : Fin 16
  host : Bool
  ticket : Ticket
  held : Fin 1024
  src : Dev
  down : Bool
  dst : Dev
  hops : Fin 64
  status : Fin 16
  tag : Fin 65536
  addr : Nat
  len : Nat
  segcrc : List Word
  engines : Nat
  data : List Byte
  pois : List Nat
  deriving DecidableEq, Repr

/-- A control entry (R327): EKIND, URG, source, destination, BCAST, words 1 to 5. -/
structure Entry where
  kind : Fin 16
  urg : Bool
  src : Dev
  dst : Dev
  bcast : Bool
  words : List Word
  deriving DecidableEq, Repr

/-- What a configuration request of the host does (R345, R346): a read, or a write that sets a function's MSI-X Enable and
Function Mask, a vector's mask bit, or its power state. -/
inductive CfgReq where
  | read
  | msix (en fmask : Bool)
  | vector (v : Fin 1024) (masked : Bool)
  | power (d3 : Bool)
  deriving DecidableEq, Repr

/-- What the power manager measures in a control interval (R364, R365, R429): package power in watts, VIN12 in mV and in units
of 0.01 A, the array-busy cycles of each site, and the rails whose regulators have missed three consecutive reports. -/
structure Interval where
  watts : Fin 4096
  mv : Fin 65536
  amps : Fin 65536
  busy : List Nat
  silent : List (Fin 65)
  deriving DecidableEq, Repr

/-- What a start finds of a die (R385 to R388, R308): its position, the cause with which it is fenced, if it fails, and the
stepping, feature level and serial that it reports. -/
structure DieFound where
  pos : Fin 20
  fail : Option (Fin 8)
  stepping : Fin 256
  feature : Fin 256
  serial : Nat
  deriving DecidableEq, Repr

/-- The lane test of a bundle pair (R306): whether its clock pair fails, and the lanes that fail hub to die and die to hub. -/
structure LaneTest where
  p : Bundle
  clk : Bool
  bad0 : List (Fin 70)
  bad1 : List (Fin 70)
  deriving DecidableEq, Repr

/-- What a start or a wave finds (R385 to R388): REFCLK present, every calibration diode below 105 °C, the boot flash
answering, the hub's tests passed; its dies and stacks; the lane tests; the placed-view and bonded addresses of failing memory
words; the bonded rows, sites (with cause), SRAM macros and retrieval engines that fail; the always-on counts of its events;
whether the boot flash takes the records that follow; for a start after a cold reset the straps BOOT_SRC, SMB_ADDR and BRIDGE_EN,
where they are no longer as last sampled (R378).  DESIGN CHOICE, log entry 36. -/
structure Found where
  ref : Bool
  cool : Bool
  flash : Bool
  hubOk : Bool
  dies : List DieFound
  lanes : List LaneTest
  words : List Nat
  rows : List (Fin 32)
  sites : List (Site × Fin 8)
  macros : List (Site × Fin 128)
  res : List (Fin 16)
  times : List (Fin 8 × Word)
  logOk : Bool
  straps : Option (Fin 4 × Fin 8 × Bool)
  deriving DecidableEq, Repr, Inhabited

/-- Where a copy of the SNAPSHOT marker arrives (R420, R422, R424): at a die of this device, at its hub from a die, or at this
device from another one, on a counted channel (0 to 77 a bundle, 78 to 93 a port) with the sender's latched count. -/
structure Marker where
  at_ : Fin 20
  chan : Fin 94
  id : Fin 65536
  sent : Word
  origin : Option Dev
  deriving DecidableEq, Repr

/-- The commands of the device.  DESIGN CHOICE, log entries 7 and 23. -/
inductive Instr where
  /-- REGISTER_WRITE (R17): a register access by `a` of `size` bytes at `off` from the register base. -/
  | registerWrite (a : Agent) (off size : Nat) (v : Word)
  /-- NOP (R78): the step at index `i` of engine `e`'s schedule, in flight; so for the other steps. -/
  | nop (e : Eng) (i : SpanIx)
  /-- MATMUL (R80); `parity` is the tile whose weight registers show a parity error (R49), if one does. -/
  | matmul (e : Eng) (i : SpanIx) (parity : Option Nat)
  /-- ATTN_PAGED (R81): `x` is the step's index and the tile whose weight registers show a parity error (R49), if one does. -/
  | attnPaged (e : Eng) (x : SpanIx × Option Nat)
  /-- MOE_GATE (R83): `x` as for ATTN_PAGED. -/
  | moeGate (e : Eng) (x : SpanIx × Option Nat)
  /-- MOE_DISPATCH (R83). -/
  | moeDispatch (e : Eng) (i : SpanIx)
  /-- MOE_GATHER (R84); `order` is the order in which the contributions of a row arrive. -/
  | moeGather (e : Eng) (i : SpanIx) (order : List Nat)
  /-- NORM_RMS (R85). -/
  | normRms (e : Eng) (i : SpanIx)
  /-- NORM_LAYER (R85). -/
  | normLayer (e : Eng) (i : SpanIx)
  /-- EMBED_GATHER (R85). -/
  | embedGather (e : Eng) (i : SpanIx)
  /-- VEC (R79). -/
  | vec (e : Eng) (i : SpanIx)
  /-- SFU (R59). -/
  | sfu (e : Eng) (i : SpanIx)
  /-- REDUCE (R61). -/
  | reduce (e : Eng) (i : SpanIx)
  /-- TRANSPOSE (R60). -/
  | transpose (e : Eng) (i : SpanIx)
  /-- RERANK_SCORE (R86). -/
  | rerankScore (e : Eng) (i : SpanIx)
  /-- TOPK (R86). -/
  | topk (e : Eng) (i : SpanIx)
  /-- SEND (R78). -/
  | send (e : Eng) (i : SpanIx)
  /-- LOGITS_OUT (R90). -/
  | logitsOut (e : Eng) (i : SpanIx)
  /-- TOKEN_IN (R78). -/
  | tokenIn (e : Eng) (i : SpanIx)
  /-- SYNC (R76). -/
  | sync (e : Eng) (i : SpanIx)
  /-- END (R75). -/
  | endTask (e : Eng) (i : SpanIx)
  /-- STEP_START (R75): engine `e` starts the next step of its task, when it may. -/
  | stepStart (e : Eng)
  /-- GANG_DATA_RETURN (R67). -/
  | gangDataReturn (e : Eng) (g : Fin 128)
  /-- ENGINE_ISSUE_CYCLE (R68): one core cycle; `reads` are the reads that gangs have to issue, the number of each, and
  `items` the gangs whose work item completes. -/
  | engineIssueCycle (e : Eng) (reads : List (Fin 128 × Fin 17)) (items : List (Fin 128))
  /-- SYNC_SIGNAL (R76): a signal of point `p` of the span in entry `sp`. -/
  | syncSignal (sp : SpanIx) (p : Fin 256) (who : Signaller)
  /-- CODEBOOK_WRITE (R46): codebook `cb` of engine `e`, from byte offset `off`. -/
  | codebookWrite (e : Eng) (cb : Fin 2) (off : Nat) (data : List Byte) (pois : List Bool)
  /-- HELD_CODEBOOK_WRITE (R46). -/
  | heldCodebookWrite (e : Eng)
  /-- SEQ_ACTIVATE (R89). -/
  | seqActivate (s : Slot)
  /-- SEQ_DEACTIVATE (R89). -/
  | seqDeactivate (s : Slot)
  /-- SAMP_STAGE_WRITE (R92). -/
  | sampStageWrite (s : Slot) (w : Fin 8) (v : Word)
  /-- SAMP_GO (R92): a write of `v` to GEN_SAMP_GO. -/
  | sampGo (v : Word)
  /-- HIST_APPEND (R93). -/
  | histAppend (s : Slot) (v : Word)
  /-- TOKEN_CHOOSE (R91). -/
  | tokenChoose (s : Slot)
  /-- ORING_ADVANCE (R94). -/
  | oringAdvance (s : Slot)
  /-- ORING_READ_ADVANCE (R94): a write of `v` to GEN_ORING_RD_s. -/
  | oringReadAdvance (s : Slot) (v : Word)
  /-- GRAMMAR_MASK_DONE (R96). -/
  | grammarMaskDone (s : Slot)
  /-- HEARTBEAT_CHECK (R107): bit i of the first part of `x` is set when the heartbeat of site i of the die did not arrive; its second part is
  whether a router of the die has reported a fault (R108); `logOk` is whether boot flash takes the defect-log records that follow (R394). -/
  | heartbeatCheck (d : Die) (x : Fin 65536 × Bool) (logOk : Bool)
  /-- ENG_FENCE (R107): a write of `v` to ENG_CTL of a site. -/
  | engFence (site : Site) (v : Word) (logOk : Bool)
  /-- CONTROL_PARITY_ERROR (R107). -/
  | controlParityError (site : Site) (logOk : Bool)
  /-- POWER_GATE_FAULT (R107). -/
  | powerGateFault (site : Site) (logOk : Bool)
  /-- ROW_SUBST (R110): a write of `v` to CDI_ROW_SUBST; `meshBusy` is whether the row's mesh port has a request
  outstanding for an engine of the row. -/
  | rowSubst (d : Die) (v : Word) (meshBusy : Bool)
  /-- SUBST_PORT_BIND (R111): `logOk` is whether boot flash has programmed the record of the new mapping. -/
  | substPortBind (d : Die) (r : Fin 4) (logOk : Bool)
  /-- EDGE_SEL_WRITE (R117): a write of `v` to CDI_CTL. -/
  | edgeSelWrite (d : Die) (v : Word)
  /-- EDGE_SEL_APPLY (R117). -/
  | edgeSelApply (e : Eng)
  /-- MCAST_DELIVER (R121): a packet for the slots of `mask` at local-store offset `off`; bit i of `lost` is set when slot
  i becomes absent while its copy is in flight. -/
  | mcastDeliver (d : Die) (mask : Fin 4096) (off : Nat) (data : List Byte) (pois : List Bool) (lost : Fin 4096)
  /-- BARRIER_ARRIVE (R305). -/
  | barrierArrive (e : Eng)
  /-- BARRIER_RELEASE (R305). -/
  | barrierRelease (e : Eng)
  /-- SEAM_STALL_ALERT (R128): the seam of the die has stalled `cycles` more cycles for credit. -/
  | seamStallAlert (d : Die) (cycles : Nat)
  /-- STEP_CHANGE_APPLY (R127). -/
  | stepChangeApply (d : Die)
  /-- SPAN_START (R131): CMD START with ARG `arg`, by a register write that carries `ticket` (R216). -/
  | spanStart (sp : SpanIx) (arg : Fin 4) (ticket : Ticket)
  /-- SPAN_STOP (R131). -/
  | spanStop (sp : SpanIx)
  /-- SPAN_DRAIN (R131). -/
  | spanDrain (sp : SpanIx)
  /-- SPAN_SNAPSHOT (R131). -/
  | spanSnapshot (sp : SpanIx)
  /-- SPAN_CLEAR (R131). -/
  | spanClear (sp : SpanIx)
  /-- SPAN_UNLOAD (R131). -/
  | spanUnload (sp : SpanIx)
  /-- SPAN_QUIET (R131). -/
  | spanQuiet (sp : SpanIx)
  /-- DOORBELL (R132): a write of `v` to CFG_DB of an entry, carrying `ticket` (R216). -/
  | doorbell (sp : SpanIx) (v : Word) (ticket : Ticket)
  /-- EVENT_RING_POP (R133). -/
  | eventRingPop (t : Tgt)
  /-- IMAGE_LOAD (R146): a write of `v` to CFG_LOAD_GO; `host` is what a read of host memory at the image's address
  returns, when the address is a host address. -/
  | imageLoad (v : Word) (host : List Byte)
  /-- RWP_WRITE (R152): a write of `v` to the register at `off`, which has RWP fields. -/
  | rwpWrite (off : Nat) (v : Word)
  /-- PAIR_COMMIT (R151): a write of `v` to CFG_COMMIT. -/
  | pairCommit (v : Word)
  /-- SHADOW_CLEAR (R151): a write of `v` to CFG_SHADOW_CLR. -/
  | shadowClear (v : Word)
  /-- PAIR_ABANDON (R152): a write of `v` to CFG_PAIR_ABANDON. -/
  | pairAbandon (v : Word)
  /-- LEVEL_WRITE (R152): a write of `v` to CFG_CTL. -/
  | levelWrite (v : Word)
  /-- PREPARE_RECEIVE (R154): unit `u` receives PREPARE; for a device, this hub receives that device's PREPARE of a change of
  `kind`; `x` is its scope and the coordinator's CHANGE (R156). -/
  | prepareReceive (u : ModeUnit) (kind : Fin 4) (x : SpanIx × Fin 65536)
  /-- MODE_ACK_RECEIVE (R154): the ACK of unit `u` with PHASE `phase` and, from another device, RESULT `result`. -/
  | modeAckReceive (u : ModeUnit) (phase : Fin 2) (result : Fin 5)
  /-- COMMIT_RECEIVE (R154). -/
  | commitReceive (u : ModeUnit)
  /-- MODE_APPLY (R154). -/
  | modeApply (u : ModeUnit)
  /-- ABORT_RECEIVE (R155): the unit that receives it, and CAUSE. -/
  | abortReceive (x : ModeUnit × Fin 256)
  /-- MEMORY_READ (R174). -/
  | memoryRead (q : MemReq)
  /-- MEMORY_WRITE (R174). -/
  | memoryWrite (q : MemReq)
  /-- STACK_FENCE (R168). -/
  | stackFence (n : Stack) (logOk : Bool)
  /-- BRG_WRITE_INDEX (R179): a write of `v` to BRG_WR_m. -/
  | brgWriteIndex (m : Mover) (v : Word)
  /-- DESCRIPTOR_START (R180): from the ring, or from the hub channel when `hub` is set. -/
  | descriptorStart (m : Mover) (hub : Bool)
  /-- DESCRIPTOR_COMPLETE (R182): the oldest descriptor in flight on the ring, or on the hub channel; `ext` is what a read of
  host memory or of another device returned for it: bytes, and which are poisoned; none when the read failed; `turned` is the
  first 256-byte block of a copy to host memory or to another device whose write completed with an error, none when there was none. -/
  | descriptorComplete (m : Mover) (hub : Bool) (ext : Option (List Byte × List Bool)) (turned : Option Nat)
  /-- BRG_RESUME (R182): a write of RESUME to BRG_CTL_m; so for the next two. -/
  | brgResume (m : Mover)
  /-- BRG_SKIP (R182). -/
  | brgSkip (m : Mover)
  /-- BRG_ABORT (R182). -/
  | brgAbort (m : Mover)
  /-- PROMOTE_COPY_DONE (R185): the copy of a page (interleaved address ÷ 64 KiB). -/
  | promoteCopyDone (page : Fin 16777216)
  /-- PATCH_RELEASE (R199): a write of `v` to MEM_PATCH_CTL. -/
  | patchRelease (v : Word) (logOk : Bool)
  /-- MACRO_FENCE (R200): a write of `v` to MEM_FENCE_MACRO. -/
  | macroFence (v : Word) (logOk : Bool)
  /-- MACRO_FENCE_APPLY (R200). -/
  | macroFenceApply (site : Site) (macro_ : Fin 128) (logOk : Bool)
  /-- PAGE_RETIRE (R201): a write of `v` to MEM_RETIRE_CMD. -/
  | pageRetire (v : Word) (logOk : Bool)
  /-- FLIP_ARM (R210): a write of `v` to MEM_FLIP_CTL. -/
  | flipArm (v : Word)
  /-- SCRUB_START (R211): a write of GO, with TICKET `t`, to MEM_SCRUB_GO. -/
  | scrubStart (t : Ticket)
  /-- SCRUB_DONE (R212): the pass has read what its range holds, or has stopped, having scanned `scanned` bytes when stopped. -/
  | scrubDone (scanned : Nat)
  /-- TICKET_AVG_UPDATE (R220): of a ticket at the resource that is number `n` of class `k` (R218). -/
  | ticketAvgUpdate (k : Fin 4) (n : Fin 32) (t : Ticket)
  /-- THROTTLE_RECEIVE (R226): source `q` receives the THROTTLE of resource `r`. -/
  | throttleReceive (q : Requester) (r : Fin 73) (band : Fin 3) (hold : Fin 65536)
  /-- QUEUE_LEVEL_RECEIVE (R225). -/
  | queueLevelReceive (r : Fin 73) (level : Fin 2048) (band : Fin 4)
  /-- LEAK_RELEASE (R226). -/
  | leakRelease (q : Requester) (r : Fin 73) (t : Ticket)
  /-- MISS_WINDOW_END (R228): operands as for TICKET_AVG_UPDATE. -/
  | missWindowEnd (k : Fin 4) (n : Fin 32) (t : Ticket)
  /-- FLASH_READ (R243): channel `c` issues the next read of its queue, when one may issue. -/
  | flashRead (c : Chan)
  /-- PAGE_READ_DONE (R243): the page read in progress on a LUN of channel `c` ends; `interval` is what the channel measures
  (R219), in units of 64 core cycles, where this delivers its unit. -/
  | pageReadDone (c : Chan) (lun : Fin 32) (r : Decoded) (interval : Nat)
  /-- PROBE_ISSUE (R245): channel `c` probes block group `g`. -/
  | probeIssue (c : Chan) (g : Fin 4096)
  /-- PROBE_RESULT (R246): the probe in progress on a LUN has the syndrome weight `s`. -/
  | probeResult (c : Chan) (lun : Fin 32) (s : Fin 4097)
  /-- READ_DISTURB_PATROL (R248). -/
  | readDisturbPatrol (c : Chan) (lun : Fin 32) (block : Fin 8192)
  /-- FLASH_PROGRAM (R249): channel `c` issues the next page program of its queue, when one may issue. -/
  | flashProgram (c : Chan)
  /-- PROGRAM_STATUS (R249): the program in progress on a LUN ends with its status. -/
  | programStatus (c : Chan) (lun : Fin 32) (pass : Bool)
  /-- ERASE_STATUS (R249): the next erase queued for a LUN ends with its status. -/
  | eraseStatus (c : Chan) (lun : Fin 32) (pass : Bool)
  /-- RELOCATION_SWITCH (R257): the relocation of superblock `sb` has copied its data. -/
  | relocationSwitch (sb : Nat)
  /-- LUN_TIMEOUT (R236). -/
  | lunTimeout (c : Chan) (lun : Fin 32) (logOk : Bool)
  /-- ZQ_CALIBRATION (R238). -/
  | zqCalibration (c : Chan)
  /-- ZONE_OPEN (R255): a write of OP 1 with NSB `nsb` to FLC_ZONE_CMD. -/
  | zoneOpen (nsb : Fin 256)
  /-- ZONE_APPEND (R256): the append descriptor of mover `m` that waits; `ext` is what a read of host memory or of another
  device returned for it: bytes, and which are poisoned; none when the read failed. -/
  | zoneAppend (m : Mover) (ext : Option (List Byte × List Bool))
  /-- APPEND_COMPLETE (R256): the append in progress to the zone of handle `z`. -/
  | appendComplete (z : Word)
  /-- FORMAT (R259): a write of GO with SPARE_PCT `pct` to FLC_FMT. -/
  | format (pct : Fin 32)
  /-- FORMAT_DONE (R259): `marked` are the blocks that carry the factory marker: channel, LUN, block. -/
  | formatDone (marked : List (Chan × Fin 32 × Fin 8192))
  /-- MOUNT (R260): `found` are the LUNs that answer discovery, `trained` the highest rate code at which each channel's DQ
  training passes (0 for none). -/
  | mount (found : List FoundLun) (trained : List (Fin 8)) (logOk : Bool)
  /-- MOUNT_DONE (R260): whether a label copy and a ledger checkpoint are readable, and the write pointer that step 5 finds in
  each OPEN zone, in units of 4 KiB. -/
  | mountDone (labelOk ledgerOk : Bool) (wps : List (Word × Nat))
  /-- RAW_READ_PAGE (R262): a write of OP 1 to FLC_RAW_CMD of channel `c`, with RAW `raw` and TICKET `t`; with RAW = 0,
  `units` tells how each codeword decodes; with RAW = 1, `errs` are the bits that read wrong, byte by byte of the page. -/
  | rawReadPage (c : Chan) (raw : Bool) (t : Ticket) (units : List RawUnit) (errs : List Byte)
  /-- RAW_PROGRAM_PAGE (R262): OP 2; `pass` is the program's status; so for the erase. -/
  | rawProgramPage (c : Chan) (raw : Bool) (t : Ticket) (pass : Bool)
  /-- RAW_ERASE_BLOCK (R262): OP 3. -/
  | rawEraseBlock (c : Chan) (t : Ticket) (pass : Bool)
  /-- RAW_READ_STATUS (R262): OP 4; `status` is the ONFI status byte that the LUN returns. -/
  | rawReadStatus (c : Chan) (t : Ticket) (status : Byte)
  /-- RAW_GET_FEATURES (R262): OP 5; `p` are the parameter bytes that the LUN returns. -/
  | rawGetFeatures (c : Chan) (feat : Byte) (t : Ticket) (p : Word)
  /-- RAW_SET_FEATURES (R262): OP 6. -/
  | rawSetFeatures (c : Chan) (feat : Byte) (t : Ticket)
  /-- RAW_READ_ID (R262): OP 7; `id` are the bytes that the target returns. -/
  | rawReadId (c : Chan) (t : Ticket) (id : List Byte)
  /-- RAW_READ_PARAMETER_PAGE (R262): OP 8; `page` are the bytes that the target returns. -/
  | rawReadParameterPage (c : Chan) (t : Ticket) (page : List Byte)
  /-- RAW_RESET_LUN (R262): OP 9; `same` is whether the parameter page still equals its discovery copy (R236). -/
  | rawResetLun (c : Chan) (t : Ticket) (same logOk : Bool)
  /-- THRESHOLD_WRITE (R247): a write of `v` to FLC_THR_DATA of channel `c`. -/
  | thresholdWrite (c : Chan) (v : Word)
  /-- QUERY_ADMIT (R267): the head descriptor of pipeline `p`, when it can be admitted. -/
  | queryAdmit (p : Fin 64)
  /-- UNIT_DELIVERED (R277): the oldest unit delivered to the query of descriptor `i` of pipeline `p`. -/
  | unitDelivered (p : Fin 64) (i : Word)
  /-- WALK_ROUND (R278). -/
  | walkRound (p : Fin 64) (i : Word)
  /-- QUERY_END (R285). -/
  | queryEnd (p : Fin 64) (i : Word)
  /-- QUERY_FAIL (R290). -/
  | queryFail (p : Fin 64) (i : Word)
  /-- RESULT_HEADER_WRITE (R286). -/
  | resultHeaderWrite (p : Fin 64) (i : Word)
  /-- FORWARD_START (R288). -/
  | forwardStart (p : Fin 64)
  /-- FORWARD_DOORBELL (R288): the copy of the pipeline's oldest forward in flight is performed. -/
  | forwardDoorbell (p : Fin 64)
  /-- FORWARD_FREE (R289). -/
  | forwardFree (p : Fin 64)
  /-- RE_FENCE (R291): a write of `mask` to RTV_RE_FENCE. -/
  | reFence (mask : Fin 65536) (logOk : Bool)
  /-- RESULT_READ_ADVANCE (R283): a write of `v` to RTV_RRD_p. -/
  | resultReadAdvance (p : Fin 64) (v : Word)
  /-- FLIT_RECEIVE (R301, R302): the receiver of bundle `p`, direction `dir` (set: die to hub), takes a flit; `queue` is the level
  that the edge queue it joins reaches. -/
  | flitReceive (p : Bundle) (dir : Bool) (f : Flit) (queue : Fin 97)
  /-- DNAK_RECEIVE (R301): the sender of a direction receives DNAK with the last good SEQ. -/
  | dnakReceive (p : Bundle) (dir : Bool) (seq : Fin 32)
  /-- CHAIN_FRAME_RECEIVE (R303): 64 bits of a chain frame. -/
  | chainFrameReceive (p : Bundle) (dir : Bool) (frame : BitVec 64)
  /-- BUNDLE_RETRAIN (R311, R312): a write of RETRAIN to CWY_CTL. -/
  | bundleRetrain (p : Bundle)
  /-- RETRAIN_DONE (R312): the lanes of each direction that fail the PRBS31 test. -/
  | retrainDone (p : Bundle) (bad0 bad1 : List (Fin 70)) (logOk : Bool)
  /-- BUNDLE_RETIRE (R314): a write of RETIRE to CWY_CTL. -/
  | bundleRetire (p : Bundle) (logOk : Bool)
  /-- CLOCK_PAIR_LOST (R297, R314). -/
  | clockPairLost (p : Bundle) (dir : Bool) (logOk : Bool)
  /-- DISC_RECEIVE (R308): the two payload words of a DISC message on the chain lane of bundle `p`. -/
  | discReceive (p : Bundle) (w1 w2 : Word) (logOk : Bool)
  /-- CODEWORD_RECEIVE (R321, R329): the symbol errors that the decoder corrects, or an uncorrectable codeword; `counted` is how
  many counted slices it carries. -/
  | codewordReceive (p : Port) (corrected : Fin 16) (bad : Bool) (counted : Fin 11)
  /-- CONTROL_SLICE_RECEIVE (R327, R329). -/
  | controlSliceReceive (p : Port) (ack : Fin 65536) (nak : Bool) (crReq crRsp : Fin 65536) (crCtl : Fin 256) (txreq : Byte)
  /-- CHAIN_ENTRY_RECEIVE (R327): an entry of EKIND 1. -/
  | chainEntryReceive (p : Port) (x : Entry)
  /-- HELLO_RECEIVE (R334): word 1 to 3 of a HELLO. -/
  | helloReceive (p : Port) (serial : Word) (devnum : Dev) (port : Port) (bridge : Bool) (tier : Fin 4) (feature : Fin 256) (gen : Fin 65536)
  /-- ENUM_RECEIVE (R334). -/
  | enumReceive (serial : Word) (devnum : Dev) (level : Dev) (gen : Fin 65536)
  /-- ROUTE_RECEIVE (R336, R337); `last` is whether all entries of its generation have arrived with it. -/
  | routeReceive (dest : Dev) (hops : Dev) (up dn : Fin 65536) (gen : Fin 65536) (last : Bool)
  /-- LINKSTATE_RECEIVE (R338): from device `d`, for its port. -/
  | linkstateReceive (d : Dev) (port : Port) (up : Bool) (peer : Dev) (peerPort : Port) (gen : Fin 65536)
  /-- LOST_RECEIVE (R339). -/
  | lostReceive (d : Dev) (isolated : Bool) (gen : Fin 65536)
  /-- WEALEY_WRITE (R325, R326): a frame of TYPE 1 arrives on port `p`; so for the next four. -/
  | wealeyWrite (p : Port) (f : Frame)
  /-- WEALEY_READ (R326). -/
  | wealeyRead (p : Port) (f : Frame)
  /-- WEALEY_RDATA (R326). -/
  | wealeyRdata (p : Port) (f : Frame)
  /-- WEALEY_CPL (R326). -/
  | wealeyCpl (p : Port) (f : Frame)
  /-- WEALEY_EWRITE (R326). -/
  | wealeyEwrite (p : Port) (f : Frame)
  /-- FRAME_SEND (R328): port `p` sends the next of what waits for it. -/
  | frameSend (p : Port)
  /-- PORT_SIGNAL_DETECT (R330). -/
  | portSignalDetect (p : Port)
  /-- DETECT_RETRY (R330). -/
  | detectRetry (p : Port)
  /-- TRAIN_LOCK (R330). -/
  | trainLock (p : Port)
  /-- TRAIN_TIMEOUT (R330). -/
  | trainTimeout (p : Port)
  /-- CHECK_PASS (R330): 2^20 codewords have passed with none uncorrectable. -/
  | checkPass (p : Port)
  /-- PORT_SIGNAL_LOST (R330). -/
  | portSignalLost (p : Port)
  /-- PORT_RETRAIN (R331): a lane has lost lock, or a slice has failed eight successive replays. -/
  | portRetrain (p : Port)
  /-- PORT_RETRAIN_WRITE (R330): a write of RETRAIN to LNK_PCTL_i. -/
  | portRetrainWrite (p : Port)
  /-- PORT_RETRAIN_DONE (R330, R331). -/
  | portRetrainDone (p : Port)
  /-- PORT_RETRAIN_TIMEOUT (R330). -/
  | portRetrainTimeout (p : Port)
  /-- PORT_DISABLE (R330): a write of DISABLE = 1; so for the enable. -/
  | portDisable (p : Port)
  /-- PORT_ENABLE (R330). -/
  | portEnable (p : Port)
  /-- DEVICE_LOST (R339): device 0 has had no route to device `d` for 1 ms. -/
  | deviceLost (d : Dev)
  /-- HOST_CONFIG_REQUEST (R346). -/
  | hostConfigRequest (fn : Fin 17) (q : CfgReq)
  /-- HOST_READ (R346): a read of `len` bytes at offset `off` of a BAR; `tag` names it until it completes. -/
  | hostRead (fn : Fin 17) (bar : Fin 6) (off len : Nat) (tag : Nat)
  /-- HOST_WRITE (R346): a posted write; `ep` is its poisoned-TLP indication. -/
  | hostWrite (fn : Fin 17) (bar : Fin 6) (off : Nat) (data : List Byte) (ep : Bool)
  /-- HOST_LINK_CHANGE (R341). -/
  | hostLinkChange (rate : Fin 7) (width : Fin 17) (flit up : Bool)
  /-- FLR (R348). -/
  | flr (fn : Fin 17)
  /-- HOST_READ_COMPLETION (R349): the completion of a read of host memory that the bridge issued for the request of `tag` from
  device `d`: its bytes, or none on an error. -/
  | hostReadCompletion (d : Dev) (tag : Fin 65536) (data : Option (List Byte))
  /-- POWER_INTERVAL (R365). -/
  | powerInterval (x : Interval)
  /-- DIODE_READ (R430): the readings of the four diodes of every die, in units of 0.125 °C. -/
  | diodeRead (readings : List Int)
  /-- AVS_INTERVAL (R362): the lowest grade of each half (0 to 15: east and west of d1 to d8), the hub, the link dies and the
  retrieval die. -/
  | avsInterval (grades : List (Fin 4))
  /-- STEP_RAMP_DONE (R358): the regulator of a half reports its new setpoint; `west` names the half. -/
  | stepRampDone (d : Die) (west : Bool)
  /-- REGULATOR_REPORT (R360): mV, units of 0.1 A, units of 0.1 W, °C. -/
  | regulatorReport (r : Fin 65) (mv : Fin 4096) (cur pow : Fin 65536) (temp : Nat)
  /-- RAIL_FAULT (R361): undervoltage, overvoltage, overcurrent or overtemperature of a rail. -/
  | railFault (r : Fin 65) (kind : Fin 4) (logOk : Bool)
  /-- CLOCK_STRETCH (R363): core cycles stretched in a domain. -/
  | clockStretch (domain : Fin 20) (cycles : Nat)
  /-- SITE_IDLE (R368): the site has had nothing to do for PWR_IDLE.IDLE_CYC core cycles. -/
  | siteIdle (site : Site)
  /-- DIE_DOZE (R369): a write of OP 1 to PWR_DIE_CMD; so for the wake. -/
  | dieDoze (d : Die)
  /-- DIE_WAKE (R369). -/
  | dieWake (d : Die)
  /-- DOZE_EXIT_DONE (R369): step 6 is reached, or a rail fault or a mismatch of discovery ends the exit. -/
  | dozeExitDone (d : Die) (ok : Bool) (logOk : Bool)
  /-- DOZE_ENTRY_DONE (R369). -/
  | dozeEntryDone (d : Die)
  /-- POWER_ON_RESET (R377): VAON33 rises, or AON_RST_N is low (`aon`); `torn` is whether a defect-log write was under way. -/
  | powerOnReset (aon torn : Bool)
  /-- SYS_RESET (R377): SYS_RST_N low. -/
  | sysReset (torn : Bool)
  /-- COLD_RESET_CMD (R377): a write of `v` to BUP_RST; so for the warm reset. -/
  | coldResetCmd (v : Word)
  /-- WARM_RESET_CMD (R377). -/
  | warmResetCmd (v : Word)
  /-- COLD_START (R385). -/
  | coldStart (f : Found)
  /-- COMPUTE_WAVE (R386). -/
  | computeWave (f : Found)
  /-- WARM_START (R389): `kept` is whether conditions 1 to 3 of R390 hold. -/
  | warmStart (f : Found) (kept : Bool)
  /-- IMAGE_PUSH (R383): a write of `v` to BUP_RCV_GO; `f` is what the rest of bring-up finds when it leaves recovery. -/
  | imagePush (v : Word) (f : Found)
  /-- IMAGE_PUSH_PROGRAM (R383): the program and its readback end. -/
  | imagePushProgram (ok : Bool) (f : Found)
  /-- SOURCE_EVENT (R401). -/
  | sourceEvent (k : Src)
  /-- LEVEL_LINE_RISE (R401). -/
  | levelLineRise (k : Src)
  /-- COAL_WINDOW_EXPIRE (R402). -/
  | coalWindowExpire (k : Src)
  /-- CLAIM (R406). -/
  | claim (t : Tgt)
  /-- EOI (R409): a write of `v` to ICU_EOI_t. -/
  | eoi (t : Tgt) (v : Word)
  /-- SOFTWARE_INTERRUPT (R412): a write of `v` to ICU_SWI. -/
  | softwareInterrupt (v : Word)
  /-- FERRYMAN_WAKE (R415, R451): a watched source has become pending. -/
  | ferrymanWake (k : Src)
  /-- FERRY_TIMER (R451): `ms` milliseconds pass on the always-on clock in Standby. -/
  | ferryTimer (ms : Nat)
  /-- SNAPSHOT_MARKER (R420, R422). -/
  | snapshotMarker (m : Marker)
  /-- WAVE_STATUS_RECEIVE (R420, R424): the STATUS of a die, or of a device. -/
  | waveStatusReceive (pos : Fin 20) (dev : Option Dev)
  /-- TEL_RING_READ_ADVANCE (R426): a write of `v` to TEL_RING_RD. -/
  | telRingReadAdvance (v : Word)
  /-- HIST_SELECT (R427): a write of `v` to TEL_HIST_SEL. -/
  | histSelect (v : Word)
  /-- SET_ENDPOINT_ID (R440). -/
  | setEndpointId (eid : Byte)
  /-- REG_READ (R442, R444). -/
  | regRead (addr : Nat) (count : Byte)
  /-- REG_WRITE (R442, R444). -/
  | regWrite (addr : Nat) (count : Byte) (words : List Word)
  /-- LOG_READ (R442). -/
  | logRead (index : Word)
  /-- CRASH_READ (R442). -/
  | crashRead (off : Byte)
  /-- LDP_RESET_COLD (R447): the request carries `key`; so for the warm reset. -/
  | ldpResetCold (key : Fin 65536)
  /-- LDP_RESET_WARM (R447). -/
  | ldpResetWarm (key : Fin 65536)
  /-- POWER_START_MAIN (R447): `vin` is whether VIN12 is within its operating range. -/
  | powerStartMain (vin : Bool)
  /-- BUF_WRITE (R442). -/
  | bufWrite (off : Word) (data : List Byte)
  /-- BUF_READ (R442). -/
  | bufRead (off : Word) (bytes : Byte)
  /-- IMG_PUSH (R442, R448). -/
  | imgPush (len : Word) (program : Byte) (f : Found)
  /-- ATTEST_SIGN (R465): OP 1 with its nonce. -/
  | attestSign (nonce : List Byte)
  /-- ATTEST_READ_REPORT (R465): OP 2; so for OP 3. -/
  | attestReadReport (off : Fin 65536) (bytes : Byte)
  /-- ATTEST_READ_CERT (R465). -/
  | attestReadCert (off : Fin 65536) (bytes : Byte)
  /-- CRASH_CLR_WRITE (R449): a write of `v` to LDP_CRASH_CLR. -/
  | crashClrWrite (v : Word)
  /-- MBOX_IN_WRITE (R454): a write of `v` by the landing port; the next by the host. -/
  | mboxInWrite (v : Word)
  /-- MBOX_OUT_WRITE (R454). -/
  | mboxOutWrite (v : Word)
  /-- KEY_ENROL (R461, R462): a write of `v` to SEC_KNOT_GO, the notice at SEC_KNOT_OFF not being a revocation. -/
  | keyEnrol (v : Word)
  /-- KEY_REVOKE (R461, R462): the same, the notice being a revocation (OP 2). -/
  | keyRevoke (v : Word)
  /-- KEY_NOTICE_DONE (R462): the fuses are blown and read back; `ok` is whether both succeeded. -/
  | keyNoticeDone (ok : Bool)
  /-- ATTEST_HOST (R465): a write of `v` to SEC_ATT_GO. -/
  | attestHost (v : Word)
  /-- ATTEST_DONE (R465): the signer ends a report of the host path, or of the landing port. -/
  | attestDone (landing : Bool)
  /-- TAP_SAMPLE_PRELOAD (R471, R473): the pins as captured, and the values shifted into the boundary register. -/
  | tapSamplePreload (pins load_ : Nat)
  /-- TAP_DIESEL (R470). -/
  | tapDiesel (v : Fin 1048576)
  /-- TAP_IJTAG (R475): an access to an instrument of the die at `pos`: a read of `v`, or a write. -/
  | tapIjtag (pos : Fin 20) (write : Bool) (v : Word)
  /-- TAP_REGACC (R471): write [63], offset [47:32], data [31:0]. -/
  | tapRegacc (w : BitVec 64)
  /-- INTERCONNECT_TEST_DONE (R478): the failing wires of each target and direction that was tested. -/
  | interconnectTestDone (fails : List (Fin 86 × Bool × List (Fin 704)))
  /-- FIELD_TEST_EXIT (R477, R479): EXIT of TST_CTL. -/
  | fieldTestExit (logOk : Bool)
  /-- CLEAR_BY_READ (R17): a register read by `a` of `size` bytes at `off` from the register base. -/
  | clearByRead (a : Agent) (off size : Nat)
  /-- AON_RST_N_RELEASE (R378): the straps as sampled. -/
  | aonRstNRelease (bootSrc : Fin 4) (smbAddr : Fin 8) (bridge : Bool)
  /-- HUB_FAULT (R24). -/
  | hubFault
  /-- SAMPLER_RESEED (R91). -/
  | samplerReseed
  /-- IMAGE_LOADED (R147). -/
  | imageLoaded
  /-- MODE_ACK_TIMEOUT (R155). -/
  | modeAckTimeout
  /-- GROUP_MODE_TIMEOUT (R156). -/
  | groupModeTimeout
  /-- PLACE_EPOCH_END (R184). -/
  | placeEpochEnd
  /-- PROMO_PROMOTE (R186): a write of OP 1 to SBF_PROMO_CMD. -/
  | promoPromote
  /-- PROMO_DEMOTE (R186): a write of OP 2 to SBF_PROMO_CMD. -/
  | promoDemote
  /-- SCRUB_STOP (R211): a write of STOP to MEM_SCRUB_GO. -/
  | scrubStop
  /-- PATROL_TIMER (R251). -/
  | patrolTimer
  /-- LEDGER_CHECKPOINT (R258). -/
  | ledgerCheckpoint
  /-- ZONE_FINISH (R255): a write of OP 2 to FLC_ZONE_CMD. -/
  | zoneFinish
  /-- ZONE_FREE (R255): a write of OP 3 to FLC_ZONE_CMD. -/
  | zoneFree
  /-- ZONE_QUERY (R255): a write of OP 4 to FLC_ZONE_CMD. -/
  | zoneQuery
  /-- DISCOVERY_END (R334). -/
  | discoveryEnd
  /-- RESCAN (R334): a write of GO to LNK_RESCAN. -/
  | rescan
  /-- FRAME_EXPIRE (R338): the frame held longest for want of a route has waited 1 ms. -/
  | frameExpire
  /-- DEVICE_ISOLATED (R339): this device has had no route to device 0 for 1 ms. -/
  | deviceIsolated
  /-- HOST_LINK_RETRAIN (R352): a write of RETRAIN to HBR_CTL. -/
  | hostLinkRetrain
  /-- PERST (R348). -/
  | perst
  /-- REFCLK_LOST (R354). -/
  | refclkLost
  /-- PLL_LOCK_LOST (R354). -/
  | pllLockLost
  /-- THERMTRIP_RELEASE (R434): every diode reads below 105 °C. -/
  | thermtripRelease
  /-- STANDBY_ENTER (R370): a write of REQ 1 to PWR_CTL. -/
  | standbyEnter
  /-- STANDBY_EXIT (R370): a write of REQ 2. -/
  | standbyExit
  /-- STANDBY_EXIT_DONE (R370). -/
  | standbyExitDone
  /-- OFF_AON (R371): a write of REQ 3. -/
  | offAon
  /-- VIN_LOW (R373): VIN12 has been below 11.0 V for 50 µs. -/
  | vinLow
  /-- VIN_CRITICAL (R373): VIN12 has been below 10.2 V for 10 µs. -/
  | vinCritical
  /-- VAON_LOW (R494): VAON33 is below 2.9 V while VIN12 is present. -/
  | vaonLow
  /-- VNAND_LOW (R494): VNAND12 has been below 1.08 V for 10 µs while the retrieval die runs. -/
  | vnandLow
  /-- SNAPSHOT_DEVICE (R419): a write of GO with SCOPE 0 to TEL_SNAP. -/
  | snapshotDevice
  /-- SNAPSHOT_GROUP (R424): with SCOPE 2. -/
  | snapshotGroup
  /-- WAVE_TIMEOUT (R420). -/
  | waveTimeout
  /-- GROUP_WAVE_TIMEOUT (R424). -/
  | groupWaveTimeout
  /-- TEL_SAMPLE (R426): PERIOD control intervals have passed. -/
  | telSample
  /-- GET_ENDPOINT_ID (R440). -/
  | getEndpointId
  /-- GET_MCTP_VERSION_SUPPORT (R440). -/
  | getMctpVersionSupport
  /-- GET_MESSAGE_TYPE_SUPPORT (R440). -/
  | getMessageTypeSupport
  /-- GET_VENDOR_DEFINED_MSG_SUPPORT (R440). -/
  | getVendorDefinedMsgSupport
  /-- GET_INFO (R442). -/
  | getInfo
  /-- CRASH_CLEAR (R449). -/
  | crashClear
  /-- POWER_STANDBY (R447). -/
  | powerStandby
  /-- POWER_RUN (R447). -/
  | powerRun
  /-- POWER_OFF_AON (R447). -/
  | powerOffAon
  /-- ARA_READ (R446). -/
  | araRead
  /-- ALERT_REASSERT (R446): 10 ms have passed since the release. -/
  | alertReassert
  /-- TAP_RESET (R470). -/
  | tapReset
  /-- TAP_IDCODE (R471, R472). -/
  | tapIdcode
  /-- TAP_EXTEST (R471). -/
  | tapExtest
  /-- TAP_CLAMP (R471). -/
  | tapClamp
  /-- TAP_HIGHZ (R471). -/
  | tapHighz
  /-- TAP_BYPASS (R471). -/
  | tapBypass
  /-- FIELD_TEST_ENTER (R476): a write of ENTER to TST_CTL. -/
  | fieldTestEnter
  /-- REFCLK_PRESENT (R356). -/
  | refclkPresent
  /-- STANDBY_ENTRY_DONE (R370). -/
  | standbyEntryDone
  /-- PERST_DEASSERT (R348). -/
  | perstDeassert
  deriving DecidableEq, Repr

end Sys2Proof
end

