-- ==== Sys2Proof/Decode.lean ====
section
/-! DEFINITION. The command that a word spells.  The rows of spec/opcode_table.json give no bits: the device takes commands
and decodes no instruction words, so that no word spells a command. -/

namespace Sys2Proof

/-- The command that the `_nbits` bits `_w` spell: none, since no row of the table has an encoding.  DESIGN CHOICE, log entry 5. -/
def decodeTableWord (_nbits _w : Nat) : Option Instr := none

end Sys2Proof
end

