-- ==== Sys2Proof/Config.lean ====
section
/-! DEFINITION. What an implementation of the device fixes and the spec leaves open: opaque constants without a body, so
that no proof can see a value of them.  Those applied to a count give a fresh value for each count (`State.free`). -/

namespace Sys2Proof.Config

/-- The 16-bit number that the conversion unit of engine `e`, seeded by entropy `seed`, draws at its draw `n` (R53); only the low 16 bits
count.  DESIGN CHOICE, log entry 11. -/
opaque stochastic : (e seed n : Nat) → Nat

/-- The 24-bit uniform number of the sampling unit's draw `n` (R91); only the low 24 bits count.
DEDUCED, log entry 87; DESIGN CHOICE, log entry 11. -/
opaque sampleDraw : (n : Nat) → Nat

/-- The result of special function `f` for the FP32 input `x`, where R59 gives a bound and not the value.  DESIGN CHOICE, log entry 12. -/
opaque sfu : (f : Nat) → (x : Word) → Word

/-- The encoding that a NaN gets in an MX block of format code `c` whose elements have no NaN: the block's scale is 0xFF (R54, R55).
DEDUCED, log entry 85. -/
opaque nanElement : (c : Nat) → Nat

/-- Softmax arithmetic in FP32 (R81, R91): the probability given to the logit `x` when the largest is `m` and the kept
logits are `l`; the spec bounds no rounding of it.  DESIGN CHOICE, log entry 12. -/
opaque softmax : (x m : Word) → (l : List Word) → Word

/-- The logarithm of a token's probability, FP32, as the sampling unit computes it (R94). -/
opaque logProb : (x m : Word) → (l : List Word) → Word

/-- Whether a Falcon-1024 signature over `msg` verifies under a public key (R135); the spec gives no verifier.
DESIGN CHOICE, log entry 13. -/
opaque falconOk : (key msg sig : List (BitVec 8)) → Bool

/-- The `n`-th value that an instruction or event leaves open (a result that the spec does not state).  DESIGN CHOICE, log entry 10. -/
opaque freeWord : (n : Nat) → Word

/-- The `n`-th condition that the spec leaves to the implementation.  DESIGN CHOICE, log entry 10. -/
opaque freeBool : (n : Nat) → Bool

/-- Whether the boot flash takes the `n`-th defect-log record that a memory's own patching writes (R198, R394).
DESIGN CHOICE, log entry 20. -/
opaque logWriteOk : (n : Nat) → Bool

/-- Whether codebook `cb` of engine `e` holds E5M2 entries, and otherwise E4M3 (R45); the spec gives no place for the
setting.  DESIGN CHOICE, log entry 15. -/
opaque codebookE5M2 : (e cb : Nat) → Bool

/-- Element `j` of the attention output for the scores of the cached tokens, a head of dimension `hd` and the tokens' values (R81); the spec
gives softmax no rounding.  DESIGN CHOICE, log entry 66. -/
opaque attention : (scores : List Word) → (hd : Nat) → (vals : List (List Word)) → (j : Nat) → Word

/-- How many computed results of that softmax and accumulation have a NaN operand, and how many are NaN without one (R57, R81): the spec does
not say which computations they are.  DESIGN CHOICE, log entry 66. -/
opaque attentionNan : (scores : List Word) → (hd : Nat) → (vals : List (List Word)) → Nat × Nat

/-- The weight of an expert in FP32: softmax (`f` = 0) of the score `x` over the scores `l` (R78, R83). -/
opaque gateSoftmax : (x : Word) → (l : List Word) → Word

/-- The weight `x` normalised over the weights `l` of a row's chosen experts (R78). -/
opaque gateNorm : (x : Word) → (l : List Word) → Word

/-- Which of the engines of route `r` holds expert `x`, counted in the route's mask (R83).  DESIGN CHOICE, log entry 16. -/
opaque expertHome : (r x : Nat) → Nat

/-- The score that RERANK_SCORE gives a candidate `v` for the query `q` under metric `f` where no exact integer sum decides
it (R86): the spec gives the order of its additions no rule.  DESIGN CHOICE, log entry 17. -/
opaque rerankScore : (f : Nat) → (q v : List Word) → Word

/-- The 512 parity bytes of a codeword for its scrambled information part, and the information part that the decoder makes of a codeword
that software programmed unencoded with other parity (R240, R241, R262): the spec gives no parity-check matrix.
DESIGN CHOICE, log entry 18. -/
opaque ldpcParity : (info : List (BitVec 8)) → List (BitVec 8)
@[inherit_doc ldpcParity] opaque ldpcDecode : (codeword : List (BitVec 8)) → List (BitVec 8)

/-- The 16 bytes of a held walk context as the retrieval window shows them (R268, R293); the spec gives their layout no rule.
DESIGN CHOICE, log entry 19. -/
opaque walkContext : (node : Nat) → (score : Word) → (state : Nat) → List (BitVec 8)

/-- Word `w` of the 32 bytes that a torn defect-log record of number `seq` holds (R384, R394).  DESIGN CHOICE, log entry 19. -/
opaque tornRecord : (seq w : Nat) → BitVec 32

/-- The signer's signature of a report's first 256 bytes with the device's identity key (R463, R464), its length between 1 and
1,280; the spec gives no key.  DESIGN CHOICE, log entry 13. -/
opaque sign : (msg : List (BitVec 8)) → List (BitVec 8)

/-- Byte `i` of the identity public key, and of the manufacturing key's signature in the certificate (R463).
DESIGN CHOICE, log entry 13. -/
opaque identityKey : (i : Nat) → BitVec 8
@[inherit_doc identityKey] opaque makerSig : (i : Nat) → BitVec 8

/-- The length of the manufacturing key's signature; only values up to 1,280 count (R463). -/
opaque makerSigLen : Nat

/-- What a start finds of the package (R385 to R388) where the command that leads to it is a register write, which brings no finding
along.  DESIGN CHOICE, log entries 21 and 36. -/
opaque startFinds : (n : Nat) → Found

/-- The `n`-th bytes that a memory of the host, a flash package or another unit outside the device answers to an access that a
register write has begun.  DESIGN CHOICE, log entry 21. -/
opaque freeBytes : (n : Nat) → List (BitVec 8)

/-- How the codewords of a raw page read end (R262) when the read was begun by a write of FLC_RAW_CMD. -/
opaque rawUnits : (n : Nat) → List RawUnit

end Sys2Proof.Config
end

