-- ==== Sys2Proof/Machine/Table.lean ====
section
/-! DEFINITION. The operations over sparse tables (`Tab`) and over the bits and bytes of words. -/

namespace Sys2Proof

/-- The value a table holds for key `k`: the listed one, or the default. -/
def Tab.at {α : Type} [Inhabited α] : Tab α → Nat → α
  | [], _ => default
  | (j, v) :: t, k => if k = j then v else Tab.at t k

/-- `t` with `v` listed at key `k`, keys kept rising. -/
def Tab.insert {α : Type} : Tab α → Nat → α → Tab α
  | [], k, v => [(k, v)]
  | (j, u) :: t, k, v =>
    if k < j then (k, v) :: (j, u) :: t
    else if k = j then (k, v) :: t
    else (j, u) :: Tab.insert t k v

/-- `t` with the value `v` at key `k`; the default value is not listed. -/
def Tab.put {α : Type} [Inhabited α] [DecidableEq α] (t : Tab α) (k : Nat) (v : α) : Tab α :=
  if v = default then t.filter (fun e => e.1 ≠ k) else Tab.insert t k v

/-- The table's value at `k` changed by `f`. -/
def Tab.upd {α : Type} [Inhabited α] [DecidableEq α] (t : Tab α) (k : Nat) (f : α → α) : Tab α :=
  Tab.put t k (f (Tab.at t k))

/-- The canonical form: keys strictly rising and no default value listed. -/
def Tab.wf {α : Type} [Inhabited α] [DecidableEq α] : Tab α → Bool
  | [] => true
  | [(_, v)] => v ≠ default
  | (j, v) :: (k, u) :: t => decide (v ≠ default) && decide (j < k) && Tab.wf ((k, u) :: t)

/-- A field of a register: its lowest bit and its length (R6). -/
structure Fld where
  lo : Nat
  len : Nat
  deriving DecidableEq, Repr

/-- The value of a field of a word. -/
def Fld.get (f : Fld) (w : Word) : Nat := w.toNat / 2 ^ f.lo % 2 ^ f.len

/-- The word with a field set to `v` (its low bits, as many as the field has). -/
def Fld.put (f : Fld) (w : Word) (v : Nat) : Word :=
  BitVec.ofNat 32 (w.toNat % 2 ^ f.lo + 2 ^ f.lo * (v % 2 ^ f.len)
    + 2 ^ (f.lo + f.len) * (w.toNat / 2 ^ (f.lo + f.len)))

/-- Bits `[lo + len - 1 : lo]` of a number. -/
def bits (x lo len : Nat) : Nat := x / 2 ^ lo % 2 ^ len

/-- Bit `i` of a number. -/
def bitAt (x i : Nat) : Bool := x / 2 ^ i % 2 = 1

/-- 1 for true and 0 for false. -/
def b2n (b : Bool) : Nat := if b then 1 else 0

/-- `x` as a byte. -/
def byteOf (x : Nat) : Byte := BitVec.ofNat 8 x

/-- `x` as a word. -/
def wordOf (x : Nat) : Word := BitVec.ofNat 32 x

/-- The `n` bytes of `x`, the least significant first (R7). -/
def toBytes : (n x : Nat) → List Byte
  | 0, _ => []
  | n + 1, x => byteOf x :: toBytes n (x / 256)

/-- The number whose bytes, the least significant first, are `l` (R7). -/
def ofBytes : List Byte → Nat
  | [] => 0
  | b :: l => b.toNat + 256 * ofBytes l

/-- A count that saturates at `2 ^ n - 1`. -/
def satAdd (n a b : Nat) : Nat := min (a + b) (2 ^ n - 1)

/-- The smallest multiple of `m` at or above `x`. -/
def alignUp (x m : Nat) : Nat := (x + m - 1) / m * m

/-- `⌈x / m⌉`. -/
def ceilDiv (x m : Nat) : Nat := (x + m - 1) / m

/-- The numbers `a, a + 1, …, a + n - 1`. -/
def span (a n : Nat) : List Nat := (List.range n).map (a + ·)

/-- How many bits of the low `n` bits of `x` are set. -/
def popCount : (n x : Nat) → Nat
  | 0, _ => 0
  | n + 1, x => x % 2 + popCount n (x / 2)

/-- Element `i` of a list, or the default. -/
def nth {α : Type} [Inhabited α] : List α → Nat → α
  | [], _ => default
  | a :: _, 0 => a
  | _ :: l, n + 1 => nth l n

/-- A list with element `i` replaced. -/
def setNth {α : Type} : List α → Nat → α → List α
  | [], _, _ => []
  | _ :: l, 0, v => v :: l
  | a :: l, n + 1, v => a :: setNth l n v

/-- The chunks of `n` elements of a list, the last one possibly shorter; the fuel is the list's length. -/
def chunksAux {α : Type} (n : Nat) : Nat → List α → List (List α)
  | 0, _ => []
  | _ + 1, [] => []
  | f + 1, l => l.take n :: chunksAux n f (l.drop n)

/-- The chunks of `n` elements of a list, the last one possibly shorter. -/
def chunks {α : Type} (n : Nat) (l : List α) : List (List α) := chunksAux n l.length l

end Sys2Proof
end

