-- ==== Sys2Proof/Machine/Numeric.lean ====
section
/-! DEFINITION. Numbers: exact floating-point values, the formats of R38 and R39, rounding and conversion (R52 to R54), and
the FP32 operations of R58, each computed exactly and rounded once. -/

namespace Sys2Proof

/-- A floating-point value: NaN, an infinity, or (−1)^neg × m × 2^e, where m = 0 is a signed zero. -/
inductive FV where
  | nan
  | inf (neg : Bool)
  | num (neg : Bool) (m : Nat) (e : Int)
  deriving DecidableEq, Repr

/-- The special encodings a format has (R38): those of IEEE 754, only a NaN (E4M3), or none. -/
inductive Specials where
  | ieee | nanOnly | none
  deriving DecidableEq, Repr

/-- A floating-point format (R38). -/
structure FFmt where
  eb : Nat
  mb : Nat
  bias : Nat
  sp : Specials
  deriving DecidableEq, Repr

/-- The formats of R38. -/
def fp32 : FFmt := ⟨8, 23, 127, .ieee⟩
@[inherit_doc fp32] def bf16 : FFmt := ⟨8, 7, 127, .ieee⟩
@[inherit_doc fp32] def fp16 : FFmt := ⟨5, 10, 15, .ieee⟩
@[inherit_doc fp32] def e4m3 : FFmt := ⟨4, 3, 7, .nanOnly⟩
@[inherit_doc fp32] def e5m2 : FFmt := ⟨5, 2, 15, .ieee⟩
@[inherit_doc fp32] def e3m2 : FFmt := ⟨3, 2, 3, .none⟩
@[inherit_doc fp32] def e2m3 : FFmt := ⟨2, 3, 1, .none⟩
@[inherit_doc fp32] def e2m1 : FFmt := ⟨2, 1, 1, .none⟩

/-- The value that an encoding stands for (R38). -/
def FFmt.decode (f : FFmt) (x : Nat) : FV :=
  let neg := bitAt x (f.eb + f.mb)
  let e := bits x f.mb f.eb
  let m := bits x 0 f.mb
  let top := e = 2 ^ f.eb - 1
  if f.sp = .ieee ∧ top then (if m = 0 then .inf neg else .nan)
  else if f.sp = .nanOnly ∧ top ∧ m = 2 ^ f.mb - 1 then .nan
  else if e = 0 then .num neg m (1 - (f.bias : Int) - f.mb)
  else .num neg (2 ^ f.mb + m) ((e : Int) - f.bias - f.mb)

/-- The sign bit of a format's encodings. -/
def FFmt.sign (f : FFmt) (neg : Bool) : Nat := if neg then 2 ^ (f.eb + f.mb) else 0

/-- The canonical NaN of a format, where it has one (R39). -/
def FFmt.nanBits (f : FFmt) : Nat :=
  match f.sp with
  | .ieee => (2 ^ f.eb - 1) * 2 ^ f.mb + 2 ^ (f.mb - 1)
  | .nanOnly => 2 ^ (f.eb + f.mb) - 1
  | .none => 0

/-- The encoding of the largest finite magnitude of a format (R39). -/
def FFmt.maxBits (f : FFmt) : Nat :=
  match f.sp with
  | .ieee => (2 ^ f.eb - 1) * 2 ^ f.mb - 1
  | .nanOnly => 2 ^ (f.eb + f.mb) - 2
  | .none => 2 ^ (f.eb + f.mb) - 1

/-- How a conversion rounds (R52, R53): to nearest even, or stochastically with a 16-bit draw. -/
inductive Rnd where
  | rne
  | st (draw : Nat)
  deriving DecidableEq, Repr

/-- `num / den` rounded to an integer (R53). -/
def roundRat (num den : Nat) (r : Rnd) : Nat :=
  let q := num / den
  let t := num % den
  if t = 0 then q
  else match r with
    | .rne => if den < 2 * t ∨ (2 * t = den ∧ q % 2 = 1) then q + 1 else q
    | .st d => if 65536 ≤ t * 65536 / den + d % 65536 then q + 1 else q

/-- The integer significand `r` and exponent `q` to which `m × 2^e` (m not 0) rounds in a format, before any limit on the
exponent. -/
def FFmt.fit (f : FFmt) (m : Nat) (e : Int) (rd : Rnd) : Nat × Int :=
  let q := max (e + Nat.log2 m - f.mb) (1 - (f.bias : Int) - f.mb)
  let r := if q ≤ e then m * 2 ^ (e - q).toNat else roundRat m (2 ^ (q - e).toNat) rd
  if 2 ^ (f.mb + 1) ≤ r then (r / 2, q + 1) else (r, q)

/-- The exponent field of a significand and exponent that `fit` answers. -/
def FFmt.expField (f : FFmt) (r : Nat) (q : Int) : Nat := if r < 2 ^ f.mb then 0 else (q + f.mb + f.bias).toNat

/-- Whether a rounded magnitude exceeds the largest finite value of the format (R54). -/
def FFmt.over (f : FFmt) (r : Nat) (q : Int) : Bool :=
  decide (f.maxBits < f.expField r q * 2 ^ f.mb + r % 2 ^ f.mb)

/-- The encoding of (−1)^neg × m × 2^e rounded, and whether it overflows (R53, R54); the encoding of an overflow is to be
replaced by its caller. -/
def FFmt.encodeNum (f : FFmt) (neg : Bool) (m : Nat) (e : Int) (rd : Rnd) : Nat × Bool :=
  if m = 0 then (f.sign neg, false)
  else
    let x := f.fit m e rd
    (f.sign neg + f.expField x.1 x.2 * 2 ^ f.mb + x.1 % 2 ^ f.mb, f.over x.1 x.2)

/-- Whether rounding of `m × 2^e` to the format is inexact, so that a stochastic conversion consumes a draw (R53). -/
def FFmt.inexact (f : FFmt) (m : Nat) (e : Int) : Bool :=
  if m = 0 then false
  else
    let q := max (e + Nat.log2 m - f.mb) (1 - (f.bias : Int) - f.mb)
    decide (e < q) && decide (m % 2 ^ (q - e).toNat ≠ 0)

/-- What a conversion reports for the arithmetic counters (R57): nothing, an overflow saturated, or an overflow converted
to infinity or NaN. -/
inductive ConvEvt where
  | none | sat | special
  deriving DecidableEq, Repr

/-- Conversion of a value to a floating-point format under OVF (R54): the encoding and what it reports.  `sat` is true for
the saturating attribute. -/
def FFmt.convert (f : FFmt) (sat : Bool) (rd : Rnd) (x : FV) : Nat × ConvEvt :=
  match x with
  | .nan => (f.nanBits, .none)
  | .inf neg =>
    if sat || decide (f.sp = .none) then (f.sign neg + f.maxBits, .sat)
    else if f.sp = .nanOnly then (f.nanBits, .special)
    else (f.sign neg + (2 ^ f.eb - 1) * 2 ^ f.mb, .none)
  | .num neg m e =>
    let r := f.encodeNum neg m e rd
    if !r.2 then (r.1, .none)
    else if sat || decide (f.sp = .none) then (f.sign neg + f.maxBits, .sat)
    else if f.sp = .nanOnly then (f.nanBits, .special)
    else (f.sign neg + (2 ^ f.eb - 1) * 2 ^ f.mb, .special)

/-- The FP32 encoding of a value, rounded to nearest even; beyond the largest finite value it is an infinity (R50, R58). -/
def to32 (x : FV) : Word :=
  match x with
  | .nan => 0x7FC00000
  | .inf neg => wordOf (fp32.sign neg + 0x7F800000)
  | .num neg m e =>
    let r := fp32.encodeNum neg m e .rne
    if r.2 then wordOf (fp32.sign neg + 0x7F800000) else wordOf r.1

/-- The value of an FP32 word. -/
def of32 (w : Word) : FV := fp32.decode w.toNat

/-- Whether a value is NaN. -/
def FV.isNan : FV → Bool
  | .nan => true
  | _ => false

/-- The sign of a value (NaN: positive). -/
def FV.neg? : FV → Bool
  | .nan => false
  | .inf n => n
  | .num n _ _ => n

/-- Whether a value is a zero. -/
def FV.isZero : FV → Bool
  | .num _ 0 _ => true
  | _ => false

/-- The negated value. -/
def FV.negate : FV → FV
  | .nan => .nan
  | .inf n => .inf !n
  | .num n m e => .num (!n) m e

/-- The magnitude. -/
def FV.abs : FV → FV
  | .nan => .nan
  | .inf _ => .inf false
  | .num _ m e => .num false m e

/-- The exact sum (R51, R58): opposite infinities give NaN; a zero sum is −0 only when both terms are negative. -/
def FV.add (a b : FV) : FV :=
  match a, b with
  | .nan, _ => .nan
  | _, .nan => .nan
  | .inf x, .inf y => if x = y then .inf x else .nan
  | .inf x, .num _ _ _ => .inf x
  | .num _ _ _, .inf y => .inf y
  | .num x m e, .num y n f =>
    let g := min e f
    let m' := m * 2 ^ (e - g).toNat
    let n' := n * 2 ^ (f - g).toNat
    if x = y then .num x (m' + n') g
    else if m' = n' then .num false 0 g
    else if n' < m' then .num x (m' - n') g
    else .num y (n' - m') g

/-- The exact product (R51, R58): infinity times zero is NaN. -/
def FV.mul (a b : FV) : FV :=
  match a, b with
  | .nan, _ => .nan
  | _, .nan => .nan
  | .inf x, .inf y => .inf (x != y)
  | .inf x, .num y n _ => if n = 0 then .nan else .inf (x != y)
  | .num x m _, .inf y => if m = 0 then .nan else .inf (x != y)
  | .num x m e, .num y n f => .num (x != y) (m * n) (e + f)

/-- Whether `a < b`; false with NaN (R58); −0 equals +0. -/
def FV.lt (a b : FV) : Bool :=
  match a, b with
  | .nan, _ => false
  | _, .nan => false
  | .inf x, .inf y => x && !y
  | .inf x, .num _ _ _ => x
  | .num _ _ _, .inf y => !y
  | .num _ _ _, .num _ _ _ =>
    match FV.add a b.negate with
    | .num n m _ => n && decide (m ≠ 0)
    | _ => false

/-- Whether `a = b` as numbers; false with NaN (R58). -/
def FV.eq (a b : FV) : Bool := !a.isNan && !b.isNan && !FV.lt a b && !FV.lt b a

/-- The quotient, close enough that rounding it to FP32 gives the correctly rounded quotient (R58): 64 bits of quotient
and a last bit that is 1 when a remainder is left. -/
def FV.div (a b : FV) : FV :=
  match a, b with
  | .nan, _ => .nan
  | _, .nan => .nan
  | .inf _, .inf _ => .nan
  | .inf x, .num y _ _ => .inf (x != y)
  | .num x _ _, .inf y => .num (x != y) 0 0
  | .num x m e, .num y n f =>
    if n = 0 then (if m = 0 then .nan else .inf (x != y))
    else
      let k := 64 + Nat.log2 n
      let q := m * 2 ^ k / n
      .num (x != y) (2 * q + (if m * 2 ^ k % n = 0 then 0 else 1)) (e - f - k - 1)

/-- The integer square root, bit by bit from bit `n` down. -/
def isqrtFrom : (n x r : Nat) → Nat
  | 0, _, r => r
  | n + 1, x, r => let t := r + 2 ^ n; isqrtFrom n x (if t * t ≤ x then t else r)

/-- The square root, close enough that rounding it to FP32 gives the correctly rounded root (R58). -/
def FV.sqrt (a : FV) : FV :=
  match a with
  | .nan => .nan
  | .inf n => if n then .nan else .inf false
  | .num n m e =>
    if m = 0 then .num n 0 0
    else if n then .nan
    else
      let k : Nat := 64 + (e % 2).toNat
      let x := m * 2 ^ k
      let r := isqrtFrom (Nat.log2 x / 2 + 1) x 0
      .num false (2 * r + (if r * r = x then 0 else 1)) ((e - k) / 2 - 1)

/-- The smaller value under the rule of R58: a NaN yields the other operand, and −0 is less than +0. -/
def FV.min (a b : FV) : FV :=
  if a.isNan then b else if b.isNan then a
  else if FV.lt a b then a else if FV.lt b a then b else if a.neg? then a else b

/-- The larger value under the rule of R58. -/
def FV.max (a b : FV) : FV :=
  if a.isNan then b else if b.isNan then a
  else if FV.lt a b then b else if FV.lt b a then a else if a.neg? then b else a

/-- An FP32 operation on words: exact, then rounded once to nearest even (R58). -/
def f32add (a b : Word) : Word := to32 ((of32 a).add (of32 b))
@[inherit_doc f32add] def f32sub (a b : Word) : Word := to32 ((of32 a).add (of32 b).negate)
@[inherit_doc f32add] def f32mul (a b : Word) : Word := to32 ((of32 a).mul (of32 b))
@[inherit_doc f32add] def f32fma (a b c : Word) : Word := to32 (((of32 a).mul (of32 b)).add (of32 c))
@[inherit_doc f32add] def f32div (a b : Word) : Word := to32 ((of32 a).div (of32 b))
@[inherit_doc f32add] def f32sqrt (a : Word) : Word := to32 (of32 a).sqrt
@[inherit_doc f32add] def f32min (a b : Word) : Word := to32 ((of32 a).min (of32 b))
@[inherit_doc f32add] def f32max (a b : Word) : Word := to32 ((of32 a).max (of32 b))

/-- The value of an integer. -/
def FV.ofInt (z : Int) : FV := .num (decide (z < 0)) z.natAbs 0

/-- Two's complement of `n` bits as an integer. -/
def signed (n x : Nat) : Int := if 2 ^ (n - 1) ≤ x % 2 ^ n then (x % 2 ^ n : Int) - 2 ^ n else (x % 2 ^ n : Int)

/-- An integer in two's complement of `n` bits. -/
def unsigned (n : Nat) (z : Int) : Nat := (z % (2 ^ n : Int)).toNat

/-- Conversion of the exact quotient x ÷ (sm × 2^se) to an integer between `lo` and `hi` (R54, R56): rounded, then clamped.
A NaN gives 0.  Answers the integer, whether it was clamped, and whether rounding was inexact. -/
def toInt (lo hi : Int) (rd : Rnd) (x : FV) (sm : Nat) (se : Int) : Int × Bool × Bool :=
  match x with
  | .nan => (0, false, false)
  | .inf n => (if n then lo else hi, true, false)
  | .num n m e =>
    let d := e - se
    let num := if 0 ≤ d then m * 2 ^ d.toNat else m
    let den := if 0 ≤ d then sm else sm * 2 ^ (-d).toNat
    if den = 0 then (0, false, false)
    else
      let q : Int := roundRat num den rd
      let z := if n then -q else q
      if z < lo then (lo, true, decide (num % den ≠ 0))
      else if hi < z then (hi, true, decide (num % den ≠ 0))
      else (z, false, decide (num % den ≠ 0))

end Sys2Proof
end

