-- ==== Sys2Proof/Machine/Formats.lean ====
section
/-! DEFINITION. The operand formats of the engine (R41 to R45, R72): packing of elements, blocks and groups, their scales,
and the conversions that write them (R52 to R57). -/

namespace Sys2Proof

/-- The floating-point format of the elements of a format code (R72), where they are floating point. -/
def elemFmt (c : Nat) : Option FFmt :=
  if c = 0 then some fp32 else if c = 1 then some bf16 else if c = 2 then some fp16
  else if c = 3 then some e4m3 else if c = 4 then some e5m2 else if c = 5 then some e4m3
  else if c = 6 then some e5m2 else if c = 7 then some e3m2 else if c = 8 then some e2m3
  else if c = 9 then some e2m1 else none

/-- Whether a format code is an MX format (R41), a grouped format (R43 to R45), ternary, or CB2. -/
def isMx (c : Nat) : Bool := 5 ≤ c && c ≤ 9
@[inherit_doc isMx] def isGrouped (c : Nat) : Bool := 0xA ≤ c && c ≤ 0xE
@[inherit_doc isMx] def isTernary (c : Nat) : Bool := c = 0xC
@[inherit_doc isMx] def isCb2 (c : Nat) : Bool := c = 0xD || c = 0xE

/-- The bits of one element of a format code; ternary and CB2 are packed otherwise (R44, R45). -/
def elemBits (c : Nat) : Nat :=
  if c = 0 ∨ c = 0xF then 32 else if c = 1 ∨ c = 2 then 16
  else if c = 7 ∨ c = 8 then 6 else if c = 9 ∨ c = 0xB then 4 else 8

/-- The elements that share a scale: 32 for MX (R41), G for the grouped formats (R43 to R45), 1 where there is none. -/
def scaleGroup (c g : Nat) : Nat := if isMx c then 32 else if isGrouped c then max g 1 else 1

/-- The bytes of one scale: an E8M0 byte, an FP16 half-word, or none. -/
def scaleBytes (c : Nat) : Nat := if isMx c then 1 else if isGrouped c then 2 else 0

/-- The bytes of a run of ternary weights of `run` = 1,024 or 256 elements (R44). -/
def runBytes (run : Nat) : Nat := ceilDiv run 5

/-- The elements to which a row or column of a format is padded (R526): whole blocks, groups, runs or indices. -/
def padUnit (c g run : Nat) : Nat :=
  if isTernary c then run else if isCb2 c then 8 else if isMx c then 32
  else if c = 0xA ∨ c = 0xB then max g 1 else 1

/-- The bytes of one row or column of `k` elements (R44, R45, R526). -/
def rowBytes (c g run k : Nat) : Nat :=
  let p := alignUp k (padUnit c g run)
  if isTernary c then p / run * runBytes run else if isCb2 c then p / 8 * 2 else ceilDiv (p * elemBits c) 8

/-- The bytes of the scales of one row or column of `k` elements (R526). -/
def rowScales (c g k : Nat) : Nat := ceilDiv k (scaleGroup c g) * scaleBytes c

/-- Bit field `[lo + len - 1 : lo]` of a byte string, little-endian (R7, R41). -/
def bitField (l : List Byte) (lo len : Nat) : Nat := bits (ofBytes ((l.drop (lo / 8)).take 5)) (lo % 8) len

/-- The encoding of element `i` of a row (R41): elements packed from the low bits up. -/
def elemCode (c : Nat) (l : List Byte) (i : Nat) : Nat := bitField l (i * elemBits c) (elemBits c)

/-- The digit of ternary element `i` of a row of runs of `run` (R44); a malformed byte stands for zero weights. -/
def ternaryAt (l : List Byte) (run i : Nat) : Int :=
  let b := (nth l (i / run * runBytes run + i % run / 5)).toNat
  if 243 ≤ b then 0 else (b / 3 ^ (i % run % 5) % 3 : Int) - 1

/-- The malformed bytes of a ternary row (R44). -/
def malformed (l : List Byte) : Nat := (l.filter (fun b => 243 ≤ b.toNat)).length

/-- The value of an E8M0 scale (R38, R42). -/
def e8m0 (x : Nat) : FV := if x = 255 then .nan else .num false 1 ((x : Int) - 127)

/-- The scale of block or group `j` of a row (R41, R43); 1 where the format has none. -/
def scaleAt (c : Nat) (l : List Byte) (j : Nat) : FV :=
  if isMx c then e8m0 (nth l j).toNat
  else if isGrouped c then fp16.decode ((nth l (2 * j)).toNat + 256 * (nth l (2 * j + 1)).toNat)
  else .num false 1 0

/-- Element `i` of a row without its scale (R41 to R44); CB2 indices are decoded by the engine. -/
def elemAt (c run : Nat) (l : List Byte) (i : Nat) : FV :=
  match elemFmt c with
  | some f => f.decode (elemCode c l i)
  | none =>
    if c = 0xA ∨ c = 0x10 then FV.ofInt (signed 8 (elemCode c l i))
    else if c = 0xB then FV.ofInt (signed 4 (elemCode c l i))
    else if isTernary c then FV.ofInt (ternaryAt l run i)
    else if c = 0xF then FV.ofInt (signed 32 (elemCode c l i))
    else .nan

/-- The value of element `i` of a row: its scale times the element (R41, R43). -/
def valueAt (c g run : Nat) (l sc : List Byte) (i : Nat) : FV :=
  (scaleAt c sc (i / scaleGroup c g)).mul (elemAt c run l i)

/-! ### Conversion -/

/-- The five arithmetic counters of R57, and the draws taken (R53). -/
structure Arith where
  sat : Nat
  spec : Nat
  nanOut : Nat
  nanIn : Nat
  malf : Nat
  draws : Nat
  deriving DecidableEq, Repr, Inhabited

/-- Adds what one conversion reports (R57).  DEDUCED, log entry 85. -/
def Arith.evt (a : Arith) : ConvEvt → Arith
  | .none => a
  | .sat => { a with sat := a.sat + 1 }
  | .special => { a with spec := a.spec + 1 }

/-- Counts a computed result for the third and fourth counters (R57): `nanIn` when an operand is NaN, else a NaN result. -/
def Arith.computed (a : Arith) (anyNan : Bool) (res : FV) : Arith :=
  if anyNan then { a with nanIn := a.nanIn + 1 }
  else if res.isNan then { a with nanOut := a.nanOut + 1 } else a

/-- Positive zero. -/
def fvZero : FV := .num false 0 0

/-- Whether a value is neither NaN nor an infinity. -/
def FV.finite : FV → Bool
  | .num _ _ _ => true
  | _ => false

/-- The rounding of one conversion (R52, R53): a stochastic one takes the next draw of engine `draw`. -/
def rndOf (attr : Nat) (draw : Nat → Nat) (a : Arith) : Rnd := if bits attr 0 2 = 1 then .st (draw a.draws) else .rne

/-- Converts one value to the elements of a format under ATTR (R52 to R54): the encoding and the counters, the conversion unit's own
computed result among them (R57), which is NaN where the element's block is.  DEDUCED, log entry 85. -/
def convIn (block : FV) (f : FFmt) (attr : Nat) (draw : Nat → Nat) (a : Arith) (x : FV) : Nat × Arith :=
  let r := f.convert (!bitAt attr 2) (rndOf attr draw a) x
  let used := bits attr 0 2 = 1 && (match x with | .num _ m e => f.inexact m e | _ => false)
  (r.1, { ((a.evt r.2).computed (x.isNan || block.isNan) (if block.finite then f.decode r.1 else .nan)) with draws := a.draws + b2n used })

/-- Converts one value to a plain format under ATTR. -/
def convElem (f : FFmt) (attr : Nat) (draw : Nat → Nat) (a : Arith) (x : FV) : Nat × Arith := convIn fvZero f attr draw a x

/-- Converts the quotient of a value and a group's scale to an integer under ATTR (R54, R56). -/
def convInt (lo hi : Int) (attr : Nat) (draw : Nat → Nat) (a : Arith) (x : FV) (scale : FV) : Int × Arith :=
  match scale with
  | .num _ sm se =>
    let r := toInt lo hi (rndOf attr draw a) x sm se
    (r.1, { (a.computed x.isNan fvZero) with sat := a.sat + b2n r.2.1, draws := a.draws + b2n (decide (bits attr 0 2 = 1) && r.2.2) })
  | _ => (0, a.computed x.isNan fvZero)

/-- Counts the elements of a group whose scale is NaN (R56, R57): each is a NaN result, of a NaN operand where the group has one.
DEDUCED, log entry 85. -/
def Arith.nanGroup (a : Arith) (l : List FV) : Arith := l.foldl (fun a _ => a.computed (l.any FV.isNan) .nan) a

/-- The largest magnitude of a list of values; NaN when one is NaN (R55, R56). -/
def amax (l : List FV) : FV :=
  if l.any FV.isNan then .nan else l.foldl (fun m x => if FV.lt m x.abs then x.abs else m) (.num false 0 0)

/-- floor(log2 x) of a positive value m × 2^e. -/
def floorLog2 (m : Nat) (e : Int) : Int := e + Nat.log2 m

/-- emax of an MX element format (R55). -/
def mxEmax (c : Nat) : Int := if c = 5 then 8 else if c = 6 then 15 else if c = 7 then 4 else 2

/-- The scale byte that a block with largest magnitude `x` gets (R55). -/
def mxScale (c : Nat) (x : FV) : Nat :=
  match x with
  | .num _ m e => if m = 0 then 0x7F else (max (-127) (min 127 (floorLog2 m e - mxEmax c)) + 127).toNat
  | _ => 0xFF

/-- Converts one block of 32 values to an MX format (R54, R55): the element encodings, the scale byte, the counters.  An
infinite or NaN amax gives the scale 0xFF, and each element is its value over 2^(scale − 127) all the same; the encoding of a NaN
in a format without one is open. -/
def convBlock (c attr : Nat) (draw : Nat → Nat) (a : Arith) (l : List FV) : List Nat × Nat × Arith :=
  let f := (elemFmt c).getD e2m1
  let sc := mxScale c (amax l)
  let r := l.foldl (fun (acc : List Nat × Arith) x =>
    let y : FV := match x with | .num n m e => .num n m (e - ((sc : Int) - 127)) | z => z
    let z := convIn (amax l) f attr draw acc.2 y
    (acc.1 ++ [if x.isNan && decide (f.sp = .none) then Config.nanElement c else z.1], z.2)) ([], a)
  (r.1, sc, r.2)

/-- The FP16 scale that a group with largest magnitude `x` gets, for a divisor of 127, 7 or 1 (R56). -/
def groupScale (div : Nat) (x : FV) : Nat :=
  match x with
  | .num _ m _ =>
    if m = 0 then 0x3C00
    else
      let q := (fp16.convert true .rne (x.div (.num false div 0))).1
      if q = 0 then 1 else q
  | _ => 0x7E00

/-- The range of an integer format (R43, R44, R56): low, high and the divisor of its scale. -/
def intRange (c : Nat) : Int × Int × Nat :=
  if c = 0xA then (-128, 127, 127) else if c = 0xB then (-8, 7, 7) else (-1, 1, 1)

/-- Converts one group of values to INT8, INT4 or ternary (R54, R56): the integers, the FP16 scale, the counters. -/
def convGroup (c attr : Nat) (draw : Nat → Nat) (a : Arith) (l : List FV) : List Int × Nat × Arith :=
  let rg := intRange c
  let x := amax l
  let sc := groupScale rg.2.2 x
  match x with
  | .num _ m _ =>
    if m = 0 then (l.map (fun _ => 0), sc, a)
    else
      let r := l.foldl (fun (acc : List Int × Arith) y =>
        let z := convInt rg.1 rg.2.1 attr draw acc.2 y (fp16.decode sc)
        (acc.1 ++ [z.1], z.2)) ([], a)
      (r.1, sc, r.2)
  | _ => (l.map (fun _ => 0), sc, a.nanGroup l)

/-- Packs encodings of `w` bits, the first in the low bits (R41). -/
def packBits (w : Nat) (l : List Nat) : Nat := l.foldr (fun x n => x % 2 ^ w + 2 ^ w * n) 0

/-- The bytes of packed encodings. -/
def packBytes (w : Nat) (l : List Nat) : List Byte := toBytes (ceilDiv (l.length * w) 8) (packBits w l)

/-- The byte of five ternary weights (R44); missing weights are 0. -/
def packTernary (l : List Int) : Byte :=
  byteOf ((List.range 5).foldl (fun n j => n + 3 ^ j * ((l[j]?).getD 0 + 1).toNat) 0)

/-- The bytes of a run of ternary weights (R44). -/
def packRun (run : Nat) (l : List Int) : List Byte :=
  let p := l ++ List.replicate (run - l.length) 0
  (chunks 5 p).map packTernary

/-- A list completed to a multiple of `u` elements with `z`. -/
def padTo {α : Type} (u : Nat) (z : α) (l : List α) : List α := l ++ List.replicate (alignUp l.length u - l.length) z

/-- Converts a row of results to format `c` under ATTR (R52 to R57, R526): the element bytes, the scale bytes, the
counters.  FP32 results are written as they are. -/
def convRow (c g run attr : Nat) (draw : Nat → Nat) (a : Arith) (l : List FV) : List Byte × List Byte × Arith :=
  if c = 0 then (l.flatMap (fun x => toBytes 4 (to32 x).toNat), [], a)
  else if isMx c then
    let r := (chunks 32 l).foldl (fun (acc : List Nat × List Byte × Arith) b =>
      let z := convBlock c attr draw acc.2.2 b
      (acc.1 ++ z.1, acc.2.1 ++ [byteOf z.2.1], z.2.2)) ([], [], a)
    (packBytes (elemBits c) (padTo 32 0 r.1), r.2.1, r.2.2)
  else if c = 0xA ∨ c = 0xB ∨ isTernary c then
    let r := (chunks (max g 1) l).foldl (fun (acc : List Int × List Byte × Arith) b =>
      let z := convGroup c attr draw acc.2.2 b
      (acc.1 ++ z.1, acc.2.1 ++ toBytes 2 z.2.1, z.2.2)) ([], [], a)
    if isTernary c then ((chunks run r.1).flatMap (packRun run), r.2.1, r.2.2)
    else (packBytes (elemBits c) ((padTo (max g 1) 0 r.1).map (unsigned (elemBits c))), r.2.1, r.2.2)
  else if c = 0xF then
    let r := l.foldl (fun (acc : List Nat × Arith) x =>
      let z := convInt (-2147483648) 2147483647 attr draw acc.2 x (.num false 1 0)
      (acc.1 ++ [unsigned 32 z.1], z.2)) ([], a)
    (packBytes 32 r.1, [], r.2)
  else if c = 0x10 then
    let r := l.foldl (fun (acc : List Nat × Arith) x =>
      let z := convInt (-128) 127 attr draw acc.2 x (.num false 1 0)
      (acc.1 ++ [unsigned 8 z.1], z.2)) ([], a)
    (packBytes 8 r.1, [], r.2)
  else
    let f := (elemFmt c).getD fp32
    let r := l.foldl (fun (acc : List Nat × Arith) x =>
      let z := convElem f attr draw acc.2 x
      (acc.1 ++ [z.1], z.2)) ([], a)
    (packBytes (elemBits c) r.1, [], r.2)

end Sys2Proof
end

