-- ==== Sys2Proof/Machine/Ecc.lean ====
section
/-! DEFINITION. The check codes and the manifest of file 07_memory_protection.md: the byte-lane code (R192), the word code
(R193), what a syndrome means (R194), and CRC-32C (R204). -/

namespace Sys2Proof

/-- The check-matrix columns of a byte's data bits (R192). -/
def byteCols : List Nat := [0x07, 0x0B, 0x0D, 0x0E, 0x13, 0x15, 0x1A, 0x1C]

/-- The check-matrix columns of a word's data bits (R193). -/
def wordCols : List Nat :=
  [0x0B, 0x13, 0x23, 0x43, 0x0D, 0x15, 0x25, 0x45, 0x19, 0x29, 0x31, 0x51, 0x61, 0x0E, 0x16, 0x26]
  ++ [0x46, 0x1A, 0x2A, 0x4A, 0x32, 0x52, 0x62, 0x1C, 0x2C, 0x4C, 0x34, 0x54, 0x64, 0x58, 0x68, 0x70]

/-- The check bits of data `x` under the columns `cols`: the exclusive-or of the columns of its set bits. -/
def checkBits : List Nat → Nat → Nat
  | [], _ => 0
  | c :: cs, x => if x % 2 = 1 then c ^^^ checkBits cs (x / 2) else checkBits cs (x / 2)

/-- The check bits of a byte (R192). -/
def byteCheck (b : Nat) : Nat := checkBits byteCols b

/-- The check bits of a word (R193). -/
def wordCheck (w : Nat) : Nat := checkBits wordCols w

/-- The place of `v` in a list. -/
def indexIn : List Nat → Nat → Option Nat
  | [], _ => none
  | a :: l, v => if a = v then some 0 else (indexIn l v).map (· + 1)

/-- What a syndrome says (R194). -/
inductive Syndrome where
  | clean
  | checkBit (j : Nat)
  | dataBit (i : Nat)
  | poison
  | bad
  deriving DecidableEq, Repr

/-- The outcome of syndrome `x` in a code with data columns `cols`, `n` check bits and poison pattern `p` (R194). -/
def syndrome (cols : List Nat) (n p x : Nat) : Syndrome :=
  if x = 0 then .clean
  else match indexIn ((List.range n).map (2 ^ ·)) x with
    | some j => .checkBit j
    | none => match indexIn cols x with
      | some i => .dataBit i
      | none => if x = p then .poison else .bad

/-- The poison pattern of the byte-lane code (R194). -/
def bytePoison : Nat := 0x19

/-- The poison pattern of the word code (R194). -/
def wordPoison : Nat := 0x49

/-- A byte-lane syndrome (R194). -/
def byteSyndrome (x : Nat) : Syndrome := syndrome byteCols 5 bytePoison x

/-- A word-code syndrome (R194). -/
def wordSyndrome (x : Nat) : Syndrome := syndrome wordCols 7 wordPoison x

/-- One bit of the reflected CRC-32C (R204). -/
def crcBit (c : Nat) : Nat := if c % 2 = 1 then (c / 2) ^^^ 0x82F63B78 else c / 2

/-- One byte of the CRC-32C (R204). -/
def crcStep (c : Nat) (b : Byte) : Nat :=
  crcBit (crcBit (crcBit (crcBit (crcBit (crcBit (crcBit (crcBit (c ^^^ b.toNat))))))))

/-- The CRC-32C register after some bytes: `l.foldl crcStep c`, written so that evaluation has the register's value before it goes on
to the next byte. -/
def crcFold : List Byte → Nat → Nat
  | [], c => c
  | b :: l, 0 => crcFold l (crcStep 0 b)
  | b :: l, n + 1 => crcFold l (crcStep (n + 1) b)

/-- The CRC-32C of some bytes (R204). -/
def crc32c (l : List Byte) : Word := wordOf (crcFold l 0xFFFFFFFF ^^^ 0xFFFFFFFF)

/-- The manifest of a block of 256 zero bytes, which the initial fill stores (R208). -/
def zeroManifest : Word := 0xB872B190

end Sys2Proof
end

