-- ==== Sys2Proof/Machine/Fields.lean ====
section
/-! DEFINITION. The fields of the device's registers, by register and field name, from the field tables of the chapters
(R99, R129, R158, R188 to R190, R214, R233, R264, R295, R318, R351, R352, R375, R376, R398, R417, R437, R438, R454,
R468, R481 and R512). -/

namespace Sys2Proof.Machine.F

abbrev GLB_ID_PART : Fld := ⟨0, 16⟩
abbrev GLB_ID_STEPPING : Fld := ⟨16, 8⟩
abbrev GLB_FEATURE_LEVEL : Fld := ⟨0, 8⟩
abbrev GLB_FEATURE_HUB_MIN : Fld := ⟨8, 8⟩
abbrev GLB_FEATURE_NO_HALF : Fld := ⟨16, 1⟩
abbrev GLB_FEATURE_NO_RETRAIN : Fld := ⟨17, 1⟩
abbrev GLB_FEATURE_FINAL : Fld := ⟨18, 1⟩
abbrev GLB_STATUS_LEVEL : Fld := ⟨0, 3⟩
abbrev GLB_STATUS_MOUNTED : Fld := ⟨3, 1⟩
abbrev GLB_STATUS_STAGE : Fld := ⟨4, 4⟩
abbrev GLB_STATUS_TIER : Fld := ⟨8, 2⟩
abbrev GLB_STATUS_LOADED : Fld := ⟨10, 1⟩
abbrev GLB_STATUS_FAULT : Fld := ⟨11, 1⟩
abbrev CLK_STAT_PLL_LOCK : Fld := ⟨0, 1⟩
abbrev CLK_STAT_REF_OK : Fld := ⟨1, 1⟩
abbrev CLK_STAT_AON_RC : Fld := ⟨2, 1⟩
abbrev CLK_CHG_COUNT : Fld := ⟨0, 32⟩
abbrev CLK_EVT_REF_LOST : Fld := ⟨0, 1⟩
abbrev CLK_HALF_E_APPLIED : Fld := ⟨0, 2⟩
abbrev CLK_HALF_W_APPLIED : Fld := ⟨2, 2⟩
abbrev CLK_HALF_E_PM : Fld := ⟨4, 2⟩
abbrev CLK_HALF_W_PM : Fld := ⟨6, 2⟩
abbrev CLK_HALF_E_THM : Fld := ⟨8, 2⟩
abbrev CLK_HALF_W_THM : Fld := ⟨10, 2⟩
abbrev CLK_HALF_E_AVS : Fld := ⟨12, 2⟩
abbrev CLK_HALF_W_AVS : Fld := ⟨14, 2⟩
abbrev CLK_HALF_E_RAMP : Fld := ⟨16, 1⟩
abbrev CLK_HALF_W_RAMP : Fld := ⟨17, 1⟩
abbrev CLK_MAX_E_MAX : Fld := ⟨0, 2⟩
abbrev CLK_MAX_W_MAX : Fld := ⟨2, 2⟩
abbrev PWR_STATE_STATE : Fld := ⟨0, 3⟩
abbrev PWR_STATE_REASON : Fld := ⟨4, 3⟩
abbrev PWR_CTL_REQ : Fld := ⟨0, 2⟩
abbrev PWR_CAP_CAP_W : Fld := ⟨0, 11⟩
abbrev PWR_CAP_PEAK_W : Fld := ⟨16, 11⟩
abbrev PWR_CEIL_EXC_INT : Fld := ⟨0, 9⟩
abbrev PWR_CEIL_HYST_W : Fld := ⟨16, 7⟩
abbrev PWR_STAT_CAPPING : Fld := ⟨0, 1⟩
abbrev PWR_STAT_EXHAUSTED : Fld := ⟨1, 1⟩
abbrev PWR_STAT_TIMER : Fld := ⟨2, 9⟩
abbrev PWR_PKG_POWER_W : Fld := ⟨0, 12⟩
abbrev PWR_PKG_MAX_W : Fld := ⟨16, 12⟩
abbrev PWR_VIN_VOLT : Fld := ⟨0, 16⟩
abbrev PWR_VIN_CURRENT : Fld := ⟨16, 16⟩
abbrev PWR_ENERGY_MJ : Fld := ⟨0, 32⟩
abbrev PWR_RAIL_SEL_RAIL : Fld := ⟨0, 7⟩
abbrev PWR_RAIL_V_SETPT : Fld := ⟨0, 12⟩
abbrev PWR_RAIL_V_MEAS : Fld := ⟨16, 12⟩
abbrev PWR_RAIL_I_CURRENT : Fld := ⟨0, 16⟩
abbrev PWR_RAIL_I_POWER : Fld := ⟨16, 16⟩
abbrev PWR_RAIL_E_MJ : Fld := ⟨0, 32⟩
abbrev PWR_RAIL_FLT_UV : Fld := ⟨0, 1⟩
abbrev PWR_RAIL_FLT_OV : Fld := ⟨1, 1⟩
abbrev PWR_RAIL_FLT_OC : Fld := ⟨2, 1⟩
abbrev PWR_RAIL_FLT_OT : Fld := ⟨3, 1⟩
abbrev PWR_RAIL_FLT_OFF : Fld := ⟨4, 1⟩
abbrev PWR_DROOP_STRETCH : Fld := ⟨0, 32⟩
abbrev PWR_IDLE_IDLE_CYC : Fld := ⟨0, 16⟩
abbrev PWR_DIE_CMD_DIE : Fld := ⟨0, 4⟩
abbrev PWR_DIE_CMD_OP : Fld := ⟨4, 2⟩
abbrev PWR_DIE_STAT_DOZE : Fld := ⟨0, 8⟩
abbrev PWR_DIE_STAT_BUSY : Fld := ⟨8, 8⟩
abbrev PWR_DIE_STAT_RESULT : Fld := ⟨16, 4⟩
abbrev PWR_DIE_STAT_DIE : Fld := ⟨20, 4⟩
abbrev PWR_EVT_CAP : Fld := ⟨0, 1⟩
abbrev PWR_EVT_EXHAUSTED : Fld := ⟨1, 1⟩
abbrev PWR_EVT_RAIL_FLT : Fld := ⟨2, 1⟩
abbrev PWR_EVT_STATE_DONE : Fld := ⟨3, 1⟩
abbrev PWR_EVT_AVS_LIMIT : Fld := ⟨4, 1⟩
abbrev PWR_EVT_VIN_LOW : Fld := ⟨5, 1⟩
abbrev PWR_AVS_E_GRADE : Fld := ⟨0, 2⟩
abbrev PWR_AVS_W_GRADE : Fld := ⟨2, 2⟩
abbrev PWR_AVS_E_LIMIT : Fld := ⟨4, 1⟩
abbrev PWR_AVS_W_LIMIT : Fld := ⟨5, 1⟩
abbrev THM_CTL_WARN : Fld := ⟨0, 8⟩
abbrev THM_CTL_THROT : Fld := ⟨8, 8⟩
abbrev THM_CTL_HYST : Fld := ⟨16, 4⟩
abbrev THM_CTL_SHUT : Fld := ⟨24, 8⟩
abbrev THM_SEL_DIE : Fld := ⟨0, 5⟩
abbrev THM_SEL_NODE : Fld := ⟨5, 4⟩
abbrev THM_NODE_TEMP : Fld := ⟨0, 12⟩
abbrev THM_NODE_POWER : Fld := ⟨16, 12⟩
abbrev THM_DIE_BOUND : Fld := ⟨0, 12⟩
abbrev THM_DIE_DIVERGED : Fld := ⟨12, 1⟩
abbrev THM_DIE_FROZEN : Fld := ⟨13, 1⟩
abbrev THM_WARN_DIES : Fld := ⟨0, 20⟩
abbrev THM_THROT_DIES : Fld := ⟨0, 20⟩
abbrev THM_HOT_DIE : Fld := ⟨0, 5⟩
abbrev THM_HOT_TEMP : Fld := ⟨8, 12⟩
abbrev THM_MAX_TEMP : Fld := ⟨0, 12⟩
abbrev THM_EVT_WARN_ON : Fld := ⟨0, 1⟩
abbrev THM_EVT_WARN_OFF : Fld := ⟨1, 1⟩
abbrev THM_EVT_THROT_ON : Fld := ⟨2, 1⟩
abbrev THM_EVT_THROT_OFF : Fld := ⟨3, 1⟩
abbrev THM_EVT_DIODE : Fld := ⟨4, 1⟩
abbrev THM_EVT_RAIL_LIMIT : Fld := ⟨5, 1⟩
abbrev THM_DIODE_TEMP : Fld := ⟨0, 12⟩
abbrev THM_DIODE_FAIL : Fld := ⟨12, 1⟩
abbrev BUP_CTL_SYS_WARM : Fld := ⟨0, 1⟩
abbrev BUP_CTL_MEM_KEEP : Fld := ⟨1, 1⟩
abbrev BUP_RST_KIND : Fld := ⟨0, 2⟩
abbrev BUP_RST_KEY : Fld := ⟨16, 16⟩
abbrev BUP_STAT_STAGE : Fld := ⟨0, 4⟩
abbrev BUP_STAT_LEVEL : Fld := ⟨4, 3⟩
abbrev BUP_STAT_MOUNTED : Fld := ⟨7, 1⟩
abbrev BUP_STAT_PATH : Fld := ⟨8, 2⟩
abbrev BUP_STAT_KEPT : Fld := ⟨10, 1⟩
abbrev BUP_STAT_LOG_DAMAGED : Fld := ⟨11, 1⟩
abbrev BUP_STAT_LOG_FULL : Fld := ⟨12, 1⟩
abbrev BUP_STAT_LOG_FAIL : Fld := ⟨13, 1⟩
abbrev BUP_STAT_FLASH_BAD : Fld := ⟨14, 1⟩
abbrev BUP_CAUSE_KIND : Fld := ⟨0, 2⟩
abbrev BUP_CAUSE_SRC : Fld := ⟨4, 4⟩
abbrev BUP_CAUSE_SHUTDOWN : Fld := ⟨8, 4⟩
abbrev BUP_CAUSE_DOWNGRADE : Fld := ⟨12, 4⟩
abbrev BUP_FENCED_DIES : Fld := ⟨0, 20⟩
abbrev BUP_DIE_SEL_DIE : Fld := ⟨0, 5⟩
abbrev BUP_DIE_INFO_CAUSE : Fld := ⟨0, 4⟩
abbrev BUP_DIE_INFO_STEPPING : Fld := ⟨4, 8⟩
abbrev BUP_DIE_INFO_FEATURE : Fld := ⟨12, 8⟩
abbrev BUP_DIE_INFO_FENCED : Fld := ⟨20, 1⟩
abbrev BUP_LOG_CNT_RECORDS : Fld := ⟨0, 18⟩
abbrev BUP_LOG_SEL_INDEX : Fld := ⟨0, 17⟩
abbrev BUP_RCV_LEN_LEN : Fld := ⟨0, 32⟩
abbrev BUP_RCV_GO_GO : Fld := ⟨0, 1⟩
abbrev BUP_RCV_GO_PROGRAM : Fld := ⟨1, 1⟩
abbrev BUP_RCV_STAT_STATE : Fld := ⟨0, 3⟩
abbrev BUP_RCV_STAT_CODE : Fld := ⟨3, 8⟩
abbrev BUP_RCV_STAT_PROG_FAIL : Fld := ⟨11, 1⟩
abbrev BUP_BOOT_ID_IMAGE_ID : Fld := ⟨0, 32⟩
abbrev BUP_TS_CYCLES : Fld := ⟨0, 32⟩
abbrev BUP_LOG_DATA_WORD : Fld := ⟨0, 32⟩
abbrev CFG_CTL_EXPERT : Fld := ⟨0, 1⟩
abbrev CFG_LOAD_ADDR_LO_ADDR : Fld := ⟨0, 32⟩
abbrev CFG_LOAD_ADDR_HI_ADDR : Fld := ⟨0, 16⟩
abbrev CFG_LOAD_ADDR_HI_HOST : Fld := ⟨16, 1⟩
abbrev CFG_LOAD_LEN_LEN : Fld := ⟨0, 32⟩
abbrev CFG_LOAD_GO_GO : Fld := ⟨0, 1⟩
abbrev CFG_LOAD_STAT_STATE : Fld := ⟨0, 4⟩
abbrev CFG_LOAD_STAT_CODE : Fld := ⟨4, 8⟩
abbrev CFG_LOAD_STAT_ERR : Fld := ⟨12, 4⟩
abbrev CFG_LOAD_STAT_RECORD : Fld := ⟨16, 16⟩
abbrev CFG_LOAD_SPAN_SPAN : Fld := ⟨0, 12⟩
abbrev CFG_LOAD_ID_IMAGE_ID : Fld := ⟨0, 32⟩
abbrev CFG_SPAN_SEL_INDEX : Fld := ⟨0, 12⟩
abbrev CFG_SPAN_STAT_STATE : Fld := ⟨0, 3⟩
abbrev CFG_SPAN_STAT_DEGRADED : Fld := ⟨3, 1⟩
abbrev CFG_SPAN_STAT_GROUP : Fld := ⟨4, 1⟩
abbrev CFG_SPAN_STAT_EXPERT : Fld := ⟨5, 1⟩
abbrev CFG_SPAN_STAT_PARENT : Fld := ⟨16, 12⟩
abbrev CFG_SPAN_CMD_INDEX : Fld := ⟨0, 12⟩
abbrev CFG_SPAN_CMD_CMD : Fld := ⟨12, 4⟩
abbrev CFG_SPAN_CMD_ARG : Fld := ⟨16, 2⟩
abbrev CFG_SPAN_ERR_CMD_ERR : Fld := ⟨0, 1⟩
abbrev CFG_SPAN_ERR_DB_DROP : Fld := ⟨8, 8⟩
abbrev CFG_RT_SEL_ROUTE : Fld := ⟨0, 12⟩
abbrev CFG_COMMIT_GO : Fld := ⟨0, 1⟩
abbrev CFG_COMMIT_STAT_STATE : Fld := ⟨0, 2⟩
abbrev CFG_COMMIT_STAT_CHANGE : Fld := ⟨16, 16⟩
abbrev CFG_SHADOW_CLR_CLR : Fld := ⟨0, 1⟩
abbrev CFG_MODE_STAT_PHASE : Fld := ⟨0, 3⟩
abbrev CFG_MODE_STAT_CAUSE : Fld := ⟨3, 8⟩
abbrev CFG_MODE_STAT_CHANGE : Fld := ⟨16, 16⟩
abbrev CFG_PAIR_STAT_PENDING : Fld := ⟨0, 1⟩
abbrev CFG_PAIR_STAT_PAIR_ERR : Fld := ⟨1, 1⟩
abbrev CFG_PAIR_STAT_LEVEL_ERR : Fld := ⟨2, 1⟩
abbrev CFG_PAIR_STAT_NPEND : Fld := ⟨8, 8⟩
abbrev CFG_PAIR_ABANDON_ABANDON : Fld := ⟨0, 1⟩
abbrev CFG_IMG_DIGEST_DIGEST : Fld := ⟨0, 32⟩
abbrev CFG_SPAN_FAULT_RECORD : Fld := ⟨0, 32⟩
abbrev CFG_RT_DATA_WORD : Fld := ⟨0, 32⟩
abbrev CFG_SPAN_EVT_EVENT : Fld := ⟨0, 32⟩
abbrev CFG_DB_VALUE : Fld := ⟨0, 32⟩
abbrev SEC_SERIAL_LO_SERIAL : Fld := ⟨0, 32⟩
abbrev SEC_SERIAL_HI_SERIAL : Fld := ⟨0, 32⟩
abbrev SEC_KEYS_LIVE : Fld := ⟨0, 4⟩
abbrev SEC_KEYS_REVOKED : Fld := ⟨4, 4⟩
abbrev SEC_KEYS_SPOILED : Fld := ⟨8, 4⟩
abbrev SEC_KEYS_BOOT_SLOT : Fld := ⟨12, 2⟩
abbrev SEC_KEYS_IMG_SLOT : Fld := ⟨14, 2⟩
abbrev SEC_KEY_SEL_SLOT : Fld := ⟨0, 2⟩
abbrev SEC_LIC_TIER : Fld := ⟨0, 2⟩
abbrev SEC_LIC_BOOT_TIER : Fld := ⟨2, 2⟩
abbrev SEC_LIC_LIC_SRC : Fld := ⟨4, 2⟩
abbrev SEC_LIC_NUM_NUMBER : Fld := ⟨0, 32⟩
abbrev SEC_VFY_KIND : Fld := ⟨0, 3⟩
abbrev SEC_VFY_REASON : Fld := ⟨8, 4⟩
abbrev SEC_VFY_COUNT : Fld := ⟨16, 16⟩
abbrev SEC_KNOT_OFF_OFFSET : Fld := ⟨0, 29⟩
abbrev SEC_KNOT_GO_GO : Fld := ⟨0, 1⟩
abbrev SEC_KNOT_STAT_STATE : Fld := ⟨0, 2⟩
abbrev SEC_KNOT_STAT_REASON : Fld := ⟨4, 4⟩
abbrev SEC_ATT_OFF_OFFSET : Fld := ⟨0, 29⟩
abbrev SEC_ATT_GO_GO : Fld := ⟨0, 1⟩
abbrev SEC_ATT_STAT_STATE : Fld := ⟨0, 2⟩
abbrev SEC_ATT_STAT_ERR : Fld := ⟨2, 1⟩
abbrev SEC_ATT_STAT_COUNT : Fld := ⟨16, 16⟩
abbrev SEC_CERT_SEL_WORD : Fld := ⟨0, 10⟩
abbrev SEC_CERT_DATA_WORD : Fld := ⟨0, 32⟩
abbrev SEC_EVT_SRC : Fld := ⟨0, 4⟩
abbrev SEC_KEY_DIG_DIGEST : Fld := ⟨0, 32⟩
abbrev SEC_NONCE_NONCE : Fld := ⟨0, 32⟩
abbrev ICU_SRC_PRIO : Fld := ⟨0, 4⟩
abbrev ICU_SRC_KIND : Fld := ⟨4, 1⟩
abbrev ICU_SRC_LINE : Fld := ⟨5, 1⟩
abbrev ICU_SRC_PEND : Fld := ⟨6, 1⟩
abbrev ICU_SRC_INSVC : Fld := ⟨7, 1⟩
abbrev ICU_SRC_COUNT : Fld := ⟨8, 8⟩
abbrev ICU_SRC_OVF : Fld := ⟨16, 1⟩
abbrev ICU_SRC_SVC_TGT : Fld := ⟨17, 4⟩
abbrev ICU_TMASK_TARGETS : Fld := ⟨0, 16⟩
abbrev ICU_COAL_CNT : Fld := ⟨0, 8⟩
abbrev ICU_COAL_WIN : Fld := ⟨8, 16⟩
abbrev ICU_PEND_PEND : Fld := ⟨0, 32⟩
abbrev ICU_CLAIM_SOURCE : Fld := ⟨0, 10⟩
abbrev ICU_CLAIM_PRIO : Fld := ⟨10, 4⟩
abbrev ICU_CLAIM_COUNT : Fld := ⟨16, 8⟩
abbrev ICU_CLAIM_OVF : Fld := ⟨24, 1⟩
abbrev ICU_EOI_SOURCE : Fld := ⟨0, 10⟩
abbrev ICU_TCTL_THR : Fld := ⟨0, 4⟩
abbrev ICU_TCTL_MASK : Fld := ⟨4, 1⟩
abbrev ICU_TSTAT_RUNPRIO : Fld := ⟨0, 4⟩
abbrev ICU_TSTAT_DEPTH : Fld := ⟨4, 4⟩
abbrev ICU_TSTAT_TOP : Fld := ⟨8, 10⟩
abbrev ICU_TSTAT_EOI_ERR : Fld := ⟨18, 1⟩
abbrev ICU_TSTAT_OUTSTANDING : Fld := ⟨19, 1⟩
abbrev ICU_TGT_VECTOR : Fld := ⟨0, 11⟩
abbrev ICU_TGT_PRIO_SPLIT : Fld := ⟨11, 1⟩
abbrev ICU_TGT_FUNC : Fld := ⟨12, 5⟩
abbrev ICU_SWI_INDEX : Fld := ⟨0, 6⟩
abbrev ICU_WAKE_MODE : Fld := ⟨0, 1⟩
abbrev ICU_WAKE_WAKE : Fld := ⟨1, 1⟩
abbrev ICU_TICK_TICKS : Fld := ⟨0, 32⟩
abbrev ICU_FERRY_SOURCE : Fld := ⟨0, 9⟩
abbrev ICU_FERRY_VALID : Fld := ⟨15, 1⟩
abbrev TKT_CTL_DEF_TICKET : Fld := ⟨0, 4⟩
abbrev TKT_CTL_LIMIT1 : Fld := ⟨4, 4⟩
abbrev TKT_CTL_LIMIT2 : Fld := ⟨8, 4⟩
abbrev TKT_CTL_LEAK : Fld := ⟨16, 8⟩
abbrev TKT_SEL_RES : Fld := ⟨0, 7⟩
abbrev TKT_SEL_TICKET : Fld := ⟨8, 4⟩
abbrev TKT_AVG_AVG : Fld := ⟨0, 18⟩
abbrev TKT_AVG_STEP : Fld := ⟨18, 4⟩
abbrev TKT_AVG_PRIO : Fld := ⟨22, 4⟩
abbrev TKT_WIN_OVER : Fld := ⟨0, 2⟩
abbrev TKT_WIN_READS : Fld := ⟨2, 12⟩
abbrev TKT_RSTAT_LEVEL : Fld := ⟨0, 11⟩
abbrev TKT_RSTAT_BAND : Fld := ⟨11, 2⟩
abbrev TKT_RSTAT_HOLD : Fld := ⟨16, 16⟩
abbrev TKT_HELD_COUNT : Fld := ⟨0, 32⟩
abbrev TKT_MISS_MISS : Fld := ⟨0, 16⟩
abbrev TKT_MISS_LAST_RES : Fld := ⟨0, 7⟩
abbrev TKT_MISS_LAST_TICKET : Fld := ⟨8, 4⟩
abbrev TKT_MISS_LAST_COUNT : Fld := ⟨16, 8⟩
abbrev TKT_DROP_DROPPED : Fld := ⟨0, 16⟩
abbrev TKT_CLS_BASE : Fld := ⟨0, 3⟩
abbrev TKT_CLS_BEST_EFFORT : Fld := ⟨3, 1⟩
abbrev TKT_TGT_MEM : Fld := ⟨0, 16⟩
abbrev TKT_TGT_FLASH : Fld := ⟨16, 16⟩
abbrev TKT_BW0_STACK : Fld := ⟨0, 16⟩
abbrev TKT_BW0_BONDED : Fld := ⟨16, 16⟩
abbrev TKT_BW1_SBF : Fld := ⟨0, 16⟩
abbrev TKT_BW1_FLASH : Fld := ⟨16, 16⟩
abbrev TKT_QTHR_LO : Fld := ⟨0, 11⟩
abbrev TKT_QTHR_HI : Fld := ⟨16, 11⟩
abbrev TKT_ADMIT_SUM : Fld := ⟨0, 16⟩
abbrev TKT_ADMIT_CAP : Fld := ⟨16, 16⟩
abbrev MEM_INST_SEL_CLASS : Fld := ⟨0, 3⟩
abbrev MEM_INST_SEL_INST : Fld := ⟨3, 7⟩
abbrev MEM_CE_CNT_COUNT : Fld := ⟨0, 32⟩
abbrev MEM_UE_CNT_COUNT : Fld := ⟨0, 32⟩
abbrev MEM_RCL_STAT_USED : Fld := ⟨0, 5⟩
abbrev MEM_RCL_STAT_EVICT : Fld := ⟨16, 16⟩
abbrev MEM_PATCH_STAT_USED : Fld := ⟨0, 4⟩
abbrev MEM_PATCH_STAT_FULL : Fld := ⟨4, 1⟩
abbrev MEM_PATCH_STAT_OVERFLOW : Fld := ⟨16, 16⟩
abbrev MEM_PATCH_SEL_ENTRY : Fld := ⟨0, 3⟩
abbrev MEM_PATCH_ADDR_LO_ADDR : Fld := ⟨0, 32⟩
abbrev MEM_PATCH_ADDR_HI_ADDR : Fld := ⟨0, 16⟩
abbrev MEM_PATCH_ADDR_HI_VALID : Fld := ⟨16, 1⟩
abbrev MEM_PATCH_DATA_DATA : Fld := ⟨0, 32⟩
abbrev MEM_PATCH_CTL_ENTRY : Fld := ⟨0, 3⟩
abbrev MEM_PATCH_CTL_RELEASE : Fld := ⟨3, 1⟩
abbrev MEM_EVT_FULL_CLASS : Fld := ⟨0, 3⟩
abbrev MEM_EVT_FULL_INST : Fld := ⟨3, 7⟩
abbrev MEM_EVT_UE_CLASS : Fld := ⟨16, 3⟩
abbrev MEM_EVT_UE_INST : Fld := ⟨19, 7⟩
abbrev MEM_POISON_CNT_COUNT : Fld := ⟨0, 32⟩
abbrev MEM_FENCE_MACRO_SITE : Fld := ⟨0, 7⟩
abbrev MEM_FENCE_MACRO_MACRO : Fld := ⟨8, 7⟩
abbrev MEM_FENCE_MACRO_GO : Fld := ⟨15, 1⟩
abbrev MEM_FENCE_STAT_STATE : Fld := ⟨0, 2⟩
abbrev MEM_RETIRE_LO_ADDR : Fld := ⟨0, 32⟩
abbrev MEM_RETIRE_HI_ADDR : Fld := ⟨0, 16⟩
abbrev MEM_RETIRE_CMD_GO : Fld := ⟨0, 1⟩
abbrev MEM_RETIRE_STAT_COUNT : Fld := ⟨0, 9⟩
abbrev MEM_RETIRE_STAT_RESULT : Fld := ⟨10, 2⟩
abbrev MEM_FLIP_CTL_ARM : Fld := ⟨0, 6⟩
abbrev MEM_FLIP_HIT_LO_ADDR : Fld := ⟨0, 32⟩
abbrev MEM_FLIP_HIT_HI_ADDR : Fld := ⟨0, 16⟩
abbrev MEM_FLIP_HIT_HI_CLASS : Fld := ⟨16, 3⟩
abbrev MEM_SCRUB_BASE_LO_ADDR : Fld := ⟨0, 32⟩
abbrev MEM_SCRUB_BASE_HI_ADDR : Fld := ⟨0, 16⟩
abbrev MEM_SCRUB_LEN_LO_LEN : Fld := ⟨0, 32⟩
abbrev MEM_SCRUB_LEN_HI_LEN : Fld := ⟨0, 16⟩
abbrev MEM_SCRUB_DST_OFFSET : Fld := ⟨0, 29⟩
abbrev MEM_SCRUB_GO_GO : Fld := ⟨0, 1⟩
abbrev MEM_SCRUB_GO_STOP : Fld := ⟨1, 1⟩
abbrev MEM_SCRUB_GO_TICKET : Fld := ⟨4, 4⟩
abbrev MEM_SCRUB_STAT_STATE : Fld := ⟨0, 2⟩
abbrev MEM_SCRUB_STAT_PROGRESS : Fld := ⟨8, 24⟩
abbrev MEM_MAN_CNT_COUNT : Fld := ⟨0, 32⟩
abbrev MEM_MAN_ADDR_LO_ADDR : Fld := ⟨0, 32⟩
abbrev MEM_MAN_ADDR_HI_ADDR : Fld := ⟨0, 16⟩
abbrev MEM_MAN_ADDR_HI_POINT : Fld := ⟨16, 4⟩
abbrev MEM_WERR_LO_ADDR : Fld := ⟨0, 32⟩
abbrev MEM_WERR_HI_ADDR : Fld := ⟨0, 16⟩
abbrev MEM_WERR_HI_COUNT : Fld := ⟨16, 8⟩
abbrev MEM_FLIP_DATA_MASK : Fld := ⟨0, 32⟩
abbrev MEM_FLIP_CHK_MASK : Fld := ⟨0, 20⟩
abbrev MEM_FLIP_INST_INST : Fld := ⟨0, 7⟩
abbrev MEM_FLIP_INST_ANY : Fld := ⟨7, 1⟩
abbrev SBF_PART_BASE_BASE : Fld := ⟨0, 29⟩
abbrev SBF_PART_LEN_LEN : Fld := ⟨0, 30⟩
abbrev SBF_PL_CTL_MODE : Fld := ⟨0, 2⟩
abbrev SBF_PL_CTL_PROMOTE_THR : Fld := ⟨8, 8⟩
abbrev SBF_PL_CTL_DEMOTE_THR : Fld := ⟨16, 8⟩
abbrev SBF_PL_CTL_EPOCH : Fld := ⟨24, 4⟩
abbrev SBF_PL_STAT_USED : Fld := ⟨0, 16⟩
abbrev SBF_PL_STAT_FRAMES : Fld := ⟨16, 16⟩
abbrev SBF_PL_PROMO_COUNT : Fld := ⟨0, 32⟩
abbrev SBF_PL_DEMO_COUNT : Fld := ⟨0, 32⟩
abbrev SBF_PROMO_PAGE_PAGE : Fld := ⟨0, 24⟩
abbrev SBF_PROMO_CMD_OP : Fld := ⟨0, 2⟩
abbrev SBF_PROMO_STAT_STATE : Fld := ⟨0, 2⟩
abbrev SBF_PROMO_STAT_REASON : Fld := ⟨4, 4⟩
abbrev BRG_RING_BASE_BASE : Fld := ⟨0, 29⟩
abbrev BRG_RING_LEN_LEN : Fld := ⟨0, 25⟩
abbrev BRG_WR_INDEX : Fld := ⟨0, 32⟩
abbrev BRG_RD_INDEX : Fld := ⟨0, 32⟩
abbrev BRG_STAT_STATE : Fld := ⟨0, 2⟩
abbrev BRG_STAT_HELD : Fld := ⟨2, 1⟩
abbrev BRG_STAT_OVR : Fld := ⟨3, 1⟩
abbrev BRG_STAT_LAST_CODE : Fld := ⟨8, 8⟩
abbrev BRG_CTL_RESUME : Fld := ⟨0, 1⟩
abbrev BRG_CTL_SKIP : Fld := ⟨1, 1⟩
abbrev BRG_CTL_ABORT : Fld := ⟨2, 1⟩
abbrev GEN_CTL_SAMP_EN : Fld := ⟨0, 1⟩
abbrev GEN_CTL_GRAM_EN : Fld := ⟨1, 1⟩
abbrev GEN_STATUS_ACTIVE : Fld := ⟨0, 7⟩
abbrev GEN_STATUS_BADSAMP : Fld := ⟨7, 1⟩
abbrev GEN_STATUS_NANLOGIT : Fld := ⟨8, 8⟩
abbrev GEN_STATUS_SLICE_ERR : Fld := ⟨16, 8⟩
abbrev GEN_VOCAB_VOCAB : Fld := ⟨0, 19⟩
abbrev GEN_SAMP_GO_SLOT : Fld := ⟨0, 6⟩
abbrev GEN_SAMP_GO_GO : Fld := ⟨6, 1⟩
abbrev GEN_SEQ_ACT : Fld := ⟨0, 1⟩
abbrev GEN_SEQ_END : Fld := ⟨1, 2⟩
abbrev GEN_SEQ_DEPTH : Fld := ⟨3, 9⟩
abbrev GEN_SEQ_GSTATE : Fld := ⟨16, 16⟩
abbrev GEN_CNT_TOKENS : Fld := ⟨0, 32⟩
abbrev GEN_HIST_TOKEN : Fld := ⟨0, 18⟩
abbrev GEN_ORING_WR_INDEX : Fld := ⟨0, 32⟩
abbrev GEN_ORING_RD_INDEX : Fld := ⟨0, 32⟩
abbrev STK_ID_STEPPING : Fld := ⟨0, 8⟩
abbrev STK_ID_FEATURE : Fld := ⟨8, 8⟩
abbrev STK_ID_STACK : Fld := ⟨16, 3⟩
abbrev STK_STAT_STATE : Fld := ⟨0, 3⟩
abbrev STK_STAT_PIN_FAULT : Fld := ⟨3, 1⟩
abbrev STK_STAT_PIN : Fld := ⟨4, 10⟩
abbrev STK_STAT_IL_REDUCED : Fld := ⟨14, 1⟩
abbrev STK_STAT_IL_GROUP : Fld := ⟨15, 1⟩
abbrev STK_STAT_IL_OFF : Fld := ⟨16, 1⟩
abbrev STK_PIN_THR_THRESH : Fld := ⟨0, 16⟩
abbrev STK_QLEVEL_LEVEL : Fld := ⟨0, 11⟩
abbrev STK_QLEVEL_HWM : Fld := ⟨16, 11⟩
abbrev STK_RD_CNT_BLOCKS : Fld := ⟨0, 32⟩
abbrev STK_WR_CNT_BLOCKS : Fld := ⟨0, 32⟩
abbrev STK_MISS_CNT_MISSES : Fld := ⟨0, 32⟩
abbrev STK_PART_BASE_BASE : Fld := ⟨0, 24⟩
abbrev STK_PART_BASE_VIEW : Fld := ⟨24, 1⟩
abbrev STK_PART_LEN_LEN : Fld := ⟨0, 25⟩
abbrev CWY_DISC_KIND : Fld := ⟨0, 4⟩
abbrev CWY_DISC_STEPPING : Fld := ⟨8, 8⟩
abbrev CWY_DISC_FEATURE : Fld := ⟨16, 8⟩
abbrev CWY_DISC_LOCAL : Fld := ⟨24, 3⟩
abbrev CWY_STAT_STATE : Fld := ⟨0, 3⟩
abbrev CWY_STAT_HALF_UPPER : Fld := ⟨3, 1⟩
abbrev CWY_STAT_CHAIN : Fld := ⟨4, 2⟩
abbrev CWY_STAT_CLK_SRC : Fld := ⟨6, 1⟩
abbrev CWY_STAT_SPLIT : Fld := ⟨7, 1⟩
abbrev CWY_REPAIR_SPARE0 : Fld := ⟨0, 7⟩
abbrev CWY_REPAIR_SPARE1 : Fld := ⟨8, 7⟩
abbrev CWY_REPAIR_SPARE2 : Fld := ⟨16, 7⟩
abbrev CWY_REPAIR_SPARE3 : Fld := ⟨24, 7⟩
abbrev CWY_CTL_RETRAIN : Fld := ⟨0, 1⟩
abbrev CWY_CTL_RETIRE : Fld := ⟨1, 1⟩
abbrev CWY_CTL_LANE_THR : Fld := ⟨16, 16⟩
abbrev CWY_LANE_SEL_LANE : Fld := ⟨0, 7⟩
abbrev CWY_LANE_SEL_DIR : Fld := ⟨7, 1⟩
abbrev CWY_LANE_CNT_CORR : Fld := ⟨0, 16⟩
abbrev CWY_LANE_CNT_MARGIN : Fld := ⟨16, 8⟩
abbrev CWY_CRC_CRC_ERR : Fld := ⟨0, 16⟩
abbrev CWY_CRC_REPLAY : Fld := ⟨16, 16⟩
abbrev CWY_TX_FLITS : Fld := ⟨0, 32⟩
abbrev CWY_RX_FLITS : Fld := ⟨0, 32⟩
abbrev CWY_EVT_RETRAINED : Fld := ⟨0, 1⟩
abbrev CWY_EVT_HALF : Fld := ⟨1, 1⟩
abbrev CWY_EVT_RETIRED : Fld := ⟨2, 1⟩
abbrev CWY_EVT_LANE_FAIL : Fld := ⟨3, 1⟩
abbrev CWY_EVT_LOG_FAIL : Fld := ⟨4, 1⟩
abbrev CWY_EVT_CLK_MOVE : Fld := ⟨5, 1⟩
abbrev CWY_EVT_POISON_RX : Fld := ⟨6, 1⟩
abbrev CDI_ID_STEPPING : Fld := ⟨0, 8⟩
abbrev CDI_ID_FEATURE : Fld := ⟨8, 8⟩
abbrev CDI_ID_DIE : Fld := ⟨16, 4⟩
abbrev CDI_CTL_EDGE_SEL : Fld := ⟨0, 1⟩
abbrev CDI_CTL_AUTO_SUBST : Fld := ⟨1, 1⟩
abbrev CDI_CTL_HB_EN : Fld := ⟨2, 1⟩
abbrev CDI_STATUS_SPARE_AVAIL : Fld := ⟨0, 4⟩
abbrev CDI_STATUS_SUBST_BUSY : Fld := ⟨4, 4⟩
abbrev CDI_STATUS_ABSENT : Fld := ⟨8, 12⟩
abbrev CDI_STATUS_DEGRADED : Fld := ⟨20, 1⟩
abbrev CDI_ROW_SUBST_ROW : Fld := ⟨0, 2⟩
abbrev CDI_ROW_SUBST_GO : Fld := ⟨2, 1⟩
abbrev CDI_SUBST_STAT_RESULT : Fld := ⟨0, 16⟩
abbrev CDI_EDGE_THR_THRESH : Fld := ⟨0, 8⟩
abbrev CDI_SEAM_EAST_STEP : Fld := ⟨0, 2⟩
abbrev CDI_SEAM_WEST_STEP : Fld := ⟨2, 2⟩
abbrev CDI_SEAM_EQUAL : Fld := ⟨4, 1⟩
abbrev CDI_SEAM_STALL_STALL : Fld := ⟨0, 32⟩
abbrev CDI_MCAST_SKIP_SKIP : Fld := ⟨0, 16⟩
abbrev CDI_HB_MISS_MISS : Fld := ⟨0, 16⟩
abbrev CDI_MAP_SLOT0_COL : Fld := ⟨0, 2⟩
abbrev CDI_MAP_SLOT1_COL : Fld := ⟨2, 2⟩
abbrev CDI_MAP_SLOT2_COL : Fld := ⟨4, 2⟩
abbrev CDI_MAP_SPARE_AVAIL : Fld := ⟨6, 1⟩
abbrev CDI_MAP_COLc_STATE : Fld := ⟨8, 12⟩
abbrev CDI_EDGE_INQ : Fld := ⟨0, 8⟩
abbrev CDI_EDGE_OUTQ : Fld := ⟨8, 8⟩
abbrev CDI_EDGE_INQ_HWM : Fld := ⟨16, 8⟩
abbrev CDI_EDGE_OUTQ_HWM : Fld := ⟨24, 8⟩
abbrev ENG_STATE_STATE : Fld := ⟨0, 3⟩
abbrev ENG_STATE_ENGINE : Fld := ⟨3, 7⟩
abbrev ENG_STATE_HALF : Fld := ⟨10, 1⟩
abbrev ENG_CTL_FENCE : Fld := ⟨0, 1⟩
abbrev ENG_CTX_CONTEXTS : Fld := ⟨0, 16⟩
abbrev ENG_CTX_FREE_GANGS : Fld := ⟨16, 8⟩
abbrev ENG_LS_USABLE_KIB : Fld := ⟨0, 16⟩
abbrev ENG_LS_FENCED : Fld := ⟨16, 8⟩
abbrev ENG_FAULT_RECORD : Fld := ⟨0, 32⟩
abbrev ENG_ARITH_COUNT : Fld := ⟨0, 32⟩
abbrev RTV_ID_STEPPING : Fld := ⟨0, 8⟩
abbrev RTV_ID_FEATURE : Fld := ⟨8, 8⟩
abbrev RTV_STAT_STATE : Fld := ⟨0, 2⟩
abbrev RTV_STAT_RE_FENCED : Fld := ⟨16, 16⟩
abbrev RTV_RE_FENCE_FENCE : Fld := ⟨0, 16⟩
abbrev RTV_WALK_CTX_USED : Fld := ⟨0, 21⟩
abbrev RTV_WSLOT_USED : Fld := ⟨0, 13⟩
abbrev RTV_PIPE_SEL_PIPE : Fld := ⟨0, 6⟩
abbrev RTV_PSTAT_KIND : Fld := ⟨0, 4⟩
abbrev RTV_PSTAT_HELD_RES : Fld := ⟨4, 1⟩
abbrev RTV_PSTAT_HELD_ENG : Fld := ⟨5, 1⟩
abbrev RTV_PSTAT_HELD_CTX : Fld := ⟨6, 1⟩
abbrev RTV_PSTAT_HELD_MOUNT : Fld := ⟨7, 1⟩
abbrev RTV_PSTAT_HELD_FWD : Fld := ⟨8, 1⟩
abbrev RTV_PSTAT_INFLIGHT : Fld := ⟨16, 13⟩
abbrev RTV_CNT_Q_COUNT : Fld := ⟨0, 32⟩
abbrev RTV_CNT_F_COUNT : Fld := ⟨0, 32⟩
abbrev RTV_CNT_U_COUNT : Fld := ⟨0, 32⟩
abbrev RTV_FAIL_STATUS : Fld := ⟨0, 8⟩
abbrev RTV_FAIL_PIPE : Fld := ⟨8, 6⟩
abbrev RTV_FAIL_IDX_DESC : Fld := ⟨0, 32⟩
abbrev RTV_EVT_FAIL : Fld := ⟨0, 1⟩
abbrev RTV_EVT_RES_FULL : Fld := ⟨1, 1⟩
abbrev RTV_EVT_CTX_FULL : Fld := ⟨2, 1⟩
abbrev RTV_EVT_MALFORMED : Fld := ⟨3, 1⟩
abbrev RTV_EVT_RE_FENCED : Fld := ⟨4, 1⟩
abbrev RTV_EVT_OVR : Fld := ⟨5, 1⟩
abbrev RTV_QWR_INDEX : Fld := ⟨0, 32⟩
abbrev RTV_QRD_INDEX : Fld := ⟨0, 32⟩
abbrev RTV_RRD_INDEX : Fld := ⟨0, 32⟩
abbrev FLC_STAT_STATE : Fld := ⟨0, 3⟩
abbrev FLC_STAT_RATE : Fld := ⟨3, 3⟩
abbrev FLC_STAT_TARGETS : Fld := ⟨8, 8⟩
abbrev FLC_LUN_USED : Fld := ⟨0, 32⟩
abbrev FLC_LUN_FENCE_FENCED : Fld := ⟨0, 32⟩
abbrev FLC_OPEN_MASK : Fld := ⟨0, 32⟩
abbrev FLC_CTL_RATE_MAX : Fld := ⟨0, 3⟩
abbrev FLC_CTL_LOOP_OPEN : Fld := ⟨3, 1⟩
abbrev FLC_LOOP_PROBE_INT : Fld := ⟨0, 8⟩
abbrev FLC_LOOP_HYST : Fld := ⟨8, 8⟩
abbrev FLC_LOOP_SOFT_DELTA : Fld := ⟨16, 8⟩
abbrev FLC_LOOP_LADDER_REFRESH : Fld := ⟨24, 4⟩
abbrev FLC_QLEVEL_LEVEL : Fld := ⟨0, 9⟩
abbrev FLC_QLEVEL_HWM : Fld := ⟨16, 9⟩
abbrev FLC_RD_CNT_COUNT : Fld := ⟨0, 32⟩
abbrev FLC_CE_BITS_COUNT : Fld := ⟨0, 32⟩
abbrev FLC_RETRY_LADDER : Fld := ⟨0, 16⟩
abbrev FLC_RETRY_SOFT : Fld := ⟨16, 16⟩
abbrev FLC_UE_COUNT : Fld := ⟨0, 16⟩
abbrev FLC_UE_MISCORR : Fld := ⟨16, 16⟩
abbrev FLC_PROBE_ISSUED : Fld := ⟨0, 16⟩
abbrev FLC_PROBE_ADOPTED : Fld := ⟨16, 16⟩
abbrev FLC_DISCARD_STALE : Fld := ⟨0, 16⟩
abbrev FLC_FAIL_PGM : Fld := ⟨0, 16⟩
abbrev FLC_FAIL_ERS : Fld := ⟨16, 16⟩
abbrev FLC_EVT_PGM_FAIL : Fld := ⟨0, 1⟩
abbrev FLC_EVT_ERS_FAIL : Fld := ⟨1, 1⟩
abbrev FLC_EVT_UE : Fld := ⟨2, 1⟩
abbrev FLC_EVT_REFRESH : Fld := ⟨3, 1⟩
abbrev FLC_EVT_LUN_FENCED : Fld := ⟨4, 1⟩
abbrev FLC_EVT_CHAN_FENCED : Fld := ⟨5, 1⟩
abbrev FLC_EVT_RAW_DONE : Fld := ⟨6, 1⟩
abbrev FLC_THR_SEL_GROUP : Fld := ⟨0, 12⟩
abbrev FLC_THR_SEL_LEVEL : Fld := ⟨12, 4⟩
abbrev FLC_THR_DATA_OFFSET : Fld := ⟨0, 8⟩
abbrev FLC_THR_DATA_SBAR : Fld := ⟨8, 13⟩
abbrev FLC_PE_SEL_TARGET : Fld := ⟨0, 3⟩
abbrev FLC_PE_SEL_LUN : Fld := ⟨3, 2⟩
abbrev FLC_PE_SEL_BLOCK : Fld := ⟨5, 13⟩
abbrev FLC_PE_DATA_COUNT : Fld := ⟨0, 24⟩
abbrev FLC_PE_DATA_BAD : Fld := ⟨24, 2⟩
abbrev FLC_RAW_ADDR_TARGET : Fld := ⟨0, 3⟩
abbrev FLC_RAW_ADDR_LUN : Fld := ⟨3, 2⟩
abbrev FLC_RAW_ADDR_BLOCK : Fld := ⟨5, 13⟩
abbrev FLC_RAW_ADDR_PAGE : Fld := ⟨18, 14⟩
abbrev FLC_RAW_BUF_OFFSET : Fld := ⟨0, 29⟩
abbrev FLC_RAW_PARAM_VALUE : Fld := ⟨0, 32⟩
abbrev FLC_RAW_CMD_OP : Fld := ⟨0, 4⟩
abbrev FLC_RAW_CMD_RAW : Fld := ⟨4, 1⟩
abbrev FLC_RAW_CMD_FEAT : Fld := ⟨8, 8⟩
abbrev FLC_RAW_CMD_TICKET : Fld := ⟨16, 4⟩
abbrev FLC_RAW_STAT_STATE : Fld := ⟨0, 2⟩
abbrev FLC_RAW_STAT_RESULT : Fld := ⟨2, 4⟩
abbrev FLC_RAW_STAT_STATUS : Fld := ⟨8, 8⟩
abbrev FLC_RAW_STAT_CW_OK : Fld := ⟨16, 8⟩
abbrev FLC_BG_TICKET : Fld := ⟨0, 4⟩
abbrev FLC_PATROL_HOURS : Fld := ⟨0, 8⟩
abbrev FLC_PATROL_REFRESH_THR : Fld := ⟨8, 8⟩
abbrev FLC_PATROL_RD_LIMIT : Fld := ⟨16, 8⟩
abbrev FLC_PATROL_WEAR_DELTA : Fld := ⟨24, 8⟩
abbrev FLC_MOUNT_STATE : Fld := ⟨0, 3⟩
abbrev FLC_MOUNT_PROGRESS : Fld := ⟨8, 8⟩
abbrev FLC_FMT_GO : Fld := ⟨0, 1⟩
abbrev FLC_FMT_SPARE_PCT : Fld := ⟨1, 5⟩
abbrev FLC_FMT_PROF_OFFSET : Fld := ⟨0, 29⟩
abbrev FLC_FMT_STAT_STATE : Fld := ⟨0, 2⟩
abbrev FLC_FMT_STAT_REASON : Fld := ⟨4, 4⟩
abbrev FLC_CAP_FREE_SB : Fld := ⟨0, 24⟩
abbrev FLC_CAP_TOTAL_TOTAL_SB : Fld := ⟨0, 24⟩
abbrev FLC_ZONE_HANDLE_HANDLE : Fld := ⟨0, 32⟩
abbrev FLC_ZONE_CMD_OP : Fld := ⟨0, 3⟩
abbrev FLC_ZONE_CMD_NSB : Fld := ⟨8, 8⟩
abbrev FLC_ZONE_STAT_STATE : Fld := ⟨0, 2⟩
abbrev FLC_ZONE_STAT_REASON : Fld := ⟨4, 4⟩
abbrev FLC_ZONE_STAT_ZSTATE : Fld := ⟨8, 3⟩
abbrev FLC_ZONE_STAT_NSB : Fld := ⟨16, 8⟩
abbrev FLC_ZONE_WP_WP : Fld := ⟨0, 21⟩
abbrev LNK_ID_STEPPING : Fld := ⟨0, 8⟩
abbrev LNK_ID_FEATURE : Fld := ⟨8, 8⟩
abbrev LNK_ID_DIE : Fld := ⟨16, 1⟩
abbrev LNK_CTL_UCW_THR : Fld := ⟨0, 16⟩
abbrev LNK_LANE_SEL_LANE : Fld := ⟨0, 5⟩
abbrev LNK_LANE_SNR : Fld := ⟨0, 8⟩
abbrev LNK_LANE_PRE1 : Fld := ⟨8, 8⟩
abbrev LNK_LANE_POST1 : Fld := ⟨16, 8⟩
abbrev LNK_PSTAT_STATE : Fld := ⟨0, 4⟩
abbrev LNK_PSTAT_REASON : Fld := ⟨4, 4⟩
abbrev LNK_PSTAT_PEER_DEV : Fld := ⟨8, 6⟩
abbrev LNK_PSTAT_PEER_PORT : Fld := ⟨14, 4⟩
abbrev LNK_PCTL_RETRAIN : Fld := ⟨0, 1⟩
abbrev LNK_PCTL_DISABLE : Fld := ⟨1, 1⟩
abbrev LNK_FEC_CORR : Fld := ⟨0, 32⟩
abbrev LNK_UCW_UCW : Fld := ⟨0, 16⟩
abbrev LNK_UCW_REPLAY : Fld := ⟨16, 16⟩
abbrev LNK_RTRN_RETRAINS : Fld := ⟨0, 8⟩
abbrev LNK_RTRN_TRAIN_FAIL : Fld := ⟨8, 8⟩
abbrev LNK_TX_SLICES : Fld := ⟨0, 32⟩
abbrev LNK_RX_SLICES : Fld := ⟨0, 32⟩
abbrev LNK_EVT_UP : Fld := ⟨0, 1⟩
abbrev LNK_EVT_DOWN : Fld := ⟨1, 1⟩
abbrev LNK_EVT_RETRAINED : Fld := ⟨2, 1⟩
abbrev LNK_EVT_FAILED : Fld := ⟨3, 1⟩
abbrev LNK_EVT_REFUSED : Fld := ⟨4, 1⟩
abbrev LNK_GRP_DEVNUM : Fld := ⟨0, 6⟩
abbrev LNK_GRP_BRIDGE : Fld := ⟨6, 1⟩
abbrev LNK_GRP_NDEV : Fld := ⟨8, 7⟩
abbrev LNK_GRP_STATE : Fld := ⟨16, 3⟩
abbrev LNK_GRP_DEGRADED : Fld := ⟨19, 1⟩
abbrev LNK_GEN_GEN : Fld := ⟨0, 16⟩
abbrev LNK_RESCAN_GO : Fld := ⟨0, 1⟩
abbrev LNK_DEV_SEL_DEVICE : Fld := ⟨0, 6⟩
abbrev LNK_DEV_UPSET : Fld := ⟨0, 16⟩
abbrev LNK_DEV_DNSET : Fld := ⟨16, 16⟩
abbrev LNK_DEV_INFO_HOPS : Fld := ⟨0, 6⟩
abbrev LNK_DEV_INFO_PRESENT : Fld := ⟨6, 1⟩
abbrev LNK_DEV_INFO_LOST : Fld := ⟨7, 1⟩
abbrev LNK_DEV_INFO_TIER : Fld := ⟨8, 2⟩
abbrev LNK_DEV_INFO_FEATURE : Fld := ⟨10, 8⟩
abbrev LNK_DEV_INFO_LEVEL : Fld := ⟨18, 6⟩
abbrev LNK_DEV_SN_SERIAL : Fld := ⟨0, 32⟩
abbrev LNK_EXP_EXPIRED : Fld := ⟨0, 16⟩
abbrev LNK_EXP_HELD : Fld := ⟨16, 16⟩
abbrev LNK_OUT_OUTSTANDING : Fld := ⟨0, 15⟩
abbrev HBR_IDS_VENDOR : Fld := ⟨0, 16⟩
abbrev HBR_IDS_DEVICE : Fld := ⟨16, 16⟩
abbrev HBR_STAT_RATE : Fld := ⟨0, 3⟩
abbrev HBR_STAT_WIDTH : Fld := ⟨3, 5⟩
abbrev HBR_STAT_FLIT : Fld := ⟨8, 1⟩
abbrev HBR_STAT_UP : Fld := ⟨9, 1⟩
abbrev HBR_STAT_LOW_RATE : Fld := ⟨10, 1⟩
abbrev HBR_STAT_READY : Fld := ⟨11, 1⟩
abbrev HBR_CTL_RATE_MAX : Fld := ⟨0, 3⟩
abbrev HBR_CTL_RETRAIN : Fld := ⟨3, 1⟩
abbrev HBR_WIN_BASE : Fld := ⟨0, 25⟩
abbrev HBR_ERR_UR : Fld := ⟨0, 1⟩
abbrev HBR_ERR_CA : Fld := ⟨1, 1⟩
abbrev HBR_ERR_WDROP : Fld := ⟨2, 1⟩
abbrev HBR_ERR_EP_TX : Fld := ⟨3, 1⟩
abbrev HBR_ERR_EP_RX : Fld := ⟨4, 1⟩
abbrev HBR_ERR_VF_RANGE : Fld := ⟨5, 1⟩
abbrev HBR_ERR_AER : Fld := ⟨6, 1⟩
abbrev HBR_ERR_COUNT : Fld := ⟨16, 16⟩
abbrev HBR_ERR_ADDR_LO_ADDR : Fld := ⟨0, 32⟩
abbrev HBR_ERR_ADDR_HI_ADDR : Fld := ⟨0, 22⟩
abbrev HBR_ERR_ADDR_HI_FUNC : Fld := ⟨22, 5⟩
abbrev HBR_TLP_TX_COUNT : Fld := ⟨0, 32⟩
abbrev HBR_TLP_RX_COUNT : Fld := ⟨0, 32⟩
abbrev HBR_TGT_BASE : Fld := ⟨0, 11⟩
abbrev HBR_TGT_PRIO_SPLIT : Fld := ⟨11, 1⟩
abbrev HBR_TGT_FUNC : Fld := ⟨12, 5⟩
abbrev HBR_VFW_BASE_BASE : Fld := ⟨0, 32⟩
abbrev HBR_VFW_LEN_LEN : Fld := ⟨0, 11⟩
abbrev HBR_VFW_LEN_DEVICE : Fld := ⟨16, 6⟩
abbrev HBR_VFDB_FIRST : Fld := ⟨0, 12⟩
abbrev HBR_VFDB_COUNT : Fld := ⟨12, 13⟩
abbrev TEL_SNAP_GO : Fld := ⟨0, 1⟩
abbrev TEL_SNAP_SCOPE : Fld := ⟨1, 2⟩
abbrev TEL_SNAP_STAT_STATE : Fld := ⟨0, 2⟩
abbrev TEL_SNAP_STAT_SCOPE : Fld := ⟨2, 2⟩
abbrev TEL_SNAP_STAT_DROPPED : Fld := ⟨4, 4⟩
abbrev TEL_SNAP_STAT_MISSING : Fld := ⟨8, 8⟩
abbrev TEL_SNAP_STAT_ID : Fld := ⟨16, 16⟩
abbrev TEL_SNAP_SKIP_SKIPPED : Fld := ⟨0, 8⟩
abbrev TEL_GRP_MISS_LO_DEV : Fld := ⟨0, 32⟩
abbrev TEL_GRP_MISS_HI_DEV : Fld := ⟨0, 32⟩
abbrev TEL_CH_SEL_CHAN : Fld := ⟨0, 7⟩
abbrev TEL_CH_SEL_DIR : Fld := ⟨7, 1⟩
abbrev TEL_CH_SENT_SENT : Fld := ⟨0, 32⟩
abbrev TEL_CH_RCVD_RCVD : Fld := ⟨0, 32⟩
abbrev TEL_CH_STAT_FLAG : Fld := ⟨0, 1⟩
abbrev TEL_CH_STAT_ID : Fld := ⟨16, 16⟩
abbrev TEL_RING_BASE_BASE : Fld := ⟨0, 29⟩
abbrev TEL_RING_LEN_LEN : Fld := ⟨0, 29⟩
abbrev TEL_RING_CTL_EN : Fld := ⟨0, 1⟩
abbrev TEL_RING_CTL_PERIOD : Fld := ⟨16, 16⟩
abbrev TEL_RING_WR_INDEX : Fld := ⟨0, 32⟩
abbrev TEL_RING_RD_INDEX : Fld := ⟨0, 32⟩
abbrev TEL_EVT_OVF : Fld := ⟨0, 1⟩
abbrev TEL_EVT_DONE : Fld := ⟨1, 1⟩
abbrev TEL_EVT_INCOMPLETE : Fld := ⟨2, 1⟩
abbrev TEL_HIST_SEL_RES : Fld := ⟨0, 7⟩
abbrev TEL_HIST_SEL_TICKET : Fld := ⟨8, 4⟩
abbrev TEL_HIST_COUNT : Fld := ⟨0, 32⟩
abbrev LDP_STAT_EID : Fld := ⟨0, 8⟩
abbrev LDP_STAT_ADDR : Fld := ⟨8, 7⟩
abbrev LDP_STAT_MAIN_UP : Fld := ⟨15, 1⟩
abbrev LDP_STAT_REF_LOST : Fld := ⟨16, 1⟩
abbrev LDP_STAT_BUSY : Fld := ⟨17, 1⟩
abbrev LDP_ACCESS_WORK : Fld := ⟨0, 1⟩
abbrev LDP_ACCESS_CONTROL : Fld := ⟨1, 1⟩
abbrev LDP_ALERT_IRQ : Fld := ⟨0, 1⟩
abbrev LDP_ALERT_RECOVERY : Fld := ⟨1, 1⟩
abbrev LDP_ALERT_CRASH : Fld := ⟨2, 1⟩
abbrev LDP_ALERT_MBOX : Fld := ⟨3, 1⟩
abbrev LDP_ALERT_EN_EN : Fld := ⟨0, 4⟩
abbrev LDP_MBOX_IN_VALUE : Fld := ⟨0, 32⟩
abbrev LDP_MBOX_OUT_VALUE : Fld := ⟨0, 32⟩
abbrev LDP_CRASH_CLR_CLR : Fld := ⟨0, 1⟩
abbrev LDP_FERRY_TMR_MS : Fld := ⟨0, 24⟩
abbrev LDP_FERRY_STAT_CAUSE : Fld := ⟨0, 2⟩
abbrev LDP_FERRY_STAT_SOURCE : Fld := ⟨2, 9⟩
abbrev LDP_REQ_SERVED : Fld := ⟨0, 16⟩
abbrev LDP_REQ_REFUSED : Fld := ⟨16, 8⟩
abbrev LDP_REQ_LAST_CMD : Fld := ⟨24, 8⟩
abbrev LDP_EVT_SRC : Fld := ⟨0, 4⟩
abbrev LDP_CRASH_WORD : Fld := ⟨0, 32⟩
abbrev TST_CTL_ENTER : Fld := ⟨0, 1⟩
abbrev TST_CTL_EXIT : Fld := ⟨1, 1⟩
abbrev TST_STAT_STATE : Fld := ⟨0, 3⟩
abbrev TST_STAT_REASON : Fld := ⟨4, 3⟩
abbrev TST_STAT_NFAILTGT : Fld := ⟨8, 8⟩
abbrev TST_SEL_TARGET : Fld := ⟨0, 7⟩
abbrev TST_SEL_DIR : Fld := ⟨7, 1⟩
abbrev TST_RES_RESULT : Fld := ⟨0, 2⟩
abbrev TST_RES_NFAIL : Fld := ⟨2, 10⟩
abbrev TST_RES_FIRST : Fld := ⟨12, 10⟩
abbrev TST_RES_SECOND : Fld := ⟨22, 10⟩
abbrev TST_IDCODE_IDCODE : Fld := ⟨0, 32⟩
abbrev TST_EVT_TAP_REFUSED : Fld := ⟨0, 1⟩
abbrev TST_EVT_IJ_REFUSED : Fld := ⟨1, 1⟩
abbrev TST_FAILMAP_WIRES : Fld := ⟨0, 32⟩

end Sys2Proof.Machine.F
end

