-- ==== Sys2Proof/Machine/Registers.lean ====
section
/-! DEFINITION. The registers of the device (file 22_register_summary.md, R506 and R511 to R525), each with the offset,
the access codes and the reset value that its defining chapter gives. Written from the tables of the spec. -/

namespace Sys2Proof.Machine

/-- Every register of the device by its name in the manual (R14); an array register takes its index, a register of a
repeated block the block's number first.  The array registers stand before the others: Lean's compiled code
bounds the place of a constructor that has arguments.  Compute dies are numbered from 0 here (`CDI_ID 0` is the register of `d1`);
a register of an engine site takes the physical site number of R11. -/
inductive Reg where
  | CLK_HALF (d : Fin 8)
  | CLK_MAX (d : Fin 8)
  | PWR_AVS (d : Fin 8)
  | THM_DIODE (k : Fin 4)
  | BUP_TS (k : Fin 8)
  | BUP_LOG_DATA (w : Fin 8)
  | CFG_IMG_DIGEST (w : Fin 16)
  | CFG_SPAN_FAULT (w : Fin 4)
  | CFG_RT_DATA (w : Fin 8)
  | CFG_SPAN_EVT (t : Fin 16)
  | CFG_DB (i : Fin 4096)
  | SEC_KEY_DIG (w : Fin 8)
  | SEC_NONCE (w : Fin 8)
  | ICU_SRC (s : Fin 512)
  | ICU_TMASK (s : Fin 512)
  | ICU_COAL (s : Fin 512)
  | ICU_PEND (w : Fin 16)
  | ICU_CLAIM (t : Fin 16)
  | ICU_EOI (t : Fin 16)
  | ICU_TCTL (t : Fin 16)
  | ICU_TSTAT (t : Fin 16)
  | ICU_TGT (t : Fin 15)
  | ICU_FERRY (k : Fin 32)
  | TKT_CLS (t : Fin 16)
  | TKT_TGT (t : Fin 16)
  | TKT_BW0 (t : Fin 16)
  | TKT_BW1 (t : Fin 16)
  | TKT_QTHR (k : Fin 4)
  | TKT_ADMIT (k : Fin 4)
  | MEM_FLIP_DATA (c : Fin 6)
  | MEM_FLIP_CHK (c : Fin 6)
  | MEM_FLIP_INST (c : Fin 6)
  | SBF_PART_BASE (p : Fin 256)
  | SBF_PART_LEN (p : Fin 256)
  | BRG_RING_BASE (m : Fin 16)
  | BRG_RING_LEN (m : Fin 16)
  | BRG_WR (m : Fin 16)
  | BRG_RD (m : Fin 16)
  | BRG_STAT (m : Fin 16)
  | BRG_CTL (m : Fin 16)
  | GEN_SEQ (s : Fin 64)
  | GEN_CNT (s : Fin 64)
  | GEN_HIST (s : Fin 64)
  | GEN_ORING_WR (s : Fin 64)
  | GEN_ORING_RD (s : Fin 64)
  | GEN_SAMP (s : Fin 64) (w : Fin 8)
  | STK_ID (n : Fin 8)
  | STK_STAT (n : Fin 8)
  | STK_PIN_THR (n : Fin 8)
  | STK_QLEVEL (n : Fin 8)
  | STK_RD_CNT (n : Fin 8)
  | STK_WR_CNT (n : Fin 8)
  | STK_MISS_CNT (n : Fin 8)
  | STK_PART_BASE (p : Fin 256)
  | STK_PART_LEN (p : Fin 256)
  | CWY_DISC (p : Fin 78)
  | CWY_STAT (p : Fin 78)
  | CWY_REPAIR (p : Fin 78) (x : Fin 2)
  | CWY_CTL (p : Fin 78)
  | CWY_LANE_SEL (p : Fin 78)
  | CWY_LANE_CNT (p : Fin 78)
  | CWY_CRC (p : Fin 78)
  | CWY_TX (p : Fin 78)
  | CWY_RX (p : Fin 78)
  | CWY_EVT (p : Fin 78)
  | CDI_ID (d : Fin 8)
  | CDI_CTL (d : Fin 8)
  | CDI_STATUS (d : Fin 8)
  | CDI_ROW_SUBST (d : Fin 8)
  | CDI_SUBST_STAT (d : Fin 8)
  | CDI_EDGE_THR (d : Fin 8)
  | CDI_SEAM (d : Fin 8)
  | CDI_SEAM_STALL (d : Fin 8)
  | CDI_MCAST_SKIP (d : Fin 8)
  | CDI_HB_MISS (d : Fin 8)
  | CDI_MAP (d : Fin 8) (r : Fin 4)
  | CDI_EDGE (d : Fin 8) (b : Fin 8)
  | ENG_STATE (s : Site)
  | ENG_CTL (s : Site)
  | ENG_CTX (s : Site)
  | ENG_LS (s : Site)
  | ENG_FAULT (s : Site) (w : Fin 4)
  | ENG_ARITH (s : Site) (n : Fin 5)
  | RTV_QWR (p : Fin 64)
  | RTV_QRD (p : Fin 64)
  | RTV_RRD (p : Fin 64)
  | FLC_STAT (c : Fin 32)
  | FLC_LUN (c : Fin 32)
  | FLC_LUN_FENCE (c : Fin 32)
  | FLC_OPEN (c : Fin 32)
  | FLC_CTL (c : Fin 32)
  | FLC_LOOP (c : Fin 32)
  | FLC_QLEVEL (c : Fin 32)
  | FLC_RD_CNT (c : Fin 32)
  | FLC_CE_BITS (c : Fin 32)
  | FLC_RETRY (c : Fin 32)
  | FLC_UE (c : Fin 32)
  | FLC_PROBE (c : Fin 32)
  | FLC_DISCARD (c : Fin 32)
  | FLC_FAIL (c : Fin 32)
  | FLC_EVT (c : Fin 32)
  | FLC_THR_SEL (c : Fin 32)
  | FLC_THR_DATA (c : Fin 32)
  | FLC_PE_SEL (c : Fin 32)
  | FLC_PE_DATA (c : Fin 32)
  | FLC_RAW_ADDR (c : Fin 32)
  | FLC_RAW_BUF (c : Fin 32)
  | FLC_RAW_PARAM (c : Fin 32)
  | FLC_RAW_CMD (c : Fin 32)
  | FLC_RAW_STAT (c : Fin 32)
  | FLC_BG (c : Fin 32)
  | LNK_ID (l : Fin 2)
  | LNK_CTL (l : Fin 2)
  | LNK_LANE_SEL (l : Fin 2)
  | LNK_LANE (l : Fin 2)
  | LNK_PSTAT (l : Fin 2) (i : Fin 8)
  | LNK_PCTL (l : Fin 2) (i : Fin 8)
  | LNK_FEC (l : Fin 2) (i : Fin 8)
  | LNK_UCW (l : Fin 2) (i : Fin 8)
  | LNK_RTRN (l : Fin 2) (i : Fin 8)
  | LNK_TX (l : Fin 2) (i : Fin 8)
  | LNK_RX (l : Fin 2) (i : Fin 8)
  | LNK_EVT (l : Fin 2) (i : Fin 8)
  | HBR_TGT (t : Fin 15)
  | HBR_VFW_BASE (v : Fin 16)
  | HBR_VFW_LEN (v : Fin 16)
  | HBR_VFDB (v : Fin 16)
  | TEL_HIST (b : Fin 16)
  | LDP_CRASH (w : Fin 32)
  | TST_FAILMAP (w : Fin 22)
  | GLB_ID
  | GLB_FEATURE
  | GLB_STATUS
  | CLK_STAT
  | CLK_CHG
  | CLK_EVT
  | PWR_STATE
  | PWR_CTL
  | PWR_CAP
  | PWR_CEIL
  | PWR_STAT
  | PWR_PKG
  | PWR_VIN
  | PWR_ENERGY
  | PWR_RAIL_SEL
  | PWR_RAIL_V
  | PWR_RAIL_I
  | PWR_RAIL_E
  | PWR_RAIL_FLT
  | PWR_DROOP
  | PWR_IDLE
  | PWR_DIE_CMD
  | PWR_DIE_STAT
  | PWR_EVT
  | THM_CTL
  | THM_SEL
  | THM_NODE
  | THM_DIE
  | THM_WARN
  | THM_THROT
  | THM_HOT
  | THM_MAX
  | THM_EVT
  | BUP_CTL
  | BUP_RST
  | BUP_STAT
  | BUP_CAUSE
  | BUP_FENCED
  | BUP_DIE_SEL
  | BUP_DIE_INFO
  | BUP_LOG_CNT
  | BUP_LOG_SEL
  | BUP_RCV_LEN
  | BUP_RCV_GO
  | BUP_RCV_STAT
  | BUP_BOOT_ID
  | CFG_CTL
  | CFG_LOAD_ADDR_LO
  | CFG_LOAD_ADDR_HI
  | CFG_LOAD_LEN
  | CFG_LOAD_GO
  | CFG_LOAD_STAT
  | CFG_LOAD_SPAN
  | CFG_LOAD_ID
  | CFG_SPAN_SEL
  | CFG_SPAN_STAT
  | CFG_SPAN_CMD
  | CFG_SPAN_ERR
  | CFG_RT_SEL
  | CFG_COMMIT
  | CFG_COMMIT_STAT
  | CFG_SHADOW_CLR
  | CFG_MODE_STAT
  | CFG_PAIR_STAT
  | CFG_PAIR_ABANDON
  | SEC_SERIAL_LO
  | SEC_SERIAL_HI
  | SEC_KEYS
  | SEC_KEY_SEL
  | SEC_LIC
  | SEC_LIC_NUM
  | SEC_VFY
  | SEC_KNOT_OFF
  | SEC_KNOT_GO
  | SEC_KNOT_STAT
  | SEC_ATT_OFF
  | SEC_ATT_GO
  | SEC_ATT_STAT
  | SEC_CERT_SEL
  | SEC_CERT_DATA
  | SEC_EVT
  | ICU_SWI
  | ICU_WAKE
  | ICU_TICK
  | TKT_CTL
  | TKT_SEL
  | TKT_AVG
  | TKT_WIN
  | TKT_RSTAT
  | TKT_HELD
  | TKT_MISS
  | TKT_MISS_LAST
  | TKT_DROP
  | MEM_INST_SEL
  | MEM_CE_CNT
  | MEM_UE_CNT
  | MEM_RCL_STAT
  | MEM_PATCH_STAT
  | MEM_PATCH_SEL
  | MEM_PATCH_ADDR_LO
  | MEM_PATCH_ADDR_HI
  | MEM_PATCH_DATA
  | MEM_PATCH_CTL
  | MEM_EVT
  | MEM_POISON_CNT
  | MEM_FENCE_MACRO
  | MEM_FENCE_STAT
  | MEM_RETIRE_LO
  | MEM_RETIRE_HI
  | MEM_RETIRE_CMD
  | MEM_RETIRE_STAT
  | MEM_FLIP_CTL
  | MEM_FLIP_HIT_LO
  | MEM_FLIP_HIT_HI
  | MEM_SCRUB_BASE_LO
  | MEM_SCRUB_BASE_HI
  | MEM_SCRUB_LEN_LO
  | MEM_SCRUB_LEN_HI
  | MEM_SCRUB_DST
  | MEM_SCRUB_GO
  | MEM_SCRUB_STAT
  | MEM_MAN_CNT
  | MEM_MAN_ADDR_LO
  | MEM_MAN_ADDR_HI
  | MEM_WERR_LO
  | MEM_WERR_HI
  | SBF_PL_CTL
  | SBF_PL_STAT
  | SBF_PL_PROMO
  | SBF_PL_DEMO
  | SBF_PROMO_PAGE
  | SBF_PROMO_CMD
  | SBF_PROMO_STAT
  | GEN_CTL
  | GEN_STATUS
  | GEN_VOCAB
  | GEN_SAMP_GO
  | RTV_ID
  | RTV_STAT
  | RTV_RE_FENCE
  | RTV_WALK
  | RTV_WSLOT
  | RTV_PIPE_SEL
  | RTV_PSTAT
  | RTV_CNT_Q
  | RTV_CNT_F
  | RTV_CNT_U
  | RTV_FAIL
  | RTV_FAIL_IDX
  | RTV_EVT
  | FLC_PATROL
  | FLC_MOUNT
  | FLC_FMT
  | FLC_FMT_PROF
  | FLC_FMT_STAT
  | FLC_CAP
  | FLC_CAP_TOTAL
  | FLC_ZONE_HANDLE
  | FLC_ZONE_CMD
  | FLC_ZONE_STAT
  | FLC_ZONE_WP
  | LNK_GRP
  | LNK_GEN
  | LNK_RESCAN
  | LNK_DEV_SEL
  | LNK_DEV
  | LNK_DEV_INFO
  | LNK_DEV_SN
  | LNK_EXP
  | LNK_OUT
  | HBR_IDS
  | HBR_STAT
  | HBR_CTL
  | HBR_WIN
  | HBR_ERR
  | HBR_ERR_ADDR_LO
  | HBR_ERR_ADDR_HI
  | HBR_TLP_TX
  | HBR_TLP_RX
  | TEL_SNAP
  | TEL_SNAP_STAT
  | TEL_SNAP_SKIP
  | TEL_GRP_MISS_LO
  | TEL_GRP_MISS_HI
  | TEL_CH_SEL
  | TEL_CH_SENT
  | TEL_CH_RCVD
  | TEL_CH_STAT
  | TEL_RING_BASE
  | TEL_RING_LEN
  | TEL_RING_CTL
  | TEL_RING_WR
  | TEL_RING_RD
  | TEL_EVT
  | TEL_HIST_SEL
  | LDP_STAT
  | LDP_ACCESS
  | LDP_ALERT
  | LDP_ALERT_EN
  | LDP_MBOX_IN
  | LDP_MBOX_OUT
  | LDP_CRASH_CLR
  | LDP_FERRY_TMR
  | LDP_FERRY_STAT
  | LDP_REQ
  | LDP_EVT
  | TST_CTL
  | TST_STAT
  | TST_SEL
  | TST_RES
  | TST_IDCODE
  | TST_EVT
  deriving DecidableEq, Repr

/-- The offset of a register from the register base 0x0F00_0000_0000 (R13, R506, R511 to R525). -/
def Reg.offset : Reg → Nat
  | .CLK_HALF d => 0x10040 + d.val * 4
  | .CLK_MAX d => 0x10080 + d.val * 4
  | .PWR_AVS d => 0x20080 + d.val * 4
  | .THM_DIODE k => 0x30040 + k.val * 4
  | .BUP_TS k => 0x40040 + k.val * 4
  | .BUP_LOG_DATA w => 0x40060 + w.val * 4
  | .CFG_IMG_DIGEST w => 0x50080 + w.val * 4
  | .CFG_SPAN_FAULT w => 0x500C0 + w.val * 4
  | .CFG_RT_DATA w => 0x500E0 + w.val * 4
  | .CFG_SPAN_EVT t => 0x50100 + t.val * 4
  | .CFG_DB i => 0x54000 + i.val * 4
  | .SEC_KEY_DIG w => 0x60040 + w.val * 4
  | .SEC_NONCE w => 0x60060 + w.val * 4
  | .ICU_SRC s => 0x70000 + s.val * 4
  | .ICU_TMASK s => 0x70800 + s.val * 4
  | .ICU_COAL s => 0x71000 + s.val * 4
  | .ICU_PEND w => 0x71800 + w.val * 4
  | .ICU_CLAIM t => 0x71900 + t.val * 4
  | .ICU_EOI t => 0x71940 + t.val * 4
  | .ICU_TCTL t => 0x71980 + t.val * 4
  | .ICU_TSTAT t => 0x719C0 + t.val * 4
  | .ICU_TGT t => 0x71A00 + t.val * 4
  | .ICU_FERRY k => 0x71A80 + k.val * 4
  | .TKT_CLS t => 0x80040 + t.val * 4
  | .TKT_TGT t => 0x80080 + t.val * 4
  | .TKT_BW0 t => 0x800C0 + t.val * 4
  | .TKT_BW1 t => 0x80100 + t.val * 4
  | .TKT_QTHR k => 0x80140 + k.val * 4
  | .TKT_ADMIT k => 0x80150 + k.val * 4
  | .MEM_FLIP_DATA c => 0x900C0 + c.val * 4
  | .MEM_FLIP_CHK c => 0x900E0 + c.val * 4
  | .MEM_FLIP_INST c => 0x90100 + c.val * 4
  | .SBF_PART_BASE p => 0xA0000 + p.val * 4
  | .SBF_PART_LEN p => 0xA0400 + p.val * 4
  | .BRG_RING_BASE m => 0xB0000 + m.val * 4
  | .BRG_RING_LEN m => 0xB0040 + m.val * 4
  | .BRG_WR m => 0xB0080 + m.val * 4
  | .BRG_RD m => 0xB00C0 + m.val * 4
  | .BRG_STAT m => 0xB0100 + m.val * 4
  | .BRG_CTL m => 0xB0140 + m.val * 4
  | .GEN_SEQ s => 0xC0100 + s.val * 4
  | .GEN_CNT s => 0xC0200 + s.val * 4
  | .GEN_HIST s => 0xC0300 + s.val * 4
  | .GEN_ORING_WR s => 0xC0400 + s.val * 4
  | .GEN_ORING_RD s => 0xC0500 + s.val * 4
  | .GEN_SAMP s w => 0xC0800 + s.val * 32 + w.val * 4
  | .STK_ID n => 0x100000 + n.val * 0x10000
  | .STK_STAT n => 0x100004 + n.val * 0x10000
  | .STK_PIN_THR n => 0x100008 + n.val * 0x10000
  | .STK_QLEVEL n => 0x10000C + n.val * 0x10000
  | .STK_RD_CNT n => 0x100010 + n.val * 0x10000
  | .STK_WR_CNT n => 0x100014 + n.val * 0x10000
  | .STK_MISS_CNT n => 0x100018 + n.val * 0x10000
  | .STK_PART_BASE p => 0x100400 + p.val * 4
  | .STK_PART_LEN p => 0x100800 + p.val * 4
  | .CWY_DISC p => 0x200000 + p.val * 0x10000
  | .CWY_STAT p => 0x200004 + p.val * 0x10000
  | .CWY_REPAIR p x => 0x200008 + p.val * 0x10000 + x.val * 4
  | .CWY_CTL p => 0x200010 + p.val * 0x10000
  | .CWY_LANE_SEL p => 0x200014 + p.val * 0x10000
  | .CWY_LANE_CNT p => 0x200018 + p.val * 0x10000
  | .CWY_CRC p => 0x20001C + p.val * 0x10000
  | .CWY_TX p => 0x200020 + p.val * 0x10000
  | .CWY_RX p => 0x200024 + p.val * 0x10000
  | .CWY_EVT p => 0x200028 + p.val * 0x10000
  | .CDI_ID d => 0x1000000 + d.val * 0x100000
  | .CDI_CTL d => 0x1000004 + d.val * 0x100000
  | .CDI_STATUS d => 0x1000008 + d.val * 0x100000
  | .CDI_ROW_SUBST d => 0x100000C + d.val * 0x100000
  | .CDI_SUBST_STAT d => 0x1000010 + d.val * 0x100000
  | .CDI_EDGE_THR d => 0x1000014 + d.val * 0x100000
  | .CDI_SEAM d => 0x1000018 + d.val * 0x100000
  | .CDI_SEAM_STALL d => 0x100001C + d.val * 0x100000
  | .CDI_MCAST_SKIP d => 0x1000020 + d.val * 0x100000
  | .CDI_HB_MISS d => 0x1000024 + d.val * 0x100000
  | .CDI_MAP d r => 0x1000040 + d.val * 0x100000 + r.val * 4
  | .CDI_EDGE d b => 0x1000060 + d.val * 0x100000 + b.val * 4
  | .ENG_STATE s => 0x1008000 + s.val / 16 * 0x100000 + s.val % 16 * 0x10000
  | .ENG_CTL s => 0x1008004 + s.val / 16 * 0x100000 + s.val % 16 * 0x10000
  | .ENG_CTX s => 0x1008008 + s.val / 16 * 0x100000 + s.val % 16 * 0x10000
  | .ENG_LS s => 0x100800C + s.val / 16 * 0x100000 + s.val % 16 * 0x10000
  | .ENG_FAULT s w => 0x1008010 + s.val / 16 * 0x100000 + s.val % 16 * 0x10000 + w.val * 4
  | .ENG_ARITH s n => 0x1008020 + s.val / 16 * 0x100000 + s.val % 16 * 0x10000 + n.val * 4
  | .RTV_QWR p => 0x2000100 + p.val * 4
  | .RTV_QRD p => 0x2000200 + p.val * 4
  | .RTV_RRD p => 0x2000300 + p.val * 4
  | .FLC_STAT c => 0x2100000 + c.val * 0x1000
  | .FLC_LUN c => 0x2100004 + c.val * 0x1000
  | .FLC_LUN_FENCE c => 0x2100008 + c.val * 0x1000
  | .FLC_OPEN c => 0x210000C + c.val * 0x1000
  | .FLC_CTL c => 0x2100010 + c.val * 0x1000
  | .FLC_LOOP c => 0x2100014 + c.val * 0x1000
  | .FLC_QLEVEL c => 0x2100018 + c.val * 0x1000
  | .FLC_RD_CNT c => 0x210001C + c.val * 0x1000
  | .FLC_CE_BITS c => 0x2100020 + c.val * 0x1000
  | .FLC_RETRY c => 0x2100024 + c.val * 0x1000
  | .FLC_UE c => 0x2100028 + c.val * 0x1000
  | .FLC_PROBE c => 0x210002C + c.val * 0x1000
  | .FLC_DISCARD c => 0x2100030 + c.val * 0x1000
  | .FLC_FAIL c => 0x2100034 + c.val * 0x1000
  | .FLC_EVT c => 0x2100038 + c.val * 0x1000
  | .FLC_THR_SEL c => 0x210003C + c.val * 0x1000
  | .FLC_THR_DATA c => 0x2100040 + c.val * 0x1000
  | .FLC_PE_SEL c => 0x2100044 + c.val * 0x1000
  | .FLC_PE_DATA c => 0x2100048 + c.val * 0x1000
  | .FLC_RAW_ADDR c => 0x210004C + c.val * 0x1000
  | .FLC_RAW_BUF c => 0x2100050 + c.val * 0x1000
  | .FLC_RAW_PARAM c => 0x2100054 + c.val * 0x1000
  | .FLC_RAW_CMD c => 0x2100058 + c.val * 0x1000
  | .FLC_RAW_STAT c => 0x210005C + c.val * 0x1000
  | .FLC_BG c => 0x2100060 + c.val * 0x1000
  | .LNK_ID l => 0x3000000 + l.val * 0x100000
  | .LNK_CTL l => 0x3000004 + l.val * 0x100000
  | .LNK_LANE_SEL l => 0x3000008 + l.val * 0x100000
  | .LNK_LANE l => 0x300000C + l.val * 0x100000
  | .LNK_PSTAT l i => 0x3000040 + l.val * 0x100000 + i.val * 4
  | .LNK_PCTL l i => 0x3000060 + l.val * 0x100000 + i.val * 4
  | .LNK_FEC l i => 0x3000080 + l.val * 0x100000 + i.val * 4
  | .LNK_UCW l i => 0x30000A0 + l.val * 0x100000 + i.val * 4
  | .LNK_RTRN l i => 0x30000C0 + l.val * 0x100000 + i.val * 4
  | .LNK_TX l i => 0x30000E0 + l.val * 0x100000 + i.val * 4
  | .LNK_RX l i => 0x3000100 + l.val * 0x100000 + i.val * 4
  | .LNK_EVT l i => 0x3000120 + l.val * 0x100000 + i.val * 4
  | .HBR_TGT t => 0x4000040 + t.val * 4
  | .HBR_VFW_BASE v => 0x4000080 + v.val * 4
  | .HBR_VFW_LEN v => 0x40000C0 + v.val * 4
  | .HBR_VFDB v => 0x4000100 + v.val * 4
  | .TEL_HIST b => 0x5000040 + b.val * 4
  | .LDP_CRASH w => 0x6000080 + w.val * 4
  | .TST_FAILMAP w => 0x7000040 + w.val * 4
  | .GLB_ID => 0x0
  | .GLB_FEATURE => 0x4
  | .GLB_STATUS => 0x8
  | .CLK_STAT => 0x10000
  | .CLK_CHG => 0x10004
  | .CLK_EVT => 0x10008
  | .PWR_STATE => 0x20000
  | .PWR_CTL => 0x20004
  | .PWR_CAP => 0x20008
  | .PWR_CEIL => 0x2000C
  | .PWR_STAT => 0x20010
  | .PWR_PKG => 0x20014
  | .PWR_VIN => 0x20018
  | .PWR_ENERGY => 0x2001C
  | .PWR_RAIL_SEL => 0x20020
  | .PWR_RAIL_V => 0x20024
  | .PWR_RAIL_I => 0x20028
  | .PWR_RAIL_E => 0x2002C
  | .PWR_RAIL_FLT => 0x20030
  | .PWR_DROOP => 0x20034
  | .PWR_IDLE => 0x20038
  | .PWR_DIE_CMD => 0x2003C
  | .PWR_DIE_STAT => 0x20040
  | .PWR_EVT => 0x20044
  | .THM_CTL => 0x30000
  | .THM_SEL => 0x30004
  | .THM_NODE => 0x30008
  | .THM_DIE => 0x3000C
  | .THM_WARN => 0x30010
  | .THM_THROT => 0x30014
  | .THM_HOT => 0x30018
  | .THM_MAX => 0x3001C
  | .THM_EVT => 0x30020
  | .BUP_CTL => 0x40000
  | .BUP_RST => 0x40004
  | .BUP_STAT => 0x40008
  | .BUP_CAUSE => 0x4000C
  | .BUP_FENCED => 0x40010
  | .BUP_DIE_SEL => 0x40014
  | .BUP_DIE_INFO => 0x40018
  | .BUP_LOG_CNT => 0x4001C
  | .BUP_LOG_SEL => 0x40020
  | .BUP_RCV_LEN => 0x40024
  | .BUP_RCV_GO => 0x40028
  | .BUP_RCV_STAT => 0x4002C
  | .BUP_BOOT_ID => 0x40030
  | .CFG_CTL => 0x50000
  | .CFG_LOAD_ADDR_LO => 0x50004
  | .CFG_LOAD_ADDR_HI => 0x50008
  | .CFG_LOAD_LEN => 0x5000C
  | .CFG_LOAD_GO => 0x50010
  | .CFG_LOAD_STAT => 0x50014
  | .CFG_LOAD_SPAN => 0x50018
  | .CFG_LOAD_ID => 0x5001C
  | .CFG_SPAN_SEL => 0x50020
  | .CFG_SPAN_STAT => 0x50024
  | .CFG_SPAN_CMD => 0x50028
  | .CFG_SPAN_ERR => 0x5002C
  | .CFG_RT_SEL => 0x50030
  | .CFG_COMMIT => 0x50034
  | .CFG_COMMIT_STAT => 0x50038
  | .CFG_SHADOW_CLR => 0x5003C
  | .CFG_MODE_STAT => 0x50040
  | .CFG_PAIR_STAT => 0x50044
  | .CFG_PAIR_ABANDON => 0x50048
  | .SEC_SERIAL_LO => 0x60000
  | .SEC_SERIAL_HI => 0x60004
  | .SEC_KEYS => 0x60008
  | .SEC_KEY_SEL => 0x6000C
  | .SEC_LIC => 0x60010
  | .SEC_LIC_NUM => 0x60014
  | .SEC_VFY => 0x60018
  | .SEC_KNOT_OFF => 0x6001C
  | .SEC_KNOT_GO => 0x60020
  | .SEC_KNOT_STAT => 0x60024
  | .SEC_ATT_OFF => 0x60028
  | .SEC_ATT_GO => 0x6002C
  | .SEC_ATT_STAT => 0x60030
  | .SEC_CERT_SEL => 0x60034
  | .SEC_CERT_DATA => 0x60038
  | .SEC_EVT => 0x6003C
  | .ICU_SWI => 0x71A40
  | .ICU_WAKE => 0x71A44
  | .ICU_TICK => 0x71A48
  | .TKT_CTL => 0x80000
  | .TKT_SEL => 0x80004
  | .TKT_AVG => 0x80008
  | .TKT_WIN => 0x8000C
  | .TKT_RSTAT => 0x80010
  | .TKT_HELD => 0x80014
  | .TKT_MISS => 0x80018
  | .TKT_MISS_LAST => 0x8001C
  | .TKT_DROP => 0x80020
  | .MEM_INST_SEL => 0x90000
  | .MEM_CE_CNT => 0x90004
  | .MEM_UE_CNT => 0x90008
  | .MEM_RCL_STAT => 0x9000C
  | .MEM_PATCH_STAT => 0x90010
  | .MEM_PATCH_SEL => 0x90014
  | .MEM_PATCH_ADDR_LO => 0x90018
  | .MEM_PATCH_ADDR_HI => 0x9001C
  | .MEM_PATCH_DATA => 0x90020
  | .MEM_PATCH_CTL => 0x90024
  | .MEM_EVT => 0x90028
  | .MEM_POISON_CNT => 0x9002C
  | .MEM_FENCE_MACRO => 0x90030
  | .MEM_FENCE_STAT => 0x90034
  | .MEM_RETIRE_LO => 0x90038
  | .MEM_RETIRE_HI => 0x9003C
  | .MEM_RETIRE_CMD => 0x90040
  | .MEM_RETIRE_STAT => 0x90044
  | .MEM_FLIP_CTL => 0x90048
  | .MEM_FLIP_HIT_LO => 0x9004C
  | .MEM_FLIP_HIT_HI => 0x90050
  | .MEM_SCRUB_BASE_LO => 0x90054
  | .MEM_SCRUB_BASE_HI => 0x90058
  | .MEM_SCRUB_LEN_LO => 0x9005C
  | .MEM_SCRUB_LEN_HI => 0x90060
  | .MEM_SCRUB_DST => 0x90064
  | .MEM_SCRUB_GO => 0x90068
  | .MEM_SCRUB_STAT => 0x9006C
  | .MEM_MAN_CNT => 0x90070
  | .MEM_MAN_ADDR_LO => 0x90074
  | .MEM_MAN_ADDR_HI => 0x90078
  | .MEM_WERR_LO => 0x9007C
  | .MEM_WERR_HI => 0x90080
  | .SBF_PL_CTL => 0xA0800
  | .SBF_PL_STAT => 0xA0804
  | .SBF_PL_PROMO => 0xA0808
  | .SBF_PL_DEMO => 0xA080C
  | .SBF_PROMO_PAGE => 0xA0810
  | .SBF_PROMO_CMD => 0xA0814
  | .SBF_PROMO_STAT => 0xA0818
  | .GEN_CTL => 0xC0000
  | .GEN_STATUS => 0xC0004
  | .GEN_VOCAB => 0xC0008
  | .GEN_SAMP_GO => 0xC000C
  | .RTV_ID => 0x2000000
  | .RTV_STAT => 0x2000004
  | .RTV_RE_FENCE => 0x2000008
  | .RTV_WALK => 0x200000C
  | .RTV_WSLOT => 0x2000010
  | .RTV_PIPE_SEL => 0x2000014
  | .RTV_PSTAT => 0x2000018
  | .RTV_CNT_Q => 0x200001C
  | .RTV_CNT_F => 0x2000020
  | .RTV_CNT_U => 0x2000024
  | .RTV_FAIL => 0x2000028
  | .RTV_FAIL_IDX => 0x200002C
  | .RTV_EVT => 0x2000030
  | .FLC_PATROL => 0x2100100
  | .FLC_MOUNT => 0x2100104
  | .FLC_FMT => 0x2100108
  | .FLC_FMT_PROF => 0x210010C
  | .FLC_FMT_STAT => 0x2100110
  | .FLC_CAP => 0x2100114
  | .FLC_CAP_TOTAL => 0x2100118
  | .FLC_ZONE_HANDLE => 0x210011C
  | .FLC_ZONE_CMD => 0x2100120
  | .FLC_ZONE_STAT => 0x2100124
  | .FLC_ZONE_WP => 0x2100128
  | .LNK_GRP => 0x3000200
  | .LNK_GEN => 0x3000204
  | .LNK_RESCAN => 0x3000208
  | .LNK_DEV_SEL => 0x300020C
  | .LNK_DEV => 0x3000210
  | .LNK_DEV_INFO => 0x3000214
  | .LNK_DEV_SN => 0x3000218
  | .LNK_EXP => 0x300021C
  | .LNK_OUT => 0x3000220
  | .HBR_IDS => 0x4000000
  | .HBR_STAT => 0x4000004
  | .HBR_CTL => 0x4000008
  | .HBR_WIN => 0x400000C
  | .HBR_ERR => 0x4000010
  | .HBR_ERR_ADDR_LO => 0x4000014
  | .HBR_ERR_ADDR_HI => 0x4000018
  | .HBR_TLP_TX => 0x400001C
  | .HBR_TLP_RX => 0x4000020
  | .TEL_SNAP => 0x5000000
  | .TEL_SNAP_STAT => 0x5000004
  | .TEL_SNAP_SKIP => 0x5000008
  | .TEL_GRP_MISS_LO => 0x500000C
  | .TEL_GRP_MISS_HI => 0x5000010
  | .TEL_CH_SEL => 0x5000014
  | .TEL_CH_SENT => 0x5000018
  | .TEL_CH_RCVD => 0x500001C
  | .TEL_CH_STAT => 0x5000020
  | .TEL_RING_BASE => 0x5000024
  | .TEL_RING_LEN => 0x5000028
  | .TEL_RING_CTL => 0x500002C
  | .TEL_RING_WR => 0x5000030
  | .TEL_RING_RD => 0x5000034
  | .TEL_EVT => 0x5000038
  | .TEL_HIST_SEL => 0x500003C
  | .LDP_STAT => 0x6000000
  | .LDP_ACCESS => 0x6000004
  | .LDP_ALERT => 0x6000008
  | .LDP_ALERT_EN => 0x600000C
  | .LDP_MBOX_IN => 0x6000010
  | .LDP_MBOX_OUT => 0x6000014
  | .LDP_CRASH_CLR => 0x6000018
  | .LDP_FERRY_TMR => 0x600001C
  | .LDP_FERRY_STAT => 0x6000020
  | .LDP_REQ => 0x6000024
  | .LDP_EVT => 0x6000028
  | .TST_CTL => 0x7000000
  | .TST_STAT => 0x7000004
  | .TST_SEL => 0x7000008
  | .TST_RES => 0x700000C
  | .TST_IDCODE => 0x7000010
  | .TST_EVT => 0x7000014

/-- What the access codes of a register's fields do, as masks over its bits (R17).  A bit in none of them is
read-only or reserved; `wo` bits read as 0. -/
structure Access where
  rw : Word := 0
  rws : Word := 0
  rwp : Word := 0
  w1c : Word := 0
  rc : Word := 0
  wo : Word := 0
  deriving DecidableEq, Repr

/-- The access masks of every register, from the field tables of the defining chapters. -/
def Reg.access : Reg → Access
  | .CLK_HALF _ => {}
  | .CLK_MAX _ => { rw := 0xF }
  | .PWR_AVS _ => {}
  | .THM_DIODE _ => {}
  | .BUP_TS _ => {}
  | .BUP_LOG_DATA _ => {}
  | .CFG_IMG_DIGEST _ => {}
  | .CFG_SPAN_FAULT _ => {}
  | .CFG_RT_DATA _ => { rwp := 0xFFFFFFFF }
  | .CFG_SPAN_EVT _ => { rc := 0xFFFFFFFF }
  | .CFG_DB _ => { wo := 0xFFFFFFFF }
  | .SEC_KEY_DIG _ => {}
  | .SEC_NONCE _ => { rw := 0xFFFFFFFF }
  | .ICU_SRC _ => { rw := 0xF, w1c := 0x10000 }
  | .ICU_TMASK _ => { rw := 0xFFFF }
  | .ICU_COAL _ => { rw := 0xFFFFFF }
  | .ICU_PEND _ => {}
  | .ICU_CLAIM _ => {}
  | .ICU_EOI _ => { wo := 0xFFFFFFFF }
  | .ICU_TCTL _ => { rw := 0x1F }
  | .ICU_TSTAT _ => { w1c := 0x40000 }
  | .ICU_TGT _ => { rw := 0x1FFFF }
  | .ICU_FERRY _ => { rws := 0x81FF }
  | .TKT_CLS _ => { rw := 0x7 }
  | .TKT_TGT _ => { rwp := 0xFFFFFFFF }
  | .TKT_BW0 _ => { rwp := 0xFFFFFFFF }
  | .TKT_BW1 _ => { rwp := 0xFFFFFFFF }
  | .TKT_QTHR _ => { rw := 0x7FF07FF }
  | .TKT_ADMIT _ => {}
  | .MEM_FLIP_DATA _ => { rw := 0xFFFFFFFF }
  | .MEM_FLIP_CHK _ => { rw := 0xFFFFF }
  | .MEM_FLIP_INST _ => { rw := 0xFF }
  | .SBF_PART_BASE _ => { rwp := 0x1FFFFFFF }
  | .SBF_PART_LEN _ => { rwp := 0x3FFFFFFF }
  | .BRG_RING_BASE _ => { rwp := 0x1FFFFFFF }
  | .BRG_RING_LEN _ => { rwp := 0x1FFFFFF }
  | .BRG_WR _ => { rw := 0xFFFFFFFF }
  | .BRG_RD _ => {}
  | .BRG_STAT _ => { w1c := 0x8 }
  | .BRG_CTL _ => { wo := 0xFFFFFFFF }
  | .GEN_SEQ _ => { rw := 0x1 }
  | .GEN_CNT _ => {}
  | .GEN_HIST _ => { wo := 0xFFFFFFFF }
  | .GEN_ORING_WR _ => {}
  | .GEN_ORING_RD _ => { rw := 0xFFFFFFFF }
  | .GEN_SAMP _ _ => { rw := 0xFFFFFFFF }
  | .STK_ID _ => {}
  | .STK_STAT _ => {}
  | .STK_PIN_THR _ => { rw := 0xFFFF }
  | .STK_QLEVEL _ => { rc := 0x7FF0000 }
  | .STK_RD_CNT _ => {}
  | .STK_WR_CNT _ => {}
  | .STK_MISS_CNT _ => {}
  | .STK_PART_BASE _ => { rwp := 0x1FFFFFF }
  | .STK_PART_LEN _ => { rwp := 0x1FFFFFF }
  | .CWY_DISC _ => {}
  | .CWY_STAT _ => {}
  | .CWY_REPAIR _ _ => {}
  | .CWY_CTL _ => { rw := 0xFFFF0000, wo := 0xFFFF }
  | .CWY_LANE_SEL _ => { rw := 0xFF }
  | .CWY_LANE_CNT _ => { rc := 0xFFFF }
  | .CWY_CRC _ => { rc := 0xFFFFFFFF }
  | .CWY_TX _ => {}
  | .CWY_RX _ => {}
  | .CWY_EVT _ => { w1c := 0x7F }
  | .CDI_ID _ => {}
  | .CDI_CTL _ => { rw := 0x5, rws := 0x2 }
  | .CDI_STATUS _ => {}
  | .CDI_ROW_SUBST _ => { wo := 0xFFFFFFFF }
  | .CDI_SUBST_STAT _ => {}
  | .CDI_EDGE_THR _ => { rw := 0xFF }
  | .CDI_SEAM _ => {}
  | .CDI_SEAM_STALL _ => { rc := 0xFFFFFFFF }
  | .CDI_MCAST_SKIP _ => { rc := 0xFFFF }
  | .CDI_HB_MISS _ => { rc := 0xFFFF }
  | .CDI_MAP _ _ => {}
  | .CDI_EDGE _ _ => { rc := 0xFFFF0000 }
  | .ENG_STATE _ => {}
  | .ENG_CTL _ => { wo := 0xFFFFFFFF }
  | .ENG_CTX _ => {}
  | .ENG_LS _ => {}
  | .ENG_FAULT _ _ => {}
  | .ENG_ARITH _ _ => { rc := 0xFFFFFFFF }
  | .RTV_QWR _ => {}
  | .RTV_QRD _ => {}
  | .RTV_RRD _ => { rw := 0xFFFFFFFF }
  | .FLC_STAT _ => {}
  | .FLC_LUN _ => {}
  | .FLC_LUN_FENCE _ => {}
  | .FLC_OPEN _ => { rw := 0xFFFFFFFF }
  | .FLC_CTL _ => { rw := 0xF }
  | .FLC_LOOP _ => { rw := 0xFFFFFFF }
  | .FLC_QLEVEL _ => { rc := 0x1FF0000 }
  | .FLC_RD_CNT _ => {}
  | .FLC_CE_BITS _ => { rc := 0xFFFFFFFF }
  | .FLC_RETRY _ => { rc := 0xFFFFFFFF }
  | .FLC_UE _ => { rc := 0xFFFFFFFF }
  | .FLC_PROBE _ => { rc := 0xFFFFFFFF }
  | .FLC_DISCARD _ => { rc := 0xFFFF }
  | .FLC_FAIL _ => { rc := 0xFFFFFFFF }
  | .FLC_EVT _ => { w1c := 0x7F }
  | .FLC_THR_SEL _ => { rw := 0xFFFF }
  | .FLC_THR_DATA _ => { rw := 0xFF }
  | .FLC_PE_SEL _ => { rw := 0x3FFFF }
  | .FLC_PE_DATA _ => {}
  | .FLC_RAW_ADDR _ => { rw := 0xFFFFFFFF }
  | .FLC_RAW_BUF _ => { rw := 0x1FFFFFFF }
  | .FLC_RAW_PARAM _ => { rw := 0xFFFFFFFF }
  | .FLC_RAW_CMD _ => { wo := 0xFFFFFFFF }
  | .FLC_RAW_STAT _ => {}
  | .FLC_BG _ => { rw := 0xF }
  | .LNK_ID _ => {}
  | .LNK_CTL _ => { rw := 0xFFFF }
  | .LNK_LANE_SEL _ => { rw := 0x1F }
  | .LNK_LANE _ => {}
  | .LNK_PSTAT _ _ => {}
  | .LNK_PCTL _ _ => { rw := 0x2, wo := 0x1 }
  | .LNK_FEC _ _ => { rc := 0xFFFFFFFF }
  | .LNK_UCW _ _ => { rc := 0xFFFFFFFF }
  | .LNK_RTRN _ _ => { rc := 0xFFFF }
  | .LNK_TX _ _ => {}
  | .LNK_RX _ _ => {}
  | .LNK_EVT _ _ => { w1c := 0x1F }
  | .HBR_TGT _ => { rw := 0x1FFFF }
  | .HBR_VFW_BASE _ => { rwp := 0xFFFFFFFF }
  | .HBR_VFW_LEN _ => { rwp := 0x3F07FF }
  | .HBR_VFDB _ => { rw := 0x1FFFFFF }
  | .TEL_HIST _ => {}
  | .LDP_CRASH _ => {}
  | .TST_FAILMAP _ => {}
  | .GLB_ID => {}
  | .GLB_FEATURE => {}
  | .GLB_STATUS => {}
  | .CLK_STAT => {}
  | .CLK_CHG => { rc := 0xFFFFFFFF }
  | .CLK_EVT => { rws := 0x1 }
  | .PWR_STATE => {}
  | .PWR_CTL => { wo := 0xFFFFFFFF }
  | .PWR_CAP => { rw := 0x7FF07FF }
  | .PWR_CEIL => { rw := 0x7F01FF }
  | .PWR_STAT => {}
  | .PWR_PKG => { rc := 0xFFF0000 }
  | .PWR_VIN => {}
  | .PWR_ENERGY => {}
  | .PWR_RAIL_SEL => { rw := 0x7F }
  | .PWR_RAIL_V => {}
  | .PWR_RAIL_I => {}
  | .PWR_RAIL_E => {}
  | .PWR_RAIL_FLT => {}
  | .PWR_DROOP => { rc := 0xFFFFFFFF }
  | .PWR_IDLE => { rw := 0xFFFF }
  | .PWR_DIE_CMD => { wo := 0xFFFFFFFF }
  | .PWR_DIE_STAT => {}
  | .PWR_EVT => { w1c := 0x3F }
  | .THM_CTL => { rw := 0xFFFFF }
  | .THM_SEL => { rw := 0x1FF }
  | .THM_NODE => {}
  | .THM_DIE => {}
  | .THM_WARN => {}
  | .THM_THROT => {}
  | .THM_HOT => {}
  | .THM_MAX => { rc := 0xFFF }
  | .THM_EVT => { w1c := 0x3F }
  | .BUP_CTL => { rws := 0x3 }
  | .BUP_RST => { wo := 0xFFFFFFFF }
  | .BUP_STAT => { w1c := 0x2000 }
  | .BUP_CAUSE => {}
  | .BUP_FENCED => {}
  | .BUP_DIE_SEL => { rw := 0x1F }
  | .BUP_DIE_INFO => {}
  | .BUP_LOG_CNT => {}
  | .BUP_LOG_SEL => { rw := 0x1FFFF }
  | .BUP_RCV_LEN => { rw := 0xFFFFFFFF }
  | .BUP_RCV_GO => { wo := 0xFFFFFFFF }
  | .BUP_RCV_STAT => { w1c := 0x800 }
  | .BUP_BOOT_ID => {}
  | .CFG_CTL => { rw := 0x1 }
  | .CFG_LOAD_ADDR_LO => { rw := 0xFFFFFFFF }
  | .CFG_LOAD_ADDR_HI => { rw := 0x1FFFF }
  | .CFG_LOAD_LEN => { rw := 0xFFFFFFFF }
  | .CFG_LOAD_GO => { wo := 0xFFFFFFFF }
  | .CFG_LOAD_STAT => { w1c := 0xF000 }
  | .CFG_LOAD_SPAN => {}
  | .CFG_LOAD_ID => {}
  | .CFG_SPAN_SEL => { rw := 0xFFF }
  | .CFG_SPAN_STAT => {}
  | .CFG_SPAN_CMD => { wo := 0xFFFFFFFF }
  | .CFG_SPAN_ERR => { w1c := 0x1, rc := 0xFF00 }
  | .CFG_RT_SEL => { rw := 0xFFF }
  | .CFG_COMMIT => { wo := 0xFFFFFFFF }
  | .CFG_COMMIT_STAT => {}
  | .CFG_SHADOW_CLR => { wo := 0xFFFFFFFF }
  | .CFG_MODE_STAT => {}
  | .CFG_PAIR_STAT => { w1c := 0x6 }
  | .CFG_PAIR_ABANDON => { wo := 0xFFFFFFFF }
  | .SEC_SERIAL_LO => {}
  | .SEC_SERIAL_HI => {}
  | .SEC_KEYS => {}
  | .SEC_KEY_SEL => { rw := 0x3 }
  | .SEC_LIC => {}
  | .SEC_LIC_NUM => {}
  | .SEC_VFY => { rc := 0xFFFF0000 }
  | .SEC_KNOT_OFF => { rw := 0x1FFFFFFF }
  | .SEC_KNOT_GO => { wo := 0xFFFFFFFF }
  | .SEC_KNOT_STAT => {}
  | .SEC_ATT_OFF => { rw := 0x1FFFFFFF }
  | .SEC_ATT_GO => { wo := 0xFFFFFFFF }
  | .SEC_ATT_STAT => { w1c := 0x4 }
  | .SEC_CERT_SEL => { rw := 0x3FF }
  | .SEC_CERT_DATA => {}
  | .SEC_EVT => { w1c := 0xF }
  | .ICU_SWI => { wo := 0xFFFFFFFF }
  | .ICU_WAKE => { rws := 0x1 }
  | .ICU_TICK => {}
  | .TKT_CTL => { rw := 0xFF0FFF }
  | .TKT_SEL => { rw := 0xF7F }
  | .TKT_AVG => {}
  | .TKT_WIN => {}
  | .TKT_RSTAT => {}
  | .TKT_HELD => { rc := 0xFFFFFFFF }
  | .TKT_MISS => { w1c := 0xFFFF }
  | .TKT_MISS_LAST => { rc := 0xFF0000 }
  | .TKT_DROP => {}
  | .MEM_INST_SEL => { rw := 0x3FF }
  | .MEM_CE_CNT => { rc := 0xFFFFFFFF }
  | .MEM_UE_CNT => { rc := 0xFFFFFFFF }
  | .MEM_RCL_STAT => { rc := 0xFFFF0000 }
  | .MEM_PATCH_STAT => { rc := 0xFFFF0000 }
  | .MEM_PATCH_SEL => { rw := 0x7 }
  | .MEM_PATCH_ADDR_LO => {}
  | .MEM_PATCH_ADDR_HI => {}
  | .MEM_PATCH_DATA => {}
  | .MEM_PATCH_CTL => { wo := 0xFFFFFFFF }
  | .MEM_EVT => {}
  | .MEM_POISON_CNT => { rc := 0xFFFFFFFF }
  | .MEM_FENCE_MACRO => { wo := 0xFF7F }
  | .MEM_FENCE_STAT => {}
  | .MEM_RETIRE_LO => { rw := 0xFFFFFFFF }
  | .MEM_RETIRE_HI => { rw := 0xFFFF }
  | .MEM_RETIRE_CMD => { wo := 0xFFFFFFFF }
  | .MEM_RETIRE_STAT => {}
  | .MEM_FLIP_CTL => { rw := 0x3F }
  | .MEM_FLIP_HIT_LO => {}
  | .MEM_FLIP_HIT_HI => {}
  | .MEM_SCRUB_BASE_LO => { rw := 0xFFFFFFFF }
  | .MEM_SCRUB_BASE_HI => { rw := 0xFFFF }
  | .MEM_SCRUB_LEN_LO => { rw := 0xFFFFFFFF }
  | .MEM_SCRUB_LEN_HI => { rw := 0xFFFF }
  | .MEM_SCRUB_DST => { rw := 0x1FFFFFFF }
  | .MEM_SCRUB_GO => { wo := 0xF3 }
  | .MEM_SCRUB_STAT => {}
  | .MEM_MAN_CNT => { rc := 0xFFFFFFFF }
  | .MEM_MAN_ADDR_LO => {}
  | .MEM_MAN_ADDR_HI => {}
  | .MEM_WERR_LO => {}
  | .MEM_WERR_HI => { rc := 0xFF0000 }
  | .SBF_PL_CTL => { rw := 0xFFFFF03 }
  | .SBF_PL_STAT => {}
  | .SBF_PL_PROMO => { rc := 0xFFFFFFFF }
  | .SBF_PL_DEMO => { rc := 0xFFFFFFFF }
  | .SBF_PROMO_PAGE => { rw := 0xFFFFFF }
  | .SBF_PROMO_CMD => { wo := 0xFFFFFFFF }
  | .SBF_PROMO_STAT => {}
  | .GEN_CTL => { rw := 0x3 }
  | .GEN_STATUS => { w1c := 0x80, rc := 0xFFFF00 }
  | .GEN_VOCAB => {}
  | .GEN_SAMP_GO => { wo := 0xFFFFFFFF }
  | .RTV_ID => {}
  | .RTV_STAT => {}
  | .RTV_RE_FENCE => { wo := 0xFFFFFFFF }
  | .RTV_WALK => {}
  | .RTV_WSLOT => {}
  | .RTV_PIPE_SEL => { rw := 0x3F }
  | .RTV_PSTAT => {}
  | .RTV_CNT_Q => { rc := 0xFFFFFFFF }
  | .RTV_CNT_F => { rc := 0xFFFFFFFF }
  | .RTV_CNT_U => {}
  | .RTV_FAIL => {}
  | .RTV_FAIL_IDX => {}
  | .RTV_EVT => { w1c := 0x3F }
  | .FLC_PATROL => { rw := 0xFFFFFFFF }
  | .FLC_MOUNT => {}
  | .FLC_FMT => { wo := 0xFFFFFFFF }
  | .FLC_FMT_PROF => { rw := 0x1FFFFFFF }
  | .FLC_FMT_STAT => {}
  | .FLC_CAP => {}
  | .FLC_CAP_TOTAL => {}
  | .FLC_ZONE_HANDLE => { rw := 0xFFFFFFFF }
  | .FLC_ZONE_CMD => { wo := 0xFFFFFFFF }
  | .FLC_ZONE_STAT => {}
  | .FLC_ZONE_WP => {}
  | .LNK_GRP => {}
  | .LNK_GEN => {}
  | .LNK_RESCAN => { wo := 0xFFFFFFFF }
  | .LNK_DEV_SEL => { rw := 0x3F }
  | .LNK_DEV => {}
  | .LNK_DEV_INFO => {}
  | .LNK_DEV_SN => {}
  | .LNK_EXP => { rc := 0xFFFF }
  | .LNK_OUT => {}
  | .HBR_IDS => {}
  | .HBR_STAT => {}
  | .HBR_CTL => { rw := 0x7, wo := 0x8 }
  | .HBR_WIN => { rw := 0x1FFFFFF }
  | .HBR_ERR => { w1c := 0x7F, rc := 0xFFFF0000 }
  | .HBR_ERR_ADDR_LO => {}
  | .HBR_ERR_ADDR_HI => {}
  | .HBR_TLP_TX => {}
  | .HBR_TLP_RX => {}
  | .TEL_SNAP => { wo := 0xFFFFFFFF }
  | .TEL_SNAP_STAT => { rc := 0xF0 }
  | .TEL_SNAP_SKIP => {}
  | .TEL_GRP_MISS_LO => {}
  | .TEL_GRP_MISS_HI => {}
  | .TEL_CH_SEL => { rw := 0xFF }
  | .TEL_CH_SENT => {}
  | .TEL_CH_RCVD => {}
  | .TEL_CH_STAT => {}
  | .TEL_RING_BASE => { rw := 0x1FFFFFFF }
  | .TEL_RING_LEN => { rw := 0x1FFFFFFF }
  | .TEL_RING_CTL => { rw := 0xFFFF0001 }
  | .TEL_RING_WR => {}
  | .TEL_RING_RD => { rw := 0xFFFFFFFF }
  | .TEL_EVT => { w1c := 0x7 }
  | .TEL_HIST_SEL => { rw := 0xF7F }
  | .LDP_STAT => {}
  | .LDP_ACCESS => { rws := 0x3 }
  | .LDP_ALERT => { w1c := 0xF }
  | .LDP_ALERT_EN => { rws := 0xF }
  | .LDP_MBOX_IN => { rw := 0xFFFFFFFF }
  | .LDP_MBOX_OUT => { rw := 0xFFFFFFFF }
  | .LDP_CRASH_CLR => { wo := 0xFFFFFFFF }
  | .LDP_FERRY_TMR => { rws := 0xFFFFFF }
  | .LDP_FERRY_STAT => {}
  | .LDP_REQ => { rc := 0xFFFFFF }
  | .LDP_EVT => { w1c := 0xF }
  | .TST_CTL => { wo := 0xFFFFFFFF }
  | .TST_STAT => {}
  | .TST_SEL => { rw := 0xFF }
  | .TST_RES => {}
  | .TST_IDCODE => {}
  | .TST_EVT => { w1c := 0x3 }

/-- Whether interrupt source `s` is a level source (R400). -/
def levelSource (s : Nat) : Bool := (32 ≤ s && s ≤ 47) || (256 ≤ s && s ≤ 287) || (320 ≤ s && s ≤ 335)

/-- The value of a register after a cold reset (the Reset columns; R511 to R525).  Where the table says *Per die*, *Fused*,
*Strap*, *Log*, *Per start* and the like, the value is the model's, as notes/assumptions names it.  DESIGN CHOICE, log entry 4. -/
def Reg.reset : Reg → Word
  | .CLK_HALF _ => 0
  | .CLK_MAX _ => 0
  | .PWR_AVS _ => 0
  | .THM_DIODE _ => 0
  | .BUP_TS _ => 0
  | .BUP_LOG_DATA _ => 0
  | .CFG_IMG_DIGEST _ => 0
  | .CFG_SPAN_FAULT _ => 0
  | .CFG_RT_DATA _ => 0
  | .CFG_SPAN_EVT _ => 0
  | .CFG_DB _ => 0
  | .SEC_KEY_DIG _ => 0
  | .SEC_NONCE _ => 0
  | .ICU_SRC s => if levelSource s.val then 0x10 else 0
  | .ICU_TMASK _ => 0
  | .ICU_COAL _ => 0x1
  | .ICU_PEND _ => 0
  | .ICU_CLAIM _ => 0x3FF
  | .ICU_EOI _ => 0
  | .ICU_TCTL _ => 0
  | .ICU_TSTAT _ => 0x3FF00
  | .ICU_TGT _ => 0
  | .ICU_FERRY _ => 0
  | .TKT_CLS _ => 0
  | .TKT_TGT _ => 0
  | .TKT_BW0 _ => 0
  | .TKT_BW1 _ => 0
  | .TKT_QTHR k => if k = 0 then 0x03000200 else if k = 1 then 0x00300020 else 0x00C00080
  | .TKT_ADMIT _ => 0
  | .MEM_FLIP_DATA _ => 0
  | .MEM_FLIP_CHK _ => 0
  | .MEM_FLIP_INST _ => 0
  | .SBF_PART_BASE _ => 0
  | .SBF_PART_LEN _ => 0
  | .BRG_RING_BASE _ => 0
  | .BRG_RING_LEN _ => 0
  | .BRG_WR _ => 0
  | .BRG_RD _ => 0
  | .BRG_STAT _ => 0
  | .BRG_CTL _ => 0
  | .GEN_SEQ _ => 0
  | .GEN_CNT _ => 0
  | .GEN_HIST _ => 0
  | .GEN_ORING_WR _ => 0
  | .GEN_ORING_RD _ => 0
  | .GEN_SAMP _ _ => 0
  | .STK_ID n => BitVec.ofNat 32 (n.val * 0x10000)
  | .STK_STAT _ => 0
  | .STK_PIN_THR _ => 0x100
  | .STK_QLEVEL _ => 0
  | .STK_RD_CNT _ => 0
  | .STK_WR_CNT _ => 0
  | .STK_MISS_CNT _ => 0
  | .STK_PART_BASE _ => 0
  | .STK_PART_LEN _ => 0
  | .CWY_DISC _ => 0
  | .CWY_STAT _ => 0
  | .CWY_REPAIR _ _ => 0x7F7F7F7F
  | .CWY_CTL _ => 0x400000
  | .CWY_LANE_SEL _ => 0
  | .CWY_LANE_CNT _ => 0
  | .CWY_CRC _ => 0
  | .CWY_TX _ => 0
  | .CWY_RX _ => 0
  | .CWY_EVT _ => 0
  | .CDI_ID d => BitVec.ofNat 32 ((d.val + 1) * 0x10000)
  | .CDI_CTL _ => 0x4
  | .CDI_STATUS _ => 0xF
  | .CDI_ROW_SUBST _ => 0
  | .CDI_SUBST_STAT _ => 0
  | .CDI_EDGE_THR _ => 0x50
  | .CDI_SEAM _ => 0x10
  | .CDI_SEAM_STALL _ => 0
  | .CDI_MCAST_SKIP _ => 0
  | .CDI_HB_MISS _ => 0
  | .CDI_MAP _ _ => 0x00020064
  | .CDI_EDGE _ _ => 0
  | .ENG_STATE _ => 0
  | .ENG_CTL _ => 0
  | .ENG_CTX _ => 0
  | .ENG_LS _ => 0x8000
  | .ENG_FAULT _ _ => 0
  | .ENG_ARITH _ _ => 0
  | .RTV_QWR _ => 0
  | .RTV_QRD _ => 0
  | .RTV_RRD _ => 0
  | .FLC_STAT _ => 0
  | .FLC_LUN _ => 0
  | .FLC_LUN_FENCE _ => 0
  | .FLC_OPEN _ => 0
  | .FLC_CTL _ => 0x7
  | .FLC_LOOP _ => 0x4040810
  | .FLC_QLEVEL _ => 0
  | .FLC_RD_CNT _ => 0
  | .FLC_CE_BITS _ => 0
  | .FLC_RETRY _ => 0
  | .FLC_UE _ => 0
  | .FLC_PROBE _ => 0
  | .FLC_DISCARD _ => 0
  | .FLC_FAIL _ => 0
  | .FLC_EVT _ => 0
  | .FLC_THR_SEL _ => 0
  | .FLC_THR_DATA _ => 0
  | .FLC_PE_SEL _ => 0
  | .FLC_PE_DATA _ => 0
  | .FLC_RAW_ADDR _ => 0
  | .FLC_RAW_BUF _ => 0
  | .FLC_RAW_PARAM _ => 0
  | .FLC_RAW_CMD _ => 0
  | .FLC_RAW_STAT _ => 0
  | .FLC_BG _ => 0xF
  | .LNK_ID l => BitVec.ofNat 32 (l.val * 0x10000)
  | .LNK_CTL _ => 0x10
  | .LNK_LANE_SEL _ => 0
  | .LNK_LANE _ => 0
  | .LNK_PSTAT _ _ => 0
  | .LNK_PCTL _ _ => 0
  | .LNK_FEC _ _ => 0
  | .LNK_UCW _ _ => 0
  | .LNK_RTRN _ _ => 0
  | .LNK_TX _ _ => 0
  | .LNK_RX _ _ => 0
  | .LNK_EVT _ _ => 0
  | .HBR_TGT _ => 0
  | .HBR_VFW_BASE _ => 0
  | .HBR_VFW_LEN _ => 0
  | .HBR_VFDB _ => 0
  | .TEL_HIST _ => 0
  | .LDP_CRASH _ => 0
  | .TST_FAILMAP _ => 0
  | .GLB_ID => 0x4820
  | .GLB_FEATURE => 0x100
  | .GLB_STATUS => 0
  | .CLK_STAT => 0
  | .CLK_CHG => 0
  | .CLK_EVT => 0
  | .PWR_STATE => 0
  | .PWR_CTL => 0
  | .PWR_CAP => 0x7D00708
  | .PWR_CEIL => 0x320190
  | .PWR_STAT => 0
  | .PWR_PKG => 0
  | .PWR_VIN => 0
  | .PWR_ENERGY => 0
  | .PWR_RAIL_SEL => 0
  | .PWR_RAIL_V => 0
  | .PWR_RAIL_I => 0
  | .PWR_RAIL_E => 0
  | .PWR_RAIL_FLT => 0
  | .PWR_DROOP => 0
  | .PWR_IDLE => 0x400
  | .PWR_DIE_CMD => 0
  | .PWR_DIE_STAT => 0
  | .PWR_EVT => 0
  | .THM_CTL => 0x7305695F
  | .THM_SEL => 0
  | .THM_NODE => 0
  | .THM_DIE => 0
  | .THM_WARN => 0
  | .THM_THROT => 0
  | .THM_HOT => 0
  | .THM_MAX => 0
  | .THM_EVT => 0
  | .BUP_CTL => 0
  | .BUP_RST => 0
  | .BUP_STAT => 0
  | .BUP_CAUSE => 0
  | .BUP_FENCED => 0
  | .BUP_DIE_SEL => 0
  | .BUP_DIE_INFO => 0
  | .BUP_LOG_CNT => 0
  | .BUP_LOG_SEL => 0
  | .BUP_RCV_LEN => 0
  | .BUP_RCV_GO => 0
  | .BUP_RCV_STAT => 0
  | .BUP_BOOT_ID => 0
  | .CFG_CTL => 0
  | .CFG_LOAD_ADDR_LO => 0
  | .CFG_LOAD_ADDR_HI => 0
  | .CFG_LOAD_LEN => 0
  | .CFG_LOAD_GO => 0
  | .CFG_LOAD_STAT => 0
  | .CFG_LOAD_SPAN => 0
  | .CFG_LOAD_ID => 0
  | .CFG_SPAN_SEL => 0
  | .CFG_SPAN_STAT => 0
  | .CFG_SPAN_CMD => 0
  | .CFG_SPAN_ERR => 0
  | .CFG_RT_SEL => 0
  | .CFG_COMMIT => 0
  | .CFG_COMMIT_STAT => 0
  | .CFG_SHADOW_CLR => 0
  | .CFG_MODE_STAT => 0
  | .CFG_PAIR_STAT => 0
  | .CFG_PAIR_ABANDON => 0
  | .SEC_SERIAL_LO => 0
  | .SEC_SERIAL_HI => 0
  | .SEC_KEYS => 0
  | .SEC_KEY_SEL => 0
  | .SEC_LIC => 0
  | .SEC_LIC_NUM => 0
  | .SEC_VFY => 0
  | .SEC_KNOT_OFF => 0
  | .SEC_KNOT_GO => 0
  | .SEC_KNOT_STAT => 0
  | .SEC_ATT_OFF => 0
  | .SEC_ATT_GO => 0
  | .SEC_ATT_STAT => 0
  | .SEC_CERT_SEL => 0
  | .SEC_CERT_DATA => 0
  | .SEC_EVT => 0
  | .ICU_SWI => 0
  | .ICU_WAKE => 0
  | .ICU_TICK => 0
  | .TKT_CTL => 0x10041F
  | .TKT_SEL => 0
  | .TKT_AVG => 0
  | .TKT_WIN => 0
  | .TKT_RSTAT => 0
  | .TKT_HELD => 0
  | .TKT_MISS => 0
  | .TKT_MISS_LAST => 0
  | .TKT_DROP => 0
  | .MEM_INST_SEL => 0
  | .MEM_CE_CNT => 0
  | .MEM_UE_CNT => 0
  | .MEM_RCL_STAT => 0
  | .MEM_PATCH_STAT => 0
  | .MEM_PATCH_SEL => 0
  | .MEM_PATCH_ADDR_LO => 0
  | .MEM_PATCH_ADDR_HI => 0
  | .MEM_PATCH_DATA => 0
  | .MEM_PATCH_CTL => 0
  | .MEM_EVT => 0
  | .MEM_POISON_CNT => 0
  | .MEM_FENCE_MACRO => 0
  | .MEM_FENCE_STAT => 0
  | .MEM_RETIRE_LO => 0
  | .MEM_RETIRE_HI => 0
  | .MEM_RETIRE_CMD => 0
  | .MEM_RETIRE_STAT => 0
  | .MEM_FLIP_CTL => 0
  | .MEM_FLIP_HIT_LO => 0
  | .MEM_FLIP_HIT_HI => 0
  | .MEM_SCRUB_BASE_LO => 0
  | .MEM_SCRUB_BASE_HI => 0
  | .MEM_SCRUB_LEN_LO => 0
  | .MEM_SCRUB_LEN_HI => 0
  | .MEM_SCRUB_DST => 0
  | .MEM_SCRUB_GO => 0
  | .MEM_SCRUB_STAT => 0
  | .MEM_MAN_CNT => 0
  | .MEM_MAN_ADDR_LO => 0
  | .MEM_MAN_ADDR_HI => 0
  | .MEM_WERR_LO => 0
  | .MEM_WERR_HI => 0
  | .SBF_PL_CTL => 0x4042000
  | .SBF_PL_STAT => 0
  | .SBF_PL_PROMO => 0
  | .SBF_PL_DEMO => 0
  | .SBF_PROMO_PAGE => 0
  | .SBF_PROMO_CMD => 0
  | .SBF_PROMO_STAT => 0
  | .GEN_CTL => 0
  | .GEN_STATUS => 0
  | .GEN_VOCAB => 0
  | .GEN_SAMP_GO => 0
  | .RTV_ID => 0
  | .RTV_STAT => 0
  | .RTV_RE_FENCE => 0
  | .RTV_WALK => 0
  | .RTV_WSLOT => 0
  | .RTV_PIPE_SEL => 0
  | .RTV_PSTAT => 0
  | .RTV_CNT_Q => 0
  | .RTV_CNT_F => 0
  | .RTV_CNT_U => 0
  | .RTV_FAIL => 0
  | .RTV_FAIL_IDX => 0
  | .RTV_EVT => 0
  | .FLC_PATROL => 0x19197818
  | .FLC_MOUNT => 0
  | .FLC_FMT => 0
  | .FLC_FMT_PROF => 0
  | .FLC_FMT_STAT => 0
  | .FLC_CAP => 0
  | .FLC_CAP_TOTAL => 0
  | .FLC_ZONE_HANDLE => 0
  | .FLC_ZONE_CMD => 0
  | .FLC_ZONE_STAT => 0
  | .FLC_ZONE_WP => 0
  | .LNK_GRP => 0
  | .LNK_GEN => 0
  | .LNK_RESCAN => 0
  | .LNK_DEV_SEL => 0
  | .LNK_DEV => 0
  | .LNK_DEV_INFO => 0
  | .LNK_DEV_SN => 0
  | .LNK_EXP => 0
  | .LNK_OUT => 0
  | .HBR_IDS => 0x48200000
  | .HBR_STAT => 0
  | .HBR_CTL => 0x6
  | .HBR_WIN => 0x1800
  | .HBR_ERR => 0
  | .HBR_ERR_ADDR_LO => 0
  | .HBR_ERR_ADDR_HI => 0
  | .HBR_TLP_TX => 0
  | .HBR_TLP_RX => 0
  | .TEL_SNAP => 0
  | .TEL_SNAP_STAT => 0
  | .TEL_SNAP_SKIP => 0
  | .TEL_GRP_MISS_LO => 0
  | .TEL_GRP_MISS_HI => 0
  | .TEL_CH_SEL => 0
  | .TEL_CH_SENT => 0
  | .TEL_CH_RCVD => 0
  | .TEL_CH_STAT => 0
  | .TEL_RING_BASE => 0
  | .TEL_RING_LEN => 0
  | .TEL_RING_CTL => 0x320000
  | .TEL_RING_WR => 0
  | .TEL_RING_RD => 0
  | .TEL_EVT => 0
  | .TEL_HIST_SEL => 0
  | .LDP_STAT => 0
  | .LDP_ACCESS => 0x3
  | .LDP_ALERT => 0
  | .LDP_ALERT_EN => 0xF
  | .LDP_MBOX_IN => 0
  | .LDP_MBOX_OUT => 0
  | .LDP_CRASH_CLR => 0
  | .LDP_FERRY_TMR => 0
  | .LDP_FERRY_STAT => 0
  | .LDP_REQ => 0
  | .LDP_EVT => 0
  | .TST_CTL => 0
  | .TST_STAT => 0
  | .TST_SEL => 0
  | .TST_RES => 0
  | .TST_IDCODE => 0
  | .TST_EVT => 0

end Sys2Proof.Machine
end

