-- ==== Sys2Proof/Machine/State.lean ====
section
/-! DEFINITION. The state of the device: every register, memory, queue, counter, mode and pin that the spec gives it, as
plain data; its faults and refusals; and the state after reset. -/

namespace Sys2Proof.Machine

/-- Why a step stops with a fault.  DESIGN CHOICE, log entry 9. -/
inductive Fault where
  /-- Raised by a meaning whose command has an operand that no command of the device can carry (WellFormed): a data list
  whose length is not the one stated, or an offset outside the register range.  Safe: the device has no such command. -/
  | illFormed (what : String)
  deriving DecidableEq, Repr

/-- Why a step is refused. -/
inductive Refusal where
  /-- The command has no meaning yet, by its mnemonic.  Safe: the machine stops. -/
  | notModelled (mnemonic : String)
  deriving DecidableEq, Repr

/-- The outcome of a command. -/
abbrev Res (σ : Type) := Host.Outcome σ Fault Refusal

/-! ### The interrupt controller (file 15_interrupts.md) -/

/-- One interrupt source (R401 to R407); its PRIO, target mask and coalescing stand in its registers. -/
structure SrcState where
  count : Nat
  ovf : Bool
  insvc : Bool
  /-- target holding the source in service -/
  tgt : Nat
  /-- line of a level source -/
  line : Bool
  /-- tick at which the coalescing window opened -/
  win : Option Nat
  /-- the window's ticks have passed since it opened -/
  expired : Bool
  deriving DecidableEq, Repr, Inhabited

/-- One interrupt target (R404, R405): the claims in service, the latest first, each with the running priority it
replaced; the running priority; the outstanding flag, and whether the message is still held. -/
structure TgtState where
  stack : List (Nat × Nat)
  run : Nat
  out : Bool
  held : Bool
  /-- the source whose presentation the held message reports -/
  heldPrio : Nat
  eoiErr : Bool
  deriving DecidableEq, Repr, Inhabited

/-- The interrupt controller: its sources, targets, the source last claimed at each priority (R406), and ICU_TICK. -/
structure Icu where
  src : Tab SrcState
  tgt : Tab TgtState
  last : Tab (Option Nat)
  tick : Nat
  deriving DecidableEq, Repr, Inhabited

/-! ### Memory and its protection (files 06_memory_map.md and 07_memory_protection.md) -/

/-- An entry of a patch table (R198): the word's cell, its data, and whether the entry's parity fails. -/
structure Patch where
  key : Nat
  data : Word
  bad : Bool
  deriving DecidableEq, Repr

/-- The protection state of one memory instance (R191, R197 to R199): counters, the recent-correction list (oldest
first), and the patch table. -/
structure MemInst where
  ce : Nat
  ue : Nat
  rcl : List Nat
  evict : Nat
  patch : Tab (Option Patch)
  full : Bool
  overflow : Nat
  deriving DecidableEq, Repr, Inhabited

/-- Every memory of the device, by physical cell.  `data` lists the bytes that are not zero (R208: the initial fill is
zero); `syn` the stored check bits exclusive-or the check bits of the stored data, where not 0 (keyed by byte in a
byte-lane memory and by word in a word-coded one); `man` the stored manifest of a 256-byte block where a value has been
stored since the fill.  `insts` is keyed by class × 128 + instance.  `pinCnt` and `pinReads` are the per-pin correction
counts and the reads of the window of R167.  `evts` are sources that the memory has raised within the running command.
DEDUCED, log entry 2. -/
structure MemUnit where
  data : List Host.Cell
  syn : Tab Nat
  man : Tab (Option Word)
  insts : Tab MemInst
  poisonCnt : Nat
  manCnt : Nat
  manAddr : Nat
  manPoint : Nat
  fullEvt : Nat × Nat
  ueEvt : Nat × Nat
  werrAddr : Nat
  werrCnt : Nat
  flipHit : Nat × Nat
  pinCnt : Tab Nat
  pinReads : Tab Nat
  /-- stack n has PIN_FAULT: its faulty pin -/
  pinFault : Tab (Option Nat)
  /-- retired 64 KiB pages, by the cell of their first byte (R201) -/
  retired : List Nat
  /-- patch entries created and corrections seen since the running scrub or command began -/
  newPatches : List Nat
  newCe : List Nat
  newUe : List Nat
  evts : List Nat
  deriving DecidableEq, Repr, Inhabited

/-- A running scrub pass (R211). -/
structure Scrub where
  base : Nat
  len : Nat
  ticket : Nat
  /-- bytes scanned -/
  at_ : Nat
  stop : Bool
  refused : Bool
  ce : Nat
  ue : Nat
  patched : Nat
  seen : Nat
  first : Option Nat
  last : Option Nat
  deriving DecidableEq, Repr, Inhabited

/-- The memory patches and keep-area contents that a warm reset with MEM_KEEP carries over (R141, R209), and the extents
of the loaded image kept there (R143). -/
structure Keep where
  valid : Bool
  patches : List (Nat × Nat × Patch)
  extents : List (Nat × Nat × Nat)
  ilMode : Nat
  deriving DecidableEq, Repr, Inhabited

/-! ### Engines (files 03_engine_execution.md and 04_compute_die.md) -/

/-- The state of a gang (R67). -/
inductive GangSt where
  | free | bound | issuing | waitMem | waitSync | ready
  deriving DecidableEq, Repr, Inhabited

/-- A gang of 256 contexts (R66): its state, the number of the step in flight that it carries, its work item, its reads outstanding. -/
structure Gang where
  st : GangSt
  run : Nat
  item : Nat
  reads : Nat
  deriving DecidableEq, Repr, Inhabited

/-- A step in flight (R75): its schedule index, the iteration of its innermost loop (R74), its work items and how many
of them gangs have bound and completed (R67); its number among the steps that the engine has started; once its work is done, the tags of
the frames it has sent that have no completion yet, and its SYNC_OUT (R175). -/
structure StepRun where
  ix : Nat
  iter : Nat
  items : Nat
  bound : Nat
  completed : Nat
  num : Nat
  tags : List Nat
  sync : Nat
  deriving DecidableEq, Repr, Inhabited

/-- A task (R75 to R77): the index of the step that starts next, its ticket, the span whose doorbell or start began it,
and the slot list of a decode task, taken when its first step starts (R80), with the number of slot activations up to then. -/
structure Task where
  pc : Nat
  ticket : Nat
  span : Nat
  slots : Option (List Nat)
  acts : Nat
  /-- slots named by SLOTMAP 2 steps that have started -/
  used : List Nat
  /-- whether any step of the task has SLOTMAP 1 (a decode task, R80) -/
  decode : Bool
  deriving DecidableEq, Repr, Inhabited

/-- A codebook write held until the running step ends (R46): codebook, byte offset, data, poison per byte. -/
structure HeldCb where
  cb : Nat
  off : Nat
  data : List Byte
  pois : List Bool
  deriving DecidableEq, Repr, Inhabited

/-- A loop of a schedule (R74): its first step, its closing step, its further iterations. -/
structure LoopRec where
  target : Nat
  close : Nat
  count : Nat
  deriving DecidableEq, Repr, Inhabited

/-- A logical engine: the settings of its SCHED record (R142), its task, steps in flight and gangs, its queued doorbells
(R132), its loop iterations, the steps it has started, and its pseudo-random generator: the seeding it runs on and the draws that
conversions have taken since (R53). -/
structure EngUnit where
  contexts : Nat
  first : Nat
  nsteps : Nat
  entries : List Nat
  /-- which entry points begin a decode task -/
  decodes : List Bool
  loops : List LoopRec
  task : Option Task
  steps : List StepRun
  gangs : Tab Gang
  dbq : List (Nat × Nat)
  iters : Tab Nat
  rrArray : Nat
  rrVec : Nat
  /-- synchronisation releases of each point that this engine's steps have used -/
  seen : Tab Nat
  held : List HeldCb
  starts : Nat
  seed : Nat
  draws : Nat
  /-- engine uses the own-half edge routers (EDGE_SEL as applied, R117) -/
  edge : Bool
  /-- a write of EDGE_SEL waits for the engine's outstanding transfers -/
  edgeWait : Bool
  deriving DecidableEq, Repr, Inhabited

/-- A physical engine site: consecutive heartbeats missed (R107), macros fenced (R200) and fences waiting, its clocks
gated when idle (R368), and the registers held from the moment of a fence. -/
structure SiteUnit where
  missed : Nat
  fenced : List Nat
  fencePend : List Nat
  gated : Bool
  isolated : Bool
  deriving DecidableEq, Repr, Inhabited

/-- The package-wide barrier on the chain network (R305): the engines that have arrived at it, and those to which a
release is on its way. -/
structure Barrier where
  arrived : Nat
  released : Nat
  deriving DecidableEq, Repr, Inhabited

/-! ### Spans, images and settings (file 05_spans_and_images.md) -/

/-- The state of a span-table entry (R130). -/
inductive SpanSt where
  | empty | loading | idle | running | draining | stopping | faulted
  deriving DecidableEq, Repr, Inhabited

/-- A leaf of the span tree (R34). -/
inductive Leaf where
  | engine (e : Nat)
  | mover (m : Nat)
  | re (r : Nat)
  | part (p : Nat)
  deriving DecidableEq, Repr, Inhabited

/-- A span-table entry (R130 to R138): its state and record, its held doorbell with the doorbell's ticket, the fault
record of its last fault, whether it last reported DEGRADED, and the signals and releases of its synchronisation
points. -/
structure SpanEnt where
  st : SpanSt
  parent : Nat
  path : List Byte
  group : Bool
  expert : Bool
  owner : Nat
  members : List Leaf
  /-- members on other devices: device and leaf -/
  remote : List (Nat × Leaf)
  /-- synchronisation points: number and mask of member engines -/
  syncs : List (Nat × Nat)
  held : Option (Nat × Nat)
  fault : Nat
  degraded : Bool
  sig : Tab Nat
  sigDev : Tab Nat
  rel : Tab Nat
  /-- points released with an abort indication -/
  aborted : List Nat
  /-- devices of a group span, this one included, that have reported their units of the span quiet (R34) -/
  drained : Nat
  deriving DecidableEq, Repr, Inhabited

/-- An event ring (R133): the entries, the oldest first, and whether an event was lost since the last one written. -/
structure EvRing where
  ents : List Nat
  lost : Bool
  deriving DecidableEq, Repr, Inhabited

/-- A route entry (R140): its eight words, the span that owns it, and whether it is defined. -/
structure RouteEnt where
  valid : Bool
  span : Nat
  words : List Word
  deriving DecidableEq, Repr, Inhabited

/-- A partition (R141). -/
structure Part where
  valid : Bool
  kind : Nat
  use : Nat
  ticket : Nat
  base : Nat
  len : Nat
  span : Nat
  deriving DecidableEq, Repr, Inhabited

/-- A retrieval pipeline's record (R144). -/
structure PipeRec where
  valid : Bool
  kind : Nat
  reMask : Nat
  queue : Nat
  result : Nat
  rerank : Nat
  toHost : Bool
  walkCtx : Nat
  zones : List Nat
  span : Nat
  deriving DecidableEq, Repr, Inhabited

/-- A grammar's record (R144). -/
structure GramRec where
  valid : Bool
  part : Nat
  vocab : Nat
  states : Nat
  trans : Nat
  classOff : Nat
  stateOff : Nat
  transOff : Nat
  deriving DecidableEq, Repr, Inhabited

/-- An extent of a PLACE record (R143). -/
structure Extent where
  src : Nat
  dst : Nat
  engine : Nat
  dstAddr : Nat
  len : Nat
  srcAddr : Nat
  /-- inline payload -/
  data : List Byte
  /-- span that owns the data -/
  span : Nat
  /-- index of the extent in the image -/
  ix : Nat
  deriving DecidableEq, Repr, Inhabited

/-- A unit that takes part in a mode change (R154, R156). -/
inductive MUnit where
  | leaf (l : Leaf)
  | block (b : Nat)
  | device (d : Nat)
  deriving DecidableEq, Repr, Inhabited

/-- The mode change in progress (R153 to R156), if any: its number, kind, span scope and units; the units that have
staged it, with the result each sent; the acknowledgements the hub has counted; the units that hold a COMMIT; the units
that have applied it and whose PHASE 1 acknowledgement the hub has counted. -/
structure ModeChange where
  id : Nat
  kind : Nat
  span : Nat
  units : List MUnit
  phase : Nat
  prepared : List (MUnit × Nat)
  acked : List MUnit
  committed : List MUnit
  applied : List MUnit
  done : List MUnit
  /-- device that coordinates a group span's change, when another one -/
  coord : Option Nat
  deriving DecidableEq, Repr, Inhabited

/-- Where a pair-set field stands (R150): in a register, or in word `w` of route `n`. -/
inductive RwpKey where
  | reg (r : Reg)
  | route (n w : Nat)
  deriving DecidableEq, Repr

/-- The load in progress (R146, R147): whether one is, and whether it has reached step 7; whether it is partial; the new
entries; the extents still to copy; the licence that comes into force when it is LOADED, and the image's identity, digest
and key slot; whether tickets were set aside (R230); the entries of the boot image's TICKET record (R149); and the image's
bytes while it waits for dies to leave Doze (R369). -/
structure LoadUnit where
  busy : Bool
  partialLoad : Bool
  fresh : List Nat
  extents : List Extent
  lic : Option (List Byte)
  id : Nat
  digest : List Byte
  slot : Nat
  aside : Bool
  bootTickets : Option (List (List Byte))
  data : List Byte
  wakes : List Nat
  deriving DecidableEq, Repr, Inhabited

/-- What the loaded images hold (R37, R144): routes, partitions, pipelines, grammars, the vocabulary, the output-ring
partition, extents held by span, and the schedules and inline codebooks kept for a substitution (R111). -/
structure ImageUnit where
  loaded : Bool
  routes : Tab RouteEnt
  parts : Tab Part
  pipes : Tab PipeRec
  grams : Tab GramRec
  vocab : Nat
  ring : Option Nat
  extents : List Extent
  scheds : Tab (List Byte)
  codebooks : Tab (List Byte)
  /-- the licence of the image's LIC record: tier and licence number -/
  lic : Option (Nat × Nat)
  /-- declared bandwidths of each ticket as the admission check counted them -/
  overcommit : Bool
  deriving DecidableEq, Repr, Inhabited

/-! ### The sampling and grammar units (file 03_engine_execution.md) -/

/-- A sequence slot: its SAMP entry in use, the staged entry and the entry that waits for the slot's next token (R92);
the history, the oldest first (R93); the logits that have arrived in this step (R90); this step's grammar mask, once it
is complete: the allowed tokens (R96); the grammar in force since activation, its state, and its stack, the top first
(R97); the token on the token port (R90). -/
structure SlotUnit where
  entry : List Word
  staged : List Word
  waiting : Option (List Word)
  hist : List Nat
  logits : Tab (Option Word)
  mask : Option (List Nat)
  gram : Option Nat
  gstate : Nat
  gstack : List Nat
  port : Option Nat
  /-- the record and token that the unit holds because the slot's output ring is full (R94) -/
  heldRec : Option (Nat × Nat)
  /-- records written whose write the shared buffer has not yet performed, so that the write index does not count them -/
  written : Nat
  /-- number of the slot's activation among all activations (R89), and the ticket of the task whose logits it took last (R216) -/
  act : Nat
  ticket : Nat
  deriving DecidableEq, Repr, Inhabited

/-- The sampling unit: its slots and how many draws its generator has given since it was last seeded (R91). -/
structure GenUnit where
  slots : Tab SlotUnit
  draws : Nat
  seeds : Nat
  /-- GRAM_EN as the current decode step sees it (R98) -/
  gramOn : Bool
  /-- KV pages that the hub has allocated at basic level (R82): slot, page address, page-table entry address -/
  kv : List (Nat × Nat × Nat)
  /-- slot activations so far -/
  acts : Nat
  deriving DecidableEq, Repr, Inhabited

/-! ### Barge movers and the placement loop (file 06_memory_map.md) -/

/-- A copy of a mover's hub channel (R179): a PLACE copy (R143) or a promotion (R185). -/
inductive HubJob where
  | place (x : Extent)
  | promote (page frame : Nat)
  deriving DecidableEq, Repr, Inhabited

/-- A barge mover descriptor (R181) as the mover read it; `ok` when it is neither malformed nor misaligned. -/
structure Desc where
  ok : Bool
  op : Nat
  srcKind : Nat
  dstKind : Nat
  ticket : Nat
  irq : Bool
  stopPoison : Bool
  fence : Bool
  src : Nat
  dst : Nat
  len : Nat
  pattern : Nat
  deriving DecidableEq, Repr, Inhabited

/-- A descriptor in flight: its ring index (0 for a copy of the hub channel), the flash units it has asked for, the offset at
which its flash source ends with an error, and for an append the status and ERR_OFF it ended with. -/
structure MvRun where
  ix : Nat
  d : Desc
  units : Nat
  srcErr : Option Nat
  started : Bool
  result : Option (Nat × Nat)
  deriving DecidableEq, Repr, Inhabited

/-- A barge mover: descriptors of its ring in flight, hub-channel copies waiting and in flight, whether the last
descriptor started came from the hub channel (R179, R180), and the descriptor on which it is halted (R182). -/
structure MoverUnit where
  inflight : List MvRun
  hubq : List HubJob
  hubfl : List (HubJob × MvRun)
  lastHub : Bool
  halted : Option MvRun
  deriving DecidableEq, Repr, Inhabited

/-- The KV placement loop (R183 to R186): read counts per page, promoted pages by frame, counted reads of this epoch,
pages that may not be promoted again in this epoch, promotions in progress, the manual command in progress, and whether
source 416 was raised in this epoch. -/
structure PlaceUnit where
  counts : List (Nat × Nat)
  frames : Tab (Option Nat)
  reads : Nat
  barred : List Nat
  copying : List (Nat × Nat)
  manual : Option (Nat × Nat)
  noFrame : Bool
  deriving DecidableEq, Repr, Inhabited

/-! ### Tickets (file 08_tickets.md) -/

/-- A ticket at a resource (R220, R221, R228): AVG in quarters, STEP, its reads towards the next update of AVG with the sum of their
intervals, and the sums of the 256 reads of updates that are due; the windows over, the window's reads with the sum of their intervals,
and the sums of the windows of 4,096 reads that have ended; and the base priority still in force after a write of BASE, until the next
STEP update (R231). -/
structure TktRes where
  avg : Nat
  step : Nat
  avgReads : Nat
  avgSum : Nat
  due : List Nat
  overs : Nat
  reads : Nat
  sum : Nat
  ends : List Nat
  oldBase : Option Nat
  deriving DecidableEq, Repr, Inhabited

/-- A resource (R218): queue level, band, the HOLD mask it last sent, the reads that arrived with HELD ≠ 0, the level and
band of its last QUEUE_LEVEL message at the ticket unit, and the source that it served last (R25). -/
structure ResUnit where
  level : Nat
  band : Nat
  hold : Nat
  heldCnt : Nat
  seenLevel : Nat
  seenBand : Nat
  last : Nat
  deriving DecidableEq, Repr, Inhabited

/-- The ticket regulation: tickets at resources (keyed resource × 16 + ticket), resources, the HOLD masks that sources have
received, and the requests they hold, the oldest first; the work of an engine, mover or other unit that waits because requests of it are
held, by source, resource and ticket, and how many of these requests the leak has released. -/
structure TktUnit where
  at_ : Tab TktRes
  res : Tab ResUnit
  hold : List ((Requester × Nat) × Nat)
  heldReqs : List (Nat × MemReq × Bool)
  waits : List (Requester × Nat × Nat)
  leaked : List ((Requester × Nat × Nat) × Nat)
  deriving DecidableEq, Repr, Inhabited

/-! ### Flash storage (file 09_flash_storage.md) -/

/-- The address of a flash unit (R234, R241): channel, chip enable × 4 + LUN, block, page, codeword. -/
structure FAddr where
  chan : Nat
  lun : Nat
  block : Nat
  page : Nat
  cw : Nat
  deriving DecidableEq, Repr, Inhabited

/-- Who reads a flash unit: descriptor `ix` of a mover's ring, a copy of its hub channel, a retrieval query, the patrol, or the move of
a superblock's data (R249, R257). -/
inductive FWho where
  | ring (m ix : Nat)
  | hub (m : Nat)
  | query (q : Nat)
  | patrol
  | move (k : Nat)
  deriving DecidableEq, Repr, Inhabited

/-- A read of one unit (R243); `tag` places it for its reader (zone or zone index, unit of the zone); `re` is the
retrieval engine that reads for a query; `waits` whether its source still holds it (R226), and `held` the HELD field with which it has
reached its channel (R227). -/
structure FReq where
  who : FWho
  addr : FAddr
  tag : Nat × Nat
  ticket : Nat
  re : Nat
  waits : Bool
  held : Nat
  deriving DecidableEq, Repr, Inhabited

/-- A stored codeword: its 4,096 user bytes and sixteen manifests (R241). -/
structure Code where
  data : List Byte
  mans : List Word
  deriving DecidableEq, Repr, Inhabited

/-- What a page program writes (R249, R256, R257): superblock page `q` of superblock `sb` of a zone, for the append to it; or page `i` of
the move keyed `k`. -/
inductive PgmFor where
  | append (zone sb q : Nat)
  | move (k i : Nat)
  deriving DecidableEq, Repr, Inhabited

/-- A page program: what it writes, its ticket, its units. -/
structure PgmJob where
  to_ : PgmFor
  ticket : Nat
  units : List Code
  deriving DecidableEq, Repr, Inhabited

/-- A raw operation (R262) with what the LUN answers: the decodes or the bits in error of a page read, a pass or fail, a status byte,
parameter or identification bytes. -/
inductive RawOp where
  | readPage (raw : Bool) (units : List RawUnit) (errs : List Byte)
  | program (raw pass : Bool)
  | erase (pass : Bool)
  | status (b : Byte)
  | getFeatures (feat : Nat) (p : Word)
  | setFeatures (feat : Nat)
  | readId (l : List Byte)
  | paramPage (l : List Byte)
  | reset (same logOk : Bool)
  deriving DecidableEq, Repr, Inhabited

/-- A raw command (R262): its operation, LUN, block and page, ticket. -/
structure RawJob where
  op : RawOp
  addr : FAddr
  ticket : Nat
  deriving DecidableEq, Repr, Inhabited

/-- A queued command of a channel (R244): a read; a read that goes on at a later stage of R243, with the loop offsets of its
issue; a page program; an erase; a raw command. -/
inductive FCmd where
  | read (q : FReq)
  | retry (q : FReq) (stage : Nat) (offs : List Int)
  | program (j : PgmJob)
  | erase (blk : Nat)
  | raw (j : RawJob)
  deriving DecidableEq, Repr, Inhabited

/-- A move of data between blocks (R249, R257): the superblock that takes a relocated one's data (none: a spare block replaces a member
that has failed); its pages, each with its source block and page and the block and page that take it, in the order of their programs;
the pages whose program is still to be queued, those that have programmed, and the pages whose data the channel still holds. -/
structure Move where
  new : Option Nat
  pages : List (Nat × Nat × Nat × Nat)
  todo : List Nat
  passed : List Nat
  held : List (Nat × List Code)
  deriving DecidableEq, Repr, Inhabited

/-- What a LUN does (R234): a page read at a stage of R243 (0 the first, 1 to 15 a ladder step, 16 the soft stage) with the
loop offsets of its issue; a probe of a level in a direction; a program. -/
inductive FRun where
  | read (q : FReq) (stage : Nat) (offs : List Int)
  | probe (grp lvl : Nat) (up : Bool) (offs : List Int)
  | program (j : PgmJob)
  deriving DecidableEq, Repr

/-- A delivered unit: whose it is, the stage that delivered it (R243), its data and manifests, whether it is delivered poisoned, whether
that is because no stage decoded it, and whether its read completed with an error instead (R236). -/
structure FDone where
  who : FWho
  tag : Nat × Nat
  re : Nat
  stage : Nat
  code : Code
  pois : Bool
  ue : Bool
  err : Bool
  deriving DecidableEq, Repr, Inhabited

/-- A LUN's geometry (R235). -/
structure LunGeo where
  pageBytes : Nat
  pages : Nat
  blocks : Nat
  deriving DecidableEq, Repr, Inhabited

/-- A flash block (R248 to R252): its program/erase cycles, whether bad (1 factory, 2 grown), its reads since the last erase,
its programmed pages, whether it is marked for refresh. -/
structure FlBlock where
  pe : Nat
  bad : Nat
  reads : Nat
  prog : List Nat
  refresh : Bool
  deriving DecidableEq, Repr, Inhabited

/-- A block group (R245): the offsets that are not 0, by level; SBAR; stage-1 reads since the last probe; the level that
the next probe takes, the levels whose next probe goes down, and the block and page read last. -/
structure FlGroup where
  offs : Tab Int
  sbar : Nat
  n : Nat
  lvl : Nat
  downs : List Nat
  last : Option (Nat × Nat)
  deriving DecidableEq, Repr, Inhabited

/-- The state of a superblock (R253, R255): free, in a zone, being erased with these member blocks to go, held by the
ledger, or lost. -/
inductive SbSt where
  | dead | free | used | ledger
  | erasing (left : List Nat)
  deriving DecidableEq, Repr, Inhabited

/-- A superblock: its member blocks in order, and its state. -/
structure Sb where
  members : List Nat
  st : SbSt
  deriving DecidableEq, Repr, Inhabited

/-- An append in progress (R256): the mover and ring index of its descriptor, the page programs still to pass, the units that
it takes with padding, and the status and ERR_OFF that the descriptor will complete with. -/
structure AppendRun where
  m : Nat
  ix : Nat
  left : Nat
  units : Nat
  status : Nat
  errOff : Nat
  deriving DecidableEq, Repr, Inhabited

/-- A zone (R254): state, NSB, write pointer in units of 4 KiB, its superblocks in order, the append in progress, and the
FINISH (2) or FREE (3) that waits for that append's end. -/
structure Zone where
  st : Nat
  nsb : Nat
  wp : Nat
  sbs : List Nat
  append : Option AppendRun
  after : Nat
  deriving DecidableEq, Repr, Inhabited

/-- The flash: what the LUNs hold, the ledger and label, and the work of the channels.  A LUN is keyed channel × 32 + chip
enable × 4 + LUN; a block that × 8192 + block; a unit (block × 16384 + page) × 8 + codeword; a group LUN × 128 + block ÷ 64.
DESIGN CHOICE, log entry 6. -/
structure FlashUnit where
  luns : Tab (Option LunGeo)
  codes : Tab (Option Code)
  /-- pages programmed with RAW = 1: their bytes, by block × 16384 + page -/
  raws : Tab (Option (List Byte))
  blocks : Tab FlBlock
  groups : Tab FlGroup
  /-- commands queued at each channel, the oldest first -/
  queue : Tab (List FCmd)
  run : Tab (Option FRun)
  done : List FDone
  zones : Tab Zone
  sbs : Tab Sb
  spare : List Nat
  /-- superblocks marked for relocation -/
  relocs : List Nat
  /-- moves in progress, keyed by the superblock relocated or repaired -/
  moves : Tab (Option Move)
  /-- blocks of no superblock that are being erased, and return to the spare pool then -/
  returning : List Nat
  /-- the read offsets that each LUN holds, by level (R246); none before the first are set -/
  applied : Tab (List Int)
  /-- label: the profile, the open-mode masks, the managed geometry, SPARE_PCT, when the flash has been formatted -/
  label : Option (List Byte × List Nat × LunGeo × Nat)
  /-- SPARE_PCT and profile of the format in progress -/
  fmt : Option (Nat × List Byte)
  journal : Nat
  /-- loop state of the last checkpoint -/
  saved : Tab FlGroup
  /-- commands issued by each channel since its last ZQ calibration -/
  cmds : Tab Nat
  deriving DecidableEq, Repr, Inhabited

/-! ### Retrieval engines (file 10_retrieval_engines.md) -/

/-- A record in a heap (R276, R284): identifier, score, MATCH. -/
structure QRec where
  rid : Nat
  score : Word
  mat : Nat
  deriving DecidableEq, Repr, Inhabited

/-- The state of a walk candidate (R278). -/
inductive NodeSt where
  | new | reading | done
  deriving DecidableEq, Repr, Inhabited

/-- A walk candidate (R278): its score is none for an entry node, which ranks above every score. -/
structure WalkEnt where
  node : Nat
  score : Option Word
  st : NodeSt
  deriving DecidableEq, Repr, Inhabited

/-- A term of a lexical query (R281, R282): units asked for, units delivered out of their turn, units merged, postings that
wait (document, weight), the last document, and whether the list has ended. -/
structure TermSt where
  asked : Nat
  got : List (Nat × List Byte)
  taken : Nat
  posts : List (Nat × Nat)
  last : Option Nat
  ended : Bool
  deriving DecidableEq, Repr, Inhabited

/-- An admitted query (R267 to R290): pipeline, descriptor index and bytes, ticket; its query slots by engine, walk slot and
contexts; query vector, table and code; reads in flight; its heaps, by engine, or at 16 for a walk; a scan's zones with the units
sampled, and each engine's next unit, end and reads in flight; a walk's list, visited-filter bits, rounds, delivered nodes of the round and the
engines they were sent to; a lexical query's terms; its counts; how it ended or failed. -/
structure Query where
  pipe : Nat
  ix : Nat
  desc : List Byte
  ticket : Nat
  slots : List (Nat × Nat)
  wslot : Option Nat
  ctx : Nat
  vec : List Byte
  lut : List Byte
  code : List Byte
  fly : Nat
  heaps : Tab (List QRec)
  zones : List (Nat × Nat)
  plan : List (Nat × Nat × Nat × Nat)
  list : List WalkEnt
  visited : List Nat
  round : Nat
  sel : List (Nat × List Byte × Nat)
  terms : List TermSt
  units : Nat
  evals : Nat
  passed : Nat
  errZone : Nat
  errOff : Nat
  /-- status with which the search has ended -/
  fin : Option Nat
  /-- status with which the query fails -/
  fail : Option Nat
  /-- 0 running, 1 records written, 2 header written -/
  stage : Nat
  /-- the slot's result records -/
  recs : List QRec
  /-- address of the result slot, and the pipeline's span, as they were at admission -/
  slotAddr : Nat
  span : Nat
  deriving DecidableEq, Repr, Inhabited

/-- A pipeline's own state: the doorbell held until the mount ends, forwards numbered so far, queries that wait to be
forwarded, forwards whose copy is in flight (query, number), outstanding forwards, completions that the rerank span has
reported, and the counters of its page and of RTV_CNT. -/
structure PipeUnit where
  heldDb : Option Nat
  fwd : Nat
  waiting : List Nat
  copying : List (Nat × Nat)
  outst : Nat
  completions : Nat
  ended : Nat
  failed : Nat
  cntQ : Nat
  cntF : Nat
  cntU : Nat
  deriving DecidableEq, Repr, Inhabited

/-- The retrieval engines: pipelines, and admitted queries keyed pipeline × 2 ^ 32 + index. -/
structure RetrUnit where
  pipes : Tab PipeUnit
  queries : Tab (Option Query)
  deriving DecidableEq, Repr, Inhabited

/-! ### Keys, licences and the signer (file 18_security_licences.md) -/

/-- A key slot's fuses (R455). -/
structure KeySlot where
  digest : List Byte
  valid : Bool
  revoked : Bool
  deriving DecidableEq, Repr, Inhabited

/-- The fused constants of a thermal node (R428, R429): capacitance in µJ/°C, conductance to the boundary in µW/°C, its
neighbours with their conductances, and its share of each rail in 65,536ths. -/
structure NodeFuse where
  cap : Nat
  bound : Nat
  nbrs : List (Nat × Nat)
  shares : List (Nat × Nat)
  deriving DecidableEq, Repr, Inhabited

/-- The fuses (R302, R307, R359, R385, R391, R428, R429, R455): four key slots, the device's serial, PCI vendor ID and JEDEC
code; the sites, macros (site × 128 + macro) and retrieval engines fused as bad; the lanes that the assembly repaired (bundle ×
256 + direction × 128 + lane); steppings by position; start setpoints by rail × 4 + step, and limit powers by rail in units of
0.1 W; the thermal constants by node, and the node of each diode (position × 4 + diode). -/
structure Fuses where
  keys : List KeySlot
  serial : Nat
  vendor : Nat
  jedec : Nat
  badSites : List Nat
  badMacros : List Nat
  badRes : List Nat
  lanes : List Nat
  stepping : Tab Nat
  start : Tab Nat
  limit : Tab Nat
  nodes : Tab NodeFuse
  diodes : Tab Nat
  deriving DecidableEq, Repr, Inhabited

/-- The security units (R456 to R466): the boot image's and the workload image's licence bodies in force, BODY_DIGEST of the
boot image, the digest of the LUNs' identities, the key notice whose fuses are being blown (OP, TARGET, DIGEST), reports
signed since the last power-on reset, and of the host path and the landing port the body being signed, with the landing
port's last report. -/
structure SecUnit where
  bootLic : Option (List Byte)
  lic : Option (List Byte)
  bootDigest : List Byte
  flashId : List Byte
  knot : Option (Nat × Nat × List Byte)
  reports : Nat
  att : Option (List Byte)
  ldpAtt : Option (List Byte)
  ldpReport : Option (List Byte)
  deriving DecidableEq, Repr, Inhabited

/-! ### Clocks, power and heat (files 13_clocks_power.md and 16_telemetry_thermal.md) -/

/-- A rail (R359 to R361, R364): its setpoint in steps of 2.5 mV (none: the setpoint of its start), what its regulator
reported last (mV, units of 0.1 A, units of 0.1 W, °C), its energy in µJ, its faults as PWR_RAIL_FLT shows them. -/
structure Rail where
  setpt : Option Nat
  meas : Nat
  cur : Nat
  pow : Nat
  temp : Nat
  uj : Nat
  flt : Nat
  deriving DecidableEq, Repr, Inhabited

/-- The power manager (R360 to R373): its rails; consecutive intervals that count toward a release, with VIN12 high enough
while VIN steps are held; intervals above PEAK_W since EXHAUSTED; VIN12 below 11.0 V; the steps that each half (2(d - 1), + 1
west) holds for VIN12; by AVS domain the consecutive grade-3 intervals, and by half the intervals without grade 0 since its
request; control intervals since the end of reset; package energy in µJ; the main side off after a shutdown or in Off-AON;
loads refused until a reset (R24, R366); a wake that waits for the end of Standby entry or for REFCLK; the first faulted rail. -/
structure PowerUnit where
  rails : Tab Rail
  release : Nat
  peak : Nat
  vinLow : Bool
  vinHeld : Tab Nat
  ample : Tab Nat
  calm : Tab Nat
  intervals : Nat
  uj : Nat
  off : Bool
  refuse : Bool
  wake : Bool
  first : Option Nat
  deriving DecidableEq, Repr, Inhabited

/-- The thermal model of a die (R428 to R431): its boundary temperature in µ°C, the last readings of its diodes in units of
0.125 °C and which have failed, consecutive reads with an error above 10 °C and at most 4 °C, DIVERGED and FROZEN. -/
structure ThermDie where
  bound : Int
  diodes : List Int
  failed : Nat
  far : Nat
  near : Nat
  diverged : Bool
  frozen : Bool
  deriving DecidableEq, Repr, Inhabited

/-- The thermal model (R428 to R434): temperature in µ°C and power in µW of each node (compute die `d`: 16(d - 1) + site; the
others 128 + 8 × place among them); its dies; what each half's own heat, and the hub's, have requested (16 the hub); which of
these are above throttle and not yet cleared; intervals since the last action of each while above, and since it cleared; rails
at limit power; THERMTRIP_N.  DESIGN CHOICE, log entry 6. -/
structure ThermUnit where
  temps : Tab Int
  powers : Tab Nat
  dies : Tab ThermDie
  asks : Tab Nat
  above : Nat
  acts : Tab Nat
  cools : Tab Nat
  silent : List Nat
  trip : Bool
  deriving DecidableEq, Repr, Inhabited

/-! ### Bring-up (file 14_bringup_reset.md) -/

/-- What bring-up knows of a die or stack (R308, R398): fence cause, stepping, feature level, serial. -/
structure DieInfo where
  cause : Nat
  stepping : Nat
  feature : Nat
  serial : Nat
  deriving DecidableEq, Repr, Inhabited

/-- The bring-up sequencer: the dies; the boot image in the boot flash and the one in use; the sampled straps BOOT_SRC and
SMB_ADDR; whether the previous start reached STAGE complete, and whether its reset was warm; the cause of the reset that the
next start follows (KIND, SRC); the shutdown before it; a rail fault since the previous start; the image that a push programs;
the keep tag's record that memory was kept (R380, R390); AON_RST_N low. -/
structure BupUnit where
  dies : Tab DieInfo
  slot : List Byte
  boot : List Byte
  bootSrc : Nat
  smbAddr : Nat
  complete : Bool
  warm : Bool
  kind : Nat
  src : Nat
  shutdown : Nat
  railFlt : Bool
  push : Option (List Byte)
  keepTag : Bool
  aonLow : Bool
  /-- how many records the log held when the last cold start began: the rail faults and retirements among them that R391 lets end with a
  cold start whose tests pass hold no longer -/
  coldSeq : Nat
  deriving DecidableEq, Repr, Inhabited

/-! ### Telemetry (file 16_telemetry_thermal.md) -/

/-- The shadows (R425, R510): of registers, of tickets at resources, of reads with HELD not 0, of the pipelines' counters, of
the rails' energies; and the sums of the counters of each span that a span wave has latched (R34).  DEDUCED, log entry 78. -/
structure Shadows where
  regs : List (Reg × Word)
  at_ : Tab TktRes
  held : Tab Nat
  pipes : Tab (Nat × Nat × Nat)
  rails : Tab Nat
  /-- BASE of each ticket when the hub last latched; none before the first wave -/
  bases : List Nat
  sums : Tab (List Nat)
  deriving DecidableEq, Repr, Inhabited

/-- The latched counts of a direction of a counted channel (R422): SENT, RCVD, FLAG, wave ID, and whether the copy of the
marker has arrived. -/
structure Cut where
  sent : Nat
  rcvd : Nat
  flag : Bool
  id : Nat
  marked : Bool
  deriving DecidableEq, Repr, Inhabited

/-- Snapshot waves (R419 to R424): whether one runs, its scope, span and origin; the dies that are to report, those that have
latched, those that have reported; the span command that is held; of a group wave the devices still to answer; whether this
device's own part has ended; the cuts, keyed channel × 2 + direction; the ID of the last wave that completed; of the last group wave
the device that started it and the ID that its markers carry, and the port by which the first of them came. -/
structure WaveUnit where
  running : Bool
  scope : Nat
  span : Nat
  origin : Option Nat
  dies : List Nat
  latched : List Nat
  reported : List Nat
  held : Option Nat
  devs : List Nat
  ended : Bool
  cuts : Tab Cut
  last : Nat
  seen : Option (Nat × Nat)
  port : Option Nat
  deriving DecidableEq, Repr, Inhabited

/-! ### The landing port (file 17_landing_port.md) -/

/-- The landing port: the crash capture's words (none: all zero), and the mirror that the hub last made of its fields (R449);
whether SMB_ALERT_N has been released by an Alert Response Address read (R446); IMG_PUSH being served; whether a wake of the
ferryman is under way (R451). -/
structure LdpUnit where
  crash : List Word
  mirror : List Word
  released : Bool
  push : Bool
  ferry : Bool
  deriving DecidableEq, Repr, Inhabited

/-! ### The causeway and the chain network (files 04_compute_die.md and 11_causeway.md) -/

/-- A chain message (R123): class; whether its destination is a span, and which unit or span; the sending die and site; TAG; payload
words; and the chain lanes, by bundle, on which it leaves the hub (R122, R304). -/
structure ChainMsg where
  cls : Nat
  toSpan : Bool
  dest : Nat
  src : Nat
  tag : Nat
  words : List Nat
  lanes : List Nat
  deriving DecidableEq, Repr, Inhabited

/-- The messages that wait at the hub's chain router (R124), each with its input port (0 the hub's own units, p + 1 the chain lane of
bundle p), the oldest first; and for each level, urgent and normal, the input port served last. -/
structure ChainUnit where
  waiting : List (Nat × ChainMsg)
  lastUrg : Nat
  lastNorm : Nat
  deriving DecidableEq, Repr, Inhabited

/-- A command header (R300). -/
structure CmdHdr where
  op : Nat
  ticket : Nat
  held : Nat
  tag : Nat
  addr : Nat
  route : Nat
  viaRoute : Bool
  arg : Nat
  deriving DecidableEq, Repr, Inhabited

/-- A write whose data flits arrive (R300): its header, and for each flit that has come its words of 39 bits and its MAN_HALF. -/
structure WriteIn where
  hdr : CmdHdr
  flits : List (List Nat × Nat)
  deriving DecidableEq, Repr, Inhabited

/-- One direction of a bundle: bad lanes among 0 to 65, unusable spares, corrections by lane (as CWY_LANE_CNT counts them, and
within the window of 2^20 flits) and eye margins; flits of the window; the SEQ that the receiver expects and the successive
failures of that flit; flits sent and accepted; the last SEQ acknowledged to the sender; the chain frames' CSEQ expected,
their successive failures and the last CSEQ acknowledged; the writes whose data flits are still to come, and the requests that have
come this way and are not answered (R300); the words of the chain message that comes, by level (0 normal, 1 urgent). -/
structure DirUnit where
  bad : List Nat
  spareBad : List Nat
  corr : Tab Nat
  win : Tab Nat
  margin : Tab Nat
  flits : Nat
  seq : Nat
  fails : Nat
  sent : Nat
  acc : Nat
  ack : Nat
  cseq : Nat
  cfails : Nat
  cack : Nat
  writes : List WriteIn
  asked : List (MemReq × CmdHdr)
  chainIn : Tab (List Nat)
  deriving DecidableEq, Repr, Inhabited

/-- A bundle pair: its directions (0 hub to die), a lost clock pair, a retrain that waits for its neighbour, the lanes counted
bad for the next test (direction × 128 + lane). -/
structure BundleUnit where
  dirs : Tab DirUnit
  clkFail : Bool
  wait : Bool
  failing : List Nat
  deriving DecidableEq, Repr, Inhabited

/-! ### Wealey links (file 12_wealey_links_host.md) -/

/-- A Wealey port: the count of the last counted slice sent, acknowledged, and received in order; successive replays; a NAK to
send; codewords and uncorrectable codewords of the window of R331, codewords received in all, and those at which the last
retrains began; credits held for REQ, RSP and control; HELLO received, with its serial, tier and feature level; transmitter coefficients in
units of 1/64 (lane × 4 + tap); the virtual channel that goes first; the destinations whose sets held the port when it left
RUN for a retrain (1 UPSET, 2 DNSET, 3 both). -/
structure PortUnit where
  txSeq : Nat
  acked : Nat
  rxSeq : Nat
  fails : Nat
  nak : Bool
  cws : Nat
  ucws : Nat
  total : Nat
  retrains : List Nat
  crReq : Nat
  crRsp : Nat
  crCtl : Nat
  hello : Bool
  peer : Nat
  tier : Nat
  feature : Nat
  taps : Tab Int
  rspTurn : Bool
  cut : List (Nat × Nat)
  /-- frames and entries in the port's replay buffer, with the count of their last slice -/
  sent : List (Nat × Sum Frame Entry)
  /-- slices of the REQ and the RSP buffer, and control entries, freed since the last report; slice positions since then (R327, R328) -/
  freeReq : Nat
  freeRsp : Nat
  freeCtl : Nat
  since : Nat
  /-- control entries that go out on this very port, before the others (R424) -/
  due : List Entry
  deriving DecidableEq, Repr, Inhabited

/-- A link that discovery recorded (R334, R339), between two ports of numbered devices, and whether it is in RUN. -/
structure LinkRec where
  a : Nat
  ap : Nat
  b : Nat
  bp : Nat
  up : Bool
  deriving DecidableEq, Repr, Inhabited

/-- A table entry of R336: destination, hops, UPSET, DNSET. -/
structure RouteTo where
  dest : Nat
  hops : Nat
  up : Nat
  dn : Nat
  deriving DecidableEq, Repr, Inhabited

/-- A read of the host through a window on another device (R343, R346): function, the host's tag, the group address, and its READ
frames: tag, bytes asked for, what has arrived: bytes, and which are poisoned. -/
structure WinRead where
  fn : Nat
  tag : Nat
  addr : Nat
  parts : List (Nat × Nat × List Byte × List Bool)
  deriving DecidableEq, Repr, Inhabited

/-- A posted write of the host through a window on another device (R346, R347): function, group address, the tag of its WRITE frame. -/
structure WinWrite where
  fn : Nat
  addr : Nat
  tag : Nat
  deriving DecidableEq, Repr, Inhabited

/-- The device's part in its group: the links that device 0 has recorded; the ROUTE entries of a generation that is arriving;
frames and control entries that wait to be sent; request frames outstanding with their
destinations, and destinations whose later requests wait for those (R337); the next tag; reads of host memory that the bridge
has issued for devices. -/
structure GroupUnit where
  links : List LinkRec
  gen : Nat
  arriving : List RouteTo
  frames : List Frame
  entries : List Entry
  tags : List (Nat × Nat)
  drains : List (Nat × List Nat)
  tag : Nat
  hostq : List (Nat × Frame)
  /-- host reads and writes through windows on other devices, outstanding -/
  winReads : List WinRead
  winWrites : List WinWrite
  /-- doorbell writes of the host that wait (R347): the tags and the held writes awaited, function, group address, value -/
  winHeld : List (List Nat × List MemReq × Nat × Nat × Word)
  /-- requests of Wealey frames that are served or held (R226, R326), and of the host's reads with their function and tag -/
  ingress : List (MemReq × Frame)
  hostHeld : List (MemReq × Nat × Nat)
  deriving DecidableEq, Repr, Inhabited

/-! ### Test access (file 19_test_access.md) -/

/-- The test access port: instruction, DIESEL, boundary register; results of the last interconnect test by target × 2 +
direction (the failing wires); an EXIT that waits for the test's end; what was last written to the instruments of each die (R475).
DESIGN CHOICE, log entry 51. -/
structure TapUnit where
  ir : Nat
  diesel : Nat
  boundary : Nat
  ran : List Nat
  fails : Tab (List Nat)
  exit : Bool
  inst : Tab Word
  deriving DecidableEq, Repr, Inhabited

/-! ### The defect log, fuses and pins (files 14_bringup_reset.md, 18_security_licences.md, 20_package_pins.md) -/

/-- A record of the defect log (R392, R393); `torn` when its bytes fail their CRC (R394, R396).  The record's SEQ is its
place in the log. -/
structure LogRec where
  typ : Nat
  cause : Nat
  a : Nat
  b : Nat
  c : Nat
  torn : Bool
  deriving DecidableEq, Repr, Inhabited

/-- The defect log in the boot flash (R391 to R394): its records in SEQ order, and the writes attempted. -/
structure LogUnit where
  recs : List LogRec
  attempts : Nat
  deriving DecidableEq, Repr, Inhabited

/-- How the last access or request completed: what its requester receives. -/
inductive Resp where
  | none
  /-- a successful completion with data and which of its bytes are poisoned -/
  | data (bytes : List Byte) (pois : List Bool)
  /-- a register value -/
  | word (v : Word)
  /-- a completion with an error (R160), or a write-error completion (R203) -/
  | error
  | writeError
  /-- a completion with an error whose bytes, so many, are delivered poisoned (R168) -/
  | poisonError (n : Nat)
  /-- a read of the block at an address that does not match its manifest (R207) -/
  | mismatch (addr : Nat)
  /-- Unsupported Request, Completer Abort and Request Retry Status (R346); a completion with the poisoned-TLP indication -/
  | unsupported
  | abort
  | retry
  | poisoned (bytes : List Byte)
  /-- the response of a vendor message (R441 to R443): RESULT and payload -/
  | vendor (result : Nat) (payload : List Byte)
  /-- the response of an MCTP control message (R440): its bytes -/
  | mctp (bytes : List Byte)
  deriving DecidableEq, Repr, Inhabited

/-- A message that the device has sent: what leaves it on its pins, links and chain network.  DESIGN CHOICE, log entry 26. -/
inductive Out where
  /-- an MSI-X message of a function (R345) -/
  | msix (fn vector : Nat)
  /-- a chain message (R123) that the hub's chain router has served -/
  | chain (m : ChainMsg)
  /-- a write to host memory (R350) -/
  | hostWrite (addr : Nat) (data : List Byte) (pois : List Bool)
  /-- a frame or a control entry on a Wealey port (R324, R327) -/
  | frame (port : Nat) (f : Frame)
  | entry (port : Nat) (x : Entry)
  /-- the link fields of a control slice on a Wealey port (R327): ACK, NAK, CR_REQ, CR_RSP, CR_CTL -/
  | linkFields (port ack : Nat) (nak : Bool) (crReq crRsp crCtl : Nat)
  /-- a read that the bridge issues to host memory (R349) -/
  | hostRead (addr len tag : Nat)
  /-- a flit that a receiver of the causeway accepts, for the unit that it is addressed to (R301): bundle, die to hub, KIND, TAG,
  words, the words delivered poisoned, MAN_HALF -/
  | flit (p : Nat) (dir : Bool) (kind tag : Nat) (words : List Nat) (pois : List Nat) (man : Nat)
  /-- a flit that answers a request (R300), given to the sender of a bundle: data or command flit by KIND, TAG, HALF, words, MAN_HALF -/
  | flitSent (p : Nat) (dir : Bool) (kind tag half : Nat) (words : List Nat) (man : Nat)
  /-- an ONFI command that flash channel c issues to a LUN, by its cycles (R238) -/
  | onfi (c lun : Nat) (cycles : List Nat)
  /-- DNAK of a receiver, or CNAK of its chain lane (R301, R303) -/
  | dnak (p : Nat) (dir : Bool) (seq : Nat)
  | cnak (p : Nat) (dir : Bool) (seq : Nat)
  /-- a copy of the SNAPSHOT marker beside a bundle with the latched count (R421, R422) -/
  | marker (p sent : Nat)
  /-- a register image shifted out of TDO (R471) -/
  | tdo (v : Nat)
  /-- the completion of a host read through a window on another device (R346): function, tag -/
  | completion (fn tag : Nat) (p : Resp)
  /-- a retrain of the host link that the bridge asks for (R352) -/
  | linkRetrain
  deriving DecidableEq, Repr

/-- A device of the group as discovery found it (R334, R335): present, its shortest route in hops, its link sets up and down,
tier, feature level, start-up level and serial. -/
structure DevUnit where
  present : Bool
  hops : Nat
  up : Nat
  dn : Nat
  tier : Nat
  feature : Nat
  level : Nat
  serial : Nat
  deriving DecidableEq, Repr, Inhabited

/-- A function of the host bridge (R341 to R345): MSI-X Enable, Function Mask, the vectors masked and pending, D3hot. -/
structure FnUnit where
  en : Bool
  fmask : Bool
  masked : List Nat
  pending : List Nat
  d3 : Bool
  deriving DecidableEq, Repr, Inhabited

/-- The state of the device. -/
structure State where
  /-- the register file: the registers whose raw value is not their reset value -/
  regs : List (Reg × Word)
  icu : Icu
  mem : MemUnit
  scrub : Option Scrub
  keep : Keep
  engs : Tab EngUnit
  sites : Tab SiteUnit
  barrier : Barrier
  /-- substitution in progress in row `r` of die `d`, keyed d × 4 + r: the slot substituted (R110) -/
  subst : Tab (Option Nat)
  spans : Tab SpanEnt
  rings : Tab EvRing
  image : ImageUnit
  load : LoadUnit
  /-- the mode change in progress, or the last one (R153) -/
  mode : Option ModeChange
  /-- CHANGE of the last mode change -/
  changes : Nat
  /-- shadows written since the last commit (R151) -/
  shadow : List (RwpKey × Word)
  /-- shadows that the commit in progress adopts (R151) -/
  staged : List (RwpKey × Word)
  /-- units that still hold a change that was aborted (R155) -/
  stale : List MUnit
  /-- pending values of live pair sets (R152) -/
  pend : List (RwpKey × Word)
  gen : GenUnit
  movers : Tab MoverUnit
  place : PlaceUnit
  tkt : TktUnit
  flash : FlashUnit
  retr : RetrUnit
  sec : SecUnit
  fuses : Fuses
  log : LogUnit
  pwr : PowerUnit
  thm : ThermUnit
  bup : BupUnit
  shadows : Shadows
  wave : WaveUnit
  ldp : LdpUnit
  /-- the causeway's bundle pairs -/
  cwy : Tab BundleUnit
  /-- the messages at the hub's chain router -/
  chain : ChainUnit
  ports : Tab PortUnit
  grp : GroupUnit
  tap : TapUnit
  /-- Doze of each compute die (R369): 0 not in Doze, 1 entering, 2 in Doze, 3 leaving -/
  doze : Tab Nat
  /-- bonded rows whose DRAM failed its start-up test (R388) -/
  deadRows : List Nat
  fns : Tab FnUnit
  /-- the devices of the group, by number -/
  devs : Tab DevUnit
  /-- devices of the group that are LOST (R339) -/
  lostDevs : List Nat
  /-- BRIDGE_EN strap (R3, R341) -/
  bridgeEn : Bool
  /-- PERST_N low (R348) -/
  perst : Bool
  /-- FAULT_N asserted (R24) -/
  faultN : Bool
  /-- the messages the device has sent, the latest first -/
  outbox : List Out
  /-- the completion of the last access -/
  resp : Resp
  /-- the model's own count of free values drawn (never a register of the device) -/
  free : Nat
  /-- commands that wait, first in, first out -/
  pending : List Instr
  deriving DecidableEq, Repr, Inhabited

/-- The fuses of the model's device.  DESIGN CHOICE, log entry 3: the spec gives no fused digest, serial or grade;
slots 0 and 1, which are programmed at manufacture (R455), are LIVE with digests of zero bytes, the serial is 1 and no site is
fused as bad. -/
def Fuses.made : Fuses :=
  { keys := [⟨List.replicate 32 0, true, false⟩, ⟨List.replicate 32 0, true, false⟩,
      ⟨List.replicate 32 0, false, false⟩, ⟨List.replicate 32 0, false, false⟩]
    serial := 1, vendor := 0, jedec := 0
    badSites := [], badMacros := [], badRes := [], lanes := []
    stepping := [], start := [], limit := [], nodes := [], diodes := [] }

/-- The test access port after a TAP reset (R470): IDCODE, the hub alone selected. -/
def TapUnit.reset : TapUnit := { (default : TapUnit) with ir := 0x01, diesel := 1 }

/-- The device right after a cold reset: every register at its reset value, memory filled (R208), no command waiting.
DESIGN CHOICE, log entries 3 and 4 and 5 and 6. -/
def State.reset : State := { (default : State) with fuses := Fuses.made, tap := TapUnit.reset }

end Sys2Proof.Machine
end

