-- ==== Sys2Proof/Machine/Ops.lean ====
section
/-! DEFINITION. The named operations that meanings share: the register file and its fields, raising and presenting
interrupts (file 15_interrupts.md), sending messages, and the defect log (R391 to R394). -/

namespace Sys2Proof.Machine

/-! ### The register file -/

/-- The raw value of register `r` in a register file; a register not listed holds its reset value. -/
def regGet : List (Reg × Word) → Reg → Word
  | [], r => r.reset
  | (q, v) :: l, r => if r = q then v else regGet l r

/-- A register file with `v` listed at `r`, in the order of the registers' offsets. -/
def regIns : List (Reg × Word) → Reg → Word → List (Reg × Word)
  | [], r, v => [(r, v)]
  | (q, u) :: l, r, v =>
    if r = q then (r, v) :: l
    else if r.offset < q.offset then (r, v) :: (q, u) :: l
    else (q, u) :: regIns l r v

/-- A register file with register `r` set to `v`; a register at its reset value is not listed. -/
def regSet (l : List (Reg × Word)) (r : Reg) (v : Word) : List (Reg × Word) :=
  if v = r.reset then l.filter (fun e => e.1 ≠ r) else regIns l r v

/-- The raw value of a register. -/
def State.rget (s : State) (r : Reg) : Word := regGet s.regs r

/-- The state with a register's raw value set. -/
def State.rset (s : State) (r : Reg) (v : Word) : State := { s with regs := regSet s.regs r v }

/-- The value of a field of a register. -/
def State.fget (s : State) (r : Reg) (f : Fld) : Nat := f.get (s.rget r)

/-- Whether a one-bit field of a register is 1. -/
def State.bget (s : State) (r : Reg) (f : Fld) : Bool := s.fget r f = 1

/-- The state with a field of a register set. -/
def State.fset (s : State) (r : Reg) (f : Fld) (v : Nat) : State := s.rset r (f.put (s.rget r) v)

/-- The state with a one-bit field of a register set or cleared. -/
def State.bset (s : State) (r : Reg) (f : Fld) (b : Bool) : State := s.fset r f (b2n b)

/-- The state with `n` added to a saturating counter field. -/
def State.cnt (s : State) (r : Reg) (f : Fld) (n : Nat) : State := s.fset r f (satAdd f.len (s.fget r f) n)

/-- The state with `n` added to a wrapping counter field. -/
def State.wrap (s : State) (r : Reg) (f : Fld) (n : Nat) : State := s.fset r f (s.fget r f + n)

/-- The state after the device sends a message.  DESIGN CHOICE, log entry 26. -/
def State.emit (s : State) (o : Out) : State := { s with outbox := o :: s.outbox }

/-- The state after the requester of an access receives its completion.  DESIGN CHOICE, log entry 26. -/
def State.reply (s : State) (p : Resp) : State := { s with resp := p }

/-- The state after a command that stands for a register write or another command: what its meaning answers. -/
def State.via (s : State) (f : State → Res State) : State := match f s with
  | .next t => t
  | _ => s

/-! ### The host link -/

/-- Counts TLPs that the bridge sends or receives (R352). -/
def State.tlpTx (s : State) (n : Nat) : State := s.wrap .HBR_TLP_TX F.HBR_TLP_TX_COUNT n
@[inherit_doc State.tlpTx] def State.tlpRx (s : State) (n : Nat) : State := s.wrap .HBR_TLP_RX F.HBR_TLP_RX_COUNT n

/-- A write of the device to host memory (R349), in TLPs of at most 512 bytes (R341). -/
def State.hostOut (s : State) (addr : Nat) (data : List Byte) (pois : List Bool) : State :=
  (if s.bridgeEn then s.tlpTx (ceilDiv data.length 512) else s).emit (.hostWrite addr data pois)

/-- An MSI-X message (R345). -/
def State.msixOut (s : State) (fn v : Nat) : State := (s.tlpTx 1).emit (.msix fn v)

/-! ### Interrupts -/

/-- The interrupt source numbered `k`. -/
def srcOf (k : Nat) : Src := Fin.ofNat 512 k

/-- PRIO of a source (R404). -/
def State.srcPrio (s : State) (k : Nat) : Nat := s.fget (.ICU_SRC (srcOf k)) F.ICU_SRC_PRIO

/-- Whether a source is pending (R402). -/
def State.srcPending (s : State) (k : Nat) : Bool :=
  let c := s.icu.src.at k
  let cnt := max 1 (s.fget (.ICU_COAL (srcOf k)) F.ICU_COAL_CNT)
  !c.insvc && decide (s.srcPrio k ≠ 0) &&
    if levelSource k then c.line
    else decide (cnt ≤ c.count) || (decide (1 ≤ c.count) && c.expired)

/-- Whether a source is presentable to target `t` (R404). -/
def State.presentable (s : State) (t k : Nat) : Bool :=
  let tt : Tgt := Fin.ofNat 16 t
  s.srcPending k && bitAt (s.fget (.ICU_TMASK (srcOf k)) F.ICU_TMASK_TARGETS) t
    && decide (s.fget (.ICU_TCTL tt) F.ICU_TCTL_MASK = 0)
    && decide ((s.icu.tgt.at t).run < s.srcPrio k)
    && decide (s.fget (.ICU_TCTL tt) F.ICU_TCTL_THR < s.srcPrio k)

/-- The vectors in a function's MSI-X table (R341). -/
def fnVectors (fn : Nat) : Nat := if fn = 0 then 1024 else 64

/-- The state with target `t`'s flags changed. -/
def State.tgtUpd (s : State) (t : Nat) (f : TgtState → TgtState) : State :=
  { s with icu := { s.icu with tgt := s.icu.tgt.upd t f } }

/-- The state with source `k` changed. -/
def State.srcUpd (s : State) (k : Nat) (f : SrcState → SrcState) : State :=
  { s with icu := { s.icu with src := s.icu.src.upd k f } }

/-- An interrupt message of target `t` (0 to 14) for a source of priority `p` on the device with BRIDGE_EN set (R345): held
while the function's MSI-X Enable is clear, counted when the vector is beyond the table, pending when masked. -/
def State.sendMsix (s : State) (t p : Nat) : State :=
  let r : Reg := .HBR_TGT (Fin.ofNat 15 t)
  let fn := s.fget r F.HBR_TGT_FUNC
  let v := s.fget r F.HBR_TGT_BASE + (if s.bget r F.HBR_TGT_PRIO_SPLIT then p else 0)
  let f := s.fns.at fn
  if !f.en then s.tgtUpd t (fun g => { g with held := true, heldPrio := p })
  else if fnVectors fn ≤ v then s.cnt .HBR_ERR F.HBR_ERR_COUNT 1
  else if f.fmask || f.masked.contains v then
    { s with fns := s.fns.put fn { f with pending := f.pending.insert v } }
  else s.msixOut fn v

/-- An interrupt message of target `t` on a device with BRIDGE_EN clear (R405): it goes to device 0, or is held while the
device is ISOLATED or unnumbered.  DEDUCED, log entry 57. -/
def State.sendIrqFrame (s : State) (t p : Nat) : State :=
  let r : Reg := .ICU_TGT (Fin.ofNat 15 t)
  let v := s.fget r F.ICU_TGT_VECTOR + (if s.bget r F.ICU_TGT_PRIO_SPLIT then p else 0)
  if s.fget .LNK_GRP F.LNK_GRP_STATE = 2 then
    { s with grp := { s.grp with entries := s.grp.entries ++ [{
        kind := 1, urg := false, src := Fin.ofNat 64 (s.fget .LNK_GRP F.LNK_GRP_DEVNUM), dst := 0, bcast := false
        words := [0x2D, wordOf (s.fget r F.ICU_TGT_FUNC), wordOf v, 0, 0] }] } }
  else s.tgtUpd t (fun g => { g with held := true, heldPrio := p })

/-- Sets a bit of LDP_ALERT (R446): a bit that becomes set and is enabled asserts SMB_ALERT_N at once. -/
def State.alertBit (s : State) (f : Fld) : State :=
  if s.bget .LDP_ALERT f then s
  else { s.bset .LDP_ALERT f true with
    ldp := { s.ldp with released := s.ldp.released && !bitAt (s.fget .LDP_ALERT_EN F.LDP_ALERT_EN_EN) f.lo } }

/-- Whether presentation waits (R415): in ferryman mode, from Standby until PWR_STATE reads Run. -/
def State.ferryWaits (s : State) : Bool :=
  decide (s.fget .ICU_WAKE F.ICU_WAKE_MODE = 1) && decide (2 ≤ s.fget .PWR_STATE F.PWR_STATE_STATE)

/-- The message of target `t` for a presentable source of priority `p` (R405). -/
def State.deliver (s : State) (t p : Nat) : State :=
  if t = 15 then s.alertBit F.LDP_ALERT_IRQ
  else if s.bridgeEn then s.sendMsix t p
  else s.sendIrqFrame t p

/-- Presents source `k` to target `t` (R405): one message, when the source is presentable and none is outstanding. -/
def State.presentTo (s : State) (k t : Nat) : State :=
  if s.presentable t k && !(s.icu.tgt.at t).out && !s.ferryWaits then
    (s.tgtUpd t (fun g => { g with out := true })).deliver t (s.srcPrio k)
  else s

/-- Presents source `k` to every target (R405). -/
def State.present (s : State) (k : Nat) : State := (List.range 16).foldl (fun s t => s.presentTo k t) s

/-- An event of edge source `k` (R401, R402): its COUNT rises, or saturates with OVF. -/
def State.count (s : State) (k : Nat) : State :=
  let c := s.icu.src.at k
  if c.count < 255 then
    let w := if c.count = 0 ∧ ¬levelSource k then some s.icu.tick else c.win
    s.srcUpd k (fun c => { c with count := c.count + 1, win := w })
  else s.srcUpd k (fun c => { c with ovf := true })

/-- Raises one event of source `k` (R401, R405, R416): the first overflow of a source other than source 0 raises
source 0. -/
def State.raise (s : State) (k : Nat) : State :=
  let first := decide ((s.icu.src.at k).count = 255 ∧ k ≠ 0 ∧ ¬(s.icu.src.at k).ovf)
  let s1 := (s.count k).present k
  if first then (s1.count 0).present 0 else s1

/-- Raises the sources of a list, in order. -/
def State.raises (s : State) (l : List Nat) : State := l.foldl State.raise s

/-- Sets the line of level source `k` (R401): a change from 0 to 1 counts as an event. -/
def State.setLine (s : State) (k : Nat) (b : Bool) : State :=
  let rise := b && !(s.icu.src.at k).line
  let s1 := s.srcUpd k (fun c => { c with line := b })
  if rise then s1.raise k else s1

/-- The presentable source of highest priority for target `t`, and that priority (R406): among equals, the first in
ascending number after the one last claimed at that priority, wrapping. -/
def State.best (s : State) (t : Nat) : Option (Nat × Nat) :=
  let l := (List.range 512).filter (fun k => s.presentable t k)
  let p := l.foldl (fun p k => max p (s.srcPrio k)) 0
  let l1 := l.filter (fun k => s.srcPrio k = p)
  match s.icu.last.at p with
  | none => l1.head?.map (·, p)
  | some z => match l1.find? (fun k => z < k) with
    | some k => some (k, p)
    | none => l1.head?.map (·, p)

/-- Presents to target `t` whatever is presentable, when no message is outstanding (R405). -/
def State.presentBest (s : State) (t : Nat) : State :=
  if (s.icu.tgt.at t).out then s
  else match s.best t with
    | some (k, _) => s.presentTo k t
    | none => s

/-- Evaluates every source for every target (R409, R411): what has become presentable is presented. -/
def State.presentAll (s : State) : State := (List.range 16).foldl State.presentBest s

/-- Sends the messages that targets hold, those for function `fn` or all (R345, R405). -/
def State.sendHeld (s : State) (p : State → Nat → Bool) : State :=
  (List.range 15).foldl (fun (s : State) t =>
    if (s.icu.tgt.at t).held && p s t then
      (s.tgtUpd t (fun g => { g with held := false })).deliver t (s.icu.tgt.at t).heldPrio
    else s) s

/-- An event of the landing port and ferryman (R453): bit `i` of LDP_EVT, source 12 + i. -/
def State.ldpEvt (s : State) (i : Nat) : State := (s.fset .LDP_EVT ⟨i, 1⟩ 1).raise (12 + i)

/-! ### The defect log -/

/-- Appends a record to the defect log (R394): `ok` is whether the boot flash programs it.  A write that fails, or finds
the log full, sets LOG_FAIL and raises source 9; the 131,072nd record sets LOG_FULL and raises it too.  DESIGN CHOICE, log entry 20. -/
def State.logRec (s : State) (r : LogRec) (ok : Bool) : State :=
  let s0 := { s with log := { s.log with attempts := s.log.attempts + 1 } }
  if ok && decide (s.log.recs.length < 131072) then
    let s1 := { s0 with log := { s0.log with recs := s0.log.recs ++ [r] } }
    if s1.log.recs.length = 131072 then (s1.bset .BUP_STAT F.BUP_STAT_LOG_FULL true).raise 9 else s1
  else (s0.bset .BUP_STAT F.BUP_STAT_LOG_FAIL true).raise 9

/-- Whether a record can be written (R394). -/
def State.logRoom (s : State) (ok : Bool) : Bool := ok && decide (s.log.recs.length < 131072)

/-! ### Free values -/

/-- The state with the model's count of free values advanced.  DESIGN CHOICE, log entry 1. -/
def State.tick (s : State) : State := { s with free := s.free + 1 }

end Sys2Proof.Machine
end

