-- ==== Sys2Proof/Machine/Cells.lean ====
section
/-! DEFINITION. One word of memory: reading and writing a cell of a memory instance with its check code, correction,
poison, recent-correction list and patch table (R191 to R203), and fault injection (R210). -/

namespace Sys2Proof.Machine

/-- A word of a memory instance: its class and instance (R191) and the number of its first byte. -/
structure CellRef where
  cls : Nat
  inst : Nat
  key : Nat
  deriving DecidableEq, Repr

/-- Whether a class carries the byte-lane code (R191). -/
def byteLane (cls : Nat) : Bool := cls ≤ 3

/-- The instance of a cell, as `insts` keys it. -/
def CellRef.ik (c : CellRef) : Nat := c.cls * 128 + c.inst

/-- The stored bytes of a word, as a number (R7). -/
def MemUnit.raw (m : MemUnit) (k : Nat) : Nat :=
  (Tab.at m.data k).toNat + 256 * (Tab.at m.data (k + 1)).toNat + 65536 * (Tab.at m.data (k + 2)).toNat
    + 16777216 * (Tab.at m.data (k + 3)).toNat

/-- The memory with byte `k` set.  DEDUCED, log entry 2. -/
def MemUnit.setByte (m : MemUnit) (k : Nat) (b : Byte) : MemUnit := { m with data := Tab.put m.data k b }

/-- The memory with the four bytes of a word set. -/
def MemUnit.setRaw (m : MemUnit) (k w : Nat) : MemUnit :=
  { m with data := Tab.put (Tab.put (Tab.put (Tab.put m.data k (byteOf w)) (k + 1) (byteOf (w / 256)))
      (k + 2) (byteOf (w / 65536))) (k + 3) (byteOf (w / 16777216)) }

/-- The memory with the syndrome that word or byte `k` will show set. -/
def MemUnit.setSyn (m : MemUnit) (k x : Nat) : MemUnit := { m with syn := Tab.put m.syn k x }

/-- The memory with instance `i` changed. -/
def MemUnit.inst (m : MemUnit) (i : Nat) (f : MemInst → MemInst) : MemUnit := { m with insts := Tab.upd m.insts i f }

/-- The memory having raised source `k`. -/
def MemUnit.evt (m : MemUnit) (k : Nat) : MemUnit := { m with evts := m.evts ++ [k] }

/-- The entry of a patch table that holds word `k`: its index and the entry (R198). -/
def patchOf (t : Tab (Option Patch)) (k : Nat) : Option (Nat × Patch) :=
  t.findSome? (fun e => match e.2 with
    | some p => if p.key = k then some (e.1, p) else none
    | none => none)

/-- The lowest free entry of a patch table of 8 entries (R199). -/
def patchFree (t : Tab (Option Patch)) : Option Nat := (List.range 8).find? (fun i => Tab.at t i = none)

/-- The stack pin that carries bit `i` (32 to 38: a check bit) of word `k` of a stack (R165): each word's 39 bits travel on
39 pins of the 16 words that the port carries side by side. -/
def pinOf (k i : Nat) : Nat :=
  let w := k / 4 % 16
  if i < 32 then w * 32 + i else 512 + w * 7 + (i - 32)

/-- Counts one correction on a stack pin (R167): at STK_PIN_THR the pin becomes the stack's faulty pin. -/
def MemUnit.pinCount (m : MemUnit) (n pin thr : Nat) : MemUnit :=
  let c := Tab.at m.pinCnt (n * 1024 + pin) + 1
  let m1 := { m with pinCnt := Tab.put m.pinCnt (n * 1024 + pin) c }
  if thr ≤ c ∧ Tab.at m.pinFault n = none then
    { m1 with pinFault := Tab.put m1.pinFault n (some pin) }.evt (384 + 2 * n)
  else m1

/-- Accounts a correction of word `c` to the value `w` (R196 to R199).  `skip` when the correction is not entered in the
list (R197), `pois` when another byte of the word is poisoned (R198).  Answers the memory and whether the word has gone
into the patch table, in which case the cell is not written back. -/
def MemUnit.correction (m : MemUnit) (c : CellRef) (w : Nat) (skip pois : Bool) : MemUnit × Bool :=
  let m1 := ({ m with newCe := m.newCe ++ [c.key] }.inst c.ik (fun i => { i with ce := satAdd 32 i.ce 1 })).evt 424
  let i := Tab.at m1.insts c.ik
  if skip then (m1, false)
  else if i.rcl.contains c.key then
    if pois then (m1, false)
    else match patchFree i.patch with
      | some e =>
        (({ m1 with newPatches := m1.newPatches ++ [c.key] }.inst c.ik
          (fun i => { i with patch := Tab.put i.patch e (some ⟨c.key, wordOf w, false⟩) })).evt 423, true)
      | none =>
        (({ m1 with fullEvt := (c.cls, c.inst) }.inst c.ik
          (fun i => { i with overflow := satAdd 16 i.overflow 1, full := true })).evt 417, false)
  else if i.rcl.length < 16 then
    (m1.inst c.ik (fun i => { i with rcl := i.rcl ++ [c.key] }), false)
  else
    (m1.inst c.ik (fun i => { i with rcl := i.rcl.tail ++ [c.key], evict := satAdd 16 i.evict 1 }), false)

/-- Counts a word newly uncorrectable (R194, R202). -/
def MemUnit.newUncorrectable (m : MemUnit) (c : CellRef) : MemUnit :=
  ({ m with ueEvt := (c.cls, c.inst), newUe := m.newUe ++ [c.key] }.inst c.ik
    (fun i => { i with ue := satAdd 32 i.ue 1 })).evt 418

/-- Reads a word of a word-coded memory (R194 to R198, R167): the memory, the data delivered, whether poisoned. -/
def MemUnit.readWord (m : MemUnit) (c : CellRef) (thr : Nat) : MemUnit × Nat × Bool :=
  let w := m.raw c.key
  let fix (w' bit : Nat) : MemUnit × Nat × Bool :=
    let skip := decide (c.cls = 5) && decide (Tab.at m.pinFault c.inst = some (pinOf c.key bit))
    let m1 := if c.cls = 5 then m.pinCount c.inst (pinOf c.key bit) thr else m
    let r := m1.correction c w' skip false
    if r.2 then (r.1, w', false) else ((r.1.setRaw c.key w').setSyn c.key 0, w', false)
  match wordSyndrome (Tab.at m.syn c.key) with
  | .clean => (m, w, false)
  | .checkBit j => fix w (32 + j)
  | .dataBit i => fix (w ^^^ 2 ^ i) i
  | .poison => ({ m with poisonCnt := satAdd 32 m.poisonCnt 1 }, w, true)
  | .bad => ((m.newUncorrectable c).setSyn c.key wordPoison, w, true)

/-- The corrected value of a byte `b` with syndrome `x` in a byte-lane memory. -/
def fixByte (b x : Nat) : Nat := match byteSyndrome x with
  | .dataBit i => b ^^^ 2 ^ i
  | _ => b

/-- Whether a byte-lane syndrome asks for a correction. -/
def needsFix (x : Nat) : Bool := match byteSyndrome x with
  | .checkBit _ => true
  | .dataBit _ => true
  | _ => false

/-- Reads a word of a byte-lane memory, byte by byte (R194 to R198): the memory, the data delivered, whether any byte is
poisoned. -/
def MemUnit.readBytes4 (m : MemUnit) (c : CellRef) : MemUnit × Nat × Bool :=
  let ks := [c.key, c.key + 1, c.key + 2, c.key + 3]
  let syns := ks.map (fun k => Tab.at m.syn k)
  if syns.all (· = 0) then (m, m.raw c.key, false)
  else
    let bytes := ks.map (fun k => fixByte (Tab.at m.data k).toNat (Tab.at m.syn k))
    let w := nth bytes 0 + 256 * nth bytes 1 + 65536 * nth bytes 2 + 16777216 * nth bytes 3
    let anyPois := syns.any (fun x => byteSyndrome x = .poison)
    let anyBad := syns.any (fun x => byteSyndrome x = .bad)
    let anyFix := syns.any needsFix
    let m1 := if anyPois then { m with poisonCnt := satAdd 32 m.poisonCnt 1 } else m
    let m2 := if anyBad then m1.newUncorrectable c else m1
    let r := if anyFix then m2.correction c w false (anyPois || anyBad) else (m2, false)
    -- a byte newly uncorrectable is poisoned; a corrected byte is written back unless the word is now patched
    let m3 := ks.foldl (fun (m : MemUnit) k =>
      let x := Tab.at m.syn k
      if byteSyndrome x = .bad then m.setSyn k bytePoison
      else if needsFix x && !r.2 then
        (m.setByte k (byteOf (fixByte (Tab.at m.data k).toNat x))).setSyn k 0
      else m) r.1
    (m3, w, anyPois || anyBad)

/-- Reads one word of memory (R194 to R198): a patched word from its entry. -/
def MemUnit.read (m : MemUnit) (c : CellRef) (thr : Nat) : MemUnit × Nat × Bool :=
  match patchOf (Tab.at m.insts c.ik).patch c.key with
  | some (_, p) => (m, p.data.toNat, p.bad)
  | none => if byteLane c.cls then m.readBytes4 c else m.readWord c thr

/-- A scrub read (R211, R197): as a read, and a listed word that reads clean leaves the list. -/
def MemUnit.scrubRead (m : MemUnit) (c : CellRef) (thr : Nat) : MemUnit × Nat × Bool :=
  let clean := if byteLane c.cls then (List.range 4).all (fun i => Tab.at m.syn (c.key + i) = 0)
    else decide (Tab.at m.syn c.key = 0)
  let m1 := if clean && decide (patchOf (Tab.at m.insts c.ik).patch c.key = none) then
      m.inst c.ik (fun i => { i with rcl := i.rcl.filter (· ≠ c.key) }) else m
  m1.read c thr

/-- `old` with the bytes of `w` that `mask` names in their places. -/
def mergeBytes (old w mask : Nat) : Nat :=
  let pick (i : Nat) : Nat := (if bitAt mask i then w else old) / 256 ^ i % 256
  pick 0 + 256 * pick 1 + 65536 * pick 2 + 16777216 * pick 3

/-- Writes the bytes that `mask` names of a word of memory (R196, R198, R202, R203); `pois` writes them poisoned.  Answers
the memory and whether the write completes with a write error. -/
def MemUnit.write (m : MemUnit) (c : CellRef) (mask w : Nat) (pois : Bool) (thr : Nat) : MemUnit × Bool :=
  match patchOf (Tab.at m.insts c.ik).patch c.key with
  | some (e, p) =>
    let p' : Patch := ⟨c.key, wordOf (mergeBytes p.data.toNat w mask), pois || (p.bad && decide (mask ≠ 15))⟩
    (m.inst c.ik (fun i => { i with patch := Tab.put i.patch e (some p') }), false)
  | none =>
    if byteLane c.cls then
      ((List.range 4).foldl (fun (m : MemUnit) i =>
        if bitAt mask i then
          (m.setByte (c.key + i) (byteOf (w / 256 ^ i))).setSyn (c.key + i) (if pois then bytePoison else 0)
        else m) m, false)
    else if mask = 15 then ((m.setRaw c.key w).setSyn c.key (if pois then wordPoison else 0), false)
    else
      let r := m.readWord c thr
      if r.2.2 then (r.1, true)
      else if (patchOf (Tab.at r.1.insts c.ik).patch c.key).isSome then
        match patchOf (Tab.at r.1.insts c.ik).patch c.key with
        | some (e, p) =>
          (r.1.inst c.ik (fun i => { i with
            patch := Tab.put i.patch e (some ⟨c.key, wordOf (mergeBytes p.data.toNat w mask), pois⟩) }), false)
        | none => (r.1, false)
      else ((r.1.setRaw c.key (mergeBytes r.2.1 w mask)).setSyn c.key (if pois then wordPoison else 0), false)

/-- Corrupts the word just written at `c` by the masks of R210: the stored data and check bits change, so the syndrome the
word will show is the check mask exclusive-or the check bits of the data mask. -/
def MemUnit.inject (m : MemUnit) (c : CellRef) (dmask cmask : Nat) : MemUnit :=
  if byteLane c.cls then
    (List.range 4).foldl (fun (m : MemUnit) i =>
      let d := dmask / 256 ^ i % 256
      let k := c.key + i
      (m.setByte k (byteOf ((Tab.at m.data k).toNat ^^^ d))).setSyn k
        (Tab.at m.syn k ^^^ (cmask / 32 ^ i % 32) ^^^ byteCheck d)) m
  else
    (m.setRaw c.key (m.raw c.key ^^^ dmask)).setSyn c.key
      (Tab.at m.syn c.key ^^^ (cmask % 128) ^^^ wordCheck dmask)

end Sys2Proof.Machine
end

