-- ==== Sys2Proof/Machine/AddressMap.lean ====
section
/-! DEFINITION. Where things are: engines, slots and sites (R11, R100, R101), and the decoding of device-local addresses to
cells of memory (R159 to R164, R170, R200, R201). -/

namespace Sys2Proof.Machine

/-! ### Engines and sites -/

/-- The compute die of a site (0 is `d1`). -/
def siteDie (site : Nat) : Die := Fin.ofNat 8 (site / 16)

/-- The row of a site. -/
def siteRow (site : Nat) : Fin 4 := Fin.ofNat 4 (site / 4)

/-- The compute die of a logical engine (R11). -/
def engDie (e : Nat) : Die := Fin.ofNat 8 (e / 12)

/-- The row of a logical engine in its die. -/
def engRow (e : Nat) : Fin 4 := Fin.ofNat 4 (e % 12 / 3)

/-- The field of CDI_MAP_r that holds the column of slot `k` (R129). -/
def slotFld (k : Nat) : Fld := ⟨2 * k, 2⟩

/-- The field of CDI_MAP_r that holds the state of column `c` (R129). -/
def colFld (c : Nat) : Fld := ⟨8 + 3 * c, 3⟩

/-- The physical site that carries a logical engine (R11, R100). -/
def State.siteOf (s : State) (e : Nat) : Nat :=
  (e / 12) * 16 + (e % 12 / 3) * 4 + s.fget (.CDI_MAP (engDie e) (engRow e)) (slotFld (e % 3))

/-- The state of a physical site (R101). -/
def State.siteState (s : State) (site : Nat) : Nat :=
  s.fget (.CDI_MAP (siteDie site) (siteRow site)) (colFld (site % 4))

/-- The logical engine bound to a site, if any (R100). -/
def State.engineAt (s : State) (site : Nat) : Option Nat :=
  ((List.range 3).find? (fun k => s.fget (.CDI_MAP (siteDie site) (siteRow site)) (slotFld k) = site % 4)).map
    (fun k => site / 16 * 12 + site % 16 / 4 * 3 + k)

/-- Whether a die position is fenced (BUP_FENCED). -/
def State.dieFenced (s : State) (pos : Nat) : Bool := bitAt (s.fget .BUP_FENCED F.BUP_FENCED_DIES) pos

/-- Whether compute die `d` (from 0) has been released by its wave of this start (R387). -/
def State.released (s : State) (d : Nat) : Bool := decide (d / 2 < s.fget .BUP_STAT F.BUP_STAT_LEVEL)

/-- Whether a logical engine is absent: its slot's site is not ACTIVE, or its die is fenced or not yet released (R101, R102,
R387). -/
def State.absent (s : State) (e : Nat) : Bool :=
  decide (s.siteState (s.siteOf e) ≠ 0) || s.dieFenced (e / 12 + 1) || !s.released (e / 12)

/-- Whether compute die `d` (from 0) is in Doze, entering it or leaving it (R369). -/
def State.dozing (s : State) (d : Nat) : Bool := s.doze.at d ≠ 0

/-- The usable local store of a site, in bytes: 32 MiB less its fenced macros of 256 KiB (R200). -/
def State.usable (s : State) (site : Nat) : Nat := (128 - (s.sites.at site).fenced.length) * 262144

/-- The SRAM macro that holds the `m`-th 256 KiB of a site's usable store: fenced macros are skipped (R200). -/
def macroAt (fenced : List Nat) (m : Nat) : Nat := nth ((List.range 128).filter (fun i => !fenced.contains i)) m

/-- The first cell of a site's local store, codebook memory and schedule memory: these two have no device address
(R160). -/
def localKey (site : Nat) : Nat := 0x031000000000 + site * 0x2000000
@[inherit_doc localKey] def codebookKey (site : Nat) : Nat := 0x060000000000 + site * 0x100000
@[inherit_doc localKey] def scheduleKey (site : Nat) : Nat := 0x061000000000 + site * 0x40000

/-- The cell of byte `off` of a site's local store. -/
def State.localCell (s : State) (site off : Nat) : CellRef :=
  ⟨0, site, localKey site + macroAt (s.sites.at site).fenced (off / 262144) * 262144 + off % 262144⟩

/-! ### Stack memory -/

/-- How the interleaved view works (R164): full, reduced over a group of four stacks, or disabled. -/
inductive IlMode where
  | full
  | reduced (group : Nat)
  | off
  deriving DecidableEq, Repr

/-- The mode of the interleaved view that STK_STAT reports (R164). -/
def State.ilMode (s : State) : IlMode :=
  if s.bget (.STK_STAT 0) F.STK_STAT_IL_OFF then .off
  else if s.bget (.STK_STAT 0) F.STK_STAT_IL_REDUCED then .reduced (s.fget (.STK_STAT 0) F.STK_STAT_IL_GROUP)
  else .full

/-- The mode as a number: 0 full, 1 and 2 reduced over group 0 and 1, 3 off. -/
def IlMode.code : IlMode → Nat
  | .full => 0
  | .reduced g => 1 + g
  | .off => 3

/-- The stack and offset of an interleaved-view address (R162, R164). -/
def ilPlace (m : IlMode) (a : Nat) : Option (Nat × Nat) :=
  match m with
  | .full => some (bits a 12 3 ^^^ bits a 20 3, a / 2 ^ 15 * 4096 + a % 4096)
  | .reduced g =>
    let b := a % 2 ^ 39
    some (4 * g + (bits b 12 2 ^^^ bits b 20 2), b / 2 ^ 14 * 4096 + b % 4096)
  | .off => none

/-- The pseudo-channel of an interleaved-view address (R162, R164). -/
def ilChannel (m : IlMode) (a : Nat) : Nat :=
  match m with
  | .reduced _ => bits a 14 5
  | _ => bits a 15 5

/-- An interleaved-view address as the mode reads it: in reduced mode A[39] is ignored, so an address with bit 39 set is the one
without it (R164). -/
def ilAddr (m : IlMode) (a : Nat) : Nat := match m with
  | .reduced _ => a % 2 ^ 39
  | _ => a

/-- The channel of a bonded row that serves an address: its bits [14:11] (R105). -/
def bondedChannel (a : Nat) : Nat := bits a 11 4

/-- Whether an interleaved-view address lies in the keep area (R160, R163, R164). -/
def ilKeep (m : IlMode) (a : Nat) : Bool :=
  match m with
  | .reduced _ => decide (0x7FE0000000 ≤ a % 2 ^ 39)
  | _ => decide (0xFFE0000000 ≤ a)

/-- Whether offset `o` of stack `n` lies in the keep area (R163, R164). -/
def placedKeep (m : IlMode) (n o : Nat) : Bool :=
  match m with
  | .reduced g => if n / 4 = g then decide (0x1FF8000000 ≤ o) else false
  | _ => decide (0x1FFC000000 ≤ o)

/-- Whether a stack is fenced (R168). -/
def State.stackFenced (s : State) (n : Nat) : Bool := s.fget (.STK_STAT (Fin.ofNat 8 n)) F.STK_STAT_STATE = 4

/-- The first cell of stack `n`: its placed-view address (R163). -/
def stackKey (n : Nat) : Nat := 0x010000000000 + n * 0x2000000000

/-- Whether a stack accepts requests (R168, R169): it is in run; one that is off, trains, refreshes itself or is fenced does not. -/
def State.stackRuns (s : State) (n : Nat) : Bool := s.fget (.STK_STAT (Fin.ofNat 8 n)) F.STK_STAT_STATE = 2

/-- The cell at offset `o` of stack `n`, unless the stack accepts no requests or the page is retired. -/
def State.stackCell (s : State) (n o : Nat) : Option CellRef :=
  if !s.stackRuns n || s.mem.retired.contains ((stackKey n + o) / 65536) then none
  else some ⟨5, n, stackKey n + o⟩

/-! ### The address map -/

/-- The ranges of the address map (R159). -/
inductive Range where
  | interleaved (a : Nat)
  | placed (n o : Nat)
  | bonded (row o : Nat)
  | sbf (o : Nat)
  | store (e o : Nat)
  | retrieval (o : Nat)
  | register (o : Nat)
  | outside
  deriving DecidableEq, Repr

/-- The range in which a device-local address lies (R159). -/
def rangeOf (a : Nat) : Range :=
  if a < 0x010000000000 then .interleaved a
  else if a < 0x020000000000 then .placed ((a - 0x010000000000) / 0x2000000000) ((a - 0x010000000000) % 0x2000000000)
  else if a < 0x022000000000 then .bonded ((a - 0x020000000000) / 0x100000000) ((a - 0x020000000000) % 0x100000000)
  else if 0x030000000000 ≤ a ∧ a < 0x030020000000 then .sbf (a - 0x030000000000)
  else if 0x031000000000 ≤ a ∧ a < 0x0310C0000000 then
    .store ((a - 0x031000000000) / 0x2000000) ((a - 0x031000000000) % 0x2000000)
  else if 0x040000000000 ≤ a ∧ a < 0x040100000000 then .retrieval (a - 0x040000000000)
  else if 0x0F0000000000 ≤ a ∧ a < 0x0F0010000000 then .register (a - 0x0F0000000000)
  else .outside

/-- The device address of byte `o` of the shared buffer, of a bonded row, and of an engine's local store (R159). -/
def sbfAddr (o : Nat) : Nat := 0x030000000000 + o
@[inherit_doc sbfAddr] def bondedAddr (row o : Nat) : Nat := 0x020000000000 + row * 0x100000000 + o
@[inherit_doc sbfAddr] def storeAddr (e o : Nat) : Nat := 0x031000000000 + e * 0x2000000 + o

/-- The cell that serves a device-local address, or none where the access completes with an error (R160); `hub` is whether
the requester is one of the hub's own units, which alone reach the keep area. -/
def State.cellOf (s : State) (hub : Bool) (a : Nat) : Option CellRef :=
  match rangeOf a with
  | .interleaved b =>
    if ilKeep s.ilMode b && !hub then none
    else match ilPlace s.ilMode b with
      | some (n, o) => s.stackCell n o
      | none => none
  | .placed n o => if placedKeep s.ilMode n o && !hub then none else s.stackCell n o
  | .bonded row o =>
    if s.dieFenced (row / 4 + 1) || s.dozing (row / 4) || s.deadRows.contains row || s.mem.retired.contains (bondedAddr row o / 65536) then none
    else some ⟨4, row, bondedAddr row o⟩
  | .sbf o => some ⟨1, o / 256 % 32, sbfAddr o⟩
  | .store e o =>
    if s.absent e || s.dozing (s.siteOf e / 16) || decide (s.usable (s.siteOf e) ≤ o) then none else some (s.localCell (s.siteOf e) o)
  | _ => none

/-- The stack whose memory a device-local address names, in either view, whatever its state (R162 to R164). -/
def State.stackOf (s : State) (a : Nat) : Option Nat := match rangeOf a with
  | .interleaved b => (ilPlace s.ilMode b).map (·.1)
  | .placed n _ => some n
  | _ => none

/-- Whether a device-local address lies on a stack that retrains its port before it accepts requests again, or refreshes
itself (R169). -/
def State.stackRests (s : State) (a : Nat) : Bool := match s.stackOf a with
  | some n => decide (s.fget (.STK_STAT (Fin.ofNat 8 n)) F.STK_STAT_STATE = 1 ∨ s.fget (.STK_STAT (Fin.ofNat 8 n)) F.STK_STAT_STATE = 3)
  | none => false

/-- The device address that MEM_PATCH_ADDR and the like report for a cell (R214): device-local, or the offset for codebook
and schedule memory; a stack word by its placed-view address, a local store word by the address of its engine's window that reads
it, which passes over the macros fenced before its own (R200). -/
def State.reportAddr (s : State) (c : CellRef) : Nat :=
  if c.cls = 0 then
    let p := c.key - localKey c.inst
    let fenced := (s.sites.at c.inst).fenced.filter (· < p / 262144)
    let o := p - fenced.length * 262144
    match s.engineAt c.inst with
    | some e => storeAddr e o
    | none => o
  else if c.cls = 2 then c.key - codebookKey c.inst
  else if c.cls = 3 then c.key - scheduleKey c.inst
  else c.key

/-- The word address that the defect log records for a cell (R393): the offset within a local store, codebook or schedule memory, which
no later fence changes; else as reported.  DEDUCED, log entry 38. -/
def CellRef.logAddr (c : CellRef) : Nat :=
  if c.cls = 0 then c.key - localKey c.inst
  else if c.cls = 2 then c.key - codebookKey c.inst
  else if c.cls = 3 then c.key - scheduleKey c.inst
  else c.key

/-! ### Promoted pages -/

/-- The shared-buffer offset of the promotion target's first frame, when a loaded image has one (R141, R184). -/
def State.frameBase (s : State) : Option (Nat × Nat) :=
  s.image.parts.findSome? (fun e => if e.2.valid && decide (e.2.use = 4) && decide (e.2.kind = 0)
    then some (e.2.base - sbfAddr 0, e.2.len / 65536) else none)

/-- The frame that holds a promoted page (R185). -/
def State.frameOf (s : State) (page : Nat) : Option Nat :=
  s.place.frames.findSome? (fun e => if e.2 = some page then some e.1 else none)

/-- The page of an interleaved-view address: its aliases are one page (R164, R184). -/
def State.pageOf (s : State) (a : Nat) : Nat := ilAddr s.ilMode a / 65536

/-- The shared-buffer address that serves a read of interleaved-view address `a`, when its page is promoted (R185). -/
def State.promoted (s : State) (a : Nat) : Option Nat :=
  match rangeOf a with
  | .interleaved b => match s.frameOf (s.pageOf b), s.frameBase with
    | some f, some (o, _) => some (sbfAddr (o + f * 65536 + b % 65536))
    | _, _ => none
  | _ => none

end Sys2Proof.Machine
end

