-- ==== Sys2Proof/Machine/Bundles.lean ====
section
/-! DEFINITION. The causeway's bundles as the rest of the device uses them (R22, R23, R116, R117, R300, R315), and the chain network
(R122 to R124, R304): which bundle a transfer crosses, the flits that it takes, the lanes of a chain message, and the hub's chain
router. -/

namespace Sys2Proof.Machine

/-! ### Bundles (R22) -/

/-- The die position at the far end of bundle pair `p`, and its index on that die. -/
def bundleDie (p : Nat) : Nat := if p < 64 then p / 8 + 1 else if p < 66 then 9 else if p < 72 then 10 else 11
@[inherit_doc bundleDie] def bundleIx (p : Nat) : Nat :=
  if p < 64 then p % 8 else if p < 66 then p - 64 else if p < 72 then p - 66 else p - 72

/-- The bundle pairs of a die position. -/
def bundlesOf (pos : Nat) : List Nat := (List.range 78).filter (fun p => bundleDie p = pos)

/-- The neighbour b XOR 1 of a bundle on its die. -/
def bundleMate (p : Nat) : Nat := p - bundleIx p + (bundleIx p ^^^ 1)

/-- The bundle numbered `p`. -/
def bundleNo (p : Nat) : Bundle := Fin.ofNat 78 p

/-- STATE of a bundle pair (R318): 0 off, 1 training, 2 RUN, 3 retraining, 4 HALF, 5 RETIRED. -/
def State.bundleState (s : State) (p : Nat) : Nat := s.fget (.CWY_STAT (bundleNo p)) F.CWY_STAT_STATE

/-- Whether a bundle pair runs: RUN or HALF. -/
def State.bundleLive (s : State) (p : Nat) : Bool := s.bundleState p = 2 || s.bundleState p = 4

/-- The state with a bundle's own state changed. -/
def State.bundleUpd (s : State) (p : Nat) (f : BundleUnit → BundleUnit) : State := { s with cwy := s.cwy.upd p f }

/-- The state with one direction of a bundle changed (0 hub to die). -/
def State.dirUpd (s : State) (p dir : Nat) (f : DirUnit → DirUnit) : State :=
  s.bundleUpd p (fun b => { b with dirs := b.dirs.upd dir f })

/-- One direction of a bundle. -/
def State.dirOf (s : State) (p dir : Nat) : DirUnit := (s.cwy.at p).dirs.at dir

/-- The chain entry of the group of bundles `l` (R304): the first whose chain lane is live. -/
def State.entryOf (s : State) (l : List Nat) : Option Nat := l.find? s.bundleLive

/-- The bundles that share a chain entry with `p`: the two of its column on a compute die, all of the die elsewhere. -/
def entryGroup (p : Nat) : List Nat := if p < 64 then [p - p % 2, p - p % 2 + 1] else bundlesOf (bundleDie p)

/-! ### The bundle that a transfer crosses (R116, R117, R315) -/

/-- The member of `l` that is nearest to `b` (R117): the lower number on a tie. -/
def nearest (l : List Nat) (b : Nat) : Option Nat :=
  (List.range 8).findSome? (fun k =>
    if k ≤ b ∧ l.contains (b - k) then some (b - k) else if l.contains (b + k) then some (b + k) else none)

/-- The edge router that EDGE_SEL selects for address `a` on a compute die (R117): among all eight, or among the four of half `h`. -/
def edgeSelect (own : Bool) (h a : Nat) : Nat :=
  if own then 4 * h + (bits a 7 2 ^^^ bits a 9 2) else bits a 7 3 ^^^ bits a 10 3 ^^^ bits a 13 3

/-- The bundle of compute die `d` (from 0) that carries what selects edge router `b` (R117): its own, b XOR 1 when it is retired, else the
nearest one of the half that is not.  DESIGN CHOICE, log entry 100: with the whole half retired, the nearest one of the die. -/
def State.edgeStands (s : State) (d b : Nat) : Nat :=
  let l := (List.range 8).filter (fun k => s.bundleState (8 * d + k) ≠ 5)
  if l.contains b then b
  else if l.contains (b ^^^ 1) then b ^^^ 1
  else ((nearest (l.filter (fun k => k / 4 = b / 4)) b).orElse (fun _ => nearest l b)).getD b

/-- The bundle that a 128-byte unit at address `a` takes between the hub and compute die `d` (R117, R315): a half-width bundle beside one of
full width gives up the units with A[16] = 1. -/
def State.edgeBundle (s : State) (d : Nat) (own : Bool) (h a : Nat) : Nat :=
  let p := 8 * d + s.edgeStands d (edgeSelect own h a)
  if s.bundleState p = 4 ∧ s.bundleState (bundleMate p) = 2 ∧ bitAt a 16 then bundleMate p else p

/-- The bundle that a 128-byte unit takes between the hub and a link die or the retrieval die (R315): entry A[15:7] mod n of its live
bundles. -/
def State.otherBundle (s : State) (pos a : Nat) : Nat :=
  let l := (bundlesOf pos).filter (fun p => s.bundleLive p || s.bundleState p = 3)
  (l[bits a 7 9 % max 1 l.length]?).getD ((bundlesOf pos).headD 0)

/-- The die position of a requester (R21): 0 for what the hub does itself. -/
def requesterDie : Requester → Nat
  | .engine e => e.val / 12 + 1
  | .re _ => 9
  | .wealey p => 10 + p.val / 8
  | .host _ => 11
  | .die p => bundleDie p.val
  | _ => 0

/-- The die position at which a device-local address is served (R159): 0 for the hub and the stacks behind it. -/
def addressDie (a : Nat) : Nat := match rangeOf a with
  | .bonded row _ => row / 4 + 1
  | .store e _ => e / 12 + 1
  | .retrieval _ => 9
  | _ => 0

/-- The half of its die in which a logical engine stands (R125). -/
def State.engHalf (s : State) (e : Nat) : Nat := s.siteOf e % 4 / 2

/-- The bundle that stands for bundle `p` when that is retired (R117, R314): its requests and their answers go on there. -/
def State.standIn (s : State) (p : Nat) : Nat :=
  if s.bundleState p ≠ 5 then p
  else if p < 64 then 8 * (p / 8) + s.edgeStands (p / 8) (p % 8)
  else s.otherBundle (bundleDie p) 0

/-- The bundle at the requester's end for the unit at `a` of what it sends to die position `dst` (R116, R117), if it leaves its die; an
engine's choice is the EDGE_SEL that is in effect for it; what a command header brings has already crossed. -/
def State.nearBundle (s : State) (q : Requester) (dst a : Nat) : Option Nat :=
  let pos := requesterDie q
  if pos = 0 ∨ pos = dst then none
  else match q with
    | .engine e => some (s.edgeBundle (pos - 1) (s.engs.at e.val).edge (s.engHalf e.val) a)
    | .die _ => none
    | _ => some (s.otherBundle pos a)

/-- The bundle by which the unit at `a` enters die position `dst` (R117, R120, R315), under EDGE_SEL 1 in half `h`. -/
def State.entryBundle (s : State) (dst h a : Nat) : Nat :=
  if 1 ≤ dst ∧ dst ≤ 8 then s.edgeBundle (dst - 1) (s.bget (.CDI_CTL (Fin.ofNat 8 (dst - 1))) F.CDI_CTL_EDGE_SEL) h a
  else s.otherBundle dst a

/-- The bundle at the far end of a request (R23, R117), if it is served on another die than the hub and the requester's.
DESIGN CHOICE, log entry 100: under EDGE_SEL 1 bonded DRAM is reached in the half of its row's number. -/
def State.farBundle (s : State) (q : Requester) (a : Nat) : Option Nat :=
  let pos := addressDie a
  if pos = 0 ∨ pos = requesterDie q then none
  else some (s.entryBundle pos (match rangeOf a with
    | .store e _ => s.engHalf e
    | .bonded row _ => row % 2
    | _ => 0) a)

/-- Whether a bundle takes no new request (R300, R312): it retrains, or its 512 tags are outstanding in that direction. -/
def State.bundleWaits (s : State) (p dir : Nat) : Bool :=
  s.bundleState p = 3 || decide (512 ≤ (s.dirOf p dir).asked.length + (s.dirOf p dir).writes.length)

/-- Flits cross bundle `p`, `up` of them to the hub and `down` to the die (R318): they are counted where the hub receives and sends. -/
def State.flitsCross (s : State) (p up down : Nat) : State :=
  let f (n : Nat) (d : DirUnit) : DirUnit := { d with sent := d.sent + n, acc := d.acc + n }
  (((s.wrap (.CWY_RX (bundleNo p)) F.CWY_RX_FLITS up).wrap (.CWY_TX (bundleNo p)) F.CWY_TX_FLITS down).dirUpd p 1 (f up)).dirUpd
    p 0 (f down)

/-- Why work waits: its source holds requests of a ticket to a resource (R226), or a bundle that it must cross takes no request. -/
inductive Hold where
  | ticket (r t : Nat)
  | bundle (p : Nat)
  deriving DecidableEq, Repr

/-- Whether an engine's requests to the hub wait while a change of EDGE_SEL takes effect for it (R117). -/
def State.edgeHeld (s : State) : Requester → Bool
  | .engine e => (s.engs.at e.val).edgeWait
  | _ => false

/-- A request of one 128-byte unit crosses by bundle `near` at its requester's end, if it leaves its die, and by the bundles `far` into the
dies where it is served, and its answers come back the same way (R23, R116, R173, R300): a read takes a command flit and brings two
data flits; a write takes a command flit and two data flits, one for a part of the unit, and brings a CPL.
DESIGN CHOICE, log entry 100. -/
def State.crossBy (s : State) (q : Requester) (rd part : Bool) (near : Option Nat) (far : List Nat) : Except Hold State :=
  let ask := if rd then 1 else if part then 2 else 3
  let back := if rd then 2 else 1
  match near.filter (fun p => s.edgeHeld q || s.bundleWaits p 1), far.find? (fun p => s.bundleWaits p 0) with
  | some p, _ => .error (.bundle p)
  | none, some p => .error (.bundle p)
  | none, none =>
    .ok (far.foldl (fun (s : State) p => s.flitsCross p back ask) (near.elim s (fun p => s.flitsCross p ask back)))

/-- A request of the 128-byte unit at address `a` crosses to where it is served (R23). -/
def State.cross (s : State) (q : Requester) (rd part : Bool) (a : Nat) : Except Hold State :=
  s.crossBy q rd part (s.nearBundle q (addressDie a) a) (s.farBundle q a).toList

/-! ### Chain messages (R122, R123, R304) -/

/-- The classes of chain messages that are urgent (R123). -/
def urgentClass (cls : Nat) : Bool := cls = 1 || cls = 4 || cls = 5 || cls = 9 || cls = 10

/-- The header word of a chain message (R123). -/
def ChainMsg.header (m : ChainMsg) : Nat :=
  m.cls % 16 + m.words.length % 4 * 16 + b2n m.toSpan * 64 + m.dest % 4096 * 128 + m.src % 256 * 2 ^ 19 + m.tag % 32 * 2 ^ 27

/-- The message whose words, the header first, are `l` (R123). -/
def ChainMsg.parse (l : List Nat) : ChainMsg :=
  let h := l.headD 0
  { cls := bits h 0 4, toSpan := bitAt h 6, dest := bits h 7 12, src := bits h 19 8, tag := bits h 27 5, words := l.tail, lanes := [] }

/-- The chain lane that serves column `c` of compute die `d` (R304): its own entry, else that of the nearest column that has one. -/
def State.columnEntry (s : State) (d c : Nat) : Option Nat :=
  let entry (k : Nat) : Option Nat := s.entryOf [8 * d + 2 * k, 8 * d + 2 * k + 1]
  (nearest ((List.range 4).filter (fun k => (entry k).isSome)) c).bind entry

/-- The chain lanes of a message to the whole die at a position (R122, R304): every column entry of a compute die, else the die's entry. -/
def State.dieLanes (s : State) (pos : Nat) : List Nat :=
  if 1 ≤ pos ∧ pos ≤ 8 then ((List.range 4).filterMap (fun c => s.columnEntry (pos - 1) c)).eraseDups
  else (s.entryOf (bundlesOf pos)).toList

/-- The chain lane of a message to a site (R304). -/
def State.siteLanes (s : State) (site : Nat) : List Nat := (s.columnEntry (site / 16) (site % 4)).toList

/-- The chain lanes of a message to every die (R122). -/
def State.allLanes (s : State) : List Nat := (span 1 11).flatMap s.dieLanes

/-- The lanes on which a chain message leaves the hub by its destination (R122, R304): those of every die for a span, that of its site. -/
def State.lanesFor (s : State) (m : ChainMsg) : List Nat :=
  if m.toSpan then s.allLanes else if m.dest < 128 then s.siteLanes m.dest else []

/-- A chain message reaches the hub's chain router by input port `port`: 0 from the hub's own units, p + 1 from the lane of bundle p. -/
def State.chainSend (s : State) (port : Nat) (m : ChainMsg) : State :=
  { s with chain := { s.chain with waiting := s.chain.waiting ++ [(port, m)] } }

/-- The hub sends a chain message of class `cls` to units on the lanes `lanes`. -/
def State.hubSays (s : State) (cls dest : Nat) (words lanes : List Nat) : State :=
  s.chainSend 0 { cls := cls, toSpan := false, dest := dest, src := 0, tag := 0, words := words, lanes := lanes }

/-- The position of the die on which a resource stands (R218): the hub for stacks and the shared buffer. -/
def resourceDie (r : Nat) : Nat := if r < 9 then 0 else if r < 41 then (r - 9) / 4 + 1 else 9

/-- A die sends a chain message (R304): it comes in on the die's entry lane, the hub's own without one. -/
def State.dieSays (s : State) (pos cls : Nat) (words lanes : List Nat) : State :=
  let port := if pos = 0 then 0 else ((s.dieLanes pos).headD 0) + 1
  s.chainSend port { cls := cls, toSpan := false, dest := 0, src := pos * 16, tag := 0, words := words, lanes := lanes }

/-- A resource sends a chain message (R225, R228), from the die on which it stands. -/
def State.resourceSays (s : State) (r cls : Nat) (words lanes : List Nat) : State := s.dieSays (resourceDie r) cls words lanes

/-! ### The chain router (R124) -/

/-- The input port that a router serves next at one level, round-robin from the one served last, if a message of that level waits. -/
def nextPort (ports : List Nat) (last : Nat) : Option Nat :=
  let later := ports.filter (fun p => last < p)
  let low (l : List Nat) : Option Nat := l.foldl (fun (m : Option Nat) p => match m with
    | none => some p
    | some x => some (min x p)) none
  (low later).orElse (fun _ => low ports)

/-- The hub's chain router serves one message (R124): an urgent one before a normal one, round-robin among the input ports within a level,
the oldest of the port's messages of that level. -/
def State.chainServe (s : State) : State :=
  let c := s.chain
  let urg := c.waiting.filter (fun x => urgentClass x.2.cls)
  let norm := c.waiting.filter (fun x => !urgentClass x.2.cls)
  let pick (l : List (Nat × ChainMsg)) (last : Nat) : Option (Nat × ChainMsg) :=
    (nextPort (l.map (·.1)) last).bind (fun p => l.find? (fun x => x.1 = p))
  match pick urg c.lastUrg, pick norm c.lastNorm with
  | some x, _ => { s with chain := { c with waiting := c.waiting.erase x, lastUrg := x.1 }, outbox := .chain x.2 :: s.outbox }
  | none, some x => { s with chain := { c with waiting := c.waiting.erase x, lastNorm := x.1 }, outbox := .chain x.2 :: s.outbox }
  | none, none => s

/-- The chain router serves what waits at it, and the flits in the ingress queues of the edge routers go on into their meshes (R118, R124):
what happens while the device's command queue is empty.  DESIGN CHOICE, log entry 101. -/
def State.networkTick (s : State) : State :=
  let s1 := s.chain.waiting.foldl (fun (s : State) _ => s.chainServe) s
  (List.range 64).foldl (fun (s : State) p =>
    let r : Reg := .CDI_EDGE (Fin.ofNat 8 (p / 8)) (Fin.ofNat 8 p)
    if s.fget r F.CDI_EDGE_INQ = 0 then s else s.fset r F.CDI_EDGE_INQ 0) s1

end Sys2Proof.Machine
end

