-- ==== Sys2Proof/Machine/Frames.lean ====
section
/-! DEFINITION. Frames of the Wealey links (R324 to R326): cutting a transfer into frames, their segment CRCs and poison
words, and the queue in which they wait to be sent (R328). -/

namespace Sys2Proof.Machine

/-- The lengths of the pieces of `n` bytes from `a` that lie within one aligned block of `m` bytes each. -/
def pieces (m : Nat) : (fuel a n : Nat) → List Nat
  | 0, _, _ => []
  | f + 1, a, n =>
    if n = 0 then [] else
      let k := min n (m - a % m)
      k :: pieces m f (a + k) (n - k)

/-- A list cut into pieces of the given lengths. -/
def cutBy {α : Type} : List Nat → List α → List (List α)
  | [], _ => []
  | n :: l, xs => xs.take n :: cutBy l (xs.drop n)

/-- SEGCRC of the bytes of a frame at address `a` (R324, R325): one CRC for each 256-byte block that they touch. -/
def segCrcs (a : Nat) (data : List Byte) : List Word :=
  (cutBy (pieces 256 5 a data.length) data).map crc32c

/-- The 32-bit words of a frame of which a byte is poisoned (R325). -/
def poisonWords (pois : List Bool) : List Nat :=
  (List.range (ceilDiv pois.length 4)).filter (fun w => (pois.drop (4 * w)).take 4 |>.any id)

/-- The bytes that a frame's poison slice marks. -/
def frameBytePois (f : Frame) : List Bool := (List.range f.data.length).map (fun i => f.pois.contains (i / 4))

/-- Whether a frame is a request (R328: virtual channel REQ); the others are responses.  DEDUCED, log entry 55. -/
def frameRequest (f : Frame) : Bool := f.typ = 1 || f.typ = 2 || f.typ = 5

/-- Puts a frame into the queue of frames to send. -/
def State.frameOut (s : State) (f : Frame) : State := { s with grp := { s.grp with frames := s.grp.frames ++ [f] } }

/-- Puts a request frame into the queue under the next tag (R326). -/
def State.requestOut (s : State) (f : Frame) : State :=
  { s with grp := { s.grp with frames := s.grp.frames ++ [{ f with tag := Fin.ofNat 65536 s.grp.tag }], tag := s.grp.tag + 1 } }

/-- A request frame from this device to device `d` at address `a`. -/
def State.newFrame (s : State) (typ d a ticket len : Nat) (data : List Byte) (pois : List Bool) : Frame :=
  { typ := Fin.ofNat 16 typ, host := false, ticket := Fin.ofNat 16 ticket, held := 0
    src := Fin.ofNat 64 (s.fget .LNK_GRP F.LNK_GRP_DEVNUM), down := false, dst := Fin.ofNat 64 d, hops := 0, status := 0
    tag := 0, addr := a, len := len, segcrc := segCrcs a data, engines := 0, data := data, pois := poisonWords pois }

/-- Sends a transfer to another device as frames that do not cross 1,024-byte boundaries (R325): TYPE `typ`, under EWRITE to the
engines of `mask`, with HOST `host` (R349). -/
def State.transferOut (s : State) (typ d mask a ticket : Nat) (host : Bool) (data : List Byte) (pois : List Bool) : State :=
  let ls := pieces 1024 (data.length / 1024 + 2) a data.length
  (((cutBy ls data).zip (cutBy ls pois)).foldl (fun (x : State × Nat) y =>
    let f := s.newFrame typ d x.2 ticket y.1.length y.1 y.2
    (x.1.requestOut { f with engines := mask, host := host }, x.2 + y.1.length)) (s, a)).1

/-- Puts a control entry into the queue of entries to send (R327). -/
def State.entryOut (s : State) (x : Entry) : State := { s with grp := { s.grp with entries := s.grp.entries ++ [x] } }

/-- Sends a chain message of class `cls` to device `d` in the Wealey control class (R123, R327): its header names span `sp`; SRC is 0, the
hub of this device. -/
def State.chainTo (s : State) (d cls sp : Nat) (payload : List Nat) : State :=
  s.entryOut { kind := 1, urg := urgentClass cls, src := Fin.ofNat 64 (s.fget .LNK_GRP F.LNK_GRP_DEVNUM)
               dst := Fin.ofNat 64 d, bcast := false
               words := (⟨cls, true, sp, 0, 0, payload, []⟩ : ChainMsg).header :: payload |>.map wordOf }

end Sys2Proof.Machine
end

