-- ==== Sys2Proof/Machine/RetrievalWindow.lean ====
section
/-! DEFINITION. The retrieval window (R159, R293): what the retrieval engines hold, as reads of the address map see it. -/

namespace Sys2Proof.Machine

/-- The record, queue and result partitions of pipeline `p` (R265). -/
def State.pipe (s : State) (p : Nat) : PipeRec := s.image.pipes.at p
@[inherit_doc State.pipe] def State.queuePart (s : State) (p : Nat) : Part := s.image.parts.at (s.pipe p).queue
@[inherit_doc State.pipe] def State.resultPart (s : State) (p : Nat) : Part := s.image.parts.at (s.pipe p).result

/-- RTV_QWR, RTV_QRD and RTV_RRD of a pipeline. -/
def State.qwr (s : State) (p : Nat) : Nat := (s.rget (.RTV_QWR (Fin.ofNat 64 p))).toNat
@[inherit_doc State.qwr] def State.qrd (s : State) (p : Nat) : Nat := (s.rget (.RTV_QRD (Fin.ofNat 64 p))).toNat
@[inherit_doc State.qwr] def State.rrd (s : State) (p : Nat) : Nat := (s.rget (.RTV_RRD (Fin.ofNat 64 p))).toNat

/-- The admitted queries. -/
def State.queries (s : State) : List (Nat × Query) := s.retr.queries.filterMap (fun e => e.2.map (e.1, ·))

/-- Admitted queries of pipeline `p` that have not ended (R287, R295): one whose forward waits or is copied has. -/
def State.inFlight (s : State) (p : Nat) : Nat := (s.queries.filter (fun q => q.2.pipe = p ∧ q.2.stage ≠ 2)).length

/-- One word of a pipeline's page. -/
def State.pipeWord (s : State) (p w : Nat) : Nat :=
  let u := s.retr.pipes.at p
  if !(s.pipe p).valid then 0
  else nth [s.qwr p, s.qrd p, s.rrd p, u.ended, u.failed, s.inFlight p] w

/-- The bytes of a result record (R284). -/
def QRec.bytes (r : QRec) : List Byte := toBytes 8 r.rid ++ toBytes 4 r.score.toNat ++ toBytes 4 (r.mat % 256)

/-- The walk contexts held, in the order of their queries (R268). -/
def State.contexts (s : State) : List (List Byte) :=
  s.queries.flatMap (fun q =>
    let st (x : NodeSt) : Nat := match x with | .new => 0 | .reading => 1 | .done => 2
    let l := q.2.list.map (fun x => Config.walkContext x.node (x.score.getD 0x7F800000) (st x.st)) ++
      (q.2.heaps.at 16).map QRec.bytes
    l ++ List.replicate (q.2.ctx - l.length) (List.replicate 16 0))

/-- A byte of the retrieval window at offset `o`, or none outside its ranges.  DESIGN CHOICE, log entry 19. -/
def State.windowByte (s : State) (o : Nat) : Option Byte :=
  if o < 64 * 0x40 then
    some (byteOf (if o % 64 < 24 then s.pipeWord (o / 64) (o % 64 / 4) / 256 ^ (o % 4) else 0))
  else if 0x01000000 ≤ o ∧ o < 0x02000000 then
    some (nth ((s.contexts[(o - 0x01000000) / 16]?).getD (List.replicate 16 0)) (o % 16))
  else if 0x02000000 ≤ o ∧ o < 0x04000000 then
    let k := (o - 0x02000000) / 8192
    let v := match s.queries.find? (fun q => q.2.wslot = some k) with
      | some q => q.2.visited
      | none => []
    some (byteOf ((List.range 8).foldl (fun b i => if v.contains (o % 8192 * 8 + i) then b + 2 ^ i else b) 0))
  else if 0x04000000 ≤ o ∧ o < 0x04400000 then
    let h := (o - 0x04000000) / 16384
    let rs := match s.queries.find? (fun q => q.2.slots.contains (h / 16, h % 16)) with
      | some q => q.2.heaps.at (h / 16)
      | none => []
    some (match rs[o % 16384 / 16]? with
      | some r => nth r.bytes (o % 16)
      | none => 0)
  else none

/-- Reads the retrieval window (R293): none when a byte lies outside its ranges. -/
def State.windowRead (s : State) (o n : Nat) : Option (List Byte) :=
  (List.range n).foldr (fun i acc => match s.windowByte (o + i), acc with
    | some b, some l => some (b :: l)
    | _, _ => none) (some [])

end Sys2Proof.Machine
end

