-- ==== Sys2Proof/Machine/Tickets.lean ====
section
/-! DEFINITION. Tickets and latency targets (file 08_tickets.md): resources, priorities, queue bands and their messages,
averages and steps, misses and admission; and the meanings of the commands that only regulate. -/

namespace Sys2Proof.Machine

/-! ### Resources -/

/-- The class of a resource (R218): 0 stack, 1 shared buffer, 2 bonded row, 3 flash channel. -/
def resClass (r : Nat) : Nat := if r < 8 then 0 else if r = 8 then 1 else if r < 41 then 2 else 3

/-- The resource that is number `n` of class `k` (R218): one of the 8 stacks, the shared buffer, one of the 32 rows or channels. -/
def resNo (k n : Nat) : Nat := if k = 0 then n % 8 else if k = 1 then 8 else if k = 2 then 9 + n % 32 else 41 + n % 32

/-- The queue depth of a class (R218). -/
def classDepth (k : Nat) : Nat := if k = 0 then 1024 else if k = 1 then 64 else 256

/-- The resource that serves a device-local address, if one does (R218). -/
def State.resourceOf (s : State) (a : Nat) : Option Nat :=
  match s.cellOf true ((s.promoted a).getD a) with
  | some c => if c.cls = 5 then some c.inst else if c.cls = 1 then some 8 else if c.cls = 4 then some (9 + c.inst) else none
  | none => none

/-- Ticket `t` at resource `r`. -/
def State.tktAt (s : State) (r t : Nat) : TktRes := s.tkt.at_.at (r * 16 + t)

/-- The state with ticket `t` at resource `r` changed. -/
def State.tktUpd (s : State) (r t : Nat) (f : TktRes → TktRes) : State :=
  { s with tkt := { s.tkt with at_ := s.tkt.at_.upd (r * 16 + t) f } }

/-- The state with resource `r` changed. -/
def State.resUpd (s : State) (r : Nat) (f : ResUnit → ResUnit) : State :=
  { s with tkt := { s.tkt with res := s.tkt.res.upd r f } }

/-- The target of a ticket on the kind of a class (R217), 0 for none. -/
def State.target (s : State) (k t : Nat) : Nat :=
  let r : Reg := .TKT_TGT (Fin.ofNat 16 t)
  if k = 3 then s.fget r F.TKT_TGT_FLASH else s.fget r F.TKT_TGT_MEM

/-- The current priority of a ticket at a resource (R217, R221, R231).  DEDUCED, log entry 28. -/
def State.priority (s : State) (r t : Nat) : Nat :=
  if t = 0 then 15
  else
    let x := s.tktAt r t
    x.oldBase.getD (s.fget (.TKT_CLS (Fin.ofNat 16 t)) F.TKT_CLS_BASE) + x.step

/-! ### Bands and holds -/

/-- LO and HI of a class (R224). -/
def State.lo (s : State) (k : Nat) : Nat := s.fget (.TKT_QTHR (Fin.ofNat 4 k)) F.TKT_QTHR_LO
@[inherit_doc State.lo] def State.hi (s : State) (k : Nat) : Nat := s.fget (.TKT_QTHR (Fin.ofNat 4 k)) F.TKT_QTHR_HI

/-- The band of a queue at `level` that was in band `b` (R224): a band falls only a sixteenth of the depth below its
threshold. -/
def bandOf (lo hi depth b level : Nat) : Nat :=
  if hi ≤ level then 2
  else if b = 2 ∧ hi ≤ level + depth / 16 then 2
  else if lo ≤ level then 1
  else if 1 ≤ b ∧ lo ≤ level + depth / 16 then 1
  else 0

/-- The throttle limit of a band (R224). -/
def State.limit (s : State) (b : Nat) : Nat :=
  if b = 0 then 0 else if b = 1 then s.fget .TKT_CTL F.TKT_CTL_LIMIT1 else s.fget .TKT_CTL F.TKT_CTL_LIMIT2

/-- The HOLD mask of a resource in band `b` (R224, R225): bit 0 is always 0. -/
def State.holdMask (s : State) (r b : Nat) : Nat :=
  (List.range 15).foldl (fun m i => if s.priority r (i + 1) < s.limit b then m + 2 ^ (i + 1) else m) 0

/-- Sends THROTTLE of a resource (R225), to every die and the hub's units. -/
def State.throttle (s : State) (r : Nat) : State :=
  let b := (s.tkt.res.at r).band
  let h := s.holdMask r b
  (s.resUpd r (fun u => { u with hold := h })).resourceSays r 0x4 [r + b * 256, h] s.allLanes

/-- The queue of resource `r` reaches a level (R166, R224, R225), which its depth bounds: a change of band sends QUEUE_LEVEL and
THROTTLE. -/
def State.queueLevel (s : State) (r reached : Nat) : State :=
  let k := resClass r
  let level := min (classDepth k) reached
  let b := (s.tkt.res.at r).band
  let b' := bandOf (s.lo k) (s.hi k) (classDepth k) b level
  let s1 := s.resUpd r (fun u => { u with level := level, band := b' })
  let s2 := if r < 8 then
      let q : Reg := .STK_QLEVEL (Fin.ofNat 8 r)
      (s1.fset q F.STK_QLEVEL_LEVEL level).fset q F.STK_QLEVEL_HWM (max level (s1.fget q F.STK_QLEVEL_HWM))
    else if 41 ≤ r then
      let q : Reg := .FLC_QLEVEL (Fin.ofNat 32 (r - 41))
      (s1.fset q F.FLC_QLEVEL_LEVEL level).fset q F.FLC_QLEVEL_HWM (max level (s1.fget q F.FLC_QLEVEL_HWM))
    else s1
  if b = b' then s2 else (s2.resourceSays r 0x5 [r + level * 256 + b' * 2 ^ 19] []).throttle r

/-- A measured read of `interval` at a resource: the 256th since AVG's last window ends that window (R220). -/
def TktRes.avgRead (x : TktRes) (interval : Nat) : TktRes :=
  if x.avgReads < 255 then { x with avgReads := x.avgReads + 1, avgSum := x.avgSum + interval }
  else { x with avgReads := 0, avgSum := 0, due := x.due ++ [x.avgSum + interval] }

/-- A measured read of `interval` of a ticket with a target: the 4,096th ends its window (R228). -/
def TktRes.missRead (x : TktRes) (interval : Nat) : TktRes :=
  if x.reads < 4095 then { x with reads := x.reads + 1, sum := x.sum + interval }
  else { x with reads := 0, sum := 0, ends := x.ends ++ [x.sum + interval] }

/-- The bucket of the latency histogram for an interval (R427). -/
def histBucket (n : Nat) : Nat := if n < 16 then 0 else if 262144 ≤ n then 15 else n.log2 - 3

/-- Counts a measured read in the latency histogram, when it is the selected ticket at the selected resource (R427). -/
def State.histCount (s : State) (r t interval : Nat) : State :=
  if s.fget .TEL_HIST_SEL F.TEL_HIST_SEL_RES = r ∧ s.fget .TEL_HIST_SEL F.TEL_HIST_SEL_TICKET = t then
    s.cnt (.TEL_HIST (Fin.ofNat 16 (histBucket interval))) F.TEL_HIST_COUNT 1
  else s

/-- HELD in the unit of a resource's intervals (R219, R227): core cycles at memory, units of 64 core cycles at flash. -/
def heldTime (r held : Nat) : Nat := if resClass r = 3 then held / 4 else 16 * held

/-- A resource serves a read of ticket `t` that arrived with the HELD field `held` and took `time` (R219, R220, R227, R228, R427). -/
def State.countRead (s : State) (r t held time : Nat) : State :=
  let interval := time + heldTime r held
  let hasTarget := decide (s.target (resClass r) t ≠ 0)
  let s1 := (s.tktUpd r t (fun x => if hasTarget then (x.avgRead interval).missRead interval else x.avgRead interval)).histCount
    r t interval
  if held = 0 then s1 else s1.resUpd r (fun u => { u with heldCnt := satAdd 32 u.heldCnt 1 })

/-! ### Averages, steps and misses -/

/-- The sixteenths of the target at which a step is reached (R221). -/
def stepUp (n : Nat) : Nat := nth [0, 8, 10, 12, 13, 14, 15, 16, 18] n

/-- STEP after an update of AVG (in quarters) against a target (R221, R222): it moves by at most one. -/
def stepNext (avg target step : Nat) : Nat :=
  if target = 0 then 0
  else if step < 8 ∧ stepUp (step + 1) * target ≤ 4 * avg then step + 1
  else if 0 < step ∧ 4 * avg < (stepUp step - 1) * target then step - 1
  else step

/-- The state with STEP and AVG (in quarters) of ticket `t` at resource `r` set: a change of STEP while the band is not 0 sends
THROTTLE (R225). -/
def State.putStep (s : State) (r t avg step : Nat) : State :=
  let s1 := s.tktUpd r t (fun x => { x with avg := avg, step := step })
  if step ≠ (s.tktAt r t).step ∧ (s.tkt.res.at r).band ≠ 0 then s1.throttle r else s1

/-- TICKET_AVG_UPDATE (R220 to R222): after 256 reads, AVG moves a quarter of the way to the mean of their intervals, which is
the 64th part of their sum in quarters. -/
def execTicketAvgUpdate (k : Fin 4) (n : Fin 32) (t : Ticket) (s : State) : Res State :=
  let r := resNo k.val n.val
  let x := s.tktAt r t.val
  match x.due with
  | [] => .next s
  | sum :: due =>
    let avg := (3 * x.avg + sum / 64) / 4
    let st := if t.val = 0 then 0 else stepNext avg (s.target (resClass r) t.val) x.step
    .next ((s.tktUpd r t.val (fun x => { x with due := due, oldBase := none })).putStep r t.val avg st)

/-- Records a miss of ticket `t` at resource `r` (R228); a flash channel reports it to the hub in a STATUS message.
DESIGN CHOICE, log entry 97. -/
def State.miss (s : State) (r t : Nat) : State :=
  let s0 := if resClass r = 3 then s.resourceSays r 0xD [r + t * 128] [] else s
  let s1 := (s0.rset .TKT_MISS (s0.rget .TKT_MISS ||| wordOf (2 ^ t))).fset .TKT_MISS_LAST F.TKT_MISS_LAST_RES r
  ((s1.fset .TKT_MISS_LAST F.TKT_MISS_LAST_TICKET t).cnt .TKT_MISS_LAST F.TKT_MISS_LAST_COUNT 1).raise 20

/-- MISS_WINDOW_END (R228): a window of 4,096 reads is over when the mean of their intervals exceeds the target; the fourth window
over in a row records a miss. -/
def execMissWindowEnd (k : Fin 4) (n : Fin 32) (t : Ticket) (s : State) : Res State :=
  let r := resNo k.val n.val
  let x := s.tktAt r t.val
  match x.ends with
  | [] => .next s
  | sum :: ends =>
    let overs := if 4096 * s.target (resClass r) t.val < sum then x.overs + 1 else 0
    let s1 := s.tktUpd r t.val (fun x => { x with ends := ends, overs := if overs = 4 then 0 else overs })
    .next (if overs = 4 then s1.miss r t.val else s1)

/-- QUEUE_LEVEL_RECEIVE (R225): the ticket unit takes a resource's message. -/
def execQueueLevelReceive (r : Fin 73) (level : Fin 2048) (band : Fin 4) (s : State) : Res State :=
  .next (s.resUpd r.val (fun u => { u with seenLevel := level.val, seenBand := band.val }))

/-! ### What a source holds -/

/-- The source that holds a requester's requests (R174, R226): the host bridge is one source for all its functions. -/
def sourceOf : Requester → Requester
  | .host _ => .host 0
  | q => q

/-- The HOLD mask that source `q` last received for resource `r` (R226). -/
def State.sourceHold (s : State) (q : Requester) (r : Nat) : Nat :=
  ((s.tkt.hold.find? (fun x => x.1 = (sourceOf q, r))).map (·.2)).getD 0

/-- Whether source `q` holds new requests of ticket `t` to resource `r` (R226, R227): ticket 0 never. -/
def State.heldBit (s : State) (q : Requester) (r t : Nat) : Bool := decide (t ≠ 0) && bitAt (s.sourceHold q r) t

/-- Whether two requests touch one 128-byte block of the same view (R174). -/
def sameBlock (p q : MemReq) : Bool :=
  decide (0 < p.len ∧ 0 < q.len ∧ p.addr / 128 ≤ (q.addr + q.len - 1) / 128 ∧ q.addr / 128 ≤ (p.addr + p.len - 1) / 128)

/-- Whether the accesses of a requester to one block are performed in issue order (R174). -/
def orderedSource : Requester → Bool
  | .wealey _ => false
  | .hub => false
  | _ => true

/-- Whether a held request comes before a request `q` to resource `r`: both have one source, and the same ticket and resource (R226)
or a block in common (R174). -/
def heldBefore (x : Nat × MemReq × Bool) (r : Nat) (q : MemReq) : Bool :=
  decide (sourceOf x.2.1.rq = sourceOf q.rq) &&
    (decide (q.ticket.val ≠ 0 ∧ x.1 = r ∧ x.2.1.ticket = q.ticket) || (orderedSource q.rq && sameBlock x.2.1 q))

/-- Whether a source holds a new request to resource `r` (R226): its ticket is held for the resource, an earlier held request comes
before it, or its stack does not accept requests yet (R169).  DESIGN CHOICE, log entry 96. -/
def State.holds (s : State) (r : Nat) (q : MemReq) : Bool :=
  s.heldBit q.rq r q.ticket.val || s.tkt.heldReqs.any (fun x => heldBefore x r q) || s.stackRests q.addr

/-- The HELD field of a request that its source lets go after holding it (R227): the hold time, up to 1,023 units, is added to the
value it came with.  DESIGN CHOICE, log entry 77. -/
def State.heldField (s : State) (held : Nat) : Nat := min 1023 (held + (Config.freeWord s.free).toNat % 1024)

/-- Counts one 128-byte request of ticket `t` with HELD `held` at resource `r` (R189, R219): a read with its interval; at a stack
whether it misses the DRAM page.  DESIGN CHOICE, log entry 95. -/
def State.countAt (s : State) (rd : Bool) (r t held : Nat) : State :=
  let x := (Config.freeWord s.free).toNat
  let s1 := if r < 8 then s.tick.wrap (.STK_MISS_CNT (Fin.ofNat 8 r)) F.STK_MISS_CNT_MISSES (x % 2) else s.tick
  if rd then s1.countRead r t held (x / 2 % 2 ^ 18) else s1

/-- The requests of source `q` under ticket `t` to resource `r` that the leak has let go and that are still to be made (R226). -/
def State.credits (s : State) (q : Requester) (r t : Nat) : Nat :=
  ((s.tkt.leaked.find? (fun x => x.1 = (sourceOf q, r, t))).map (·.2)).getD 0

/-- The state with their number set. -/
def State.putCredits (s : State) (q : Requester) (r t n : Nat) : State :=
  let rest := s.tkt.leaked.filter (fun x => x.1 ≠ (sourceOf q, r, t))
  { s with tkt := { s.tkt with leaked := if n = 0 then rest else rest ++ [((sourceOf q, r, t), n)] } }

/-- The 128-byte blocks that the `n` bytes from `a` touch: a request each (R171, R174). -/
def requestsOf (a n : Nat) : List Nat :=
  if n = 0 then [] else (List.range ((a + n - 1) / 128 - a / 128 + 1)).map (fun i => (a / 128 + i) * 128)

/-- Runs a part over the 128-byte units that the `n` bytes from `a` touch, in order: it gets a unit's address and whether the bytes are only
a part of it. -/
def State.eachUnit (s : State) (a n : Nat) (f : State → Nat → Bool → Except Hold State) : Except Hold State :=
  (requestsOf a n).foldl (fun (x : Except Hold State) b => x.bind (fun s => f s b (decide (b < a ∨ a + n < b + 128)))) (.ok s)

/-- The state in which no work of unit `q` waits for requests of ticket `t` to resource `r`. -/
def State.waitOver (s : State) (q : Requester) (r t : Nat) : State :=
  { s with tkt := { s.tkt with waits := s.tkt.waits.erase (sourceOf q, r, t) } }

/-- A request of unit `q` under ticket `t` for the 128-byte block at `b` reaches its resource and is counted there (R219), unless its source
holds it (R226); one that its source has held brings HELD (R227). -/
def State.letPass (s : State) (q : Requester) (t : Nat) (rd : Bool) (b : Nat) : Except Hold State := match s.resourceOf b with
  | none => .ok s
  | some r =>
    if s.heldBit q r t then
      match s.credits q r t with
      | 0 => .error (.ticket r t)
      | k + 1 => .ok (((s.putCredits q r t k).waitOver q r t).countAt rd r t (s.heldField 0))
    else if s.tkt.waits.contains (sourceOf q, r, t) then .ok ((s.waitOver q r t).countAt rd r t (s.heldField 0))
    else .ok (s.countAt rd r t 0)

/-- The work of unit `q` under ticket `t` reads or writes the `n` bytes from `a` (R23, R30, R219, R226): its requests cross to where they are
served and are counted there, or the work waits. -/
def State.pass (s : State) (q : Requester) (t : Nat) (rd : Bool) (a n : Nat) : Except Hold State :=
  s.eachUnit a n (fun s b part => (s.letPass q t rd b).bind (fun s => s.cross q rd part b))

/-- The state in which the work of unit `q` waits for its source to let requests go (R226), or for a bundle. -/
def State.waitFor (s : State) (q : Requester) (h : Hold) : State := match h with
  | .bundle _ => s
  | .ticket r t =>
    if s.tkt.waits.contains (sourceOf q, r, t) then s
    else { s with tkt := { s.tkt with waits := s.tkt.waits ++ [(sourceOf q, r, t)] } }

/-- Management traffic of the hub, which no source holds (R215, R227): its requests are counted at their resources. -/
def State.hubPass (s : State) (rd : Bool) (a n : Nat) : State := match s.pass .hub 0 rd a n with
  | .ok t => t
  | .error _ => s

/-! ### Admission (R229 to R231) -/

/-- The declared bandwidth of a ticket on a class (R217). -/
def State.declared (s : State) (k t : Nat) : Nat :=
  let b0 : Reg := .TKT_BW0 (Fin.ofNat 16 t)
  let b1 : Reg := .TKT_BW1 (Fin.ofNat 16 t)
  if k = 0 then s.fget b0 F.TKT_BW0_STACK else if k = 1 then s.fget b1 F.TKT_BW1_SBF
  else if k = 2 then s.fget b0 F.TKT_BW0_BONDED else s.fget b1 F.TKT_BW1_FLASH

/-- Whether a ticket has a target. -/
def State.hasTarget (s : State) (t : Nat) : Bool := decide ((s.rget (.TKT_TGT (Fin.ofNat 16 t))).toNat ≠ 0)

/-- The sum of the declared bandwidths of a class over the tickets with targets (R229). -/
def State.admitSum (s : State) (k : Nat) : Nat :=
  ((List.range 15).map (fun i => if s.hasTarget (i + 1) then s.declared k (i + 1) else 0)).foldl (· + ·) 0

/-- Whether bonded row `i` is live (R229). -/
def State.rowLive (s : State) (i : Nat) : Bool := !s.dieFenced (i / 4 + 1) && !s.deadRows.contains i

/-- Whether flash channel `c` is live (R229). -/
def State.chanLive (s : State) (c : Nat) : Bool :=
  !s.dieFenced 9 && decide (s.fget (.FLC_STAT (Fin.ofNat 32 c)) F.FLC_STAT_STATE ≠ 4)

/-- The admission capacity of a class, in the units of R217 (R229). -/
def State.admitCap (s : State) (k : Nat) : Nat :=
  if k = 0 then ((List.range 8).filter (fun n => !s.stackFenced n)).length * 1044 * 31 / 32
  else if k = 1 then 49152 * 31 / 320
  else if k = 2 then ((List.range 32).filter s.rowLive).length * 2048 * 31 / 32
  else ((List.range 32).filter s.chanLive).length * 24 * 4096 * 31 / (4672 * 32)

/-- Whether every class's sum fits its capacity (R229). -/
def State.admitFits (s : State) : Bool := (List.range 4).all (fun k => decide (s.admitSum k ≤ s.admitCap k))

/-- Resets AVG and STEP of ticket `t` at every resource (R220, R231). -/
def State.avgReset (s : State) (t : Nat) : State := (List.range 73).foldl (fun s r => s.putStep r t 0 0) s

/-- BEST_EFFORT of ticket `t` as its targets say (R217, R233). -/
def State.bestEffort (s : State) (t : Nat) : State :=
  s.bset (.TKT_CLS (Fin.ofNat 16 t)) F.TKT_CLS_BEST_EFFORT (!s.hasTarget t)

/-- Sets ticket `t` aside (R230): both targets cleared, BEST_EFFORT and its TKT_DROP bit set. -/
def State.setAside (s : State) (t : Nat) : State :=
  ((s.rset (.TKT_TGT (Fin.ofNat 16 t)) 0).bestEffort t).rset .TKT_DROP (s.rget .TKT_DROP ||| wordOf (2 ^ t))

/-- The ticket that is set aside next (R230): the lowest BASE, and among equals the highest number. -/
def State.nextAside (s : State) : Option Nat :=
  ((List.range 15).map (· + 1)).foldl (fun (b : Option Nat) t =>
    if s.hasTarget t then
      match b with
      | none => some t
      | some u =>
        if s.fget (.TKT_CLS (Fin.ofNat 16 t)) F.TKT_CLS_BASE ≤ s.fget (.TKT_CLS (Fin.ofNat 16 u)) F.TKT_CLS_BASE
        then some t else some u
    else b) none

/-- Sets tickets aside, one at a time, until every class fits (R230); at most 15. -/
def State.setAsideAll : (fuel : Nat) → State → State
  | 0, s => s
  | n + 1, s =>
    if s.admitFits then s
    else match s.nextAside with
      | some t => State.setAsideAll n (s.setAside t)
      | none => s

/-- The ticket that a task takes from a register write carrying ticket `t` (R216, R233). -/
def State.taskTicket (s : State) (t : Nat) : Nat :=
  if t = 0 then (if s.fget .TKT_CTL F.TKT_CTL_DEF_TICKET = 0 then 15 else s.fget .TKT_CTL F.TKT_CTL_DEF_TICKET) else t

end Sys2Proof.Machine
end

