-- ==== Sys2Proof/Machine/Memory.lean ====
section
/-! DEFINITION. Accesses to memory: reading and writing ranges of device-local addresses word by word and block by block,
with poison, manifests, partial writes, write-error completions and fault injection (R174, R185, R194 to R210). -/

namespace Sys2Proof.Machine

/-- The stored manifest of the 256-byte block whose first cell is `k` (R204); after the initial fill it is that of 256
zero bytes (R208). -/
def MemUnit.manifest (m : MemUnit) (k : Nat) : Word := (Tab.at m.man (k / 256)).getD zeroManifest

/-- The memory with a block's manifest stored. -/
def MemUnit.setManifest (m : MemUnit) (k : Nat) (v : Word) : MemUnit :=
  { m with man := Tab.put m.man (k / 256) (if v = zeroManifest then none else some v) }

/-- The state with its memory changed. -/
def State.withMem (s : State) (m : MemUnit) : State := { s with mem := m }

/-- The correction threshold of a cell's stack pins (STK_PIN_THR, R167). -/
def State.pinThr (s : State) (c : CellRef) : Nat := s.fget (.STK_PIN_THR (Fin.ofNat 8 c.inst)) F.STK_PIN_THR_THRESH

/-- Completes the events that the memory has raised (R194, R198, R199): the defect-log records of new patches, then the
interrupt sources. -/
def State.settle (s : State) : State :=
  let s1 := s.mem.newPatches.foldl (fun (s : State) k =>
    let inst := s.mem.insts.findSome? (fun e => (patchOf e.2.patch k).map (fun _ => e.1))
    match inst with
    | some i =>
      let a := (⟨i / 128, i % 128, k⟩ : CellRef).logAddr
      s.logRec ⟨0x03, 7, i / 128 + i % 128 * 8, a % 2 ^ 32, a / 2 ^ 32, false⟩ (Config.logWriteOk s.log.attempts)
    | none => s) s
  let evts := s1.mem.evts
  (s1.withMem { s1.mem with evts := [], newPatches := [], newCe := [], newUe := [] }).raises evts

/-- What a read delivers: the state after it, the bytes, which of them belong to poisoned words, the manifests of the whole
blocks read, the first address whose access completes with an error, and the first block that does not match its
manifest, with all of these (R207). -/
structure Read where
  st : State
  bytes : List Byte
  pois : List Bool
  mans : List Word
  err : Option Nat
  bad : Option Nat
  bads : List Nat

/-- Reads the 64 words of the aligned block at address `a` (R206, R207): the words, which are poisoned, the stored
manifest.  None where the access completes with an error. -/
def State.readBlock (s : State) (hub scrub : Bool) (a : Nat) : Option (State × List Nat × List Bool × Word) :=
  match s.cellOf hub a with
  | none => none
  | some c =>
    let r := (List.range 64).foldl (fun (acc : MemUnit × List Nat × List Bool) i =>
      let c' : CellRef := { c with key := c.key + 4 * i }
      let x := if scrub then acc.1.scrubRead c' (s.pinThr c) else acc.1.read c' (s.pinThr c)
      (x.1, acc.2.1 ++ [x.2.1], acc.2.2 ++ [x.2.2])) (s.mem, [], [])
    some (s.withMem r.1, r.2.1, r.2.2, s.mem.manifest c.key)

/-- The bytes of some words, the least significant first. -/
def wordsToBytes (l : List Nat) : List Byte := l.flatMap (fun w => toBytes 4 w)

/-- The addresses of the aligned 256-byte blocks that the `n` bytes from `a` touch. -/
def blocksOf (a n : Nat) : List Nat :=
  if n = 0 then [] else (List.range ((a + n - 1) / 256 - a / 256 + 1)).map (fun i => (a / 256 + i) * 256)

/-- Records a manifest mismatch of the block at device address `a`, seen at `point` (R207, MEM_MAN_ADDR).
DESIGN CHOICE, log entry 105: POINT has no code for the arrival of a codebook write (point 7 here), where it takes a free value. -/
def State.manifestBad (s : State) (a point : Nat) : State :=
  let p := if point = 7 then (Config.freeWord s.free).toNat % 16 else point
  (if point = 7 then s.tick else s).withMem ({ s.mem with manCnt := satAdd 32 s.mem.manCnt 1, manAddr := a, manPoint := p }.evt 419)

/-- Counts the 64-byte blocks that a request reads from or writes to a stack (R189), and the reads of its pin window
(R167). -/
def State.stackCount (s : State) (rd : Bool) (a n : Nat) : State :=
  match s.cellOf true a with
  | some c =>
    if c.cls = 5 then
      let k := (a + n - 1) / 64 - a / 64 + 1
      let r : Reg := if rd then .STK_RD_CNT (Fin.ofNat 8 c.inst) else .STK_WR_CNT (Fin.ofNat 8 c.inst)
      let s1 := s.rset r (s.rget r + wordOf k)
      if rd then
        let q := s1.mem.pinReads.at c.inst + k
        if q < 2 ^ 20 then s1.withMem { s1.mem with pinReads := s1.mem.pinReads.put c.inst q }
        else s1.withMem { s1.mem with
          pinReads := s1.mem.pinReads.put c.inst 0,
          pinCnt := s1.mem.pinCnt.filter (fun e => e.1 / 1024 ≠ c.inst) }
      else s1
    else s
  | none => s

/-- The partition of a KV pool that holds page `p` of the interleaved view (R183), if one does. -/
def State.kvPool (s : State) (p : Nat) : Option Part :=
  (s.image.parts.find? (fun e => e.2.valid && decide (e.2.use = 3 ∧ e.2.kind = 1 ∧ e.2.base ≤ p * 65536 ∧
    p * 65536 < e.2.base + e.2.len))).map (·.2)

/-- Whether the placement loop passes over a KV pool (R183): in automatic mode, that of a span at expert level. -/
def State.loopSkips (s : State) (q : Part) : Bool :=
  decide (s.fget .SBF_PL_CTL F.SBF_PL_CTL_MODE = 2) && (Tab.at s.spans q.span).expert

/-- Promotion frames that are still in force (R184): frames of the promotion target that hold pages of a KV pool. -/
def State.placeTrim (s : State) : State :=
  let n := match s.frameBase with
    | some (_, n) => n
    | none => 0
  { s with place := { s.place with frames := s.place.frames.filter (fun e => decide (e.1 < n) && match e.2 with
      | some p => (s.kvPool p).isSome
      | none => false) } }

/-- Counts a read of page `p` in the placement loop's table (R184): 4,096 sets of 16 entries by page number; a page without an
entry replaces the lowest count of a full set. -/
def placeBump (l : List (Nat × Nat)) (p : Nat) : List (Nat × Nat) :=
  if l.any (fun e => e.1 = p) then l.map (fun e => if e.1 = p then (p, min 255 (e.2 + 1)) else e)
  else
    let set := l.filter (fun e => e.1 % 4096 = p % 4096)
    if set.length < 16 then l ++ [(p, 1)]
    else
      let low := set.foldl (fun (m : Nat × Nat) e => if e.2 < m.2 then e else m) (set.headD (0, 0))
      l.filter (fun e => e.1 ≠ low.1) ++ [(p, 1)]

/-- Whether the placement loop deals with page `p` (R183): it is one of a KV pool that the loop does not pass over. -/
def State.loopPage (s : State) (p : Nat) : Bool := match s.kvPool p with
  | some q => !s.loopSkips q
  | none => false

/-- The pages that a read of `n` bytes at interleaved address `x` counts for (R183, R184). -/
def State.placePages (s : State) (x n : Nat) : List Nat :=
  (span (s.pageOf x) ((x + n - 1) / 65536 - x / 65536 + 1)).filter s.loopPage

/-- Counts a read of `n` bytes at address `a` for the placement loop (R184): once for each page. -/
def State.placeCount (s : State) (a n : Nat) : State :=
  match rangeOf a with
  | .interleaved x =>
    if n = 0 then s
    else
      let pages := s.placePages x n
      { s with place := { s.place with
          counts := pages.foldl placeBump s.place.counts
          reads := s.place.reads + pages.length } }
  | _ => s

/-- Demotes the page of interleaved address `b`, whose frame reads uncorrectable (R185): it is not promoted again in this epoch. -/
def State.pageDemote (s : State) (b : Nat) : State :=
  match rangeOf b with
  | .interleaved x => { s with
      place := { s.place with
        frames := s.place.frames.filter (fun e => e.2 ≠ some (s.pageOf x))
        barred := s.pageOf x :: s.place.barred } }.cnt .SBF_PL_DEMO F.SBF_PL_DEMO_COUNT 1
  | _ => s

/-- What a read of part of a block answers: its bytes, which of them belong to poisoned words, the block's manifest, and whether
the block does not match it. -/
structure Part256 where
  bytes : List Byte
  pois : List Bool
  man : Word
  mism : Bool

/-- Reads bytes `lo` to `hi - 1` of the block at device-local address `b` (R159, R185, R194, R207, R293); none where the access
completes with an error.  A page that is promoted is read from its frame, as long as its stack serves it (R168, R201), and from the
stack again when the frame reads uncorrectable. -/
def State.readPart (s : State) (hub : Bool) (point b lo hi : Nat) : Option (State × Part256) :=
  match rangeOf b with
  | .retrieval o =>
    if s.dieFenced 9 then none
    else (s.windowRead (o + lo) (hi - lo)).map (fun l => (s, ⟨l, l.map (fun _ => false), crc32c l, false⟩))
  | _ =>
    let src := (s.promoted b).getD b
    if src ≠ b ∧ s.cellOf hub b = none then none
    else
      let got0 := s.readBlock (hub || decide (src ≠ b)) false src
      let demote := decide (src ≠ b) && (match got0 with
        | some g => decide (s.mem.newUe.length < g.1.mem.newUe.length)
        | none => true)
      let st0 := if demote then (match got0 with | some g => g.1 | none => s).pageDemote b else s
      match (if demote then st0.readBlock hub false b else got0) with
      | none => none
      | some (st, ws, ps, man) =>
        let bytes := wordsToBytes ws
        let pois := ps.flatMap (fun p => List.replicate 4 p)
        let mism := decide (point ≠ 0) && !(ps.any id) && decide (crc32c bytes ≠ man)
        some ((if mism then st.manifestBad b point else st).stackCount true ((if demote then b else src) + lo) (hi - lo),
          ⟨(bytes.drop lo).take (hi - lo), (pois.drop lo).take (hi - lo), man, mism⟩)

/-- Reads `n` bytes from device-local address `a` (R174, R194, R207), whole blocks at a time.  `point` is the point that a
manifest mismatch is recorded at (0 none is checked). -/
def State.readAt (s : State) (hub : Bool) (point a n : Nat) : Read :=
  let s := if hub then s else s.placeCount a n
  (blocksOf a n).foldl (fun (r : Read) b =>
    match r.err with
    | some _ => r
    | none =>
      match r.st.readPart hub point b (max a b - b) (min (a + n) (b + 256) - b) with
      | none => { r with err := some (max a b) }
      | some (st, x) =>
        { st := st,
          bytes := r.bytes ++ x.bytes,
          pois := r.pois ++ x.pois,
          mans := r.mans ++ [x.man],
          err := none,
          bad := if x.mism && decide (r.bad = none) then some b else r.bad
          bads := if x.mism then b :: r.bads else r.bads })
    ⟨s, [], [], [], none, none, []⟩

/-- Whether fault injection is armed for the instance of cell `c` (R210). -/
def State.armed (s : State) (c : CellRef) : Bool :=
  let r : Reg := .MEM_FLIP_INST (Fin.ofNat 6 c.cls)
  bitAt (s.fget .MEM_FLIP_CTL F.MEM_FLIP_CTL_ARM) c.cls &&
    (s.bget r F.MEM_FLIP_INST_ANY || decide (s.fget r F.MEM_FLIP_INST_INST = c.inst)) &&
    decide (patchOf (s.mem.insts.at c.ik).patch c.key = none)

/-- Writes one word (or the bytes that `mask` names) of memory, with the injection of R210 when it is armed.  Answers the
state and whether the write completes with a write error. -/
def State.writeCell (s : State) (c : CellRef) (mask w : Nat) (pois : Bool) : State × Bool :=
  let r := s.mem.write c mask w pois (s.pinThr c)
  if s.armed c && !r.2 then
    let m := r.1.inject c (s.rget (.MEM_FLIP_DATA (Fin.ofNat 6 c.cls))).toNat
      (s.fget (.MEM_FLIP_CHK (Fin.ofNat 6 c.cls)) F.MEM_FLIP_CHK_MASK)
    let arm := s.fget .MEM_FLIP_CTL F.MEM_FLIP_CTL_ARM
    ((s.withMem ({ m with flipHit := (s.reportAddr c, c.cls) }.evt 421)).fset .MEM_FLIP_CTL F.MEM_FLIP_CTL_ARM
      (arm - 2 ^ c.cls), false)
  else (s.withMem r.1, r.2)

/-- What a write answers: the state after it, the first address whose access completes with an error, and the first
address whose write completes with a write error (R203, R206). -/
structure Write where
  st : State
  err : Option Nat
  werr : Option Nat

/-- The four-bit mask of the bytes of word `i` of a block that lie in `lo ≤ byte < hi`. -/
def wordMask (lo hi i : Nat) : Nat :=
  let f (j : Nat) : Nat := if lo ≤ 4 * i + j ∧ 4 * i + j < hi then 2 ^ j else 0
  f 0 + f 1 + f 2 + f 3

/-- Reads the block of cell `c` for a partial write of bytes `lo` to `hi - 1` (R206): the words that the write leaves alone are read as
on every read (R194); what becomes of a word that it touches, R203 says, so that here such a word is only looked at.  DEDUCED, log
entry 98. -/
def State.mergeRead (s : State) (c : CellRef) (lo hi : Nat) : State × List Nat × List Bool :=
  let r := (List.range 64).foldl (fun (acc : MemUnit × List Nat × List Bool) i =>
    let x := acc.1.read { c with key := c.key + 4 * i } (s.pinThr c)
    (if wordMask lo hi i = 0 then x.1 else acc.1, acc.2.1 ++ [x.2.1], acc.2.2 ++ [x.2.2])) (s.mem, [], [])
  (s.withMem r.1, r.2.1, r.2.2)

/-- Writes bytes `lo` to `hi - 1` of the block at address `b`, whose cell is `c`, from `bytes` (a block's 256 bytes, of which
only those count); `pois` tells which are poisoned.  A whole block stores the manifest it brings; a part is merged after the
stored manifest is checked, and the new manifest is derived from the old one and the changed bytes (R206). -/
def State.writeBlock (s : State) (c : CellRef) (b lo hi : Nat) (bytes : List Byte) (pois : List Bool) (man : Word) :
    State × Option Nat :=
  let words := chunks 4 bytes
  let pw := chunks 4 pois
  let put (s : State) : State × Option Nat × List Nat :=
    (List.range 64).foldl (fun (acc : State × Option Nat × List Nat) i =>
      let mask := wordMask lo hi i
      if mask = 0 then acc
      else
        let p := (List.range 4).any (fun j => bitAt mask j && nth (nth pw i) j)
        let r := acc.1.writeCell { c with key := c.key + 4 * i } mask (ofBytes (nth words i)) p
        (r.1, if r.2 && decide (acc.2.1 = none) then some (b + 4 * i) else acc.2.1,
          if r.2 then acc.2.2 else i :: acc.2.2)) (s, none, [])
  let manifested := decide (c.cls ≠ 2 ∧ c.cls ≠ 3)
  if lo = 0 ∧ hi = 256 then
    let r := put s
    (if manifested then r.1.withMem (r.1.mem.setManifest c.key man) else r.1, r.2.1)
  else if !manifested then ((put s).1, (put s).2.1)
  else
    let x := s.mergeRead c lo hi
    let old := s.mem.manifest c.key
    let before := crc32c (wordsToBytes x.2.1)
    if !(x.2.2.any id) && decide (before ≠ old) then (x.1.manifestBad b 6, some b)
    else
      let r := put x.1
      let merged := (x.2.1.zipIdx).map (fun y =>
        if r.2.2.contains y.2 then mergeBytes y.1 (ofBytes (nth words y.2)) (wordMask lo hi y.2) else y.1)
      (r.1.withMem (r.1.mem.setManifest c.key (old ^^^ before ^^^ crc32c (wordsToBytes merged))), r.2.1)

/-- Writes bytes to device-local address `a` (R174, R203, R206), whole blocks at a time in address order.  `mans` are the
manifests that whole blocks bring, in order; where it lists none, the writer makes them (R205).  A write to a promoted
page is performed on the stack and on the frame (R185). -/
def State.writeAt (s : State) (hub : Bool) (a : Nat) (data : List Byte) (pois : List Bool) (mans : List Word) : Write :=
  let n := data.length
  let one (s : State) (hub : Bool) (dst b : Nat) (j : Nat) : State × Option Nat × Option Nat :=
    match s.cellOf hub dst with
    | none => (s, some (max a b), none)
    | some c =>
      let lo := max a b - b
      let hi := min (a + n) (b + 256) - b
      let off := max a b - a
      let blk := List.replicate lo (0 : Byte) ++ (data.drop off).take (hi - lo) ++ List.replicate (256 - hi) (0 : Byte)
      let pb := List.replicate lo false ++ (pois.drop off).take (hi - lo) ++ List.replicate (256 - hi) false
      let man := (mans[j]?).getD (crc32c blk)
      let r := (s.stackCount false (dst + lo) (hi - lo)).writeBlock c dst lo hi blk pb man
      (r.1, none, r.2)
  ((blocksOf a n).zipIdx).foldl (fun (w : Write) bj =>
    match w.err with
    | some _ => w
    | none =>
      let r := one w.st hub bj.1 bj.1 bj.2
      match r.2.1 with
      | some e => { w with err := some e }
      | none =>
        let st := match w.st.promoted bj.1 with
          | some d =>
            let f := one r.1 true d bj.1 bj.2
            -- a frame that reads uncorrectable within the write no longer serves its page
            if f.2.1.isSome || f.2.2.isSome then f.1.pageDemote bj.1 else f.1
          | none => r.1
        { st := st, err := none, werr := if w.werr = none then r.2.2 else w.werr })
    ⟨s, none, none⟩

/-- Records a write dropped after a write-error completion of a host posted write or a hub unit (R203). -/
def State.dropped (s : State) (a : Nat) : State :=
  s.withMem ({ s.mem with werrAddr := a, werrCnt := satAdd 8 s.mem.werrCnt 1 }.evt 422)

/-- Performs a write of one of the hub's own units (a loader, the sampling unit, the scrubber): a write error is recorded (R203). -/
def State.hubLay (s : State) (a : Nat) (data : List Byte) : State :=
  let w := s.writeAt true a data (data.map (fun _ => false)) []
  (match w.werr with
    | some e => w.st.dropped e
    | none => w.st).settle

/-- A write by one of the hub's own units as management traffic (R215). -/
def State.hubWrite (s : State) (a : Nat) (data : List Byte) : State := (s.hubPass false a data.length).hubLay a data

/-- A read by one of the hub's own units, unchecked by a manifest point. -/
def State.hubRead (s : State) (a n : Nat) : Read :=
  let r := (s.hubPass true a n).readAt true 0 a n
  { r with st := r.st.settle }

/-- The little-endian number in some bytes of a read, from byte `o`, `n` bytes long (R7). -/
def leNat (l : List Byte) (o n : Nat) : Nat := ofBytes ((l.drop o).take n)

/-- Fills a range of cells with zeros and valid check bits, as the initial fill does (R208): `p` tells the cells. -/
def MemUnit.fill (m : MemUnit) (p : Nat → Bool) : MemUnit :=
  { m with data := m.data.filter (fun e => !p e.1), syn := m.syn.filter (fun e => !p e.1),
           man := m.man.filter (fun e => !p (e.1 * 256)) }

/-- Writes bytes into a memory that has no device address, word by word; `ref` gives the cell of the word at an offset. -/
def State.writeLocal (s : State) (ref : Nat → CellRef) (off : Nat) (data : List Byte) (pois : List Bool) : State :=
  let n := data.length
  if n = 0 then s
  else (List.range ((off + n - 1) / 4 - off / 4 + 1)).foldl (fun (s : State) i =>
    let w := (off / 4 + i) * 4
    let inside (j : Nat) : Bool := decide (off ≤ w + j ∧ w + j < off + n)
    let mask := (List.range 4).foldl (fun m j => if inside j then m + 2 ^ j else m) 0
    let v := (List.range 4).foldl (fun m j => if inside j then m + (nth data (w + j - off)).toNat * 256 ^ j else m) 0
    -- the byte-lane code poisons each byte by itself
    let p := (List.range 4).foldl (fun m j => if inside j && nth pois (w + j - off) then m + 2 ^ j else m) 0
    let s1 := if mask ^^^ p = 0 then s else (s.writeCell (ref w) (mask ^^^ p) v false).1
    if p = 0 then s1 else (s1.writeCell (ref w) p v true).1) s

end Sys2Proof.Machine
end

