-- ==== Sys2Proof/Machine/SpanOps.lean ====
section
/-! DEFINITION. Operations over the span tree that many meanings share: finding a leaf's span and a span's subtree (R34,
R139), event rings (R133), synchronisation points (R76), and ending an engine's task by a fault or an abort (R87, R88,
R132). -/

namespace Sys2Proof.Machine

/-! ### The tree -/

/-- The state with span-table entry `i` changed. -/
def State.spanUpd (s : State) (i : Nat) (f : SpanEnt → SpanEnt) : State := { s with spans := s.spans.upd i f }

/-- The state with logical engine `e` changed. -/
def State.engUpd (s : State) (e : Nat) (f : EngUnit → EngUnit) : State := { s with engs := s.engs.upd e f }

/-- The state with site `k` changed. -/
def State.siteUpd (s : State) (k : Nat) (f : SiteUnit → SiteUnit) : State := { s with sites := s.sites.upd k f }

/-- The entry that names a leaf as its member (R132: the leaf's own entry), if a loaded image does. -/
def State.ownEntry (s : State) (l : Leaf) : Option Nat :=
  s.spans.findSome? (fun e => if e.2.st ≠ .empty ∧ e.2.members.contains l then some e.1 else none)

/-- Whether the chain of parents of entry `j` reaches entry `i` (R139); the fuel bounds the depth. -/
def reaches (t : Tab SpanEnt) : (fuel j i : Nat) → Bool
  | 0, j, i => decide (j = i)
  | f + 1, j, i => decide (j = i) || (decide (j ≠ 0) && reaches t f (Tab.at t j).parent i)

/-- The entries of the subtree of entry `i`, itself included (R139), in ascending order. -/
def State.subtree (s : State) (i : Nat) : List Nat :=
  (s.spans.filter (fun e => e.2.st ≠ .empty && reaches s.spans s.spans.length e.1 i)).map (·.1)

/-- The entries above entry `i`, itself included. -/
def State.above (s : State) (i : Nat) : List Nat :=
  (s.spans.filter (fun e => e.2.st ≠ .empty && reaches s.spans s.spans.length i e.1)).map (·.1)

/-- The leaves of the subtree of entry `i`. -/
def State.leavesOf (s : State) (i : Nat) : List Leaf := (s.subtree i).flatMap (fun j => (s.spans.at j).members)

/-- The engines of the subtree of entry `i`. -/
def State.enginesOf (s : State) (i : Nat) : List Nat :=
  (s.leavesOf i).filterMap (fun l => match l with | .engine e => some e | _ => none)

/-- Whether the span of an engine runs in the sense of R65: its entry is RUNNING, DRAINING or STOPPING. -/
def State.spanRuns (s : State) (e : Nat) : Bool :=
  match s.ownEntry (.engine e) with
  | some i => match (s.spans.at i).st with
    | .running => true
    | .draining => true
    | .stopping => true
    | _ => false
  | none => false

/-! ### Event rings -/

/-- Writes a span event to ring `t` (R133): lost when the ring holds 256 entries, which the next entry's OVF reports. -/
def State.ringWrite (s : State) (t sp ev : Nat) : State :=
  let r := s.rings.at t
  if r.ents.length < 256 then
    let x : EvRing := ⟨r.ents ++ [sp + ev * 4096 + (if r.lost then 65536 else 0)], false⟩
    ({ s with rings := s.rings.put t x }).setLine (32 + t) true
  else { s with rings := s.rings.put t { r with lost := true } }

/-- Reports an event of span entry `i` to its doorbell owner (R133): 1 task completed, 2 task faulted, 3 became DEGRADED,
4 DEGRADED cleared. -/
def State.spanEvent (s : State) (i ev : Nat) : State := s.ringWrite (s.spans.at i).owner i ev

/-- Tells the pipelines whose RERANK route belongs to span entry `i` that the span has reported a completion (R288). -/
def State.taskReported (s : State) (i : Nat) : State :=
  { s with retr := { s.retr with pipes := s.retr.pipes.map (fun e =>
      let r := s.image.routes.at (s.image.pipes.at e.1).rerank
      if 0 < e.2.outst ∧ r.valid ∧ r.span = i then (e.1, { e.2 with completions := e.2.completions + 1 }) else e) } }

/-- Frees the outstanding forwards of the pipelines whose rerank span is entry `i` (R289): the entry stops, faults, becomes idle or
is unloaded. -/
def State.forwardsFreed (s : State) (i : Nat) : State :=
  { s with retr := { s.retr with pipes := s.retr.pipes.map (fun e =>
      let r := s.image.routes.at (s.image.pipes.at e.1).rerank
      if r.valid ∧ r.span = i then (e.1, { e.2 with outst := 0, completions := 0 }) else e) } }

/-- The state with the entries of a list in state `x`, their forwards freed unless they run. -/
def State.setSpans (s : State) (l : List Nat) (x : SpanSt) : State :=
  l.foldl (fun (s : State) j =>
    let s1 := s.spanUpd j (fun e => { e with st := x })
    match x with
    | .running => s1
    | .draining => s1
    | .loading => s1
    | _ => s1.forwardsFreed j) s

/-- Counts doorbells that are not delivered (R132). -/
def State.dbDrop (s : State) (n : Nat) : State := s.cnt .CFG_SPAN_ERR F.CFG_SPAN_ERR_DB_DROP n

/-- Whether a leaf is absent or fenced (R34): an absent engine, a fenced retrieval engine, or a leaf on a lost device. -/
def State.leafAbsent (s : State) (l : Leaf) : Bool :=
  match l with
  | .engine e => s.absent e
  | .re r => bitAt (s.fget .RTV_STAT F.RTV_STAT_RE_FENCED) r || s.dieFenced 9
  | _ => false

/-- Whether device `d` of the group is lost to this one (R339). -/
def State.devLost (s : State) (d : Nat) : Bool := s.lostDevs.contains d

/-- Whether span entry `i` is DEGRADED (R34, R339). -/
def State.spanDegraded (s : State) (i : Nat) : Bool :=
  (s.leavesOf i).any s.leafAbsent ||
    (s.subtree i).any (fun j => (s.spans.at j).group && (s.bget .LNK_GRP F.LNK_GRP_DEGRADED ||
      (s.spans.at j).remote.any (fun m => s.devLost m.1)))

/-- Reports every span whose DEGRADED flag has changed (R133). -/
def State.degradeCheck (s : State) : State :=
  (s.spans.map (·.1)).foldl (fun (s : State) i =>
    let d := s.spanDegraded i
    if (s.spans.at i).st = .empty ∨ (s.spans.at i).degraded = d then s
    else (s.spanUpd i (fun e => { e with degraded := d })).spanEvent i (if d then 3 else 4)) s

/-! ### Group spans (R36) -/

/-- The other devices that hold units of span entry `i`. -/
def State.groupDevs (s : State) (i : Nat) : List Nat := ((s.spans.at i).remote.map (·.1)).eraseDups

/-- Sends a message of class `cls` about a group span to the other devices that hold units of it, in the Wealey control class
(R36, R123).  DESIGN CHOICE, log entry 99. -/
def State.groupSend (s : State) (i cls : Nat) (payload : List Nat) : State :=
  if (s.spans.at i).group then (s.groupDevs i).foldl (fun (s : State) d => s.chainTo d cls i payload) s else s

/-- The group entries of the subtree of entry `i` that no other group entry of it lies above: a command to the span reaches the
units of other devices through them (R34, R36). -/
def State.groupTops (s : State) (i : Nat) : List Nat :=
  let l := (s.subtree i).filter (fun j => (s.spans.at j).group)
  l.filter (fun j => !l.any (fun k => decide (k ≠ j) && reaches s.spans s.spans.length j k))

/-- Sends a command of R131, or 8 for a doorbell, with its argument and ticket, to the other devices that hold units of the subtree
of entry `i` (R30, R34, R36, R216). -/
def State.groupCmd (s : State) (i cmd arg ticket : Nat) : State :=
  (s.groupTops i).foldl (fun (s : State) j => s.groupSend j 0x3 [cmd + ticket * 16, arg]) s

/-! ### Synchronisation points -/

/-- The mask of the engines of this device that are members of point `p` of span `i` (R138). -/
def State.syncMask (s : State) (i p : Nat) : Nat :=
  ((s.spans.at i).syncs.filter (fun x => x.1 = p)).foldl (fun m x => m ||| x.2) 0

/-- The devices of a group span that must signal a point: those with members of the span (R138). -/
def State.syncDevs (s : State) (i : Nat) : Nat :=
  ((s.spans.at i).remote.map (·.1)).foldl (fun m d => m ||| 2 ^ d) 0

/-- Counts a signal of point `p` of span `i` (R76, R138); when every member has signalled, the point is released and its next
iteration begins.  When the last member on this device of a group span's point signals, the other devices receive SYNC_SIGNAL.
DESIGN CHOICE, log entry 99. -/
def State.syncSignal (s : State) (i p : Nat) (eng dev : Nat) : State :=
  let e := s.spans.at i
  let m := s.syncMask i p
  let sg := e.sig.at p ||| eng
  let sd := e.sigDev.at p ||| dev
  let here := decide (sg &&& m = m)
  let all := here && (!e.group || decide (sd &&& s.syncDevs i = s.syncDevs i))
  let s1 := s.spanUpd i (fun e =>
    if all then { e with sig := e.sig.put p 0, sigDev := e.sigDev.put p 0, rel := e.rel.put p (e.rel.at p + 1) }
    else { e with sig := e.sig.put p sg, sigDev := e.sigDev.put p sd })
  if here && decide (e.sig.at p &&& m ≠ m) then s1.groupSend i 0x2 [p] else s1

/-- Releases points of span entry `i` with an abort indication (R76). -/
def State.abortPoints (s : State) (i : Nat) (l : List Nat) : State :=
  s.spanUpd i (fun x => { x with aborted := x.aborted ++ l.filter (fun p => !x.aborted.contains p) })

/-- Releases with an abort indication every point of which engine `e` is a member (R76): those of group spans on every device. -/
def State.syncAbort (s : State) (e : Nat) : State :=
  s.spans.foldl (fun (s : State) x =>
    let pts := (x.2.syncs.filter (fun y => bitAt y.2 e)).map (·.1)
    if pts.isEmpty then s else pts.foldl (fun (s : State) p => s.groupSend x.1 0x2 [p + 256]) (s.abortPoints x.1 pts)) s

/-! ### Ending tasks -/

/-- Returns the KV pages that the hub allocated to slot `k` to their pool (R89): their page-table entries are no longer
valid. -/
def State.kvReturn (s : State) (k : Nat) : State :=
  (s.gen.kv.filter (fun x => x.1 = k)).foldl (fun (s : State) x => s.hubWrite x.2.2 (toBytes 8 0))
    { s with gen := { s.gen with kv := s.gen.kv.filter (fun x => x.1 ≠ k) } }

/-- Ends a sequence slot with END code `c` (R89): its ACT clears, and its KV pages return at basic level. -/
def State.slotEnd (s : State) (k c : Nat) : State :=
  let r : Reg := .GEN_SEQ (Fin.ofNat 64 k)
  if s.bget r F.GEN_SEQ_ACT then ((s.bset r F.GEN_SEQ_ACT false).fset r F.GEN_SEQ_END c).kvReturn k else s

/-- Aborts whatever engine `e` does (R67, R88, R131, R132): its gangs are free, its steps in flight gone, its task ended and
the slots the task serves ended as aborted, its queued doorbells discarded and counted, its synchronisation points
released with abort. -/
def State.abortEngine (s : State) (e : Nat) : State :=
  let u := s.engs.at e
  let slots := match u.task with
    | some t => (t.slots.getD []) ++ t.used
    | none => []
  let s1 := s.engUpd e (fun u => { u with task := none, steps := [], gangs := [], dbq := [], iters := [] })
  let s2 := slots.foldl (fun (s : State) k => s.slotEnd k 3) s1
  let s3 := s2.dbDrop u.dbq.length
  if u.task.isSome then s3.syncAbort e else s3

/-- A fault record of 128 bits (R87).  DEDUCED, log entry 35. -/
def faultRecord (code e step : Nat) (slot : Option Nat) (addr : Nat) : Nat :=
  code + e * 2 ^ 8 + step * 2 ^ 16 + (match slot with | some k => k * 2 ^ 28 + 2 ^ 34 | none => 0)
    + addr % 2 ^ 48 * 2 ^ 64

/-- Writes a fault record to the ENG_FAULT registers of an engine's site (R129). -/
def State.putFault (s : State) (e rec : Nat) : State :=
  let site : Site := Fin.ofNat 128 (s.siteOf e)
  (((s.rset (.ENG_FAULT site 0) (wordOf rec)).rset (.ENG_FAULT site 1) (wordOf (rec / 2 ^ 32))).rset
    (.ENG_FAULT site 2) (wordOf (rec / 2 ^ 64))).rset (.ENG_FAULT site 3) (wordOf (rec / 2 ^ 96))

/-- Aborts the task that the doorbell of span entry `i` started, on every unit of the span on this device (R88): the entry and the
RUNNING or DRAINING entries of its subtree become FAULTED, and the first fault record is reported to the owner. -/
def State.abortLocal (s : State) (i rec : Nat) : State :=
  let hit := (s.subtree i).filter (fun j =>
    j = i || (s.spans.at j).st = .running || (s.spans.at j).st = .draining)
  let engs := hit.flatMap (fun j => (s.spans.at j).members.filterMap
    (fun l => match l with | .engine e => some e | _ => none))
  let s1 := engs.foldl State.abortEngine s
  let s2 := s1.setSpans hit .faulted
  if (s.spans.at i).st = .faulted then s2
  else (s2.spanUpd i (fun e => { e with fault := rec })).spanEvent i 2

/-- The words of a STATUS message that carries a fault record (R87, R123): the top of the address stands in reserved bits of the
second.  DESIGN CHOICE, log entry 99. -/
def faultWords (rec : Nat) : List Nat :=
  [rec % 2 ^ 32, rec / 2 ^ 32 % 8 + rec / 2 ^ 96 % 2 ^ 16 * 2 ^ 16, rec / 2 ^ 64 % 2 ^ 32]

/-- Aborts the task that the doorbell of span entry `i` started, on every unit of the span: those on other devices learn of it by
STATUS (R88). -/
def State.abortTask (s : State) (i rec : Nat) : State :=
  (s.groupTops i).foldl (fun (s : State) j => s.groupSend j 0xD (faultWords rec)) (s.abortLocal i rec)

/-- Writes a fault record to the status of the span that engine `e` belongs to (R87). -/
def State.ownFault (s : State) (e rec : Nat) : State := match s.ownEntry (.engine e) with
  | some i => s.spanUpd i (fun x => { x with fault := rec })
  | none => s

/-- A step fault of engine `e` at schedule index `step` (R87, R88). -/
def State.stepFault (s : State) (e step code : Nat) (slot : Option Nat) (addr : Nat) : State :=
  match (s.engs.at e).task with
  | none => s
  | some t =>
    let rec_ := faultRecord code e step slot addr
    (((s.putFault e rec_).abortTask t.span rec_).ownFault e rec_).settle

/-- Whether a substitution is in progress in the row of engine `e` (R110). -/
def State.substBusy (s : State) (e : Nat) : Bool := (s.subst.at (e / 3)).isSome

/-- Starts a task of engine `e` at entry point `v[1:0]` for the doorbell or start of span `i` (R75, R131, R132), or queues
the doorbell while a task runs.  A doorbell that finds the queue of 16 full or the engine absent, or whose entry point is
0xFFFF, is dropped; a task started in a row under substitution faults with 0x07 (R111). -/
def State.ringEngine (s : State) (e i v ticket : Nat) : State :=
  let u := s.engs.at e
  let entry := (u.entries[v % 4]?).getD 0xFFFF
  if entry = 0xFFFF ∨ s.absent e then s.dbDrop 1
  else if u.task.isSome then
    (if u.dbq.length < 16 then s.engUpd e (fun u => { u with dbq := u.dbq ++ [(v, ticket + 16 * i)] }) else s.dbDrop 1)
  else
    let s1 := (s.engUpd e (fun u =>
      { u with task := some ⟨entry, ticket, i, none, 0, [], (u.decodes[v % 4]?).getD false⟩, iters := [] })).siteUpd
        (s.siteOf e) (fun k => { k with gated := false })
    if s.substBusy e then s1.stepFault e entry 0x07 none 0 else s1

/-- Loads the schedule memory and the codebooks of engine `e` from the loaded image into the site that carries it (R111,
R142, R147): step indices not written hold END. -/
def State.loadEngine (s : State) (e : Nat) : State :=
  let site := s.siteOf e
  let s1 := s.writeLocal (fun w => ⟨3, site, scheduleKey site + w⟩) (64 * (s.engs.at e).first) (s.image.scheds.at e) []
  [0, 1].foldl (fun (s : State) cb =>
    s.writeLocal (fun w => ⟨2, site, codebookKey site + cb * 524288 + w⟩) 0 (s.image.codebooks.at (e * 2 + cb)) []) s1

end Sys2Proof.Machine
end

