-- ==== Sys2Proof/Machine/EngineOps.lean ====
section
/-! DEFINITION. What the steps of a schedule share (file 03_engine_execution.md): the layout of a step and of a buffer
reference (R70 to R74), fetching a step, reading operands and writing results with the faults of R87, arithmetic
counters (R57), gangs and their contexts (R64 to R67), and completing a step (R75, R76). -/

namespace Sys2Proof.Machine

/-! ### Steps -/

/-- A buffer reference (R71). -/
structure Ref where
  addr : Nat
  fmt : Nat
  mode : Nat
  adv : Nat
  deriving DecidableEq, Repr, Inhabited

/-- The buffer reference in 64 bits (R71). -/
def refOf (x : Nat) : Ref := ⟨bits x 0 48, bits x 48 5, bits x 53 3, bits x 56 5⟩

/-- A schedule step (R70). -/
structure Step where
  opc : Nat
  attr : Nat
  flags : Nat
  gangs : Nat
  syncIn : Nat
  syncOut : Nat
  loopCount : Nat
  loopTarget : Nat
  m : Nat
  k : Nat
  n : Nat
  opa : Ref
  opb : Ref
  out : Ref
  aux : Ref
  param : Nat
  deriving DecidableEq, Repr, Inhabited

/-- The step in 64 bytes of schedule memory (R70). -/
def stepOf (l : List Byte) : Step :=
  { opc := leNat l 0 1, attr := leNat l 1 1, flags := leNat l 2 2, gangs := leNat l 4 1, syncIn := leNat l 5 1,
    syncOut := leNat l 6 1, loopCount := leNat l 8 2, loopTarget := bits (leNat l 10 2) 0 12, m := leNat l 12 2,
    k := leNat l 16 4, n := leNat l 20 4, opa := refOf (leNat l 24 8), opb := refOf (leNat l 32 8),
    out := refOf (leNat l 40 8), aux := refOf (leNat l 48 8), param := leNat l 56 8 }

/-- The END step, which the step indices that the image does not write hold (R142). -/
def endStep : Step := { (default : Step) with opc := 0x5F }

/-- The step flags (R73). -/
def Step.wait (t : Step) : Bool := bitAt t.flags 0
@[inherit_doc Step.wait] def Step.acc (t : Step) : Bool := bitAt t.flags 1
@[inherit_doc Step.wait] def Step.out32 (t : Step) : Bool := bitAt t.flags 2
@[inherit_doc Step.wait] def Step.ordered (t : Step) : Bool := bitAt t.flags 6
@[inherit_doc Step.wait] def Step.slotMap (t : Step) : Nat := bits t.flags 7 2
@[inherit_doc Step.wait] def Step.slot (t : Step) : Nat := bits t.flags 9 6

/-- The group size G of a step (R73); 1 when no operand is grouped. -/
def Step.grp (t : Step) : Nat := let g := bits t.flags 3 3; if g = 0 then 1 else 32 * 2 ^ (g - 1)

/-- The format a step writes its results in: FP32 under OUT32 (R73), else that of OUT. -/
def Step.outFmt (t : Step) : Nat := if t.out32 then 0 else t.out.fmt

/-- The work items of a step (R66, R80): batches of 256 rows; NOP, SYNC and END bind none (R70). -/
def Step.items (t : Step) : Nat :=
  if t.opc = 0 ∨ t.opc = 0x50 ∨ t.opc = 0x5F then 0 else max 1 (ceilDiv t.m 256)

/-- The step at index `i` of engine `e`'s schedule memory, or none when a word of it is poisoned (R69, R142). -/
def State.fetchStep (s : State) (e i : Nat) : State × Option Step :=
  let u := s.engs.at e
  if i < u.first ∨ u.first + u.nsteps ≤ i then (s, some endStep)
  else
    let site := s.siteOf e
    let r := (List.range 16).foldl (fun (acc : MemUnit × List Nat × Bool) j =>
      let x := acc.1.read ⟨3, site, scheduleKey site + 64 * i + 4 * j⟩ 0
      (x.1, acc.2.1 ++ [x.2.1], acc.2.2 || x.2.2)) (s.mem, [], false)
    (s.withMem r.1, if r.2.2 then none else some (stepOf (wordsToBytes r.2.1)))

/-- The address of an operand in iteration `it` of its innermost loop (R74). -/
def Ref.at (r : Ref) (it : Nat) : Nat := r.addr + (if r.adv = 0 then 0 else it * 2 ^ (r.adv + 3))

/-- The bytes by which a MODE 2 transfer is advanced (R74). -/
def Ref.advance (r : Ref) (it : Nat) : Nat := if r.adv = 0 then 0 else it * 2 ^ (r.adv + 3)

/-! ### Steps that go well and steps that fault -/

/-- What part of a step answers: the state so far and a value; a step fault (R87): its code, slot and address; or that a request of the
step cannot be made yet (R117, R226, R312). -/
inductive Got (α : Type) where
  | ok (s : State) (a : α)
  | fault (s : State) (code : Nat) (slot : Option Nat) (addr : Nat)
  | wait (why : Hold)

/-- Goes on with a part that went well. -/
def Got.bind {α β : Type} : Got α → (State → α → Got β) → Got β
  | .ok s a, f => f s a
  | .fault s c k a, _ => .fault s c k a
  | .wait w, _ => .wait w

/-- Goes on with what passes, or waits. -/
def Got.pass {α : Type} (x : Except Hold State) (f : State → Got α) : Got α := match x with
  | .ok s => f s
  | .error w => .wait w

/-- Runs a part of a step over a list in order. -/
def Got.each {α : Type} (l : List α) (f : State → α → Got Unit) (s : State) : Got Unit :=
  l.foldl (fun g a => g.bind fun s _ => f s a) (.ok s ())

/-- Runs a part of a step over a list in order, and collects what it answers. -/
def Got.collect {α β : Type} (l : List α) (f : State → α → Got β) (s : State) : Got (List β) :=
  l.foldl (fun g a => g.bind fun s acc => (f s a).bind fun s b => .ok s (acc ++ [b])) (.ok s [])

/-- Engine `e` as a requester, and the ticket of its task (R30, R77). -/
def engineNo (e : Nat) : Requester := .engine (Fin.ofNat 96 e)
@[inherit_doc engineNo] def State.engTicket (s : State) (e : Nat) : Nat := ((s.engs.at e).task.map (·.ticket)).getD 0

/-- Reads bytes that engine `e` passes on unchanged, under its task's ticket (R30, R77): an access error is fault 0x06, a manifest
mismatch 0x02; poison does not fault (R87, R202, R207). -/
def State.carried (s : State) (e a n : Nat) : Got Read :=
  Got.pass (s.pass (engineNo e) (s.engTicket e) true a n) fun s =>
    let r := s.readAt false 1 a n
    match r.err with
    | some x => .fault r.st 0x06 none x
    | none => match r.bad with
      | some b => .fault r.st 0x02 none b
      | none => .ok r.st r

/-- Reads `n` bytes that engine `e` computes on, under its task's ticket (R30, R77): an access error is fault 0x06, a poisoned word 0x01, a
manifest mismatch 0x02 (R87, R202, R207). -/
def State.operand (s : State) (e a n : Nat) : Got (List Byte) :=
  Got.pass (s.pass (engineNo e) (s.engTicket e) true a n) fun s =>
    let r := s.readAt false 1 a n
    match r.err with
    | some x => .fault r.st 0x06 none x
    | none => match indexIn (r.pois.map b2n) 1 with
      | some j => .fault r.st 0x01 none ((a + j) / 4 * 4)
      | none => match r.bad with
        | some b => .fault r.st 0x02 none b
        | none => .ok r.st r.bytes

/-- Whether a write of `n` bytes at `a` by another requester than the engine that owns it touches a context partition whose span runs
(R65, R200).  DEDUCED, log entry 92: such a write completes with an error. -/
def State.ctxGuard (s : State) (q : Requester) (a n : Nat) : Bool :=
  match rangeOf a with
  | .store t o =>
    let top := s.usable (s.siteOf t)
    decide (q ≠ engineNo t) && s.spanRuns t && decide (top - (s.engs.at t).contexts * 256 < o + n)
  | _ => false

/-- Performs a write of unit `q` at a device-local address: an access error is fault 0x06, a write-error completion fault 0x0A
(R87, R203). -/
def State.lay (s : State) (q : Requester) (a : Nat) (data : List Byte) (pois : List Bool) : Got Unit :=
  if s.ctxGuard q a data.length then .fault s 0x06 none a
  else
    let w := s.writeAt false a data pois []
    match w.err with
    | some x => .fault w.st 0x06 none x
    | none => match w.werr with
      | some x => .fault w.st 0x0A none x
      | none => .ok w.st ()

/-- Writes bytes for engine `e` at a device-local address, under its task's ticket (R30, R77). -/
def State.store (s : State) (e a : Nat) (data : List Byte) (pois : List Bool) : Got Unit :=
  Got.pass (s.pass (engineNo e) (s.engTicket e) false a data.length) fun s => s.lay (engineNo e) a data pois

/-- A field of a route entry (R140). -/
def RouteEnt.get (r : RouteEnt) (w lo len : Nat) : Nat := bits (nth r.words w).toNat lo len

/-- The engines of a route's destination mask (R140). -/
def RouteEnt.engines (r : RouteEnt) : List Nat :=
  (List.range 96).filter (fun e => bitAt (nth r.words (4 + e / 32)).toNat (e % 32))

/-- Counts a multicast copy skipped at die `d` (R121, R128). -/
def State.mcastSkip (s : State) (d : Nat) : State :=
  (s.cnt (.CDI_MCAST_SKIP (Fin.ofNat 8 d)) F.CDI_MCAST_SKIP_SKIP 1).raise (64 + d * 24 + 19)

/-- Removes from a multicast the destinations that take no copy (R121, R173): each absent one is counted at its die, a fenced die once. -/
def State.mcastPrune (s : State) (dests : List Nat) : State × List Nat :=
  ((dests.map (· / 12)).eraseDups.foldl (fun (s : State) d =>
      if s.dieFenced (d + 1) then s.mcastSkip d
      else (dests.filter (fun t => decide (t / 12 = d) && s.absent t)).foldl (fun (s : State) _ => s.mcastSkip d) s) s,
    dests.filter (fun t => !s.absent t))

/-- A transfer of unit `q` through a route crosses (R23, R117, R120, R173): one copy to the hub, when it leaves the die, and one into each
other die that takes it; the bundles are selected by the destination offset. -/
def State.routeCross (s : State) (q : Requester) (leaves : Bool) (dests : List Nat) (off n : Nat) : Except Hold State :=
  let dies := (dests.map (· / 12)).eraseDups.filter (fun d => decide (d + 1 ≠ requesterDie q))
  s.eachUnit off n (fun s b part =>
    if !leaves && dies.isEmpty then .ok s
    else s.crossBy q false part (s.nearBundle q 0 b)
      (dies.map (fun d => s.entryBundle (d + 1) (s.engHalf ((dests.find? (fun t => t / 12 = d)).getD 0)) b)))

/-- Writes bytes for unit `q` under ticket `tk` through route `n`, `o` bytes past the route's OFFSET, to those of its destinations
that `dests` lists (R30, R71, R140): beyond the WINDOW, or through a route that no loaded span holds, it faults with 0x06; a
multicast skips absent destinations (R121); a route to another device sends a frame in the bulk class (R173). -/
def State.storeRouteTo (s : State) (q : Requester) (tk n : Nat) (dests : List Nat) (o : Nat) (data : List Byte)
    (pois : List Bool) : Got Unit :=
  let r := s.image.routes.at n
  let off := (nth r.words 2).toNat + o
  let len := data.length
  if !r.valid ∨ (nth r.words 3).toNat < o + len then .fault s 0x06 none 0
  else
    let kind := r.get 0 12 4
    if kind = 0 then
      match dests with
      | t :: _ => Got.pass (s.routeCross q false [t] off len) fun s => s.lay q (storeAddr t off) data pois
      | [] => .fault s 0x06 none 0
    else if kind = 1 then
      let x := s.mcastPrune dests
      Got.pass (x.1.routeCross q false x.2 off len) fun s =>
        x.2.foldl (fun (g : Got Unit) t => g.bind (fun s _ => s.lay q (storeAddr t off) data pois)) (.ok s ())
    else if kind = 2 then
      let p := s.image.parts.at (r.get 4 0 8)
      if p.valid && decide (off + len ≤ p.len) then
        Got.pass (s.eachUnit (p.base + off) len (fun s b _ => s.letPass q tk false b)) fun s =>
          Got.pass (s.routeCross q true [] off len) fun s => s.lay q (p.base + off) data pois
      else .fault s 0x06 none 0
    else
      let d := r.get 1 0 6
      if s.devLost d then .fault s 0x06 none 0
      else Got.pass (s.routeCross q true [] off len) fun s =>
        .ok (s.transferOut 5 d (dests.foldl (fun m t => m + 2 ^ t) 0) off tk false data pois) ()

/-- Writes bytes for unit `q` through route `n` to all its destinations. -/
def State.storeRoute (s : State) (q : Requester) (tk n o : Nat) (data : List Byte) (pois : List Bool) : Got Unit :=
  s.storeRouteTo q tk n (s.image.routes.at n).engines o data pois

/-- Writes result bytes where a step's OUT sends them, `o` bytes from its start (R71, R74). -/
def State.result (s : State) (e it : Nat) (r : Ref) (o : Nat) (data : List Byte) (pois : List Bool) : Got Unit :=
  if data = [] then .ok s ()
  else if r.mode = 2 then s.storeRoute (engineNo e) (s.engTicket e) (r.addr % 4096) (r.advance it + o) data pois
  else s.store e (r.at it + o) data pois

/-- The address from which a step's OUT counts its 64-byte boundaries (R71): under MODE 2 the place where its route writes. -/
def State.outAt (s : State) (it : Nat) (r : Ref) : Nat :=
  if r.mode = 2 then
    let x := s.image.routes.at (r.addr % 4096)
    (if x.get 0 12 4 = 2 then (s.image.parts.at (x.get 4 0 8)).base else 0) + (nth x.words 2).toNat + r.advance it
  else r.at it

/-- How far past the start of its OUT a step writes the scales that follow `n` bytes of elements (R71). -/
def State.scalesAt (s : State) (it : Nat) (r : Ref) (n : Nat) : Nat := alignUp (s.outAt it r + n) 64 - s.outAt it r

/-- Adds what a step counted to the arithmetic counters of engine `e`'s site, and its draws (R53, R57). -/
def State.arith (s : State) (e : Nat) (a : Arith) : State :=
  let site : Site := Fin.ofNat 128 (s.siteOf e)
  let add (s : State) (n : Fin 5) (v : Nat) : State := if v = 0 then s else s.cnt (.ENG_ARITH site n) F.ENG_ARITH_COUNT v
  let s1 := add (add (add (add (add s 0 a.sat) 1 a.spec) 2 a.nanOut) 3 a.nanIn) 4 a.malf
  if a.draws = 0 then s1 else s1.engUpd e (fun u => { u with draws := u.draws + a.draws })

/-- The draws of engine `e` from where its generator stands (R53).  DESIGN CHOICE, log entry 11; DEDUCED, log entry 93. -/
def State.drawOf (s : State) (e : Nat) : Nat → Nat := fun n => Config.stochastic e (s.engs.at e).seed ((s.engs.at e).draws + n)

/-! ### Row operands -/

/-- The bytes of `rows` rows of `k` elements in format `c`, elements and scales apart (R71, R526). -/
structure Rows where
  c : Nat
  g : Nat
  run : Nat
  k : Nat
  el : List Byte
  sc : List Byte

/-- The bytes of an operand of engine `e`, of `rows` rows of `k` elements: the elements, then the scales from the next 64-byte boundary
(R71). -/
def State.rowsAt (s : State) (e a c g run rows k : Nat) : Got Rows :=
  let ne := rows * rowBytes c g run k
  let ns := rows * rowScales c g k
  (s.operand e a ne).bind fun s el =>
    if ns = 0 then .ok s ⟨c, g, run, k, el, []⟩
    else (s.operand e (alignUp (a + ne) 64) ns).bind fun s sc => .ok s ⟨c, g, run, k, el, sc⟩

/-- The element and scale bytes of row `r`. -/
def Rows.row (x : Rows) (r : Nat) : List Byte × List Byte :=
  let nb := rowBytes x.c x.g x.run x.k
  let ns := rowScales x.c x.g x.k
  ((x.el.drop (r * nb)).take nb, (x.sc.drop (r * ns)).take ns)

/-- The values of row `r`: each the FP32 value that the unit takes in (R79). -/
def Rows.vals (x : Rows) (r : Nat) : List FV :=
  let b := x.row r
  (List.range x.k).map (fun i =>
    let v := valueAt x.c x.g x.run b.1 b.2 i
    if x.c = 0 then v else of32 (to32 v))

/-- The 32-bit words of row `r` (FMT 0x0F or FP32). -/
def Rows.words (x : Rows) (r : Nat) : List Word :=
  (List.range x.k).map (fun i => wordOf (elemCode x.c (x.row r).1 i))

/-- Writes rows of results under ATTR (R52 to R57, R526): the element bytes of all rows, then their scales.  DESIGN CHOICE, log entry 102:
ternary results are packed in runs of 256. -/
def State.putRows (s : State) (e it : Nat) (t : Step) (a : Arith) (rows : List (List FV)) : Got Arith :=
  let c := t.outFmt
  let run := 256
  let r := rows.foldl (fun (acc : List Byte × List Byte × Arith) l =>
    let z := convRow c t.grp run t.attr (s.drawOf e) acc.2.2 l
    (acc.1 ++ z.1, acc.2.1 ++ z.2.1, z.2.2)) ([], [], a)
  (s.result e it t.out 0 r.1 (r.1.map (fun _ => false))).bind fun s _ =>
    (s.result e it t.out (s.scalesAt it t.out r.1.length) r.2.1 (r.2.1.map (fun _ => false))).bind fun s _ => .ok s r.2.2

/-- Writes rows of 32-bit words. -/
def State.putWords (s : State) (e it : Nat) (r : Ref) (l : List Word) : Got Unit :=
  let b := l.flatMap (fun w => toBytes 4 w.toNat)
  s.result e it r 0 b (b.map (fun _ => false))

/-! ### Slots, gangs and contexts -/

/-- The sequence slot of row `r` of a step (R80). -/
def slotOfRow (t : Step) (task : Task) (r : Nat) : Option Nat :=
  if t.slotMap = 1 then (task.slots.getD [])[r]? else if t.slotMap = 2 then some t.slot else none

/-- The active slots, ascending (R89). -/
def State.activeSlots (s : State) : List Nat :=
  (List.range 64).filter (fun k => s.bget (.GEN_SEQ (Fin.ofNat 64 k)) F.GEN_SEQ_ACT)

/-- The registers of a context (R65): g0 to g3 are the thread, gang, work item and slot; g4 to g63, the addresses and counters of the
operation, are free values.  DESIGN CHOICE, log entry 103. -/
def contextBytes (free t g item slot : Nat) : List Byte :=
  wordsToBytes ([t, g, item, slot] ++ (List.range 60).map (fun j => (Config.freeWord (free + j)).toNat))

/-- Hardware writes a context: a whole block of its own site's local store, with a manifest made for it (R31, R65). -/
def State.putContext (s : State) (e o t g item slot : Nat) : State :=
  let c := s.localCell (s.siteOf e) o
  let b := contextBytes s.free t g item slot
  (({ s with free := s.free + 60 }).writeBlock c (storeAddr e o) 0 256 b (b.map (fun _ => false)) (crc32c b)).1

/-- Hardware writes the context registers of gang `g` of engine `e` for a work item (R64, R65, R67, R200). -/
def State.bindContexts (s : State) (e g item : Nat) (t : Step) (task : Task) : State :=
  let base := s.usable (s.siteOf e) - (s.engs.at e).contexts * 256
  (List.range 256).foldl (fun (s : State) i =>
    s.putContext e (base + (g * 256 + i) * 256) i g item ((slotOfRow t task (item * 256 + i)).getD 0xFFFFFFFF)) s

/-- The gangs that an engine's contexts form (R66). -/
def EngUnit.gangCount (u : EngUnit) : Nat := u.contexts / 256

/-- The lowest FREE gang of an engine. -/
def EngUnit.freeGang (u : EngUnit) : Option Nat :=
  (List.range u.gangCount).find? (fun g => (u.gangs.at g).st = .free)

/-- The gangs that carry the step in flight numbered `k`. -/
def EngUnit.gangsOf (u : EngUnit) (k : Nat) : List Nat :=
  (List.range u.gangCount).filter (fun g => (u.gangs.at g).st ≠ .free && (u.gangs.at g).run = k)

/-- An engine with the step in flight numbered `k` changed. -/
def EngUnit.runUpd (u : EngUnit) (k : Nat) (f : StepRun → StepRun) : EngUnit :=
  { u with steps := u.steps.map (fun q => if q.num = k then f q else q) }

/-- Binds one unbound work item of the step in flight numbered `k` to a FREE gang (R66, R67), as long as the step carries fewer gangs than
it names. -/
def State.bindOne (s : State) (e k : Nat) : State :=
  let u := s.engs.at e
  match u.steps.find? (fun r => r.num = k), u.freeGang, u.task with
  | some r, some g, some task => match (s.fetchStep e r.ix).2 with
    | some t =>
      if r.bound < r.items ∧ (u.gangsOf k).length < t.gangs then
        (s.bindContexts e g r.bound t task).engUpd e (fun u =>
          ({ u with gangs := u.gangs.put g ⟨.bound, k, r.bound, 0⟩ }).runUpd k (fun q => { q with bound := q.bound + 1 }))
      else s
    | none => s
  | _, _, _ => s

/-- Binds work items of the step in flight numbered `k`, at most `n`. -/
def State.bindGangs : (n : Nat) → State → (e k : Nat) → State
  | 0, s, _, _ => s
  | n + 1, s, e, k => State.bindGangs n (s.bindOne e k) e k

/-- Binds unbound work items of the steps in flight, the oldest step first (R67). -/
def State.rebind (s : State) (e : Nat) : State :=
  (s.engs.at e).steps.foldl (fun s r => s.bindGangs 128 e r.num) s

/-! ### Synchronisation and completion -/

/-- The span entry whose point `p` a step of engine `e` names (R76): its own entry, or the nearest above that defines it. -/
def State.pointSpan (s : State) (e p : Nat) : Option Nat :=
  match s.ownEntry (.engine e) with
  | none => none
  | some i =>
    let up := s.above i
    let defs := up.filter (fun j => (s.spans.at j).syncs.any (fun x => x.1 = p))
    if defs.contains i then some i
    else (defs.filter (fun j => defs.all (fun k => reaches s.spans s.spans.length j k))).head?

/-- Completes the step in flight numbered `k` of engine `e`, with SYNC_OUT `p` (R67, R75, R76): its gangs are free, its writes stand, and
SYNC_OUT is signalled. -/
def State.stepDone (s : State) (e k p : Nat) : State :=
  let s1 := s.engUpd e (fun u => { u with
    gangs := u.gangs.filter (fun g => g.2.run ≠ k),
    steps := u.steps.filter (fun r => r.num ≠ k) })
  let s2 := if p = 0 then s1
    else match s1.pointSpan e p with
      | some j => s1.syncSignal j p (2 ^ e) 0
      | none => s1
  s2.rebind e

/-- The work of the step in flight numbered `k` is done, with SYNC_OUT `p` (R175): it completes once the frames that it has sent, whose tags
are those from `a` to `b - 1`, are all performed. -/
def State.stepWritten (s : State) (e k p a b : Nat) : State :=
  if a = b then s.stepDone e k p
  else s.engUpd e (fun u => u.runUpd k (fun q => { q with tags := (span a (b - a)).map (· % 65536), sync := p }))

/-- The frame with tag `t` that a step of this device has sent completes with STATUS (R175, R326): the step completes with its last one; one
that is not performed faults it.  DEDUCED, log entry 104. -/
def State.stepTag (s : State) (t status : Nat) : State :=
  match s.engs.findSome? (fun x => (x.2.steps.find? (fun r => r.tags.contains t)).map (fun r => (x.1, r))) with
  | none => s
  | some (e, r) =>
    if status ≠ 0 then s.stepFault e r.ix (if status = 2 then 0x0A else 0x06) none 0
    else
      let left := r.tags.erase t
      let s1 := s.engUpd e (fun u => u.runUpd r.num (fun q => { q with tags := left }))
      if left.isEmpty then s1.stepDone e r.num r.sync else s1

/-- Runs the step at index `i` of engine `e`, in flight, by `body` when its opcode is `opc` (R70, R78); otherwise nothing
happens.  A poisoned step word is fault 0x01 (R69), any fault of the body is taken (R87), a step that has a request held waits (R226), and a
step that goes well completes with its arithmetic counts. -/
def State.runStep (s : State) (e i opc : Nat) (body : State → Step → StepRun → Task → Got Arith) : State :=
  let u := s.engs.at e
  match u.steps.find? (fun r => r.ix = i && r.tags.isEmpty), u.task with
  | some r, some task =>
    match s.fetchStep e i with
    | (s1, none) => s1.stepFault e i 0x01 none 0
    | (s1, some t) =>
      if t.opc ≠ opc then s
      else match body s1 t r task with
        | .fault s2 code slot a => s2.stepFault e i code slot a
        | .ok s2 a => ((s2.arith e a).stepWritten e r.num t.syncOut s.grp.tag s2.grp.tag).settle
        | .wait w => s.waitFor (engineNo e) w
  | _, _ => s

end Sys2Proof.Machine
end

