-- ==== Sys2Proof/Machine/SpecialFunctions.lean ====
section
/-! DEFINITION. The special functions of R59 to within far less than their error bounds, in binary fixed point, and the test that a result
lies within its bound. -/

namespace Sys2Proof

/-! ### Fixed point: the integer z stands for z ÷ 2^192 -/

/-- One, in fixed point. -/
def fxOne : Int := 2 ^ 192

/-- The product of two fixed-point numbers. -/
def fxMul (a b : Int) : Int := a * b / fxOne

/-- The quotient of two fixed-point numbers. -/
def fxDiv (a b : Int) : Int := a * fxOne / b

/-- A finite value in fixed point. -/
def fxOf : FV → Int
  | .num neg m e =>
    let z : Int := if -192 ≤ e then m * 2 ^ (e + 192).toNat else m / 2 ^ (-192 - e).toNat
    if neg then -z else z
  | _ => 0

/-- The value of a fixed-point number times 2^k. -/
def fxValue (z : Int) (k : Int) : FV := .num (decide (z < 0)) z.natAbs (k - 192)

/-- The sum of the odd powers of `z`, each over its exponent, from exponent `2 i + 1` on, `n` terms; `w` is z^(2 i + 1) and `q` the square
of z, with its sign. -/
def fxOddSeries (q : Int) : (n i : Nat) → (w : Int) → Int
  | 0, _, _ => 0
  | n + 1, i, w => w / (2 * i + 1 : Nat) + fxOddSeries q n (i + 1) (fxMul w q)

/-- The inverse hyperbolic tangent of a number of magnitude at most 1/3. -/
def fxAtanh (z : Int) : Int := fxOddSeries (fxMul z z) 70 0 z

/-- The arc tangent of a number of magnitude at most 1/5. -/
def fxAtan (z : Int) : Int := fxOddSeries (-(fxMul z z)) 50 0 z

/-- The logarithm of 2, and the ratio of a circle's circumference to its radius. -/
def fxLn2 : Int := 2 * fxAtanh (fxOne / 3)
@[inherit_doc fxLn2] def fxTau : Int := 2 * (16 * fxAtan (fxOne / 5) - 4 * fxAtan (fxOne / 239))

/-- The sum of z^i ÷ i! from term `i` on, `n` terms; `w` is term `i`. -/
def fxExpSeries (z : Int) : (n i : Nat) → (w : Int) → Int
  | 0, _, _ => 0
  | n + 1, i, w => w + fxExpSeries z n (i + 1) (fxMul w z / (i + 1 : Nat))

/-- The exponential of a fixed-point number: a number between 1 and 2 and a power of two. -/
def fxExp (x : Int) : Int × Int :=
  let k := x / fxLn2
  (fxExpSeries (x - k * fxLn2) 60 0 fxOne, k)

/-- The exponential of a number of at most 0, itself in fixed point. -/
def fxExpNeg (x : Int) : Int :=
  if x < -200 * fxOne then 0 else let r := fxExp x; r.1 / 2 ^ (-r.2).toNat

/-- The logistic function of `x`: a fixed-point number and a power of two, so that a small result keeps its digits. -/
def fxSigmoid (x : Int) : Int × Int :=
  if 0 ≤ x then (fxDiv fxOne (fxOne + fxExpNeg (-x)), 0)
  else if x < -200 * fxOne then (0, 0)
  else let r := fxExp x; (fxDiv r.1 (fxOne + fxExpNeg x), r.2)

/-- The terms of the normal distribution's series from term `i` on, `n` terms: `w` is (−1)^i x^(2 i + 1) ÷ (2^i i!). -/
def fxPhiSeries (x2 : Int) : (n i : Nat) → (w : Int) → Int
  | 0, _, _ => 0
  | n + 1, i, w => w / (2 * i + 1 : Nat) + fxPhiSeries x2 n (i + 1) (-(fxMul w x2) / (2 * (i + 1) : Nat))

/-- The normal distribution function of a number of magnitude at most 8. -/
def fxPhi (x : Int) : Int :=
  let c : Int := isqrtFrom 300 ((fxOne * fxOne * fxOne / fxTau).toNat) 0
  fxOne / 2 + fxMul c (fxPhiSeries (fxMul x x) 220 0 x)

/-! ### The functions -/

/-- The value of special function `f` at a finite input for which R59 gives an error bound; `f` as in R78. -/
def sfuExact (f : Nat) (v : FV) : FV :=
  let x := fxOf v
  match f, v with
  | 0, _ => if x < -200 * fxOne then .num false 0 0 else let r := fxExp x; fxValue r.1 r.2
  | 1, .num _ m e =>
    let k : Nat := Nat.log2 m
    let y : Int := (m : Int) * fxOne / 2 ^ k
    fxValue (2 * fxAtanh (fxDiv (y - fxOne) (y + fxOne)) + (e + k) * fxLn2) 0
  | 2, .num _ m e =>
    -- the exponent made even, so that its half is whole
    let m' := if e % 2 = 0 then m else 2 * m
    let e' := if e % 2 = 0 then e else e - 1
    .num false (isqrtFrom 300 (2 ^ 512 / m') 0) (-256 - e' / 2)
  | 3, _ => let r := fxSigmoid x; fxValue r.1 r.2
  | 4, _ => if 8 * fxOne < x then v else fxValue (fxMul x (fxPhi x)) 0
  | 5, _ =>
    if 8 * fxOne < x then v
    else
      let u := (x + fxMul (fxMul x x) x * 44715 / 1000000) * 79788456 / 100000000
      let r := fxSigmoid (2 * u)
      fxValue (fxMul x r.1) r.2
  | _, _ => let r := fxSigmoid x; fxValue (fxMul x r.1) r.2

/-- The unit in the last place, in FP32, of a value (R59): `n` of them. -/
def ulps (n : Nat) : FV → FV
  | .num _ m e => .num false n (max (e + Nat.log2 m - 23) (-149))
  | _ => .num false 0 0

/-- The bounds of R59 on the error of special function `f` at input `v`, of which a result must keep every one; `y` is the exact result. -/
def sfuBounds (f : Nat) (v y : FV) : List FV :=
  let abs (n : Int) : FV := .num false 1 n
  let small : FV := .num false 1 (-126)
  match f with
  | 0 => if FV.lt y small then [abs (-148)] else [ulps 2 y]
  | 1 => if FV.lt v (.num false 1 (-1)) || FV.lt (.num false 2 0) v then [ulps 2 y] else [abs (-22)]
  | 2 => [ulps 1 y]
  | 3 => abs (-22) :: (if FV.lt (.num true 8 0) v then [] else [ulps 4 y])
  | 6 => if FV.lt (.num false 16 0) v then [ulps 2 y] else [abs (-21)]
  | _ => if FV.lt (.num false 8 0) v then [ulps 1 y] else [abs (-20)]

/-- Whether `c` is a result that R59 allows special function `f` at the finite input `v`; the computed exact value is off by far less than
2^−40 of the bound, which is allowed on top. -/
def sfuAllowed (f : Nat) (v : FV) (c : Word) : Bool :=
  let y := sfuExact f v
  let d := ((of32 c).add y.negate).abs
  match d with
  | .num _ _ _ => (sfuBounds f v y).all (fun b => !FV.lt (b.add (b.mul (.num false 1 (-40)))) d)
  | _ => false

/-- A result of special function `f` at an input for which R59 gives a bound: any word within the bound, by the choice of the device.
DESIGN CHOICE, log entry 12. -/
def sfuBounded (f : Nat) (x : Word) : Word :=
  let c := Config.sfu f x
  if sfuAllowed f (of32 x) c then c else to32 (sfuExact f (of32 x))

end Sys2Proof
end

