-- ==== Sys2Proof/Machine/StepMath.lean ====
section
/-! DEFINITION. The arithmetic of schedule steps on values (file 02_engine_arithmetic.md): the array's block sums and
accumulators (R47, R50, R51), the special functions (R59), the reduction tree (R61) and the vector operations (R79). -/

namespace Sys2Proof

/-! ### The array -/

/-- The run length of ternary weights (R44) under an activation format: INT8 takes runs of 1,024, FP8 of 256 (R47). -/
def ternaryRun (act : Nat) : Nat := if act = 0xA then 1024 else 256

/-- The pass depth for a weight and an activation format (R47). -/
def passDepth (w a : Nat) : Nat :=
  if (w = 9 ∧ a = 9) ∨ (w = 0xB ∧ a = 0xB) then 512
  else if w = 0xC ∧ a = 0xA then 1024
  else if w = 1 ∨ w = 2 then 128 else 256

/-- The columns of a tile (R47). -/
def tileCols (w : Nat) : Nat := if w = 1 ∨ w = 2 then 128 else 256

/-- The elements of a block of the array's accumulation (R50). -/
def blockLen (w a g : Nat) : Nat :=
  if w = 1 ∨ w = 2 then 8 else if w = 0xA ∨ w = 0xB ∨ (w = 0xC ∧ a = 0xA) then max g 1 else 32

/-- A row of activations or a column of weights: its elements without their scales, and the scale of each element. -/
structure Line where
  el : List FV
  sc : List FV

/-- Negative zero, the sum of no products. -/
def fvMinusZero : FV := .num true 0 0

/-- The exact sum of the products of a block (R50, R51): −0 only when every product is −0. -/
def blockSum (w a : List FV) : FV := (List.zip w a).foldl (fun s p => s.add (p.1.mul p.2)) fvMinusZero

/-- A list completed to `n` elements with `z`. -/
def fillTo {α : Type} (n : Nat) (z : α) (l : List α) : List α := l ++ List.replicate (n - l.length) z

/-- One block's contribution to an accumulator (R50, R51, R57). -/
def blockStep (n : Nat) (acc : Word × Arith) (w a : Line) : Word × Arith :=
  let we := fillTo n fvZero w.el
  let ae := fillTo n fvZero a.el
  let ws := w.sc.headD (.num false 1 0)
  let as_ := a.sc.headD (.num false 1 0)
  let c := ((blockSum we ae).mul ws).mul as_
  let r := to32 ((of32 acc.1).add c)
  let anyNan := w.el.any FV.isNan || a.el.any FV.isNan || ws.isNan || as_.isNan
  let ar := acc.2
  (r, if anyNan then { ar with nanIn := ar.nanIn + 1 }
    else if c.isNan || ((of32 r).isNan && !(of32 acc.1).isNan) then { ar with nanOut := ar.nanOut + 1 } else ar)

/-- The blocks of `n` elements of a line. -/
def Line.blocks (n : Nat) (l : Line) : List Line :=
  (List.zip (chunks n l.el) (chunks n l.sc)).map (fun p => ⟨p.1, p.2⟩)

/-- The accumulator of one column for one activation row, from `acc` on (R48, R50): the blocks in ascending K order, and a
last pass filled with zeros (R47). -/
def arrayDot (n depth : Nat) (w a : Line) (acc : Word) (ar : Arith) : Word × Arith :=
  let r := (List.zip (w.blocks n) (a.blocks n)).foldl (fun s p => blockStep n s p.1 p.2) (acc, ar)
  if alignUp w.el.length n < alignUp w.el.length depth then (f32add r.1 0, r.2) else r

/-! ### Special functions -/

/-- The special-function unit (R59): the special inputs exactly as the table gives them, the bounded rest open; the exponential of
0x42B1_7218 (88.7228394) is the first beyond the largest finite value.  `f` is 0 exp, 1 log, 2 rsqrt, 3 sigmoid, 4 GELU erf, 5 GELU tanh, 6 SiLU.
DESIGN CHOICE, log entry 12. -/
def sfuValue (f : Nat) (x : Word) : Word :=
  let pinf : Word := 0x7F800000
  let one : Word := 0x3F800000
  let nan : Word := 0x7FC00000
  let mzero : Word := 0x80000000
  match of32 x with
  | .nan => nan
  | .inf neg =>
    if f = 0 then (if neg then 0 else pinf)
    else if f = 1 then (if neg then nan else pinf)
    else if f = 2 then (if neg then nan else 0)
    else if f = 3 then (if neg then 0 else one)
    else (if neg then mzero else pinf)
  | .num neg m e =>
    if f = 0 ∧ m = 0 then one
    else if f = 0 ∧ ¬neg ∧ 0x42B17218 ≤ x.toNat then pinf
    else if f = 1 ∧ m = 0 then 0xFF800000
    else if f = 1 ∧ neg then nan
    else if f = 1 ∧ x = one then 0
    else if f = 2 ∧ m = 0 then (if neg then 0xFF800000 else pinf)
    else if f = 2 ∧ neg then nan
    else if (f = 4 ∨ f = 5) ∧ FV.lt (.num neg m e) (.num true 8 0) then mzero
    else sfuBounded f x

/-! ### The reduction tree -/

/-- The levels of the reduction tree (R61): lanes 2i and 2i + 1 combine, `n` levels. -/
def treeLevels (f : Word → Word → Word) : (n : Nat) → List Word → List Word
  | 0, l => l
  | n + 1, l => treeLevels f n ((chunks 2 l).map (fun p => f (nth p 0) (nth p 1)))

/-- The reduction of one group of lanes, completed to `2 ^ n` lanes with the neutral lane `z` (R61).  DEDUCED, log entry 67. -/
def treeReduce (f : Word → Word → Word) (z : Word) (n : Nat) (l : List Word) : Word :=
  nth (treeLevels f n (fillTo (2 ^ n) z l)) 0

/-- The neutral lane of a reduction: −0 for sums, NaN for minimum and maximum (R61). -/
def reduceNeutral (op : Nat) : Word := if op = 0 then 0x80000000 else 0x7FC00000

/-- The operation of a reduction: 0 sum, 1 minimum, 2 maximum (R78). -/
def reduceFn (op : Nat) : Word → Word → Word := if op = 0 then f32add else if op = 1 then f32min else f32max

/-- The sum of a row by the reduction tree (R61, R85): each vector of 1,024 lanes by the tree, the vectors in order. -/
def rowSum (l : List Word) : Word :=
  match (chunks 1024 l).map (treeReduce f32add 0x80000000 10) with
  | [] => 0
  | x :: xs => xs.foldl f32add x

/-! ### Vector operations -/

/-- A floating-point vector operation on FP32 operands (R58, R79). -/
def vecFloat (op : Nat) (a b x : FV) : FV :=
  let r (v : FV) : FV := of32 (to32 v)
  if op = 0 then r (a.add b)
  else if op = 1 then r (a.add b.negate)
  else if op = 2 then r (a.mul b)
  else if op = 3 then r ((a.mul b).add x)
  else if op = 4 then r (a.div b)
  else if op = 5 then r b.sqrt
  else if op = 6 then r (a.min b)
  else if op = 7 then r (a.max b)
  else if op = 0xD then b.abs
  else if op = 0xE then b.negate
  else b

/-- Whether a vector operation is a comparison (R79). -/
def vecIsCmp (op : Nat) : Bool := 8 ≤ op && op ≤ 0xB

/-- A comparison (R58, R79): all ones for true. -/
def vecCmp (op : Nat) (a b : FV) : Word :=
  let t := if op = 8 then FV.eq a b else if op = 9 then !FV.eq a b
    else if op = 0xA then FV.lt a b else FV.lt a b || FV.eq a b
  if t then 0xFFFFFFFF else 0

/-- An integer vector operation (R79). -/
def vecInt (op : Nat) (a b : Word) : Word :=
  let k := b.toNat % 32
  if op = 0x10 then a + b
  else if op = 0x11 then a - b
  else if op = 0x12 then a &&& b
  else if op = 0x13 then a ||| b
  else if op = 0x14 then a ^^^ b
  else if op = 0x15 then a <<< k
  else if op = 0x16 then a >>> k
  else a.sshiftRight k

/-- Which operands a vector operation uses (R79): OPA, OPB, AUX. -/
def vecUses (op : Nat) : Bool × Bool × Bool :=
  (!(op = 5 || op = 0xD || op = 0xE || op = 0xF), true, op = 3 || op = 0xC)

/-- Whether `a` comes before `b` in a descending order of FP32 scores; `key` stands for a NaN, whose rank the spec does not
state. -/
def scoreBefore (key : Word → Word) (a b : Word) : Bool :=
  let k (w : Word) : FV := of32 (if (of32 w).isNan then key w else w)
  FV.lt (k b) (k a)

/-- The best element of a list of (score, id): the highest score, equal scores by lower id. -/
def bestOf (key : Word → Word) : List (Word × Nat) → Option (Word × Nat)
  | [] => none
  | x :: l => match bestOf key l with
    | none => some x
    | some y =>
      if scoreBefore key x.1 y.1 then some x
      else if scoreBefore key y.1 x.1 then some y
      else if x.2 ≤ y.2 then some x else some y

/-- The `n` best elements of a list of (score, id), the best first. -/
def topOf (key : Word → Word) : (n : Nat) → List (Word × Nat) → List (Word × Nat)
  | 0, _ => []
  | n + 1, l => match bestOf key l with
    | none => []
    | some x => x :: topOf key n (l.erase x)

end Sys2Proof
end

