-- ==== Sys2Proof/Machine/Generation.lean ====
section
/-! DEFINITION. The sampling unit and the grammar unit (file 03_engine_execution.md, R89 to R98), and the meanings of their
commands. -/

namespace Sys2Proof.Machine

/-! ### Slots -/

/-- The register GEN_SEQ of slot `k`. -/
def seqReg (k : Nat) : Reg := .GEN_SEQ (Fin.ofNat 64 k)

/-- Whether slot `k` is active (R89). -/
def State.slotActive (s : State) (k : Nat) : Bool := s.bget (seqReg k) F.GEN_SEQ_ACT

/-- Slot `k`. -/
def State.slot (s : State) (k : Nat) : SlotUnit := s.gen.slots.at k

/-- The state with slot `k` changed. -/
def State.slotUpd (s : State) (k : Nat) (f : SlotUnit → SlotUnit) : State :=
  { s with gen := { s.gen with slots := s.gen.slots.upd k f } }

/-- The vocabulary size of the loaded image (R90). -/
def State.vocab (s : State) : Nat := s.fget .GEN_VOCAB F.GEN_VOCAB_VOCAB

/-! ### Sampling entries -/

/-- Word `w` of a sampling entry (R92). -/
def entryWord (l : List Word) (w : Nat) : Nat := (nth l w).toNat

/-- GRAM of a sampling entry. -/
def entryGram (l : List Word) : Nat := bits (entryWord l 5) 0 16

/-- Whether a sampling entry holds only values of its table, with a grammar among `grams` (R92, R98). -/
def entryOk (grams : Nat → Bool) (l : List Word) : Bool :=
  let v (w : Nat) : FV := of32 (nth l w)
  let one : FV := .num false 1 0
  let ge (a b : FV) : Bool := !a.isNan && !FV.lt a b
  ge (v 0) fvZero &&
  (FV.lt fvZero (v 1) && ge one (v 1)) &&
  (ge (v 2) fvZero && FV.lt (v 2) one) &&
  ge (v 3) one &&
  decide (bits (entryWord l 4) 0 16 ≤ 1024) && decide (bits (entryWord l 4) 16 16 ≤ 1024) &&
  (decide (entryGram l = 0xFFFF) || (decide (entryGram l < 8) && grams (entryGram l))) &&
  decide (bits (entryWord l 5) 18 14 = 0) && decide (bits (entryWord l 6) 18 14 = 0)

/-- Whether the loaded image defines grammar `g`. -/
def State.gramDefined (s : State) (g : Nat) : Bool := (s.image.grams.at g).valid

/-! ### The grammar unit -/

/-- A transition of a grammar (R95). -/
structure Trans where
  cls : Nat
  act : Nat
  next : Nat
  push : Nat
  deriving DecidableEq, Repr, Inhabited

/-- Reads the state-table entry of state `q` of a grammar: first transition, count, ACCEPT (R95). -/
def State.gramState (s : State) (g : GramRec) (q : Nat) : State × Nat × Nat × Bool :=
  let r := s.hubRead ((s.image.parts.at g.part).base + g.stateOff + 8 * q) 8
  let v := ofBytes r.bytes
  (r.st, bits v 0 32, bits v 32 12, bitAt v 48)

/-- Reads the transitions of state `q` of a grammar (R95). -/
def State.gramTrans (s : State) (g : GramRec) (q : Nat) : State × List Trans :=
  let e := s.gramState g q
  let r := e.1.hubRead ((s.image.parts.at g.part).base + g.transOff + 8 * e.2.1) (8 * e.2.2.1)
  (r.st, (chunks 8 r.bytes).map (fun b =>
    let v := ofBytes b
    ⟨bits v 0 12, bits v 12 4, bits v 16 16, bits v 32 16⟩))

/-- Reads the classes of the tokens of a grammar (R95). -/
def State.gramClasses (s : State) (g : GramRec) : State × List Nat :=
  let r := s.hubRead ((s.image.parts.at g.part).base + g.classOff) (2 * g.vocab)
  (r.st, (chunks 2 r.bytes).map (fun b => ofBytes b % 4096))

/-- Whether a transition may be taken with a stack of `d` states (R96). -/
def Trans.allowed (t : Trans) (d : Nat) : Bool := !(t.act = 1 && 256 ≤ d) && !(t.act = 2 && d = 0)

/-- The mask of a slot in its grammar's state (R96): the allowed tokens, ascending. -/
def State.gramMask (s : State) (k : Nat) : State × List Nat :=
  let u := s.slot k
  match u.gram with
  | none => (s, List.range s.vocab)
  | some n =>
    let g := s.image.grams.at n
    let a := s.gramClasses g
    let t := a.1.gramTrans g u.gstate
    let q := t.1.gramState g u.gstate
    let eos := bits (entryWord u.entry 6) 0 18
    (q.1, (a.2.zipIdx).filterMap (fun ci =>
      let ok := if ci.2 = eos then q.2.2.2 && u.gstack.isEmpty
        else decide (ci.1 ≠ 4095) && t.2.any (fun x => x.cls = ci.1 && x.allowed u.gstack.length)
      if ok then some ci.2 else none))

/-- The grammar state and stack after the token `tok` (R97). -/
def State.gramStep (s : State) (k tok : Nat) : State :=
  let u := s.slot k
  match u.gram with
  | none => s
  | some n =>
    let g := s.image.grams.at n
    let a := s.gramClasses g
    let t := a.1.gramTrans g u.gstate
    if tok = bits (entryWord u.entry 6) 0 18 then s
    else match t.2.find? (fun x => x.cls = nth a.2 tok && x.allowed u.gstack.length) with
      | none => t.1
      | some x => t.1.slotUpd k (fun u =>
        if x.act = 1 then { u with gstate := x.next, gstack := x.push :: u.gstack }
        else if x.act = 2 then { u with gstate := u.gstack.headD 0, gstack := u.gstack.tail }
        else { u with gstate := x.next })

/-- Whether the grammar of a slot is in an accepting state with an empty stack (R94). -/
def State.gramAccept (s : State) (k : Nat) : Bool :=
  let u := s.slot k
  match u.gram with
  | none => false
  | some n => (s.gramState (s.image.grams.at n) u.gstate).2.2.2 && u.gstack.isEmpty

/-- The engine and step that a fault of slot `k` is reported for: the lowest engine whose task has the slot, and the oldest
step it has in flight. -/
def State.slotTask (s : State) (k : Nat) : Option (Nat × Nat) :=
  s.engs.findSome? (fun x => match x.2.task with
    | some t => if ((t.slots.getD []).contains k && decide ((s.slot k).act ≤ t.acts)) || t.used.contains k then
        some (x.1, (x.2.steps.head?.map (·.ix)).getD t.pc) else none
    | none => none)

/-- A fault of one slot of a step, after which other slots continue (R96, R98): the record is written, the slot ends. -/
def State.slotFault (s : State) (e step code k : Nat) : State :=
  let rec_ := faultRecord code e step (some k) 0
  (((s.putFault e rec_).ownFault e rec_).slotEnd k 3).slotUpd k
    (fun u => { u with logits := [], mask := none })

/-! ### Choosing a token -/

/-- The logits of a slot after the grammar mask and the NaN rule (R91, step 1), with the NaN logits counted. -/
def maskedLogits (l : List Word) (allowed : Nat → Bool) : List Word × Nat :=
  ((l.zipIdx).map (fun x => if allowed x.2 && !(of32 x.1).isNan then x.1 else 0xFF800000),
    (l.filter (fun w => (of32 w).isNan)).length)

/-- The repetition penalty (R91, step 2). -/
def penalise (pen : Word) (recent : List Nat) (l : List Word) : List Word :=
  (l.zipIdx).map (fun x =>
    if recent.contains x.2 then
      (if FV.lt fvZero (of32 x.1) then f32div x.1 pen else if FV.lt (of32 x.1) fvZero then f32mul x.1 pen else x.1)
    else x.1)

/-- Tokens in descending order of a value, equal ones by lower id. -/
def descending (l : List (Word × Nat)) : List (Word × Nat) :=
  l.mergeSort (fun a b => FV.lt (of32 b.1) (of32 a.1) || (!FV.lt (of32 a.1) (of32 b.1) && decide (a.2 ≤ b.2)))

/-- The shortest prefix whose sum reaches `p` (R91, step 7). -/
def prefixTo (p : FV) : (sum : FV) → List (Word × Nat) → List (Word × Nat)
  | _, [] => []
  | sum, x :: l =>
    let t := sum.add (of32 x.1)
    if FV.lt t p then x :: prefixTo p t l else [x]

/-- The token that a 24-bit uniform number `u` draws (R91, step 8): the first whose cumulated share exceeds `u ÷ 2^24`. -/
def drawToken (u : Nat) (l : List (Word × Nat)) : Nat :=
  let total := l.foldl (fun (s : FV) x => s.add (of32 x.1)) fvZero
  let goal := total.mul (.num false u (-24))
  let r := l.foldl (fun (acc : FV × Option Nat) x =>
    let c := acc.1.add (of32 x.1)
    (c, if acc.2 = none ∧ FV.lt goal c then some x.2 else acc.2)) (fvZero, none)
  r.2.getD ((l.getLast?.map (·.2)).getD 0)

/-- The tokens kept before softmax (R91, step 5).  DESIGN CHOICE, log entry 68. -/
def keptTokens (topK : Nat) (topP minP : FV) (l : List (Word × Nat)) : List (Word × Nat) :=
  let d := descending l
  if topK ≠ 0 then d.take topK
  else if FV.lt topP (.num false 1 0) ∨ FV.lt fvZero minP then d.take 1024 else d

/-- The token that the unit chooses for a slot (R91), whether every allowed token was −infinity, and whether the unit's
generator gave a draw.  DESIGN CHOICE, log entry 68. -/
def pickToken (entry : List Word) (allowed : List Nat) (l : List Word) (draw : Nat) : Nat × Bool × Bool :=
  let temp := nth entry 0
  let topP := of32 (nth entry 1)
  let minP := of32 (nth entry 2)
  let cand := (l.zipIdx).filter (fun x => allowed.contains x.2)
  if cand.all (fun x => x.1 = 0xFF800000) then (allowed.headD 0, true, false)
  else if (of32 temp).isZero || bitAt (entryWord entry 5) 16 then ((descending cand).head?.map (·.2) |>.getD 0, false, false)
  else
    let scaled := cand.map (fun x => (f32div x.1 temp, x.2))
    let kept := keptTokens (bits (entryWord entry 4) 0 16) topP minP scaled
    let logits := kept.map (·.1)
    let m := (kept.head?.map (·.1)).getD 0
    let probs := descending (kept.map (fun x => (Config.softmax x.1 m logits, x.2)))
    let pre := if FV.lt topP (.num false 1 0) then prefixTo topP fvZero probs else probs
    let top := (pre.head?.map (·.1)).getD 0
    -- the most probable token is never below its own share of itself
    let fin := pre.take 1 ++ pre.tail.filter (fun x => !FV.lt (of32 x.1) ((of32 top).mul minP))
    (drawToken draw fin, false, true)

/-! ### The output ring -/

/-- The output ring of slot `k`: its first address and its number of records (R94). -/
def State.oring (s : State) (k : Nat) : Option (Nat × Nat) :=
  s.image.ring.map (fun p =>
    let x := s.image.parts.at p
    (x.base + k * (x.len / 64), x.len / 512))

/-- Records of slot `k` that the ring holds, those whose write is not yet performed included. -/
def State.oringUsed (s : State) (k : Nat) : Nat :=
  let w := (s.rget (.GEN_ORING_WR (Fin.ofNat 64 k))).toNat
  let r := (s.rget (.GEN_ORING_RD (Fin.ofNat 64 k))).toNat
  (w + 2 ^ 32 - r) % 2 ^ 32 + (s.slot k).written

/-- Writes an output record to the ring of slot `k`, under the ticket of the slot's task, and its token to the token port (R90, R94, R216),
or holds both while the ring is full or the ticket's requests are held (R226). -/
def State.putRecord (s : State) (k rec_ tok : Nat) : State :=
  match s.oring k with
  | none => s.slotUpd k (fun u => { u with port := some tok })
  | some (base, n) =>
    let held (s : State) : State := s.slotUpd k (fun u => { u with heldRec := some (rec_, tok) })
    if n ≤ s.oringUsed k then held s
    else
      let i := ((s.rget (.GEN_ORING_WR (Fin.ofNat 64 k))).toNat + (s.slot k).written) % 2 ^ 32
      let a := base + i % n * 8
      match s.pass .hub (s.slot k).ticket false a 8 with
      | .error w => held (s.waitFor .hub w)
      | .ok s1 => (s1.hubLay a (toBytes 8 rec_)).slotUpd k
        (fun u => { u with heldRec := none, written := u.written + 1, port := some tok })

/-- Writes the record that the unit holds for slot `k`, if it holds one and may. -/
def State.retryRecord (s : State) (k : Nat) : State := match (s.slot k).heldRec with
  | some h => s.putRecord k h.1 h.2
  | none => s

/-- The output record of a token (R94). -/
def outputRecord (tok k : Nat) (eos limit accept degen : Bool) (lp : Word) : Nat :=
  tok % 2 ^ 18 + k * 2 ^ 18 + b2n eos * 2 ^ 24 + b2n limit * 2 ^ 25 + b2n accept * 2 ^ 26 + b2n degen * 2 ^ 27
    + lp.toNat * 2 ^ 32

/-- Whether the unit may choose slot `k`'s token (R90, R94): every logit below V has arrived, the mask of a slot with a
grammar is complete, and no token is held.  DESIGN CHOICE, log entry 68: SAMP_EN = 0 stops the choice of tokens; logits still arrive. -/
def State.tokenReady (s : State) (k : Nat) : Bool :=
  let u := s.slot k
  s.bget .GEN_CTL F.GEN_CTL_SAMP_EN && s.slotActive k && decide (s.vocab ≠ 0) && decide (u.logits.length = s.vocab)
    && (decide (u.gram = none) || u.mask.isSome) && decide (u.heldRec = none)

/-- A waiting entry is adopted as one (R92). -/
def State.adopt (s : State) (k : Nat) : State :=
  s.slotUpd k (fun u => match u.waiting with
    | some l => { u with entry := l, staged := l, waiting := none }
    | none => u)

/-- TOKEN_CHOOSE (R91). -/
def execTokenChoose (k : Slot) (s : State) : Res State :=
  if s.tokenReady k.val then
    let s1 := s.adopt k.val
    let u := s1.slot k.val
    let allowed := match u.gram with
      | none => List.range s1.vocab
      | some _ => u.mask.getD []
    let raw := (List.range s1.vocab).map (fun i => (u.logits.at i).getD 0)
    let ml := maskedLogits raw (fun i => allowed.contains i)
    let window := bits (entryWord u.entry 4) 16 16
    let recent := u.hist.drop (u.hist.length - window)
    let l := penalise (nth u.entry 3) recent ml.1
    let z := pickToken u.entry allowed l (Config.sampleDraw s1.free % 2 ^ 24)
    let tok := z.1
    let s2 := (if z.2.2 then { s1.tick with gen := { s1.gen with draws := s1.gen.draws + 1 } } else s1).cnt
      .GEN_STATUS F.GEN_STATUS_NANLOGIT ml.2
    let s3 := (s2.slotUpd k.val (fun u =>
        { u with logits := [], mask := none, hist := (u.hist ++ [tok]).drop (u.hist.length + 1 - 1024) })).wrap
      (.GEN_CNT k) F.GEN_CNT_TOKENS 1
    let s4 := s3.gramStep k.val tok
    let eos := decide (tok = bits (entryWord u.entry 6) 0 18)
    let lim := entryWord u.entry 7
    let limit := decide (lim ≠ 0) && decide (lim ≤ s4.fget (.GEN_CNT k) F.GEN_CNT_TOKENS)
    let lp := if bitAt (entryWord u.entry 5) 17 then
        Config.logProb (nth ml.1 tok) (((descending (ml.1.zipIdx)).head?.map (·.1)).getD 0) ml.1
      else 0
    let rec_ := outputRecord tok k.val eos limit (s4.gramAccept k.val) z.2.1 lp
    let s5 := s4.putRecord k.val rec_ tok
    .next (if eos then s5.slotEnd k.val 1 else if limit then s5.slotEnd k.val 2 else s5)
  else .next s

/-- ORING_ADVANCE (R94): the write of a record is performed, and the write index counts it. -/
def execOringAdvance (k : Slot) (s : State) : Res State :=
  if (s.slot k.val).written = 0 then .next s
  else .next ((s.slotUpd k.val (fun u => { u with written := u.written - 1 })).wrap (.GEN_ORING_WR k)
    F.GEN_ORING_WR_INDEX 1)

/-- ORING_READ_ADVANCE (R94): a write that moves the read index backwards or beyond the write index is ignored; a token held
for a full ring is then written. -/
def execOringReadAdvance (k : Slot) (v : Word) (s : State) : Res State :=
  let rd := (s.rget (.GEN_ORING_RD k)).toNat
  let wr := (s.rget (.GEN_ORING_WR k)).toNat
  let d (x : Nat) : Nat := (x + 2 ^ 32 - rd) % 2 ^ 32
  if d v.toNat ≤ d wr then
    let s1 := s.rset (.GEN_ORING_RD k) v
    .next (s1.retryRecord k.val)
  else .next s

/-- SAMPLER_RESEED (R91): after 2^20 draws the generator is seeded again.  DEDUCED, log entry 87. -/
def execSamplerReseed (s : State) : Res State :=
  if 2 ^ 20 ≤ s.gen.draws then .next { s with gen := { s.gen with draws := 0, seeds := s.gen.seeds + 1 } } else .next s

/-- SEQ_ACTIVATE (R89, R93, R97): a write that sets ACT in an active slot is ignored. -/
def execSeqActivate (k : Slot) (s : State) : Res State :=
  if s.slotActive k.val then .next s
  else
    let s1 := ((s.bset (.GEN_SEQ k) F.GEN_SEQ_ACT true).fset (.GEN_SEQ k) F.GEN_SEQ_END 0).rset (.GEN_CNT k) 0
    let s2 : State := { s1 with gen := { s1.gen with acts := s1.gen.acts + 1 } }
    .next (s2.slotUpd k.val (fun u =>
      let g := entryGram u.entry
      { u with act := s2.gen.acts, hist := [], logits := [], mask := none, port := none, gstate := 0, gstack := [],
               gram := if g = 0xFFFF ∨ 8 ≤ g ∨ u.entry = [] then none else some g }))

/-- SEQ_DEACTIVATE (R89): software clears ACT and the slot ends. -/
def execSeqDeactivate (k : Slot) (s : State) : Res State := .next (s.slotEnd k.val 0)

/-- SAMP_STAGE_WRITE (R92): word `w` of the slot's staged entry. -/
def execSampStageWrite (k : Slot) (w : Fin 8) (v : Word) (s : State) : Res State :=
  .next (s.slotUpd k.val (fun u => { u with staged := setNth ((List.range 8).map (nth u.staged)) w.val v }))

/-- SAMP_GO (R92): the staged entry waits for the slot's next token when every field passes; else BADSAMP is set.  DESIGN CHOICE, log
entry 68: an entry that waits from an earlier GO then stays. -/
def execSampGo (v : Word) (s : State) : Res State :=
  if F.GEN_SAMP_GO_GO.get v = 0 then .next s
  else
    let k := F.GEN_SAMP_GO_SLOT.get v
    if entryOk s.gramDefined (s.slot k).staged then
      .next (s.slotUpd k (fun u => { u with waiting := some ((List.range 8).map (nth u.staged)) }))
    else .next (s.bset .GEN_STATUS F.GEN_STATUS_BADSAMP true)

/-- HIST_APPEND (R93): the last 1,024 tokens are kept. -/
def execHistAppend (k : Slot) (v : Word) (s : State) : Res State :=
  .next (s.slotUpd k.val (fun u =>
    { u with hist := (u.hist ++ [F.GEN_HIST_TOKEN.get v]).drop (u.hist.length + 1 - 1024) }))

/-- GRAMMAR_MASK_DONE (R96, R98): the slot's mask of this step is complete; an empty one faults the step with 0x09 for the
slot.  While GRAM_EN is 0 no mask is made. -/
def execGrammarMaskDone (k : Slot) (s : State) : Res State :=
  let u := s.slot k.val
  if s.slotActive k.val && u.gram.isSome && s.bget .GEN_CTL F.GEN_CTL_GRAM_EN && s.gen.gramOn && decide (u.mask = none) then
    let z := s.gramMask k.val
    match z.2, z.1.slotTask k.val with
    | [], some (e, i) => .next (z.1.slotFault e i 0x09 k.val)
    | [], none => .next (z.1.slotEnd k.val 3)
    | l, _ => .next (z.1.slotUpd k.val (fun u => { u with mask := some l }))
  else .next s

/-! ### Logits and tokens of engine steps -/

/-- Takes one logit of slot `k` at vocabulary index `j` (R90). -/
def State.takeLogit (s : State) (k j : Nat) (w : Word) : State :=
  if s.vocab ≤ j then s.cnt .GEN_STATUS F.GEN_STATUS_SLICE_ERR 1
  else
    let dup := ((s.slot k).logits.at j).isSome
    let s1 := s.slotUpd k (fun u => { u with logits := u.logits.put j (some w) })
    if dup then s1.cnt .GEN_STATUS F.GEN_STATUS_SLICE_ERR 1 else s1

/-- The fault of R98 when the logits of slot `k` are complete: its entry names a grammar that no mask can be made for. -/
def State.gramBlocked (s : State) (k : Nat) : Bool :=
  match (s.slot k).gram with
  | none => false
  | some g => !(s.bget .GEN_CTL F.GEN_CTL_GRAM_EN && s.gen.gramOn) || !s.gramDefined g

/-- Whether a row of a step that is bound to slot `k` serves it (R89): the slot is active, and not by an activation that came after the
decode step began. -/
def State.serves (s : State) (t : Step) (task : Task) (k : Nat) : Bool :=
  s.slotActive k && (decide (t.slotMap ≠ 1) || decide ((s.slot k).act ≤ task.acts))

/-- The sampling unit takes the logits of row `m` of a LOGITS_OUT step, whose rows are `x` (R90, R98). -/
def State.takeRow (s : State) (e i : Nat) (t : Step) (task : Task) (x : Rows) (m : Nat) : State :=
  match slotOfRow t task m with
  | none => s
  | some k =>
    if s.serves t task k then
      let s1 := ((x.vals m).zipIdx).foldl (fun (s : State) v => s.takeLogit k (bits t.param 0 18 + v.2) (to32 v.1))
        (s.slotUpd k (fun u => { u with ticket := task.ticket }))
      if decide ((s1.slot k).logits.length = s1.vocab) && s1.gramBlocked k then s1.slotFault e i 0x0C k
      else s1
    else s

/-- The body of LOGITS_OUT (R90, R98). -/
def logitsBody (e i : Nat) (s : State) (t : Step) (r : StepRun) (task : Task) : Got Arith :=
  (s.rowsAt e (t.opb.at r.iter) t.opb.fmt t.grp 256 t.m t.n).bind fun s x =>
    .ok ((List.range t.m).foldl (fun s m => s.takeRow e i t task x m) s) default

/-- LOGITS_OUT (R90). -/
def execLogitsOut (e : Eng) (i : SpanIx) (s : State) : Res State :=
  .next (s.runStep e.val i.val 0x41 (logitsBody e.val i.val))

/-- Whether every active slot of a TOKEN_IN step has its token on the token port.  DEDUCED, log entry 65. -/
def State.tokensThere (s : State) (e i : Nat) : Bool :=
  match (s.engs.at e).task, (s.fetchStep e i).2 with
  | some task, some t => (List.range t.m).all (fun m => match slotOfRow t task m with
    | some k => !s.serves t task k || (s.slot k).port.isSome
    | none => true)
  | _, _ => true

/-- The token of the slot of row `m`, if the slot is served, goes to the row of OUT (R78, R90). -/
def State.tokenRow (s : State) (e it : Nat) (t : Step) (task : Task) (m : Nat) : Got Unit := match slotOfRow t task m with
  | none => .ok s ()
  | some k => match (s.slot k).port with
    | some tok =>
      if s.serves t task k then
        (s.result e it t.out (4 * m) (toBytes 4 tok) (List.replicate 4 false)).bind fun s _ =>
          .ok (s.slotUpd k (fun u => { u with port := none })) ()
      else .ok s ()
    | none => .ok s ()

/-- The body of TOKEN_IN (R78, R90). -/
def tokenInBody (e : Nat) (s : State) (t : Step) (r : StepRun) (task : Task) : Got Arith :=
  (Got.each (List.range t.m) (fun s m => s.tokenRow e r.iter t task m) s).bind fun s _ => .ok s default

/-- TOKEN_IN (R78): the step waits for the tokens of its active slots.  DEDUCED, log entry 65. -/
def execTokenIn (e : Eng) (i : SpanIx) (s : State) : Res State :=
  if s.tokensThere e.val i.val then .next (s.runStep e.val i.val 0x42 (tokenInBody e.val)) else .next s

end Sys2Proof.Machine
end

