-- ==== Sys2Proof/Machine/Steps.lean ====
section
/-! DEFINITION. The meanings of the arithmetic steps of a schedule (file 03_engine_execution.md, R78 to R86; arithmetic of
file 02_engine_arithmetic.md). -/

namespace Sys2Proof.Machine

/-! ### Operands of the array -/

/-- Row `r` of an operand as a line of the array: elements apart from their scales (R41 to R45, R526). -/
def Rows.line (x : Rows) (r : Nat) : Line :=
  let b := x.row r
  ⟨(List.range x.k).map (elemAt x.c x.run b.1), (List.range x.k).map (fun i => scaleAt x.c b.2 (i / scaleGroup x.c x.g))⟩

/-- Reads entry `n` of codebook `cb` of engine `e` (R45): its eight bytes; a poisoned entry is fault 0x01.
DESIGN CHOICE, log entry 15. -/
def State.codebookEntry (s : State) (e cb n : Nat) : Got (List Byte) :=
  let site := s.siteOf e
  let k := codebookKey site + cb * 524288 + n * 8
  let a := s.mem.read ⟨2, site, k⟩ 0
  let b := a.1.read ⟨2, site, k + 4⟩ 0
  let s1 := s.withMem b.1
  if a.2.2 || b.2.2 then .fault s1 0x01 none 0 else .ok s1 (toBytes 4 a.2.1 ++ toBytes 4 b.2.1)

/-- The elements of `n` CB2 weights whose indices are `l` (R45). -/
def State.cb2Elems (s : State) (e cb : Nat) (l : List Nat) : Got (List FV) :=
  let f := if Config.codebookE5M2 e cb then e5m2 else e4m3
  l.foldl (fun (g : Got (List FV)) n => g.bind fun s acc =>
    (s.codebookEntry e cb n).bind fun s b => .ok s (acc ++ b.map (fun x => f.decode x.toNat))) (.ok s [])

/-- The weight columns of a MATMUL or MOE_GATE step as lines (R45, R526). -/
def State.columns (s : State) (e : Nat) (x : Rows) (n : Nat) : Got (List Line) :=
  if isCb2 x.c then
    (List.range n).foldl (fun (g : Got (List Line)) j => g.bind fun s acc =>
      let b := x.row j
      let ix := (List.range (ceilDiv x.k 8)).map (fun i => leNat b.1 (2 * i) 2)
      (s.cb2Elems e (x.c - 0xD) ix).bind fun s el =>
        .ok s (acc ++ [⟨el.take x.k, (List.range x.k).map (fun i => scaleAt x.c b.2 (i / scaleGroup x.c x.g))⟩]))
      (.ok s [])
  else .ok s ((List.range n).map x.line)

/-- The malformed ternary bytes that loading an operand's columns decodes (R44, R57). -/
def Rows.malformedBytes (x : Rows) : Nat := if isTernary x.c then malformed x.el else 0

/-- The products of activation rows and weight columns (R48, R50), row by row, from the partial sums `prior`. -/
def arrayRows (blk depth : Nat) (cols rows : List Line) (prior : Nat → Nat → Word) (ar : Arith) : List (List Word) × Arith :=
  (rows.zipIdx).foldl (fun (acc : List (List Word) × Arith) rm =>
    let r := (cols.zipIdx).foldl (fun (c : List Word × Arith) wn =>
      let z := arrayDot blk depth wn.1 rm.1 (prior rm.2 wn.2) c.2
      (c.1 ++ [z.1], z.2)) ([], acc.2)
    (acc.1 ++ [r.1], r.2)) ([], ar)

/-- A value and its weights as FP32 vectors: `n` FP32 words at an operand. -/
def State.wordsAt (s : State) (e a n : Nat) : Got (List Word) :=
  (s.operand e a (4 * n)).bind fun s b => .ok s ((chunks 4 b).map (fun x => wordOf (ofBytes x)))

/-- The source address of tile `t` of a weight operand (R49): tiles follow K within a column of tiles. -/
def tileAddr (st : Step) (it t : Nat) : Nat :=
  let run := ternaryRun st.opb.fmt
  let depth := passDepth st.opa.fmt st.opb.fmt
  let passes := ceilDiv st.k depth
  let col := t / passes * tileCols st.opa.fmt
  st.opa.at it + col * rowBytes st.opa.fmt st.grp run st.k + rowBytes st.opa.fmt st.grp run (t % passes * depth)

/-- The tiles of a weight operand of `n` columns (R47). -/
def tileCount (st : Step) (n : Nat) : Nat :=
  ceilDiv st.k (passDepth st.opa.fmt st.opb.fmt) * ceilDiv n (tileCols st.opa.fmt)

/-- The counts of one FP32 addition of lists, element by element (R57). -/
def addRow (a : Arith) (x y : List Word) : List Word × Arith :=
  (List.zip x y).foldl (fun (acc : List Word × Arith) p =>
    let z := f32add p.1 p.2
    (acc.1 ++ [z], acc.2.computed ((of32 p.1).isNan || (of32 p.2).isNan) (of32 z))) ([], a)

/-! ### Steps without arithmetic -/

/-- NOP (R78): nothing but its synchronisation and loop. -/
def nopBody (s : State) (_ : Step) (_ : StepRun) (_ : Task) : Got Arith := .ok s default

/-- NOP (R78). -/
def execNop (e : Eng) (i : SpanIx) (s : State) : Res State := .next (s.runStep e.val i.val 0x00 nopBody)

/-- SYNC (R76, R78): its SYNC_IN was awaited at its start; its SYNC_OUT is signalled as it completes. -/
def execSync (e : Eng) (i : SpanIx) (s : State) : Res State := .next (s.runStep e.val i.val 0x50 nopBody)

/-! ### Array steps -/

/-- The results of MATMUL and what they count (R47 to R51, R57): weights `w` with their columns as lines, activations `a`, the partial sums
of ACC and the bias of AUX. -/
def matmulRows (t : Step) (w a : Rows) (cols : List Line) (prior bias : List Word) : List (List FV) × Arith :=
  let z := arrayRows (blockLen t.opa.fmt t.opb.fmt t.grp) (passDepth t.opa.fmt t.opb.fmt) cols
    ((List.range t.m).map a.line) (fun m n => nth prior (m * t.n + n)) { (default : Arith) with malf := w.malformedBytes }
  let out := if t.aux = refOf 0 then z
    else z.1.foldl (fun (acc : List (List Word) × Arith) row =>
      let x := addRow acc.2 row bias
      (acc.1 ++ [x.1], x.2)) ([], z.2)
  (out.1.map (fun row => row.map of32), out.2)

/-- The body of MATMUL (R47 to R51, R80, R526). -/
def matmulBody (e : Nat) (parity : Option Nat) (s : State) (t : Step) (r : StepRun) (_ : Task) : Got Arith :=
  let it := r.iter
  match parity.filter (fun p => p < tileCount t t.n) with
  | some p => .fault s 0x03 none (tileAddr t it p)
  | none =>
    let run := ternaryRun t.opb.fmt
    (s.rowsAt e (t.opa.at it) t.opa.fmt t.grp run t.n t.k).bind fun s w =>
    (s.rowsAt e (t.opb.at it) t.opb.fmt t.grp 256 t.m t.k).bind fun s a =>
    (s.columns e w t.n).bind fun s cols =>
    (if t.acc then s.wordsAt e (t.out.at it) (t.m * t.n) else .ok s []).bind fun s prior =>
    (if t.aux = refOf 0 then .ok s [] else s.wordsAt e (t.aux.at it) t.n).bind fun s bias =>
      let z := matmulRows t w a cols prior bias
      s.putRows e it t z.2 z.1

/-- MATMUL (R80). -/
def execMatmul (e : Eng) (i : SpanIx) (parity : Option Nat) (s : State) : Res State :=
  .next (s.runStep e.val i.val 0x01 (matmulBody e.val parity))

/-! ### Attention -/

/-- The layout of an ATTN_PAGED step (R78, R81): query heads, KV heads, head dimension, APPEND, LEN_UPD, page-table entries
per sequence, bytes per element, tokens per page. -/
structure AttnShape where
  hq : Nat
  hkv : Nat
  hd : Nat
  append : Bool
  lenUpd : Bool
  pages : Nat
  eb : Nat
  t : Nat

/-- The layout of an ATTN_PAGED step. -/
def attnShape (t : Step) : AttnShape :=
  let p := t.param
  let hkv := bits p 8 8
  let hd := bits p 16 10
  let eb := max 1 (elemBits t.opa.fmt / 8)
  ⟨bits p 0 8, hkv, hd, bitAt p 26, bitAt p 27, bits p 32 16, eb, 65536 / max 1 (2 * hkv * hd * eb)⟩

/-- The bytes of the K, or of the V, of one token. -/
def AttnShape.half (h : AttnShape) : Nat := h.hkv * h.hd * h.eb

/-- The address of entry `j` of a slot's block of the page table (R81). -/
def ptEntry (h : AttnShape) (base slot j : Nat) : Nat := base + (slot * (1 + h.pages) + j) * 8

/-- The pages of the image's KV pool (R141, R82), by the addresses of their first bytes. -/
def State.poolPages (s : State) : List Nat :=
  s.image.parts.flatMap (fun e =>
    if e.2.valid && decide (e.2.use = 3) then
      let b := alignUp e.2.base 65536
      (List.range ((e.2.base + e.2.len - b) / 65536)).map (fun i => b + i * 65536)
    else [])

/-- The pool's pages that no sequence holds. -/
def State.freePages (s : State) : List Nat :=
  s.poolPages.filter (fun p => !(s.gen.kv.any (fun x => x.2.1 = p)))

/-- Makes entry `j` of a slot's block valid for a write (R82): at basic level the hub allocates one of the pool's free pages
(which one the spec leaves open), at expert level the step faults.  Answers the page's address.  DESIGN CHOICE, log entry 66: a
position beyond the P pages takes the entry that follows in the table. -/
def State.kvPage (s : State) (e span : Nat) (h : AttnShape) (base slot j : Nat) : Got Nat :=
  let a := ptEntry h base slot (j + 1)
  (s.operand e a 8).bind fun s b =>
    let v := ofBytes b
    if v % 2 = 1 then .ok s (bits v 16 32 * 65536)
    else if (s.spans.at span).expert then .fault s 0x04 (some slot) a
    else match s.freePages with
      | [] => .fault s 0x05 (some slot) a
      | p :: ps =>
        let pg := nth (p :: ps) ((Config.freeWord s.free).toNat % (p :: ps).length)
        let s1 := s.tick
        let d := toBytes 8 (pg + 1)
        let s2 := { s1 with gen := { s1.gen with kv := (slot, pg, a) :: s1.gen.kv } }
        (s2.store e a d (d.map (fun _ => false))).bind fun s _ => .ok s pg

/-- Writes the K and V of one new token of a slot at position `pos` (R82).  The spec names no operand that brings them, so
their bytes are free values.  DESIGN CHOICE, log entry 66. -/
def State.appendToken (s : State) (e span : Nat) (h : AttnShape) (base slot pos : Nat) : Got Unit :=
  (s.kvPage e span h base slot (pos / h.t)).bind fun s pg =>
    let d := (List.range (2 * h.half)).map (fun j => byteOf (Config.freeWord (s.free + j)).toNat)
    let s1 := { s with free := s.free + 2 * h.half }
    s1.store e (pg + pos % h.t * (2 * h.half)) d (d.map (fun _ => false))

/-- The address of the K and V of the token at position `pos` of a slot (R81).  DESIGN CHOICE, log entry 66: an entry that is not valid is
fault 0x04 at either level. -/
def State.tokenAt (s : State) (e : Nat) (h : AttnShape) (base slot pos : Nat) : Got Nat :=
  let a := ptEntry h base slot (pos / h.t + 1)
  (s.operand e a 8).bind fun s b =>
    let v := ofBytes b
    if v % 2 = 0 then .fault s 0x04 (some slot) a else .ok s (bits v 16 32 * 65536 + pos % h.t * (2 * h.half))

/-- Reads the K and V of the token at position `pos` of a slot. -/
def State.cachedToken (s : State) (e : Nat) (h : AttnShape) (base slot pos : Nat) : Got (List Byte) :=
  (s.tokenAt e h base slot pos).bind fun s a => s.operand e a (2 * h.half)

/-- One query head's output (R50, R57, R81): the scores in the array with K stationary, then softmax and the accumulation of V.
DESIGN CHOICE, log entry 66. -/
def attnHead (t : Step) (h : AttnShape) (q : Line) (kv : List (List Byte)) (j : Nat) (ar : Arith) : List FV × Arith :=
  let g := j / max 1 (h.hq / max 1 h.hkv)
  let cut {α : Type} (l : List α) : List α := (l.drop (j * h.hd)).take h.hd
  let head (b : List Byte) : List FV := (List.range h.hd).map (fun i => elemAt t.opa.fmt 256 b (g * h.hd + i))
  let r := kv.foldl (fun (acc : List Word × Arith) b =>
    let z := arrayDot (blockLen t.opa.fmt t.opb.fmt t.grp) (passDepth t.opa.fmt t.opb.fmt)
      ⟨head b, List.replicate h.hd (.num false 1 0)⟩ ⟨cut q.el, cut q.sc⟩ 0 acc.2
    (acc.1 ++ [z.1], z.2)) ([], ar)
  let vals := kv.map (fun b => (head (b.drop h.half)).map to32)
  let n := Config.attentionNan r.1 h.hd vals
  ((List.range h.hd).map (fun x => of32 (Config.attention r.1 h.hd vals x)),
    { r.2 with nanIn := r.2.nanIn + n.1, nanOut := r.2.nanOut + n.2 })

/-- The results of ATTN_PAGED and what they count, from the query rows and the K and V of each row's tokens (R81). -/
def attnRows (t : Step) (q : Rows) (kvs : List (List (List Byte))) : List (List FV) × Arith :=
  let h := attnShape t
  (kvs.zipIdx).foldl (fun (acc : List (List FV) × Arith) x =>
    let row := (List.range h.hq).foldl (fun (c : List FV × Arith) j =>
      let y := attnHead t h (q.line x.2) x.1 j c.2
      (c.1 ++ y.1, y.2)) ([], acc.2)
    (acc.1 ++ [row.1], row.2)) ([], default)

/-- The K tiles that an ATTN_PAGED step loads (R47, R49, R81), by slot, first token and byte offset in it: for the slots in turn, tokens in
groups of a tile's columns, head by head, pass by pass.  DESIGN CHOICE, log entry 66. -/
def attnTiles (t : Step) (h : AttnShape) (lens : List (Nat × Nat)) : List (Nat × Nat × Nat) :=
  let depth := passDepth t.opa.fmt t.opb.fmt
  let cols := tileCols t.opa.fmt
  lens.flatMap (fun kl => (List.range (ceilDiv kl.2 cols)).flatMap (fun c => (List.range h.hkv).flatMap (fun g =>
    (List.range (ceilDiv h.hd depth)).map (fun p => (kl.1, c * cols, (g * h.hd + p * depth) * h.eb)))))

/-- The rows of an ATTN_PAGED step with their slots, and how many new tokens the step gives a slot (R80, R82). -/
def attnSlots (t : Step) (task : Task) : List (Nat × Option Nat) := (List.range t.m).map (fun m => (m, slotOfRow t task m))
@[inherit_doc attnSlots] def attnNew (t : Step) (task : Task) (k : Nat) : Nat :=
  if (attnShape t).append then ((attnSlots t task).filter (fun x => x.2 = some k)).length else 0

/-- Reads the cached lengths of the slots of an ATTN_PAGED step whose page table begins at `base` (R81). -/
def State.attnLens (s : State) (e base : Nat) (t : Step) (task : Task) : Got (List (Nat × Nat)) :=
  Got.collect ((attnSlots t task).filterMap (·.2)).eraseDups (fun s k =>
    (s.operand e (ptEntry (attnShape t) base k 0) 8).bind fun s b => .ok s (k, ofBytes b % 2 ^ 32)) s

/-- The lengths with the step's new tokens. -/
def attnFull (t : Step) (task : Task) (lens : List (Nat × Nat)) : List (Nat × Nat) :=
  lens.map (fun kl => (kl.1, kl.2 + attnNew t task kl.1))

/-- Writes the K and V of the step's new tokens, and under LEN_UPD the new lengths (R81, R82). -/
def State.attnAppend (s : State) (e base : Nat) (t : Step) (task : Task) (lens : List (Nat × Nat)) : Got Unit :=
  let h := attnShape t
  (Got.each lens (fun s kl => Got.each (List.range (attnNew t task kl.1)) (fun s j =>
    s.appendToken e task.span h base kl.1 (kl.2 + j)) s) s).bind fun s _ =>
  Got.each (if h.append && h.lenUpd then attnFull t task lens else []) (fun s kl =>
    let d := toBytes 4 kl.2
    s.store e (ptEntry h base kl.1 0) d (d.map (fun _ => false))) s

/-- Reads the K and V of the tokens of each row's slot, whose lengths are `full`. -/
def State.attnCached (s : State) (e base : Nat) (t : Step) (task : Task) (full : List (Nat × Nat)) : Got (List (List (List Byte))) :=
  Got.collect (attnSlots t task) (fun s ms =>
    let len := match ms.2 with
      | some k => ((full.find? (fun x => x.1 = k)).map (·.2)).getD 0
      | none => 0
    Got.collect (List.range len) (fun s p => s.cachedToken e (attnShape t) base (ms.2.getD 0) p) s) s

/-- The body of ATTN_PAGED (R49, R81, R82).  DESIGN CHOICE, log entry 66. -/
def attnBody (e : Nat) (parity : Option Nat) (s : State) (t : Step) (r : StepRun) (task : Task) : Got Arith :=
  let it := r.iter
  let h := attnShape t
  let base := t.aux.at it
  (s.rowsAt e (t.opb.at it) t.opb.fmt t.grp 256 t.m (h.hq * h.hd)).bind fun s q =>
  (s.attnLens e base t task).bind fun s lens =>
  (s.attnAppend e base t task lens).bind fun s _ =>
  match parity.bind (fun p => (attnTiles t h (attnFull t task lens))[p]?) with
  | some x => (s.tokenAt e h base x.1 x.2.1).bind fun s a => .fault s 0x03 (some x.1) (a + x.2.2)
  | none =>
    (s.attnCached e base t task (attnFull t task lens)).bind fun s kvs =>
      let z := attnRows t q kvs
      s.putRows e it t z.2 z.1

/-- ATTN_PAGED (R81) of the step at an index; with it, the tile whose weight registers show a parity error (R49), if one does. -/
def execAttnPaged (e : Eng) (x : SpanIx × Option Nat) (s : State) : Res State :=
  .next (s.runStep e.val x.1.val 0x10 (attnBody e.val x.2))

/-! ### Expert layers -/

/-- A routing record (R83). -/
def routingRecord (row expert : Nat) (w : Word) : List Byte :=
  toBytes 2 row ++ toBytes 1 expert ++ [0] ++ toBytes 4 w.toNat

/-- Reads `n` routing records: row, expert, weight (R83). -/
def State.routing (s : State) (e a n : Nat) : Got (List (Nat × Nat × Word)) :=
  (s.operand e a (8 * n)).bind fun s b =>
    .ok s ((chunks 8 b).map (fun x => (leNat x 0 2, leNat x 2 1, wordOf (leNat x 4 4))))

/-- The routing records of MOE_GATE and what the step counts (R83): for each row its best experts with their weights; `free` numbers the free
values that order scores which are not numbers.  DESIGN CHOICE, log entry 69. -/
def gateRecords (free : Nat) (t : Step) (w a : Rows) (cols : List Line) : List Byte × Arith :=
  let z := arrayRows (blockLen t.opa.fmt t.opb.fmt t.grp) (passDepth t.opa.fmt t.opb.fmt) cols
    ((List.range t.m).map a.line) (fun _ _ => 0) { (default : Arith) with malf := w.malformedBytes }
  let key (x : Word) : Word := Config.freeWord (free + x.toNat)
  ((z.1.zipIdx).flatMap (fun rm =>
    let gate (x : Word) : Word := if bitAt t.param 12 then sfuValue 3 x else Config.gateSoftmax x rm.1
    let top := topOf key (bits t.param 9 3 + 1) (rm.1.zipIdx)
    let ws := top.map (fun x => gate x.1)
    (List.zip top ws).flatMap (fun x =>
      routingRecord rm.2 x.1.2 (if bitAt t.param 13 then Config.gateNorm x.2 ws else x.2))), z.2)

/-- The body of MOE_GATE (R49, R83).  DESIGN CHOICE, log entry 69. -/
def moeGateBody (e : Nat) (parity : Option Nat) (s : State) (t : Step) (r : StepRun) (_ : Task) : Got Arith :=
  let it := r.iter
  let ne := bits t.param 0 9
  let run := ternaryRun t.opb.fmt
  match parity.filter (fun p => p < tileCount t ne) with
  | some p => .fault s 0x03 none (tileAddr t it p)
  | none =>
  (s.rowsAt e (t.opa.at it) t.opa.fmt t.grp run ne t.k).bind fun s w =>
  (s.rowsAt e (t.opb.at it) t.opb.fmt t.grp 256 t.m t.k).bind fun s a =>
  (s.columns e w ne).bind fun s cols =>
    let z := gateRecords s.free t w a cols
    (s.tick.result e it t.out 0 z.1 (z.1.map (fun _ => false))).bind fun s _ => .ok s z.2

/-- MOE_GATE (R83); operands as for ATTN_PAGED. -/
def execMoeGate (e : Eng) (x : SpanIx × Option Nat) (s : State) : Res State :=
  .next (s.runStep e.val x.1.val 0x18 (moeGateBody e.val x.2))

/-- The engines of a route that hold the experts of some routing records (R83).  DESIGN CHOICE, log entry 16. -/
def expertEngines (n : Nat) (r : RouteEnt) (l : List (Nat × Nat × Word)) : List Nat :=
  let es := r.engines
  es.filter (fun x => l.any (fun q => nth es (Config.expertHome n q.2.1 % max 1 es.length) = x))

/-- Row `m` of MOE_DISPATCH goes to the engines of its experts by the multicast of its route, `m` rows past the route's offset (R83). -/
def State.dispatchRow (s : State) (e it : Nat) (t : Step) (recs : List (Nat × Nat × Word)) (m : Nat) : Got Unit :=
  let n := t.out.addr % 4096
  let nb := rowBytes t.opb.fmt t.grp 256 t.k
  let ns := rowScales t.opb.fmt t.grp t.k
  let scBase := alignUp (t.opb.at it + t.m * nb) 64
  let dests := expertEngines n (s.image.routes.at n) (recs.filter (fun x => x.1 = m))
  (s.carried e (t.opb.at it + m * nb) nb).bind fun s el =>
  (if ns = 0 then .ok s ⟨s, [], [], [], none, none, []⟩ else s.carried e (scBase + m * ns) ns).bind fun s sc =>
  if dests.isEmpty then .ok s ()
  else (s.storeRouteTo (engineNo e) (s.engTicket e) n dests (t.out.advance it + m * nb) el.bytes el.pois).bind fun s _ =>
    if sc.bytes = [] then .ok s ()
    else s.storeRouteTo (engineNo e) (s.engTicket e) n dests (t.out.advance it + s.scalesAt it t.out (t.m * nb) + m * ns) sc.bytes sc.pois

/-- The body of MOE_DISPATCH (R83).  DESIGN CHOICE, log entry 69: row `m` has DIM_N records. -/
def moeDispatchBody (e : Nat) (s : State) (t : Step) (r : StepRun) (_ : Task) : Got Arith :=
  (s.routing e (t.aux.at r.iter) (t.m * t.n)).bind fun s recs =>
  (Got.each (List.range t.m) (fun s m => s.dispatchRow e r.iter t recs m) s).bind fun s _ => .ok s default

/-- MOE_DISPATCH (R83). -/
def execMoeDispatch (e : Eng) (i : SpanIx) (s : State) : Res State :=
  .next (s.runStep e.val i.val 0x19 (moeDispatchBody e.val))

/-- The order in which the contributions of a row are added (R84): that of arrival, or ascending expert number. -/
def gatherOrder (ordered : Bool) (order : List Nat) (l : List (Nat × Nat × Nat × Word)) : List (Nat × Nat × Nat × Word) :=
  if ordered then l.mergeSort (fun a b => a.2.2.1 ≤ b.2.2.1)
  else
    let o := (order.filter (· < l.length)).eraseDups
    let o := o ++ (List.range l.length).filter (fun i => !o.contains i)
    o.map (nth l)

/-- The results of MOE_GATHER and what they count (R84). -/
def gatherRows (order : List Nat) (t : Step) (recs : List (Nat × Nat × Word)) (x : Rows) : List (List FV) × Arith :=
  (List.range t.m).foldl (fun (acc : List (List FV) × Arith) m =>
    let l := gatherOrder t.ordered order ((recs.zipIdx).filterMap (fun q =>
      if q.1.1 = m then some (q.2, q.1.1, q.1.2.1, q.1.2.2) else none))
    let row := (List.range t.k).map (fun c => l.foldl (fun (v : Word) q =>
      f32add v (f32mul q.2.2.2 (to32 (((x.vals q.1)[c]?).getD fvZero)))) (0x80000000 : Word))
    let ar := (List.range t.k).foldl (fun (a : Arith) c =>
      a.computed (l.any (fun q => (of32 q.2.2.2).isNan || (((x.vals q.1)[c]?).getD fvZero).isNan)) (of32 (nth row c))) acc.2
    (acc.1 ++ [row.map of32], ar)) ([], default)

/-- The body of MOE_GATHER (R83, R84).  DESIGN CHOICE, log entry 69: row m has DIM_N records, and row j of OPB is the expert output that
record j weighs. -/
def moeGatherBody (e : Nat) (order : List Nat) (s : State) (t : Step) (r : StepRun) (_ : Task) : Got Arith :=
  let it := r.iter
  (s.routing e (t.aux.at it) (t.m * t.n)).bind fun s recs =>
  (s.rowsAt e (t.opb.at it) t.opb.fmt t.grp 256 (t.m * t.n) t.k).bind fun s x =>
    let z := gatherRows order t recs x
    s.putRows e it t z.2 z.1

/-- MOE_GATHER (R84). -/
def execMoeGather (e : Eng) (i : SpanIx) (order : List Nat) (s : State) : Res State :=
  .next (s.runStep e.val i.val 0x1A (moeGatherBody e.val order))

/-! ### Normalisation and embedding -/

/-- RMS normalisation of a row (R85): the mean of the squares by the reduction tree, epsilon added before the rsqrt.
DEDUCED, log entry 67. -/
def normRmsRow (eps : Word) (gain row : List Word) : List Word :=
  let n := to32 (FV.ofInt row.length)
  let k := sfuValue 2 (f32add (f32div (rowSum (row.map (fun x => f32mul x x))) n) eps)
  (List.zip row gain).map (fun p => f32mul (f32mul p.1 k) p.2)

/-- Layer normalisation of a row (R85).  DEDUCED, log entry 67. -/
def normLayerRow (eps : Word) (gain bias row : List Word) : List Word :=
  let n := to32 (FV.ofInt row.length)
  let mean := f32div (rowSum row) n
  let c := row.map (fun x => f32sub x mean)
  let k := sfuValue 2 (f32add (f32div (rowSum (c.map (fun x => f32mul x x))) n) eps)
  (List.zip c (List.zip gain bias)).map (fun p => f32add (f32mul (f32mul p.1 k) p.2.1) p.2.2)

/-- The counts of a list of results whose operands are `ops` (R57). -/
def countRow (a : Arith) (ops : List FV) (res : List Word) : Arith :=
  let nanIn := ops.any FV.isNan
  res.foldl (fun (a : Arith) v => a.computed nanIn (of32 v)) a

/-- The results of NORM_RMS and NORM_LAYER and what they count (R85): rows `x`, gain `g` and, of NORM_LAYER, bias `b`. -/
def normRows (layer : Bool) (t : Step) (x g b : Rows) : List (List FV) × Arith :=
  let eps := wordOf (t.param % 2 ^ 32)
  let gain := (g.vals 0).map to32
  let bias := (b.vals 0).map to32
  (List.range t.m).foldl (fun (acc : List (List FV) × Arith) m =>
    let row := x.vals m
    let out := if layer then normLayerRow eps gain bias (row.map to32) else normRmsRow eps gain (row.map to32)
    (acc.1 ++ [out.map of32], countRow acc.2 (row ++ g.vals 0 ++ (if layer then b.vals 0 else [])) out)) ([], default)

/-- The body of NORM_RMS and NORM_LAYER (R85). -/
def normBody (layer : Bool) (e : Nat) (s : State) (t : Step) (r : StepRun) (_ : Task) : Got Arith :=
  let it := r.iter
  (s.rowsAt e (t.opb.at it) t.opb.fmt t.grp 256 t.m t.k).bind fun s x =>
  (s.rowsAt e (t.opa.at it) t.opa.fmt t.grp 256 1 t.k).bind fun s g =>
  (if layer then s.rowsAt e (t.aux.at it) t.aux.fmt t.grp 256 1 t.k else .ok s g).bind fun s b =>
    let z := normRows layer t x g b
    s.putRows e it t z.2 z.1

/-- NORM_RMS (R85). -/
def execNormRms (e : Eng) (i : SpanIx) (s : State) : Res State := .next (s.runStep e.val i.val 0x20 (normBody false e.val))

/-- NORM_LAYER (R85). -/
def execNormLayer (e : Eng) (i : SpanIx) (s : State) : Res State :=
  .next (s.runStep e.val i.val 0x21 (normBody true e.val))

/-- The values of row `id` of an embedding table of `n` rows at `a` (R85). -/
def State.tableRow (s : State) (e : Nat) (t : Step) (a id : Nat) : Got (List FV) :=
  let c := t.opa.fmt
  let nb := rowBytes c t.grp 256 t.k
  let ns := rowScales c t.grp t.k
  (s.operand e (a + id * nb) nb).bind fun s el =>
  (if ns = 0 then .ok s [] else s.operand e (alignUp (a + t.n * nb) 64 + id * ns) ns).bind fun s sc =>
    .ok s ((Rows.mk c t.grp 256 t.k el sc).vals 0)

/-- The body of EMBED_GATHER (R85): a token id of N or more is fault 0x0B. -/
def embedBody (e : Nat) (s : State) (t : Step) (r : StepRun) (task : Task) : Got Arith :=
  let it := r.iter
  (s.wordsAt e (t.opb.at it) t.m).bind fun s ids =>
  (Got.collect (ids.zipIdx) (fun s x =>
    if t.n ≤ x.1.toNat then .fault s 0x0B (slotOfRow t task x.2) (t.opb.at it + 4 * x.2)
    else s.tableRow e t (t.opa.at it) x.1.toNat) s).bind fun s rows =>
  s.putRows e it t default rows

/-- EMBED_GATHER (R85). -/
def execEmbedGather (e : Eng) (i : SpanIx) (s : State) : Res State := .next (s.runStep e.val i.val 0x28 (embedBody e.val))

/-! ### Vector, special-function, reduction and transpose steps -/

/-- An operand of a vector step, or nothing where the operation does not use it. -/
def State.vecOperand (s : State) (e : Nat) (used : Bool) (t : Step) (r : Ref) (it : Nat) : Got Rows :=
  if used then s.rowsAt e (r.at it) r.fmt t.grp 256 t.m t.k else .ok s ⟨0, 1, 256, 0, [], []⟩

/-- Whether a VEC step selects among 32-bit words (R79). -/
def vecSelectsWords (t : Step) : Bool := decide (t.param % 256 = 0xC) && decide (t.opa.fmt = 0xF)

/-- Whether the results of a VEC step are 32-bit words: integers, comparisons and selected words (R79). -/
def vecGivesWords (t : Step) : Bool := decide (0x10 ≤ t.param % 256) || vecSelectsWords t || vecIsCmp (t.param % 256)

/-- The integer results of a VEC step (R79). -/
def vecInts (t : Step) (a b x : Rows) : List Word :=
  (List.range t.m).flatMap (fun m =>
    let aw := a.words m
    let bw := b.words m
    let xw := x.words m
    (List.range t.k).map (fun j =>
      if vecSelectsWords t then (if nth xw j = 0 then nth bw j else nth aw j) else vecInt (t.param % 256) (nth aw j) (nth bw j)))

/-- The floating-point results of a VEC step, the last row first; those of a comparison; and what they count (R57, R58, R79).  A conversion to
a narrower format is counted as it is written. -/
def vecValues (t : Step) (a b x : Rows) : List (List FV) × List Word × Arith :=
  let op := t.param % 256
  (List.range t.m).foldl (fun (acc : List (List FV) × List Word × Arith) m =>
    let av := a.vals m
    let bv := b.vals m
    let xv := x.vals m
    let xw := x.words m
    (List.range t.k).foldl (fun (acc : List (List FV) × List Word × Arith) j =>
      let p := if (vecUses op).1 then (av[j]?).getD fvZero else fvZero
      let q := (bv[j]?).getD fvZero
      let y := if op = 3 then (xv[j]?).getD fvZero else fvZero
      let nanIn := p.isNan || q.isNan || y.isNan
      if vecIsCmp op then
        (acc.1, acc.2.1 ++ [vecCmp op p q], if nanIn then { acc.2.2 with nanIn := acc.2.2.nanIn + 1 } else acc.2.2)
      else
        let v := if op = 0xC then (if nth xw j = 0 then q else p) else vecFloat op p q y
        (match acc.1 with
          | [] => [[v]]
          | l :: ls => if j = 0 then [v] :: l :: ls else (l ++ [v]) :: ls,
         acc.2.1, if op = 0xF ∧ t.outFmt ≠ 0 then acc.2.2 else acc.2.2.computed nanIn v)) acc) ([], [], default)

/-- The results of a VEC step that gives 32-bit words, and what they count. -/
def vecWords (t : Step) (a b x : Rows) : List Word × Arith :=
  if vecIsCmp (t.param % 256) then (vecValues t a b x).2 else (vecInts t a b x, default)

/-- The body of VEC (R58, R79).  DESIGN CHOICE, log entry 102: a ternary operand of convert is packed in runs of 256. -/
def vecBody (e : Nat) (s : State) (t : Step) (r : StepRun) (_ : Task) : Got Arith :=
  let it := r.iter
  let u := vecUses (t.param % 256)
  (s.vecOperand e u.1 t t.opa it).bind fun s a =>
  (s.vecOperand e u.2.1 t t.opb it).bind fun s b =>
  (s.vecOperand e u.2.2 t t.aux it).bind fun s x =>
    if vecGivesWords t then
      (s.putWords e it t.out (vecWords t a b x).1).bind fun s _ => .ok s (vecWords t a b x).2
    else s.putRows e it t (vecValues t a b x).2.2 (vecValues t a b x).1.reverse

/-- VEC (R79). -/
def execVec (e : Eng) (i : SpanIx) (s : State) : Res State := .next (s.runStep e.val i.val 0x30 (vecBody e.val))

/-- The results of SFU and what they count (R57, R59). -/
def sfuRows (t : Step) (x : Rows) : List (List FV) × Arith :=
  (List.range t.m).foldl (fun (acc : List (List FV) × Arith) m =>
    let row := (x.vals m).foldl (fun (c : List FV × Arith) v =>
      let y := of32 (sfuValue (t.param % 8) (to32 v))
      (c.1 ++ [y], c.2.computed v.isNan y)) ([], acc.2)
    (acc.1 ++ [row.1], row.2)) ([], default)

/-- The body of SFU (R59). -/
def sfuBody (e : Nat) (s : State) (t : Step) (r : StepRun) (_ : Task) : Got Arith :=
  let it := r.iter
  (s.rowsAt e (t.opb.at it) t.opb.fmt t.grp 256 t.m t.k).bind fun s x =>
    let z := sfuRows t x
    s.putRows e it t z.2 z.1

/-- SFU (R59). -/
def execSfu (e : Eng) (i : SpanIx) (s : State) : Res State := .next (s.runStep e.val i.val 0x31 (sfuBody e.val))

/-- The results of a REDUCE step for one row (R61): one for each group that holds an element. -/
def reduceRow (op g : Nat) (row : List Word) : List Word :=
  let n := if g = 0 then 10 else g + 4
  (chunks (2 ^ n) row).map (treeReduce (reduceFn op) (reduceNeutral op) n)

/-- The results of REDUCE and what they count (R57, R61). -/
def reduceRows (t : Step) (x : Rows) : List (List FV) × Arith :=
  let g := bits t.param 2 3
  (List.range t.m).foldl (fun (acc : List (List FV) × Arith) m =>
    let row := (x.vals m).map to32
    let out := reduceRow (bits t.param 0 2) g row
    let groups := chunks (2 ^ (if g = 0 then 10 else g + 4)) row
    let ar := (List.zip out groups).foldl (fun (a : Arith) p =>
      a.computed (p.2.any (fun w => (of32 w).isNan)) (of32 p.1)) acc.2
    (acc.1 ++ [out.map of32], ar)) ([], default)

/-- The body of REDUCE (R61). -/
def reduceBody (e : Nat) (s : State) (t : Step) (r : StepRun) (_ : Task) : Got Arith :=
  let it := r.iter
  (s.rowsAt e (t.opb.at it) t.opb.fmt t.grp 256 t.m t.k).bind fun s x =>
    let z := reduceRows t x
    s.putRows e it t z.2 z.1

/-- REDUCE (R61). -/
def execReduce (e : Eng) (i : SpanIx) (s : State) : Res State := .next (s.runStep e.val i.val 0x32 (reduceBody e.val))

/-- The results of a requantising TRANSPOSE (R60): the values of the operand's lines, column by column. -/
def transposeRows (t : Step) (x : Rows) (lines : List Line) : List (List FV) :=
  let rows := lines.map (fun l => (List.zip l.sc l.el).map (fun p => if x.c = 0 then p.2 else of32 (to32 (p.1.mul p.2))))
  (List.range t.k).map (fun c => rows.map (fun l => (l[c]?).getD fvZero))

/-- The bytes of an exact TRANSPOSE (R60): the elements of the operand, column by column. -/
def transposeBytes (t : Step) (x : Rows) : List Byte :=
  let rows := (List.range t.m).map (fun m => (List.range t.k).map (elemCode t.opb.fmt (x.row m).1))
  (List.range t.k).flatMap (fun c => packBytes (elemBits t.opb.fmt) (rows.map (fun l => nth l c)))

/-- The body of TRANSPOSE (R60): an exact move of the elements, or, with requantise, a decoding to FP32 (CB2 by its codebook), a
transpose and an encoding along the new K.  DESIGN CHOICE, log entry 102: a ternary operand is packed in runs of 256. -/
def transposeBody (e : Nat) (s : State) (t : Step) (r : StepRun) (_ : Task) : Got Arith :=
  let it := r.iter
  (s.rowsAt e (t.opb.at it) t.opb.fmt t.grp 256 t.m t.k).bind fun s x =>
    if bitAt t.param 0 then
      (s.columns e x t.m).bind fun s lines => s.putRows e it t default (transposeRows t x lines)
    else
      (s.result e it t.out 0 (transposeBytes t x) ((transposeBytes t x).map (fun _ => false))).bind fun s _ => .ok s default

/-- TRANSPOSE (R60). -/
def execTranspose (e : Eng) (i : SpanIx) (s : State) : Res State :=
  .next (s.runStep e.val i.val 0x33 (transposeBody e.val))

/-! ### Reranking -/

/-- The score of a candidate (R86): exact integer sums rounded once for plain INT8 under dot and negative squared L2, else
a value that the spec does not fix.  DESIGN CHOICE, log entry 17. -/
def rerankValue (f fmt : Nat) (q v : List FV) : Word :=
  if fmt = 0x10 ∧ f ≠ 1 then
    to32 ((List.zip q v).foldl (fun s p =>
      if f = 0 then s.add (p.1.mul p.2)
      else let d := p.1.add p.2.negate; s.add (d.mul d).negate) fvZero)
  else Config.rerankScore f (q.map to32) (v.map to32)

/-- A result record (R284): identifier, score, match count. -/
def resultRecord (rid : Nat) (score : Word) (mat : Nat) : List Byte :=
  toBytes 8 rid ++ toBytes 4 score.toNat ++ toBytes 4 (mat % 256)

/-- The records of RERANK_SCORE and what they count (R57, R86): candidates `x`, query `q`, the candidates' records. -/
def rerankRecords (t : Step) (x q : Rows) (recs : List Byte) : List Byte × Arith :=
  ((chunks 16 recs).zipIdx).foldl (fun (acc : List Byte × Arith) c =>
    let sc := rerankValue (t.param % 4) t.opa.fmt (q.vals 0) (x.vals c.2)
    (acc.1 ++ resultRecord (leNat c.1 0 8) sc (leNat c.1 12 1),
     acc.2.computed ((q.vals 0).any FV.isNan || (x.vals c.2).any FV.isNan) (of32 sc))) ([], default)

/-- The body of RERANK_SCORE (R86).  DESIGN CHOICE, log entry 69. -/
def rerankBody (e : Nat) (s : State) (t : Step) (r : StepRun) (_ : Task) : Got Arith :=
  let it := r.iter
  (s.rowsAt e (t.opa.at it) t.opa.fmt t.grp 256 t.m t.k).bind fun s x =>
  (s.rowsAt e (t.opb.at it) t.opb.fmt t.grp 256 1 t.k).bind fun s q =>
  (s.operand e (t.aux.at it) (16 * t.m)).bind fun s recs =>
    let z := rerankRecords t x q recs
    (s.result e it t.out 0 z.1 (z.1.map (fun _ => false))).bind fun s _ => .ok s z.2

/-- RERANK_SCORE (R86). -/
def execRerankScore (e : Eng) (i : SpanIx) (s : State) : Res State :=
  .next (s.runStep e.val i.val 0x38 (rerankBody e.val))

/-- The records of TOPK (R86); `free` as for MOE_GATE. -/
def topkRecords (free : Nat) (t : Step) (recs : List Byte) : List Byte :=
  let l := (chunks 16 recs).map (fun c => (wordOf (leNat c 8 4), leNat c 0 8))
  let key (x : Word) : Word := Config.freeWord (free + x.toNat)
  (topOf key (t.param % 2048) l).flatMap (fun x =>
    let c := ((chunks 16 recs).find? (fun c => wordOf (leNat c 8 4) = x.1 ∧ leNat c 0 8 = x.2)).getD []
    resultRecord x.2 x.1 (leNat c 12 1))

/-- The body of TOPK (R86): the k best records, equal scores by lower identifier.  DESIGN CHOICE, log entry 69. -/
def topkBody (e : Nat) (s : State) (t : Step) (r : StepRun) (_ : Task) : Got Arith :=
  let it := r.iter
  (s.operand e (t.opb.at it) (16 * t.m)).bind fun s recs =>
    let out := topkRecords s.free t recs
    (s.tick.result e it t.out 0 out (out.map (fun _ => false))).bind fun s _ => .ok s default

/-- TOPK (R86). -/
def execTopk (e : Eng) (i : SpanIx) (s : State) : Res State := .next (s.runStep e.val i.val 0x39 (topkBody e.val))

/-- The body of SEND (R78, R84): bytes pass unchanged, poison with them; into an accumulating buffer (ACC) they are FP32
sums. -/
def sendBody (e : Nat) (s : State) (t : Step) (r : StepRun) (_ : Task) : Got Arith :=
  let it := r.iter
  let n := t.param % 2 ^ 32
  if t.acc then
    (s.wordsAt e (t.opb.at it) (n / 4)).bind fun s x =>
    (s.wordsAt e (t.out.at it) (n / 4)).bind fun s y =>
      (s.putWords e it t.out ((List.zip y x).map (fun p => f32add p.1 p.2))).bind fun s _ => .ok s default
  else
    (s.carried e (t.opb.at it) n).bind fun s d => (s.result e it t.out 0 d.bytes d.pois).bind fun s _ => .ok s default

/-- SEND (R78). -/
def execSend (e : Eng) (i : SpanIx) (s : State) : Res State := .next (s.runStep e.val i.val 0x40 (sendBody e.val))

end Sys2Proof.Machine
end

