-- ==== Sys2Proof/Machine/EngineControl.lean ====
section
/-! DEFINITION. The engine's control (file 03_engine_execution.md, R66 to R77; R46): starting and ending steps and tasks,
gangs, synchronisation signals and codebook writes. -/

namespace Sys2Proof.Machine

/-! ### Ranges of operands (R75) -/

/-- The bytes of `rows` rows of `k` elements at `a`, scales included (R71, R526). -/
def rowsBytes (a c g run rows k : Nat) : Nat :=
  let ne := rows * rowBytes c g run k
  let ns := rows * rowScales c g k
  if ns = 0 then ne else alignUp (a + ne) 64 - a + ns

/-- The bytes of the operands of a step whose OUT begins at `o`: OPA, OPB, OUT, AUX (R70, R78), for the overlap check. -/
def Step.operandBytes (t : Step) (it o : Nat) : Nat × Nat × Nat × Nat :=
  let g := t.grp
  let rows (r : Ref) (m k : Nat) : Nat := rowsBytes (r.at it) r.fmt g 256 m k
  let outRows (m k : Nat) : Nat := rowsBytes o t.outFmt g 256 m k
  match t.opc with
  | 0x01 => (rowsBytes (t.opa.at it) t.opa.fmt g (ternaryRun t.opb.fmt) t.n t.k, rows t.opb t.m t.k, outRows t.m t.n,
      if t.aux = refOf 0 then 0 else 4 * t.n)
  | 0x10 => let h := attnShape t
      (0, rows t.opb t.m (h.hq * h.hd), outRows t.m (h.hq * h.hd), 64 * (1 + h.pages) * 8)
  | 0x18 => let ne := bits t.param 0 9
      (rowsBytes (t.opa.at it) t.opa.fmt g (ternaryRun t.opb.fmt) ne t.k, rows t.opb t.m t.k,
        8 * t.m * (bits t.param 9 3 + 1), 0)
  | 0x19 => (0, rows t.opb t.m t.k, rowsBytes o t.opb.fmt g 256 t.m t.k, 8 * t.m * t.n)
  | 0x1A => (0, rows t.opb (t.m * t.n) t.k, outRows t.m t.k, 8 * t.m * t.n)
  | 0x20 => (rows t.opa 1 t.k, rows t.opb t.m t.k, outRows t.m t.k, 0)
  | 0x21 => (rows t.opa 1 t.k, rows t.opb t.m t.k, outRows t.m t.k, rows t.aux 1 t.k)
  | 0x28 => (rows t.opa t.n t.k, 4 * t.m, outRows t.m t.k, 0)
  | 0x30 => let u := vecUses (t.param % 256)
      (if u.1 then rows t.opa t.m t.k else 0, rows t.opb t.m t.k, outRows t.m t.k, if u.2.2 then rows t.aux t.m t.k else 0)
  | 0x31 => (0, rows t.opb t.m t.k, outRows t.m t.k, 0)
  | 0x32 => (0, rows t.opb t.m t.k, outRows t.m (ceilDiv t.k (2 ^ (if bits t.param 2 3 = 0 then 10 else bits t.param 2 3 + 4))), 0)
  | 0x33 => (0, rows t.opb t.m t.k, if bitAt t.param 0 then outRows t.k t.m else rowsBytes o t.opb.fmt g 256 t.k t.m, 0)
  | 0x38 => (rows t.opa t.m t.k, rows t.opb 1 t.k, 16 * t.m, 16 * t.m)
  | 0x39 => (0, 16 * t.m, 16 * (t.param % 2048), 0)
  | 0x40 => (0, t.param % 2 ^ 32, t.param % 2 ^ 32, 0)
  | 0x41 => (0, rows t.opb t.m t.n, 0, 0)
  | 0x42 => (0, 0, 4 * t.m, 0)
  | _ => (0, 0, 0, 0)

/-- The ranges of an operand that lie in the engine's own local store: first address and length. -/
def ownRange (e : Nat) (r : Ref) (it n : Nat) : List (Nat × Nat) :=
  let a := r.at it
  if r.mode ≤ 1 ∧ n ≠ 0 ∧ storeAddr e 0 < a + n ∧ a < storeAddr (e + 1) 0 then [(a, n)] else []

/-- The ranges of the results of a step that lie in the engine's own local store, written there directly or by a route (R71). -/
def State.outRange (s : State) (e it : Nat) (t : Step) (n : Nat) : List (Nat × Nat) :=
  if t.out.mode ≠ 2 then ownRange e t.out it n
  else
    let r := s.image.routes.at (t.out.addr % 4096)
    if r.get 0 12 4 ≤ 1 ∧ r.engines.contains e ∧ n ≠ 0 then [(storeAddr e (s.outAt it t.out), n)] else []

/-- The ranges in the engine's own store of all operands of a step, and of its OUT. -/
def State.ownRanges (s : State) (t : Step) (e it : Nat) : List (Nat × Nat) × List (Nat × Nat) :=
  let b := t.operandBytes it (s.outAt it t.out)
  let out := s.outRange e it t b.2.2.1
  (ownRange e t.opa it b.1 ++ ownRange e t.opb it b.2.1 ++ out ++ ownRange e t.aux it b.2.2.2, out)

/-- Whether two ranges share a byte. -/
def rangesMeet (x y : Nat × Nat) : Bool := x.1 < y.1 + y.2 && y.1 < x.1 + x.2

/-- Whether the operands of a step meet the OUT of a step in flight, in the engine's own local store (R75). -/
def State.overlaps (s : State) (e it : Nat) (t : Step) : Bool :=
  (s.engs.at e).steps.any (fun r => match (s.fetchStep e r.ix).2 with
    | none => false
    | some q => (s.ownRanges q e r.iter).2.any (fun y => (s.ownRanges t e it).1.any (fun x => rangesMeet x y)))

/-! ### Loops and starting a step -/

/-- The innermost loop that contains step `i` (R74). -/
def innermost (l : List LoopRec) (i : Nat) : Option LoopRec :=
  (l.filter (fun x => x.target ≤ i && i ≤ x.close)).foldl (fun (b : Option LoopRec) x => match b with
    | none => some x
    | some y => if x.close - x.target < y.close - y.target then some x else some y) none

/-- The key of the releases that an engine has used of point `p` of span `j`. -/
def seenKey (j p : Nat) : Nat := j * 256 + p

/-- What the synchronisation point that a step awaits allows (R76): to start, to wait, or to fault. -/
inductive SyncSt where
  | go | wait | fault
  deriving DecidableEq, Repr

/-- The state of the point that a step of engine `e` awaits (R76). -/
def State.syncState (s : State) (e p : Nat) : SyncSt :=
  if p = 0 then .go
  else match s.pointSpan e p with
    | none => .go
    | some j =>
      if (s.spans.at j).aborted.contains p then .fault
      else if (s.engs.at e).seen.at (seenKey j p) < (s.spans.at j).rel.at p then .go else .wait

/-- The state with a release of the point used by engine `e`.  DEDUCED, log entry 64. -/
def State.useSync (s : State) (e p : Nat) : State :=
  match s.pointSpan e p with
  | some j => if p = 0 then s else s.engUpd e (fun u =>
      { u with seen := u.seen.put (seenKey j p) (u.seen.at (seenKey j p) + 1) })
  | none => s

/-- Puts step `i` of engine `e` in flight (R74, R75, R80): its iteration, the task's slot list at its first step, the
program's next index, and its gangs.  DEDUCED, log entries 64 and 65. -/
def State.launch (s : State) (e i : Nat) (t : Step) (task : Task) : State :=
  let u := s.engs.at e
  let it := (innermost u.loops i).map (fun l => u.iters.at l.close) |>.getD 0
  let loop := u.loops.find? (fun l => l.close = i)
  let nx : Nat × Tab Nat := match loop with
    | some l => if u.iters.at i < l.count then (l.target, u.iters.put i (u.iters.at i + 1)) else (i + 1, u.iters.put i 0)
    | none => (i + 1, u.iters)
  let firstStep := decide (task.slots = none)
  let slots := if firstStep then (if task.decode then s.activeSlots else []) else task.slots.getD []
  let task1 : Task := { task with
    pc := nx.1, slots := some slots, acts := if firstStep then s.gen.acts else task.acts
    used := if t.slotMap = 2 && !task.used.contains t.slot then t.slot :: task.used else task.used }
  let s1 := s.engUpd e (fun u => { u with
    task := some task1, iters := nx.2, steps := u.steps ++ [⟨i, it, t.items, 0, 0, u.starts, [], 0⟩], starts := u.starts + 1 })
  let s2 := if firstStep && task.decode then
      { s1 with gen := { s1.gen with gramOn := s1.bget .GEN_CTL F.GEN_CTL_GRAM_EN } } else s1
  (s2.useSync e t.syncIn).rebind e

/-- Whether END is among the steps in flight of engine `e`: no step follows it (R75). -/
def State.ending (s : State) (e : Nat) : Bool := (s.engs.at e).steps.any (fun r => match (s.fetchStep e r.ix).2 with
  | some t => decide (t.opc = 0x5F)
  | none => false)

/-- STEP_START (R75, R76): the next step of the task starts when its predecessor has bound its last work item, or, under
WAIT or an overlap, when every earlier step has completed; a point released with abort faults it with 0x08. -/
def execStepStart (e : Eng) (s : State) : Res State :=
  let u := s.engs.at e.val
  match u.task with
  | none => .next s
  | some task =>
    let i := task.pc
    match s.fetchStep e.val i with
    | (s1, none) => .next (s1.stepFault e.val i 0x01 none 0)
    | (s1, some t) =>
      let it := (innermost u.loops i).map (fun l => u.iters.at l.close) |>.getD 0
      let prevBound := match u.steps.getLast? with
        | some r => decide (r.bound = r.items)
        | none => true
      let alone := t.wait || s.overlaps e.val it t
      if s.ending e.val || !prevBound || 4 ≤ u.steps.length || (alone && !u.steps.isEmpty) then .next s
      else match s1.syncState e.val t.syncIn with
        | .wait => .next s
        | .fault => .next (s1.stepFault e.val i 0x08 none 0)
        | .go => .next (s1.launch e.val i t task)

/-! ### Ending a task -/

/-- Starts the next doorbell in the queue of engine `e`, when there is one (R132). -/
def State.nextDoorbell (s : State) (e : Nat) : State :=
  match (s.engs.at e).dbq with
  | [] => s
  | d :: ds => (s.engUpd e (fun u => { u with dbq := ds })).ringEngine e (d.2 / 16) d.1 (d.2 % 16)

/-- The end of the task of engine `e` (R77, R132, R133): the span's owner has an event, and the next doorbell starts. -/
def State.taskEnd (s : State) (e : Nat) : State :=
  let s1 := s.engUpd e (fun u => { u with task := none, iters := [] })
  let s2 := match s1.ownEntry (.engine e) with
    | some j => (s1.spanEvent j 1).taskReported j
    | none => s1
  s2.nextDoorbell e

/-- END (R75, R77): the task ends once END is the only step in flight.  DEDUCED, log entry 64. -/
def execEndTask (e : Eng) (i : SpanIx) (s : State) : Res State :=
  let u := s.engs.at e.val
  if u.steps.map (·.ix) = [i.val] then
    let s1 := s.runStep e.val i.val 0x5F nopBody
    if (s1.engs.at e.val).steps = [] ∧ (s1.engs.at e.val).task.isSome then .next (s1.taskEnd e.val) else .next s1
  else .next s

/-! ### Gangs -/

/-- GANG_DATA_RETURN (R67, R68): all data of the next use of a gang in WAIT_MEM has returned; to a gang that still issues reads, a read
returns. -/
def execGangDataReturn (e : Eng) (g : Fin 128) (s : State) : Res State :=
  let x := (s.engs.at e.val).gangs.at g.val
  if x.st = .waitMem then
    .next (s.engUpd e.val (fun u => { u with gangs := u.gangs.put g.val { x with st := .ready, reads := 0 } }))
  else if x.st = .issuing ∧ x.reads ≠ 0 then
    .next (s.engUpd e.val (fun u => { u with gangs := u.gangs.put g.val { x with reads := x.reads - 1 } }))
  else .next s

/-- Whether a step feeds the array; the others feed the vector or special-function unit (R68). -/
def arrayStep (opc : Nat) : Bool := opc = 0x01 || opc = 0x10 || opc = 0x18

/-- The READY gang that the engine selects for the array (or for the vector unit): of the oldest step in flight that has
one, the next after `last` in turn (R68). -/
def State.selectGang (s : State) (e : Nat) (array : Bool) (last : Nat) : Option Nat :=
  let u := s.engs.at e
  let steps := u.steps.filter (fun r => match (s.fetchStep e r.ix).2 with
    | some t => arrayStep t.opc = array
    | none => false)
  steps.findSome? (fun r =>
    let l := (u.gangsOf r.num).filter (fun g => (u.gangs.at g).st = .ready)
    match l.find? (fun g => last < g) with
    | some g => some g
    | none => l.head?)

/-- Puts a selected gang in ISSUING: it feeds its rows to its unit (R67). -/
def EngUnit.feed (u : EngUnit) (g : Nat) : EngUnit := { u with gangs := u.gangs.upd g (fun x => { x with st := .issuing }) }

/-- The reads outstanding of an engine. -/
def EngUnit.outstanding (u : EngUnit) : Nat := (u.gangs.map (fun g => g.2.reads)).foldl (· + ·) 0

/-- One core cycle of an engine (R67, R68): bound gangs issue; one READY gang is selected for the array and one for the
vector unit; up to 8 reads are issued, 16 outstanding a gang and 2,048 the engine; gangs whose item completes are free, and their step
counts it. -/
def execEngineIssueCycle (e : Eng) (reads : List (Fin 128 × Fin 17)) (items : List (Fin 128)) (s : State) : Res State :=
  let u0 := s.engs.at e.val
  let a := s.selectGang e.val true u0.rrArray
  let v := s.selectGang e.val false u0.rrVec
  let u1 := { u0 with gangs := u0.gangs.map (fun g => (g.1, if g.2.st = .bound then { g.2 with st := .issuing } else g.2)) }
  let u2 := match a with
    | some g => { (u1.feed g) with rrArray := g }
    | none => u1
  let u3 := match v with
    | some g => { (u2.feed g) with rrVec := g }
    | none => u2
  let r := reads.foldl (fun (acc : EngUnit × Nat) x =>
    let g := x.1.val
    let q := acc.1.gangs.at g
    if q.st = .issuing then
      let n := min (min x.2.val (16 - q.reads)) (min acc.2 (2048 - acc.1.outstanding))
      ({ acc.1 with gangs := acc.1.gangs.put g { q with
          reads := q.reads + n, st := if n = x.2.val ∧ n ≠ 0 then .waitMem else .issuing } }, acc.2 - n)
    else acc) (u3, 8)
  let u4 := items.foldl (fun (u : EngUnit) g =>
    if (u.gangs.at g.val).st = .issuing then
      ({ u with gangs := u.gangs.put g.val default }).runUpd (u.gangs.at g.val).run (fun q => { q with completed := q.completed + 1 })
    else u) r.1
  .next ((s.engUpd e.val (fun _ => u4)).rebind e.val)

/-! ### Synchronisation -/

/-- SYNC_SIGNAL (R76): a member's signal is counted for the current iteration of the point. -/
def execSyncSignal (sp : SpanIx) (p : Fin 256) (who : Signaller) (s : State) : Res State :=
  match who with
  | .engine e => if bitAt (s.syncMask sp.val p.val) e.val then .next (s.syncSignal sp.val p.val (2 ^ e.val) 0) else .next s
  | .device d => if bitAt (s.syncDevs sp.val) d.val && (s.spans.at sp.val).syncs.any (fun x => x.1 = p.val) then
      .next (s.syncSignal sp.val p.val 0 (2 ^ d.val)) else .next s

/-! ### Codebooks -/

/-- Whether a step in flight of engine `e` decodes with codebook `cb` (R46, R60). -/
def State.decodesWith (s : State) (e cb : Nat) : Bool :=
  (s.engs.at e).steps.any (fun r => match (s.fetchStep e r.ix).2 with
    | some t => ((t.opc = 0x01 || t.opc = 0x18) && t.opa.fmt = 0xD + cb) || (t.opc = 0x33 && bitAt t.param 0 && t.opb.fmt = 0xD + cb)
    | none => false)

/-- Whether a write to codebook `cb` of engine `e` is held (R46): a running step decodes with it, or earlier writes to it are held. -/
def State.codebookHeld (s : State) (e cb : Nat) : Bool :=
  s.decodesWith e cb || (s.engs.at e).held.any (fun x => x.cb = cb)

/-- Performs a codebook write.  DEDUCED, log entry 71. -/
def State.codebookPut (s : State) (e : Nat) (h : HeldCb) : State :=
  let site := s.siteOf e
  (s.writeLocal (fun w => ⟨2, site, codebookKey site + h.cb * 524288 + w⟩) h.off h.data h.pois).settle

/-- CODEBOOK_WRITE (R46): held while a running step decodes with the codebook; a write beyond the codebook completes with an
error.  DEDUCED, log entry 71. -/
def execCodebookWrite (e : Eng) (cb : Fin 2) (off : Nat) (data : List Byte) (pois : List Bool) (s : State) : Res State :=
  let h : HeldCb := ⟨cb.val, off, data, pois⟩
  if 524288 < off + data.length then .next (s.reply .error)
  else if s.codebookHeld e.val cb.val then .next (s.engUpd e.val (fun u => { u with held := u.held ++ [h] }))
  else .next (s.codebookPut e.val h)

/-- HELD_CODEBOOK_WRITE (R46): the held writes to codebooks that no running step decodes with are performed in order.
DEDUCED, log entry 71. -/
def execHeldCodebookWrite (e : Eng) (s : State) : Res State :=
  let l := (s.engs.at e.val).held
  let s1 := s.engUpd e.val (fun u => { u with held := u.held.filter (fun h => s.decodesWith e.val h.cb) })
  .next ((l.filter (fun h => !s.decodesWith e.val h.cb)).foldl (fun s h => s.codebookPut e.val h) s1)

end Sys2Proof.Machine
end

