-- ==== Sys2Proof/Machine/Shake.lean ====
section
/-! DEFINITION. SHAKE256, the digest of every signed object (R134, R455).  PRESUMED, log entry 14: the function of FIPS 202, which the spec
names and does not define. -/

namespace Sys2Proof.Machine

/-- A lane of the permutation's state of 25. -/
abbrev Lane := BitVec 64

/-- One plane of the permutation's state, five lanes side by side; the state is five planes. -/
abbrev Plane := List Lane

/-- Two planes added lane by lane. -/
def Plane.add (p q : Plane) : Plane := List.zipWith (· ^^^ ·) p q

/-- A register of eight bits fed back through x^8 + x^6 + x^5 + x^4 + 1, moved on by one bit.  PRESUMED, log entry 14. -/
def feedBack (r : Nat) : Nat := if 128 ≤ r then (2 * r) ^^^ 0x171 else 2 * r

/-- A round's constant, spelled by seven bits of the register: bit `j` of them is bit 2^j - 1 of the constant.  With it, the register for the
next round. -/
def roundConst : Nat → Nat → Nat × Nat → Nat × Nat
  | 0, _, rc => rc
  | n + 1, j, (r, c) => roundConst n (j + 1) (feedBack r, if r % 2 = 1 then c ||| 2 ^ (2 ^ j - 1) else c)

/-- Every plane with the parities of its neighbour columns added.  PRESUMED, log entry 14. -/
def mixColumns (s : List Plane) : List Plane :=
  let par := s.foldl Plane.add (List.replicate 5 0)
  let near := Plane.add par.rotateRight (par.rotateLeft.map (fun l => l.rotateLeft 1))
  s.map (Plane.add near)

/-- The walk over the lanes that turns each lane and lays it where the next one stood: from lane (`x`, `y`), `t` steps done, `turn` bits so
far; `a` are the lanes as they were, the list answered those as they become.  PRESUMED, log entry 14. -/
def walkLanes (a : List Lane) : Nat → Nat → Nat → Nat → Nat → List Lane → List Lane
  | 0, _, _, _, _, b => b
  | n + 1, t, x, y, turn, b =>
      let u := y
      let v := (2 * x + 3 * y) % 5
      walkLanes a n (t + 1) u v (turn + t) (b.set (u + 5 * v) ((nth a (x + 5 * y)).rotateLeft ((turn + t) % 64)))

/-- Each lane with what its two right-hand neighbours let through. -/
def Plane.fold3 (p : Plane) : Plane := Plane.add p (List.zipWith (fun l m => ~~~l &&& m) (p.rotateLeft) (p.rotateLeft 2))

/-- A constant added to the first lane of all. -/
def addFirst (c : Nat) : List Lane → List Lane
  | [] => []
  | l :: r => (l ^^^ BitVec.ofNat 64 c) :: r

/-- `n` rounds, `r` the register that spells their constants.  PRESUMED, log entry 14. -/
def rounds : Nat → Nat → List Lane → List Lane
  | 0, _, a => a
  | n + 1, r, a =>
      let m := (mixColumns (chunks 5 a)).flatten
      let q := roundConst 7 0 (r, 0)
      rounds n q.1 (addFirst q.2 ((chunks 5 (walkLanes m 24 1 1 0 0 m)).flatMap Plane.fold3))

/-- The permutation, 24 rounds.  PRESUMED, log entry 14. -/
def keccak (a : List Lane) : List Lane := rounds 24 1 a

/-- The state with a block of 136 bytes absorbed.  PRESUMED, log entry 14. -/
def absorb (a : List Lane) (blk : List Byte) : List Lane :=
  keccak ((List.range 25).map (fun i => nth a i ^^^ BitVec.ofNat 64 (ofBytes ((blk.drop (8 * i)).take 8))))

/-- The first `n` bytes (at most 136) of SHAKE256 output over a message.  PRESUMED, log entry 14. -/
def shake256 (n : Nat) (m : List Byte) : List Byte :=
  let z := 136 - (m.length + 1) % 136
  let pad := if z = 136 then [byteOf 0x9F] else byteOf 0x1F :: List.replicate (z - 1) 0 ++ [byteOf 0x80]
  let a := (chunks 136 (m ++ pad)).foldl absorb (List.replicate 25 0)
  (a.flatMap (fun l => toBytes 8 l.toNat)).take n

end Sys2Proof.Machine
end

