-- ==== Sys2Proof/Machine/Verify.lean ====
section
/-! DEFINITION. The verifier (file 18_security_licences.md, R455 to R460): key slots, signature blocks, the check of a signed
object, licences, and the licence in force. -/

namespace Sys2Proof.Machine

/-- Bytes `o` to `o + n - 1` of a list. -/
def sub (l : List Byte) (o n : Nat) : List Byte := (l.drop o).take n

/-- The number in bytes `o` to `o + n - 1`, the least significant first (R7). -/
def num (l : List Byte) (o n : Nat) : Nat := ofBytes (sub l o n)

/-- Whether bytes `o` to `o + n - 1` are all 0. -/
def zeros (l : List Byte) (o n : Nat) : Bool := (sub l o n).all (fun b => b = 0)

/-! ### Key slots (R455) -/

/-- The key slot `k`. -/
def State.key (s : State) (k : Nat) : KeySlot := (s.fuses.keys[k]?).getD default

/-- Whether a slot has a digest fuse blown. -/
def KeySlot.blown (k : KeySlot) : Bool := k.digest.any (fun b => b ≠ 0)
@[inherit_doc KeySlot.blown] def KeySlot.live (k : KeySlot) : Bool := k.valid && !k.revoked
/-- SPOILED: not VALID, with a digest fuse blown. -/
def KeySlot.spoiled (k : KeySlot) : Bool := !k.valid && k.blown
/-- EMPTY: no fuse blown. -/
def KeySlot.empty (k : KeySlot) : Bool := !k.valid && !k.revoked && !k.blown

/-- The state with key slot `k` changed. -/
def State.keyUpd (s : State) (k : Nat) (f : KeySlot → KeySlot) : State :=
  { s with fuses := { s.fuses with keys := setNth s.fuses.keys k (f (s.key k)) } }

/-! ### Signed objects -/

/-- Whether a signature block of 3,088 bytes is well formed (R135). -/
def sigBlockOk (b : List Byte) : Bool :=
  let n := num b 0 2
  decide (1 ≤ n ∧ n ≤ 1280) && decide (num b 2 2 = 1793) && zeros b 4 4 && zeros b 0x709 7 && zeros b (0x710 + n) (1280 - n)
    && decide (b.length = 3088)

/-- The first failure of the signature check of R456 over `msg` under slot `k`: 1 the slot is not LIVE, 2 the carried key's
digest differs, 3 the signature does not verify; 0 when it passes. -/
def State.sigCheck (s : State) (k : Nat) (msg blk : List Byte) : Nat :=
  let key := sub blk 8 1793
  if !(s.key k).live then 1
  else if shake256 32 key ≠ (s.key k).digest then 2
  else if !Config.falconOk key msg (sub blk 0x710 (num blk 0 2)) then 3
  else 0

/-- Sets a bit of SEC_EVT and raises its source (R467): 0 for source 4, to 3 for source 7. -/
def State.secEvt (s : State) (i : Nat) : State :=
  (s.rset .SEC_EVT (s.rget .SEC_EVT ||| wordOf (2 ^ i))).raise (4 + i)

/-- Records a verification failure (R456, SEC_VFY): object kind, reason; source 4. -/
def State.vfyFail (s : State) (kind reason : Nat) : State :=
  (((s.fset .SEC_VFY F.SEC_VFY_KIND kind).fset .SEC_VFY F.SEC_VFY_REASON reason).cnt .SEC_VFY F.SEC_VFY_COUNT 1).secEvt 0

/-! ### Licences (R458 to R460) -/

/-- The tier of a licence body (R458): 0 Muslin, 1 Twill, 2 Damask. -/
def licTier (l : List Byte) : Nat := bits (num l 6 2) 0 2
/-- The slot that verifies a licence. -/
def licSlot (l : List Byte) : Nat := bits (num l 6 2) 2 2
/-- The licence number. -/
def licNumber (l : List Byte) : Nat := num l 0x10 4

/-- Whether a licence of 3,152 bytes is well formed (R459). -/
def licOk (l : List Byte) : Bool :=
  decide (l.length = 3152) && decide (num l 0 4 = 0x4E43494C) && decide (num l 4 2 = 0x0100) && decide (licTier l ≠ 3) &&
    decide (licSlot l ≤ 1) && decide (num l 6 2 / 16 = 0) && decide (num l 8 8 ≠ 0) && zeros l 0x14 44 &&
    sigBlockOk (sub l 0x40 3088)

/-- The first failure of a licence check (R459), as SEC_VFY.REASON: 5 malformed, 1 to 3 of R456, 6 the serial; 0 when it
passes. -/
def State.licCheck (s : State) (l : List Byte) : Nat :=
  if !licOk l then 5
  else
    let r := s.sigCheck (licSlot l) (sub l 0 64) (sub l 0x40 3088)
    if r ≠ 0 then r else if num l 8 8 ≠ s.fuses.serial then 6 else 0

/-- The tier in force and the boot tier (SEC_LIC). -/
def State.tier (s : State) : Nat := s.fget .SEC_LIC F.SEC_LIC_TIER
@[inherit_doc State.tier] def State.bootTier (s : State) : Nat := s.fget .SEC_LIC F.SEC_LIC_BOOT_TIER

/-- Puts licence body `l` (none for Muslin without a licence) in force from source `src` (R460): a change of tier raises
source 7, and GRAM_EN, which only Damask sets (R99), falls below it.  DEDUCED, log entry 114. -/
def State.licForce (s : State) (l : Option (List Byte)) (src : Nat) : State :=
  let t := (l.map licTier).getD 0
  let old := s.tier
  let s0 := if t = 2 then s else s.fset .GEN_CTL F.GEN_CTL_GRAM_EN 0
  let s1 := (({ s0 with sec := { s0.sec with lic := l } }.fset .SEC_LIC F.SEC_LIC_TIER t).fset .SEC_LIC F.SEC_LIC_LIC_SRC
    (if l.isSome then src else 0)).rset .SEC_LIC_NUM (wordOf ((l.map licNumber).getD 0))
  if t = old then s1 else s1.secEvt 3

/-- Puts the boot licence in force again (R460). -/
def State.licBoot (s : State) : State := s.licForce s.sec.bootLic 1

end Sys2Proof.Machine
end

