-- ==== Sys2Proof/Machine/Image.lean ====
section
/-! DEFINITION. The Omras image, byte for byte (file 05_spans_and_images.md, R134 to R144): its header, its records, and the
structural rules that concern one record alone. -/

namespace Sys2Proof.Machine

/-! ### Header (R134, R135) -/

/-- The header's fields. -/
structure Hdr where
  kind : Nat
  minFeature : Nat
  total : Nat
  slot : Nat
  digest : List Byte
  partialLoad : Bool
  overcommit : Bool
  id : Nat
  deriving DecidableEq, Repr, Inhabited

/-- The header and signature block of an image, when both are well formed (header_ok of R145). -/
def parseHeader (l : List Byte) : Option Hdr :=
  let kind := num l 6 1
  let total := num l 8 4
  if num l 0 4 = 0x53524D4F ∧ 0x0100 ≤ num l 4 2 ∧ num l 4 2 ≤ 0x01FF ∧ (kind = 1 ∨ kind = 2) ∧ total % 8 = 0 ∧
      3184 ≤ total ∧ num l 0xC 4 < 4 ∧ num l 0x50 4 < 4 ∧ zeros l 0x58 8 ∧ sigBlockOk (sub l 0x60 3088) ∧
      ¬(kind = 1 ∧ bitAt (num l 0x50 1) 0) then
    some ⟨kind, num l 7 1, total, num l 0xC 4, sub l 0x10 64, bitAt (num l 0x50 1) 0, bitAt (num l 0x50 1) 1, num l 0x54 4⟩
  else none

/-- The first failure of an image's key, signature and digest (R456): 0 when all pass. -/
def State.imageCheck (s : State) (h : Hdr) (l : List Byte) : Nat :=
  let r := s.sigCheck h.slot (sub l 0 0x60) (sub l 0x60 3088)
  if r ≠ 0 then r else if shake256 64 (sub l 3184 (h.total - 3184)) ≠ h.digest then 4 else 0

/-! ### Records (R136) -/

/-- A record: its index in the image, its type, its path and its body. -/
structure ImgRec where
  ix : Nat
  typ : Nat
  path : List Byte
  body : List Byte
  deriving DecidableEq, Repr, Inhabited

/-- Whether a byte may stand in a path (R136): a–z, 0–9, underscore, dot. -/
def pathByte (b : Byte) : Bool :=
  let n := b.toNat
  (97 ≤ n && n ≤ 122) || (48 ≤ n && n ≤ 57) || n = 95 || n = 46

/-- The root's path. -/
def rootPath : List Byte := [115]

/-- The records of a body, from record `i` on; the second part is the index of the first record whose header, path or
padding is malformed, if there is one. -/
def splitRecords : (fuel : Nat) → (l : List Byte) → (i : Nat) → List ImgRec × Option Nat
  | 0, _, _ => ([], none)
  | f + 1, l, i =>
    if l = [] then ([], none)
    else
      let plen := num l 2 1
      let len := num l 4 4
      let at_ := alignUp (8 + plen) 8
      let path := sub l 8 plen
      if l.length < at_ + len ∨ plen = 0 ∨ num l 3 1 ≠ 0 ∨ ¬path.all pathByte ∨ ¬zeros l (8 + plen) (at_ - 8 - plen) then
        ([], some i)
      else
        let r := splitRecords f (l.drop (alignUp (at_ + len) 8)) (i + 1)
        (⟨i, num l 0 2, path, sub l at_ len⟩ :: r.1, r.2)

/-- Reads `n` entries of `size` bytes. -/
def entries (l : List Byte) (size n : Nat) : List (List Byte) := (List.range n).map (fun i => sub l (i * size) size)

/-- A record body that begins with a count and four bytes of 0, followed by entries of `size` bytes (R140, R141). -/
def counted (b : List Byte) (size : Nat) : Option (List (List Byte)) :=
  let n := num b 0 4
  if 8 ≤ b.length ∧ zeros b 4 4 ∧ b.length = 8 + n * size then some (entries (b.drop 8) size n) else none

/-! ### SPAN (R138) -/

/-- A SPAN record. -/
structure SpanRec where
  ix : Nat
  index : Nat
  parent : Nat
  group : Bool
  expert : Bool
  owner : Nat
  path : List Byte
  members : List Leaf
  remote : List (Nat × Leaf)
  syncs : List (Nat × Nat)
  devset : Nat
  deriving DecidableEq, Repr, Inhabited

/-- A leaf named by kind and number (R138). -/
def leafOf (kind id : Nat) : Option Leaf :=
  if kind = 1 then some (.engine id)
  else if kind = 2 ∧ id < 16 then some (.mover id)
  else if kind = 3 ∧ id < 16 then some (.re id)
  else if kind = 4 then some (.part id)
  else none

/-- A member entry on device `own` (R138): the device of a remote member, and the leaf. -/
def memberOf (own : Nat) (b : List Byte) : Option (Option Nat × Leaf) :=
  let v := num b 0 8
  let d := bits v 16 6
  if v / 2 ^ 23 ≠ 0 then none
  else (leafOf (bits v 0 8) (bits v 8 8)).map (fun l => (if bitAt v 22 && decide (d ≠ own) then some d else none, l))

/-- A SPAN record's body on device `own`; `boot` is whether the image is a boot image. -/
def parseSpan (own : Nat) (boot : Bool) (r : ImgRec) : Option SpanRec :=
  let b := r.body
  let nm := num b 6 2
  let ns := num b 8 2
  let root := decide (r.path = rootPath)
  let flags := num b 4 2
  let dev := num b 0xC 4
  let mem := (entries (b.drop 16) 8 nm).map (memberOf own)
  let syn := entries (b.drop (16 + 8 * nm)) 16 ns
  if b.length = 16 + 8 * nm + 16 * ns ∧ ns ≤ 255 ∧ flags < 64 ∧ num b 0xA 2 = 0 ∧ mem.all (·.isSome) ∧
      syn.all (fun e => decide (num e 0 1 ≠ 0) && zeros e 1 3) ∧
      root = decide (num b 0 2 = 0) ∧ root = decide (num b 2 2 = 0xFFFF) ∧
      dev < 16 ∧ bits dev 1 2 ≠ 3 ∧ (dev = 0 ∨ (root ∧ boot)) then
    let ms := mem.filterMap id
    some ⟨r.ix, num b 0 2, num b 2 2, bitAt flags 0, bitAt flags 1, bits flags 2 4, r.path,
      ms.filterMap (fun m => if m.1.isNone then some m.2 else none),
      ms.filterMap (fun m => m.1.map (·, m.2)),
      syn.map (fun e => (num e 0 1, num e 4 12)), dev⟩
  else none

/-! ### ROUTE, BUF, TICKET (R140, R141, R217) -/

/-- The engine numbers of a mask of 96 bits. -/
def maskEngines (m : Nat) : List Nat := (List.range 96).filter (fun e => bitAt m e)

/-- A route entry: its number and words, when its own fields are well formed (R140). -/
def parseRoute (e : List Byte) : Option (Nat × List Word) :=
  let w0 := num e 0 4
  let kind := bits w0 12 4
  let dest := num e 0x10 12
  let n := (maskEngines dest).length
  if kind ≤ 3 ∧ w0 / 2 ^ 29 = 0 ∧ num e 4 4 < 64 ∧ num e 0x1C 4 = 0 ∧ (kind = 0 → n = 1) ∧
      (kind = 1 ∨ kind = 3 → n ≠ 0) then
    some (bits w0 0 12, (entries e 4 8).map (fun w => wordOf (ofBytes w)))
  else none

/-- The alignment of a partition of a kind (R141). -/
def partAlign (kind : Nat) : Nat := if kind = 0 then 4096 else if kind = 3 then 2048 else 65536

/-- A partition entry: its number and settings, when its own fields are well formed (R141, R216). -/
def parsePart (e : List Byte) : Option (Nat × Part) :=
  let w0 := num e 0 4
  let kind := bits w0 8 4
  let use := bits w0 12 4
  let base := num e 8 8
  let len := num e 0x10 8
  if kind ≤ 3 ∧ use ≤ 6 ∧ w0 / 2 ^ 20 = 0 ∧ zeros e 4 4 ∧ base < 2 ^ 48 ∧ len < 2 ^ 48 ∧ base % partAlign kind = 0 ∧
      len % partAlign kind = 0 ∧ (use = 1 → bits w0 16 4 ≠ 0) then
    some (bits w0 0 8, ⟨true, kind, use, bits w0 16 4, base, len, 0⟩)
  else none

/-- The entries of a TICKET record, when well formed (R217). -/
def parseTicket (b : List Byte) : Option (List (List Byte)) :=
  let l := entries b 16 16
  if b.length = 256 ∧ zeros b 0 16 ∧ l.all (fun e => decide (num e 4 2 < 7) && zeros e 0xE 2) then some l else none

/-! ### SCHED (R142) -/

/-- A SCHED record. -/
structure SchedRec where
  ix : Nat
  span : Nat
  engine : Nat
  contexts : Nat
  first : Nat
  nsteps : Nat
  entries : List Nat
  data : List Byte
  deriving DecidableEq, Repr, Inhabited

/-- The steps of a SCHED record. -/
def SchedRec.steps (r : SchedRec) : List Step := (chunks 64 r.data).map stepOf

/-- A SCHED record's body (R142), for the span of index `sp`. -/
def parseSched (ix sp : Nat) (b : List Byte) : Option SchedRec :=
  let n := num b 2 2
  let first := num b 6 2
  let ents := (List.range 4).map (fun j => num b (8 + 2 * j) 2)
  if num b 1 1 = 0 ∧ 1 ≤ n ∧ n ≤ 4096 ∧ b.length = 16 + 64 * n ∧ first + n ≤ 4096 ∧
      ents.all (fun e => e = 0xFFFF || (first ≤ e && e < first + n)) then
    some ⟨ix, sp, num b 0 1, num b 4 2, first, n, ents, b.drop 16⟩
  else none

/-! ### Steps (R70 to R74, R78, R79) -/

/-- Formats that an operation converts to FP32 on input (R79): those of R38 and R43. -/
def fmtNum (c : Nat) : Bool := c ≤ 0xB
/-- Formats of R38. -/
def fmtFloat (c : Nat) : Bool := c ≤ 9
/-- Formats that a result may be converted to (R52 to R56).  DESIGN CHOICE, log entry 109: plain INT8 among them, under R54's row for INT8. -/
def fmtOut (c : Nat) : Bool := c ≤ 0xC || c = 0xF || c = 0x10

/-- Whether the array accepts weights of format `w` with activations of format `a` (R47). -/
def pairing (w a : Nat) : Bool :=
  let fp8 (c : Nat) : Bool := c = 3 || c = 4
  let mx86 (c : Nat) : Bool := 5 ≤ c && c ≤ 8
  let fp8mx (c : Nat) : Bool := fp8 c || mx86 c
  (fp8mx w && fp8mx a) ||
  ((w = 0xD || w = 0xE) && (fp8 a || a = 5 || a = 6)) ||
  (w = 9 && (fp8mx a || a = 9)) ||
  (w = 0xA && a = 0xA) ||
  (w = 0xB && (a = 0xA || a = 0xB)) ||
  (w = 0xC && (a = 0xA || fp8 a)) ||
  (w = 1 && a = 1) || (w = 2 && a = 2)

/-- How a step uses its four operands: the modes that OPA, OPB, OUT and AUX may take (none: not used), and whether AUX may be
left out (R71, R78). -/
structure Uses where
  opa : List Nat
  opb : List Nat
  out : List Nat
  aux : List Nat
  auxOpt : Bool

/-- The operands of an opcode with a PARAM in its ranges (R78, R79); none for an unknown opcode or a PARAM outside. -/
def stepUses (t : Step) : Option Uses :=
  let p := t.param
  match t.opc with
  | 0x00 => if p = 0 then some ⟨[], [], [], [], false⟩ else none
  | 0x50 => if p = 0 then some ⟨[], [], [], [], false⟩ else none
  | 0x5F => if p = 0 then some ⟨[], [], [], [], false⟩ else none
  | 0x01 => if p = 0 then some ⟨[0], [0], [0, 2], [0], true⟩ else none
  | 0x10 =>
    let h := attnShape t
    if p / 2 ^ 48 = 0 ∧ bits p 28 4 = 0 ∧ h.hkv ≠ 0 ∧ h.hd ≠ 0 ∧ h.hq ≠ 0 ∧ h.hq % h.hkv = 0 ∧ h.pages ≤ 16384 ∧
        2 * h.hkv * h.hd * h.eb * (65536 / (2 * h.hkv * h.hd * h.eb)) = 65536 ∧
        ((List.range 17).any (fun i => h.hkv * h.hd * h.eb * 2 = 2 ^ i)) then some ⟨[1], [0], [1], [0], false⟩ else none
  | 0x18 => if p < 2 ^ 14 ∧ 1 ≤ bits p 0 9 ∧ bits p 0 9 ≤ 256 ∧ bits p 9 3 + 1 ≤ bits p 0 9 then
      some ⟨[0], [0], [0, 2], [], false⟩ else none
  | 0x19 => if p = 0 then some ⟨[], [0], [2], [0], false⟩ else none
  | 0x1A => if p = 0 then some ⟨[], [0], [0, 2], [0], false⟩ else none
  | 0x20 => if p < 2 ^ 32 ∧ t.k ≤ 65536 then some ⟨[0], [0], [0, 2], [], false⟩ else none
  | 0x21 => if p < 2 ^ 32 ∧ t.k ≤ 65536 then some ⟨[0], [0], [0, 2], [0], false⟩ else none
  | 0x28 => if p = 0 then some ⟨[0], [0], [0, 2], [], false⟩ else none
  | 0x30 =>
    let u := vecUses p
    if p ≤ 0x17 then some ⟨if u.1 then [0] else [], [0], [0, 2], if u.2.2 then [0] else [], false⟩ else none
  | 0x31 => if p ≤ 6 then some ⟨[], [0], [0, 2], [], false⟩ else none
  | 0x32 => if p < 32 ∧ p % 4 ≠ 3 ∧ p / 4 ≤ 5 then some ⟨[], [0], [0, 2], [], false⟩ else none
  | 0x33 => if p ≤ 1 then some ⟨[], [0], [0, 2], [], false⟩ else none
  | 0x38 => if p ≤ 2 ∧ t.k ≤ 4096 then some ⟨[0], [0], [0, 2], [0], false⟩ else none
  | 0x39 => if 1 ≤ p ∧ p ≤ 1024 then some ⟨[], [0], [0, 2], [], false⟩ else none
  | 0x40 => if p < 2 ^ 32 then some ⟨[], [0], [0, 2], [], false⟩ else none
  | 0x41 => if p < 2 ^ 18 then some ⟨[], [0], [3], [], false⟩ else none
  | 0x42 => if p = 0 then some ⟨[], [4], [0, 2], [], false⟩ else none
  | _ => none

/-- Whether the formats of a step's operands are those that its operation accepts (R47, R60, R79, R81, R85, R86, R90).
DESIGN CHOICE, log entries 66 and 109: the K formats of ATTN_PAGED are those without scales; VEC select also takes INT32 words; the OUT of an exact TRANSPOSE may
name any format. -/
def stepFmts (t : Step) : Bool :=
  let a := t.opa.fmt
  let b := t.opb.fmt
  let o := t.outFmt
  match t.opc with
  | 0x01 => pairing a b && fmtOut o && t.aux.fmt = 0
  | 0x10 => decide (1 ≤ a ∧ a ≤ 4) && pairing a b && fmtOut o
  | 0x18 => pairing a b
  | 0x19 => fmtNum b || b = 0xF
  | 0x1A => fmtNum b && fmtOut o
  | 0x20 => fmtNum a && fmtNum b && fmtOut o
  | 0x21 => fmtNum a && fmtNum b && fmtOut o && fmtNum t.aux.fmt
  | 0x28 => (a = 1 || a = 2 || a = 3 || a = 4 || a = 0xA) && b = 0xF && fmtOut o
  | 0x30 =>
    let p := t.param
    if 0x10 ≤ p then a = 0xF && b = 0xF && t.out.fmt = 0xF
    else if p = 0xC ∧ a = 0xF then b = 0xF && t.out.fmt = 0xF && (fmtFloat t.aux.fmt || t.aux.fmt = 0xF)
    else if p = 0xF then (fmtNum b || b = 0xC || b = 0xF) && fmtOut o
    else
      let u := vecUses p
      let cmp := 8 ≤ p && p ≤ 0xB
      (!u.1 || fmtFloat a) && fmtFloat b && (!u.2.2 || (if p = 0xC then fmtFloat t.aux.fmt || t.aux.fmt = 0xF
        else fmtFloat t.aux.fmt)) && (if cmp then t.out.fmt = 0xF else fmtOut o)
  | 0x31 => fmtNum b && fmtOut o
  | 0x32 => fmtNum b && fmtOut o
  | 0x33 => if bitAt t.param 0 then b ≤ 0x10 && fmtOut o else !(isMx b || isGrouped b) && b ≤ 0x10
  | 0x38 => (a = 3 || a = 4 || a = 0x10) && (b = 3 || b = 4 || b = 0x10)
  | 0x41 => b = 0 || b = 1
  | 0x42 => t.out.fmt = 0xF
  | _ => true

/-- Whether the 64 bits of a buffer reference are well formed for one of some modes (R71, R72, R74): an operand that is not
used holds 0. -/
def refOk (raw : Nat) (modes : List Nat) (opt : Bool) (route : Nat → Bool) : Bool :=
  let r := refOf raw
  if modes = [] then raw = 0
  else (opt && raw = 0) ||
    (decide (raw / 2 ^ 61 = 0) && decide (r.fmt ≤ 0x10) && modes.contains r.mode &&
      (if r.mode = 2 then decide (r.addr < 4096) && route r.addr else true) &&
      (if r.mode = 3 || r.mode = 4 then decide (r.adv = 0) else true) &&
      (if r.mode = 4 then decide (r.addr = 0) else true))

/-- Whether a step is well formed (R52, R70 to R74, R78, R79); `route` tells which routes it may name.  DESIGN CHOICE, log entry 109: NOP,
SYNC, END and SEND, which have no rows, may hold DIM_M 0. -/
def stepOk (route : Nat → Bool) (b : List Byte) : Bool :=
  let t := stepOf b
  let idle := t.opc = 0 || t.opc = 0x50 || t.opc = 0x5F
  match stepUses t with
  | none => false
  | some u =>
    let fmts := (if u.opa = [] then [] else [t.opa.fmt]) ++ (if u.opb = [] then [] else [t.opb.fmt]) ++
      (if u.out = [] || t.out32 then [] else [t.out.fmt]) ++ (if u.aux = [] then [] else [t.aux.fmt])
    decide (bits t.attr 0 2 ≤ 1 ∧ t.attr < 8) && decide (t.flags < 2 ^ 15) && decide (bits t.flags 3 3 ≤ 4) &&
      decide (t.slotMap ≠ 3) && decide (t.slot = 0 ∨ t.slotMap = 2) &&
      decide (t.gangs ≤ 128 ∧ (idle ∨ t.gangs ≠ 0)) && zeros b 7 1 && decide (bits (num b 10 2) 12 4 = 0) && zeros b 14 2 &&
      (idle || t.opc = 0x40 || decide (t.m ≠ 0)) &&
      refOk (num b 24 8) u.opa false route && refOk (num b 32 8) u.opb false route && refOk (num b 40 8) u.out false route &&
      refOk (num b 48 8) u.aux u.auxOpt route &&
      (!t.acc || u.out = [] || t.out.mode ≤ 1) && (bits t.flags 3 3 ≠ 0 || !fmts.any isGrouped) && stepFmts t

/-- The loops of a schedule (R74). -/
def SchedRec.loops (r : SchedRec) : List LoopRec :=
  (r.steps.zipIdx).filterMap (fun x =>
    if x.1.loopCount = 0 then none else some ⟨x.1.loopTarget, r.first + x.2, x.1.loopCount⟩)

/-- Whether the loops of a schedule are well formed (R74): each target at or before its close, properly nested, at most 4
deep. -/
def loopsOk (l : List LoopRec) : Bool :=
  l.all (fun x => x.target ≤ x.close &&
    l.all (fun y => (x.close < y.target || y.close < x.target) || (y.target ≤ x.target && x.close ≤ y.close) ||
      (x.target ≤ y.target && y.close ≤ x.close)) &&
    (l.filter (fun y => y.target ≤ x.target && x.close ≤ y.close)).length ≤ 4)

/-! ### PLACE (R143) -/

/-- The extents of a PLACE record, in order, for the span of index `sp`; the fuel is the bytes left. -/
def parseExtents (sp ix : Nat) : (fuel : Nat) → (n : Nat) → List Byte → Option (List Extent)
  | 0, n, l => if n = 0 ∧ l = [] then some [] else none
  | f + 1, n, l =>
    if n = 0 then (if l = [] then some [] else none)
    else
      let w0 := num l 0 4
      let src := bits w0 0 4
      let len := num l 0x10 8
      let il := num l 4 4
      if l.length < 32 ∨ 4 < src ∨ 5 < bits w0 4 4 ∨ w0 / 65536 ≠ 0 ∨ il ≠ (if src = 0 then len else 0) ∨
          2 ^ 48 ≤ num l 8 8 ∨ 2 ^ 48 ≤ len ∨ (num l 0x18 8 ≠ 0 ∧ src ≠ 1 ∧ src ≠ 2) ∨ l.length < 32 + il ∨
          ¬zeros l (32 + il) (alignUp il 8 - il) ∨
          (2 ≤ bits w0 4 4 ∧ bits w0 4 4 ≤ 4 ∧ 95 < bits w0 8 8) then none
      else
        (parseExtents sp ix f (n - 1) (l.drop (alignUp (32 + il) 8))).map
          (⟨src, bits w0 4 4, bits w0 8 8, num l 8 8, len, num l 0x18 8, sub l 32 il, sp, ix⟩ :: ·)

/-- A PLACE record's body. -/
def parsePlace (sp ix : Nat) (b : List Byte) : Option (List Extent) :=
  if 8 ≤ b.length ∧ zeros b 4 4 then parseExtents sp ix (b.length) (num b 0 4) (b.drop 8) else none

/-! ### RETR, GRAM, SAMP, COMMIT (R144) -/

/-- The pipelines of a RETR record, for the span of index `sp`: number and settings. -/
def parsePipes (sp : Nat) : (fuel : Nat) → List Byte → Option (List (Nat × PipeRec))
  | 0, l => if l = [] then some [] else none
  | f + 1, l =>
    if l = [] then some []
    else
      let v := num l 0 16
      let nz := bits v 96 32
      let kind := bits v 8 4
      if l.length < 16 + 8 * nz ∨ 63 < bits v 0 8 ∨ kind = 0 ∨ 3 < kind ∨ bits v 12 4 ≠ 0 ∨ bits v 61 3 ≠ 0 then none
      else (parsePipes sp f (l.drop (16 + 8 * nz))).map
        ((bits v 0 8, ⟨true, kind, bits v 16 16, bits v 32 8, bits v 40 8, bits v 48 12, bitAt v 60, bits v 64 32,
          (entries (l.drop 16) 8 nz).map ofBytes, sp⟩) :: ·)

/-- A grammar of a GRAM record: number, settings and its three arrays. -/
structure GramIn where
  id : Nat
  g : GramRec
  cls : List Byte
  st : List Byte
  tr : List Byte
  deriving DecidableEq, Repr, Inhabited

/-- Whether the arrays of a grammar are well formed (R95).  DESIGN CHOICE, log entry 72. -/
def GramIn.ok (x : GramIn) : Bool :=
  (chunks 2 x.cls).all (fun b => ofBytes b < 4096) &&
  (chunks 8 x.st).all (fun b => let v := ofBytes b
    bits v 44 4 = 0 && v / 2 ^ 49 = 0 && bits v 0 32 + bits v 32 12 ≤ x.g.trans) &&
  (chunks 8 x.tr).all (fun b => let v := ofBytes b
    let act := bits v 12 4
    act ≤ 2 && v / 2 ^ 48 = 0 && (act = 2 || bits v 16 16 < x.g.states) && (act ≠ 1 || bits v 32 16 < x.g.states))

/-- The grammars of a GRAM record: the three arrays of each follow its 32 bytes, one after another (DESIGN CHOICE,
log entry 72). -/
def parseGrams : (fuel : Nat) → List Byte → Option (List GramIn)
  | 0, l => if l = [] then some [] else none
  | f + 1, l =>
    if l = [] then some []
    else
      let v := num l 0 16
      let vocab := bits v 32 19
      let st := bits v 64 17
      let tr := bits v 96 21
      let il := num l 0x1C 4
      let x : GramIn := ⟨bits v 0 3, ⟨true, bits v 8 8, vocab, st, tr, num l 0x10 4, num l 0x14 4, num l 0x18 4⟩,
        sub l 32 (2 * vocab), sub l (32 + 2 * vocab) (8 * st), sub l (32 + 2 * vocab + 8 * st) (8 * tr)⟩
      if l.length < 32 + il ∨ bits v 3 5 ≠ 0 ∨ bits v 16 16 ≠ 0 ∨ bits v 51 13 ≠ 0 ∨ bits v 81 15 ≠ 0 ∨ bits v 117 11 ≠ 0 ∨
          vocab = 0 ∨ 262144 < vocab ∨ st = 0 ∨ 65536 < st ∨ tr = 0 ∨ 1048576 < tr ∨ il ≠ 2 * vocab + 8 * st + 8 * tr ∨
          ¬x.ok then none
      else (parseGrams f (l.drop (alignUp (32 + il) 8))).map (x :: ·)

/-- A SAMP record. -/
structure SampRec where
  ring : Nat
  first : Nat
  vocab : Nat
  entries : List (List Word)
  deriving DecidableEq, Repr, Inhabited

/-- A SAMP record's body (R144, R92): the grammars that its entries name are checked elsewhere. -/
def parseSamp (b : List Byte) : Option SampRec :=
  let v := num b 0 8
  let n := bits v 16 7
  let ents := (entries (b.drop 8) 32 n).map (fun e => (entries e 4 8).map (fun w => wordOf (ofBytes w)))
  if b.length = 8 + 32 * n ∧ 1 ≤ n ∧ bits v 14 2 = 0 ∧ bits v 23 9 = 0 ∧ bits v 51 13 = 0 ∧ 1 ≤ bits v 32 19 ∧
      bits v 32 19 ≤ 262144 ∧ bits v 8 6 + n ≤ 64 ∧ n ≤ 64 ∧ ents.all (entryOk (fun _ => true)) then
    some ⟨bits v 0 8, bits v 8 6, bits v 32 19, ents⟩
  else none

/-! ### The image -/

/-- What an image's records hold. -/
structure Img where
  spans : List SpanRec
  routes : List (Nat × Nat × RouteEnt)
  parts : List (Nat × Nat × Part)
  tickets : Option (List (List Byte))
  scheds : List SchedRec
  extents : List (Nat × Extent)
  pipes : List (Nat × Nat × PipeRec)
  grams : List (Nat × GramIn)
  samps : List (Nat × SampRec)
  lic : Option (Nat × List Byte)
  commit : Bool
  deriving DecidableEq, Repr, Inhabited

/-- A refusal of an image: code, record and span concerned (R145). -/
structure Refuse where
  code : Nat
  rec_ : Nat
  span : Nat
  deriving DecidableEq, Repr, Inhabited

end Sys2Proof.Machine
end

