-- ==== Sys2Proof/Machine/ModeOps.lean ====
section
/-! DEFINITION. The two-phase mode change of the hub (file 05_spans_and_images.md, R153 to R156): starting, committing,
completing and aborting one. -/

namespace Sys2Proof.Machine

/-- A unit of a mode change, as a command names it. -/
def unitOf : ModeUnit → MUnit
  | .engine e => .leaf (.engine e.val)
  | .mover m => .leaf (.mover m.val)
  | .re r => .leaf (.re r.val)
  | .part p => .leaf (.part p.val)
  | .block b => .block b.val
  | .device d => .device d.val

/-- Shows a mode change in CFG_MODE_STAT (R158). -/
def State.modeShow (s : State) (phase cause change : Nat) : State :=
  ((s.fset .CFG_MODE_STAT F.CFG_MODE_STAT_PHASE phase).fset .CFG_MODE_STAT F.CFG_MODE_STAT_CAUSE cause).fset
    .CFG_MODE_STAT F.CFG_MODE_STAT_CHANGE change

/-- The result of a pair-set commit in CFG_COMMIT_STAT (R151). -/
def State.commitShow (s : State) (c : ModeChange) (st : Nat) : State :=
  if c.kind = 2 then s.fset .CFG_COMMIT_STAT F.CFG_COMMIT_STAT_STATE st else s

/-- The state with the staged shadows of an aborted commit back among the shadows, unless written again since (R151). -/
def State.unstage (s : State) : State :=
  { s with shadow := s.staged.filter (fun x => !s.shadow.any (fun y => decide (y.1 = x.1))) ++ s.shadow, staged := [] }

/-- The devices of a change's units (R156). -/
def ModeChange.devices (c : ModeChange) : List Nat := c.units.filterMap (fun u => match u with | .device d => some d | _ => none)

/-- Sends a message of a change to the units of this device, and to the hubs of the devices in its scope (R153, R156). -/
def State.modeSend (s : State) (c : ModeChange) (cls w0 w1 : Nat) : State :=
  let words := if cls = 0x7 then [w0, w1] else [w0]
  c.devices.foldl (fun (s : State) d => s.chainTo d cls c.span words)
    (s.chainSend 0 { cls := cls, toSpan := true, dest := c.span, src := 0, tag := 0, words := words, lanes := s.allLanes })

/-- A unit of this device sends a chain message to the hub (R123): an engine on the lane of its site's column, a retrieval engine on its
die's entry, a unit of the hub itself. -/
def State.unitSays (s : State) (u : MUnit) (cls : Nat) (words : List Nat) : State :=
  let x : Nat × Nat := match u with
    | .leaf (.engine e) => (((s.siteLanes (s.siteOf e)).headD 0) + 1, (e / 12 + 1) * 16 + s.siteOf e % 16)
    | .leaf (.re _) => (((s.dieLanes 9).headD 0) + 1, 9 * 16)
    | _ => (0, 0)
  s.chainSend x.1 { cls := cls, toSpan := false, dest := 0, src := x.2, tag := 0, words := words, lanes := [] }

/-- Answers the coordinating device of a group span's change (R156): ACK with a PHASE and a RESULT. -/
def State.modeAnswer (s : State) (c : ModeChange) (phase result : Nat) : State :=
  match c.coord with
  | some d => s.chainTo d 0x8 c.span [c.id + phase * 65536 + result * 131072]
  | none => s

/-- Sends ABORT for the mode change in progress, before its COMMIT (R155): cause `k`; source 17.  A device that takes part in
another's change answers with the result of the unit that could not take it, 1 after a STOP, and otherwise 2. -/
def State.modeAbort (s : State) (k : Nat) : State :=
  match s.mode with
  | some c =>
    if c.phase = 1 then
      let result := if k = 2 then ((c.prepared.find? (fun x => x.2 ≠ 0)).map (·.2)).getD 2 else if k = 4 then 1 else 2
      ((((((({ s with mode := some { c with phase := 4 } }).modeSend c 0xA (c.id + k * 65536) 0).modeAnswer c 0
        result).modeShow 4 k c.id).commitShow c 3).unstage).raise 17)
    else s
  | none => s

/-- Completes the mode change when every unit counts as applied (R154, step 7). -/
def State.modeFinish (s : State) : State :=
  match s.mode with
  | some c =>
    if c.phase = 2 ∧ c.units.all (fun u => c.done.contains u) then
      ((({ s with mode := some { c with phase := 3 } }).modeAnswer c 1 0).modeShow 3 0 c.id).commitShow c 2
    else s
  | none => s

/-- Sends COMMIT of the change `c` (R154, step 5). -/
def State.modeGo (s : State) (c : ModeChange) : State :=
  ((({ s with mode := some { c with phase := 2 } }).modeSend c 0x9 c.id 0).modeShow 2 0 c.id).modeFinish

/-- Once every unit's acknowledgement has been counted: COMMIT goes out, or a device that takes part in another's change sends
its ACK (R154, R156). -/
def State.modeCommit (s : State) : State :=
  match s.mode with
  | some c =>
    if c.phase = 1 ∧ c.units.all (fun u => c.acked.contains u) then
      match c.coord with
      | none => s.modeGo c
      | some _ => s.modeAnswer c 0 0
    else s
  | none => s

/-- Whether a mode change is in progress (R153). -/
def State.modeBusy (s : State) : Bool :=
  match s.mode with
  | some c => decide (c.phase = 1 ∨ c.phase = 2)
  | none => false

/-- Starts a mode change of kind `kind` over `units` (R153, R154), for the coordinating device `coord` and under its CHANGE when another one
asked for it (R156): PREPARE goes out. -/
def State.modeBegin (s : State) (kind span : Nat) (units : List MUnit) (coord : Option (Nat × Nat)) : State :=
  let id := (coord.map (·.2)).getD ((s.changes + 1) % 65536)
  let c : ModeChange := ⟨id, kind, span, units, 1, [], [], [], [], [], coord.map (·.1)⟩
  let s1 : State := { s with
    changes := if coord.isSome then s.changes else id
    stale := s.stale ++ (match s.mode with
      | some c => if c.phase = 4 then (c.prepared.filter (fun x => x.2 = 0)).map (·.1) else []
      | none => [])
    mode := some c }
  ((s1.modeSend c 0x7 (id + kind * 65536) span).modeShow 1 0 id).modeCommit

/-- Starts a mode change of this device (R153). -/
def State.modeStart (s : State) (kind span : Nat) (units : List MUnit) : State := s.modeBegin kind span units none

/-- A unit becomes absent during a mode change (R155): before COMMIT the change aborts, afterwards it counts as applied. -/
def State.modeAbsent (s : State) (u : MUnit) : State :=
  match s.mode with
  | some c =>
    if !c.units.contains u then s
    else if c.phase = 1 then s.modeAbort 3
    else if c.phase = 2 ∧ ¬c.done.contains u then ({ s with mode := some { c with done := u :: c.done } }).modeFinish
    else s
  | none => s

/-- A STOP reaches the entries of `l` during a mode change (R155): before COMMIT the change aborts when one of them, or a
leaf of one of them, is in its scope. -/
def State.modeStopped (s : State) (l : List Nat) : State :=
  match s.mode with
  | some c =>
    if l.contains c.span || l.any (fun j => (s.spans.at j).members.any (fun m => c.units.contains (.leaf m)))
    then s.modeAbort 4 else s
  | none => s

end Sys2Proof.Machine
end

