-- ==== Sys2Proof/Machine/MoverOps.lean ====
section
/-! DEFINITION. What the barge movers share with the flash: descriptors (R181), what a descriptor reads (R182, R205, R207),
and the flash unit at a zone offset (R253, R254). -/

namespace Sys2Proof.Machine

/-! ### Places in flash -/

/-- The keys of a flash LUN, block, group and unit. -/
def FAddr.lunKey (a : FAddr) : Nat := a.chan * 32 + a.lun
@[inherit_doc FAddr.lunKey] def FAddr.blk (a : FAddr) : Nat := a.lunKey * 8192 + a.block
@[inherit_doc FAddr.lunKey] def FAddr.grp (a : FAddr) : Nat := a.lunKey * 128 + a.block / 64
@[inherit_doc FAddr.lunKey] def FAddr.unit (a : FAddr) : Nat := (a.blk * 16384 + a.page) * 8 + a.cw

/-- The address of a codeword of a block. -/
def blkAddr (blk page cw : Nat) : FAddr := ⟨blk / 262144, blk / 8192 % 32, blk % 8192, page, cw⟩

/-- Codewords of a page: ⌊page bytes ÷ 4,672⌋ rounded down to 2, 4 or 8 (R241). -/
def LunGeo.k (g : LunGeo) : Nat :=
  let n := g.pageBytes / 4672
  if 8 ≤ n then 8 else if 4 ≤ n then 4 else if 2 ≤ n then 2 else 0

/-- The largest power of two that is at most `n`, below 2 ^ 14 (R253). -/
def powBelow (n : Nat) : Nat := ((List.range 15).map (2 ^ ·)).foldl (fun m p => if p ≤ n then p else m) 0

/-- Bytes of user data that managed mode keeps in a block (R253). -/
def LunGeo.cap (g : LunGeo) : Nat := powBelow g.pages * g.k * 4096

/-- Whether a geometry can be managed: its block capacity lies between 1 MiB and 32 MiB (R253). -/
def LunGeo.fits (g : LunGeo) : Bool := decide (2 ^ 20 ≤ g.cap ∧ g.cap ≤ 2 ^ 25)

/-- Member blocks of a superblock (R253). -/
def LunGeo.w (g : LunGeo) : Nat := if g.cap = 0 then 0 else 2 ^ 25 / g.cap

/-- The managed geometry of the label, if the flash has been formatted. -/
def State.geo (s : State) : LunGeo := match s.flash.label with
  | some (_, _, g, _) => g
  | none => default

/-- The address of unit `u` (0 to 8,191) of a superblock with these members (R253). -/
def sbAddr (g : LunGeo) (members : List Nat) (u : Nat) : FAddr :=
  let q := u / g.k
  blkAddr (nth members (q % g.w)) (q / g.w) (u % g.k)

/-- The address of unit `u` of zone `z` (R254). -/
def State.zoneAddr (s : State) (z u : Nat) : FAddr :=
  sbAddr s.geo (s.flash.sbs.at (nth (s.flash.zones.at z).sbs (u / 8192))).members (u % 8192)

/-- Whether the flash has been mounted, and whether the mount has failed (R260, R264). -/
def State.mounted (s : State) : Bool := decide (s.fget .FLC_MOUNT F.FLC_MOUNT_STATE = 6) && !s.dieFenced 9
@[inherit_doc State.mounted] def State.mountFailed (s : State) : Bool :=
  decide (s.fget .FLC_MOUNT F.FLC_MOUNT_STATE = 7) || s.dieFenced 9

/-- Whether unit `u` of zone `z` can be read: the zone is not FREE and the unit lies below WP (R254, R257). -/
def State.zoneReadable (s : State) (z u : Nat) : Bool :=
  let x := s.flash.zones.at z
  s.mounted && decide (x.st ≠ 0 ∧ u < x.wp)

/-- The state with the flash changed. -/
def State.flashUpd (s : State) (f : FlashUnit → FlashUnit) : State := { s with flash := f s.flash }

/-- Whether a command is a read that its source still holds (R226). -/
def FCmd.waits : FCmd → Bool
  | .read q => q.waits
  | _ => false

/-- The level of channel `c`'s queue, with the bands that follow (R224, R264): what sources hold has not reached it. -/
def State.flashLevel (s : State) (c : Nat) : State :=
  s.queueLevel (41 + c) ((s.flash.queue.at c).filter (fun x => !x.waits)).length

/-- Queues a command at channel `c` (R244). -/
def State.flashQueue (s : State) (c : Nat) (x : FCmd) : State :=
  (s.flashUpd (fun f => { f with queue := f.queue.upd c (· ++ [x]) })).flashLevel c

/-- The source that holds a read's requests (R226); the channels' own reads have none. -/
def FReq.source (q : FReq) : Option Requester := match q.who with
  | .ring m _ => some (.mover (Fin.ofNat 16 m))
  | .hub m => some (.mover (Fin.ofNat 16 m))
  | .query _ => some (.re (Fin.ofNat 16 q.re))
  | .patrol => none
  | .move _ => none

/-- Whether a command of channel `c` is a read that a source holds under ticket `t`. -/
def FCmd.waitsFor (src : Requester) (t : Nat) : FCmd → Bool
  | .read q => q.waits && decide (q.source = some src ∧ q.ticket = t)
  | _ => false

/-- Whether a new read of a source to channel `c` is held (R226): its ticket is, or an earlier one of its source and ticket waits. -/
def State.flashHeld (s : State) (q : FReq) : Bool := match q.source with
  | some r => s.heldBit r (41 + q.addr.chan) q.ticket || (s.flash.queue.at q.addr.chan).any (FCmd.waitsFor r q.ticket)
  | none => false

/-- Asks for a unit (R243): its read joins the queue of its channel, or waits at its source (R226). -/
def State.flashAsk (s : State) (q : FReq) : State :=
  s.flashQueue q.addr.chan (.read { q with waits := s.flashHeld q })

/-- Lets go, in channel `c`'s queue, of the reads that source `src` holds under the tickets that `p` names (R226, R227), at most `n` of them,
the oldest first: they arrive with HELD. -/
def letGo (src : Requester) (p : Nat → Bool) (held : Nat) : (n : Nat) → List FCmd → List FCmd
  | 0, l => l
  | _, [] => []
  | n + 1, .read q :: l =>
    if q.waits && decide (q.source = some src) && p q.ticket then .read { q with waits := false, held := held } :: letGo src p held n l
    else .read q :: letGo src p held (n + 1) l
  | n + 1, x :: l => x :: letGo src p held (n + 1) l

/-- Reads that wait at source `src` for channel `c` enter its queue. -/
def State.flashLetGo (s : State) (c : Nat) (src : Requester) (p : Nat → Bool) (n : Nat) : State :=
  if (s.flash.queue.at c).any (fun x => match x with
    | .read q => q.waits && decide (q.source = some src) && p q.ticket
    | _ => false) then
    (s.tick.flashUpd (fun f => { f with queue := f.queue.upd c (letGo src p (s.heldField 0) n) })).flashLevel c
  else s

/-- Forgets what a reader has asked of the flash: its queued reads and the units delivered to it.  Reads in progress end and
are delivered to no one. -/
def State.flashForget (s : State) (w : FWho) : State :=
  let mine (x : FCmd) : Bool := match x with
    | .read q => decide (q.who = w)
    | .retry q _ _ => decide (q.who = w)
    | _ => false
  let hit := (s.flash.queue.filter (fun e => e.2.any mine)).map (·.1)
  hit.foldl State.flashLevel (s.flashUpd (fun f => { f with
    queue := (f.queue.map (fun e => (e.1, e.2.filter (fun x => !mine x)))).filter (fun e => e.2 ≠ [])
    done := f.done.filter (fun d => d.who ≠ w) }))

/-! ### Rings (R180) -/

/-- The mover `m`, and the state with it changed. -/
def State.mover (s : State) (m : Nat) : MoverUnit := s.movers.at m
@[inherit_doc State.mover] def State.moverUpd (s : State) (m : Nat) (f : MoverUnit → MoverUnit) : State :=
  { s with movers := s.movers.upd m f }

/-- BRG_WR_m, BRG_RD_m, and the descriptors that the ring holds. -/
def State.brgWr (s : State) (m : Nat) : Nat := (s.rget (.BRG_WR (Fin.ofNat 16 m))).toNat
@[inherit_doc State.brgWr] def State.brgRd (s : State) (m : Nat) : Nat := (s.rget (.BRG_RD (Fin.ofNat 16 m))).toNat
@[inherit_doc State.brgWr] def State.ringLen (s : State) (m : Nat) : Nat :=
  s.fget (.BRG_RING_LEN (Fin.ofNat 16 m)) F.BRG_RING_LEN_LEN / 64

/-- How far count `b` lies ahead of count `a`, both free-running and 32 bits wide. -/
def ahead (a b : Nat) : Nat := (b + 2 ^ 32 - a) % 2 ^ 32

/-- A write index reaches mover `m` (R179, R180): beyond the ring's length ahead of the read index, or behind it, it is ignored and
sets OVR. -/
def State.moverIndex (s : State) (m v : Nat) : State :=
  if ahead (s.brgRd m) v ≤ s.ringLen m then s.rset (.BRG_WR (Fin.ofNat 16 m)) (wordOf v)
  else s.bset (.BRG_STAT (Fin.ofNat 16 m)) F.BRG_STAT_OVR true

/-! ### Descriptors -/

/-- Reads the fields of a descriptor of 64 bytes and checks them (R181): reserved bits, kinds and alignments. -/
def parseDesc (l : List Byte) : Desc :=
  let w0 := leNat l 0 4
  let sk := bits w0 4 4
  let dk := bits w0 8 4
  let op := bits w0 0 4
  let src := leNat l 8 8
  let dst := leNat l 0x10 8
  let len := leNat l 0x18 6
  let flash := decide (dk = 2) || (decide (op = 0) && decide (sk = 2))
  let align := if flash then 4096 else 256
  let srcOk := decide (op = 1) || decide (sk = 1) || decide (sk = 0 ∧ src % 256 = 0 ∧ src < 2 ^ 54) ||
    decide (sk = 2 ∧ src / 2 ^ 32 % 4096 = 0)
  let dstOk := decide (dk = 1) || decide (dk = 0 ∧ dst % 256 = 0 ∧ dst < 2 ^ 54) ||
    decide (dk = 2 ∧ (dst / 2 ^ 32 % 4096 = 0 ∨ dst / 2 ^ 32 = 0xFFFFFFFF)) ||
    decide (dk = 3 ∧ dst % 256 < 96 ∧ dst < 2 ^ 32 ∧ bits dst 9 3 = 0 ∧ bits dst 12 20 % 256 = 0)
  { ok := decide (op ≤ 1) && srcOk && dstOk && decide (w0 / 2 ^ 19 = 0) && decide (leNat l 4 4 = 0) &&
      decide (leNat l 0x28 8 = 0) && decide (0 < len ∧ len % align = 0) && decide (leNat l 0x1E 2 = 0)
    op := op
    srcKind := sk
    dstKind := dk
    ticket := bits w0 12 4
    irq := bitAt w0 16
    stopPoison := bitAt w0 17
    fence := bitAt w0 18
    src := src
    dst := dst
    len := len
    pattern := leNat l 0x20 8 }

/-- The device of a group address, none for this one (R161).  DEDUCED, log entry 88. -/
def State.groupDev (s : State) (a : Nat) : Option Nat :=
  if bits a 48 6 = s.fget .LNK_GRP F.LNK_GRP_DEVNUM then none else some (bits a 48 6)

/-- The mover that reads flash as `w`. -/
def FWho.mover : FWho → Requester
  | .ring m _ => .mover (Fin.ofNat 16 m)
  | .hub m => .mover (Fin.ofNat 16 m)
  | _ => .hub

/-- The `n` bytes from `a` cross between the hub and the die at position `pos` (R23): the host stands behind the link die d11, flash behind
the retrieval die. -/
def State.passDie (s : State) (q : Requester) (rd : Bool) (pos a n : Nat) : Except Hold State :=
  s.eachUnit a n (fun s b part => s.crossBy q rd part none [s.otherBundle pos b])

/-- What a descriptor's source gives (R182): bytes, which are poisoned, the manifests of whole blocks; the status and offset
at which the copy ends early, if it does; the offset of the first unit that flash could not decode, and whether any word
read was poisoned. -/
structure Source where
  st : State
  bytes : List Byte
  pois : List Bool
  mans : List Word
  stop : Option (Nat × Nat)
  ue : Option Nat
  poison : Bool

/-- The units that flash has delivered to a reader, in the order of their place (R243); `n` are wanted. -/
def State.deliveredTo (s : State) (w : FWho) (n : Nat) : Option (List FDone) :=
  let l := s.flash.done.filter (fun d => d.who = w)
  ((List.range n).foldr (fun i (acc : Option (List FDone)) =>
    match l.find? (fun d => d.tag.2 = i), acc with
    | some d, some t => some (d :: t)
    | _, _ => none) (some []))

/-- The first block of `n` bytes from the copy's start whose bytes do not match their manifest, at egress to the host, a Wealey
port or flash (R207): blocks that hold poison are not checked. -/
def badBlock (bytes : List Byte) (pois : List Bool) (mans : List Word) : Option Nat :=
  (List.range (bytes.length / 256)).find? (fun i =>
    !((pois.drop (256 * i)).take 256).any id && decide (crc32c ((bytes.drop (256 * i)).take 256) ≠ nth mans i))

/-- Reads what run `r` of mover `m` copies (R181, R182): a fill pattern, memory of this device, delivered flash units, or what the
host or another device returned (a device that discovery has not numbered gives an error, R161); otherwise the state in which the copy waits, for flash units
that are still to come, or because a request of it is held (R226) or a bundle takes none.  `hub` is whether the copy is of the hub
channel, which reaches the keep area; `point` the egress point of R207, 0 for none. -/
def State.moverSource (s : State) (w : FWho) (hub : Bool) (point : Nat) (r : MvRun)
    (ext : Option (List Byte × List Bool)) : Except State Source :=
  let d := r.d
  let n := d.len
  let go (x : Except Hold State) (f : State → Source) : Except State Source := match x with
    | .ok s => .ok (f s)
    | .error h => .error (s.waitFor w.mover h)
  let outside (s : State) : Source := match ext with
    | some (b, p) => ⟨s, b.take n, p.take n, [], if b.length < n then some (0x03, b.length / 256 * 256) else none, none,
        (p.take n).any id⟩
    | none => ⟨s, [], [], [], some (0x03, 0), none, false⟩
  if d.op = 1 then
    let b := (List.replicate (ceilDiv n 8) (toBytes 8 d.pattern)).flatten.take n
    .ok ⟨s, b, List.replicate n false, [], none, none, false⟩
  else if d.srcKind = 1 then go (s.passDie w.mover true 11 d.src n) outside
  else if d.srcKind = 2 then
    match s.deliveredTo w r.units with
    | none => .error s
    | some l => go (s.passDie w.mover true 9 (d.src / 2 ^ 32) (4096 * r.units)) fun s =>
      let firstErr := (l.zipIdx.find? (fun x => x.1.err)).map (fun x => x.2 * 4096)
      let stop := match firstErr, r.srcErr with
        | some a, some b => some (0x03, min a b)
        | some a, none => some (0x03, a)
        | none, some b => some (0x03, b)
        | none, none => none
      let l := match firstErr with
        | some a => l.take (a / 4096)
        | none => l
      ⟨s, l.flatMap (·.code.data), l.flatMap (fun x => List.replicate 4096 x.pois), l.flatMap (·.code.mans), stop,
        (l.zipIdx.find? (fun x => x.1.ue)).map (fun x => x.2 * 4096), l.any (·.pois)⟩
  else match s.groupDev d.src with
    | some k => if (s.devs.at k).present then .ok (outside s) else .ok ⟨s, [], [], [], some (0x03, 0), none, false⟩
    | none => go (s.pass w.mover d.ticket true (d.src % 2 ^ 48) n) fun s =>
      let x := s.readAt hub point (d.src % 2 ^ 48) n
      let base := d.src % 2 ^ 48
      let stop := match x.err, x.bad with
        | some a, none => some (0x03, a - base)
        | none, some b => some (0x07, b - base)
        | some a, some b => if a ≤ b then some (0x03, a - base) else some (0x07, b - base)
        | none, none => none
      let keep := (match stop with | some (_, o) => o | none => n)
      ⟨x.st, x.bytes.take keep, x.pois.take keep, x.mans.take (keep / 256), stop, none, (x.pois.take keep).any id⟩

/-- The point at which the blocks of a descriptor's copy are checked (R204, R207): 3 host, 4 Wealey, 5 flash, 7 a codebook, 0 none. -/
def State.egress (s : State) (d : Desc) : Nat :=
  if d.dstKind = 1 then 3 else if d.dstKind = 2 then 5 else if d.dstKind = 3 then 7
  else if d.dstKind = 0 ∧ (s.groupDev d.dst).isSome then 4 else 0

end Sys2Proof.Machine
end

