-- ==== Sys2Proof/Machine/FlashReads.lean ====
section
/-! DEFINITION. Reading flash (file 09_flash_storage.md, R234 to R251): the channel queues, the stages of a read, the
read-threshold loop and the patrol. -/

namespace Sys2Proof.Machine

/-! ### Registers, LUNs and the profile -/

/-- A register field of flash channel `c`. -/
def chan (c : Nat) : Fin 32 := Fin.ofNat 32 c

/-- Sets a bit of FLC_EVT of channel `c`, whose source is level (R263). -/
def State.flcEvt (s : State) (c : Nat) (f : Fld) : State :=
  (s.bset (.FLC_EVT (chan c)) f true).setLine (256 + c) true

/-- Whether channel `c` runs (R264). -/
def State.chanRuns (s : State) (c : Nat) : Bool :=
  decide (s.fget (.FLC_STAT (chan c)) F.FLC_STAT_STATE = 3) && !s.dieFenced 9

/-- Whether LUN `l` of channel `c` is fenced, or the channel is (R236). -/
def State.lunFenced (s : State) (c l : Nat) : Bool :=
  bitAt (s.fget (.FLC_LUN_FENCE (chan c)) F.FLC_LUN_FENCE_FENCED) l || !s.chanRuns c

/-- Whether LUN `l` of channel `c` is an open-mode LUN (R262): its FLC_OPEN bit was set at format. -/
def State.isOpen (s : State) (c l : Nat) : Bool := match s.flash.label with
  | some (_, m, _, _) => bitAt (nth m c) l
  | none => false

/-- Whether the loop runs on a LUN (R247). -/
def State.loopRuns (s : State) (c l : Nat) : Bool := !s.isOpen c l || s.bget (.FLC_CTL (chan c)) F.FLC_CTL_LOOP_OPEN

/-- A byte as a signed number. -/
def sbyte (x : Nat) : Int := if x < 128 then x else (x : Int) - 256

/-- A profile (R261) and its fields. -/
abbrev Profile := List Byte

/-- Byte `i` of a profile. -/
def Profile.b (p : Profile) (i : Nat) : Nat := (nth p i).toNat
@[inherit_doc Profile.b] def Profile.levels (p : Profile) : Nat := bits (p.b 0) 0 4
@[inherit_doc Profile.b] def Profile.ppw (p : Profile) : Nat := bits (p.b 0) 4 3
@[inherit_doc Profile.b] def Profile.offMin (p : Profile) : Int := sbyte (p.b 2)
@[inherit_doc Profile.b] def Profile.offMax (p : Profile) : Int := sbyte (p.b 3)
@[inherit_doc Profile.b] def Profile.ladderLen (p : Profile) : Nat := bits (p.b 4) 0 4
@[inherit_doc Profile.b] def Profile.mask (p : Profile) (q : Nat) : Nat := leNat p (8 + 2 * q) 2

/-- The delta of ladder step `j` (1 to 15) on level `v` (R261). -/
def Profile.delta (p : Profile) (j v : Nat) : Int := sbyte (p.b (0x10 + 16 * (j - 1) + v))

/-- The levels that the page types use (R245). -/
def Profile.used (p : Profile) : List Nat :=
  (List.range p.levels).filter (fun v => (List.range p.ppw).any (fun q => bitAt (p.mask q) v))

/-- An offset within the profile's range (R245). -/
def Profile.clamp (p : Profile) (x : Int) : Int := max p.offMin (min p.offMax x)

/-- Whether feature address `a` is one of the profile's read-offset features (R261, R262). -/
def Profile.offsetFeature (p : Profile) (a : Nat) : Bool :=
  decide (p.b 1 ≤ a ∧ a ≤ p.b 1 + (p.levels - 1) / 4) && decide (p.levels ≠ 0)

/-- The profile of the label (zeros before any format). -/
def State.profile (s : State) : Profile := match s.flash.label with
  | some (p, _, _, _) => p
  | none => []

/-- The offsets of a group, by level. -/
def FlGroup.list (g : FlGroup) : List Int := (List.range 15).map (fun v => g.offs.at v)

/-- The state with block group `g`, or block `b`, changed. -/
def State.groupUpd (s : State) (g : Nat) (f : FlGroup → FlGroup) : State :=
  s.flashUpd (fun u => { u with groups := u.groups.upd g f })
@[inherit_doc State.groupUpd] def State.blockUpd (s : State) (b : Nat) (f : FlBlock → FlBlock) : State :=
  s.flashUpd (fun u => { u with blocks := u.blocks.upd b f })

/-- The background ticket of a channel (R244, R264). -/
def State.bgTicket (s : State) (c : Nat) : Nat :=
  let t := s.fget (.FLC_BG (chan c)) F.FLC_BG_TICKET
  if t = 0 then 15 else t

/-! ### ONFI commands (R238) -/

/-- The channel issues ONFI commands to a LUN, each by its cycles, and counts them (R238). -/
def State.onfi (s : State) (c l : Nat) (ops : List (List Nat)) : State :=
  ops.foldl (fun (s : State) x => s.emit (.onfi c l x)) (s.flashUpd (fun f => { f with cmds := f.cmds.upd c (· + ops.length) }))

/-- The commands of a page read with the choice of its codeword, a page program and a block erase, each with its status read (R238). -/
def onfiRead : List (List Nat) := [[0x00, 0x30], [0x78], [0x06, 0xE0]]
@[inherit_doc onfiRead] def onfiProgram : List (List Nat) := [[0x80, 0x10], [0x78]]
@[inherit_doc onfiRead] def onfiErase : List (List Nat) := [[0x60, 0xD0], [0x78]]

/-- Offsets of every level moved by `d`, within the profile's range. -/
def State.shifted (s : State) (offs : List Int) (d : Nat → Int) : List Int :=
  (List.range 15).map (fun v => s.profile.clamp (nth offs v + d v))

/-- Gives a LUN the read offsets `offs` by LUN Set Features, a command for each four levels (R246, R261), where it does not hold them. -/
def State.applyOffs (s : State) (c l : Nat) (offs : List Int) : State :=
  if s.flash.applied.at (c * 32 + l) = offs ∨ (s.flash.applied.at (c * 32 + l) = [] ∧ offs.all (· = 0)) then s
  else (s.onfi c l (List.replicate (ceilDiv s.profile.levels 4) [0xD5])).flashUpd (fun f => { f with
    applied := f.applied.put (c * 32 + l) offs })

/-- The page reads of a stage of R243 on a LUN: at the loop offsets `offs`; at these plus a ladder step's deltas; three, the second and third
with every level moved by SOFT_DELTA.  Counts them for the block (R248).  The loop offsets are restored after the later stages. -/
def State.stageReads (s : State) (a : FAddr) (stage : Nat) (offs : List Int) : State :=
  let c := a.chan
  let one (s : State) (d : Nat → Int) : State := (s.applyOffs c a.lun (s.shifted offs d)).onfi c a.lun onfiRead
  let k : Int := s.fget (.FLC_LOOP (chan c)) F.FLC_LOOP_SOFT_DELTA
  let s1 :=
    if stage = 0 then one s (fun _ => 0)
    else (if stage = 16 then one (one (one s (fun _ => 0)) (fun _ => -k)) (fun _ => k) else one s (s.profile.delta stage)).applyOffs c a.lun
      offs
  s1.blockUpd a.blk (fun b => { b with reads := b.reads + (if stage = 16 then 3 else 1) })

/-! ### Superblocks, spare blocks and moves (R249 to R252, R257) -/

/-- The state with superblock `i`, or zone `z`, changed. -/
def State.sbUpd (s : State) (i : Nat) (f : Sb → Sb) : State := s.flashUpd (fun u => { u with sbs := u.sbs.upd i f })
@[inherit_doc State.sbUpd] def State.zoneUpd (s : State) (z : Nat) (f : Zone → Zone) : State :=
  s.flashUpd (fun u => { u with zones := u.zones.upd z f })

/-- Superblocks that are free, and that managed mode has (FLC_CAP, FLC_CAP_TOTAL). -/
def State.freeSb (s : State) : Nat := (s.flash.sbs.filter (fun e => e.2.st = .free)).length
@[inherit_doc State.freeSb] def State.totalSb (s : State) : Nat :=
  (s.flash.sbs.filter (fun e => e.2.st ≠ .ledger ∧ e.2.st ≠ .dead)).length

/-- Shows the superblock counts (R264); source 291 is raised when free superblocks fall below 1 % of the total (R252). -/
def State.capShow (s : State) : State :=
  let f0 := s.fget .FLC_CAP F.FLC_CAP_FREE_SB
  let t0 := s.fget .FLC_CAP_TOTAL F.FLC_CAP_TOTAL_TOTAL_SB
  let s1 := (s.fset .FLC_CAP F.FLC_CAP_FREE_SB s.freeSb).fset .FLC_CAP_TOTAL F.FLC_CAP_TOTAL_TOTAL_SB s.totalSb
  if t0 ≤ 100 * f0 ∧ 100 * s.freeSb < s.totalSb then s1.raise 291 else s1

/-- A map change is journalled before it takes effect (R258).  DESIGN CHOICE, log entry 106. -/
def State.journal (s : State) (n : Nat) : State := s.flashUpd (fun f => { f with journal := f.journal + n })

/-- The sum of the erase counts of a superblock's members (R250). -/
def State.sbWear (s : State) (i : Nat) : Nat :=
  ((s.flash.sbs.at i).members.map (fun b => (s.flash.blocks.at b).pe)).foldl (· + ·) 0

/-- The free superblock whose members have the lowest counts (R250), the lowest number among equals, not in `out`.
DEDUCED, log entry 79. -/
def State.bestFree (s : State) (out : List Nat) : Option Nat :=
  s.flash.sbs.foldl (fun (b : Option Nat) e =>
    if e.2.st = .free ∧ ¬out.contains e.1 then
      match b with
      | some i => if s.sbWear e.1 < s.sbWear i then some e.1 else b
      | none => some e.1
    else b) none

/-- The `n` free superblocks that managed mode allocates (R250).  DEDUCED, log entry 79. -/
def State.pickSbs (s : State) : (n : Nat) → List Nat → List Nat
  | 0, l => l
  | n + 1, l => match s.bestFree l with
    | some i => s.pickSbs n (l ++ [i])
    | none => l

/-- The spare block that replaces member block `blk` of superblock `i` (R252): one of the same LUN, or else one on a channel
that the superblock does not yet use; never one of a fenced LUN.  DEDUCED, log entry 79. -/
def State.spareFor (s : State) (i blk : Nat) : Option Nat :=
  let ok (b : Nat) : Bool := !s.lunFenced (b / 262144) (b / 8192 % 32)
  let used := (s.flash.sbs.at i).members.map (· / 262144)
  match s.flash.spare.find? (fun b => ok b && b / 8192 = blk / 8192) with
  | some b => some b
  | none => s.flash.spare.find? (fun b => ok b && !used.contains (b / 262144))

/-- Takes block `b` out of the spare pool. -/
def State.takeSpare (s : State) (b : Nat) : State := s.flashUpd (fun f => { f with spare := f.spare.filter (· ≠ b) })

/-- Puts block `b` of the spare pool in the place of member block `blk` of superblock `i`. -/
def State.replace (s : State) (i blk b : Nat) : State :=
  ((s.takeSpare b).sbUpd i (fun x => { x with members := x.members.map (fun m => if m = blk then b else m) })).journal 1

/-- Whether the data of a block lies on a fenced LUN. -/
def State.blkFenced (s : State) (b : Nat) : Bool := s.lunFenced (b / 262144) (b / 8192 % 32)

/-- A good block that no superblock keeps returns to the spare pool, once erased where it holds data.  DESIGN CHOICE, log entry 106. -/
def State.returnBlock (s : State) (b : Nat) : State :=
  if s.blkFenced b ∨ (s.flash.blocks.at b).bad ≠ 0 then s
  else if (s.flash.blocks.at b).prog = [] then s.flashUpd (fun f => { f with spare := f.spare ++ [b] })
  else (s.flashUpd (fun f => { f with returning := f.returning ++ [b] })).flashQueue (b / 262144) (.erase b)

/-- Releases a superblock (R255): bad members and members on fenced LUNs are replaced by spares, or else the superblock is
lost and its good members return to the spare pool; its programmed blocks are queued for erase, and with none it is free at once. -/
def State.releaseSb (s : State) (i : Nat) : State :=
  let gone := (s.flash.sbs.at i).members.filter (fun b => s.blkFenced b || decide ((s.flash.blocks.at b).bad ≠ 0))
  let r := gone.foldl (fun (a : State × Bool) b => match a.1.spareFor i b with
    | some n => (a.1.replace i b n, a.2)
    | none => (a.1, false)) (s, true)
  let s1 := r.1
  if r.2 then
    let dirty := (s1.flash.sbs.at i).members.filter (fun b => (s1.flash.blocks.at b).prog ≠ [])
    let s2 := s1.sbUpd i (fun x => { x with st := if dirty.isEmpty then .free else .erasing dirty })
    (dirty.foldl (fun (s : State) b => s.flashQueue (b / 262144) (.erase b)) s2).journal 1
  else ((s1.flash.sbs.at i).members.foldl State.returnBlock (s1.sbUpd i (fun x => { x with st := .dead }))).journal 1

/-- Asks for the codewords of pages of move `k`, by their index, at the background ticket (R244, R257). -/
def State.moveAsk (s : State) (k : Nat) (m : Move) (l : List Nat) : State :=
  l.foldl (fun (s : State) i =>
    let p := nth m.pages i
    (List.range s.geo.k).foldl (fun (s : State) cw =>
      let a := blkAddr p.1 p.2.1 cw
      s.flashAsk ⟨.move k, a, (i, cw), s.bgTicket a.chan, 0, false, 0⟩) s) s

/-- The state with move `k` set or ended. -/
def State.putMove (s : State) (k : Nat) (m : Option Move) : State := s.flashUpd (fun f => { f with moves := f.moves.put k m })

/-- A unit as it is written again (R202, R239): one that was delivered poisoned is stored as poison. -/
def FDone.again (d : FDone) : Code :=
  if d.pois then ⟨d.code.data, (List.range 16).map (fun j => ~~~ crc32c ((d.code.data.drop (256 * j)).take 256))⟩ else d.code

/-- The units of page `i` of move `k`, if the channel holds them or all of them have been read. -/
def State.moveUnits (s : State) (k : Nat) (m : Move) (i : Nat) : Option (List Code) :=
  match m.held.find? (fun h => h.1 = i) with
  | some h => some h.2
  | none =>
    let l := s.flash.done.filter (fun d => d.who = .move k ∧ d.tag.1 = i)
    let got := (List.range s.geo.k).filterMap (fun cw => (l.find? (fun d => d.tag.2 = cw)).map FDone.again)
    if got.length = s.geo.k then some got else none

/-- Queues the programs of move `k`'s pages, in their order, as far as their units are there (R249, R257); the fuel bounds them. -/
def State.moveFeed (s : State) (k : Nat) : (fuel : Nat) → State
  | 0 => s
  | n + 1 => match s.flash.moves.at k with
    | none => s
    | some m => match m.todo with
      | [] => s
      | i :: l => match s.moveUnits k m i with
        | none => s
        | some us =>
          let c := (nth m.pages i).2.2.1 / 262144
          let s1 := (s.putMove k (some { m with todo := l })).flashUpd (fun f => { f with
            done := f.done.filter (fun d => ¬(d.who = .move k ∧ d.tag.1 = i)) })
          State.moveFeed (s1.flashQueue c (.program ⟨.move k i, s.bgTicket c, us⟩)) k n

/-- Starts the reads of move `k`, and what can be programmed at once. -/
def State.moveGo (s : State) (k : Nat) (m : Move) (l : List Nat) : State :=
  ((s.putMove k (some m)).moveAsk k m l).moveFeed k (m.todo.length + 1)

/-- Whether a superblock takes an append now. -/
def State.appending (s : State) (i : Nat) : Bool := s.flash.zones.any (fun z => z.2.sbs.contains i && z.2.append.isSome)

/-- Starts the relocations of marked superblocks that can start (R250, R251, R257): the managed flash is mounted, no append to the zone is in
progress, and there is a free superblock.  DESIGN CHOICE, log entry 106. -/
def State.relocGo (s : State) : State :=
  s.flash.relocs.foldl (fun (s : State) i => match s.bestFree [] with
    | some f =>
      if (s.flash.moves.at i).isSome ∨ s.appending i ∨ (s.flash.sbs.at i).st ≠ .used ∨ ¬s.mounted then s
      else
        let old := (s.flash.sbs.at i).members
        let new := (s.flash.sbs.at f).members
        let g := s.geo
        let pages := (List.range (powBelow g.pages * g.w)).filterMap (fun q =>
          let b := nth old (q % g.w)
          if (s.flash.blocks.at b).prog.contains (q / g.w) then some (b, q / g.w, nth new (q % g.w), q / g.w) else none)
        let ix := List.range pages.length
        (s.sbUpd f (fun x => { x with st := .used })).moveGo i ⟨some f, pages, ix, [], []⟩ ix
    | none => s) s

/-- Rebuilds member block `a` of superblock `sb`, which has failed while page `page` with units `us` was programmed, in block `b` (R249):
its earlier pages are read back, and that page's data are still held. -/
def State.rebuild (s : State) (sb a page b : Nat) (us : List Code) : State :=
  let m := (s.flash.moves.at sb).getD default
  let n := m.pages.length
  let prog := (s.flash.blocks.at a).prog
  let ix := span n prog.length
  (s.takeSpare b).moveGo sb { m with
    pages := m.pages ++ (prog ++ [page]).map (fun p => (a, p, b, p))
    todo := m.todo ++ ix ++ [n + prog.length]
    held := m.held ++ [(n + prog.length, us)] } ix

/-- Whether block `b` is being rebuilt elsewhere. -/
def State.rebuilding (s : State) (b : Nat) : Bool :=
  s.flash.moves.any (fun e => match e.2 with
    | some m => m.new.isNone && m.pages.any (fun p => p.1 = b)
    | none => false)

/-- Forgets the programs of move `k` that are queued and that `p` names by page. -/
def State.moveUnqueue (s : State) (k : Nat) (p : Nat → Bool) : State :=
  let mine (x : FCmd) : Bool := match x with
    | .program j => match j.to_ with
      | .move n i => decide (n = k) && p i
      | _ => false
    | _ => false
  let hit := (s.flash.queue.filter (fun e => e.2.any mine)).map (·.1)
  hit.foldl State.flashLevel (s.flashUpd (fun f => { f with
    queue := (f.queue.map (fun e => (e.1, e.2.filter (fun x => !mine x)))).filter (fun e => e.2 ≠ []) }))

/-- Ends move `k` without effect: the blocks that took its data return. -/
def State.moveDrop (s : State) (k : Nat) : State :=
  match s.flash.moves.at k with
  | none => s
  | some m =>
    let s1 := ((s.putMove k none).flashForget (.move k)).moveUnqueue k (fun _ => true)
    match m.new with
    | some f => s1.releaseSb f
    | none => (m.pages.map (fun p => p.2.2.1)).eraseDups.foldl State.returnBlock s1

/-- A page of move `k` cannot be programmed into block `b` (R236, R249): a spare takes the block's place, and the pages that went to it are
programmed again; `us` are the units of page `i` that the channel holds.  None where there is no spare. -/
def State.moveRedo (s : State) (k i : Nat) (us : List Code) : Option State :=
  match s.flash.moves.at k with
  | none => some s
  | some m =>
    let b := (nth m.pages i).2.2.1
    match s.spareFor (m.new.getD k) b with
    | none => none
    | some n =>
      let redo := (List.range m.pages.length).filter (fun j => (nth m.pages j).2.2.1 = b)
      let again := redo.filter (fun j => j ≠ i ∧ ¬m.todo.contains j ∧ ¬m.held.any (fun h => h.1 = j))
      let s1 := (s.takeSpare n).moveUnqueue k (fun j => redo.contains j)
      let s2 := match m.new with
        | some f => s1.replace f b n
        | none => s1
      some (s2.moveGo k { m with
        pages := m.pages.map (fun p => if p.2.2.1 = b then (p.1, p.2.1, n, p.2.2.2) else p)
        todo := redo ++ m.todo.filter (fun j => ¬redo.contains j)
        passed := m.passed.filter (fun j => ¬redo.contains j)
        held := (i, us) :: m.held.filter (fun h => h.1 ≠ i) } again)

/-! ### The channel queue -/

/-- Whether a LUN does nothing (R234). -/
def State.lunIdle (s : State) (c l : Nat) : Bool := decide (s.flash.run.at (c * 32 + l) = none)

/-- Whether another LUN of channel `c` may begin an array operation (R433): while the retrieval die is above throttle at most half of the
channel's LUNs, and one at least, are busy with them. -/
def State.arrayRoom (s : State) (c : Nat) : Bool :=
  !bitAt (s.rget .THM_THROT).toNat 9 ||
    decide ((s.flash.run.filter (fun r => r.1 / 32 = c && r.2.isSome)).length <
      max 1 ((s.flash.luns.filter (fun l => l.1 / 32 = c && l.2.isSome)).length / 2))

/-- The place of a page program (R253, R257). -/
def State.jobAddr (s : State) (j : PgmJob) : FAddr := match j.to_ with
  | .append z sb q => s.zoneAddr z (sb * 8192 + q * s.geo.k)
  | .move k i =>
    let p := nth ((s.flash.moves.at k).getD default).pages i
    blkAddr p.2.2.1 p.2.2.2 0

/-- Whether a read of block `b` is queued or in progress (R257). -/
def State.readsOn (s : State) (b : Nat) : Bool :=
  (s.flash.queue.at (b / 262144)).any (fun x => match x with
    | .read q => decide (q.addr.blk = b)
    | .retry q _ _ => decide (q.addr.blk = b)
    | _ => false) ||
  (match s.flash.run.at (b / 8192) with
    | some (.read q _ _) => decide (q.addr.blk = b)
    | _ => false)

/-- The LUN of a channel that a command goes to. -/
def State.cmdLun (s : State) : FCmd → Nat
  | .read q => q.addr.lun
  | .retry q _ _ => q.addr.lun
  | .program j => (s.jobAddr j).lun
  | .erase b => b / 8192 % 32
  | .raw j => j.addr.lun

/-- Whether a command of channel `c` may issue: it has reached the channel, its LUN is idle (R234, R433), or fenced; an erase once the reads of
its block have ended (R257); an append's program while its block is not being rebuilt. -/
def State.canIssue (s : State) (c : Nat) (x : FCmd) : Bool :=
  (s.lunIdle c (s.cmdLun x) && s.arrayRoom c || s.lunFenced c (s.cmdLun x)) && match x with
    | .read q => !q.waits
    | .erase b => !s.readsOn b
    | .program j => match j.to_ with
      | .append _ _ _ => !s.rebuilding (s.jobAddr j).blk
      | .move _ _ => true
    | _ => true

/-- The kind of a command (R244): a read comes before a program, and that before an erase. -/
def FCmd.kind : FCmd → Nat
  | .read _ => 2
  | .retry _ _ _ => 2
  | .program _ => 1
  | .erase _ => 0
  | .raw j => match j.op with
    | .program _ _ => 1
    | .erase _ => 0
    | _ => 2

/-- The ticket of a command; an erase of managed mode takes the background ticket.  DESIGN CHOICE, log entry 106. -/
def State.cmdTicket (s : State) (c : Nat) : FCmd → Nat
  | .read q => q.ticket
  | .retry q _ _ => q.ticket
  | .program j => j.ticket
  | .erase _ => s.bgTicket c
  | .raw j => j.ticket

/-- The rank of a command (R244): ticket priority, then its kind. -/
def State.cmdRank (s : State) (c : Nat) (x : FCmd) : Nat := 3 * s.priority (41 + c) (s.cmdTicket c x) + x.kind

/-- The command that channel `c` issues next, with its place in the queue (R244): the highest rank, and the oldest among
equals. -/
def State.nextCmd (s : State) (c : Nat) : Option (FCmd × Nat) :=
  ((s.flash.queue.at c).zipIdx).foldl (fun (b : Option (FCmd × Nat)) x =>
    if s.canIssue c x.1 then
      match b with
      | some y => if s.cmdRank c y.1 < s.cmdRank c x.1 then some x else b
      | none => some x
    else b) none

/-- Whether no command of channel `c` that may issue comes before a new one of rank `n` (R244). -/
def State.chanFree (s : State) (c n : Nat) : Bool := match s.nextCmd c with
  | some x => decide (s.cmdRank c x.1 < n)
  | none => true

/-- Takes the command at place `i` out of a channel's queue. -/
def State.dequeue (s : State) (c i : Nat) : State :=
  (s.flashUpd (fun f => { f with queue := f.queue.upd c (fun l => l.eraseIdx i) })).flashLevel c

/-- A LUN's run. -/
def State.setRun (s : State) (k : Nat) (r : Option FRun) : State := s.flashUpd (fun f => { f with run := f.run.put k r })

/-! ### What is stored (R240, R241) -/

/-- The ONFI row address of a page: the LUN above the block above the page, each field as wide as the part needs.
PRESUMED, log entry 107. -/
def LunGeo.row (g : LunGeo) (lun block page : Nat) : Nat :=
  let width (n : Nat) : Nat := if n ≤ 1 then 0 else (n - 1).log2 + 1
  page + (block + lun % 4 * 2 ^ width g.blocks) * 2 ^ width g.pages

/-- The next state of the PRBS31 generator x^31 + x^28 + 1 and its bit (R241).  PRESUMED, log entry 107. -/
def prbsStep (x : Nat) : Nat × Bool :=
  let b := bitAt x 30 != bitAt x 27
  (x * 2 % 2 ^ 31 + b2n b, b)

/-- The next byte of the generator, its first bit in bit 0. -/
def prbsByte (x : Nat) : Nat × Byte :=
  let r := (List.range 8).foldl (fun (r : Nat × Nat) i =>
    let y := prbsStep r.1
    (y.1, r.2 + b2n y.2 * 2 ^ i)) (x, 0)
  (r.1, byteOf r.2)

/-- Bytes exclusive-ored with the generator's sequence from state `x` (R241): scrambling, and undoing it. -/
def scramble : List Byte → Nat → List Byte
  | [], _ => []
  | b :: l, x =>
    let r := prbsByte x
    (b ^^^ r.2) :: scramble l r.1

/-- The seed of codeword `cw` at an address (R241). -/
def State.prbsSeed (s : State) (a : FAddr) : Nat :=
  ((((s.flash.luns.at a.lunKey).getD default).row a.lun a.block a.page * 8 + a.cw) ||| 1) % 2 ^ 31

/-- The information part of a codeword: user bytes, then the manifests (R241). -/
def Code.info (c : Code) : List Byte := c.data ++ c.mans.flatMap (fun m => toBytes 4 m.toNat)

/-- The codeword of an information part. -/
def Code.ofInfo (l : List Byte) : Code := ⟨l.take 4096, (List.range 16).map (fun j => wordOf (leNat l (4096 + 4 * j) 4))⟩

/-- The 4,672 bytes of a codeword as the page stores them (R240, R241). -/
def State.stored (s : State) (a : FAddr) (c : Code) : List Byte :=
  let x := scramble c.info (s.prbsSeed a)
  x ++ (Config.ldpcParity x ++ List.replicate 512 0).take 512

/-- The information part that the decoder finds in 4,672 bytes (R240). -/
def decodeWord (l : List Byte) : List Byte :=
  let x := l.take 4160
  if l.drop 4160 = (Config.ldpcParity x ++ List.replicate 512 0).take 512 then x
  else (Config.ldpcDecode l ++ List.replicate 4160 0).take 4160

/-- What is stored at a unit: its codeword, or what the decoder makes of a page programmed with RAW = 1.  DESIGN CHOICE, log entry 18. -/
def State.codeAt (s : State) (a : FAddr) : Code :=
  match s.flash.codes.at a.unit with
  | some c => c
  | none => match s.flash.raws.at (a.blk * 16384 + a.page) with
    | some l => Code.ofInfo (scramble (decodeWord ((l.drop (4672 * a.cw)).take 4672)) (s.prbsSeed a))
    | none => ⟨List.replicate 4096 0, List.replicate 16 zeroManifest⟩

/-- The bytes of a page as it is stored (R241, R243): as programmed unencoded; its codewords, with the columns after the last 0xFF; all 0xFF
where nothing has been programmed. -/
def State.pageBytes (s : State) (a : FAddr) : List Byte :=
  let n := ((s.flash.luns.at a.lunKey).map (·.pageBytes)).getD 0
  if ¬(s.flash.blocks.at a.blk).prog.contains a.page then List.replicate n 255
  else match s.flash.raws.at (a.blk * 16384 + a.page) with
    | some l => (l ++ List.replicate n 255).take n
    | none =>
      let k := ((s.flash.luns.at a.lunKey).map LunGeo.k).getD 0
      ((List.range k).flatMap (fun i => s.stored { a with cw := i } (s.codeAt { a with cw := i })) ++ List.replicate n 255).take n

/-- The CRC of block `j` of a codeword. -/
def Code.crc (c : Code) (j : Nat) : Word := crc32c ((c.data.drop (256 * j)).take 256)

/-- Whether a codeword holds a block written with poison (R202, R242): its manifest is the inverse of its CRC. -/
def Code.poisoned (c : Code) : Bool := (List.range 16).any (fun j => decide (nth c.mans j = ~~~ c.crc j))

/-- Whether a codeword is clean (R242). -/
def Code.clean (c : Code) : Bool := (List.range 16).all (fun j => decide (nth c.mans j = c.crc j))

/-! ### Delivery -/

/-- Delivers a unit to its reader at a stage (R219, R243), after the time `time` in units of 64 core cycles; a read that its source let go
arrived with HELD (R227). -/
def State.fDeliver (s : State) (q : FReq) (time stage : Nat) (code : Code) (pois ue err : Bool) : State :=
  let s1 := if err then s else s.countRead (41 + q.addr.chan) q.ticket q.held time
  let s2 := s1.flashUpd (fun f => { f with done := f.done ++ [⟨q.who, q.tag, q.re, stage, code, pois, ue, err⟩] })
  match q.who with
  | .patrol => s1
  | .move k => s2.moveFeed k 16384
  | _ => s2

/-- Marks a block for refresh (R243, R251): a managed superblock is relocated, and an open-mode block reported.  DESIGN CHOICE, log entry
106: FLC_RAW_STAT has no field for a block, so that FLC_EVT.REFRESH is the whole report. -/
def State.markRefresh (s : State) (a : FAddr) : State :=
  let s1 := s.blockUpd a.blk (fun b => { b with refresh := true })
  if s.isOpen a.chan a.lun then s1.flcEvt a.chan F.FLC_EVT_REFRESH
  else match s.flash.sbs.find? (fun e => e.2.st = .used && e.2.members.contains a.blk) with
    | some (i, _) =>
      if s.flash.relocs.contains i then s1 else (s1.flashUpd (fun f => { f with relocs := f.relocs ++ [i] })).relocGo
    | none => s1

/-- The counters of a converged decode (R264). -/
def State.countDecode (s : State) (c n : Nat) : State :=
  (s.wrap (.FLC_RD_CNT (chan c)) F.FLC_RD_CNT_COUNT 1).cnt (.FLC_CE_BITS (chan c)) F.FLC_CE_BITS_COUNT n

/-- SBAR after a converged hard decode of syndrome weight `w` (R245). -/
def sbarNext (sbar w : Nat) : Nat := (((sbar : Int) + ((w : Int) - sbar).tdiv 8)).toNat

/-- A decode at a stage converges (R245, R264): its counters, and SBAR after stage 1. -/
def State.decodeConverged (s : State) (a : FAddr) (stage w n : Nat) : State :=
  let s1 := s.countDecode a.chan n
  if stage = 0 ∧ s.loopRuns a.chan a.lun then s1.groupUpd a.grp (fun g => { g with sbar := sbarNext g.sbar w }) else s1

/-- The loop's part in a unit that delivers at ladder step `stage` with syndrome weight `w` (R246): the step is adopted when the offsets are
still those of the read's issue, and otherwise discarded. -/
def State.loopDeliver (s : State) (a : FAddr) (stage w : Nat) (offs : List Int) : State :=
  let g := s.flash.groups.at a.grp
  if !s.loopRuns a.chan a.lun ∨ stage = 16 ∨ stage = 0 then s
  else if g.list = offs then
    s.groupUpd a.grp (fun g => { g with
      offs := (List.range 15).foldl (fun t v => t.put v (s.profile.clamp (g.offs.at v + s.profile.delta stage v))) g.offs
      sbar := w })
  else s.cnt (.FLC_DISCARD (chan a.chan)) F.FLC_DISCARD_STALE 1

/-- What else a delivery at a stage does (R243, R264): its counter, and the mark for refresh. -/
def State.stageDeliver (s : State) (a : FAddr) (stage : Nat) : State :=
  let r : Reg := .FLC_RETRY (chan a.chan)
  let s1 := if stage = 0 then s else if stage = 16 then s.cnt r F.FLC_RETRY_SOFT 1 else s.cnt r F.FLC_RETRY_LADDER 1
  if stage = 16 ∨ (stage ≠ 0 ∧ s.fget (.FLC_LOOP (chan a.chan)) F.FLC_LOOP_LADDER_REFRESH ≤ stage) then s1.markRefresh a
  else s1

/-- A unit that no stage delivers (R243, stage 4). -/
def State.unitLost (s : State) (c : Nat) : State :=
  (s.cnt (.FLC_UE (chan c)) F.FLC_UE_COUNT 1).flcEvt c F.FLC_EVT_UE

/-- The stage after `stage` (R243): the ladder's next step, then the soft decode, then none. -/
def nextStage (ladder stage : Nat) : Option Nat :=
  if stage < ladder then some (stage + 1) else if stage < 16 then some 16 else none

/-- What a decode at a stage comes to (R242, R243): the unit is delivered, poisoned or not, or the read goes on. -/
inductive Stage where
  | deliver (s : State) (pois : Bool)
  | on (s : State)

/-- One decode of the unit at `a`, at a stage with the loop offsets `offs` of the read's issue (R242 to R246): a miscorrection, that the
decoder's answer or the stored manifests show, goes on as if the decode had not converged. -/
def State.decodeStage (s : State) (a : FAddr) (stage : Nat) (offs : List Int) (r : Decoded) : Stage := match r with
  | .failed _ => .on s
  | .converged w n clean =>
    let s1 := s.decodeConverged a stage w n
    let code := s.codeAt a
    if clean && (code.poisoned || code.clean) then .deliver ((s1.loopDeliver a stage w offs).stageDeliver a stage) code.poisoned
    else .on (s1.cnt (.FLC_UE (chan a.chan)) F.FLC_UE_MISCORR 1)

/-! ### The commands of reading -/

/-- The time of a delivery that no decode ends: a value left open (R219). -/
def State.freeTime (s : State) : Nat := (Config.freeWord s.free).toNat % 2 ^ 26

/-- The channel issues its next command when that is a read, or a later stage of one (R236, R243, R244).  A read
of a fenced LUN is delivered poisoned. -/
def State.flashRead (s : State) (c : Nat) : State :=
  match s.nextCmd c with
  | some (.retry q st offs, i) =>
    let s1 := s.dequeue c i
    if s.lunFenced c q.addr.lun then s1.tick.fDeliver q s.freeTime st (s.codeAt q.addr) true true false
    else (s1.setRun q.addr.lunKey (some (.read q st offs))).stageReads q.addr st offs
  | some (.read q, i) =>
    let s1 := s.dequeue c i
    if s.lunFenced c q.addr.lun then s1.tick.fDeliver q s.freeTime 0 (s.codeAt q.addr) true true false
    else
      let offs := (s.flash.groups.at q.addr.grp).list
      let s2 := (s1.setRun q.addr.lunKey (some (.read q 0 offs))).stageReads q.addr 0 offs
      s2.groupUpd q.addr.grp (fun g => { g with n := g.n + 1, last := some (q.addr.block, q.addr.page) })
  | _ => s

/-- Goes on to the next stage of a read, ahead of the channel's other commands, or delivers the unit poisoned (R243). -/
def State.readRetry (s : State) (q : FReq) (time stage : Nat) (offs : List Int) : State :=
  let a := q.addr
  let s1 := s.setRun a.lunKey none
  match nextStage s.profile.ladderLen stage with
  | some st => (s1.flashUpd (fun f => { f with queue := f.queue.upd a.chan (fun l => .retry q st offs :: l) })).flashLevel a.chan
  | none => (s1.unitLost a.chan).fDeliver q time stage (s.codeAt a) true true false

/-- A page read that ends on a LUN (R240 to R248, R251): the codeword is delivered, or the read moves to its next stage. -/
def State.pageRead (s : State) (c : Chan) (lun : Fin 32) (r : Decoded) (time : Nat) : State :=
  let k := c.val * 32 + lun.val
  match s.flash.run.at k with
  | some (.read q stage offs) =>
    let a := q.addr
    if ¬(s.flash.blocks.at a.blk).prog.contains a.page then
      (s.setRun k none).fDeliver q time stage (s.codeAt a) true false false
    else match s.decodeStage a stage offs r with
      | .on s1 => s1.readRetry q time stage offs
      | .deliver s1 pois =>
        let s2 := s1.setRun k none
        let s3 := match q.who, r with
          | .patrol, .converged _ n _ => if s.fget .FLC_PATROL F.FLC_PATROL_REFRESH_THR < n then s2.markRefresh a else s2
          | _, _ => s2
        s3.fDeliver q time stage (s.codeAt a) pois false false
  | _ => s

/-! ### Probes -/

/-- PROBE_ISSUE (R244, R245): after PROBE_INT × 16 stage-1 reads of a group, unless the channel's queue is above LO of class 3 or holds a
command that comes before a read of the background ticket. -/
def execProbeIssue (c : Chan) (g : Fin 4096) (s : State) : Res State :=
  let lun := g.val / 128
  let key := c.val * 4096 + g.val
  let x := s.flash.groups.at key
  let int := s.fget (.FLC_LOOP c) F.FLC_LOOP_PROBE_INT
  let used := s.profile.used
  match x.last, used.find? (fun v => x.lvl ≤ v), used.head? with
  | some (block, page), lvl, some v0 =>
    if int = 0 ∨ x.n < 16 * int ∨ s.lo 3 < s.fget (.FLC_QLEVEL c) F.FLC_QLEVEL_LEVEL ∨ s.lunFenced c.val lun ∨
        ¬s.lunIdle c.val lun ∨ ¬s.arrayRoom c.val ∨ ¬s.loopRuns c.val lun ∨ ¬s.chanFree c.val (3 * s.priority (41 + c.val) (s.bgTicket c.val) + 2) then
      .next s
    else
      let v := lvl.getD v0
      let up := !x.downs.contains v
      let a : FAddr := ⟨c.val, lun, block, page, 0⟩
      let s1 := s.groupUpd key (fun g => { g with
        n := g.n - 16 * int
        lvl := v + 1
        downs := if up then (g.downs ++ [v]) else g.downs.filter (· ≠ v) })
      let s2 := (s1.setRun (c.val * 32 + lun) (some (.probe key v up x.list))).applyOffs c.val lun
        (s.shifted x.list (fun w => if w = v then (if up then 1 else -1) else 0))
      .next (((s2.onfi c.val lun onfiRead).blockUpd a.blk (fun b => { b with reads := b.reads + 1 })).cnt (.FLC_PROBE c)
        F.FLC_PROBE_ISSUED 1)
  | _, _, _ => .next s

/-- A probe's result (R245, R246): below SBAR − HYST the offset moves; a result is discarded when the group's offsets have
changed since the probe's issue. -/
def State.probeResult (s : State) (c : Chan) (lun : Fin 32) (w : Fin 4097) : State :=
  let k := c.val * 32 + lun.val
  match s.flash.run.at k with
  | some (.probe g v up offs) =>
    let s1 := s.setRun k none
    let x := s.flash.groups.at g
    if x.list ≠ offs then s1.cnt (.FLC_DISCARD c) F.FLC_DISCARD_STALE 1
    else if w.val + s.fget (.FLC_LOOP c) F.FLC_LOOP_HYST < x.sbar then
      (s1.groupUpd g (fun y => { y with
        offs := y.offs.put v (s.profile.clamp (y.offs.at v + (if up then 1 else -1))) })).cnt (.FLC_PROBE c)
          F.FLC_PROBE_ADOPTED 1
    else s1
  | _ => s

/-- THRESHOLD_WRITE (R245, R247, R264): performed for groups of open-mode LUNs only, within the profile's range.  Changing an offset makes outstanding results
of the group stale, since their offsets are no longer the group's. -/
def execThresholdWrite (c : Chan) (v : Word) (s : State) : Res State :=
  let g := s.fget (.FLC_THR_SEL c) F.FLC_THR_SEL_GROUP
  let l := s.fget (.FLC_THR_SEL c) F.FLC_THR_SEL_LEVEL
  if s.dieFenced 9 ∨ ¬s.isOpen c.val (g / 128) ∨ 15 ≤ l then .next s
  else .next (s.groupUpd (c.val * 4096 + g) (fun x => { x with
    offs := x.offs.put l (s.profile.clamp (sbyte (F.FLC_THR_DATA_OFFSET.get v))) }))

/-! ### Patrol -/

/-- Codewords of a page of a LUN. -/
def State.lunK (s : State) (lunKey : Nat) : Nat := ((s.flash.luns.at lunKey).map LunGeo.k).getD 0

/-- Patrols a block (R248, R251): every codeword of its first and last programmed pages is read at the background ticket. -/
def State.patrol (s : State) (blk : Nat) : State :=
  let prog := (s.flash.blocks.at blk).prog
  match prog with
  | [] => s
  | p :: l =>
    let lo := l.foldl min p
    let hi := l.foldl max p
    let c := blk / 262144
    let t := s.bgTicket c
    (if lo = hi then [lo] else [lo, hi]).foldl (fun (s : State) page =>
      (List.range (s.lunK (blk / 8192))).foldl (fun (s : State) cw =>
        s.flashAsk ⟨.patrol, blkAddr blk page cw, (0, 0), t, 0, false, 0⟩) s) s

/-- READ_DISTURB_PATROL (R248): a block that has been read RD_LIMIT × 4,096 times since its erase is patrolled at once. -/
def execReadDisturbPatrol (c : Chan) (lun : Fin 32) (block : Fin 8192) (s : State) : Res State :=
  let blk := (c.val * 32 + lun.val) * 8192 + block.val
  if s.chanRuns c.val ∧ s.fget .FLC_PATROL F.FLC_PATROL_RD_LIMIT * 4096 ≤ (s.flash.blocks.at blk).reads then
    .next ((s.blockUpd blk (fun b => { b with reads := 0 })).patrol blk)
  else .next s

/-- PATROL_TIMER (R251): every programmed block of a running channel is patrolled. -/
def execPatrolTimer (s : State) : Res State :=
  .next ((s.flash.blocks.map (·.1)).foldl (fun (s : State) b => if s.chanRuns (b / 262144) then s.patrol b else s) s)

/-- ZQ_CALIBRATION (R238): after 2 ^ 24 commands the channel calibrates its LUNs, and counts anew. -/
def execZqCalibration (c : Chan) (s : State) : Res State :=
  if s.flash.cmds.at c.val < 2 ^ 24 then .next s
  else
    let luns := (List.range 32).filter (fun l => bitAt (s.fget (.FLC_LUN c) F.FLC_LUN_USED) l)
    .next ((luns.foldl (fun (s : State) l => s.emit (.onfi c.val l [0xF9])) s).flashUpd (fun f => { f with cmds := f.cmds.put c.val 0 }))

end Sys2Proof.Machine
end

