-- ==== Sys2Proof/Machine/FlashZones.lean ====
section
/-! DEFINITION. Writing flash (file 09_flash_storage.md, R236 and R249 to R261): programs, erases, wear and bad blocks,
superblocks and zones, appends, format and mount. -/

namespace Sys2Proof.Machine

/-! ### Wear -/

/-- The superblocks in use that are full and whose members have the lowest counts are relocated when the counts of managed
blocks spread by more than WEAR_DELTA × 8 (R250). -/
def State.wearCheck (s : State) : State :=
  let pes := (s.flash.sbs.flatMap (fun e => if e.2.st = .dead then [] else e.2.members) ++ s.flash.spare ++ s.flash.returning).map
    (fun b => (s.flash.blocks.at b).pe)
  let hi := pes.foldl max 0
  let lo := pes.foldl min hi
  let full := (s.flash.zones.flatMap (fun z => z.2.sbs.take (z.2.wp / 8192)))
  let best := full.foldl (fun (b : Option Nat) i => match b with
    | some j => if s.sbWear i < s.sbWear j then some i else b
    | none => some i) none
  match best with
  | some i =>
    if s.fget .FLC_PATROL F.FLC_PATROL_WEAR_DELTA * 8 < hi - lo ∧ ¬s.flash.relocs.contains i
    then (s.flashUpd (fun f => { f with relocs := f.relocs ++ [i] })).relocGo else s
  | none => s

/-! ### Zones -/

/-- Answers a zone command (R255): STATE, REASON, source 289. -/
def State.zoneAnswer (s : State) (reason : Nat) : State :=
  ((s.fset .FLC_ZONE_STAT F.FLC_ZONE_STAT_STATE (if reason = 0 then 2 else 3)).fset .FLC_ZONE_STAT F.FLC_ZONE_STAT_REASON
    reason).raise 289

/-- Performs FINISH of zone `z` (R255): the superblocks without data return; an OPEN zone becomes FULL. -/
def State.zoneFinish (s : State) (z : Nat) : State :=
  let x := s.flash.zones.at z
  let n := ceilDiv x.wp 8192
  let s1 := s.zoneUpd z (fun x => { x with st := if x.st = 1 then 2 else x.st, nsb := n, sbs := x.sbs.take n, after := 0 })
  (((x.sbs.drop n).foldl State.releaseSb s1).journal 1).capShow.zoneAnswer 0

/-- Performs FREE of zone `z` (R255). -/
def State.zoneFree (s : State) (z : Nat) : State :=
  let x := s.flash.zones.at z
  let s1 := s.flashUpd (fun f => { f with
    zones := f.zones.filter (fun e => e.1 ≠ z)
    relocs := f.relocs.filter (fun i => !x.sbs.contains i) })
  ((x.sbs.foldl State.releaseSb (x.sbs.foldl State.moveDrop s1)).journal 1).capShow.zoneAnswer 0

/-- Records how the append of a mover's descriptor ended. -/
def State.moverResult (s : State) (m ix status errOff : Nat) : State :=
  { s with movers := s.movers.upd m (fun u => { u with inflight := u.inflight.map (fun r =>
      if r.ix = ix then { r with result := some (status, errOff) } else r) }) }

/-- Ends the append in progress to zone `z` (R256): its descriptor's outcome is known, and a FINISH or FREE that waited takes
effect. -/
def State.appendEnd (s : State) (z status errOff : Nat) : State :=
  let x := s.flash.zones.at z
  match x.append with
  | none => s
  | some a =>
    let s1 := (s.zoneUpd z (fun x => { x with append := none })).moverResult a.m a.ix status errOff
    (if x.after = 2 then s1.zoneFinish z else if x.after = 3 then s1.zoneFree z else s1).relocGo

/-- Whether a command is a page program of the append to zone `z`. -/
def FCmd.appends (z : Nat) : FCmd → Bool
  | .program j => match j.to_ with
    | .append n _ _ => decide (n = z)
    | .move _ _ => false
  | _ => false

/-- Fails the append in progress to zone `z` with status 0x04 (R254, R256): its page programs still queued go, and the rebuilding of a
member block for it ends. -/
def State.appendFail (s : State) (z : Nat) : State :=
  let hit := (s.flash.queue.filter (fun e => e.2.any (FCmd.appends z))).map (·.1)
  let s1 := hit.foldl State.flashLevel (s.flashUpd (fun f => { f with
    queue := (f.queue.map (fun e => (e.1, e.2.filter (fun x => !x.appends z)))).filter (fun e => e.2 ≠ []) }))
  let fixes := (s.flash.zones.at z).sbs.filter (fun i => match s.flash.moves.at i with
    | some m => m.new.isNone
    | none => false)
  (fixes.foldl State.moveDrop s1).appendEnd z 0x04 0

/-- Sets a zone DAMAGED (R254): source 292; its append in progress fails. -/
def State.zoneDamage (s : State) (z : Nat) : State := ((s.zoneUpd z (fun x => { x with st := 3 })).raise 292).appendFail z

/-- Whether zone `z` has data below WP in a member block for which `p` holds. -/
def State.zoneHit (s : State) (z : Nat) (p : Nat → Bool) : Bool :=
  let x := s.flash.zones.at z
  let g := s.geo
  (x.sbs.zipIdx).any (fun e => ((s.flash.sbs.at e.1).members.zipIdx).any (fun m =>
    decide (e.2 * 8192 + m.2 * g.k < x.wp) && p m.1))

/-- Sets DAMAGED every zone that has data on a fenced LUN or channel (R254). -/
def State.damageCheck (s : State) : State :=
  (s.flash.zones.map (·.1)).foldl (fun (s : State) z =>
    let st := (s.flash.zones.at z).st
    if (st = 1 ∨ st = 2) ∧ s.zoneHit z s.blkFenced then s.zoneDamage z else s) s

/-- ZONE_OPEN (R255): reserves superblocks; the handle is one that no zone has, and which one is free. -/
def execZoneOpen (nsb : Fin 256) (s : State) : Res State :=
  if s.dieFenced 9 ∨ s.fget .FLC_ZONE_STAT F.FLC_ZONE_STAT_STATE = 1 then .next s
  else if !s.mounted then .next (s.zoneAnswer 3)
  else if nsb.val = 0 ∨ 128 < nsb.val then .next (s.zoneAnswer 6)
  else if s.freeSb < nsb.val then .next (s.zoneAnswer 1)
  else if 8388608 ≤ s.flash.zones.length then .next (s.zoneAnswer 2)
  else
    let known (h : Nat) : Bool := decide ((s.flash.zones.at h).st ≠ 0)
    let w := (Config.freeWord s.free).toNat
    let h := if 1 ≤ w ∧ w ≤ 0xFFFFFFFE ∧ ¬known w then w
      else ((List.range (s.flash.zones.length + 1)).find? (fun i => !known (i + 1))).getD 0 + 1
    let l := s.pickSbs nsb.val []
    let s1 := l.foldl (fun (s : State) i => s.sbUpd i (fun x => { x with st := .used })) s.tick
    let s2 := (s1.zoneUpd h (fun _ => ⟨1, nsb.val, 0, l, none, 0⟩)).rset .FLC_ZONE_HANDLE (wordOf h)
    .next ((s2.journal 1).capShow.wearCheck.zoneAnswer 0)

/-- The zone that FLC_ZONE_HANDLE names. -/
def State.zoneNamed (s : State) : Nat := s.fget .FLC_ZONE_HANDLE F.FLC_ZONE_HANDLE_HANDLE

/-- ZONE_FINISH (R255, R256): it waits for an append in progress. -/
def execZoneFinish (s : State) : Res State :=
  let z := s.zoneNamed
  let x := s.flash.zones.at z
  if s.dieFenced 9 ∨ s.fget .FLC_ZONE_STAT F.FLC_ZONE_STAT_STATE = 1 then .next s
  else if !s.mounted then .next (s.zoneAnswer 3)
  else if x.st = 0 then .next (s.zoneAnswer 5)
  else if x.st = 2 then .next (s.zoneAnswer 4)
  else if x.append.isSome then
    .next ((s.zoneUpd z (fun x => { x with after := 2 })).fset .FLC_ZONE_STAT F.FLC_ZONE_STAT_STATE 1)
  else .next (s.zoneFinish z)

/-- ZONE_FREE (R255, R256). -/
def execZoneFree (s : State) : Res State :=
  let z := s.zoneNamed
  let x := s.flash.zones.at z
  if s.dieFenced 9 ∨ s.fget .FLC_ZONE_STAT F.FLC_ZONE_STAT_STATE = 1 then .next s
  else if !s.mounted then .next (s.zoneAnswer 3)
  else if x.st = 0 then .next (s.zoneAnswer 5)
  else if x.append.isSome then
    .next ((s.zoneUpd z (fun x => { x with after := 3 })).fset .FLC_ZONE_STAT F.FLC_ZONE_STAT_STATE 1)
  else .next (s.zoneFree z)

/-- ZONE_QUERY (R255). -/
def execZoneQuery (s : State) : Res State :=
  let x := s.flash.zones.at s.zoneNamed
  if s.dieFenced 9 ∨ s.fget .FLC_ZONE_STAT F.FLC_ZONE_STAT_STATE = 1 then .next s
  else if !s.mounted then .next (s.zoneAnswer 3)
  else if x.st = 0 then .next (s.zoneAnswer 5)
  else
    .next (((((s.fset .FLC_ZONE_STAT F.FLC_ZONE_STAT_ZSTATE x.st).fset .FLC_ZONE_STAT F.FLC_ZONE_STAT_NSB x.nsb).fset
      .FLC_ZONE_WP F.FLC_ZONE_WP_WP x.wp)).zoneAnswer 0)

/-! ### Appends and programs -/

/-- The end of an append of `n` units at `wp` (R256): padded to the next program unit of `pu` units, within the superblock. -/
def padEnd (pu wp n : Nat) : Nat :=
  let e := wp + n
  if e % 8192 = 0 then e else e / 8192 * 8192 + min 8192 (alignUp (e % 8192) pu)

/-- The units that a source gives (R202, R205, R241): a block that holds poison is stored with the inverse of its manifest. -/
def sourceUnits (x : Source) : List Code :=
  let n := x.bytes.length / 4096
  (List.range n).map (fun i =>
    let b := (x.bytes.drop (4096 * i)).take 4096
    ⟨b, (List.range 16).map (fun j =>
      let blk := (b.drop (256 * j)).take 256
      let bad := ((x.pois.drop (4096 * i + 256 * j)).take 256).any id
      let crc := crc32c blk
      if bad then ~~~ crc else (x.mans[16 * i + j]?).getD crc)⟩)

/-- The status of a copy whose source is `x` (R182): the status at which it stops, an uncorrectable unit, poison, or
completed; with ERR_OFF. -/
def Source.status (x : Source) : Nat × Nat :=
  match x.stop, x.ue with
  | some (c, o), _ => (c, o)
  | none, some o => (0x05, o)
  | none, none => if x.poison then (0x02, ((x.pois.findIdx? id).getD 0) / 256 * 256) else (0x01, 0)

/-- ZONE_APPEND (R256): the mover's descriptor that appends takes its place at WP; its page programs are queued, padded with
zero units.  It waits while the mount runs, while its source is still read, while the zone takes another append and while data of its superblocks is
being moved. -/
def execZoneAppend (m : Mover) (ext : Option (List Byte × List Bool)) (s : State) : Res State :=
  let u := s.movers.at m.val
  match u.inflight.find? (fun r => r.d.ok && decide (r.d.dstKind = 2) && !r.started && r.result.isNone) with
  | none => .next s
  | some r =>
    let z := r.d.dst % 2 ^ 32
    let off := r.d.dst / 2 ^ 32
    let x := s.flash.zones.at z
    let mark (s : State) : State := { s with movers := s.movers.upd m.val (fun u => { u with
      inflight := u.inflight.map (fun q => if q.ix = r.ix then { q with started := true } else q) }) }
    if s.mountFailed then .next ((mark s).moverResult m.val r.ix 0x04 0)
    else if !s.mounted ∨ x.append.isSome ∨ x.sbs.any (fun i => (s.flash.moves.at i).isSome) then .next s
    else if x.st ≠ 1 ∨ (off ≠ 0xFFFFFFFF ∧ off ≠ x.wp * 4096) ∨ x.nsb * 8192 < x.wp + r.d.len / 4096 then
      .next ((mark s).moverResult m.val r.ix 0x04 0)
    else match s.moverSource (.ring m.val r.ix) false 5 r ext with
      | .error s1 => .next s1
      | .ok src =>
        let g := s.geo
        let units := sourceUnits src
        let st := src.status
        let s1 := (mark src.st.settle).flashForget (.ring m.val r.ix)
        if units.isEmpty then .next (s1.moverResult m.val r.ix st.1 st.2)
        else
          let e := min (x.nsb * 8192) (padEnd (g.w * s.profile.ppw * g.k) x.wp units.length)
          let zero : Code := ⟨List.replicate 4096 0, List.replicate 16 zeroManifest⟩
          let unit (v : Nat) : Code := if v < x.wp then s.codeAt (s.zoneAddr z v) else (units[v - x.wp]?).getD zero
          let pages := span (x.wp / g.k) (ceilDiv e g.k - x.wp / g.k)
          let jobs := pages.map (fun p =>
            (⟨.append z (p * g.k / 8192) (p * g.k % 8192 / g.k), r.d.ticket, (span (p * g.k) g.k).map unit⟩ : PgmJob))
          let s2 := s1.zoneUpd z (fun y => { y with append := some ⟨m.val, r.ix, jobs.length, e - x.wp, st.1, st.2⟩ })
          .next (jobs.foldl (fun (s : State) j => s.flashQueue (s.jobAddr j).chan (.program j)) s2)

/-- APPEND_COMPLETE (R256): every page has programmed; WP moves past the units and their padding. -/
def execAppendComplete (z : Word) (s : State) : Res State :=
  let x := s.flash.zones.at z.toNat
  match x.append with
  | some a =>
    if a.left ≠ 0 then .next s
    else
      let wp := x.wp + a.units
      let s1 := s.zoneUpd z.toNat (fun x => { x with wp := wp, st := if wp = x.nsb * 8192 ∧ x.st = 1 then 2 else x.st })
      .next (s1.appendEnd z.toNat a.status a.errOff)
  | none => .next s

/-- A page program that a channel cannot perform, on a fenced LUN (R236): the append fails; a move takes a spare block, or ends. -/
def State.programLost (s : State) (j : PgmJob) : State := match j.to_ with
  | .append z _ _ => s.appendFail z
  | .move k i => (s.moveRedo k i j.units).getD (s.moveDrop k)

/-- The channel issues its next command when that is a page program (R244, R249). -/
def State.flashProgram (s : State) (c : Nat) : State :=
  match s.nextCmd c with
  | some (.program j, i) =>
    let a := s.jobAddr j
    let s1 := s.dequeue c i
    if s.lunFenced c a.lun then s1.programLost j
    else (s1.setRun a.lunKey (some (.program j))).onfi c a.lun onfiProgram
  | _ => s

/-- Stores the units of a programmed page. -/
def State.storePage (s : State) (blk page : Nat) (units : List Code) : State :=
  (s.flashUpd (fun f => { f with
    codes := units.zipIdx.foldl (fun t x => t.put ((blk * 16384 + page) * 8 + x.2) (some x.1)) f.codes })).blockUpd blk
      (fun b => { b with prog := b.prog ++ [page] })

/-- A page of the append to zone `z` has programmed. -/
def State.appendPassed (s : State) (z : Nat) : State := s.zoneUpd z (fun x => { x with
  append := x.append.map (fun a => { a with left := a.left - 1 }) })

/-- A page program fails (R249): its block is grown-bad. -/
def State.programFailed (s : State) (c : Chan) (b : Nat) : State :=
  ((s.cnt (.FLC_FAIL c) F.FLC_FAIL_PGM 1).blockUpd b (fun x => { x with bad := 2 })).journal 1

/-- Page `i` of move `k` has programmed (R249, R257): when all pages that block `b` takes for a failed member have, it takes that member's
place, and the append's page counts as programmed; when all of the repair have, the move ends. -/
def State.movePassed (s : State) (k i : Nat) : State :=
  match s.flash.moves.at k with
  | none => s
  | some m =>
    let m1 := { m with passed := m.passed ++ [i], held := m.held.filter (fun h => h.1 ≠ i) }
    let b := (nth m.pages i).2.2.1
    let done := ((List.range m.pages.length).filter (fun j => (nth m.pages j).2.2.1 = b)).all (fun j => m1.passed.contains j)
    let s1 := s.putMove k (if m.new.isNone ∧ m1.passed.length = m.pages.length then none else some m1)
    if m.new.isSome ∨ ¬done then s1
    else
      let s2 := s1.replace k (nth m.pages i).1 b
      (s2.flash.zones.filter (fun z => z.2.sbs.contains k && z.2.append.isSome)).foldl (fun (s : State) z => s.appendPassed z.1) s2

/-- What a page program's status does (R249, R252, R254, R256, R257): a page that programs counts for its append or move; a failure makes the
block grown-bad, and the page and the block's earlier pages go to a spare block, or else the zone is damaged. -/
def State.programStatus (s : State) (c : Chan) (lun : Fin 32) (pass : Bool) : State :=
  let k := c.val * 32 + lun.val
  match s.flash.run.at k with
  | some (.program j) =>
    let s1 := s.setRun k none
    let a := s.jobAddr j
    match j.to_ with
    | .append z n _ =>
      let x := s.flash.zones.at z
      if x.append.isNone then s1
      else if pass then (s1.storePage a.blk a.page j.units).appendPassed z
      else
        let s2 := s1.programFailed c a.blk
        let sb := nth x.sbs n
        match s2.spareFor sb a.blk with
        | some b => (s2.rebuild sb a.blk a.page b j.units).flcEvt c.val F.FLC_EVT_PGM_FAIL
        | none =>
          let s3 := s2.flcEvt c.val F.FLC_EVT_PGM_FAIL
          if (s.flash.blocks.at a.blk).prog ≠ [] then s3.zoneDamage z else s3.appendFail z
    | .move m i =>
      if (s.flash.moves.at m).isNone then s1
      else if pass then (s1.storePage a.blk a.page j.units).movePassed m i
      else
        let s2 := s1.programFailed c a.blk
        let zones := s.flash.zones.filter (fun z => z.2.sbs.contains m && z.2.append.isSome)
        ((s2.moveRedo m i j.units).getD (zones.foldl (fun (s : State) z => s.zoneDamage z.1) (s2.moveDrop m))).flcEvt c.val
          F.FLC_EVT_PGM_FAIL
  | _ => s

/-! ### Erases and relocations -/

/-- A member block has been erased, or replaced by a spare block: when none is left the superblock is free; a block of no superblock returns
to the spare pool. -/
def State.erased (s : State) (b : Nat) : State :=
  if s.flash.returning.contains b then
    s.flashUpd (fun f => { f with returning := f.returning.filter (· ≠ b), spare := f.spare ++ [b] })
  else match s.flash.sbs.find? (fun e => match e.2.st with | .erasing l => l.contains b | _ => false) with
  | some (i, _) => s.sbUpd i (fun x => match x.st with
    | .erasing l => { x with st := if (l.filter (· ≠ b)).isEmpty then .free else .erasing (l.filter (· ≠ b)) }
    | _ => x)
  | none => s

/-- A member block that cannot be erased (R249, R252): a spare block takes its place, or else its superblock is lost, and its other members
return to the spare pool. -/
def State.eraseLost (s : State) (b : Nat) : State :=
  match s.flash.sbs.find? (fun e => match e.2.st with | .erasing l => l.contains b | _ => false) with
  | some (i, e) => match s.spareFor i b with
    | some n => (s.erased b).replace i b n
    | none =>
      let left := match e.st with
        | .erasing l => l.filter (· ≠ b)
        | _ => []
      let s1 := s.sbUpd i (fun x => { x with st := .dead })
      (e.members.filter (fun m => m ≠ b ∧ ¬left.contains m)).foldl State.returnBlock
        (s1.flashUpd (fun f => { f with returning := f.returning ++ left }))
  | none => s.flashUpd (fun f => { f with returning := f.returning.filter (· ≠ b) })

/-- A block after an erase (R248, R250). -/
def State.eraseBlock (s : State) (b : Nat) : State :=
  s.flashUpd (fun f => { f with
    codes := f.codes.filter (fun e => e.1 / 131072 ≠ b)
    raws := f.raws.filter (fun e => e.1 / 16384 ≠ b)
    blocks := f.blocks.upd b (fun x => { x with pe := min (x.pe + 1) (2 ^ 24 - 1), reads := 0, prog := [], refresh := false }) })

/-- An erase's status on a LUN (R244, R249, R250): the channel's next command is the erase of a block of that LUN. -/
def State.eraseStatus (s : State) (c : Chan) (lun : Fin 32) (pass : Bool) : State :=
  match s.nextCmd c.val with
  | some (.erase b, i) =>
    if b / 8192 ≠ c.val * 32 + lun.val ∨ s.lunFenced c.val lun.val then s
    else
      let s1 := (s.dequeue c.val i).onfi c.val lun.val onfiErase
      if pass then ((s1.eraseBlock b).erased b).capShow.wearCheck.relocGo
      else
        let s2 := ((s1.cnt (.FLC_FAIL c) F.FLC_FAIL_ERS 1).blockUpd b (fun x => { x with bad := 2 })).journal 1
        ((s2.eraseLost b).capShow).flcEvt c.val F.FLC_EVT_ERS_FAIL
  | _ => s

/-- RELOCATION_SWITCH (R250, R251, R257): the data of a superblock marked for relocation has been read and programmed; the map entry
switches, and the old blocks are erased.  A relocation that could not start yet starts when it can. -/
def execRelocationSwitch (sb : Nat) (s : State) : Res State :=
  match s.flash.moves.at sb with
  | none => .next s.relocGo
  | some m => match m.new with
    | none => .next s
    | some f =>
      if m.passed.length < m.pages.length then .next s
      else
        let old := (s.flash.sbs.at sb).members
        let new := (s.flash.sbs.at f).members
        let s1 := ((s.putMove sb none).sbUpd sb (fun x => { x with members := new })).sbUpd f (fun x => { x with members := old })
        let s2 := s1.flashUpd (fun u => { u with relocs := u.relocs.filter (· ≠ sb) })
        .next ((s2.releaseSb f).journal 1).capShow

/-! ### Fences -/

/-- Ends a raw command with RESULT `r` (R262, R264). -/
def State.rawEnd (s : State) (c : Chan) (r : Nat) : State :=
  ((s.fset (.FLC_RAW_STAT c) F.FLC_RAW_STAT_STATE (if r = 0 then 2 else 3)).fset (.FLC_RAW_STAT c) F.FLC_RAW_STAT_RESULT
    r).flcEvt c.val F.FLC_EVT_RAW_DONE

/-- The commands of a LUN end when it is fenced, or its channel is (R236): reads with an error, programs failing their append or moved on,
erases replaced, a raw command with RESULT 5. -/
def State.lunDrop (s : State) (c l : Nat) : State :=
  let k := c * 32 + l
  let mine (x : FCmd) : Bool := decide (s.cmdLun x = l)
  let drop (s : State) (x : FCmd) : State := match x with
    | .read q => s.fDeliver q 0 0 default true false true
    | .retry q st _ => s.fDeliver q 0 st default true false true
    | .program j => s.programLost j
    | .erase b => s.eraseLost b
    | .raw _ => s.rawEnd (chan c) 5
  let out := (s.flash.queue.at c).filter mine
  let s1 := (s.flashUpd (fun f => { f with queue := f.queue.upd c (fun q => q.filter (fun x => !mine x)) })).flashLevel c
  let s2 := out.foldl drop s1
  let s3 := s2.setRun k none
  match s.flash.run.at k with
  | some (.read q st _) => s3.fDeliver q 0 st default true false true
  | some (.program j) => s3.programLost j
  | _ => s3

/-- Fences a channel (R236): its commands end, and the fence is logged. -/
def State.chanFence (s : State) (c : Nat) (logOk : Bool) : State :=
  let s1 := (List.range 32).foldl (fun (s : State) l => s.lunDrop c l) (s.fset (.FLC_STAT (chan c)) F.FLC_STAT_STATE 4)
  (s1.logRec ⟨0x08, 5, c + 2 ^ 10, 0, 0, false⟩ logOk).flcEvt c F.FLC_EVT_CHAN_FENCED

/-- Fences a LUN (R236), and its channel when every LUN in use on it is fenced. -/
def State.lunFence (s : State) (c l : Nat) (logOk : Bool) : State :=
  let used := s.fget (.FLC_LUN (chan c)) F.FLC_LUN_USED
  let fenced := s.fget (.FLC_LUN_FENCE (chan c)) F.FLC_LUN_FENCE_FENCED ||| 2 ^ l
  if s.lunFenced c l || !bitAt used l then s
  else
    let s1 := (s.fset (.FLC_LUN_FENCE (chan c)) F.FLC_LUN_FENCE_FENCED fenced).lunDrop c l
    let s2 := (s1.logRec ⟨0x08, 5, c + l / 4 * 2 ^ 5 + l % 4 * 2 ^ 8, 0, 0, false⟩ logOk).flcEvt c F.FLC_EVT_LUN_FENCED
    let s3 := if used &&& fenced = used then s2.chanFence c logOk else s2
    s3.damageCheck.capShow

/-- LUN_TIMEOUT (R236). -/
def execLunTimeout (c : Chan) (lun : Fin 32) (logOk : Bool) (s : State) : Res State :=
  .next (s.lunFence c.val lun.val logOk)

/-- LEDGER_CHECKPOINT (R247, R258): after 2 ^ 16 journal records, with the loop's state. -/
def execLedgerCheckpoint (s : State) : Res State :=
  if s.flash.journal < 2 ^ 16 then .next s
  else .next (s.flashUpd (fun f => { f with journal := f.journal - 2 ^ 16, saved := f.groups }))

/-! ### Format and mount -/

/-- Whether a profile is well formed (R261). -/
def Profile.ok (p : Profile) : Bool :=
  decide (1 ≤ p.levels ∧ 1 ≤ p.ppw ∧ p.ppw ≤ 4 ∧ p.offMin ≤ p.offMax ∧ bits (p.b 0) 7 1 = 0 ∧ bits (p.b 4) 4 4 = 0) &&
    (span 5 3 ++ (List.range 15).map (fun j => 0x1F + 16 * j) ++ span 0x100 256).all (fun i => p.b i = 0)

/-- Whether a span that holds a retrieval engine or a barge mover has a flash descriptor in flight (R259): a query's read, or a
descriptor of the ring of a mover that a span holds.  DEDUCED, log entry 88. -/
def State.flashBusy (s : State) : Bool :=
  let query (q : FReq) : Bool := match q.who with
    | .query _ => true
    | _ => false
  s.movers.any (fun m => (s.ownEntry (.mover m.1)).isSome &&
    m.2.inflight.any (fun r => decide (r.d.dstKind = 2) || decide (r.d.op = 0 ∧ r.d.srcKind = 2))) ||
  s.flash.queue.any (fun q => q.2.any (fun x => match x with
    | .read r => query r
    | .retry r _ _ => query r
    | _ => false)) ||
  s.flash.run.any (fun r => match r.2 with
    | some (.read q _ _) => query q
    | _ => false)

/-- Whether a LUN is usable: in use and not fenced. -/
def State.lunUsable (s : State) (k : Nat) : Bool :=
  (s.flash.luns.at k).isSome && !s.lunFenced (k / 32) (k % 32)

/-- FORMAT (R259, R261): started, or refused with a reason and source 290. -/
def execFormat (pct : Fin 32) (s : State) : Res State :=
  let refuse (s : State) (n : Nat) : State := ((s.fset .FLC_FMT_STAT F.FLC_FMT_STAT_STATE 3).fset .FLC_FMT_STAT
    F.FLC_FMT_STAT_REASON n).raise 290
  let m := s.fget .FLC_MOUNT F.FLC_MOUNT_STATE
  if s.dieFenced 9 then .next s
  else if (1 ≤ m ∧ m ≤ 5) ∨ s.flash.fmt.isSome ∨ s.flashBusy then .next (refuse s 1)
  else
    let r := s.hubRead (sbfAddr (s.fget .FLC_FMT_PROF F.FLC_FMT_PROF_OFFSET)) 512
    if r.err.isSome ∨ r.pois.any id ∨ ¬Profile.ok r.bytes then .next (refuse r.st 2)
    else if pct.val = 0 then .next (refuse r.st 3)
    else if !(s.flash.luns.any (fun e => s.lunUsable e.1)) then .next (refuse r.st 4)
    else .next ((r.st.flashUpd (fun f => { f with fmt := some (pct.val, r.bytes) })).fset .FLC_FMT_STAT F.FLC_FMT_STAT_STATE 1)

/-- The channel with most entries left in a list keyed by channel, not in `out`: the lowest among equals. -/
def fullest (t : Tab (List Nat)) (out : List Nat) : Option Nat :=
  (t.foldl (fun (b : Option (Nat × Nat)) e =>
    if out.contains e.1 ∨ e.2 = [] then b
    else match b with
      | some x => if x.2 < e.2.length then some (e.1, e.2.length) else b
      | none => some (e.1, e.2.length)) none).map (·.1)

/-- Takes `n` LUNs for one group of superblocks, from the channels with most left and from distinct ones as long as there are any
(R253). -/
def pickLuns : (n : Nat) → Tab (List Nat) → (out group : List Nat) → List Nat × Tab (List Nat)
  | 0, t, _, g => (g, t)
  | n + 1, t, out, g => match (fullest t out).orElse (fun _ => fullest t []) with
    | none => (g, t)
    | some c => pickLuns n (t.upd c (·.drop 1)) (c :: out) (g ++ (t.at c).take 1)

/-- The groups of `w` LUNs that superblocks lie on (R253); the fuel bounds them.  DESIGN CHOICE, log entry 106. -/
def lunGroups (w : Nat) : (fuel : Nat) → Tab (List Nat) → List (List Nat)
  | 0, _ => []
  | n + 1, t =>
    let r := pickLuns w t [] []
    if r.1.length < w ∨ w = 0 then [] else r.1 :: lunGroups w n r.2

/-- The superblocks of a format (R253): in each group of LUNs, their blocks taken in order. -/
def formSbs (groups : List (List (List Nat))) : List (List Nat) :=
  groups.flatMap (fun g =>
    (List.range ((g.map List.length).foldl min (nth g 0).length)).map (fun i => g.map (fun l => nth l i)))

/-- The codewords of a label copy: its layout is not given (R259).  DESIGN CHOICE, log entry 106. -/
def labelCode (n : Nat) : Code :=
  let b := (Config.freeBytes n ++ List.replicate 4096 0).take 4096
  ⟨b, (List.range 16).map (fun j => crc32c ((b.drop (256 * j)).take 256))⟩

/-- Writes the label into page 0 of block 0 of a LUN (R259), erased before. -/
def State.writeLabel (s : State) (k : Nat) : State :=
  let b := k * 8192
  let s1 := if (s.flash.blocks.at b).prog = [] then s else s.eraseBlock b
  s1.storePage b 0 ((List.range (s.lunK k)).map (fun i => labelCode (s.free + i)))

/-- FORMAT_DONE (R250, R252, R253, R259): factory-bad blocks recorded, programmed blocks of managed LUNs erased, labels and an empty ledger
written, all zones discarded; the first 64 superblocks hold the ledger.  DESIGN CHOICE, log entry 106. -/
def execFormatDone (marked : List (Chan × Fin 32 × Fin 8192)) (s : State) : Res State :=
  match s.flash.fmt with
  | none => .next s
  | some (pct, prof) =>
    let masks := (List.range 32).map (fun c => s.fget (.FLC_OPEN (chan c)) F.FLC_OPEN_MASK)
    let openLun (k : Nat) : Bool := bitAt (nth masks (k / 32)) (k % 32)
    let usable := (s.flash.luns.map (·.1)).filter s.lunUsable
    let managed0 := usable.filter (fun k => !openLun k && ((s.flash.luns.at k).map LunGeo.fits).getD false)
    let geo := (managed0.head?.bind (fun k => s.flash.luns.at k)).getD default
    let managed := managed0.filter (fun k => s.flash.luns.at k = some geo)
    let order := (List.range 32).flatMap (fun l => managed.filter (fun k => k % 32 = l))
    let marks := marked.map (fun x => (x.1.val * 32 + x.2.1.val) * 8192 + x.2.2.val)
    let blocks0 := marks.foldl (fun (t : Tab FlBlock) b => t.upd b (fun x => { x with bad := if x.bad = 2 then 2 else 1 }))
      (s.flash.blocks.map (fun e => (e.1, if managed.contains (e.1 / 8192) then
        { e.2 with pe := if e.2.prog = [] then e.2.pe else min (e.2.pe + 1) (2 ^ 24 - 1), reads := 0, prog := [], refresh := false }
        else e.2)))
    let blocks := blocks0.filter (fun e => e.2 ≠ default)
    let goodOf (k : Nat) : List Nat :=
      (List.range geo.blocks).filterMap (fun b =>
        if (b = 0 ∧ k % 32 < 4) ∨ (Tab.at blocks (k * 8192 + b)).bad ≠ 0 then none else some (k * 8192 + b))
    let keep (l : List Nat) : Nat := l.length - l.length * pct / 100
    let spare := order.flatMap (fun k => (goodOf k).drop (keep (goodOf k)))
    let byChan : Tab (List Nat) := (List.range 32).map (fun c => (c, order.filter (fun k => k / 32 = c)))
    let groups := (lunGroups geo.w order.length byChan).map (fun g => g.map (fun k => (goodOf k).take (keep (goodOf k))))
    let sbs := (formSbs groups).zipIdx.map (fun x => (x.2, (⟨x.1, if x.2 < 64 then .ledger else .free⟩ : Sb)))
    let s1 := s.flashUpd (fun f => { f with
      codes := f.codes.filter (fun e => !managed.contains (e.1 / 2 ^ 30)),
      raws := f.raws.filter (fun e => !managed.contains (e.1 / 2 ^ 27)),
      blocks := blocks, groups := [], saved := [], zones := [], sbs := sbs, spare := spare,
      relocs := [], moves := [], returning := [], journal := 0, fmt := none, label := some (prof, masks, geo, pct) })
    let s2 := { (usable.filter (fun k => k % 32 < 4)).foldl State.writeLabel s1 with free := s1.free + 8 }
    .next ((s2.capShow.fset .FLC_FMT_STAT F.FLC_FMT_STAT_STATE 2).fset .FLC_FMT_STAT F.FLC_FMT_STAT_REASON 0 |>.raise 290)

/-- Whether a part may be used (R235). -/
def foundOk (x : FoundLun) : Bool :=
  x.onfi && x.copies.any id && decide (x.rate.val ≠ 0 ∧ 9344 ≤ x.pageBytes ∧ x.blocks ≤ 8192 ∧ x.pages ≤ 16384)

/-- The LUNs in use (R235): in ascending order of target, LUN and channel, until 256 TB of raw capacity; from the first that lies beyond
the limit on, none. -/
def usedLuns (found : List FoundLun) : List FoundLun :=
  let order := (List.range 32).flatMap (fun l => (List.range 32).flatMap (fun c =>
    found.filter (fun x => foundOk x && decide (x.lun.val = l ∧ x.chan.val = c))))
  (order.foldl (fun (a : List FoundLun × Nat) x =>
    let n := a.2 + x.pageBytes * x.pages * x.blocks
    (if n ≤ 256000000000000 then a.1 ++ [x] else a.1, n)) ([], 0)).1

/-- The rate code of a channel with these LUNs (R237): the highest that every part declares and RATE_MAX allows, NV-LPDDR4
above 1,600 MT/s only with DQ training, and no higher than training passes. -/
def channelRate (l : List FoundLun) (rmax trained : Nat) : Nat :=
  let decl := (l.map (fun x => if !x.dq && decide (5 < x.rate.val) then 5 else x.rate.val)).foldl min 7
  min (min decl rmax) trained

/-- The channels and LUNs that the defect log fences (R236, R391). -/
def State.loggedFences (s : State) (c : Nat) : Nat × Bool :=
  (s.log.recs.filter (fun r => r.typ = 0x08 ∧ ¬r.torn ∧ r.a % 32 = c)).foldl (fun (a : Nat × Bool) r =>
    if bitAt r.a 10 then (a.1, true) else (a.1 ||| 2 ^ (bits r.a 5 3 * 4 + bits r.a 8 2), a.2)) (0, false)

/-- The commands of discovery on a channel (R235, R238): Reset, Read ID and the parameter page of each target found. -/
def State.discover (s : State) (c : Nat) (found : List FoundLun) : State :=
  ((found.filter (fun x => x.chan.val = c)).map (fun x => x.lun.val / 4 * 4)).eraseDups.foldl (fun (s : State) l =>
    s.onfi c l [[0xFF], [0x90], [0xEC]]) s

/-- A channel with LUNs `mine` takes its rate (R235, R237, R238): the timing mode is set, and ZQ calibrated. -/
def State.setRate (s : State) (c : Nat) (mine : List FoundLun) (rate : Nat) : State :=
  mine.foldl (fun (s : State) x => s.onfi c x.lun.val [[0xEF], [0xF9]]) (s.fset (.FLC_STAT (chan c)) F.FLC_STAT_RATE rate)

/-- MOUNT (R235, R237, R260, steps 1 and 2): discovery and training of the channels, with the fences of the defect log, and
the label's open-mode masks. -/
def execMount (found : List FoundLun) (trained : List (Fin 8)) (logOk : Bool) (s : State) : Res State :=
  if s.dieFenced 9 ∨ s.fget .RTV_STAT F.RTV_STAT_STATE ≠ 1 ∨ s.fget .FLC_MOUNT F.FLC_MOUNT_STATE ≠ 0 then .next s
  else
    let used := usedLuns found
    let s0 := s.flashUpd (fun f => { f with luns := used.foldl (fun t x =>
      t.put (x.chan.val * 32 + x.lun.val) (some ⟨x.pageBytes, x.pages, x.blocks⟩)) [] })
    let s1 := (List.range 32).foldl (fun (s : State) c =>
      let r : Reg := .FLC_STAT (chan c)
      let mine := used.filter (fun x => x.chan.val = c)
      let targets := (found.filter (fun x => x.chan.val = c)).foldl (fun m x => m ||| 2 ^ (x.lun.val / 4)) 0
      let mask := mine.foldl (fun m x => m ||| 2 ^ x.lun.val) 0
      let fences := s.loggedFences c
      let rate := channelRate mine (s.fget (.FLC_CTL (chan c)) F.FLC_CTL_RATE_MAX) ((trained[c]?).map (·.val) |>.getD 0)
      let openMask := match s.flash.label with
        | some (_, l, _, _) => nth l c
        | none => s.fget (.FLC_OPEN (chan c)) F.FLC_OPEN_MASK
      let s1 := ((((s.discover c found).fset r F.FLC_STAT_TARGETS targets).fset (.FLC_LUN (chan c)) F.FLC_LUN_USED mask).fset
        (.FLC_LUN_FENCE (chan c)) F.FLC_LUN_FENCE_FENCED (fences.1 &&& mask)).fset (.FLC_OPEN (chan c)) F.FLC_OPEN_MASK openMask
      if mine.isEmpty then s1.fset r F.FLC_STAT_STATE 5
      else if fences.2 || decide (fences.1 &&& mask = mask) then s1.fset r F.FLC_STAT_STATE 4
      else if rate = 0 then s1.chanFence c logOk
      else (s1.setRate c mine rate).fset r F.FLC_STAT_STATE 3) s0
    .next (s1.fset .FLC_MOUNT F.FLC_MOUNT_STATE 3)

/-- What the end of the mount does to the flash (R247, R254, R260): MOUNTED with the loop's saved state and the write pointers
found, or FAILED; source 288.  A write pointer moves only past units of the last program unit.  A superblock of no zone that a relocation
had reserved is erased, and blocks of no superblock that hold data return to the spare pool. -/
def State.mountEnd (s : State) (ok : Bool) (wps : List (Word × Nat)) : State :=
  if ok then
    let s1 := s.flashUpd (fun f => { f with
      groups := f.saved
      zones := f.zones.map (fun e => match wps.find? (fun x => x.1.toNat = e.1) with
        | some (_, w) => if e.2.st = 1 ∧ e.2.wp ≤ w ∧ w ≤ e.2.nsb * 8192 then (e.1, { e.2 with wp := w }) else e
        | none => e) })
    let idle := (s1.flash.sbs.filter (fun e => e.2.st = .used && !s1.flash.zones.any (fun z => z.2.sbs.contains e.1))).map (·.1)
    ((idle.foldl State.releaseSb (s1.fset .FLC_MOUNT F.FLC_MOUNT_STATE 6)).damageCheck.capShow).raise 288
  else (s.fset .FLC_MOUNT F.FLC_MOUNT_STATE 7).raise 288

end Sys2Proof.Machine
end

