-- ==== Sys2Proof/Machine/RetrievalMath.lean ====
section
/-! DEFINITION. The arithmetic of the retrieval engines (file 10_retrieval_engines.md): descriptors, scores, filters, heaps, walks
and posting lists (R269 to R282). -/

namespace Sys2Proof.Machine

/-! ### Descriptors (R269) -/

/-- A descriptor of 256 bytes. -/
abbrev QDesc := List Byte

/-- `n` bytes of a descriptor from offset `o`, and bits of its word at `o`. -/
def QDesc.f (d : QDesc) (o n : Nat) : Nat := leNat d o n
@[inherit_doc QDesc.f] def QDesc.w (d : QDesc) (o lo len : Nat) : Nat := bits (leNat d o 4) lo len

/-- The fields of a descriptor (R269). -/
def QDesc.kind (d : QDesc) : Nat := d.w 0 0 4
@[inherit_doc QDesc.kind] def QDesc.quiet (d : QDesc) : Bool := d.w 0 4 1 = 1
@[inherit_doc QDesc.kind] def QDesc.nofwd (d : QDesc) : Bool := d.w 0 5 1 = 1
@[inherit_doc QDesc.kind] def QDesc.k (d : QDesc) : Nat := d.f 2 2
@[inherit_doc QDesc.kind] def QDesc.rsize (d : QDesc) : Nat := d.f 0x20 2
@[inherit_doc QDesc.kind] def QDesc.nattr (d : QDesc) : Nat := d.w 0x20 16 4
@[inherit_doc QDesc.kind] def QDesc.vfmt (d : QDesc) : Nat := d.w 0x20 20 4
@[inherit_doc QDesc.kind] def QDesc.voff (d : QDesc) : Nat := d.f 0x24 2
@[inherit_doc QDesc.kind] def QDesc.vdim (d : QDesc) : Nat := d.f 0x26 2
@[inherit_doc QDesc.kind] def QDesc.zfirst (d : QDesc) : Nat := d.f 0x28 2
@[inherit_doc QDesc.kind] def QDesc.zlast (d : QDesc) : Nat := d.f 0x2A 2
@[inherit_doc QDesc.kind] def QDesc.npz (d : QDesc) : Nat := d.f 0x2C 4
@[inherit_doc QDesc.kind] def QDesc.nboff (d : QDesc) : Nat := d.f 0x30 2
@[inherit_doc QDesc.kind] def QDesc.csize (d : QDesc) : Nat := d.f 0x33 1
@[inherit_doc QDesc.kind] def QDesc.list (d : QDesc) : Nat := d.f 0x38 2
@[inherit_doc QDesc.kind] def QDesc.beam (d : QDesc) : Nat := d.w 0x38 16 5
@[inherit_doc QDesc.kind] def QDesc.maxround (d : QDesc) : Nat := d.f 0x3C 2
@[inherit_doc QDesc.kind] def QDesc.nterm (d : QDesc) : Nat := d.w 0x3C 16 4
@[inherit_doc QDesc.kind] def QDesc.minmatch (d : QDesc) : Nat := max 1 (d.w 0x3C 20 4)
@[inherit_doc QDesc.kind] def QDesc.nleaf (d : QDesc) : Nat := d.w 0x50 12 4

/-- The entry nodes of a walk (R269): 0xFFFF_FFFF means none. -/
def QDesc.entries (d : QDesc) : List Nat :=
  ((List.range 4).map (fun j => d.f (0x40 + 4 * j) 4)).filter (fun n => n ≠ 0xFFFFFFFF)

/-- Bytes of a vector (R272). -/
def QDesc.vb (d : QDesc) : Nat := if d.vfmt = 2 then d.vdim / 8 else d.vdim

/-- Records in a unit (R272). -/
def QDesc.rpu (d : QDesc) : Nat := if d.rsize = 0 then 0 else 4096 / d.rsize

/-- Whether VDIM suits the vector format (R273). -/
def vdimOk (vfmt vdim : Nat) : Bool :=
  if vfmt = 1 then [8, 16, 32, 64].contains vdim
  else if vfmt = 2 then decide (64 ≤ vdim ∧ vdim ≤ 4096 ∧ vdim % 64 = 0)
  else if vfmt = 3 ∨ vfmt = 4 then decide (32 ≤ vdim ∧ vdim ≤ 1024 ∧ vdim % 32 = 0)
  else false

/-- Whether two regions of a record do not overlap. -/
def apart (a b : Nat × Nat) : Bool := decide (a.2 ≤ b.1 ∨ b.2 ≤ a.1 ∨ a.1 = a.2 ∨ b.1 = b.2)

/-- Whether regions of a record lie within it and do not overlap (R272). -/
def regionsOk (rsize : Nat) (l : List (Nat × Nat)) : Bool :=
  l.all (fun r => r.2 ≤ rsize) && decide (l.Pairwise (fun a b => apart a b = true))

/-- Whether the `n` bytes from `o` of a descriptor are 0. -/
def QDesc.zero (d : QDesc) (o n : Nat) : Bool := d.f o n = 0

/-- Whether filter leaf `j` is well formed (R275). -/
def QDesc.leafOk (d : QDesc) (j : Nat) : Bool :=
  let w := d.f (0x60 + 12 * j) 4
  decide (bits w 3 4 ≤ 8 ∧ bits w 7 2 ≠ 3 ∧ bits w 0 3 < d.nattr ∧ w / 2 ^ 12 = 0)

/-- Whether a scan's or walk's descriptor is well formed (R269, R270, R272). -/
def QDesc.okRecords (d : QDesc) (walkCtx : Nat) : Bool :=
  let regs := [(0, 8 + 4 * d.nattr), (d.voff, d.voff + d.vb)]
  decide (16 ≤ d.rsize ∧ d.rsize ≤ 4096 ∧ d.rsize % 16 = 0 ∧ d.nattr ≤ 8 ∧ d.voff % 4 = 0 ∧ d.zfirst ≤ d.zlast) &&
    vdimOk d.vfmt d.vdim && decide (d.w 0x3C 16 8 = 0) && decide (d.nleaf ≤ 12) &&
    (List.range 12).all (fun j => if j < d.nleaf then d.leafOk j else d.zero (0x60 + 12 * j) 12) &&
    (if d.vfmt = 1 then d.zero 8 6 else d.zero 0x10 6) &&
    if d.kind = 1 then
      d.zero 0x18 6 && d.zero 0x2C 8 && d.zero 0x38 6 && d.zero 0x40 16 && regionsOk d.rsize regs
    else
      decide (d.vfmt ≠ 1 ∧ 8 ≤ d.csize ∧ d.csize ≤ 64 ∧ d.csize % 8 = 0 ∧ d.nboff % 4 = 0 ∧ 16 ≤ d.list ∧ d.list ≤ 1024 ∧
        d.k ≤ d.list ∧ 1 ≤ d.beam ∧ d.beam ≤ 16 ∧ 1 ≤ d.maxround ∧ 0 < d.npz ∧ d.npz % d.rpu = 0 ∧
        d.list + d.k ≤ walkCtx) && !d.entries.isEmpty && d.zero 0x32 1 &&
        regionsOk d.rsize (regs ++ [(d.nboff, d.nboff + 4)])

/-- Whether a lexical query's descriptor is well formed (R269, R270, R281). -/
def QDesc.okLexical (d : QDesc) : Bool :=
  d.zero 8 0x2C && d.zero 0x38 6 && d.zero 0x40 0x14 && decide (1 ≤ d.nterm ∧ d.nterm ≤ 12) &&
    (List.range 12).all (fun j =>
      if j < d.nterm then decide (d.f (0x64 + 12 * j) 4 % 4096 = 0 ∧ d.f (0x68 + 12 * j) 4 ≠ 0)
      else d.zero (0x60 + 12 * j) 12)

/-- Whether a descriptor is well formed for a pipeline (R270). -/
def QDesc.ok (d : QDesc) (kind walkCtx : Nat) : Bool :=
  decide (d.kind = kind ∧ 1 ≤ d.k ∧ d.k ≤ 1024) && decide (d.w 0 6 10 = 0) && d.zero 0x0E 2 && d.zero 0x16 2 &&
    d.zero 0x1E 2 && decide (d.f 8 6 % 64 = 0 ∧ d.f 0x10 6 % 64 = 0 ∧ d.f 0x18 6 % 64 = 0) && decide (d.w 0x20 24 8 = 0) &&
    decide (d.w 0x34 4 28 = 0) && decide (d.w 0x38 21 11 = 0) && decide (d.w 0x3C 24 8 = 0) && decide (d.w 0x50 9 3 = 0) &&
    decide (d.w 0x50 16 16 = 0) && d.zero 0x54 12 && d.zero 0xF0 16 &&
    (if kind = 3 then d.okLexical else d.okRecords walkCtx)

/-! ### Scores (R273) -/

/-- How many bits are set in the exclusive or of two byte strings. -/
def hamming (a b : List Byte) : Nat := ((List.zip a b).map (fun p => popCount 8 (p.1 ^^^ p.2).toNat)).foldl (· + ·) 0

/-- An INT8 element. -/
def int8 (b : Byte) : Int := signed 8 b.toNat

/-- The score of a vector (R273): `q` is the query vector, `lut` the PQ table. -/
def qScore (vfmt vdim : Nat) (q lut v : List Byte) : Word :=
  if vfmt = 1 then
    let entry (m : Nat) : Word := to32 (fp16.decode (leNat lut (2 * (m * 256 + (nth v m).toNat)) 2))
    match (List.range vdim).map entry with
    | [] => 0
    | x :: l => to32 (of32 (l.foldl f32add x)).negate
  else if vfmt = 2 then to32 (FV.ofInt (-(hamming q v : Int)))
  else if vfmt = 3 then to32 (FV.ofInt (((List.zip q v).map (fun p => int8 p.1 * int8 p.2)).foldl (· + ·) 0))
  else to32 (FV.ofInt (-(((List.zip q v).map (fun p => (int8 p.1 - int8 p.2) ^ 2)).foldl (· + ·) 0)))

/-- The score of a neighbour code (R273). -/
def codeScore (q c : List Byte) : Word := to32 (FV.ofInt (-(hamming q c : Int)))

/-- Whether score `a` is below score `b`. -/
def scoreLt (a b : Word) : Bool := FV.lt (of32 a) (of32 b)

/-! ### The filter (R275) -/

/-- Whether an attribute value passes a comparison: `op` 0 to 8, by type. -/
def leafTest (op typ x a b : Nat) : Bool :=
  let lt (u v : Nat) : Bool :=
    if typ = 2 then FV.lt (of32 (wordOf u)) (of32 (wordOf v))
    else if typ = 1 then decide (signed 32 u < signed 32 v) else decide (u < v)
  let nan (u v : Nat) : Bool := decide (typ = 2) && ((of32 (wordOf u)).isNan || (of32 (wordOf v)).isNan)
  let le (u v : Nat) : Bool := !nan u v && !lt v u
  let eq (u v : Nat) : Bool := le u v && le v u
  if op = 0 then eq x a else if op = 1 then !eq x a else if op = 2 then lt x a else if op = 3 then le x a
  else if op = 4 then lt a x else if op = 5 then le a x else if op = 6 then le a x && le x b
  else if op = 7 then decide (x &&& a ≠ 0) else decide (x &&& a = a)

/-- Whether a record with attributes `attr` passes a descriptor's filter (R275). -/
def QDesc.passes (d : QDesc) (attr : Nat → Nat) : Bool :=
  let leaves := (List.range d.nleaf).map (fun j =>
    let o := 0x60 + 12 * j
    let w := d.f o 4
    (bits w 10 2, xor (leafTest (bits w 3 4) (bits w 7 2) (attr (bits w 0 3)) (d.f (o + 4) 4) (d.f (o + 8) 4)) (bitAt w 9)))
  let groups := (List.range 4).filterMap (fun g =>
    let l := (leaves.filter (fun x => x.1 = g)).map (·.2)
    if l.isEmpty then none
    else some (xor (if d.w 0x50 g 1 = 1 then l.any id else l.all id) (d.w 0x50 (4 + g) 1 = 1)))
  if d.w 0x50 8 1 = 1 then groups.any id || groups.isEmpty else groups.all id

/-! ### Heaps (R276) -/

/-- Whether record `a` is a better match than `b`: the higher score, and of equal scores the lower identifier. -/
def QRec.better (a b : QRec) : Bool := scoreLt b.score a.score || (!scoreLt a.score b.score && decide (a.rid < b.rid))

/-- A heap, best first, with a record put in its place. -/
def heapPlace (r : QRec) : List QRec → List QRec
  | [] => [r]
  | x :: l => if r.better x then r :: x :: l else x :: heapPlace r l

/-- A heap of at most `k` records with a record inserted; a NaN score never enters. -/
def heapInsert (k : Nat) (l : List QRec) (r : QRec) : List QRec :=
  if (of32 r.score).isNan then l else (heapPlace r l).take k

/-- The heaps of a query merged into one of `k` records. -/
def heapMerge (k : Nat) (l : List (List QRec)) : List QRec := l.flatten.foldl (heapInsert k) []

/-! ### Walks (R278, R279) -/

/-- Whether candidate `a` ranks above `b`. -/
def WalkEnt.above (a b : WalkEnt) : Bool :=
  match a.score, b.score with
  | none, none => decide (a.node < b.node)
  | none, some _ => true
  | some _, none => false
  | some x, some y => scoreLt y x || (!scoreLt x y && decide (a.node < b.node))

/-- The highest-ranked of some candidates, or the lowest with `low`. -/
def walkPick (low : Bool) (l : List WalkEnt) : Option WalkEnt :=
  l.foldl (fun (b : Option WalkEnt) x => match b with
    | some y => if (if low then y.above x else x.above y) then some x else b
    | none => some x) none

/-- insert() of R278: below `n` entries it adds; else it adds above the lowest-ranked entry that is not being read, which it
evicts. -/
def walkInsert (n : Nat) (l : List WalkEnt) (x : WalkEnt) : List WalkEnt :=
  if l.length < n then l ++ [x]
  else match walkPick true (l.filter (fun y => y.st ≠ .reading)) with
    | some y => if x.above y then l.erase y ++ [x] else l
    | none => l

/-- A list in which the first entry of node `n` in state `a` goes to state `b`; a node that ENTRY0 to ENTRY3 name twice has two
entries. -/
def walkSet (n : Nat) (a b : NodeSt) : List WalkEnt → List WalkEnt
  | [] => []
  | x :: l => if x.node = n ∧ x.st = a then { x with st := b } :: l else x :: walkSet n a b l

/-- The two bits of the visited filter for a node (R279). -/
def visitBits (n : Nat) : List Nat :=
  let c := (crc32c (toBytes 4 n)).toNat
  [c % 65536, c / 65536]

/-- visited() and visit() of R279. -/
def walkSeen (v : List Nat) (n : Nat) : Bool := (visitBits n).all v.contains
@[inherit_doc walkSeen] def walkVisit (v : List Nat) (n : Nat) : List Nat :=
  (visitBits n).foldl (fun l b => if l.contains b then l else b :: l) v

/-- The `n` best candidates in state new (R278). -/
def walkBest : (n : Nat) → List WalkEnt → List WalkEnt
  | 0, _ => []
  | n + 1, l => match walkPick false l with
    | some x => x :: walkBest n (l.erase x)
    | none => []

/-! ### Posting lists (R281, R282) -/

/-- The postings of a unit up to the end marker, with whether the list ends there. -/
def postings : List (List Byte) → List (Nat × Nat) × Bool
  | [] => ([], false)
  | c :: l =>
    if leNat c 0 6 = 0xFFFFFFFFFFFF then ([], true)
    else
      let r := postings l
      ((leNat c 0 6, (nth c 6).toNat) :: r.1, r.2)

/-- Whether the documents of some postings ascend from `last`. -/
def ascends : Option Nat → List (Nat × Nat) → Bool
  | _, [] => true
  | last, (d, _) :: l => (match last with | some x => decide (x < d) | none => true) && ascends (some d) l

/-- Takes a term's delivered units in their turn (R282): none when a document does not exceed the one before it. -/
def TermSt.take (n : Nat) : (fuel : Nat) → TermSt → Option TermSt
  | 0, t => some t
  | f + 1, t =>
    if t.ended then some t
    else match t.got.find? (fun x => x.1 = t.taken) with
      | some (_, b) =>
        let p := postings (chunks 8 b)
        if ascends t.last p.1 then
          TermSt.take n f { t with
            got := t.got.filter (fun x => x.1 ≠ t.taken)
            taken := t.taken + 1
            posts := t.posts ++ p.1
            last := match p.1.getLast? with | some x => some x.1 | none => t.last
            ended := p.2 || decide (t.taken + 1 = n) }
        else none
      | none => some t

/-- The next document of a merge and the terms that hold it (R282): none while a term that has not ended has no posting. -/
def lexNext (l : List TermSt) : Option Nat :=
  if l.any (fun t => t.posts.isEmpty && !t.ended) then none
  else (l.filterMap (fun t => t.posts.head?.map (·.1))).foldl (fun (m : Option Nat) d => match m with
    | some x => some (min x d)
    | none => some d) none

/-- Merges the postings that wait (R282): each document that enough terms hold is scored; answers the terms, the heap, and the
postings scored and documents passed. -/
def lexMerge (d : QDesc) : (fuel : Nat) → List TermSt → List QRec → Nat → Nat → List TermSt × List QRec × Nat × Nat
  | 0, l, h, e, p => (l, h, e, p)
  | f + 1, l, h, e, p => match lexNext l with
    | none => (l, h, e, p)
    | some doc =>
      let hits := l.zipIdx.filterMap (fun x => match x.1.posts.head? with
        | some (c, w) => if c = doc then some (x.2, w) else none
        | none => none)
      let l1 := l.map (fun t => match t.posts with
        | (c, _) :: r => if c = doc then { t with posts := r } else t
        | [] => t)
      if hits.length < d.minmatch then lexMerge d f l1 h e p
      else
        let term (x : Nat × Nat) : Word := to32 ((fp16.decode (d.f (0x62 + 12 * x.1) 2)).mul (FV.ofInt x.2))
        let sc := match hits.map term with
          | [] => 0
          | x :: r => r.foldl f32add x
        let p1 := if (of32 sc).isNan then p else p + 1
        lexMerge d f l1 (heapInsert d.k h ⟨doc, sc, hits.length⟩) (e + hits.length) p1

end Sys2Proof.Machine
end

