-- ==== Sys2Proof/Machine/RetrievalOps.lean ====
section
/-! DEFINITION. Operations of the retrieval engines (file 10_retrieval_engines.md): pipelines and their doorbells, admission, asking
for units and failing a query (R265 to R292). -/

namespace Sys2Proof.Machine

/-! ### Pipelines -/

/-- A query of pipeline `p` and descriptor index `i`. -/
def qkey (p i : Nat) : Nat := p * 2 ^ 32 + i

/-- Descriptors of a pipeline's queue (R266) and slots of its result area (R283). -/
def State.nDesc (s : State) (p : Nat) : Nat := (s.queuePart p).len / 256
@[inherit_doc State.nDesc] def State.nSlot (s : State) (p : Nat) : Nat := (s.resultPart p).len / 16448

/-- The state with the retrieval engines, pipeline `p`, or query `k` changed. -/
def State.pipeUpd (s : State) (p : Nat) (f : PipeUnit → PipeUnit) : State :=
  { s with retr := { s.retr with pipes := s.retr.pipes.upd p f } }
@[inherit_doc State.pipeUpd] def State.qUpd (s : State) (k : Nat) (f : Query → Query) : State :=
  { s with retr := { s.retr with queries := s.retr.queries.upd k (Option.map f) } }

/-- The query `k` is over: its slots and contexts are free (R268). -/
def State.queryRelease (s : State) (k : Nat) : State :=
  { s with retr := { s.retr with queries := s.retr.queries.put k none } }

/-- Sets a bit of RTV_EVT, and raises its source when the bit was clear: sources 297 and 298 (R280, R295). -/
def State.rtvEvt (s : State) (f : Fld) (src : Nat) : State :=
  if s.bget .RTV_EVT f then s else (s.bset .RTV_EVT f true).raise src

/-- Sets a bit of RTV_EVT and raises its source, each time (R290, R294). -/
def State.rtvRaise (s : State) (f : Fld) (src : Nat) : State := (s.bset .RTV_EVT f true).raise src

/-- Whether retrieval engine `e` is live: neither it nor its die is fenced. -/
def State.reLive (s : State) (e : Nat) : Bool :=
  !bitAt (s.fget .RTV_STAT F.RTV_STAT_RE_FENCED) e && !s.dieFenced 9

/-- The live engines of a pipeline's RE_MASK. -/
def State.liveRes (s : State) (p : Nat) : List Nat :=
  (List.range 16).filter (fun e => bitAt (s.pipe p).reMask e && s.reLive e)

/-- A doorbell value reaches pipeline `p` (R260, R266): held until the mount ends; a write index more than the queue's length
ahead of the admitted index, or behind it, is ignored. -/
def State.rtvDoorbell (s : State) (p v : Nat) : State :=
  if !s.mounted && !s.mountFailed then s.pipeUpd p (fun u => { u with heldDb := some v })
  else if ahead (s.qrd p) v ≤ s.nDesc p then s.rset (.RTV_QWR (Fin.ofNat 64 p)) (wordOf v)
  else s.bset .RTV_EVT F.RTV_EVT_OVR true

/-- The mount has ended: the doorbells held take effect (R260). -/
def State.rtvRelease (s : State) : State :=
  (s.retr.pipes.map (·.1)).foldl (fun (s : State) p =>
    match (s.retr.pipes.at p).heldDb with
    | some v => (s.pipeUpd p (fun u => { u with heldDb := none })).rtvDoorbell p v
    | none => s) s

/-! ### Slots and contexts (R267, R268) -/

/-- The query slots of engine `e` in use. -/
def State.reSlots (s : State) (e : Nat) : List Nat :=
  s.queries.flatMap (fun q => (q.2.slots.filter (fun x => x.1 = e)).map (·.2))

/-- The lowest free query slot of engine `e`, if it has one. -/
def State.reSlot (s : State) (e : Nat) : Option Nat := (List.range 16).find? (fun i => !(s.reSlots e).contains i)

/-- Walk slots in use, and walk contexts held, by all pipelines or by one. -/
def State.wslots (s : State) : List Nat := s.queries.filterMap (fun q => q.2.wslot)
@[inherit_doc State.wslots] def State.ctxUsed (s : State) : Nat := (s.queries.map (fun q => q.2.ctx)).foldl (· + ·) 0
@[inherit_doc State.wslots] def State.ctxOf (s : State) (p : Nat) : Nat :=
  ((s.queries.filter (fun q => q.2.pipe = p)).map (fun q => q.2.ctx)).foldl (· + ·) 0

/-- The engine that a lexical query runs on (R282): the live engine of RE_MASK with the fewest queries in flight. -/
def State.lexEngine (s : State) (p : Nat) : Option Nat :=
  (s.liveRes p).foldl (fun (b : Option Nat) e => match b with
    | some x => if (s.reSlots e).length < (s.reSlots x).length then some e else b
    | none => some e) none

/-- What holds the head of a pipeline (R267). -/
inductive AdmitHold where
  | res | eng | ctx
  deriving DecidableEq, Repr

/-- The bytes of descriptor `i` as they stand in the queue. -/
def State.queueBytes (s : State) (p i : Nat) : List Byte :=
  (s.readAt true 0 ((s.queuePart p).base + i % s.nDesc p * 256) 256).bytes

/-- Contexts that the head of a walk pipeline needs: none when its descriptor asks for more than WALK_CTX, which is malformed. -/
def State.walkNeed (s : State) (p i : Nat) : Nat :=
  let d : QDesc := s.queueBytes p i
  if (s.pipe p).walkCtx < d.list + d.k then 0 else d.list + d.k

/-- Why the head of pipeline `p` cannot be admitted, if a slot or context is missing (R267). -/
def State.admitHold (s : State) (p : Nat) : Option AdmitHold :=
  let i := s.qrd p
  if s.nSlot p ≤ ahead (s.rrd p) i then some .res
  else if (s.pipe p).kind = 1 then
    (if (s.liveRes p).all (fun e => (s.reSlot e).isSome) then none else some .eng)
  else if (s.pipe p).kind = 3 then
    (if ((s.lexEngine p).bind s.reSlot).isSome ∨ (s.liveRes p).isEmpty then none else some .eng)
  else if s.wslots.length < 4096 ∧ s.ctxOf p + s.walkNeed p i ≤ (s.pipe p).walkCtx then none else some .ctx

/-- Whether the entries that name the retrieval engines of pipeline `p` as members run (R131): a DRAIN or STOP of one of them ends the
admission of the pipeline.  DEDUCED, log entry 108: until a START. -/
def State.pipeRuns (s : State) (p : Nat) : Bool :=
  ((List.range 16).filter (bitAt (s.pipe p).reMask)).all (fun e => match s.ownEntry (.re e) with
    | some j => decide ((s.spans.at j).st = .running)
    | none => true)

/-- Whether pipeline `p` has a head that its span, and those of its engines, let it take in (R131, R267). -/
def State.hasHead (s : State) (p : Nat) : Bool :=
  (s.pipe p).valid && decide (s.qrd p ≠ s.qwr p) && decide ((s.spans.at (s.pipe p).span).st = .running) && s.pipeRuns p &&
    !s.dieFenced 9 && (s.mounted || s.mountFailed)

/-! ### Failing and asking -/

/-- A query begins to fail with a status (R290): it asks for nothing more, and what is on its way will be discarded. -/
def State.queryFailNow (s : State) (k code zi off : Nat) : State :=
  match s.retr.queries.at k with
  | some q =>
    if q.fail.isSome ∨ q.stage ≠ 0 then s
    else
      let fly := (s.flash.run.filter (fun r => match r.2 with
        | some (.read x _ _) => decide (x.who = .query k)
        | _ => false)).length
      (s.flashForget (.query k)).qUpd k (fun q => { q with fail := some code, errZone := zi, errOff := off, fly := fly })
  | none => s

/-- Asks for unit `u` of the zone at index `zi` of the pipeline's list, for engine `re` (R271): a zone that does not exist, a FREE
zone or a unit beyond WP fails the query with 0x05. -/
def State.qAsk (s : State) (k zi u re : Nat) (tag : Nat × Nat) : State :=
  match s.retr.queries.at k with
  | some q =>
    if q.fail.isSome then s
    else match (s.pipe q.pipe).zones[zi]? with
      | some h =>
        if s.zoneReadable h u then
          (s.flashAsk ⟨.query k, s.zoneAddr h u, tag, q.ticket, re, false, 0⟩).qUpd k (fun q => { q with fly := q.fly + 1 })
        else s.queryFailNow k 0x05 zi (u * 4096)
      | none => s.queryFailNow k 0x05 zi (u * 4096)
  | none => s

/-- The zone index and unit of a scan's unit `g` (R277). -/
def scanPlace : List (Nat × Nat) → Nat → Nat × Nat
  | [], g => (0, g)
  | (z, n) :: l, g => if g < n then (z, g) else scanPlace l (g - n)

/-- Keeps up to 32 unit reads of a scan in flight on each engine (R277); the fuel bounds the reads asked for. -/
def State.scanFeed (s : State) (k : Nat) : (fuel : Nat) → State
  | 0 => s
  | f + 1 => match s.retr.queries.at k with
    | some q =>
      if q.fail.isSome then s
      else match q.plan.find? (fun x => x.2.1 < x.2.2.1 ∧ x.2.2.2 < 32) with
        | some (e, g, hi, fl) =>
          let z := scanPlace q.zones g
          let s1 := s.qUpd k (fun q => { q with
            plan := q.plan.map (fun x => if x.1 = e then (e, g + 1, hi, fl + 1) else x) })
          State.scanFeed (s1.qAsk k z.1 z.2 e (e, z.1 * 2 ^ 32 + z.2)) k f
        | none => s
    | none => s

/-- Keeps up to 4 unit reads in flight for each term (R282). -/
def State.lexFeed (s : State) (k : Nat) : (fuel : Nat) → State
  | 0 => s
  | f + 1 => match s.retr.queries.at k with
    | some q =>
      if q.fail.isSome then s
      else
        let d : QDesc := q.desc
        match (q.terms.zipIdx).find? (fun x => !x.1.ended && decide (x.1.asked < d.f (0x68 + 12 * x.2) 4) &&
            decide (x.1.asked < x.1.taken + x.1.got.length + 4)) with
        | some (t, j) =>
          let u := d.f (0x64 + 12 * j) 4 / 4096 + t.asked
          let s1 := s.qUpd k (fun q => { q with terms := setNth q.terms j { t with asked := t.asked + 1 } })
          State.lexFeed (s1.qAsk k (d.f (0x60 + 12 * j) 2) u ((q.slots.head?.map (·.1)).getD 0) (j, t.asked)) k f
        | none => s
    | none => s

/-- The engine that takes a delivered node (R278): the live engine of RE_MASK with the fewest nodes queued. -/
def State.nodeEngine (s : State) (p : Nat) : Option Nat :=
  let nodes := s.queries.flatMap (fun q => q.2.sel.map (fun x => x.2.2))
  let n (e : Nat) : Nat := (nodes.filter (· = e)).length
  (s.liveRes p).foldl (fun (b : Option Nat) e => match b with
    | some x => if n e < n x then some e else b
    | none => some e) none

/-- Begins the next round of a walk, or ends it (R278): status 0x01 with no candidate left, 0x02 at the limit. -/
def State.walkSelect (s : State) (k : Nat) : State :=
  match s.retr.queries.at k with
  | some q =>
    let d : QDesc := q.desc
    if q.fail.isSome ∨ q.fin.isSome then s
    else if d.maxround ≤ q.round then s.qUpd k (fun q => { q with fin := some 0x02 })
    else
      let sel := (walkBest d.beam (q.list.filter (fun x => x.st = .new))).map (·.node)
      if sel.isEmpty then s.qUpd k (fun q => { q with fin := some 0x01 })
      else if sel.any (fun n => d.zlast < d.zfirst + n / d.npz) then s.queryFailNow k 0x08 0 0
      else
        let s1 := s.qUpd k (fun q => { q with
          round := q.round + 1
          list := sel.foldl (fun l n => walkSet n .new .reading l) q.list })
        sel.foldl (fun (s : State) n =>
          s.qAsk k (d.zfirst + n / d.npz) (n % d.npz / d.rpu) 0 (n, 0)) s1
  | none => s

end Sys2Proof.Machine
end

