-- ==== Sys2Proof/Machine/Spans.lean ====
section
/-! DEFINITION. The span control interface (file 05_spans_and_images.md, R130 to R133): doorbells, commands, quiet leaves, event
rings, and releasing what a span's image holds. -/

namespace Sys2Proof.Machine

/-! ### Doorbells (R132) -/

/-- The pipelines whose RE_MASK has retrieval engine `r`. -/
def State.pipesOf (s : State) (r : Nat) : List Nat :=
  (s.image.pipes.filter (fun e => e.2.valid && bitAt e.2.reMask r)).map (·.1)

/-- Delivers value `v`, with the ticket of its write, of the doorbell of entry `i` to a leaf (R132). -/
def State.deliverLeaf (s : State) (i v ticket : Nat) (l : Leaf) : State :=
  match l with
  | .engine e => s.ringEngine e i v ticket
  | .re r => (s.pipesOf r).foldl (fun (s : State) p => s.rtvDoorbell p v) s
  | .mover m => s.moverIndex m v
  | .part _ => s

/-- Delivers value `v` of the doorbell of entry `i` to the members of entry `j`, or holds or drops it there, by the state of
`j` (R132). -/
def State.deliverEntry (s : State) (i v ticket : Nat) (j : Nat) : State :=
  match (s.spans.at j).st with
  | .running => (s.spans.at j).members.foldl (fun (s : State) l => s.deliverLeaf i v ticket l) s
  | .idle => s.spanUpd j (fun e => { e with held := some (v, ticket + if i = j then 16 else 0) })
  | .faulted => s.spanUpd j (fun e => { e with held := some (v, ticket + if i = j then 16 else 0) })
  | .empty => s
  | _ => s.dbDrop 1

/-- The doorbell of entry `i` with value `v` and a ticket (R132). -/
def State.ringSpan (s : State) (i v ticket : Nat) : State :=
  match (s.spans.at i).st with
  | .running => (s.subtree i).foldl (fun (s : State) j => s.deliverEntry i v ticket j) s
  | .idle => s.deliverEntry i v ticket i
  | .faulted => s.deliverEntry i v ticket i
  | _ => s.dbDrop 1

/-- DOORBELL (R36, R132). -/
def execDoorbell (sp : SpanIx) (v : Word) (ticket : Ticket) (s : State) : Res State :=
  let t := s.taskTicket ticket.val
  .next ((s.ringSpan sp.val v.toNat t).groupCmd sp.val 8 v.toNat t)

/-- EVENT_RING_POP (R133): a read of CFG_SPAN_EVT_t pops the oldest entry; 0 when the ring is empty. -/
def execEventRingPop (t : Tgt) (s : State) : Res State :=
  let r := s.rings.at t.val
  match r.ents with
  | [] => .next (s.reply (.word 0))
  | x :: l =>
    let s1 := { s with rings := s.rings.put t.val { r with ents := l } }
    .next ((s1.setLine (32 + t.val) (!l.isEmpty)).reply (.word (wordOf x)))

/-! ### Commands (R131) -/

/-- A command that is not performed (R131). -/
def State.cmdErr (s : State) : State := s.bset .CFG_SPAN_ERR F.CFG_SPAN_ERR_CMD_ERR true

/-- Whether entry `i`, or an entry above it, is LOADING. -/
def State.underLoading (s : State) (i : Nat) : Bool := (s.above i).any (fun j => (s.spans.at j).st = .loading)

/-- The entries of the subtree of `i` whose state accepts a command, when entry `i` accepts it (R131); CMD_ERR is set when it
does not, or when another entry of the subtree does not. -/
def State.accepting (s : State) (i : Nat) (ok : SpanSt → Bool) : State × List Nat :=
  if !ok (s.spans.at i).st || s.underLoading i then (s.cmdErr, [])
  else
    let l := s.subtree i
    let yes := l.filter (fun j => ok (s.spans.at j).st && !s.underLoading j)
    (if yes.length = l.length then s else s.cmdErr, yes)

/-- States that a command needs. -/
def stIdle (x : SpanSt) : Bool := x = .idle || x = .faulted
@[inherit_doc stIdle] def stBusy (x : SpanSt) : Bool := x = .running || x = .draining || x = .faulted

/-- The engines among the members of some entries. -/
def State.entryEngines (s : State) (l : List Nat) : List Nat :=
  l.flatMap (fun j => (s.spans.at j).members.filterMap (fun x => match x with | .engine e => some e | _ => none))

/-- The pipelines whose engines are members of some entries. -/
def State.entryPipes (s : State) (l : List Nat) : List Nat :=
  (l.flatMap (fun j => (s.spans.at j).members.flatMap (fun x => match x with
    | .re r => s.pipesOf r
    | _ => []))).eraseDups

/-- Delivers the doorbell that an entry held at its START (R132): one of its own to its subtree, one of a parent's to its own
leaves. -/
def State.deliverHeld (s : State) (j : Nat) : State :=
  match (s.spans.at j).held with
  | none => s
  | some (v, t) =>
    let s1 := s.spanUpd j (fun e => { e with held := none })
    if 16 ≤ t then s1.ringSpan j v (t % 16) else s1.deliverEntry j v (t % 16) j

/-- START of entry `i` (R131): each engine leaf begins a task at entry point `arg`, then held doorbells are delivered.  The
signals and releases of the synchronisation points of the entries begin anew. -/
def State.startSpan (s : State) (i arg ticket : Nat) : State :=
  let r := s.accepting i stIdle
  let l := r.2
  let engs := r.1.entryEngines l
  let s1 := l.foldl (fun (s : State) j => s.spanUpd j (fun e =>
    { e with st := .running, fault := 0, sig := [], sigDev := [], rel := [], aborted := [], drained := 0 })) r.1
  let s2 := engs.foldl (fun (s : State) e =>
    let s1 := s.engUpd e (fun u => { u with seen := u.seen.filter (fun x => !l.contains (x.1 / 256)) })
    if (((s1.engs.at e).entries[arg]?).getD 0xFFFF) = 0xFFFF ∨ s1.absent e then s1 else s1.ringEngine e i arg ticket) s1
  l.foldl State.deliverHeld s2

/-- Ends the work of the members of some entries (R131, R291): engines abort, the queries of their pipelines end with 0x07, and forwards whose
copy has not begun are given up. -/
def State.haltWork (s : State) (l : List Nat) : State :=
  let pipes := s.entryPipes l
  let s1 := (s.entryEngines l).foldl State.abortEngine s
  let s2 := (s1.queries.filter (fun q => pipes.contains q.2.pipe)).foldl (fun (s : State) q => s.queryFailNow q.1 0x07 0 0) s1
  pipes.foldl (fun (s : State) p => (s.retr.pipes.at p).waiting.foldl State.queryRelease
    (s.pipeUpd p (fun u => { u with waiting := [] }))) s2

/-- STOP of entry `i` (R131, R155, R291). -/
def State.stopSpan (s : State) (i : Nat) : State :=
  let r := s.accepting i stBusy
  let l := r.2
  ((r.1.setSpans l .stopping).haltWork l).modeStopped l

/-- DRAIN of entry `i` (R131). -/
def State.drainSpan (s : State) (i : Nat) : State :=
  let r := s.accepting i (fun x => x = .running)
  r.1.setSpans r.2 .draining

/-- CLEAR of entry `i` (R131). -/
def State.clearSpan (s : State) (i : Nat) : State :=
  let r := s.accepting i stIdle
  let l := r.2
  let s1 := (r.1.entryEngines l).foldl (fun (s : State) e =>
    let site : Site := Fin.ofNat 128 (s.siteOf e)
    ((((s.rset (.ENG_ARITH site 0) 0).rset (.ENG_ARITH site 1) 0).rset (.ENG_ARITH site 2) 0).rset (.ENG_ARITH site 3) 0).rset
      (.ENG_ARITH site 4) 0) r.1
  let s2 := (s1.entryPipes l).foldl (fun (s : State) p => s.pipeUpd p (fun u => { u with cntQ := 0, cntF := 0 })) s1
  (l.foldl (fun (s : State) j => s.spanUpd j (fun e => { e with fault := 0 })) s2).setSpans l .idle

/-! ### Releasing (R131, R147) -/

/-- Releases what some entries hold (R131, R147): the entries become EMPTY, and their leaves, routes, partitions, pipelines,
schedules, codebooks and extents are free. -/
def State.release (s : State) (l : List Nat) : State :=
  let engs := s.entryEngines l
  let s1 := s.setSpans l .empty
  let gone (k : Nat) : Bool := l.contains k
  let s2 := { s1 with
    spans := s1.spans.filter (fun e => !gone e.1)
    image := { s1.image with
      routes := s1.image.routes.filter (fun e => !gone e.2.span)
      parts := s1.image.parts.filter (fun e => !gone e.2.span)
      pipes := s1.image.pipes.filter (fun e => !gone e.2.span)
      extents := s1.image.extents.filter (fun x => !gone x.span)
      scheds := s1.image.scheds.filter (fun e => !engs.contains e.1)
      codebooks := s1.image.codebooks.filter (fun e => !engs.contains (e.1 / 2)) } }
  engs.foldl (fun (s : State) e => s.engUpd e (fun u =>
    { u with contexts := 0, first := 0, nsteps := 0, entries := [], decodes := [], loops := [], seen := [] })) s2.placeTrim

/-- What belongs to the root of an image is gone (R131, R147): no image is loaded, its grammars and sampling entries with it;
tickets return to the boot image's defaults (R149) and the boot licence is in force (R460). -/
def State.noImage (s : State) : State :=
  let s1 : State := { s with
    image := { s.image with loaded := false, grams := [], ring := none, vocab := 0 }
    gen := { s.gen with slots := s.gen.slots.map (fun e => (e.1, { e.2 with entry := [], staged := [], waiting := none })) } }
  let s2 := ((s1.rset .GEN_VOCAB 0).rset .CFG_LOAD_ID 0).fset .SEC_KEYS F.SEC_KEYS_IMG_SLOT 0
  ((List.range 16).foldl (fun (s : State) w => s.rset (.CFG_IMG_DIGEST (Fin.ofNat 16 w)) 0) s2).licBoot

/-- Puts ticket settings of a TICKET record in force, or best effort for every ticket (R149, R217). -/
def State.putTickets (s : State) (l : Option (List (List Byte))) : State :=
  ((List.range 15).map (· + 1)).foldl (fun (s : State) t =>
    let e := ((l.bind (·[t]?)).getD (List.replicate 16 0))
    let k := Fin.ofNat 16 t
    (((((s.rset (.TKT_TGT k) (wordOf (num e 0 4))).rset (.TKT_BW0 k) (wordOf (num e 6 4))).rset (.TKT_BW1 k)
      (wordOf (num e 0xA 4))).fset (.TKT_CLS k) F.TKT_CLS_BASE (num e 4 2)).bestEffort t).avgReset t)
    (s.rset .TKT_DROP 0)

/-- UNLOAD of entry `i` (R131). -/
def State.unloadSpan (s : State) (i : Nat) : State :=
  let r := s.accepting i stIdle
  let s1 := r.1.release r.2
  if r.2.contains 0 then s1.noImage.putTickets s1.load.bootTickets else s1

/-! ### Quiet leaves (R131) -/

/-- Whether a leaf of an entry that drains (or stops) is quiet. -/
def State.quiet (s : State) (drain : Bool) (l : Leaf) : Bool :=
  match l with
  | .engine e => (s.engs.at e).task.isNone && (s.engs.at e).dbq.isEmpty
  | .re r => (s.pipesOf r).all (fun p => !s.queries.any (fun q => q.2.pipe = p) &&
      (!drain || ((s.retr.pipes.at p).waiting.isEmpty && (s.retr.pipes.at p).copying.isEmpty)))
  | .mover m => (s.mover m).inflight.isEmpty
  | .part _ => true

/-- The command of span `i` with the ticket of its write: START 1, STOP 2, DRAIN 3, CLEAR 5, UNLOAD 6 (R131). -/
def State.spanCommand (s : State) (i cmd arg ticket : Nat) : State :=
  match cmd with
  | 1 => s.startSpan i arg ticket
  | 2 => s.stopSpan i
  | 3 => s.drainSpan i
  | 5 => s.clearSpan i
  | 6 => s.unloadSpan i
  | _ => s.cmdErr

/-- SPAN_START (R131). -/
def execSpanStart (sp : SpanIx) (arg : Fin 4) (ticket : Ticket) (s : State) : Res State :=
  let t := s.taskTicket ticket.val
  .next ((s.groupCmd sp.val 1 arg.val t).spanCommand sp.val 1 arg.val t)

/-- SPAN_STOP (R131). -/
def execSpanStop (sp : SpanIx) (s : State) : Res State := .next ((s.groupCmd sp.val 2 0 0).spanCommand sp.val 2 0 0)

/-- SPAN_DRAIN (R131). -/
def execSpanDrain (sp : SpanIx) (s : State) : Res State := .next ((s.groupCmd sp.val 3 0 0).spanCommand sp.val 3 0 0)

/-- SPAN_CLEAR (R131). -/
def execSpanClear (sp : SpanIx) (s : State) : Res State := .next ((s.groupCmd sp.val 5 0 0).spanCommand sp.val 5 0 0)

/-- SPAN_UNLOAD (R131). -/
def execSpanUnload (sp : SpanIx) (s : State) : Res State :=
  .next (((s.groupCmd sp.val 6 0 0).spanCommand sp.val 6 0 0).degradeCheck)

/-- The units of group span `j` on this device are quiet: the other devices that hold units of it are told, once (R34, R36).
DESIGN CHOICE, log entry 99. -/
def State.sayQuiet (s : State) (j : Nat) : State :=
  let me := s.fget .LNK_GRP F.LNK_GRP_DEVNUM
  if bitAt (s.spans.at j).drained me then s
  else (s.spanUpd j (fun e => { e with drained := e.drained ||| 2 ^ me })).groupSend j 0xD [0, 0]

/-- Whether the other devices that hold units of group span `j`, but for lost ones, have reported them quiet (R34, R339). -/
def State.othersQuiet (s : State) (j : Nat) : Bool :=
  (s.groupDevs j).all (fun d => s.devLost d || bitAt (s.spans.at j).drained d)

/-- SPAN_QUIET (R34, R131): every leaf of a DRAINING or STOPPING span is quiet, and the span becomes IDLE once those of other devices are
quiet too. -/
def execSpanQuiet (sp : SpanIx) (s : State) : Res State :=
  let st := (s.spans.at sp.val).st
  let drain := decide (st = .draining)
  if (drain ∨ st = .stopping) ∧ (s.leavesOf sp.val).all (s.quiet drain) then
    let s1 := (s.groupTops sp.val).foldl State.sayQuiet s
    .next (if (s.groupTops sp.val).all s1.othersQuiet then s1.setSpans [sp.val] .idle else s1)
  else .next s

end Sys2Proof.Machine
end

