-- ==== Sys2Proof/Machine/FitCheck.lean ====
section
/-! DEFINITION. The fit check (file 05_spans_and_images.md, R136 to R148): the structural rules that concern an image as a
whole, the tier, and the resources, in the order of R145. -/

namespace Sys2Proof.Machine

/-- The first refusal of a list. -/
def firstRefuse (l : List (Option Refuse)) : Option Refuse := l.findSome? id

/-- A refusal when a condition holds. -/
def refuseIf (b : Bool) (code rec_ span : Nat) : Option Refuse := if b then some ⟨code, rec_, span⟩ else none

/-! ### Spans kept and replaced (R147, R148) -/

/-- The entries that an image replaces: all in use for a whole load, the subtrees of its SPAN records for a partial reload. -/
def State.replaced (s : State) (part : Bool) (img : Img) : List Nat :=
  let used := (s.spans.filter (fun e => e.2.st ≠ .empty)).map (·.1)
  if part then used.filter (fun j => img.spans.any (fun x => (s.subtree x.index).contains j)) else used

/-- The entries in use that an image leaves. -/
def State.kept (s : State) (part : Bool) (img : Img) : List Nat :=
  let gone := s.replaced part img
  ((s.spans.filter (fun e => e.2.st ≠ .empty)).map (·.1)).filter (fun j => !gone.contains j)

/-- The leaves held by the entries of a list (R139): of this device, or of others. -/
def State.heldLeaves (s : State) (kept : List Nat) : List Leaf := kept.flatMap (fun j => (s.spans.at j).members)
@[inherit_doc State.heldLeaves] def State.heldRemote (s : State) (kept : List Nat) : List (Nat × Leaf) :=
  kept.flatMap (fun j => (s.spans.at j).remote)

/-- The leaves that a SPAN record names (R138): the device of each, none for this one, and the leaf. -/
def SpanRec.leaves (x : SpanRec) : List (Option Nat × Leaf) :=
  x.members.map (none, ·) ++ x.remote.map (fun m => (some m.1, m.2))

/-- The leaves that the entries of a list hold, in the same form. -/
def State.heldIn (s : State) (kept : List Nat) : List (Option Nat × Leaf) :=
  (s.heldLeaves kept).map (none, ·) ++ (s.heldRemote kept).map (fun m => (some m.1, m.2))

/-! ### Records of the image (R137) -/

/-- Whether a kind of image may hold a record of a type (R137). -/
def typeAllowed (boot part : Bool) (typ : Nat) : Bool :=
  if boot then typ = 1 || typ = 4 || typ = 0xA || typ = 0xFF
  else if part then typ = 1 || typ = 2 || typ = 3 || typ = 5 || typ = 6 || typ = 7 || typ = 0xFF
  else (1 ≤ typ && typ ≤ 0xA) || typ = 0xFF

/-- Whether records of a type are addressed to the root (R137). -/
def typeRoot (typ : Nat) : Bool := typ = 4 || typ = 8 || typ = 9 || typ = 0xA || typ = 0xFF

/-- What the paths of an image's records are held against (R136, R137): the paths of the spans that the image leaves, of all spans of the
running image, and of the spans that there are once it is loaded, with their entries. -/
structure Paths where
  kept : List (List Byte)
  running : List (List Byte)
  final : List (List Byte × Nat)

/-- Adds a SPAN record (R136, R138, R139). -/
def Img.addSpan (img : Img) (own : Nat) (boot part : Bool) (paths : Paths) (r : ImgRec) :
    Except Refuse Img :=
  let bad : Except Refuse Img := .error ⟨0x0F, r.ix, num r.body 0 2 % 4096⟩
  match parseSpan own boot r with
  | none => bad
  | some x =>
    let root := decide (x.path = rootPath)
    let leaves := img.spans.flatMap SpanRec.leaves
    let mine := x.leaves.filter (fun l => match l.2 with | .engine _ => false | _ => true)
    if (part && root) || (boot && !root) || img.spans.any (fun y => decide (y.path = x.path) || decide (y.index = x.index)) ||
        paths.kept.contains x.path || (!x.group && !x.remote.isEmpty) ||
        mine.any (fun l => leaves.contains l) || decide (mine.eraseDups.length ≠ mine.length) then bad
    else .ok { img with spans := img.spans ++ [x] }

/-- Adds a record to what the image holds, unless it breaks a rule of R136 to R144 that concerns it and the records before
it.  DESIGN CHOICE, log entry 110: a record is also refused when no span of its path is left once the image is loaded. -/
def Img.add (img : Img) (own : Nat) (boot part : Bool) (paths : Paths) (r : ImgRec) : Except Refuse Img :=
  let owner := if img.spans.any (fun x => x.path = r.path) || paths.running.contains r.path then
      (paths.final.find? (fun x => x.1 = r.path)).map (·.2) else none
  let sp := owner.getD 0
  let bad : Except Refuse Img := .error ⟨0x0F, r.ix, sp⟩
  if img.commit || !typeAllowed boot part r.typ || (typeRoot r.typ && decide (r.path ≠ rootPath)) then bad
  else if r.typ = 1 then img.addSpan own boot part paths r
  else if owner = none then bad
  else match r.typ with
    | 2 => match counted r.body 32 with
      | some l =>
        let es := l.map parseRoute
        if es.all (·.isSome) then
          .ok { img with routes := img.routes ++ (es.filterMap id).map (fun x => (r.ix, x.1, ⟨true, sp, x.2⟩)) }
        else bad
      | none => bad
    | 3 => match counted r.body 24 with
      | some l =>
        let es := l.map parsePart
        if es.all (·.isSome) then
          .ok { img with parts := img.parts ++ (es.filterMap id).map (fun x => (r.ix, x.1, { x.2 with span := sp })) }
        else bad
      | none => bad
    | 4 => if img.tickets.isSome then bad else match parseTicket r.body with
      | some l => .ok { img with tickets := some l }
      | none => bad
    | 5 => match parseSched r.ix sp r.body with
      | some x => .ok { img with scheds := img.scheds ++ [x] }
      | none => bad
    | 6 => match parsePlace sp img.extents.length r.body with
      | some l =>
        let es := (l.zipIdx).map (fun x => (r.ix, { x.1 with ix := img.extents.length + x.2 }))
        .ok { img with extents := img.extents ++ es }
      | none => bad
    | 7 => match parsePipes sp r.body.length r.body with
      | some l => .ok { img with pipes := img.pipes ++ l.map (fun x => (r.ix, x.1, x.2)) }
      | none => bad
    | 8 => match parseGrams r.body.length r.body with
      | some l => .ok { img with grams := img.grams ++ l.map (r.ix, ·) }
      | none => bad
    | 9 => match parseSamp r.body with
      | some x => .ok { img with samps := img.samps ++ [(r.ix, x)] }
      | none => bad
    | 0xA => if img.lic.isSome then bad else .ok { img with lic := some (r.ix, r.body) }
    | _ =>
      if r.body.length = 8 ∧ num r.body 0 4 = r.ix ∧ num r.body 4 2 = img.spans.length ∧ zeros r.body 6 2 then
        .ok { img with commit := true }
      else bad

/-- The records of a body: what they hold, or the first refusal among them; `kept` are the paths and entries of the spans that the image
leaves, `running` the paths of all spans of the running image. -/
def readImage (own : Nat) (boot part : Bool) (kept : List (List Byte × Nat)) (running : List (List Byte)) (body : List Byte) :
    Except Refuse Img :=
  let rs := splitRecords (body.length + 1) body 0
  let paths : Paths := ⟨kept.map (·.1), running,
    (rs.1.filter (fun r => r.typ = 1)).map (fun r => (r.path, num r.body 0 2)) ++ kept⟩
  match rs.1.foldl (fun (acc : Except Refuse Img) r => match acc with
      | .ok img => img.add own boot part paths r
      | e => e) (.ok default) with
  | .error e => .error e
  | .ok img => match rs.2 with
    | some i => .error ⟨0x0F, i, 0⟩
    | none => if img.commit then .ok img else .error ⟨0x0F, rs.1.length - 1, 0⟩

/-! ### Rules over the whole image (R136, R139 to R144, R265) -/

/-- The parent and path of an entry as they would be: of the image's spans, or of a span it leaves. -/
def State.parentIn (s : State) (kept : List Nat) (img : Img) (j : Nat) : Option (Nat × List Byte) :=
  match img.spans.find? (fun x => x.index = j) with
  | some x => some (x.parent, x.path)
  | none => if kept.contains j then some ((s.spans.at j).parent, (s.spans.at j).path) else none

/-- Whether a chain of parents reaches entry 0; the fuel bounds its length. -/
def State.chainOk (s : State) (kept : List Nat) (img : Img) : (fuel j : Nat) → Bool
  | 0, _ => false
  | f + 1, j => match s.parentIn kept img j with
    | none => false
    | some (p, _) => decide (j = 0) || s.chainOk kept img f p

/-- Whether entry `j` lies in the subtree of entry `i`, as they would be. -/
def State.underIn (s : State) (kept : List Nat) (img : Img) : (fuel j i : Nat) → Bool
  | 0, _, _ => false
  | f + 1, j, i => decide (j = i) || (decide (j ≠ 0) && match s.parentIn kept img j with
    | none => false
    | some (p, _) => s.underIn kept img f p i)

/-- Whether a path is another's, a dot and one further name (R136). -/
def pathUnder (p c : List Byte) : Bool :=
  let tail := c.drop (p.length + 1)
  decide (c.take p.length = p) && decide ((c.drop p.length).head? = some 46) && !tail.isEmpty && tail.all (fun b => b ≠ 46)

/-- The members of every entry as it would be: entry and leaf. -/
def State.membersIn (s : State) (kept : List Nat) (img : Img) : List (Nat × Leaf) :=
  img.spans.flatMap (fun x => x.members.map (x.index, ·)) ++
    kept.flatMap (fun j => (s.spans.at j).members.map (j, ·))

/-- The routes, partitions and pipelines of the spans that an image leaves. -/
def State.keptRoutes (s : State) (kept : List Nat) : List (Nat × RouteEnt) :=
  s.image.routes.filter (fun e => e.2.valid && kept.contains e.2.span)
@[inherit_doc State.keptRoutes] def State.keptParts (s : State) (kept : List Nat) : List (Nat × Part) :=
  s.image.parts.filter (fun e => e.2.valid && kept.contains e.2.span)
@[inherit_doc State.keptRoutes] def State.keptPipes (s : State) (kept : List Nat) : List (Nat × PipeRec) :=
  s.image.pipes.filter (fun e => e.2.valid && kept.contains e.2.span)

/-- Whether a route entry and the one it names as its return name each other (R140). -/
def returnOk (all : List (Nat × RouteEnt)) (n : Nat) (r : RouteEnt) : Bool :=
  r.get 0 28 1 = 0 || match all.find? (fun x => x.1 = r.get 0 16 12) with
    | some (_, q) => q.get 0 28 1 = 1 && q.get 0 16 12 = n
    | none => false

/-- Whether two partitions of one kind share a byte. -/
def partsMeet (x y : Part) : Bool := x.kind = y.kind && x.base < y.base + y.len && y.base < x.base + x.len &&
  decide (x.len ≠ 0) && decide (y.len ≠ 0)

/-- Whether a pipeline entry breaks R265 or R288. -/
def pipeBad (parts : List (Nat × Part)) (routes : List (Nat × RouteEnt)) (pipes : List (Nat × PipeRec))
    (member : Nat → Bool) (p : Nat) (x : PipeRec) : Bool :=
  let part (k : Nat) : Part := ((parts.find? (fun y => y.1 = k)).map (·.2)).getD default
  let q := part x.queue
  let r := part x.result
  let res := (List.range 16).filter (fun i => bitAt x.reMask i)
  res.isEmpty || res.any (fun i => !member i || pipes.any (fun y => y.1 ≠ p && bitAt y.2.reMask i)) ||
    !(q.valid && decide (q.use = 1 ∧ 256 ≤ q.len)) || !(r.valid && decide (r.use = 2 ∧ 16448 ≤ r.len)) ||
    decide ((x.kind = 2) ≠ (x.walkCtx ≠ 0)) ||
    (!x.toHost && match routes.find? (fun y => y.1 = x.rerank) with
      | some (_, w) => decide (w.get 0 12 4 = 2) || decide ((nth w.words 3).toNat < 16448)
      | none => true)

/-- Whether an earlier element of a list has the same key. -/
def dupKey {α : Type} (l : List (Nat × Nat × α)) : Option (Nat × Nat) :=
  ((l.zipIdx).find? (fun x => (l.take x.2).any (fun y => y.2.1 = x.1.2.1))).map (fun x => (x.1.1, x.1.2.1))

/-- Whether the last start kept an extent (R143): warm with MEM_KEEP, the verification passed, and the same place in the
keep area. -/
def State.keptExtent (s : State) (x : Extent) : Bool := s.keep.valid && s.keep.extents.contains (x.dst, x.dstAddr, x.len)

/-- records_ok of R145 over the image as a whole. -/
def State.structural (s : State) (part : Bool) (img : Img) : Option Refuse :=
  let kept := s.kept part img
  let fuel := s.spans.length + img.spans.length + 2
  let routes := img.routes.map (fun x => (x.2.1, x.2.2)) ++ s.keptRoutes kept
  let parts := img.parts.map (fun x => (x.2.1, x.2.2)) ++ s.keptParts kept
  let pipes := img.pipes.map (fun x => (x.2.1, x.2.2)) ++ s.keptPipes kept
  let mem := s.membersIn kept img
  let held := s.heldIn kept
  let partOf (k : Nat) : Part := ((parts.find? (fun y => y.1 = k)).map (·.2)).getD default
  let spanOf (k : Nat) : Option SpanRec := img.spans.find? (fun y => y.index = k)
  let route (n : Nat) : Bool := routes.any (fun y => y.1 = n)
  let vocab := (img.samps.getLast?.map (·.2.vocab)).getD 0
  firstRefuse (
    (img.spans.map (fun x => refuseIf
      (part && (s.subtree x.index).any (fun j => match (s.spans.at j).st with
        | .idle => false
        | .faulted => false
        | .empty => false
        | _ => true)) 0x0F x.ix x.index)) ++
    [refuseIf (!part && !img.spans.any (fun x => x.index = 0)) 0x0F 0 0] ++
    (img.spans.map (fun x => refuseIf (!s.chainOk kept img fuel x.index) 0x0F x.ix x.index)) ++
    (img.spans.map (fun x => refuseIf (x.index ≠ 0 && match s.parentIn kept img x.parent with
      | some (_, p) => !pathUnder p x.path
      | none => true) 0x0F x.ix x.index)) ++
    (img.spans.map (fun x => refuseIf (x.leaves.any (fun l => match l.2 with
      | .part _ => held.contains l
      | _ => false)) 0x0F x.ix x.index)) ++
    [match dupKey img.routes with | some (r, _) => some ⟨0x0F, r, 0⟩ | none => none] ++
    (img.routes.map (fun x => refuseIf (!returnOk routes x.2.1 x.2.2) 0x0F x.1 x.2.2.span)) ++
    [match dupKey img.parts with | some (r, _) => some ⟨0x0F, r, 0⟩ | none => none] ++
    (img.parts.zipIdx.map (fun x => refuseIf
      ((s.keptParts kept).any (fun y => y.1 = x.1.2.1 || partsMeet y.2 x.1.2.2) ||
        (img.parts.take x.2).any (fun y => partsMeet y.2.2 x.1.2.2)) 0x0F x.1.1 x.1.2.2.span)) ++
    (img.scheds.zipIdx.map (fun x => refuseIf
      (!(match spanOf x.1.span with | some y => y.members.contains (.engine x.1.engine) | none => false) ||
        (img.scheds.take x.2).any (fun y => y.engine = x.1.engine) ||
        !(chunks 64 x.1.data).all (stepOk route) || !loopsOk x.1.loops ||
        (img.samps.isEmpty && x.1.steps.any (fun t => t.opc = 0x41))) 0x0F x.1.ix x.1.span)) ++
    (img.extents.map (fun x => refuseIf (x.2.src = 4 && !s.keptExtent x.2) 0x0F x.1 x.2.span)) ++
    [match dupKey img.pipes with | some (r, _) => some ⟨0x0F, r, 0⟩ | none => none] ++
    (img.pipes.map (fun x => refuseIf (pipeBad parts routes pipes
      (fun i => mem.any (fun m => decide (m.2 = .re i) && s.underIn kept img fuel m.1 x.2.2.span)) x.2.1 x.2.2)
      0x0F x.1 x.2.2.span)) ++
    (img.grams.zipIdx.map (fun x =>
      let g := x.1.2.g
      let p := partOf g.part
      refuseIf ((img.grams.take x.2).any (fun y => y.2.id = x.1.2.id) || !p.valid || decide (p.kind ≠ 0) ||
        decide (p.len < g.classOff + 2 * g.vocab) || decide (p.len < g.stateOff + 8 * g.states) ||
        decide (p.len < g.transOff + 8 * g.trans) || decide (g.vocab ≠ vocab)) 0x0F x.1.1 0)) ++
    (img.samps.map (fun x =>
      let p := partOf x.2.ring
      refuseIf (!p.valid || decide (p.kind ≠ 0) || decide (p.use ≠ 5) ||
        !x.2.entries.all (entryOk (fun g => img.grams.any (fun y => y.2.id = g)))) 0x0F x.1 0)))

/-! ### Tier, feature level, span table, devices, engines (R145) -/

/-- beyond_tier of R145 (R1, R2, R36, R144, R460). -/
def State.beyondTier (s : State) (tier : Nat) (part : Bool) (img : Img) : Option Refuse :=
  let kept := s.kept part img
  let engs := ((s.membersIn kept img).filterMap (fun m => match m.2 with | .engine e => some e | _ => none)).eraseDups
  let off := decide (tier = 0) || decide (s.bootTier = 0)
  firstRefuse (
    [refuseIf (tier = 0 && decide (48 < engs.length)) 8 0 0] ++
    (img.spans.map (fun x => refuseIf ((x.group && decide (tier ≠ 2)) ||
      (off && x.members.any (fun l => match l with | .re _ => true | _ => false))) 8 x.ix x.index)) ++
    (img.pipes.map (fun x => refuseIf (off || (decide (x.2.2.kind = 2) && decide (tier ≠ 2))) 8 x.1 x.2.2.span)) ++
    (img.extents.map (fun x => refuseIf (off && x.2.src = 2) 8 x.1 x.2.span)) ++
    (img.grams.map (fun x => refuseIf (tier ≠ 2) 8 x.1 0)))

/-- Whether device `d` of the group has been found in discovery (R145, R333). -/
def State.devFound (s : State) (d : Nat) : Bool := (s.devs.at d).present

/-- The span-table, device and engine checks of R145; an engine of another device is one of that device's (R138, R139). -/
def State.entryChecks (s : State) (part : Bool) (img : Img) : Option Refuse :=
  let kept := s.kept part img
  let held := s.heldIn kept
  let engs := img.spans.flatMap (fun x => x.leaves.filterMap (fun l => match l.2 with
    | .engine e => some (l.1, e, x.ix, x.index)
    | _ => none))
  firstRefuse (
    (img.spans.map (fun x => refuseIf (4096 ≤ x.index) 7 x.ix (x.index % 4096))) ++
    [refuseIf (4096 < kept.length + img.spans.length) 7 0 0] ++
    (img.spans.map (fun x => refuseIf (x.remote.any (fun m => !s.devFound m.1)) 0xD x.ix x.index)) ++
    (engs.map (fun x =>
      if 95 < x.2.1 ∨ (engs.filter (fun y => y.1 = x.1 ∧ y.2.1 = x.2.1)).length ≠ 1 ∨ held.contains (x.1, .engine x.2.1) then
        some ⟨1, x.2.2.1, x.2.2.2⟩
      else refuseIf (x.1.isNone && s.absent x.2.1) 0xE x.2.2.1 x.2.2.2)))

/-! ### Memory (R145) -/

/-- Inserts a range into a list ordered by base. -/
def rangeIns (x : Nat × Nat) : List (Nat × Nat) → List (Nat × Nat)
  | [] => [x]
  | y :: l => if x.1 ≤ y.1 then x :: y :: l else y :: rangeIns x l

/-- The bytes of the union of some ranges (base, length): one that lies inside another counts once. -/
def unionLen (l : List (Nat × Nat)) : Nat :=
  ((l.foldr rangeIns []).foldl (fun (acc : Nat × Nat) r =>
    let lo := max acc.2 r.1
    let hi := r.1 + r.2
    if lo < hi then (acc.1 + (hi - lo), hi) else acc) (0, 0)).1

/-- The ranges in the engine's own local store that a step's operands name by address. -/
def Step.ranges (t : Step) (e it : Nat) : List (Nat × Nat) :=
  let b := t.operandBytes it (t.out.at it)
  ownRange e t.opa it b.1 ++ ownRange e t.opb it b.2.1 ++ ownRange e t.out it b.2.2.1 ++ ownRange e t.aux it b.2.2.2

/-- The end of the own-store buffers that a schedule's steps use (R64): over every step and every iteration of its innermost
loop. -/
def SchedRec.bufferEnd (r : SchedRec) : Nat :=
  let loops := r.loops
  (r.steps.zipIdx).foldl (fun m x =>
    let it := ((innermost loops (r.first + x.2)).map (·.count)).getD 0
    ((x.1.ranges r.engine it).map (fun y => y.1 + y.2 - storeAddr r.engine 0)).foldl max m) 0

/-- The thread-context and local-store checks of R145 (R64, R66), and that of the shared buffer. -/
def State.storeChecks (s : State) (img : Img) : Option Refuse :=
  let top (e : Nat) : Nat := s.usable (s.siteOf e) -
    256 * ((img.scheds.find? (fun x => x.engine = e)).map (·.contexts)).getD 0
  firstRefuse (
    (img.scheds.map (fun x => refuseIf
      (x.contexts = 0 || x.contexts % 256 ≠ 0 || 32768 < x.contexts ||
        x.steps.any (fun t => t.opc ≠ 0 && t.opc ≠ 0x50 && t.opc ≠ 0x5F && x.contexts / 256 < t.gangs)) 5 x.ix x.span)) ++
    (img.scheds.map (fun x => refuseIf
      (s.usable (s.siteOf x.engine) < 256 * x.contexts || top x.engine < x.bufferEnd) 2 x.ix x.span)) ++
    (img.extents.map (fun x => refuseIf (x.2.dst = 4 && top x.2.engine < x.2.dstAddr + x.2.len) 2 x.1 x.2.span)) ++
    (img.extents.map (fun x => refuseIf ((x.2.dst = 2 || x.2.dst = 3) && 524288 < x.2.dstAddr + x.2.len) 2 x.1 x.2.span)) ++
    (img.parts.map (fun x => refuseIf (x.2.2.kind = 0 &&
      !(sbfAddr 0 ≤ x.2.2.base && x.2.2.base + x.2.2.len ≤ sbfAddr 0x20000000)) 2 x.1 x.2.2.span)))

/-- The ranges of the partitions of some kinds and the extents of some destinations, as they would be: record, span, base,
length; those that the image leaves have no record. -/
def State.rangesIn (s : State) (kept : List Nat) (img : Img) (kinds dsts : List Nat) :
    List (Nat × Nat) × List (Nat × Nat × Nat × Nat) :=
  (((s.keptParts kept).filter (fun y => kinds.contains y.2.kind)).map (fun y => (y.2.base, y.2.len)) ++
    ((s.image.extents.filter (fun x => kept.contains x.span && dsts.contains x.dst)).map (fun x => (x.dstAddr, x.len))),
  ((img.extents.filter (fun x => dsts.contains x.2.dst)).map (fun x => (x.1, x.2.span, x.2.dstAddr, x.2.len))) ++
    ((img.parts.filter (fun x => kinds.contains x.2.2.kind)).map (fun x => (x.1, x.2.2.span, x.2.2.base, x.2.2.len))))

/-- Whether a range touches a range of `n` bytes at `a`. -/
def touches (b l a n : Nat) : Bool := b < a + n && a < b + l

/-- The interleaved-view address of the 4 KiB unit at offset `o` of stack `n` (R162 to R164), if there is one. -/
def ilAddrOf (m : IlMode) (n o : Nat) : Option Nat :=
  let u := o / 4096
  match m with
  | .full => some (u * 2 ^ 15 + (n ^^^ bits u 5 3) * 4096)
  | .reduced g => if n / 4 = g then some (u * 2 ^ 14 + ((n % 4) ^^^ bits u 6 2) * 4096) else none
  | .off => none

/-- Whether a range covers a byte of a retired page (R201). -/
def State.coversRetired (s : State) (b l : Nat) : Bool :=
  s.mem.retired.any (fun p =>
    let a := p * 65536
    touches b l a 65536 || match rangeOf a with
      | .placed n o => (List.range 16).any (fun i => match ilAddrOf s.ilMode n (o + 4096 * i) with
        | some x => touches b l x 4096
        | none => false)
      | _ => false)

/-- The part of a range within another. -/
def clip (a n : Nat) (r : Nat × Nat) : Nat × Nat :=
  let lo := max a r.1
  let hi := min (a + n) (r.1 + r.2)
  (lo, hi - lo)

/-- bonded_over of R145: record and span of the first range that does not fit. -/
def State.bondedCheck (s : State) (part : Bool) (img : Img) : Option Refuse :=
  let r := s.rangesIn (s.kept part img) img [3] [1]
  firstRefuse (r.2.zipIdx.map (fun x =>
    let b := x.1.2.2.1
    let n := x.1.2.2.2
    let before := r.1 ++ (r.2.take (x.2 + 1)).map (fun y => (y.2.2.1, y.2.2.2))
    refuseIf (n ≠ 0 && (b < bondedAddr 0 0 || bondedAddr 32 0 < b + n || s.coversRetired b n ||
      (List.range 32).any (fun row => touches b n (bondedAddr row 0) 0x100000000 &&
        (if s.deadRows.contains row then 0 else 0x100000000) <
          unionLen (before.map (clip (bondedAddr row 0) 0x100000000)))))
      3 x.1.1 x.1.2.1))

/-- What stack `n` offers to partitions and extents (R163, R164). -/
def State.stackOffer (s : State) (n : Nat) : Nat :=
  if s.stackFenced n then 0
  else match s.ilMode with
    | .reduced g => if n / 4 = g then 0x1FF8000000 else 0x2000000000
    | _ => 0x1FFC000000

/-- stack_over of R145. -/
def State.stackCheck (s : State) (part : Bool) (img : Img) : Option Refuse :=
  let r := s.rangesIn (s.kept part img) img [1, 2] [0, 5]
  let cap := ((List.range 8).map s.stackOffer).foldl (· + ·) 0
  let limit := match s.ilMode with
    | .reduced _ => 0x7FE0000000
    | _ => 0xFFE0000000
  let il (x : Nat × Nat) : Bool := x.1 < 0x010000000000
  let base := stackKey 0
  firstRefuse ([refuseIf (s.ilMode = .off) 4 0 0] ++ r.2.zipIdx.map (fun x =>
    let b := x.1.2.2.1
    let n := x.1.2.2.2
    let before := r.1 ++ (r.2.take (x.2 + 1)).map (fun y => (y.2.2.1, y.2.2.2))
    let used := unionLen (before.filter il) + unionLen (before.filter (fun y => !il y))
    refuseIf (n ≠ 0 && (decide (cap < used) || s.coversRetired b n ||
      (if b < base then decide (limit < b + n)
       else decide (stackKey 8 < b + n) || (List.range 8).any (fun k =>
         let c := clip (stackKey k) 0x2000000000 (b, n)
         decide (c.2 ≠ 0) && decide (stackKey k + s.stackOffer k < c.1 + c.2))))) 4 x.1.1 x.1.2.1))

/-! ### Junction, movers, retrieval (R145) -/

/-- The multicast groups that some routes need (R140): distinct destination sets on more than one die. -/
def groupsNeeded (l : List (Nat × RouteEnt)) : Nat :=
  ((l.filterMap (fun x => if x.2.get 0 12 4 = 1 ∧ (x.2.engines.map (· / 12)).eraseDups.length ≠ 1 then some x.2.engines
    else none)).eraseDups).length

/-- routes_over and movers_held of R145. -/
def State.junctionCheck (s : State) (part : Bool) (img : Img) : Option Refuse :=
  let kept := s.kept part img
  let held := s.heldIn kept
  let routes := s.keptRoutes kept
  firstRefuse (
    (img.routes.map (fun x => refuseIf (routes.any (fun y => y.1 = x.2.1)) 0xB x.1 x.2.2.span)) ++
    [refuseIf (256 < groupsNeeded (img.routes.map (fun x => (x.2.1, x.2.2)) ++ routes)) 0xB 0 0] ++
    (img.spans.map (fun x => refuseIf (x.leaves.any (fun l => match l.2 with
      | .mover _ => held.contains l
      | _ => false)) 0xB x.ix x.index)))

/-- retr_over of R145 (R144, R265). -/
def State.retrCheck (s : State) (part : Bool) (img : Img) : Option Refuse :=
  let kept := s.kept part img
  let held := s.heldIn kept
  let pipes := s.keptPipes kept
  let ctx := (img.pipes.map (fun x => x.2.2.walkCtx) ++ pipes.map (fun x => x.2.walkCtx)).foldl (· + ·) 0
  firstRefuse (
    (img.spans.map (fun x => refuseIf (x.leaves.any (fun l => match l.2 with
      | .re _ => held.contains l || (l.1.isNone && s.leafAbsent l.2)
      | _ => false)) 0xC x.ix x.index)) ++
    (img.pipes.map (fun x => refuseIf (pipes.any (fun y => y.1 = x.2.1) || 65536 < x.2.2.zones.length ||
      x.2.2.zones.any (fun z => z = 0 || z = 0xFFFFFFFF)) 0xC x.1 x.2.2.span)) ++
    [refuseIf (1048576 < ctx) 0xC 0 0])

/-! ### Tickets (R149, R229, R230) -/

/-- The settings that a whole load puts in force: its own, or the boot image's defaults (R149). -/
def State.loadTickets (s : State) (img : Img) : State :=
  s.putTickets (img.tickets.orElse (fun _ => s.load.bootTickets))

/-- The fit check of a workload image whose records have been read, from the structural rules on (R145); `tier` is the
tier of its licence. -/
def State.fitRest (s : State) (h : Hdr) (tier : Nat) (img : Img) : Option Refuse :=
  let part := h.partialLoad
  firstRefuse [
    s.beyondTier tier part img,
    refuseIf (s.fget .GLB_FEATURE F.GLB_FEATURE_LEVEL < h.minFeature) 0xA 0 0,
    s.entryChecks part img,
    s.storeChecks img,
    s.bondedCheck part img,
    s.stackCheck part img,
    s.junctionCheck part img,
    s.retrCheck part img,
    refuseIf (!h.overcommit && !(if part then s else s.loadTickets img).admitFits) 6 0 0]

end Sys2Proof.Machine
end

