-- ==== Sys2Proof/Machine/Loading.lean ====
section
/-! DEFINITION. Loading a workload image (file 05_spans_and_images.md, R146 to R149): the load's steps, its ends, and the meanings of
IMAGE_LOAD and IMAGE_LOADED. -/

namespace Sys2Proof.Machine

/-! ### Ends of a load (R146, R147) -/

/-- The state with CFG_LOAD_STAT.STATE set. -/
def State.loadState (s : State) (st : Nat) : State := s.fset .CFG_LOAD_STAT F.CFG_LOAD_STAT_STATE st

/-- Ends a load in state `st` with a refusal code, record and span concerned, and ERR (0: unchanged); source 16. -/
def State.loadEnd (s : State) (st code rec_ span err : Nat) : State :=
  let s1 := (((s.loadState st).fset .CFG_LOAD_STAT F.CFG_LOAD_STAT_CODE code).fset .CFG_LOAD_STAT F.CFG_LOAD_STAT_RECORD
    rec_).fset .CFG_LOAD_SPAN F.CFG_LOAD_SPAN_SPAN span
  let s2 := if err = 0 then s1 else s1.fset .CFG_LOAD_STAT F.CFG_LOAD_STAT_ERR err
  ({ s2 with load := { s2.load with busy := false, extents := [], data := [], wakes := [] } }).raise 16

/-- Ends a load refused in steps 2 to 4 (R145). -/
def State.loadRefused (s : State) (r : Refuse) : State := s.loadEnd 7 r.code r.rec_ r.span 0

/-- A load fails in step 7 or 8 (R147): the new entries become EMPTY; after a whole load no image is loaded. -/
def State.placeFailed (s : State) (ix err : Nat) : State :=
  let s1 := s.release s.load.fresh
  let s2 := if s.load.partialLoad then s1 else s1.noImage.putTickets s1.load.bootTickets
  let s3 : State := { s2 with movers := s2.movers.map (fun e => (e.1, { e.2 with
    hubq := e.2.hubq.filter (fun j => match j with | .place _ => false | _ => true)
    hubfl := e.2.hubfl.filter (fun j => match j.1 with | .place _ => false | _ => true) })) }
  ((List.range 16).foldl (fun (s : State) m => if (s.movers.at m).hubfl = [] then s.flashForget (.hub m) else s) s3).loadEnd 8 0 ix 0 err

/-- The units of the mode change that activates an image (R147, step 8; R156): the leaves of the new entries, and the devices
that hold other members of new group spans. -/
def State.freshUnits (s : State) : List MUnit :=
  ((s.load.fresh.flatMap (fun j => (s.spans.at j).members)).eraseDups).map .leaf ++
    (((s.load.fresh.flatMap (fun j => (s.spans.at j).remote.map (·.1))).eraseDups).filter (fun d => !s.devLost d)).map .device

/-- Step 8 of a load once nothing is left to copy: the mode change starts when none is in progress (R147, R153). -/
def State.loadActivate (s : State) : State :=
  if s.load.busy ∧ s.fget .CFG_LOAD_STAT F.CFG_LOAD_STAT_STATE = 4 ∧ s.load.extents = [] ∧ ¬s.modeBusy then
    (s.loadState 5).modeStart 1 (if s.load.partialLoad then (s.load.fresh.foldl min 4095) else 0xFFF) s.freshUnits
  else s

/-- A PLACE copy has been performed (R147, step 7). -/
def State.placeDone (s : State) (ix : Nat) : State :=
  ({ s with load := { s.load with extents := s.load.extents.filter (fun x => x.ix ≠ ix) } }).loadActivate

/-! ### Writing an image (R147, steps 5 to 7) -/

/-- `n` bytes of `l` from 0, with zeros past its end, overlaid with `d` at offset `o`. -/
def overlay (l : List Byte) (o : Nat) (d : List Byte) : List Byte :=
  l.take o ++ List.replicate (o - l.length) 0 ++ d ++ l.drop (o + d.length)

/-- The first index past `i` at or after which a schedule's steps hold END, and the least step that the loops closing between
reach back to: the steps that a task from entry `i` runs (R74, R75). -/
def SchedRec.taskSteps (r : SchedRec) (i : Nat) : List Step :=
  let st := r.steps
  let from_ := st.drop (i - r.first)
  let n := (from_.takeWhile (fun t => t.opc ≠ 0x5F)).length
  let lo := (r.loops.filter (fun l => i ≤ l.close && l.close < i + n)).foldl (fun m l => min m l.target) i
  (st.drop (lo - r.first)).take (i - lo + n)

/-- Whether a task from entry `i` is a decode task (R80). -/
def SchedRec.decodes (r : SchedRec) (i : Nat) : Bool := i ≠ 0xFFFF && (r.taskSteps i).any (fun t => t.slotMap = 1)

/-- Puts a SCHED record in force on its engine (R142). -/
def State.putSched (s : State) (r : SchedRec) : State :=
  let s1 := s.engUpd r.engine (fun u => { u with
    contexts := r.contexts
    first := r.first
    nsteps := r.nsteps
    entries := r.entries
    decodes := r.entries.map r.decodes
    loops := r.loops
    gangs := [] })
  { s1 with image := { s1.image with scheds := s1.image.scheds.put r.engine r.data } }

/-- Adds an extent to what the image holds; an inline codebook is kept for its engine (R111, R147 step 6). -/
def State.putExtent (s : State) (x : Extent) : State :=
  let keep := { s with image := { s.image with extents := s.image.extents ++ [{ x with data := [] }] } }
  if x.src = 0 ∧ (x.dst = 2 ∨ x.dst = 3) then
    let k := x.engine * 2 + (x.dst - 2)
    { keep with image := { keep.image with codebooks := keep.image.codebooks.upd k (fun l => overlay l x.dstAddr x.data) } }
  else keep

/-- Whether the barge movers copy an extent in step 7 (R143, R147). -/
def Extent.moved (x : Extent) : Bool := x.src ≤ 2 && !(x.src = 0 && (x.dst = 2 || x.dst = 3))

/-- Puts a grammar in force: its arrays go to its partition (R95, R144).  DESIGN CHOICE, log entry 72. -/
def State.putGram (s : State) (x : GramIn) : State :=
  let base := (s.image.parts.at x.g.part).base
  let s1 := ((s.hubWrite (base + x.g.classOff) x.cls).hubWrite (base + x.g.stateOff) x.st).hubWrite (base + x.g.transOff) x.tr
  { s1 with image := { s1.image with grams := s1.image.grams.put x.id x.g } }

/-- Puts a SAMP record in force (R92, R94, R144). -/
def State.putSamp (s : State) (r : SampRec) : State :=
  let s1 := (r.entries.zipIdx).foldl (fun (s : State) e =>
    s.slotUpd (r.first + e.2) (fun u => { u with entry := e.1, staged := e.1, waiting := none })) s
  ({ s1 with image := { s1.image with vocab := r.vocab, ring := some r.ring } }).fset .GEN_VOCAB F.GEN_VOCAB_VOCAB r.vocab

/-- The span-table entry of a SPAN record, LOADING. -/
def SpanRec.entry (x : SpanRec) : SpanEnt :=
  { (default : SpanEnt) with
    st := .loading
    parent := x.parent
    path := x.path
    group := x.group
    expert := x.expert
    owner := x.owner
    members := x.members
    remote := x.remote
    syncs := x.syncs }

/-- The tickets of a whole load (R149, R230): with OVERCOMMIT, tickets are set aside until every class fits. -/
def State.admitLoad (s : State) (h : Hdr) (img : Img) : State :=
  let s1 := s.loadTickets img
  let s2 := if h.overcommit then s1.setAsideAll 15 else s1
  { s2 with load := { s2.load with aside := decide (s2.rget .TKT_DROP ≠ 0) } }

/-- Steps 5 and 6 of a load, and the start of step 7 (R147).  DESIGN CHOICE, log entry 111: with the output rings of the old image go the
records that were still on their way to them. -/
def State.loadWrite (s : State) (h : Hdr) (lic : Option (List Byte)) (img : Img) : State :=
  let part := h.partialLoad
  let s0 := s.release (s.replaced part img)
  let s1 := if part then s0 else
    let z : State := { s0 with
      image := { s0.image with loaded := false, grams := [], ring := none, vocab := 0 }
      gen := { s0.gen with slots := s0.gen.slots.map (fun e =>
        (e.1, { e.2 with entry := [], staged := [], waiting := none, heldRec := none, written := 0 })) } }
    let z1 := (List.range 64).foldl (fun (s : State) k =>
      (s.rset (.GEN_ORING_WR (Fin.ofNat 64 k)) 0).rset (.GEN_ORING_RD (Fin.ofNat 64 k)) 0) (z.rset .GEN_VOCAB 0)
    z1.admitLoad h img
  let s2 := img.spans.foldl (fun (s : State) x => { s with spans := s.spans.put x.index x.entry }) s1
  let s3 := { s2 with image := { s2.image with
    routes := img.routes.foldl (fun t x => t.put x.2.1 x.2.2) s2.image.routes
    parts := img.parts.foldl (fun t x => t.put x.2.1 x.2.2) s2.image.parts
    pipes := img.pipes.foldl (fun t x => t.put x.2.1 x.2.2) s2.image.pipes } }
  -- a pipeline that an image brings begins with its indices and counts at 0
  let s3 := img.pipes.foldl (fun (s : State) x =>
    let p := Fin.ofNat 64 x.2.1
    (((s.rset (.RTV_QWR p) 0).rset (.RTV_QRD p) 0).rset (.RTV_RRD p) 0).pipeUpd x.2.1 (fun _ => default)) s3
  let s4 := img.extents.foldl (fun (s : State) x => s.putExtent x.2) (img.scheds.foldl State.putSched s3)
  let s5 := (img.spans.flatMap (fun x => x.members.filterMap (fun l => match l with | .engine e => some e | _ => none))).foldl
    State.loadEngine s4
  let s6 := img.samps.foldl (fun (s : State) x => s.putSamp x.2) (img.grams.foldl (fun (s : State) x => s.putGram x.2) s5)
  let moved := (img.extents.map (·.2)).filter Extent.moved
  let s7 := moved.foldl (fun (s : State) x =>
    s.moverUpd (x.ix % 16) (fun u => { u with hubq := u.hubq ++ [.place x] })) s6
  let s8 : State := { s7 with load := { s7.load with
    partialLoad := part
    fresh := img.spans.map (fun (x : SpanRec) => x.index)
    extents := moved
    lic := lic
    id := h.id
    digest := h.digest
    slot := h.slot
    data := []
    wakes := [] } }
  ((s8.loadState 4).loadActivate).degradeCheck

/-! ### The fit check of an image's bytes (R145) -/

/-- Steps 1 to 4 of a load over the bytes `l` (R145 to R148, R459): the state with failures recorded, and the header, licence and
records of an image that fits, or the refusal. -/
def State.fitImage (s : State) (l : List Byte) : State × Except Refuse (Hdr × Option (List Byte) × Img) :=
  match parseHeader l with
  | none => (s, .error ⟨0x0F, 0, 0⟩)
  | some h =>
    if h.kind ≠ 2 ∨ h.total ≠ (s.rget .CFG_LOAD_LEN).toNat ∨ l.length < h.total then (s, .error ⟨0x0F, 0, 0⟩)
    else
      let v := s.imageCheck h l
      if v ≠ 0 then (s.vfyFail 1 v, .error ⟨0x09, 0, 0⟩)
      else
        let body := sub l 3184 (h.total - 3184)
        -- the spans that a partial reload leaves: those outside the subtrees of its SPAN records
        let named := (splitRecords (body.length + 1) body 0).1.filterMap (fun r =>
          if r.typ = 1 then some (num r.body 0 2) else none)
        let paths := if h.partialLoad then
            (s.spans.filter (fun e => e.2.st ≠ .empty && !named.any (fun i => (s.subtree i).contains e.1))).map
              (fun e => (e.2.path, e.1))
          else []
        let running := (s.spans.filter (fun e => e.2.st ≠ .empty)).map (·.2.path)
        match readImage (s.fget .LNK_GRP F.LNK_GRP_DEVNUM) false h.partialLoad paths running body with
        | .error e => (s, .error e)
        | .ok img =>
          match s.structural h.partialLoad img with
          | some e => (s, .error e)
          | none =>
            let c := (img.lic.map (fun x => s.licCheck x.2)).getD 0
            let rec_ := (img.lic.map (·.1)).getD 0
            if c ≠ 0 then
              (s.vfyFail 4 c, .error ⟨if c = 5 then 0x0F else if c = 6 then 0x08 else 0x09, rec_, 0⟩)
            else
              let tier := match img.lic with
                | some x => licTier x.2
                | none => if h.partialLoad then s.tier else s.bootTier
              match s.fitRest h tier img with
              | some e => (s, .error e)
              | none => (s, .ok (h, img.lic.map (fun x => x.2.take 64), img))

/-- The compute dies in Doze that an image needs (R369): those of its engines and of its bonded extents. -/
def State.dozeNeeded (s : State) (img : Img) : List Nat :=
  (List.range 8).filter (fun d => s.dozing d &&
    (img.spans.any (fun x => x.members.any (fun l => match l with | .engine e => e / 12 = d | _ => false)) ||
      img.extents.any (fun x => x.2.dst = 1 && touches x.2.dstAddr x.2.len (bondedAddr (4 * d) 0) 0x400000000)))

/-- The bytes that the loader reads (R146): `host` for a host address; a read that fails or is poisoned gives none of them.
DEDUCED, log entry 73. -/
def State.loadBytes (s : State) (host : List Byte) : State × List Byte :=
  let n := (s.rget .CFG_LOAD_LEN).toNat
  if s.bget .CFG_LOAD_ADDR_HI F.CFG_LOAD_ADDR_HI_HOST then (s, host.take n)
  else
    let r := s.readAt true 0 ((s.rget .CFG_LOAD_ADDR_LO).toNat + s.fget .CFG_LOAD_ADDR_HI F.CFG_LOAD_ADDR_HI_ADDR * 2 ^ 32) n
    (r.st.settle, if r.err.isSome || r.pois.any id then [] else r.bytes)

/-- Whether a write of GO is turned away with BUSY (R24, R146, R366, R387, R476).  DEDUCED, log entry 73. -/
def State.loadBusy (s : State) : Bool :=
  let st := s.fget .BUP_STAT F.BUP_STAT_STAGE
  s.load.busy || s.modeBusy || !(6 ≤ st && st ≤ 10) || s.pwr.refuse || decide (s.fget .TST_STAT F.TST_STAT_STATE ≠ 0)

/-- IMAGE_LOAD (R145 to R148): steps 1 to 7 of a load, up to the copies of its extents.  DEDUCED, log entry 73. -/
def execImageLoad (v : Word) (host : List Byte) (s : State) : Res State :=
  if v.toNat % 2 = 0 then .next s
  else if s.loadBusy then .next (s.fset .CFG_LOAD_STAT F.CFG_LOAD_STAT_ERR 1)
  else
    let s0 := ((s.fset .CFG_LOAD_STAT F.CFG_LOAD_STAT_CODE 0).fset .CFG_LOAD_STAT F.CFG_LOAD_STAT_RECORD 0).fset
      .CFG_LOAD_SPAN F.CFG_LOAD_SPAN_SPAN 0
    let r := s0.loadBytes host
    let notIdle := s.spans.any (fun e => e.2.st ≠ .idle && e.2.st ≠ .faulted && e.2.st ≠ .empty)
    if !bitAt (num r.2 0x50 1) 0 ∧ 0x50 < r.2.length ∧ notIdle then .next (r.1.loadEnd 7 0 0 0 2)
    else match r.1.fitImage r.2 with
      | (s1, .error e) => .next (s1.loadRefused e)
      | (s1, .ok (h, lic, img)) =>
        let s2 := { s1 with load := { s1.load with busy := true } }
        let w := s2.dozeNeeded img
        if w = [] then .next (s2.loadWrite h lic img)
        else .next ({ s2 with
          load := { s2.load with data := r.2, wakes := w }
          doze := w.foldl (fun t d => if t.at d = 2 then t.put d 3 else t) s2.doze }.loadState 2)

/-- A die that a load waits for has left Doze (R369): the load goes on when none is left to wait for; a die that failed to
leave ends it with PLACE_FAILED. -/
def State.loadWoken (s : State) (d : Nat) (ok : Bool) : State :=
  if !s.load.wakes.contains d then s
  else if !ok then
    ({ s with load := { s.load with fresh := [], partialLoad := true } }).placeFailed 0 0
  else
    let s1 := { s with load := { s.load with wakes := s.load.wakes.filter (· ≠ d) } }
    if s1.load.wakes ≠ [] then s1
    else match s1.fitImage s1.load.data with
      | (s2, .error e) => s2.loadRefused e
      | (s2, .ok (h, lic, img)) => s2.loadWrite h lic img

/-- Seeds the generator of every engine anew (R53, R63): no two seedings have one number.  DEDUCED, log entry 93. -/
def State.seedEngines (s : State) : State :=
  ((List.range 96).foldl (fun (s : State) e => s.engUpd e (fun u => { u with seed := s.free, draws := 0 })) s).tick

/-- IMAGE_LOADED (R147, R230, R460): the mode change of step 8 is over: the new entries become IDLE, the generators of the engines (R53) and
of the sampling unit (R91) are seeded and the image is LOADED, or, when it aborted, the load fails with ERR 3.
DEDUCED, log entry 87; DESIGN CHOICE, log entry 8. -/
def execImageLoaded (s : State) : Res State :=
  let phase := (s.mode.map (·.phase)).getD 0
  if ¬s.load.busy ∨ s.fget .CFG_LOAD_STAT F.CFG_LOAD_STAT_STATE ≠ 5 then .next s.loadActivate
  else if phase = 4 then .next (s.placeFailed 0 3)
  else if phase ≠ 3 then .next s
  else
    let u := s.load
    let s1 := u.fresh.foldl (fun (s : State) j => s.spanUpd j (fun e => { e with st := .idle })) s
    let s2 := { s1.seedEngines with
      image := { s1.image with loaded := true }
      gen := { s1.gen with draws := 0, seeds := s1.gen.seeds + 1 } }
    let s3 := ((List.range 16).foldl (fun (s : State) w =>
        s.rset (.CFG_IMG_DIGEST (Fin.ofNat 16 w)) (wordOf (num u.digest (4 * w) 4))) (s2.rset .CFG_LOAD_ID (wordOf u.id))).fset
      .SEC_KEYS F.SEC_KEYS_IMG_SLOT u.slot
    let s4 := if u.partialLoad then s3 else match u.lic with
      | some l => s3.licForce (some l) 2
      | none => s3.licBoot
    let s5 := s4.loadEnd 6 0 0 0 0
    .next ((if u.aside ∧ ¬u.partialLoad then s5.raise 21 else s5).degradeCheck)

end Sys2Proof.Machine
end

