-- ==== Sys2Proof/Machine/ComputeDie.lean ====
section
/-! DEFINITION. The compute die (file 04_compute_die.md): fencing and substituting sites, edge routers, on-die multicast, the
barrier (R305) and the seam; and the meanings of its commands. -/

namespace Sys2Proof.Machine

/-! ### The row mapping -/

/-- The register CDI_MAP_r of die `d`. -/
def mapReg (d r : Nat) : Reg := .CDI_MAP (Fin.ofNat 8 d) (Fin.ofNat 4 r)

/-- The state of a column in a CDI_MAP word (R101). -/
def mapState (w : Word) (c : Nat) : Nat := (colFld c).get w

/-- The spare column of a CDI_MAP word, if there is one. -/
def mapSpare (w : Word) : Option Nat := (List.range 4).find? (fun c => mapState w c = 1)

/-- A CDI_MAP word with SPARE_AVAIL as its columns say (R129). -/
def mapFix (w : Word) : Word := F.CDI_MAP_SPARE_AVAIL.put w (b2n (mapSpare w).isSome)

/-- A CDI_MAP word with a column's state set. -/
def mapPut (w : Word) (c st : Nat) : Word := mapFix ((colFld c).put w st)

/-- The mapping that holds when a substitution in progress comes to nothing: its spare is SPARE again (R111). -/
def mapRest (w : Word) : Word := (List.range 4).foldl (fun w c => if mapState w c = 5 then mapPut w c 1 else w) w

/-- The state with row `r` of die `d` mapped by `w`. -/
def State.setMap (s : State) (d r : Nat) (w : Word) : State := s.rset (mapReg d r) w

/-- Writes a ROW_MAP record of the mapping `w` (R393). -/
def State.logMap (s : State) (d r : Nat) (w : Word) (cause : Nat) (ok : Bool) : State :=
  s.logRec ⟨0x01, cause, d + 1 + r * 16, w.toNat % 2 ^ 20, 0, false⟩ ok

/-- The result of a row's substitution (R110): source 16 of the die is raised for the values 2 to 7. -/
def State.substResult (s : State) (d r v : Nat) : State :=
  let s1 := s.fset (.CDI_SUBST_STAT (Fin.ofNat 8 d)) ⟨4 * r, 4⟩ v
  if 2 ≤ v then s1.raise (64 + d * 24 + 16) else s1

/-! ### Fencing a site -/

/-- The schedule index that a fault of an engine's task names: its oldest step in flight, or the step that starts next. -/
def EngUnit.stepNow (u : EngUnit) : Nat := (u.steps.head?.map (·.ix)).getD ((u.task.map (·.pc)).getD 0)

/-- An engine becomes absent (R76, R87, R88, R107, R155): a fault record with code 0x07, its task aborted across the span, its
synchronisation points released with abort. -/
def State.engineLost (s : State) (e : Nat) : State :=
  let u := s.engs.at e
  let rec_ := faultRecord 0x07 e u.stepNow none 0
  let s1 := s.putFault e rec_
  let s2 := match u.task with
    | some t => (s1.abortTask t.span rec_).ownFault e rec_
    | none => s1.syncAbort e
  (s2.abortEngine e).modeAbsent (.leaf (.engine e))

/-- What ENG_CTX of a site shows of an engine (R129): its contexts, and its gangs in FREE. -/
def EngUnit.ctxWord (u : EngUnit) : Nat :=
  u.contexts + ((List.range u.gangCount).filter (fun g => (u.gangs.at g).st = .free)).length * 65536

/-- Fences site `k` (R107, R111): an ACTIVE site becomes ABSENT_FAILED, a SPARE or SUBST one BAD; its registers hold
their values (R129); the failure is logged with cause `cause`; source i of the die.  DEDUCED, log entry 70. -/
def State.fence (s : State) (k cause : Nat) (ok : Bool) : State :=
  let d := k / 16
  let r := k % 16 / 4
  let c := k % 4
  let st := s.siteState k
  let w := s.rget (mapReg d r)
  let src := 64 + d * 24 + k % 16
  if st = 0 then
    let s1 := (s.setMap d r (mapPut w c 2)).siteUpd k (fun u => { u with isolated := true, missed := 0 })
    let s2 := match s.engineAt k with
      | some e => (s1.rset (.ENG_CTX (Fin.ofNat 128 k)) (wordOf (s.engs.at e).ctxWord)).engineLost e
      | none => s1
    ((s2.logMap d r (mapRest (s2.rget (mapReg d r))) cause ok).raise src).degradeCheck.settle
  else if st = 1 then
    let s1 := (s.setMap d r (mapPut w c 4)).siteUpd k (fun u => { u with isolated := true, missed := 0 })
    (s1.logMap d r (s1.rget (mapReg d r)) cause ok).raise src
  else if st = 5 then
    let slot := (s.subst.at (d * 4 + r)).getD 0
    let planned := mapPut (mapPut ((slotFld slot).put w c) c 0) (s.siteOf (d * 12 + r * 3 + slot) % 4) 3
    let s1 := (s.setMap d r (mapPut w c 4)).siteUpd k (fun u => { u with isolated := true, missed := 0 })
    let s2 := ((s1.logMap d r planned 0 ok).logMap d r (s1.rget (mapReg d r)) cause ok).raise src
    ({ s2 with subst := s2.subst.put (d * 4 + r) none }).substResult d r 6
  else s

/-- Whether a compute die is in Run: released, not fenced and not in Doze (R107, R369, R387). -/
def State.dieRuns (s : State) (d : Nat) : Bool :=
  !s.dieFenced (d + 1) && s.released d && !s.dozing d

/-- The heartbeats of a die are checked (R107, R128): each site in service; the second consecutive miss fences it when HB_EN is 1, and any
other miss raises source 17. -/
def State.heartbeats (s : State) (d : Die) (missed : Nat) (ok : Bool) : State :=
  (List.range 16).foldl (fun (s : State) i =>
    let k := d.val * 16 + i
    let st := s.siteState k
    if st = 0 ∨ st = 1 ∨ st = 5 then
      if bitAt missed i then
        let n := (s.sites.at k).missed + 1
        let s1 := (s.siteUpd k (fun u => { u with missed := n })).cnt (.CDI_HB_MISS d) F.CDI_HB_MISS_MISS 1
        if 2 ≤ n ∧ s1.bget (.CDI_CTL d) F.CDI_CTL_HB_EN then s1.fence k 5 ok
        else s1.raise (64 + d.val * 24 + 17)
      else s.siteUpd k (fun u => { u with missed := 0 })
    else s) s

/-- ENG_FENCE (R107, R129): a write of FENCE to a site that is not ACTIVE or SPARE is ignored. -/
def execEngFence (site : Site) (v : Word) (logOk : Bool) (s : State) : Res State :=
  if F.ENG_CTL_FENCE.get v = 1 ∧ s.siteState site.val ≤ 1 then .next (s.fence site.val 0 logOk) else .next s

/-- CONTROL_PARITY_ERROR (R107): the engine's step sequencer or gang scheduler reports a control-state parity error. -/
def execControlParityError (site : Site) (logOk : Bool) (s : State) : Res State := .next (s.fence site.val 5 logOk)

/-- POWER_GATE_FAULT (R107): the power manager reports a fault on the site's power gate. -/
def execPowerGateFault (site : Site) (logOk : Bool) (s : State) : Res State := .next (s.fence site.val 5 logOk)

/-! ### Substitution -/

/-- The lowest slot of a row whose site is ABSENT_FAILED (R110). -/
def State.failedSlot (s : State) (d r : Nat) : Option Nat :=
  (List.range 3).find? (fun k => s.siteState (s.siteOf (d * 12 + r * 3 + k)) = 2)

/-- ROW_SUBST (R110, R111): the checks in their order, then the spare goes to SUBST. -/
def execRowSubst (d : Die) (v : Word) (meshBusy : Bool) (s : State) : Res State :=
  let r := F.CDI_ROW_SUBST_ROW.get v
  let w := s.rget (mapReg d.val r)
  if F.CDI_ROW_SUBST_GO.get v = 0 ∨ (s.subst.at (d.val * 4 + r)).isSome then .next s
  else if meshBusy || (List.range 3).any (fun k => (s.engs.at (d.val * 12 + r * 3 + k)).task.isSome) then
    .next (s.substResult d.val r 3)
  else match s.failedSlot d.val r, mapSpare w with
    | none, _ => .next (s.substResult d.val r 4)
    | some _, none => .next (s.substResult d.val r 5)
    | some k, some c =>
      .next (({ s with subst := s.subst.put (d.val * 4 + r) (some k) }.setMap d.val r (mapPut w c 5)).substResult d.val r 1)

/-- Fills a site's local store and codebook memory with zeros and valid check bits (R111, R208). -/
def State.fillSite (s : State) (k : Nat) : State :=
  s.withMem (s.mem.fill (fun x => (localKey k ≤ x && x < localKey (k + 1)) || (codebookKey k ≤ x && x < codebookKey (k + 1))))

/-- SUBST_PORT_BIND (R111 to R113): once the record of the new mapping is programmed, the spare is filled and loaded, its port
is bound to the slot, and DONE is written; when it is not, the spare returns to SPARE with LOG_FAIL. -/
def execSubstPortBind (d : Die) (r : Fin 4) (logOk : Bool) (s : State) : Res State :=
  let w := s.rget (mapReg d.val r.val)
  match s.subst.at (d.val * 4 + r.val), (List.range 4).find? (fun c => mapState w c = 5) with
  | some k, some c =>
    let e := d.val * 12 + r.val * 3 + k
    let old := s.siteOf e % 4
    let new := mapPut (mapPut ((slotFld k).put w c) c 0) old 3
    let s0 := { s with subst := s.subst.put (d.val * 4 + r.val) none }
    if s.logRoom logOk then
      let s1 := (s0.logMap d.val r.val new 0 true).fillSite (d.val * 16 + r.val * 4 + c)
      .next ((((s1.setMap d.val r.val new).loadEngine e).degradeCheck).substResult d.val r.val 2).settle
    else
      .next (((s0.logMap d.val r.val new 0 logOk).setMap d.val r.val (mapPut w c 1)).substResult d.val r.val 7)
  | _, _ => .next s

/-! ### Edge routers -/

/-- EDGE_SEL_WRITE (R117, R129): a change of EDGE_SEL waits, engine by engine, for the transfers outstanding. -/
def execEdgeSelWrite (d : Die) (v : Word) (s : State) : Res State :=
  let was := s.bget (.CDI_CTL d) F.CDI_CTL_EDGE_SEL
  let now := decide (F.CDI_CTL_EDGE_SEL.get v = 1)
  let s1 := ((s.bset (.CDI_CTL d) F.CDI_CTL_EDGE_SEL now).fset (.CDI_CTL d) F.CDI_CTL_AUTO_SUBST
    (F.CDI_CTL_AUTO_SUBST.get v)).fset (.CDI_CTL d) F.CDI_CTL_HB_EN (F.CDI_CTL_HB_EN.get v)
  if was = now then .next s1
  else .next ((List.range 12).foldl (fun (s : State) k =>
    s.engUpd (d.val * 12 + k) (fun u => { u with edgeWait := true })) s1)

/-- EDGE_SEL_APPLY (R117): the engine's reads have their data and its writes their completions. -/
def execEdgeSelApply (e : Eng) (s : State) : Res State :=
  if (s.engs.at e.val).edgeWait then
    .next (s.engUpd e.val (fun u => { u with
      edgeWait := false, edge := s.bget (.CDI_CTL (engDie e.val)) F.CDI_CTL_EDGE_SEL }))
  else .next s

/-! ### Multicast -/

/-- MCAST_DELIVER (R120, R121): the packet enters the die through one edge router, and each slot of the mask has its copy; an absent slot,
or one that becomes absent while its copy is in flight, is skipped and counted.  While the bundle takes no request the packet waits. -/
def execMcastDeliver (d : Die) (mask : Fin 4096) (off : Nat) (data : List Byte) (pois : List Bool) (lost : Fin 4096)
    (s : State) : Res State :=
  let slots := (List.range 12).filter (bitAt mask.val)
  let h := s.engHalf (d.val * 12 + slots.headD 0)
  match s.eachUnit off data.length (fun s b part => s.crossBy .hub false part none [s.entryBundle (d.val + 1) h b]) with
  | .error _ => .next s
  | .ok s1 => .next (slots.foldl (fun (s : State) k =>
      let e := d.val * 12 + k
      if s.absent e || bitAt lost.val k then s.mcastSkip d.val
      else match s.lay .hub (storeAddr e off) data pois with
        | .ok s1 _ => s1.settle
        | .fault s1 _ _ _ => s1.settle
        | .wait _ => s) s1)

/-! ### The barrier -/

/-- The engines that take part in the package-wide barrier: those that run a task.  DEDUCED, log entry 70. -/
def State.barrierMembers (s : State) : Nat :=
  (List.range 96).foldl (fun m e => if !s.absent e && (s.engs.at e).task.isSome then m + 2 ^ e else m) 0

/-- Puts the gangs of an engine that are in state `a` into state `b`. -/
def State.moveGangs (s : State) (e : Nat) (a b : GangSt) : State :=
  s.engUpd e (fun u => { u with gangs := u.gangs.map (fun g => (g.1, if g.2.st = a then { g.2 with st := b } else g.2)) })

/-- BARRIER_ARRIVE (R67, R305): the engine's gangs wait; the last arrival makes the hub send BARRIER_RELEASE.  DEDUCED, log entry 70. -/
def execBarrierArrive (e : Eng) (s : State) : Res State :=
  let a := s.barrier.arrived ||| 2 ^ e.val
  let m := s.barrierMembers
  let s1 := s.moveGangs e.val .issuing .waitSync
  if bitAt m e.val then
    if a &&& m = m then
      .next (({ s1 with barrier := ⟨0, s1.barrier.released ||| a⟩ }).hubSays 0x1 0 [] s1.allLanes)
    else .next { s1 with barrier := { s1.barrier with arrived := a } }
  else .next s

/-- BARRIER_RELEASE (R67, R305): the release reaches an engine, and its waiting gangs are ready. -/
def execBarrierRelease (e : Eng) (s : State) : Res State :=
  if bitAt s.barrier.released e.val then
    .next ({ s with barrier := { s.barrier with released := s.barrier.released - 2 ^ e.val } }.moveGangs e.val
      .waitSync .ready)
  else .next s

/-! ### The seam -/

/-- SEAM_STALL_ALERT (R128): crossings have waited `cycles` more cycles for credit; source 20 when the stall since the last
read of CDI_SEAM_STALL passes 2^16. -/
def execSeamStallAlert (d : Die) (cycles : Nat) (s : State) : Res State :=
  let was := (s.rget (.CDI_SEAM_STALL d)).toNat
  let s1 := s.cnt (.CDI_SEAM_STALL d) F.CDI_SEAM_STALL_STALL cycles
  if was ≤ 65536 ∧ 65536 < was + cycles then .next (s1.raise (64 + d.val * 24 + 20)) else .next s1

end Sys2Proof.Machine
end

