-- ==== Sys2Proof/Machine/Headers.lean ====
section
/-! DEFINITION. The command headers of the causeway (R300): their layout, and the data flits and completions that answer a request. -/

namespace Sys2Proof.Machine

/-- The command header in its 16 bytes (R300). -/
def CmdHdr.parse (x : Nat) : CmdHdr :=
  { op := bits x 0 4, ticket := bits x 4 4, held := bits x 8 10, tag := bits x 18 9, addr := bits x 32 48, route := bits x 80 12
    viaRoute := bitAt x 92, arg := bits x 96 16 }

/-- The four words of a command header (R300). -/
def CmdHdr.words (h : CmdHdr) : List Nat :=
  [h.op % 16 + h.ticket % 16 * 16 + h.held % 1024 * 256 + h.tag % 512 * 2 ^ 18, h.addr % 2 ^ 32,
    h.addr / 2 ^ 32 % 65536 + h.route % 4096 * 65536 + b2n h.viaRoute * 2 ^ 28, h.arg % 65536]

/-- The eight command headers in the words of a command flit (R300). -/
def headersOf (ws : List Nat) : List CmdHdr :=
  (List.range 8).map (fun i => CmdHdr.parse (ofBytes ((List.range 4).flatMap (fun j => toBytes 4 (nth ws (4 * i + j) % 2 ^ 32)))))

/-- A word of 39 bits as a flit carries it (R298): a poisoned one has the poison check pattern (R195). -/
def wireWord (d : Nat) (pois : Bool) : Nat := d + (wordCheck d ^^^ (if pois then wordPoison else 0)) * 2 ^ 32

/-- The words of a flit's payload. -/
def wireWords (bytes : List Byte) (pois : List Bool) : List Nat :=
  ((chunks 4 bytes).zip (chunks 4 pois)).map (fun x => wireWord (ofBytes x.1) (x.2.any id))

/-- The manifest that travels with data of the block at device-local address `a` (R205, R299): the stored one, or, where none is kept, that of
the bytes. -/
def State.manifestAt (s : State) (a : Nat) (bytes : List Byte) : Nat :=
  let b := a / 256 * 256
  match s.cellOf true ((s.promoted b).getD b) with
  | some c => (s.mem.manifest c.key).toNat
  | none => (crc32c bytes).toNat

/-- Flits that answer a request on bundle `p` go to their sender in direction `k` (R300). -/
def State.flitsOut (s : State) (p k kind tag : Nat) (l : List (Nat × List Nat × Nat)) : State :=
  l.foldl (fun (s : State) x => s.emit (.flitSent p (decide (k = 1)) kind tag x.1 x.2.1 x.2.2))
    (s.flitsCross p (if k = 1 then l.length else 0) (if k = 1 then 0 else l.length))

/-- The data flits of a read (R299, R300): the two of a block, or a half block's and the one that brings the rest of its manifest. -/
def State.readFlits (s : State) (p k : Nat) (h : CmdHdr) (a : Nat) (bytes : List Byte) (pois : List Bool) : State :=
  let m := s.manifestAt a bytes
  let w := wireWords bytes pois
  s.flitsOut p k 0 h.tag
    (if h.op = 1 then [(0, w, m % 65536), (1, List.replicate 32 0, m / 65536)]
      else [(0, w.take 32, m % 65536), (1, w.drop 32, m / 65536)])

/-- The command flit that completes a request with STATUS `st` (R300): 0 done, 1 error, 2 write-error completion. -/
def State.cplFlit (s : State) (p k : Nat) (h : CmdHdr) (st : Nat) : State :=
  let c : CmdHdr := { (default : CmdHdr) with op := 7, ticket := h.ticket, tag := h.tag, arg := st }
  s.flitsOut p k 1 h.tag [(0, c.words.map (fun w => wireWord w false) ++ List.replicate 28 0, 0)]

end Sys2Proof.Machine
end

