-- ==== Sys2Proof/Machine/HostOps.lean ====
section
/-! DEFINITION. How requests that come over a Wealey port or from the host are answered (R326, R346, R347): completions, logged host
errors, doorbells that wait for earlier writes. -/

namespace Sys2Proof.Machine

/-! ### Errors and completions (R346) -/

/-- Logs a host error (R346, R350, R352): its bit, the address and function, the count, source 342; whether it is reported through AER
the spec leaves open. -/
def State.hbrErr (s : State) (f : Fld) (addr fn : Nat) : State :=
  let s1 := (s.bset .HBR_ERR f true).cnt .HBR_ERR F.HBR_ERR_COUNT 1
  let s2 := if Config.freeBool s.free then s1.bset .HBR_ERR F.HBR_ERR_AER true else s1
  let s3 := ((s2.fset .HBR_ERR_ADDR_LO F.HBR_ERR_ADDR_LO_ADDR addr).fset .HBR_ERR_ADDR_HI F.HBR_ERR_ADDR_HI_ADDR (addr / 2 ^ 32)).fset
    .HBR_ERR_ADDR_HI F.HBR_ERR_ADDR_HI_FUNC fn
  s3.tick.raise 342

/-- Completes a host read. -/
def State.hostComplete (s : State) (fn tag : Nat) (p : Resp) : State :=
  ((s.tlpTx 1).reply p).emit (.completion fn tag p)

/-- Completes a host read with data: with the poisoned-TLP indication when a byte is poisoned. -/
def State.hostData (s : State) (fn tag addr : Nat) (data : List Byte) (pois : List Bool) : State :=
  let s1 := s.tlpTx (ceilDiv data.length 512 - 1)
  if pois.any id then (s1.hbrErr F.HBR_ERR_EP_TX addr fn).hostComplete fn tag (.poisoned data)
  else s1.hostComplete fn tag (.data data pois)

/-- Completes a host read with Completer Abort. -/
def State.hostAbort (s : State) (fn tag addr : Nat) : State := (s.hbrErr F.HBR_ERR_CA addr fn).hostComplete fn tag .abort

/-- Completes a host read with Unsupported Request. -/
def State.hostUnsupported (s : State) (fn tag addr : Nat) : State :=
  (s.hbrErr F.HBR_ERR_UR addr fn).hostComplete fn tag .unsupported

/-- A host write that completes with an error is dropped. -/
def State.hostDrop (s : State) (fn addr : Nat) : State := (s.hbrErr F.HBR_ERR_WDROP addr fn).reply .none

/-! ### Doorbells (R347) -/

/-- Whether a group address is a doorbell register, CFG_DB_i, of its device: i (R347, R515). -/
def doorbellOf (a : Nat) : Option Nat :=
  let l := a % 2 ^ 48
  if 0x0F0000054000 ≤ l ∧ l < 0x0F0000058000 ∧ l % 4 = 0 then some ((l - 0x0F0000054000) / 4) else none

/-- This device's number as a group address holds it. -/
def State.ownNumber (s : State) : Nat := s.fget .LNK_GRP F.LNK_GRP_DEVNUM

/-- The ticket that a function's requests carry (R216, R233, R344): v for VF v, and for the PF TKT_CTL.DEF_TICKET.
DEDUCED, log entry 90: reads of the PF carry it too. -/
def State.fnTicket (s : State) (fn : Nat) : Ticket := Fin.ofNat 16 (if fn = 0 then s.taskTicket 0 else fn - 1)

/-- Delivers a doorbell write of the host (R216, R344, R347): to this device's span entry, or as a WRITE to the device it addresses.
DEDUCED, log entry 61. -/
def State.hostRing (s : State) (fn addr : Nat) (v : Word) : State :=
  match doorbellOf addr with
  | none => s
  | some i =>
    if addr / 2 ^ 48 = s.ownNumber then s.via (execDoorbell (Fin.ofNat 4096 i) v (s.fnTicket fn))
    else
      let t := s.grp.tag
      let s1 := s.transferOut 1 (addr / 2 ^ 48) 0 (addr % 2 ^ 48) (s.fnTicket fn).val false (toBytes 4 v.toNat) (List.replicate 4 false)
      { s1 with grp := { s1.grp with winWrites := s1.grp.winWrites ++ [⟨fn, addr, t % 65536⟩] } }

/-- Whether a doorbell of the host still waits (R347).  DEDUCED, log entry 61. -/
def State.hostWaits (s : State) (tags : List Nat) (reqs : List MemReq) : Bool :=
  s.grp.winWrites.any (fun w => tags.contains w.tag) || s.tkt.heldReqs.any (fun x => x.2.2 && reqs.contains x.2.1)

/-- Delivers the doorbells that no longer wait, in their order. -/
def State.ringHeld : List (List Nat × List MemReq × Nat × Nat × Word) → State → State
  | [], s => s
  | x :: l, s =>
    if s.hostWaits x.1 x.2.1 then { s with grp := { s.grp with winHeld := x :: l } }
    else State.ringHeld l ({ s with grp := { s.grp with winHeld := l } }.hostRing x.2.2.1 x.2.2.2.1 x.2.2.2.2)
@[inherit_doc State.ringHeld] def State.ringNext (s : State) : State := State.ringHeld s.grp.winHeld s

/-- A doorbell write of the host: it waits for every posted write of the host that is outstanding.  DEDUCED, log entry 61. -/
def State.hostDoorbell (s : State) (fn addr : Nat) (v : Word) : State :=
  let tags := s.grp.winWrites.map (·.tag)
  let reqs := (s.tkt.heldReqs.filter (fun x => x.2.2 && (match x.2.1.rq with
    | .host _ => true
    | _ => false))).map (·.2.1)
  ({ s with grp := { s.grp with winHeld := s.grp.winHeld ++ [(tags, reqs, fn, addr, v)] } }).ringNext

/-! ### Requests that this device has sent (R326, R346) -/

/-- Records a part of a window read that has arrived, and completes the read when all parts have. -/
def State.winPart (s : State) (w : WinRead) (tag : Nat) (data : List Byte) (pois : List Bool) : State :=
  let parts := w.parts.map (fun p => if p.1 = tag then (p.1, p.2.1, (data ++ List.replicate p.2.1 0).take p.2.1, pois) else p)
  let rest := s.grp.winReads.erase w
  if parts.all (fun p => p.2.2.1.length = p.2.1) then
    let s1 : State := { s with grp := { s.grp with winReads := rest } }
    s1.hostData w.fn w.tag w.addr (parts.flatMap (·.2.2.1)) (parts.flatMap (·.2.2.2))
  else { s with grp := { s.grp with winReads := { w with parts := parts } :: rest } }

/-- A request of this device completes with STATUS and data (R175, R326, R338, R346): a host's window read, its posted write, a step's
frame, or another's. -/
def State.tagDone (s : State) (tag status : Nat) (data : List Byte) (pois : List Bool) : State :=
  let s1 : State := { s with grp := { s.grp with tags := s.grp.tags.filter (fun t => t.1 ≠ tag) } }
  match s.grp.winReads.find? (fun w => w.parts.any (fun p => p.1 = tag)), s.grp.winWrites.find? (fun w => w.tag = tag) with
  | some w, _ =>
    if status = 0 then s1.winPart w tag data pois
    else ({ s1 with grp := { s1.grp with winReads := s1.grp.winReads.erase w } } : State).hostAbort w.fn w.tag w.addr
  | none, some w =>
    let s2 : State := { s1 with grp := { s1.grp with winWrites := s1.grp.winWrites.erase w } }
    let s3 := if status = 1 ∨ status = 3 then s2.hostDrop w.fn w.addr
      else if status = 2 then (s2.dropped w.addr).settle
      else s2
    s3.ringNext
  | none, none => (if status = 0 then s1 else s1.reply .error).stepTag tag status

/-! ### Requests served here (R326, R346) -/

/-- The response to a request frame of another device: RDATA with data, or CPL (R326). -/
def State.respond (s : State) (f : Frame) (status : Nat) (data : List Byte) (pois : List Bool) : State :=
  let typ : Nat := if status = 0 ∧ f.typ = 2 then 3 else 4
  s.frameOut { f with typ := Fin.ofNat 16 typ, host := false, src := Fin.ofNat 64 s.ownNumber, dst := f.src, down := false, hops := 0
                      held := 0, status := Fin.ofNat 16 status, len := data.length, segcrc := segCrcs f.addr data, engines := 0
                      data := data, pois := poisonWords pois }

/-- The request to memory that a port, the bridge or a bundle makes; what its resource measures of it is free (R165, R219, R224).
DEDUCED, log entry 55. -/
def State.memReq (s : State) (rq : Requester) (a n : Nat) (t : Ticket) (held : Fin 1024) (data : List Byte) (pois : List Bool) : MemReq :=
  { rq := rq, addr := a, len := n, ticket := t, held := held, level := Fin.ofNat 2048 (Config.freeWord s.free).toNat
    misses := (Config.freeWord (s.free + 1)).toNat, interval := (Config.freeWord (s.free + 2)).toNat, data := data, pois := pois }

/-- Answers a request that a command header on bundle `p` has brought (R300): data flits, or a CPL, on the bundle or on the one that stands
for it since it was retired (R314). -/
def State.answerDie (s : State) (p : Nat) (q : MemReq) (write : Bool) : State :=
  match [0, 1].findSome? (fun k => ((s.dirOf p k).asked.find? (fun x => x.1 = q)).map (fun x => (k, x))) with
  | none => s
  | some (k, x) =>
    let s1 := s.dirUpd p k (fun d => { d with asked := d.asked.erase x })
    let o := s.standIn p
    match write, s.resp with
    | true, .none => s1.cplFlit o (1 - k) x.2 0
    | true, .writeError => s1.cplFlit o (1 - k) x.2 2
    | false, .data b z => s1.readFlits o (1 - k) x.2 q.addr b z
    | _, _ => s1.cplFlit o (1 - k) x.2 1

/-- Answers the requester of a request that has been performed, as its completion stands. -/
def State.answer (s : State) (q : MemReq) (write : Bool) : State := match q.rq with
  | .wealey _ => match s.grp.ingress.find? (fun x => x.1 = q) with
    | none => s
    | some x =>
      let s1 : State := { s with grp := { s.grp with ingress := s.grp.ingress.erase x } }
      (match write, s.resp with
        | true, .none => s1.respond x.2 0 [] []
        | true, .writeError => s1.respond x.2 2 [] []
        | false, .data b p => s1.respond x.2 0 b p
        | _, _ => s1.respond x.2 1 [] [])
  | .host fn => match write with
    | true => (match s.resp with
      | .error => s.hostDrop fn.val q.addr
      | _ => s).ringNext
    | false => match s.grp.hostHeld.find? (fun x => x.1 = q) with
      | none => s
      | some x =>
        let s1 : State := { s with grp := { s.grp with hostHeld := s.grp.hostHeld.erase x } }
        match s.resp with
        | .data b p => s1.hostData x.2.1 x.2.2 q.addr b p
        | _ => s1.hostAbort x.2.1 x.2.2 q.addr
  | .die p => s.answerDie p.val q write
  | _ => s

end Sys2Proof.Machine
end

