-- ==== Sys2Proof/Machine/RegMap.lean ====
section
/-! DEFINITION. The register at an offset from the register base (R13, R506, R511 to R525), written from the tables of the
spec. -/

namespace Sys2Proof.Machine

/-- A row of the register map: the offset of its first register, for each index its count and stride, and the register. -/
abbrev RegRow := Nat × List (Nat × Nat) × (List Nat → Reg)

/-- The indices that a distance from a row's first register spells. -/
def ixOf : List (Nat × Nat) → Nat → Option (List Nat)
  | [], 0 => some []
  | [], _ + 1 => none
  | (n, st) :: l, o => if o / st < n then (ixOf l (o % st)).map (o / st :: ·) else none

/-- The register that a row gives at an offset. -/
def RegRow.find (r : RegRow) (o : Nat) : Option Reg := if o < r.1 then none else (ixOf r.2.1 (o - r.1)).map r.2.2

/-- Rows of the register map, in the order of their offsets. -/
def regRows1 : List RegRow := [
  (0x0, [], fun _ => .GLB_ID),
  (0x4, [], fun _ => .GLB_FEATURE),
  (0x8, [], fun _ => .GLB_STATUS),
  (0x10000, [], fun _ => .CLK_STAT),
  (0x10004, [], fun _ => .CLK_CHG),
  (0x10008, [], fun _ => .CLK_EVT),
  (0x10040, [(8, 0x4)], fun x => .CLK_HALF (Fin.ofNat 8 (nth x 0))),
  (0x10080, [(8, 0x4)], fun x => .CLK_MAX (Fin.ofNat 8 (nth x 0))),
  (0x20000, [], fun _ => .PWR_STATE),
  (0x20004, [], fun _ => .PWR_CTL),
  (0x20008, [], fun _ => .PWR_CAP),
  (0x2000C, [], fun _ => .PWR_CEIL),
  (0x20010, [], fun _ => .PWR_STAT),
  (0x20014, [], fun _ => .PWR_PKG),
  (0x20018, [], fun _ => .PWR_VIN),
  (0x2001C, [], fun _ => .PWR_ENERGY),
  (0x20020, [], fun _ => .PWR_RAIL_SEL),
  (0x20024, [], fun _ => .PWR_RAIL_V),
  (0x20028, [], fun _ => .PWR_RAIL_I),
  (0x2002C, [], fun _ => .PWR_RAIL_E),
  (0x20030, [], fun _ => .PWR_RAIL_FLT),
  (0x20034, [], fun _ => .PWR_DROOP),
  (0x20038, [], fun _ => .PWR_IDLE),
  (0x2003C, [], fun _ => .PWR_DIE_CMD),
  (0x20040, [], fun _ => .PWR_DIE_STAT),
  (0x20044, [], fun _ => .PWR_EVT),
  (0x20080, [(8, 0x4)], fun x => .PWR_AVS (Fin.ofNat 8 (nth x 0))),
  (0x30000, [], fun _ => .THM_CTL),
  (0x30004, [], fun _ => .THM_SEL),
  (0x30008, [], fun _ => .THM_NODE),
  (0x3000C, [], fun _ => .THM_DIE),
  (0x30010, [], fun _ => .THM_WARN),
  (0x30014, [], fun _ => .THM_THROT),
  (0x30018, [], fun _ => .THM_HOT),
  (0x3001C, [], fun _ => .THM_MAX),
  (0x30020, [], fun _ => .THM_EVT),
  (0x30040, [(4, 0x4)], fun x => .THM_DIODE (Fin.ofNat 4 (nth x 0))),
  (0x40000, [], fun _ => .BUP_CTL),
  (0x40004, [], fun _ => .BUP_RST),
  (0x40008, [], fun _ => .BUP_STAT),
  (0x4000C, [], fun _ => .BUP_CAUSE),
  (0x40010, [], fun _ => .BUP_FENCED),
  (0x40014, [], fun _ => .BUP_DIE_SEL),
  (0x40018, [], fun _ => .BUP_DIE_INFO),
  (0x4001C, [], fun _ => .BUP_LOG_CNT),
  (0x40020, [], fun _ => .BUP_LOG_SEL),
  (0x40024, [], fun _ => .BUP_RCV_LEN),
  (0x40028, [], fun _ => .BUP_RCV_GO),
  (0x4002C, [], fun _ => .BUP_RCV_STAT),
  (0x40030, [], fun _ => .BUP_BOOT_ID),
  (0x40040, [(8, 0x4)], fun x => .BUP_TS (Fin.ofNat 8 (nth x 0))),
  (0x40060, [(8, 0x4)], fun x => .BUP_LOG_DATA (Fin.ofNat 8 (nth x 0))),
  (0x50000, [], fun _ => .CFG_CTL),
  (0x50004, [], fun _ => .CFG_LOAD_ADDR_LO),
  (0x50008, [], fun _ => .CFG_LOAD_ADDR_HI),
  (0x5000C, [], fun _ => .CFG_LOAD_LEN),
  (0x50010, [], fun _ => .CFG_LOAD_GO),
  (0x50014, [], fun _ => .CFG_LOAD_STAT),
  (0x50018, [], fun _ => .CFG_LOAD_SPAN),
  (0x5001C, [], fun _ => .CFG_LOAD_ID)]

/-- Rows of the register map, in the order of their offsets. -/
def regRows2 : List RegRow := [
  (0x50020, [], fun _ => .CFG_SPAN_SEL),
  (0x50024, [], fun _ => .CFG_SPAN_STAT),
  (0x50028, [], fun _ => .CFG_SPAN_CMD),
  (0x5002C, [], fun _ => .CFG_SPAN_ERR),
  (0x50030, [], fun _ => .CFG_RT_SEL),
  (0x50034, [], fun _ => .CFG_COMMIT),
  (0x50038, [], fun _ => .CFG_COMMIT_STAT),
  (0x5003C, [], fun _ => .CFG_SHADOW_CLR),
  (0x50040, [], fun _ => .CFG_MODE_STAT),
  (0x50044, [], fun _ => .CFG_PAIR_STAT),
  (0x50048, [], fun _ => .CFG_PAIR_ABANDON),
  (0x50080, [(16, 0x4)], fun x => .CFG_IMG_DIGEST (Fin.ofNat 16 (nth x 0))),
  (0x500C0, [(4, 0x4)], fun x => .CFG_SPAN_FAULT (Fin.ofNat 4 (nth x 0))),
  (0x500E0, [(8, 0x4)], fun x => .CFG_RT_DATA (Fin.ofNat 8 (nth x 0))),
  (0x50100, [(16, 0x4)], fun x => .CFG_SPAN_EVT (Fin.ofNat 16 (nth x 0))),
  (0x54000, [(4096, 0x4)], fun x => .CFG_DB (Fin.ofNat 4096 (nth x 0))),
  (0x60000, [], fun _ => .SEC_SERIAL_LO),
  (0x60004, [], fun _ => .SEC_SERIAL_HI),
  (0x60008, [], fun _ => .SEC_KEYS),
  (0x6000C, [], fun _ => .SEC_KEY_SEL),
  (0x60010, [], fun _ => .SEC_LIC),
  (0x60014, [], fun _ => .SEC_LIC_NUM),
  (0x60018, [], fun _ => .SEC_VFY),
  (0x6001C, [], fun _ => .SEC_KNOT_OFF),
  (0x60020, [], fun _ => .SEC_KNOT_GO),
  (0x60024, [], fun _ => .SEC_KNOT_STAT),
  (0x60028, [], fun _ => .SEC_ATT_OFF),
  (0x6002C, [], fun _ => .SEC_ATT_GO),
  (0x60030, [], fun _ => .SEC_ATT_STAT),
  (0x60034, [], fun _ => .SEC_CERT_SEL),
  (0x60038, [], fun _ => .SEC_CERT_DATA),
  (0x6003C, [], fun _ => .SEC_EVT),
  (0x60040, [(8, 0x4)], fun x => .SEC_KEY_DIG (Fin.ofNat 8 (nth x 0))),
  (0x60060, [(8, 0x4)], fun x => .SEC_NONCE (Fin.ofNat 8 (nth x 0))),
  (0x70000, [(512, 0x4)], fun x => .ICU_SRC (Fin.ofNat 512 (nth x 0))),
  (0x70800, [(512, 0x4)], fun x => .ICU_TMASK (Fin.ofNat 512 (nth x 0))),
  (0x71000, [(512, 0x4)], fun x => .ICU_COAL (Fin.ofNat 512 (nth x 0))),
  (0x71800, [(16, 0x4)], fun x => .ICU_PEND (Fin.ofNat 16 (nth x 0))),
  (0x71900, [(16, 0x4)], fun x => .ICU_CLAIM (Fin.ofNat 16 (nth x 0))),
  (0x71940, [(16, 0x4)], fun x => .ICU_EOI (Fin.ofNat 16 (nth x 0))),
  (0x71980, [(16, 0x4)], fun x => .ICU_TCTL (Fin.ofNat 16 (nth x 0))),
  (0x719C0, [(16, 0x4)], fun x => .ICU_TSTAT (Fin.ofNat 16 (nth x 0))),
  (0x71A00, [(15, 0x4)], fun x => .ICU_TGT (Fin.ofNat 15 (nth x 0))),
  (0x71A40, [], fun _ => .ICU_SWI),
  (0x71A44, [], fun _ => .ICU_WAKE),
  (0x71A48, [], fun _ => .ICU_TICK),
  (0x71A80, [(32, 0x4)], fun x => .ICU_FERRY (Fin.ofNat 32 (nth x 0))),
  (0x80000, [], fun _ => .TKT_CTL),
  (0x80004, [], fun _ => .TKT_SEL),
  (0x80008, [], fun _ => .TKT_AVG),
  (0x8000C, [], fun _ => .TKT_WIN),
  (0x80010, [], fun _ => .TKT_RSTAT),
  (0x80014, [], fun _ => .TKT_HELD),
  (0x80018, [], fun _ => .TKT_MISS),
  (0x8001C, [], fun _ => .TKT_MISS_LAST),
  (0x80020, [], fun _ => .TKT_DROP),
  (0x80040, [(16, 0x4)], fun x => .TKT_CLS (Fin.ofNat 16 (nth x 0))),
  (0x80080, [(16, 0x4)], fun x => .TKT_TGT (Fin.ofNat 16 (nth x 0))),
  (0x800C0, [(16, 0x4)], fun x => .TKT_BW0 (Fin.ofNat 16 (nth x 0))),
  (0x80100, [(16, 0x4)], fun x => .TKT_BW1 (Fin.ofNat 16 (nth x 0)))]

/-- Rows of the register map, in the order of their offsets. -/
def regRows3 : List RegRow := [
  (0x80140, [(4, 0x4)], fun x => .TKT_QTHR (Fin.ofNat 4 (nth x 0))),
  (0x80150, [(4, 0x4)], fun x => .TKT_ADMIT (Fin.ofNat 4 (nth x 0))),
  (0x90000, [], fun _ => .MEM_INST_SEL),
  (0x90004, [], fun _ => .MEM_CE_CNT),
  (0x90008, [], fun _ => .MEM_UE_CNT),
  (0x9000C, [], fun _ => .MEM_RCL_STAT),
  (0x90010, [], fun _ => .MEM_PATCH_STAT),
  (0x90014, [], fun _ => .MEM_PATCH_SEL),
  (0x90018, [], fun _ => .MEM_PATCH_ADDR_LO),
  (0x9001C, [], fun _ => .MEM_PATCH_ADDR_HI),
  (0x90020, [], fun _ => .MEM_PATCH_DATA),
  (0x90024, [], fun _ => .MEM_PATCH_CTL),
  (0x90028, [], fun _ => .MEM_EVT),
  (0x9002C, [], fun _ => .MEM_POISON_CNT),
  (0x90030, [], fun _ => .MEM_FENCE_MACRO),
  (0x90034, [], fun _ => .MEM_FENCE_STAT),
  (0x90038, [], fun _ => .MEM_RETIRE_LO),
  (0x9003C, [], fun _ => .MEM_RETIRE_HI),
  (0x90040, [], fun _ => .MEM_RETIRE_CMD),
  (0x90044, [], fun _ => .MEM_RETIRE_STAT),
  (0x90048, [], fun _ => .MEM_FLIP_CTL),
  (0x9004C, [], fun _ => .MEM_FLIP_HIT_LO),
  (0x90050, [], fun _ => .MEM_FLIP_HIT_HI),
  (0x90054, [], fun _ => .MEM_SCRUB_BASE_LO),
  (0x90058, [], fun _ => .MEM_SCRUB_BASE_HI),
  (0x9005C, [], fun _ => .MEM_SCRUB_LEN_LO),
  (0x90060, [], fun _ => .MEM_SCRUB_LEN_HI),
  (0x90064, [], fun _ => .MEM_SCRUB_DST),
  (0x90068, [], fun _ => .MEM_SCRUB_GO),
  (0x9006C, [], fun _ => .MEM_SCRUB_STAT),
  (0x90070, [], fun _ => .MEM_MAN_CNT),
  (0x90074, [], fun _ => .MEM_MAN_ADDR_LO),
  (0x90078, [], fun _ => .MEM_MAN_ADDR_HI),
  (0x9007C, [], fun _ => .MEM_WERR_LO),
  (0x90080, [], fun _ => .MEM_WERR_HI),
  (0x900C0, [(6, 0x4)], fun x => .MEM_FLIP_DATA (Fin.ofNat 6 (nth x 0))),
  (0x900E0, [(6, 0x4)], fun x => .MEM_FLIP_CHK (Fin.ofNat 6 (nth x 0))),
  (0x90100, [(6, 0x4)], fun x => .MEM_FLIP_INST (Fin.ofNat 6 (nth x 0))),
  (0xA0000, [(256, 0x4)], fun x => .SBF_PART_BASE (Fin.ofNat 256 (nth x 0))),
  (0xA0400, [(256, 0x4)], fun x => .SBF_PART_LEN (Fin.ofNat 256 (nth x 0))),
  (0xA0800, [], fun _ => .SBF_PL_CTL),
  (0xA0804, [], fun _ => .SBF_PL_STAT),
  (0xA0808, [], fun _ => .SBF_PL_PROMO),
  (0xA080C, [], fun _ => .SBF_PL_DEMO),
  (0xA0810, [], fun _ => .SBF_PROMO_PAGE),
  (0xA0814, [], fun _ => .SBF_PROMO_CMD),
  (0xA0818, [], fun _ => .SBF_PROMO_STAT),
  (0xB0000, [(16, 0x4)], fun x => .BRG_RING_BASE (Fin.ofNat 16 (nth x 0))),
  (0xB0040, [(16, 0x4)], fun x => .BRG_RING_LEN (Fin.ofNat 16 (nth x 0))),
  (0xB0080, [(16, 0x4)], fun x => .BRG_WR (Fin.ofNat 16 (nth x 0))),
  (0xB00C0, [(16, 0x4)], fun x => .BRG_RD (Fin.ofNat 16 (nth x 0))),
  (0xB0100, [(16, 0x4)], fun x => .BRG_STAT (Fin.ofNat 16 (nth x 0))),
  (0xB0140, [(16, 0x4)], fun x => .BRG_CTL (Fin.ofNat 16 (nth x 0))),
  (0xC0000, [], fun _ => .GEN_CTL),
  (0xC0004, [], fun _ => .GEN_STATUS),
  (0xC0008, [], fun _ => .GEN_VOCAB),
  (0xC000C, [], fun _ => .GEN_SAMP_GO),
  (0xC0100, [(64, 0x4)], fun x => .GEN_SEQ (Fin.ofNat 64 (nth x 0))),
  (0xC0200, [(64, 0x4)], fun x => .GEN_CNT (Fin.ofNat 64 (nth x 0))),
  (0xC0300, [(64, 0x4)], fun x => .GEN_HIST (Fin.ofNat 64 (nth x 0)))]

/-- Rows of the register map, in the order of their offsets. -/
def regRows4 : List RegRow := [
  (0xC0400, [(64, 0x4)], fun x => .GEN_ORING_WR (Fin.ofNat 64 (nth x 0))),
  (0xC0500, [(64, 0x4)], fun x => .GEN_ORING_RD (Fin.ofNat 64 (nth x 0))),
  (0xC0800, [(64, 0x20), (8, 0x4)], fun x => .GEN_SAMP (Fin.ofNat 64 (nth x 0)) (Fin.ofNat 8 (nth x 1))),
  (0x100000, [(8, 0x10000)], fun x => .STK_ID (Fin.ofNat 8 (nth x 0))),
  (0x100004, [(8, 0x10000)], fun x => .STK_STAT (Fin.ofNat 8 (nth x 0))),
  (0x100008, [(8, 0x10000)], fun x => .STK_PIN_THR (Fin.ofNat 8 (nth x 0))),
  (0x10000C, [(8, 0x10000)], fun x => .STK_QLEVEL (Fin.ofNat 8 (nth x 0))),
  (0x100010, [(8, 0x10000)], fun x => .STK_RD_CNT (Fin.ofNat 8 (nth x 0))),
  (0x100014, [(8, 0x10000)], fun x => .STK_WR_CNT (Fin.ofNat 8 (nth x 0))),
  (0x100018, [(8, 0x10000)], fun x => .STK_MISS_CNT (Fin.ofNat 8 (nth x 0))),
  (0x100400, [(256, 0x4)], fun x => .STK_PART_BASE (Fin.ofNat 256 (nth x 0))),
  (0x100800, [(256, 0x4)], fun x => .STK_PART_LEN (Fin.ofNat 256 (nth x 0))),
  (0x200000, [(78, 0x10000)], fun x => .CWY_DISC (Fin.ofNat 78 (nth x 0))),
  (0x200004, [(78, 0x10000)], fun x => .CWY_STAT (Fin.ofNat 78 (nth x 0))),
  (0x200008, [(78, 0x10000), (2, 0x4)], fun x => .CWY_REPAIR (Fin.ofNat 78 (nth x 0)) (Fin.ofNat 2 (nth x 1))),
  (0x200010, [(78, 0x10000)], fun x => .CWY_CTL (Fin.ofNat 78 (nth x 0))),
  (0x200014, [(78, 0x10000)], fun x => .CWY_LANE_SEL (Fin.ofNat 78 (nth x 0))),
  (0x200018, [(78, 0x10000)], fun x => .CWY_LANE_CNT (Fin.ofNat 78 (nth x 0))),
  (0x20001C, [(78, 0x10000)], fun x => .CWY_CRC (Fin.ofNat 78 (nth x 0))),
  (0x200020, [(78, 0x10000)], fun x => .CWY_TX (Fin.ofNat 78 (nth x 0))),
  (0x200024, [(78, 0x10000)], fun x => .CWY_RX (Fin.ofNat 78 (nth x 0))),
  (0x200028, [(78, 0x10000)], fun x => .CWY_EVT (Fin.ofNat 78 (nth x 0))),
  (0x1000000, [(8, 0x100000)], fun x => .CDI_ID (Fin.ofNat 8 (nth x 0))),
  (0x1000004, [(8, 0x100000)], fun x => .CDI_CTL (Fin.ofNat 8 (nth x 0))),
  (0x1000008, [(8, 0x100000)], fun x => .CDI_STATUS (Fin.ofNat 8 (nth x 0))),
  (0x100000C, [(8, 0x100000)], fun x => .CDI_ROW_SUBST (Fin.ofNat 8 (nth x 0))),
  (0x1000010, [(8, 0x100000)], fun x => .CDI_SUBST_STAT (Fin.ofNat 8 (nth x 0))),
  (0x1000014, [(8, 0x100000)], fun x => .CDI_EDGE_THR (Fin.ofNat 8 (nth x 0))),
  (0x1000018, [(8, 0x100000)], fun x => .CDI_SEAM (Fin.ofNat 8 (nth x 0))),
  (0x100001C, [(8, 0x100000)], fun x => .CDI_SEAM_STALL (Fin.ofNat 8 (nth x 0))),
  (0x1000020, [(8, 0x100000)], fun x => .CDI_MCAST_SKIP (Fin.ofNat 8 (nth x 0))),
  (0x1000024, [(8, 0x100000)], fun x => .CDI_HB_MISS (Fin.ofNat 8 (nth x 0))),
  (0x1000040, [(8, 0x100000), (4, 0x4)], fun x => .CDI_MAP (Fin.ofNat 8 (nth x 0)) (Fin.ofNat 4 (nth x 1))),
  (0x1000060, [(8, 0x100000), (8, 0x4)], fun x => .CDI_EDGE (Fin.ofNat 8 (nth x 0)) (Fin.ofNat 8 (nth x 1))),
  (0x1008000, [(8, 0x100000), (16, 0x10000)], fun x => .ENG_STATE (Fin.ofNat 128 (nth x 0 * 16 + nth x 1))),
  (0x1008004, [(8, 0x100000), (16, 0x10000)], fun x => .ENG_CTL (Fin.ofNat 128 (nth x 0 * 16 + nth x 1))),
  (0x1008008, [(8, 0x100000), (16, 0x10000)], fun x => .ENG_CTX (Fin.ofNat 128 (nth x 0 * 16 + nth x 1))),
  (0x100800C, [(8, 0x100000), (16, 0x10000)], fun x => .ENG_LS (Fin.ofNat 128 (nth x 0 * 16 + nth x 1))),
  (0x1008010, [(8, 0x100000), (16, 0x10000), (4, 0x4)], fun x => .ENG_FAULT (Fin.ofNat 128 (nth x 0 * 16 + nth x 1)) (Fin.ofNat 4 (nth x 2))),
  (0x1008020, [(8, 0x100000), (16, 0x10000), (5, 0x4)], fun x => .ENG_ARITH (Fin.ofNat 128 (nth x 0 * 16 + nth x 1)) (Fin.ofNat 5 (nth x 2))),
  (0x2000000, [], fun _ => .RTV_ID),
  (0x2000004, [], fun _ => .RTV_STAT),
  (0x2000008, [], fun _ => .RTV_RE_FENCE),
  (0x200000C, [], fun _ => .RTV_WALK),
  (0x2000010, [], fun _ => .RTV_WSLOT),
  (0x2000014, [], fun _ => .RTV_PIPE_SEL),
  (0x2000018, [], fun _ => .RTV_PSTAT),
  (0x200001C, [], fun _ => .RTV_CNT_Q),
  (0x2000020, [], fun _ => .RTV_CNT_F),
  (0x2000024, [], fun _ => .RTV_CNT_U),
  (0x2000028, [], fun _ => .RTV_FAIL),
  (0x200002C, [], fun _ => .RTV_FAIL_IDX),
  (0x2000030, [], fun _ => .RTV_EVT),
  (0x2000100, [(64, 0x4)], fun x => .RTV_QWR (Fin.ofNat 64 (nth x 0))),
  (0x2000200, [(64, 0x4)], fun x => .RTV_QRD (Fin.ofNat 64 (nth x 0))),
  (0x2000300, [(64, 0x4)], fun x => .RTV_RRD (Fin.ofNat 64 (nth x 0))),
  (0x2100000, [(32, 0x1000)], fun x => .FLC_STAT (Fin.ofNat 32 (nth x 0))),
  (0x2100004, [(32, 0x1000)], fun x => .FLC_LUN (Fin.ofNat 32 (nth x 0))),
  (0x2100008, [(32, 0x1000)], fun x => .FLC_LUN_FENCE (Fin.ofNat 32 (nth x 0))),
  (0x210000C, [(32, 0x1000)], fun x => .FLC_OPEN (Fin.ofNat 32 (nth x 0)))]

/-- Rows of the register map, in the order of their offsets. -/
def regRows5 : List RegRow := [
  (0x2100010, [(32, 0x1000)], fun x => .FLC_CTL (Fin.ofNat 32 (nth x 0))),
  (0x2100014, [(32, 0x1000)], fun x => .FLC_LOOP (Fin.ofNat 32 (nth x 0))),
  (0x2100018, [(32, 0x1000)], fun x => .FLC_QLEVEL (Fin.ofNat 32 (nth x 0))),
  (0x210001C, [(32, 0x1000)], fun x => .FLC_RD_CNT (Fin.ofNat 32 (nth x 0))),
  (0x2100020, [(32, 0x1000)], fun x => .FLC_CE_BITS (Fin.ofNat 32 (nth x 0))),
  (0x2100024, [(32, 0x1000)], fun x => .FLC_RETRY (Fin.ofNat 32 (nth x 0))),
  (0x2100028, [(32, 0x1000)], fun x => .FLC_UE (Fin.ofNat 32 (nth x 0))),
  (0x210002C, [(32, 0x1000)], fun x => .FLC_PROBE (Fin.ofNat 32 (nth x 0))),
  (0x2100030, [(32, 0x1000)], fun x => .FLC_DISCARD (Fin.ofNat 32 (nth x 0))),
  (0x2100034, [(32, 0x1000)], fun x => .FLC_FAIL (Fin.ofNat 32 (nth x 0))),
  (0x2100038, [(32, 0x1000)], fun x => .FLC_EVT (Fin.ofNat 32 (nth x 0))),
  (0x210003C, [(32, 0x1000)], fun x => .FLC_THR_SEL (Fin.ofNat 32 (nth x 0))),
  (0x2100040, [(32, 0x1000)], fun x => .FLC_THR_DATA (Fin.ofNat 32 (nth x 0))),
  (0x2100044, [(32, 0x1000)], fun x => .FLC_PE_SEL (Fin.ofNat 32 (nth x 0))),
  (0x2100048, [(32, 0x1000)], fun x => .FLC_PE_DATA (Fin.ofNat 32 (nth x 0))),
  (0x210004C, [(32, 0x1000)], fun x => .FLC_RAW_ADDR (Fin.ofNat 32 (nth x 0))),
  (0x2100050, [(32, 0x1000)], fun x => .FLC_RAW_BUF (Fin.ofNat 32 (nth x 0))),
  (0x2100054, [(32, 0x1000)], fun x => .FLC_RAW_PARAM (Fin.ofNat 32 (nth x 0))),
  (0x2100058, [(32, 0x1000)], fun x => .FLC_RAW_CMD (Fin.ofNat 32 (nth x 0))),
  (0x210005C, [(32, 0x1000)], fun x => .FLC_RAW_STAT (Fin.ofNat 32 (nth x 0))),
  (0x2100060, [(32, 0x1000)], fun x => .FLC_BG (Fin.ofNat 32 (nth x 0))),
  (0x2100100, [], fun _ => .FLC_PATROL),
  (0x2100104, [], fun _ => .FLC_MOUNT),
  (0x2100108, [], fun _ => .FLC_FMT),
  (0x210010C, [], fun _ => .FLC_FMT_PROF),
  (0x2100110, [], fun _ => .FLC_FMT_STAT),
  (0x2100114, [], fun _ => .FLC_CAP),
  (0x2100118, [], fun _ => .FLC_CAP_TOTAL),
  (0x210011C, [], fun _ => .FLC_ZONE_HANDLE),
  (0x2100120, [], fun _ => .FLC_ZONE_CMD),
  (0x2100124, [], fun _ => .FLC_ZONE_STAT),
  (0x2100128, [], fun _ => .FLC_ZONE_WP),
  (0x3000000, [(2, 0x100000)], fun x => .LNK_ID (Fin.ofNat 2 (nth x 0))),
  (0x3000004, [(2, 0x100000)], fun x => .LNK_CTL (Fin.ofNat 2 (nth x 0))),
  (0x3000008, [(2, 0x100000)], fun x => .LNK_LANE_SEL (Fin.ofNat 2 (nth x 0))),
  (0x300000C, [(2, 0x100000)], fun x => .LNK_LANE (Fin.ofNat 2 (nth x 0))),
  (0x3000040, [(2, 0x100000), (8, 0x4)], fun x => .LNK_PSTAT (Fin.ofNat 2 (nth x 0)) (Fin.ofNat 8 (nth x 1))),
  (0x3000060, [(2, 0x100000), (8, 0x4)], fun x => .LNK_PCTL (Fin.ofNat 2 (nth x 0)) (Fin.ofNat 8 (nth x 1))),
  (0x3000080, [(2, 0x100000), (8, 0x4)], fun x => .LNK_FEC (Fin.ofNat 2 (nth x 0)) (Fin.ofNat 8 (nth x 1))),
  (0x30000A0, [(2, 0x100000), (8, 0x4)], fun x => .LNK_UCW (Fin.ofNat 2 (nth x 0)) (Fin.ofNat 8 (nth x 1))),
  (0x30000C0, [(2, 0x100000), (8, 0x4)], fun x => .LNK_RTRN (Fin.ofNat 2 (nth x 0)) (Fin.ofNat 8 (nth x 1))),
  (0x30000E0, [(2, 0x100000), (8, 0x4)], fun x => .LNK_TX (Fin.ofNat 2 (nth x 0)) (Fin.ofNat 8 (nth x 1))),
  (0x3000100, [(2, 0x100000), (8, 0x4)], fun x => .LNK_RX (Fin.ofNat 2 (nth x 0)) (Fin.ofNat 8 (nth x 1))),
  (0x3000120, [(2, 0x100000), (8, 0x4)], fun x => .LNK_EVT (Fin.ofNat 2 (nth x 0)) (Fin.ofNat 8 (nth x 1))),
  (0x3000200, [], fun _ => .LNK_GRP),
  (0x3000204, [], fun _ => .LNK_GEN),
  (0x3000208, [], fun _ => .LNK_RESCAN),
  (0x300020C, [], fun _ => .LNK_DEV_SEL),
  (0x3000210, [], fun _ => .LNK_DEV),
  (0x3000214, [], fun _ => .LNK_DEV_INFO),
  (0x3000218, [], fun _ => .LNK_DEV_SN),
  (0x300021C, [], fun _ => .LNK_EXP),
  (0x3000220, [], fun _ => .LNK_OUT),
  (0x4000000, [], fun _ => .HBR_IDS),
  (0x4000004, [], fun _ => .HBR_STAT),
  (0x4000008, [], fun _ => .HBR_CTL),
  (0x400000C, [], fun _ => .HBR_WIN),
  (0x4000010, [], fun _ => .HBR_ERR),
  (0x4000014, [], fun _ => .HBR_ERR_ADDR_LO),
  (0x4000018, [], fun _ => .HBR_ERR_ADDR_HI)]

/-- Rows of the register map, in the order of their offsets. -/
def regRows6 : List RegRow := [
  (0x400001C, [], fun _ => .HBR_TLP_TX),
  (0x4000020, [], fun _ => .HBR_TLP_RX),
  (0x4000040, [(15, 0x4)], fun x => .HBR_TGT (Fin.ofNat 15 (nth x 0))),
  (0x4000080, [(16, 0x4)], fun x => .HBR_VFW_BASE (Fin.ofNat 16 (nth x 0))),
  (0x40000C0, [(16, 0x4)], fun x => .HBR_VFW_LEN (Fin.ofNat 16 (nth x 0))),
  (0x4000100, [(16, 0x4)], fun x => .HBR_VFDB (Fin.ofNat 16 (nth x 0))),
  (0x5000000, [], fun _ => .TEL_SNAP),
  (0x5000004, [], fun _ => .TEL_SNAP_STAT),
  (0x5000008, [], fun _ => .TEL_SNAP_SKIP),
  (0x500000C, [], fun _ => .TEL_GRP_MISS_LO),
  (0x5000010, [], fun _ => .TEL_GRP_MISS_HI),
  (0x5000014, [], fun _ => .TEL_CH_SEL),
  (0x5000018, [], fun _ => .TEL_CH_SENT),
  (0x500001C, [], fun _ => .TEL_CH_RCVD),
  (0x5000020, [], fun _ => .TEL_CH_STAT),
  (0x5000024, [], fun _ => .TEL_RING_BASE),
  (0x5000028, [], fun _ => .TEL_RING_LEN),
  (0x500002C, [], fun _ => .TEL_RING_CTL),
  (0x5000030, [], fun _ => .TEL_RING_WR),
  (0x5000034, [], fun _ => .TEL_RING_RD),
  (0x5000038, [], fun _ => .TEL_EVT),
  (0x500003C, [], fun _ => .TEL_HIST_SEL),
  (0x5000040, [(16, 0x4)], fun x => .TEL_HIST (Fin.ofNat 16 (nth x 0))),
  (0x6000000, [], fun _ => .LDP_STAT),
  (0x6000004, [], fun _ => .LDP_ACCESS),
  (0x6000008, [], fun _ => .LDP_ALERT),
  (0x600000C, [], fun _ => .LDP_ALERT_EN),
  (0x6000010, [], fun _ => .LDP_MBOX_IN),
  (0x6000014, [], fun _ => .LDP_MBOX_OUT),
  (0x6000018, [], fun _ => .LDP_CRASH_CLR),
  (0x600001C, [], fun _ => .LDP_FERRY_TMR),
  (0x6000020, [], fun _ => .LDP_FERRY_STAT),
  (0x6000024, [], fun _ => .LDP_REQ),
  (0x6000028, [], fun _ => .LDP_EVT),
  (0x6000080, [(32, 0x4)], fun x => .LDP_CRASH (Fin.ofNat 32 (nth x 0))),
  (0x7000000, [], fun _ => .TST_CTL),
  (0x7000004, [], fun _ => .TST_STAT),
  (0x7000008, [], fun _ => .TST_SEL),
  (0x700000C, [], fun _ => .TST_RES),
  (0x7000010, [], fun _ => .TST_IDCODE),
  (0x7000014, [], fun _ => .TST_EVT),
  (0x7000040, [(22, 0x4)], fun x => .TST_FAILMAP (Fin.ofNat 22 (nth x 0)))]

/-- The register map. -/
def regRows : List RegRow := regRows1 ++ regRows2 ++ regRows3 ++ regRows4 ++ regRows5 ++ regRows6

/-- The register at an offset (a multiple of 4), if there is one. -/
def Reg.ofOffset (o : Nat) : Option Reg := regRows.findSome? (fun r => r.find o)

end Sys2Proof.Machine
end

