-- ==== Sys2Proof/Machine/PairSets.lean ====
section
/-! DEFINITION. Pair sets (file 05_spans_and_images.md, R150 to R152; R172, R180, R231, R343): their fields, the checks of the
owning block, shadows at basic level and pending values at expert level. -/

namespace Sys2Proof.Machine

/-- A pair set (R150), or for routes one entry of a route pair. -/
inductive PairSet where
  | sbf (p : Fin 256)
  | stk (p : Fin 256)
  | route (n : Nat)
  | tkt (t : Fin 16)
  | ring (m : Fin 16)
  | vf (v : Fin 16)
  deriving DecidableEq, Repr

/-- The block of a mode change that owns a pair set (R150): 0 SBF, 1 STK, 2 CFG, 3 TKT, 4 BRG, 5 HBR. -/
def PairSet.block : PairSet → Nat
  | .sbf _ => 0
  | .stk _ => 1
  | .route _ => 2
  | .tkt _ => 3
  | .ring _ => 4
  | .vf _ => 5

/-- The pair set, or the route entry, that a field belongs to. -/
def RwpKey.set : RwpKey → Option PairSet
  | .reg (.SBF_PART_BASE p) => some (.sbf p)
  | .reg (.SBF_PART_LEN p) => some (.sbf p)
  | .reg (.STK_PART_BASE p) => some (.stk p)
  | .reg (.STK_PART_LEN p) => some (.stk p)
  | .reg (.TKT_TGT t) => some (.tkt t)
  | .reg (.TKT_BW0 t) => some (.tkt t)
  | .reg (.TKT_BW1 t) => some (.tkt t)
  | .reg (.BRG_RING_BASE m) => some (.ring m)
  | .reg (.BRG_RING_LEN m) => some (.ring m)
  | .reg (.HBR_VFW_BASE v) => some (.vf v)
  | .reg (.HBR_VFW_LEN v) => some (.vf v)
  | .reg _ => none
  | .route n _ => some (.route n)

/-- The fields of a pair set, or of a route entry. -/
def PairSet.keys : PairSet → List RwpKey
  | .sbf p => [.reg (.SBF_PART_BASE p), .reg (.SBF_PART_LEN p)]
  | .stk p => [.reg (.STK_PART_BASE p), .reg (.STK_PART_LEN p)]
  | .route n => (List.range 8).map (.route n)
  | .tkt t => [.reg (.TKT_TGT t), .reg (.TKT_BW0 t), .reg (.TKT_BW1 t)]
  | .ring m => [.reg (.BRG_RING_BASE m), .reg (.BRG_RING_LEN m)]
  | .vf v => [.reg (.HBR_VFW_BASE v), .reg (.HBR_VFW_LEN v)]

/-- The partition of a window register (R172): of KIND 0 for the shared buffer, of KIND 1 or 2 for the stacks. -/
def State.sbfWindow (s : State) (p : Nat) : Option Part :=
  let x := s.image.parts.at p
  if x.valid && decide (x.kind = 0) then some x else none
@[inherit_doc State.sbfWindow] def State.stkWindow (s : State) (p : Nat) : Option Part :=
  let x := s.image.parts.at p
  if x.valid && decide (x.kind = 1 ∨ x.kind = 2) then some x else none

/-- The live value of a field (R17, R172): windows show the partitions of the loaded images and read 0 for others. -/
def State.pairLive (s : State) : RwpKey → Word
  | .reg (.SBF_PART_BASE p) => match s.sbfWindow p.val with
    | some x => wordOf (x.base - sbfAddr 0)
    | none => 0
  | .reg (.SBF_PART_LEN p) => match s.sbfWindow p.val with
    | some x => wordOf x.len
    | none => 0
  | .reg (.STK_PART_BASE p) => match s.stkWindow p.val with
    | some x => wordOf ((if x.kind = 1 then x.base else x.base - stackKey 0) / 65536 + (if x.kind = 2 then 2 ^ 24 else 0))
    | none => 0
  | .reg (.STK_PART_LEN p) => match s.stkWindow p.val with
    | some x => wordOf (x.len / 65536)
    | none => 0
  | .reg r => s.rget r
  | .route n w => nth (s.image.routes.at n).words w

/-- Whether writes to a field are taken (R172, R233). -/
def State.pairTakes (s : State) : RwpKey → Bool
  | .reg (.SBF_PART_BASE p) => (s.sbfWindow p.val).isSome
  | .reg (.SBF_PART_LEN p) => (s.sbfWindow p.val).isSome
  | .reg (.STK_PART_BASE p) => (s.stkWindow p.val).isSome
  | .reg (.STK_PART_LEN p) => (s.stkWindow p.val).isSome
  | .reg (.TKT_TGT t) => t ≠ 0
  | .reg (.TKT_BW0 t) => t ≠ 0
  | .reg (.TKT_BW1 t) => t ≠ 0
  | k => k.set.isSome

/-! ### The members of a set -/

/-- The value that a list of written fields gives a field. -/
def written (l : List (RwpKey × Word)) (k : RwpKey) : Option Word := (l.find? (fun x => decide (x.1 = k))).map (·.2)

/-- Whether every field of a pair set, or of a route entry, has been written. -/
def allWritten (l : List (RwpKey × Word)) (x : PairSet) : Bool := x.keys.all (fun k => (written l k).isSome)

/-- The route entry `n` as some written fields make it. -/
def State.routeWith (s : State) (l : List (RwpKey × Word)) (n : Nat) : RouteEnt :=
  let e := s.image.routes.at n
  { e with valid := true, words := (List.range 8).map (fun w => (written l (.route n w)).getD (nth e.words w)) }

/-- Whether route `a` names route `b` as its return, live or as written. -/
def State.routeNames (s : State) (l : List (RwpKey × Word)) (a b : Nat) : Bool :=
  let names (r : RouteEnt) : Bool := r.valid && decide (r.get 0 28 1 = 1 ∧ r.get 0 16 12 = b)
  names (s.image.routes.at a) || (allWritten l (.route a) && names (s.routeWith l a))

/-- The route entries that an entry is joined to, as far as `fuel` steps reach. -/
def State.routeSet (s : State) (l : List (RwpKey × Word)) : (fuel : Nat) → List Nat → List Nat
  | 0, ns => ns
  | f + 1, ns =>
    let all := (s.image.routes.map (·.1) ++ l.filterMap (fun x => match x.1 with | .route n _ => some n | _ => none)).eraseDups
    let ns' := all.filter (fun b => ns.contains b || ns.any (fun a => s.routeNames l a b || s.routeNames l b a))
    if ns'.length ≤ ns.length then ns' else s.routeSet l f ns'

/-- The whole pair set of `x`, with fields written as `l` says (R150): a route entry with those that name it, live or new. -/
def State.pairAll (s : State) (l : List (RwpKey × Word)) (x : PairSet) : List PairSet :=
  match x with
  | .route n => (s.routeSet l 8 [n]).map .route
  | x => [x]

/-! ### Consistency and adoption -/

/-- The state whose live fields of `x` are as written, other fields of the set unchanged. -/
def State.pairPut (s : State) (l : List (RwpKey × Word)) (x : PairSet) : State :=
  let v (k : RwpKey) : Word := (written l k).getD (s.pairLive k)
  match x with
  | .sbf p => { s with image := { s.image with parts := s.image.parts.upd p.val (fun q =>
      { q with base := sbfAddr (v (.reg (.SBF_PART_BASE p))).toNat, len := (v (.reg (.SBF_PART_LEN p))).toNat }) } }
  | .stk p =>
    let b := v (.reg (.STK_PART_BASE p))
    let placed := decide (F.STK_PART_BASE_VIEW.get b = 1)
    { s with image := { s.image with parts := s.image.parts.upd p.val (fun q =>
      { q with
        kind := if placed then 2 else 1
        base := (if placed then stackKey 0 else 0) + F.STK_PART_BASE_BASE.get b * 65536
        len := (v (.reg (.STK_PART_LEN p))).toNat * 65536 }) } }
  | .route n => { s with image := { s.image with routes := s.image.routes.put n (s.routeWith l n) } }
  | x => x.keys.foldl (fun (s : State) k => match k with
      | .reg r => s.rset r (v k)
      | .route _ _ => s) s

/-- Whether bytes `a` to `a + n - 1` of the group address space lie within one memory range of a numbered device (R159, R343). -/
def State.memWindow (s : State) (dev a n : Nat) : Bool :=
  let ends (b e : Nat) : Bool := decide (b ≤ a ∧ a + n ≤ e)
  (decide (s.fget .LNK_GRP F.LNK_GRP_DEVNUM = dev) || s.devFound dev) &&
    (ends 0 0x010000000000 || ends 0x010000000000 0x020000000000 || ends 0x020000000000 0x022000000000 ||
      ends 0x030000000000 0x030020000000 || ends 0x031000000000 0x0310C0000000)

/-- Whether the live rings of two movers share a byte of the shared buffer (R150). -/
def State.ringsMeet (s : State) (m k : Fin 16) : Bool :=
  let at_ (m : Fin 16) : Nat × Nat := ((s.rget (.BRG_RING_BASE m)).toNat, (s.rget (.BRG_RING_LEN m)).toNat)
  decide ((at_ m).2 ≠ 0 ∧ (at_ k).2 ≠ 0) && touches (at_ m).1 (at_ m).2 (at_ k).1 (at_ k).2

/-- Whether a pair set that has just been put live is consistent (R150, R172, R180, R231, R343).  DEDUCED, log entry 74. -/
def State.pairOk (s : State) : PairSet → Bool
  | .sbf p =>
    let x := s.image.parts.at p.val
    decide (x.base % 4096 = 0 ∧ x.len % 4096 = 0 ∧ x.base + x.len ≤ sbfAddr 0x20000000) &&
      s.image.parts.all (fun y => y.1 = p.val || !y.2.valid || !partsMeet x y.2)
  | .stk p =>
    let x := s.image.parts.at p.val
    s.image.parts.all (fun y => y.1 = p.val || !y.2.valid || !partsMeet x y.2) &&
      (if x.kind = 1 then decide (x.base + x.len ≤ match s.ilMode with
          | .reduced _ => 0x7FE0000000
          | _ => 0xFFE0000000)
       else decide (x.base + x.len ≤ stackKey 8) && (List.range 8).all (fun k =>
         let c := clip (stackKey k) 0x2000000000 (x.base, x.len)
         decide (c.2 = 0) || decide (c.1 + c.2 ≤ stackKey k + s.stackOffer k)))
  | .route n =>
    let e := s.image.routes.at n
    let all := s.image.routes.filter (fun x => x.2.valid)
    (match parseRoute (e.words.flatMap (fun w => toBytes 4 w.toNat)) with
      | some (m, _) => decide (m = n)
      | none => false) && returnOk all n e && decide (groupsNeeded all ≤ 256)
  | .tkt _ => s.admitFits
  | .ring m =>
    let b := (s.rget (.BRG_RING_BASE m)).toNat
    let n := (s.rget (.BRG_RING_LEN m)).toNat
    decide (b % 4096 = 0 ∧ n % 4096 = 0 ∧ n ≤ 0x1000000 ∧ b + n ≤ 0x20000000) && (List.range 16).all (fun k =>
      k = m.val || !s.ringsMeet m (Fin.ofNat 16 k))
  | .vf v =>
    let n := s.fget (.HBR_VFW_LEN v) F.HBR_VFW_LEN_LEN
    decide (1 ≤ n ∧ n ≤ 1024) &&
      s.memWindow (s.fget (.HBR_VFW_LEN v) F.HBR_VFW_LEN_DEVICE) ((s.rget (.HBR_VFW_BASE v)).toNat * 65536) (n * 65536)

/-- Whether mover `m` is idle (R190): not halted, nothing in flight, no descriptor written. -/
def State.moverIdle (s : State) (m : Nat) : Bool :=
  (s.mover m).halted.isNone && (s.mover m).inflight.isEmpty && decide (s.brgRd m = s.brgWr m)

/-- Whether a complete pair set must wait before it is adopted: a ring until its mover is idle (R190), a VF window until no read
through it is outstanding (R343). -/
def State.pairWaits (s : State) : PairSet → Bool
  | .ring m => !s.moverIdle m.val
  | .vf v => s.grp.winReads.any (fun x => x.fn = v.val + 1)
  | _ => false

/-- What an adoption brings with it: a ticket's BEST_EFFORT and TKT_DROP, AVG and STEP (R231); a promotion target that has moved
holds no page (R184). -/
def State.pairAdopted (s : State) : PairSet → State
  | .tkt t =>
    let s1 := (s.bestEffort t.val).avgReset t.val
    if s1.hasTarget t.val then s1.rset .TKT_DROP (s1.rget .TKT_DROP &&& ~~~(wordOf (2 ^ t.val))) else s1
  | .sbf p => if (s.image.parts.at p.val).use = 4 then { s with place := { s.place with frames := [] } } else s
  | .stk _ => s.placeTrim
  | _ => s

/-- The state with some pair sets adopted together. -/
def State.pairAdopt (s : State) (l : List (RwpKey × Word)) (xs : List PairSet) : State :=
  xs.foldl State.pairAdopted (xs.foldl (fun (s : State) x => s.pairPut l x) s)

/-- Whether some pair sets are consistent as written. -/
def State.pairFits (s : State) (l : List (RwpKey × Word)) (xs : List PairSet) : Bool :=
  let t := xs.foldl (fun (s : State) x => s.pairPut l x) s
  xs.all t.pairOk

/-- Written fields without those of some pair sets. -/
def without (l : List (RwpKey × Word)) (xs : List PairSet) : List (RwpKey × Word) :=
  l.filter (fun x => !xs.any (fun y => y.keys.contains x.1))

/-- Shows in CFG_PAIR_STAT which pair sets are pending (R152). -/
def State.pairShow (s : State) : State :=
  let sets := ((s.pend.filterMap (fun x => x.1.set)).map (fun x => (s.pairAll s.pend x).head?)).eraseDups
  (s.bset .CFG_PAIR_STAT F.CFG_PAIR_STAT_PENDING (!sets.isEmpty)).fset .CFG_PAIR_STAT F.CFG_PAIR_STAT_NPEND
    (min 255 sets.length)

/-- Deals with the pair set of `x` once every field of it has been written (R152): adopted when consistent, unless it must wait;
discarded with PAIR_ERR otherwise (source 18). -/
def State.pairTry (s : State) (x : PairSet) : State :=
  let xs := s.pairAll s.pend x
  if !xs.all (allWritten s.pend) then s.pairShow
  else if !s.pairFits s.pend xs then
    ((({ s with pend := without s.pend xs }).pairShow).bset .CFG_PAIR_STAT F.CFG_PAIR_STAT_PAIR_ERR true).raise 18
  else if xs.any s.pairWaits then s.pairShow
  else ({ s.pairAdopt s.pend xs with pend := without s.pend xs }).pairShow

/-- What waits for mover `m` to become idle, or for a VF's reads to end, is adopted (R190, R343). -/
def State.pairWake (s : State) (x : PairSet) : State :=
  if allWritten s.pend x && !s.pairWaits x then s.pairTry x else s

/-- Whether the registers are at expert level (R157). -/
def State.expert (s : State) : Bool := s.bget .CFG_CTL F.CFG_CTL_EXPERT

/-- A write of `v` to the field `k` (R151, R152). -/
def State.pairWrite (s : State) (k : RwpKey) (v : Word) : State :=
  let put (l : List (RwpKey × Word)) : List (RwpKey × Word) := l.filter (fun x => x.1 ≠ k) ++ [(k, v)]
  if !s.pairTakes k then s
  else if s.expert then
    match k.set with
    | some x => ({ s with pend := put s.pend }).pairTry x
    | none => s
  else { s with shadow := put s.shadow }

/-- The field that a register with RWP bits is: a route word by CFG_RT_SEL. -/
def State.pairKey (s : State) : Reg → RwpKey
  | .CFG_RT_DATA w => .route (s.fget .CFG_RT_SEL F.CFG_RT_SEL_ROUTE) w.val
  | r => .reg r

/-- A write to a register with RWP fields; its other bits are reserved. -/
def State.rwpWrite (s : State) (r : Reg) (v : Word) : State := s.pairWrite (s.pairKey r) (v &&& r.access.rwp)

/-- RWP_WRITE (R151, R152). -/
def execRwpWrite (off : Nat) (v : Word) (s : State) : Res State :=
  match Reg.ofOffset off with
  | some r => if r.access.rwp = 0 then .next s else .next (s.rwpWrite r v)
  | none => .next s

/-- PAIR_COMMIT (R151): a mode change over the blocks that own the shadows; not while another one is in progress (R153).
DEDUCED, log entry 74. -/
def execPairCommit (v : Word) (s : State) : Res State :=
  if F.CFG_COMMIT_GO.get v = 0 ∨ s.modeBusy ∨ s.staged ≠ [] ∨
      (s.load.busy ∧ s.fget .CFG_LOAD_STAT F.CFG_LOAD_STAT_STATE = 5) then .next s
  else
    let blocks := ((s.shadow.filterMap (fun x => x.1.set)).map PairSet.block).eraseDups
    let id := (s.changes + 1) % 65536
    let s1 := (({ s with staged := s.shadow, shadow := [] }).fset .CFG_COMMIT_STAT F.CFG_COMMIT_STAT_STATE 1).fset
      .CFG_COMMIT_STAT F.CFG_COMMIT_STAT_CHANGE id
    .next (s1.modeStart 2 0xFFF (blocks.map .block))

/-- SHADOW_CLEAR (R151). -/
def execShadowClear (v : Word) (s : State) : Res State :=
  if F.CFG_SHADOW_CLR_CLR.get v = 1 then .next { s with shadow := [] } else .next s

/-- PAIR_ABANDON (R152). -/
def execPairAbandon (v : Word) (s : State) : Res State :=
  if F.CFG_PAIR_ABANDON_ABANDON.get v = 1 then .next (({ s with pend := [] }).pairShow) else .next s

/-- LEVEL_WRITE (R152): not performed, with LEVEL_ERR, while a pair set is pending or a shadow unadopted. -/
def execLevelWrite (v : Word) (s : State) : Res State :=
  if s.pend ≠ [] ∨ s.shadow ≠ [] ∨ s.staged ≠ [] then .next (s.bset .CFG_PAIR_STAT F.CFG_PAIR_STAT_LEVEL_ERR true)
  else .next (s.fset .CFG_CTL F.CFG_CTL_EXPERT (F.CFG_CTL_EXPERT.get v))

end Sys2Proof.Machine
end

