-- ==== Sys2Proof/Machine/MemoryCommands.lean ====
section
/-! DEFINITION. The meanings of the memory commands (files 06_memory_map.md, 07_memory_protection.md and 08_tickets.md): reads and
writes, what sources hold and release (R226), fencing a stack (R168), patch entries (R199), macros (R200), pages (R201), fault
injection (R210) and scrubbing (R211, R212). -/

namespace Sys2Proof.Machine

/-! ### Reads and writes (R160, R174, R203, R207) -/

/-- The egress or read point of a requester (R207): where a manifest mismatch is recorded; 0 where it is checked elsewhere. -/
def pointOf : Requester → Nat
  | .engine _ => 1
  | .re _ => 2
  | .host _ => 3
  | .wealey _ => 4
  | .mover _ => 0
  | .die _ => 0
  | .hub => 0

/-- Work for an engine's local store ungates the clocks of its site (R368). -/
def State.wakeSite (s : State) (a : Nat) : State :=
  match rangeOf a with
  | .store e _ => s.siteUpd (s.siteOf e) (fun u => { u with gated := false })
  | _ => s

/-- Counts a request at its resource (R165, R189, R219, R224): the queue level that it meets, DRAM page misses, and a read, which has come
with the HELD field `held`. -/
def State.atResource (s : State) (q : MemReq) (r : Nat) (write : Bool) (held : Nat) : State :=
  let s1 := s.queueLevel r q.level.val
  let s2 := if r < 8 then s1.wrap (.STK_MISS_CNT (Fin.ofNat 8 r)) F.STK_MISS_CNT_MISSES q.misses else s1
  if write then s2 else s2.countRead r q.ticket.val held q.interval

/-- The blocks of a read that mismatch their manifests, poisoned as at egress to the host or a Wealey port (R207). -/
def poisonBlocks (a : Nat) (r : Read) : List Bool :=
  (r.pois.zipIdx).map (fun x => x.1 || r.bads.contains ((a + x.2) / 256 * 256))

/-- Serves a read (R160, R168, R194, R207, R293): its data, which of them are poisoned, a mismatch, or an error; from a fenced stack an error
with poison. -/
def State.serveRead (s : State) (q : MemReq) : State :=
  if (match s.stackOf q.addr with | some n => s.stackFenced n | none => false) then s.reply (.poisonError q.len)
  else
    let p := pointOf q.rq
    let r := (s.wakeSite q.addr).readAt (decide (q.rq = .hub)) p q.addr q.len
    let s1 := r.st.settle
    if r.err.isSome then s1.reply .error
    else match r.bad with
      | some b => if p = 3 ∨ p = 4 then s1.reply (.data r.bytes (poisonBlocks q.addr r)) else s1.reply (.mismatch b)
      | none => s1.reply (.data r.bytes r.pois)

/-- Serves a write (R65, R160, R203): one into the context partition of a running span's engine is not performed; the write of a host
or hub unit that a memory does not take is dropped and recorded. -/
def State.serveWrite (s : State) (q : MemReq) : State :=
  if s.ctxGuard q.rq q.addr q.len then s.reply .error
  else
    let w := (s.wakeSite q.addr).writeAt (decide (q.rq = .hub)) q.addr q.data q.pois q.mans
    let s1 := w.st
    match w.err, w.werr with
    | some _, _ => s1.settle.reply .error
    | none, some a => match q.rq with
      | .host _ => (s1.dropped a).settle.reply .none
      | .hub => (s1.dropped a).settle.reply .none
      | _ => s1.settle.reply .writeError
    | none, none => s1.settle.reply .none

/-- The `n` bytes from `a` of a request of unit `q` cross to where they are served (R23). -/
def State.crossAll (s : State) (q : Requester) (rd : Bool) (a n : Nat) : Except Hold State :=
  s.eachUnit a n (fun s b part => s.cross q rd part b)

/-- Performs a request at its resource and answers its requester, unless a bundle that it must cross takes no request; `held` is the HELD
field that it arrives with. -/
def State.perform (s : State) (q : MemReq) (write : Bool) (held : Nat) : Except Hold State :=
  (s.crossAll q.rq (!write) q.addr q.len).map (fun s =>
    let s1 := match s.resourceOf q.addr with
      | some r => s.atResource q r write held
      | none => s
    (if write then s1.serveWrite q else s1.serveRead q).answer q write)

/-- The HELD field that a request brings to its source here (R227): that of its origin, when it comes over a Wealey port or a bundle. -/
def heldBrought (q : MemReq) : Nat := match q.rq with
  | .wealey _ => q.held.val
  | .die _ => q.held.val
  | _ => 0

/-- The state with a request held at its source, for resource `r`. -/
def State.holdReq (s : State) (r : Nat) (q : MemReq) (write : Bool) : State :=
  { s with tkt := { s.tkt with heldReqs := s.tkt.heldReqs ++ [(r, q, write)] } }

/-- Sends a request, or holds it at its source (R226); 73 stands for no resource. -/
def State.request (s : State) (q : MemReq) (write : Bool) : State :=
  let r := (s.resourceOf q.addr).getD 73
  if s.holds r q then s.holdReq r q write
  else match s.perform q write (heldBrought q) with
    | .ok t => t
    | .error _ => s.holdReq r q write

/-- MEMORY_READ (R174). -/
def execMemoryRead (q : MemReq) (s : State) : Res State := .next (s.request q false)

/-- MEMORY_WRITE (R174): `data` and `pois` have one element for each byte.  DESIGN CHOICE, log entry 9. -/
def execMemoryWrite (q : MemReq) (s : State) : Res State :=
  if q.data.length = q.len ∧ q.pois.length = q.len then .next (s.request q true)
  else .fault (.illFormed "MEMORY_WRITE data")

/-! ### Throttling (R25, R166, R223, R226, R227) -/

/-- A number of each source, for the turns of R25. -/
def sourceNo : Requester → Nat
  | .engine e => 1 + e.val
  | .re r => 97 + r.val
  | .mover m => 113 + m.val
  | .host _ => 129
  | .wealey p => 130 + p.val
  | .die p => 146 + p.val
  | .hub => 224

/-- The port of a row's controller by which a requester reaches the row's DRAM (R105, R106): that of the site that carries the engine's slot
of the row, or 4, the mesh port. -/
def State.rowPort (s : State) (q : Requester) (row : Nat) : Nat := match q with
  | .engine e => if e.val / 3 = row then s.siteOf e.val % 4 else 4
  | _ => 4

/-- Whose turn a request is at resource `r` (R25, R105): its source's, or at a bonded row its port's. -/
def State.turnOf (s : State) (r : Nat) (q : Requester) : Nat :=
  if 9 ≤ r ∧ r < 41 then 1 + s.rowPort q (r - 9) else sourceNo q

/-- Whether a held request may go (R226): its ticket is not held any more, or the leak has let it go; none that comes before it is held;
its stack accepts requests, and so do the bundles that it must cross. -/
def State.ready (s : State) (x : Nat × MemReq × Bool) : Bool :=
  let q := x.2.1
  (!s.heldBit q.rq x.1 q.ticket.val || decide (0 < s.credits q.rq x.1 q.ticket.val)) && !s.stackRests q.addr &&
    !(s.tkt.heldReqs.takeWhile (· ≠ x)).any (fun y => heldBefore y x.1 q) && (s.crossAll q.rq (!x.2.2) q.addr q.len).isOk

/-- The held request that goes next: of those for one resource the one whose ticket has the highest priority there (R25, R223); among equals
the oldest at a stack (R166), elsewhere that of the source or port whose turn it is (R25, R105).  DESIGN CHOICE, log entry 77: a page hit does not
overtake. -/
def State.pickHeld (s : State) : Option (Nat × MemReq × Bool) :=
  match s.tkt.heldReqs.filter s.ready with
  | [] => none
  | x :: l =>
    let prio (y : Nat × MemReq × Bool) : Nat := s.priority x.1 y.2.1.ticket.val
    let here := (x :: l).filter (fun y => y.1 = x.1)
    let top := here.foldl (fun m y => max m (prio y)) 0
    let best := here.filter (fun y => prio y = top)
    if x.1 < 8 then best.head?
    else (nextPort (best.map (fun y => s.turnOf x.1 y.2.1.rq)) (s.tkt.res.at x.1).last).bind (fun n =>
      best.find? (fun y => s.turnOf x.1 y.2.1.rq = n))

/-- Lets held requests go, one after another, as long as one may; the fuel bounds them.  They arrive with HELD (R227). -/
def State.pumpReqs : (fuel : Nat) → State → State
  | 0, s => s
  | n + 1, s => match s.pickHeld with
    | none => s
    | some x =>
      let q := x.2.1
      let t := q.ticket.val
      let s1 : State := { s with tkt := { s.tkt with heldReqs := s.tkt.heldReqs.erase x } }
      let s2 := if s.heldBit q.rq x.1 t then s1.putCredits q.rq x.1 t (s.credits q.rq x.1 t - 1) else s1
      match (s2.tick.resUpd x.1 (fun u => { u with last := s.turnOf x.1 q.rq })).perform q x.2.2 (s.heldField (heldBrought q)) with
      | .ok s3 => State.pumpReqs n s3
      | .error _ => s

/-- Lets go every held request that may. -/
def State.pump (s : State) : State := State.pumpReqs s.tkt.heldReqs.length s

/-- A source lets its requests go as far as they may: those held here, and, of the hub's, the output records that wait (R94). -/
def State.sourceGoes (s : State) (q : Requester) : State :=
  if q = .hub then (List.range 64).foldl State.retryRecord s.pump else s.pump

/-- THROTTLE_RECEIVE (R225, R226): the source holds the tickets of the mask, and lets go of what it held of the others. -/
def execThrottleReceive (q : Requester) (r : Fin 73) (_band : Fin 3) (hold : Fin 65536) (s : State) : Res State :=
  let h := hold.val / 2 * 2
  let src := sourceOf q
  let rest := s.tkt.hold.filter (fun x => x.1 ≠ (src, r.val))
  let s1 : State := { s with tkt := { s.tkt with
    hold := if h = 0 then rest else ((src, r.val), h) :: rest
    leaked := s.tkt.leaked.filter (fun x => decide (x.1.1 ≠ src ∨ x.1.2.1 ≠ r.val) || bitAt h x.1.2.2) } }
  let c := r.val - 41
  let s2 := if r.val < 41 then s1 else s1.flashLetGo c src (fun t => !bitAt h t) (s.flash.queue.at c).length
  .next (s2.sourceGoes src)

/-- LEAK_RELEASE (R226): the leak timer of a held pair of ticket and resource releases one held request, the oldest.
DESIGN CHOICE, log entry 77. -/
def execLeakRelease (q : Requester) (r : Fin 73) (t : Ticket) (s : State) : Res State :=
  let src := sourceOf q
  if !s.heldBit src r.val t.val then .next s
  else
    let s1 := if r.val < 41 then s else s.flashLetGo (r.val - 41) src (fun k => decide (k = t.val)) 1
    let waits := s.tkt.waits.contains (src, r.val, t.val) ||
      s.tkt.heldReqs.any (fun x => decide (x.1 = r.val ∧ sourceOf x.2.1.rq = src ∧ x.2.1.ticket = t))
    .next ((if waits then s1.putCredits src r.val t.val (s.credits src r.val t.val + 1) else s1).sourceGoes src)

/-! ### Stacks (R168) -/

/-- Marks die position `pos` as fenced with a cause (R398). -/
def State.markFenced (s : State) (pos cause : Nat) : State :=
  { s.fset .BUP_FENCED ⟨pos, 1⟩ 1 with
    bup := { s.bup with dies := s.bup.dies.upd pos (fun x => { x with cause := cause }) } }

/-- Fences stack `n`, with cause `cause` in the defect log (R168). -/
def State.fenceStack (s : State) (n cause : Nat) (ok : Bool) : State :=
  if s.stackFenced n then s
  else ((((s.fset (.STK_STAT (Fin.ofNat 8 n)) F.STK_STAT_STATE 4).markFenced (12 + n) cause).logRec
    ⟨0x07, cause, n, 0, 0, false⟩ ok)).raise (385 + 2 * n)

/-- STACK_FENCE (R168): a stack's port loses training, or its controller reports a fault that it cannot correct. -/
def execStackFence (n : Stack) (logOk : Bool) (s : State) : Res State := .next (s.fenceStack n.val 5 logOk)

/-! ### Patch entries, macros and pages (R199 to R201) -/

/-- Frees the patch entries of an instance whose word `p` names, without write-back. -/
def MemUnit.freePatches (m : MemUnit) (ik : Nat) (p : Nat → Bool) : MemUnit :=
  m.inst ik (fun i => { i with patch := i.patch.filter (fun e => match e.2 with
    | some x => !p x.key
    | none => false) })

/-- PATCH_RELEASE (R199): the entry's data goes back to its cell with fresh check bits; a free entry is left. -/
def execPatchRelease (v : Word) (logOk : Bool) (s : State) : Res State :=
  let cls := s.fget .MEM_INST_SEL F.MEM_INST_SEL_CLASS
  let inst := s.fget .MEM_INST_SEL F.MEM_INST_SEL_INST
  let ik := cls * 128 + inst
  let e := F.MEM_PATCH_CTL_ENTRY.get v
  match (s.mem.insts.at ik).patch.at e with
  | none => .next s
  | some p =>
    if F.MEM_PATCH_CTL_RELEASE.get v = 0 then .next s
    else
      let c : CellRef := ⟨cls, inst, p.key⟩
      let m1 := s.mem.inst ik (fun i => { i with patch := i.patch.filter (fun x => x.1 ≠ e), full := false })
      let s1 := s.withMem (m1.write c 15 p.data.toNat p.bad (s.pinThr c)).1
      let a := c.logAddr
      .next (s1.logRec ⟨0x04, 0, cls + inst * 8, a % 2 ^ 32, a / 2 ^ 32, false⟩ logOk)

/-- Shows the outcome of a macro fence (R200). -/
def State.macroShow (s : State) (st : Nat) : State := s.fset .MEM_FENCE_STAT F.MEM_FENCE_STAT_STATE st

/-- A macro fence takes effect (R200). -/
def State.macroApply (s : State) (site mac cause : Nat) (ok : Bool) : State :=
  let base := localKey site + mac * 262144
  let s1 := (s.siteUpd site (fun u => { u with
    fenced := if u.fenced.contains mac then u.fenced else mac :: u.fenced
    fencePend := u.fencePend.filter (· ≠ mac) })).withMem
      (s.mem.freePatches site (fun k => decide (base ≤ k ∧ k < base + 262144)))
  ((s1.logRec ⟨0x02, cause, site + mac * 256, 0, 0, false⟩ ok).raise 425).macroShow 2

/-- Whether the engine of a site belongs to a loaded span (R200). -/
def State.siteHeld (s : State) (site : Nat) : Bool := match s.engineAt site with
  | some e => (s.ownEntry (.engine e)).isSome
  | none => false

/-- MACRO_FENCE (R200). -/
def execMacroFence (v : Word) (logOk : Bool) (s : State) : Res State :=
  let site := F.MEM_FENCE_MACRO_SITE.get v
  let mac := F.MEM_FENCE_MACRO_MACRO.get v
  let st := s.siteState site
  if F.MEM_FENCE_MACRO_GO.get v = 0 then .next s
  else if st = 2 ∨ st = 3 ∨ st = 4 then .next (s.macroShow 3)
  else if (s.sites.at site).fenced.contains mac then .next (s.macroShow 2)
  else if st = 1 ∨ !s.siteHeld site then .next (s.macroApply site mac 0 logOk)
  else
    .next ((s.siteUpd site (fun u => { u with
      fencePend := if u.fencePend.contains mac then u.fencePend else u.fencePend ++ [mac] })).macroShow 1)

/-- MACRO_FENCE_APPLY (R200): a pending fence takes effect once no loaded span holds the engine. -/
def execMacroFenceApply (site : Site) (macro_ : Fin 128) (logOk : Bool) (s : State) : Res State :=
  if (s.sites.at site.val).fencePend.contains macro_.val ∧ ¬s.siteHeld site.val then
    .next (s.macroApply site.val macro_.val 0 logOk)
  else .next s

/-- PAGE_RETIRE (R201). -/
def execPageRetire (v : Word) (logOk : Bool) (s : State) : Res State :=
  let a := (s.rget .MEM_RETIRE_LO).toNat + s.fget .MEM_RETIRE_HI F.MEM_RETIRE_HI_ADDR * 2 ^ 32
  let p := a / 65536
  let inst : Option Nat := match rangeOf a with
    | .bonded row _ => some (4 * 128 + row)
    | .placed n _ => some (5 * 128 + n)
    | _ => none
  let show_ (s : State) (r : Nat) : State := s.fset .MEM_RETIRE_STAT F.MEM_RETIRE_STAT_RESULT r
  if F.MEM_RETIRE_CMD_GO.get v = 0 then .next s
  else match inst with
    | none => .next (show_ s 3)
    | some ik =>
      if s.mem.retired.contains p then .next (show_ s 1)
      else if 256 ≤ s.mem.retired.length then .next (show_ s 2)
      else
        let m := s.mem.freePatches ik (fun k => k / 65536 = p)
        let s1 := (s.withMem { m with retired := m.retired ++ [p] }).fset .MEM_RETIRE_STAT F.MEM_RETIRE_STAT_COUNT
          (s.mem.retired.length + 1)
        .next (show_ (s1.logRec ⟨0x05, 0, 0, p * 65536 % 2 ^ 32, p * 65536 / 2 ^ 32, false⟩ logOk) 1)

/-- FLIP_ARM (R210). -/
def execFlipArm (v : Word) (s : State) : Res State :=
  .next (s.fset .MEM_FLIP_CTL F.MEM_FLIP_CTL_ARM (F.MEM_FLIP_CTL_ARM.get v))

/-! ### Scrubbing (R211, R212) -/

/-- Whether a range can be scrubbed (R211): multiples of 256 bytes within one range of memory. -/
def State.scrubRange (s : State) (b n : Nat) : Bool :=
  decide (b % 256 = 0 ∧ n % 256 = 0) && s.memWindow (s.fget .LNK_GRP F.LNK_GRP_DEVNUM) b n

/-- SCRUB_START (R211): ignored while a pass runs. -/
def execScrubStart (t : Ticket) (s : State) : Res State :=
  if s.scrub.isSome then .next s
  else
    let b := (s.rget .MEM_SCRUB_BASE_LO).toNat + s.fget .MEM_SCRUB_BASE_HI F.MEM_SCRUB_BASE_HI_ADDR * 2 ^ 32
    let n := (s.rget .MEM_SCRUB_LEN_LO).toNat + s.fget .MEM_SCRUB_LEN_HI F.MEM_SCRUB_LEN_HI_LEN * 2 ^ 32
    let p : Scrub := { (default : Scrub) with base := b, len := n, ticket := t.val, refused := !s.scrubRange b n }
    .next (({ s with scrub := some p }.fset .MEM_SCRUB_STAT F.MEM_SCRUB_STAT_STATE 1).fset .MEM_SCRUB_STAT
      F.MEM_SCRUB_STAT_PROGRESS 0)

/-- SCRUB_STOP (R211). -/
def execScrubStop (s : State) : Res State := .next { s with scrub := s.scrub.map (fun p => { p with stop := true }) }

/-- The class of the memory in which an address lies (R191, R212). -/
def classOf (a : Nat) : Nat := match rangeOf a with
  | .bonded _ _ => 4
  | .sbf _ => 1
  | .store _ _ => 0
  | _ => 5

/-- The lowest and highest of some addresses with those found before. -/
def extent (f : Option Nat × Option Nat) (l : List Nat) : Option Nat × Option Nat :=
  l.foldl (fun (f : Option Nat × Option Nat) a =>
    (some (match f.1 with | some x => min x a | none => a), some (match f.2 with | some x => max x a | none => a))) f

/-- Whether the word at cell `c` holds poison already (R195, R212): a byte of it, the whole word, or its patch entry. -/
def MemUnit.poisoned (m : MemUnit) (c : CellRef) : Bool := match patchOf (m.insts.at c.ik).patch c.key with
  | some x => x.2.bad
  | none =>
    if byteLane c.cls then (List.range 4).any (fun i => byteSyndrome (m.syn.at (c.key + i)) = .poison)
    else wordSyndrome (m.syn.at c.key) = .poison

/-- Scrubs the block at address `a` (R196 to R198, R211) by requests of the pass's ticket (R216): one that no memory serves is skipped. -/
def State.scrubBlock (s : State) (p : Scrub) (a : Nat) : Except Hold (State × Scrub) :=
  match s.cellOf false a with
  | none => .ok (s, p)
  | some c => (s.pass .hub p.ticket true a 256).map fun s =>
    let s0 := (s.withMem { s.mem with newCe := [], newUe := [], newPatches := [] }).stackCount true a 256
    match s0.readBlock false true a with
    | none => (s, p)
    | some (s1, _, ps, _) =>
      let addr (k : Nat) : Nat := a + (k - c.key) / 4 * 4
      let bad := ((List.range 64).filter (fun i => nth ps i)).map (fun i => c.key + 4 * i)
      let seen := bad.filter (fun k => s0.mem.poisoned { c with key := k })
      let ext := extent (p.first, p.last) ((s1.mem.newCe ++ bad ++ s1.mem.newPatches).map addr)
      (s1.settle, { p with
        ce := p.ce + s1.mem.newCe.length
        ue := p.ue + s1.mem.newUe.length
        patched := p.patched + s1.mem.newPatches.length
        seen := p.seen + seen.length
        first := ext.1
        last := ext.2 })

/-- The summary of a pass (R212). -/
def Scrub.summary (p : Scrub) (status scanned : Nat) : List Byte :=
  toBytes 4 (status + classOf p.base * 256 + (if p.first.isSome then 2048 else 0)) ++ toBytes 4 (min p.ce (2 ^ 32 - 1)) ++
    toBytes 4 (min p.ue (2 ^ 32 - 1)) ++ toBytes 2 (min p.patched 65535) ++ toBytes 2 (min p.seen 65535) ++
    toBytes 8 (p.first.getD 0) ++ toBytes 8 (p.last.getD 0) ++ toBytes 8 p.base ++ toBytes 8 scanned

/-- SCRUB_DONE (R211, R212): the pass has read its range, up to `scanned` bytes when it was stopped; the summary is written, a write that
triggers no injection (R210); while the pass's requests are held it goes on later (R226). -/
def execScrubDone (scanned : Nat) (s : State) : Res State :=
  match s.scrub with
  | none => .next s
  | some p =>
    let n := if p.refused then 0 else if p.stop then min p.len (scanned / 256 * 256) else p.len
    match (List.range (n / 256)).foldl (fun (x : Except Hold (State × Scrub)) i =>
        x.bind (fun x => x.1.scrubBlock x.2 (p.base + 256 * i))) (.ok (s, p)) with
    | .error h => .next (s.waitFor .hub h)
    | .ok r =>
      let status := if p.refused then 3 else if p.stop then 2 else 1
      let arm := s.fget .MEM_FLIP_CTL F.MEM_FLIP_CTL_ARM
      let s0 := { r.1 with scrub := none }.fset .MEM_FLIP_CTL F.MEM_FLIP_CTL_ARM 0
      let s1 := (s0.hubWrite (sbfAddr (s.fget .MEM_SCRUB_DST F.MEM_SCRUB_DST_OFFSET)) (r.2.summary status n)).fset .MEM_FLIP_CTL
        F.MEM_FLIP_CTL_ARM arm
      .next (((s1.fset .MEM_SCRUB_STAT F.MEM_SCRUB_STAT_STATE 2).fset .MEM_SCRUB_STAT F.MEM_SCRUB_STAT_PROGRESS (n / 65536)).raise
        420)

end Sys2Proof.Machine
end

