-- ==== Sys2Proof/Machine/Retrieval.lean ====
section
/-! DEFINITION. The meanings of the retrieval engines' commands (file 10_retrieval_engines.md, R265 to R293): admission, delivered
units, walk rounds, the ends of queries, result slots, forwards, and fencing a retrieval engine. -/

namespace Sys2Proof.Machine

/-! ### Admission (R267, R270, R271) -/

/-- The unit that reads and writes memory for a query: the engine whose slot it holds (R268), engine 0 for a walk. -/
def Query.unit (q : Query) : Requester := .re (Fin.ofNat 16 ((q.slots.head?.map (·.1)).getD 0))

/-- A read for a query under its ticket (R30, R207, R267, R285): its bytes, and the status that it fails with, if it does; or the query
waits. -/
def State.rtvRead (s : State) (q : Query) (a n : Nat) : Except Hold (State × List Byte × Option Nat) :=
  (s.pass q.unit q.ticket true a n).map fun s =>
    let r := s.readAt false 2 a n
    (r.st.settle, r.bytes,
      if r.err.isSome then some 0x0B else if r.pois.any id then some 0x03 else if r.bad.isSome then some 0x04 else none)

/-- A write for a query under its ticket (R30, R65, R267, R286): whether it completes without an error; or the query waits. -/
def State.rtvWrite (s : State) (q : Query) (a : Nat) (data : List Byte) : Except Hold (State × Bool) :=
  (s.pass q.unit q.ticket false a data.length).map fun s =>
    if s.ctxGuard q.unit a data.length then (s, false)
    else
      let w := s.writeAt false a data (data.map (fun _ => false)) []
      (w.st.settle, w.err.isNone && w.werr.isNone)

/-- The step in which a query goes on, or waits for its requests to be let go (R226). -/
def State.orWait (s : State) (q : Query) (x : Except Hold State) : Res State := match x with
  | .ok t => .next t
  | .error h => .next (s.waitFor q.unit h)

/-- The result-slot header of a query (R283). -/
def Query.header (q : Query) (status : Nat) (skip : Bool) : List Byte :=
  let ok := decide (status = 1 ∨ status = 2)
  let cnt := if ok then q.recs.length else 0
  (sub q.desc 4 4 ++ toBytes 4 (status + q.pipe * 256 + cnt * 65536) ++ toBytes 4 q.ix ++
    toBytes 4 (min q.units (2 ^ 32 - 1)) ++ toBytes 4 (min q.evals (2 ^ 32 - 1)) ++ toBytes 4 (min q.passed (2 ^ 32 - 1)) ++
    toBytes 4 (min q.round 65535 + (if skip then 65536 else 0)) ++ toBytes 4 0 ++ toBytes 4 (q.errZone % 65536) ++
    toBytes 4 q.errOff ++ List.replicate 24 0)

/-- The header written at admission (R267): STATUS 0x00, QTAG and DESC. -/
def Query.firstHeader (q : Query) : List Byte :=
  sub q.desc 4 4 ++ toBytes 4 (q.pipe * 256) ++ toBytes 4 q.ix ++ List.replicate 52 0

/-- The zones that a scan reads, sampled (R271): index and units; or the first index whose zone is missing or FREE. -/
def State.sampleZones (s : State) (p lo : Nat) : (n : Nat) → Except Nat (List (Nat × Nat))
  | 0 => .ok []
  | n + 1 => match (s.pipe p).zones[lo]? with
    | none => .error lo
    | some h =>
      let z := s.flash.zones.at h
      if z.st = 0 then .error lo
      else match s.sampleZones p (lo + 1) n with
        | .ok l => .ok ((lo, z.wp) :: l)
        | .error e => .error e

/-- How the units of a scan divide among engines (R277): engine, next unit, end, reads in flight. -/
def scanPlan (res : List Nat) (units : Nat) : List (Nat × Nat × Nat × Nat) :=
  res.zipIdx.map (fun x => (x.1, x.2 * units / res.length, (x.2 + 1) * units / res.length, 0))

/-- Begins the search of the query `k` just admitted to pipeline `p` (R277, R278, R282). -/
def State.searchBegin (s : State) (k p : Nat) (d : QDesc) : State :=
  if d.kind = 1 then
    match s.sampleZones p d.zfirst (d.zlast + 1 - d.zfirst) with
    | .error z => s.queryFailNow k 0x05 z 0
    | .ok zs =>
      let u := (zs.map (·.2)).foldl (· + ·) 0
      (s.qUpd k (fun q => { q with zones := zs, plan := scanPlan (s.liveRes p) u, fin := if u = 0 then some 0x01 else none })).scanFeed
        k 512
  else if d.kind = 2 then
    let l := d.entries.foldl (fun (l : List WalkEnt) n => walkInsert d.list l ⟨n, none, .new⟩) []
    (s.qUpd k (fun q => { q with list := l, visited := d.entries.foldl walkVisit [] })).walkSelect k
  else (s.qUpd k (fun q => { q with terms := List.replicate d.nterm default })).lexFeed k 64

/-- A read for a query when its kind and format have it, nothing otherwise. -/
def State.readIf (s : State) (q : Query) (c : Bool) (a n : Nat) : Except Hold (State × List Byte × Option Nat) :=
  if c then s.rtvRead q a n else .ok (s, [], none)

/-- What a query reads before its search (R269, R273): vector or table, and a walk's code; the query with them, and the status that it
fails with, if it does. -/
def State.queryReads (s : State) (q : Query) (d : QDesc) : Except Hold (State × Query × Option Nat) :=
  (s.readIf q (d.kind ≠ 3 ∧ d.vfmt ≠ 1) (d.f 8 6) d.vb).bind fun v =>
  (v.1.readIf q (d.kind ≠ 3 ∧ d.vfmt = 1) (d.f 0x10 6) (d.vdim * 512)).bind fun t =>
  (t.1.readIf q (d.kind = 2) (d.f 0x18 6) d.csize).bind fun c =>
  .ok (c.1, { q with vec := v.2.1, lut := t.2.1, code := c.2.1 }, (v.2.2.orElse (fun _ => t.2.2)).orElse (fun _ => c.2.2))

/-- The query that the head of pipeline `p` becomes (R267, R268): its ticket, slots, contexts and result slot; its descriptor is still to be
fetched. -/
def State.headQuery (s : State) (p : Nat) : Query :=
  let i := s.qrd p
  let kind := (s.pipe p).kind
  { (default : Query) with
    pipe := p
    ix := i
    ticket := (s.queuePart p).ticket
    slots := if kind = 1 then (s.liveRes p).filterMap (fun e => (s.reSlot e).map (e, ·))
      else if kind = 3 then ((s.lexEngine p).bind (fun e => (s.reSlot e).map (e, ·))).toList
      else []
    wslot := if kind = 2 then (List.range 4096).find? (fun w => !s.wslots.contains w) else none
    ctx := if kind = 2 then s.walkNeed p i else 0
    slotAddr := (s.resultPart p).base + (if s.nSlot p = 0 then 0 else i % s.nSlot p) * 16448
    span := (s.pipe p).span }

/-- The status that an admitted query fails with before it reads anything, if it does (R266, R270, R285, R291). -/
def State.refusal (s : State) (q : Query) (d : QDesc) : Option Nat :=
  if s.mountFailed then some 0x05
  else if !d.ok (s.pipe q.pipe).kind (s.pipe q.pipe).walkCtx then some 0x06
  else if (s.liveRes q.pipe).isEmpty then some 0x0A
  else none

/-- Admits the head of pipeline `p` (R267): the hub stamps the queue partition's ticket, the die fetches the descriptor, advances RTV_QRD_p,
writes the slot's header, and begins. -/
def State.takeHead (s : State) (p : Nat) : Except Hold State :=
  let i := s.qrd p
  let k := qkey p i
  let a := (s.queuePart p).base + i % s.nDesc p * 256
  let q0 := s.headQuery p
  let b := s.hubRead (a + 0x34) 1
  let s1 := b.st.hubWrite (a + 0x34) [byteOf ((nth b.bytes 0).toNat / 16 * 16 + q0.ticket)]
  (s1.rtvRead q0 a 256).bind fun r =>
  let d : QDesc := r.2.1
  let q := { q0 with desc := d }
  let s2 := r.1.rset (.RTV_QRD (Fin.ofNat 64 p)) (wordOf (i + 1))
  let s3 := { s2 with retr := { s2.retr with queries := s2.retr.queries.put k (some q) } }
  (s3.rtvWrite q q.slotAddr q.firstHeader).bind fun h =>
  match r.2.2.orElse (fun _ => if h.2 then s.refusal q d else some 0x0B) with
  | some e => .ok ((if e = 0x06 then h.1.rtvRaise F.RTV_EVT_MALFORMED 299 else h.1).queryFailNow k e 0 0)
  | none => (h.1.queryReads q d).bind fun x =>
    match x.2.2 with
    | some e => .ok (x.1.queryFailNow k e 0 0)
    | none => .ok ((x.1.qUpd k (fun _ => x.2.1)).searchBegin k p d)

/-- QUERY_ADMIT (R267): the head is admitted, or its want of a slot or of contexts is reported (R294), or it waits for its requests to be let
go (R226). -/
def execQueryAdmit (p : Fin 64) (s : State) : Res State :=
  if !s.hasHead p.val then .next s
  else match s.admitHold p.val with
    | some .res => .next (s.rtvEvt F.RTV_EVT_RES_FULL 297)
    | some .ctx => .next (s.rtvEvt F.RTV_EVT_CTX_FULL 298)
    | some .eng => .next s
    | none => s.orWait (s.headQuery p.val) (s.takeHead p.val)

/-! ### Delivered units (R277, R278, R282) -/

/-- A record scored and filtered (R272, R273, R275): its identifier, score and whether it passes; none when it is empty. -/
def QDesc.score (d : QDesc) (q : Query) (r : List Byte) : Option (Nat × Word × Bool) :=
  if leNat r 0 8 = 2 ^ 64 - 1 then none
  else some (leNat r 0 8, qScore d.vfmt d.vdim q.vec q.lut (sub r d.voff d.vb), d.passes (fun j => leNat r (8 + 4 * j) 4))

/-- A query with a record taken into heap `h` (R276). -/
def Query.takeRec (q : Query) (d : QDesc) (h : Nat) (r : List Byte) : Query :=
  match d.score q r with
  | none => q
  | some (rid, sc, pass) =>
    let ok := pass && !(of32 sc).isNan
    { q with
      evals := q.evals + 1
      passed := if ok then q.passed + 1 else q.passed
      heaps := if ok then q.heaps.upd h (fun l => heapInsert d.k l ⟨rid, sc, 0⟩) else q.heaps }

/-- A query with a delivered scan unit taken by engine `e`. -/
def Query.takeUnit (q : Query) (d : QDesc) (e : Nat) (data : List Byte) : Query :=
  let q1 := (List.range d.rpu).foldl (fun (q : Query) r => q.takeRec d e (sub data (r * d.rsize) d.rsize)) q
  { q1 with plan := q1.plan.map (fun x => if x.1 = e then (x.1, x.2.1, x.2.2.1, x.2.2.2 - 1) else x) }

/-- Whether a scan has read its units. -/
def Query.scanDone (q : Query) : Bool := q.plan.all (fun x => x.2.2.1 ≤ x.2.1 && x.2.2.2 = 0)

/-- A lexical query with a delivered unit of term `j` taken and its lists merged (R282): none when documents do not ascend. -/
def Query.takePosts (q : Query) (d : QDesc) (j t : Nat) (data : List Byte) : Option Query :=
  let x := nth q.terms j
  match (TermSt.take (d.f (0x68 + 12 * j) 4) 8 { x with got := x.got ++ [(t, data)] }) with
  | none => none
  | some y =>
    let ts := setNth q.terms j y
    let h := (q.slots.head?.map (·.1)).getD 0
    let fuel := (ts.map (fun t => t.posts.length)).foldl (· + ·) 1
    let m := lexMerge d fuel ts (q.heaps.at h) q.evals q.passed
    some { q with terms := m.1, heaps := q.heaps.put h m.2.1, evals := m.2.2.1, passed := m.2.2.2 }

/-- The zone index and zone byte offset that a read's tag names (R283). -/
def Query.place (q : Query) (tag : Nat × Nat) : Nat × Nat :=
  let d : QDesc := q.desc
  if d.kind = 1 then (tag.2 / 2 ^ 32, tag.2 % 2 ^ 32 * 4096)
  else if d.kind = 2 then (d.zfirst + tag.1 / d.npz, tag.1 % d.npz / d.rpu * 4096)
  else (d.f (0x60 + 12 * tag.1) 2, d.f (0x64 + 12 * tag.1) 4 + tag.2 * 4096)

/-- The next unit that flash has delivered to the query `k`, taken from the delivered units. -/
def State.nextUnit (s : State) (k : Nat) : Option (FDone × State) :=
  match s.flash.done.find? (fun d => d.who = .query k) with
  | none => none
  | some d => some (d, s.flashUpd (fun f => { f with done := f.done.erase d }))

/-- A unit delivered to query `k` of pipeline `p` is used, or fails the query (R271, R285). -/
def State.useUnit (s : State) (k p : Nat) (q : Query) (u : FDone) : State :=
  let d : QDesc := q.desc
  let s0 := (s.qUpd k (fun q => { q with fly := q.fly - 1, units := q.units + 1 })).pipeUpd p (fun x =>
    { x with cntU := (x.cntU + 1) % 2 ^ 32 })
  let zo := q.place u.tag
  let spare := decide (d.kind = 3) && (nth q.terms u.tag.1).ended
  if spare then s0
  else if u.err then s0.queryFailNow k 0x05 zo.1 zo.2
  else if u.pois then s0.queryFailNow k 0x03 zo.1 zo.2
  else if d.kind = 1 then
    let s1 := (s0.qUpd k (fun q => q.takeUnit d u.re u.code.data)).scanFeed k 64
    s1.qUpd k (fun q => if q.scanDone then { q with fin := some 0x01 } else q)
  else if d.kind = 2 then
    match s0.nodeEngine p with
    | some e => s0.qUpd k (fun q => { q with sel := q.sel ++ [(u.tag.1, u.code.data, e)] })
    | none => s0.queryFailNow k 0x0A zo.1 zo.2
  else
    match (s0.retr.queries.at k).bind (fun q => q.takePosts d u.tag.1 u.tag.2 u.code.data) with
    | none => s0.queryFailNow k 0x09 zo.1 zo.2
    | some q1 =>
      let s1 := { s0 with retr := { s0.retr with queries := s0.retr.queries.put k (some q1) } }
      if q1.terms.all (fun t => t.ended && t.posts.isEmpty) then s1.qUpd k (fun q => { q with fin := some 0x01 })
      else s1.lexFeed k 64

/-- UNIT_DELIVERED (R277, R278, R282, R290): a query that fails discards it.  DEDUCED, log entry 84. -/
def execUnitDelivered (p : Fin 64) (i : Word) (s : State) : Res State :=
  let k := qkey p.val i.toNat
  match s.retr.queries.at k, s.nextUnit k with
  | some q, some (u, s1) =>
    if q.fail.isSome then .next (s1.qUpd k (fun q => { q with fly := q.fly - 1 }))
    else .next (s1.useUnit k p.val q u)
  | _, _ => .next s

/-! ### Walk rounds (R278) -/

/-- A walk with node `n` expanded from its record: none when its neighbour area leaves the record (R272). -/
def Query.expand (q : Query) (d : QDesc) (n : Nat) (unit : List Byte) : Option Query :=
  let r := sub unit (n % d.npz % d.rpu * d.rsize) d.rsize
  let done (q : Query) : Query := { q with list := walkSet n .reading .done q.list }
  if leNat r 0 8 = 2 ^ 64 - 1 then some (done q)
  else
    let nnb := leNat r d.nboff 2
    if d.rsize < d.nboff + 4 + nnb * (4 + d.csize) then none
    else
      let q1 := q.takeRec d 16 r
      some (done ((List.range nnb).foldl (fun (q : Query) j =>
        let o := d.nboff + 4 + j * (4 + d.csize)
        let y := leNat r o 4
        if walkSeen q.visited y then q
        else { q with
          visited := walkVisit q.visited y
          list := walkInsert d.list q.list ⟨y, some (codeScore q.code (sub r (o + 4) d.csize)), .new⟩ }) q1))

/-- Expands the delivered nodes of a round in ascending order: the query, or the node that fails it. -/
def Query.expandAll (q : Query) (d : QDesc) : List (Nat × List Byte × Nat) → Except Nat Query
  | [] => .ok q
  | (n, b, _) :: l => match q.expand d n b with
    | some q1 => q1.expandAll d l
    | none => .error n

/-- Inserts a delivered node into a list by ascending number. -/
def nodeIns (x : Nat × List Byte × Nat) : List (Nat × List Byte × Nat) → List (Nat × List Byte × Nat)
  | [] => [x]
  | y :: l => if x.1 ≤ y.1 then x :: y :: l else y :: nodeIns x l

/-- WALK_ROUND (R278): every read of the round is delivered; its nodes are scored and expanded, and the next round begins.
DEDUCED, log entry 84. -/
def execWalkRound (p : Fin 64) (i : Word) (s : State) : Res State :=
  let k := qkey p.val i.toNat
  match s.retr.queries.at k with
  | none => .next s
  | some q =>
    let d : QDesc := q.desc
    if q.fail.isSome ∨ q.fin.isSome ∨ q.sel = [] ∨ q.sel.length ≠ (q.list.filter (fun x => x.st = .reading)).length then .next s
    else match ({ q with sel := [] } : Query).expandAll d (q.sel.foldr nodeIns []) with
      | .error n =>
        let zo := q.place (n, 0)
        .next (s.queryFailNow k 0x08 zo.1 zo.2)
      | .ok q1 => .next (({ s with retr := { s.retr with queries := s.retr.queries.put k (some q1) } }).walkSelect k)

/-! ### Ends (R285 to R290) -/

/-- QUERY_END (R276, R285, R286): the search is over; the slot's records are written.
DEDUCED, log entry 84; DESIGN CHOICE, log entry 8. -/
def execQueryEnd (p : Fin 64) (i : Word) (s : State) : Res State :=
  let k := qkey p.val i.toNat
  match s.retr.queries.at k with
  | none => .next s
  | some q =>
    if q.fin = none ∨ q.fail.isSome ∨ q.fly ≠ 0 ∨ q.stage ≠ 0 then .next s
    else
      let d : QDesc := q.desc
      let recs := heapMerge d.k (q.heaps.map (·.2))
      s.orWait q ((s.rtvWrite q (q.slotAddr + 0x40) (recs.flatMap QRec.bytes)).map fun w =>
        if w.2 then w.1.qUpd k (fun q => { q with stage := 1, recs := recs }) else w.1.queryFailNow k 0x0B 0 0)

/-- QUERY_FAIL (R290): the failing query's last read has returned; RTV_FAIL and RTV_FAIL_IDX, source 296. -/
def execQueryFail (p : Fin 64) (i : Word) (s : State) : Res State :=
  let k := qkey p.val i.toNat
  match s.retr.queries.at k with
  | some q => match q.fail with
    | some c =>
      if q.fly ≠ 0 ∨ q.stage ≠ 0 then .next s
      else
        let s1 := s.qUpd k (fun q => { q with stage := 1, recs := [], slots := [], wslot := none, ctx := 0 })
        .next (((((s1.fset .RTV_FAIL F.RTV_FAIL_STATUS c).fset .RTV_FAIL F.RTV_FAIL_PIPE p.val).rset .RTV_FAIL_IDX i).rtvRaise
          F.RTV_EVT_FAIL 296))
    | none => .next s
  | none => .next s

/-- RESULT_HEADER_WRITE (R286 to R289): the header word is written after the records; the owner's event; the forward waits, or
the query is over. -/
def execResultHeaderWrite (p : Fin 64) (i : Word) (s : State) : Res State :=
  let k := qkey p.val i.toNat
  match s.retr.queries.at k with
  | none => .next s
  | some q =>
    if q.stage ≠ 1 then .next s
    else
      let d : QDesc := q.desc
      let status := match q.fail with
        | some c => c
        | none => q.fin.getD 0x01
      let ok := q.fail.isNone
      let pipe := s.pipe p.val
      let wants := ok && !pipe.toHost && !d.nofwd
      let route := (s.image.routes.at pipe.rerank).valid
      s.orWait q ((s.rtvWrite q q.slotAddr (q.header status (wants && !route))).map fun w =>
      let s2 := w.1.pipeUpd p.val (fun u => if ok then
          { u with ended := (u.ended + 1) % 2 ^ 32, cntQ := satAdd 32 u.cntQ 1 }
        else { u with ended := (u.ended + 1) % 2 ^ 32, failed := (u.failed + 1) % 2 ^ 32, cntF := satAdd 32 u.cntF 1 })
      let ev := if ok then (if (pipe.toHost || (wants && !route)) && !d.quiet then 1 else 0) else 2
      let s3 := if ev = 0 then s2 else s2.spanEvent q.span ev
      if wants && route then
        (s3.qUpd k (fun q => { q with stage := 2 })).pipeUpd p.val (fun u => { u with waiting := u.waiting ++ [k] })
      else s3.queryRelease k)

/-! ### Forwards (R288, R289) -/

/-- Places of a pipeline's RERANK window (R288). -/
def State.nwin (s : State) (p : Nat) : Nat := min 4 ((nth (s.image.routes.at (s.pipe p).rerank).words 3).toNat / 16448)

/-- FORWARD_START (R288): the oldest waiting query is copied over the RERANK route when the window has a place; without the route it
is not forwarded (R289). -/
def execForwardStart (p : Fin 64) (s : State) : Res State :=
  let u := s.retr.pipes.at p.val
  match u.waiting with
  | [] => .next s
  | k :: rest =>
    match s.retr.queries.at k with
    | none => .next (s.pipeUpd p.val (fun u => { u with waiting := rest }))
    | some q =>
      let n := (s.pipe p.val).rerank
      if !(s.image.routes.at n).valid then
        .next ((s.pipeUpd p.val (fun u => { u with waiting := rest })).queryRelease k)
      else if s.nwin p.val ≤ u.outst + u.copying.length then .next s
      else
        let data := q.header (q.fin.getD 1) false ++ q.recs.flatMap QRec.bytes
        let took (s : State) : State := s.settle.pipeUpd p.val (fun u => { u with
          waiting := rest
          copying := u.copying ++ [(k, u.fwd)]
          fwd := u.fwd + 1 })
        s.orWait q (match s.storeRoute q.unit q.ticket n (u.fwd % s.nwin p.val * 16448) data (data.map (fun _ => false)) with
          | .ok s1 _ => .ok (took s1)
          | .fault s1 _ _ _ => .ok (took s1)
          | .wait h => .error h)

/-- FORWARD_DOORBELL (R288, R289): the copy is performed; the rerank span's doorbell is rung with the place's number, and a forward
whose doorbell is not delivered is free at once. -/
def execForwardDoorbell (p : Fin 64) (s : State) : Res State :=
  let u := s.retr.pipes.at p.val
  match u.copying with
  | [] => .next s
  | (k, n) :: rest =>
    let r := s.image.routes.at (s.pipe p.val).rerank
    let tk := ((s.retr.queries.at k).map (·.ticket)).getD 0
    let s0 := (s.pipeUpd p.val (fun u => { u with copying := rest })).queryRelease k
    if !r.valid then .next s0
    else
      let run := decide ((s.spans.at r.span).st = .running)
      let v := if s.nwin p.val = 0 then 0 else n % s.nwin p.val
      let s1 := (s0.ringSpan r.span v tk).groupCmd r.span 8 v tk
      if run && decide (s1.engs ≠ s0.engs) then .next (s1.pipeUpd p.val (fun u => { u with outst := u.outst + 1 }))
      else .next s1

/-- FORWARD_FREE (R288): a completion of the rerank span frees the oldest outstanding forward. -/
def execForwardFree (p : Fin 64) (s : State) : Res State :=
  let u := s.retr.pipes.at p.val
  if 0 < u.completions ∧ 0 < u.outst then
    .next (s.pipeUpd p.val (fun u => { u with completions := u.completions - 1, outst := u.outst - 1 }))
  else .next s

/-! ### Fencing, and reading results (R283, R291) -/

/-- Fails every query that uses retrieval engine `e` (R291). -/
def State.reLost (s : State) (e : Nat) : State :=
  (s.queries.filter (fun q => q.2.slots.any (fun x => x.1 = e) || q.2.sel.any (fun x => x.2.2 = e))).foldl
    (fun (s : State) q => s.queryFailNow q.1 0x0A 0 0) s

/-- RE_FENCE (R291, R393): each retrieval engine of the mask that is not fenced is. -/
def execReFence (mask : Fin 65536) (logOk : Bool) (s : State) : Res State :=
  .next (((List.range 16).foldl (fun (s : State) e =>
    if !bitAt mask.val e || bitAt (s.fget .RTV_STAT F.RTV_STAT_RE_FENCED) e then s
    else
      let s1 := s.fset .RTV_STAT F.RTV_STAT_RE_FENCED (s.fget .RTV_STAT F.RTV_STAT_RE_FENCED + 2 ^ e)
      (((s1.logRec ⟨0x0B, 0, e, 0, 0, false⟩ logOk).reLost e).rtvRaise F.RTV_EVT_RE_FENCED 300)) s).degradeCheck)

/-- The retrieval die is fenced (R291): every admitted query ends with 0x07. -/
def State.rtvDieLost (s : State) : State :=
  (s.queries.foldl (fun (s : State) q => s.queryFailNow q.1 0x07 0 0) s).degradeCheck

/-- RESULT_READ_ADVANCE (R283): backwards, or beyond RTV_QRD_p, it is ignored and sets OVR. -/
def execResultReadAdvance (p : Fin 64) (v : Word) (s : State) : Res State :=
  if !(s.pipe p.val).valid then .next s
  else if ahead (s.rrd p.val) v.toNat ≤ ahead (s.rrd p.val) (s.qrd p.val) then .next (s.rset (.RTV_RRD p) v)
  else .next (s.bset .RTV_EVT F.RTV_EVT_OVR true)

end Sys2Proof.Machine
end

