-- ==== Sys2Proof/Machine/Reset.lean ====
section
/-! DEFINITION. What a reset or the loss of the main side's rails leaves (R17, R377, R380, R209, R354): the register fields
that each kind keeps, the state outside the main side, and memory kept in self-refresh. -/

namespace Sys2Proof.Machine

/-- The kinds of R377 that reach the main side, and the rails of the main side turned off (R354, R371, R373, R434). -/
inductive ResetKind where
  | power
  | cold
  | warm
  | off
  deriving DecidableEq, Repr

/-- Whether a register lies in the LDP block, in the always-on domain (R454).  DEDUCED, log entry 34. -/
def Reg.alwaysOn (r : Reg) : Bool := 0x06000000 ≤ r.offset && r.offset < 0x07000000

/-- The bits of a register that a reset keeps (R17, R440, R454): RWS fields over a warm reset, those of the LDP block over a cold
reset too; what the always-on domain reports of its own, over every reset but power-on.  DEDUCED, log entries 33 and 34. -/
def ResetKind.keeps (k : ResetKind) (r : Reg) : Word :=
  match k with
  | .power => 0
  | k =>
    if r = .LDP_STAT ∨ r = .LDP_FERRY_STAT then 0xFFFFFFFF
    else if r = .CLK_STAT then 0x6
    else if r.alwaysOn || decide (k ≠ .cold) then r.access.rws
    else 0

/-- The register file after a reset. -/
def regsAfter (k : ResetKind) (l : List (Reg × Word)) : List (Reg × Word) :=
  (l.map (fun e => (e.1, (e.2 &&& k.keeps e.1) ||| (e.1.reset &&& ~~~(k.keeps e.1))))).filter (fun e => e.2 ≠ e.1.reset)

/-- The flash after a reset: what the LUNs hold; the work of its channels is gone (R244, R256). -/
def FlashUnit.afterReset (f : FlashUnit) : FlashUnit :=
  { f with queue := [], run := [], done := [], fmt := none, cmds := [], groups := [], moves := [], returning := [], applied := []
           zones := f.zones.map (fun z => (z.1, { z.2 with append := none, after := 0 })) }

/-- Whether a cell lies in stack memory or bonded DRAM, which a warm reset with MEM_KEEP keeps (R209). -/
def dramCell (k : Nat) : Bool := 0x010000000000 ≤ k && k < 0x022000000000

/-- The patch entries of the DRAM instances (R209): instance key, entry, patch. -/
def MemUnit.dramPatches (m : MemUnit) : List (Nat × Nat × Patch) :=
  (m.insts.filter (fun i => i.1 / 128 = 4 || i.1 / 128 = 5)).flatMap (fun i =>
    i.2.patch.filterMap (fun e => e.2.map (fun p => (i.1, e.1, p))))

/-- Stack memory and bonded DRAM kept with their data, check bits, poison and manifests (R209). -/
def MemUnit.dramKept (m : MemUnit) : MemUnit :=
  let x := m.fill (fun k => !dramCell k)
  { (default : MemUnit) with data := x.data, syn := x.syn, man := x.man }

/-- The fuses after a reset interrupts the programming of a key notice (R462): an enrolment leaves VALID unblown, with the digest fuses
that were blown by then; a revocation leaves the slot LIVE or REVOKED.  Which is a free value.  DESIGN CHOICE, log entry 45. -/
def Fuses.cut (f : Fuses) (n : Nat) (k : Option (Nat × Nat × List Byte)) : Fuses :=
  match k with
  | none => f
  | some (op, t, dig) =>
    let old := (f.keys[t]?).getD default
    let new := if op = 1 then
        { old with digest := (old.digest.zipIdx).map (fun x => x.1 ||| (nth dig x.2 &&& byteOf (Config.freeWord (n + x.2)).toNat)) }
      else { old with revoked := old.revoked || Config.freeBool n }
    { f with keys := setNth f.keys t new }

/-- Whether a warm reset prepares memory (R380): BUP_CTL.MEM_KEEP. -/
def State.memKeep (s : State) : Bool := s.bget .BUP_CTL F.BUP_CTL_MEM_KEEP

/-- The nodes of the thermal model (R428): how many a die has, and the number of its first. -/
def nodeCount (pos : Nat) : Nat := if 1 ≤ pos ∧ pos ≤ 8 then 16 else 8
@[inherit_doc nodeCount] def nodeBase (pos : Nat) : Nat :=
  if pos = 0 then 128 else if pos ≤ 8 then 16 * (pos - 1) else 128 + 8 * (pos - 8)

/-- The thermal model's part that stays over a warm reset (R430, R431, R435): boundaries, failed diodes; its nodes restart from the
boundary. -/
def ThermUnit.restart (t : ThermUnit) : ThermUnit :=
  { (default : ThermUnit) with
    dies := t.dies.map (fun d => (d.1, { (default : ThermDie) with
      bound := d.2.bound, diodes := d.2.diodes, failed := d.2.failed, frozen := d.2.frozen }))
    temps := t.dies.foldl (fun (m : Tab Int) d =>
      (span (nodeBase d.1) (nodeCount d.1)).foldl (fun (m : Tab Int) n => m.put n d.2.bound) m) []
    trip := t.trip }

/-- The extents that the keep area records (R143): those of the loaded image, or of the one that was loaded before the last reset. -/
def State.keptExtents (s : State) : List (Nat × Nat × Nat) :=
  if s.image.loaded then s.image.extents.map (fun x => (x.dst, x.dstAddr, x.len)) else s.keep.extents

/-- The register file in which the stacks that ran, or already rested, are in self-refresh (R169, R209). -/
def restStacks (old new : List (Reg × Word)) : List (Reg × Word) :=
  (List.range 8).foldl (fun (l : List (Reg × Word)) n =>
    let r : Reg := .STK_STAT (Fin.ofNat 8 n)
    let st := F.STK_STAT_STATE.get (regGet old r)
    if st = 2 ∨ st = 3 then regSet l r (F.STK_STAT_STATE.put (regGet l r) 3) else l) new

/-- The state right after a reset of the given kind, or after the main side's rails have turned off.  DEDUCED, log entries 33 and 34. -/
def State.resetTo (k : ResetKind) (s : State) : State :=
  let keep := decide (k = .warm) && s.memKeep
  { (default : State) with
    regs := if keep then restStacks s.regs (regsAfter k s.regs) else regsAfter k s.regs
    fuses := s.fuses.cut s.free s.sec.knot
    log := s.log
    flash := s.flash.afterReset
    bup := { (default : BupUnit) with
      slot := s.bup.slot, bootSrc := s.bup.bootSrc, smbAddr := s.bup.smbAddr
      complete := decide (k ≠ .power) && s.bup.complete, warm := decide (k = .warm)
      shutdown := if k = .power then 0 else s.bup.shutdown
      railFlt := decide (k = .warm ∨ k = .off) && s.bup.railFlt
      kind := s.bup.kind, src := s.bup.src
      keepTag := keep, aonLow := s.bup.aonLow
      coldSeq := if k = .power then 0 else s.bup.coldSeq }
    mem := if keep then s.mem.dramKept else default
    keep := if keep then ⟨false, s.mem.dramPatches, s.keptExtents, s.ilMode.code⟩ else default
    pwr := { (default : PowerUnit) with
      rails := if k = .warm then s.pwr.rails.map (fun r => (r.1, { (default : Rail) with flt := r.2.flt })) else []
      off := decide (k = .off) || (decide (k ≠ .power) && s.pwr.off) }
    thm := if k = .warm then s.thm.restart else { (default : ThermUnit) with trip := decide (k ≠ .power) && s.thm.trip }
    sec := { (default : SecUnit) with reports :=
        if k = .power then 0 else s.sec.reports - b2n s.sec.att.isSome - b2n s.sec.ldpAtt.isSome }
    ldp := if k = .power then default else { s.ldp with push := false, mirror := [], ferry := false }
    sites := if k = .power then [] else s.sites.filterMap (fun e =>
      if e.2.fencePend = [] then none else some (e.1, { (default : SiteUnit) with fencePend := e.2.fencePend }))
    deadRows := if k = .warm then s.deadRows else []
    bridgeEn := s.bridgeEn
    perst := s.perst
    tap := if k = .power then TapUnit.reset else { TapUnit.reset with
      ir := if s.tap.ir = 3 ∨ s.tap.ir = 4 ∨ s.tap.ir = 5 then 0xFF else s.tap.ir, diesel := s.tap.diesel, boundary := s.tap.boundary }
    faultN := decide (k ≠ .power) && s.faultN
    outbox := s.outbox
    resp := s.resp
    free := if s.sec.knot.isSome then s.free + 32 else s.free
    pending := s.pending }

end Sys2Proof.Machine
end

