-- ==== Sys2Proof/Machine/Thermal.lean ====
section
/-! DEFINITION. The rails (R359), the thermal model (file 16_telemetry_thermal.md, R428 to R434) and the crash capture (file
17_landing_port.md, R449 and R450), as operations that the meanings of the power and thermal commands share. -/

namespace Sys2Proof.Machine

/-! ### Rails (R359) -/

/-- The die position that a rail supplies. -/
def railDie (r : Nat) : Nat :=
  if r < 40 then r / 5 + 1 else if r < 43 then 0 else if r < 47 then 10 + (r - 43) / 2 else if r < 49 then 9
  else 12 + (r - 49) / 2

/-- The rails of a die position. -/
def railsOf (pos : Nat) : List Nat := (List.range 65).filter (fun r => railDie r = pos)

/-- Whether the voltage loop trims a rail. -/
def railAdaptive (r : Nat) : Bool := (r < 40 && r % 5 < 2) || r = 40 || r = 43 || r = 45 || r = 47

/-- The fixed voltage of a rail that is not adaptive, in steps of 2.5 mV. -/
def railFixed (r : Nat) : Nat :=
  if r < 40 then nth [0, 0, 300, 320, 420] (r % 5)
  else if r = 41 then 320 else if r < 49 then 360
  else if r % 2 = 1 then 440 else 200

/-- The setpoint with which a rail starts, at throttle step `k` (R358, R359, R386).  DESIGN CHOICE, log entry 30: a start voltage that the fuses
do not list is 0.75 V. -/
def State.railStart (s : State) (r k : Nat) : Nat :=
  if railAdaptive r then (let v := s.fuses.start.at (r * 4 + k); if v = 0 then 300 else v) else railFixed r

/-- The rail of a half (2(d - 1), + 1 west), and its die counted from 0. -/
def halfRail (h : Nat) : Nat := h / 2 * 5 + h % 2
@[inherit_doc halfRail] def halfDie (h : Nat) : Die := Fin.ofNat 8 (h / 2)

/-- The applied step of a half (R357).  DESIGN CHOICE, log entry 32. -/
def State.applied (s : State) (h : Nat) : Nat := (⟨h % 2 * 2, 2⟩ : Fld).get (s.rget (.CLK_HALF (halfDie h)))

/-- The setpoint of a rail: VHS stands at 0.55 V in Standby (R359, R370). -/
def State.setpoint (s : State) (r : Nat) : Nat :=
  if r = 41 ∧ s.fget .PWR_STATE F.PWR_STATE_STATE = 2 then 220
  else ((s.pwr.rails.at r).setpt).getD (s.railStart r (if r < 40 ∧ r % 5 < 2 then s.applied (r / 5 * 2 + r % 5) else 0))

/-- The state with a rail changed. -/
def State.railUpd (s : State) (r : Nat) (f : Rail → Rail) : State :=
  { s with pwr := { s.pwr with rails := s.pwr.rails.upd r f } }

/-- The applied steps of the sixteen halves as one word (R426, R450). -/
def State.stepsWord (s : State) : Nat := (List.range 16).foldl (fun w h => w + s.applied h * 4 ^ h) 0

/-! ### The model (R428, R429) -/

/-- A temperature of the model in units of 0.125 °C, and in that unit a whole number of degrees.  DEDUCED, log entry 31. -/
def t12 (micro : Int) : Int := micro / 125000
@[inherit_doc t12] def t12deg (c : Int) : Int := 8 * c

/-- The 12 bits of a T12 field (R438). -/
def t12bits (t : Int) : Nat := (t % 4096).toNat

/-- The fused constants of a node.  DESIGN CHOICE, log entry 30: a node that the
fuses do not list has 1 J/°C and 1 W/°C to the boundary. -/
def State.nodeFuse (s : State) (n : Nat) : NodeFuse :=
  let f := s.fuses.nodes.at n
  if f.cap = 0 then ⟨1000000, 1000000, [], []⟩ else f

/-- The share of a rail in a node, in 65,536ths: equal shares where the fuses list none.  DESIGN CHOICE, log entry 30. -/
def State.nodeShare (s : State) (pos n r : Nat) : Nat :=
  match (s.nodeFuse n).shares.find? (fun x => x.1 = r) with
  | some x => x.2
  | none => 65536 / nodeCount pos

/-- The power of a rail in µW (R429): its limit while its regulator is silent. -/
def State.railPower (s : State) (silent : List Nat) (r : Nat) : Nat :=
  100000 * (if silent.contains r then s.fuses.limit.at r else (s.pwr.rails.at r).pow)

/-- The half of a site within its die: 0 east, 1 west (R125). -/
def siteHalf (site : Nat) : Nat := site % 4 / 2

/-- The power of node `i` of a die in µW (R429): VE and VW by the array-busy cycles of the half's sites, the others by fused
fractions.  DEDUCED, log entry 31. -/
def State.nodePower (s : State) (busy : List Nat) (silent : List Nat) (pos i : Nat) : Nat :=
  (railsOf pos).foldl (fun p r =>
    let w := s.railPower silent r
    if r < 40 ∧ r % 5 < 2 then
      (if siteHalf i = r % 5 then
        let b := fun j => (busy[16 * (pos - 1) + j]?).getD 0
        let total := ((List.range 16).filter (fun j => siteHalf j = r % 5)).foldl (fun t j => t + b j) 0
        p + (if total = 0 then w / 8 else w * b i / total)
      else p)
    else p + w * s.nodeShare pos (nodeBase pos + i) r / 65536) 0

/-- The die position of a node. -/
def nodeDie (n : Nat) : Nat := if n < 128 then n / 16 + 1 else if n < 136 then 0 else 9 + (n - 136) / 8

/-- The temperature of a node after an interval of 20 µs (R428), in µ°C: the interval times its power less its heat flow to its
neighbours and to the boundary, divided by its capacitance.  DEDUCED, log entry 31. -/
def State.nodeNext (s : State) (n power : Nat) : Int :=
  let f := s.nodeFuse n
  let t := s.thm.temps.at n
  let flow := f.nbrs.foldl (fun (q : Int) x => q + (x.2 : Int) * (t - s.thm.temps.at x.1) / 1000000)
    ((f.bound : Int) * (t - (s.thm.dies.at (nodeDie n)).bound) / 1000000)
  t + 20 * ((power : Int) - flow) / (f.cap : Int)

/-- The working diodes of a die with their readings. -/
def ThermDie.working (d : ThermDie) : List (Nat × Int) :=
  ((List.range 4).filter (fun k => !bitAt d.failed k)).map (fun k => (k, (d.diodes[k]?).getD 0))

/-- The temperature of a node as evaluated (R431), in units of 0.125 °C. -/
def State.nodeTemp (s : State) (n : Nat) : Int :=
  let d := s.thm.dies.at (nodeDie n)
  let t := t12 (s.thm.temps.at n)
  if d.diverged then (d.working.map (·.2)).foldl (fun m r => max m (r + t12deg 10)) t else t

/-- The hottest node, as evaluated: node and temperature; of equal ones the hub's first, then the lowest number. -/
def State.hottest (s : State) : Nat × Int :=
  (List.range 224).foldl (fun (b : Nat × Int) i => let t := s.nodeTemp i; if b.2 < t then (i, t) else b)
    (128, s.nodeTemp 128)

/-! ### The crash capture (R449, R450) -/

/-- The words of the capture that the hub produces, but for the event's own (R450). -/
def State.captureWords (s : State) : List Word :=
  let h := s.hottest
  let f := match s.pwr.first with
    | some r => r + (s.pwr.rails.at r).flt * 128
    | none => 0x7F
  [wordOf s.pwr.intervals,
   wordOf (s.wave.last + s.fget .BUP_STAT F.BUP_STAT_STAGE * 65536 + s.fget .BUP_STAT F.BUP_STAT_LEVEL * 1048576),
   wordOf (s.fget .PWR_PKG F.PWR_PKG_POWER_W + s.fget .PWR_VIN F.PWR_VIN_VOLT * 65536),
   wordOf (nodeDie h.1 + (h.1 - nodeBase (nodeDie h.1)) * 32 + t12bits h.2 * 65536),
   wordOf f,
   s.rget .THM_THROT, s.rget .BUP_FENCED, s.rget .CFG_LOAD_ID, wordOf 0xFFF, 0, 0, 0, 0,
   wordOf s.stepsWord, wordOf (s.fget .MEM_EVT ⟨0, 32⟩), s.rget .PWR_STAT, s.rget .CLK_STAT, s.rget .TKT_MISS]

/-- The first 31 words of a capture with its CRC (R450). -/
def captureSeal (body : List Word) : List Word := body ++ [crc32c (body.flatMap (fun (x : Word) => toBytes 4 x.toNat))]

/-- Writes the crash capture (R449): the first fault after a clear writes it, and sets VALID and LDP_ALERT.CRASH; a later one
counts.  `words` are its words from 0x04 on, as the hub gives them or as the always-on domain mirrored them. -/
def State.captureOf (s : State) (cause : Nat) (words : List Word) : State :=
  let old := s.ldp.crash
  if ((old[0]?).getD 0).toNat / 65536 % 2 = 1 then
    let w := ((old[0]?).getD 0)
    let w1 := (⟨8, 8⟩ : Fld).put w (satAdd 8 ((⟨8, 8⟩ : Fld).get w) 1)
    let body := setNth (old.take 31) 0 w1
    { s with ldp := { s.ldp with crash := captureSeal body } }
  else
    let l := wordOf (cause + 65536) :: words
    let body := (l ++ List.replicate 32 0).take 31
    ({ s with ldp := { s.ldp with crash := captureSeal body } }).alertBit F.LDP_ALERT_CRASH

/-- A capture that the hub itself writes: `span` is the first span faulted by the event, if one is. -/
def State.capture (s : State) (cause : Nat) (span : Option Nat) : State :=
  let w := s.captureWords
  s.captureOf cause (match span with
    | none => w
    | some i => (List.range 4).foldl (fun l k => setNth l (9 + k) (wordOf ((s.spans.at i).fault / 2 ^ (32 * k)))) (setNth w 8 (wordOf i)))

/-- Mirrors the capture's fields into the always-on domain (R449). -/
def State.mirror (s : State) : State := { s with ldp := { s.ldp with mirror := s.captureWords } }

/-! ### Faults of the whole device (R24, R354, R366, R434) -/

/-- Stops every span with an error to its doorbell owner (R24): the running entries fault, and the work of their members ends.
DEDUCED, log entry 35. -/
def State.stopAll (s : State) : State × Option Nat :=
  let l := (s.spans.filter (fun e => match e.2.st with
    | .running => true
    | .draining => true
    | .stopping => true
    | _ => false)).map (·.1)
  let s1 := (s.haltWork l).setSpans l .faulted
  (l.foldl (fun (s : State) j => (s.spanUpd j (fun e => { e with fault := 0 })).spanEvent j 2) s1, l.head?)

/-- A device fault (R24): FAULT_N, every span stopped with an error, loads refused until a reset, the capture with its cause.
DEDUCED, log entry 35. -/
def State.deviceFault (s : State) (cause : Nat) : State :=
  let r := ({ s with faultN := true }).stopAll
  (({ r.1 with pwr := { r.1.pwr with refuse := true } }).capture cause r.2).settle

/-- The main side off after a shutdown (R354, R373, R434): FAULT_N asserted, its cause kept for BUP_CAUSE.  DEDUCED, log entry 33. -/
def State.shutdown (s : State) (code : Nat) : State :=
  let s1 := s.resetTo .off
  { s1 with faultN := true, bup := { s1.bup with shutdown := code } }

/-- Thermal shutdown (R434): the capture, THERMTRIP_N, and every main-side rail off; in Standby and its transitions without the hub's step 1,
which writes the capture (R435, R449). -/
def State.thermTrip (s : State) : State :=
  let s1 := (if s.fget .PWR_STATE F.PWR_STATE_STATE = 0 then s.capture 1 none else s).shutdown 1
  { s1 with thm := { s1.thm with trip := true } }

/-! ### Thresholds (R432, R433) -/

/-- A threshold in units of 0.125 °C for a die: 10 °C lower while FROZEN (R431). -/
def State.thrOf (s : State) (pos : Nat) (c : Int) : Int :=
  t12deg (c - (if (s.thm.dies.at pos).frozen then 10 else 0))

/-- The evaluated temperatures of a die's nodes. -/
def State.dieTemps (s : State) (pos : Nat) : List Int := (span (nodeBase pos) (nodeCount pos)).map s.nodeTemp

/-- Raises source 54 + i, whose event bit is bit i of THM_EVT. -/
def State.thmEvt (s : State) (i : Nat) : State := (s.fset .THM_EVT ⟨i, 1⟩ 1).raise (54 + i)

/-- One threshold on one die (R432): its bit in `r`, entered when a node reaches `c` degrees, left when all are below the clear
value; sources `on` and `on` + 1. -/
def State.crossThr (s : State) (r : Reg) (on : Nat) (c : Int) (pos : Nat) : State :=
  let temps := s.dieTemps pos
  let hyst : Int := s.fget .THM_CTL F.THM_CTL_HYST
  let is := (⟨pos, 1⟩ : Fld).get (s.rget r) = 1
  if ¬is ∧ temps.any (fun t => s.thrOf pos c ≤ t) then (s.fset r ⟨pos, 1⟩ 1).thmEvt on
  else if is ∧ temps.all (fun t => t < s.thrOf pos (c - hyst)) then (s.fset r ⟨pos, 1⟩ 0).thmEvt (on + 1)
  else s

/-- The thresholds of every die: warning and throttle (R432). -/
def State.crossLimits (s : State) : State :=
  (List.range 20).foldl (fun (s : State) pos =>
    (s.crossThr .THM_WARN 0 (s.fget .THM_CTL F.THM_CTL_WARN) pos).crossThr .THM_THROT 2 (s.fget .THM_CTL F.THM_CTL_THROT) pos) s

/-- Whether a node is at the shutdown threshold (R432). -/
def State.tooHot (s : State) : Bool :=
  (List.range 20).any (fun pos => (s.dieTemps pos).any (fun t => s.thrOf pos 115 ≤ t))

/-- The nodes on which the throttle action `k` rests (R433): half `k` of the compute dies, or the hub (16). -/
def throttleNodes (k : Nat) : List Nat :=
  if k < 16 then ((List.range 16).filter (fun i => siteHalf i = k % 2)).map (fun i => 16 * (k / 2) + i)
  else span (nodeBase 0) 8

/-- One control interval of throttle action `k` (R433): one step slower at once and then every 5 intervals above THROT, one step
faster every 50 intervals once it has cleared. -/
def State.throttleTick (s : State) (k : Nat) : State :=
  let temps := (throttleNodes k).map s.nodeTemp
  let pos := if k < 16 then k / 2 + 1 else 0
  let thr : Int := s.fget .THM_CTL F.THM_CTL_THROT
  let hyst : Int := s.fget .THM_CTL F.THM_CTL_HYST
  let hot := temps.any (fun t => s.thrOf pos thr ≤ t)
  let was := bitAt s.thm.above k
  let isAbove := hot || (was && !temps.all (fun t => t < s.thrOf pos (thr - hyst)))
  let t := s.thm
  let above := if was = isAbove then t.above else t.above ^^^ 2 ^ k
  if hot then
    if !was || decide (4 ≤ t.acts.at k) then
      { s with thm := { t with above := above, asks := t.asks.put k (min 3 (t.asks.at k + 1)), acts := t.acts.put k 0, cools := t.cools.put k 0 } }
    else { s with thm := { t with above := above, acts := t.acts.put k (t.acts.at k + 1), cools := t.cools.put k 0 } }
  else if isAbove || decide (t.asks.at k = 0) then { s with thm := { t with above := above, cools := t.cools.put k 0 } }
  else if t.cools.at k + 1 = 50 then
    { s with thm := { t with above := above, asks := t.asks.put k (t.asks.at k - 1), cools := t.cools.put k 0 } }
  else { s with thm := { t with above := above, cools := t.cools.put k (t.cools.at k + 1) } }

/-- The thermal request of each half (R357, R433): its own steps and the hub's. -/
def State.thermalAsk (s : State) (h : Nat) : Nat := min 3 (s.thm.asks.at h + s.thm.asks.at 16)

end Sys2Proof.Machine
end

