-- ==== Sys2Proof/Machine/WealeyOps.lean ====
section
/-! DEFINITION. The operations of the Wealey links that several meanings share (file 12_wealey_links_host.md): port states
(R330), a port leaving RUN (R338), the route tables (R336, R337), the links that device 0 records (R339). -/

namespace Sys2Proof.Machine

/-! ### Ports -/

/-- The status, event, control and count registers of port `q` (R319, R351). -/
def pstatReg (q : Nat) : Reg := .LNK_PSTAT (Fin.ofNat 2 (q / 8)) (Fin.ofNat 8 q)
@[inherit_doc pstatReg] def levtReg (q : Nat) : Reg := .LNK_EVT (Fin.ofNat 2 (q / 8)) (Fin.ofNat 8 q)
@[inherit_doc pstatReg] def pctlReg (q : Nat) : Reg := .LNK_PCTL (Fin.ofNat 2 (q / 8)) (Fin.ofNat 8 q)
@[inherit_doc pstatReg] def rtrnReg (q : Nat) : Reg := .LNK_RTRN (Fin.ofNat 2 (q / 8)) (Fin.ofNat 8 q)
@[inherit_doc pstatReg] def ucwReg (q : Nat) : Reg := .LNK_UCW (Fin.ofNat 2 (q / 8)) (Fin.ofNat 8 q)
@[inherit_doc pstatReg] def ltxReg (q : Nat) : Reg := .LNK_TX (Fin.ofNat 2 (q / 8)) (Fin.ofNat 8 q)
@[inherit_doc pstatReg] def lrxReg (q : Nat) : Reg := .LNK_RX (Fin.ofNat 2 (q / 8)) (Fin.ofNat 8 q)
@[inherit_doc pstatReg] def lfecReg (q : Nat) : Reg := .LNK_FEC (Fin.ofNat 2 (q / 8)) (Fin.ofNat 8 q)

/-- STATE of a port (R330): 0 OFF, 1 DETECT, 2 TRAIN, 3 CHECK, 4 RUN, 5 RETRAIN, 6 FAILED, 7 DISABLED, 8 BRIDGE, 9 WITHHELD. -/
def State.portState (s : State) (q : Nat) : Nat := s.fget (pstatReg q) F.LNK_PSTAT_STATE

/-- The state with a port in state `st` for `reason`. -/
def State.setPort (s : State) (q st reason : Nat) : State :=
  (s.fset (pstatReg q) F.LNK_PSTAT_STATE st).fset (pstatReg q) F.LNK_PSTAT_REASON reason

/-- The state with a port's own state changed. -/
def State.portUpd (s : State) (q : Nat) (f : PortUnit → PortUnit) : State := { s with ports := s.ports.upd q f }

/-- Sets an event bit of a port, which asserts level source 320 + q (R350). -/
def State.portEvt (s : State) (q : Nat) (f : Fld) : State := (s.bset (levtReg q) f true).setLine (320 + q) true

/-- Whether a port is one of Wealey, neither withheld nor handed to the bridge (R320). -/
def State.portWealey (s : State) (q : Nat) : Bool := s.portState q < 8

/-- The role of port `q` under licence tier `tier` (R320): its state once its link die runs. -/
def State.portRole (s : State) (tier q : Nat) : Nat :=
  if s.bridgeEn ∧ 12 ≤ q then 8 else if tier = 0 ∧ 8 ≤ q then 9 else if s.bget (pctlReg q) F.LNK_PCTL_DISABLE then 7 else 1

/-- Whether link die `l`'s registers answer (R509): it runs and is not fenced. -/
def State.linkOn (s : State) (l : Nat) : Bool :=
  !s.dieFenced (10 + l) && (bundlesOf (10 + l)).any (fun p => s.bundleState p ≠ 0)

/-! ### The group -/

/-- This device's number, and whether it has one (R334): device 0 always has. -/
def State.devNum (s : State) : Nat := s.fget .LNK_GRP F.LNK_GRP_DEVNUM
@[inherit_doc State.devNum] def State.numbered (s : State) : Bool := s.bridgeEn || (s.devs.at s.devNum).present

/-- The state with a device of the group changed. -/
def State.devUpd (s : State) (d : Nat) (f : DevUnit → DevUnit) : State := { s with devs := s.devs.upd d f }

/-- The state with the device's part in its group changed. -/
def State.grpUpd (s : State) (f : GroupUnit → GroupUnit) : State := { s with grp := f s.grp }

/-- The set of ports that a frame for device `d` may take (R336). -/
def State.portSet (s : State) (d : Nat) (down : Bool) : Nat := if down then (s.devs.at d).dn else (s.devs.at d).up

/-- The ports of a set, ascending. -/
def setPorts (m : Nat) : List Nat := (List.range 16).filter (bitAt m)

/-- The port that a frame takes: entry (ADDR[17:10] mod n) of its set; none while the set is empty (R336, R338). -/
def State.framePort (s : State) (f : Frame) : Option Nat :=
  let l := setPorts (s.portSet f.dst.val f.down)
  if l = [] then none else some (nth l (bits f.addr 10 8 % l.length))

/-- The port that a control entry takes: the lowest of its set (R336).  DEDUCED, log entry 57. -/
def State.entryPort (s : State) (x : Entry) : Option Nat := (setPorts (s.portSet x.dst.val false)).head?

/-- Slices of a frame: header, poison slice, data (R324). -/
def frameSlices (f : Frame) : Nat :=
  1 + b2n (!f.pois.isEmpty) + (if f.typ = 2 ∨ f.typ = 4 then 0 else ceilDiv f.len 64)

/-- The slices of an arrived frame are free again, or a control entry's place is (R327, R329): the port's next report returns the credit.
DESIGN CHOICE, log entry 113: as soon as it is taken in. -/
def State.slicesFreed (s : State) (q : Nat) (f : Frame) : State :=
  s.portUpd q (fun u => if frameRequest f then { u with freeReq := u.freeReq + frameSlices f }
    else { u with freeRsp := u.freeRsp + frameSlices f })
@[inherit_doc State.slicesFreed] def State.entryFreed (s : State) (q : Nat) : State :=
  s.portUpd q (fun u => { u with freeCtl := u.freeCtl + 1 })

/-- Sends the link fields on a port (R327 to R329): the slices received in order, a NAK that is due, and the credits freed since the last
report. -/
def State.reportGo (s : State) (q : Nat) : State :=
  let u := s.ports.at q
  (s.portUpd q (fun u => { u with nak := false, freeReq := 0, freeRsp := 0, freeCtl := 0, since := 0 })).emit
    (.linkFields q u.rxSeq u.nak u.freeReq u.freeRsp u.freeCtl)

/-- The frames held for want of a route (R338). -/
def State.heldFrames (s : State) : List Frame := s.grp.frames.filter (fun f => (s.framePort f).isNone)

/-- The LINKSTATE entry of port `q` (R327).  DEDUCED, log entry 57. -/
def State.linkEntry (s : State) (q : Nat) (up : Bool) : Entry :=
  let p := s.rget (pstatReg q)
  { kind := 5, urg := false, src := Fin.ofNat 64 s.devNum, dst := 0, bcast := false
    words := [wordOf (q + b2n up * 16 + F.LNK_PSTAT_PEER_DEV.get p * 32 + F.LNK_PSTAT_PEER_PORT.get p * 2048),
      wordOf (s.fget .LNK_GEN F.LNK_GEN_GEN), 0, 0, 0] }

/-! ### Route computation (R336) -/

/-- A directed hop: from device `x` over its port `p` to device `y`, and whether it is up. -/
structure Hop where
  x : Nat
  p : Nat
  y : Nat
  up : Bool
  deriving DecidableEq, Repr

/-- Whether a hop from `x` to `y` is up: it leads to a device of lower (level, number). -/
def State.hopUp (s : State) (x y : Nat) : Bool :=
  let lx := (s.devs.at x).level
  let ly := (s.devs.at y).level
  decide (ly < lx) || (decide (ly = lx) && decide (y < x))

/-- The hops over the links that are in RUN between numbered devices. -/
def State.hops (s : State) : List Hop :=
  (s.grp.links.filter (fun l => l.up && (s.devs.at l.a).present && (s.devs.at l.b).present)).flatMap (fun l =>
    [⟨l.a, l.ap, l.b, s.hopUp l.a l.b⟩, ⟨l.b, l.bp, l.a, s.hopUp l.b l.a⟩])

/-- The least of a length and one more than another. -/
def least (a b : Option Nat) : Option Nat :=
  match a, b with
  | some x, some y => some (min x (y + 1))
  | some x, none => some x
  | none, some y => some (y + 1)
  | none, none => none

/-- One round of relaxation of the least lengths of legal paths to device `v`, keyed 2 × device + 1 once a down hop has been
taken: after one, no up hop follows. -/
def relax (v : Nat) (hops : List Hop) (t : Tab (Option Nat)) : Tab (Option Nat) :=
  hops.foldl (fun (u : Tab (Option Nat)) h =>
    if h.x = v then u
    else if h.up then u.put (2 * h.x) (least (u.at (2 * h.x)) (t.at (2 * h.y)))
    else (u.put (2 * h.x) (least (u.at (2 * h.x)) (t.at (2 * h.y + 1)))).put (2 * h.x + 1)
      (least (u.at (2 * h.x + 1)) (t.at (2 * h.y + 1)))) t

/-- The least lengths of legal paths to device `v`. -/
def pathLengths (v : Nat) (hops : List Hop) : (fuel : Nat) → Tab (Option Nat)
  | 0 => (Tab.put (Tab.put [] (2 * v) (some 0)) (2 * v + 1) (some 0) : Tab (Option Nat))
  | n + 1 => relax v hops (pathLengths v hops n)

/-- The lowest four ports of a list, as a mask. -/
def portMask (l : List Nat) : Nat := (((List.range 16).filter l.contains).take 4).foldl (fun m p => m + 2 ^ p) 0

/-- The table entry for destination `v` on device `x` (R336): HOPS, UPSET and DNSET. -/
def routeTo (hops : List Hop) (t : Tab (Option Nat)) (x v : Nat) : RouteTo :=
  let first := fun (ph : Nat) => portMask ((hops.filter (fun h => h.x = x && decide (ph = 0 ∨ ¬h.up) &&
    (match t.at (2 * x + ph), t.at (2 * h.y + b2n (!h.up)) with
      | some a, some b => decide (a = b + 1)
      | _, _ => false))).map (·.p))
  ⟨v, (t.at (2 * x)).getD 0, first 0, first 1⟩

/-- The numbered devices. -/
def State.devices (s : State) : List Nat := (List.range 64).filter (fun d => (s.devs.at d).present)

/-- The table of device `x` (R336). -/
def State.tableOf (s : State) (x : Nat) : List RouteTo :=
  let hs := s.hops
  (s.devices.filter (fun v => v ≠ x)).map (fun v => routeTo hs (pathLengths v hs (2 * s.devices.length)) x v)

/-! ### Lost devices (R339) -/

/-- The units of device `d` become absent in every group span (R339): points with members on it are released with abort, and a
mode change goes on without it. -/
def State.markLost (s : State) (d : Nat) : State :=
  if s.lostDevs.contains d then s
  else
    let hit := (s.spans.filter (fun x => x.2.group && x.2.remote.any (fun m => m.1 = d))).map (·.1)
    let s1 := hit.foldl (fun (s : State) i => s.spanUpd i (fun e =>
      { e with aborted := e.aborted ++ (e.syncs.map (·.1)).filter (fun p => !e.aborted.contains p) }))
      { s with lostDevs := s.lostDevs ++ [d] }
    (((s1.modeAbsent (.device d)).degradeCheck).raise 338).settle

/-- A LOST device has a route again. -/
def State.unmarkLost (s : State) (d : Nat) : State :=
  if s.lostDevs.contains d then
    (({ s with lostDevs := s.lostDevs.filter (fun x => x ≠ d) }).degradeCheck).raise 338
  else s

/-! ### Adopting a table (R337) -/

/-- Adopts a table whole (R337): the sets of every destination; later requests to one whose set has changed wait for those sent
before; LOST and ISOLATED clear where a route has returned; source 337. -/
def State.adoptTable (s : State) (gen : Nat) (l : List RouteTo) : State :=
  let s1 := l.foldl (fun (s : State) r =>
    let d := s.devs.at r.dest
    let tags := (s.grp.tags.filter (fun t => t.2 = r.dest)).map (·.1)
    let s1 := s.devUpd r.dest (fun d => { d with present := true, hops := r.hops, up := r.up, dn := r.dn })
    if (d.up ≠ r.up ∨ d.dn ≠ r.dn) ∧ tags ≠ [] then
      s1.grpUpd (fun g => { g with drains := g.drains.filter (fun x => x.1 ≠ r.dest) ++ [(r.dest, tags)] })
    else s1) s
  let s2 := { s1 with ports := s1.ports.map (fun (p : Nat × PortUnit) => (p.1, { p.2 with cut := [] })) }
  let s3 := ((s2.fset .LNK_GEN F.LNK_GEN_GEN gen).grpUpd (fun g => { g with arriving := [] })).raise 337
  let s4 := l.foldl (fun (s : State) r => if r.up ≠ 0 then s.unmarkLost r.dest else s) s3
  if s4.fget .LNK_GRP F.LNK_GRP_STATE = 4 ∧ (s4.devs.at 0).up ≠ 0 then
    ((s4.fset .LNK_GRP F.LNK_GRP_STATE 2).raise 338).sendHeld (fun _ _ => true)
  else s4

/-- The ROUTE entries that device 0 sends to device `x` (R327, R336). -/
def State.routeEntries (s : State) (x gen : Nat) : List Entry :=
  (s.tableOf x).map (fun r =>
    { kind := 4, urg := false, src := 0, dst := Fin.ofNat 64 x, bcast := false
      words := [wordOf (r.dest + r.hops * 64), wordOf (r.up + r.dn * 65536), wordOf gen, 0, 0] })

/-- Device 0 computes the tables of a new generation, sends each device its entries and adopts its own (R336). -/
def State.newTables (s : State) : State :=
  let gen := (s.fget .LNK_GEN F.LNK_GEN_GEN + 1) % 65536
  let s1 := s.adoptTable gen (s.tableOf 0)
  (s1.devices.filter (fun x => x ≠ 0)).foldl (fun (s : State) x => (s.routeEntries x gen).foldl State.entryOut s) s1

/-! ### Links recorded (R334, R339) -/

/-- Whether a recorded link ends at port `p` of device `d`. -/
def LinkRec.at_ (l : LinkRec) (d p : Nat) : Bool := (l.a = d && l.ap = p) || (l.b = d && l.bp = p)

/-- DEGRADED of LNK_GRP (R339): a link that discovery recorded is not in RUN. -/
def State.linkDegraded (s : State) : State :=
  let b := s.grp.links.any (fun l => !l.up)
  if s.bget .LNK_GRP F.LNK_GRP_DEGRADED = b then s else (s.bset .LNK_GRP F.LNK_GRP_DEGRADED b).degradeCheck

/-- Records what device `d` reports of its port (R338, R339): a link whose other end has no number yet is recorded with the
peer 64. -/
def State.recordLink (s : State) (d p : Nat) (up : Bool) (peer peerPort : Nat) : State :=
  let known := s.grp.links.any (fun l => l.at_ d p)
  let s1 :=
    if up then
      let rest := s.grp.links.filter (fun l => !l.at_ d p && !(decide (peer < 64) && l.at_ peer peerPort))
      s.grpUpd (fun g => { g with links := rest ++ [⟨d, p, peer, peerPort, true⟩] })
    else if known then
      s.grpUpd (fun g => { g with links := g.links.map (fun l => if l.at_ d p then { l with up := false } else l) })
    else s
  s1.linkDegraded

/-- This device's own report of its port `q` (R338): device 0 records it and sends new tables; another numbered device sends
LINKSTATE to device 0, and knows its own link's condition. -/
def State.reportPort (s : State) (q : Nat) (up : Bool) : State :=
  let w := s.rget (pstatReg q)
  let peer := F.LNK_PSTAT_PEER_DEV.get w
  let pp := F.LNK_PSTAT_PEER_PORT.get w
  let n := if (s.devs.at peer).present then peer else 64
  if s.bridgeEn then (s.recordLink 0 q up n pp).newTables
  else if s.numbered then (s.recordLink s.devNum q up n pp).entryOut (s.linkEntry q up)
  else s

/-! ### A port leaving RUN (R338) -/

/-- Removes port `q` from every set, keeping note of which held it. -/
def State.removePort (s : State) (q : Nat) : State :=
  let was := s.devs.filterMap (fun d =>
    let k := b2n (bitAt d.2.up q) + 2 * b2n (bitAt d.2.dn q)
    if k = 0 then none else some (d.1, k))
  ({ s with devs := s.devs.map (fun (d : Nat × DevUnit) => (d.1,
      { d.2 with up := if bitAt d.2.up q then d.2.up - 2 ^ q else d.2.up
                 dn := if bitAt d.2.dn q then d.2.dn - 2 ^ q else d.2.dn })) }).portUpd q (fun p => { p with cut := was })

/-- Restores port `q` to the sets that held it, unless a new table has been adopted since. -/
def State.restorePort (s : State) (q : Nat) : State :=
  let s1 := (s.ports.at q).cut.foldl (fun (s : State) c => s.devUpd c.1 (fun d =>
    { d with up := if bitAt c.2 0 && !bitAt d.up q then d.up + 2 ^ q else d.up
             dn := if bitAt c.2 1 && !bitAt d.dn q then d.dn + 2 ^ q else d.dn })) s
  s1.portUpd q (fun p => { p with cut := [] })

/-- Moves what the port's replay buffer holds back to the head of the queues, to be sent on the remaining ports (R338); with
`all` unset, only what another port of its set can take. -/
def State.resend (s : State) (q : Nat) (all : Bool) : State :=
  let l := (s.ports.at q).sent
  let goes := fun (x : Nat × Sum Frame Entry) => all || (match x.2 with
    | .inl f => (s.framePort f).isSome
    | .inr e => (s.entryPort e).isSome)
  let m := l.filter goes
  let fr := m.filterMap (fun x => match x.2 with
    | .inl f => some f
    | .inr _ => none)
  let en := m.filterMap (fun x => match x.2 with
    | .inl _ => none
    | .inr e => some e)
  (s.grpUpd (fun g => { g with frames := fr ++ g.frames, entries := en ++ g.entries })).portUpd q
    (fun p => { p with sent := l.filter (fun x => !goes x) })

/-- Port `q` leaves RUN (R338): it leaves every set, what is unacknowledged is sent again elsewhere, and device 0 hears of it. -/
def State.portLeavesRun (s : State) (q : Nat) (retrain : Bool) : State :=
  (((s.removePort q).resend q (!retrain)).reportPort q false)

/-- Port `q` goes down to state `st`: with DOWN set when it was in RUN, with what it still held sent elsewhere when it was
retraining (R330, R338). -/
def State.portDown (s : State) (q st reason : Nat) (downEvt : Bool) : State :=
  let was := s.portState q
  let s1 := (s.setPort q st reason).portUpd q (fun p => { p with hello := false })
  let s2 := if was = 4 then s1.portLeavesRun q false else if was = 5 then s1.resend q true else s1
  if was = 4 ∧ downEvt then s2.portEvt q F.LNK_EVT_DOWN else s2

/-- Starts a retrain of a port in RUN (R330, R331): a third one within 2^32 codewords makes it FAILED instead. -/
def State.portRetrainStart (s : State) (q : Nat) : State :=
  let p := s.ports.at q
  let l := p.retrains.filter (fun x => p.total - x < 4294967296) ++ [p.total]
  let s1 := (s.cnt (rtrnReg q) F.LNK_RTRN_RETRAINS 1).portUpd q (fun p => { p with retrains := l, cws := 0, ucws := 0, fails := 0 })
  if 3 ≤ l.length then
    ((s1.portDown q 6 2 false).portUpd q (fun p => { p with retrains := [] })).portEvt q F.LNK_EVT_FAILED
  else (s1.setPort q 5 0).portLeavesRun q true

end Sys2Proof.Machine
end

