-- ==== Sys2Proof/Machine/CausewayOps.lean ====
section
/-! DEFINITION. The operations of the causeway that several meanings share (file 11_causeway.md): bundles and their roles, the
CRC of a flit, repair maps (R307), half-width and retirement (R313, R314), and fencing a die as a whole (R314, R361). -/

namespace Sys2Proof.Machine

/-! ### Bundles (R22) -/

/-- Sets an event bit of a bundle; the bits of sources 24 to 27 raise them (R317). -/
def State.cwyEvt (s : State) (p : Nat) (f : Fld) (src : Nat) : State :=
  let s1 := s.bset (.CWY_EVT (bundleNo p)) f true
  if src = 0 then s1 else s1.raise src

/-- The bundle whose clock pair gives a die its clocks (R297). -/
def State.clockSource (s : State) (pos : Nat) : Option Nat :=
  (bundlesOf pos).find? (fun p => s.bundleState p ≠ 0 && !(s.cwy.at p).clkFail)

/-- CHAIN of a bundle (R304, R318): entry, standby or lost. -/
def State.chainRole (s : State) (p : Nat) : Nat :=
  if s.bundleLive p then (if s.entryOf (entryGroup p) = some p then 0 else 1)
  else if s.bundleState p = 3 then 1 else if s.bundleState p = 5 then 2 else 0

/-- Brings CHAIN, CLK_SRC and SPLIT of a die's bundles up to date (R297, R304, R315). -/
def State.refreshRoles (s : State) (pos : Nat) : State :=
  let src := s.clockSource pos
  (bundlesOf pos).foldl (fun (s : State) p =>
    let r : Reg := .CWY_STAT (bundleNo p)
    ((s.fset r F.CWY_STAT_CHAIN (s.chainRole p)).bset r F.CWY_STAT_CLK_SRC (src = some p)).bset r F.CWY_STAT_SPLIT
      (p < 64 && s.bundleState p = 4 && s.bundleState (bundleMate p) = 2)) s

/-- Puts a bundle into state `st`, and brings the roles of its die up to date. -/
def State.setBundle (s : State) (p st : Nat) : State :=
  (s.fset (.CWY_STAT (bundleNo p)) F.CWY_STAT_STATE st).refreshRoles (bundleDie p)

/-- Whether the functions of package feature level 2 are enabled now: half-width and run-time retraining (R309, R387). -/
def State.level2 (s : State) : Bool := 2 ≤ s.fget .GLB_FEATURE F.GLB_FEATURE_LEVEL

/-! ### The flit's CRC (R298) -/

/-- One bit of CRC-16 with polynomial 0x1021. -/
def crc16Bit (c : Nat) (b : Bool) : Nat :=
  let y := c * 2 % 65536
  if bitAt c 15 != b then y ^^^ 0x1021 else y

/-- The low `n` bits of a number, bit 0 first. -/
def bitsLow (n x : Nat) : List Bool := (List.range n).map (bitAt x)

/-- The CRC-16 register after some bits: `l.foldl crc16Bit c`, written so that evaluation has the register's value before it goes on to the
next bit.  DEDUCED, log entry 80. -/
def crc16Fold : List Bool → Nat → Nat
  | [], c => c
  | b :: l, 0 => crc16Fold l (crc16Bit 0 b)
  | b :: l, n + 1 => crc16Fold l (crc16Bit (n + 1) b)

/-- CRC-16 of some bits, initial value 0xFFFF.  DEDUCED, log entry 80. -/
def crc16 (l : List Bool) : Nat := crc16Fold l 0xFFFF

/-- The CRC of a flit (R298): its bits 0 to 1,263 and bits [19:1] of its valid field.  DEDUCED, log entry 80. -/
def flitCrc (f : Flit) : Nat :=
  crc16 (f.words.flatMap (bitsLow 39) ++ bitsLow 16 f.man.val ++ (bitsLow 20 f.valid.val).drop 1)

/-- Whether VPAR agrees with the bits [16:1] of a valid field (R299). -/
def vparOk (v : Nat) : Bool :=
  (List.range 3).all (fun i => bitAt v (17 + i) =
    ((span 1 16).filter (fun j => j % 3 = i)).foldl (fun b j => b != bitAt v j) false)

/-- A word of a flit as the receiver delivers it (R194): 39 bits, poisoned or not, and the bit that it corrected. -/
def flitWord (w : Nat) : Nat × Bool × Option Nat :=
  let d := w % 4294967296
  match wordSyndrome ((w / 4294967296 % 128) ^^^ wordCheck d) with
  | .clean => (w % 2 ^ 39, false, none)
  | .checkBit j => (d + wordCheck d * 4294967296, false, some (32 + j))
  | .dataBit i => ((d ^^^ 2 ^ i) + wordCheck (d ^^^ 2 ^ i) * 4294967296, false, some i)
  | .poison => (w % 2 ^ 39, true, none)
  | .bad => (d + (wordCheck d ^^^ wordPoison) * 4294967296, true, none)

/-! ### Repair maps (R307, R313) -/

/-- The lane that spare `k` of a CWY_REPAIR word replaces. -/
def spareOf (w : Word) (k : Nat) : Nat := (⟨8 * k, 7⟩ : Fld).get w

/-- A CWY_REPAIR word of four entries. -/
def repairWord (l : List Nat) : Word := wordOf (ofBytes (l.map byteOf))

/-- The repair register of a bundle's direction. -/
def repairReg (p dir : Nat) : Reg := .CWY_REPAIR (bundleNo p) (Fin.ofNat 2 dir)

/-- The repair map of bad lanes `bad`, ascending, with unusable spares `out` (R307): a spare in use for a lane that is still bad
keeps it, as the example of R316 shows; the others take the usable spares in ascending order.  None when the bad lanes outnumber
them. -/
def repairMap (old : Word) (bad out : List Nat) : Option (List Nat) :=
  let kept := (List.range 4).map (fun k =>
    if out.contains k then 0x7E else if bad.contains (spareOf old k) then spareOf old k else 0x7F)
  let r := kept.foldl (fun (x : List Nat × List Nat) e => if e = 0x7F then
      (match x.2 with
        | [] => (x.1 ++ [0x7F], [])
        | l :: more => (x.1 ++ [l], more))
      else (x.1 ++ [e], x.2))
    ([], bad.filter (fun l => !kept.contains l))
  if r.2 = [] then some r.1 else none

/-- How a bundle pair can run with the lanes that are bad now (R307, R313): full width, half-width on a half, or not at all; with
the maps of its two directions. -/
inductive Width where
  | full (m0 m1 : List Nat)
  | half (upper : Bool) (m0 m1 : List Nat)
  | none
  deriving DecidableEq, Repr

/-- The lanes of one half of the data lanes among a list. -/
def halfLanes (upper : Bool) (l : List Nat) : List Nat := l.filter (fun x => decide (x < 64) && (decide (32 ≤ x) == upper))

/-- How bundle `p` runs with the bad lanes that its directions now record. -/
def State.bundleWidth (s : State) (p : Nat) : Width :=
  let a := s.dirOf p 0
  let b := s.dirOf p 1
  match repairMap (s.rget (repairReg p 0)) a.bad a.spareBad, repairMap (s.rget (repairReg p 1)) b.bad b.spareBad with
  | some m0, some m1 => .full m0 m1
  | _, _ =>
    let fit := fun (u : Bool) =>
      match repairMap 0x7F7F7F7F (halfLanes u a.bad) a.spareBad, repairMap 0x7F7F7F7F (halfLanes u b.bad) b.spareBad with
      | some m0, some m1 => some (m0, m1)
      | _, _ => Option.none
    let need := fun (u : Bool) => (halfLanes u a.bad).length + (halfLanes u b.bad).length
    if !s.level2 || a.bad.any (fun x => 64 ≤ x) || b.bad.any (fun x => 64 ≤ x) then .none
    else match fit false, fit true with
      | some m, some n => if need true < need false then .half true n.1 n.2 else .half false m.1 m.2
      | some m, Option.none => .half false m.1 m.2
      | Option.none, some n => .half true n.1 n.2
      | Option.none, Option.none => .none

/-- Inserts a lane into an ascending list. -/
def laneInsert (x : Nat) : List Nat → List Nat
  | [] => [x]
  | y :: l => if x < y then x :: y :: l else if x = y then y :: l else y :: laneInsert x l

/-- Counts a lane of a direction as bad: a spare becomes unusable (R307). -/
def DirUnit.laneBad (d : DirUnit) (lane : Nat) : DirUnit :=
  if lane < 66 then { d with bad := laneInsert lane d.bad } else { d with spareBad := laneInsert (lane - 66) d.spareBad }

/-- Writes the LANE_MAP records of a bundle's two directions (R393). -/
def State.logLanes (s : State) (p st clk cause : Nat) (ok : Bool) : State :=
  [0, 1].foldl (fun (s : State) dir => s.logRec
    ⟨0x06, cause, p + dir * 128 + st * 256 + clk * 2048, (s.rget (repairReg p dir)).toNat, 0, false⟩ ok) s

/-- Writes a bundle's repair maps. -/
def State.setRepair (s : State) (p : Nat) (m0 m1 : List Nat) : State :=
  (s.rset (repairReg p 0) (repairWord m0)).rset (repairReg p 1) (repairWord m1)

/-! ### Fencing a die -/

/-- The bundles of a fenced die: retired with a rail fault, else off unless they are retired already (R316, R361).
DEDUCED, log entry 39. -/
def State.dropBundles (s : State) (pos cause : Nat) : State :=
  (bundlesOf pos).foldl (fun (s : State) p =>
    if s.bundleState p = 5 then s
    else (s.setBundle p (if cause = 6 then 5 else 0)).bundleUpd p (fun b => { b with
      wait := false, dirs := b.dirs.map (fun d => (d.1, { d.2 with writes := [], asked := [] })) })) s

/-- Bonded DRAM of die `d` (from 0) filled (R208). -/
def State.fillBonded (s : State) (d : Nat) : State :=
  s.withMem (s.mem.fill (fun k => bondedAddr (4 * d) 0 ≤ k && k < bondedAddr (4 * d + 4) 0))

/-- What the fence of a die ends: the engines of a compute die (R361), the retrieval die's queries (R291), a link die's ports
(R338) and, with `d11`, the host link. -/
def State.dieEnds (s : State) (pos cause : Nat) : State :=
  if 1 ≤ pos ∧ pos ≤ 8 then
    let d := pos - 1
    let s1 := { s with doze := s.doze.put d 0 }
    let s2 := (span (12 * d) 12).foldl State.engineLost s1
    if cause = 6 then s2.fillBonded d else s2
  else if pos = 9 then s.rtvDieLost.fset .RTV_STAT F.RTV_STAT_STATE 2
  else
    let s1 := (span (8 * (pos - 10)) 8).foldl (fun (s : State) q => if s.portWealey q then s.portDown q 0 0 true else s) s
    if pos = 11 ∧ s.bget .HBR_STAT F.HBR_STAT_UP then (s1.rset .HBR_STAT 0).raise 341
    else if pos = 11 then s1.rset .HBR_STAT 0 else s1

/-- Fences the die at position `pos` (R308, R314, R361): the hub's is a device fault, a stack's is R168's. -/
def State.fenceDie (s : State) (pos cause : Nat) (ok : Bool) : State :=
  if pos = 0 then s.deviceFault 4
  else if 12 ≤ pos then s.fenceStack (pos - 12) cause ok
  else if s.dieFenced pos then s
  else
    let s1 := (s.markFenced pos cause).logRec ⟨0x09, cause, pos, 0, 0, false⟩ ok
    (((s1.dropBundles pos cause).dieEnds pos cause).degradeCheck).settle

/-- HEARTBEAT_CHECK (R107, R108): each site's heartbeat is checked; a fault of the die's routers fences the die. -/
def execHeartbeatCheck (d : Die) (x : Fin 65536 × Bool) (logOk : Bool) (s : State) : Res State :=
  if s.dieRuns d.val then .next (if x.2 then s.fenceDie (d.val + 1) 5 logOk else s.heartbeats d x.1.val logOk) else .next s

/-! ### Requests in command flits (R300) -/

/-- The data flits of a write (R299, R300): one for a part of a unit, else two. -/
def CmdHdr.dataFlits (h : CmdHdr) : Nat := if h.op = 5 then 1 else 2

/-- The first address of a write and its bytes within the unit of its data flits (R300): FIRST to LAST of a part.
DEDUCED, log entry 112: the low bits of ADDR within its unit do not count. -/
def CmdHdr.place (h : CmdHdr) : Nat × Nat × Nat :=
  if h.op = 3 ∨ h.op = 6 then (h.addr / 256 * 256, 0, 256)
  else if h.op = 4 then (h.addr / 128 * 128, 0, 128)
  else (h.addr / 128 * 128 + bits h.arg 0 7, bits h.arg 0 7, bits h.arg 8 7 + 1 - bits h.arg 0 7)

/-- Writes the block of an MWRITE to the slots of its mask on compute die `d` (R120, R121, R300): the state and STATUS. -/
def State.mwrite (s : State) (q : Requester) (d : Nat) (h : CmdHdr) (data : List Byte) (pois : List Bool) : State × Nat :=
  let x := s.mcastPrune (((List.range 12).filter (bitAt h.arg)).map (fun k => 12 * d + k))
  x.2.foldl (fun (r : State × Nat) e => match r.1.lay q (storeAddr e (h.place.1 % 2 ^ 25)) data pois with
    | .ok t _ => (t.settle, r.2)
    | .fault t code _ _ => (t.settle, if r.2 = 0 then (if code = 0x0A then 2 else 1) else r.2)
    | .wait _ => r) (x.1, 0)

/-- Performs a write whose data flits have all come on bundle `p` in direction `k` (R71, R300): through its route, to the slots of an MWRITE,
or as a request to memory; it is completed by a CPL.  A write through a route that has to wait stays. -/
def State.writeIn (s : State) (p k : Nat) (w : WriteIn) : State :=
  let h := w.hdr
  let q : Requester := .die (bundleNo p)
  let ws := (w.flits.take (if h.op = 3 ∨ h.op = 6 then 2 else 1)).flatMap (·.1)
  let o := h.place
  let data := ((ws.flatMap (fun x => toBytes 4 (x % 2 ^ 32))).drop o.2.1).take o.2.2
  let pois := ((ws.flatMap (fun x => List.replicate 4 (flitWord x).2.1)).drop o.2.1).take o.2.2
  let man := wordOf (((w.flits.map (·.2)).getD 0 0) + ((w.flits.map (·.2)).getD 1 0) * 65536)
  let gone (s : State) : State := s.dirUpd p k (fun d => { d with writes := d.writes.erase w })
  let done (s : State) (st : Nat) : State := (gone s).cplFlit p (1 - k) h st
  if data = [] then done s 1
  else if h.viaRoute then match s.storeRoute q h.ticket h.route o.1 data pois with
    | .ok t _ => done t.settle 0
    | .fault t code _ _ => done t.settle (if code = 0x0A then 2 else 1)
    | .wait _ => s
  else if h.op = 6 then
    (if k = 0 ∧ p < 64 then
      let r := s.mwrite q (p / 8) h data pois
      done r.1 r.2
    else done s 1)
  else
    let r : MemReq := { s.memReq q o.1 o.2.2 (Fin.ofNat 16 h.ticket) (Fin.ofNat 1024 h.held) data pois with
      mans := if h.op = 3 then [man] else [] }
    ((gone s.tick.tick.tick).dirUpd p k (fun d => { d with asked := d.asked ++ [(r, h)] })).request r true

/-- Performs the writes whose data flits have all come on bundle `p` in direction `k`, in their order. -/
def State.writesIn (s : State) (p k : Nat) : State :=
  ((s.dirOf p k).writes.filter (fun w => w.flits.length = w.hdr.dataFlits)).foldl (fun (s : State) w => s.writeIn p k w) s

/-- Takes a command header that has come on bundle `p` in direction `k` (R300): a read is requested, a write waits for its data flits.  A read
through a route completes with an error.  DEDUCED, log entry 112. -/
def State.headerIn (s : State) (p k : Nat) (h : CmdHdr) : State :=
  if h.op = 1 ∨ h.op = 2 then
    let n := 128 * h.op
    if h.viaRoute then s.cplFlit p (1 - k) h 1
    else
      let q := s.memReq (.die (bundleNo p)) (h.addr / n * n) n (Fin.ofNat 16 h.ticket) (Fin.ofNat 1024 h.held) [] []
      (s.tick.tick.tick.dirUpd p k (fun d => { d with asked := d.asked ++ [(q, h)] })).request q false
  else if 3 ≤ h.op ∧ h.op ≤ 6 then s.dirUpd p k (fun d => { d with writes := d.writes ++ [⟨h, []⟩] })
  else s

/-- Takes a data flit for the first write of its TAG that still waits for one (R300). -/
def State.dataIn (s : State) (p k tag : Nat) (ws : List Nat) (man : Nat) : State :=
  match (s.dirOf p k).writes.find? (fun w => decide (w.hdr.tag = tag ∧ w.flits.length < w.hdr.dataFlits)) with
  | none => s
  | some w =>
    (s.dirUpd p k (fun d => { d with writes := d.writes.map (fun x => if x = w then { w with flits := w.flits ++ [(ws, man)] } else x) })).writesIn
      p k

/-- Writes through routes that wait try again. -/
def State.writesRetry (s : State) : State :=
  (s.cwy.map (·.1)).foldl (fun (s : State) p => (s.writesIn p 0).writesIn p 1) s

/-! ### Retrains and retirement -/

/-- Brings the bundles of a die that are off back on the warm path, with their maps kept (R306, R369). -/
def State.restoreBundles (s : State) (pos : Nat) : State :=
  (bundlesOf pos).foldl (fun (s : State) p =>
    if s.bundleState p ≠ 0 then s
    else match s.bundleWidth p with
      | .full _ _ => s.setBundle p 2
      | .half _ _ _ => s.setBundle p 4
      | .none => s) s

/-- Starts the retrain of a bundle (R312), or lets it wait for its neighbour (R316). -/
def State.retrainBundle (s : State) (p : Nat) : State :=
  if s.bundleState (bundleMate p) = 3 then s.bundleUpd p (fun b => { b with wait := true })
  else (s.setBundle p 3).bundleUpd p (fun b => { b with wait := false })

/-- The neighbour's retrain, when it waits for bundle `p` (R316). -/
def State.mateGoes (s : State) (p : Nat) : State :=
  let q := bundleMate p
  if (s.cwy.at q).wait ∧ s.bundleLive q then s.retrainBundle q else s

/-- What was under way on a retired bundle (R314): a write that waits for data flits is replayed on the bundle that stands for it; a read
whose data has not arrived is reissued by its requester with a new tag, and is answered no more. -/
def State.moveBundle (s : State) (p : Nat) : State :=
  [0, 1].foldl (fun (s : State) k =>
    let d := s.dirOf p k
    let s1 := s.dirUpd p k (fun d => { d with writes := [], asked := d.asked.filter (fun x => 3 ≤ x.2.op) })
    s1.dirUpd (s.standIn p) k (fun x => { x with writes := x.writes ++ d.writes })) s

/-- Retires a bundle pair (R314): its registers keep their values; the retirement is logged; a die whose bundles are all retired
is fenced.  DEDUCED, log entry 39. -/
def State.retireBundle (s : State) (p clk cause : Nat) (ok : Bool) : State :=
  if s.bundleState p = 5 ∨ s.bundleState p = 0 then s
  else
    let s1 := (((s.setBundle p 5).bundleUpd p (fun b => { b with wait := false, failing := [] })).moveBundle p).cwyEvt p
      F.CWY_EVT_RETIRED 26
    let s2 := (s1.logLanes p 5 clk cause ok).mateGoes p
    if (bundlesOf (bundleDie p)).all (fun q => s2.bundleState q = 5) then s2.fenceDie (bundleDie p) 5 ok else s2

/-- The lane that carries lane `lane` of a bundle's direction: the spare that replaces it, or itself (R307). -/
def State.laneCarrier (s : State) (p dir lane : Nat) : Nat :=
  match (List.range 4).find? (fun j => spareOf (s.rget (repairReg p dir)) j = lane) with
  | some j => 66 + j
  | none => lane

/-- Whether a failing lane retires its bundle at level 1 (R311): the one that carries the valid lane or the chain lane. -/
def State.laneSevere (s : State) (p dir lane : Nat) : Bool :=
  s.laneCarrier p dir 64 = lane || s.laneCarrier p dir 65 = lane

/-- A lane becomes failing (R310, R311, R313): a retrain at level 2; at level 1 source 27, or retirement for a failed valid or
chain lane; a half-width bundle is retired; a bundle that retrains counts it for the same retrain (R316). -/
def State.laneFailing (s : State) (p dir lane : Nat) : State :=
  let s1 := s.bundleUpd p (fun b => { b with failing := laneInsert (dir * 128 + lane) b.failing })
  let ok := Config.logWriteOk s.free
  if s.bundleState p = 4 then (s1.retireBundle p 0 5 ok).tick
  else if s.bundleState p = 2 then
    if s.level2 then s1.retrainBundle p
    else if s.laneSevere p dir lane then (s1.retireBundle p 0 5 ok).tick
    else s1.cwyEvt p F.CWY_EVT_LANE_FAIL 27
  else s1

end Sys2Proof.Machine
end

