-- ==== Sys2Proof/Machine/PowerOps.lean ====
section
/-! DEFINITION. The operations of the power manager that several meanings share (file 13_clocks_power.md): throttle steps (R357,
R358), the states of dies (R369), the power ceiling (R365, R366). -/

namespace Sys2Proof.Machine

/-! ### Throttle steps (R357, R358) -/

/-- The fields of CLK_HALF_d for half `h` (2(d - 1), + 1 west): applied step, requests, ramp. -/
def appliedFld (h : Nat) : Fld := ⟨2 * (h % 2), 2⟩
@[inherit_doc appliedFld] def pmFld (h : Nat) : Fld := ⟨4 + 2 * (h % 2), 2⟩
@[inherit_doc appliedFld] def thmFld (h : Nat) : Fld := ⟨8 + 2 * (h % 2), 2⟩
@[inherit_doc appliedFld] def avsFld (h : Nat) : Fld := ⟨12 + 2 * (h % 2), 2⟩
@[inherit_doc appliedFld] def rampFld (h : Nat) : Fld := ⟨16 + h % 2, 1⟩

/-- A field of half `h` in its die's CLK_HALF_d. -/
def State.halfGet (s : State) (h : Nat) (f : Nat → Fld) : Nat := s.fget (.CLK_HALF (halfDie h)) (f h)

/-- The state with a field of half `h` set. -/
def State.halfSet (s : State) (h : Nat) (f : Nat → Fld) (v : Nat) : State := s.fset (.CLK_HALF (halfDie h)) (f h) v

/-- The step that the requesters of half `h` ask for: the slowest of the four (R357). -/
def State.halfWant (s : State) (h : Nat) : Nat :=
  max (max (s.halfGet h pmFld) (s.halfGet h thmFld)) (max (s.halfGet h avsFld) (s.fget (.CLK_MAX (halfDie h)) (appliedFld h)))

/-- What a half's requests set in motion (R358): a faster step starts a ramp of its voltage; a request for the old step or a slower
one ends the ramp.  A die in Doze only records them (R372). -/
def State.halfUpdate (s : State) (h : Nat) : State :=
  let want := s.halfWant h
  let now := s.halfGet h appliedFld
  if s.dozing (h / 2) then s
  else if want < now then s.halfSet h rampFld 1
  else s.halfSet h rampFld 0

/-- The state after a request of half `h` changes. -/
def State.halfRequest (s : State) (h : Nat) (f : Nat → Fld) (v : Nat) : State := (s.halfSet h f v).halfUpdate h

/-- Applies step `v` to half `h` (R127, R375).  DESIGN CHOICE, log entry 32. -/
def State.halfApply (s : State) (h v : Nat) : State :=
  if s.halfGet h appliedFld = v then s else ((s.halfSet h appliedFld v).cnt .CLK_CHG F.CLK_CHG_COUNT 1).halfUpdate h

/-! ### Events -/

/-- Sets an event bit of PWR_EVT and raises its source (R374). -/
def State.pwrEvt (s : State) (f : Fld) (src : Nat) : State := (s.bset .PWR_EVT f true).raise src

/-- The result of the last die command (R376). -/
def State.dieResult (s : State) (v : Nat) : State := s.fset .PWR_DIE_STAT F.PWR_DIE_STAT_RESULT v

/-! ### Doze (R369) -/

/-- A compute die (from 0) starts to enter Doze. -/
def State.dozeStart (s : State) (d : Nat) : State := { s with doze := s.doze.put d 1 }

/-- The end of Doze entry (R369): bundles off, bonded DRAM in self-refresh, every rail but VDRAM off; what the other rails fed is
lost. -/
def State.dozeIn (s : State) (d : Nat) : State :=
  let s1 := (bundlesOf (d + 1)).foldl (fun (s : State) p => if s.bundleState p = 5 then s else s.setBundle p 0) s
  { s1 with doze := s1.doze.put d 2 }

/-- The end of Doze exit (R369): bundles on the warm path, local stores and codebooks filled, the steps requested meanwhile
applied. -/
def State.dozeOut (s : State) (d : Nat) : State :=
  let s1 := (span (16 * d) 16).foldl State.fillSite (s.restoreBundles (d + 1))
  let s2 := { s1 with doze := s1.doze.put d 0 }
  ([2 * d, 2 * d + 1].foldl State.halfUpdate s2).settle

/-- A Doze exit that fails (R369): RESULT 4, the die fenced, a load that waits for it ended. -/
def State.dozeFail (s : State) (d : Nat) (ok : Bool) : State :=
  ((s.dieResult 4).fenceDie (d + 1) 6 ok).loadWoken d false

/-- Whether a bundle of the die at position `pos` retrains: a change of the die's power state waits for it (R316). -/
def State.dieRetrains (s : State) (pos : Nat) : Bool := (bundlesOf pos).any (fun p => s.bundleState p = 3)

/-- Whether a Doze transition is in progress. -/
def State.dozeBusy (s : State) : Bool := (List.range 8).any (fun d => s.doze.at d = 1 || s.doze.at d = 3)

/-! ### The power ceiling (R365, R366) and VIN12 (R373) -/

/-- One step slower for the power manager's request of a half; none when it is at 300 MHz. -/
def State.pmStep (s : State) (h : Nat) : State :=
  if s.halfWant h < 3 then s.halfRequest h pmFld (s.halfWant h + 1) else s

/-- The same for VIN12 (R373), with note of it. -/
def State.vinStep (s : State) (h : Nat) : State :=
  if s.halfWant h < 3 then
    (({ s with pwr := { s.pwr with vinHeld := s.pwr.vinHeld.upd h (· + 1) } } : State)).halfRequest h pmFld (s.halfWant h + 1)
  else s

/-- CAPPING set at the first step-down, with source 48. -/
def State.capping (s : State) : State :=
  if s.bget .PWR_STAT F.PWR_STAT_CAPPING then s
  else (s.bset .PWR_STAT F.PWR_STAT_CAPPING true).pwrEvt F.PWR_EVT_CAP 48

/-- The half with the highest measured power among those not at 300 MHz: the lower die, then east, on a tie (R365). -/
def State.hungriest (s : State) : Option Nat :=
  ((List.range 16).filter (fun h => s.halfWant h < 3)).foldl (fun (b : Option Nat) h => match b with
    | none => some h
    | some g => if (s.pwr.rails.at (halfRail g)).pow < (s.pwr.rails.at (halfRail h)).pow then some h else some g) none

/-- The slowest half that the power manager holds: the lower die, then east, on a tie (R365). -/
def State.slowestHeld (s : State) : Option Nat :=
  ((List.range 16).filter (fun h => 0 < s.halfGet h pmFld)).foldl (fun (b : Option Nat) h => match b with
    | none => some h
    | some g => if s.halfWant g < s.halfWant h then some h else some g) none

/-- Whether a half is held for VIN12. -/
def State.vinHolds (s : State) : Bool := (List.range 16).any (fun h => 0 < s.pwr.vinHeld.at h)

/-- The timer T of an interval with package power `p` (R365). -/
def State.timerTick (s : State) (p : Nat) : State :=
  let t := s.fget .PWR_STAT F.PWR_STAT_TIMER
  let e := s.fget .PWR_CEIL F.PWR_CEIL_EXC_INT
  s.fset .PWR_STAT F.PWR_STAT_TIMER (if s.fget .PWR_CAP F.PWR_CAP_CAP_W < p then min e (t + 1) else t - 1)

/-- Whether an interval with package power `p` steps a half down under R365: T stands at EXC_INT above the cap. -/
def State.capDue (s : State) (p : Nat) : Bool :=
  decide (s.fget .PWR_STAT F.PWR_STAT_TIMER = s.fget .PWR_CEIL F.PWR_CEIL_EXC_INT) && decide (s.fget .PWR_CAP F.PWR_CAP_CAP_W < p)

/-- The steps down of an interval (R365, R373): every half one step above PEAK_W or below 11.0 V; else one half when T stands at
EXC_INT above the cap. -/
def State.stepDown (s : State) (p mv : Nat) : State :=
  if s.fget .PWR_CAP F.PWR_CAP_PEAK_W < p then
    ((List.range 16).foldl State.pmStep (if (s.hungriest).isSome then s.capping else s))
  else if s.pwr.vinLow ∧ mv < 11000 then
    (List.range 16).foldl State.vinStep (if s.capDue p && (s.hungriest).isSome then s.capping else s)
  else if s.capDue p then
    match s.hungriest with
    | some h => s.capping.pmStep h
    | none => s
  else s

/-- The release (R365, R373): after 50 consecutive intervals at or below CAP_W - HYST_W, with VIN12 at 11.2 V or more while halves
are held for it, the slowest held half moves one step faster. -/
def State.ceilingRelease (s : State) (p mv : Nat) : State :=
  let good := decide (p + s.fget .PWR_CEIL F.PWR_CEIL_HYST_W ≤ s.fget .PWR_CAP F.PWR_CAP_CAP_W) && (!s.vinHolds || decide (11200 ≤ mv))
  if !good then { s with pwr := { s.pwr with release := 0 } }
  else if s.pwr.release + 1 < 50 then { s with pwr := { s.pwr with release := s.pwr.release + 1 } }
  else
    let s1 : State := { s with pwr := { s.pwr with release := 0 } }
    match s1.slowestHeld with
    | none => s1
    | some h =>
      ({ s1 with pwr := { s1.pwr with vinHeld := s1.pwr.vinHeld.upd h (· - 1) } } : State).halfRequest h pmFld (s1.halfGet h pmFld - 1)

/-- EXHAUSTED (R366), and CAPPING's end (R365). -/
def State.ceilingFlags (s : State) (p : Nat) : State :=
  let t := s.fget .PWR_STAT F.PWR_STAT_TIMER
  let held := (List.range 16).any (fun h => 0 < s.halfGet h pmFld)
  if (List.range 16).all (fun h => s.halfGet h appliedFld = 3) ∧ t = s.fget .PWR_CEIL F.PWR_CEIL_EXC_INT
      ∧ s.fget .PWR_CAP F.PWR_CAP_CAP_W < p then
    (if s.bget .PWR_STAT F.PWR_STAT_EXHAUSTED then s
    else ({ s with pwr := { s.pwr with peak := 0 } }.bset .PWR_STAT F.PWR_STAT_EXHAUSTED true).pwrEvt F.PWR_EVT_EXHAUSTED 49)
  else if t = 0 ∧ ¬held then
    (s.bset .PWR_STAT F.PWR_STAT_CAPPING false).bset .PWR_STAT F.PWR_STAT_EXHAUSTED false
  else s

/-- The stop after 500 further intervals above PEAK_W (R366): as a device fault with cause 5, and every compute die in Doze. -/
def State.exhaustedStop (s : State) : State :=
  (List.range 8).foldl (fun (s : State) d => if s.dieRuns d then s.dozeStart d else s) (s.deviceFault 5)

/-- The count of R366, and its end. -/
def State.peakTick (s : State) (p : Nat) : State :=
  if s.bget .PWR_STAT F.PWR_STAT_EXHAUSTED ∧ s.fget .PWR_CAP F.PWR_CAP_PEAK_W < p ∧ ¬s.pwr.refuse then
    (if s.pwr.peak + 1 = 500 then ({ s with pwr := { s.pwr with peak := 0 } } : State).exhaustedStop
    else { s with pwr := { s.pwr with peak := s.pwr.peak + 1 } })
  else { s with pwr := { s.pwr with peak := 0 } }

/-! ### The main side off -/

/-- Marks the reference or the PLL as lost (R354): the always-on domain on its RC oscillator, FAULT_N, the main side off. -/
def State.clockLost (s : State) (ref : Bool) : State :=
  let s1 := (s.captureOf 2 s.ldp.mirror).shutdown 2
  (((s1.bset .CLK_EVT F.CLK_EVT_REF_LOST true).bset .CLK_STAT F.CLK_STAT_AON_RC true).bset .CLK_STAT F.CLK_STAT_PLL_LOCK false).bset
    .CLK_STAT F.CLK_STAT_REF_OK ref

end Sys2Proof.Machine
end

