-- ==== Sys2Proof/Machine/BringUpOps.lean ====
section
/-! DEFINITION. The operations of bring-up (file 14_bringup_reset.md, R381 to R394; R102, R164, R198, R306, R307): what the defect
log says, the boot image, and how the units of a start come into service. -/

namespace Sys2Proof.Machine

/-! ### What the defect log says (R391 to R394) -/

/-- What the records of the log hold, in SEQ order: row mappings by die × 4 + row (dies from 0), fenced macros, patched words not
released (instance key and cell), retired pages, the lanes and maps of bundles, fenced stacks, dies and retrieval engines (with
causes), and whether a record was ignored. -/
structure LogView where
  maps : Tab (Option Nat)
  macros : List (Nat × Nat)
  patches : List (Nat × Nat)
  pages : List Nat
  /-- bundle, direction, CWY_STAT.STATE, CLK_FAIL, map -/
  lanes : List (Nat × Nat × Nat × Bool × Nat)
  stks : List (Nat × Nat)
  dies : List (Nat × Nat)
  res : List Nat
  damaged : Bool
  deriving DecidableEq, Repr, Inhabited

/-- The cell of a patched word by class, instance and the address that the record gives (R393). -/
def patchCell (cls inst a : Nat) : Nat :=
  if cls = 0 then localKey inst + a
  else if cls = 2 then codebookKey inst + a
  else if cls = 3 then scheduleKey inst + a
  else a

/-- Whether a ROW_MAP can be applied (R394): no two slots on one column, no slot on a SPARE column, no column in state 5 to 7.
DEDUCED, log entry 38. -/
def rowMapOk (b : Nat) : Bool :=
  let w := wordOf b
  let cols := (List.range 3).map (fun k => (slotFld k).get w)
  decide cols.Nodup && cols.all (fun c => mapState w c ≠ 1) && (List.range 4).all (fun c => mapState w c ≤ 4)

/-- The address in words B and C of a record. -/
def LogRec.addr (r : LogRec) : Nat := r.b + r.c * 2 ^ 32

/-- Adds a record to what the log says; one that is torn, or whose fields cannot be applied, only damages it (R394).
DEDUCED, log entries 38 and 86. -/
def LogView.add (v : LogView) (r : LogRec) : LogView :=
  let inst := r.a % 8 * 128 + r.a / 8 % 128
  let cell := patchCell (r.a % 8) (r.a / 8 % 128) r.addr
  if r.torn ∨ 7 < r.cause then { v with damaged := true }
  else match r.typ with
    | 0x01 =>
      let d := r.a % 16
      if 1 ≤ d ∧ d ≤ 8 ∧ rowMapOk r.b then { v with maps := v.maps.put ((d - 1) * 4 + r.a / 16 % 4) (some r.b) }
      else { v with damaged := true }
    | 0x02 => { v with macros := v.macros ++ [(r.a % 128, r.a / 256 % 128)] }
    | 0x03 => if v.patches.contains (inst, cell) then v else { v with patches := v.patches ++ [(inst, cell)] }
    | 0x04 => { v with patches := v.patches.filter (fun x => x ≠ (inst, cell)) }
    | 0x05 => if v.pages.contains (r.addr / 65536) then v else { v with pages := v.pages ++ [r.addr / 65536] }
    | 0x06 => { v with lanes := v.lanes ++ [(r.a % 128, r.a / 128 % 2, r.a / 256 % 8, bitAt r.a 11, r.b)] }
    | 0x07 => { v with stks := v.stks ++ [(r.a % 8, r.cause)] }
    | 0x08 => v
    | 0x09 => { v with dies := v.dies ++ [(r.a % 32, r.cause)] }
    | 0x0A => v
    | 0x0B => { v with res := v.res ++ [r.a % 16] }
    | _ => { v with damaged := true }

/-- What a record from before the last cold start still says (R391): a DIE_FENCE record with CAUSE 6 nothing, a LANE_MAP record with STATE
RETIRED and CLK_FAIL 0 only its map.  A unit whose tests failed in that start has a record of its own. -/
def LogRec.afterCold (r : LogRec) : Option LogRec :=
  if r.typ = 0x09 ∧ r.cause = 6 then none
  else if r.typ = 0x06 ∧ r.a / 256 % 8 = 5 ∧ bitAt r.a 11 = false then some { r with a := r.a - 3 * 256 }
  else some r

/-- What the log says to a start, or on the warm path; nothing when the boot flash does not answer.  DEDUCED, log entry 38. -/
def State.logView (s : State) (flash warm : Bool) : LogView :=
  if flash then
    ((if warm then (s.log.recs.take s.bup.coldSeq).filterMap LogRec.afterCold else s.log.recs.take s.bup.coldSeq) ++
      s.log.recs.drop s.bup.coldSeq).foldl LogView.add default
  else default

/-! ### The boot image (R149, R382) -/

/-- A boot image as verified: header, licence body if it carries one, and what its records hold. -/
structure Boot where
  hdr : Hdr
  img : Img
  bytes : List Byte
  deriving DecidableEq, Repr, Inhabited

/-- Verifies a boot image under R149: the state with a failure recorded (`obj` as SEC_VFY.KIND), and the image or its refusal code:
0x0F malformed, 0x09 key, signature or digest. -/
def State.bootVerify (s : State) (obj : Nat) (l : List Byte) : State × Except Nat Boot :=
  match parseHeader l with
  | none => (s, .error 0x0F)
  | some h =>
    if h.kind ≠ 1 ∨ 0x100000 < h.total ∨ l.length < h.total then (s, .error 0x0F)
    else
      let v := s.imageCheck h l
      if v ≠ 0 then (s.vfyFail obj v, .error 0x09)
      else match readImage 0 true false [] [] (sub l 3184 (h.total - 3184)) with
        | .error _ => (s, .error 0x0F)
        | .ok img => if img.spans.length = 1 then (s, .ok ⟨h, img, l.take h.total⟩) else (s, .error 0x0F)

/-- The boot image that the boot ROM reads (R382): the boot flash's, or none where BOOT_SRC waits for a push or the flash does not
answer. -/
def State.bootRead (s : State) (flash : Bool) : Option (List Byte) :=
  if s.bup.bootSrc = 1 ∨ (s.bup.bootSrc = 2 ∧ s.bridgeEn) ∨ ¬flash then none else some s.bup.slot

/-- Sets the defaults that DEVSET gives (R138, R382): AUTO_SUBST on a cold start alone, the placement loop, EXPERT. -/
def State.devset (s : State) (v : Nat) (cold : Bool) : State :=
  let s1 := if cold then
      (List.range 8).foldl (fun (s : State) d => s.fset (.CDI_CTL (Fin.ofNat 8 d)) F.CDI_CTL_AUTO_SUBST (v % 2)) s
    else s
  (s1.fset .SBF_PL_CTL F.SBF_PL_CTL_MODE (bits v 1 2)).fset .CFG_CTL F.CFG_CTL_EXPERT (bits v 3 1)

/-- Puts the boot licence `l` in force (R459, R460): Muslin without one. -/
def State.bootLicence (s : State) (l : Option (List Byte)) : State :=
  (({ s with sec := { s.sec with bootLic := l } }.fset .SEC_LIC F.SEC_LIC_BOOT_TIER ((l.map licTier).getD 0))).licBoot

/-- Applies a verified boot image (R149, R382, R459): a licence that fails leaves Muslin. -/
def State.bootApply (s : State) (b : Boot) (cold : Bool) : State :=
  let c := (b.img.lic.map (fun x => s.licCheck x.2)).getD 0
  let s1 := if c = 0 then s.bootLicence (b.img.lic.map (fun x => x.2.take 64)) else (s.vfyFail 4 c).bootLicence none
  let s2 := s1.devset ((b.img.spans.head?.map (·.devset)).getD 0) cold
  let s3 : State := { s2 with
    load := { s2.load with bootTickets := b.img.tickets }
    sec := { s2.sec with bootDigest := b.hdr.digest }
    bup := { s2.bup with boot := b.bytes } }
  ((s3.putTickets b.img.tickets).rset .BUP_BOOT_ID (wordOf b.hdr.id)).fset .SEC_KEYS F.SEC_KEYS_BOOT_SLOT b.hdr.slot

/-- The defaults of recovery (R382): Muslin, AUTO_SUBST 1, placement loop automatic, EXPERT 0, every ticket best effort. -/
def State.recoveryDefaults (s : State) : State := ((s.bootLicence none).devset 5 true).putTickets none

/-! ### Stages, levels and events -/

/-- The state with bring-up at a stage. -/
def State.stage (s : State) (n : Nat) : State := s.fset .BUP_STAT F.BUP_STAT_STAGE n
/-- BUP_STAT.STAGE. -/
def State.stageNow (s : State) : Nat := s.fget .BUP_STAT F.BUP_STAT_STAGE

/-- The always-on counts of the events `ks` that a start has passed (BUP_TS).  DESIGN CHOICE, log entry 44. -/
def State.stamps (s : State) (l : List (Fin 8 × Word)) (ks : List Nat) : State :=
  l.foldl (fun (s : State) x => if ks.contains x.1.val then s.rset (.BUP_TS x.1) x.2 else s) s

/-- The package feature level as GLB reports it (R309, R387). -/
def State.feature (s : State) (lvl : Nat) (final : Bool) : State :=
  let s1 := s.fset .GLB_FEATURE F.GLB_FEATURE_LEVEL lvl
  ((s1.bset .GLB_FEATURE F.GLB_FEATURE_NO_HALF (lvl < 2)).bset .GLB_FEATURE F.GLB_FEATURE_NO_RETRAIN (lvl < 2)).bset
    .GLB_FEATURE F.GLB_FEATURE_FINAL final

/-- The lowest feature level of the hub and of the dies and stacks that are not fenced (R309). -/
def State.lowestFeature (s : State) : Nat :=
  ((span 1 19).filter (fun p => !s.dieFenced p)).foldl (fun m p => min m (s.bup.dies.at p).feature) 2

/-! ### Dies, stacks and bundles -/

/-- What a start finds of position `pos`: a die that it does not list passes, with its fused stepping, feature level 2 and serial 0.
DESIGN CHOICE, log entry 36. -/
def State.dieFound (s : State) (f : Found) (pos : Nat) : Nat × Nat × Nat × Option Nat :=
  match f.dies.find? (fun x => x.pos.val = pos) with
  | some x => (x.stepping.val, x.feature.val, x.serial, x.fail.map (·.val))
  | none => (s.fuses.stepping.at pos, 2, 0, none)

/-- Fences position `pos` in a start (R388, R391): the record, and source 10. -/
def State.startFence (s : State) (pos cause : Nat) (ok : Bool) : State :=
  if s.dieFenced pos then s
  else if 12 ≤ pos then (s.fenceStack (pos - 12) cause ok).raise 10
  else
    let s1 := ((s.markFenced pos cause).logRec ⟨0x09, cause, pos, 0, 0, false⟩ ok).dropBundles pos cause
    (if cause = 6 then { s1 with bup := { s1.bup with railFlt := true } } else s1).raise 10

/-- The lanes of a bundle's direction that the fuses and the log record as bad, and its unusable spares (R307). -/
def State.knownBad (s : State) (v : LogView) (p dir : Nat) : DirUnit :=
  let fused := (s.fuses.lanes.filter (fun x => x / 128 = p * 2 + dir)).map (· % 128)
  let logged := (v.lanes.filter (fun x => x.1 = p ∧ x.2.1 = dir)).flatMap (fun x =>
    (List.range 4).filterMap (fun k =>
      let l := spareOf (wordOf x.2.2.2.2) k
      if l < 66 then some l else if l = 0x7E then some (66 + k) else none))
  (fused ++ logged).foldl DirUnit.laneBad default

/-- The map that the log records last for a bundle's direction; none assigned where it records none. -/
def LogView.map (v : LogView) (p dir : Nat) : Word :=
  ((v.lanes.filter (fun x => x.1 = p ∧ x.2.1 = dir)).getLast?.map (fun x => wordOf x.2.2.2.2)).getD 0x7F7F7F7F

/-- The state in which the log records bundle `p` last: 2 where it records none. -/
def LogView.bundle (v : LogView) (p : Nat) : Nat :=
  ((v.lanes.filter (fun x => x.1 = p)).getLast?.map (fun x => x.2.2.1)).getD 2

/-- Trains bundle `p` (R306, R307, R389, R391): its lanes from the fuses, the log and, unless the path is warm, this start's test.  A
new map, or a retirement, is logged.  DEDUCED, log entries 39 and 86. -/
def State.bundleStart (s : State) (v : LogView) (f : Found) (warm : Bool) (p : Nat) : State :=
  if s.bundleState p ≠ 0 then s
  else
    let t := f.lanes.find? (fun x => x.p.val = p)
    let known := [0, 1].foldl (fun (s : State) dir => (s.dirUpd p dir (fun _ => s.knownBad v p dir)).rset (repairReg p dir)
      (v.map p dir)) s
    let maps : State → Option (List Nat × List Nat) := fun s => match s.bundleWidth p with
      | .full m0 m1 => some (m0, m1)
      | _ => none
    let base := match maps known with
      | some m => known.setRepair p m.1 m.2
      | none => known
    let retired (s : State) (clk : Nat) : State :=
      (((s.setBundle p 5).cwyEvt p F.CWY_EVT_RETIRED 26).logLanes p 5 clk 3 f.logOk).raise 10
    if v.lanes.any (fun x => x.1 = p && x.2.2.2.1) then
      (base.setBundle p 5).bundleUpd p (fun b => { b with clkFail := true })
    else if warm then (if v.bundle p = 5 ∨ (maps known).isNone then base.setBundle p 5 else base.setBundle p 2)
    else match t with
      | none => match maps base with
        | some m => (base.setRepair p m.1 m.2).setBundle p 2
        | none => if v.bundle p = 5 then base.setBundle p 5 else retired base 0
      | some t =>
        if t.clk then retired (base.bundleUpd p (fun b => { b with clkFail := true })) 1
        else
          let s1 := t.bad1.foldl (fun (s : State) l => s.dirUpd p 1 (fun d => d.laneBad l.val))
            (t.bad0.foldl (fun (s : State) l => s.dirUpd p 0 (fun d => d.laneBad l.val)) base)
          match maps s1 with
          | some m =>
            let s2 := (s1.setRepair p m.1 m.2).setBundle p 2
            if s2.rget (repairReg p 0) = base.rget (repairReg p 0) ∧ s2.rget (repairReg p 1) = base.rget (repairReg p 1) then s2
            else s2.logLanes p 2 0 3 f.logOk
          | none => if v.bundle p = 5 then s1.setBundle p 5 else retired s1 0

/-- Brings up the die at position `pos` (R306 to R309, R388): tests and discovery, then its bundles; one that fails is fenced.  The warm
path runs no BIST and no lane test, so that only discovery and a rail fault can fail there. -/
def State.dieStart (s : State) (v : LogView) (f : Found) (warm : Bool) (pos : Nat) : State :=
  if s.dieFenced pos then s
  else
    let x := s.dieFound f pos
    let fail := match x.2.2.2 with
      | some c => if warm ∧ 1 ≤ c ∧ c ≤ 3 then none else some c
      | none => if x.2.1 < 1 then some 4 else none
    let s1 : State := { s with bup := { s.bup with dies := s.bup.dies.put pos ⟨0, x.1, x.2.1, x.2.2.1⟩ } }
    match fail with
    | some c => s1.startFence pos c f.logOk
    | none =>
      let s2 := (bundlesOf pos).foldl (fun (s : State) p => s.bundleStart v f warm p) s1
      if bundlesOf pos ≠ [] ∧ (bundlesOf pos).all (fun p => s2.bundleState p = 5) then s2.startFence pos 3 f.logOk else s2

/-! ### Failing words, macros and rows (R388) -/

/-- The fences of the log (R391): a die fenced with a rail fault, on the warm path alone.  DEDUCED, log entries 41 and 86. -/
def State.applyFences (s : State) (v : LogView) (warm : Bool) : State :=
  let dies := v.dies.filter (fun x => decide (1 ≤ x.1 ∧ x.1 ≤ 11) && (warm || decide (x.2 ≠ 6)))
  let s1 := dies.foldl (fun (s : State) x =>
    if s.dieFenced x.1 then s else (s.markFenced x.1 x.2).dropBundles x.1 x.2) s
  v.stks.foldl (fun (s : State) x =>
    if s.stackFenced x.1 then s
    else (s.fset (.STK_STAT (Fin.ofNat 8 x.1)) F.STK_STAT_STATE 4).markFenced (12 + x.1) x.2) s1

/-- Preloads the patch tables (R198): the first eight words of an instance, with zero data; a further one is handled as one that finds the
table full (R199): it counts in OVERFLOW, sets FULL and raises source 417. -/
def MemUnit.preload (m : MemUnit) (x : Nat × Nat) : MemUnit :=
  match patchFree (m.insts.at x.1).patch with
  | some e => m.inst x.1 (fun i => { i with patch := i.patch.put e (some ⟨x.2, 0, false⟩) })
  | none => ({ m with fullEvt := (x.1 / 128, x.1 % 128) }.inst x.1 (fun i =>
      { i with overflow := satAdd 16 i.overflow 1, full := true })).evt 417

/-- The cell and instance of a failing word by its address, and its class's key: shared buffer, stack or bonded row. -/
def wordInst (a : Nat) : Option Nat := match rangeOf a with
  | .sbf o => some (128 + o / 256 % 32)
  | .placed n _ => some (5 * 128 + n)
  | .bonded row _ => some (4 * 128 + row)
  | _ => none

/-- A word that fails its start-up test (R388): patched, up to eight in its instance; else its page retired; the last part is false
when both tables are full. -/
def State.failWord (s : State) (a : Nat) (ok : Bool) : State × Bool :=
  match wordInst a with
  | none => (s, true)
  | some ik =>
    let i := s.mem.insts.at ik
    let k := a / 4 * 4
    if (patchOf i.patch k).isSome ∨ s.mem.retired.contains (a / 65536) then (s, true)
    else match patchFree i.patch with
      | some e =>
        ((s.withMem (s.mem.inst ik (fun i => { i with patch := i.patch.put e (some ⟨k, 0, false⟩) }))).logRec
          ⟨0x03, 1, ik / 128 + ik % 128 * 8, k % 2 ^ 32, k / 2 ^ 32, false⟩ ok, true)
      | none =>
        if ik < 512 ∨ 256 ≤ s.mem.retired.length then (s, false)
        else
          let p := a / 65536
          let m := s.mem.freePatches ik (fun x => x / 65536 = p)
          (((s.withMem { m with retired := m.retired ++ [p] }).fset .MEM_RETIRE_STAT F.MEM_RETIRE_STAT_COUNT
            (s.mem.retired.length + 1)).logRec ⟨0x05, 1, 0, p * 65536 % 2 ^ 32, p * 65536 / 2 ^ 32, false⟩ ok, true)

/-- The failing words of an instance, one after the other: false when they exceed both tables. -/
def State.failWords (s : State) (f : Found) (ik : Nat) : State × Bool :=
  (f.words.filter (fun a => wordInst a = some ik)).foldl (fun (x : State × Bool) a =>
    let r := x.1.failWord a f.logOk
    (r.1, x.2 && r.2)) (s, true)

/-- Brings up stack `n` (R308, R388): test and discovery, failing words; one that fails, or whose words exceed both tables, is
fenced. -/
def State.stackStart (s : State) (f : Found) (warm : Bool) (n : Nat) : State :=
  if s.stackFenced n then s
  else
    let x := s.dieFound f (12 + n)
    let fail := match x.2.2.2 with
      | some c => if warm ∧ c = 1 then none else some c
      | none => if x.2.1 < 1 then some 4 else none
    let s1 := ({ s with bup := { s.bup with dies := s.bup.dies.put (12 + n) ⟨0, x.1, x.2.1, x.2.2.1⟩ } }).fset
      (.STK_STAT (Fin.ofNat 8 n)) F.STK_STAT_STATE 2
    match fail with
    | some c => s1.startFence (12 + n) c f.logOk
    | none =>
      if warm then s1
      else
        let r := s1.failWords f (5 * 128 + n)
        if r.2 then r.1 else r.1.startFence (12 + n) 1 f.logOk

/-- The mode of the interleaved view by the stacks that are fenced (R164), shown by every stack's STK_STAT. -/
def State.setIlMode (s : State) : State :=
  let low := (List.range 4).any s.stackFenced
  let high := (span 4 4).any s.stackFenced
  (List.range 8).foldl (fun (s : State) n =>
    let r : Reg := .STK_STAT (Fin.ofNat 8 n)
    ((s.bset r F.STK_STAT_IL_REDUCED (low != high)).fset r F.STK_STAT_IL_GROUP (b2n (low && !high))).bset r
      F.STK_STAT_IL_OFF (low && high)) s

/-! ### The row mappings (R102, R103) -/

/-- Moves slot `k` of a mapping to the row's spare (R102 step 3), when its site is BAD or ABSENT_FAILED and there is one: the old site
becomes RETIRED, or stays BAD. -/
def moveSlot (w : Word) (k : Nat) : Word :=
  let c := (slotFld k).get w
  let st := mapState w c
  match mapSpare w with
  | some p => if st = 2 ∨ st = 4 then mapPut (mapPut ((slotFld k).put w p) p 0) c (if st = 2 then 3 else 4) else w
  | none => w

/-- Builds the mapping of row `r` of die `d` (R102): `bad` are the sites that this start's tests report bad, with the cause.
DEDUCED, log entry 40. -/
def State.buildRow (s : State) (v : LogView) (bad : List (Nat × Nat)) (d r : Nat) (ok : Bool) : State :=
  let base := mapFix (wordOf ((v.maps.at (d * 4 + r)).getD 0x20064))
  let site := fun (c : Nat) => d * 16 + r * 4 + c
  let hit := fun (c : Nat) => if s.fuses.badSites.contains (site c) then none else (bad.find? (fun x => x.1 = site c)).map (·.2)
  let marked := (List.range 4).foldl (fun (w : Word) c =>
    if s.fuses.badSites.contains (site c) || (hit c).isSome then mapPut w c 4 else w) base
  let moved := if s.bget (.CDI_CTL (Fin.ofNat 8 d)) F.CDI_CTL_AUTO_SUBST then (List.range 3).foldl moveSlot marked else marked
  let failed := ((List.range 4).filter (fun c => mapState base c ≠ 4)).filterMap hit
  let left := (List.range 3).any (fun k =>
    decide (mapState base ((slotFld k).get base) = 2) && decide ((slotFld k).get moved ≠ (slotFld k).get base))
  let cause := match failed.head? with
    | some c => some c
    | none => if left then some 5 else none
  let s0 := failed.foldl (fun (s : State) _ => s.raise 10) s
  match cause with
  | none => s0.setMap d r moved
  | some c =>
    let s1 := s0.logMap d r moved c ok
    s1.setMap d r (if s.logRoom ok then moved else marked)

/-- Fences macro `mac` of a site at a start (R200): its preloaded patch entries are free again, and source 425 is raised. -/
def State.macroFenced (s : State) (site mac : Nat) : State :=
  let base := localKey site + mac * 262144
  ((s.siteUpd site (fun u => { u with fenced := if u.fenced.contains mac then u.fenced else mac :: u.fenced })).withMem
    (s.mem.freePatches site (fun k => decide (base ≤ k ∧ k < base + 262144)))).raise 425

/-- The fenced macros of a site from the fuses and the log, those that failed this start's test, and those whose fence was pending
(R200, R388): the last part is whether more than eight failed, which makes the site BAD.  DEDUCED, log entry 40. -/
def State.macroStart (s : State) (v : LogView) (f : Found) (warm : Bool) (site : Nat) : State × Bool :=
  let known := ((s.fuses.badMacros.filter (fun x => x / 128 = site)).map (· % 128)) ++
    ((v.macros.filter (fun x => x.1 = site)).map (·.2))
  let pend := (s.sites.at site).fencePend
  let s1 := known.eraseDups.foldl (fun (s : State) m => s.macroFenced site m)
    (s.siteUpd site (fun u => { u with fenced := [], fencePend := [] }))
  let s2 := pend.foldl (fun (s : State) m => s.macroApply site m 0 f.logOk) s1
  let fails := if warm then [] else ((f.macros.filter (fun x => x.1.val = site)).map (·.2.val)).eraseDups
  if 8 < fails.length then (s2, true)
  else
    (fails.foldl (fun (s : State) m =>
      if (s.sites.at site).fenced.contains m then s
      else ((s.macroFenced site m).logRec ⟨0x02, 1, site + m * 256, 0, 0, false⟩ f.logOk).raise 10) s2, false)

/-- Brings up the sites and rows of compute die `d` (R102, R388, R391).  DEDUCED, log entries 40 and 41. -/
def State.sitesStart (s : State) (v : LogView) (f : Found) (warm : Bool) (d : Nat) : State :=
  let rows := (List.range 4).foldl (fun (x : State × List Nat) r =>
    let row := 4 * d + r
    if warm then x
    else
      let w := x.1.failWords f (4 * 128 + row)
      if w.2 && !(f.rows.any (fun q => q.val = row)) then (w.1, x.2) else (w.1, x.2 ++ [row])) (s, [])
  let s1 : State := { rows.1 with deadRows := rows.1.deadRows ++ rows.2 }
  let macs := (span (16 * d) 16).foldl (fun (x : State × List (Nat × Nat)) k =>
    let r := x.1.macroStart v f warm k
    (r.1, if r.2 then x.2 ++ [(k, 1)] else x.2)) (s1, [])
  let dead := rows.2.flatMap (fun row => (span (4 * row) 4).map (fun k => (k, 1)))
  let tested := if warm then [] else f.sites.map (fun x => (x.1.val, x.2.val))
  (List.range 4).foldl (fun (s : State) r => s.buildRow v (tested ++ macs.2 ++ dead) d r f.logOk) macs.1

end Sys2Proof.Machine
end

