-- ==== Sys2Proof/Machine/BringUp.lean ====
section
/-! DEFINITION. The meanings of the resets, of the starts that follow them and of a pushed boot image (file 14_bringup_reset.md). -/

namespace Sys2Proof.Machine

/-! ### The starts -/

/-- BUP_CAUSE of a start (R398), and what the start forgets of the one before. -/
def State.startCause (s : State) (down path : Nat) : State :=
  let s1 := (s.rset .BUP_CAUSE (wordOf (s.bup.kind + s.bup.src * 16 + s.bup.shutdown * 256 + down * 4096))).fset .BUP_STAT
    F.BUP_STAT_PATH path
  { s1 with bup := { s1.bup with complete := false, railFlt := false, shutdown := 0 }
            pwr := { s1.pwr with off := false } }

/-- The clocks of a start (R353, R354, R356). -/
def State.startClocks (s : State) (ref pll : Bool) : State :=
  ((s.bset .CLK_STAT F.CLK_STAT_REF_OK ref).bset .CLK_STAT F.CLK_STAT_AON_RC (!ref)).bset .CLK_STAT F.CLK_STAT_PLL_LOCK pll

/-- What the fuses and the log tell the hub before its units start (R198, R201, R391): patch tables, retired pages, whose patch entries
are free, fences. -/
def State.fromLog (s : State) (v : LogView) (warm : Bool) : State :=
  let pages := v.pages.take 256
  let m := v.patches.foldl MemUnit.preload s.mem
  let m1 := (span 512 256).foldl (fun (m : MemUnit) ik => m.freePatches ik (fun k => pages.contains (k / 65536))) m
  let s1 := (s.withMem { m1 with retired := pages }).settle
  let res := (s.fuses.badRes ++ v.res).foldl (fun m e => m ||| 2 ^ e) 0
  (((s1.fset .MEM_RETIRE_STAT F.MEM_RETIRE_STAT_COUNT (v.pages.take 256).length).fset .RTV_STAT F.RTV_STAT_RE_FENCED
    res).bset .BUP_STAT F.BUP_STAT_LOG_DAMAGED v.damaged).applyFences v warm

/-- The retrieval die and its engines (R1, R291, R388, R460): withheld under Muslin.  DEDUCED, log entry 41. -/
def State.retrievalStart (s : State) (v : LogView) (f : Found) (warm : Bool) : State :=
  if s.bootTier = 0 then (if s.dieFenced 9 then s else s.markFenced 9 0).fset .RTV_STAT F.RTV_STAT_STATE 3
  else
    let s1 := s.dieStart v f warm 9
    if s1.dieFenced 9 then s1.fset .RTV_STAT F.RTV_STAT_STATE 2
    else (if warm then [] else f.res).foldl (fun (s : State) e =>
      if bitAt (s.fget .RTV_STAT F.RTV_STAT_RE_FENCED) e.val then s
      else ((s.fset .RTV_STAT F.RTV_STAT_RE_FENCED (s.fget .RTV_STAT F.RTV_STAT_RE_FENCED + 2 ^ e.val)).logRec
        ⟨0x0B, 1, e.val, 0, 0, false⟩ f.logOk).raise 10) (s1.fset .RTV_STAT F.RTV_STAT_STATE 1)

/-- A link die, and its Wealey ports in their roles (R320, R330). -/
def State.linkStart (s : State) (v : LogView) (f : Found) (warm : Bool) (pos : Nat) : State :=
  let s1 := s.dieStart v f warm pos
  if s1.dieFenced pos then s1
  else (span (8 * (pos - 10)) 8).foldl (fun (s : State) q => s.setPort q (s.portRole s.bootTier q) 0) s1

/-- Whether a cell lies in the keep area (R163, R164). -/
def State.keepCell (s : State) (k : Nat) : Bool :=
  decide (stackKey 0 ≤ k ∧ k < stackKey 8) && placedKeep s.ilMode ((k - stackKey 0) / 0x2000000000) ((k - stackKey 0) % 0x2000000000)

/-- Whether a read of the keep area finds an uncorrectable or poisoned word (R390, condition 5).  DEDUCED, log entry 42. -/
def State.keepBad (s : State) : Bool :=
  s.mem.syn.any (fun e => s.keepCell e.1 && match wordSyndrome e.2 with
    | .bad => true
    | .poison => true
    | _ => false)

/-- The verification of kept memory (R390): `held` is whether its conditions 1 to 3 hold.  When it passes, the patch entries come back;
else stack memory and bonded DRAM are filled.  DEDUCED, log entry 42. -/
def State.keptVerify (s : State) (held : Bool) : State :=
  if s.bup.keepTag && held && decide (s.keep.ilMode = s.ilMode.code) && !s.keepBad then
    let m0 := { s.mem with insts := s.mem.insts.map (fun i => (i.1, if i.1 / 128 = 4 ∨ i.1 / 128 = 5 then { i.2 with patch := [] } else i.2)) }
    let m := s.keep.patches.foldl (fun (m : MemUnit) x => m.inst x.1 (fun i => { i with patch := i.patch.put x.2.1 (some x.2.2) })) m0
    ({ s with keep := { s.keep with valid := true } }.withMem m).bset .BUP_STAT F.BUP_STAT_KEPT true
  else
    ({ s with keep := default }.withMem (s.mem.fill dramCell)).bset .BUP_STAT F.BUP_STAT_KEPT false

/-- The PCIe endpoint is released with `d11` (R341, R348, R385), unless PERST_N is low. -/
def State.endpoint (s : State) : State :=
  s.bset .HBR_STAT F.HBR_STAT_READY (s.bridgeEn && !s.perst && !s.dieFenced 11)

/-- Steps 5 to 8 of R385, or 3 and 4 of R389: stacks, link dies, retrieval die, service level 0. -/
def State.startRest (s : State) (f : Found) (warm held : Bool) : State :=
  let v := s.logView f.flash warm
  let s1 := ((List.range 8).foldl (fun (s : State) n => s.stackStart f warm n) s).setIlMode
  let s2 := (([10, 11].foldl (fun (s : State) pos => s.linkStart v f warm pos) s1).endpoint).retrievalStart v f warm
  let s3 := if warm then s2.keptVerify held else s2
  let s4 := s3.stamps f.times (if s.bridgeEn then [0, 1, 7] else [0, 1])
  let s5 := if (⟨16, 1⟩ : Fld).get ((s4.ldp.crash[0]?).getD 0) = 1 then s4.ldpEvt 3 else s4
  (s5.stage 6).fset .BUP_STAT F.BUP_STAT_LEVEL 0

/-- Recovery (R1, R382): its defaults, `d11`, with its ports in their roles, for the host's push, SMB_ALERT_N.  DEDUCED, log
entries 37 and 94. -/
def State.recovery (s : State) (f : Found) (warm : Bool) : State :=
  let s1 := (s.recoveryDefaults.stage 4).alertBit F.LDP_ALERT_RECOVERY
  if s.bridgeEn then ((s1.linkStart (s.logView f.flash warm) f warm 11).endpoint).stamps f.times [0, 7] else s1.stamps f.times [0]

/-- A start from the end of step 2 of R385, or step 1 of R389, on (R382): the hub, the boot image, then the rest or recovery.
DEDUCED, log entry 37. -/
def State.startRun (s : State) (f : Found) (warm held : Bool) (down path : Nat) : State :=
  let v := s.logView f.flash warm
  let s0 : State := if warm then s else { s with bup := { s.bup with coldSeq := s.log.recs.length } }
  let s1 := (((s0.startClocks true true).startCause down path).fromLog v warm).bset .BUP_STAT F.BUP_STAT_LOG_FULL
    (f.flash && decide (131072 ≤ s.log.recs.length))
  let hub := if warm then (s1, true)
    else (span 128 32).foldl (fun (x : State × Bool) ik => let r := x.1.failWords f ik; (r.1, x.2 && r.2)) (s1, f.hubOk)
  if !hub.2 then (hub.1.deviceFault 4).stage 11
  else
    let s2 : State := { hub.1.feature 1 false with faultN := false }
    match s2.bootRead f.flash with
    | none => s2.recovery f warm
    | some l => match s2.bootVerify 2 l with
      | (s3, .error _) => s3.recovery f warm
      | (s3, .ok b) => (s3.bootApply b (!warm)).startRest f warm held

/-- Whether a start may begin: the sequencer is off or waits for REFCLK or temperature, and AON_RST_N is high. -/
def State.mayStart (s : State) : Bool := decide (s.stageNow ≤ 1) && !s.bup.aonLow

/-- The straps as a start after a cold reset samples them (R378). -/
def State.sampleStraps (s : State) (x : Option (Fin 4 × Fin 8 × Bool)) : State :=
  match x with
  | none => s
  | some (b, a, e) => { s with bridgeEn := e, bup := { s.bup with bootSrc := b.val, smbAddr := a.val } }

/-- COLD_START (R382, R385, R396): SYS_RST_N rises after a reset that is not warm; the start waits in STAGE 1 while REFCLK is absent or a
diode reads 105 °C or more. -/
def execColdStart (f : Found) (s : State) : Res State :=
  if !s.mayStart || s.pwr.off || s.bup.warm then .next s
  else if !(f.ref && f.cool) then .next ((s.startClocks f.ref false).stage 1)
  else .next ((s.sampleStraps f.straps).startRun f false false 0 0)

/-- The DOWNGRADE code of a warm request that runs as a cold start (R379), 0 for none.  DEDUCED, log entry 42. -/
def State.downgrade (s : State) (damaged : Bool) : Nat :=
  if !s.bup.complete then 1
  else if s.bget .CLK_EVT F.CLK_EVT_REF_LOST then 2
  else if s.bup.railFlt then 3
  else if damaged then 4
  else if s.pwr.off then 5
  else 0

/-- WARM_START (R379, R389, R390): the warm fast path, or the cold start that R379 makes of it, with memory filled. -/
def execWarmStart (f : Found) (kept : Bool) (s : State) : Res State :=
  if !s.mayStart || !s.bup.warm then .next s
  else
    let down := s.downgrade (s.logView f.flash true).damaged
    if !(f.ref && (f.cool || down = 0)) then .next ((s.startClocks f.ref false).stage 1)
    else if down = 0 then .next (s.startRun f true kept 0 1)
    else .next (({ s with mem := default, keep := default, deadRows := [] } : State).startRun f false false down 2)

/-! ### The waves -/

/-- The end of the fourth wave (R309, R387): the final feature level; bundles with a failing lane retrain at level 2. -/
def State.startEnd (s : State) : State :=
  let s1 := ({ s with bup := { s.bup with complete := true } }.feature s.lowestFeature true).stage 10
  if 2 ≤ s.lowestFeature then
    (List.range 78).foldl (fun (s : State) p =>
      if s.bundleLive p ∧ (s.cwy.at p).failing ≠ [] then s.retrainBundle p else s) s1
  else s1

/-- One compute die of a wave (R386): its bundles and discovery, then its sites and rows; a die fenced stays off. -/
def State.dieWave (s : State) (v : LogView) (f : Found) (warm : Bool) (d : Nat) : State :=
  let s1 := s.dieStart v f warm (d + 1)
  if s1.dieFenced (d + 1) then s1 else s1.sitesStart v f warm d

/-- COMPUTE_WAVE (R102, R386 to R388): the next two compute dies; the service level rises. -/
def execComputeWave (f : Found) (s : State) : Res State :=
  let st := s.stageNow
  if st < 6 ∨ 9 < st then .next s
  else
    let w := st - 6
    let warm := decide (s.fget .BUP_STAT F.BUP_STAT_PATH = 1)
    let v := s.logView f.flash warm
    let s1 := ((s.dieWave v f warm (2 * w)).dieWave v f warm (2 * w + 1)).fset .BUP_STAT F.BUP_STAT_LEVEL (w + 1)
    let s2 := s1.stamps f.times [w + 2]
    .next ((if w = 3 then s2.startEnd else s2.stage (st + 1)).raise 8)

/-! ### Pushed images (R383, R384) -/

/-- BUP_RCV_STAT.STATE. -/
def State.rcvState (s : State) : Nat := s.fget .BUP_RCV_STAT F.BUP_RCV_STAT_STATE

/-- The landing port's response to the IMG_PUSH that it serves (R442): STATE and CODE. -/
def State.pushReply (s : State) (st code : Nat) : State :=
  if s.ldp.push then
    (({ s with ldp := { s.ldp with push := false } }.cnt .LDP_REQ F.LDP_REQ_SERVED 1).reply (.vendor 0 [byteOf st, byteOf code]))
  else s

/-- The end of a push (R383): STATE and CODE, source 11. -/
def State.pushEnd (s : State) (st code : Nat) : State :=
  (((s.fset .BUP_RCV_STAT F.BUP_RCV_STAT_STATE st).fset .BUP_RCV_STAT F.BUP_RCV_STAT_CODE code).raise 11).pushReply st code

/-- A pushed image is ACCEPTED (R383): in recovery it becomes the boot image, and bring-up goes on at step 5.  DEDUCED, log entry 43. -/
def State.pushAccept (s : State) (b : Boot) (f : Found) : State :=
  let s1 := s.pushEnd 3 0
  let warm := decide (s.fget .BUP_STAT F.BUP_STAT_PATH = 1)
  if s.stageNow = 4 then (s1.bootApply b (!warm)).startRest f warm false else s1

/-- Verifies the image of `len` bytes at shared-buffer offset 0 (R149, R383): its length must be BUP_RCV_LEN.  DEDUCED, log entry 43. -/
def State.pushVerify (s : State) (len : Nat) : State × Except Nat Boot :=
  let r := s.readAt true 0 (sbfAddr 0) len
  let bytes := if r.err.isSome || r.pois.any id then [] else r.bytes
  match r.st.settle.bootVerify 3 bytes with
  | (s1, .ok b) => if b.hdr.total = len then (s1, .ok b) else (s1, .error 0x0F)
  | x => x

/-- The push of an image (R383): with PROGRAM, the slot is programmed and holds no valid image meanwhile (R384).
DEDUCED, log entry 43. -/
def State.pushImage (s : State) (len : Nat) (program : Bool) (f : Found) : State :=
  match s.pushVerify len with
  | (s1, .error c) => s1.pushEnd 4 c
  | (s1, .ok b) =>
    if program then
      ({ s1 with bup := { s1.bup with push := some b.bytes, slot := [] } }).fset .BUP_RCV_STAT F.BUP_RCV_STAT_STATE 2
    else s1.pushAccept b f

/-- IMAGE_PUSH (R383): a write of GO; ignored while STATE is 1 or 2.  DEDUCED, log entry 37. -/
def execImagePush (v : Word) (f : Found) (s : State) : Res State :=
  if F.BUP_RCV_GO_GO.get v = 0 ∨ s.rcvState = 1 ∨ s.rcvState = 2 then .next s
  else .next (s.pushImage (s.rget .BUP_RCV_LEN).toNat (F.BUP_RCV_GO_PROGRAM.get v = 1) f)

/-- IMAGE_PUSH_PROGRAM (R383, R384): the image stands in the slot, or PROG_FAIL and FLASH_BAD are set; it is ACCEPTED either way. -/
def execImagePushProgram (ok : Bool) (f : Found) (s : State) : Res State :=
  match s.bup.push with
  | none => .next s
  | some l =>
    let s1 : State := { s with bup := { s.bup with push := none, slot := if ok then l else [] } }
    let s2 := (s1.bset .BUP_STAT F.BUP_STAT_FLASH_BAD (!ok)).fset .BUP_RCV_STAT F.BUP_RCV_STAT_PROG_FAIL
      (if ok then s1.fget .BUP_RCV_STAT F.BUP_RCV_STAT_PROG_FAIL else 1)
    match s2.bootVerify 3 l with
    | (s3, .ok b) => .next ((s3.fset .SEC_KEYS F.SEC_KEYS_BOOT_SLOT b.hdr.slot).pushAccept b f)
    | (s3, .error c) => .next (s3.pushEnd 4 c)

/-! ### Resets (R377, R378, R380) -/

/-- The state after a reset of kind `k` (cold 1 or warm 2 of BUP_CAUSE) from source `src`: a main side that was off is on again after a
cold reset. -/
def State.resetFrom (s : State) (k : ResetKind) (kind src : Nat) : State :=
  let s1 := s.resetTo k
  { s1 with bup := { s1.bup with kind := kind, src := src }
            pwr := { s1.pwr with off := s1.pwr.off && decide (k = .warm) } }

/-- A defect-log write under way is torn by a reset (R394, R396): its slot holds a record that fails its CRC. -/
def State.tear (s : State) (torn : Bool) : State :=
  if torn ∧ s.log.recs.length < 131072 then
    { s with log := { s.log with recs := s.log.recs ++ [⟨0, 0, 0, 0, 0, true⟩] } }
  else s

/-- POWER_ON_RESET (R377, R378): VAON33 rises, or AON_RST_N is low; the always-on domain is held until AON_RST_N rises. -/
def execPowerOnReset (aon torn : Bool) (s : State) : Res State :=
  let s1 := (s.tear torn).resetFrom .power 0 (b2n aon)
  .next { s1 with bup := { s1.bup with aonLow := true } }

/-- AON_RST_N_RELEASE (R378): the straps are sampled. -/
def execAonRstNRelease (bootSrc : Fin 4) (smbAddr : Fin 8) (bridge : Bool) (s : State) : Res State :=
  .next { s with
    bridgeEn := bridge
    bup := { s.bup with bootSrc := bootSrc.val, smbAddr := smbAddr.val, aonLow := false } }

/-- SYS_RESET (R377, R380, R396): SYS_RST_N low, warm where BUP_CTL.SYS_WARM is set. -/
def execSysReset (torn : Bool) (s : State) : Res State :=
  let s1 := s.tear torn
  if s.bget .BUP_CTL F.BUP_CTL_SYS_WARM then .next (s1.resetFrom .warm 2 2) else .next (s1.resetFrom .cold 1 2)

/-- COLD_RESET_CMD (R377, R398): KIND 1 with the key. -/
def execColdResetCmd (v : Word) (s : State) : Res State :=
  if F.BUP_RST_KEY.get v = 0xB007 ∧ F.BUP_RST_KIND.get v = 1 then .next (s.resetFrom .cold 1 3) else .next s

/-- WARM_RESET_CMD (R377, R380): KIND 2 with the key. -/
def execWarmResetCmd (v : Word) (s : State) : Res State :=
  if F.BUP_RST_KEY.get v = 0xB007 ∧ F.BUP_RST_KIND.get v = 2 then .next (s.resetFrom .warm 2 3) else .next s

end Sys2Proof.Machine
end

