-- ==== Sys2Proof/Machine/Causeway.lean ====
section
/-! DEFINITION. The meanings of the causeway's commands (file 11_causeway.md): flits, chain frames, retrains, retirement, lost
clocks and discovery. -/

namespace Sys2Proof.Machine

/-! ### Flits -/

/-- The number of a direction: 0 hub to die, 1 die to hub. -/
def dirNo (dir : Bool) : Nat := b2n dir

/-- The lane that carries bit `k` of a flit (R298, R313), the spare where one replaces it. -/
def State.laneOf (s : State) (p dir k : Nat) : Nat :=
  s.laneCarrier p dir (if s.bundleState p = 4 then
      k % 32 + (if s.bget (.CWY_STAT (bundleNo p)) F.CWY_STAT_HALF_UPPER then 32 else 0)
    else k % 64)

/-- Counts a correction on a lane (R310): at LANE_THR within the window of 2^20 flits, the lane is failing.  The die's end reports its count
to the hub in a STATUS message.  DESIGN CHOICE, log entry 97: the message's words. -/
def State.laneCorrection (s : State) (p dir lane : Nat) : State :=
  let thr := max 1 (s.fget (.CWY_CTL (bundleNo p)) F.CWY_CTL_LANE_THR)
  let n := (s.dirOf p dir).win.at lane + 1
  let s1 := s.dirUpd p dir (fun d => { d with corr := d.corr.put lane (satAdd 16 (d.corr.at lane) 1), win := d.win.put lane n })
  let s2 := if dir = 0 then s1.dieSays (bundleDie p) 0xD [p + lane * 128, n] [] else s1
  if n = thr ∨ (thr < n ∧ dir * 128 + lane ∉ (s.cwy.at p).failing) then s2.laneFailing p dir lane else s2

/-- Delivers an accepted flit (R300 to R302): each word corrected, the others that the code cannot correct poisoned; then what its command
headers ask for, or the data it brings for a write. -/
def State.flitAccept (s : State) (p dir : Nat) (f : Flit) : State :=
  let ws := f.words.map flitWord
  let fixed := (List.range 32).filterMap (fun i => ((ws[i]?).bind (fun w => w.2.2)).map (fun b => 39 * i + b))
  let pois := (List.range 32).filter (fun i => match ws[i]? with
    | some w => w.2.1
    | none => false)
  let s1 := s.emit (.flit p (decide (dir = 1)) (bits f.valid.val 1 1) (bits f.valid.val 7 9) (ws.map (·.1)) pois f.man.val)
  let s2 := s1.dirUpd p dir (fun d => { d with seq := (d.seq + 1) % 32, fails := 0, acc := d.acc + 1 })
  let s3 := if dir = 1 then s2.wrap (.CWY_RX (bundleNo p)) F.CWY_RX_FLITS 1 else s2
  let s4 := fixed.foldl (fun (s : State) k => s.laneCorrection p dir (s.laneOf p dir k)) s3
  if bitAt f.valid.val 1 then (headersOf (ws.map (·.1))).foldl (fun (s : State) h => s.headerIn p dir h) s4
  else s4.dataIn p dir (bits f.valid.val 7 9) (ws.map (·.1)) f.man.val

/-- A flit at a receiver counts in the window of R310, and when it is not a replay among those sent. -/
def State.flitSeen (s : State) (p dir : Nat) (fresh : Bool) : State :=
  let s1 := s.dirUpd p dir (fun d =>
    let n := d.flits + 1
    if n = 1048576 then { d with flits := 0, win := [] } else { d with flits := n })
  if fresh then
    let s2 := s1.dirUpd p dir (fun d => { d with sent := d.sent + 1 })
    if dir = 0 then s2.wrap (.CWY_TX (bundleNo p)) F.CWY_TX_FLITS 1 else s2
  else s1

/-- The queue of the edge router that a flit joins (R118, R128): its level and high-water mark; source 18 as it passes CDI_EDGE_THR.
The ingress queue, towards the die, holds one flit more; the egress queue reaches level `q`. -/
def State.edgeLevel (s : State) (p dir q : Nat) : State :=
  if 64 ≤ p then s
  else
    let die : Die := Fin.ofNat 8 (p / 8)
    let r : Reg := .CDI_EDGE die (Fin.ofNat 8 p)
    let lvl := if dir = 0 then F.CDI_EDGE_INQ else F.CDI_EDGE_OUTQ
    let top := if dir = 0 then F.CDI_EDGE_INQ_HWM else F.CDI_EDGE_OUTQ_HWM
    let was := s.fget r lvl
    let now := if dir = 0 then min 96 (was + 1) else q
    let thr := s.fget (.CDI_EDGE_THR die) F.CDI_EDGE_THR_THRESH
    let s1 := (s.fset r lvl now).fset r top (max now (s.fget r top))
    if was < thr ∧ thr ≤ now then s1.raise (64 + p / 8 * 24 + 18) else s1

/-- Whether the edge router of bundle `p` has no room for a flit to its die (R118): the hub holds no credit, and sends none. -/
def State.edgeFull (s : State) (p dir : Nat) : Bool :=
  decide (p < 64 ∧ dir = 0 ∧ 96 ≤ s.fget (.CDI_EDGE (Fin.ofNat 8 (p / 8)) (Fin.ofNat 8 p)) F.CDI_EDGE_INQ)

/-- FLIT_RECEIVE (R298 to R302): a flit whose CRC matches and whose SEQ comes next is corrected and accepted; one whose CRC fails
is discarded with DNAK, and after eight successive failing replays is accepted with poison when VPAR matches, and otherwise makes
the valid lane failing; an idle slot and a flit out of sequence are dropped.  A flit for which the die's edge router has no room is not
sent (R118).  DESIGN CHOICE, log entry 9. -/
def execFlitReceive (p : Bundle) (dir : Bool) (f : Flit) (queue : Fin 97) (s : State) : Res State :=
  let k := dirNo dir
  let d := s.dirOf p.val k
  if f.words.length ≠ 32 then .fault (.illFormed "FLIT_RECEIVE: words")
  else if !s.bundleLive p.val || !bitAt f.valid.val 0 || s.edgeFull p.val k then .next s
  else if flitCrc f = f.crc.val then
    if bits f.valid.val 2 5 = d.seq then
      .next (((s.flitSeen p.val k (d.fails = 0)).flitAccept p.val k f).edgeLevel p.val k queue.val)
    else .next (s.flitSeen p.val k false)
  else
    let s1 := (s.flitSeen p.val k (d.fails = 0)).cnt (.CWY_CRC p) F.CWY_CRC_CRC_ERR 1
    if d.fails < 8 then
      .next ((s1.dirUpd p.val k (fun d => { d with fails := d.fails + 1 })).emit (.dnak p.val dir ((d.seq + 31) % 32)))
    else if vparOk f.valid.val then
      let s2 := (s1.flitAccept p.val k f).edgeLevel p.val k queue.val
      .next (if f.words.any (fun w => (flitWord w).2.1) then s2.cwyEvt p.val F.CWY_EVT_POISON_RX 0 else s2)
    else .next ((s1.dirUpd p.val k (fun d => { d with fails := 0 })).laneFailing p.val k (s.laneCarrier p.val k 64))

/-- DNAK_RECEIVE (R301): the sender replays from the flit after the acknowledged one. -/
def execDnakReceive (p : Bundle) (dir : Bool) (seq : Fin 32) (s : State) : Res State :=
  if s.bundleLive p.val then
    .next ((s.cnt (.CWY_CRC p) F.CWY_CRC_REPLAY 1).dirUpd p.val (dirNo dir) (fun d => { d with ack := seq.val }))
  else .next s

/-! ### Chain frames -/

/-- What a good chain frame in direction `k` tells the sender of the other one (R303): CACK or CNAK, DACK or DNAK. -/
def State.frameAcks (s : State) (p k x : Nat) : State :=
  let o := 1 - k
  let s1 := s.dirUpd p o (fun d => { d with cack := bits x 38 3, ack := bits x 42 5 })
  s1.cnt (.CWY_CRC (bundleNo p)) F.CWY_CRC_REPLAY (b2n (bitAt x 41) + b2n (bitAt x 47))

/-- A word of a chain message on bundle `p` in direction `k` at a level (R123, R303): the header begins a message, and the last of the words
that its LEN announces completes it.  It goes to the hub's chain router, or to the die. -/
def State.chainWordIn (s : State) (p k lvl : Nat) (hdr : Bool) (w : Nat) : State :=
  let l := if hdr then [w] else (s.dirOf p k).chainIn.at lvl ++ [w]
  let put (s : State) (x : List Nat) : State := s.dirUpd p k (fun d => { d with chainIn := d.chainIn.put lvl x })
  if !hdr && l.length = 1 then s
  else if l.length < 1 + bits (l.headD 0) 4 2 then put s l
  else
    let m := ChainMsg.parse l
    if k = 1 then (put s []).chainSend (p + 1) { m with lanes := s.lanesFor m } else (put s []).emit (.chain { m with lanes := [p] })

/-- CHAIN_FRAME_RECEIVE (R303): a frame whose CRC matches acknowledges, and its word is delivered when its CSEQ comes next; one
whose CRC fails is answered with CNAK, and after eight successive failing replays makes the chain lane failed. -/
def execChainFrameReceive (p : Bundle) (dir : Bool) (frame : BitVec 64) (s : State) : Res State :=
  let k := dirNo dir
  let x := frame.toNat
  let d := s.dirOf p.val k
  if !s.bundleLive p.val && s.bundleState p.val ≠ 1 then .next s
  else if crc16 (bitsLow 48 x) = bits x 48 16 then
    let s1 := s.frameAcks p.val k x
    if bitAt x 0 ∧ bits x 35 3 = d.cseq then
      .next ((s1.dirUpd p.val k (fun d => { d with cseq := (d.cseq + 1) % 8, cfails := 0 })).chainWordIn p.val k (b2n (bitAt x 1))
        (bitAt x 2) (bits x 3 32))
    else .next s1
  else
    let s1 := s.cnt (.CWY_CRC p) F.CWY_CRC_CRC_ERR 1
    if d.cfails < 8 then
      .next ((s1.dirUpd p.val k (fun d => { d with cfails := d.cfails + 1 })).emit (.cnak p.val dir ((d.cseq + 7) % 8)))
    else .next ((s1.dirUpd p.val k (fun d => { d with cfails := 0 })).laneFailing p.val k (s.laneCarrier p.val k 65))

/-! ### Retrains and retirement -/

/-- BUNDLE_RETRAIN (R311, R312): ignored while the bundle is not in RUN or HALF, and at level 1. -/
def execBundleRetrain (p : Bundle) (s : State) : Res State :=
  if s.bundleLive p.val && s.level2 then .next (s.retrainBundle p.val) else .next s

/-- The end of a retrain at a width (R312, R313): RUN with source 24, HALF with source 25, each with its map logged; a record that
fails raises source 27. -/
def State.retrainEnds (s : State) (p : Nat) (w : Width) (ok : Bool) : State :=
  let logged := fun (s : State) (st : Nat) =>
    let s1 := s.logLanes p st 0 5 ok
    if s.logRoom ok then s1 else s1.cwyEvt p F.CWY_EVT_LOG_FAIL 27
  match w with
  | .full m0 m1 =>
    logged ((((s.setRepair p m0 m1).bset (.CWY_STAT (bundleNo p)) F.CWY_STAT_HALF_UPPER false).setBundle p 2).cwyEvt p
      F.CWY_EVT_RETRAINED 24) 2
  | .half u m0 m1 =>
    logged ((((s.setRepair p m0 m1).bset (.CWY_STAT (bundleNo p)) F.CWY_STAT_HALF_UPPER u).setBundle p 4).cwyEvt p
      F.CWY_EVT_HALF 25) 4
  | .none => s.retireBundle p 0 5 ok

/-- RETRAIN_DONE (R307, R312, R313): the lanes that failed before the retrain or in its test are bad; the new map follows.  Bundles that field test
mode has stopped end with its exit (R477). -/
def execRetrainDone (p : Bundle) (bad0 bad1 : List (Fin 70)) (logOk : Bool) (s : State) : Res State :=
  if s.bundleState p.val = 3 ∧ s.fget .TST_STAT F.TST_STAT_STATE = 0 then
    let l := (s.cwy.at p.val).failing ++ bad0.map (·.val) ++ bad1.map (fun x => 128 + x.val)
    let s1 := l.foldl (fun (s : State) x => s.dirUpd p.val (x / 128) (fun d => d.laneBad (x % 128))) s
    let s2 := s1.bundleUpd p.val (fun b => { b with failing := [] })
    let s3 := [0, 1].foldl (fun (s : State) k => s.dirUpd p.val k (fun d => { d with win := [], flits := 0 })) s2
    .next ((s3.retrainEnds p.val (s3.bundleWidth p.val) logOk).mateGoes p.val)
  else .next s

/-- BUNDLE_RETIRE (R314): a write of RETIRE to CWY_CTL. -/
def execBundleRetire (p : Bundle) (logOk : Bool) (s : State) : Res State := .next (s.retireBundle p.val 0 0 logOk)

/-- CLOCK_PAIR_LOST (R297, R310, R314): the bundle pair is retired with CLK_FAIL; when the lost pair gave its die the clocks, the
source moves to the next live one. -/
def execClockPairLost (p : Bundle) (dir : Bool) (logOk : Bool) (s : State) : Res State :=
  if s.bundleState p.val = 0 ∨ s.bundleState p.val = 5 then .next s
  else
    let was := s.clockSource (bundleDie p.val)
    let s1 := if dir then s else s.bundleUpd p.val (fun b => { b with clkFail := true })
    let s2 := s1.retireBundle p.val 1 5 logOk
    match s2.clockSource (bundleDie p.val) with
    | some q => if was = some p.val ∧ ¬dir then .next (s2.cwyEvt q F.CWY_EVT_CLK_MOVE 0) else .next s2
    | none => .next s2

/-! ### Discovery -/

/-- The KIND that a die position must report (R308). -/
def dieKind (pos : Nat) : Nat := if pos ≤ 8 then 1 else if pos = 9 then 2 else if pos ≤ 11 then 3 else 4

/-- DISC_RECEIVE (R308, R309): what the bundle reports; the die is fenced when its kind, its bundle's index or its feature level
does not fit, or when it differs from what another of its bundles reported. -/
def execDiscReceive (p : Bundle) (w1 w2 : Word) (logOk : Bool) (s : State) : Res State :=
  let pos := bundleDie p.val
  if s.bundleState p.val = 0 ∨ s.bundleState p.val = 5 then .next s
  else
    let kind := F.CWY_DISC_KIND.get w1
    let step := F.CWY_DISC_STEPPING.get w1
    let feat := F.CWY_DISC_FEATURE.get w1
    let old := s.bup.dies.at pos
    let reported := (bundlesOf pos).any (fun q => decide (q ≠ p.val) && decide (s.fget (.CWY_DISC (bundleNo q)) F.CWY_DISC_KIND ≠ 0))
    let bad := decide (kind ≠ dieKind pos) || decide (feat < 1) || decide (F.CWY_DISC_LOCAL.get w1 ≠ bundleIx p.val) ||
      (reported && (decide (old.serial ≠ w2.toNat) || decide (old.stepping ≠ step)))
    let s1 := s.rset (.CWY_DISC p) (w1 &&& 0x07FFFF0F)
    let s2 := if reported then s1 else
      { s1 with bup := { s1.bup with dies := s1.bup.dies.put pos { old with stepping := step, feature := feat, serial := w2.toNat } } }
    .next (if bad then s2.fenceDie pos 4 logOk else s2)

end Sys2Proof.Machine
end

