-- ==== Sys2Proof/Machine/Power.lean ====
section
/-! DEFINITION. The meanings of the clock, power and thermal commands (files 13_clocks_power.md, 16_telemetry_thermal.md R428 to
R434, and 20_package_pins.md R494). -/

namespace Sys2Proof.Machine

/-! ### The control interval -/

/-- What an interval measures (R364, R376): package power, VIN12, energy. -/
def State.measure (s : State) (x : Interval) : State :=
  let s1 := ((s.fset .PWR_PKG F.PWR_PKG_POWER_W x.watts.val).fset .PWR_PKG F.PWR_PKG_MAX_W
    (max (s.fget .PWR_PKG F.PWR_PKG_MAX_W) x.watts.val)).rset .PWR_VIN (wordOf (x.mv.val + x.amps.val * 65536))
  let uj := s1.pwr.uj + 20 * x.watts.val
  ({ s1 with pwr := { s1.pwr with intervals := s1.pwr.intervals + 1, uj := uj % 4294967296000
                                  vinLow := s1.pwr.vinLow && decide (x.mv.val < 11000) } }).rset .PWR_ENERGY
    (wordOf (uj / 1000))

/-- The power ceiling's part of an interval (R365, R366, R373). -/
def State.ceiling (s : State) (x : Interval) : State :=
  let p := x.watts.val
  (((((s.timerTick p).stepDown p x.mv.val).ceilingRelease p x.mv.val).ceilingFlags p)).peakTick p

/-- Rails whose regulators have been silent for three reports (R429): source 59 when there is a new one. -/
def State.silentRails (s : State) (l : List Nat) : State :=
  let s1 : State := { s with thm := { s.thm with silent := l } }
  if l.any (fun r => !s.thm.silent.contains r) then s1.thmEvt 5 else s1

/-- The thermal model's update (R428, R429): every node's power, then every node's temperature. -/
def State.modelTick (s : State) (busy : List Nat) : State :=
  let pows := (List.range 224).foldl (fun (m : Tab Nat) n =>
    m.put n (s.nodePower busy s.thm.silent (nodeDie n) (n - nodeBase (nodeDie n)))) []
  let temps := (List.range 224).foldl (fun (m : Tab Int) n => m.put n (s.nodeNext n (pows.at n))) []
  { s with thm := { s.thm with temps := temps, powers := pows } }

/-- A T12 field's value as a number (R438). -/
def t12of (v : Nat) : Int := if v < 2048 then v else (v : Int) - 4096

/-- The highest node temperature since the last read (R438). -/
def State.thmMax (s : State) : State :=
  let t := s.hottest.2
  if t12of (s.fget .THM_MAX F.THM_MAX_TEMP) < t then s.fset .THM_MAX F.THM_MAX_TEMP (t12bits t) else s

/-- The thermal part of an interval (R428 to R434). -/
def State.thermalTick (s : State) (x : Interval) : State :=
  let s1 := (((s.silentRails (x.silent.map (·.val))).modelTick x.busy).thmMax).crossLimits
  if s1.tooHot then s1.thermTrip
  else
    let s2 := (List.range 17).foldl State.throttleTick s1
    ((List.range 16).foldl (fun (s : State) h => s.halfRequest h thmFld (s.thermalAsk h)) s2).mirror

/-- POWER_INTERVAL (R364 to R366, R373, R428 to R434, R449): nothing while the main side is off; in Standby the thermal model does
not run.  DEDUCED, log entry 63; DESIGN CHOICE, log entry 23. -/
def execPowerInterval (x : Interval) (s : State) : Res State :=
  if s.pwr.off then .next s
  else
    let s1 := (s.measure x).ceiling x
    if s1.fget .PWR_STATE F.PWR_STATE_STATE = 2 then .next s1 else .next (s1.thermalTick x)

/-! ### Diodes -/

/-- The calibration of a die from its diodes' readings `l` (R430, R431). -/
def ThermDie.calibrate (d : ThermDie) (temps : List Int) (l : List Int) : ThermDie × Bool :=
  let dead := (List.range 4).filter (fun k => !bitAt d.failed k && decide (nth l k < -320 ∨ 1200 < nth l k))
  let d1 := { d with diodes := l.take 4, failed := dead.foldl (fun m k => m + 2 ^ k) d.failed }
  let w := d1.working
  if w = [] then ({ d1 with frozen := true }, !dead.isEmpty)
  else
    let e : Int := (w.foldl (fun (x : Int) k => x + (k.2 * 125000 - nth temps k.1)) 0) / (w.length : Int)
    let far := if 10000000 < e.natAbs then d.far + 1 else 0
    let near := if e.natAbs ≤ 4000000 then d.near + 1 else 0
    let div := if 3 ≤ far then true else if 16 ≤ near then false else d.diverged
    ({ d1 with bound := d.bound + e / 4, far := min far 3, near := min near 16, diverged := div },
      !dead.isEmpty || (div && !d.diverged))

/-- The node of diode `k` of a die (R430): the fuses', else the node numbered k. -/
def State.diodeNode (s : State) (pos k : Nat) : Nat := nodeBase pos + s.fuses.diodes.at (pos * 4 + k)

/-- Whether a diode that takes part reads 115 °C or above (R432): one that reads above 150 °C has failed instead (R430).  DEDUCED, log
entry 31. -/
def State.hotDiode (s : State) (readings : List Int) : Bool :=
  (List.range 80).any (fun i => decide (920 ≤ nth readings i) && decide (nth readings i ≤ 1200) && !bitAt (s.thm.dies.at (i / 4)).failed (i % 4))

/-- DIODE_READ (R430 to R432): calibration of every die, thresholds, and the shutdown check of every diode. -/
def execDiodeRead (readings : List Int) (s : State) : Res State :=
  let l := fun pos => (List.range 4).map (fun k => nth readings (pos * 4 + k))
  let hot := s.hotDiode readings
  if s.pwr.off ∨ s.fget .PWR_STATE F.PWR_STATE_STATE = 2 then .next (if hot ∧ ¬s.pwr.off then s.thermTrip else s)
  else
    let s1 := (List.range 20).foldl (fun (s : State) pos =>
      let c := (s.thm.dies.at pos).calibrate ((List.range 4).map (fun k => s.thm.temps.at (s.diodeNode pos k))) (l pos)
      let s2 : State := { s with thm := { s.thm with dies := s.thm.dies.put pos c.1 } }
      if c.2 then s2.thmEvt 4 else s2) s
    let s2 := s1.crossLimits
    .next (if hot || s2.tooHot then s2.thermTrip else s2)

/-- THERMTRIP_RELEASE (R434): every diode reads below 105 °C. -/
def execThermtripRelease (s : State) : Res State := .next { s with thm := { s.thm with trip := false } }

/-! ### Voltage, clocks and regulators -/

/-- The domains of the voltage loop (R362): their rails. -/
def avsRail (k : Nat) : Nat := if k < 16 then halfRail k else nth [40, 43, 45, 47] (k - 16)

/-- The lowest setpoint of a domain: the start voltage of the applied step less 50 mV (R362). -/
def State.avsFloor (s : State) (k : Nat) : Nat := s.railStart (avsRail k) (if k < 16 then s.halfGet k appliedFld else 0) - 20

/-- The state with a rail's setpoint set. -/
def State.setSetpoint (s : State) (r v : Nat) : State := s.railUpd r (fun x => { x with setpt := some v })

/-- One domain of the voltage loop with its lowest grade (R362).  DEDUCED, log entry 63. -/
def State.avsTick (s : State) (k grade : Nat) : State :=
  let r := avsRail k
  let sp := s.setpoint r
  let s1 := if k < 16 then s.fset (.PWR_AVS (halfDie k)) ⟨2 * (k % 2), 2⟩ grade else s
  let n := if grade = 3 then s.pwr.ample.at k + 1 else 0
  let s2 : State := { s1 with pwr := { s1.pwr with ample := s1.pwr.ample.put k (n % 16) } }
  let limit : Fld := ⟨4 + k % 2, 1⟩
  let s3 :=
    if grade = 0 then
      if sp < 360 then s2.setSetpoint r (sp + 1)
      else if 16 ≤ k then s2.pwrEvt F.PWR_EVT_AVS_LIMIT 52
      else if s2.fget (.PWR_AVS (halfDie k)) limit = 1 then s2
      else ((s2.fset (.PWR_AVS (halfDie k)) limit 1).halfRequest k avsFld (min 3 (s2.halfGet k appliedFld + 1))).pwrEvt
        F.PWR_EVT_AVS_LIMIT 52
    else if n = 16 ∧ s2.avsFloor k < sp then s2.setSetpoint r (sp - 1)
    else s2
  if k < 16 ∧ s3.fget (.PWR_AVS (halfDie k)) limit = 1 then
    let c := if grade = 0 then 0 else s3.pwr.calm.at k + 1
    if c = 1000 then
      (({ s3 with pwr := { s3.pwr with calm := s3.pwr.calm.put k 0 } } : State).fset (.PWR_AVS (halfDie k)) limit 0).halfRequest k avsFld 0
    else { s3 with pwr := { s3.pwr with calm := s3.pwr.calm.put k c } }
  else s3

/-- AVS_INTERVAL (R362): each domain of a die that runs.  DEDUCED, log entry 63. -/
def execAvsInterval (grades : List (Fin 4)) (s : State) : Res State :=
  .next ((List.range 20).foldl (fun (s : State) k =>
    match grades[k]? with
    | none => s
    | some g => if k < 16 ∧ (s.dieFenced (k / 2 + 1) ∨ s.dozing (k / 2)) then s else s.avsTick k g.val) s)

/-- STEP_CHANGE_APPLY (R127, R358): the slower steps requested in the die take effect on one root edge.  DESIGN CHOICE, log entry 32. -/
def execStepChangeApply (d : Die) (s : State) : Res State :=
  if s.dozing d.val then .next s
  else .next ([2 * d.val, 2 * d.val + 1].foldl (fun (s : State) h =>
    if s.halfGet h appliedFld < s.halfWant h then s.halfApply h (s.halfWant h) else s) s)

/-- STEP_RAMP_DONE (R358): the setpoint stands at the start voltage of the new step or above, and the divider changes. -/
def execStepRampDone (d : Die) (west : Bool) (s : State) : Res State :=
  let h := 2 * d.val + b2n west
  if s.halfGet h rampFld = 0 then .next s
  else
    let v := s.halfWant h
    .next (((s.setSetpoint (halfRail h) (max (s.setpoint (halfRail h)) (s.railStart (halfRail h) v))).halfSet h rampFld 0).halfApply h v)

/-- REGULATOR_REPORT (R360, R364): measured voltage, current, power and temperature of a rail over 10 µs.  DESIGN CHOICE, log entry 7. -/
def execRegulatorReport (r : Fin 65) (mv : Fin 4096) (cur pow : Fin 65536) (temp : Nat) (s : State) : Res State :=
  .next ({ s with thm := { s.thm with silent := s.thm.silent.filter (fun x => x ≠ r.val) } }.railUpd r.val (fun x =>
    { x with meas := mv.val, cur := cur.val, pow := pow.val, temp := temp, uj := (x.uj + pow.val) % 4294967296000 }))

/-- CLOCK_STRETCH (R363). -/
def execClockStretch (_domain : Fin 20) (cycles : Nat) (s : State) : Res State :=
  .next (s.cnt .PWR_DROOP F.PWR_DROOP_STRETCH cycles)

/-- RAIL_FAULT (R361): the fault in PWR_RAIL_FLT and the defect log, source 50, and what the rail's die loses.  DEDUCED, log entry 48. -/
def execRailFault (r : Fin 65) (kind : Fin 4) (logOk : Bool) (s : State) : Res State :=
  let pos := railDie r.val
  let off := decide (kind.val = 1 ∨ kind.val = 2) || decide (1 ≤ pos ∧ pos ≤ 8)
  let s1 := s.railUpd r.val (fun x => { x with flt := x.flt ||| 2 ^ kind.val ||| (if off then 16 else 0) })
  let s2 := if 1 ≤ pos ∧ pos ≤ 8 then
      (railsOf pos).foldl (fun (s : State) q => s.railUpd q (fun x => { x with flt := x.flt ||| 16 })) s1
    else s1
  let s3 : State := { s2 with pwr := { s2.pwr with first := s2.pwr.first.orElse (fun _ => some r.val) }
                              bup := { s2.bup with railFlt := true } }
  let s4 := (s3.logRec ⟨0x0A, 6, r.val + (s3.pwr.rails.at r.val).flt * 128, 0, 0, false⟩ logOk).pwrEvt F.PWR_EVT_RAIL_FLT 50
  if 1 ≤ pos ∧ pos ≤ 8 ∧ s4.doze.at (pos - 1) = 3 then .next (s4.dozeFail (pos - 1) logOk)
  else .next (s4.fenceDie pos 6 logOk)

/-- REFCLK_LOST (R354, R356, R372): FAULT_N, the main side off; in Standby the always-on domain only changes its clock.
DEDUCED, log entry 48. -/
def execRefclkLost (s : State) : Res State :=
  if s.pwr.off ∨ s.fget .PWR_STATE F.PWR_STATE_STATE = 2 then
    .next (((s.bset .CLK_EVT F.CLK_EVT_REF_LOST true).bset .CLK_STAT F.CLK_STAT_AON_RC true).bset .CLK_STAT F.CLK_STAT_REF_OK false)
  else .next (s.clockLost false)

/-- PLL_LOCK_LOST (R354): root PLL lock lost with REFCLK present. -/
def execPllLockLost (s : State) : Res State := if s.pwr.off then .next s else .next (s.clockLost true)

/-- REFCLK_PRESENT (R356, R372): the always-on domain runs from REFCLK again; a wake from Standby that waited for it runs as a cold
start.  DEDUCED, log entry 48. -/
def execRefclkPresent (s : State) : Res State :=
  let s1 := (s.bset .CLK_STAT F.CLK_STAT_REF_OK true).bset .CLK_STAT F.CLK_STAT_AON_RC false
  if s.pwr.wake ∧ s.fget .PWR_STATE F.PWR_STATE_STATE = 2 then
    .next { s1.resetTo .cold with bup := { (s1.resetTo .cold).bup with kind := 1 } }
  else .next s1

/-! ### Idle and Doze -/

/-- SITE_IDLE (R368): the site's clocks are gated, unless automatic gating is off or it has work. -/
def execSiteIdle (site : Site) (s : State) : Res State :=
  let busy : Bool := match s.engineAt site.val with
    | some e => (s.engs.at e).task.isSome || (s.engs.at e).gangs.any (fun g => g.2.st ≠ .free)
    | none => false
  if s.fget .PWR_IDLE F.PWR_IDLE_IDLE_CYC = 0 ∨ busy ∨ !s.dieRuns (site.val / 16) then .next s
  else .next (s.siteUpd site.val (fun k => { k with gated := true }))

/-- DIE_DOZE (R369, R477): refused while a loaded span holds an engine of the die, or while a change or field test is in progress. -/
def execDieDoze (d : Die) (s : State) : Res State :=
  let s1 := s.fset .PWR_DIE_STAT F.PWR_DIE_STAT_DIE (d.val + 1)
  let used := s.spans.any (fun e => e.2.st ≠ .empty && e.2.members.any (fun l => match l with
    | .engine x => decide (x / 12 = d.val)
    | _ => false))
  if used then .next (s1.dieResult 2)
  else if s.load.busy || s.modeBusy || s.subst.any (fun x => x.2.isSome) || s.dozeBusy ||
      decide (s.fget .TST_STAT F.TST_STAT_STATE ≠ 0) then .next (s1.dieResult 3)
  else if s.doze.at d.val = 0 ∧ ¬s.dieFenced (d.val + 1) then .next ((s1.dieResult 0).dozeStart d.val)
  else .next s1

/-- DOZE_ENTRY_DONE (R369): source 51; the change waits until the die's bundles have ended their retrains (R316). -/
def execDozeEntryDone (d : Die) (s : State) : Res State :=
  if s.doze.at d.val = 1 ∧ !s.dieRetrains (d.val + 1) then .next (((s.dozeIn d.val).dieResult 1).pwrEvt F.PWR_EVT_STATE_DONE 51) else .next s

/-- DIE_WAKE (R369). -/
def execDieWake (d : Die) (s : State) : Res State :=
  let s1 := s.fset .PWR_DIE_STAT F.PWR_DIE_STAT_DIE (d.val + 1)
  if s.doze.at d.val = 2 then .next { s1.dieResult 0 with doze := s1.doze.put d.val 3 }
  else if s.doze.at d.val = 0 then .next s1
  else .next (s1.dieResult 3)

/-- DOZE_EXIT_DONE (R369): step 6, or the end of the exit with RESULT 4 and the die fenced. -/
def execDozeExitDone (d : Die) (ok logOk : Bool) (s : State) : Res State :=
  if s.doze.at d.val ≠ 3 then .next s
  else if ok then
    .next ((((s.dozeOut d.val).dieResult 1).pwrEvt F.PWR_EVT_STATE_DONE 51).loadWoken d.val true)
  else .next (s.dozeFail d.val logOk)

/-! ### Standby and Off-AON (R370, R371) -/

/-- The REASON with which a request of Standby or Off-AON is refused (R370, R477). -/
def State.standbyRefusal (s : State) : Nat :=
  if s.fget .PWR_STATE F.PWR_STATE_STATE ≠ 0 then 4
  else if s.spans.any (fun e => e.2.st ≠ .empty && e.2.st ≠ .idle && e.2.st ≠ .faulted) then 1
  else if s.load.busy || s.modeBusy || s.dozeBusy || decide (s.staged ≠ []) || decide (s.fget .TST_STAT F.TST_STAT_STATE ≠ 0) then 2
  else if s.movers.any (fun m => !m.2.inflight.isEmpty || !m.2.hubfl.isEmpty) || s.scrub.isSome || s.flashBusy ||
      s.flash.fmt.isSome || s.flash.zones.any (fun z => z.2.append.isSome || decide (z.2.after ≠ 0)) then 3
  else 0

/-- A power-state request refused with REASON (R370, R376). -/
def State.pwrRefuse (s : State) (reason : Nat) : State := s.fset .PWR_STATE F.PWR_STATE_REASON reason

/-- STANDBY_ENTER (R370): the Wealey ports go to OFF and the retrieval die saves a checkpoint. -/
def execStandbyEnter (s : State) : Res State :=
  let r := s.standbyRefusal
  if r ≠ 0 then .next (s.pwrRefuse r)
  else
    let s1 := (List.range 16).foldl (fun (s : State) q => if s.portWealey q then s.portDown q 0 0 true else s)
      ((s.pwrRefuse 0).fset .PWR_STATE F.PWR_STATE_STATE 1)
    .next (s1.flashUpd (fun f => { f with journal := 0, saved := f.groups }))

/-- The end of Standby entry (R370): retrieval and link dies off, compute dies in Doze, stacks in self-refresh. -/
def State.standbyIn (s : State) : State :=
  let s1 := (span 64 14).foldl (fun (s : State) p => if s.bundleState p = 5 then s else s.setBundle p 0) s
  let s2 := (List.range 8).foldl (fun (s : State) d => if s.dieFenced (d + 1) then s else s.dozeIn d) s1
  (List.range 8).foldl (fun (s : State) n => if s.stackFenced n then s else s.fset (.STK_STAT (Fin.ofNat 8 n)) F.STK_STAT_STATE 3) s2

/-- The start of Standby exit (R370, R372): it waits for REFCLK. -/
def State.standbyOut (s : State) : State :=
  if s.bget .CLK_STAT F.CLK_STAT_REF_OK then
    ({ s with pwr := { s.pwr with wake := false } } : State).fset .PWR_STATE F.PWR_STATE_STATE 3
  else { s with pwr := { s.pwr with wake := true } }

/-- STANDBY_ENTRY_DONE (R316, R370, R372): the change waits for retrains; a wake that came meanwhile starts the exit. -/
def execStandbyEntryDone (s : State) : Res State :=
  if s.fget .PWR_STATE F.PWR_STATE_STATE ≠ 1 ∨ (span 1 11).any s.dieRetrains then .next s
  else
    let s1 := (s.standbyIn).fset .PWR_STATE F.PWR_STATE_STATE 2
    .next (if s.pwr.wake then s1.standbyOut else s1)

/-- STANDBY_EXIT (R370, R372): a wake in Standby starts the exit; during entry it waits for the entry's end; a request during
another transition is refused. -/
def execStandbyExit (s : State) : Res State :=
  let st := s.fget .PWR_STATE F.PWR_STATE_STATE
  if st = 2 then .next s.standbyOut
  else if st = 1 then .next { s with pwr := { s.pwr with wake := true } }
  else if st = 0 then .next s
  else .next (s.pwrRefuse 4)

/-- STANDBY_EXIT_DONE (R169, R370): stacks, link and retrieval dies and compute dies run again, schedules and codebooks come back
from the keep area, the flash mounts anew, and source 51 is raised. -/
def execStandbyExitDone (s : State) : Res State :=
  if s.fget .PWR_STATE F.PWR_STATE_STATE ≠ 3 then .next s
  else
    let s1 := (List.range 8).foldl (fun (s : State) n =>
      if s.stackFenced n then s else s.fset (.STK_STAT (Fin.ofNat 8 n)) F.STK_STAT_STATE 2) s
    let s2 := [9, 10, 11].foldl (fun (s : State) pos => if s.dieFenced pos then s else s.restoreBundles pos) s1
    let s3 := (List.range 16).foldl (fun (s : State) q =>
      if s.portState q = 0 ∧ ¬s.dieFenced (10 + q / 8) then s.setPort q (s.portRole s.bootTier q) 0 else s) s2
    let s4 := (List.range 8).foldl (fun (s : State) d => if s.doze.at d = 2 then s.dozeOut d else s) s3
    let s5 := (s4.image.scheds.map (·.1)).foldl State.loadEngine s4
    let s6 := ((s5.fset .FLC_MOUNT F.FLC_MOUNT_STATE 0).fset .PWR_STATE F.PWR_STATE_STATE 0).pwrEvt F.PWR_EVT_STATE_DONE 51
    let s7 := if s6.ldp.ferry then { s6 with ldp := { s6.ldp with ferry := false } }.ldpEvt 1 else s6
    .next s7.settle.pump.presentAll

/-- OFF_AON (R371): refused as Standby is; else every main-side rail turns off. -/
def execOffAon (s : State) : Res State :=
  let r := s.standbyRefusal
  if r ≠ 0 then .next (s.pwrRefuse r) else .next (s.resetTo .off)

/-! ### The supplies (R373, R494) -/

/-- VIN_LOW (R373): source 53; the halves step down interval by interval. -/
def execVinLow (s : State) : Res State :=
  .next ({ s with pwr := { s.pwr with vinLow := true } }.pwrEvt F.PWR_EVT_VIN_LOW 53)

/-- VIN_CRITICAL (R373): FAULT_N, the main side off, the capture kept. -/
def execVinCritical (s : State) : Res State :=
  if s.pwr.off then .next s else .next ((s.captureOf 3 s.ldp.mirror).shutdown 3)

/-- VAON_LOW (R494): every main-side rail off; memory is lost. -/
def execVaonLow (s : State) : Res State := .next (s.resetTo .off)

/-- VNAND_LOW (R494): every channel off, its commands completed with an error; nothing is fenced or logged. -/
def execVnandLow (s : State) : Res State :=
  .next ((List.range 32).foldl (fun (s : State) c =>
    (List.range 32).foldl (fun (s : State) l => s.lunDrop c l) (s.fset (.FLC_STAT (chan c)) F.FLC_STAT_STATE 0)) s).settle

/-- HUB_FAULT (R24). -/
def execHubFault (s : State) : Res State := .next (s.deviceFault 4)

end Sys2Proof.Machine
end

