-- ==== Sys2Proof/Machine/FieldTest.lean ====
section
/-! DEFINITION. Field test mode (R476 to R480): its entry, the interconnect test, and its exit. -/

namespace Sys2Proof.Machine

/-- STATE of field test mode: 0 idle, 2 testing, 3 TESTED (R481).  DEDUCED, log entry 49. -/
def State.testState (s : State) : Nat := s.fget .TST_STAT F.TST_STAT_STATE
@[inherit_doc State.testState] def State.setTest (s : State) (n : Nat) : State := s.fset .TST_STAT F.TST_STAT_STATE n

/-- Whether anything that field test mode must not meet is in progress (R476, REASON 3). -/
def State.testBlocked (s : State) : Bool :=
  s.load.busy || s.modeBusy || decide (s.staged ≠ []) || s.dozeBusy || decide (s.fget .PWR_STATE F.PWR_STATE_STATE ≠ 0) ||
    (List.range 78).any (fun p => s.bundleState p = 3) || (List.range 16).any (fun q => s.portState q = 5) ||
    s.movers.any (fun m => !m.2.inflight.isEmpty || !m.2.hubfl.isEmpty) || s.scrub.isSome || s.flashBusy || s.flash.fmt.isSome ||
    s.flash.zones.any (fun z => z.2.append.isSome || decide (z.2.after ≠ 0))

/-- The REASON with which the entry is refused (R476).  DEDUCED, log entry 49. -/
def State.testRefusal (s : State) : Nat :=
  if s.testState ≠ 0 then 4
  else if s.stageNow ≠ 4 ∧ s.stageNow ≠ 10 then 1
  else if s.spans.any (fun e => e.2.st ≠ .empty) then 2
  else if s.testBlocked then 3
  else 0

/-- Steps 5 to 7 of R385 as an entry at STAGE 4 runs them, without the flash mount (R477); `d11` runs already behind the bridge. -/
def State.testStart (s : State) (f : Found) : State :=
  let v := s.logView f.flash false
  let s1 := ((List.range 8).foldl (fun (s : State) n => s.stackStart f false n) s).setIlMode
  let s2 := (if s.bridgeEn then [10] else [10, 11]).foldl (fun (s : State) pos => s.linkStart v f false pos) s1
  s2.retrievalStart v f false

/-- Steps 1 and 2 of R477: the ports go to OFF, the stacks into self-refresh, and the bundles that run stop. -/
def State.testStops (s : State) : State :=
  let s1 := (List.range 16).foldl (fun (s : State) q => if s.portWealey q then s.portDown q 0 0 true else s) s
  let s2 := (List.range 8).foldl (fun (s : State) n =>
    if s.stackFenced n then s else s.fset (.STK_STAT (Fin.ofNat 8 n)) F.STK_STAT_STATE 3) s1
  (List.range 78).foldl (fun (s : State) p => if s.bundleLive p then s.setBundle p 3 else s) s2

/-- FIELD_TEST_ENTER (R476, R477): steps 1 and 2, after which the interconnect test runs. -/
def execFieldTestEnter (s : State) : Res State :=
  let r := s.testRefusal
  if r ≠ 0 then .next (s.fset .TST_STAT F.TST_STAT_REASON r)
  else
    let s1 := if s.stageNow = 4 then (s.testStart (Config.startFinds s.free)).tick else s
    let s2 : State := { s1.testStops with tap := { s1.tap with ran := [], fails := [], exit := false } }
    .next ((s2.fset .TST_STAT F.TST_STAT_NFAILTGT 0).setTest 2)

/-! ### The interconnect test (R478) -/

/-- The targets that the test runs on, as target × 2 + direction: the bundles and stack ports of powered dies. -/
def State.testTargets (s : State) : List Nat :=
  (List.range 78).flatMap (fun p =>
    if s.bundleState p = 3 ∨ (s.bundleState p = 5 ∧ (bundlesOf (bundleDie p)).any (fun q => s.bundleState q = 3)) then [p * 2, p * 2 + 1]
    else []) ++
  (List.range 8).flatMap (fun n => if s.fget (.STK_STAT (Fin.ofNat 8 n)) F.STK_STAT_STATE = 3 then [(78 + n) * 2] else [])

/-- The failing wires of target `k`, ascending: a bundle's direction has 72 wires, a stack's port 704. -/
def testWires (fails : List (Fin 86 × Bool × List (Fin 704))) (k : Nat) : List Nat :=
  let bad := fails.flatMap (fun x =>
    if x.1.val * 2 + (if x.1.val < 78 then b2n x.2.1 else 0) = k then x.2.2.map (·.val) else [])
  (List.range (if k < 156 then 72 else 704)).filter bad.contains

/-! ### The exit (R479) -/

/-- Applies a failing direction of a bundle: its lanes become bad. -/
def State.testLanes (s : State) (k : Nat) : State :=
  ((s.tap.fails.at k).filter (fun w => w < 70)).foldl (fun (s : State) w => s.dirUpd (k / 2) (k % 2) (fun d => d.laneBad w)) s

/-- Applies the results to bundle `p`, and trains it on the warm path (R306, R477, R479): a bundle that failed is logged with
CAUSE 3. -/
def State.testBundle (s : State) (p : Nat) (ok : Bool) : State :=
  let l := s.tap.fails.at (2 * p) ++ s.tap.fails.at (2 * p + 1)
  let s1 := (s.testLanes (2 * p)).testLanes (2 * p + 1)
  let hit := decide (l ≠ [])
  if s.bundleState p = 5 then (if hit then s1.logLanes p 5 (b2n (s.cwy.at p).clkFail) 3 ok else s1)
  else if s.bundleState p ≠ 3 then s1
  else if l.any (fun w => 70 ≤ w) then
    (if (s.tap.fails.at (2 * p)).any (fun w => 70 ≤ w) then s1.bundleUpd p (fun b => { b with clkFail := true }) else s1).retireBundle p 1 3 ok
  else match s1.bundleWidth p with
    | .full m0 m1 =>
      let s2 := ((s1.setRepair p m0 m1).bset (.CWY_STAT (bundleNo p)) F.CWY_STAT_HALF_UPPER false).setBundle p 2
      if hit then s2.logLanes p 2 0 3 ok else s2
    | .half u m0 m1 =>
      let s2 := ((s1.setRepair p m0 m1).bset (.CWY_STAT (bundleNo p)) F.CWY_STAT_HALF_UPPER u).setBundle p 4
      if hit then s2.logLanes p 4 0 3 ok else s2
    | .none => s1.retireBundle p 0 3 ok

/-- Applies the results to stack `n`, which retrains (R169, R479): one failing data or check pin is its faulty pin, more failures
fence it. -/
def State.testStack (s : State) (n : Nat) (ok : Bool) : State :=
  if s.fget (.STK_STAT (Fin.ofNat 8 n)) F.STK_STAT_STATE ≠ 3 then s
  else
    let s1 := s.fset (.STK_STAT (Fin.ofNat 8 n)) F.STK_STAT_STATE 2
    match s.tap.fails.at ((78 + n) * 2) with
    | [] => s1
    | [w] =>
      if 624 ≤ w then s1.fenceStack n 3 ok
      else if s.mem.pinFault.at n = some w then s1
      else (s1.withMem { s1.mem with pinFault := Tab.put s1.mem.pinFault n (some w) }).raise (384 + 2 * n)
    | _ => s1.fenceStack n 3 ok

/-- Steps 7 and 8 of R477: the TAP leaves EXTEST, CLAMP and HIGHZ (R480), the results are applied, and bundles, stacks and ports run
again.  DEDUCED, log entry 49. -/
def State.testExit (s : State) (ok : Bool) : State :=
  let s1 : State := { s with tap := { s.tap with exit := false, ir := if s.tap.ir = 3 ∨ s.tap.ir = 4 ∨ s.tap.ir = 5 then 0xFF else s.tap.ir } }
  let s2 := (List.range 78).foldl (fun (s : State) p => s.testBundle p ok) s1
  let s3 := (List.range 8).foldl (fun (s : State) n => s.testStack n ok) s2
  let s4 := (List.range 16).foldl (fun (s : State) q =>
    if s.portState q = 0 ∧ ¬s.dieFenced (10 + q / 8) then s.setPort q (s.portRole s.bootTier q) 0 else s) s3
  (s4.setTest 0).settle

/-- INTERCONNECT_TEST_DONE (R477, R478): TESTED, with the results; an EXIT that waits is performed. -/
def execInterconnectTestDone (fails : List (Fin 86 × Bool × List (Fin 704))) (s : State) : Res State :=
  if s.testState ≠ 2 then .next s
  else
    let ran := s.testTargets
    let bad := (ran.map (fun k => (k, testWires fails k))).filter (fun x => decide (x.2 ≠ []))
    let s1 : State := { s with tap := { s.tap with ran := ran, fails := bad.foldl (fun (t : Tab (List Nat)) x => t.put x.1 x.2) [] } }
    let s2 := (s1.fset .TST_STAT F.TST_STAT_NFAILTGT (min 255 bad.length)).setTest 3
    .next (if s2.tap.exit then (s2.testExit (Config.logWriteOk s2.free)).tick else s2)

/-- FIELD_TEST_EXIT (R477, R480): held until the test has ended. -/
def execFieldTestExit (logOk : Bool) (s : State) : Res State :=
  if s.testState = 3 then .next (s.testExit logOk)
  else if s.testState = 2 then .next { s with tap := { s.tap with exit := true } }
  else .next s

end Sys2Proof.Machine
end

