-- ==== Sys2Proof/Machine/FlashRaw.lean ====
section
/-! DEFINITION. Raw commands to open-mode LUNs (file 09_flash_storage.md, R262), and the commands of the channels, after each of which a raw
command that waits may issue. -/

namespace Sys2Proof.Machine

/-- The LUN, block and page that FLC_RAW_ADDR names. -/
def State.rawAddr (s : State) (c : Chan) : FAddr :=
  let f (x : Fld) : Nat := s.fget (.FLC_RAW_ADDR c) x
  ⟨c.val, f F.FLC_RAW_ADDR_TARGET * 4 + f F.FLC_RAW_ADDR_LUN, f F.FLC_RAW_ADDR_BLOCK, f F.FLC_RAW_ADDR_PAGE, 0⟩

/-- The shared-buffer address of FLC_RAW_BUF. -/
def State.rawBuf (s : State) (c : Chan) : Nat := sbfAddr (s.fget (.FLC_RAW_BUF c) F.FLC_RAW_BUF_OFFSET)

/-- The ticket of a raw command: 0 acts as 15. -/
def rawTicket (t : Ticket) : Nat := if t.val = 0 then 15 else t.val

/-- Writes what a raw command reads, poisoned where a unit is (R202, R262). -/
def State.rawPut (s : State) (a : Nat) (l : List Byte) (pois : Bool) : State :=
  (s.writeAt true a l (l.map (fun _ => pois)) []).st.settle

/-- One codeword of a raw page read through the stages of R243 (R262), from stage `stage` on, with the loop offsets `offs` of the read's
issue and the decodes `decs` still to come: whether it is delivered, and whether it is clean.  The fuel bounds the stages. -/
def State.rawStages (s : State) (a : FAddr) (offs : List Int) : (fuel stage : Nat) → List Decoded → State × Bool
  | 0, _, _ => (s, false)
  | f + 1, stage, decs =>
    match s.decodeStage a stage offs (decs.headD (.failed 0)) with
    | .deliver s1 pois => (s1, !pois)
    | .on s1 => match nextStage s.profile.ladderLen stage with
      | some st => (s1.stageReads a st offs).rawStages a offs f st decs.tail
      | none => (s1.unitLost a.chan, false)

/-- One decoded codeword of a raw page read (R219, R243, R262): its effects on the counters and the loop, its 4,160 bytes at the buffer,
and whether it is clean. -/
def State.rawUnit (s : State) (c : Chan) (t : Nat) (offs : List Int) (a : FAddr) (u : RawUnit) : State × Bool :=
  let s0 := s.tick.countRead (41 + c.val) t 0 s.freeTime
  let r := if (s.flash.blocks.at a.blk).prog.contains a.page then s0.rawStages a offs 18 0 u.decs else (s0, false)
  (r.1.rawPut (s.rawBuf c + 4160 * a.cw) (s.codeAt a).info (!r.2), r.2)

/-- A raw page read (R243, R248, R262). -/
def State.rawRead (s : State) (c : Chan) (j : RawJob) (raw : Bool) (units : List RawUnit) (errs : List Byte) : State :=
  let a := j.addr
  let offs := (s.flash.groups.at a.grp).list
  if raw then
    let s0 := (s.onfi a.chan a.lun onfiRead).blockUpd a.blk (fun b => { b with reads := b.reads + 1 })
    (s0.rawPut (s.rawBuf c) ((s.pageBytes a).zipIdx.map (fun x => x.1 ^^^ nth errs x.2)) false).rawEnd c 0
  else
    let k := s.lunK a.lunKey
    let s0 := s.stageReads a 0 offs
    let s1 := s0.groupUpd a.grp (fun g => if s.loopRuns c.val a.lun then { g with n := g.n + k, last := some (a.block, a.page) } else g)
    let r := (List.range k).foldl (fun (x : State × Nat) i =>
      let y := x.1.rawUnit c j.ticket offs { a with cw := i } ((units[i]?).getD ⟨[]⟩)
      (y.1, if y.2 then x.2 + 2 ^ i else x.2)) (s1, 0)
    (r.1.fset (.FLC_RAW_STAT c) F.FLC_RAW_STAT_CW_OK r.2).rawEnd c (if r.2 = 2 ^ k - 1 then 0 else 4)

/-- A page counts as programmed. -/
def State.programmed (s : State) (a : FAddr) : State :=
  s.blockUpd a.blk (fun b => { b with prog := if b.prog.contains a.page then b.prog else b.prog ++ [a.page] })

/-- The bytes in the shared buffer that a raw program takes to flash: their blocks are checked at egress (R207), which counts and
reports a mismatch and gives the program itself no other result. -/
def State.rawFetch (s : State) (c : Chan) (n : Nat) : Read :=
  let r := (s.hubPass true (s.rawBuf c) n).readAt true 5 (s.rawBuf c) n
  { r with st := r.st.settle }

/-- A raw page program (R202, R249, R262): with RAW = 0, k units of 4,160 bytes from the buffer are encoded.  DESIGN CHOICE, log
entry 18. -/
def State.rawProgram (s : State) (c : Chan) (j : RawJob) (raw pass : Bool) : State :=
  let a := j.addr
  let key := a.blk * 16384 + a.page
  let k := s.lunK a.lunKey
  let r := s.rawFetch c (if raw then ((s.flash.luns.at a.lunKey).map (·.pageBytes)).getD 0 else 4160 * k)
  let s1 := r.st.onfi a.chan a.lun onfiProgram
  if !pass then
    (((s1.cnt (.FLC_FAIL c) F.FLC_FAIL_PGM 1).blockUpd a.blk (fun b => { b with bad := 2 })).flcEvt c.val
      F.FLC_EVT_PGM_FAIL).rawEnd c 2
  else if raw then
    ((s1.flashUpd (fun f => { f with
      raws := f.raws.put key (some r.bytes)
      codes := f.codes.filter (fun e => e.1 / 8 ≠ key) })).programmed a).rawEnd c 0
  else
    let unit (i : Nat) : Code :=
      let b := (r.bytes.drop (4160 * i)).take 4160
      let p := (r.pois.drop (4160 * i)).take 4160
      ⟨b.take 4096, (List.range 16).map (fun j =>
        if ((p.drop (256 * j)).take 256).any id then ~~~ crc32c ((b.drop (256 * j)).take 256)
        else wordOf (leNat b (4096 + 4 * j) 4))⟩
    ((s1.flashUpd (fun f => { f with
      raws := f.raws.put key none
      codes := (List.range k).foldl (fun t i => t.put (key * 8 + i) (some (unit i))) f.codes })).programmed a).rawEnd c 0

/-- A raw block erase (R249, R250, R262). -/
def State.rawErase (s : State) (c : Chan) (j : RawJob) (pass : Bool) : State :=
  let s1 := s.onfi j.addr.chan j.addr.lun onfiErase
  if pass then (s1.eraseBlock j.addr.blk).rawEnd c 0
  else
    (((s1.cnt (.FLC_FAIL c) F.FLC_FAIL_ERS 1).blockUpd j.addr.blk (fun x => { x with bad := 2 })).flcEvt c.val
      F.FLC_EVT_ERS_FAIL).rawEnd c 3

/-- Performs a raw command that its channel issues (R236, R262). -/
def State.rawPerform (s : State) (c : Chan) (j : RawJob) : State :=
  let a := j.addr
  let op (l : List Nat) : State := s.onfi a.chan a.lun [l]
  if s.lunFenced c.val a.lun then s.rawEnd c 5
  else match j.op with
    | .readPage raw units errs => s.rawRead c j raw units errs
    | .program raw pass => s.rawProgram c j raw pass
    | .erase pass => s.rawErase c j pass
    | .status b => ((op [0x78]).fset (.FLC_RAW_STAT c) F.FLC_RAW_STAT_STATUS b.toNat).rawEnd c 0
    | .getFeatures _ p => ((op [0xD4]).rset (.FLC_RAW_PARAM c) p).rawEnd c 0
    | .setFeatures _ => (op [0xD5]).rawEnd c 0
    | .readId l => ((op [0x90]).rawPut (s.rawBuf c) l false).rawEnd c 0
    | .paramPage l => ((op [0xEC]).rawPut (s.rawBuf c) l false).rawEnd c 0
    | .reset same logOk =>
      let s1 := (op [0xFA]).flashUpd (fun f => { f with applied := f.applied.put a.lunKey [] })
      if same then s1.rawEnd c 0 else (s1.lunFence c.val a.lun logOk).rawEnd c 5

/-- The channel issues its next command when that is a raw one (R244). -/
def State.rawNext (s : State) (c : Chan) : State := match s.nextCmd c.val with
  | some (.raw j, i) => (s.dequeue c.val i).rawPerform c j
  | _ => s

/-- Gives a channel a raw command (R262): ignored while STATE is busy or the die is fenced; not issued before the mount has read the
labels, to a LUN that is not open-mode, or where `stop` tells of another ground.  It is performed at once unless its LUN is busy (R234) or the
channel has a command that comes before it (R244): then it waits in the queue, and STATE is busy. -/
def State.raw (s : State) (c : Chan) (stop : Bool) (t : Ticket) (op : RawOp) : State :=
  let j : RawJob := ⟨op, s.rawAddr c, rawTicket t⟩
  let l := j.addr.lun
  if s.dieFenced 9 ∨ s.fget (.FLC_RAW_STAT c) F.FLC_RAW_STAT_STATE = 1 then s
  else if stop ∨ s.fget .FLC_MOUNT F.FLC_MOUNT_STATE < 3 ∨ ¬s.isOpen c.val l ∨ (s.flash.luns.at (c.val * 32 + l)).isNone
    then s.rawEnd c 1
  else if s.canIssue c.val (.raw j) ∧ s.chanFree c.val (s.cmdRank c.val (.raw j)) then s.rawPerform c j
  else (s.flashQueue c.val (.raw j)).fset (.FLC_RAW_STAT c) F.FLC_RAW_STAT_STATE 1

/-! ### The commands -/

/-- RAW_READ_PAGE (R262). -/
def execRawReadPage (c : Chan) (raw : Bool) (t : Ticket) (units : List RawUnit) (errs : List Byte) (s : State) : Res State :=
  .next (s.raw c false t (.readPage raw units errs))

/-- RAW_PROGRAM_PAGE (R262). -/
def execRawProgramPage (c : Chan) (raw : Bool) (t : Ticket) (pass : Bool) (s : State) : Res State :=
  .next (s.raw c false t (.program raw pass))

/-- RAW_ERASE_BLOCK (R262). -/
def execRawEraseBlock (c : Chan) (t : Ticket) (pass : Bool) (s : State) : Res State := .next (s.raw c false t (.erase pass))

/-- RAW_READ_STATUS (R262): STATUS takes the LUN's status byte. -/
def execRawReadStatus (c : Chan) (t : Ticket) (status : Byte) (s : State) : Res State := .next (s.raw c false t (.status status))

/-- RAW_GET_FEATURES (R262): not issued for a read-offset feature. -/
def execRawGetFeatures (c : Chan) (feat : Byte) (t : Ticket) (p : Word) (s : State) : Res State :=
  .next (s.raw c (s.profile.offsetFeature feat.toNat) t (.getFeatures feat.toNat p))

/-- RAW_SET_FEATURES (R262): not issued for a read-offset feature; the parameter bytes go to the part. -/
def execRawSetFeatures (c : Chan) (feat : Byte) (t : Ticket) (s : State) : Res State :=
  .next (s.raw c (s.profile.offsetFeature feat.toNat) t (.setFeatures feat.toNat))

/-- RAW_READ_ID (R262): the bytes go to the buffer. -/
def execRawReadId (c : Chan) (t : Ticket) (id : List Byte) (s : State) : Res State := .next (s.raw c false t (.readId id))

/-- RAW_READ_PARAMETER_PAGE (R262): the bytes go to the buffer. -/
def execRawReadParameterPage (c : Chan) (t : Ticket) (page : List Byte) (s : State) : Res State :=
  .next (s.raw c false t (.paramPage page))

/-- RAW_RESET_LUN (R236, R262): a LUN whose parameter page differs from its discovery copy after the reset is fenced. -/
def execRawResetLun (c : Chan) (t : Ticket) (same logOk : Bool) (s : State) : Res State := .next (s.raw c false t (.reset same logOk))

/-- FLASH_READ (R236, R243, R244): the channel issues its next command when that is a read, or a later stage of one. -/
def execFlashRead (c : Chan) (s : State) : Res State := .next ((s.flashRead c.val).rawNext c)

/-- PAGE_READ_DONE (R219, R242, R243, R246): what the decoder finds in the unit of the read in progress on a LUN.
DESIGN CHOICE, log entry 7. -/
def execPageReadDone (c : Chan) (lun : Fin 32) (r : Decoded) (interval : Nat) (s : State) : Res State :=
  .next ((s.pageRead c lun r interval).rawNext c)

/-- PROBE_RESULT (R245, R246). -/
def execProbeResult (c : Chan) (lun : Fin 32) (w : Fin 4097) (s : State) : Res State := .next ((s.probeResult c lun w).rawNext c)

/-- FLASH_PROGRAM (R244, R249): the channel issues its next command when that is a page program.  On a fenced LUN it
completes with an error. -/
def execFlashProgram (c : Chan) (s : State) : Res State := .next ((s.flashProgram c.val).rawNext c)

/-- PROGRAM_STATUS (R249, R252, R254, R256, R257). -/
def execProgramStatus (c : Chan) (lun : Fin 32) (pass : Bool) (s : State) : Res State := .next ((s.programStatus c lun pass).rawNext c)

/-- ERASE_STATUS (R244, R249, R250). -/
def execEraseStatus (c : Chan) (lun : Fin 32) (pass : Bool) (s : State) : Res State := .next ((s.eraseStatus c lun pass).rawNext c)

end Sys2Proof.Machine
end

