-- ==== Sys2Proof/Machine/ModeChange.lean ====
section
/-! DEFINITION. The meanings of the messages of a mode change (file 05_spans_and_images.md, R153 to R156). -/

namespace Sys2Proof.Machine

/-- The staged fields of the pair sets that block `b` owns. -/
def State.stagedOf (s : State) (b : Nat) : List (RwpKey × Word) :=
  s.staged.filter (fun x => match x.1.set with
    | some y => decide (y.block = b)
    | none => false)

/-- The pair sets that staged fields belong to. -/
def setsOf (l : List (RwpKey × Word)) : List PairSet := (l.filterMap (fun x => x.1.set)).eraseDups

/-- The RESULT of a unit's ACK to PREPARE (R151, R153): 4 while it holds another change, 2 absent, 3 inconsistent pair set. -/
def State.unitResult (s : State) (u : MUnit) : Nat :=
  if s.stale.contains u then 4
  else match u with
    | .leaf l => if s.leafAbsent l then 2 else 0
    | .block b =>
      let l := s.stagedOf b
      if s.pairFits l (setsOf l) then 0 else 3
    | .device _ => 0

/-- The units of a group span on this device (R156): the leaves of its subtree. -/
def State.groupUnits (s : State) (i : Nat) : List MUnit := ((s.leavesOf i).eraseDups).map .leaf

/-- PREPARE_RECEIVE (R154, step 3; R156): a unit checks and stages the change, and sends ACK; a device's PREPARE starts the change
of this device's units, refused while another change is in progress.  DEDUCED, log entry 74. -/
def execPrepareReceive (u : ModeUnit) (kind : Fin 4) (x : SpanIx × Fin 65536) (s : State) : Res State :=
  match u with
  | .device d =>
    if s.modeBusy then .next (s.chainTo d.val 0x8 x.1.val [x.2.val + 4 * 131072])
    else .next (s.modeBegin kind.val x.1.val (s.groupUnits x.1.val) (some (d.val, x.2.val)))
  | u =>
    let m := unitOf u
    match s.mode with
    | some c =>
      if c.phase = 1 ∧ c.units.contains m ∧ ¬c.prepared.any (fun x => x.1 = m) then
        let r := s.unitResult m
        .next (({ s with mode := some { c with prepared := c.prepared ++ [(m, r)] } }).unitSays m 0x8 [c.id + r * 131072])
      else .next s
    | none => .next s

/-- MODE_ACK_RECEIVE (R154, R155): the hub counts an ACK.  The last one of PHASE 0 sends COMMIT, a RESULT that is not 0 sends
ABORT, and the last one of PHASE 1 ends the change. -/
def execModeAckReceive (u : ModeUnit) (phase : Fin 2) (result : Fin 5) (s : State) : Res State :=
  let m := unitOf u
  match s.mode with
  | some c =>
    let sent : Option Nat := match m with
      | .device _ => if c.units.contains m then some result.val else none
      | _ => (c.prepared.find? (fun x => x.1 = m)).map (·.2)
    let applied : Bool := match m with
      | .device _ => c.units.contains m
      | _ => c.applied.contains m
    if phase.val = 0 then
      match sent with
      | some 0 =>
        if c.phase = 1 ∧ ¬c.acked.contains m then .next (({ s with mode := some { c with acked := m :: c.acked } }).modeCommit)
        else .next s
      | some _ => .next (s.modeAbort 2)
      | none => .next s
    else if c.phase = 2 ∧ applied ∧ ¬c.done.contains m then
      .next (({ s with mode := some { c with done := m :: c.done } }).modeFinish)
    else .next s
  | none => .next s

/-- COMMIT_RECEIVE (R154, R156): a unit's staged change waits for its next step boundary; a coordinating device's COMMIT goes on to
the units of this device. -/
def execCommitReceive (u : ModeUnit) (s : State) : Res State :=
  match s.mode with
  | some c =>
    match u with
    | .device d =>
      if c.coord = some d.val ∧ c.phase = 1 ∧ c.units.all (fun u => c.acked.contains u) then .next (s.modeGo c) else .next s
    | u =>
      let m := unitOf u
      if c.phase = 2 ∧ c.prepared.contains (m, 0) ∧ ¬c.committed.contains m then
        .next { s with mode := some { c with committed := m :: c.committed } }
      else .next s
  | none => .next s

/-- Whether a unit is at a step boundary (R154): an engine between two steps, a mover or another leaf between two requests. -/
def State.atBoundary (s : State) : MUnit → Bool
  | .leaf (.engine e) => (s.engs.at e).steps.isEmpty
  | _ => true

/-- The state after block `b` has adopted its staged pair sets (R151): those that must wait stay pending. -/
def State.blockApply (s : State) (b : Nat) : State :=
  let l := s.stagedOf b
  let now := (setsOf l).filter (fun x => !s.pairWaits x)
  let wait := (setsOf l).filter s.pairWaits
  let rest := wait.flatMap (fun x => x.keys.map (fun k => (k, (written l k).getD (s.pairLive k))))
  let s1 := s.pairAdopt l now
  let s2 : State := { s1 with
    staged := s1.staged.filter (fun x => !l.any (fun y => y.1 = x.1))
    pend := s1.pend.filter (fun x => !rest.any (fun y => y.1 = x.1)) ++ rest }
  s2.pairShow

/-- MODE_APPLY (R154, step 6): a unit applies a committed change at its step boundary, and sends ACK with PHASE 1. -/
def execModeApply (u : ModeUnit) (s : State) : Res State :=
  let m := unitOf u
  match s.mode with
  | some c =>
    if c.phase = 2 ∧ c.committed.contains m ∧ ¬c.applied.contains m ∧ s.atBoundary m then
      let s1 := match m with
        | .block b => s.blockApply b
        | _ => s
      .next (({ s1 with mode := some { c with applied := m :: c.applied } }).unitSays m 0x8 [c.id + 65536])
    else .next s
  | none => .next s

/-- ABORT_RECEIVE (R155, R156): a unit discards its staged change; a coordinating device's ABORT ends the change here, with the cause that
it brings. -/
def execAbortReceive (x : ModeUnit × Fin 256) (s : State) : Res State :=
  match x.1 with
  | .device d =>
    match s.mode with
    | some c => if c.coord = some d.val ∧ c.phase = 1 then
        .next (((({ s with mode := some { c with phase := 4 } }).modeSend c 0xA (c.id + x.2.val * 65536) 0).modeShow 4 x.2.val
          c.id).raise 17)
      else .next s
    | none => .next s
  | u =>
    let m := unitOf u
    let s1 := { s with stale := s.stale.filter (· ≠ m) }
    match s1.mode with
    | some c =>
      if c.phase = 4 then .next { s1 with mode := some { c with prepared := c.prepared.filter (fun x => x.1 ≠ m) } }
      else .next s1
    | none => .next s1

/-- MODE_ACK_TIMEOUT (R155): at cycle 4,096 an ACK of a unit of this device is missing.  DESIGN CHOICE, log entry 23. -/
def execModeAckTimeout (s : State) : Res State :=
  match s.mode with
  | some c =>
    if c.phase = 1 ∧ c.units.any (fun u => (match u with | .device _ => false | _ => true) && !c.acked.contains u) then
      .next (s.modeAbort 1)
    else .next s
  | none => .next s

/-- GROUP_MODE_TIMEOUT (R156): after 16,384 fabric cycles the ACK of a device is missing. -/
def execGroupModeTimeout (s : State) : Res State :=
  match s.mode with
  | some c =>
    if c.phase = 1 ∧ c.units.any (fun u => (match u with | .device _ => true | _ => false) && !c.acked.contains u) then
      .next (s.modeAbort 1)
    else .next s
  | none => .next s

end Sys2Proof.Machine
end

