-- ==== Sys2Proof/Machine/Telemetry.lean ====
section
/-! DEFINITION. Snapshot waves, the sample ring and the latency histogram (file 16_telemetry_thermal.md, R418 to R427), and the
meanings of their commands. -/

namespace Sys2Proof.Machine

/-! ### Shadows (R425, R510) -/

/-- A shadow of registers with one of them set; a shadow that is 0 is not listed. -/
def shadowSet (l : List (Reg × Word)) (r : Reg) (v : Word) : List (Reg × Word) :=
  let rest := l.filter (fun e => e.1 ≠ r)
  if v = 0 then rest else rest ++ [(r, v)]

/-- The shadow of a register: 0 before it is first latched. -/
def shadowGet (l : List (Reg × Word)) (r : Reg) : Word := ((l.find? (fun e => e.1 = r)).map (·.2)).getD 0

/-- Latches the raw values of some registers.  DEDUCED, log entry 78. -/
def State.latch (s : State) (l : List Reg) : State :=
  { s with shadows := { s.shadows with regs := l.foldl (fun m r => shadowSet m r (s.rget r)) s.shadows.regs } }

/-- Latches the counters of some pipelines. -/
def State.latchPipes (s : State) (l : List Nat) : State :=
  { s with shadows := { s.shadows with pipes := l.foldl (fun (m : Tab (Nat × Nat × Nat)) p =>
      let u := s.retr.pipes.at p
      m.put p (u.cntQ, u.cntF, u.cntU)) s.shadows.pipes } }

/-- Latches the arithmetic counters of some sites. -/
def State.latchSites (s : State) (l : List Nat) : State :=
  s.latch (l.flatMap (fun k => (List.range 5).map (fun n => .ENG_ARITH (Fin.ofNat 128 k) (Fin.ofNat 5 n))))

/-- The hub's own counters (R420 step 2, R510): its stack controllers, the hub ends of all bundles, tickets, energies, the hottest
node, the histogram. -/
def State.latchHub (s : State) : State :=
  let stk := ((List.range 8).filter (fun n => !s.stackFenced n)).flatMap (fun n =>
    [.STK_RD_CNT (Fin.ofNat 8 n), .STK_WR_CNT (Fin.ofNat 8 n), .STK_MISS_CNT (Fin.ofNat 8 n)])
  let cwy := (List.range 78).flatMap (fun p => [.CWY_TX (bundleNo p), .CWY_RX (bundleNo p), .CWY_CRC (bundleNo p)])
  let s1 := s.latch (stk ++ cwy ++ [.PWR_ENERGY, .THM_MAX] ++ (List.range 16).map (fun b => .TEL_HIST (Fin.ofNat 16 b)))
  { s1 with shadows := { s1.shadows with
      at_ := s.tkt.at_
      held := s.tkt.res.map (fun r => (r.1, r.2.heldCnt))
      rails := s.pwr.rails.map (fun r => (r.1, r.2.uj))
      bases := (List.range 16).map (fun t => s.fget (.TKT_CLS (Fin.ofNat 16 t)) F.TKT_CLS_BASE) } }

/-- The counters of the die at position `pos` (R510). -/
def State.latchDie (s : State) (pos : Nat) : State :=
  if 1 ≤ pos ∧ pos ≤ 8 then s.latchSites ((span (16 * (pos - 1)) 16).filter (fun k => s.siteState k ≤ 1))
  else if pos = 9 then
    (s.latch ((List.range 32).flatMap (fun c => [.FLC_RD_CNT (chan c), .FLC_CE_BITS (chan c), .FLC_RETRY (chan c),
      .FLC_UE (chan c), .FLC_PROBE (chan c)]))).latchPipes (List.range 64)
  else if pos = 10 ∨ pos = 11 then
    s.latch ((span (8 * (pos - 10)) 8).flatMap (fun q => [ltxReg q, lrxReg q, lfecReg q]))
  else s

/-! ### Cuts (R422) -/

/-- The key of a direction of a counted channel (0 to 77 a bundle, 78 to 93 a port; direction 0 hub to die, or outbound). -/
def cutKey (chan dir : Nat) : Nat := chan * 2 + dir

/-- The state with a cut changed. -/
def State.cutUpd (s : State) (k : Nat) (f : Cut → Cut) : State :=
  { s with wave := { s.wave with cuts := s.wave.cuts.upd k f } }

/-- The ID of the wave in progress, or of the last one. -/
def State.waveId (s : State) : Nat := s.fget .TEL_SNAP_STAT F.TEL_SNAP_STAT_ID

/-- A receiver's comparison of R422: the smaller of RCVD and SENT, by their wrap-aware 32-bit difference. -/
def cutMin (rcvd sent : Nat) : Nat := if (rcvd + 2 ^ 32 - sent) % 2 ^ 32 < 2 ^ 31 then sent else rcvd

/-- The sender of direction `dir` of a channel latches its count. -/
def State.cutSent (s : State) (chan dir n : Nat) : State :=
  s.cutUpd (cutKey chan dir) (fun c =>
    if c.id = s.waveId then { c with sent := n % 2 ^ 32 }
    else { c with sent := n % 2 ^ 32, flag := false, marked := false, id := s.waveId })

/-- A sender at an end of bundle `p` latches its count, and a copy of the marker goes beside the bundle. -/
def State.bundleSent (s : State) (p dir n : Nat) : State := (s.cutSent p dir n).emit (.marker p (n % 2 ^ 32))

/-- The receiver of direction `dir` of a channel latches its count. -/
def State.cutRcvd (s : State) (chan dir n : Nat) : State :=
  s.cutUpd (cutKey chan dir) (fun c => { c with rcvd := n % 2 ^ 32, flag := false, marked := false, id := s.waveId })

/-- The copy of the marker arrives at a receiver (R422). -/
def State.cutMark (s : State) (chan dir sent : Nat) : State :=
  s.cutUpd (cutKey chan dir) (fun c => { c with rcvd := cutMin c.rcvd sent, flag := false, marked := true })

/-- The words of the SNAPSHOT payload (R421): ID and ORIGIN of a group wave are those of the device that started it.  DEDUCED, log entry 89. -/
def State.markerWords (s : State) (sent : Nat) : List Nat :=
  let w := s.wave
  let who := if w.scope = 2 then w.seen.getD (0, s.waveId) else (0, s.waveId)
  [who.2 + w.scope * 65536 + who.1 * 2 ^ 18, w.span, sent]

/-- The marker of a group wave goes out on port `q` in the Wealey control class, with the port's latched count (R424). -/
def State.markerOut (s : State) (q n : Nat) : State :=
  let m : ChainMsg := { cls := 0x6, toSpan := false, dest := 0, src := 0, tag := 0, words := s.markerWords (n % 2 ^ 32), lanes := [] }
  let x : Entry := { kind := 1, urg := urgentClass 0x6, src := Fin.ofNat 64 s.devNum
                     dst := Fin.ofNat 64 (s.fget (pstatReg q) F.LNK_PSTAT_PEER_DEV), bcast := false, words := (m.header :: m.words).map wordOf }
  s.portUpd q (fun u => { u with due := u.due ++ [x] })

/-- The ends of the counted channels that a die holds (R422); under a group wave a link die sends the marker on its ports in RUN but the
one by which it came (R424).  DEDUCED, log entry 89. -/
def State.latchEnds (s : State) (pos : Nat) : State :=
  let s1 := ((bundlesOf pos).filter s.bundleLive).foldl (fun (s : State) p =>
    (s.cutRcvd p 0 (s.dirOf p 0).acc).bundleSent p 1 (s.dirOf p 1).sent) s
  if pos = 10 ∨ pos = 11 then
    ((span (8 * (pos - 10)) 8).filter (fun q => s.portState q = 4)).foldl (fun (s : State) q =>
      let n := (s.rget (ltxReg q)).toNat
      let s2 := (s.cutSent (78 + q) 0 n).cutRcvd (78 + q) 1 (s.rget (lrxReg q)).toNat
      if s.wave.scope = 2 ∧ s.wave.port ≠ some q then s2.markerOut q n else s2) s1
  else s1

/-! ### Waves (R419, R420) -/

/-- Whether the die at `pos` takes part in a device wave: not fenced, not in Doze, and released.  DEDUCED, log entry 81. -/
def State.waveDie (s : State) (pos : Nat) : Bool :=
  !s.dieFenced pos && (if 1 ≤ pos ∧ pos ≤ 8 then s.dieRuns (pos - 1) else true)

/-- The dies that hold leaves of a span's subtree. -/
def State.spanDies (s : State) (i : Nat) : List Nat :=
  (span 1 9).filter (fun pos => s.waveDie pos && (s.leavesOf i).any (fun l => match l with
    | .engine e => decide (e / 12 + 1 = pos)
    | .re _ => decide (pos = 9)
    | _ => false))

/-- The hub's ends of the bundles in scope. -/
def State.waveChannels (s : State) (dies : List Nat) : State :=
  ((List.range 78).filter (fun p => dies.contains (bundleDie p) && s.bundleLive p)).foldl (fun (s : State) p =>
    (s.bundleSent p 0 (s.dirOf p 0).sent).cutRcvd p 1 (s.dirOf p 1).acc) s

/-- The SNAPSHOT marker goes out on every chain entry of the dies in scope (R420, R421): a copy carries the latched count of its bundle. -/
def State.waveMarkers (s : State) (dies : List Nat) : State :=
  (dies.flatMap s.dieLanes).foldl (fun (s : State) p => s.chainSend 0
    { cls := 0x6, toSpan := decide (s.wave.scope = 1), dest := if s.wave.scope = 1 then s.wave.span else 0, src := 0, tag := 0
      words := s.markerWords (if s.wave.scope = 1 then 0 else (s.dirOf p 0).sent % 2 ^ 32), lanes := [p] }) s

/-- Starts a wave (R420 steps 1 to 3): the hub latches, and the marker goes to every die in scope; `origin` is the device that
started a group wave, when it is another one; SKIPPED counts the dies, the stacks and the hub that do not latch (R425).  DEDUCED, log
entry 81. -/
def State.waveBegin (s : State) (scope sp : Nat) (origin : Option Nat) : State :=
  let id := (s.waveId + 1) % 65536
  let dies := if scope = 1 then s.spanDies sp else (span 1 11).filter s.waveDie
  let skipped := ((span 1 11).filter (fun p => !s.waveDie p)).length + ((List.range 8).filter s.stackFenced).length
  let s1 := ((((s.fset .TEL_SNAP_STAT F.TEL_SNAP_STAT_STATE 1).fset .TEL_SNAP_STAT F.TEL_SNAP_STAT_SCOPE scope).fset
    .TEL_SNAP_STAT F.TEL_SNAP_STAT_MISSING 0).fset .TEL_SNAP_STAT F.TEL_SNAP_STAT_ID id).fset .TEL_SNAP_SKIP
    F.TEL_SNAP_SKIP_SKIPPED (if scope = 1 then 20 - dies.length else skipped)
  let s2 : State := { s1 with wave := { s1.wave with
    running := true, scope := scope, span := sp, origin := origin, dies := dies, latched := [], reported := []
    devs := [], ended := false } }
  (if scope = 1 then s2 else (s2.latchHub).waveChannels dies).waveMarkers dies

/-- Flags the channels received here whose marker copy has not arrived (R422), and those of a die fenced or in Doze by then (R435).
DEDUCED, log entry 89. -/
def State.waveFlags (s : State) : State :=
  { s with wave := { s.wave with cuts := s.wave.cuts.map (fun (c : Nat × Cut) =>
      if c.2.id = s.waveId ∧ ((¬c.2.marked ∧ (c.1 < 156 ∨ c.1 % 2 = 1)) ∨ (c.1 < 156 ∧ !s.waveDie (bundleDie (c.1 / 2)))) then (c.1, { c.2 with flag := true }) else c) } }

/-- The counters of span `i` (R34): the sums of its members' counters as they are latched, the five arithmetic counters of its engines, then
the three counters of its pipelines.  DEDUCED, log entry 91. -/
def State.spanSums (s : State) (i : Nat) : List Nat :=
  let total (l : List Nat) : Nat := l.foldl (· + ·) 0
  let sites := (s.enginesOf i).map s.siteOf
  let pipes := (s.entryPipes (s.subtree i)).map (fun p => s.shadows.pipes.at p)
  (List.range 5).map (fun n => total (sites.map (fun k =>
    (shadowGet s.shadows.regs (.ENG_ARITH (Fin.ofNat 128 k) (Fin.ofNat 5 n))).toNat))) ++
    [total (pipes.map (·.1)), total (pipes.map (·.2.1)), total (pipes.map (·.2.2))]

/-- Latches the sums of the span of a span wave (R34, R419). -/
def State.latchSums (s : State) : State :=
  if s.wave.scope = 1 then { s with shadows := { s.shadows with sums := s.shadows.sums.put s.wave.span (s.spanSums s.wave.span) } } else s

/-- A wave ends (R420, R424): DONE with source 28, or INCOMPLETE with source 29.  DEDUCED, log entry 81. -/
def State.waveClose (s : State) (done : Bool) : State :=
  let s1 := (s.fset .TEL_SNAP_STAT F.TEL_SNAP_STAT_STATE (if done then 2 else 3)).bset .TEL_EVT
    (if done then F.TEL_EVT_DONE else F.TEL_EVT_INCOMPLETE) true
  let s2 := s1.waveFlags.latchSums
  { s2 with wave := { s2.wave with running := false, last := s2.waveId } }.raise (if done then 28 else 29)

/-- Whether a device of the group has not answered (R424): a bit of TEL_GRP_MISS. -/
def State.missDev (s : State) (d : Nat) : State :=
  if d < 32 then s.fset .TEL_GRP_MISS_LO ⟨d, 1⟩ 1 else s.fset .TEL_GRP_MISS_HI ⟨d - 32, 1⟩ 1

/-- Whether the wave has missed nothing: no die, and no device of a group wave that this device started (R420, R424). -/
def State.waveWhole (s : State) : Bool :=
  decide (s.fget .TEL_SNAP_STAT F.TEL_SNAP_STAT_MISSING = 0) && (decide (s.wave.scope ≠ 2) || s.wave.origin.isSome ||
    (decide (s.rget .TEL_GRP_MISS_LO = 0) && decide (s.rget .TEL_GRP_MISS_HI = 0)))

/-- A span wave, over the leaves of its subtree alone (R419, R423). -/
def State.spanWave (s : State) (sp : Nat) : State :=
  let s1 := s.waveBegin 1 sp none
  if s1.wave.dies = [] then s1.waveClose true else s1

/-- The device's own part of a wave has ended: a group wave waits for the other devices, and one of another device is answered
(R424); then a held span wave starts (R419). -/
def State.waveOwnEnd (s : State) : State :=
  let fin := fun (s : State) =>
    match s.wave.held with
    | some i => ({ s with wave := { s.wave with held := none } } : State).spanWave i
    | none => s
  if s.wave.scope = 2 then
    match s.wave.origin with
    | some d =>
      fin ((s.waveClose s.waveWhole).chainTo d 0xD 0xFFF [s.waveId])
    | none => if s.wave.devs = [] then fin (s.waveClose s.waveWhole) else { s with wave := { s.wave with ended := true } }
  else fin (s.waveClose s.waveWhole)

/-- A die has reported, or is not to be waited for. -/
def State.waveReport (s : State) (pos : Nat) : State :=
  let s1 : State := { s with wave := { s.wave with reported := s.wave.reported ++ [pos] } }
  if s1.wave.dies.all s1.wave.reported.contains then s1.waveOwnEnd else s1

/-- A device of a group wave has answered, or counts as missing (R424). -/
def State.waveAnswer (s : State) (d : Nat) : State :=
  let s1 : State := { s with wave := { s.wave with devs := s.wave.devs.filter (fun x => x ≠ d) } }
  if s1.wave.ended ∧ s1.wave.devs = [] then
    let s2 := s1.waveClose s1.waveWhole
    match s2.wave.held with
    | some i => ({ s2 with wave := { s2.wave with held := none } } : State).spanWave i
    | none => s2
  else s1

/-- A device becomes LOST during a group wave (R424). -/
def State.waveLost (s : State) (d : Nat) : State :=
  if s.wave.running ∧ s.wave.devs.contains d then (s.missDev d).waveAnswer d else s

/-- A wave of device or group scope, whose own part ends at once when no die takes part. -/
def State.deviceWave (s : State) (scope : Nat) (origin : Option Nat) (devs : List Nat) : State :=
  let s1 := s.waveBegin scope 0xFFF origin
  let s2 : State := { s1 with wave := { s1.wave with devs := devs } }
  if s2.wave.dies = [] then s2.waveOwnEnd else s2

/-- A request that is not performed (R419). -/
def State.waveDropped (s : State) : State := s.cnt .TEL_SNAP_STAT F.TEL_SNAP_STAT_DROPPED 1

/-- SNAPSHOT_DEVICE (R419). -/
def execSnapshotDevice (s : State) : Res State :=
  if s.wave.running then .next s.waveDropped else .next (s.deviceWave 0 none [])

/-- SNAPSHOT_GROUP (R419, R424): on a numbered device; every other numbered device that is not LOST is to answer.
DEDUCED, log entry 89. -/
def execSnapshotGroup (s : State) : Res State :=
  if s.wave.running || !s.numbered then .next s.waveDropped
  else
    .next (({ s with wave := { s.wave with seen := some (s.devNum, (s.waveId + 1) % 65536), port := none } }.rset .TEL_GRP_MISS_LO 0).rset
      .TEL_GRP_MISS_HI 0 |>.deviceWave 2 none
      (s.devices.filter (fun d => d ≠ s.devNum && !s.lostDevs.contains d)))

/-- A snapshot of span `i` (R131, R419): held while a wave is in progress, one deep. -/
def State.spanSnapshot (s : State) (i : Nat) : State :=
  let st := (s.spans.at i).st
  if st = .empty ∨ st = .loading ∨ s.underLoading i then s.cmdErr
  else if ¬s.wave.running then s.spanWave i
  else if s.wave.held.isNone then { s with wave := { s.wave with held := some i } }
  else s.waveDropped.cmdErr

/-- SPAN_SNAPSHOT (R34, R131, R419). -/
def execSpanSnapshot (sp : SpanIx) (s : State) : Res State := .next ((s.groupCmd sp.val 4 0 0).spanSnapshot sp.val)

/-- The counters that a die latches as the first copy of the marker reaches it (R420 step 4): all of the die, or the leaves of a
span wave. -/
def State.dieLatch (s : State) (pos : Nat) : State :=
  let s1 : State := { s with wave := { s.wave with latched := s.wave.latched ++ [pos] } }
  if s.wave.scope = 1 then
    if pos = 9 then s1.latchPipes (s.entryPipes (s.subtree s.wave.span))
    else s1.latchSites (((s.enginesOf s.wave.span).filter (fun e => e / 12 + 1 = pos && !s.absent e)).map s.siteOf)
  else (s1.latchDie pos).latchEnds pos

/-- Whether a copy of the marker belongs to this device's wave: one within the device by its ID, while the wave runs; one on a port by
the device that started the group wave and the ID that this device gave it.  DEDUCED, log entry 89. -/
def State.markerHere (s : State) (m : Marker) : Bool :=
  if m.chan.val < 78 then s.wave.running && decide (m.id.val = s.waveId)
  else (m.origin.map (fun d => (d.val, m.id.val))).any (fun x => s.wave.seen = some x)

/-- The first copy of another device's group wave begins this device's part, unless a wave is in progress (R419, R424). -/
def State.markerJoin (s : State) (m : Marker) : State :=
  match m.origin with
  | some d =>
    if m.chan.val < 78 ∨ s.wave.running ∨ d.val = s.devNum ∨ s.wave.seen = some (d.val, m.id.val) then s
    else { s with wave := { s.wave with seen := some (d.val, m.id.val), port := some (m.chan.val - 78) } }.deviceWave 2 (some d.val) []
  | none => s

/-- SNAPSHOT_MARKER (R420, R422, R424): the first copy makes a unit latch; every copy beside a counted channel settles the cut of
that channel; a group wave's marker from another device starts this device's part. -/
def execSnapshotMarker (m : Marker) (s : State) : Res State :=
  let s0 := s.markerJoin m
  if !s0.markerHere m then .next s0
  else
    let pos := m.at_.val
    let s1 := if s0.wave.running ∧ pos ≠ 0 ∧ s0.wave.dies.contains pos ∧ !s0.wave.latched.contains pos ∧ s0.waveDie pos then s0.dieLatch pos
      else s0
    let dir := if m.chan.val < 78 then (if pos = 0 then 1 else 0) else 1
    let k := cutKey m.chan.val dir
    if s1.wave.scope = 1 ∨ (s1.wave.cuts.at k).id ≠ s1.waveId ∨ (s1.wave.cuts.at k).marked then .next s1
    else .next (s1.cutMark m.chan.val dir m.sent.toNat)

/-- WAVE_STATUS_RECEIVE (R420, R424): a die of this device that has latched, or a device of the group. -/
def execWaveStatusReceive (pos : Fin 20) (dev : Option Dev) (s : State) : Res State :=
  match dev with
  | some d => if s.wave.running ∧ s.wave.devs.contains d.val then .next (s.waveAnswer d.val) else .next s
  | none =>
    if s.wave.running ∧ s.wave.dies.contains pos.val ∧ s.wave.latched.contains pos.val ∧ !s.wave.reported.contains pos.val ∧
        ¬s.wave.ended ∧ s.waveDie pos.val then
      .next (s.waveReport pos.val)
    else .next s

/-- WAVE_TIMEOUT (R420): the dies that have not reported count in MISSING. -/
def execWaveTimeout (s : State) : Res State :=
  if s.wave.running ∧ ¬s.wave.ended then
    .next (s.cnt .TEL_SNAP_STAT F.TEL_SNAP_STAT_MISSING
      (s.wave.dies.filter (fun p => !s.wave.reported.contains p)).length).waveOwnEnd
  else .next s

/-- GROUP_WAVE_TIMEOUT (R424): the devices that have not answered are missing. -/
def execGroupWaveTimeout (s : State) : Res State :=
  if s.wave.running ∧ s.wave.devs ≠ [] then .next (s.wave.devs.foldl State.waveLost s) else .next s

/-! ### The sample ring (R426) -/

/-- TDIE_n of a sample record: the hottest model temperature of a die in °C + 40. -/
def State.sampleTemp (s : State) (pos : Nat) : Nat :=
  if s.dieFenced pos then 0
  else
    let l := (span (nodeBase pos) (nodeCount pos)).map (fun n => s.thm.temps.at n)
    let t := l.foldl max (nth l 0)
    min 255 ((t / 1000000 + 40).toNat)

/-- The bytes of sample record `i` (R426). -/
def State.sampleRecord (s : State) (i : Nat) : List Byte :=
  toBytes 4 i ++ toBytes 4 s.pwr.intervals ++
    toBytes 4 (s.fget .PWR_PKG F.PWR_PKG_POWER_W + s.fget .PWR_STAT F.PWR_STAT_CAPPING * 4096
      + s.fget .PWR_STAT F.PWR_STAT_EXHAUSTED * 8192) ++
    toBytes 4 s.stepsWord ++ (List.range 20).map (fun p => byteOf (s.sampleTemp p)) ++
    toBytes 4 (s.rget .THM_WARN).toNat ++ toBytes 4 (s.rget .THM_THROT).toNat ++ toBytes 4 0 ++
    toBytes 4 ((s.rget .TKT_MISS).toNat % 65536) ++ List.replicate 12 0

/-- TEL_SAMPLE (R426): a record is written, or, when it would overwrite the one at TEL_RING_RD, lost with OVF and source 30. -/
def execTelSample (s : State) : Res State :=
  let wr := (s.rget .TEL_RING_WR).toNat
  let rd := (s.rget .TEL_RING_RD).toNat
  let n := s.fget .TEL_RING_LEN F.TEL_RING_LEN_LEN / 64
  if !s.bget .TEL_RING_CTL F.TEL_RING_CTL_EN || decide (n = 0) then .next s
  else if n ≤ (wr + 2 ^ 32 - rd) % 2 ^ 32 then
    .next (if s.bget .TEL_EVT F.TEL_EVT_OVF then s else (s.bset .TEL_EVT F.TEL_EVT_OVF true).raise 30)
  else
    .next ((s.hubWrite (sbfAddr (s.fget .TEL_RING_BASE F.TEL_RING_BASE_BASE + wr % n * 64)) (s.sampleRecord wr)).wrap .TEL_RING_WR
      F.TEL_RING_WR_INDEX 1)

/-- TEL_RING_READ_ADVANCE (R437): ignored when it goes backwards or beyond TEL_RING_WR. -/
def execTelRingReadAdvance (v : Word) (s : State) : Res State :=
  let rd := s.rget .TEL_RING_RD
  if (v - rd).toNat ≤ (s.rget .TEL_RING_WR - rd).toNat then .next (s.rset .TEL_RING_RD v) else .next s

/-- HIST_SELECT (R427): the selection, and its sixteen counts cleared. -/
def execHistSelect (v : Word) (s : State) : Res State :=
  .next ((List.range 16).foldl (fun (s : State) b => s.rset (.TEL_HIST (Fin.ofNat 16 b)) 0) (s.rset .TEL_HIST_SEL (v &&& 0xF7F)))

end Sys2Proof.Machine
end

