-- ==== Sys2Proof/Machine/Links.lean ====
section
/-! DEFINITION. The meanings of the Wealey links' commands (file 12_wealey_links_host.md, R319 to R340), but for the frames that
arrive: codewords, control slices, ports, discovery, routes, frames that are sent, expire or are held, devices lost. -/

namespace Sys2Proof.Machine

/-! ### Codewords and control slices -/

/-- CODEWORD_RECEIVE (R321, R329, R331): corrected symbols and counted slices, or an uncorrectable codeword: the counted slices from there
on are discarded until its NAK has been sent; at UCW_THR of them within 2^24 codewords a port in RUN retrains.  DESIGN CHOICE, log entry 25. -/
def execCodewordReceive (p : Port) (corrected : Fin 16) (bad : Bool) (counted : Fin 11) (s : State) : Res State :=
  let q := p.val
  if s.portState q ≠ 4 ∧ s.portState q ≠ 3 then .next s
  else
    let u := s.ports.at q
    let n := if u.cws + 1 = 16777216 then 0 else u.cws + 1
    let w := if n = 0 then 0 else u.ucws + b2n bad
    let thr := max 1 (s.fget (.LNK_CTL (Fin.ofNat 2 (q / 8))) F.LNK_CTL_UCW_THR)
    let s1 := s.portUpd q (fun x => { x with cws := n, ucws := w, total := x.total + 1 })
    if bad then
      let s2 := (s1.cnt (ucwReg q) F.LNK_UCW_UCW 1).portUpd q (fun x => { x with nak := true })
      .next (if s.portState q = 4 ∧ thr ≤ u.ucws + 1 then s2.portRetrainStart q else s2)
    else
      let k := if u.nak then 0 else counted.val
      .next (((s1.cnt (lfecReg q) F.LNK_FEC_CORR corrected.val).wrap (lrxReg q) F.LNK_RX_SLICES k).portUpd q
        (fun x => { x with rxSeq := (x.rxSeq + k) % 65536 }))

/-- Sends again what the replay buffer of a port holds (R329). -/
def State.replaySent (s : State) (q : Nat) : State :=
  (s.ports.at q).sent.foldl (fun (s : State) x => match x.2 with
    | .inl f => s.emit (.frame q f)
    | .inr e => s.emit (.entry q e)) s

/-- Whether the slice counted `n` is acknowledged by ACK `a` (modulo 2^16). -/
def ackCovers (a n : Nat) : Bool := (a + 65536 - n % 65536) % 65536 < 32768

/-- The coefficient step of TXREQ (R327, R332): one 64th up or down, of an 8-bit signed value. -/
def PortUnit.txStep (u : PortUnit) (x : Byte) : PortUnit :=
  let k := x.toNat % 16
  let d := bits x.toNat 4 2
  let v := u.taps.at k
  if d = 1 then { u with taps := u.taps.put k (min 127 (v + 1)) }
  else if d = 2 then { u with taps := u.taps.put k (max (-128) (v - 1)) }
  else u

/-- CONTROL_SLICE_RECEIVE (R327 to R329, R332): acknowledged slices leave the replay buffer; NAK replays the others, and starts a retrain
when eight successive replays have failed; credits and a coefficient step are applied. -/
def execControlSliceReceive (p : Port) (ack : Fin 65536) (nak : Bool) (crReq crRsp : Fin 65536) (crCtl : Fin 256) (txreq : Byte)
    (s : State) : Res State :=
  let q := p.val
  if s.portState q ≠ 4 ∧ s.portState q ≠ 3 then .next s
  else
    let u := s.ports.at q
    let left := u.sent.filter (fun x => !ackCovers ack.val x.1)
    let moved := decide (left.length < u.sent.length)
    let fails := if nak then (if moved then 1 else u.fails + 1) else if moved then 0 else u.fails
    let s1 := s.portUpd q (fun x => { (x.txStep txreq) with
      acked := ack.val, sent := left, fails := fails
      crReq := min 4096 (x.crReq + crReq.val), crRsp := min 2048 (x.crRsp + crRsp.val), crCtl := min 64 (x.crCtl + crCtl.val) })
    if !nak then .next s1
    else
      let s2 := (s1.cnt (ucwReg q) F.LNK_UCW_REPLAY 1).replaySent q
      .next (if s.portState q = 4 ∧ 9 ≤ fails then s2.portRetrainStart q else s2)

/-- A message of device `d` about group span `i` acts on this device's part of it (R34, R36, R76, R88, R156): a command or a doorbell, a
signal or an abort of a synchronisation point, a fault record, a quiet STATUS, a message of a mode change.  `l` are its payload words; none
where it is another.  DESIGN CHOICE, log entry 99. -/
def State.groupTake (s : State) (d : Dev) (cls i : Nat) (l : List Nat) : Option (Res State) :=
  let sp : SpanIx := Fin.ofNat 4096 i
  let mine (w : Nat) : Bool := s.mode.any (fun c => decide (c.id = w % 65536))
  match cls, l with
  | 0x3, [w, arg] =>
    let cmd := w % 16
    let t := w / 16 % 16
    some (.next (if cmd = 8 then s.ringSpan i arg t else if cmd = 4 then s.spanSnapshot i
      else (s.spanCommand i cmd arg t).degradeCheck))
  | 0x2, [p] => some (if p < 256 then execSyncSignal sp (Fin.ofNat 256 p) (.device d) s else .next (s.abortPoints i [p % 256]))
  | 0xD, [w1, w2, w3] => some (.next (s.abortLocal i (w1 + w2 % 8 * 2 ^ 32 + w3 * 2 ^ 64 + w2 / 65536 * 2 ^ 96)).settle)
  | 0xD, [_, _] => some (.next (s.spanUpd i (fun e => { e with drained := e.drained ||| 2 ^ d.val })))
  | 0x7, [w, _] => some (execPrepareReceive (.device d) (Fin.ofNat 4 (w / 65536)) (sp, Fin.ofNat 65536 w) s)
  | 0x8, [w] => some (if mine w then execModeAckReceive (.device d) (Fin.ofNat 2 (bits w 16 1)) (Fin.ofNat 5 (bits w 17 3)) s else .next s)
  | 0x9, [w] => some (if mine w then execCommitReceive (.device d) s else .next s)
  | 0xA, [w] => some (if mine w then execAbortReceive (.device d, Fin.ofNat 256 (bits w 16 8)) s else .next s)
  | _, _ => none

/-- CHAIN_ENTRY_RECEIVE (R36, R123, R327, R405): an entry for another device goes on towards it; one for this device acts on its part of a
group span or joins the chain network; an interrupt message at device 0 becomes its function's vector. -/
def execChainEntryReceive (p : Port) (x : Entry) (s0 : State) : Res State :=
  if s0.portState p.val ≠ 4 then .next s0
  else
    let s := s0.entryFreed p.val
    let w := fun i => ((x.words[i]?).getD 0).toNat
    let cls := bits (w 0) 0 4
    let here := x.bcast || decide (x.dst.val = s.devNum)
    if !here then .next (s.entryOut x)
    else if s.bridgeEn ∧ cls = 0xD ∧ bits (w 0) 6 1 = 0 ∧ bits (w 0) 4 2 = 2 then
      let fn := bits (w 1) 0 5
      let v := bits (w 2) 0 11
      if fnVectors fn ≤ v then .next (s.cnt .HBR_ERR F.HBR_ERR_COUNT 1)
      else if !(s.fns.at fn).en || (s.fns.at fn).fmask || (s.fns.at fn).masked.contains v then
        .next { s with fns := s.fns.upd fn (fun f => { f with pending := f.pending.insert v }) }
      else .next (s.msixOut fn v)
    else
      let m := ChainMsg.parse ((x.words.map (·.toNat)).take (1 + bits (w 0) 4 2))
      match (if m.toSpan then s.groupTake x.src cls m.dest m.words else none) with
      | some r => r
      | none => .next (s.chainSend ((s.dieLanes (10 + p.val / 8)).headD 0 + 1) { m with lanes := s.lanesFor m })

/-! ### Frames sent (R328) -/

/-- Whether request frames of this device to `d` wait (R337). -/
def State.draining (s : State) (d : Nat) : Bool :=
  s.grp.drains.any (fun x => x.1 = d && x.2.any (fun t => s.grp.tags.any (fun y => y.1 = t)))

/-- Whether port `q` can start frame `f` now: its route, credit for all of its slices, room in the replay buffer, a tag, and no
wait of R337. -/
def State.frameReady (s : State) (q : Nat) (f : Frame) : Bool :=
  let u := s.ports.at q
  let n := frameSlices f
  let own := frameRequest f && decide (f.src.val = s.devNum)
  decide (s.framePort f = some q) && decide (n ≤ if frameRequest f then u.crReq else u.crRsp) &&
    decide ((u.txSeq + 65536 - u.acked) % 65536 + n ≤ 2048) &&
    (!own || (decide (s.grp.tags.length < 16384) && !s.draining f.dst.val))

/-- The frame that port `q` starts next: RSP and REQ alternate when both are ready, each in its order of arrival. -/
def State.nextFrame (s : State) (q : Nat) : Option Frame :=
  let first := fun (r : Bool) => s.grp.frames.find? (fun f => frameRequest f == r && s.frameReady q f)
  match first true, first false with
  | some a, some b => if (s.ports.at q).rspTurn then some b else some a
  | a, b => a.orElse (fun _ => b)

/-- Sends a frame on a port (R324, R336): HOPS and DOWN as this hop makes them. -/
def State.frameGo (s : State) (q : Nat) (f : Frame) : State :=
  let up := s.hopUp s.devNum (s.fget (pstatReg q) F.LNK_PSTAT_PEER_DEV)
  let g : Frame := { f with hops := Fin.ofNat 64 (f.hops.val + 1), down := f.down || !up }
  let n := frameSlices f
  let own := frameRequest f && decide (f.src.val = s.devNum)
  let s1 := s.grpUpd (fun x => { x with
    frames := x.frames.erase f
    tags := if own && !x.tags.contains (f.tag.val, f.dst.val) then x.tags ++ [(f.tag.val, f.dst.val)] else x.tags })
  let s2 := s1.portUpd q (fun u => { u with
    txSeq := (u.txSeq + n) % 65536, sent := u.sent ++ [((u.txSeq + n) % 65536, .inl f)], rspTurn := frameRequest f, since := u.since + n
    crReq := if frameRequest f then u.crReq - n else u.crReq, crRsp := if frameRequest f then u.crRsp else u.crRsp - n })
  (s2.wrap (ltxReg q) F.LNK_TX_SLICES n).emit (.frame q g)

/-- The control entry that port `q` sends next: urgent ones first. -/
def State.nextEntry (s : State) (q : Nat) : Option Entry :=
  let mine := s.grp.entries.filter (fun x => s.entryPort x = some q)
  (mine.find? (fun x => x.urg)).orElse (fun _ => mine.head?)

/-- Sends a control entry on a port, in one counted slice with the link fields (R327). -/
def State.entryGo (s : State) (q : Nat) (x : Entry) : State :=
  let own := (s.ports.at q).due ≠ []
  let s1 := (if own then s else s.grpUpd (fun g => { g with entries := g.entries.erase x })).portUpd q (fun u => { u with
    due := u.due.tail
    txSeq := (u.txSeq + 1) % 65536, sent := u.sent ++ [((u.txSeq + 1) % 65536, .inr x)], crCtl := u.crCtl - 1 })
  ((s1.wrap (ltxReg q) F.LNK_TX_SLICES 1).reportGo q).emit (.entry q x)

/-- The control entry that port `q` can send now: a credit for it, and room in the replay buffer (R329). -/
def State.readyEntry (s : State) (q : Nat) : Option Entry :=
  let u := s.ports.at q
  (u.due.head?.orElse (fun _ => s.nextEntry q)).filter (fun _ => decide (0 < u.crCtl ∧ (u.txSeq + 65536 - u.acked) % 65536 < 2048))

/-- FRAME_SEND (R328): a control slice goes first, then a report when 64 slices have passed since the last one, then a new frame with its
slices, else an IDLE slice. -/
def execFrameSend (p : Port) (s : State) : Res State :=
  let q := p.val
  if s.portState q ≠ 4 then .next s
  else match s.readyEntry q with
    | some x => .next (s.entryGo q x)
    | none =>
      if 64 ≤ (s.ports.at q).since then .next (s.reportGo q)
      else match s.nextFrame q with
        | some f => .next (s.frameGo q f)
        | none => .next (s.portUpd q (fun u => { u with since := u.since + 1 }))

/-- What becomes of a frame that has no route for 1 ms, or arrives with HOPS 63 (R338): a request completes to its requester with
STATUS 3; a response is discarded. -/
def State.frameLost (s : State) (f : Frame) : State :=
  if frameRequest f then
    let s1 := (s.cnt .LNK_EXP F.LNK_EXP_EXPIRED 1).raise 340
    if f.src.val = s.devNum then
      s1.tagDone f.tag.val 3 [] []
    else
      s1.frameOut { f with typ := 4, src := Fin.ofNat 64 s.devNum, dst := f.src, down := false, hops := 0, status := 3, len := 0
                           segcrc := [], data := [], pois := [] }
  else s

/-- FRAME_EXPIRE (R338): the frame held longest. -/
def execFrameExpire (s : State) : Res State :=
  match s.heldFrames.head? with
  | none => .next s
  | some f => .next ((s.grpUpd (fun g => { g with frames := g.frames.erase f })).frameLost f)

/-! ### Ports (R330, R331) -/

/-- The tier that HELLO reports (R327). -/
def State.helloTier (s : State) : Nat := s.bootTier

/-- The HELLO entry that this device sends on port `q` (R327, R334). -/
def State.helloEntry (s : State) (q : Nat) : Entry :=
  { kind := 2, urg := false, src := Fin.ofNat 64 s.devNum, dst := 0, bcast := false
    words := [wordOf s.fuses.serial,
      wordOf ((if s.numbered then s.devNum else 0x3F) + q * 64 + b2n s.bridgeEn * 1024 + s.helloTier * 2048
        + s.fget .GLB_FEATURE F.GLB_FEATURE_LEVEL * 8192),
      wordOf (s.fget .LNK_GEN F.LNK_GEN_GEN), 0, 0] }

/-- PORT_SIGNAL_DETECT (R330). -/
def execPortSignalDetect (p : Port) (s : State) : Res State :=
  if s.portState p.val = 1 then .next (s.setPort p.val 2 0) else .next s

/-- DETECT_RETRY (R1, R3, R330): a port in DETECT stays there; one that is OFF while its link die runs begins detection, when its role is
that of a Wealey port in use.  DEDUCED, log entry 58. -/
def execDetectRetry (p : Port) (s : State) : Res State :=
  if s.portState p.val = 0 ∧ s.linkOn (p.val / 8) ∧ s.portRole s.bootTier p.val = 1 ∧ s.fget .PWR_STATE F.PWR_STATE_STATE = 0 ∧
      s.fget .TST_STAT F.TST_STAT_STATE = 0 ∧ !s.bget (pctlReg p.val) F.LNK_PCTL_DISABLE then
    .next (s.setPort p.val 1 0)
  else .next s

/-- TRAIN_LOCK (R330, R334): the port enters CHECK with empty buffers and sends HELLO; on device 0 discovery runs.
DESIGN CHOICE, log entry 113: its slices count from 0. -/
def execTrainLock (p : Port) (s : State) : Res State :=
  if s.portState p.val = 2 then
    let s1 := ((s.setPort p.val 3 0).portUpd p.val (fun u => { u with
      hello := false, crReq := 4096, crRsp := 2048, crCtl := 64, txSeq := 0, acked := 0, rxSeq := 0, fails := 0, nak := false
      freeReq := 0, freeRsp := 0, freeCtl := 0, since := 0 })).emit
      (.entry p.val (s.helloEntry p.val))
    if s.bridgeEn ∧ s.fget .LNK_GRP F.LNK_GRP_STATE = 0 then
      .next (((s1.fset .LNK_GRP F.LNK_GRP_STATE 1).devUpd 0 (fun d => { d with present := true, serial := s.fuses.serial })).fset
        .LNK_GRP F.LNK_GRP_NDEV 1)
    else .next s1
  else .next s

/-- TRAIN_TIMEOUT (R330): TRAIN_FAIL counts. -/
def execTrainTimeout (p : Port) (s : State) : Res State :=
  if s.portState p.val = 2 then .next ((s.setPort p.val 1 0).cnt (rtrnReg p.val) F.LNK_RTRN_TRAIN_FAIL 1) else .next s

/-- CHECK_PASS (R330, R334): RUN once a HELLO has come; UP set, LINKSTATE sent. -/
def execCheckPass (p : Port) (s : State) : Res State :=
  if s.portState p.val = 3 ∧ (s.ports.at p.val).hello then
    let s1 := (s.setPort p.val 4 0).portEvt p.val F.LNK_EVT_UP
    let s2 := if s.bridgeEn ∧ s.fget .LNK_GRP F.LNK_GRP_STATE = 2 then s1.fset .LNK_GRP F.LNK_GRP_STATE 1 else s1
    .next (s2.reportPort p.val true)
  else .next s

/-- PORT_SIGNAL_LOST (R330, R338): a port in RUN goes to DETECT with DOWN set. -/
def execPortSignalLost (p : Port) (s : State) : Res State :=
  if s.portState p.val = 4 then .next (s.portDown p.val 1 0 true) else .next s

/-- PORT_RETRAIN (R331). -/
def execPortRetrain (p : Port) (s : State) : Res State :=
  if s.portState p.val = 4 then .next (s.portRetrainStart p.val) else .next s

/-- PORT_RETRAIN_WRITE (R330, R351): a retrain in RUN, a retry in FAILED, ignored otherwise. -/
def execPortRetrainWrite (p : Port) (s : State) : Res State :=
  if s.portState p.val = 4 then .next (s.portRetrainStart p.val)
  else if s.portState p.val = 6 then .next (s.setPort p.val 2 0)
  else .next s

/-- PORT_RETRAIN_DONE (R330, R331): RUN again, the port in its route sets, unacknowledged slices replayed. -/
def execPortRetrainDone (p : Port) (s : State) : Res State :=
  if s.portState p.val = 5 then
    .next (((((s.setPort p.val 4 0).restorePort p.val).replaySent p.val).portEvt p.val F.LNK_EVT_RETRAINED).reportPort p.val true)
  else .next s

/-- PORT_RETRAIN_TIMEOUT (R330): 50 ms have passed. -/
def execPortRetrainTimeout (p : Port) (s : State) : Res State :=
  if s.portState p.val = 5 then .next ((s.portDown p.val 6 2 false).portEvt p.val F.LNK_EVT_FAILED) else .next s

/-- PORT_DISABLE (R330): any port but one handed to the bridge or withheld. -/
def execPortDisable (p : Port) (s : State) : Res State :=
  if s.portWealey p.val then
    .next ((s.bset (pctlReg p.val) F.LNK_PCTL_DISABLE true).portDown p.val 7 7 true)
  else .next s

/-- PORT_ENABLE (R330).  DEDUCED, log entry 58. -/
def execPortEnable (p : Port) (s : State) : Res State :=
  if s.portWealey p.val then
    let s1 := s.bset (pctlReg p.val) F.LNK_PCTL_DISABLE false
    .next (if s.portState p.val = 7 then s1.setPort p.val 0 0 else s1)
  else .next s

/-! ### Discovery (R334, R335) -/

/-- Refuses a port (R330, R335): DISABLED with REASON 4 to 6, REFUSED set. -/
def State.portRefused (s : State) (q reason : Nat) : State := (s.portDown q 7 reason true).portEvt q F.LNK_EVT_REFUSED

/-- HELLO_RECEIVE (R330, R334, R335): the peer's number and port; a loopback, or a second bridging device in the group, disables
ports. -/
def execHelloReceive (p : Port) (serial : Word) (devnum : Dev) (port : Port) (bridge : Bool) (tier : Fin 4) (feature : Fin 256)
    (_gen : Fin 65536) (s0 : State) : Res State :=
  let q := p.val
  let s := s0.entryFreed q
  if s.portState q ≠ 3 ∧ s.portState q ≠ 4 then .next s0
  else if serial.toNat = s.fuses.serial % 2 ^ 32 then .next (s.portRefused q 4)
  else if bridge ∧ s.bridgeEn then
    if serial.toNat < s.fuses.serial % 2 ^ 32 then
      .next ((((List.range 16).foldl (fun (s : State) q => if s.portWealey q then s.portRefused q 5 else s) s).fset
        .LNK_GRP F.LNK_GRP_STATE 3).raise 339)
    else .next s
  else
    let s1 := ((s.fset (pstatReg q) F.LNK_PSTAT_PEER_DEV devnum.val).fset (pstatReg q) F.LNK_PSTAT_PEER_PORT port.val).portUpd q
      (fun u => { u with hello := true, peer := serial.toNat, tier := tier.val, feature := feature.val })
    let keeps := (s.devs.at devnum.val).present && decide ((s.devs.at devnum.val).serial = serial.toNat)
    let s2 := if keeps then s1.devUpd devnum.val (fun d => { d with tier := tier.val, feature := feature.val }) else s1
    if s.portState q = 4 ∧ s.numbered then .next (s2.reportPort q true) else .next s2

/-- The number that the next device takes: the lowest free one. -/
def State.freeNumber (s : State) : Option Nat := (List.range 64).find? (fun d => !(s.devs.at d).present)

/-- The numbered device whose serial is `serial` (R334, R377): it keeps its number when it rejoins. -/
def State.knownSerial (s : State) (serial : Nat) : Option Nat :=
  s.devices.find? (fun d => d ≠ 0 && decide ((s.devs.at d).serial = serial))

/-- Device 0 numbers the device at the far end of a recorded link (R334): ENUM goes out on its own port, or towards the parent. -/
def State.numberPeer (s : State) (l : LinkRec) : State :=
  let u := s.ports.at l.ap
  let serial := if l.a = 0 then u.peer else (Config.freeWord s.free).toNat
  match (s.knownSerial serial).orElse (fun _ => s.freeNumber) with
  | none => if l.a = 0 then s.portRefused l.ap 6 else s
  | some n =>
    let level := (s.devs.at l.a).level + 1
    let x : Entry := { kind := 3, urg := false, src := 0, dst := Fin.ofNat 64 l.a, bcast := false
                       words := [wordOf serial, wordOf (n + level * 64), wordOf (s.fget .LNK_GEN F.LNK_GEN_GEN), 0, 0] }
    let s1 := (s.devUpd n (fun d => { d with
      present := true, level := level, serial := serial
      tier := if l.a = 0 then u.tier else d.tier, feature := if l.a = 0 then u.feature else d.feature })).grpUpd
        (fun g => { g with links := g.links.map (fun k => if k.a = l.a ∧ k.ap = l.ap then { k with b := n } else k) })
    let s2 := if (s.knownSerial serial).isSome then s1 else s1.fset .LNK_GRP F.LNK_GRP_NDEV (s1.fget .LNK_GRP F.LNK_GRP_NDEV + 1)
    if l.a = 0 then (s2.fset (pstatReg l.ap) F.LNK_PSTAT_PEER_DEV n).emit (.entry l.ap x) else (s2.tick).entryOut x

/-- Recorded links whose far end has no number yet, in the order of R334: the parent's number, then its port. -/
def State.unnumberedLinks (s : State) : List LinkRec :=
  (List.range 1024).filterMap (fun k => s.grp.links.find? (fun l => l.b = 64 && l.up && l.a * 16 + l.ap = k))

/-- DISCOVERY_END (R334): device 0 numbers what it has found, level by level as reports come, and sends tables; LNK_GRP reads READY,
and source 336 is raised. -/
def execDiscoveryEnd (s : State) : Res State :=
  if s.fget .LNK_GRP F.LNK_GRP_STATE ≠ 1 then .next s
  else
    let s1 := if s.bridgeEn then (s.unnumberedLinks.foldl State.numberPeer s).newTables else s
    .next (((s1.fset .LNK_GRP F.LNK_GRP_STATE 2).raise 336).sendHeld (fun s _ => !s.bridgeEn))

/-- ENUM_RECEIVE (R334): the number and level of this device, which then reports every port in RUN; an ENUM for another device goes
to the neighbour with that serial. -/
def execEnumReceive (serial : Word) (devnum : Dev) (level : Dev) (gen : Fin 65536) (s : State) : Res State :=
  if serial.toNat = s.fuses.serial % 2 ^ 32 ∧ ¬s.bridgeEn then
    let d := devnum.val
    let s1 := ((s.fset .LNK_GRP F.LNK_GRP_DEVNUM d).fset .LNK_GRP F.LNK_GRP_STATE 1).devUpd d (fun x => { x with
      present := true, level := level.val, serial := s.fuses.serial })
    let s2 := s1.devUpd 0 (fun x => { x with present := true })
    let s3 := s2.fset .LNK_GRP F.LNK_GRP_NDEV s2.devices.length
    .next ((List.range 16).foldl (fun (s : State) q => if s.portState q = 4 then
      (s.emit (.entry q (s.helloEntry q))).reportPort q true else s) s3)
  else match (List.range 16).find? (fun q => s.portState q = 4 && (s.ports.at q).peer = serial.toNat) with
    | some q => .next (s.emit (.entry q { kind := 3, urg := false, src := 0, dst := 0, bcast := false
                                          words := [serial, wordOf (devnum.val + level.val * 64), wordOf gen.val, 0, 0] }))
    | none => .next s

/-- RESCAN (R334, R351): on device 0, not while discovering, the numbers of LOST devices are free again; source 336 follows when the
rescan ends. -/
def execRescan (s : State) : Res State :=
  if s.bridgeEn ∧ s.fget .LNK_GRP F.LNK_GRP_STATE = 2 then
    let gone := s.lostDevs
    let s1 := gone.foldl (fun (s : State) d => s.devUpd d (fun _ => default)) s
    let s2 : State := { s1 with lostDevs := [] }
    let s3 := s2.grpUpd (fun g => { g with links := g.links.filter (fun l => !gone.contains l.a && !gone.contains l.b) })
    .next ((s3.fset .LNK_GRP F.LNK_GRP_NDEV s3.devices.length).fset .LNK_GRP F.LNK_GRP_STATE 1).linkDegraded
  else .next s

/-! ### Routes (R336, R337) and link states (R338, R339) -/

/-- ROUTE_RECEIVE (R336, R337): an entry of a generation; with its last one the table is adopted whole. -/
def execRouteReceive (dest : Dev) (hops : Dev) (up dn : Fin 65536) (gen : Fin 65536) (last : Bool) (s : State) : Res State :=
  let old := if s.grp.gen = gen.val then s.grp.arriving.filter (fun r => r.dest ≠ dest.val) else []
  let l := old ++ [⟨dest.val, hops.val, up.val, dn.val⟩]
  let s1 := s.grpUpd (fun g => { g with gen := gen.val, arriving := l })
  if last then
    let s2 := s1.adoptTable gen.val l
    .next (s2.fset .LNK_GRP F.LNK_GRP_NDEV s2.devices.length)
  else .next s1

/-- LINKSTATE_RECEIVE (R338, R339): device 0 records the report and sends new tables; another device takes note of the link. -/
def execLinkstateReceive (d : Dev) (port : Port) (up : Bool) (peer : Dev) (peerPort : Port) (_gen : Fin 65536) (s : State) :
    Res State :=
  let n := if (s.devs.at peer.val).present then peer.val else 64
  let s1 := s.recordLink d.val port.val up n peerPort.val
  if s.bridgeEn then
    .next (if up ∧ n = 64 ∧ s.fget .LNK_GRP F.LNK_GRP_STATE = 2 then (s1.newTables).fset .LNK_GRP F.LNK_GRP_STATE 1 else s1.newTables)
  else .next s1

/-- LOST_RECEIVE (R339): the device's units are absent in every group span. -/
def execLostReceive (d : Dev) (_isolated : Bool) (_gen : Fin 65536) (s : State) : Res State :=
  if d.val = s.devNum then .next s else .next ((s.markLost d.val).waveLost d.val)

/-- DEVICE_LOST (R339): device 0 marks the device LOST and announces it to the others. -/
def execDeviceLost (d : Dev) (s : State) : Res State :=
  if s.bridgeEn ∧ d.val ≠ 0 ∧ (s.devs.at d.val).present ∧ (s.devs.at d.val).up = 0 ∧ !s.lostDevs.contains d.val then
    let s1 := (s.markLost d.val).waveLost d.val
    .next ((s1.devices.filter (fun x => x ≠ 0 && x ≠ d.val && !s1.lostDevs.contains x)).foldl (fun (s : State) x => s.entryOut
      { kind := 6, urg := false, src := 0, dst := Fin.ofNat 64 x, bcast := false
        words := [wordOf d.val, wordOf (s.fget .LNK_GEN F.LNK_GEN_GEN), 0, 0, 0] }) s1)
  else .next s

/-- DEVICE_ISOLATED (R339): no route to device 0 for 1 ms; source 338. -/
def execDeviceIsolated (s : State) : Res State :=
  if ¬s.bridgeEn ∧ s.fget .LNK_GRP F.LNK_GRP_STATE = 2 ∧ (s.devs.at 0).up = 0 then
    .next ((s.fset .LNK_GRP F.LNK_GRP_STATE 4).raise 338)
  else .next s

end Sys2Proof.Machine
end

