-- ==== Sys2Proof/Machine/Movers.lean ====
section
/-! DEFINITION. The barge movers and the KV placement loop (file 06_memory_map.md, R179 to R186): starting, completing and halting
descriptors, the copies of the hub channel, promotions; and the meanings of their commands. -/

namespace Sys2Proof.Machine

/-! ### Rings (R179, R180) -/

/-- The shared-buffer address of the descriptor that ring index `i` of mover `m` names (R180).  DEDUCED, log entry 75. -/
def State.descAddr (s : State) (m i : Nat) : Nat :=
  sbfAddr ((s.rget (.BRG_RING_BASE (Fin.ofNat 16 m))).toNat + (if s.ringLen m = 0 then 0 else i % 2 ^ 32 % s.ringLen m) * 64)

/-- Whether the span that holds mover `m`, if one does, lets it start descriptors of its ring (R131). -/
def State.moverRuns (s : State) (m : Nat) : Bool := match s.ownEntry (.mover m) with
  | some i => decide ((s.spans.at i).st = .running)
  | none => true

/-- Reads descriptor `i` of mover `m`: it is malformed when its bytes cannot be read, or under ticket 0 (R181, R216). -/
def State.readDesc (s : State) (m i : Nat) : State × Desc :=
  let r := s.hubRead (s.descAddr m i) 64
  let d := parseDesc r.bytes
  (r.st, { d with ok := d.ok && r.err.isNone && !r.pois.any id && decide (d.ticket ≠ 0) })

/-- Whether a descriptor has to wait for the end of the mount (R260). -/
def State.descWaits (s : State) (d : Desc) : Bool :=
  d.ok && (decide (d.dstKind = 2) || (decide (d.op = 0) && decide (d.srcKind = 2))) && !s.mounted && !s.mountFailed

/-- Whether mover `m` can start the next descriptor of its ring (R180, R181): at most four in flight, a FENCE descriptor alone. -/
def State.ringReady (s : State) (m : Nat) : Bool :=
  let u := s.mover m
  let n := u.inflight.length
  let d := (s.readDesc m (s.brgRd m + n)).2
  u.halted.isNone && decide (n < 4 ∧ n < ahead (s.brgRd m) (s.brgWr m)) && s.moverRuns m && !s.descWaits d &&
    (!d.fence || u.inflight.isEmpty)

/-- Asks flash for the units of `r`, from byte `off` of zone `z` on (R243): up to the first that cannot be read. -/
def State.askUnits (s : State) (w : FWho) (r : MvRun) (z off ticket n : Nat) : State × MvRun :=
  let ok (i : Nat) : Bool := s.zoneReadable z (off / 4096 + i)
  let k := ((List.range n).takeWhile ok).length
  ((List.range k).foldl (fun (s : State) i => s.flashAsk ⟨w, s.zoneAddr z (off / 4096 + i), (z, i), ticket, 0, false, 0⟩) s,
    { r with units := k, srcErr := if k < n then some (k * 4096) else none })

/-- Starts a descriptor of mover `m`'s ring as ring index `ix`. -/
def State.beginDesc (s : State) (m ix : Nat) (d : Desc) : State × MvRun :=
  let r : MvRun := ⟨ix, d, 0, none, false, none⟩
  if d.ok ∧ d.op = 0 ∧ d.srcKind = 2 then
    s.askUnits (.ring m ix) r (d.src % 2 ^ 32) (d.src / 2 ^ 32) d.ticket (d.len / 4096)
  else (s, r)

/-- Starts the next descriptor of mover `m`'s ring. -/
def State.startRing (s : State) (m : Nat) : State :=
  let ix := (s.brgRd m + (s.mover m).inflight.length) % 2 ^ 32
  let x := s.readDesc m ix
  let y := x.1.beginDesc m ix x.2
  y.1.moverUpd m (fun u => { u with inflight := u.inflight ++ [y.2], lastHub := false })

/-- The flash units that an extent of SRC 2 covers (R143): zone, first byte of the first unit, units. -/
def Extent.flashUnits (x : Extent) : Nat × Nat × Nat :=
  let off := x.srcAddr / 2 ^ 32
  (x.srcAddr % 2 ^ 32, off / 4096 * 4096, ceilDiv (off % 4096 + x.len) 4096)

/-- The descriptor that the hub's copy of an extent amounts to (R143). -/
def Extent.desc (x : Extent) : Desc :=
  { (default : Desc) with ok := true, srcKind := x.src, src := x.srcAddr, len := x.len, dst := x.dstAddr }

/-- Starts the next copy of mover `m`'s hub channel (R143, R179, R185): under ticket 0. -/
def State.startHub (s : State) (m : Nat) : State :=
  match (s.mover m).hubq with
  | [] => s
  | j :: l =>
    let y : State × MvRun := match j with
      | .place x =>
        let r : MvRun := ⟨0, x.desc, 0, none, true, none⟩
        if x.src = 2 then s.askUnits (.hub m) r x.flashUnits.1 x.flashUnits.2.1 0 x.flashUnits.2.2 else (s, r)
      | .promote _ _ => (s, ⟨0, default, 0, none, true, none⟩)
    y.1.moverUpd m (fun u => { u with hubq := l, hubfl := [(j, y.2)], lastHub := true })

/-- Whether the hub channel of mover `m` has a copy to start; one from flash waits for the mount's end (R260). -/
def State.hubReady (s : State) (m : Nat) : Bool :=
  (s.mover m).hubfl.isEmpty && match (s.mover m).hubq with
  | [] => false
  | .place x :: _ => decide (x.src ≠ 2) || s.mounted || s.mountFailed
  | .promote _ _ :: _ => true

/-- DESCRIPTOR_START (R179, R180): ring and hub channel alternate when both have work. -/
def execDescriptorStart (m : Mover) (hub : Bool) (s : State) : Res State :=
  let last := (s.mover m.val).lastHub
  if hub then
    (if s.hubReady m.val ∧ ¬(last ∧ s.ringReady m.val) then .next (s.startHub m.val) else .next s)
  else if s.ringReady m.val ∧ ¬(¬last ∧ s.hubReady m.val) then .next (s.startRing m.val)
  else .next s

/-- BRG_WRITE_INDEX (R179, R180): ignored while a span holds the mover. -/
def execBrgWriteIndex (m : Mover) (v : Word) (s : State) : Res State :=
  if (s.ownEntry (.mover m.val)).isSome then .next s else .next (s.moverIndex m.val v.toNat)

/-! ### Destinations (R182) -/

/-- Unit `w` writes blocks of 256 bytes from device-local address `base` on, up to the first that the destination does not take (R65,
R182): its offset, if there is one.  DEDUCED, log entry 92: a guarded context partition takes none. -/
def State.putBlocks (s : State) (w : Requester) (base : Nat) (x : Source) : State × Option Nat :=
  let r := (List.range (ceilDiv x.bytes.length 256)).foldl (fun (acc : State × Option Nat) i => match acc.2 with
    | some _ => acc
    | none =>
      let part {α : Type} (l : List α) : List α := (l.drop (256 * i)).take 256
      if acc.1.ctxGuard w (base + 256 * i) (part x.bytes).length then (acc.1, some (256 * i))
      else
        let w := acc.1.writeAt false (base + 256 * i) (part x.bytes) (part x.pois) ((x.mans.drop i).take 1)
        (w.st, if w.err.isSome || w.werr.isSome then some (256 * i) else none)) (s, none)
  (r.1.settle, r.2)

/-- Writes a copy's bytes to codebook `cb` of engine `e` from offset `off` on (R181): as far as the codebook reaches. -/
def State.putCodebook (s : State) (w : Requester) (e cb off : Nat) (x : Source) : Except Hold (State × Option Nat) :=
  let n := min x.bytes.length (524288 - off)
  if s.absent e then .ok (s, some 0)
  else (s.eachUnit off n (fun s b part => s.crossBy w false part none [s.entryBundle (e / 12 + 1) (s.engHalf e) b])).map fun s =>
    (s.codebookPut e ⟨cb, off, x.bytes.take n, x.pois.take n⟩, if n < x.bytes.length then some n else none)

/-- Writes a copy's bytes to its destination (R182): the state, and the offset of the first block that the destination did not
take, `turned` being that of a destination outside the device; or the copy waits. -/
def State.moverStore (s : State) (w : Requester) (d : Desc) (x : Source) (turned : Option Nat) :
    Except Hold (State × Option Nat) :=
  let base := d.dst % 2 ^ 48
  let n := x.bytes.length
  let took := match turned with
    | some b => min n (256 * b)
    | none => n
  let stop := if took < n then some took else none
  if n = 0 then .ok (s, none)
  else if d.dstKind = 1 then (s.passDie w false 11 d.dst n).map fun s =>
    let b := x.bytes.take took
    let p := x.pois.take took
    (if took = 0 then s else if s.bridgeEn then s.hostOut d.dst b p else s.transferOut 1 0 0 d.dst d.ticket true b p, stop)
  else if d.dstKind = 3 then s.putCodebook w (d.dst % 256) (bits d.dst 8 1) (bits d.dst 12 20) x
  else match s.groupDev d.dst with
    | some k =>
      if !(s.devs.at k).present then .ok (s, some 0)
      else .ok (if took = 0 then s else s.transferOut 1 k 0 base d.ticket false (x.bytes.take took) (x.pois.take took), stop)
    | none => (s.pass w d.ticket false base n).map fun s => s.putBlocks w base x

/-- The outcome of the descriptor `r` of mover `m` (R182): the state after its copy, STATUS and ERR_OFF; or the state in which it waits to
complete.  DEDUCED, log entries 75 and 88. -/
def State.descOutcome (s : State) (m : Nat) (r : MvRun) (ext : Option (List Byte × List Bool)) (turned : Option Nat) :
    Except State (State × Nat × Nat) :=
  let w := (FWho.ring m r.ix).mover
  if !r.d.ok then .ok (s, 0x06, 0)
  else if r.d.dstKind = 2 then match r.result with
    | some x => .ok (s, x.1, x.2)
    | none => .error s
  else if r.d.dstKind = 3 ∧ s.codebookHeld (r.d.dst % 256) (bits r.d.dst 8 1) then .error s
  else (s.moverSource (.ring m r.ix) false (s.egress r.d) r ext).bind fun x =>
    match x.st.settle.moverStore w r.d x turned with
    | .error h => .error (s.waitFor w h)
    | .ok (t, some o) => .ok (t, 0x04, o / 256 * 256)
    | .ok (t, none) => .ok (t, x.status.1, x.status.2)

/-- Whether a status halts the ring (R182). -/
def haltStatus (d : Desc) (status : Nat) : Bool := decide (3 ≤ status) || (decide (status = 2) && d.stopPoison)

/-- Writes STATUS and ERR_OFF of descriptor `ix` (R181). -/
def State.descStatus (s : State) (m ix status errOff : Nat) : State :=
  (s.hubWrite (s.descAddr m ix + 0x30) (toBytes 8 status ++ toBytes 8 errOff)).fset (.BRG_STAT (Fin.ofNat 16 m))
    F.BRG_STAT_LAST_CODE status

/-- The read index of mover `m` advances (R180); when the mover is idle then, a pending ring is adopted (R190). -/
def State.ringAdvance (s : State) (m : Nat) : State :=
  (s.rset (.BRG_RD (Fin.ofNat 16 m)) (wordOf (s.brgRd m + 1))).pairWake (.ring (Fin.ofNat 16 m))

/-- Completes the oldest descriptor in flight of mover `m`'s ring (R182). -/
def State.completeRing (s : State) (m : Nat) (ext : Option (List Byte × List Bool)) (turned : Option Nat) : State :=
  let u := s.mover m
  match u.halted, u.inflight with
  | none, r :: rest =>
    match s.descOutcome m r ext turned with
    | .error s1 => s1
    | .ok (s1, st, off) =>
      let s2 := (s1.flashForget (.ring m r.ix)).descStatus m r.ix st off
      if haltStatus r.d st then (s2.moverUpd m (fun u => { u with inflight := rest, halted := some r })).raise (400 + m)
      else
        let s3 := (s2.moverUpd m (fun u => { u with inflight := rest })).ringAdvance m
        if r.d.irq then s3.raise (400 + m) else s3
  | _, _ => s

/-- What a PLACE copy reads (R143): the inline payload, host memory, or flash units without the bytes before its first; or the state in
which the copy waits. -/
def State.placeSource (s : State) (m : Nat) (x : Extent) (r : MvRun) (ext : Option (List Byte × List Bool)) : Except State Source :=
  if x.src = 0 then .ok ⟨s, x.data, x.data.map (fun _ => false), [], none, none, false⟩
  else (s.moverSource (.hub m) true 0 r ext).map (fun y =>
    if x.src = 2 then
      let k := (x.srcAddr / 2 ^ 32) % 4096
      { y with bytes := (y.bytes.drop k).take x.len, pois := (y.pois.drop k).take x.len, mans := [] }
    else y)

/-- Whether an extent's destination is a codebook (R143). -/
def Extent.toCodebook (x : Extent) : Bool := x.dst = 2 || x.dst = 3

/-- Writes a PLACE copy to its destination under ticket 0 (R143); whether the destination took it; or the copy waits. -/
def State.placeStore (s : State) (m : Nat) (x : Extent) (y : Source) : Except Hold (State × Bool) :=
  let w := (FWho.hub m).mover
  if x.toCodebook then (s.putCodebook w x.engine (x.dst - 2) x.dstAddr y).map fun r => (r.1, r.2.isNone)
  else
    let a := if x.dst = 4 then storeAddr x.engine x.dstAddr else x.dstAddr
    (s.pass w 0 false a y.bytes.length).map fun s =>
      let r := s.writeAt true a y.bytes y.pois []
      (r.st.settle, r.err.isNone && r.werr.isNone)

/-- Completes a PLACE copy of mover `m`'s hub channel (R147): one that reads poison, an uncorrectable unit or an error, or cannot be
written, fails the load. -/
def State.completePlace (s : State) (m : Nat) (x : Extent) (r : MvRun) (ext : Option (List Byte × List Bool)) : State :=
  if x.toCodebook && s.codebookHeld x.engine (x.dst - 2) then s
  else match s.placeSource m x r ext with
  | .error s1 => s1
  | .ok y =>
    let s1 := (y.st.settle.flashForget (.hub m)).moverUpd m (fun u => { u with hubfl := [] })
    if y.stop.isSome || y.ue.isSome || y.poison then s1.placeFailed x.ix 0
    else match s1.placeStore m x y with
      | .error h => s.waitFor (FWho.hub m).mover h
      | .ok (t, took) => if took then t.placeDone x.ix else t.placeFailed x.ix 0

/-- DESCRIPTOR_COMPLETE (R182; of a PLACE copy R147).  A promotion's copy ends by PROMOTE_COPY_DONE.  DESIGN CHOICE, log entry 8. -/
def execDescriptorComplete (m : Mover) (hub : Bool) (ext : Option (List Byte × List Bool)) (turned : Option Nat) (s : State) :
    Res State :=
  if hub then
    match (s.mover m.val).hubfl with
    | (.place x, r) :: _ => .next (s.completePlace m.val x r ext)
    | _ => .next s
  else .next (s.completeRing m.val ext turned)

/-! ### A halted ring (R182) -/

/-- BRG_RESUME: the halted descriptor, read again, is tried again. -/
def execBrgResume (m : Mover) (s : State) : Res State :=
  match (s.mover m.val).halted with
  | none => .next s
  | some r =>
    let x := s.readDesc m.val r.ix
    let y := x.1.beginDesc m.val r.ix x.2
    .next (y.1.moverUpd m.val (fun u => { u with halted := none, inflight := y.2 :: u.inflight }))

/-- BRG_SKIP: the mover goes on with the descriptor after the halted one. -/
def execBrgSkip (m : Mover) (s : State) : Res State :=
  match (s.mover m.val).halted with
  | none => .next s
  | some _ => .next ((s.moverUpd m.val (fun u => { u with halted := none })).ringAdvance m.val)

/-- BRG_ABORT: 0x08 goes to the halted descriptor and every later one written; the ring is empty. -/
def execBrgAbort (m : Mover) (s : State) : Res State :=
  match (s.mover m.val).halted with
  | none => .next s
  | some r =>
    let n := min (s.ringLen m.val) (ahead (s.brgRd m.val) (s.brgWr m.val))
    let s1 := (List.range n).foldl (fun (s : State) i =>
      s.hubWrite (s.descAddr m.val (s.brgRd m.val + i) + 0x30) (toBytes 8 0x08)) s
    let s2 := (r :: (s1.mover m.val).inflight).foldl (fun (s : State) q => s.flashForget (.ring m.val q.ix)) s1
    let s3 := s2.moverUpd m.val (fun u => { u with halted := none, inflight := [] })
    .next (((s3.rset (.BRG_RD m) (wordOf (s.brgWr m.val))).fset (.BRG_STAT m) F.BRG_STAT_LAST_CODE 0x08).pairWake (.ring m))

/-! ### The placement loop (R183 to R186) -/

/-- A frame of the promotion target that holds no page and takes none (R184). -/
def State.freeFrame (s : State) : Option Nat := match s.frameBase with
  | some (_, n) => (List.range n).find? (fun f => decide (s.place.frames.at f = none) && !s.place.copying.any (fun x => x.2 = f))
  | none => none

/-- A promotion finds no free frame (R187): source 416, once per epoch. -/
def State.noFrame (s : State) : State :=
  if s.place.noFrame then s else ({ s with place := { s.place with noFrame := true } }).raise 416

/-- Begins the promotion of page `p` into frame `f` (R185): a copy of the hub channel. -/
def State.promoteStart (s : State) (p f : Nat) : State :=
  ({ s with place := { s.place with copying := s.place.copying ++ [(p, f)] } }).moverUpd (p % 16) (fun u =>
    { u with hubq := u.hubq ++ [HubJob.promote p f] })

/-- Drops the redirect of page `p` (R185). -/
def State.demote (s : State) (p : Nat) : State :=
  ({ s with place := { s.place with frames := s.place.frames.filter (fun e => e.2 ≠ some p) } }).cnt .SBF_PL_DEMO
    F.SBF_PL_DEMO_COUNT 1

/-- The page of highest count among those that may be promoted (R184). -/
def State.hotPage (s : State) (thr : Nat) : Option Nat :=
  let l := s.place.counts.filter (fun e => decide (thr ≤ e.2) && (s.frameOf e.1).isNone && !s.place.barred.contains e.1 &&
    !s.place.copying.any (fun x => x.1 = e.1) && s.loopPage e.1)
  (l.foldl (fun (b : Option (Nat × Nat)) e => match b with
    | some x => if x.2 < e.2 then some e else b
    | none => some e) none).map (·.1)

/-- Promotes pages until none is left or no frame is free (R184, step 2). -/
def State.promoteAll (s : State) (thr : Nat) : (fuel : Nat) → State
  | 0 => s
  | n + 1 => match s.hotPage thr, s.freeFrame with
    | some p, some f => State.promoteAll (s.promoteStart p f) thr n
    | some _, none => s.noFrame
    | none, _ => s

/-- PLACE_EPOCH_END (R183, R184): after 2^(16 + EPOCH) counted reads; pages move by count in automatic mode alone, but for those of pools
that the loop passes over. -/
def execPlaceEpochEnd (s : State) : Res State :=
  if s.place.reads < 2 ^ (16 + s.fget .SBF_PL_CTL F.SBF_PL_CTL_EPOCH) then .next s
  else
    let low := s.fget .SBF_PL_CTL F.SBF_PL_CTL_DEMOTE_THR
    let count (p : Nat) : Nat := ((s.place.counts.find? (fun e => e.1 = p)).map (·.2)).getD 0
    let pages := s.place.frames.filterMap (·.2)
    let s1 := (pages.filter (fun p => decide (count p < low) && s.loopPage p)).foldl State.demote s
    let s2 := if s.fget .SBF_PL_CTL F.SBF_PL_CTL_MODE = 2 then
        s1.promoteAll (s.fget .SBF_PL_CTL F.SBF_PL_CTL_PROMOTE_THR) (s.place.counts.length + 1)
      else s
    .next { s2 with place := { s2.place with
      counts := (s2.place.counts.map (fun e => (e.1, e.2 / 2))).filter (fun e => e.2 ≠ 0)
      reads := 0
      barred := []
      noFrame := false } }

/-- The page that SBF_PROMO_PAGE names (R164, R186). -/
def State.promoPage (s : State) : Nat := s.pageOf (s.fget .SBF_PROMO_PAGE F.SBF_PROMO_PAGE_PAGE * 65536)

/-- Ends a manual command (R186).  DEDUCED, log entry 76. -/
def State.promoAnswer (s : State) (reason : Nat) : State :=
  (s.fset .SBF_PROMO_STAT F.SBF_PROMO_STAT_STATE (if reason = 0 then 2 else 3)).fset .SBF_PROMO_STAT F.SBF_PROMO_STAT_REASON
    reason

/-- PROMOTE_COPY_DONE (R185): the page has been copied to its frame, and the redirect is switched. -/
def execPromoteCopyDone (page : Fin 16777216) (s : State) : Res State :=
  let p := page.val
  let m := p % 16
  match (s.mover m).hubfl with
  | (.promote q f, _) :: _ =>
    if q ≠ p then .next s
    else
      let s1 := (s.moverUpd m (fun u => { u with hubfl := [] }))
      let s2 := { s1 with place := { s1.place with
        copying := s1.place.copying.filter (fun x => x.1 ≠ p)
        manual := if s1.place.manual = some (p, f) then none else s1.place.manual } }
      let manual := decide (s.place.manual = some (p, f))
      let r := s2.hubRead (p * 65536) 65536
      let s3 := r.st
      match s3.frameBase with
      | some (o, n) =>
        if r.err.isSome ∨ n ≤ f then .next (if manual then s3.promoAnswer 2 else s3)
        else
          let w := (s3.hubPass false (sbfAddr (o + f * 65536)) 65536).writeAt true (sbfAddr (o + f * 65536)) r.bytes r.pois r.mans
          let s4 := w.st.settle
          let s5 := ({ s4 with place := { s4.place with frames := s4.place.frames.put f (some p) } }).cnt .SBF_PL_PROMO
            F.SBF_PL_PROMO_COUNT 1
          .next (if manual then s5.promoAnswer 0 else s5)
      | none => .next (if manual then s3.promoAnswer 2 else s3)
  | _ => .next s

/-- PROMO_PROMOTE (R186): the reasons of refusal in the order of the table; a page that may not be promoted again in this epoch
is refused as without a frame.  DEDUCED, log entry 76. -/
def execPromoPromote (s : State) : Res State :=
  let p := s.promoPage
  if s.fget .SBF_PROMO_STAT F.SBF_PROMO_STAT_STATE = 1 then .next s
  else if (s.kvPool p).isNone then .next (s.promoAnswer 1)
  else match s.freeFrame with
    | none => .next (s.noFrame.promoAnswer 2)
    | some f =>
      if (s.frameOf p).isSome ∨ s.place.copying.any (fun x => x.1 = p) then .next (s.promoAnswer 3)
      else if s.fget .SBF_PL_CTL F.SBF_PL_CTL_MODE = 0 then .next (s.promoAnswer 4)
      else if s.place.barred.contains p then .next (s.promoAnswer 2)
      else
        let s1 := { s with place := { s.place with manual := some (p, f) } }
        .next (((s1.fset .SBF_PROMO_STAT F.SBF_PROMO_STAT_STATE 1).fset .SBF_PROMO_STAT F.SBF_PROMO_STAT_REASON 0).promoteStart
          p f)

/-- PROMO_DEMOTE (R186).  DEDUCED, log entry 76. -/
def execPromoDemote (s : State) : Res State :=
  let p := s.promoPage
  if s.fget .SBF_PROMO_STAT F.SBF_PROMO_STAT_STATE = 1 then .next s
  else if (s.kvPool p).isNone then .next (s.promoAnswer 1)
  else if (s.frameOf p).isNone then .next (s.promoAnswer 3)
  else if s.fget .SBF_PL_CTL F.SBF_PL_CTL_MODE = 0 then .next (s.promoAnswer 4)
  else .next ((s.demote p).promoAnswer 0)

end Sys2Proof.Machine
end

