-- ==== Sys2Proof/Machine/Icu.lean ====
section
/-! DEFINITION. The meanings of the interrupt controller's commands and of the ferryman's (files 15_interrupts.md and
17_landing_port.md), and the end of the flash mount (R260). -/

namespace Sys2Proof.Machine

/-! ### Sources -/

/-- Sources that no chapter assigns: never asserted (R128, R213, R263, R294, R350, R399, R436).  DEDUCED, log entry 82. -/
def reservedSource (k : Nat) : Bool :=
  k = 2 || k = 3 || k = 19 || k = 22 || k = 23 || k = 31 || (61 ≤ k && k ≤ 63) || (64 ≤ k && k < 256 && 21 ≤ (k - 64) % 24) ||
    (293 ≤ k && k ≤ 295) || (301 ≤ k && k ≤ 319) || (344 ≤ k && k ≤ 383) || (426 ≤ k && k ≤ 447)

/-- SOURCE_EVENT (R401, R405): an event of an edge source. -/
def execSourceEvent (k : Src) (s : State) : Res State :=
  if levelSource k.val || reservedSource k.val then .next s else .next (s.raise k.val)

/-- LEVEL_LINE_RISE (R401): the condition that a level source reports begins to hold. -/
def execLevelLineRise (k : Src) (s : State) : Res State :=
  if levelSource k.val then .next (s.setLine k.val true) else .next s

/-- The coalescing window of source `k` ends (R402): its wait is over, and it is presented where it can be. -/
def State.windowEnd (s : State) (k : Nat) : State := (s.srcUpd k (fun c => { c with expired := true })).present k

/-- COAL_WINDOW_EXPIRE (R402): WIN ticks have passed since the window of an edge source opened. -/
def execCoalWindowExpire (k : Src) (s : State) : Res State :=
  let c := s.icu.src.at k.val
  let w := s.fget (.ICU_COAL k) F.ICU_COAL_WIN
  match c.win with
  | none => .next s
  | some t =>
    if levelSource k.val ∨ w = 0 then .next s
    else .next (({ s with icu := { s.icu with tick := max s.icu.tick (t + w) } } : State).windowEnd k.val)

/-! ### Claims -/

/-- The word that a claim of source `k` of priority `p` returns (R417). -/
def claimWord (k p : Nat) (c : SrcState) : Word := wordOf (k + p * 1024 + c.count * 65536 + b2n c.ovf * 16777216)

/-- A claim by target `t` (R406, R407): the state after it, and the value read.  DEDUCED, log entry 82. -/
def State.claimBy (s : State) (t : Nat) : State × Word :=
  let s0 := s.tgtUpd t (fun g => { g with out := false, held := false })
  match s.best t with
  | none => (s0.presentBest t, 0x3FF)
  | some (k, p) =>
    let c := s.icu.src.at k
    let s1 := s0.srcUpd k (fun c => { c with count := 0, ovf := false, insvc := true, tgt := t, win := none, expired := false })
    let s2 := s1.tgtUpd t (fun g => { g with stack := (k, g.run) :: g.stack, run := p })
    (({ s2 with icu := { s2.icu with last := s2.icu.last.put p (some k) } }).presentBest t, claimWord k p c)

/-- CLAIM (R406 to R408): a read of ICU_CLAIM_t.  DEDUCED, log entry 82. -/
def execClaim (t : Tgt) (s : State) : Res State :=
  let r := s.claimBy t.val
  .next (r.1.reply (.word r.2))

/-- EOI (R409, R417): ends target t's latest claim; a number that does not match sets EOI_ERR and raises source 1; 0x3FF is ignored. -/
def execEoi (t : Tgt) (v : Word) (s : State) : Res State :=
  let k := F.ICU_EOI_SOURCE.get v
  if k = 0x3FF then .next s
  else match (s.icu.tgt.at t.val).stack with
    | (j, r) :: l =>
      if j = k then
        let s1 := s.srcUpd k (fun c => { c with insvc := false, tgt := 0 })
        .next (s1.tgtUpd t.val (fun g => { g with stack := l, run := r, out := false, held := false })).presentAll
      else .next ((s.tgtUpd t.val (fun g => { g with eoiErr := true })).raise 1)
    | [] => .next ((s.tgtUpd t.val (fun g => { g with eoiErr := true })).raise 1)

/-- SOFTWARE_INTERRUPT (R412). -/
def execSoftwareInterrupt (v : Word) (s : State) : Res State := .next (s.raise (448 + F.ICU_SWI_INDEX.get v))

/-! ### Wake (R413 to R415, R451) -/

/-- WAKE_N (R414, R415). -/
def State.wakeN (s : State) : Bool :=
  let standby := decide (s.fget .PWR_STATE F.PWR_STATE_STATE = 2)
  let ferry := decide (s.fget .ICU_WAKE F.ICU_WAKE_MODE = 1)
  let up := s.bget .HBR_STAT F.HBR_STAT_UP && !(s.fns.at 0).d3
  s.bridgeEn && !(ferry && standby) && (List.range 512).any (fun k => s.srcPending k && (List.range 15).any (fun t =>
    bitAt (s.fget (.ICU_TMASK (srcOf k)) F.ICU_TMASK_TARGETS) t &&
      (decide (s.fget (.ICU_TCTL (Fin.ofNat 16 t)) F.ICU_TCTL_MASK = 1) || standby || !up)))

/-- Sources whose units stay powered in Standby (R451). -/
def standbySource (k : Nat) : Bool :=
  (12 ≤ k && k ≤ 15) || (48 ≤ k && k ≤ 53) || (341 ≤ k && k ≤ 343) || 448 ≤ k

/-- Whether a valid entry of ICU_FERRY watches source `k` (R415). -/
def State.watched (s : State) (k : Nat) : Bool :=
  standbySource k && (List.range 32).any (fun i =>
    let r : Reg := .ICU_FERRY (Fin.ofNat 32 i)
    decide (s.fget r F.ICU_FERRY_VALID = 1) && decide (s.fget r F.ICU_FERRY_SOURCE = k))

/-- A wake of the ferryman (R370, R372, R451): its first cause is recorded, and the exit starts; during the entry it follows the
entry's end.  DEDUCED, log entry 47. -/
def State.ferryWake (s : State) (cause src : Nat) : State :=
  let st := s.fget .PWR_STATE F.PWR_STATE_STATE
  if (st ≠ 1 ∧ st ≠ 2) ∨ s.pwr.wake then s
  else
    let s1 := (({ s with ldp := { s.ldp with ferry := true } }).fset .LDP_FERRY_STAT F.LDP_FERRY_STAT_CAUSE cause).fset
      .LDP_FERRY_STAT F.LDP_FERRY_STAT_SOURCE src
    if st = 2 then s1.standbyOut else { s1 with pwr := { s1.pwr with wake := true } }

/-- FERRYMAN_WAKE (R415, R451): in ferryman mode a watched source has become pending in Standby.  DEDUCED, log entry 47. -/
def execFerrymanWake (k : Src) (s : State) : Res State :=
  if s.fget .ICU_WAKE F.ICU_WAKE_MODE = 1 ∧ s.watched k.val ∧ s.srcPending k.val then .next (s.ferryWake 1 k.val) else .next s

/-- FERRY_TIMER (R451): milliseconds pass in Standby; the timer wakes the package as it reaches 0.  DEDUCED, log entry 47. -/
def execFerryTimer (ms : Nat) (s : State) : Res State :=
  let n := s.fget .LDP_FERRY_TMR F.LDP_FERRY_TMR_MS
  if s.fget .PWR_STATE F.PWR_STATE_STATE ≠ 2 ∨ n = 0 then .next s
  else
    let s1 := s.fset .LDP_FERRY_TMR F.LDP_FERRY_TMR_MS (n - ms)
    .next (if n ≤ ms then s1.ferryWake 2 0 else s1)

/-! ### The flash mount -/

/-- Every LUN in use, in the order of R235, by what Read Unique ID returns for it (R464): a free value of each.
DESIGN CHOICE, log entry 44. -/
def State.flashIdentity (s : State) : List Byte :=
  s.flash.luns.flatMap (fun e => if e.2.isSome then (List.range 4).flatMap (fun i =>
    toBytes 4 (Config.freeWord (s.free + 4 * e.1 + i)).toNat) else [])

/-- MOUNT_DONE (R254, R260): MOUNTED where a label copy and a ledger checkpoint are readable; doorbells held take effect.
DESIGN CHOICE, log entry 44. -/
def execMountDone (labelOk ledgerOk : Bool) (wps : List (Word × Nat)) (s : State) : Res State :=
  if s.fget .FLC_MOUNT F.FLC_MOUNT_STATE ≠ 3 then .next s
  else
    let ok := labelOk && ledgerOk && s.flash.label.isSome
    let s1 := (s.mountEnd ok wps).rtvRelease
    let s2 := (s1.rset (.BUP_TS 6) (Config.freeWord s1.free)).tick
    .next { s2 with
      free := s2.free + 4096
      sec := { s2.sec with flashId := if ok then (shake256 32 s2.flashIdentity) else [] } }

/-- Whether the coalescing window of source `k` has run out by ICU_TICK, and no tick has yet said so (R402). -/
def State.windowOver (s : State) (k : Nat) : Bool :=
  let c := s.icu.src.at k
  let w := s.fget (.ICU_COAL (srcOf k)) F.ICU_COAL_WIN
  match c.win with
  | none => false
  | some t => !levelSource k && decide (w ≠ 0) && !c.expired && decide (t + w ≤ s.icu.tick)

/-- One microsecond passes with no command (R402, R403): ICU_TICK advances while the main side or Standby's always-on domain counts,
and the coalescing windows that have run out by then end.  DESIGN CHOICE, log entry 1: a step on an empty queue is one such tick. -/
def State.idle (s : State) : State :=
  if s.pwr.off then s
  else
    let s1 : State := { s with icu := { s.icu with tick := s.icu.tick + 1 } }
    (s1.icu.src.map (·.1)).foldl (fun (s : State) k => if s.windowOver k then s.windowEnd k else s) s1.networkTick.pump.writesRetry

end Sys2Proof.Machine
end

