-- ==== Sys2Proof/Machine/Security.lean ====
section
/-! DEFINITION. The meanings of the security units' commands (file 18_security_licences.md, R461 to R466): key notices and
attestation reports. -/

namespace Sys2Proof.Machine

/-! ### Key notices (R461, R462) -/

/-- OP, TARGET and KEY_SLOT of a key notice. -/
def knotOp (l : List Byte) : Nat := bits (num l 6 2) 0 2
@[inherit_doc knotOp] def knotTarget (l : List Byte) : Nat := bits (num l 6 2) 2 2
@[inherit_doc knotOp] def knotSlot (l : List Byte) : Nat := bits (num l 6 2) 4 2

/-- Whether a key notice of 3,152 bytes is well formed (R461). -/
def knotOk (l : List Byte) : Bool :=
  decide (l.length = 3152) && decide (num l 0 4 = 0x43544E4B) && decide (num l 4 2 = 0x0100) && decide (knotOp l = 1 ∨ knotOp l = 2) &&
    decide (num l 6 2 / 64 = 0) && (if knotOp l = 1 then !zeros l 0x10 32 else zeros l 0x10 32) && zeros l 0x30 16 &&
    sigBlockOk (sub l 0x40 3088)

/-- The key slots that are LIVE among 0 and 1. -/
def State.liveMakers (s : State) : List Nat := [0, 1].filter (fun k => (s.key k).live)

/-- The first REASON for which a well-formed notice whose signature verifies is refused (R462); 0 for none. -/
def State.knotRefusal (s : State) (l : List Byte) : Nat :=
  let t := knotTarget l
  let enrol := decide (knotOp l = 1)
  let serial := num l 8 8
  if serial ≠ s.fuses.serial ∧ (enrol ∨ serial ≠ 0) then 3
  else if enrol then (if 2 ≤ knotSlot l ∨ t ≤ 1 ∨ !(s.key t).empty then 4 else 0)
  else if (t ≤ 1 ∧ 2 ≤ knotSlot l) ∨ !(s.key t).live then 5
  else if s.liveMakers = [t] ∨ t = s.fget .SEC_KEYS F.SEC_KEYS_BOOT_SLOT then 6
  else 0

/-- The notice refused for a reason, or done with 0 (R461): source 6. -/
def State.knotEnd (s : State) (reason : Nat) : State :=
  ((s.fset .SEC_KNOT_STAT F.SEC_KNOT_STAT_STATE (if reason = 0 then 2 else 3)).fset .SEC_KNOT_STAT F.SEC_KNOT_STAT_REASON
    reason).secEvt 2

/-- The notice at SEC_KNOT_OFF in the shared buffer; none of it where the read fails or is poisoned. -/
def State.knotRead (s : State) : State × List Byte :=
  let r := s.readAt true 0 (sbfAddr (s.fget .SEC_KNOT_OFF F.SEC_KNOT_OFF_OFFSET)) 3152
  (r.st.settle, if r.err.isSome || r.pois.any id then [] else r.bytes)

/-- Checks a notice in the order of R462; one that passes has its fuses blown. -/
def State.knotCheck (s : State) (l : List Byte) : State :=
  if !knotOk l then s.knotEnd 1
  else
    let v := s.sigCheck (knotSlot l) (sub l 0 64) (sub l 0x40 3088)
    if v ≠ 0 then (s.vfyFail 5 v).knotEnd 2
    else
      let r := s.knotRefusal l
      if r ≠ 0 then s.knotEnd r
      else { s with sec := { s.sec with knot := some (knotOp l, knotTarget l, sub l 0x10 32) } }.fset .SEC_KNOT_STAT
        F.SEC_KNOT_STAT_STATE 1

/-- Whether a write to SEC_KNOT_GO submits a notice: ignored while STATE is busy. -/
def State.knotGo (s : State) (v : Word) : Bool :=
  decide (F.SEC_KNOT_GO_GO.get v = 1) && decide (s.fget .SEC_KNOT_STAT F.SEC_KNOT_STAT_STATE ≠ 1)

/-- KEY_ENROL (R461, R462): a notice that is no revocation. -/
def execKeyEnrol (v : Word) (s : State) : Res State :=
  let r := s.knotRead
  if s.knotGo v ∧ knotOp r.2 ≠ 2 then .next (r.1.knotCheck r.2) else .next s

/-- KEY_REVOKE (R461, R462). -/
def execKeyRevoke (v : Word) (s : State) : Res State :=
  let r := s.knotRead
  if s.knotGo v ∧ knotOp r.2 = 2 then .next (r.1.knotCheck r.2) else .next s

/-- Blows the fuses of a notice (R462): an enrolment's digest and VALID, a revocation's REVOKED.  DESIGN CHOICE, log entry 45. -/
def State.blow (s : State) (op target : Nat) (dig : List Byte) : State :=
  s.keyUpd target (fun k => if op = 1 then { k with digest := dig, valid := true } else { k with revoked := true })

/-- KEY_NOTICE_DONE (R462): DONE, or REFUSED with REASON 7, some of the fuses then blown.  DESIGN CHOICE, log entry 45. -/
def execKeyNoticeDone (ok : Bool) (s : State) : Res State :=
  match s.sec.knot with
  | none => .next s
  | some (op, t, dig) =>
    let s1 : State := { s with sec := { s.sec with knot := none } }
    if ok then .next ((s1.blow op t dig).knotEnd 0)
    else .next ({ s1 with fuses := s1.fuses.cut s1.free (some (op, t, dig)), free := s1.free + 32 }.knotEnd 7)

/-! ### Attestation (R463 to R465) -/

/-- SEC_KEYS as the fuses and the images in use give it (R468). -/
def State.secKeys (s : State) : Nat :=
  (List.range 4).foldl (fun m k => m + b2n (s.key k).live * 2 ^ k + b2n (s.key k).revoked * 2 ^ (4 + k) +
    b2n (s.key k).spoiled * 2 ^ (8 + k)) (s.fget .SEC_KEYS F.SEC_KEYS_BOOT_SLOT * 4096 + s.fget .SEC_KEYS F.SEC_KEYS_IMG_SLOT * 16384)

/-- A list of bytes cut or padded with zeros to a length. -/
def padBytes (n : Nat) (l : List Byte) : List Byte := (l ++ List.replicate n 0).take n

/-- Bytes 0x00 to 0xFF of a report (R464); `req` 0 for the host path, 1 for the landing port.  DEDUCED, log entry 46. -/
def State.reportBody (s : State) (req : Nat) (nonce : List Byte) : List Byte :=
  let st := s.rget .BUP_STAT
  toBytes 4 0x54535441 ++ toBytes 4 (0x0100 + req * 65536) ++ toBytes 8 s.fuses.serial ++ padBytes 32 nonce ++
    toBytes 4 (s.sec.reports + 1) ++
    toBytes 4 (s.tier + s.bootTier * 4 + s.fget .SEC_LIC F.SEC_LIC_LIC_SRC * 16 + s.fget .GLB_FEATURE F.GLB_FEATURE_LEVEL * 256 +
      F.BUP_STAT_STAGE.get st * 65536 + F.BUP_STAT_LEVEL.get st * 1048576 + F.BUP_STAT_KEPT.get st * 8388608 +
      F.BUP_STAT_PATH.get st * 16777216) ++
    toBytes 4 s.secKeys ++ toBytes 4 (s.rget .BUP_FENCED).toNat ++ padBytes 64 s.sec.bootDigest ++
    (List.range 16).flatMap (fun w => toBytes 4 (s.rget (.CFG_IMG_DIGEST (Fin.ofNat 16 w))).toNat) ++
    padBytes 32 ((s.sec.lic.map (shake256 32)).getD []) ++ padBytes 32 s.sec.flashId

/-- A report: its body and the signature block (R464). -/
def report (body : List Byte) : List Byte :=
  let sig := (Config.sign body).take 1280
  body ++ toBytes 2 sig.length ++ List.replicate 6 0 ++ padBytes 1280 sig

/-- The nonce of the host path. -/
def State.hostNonce (s : State) : List Byte := (List.range 8).flatMap (fun w => toBytes 4 (s.rget (.SEC_NONCE (Fin.ofNat 8 w))).toNat)

/-- ATTEST_HOST (R464 to R466): the signer takes the body; a GO while the path is signing is ignored and sets ERR.
DEDUCED, log entry 46. -/
def execAttestHost (v : Word) (s : State) : Res State :=
  if F.SEC_ATT_GO_GO.get v = 0 then .next s
  else if s.sec.att.isSome then .next (s.bset .SEC_ATT_STAT F.SEC_ATT_STAT_ERR true)
  else
    .next ({ s with sec := { s.sec with att := some (s.reportBody 0 s.hostNonce), reports := s.sec.reports + 1 } }.fset .SEC_ATT_STAT
      F.SEC_ATT_STAT_STATE 1)

/-- The end of a host-path report (R31, R465): it is written with manifests, source 5. -/
def State.attestOut (s : State) (body : List Byte) : State :=
  let s1 := { s with sec := { s.sec with att := none } }.hubWrite (sbfAddr (s.fget .SEC_ATT_OFF F.SEC_ATT_OFF_OFFSET)) (report body)
  ((s1.fset .SEC_ATT_STAT F.SEC_ATT_STAT_STATE 2).fset .SEC_ATT_STAT F.SEC_ATT_STAT_COUNT (num body 0x30 2)).secEvt 1

/-- ATTEST_DONE (R465): the signer ends a report; the landing port's response carries its length.  DEDUCED, log entry 46. -/
def execAttestDone (landing : Bool) (s : State) : Res State :=
  match landing, s.sec.att, s.sec.ldpAtt with
  | false, some b, _ => .next (s.attestOut b)
  | true, _, some b =>
    .next (({ s with sec := { s.sec with ldpAtt := none, ldpReport := some (report b) } }.cnt .LDP_REQ F.LDP_REQ_SERVED 1).reply
      (.vendor 0 (toBytes 2 1544)))
  | _, _, _ => .next s

end Sys2Proof.Machine
end

