-- ==== Sys2Proof/Machine/RegView.lean ====
section
/-! DEFINITION. What the registers read as (R13 to R17, R506 to R525): the registers that show state of the units, and those that
a selection register qualifies. -/

namespace Sys2Proof.Machine

/-- The state of a register that a read would show beneath its own bits: a word from a list of fields, lowest bit and value. -/
def wordOfFields (l : List (Fld × Nat)) : Word := l.foldl (fun w x => x.1.put w x.2) 0

/-- A word with some of its fields replaced. -/
def withFields (w : Word) (l : List (Fld × Nat)) : Word := l.foldl (fun w x => x.1.put w x.2) w

/-- A temperature in T12 (R438), from µ°C. -/
def t12Of (micro : Int) : Nat := t12bits (t12 micro)

/-! ### The hub's own blocks -/

/-- GLB (R512): the identity, and the mirrors of BUP, SEC and CFG. -/
def State.glbId (s : State) : Word := wordOfFields [(F.GLB_ID_PART, 0x4820), (F.GLB_ID_STEPPING, s.fuses.stepping.at 0)]
@[inherit_doc State.glbId] def State.glbStatus (s : State) : Word := wordOfFields [
  (F.GLB_STATUS_LEVEL, s.fget .BUP_STAT F.BUP_STAT_LEVEL), (F.GLB_STATUS_MOUNTED, s.fget .BUP_STAT F.BUP_STAT_MOUNTED),
  (F.GLB_STATUS_STAGE, s.stageNow), (F.GLB_STATUS_TIER, s.tier),
  (F.GLB_STATUS_LOADED, b2n (decide (s.fget .CFG_LOAD_STAT F.CFG_LOAD_STAT_STATE = 6))), (F.GLB_STATUS_FAULT, b2n s.faultN)]

/-- The rail that PWR_RAIL_SEL selects. -/
def State.railSel (s : State) : Nat := s.fget .PWR_RAIL_SEL F.PWR_RAIL_SEL_RAIL

/-- The rail registers (R376): those of a rail that does not exist read 0.  DESIGN CHOICE, log entry 27. -/
def State.railView (s : State) (r : Reg) : Word :=
  let n := s.railSel
  let x := s.pwr.rails.at n
  if 65 ≤ n then 0
  else match r with
    | .PWR_RAIL_V => wordOfFields [(F.PWR_RAIL_V_SETPT, s.setpoint n), (F.PWR_RAIL_V_MEAS, x.meas)]
    | .PWR_RAIL_I => wordOfFields [(F.PWR_RAIL_I_CURRENT, x.cur), (F.PWR_RAIL_I_POWER, x.pow)]
    | .PWR_RAIL_E => wordOf (x.uj / 1000)
    | _ => wordOf x.flt

/-- PWR_DIE_STAT (R376): the dies in Doze, and those in transition. -/
def State.dieStatView (s : State) : Word :=
  let mask (p : Nat → Bool) : Nat := (List.range 8).foldl (fun m d => m + b2n (p (s.doze.at d)) * 2 ^ d) 0
  withFields (s.rget .PWR_DIE_STAT) [(F.PWR_DIE_STAT_DOZE, mask (fun x => x = 2)),
    (F.PWR_DIE_STAT_BUSY, mask (fun x => x = 1 || x = 3))]

/-- The die that THM_SEL selects, if there is one, and the thermal node it selects on that die (R438). -/
def State.thmDie (s : State) : Option Nat :=
  let d := s.fget .THM_SEL F.THM_SEL_DIE
  if d < 20 then some d else none
@[inherit_doc State.thmDie] def State.thmNode (s : State) : Option Nat := match s.thmDie with
  | some d =>
    let n := s.fget .THM_SEL F.THM_SEL_NODE
    if n < nodeCount d then some (nodeBase d + n) else none
  | none => none

/-- The selected registers of THM (R438). -/
def State.thmView (s : State) (r : Reg) : Word := match r with
  | .THM_NODE => match s.thmNode with
    | some n => wordOfFields [(F.THM_NODE_TEMP, t12Of (s.nodeTemp n)), (F.THM_NODE_POWER, min 4095 (s.thm.powers.at n / 100000))]
    | none => 0
  | .THM_DIODE k => match s.thmDie with
    | some d =>
      let x := s.thm.dies.at d
      wordOfFields [(F.THM_DIODE_TEMP, t12bits (nth x.diodes k.val)), (F.THM_DIODE_FAIL, b2n (bitAt x.failed k.val))]
    | none => 0
  | .THM_DIE => match s.thmDie with
    | some d =>
      let x := s.thm.dies.at d
      wordOfFields [(F.THM_DIE_BOUND, t12Of x.bound), (F.THM_DIE_DIVERGED, b2n x.diverged), (F.THM_DIE_FROZEN, b2n x.frozen)]
    | none => 0
  | _ =>
    let h := s.hottest
    wordOfFields [(F.THM_HOT_DIE, nodeDie h.1), (F.THM_HOT_TEMP, t12Of h.2)]

/-- BUP_DIE_INFO (R398) of the selected position. -/
def State.dieInfoView (s : State) : Word :=
  let d := s.fget .BUP_DIE_SEL F.BUP_DIE_SEL_DIE
  if 20 ≤ d then 0 else
    let x := s.bup.dies.at d
    wordOfFields [(F.BUP_DIE_INFO_CAUSE, x.cause), (F.BUP_DIE_INFO_STEPPING, x.stepping), (F.BUP_DIE_INFO_FEATURE, x.feature),
      (F.BUP_DIE_INFO_FENCED, b2n (s.dieFenced d))]

/-- The bytes of the defect-log record of number `i` (R392): 0xFF beyond the end of the log; those of a torn record are free. -/
def State.logBytes (s : State) (i : Nat) : List Byte := match s.log.recs[i]? with
  | some r =>
    if r.torn then (List.range 8).flatMap (fun w => toBytes 4 (Config.tornRecord i w).toNat)
    else
      let body := toBytes 4 (r.typ + r.cause * 256) ++ toBytes 4 i ++ toBytes 4 r.a ++ toBytes 4 r.b ++ toBytes 4 r.c ++ toBytes 8 0
      body ++ toBytes 4 (crc32c body).toNat
  | none => List.replicate 32 0xFF

/-- The certificate (R463). -/
def State.certificate (s : State) : List Byte :=
  let n := min 1280 Config.makerSigLen
  toBytes 8 s.fuses.serial ++ (List.range 1793).map Config.identityKey ++ List.replicate 7 0 ++ toBytes 2 n ++ List.replicate 6 0 ++
    padBytes 1280 ((List.range n).map Config.makerSig)

/-- The selected registers of SEC (R468). -/
def State.secView (s : State) (r : Reg) : Word := match r with
  | .SEC_SERIAL_LO => wordOf s.fuses.serial
  | .SEC_SERIAL_HI => wordOf (s.fuses.serial / 2 ^ 32)
  | .SEC_KEYS => wordOf s.secKeys
  | .SEC_KEY_DIG w => wordOf (leNat (s.key (s.fget .SEC_KEY_SEL F.SEC_KEY_SEL_SLOT)).digest (4 * w.val) 4)
  | _ =>
    let w := s.fget .SEC_CERT_SEL F.SEC_CERT_SEL_WORD
    if w < 774 then wordOf (leNat s.certificate (4 * w) 4) else 0

/-! ### Spans, interrupts, tickets, memory -/

/-- The number of a span entry's state (R130). -/
def SpanSt.code : SpanSt → Nat
  | .empty => 0
  | .loading => 1
  | .idle => 2
  | .running => 3
  | .draining => 4
  | .stopping => 5
  | .faulted => 6

/-- CFG_SPAN_STAT (R158) of the selected entry: an EMPTY entry shows no more than its state. -/
def State.spanStatView (s : State) : Word :=
  let i := s.fget .CFG_SPAN_SEL F.CFG_SPAN_SEL_INDEX
  let x := s.spans.at i
  if x.st = .empty then 0
  else wordOfFields [(F.CFG_SPAN_STAT_STATE, x.st.code), (F.CFG_SPAN_STAT_DEGRADED, b2n (s.spanDegraded i)),
    (F.CFG_SPAN_STAT_GROUP, b2n x.group), (F.CFG_SPAN_STAT_EXPERT, b2n x.expert), (F.CFG_SPAN_STAT_PARENT, x.parent)]

/-- ICU_SRC_s, ICU_PEND_w, ICU_TSTAT_t (R417). -/
def State.icuSrcView (s : State) (k : Nat) : Word :=
  let c := s.icu.src.at k
  wordOfFields [(F.ICU_SRC_PRIO, s.srcPrio k), (F.ICU_SRC_KIND, b2n (levelSource k)), (F.ICU_SRC_LINE, b2n (levelSource k && c.line)),
    (F.ICU_SRC_PEND, b2n (s.srcPending k)), (F.ICU_SRC_INSVC, b2n c.insvc), (F.ICU_SRC_COUNT, c.count), (F.ICU_SRC_OVF, b2n c.ovf),
    (F.ICU_SRC_SVC_TGT, if c.insvc then c.tgt else 0)]
@[inherit_doc State.icuSrcView] def State.icuPendView (s : State) (w : Nat) : Word :=
  wordOf ((List.range 32).foldl (fun m i => m + b2n (s.srcPending (32 * w + i)) * 2 ^ i) 0)
@[inherit_doc State.icuSrcView] def State.icuTstatView (s : State) (t : Nat) : Word :=
  let g := s.icu.tgt.at t
  wordOfFields [(F.ICU_TSTAT_RUNPRIO, g.run), (F.ICU_TSTAT_DEPTH, g.stack.length),
    (F.ICU_TSTAT_TOP, (g.stack.head?.map (·.1)).getD 0x3FF), (F.ICU_TSTAT_EOI_ERR, b2n g.eoiErr), (F.ICU_TSTAT_OUTSTANDING, b2n g.out)]

/-- The selected registers of TKT (R233): those of a resource that does not exist read 0.  DEDUCED, log entry 28. -/
def State.tktView (s : State) (r : Reg) : Word :=
  let res := s.fget .TKT_SEL F.TKT_SEL_RES
  let t := s.fget .TKT_SEL F.TKT_SEL_TICKET
  let x := s.tktAt res t
  let u := s.tkt.res.at res
  if 73 ≤ res then 0
  else match r with
    | .TKT_AVG => wordOfFields [(F.TKT_AVG_AVG, x.avg), (F.TKT_AVG_STEP, x.step), (F.TKT_AVG_PRIO, s.priority res t)]
    | .TKT_WIN => wordOfFields [(F.TKT_WIN_OVER, x.overs), (F.TKT_WIN_READS, x.reads)]
    | .TKT_RSTAT => wordOfFields [(F.TKT_RSTAT_LEVEL, u.level), (F.TKT_RSTAT_BAND, u.band), (F.TKT_RSTAT_HOLD, u.hold)]
    | _ => wordOf u.heldCnt

/-- Whether a memory instance exists (R191): sites, shared-buffer banks, bonded rows and stacks. -/
def memInstance (cls inst : Nat) : Bool := match cls with
  | 0 => inst < 128
  | 1 => inst < 32
  | 2 => inst < 128
  | 3 => inst < 128
  | 4 => inst < 32
  | 5 => inst < 8
  | _ => false

/-- The instance that MEM_INST_SEL selects, when it exists. -/
def State.memSel (s : State) : Option Nat :=
  let c := s.fget .MEM_INST_SEL F.MEM_INST_SEL_CLASS
  let i := s.fget .MEM_INST_SEL F.MEM_INST_SEL_INST
  if memInstance c i then some (c * 128 + i) else none

/-- The entry that MEM_PATCH_SEL selects in the selected instance. -/
def State.patchSel (s : State) : Option Patch :=
  (s.memSel.bind (fun k => (s.mem.insts.at k).patch.at (s.fget .MEM_PATCH_SEL F.MEM_PATCH_SEL_ENTRY)))

/-- The registers of MEM that show the protection state (R214).  DESIGN CHOICE, log entry 27. -/
def State.memView (s : State) (r : Reg) : Word :=
  let m := s.mem
  let x : MemInst := match s.memSel with
    | some k => m.insts.at k
    | none => default
  let adr (p : Patch) : Nat := match s.memSel with
    | some k => s.reportAddr ⟨k / 128, k % 128, p.key⟩
    | none => 0
  match r with
  | .MEM_CE_CNT => wordOf x.ce
  | .MEM_UE_CNT => wordOf x.ue
  | .MEM_RCL_STAT => wordOfFields [(F.MEM_RCL_STAT_USED, x.rcl.length), (F.MEM_RCL_STAT_EVICT, x.evict)]
  | .MEM_PATCH_STAT => wordOfFields [(F.MEM_PATCH_STAT_USED, ((List.range 8).filter (fun i => (x.patch.at i).isSome)).length),
      (F.MEM_PATCH_STAT_FULL, b2n x.full), (F.MEM_PATCH_STAT_OVERFLOW, x.overflow)]
  | .MEM_PATCH_ADDR_LO => match s.patchSel with
    | some p => wordOf (adr p)
    | none => 0
  | .MEM_PATCH_ADDR_HI => match s.patchSel with
    | some p => wordOfFields [(F.MEM_PATCH_ADDR_HI_ADDR, adr p / 2 ^ 32), (F.MEM_PATCH_ADDR_HI_VALID, 1)]
    | none => 0
  | .MEM_PATCH_DATA => match s.patchSel with
    | some p => p.data
    | none => 0
  | .MEM_EVT => wordOfFields [(F.MEM_EVT_FULL_CLASS, m.fullEvt.1), (F.MEM_EVT_FULL_INST, m.fullEvt.2), (F.MEM_EVT_UE_CLASS, m.ueEvt.1),
      (F.MEM_EVT_UE_INST, m.ueEvt.2)]
  | .MEM_POISON_CNT => wordOf m.poisonCnt
  | .MEM_FLIP_HIT_LO => wordOf m.flipHit.1
  | .MEM_FLIP_HIT_HI => wordOfFields [(F.MEM_FLIP_HIT_HI_ADDR, m.flipHit.1 / 2 ^ 32), (F.MEM_FLIP_HIT_HI_CLASS, m.flipHit.2)]
  | .MEM_MAN_CNT => wordOf m.manCnt
  | .MEM_MAN_ADDR_LO => wordOf m.manAddr
  | .MEM_MAN_ADDR_HI => wordOfFields [(F.MEM_MAN_ADDR_HI_ADDR, m.manAddr / 2 ^ 32), (F.MEM_MAN_ADDR_HI_POINT, m.manPoint)]
  | .MEM_WERR_LO => wordOf m.werrAddr
  | _ => wordOfFields [(F.MEM_WERR_HI_ADDR, m.werrAddr / 2 ^ 32), (F.MEM_WERR_HI_COUNT, m.werrCnt)]

/-- SBF_PL_STAT (R188). -/
def State.plStatView (s : State) : Word := wordOfFields [
  (F.SBF_PL_STAT_USED, (s.place.frames.filter (fun x => x.2.isSome)).length),
  (F.SBF_PL_STAT_FRAMES, (s.frameBase.map (·.2)).getD 0)]

/-- BRG_STAT_m (R190): halted, running or idle, and whether a span that does not run holds the ring.  DEDUCED, log entry 75. -/
def State.brgStatView (s : State) (m : Mover) : Word :=
  withFields (s.rget (.BRG_STAT m)) [
    (F.BRG_STAT_STATE, if (s.mover m.val).halted.isSome then 2 else if s.moverIdle m.val then 0 else 1),
    (F.BRG_STAT_HELD, b2n (s.ownEntry (.mover m.val)).isSome)]

/-- GEN_SEQ_s (R99). -/
def State.seqView (s : State) (k : Slot) : Word :=
  let u := s.slot k.val
  withFields (s.rget (.GEN_SEQ k)) [(F.GEN_SEQ_DEPTH, u.gstack.length), (F.GEN_SEQ_GSTATE, u.gstate)]

/-! ### Stacks, causeway, links -/

/-- STK_STAT_n (R189): the pin fault of R167 beside the state. -/
def State.stkStatView (s : State) (n : Fin 8) : Word :=
  withFields (s.rget (.STK_STAT n)) [(F.STK_STAT_PIN_FAULT, b2n (s.mem.pinFault.at n.val).isSome),
    (F.STK_STAT_PIN, (s.mem.pinFault.at n.val).getD 0)]

/-- CWY_LANE_CNT (R318) of the selected lane. -/
def State.laneCntView (s : State) (p : Bundle) : Word :=
  let w := s.rget (.CWY_LANE_SEL p)
  let d := s.dirOf p.val (F.CWY_LANE_SEL_DIR.get w)
  let l := F.CWY_LANE_SEL_LANE.get w
  if 70 ≤ l then 0 else wordOfFields [(F.CWY_LANE_CNT_CORR, d.corr.at l), (F.CWY_LANE_CNT_MARGIN, d.margin.at l)]

/-- LNK_LANE (R351) of the selected lane: the transmitter coefficients in use; the signal-to-noise ratio is free.
DEDUCED, log entry 58. -/
def State.lnkLaneView (s : State) (l : Fin 2) : Word :=
  let k := s.fget (.LNK_LANE_SEL l) F.LNK_LANE_SEL_LANE
  let u := s.ports.at (l.val * 8 + k / 4)
  let tap (t : Nat) : Nat := (u.taps.at (k % 4 * 4 + t) % 256).toNat
  wordOfFields [(F.LNK_LANE_SNR, (Config.freeWord s.free).toNat), (F.LNK_LANE_PRE1, tap 0), (F.LNK_LANE_POST1, tap 2)]

/-- The selected registers of LNK 0 (R351). -/
def State.lnkDevView (s : State) (r : Reg) : Word :=
  let d := s.fget .LNK_DEV_SEL F.LNK_DEV_SEL_DEVICE
  let x := s.devs.at d
  match r with
  | .LNK_DEV => wordOfFields [(F.LNK_DEV_UPSET, x.up), (F.LNK_DEV_DNSET, x.dn)]
  | .LNK_DEV_INFO => wordOfFields [(F.LNK_DEV_INFO_HOPS, x.hops), (F.LNK_DEV_INFO_PRESENT, b2n x.present),
      (F.LNK_DEV_INFO_LOST, b2n (s.devLost d)), (F.LNK_DEV_INFO_TIER, x.tier), (F.LNK_DEV_INFO_FEATURE, x.feature),
      (F.LNK_DEV_INFO_LEVEL, x.level)]
  | .LNK_DEV_SN => wordOf x.serial
  | .LNK_EXP => withFields (s.rget .LNK_EXP) [(F.LNK_EXP_HELD, min 65535 s.heldFrames.length)]
  | _ => wordOf s.grp.tags.length

/-! ### Dies -/

/-- The stepping and feature level that a die reported in discovery. -/
def State.idFields (s : State) (pos : Nat) (st ft : Fld) : List (Fld × Nat) :=
  [(st, (s.bup.dies.at pos).stepping), (ft, (s.bup.dies.at pos).feature)]

/-- CDI_STATUS of compute die `d` (from 0; R129). -/
def State.cdiStatusView (s : State) (d : Nat) : Word :=
  let mask (n : Nat) (p : Nat → Bool) : Nat := (List.range n).foldl (fun m i => m + b2n (p i) * 2 ^ i) 0
  let slotAbsent (i : Nat) : Bool := decide (s.siteState (s.siteOf (d * 12 + i)) ≠ 0)
  let abs := mask 12 slotAbsent
  wordOfFields [(F.CDI_STATUS_SPARE_AVAIL, mask 4 (fun r => (mapSpare (s.rget (mapReg d r))).isSome)),
    (F.CDI_STATUS_SUBST_BUSY, mask 4 (fun r => (s.subst.at (d * 4 + r)).isSome)), (F.CDI_STATUS_ABSENT, abs),
    (F.CDI_STATUS_DEGRADED, b2n (decide (abs ≠ 0)))]

/-- CDI_SEAM of compute die `d` (from 0; R129). -/
def State.seamView (s : State) (d : Nat) : Word :=
  let e := s.applied (2 * d)
  let w := s.applied (2 * d + 1)
  wordOfFields [(F.CDI_SEAM_EAST_STEP, e), (F.CDI_SEAM_WEST_STEP, w), (F.CDI_SEAM_EQUAL, b2n (e = w))]

/-- Whether a site is out of service: BAD, RETIRED or ABSENT_FAILED (R101). -/
def State.siteOut (s : State) (k : Nat) : Bool :=
  let st := s.siteState k
  st = 2 || st = 3 || st = 4

/-- The registers of an engine site that show its state (R129): a site out of service holds what its registers showed. -/
def State.engView (s : State) (r : Reg) : Word := match r with
  | .ENG_STATE k => wordOfFields [(F.ENG_STATE_STATE, s.siteState k.val), (F.ENG_STATE_ENGINE, (s.engineAt k.val).getD 0x7F),
      (F.ENG_STATE_HALF, siteHalf k.val)]
  | .ENG_CTX k => if s.siteOut k.val then s.rget r else match s.engineAt k.val with
    | some e => wordOf (s.engs.at e).ctxWord
    | none => 0
  | .ENG_LS k => wordOfFields [(F.ENG_LS_USABLE_KIB, s.usable k.val / 1024), (F.ENG_LS_FENCED, (s.sites.at k.val).fenced.length)]
  | r => s.rget r

/-- The threshold registers of channel `c` (R264): a group beyond the LUN's blocks holds offset 0. -/
def State.thrView (s : State) (c : Chan) : Word :=
  let w := s.rget (.FLC_THR_SEL c)
  let g := F.FLC_THR_SEL_GROUP.get w
  let x := s.flash.groups.at ((c.val * 32 + g / 128) * 128 + g % 128)
  wordOfFields [(F.FLC_THR_DATA_OFFSET, (x.offs.at (F.FLC_THR_SEL_LEVEL.get w) % 256).toNat), (F.FLC_THR_DATA_SBAR, x.sbar)]

/-- FLC_PE_DATA of channel `c` (R264). -/
def State.peView (s : State) (c : Chan) : Word :=
  let w := s.rget (.FLC_PE_SEL c)
  let lun := F.FLC_PE_SEL_TARGET.get w * 4 + F.FLC_PE_SEL_LUN.get w
  let b := s.flash.blocks.at ((c.val * 32 + lun) * 8192 + F.FLC_PE_SEL_BLOCK.get w)
  wordOfFields [(F.FLC_PE_DATA_COUNT, b.pe), (F.FLC_PE_DATA_BAD, b.bad)]

/-- The selected registers of RTV (R295). -/
def State.rtvView (s : State) (r : Reg) : Word :=
  let p := s.fget .RTV_PIPE_SEL F.RTV_PIPE_SEL_PIPE
  let u := s.retr.pipes.at p
  match r with
  | .RTV_WALK => wordOf ((s.queries.map (fun q => q.2.ctx)).foldl (· + ·) 0)
  | .RTV_WSLOT => wordOf s.wslots.length
  | .RTV_PSTAT =>
    let x := s.pipe p
    if !x.valid then 0
    else
      let h := if s.hasHead p then s.admitHold p else none
      wordOfFields [(F.RTV_PSTAT_KIND, x.kind), (F.RTV_PSTAT_HELD_RES, b2n (h = some .res)), (F.RTV_PSTAT_HELD_ENG, b2n (h = some .eng)),
        (F.RTV_PSTAT_HELD_CTX, b2n (h = some .ctx)), (F.RTV_PSTAT_HELD_MOUNT, b2n u.heldDb.isSome),
        (F.RTV_PSTAT_HELD_FWD, b2n (!u.waiting.isEmpty)),
        (F.RTV_PSTAT_INFLIGHT, s.inFlight p)]
  | .RTV_CNT_Q => wordOf u.cntQ
  | .RTV_CNT_F => wordOf u.cntF
  | _ => wordOf u.cntU

/-- RTV_QWR_p, RTV_QRD_p, RTV_RRD_p (R295): 0 for a pipeline that is not loaded. -/
def State.rtvIndex (s : State) (p : Fin 64) (r : Reg) : Word := if (s.pipe p.val).valid then s.rget r else 0

/-! ### Telemetry, landing port, test -/

/-- The cut registers of the selected channel (R422, R437). -/
def State.cutView (s : State) (r : Reg) : Word :=
  let w := s.rget .TEL_CH_SEL
  let ch := F.TEL_CH_SEL_CHAN.get w
  let c := s.wave.cuts.at (cutKey ch (F.TEL_CH_SEL_DIR.get w))
  if 94 ≤ ch then 0
  else match r with
    | .TEL_CH_SENT => wordOf c.sent
    | .TEL_CH_RCVD => wordOf c.rcvd
    | _ => wordOfFields [(F.TEL_CH_STAT_FLAG, b2n c.flag), (F.TEL_CH_STAT_ID, c.id)]

/-- Whether the main side is off (R445): in Off-AON or after a shutdown. -/
def State.mainOff (s : State) : Bool := s.pwr.off

/-- Whether the package is in Standby (R370). -/
def State.inStandby (s : State) : Bool := decide (s.fget .PWR_STATE F.PWR_STATE_STATE = 2)

/-- Whether the landing port serves a request whose response is still to come (R440, R465): a push, or a signature. -/
def State.ldpBusy (s : State) : Bool := s.ldp.push || s.sec.ldpAtt.isSome

/-- LDP_STAT (R454). -/
def State.ldpStatView (s : State) : Word := wordOfFields [
  (F.LDP_STAT_EID, s.fget .LDP_STAT F.LDP_STAT_EID), (F.LDP_STAT_ADDR, 0x60 + s.bup.smbAddr),
  (F.LDP_STAT_MAIN_UP, b2n (!s.mainOff && !s.inStandby)), (F.LDP_STAT_REF_LOST, s.fget .CLK_EVT F.CLK_EVT_REF_LOST),
  (F.LDP_STAT_BUSY, b2n s.ldpBusy)]

/-- The selected target and direction of TST, the failing wires of its last test, and TST_RES (R481). -/
def State.tstKey (s : State) : Nat := s.fget .TST_SEL F.TST_SEL_TARGET * 2 +
  (if 78 ≤ s.fget .TST_SEL F.TST_SEL_TARGET then 0 else s.fget .TST_SEL F.TST_SEL_DIR)
@[inherit_doc State.tstKey] def State.tstFails (s : State) : List Nat := s.tap.fails.at s.tstKey
@[inherit_doc State.tstKey] def State.tstResView (s : State) : Word :=
  if s.tap.ran.contains s.tstKey then
    let l := s.tstFails
    wordOfFields [(F.TST_RES_RESULT, if l.isEmpty then 1 else 2), (F.TST_RES_NFAIL, l.length), (F.TST_RES_FIRST, nth l 0),
      (F.TST_RES_SECOND, nth l 1)]
  else 0

/-- IDCODE of a die (R472): part codes 0x48D0 to 0x48D4 for the hub, compute, retrieval and link dies and stacks. -/
def State.idcode (s : State) (pos : Nat) : Nat :=
  let part := if pos = 0 then 0x48D0 else if pos ≤ 8 then 0x48D1 else if pos = 9 then 0x48D2 else if pos ≤ 11 then 0x48D3 else 0x48D4
  (s.fuses.stepping.at pos % 16) * 2 ^ 28 + part * 4096 + s.fuses.jedec % 2048 * 2 + 1

/-! ### All registers -/

/-- The words of a number: word `w`. -/
def wordAt (n w : Nat) : Word := wordOf (n / 2 ^ (32 * w))

/-- What a register holds, before the rules on who reads it and when (R17): computed from the units, or its own bits.
DEDUCED, log entry 28; DESIGN CHOICE, log entries 4 and 27. -/
def State.view (s : State) (r : Reg) : Word := match r with
  | .GLB_ID => s.glbId
  | .GLB_STATUS => s.glbStatus
  | .PWR_RAIL_V => s.railView r
  | .PWR_RAIL_I => s.railView r
  | .PWR_RAIL_E => s.railView r
  | .PWR_RAIL_FLT => s.railView r
  | .PWR_DIE_STAT => s.dieStatView
  | .THM_NODE => s.thmView r
  | .THM_DIODE _ => s.thmView r
  | .THM_DIE => s.thmView r
  | .THM_HOT => s.thmView r
  | .BUP_STAT => s.rget r
  | .BUP_DIE_INFO => s.dieInfoView
  | .BUP_LOG_CNT => wordOf s.log.recs.length
  | .BUP_LOG_DATA w => wordOf (leNat (s.logBytes (s.fget .BUP_LOG_SEL F.BUP_LOG_SEL_INDEX)) (4 * w.val) 4)
  | .CFG_SPAN_STAT => s.spanStatView
  | .CFG_SPAN_FAULT w => wordAt (s.spans.at (s.fget .CFG_SPAN_SEL F.CFG_SPAN_SEL_INDEX)).fault w.val
  | .CFG_SPAN_EVT t => wordOf ((s.rings.at t.val).ents.head?.getD 0)
  | .CFG_RT_DATA _ => s.pairLive (s.pairKey r)
  | .SEC_SERIAL_LO => s.secView r
  | .SEC_SERIAL_HI => s.secView r
  | .SEC_KEYS => s.secView r
  | .SEC_KEY_DIG _ => s.secView r
  | .SEC_CERT_DATA => s.secView r
  | .ICU_SRC k => s.icuSrcView k.val
  | .ICU_PEND w => s.icuPendView w.val
  | .ICU_TSTAT t => s.icuTstatView t.val
  | .ICU_WAKE => withFields (s.rget r) [(F.ICU_WAKE_WAKE, b2n s.wakeN)]
  | .ICU_TICK => wordOf s.icu.tick
  | .ICU_TGT _ => if s.bridgeEn then 0 else s.rget r
  | .TKT_AVG => s.tktView r
  | .TKT_WIN => s.tktView r
  | .TKT_RSTAT => s.tktView r
  | .TKT_HELD => s.tktView r
  | .TKT_CLS t => if t = 0 then 0 else s.rget r
  | .TKT_ADMIT k => wordOfFields [(F.TKT_ADMIT_SUM, s.admitSum k.val), (F.TKT_ADMIT_CAP, s.admitCap k.val)]
  | .MEM_CE_CNT => s.memView r
  | .MEM_UE_CNT => s.memView r
  | .MEM_RCL_STAT => s.memView r
  | .MEM_PATCH_STAT => s.memView r
  | .MEM_PATCH_ADDR_LO => s.memView r
  | .MEM_PATCH_ADDR_HI => s.memView r
  | .MEM_PATCH_DATA => s.memView r
  | .MEM_EVT => s.memView r
  | .MEM_POISON_CNT => s.memView r
  | .MEM_FLIP_HIT_LO => s.memView r
  | .MEM_FLIP_HIT_HI => s.memView r
  | .MEM_MAN_CNT => s.memView r
  | .MEM_MAN_ADDR_LO => s.memView r
  | .MEM_MAN_ADDR_HI => s.memView r
  | .MEM_WERR_LO => s.memView r
  | .MEM_WERR_HI => s.memView r
  | .SBF_PART_BASE _ => s.pairLive (.reg r)
  | .SBF_PART_LEN _ => s.pairLive (.reg r)
  | .SBF_PL_STAT => s.plStatView
  | .STK_PART_BASE _ => s.pairLive (.reg r)
  | .STK_PART_LEN _ => s.pairLive (.reg r)
  | .BRG_STAT m => s.brgStatView m
  | .GEN_STATUS => withFields (s.rget r) [(F.GEN_STATUS_ACTIVE, s.activeSlots.length)]
  | .GEN_SEQ k => s.seqView k
  | .GEN_SAMP k w => nth (s.slot k.val).entry w.val
  | .STK_ID n => wordOfFields (s.idFields (12 + n.val) F.STK_ID_STEPPING F.STK_ID_FEATURE ++ [(F.STK_ID_STACK, n.val)])
  | .STK_STAT n => s.stkStatView n
  | .CWY_LANE_CNT p => s.laneCntView p
  | .CDI_ID d => wordOfFields (s.idFields (d.val + 1) F.CDI_ID_STEPPING F.CDI_ID_FEATURE ++ [(F.CDI_ID_DIE, d.val + 1)])
  | .CDI_STATUS d => s.cdiStatusView d.val
  | .CDI_SEAM d => s.seamView d.val
  | .ENG_STATE _ => s.engView r
  | .ENG_CTX _ => s.engView r
  | .ENG_LS _ => s.engView r
  | .RTV_ID => wordOfFields (s.idFields 9 F.RTV_ID_STEPPING F.RTV_ID_FEATURE)
  | .RTV_WALK => s.rtvView r
  | .RTV_WSLOT => s.rtvView r
  | .RTV_PSTAT => s.rtvView r
  | .RTV_CNT_Q => s.rtvView r
  | .RTV_CNT_F => s.rtvView r
  | .RTV_CNT_U => s.rtvView r
  | .RTV_QWR p => s.rtvIndex p r
  | .RTV_QRD p => s.rtvIndex p r
  | .RTV_RRD p => s.rtvIndex p r
  | .FLC_THR_DATA c => s.thrView c
  | .FLC_PE_DATA c => s.peView c
  | .LNK_ID l => wordOfFields (s.idFields (10 + l.val) F.LNK_ID_STEPPING F.LNK_ID_FEATURE ++ [(F.LNK_ID_DIE, l.val)])
  | .LNK_LANE l => s.lnkLaneView l
  | .LNK_GRP => withFields (s.rget r) [(F.LNK_GRP_BRIDGE, b2n s.bridgeEn)]
  | .LNK_DEV => s.lnkDevView r
  | .LNK_DEV_INFO => s.lnkDevView r
  | .LNK_DEV_SN => s.lnkDevView r
  | .LNK_EXP => s.lnkDevView r
  | .LNK_OUT => s.lnkDevView r
  | .HBR_IDS => wordOfFields [(F.HBR_IDS_VENDOR, s.fuses.vendor), (F.HBR_IDS_DEVICE, 0x4820)]
  | .TEL_CH_SENT => s.cutView r
  | .TEL_CH_RCVD => s.cutView r
  | .TEL_CH_STAT => s.cutView r
  | .LDP_STAT => s.ldpStatView
  | .LDP_CRASH w => nth s.ldp.crash w.val
  | .TST_RES => s.tstResView
  | .TST_FAILMAP w => wordOf ((s.tstFails.filter (fun i => decide (i / 32 = w.val))).foldl (fun m i => m + 2 ^ (i % 32)) 0)
  | .TST_IDCODE => wordOf (s.idcode 0)
  | r => s.rget r

end Sys2Proof.Machine
end

