-- ==== Sys2Proof/Machine/RegAccess.lean ====
section
/-! DEFINITION. Register accesses (R13 to R18, R425, R506 to R510): what a write does, what a read returns and clears. -/

namespace Sys2Proof.Machine

/-! ### Commands that a write starts -/

/-- What a command leads to whose operand says whether the boot flash takes a record (R394): a register write does not tell.
DESIGN CHOICE, log entry 20. -/
def State.viaLog (s : State) (f : Bool → State → Res State) : State := s.tick.via (f (Config.logWriteOk s.free))

/-! ### Fields with conditions of their own -/

/-- A write to the bits of mask `m` of register `r`. -/
def State.rput (s : State) (r : Reg) (m v : Word) : State := s.rset r ((s.rget r &&& ~~~m) ||| (v &&& m))

/-- A write to a register's RW, RWS and W1C fields (R17). -/
def State.plainWrite (s : State) (r : Reg) (v : Word) : State :=
  let a := r.access
  let s1 := s.rput r (a.rw ||| a.rws) v
  s1.rset r (s1.rget r &&& ~~~(v &&& a.w1c))

/-- PWR_CAP (R374): a field outside its range keeps its value.  DEDUCED, log entry 52. -/
def State.writeCap (s : State) (v : Word) : State :=
  let c := F.PWR_CAP_CAP_W.get v
  let s1 := if 1 ≤ c ∧ c ≤ 1800 then s.fset .PWR_CAP F.PWR_CAP_CAP_W c else s
  let p := F.PWR_CAP_PEAK_W.get v
  if s1.fget .PWR_CAP F.PWR_CAP_CAP_W ≤ p ∧ p ≤ 2000 then s1.fset .PWR_CAP F.PWR_CAP_PEAK_W p else s1

/-- PWR_CEIL (R374).  DEDUCED, log entry 52. -/
def State.writeCeil (s : State) (v : Word) : State :=
  let e := F.PWR_CEIL_EXC_INT.get v
  (if 1 ≤ e ∧ e ≤ 500 then s.fset .PWR_CEIL F.PWR_CEIL_EXC_INT e else s).fset .PWR_CEIL F.PWR_CEIL_HYST_W (F.PWR_CEIL_HYST_W.get v)

/-- THM_CTL (R438): THROT first, against which WARN is then held. -/
def State.writeThm (s : State) (v : Word) : State :=
  let t := F.THM_CTL_THROT.get v
  let s1 := if t ≤ 105 then s.fset .THM_CTL F.THM_CTL_THROT t else s
  let w := F.THM_CTL_WARN.get v
  let s2 := if w ≤ 95 ∧ w < s1.fget .THM_CTL F.THM_CTL_THROT then s1.fset .THM_CTL F.THM_CTL_WARN w else s1
  let h := F.THM_CTL_HYST.get v
  if 2 ≤ h then s2.fset .THM_CTL F.THM_CTL_HYST h else s2

/-- TKT_CLS_t (R231, R233): a new BASE takes effect at each resource's next STEP update. -/
def State.writeClass (s : State) (t : Fin 16) (v : Word) : State :=
  let b := F.TKT_CLS_BASE.get v
  let old := s.fget (.TKT_CLS t) F.TKT_CLS_BASE
  if t = 0 ∨ b = 7 then s
  else
    let s1 := (List.range 73).foldl (fun (s : State) r => { s with tkt := { s.tkt with
      at_ := s.tkt.at_.upd (r * 16 + t.val) (fun x => { x with oldBase := some (x.oldBase.getD old) }) } }) s
    s1.fset (.TKT_CLS t) F.TKT_CLS_BASE b

/-- TKT_QTHR_k (R233). -/
def State.writeQthr (s : State) (k : Fin 4) (v : Word) : State :=
  let lo := F.TKT_QTHR_LO.get v
  let hi := F.TKT_QTHR_HI.get v
  if lo = 0 ∨ hi ≤ lo ∨ classDepth k.val < hi then s else s.plainWrite (.TKT_QTHR k) v

/-- SBF_PL_CTL (R188): EPOCH is at most 8. -/
def State.writePlace (s : State) (v : Word) : State :=
  if F.SBF_PL_CTL_EPOCH.get v ≤ 8 then s.plainWrite .SBF_PL_CTL v
  else s.plainWrite .SBF_PL_CTL (F.SBF_PL_CTL_EPOCH.put v (s.fget .SBF_PL_CTL F.SBF_PL_CTL_EPOCH))

/-- GEN_CTL (R99): GRAM_EN is set under Damask only. -/
def State.writeGen (s : State) (v : Word) : State :=
  let g := F.GEN_CTL_GRAM_EN.get v
  let s1 := s.fset .GEN_CTL F.GEN_CTL_SAMP_EN (F.GEN_CTL_SAMP_EN.get v)
  if g = 0 ∨ s.tier = 2 then s1.fset .GEN_CTL F.GEN_CTL_GRAM_EN g else s1

/-- TEL_RING_CTL (R426): sampling is enabled only with a ring that fits the shared buffer. -/
def State.writeRing (s : State) (v : Word) : State :=
  let b := s.fget .TEL_RING_BASE F.TEL_RING_BASE_BASE
  let l := s.fget .TEL_RING_LEN F.TEL_RING_LEN_LEN
  if F.TEL_RING_CTL_EN.get v = 0 ∨ (b % 4096 = 0 ∧ l % 4096 = 0 ∧ 0 < l ∧ b + l ≤ 0x20000000) then s.plainWrite .TEL_RING_CTL v else s

/-- FLC_EVT_c and LNK_EVT_i (R264, R350): the level source falls when no bit is left. -/
def State.writeLevelEvt (s : State) (r : Reg) (src : Nat) (v : Word) : State :=
  let s1 := s.plainWrite r v
  if s1.rget r = 0 then s1.setLine src false else s1

/-- ICU_SRC_s (R402, R417): PRIO, but of a reserved source; a 1 clears OVF. -/
def State.writeSrc (s : State) (k : Src) (v : Word) : State :=
  let s1 := if reservedSource k.val then s else s.fset (.ICU_SRC k) F.ICU_SRC_PRIO (F.ICU_SRC_PRIO.get v)
  let s2 := if F.ICU_SRC_OVF.get v = 1 then s1.srcUpd k.val (fun c => { c with ovf := false }) else s1
  s2.presentAll

/-! ### Routing -/

/-- CFG_SPAN_CMD (R131): a reserved CMD sets CMD_ERR. -/
def State.writeSpanCmd (s : State) (ticket : Ticket) (v : Word) : State :=
  let i : SpanIx := Fin.ofNat 4096 (F.CFG_SPAN_CMD_INDEX.get v)
  match F.CFG_SPAN_CMD_CMD.get v with
  | 1 => s.via (execSpanStart i (Fin.ofNat 4 (F.CFG_SPAN_CMD_ARG.get v)) ticket)
  | 2 => s.via (execSpanStop i)
  | 3 => s.via (execSpanDrain i)
  | 4 => s.via (execSpanSnapshot i)
  | 5 => s.via (execSpanClear i)
  | 6 => s.via (execSpanUnload i)
  | _ => s.cmdErr

/-- FLC_RAW_CMD of channel `c` (R262): what the package answers is free. -/
def State.writeRaw (s : State) (c : Chan) (v : Word) : State :=
  let raw := decide (F.FLC_RAW_CMD_RAW.get v = 1)
  let t : Ticket := Fin.ofNat 16 (F.FLC_RAW_CMD_TICKET.get v)
  let x := byteOf (F.FLC_RAW_CMD_FEAT.get v)
  let n := s.free
  match F.FLC_RAW_CMD_OP.get v with
  | 1 => s.tick.via (execRawReadPage c raw t (Config.rawUnits n) (Config.freeBytes n))
  | 2 => s.tick.via (execRawProgramPage c raw t (Config.freeBool n))
  | 3 => s.tick.via (execRawEraseBlock c t (Config.freeBool n))
  | 4 => s.tick.via (execRawReadStatus c t (byteOf (Config.freeWord n).toNat))
  | 5 => s.tick.via (execRawGetFeatures c x t (Config.freeWord n))
  | 6 => s.via (execRawSetFeatures c x t)
  | 7 => s.tick.via (execRawReadId c t (Config.freeBytes n))
  | 8 => s.tick.via (execRawReadParameterPage c t (Config.freeBytes n))
  | 9 => s.tick.via (execRawResetLun c t (Config.freeBool n) (Config.logWriteOk n))
  | _ => s

/-- FLC_ZONE_CMD (R255). -/
def State.writeZone (s : State) (v : Word) : State := match F.FLC_ZONE_CMD_OP.get v with
  | 1 => s.via (execZoneOpen (Fin.ofNat 256 (F.FLC_ZONE_CMD_NSB.get v)))
  | 2 => s.via execZoneFinish
  | 3 => s.via execZoneFree
  | 4 => s.via execZoneQuery
  | _ => s

/-- LNK_PCTL of port `q` (R330). -/
def State.writePort (s : State) (q : Port) (v : Word) : State :=
  if F.LNK_PCTL_DISABLE.get v = 1 then s.via (execPortDisable q)
  else
    let s1 := s.via (execPortEnable q)
    if F.LNK_PCTL_RETRAIN.get v = 1 then s1.via (execPortRetrainWrite q) else s1

/-- BRG_CTL_m (R182). -/
def State.writeBrg (s : State) (m : Mover) (v : Word) : State :=
  if F.BRG_CTL_RESUME.get v = 1 then s.via (execBrgResume m)
  else if F.BRG_CTL_SKIP.get v = 1 then s.via (execBrgSkip m)
  else if F.BRG_CTL_ABORT.get v = 1 then s.via (execBrgAbort m)
  else s

/-- CWY_CTL of bundle `p` (R311, R314, R318). -/
def State.writeCwy (s : State) (p : Bundle) (v : Word) : State :=
  let s1 := s.fset (.CWY_CTL p) F.CWY_CTL_LANE_THR (F.CWY_CTL_LANE_THR.get v)
  let s2 := if F.CWY_CTL_RETRAIN.get v = 1 then s1.via (execBundleRetrain p) else s1
  if F.CWY_CTL_RETIRE.get v = 1 then s2.viaLog (execBundleRetire p) else s2

/-- PWR_CTL and PWR_DIE_CMD (R369 to R371). -/
def State.writePwr (s : State) (v : Word) : State := match F.PWR_CTL_REQ.get v with
  | 1 => s.via execStandbyEnter
  | 2 => s.via execStandbyExit
  | 3 => s.via execOffAon
  | _ => s
@[inherit_doc State.writePwr] def State.writeDieCmd (s : State) (v : Word) : State :=
  let d := F.PWR_DIE_CMD_DIE.get v
  if d = 0 ∨ 8 < d then s
  else match F.PWR_DIE_CMD_OP.get v with
    | 1 => s.via (execDieDoze (Fin.ofNat 8 (d - 1)))
    | 2 => s.via (execDieWake (Fin.ofNat 8 (d - 1)))
    | _ => s

/-- A write of `v` to register `r`, through agent `a`, that carries `ticket` (R17, R216, R508).
DEDUCED, log entry 52; DESIGN CHOICE, log entry 21. -/
def State.writeReg (s : State) (a : Agent) (ticket : Ticket) (r : Reg) (v : Word) : State := match r with
  | .CLK_MAX d => ((s.plainWrite r v).halfUpdate (2 * d.val)).halfUpdate (2 * d.val + 1)
  | .PWR_CTL => s.writePwr v
  | .PWR_CAP => s.writeCap v
  | .PWR_CEIL => s.writeCeil v
  | .PWR_DIE_CMD => s.writeDieCmd v
  | .THM_CTL => s.writeThm v
  | .BUP_RST => (s.via (execColdResetCmd v)).via (execWarmResetCmd v)
  | .BUP_RCV_GO => s.tick.via (execImagePush v (Config.startFinds s.free))
  | .CFG_CTL => s.via (execLevelWrite v)
  | .CFG_LOAD_GO => s.tick.via (execImageLoad v (Config.freeBytes s.free))
  | .CFG_SPAN_CMD => s.writeSpanCmd ticket v
  | .CFG_DB i => s.via (execDoorbell i v ticket)
  | .CFG_COMMIT => s.via (execPairCommit v)
  | .CFG_SHADOW_CLR => s.via (execShadowClear v)
  | .CFG_PAIR_ABANDON => s.via (execPairAbandon v)
  | .SEC_KNOT_GO => (s.via (execKeyEnrol v)).via (execKeyRevoke v)
  | .SEC_ATT_GO => s.via (execAttestHost v)
  | .ICU_SRC k => s.writeSrc k v
  | .ICU_TMASK _ => (s.plainWrite r v).presentAll
  | .ICU_COAL _ => (s.plainWrite r v).presentAll
  | .ICU_TCTL _ => (s.plainWrite r v).presentAll
  | .ICU_WAKE => (s.plainWrite r v).presentAll
  | .ICU_TSTAT t => if F.ICU_TSTAT_EOI_ERR.get v = 1 then s.tgtUpd t.val (fun g => { g with eoiErr := false }) else s
  | .ICU_TGT _ => if s.bridgeEn then s else s.plainWrite r v
  | .ICU_EOI t => s.via (execEoi t v)
  | .ICU_SWI => s.via (execSoftwareInterrupt v)
  | .TKT_CLS t => s.writeClass t v
  | .TKT_QTHR k => s.writeQthr k v
  | .MEM_PATCH_CTL => s.viaLog (execPatchRelease v)
  | .MEM_FENCE_MACRO => s.viaLog (execMacroFence v)
  | .MEM_RETIRE_CMD => s.viaLog (execPageRetire v)
  | .MEM_FLIP_CTL => s.via (execFlipArm v)
  | .MEM_SCRUB_GO =>
    let s1 := if F.MEM_SCRUB_GO_STOP.get v = 1 then s.via execScrubStop else s
    if F.MEM_SCRUB_GO_GO.get v = 1 then s1.via (execScrubStart (Fin.ofNat 16 (F.MEM_SCRUB_GO_TICKET.get v))) else s1
  | .SBF_PL_CTL => s.writePlace v
  | .SBF_PROMO_CMD => match F.SBF_PROMO_CMD_OP.get v with
    | 1 => s.via execPromoPromote
    | 2 => s.via execPromoDemote
    | _ => s
  | .BRG_WR m => s.via (execBrgWriteIndex m v)
  | .BRG_CTL m => s.writeBrg m v
  | .GEN_CTL => s.writeGen v
  | .GEN_SEQ k => if F.GEN_SEQ_ACT.get v = 1 then s.via (execSeqActivate k) else s.via (execSeqDeactivate k)
  | .GEN_SAMP k w => s.via (execSampStageWrite k w v)
  | .GEN_SAMP_GO => s.via (execSampGo v)
  | .GEN_HIST k => s.via (execHistAppend k v)
  | .GEN_ORING_RD k => s.via (execOringReadAdvance k v)
  | .CWY_CTL p => s.writeCwy p v
  | .CDI_CTL d => s.via (execEdgeSelWrite d v)
  | .CDI_ROW_SUBST d => s.tick.via (execRowSubst d v (Config.freeBool s.free))
  | .ENG_CTL k => s.viaLog (execEngFence k v)
  | .RTV_RE_FENCE => s.viaLog (execReFence (Fin.ofNat 65536 (F.RTV_RE_FENCE_FENCE.get v)))
  | .RTV_RRD p => s.via (execResultReadAdvance p v)
  | .FLC_THR_DATA c => s.via (execThresholdWrite c v)
  | .FLC_RAW_CMD c => s.writeRaw c v
  | .FLC_FMT => if F.FLC_FMT_GO.get v = 1 then s.via (execFormat (Fin.ofNat 32 (F.FLC_FMT_SPARE_PCT.get v))) else s
  | .FLC_ZONE_CMD => s.writeZone v
  | .FLC_EVT c => s.writeLevelEvt r (256 + c.val) v
  | .LNK_EVT l i => s.writeLevelEvt r (320 + (l.val * 8 + i.val)) v
  | .LNK_PCTL l i => s.writePort (Fin.ofNat 16 (l.val * 8 + i.val)) v
  | .LNK_RESCAN => if F.LNK_RESCAN_GO.get v = 1 then s.via execRescan else s
  | .HBR_CTL =>
    let s1 := s.plainWrite r v
    if F.HBR_CTL_RETRAIN.get v = 1 then s1.emit .linkRetrain else s1
  | .TEL_SNAP => match F.TEL_SNAP_GO.get v, F.TEL_SNAP_SCOPE.get v with
    | 1, 0 => s.via execSnapshotDevice
    | 1, 2 => s.via execSnapshotGroup
    | _, _ => s
  | .TEL_RING_BASE => if s.bget .TEL_RING_CTL F.TEL_RING_CTL_EN then s else s.plainWrite r v
  | .TEL_RING_LEN => if s.bget .TEL_RING_CTL F.TEL_RING_CTL_EN then s else s.plainWrite r v
  | .TEL_RING_CTL => s.writeRing v
  | .TEL_RING_RD => s.via (execTelRingReadAdvance v)
  | .TEL_HIST_SEL => s.via (execHistSelect v)
  | .LDP_ACCESS => if a = .landing then s else s.plainWrite r v
  | .LDP_MBOX_IN => if a = .landing then (s.rset r v).ldpEvt 0 else s
  | .LDP_MBOX_OUT => if a = .landing then s else (s.rset r v).alertBit F.LDP_ALERT_MBOX
  | .LDP_CRASH_CLR => if F.LDP_CRASH_CLR_CLR.get v = 1 then { s with ldp := { s.ldp with crash := [] } } else s
  | .TST_CTL =>
    let s1 := if F.TST_CTL_ENTER.get v = 1 then s.via execFieldTestEnter else s
    if F.TST_CTL_EXIT.get v = 1 then s1.viaLog execFieldTestExit else s1
  | r => if r.access.rwp ≠ 0 then s.rwpWrite r v else s.plainWrite r v

/-! ### Registers that are off -/

/-- Whether compute die `d`'s (from 0) registers answer (R509).  DEDUCED, log entry 29. -/
def State.computeOn (s : State) (d : Nat) : Bool :=
  !s.dieFenced (d + 1) && s.released d && s.doze.at d ≠ 2 && s.doze.at d ≠ 3

/-- Whether a port's registers other than LNK_PSTAT answer (R351).  DEDUCED, log entry 29. -/
def State.portOn (s : State) (l : Fin 2) (i : Fin 8) : Bool := s.linkOn l.val && s.portWealey (l.val * 8 + i.val)

/-- Whether a register reads 0 and ignores writes in the present state (R352, R370, R445, R509, and the notes of R295 and R351).
DEDUCED, log entry 29. -/
def State.regOff (s : State) (r : Reg) : Bool :=
  let b := r.offset / 0x10000
  if s.mainOff then b ≠ 0x600
  else if s.inStandby then b ≠ 0 && b ≠ 1 && b ≠ 2 && b ≠ 7 && b ≠ 0x600
  else match r with
    | .CDI_ID _ => false
    | .CDI_STATUS _ => false
    | .CDI_MAP _ _ => false
    | .RTV_ID => false
    | .RTV_STAT => false
    | .LNK_ID _ => false
    | .LNK_PSTAT _ _ => false
    | .LNK_PCTL l i => !s.portOn l i
    | .LNK_TX l i => !s.portOn l i
    | .LNK_RX l i => !s.portOn l i
    | .LNK_FEC l i => !s.portOn l i
    | .LNK_UCW l i => !s.portOn l i
    | .LNK_RTRN l i => !s.portOn l i
    | .LNK_EVT l i => !s.portOn l i
    | _ =>
      if 0x100 ≤ b ∧ b < 0x180 then !s.computeOn ((b - 0x100) / 16)
      else if b = 0x200 then s.fget .RTV_STAT F.RTV_STAT_STATE ≠ 1
      else if 0x300 ≤ b ∧ b < 0x320 then !s.linkOn ((b - 0x300) / 16)
      else if b = 0x400 then !s.bridgeEn
      else false

/-! ### Reads -/

/-- Clears the counts of the selected memory instance, or of the memory as a whole, that a read of `r` returns (R17, R214). -/
def State.clearMem (s : State) (r : Reg) : State :=
  let ik := s.memSel.getD 0
  let on (f : MemInst → MemInst) : State := if s.memSel.isSome then s.withMem (s.mem.inst ik f) else s
  match r with
  | .MEM_CE_CNT => on (fun i => { i with ce := 0 })
  | .MEM_UE_CNT => on (fun i => { i with ue := 0 })
  | .MEM_RCL_STAT => on (fun i => { i with evict := 0 })
  | .MEM_PATCH_STAT => on (fun i => { i with overflow := 0 })
  | .MEM_POISON_CNT => s.withMem { s.mem with poisonCnt := 0 }
  | .MEM_MAN_CNT => s.withMem { s.mem with manCnt := 0 }
  | _ => s.withMem { s.mem with werrCnt := 0 }

/-- Clears the RC fields of register `r` (R17, R18). -/
def State.clearRc (s : State) (r : Reg) : State := match r with
  | .MEM_CE_CNT => s.clearMem r
  | .MEM_UE_CNT => s.clearMem r
  | .MEM_RCL_STAT => s.clearMem r
  | .MEM_PATCH_STAT => s.clearMem r
  | .MEM_POISON_CNT => s.clearMem r
  | .MEM_MAN_CNT => s.clearMem r
  | .MEM_WERR_HI => s.clearMem r
  | .TKT_HELD =>
    let k := s.fget .TKT_SEL F.TKT_SEL_RES
    if k < 73 then { s with tkt := { s.tkt with res := s.tkt.res.upd k (fun u => { u with heldCnt := 0 }) } } else s
  | .RTV_CNT_Q =>
    let l := s.retr.pipes.upd (s.fget .RTV_PIPE_SEL F.RTV_PIPE_SEL_PIPE) (fun u => { u with cntQ := 0 })
    { s with retr := { s.retr with pipes := l } }
  | .RTV_CNT_F =>
    let l := s.retr.pipes.upd (s.fget .RTV_PIPE_SEL F.RTV_PIPE_SEL_PIPE) (fun u => { u with cntF := 0 })
    { s with retr := { s.retr with pipes := l } }
  | .CWY_LANE_CNT p =>
    let w := s.rget (.CWY_LANE_SEL p)
    s.dirUpd p.val (F.CWY_LANE_SEL_DIR.get w) (fun d => { d with corr := d.corr.put (F.CWY_LANE_SEL_LANE.get w) 0 })
  | .LNK_LANE _ => s.tick
  | r => if r.access.rc = 0 then s else s.rset r (s.rget r &&& ~~~r.access.rc)

/-- Reads register `r`: the value, and the state after its clear-by-read, claim or pop (R17, R133, R406). -/
def State.readReg (s : State) (r : Reg) : State × Word :=
  if s.regOff r then (s, 0)
  else match r with
    | .ICU_CLAIM t => s.claimBy t.val
    | .CFG_SPAN_EVT t => (s.via (execEventRingPop t), s.view r)
    | r => (s.clearRc r, s.view r)

/-! ### Shadow aliases (R425, R510) -/

/-- The shadow of register `r`, of the instance that its selection register names now; 0 for one that no wave latches.
DEDUCED, log entry 78. -/
def State.shadowOf (s : State) (r : Reg) : Word :=
  let h := s.shadows
  let res := s.fget .TKT_SEL F.TKT_SEL_RES
  let t := s.fget .TKT_SEL F.TKT_SEL_TICKET
  let x := h.at_.at (res * 16 + t)
  let p := h.pipes.at (s.fget .RTV_PIPE_SEL F.RTV_PIPE_SEL_PIPE)
  match r with
  | .TKT_AVG => if 73 ≤ res then 0 else wordOfFields [(F.TKT_AVG_AVG, x.avg), (F.TKT_AVG_STEP, x.step), (F.TKT_AVG_PRIO,
      if h.bases = [] then 0 else if t = 0 then 15 else x.oldBase.getD (nth h.bases t) + x.step)]
  | .TKT_WIN => if 73 ≤ res then 0 else wordOfFields [(F.TKT_WIN_OVER, x.overs), (F.TKT_WIN_READS, x.reads)]
  | .TKT_HELD => if 73 ≤ res then 0 else wordOf (h.held.at res)
  | .RTV_CNT_Q => wordOf p.1
  | .RTV_CNT_F => wordOf p.2.1
  | .RTV_CNT_U => wordOf p.2.2
  | .PWR_RAIL_E => wordOf (h.rails.at s.railSel / 1000)
  | r => ((h.regs.find? (fun e => e.1 = r)).map (·.2)).getD 0

/-! ### Accesses -/

/-- Whether an access keeps the form of R15: 32 bits wide, aligned, and within the register range. -/
def regForm (off size : Nat) : Bool := decide (size = 4 ∧ off % 4 = 0 ∧ off < 0x10000000)

/-- The ticket that a register access of an agent carries (R216, R344): 0 stands for the default ticket. -/
def agentTicket : Agent → Ticket
  | .host fn => Fin.ofNat 16 (fn.val - 1)
  | _ => 0

/-- A write access at offset `off` from the register base (R15, R425, R509). -/
def State.regWriteAt (s : State) (a : Agent) (ticket : Ticket) (off : Nat) (v : Word) : State :=
  match Reg.ofOffset off with
  | some r => if s.regOff r then s else s.writeReg a ticket r v
  | none => s

/-- A read access at offset `off` (R15, R425). -/
def State.regReadAt (s : State) (off : Nat) : State × Word :=
  if 0x08000000 ≤ off then match Reg.ofOffset (off - 0x08000000) with
    | some r => (s, s.shadowOf r)
    | none => (s, 0)
  else match Reg.ofOffset off with
    | some r => s.readReg r
    | none => (s, 0)

/-- REGISTER_WRITE (R15, R17): an access that breaks R15 completes with an error and is not performed. -/
def execRegisterWrite (a : Agent) (off size : Nat) (v : Word) (s : State) : Res State :=
  if regForm off size then .next ((s.regWriteAt a (agentTicket a) off v).reply .none)
  else .next (s.reply .error)

/-- CLEAR_BY_READ (R15, R17, R18): a read, which clears what it returns of RC fields. -/
def execClearByRead (_a : Agent) (off size : Nat) (s : State) : Res State :=
  if regForm off size then
    let r := s.regReadAt off
    .next (r.1.reply (.word r.2))
  else .next (s.reply .error)

end Sys2Proof.Machine
end

