-- ==== Sys2Proof/Machine/WealeyFrames.lean ====
section
/-! DEFINITION. The meanings of the frames that arrive on a Wealey port (R325, R326, R336 to R338, R349). -/

namespace Sys2Proof.Machine

/-! ### Arrival -/

/-- Whether a frame's data agree with their segment CRCs (R325).  DEDUCED, log entry 56. -/
def segOk (f : Frame) : Bool :=
  let l := segCrcs f.addr f.data
  decide (f.segcrc.take l.length = l)

/-- A frame that arrives on port `p` (R325, R336, R338): nothing while the port is not in RUN; a segment that fails its CRC is handled
like an uncorrectable codeword; HOPS 63 drops it; a frame for another device goes on towards it; else it is served here. -/
def State.arrive (s : State) (p : Port) (f : Frame) (serve : State → State) : Res State :=
  if s.portState p.val ≠ 4 then .next s
  else if !segOk f then .next (s.via (execCodewordReceive p 0 true 0))
  else
    let t := s.slicesFreed p.val f
    if f.hops.val = 63 then .next (t.frameLost f) else if f.dst.val ≠ s.devNum then .next (t.frameOut f) else .next (serve t)

/-- Whether the bridge and the host reach one another (R341, R348), in Standby too (R367). -/
def State.hostUp (s : State) : Bool :=
  s.bridgeEn && !s.perst && !s.mainOff && !s.dieFenced 11 && s.bget .HBR_STAT F.HBR_STAT_UP

/-- The offset in the register range of a device-local address that lies there (R159). -/
def registerOff (a : Nat) : Option Nat :=
  if 0x0F0000000000 ≤ a ∧ a < 0x0F0010000000 then some (a - 0x0F0000000000) else none

/-- Sends the request of a frame to memory: it is answered when it has been performed, at once or when its ticket is released. -/
def State.ingressGo (s : State) (p : Port) (f : Frame) (write : Bool) : State :=
  let q := s.memReq (.wealey p) f.addr f.len f.ticket f.held f.data (frameBytePois f)
  let s1 := s.tick.tick.tick
  ({ s1 with grp := { s1.grp with ingress := s1.grp.ingress ++ [(q, f)] } }).request q write

/-! ### Requests -/

/-- A WRITE frame (R325, R326, R349): to host memory, to a register, or to memory. -/
def State.serveWriteFrame (s : State) (p : Port) (f : Frame) : State :=
  if f.host then
    if s.hostUp then (s.hostOut f.addr f.data (frameBytePois f)).respond f 0 [] [] else s.respond f 1 [] []
  else if f.data.length ≠ f.len then s.respond f 1 [] []
  else match registerOff f.addr with
    | some off =>
      if regForm off f.len && f.pois.isEmpty then
        (s.regWriteAt (.wealey f.src) f.ticket off (wordOf (ofBytes f.data))).respond f 0 [] []
      else s.respond f 1 [] []
    | none => s.ingressGo p f true

/-- WEALEY_WRITE.  DEDUCED, log entry 55. -/
def execWealeyWrite (p : Port) (f : Frame) (s : State) : Res State :=
  let f : Frame := { f with typ := 1 }
  s.arrive p f (fun s => s.serveWriteFrame p f)

/-- A READ frame (R326, R349): of host memory, of a register, or of memory. -/
def State.serveReadFrame (s : State) (p : Port) (f : Frame) : State :=
  if f.host then
    if s.hostUp then
      let s1 : State := { s with grp := { s.grp with hostq := s.grp.hostq ++ [(f.src.val, f)] } }
      (s1.tlpTx (ceilDiv f.len 4096)).emit (.hostRead f.addr f.len f.tag.val)
    else s.respond f 1 [] []
  else match registerOff f.addr with
    | some off =>
      if regForm off f.len then
        let r := s.regReadAt off
        r.1.respond f 0 (toBytes 4 r.2.toNat) (List.replicate 4 false)
      else s.respond f 1 [] []
    | none => s.ingressGo p f false

/-- WEALEY_READ. -/
def execWealeyRead (p : Port) (f : Frame) (s : State) : Res State :=
  let f : Frame := { f with typ := 2, data := [], pois := [], segcrc := [] }
  s.arrive p f (fun s => s.serveReadFrame p f)

/-- Stores an EWRITE at the local stores of its engines (R23, R120, R121, R326): absent ones are skipped and counted; the STATUS of its
completion.  None while a bundle that it must cross takes no request. -/
def State.ewrite (s : State) (p : Port) (f : Frame) : Option (State × Nat) :=
  let q : Requester := .wealey p
  let x := s.mcastPrune ((List.range 96).filter (bitAt f.engines))
  match x.1.routeCross q true x.2 f.addr f.data.length with
  | .error _ => none
  | .ok s1 => some (x.2.foldl (fun (r : State × Nat) e => match r.1.lay q (storeAddr e f.addr) f.data (frameBytePois f) with
    | .ok t _ => (t.settle, r.2)
    | .fault t code _ _ => (t.settle, if r.2 = 0 then (if code = 0x0A then 2 else 1) else r.2)
    | .wait _ => r) (s1, 0))

/-- WEALEY_EWRITE (R173, R326): one that a bundle cannot take now stays in the port's buffer.  DESIGN CHOICE, log entry 100. -/
def execWealeyEwrite (p : Port) (f : Frame) (s : State) : Res State :=
  let f : Frame := { f with typ := 5 }
  s.arrive p f (fun t => match t.ewrite p f with
    | some r => r.1.respond f r.2 [] []
    | none => s)

/-! ### Responses -/

/-- WEALEY_RDATA (R326, R346): the response to a READ of this device; one whose tag is not outstanding is discarded.
DEDUCED, log entry 56. -/
def execWealeyRdata (p : Port) (f : Frame) (s : State) : Res State :=
  let f : Frame := { f with typ := 3 }
  s.arrive p f (fun s =>
    if s.grp.tags.any (fun t => t.1 = f.tag.val) then s.tagDone f.tag.val 0 f.data (frameBytePois f) else s)

/-- WEALEY_CPL (R326, R338, R340): the completion of a request of this device; one whose tag is not outstanding is discarded.
DEDUCED, log entry 56. -/
def execWealeyCpl (p : Port) (f : Frame) (s : State) : Res State :=
  let f : Frame := { f with typ := 4, data := [], pois := [], segcrc := [] }
  s.arrive p f (fun s =>
    if s.grp.tags.any (fun t => t.1 = f.tag.val) then s.tagDone f.tag.val f.status.val [] [] else s)

end Sys2Proof.Machine
end

