-- ==== Sys2Proof/Machine/HostBridge.lean ====
section
/-! DEFINITION. The meanings of the host bridge's commands (R341 to R349, R352). -/

namespace Sys2Proof.Machine

/-! ### Functions -/

/-- The state with a function of the bridge changed. -/
def State.fnUpd (s : State) (fn : Nat) (f : FnUnit → FnUnit) : State := { s with fns := s.fns.upd fn f }

/-- Sends the pending vectors of a function that nothing masks any more, and the messages held for it (R345, R405). -/
def State.fnFlush (s : State) (fn : Nat) : State :=
  let u := s.fns.at fn
  if !u.en then s
  else
    let go := if u.fmask then [] else u.pending.filter (fun v => !u.masked.contains v)
    let s1 := go.foldl (fun (s : State) v => (s.fnUpd fn (fun x => { x with pending := x.pending.erase v })).msixOut fn v) s
    s1.sendHeld (fun s t => s.fget (.HBR_TGT (Fin.ofNat 15 t)) F.HBR_TGT_FUNC = fn)

/-- HOST_CONFIG_REQUEST (R346, R348): Request Retry Status before the bridge is ready; the configuration space's contents are not in the
spec.  DESIGN CHOICE, log entry 59. -/
def execHostConfigRequest (fn : Fin 17) (q : CfgReq) (s : State) : Res State :=
  if !s.hostUp then .next s
  else
    let s1 := (s.tlpRx 1).tlpTx 1
    if !s.bget .HBR_STAT F.HBR_STAT_READY then .next (s1.reply .retry)
    else match q with
      | .read => .next (s1.tick.reply (.word (Config.freeWord s.free)))
      | .msix en fmask => .next (((s1.fnUpd fn.val (fun u => { u with en := en, fmask := fmask })).fnFlush fn.val).reply .none)
      | .vector v masked =>
        .next (((s1.fnUpd fn.val (fun u => { u with masked := if masked then u.masked.insert v.val else u.masked.erase v.val })).fnFlush
          fn.val).reply .none)
      | .power d3 => .next ((s1.fnUpd fn.val (fun u => { u with d3 := d3 })).reply .none)

/-! ### Where a host access goes (R342, R343) -/

/-- What an access to a BAR reaches: this device's registers at an offset; a group address; a doorbell entry; a doorbell page that reads
0; an address beyond a VF's window or doorbells; nothing that a BAR maps. -/
inductive BarTo where
  | reg (off : Nat)
  | mem (a : Nat)
  | bell (i : Nat)
  | range (a : Nat)
  | none
  deriving DecidableEq, Repr

/-- Where an access of `n` bytes at an offset of a BAR of a function goes.  DEDUCED, log entry 60. -/
def State.barTo (s : State) (fn bar off n : Nat) : BarTo :=
  if fn = 0 then
    if bar = 0 then .reg off
    else if bar = 2 ∧ off + n ≤ 0x20000000 then .mem (s.fget .HBR_WIN F.HBR_WIN_BASE * 2 ^ 29 + off)
    else if bar = 4 ∧ off + n ≤ 0x4000 then .bell (off / 4)
    else .none
  else
    let v : Fin 16 := Fin.ofNat 16 (fn - 1)
    let base := s.fget (.HBR_VFW_LEN v) F.HBR_VFW_LEN_DEVICE * 2 ^ 48 + s.fget (.HBR_VFW_BASE v) F.HBR_VFW_BASE_BASE * 65536
    if bar = 0 ∧ off + n ≤ 0x4000000 then
      if s.fget (.HBR_VFW_LEN v) F.HBR_VFW_LEN_LEN * 65536 < off + n then .range (base + off) else .mem (base + off)
    else if bar = 2 ∧ off + n ≤ 0x4000 then
      if s.fget (.HBR_VFDB v) F.HBR_VFDB_COUNT ≤ off / 4 then .range (s.ownNumber * 2 ^ 48 + 0x0F0000054000 + off)
      else .bell (s.fget (.HBR_VFDB v) F.HBR_VFDB_FIRST + off / 4)
    else .none

/-- The group address of this device's register at offset `off`. -/
def State.regGroup (s : State) (off : Nat) : Nat := s.ownNumber * 2 ^ 48 + 0x0F0000000000 + off

/-- Whether the initial fill of what a local address names has ended (R208, R346): the hub's memories are filled before recovery, the
rest with level 0.  DEDUCED, log entry 62. -/
def State.fillEnded (s : State) (a : Nat) : Bool :=
  decide (6 ≤ s.stageNow) || (decide (s.stageNow = 4) && decide (0x030000000000 ≤ a ∧ a < 0x030020000000 ∨ 0x0F0000000000 ≤ a))

/-! ### Reads -/

/-- A read of group address `a` (R160, R161, R343, R346); memory is not served in Standby (R367). -/
def State.hostReadMem (s : State) (fn tag a len : Nat) : State :=
  let dev := a / 2 ^ 48
  let l := a % 2 ^ 48
  if dev = s.ownNumber then
    if !s.fillEnded l then s.hostUnsupported fn tag a
    else match registerOff l with
      | some off =>
        if regForm off len then
          let r := s.regReadAt off
          r.1.hostData fn tag a (toBytes 4 r.2.toNat) (List.replicate 4 false)
        else s.hostAbort fn tag a
      | none =>
        if s.inStandby then s.hostAbort fn tag a else
        let q := s.memReq (.host (Fin.ofNat 17 fn)) l len (s.fnTicket fn) 0 [] []
        let s1 := s.tick.tick.tick
        ({ s1 with grp := { s1.grp with hostHeld := s1.grp.hostHeld ++ [(q, fn, tag)] } }).request q false
  else if 64 ≤ dev ∨ !(s.devs.at dev).present then s.hostAbort fn tag a
  else
    let ls := pieces 1024 (len / 1024 + 2) l len
    let r := ls.foldl (fun (x : State × Nat × List (Nat × Nat × List Byte × List Bool)) n =>
      let t := x.1.grp.tag % 65536
      (x.1.requestOut (x.1.newFrame 2 dev x.2.1 (s.fnTicket fn).val n [] []), x.2.1 + n, x.2.2 ++ [(t, n, [], [])])) (s, l, [])
    { r.1 with grp := { r.1.grp with winReads := r.1.grp.winReads ++ [⟨fn, tag, a, r.2.2⟩] } }

/-- HOST_READ (R342, R343, R346).  DEDUCED, log entry 60. -/
def execHostRead (fn : Fin 17) (bar : Fin 6) (off len : Nat) (tag : Nat) (s : State) : Res State :=
  if !s.hostUp then .next s
  else
    let s1 := s.tlpRx 1
    if !s.bget .HBR_STAT F.HBR_STAT_READY ∨ (s.fns.at fn.val).d3 ∨ len = 0 then .next (s1.hostUnsupported fn.val tag off)
    else match s.barTo fn.val bar.val off len with
      | .reg o =>
        if regForm o len then
          let r := s1.regReadAt o
          .next (r.1.hostData fn.val tag (s.regGroup o) (toBytes 4 r.2.toNat) (List.replicate 4 false))
        else .next (s1.hostAbort fn.val tag (s.regGroup o))
      | .mem a => .next (s1.hostReadMem fn.val tag a len)
      | .bell _ =>
        if s.stageNow < 4 then .next (s1.hostUnsupported fn.val tag off)
        else .next (s1.hostData fn.val tag off (List.replicate len 0) (List.replicate len false))
      | .range a => .next ((s1.bset .HBR_ERR F.HBR_ERR_VF_RANGE true).hostUnsupported fn.val tag a)
      | .none => .next (s1.hostUnsupported fn.val tag off)

/-! ### Writes -/

/-- A register write of the host to this device (R347, R508): one to a doorbell waits for the host's earlier writes.  A poisoned one is
not performed. -/
def State.hostReg (s : State) (fn off : Nat) (data : List Byte) (ep : Bool) : State :=
  if !regForm off data.length ∨ ep then s.hostDrop fn (s.regGroup off)
  else if (doorbellOf (s.regGroup off)).isSome then s.hostDoorbell fn (s.regGroup off) (wordOf (ofBytes data))
  else s.regWriteAt (.host (Fin.ofNat 17 fn)) (s.fnTicket fn) off (wordOf (ofBytes data))

/-- A write to group address `a` (R160, R161, R195, R343, R346, R347). -/
def State.hostWriteMem (s : State) (fn a : Nat) (data : List Byte) (ep : Bool) : State :=
  let dev := a / 2 ^ 48
  let l := a % 2 ^ 48
  let pois := List.replicate data.length ep
  if dev = s.ownNumber then
    if !s.fillEnded l then s.hbrErr F.HBR_ERR_UR a fn
    else match registerOff l with
      | some off => s.hostReg fn off data ep
      | none =>
        if s.inStandby then s.hostDrop fn a else
        let q := s.memReq (.host (Fin.ofNat 17 fn)) l data.length (s.fnTicket fn) 0 data pois
        s.tick.tick.tick.request q true
  else if 64 ≤ dev ∨ !(s.devs.at dev).present then s.hostDrop fn a
  else if (doorbellOf a).isSome ∧ data.length = 4 ∧ !ep then s.hostDoorbell fn a (wordOf (ofBytes data))
  else
    let n := (pieces 1024 (data.length / 1024 + 2) l data.length).length
    let t := s.grp.tag
    let s1 := s.transferOut 1 dev 0 l (s.fnTicket fn).val false data pois
    { s1 with grp := { s1.grp with winWrites := s1.grp.winWrites ++ (List.range n).map (fun i => ⟨fn, a, (t + i) % 65536⟩) } }

/-- HOST_WRITE (R342 to R347): a poisoned write's words are stored poisoned.  DEDUCED, log entry 60. -/
def execHostWrite (fn : Fin 17) (bar : Fin 6) (off : Nat) (data : List Byte) (ep : Bool) (s : State) : Res State :=
  if !s.hostUp then .next s
  else
    let s1 := (s.tlpRx (ceilDiv data.length 512)).reply .none
    if !s.bget .HBR_STAT F.HBR_STAT_READY ∨ (s.fns.at fn.val).d3 ∨ data = [] then
      .next (s1.hbrErr F.HBR_ERR_UR off fn.val)
    else
      let s2 := if ep then s1.hbrErr F.HBR_ERR_EP_RX off fn.val else s1
      match s.barTo fn.val bar.val off data.length with
      | .reg o => .next (s2.hostReg fn.val o data ep)
      | .mem a => .next (s2.hostWriteMem fn.val a data ep)
      | .bell i =>
        if s.stageNow < 4 then .next (s2.hbrErr F.HBR_ERR_UR off fn.val)
        else .next (s2.hostReg fn.val (if off % 4 = 0 then 0x54000 + 4 * i else 0x54001) data ep)
      | .range a => .next (s2.hbrErr F.HBR_ERR_VF_RANGE a fn.val)
      | .none => .next (s2.hbrErr F.HBR_ERR_UR off fn.val)

/-! ### The link, resets, completions -/

/-- HOST_LINK_CHANGE (R341, R350): rate, width and mode in HBR_STAT, source 341; the rate is at most RATE_MAX. -/
def execHostLinkChange (rate : Fin 7) (width : Fin 17) (flit up : Bool) (s : State) : Res State :=
  if !s.bridgeEn ∨ s.perst ∨ s.mainOff ∨ s.dieFenced 11 then .next s
  else
    let r := if up then min rate.val (s.fget .HBR_CTL F.HBR_CTL_RATE_MAX) else 0
    let s1 := ((s.fset .HBR_STAT F.HBR_STAT_RATE r).fset .HBR_STAT F.HBR_STAT_WIDTH (if up then width.val else 0)).bset .HBR_STAT
      F.HBR_STAT_FLIT (up && flit)
    .next (((s1.bset .HBR_STAT F.HBR_STAT_UP up).bset .HBR_STAT F.HBR_STAT_LOW_RATE (up && decide (r < 3))).raise 341)

/-- HOST_LINK_RETRAIN (R352): a write of RETRAIN to HBR_CTL. -/
def execHostLinkRetrain (s : State) : Res State := if s.bridgeEn then .next (s.emit .linkRetrain) else .next s

/-- FLR (R348): the function's MSI-X table is cleared, source 343; its window reads complete, its window and doorbells stay.
DESIGN CHOICE, log entry 59. -/
def execFlr (fn : Fin 17) (s : State) : Res State :=
  if !s.hostUp then .next s else .next ((s.fnUpd fn.val (fun _ => default)).raise 343)

/-- PERST (R348, R377): PERST_N resets the endpoint; device requests to host memory complete with an error; host writes already
accepted are performed.  DESIGN CHOICE, log entry 59. -/
def execPerst (s : State) : Res State :=
  let s1 : State := { s with perst := true }
  if !s.bridgeEn then .next s1
  else
    let q := s.grp.hostq
    let s2 : State := { s1 with fns := [], grp := { s1.grp with hostq := [], winReads := [], hostHeld := [] } }
    let s3 := q.foldl (fun (s : State) x => s.respond x.2 1 [] []) s2
    let s4 := if s.bget .HBR_STAT F.HBR_STAT_UP then s3.raise 341 else s3
    .next ((s4.rset .HBR_STAT 0).raise 343)

/-- PERST_DEASSERT (R348): the bridge answers configuration requests once `d11` runs. -/
def execPerstDeassert (s : State) : Res State :=
  let s1 : State := { s with perst := false }
  if (s1.linkOn 1 ∨ s.inStandby) ∧ ¬s.mainOff then .next s1.endpoint else .next s1

/-- HOST_READ_COMPLETION (R349): the data that the host returns for a device's request, as RDATA, or CPL with an error. -/
def execHostReadCompletion (d : Dev) (tag : Fin 65536) (data : Option (List Byte)) (s : State) : Res State :=
  match s.grp.hostq.find? (fun x => x.1 = d.val && decide (x.2.tag = tag)) with
  | none => .next s
  | some x =>
    let s1 : State := { s with grp := { s.grp with hostq := s.grp.hostq.erase x } }
    let s2 := s1.tlpRx (match data with
      | some l => max 1 (ceilDiv l.length 512)
      | none => 1)
    match data with
    | some l => if l.length = x.2.len then .next (s2.respond x.2 0 l (l.map (fun _ => false))) else .next (s2.respond x.2 1 [] [])
    | none => .next (s2.respond x.2 1 [] [])

end Sys2Proof.Machine
end

