-- ==== Sys2Proof/Machine/LandingPort.lean ====
section
/-! DEFINITION. The meanings of the landing port's commands (file 17_landing_port.md): MCTP control messages, vendor messages, the
alert line, the mailboxes and the crash capture. -/

namespace Sys2Proof.Machine

/-! ### Requests -/

/-- Whether the landing port cannot be reached: EXTEST or HIGHZ holds its pins (R473), or AON_RST_N is low. -/
def State.ldpDead (s : State) : Bool := s.tap.ir = 3 || s.tap.ir = 5 || s.bup.aonLow

/-- The response of a vendor request (R441, R443, R453, R454): DONE counts as served, DENIED and KEY as refused with source 14. -/
def State.vendor (s : State) (cmd result : Nat) (payload : List Byte) : State :=
  let s1 := s.reply (.vendor result payload)
  if result = 0 then s1.cnt .LDP_REQ F.LDP_REQ_SERVED 1
  else if result = 4 ∨ result = 6 then ((s1.cnt .LDP_REQ F.LDP_REQ_REFUSED 1).fset .LDP_REQ F.LDP_REQ_LAST_CMD cmd).ldpEvt 2
  else s1

/-- A vendor request of command `cmd` (R440, R473): BUSY while another one is served, without response while the port cannot be
reached. -/
def State.request442 (s : State) (cmd : Nat) (f : State → State) : Res State :=
  if s.ldpDead then .next (s.reply .none)
  else if s.ldpBusy then .next (s.vendor cmd 2 [])
  else .next (f s)

/-- An MCTP control message (R440): its response, the completion code first.  PRESUMED, log entry 54. -/
def State.control440 (s : State) (f : State → State × List Byte) : Res State :=
  if s.ldpDead then .next (s.reply .none)
  else
    let r := f s
    .next (r.1.reply (.mctp r.2))

/-- Whether the shared buffer is served through the port (R445): from the end of step 4 of R385. -/
def State.bufServed (s : State) : Bool := !s.mainOff && !s.inStandby && decide (4 ≤ s.stageNow ∧ s.stageNow ≤ 10)

/-- Whether a power-state change of the package or of a die, a load or a push is in progress (R367, R452). -/
def State.powerBusy (s : State) : Bool :=
  let st := s.fget .PWR_STATE F.PWR_STATE_STATE
  decide (st = 1 ∨ st = 3) || s.dozeBusy || s.load.busy || decide (s.rcvState = 1 ∨ s.rcvState = 2)

/-! ### MCTP control messages (R440) -/

/-- SET_ENDPOINT_ID: the null and broadcast numbers are refused.  PRESUMED, log entry 54. -/
def execSetEndpointId (eid : Byte) (s : State) : Res State :=
  s.control440 (fun s =>
    if eid = 0 ∨ eid = 0xFF then (s, [2])
    else (s.fset .LDP_STAT F.LDP_STAT_EID eid.toNat, [0, 0, eid, 0]))

/-- GET_ENDPOINT_ID.  PRESUMED, log entry 54. -/
def execGetEndpointId (s : State) : Res State :=
  s.control440 (fun s => (s, [0, byteOf (s.fget .LDP_STAT F.LDP_STAT_EID), 0, 0]))

/-- GET_MCTP_VERSION_SUPPORT: one version, whose number the spec does not give. -/
def execGetMctpVersionSupport (s : State) : Res State :=
  s.control440 (fun s => (s.tick, [0, 1] ++ toBytes 4 (Config.freeWord s.free).toNat))

/-- GET_MESSAGE_TYPE_SUPPORT: Vendor Defined – PCI. -/
def execGetMessageTypeSupport (s : State) : Res State := s.control440 (fun s => (s, [0, 1, 0x7E]))

/-- GET_VENDOR_DEFINED_MSG_SUPPORT: the PCI vendor ID, most significant byte first; the number of the command set is free. -/
def execGetVendorDefinedMsgSupport (s : State) : Res State :=
  s.control440 (fun s => (s.tick, [0, 0xFF, 0, byteOf (s.fuses.vendor / 256), byteOf s.fuses.vendor] ++
    toBytes 2 (Config.freeWord s.free).toNat))

/-! ### Information, registers, log -/

/-- What a register shows the port in the present state: 0 where R445 does not serve it. -/
def State.ldpView (s : State) (r : Reg) : Word := if s.regOff r then 0 else s.view r

/-- GET_INFO (R442). -/
def execGetInfo (s : State) : Res State :=
  s.request442 1 (fun s => s.vendor 1 0 (toBytes 4 (s.ldpView .LDP_STAT).toNat ++ toBytes 4 (s.ldpView .BUP_STAT).toNat ++
    toBytes 4 (s.ldpView .PWR_STATE).toNat ++ toBytes 4 s.fuses.serial))

/-- The RESULT with which the port refuses a word at offset `off`, or 0 (R444, R445).  DEDUCED, log entry 53. -/
def State.wordRefusal (s : State) (write : Bool) (off : Nat) : Nat :=
  let b := off / 0x10000
  let claim : Bool := match Reg.ofOffset off with
    | some (.ICU_CLAIM t) => !write && decide (t.val ≠ 15)
    | some (.ICU_EOI t) => write && decide (t.val ≠ 15)
    | _ => false
  if 0x10000000 ≤ off then 4
  else if s.mainOff ∧ b ≠ 0x600 then 1
  else if s.inStandby ∧ ¬(b = 0 ∨ b = 1 ∨ b = 2 ∨ b = 7 ∨ b = 0x600) then 1
  else if b = 0x700 ∨ claim then 4
  else if off % 4 ≠ 0 then 5
  else if write ∧ b = 6 then 4
  else if write ∧ ¬(b ≤ 4 ∨ b = 7 ∨ b = 9 ∨ b = 0x500 ∨ b = 0x600) ∧ !s.bget .LDP_ACCESS F.LDP_ACCESS_WORK then 4
  else 0

/-- Reads words upward from `off`, up to the first that is refused: the state, the RESULT and the words (R444). -/
def State.ldpRead : (n : Nat) → (off : Nat) → State → State × Nat × List Byte
  | 0, _, s => (s, 0, [])
  | n + 1, off, s =>
    let r := s.wordRefusal false off
    if r ≠ 0 then (s, r, [])
    else
      let x := s.regReadAt off
      let y := State.ldpRead n (off + 4) x.1
      (y.1, y.2.1, toBytes 4 x.2.toNat ++ y.2.2)

/-- REG_READ (R442, R444).  DEDUCED, log entry 53; DESIGN CHOICE, log entry 25. -/
def execRegRead (addr : Nat) (count : Byte) (s : State) : Res State :=
  s.request442 2 (fun s =>
    if count = 0 ∨ 16 < count.toNat then s.vendor 2 3 []
    else
      let r := State.ldpRead count.toNat addr s
      r.1.vendor 2 r.2.1 r.2.2)

/-- Whether a word written at `off` resets the device (R377, R452): the request then ends without a response. -/
def resetWord (off : Nat) (v : Word) : Bool :=
  match Reg.ofOffset off with
  | some .BUP_RST => decide (F.BUP_RST_KEY.get v = 0xB007 ∧ (F.BUP_RST_KIND.get v = 1 ∨ F.BUP_RST_KIND.get v = 2))
  | _ => false

/-- Writes words upward from `off`, up to the first that is refused: the state, the RESULT and the words performed; no RESULT when a word
reset the device (R444, R452). -/
def State.ldpWrite : (l : List Word) → (off done : Nat) → State → State × Option Nat × Nat
  | [], _, done, s => (s, some 0, done)
  | v :: l, off, done, s =>
    let r := s.wordRefusal true off
    if r ≠ 0 then (s, some r, done)
    else
      let s1 := s.regWriteAt .landing 0 off v
      if resetWord off v then (s1, none, done) else State.ldpWrite l (off + 4) (done + 1) s1

/-- REG_WRITE (R442, R444).  DEDUCED, log entry 53. -/
def execRegWrite (addr : Nat) (count : Byte) (words : List Word) (s : State) : Res State :=
  s.request442 3 (fun s =>
    if count = 0 ∨ 16 < count.toNat ∨ words.length ≠ count.toNat then s.vendor 3 3 []
    else
      let r := State.ldpWrite words addr 0 s
      match r.2.1 with
      | some x => r.1.vendor 3 x [byteOf r.2.2]
      | none => r.1.reply .none)

/-- LOG_READ (R442, R445). -/
def execLogRead (index : Word) (s : State) : Res State :=
  s.request442 4 (fun s => s.vendor 4 0 (s.logBytes index.toNat))

/-! ### Crash capture, mailboxes, alert -/

/-- The crash capture zeroed (R449). -/
def State.crashZero (s : State) : State := { s with ldp := { s.ldp with crash := [] } }

/-- CRASH_READ (R442): one half of the capture. -/
def execCrashRead (off : Byte) (s : State) : Res State :=
  s.request442 5 (fun s =>
    if off.toNat = 0 ∨ off.toNat = 64 then
      s.vendor 5 0 ((span (off.toNat / 4) 16).flatMap (fun w => toBytes 4 (nth s.ldp.crash w).toNat))
    else s.vendor 5 3 [])

/-- CRASH_CLEAR (R449). -/
def execCrashClear (s : State) : Res State := s.request442 6 (fun s => s.crashZero.vendor 6 0 [])

/-- CRASH_CLR_WRITE (R449): a write of LDP_CRASH_CLR. -/
def execCrashClrWrite (v : Word) (s : State) : Res State :=
  if F.LDP_CRASH_CLR_CLR.get v = 1 then .next s.crashZero else .next s

/-- MBOX_IN_WRITE (R453, R454): the agent's write raises source 12. -/
def execMboxInWrite (v : Word) (s : State) : Res State := .next (s.writeReg .landing 0 .LDP_MBOX_IN v)

/-- MBOX_OUT_WRITE (R446, R454): the host's write sets MBOX. -/
def execMboxOutWrite (v : Word) (s : State) : Res State := .next (s.writeReg (.host 0) 0 .LDP_MBOX_OUT v)

/-- Whether SMB_ALERT_N is asserted (R446). -/
def State.alertN (s : State) : Bool :=
  decide ((s.rget .LDP_ALERT).toNat &&& s.fget .LDP_ALERT_EN F.LDP_ALERT_EN_EN ≠ 0) && !s.ldp.released

/-- ARA_READ (R446): the port that asserts the line answers with its address, and releases the line. -/
def execAraRead (s : State) : Res State :=
  if s.ldpDead ∨ !s.alertN then .next (s.reply .none)
  else .next ({ s with ldp := { s.ldp with released := true } }.reply (.word (wordOf (0x60 + s.bup.smbAddr))))

/-- ALERT_REASSERT (R446): 10 ms after the release, an enabled bit is still set. -/
def execAlertReassert (s : State) : Res State :=
  if (s.rget .LDP_ALERT).toNat &&& s.fget .LDP_ALERT_EN F.LDP_ALERT_EN_EN ≠ 0 then
    .next { s with ldp := { s.ldp with released := false } }
  else .next s

/-! ### Reset and power (R447) -/

/-- A request that only LDP_ACCESS.CONTROL lets through, and none while a change is in progress (R447, R452). -/
def State.controlled (s : State) (cmd : Nat) (key : Bool) (f : State → State) : State :=
  if !s.bget .LDP_ACCESS F.LDP_ACCESS_CONTROL then s.vendor cmd 4 []
  else if !key then s.vendor cmd 6 []
  else if s.powerBusy then s.vendor cmd 2 []
  else f s

/-- The main side starts again (R447): a cold start follows, which waits while a diode is hot. -/
def State.startMain (s : State) (cmd : Nat) (vin : Bool) : State :=
  if vin then
    { s with pwr := { s.pwr with off := false }, bup := { s.bup with kind := 1, src := 4 } }.vendor cmd 0 []
  else s.vendor cmd 7 []

/-- LDP_RESET_COLD (R445, R447): the response goes out before the reset; with the main side off it acts as POWER OP 4. -/
def execLdpResetCold (key : Fin 65536) (s : State) : Res State :=
  s.request442 7 (fun s => s.controlled 7 (key.val = 0xB007) (fun s =>
    if s.mainOff then s.tick.startMain 7 (Config.freeBool s.free)
    else (s.vendor 7 0 []).resetFrom .cold 1 4))

/-- LDP_RESET_WARM (R447): not available with the main side off. -/
def execLdpResetWarm (key : Fin 65536) (s : State) : Res State :=
  s.request442 7 (fun s =>
    if s.mainOff then s.vendor 7 1 []
    else s.controlled 7 (key.val = 0xB007) (fun s => (s.vendor 7 0 []).resetFrom .warm 2 4))

/-- POWER_STANDBY (R447): OP 1; a refusal under R370 is answered BUSY. -/
def execPowerStandby (s : State) : Res State :=
  s.request442 8 (fun s =>
    if s.mainOff ∨ s.inStandby then s.vendor 8 1 []
    else s.controlled 8 true (fun s =>
      (s.via execStandbyEnter).vendor 8 (if s.standbyRefusal = 0 then 0 else 2) []))

/-- POWER_RUN (R447, R451): OP 2 wakes the package from Standby; the ferryman records the landing port. -/
def execPowerRun (s : State) : Res State :=
  s.request442 8 (fun s =>
    if s.mainOff ∨ !s.inStandby then s.vendor 8 1 []
    else s.controlled 8 true (fun s => (s.ferryWake 3 0).vendor 8 0 []))

/-- POWER_OFF_AON (R371, R447): OP 3. -/
def execPowerOffAon (s : State) : Res State :=
  s.request442 8 (fun s =>
    if s.mainOff then s.vendor 8 1 []
    else s.controlled 8 true (fun s =>
      (s.via execOffAon).vendor 8 (if s.standbyRefusal = 0 then 0 else 2) []))

/-- POWER_START_MAIN (R447): OP 4; NO_POWER when VIN12 is below its operating range. -/
def execPowerStartMain (vin : Bool) (s : State) : Res State :=
  s.request442 8 (fun s =>
    if !s.mainOff then s.vendor 8 1 [] else s.controlled 8 true (fun s => s.startMain 8 vin))

/-! ### The shared buffer and images (R442, R448) -/

/-- Whether a buffer request keeps the form of R442. -/
def bufForm (off : Word) (n : Nat) : Bool := decide (off.toNat % 4 = 0 ∧ 4 ≤ n ∧ n ≤ 244 ∧ n % 4 = 0)

/-- BUF_WRITE (R442, R448). -/
def execBufWrite (off : Word) (data : List Byte) (s : State) : Res State :=
  s.request442 9 (fun s =>
    if !s.bufServed then s.vendor 9 1 []
    else if !bufForm off data.length then s.vendor 9 3 []
    else if 0x20000000 < off.toNat + data.length then s.vendor 9 5 []
    else
      let w := s.writeAt true (sbfAddr off.toNat) data (data.map (fun _ => false)) []
      match w.err, w.werr with
      | some _, _ => w.st.settle.vendor 9 5 []
      | none, some a => (w.st.dropped a).settle.vendor 9 5 []
      | none, none => w.st.settle.vendor 9 0 [])

/-- BUF_READ (R442): a poisoned read completes with an error. -/
def execBufRead (off : Word) (bytes : Byte) (s : State) : Res State :=
  s.request442 10 (fun s =>
    if !s.bufServed then s.vendor 10 1 []
    else if !bufForm off bytes.toNat then s.vendor 10 3 []
    else if 0x20000000 < off.toNat + bytes.toNat then s.vendor 10 5 []
    else
      let r := s.hubRead (sbfAddr off.toNat) bytes.toNat
      if r.err.isSome || r.pois.any id then r.st.vendor 10 5 [] else r.st.vendor 10 0 r.bytes)

/-- IMG_PUSH (R442, R448): BUP_RCV_LEN and GO are written; the response follows when the push has ended. -/
def execImgPush (len : Word) (program : Byte) (f : Found) (s : State) : Res State :=
  s.request442 11 (fun s =>
    if !s.bufServed then s.vendor 11 1 []
    else if 1 < program.toNat then s.vendor 11 3 []
    else if s.rcvState = 1 ∨ s.rcvState = 2 then s.vendor 11 2 []
    else ({ s with ldp := { s.ldp with push := true } }.rset .BUP_RCV_LEN len).via (execImagePush (wordOf (1 + 2 * program.toNat)) f))

/-! ### Attestation (R465) -/

/-- ATTEST_SIGN: OP 1; the response follows when the signer has ended. -/
def execAttestSign (nonce : List Byte) (s : State) : Res State :=
  s.request442 12 (fun s =>
    if s.mainOff ∨ s.inStandby then s.vendor 12 1 []
    else if nonce.length ≠ 32 then s.vendor 12 3 []
    else { s with sec := { s.sec with ldpAtt := some (s.reportBody 1 nonce), reports := s.sec.reports + 1 } }.reply .none)

/-- A part of an object (R465): INVALID beyond it. -/
def State.attestPart (s : State) (obj : List Byte) (off n : Nat) : State :=
  if n < 4 ∨ 240 < n ∨ n % 4 ≠ 0 ∨ obj.length < off + n then s.vendor 12 3 []
  else s.vendor 12 0 ((obj.drop off).take n)

/-- ATTEST_READ_REPORT: OP 2; NOT_AVAILABLE before any OP 1 since the last reset. -/
def execAttestReadReport (off : Fin 65536) (bytes : Byte) (s : State) : Res State :=
  s.request442 12 (fun s =>
    if s.mainOff ∨ s.inStandby then s.vendor 12 1 []
    else match s.sec.ldpReport with
      | none => s.vendor 12 1 []
      | some l => s.attestPart l off.val bytes.toNat)

/-- ATTEST_READ_CERT: OP 3. -/
def execAttestReadCert (off : Fin 65536) (bytes : Byte) (s : State) : Res State :=
  s.request442 12 (fun s =>
    if s.mainOff ∨ s.inStandby then s.vendor 12 1 []
    else s.attestPart s.certificate off.val bytes.toNat)

end Sys2Proof.Machine
end

