-- ==== Sys2Proof/Machine/TestAccess.lean ====
section
/-! DEFINITION. The meanings of the test access port's commands (file 19_test_access.md). -/

namespace Sys2Proof.Machine

/-- The test access port with instruction `ir` in force. -/
def State.tapIr (s : State) (ir : Nat) : State := { s with tap := { s.tap with ir := ir } }

/-- The test access port shifts `v` out (R469). -/
def State.tapOut (s : State) (v : Nat) : State := s.emit (.tdo v)

/-- An event of TST_EVT (R471, R475), which the hub holds while the main side is on. -/
def State.tstEvt (s : State) (f : Fld) : State := if s.mainOff then s else s.bset .TST_EVT f true

/-- Whether the die at position `pos` can be selected (R470): powered, not fenced, not in Doze. -/
def State.selectable (s : State) (pos : Nat) : Bool :=
  if pos = 0 then true
  else if s.mainOff || s.dieFenced pos then false
  else if pos ≤ 8 then s.computeOn (pos - 1)
  else if s.inStandby && decide (pos ≤ 11) then false
  else if pos = 9 then decide (s.fget .RTV_STAT F.RTV_STAT_STATE = 1)
  else if pos ≤ 11 then s.linkOn (pos - 10)
  else decide (s.fget (.STK_STAT (Fin.ofNat 8 (pos - 12))) F.STK_STAT_STATE ≠ 0)

/-- The dies that can be selected, as bits. -/
def State.selectMask (s : State) : Nat := (List.range 20).foldl (fun m n => m + b2n (s.selectable n) * 2 ^ n) 0

/-- TAP_RESET (R470, R480): IDCODE, and the hub alone selected. -/
def execTapReset (s : State) : Res State := .next { s with tap := { s.tap with ir := 0x01, diesel := 1 } }

/-- The dies in the serial path (R470): the hub, then the selected ones in ascending position. -/
def State.tapChain (s : State) : List Nat :=
  (List.range 20).filter (fun p => decide (p = 0) || (bitAt s.tap.diesel p && s.selectable p))

/-- TAP_IDCODE (R470 to R472): the hub's IDCODE is shifted out, then that of each selected die.  DEDUCED, log entry 50. -/
def execTapIdcode (s : State) : Res State := .next (s.tapChain.foldl (fun (x : State) p => x.tapOut (s.idcode p)) (s.tapIr 0x01))

/-- TAP_SAMPLE_PRELOAD (R471, R473): the pins are captured and the boundary register loaded; operation goes on. -/
def execTapSamplePreload (pins load_ : Nat) (s : State) : Res State :=
  .next ({ s with tap := { s.tap with ir := 0x02, boundary := load_ } }.tapOut pins)

/-- An instruction that field test mode alone accepts (R471): at other times it loads as BYPASS.  DEDUCED, log entry 50. -/
def State.tapTest (s : State) (ir : Nat) : State :=
  if s.testState ≠ 0 then s.tapIr ir else (s.tapIr 0xFF).tstEvt F.TST_EVT_TAP_REFUSED

/-- TAP_EXTEST (R471, R473): the boundary register drives the pins.  DEDUCED, log entry 50. -/
def execTapExtest (s : State) : Res State := .next (s.tapTest 0x03)

/-- TAP_CLAMP (R471). -/
def execTapClamp (s : State) : Res State := .next (s.tapTest 0x04)

/-- TAP_HIGHZ (R471).  DEDUCED, log entry 50. -/
def execTapHighz (s : State) : Res State := .next (s.tapTest 0x05)

/-- TAP_DIESEL (R470): a die that cannot be selected captures 0, and a 1 for it is ignored. -/
def execTapDiesel (v : Fin 1048576) (s : State) : Res State :=
  .next ({ s with tap := { s.tap with ir := 0x10, diesel := (v.val ||| 1) &&& s.selectMask } }.tapOut (s.tap.diesel &&& s.selectMask))

/-- TAP_IJTAG (R475): an access to an instrument of a die in the chain; a die under test of a start reads 0, and a write is performed
in field test mode only.  DESIGN CHOICE, log entry 51. -/
def execTapIjtag (pos : Fin 20) (write : Bool) (v : Word) (s : State) : Res State :=
  let s1 := s.tapIr 0x20
  let tested := decide (1 ≤ pos.val ∧ pos.val ≤ 8) && decide (1 ≤ s.stageNow ∧ s.stageNow ≤ 9 ∧ s.stageNow ≠ 4) && !s.released (pos.val - 1)
  if tested || !(bitAt s.tap.diesel pos.val && s.selectable pos.val) then .next (s1.tapOut 0)
  else if !write then .next (s1.tapOut v.toNat)
  else if s.testState ≠ 0 then .next { s1 with tap := { s1.tap with inst := s1.tap.inst.put pos.val v } }
  else .next (s1.tstEvt F.TST_EVT_IJ_REFUSED)

/-- TAP_REGACC (R471, R508): a register access of the TST block.  DESIGN CHOICE, log entry 25. -/
def execTapRegacc (w : BitVec 64) (s : State) : Res State :=
  let off := 0x07000000 + (w.toNat / 2 ^ 32) % 65536
  let s1 := s.tapIr 0x22
  if off % 4 ≠ 0 then .next (s1.reply .error)
  else if w.toNat / 2 ^ 63 = 1 then .next ((s1.regWriteAt .tap 0 off (wordOf w.toNat)).reply .none)
  else
    let r := s1.regReadAt off
    .next ((r.1.reply (.word r.2)).tapOut r.2.toNat)

/-- TAP_BYPASS (R471): the bypass register's one bit. -/
def execTapBypass (s : State) : Res State := .next (s.tapIr 0xFF)

end Sys2Proof.Machine
end

