-- ==== Sys2Proof/Machine/Dispatch.lean ====
section
/-! DEFINITION. The meaning of every command: one arm for each constructor of `Instr`. -/

namespace Sys2Proof.Machine

/-- What a command does to everything but the queue. -/
def exec (i : Instr) (s : State) : Host.Outcome State Fault Refusal :=
  match i with
  | .registerWrite a off size v => Sys2Proof.Machine.execRegisterWrite a off size v s
  | .nop e ix => Sys2Proof.Machine.execNop e ix s
  | .matmul e ix parity => Sys2Proof.Machine.execMatmul e ix parity s
  | .attnPaged e x => Sys2Proof.Machine.execAttnPaged e x s
  | .moeGate e x => Sys2Proof.Machine.execMoeGate e x s
  | .moeDispatch e ix => Sys2Proof.Machine.execMoeDispatch e ix s
  | .moeGather e ix order => Sys2Proof.Machine.execMoeGather e ix order s
  | .normRms e ix => Sys2Proof.Machine.execNormRms e ix s
  | .normLayer e ix => Sys2Proof.Machine.execNormLayer e ix s
  | .embedGather e ix => Sys2Proof.Machine.execEmbedGather e ix s
  | .vec e ix => Sys2Proof.Machine.execVec e ix s
  | .sfu e ix => Sys2Proof.Machine.execSfu e ix s
  | .reduce e ix => Sys2Proof.Machine.execReduce e ix s
  | .transpose e ix => Sys2Proof.Machine.execTranspose e ix s
  | .rerankScore e ix => Sys2Proof.Machine.execRerankScore e ix s
  | .topk e ix => Sys2Proof.Machine.execTopk e ix s
  | .send e ix => Sys2Proof.Machine.execSend e ix s
  | .logitsOut e ix => Sys2Proof.Machine.execLogitsOut e ix s
  | .tokenIn e ix => Sys2Proof.Machine.execTokenIn e ix s
  | .sync e ix => Sys2Proof.Machine.execSync e ix s
  | .endTask e ix => Sys2Proof.Machine.execEndTask e ix s
  | .stepStart e => Sys2Proof.Machine.execStepStart e s
  | .gangDataReturn e g => Sys2Proof.Machine.execGangDataReturn e g s
  | .engineIssueCycle e reads items => Sys2Proof.Machine.execEngineIssueCycle e reads items s
  | .syncSignal sp p who => Sys2Proof.Machine.execSyncSignal sp p who s
  | .codebookWrite e cb off data pois => Sys2Proof.Machine.execCodebookWrite e cb off data pois s
  | .heldCodebookWrite e => Sys2Proof.Machine.execHeldCodebookWrite e s
  | .seqActivate k => Sys2Proof.Machine.execSeqActivate k s
  | .seqDeactivate k => Sys2Proof.Machine.execSeqDeactivate k s
  | .sampStageWrite k w v => Sys2Proof.Machine.execSampStageWrite k w v s
  | .sampGo v => Sys2Proof.Machine.execSampGo v s
  | .histAppend k v => Sys2Proof.Machine.execHistAppend k v s
  | .tokenChoose k => Sys2Proof.Machine.execTokenChoose k s
  | .oringAdvance k => Sys2Proof.Machine.execOringAdvance k s
  | .oringReadAdvance k v => Sys2Proof.Machine.execOringReadAdvance k v s
  | .grammarMaskDone k => Sys2Proof.Machine.execGrammarMaskDone k s
  | .heartbeatCheck d x logOk => Sys2Proof.Machine.execHeartbeatCheck d x logOk s
  | .engFence site v logOk => Sys2Proof.Machine.execEngFence site v logOk s
  | .controlParityError site logOk => Sys2Proof.Machine.execControlParityError site logOk s
  | .powerGateFault site logOk => Sys2Proof.Machine.execPowerGateFault site logOk s
  | .rowSubst d v meshBusy => Sys2Proof.Machine.execRowSubst d v meshBusy s
  | .substPortBind d r logOk => Sys2Proof.Machine.execSubstPortBind d r logOk s
  | .edgeSelWrite d v => Sys2Proof.Machine.execEdgeSelWrite d v s
  | .edgeSelApply e => Sys2Proof.Machine.execEdgeSelApply e s
  | .mcastDeliver d mask off data pois lost => Sys2Proof.Machine.execMcastDeliver d mask off data pois lost s
  | .barrierArrive e => Sys2Proof.Machine.execBarrierArrive e s
  | .barrierRelease e => Sys2Proof.Machine.execBarrierRelease e s
  | .seamStallAlert d cycles => Sys2Proof.Machine.execSeamStallAlert d cycles s
  | .stepChangeApply d => Sys2Proof.Machine.execStepChangeApply d s
  | .spanStart sp arg ticket => Sys2Proof.Machine.execSpanStart sp arg ticket s
  | .spanStop sp => Sys2Proof.Machine.execSpanStop sp s
  | .spanDrain sp => Sys2Proof.Machine.execSpanDrain sp s
  | .spanSnapshot sp => Sys2Proof.Machine.execSpanSnapshot sp s
  | .spanClear sp => Sys2Proof.Machine.execSpanClear sp s
  | .spanUnload sp => Sys2Proof.Machine.execSpanUnload sp s
  | .spanQuiet sp => Sys2Proof.Machine.execSpanQuiet sp s
  | .doorbell sp v ticket => Sys2Proof.Machine.execDoorbell sp v ticket s
  | .eventRingPop t => Sys2Proof.Machine.execEventRingPop t s
  | .imageLoad v host => Sys2Proof.Machine.execImageLoad v host s
  | .rwpWrite off v => Sys2Proof.Machine.execRwpWrite off v s
  | .pairCommit v => Sys2Proof.Machine.execPairCommit v s
  | .shadowClear v => Sys2Proof.Machine.execShadowClear v s
  | .pairAbandon v => Sys2Proof.Machine.execPairAbandon v s
  | .levelWrite v => Sys2Proof.Machine.execLevelWrite v s
  | .prepareReceive u kind x => Sys2Proof.Machine.execPrepareReceive u kind x s
  | .modeAckReceive u phase result => Sys2Proof.Machine.execModeAckReceive u phase result s
  | .commitReceive u => Sys2Proof.Machine.execCommitReceive u s
  | .modeApply u => Sys2Proof.Machine.execModeApply u s
  | .abortReceive x => Sys2Proof.Machine.execAbortReceive x s
  | .memoryRead q => Sys2Proof.Machine.execMemoryRead q s
  | .memoryWrite q => Sys2Proof.Machine.execMemoryWrite q s
  | .stackFence n logOk => Sys2Proof.Machine.execStackFence n logOk s
  | .brgWriteIndex m v => Sys2Proof.Machine.execBrgWriteIndex m v s
  | .descriptorStart m hub => Sys2Proof.Machine.execDescriptorStart m hub s
  | .descriptorComplete m hub ext turned => Sys2Proof.Machine.execDescriptorComplete m hub ext turned s
  | .brgResume m => Sys2Proof.Machine.execBrgResume m s
  | .brgSkip m => Sys2Proof.Machine.execBrgSkip m s
  | .brgAbort m => Sys2Proof.Machine.execBrgAbort m s
  | .promoteCopyDone page => Sys2Proof.Machine.execPromoteCopyDone page s
  | .patchRelease v logOk => Sys2Proof.Machine.execPatchRelease v logOk s
  | .macroFence v logOk => Sys2Proof.Machine.execMacroFence v logOk s
  | .macroFenceApply site macro_ logOk => Sys2Proof.Machine.execMacroFenceApply site macro_ logOk s
  | .pageRetire v logOk => Sys2Proof.Machine.execPageRetire v logOk s
  | .flipArm v => Sys2Proof.Machine.execFlipArm v s
  | .scrubStart t => Sys2Proof.Machine.execScrubStart t s
  | .scrubDone scanned => Sys2Proof.Machine.execScrubDone scanned s
  | .ticketAvgUpdate k n t => Sys2Proof.Machine.execTicketAvgUpdate k n t s
  | .throttleReceive q r band hold => Sys2Proof.Machine.execThrottleReceive q r band hold s
  | .queueLevelReceive r level band => Sys2Proof.Machine.execQueueLevelReceive r level band s
  | .leakRelease q r t => Sys2Proof.Machine.execLeakRelease q r t s
  | .missWindowEnd k n t => Sys2Proof.Machine.execMissWindowEnd k n t s
  | .flashRead c => Sys2Proof.Machine.execFlashRead c s
  | .pageReadDone c lun r interval => Sys2Proof.Machine.execPageReadDone c lun r interval s
  | .probeIssue c g => Sys2Proof.Machine.execProbeIssue c g s
  | .probeResult c lun k => Sys2Proof.Machine.execProbeResult c lun k s
  | .readDisturbPatrol c lun block => Sys2Proof.Machine.execReadDisturbPatrol c lun block s
  | .flashProgram c => Sys2Proof.Machine.execFlashProgram c s
  | .programStatus c lun pass => Sys2Proof.Machine.execProgramStatus c lun pass s
  | .eraseStatus c lun pass => Sys2Proof.Machine.execEraseStatus c lun pass s
  | .relocationSwitch sb => Sys2Proof.Machine.execRelocationSwitch sb s
  | .lunTimeout c lun logOk => Sys2Proof.Machine.execLunTimeout c lun logOk s
  | .zqCalibration c => Sys2Proof.Machine.execZqCalibration c s
  | .zoneOpen nsb => Sys2Proof.Machine.execZoneOpen nsb s
  | .zoneAppend m ext => Sys2Proof.Machine.execZoneAppend m ext s
  | .appendComplete z => Sys2Proof.Machine.execAppendComplete z s
  | .format pct => Sys2Proof.Machine.execFormat pct s
  | .formatDone marked => Sys2Proof.Machine.execFormatDone marked s
  | .mount found trained logOk => Sys2Proof.Machine.execMount found trained logOk s
  | .mountDone labelOk ledgerOk wps => Sys2Proof.Machine.execMountDone labelOk ledgerOk wps s
  | .rawReadPage c raw t units errs => Sys2Proof.Machine.execRawReadPage c raw t units errs s
  | .rawProgramPage c raw t pass => Sys2Proof.Machine.execRawProgramPage c raw t pass s
  | .rawEraseBlock c t pass => Sys2Proof.Machine.execRawEraseBlock c t pass s
  | .rawReadStatus c t status => Sys2Proof.Machine.execRawReadStatus c t status s
  | .rawGetFeatures c feat t p => Sys2Proof.Machine.execRawGetFeatures c feat t p s
  | .rawSetFeatures c feat t => Sys2Proof.Machine.execRawSetFeatures c feat t s
  | .rawReadId c t id => Sys2Proof.Machine.execRawReadId c t id s
  | .rawReadParameterPage c t page => Sys2Proof.Machine.execRawReadParameterPage c t page s
  | .rawResetLun c t same logOk => Sys2Proof.Machine.execRawResetLun c t same logOk s
  | .thresholdWrite c v => Sys2Proof.Machine.execThresholdWrite c v s
  | .queryAdmit p => Sys2Proof.Machine.execQueryAdmit p s
  | .unitDelivered p ix => Sys2Proof.Machine.execUnitDelivered p ix s
  | .walkRound p ix => Sys2Proof.Machine.execWalkRound p ix s
  | .queryEnd p ix => Sys2Proof.Machine.execQueryEnd p ix s
  | .queryFail p ix => Sys2Proof.Machine.execQueryFail p ix s
  | .resultHeaderWrite p ix => Sys2Proof.Machine.execResultHeaderWrite p ix s
  | .forwardStart p => Sys2Proof.Machine.execForwardStart p s
  | .forwardDoorbell p => Sys2Proof.Machine.execForwardDoorbell p s
  | .forwardFree p => Sys2Proof.Machine.execForwardFree p s
  | .reFence mask logOk => Sys2Proof.Machine.execReFence mask logOk s
  | .resultReadAdvance p v => Sys2Proof.Machine.execResultReadAdvance p v s
  | .flitReceive p dir f queue => Sys2Proof.Machine.execFlitReceive p dir f queue s
  | .dnakReceive p dir seq => Sys2Proof.Machine.execDnakReceive p dir seq s
  | .chainFrameReceive p dir frame => Sys2Proof.Machine.execChainFrameReceive p dir frame s
  | .bundleRetrain p => Sys2Proof.Machine.execBundleRetrain p s
  | .retrainDone p bad0 bad1 logOk => Sys2Proof.Machine.execRetrainDone p bad0 bad1 logOk s
  | .bundleRetire p logOk => Sys2Proof.Machine.execBundleRetire p logOk s
  | .clockPairLost p dir logOk => Sys2Proof.Machine.execClockPairLost p dir logOk s
  | .discReceive p w1 w2 logOk => Sys2Proof.Machine.execDiscReceive p w1 w2 logOk s
  | .codewordReceive p corrected bad counted => Sys2Proof.Machine.execCodewordReceive p corrected bad counted s
  | .controlSliceReceive p ack nak crReq crRsp crCtl txreq => Sys2Proof.Machine.execControlSliceReceive p ack nak crReq crRsp crCtl txreq s
  | .chainEntryReceive p x => Sys2Proof.Machine.execChainEntryReceive p x s
  | .helloReceive p serial devnum port bridge tier feature gen => Sys2Proof.Machine.execHelloReceive p serial devnum port bridge tier feature gen s
  | .enumReceive serial devnum level gen => Sys2Proof.Machine.execEnumReceive serial devnum level gen s
  | .routeReceive dest hops up dn gen last => Sys2Proof.Machine.execRouteReceive dest hops up dn gen last s
  | .linkstateReceive d port up peer peerPort gen => Sys2Proof.Machine.execLinkstateReceive d port up peer peerPort gen s
  | .lostReceive d isolated gen => Sys2Proof.Machine.execLostReceive d isolated gen s
  | .wealeyWrite p f => Sys2Proof.Machine.execWealeyWrite p f s
  | .wealeyRead p f => Sys2Proof.Machine.execWealeyRead p f s
  | .wealeyRdata p f => Sys2Proof.Machine.execWealeyRdata p f s
  | .wealeyCpl p f => Sys2Proof.Machine.execWealeyCpl p f s
  | .wealeyEwrite p f => Sys2Proof.Machine.execWealeyEwrite p f s
  | .frameSend p => Sys2Proof.Machine.execFrameSend p s
  | .portSignalDetect p => Sys2Proof.Machine.execPortSignalDetect p s
  | .detectRetry p => Sys2Proof.Machine.execDetectRetry p s
  | .trainLock p => Sys2Proof.Machine.execTrainLock p s
  | .trainTimeout p => Sys2Proof.Machine.execTrainTimeout p s
  | .checkPass p => Sys2Proof.Machine.execCheckPass p s
  | .portSignalLost p => Sys2Proof.Machine.execPortSignalLost p s
  | .portRetrain p => Sys2Proof.Machine.execPortRetrain p s
  | .portRetrainWrite p => Sys2Proof.Machine.execPortRetrainWrite p s
  | .portRetrainDone p => Sys2Proof.Machine.execPortRetrainDone p s
  | .portRetrainTimeout p => Sys2Proof.Machine.execPortRetrainTimeout p s
  | .portDisable p => Sys2Proof.Machine.execPortDisable p s
  | .portEnable p => Sys2Proof.Machine.execPortEnable p s
  | .deviceLost d => Sys2Proof.Machine.execDeviceLost d s
  | .hostConfigRequest fn q => Sys2Proof.Machine.execHostConfigRequest fn q s
  | .hostRead fn bar off len tag => Sys2Proof.Machine.execHostRead fn bar off len tag s
  | .hostWrite fn bar off data ep => Sys2Proof.Machine.execHostWrite fn bar off data ep s
  | .hostLinkChange rate width flit up => Sys2Proof.Machine.execHostLinkChange rate width flit up s
  | .flr fn => Sys2Proof.Machine.execFlr fn s
  | .hostReadCompletion d tag data => Sys2Proof.Machine.execHostReadCompletion d tag data s
  | .powerInterval x => Sys2Proof.Machine.execPowerInterval x s
  | .diodeRead readings => Sys2Proof.Machine.execDiodeRead readings s
  | .avsInterval grades => Sys2Proof.Machine.execAvsInterval grades s
  | .stepRampDone d west => Sys2Proof.Machine.execStepRampDone d west s
  | .regulatorReport r mv cur pow temp => Sys2Proof.Machine.execRegulatorReport r mv cur pow temp s
  | .railFault r kind logOk => Sys2Proof.Machine.execRailFault r kind logOk s
  | .clockStretch domain cycles => Sys2Proof.Machine.execClockStretch domain cycles s
  | .siteIdle site => Sys2Proof.Machine.execSiteIdle site s
  | .dieDoze d => Sys2Proof.Machine.execDieDoze d s
  | .dieWake d => Sys2Proof.Machine.execDieWake d s
  | .dozeExitDone d ok logOk => Sys2Proof.Machine.execDozeExitDone d ok logOk s
  | .dozeEntryDone d => Sys2Proof.Machine.execDozeEntryDone d s
  | .powerOnReset aon torn => Sys2Proof.Machine.execPowerOnReset aon torn s
  | .sysReset torn => Sys2Proof.Machine.execSysReset torn s
  | .coldResetCmd v => Sys2Proof.Machine.execColdResetCmd v s
  | .warmResetCmd v => Sys2Proof.Machine.execWarmResetCmd v s
  | .coldStart f => Sys2Proof.Machine.execColdStart f s
  | .computeWave f => Sys2Proof.Machine.execComputeWave f s
  | .warmStart f kept => Sys2Proof.Machine.execWarmStart f kept s
  | .imagePush v f => Sys2Proof.Machine.execImagePush v f s
  | .imagePushProgram ok f => Sys2Proof.Machine.execImagePushProgram ok f s
  | .sourceEvent k => Sys2Proof.Machine.execSourceEvent k s
  | .levelLineRise k => Sys2Proof.Machine.execLevelLineRise k s
  | .coalWindowExpire k => Sys2Proof.Machine.execCoalWindowExpire k s
  | .claim t => Sys2Proof.Machine.execClaim t s
  | .eoi t v => Sys2Proof.Machine.execEoi t v s
  | .softwareInterrupt v => Sys2Proof.Machine.execSoftwareInterrupt v s
  | .ferrymanWake k => Sys2Proof.Machine.execFerrymanWake k s
  | .ferryTimer ms => Sys2Proof.Machine.execFerryTimer ms s
  | .snapshotMarker m => Sys2Proof.Machine.execSnapshotMarker m s
  | .waveStatusReceive pos dev => Sys2Proof.Machine.execWaveStatusReceive pos dev s
  | .telRingReadAdvance v => Sys2Proof.Machine.execTelRingReadAdvance v s
  | .histSelect v => Sys2Proof.Machine.execHistSelect v s
  | .setEndpointId eid => Sys2Proof.Machine.execSetEndpointId eid s
  | .regRead addr count => Sys2Proof.Machine.execRegRead addr count s
  | .regWrite addr count words => Sys2Proof.Machine.execRegWrite addr count words s
  | .logRead index => Sys2Proof.Machine.execLogRead index s
  | .crashRead off => Sys2Proof.Machine.execCrashRead off s
  | .ldpResetCold key => Sys2Proof.Machine.execLdpResetCold key s
  | .ldpResetWarm key => Sys2Proof.Machine.execLdpResetWarm key s
  | .powerStartMain vin => Sys2Proof.Machine.execPowerStartMain vin s
  | .bufWrite off data => Sys2Proof.Machine.execBufWrite off data s
  | .bufRead off bytes => Sys2Proof.Machine.execBufRead off bytes s
  | .imgPush len program f => Sys2Proof.Machine.execImgPush len program f s
  | .attestSign nonce => Sys2Proof.Machine.execAttestSign nonce s
  | .attestReadReport off bytes => Sys2Proof.Machine.execAttestReadReport off bytes s
  | .attestReadCert off bytes => Sys2Proof.Machine.execAttestReadCert off bytes s
  | .crashClrWrite v => Sys2Proof.Machine.execCrashClrWrite v s
  | .mboxInWrite v => Sys2Proof.Machine.execMboxInWrite v s
  | .mboxOutWrite v => Sys2Proof.Machine.execMboxOutWrite v s
  | .keyEnrol v => Sys2Proof.Machine.execKeyEnrol v s
  | .keyRevoke v => Sys2Proof.Machine.execKeyRevoke v s
  | .keyNoticeDone ok => Sys2Proof.Machine.execKeyNoticeDone ok s
  | .attestHost v => Sys2Proof.Machine.execAttestHost v s
  | .attestDone landing => Sys2Proof.Machine.execAttestDone landing s
  | .tapSamplePreload pins load_ => Sys2Proof.Machine.execTapSamplePreload pins load_ s
  | .tapDiesel v => Sys2Proof.Machine.execTapDiesel v s
  | .tapIjtag pos write v => Sys2Proof.Machine.execTapIjtag pos write v s
  | .tapRegacc w => Sys2Proof.Machine.execTapRegacc w s
  | .interconnectTestDone fails => Sys2Proof.Machine.execInterconnectTestDone fails s
  | .fieldTestExit logOk => Sys2Proof.Machine.execFieldTestExit logOk s
  | .clearByRead a off size => Sys2Proof.Machine.execClearByRead a off size s
  | .aonRstNRelease bootSrc smbAddr bridge => Sys2Proof.Machine.execAonRstNRelease bootSrc smbAddr bridge s
  | .hubFault => Sys2Proof.Machine.execHubFault s
  | .samplerReseed => Sys2Proof.Machine.execSamplerReseed s
  | .imageLoaded => Sys2Proof.Machine.execImageLoaded s
  | .modeAckTimeout => Sys2Proof.Machine.execModeAckTimeout s
  | .groupModeTimeout => Sys2Proof.Machine.execGroupModeTimeout s
  | .placeEpochEnd => Sys2Proof.Machine.execPlaceEpochEnd s
  | .promoPromote => Sys2Proof.Machine.execPromoPromote s
  | .promoDemote => Sys2Proof.Machine.execPromoDemote s
  | .scrubStop => Sys2Proof.Machine.execScrubStop s
  | .patrolTimer => Sys2Proof.Machine.execPatrolTimer s
  | .ledgerCheckpoint => Sys2Proof.Machine.execLedgerCheckpoint s
  | .zoneFinish => Sys2Proof.Machine.execZoneFinish s
  | .zoneFree => Sys2Proof.Machine.execZoneFree s
  | .zoneQuery => Sys2Proof.Machine.execZoneQuery s
  | .discoveryEnd => Sys2Proof.Machine.execDiscoveryEnd s
  | .rescan => Sys2Proof.Machine.execRescan s
  | .frameExpire => Sys2Proof.Machine.execFrameExpire s
  | .deviceIsolated => Sys2Proof.Machine.execDeviceIsolated s
  | .hostLinkRetrain => Sys2Proof.Machine.execHostLinkRetrain s
  | .perst => Sys2Proof.Machine.execPerst s
  | .refclkLost => Sys2Proof.Machine.execRefclkLost s
  | .pllLockLost => Sys2Proof.Machine.execPllLockLost s
  | .thermtripRelease => Sys2Proof.Machine.execThermtripRelease s
  | .standbyEnter => Sys2Proof.Machine.execStandbyEnter s
  | .standbyExit => Sys2Proof.Machine.execStandbyExit s
  | .standbyExitDone => Sys2Proof.Machine.execStandbyExitDone s
  | .offAon => Sys2Proof.Machine.execOffAon s
  | .vinLow => Sys2Proof.Machine.execVinLow s
  | .vinCritical => Sys2Proof.Machine.execVinCritical s
  | .vaonLow => Sys2Proof.Machine.execVaonLow s
  | .vnandLow => Sys2Proof.Machine.execVnandLow s
  | .snapshotDevice => Sys2Proof.Machine.execSnapshotDevice s
  | .snapshotGroup => Sys2Proof.Machine.execSnapshotGroup s
  | .waveTimeout => Sys2Proof.Machine.execWaveTimeout s
  | .groupWaveTimeout => Sys2Proof.Machine.execGroupWaveTimeout s
  | .telSample => Sys2Proof.Machine.execTelSample s
  | .getEndpointId => Sys2Proof.Machine.execGetEndpointId s
  | .getMctpVersionSupport => Sys2Proof.Machine.execGetMctpVersionSupport s
  | .getMessageTypeSupport => Sys2Proof.Machine.execGetMessageTypeSupport s
  | .getVendorDefinedMsgSupport => Sys2Proof.Machine.execGetVendorDefinedMsgSupport s
  | .getInfo => Sys2Proof.Machine.execGetInfo s
  | .crashClear => Sys2Proof.Machine.execCrashClear s
  | .powerStandby => Sys2Proof.Machine.execPowerStandby s
  | .powerRun => Sys2Proof.Machine.execPowerRun s
  | .powerOffAon => Sys2Proof.Machine.execPowerOffAon s
  | .araRead => Sys2Proof.Machine.execAraRead s
  | .alertReassert => Sys2Proof.Machine.execAlertReassert s
  | .tapReset => Sys2Proof.Machine.execTapReset s
  | .tapIdcode => Sys2Proof.Machine.execTapIdcode s
  | .tapExtest => Sys2Proof.Machine.execTapExtest s
  | .tapClamp => Sys2Proof.Machine.execTapClamp s
  | .tapHighz => Sys2Proof.Machine.execTapHighz s
  | .tapBypass => Sys2Proof.Machine.execTapBypass s
  | .fieldTestEnter => Sys2Proof.Machine.execFieldTestEnter s
  | .refclkPresent => Sys2Proof.Machine.execRefclkPresent s
  | .standbyEntryDone => Sys2Proof.Machine.execStandbyEntryDone s
  | .perstDeassert => Sys2Proof.Machine.execPerstDeassert s

end Sys2Proof.Machine
end

