-- ==== Sys2Proof/Safety.lean ====
section
/-! DEFINITION. The terms in which claims about the device are stated: what a command leaves as it was, what raising interrupt
sources may change, and what a safe run keeps. -/

namespace Sys2Proof.Machine

/-- Every register that `p` does not name reads as before. -/
def RegsKept (p : List Reg) (s t : State) : Prop := ∀ r, r ∉ p → t.rget r = s.rget r

/-- The registers that a message of an interrupt target can change (R345, R352, R405, R446). -/
def signalRegs : List Reg := [.HBR_ERR, .HBR_TLP_TX, .LDP_ALERT]

/-- `t` is `s` but for what raising and presenting interrupt sources changes: the interrupt controller, the messages sent, the
vectors pending, control entries waiting, the release of SMB_ALERT_N, and the registers of `signalRegs` (R401 to R405). -/
def Signals (s t : State) : Prop :=
  t = { s with
    regs := t.regs
    icu := t.icu
    fns := t.fns
    grp := { s.grp with entries := t.grp.entries }
    ldp := { s.ldp with released := t.ldp.released }
    outbox := t.outbox } ∧ RegsKept signalRegs s t

/-- Source `k` has had one more event: COUNT rises, or at 255 stays and sets OVF (R401). -/
def Raised (k : Nat) (s t : State) : Prop :=
  let a := s.icu.src.at k
  let b := t.icu.src.at k
  if a.count < 255 then b.count = a.count + 1 ∧ b.ovf = a.ovf else b.count = a.count ∧ b.ovf = true

/-- The registers alone differ, and of them only those that `p` names. -/
def OnlyRegs (p : List Reg) (s t : State) : Prop := t = { s with regs := t.regs } ∧ RegsKept p s t

/-- The memory's list of cells is in canonical form: addresses rising, and no cell listed that holds what an unlisted one reads
as.  DEDUCED, log entry 2. -/
def Memory.wf (m : MemUnit) : Bool := Tab.wf m.data

/-- The registers that a request on its way to memory can change: the counts of page misses (R189), of a latency histogram (R427), and of
the bundles' flits (R318). -/
def passRegs : List Reg :=
  (List.finRange 8).map .STK_MISS_CNT ++ (List.finRange 16).map .TEL_HIST ++ (List.finRange 78).map .CWY_RX ++
    (List.finRange 78).map .CWY_TX

/-- The registers that an access to memory can change: the counts of the stacks' blocks (R189), the count of demotions (R185), the
arming of fault injection (R210), the log flags of BUP_STAT (R394), those of requests on their way, and those of interrupt messages. -/
def memoryRegs : List Reg :=
  signalRegs ++ [.BUP_STAT, .SBF_PL_DEMO, .MEM_FLIP_CTL] ++ (List.finRange 8).map .STK_RD_CNT ++ (List.finRange 8).map .STK_WR_CNT ++
    passRegs

/-- `t` is `s` but for what an access to memory changes: memory itself, which keeps its canonical form; the placement loop's counts;
the defect log, to which it can only append (R198); what requests count at the resources and bundles that serve them, and the free values
taken; and what raising sources changes. -/
structure MemoryActs (s t : State) : Prop where
  rest : t = { s with
    regs := t.regs
    icu := t.icu
    mem := t.mem
    place := t.place
    log := t.log
    tkt := t.tkt
    cwy := t.cwy
    free := t.free
    fns := t.fns
    grp := { s.grp with entries := t.grp.entries }
    ldp := { s.ldp with released := t.ldp.released }
    outbox := t.outbox }
  regs : RegsKept memoryRegs s t
  wf : Memory.wf s.mem = true → Memory.wf t.mem = true
  log : s.log.recs <+: t.log.recs

/-- The registers that a change of the Wealey group can change: the group's own, those of its ports, and those of interrupt messages. -/
def linkRegs : List Reg :=
  [.LNK_GRP, .LNK_GEN, .LNK_EXP] ++ signalRegs ++ (List.range 16).flatMap (fun q => [pstatReg q, levtReg q])

/-- `t` is `s` but for what a change of the Wealey group changes: ports, devices and what is queued for them, the DEGRADED flags of spans and
their events, messages and interrupts; and of the registers those of `linkRegs` and of `p`. -/
def LinkActs (p : List Reg) (s t : State) : Prop :=
  t = { s with
    regs := t.regs
    icu := t.icu
    fns := t.fns
    grp := t.grp
    ldp := { s.ldp with released := t.ldp.released }
    ports := t.ports
    devs := t.devs
    lostDevs := t.lostDevs
    spans := t.spans
    rings := t.rings
    free := t.free
    outbox := t.outbox } ∧ RegsKept (p ++ linkRegs) s t

end Sys2Proof.Machine
end

