-- ==== Sys2Proof/WellFormed.lean ====
section
/-! DEFINITION. Which commands the device can be sent: the relations between the operands of one command that their types do
not state. -/

namespace Sys2Proof

/-- A poison list has one element for each byte. -/
def samePois (data : List Byte) (pois : List Bool) : Bool := data.length == pois.length

/-- What a read of host memory or of another device returned: one poison flag for each byte. -/
def extWf : Option (List Byte × List Bool) → Bool
  | none => true
  | some x => samePois x.1 x.2

/-- A Wealey frame that carries data carries LEN bytes, and its poison slice names bytes that it carries (R324, R325). -/
def Frame.wf (f : Frame) : Bool := f.data.length == f.len && f.pois.all (fun k => 4 * k < f.len + 4)

/-- Whether a command can be sent to the device. -/
def Instr.wf : Instr → Bool
  | .codebookWrite _ _ _ data pois => samePois data pois
  | .mcastDeliver _ _ _ data pois _ => samePois data pois
  | .memoryWrite q => q.data.length == q.len && q.pois.length == q.len
  | .descriptorComplete _ _ ext _ => extWf ext
  | .zoneAppend _ ext => extWf ext
  | .flitReceive _ _ f _ => f.words.length == 32 && f.words.all (· < 2 ^ 39)
  | .chainEntryReceive _ x => x.words.length == 5
  | .wealeyWrite _ f => f.wf
  | .wealeyRdata _ f => f.wf
  | .wealeyEwrite _ f => f.wf
  | .diodeRead l => l.length == 80
  | .powerInterval x => x.busy.length == 128
  | .avsInterval l => l.length == 20
  | .hostLinkChange _ width _ _ => [0, 1, 2, 4, 8, 16].contains width.val
  | _ => true

end Sys2Proof
end

