-- ==== Sys2Proof/Certificates/Slice0/Obligations.lean ====
section
/-! DEFINITION. What is claimed of the device, from the numbered rules of its spec: for each command, the state that it ends in where the
spec gives it an effect, and what that leaves as it was; and what every step keeps. -/

open Sys2Proof Sys2Proof.Machine

/-- Every bundle takes requests in both directions (R300, R312). -/
def BundlesFree (s : State) : Prop := ∀ p dir, s.bundleWaits p dir = false

/-- No source holds requests of any ticket (R226), and every bundle takes requests: work that reads and writes memory goes on. -/
def PathsFree (s : State) : Prop := BundlesFree s ∧ ∀ q r t, s.heldBit q r t = false

/-- Nothing stands in the way of accesses to memory: requests go on, no word needs correction, is poisoned or patched, no fault injection is armed,
and no page is promoted. -/
def Undisturbed (s : State) : Prop :=
  PathsFree s ∧ (∀ k, Tab.at s.mem.syn k = 0) ∧ (∀ i, (s.mem.insts.at i).patch = []) ∧
    s.fget .MEM_FLIP_CTL F.MEM_FLIP_CTL_ARM = 0 ∧ s.place.frames = []

/-- Each block that the `n` bytes from `a` touch can be read and matches its manifest (R160, R207). -/
def Readable (s : State) (a n : Nat) : Prop :=
  ∀ b ∈ blocksOf a n, ∃ x, s.readBlock false false b = some x ∧ crc32c (wordsToBytes x.2.1) = x.2.2.2

/-- They can be written by engine `e` as well: none lies in another engine's local store (R65). -/
def Writable (s : State) (e a n : Nat) : Prop := Readable s a n ∧ ∀ b ∈ blocksOf a n, ∀ t o, rangeOf b = .store t o → t = e

/-- Step `t` at index `i` of engine `e` is in flight as `r` for `task`, its work still to be done, with opcode `opc`; `s1` is the state once
its words are read. -/
def InFlight (s : State) (e i opc : Nat) (r : StepRun) (task : Task) (s1 : State) (t : Step) : Prop :=
  (s.engs.at e).steps.find? (fun r => r.ix = i && r.tags.isEmpty) = some r ∧ (s.engs.at e).task = some task ∧
    s.fetchStep e i = (s1, some t) ∧ t.opc = opc

/-- The state in which such a step completes, its results written in `s2`: its arithmetic is counted, its gangs are free, and its SYNC_OUT is
signalled, or is to be once the frames that it has sent are performed. -/
def stepEnds (s s2 : State) (e : Nat) (r : StepRun) (t : Step) (a : Arith) : State :=
  ((s2.arith e a).stepWritten e r.num t.syncOut s.grp.tag s2.grp.tag).settle

/-- The commands that run a step of a schedule, each with its opcode and the part of it that computes (R78). -/
def stepCommands (e : Eng) (i : SpanIx) (parity : Option Nat) (order : List Nat) :
    List (Instr × Nat × (State → Step → StepRun → Task → Got Arith)) :=
  [(.nop e i, 0x00, nopBody), (.matmul e i parity, 0x01, matmulBody e.val parity), (.attnPaged e (i, parity), 0x10, attnBody e.val parity),
   (.moeGate e (i, parity), 0x18, moeGateBody e.val parity), (.moeDispatch e i, 0x19, moeDispatchBody e.val),
   (.moeGather e i order, 0x1A, moeGatherBody e.val order), (.normRms e i, 0x20, normBody false e.val),
   (.normLayer e i, 0x21, normBody true e.val), (.embedGather e i, 0x28, embedBody e.val), (.vec e i, 0x30, vecBody e.val),
   (.sfu e i, 0x31, sfuBody e.val), (.reduce e i, 0x32, reduceBody e.val), (.transpose e i, 0x33, transposeBody e.val),
   (.rerankScore e i, 0x38, rerankBody e.val), (.topk e i, 0x39, topkBody e.val), (.send e i, 0x40, sendBody e.val),
   (.logitsOut e i, 0x41, logitsBody e.val i.val), (.sync e i, 0x50, nopBody)]

/-- R57, R67, R75, R78, R175: a step in flight whose operands can be read and whose results can be written completes: what it computes
stands, its arithmetic counts are added to ENG_ARITH of the engine's site (saturating), and, unless frames that it has sent are still to
be performed, its gangs are free and it is in flight no more.  Beyond what the step did, only engines, synchronisation points and their
messages, context registers of gangs bound next and the interrupt controller change. -/
def StepsThatRunComplete : Prop :=
  ∀ (e : Eng) (i : SpanIx) (parity : Option Nat) (order : List Nat),
    ∀ c ∈ stepCommands e i parity order, ∀ (s s1 s2 : State) (r : StepRun) (task : Task) (t : Step) (a : Arith),
      InFlight s e.val i.val c.2.1 r task s1 t → c.2.2 s1 t r task = .ok s2 a →
      ∃ u, exec c.1 s = .next u ∧ u = stepEnds s s2 e.val r t a ∧
        (s2.grp.tag = s.grp.tag → (∀ q ∈ (u.engs.at e.val).steps, q.num ≠ r.num) ∧
          (∀ g ∈ (u.engs.at e.val).gangs, g.2.run ≠ r.num)) ∧
        (∀ p ∈ [((0 : Fin 5), a.sat), (1, a.spec), (2, a.nanOut), (3, a.nanIn), (4, a.malf)],
          u.fget (.ENG_ARITH (Fin.ofNat 128 (s2.siteOf e.val)) p.1) F.ENG_ARITH_COUNT =
            min (s2.fget (.ENG_ARITH (Fin.ofNat 128 (s2.siteOf e.val)) p.1) F.ENG_ARITH_COUNT + p.2)
              (2 ^ F.ENG_ARITH_COUNT.len - 1)) ∧
        RegsKept (memoryRegs ++ (List.finRange 5).map (.ENG_ARITH (Fin.ofNat 128 (s2.siteOf e.val)))) s2 u ∧
        u = { s2 with
          regs := u.regs
          icu := u.icu
          mem := u.mem
          engs := u.engs
          spans := u.spans
          log := u.log
          fns := u.fns
          grp := { s2.grp with entries := u.grp.entries }
          ldp := { s2.ldp with released := u.ldp.released }
          free := u.free
          outbox := u.outbox }

/-- R47 to R51, R78 to R84: the steps of the array and of expert layers complete whenever their operands can be read and their results
written, no tile's weight registers showing a parity error: NOP and SYNC, which read and write nothing; MATMUL, whose results are those of
the array with the partial sums of ACC and the bias of AUX; ATTN_PAGED, once the K and V of its new tokens are written; MOE_GATE;
MOE_DISPATCH, each of whose rows is sent; and MOE_GATHER. -/
def ArrayStepsComplete : Prop :=
  ∀ (e : Eng) (i : SpanIx) (s s1 : State) (r : StepRun) (task : Task) (t : Step),
    (InFlight s e.val i.val 0x00 r task s1 t → exec (.nop e i) s = .next (stepEnds s s1 e.val r t default)) ∧
    (InFlight s e.val i.val 0x50 r task s1 t → exec (.sync e i) s = .next (stepEnds s s1 e.val r t default)) ∧
    -- MATMUL
    (∀ (parity : Option Nat) (s2 s3 s4 s5 s6 s7 : State) (w x : Rows) (cols : List Line) (prior bias : List Word) (z : Arith),
      InFlight s e.val i.val 0x01 r task s1 t → (∀ p, parity = some p → tileCount t t.n ≤ p) →
      s1.rowsAt e.val (t.opa.at r.iter) t.opa.fmt t.grp (ternaryRun t.opb.fmt) t.n t.k = .ok s2 w →
      s2.rowsAt e.val (t.opb.at r.iter) t.opb.fmt t.grp 256 t.m t.k = .ok s3 x → s3.columns e.val w t.n = .ok s4 cols →
      (if t.acc then s4.wordsAt e.val (t.out.at r.iter) (t.m * t.n) = .ok s5 prior else s5 = s4 ∧ prior = []) →
      (if t.aux = refOf 0 then s6 = s5 ∧ bias = [] else s5.wordsAt e.val (t.aux.at r.iter) t.n = .ok s6 bias) →
      s6.putRows e.val r.iter t (matmulRows t w x cols prior bias).2 (matmulRows t w x cols prior bias).1 = .ok s7 z →
      exec (.matmul e i parity) s = .next (stepEnds s s7 e.val r t z)) ∧
    -- ATTN_PAGED
    (∀ (parity : Option Nat) (s2 s3 s4 s5 s6 : State) (q : Rows) (lens : List (Nat × Nat)) (kvs : List (List (List Byte))) (z : Arith),
      InFlight s e.val i.val 0x10 r task s1 t →
      s1.rowsAt e.val (t.opb.at r.iter) t.opb.fmt t.grp 256 t.m ((attnShape t).hq * (attnShape t).hd) = .ok s2 q →
      s2.attnLens e.val (t.aux.at r.iter) t task = .ok s3 lens →
      s3.attnAppend e.val (t.aux.at r.iter) t task lens = .ok s4 () →
      (∀ p, parity = some p → (attnTiles t (attnShape t) (attnFull t task lens)).length ≤ p) →
      s4.attnCached e.val (t.aux.at r.iter) t task (attnFull t task lens) = .ok s5 kvs →
      s5.putRows e.val r.iter t (attnRows t q kvs).2 (attnRows t q kvs).1 = .ok s6 z →
      exec (.attnPaged e (i, parity)) s = .next (stepEnds s s6 e.val r t z)) ∧
    -- MOE_GATE
    (∀ (parity : Option Nat) (s2 s3 s4 s5 : State) (w x : Rows) (cols : List Line),
      InFlight s e.val i.val 0x18 r task s1 t → (∀ p, parity = some p → tileCount t (bits t.param 0 9) ≤ p) →
      s1.rowsAt e.val (t.opa.at r.iter) t.opa.fmt t.grp (ternaryRun t.opb.fmt) (bits t.param 0 9) t.k = .ok s2 w →
      s2.rowsAt e.val (t.opb.at r.iter) t.opb.fmt t.grp 256 t.m t.k = .ok s3 x →
      s3.columns e.val w (bits t.param 0 9) = .ok s4 cols →
      s4.tick.result e.val r.iter t.out 0 (gateRecords s4.free t w x cols).1
        ((gateRecords s4.free t w x cols).1.map (fun _ => false)) = .ok s5 () →
      exec (.moeGate e (i, parity)) s = .next (stepEnds s s5 e.val r t (gateRecords s4.free t w x cols).2)) ∧
    -- MOE_DISPATCH
    (∀ (s2 s3 : State) (recs : List (Nat × Nat × Word)), InFlight s e.val i.val 0x19 r task s1 t →
      s1.routing e.val (t.aux.at r.iter) (t.m * t.n) = .ok s2 recs →
      Got.each (List.range t.m) (fun s m => s.dispatchRow e.val r.iter t recs m) s2 = .ok s3 () →
      exec (.moeDispatch e i) s = .next (stepEnds s s3 e.val r t default)) ∧
    -- MOE_GATHER
    (∀ (order : List Nat) (s2 s3 s4 : State) (recs : List (Nat × Nat × Word)) (x : Rows) (z : Arith),
      InFlight s e.val i.val 0x1A r task s1 t → s1.routing e.val (t.aux.at r.iter) (t.m * t.n) = .ok s2 recs →
      s2.rowsAt e.val (t.opb.at r.iter) t.opb.fmt t.grp 256 (t.m * t.n) t.k = .ok s3 x →
      s3.putRows e.val r.iter t (gatherRows order t recs x).2 (gatherRows order t recs x).1 = .ok s4 z →
      exec (.moeGather e i order) s = .next (stepEnds s s4 e.val r t z))

/-- R58 to R61, R78, R79, R84 to R86, R90: the steps of the vector, special-function and reduction units, of reranking and of generation complete
whenever their operands can be read and their results written: NORM_RMS and NORM_LAYER; EMBED_GATHER of token ids below N; VEC; SFU;
REDUCE; TRANSPOSE, exact or requantising; RERANK_SCORE; TOPK; SEND, whose bytes pass unchanged or, into an accumulating buffer, are added;
and LOGITS_OUT, whose rows the sampling unit takes. -/
def VectorStepsComplete : Prop :=
  ∀ (e : Eng) (i : SpanIx) (s s1 : State) (r : StepRun) (task : Task) (t : Step),
    -- NORM_RMS
    (∀ (s2 s3 s4 : State) (x g : Rows) (z : Arith), InFlight s e.val i.val 0x20 r task s1 t →
      s1.rowsAt e.val (t.opb.at r.iter) t.opb.fmt t.grp 256 t.m t.k = .ok s2 x →
      s2.rowsAt e.val (t.opa.at r.iter) t.opa.fmt t.grp 256 1 t.k = .ok s3 g →
      s3.putRows e.val r.iter t (normRows false t x g g).2 (normRows false t x g g).1 = .ok s4 z →
      exec (.normRms e i) s = .next (stepEnds s s4 e.val r t z)) ∧
    -- NORM_LAYER
    (∀ (s2 s3 s4 s5 : State) (x g b : Rows) (z : Arith), InFlight s e.val i.val 0x21 r task s1 t →
      s1.rowsAt e.val (t.opb.at r.iter) t.opb.fmt t.grp 256 t.m t.k = .ok s2 x →
      s2.rowsAt e.val (t.opa.at r.iter) t.opa.fmt t.grp 256 1 t.k = .ok s3 g →
      s3.rowsAt e.val (t.aux.at r.iter) t.aux.fmt t.grp 256 1 t.k = .ok s4 b →
      s4.putRows e.val r.iter t (normRows true t x g b).2 (normRows true t x g b).1 = .ok s5 z →
      exec (.normLayer e i) s = .next (stepEnds s s5 e.val r t z)) ∧
    -- EMBED_GATHER
    (∀ (s2 s3 s4 : State) (ids : List Word) (rows : List (List FV)) (z : Arith), InFlight s e.val i.val 0x28 r task s1 t →
      s1.wordsAt e.val (t.opb.at r.iter) t.m = .ok s2 ids → (∀ x ∈ ids, x.toNat < t.n) →
      Got.collect ids (fun s x => s.tableRow e.val t (t.opa.at r.iter) x.toNat) s2 = .ok s3 rows →
      s3.putRows e.val r.iter t default rows = .ok s4 z →
      exec (.embedGather e i) s = .next (stepEnds s s4 e.val r t z)) ∧
    -- VEC
    (∀ (s2 s3 s4 s5 : State) (a b x : Rows) (z : Arith), InFlight s e.val i.val 0x30 r task s1 t →
      s1.vecOperand e.val (vecUses (t.param % 256)).1 t t.opa r.iter = .ok s2 a →
      s2.vecOperand e.val (vecUses (t.param % 256)).2.1 t t.opb r.iter = .ok s3 b →
      s3.vecOperand e.val (vecUses (t.param % 256)).2.2 t t.aux r.iter = .ok s4 x →
      (vecGivesWords t = true → s4.putWords e.val r.iter t.out (vecWords t a b x).1 = .ok s5 () →
        exec (.vec e i) s = .next (stepEnds s s5 e.val r t (vecWords t a b x).2)) ∧
      (vecGivesWords t = false → s4.putRows e.val r.iter t (vecValues t a b x).2.2 (vecValues t a b x).1.reverse = .ok s5 z →
        exec (.vec e i) s = .next (stepEnds s s5 e.val r t z))) ∧
    -- SFU and REDUCE
    (∀ (s2 s3 : State) (x : Rows) (z : Arith), s1.rowsAt e.val (t.opb.at r.iter) t.opb.fmt t.grp 256 t.m t.k = .ok s2 x →
      (InFlight s e.val i.val 0x31 r task s1 t → s2.putRows e.val r.iter t (sfuRows t x).2 (sfuRows t x).1 = .ok s3 z →
        exec (.sfu e i) s = .next (stepEnds s s3 e.val r t z)) ∧
      (InFlight s e.val i.val 0x32 r task s1 t → s2.putRows e.val r.iter t (reduceRows t x).2 (reduceRows t x).1 = .ok s3 z →
        exec (.reduce e i) s = .next (stepEnds s s3 e.val r t z))) ∧
    -- TRANSPOSE
    (∀ (s2 s3 s4 : State) (x : Rows) (lines : List Line) (z : Arith), InFlight s e.val i.val 0x33 r task s1 t →
      s1.rowsAt e.val (t.opb.at r.iter) t.opb.fmt t.grp 256 t.m t.k = .ok s2 x →
      (bitAt t.param 0 = true → s2.columns e.val x t.m = .ok s3 lines →
        s3.putRows e.val r.iter t default (transposeRows t x lines) = .ok s4 z →
        exec (.transpose e i) s = .next (stepEnds s s4 e.val r t z)) ∧
      (bitAt t.param 0 = false →
        s2.result e.val r.iter t.out 0 (transposeBytes t x) ((transposeBytes t x).map (fun _ => false)) = .ok s4 () →
        exec (.transpose e i) s = .next (stepEnds s s4 e.val r t default))) ∧
    -- RERANK_SCORE
    (∀ (s2 s3 s4 s5 : State) (x q : Rows) (recs : List Byte), InFlight s e.val i.val 0x38 r task s1 t →
      s1.rowsAt e.val (t.opa.at r.iter) t.opa.fmt t.grp 256 t.m t.k = .ok s2 x →
      s2.rowsAt e.val (t.opb.at r.iter) t.opb.fmt t.grp 256 1 t.k = .ok s3 q →
      s3.operand e.val (t.aux.at r.iter) (16 * t.m) = .ok s4 recs →
      s4.result e.val r.iter t.out 0 (rerankRecords t x q recs).1 ((rerankRecords t x q recs).1.map (fun _ => false)) = .ok s5 () →
      exec (.rerankScore e i) s = .next (stepEnds s s5 e.val r t (rerankRecords t x q recs).2)) ∧
    -- TOPK
    (∀ (s2 s3 : State) (recs : List Byte), InFlight s e.val i.val 0x39 r task s1 t →
      s1.operand e.val (t.opb.at r.iter) (16 * t.m) = .ok s2 recs →
      s2.tick.result e.val r.iter t.out 0 (topkRecords s2.free t recs) ((topkRecords s2.free t recs).map (fun _ => false)) =
        .ok s3 () →
      exec (.topk e i) s = .next (stepEnds s s3 e.val r t default)) ∧
    -- SEND
    (∀ (s2 s3 s4 : State) (d : Read) (x y : List Word), InFlight s e.val i.val 0x40 r task s1 t →
      (t.acc = false → s1.carried e.val (t.opb.at r.iter) (t.param % 2 ^ 32) = .ok s2 d →
        s2.result e.val r.iter t.out 0 d.bytes d.pois = .ok s4 () →
        exec (.send e i) s = .next (stepEnds s s4 e.val r t default)) ∧
      (t.acc = true → s1.wordsAt e.val (t.opb.at r.iter) (t.param % 2 ^ 32 / 4) = .ok s2 x →
        s2.wordsAt e.val (t.out.at r.iter) (t.param % 2 ^ 32 / 4) = .ok s3 y →
        s3.putWords e.val r.iter t.out ((List.zip y x).map (fun p => f32add p.1 p.2)) = .ok s4 () →
        exec (.send e i) s = .next (stepEnds s s4 e.val r t default))) ∧
    -- LOGITS_OUT
    (∀ (s2 : State) (x : Rows), InFlight s e.val i.val 0x41 r task s1 t →
      s1.rowsAt e.val (t.opb.at r.iter) t.opb.fmt t.grp 256 t.m t.n = .ok s2 x →
      exec (.logitsOut e i) s =
        .next (stepEnds s ((List.range t.m).foldl (fun s m => s.takeRow e.val i.val t task x m) s2) e.val r t default))

/-- What a step asks of the state before it to complete (R71, R78): the bytes of its operands can be read and those of its OUT written; ACC's
partial sums and the cached tokens of attention can be read, the token ids of EMBED_GATHER are below N, and the tokens of TOKEN_IN are there.
MOE_DISPATCH is taken here with a route to its own engine, ATTN_PAGED without APPEND, and the others with an OUT that no route carries. -/
def StepReady (s : State) (e i : Nat) (r : StepRun) (task : Task) (t : Step) : Prop :=
  let it := r.iter
  let o := s.outAt it t.out
  let b := t.operandBytes it o
  let bytes (a n : Nat) : List Byte := (s.readAt false 0 a n).bytes
  stepFmts t = true ∧ (s.engs.at e).edgeWait = false ∧
  Readable s (t.opa.at it) b.1 ∧ Readable s (t.opb.at it) b.2.1 ∧ Readable s (t.aux.at it) b.2.2.2 ∧
  (if t.opc = 0x19 then
    let x := s.image.routes.at (t.out.addr % 4096)
    t.out.mode = 2 ∧ x.valid = true ∧ x.get 0 12 4 ≤ 1 ∧ x.engines = [e] ∧
      t.out.advance it + b.2.2.1 ≤ (nth x.words 3).toNat ∧ Writable s e (storeAddr e o) b.2.2.1
  else t.out.mode ≠ 2 ∧ Writable s e (t.out.at it) b.2.2.1) ∧
  (t.opc = 0x01 → t.acc = true → Readable s (t.out.at it) (4 * (t.m * t.n))) ∧
  (t.opc = 0x10 →
    let h := attnShape t
    h.append = false ∧ ∀ m < t.m, ∀ k, slotOfRow t task m = some k →
      Readable s (ptEntry h (t.aux.at it) k 0) 8 ∧
      ∀ pos < ofBytes (bytes (ptEntry h (t.aux.at it) k 0) 8) % 2 ^ 32,
        let a := ptEntry h (t.aux.at it) k (pos / h.t + 1)
        Readable s a 8 ∧ ofBytes (bytes a 8) % 2 = 1 ∧
          Readable s (bits (ofBytes (bytes a 8)) 16 32 * 65536 + pos % h.t * (2 * h.half)) (2 * h.half)) ∧
  (t.opc = 0x28 → ∀ x ∈ chunks 4 (bytes (t.opb.at it) (4 * t.m)), ofBytes x < t.n) ∧
  (t.opc = 0x42 → s.tokensThere e i = true)

/-- R67, R71, R75, R78, R87: a step in flight of every opcode completes in every state that is ready for it: it does not fault and it
does not wait; it is in flight no more, its task goes on, and no fault record changes. -/
def StepsCompleteWhenReady : Prop :=
  ∀ (e : Eng) (i : SpanIx) (order : List Nat),
    ∀ c ∈ stepCommands e i none order ++ [(.tokenIn e i, 0x42, tokenInBody e.val)],
      ∀ (s s1 : State) (r : StepRun) (task : Task) (t : Step),
        InFlight s e.val i.val c.2.1 r task s1 t → Undisturbed s → StepReady s e.val i.val r task t →
        ∃ u s2 a, exec c.1 s = .next u ∧ u = stepEnds s s2 e.val r t a ∧
          (∀ q ∈ (u.engs.at e.val).steps, q.num ≠ r.num) ∧ (∀ g ∈ (u.engs.at e.val).gangs, g.2.run ≠ r.num) ∧
          (u.engs.at e.val).task = some task ∧ u.grp.tag = s.grp.tag ∧
          (∀ site w, u.rget (.ENG_FAULT site w) = s.rget (.ENG_FAULT site w))

/-- R47 to R51, R57 to R61, R67, R71, R75, R78 to R87, R90, R175: every step in flight whose operands can be read and whose results can be written
completes, with the results that its opcode gives. -/
def Obligations.ScheduleStepsComplete : Prop :=
  StepsCompleteWhenReady ∧ StepsThatRunComplete ∧ ArrayStepsComplete ∧ VectorStepsComplete

/-- R69, R87: a step whose word in schedule memory is poisoned faults with code 0x01, and a step whose body faults, faults with the
body's code, slot and address: the fault record stands in ENG_FAULT of the engine's site. -/
def ScheduleStepFaults : Prop :=
  ∀ (e : Eng) (i : SpanIx) (parity : Option Nat) (order : List Nat),
    ∀ c ∈ stepCommands e i parity order, ∀ (s s1 : State) (r : StepRun) (task : Task),
      (s.engs.at e.val).steps.find? (fun r => r.ix = i.val && r.tags.isEmpty) = some r → (s.engs.at e.val).task = some task →
      (s.fetchStep e.val i.val = (s1, none) → exec c.1 s = .next (s1.stepFault e.val i.val 0x01 none 0)) ∧
      (∀ (s2 : State) (t : Step) (code addr : Nat) (slot : Option Nat) (task2 : Task),
        s.fetchStep e.val i.val = (s1, some t) → t.opc = c.2.1 → c.2.2 s1 t r task = .fault s2 code slot addr →
        (s2.engs.at e.val).task = some task2 →
        ∃ u, exec c.1 s = .next u ∧
          ∀ w : Fin 4, u.rget (.ENG_FAULT (Fin.ofNat 128 (s2.siteOf e.val)) w) =
            wordOf (faultRecord code e.val i.val slot addr / 2 ^ (32 * w.val)))

/-- R49: a MATMUL or MOE_GATE step of which a tile's weight registers show a parity error faults with 0x03 and the tile's source
address. -/
def ParityErrorsFault : Prop :=
  ∀ (e : Eng) (i : SpanIx) (p : Nat) (s s1 : State) (r : StepRun) (task : Task) (t : Step),
    (InFlight s e.val i.val 0x01 r task s1 t → p < tileCount t t.n →
      exec (.matmul e i (some p)) s = .next (s1.stepFault e.val i.val 0x03 none (tileAddr t r.iter p))) ∧
    (InFlight s e.val i.val 0x18 r task s1 t → p < tileCount t (bits t.param 0 9) →
      exec (.moeGate e (i, some p)) s = .next (s1.stepFault e.val i.val 0x03 none (tileAddr t r.iter p)))

/-- R77, R226, R312: a step of which a request cannot be made yet waits: nothing that it would have done has happened. -/
def StepsWaitWhole : Prop :=
  ∀ (e : Eng) (i : SpanIx) (parity : Option Nat) (order : List Nat),
    ∀ c ∈ stepCommands e i parity order, ∀ (s s1 : State) (r : StepRun) (task : Task) (t : Step),
      InFlight s e.val i.val c.2.1 r task s1 t →
      (∀ p, c.2.2 s1 t r task = .wait (.bundle p) → exec c.1 s = .next s) ∧
      (∀ k q, c.2.2 s1 t r task = .wait (.ticket k q) → ∃ u, exec c.1 s = .next u ∧ u = { s with tkt := u.tkt } ∧
        u.tkt = { s.tkt with waits := u.tkt.waits })

/-- R75, R77, R78, R132, R133: TOKEN_IN waits while a token of an active slot is missing, and else completes once each token can be written
where OUT sends it; END, once it alone is in flight, ends the task, and the span's owner has a span event with code 1. -/
def TokenInAndEndOfTask : Prop :=
  -- TOKEN_IN
  (∀ (e : Eng) (i : SpanIx) (s : State), s.tokensThere e.val i.val = false → exec (.tokenIn e i) s = .next s) ∧
  (∀ (e : Eng) (i : SpanIx) (s s1 s2 : State) (r : StepRun) (task : Task) (t : Step),
    s.tokensThere e.val i.val = true → InFlight s e.val i.val 0x42 r task s1 t →
    Got.each (List.range t.m) (fun s m => s.tokenRow e.val r.iter t task m) s1 = .ok s2 () →
    exec (.tokenIn e i) s = .next (stepEnds s s2 e.val r t default)) ∧
  -- END: `v` is the state once the step itself has completed
  (∀ (e : Eng) (i : SpanIx) (s s1 v : State) (r : StepRun) (task : Task) (t : Step) (j : Nat),
    (s.engs.at e.val).steps = [r] → r.ix = i.val → (s.engs.at e.val).dbq = [] →
    InFlight s e.val i.val 0x5F r task s1 t → v = stepEnds s s1 e.val r t default →
    v.ownEntry (.engine e.val) = some j → (v.rings.at (v.spans.at j).owner).ents.length < 256 →
    ∃ u, exec (.endTask e i) s = .next u ∧ (u.engs.at e.val).task = none ∧ (u.engs.at e.val).steps = [] ∧
      (u.rings.at (v.spans.at j).owner).ents = (v.rings.at (v.spans.at j).owner).ents ++
        [j + 4096 + (if (v.rings.at (v.spans.at j).owner).lost then 65536 else 0)] ∧
      (∀ o, o ≠ (v.spans.at j).owner → u.rings.at o = s.rings.at o))

/-- R67, R68, R75, R76: the next step of a task starts when its predecessor has bound its work and nothing that it must wait for is in
flight; it waits at a point that is not released, and faults with 0x08 at one released with abort.  A gang whose data has returned is
READY, a read that returns to a gang that still issues is outstanding no more; a bound gang that issues reads waits for memory with as many
outstanding; a gang whose item completes is free, and its step counts the item; a member's signal of a synchronisation point is
counted, and the last member's releases the point: that of a group span's point when the last device has signalled, and this device's own
signal goes to each of the others when its last member has signalled. -/
def Obligations.EngineControlCompletes : Prop :=
  -- STEP_START
  (∀ (e : Eng) (s s1 : State) (task : Task) (t : Step),
    (s.engs.at e.val).task = some task → s.fetchStep e.val task.pc = (s1, some t) → s.ending e.val = false →
    (∀ r, (s.engs.at e.val).steps.getLast? = some r → r.bound = r.items) → (s.engs.at e.val).steps.length < 4 →
    ((s.engs.at e.val).steps = [] ∨ t.wait = false ∧
      s.overlaps e.val (((innermost (s.engs.at e.val).loops task.pc).map
        (fun l => (s.engs.at e.val).iters.at l.close)).getD 0) t = false) →
    (s1.syncState e.val t.syncIn = .go → ∃ u, exec (.stepStart e) s = .next u ∧
      (u.engs.at e.val).steps.map (·.ix) = (s.engs.at e.val).steps.map (·.ix) ++ [task.pc]) ∧
    (s1.syncState e.val t.syncIn = .wait → exec (.stepStart e) s = .next s) ∧
    (s1.syncState e.val t.syncIn = .fault → exec (.stepStart e) s = .next (s1.stepFault e.val task.pc 0x08 none 0))) ∧
  (∀ (e : Eng) (s s1 : State) (task : Task) (t : Step),
    (s.engs.at e.val).task = some task → s.fetchStep e.val task.pc = (s1, some t) → s.ending e.val = true →
    exec (.stepStart e) s = .next s) ∧
  -- GANG_DATA_RETURN
  (∀ (e : Eng) (g : Fin 128) (s : State), ((s.engs.at e.val).gangs.at g.val).st = .waitMem →
    ∃ u, exec (.gangDataReturn e g) s = .next u ∧
      (u.engs.at e.val).gangs.at g.val = { (s.engs.at e.val).gangs.at g.val with st := .ready, reads := 0 } ∧
      (∀ h, h ≠ g.val → (u.engs.at e.val).gangs.at h = (s.engs.at e.val).gangs.at h) ∧ u = { s with engs := u.engs }) ∧
  (∀ (e : Eng) (g : Fin 128) (n : Nat) (s : State), ((s.engs.at e.val).gangs.at g.val).st = .issuing →
    ((s.engs.at e.val).gangs.at g.val).reads = n + 1 →
    ∃ u, exec (.gangDataReturn e g) s = .next u ∧
      (u.engs.at e.val).gangs.at g.val = { (s.engs.at e.val).gangs.at g.val with reads := n } ∧
      (∀ h, h ≠ g.val → (u.engs.at e.val).gangs.at h = (s.engs.at e.val).gangs.at h) ∧ u = { s with engs := u.engs }) ∧
  -- ENGINE_ISSUE_CYCLE
  (∀ (e : Eng) (g : Fin 128) (n : Fin 17) (s : State), 0 < n.val → n.val ≤ 8 →
    ((s.engs.at e.val).gangs.at g.val).st = .issuing → ((s.engs.at e.val).gangs.at g.val).reads = 0 →
    (∀ h ∈ (s.engs.at e.val).gangs, h.2.st ≠ .bound) → (s.engs.at e.val).outstanding + n.val ≤ 2048 →
    (s.engs.at e.val).steps = [] →
    ∃ u, exec (.engineIssueCycle e [(g, n)] []) s = .next u ∧
      (u.engs.at e.val).gangs.at g.val = { (s.engs.at e.val).gangs.at g.val with st := .waitMem, reads := n.val } ∧
      (∀ h, h ≠ g.val → (u.engs.at e.val).gangs.at h = (s.engs.at e.val).gangs.at h) ∧ u = { s with engs := u.engs }) ∧
  (∀ (e : Eng) (g : Fin 128) (s : State), ((s.engs.at e.val).gangs.at g.val).st = .issuing →
    ∃ u, exec (.engineIssueCycle e [] [g]) s = .next u ∧
      (u.engs.at e.val).steps.map (fun q => (q.num, q.completed)) = (s.engs.at e.val).steps.map (fun q =>
        (q.num, if q.num = ((s.engs.at e.val).gangs.at g.val).run then q.completed + 1 else q.completed))) ∧
  -- SYNC_SIGNAL
  (∀ (sp : SpanIx) (p : Fin 256) (e : Eng) (s : State), bitAt (s.syncMask sp.val p.val) e.val = true →
    ∃ u, exec (.syncSignal sp p (.engine e)) s = .next u ∧
      ((s.spans.at sp.val).group = false →
        ((s.spans.at sp.val).sig.at p.val ||| 2 ^ e.val) &&& s.syncMask sp.val p.val = s.syncMask sp.val p.val →
        (u.spans.at sp.val).rel.at p.val = (s.spans.at sp.val).rel.at p.val + 1 ∧ (u.spans.at sp.val).sig.at p.val = 0) ∧
      (((s.spans.at sp.val).sig.at p.val ||| 2 ^ e.val) &&& s.syncMask sp.val p.val ≠ s.syncMask sp.val p.val →
        (u.spans.at sp.val).rel = (s.spans.at sp.val).rel ∧
        (u.spans.at sp.val).sig.at p.val = (s.spans.at sp.val).sig.at p.val ||| 2 ^ e.val) ∧
      ((s.spans.at sp.val).group = true →
        ((s.spans.at sp.val).sig.at p.val ||| 2 ^ e.val) &&& s.syncMask sp.val p.val = s.syncMask sp.val p.val →
        (s.spans.at sp.val).sig.at p.val &&& s.syncMask sp.val p.val ≠ s.syncMask sp.val p.val →
        ∀ d ∈ s.groupDevs sp.val, ∃ x ∈ u.grp.entries, x.kind = 1 ∧ x.dst = Fin.ofNat 64 d ∧ x.words.tail = [wordOf p.val]) ∧
      ((s.spans.at sp.val).group = false → u.grp = s.grp) ∧
      u = { s with spans := u.spans, grp := { s.grp with entries := u.grp.entries } }) ∧
  (∀ (sp : SpanIx) (p : Fin 256) (d : Fin 64) (s : State), bitAt (s.syncDevs sp.val) d.val = true → (s.spans.at sp.val).group = true →
    (s.spans.at sp.val).syncs.any (fun x => x.1 = p.val) = true →
    (s.spans.at sp.val).sig.at p.val &&& s.syncMask sp.val p.val = s.syncMask sp.val p.val →
    ((s.spans.at sp.val).sigDev.at p.val ||| 2 ^ d.val) &&& s.syncDevs sp.val = s.syncDevs sp.val →
    ∃ u, exec (.syncSignal sp p (.device d)) s = .next u ∧ u = { s with spans := u.spans } ∧
      (u.spans.at sp.val).rel.at p.val = (s.spans.at sp.val).rel.at p.val + 1 ∧ (u.spans.at sp.val).sig.at p.val = 0 ∧
      (u.spans.at sp.val).sigDev.at p.val = 0)

/-- R46, R60: a codebook write while a running step decodes with the codebook, or while earlier writes to it are held, is held, and performed, in
order, when none does any more; one that nothing stands in the way of is performed at once: its bytes stand in the codebook, and no
other byte of memory changes. -/
def Obligations.CodebookWritesComplete : Prop :=
  -- CODEBOOK_WRITE
  (∀ (e : Eng) (cb : Fin 2) (off : Nat) (data : List Byte) (pois : List Bool) (s : State), off + data.length ≤ 524288 →
    (s.decodesWith e.val cb.val = true ∨ (∃ h ∈ (s.engs.at e.val).held, h.cb = cb.val) →
      exec (.codebookWrite e cb off data pois) s = .next (s.engUpd e.val (fun u =>
        { u with held := u.held ++ [⟨cb.val, off, data, pois⟩] }))) ∧
    (s.decodesWith e.val cb.val = false → (∀ h ∈ (s.engs.at e.val).held, h.cb ≠ cb.val) →
      pois = data.map (fun _ => false) → (s.mem.insts.at (2 * 128 + s.siteOf e.val)).patch = [] →
      bitAt (s.fget .MEM_FLIP_CTL F.MEM_FLIP_CTL_ARM) 2 = false →
      ∃ u, exec (.codebookWrite e cb off data pois) s = .next u ∧
        (∀ j, j < data.length → Tab.at u.mem.data (codebookKey (s.siteOf e.val) + cb.val * 524288 + off + j) = nth data j) ∧
        (∀ k, (∀ j, j < data.length → k ≠ codebookKey (s.siteOf e.val) + cb.val * 524288 + off + j) →
          Tab.at u.mem.data k = Tab.at s.mem.data k) ∧
        MemoryActs s u)) ∧
  (∀ (e : Eng) (cb : Fin 2) (off : Nat) (data : List Byte) (pois : List Bool) (s : State), 524288 < off + data.length →
    exec (.codebookWrite e cb off data pois) s = .next (s.reply .error)) ∧
  -- HELD_CODEBOOK_WRITE
  (∀ (e : Eng) (s : State) (h : HeldCb), (s.engs.at e.val).held = [h] →
    (s.decodesWith e.val h.cb = true → exec (.heldCodebookWrite e) s = .next (s.engUpd e.val (fun u => { u with held := [h] }))) ∧
    (s.decodesWith e.val h.cb = false →
      exec (.heldCodebookWrite e) s = .next ((s.engUpd e.val (fun u => { u with held := [] })).codebookPut e.val h)))

/-- R49, R69, R75, R77, R78, R87, R132, R133, R226: where a step faults and where it waits; TOKEN_IN, which can wait; END, which ends the
task. -/
def Obligations.StepsFaultWaitAndEnd : Prop := ScheduleStepFaults ∧ ParityErrorsFault ∧ StepsWaitWhole ∧ TokenInAndEndOfTask

/-- R89, R92, R93, R94, R91: a sequence slot's activation, end, staged entry, history and output ring indices; the reseeding of the
sampling unit. -/
def Obligations.SequenceSlotsComplete : Prop :=
  -- SEQ_ACTIVATE
  (∀ (k : Slot) (s : State),
    (s.slotActive k.val = true → exec (.seqActivate k) s = .next s) ∧
    (s.slotActive k.val = false → ∃ u, exec (.seqActivate k) s = .next u ∧
      u.bget (.GEN_SEQ k) F.GEN_SEQ_ACT = true ∧ u.fget (.GEN_SEQ k) F.GEN_SEQ_END = 0 ∧ u.rget (.GEN_CNT k) = 0 ∧
      (u.slot k.val).hist = [] ∧ (u.slot k.val).gstate = 0 ∧ (u.slot k.val).gstack = [] ∧
      (u.slot k.val).entry = (s.slot k.val).entry ∧ (u.slot k.val).act = s.gen.acts + 1 ∧ (∀ j, j ≠ k.val → u.slot j = s.slot j) ∧
      RegsKept [.GEN_SEQ k, .GEN_CNT k] s u ∧
      u = { s with regs := u.regs, gen := { s.gen with slots := u.gen.slots, acts := s.gen.acts + 1 } })) ∧
  -- SEQ_DEACTIVATE
  (∀ (k : Slot) (s : State),
    (s.slotActive k.val = false → exec (.seqDeactivate k) s = .next s) ∧
    (s.slotActive k.val = true → ∃ u, exec (.seqDeactivate k) s = .next u ∧
      u.bget (.GEN_SEQ k) F.GEN_SEQ_ACT = false ∧ u.fget (.GEN_SEQ k) F.GEN_SEQ_END = 0 ∧
      u.gen = { s.gen with kv := s.gen.kv.filter (fun x => x.1 ≠ k.val) } ∧ RegsKept (.GEN_SEQ k :: memoryRegs) s u ∧
      (s.gen.kv.filter (fun x => x.1 = k.val) = [] → OnlyRegs [.GEN_SEQ k] { s with gen := u.gen } u))) ∧
  -- SAMP_STAGE_WRITE
  (∀ (k : Slot) (w : Fin 8) (v : Word) (s : State), ∃ u, exec (.sampStageWrite k w v) s = .next u ∧
    (∀ j, j < 8 → nth (u.slot k.val).staged j = if j = w.val then v else nth (s.slot k.val).staged j) ∧
    u.slot k.val = { s.slot k.val with staged := (u.slot k.val).staged } ∧ (∀ j, j ≠ k.val → u.slot j = s.slot j) ∧
    u = { s with gen := { s.gen with slots := u.gen.slots } }) ∧
  -- SAMP_GO
  (∀ (v : Word) (s : State) (k : Nat), k = F.GEN_SAMP_GO_SLOT.get v →
    (F.GEN_SAMP_GO_GO.get v = 0 → exec (.sampGo v) s = .next s) ∧
    (F.GEN_SAMP_GO_GO.get v ≠ 0 → entryOk s.gramDefined (s.slot k).staged = false →
      exec (.sampGo v) s = .next (s.bset .GEN_STATUS F.GEN_STATUS_BADSAMP true)) ∧
    (F.GEN_SAMP_GO_GO.get v ≠ 0 → entryOk s.gramDefined (s.slot k).staged = true →
      ∃ u, exec (.sampGo v) s = .next u ∧
        u.slot k = { s.slot k with waiting := some ((List.range 8).map (nth (s.slot k).staged)) } ∧
        (∀ j, j ≠ k → u.slot j = s.slot j) ∧ u = { s with gen := { s.gen with slots := u.gen.slots } })) ∧
  -- HIST_APPEND
  (∀ (k : Slot) (v : Word) (s : State), ∃ u, exec (.histAppend k v) s = .next u ∧
    (u.slot k.val).hist = ((s.slot k.val).hist ++ [v.toNat % 2 ^ 18]).drop ((s.slot k.val).hist.length + 1 - 1024) ∧
    u.slot k.val = { s.slot k.val with hist := (u.slot k.val).hist } ∧ (∀ j, j ≠ k.val → u.slot j = s.slot j) ∧
    u = { s with gen := { s.gen with slots := u.gen.slots } }) ∧
  -- ORING_ADVANCE
  (∀ (k : Slot) (s : State),
    ((s.slot k.val).written = 0 → exec (.oringAdvance k) s = .next s) ∧
    ((s.slot k.val).written ≠ 0 → ∃ u, exec (.oringAdvance k) s = .next u ∧
      (u.rget (.GEN_ORING_WR k)).toNat = ((s.rget (.GEN_ORING_WR k)).toNat + 1) % 2 ^ 32 ∧
      u.slot k.val = { s.slot k.val with written := (s.slot k.val).written - 1 } ∧ RegsKept [.GEN_ORING_WR k] s u ∧
      u = { s with regs := u.regs, gen := { s.gen with slots := u.gen.slots } })) ∧
  -- ORING_READ_ADVANCE
  (∀ (k : Slot) (v : Word) (s : State),
    ((s.rget (.GEN_ORING_WR k) - s.rget (.GEN_ORING_RD k)).toNat < (v - s.rget (.GEN_ORING_RD k)).toNat →
      exec (.oringReadAdvance k v) s = .next s) ∧
    ((v - s.rget (.GEN_ORING_RD k)).toNat ≤ (s.rget (.GEN_ORING_WR k) - s.rget (.GEN_ORING_RD k)).toNat →
      (s.slot k.val).heldRec = none → exec (.oringReadAdvance k v) s = .next (s.rset (.GEN_ORING_RD k) v)) ∧
    (∀ r tok b n a s1, (v - s.rget (.GEN_ORING_RD k)).toNat ≤ (s.rget (.GEN_ORING_WR k) - s.rget (.GEN_ORING_RD k)).toNat →
      (s.slot k.val).heldRec = some (r, tok) → s.oring k.val = some (b, n) →
      (s.rset (.GEN_ORING_RD k) v).oringUsed k.val < n →
      a = b + ((s.rget (.GEN_ORING_WR k)).toNat + (s.slot k.val).written) % 2 ^ 32 % n * 8 →
      (s.rset (.GEN_ORING_RD k) v).pass .hub (s.slot k.val).ticket false a 8 = .ok s1 →
      ∃ u, exec (.oringReadAdvance k v) s = .next u ∧ u.rget (.GEN_ORING_RD k) = v ∧
        (u.slot k.val).heldRec = none ∧ (u.slot k.val).port = some tok ∧
        (u.slot k.val).written = (s.slot k.val).written + 1 ∧ MemoryActs { s1 with gen := u.gen } u)) ∧
  -- SAMPLER_RESEED
  (∀ s : State,
    (s.gen.draws < 2 ^ 20 → exec .samplerReseed s = .next s) ∧
    (2 ^ 20 ≤ s.gen.draws → exec .samplerReseed s = .next { s with gen := { s.gen with draws := 0, seeds := s.gen.seeds + 1 } }))

/-- R90, R91, R93, R94, R96: the sampling unit waits until a slot's logits and mask are complete; it then chooses a token, one of those that the
grammar allows when it allows any; the token joins the slot's history and is counted, and the logits and the mask are those of a
step that is over.  A grammar mask that allows nothing faults the slot with 0x09; any other is the slot's mask of this step. -/
def Obligations.TokensAreChosenAmongTheAllowed : Prop :=
  -- TOKEN_CHOOSE
  (∀ (k : Slot) (s : State), s.tokenReady k.val = false → exec (.tokenChoose k) s = .next s) ∧
  (∀ (k : Slot) (s : State) (allowed : List Nat), s.tokenReady k.val = true →
    allowed = (match (s.slot k.val).gram with
      | none => List.range s.vocab
      | some _ => (s.slot k.val).mask.getD []) →
    ∃ u tok, exec (.tokenChoose k) s = .next u ∧ (allowed ≠ [] → tok ∈ allowed) ∧
      (u.slot k.val).hist = ((s.slot k.val).hist ++ [tok]).drop ((s.slot k.val).hist.length + 1 - 1024) ∧
      (u.slot k.val).logits = [] ∧ (u.slot k.val).mask = none ∧
      u.fget (.GEN_CNT k) F.GEN_CNT_TOKENS = (s.fget (.GEN_CNT k) F.GEN_CNT_TOKENS + 1) % 2 ^ F.GEN_CNT_TOKENS.len ∧
      RegsKept ([.GEN_SEQ k, .GEN_CNT k, .GEN_STATUS] ++ memoryRegs) s u) ∧
  -- GRAMMAR_MASK_DONE
  (∀ (k : Slot) (s s1 : State) (l : List Nat), s.slotActive k.val = true → (s.slot k.val).gram.isSome = true →
    s.bget .GEN_CTL F.GEN_CTL_GRAM_EN = true → s.gen.gramOn = true → (s.slot k.val).mask = none →
    s.gramMask k.val = (s1, l) →
    (∀ e i, l = [] → s1.slotTask k.val = some (e, i) →
      exec (.grammarMaskDone k) s = .next (s1.slotFault e i 0x09 k.val)) ∧
    (l ≠ [] → ∃ u, exec (.grammarMaskDone k) s = .next u ∧ u.slot k.val = { s.slot k.val with mask := some l } ∧
      (∀ j, j ≠ k.val → u.slot j = s.slot j) ∧ MemoryActs { s with gen := u.gen } u))

/-- R103, R107, R129: ENG_CTL.FENCE, a control parity error and a power-gate fault fence their site: an ACTIVE one becomes ABSENT_FAILED
with a fault record of code 0x07 for its engine, a SPARE one BAD; the mapping is appended to the defect log where the boot flash takes
it, a spare in SUBST as SPARE; the site's source of the die is raised.  A site that is ABSENT_FAILED, RETIRED or BAD stays what it is. -/
def FencingOfSites : Prop :=
  ∀ (k : Site) (ok : Bool) (s : State),
    ∀ c ∈ [(Instr.engFence k 1 ok, 0), (.controlParityError k ok, 5), (.powerGateFault k ok, 5)],
      (s.siteState k.val = 0 → ∃ u, exec c.1 s = .next u ∧ u.siteState k.val = 2 ∧ (u.sites.at k.val).isolated = true ∧
        1 ≤ (u.icu.src.at (64 + k.val / 16 * 24 + k.val % 16)).count ∧
        (∀ j, j ≠ k.val → j < 128 → u.siteState j = s.siteState j) ∧
        (ok = true → u.log.recs.length < 131072 → ∃ x ∈ u.log.recs, x.typ = 0x01 ∧ x.cause = c.2 ∧
          x.b = (u.rget (.CDI_MAP (siteDie k.val) (siteRow k.val))).toNat % 2 ^ 20) ∧
        (∀ e, s.engineAt k.val = some e → s.siteOf e = k.val → u.absent e = true ∧ (u.engs.at e).task = none ∧
          u.rget (.ENG_FAULT k 0) = wordOf (faultRecord 0x07 e (s.engs.at e).stepNow none 0)) ∧
        u.fuses = s.fuses ∧ u.flash = s.flash) ∧
      (s.siteState k.val = 1 → ∃ u, exec c.1 s = .next u ∧ u.siteState k.val = 4 ∧ (u.sites.at k.val).isolated = true ∧
        Raised (64 + k.val / 16 * 24 + k.val % 16) s u ∧
        (s.logRoom ok = true → u.log.recs = s.log.recs ++ [⟨0x01, c.2, k.val / 16 + 1 + k.val % 16 / 4 * 16,
          (u.rget (.CDI_MAP (siteDie k.val) (siteRow k.val))).toNat % 2 ^ 20, 0, false⟩]) ∧
        RegsKept ([.CDI_MAP (siteDie k.val) (siteRow k.val), .BUP_STAT] ++ signalRegs) s u ∧
        u = { s with
          regs := u.regs
          icu := u.icu
          sites := u.sites
          log := u.log
          fns := u.fns
          grp := { s.grp with entries := u.grp.entries }
          ldp := { s.ldp with released := u.ldp.released }
          outbox := u.outbox }) ∧
      (2 ≤ s.siteState k.val → s.siteState k.val ≤ 4 → exec c.1 s = .next s)

/-- R107, R108, R128: a heartbeat check in Run clears the misses of the sites that were heard, counts one that was not and raises source 17 of the die,
and at a second miss in succession fences an ACTIVE site while HB_EN is 1; a fault of one of the die's routers fences the die; a die that is not in Run is not checked. -/
def HeartbeatsAreChecked : Prop :=
  (∀ (d : Die) (m : Fin 65536) (router ok : Bool) (s : State), s.dieRuns d.val = false → exec (.heartbeatCheck d (m, router) ok) s = .next s) ∧
  (∀ (d : Die) (ok : Bool) (s : State), s.dieRuns d.val = true →
    ∃ u, exec (.heartbeatCheck d (0, false) ok) s = .next u ∧ u = { s with sites := u.sites } ∧
      ∀ i, i < 16 → s.siteState (d.val * 16 + i) ≤ 1 → (u.sites.at (d.val * 16 + i)).missed = 0) ∧
  (∀ (d : Die) (i : Fin 16) (ok : Bool) (s : State), s.dieRuns d.val = true → s.siteState (d.val * 16 + i.val) = 0 →
    (s.sites.at (d.val * 16 + i.val)).missed = 0 →
    ∃ u, exec (.heartbeatCheck d (Fin.ofNat 65536 (2 ^ i.val), false) ok) s = .next u ∧
      (u.sites.at (d.val * 16 + i.val)).missed = 1 ∧ Raised (64 + d.val * 24 + 17) s u ∧
      u.fget (.CDI_HB_MISS d) F.CDI_HB_MISS_MISS =
        min (s.fget (.CDI_HB_MISS d) F.CDI_HB_MISS_MISS + 1) (2 ^ F.CDI_HB_MISS_MISS.len - 1) ∧
      Signals ((s.cnt (.CDI_HB_MISS d) F.CDI_HB_MISS_MISS 1).siteUpd (d.val * 16 + i.val) (fun x => { x with missed := 1 }))
        { u with sites := s.sites.upd (d.val * 16 + i.val) (fun x => { x with missed := 1 }) }) ∧
  (∀ (d : Die) (i : Fin 16) (ok : Bool) (s : State), s.dieRuns d.val = true → s.siteState (d.val * 16 + i.val) = 0 →
    1 ≤ (s.sites.at (d.val * 16 + i.val)).missed → s.bget (.CDI_CTL d) F.CDI_CTL_HB_EN = true →
    ∃ u, exec (.heartbeatCheck d (Fin.ofNat 65536 (2 ^ i.val), false) ok) s = .next u ∧
      u.siteState (d.val * 16 + i.val) = 2) ∧
  (∀ (d : Die) (m : Fin 65536) (ok : Bool) (s : State), s.dieRuns d.val = true →
    ∃ u, exec (.heartbeatCheck d (m, true) ok) s = .next u ∧ u.dieFenced (d.val + 1) = true ∧
      ∀ k, k < 12 → u.absent (d.val * 12 + k) = true ∧ (u.engs.at (d.val * 12 + k)).task = none)

/-- R110 to R113: CDI_ROW_SUBST ends with BUSY, NONE FAILED or NO SPARE, with source 16 of the die raised, or puts the row's spare into
SUBST; once the record of the new mapping is in the defect log, the slot is on the spare, which is ACTIVE, its old site is RETIRED and the
result is DONE; when the boot flash does not take it, the spare returns to SPARE with the result LOG_FAIL. -/
def Obligations.RowSubstitution : Prop :=
  -- ROW_SUBST
  (∀ (d : Die) (v : Word) (busy : Bool) (s : State) (r : Nat), r = F.CDI_ROW_SUBST_ROW.get v →
    (F.CDI_ROW_SUBST_GO.get v = 0 → exec (.rowSubst d v busy) s = .next s) ∧
    ((s.subst.at (d.val * 4 + r)).isSome = true → exec (.rowSubst d v busy) s = .next s) ∧
    (F.CDI_ROW_SUBST_GO.get v = 1 → s.subst.at (d.val * 4 + r) = none →
      (∀ x, x = (if busy || (List.range 3).any (fun k => (s.engs.at (d.val * 12 + r * 3 + k)).task.isSome) then 3
          else if s.failedSlot d.val r = none then 4 else 5) →
        (busy = true ∨ (List.range 3).any (fun k => (s.engs.at (d.val * 12 + r * 3 + k)).task.isSome) = true ∨ s.failedSlot d.val r = none ∨
          mapSpare (s.rget (mapReg d.val r)) = none) →
        ∃ u, exec (.rowSubst d v busy) s = .next u ∧ u.fget (.CDI_SUBST_STAT d) ⟨4 * r, 4⟩ = x ∧
          Raised (64 + d.val * 24 + 16) s u ∧ Signals (s.fset (.CDI_SUBST_STAT d) ⟨4 * r, 4⟩ x) u) ∧
      (∀ k c, busy = false → (∀ j, j < 3 → (s.engs.at (d.val * 12 + r * 3 + j)).task = none) →
        s.failedSlot d.val r = some k → mapSpare (s.rget (mapReg d.val r)) = some c →
        ∃ u, exec (.rowSubst d v busy) s = .next u ∧ mapState (u.rget (mapReg d.val r)) c = 5 ∧
          u.subst.at (d.val * 4 + r) = some k ∧ u.fget (.CDI_SUBST_STAT d) ⟨4 * r, 4⟩ = 1 ∧
          RegsKept [mapReg d.val r, .CDI_SUBST_STAT d] s u ∧ u = { s with regs := u.regs, subst := u.subst }))) ∧
  -- SUBST_PORT_BIND
  (∀ (d : Die) (r : Fin 4) (ok : Bool) (s : State) (k c e : Nat), k < 3 → s.subst.at (d.val * 4 + r.val) = some k →
    (List.range 4).find? (fun c => mapState (s.rget (mapReg d.val r.val)) c = 5) = some c →
    e = d.val * 12 + r.val * 3 + k → s.siteOf e % 4 ≠ c →
    (s.logRoom ok = true → ∃ u, exec (.substPortBind d r ok) s = .next u ∧
      u.siteOf e = d.val * 16 + r.val * 4 + c ∧ u.siteState (u.siteOf e) = 0 ∧ u.siteState (s.siteOf e) = 3 ∧
      u.fget (.CDI_SUBST_STAT d) ⟨4 * r.val, 4⟩ = 2 ∧ u.subst.at (d.val * 4 + r.val) = none ∧
      ∃ x ∈ u.log.recs, x.typ = 0x01 ∧ x.cause = 0 ∧ x.b = (u.rget (mapReg d.val r.val)).toNat % 2 ^ 20) ∧
    (s.logRoom ok = false → ∃ u, exec (.substPortBind d r ok) s = .next u ∧
      u.siteState (d.val * 16 + r.val * 4 + c) = 1 ∧ u.siteOf e = s.siteOf e ∧
      u.fget (.CDI_SUBST_STAT d) ⟨4 * r.val, 4⟩ = 7 ∧ u.bget .BUP_STAT F.BUP_STAT_LOG_FAIL = true ∧
      u.log.recs = s.log.recs))

/-- A multicast of `n` bytes for the slots of `mask` enters compute die `d` (R120): by the edge router of its first slot, or it waits. -/
def mcastEntersDie (s : State) (d mask off n : Nat) : Except Hold State :=
  s.eachUnit off n (fun s b part =>
    s.crossBy .hub false part none [s.entryBundle (d + 1) (s.engHalf (d * 12 + ((List.range 12).filter (bitAt mask)).headD 0)) b])

/-- R117, R120, R121, R128, R305: a change of EDGE_SEL waits for each engine's transfers and is then applied; a multicast copy to an absent slot
is skipped, counted and raises source 19 of the die, and to another is stored, once the packet has crossed into the die; the package-wide barrier is released by its last arrival,
and the release makes waiting gangs ready; the stall of a die's seam is counted and raises source 20 as it passes 2^16. -/
def Obligations.DieFabricCompletes : Prop :=
  -- EDGE_SEL_WRITE
  (∀ (d : Die) (v : Word) (s : State), ∃ u, exec (.edgeSelWrite d v) s = .next u ∧
    u.fget (.CDI_CTL d) F.CDI_CTL_EDGE_SEL = F.CDI_CTL_EDGE_SEL.get v ∧
    u.fget (.CDI_CTL d) F.CDI_CTL_AUTO_SUBST = F.CDI_CTL_AUTO_SUBST.get v ∧
    u.fget (.CDI_CTL d) F.CDI_CTL_HB_EN = F.CDI_CTL_HB_EN.get v ∧
    (s.fget (.CDI_CTL d) F.CDI_CTL_EDGE_SEL ≠ F.CDI_CTL_EDGE_SEL.get v →
      ∀ k, k < 12 → (u.engs.at (d.val * 12 + k)).edgeWait = true) ∧
    RegsKept [.CDI_CTL d] s u ∧ u = { s with regs := u.regs, engs := u.engs }) ∧
  -- EDGE_SEL_APPLY
  (∀ (e : Eng) (s : State),
    ((s.engs.at e.val).edgeWait = false → exec (.edgeSelApply e) s = .next s) ∧
    ((s.engs.at e.val).edgeWait = true → ∃ u, exec (.edgeSelApply e) s = .next u ∧
      u.engs.at e.val = { s.engs.at e.val with
        edgeWait := false, edge := s.bget (.CDI_CTL (engDie e.val)) F.CDI_CTL_EDGE_SEL } ∧
      (∀ j, j ≠ e.val → u.engs.at j = s.engs.at j) ∧ u = { s with engs := u.engs })) ∧
  -- MCAST_DELIVER: the packet waits while a bundle that it must cross takes no request
  (∀ (d : Die) (mask : Fin 4096) (off : Nat) (data : List Byte) (pois : List Bool) (lost : Fin 4096) (w : Hold) (s : State),
    mcastEntersDie s d.val mask.val off data.length = .error w →
      exec (.mcastDeliver d mask off data pois lost) s = .next s) ∧
  -- MCAST_DELIVER: it enters at once while none of the die's bundles waits, and each slot that takes no copy is counted
  (∀ (d : Die) (mask : Fin 4096) (off : Nat) (data : List Byte) (pois : List Bool) (lost : Fin 4096) (s : State),
    (∀ p ∈ bundlesOf (d.val + 1), s.bundleState p ≠ 3 ∧ (s.dirOf p 0).asked = [] ∧ (s.dirOf p 0).writes = []) →
      ∃ u, exec (.mcastDeliver d mask off data pois lost) s = .next u ∧
        u.fget (.CDI_MCAST_SKIP d) F.CDI_MCAST_SKIP_SKIP = min (s.fget (.CDI_MCAST_SKIP d) F.CDI_MCAST_SKIP_SKIP +
          ((List.range 12).filter (fun k => bitAt mask.val k && (s.absent (d.val * 12 + k) || bitAt lost.val k))).length)
            (2 ^ F.CDI_MCAST_SKIP_SKIP.len - 1)) ∧
  -- MCAST_DELIVER, to one slot of the mask
  (∀ (d : Die) (k : Fin 12) (off : Nat) (data : List Byte) (pois : List Bool) (lost : Fin 4096) (s s1 : State),
    mcastEntersDie s d.val (2 ^ k.val) off data.length = .ok s1 →
    ((s.absent (d.val * 12 + k.val) = true ∨ bitAt lost.val k.val = true) →
      ∃ u, exec (.mcastDeliver d (Fin.ofNat 4096 (2 ^ k.val)) off data pois lost) s = .next u ∧
        Raised (64 + d.val * 24 + 19) s u ∧ Signals (s1.cnt (.CDI_MCAST_SKIP d) F.CDI_MCAST_SKIP_SKIP 1) u) ∧
    (∀ t, s.absent (d.val * 12 + k.val) = false → bitAt lost.val k.val = false →
      s1.lay .hub (storeAddr (d.val * 12 + k.val) off) data pois = .ok t () →
      exec (.mcastDeliver d (Fin.ofNat 4096 (2 ^ k.val)) off data pois lost) s = .next t.settle)) ∧
  (∀ (d : Die) (k : Fin 12) (off : Nat) (data : List Byte) (lost : Fin 4096) (s : State) (a : Nat),
    a = storeAddr (d.val * 12 + k.val) off → s.absent (d.val * 12 + k.val) = false → bitAt lost.val k.val = false →
    Undisturbed s → Readable s a data.length → s.ctxGuard .hub a data.length = false →
    ∃ t, exec (.mcastDeliver d (Fin.ofNat 4096 (2 ^ k.val)) off data (data.map (fun _ => false)) lost) s = .next t ∧
      (∀ o j, rangeOf a = .store (d.val * 12 + k.val) o → (o + data.length - 1) / 262144 = o / 262144 → j < data.length →
        Tab.at t.mem.data ((s.localCell (s.siteOf (d.val * 12 + k.val)) o).key + j) = nth data j) ∧
      (∀ i, Tab.at t.mem.syn i = 0) ∧ t.spans = s.spans ∧ t.engs = s.engs) ∧
  -- BARRIER_ARRIVE
  (∀ (e : Eng) (s : State) (a : Nat), a = s.barrier.arrived ||| 2 ^ e.val → bitAt s.barrierMembers e.val = true →
    (a &&& s.barrierMembers = s.barrierMembers → ∃ u, exec (.barrierArrive e) s = .next u ∧
      u.barrier = ⟨0, s.barrier.released ||| a⟩ ∧ (∀ g ∈ (u.engs.at e.val).gangs, g.2.st ≠ .issuing) ∧
      u.chain = { s.chain with waiting := s.chain.waiting ++
        [(0, { cls := 0x1, toSpan := false, dest := 0, src := 0, tag := 0, words := [], lanes := s.allLanes })] } ∧
      u = { s with barrier := u.barrier, engs := u.engs, chain := u.chain }) ∧
    (a &&& s.barrierMembers ≠ s.barrierMembers → ∃ u, exec (.barrierArrive e) s = .next u ∧
      u.barrier = ⟨a, s.barrier.released⟩ ∧ (∀ g ∈ (u.engs.at e.val).gangs, g.2.st ≠ .issuing) ∧
      u = { s with barrier := u.barrier, engs := u.engs })) ∧
  (∀ (e : Eng) (s : State), bitAt s.barrierMembers e.val = false → exec (.barrierArrive e) s = .next s) ∧
  -- BARRIER_RELEASE
  (∀ (e : Eng) (s : State),
    (bitAt s.barrier.released e.val = false → exec (.barrierRelease e) s = .next s) ∧
    (bitAt s.barrier.released e.val = true → ∃ u, exec (.barrierRelease e) s = .next u ∧
      u.barrier = ⟨s.barrier.arrived, s.barrier.released - 2 ^ e.val⟩ ∧
      (∀ g ∈ (u.engs.at e.val).gangs, g.2.st ≠ .waitSync) ∧ u = { s with barrier := u.barrier, engs := u.engs })) ∧
  -- SEAM_STALL_ALERT
  (∀ (d : Die) (n : Nat) (s : State), ∃ u, exec (.seamStallAlert d n) s = .next u ∧
    u.fget (.CDI_SEAM_STALL d) F.CDI_SEAM_STALL_STALL =
      min (s.fget (.CDI_SEAM_STALL d) F.CDI_SEAM_STALL_STALL + n) (2 ^ F.CDI_SEAM_STALL_STALL.len - 1) ∧
    ((s.rget (.CDI_SEAM_STALL d)).toNat ≤ 65536 → 65536 < (s.rget (.CDI_SEAM_STALL d)).toNat + n →
      Raised (64 + d.val * 24 + 20) s u) ∧
    Signals (s.cnt (.CDI_SEAM_STALL d) F.CDI_SEAM_STALL_STALL n) u)

/-- R103, R107, R128, R129: sites are fenced, and their heartbeats checked. -/
def Obligations.SitesAreWatchedAndFenced : Prop := FencingOfSites ∧ HeartbeatsAreChecked

/-- R36, R132: a doorbell of a span that runs starts a task at entry point `v[1:0]` on an idle engine, and is queued behind the task of
a busy one; one of an idle or faulted span is held; one of any other is dropped and counted. -/
def DoorbellsAreDelivered : Prop :=
  -- DOORBELL
  (∀ (sp : SpanIx) (v : Word) (tk : Ticket) (s : State) (e p : Nat), s.groupTops sp.val = [] →
    (s.spans.at sp.val).st = .running → s.subtree sp.val = [sp.val] → (s.spans.at sp.val).members = [.engine e] →
    s.absent e = false → nth (s.engs.at e).entries (v.toNat % 4) = p → v.toNat % 4 < (s.engs.at e).entries.length → p ≠ 0xFFFF →
    ((s.engs.at e).task = none → s.substBusy e = false →
      ∃ u, exec (.doorbell sp v tk) s = .next u ∧
        ((u.engs.at e).task.map (fun t => (t.pc, t.ticket, t.span))) = some (p, s.taskTicket tk.val, sp.val) ∧
        (∀ j, j ≠ e → u.engs.at j = s.engs.at j) ∧ u = { s with engs := u.engs, sites := u.sites }) ∧
    ((s.engs.at e).task.isSome = true → (s.engs.at e).dbq.length < 16 →
      ∃ u, exec (.doorbell sp v tk) s = .next u ∧
        u.engs.at e = { s.engs.at e with dbq := (s.engs.at e).dbq ++ [(v.toNat, s.taskTicket tk.val + 16 * sp.val)] } ∧
        (∀ j, j ≠ e → u.engs.at j = s.engs.at j) ∧ u = { s with engs := u.engs })) ∧
  (∀ (sp : SpanIx) (v : Word) (tk : Ticket) (s : State), s.groupTops sp.val = [] →
    (((s.spans.at sp.val).st = .idle ∨ (s.spans.at sp.val).st = .faulted) →
      ∃ u, exec (.doorbell sp v tk) s = .next u ∧
        u.spans.at sp.val = { s.spans.at sp.val with held := some (v.toNat, s.taskTicket tk.val + 16) } ∧
        (∀ j, j ≠ sp.val → u.spans.at j = s.spans.at j) ∧ u = { s with spans := u.spans }) ∧
    (((s.spans.at sp.val).st = .empty ∨ (s.spans.at sp.val).st = .loading ∨ (s.spans.at sp.val).st = .draining ∨
        (s.spans.at sp.val).st = .stopping) →
      ∃ u, exec (.doorbell sp v tk) s = .next u ∧
        u.fget .CFG_SPAN_ERR F.CFG_SPAN_ERR_DB_DROP =
          min (s.fget .CFG_SPAN_ERR F.CFG_SPAN_ERR_DB_DROP + 1) (2 ^ F.CFG_SPAN_ERR_DB_DROP.len - 1) ∧
        OnlyRegs [.CFG_SPAN_ERR] s u))

/-- R30, R34, R36: a command to a group span, and a doorbell of one, goes with its ticket to each other device that holds units of it; the span
becomes IDLE once the units here and those of the other devices that are not lost are quiet, and its hub has told them of its own.
The form of the messages is the model's choice (log entry 99). -/
def GroupSpansReachOtherDevices : Prop :=
  (∀ (sp : SpanIx) (v : Word) (tk : Ticket) (s : State) (d : Nat), s.groupTops sp.val = [sp.val] → s.groupDevs sp.val = [d] →
    (s.spans.at sp.val).group = true → ((s.spans.at sp.val).st = .idle ∨ (s.spans.at sp.val).st = .faulted) →
    ∃ u, exec (.doorbell sp v tk) s = .next u ∧
      (u.spans.at sp.val).held = some (v.toNat, s.taskTicket tk.val + 16) ∧
      u.grp.entries = (s.chainTo d 0x3 sp.val [8 + s.taskTicket tk.val * 16, v.toNat]).grp.entries) ∧
  (∀ (sp : SpanIx) (s : State) (d : Nat), s.groupTops sp.val = [sp.val] → s.groupDevs sp.val = [d] →
    (s.spans.at sp.val).group = true →
    (∀ c ∈ [(Instr.spanStop sp, 2), (.spanDrain sp, 3), (.spanSnapshot sp, 4), (.spanClear sp, 5), (.spanUnload sp, 6)], ∃ u, exec c.1 s = .next u ∧
      (s.chainTo d 0x3 sp.val [c.2, 0]).grp.entries <+: u.grp.entries) ∧
    (∀ (arg : Fin 4) (tk : Ticket), ∃ u, exec (.spanStart sp arg tk) s = .next u ∧
      (s.chainTo d 0x3 sp.val [1 + s.taskTicket tk.val * 16, arg.val]).grp.entries <+: u.grp.entries)) ∧
  (∀ (sp : SpanIx) (s : State) (d : Nat), s.groupTops sp.val = [sp.val] → s.groupDevs sp.val = [d] →
    (s.spans.at sp.val).group = true → (s.spans.at sp.val).st = .stopping →
    (∀ l ∈ s.leavesOf sp.val, s.quiet false l = true) →
    (bitAt (s.spans.at sp.val).drained (s.fget .LNK_GRP F.LNK_GRP_DEVNUM) = false → d ≠ s.fget .LNK_GRP F.LNK_GRP_DEVNUM →
      ∃ u, exec (.spanQuiet sp) s = .next u ∧ u.grp.entries = (s.chainTo d 0xD sp.val [0, 0]).grp.entries ∧
        ((u.spans.at sp.val).st = .idle ↔ (s.devLost d = true ∨ bitAt (s.spans.at sp.val).drained d = true))) ∧
    (bitAt (s.spans.at sp.val).drained (s.fget .LNK_GRP F.LNK_GRP_DEVNUM) = true → s.devLost d = false →
      bitAt (s.spans.at sp.val).drained d = false → exec (.spanQuiet sp) s = .next s))

/-- R133: a read of an event ring pops its oldest entry, and the ring's line stands for the entries that are left; an empty ring reads
0 and nothing changes. -/
def EventRingsPopOldestFirst : Prop :=
  -- EVENT_RING_POP
  (∀ (t : Tgt) (s : State), (s.rings.at t.val).ents = [] → exec (.eventRingPop t) s = .next (s.reply (.word 0))) ∧
  (∀ (t : Tgt) (s : State) (x : Nat) (l : List Nat), (s.rings.at t.val).ents = x :: l →
    ∃ u, exec (.eventRingPop t) s = .next u ∧ u.resp = .word (wordOf x) ∧ (u.rings.at t.val).ents = l ∧
      (∀ j, j ≠ t.val → u.rings.at j = s.rings.at j) ∧ (u.icu.src.at (32 + t.val)).line = !l.isEmpty ∧
      Signals ({ s with rings := u.rings }.reply (.word (wordOf x))) u)

/-- R131: START, STOP, DRAIN, CLEAR and UNLOAD of a span whose whole subtree accepts them. -/
def SpanCommandsComplete : Prop :=
  -- SPAN_START: every entry runs, and an idle engine begins at the entry point
  (∀ (sp : SpanIx) (arg : Fin 4) (tk : Ticket) (s : State), s.groupTops sp.val = [] → sp.val ∈ s.subtree sp.val →
    (∀ j ∈ s.subtree sp.val, stIdle (s.spans.at j).st = true ∧ s.underLoading j = false ∧ (s.spans.at j).held = none) →
    (∀ e ∈ s.entryEngines (s.subtree sp.val), s.substBusy e = false) →
    ∃ u, exec (.spanStart sp arg tk) s = .next u ∧
      (∀ j ∈ s.subtree sp.val, (u.spans.at j).st = .running ∧ (u.spans.at j).fault = 0) ∧
      (∀ j, j ∉ s.subtree sp.val → u.spans.at j = s.spans.at j) ∧
      (∀ e, s.entryEngines (s.subtree sp.val) = [e] → (s.engs.at e).task = none → s.absent e = false →
        arg.val < (s.engs.at e).entries.length → nth (s.engs.at e).entries arg.val ≠ 0xFFFF →
        (u.engs.at e).task.map (fun t => (t.pc, t.ticket, t.span)) =
          some (nth (s.engs.at e).entries arg.val, s.taskTicket tk.val, sp.val)) ∧
      RegsKept [.CFG_SPAN_ERR] s u ∧ u = { s with regs := u.regs, spans := u.spans, engs := u.engs, sites := u.sites }) ∧
  -- SPAN_STOP
  (∀ (sp : SpanIx) (s : State), s.groupTops sp.val = [] → sp.val ∈ s.subtree sp.val →
    (∀ j ∈ s.subtree sp.val, stBusy (s.spans.at j).st = true ∧ s.underLoading j = false) →
    ∃ u, exec (.spanStop sp) s = .next u ∧ (∀ j ∈ s.subtree sp.val, (u.spans.at j).st = .stopping) ∧
      (∀ e ∈ s.entryEngines (s.subtree sp.val), (u.engs.at e).task = none ∧ (u.engs.at e).steps = [] ∧
        (u.engs.at e).gangs = [] ∧ (u.engs.at e).dbq = []) ∧
      u.image = s.image ∧ u.fuses = s.fuses) ∧
  -- SPAN_DRAIN
  (∀ (sp : SpanIx) (s : State), s.groupTops sp.val = [] → sp.val ∈ s.subtree sp.val →
    (∀ j ∈ s.subtree sp.val, (s.spans.at j).st = .running ∧ s.underLoading j = false) →
    ∃ u, exec (.spanDrain sp) s = .next u ∧
      (∀ j ∈ s.subtree sp.val, u.spans.at j = { s.spans.at j with st := .draining }) ∧
      (∀ j, j ∉ s.subtree sp.val → u.spans.at j = s.spans.at j) ∧ u = { s with spans := u.spans }) ∧
  -- SPAN_CLEAR
  (∀ (sp : SpanIx) (s : State), s.groupTops sp.val = [] → sp.val ∈ s.subtree sp.val →
    (∀ j ∈ s.subtree sp.val, stIdle (s.spans.at j).st = true ∧ s.underLoading j = false) →
    ∃ u, exec (.spanClear sp) s = .next u ∧
      (∀ j ∈ s.subtree sp.val, u.spans.at j = { s.spans.at j with st := .idle, fault := 0 }) ∧
      (∀ j, j ∉ s.subtree sp.val → u.spans.at j = s.spans.at j) ∧
      (∀ e ∈ s.entryEngines (s.subtree sp.val), ∀ p : Fin 5, u.rget (.ENG_ARITH (Fin.ofNat 128 (s.siteOf e)) p) = 0) ∧
      RegsKept ((s.entryEngines (s.subtree sp.val)).flatMap (fun e =>
        (List.finRange 5).map (fun p => .ENG_ARITH (Fin.ofNat 128 (s.siteOf e)) p))) s u ∧
      u = { s with regs := u.regs, spans := u.spans, retr := u.retr }) ∧
  -- SPAN_UNLOAD
  (∀ (sp : SpanIx) (s : State), s.groupTops sp.val = [] → sp.val ∈ s.subtree sp.val →
    (∀ j ∈ s.subtree sp.val, stIdle (s.spans.at j).st = true ∧ s.underLoading j = false) →
    ∃ u, exec (.spanUnload sp) s = .next u ∧ (∀ j ∈ s.subtree sp.val, u.spans.at j = default) ∧
      (∀ e ∈ s.entryEngines (s.subtree sp.val), (u.engs.at e).entries = [] ∧ (u.engs.at e).contexts = 0) ∧
      (∀ x ∈ u.image.routes, x.2.span ∉ s.subtree sp.val) ∧ (∀ x ∈ u.image.parts, x.2.span ∉ s.subtree sp.val) ∧
      (0 ∈ s.subtree sp.val → u.image.loaded = false ∧ u.rget .CFG_LOAD_ID = 0) ∧ u.mem = s.mem ∧ u.fuses = s.fuses)

/-- R131: a command of a span in a state that does not accept it is not performed and sets CMD_ERR; an entry that drains or stops
becomes IDLE once every leaf of it is quiet, and stays while one is not. -/
def SpanCommandsTurnedAwayAndQuiet : Prop :=
  (∀ (sp : SpanIx) (arg : Fin 4) (tk : Ticket) (s : State), s.groupTops sp.val = [] →
    (stIdle (s.spans.at sp.val).st = false →
      (∃ u, exec (.spanStart sp arg tk) s = .next u ∧ u.bget .CFG_SPAN_ERR F.CFG_SPAN_ERR_CMD_ERR = true ∧
        OnlyRegs [.CFG_SPAN_ERR] s u) ∧
      (∃ u, exec (.spanClear sp) s = .next u ∧ u.bget .CFG_SPAN_ERR F.CFG_SPAN_ERR_CMD_ERR = true ∧
        OnlyRegs [.CFG_SPAN_ERR] s u)) ∧
    ((s.spans.at sp.val).st ≠ .running →
      ∃ u, exec (.spanDrain sp) s = .next u ∧ u.bget .CFG_SPAN_ERR F.CFG_SPAN_ERR_CMD_ERR = true ∧
        OnlyRegs [.CFG_SPAN_ERR] s u)) ∧
  -- SPAN_QUIET
  (∀ (sp : SpanIx) (s : State), (s.spans.at sp.val).st = .draining ∨ (s.spans.at sp.val).st = .stopping →
    (s.groupTops sp.val = [] → (∀ l ∈ s.leavesOf sp.val, s.quiet (decide ((s.spans.at sp.val).st = .draining)) l = true) →
      ∃ u, exec (.spanQuiet sp) s = .next u ∧ u.spans.at sp.val = { s.spans.at sp.val with st := .idle } ∧
        (∀ j, j ≠ sp.val → u.spans.at j = s.spans.at j) ∧ u = { s with spans := u.spans, retr := u.retr }) ∧
    ((∃ l ∈ s.leavesOf sp.val, s.quiet (decide ((s.spans.at sp.val).st = .draining)) l = false) →
      exec (.spanQuiet sp) s = .next s)) ∧
  (∀ (sp : SpanIx) (s : State), (s.spans.at sp.val).st ≠ .draining → (s.spans.at sp.val).st ≠ .stopping →
    exec (.spanQuiet sp) s = .next s)

/-- R34, R36, R132, R133: doorbells are delivered, held or dropped; a read of an event ring pops its oldest entry; commands of a group span go to
the other devices of it. -/
def Obligations.DoorbellsAndEventRings : Prop :=
  DoorbellsAreDelivered ∧ EventRingsPopOldestFirst ∧ GroupSpansReachOtherDevices

/-- R131: the commands of spans, where their whole subtree accepts them and where it does not. -/
def Obligations.SpanCommands : Prop := SpanCommandsComplete ∧ SpanCommandsTurnedAwayAndQuiet

/-- R150, R151, R152, R157: a write to a pair-set field is held as a shadow at basic level; at expert level a complete set is adopted
together, or, when it is inconsistent, discarded with PAIR_ERR and source 18; a commit starts a mode change over the shadows' blocks;
shadows and pending values can be dropped; the level changes only when nothing is held. -/
def Obligations.PairSetCommandsComplete : Prop :=
  -- RWP_WRITE at basic level
  (∀ (off : Nat) (v : Word) (s : State) (r : Reg), Reg.ofOffset off = some r → r.access.rwp ≠ 0 → s.expert = false →
    (s.pairTakes (s.pairKey r) = true → ∃ u, exec (.rwpWrite off v) s = .next u ∧
      written u.shadow (s.pairKey r) = some (v &&& r.access.rwp) ∧
      (∀ k, k ≠ s.pairKey r → written u.shadow k = written s.shadow k) ∧ u = { s with shadow := u.shadow }) ∧
    (s.pairTakes (s.pairKey r) = false → exec (.rwpWrite off v) s = .next s)) ∧
  -- RWP_WRITE at expert level, of a ticket's target
  (∀ (t : Fin 16) (v b0 b1 : Word) (s : State), t ≠ 0 → s.expert = true →
    written s.pend (.reg (.TKT_BW0 t)) = some b0 → written s.pend (.reg (.TKT_BW1 t)) = some b1 →
    (∀ w, w = v &&& (Reg.TKT_TGT t).access.rwp →
      ((((s.rset (.TKT_TGT t) w).rset (.TKT_BW0 t) b0).rset (.TKT_BW1 t) b1).admitFits = true →
        ∃ u, exec (.rwpWrite (Reg.TKT_TGT t).offset v) s = .next u ∧
          u.rget (.TKT_TGT t) = w ∧ u.rget (.TKT_BW0 t) = b0 ∧ u.rget (.TKT_BW1 t) = b1 ∧
          (∀ x ∈ u.pend, x.1.set ≠ some (.tkt t)) ∧
          RegsKept [.TKT_TGT t, .TKT_BW0 t, .TKT_BW1 t, .TKT_CLS t, .TKT_DROP, .CFG_PAIR_STAT] s u ∧
          u = { s with regs := u.regs, pend := u.pend, tkt := u.tkt, chain := u.chain }) ∧
      ((((s.rset (.TKT_TGT t) w).rset (.TKT_BW0 t) b0).rset (.TKT_BW1 t) b1).admitFits = false →
        ∃ u, exec (.rwpWrite (Reg.TKT_TGT t).offset v) s = .next u ∧
          u.bget .CFG_PAIR_STAT F.CFG_PAIR_STAT_PAIR_ERR = true ∧ Raised 18 s u ∧
          (∀ x ∈ u.pend, x.1.set ≠ some (.tkt t)) ∧ u.rget (.TKT_TGT t) = s.rget (.TKT_TGT t) ∧
          RegsKept (.CFG_PAIR_STAT :: signalRegs) s u))) ∧
  -- PAIR_COMMIT
  (∀ (v : Word) (s : State),
    (F.CFG_COMMIT_GO.get v = 0 ∨ s.modeBusy = true → exec (.pairCommit v) s = .next s) ∧
    (∀ b, F.CFG_COMMIT_GO.get v ≠ 0 → s.modeBusy = false → s.staged = [] → s.load.busy = false →
      ((s.shadow.filterMap (fun x => x.1.set)).map PairSet.block).eraseDups = [b] →
      ∃ u c, exec (.pairCommit v) s = .next u ∧ u.mode = some c ∧ c.id = (s.changes + 1) % 65536 ∧ c.kind = 2 ∧
        c.units = [.block b] ∧ c.phase = 1 ∧ u.staged = s.shadow ∧ u.shadow = [] ∧
        u.fget .CFG_COMMIT_STAT F.CFG_COMMIT_STAT_STATE = 1 ∧
        u.fget .CFG_COMMIT_STAT F.CFG_COMMIT_STAT_CHANGE = (s.changes + 1) % 65536 ∧
        u.fget .CFG_MODE_STAT F.CFG_MODE_STAT_PHASE = 1 ∧ RegsKept [.CFG_COMMIT_STAT, .CFG_MODE_STAT] s u ∧
        u = { s with
          regs := u.regs
          changes := u.changes
          stale := u.stale
          mode := u.mode
          staged := u.staged
          shadow := u.shadow
          chain := u.chain })) ∧
  -- SHADOW_CLEAR
  (∀ (v : Word) (s : State),
    (F.CFG_SHADOW_CLR_CLR.get v = 1 → exec (.shadowClear v) s = .next { s with shadow := [] }) ∧
    (F.CFG_SHADOW_CLR_CLR.get v = 0 → exec (.shadowClear v) s = .next s)) ∧
  -- PAIR_ABANDON
  (∀ (v : Word) (s : State),
    (F.CFG_PAIR_ABANDON_ABANDON.get v = 0 → exec (.pairAbandon v) s = .next s) ∧
    (F.CFG_PAIR_ABANDON_ABANDON.get v = 1 → ∃ u, exec (.pairAbandon v) s = .next u ∧ u.pend = [] ∧
      u.bget .CFG_PAIR_STAT F.CFG_PAIR_STAT_PENDING = false ∧ u.fget .CFG_PAIR_STAT F.CFG_PAIR_STAT_NPEND = 0 ∧
      RegsKept [.CFG_PAIR_STAT] s u ∧ u = { s with regs := u.regs, pend := [] })) ∧
  -- LEVEL_WRITE
  (∀ (v : Word) (s : State),
    ((s.pend ≠ [] ∨ s.shadow ≠ [] ∨ s.staged ≠ []) → ∃ u, exec (.levelWrite v) s = .next u ∧
      u.bget .CFG_PAIR_STAT F.CFG_PAIR_STAT_LEVEL_ERR = true ∧ OnlyRegs [.CFG_PAIR_STAT] s u) ∧
    (s.pend = [] → s.shadow = [] → s.staged = [] → ∃ u, exec (.levelWrite v) s = .next u ∧
      u.fget .CFG_CTL F.CFG_CTL_EXPERT = F.CFG_CTL_EXPERT.get v ∧ OnlyRegs [.CFG_CTL] s u))

/-- R154, R156: the messages of a mode change: a unit checks and stages a prepared change and answers; the last good answer sends COMMIT,
and a unit that is committed applies the change at its step boundary and answers again; the last of those answers ends the change. -/
def ModeChangesAdvance : Prop :=
  -- PREPARE_RECEIVE
  (∀ (w : ModeUnit) (m : MUnit) (kind : Fin 4) (sp : SpanIx) (change : Fin 65536) (s : State) (c : ModeChange), m = unitOf w →
    (∀ d, m ≠ .device d) → s.mode = some c → c.phase = 1 → m ∈ c.units → (∀ x ∈ c.prepared, x.1 ≠ m) →
    ∃ u x, exec (.prepareReceive w kind (sp, change)) s = .next u ∧
      u.mode = some { c with prepared := c.prepared ++ [(m, s.unitResult m)] } ∧
      u.chain = { s.chain with waiting := s.chain.waiting ++ [x] } ∧ x.2.cls = 0x8 ∧
      x.2.words = [c.id + s.unitResult m * 131072] ∧ u = { s with mode := u.mode, chain := u.chain }) ∧
  (∀ (d : Fin 64) (kind : Fin 4) (sp : SpanIx) (change : Fin 65536) (s : State),
    (s.modeBusy = true → exec (.prepareReceive (.device d) kind (sp, change)) s =
      .next (s.chainTo d.val 0x8 sp.val [change.val + 4 * 131072])) ∧
    (s.modeBusy = false → ∃ u c,
    exec (.prepareReceive (.device d) kind (sp, change)) s = .next u ∧ u.mode = some c ∧ c.phase = 1 ∧ c.kind = kind.val ∧
      c.id = change.val ∧ u.fget .CFG_MODE_STAT F.CFG_MODE_STAT_CHANGE = change.val ∧ c.span = sp.val ∧ c.units = s.groupUnits sp.val ∧ c.coord = some d.val ∧ RegsKept [.CFG_MODE_STAT] s u)) ∧
  -- MODE_ACK_RECEIVE of PHASE 0 and of PHASE 1
  (∀ (w : ModeUnit) (m : MUnit) (result : Fin 5) (s : State) (c : ModeChange), m = unitOf w → (∀ d, m ≠ .device d) →
    s.mode = some c → c.phase = 1 → m ∉ c.acked → c.prepared.find? (fun x => x.1 = m) = some (m, 0) →
    (∀ x ∈ c.units, ∀ d, x ≠ .device d) → c.coord = none →
    ((∃ x ∈ c.units, x ≠ m ∧ x ∉ c.acked) → ∃ u, exec (.modeAckReceive w 0 result) s = .next u ∧
      u.mode = some { c with acked := m :: c.acked } ∧ u = { s with mode := u.mode }) ∧
    ((∀ x ∈ c.units, x = m ∨ x ∈ c.acked) → (∃ x ∈ c.units, x ∉ c.done) →
      ∃ u, exec (.modeAckReceive w 0 result) s = .next u ∧
        u.mode = some { c with acked := m :: c.acked, phase := 2 } ∧
        u.chain.waiting = s.chain.waiting ++ [(0, (⟨0x9, true, c.span, 0, 0, [c.id], s.allLanes⟩ : ChainMsg))] ∧
        u.fget .CFG_MODE_STAT F.CFG_MODE_STAT_PHASE = 2 ∧
        RegsKept [.CFG_MODE_STAT] s u ∧ u = { s with regs := u.regs, mode := u.mode, chain := u.chain })) ∧
  (∀ (w : ModeUnit) (m : MUnit) (result : Fin 5) (s : State) (c : ModeChange), m = unitOf w → (∀ d, m ≠ .device d) →
    s.mode = some c → c.phase = 2 → m ∈ c.applied → m ∉ c.done → c.kind ≠ 2 → c.coord = none →
    ((∀ x ∈ c.units, x = m ∨ x ∈ c.done) → ∃ u, exec (.modeAckReceive w 1 result) s = .next u ∧
      u.mode = some { c with done := m :: c.done, phase := 3 } ∧ u.fget .CFG_MODE_STAT F.CFG_MODE_STAT_PHASE = 3 ∧
      RegsKept [.CFG_MODE_STAT] s u ∧ u = { s with regs := u.regs, mode := u.mode }) ∧
    ((∃ x ∈ c.units, x ≠ m ∧ x ∉ c.done) →
      exec (.modeAckReceive w 1 result) s = .next { s with mode := some { c with done := m :: c.done } })) ∧
  -- COMMIT_RECEIVE
  (∀ (w : ModeUnit) (m : MUnit) (s : State) (c : ModeChange), m = unitOf w → (∀ d, m ≠ .device d) → s.mode = some c →
    c.phase = 2 → (m, 0) ∈ c.prepared → m ∉ c.committed →
    exec (.commitReceive w) s = .next { s with mode := some { c with committed := m :: c.committed } }) ∧
  -- MODE_APPLY of a leaf, and of a block that owns nothing staged
  (∀ (w : ModeUnit) (m : MUnit) (s : State) (c : ModeChange), m = unitOf w → (∀ d, m ≠ .device d) → s.mode = some c →
    c.phase = 2 → m ∈ c.committed → m ∉ c.applied →
    (s.atBoundary m = false → exec (.modeApply w) s = .next s) ∧
    (s.atBoundary m = true → ∃ u, exec (.modeApply w) s = .next u ∧ u.mode = some { c with applied := m :: c.applied } ∧
      (∃ x, u.chain.waiting.getLast? = some x ∧ x.2.cls = 0x8 ∧ x.2.words = [c.id + 65536]) ∧
      ((∀ b, m ≠ .block b) → u = { s with mode := u.mode, chain := u.chain }) ∧
      (∀ b, m = .block b → ∀ x ∈ u.staged, x ∈ s.staged ∧ ∀ y, x.1.set = some y → y.block ≠ b)))

/-- R153, R155, R156: a mode change whose answers do not come in time, or one of which is not good, aborts before its COMMIT: it is over, with
its cause in CFG_MODE_STAT and source 17; a unit told so forgets what it staged. -/
def ModeChangesAbort : Prop :=
  -- MODE_ACK_TIMEOUT, GROUP_MODE_TIMEOUT and an ACK whose RESULT is not 0
  (∀ (i : Instr) (k : Nat) (s : State) (c : ModeChange), s.mode = some c → c.phase = 1 → c.kind ≠ 2 → c.coord = none →
    ((i = .modeAckTimeout ∧ k = 1 ∧ ∃ x ∈ c.units, x ∉ c.acked ∧ ∀ d, x ≠ .device d) ∨
      (i = .groupModeTimeout ∧ k = 1 ∧ ∃ d, .device d ∈ c.units ∧ .device d ∉ c.acked) ∨
      (∃ (w : ModeUnit) (r : Fin 5) (x : Nat), i = .modeAckReceive w 0 r ∧ k = 2 ∧ x ≠ 0 ∧ (∀ d, unitOf w ≠ .device d) ∧
        c.prepared.find? (fun y => y.1 = unitOf w) = some (unitOf w, x))) →
    ∃ u, exec i s = .next u ∧ u.mode = some { c with phase := 4 } ∧
      u.fget .CFG_MODE_STAT F.CFG_MODE_STAT_PHASE = 4 ∧ u.fget .CFG_MODE_STAT F.CFG_MODE_STAT_CAUSE = k ∧
      u.staged = [] ∧ Raised 17 s u ∧ RegsKept (.CFG_MODE_STAT :: signalRegs) s u) ∧
  (∀ s : State, s.mode = none → exec .modeAckTimeout s = .next s ∧ exec .groupModeTimeout s = .next s) ∧
  -- ABORT_RECEIVE
  (∀ (w : ModeUnit) (m : MUnit) (cause : Fin 256) (s : State) (c : ModeChange), m = unitOf w → (∀ d, m ≠ .device d) →
    s.mode = some c → c.phase = 4 → ∃ u, exec (.abortReceive (w, cause)) s = .next u ∧ m ∉ u.stale ∧
      u.mode = some { c with prepared := c.prepared.filter (fun x => x.1 ≠ m) } ∧
      u = { s with stale := u.stale, mode := u.mode }) ∧
  (∀ (d : Fin 64) (cause : Fin 256) (s : State) (c : ModeChange), s.mode = some c → c.coord = some d.val → c.phase = 1 →
    ∃ u, exec (.abortReceive (.device d, cause)) s = .next u ∧ u.mode = some { c with phase := 4 } ∧
      u.fget .CFG_MODE_STAT F.CFG_MODE_STAT_PHASE = 4 ∧ u.fget .CFG_MODE_STAT F.CFG_MODE_STAT_CAUSE = cause.val ∧ Raised 17 s u)

/-- R153 to R156: a mode change goes from PREPARE to COMMIT to its end, or aborts. -/
def Obligations.ModeChanges : Prop := ModeChangesAdvance ∧ ModeChangesAbort

/-- R24, R145, R146, R147, R148: a load while one may not start is turned away with BUSY; one that does not fit ends REFUSED with its code, record and
span, and source 16; one that fits puts its spans into the span table as LOADING and goes on to copy and activate. -/
def Obligations.ImageLoadsComplete : Prop :=
  -- IMAGE_LOAD
  (∀ (v : Word) (host : List Byte) (s : State), v.toNat % 2 = 1 → s.loadBusy = true →
    exec (.imageLoad v host) s = .next (s.fset .CFG_LOAD_STAT F.CFG_LOAD_STAT_ERR 1)) ∧
  (∀ (v : Word) (host : List Byte) (s : State), v.toNat % 2 = 0 → exec (.imageLoad v host) s = .next s) ∧
  (∀ (v : Word) (host : List Byte) (s s0 s1 s2 : State) (l : List Byte), v.toNat % 2 = 1 → s.loadBusy = false →
    s0 = (((s.fset .CFG_LOAD_STAT F.CFG_LOAD_STAT_CODE 0).fset .CFG_LOAD_STAT F.CFG_LOAD_STAT_RECORD 0).fset
      .CFG_LOAD_SPAN F.CFG_LOAD_SPAN_SPAN 0) → s0.loadBytes host = (s1, l) →
    (∀ e ∈ s.spans, e.2.st = .idle ∨ e.2.st = .faulted ∨ e.2.st = .empty) →
    (∀ r, s1.fitImage l = (s2, .error r) → ∃ u, exec (.imageLoad v host) s = .next u ∧
      u.fget .CFG_LOAD_STAT F.CFG_LOAD_STAT_STATE = 7 ∧
      u.fget .CFG_LOAD_STAT F.CFG_LOAD_STAT_CODE = r.code % 2 ^ F.CFG_LOAD_STAT_CODE.len ∧
      u.fget .CFG_LOAD_STAT F.CFG_LOAD_STAT_RECORD = r.rec_ % 2 ^ F.CFG_LOAD_STAT_RECORD.len ∧
      u.fget .CFG_LOAD_SPAN F.CFG_LOAD_SPAN_SPAN = r.span % 2 ^ F.CFG_LOAD_SPAN_SPAN.len ∧
      u.load.busy = false ∧ Raised 16 s2 u ∧ u.spans = s2.spans ∧ u.image = s2.image ∧ u.mem = s2.mem) ∧
    (∀ h lic img, s1.fitImage l = (s2, .ok (h, lic, img)) → s2.dozeNeeded img = [] →
      ∃ u, exec (.imageLoad v host) s = .next u ∧ u.load.busy = true ∧
        (u.fget .CFG_LOAD_STAT F.CFG_LOAD_STAT_STATE = 4 ∨ u.fget .CFG_LOAD_STAT F.CFG_LOAD_STAT_STATE = 5) ∧
        u.load.id = h.id ∧ u.load.fresh = img.spans.map (fun x => x.index) ∧
        ∀ x ∈ img.spans, (u.spans.at x.index).st = .loading) ∧
    (∀ h lic img d w, s1.fitImage l = (s2, .ok (h, lic, img)) → s2.dozeNeeded img = d :: w →
      ∃ u, exec (.imageLoad v host) s = .next u ∧ u.load.busy = true ∧ u.load.wakes = d :: w ∧ u.load.data = l ∧
        u.fget .CFG_LOAD_STAT F.CFG_LOAD_STAT_STATE = 2 ∧ u.spans = s2.spans)) ∧
  -- IMAGE_LOADED, while the mode change of step 8 has not begun: it begins once no other is in progress
  (∀ s : State, s.load.busy = false → exec .imageLoaded s = .next s) ∧
  (∀ s : State, s.load.busy = true → s.fget .CFG_LOAD_STAT F.CFG_LOAD_STAT_STATE = 4 → s.load.extents = [] → s.modeBusy = false →
    ∃ u, exec .imageLoaded s = .next u ∧ u.fget .CFG_LOAD_STAT F.CFG_LOAD_STAT_STATE = 5 ∧ u.mode.isSome = true ∧
      u.load = s.load ∧ u.spans = s.spans ∧ u.mem = s.mem) ∧
  -- IMAGE_LOADED, once the mode change of step 8 is over
  (∀ (s : State) (c : ModeChange), s.load.busy = true → s.fget .CFG_LOAD_STAT F.CFG_LOAD_STAT_STATE = 5 → s.mode = some c →
    (c.phase = 3 → ∃ u, exec .imageLoaded s = .next u ∧ (∀ j ∈ s.load.fresh, (u.spans.at j).st = .idle) ∧
      (∀ j, j ∉ s.load.fresh → (u.spans.at j).st = (s.spans.at j).st) ∧ u.image.loaded = true ∧
      u.rget .CFG_LOAD_ID = wordOf s.load.id ∧ u.fget .CFG_LOAD_STAT F.CFG_LOAD_STAT_STATE = 6 ∧ u.load.busy = false ∧
      (∀ e, e < 96 → (u.engs.at e).seed = s.free ∧ (u.engs.at e).draws = 0) ∧ u.gen.seeds = s.gen.seeds + 1 ∧ u.gen.draws = 0 ∧
      (∀ w : Fin 16, u.rget (.CFG_IMG_DIGEST w) = wordOf (num s.load.digest (4 * w.val) 4)) ∧ u.mem = s.mem) ∧
    (c.phase = 4 → ∃ u, exec .imageLoaded s = .next u ∧ u.fget .CFG_LOAD_STAT F.CFG_LOAD_STAT_STATE = 8 ∧
      u.fget .CFG_LOAD_STAT F.CFG_LOAD_STAT_ERR = 3 ∧ u.load.busy = false ∧
      ∀ j ∈ s.load.fresh, u.spans.at j = default) ∧
    (c.phase ≠ 3 → c.phase ≠ 4 → exec .imageLoaded s = .next s))

/-- What the obligations about one access take for granted: it lies within the block at `b`, whose cell is `c`; the request is not held, the
bundles that it crosses take requests, the page is not promoted, the instance has no patch entries, nothing is poisoned or waits for correction, no fault injection is armed for the
class, and the block matches its manifest. -/
def CleanAccess (q : MemReq) (s : State) (b : Nat) (c : CellRef) : Prop :=
  0 < q.len ∧ b = q.addr / 256 * 256 ∧ q.addr + q.len ≤ b + 256 ∧
  s.holds ((s.resourceOf q.addr).getD 73) q = false ∧ BundlesFree s ∧ s.edgeHeld q.rq = false ∧
  (∀ n, s.stackOf q.addr = some n → s.stackFenced n = false) ∧ s.cellOf (decide (q.rq = .hub)) b = some c ∧
  s.promoted b = none ∧ (s.mem.insts.at c.ik).patch = [] ∧ (∀ k, Tab.at s.mem.syn k = 0) ∧
  bitAt (s.fget .MEM_FLIP_CTL F.MEM_FLIP_CTL_ARM) c.cls = false ∧
  (∀ x, s.readBlock true false b = some x → crc32c (wordsToBytes x.2.1) = x.2.2.2) ∧ s.grp.winHeld = [] ∧
  s.mem.newPatches = []

/-- R160, R174, R203, R206, R207: a read answers with the bytes of memory and changes none of them; a write stores its bytes and no
others; a write whose data does not have its length is no write. -/
def ReadsAndWritesComplete : Prop :=
  -- MEMORY_READ
  (∀ (q : MemReq) (s : State) (b : Nat) (c : CellRef), CleanAccess q s b c →
    ∃ u, exec (.memoryRead q) s = .next u ∧
      u.resp = .data ((List.range q.len).map (fun j => Tab.at s.mem.data (c.key + (q.addr - b) + j)))
        (List.replicate q.len false) ∧
      u.mem.data = s.mem.data ∧ u.mem.syn = s.mem.syn ∧ u.mem.man = s.mem.man ∧
      u.spans = s.spans ∧ u.engs = s.engs ∧ u.fuses = s.fuses ∧ u.log = s.log) ∧
  -- MEMORY_WRITE
  (∀ (q : MemReq) (s : State) (b : Nat) (c : CellRef), CleanAccess q s b c → s.ctxGuard q.rq q.addr q.len = false →
    q.data.length = q.len → q.pois.length = q.len → (∀ p ∈ q.pois, p = false) →
    ∃ u, exec (.memoryWrite q) s = .next u ∧
      (∀ j, j < q.len → Tab.at u.mem.data (c.key + (q.addr - b) + j) = nth q.data j) ∧
      (∀ k, (k < c.key + (q.addr - b) ∨ c.key + (q.addr - b) + q.len ≤ k) → Tab.at u.mem.data k = Tab.at s.mem.data k) ∧
      (∀ k, Tab.at u.mem.syn k = 0) ∧ u.spans = s.spans ∧ u.engs = s.engs ∧ u.fuses = s.fuses ∧ u.log = s.log) ∧
  (∀ (q : MemReq) (s : State), ¬(q.data.length = q.len ∧ q.pois.length = q.len) →
    exec (.memoryWrite q) s = .fault (.illFormed "MEMORY_WRITE data"))

/-- R225, R226, R227: a request of a ticket that its source holds for the resource waits, behind earlier ones; so does one whose bundle takes no
request (R300); THROTTLE with the ticket's bit clear lets the held request go, and so does the leak timer: it arrives with HELD.  A read that waits
at its source for a flash channel enters the channel's queue. -/
def HeldRequestsWaitAndLeave : Prop :=
  (∀ (q : MemReq) (s : State) (r : Nat), s.resourceOf q.addr = some r →
    (s.holds r q = true ∨ ∃ h, s.crossAll q.rq true q.addr q.len = .error h) →
    exec (.memoryRead q) s = .next { s with tkt := { s.tkt with heldReqs := s.tkt.heldReqs ++ [(r, q, false)] } }) ∧
  (∀ (q : MemReq) (s : State) (r : Nat), s.resourceOf q.addr = some r → q.data.length = q.len → q.pois.length = q.len →
    (s.holds r q = true ∨ ∃ h, s.crossAll q.rq false q.addr q.len = .error h) →
      exec (.memoryWrite q) s = .next { s with tkt := { s.tkt with heldReqs := s.tkt.heldReqs ++ [(r, q, true)] } }) ∧
  -- THROTTLE_RECEIVE
  (∀ (q : Requester) (r : Fin 73) (band : Fin 3) (hold : Fin 65536) (s : State), s.tkt.heldReqs = [] →
    (q = .hub → ∀ k, k < 64 → (s.slot k).heldRec = none) →
    (41 ≤ r.val → ∀ x ∈ s.flash.queue.at (r.val - 41), x.waits = false) →
    ∃ u, exec (.throttleReceive q r band hold) s = .next u ∧ u.sourceHold q r.val = hold.val / 2 * 2 ∧
      (∀ p k, (sourceOf p, k) ≠ (sourceOf q, r.val) → u.sourceHold p k = s.sourceHold p k) ∧
      u = { s with tkt := { s.tkt with hold := u.tkt.hold, leaked := u.tkt.leaked } }) ∧
  (∀ (q : Requester) (r : Fin 73) (band : Fin 3) (s t : State) (x : MemReq) (w : Bool), s.tkt.heldReqs = [(r.val, x, w)] →
    r.val < 41 → sourceOf x.rq = sourceOf q → q ≠ .hub → s.tkt.leaked = [] → s.stackRests x.addr = false →
    ((({ s with tkt := { s.tkt with
        heldReqs := []
        hold := s.tkt.hold.filter (fun y => y.1 ≠ (sourceOf q, r.val)) } } : State).tick.resUpd r.val (fun u =>
          { u with last := s.turnOf r.val x.rq })).perform x w (s.heldField (heldBrought x))) = .ok t →
      exec (.throttleReceive q r band 0) s = .next t) ∧
  -- LEAK_RELEASE
  (∀ (q : Requester) (r : Fin 73) (t : Ticket) (s : State),
    s.heldBit (sourceOf q) r.val t.val = false → exec (.leakRelease q r t) s = .next s) ∧
  (∀ (q : Requester) (r : Fin 73) (t : Ticket) (s : State), r.val < 41 → s.tkt.heldReqs = [] → s.tkt.waits = [] →
    (q = .hub → ∀ k, k < 64 → (s.slot k).heldRec = none) → exec (.leakRelease q r t) s = .next s) ∧
  (∀ (q : Requester) (r : Fin 73) (tk : Ticket) (s t : State) (x : MemReq) (w : Bool), s.tkt.heldReqs = [(r.val, x, w)] →
    r.val < 41 → sourceOf x.rq = sourceOf q → x.ticket = tk → q ≠ .hub → s.tkt.leaked = [] →
    s.heldBit (sourceOf q) r.val tk.val = true → s.stackRests x.addr = false →
    ((({ s with tkt := { s.tkt with heldReqs := [] } } : State).tick.resUpd r.val (fun u =>
          { u with last := s.turnOf r.val x.rq })).perform x w (s.heldField (heldBrought x))) = .ok t →
      exec (.leakRelease q r tk) s = .next t) ∧
  (∀ (q : Requester) (r : Fin 73) (t : Ticket) (s : State) (x : FReq) (l : List FCmd), 41 ≤ r.val →
    s.flash.queue.at (r.val - 41) = .read x :: l → x.source = some (sourceOf q) → x.ticket = t.val → x.waits = true →
    s.heldBit (sourceOf q) r.val t.val = true → s.tkt.heldReqs = [] → q ≠ .hub →
    ∃ u, exec (.leakRelease q r t) s = .next u ∧
      u.flash.queue.at (r.val - 41) = .read { x with waits := false, held := s.heldField 0 } :: l ∧
      (∀ c, c ≠ r.val - 41 → u.flash.queue.at c = s.flash.queue.at c) ∧ RegsKept ((List.finRange 32).map .FLC_QLEVEL) s u ∧
      u = { s with
        regs := u.regs
        flash := { s.flash with queue := u.flash.queue }
        tkt := u.tkt
        chain := u.chain
        free := u.free })

/-- R220, R222, R225, R228: at the end of a window of 256 reads a ticket's average moves a quarter of the way to their mean, and its step rises by one when the average
reaches the next threshold, falls by one when it is below the downward value of the present one, and else stays; the fourth window of 4,096
reads over target in a row records a miss in TKT_MISS and TKT_MISS_LAST, counts it and raises source 20, and the count restarts, as it does at a
window that is not over; the ticket unit takes a resource's level. -/
def Obligations.TicketRegulation : Prop :=
  -- TICKET_AVG_UPDATE
  (∀ (k : Fin 4) (n : Fin 32) (t : Ticket) (s : State) (r : Nat), r = resNo k.val n.val →
    ((s.tktAt r t.val).due = [] → exec (.ticketAvgUpdate k n t) s = .next s) ∧
    (∀ sum l, (s.tktAt r t.val).due = sum :: l → ∃ u, exec (.ticketAvgUpdate k n t) s = .next u ∧
      (u.tktAt r t.val).avg = (3 * (s.tktAt r t.val).avg + sum / 64) / 4 ∧
      (u.tktAt r t.val).due = l ∧ (u.tktAt r t.val).step ≤ (s.tktAt r t.val).step + 1 ∧
      ((t = 0 ∨ s.target (resClass r) t.val = 0) → (u.tktAt r t.val).step = 0) ∧
      (∀ x y T, t ≠ 0 → T = s.target (resClass r) t.val → T ≠ 0 → x = s.tktAt r t.val → y = u.tktAt r t.val →
        (x.step < 8 → stepUp (x.step + 1) * T ≤ 4 * y.avg → y.step = x.step + 1) ∧
        ((8 ≤ x.step ∨ 4 * y.avg < stepUp (x.step + 1) * T) →
          (0 < x.step → 4 * y.avg < (stepUp x.step - 1) * T → y.step = x.step - 1) ∧
          ((x.step = 0 ∨ (stepUp x.step - 1) * T ≤ 4 * y.avg) → y.step = x.step))) ∧
      (∀ q j, q * 16 + j ≠ r * 16 + t.val → u.tktAt q j = s.tktAt q j) ∧
      ((s.tkt.res.at r).band = 0 → u.chain = s.chain) ∧ u = { s with tkt := u.tkt, chain := u.chain })) ∧
  -- MISS_WINDOW_END
  (∀ (k : Fin 4) (n : Fin 32) (t : Ticket) (s : State) (r : Nat), r = resNo k.val n.val →
    ((s.tktAt r t.val).ends = [] → exec (.missWindowEnd k n t) s = .next s) ∧
    (∀ sum l, (s.tktAt r t.val).ends = sum :: l →
      (4096 * s.target (resClass r) t.val < sum → (s.tktAt r t.val).overs = 3 →
        ∃ u, exec (.missWindowEnd k n t) s = .next u ∧ (u.tktAt r t.val).overs = 0 ∧ (u.tktAt r t.val).ends = l ∧
          bitAt (u.rget .TKT_MISS).toNat t.val = true ∧ u.fget .TKT_MISS_LAST F.TKT_MISS_LAST_RES = r ∧
          u.fget .TKT_MISS_LAST F.TKT_MISS_LAST_TICKET = t.val ∧
          u.fget .TKT_MISS_LAST F.TKT_MISS_LAST_COUNT =
            min (s.fget .TKT_MISS_LAST F.TKT_MISS_LAST_COUNT + 1) (2 ^ F.TKT_MISS_LAST_COUNT.len - 1) ∧ Raised 20 s u ∧
          (r < 41 → u.chain = s.chain) ∧ RegsKept ([.TKT_MISS, .TKT_MISS_LAST] ++ signalRegs) s u) ∧
      (4096 * s.target (resClass r) t.val < sum → (s.tktAt r t.val).overs ≠ 3 →
        ∃ u, exec (.missWindowEnd k n t) s = .next u ∧ (u.tktAt r t.val).ends = l ∧
          (u.tktAt r t.val).overs = (s.tktAt r t.val).overs + 1 ∧ u = { s with tkt := u.tkt }) ∧
      (sum ≤ 4096 * s.target (resClass r) t.val →
        ∃ u, exec (.missWindowEnd k n t) s = .next u ∧ (u.tktAt r t.val).overs = 0 ∧ (u.tktAt r t.val).ends = l ∧
          u = { s with tkt := u.tkt }))) ∧
  -- QUEUE_LEVEL_RECEIVE
  (∀ (r : Fin 73) (level : Fin 2048) (band : Fin 4) (s : State), ∃ u, exec (.queueLevelReceive r level band) s = .next u ∧
    u.tkt.res.at r.val = { s.tkt.res.at r.val with seenLevel := level.val, seenBand := band.val } ∧
    (∀ k, k ≠ r.val → u.tkt.res.at k = s.tkt.res.at k) ∧ u = { s with tkt := { s.tkt with res := u.tkt.res } })

/-- R168, R199, R200, R201: fencing a stack, releasing a patch entry, fencing an SRAM macro of a site and retiring a page, each with its
record in the defect log when the boot flash takes it. -/
def Obligations.MemoryRepairsComplete : Prop :=
  -- STACK_FENCE
  (∀ (n : Stack) (ok : Bool) (s : State),
    (s.stackFenced n.val = true → exec (.stackFence n ok) s = .next s) ∧
    (s.stackFenced n.val = false → ∃ u, exec (.stackFence n ok) s = .next u ∧ u.stackFenced n.val = true ∧
      u.dieFenced (12 + n.val) = true ∧ Raised (385 + 2 * n.val) s u ∧
      (s.logRoom ok = true → u.log.recs = s.log.recs ++ [⟨0x07, 5, n.val, 0, 0, false⟩]) ∧
      (s.logRoom ok = false → u.log.recs = s.log.recs ∧ u.bget .BUP_STAT F.BUP_STAT_LOG_FAIL = true) ∧
      RegsKept ([.STK_STAT n, .BUP_FENCED, .BUP_STAT] ++ signalRegs) s u ∧ u.mem = s.mem)) ∧
  -- PATCH_RELEASE
  (∀ (v : Word) (ok : Bool) (s : State) (ik e : Nat) (p : Patch),
    ik = s.fget .MEM_INST_SEL F.MEM_INST_SEL_CLASS * 128 + s.fget .MEM_INST_SEL F.MEM_INST_SEL_INST →
    s.fget .MEM_INST_SEL F.MEM_INST_SEL_INST < 128 →
    e = F.MEM_PATCH_CTL_ENTRY.get v → F.MEM_PATCH_CTL_RELEASE.get v ≠ 0 → (s.mem.insts.at ik).patch = [(e, some p)] →
    ∃ u, exec (.patchRelease v ok) s = .next u ∧ (u.mem.insts.at ik).patch = [] ∧ (u.mem.insts.at ik).full = false ∧
      (∀ i, i < 4 → Tab.at u.mem.data (p.key + i) = byteOf (p.data.toNat / 256 ^ i)) ∧
      (∀ k, (k < p.key ∨ p.key + 4 ≤ k) → Tab.at u.mem.data k = Tab.at s.mem.data k) ∧
      (s.logRoom ok = true → ∃ x, u.log.recs = s.log.recs ++ [x] ∧ x.typ = 0x04) ∧
      RegsKept (.BUP_STAT :: signalRegs) s u) ∧
  (∀ (v : Word) (ok : Bool) (s : State),
    (s.mem.insts.at (s.fget .MEM_INST_SEL F.MEM_INST_SEL_CLASS * 128 + s.fget .MEM_INST_SEL F.MEM_INST_SEL_INST)).patch = [] →
    exec (.patchRelease v ok) s = .next s) ∧
  -- MACRO_FENCE
  (∀ (v : Word) (ok : Bool) (s : State) (k m : Nat), k = F.MEM_FENCE_MACRO_SITE.get v → m = F.MEM_FENCE_MACRO_MACRO.get v →
    F.MEM_FENCE_MACRO_GO.get v ≠ 0 →
    (s.siteState k ∈ [2, 3, 4] → ∃ u, exec (.macroFence v ok) s = .next u ∧
      u.fget .MEM_FENCE_STAT F.MEM_FENCE_STAT_STATE = 3 ∧ OnlyRegs [.MEM_FENCE_STAT] s u) ∧
    (s.siteState k ∉ [2, 3, 4] → m ∉ (s.sites.at k).fenced → (s.siteState k = 1 ∨ s.siteHeld k = false) →
      ∃ u, exec (.macroFence v ok) s = .next u ∧ (u.sites.at k).fenced = m :: (s.sites.at k).fenced ∧
        u.usable k + 262144 = s.usable k + (if 128 ≤ (s.sites.at k).fenced.length then 262144 else 0) ∧
        u.fget .MEM_FENCE_STAT F.MEM_FENCE_STAT_STATE = 2 ∧ Raised 425 s u ∧ u.mem.data = s.mem.data ∧
        (s.logRoom ok = true → u.log.recs = s.log.recs ++ [⟨0x02, 0, k + m * 256, 0, 0, false⟩]) ∧
        RegsKept ([.MEM_FENCE_STAT, .BUP_STAT] ++ signalRegs) s u) ∧
    (s.siteState k ∉ [1, 2, 3, 4] → m ∉ (s.sites.at k).fenced → s.siteHeld k = true →
      ∃ u, exec (.macroFence v ok) s = .next u ∧ m ∈ (u.sites.at k).fencePend ∧
        u.fget .MEM_FENCE_STAT F.MEM_FENCE_STAT_STATE = 1 ∧ u = { s with regs := u.regs, sites := u.sites })) ∧
  -- MACRO_FENCE_APPLY
  (∀ (k : Site) (m : Fin 128) (ok : Bool) (s : State),
    ((m.val ∉ (s.sites.at k.val).fencePend ∨ s.siteHeld k.val = true) → exec (.macroFenceApply k m ok) s = .next s) ∧
    (m.val ∈ (s.sites.at k.val).fencePend → s.siteHeld k.val = false → ∃ u, exec (.macroFenceApply k m ok) s = .next u ∧
      m.val ∈ (u.sites.at k.val).fenced ∧ m.val ∉ (u.sites.at k.val).fencePend ∧ Raised 425 s u ∧
      u.fget .MEM_FENCE_STAT F.MEM_FENCE_STAT_STATE = 2 ∧ RegsKept ([.MEM_FENCE_STAT, .BUP_STAT] ++ signalRegs) s u)) ∧
  -- PAGE_RETIRE
  (∀ (v : Word) (ok : Bool) (s : State) (a : Nat),
    a = (s.rget .MEM_RETIRE_LO).toNat + s.fget .MEM_RETIRE_HI F.MEM_RETIRE_HI_ADDR * 2 ^ 32 →
    F.MEM_RETIRE_CMD_GO.get v ≠ 0 →
    (∀ n o, (rangeOf a = .placed n o ∨ rangeOf a = .bonded n o) →
      (a / 65536 ∉ s.mem.retired → s.mem.retired.length < 256 → ∃ u, exec (.pageRetire v ok) s = .next u ∧
        u.mem.retired = s.mem.retired ++ [a / 65536] ∧ u.mem.data = s.mem.data ∧
        u.fget .MEM_RETIRE_STAT F.MEM_RETIRE_STAT_RESULT = 1 ∧
        (s.logRoom ok = true → ∃ x, u.log.recs = s.log.recs ++ [x] ∧ x.typ = 0x05) ∧
        RegsKept ([.MEM_RETIRE_STAT, .BUP_STAT] ++ signalRegs) s u) ∧
      (a / 65536 ∉ s.mem.retired → 256 ≤ s.mem.retired.length →
        exec (.pageRetire v ok) s = .next (s.fset .MEM_RETIRE_STAT F.MEM_RETIRE_STAT_RESULT 2)) ∧
      (a / 65536 ∈ s.mem.retired →
        exec (.pageRetire v ok) s = .next (s.fset .MEM_RETIRE_STAT F.MEM_RETIRE_STAT_RESULT 1))) ∧
    ((∀ n o, rangeOf a ≠ .placed n o ∧ rangeOf a ≠ .bonded n o) →
      exec (.pageRetire v ok) s = .next (s.fset .MEM_RETIRE_STAT F.MEM_RETIRE_STAT_RESULT 3)))

/-- R210, R211, R212: arming fault injection; a scrub pass starts when none runs, is told to stop, and ends with its summary in the shared
buffer, STATE 2 and source 420. -/
def Obligations.InjectionAndScrubbingComplete : Prop :=
  -- FLIP_ARM
  (∀ (v : Word) (s : State), ∃ u, exec (.flipArm v) s = .next u ∧
    u.fget .MEM_FLIP_CTL F.MEM_FLIP_CTL_ARM = F.MEM_FLIP_CTL_ARM.get v ∧ OnlyRegs [.MEM_FLIP_CTL] s u) ∧
  -- SCRUB_START
  (∀ (t : Ticket) (s : State),
    (s.scrub.isSome = true → exec (.scrubStart t) s = .next s) ∧
    (s.scrub = none → ∃ u p, exec (.scrubStart t) s = .next u ∧ u.scrub = some p ∧
      p.base = (s.rget .MEM_SCRUB_BASE_LO).toNat + s.fget .MEM_SCRUB_BASE_HI F.MEM_SCRUB_BASE_HI_ADDR * 2 ^ 32 ∧
      p.len = (s.rget .MEM_SCRUB_LEN_LO).toNat + s.fget .MEM_SCRUB_LEN_HI F.MEM_SCRUB_LEN_HI_LEN * 2 ^ 32 ∧
      p.ticket = t.val ∧ p.refused = !s.scrubRange p.base p.len ∧
      u.fget .MEM_SCRUB_STAT F.MEM_SCRUB_STAT_STATE = 1 ∧ u.fget .MEM_SCRUB_STAT F.MEM_SCRUB_STAT_PROGRESS = 0 ∧
      RegsKept [.MEM_SCRUB_STAT] s u ∧ u = { s with regs := u.regs, scrub := u.scrub })) ∧
  -- SCRUB_STOP
  (∀ (s : State) (p : Scrub),
    (s.scrub = some p → exec .scrubStop s = .next { s with scrub := some { p with stop := true } }) ∧
    (s.scrub = none → exec .scrubStop s = .next s)) ∧
  -- SCRUB_DONE
  (∀ (n : Nat) (s : State) (p : Scrub),
    (s.scrub = none → exec (.scrubDone n) s = .next s) ∧
    (s.scrub = some p → BundlesFree s → (∀ r t, s.heldBit .hub r t = false) → ∃ u, exec (.scrubDone n) s = .next u ∧ u.scrub = none ∧
      u.fget .MEM_SCRUB_STAT F.MEM_SCRUB_STAT_STATE = 2 ∧ 1 ≤ (u.icu.src.at 420).count ∧
      (Memory.wf s.mem = true → Memory.wf u.mem = true) ∧ s.log.recs <+: u.log.recs ∧
      RegsKept (.MEM_SCRUB_STAT :: memoryRegs) s u ∧
      u = { s with
        regs := u.regs
        icu := u.icu
        mem := u.mem
        place := u.place
        log := u.log
        tkt := u.tkt
        cwy := u.cwy
        free := u.free
        fns := u.fns
        grp := { s.grp with entries := u.grp.entries }
        ldp := { s.ldp with released := u.ldp.released }
        outbox := u.outbox
        scrub := none }))

/-- R160, R174, R203, R206, R207, R225 to R227: reads and writes of memory, and requests that their ticket holds. -/
def Obligations.MemoryRequestsComplete : Prop := ReadsAndWritesComplete ∧ HeldRequestsWaitAndLeave

/-- R143, R147, R179, R180, R182: ring and hub channel of a mover start their next copies in turn; the oldest descriptor in flight completes
with its STATUS, which halts the ring or moves the read index on; a halted descriptor is tried again, skipped, or aborted with all that
follow it; a write index beyond the ring is ignored. -/
def Obligations.MoversRunDescriptors : Prop :=
  -- DESCRIPTOR_START
  (∀ (m : Mover) (s : State), (s.ringReady m.val = false → exec (.descriptorStart m false) s = .next s) ∧
    (s.ringReady m.val = true → ((s.mover m.val).lastHub = true ∨ s.hubReady m.val = false) →
      ∃ u r, exec (.descriptorStart m false) s = .next u ∧ (u.mover m.val).inflight = (s.mover m.val).inflight ++ [r] ∧
        r.ix = (s.brgRd m.val + (s.mover m.val).inflight.length) % 2 ^ 32 ∧ r.d = (s.readDesc m.val r.ix).2 ∧
        (u.mover m.val).lastHub = false ∧ (∀ k, k ≠ m.val → u.mover k = s.mover k) ∧ u.spans = s.spans ∧ u.fuses = s.fuses) ∧
    (s.hubReady m.val = false → exec (.descriptorStart m true) s = .next s) ∧
    (∀ j l, s.hubReady m.val = true → (s.mover m.val).hubq = j :: l →
      ((s.mover m.val).lastHub = false ∨ s.ringReady m.val = false) →
      ∃ u r, exec (.descriptorStart m true) s = .next u ∧ (u.mover m.val).hubq = l ∧ (u.mover m.val).hubfl = [(j, r)] ∧
        (u.mover m.val).lastHub = true ∧ (∀ k, k ≠ m.val → u.mover k = s.mover k) ∧ u.spans = s.spans ∧ u.fuses = s.fuses)) ∧
  -- DESCRIPTOR_COMPLETE of the ring
  (∀ (m : Mover) (ext : Option (List Byte × List Bool)) (turned : Option Nat) (s s1 : State) (r : MvRun) (l : List MvRun) (st off : Nat),
    (s.mover m.val).halted = none → (s.mover m.val).inflight = r :: l →
    (s.descOutcome m.val r ext turned = .error s1 → exec (.descriptorComplete m false ext turned) s = .next s1) ∧
    (s.descOutcome m.val r ext turned = .ok (s1, st, off) → ∃ u, exec (.descriptorComplete m false ext turned) s = .next u ∧
      (u.mover m.val).inflight = l ∧
      u.fget (.BRG_STAT m) F.BRG_STAT_LAST_CODE = st % 2 ^ F.BRG_STAT_LAST_CODE.len ∧
      (haltStatus r.d st = true → (u.mover m.val).halted = some r ∧ u.rget (.BRG_RD m) = s1.rget (.BRG_RD m) ∧
        1 ≤ (u.icu.src.at (400 + m.val)).count) ∧
      (haltStatus r.d st = false → (u.mover m.val).halted = (s1.mover m.val).halted ∧
        u.rget (.BRG_RD m) = wordOf (s1.brgRd m.val + 1)))) ∧
  -- DESCRIPTOR_COMPLETE of a fill of host memory, and of a malformed descriptor
  (∀ (m : Mover) (ext : Option (List Byte × List Bool)) (s : State) (r : MvRun) (l : List MvRun),
    (s.mover m.val).halted = none → (s.mover m.val).inflight = r :: l →
    (r.d.ok = true → r.d.op = 1 → r.d.dstKind = 1 → (∀ p d, s.bundleWaits p d = false) →
      ∃ u, exec (.descriptorComplete m false ext none) s = .next u ∧ (u.mover m.val).inflight = l ∧
        (u.mover m.val).halted = none ∧ u.fget (.BRG_STAT m) F.BRG_STAT_LAST_CODE = 1 ∧
        u.rget (.BRG_RD m) = wordOf (s.brgRd m.val + 1)) ∧
    (r.d.ok = false → ∃ u, exec (.descriptorComplete m false ext none) s = .next u ∧ (u.mover m.val).inflight = l ∧
      (u.mover m.val).halted = some r ∧ u.fget (.BRG_STAT m) F.BRG_STAT_LAST_CODE = 6 ∧
      u.rget (.BRG_RD m) = s.rget (.BRG_RD m))) ∧
  -- DESCRIPTOR_COMPLETE of a copy of the hub channel
  (∀ (m : Mover) (ext : Option (List Byte × List Bool)) (turned : Option Nat) (s : State) (x : Extent) (r : MvRun)
    (l : List (HubJob × MvRun)), (s.mover m.val).hubfl = (.place x, r) :: l →
    ((x.toCodebook = true ∧ s.codebookHeld x.engine (x.dst - 2) = true) → exec (.descriptorComplete m true ext turned) s = .next s) ∧
    ((x.toCodebook = false ∨ s.codebookHeld x.engine (x.dst - 2) = false) →
      (∀ t, s.placeSource m.val x r ext = .error t → exec (.descriptorComplete m true ext turned) s = .next t) ∧
      (∀ y z, s.placeSource m.val x r ext = .ok y →
        z = (y.st.settle.flashForget (.hub m.val)).moverUpd m.val (fun u => { u with hubfl := [] }) →
        ((y.stop.isSome = true ∨ y.ue.isSome = true ∨ y.poison = true ∨ ∃ t, z.placeStore m.val x y = .ok (t, false)) →
          ∃ u, exec (.descriptorComplete m true ext turned) s = .next u ∧ (u.mover m.val).hubfl = [] ∧ u.load.extents = [] ∧
            u.load.busy = false ∧ u.fget .CFG_LOAD_STAT F.CFG_LOAD_STAT_STATE = 8) ∧
        (y.stop = none → y.ue = none → y.poison = false →
          (∀ h, z.placeStore m.val x y = .error h →
            exec (.descriptorComplete m true ext turned) s = .next (s.waitFor (.mover m) h)) ∧
          (∀ t, z.placeStore m.val x y = .ok (t, true) →
            ∃ u, exec (.descriptorComplete m true ext turned) s = .next u ∧ (u.mover m.val).hubfl = [] ∧
              ∀ e ∈ u.load.extents, e.ix ≠ x.ix))))) ∧
  -- BRG_WRITE_INDEX
  (∀ (m : Mover) (v : Word) (s : State),
    ((s.ownEntry (.mover m.val)).isSome = true → exec (.brgWriteIndex m v) s = .next s) ∧
    (s.ownEntry (.mover m.val) = none → ahead (s.brgRd m.val) v.toNat ≤ s.ringLen m.val →
      ∃ u, exec (.brgWriteIndex m v) s = .next u ∧ u.rget (.BRG_WR m) = v ∧ OnlyRegs [.BRG_WR m] s u) ∧
    (s.ownEntry (.mover m.val) = none → s.ringLen m.val < ahead (s.brgRd m.val) v.toNat →
      ∃ u, exec (.brgWriteIndex m v) s = .next u ∧ u.bget (.BRG_STAT m) F.BRG_STAT_OVR = true ∧ OnlyRegs [.BRG_STAT m] s u)) ∧
  -- BRG_RESUME, BRG_SKIP, BRG_ABORT
  (∀ (m : Mover) (s : State), (s.mover m.val).halted = none →
    exec (.brgResume m) s = .next s ∧ exec (.brgSkip m) s = .next s ∧ exec (.brgAbort m) s = .next s) ∧
  (∀ (m : Mover) (s : State) (r : MvRun), (s.mover m.val).halted = some r →
    (∃ u q, exec (.brgResume m) s = .next u ∧ (u.mover m.val).halted = none ∧
      (u.mover m.val).inflight = q :: (s.mover m.val).inflight ∧ q.ix = r.ix ∧ q.d = (s.readDesc m.val r.ix).2 ∧
      u.rget (.BRG_RD m) = s.rget (.BRG_RD m) ∧ u.fuses = s.fuses) ∧
    (∃ u, exec (.brgSkip m) s = .next u ∧ (u.mover m.val).halted = none ∧
      (u.mover m.val).inflight = (s.mover m.val).inflight ∧ u.rget (.BRG_RD m) = wordOf (s.brgRd m.val + 1) ∧ u.mem = s.mem ∧
      u.flash = s.flash) ∧
    (∃ u, exec (.brgAbort m) s = .next u ∧ (u.mover m.val).halted = none ∧ (u.mover m.val).inflight = [] ∧
      u.rget (.BRG_RD m) = s.rget (.BRG_WR m) ∧ u.fget (.BRG_STAT m) F.BRG_STAT_LAST_CODE = 8 ∧ u.fuses = s.fuses))

/-- R183 to R187: at an epoch's end the counts are halved and, in automatic mode, the pages read too rarely demoted and the promotions of the epoch started; a page whose copy is
done is redirected to its frame; a manual promotion or demotion starts, or is refused with its reason. -/
def Obligations.PlacementLoopCompletes : Prop :=
  -- PLACE_EPOCH_END
  (∀ s : State,
    (s.place.reads < 2 ^ (16 + s.fget .SBF_PL_CTL F.SBF_PL_CTL_EPOCH) → exec .placeEpochEnd s = .next s) ∧
    (2 ^ (16 + s.fget .SBF_PL_CTL F.SBF_PL_CTL_EPOCH) ≤ s.place.reads →
      ∃ u, exec .placeEpochEnd s = .next u ∧
        u.place.counts = (s.place.counts.map (fun e => (e.1, e.2 / 2))).filter (fun e => e.2 ≠ 0) ∧
        u.place.reads = 0 ∧ u.place.barred = [] ∧
        (s.fget .SBF_PL_CTL F.SBF_PL_CTL_MODE = 2 → ∀ e ∈ u.place.frames, e ∈ s.place.frames ∧ ∀ p, e.2 = some p → s.loopPage p = true →
          s.fget .SBF_PL_CTL F.SBF_PL_CTL_DEMOTE_THR ≤ ((s.place.counts.find? (fun e => e.1 = p)).map (·.2)).getD 0) ∧
        (s.fget .SBF_PL_CTL F.SBF_PL_CTL_MODE ≠ 2 → u = { s with place := u.place } ∧ u.place.frames = s.place.frames) ∧
        RegsKept (.SBF_PL_DEMO :: signalRegs) s u ∧ u.mem = s.mem)) ∧
  -- PROMOTE_COPY_DONE
  (∀ (p : Fin 16777216) (s v : State) (f o n : Nat) (r : MvRun) (l : List (HubJob × MvRun)),
    (s.mover (p.val % 16)).hubfl = (.promote p.val f, r) :: l → s.frameBase = some (o, n) → f < n →
    v = { s.moverUpd (p.val % 16) (fun u => { u with hubfl := [] }) with
      place := { s.place with
        copying := s.place.copying.filter (fun x => x.1 ≠ p.val)
        manual := if s.place.manual = some (p.val, f) then none else s.place.manual } } →
    ((v.hubRead (p.val * 65536) 65536).err = none ∨ ∀ b ∈ blocksOf (p.val * 65536) 65536, (s.cellOf true b).isSome = true) →
    ∃ u, exec (.promoteCopyDone p) s = .next u ∧ u.place.frames.at f = some p.val ∧ (u.mover (p.val % 16)).hubfl = [] ∧
      (s.place.manual = some (p.val, f) → u.fget .SBF_PROMO_STAT F.SBF_PROMO_STAT_STATE = 2) ∧
      RegsKept ([.SBF_PL_PROMO, .SBF_PROMO_STAT] ++ memoryRegs) s u ∧ u.spans = s.spans) ∧
  -- PROMO_PROMOTE and PROMO_DEMOTE
  (∀ (s : State) (p : Nat), p = s.promoPage → s.fget .SBF_PROMO_STAT F.SBF_PROMO_STAT_STATE ≠ 1 →
    (s.kvPool p = none → ∀ c ∈ [Instr.promoPromote, .promoDemote], ∃ u, exec c s = .next u ∧
      u.fget .SBF_PROMO_STAT F.SBF_PROMO_STAT_STATE = 3 ∧ u.fget .SBF_PROMO_STAT F.SBF_PROMO_STAT_REASON = 1 ∧
      OnlyRegs [.SBF_PROMO_STAT] s u) ∧
    (∀ f, (s.kvPool p).isSome = true → s.freeFrame = some f → s.frameOf p = none → (∀ x ∈ s.place.copying, x.1 ≠ p) →
      s.fget .SBF_PL_CTL F.SBF_PL_CTL_MODE ≠ 0 → p ∉ s.place.barred →
      ∃ u, exec .promoPromote s = .next u ∧ u.place.copying = s.place.copying ++ [(p, f)] ∧ u.place.manual = some (p, f) ∧
        (u.mover (p % 16)).hubq = (s.mover (p % 16)).hubq ++ [.promote p f] ∧
        u.fget .SBF_PROMO_STAT F.SBF_PROMO_STAT_STATE = 1 ∧ RegsKept [.SBF_PROMO_STAT] s u ∧
        u = { s with regs := u.regs, place := u.place, movers := u.movers }) ∧
    (∀ f, (s.kvPool p).isSome = true → s.frameOf p = some f → s.fget .SBF_PL_CTL F.SBF_PL_CTL_MODE ≠ 0 →
      ∃ u, exec .promoDemote s = .next u ∧ (∀ e ∈ u.place.frames, e.2 ≠ some p) ∧
        u.fget .SBF_PROMO_STAT F.SBF_PROMO_STAT_STATE = 2 ∧ u.fget .SBF_PROMO_STAT F.SBF_PROMO_STAT_REASON = 0 ∧
        RegsKept [.SBF_PROMO_STAT, .SBF_PL_DEMO] s u ∧ u = { s with regs := u.regs, place := u.place }) ∧
    (s.fget .SBF_PROMO_STAT F.SBF_PROMO_STAT_STATE = 1 → exec .promoPromote s = .next s ∧ exec .promoDemote s = .next s))

/-- No raw command waits at channel `c` (R262): nothing follows the command at hand. -/
def NoRawWaits (c : Nat) (s : State) : Prop := ∀ x ∈ s.flash.queue.at c, ∀ j, x ≠ .raw j

/-- Readers that take units as they come: a mover or a retrieval query. -/
def flashReader : FWho → Bool
  | .ring _ _ => true
  | .hub _ => true
  | .query _ => true
  | _ => false

/-- R236, R238, R240, R242, R243, R244, R248: a channel issues the read of highest rank to its idle LUN, and delivers at once, poisoned, one of a fenced
LUN; a page read that ends delivers its unit, poisoned where it was written so, moves to the next stage, also when the manifests do not
match, or, when no stage is left, delivers it poisoned as lost; a page never programmed is delivered poisoned. -/
def Obligations.FlashReadsComplete : Prop :=
  -- FLASH_READ
  (∀ (c : Chan) (s : State) (q : FReq) (i : Nat), s.nextCmd c.val = some (.read q, i) → q.addr.chan = c.val → NoRawWaits c.val s →
    (s.lunFenced c.val q.addr.lun = false → ∃ u, exec (.flashRead c) s = .next u ∧
      u.flash.run.at q.addr.lunKey = some (.read q 0 (s.flash.groups.at q.addr.grp).list) ∧
      (∀ k, k ≠ q.addr.lunKey → u.flash.run.at k = s.flash.run.at k) ∧
      u.flash.queue.at c.val = (s.flash.queue.at c.val).eraseIdx i ∧
      (u.flash.blocks.at q.addr.blk).reads = (s.flash.blocks.at q.addr.blk).reads + 1 ∧
      (u.flash.groups.at q.addr.grp).n = (s.flash.groups.at q.addr.grp).n + 1 ∧
      s.flash.cmds.at c.val + 3 ≤ u.flash.cmds.at c.val ∧ u.flash.codes = s.flash.codes ∧
      RegsKept [.FLC_QLEVEL c] s u ∧
      u = { s with regs := u.regs, flash := u.flash, tkt := u.tkt, chain := u.chain, outbox := u.outbox }) ∧
    (s.lunFenced c.val q.addr.lun = true → flashReader q.who = true → ∃ u, exec (.flashRead c) s = .next u ∧
      u.flash.done = s.flash.done ++ [⟨q.who, q.tag, q.re, 0, s.codeAt q.addr, true, true, false⟩] ∧
      u.flash.queue.at c.val = (s.flash.queue.at c.val).eraseIdx i ∧ u.flash.run = s.flash.run ∧
      RegsKept (.FLC_QLEVEL c :: (List.finRange 16).map .TEL_HIST) s u)) ∧
  (∀ (c : Chan) (s : State) (q : FReq) (st i : Nat) (offs : List Int), s.nextCmd c.val = some (.retry q st offs, i) →
    q.addr.chan = c.val → NoRawWaits c.val s → s.lunFenced c.val q.addr.lun = false → ∃ u, exec (.flashRead c) s = .next u ∧
      u.flash.run.at q.addr.lunKey = some (.read q st offs) ∧ u.flash.queue.at c.val = (s.flash.queue.at c.val).eraseIdx i ∧
      (u.flash.blocks.at q.addr.blk).reads = (s.flash.blocks.at q.addr.blk).reads + (if st = 16 then 3 else 1) ∧
      s.flash.cmds.at c.val + (if st = 16 then 9 else 3) ≤ u.flash.cmds.at c.val) ∧
  (∀ (c : Chan) (s : State), s.nextCmd c.val = none → exec (.flashRead c) s = .next s) ∧
  -- PAGE_READ_DONE
  (∀ (c : Chan) (lun : Fin 32) (r : Decoded) (n : Nat) (s : State), s.flash.run.at (c.val * 32 + lun.val) = none →
    NoRawWaits c.val s → exec (.pageReadDone c lun r n) s = .next s) ∧
  (∀ (c : Chan) (lun : Fin 32) (n : Nat) (s : State) (q : FReq) (st : Nat) (offs : List Int),
    s.flash.run.at (c.val * 32 + lun.val) = some (.read q st offs) → q.addr.lunKey = c.val * 32 + lun.val → q.addr.chan = c.val →
    flashReader q.who = true → NoRawWaits c.val s →
    (q.addr.page ∉ (s.flash.blocks.at q.addr.blk).prog → ∀ r, ∃ u, exec (.pageReadDone c lun r n) s = .next u ∧
      u.flash.done = s.flash.done ++ [⟨q.who, q.tag, q.re, st, s.codeAt q.addr, true, false, false⟩] ∧
      u.flash.run.at (c.val * 32 + lun.val) = none ∧ u.flash.codes = s.flash.codes ∧
      RegsKept ((List.finRange 16).map .TEL_HIST) s u) ∧
    (q.addr.page ∈ (s.flash.blocks.at q.addr.blk).prog →
    (∀ w f, ((s.codeAt q.addr).clean = true ∨ (s.codeAt q.addr).poisoned = true) →
      ∃ u, exec (.pageReadDone c lun (.converged w f true) n) s = .next u ∧
      u.flash.done.getLast? = some ⟨q.who, q.tag, q.re, st, s.codeAt q.addr, (s.codeAt q.addr).poisoned, false, false⟩ ∧
      u.flash.run.at (c.val * 32 + lun.val) = none ∧ u.flash.codes = s.flash.codes ∧
      u.fget (.FLC_RD_CNT c) F.FLC_RD_CNT_COUNT = (s.fget (.FLC_RD_CNT c) F.FLC_RD_CNT_COUNT + 1) % 2 ^ F.FLC_RD_CNT_COUNT.len) ∧
    (∀ w f clean k, (clean = false ∨ ((s.codeAt q.addr).clean = false ∧ (s.codeAt q.addr).poisoned = false)) →
      nextStage s.profile.ladderLen st = some k → ∃ u, exec (.pageReadDone c lun (.converged w f clean) n) s = .next u ∧
      u.flash.queue.at c.val = .retry q k offs :: s.flash.queue.at c.val ∧ u.flash.run.at (c.val * 32 + lun.val) = none ∧
      u.flash.done = s.flash.done ∧
      u.fget (.FLC_UE c) F.FLC_UE_MISCORR = min (s.fget (.FLC_UE c) F.FLC_UE_MISCORR + 1) (2 ^ F.FLC_UE_MISCORR.len - 1)) ∧
    (∀ w k, nextStage s.profile.ladderLen st = some k → ∃ u, exec (.pageReadDone c lun (.failed w) n) s = .next u ∧
      u.flash.queue.at c.val = .retry q k offs :: s.flash.queue.at c.val ∧ u.flash.run.at (c.val * 32 + lun.val) = none ∧
      u.flash.done = s.flash.done ∧ RegsKept [.FLC_QLEVEL c] s u) ∧
    (∀ w, nextStage s.profile.ladderLen st = none → ∃ u, exec (.pageReadDone c lun (.failed w) n) s = .next u ∧
      u.flash.done = s.flash.done ++ [⟨q.who, q.tag, q.re, st, s.codeAt q.addr, true, true, false⟩] ∧
      u.fget (.FLC_UE c) F.FLC_UE_COUNT = min (s.fget (.FLC_UE c) F.FLC_UE_COUNT + 1) (2 ^ F.FLC_UE_COUNT.len - 1) ∧
      u.bget (.FLC_EVT c) F.FLC_EVT_UE = true ∧ (u.icu.src.at (256 + c.val)).line = true)))

/-- R245 to R248, R251, R238: the read-threshold loop's probes and their adoption, threshold writes of open-mode LUNs, the patrols and
calibration. -/
def Obligations.ReadLoopAndPatrolComplete : Prop :=
  -- PROBE_ISSUE
  (∀ (c : Chan) (g : Fin 4096) (s : State) (b p v : Nat), (s.flash.groups.at (c.val * 4096 + g.val)).last = some (b, p) →
    s.profile.used.find? (fun v => (s.flash.groups.at (c.val * 4096 + g.val)).lvl ≤ v) = some v →
    s.fget (.FLC_LOOP c) F.FLC_LOOP_PROBE_INT ≠ 0 →
    16 * s.fget (.FLC_LOOP c) F.FLC_LOOP_PROBE_INT ≤ (s.flash.groups.at (c.val * 4096 + g.val)).n →
    s.fget (.FLC_QLEVEL c) F.FLC_QLEVEL_LEVEL ≤ s.lo 3 → s.lunFenced c.val (g.val / 128) = false →
    s.lunIdle c.val (g.val / 128) = true → s.loopRuns c.val (g.val / 128) = true → s.arrayRoom c.val = true →
    s.chanFree c.val (3 * s.priority (41 + c.val) (s.bgTicket c.val) + 2) = true →
    ∃ u up, exec (.probeIssue c g) s = .next u ∧
      u.flash.run.at (c.val * 32 + g.val / 128) =
        some (.probe (c.val * 4096 + g.val) v up (s.flash.groups.at (c.val * 4096 + g.val)).list) ∧
      (u.flash.groups.at (c.val * 4096 + g.val)).offs = (s.flash.groups.at (c.val * 4096 + g.val)).offs ∧
      u.fget (.FLC_PROBE c) F.FLC_PROBE_ISSUED =
        min (s.fget (.FLC_PROBE c) F.FLC_PROBE_ISSUED + 1) (2 ^ F.FLC_PROBE_ISSUED.len - 1) ∧
      RegsKept [.FLC_PROBE c] s u ∧ u = { s with regs := u.regs, flash := u.flash, outbox := u.outbox }) ∧
  -- PROBE_RESULT
  (∀ (c : Chan) (lun : Fin 32) (w : Fin 4097) (s : State) (g v : Nat) (up : Bool) (offs : List Int),
    s.flash.run.at (c.val * 32 + lun.val) = some (.probe g v up offs) → NoRawWaits c.val s →
    ((s.flash.groups.at g).list ≠ offs → ∃ u, exec (.probeResult c lun w) s = .next u ∧
      u.flash.run.at (c.val * 32 + lun.val) = none ∧ u.flash.groups = s.flash.groups ∧
      u.fget (.FLC_DISCARD c) F.FLC_DISCARD_STALE =
        min (s.fget (.FLC_DISCARD c) F.FLC_DISCARD_STALE + 1) (2 ^ F.FLC_DISCARD_STALE.len - 1)) ∧
    ((s.flash.groups.at g).list = offs → w.val + s.fget (.FLC_LOOP c) F.FLC_LOOP_HYST < (s.flash.groups.at g).sbar →
      ∃ u, exec (.probeResult c lun w) s = .next u ∧ u.flash.run.at (c.val * 32 + lun.val) = none ∧
        (u.flash.groups.at g).offs.at v =
          s.profile.clamp ((s.flash.groups.at g).offs.at v + (if up = true then 1 else -1)) ∧
        (∀ k, k ≠ g → u.flash.groups.at k = s.flash.groups.at k) ∧ RegsKept [.FLC_PROBE c] s u) ∧
    ((s.flash.groups.at g).list = offs → (s.flash.groups.at g).sbar ≤ w.val + s.fget (.FLC_LOOP c) F.FLC_LOOP_HYST →
      ∃ u, exec (.probeResult c lun w) s = .next u ∧ u.flash.run.at (c.val * 32 + lun.val) = none ∧
        u.flash.groups = s.flash.groups ∧ u.regs = s.regs)) ∧
  -- THRESHOLD_WRITE
  (∀ (c : Chan) (v : Word) (s : State) (g l : Nat), g = s.fget (.FLC_THR_SEL c) F.FLC_THR_SEL_GROUP →
    l = s.fget (.FLC_THR_SEL c) F.FLC_THR_SEL_LEVEL →
    (s.isOpen c.val (g / 128) = false → exec (.thresholdWrite c v) s = .next s) ∧
    (s.isOpen c.val (g / 128) = true → s.dieFenced 9 = false → l < 15 → ∃ u, exec (.thresholdWrite c v) s = .next u ∧
      (u.flash.groups.at (c.val * 4096 + g)).offs.at l = s.profile.clamp (sbyte (F.FLC_THR_DATA_OFFSET.get v)) ∧
      (∀ k, k ≠ c.val * 4096 + g → u.flash.groups.at k = s.flash.groups.at k) ∧
      u = { s with flash := { s.flash with groups := u.flash.groups } })) ∧
  -- READ_DISTURB_PATROL
  (∀ (c : Chan) (lun : Fin 32) (b : Fin 8192) (s : State) (k : Nat), k = (c.val * 32 + lun.val) * 8192 + b.val →
    (s.chanRuns c.val = true → s.fget (.FLC_PATROL) F.FLC_PATROL_RD_LIMIT * 4096 ≤ (s.flash.blocks.at k).reads →
      ∃ u, exec (.readDisturbPatrol c lun b) s = .next u ∧ (u.flash.blocks.at k).reads = 0 ∧
        (∀ j, j ≠ k → u.flash.blocks.at j = s.flash.blocks.at j) ∧
        (∀ p l, (s.flash.blocks.at k).prog = p :: l → 0 < s.lunK (k / 8192) →
          .read ⟨.patrol, blkAddr k (l.foldl min p) 0, (0, 0), s.bgTicket (k / 262144), 0, false, 0⟩ ∈ u.flash.queue.at (k / 262144))) ∧
    ((s.flash.blocks.at k).reads < s.fget (.FLC_PATROL) F.FLC_PATROL_RD_LIMIT * 4096 →
      exec (.readDisturbPatrol c lun b) s = .next s)) ∧
  -- PATROL_TIMER
  (∀ s : State, ∃ u, exec .patrolTimer s = .next u ∧ u.flash.blocks = s.flash.blocks ∧ u.flash.codes = s.flash.codes ∧
    (∀ b x p l, s.flash.blocks = [(b, x)] → x.prog = p :: l → s.chanRuns (b / 262144) = true → 0 < s.lunK (b / 8192) →
      .read ⟨.patrol, blkAddr b (l.foldl min p) 0, (0, 0), s.bgTicket (b / 262144), 0, false, 0⟩ ∈ u.flash.queue.at (b / 262144)) ∧
    RegsKept ((List.finRange 32).map .FLC_QLEVEL) s u ∧
    u = { s with regs := u.regs, flash := u.flash, tkt := u.tkt, chain := u.chain }) ∧
  -- ZQ_CALIBRATION
  (∀ (c : Chan) (s : State),
    (s.flash.cmds.at c.val < 2 ^ 24 → exec (.zqCalibration c) s = .next s) ∧
    (2 ^ 24 ≤ s.flash.cmds.at c.val → ∃ u, exec (.zqCalibration c) s = .next u ∧ u.flash.cmds.at c.val = 0 ∧
      (∀ k, k ≠ c.val → u.flash.cmds.at k = s.flash.cmds.at k) ∧ u = { s with flash := { s.flash with cmds := u.flash.cmds }, outbox := u.outbox }))

/-- R253 to R257: a zone command on a mounted flash is performed, or refused with its reason; OPEN reserves the superblocks of lowest wear under a
handle that no zone has; FINISH and FREE wait for an append in progress. -/
def Obligations.ZoneCommandsComplete : Prop :=
  ∀ (s : State), s.dieFenced 9 = false → s.fget .FLC_ZONE_STAT F.FLC_ZONE_STAT_STATE ≠ 1 →
  -- ZONE_OPEN
  (∀ (n : Fin 256), s.mounted = true → 1 ≤ n.val → n.val ≤ 128 → n.val ≤ s.freeSb → s.flash.zones.length < 8388608 →
    ∃ u h, exec (.zoneOpen n) s = .next u ∧ (s.flash.zones.at h).st = 0 ∧ u.rget .FLC_ZONE_HANDLE = wordOf h ∧ 1 ≤ h ∧
      h < 2 ^ 32 - 1 ∧ u.flash.zones.at h = ⟨1, n.val, 0, s.pickSbs n.val [], none, 0⟩ ∧
      (∀ k, k ≠ h → u.flash.zones.at k = s.flash.zones.at k) ∧ (∀ i ∈ s.pickSbs n.val [], (u.flash.sbs.at i).st = .used) ∧
      u.fget .FLC_ZONE_STAT F.FLC_ZONE_STAT_STATE = 2 ∧ u.fget .FLC_ZONE_STAT F.FLC_ZONE_STAT_REASON = 0 ∧
      u.flash.codes = s.flash.codes ∧ u.flash.blocks = s.flash.blocks ∧
      RegsKept ([.FLC_ZONE_STAT, .FLC_ZONE_HANDLE, .FLC_CAP, .FLC_CAP_TOTAL] ++ (List.finRange 32).map .FLC_QLEVEL ++ signalRegs) s u) ∧
  (∀ (n : Fin 256) (k : Nat), (k = 3 ∧ s.mounted = false) ∨ (k = 6 ∧ s.mounted = true ∧ (n.val = 0 ∨ 128 < n.val)) ∨
      (k = 1 ∧ s.mounted = true ∧ 1 ≤ n.val ∧ n.val ≤ 128 ∧ s.freeSb < n.val) →
    ∃ u, exec (.zoneOpen n) s = .next u ∧ u.fget .FLC_ZONE_STAT F.FLC_ZONE_STAT_STATE = 3 ∧
      u.fget .FLC_ZONE_STAT F.FLC_ZONE_STAT_REASON = k ∧ Raised 289 s u ∧ RegsKept (.FLC_ZONE_STAT :: signalRegs) s u ∧
      u.flash = s.flash) ∧
  -- ZONE_FINISH
  (s.mounted = true → (s.flash.zones.at s.zoneNamed).st ∈ [1, 3] →
    ((s.flash.zones.at s.zoneNamed).append = none → ∃ u, exec .zoneFinish s = .next u ∧
      (u.flash.zones.at s.zoneNamed).st = (if (s.flash.zones.at s.zoneNamed).st = 1 then 2 else 3) ∧
      (u.flash.zones.at s.zoneNamed).nsb = ceilDiv (s.flash.zones.at s.zoneNamed).wp 8192 ∧
      (u.flash.zones.at s.zoneNamed).sbs =
        (s.flash.zones.at s.zoneNamed).sbs.take (ceilDiv (s.flash.zones.at s.zoneNamed).wp 8192) ∧
      (∀ k, k ≠ s.zoneNamed → u.flash.zones.at k = s.flash.zones.at k) ∧
      u.fget .FLC_ZONE_STAT F.FLC_ZONE_STAT_STATE = 2 ∧ u.flash.codes = s.flash.codes) ∧
    (∀ a, (s.flash.zones.at s.zoneNamed).append = some a → ∃ u, exec .zoneFinish s = .next u ∧
      u.flash.zones.at s.zoneNamed = { s.flash.zones.at s.zoneNamed with after := 2 } ∧
      u.fget .FLC_ZONE_STAT F.FLC_ZONE_STAT_STATE = 1 ∧ RegsKept [.FLC_ZONE_STAT] s u)) ∧
  -- ZONE_FREE
  (s.mounted = true → (s.flash.zones.at s.zoneNamed).st ≠ 0 →
    ((s.flash.zones.at s.zoneNamed).append = none → ∃ u, exec .zoneFree s = .next u ∧
      u.flash.zones.at s.zoneNamed = default ∧ (∀ k, k ≠ s.zoneNamed → u.flash.zones.at k = s.flash.zones.at k) ∧
      u.fget .FLC_ZONE_STAT F.FLC_ZONE_STAT_STATE = 2 ∧ u.flash.codes = s.flash.codes) ∧
    (∀ a, (s.flash.zones.at s.zoneNamed).append = some a → ∃ u, exec .zoneFree s = .next u ∧
      u.flash.zones.at s.zoneNamed = { s.flash.zones.at s.zoneNamed with after := 3 } ∧
      u.fget .FLC_ZONE_STAT F.FLC_ZONE_STAT_STATE = 1 ∧ RegsKept [.FLC_ZONE_STAT] s u)) ∧
  -- ZONE_QUERY
  (s.mounted = true → (s.flash.zones.at s.zoneNamed).st ≠ 0 → ∃ u, exec .zoneQuery s = .next u ∧
    u.fget .FLC_ZONE_STAT F.FLC_ZONE_STAT_ZSTATE = (s.flash.zones.at s.zoneNamed).st % 2 ^ F.FLC_ZONE_STAT_ZSTATE.len ∧
    u.fget .FLC_ZONE_STAT F.FLC_ZONE_STAT_NSB = (s.flash.zones.at s.zoneNamed).nsb % 2 ^ F.FLC_ZONE_STAT_NSB.len ∧
    u.fget .FLC_ZONE_WP F.FLC_ZONE_WP_WP = (s.flash.zones.at s.zoneNamed).wp % 2 ^ F.FLC_ZONE_WP_WP.len ∧
    u.fget .FLC_ZONE_STAT F.FLC_ZONE_STAT_STATE = 2 ∧ Raised 289 s u ∧ u.flash = s.flash ∧
    RegsKept ([.FLC_ZONE_STAT, .FLC_ZONE_WP] ++ signalRegs) s u) ∧
  ((s.mounted = false ∨ (s.flash.zones.at s.zoneNamed).st = 0) → ∀ c ∈ [Instr.zoneFinish, .zoneFree, .zoneQuery],
    ∃ u, exec c s = .next u ∧ u.fget .FLC_ZONE_STAT F.FLC_ZONE_STAT_STATE = 3 ∧
      u.fget .FLC_ZONE_STAT F.FLC_ZONE_STAT_REASON = (if s.mounted = true then 5 else 3) ∧ Raised 289 s u ∧ u.flash = s.flash)

/-- R182, R254, R256: a descriptor that appends takes its place at the write pointer of its OPEN zone and its pages are queued; when all have programmed
the pointer moves past them and the descriptor's outcome is known; on a flash that cannot be mounted, or in a zone that does not take it, it ends with 0x04. -/
def Obligations.AppendsComplete : Prop :=
  -- ZONE_APPEND
  (∀ (m : Mover) (ext : Option (List Byte × List Bool)) (s : State) (r : MvRun),
    (s.movers.at m.val).inflight.find? (fun r => r.d.ok && decide (r.d.dstKind = 2) && !r.started && r.result.isNone) = some r →
    (s.mounted = true → s.mountFailed = false → (s.flash.zones.at (r.d.dst % 2 ^ 32)).append = none →
      (∀ i ∈ (s.flash.zones.at (r.d.dst % 2 ^ 32)).sbs, s.flash.moves.at i = none) →
      (s.flash.zones.at (r.d.dst % 2 ^ 32)).st = 1 →
      (r.d.dst / 2 ^ 32 = 0xFFFFFFFF ∨ r.d.dst / 2 ^ 32 = (s.flash.zones.at (r.d.dst % 2 ^ 32)).wp * 4096) →
      (s.flash.zones.at (r.d.dst % 2 ^ 32)).wp + r.d.len / 4096 ≤ (s.flash.zones.at (r.d.dst % 2 ^ 32)).nsb * 8192 →
      (∀ t, s.moverSource (.ring m.val r.ix) false 5 r ext = .error t → exec (.zoneAppend m ext) s = .next t) ∧
      (∀ src, s.moverSource (.ring m.val r.ix) false 5 r ext = .ok src → sourceUnits src ≠ [] →
        ∃ u a, exec (.zoneAppend m ext) s = .next u ∧ (u.flash.zones.at (r.d.dst % 2 ^ 32)).append = some a ∧ a.m = m.val ∧
          a.ix = r.ix ∧ (a.status, a.errOff) = src.status ∧
          (u.flash.zones.at (r.d.dst % 2 ^ 32)).wp = (s.flash.zones.at (r.d.dst % 2 ^ 32)).wp ∧ u.flash.codes = s.flash.codes ∧
          u.spans = s.spans) ∧
      (r.d.op = 1 → 4096 ≤ r.d.len →
        ∃ u a, exec (.zoneAppend m ext) s = .next u ∧ (u.flash.zones.at (r.d.dst % 2 ^ 32)).append = some a ∧ a.m = m.val ∧
          a.ix = r.ix ∧ (a.status, a.errOff) = (1, 0) ∧ u.flash.codes = s.flash.codes ∧ u.spans = s.spans ∧ u.mem.data = s.mem.data)) ∧
    ((s.mountFailed = true ∨ (s.mounted = true ∧ (s.flash.zones.at (r.d.dst % 2 ^ 32)).append = none ∧
        (∀ i ∈ (s.flash.zones.at (r.d.dst % 2 ^ 32)).sbs, s.flash.moves.at i = none) ∧
        (s.flash.zones.at (r.d.dst % 2 ^ 32)).st ≠ 1)) → ∃ u, exec (.zoneAppend m ext) s = .next u ∧
      (∀ q ∈ (u.movers.at m.val).inflight, q.ix = r.ix → q.result = some (0x04, 0)) ∧ u = { s with movers := u.movers })) ∧
  -- APPEND_COMPLETE
  (∀ (z : Word) (s : State) (a : AppendRun), (s.flash.zones.at z.toNat).append = some a →
    (a.left ≠ 0 → exec (.appendComplete z) s = .next s) ∧
    (a.left = 0 → (s.flash.zones.at z.toNat).after = 0 → ∃ u, exec (.appendComplete z) s = .next u ∧
      (u.flash.zones.at z.toNat).wp = (s.flash.zones.at z.toNat).wp + a.units ∧ (u.flash.zones.at z.toNat).append = none ∧
      (∀ q ∈ (u.movers.at a.m).inflight, q.ix = a.ix → q.result = some (a.status, a.errOff)) ∧
      (u.flash.zones.at z.toNat).st = (if (s.flash.zones.at z.toNat).wp + a.units = (s.flash.zones.at z.toNat).nsb * 8192 ∧
        (s.flash.zones.at z.toNat).st = 1 then 2 else (s.flash.zones.at z.toNat).st) ∧
      (∀ k, k ≠ z.toNat → u.flash.zones.at k = s.flash.zones.at k) ∧ u.flash.codes = s.flash.codes ∧
      (s.flash.relocs = [] → u = { s with movers := u.movers, flash := { s.flash with zones := u.flash.zones } }))) ∧
  -- FLASH_PROGRAM
  (∀ (c : Chan) (s : State) (j : PgmJob) (i : Nat), s.nextCmd c.val = some (.program j, i) →
    NoRawWaits c.val s → s.lunFenced c.val (s.jobAddr j).lun = false → ∃ u, exec (.flashProgram c) s = .next u ∧
      u.flash.run.at (s.jobAddr j).lunKey = some (.program j) ∧
      u.flash.queue.at c.val = (s.flash.queue.at c.val).eraseIdx i ∧ u.flash.cmds.at c.val = s.flash.cmds.at c.val + 2 ∧
      u.flash.codes = s.flash.codes ∧ u.flash.zones = s.flash.zones ∧ RegsKept [.FLC_QLEVEL c] s u) ∧
  -- PROGRAM_STATUS, of a page of an append
  (∀ (c : Chan) (lun : Fin 32) (s : State) (j : PgmJob) (a : AppendRun) (z n q : Nat),
    s.flash.run.at (c.val * 32 + lun.val) = some (.program j) → j.to_ = .append z n q → (s.flash.zones.at z).append = some a →
    NoRawWaits c.val s →
    (∃ u, exec (.programStatus c lun true) s = .next u ∧ u.flash.run.at (c.val * 32 + lun.val) = none ∧
      (u.flash.zones.at z).append = some { a with left := a.left - 1 } ∧
      (∀ i, i < j.units.length →
        u.flash.codes.at (((s.jobAddr j).blk * 16384 + (s.jobAddr j).page) * 8 + i) = some (nth j.units i)) ∧
      (u.flash.blocks.at (s.jobAddr j).blk).prog = (s.flash.blocks.at (s.jobAddr j).blk).prog ++ [(s.jobAddr j).page] ∧
      u = { s with flash := u.flash }) ∧
    (∃ u, exec (.programStatus c lun false) s = .next u ∧ u.flash.run.at (c.val * 32 + lun.val) = none ∧
      (u.flash.blocks.at (s.jobAddr j).blk).bad = 2 ∧ u.bget (.FLC_EVT c) F.FLC_EVT_PGM_FAIL = true ∧
      u.fget (.FLC_FAIL c) F.FLC_FAIL_PGM = min (s.fget (.FLC_FAIL c) F.FLC_FAIL_PGM + 1) (2 ^ F.FLC_FAIL_PGM.len - 1))) ∧
  -- PROGRAM_STATUS, of a page of a relocation
  (∀ (c : Chan) (lun : Fin 32) (s : State) (j : PgmJob) (k i f : Nat) (m : Move),
    s.flash.run.at (c.val * 32 + lun.val) = some (.program j) → j.to_ = .move k i → s.flash.moves.at k = some m → m.new = some f →
    NoRawWaits c.val s →
    ∃ u, exec (.programStatus c lun true) s = .next u ∧ u.flash.run.at (c.val * 32 + lun.val) = none ∧
      u.flash.moves.at k = some { m with passed := m.passed ++ [i], held := m.held.filter (fun h => h.1 ≠ i) } ∧
      (∀ n, n < j.units.length →
        u.flash.codes.at (((s.jobAddr j).blk * 16384 + (s.jobAddr j).page) * 8 + n) = some (nth j.units n)) ∧
      u = { s with flash := u.flash })

/-- R236, R247, R249 to R252, R257, R258: erases, the switch of a relocated superblock, the fence of a LUN that does not answer, and the
ledger's checkpoints. -/
def Obligations.FlashUpkeepComplete : Prop :=
  -- ERASE_STATUS
  (∀ (c : Chan) (lun : Fin 32) (s : State) (b i : Nat), s.nextCmd c.val = some (.erase b, i) → b / 8192 = c.val * 32 + lun.val →
    s.lunFenced c.val lun.val = false → NoRawWaits c.val s →
    (∃ u, exec (.eraseStatus c lun true) s = .next u ∧ (u.flash.blocks.at b).prog = [] ∧ (u.flash.blocks.at b).reads = 0 ∧
      (u.flash.blocks.at b).pe = min ((s.flash.blocks.at b).pe + 1) (2 ^ 24 - 1) ∧
      (∀ x ∈ u.flash.codes, x.1 / 131072 ≠ b) ∧ (∀ k, k ≠ b → u.flash.blocks.at k = s.flash.blocks.at k) ∧
      (s.flash.queue.at c.val).eraseIdx i <+: u.flash.queue.at c.val ∧ u.flash.zones = s.flash.zones) ∧
    (∃ u, exec (.eraseStatus c lun false) s = .next u ∧ (u.flash.blocks.at b).bad = 2 ∧
      u.bget (.FLC_EVT c) F.FLC_EVT_ERS_FAIL = true ∧ u.flash.codes = s.flash.codes)) ∧
  -- RELOCATION_SWITCH: it switches once every page has been programmed, and one that can begin begins
  (∀ (sb : Nat) (s : State) (m : Move), s.flash.moves.at sb = some m →
    ((m.new = none ∨ m.passed.length < m.pages.length) → exec (.relocationSwitch sb) s = .next s) ∧
    (∀ f, m.new = some f → f ≠ sb → m.pages.length ≤ m.passed.length → ∃ u, exec (.relocationSwitch sb) s = .next u ∧
      (u.flash.sbs.at sb).members = (s.flash.sbs.at f).members ∧ (u.flash.sbs.at sb).st = (s.flash.sbs.at sb).st ∧
      sb ∉ u.flash.relocs ∧ u.flash.moves.at sb = none ∧ u.flash.zones = s.flash.zones ∧ u.flash.codes = s.flash.codes)) ∧
  (∀ (sb f : Nat) (s : State), s.flash.moves.at sb = none → s.flash.relocs = [sb] → s.bestFree [] = some f → f ≠ sb →
    s.appending sb = false → (s.flash.sbs.at sb).st = .used → s.mounted = true →
    ∃ u m, exec (.relocationSwitch sb) s = .next u ∧ u.flash.moves.at sb = some m ∧ m.new = some f ∧
      (u.flash.sbs.at f).st = .used ∧ u.flash.codes = s.flash.codes ∧ u.flash.zones = s.flash.zones) ∧
  (∀ (sb : Nat) (s : State), s.flash.moves.at sb = none → (s.flash.relocs = [] ∨ s.bestFree [] = none) →
    exec (.relocationSwitch sb) s = .next s) ∧
  -- LUN_TIMEOUT
  (∀ (c : Chan) (lun : Fin 32) (ok : Bool) (s : State),
    ((s.lunFenced c.val lun.val = true ∨ bitAt (s.fget (.FLC_LUN c) F.FLC_LUN_USED) lun.val = false) →
      exec (.lunTimeout c lun ok) s = .next s) ∧
    (s.lunFenced c.val lun.val = false → bitAt (s.fget (.FLC_LUN c) F.FLC_LUN_USED) lun.val = true →
      ∃ u, exec (.lunTimeout c lun ok) s = .next u ∧
        bitAt (u.fget (.FLC_LUN_FENCE c) F.FLC_LUN_FENCE_FENCED) lun.val = true ∧
        u.bget (.FLC_EVT c) F.FLC_EVT_LUN_FENCED = true ∧ u.flash.run.at (c.val * 32 + lun.val) = none ∧
        (s.logRoom ok = true → ∃ x ∈ u.log.recs, x.typ = 0x08 ∧ x.cause = 5 ∧
          x.a = c.val + lun.val / 4 * 2 ^ 5 + lun.val % 4 * 2 ^ 8))) ∧
  -- LEDGER_CHECKPOINT
  (∀ s : State,
    (s.flash.journal < 2 ^ 16 → exec .ledgerCheckpoint s = .next s) ∧
    (2 ^ 16 ≤ s.flash.journal → exec .ledgerCheckpoint s = .next
      { s with flash := { s.flash with journal := s.flash.journal - 2 ^ 16, saved := s.flash.groups } }))

/-- R235, R237, R253, R259, R260, R261: a format is refused with its reason, or starts, and when it is done every zone and every codeword of a managed LUN
but for its label is gone, and the first 64 superblocks are the ledger's; a mount that may start takes the channels as discovery found them. -/
def Obligations.FormatAndMountComplete : Prop :=
  -- FORMAT
  (∀ (pct : Fin 32) (s : State) (r : Read), s.dieFenced 9 = false →
    r = s.hubRead (sbfAddr (s.fget .FLC_FMT_PROF F.FLC_FMT_PROF_OFFSET)) 512 →
    (∀ k, (k = 1 ∧ (s.flash.fmt.isSome = true ∨ s.flashBusy = true ∨
          (1 ≤ s.fget .FLC_MOUNT F.FLC_MOUNT_STATE ∧ s.fget .FLC_MOUNT F.FLC_MOUNT_STATE ≤ 5))) ∨
        (s.flash.fmt = none ∧ s.flashBusy = false ∧ ¬(1 ≤ s.fget .FLC_MOUNT F.FLC_MOUNT_STATE ∧ s.fget .FLC_MOUNT F.FLC_MOUNT_STATE ≤ 5) ∧
          ((k = 2 ∧ Profile.ok r.bytes = false) ∨
            (k = 3 ∧ pct = 0 ∧ r.err = none ∧ (∀ p ∈ r.pois, p = false) ∧ Profile.ok r.bytes = true))) →
      ∃ u, exec (.format pct) s = .next u ∧ u.fget .FLC_FMT_STAT F.FLC_FMT_STAT_STATE = 3 ∧
        u.fget .FLC_FMT_STAT F.FLC_FMT_STAT_REASON = k ∧ Raised 290 (if k = 1 then s else r.st) u ∧ u.flash = s.flash) ∧
    (s.flash.fmt = none → s.flashBusy = false → ¬(1 ≤ s.fget .FLC_MOUNT F.FLC_MOUNT_STATE ∧ s.fget .FLC_MOUNT F.FLC_MOUNT_STATE ≤ 5) →
      r.err = none → (∀ p ∈ r.pois, p = false) → Profile.ok r.bytes = true → pct ≠ 0 →
      (∃ e ∈ s.flash.luns, s.lunUsable e.1 = true) →
      ∃ u, exec (.format pct) s = .next u ∧ u.flash = { s.flash with fmt := some (pct.val, r.bytes) } ∧
        u.fget .FLC_FMT_STAT F.FLC_FMT_STAT_STATE = 1 ∧ RegsKept (.FLC_FMT_STAT :: memoryRegs) s u)) ∧
  -- FORMAT_DONE
  (∀ (marked : List (Chan × Fin 32 × Fin 8192)) (s : State),
    (s.flash.fmt = none → exec (.formatDone marked) s = .next s) ∧
    (∀ pct prof, s.flash.fmt = some (pct, prof) → ∃ u, exec (.formatDone marked) s = .next u ∧ u.flash.zones = [] ∧
      (∀ k g, s.flash.luns = [(k, some g)] → s.lunUsable k = true → g.fits = true →
        bitAt (s.fget (.FLC_OPEN (Fin.ofNat 32 (k / 32))) F.FLC_OPEN_MASK) (k % 32) = false →
        (∀ x ∈ u.flash.codes, x.1 / 2 ^ 30 = k → x.1 / 8 = k * 2 ^ 27) ∧ (∀ x ∈ u.flash.raws, x.1 / 2 ^ 27 ≠ k) ∧
        ∀ b, k * 8192 < b → b < (k + 1) * 8192 → (u.flash.blocks.at b).prog = []) ∧ u.flash.fmt = none ∧ u.flash.journal = 0 ∧
      u.flash.label.map (·.1) = some prof ∧ (∀ e ∈ u.flash.sbs, e.2.st = if e.1 < 64 then .ledger else .free) ∧
      (∀ x ∈ marked, (u.flash.blocks.at ((x.1.val * 32 + x.2.1.val) * 8192 + x.2.2.val)).bad ≠ 0) ∧
      u.fget .FLC_FMT_STAT F.FLC_FMT_STAT_STATE = 2 ∧ u.fget .FLC_FMT_STAT F.FLC_FMT_STAT_REASON = 0 ∧
      RegsKept ([.FLC_FMT_STAT, .FLC_CAP, .FLC_CAP_TOTAL] ++ signalRegs) s u)) ∧
  -- MOUNT
  (∀ (found : List FoundLun) (trained : List (Fin 8)) (ok : Bool) (s : State),
    (s.fget .FLC_MOUNT F.FLC_MOUNT_STATE ≠ 0 → exec (.mount found trained ok) s = .next s) ∧
    (s.dieFenced 9 = false → s.fget .RTV_STAT F.RTV_STAT_STATE = 1 → s.fget .FLC_MOUNT F.FLC_MOUNT_STATE = 0 →
      ∃ u, exec (.mount found trained ok) s = .next u ∧ u.fget .FLC_MOUNT F.FLC_MOUNT_STATE = 3 ∧
        (∀ c : Chan, (∀ x ∈ usedLuns found, x.chan ≠ c) →
          u.fget (.FLC_STAT c) F.FLC_STAT_STATE = 5 ∧ u.fget (.FLC_LUN c) F.FLC_LUN_USED = 0) ∧
        (∀ c : Chan, s.log.recs = [] → (∃ x ∈ usedLuns found, x.chan = c) →
          channelRate ((usedLuns found).filter (fun x => x.chan.val = c.val)) (s.fget (.FLC_CTL c) F.FLC_CTL_RATE_MAX)
            (((trained[c.val]?).map (·.val)).getD 0) ≠ 0 →
          u.fget (.FLC_STAT c) F.FLC_STAT_STATE = 3)))

/-- R234, R244, R262: when a raw command that channel `c` is given is issued to its LUN at once. -/
def RawIssues (c : Chan) (s : State) : Prop :=
  s.dieFenced 9 = false ∧ s.fget (.FLC_RAW_STAT c) F.FLC_RAW_STAT_STATE ≠ 1 ∧ 3 ≤ s.fget .FLC_MOUNT F.FLC_MOUNT_STATE ∧
    s.isOpen c.val (s.rawAddr c).lun = true ∧ (s.flash.luns.at (c.val * 32 + (s.rawAddr c).lun)).isSome = true ∧
    s.lunFenced c.val (s.rawAddr c).lun = false ∧ s.lunIdle c.val (s.rawAddr c).lun = true ∧ s.arrayRoom c.val = true ∧
    s.nextCmd c.val = none

/-- How a raw command of channel `c` ends with RESULT `r`: STATE 2 or 3, RAW_DONE, and the channel's line. -/
def RawEnds (c : Chan) (r : Nat) (u : State) : Prop :=
  u.fget (.FLC_RAW_STAT c) F.FLC_RAW_STAT_STATE = (if r = 0 then 2 else 3) ∧
    u.fget (.FLC_RAW_STAT c) F.FLC_RAW_STAT_RESULT = r ∧ u.bget (.FLC_EVT c) F.FLC_EVT_RAW_DONE = true ∧
    (u.icu.src.at (256 + c.val)).line = true

/-- R236, R249, R250, R262, R263: what each raw command to an open-mode LUN does, and with which RESULT it ends: 0, 2 and 3 for a program and an
erase that failed, 4 for a page with a codeword that was not decoded, 5 for a LUN that is fenced. -/
def RawCommandsComplete : Prop :=
  ∀ (c : Chan) (t : Ticket) (s : State), RawIssues c s →
  -- RAW_READ_PAGE
  (∀ (units : List RawUnit) (bytes : List Byte) (g : LunGeo), s.flash.luns.at (s.rawAddr c).lunKey = some g →
    (∃ u, exec (.rawReadPage c true t units bytes) s = .next u ∧ RawEnds c 0 u ∧
      (u.flash.blocks.at (s.rawAddr c).blk).reads = (s.flash.blocks.at (s.rawAddr c).blk).reads + 1 ∧
      u.mem.data = (s.rawPut (s.rawBuf c) ((s.pageBytes (s.rawAddr c)).zipIdx.map (fun x => x.1 ^^^ nth bytes x.2)) false).mem.data ∧ u.flash.codes = s.flash.codes) ∧
    (∃ u, exec (.rawReadPage c false t units bytes) s = .next u ∧ u.flash.codes = s.flash.codes ∧
      ((RawEnds c 0 u ∧ u.fget (.FLC_RAW_STAT c) F.FLC_RAW_STAT_CW_OK = 2 ^ g.k - 1) ∨ RawEnds c 4 u))) ∧
  -- RAW_PROGRAM_PAGE
  (∀ (g : LunGeo), s.flash.luns.at (s.rawAddr c).lunKey = some g →
    (∀ raw, ∃ u, exec (.rawProgramPage c raw t false) s = .next u ∧ RawEnds c 2 u ∧
      (u.flash.blocks.at (s.rawAddr c).blk).bad = 2 ∧ u.bget (.FLC_EVT c) F.FLC_EVT_PGM_FAIL = true ∧
      u.flash.codes = s.flash.codes) ∧
    (∃ u, exec (.rawProgramPage c true t true) s = .next u ∧ RawEnds c 0 u ∧
      (s.rawAddr c).page ∈ (u.flash.blocks.at (s.rawAddr c).blk).prog ∧
      u.flash.raws.at ((s.rawAddr c).blk * 16384 + (s.rawAddr c).page) =
        some (s.rawFetch c g.pageBytes).bytes) ∧
    (∃ u, exec (.rawProgramPage c false t true) s = .next u ∧ RawEnds c 0 u ∧
      (s.rawAddr c).page ∈ (u.flash.blocks.at (s.rawAddr c).blk).prog ∧
      ∀ i, i < g.k → ((u.flash.codes.at (((s.rawAddr c).blk * 16384 + (s.rawAddr c).page) * 8 + i)).map (·.data)) =
        some (((((s.rawFetch c (4160 * g.k)).bytes).drop (4160 * i)).take 4160).take 4096))) ∧
  -- RAW_ERASE_BLOCK
  (∃ u, exec (.rawEraseBlock c t true) s = .next u ∧ RawEnds c 0 u ∧ (u.flash.blocks.at (s.rawAddr c).blk).prog = [] ∧
    (∀ x ∈ u.flash.codes, x.1 / 131072 ≠ (s.rawAddr c).blk) ∧
    (∀ b, b ≠ (s.rawAddr c).blk → u.flash.blocks.at b = s.flash.blocks.at b)) ∧
  (∃ u, exec (.rawEraseBlock c t false) s = .next u ∧ RawEnds c 3 u ∧ (u.flash.blocks.at (s.rawAddr c).blk).bad = 2 ∧
    u.bget (.FLC_EVT c) F.FLC_EVT_ERS_FAIL = true ∧ u.flash.codes = s.flash.codes) ∧
  -- RAW_READ_STATUS
  (∀ b : Byte, ∃ u, exec (.rawReadStatus c t b) s = .next u ∧ RawEnds c 0 u ∧
    u.fget (.FLC_RAW_STAT c) F.FLC_RAW_STAT_STATUS = b.toNat ∧
    RegsKept ([.FLC_RAW_STAT c, .FLC_EVT c] ++ signalRegs) s u ∧ u.mem = s.mem) ∧
  -- RAW_GET_FEATURES, RAW_SET_FEATURES
  (∀ (f : Byte) (p : Word), s.profile.offsetFeature f.toNat = false →
    (∃ u, exec (.rawGetFeatures c f t p) s = .next u ∧ RawEnds c 0 u ∧ u.rget (.FLC_RAW_PARAM c) = p ∧
      RegsKept ([.FLC_RAW_PARAM c, .FLC_RAW_STAT c, .FLC_EVT c] ++ signalRegs) s u) ∧
    (∃ u, exec (.rawSetFeatures c f t) s = .next u ∧ RawEnds c 0 u ∧
      RegsKept ([.FLC_RAW_STAT c, .FLC_EVT c] ++ signalRegs) s u ∧ u.mem = s.mem)) ∧
  -- RAW_READ_ID, RAW_READ_PARAMETER_PAGE
  (∀ (l : List Byte), (∃ u, exec (.rawReadId c t l) s = .next u ∧ RawEnds c 0 u ∧
      u.mem.data = (s.rawPut (s.rawBuf c) l false).mem.data ∧
      RegsKept ([.FLC_RAW_STAT c, .FLC_EVT c] ++ memoryRegs) s u) ∧
    (∃ u, exec (.rawReadParameterPage c t l) s = .next u ∧ RawEnds c 0 u ∧
      u.mem.data = (s.rawPut (s.rawBuf c) l false).mem.data ∧
      RegsKept ([.FLC_RAW_STAT c, .FLC_EVT c] ++ memoryRegs) s u)) ∧
  -- RAW_RESET_LUN
  (∀ ok, (∃ u, exec (.rawResetLun c t true ok) s = .next u ∧ RawEnds c 0 u ∧
      RegsKept ([.FLC_RAW_STAT c, .FLC_EVT c] ++ signalRegs) s u) ∧
    (bitAt (s.fget (.FLC_LUN c) F.FLC_LUN_USED) (s.rawAddr c).lun = true → (s.rawAddr c).lun < 32 →
      ∃ u, exec (.rawResetLun c t false ok) s = .next u ∧ RawEnds c 5 u ∧
        bitAt (u.fget (.FLC_LUN_FENCE c) F.FLC_LUN_FENCE_FENCED) (s.rawAddr c).lun = true))

/-- R262: a raw command to a LUN that is not open-mode, or for a read-offset feature, is not issued and ends with RESULT 1; one to a
fenced LUN ends with RESULT 5; while another is busy, or the retrieval die fenced, it is ignored. -/
def RawCommandsRefused : Prop :=
  ∀ (c : Chan) (t : Ticket) (s : State) (i : Instr) (raw pass ok : Bool) (f : Byte) (p : Word) (us : List RawUnit) (l : List Byte),
    i ∈ [Instr.rawReadPage c raw t us l, .rawProgramPage c raw t pass, .rawEraseBlock c t pass, .rawReadStatus c t f,
      .rawGetFeatures c f t p, .rawSetFeatures c f t, .rawReadId c t l, .rawReadParameterPage c t l, .rawResetLun c t pass ok] →
    ((s.dieFenced 9 = true ∨ s.fget (.FLC_RAW_STAT c) F.FLC_RAW_STAT_STATE = 1) → exec i s = .next s) ∧
    (s.dieFenced 9 = false → s.fget (.FLC_RAW_STAT c) F.FLC_RAW_STAT_STATE ≠ 1 →
      (s.isOpen c.val (s.rawAddr c).lun = false → ∃ u, exec i s = .next u ∧ RawEnds c 1 u ∧ u.flash = s.flash ∧
        RegsKept ([.FLC_RAW_STAT c, .FLC_EVT c] ++ signalRegs) s u) ∧
      (s.isOpen c.val (s.rawAddr c).lun = true → 3 ≤ s.fget .FLC_MOUNT F.FLC_MOUNT_STATE →
        (s.flash.luns.at (c.val * 32 + (s.rawAddr c).lun)).isSome = true → s.lunFenced c.val (s.rawAddr c).lun = true →
        s.profile.offsetFeature f.toNat = false → s.nextCmd c.val = none → ∃ u, exec i s = .next u ∧ RawEnds c 5 u ∧ u.flash = s.flash))

/-- R234, R244, R262: a raw command waits while its LUN is busy or its channel has a command that comes before it: STATE is busy; it is performed
once it is the channel's next command. -/
def RawCommandsWait : Prop :=
  (∀ (c : Chan) (t : Ticket) (b : Byte) (s : State), s.dieFenced 9 = false → s.fget (.FLC_RAW_STAT c) F.FLC_RAW_STAT_STATE ≠ 1 →
    3 ≤ s.fget .FLC_MOUNT F.FLC_MOUNT_STATE → s.isOpen c.val (s.rawAddr c).lun = true →
    (s.flash.luns.at (c.val * 32 + (s.rawAddr c).lun)).isSome = true → s.lunFenced c.val (s.rawAddr c).lun = false →
    s.lunIdle c.val (s.rawAddr c).lun = false → ∃ u, exec (.rawReadStatus c t b) s = .next u ∧
      u.flash.queue.at c.val = s.flash.queue.at c.val ++ [.raw ⟨.status b, s.rawAddr c, rawTicket t⟩] ∧
      u.fget (.FLC_RAW_STAT c) F.FLC_RAW_STAT_STATE = 1 ∧ u.flash.run = s.flash.run ∧
      RegsKept [.FLC_RAW_STAT c, .FLC_QLEVEL c] s u) ∧
  (∀ (c : Chan) (s : State) (j : RawJob) (i : Nat), s.nextCmd c.val = some (.raw j, i) →
    ∀ x ∈ [Instr.flashRead c, .flashProgram c], exec x s = .next ((s.dequeue c.val i).rawPerform c j))

/-- R236, R249, R250, R262, R263: raw commands, issued, refused and waiting. -/
def Obligations.RawFlashCommands : Prop := RawCommandsComplete ∧ RawCommandsRefused ∧ RawCommandsWait

/-- R131, R226, R266, R267, R271, R277, R278, R282, R283, R294: the head of a pipeline is admitted when its slot and contexts are free, and else its want of them is
reported; it waits while its requests are held, and no query is admitted while an entry that names an engine of the pipeline does not run; a
unit delivered to a query counts for it, or is discarded when the query fails; a walk's next round begins when every read of the last one is in; the
result index moves forwards only. -/
def Obligations.QueriesAdvance : Prop :=
  -- QUERY_ADMIT
  (∀ (p : Fin 64) (s : State),
    (s.hasHead p.val = false → exec (.queryAdmit p) s = .next s) ∧
    (s.hasHead p.val = true → s.admitHold p.val = none → PathsFree s → ∃ u q, exec (.queryAdmit p) s = .next u ∧
      u.rget (.RTV_QRD p) = wordOf (s.qrd p.val + 1) ∧ u.retr.queries.at (qkey p.val (s.qrd p.val)) = some q ∧
      q.pipe = p.val ∧ q.ix = s.qrd p.val ∧ q.stage = 0 ∧ q.ticket = (s.queuePart p.val).ticket ∧ u.spans = s.spans ∧
      u.fuses = s.fuses) ∧
    (∀ h, s.hasHead p.val = true → s.admitHold p.val = none → s.takeHead p.val = .error h →
      exec (.queryAdmit p) s = .next (s.waitFor (s.headQuery p.val).unit h)) ∧
    (∀ e j, e < 16 → bitAt (s.pipe p.val).reMask e = true → s.ownEntry (.re e) = some j → (s.spans.at j).st ≠ .running →
      exec (.queryAdmit p) s = .next s) ∧
    (s.hasHead p.val = true → s.admitHold p.val = some .eng → exec (.queryAdmit p) s = .next s) ∧
    (s.hasHead p.val = true → s.admitHold p.val = some .res → ∃ u, exec (.queryAdmit p) s = .next u ∧
      u.bget .RTV_EVT F.RTV_EVT_RES_FULL = true ∧ RegsKept (.RTV_EVT :: signalRegs) s u ∧ u.retr = s.retr) ∧
    (s.hasHead p.val = true → s.admitHold p.val = some .ctx → ∃ u, exec (.queryAdmit p) s = .next u ∧
      u.bget .RTV_EVT F.RTV_EVT_CTX_FULL = true ∧ RegsKept (.RTV_EVT :: signalRegs) s u ∧ u.retr = s.retr)) ∧
  -- UNIT_DELIVERED
  (∀ (p : Fin 64) (i : Word) (s s1 : State) (q : Query) (d : FDone), s.retr.queries.at (qkey p.val i.toNat) = some q →
    s.nextUnit (qkey p.val i.toNat) = some (d, s1) →
    (q.fail.isSome = true → ∃ u, exec (.unitDelivered p i) s = .next u ∧
      u.retr.queries.at (qkey p.val i.toNat) = some { q with fly := q.fly - 1 } ∧ u.flash.done = s.flash.done.erase d ∧
      u = { s with flash := u.flash, retr := u.retr }) ∧
    (q.fail = none → ∃ u q', exec (.unitDelivered p i) s = .next u ∧ u.retr.queries.at (qkey p.val i.toNat) = some q' ∧
      q'.units = q.units + 1 ∧ (u.retr.pipes.at p.val).cntU = ((s.retr.pipes.at p.val).cntU + 1) % 2 ^ 32 ∧
      (s.flash.done.count d = 1 → d ∉ u.flash.done) ∧ u.spans = s.spans ∧ u.mem = s.mem)) ∧
  -- WALK_ROUND
  (∀ (p : Fin 64) (i : Word) (s : State) (q : Query), s.retr.queries.at (qkey p.val i.toNat) = some q →
    q.fail = none → q.fin = none → q.sel ≠ [] → q.sel.length = (q.list.filter (fun x => x.st = .reading)).length →
    (∀ q1, ({ q with sel := [] } : Query).expandAll q.desc (q.sel.foldr nodeIns []) = .ok q1 →
      ∃ u q', exec (.walkRound p i) s = .next u ∧ u.retr.queries.at (qkey p.val i.toNat) = some q' ∧ q'.sel = q1.sel ∧
        q'.heaps = q1.heaps ∧ q'.visited = q1.visited ∧ q'.evals = q1.evals ∧ u.spans = s.spans ∧ u.mem = s.mem) ∧
    (∀ n, ({ q with sel := [] } : Query).expandAll q.desc (q.sel.foldr nodeIns []) = .error n → q.stage = 0 →
      ∃ u q', exec (.walkRound p i) s = .next u ∧ u.retr.queries.at (qkey p.val i.toNat) = some q' ∧ q'.fail = some 0x08 ∧
        u.spans = s.spans ∧ u.mem = s.mem)) ∧
  -- RESULT_READ_ADVANCE
  (∀ (p : Fin 64) (v : Word) (s : State),
    ((s.pipe p.val).valid = false → exec (.resultReadAdvance p v) s = .next s) ∧
    ((s.pipe p.val).valid = true → ahead (s.rrd p.val) v.toNat ≤ ahead (s.rrd p.val) (s.qrd p.val) →
      ∃ u, exec (.resultReadAdvance p v) s = .next u ∧ u.rget (.RTV_RRD p) = v ∧ OnlyRegs [.RTV_RRD p] s u) ∧
    ((s.pipe p.val).valid = true → ahead (s.rrd p.val) (s.qrd p.val) < ahead (s.rrd p.val) v.toNat →
      ∃ u, exec (.resultReadAdvance p v) s = .next u ∧ u.bget .RTV_EVT F.RTV_EVT_OVR = true ∧ OnlyRegs [.RTV_EVT] s u))

/-- R226, R276, R283, R285 to R291: a query whose search is over writes its records, then its header, and is forwarded or over, when the requests of its ticket are let go; one that fails reports so; the forwards of a pipeline
leave in order, and a completion of the rerank span frees the oldest; a fenced retrieval engine is logged. -/
def Obligations.QueriesEndAndForward : Prop :=
  -- QUERY_END
  (∀ (p : Fin 64) (i : Word) (s s1 : State) (q : Query), s.retr.queries.at (qkey p.val i.toNat) = some q →
    q.fin ≠ none → q.fail = none → q.fly = 0 → q.stage = 0 →
    (PathsFree s → ∃ u, exec (.queryEnd p i) s = .next u ∧ u.spans = s.spans ∧
      ∃ q', u.retr.queries.at (qkey p.val i.toNat) = some q' ∧ (q'.stage = 1 ∨ q'.fail = some 0x0B)) ∧
    (s.rtvWrite q (q.slotAddr + 0x40) ((heapMerge (QDesc.k q.desc) (q.heaps.map (·.2))).flatMap QRec.bytes) = .ok (s1, true) →
    ∃ u, exec (.queryEnd p i) s = .next u ∧
      u.retr.queries.at (qkey p.val i.toNat) =
        some { q with stage := 1, recs := heapMerge (QDesc.k q.desc) (q.heaps.map (·.2)) } ∧
      u.mem = s1.mem ∧ RegsKept memoryRegs s u ∧ u.spans = s.spans) ∧
    (∀ h, s.rtvWrite q (q.slotAddr + 0x40) ((heapMerge (QDesc.k q.desc) (q.heaps.map (·.2))).flatMap QRec.bytes) = .error h →
      exec (.queryEnd p i) s = .next (s.waitFor q.unit h))) ∧
  (∀ (p : Fin 64) (i : Word) (s : State), s.retr.queries.at (qkey p.val i.toNat) = none →
    exec (.queryEnd p i) s = .next s ∧ exec (.queryFail p i) s = .next s ∧ exec (.resultHeaderWrite p i) s = .next s) ∧
  -- QUERY_FAIL
  (∀ (p : Fin 64) (i : Word) (s : State) (q : Query) (c : Nat), s.retr.queries.at (qkey p.val i.toNat) = some q →
    q.fail = some c → q.fly = 0 → q.stage = 0 → ∃ u, exec (.queryFail p i) s = .next u ∧
      u.retr.queries.at (qkey p.val i.toNat) = some { q with stage := 1, recs := [], slots := [], wslot := none, ctx := 0 } ∧
      u.fget .RTV_FAIL F.RTV_FAIL_STATUS = c % 2 ^ F.RTV_FAIL_STATUS.len ∧ u.fget .RTV_FAIL F.RTV_FAIL_PIPE = p.val ∧
      u.rget .RTV_FAIL_IDX = i ∧ u.bget .RTV_EVT F.RTV_EVT_FAIL = true ∧
      (s.bget .RTV_EVT F.RTV_EVT_FAIL = false → Raised 296 s u) ∧
      RegsKept ([.RTV_FAIL, .RTV_FAIL_IDX, .RTV_EVT] ++ signalRegs) s u ∧ u.mem = s.mem) ∧
  -- RESULT_HEADER_WRITE
  (∀ (p : Fin 64) (i : Word) (s : State) (q : Query), s.retr.queries.at (qkey p.val i.toNat) = some q → q.stage = 1 → PathsFree s →
    (q.fail ≠ none → ∃ u, exec (.resultHeaderWrite p i) s = .next u ∧ u.retr.queries.at (qkey p.val i.toNat) = none ∧
      (u.retr.pipes.at p.val).ended = ((s.retr.pipes.at p.val).ended + 1) % 2 ^ 32 ∧
      (u.retr.pipes.at p.val).failed = ((s.retr.pipes.at p.val).failed + 1) % 2 ^ 32) ∧
    (q.fail = none → (s.pipe p.val).toHost = true → ∃ u, exec (.resultHeaderWrite p i) s = .next u ∧
      u.retr.queries.at (qkey p.val i.toNat) = none ∧
      (u.retr.pipes.at p.val).ended = ((s.retr.pipes.at p.val).ended + 1) % 2 ^ 32 ∧
      (u.retr.pipes.at p.val).failed = (s.retr.pipes.at p.val).failed) ∧
    (q.fail = none → (s.pipe p.val).toHost = false → QDesc.nofwd q.desc = false →
      (s.image.routes.at (s.pipe p.val).rerank).valid = true → ∃ u, exec (.resultHeaderWrite p i) s = .next u ∧
        u.retr.queries.at (qkey p.val i.toNat) = some { q with stage := 2 } ∧
        (u.retr.pipes.at p.val).waiting = (s.retr.pipes.at p.val).waiting ++ [qkey p.val i.toNat])) ∧
  -- FORWARD_START
  (∀ (p : Fin 64) (s : State) (k : Nat) (rest : List Nat) (q : Query), (s.retr.pipes.at p.val).waiting = k :: rest →
    s.retr.queries.at k = some q → (s.image.routes.at (s.pipe p.val).rerank).valid = true →
    PathsFree s →
    (s.nwin p.val ≤ (s.retr.pipes.at p.val).outst + (s.retr.pipes.at p.val).copying.length →
      exec (.forwardStart p) s = .next s) ∧
    ((s.retr.pipes.at p.val).outst + (s.retr.pipes.at p.val).copying.length < s.nwin p.val →
      ∃ u, exec (.forwardStart p) s = .next u ∧ (u.retr.pipes.at p.val).waiting = rest ∧
        (u.retr.pipes.at p.val).copying = (s.retr.pipes.at p.val).copying ++ [(k, (s.retr.pipes.at p.val).fwd)] ∧
        (u.retr.pipes.at p.val).fwd = (s.retr.pipes.at p.val).fwd + 1 ∧ u.spans = s.spans)) ∧
  -- FORWARD_DOORBELL
  (∀ (p : Fin 64) (s : State),
    ((s.retr.pipes.at p.val).copying = [] → exec (.forwardDoorbell p) s = .next s) ∧
    (∀ k n rest, (s.retr.pipes.at p.val).copying = (k, n) :: rest → ∃ u, exec (.forwardDoorbell p) s = .next u ∧
      (u.retr.pipes.at p.val).copying = rest ∧ u.retr.queries.at k = none)) ∧
  -- FORWARD_FREE
  (∀ (p : Fin 64) (s : State),
    (0 < (s.retr.pipes.at p.val).completions → 0 < (s.retr.pipes.at p.val).outst →
      ∃ u, exec (.forwardFree p) s = .next u ∧ u.retr.pipes.at p.val = { s.retr.pipes.at p.val with
          completions := (s.retr.pipes.at p.val).completions - 1, outst := (s.retr.pipes.at p.val).outst - 1 } ∧
        (∀ k, k ≠ p.val → u.retr.pipes.at k = s.retr.pipes.at k) ∧
        u = { s with retr := { s.retr with pipes := u.retr.pipes } }) ∧
    (((s.retr.pipes.at p.val).completions = 0 ∨ (s.retr.pipes.at p.val).outst = 0) → exec (.forwardFree p) s = .next s)) ∧
  -- RE_FENCE
  (∀ (m : Fin 65536) (ok : Bool) (s : State), ∃ u, exec (.reFence m ok) s = .next u ∧
    (∀ e, e < 16 → bitAt (u.fget .RTV_STAT F.RTV_STAT_RE_FENCED) e =
      (bitAt (s.fget .RTV_STAT F.RTV_STAT_RE_FENCED) e || bitAt m.val e)) ∧
    (∀ e, e < 16 → bitAt m.val e = true → bitAt (s.fget .RTV_STAT F.RTV_STAT_RE_FENCED) e = false →
      u.bget .RTV_EVT F.RTV_EVT_RE_FENCED = true ∧
      (ok = true → s.log.recs.length + 16 ≤ 131072 → ⟨0x0B, 0, e, 0, 0, false⟩ ∈ u.log.recs)) ∧
    s.log.recs <+: u.log.recs ∧ RegsKept ([.RTV_STAT, .RTV_EVT, .BUP_STAT] ++ signalRegs) s u ∧ u.mem = s.mem)

/-- R118, R123, R298 to R303: an accepted flit is delivered and the next number expected: a write that a header asks for waits for its data
flits, a read is answered by its TAG; an accepted chain word continues its message, which goes on when it is whole; one out of sequence is dropped; one whose CRC fails is asked
for again and counted, and after eight successive failing replays a flit whose VPAR agrees is accepted all the same.  A flit has 32 words. -/
def Obligations.FlitsAndFramesComplete : Prop :=
  -- FLIT_RECEIVE
  (∀ (p : Bundle) (dir : Bool) (f : Flit) (q : Fin 97) (s : State), f.words.length ≠ 32 →
    exec (.flitReceive p dir f q) s = .fault (.illFormed "FLIT_RECEIVE: words")) ∧
  (∀ (p : Bundle) (dir : Bool) (f : Flit) (q : Fin 97) (s : State), f.words.length = 32 →
    (s.bundleLive p.val = false ∨ bitAt f.valid.val 0 = false ∨ s.edgeFull p.val (dirNo dir) = true) →
      exec (.flitReceive p dir f q) s = .next s) ∧
  (∀ (p : Bundle) (dir : Bool) (f : Flit) (q : Fin 97) (s : State) (d : DirUnit) (hs : List CmdHdr), f.words.length = 32 →
    s.bundleLive p.val = true → bitAt f.valid.val 0 = true → s.edgeFull p.val (dirNo dir) = false → d = s.dirOf p.val (dirNo dir) →
    ((flitCrc f = f.crc.val ∧ bits f.valid.val 2 5 = d.seq) ∨ (flitCrc f ≠ f.crc.val ∧ 8 ≤ d.fails ∧ vparOk f.valid.val = true)) →
    (∀ w ∈ f.words, (flitWord w).2.2 = none) → hs = headersOf (f.words.map (fun w => (flitWord w).1)) →
    ∃ u, exec (.flitReceive p dir f q) s = .next u ∧ (u.dirOf p.val (dirNo dir)).seq = (d.seq + 1) % 32 ∧
      (u.dirOf p.val (dirNo dir)).fails = 0 ∧ u.spans = s.spans ∧
      .flit p.val dir (bits f.valid.val 1 1) (bits f.valid.val 7 9) (f.words.map (fun w => (flitWord w).1))
        ((List.range 32).filter (fun i => match (f.words.map flitWord)[i]? with
          | some w => w.2.1
          | none => false)) f.man.val ∈ u.outbox ∧
      -- a data flit for no write, and headers that ask for no read: what waits is listed, and memory stays as it is
      (((bitAt f.valid.val 1 = false ∧ ∀ w ∈ d.writes, w.hdr.tag ≠ bits f.valid.val 7 9) ∨
          (bitAt f.valid.val 1 = true ∧ ∀ h ∈ hs, h.op = 0 ∨ 3 ≤ h.op)) →
        (u.dirOf p.val (dirNo dir)).acc = d.acc + 1 ∧
        (u.dirOf p.val (dirNo dir)).writes = d.writes ++ (if bitAt f.valid.val 1 then
          (hs.filter (fun h => decide (3 ≤ h.op ∧ h.op ≤ 6))).map (fun h => ⟨h, []⟩) else []) ∧
        RegsKept ([.CWY_RX p, .CWY_TX p, .CWY_CRC p, .CWY_EVT p, .CDI_EDGE (Fin.ofNat 8 (p.val / 8)) (Fin.ofNat 8 p.val)] ++
          signalRegs) s u ∧ u.mem = s.mem) ∧
      -- a read is answered with flits of its TAG, or waits
      (∀ h, bitAt f.valid.val 1 = true → hs.filter (fun h => h.op ≠ 0) = [h] → (h.op = 1 ∨ h.op = 2) →
        (∃ x ∈ (u.dirOf p.val (dirNo dir)).asked, x.2 = h) ∨
        (∃ o kind i ws m, .flitSent o (!dir) kind h.tag i ws m ∈ u.outbox))) ∧
  (∀ (p : Bundle) (dir : Bool) (f : Flit) (q : Fin 97) (s : State) (d : DirUnit), f.words.length = 32 →
    s.bundleLive p.val = true → bitAt f.valid.val 0 = true → s.edgeFull p.val (dirNo dir) = false → d = s.dirOf p.val (dirNo dir) →
    (flitCrc f = f.crc.val → bits f.valid.val 2 5 ≠ d.seq → ∃ u, exec (.flitReceive p dir f q) s = .next u ∧
      (u.dirOf p.val (dirNo dir)).seq = d.seq ∧ (u.dirOf p.val (dirNo dir)).acc = d.acc ∧ u = { s with cwy := u.cwy }) ∧
    (flitCrc f ≠ f.crc.val → d.fails < 8 → ∃ u, exec (.flitReceive p dir f q) s = .next u ∧
      (u.dirOf p.val (dirNo dir)).fails = d.fails + 1 ∧ (u.dirOf p.val (dirNo dir)).seq = d.seq ∧
      u.outbox = .dnak p.val dir ((d.seq + 31) % 32) :: s.outbox ∧
      u.fget (.CWY_CRC p) F.CWY_CRC_CRC_ERR =
        min (s.fget (.CWY_CRC p) F.CWY_CRC_CRC_ERR + 1) (2 ^ F.CWY_CRC_CRC_ERR.len - 1) ∧
      RegsKept [.CWY_CRC p, .CWY_TX p] s u ∧ u = { s with regs := u.regs, cwy := u.cwy, outbox := u.outbox }) ∧
    (flitCrc f ≠ f.crc.val → 8 ≤ d.fails → vparOk f.valid.val = false → s.bundleState p.val = 2 → s.level2 = true →
      s.bundleState (bundleMate p.val) ≠ 3 → ∃ u, exec (.flitReceive p dir f q) s = .next u ∧ u.bundleState p.val = 3 ∧
        dirNo dir * 128 + s.laneCarrier p.val (dirNo dir) 64 ∈ (u.cwy.at p.val).failing ∧ u.outbox = s.outbox)) ∧
  -- DNAK_RECEIVE
  (∀ (p : Bundle) (dir : Bool) (n : Fin 32) (s : State),
    (s.bundleLive p.val = false → exec (.dnakReceive p dir n) s = .next s) ∧
    (s.bundleLive p.val = true → ∃ u, exec (.dnakReceive p dir n) s = .next u ∧
      u.dirOf p.val (dirNo dir) = { s.dirOf p.val (dirNo dir) with ack := n.val } ∧
      u.fget (.CWY_CRC p) F.CWY_CRC_REPLAY =
        min (s.fget (.CWY_CRC p) F.CWY_CRC_REPLAY + 1) (2 ^ F.CWY_CRC_REPLAY.len - 1) ∧
      RegsKept [.CWY_CRC p] s u ∧ u = { s with regs := u.regs, cwy := u.cwy })) ∧
  -- CHAIN_FRAME_RECEIVE
  (∀ (p : Bundle) (dir : Bool) (x : BitVec 64) (s : State), s.bundleState p.val ∉ [1, 2, 4] →
    exec (.chainFrameReceive p dir x) s = .next s) ∧
  (∀ (p : Bundle) (dir : Bool) (x : BitVec 64) (s : State) (d : DirUnit), s.bundleState p.val ∈ [1, 2, 4] → d = s.dirOf p.val (dirNo dir) →
    (crc16 (bitsLow 48 x.toNat) = bits x.toNat 48 16 → bitAt x.toNat 0 = true → bits x.toNat 35 3 = d.cseq →
      ∃ u, exec (.chainFrameReceive p dir x) s = .next u ∧ (u.dirOf p.val (dirNo dir)).cseq = (d.cseq + 1) % 8 ∧
        (u.dirOf p.val (dirNo dir)).cfails = 0 ∧ (u.dirOf p.val (1 - dirNo dir)).cack = bits x.toNat 38 3 ∧
        (u.dirOf p.val (1 - dirNo dir)).ack = bits x.toNat 42 5 ∧
        (∀ lvl l, lvl = b2n (bitAt x.toNat 1) →
          l = (if bitAt x.toNat 2 then [bits x.toNat 3 32] else d.chainIn.at lvl ++ [bits x.toNat 3 32]) →
          (bitAt x.toNat 2 = true ∨ d.chainIn.at lvl ≠ []) →
          (l.length < 1 + bits (l.headD 0) 4 2 → (u.dirOf p.val (dirNo dir)).chainIn.at lvl = l ∧ u.chain = s.chain ∧ u.outbox = s.outbox) ∧
          (1 + bits (l.headD 0) 4 2 ≤ l.length → (u.dirOf p.val (dirNo dir)).chainIn.at lvl = [] ∧
            (dir = true → u.outbox = s.outbox ∧ u.chain.waiting = s.chain.waiting ++
              [(p.val + 1, { ChainMsg.parse l with lanes := s.lanesFor (ChainMsg.parse l) })]) ∧
            (dir = false → u.chain = s.chain ∧ u.outbox = .chain { ChainMsg.parse l with lanes := [p.val] } :: s.outbox))) ∧
        RegsKept [.CWY_CRC p] s u ∧ u = { s with regs := u.regs, cwy := u.cwy, outbox := u.outbox, chain := u.chain }) ∧
    (crc16 (bitsLow 48 x.toNat) ≠ bits x.toNat 48 16 → d.cfails < 8 →
      ∃ u, exec (.chainFrameReceive p dir x) s = .next u ∧ (u.dirOf p.val (dirNo dir)).cfails = d.cfails + 1 ∧
        u.outbox = .cnak p.val dir ((d.cseq + 7) % 8) :: s.outbox ∧ RegsKept [.CWY_CRC p] s u ∧
        u = { s with regs := u.regs, cwy := u.cwy, outbox := u.outbox }))

/-- R297, R307 to R309, R312 to R314, R316: bundles retrain, come back at the width that their bad lanes allow, and retire, with their maps in the
defect log; a die whose discovery does not fit is fenced. -/
def Obligations.BundlesRetrainAndRetire : Prop :=
  -- BUNDLE_RETRAIN
  (∀ (p : Bundle) (s : State),
    ((s.bundleLive p.val = false ∨ s.level2 = false) → exec (.bundleRetrain p) s = .next s) ∧
    (s.bundleLive p.val = true → s.level2 = true → s.bundleState (bundleMate p.val) ≠ 3 →
      ∃ u, exec (.bundleRetrain p) s = .next u ∧ u.bundleState p.val = 3 ∧
        RegsKept ((bundlesOf (bundleDie p.val)).map (fun q => .CWY_STAT (bundleNo q))) s u ∧
        u = { s with regs := u.regs, cwy := u.cwy }) ∧
    (s.bundleLive p.val = true → s.level2 = true → s.bundleState (bundleMate p.val) = 3 →
      ∃ u, exec (.bundleRetrain p) s = .next u ∧ u.cwy.at p.val = { s.cwy.at p.val with wait := true } ∧
        u = { s with cwy := u.cwy })) ∧
  -- RETRAIN_DONE
  (∀ (p : Bundle) (b0 b1 : List (Fin 70)) (ok : Bool) (s : State),
    (s.bundleState p.val ≠ 3 → exec (.retrainDone p b0 b1 ok) s = .next s) ∧
    (s.bundleState p.val = 3 → s.fget .TST_STAT F.TST_STAT_STATE = 0 → ∃ u, exec (.retrainDone p b0 b1 ok) s = .next u ∧
      u.bundleState p.val ∈ [2, 4, 5] ∧ (u.cwy.at p.val).failing = [])) ∧
  (∀ (p : Bundle) (ok : Bool) (s : State) (m0 m1 : List Nat), s.bundleState p.val = 3 → s.fget .TST_STAT F.TST_STAT_STATE = 0 →
    (s.cwy.at p.val).failing = [] →
    repairMap (s.rget (repairReg p.val 0)) (s.dirOf p.val 0).bad (s.dirOf p.val 0).spareBad = some m0 →
    repairMap (s.rget (repairReg p.val 1)) (s.dirOf p.val 1).bad (s.dirOf p.val 1).spareBad = some m1 →
    ∃ u, exec (.retrainDone p [] [] ok) s = .next u ∧ u.bundleState p.val = 2 ∧ u.rget (repairReg p.val 0) = repairWord m0 ∧
      u.rget (repairReg p.val 1) = repairWord m1 ∧ u.bget (.CWY_EVT p) F.CWY_EVT_RETRAINED = true) ∧
  -- BUNDLE_RETIRE, CLOCK_PAIR_LOST
  (∀ (p : Bundle) (dir ok : Bool) (s : State),
    (s.bundleState p.val ∈ [0, 5] → exec (.bundleRetire p ok) s = .next s ∧ exec (.clockPairLost p dir ok) s = .next s) ∧
    (s.bundleState p.val ∉ [0, 5] →
      (∃ u, exec (.bundleRetire p ok) s = .next u ∧ u.bundleState p.val = 5 ∧ u.bget (.CWY_EVT p) F.CWY_EVT_RETIRED = true ∧
        u.rget (repairReg p.val 0) = s.rget (repairReg p.val 0) ∧
        (ok = true → s.log.recs.length < 131072 → ∃ x ∈ u.log.recs, x.typ = 0x06 ∧ x.cause = 0 ∧ x.a = p.val + 5 * 256)) ∧
      (∃ u, exec (.clockPairLost p dir ok) s = .next u ∧ u.bundleState p.val = 5 ∧
        (dir = false → (u.cwy.at p.val).clkFail = true)))) ∧
  -- DISC_RECEIVE
  (∀ (p : Bundle) (w1 w2 : Word) (ok : Bool) (s : State) (pos : Nat), pos = bundleDie p.val → s.bundleState p.val ∉ [0, 5] →
    (∀ q ∈ bundlesOf pos, q ≠ p.val → s.fget (.CWY_DISC (bundleNo q)) F.CWY_DISC_KIND = 0) →
    (F.CWY_DISC_KIND.get w1 = dieKind pos → 1 ≤ F.CWY_DISC_FEATURE.get w1 → F.CWY_DISC_LOCAL.get w1 = bundleIx p.val →
      ∃ u, exec (.discReceive p w1 w2 ok) s = .next u ∧ u.rget (.CWY_DISC p) = w1 &&& 0x07FFFF0F ∧
        (u.bup.dies.at pos).feature = F.CWY_DISC_FEATURE.get w1 ∧ (u.bup.dies.at pos).stepping = F.CWY_DISC_STEPPING.get w1 ∧
        (u.bup.dies.at pos).serial = w2.toNat ∧ RegsKept [.CWY_DISC p] s u ∧ u = { s with regs := u.regs, bup := u.bup }) ∧
    ((F.CWY_DISC_KIND.get w1 ≠ dieKind pos ∨ F.CWY_DISC_FEATURE.get w1 = 0 ∨ F.CWY_DISC_LOCAL.get w1 ≠ bundleIx p.val) →
      ∃ u, exec (.discReceive p w1 w2 ok) s = .next u ∧ u.dieFenced pos = true)) ∧
  (∀ (p : Bundle) (w1 w2 : Word) (ok : Bool) (s : State), s.bundleState p.val ∈ [0, 5] → exec (.discReceive p w1 w2 ok) s = .next s)

/-- R1, R3, R320, R330, R331: the states of a port, and which ports begin detection: what each event does to a port in the state that it applies to, and that it leaves the state of any other
as it is. -/
def Obligations.PortStatesChange : Prop :=
  -- PORT_SIGNAL_DETECT, TRAIN_TIMEOUT, TRAIN_LOCK
  (∀ (p : Port) (s : State),
    (s.portState p.val = 1 → ∃ u, exec (.portSignalDetect p) s = .next u ∧ u.portState p.val = 2 ∧ OnlyRegs [pstatReg p.val] s u) ∧
    (s.portState p.val ≠ 1 → exec (.portSignalDetect p) s = .next s) ∧
    (s.portState p.val = 2 → ∃ u, exec (.trainTimeout p) s = .next u ∧ u.portState p.val = 1 ∧
      u.fget (rtrnReg p.val) F.LNK_RTRN_TRAIN_FAIL =
        min (s.fget (rtrnReg p.val) F.LNK_RTRN_TRAIN_FAIL + 1) (2 ^ F.LNK_RTRN_TRAIN_FAIL.len - 1) ∧
      OnlyRegs [pstatReg p.val, rtrnReg p.val] s u) ∧
    (s.portState p.val = 2 → ∃ u, exec (.trainLock p) s = .next u ∧ u.portState p.val = 3 ∧
      (u.ports.at p.val).hello = false ∧ (u.ports.at p.val).crReq = 4096 ∧ (u.ports.at p.val).crRsp = 2048 ∧
      (u.ports.at p.val).crCtl = 64 ∧ (∃ e, e.kind = 2 ∧ u.outbox = .entry p.val e :: s.outbox) ∧
      RegsKept [pstatReg p.val, .LNK_GRP] s u ∧
      u = { s with regs := u.regs, ports := u.ports, devs := u.devs, outbox := u.outbox }) ∧
    (s.portState p.val ≠ 2 → exec (.trainTimeout p) s = .next s ∧ exec (.trainLock p) s = .next s)) ∧
  -- DETECT_RETRY
  (∀ (p : Port) (s : State),
    (s.portState p.val = 0 → s.linkOn (p.val / 8) = true → s.portRole s.bootTier p.val = 1 → s.fget .PWR_STATE F.PWR_STATE_STATE = 0 →
      s.fget .TST_STAT F.TST_STAT_STATE = 0 →
      ∃ u, exec (.detectRetry p) s = .next u ∧ u.portState p.val = 1 ∧ OnlyRegs [pstatReg p.val] s u) ∧
    ((s.portState p.val ≠ 0 ∨ (s.bootTier = 0 ∧ 8 ≤ p.val) ∨ (s.bridgeEn = true ∧ 12 ≤ p.val) ∨
      s.bget (pctlReg p.val) F.LNK_PCTL_DISABLE = true) → exec (.detectRetry p) s = .next s)) ∧
  -- CHECK_PASS
  (∀ (p : Port) (s : State),
    (s.portState p.val = 3 → (s.ports.at p.val).hello = true → ∃ u, exec (.checkPass p) s = .next u ∧ u.portState p.val = 4 ∧
      u.bget (levtReg p.val) F.LNK_EVT_UP = true ∧ (u.icu.src.at (320 + p.val)).line = true ∧ LinkActs [] s u) ∧
    ((s.portState p.val ≠ 3 ∨ (s.ports.at p.val).hello = false) → exec (.checkPass p) s = .next s)) ∧
  -- PORT_SIGNAL_LOST, PORT_RETRAIN, PORT_RETRAIN_WRITE
  (∀ (p : Port) (s : State), s.portState p.val = 4 →
    (∃ u, exec (.portSignalLost p) s = .next u ∧ u.portState p.val = 1 ∧ u.bget (levtReg p.val) F.LNK_EVT_DOWN = true ∧
      (∀ d ∈ u.devs, s.bridgeEn = false → bitAt d.2.up p.val = false ∧ bitAt d.2.dn p.val = false) ∧ LinkActs [] s u) ∧
    (∀ c ∈ [Instr.portRetrain p, .portRetrainWrite p],
      (((s.ports.at p.val).retrains.filter (fun x => (s.ports.at p.val).total - x < 4294967296)).length < 2 →
        ∃ u, exec c s = .next u ∧ u.portState p.val = 5 ∧
          u.fget (rtrnReg p.val) F.LNK_RTRN_RETRAINS =
            min (s.fget (rtrnReg p.val) F.LNK_RTRN_RETRAINS + 1) (2 ^ F.LNK_RTRN_RETRAINS.len - 1) ∧
          LinkActs [rtrnReg p.val] s u) ∧
      (2 ≤ ((s.ports.at p.val).retrains.filter (fun x => (s.ports.at p.val).total - x < 4294967296)).length →
        ∃ u, exec c s = .next u ∧ u.portState p.val = 6 ∧ u.fget (pstatReg p.val) F.LNK_PSTAT_REASON = 2 ∧
          u.bget (levtReg p.val) F.LNK_EVT_FAILED = true ∧ LinkActs [rtrnReg p.val] s u))) ∧
  (∀ (p : Port) (s : State), s.portState p.val ≠ 4 →
    exec (.portSignalLost p) s = .next s ∧ exec (.portRetrain p) s = .next s ∧
    (s.portState p.val = 6 → ∃ u, exec (.portRetrainWrite p) s = .next u ∧ u.portState p.val = 2 ∧ OnlyRegs [pstatReg p.val] s u) ∧
    (s.portState p.val ≠ 6 → exec (.portRetrainWrite p) s = .next s)) ∧
  -- PORT_RETRAIN_DONE, PORT_RETRAIN_TIMEOUT
  (∀ (p : Port) (s : State),
    (s.portState p.val = 5 → (∃ u, exec (.portRetrainDone p) s = .next u ∧ u.portState p.val = 4 ∧
        u.bget (levtReg p.val) F.LNK_EVT_RETRAINED = true ∧ LinkActs [] s u) ∧
      (∃ u, exec (.portRetrainTimeout p) s = .next u ∧ u.portState p.val = 6 ∧
        u.fget (pstatReg p.val) F.LNK_PSTAT_REASON = 2 ∧ u.bget (levtReg p.val) F.LNK_EVT_FAILED = true ∧ LinkActs [] s u)) ∧
    (s.portState p.val ≠ 5 → exec (.portRetrainDone p) s = .next s ∧ exec (.portRetrainTimeout p) s = .next s)) ∧
  -- PORT_DISABLE, PORT_ENABLE
  (∀ (p : Port) (s : State),
    (8 ≤ s.portState p.val → exec (.portDisable p) s = .next s ∧ exec (.portEnable p) s = .next s) ∧
    (s.portState p.val < 8 → (∃ u, exec (.portDisable p) s = .next u ∧ u.portState p.val = 7 ∧
        u.fget (pstatReg p.val) F.LNK_PSTAT_REASON = 7 ∧ u.bget (pctlReg p.val) F.LNK_PCTL_DISABLE = true ∧
        LinkActs [pctlReg p.val] s u) ∧
      (∃ u, exec (.portEnable p) s = .next u ∧ u.bget (pctlReg p.val) F.LNK_PCTL_DISABLE = false ∧
        u.portState p.val = (if s.portState p.val = 7 then 0 else s.portState p.val) ∧
        OnlyRegs [pctlReg p.val, pstatReg p.val] s u)))

/-- R34, R36, R76, R88, R123, R321, R324, R327 to R329, R331, R332, R336, R338, R405: codewords and control slices of a live port; a control entry goes on towards its device, or is delivered here, to the part of a group span that it names or to
the chain network; a
port in RUN sends control entries first, then its link fields when 64 slices have passed since they went, then frames, then IDLE slices; a frame without a route for its time leaves, and a request is completed with STATUS 3. -/
def Obligations.SlicesAndFramesMove : Prop :=
  -- CODEWORD_RECEIVE
  (∀ (p : Port) (n : Fin 16) (k : Fin 11) (bad : Bool) (s : State), s.portState p.val ≠ 4 → s.portState p.val ≠ 3 →
    exec (.codewordReceive p n bad k) s = .next s) ∧
  (∀ (p : Port) (n : Fin 16) (k : Fin 11) (s : State), (s.portState p.val = 4 ∨ s.portState p.val = 3) →
    (∀ c, c = (if (s.ports.at p.val).nak = true then 0 else k.val) → ∃ u, exec (.codewordReceive p n false k) s = .next u ∧
      (u.ports.at p.val).rxSeq = ((s.ports.at p.val).rxSeq + c) % 65536 ∧ (u.ports.at p.val).nak = (s.ports.at p.val).nak ∧
      (u.ports.at p.val).total = (s.ports.at p.val).total + 1 ∧
      u.fget (lfecReg p.val) F.LNK_FEC_CORR = min (s.fget (lfecReg p.val) F.LNK_FEC_CORR + n.val) (2 ^ F.LNK_FEC_CORR.len - 1) ∧
      u.fget (lrxReg p.val) F.LNK_RX_SLICES = (s.fget (lrxReg p.val) F.LNK_RX_SLICES + c) % 2 ^ F.LNK_RX_SLICES.len ∧
      RegsKept [lfecReg p.val, lrxReg p.val] s u ∧ u = { s with regs := u.regs, ports := u.ports }) ∧
    ((s.portState p.val = 3 ∨ (s.ports.at p.val).ucws + 1 < max 1 (s.fget (.LNK_CTL (Fin.ofNat 2 (p.val / 8))) F.LNK_CTL_UCW_THR)) →
      ∃ u, exec (.codewordReceive p n true k) s = .next u ∧ (u.ports.at p.val).nak = true ∧
        u.fget (ucwReg p.val) F.LNK_UCW_UCW = min (s.fget (ucwReg p.val) F.LNK_UCW_UCW + 1) (2 ^ F.LNK_UCW_UCW.len - 1) ∧
        (u.ports.at p.val).rxSeq = (s.ports.at p.val).rxSeq ∧ RegsKept [ucwReg p.val] s u ∧
        u = { s with regs := u.regs, ports := u.ports })) ∧
  -- CONTROL_SLICE_RECEIVE
  (∀ (p : Port) (a : Fin 65536) (nak : Bool) (cq cr : Fin 65536) (cc : Fin 256) (tx : Byte) (s : State),
    (s.portState p.val ≠ 4 → s.portState p.val ≠ 3 → exec (.controlSliceReceive p a nak cq cr cc tx) s = .next s) ∧
    ((s.portState p.val = 4 ∨ s.portState p.val = 3) → ∃ u, exec (.controlSliceReceive p a false cq cr cc tx) s = .next u ∧
      (u.ports.at p.val).acked = a.val ∧
      (u.ports.at p.val).sent = (s.ports.at p.val).sent.filter (fun x => !ackCovers a.val x.1) ∧
      (u.ports.at p.val).crReq = min 4096 ((s.ports.at p.val).crReq + cq.val) ∧
      (u.ports.at p.val).crRsp = min 2048 ((s.ports.at p.val).crRsp + cr.val) ∧
      (u.ports.at p.val).crCtl = min 64 ((s.ports.at p.val).crCtl + cc.val) ∧
      (∀ q, q ≠ p.val → u.ports.at q = s.ports.at q) ∧ u = { s with ports := u.ports }) ∧
    ((s.portState p.val = 3 ∨ (s.ports.at p.val).fails + 1 < 9) → (s.portState p.val = 4 ∨ s.portState p.val = 3) →
      ∃ u, exec (.controlSliceReceive p a true cq cr cc tx) s = .next u ∧ (u.ports.at p.val).acked = a.val ∧
        u.fget (ucwReg p.val) F.LNK_UCW_REPLAY = min (s.fget (ucwReg p.val) F.LNK_UCW_REPLAY + 1) (2 ^ F.LNK_UCW_REPLAY.len - 1) ∧
        (∀ x ∈ (u.ports.at p.val).sent, ∀ f, x.2 = .inl f → .frame p.val f ∈ u.outbox) ∧
        RegsKept [ucwReg p.val] s u ∧ u = { s with regs := u.regs, ports := u.ports, outbox := u.outbox })) ∧
  -- CHAIN_ENTRY_RECEIVE
  (∀ (p : Port) (x : Entry) (s : State), s.portState p.val ≠ 4 → exec (.chainEntryReceive p x) s = .next s) ∧
  (∀ (p : Port) (x : Entry) (s0 s : State) (w : Nat → Nat), s0.portState p.val = 4 → s = s0.entryFreed p.val → w = (fun i => ((x.words[i]?).getD 0).toNat) →
    (x.bcast = false → x.dst.val ≠ s.devNum → ∃ u, exec (.chainEntryReceive p x) s0 = .next u ∧
      u.grp.entries = s.grp.entries ++ [x] ∧ u = { s with grp := { s.grp with entries := u.grp.entries } }) ∧
    ((x.bcast = true ∨ x.dst.val = s.devNum) →
      (s.bridgeEn = false ∨ bits (w 0) 0 4 ≠ 0xD ∨ bits (w 0) 6 1 ≠ 0 ∨ bits (w 0) 4 2 ≠ 2) → ∀ m : ChainMsg,
      m = ChainMsg.parse ((x.words.map (·.toNat)).take (1 + bits (w 0) 4 2)) →
      -- a message for units, or of another kind: it joins the chain network
      ((m.toSpan = false ∨ m.cls ∉ [2, 3, 7, 8, 9, 0xA, 0xD]) → ∃ u, exec (.chainEntryReceive p x) s0 = .next u ∧
        u.chain.waiting = s.chain.waiting ++ [((s.dieLanes (10 + p.val / 8)).headD 0 + 1, { m with lanes := s.lanesFor m })] ∧
        u = { s with chain := u.chain }) ∧
      -- a message about a group span: it acts on this device's part
      (m.toSpan = true → (∀ v arg, m.cls = 3 → m.words = [v, arg] →
          (v % 16 = 8 → exec (.chainEntryReceive p x) s0 = .next (s.ringSpan m.dest arg (v / 16 % 16))) ∧
          (v % 16 = 4 → exec (.chainEntryReceive p x) s0 = .next (s.spanSnapshot m.dest)) ∧
          (v % 16 ≠ 8 → v % 16 ≠ 4 → exec (.chainEntryReceive p x) s0 =
            .next (s.spanCommand m.dest (v % 16) arg (v / 16 % 16)).degradeCheck)) ∧
        (∀ n, m.cls = 2 → m.words = [n] → n < 256 →
          exec (.chainEntryReceive p x) s0 = exec (.syncSignal (Fin.ofNat 4096 m.dest) (Fin.ofNat 256 n) (.device x.src)) s) ∧
        (∀ n, m.cls = 2 → m.words = [n] → 256 ≤ n → exec (.chainEntryReceive p x) s0 = .next (s.abortPoints m.dest [n % 256])) ∧
        (∀ a b, m.cls = 0xD → m.words = [a, b] → ∃ u, exec (.chainEntryReceive p x) s0 = .next u ∧
          (u.spans.at m.dest).drained = (s.spans.at m.dest).drained ||| 2 ^ x.src.val ∧ (∀ k, k ≠ m.dest → u.spans.at k = s.spans.at k) ∧
          u = { s with spans := u.spans }) ∧
        (∀ a b c, m.cls = 0xD → m.words = [a, b, c] → exec (.chainEntryReceive p x) s0 =
          .next (s.abortLocal m.dest (a + b % 8 * 2 ^ 32 + c * 2 ^ 64 + b / 65536 * 2 ^ 96)).settle))) ∧
    (x.dst.val = s.devNum → s.bridgeEn = true → bits (w 0) 0 4 = 0xD → bits (w 0) 6 1 = 0 → bits (w 0) 4 2 = 2 →
      bits (w 2) 0 11 < fnVectors (bits (w 1) 0 5) →
      ((s.fns.at (bits (w 1) 0 5)).en = false → ∃ u, exec (.chainEntryReceive p x) s0 = .next u ∧
        (u.fns.at (bits (w 1) 0 5)).pending = (s.fns.at (bits (w 1) 0 5)).pending.insert (bits (w 2) 0 11) ∧
        u = { s with fns := u.fns }) ∧
      ((s.fns.at (bits (w 1) 0 5)).en = true → (s.fns.at (bits (w 1) 0 5)).fmask = false →
        (s.fns.at (bits (w 1) 0 5)).masked.contains (bits (w 2) 0 11) = false →
        ∃ u, exec (.chainEntryReceive p x) s0 = .next u ∧ u.outbox = .msix (bits (w 1) 0 5) (bits (w 2) 0 11) :: s.outbox ∧
          OnlyRegs [.HBR_TLP_TX] { s with outbox := u.outbox } u))) ∧
  -- FRAME_SEND
  (∀ (p : Port) (s : State), s.portState p.val ≠ 4 → exec (.frameSend p) s = .next s) ∧
  (∀ (p : Port) (s : State) (w : PortUnit), s.portState p.val = 4 → w = s.ports.at p.val →
    (∀ x, s.readyEntry p.val = some x → w.due = [] →
      ∃ u, exec (.frameSend p) s = .next u ∧ u.grp.entries = s.grp.entries.erase x ∧
        u.outbox = .entry p.val x :: .linkFields p.val w.rxSeq w.nak w.freeReq w.freeRsp w.freeCtl :: s.outbox ∧
        (u.ports.at p.val).crCtl = w.crCtl - 1 ∧ (u.ports.at p.val).txSeq = (w.txSeq + 1) % 65536 ∧
        (u.ports.at p.val).nak = false ∧ (u.ports.at p.val).since = 0 ∧ RegsKept [ltxReg p.val] s u) ∧
    (∀ x l, s.readyEntry p.val = some x → w.due = x :: l →
      ∃ u, exec (.frameSend p) s = .next u ∧ (u.ports.at p.val).due = l ∧ u.grp.entries = s.grp.entries ∧
        u.outbox = .entry p.val x :: .linkFields p.val w.rxSeq w.nak w.freeReq w.freeRsp w.freeCtl :: s.outbox ∧
        (u.ports.at p.val).crCtl = w.crCtl - 1 ∧ (u.ports.at p.val).txSeq = (w.txSeq + 1) % 65536 ∧ RegsKept [ltxReg p.val] s u) ∧
    (s.readyEntry p.val = none → 64 ≤ w.since → ∃ u, exec (.frameSend p) s = .next u ∧
      u.outbox = .linkFields p.val w.rxSeq w.nak w.freeReq w.freeRsp w.freeCtl :: s.outbox ∧
      u.ports.at p.val = { w with nak := false, freeReq := 0, freeRsp := 0, freeCtl := 0, since := 0 } ∧
      (∀ q, q ≠ p.val → u.ports.at q = s.ports.at q) ∧ u = { s with ports := u.ports, outbox := u.outbox }) ∧
    (∀ f, s.readyEntry p.val = none → w.since < 64 → s.nextFrame p.val = some f → ∃ u g, exec (.frameSend p) s = .next u ∧
      u.grp.frames = s.grp.frames.erase f ∧ u.outbox = .frame p.val g :: s.outbox ∧ g.hops = Fin.ofNat 64 (f.hops.val + 1) ∧
      g.data = f.data ∧ g.addr = f.addr ∧ g.dst = f.dst ∧
      (u.ports.at p.val).txSeq = (w.txSeq + frameSlices f) % 65536 ∧ (u.ports.at p.val).since = w.since + frameSlices f ∧
      u.fget (ltxReg p.val) F.LNK_TX_SLICES = (s.fget (ltxReg p.val) F.LNK_TX_SLICES + frameSlices f) % 2 ^ F.LNK_TX_SLICES.len ∧
      RegsKept [ltxReg p.val] s u) ∧
    (s.readyEntry p.val = none → w.since < 64 → s.nextFrame p.val = none → ∃ u, exec (.frameSend p) s = .next u ∧
      u.ports.at p.val = { w with since := w.since + 1 } ∧ (∀ q, q ≠ p.val → u.ports.at q = s.ports.at q) ∧
      u = { s with ports := u.ports })) ∧
  -- FRAME_EXPIRE
  (∀ s : State,
    (s.heldFrames = [] → exec .frameExpire s = .next s) ∧
    (∀ f l, s.heldFrames = f :: l → frameRequest f = false → ∃ u, exec .frameExpire s = .next u ∧
      u.grp.frames = s.grp.frames.erase f ∧ u = { s with grp := { s.grp with frames := u.grp.frames } }) ∧
    (∀ f l, s.heldFrames = f :: l → frameRequest f = true → f.src.val ≠ s.devNum → ∃ u g, exec .frameExpire s = .next u ∧
      u.grp.frames = s.grp.frames.erase f ++ [g] ∧ g.typ = 4 ∧ g.status = 3 ∧ g.dst = f.src ∧ g.tag = f.tag ∧
      u.fget .LNK_EXP F.LNK_EXP_EXPIRED = min (s.fget .LNK_EXP F.LNK_EXP_EXPIRED + 1) (2 ^ F.LNK_EXP_EXPIRED.len - 1) ∧
      Raised 340 s u ∧ RegsKept (.LNK_EXP :: signalRegs) s u) ∧
    (∀ f l, s.heldFrames = f :: l → frameRequest f = true → f.src.val = s.devNum → ∃ u, exec .frameExpire s = .next u ∧
      (∀ t ∈ u.grp.tags, t.1 ≠ f.tag.val) ∧
      u.fget .LNK_EXP F.LNK_EXP_EXPIRED = min (s.fget .LNK_EXP F.LNK_EXP_EXPIRED + 1) (2 ^ F.LNK_EXP_EXPIRED.len - 1)))

/-- R330, R334, R335, R336, R337: the HELLO of a peer, and the refusal of a loopback; discovery and numbering; a table is adopted whole with its last entry. -/
def GroupIsDiscovered : Prop :=
  -- HELLO_RECEIVE
  (∀ (p : Port) (serial : Word) (d : Dev) (pp : Port) (b : Bool) (tier : Fin 4) (ft : Fin 256) (gen : Fin 65536) (s : State),
    (s.portState p.val ≠ 3 → s.portState p.val ≠ 4 → exec (.helloReceive p serial d pp b tier ft gen) s = .next s) ∧
    ((s.portState p.val = 3 ∨ s.portState p.val = 4) → serial.toNat = s.fuses.serial % 2 ^ 32 →
      ∃ u, exec (.helloReceive p serial d pp b tier ft gen) s = .next u ∧ u.portState p.val = 7 ∧
        u.fget (pstatReg p.val) F.LNK_PSTAT_REASON = 4 ∧ u.bget (levtReg p.val) F.LNK_EVT_REFUSED = true ∧ LinkActs [] s u) ∧
    (s.portState p.val = 3 → serial.toNat ≠ s.fuses.serial % 2 ^ 32 → (b = false ∨ s.bridgeEn = false) →
      ∃ u, exec (.helloReceive p serial d pp b tier ft gen) s = .next u ∧
        u.fget (pstatReg p.val) F.LNK_PSTAT_PEER_DEV = d.val ∧ u.fget (pstatReg p.val) F.LNK_PSTAT_PEER_PORT = pp.val ∧
        (u.ports.at p.val).hello = true ∧ (u.ports.at p.val).peer = serial.toNat ∧ u.portState p.val = 3 ∧
        RegsKept [pstatReg p.val] s u ∧ u = { s with regs := u.regs, ports := u.ports, devs := u.devs })) ∧
  -- DISCOVERY_END
  (∀ s : State,
    (s.fget .LNK_GRP F.LNK_GRP_STATE ≠ 1 → exec .discoveryEnd s = .next s) ∧
    (s.fget .LNK_GRP F.LNK_GRP_STATE = 1 → ∃ u, exec .discoveryEnd s = .next u ∧ u.fget .LNK_GRP F.LNK_GRP_STATE = 2 ∧
      1 ≤ (u.icu.src.at 336).count ∧ LinkActs [] s u)) ∧
  -- ENUM_RECEIVE
  (∀ (serial : Word) (d level : Dev) (gen : Fin 65536) (s : State),
    (serial.toNat = s.fuses.serial % 2 ^ 32 → s.bridgeEn = false → ∃ u, exec (.enumReceive serial d level gen) s = .next u ∧
      u.fget .LNK_GRP F.LNK_GRP_DEVNUM = d.val ∧ u.fget .LNK_GRP F.LNK_GRP_STATE = 1 ∧ (u.devs.at d.val).present = true ∧
      (d ≠ 0 → (u.devs.at d.val).level = level.val) ∧ LinkActs [] s u) ∧
    (serial.toNat ≠ s.fuses.serial % 2 ^ 32 →
      (List.range 16).find? (fun q => s.portState q = 4 && (s.ports.at q).peer = serial.toNat) = none →
      exec (.enumReceive serial d level gen) s = .next s) ∧
    (∀ q, serial.toNat ≠ s.fuses.serial % 2 ^ 32 →
      (List.range 16).find? (fun q => s.portState q = 4 && (s.ports.at q).peer = serial.toNat) = some q →
      ∃ u e, exec (.enumReceive serial d level gen) s = .next u ∧ u.outbox = .entry q e :: s.outbox ∧ e.kind = 3 ∧
        e.words.head? = some serial ∧ u = { s with outbox := u.outbox })) ∧
  -- RESCAN
  (∀ s : State,
    ((s.bridgeEn = false ∨ s.fget .LNK_GRP F.LNK_GRP_STATE ≠ 2) → exec .rescan s = .next s) ∧
    (s.bridgeEn = true → s.fget .LNK_GRP F.LNK_GRP_STATE = 2 → ∃ u, exec .rescan s = .next u ∧
      u.fget .LNK_GRP F.LNK_GRP_STATE = 1 ∧ u.lostDevs = [] ∧ (∀ d ∈ s.lostDevs, u.devs.at d = default) ∧
      (∀ d, d ∉ s.lostDevs → u.devs.at d = s.devs.at d) ∧ LinkActs [] s u)) ∧
  -- ROUTE_RECEIVE
  (∀ (dest hops : Dev) (up dn gen : Fin 65536) (s : State),
    (∃ u, exec (.routeReceive dest hops up dn gen false) s = .next u ∧ u.grp.gen = gen.val ∧
      ⟨dest.val, hops.val, up.val, dn.val⟩ ∈ u.grp.arriving ∧ u.devs = s.devs ∧
      u = { s with grp := { s.grp with gen := u.grp.gen, arriving := u.grp.arriving } }) ∧
    (s.grp.arriving = [] → ∃ u, exec (.routeReceive dest hops up dn gen true) s = .next u ∧
      u.fget .LNK_GEN F.LNK_GEN_GEN = gen.val ∧ (u.devs.at dest.val).present = true ∧ (u.devs.at dest.val).up = up.val ∧
      (u.devs.at dest.val).dn = dn.val ∧ (u.devs.at dest.val).hops = hops.val ∧
      (∀ d, d ≠ dest.val → u.devs.at d = s.devs.at d) ∧ u.grp.arriving = [] ∧ 1 ≤ (u.icu.src.at 337).count ∧ LinkActs [] s u))

/-- R338, R339: what is reported of a link is recorded; a device that is lost is lost to every group span, and device 0 tells the others; a device without a
route to device 0 is ISOLATED. -/
def LinksAndDevicesAreLost : Prop :=
  -- LINKSTATE_RECEIVE
  (∀ (d peer : Dev) (p pp : Port) (gen : Fin 65536) (s : State),
    (∃ u, exec (.linkstateReceive d p true peer pp gen) s = .next u ∧
      ⟨d.val, p.val, if (s.devs.at peer.val).present = true then peer.val else 64, pp.val, true⟩ ∈ u.grp.links ∧ LinkActs [] s u) ∧
    (∃ u, exec (.linkstateReceive d p false peer pp gen) s = .next u ∧
      (∀ l ∈ u.grp.links, l.at_ d.val p.val = true → l.up = false) ∧ u.grp.links.length = s.grp.links.length ∧ LinkActs [] s u)) ∧
  -- LOST_RECEIVE
  (∀ (d : Dev) (iso : Bool) (gen : Fin 65536) (s : State),
    (d.val = s.devNum → exec (.lostReceive d iso gen) s = .next s) ∧
    (d.val ≠ s.devNum → ∃ u, exec (.lostReceive d iso gen) s = .next u ∧ d.val ∈ u.lostDevs ∧
      (∀ x, x ≠ d.val → (x ∈ u.lostDevs ↔ x ∈ s.lostDevs)) ∧ u.devs = s.devs ∧ u.fuses = s.fuses)) ∧
  -- DEVICE_LOST
  (∀ (d : Dev) (s : State),
    (s.bridgeEn = false → exec (.deviceLost d) s = .next s) ∧
    (s.bridgeEn = true → d ≠ 0 → (s.devs.at d.val).present = true → (s.devs.at d.val).up = 0 → d.val ∉ s.lostDevs →
      ∃ u, exec (.deviceLost d) s = .next u ∧ d.val ∈ u.lostDevs ∧ u.devs = s.devs ∧ u.fuses = s.fuses ∧
        ∀ x : Dev, x ≠ 0 → x ≠ d → (s.devs.at x.val).present = true → x.val ∉ s.lostDevs →
          ∃ e ∈ u.grp.entries, e.kind = 6 ∧ e.dst = x ∧ e.words.head? = some (wordOf d.val))) ∧
  -- DEVICE_ISOLATED
  (∀ s : State,
    ((s.bridgeEn = true ∨ s.fget .LNK_GRP F.LNK_GRP_STATE ≠ 2 ∨ (s.devs.at 0).up ≠ 0) → exec .deviceIsolated s = .next s) ∧
    (s.bridgeEn = false → s.fget .LNK_GRP F.LNK_GRP_STATE = 2 → (s.devs.at 0).up = 0 → ∃ u, exec .deviceIsolated s = .next u ∧
      u.fget .LNK_GRP F.LNK_GRP_STATE = 4 ∧ Raised 338 s u ∧ Signals (s.fset .LNK_GRP F.LNK_GRP_STATE 4) u))

/-- R330, R334 to R339: discovery, numbering and routes; links and devices that are lost. -/
def Obligations.TheGroupFormsAndLosesDevices : Prop := GroupIsDiscovered ∧ LinksAndDevicesAreLost

/-- The commands of a frame that arrives on port `p`, and the frame as its TYPE makes it (R324, R326). -/
def arrivals (p : Port) (f : Frame) : List (Instr × Frame) := [
  (.wealeyWrite p f, { f with typ := 1 }),
  (.wealeyRead p f, { f with typ := 2, data := [], pois := [], segcrc := [] }),
  (.wealeyRdata p f, { f with typ := 3 }),
  (.wealeyCpl p f, { f with typ := 4, data := [], pois := [], segcrc := [] }),
  (.wealeyEwrite p f, { f with typ := 5 })]

/-- `t` is `s` with one more frame that waits to be sent: a response of TYPE `typ` and STATUS `status`, with the data given, to the source of `f`. -/
def Responds (f : Frame) (typ : Fin 16) (status : Fin 16) (data : List Byte) (s t : State) : Prop :=
  ∃ g : Frame, t.grp.frames = s.grp.frames ++ [g] ∧ g.typ = typ ∧ g.status = status ∧ g.dst = f.src ∧ g.tag = f.tag ∧ g.hops = 0 ∧
    g.down = false ∧ g.data = data

/-- A frame that is served here: its port is in RUN, its segment CRCs match, HOPS is below 63, and it is addressed to this device. -/
def ServedHere (p : Port) (f : Frame) (s : State) : Prop :=
  s.portState p.val = 4 ∧ f.hops.val < 63 ∧ f.dst.val = s.devNum ∧ segCrcs f.addr f.data = f.segcrc

/-- R325, R329, R336, R338: a frame is dropped by a port that is not in RUN; one whose segment CRC fails is asked for again and counted; one that arrives
with HOPS 63 is dropped, a request completing to its requester with STATUS 3; one for another device waits to be sent on; the buffer slices of what
was taken in are free again. -/
def Obligations.FramesReachTheirDevice : Prop :=
  -- WEALEY_WRITE, WEALEY_READ, WEALEY_RDATA, WEALEY_CPL, WEALEY_EWRITE
  ∀ (p : Port) (f : Frame) (s : State), ∀ x ∈ arrivals p f,
    (s.portState p.val ≠ 4 → exec x.1 s = .next s) ∧
    (s.portState p.val = 4 → segOk x.2 = false →
      (s.ports.at p.val).ucws + 1 < max 1 (s.fget (.LNK_CTL (Fin.ofNat 2 (p.val / 8))) F.LNK_CTL_UCW_THR) →
      ∃ u, exec x.1 s = .next u ∧ (u.ports.at p.val).nak = true ∧
        u.fget (ucwReg p.val) F.LNK_UCW_UCW = min (s.fget (ucwReg p.val) F.LNK_UCW_UCW + 1) (2 ^ F.LNK_UCW_UCW.len - 1) ∧
        RegsKept [ucwReg p.val] s u ∧ u = { s with regs := u.regs, ports := u.ports }) ∧
    (s.portState p.val = 4 → segOk x.2 = true →
      (f.hops.val < 63 → f.dst.val ≠ s.devNum →
        exec x.1 s = .next { s.slicesFreed p.val x.2 with grp := { s.grp with frames := s.grp.frames ++ [x.2] } }) ∧
      (f.hops.val = 63 → frameRequest x.2 = false → exec x.1 s = .next (s.slicesFreed p.val x.2)) ∧
      (f.hops.val = 63 → frameRequest x.2 = true → f.src.val ≠ s.devNum → ∃ u, exec x.1 s = .next u ∧
        Responds f 4 3 [] s u ∧ Raised 340 s u ∧
        u.fget .LNK_EXP F.LNK_EXP_EXPIRED = min (s.fget .LNK_EXP F.LNK_EXP_EXPIRED + 1) (2 ^ F.LNK_EXP_EXPIRED.len - 1) ∧
        RegsKept (.LNK_EXP :: signalRegs) s u ∧ u.mem = s.mem ∧ u.ports = (s.slicesFreed p.val x.2).ports))

/-- R23, R120, R121, R175, R325, R326, R336, R349: what a WRITE, READ or EWRITE frame for this device does, and the response that it gets: host memory through the bridge, a
register, or memory; without a running host link, or where the frame is not of the form that R325 gives it, CPL with STATUS 1. -/
def Obligations.FramesAreServed : Prop :=
  -- WEALEY_WRITE, where `s` is the state in which the port has its slices free again
  (∀ (p : Port) (f : Frame) (s0 s : State), ServedHere p f s0 → s = s0.slicesFreed p.val { f with typ := 1 } →
    (f.host = true → s.hostUp = false → ∃ u, exec (.wealeyWrite p f) s0 = .next u ∧ Responds f 4 1 [] s u ∧
      u = { s with grp := { s.grp with frames := u.grp.frames } }) ∧
    (f.host = true → s.hostUp = true → ∃ u, exec (.wealeyWrite p f) s0 = .next u ∧ Responds f 4 0 [] s u ∧
      u.outbox = .hostWrite f.addr f.data (frameBytePois f) :: s.outbox ∧
      u.fget .HBR_TLP_TX F.HBR_TLP_TX_COUNT =
        (s.fget .HBR_TLP_TX F.HBR_TLP_TX_COUNT + (f.data.length + 511) / 512) % 2 ^ F.HBR_TLP_TX_COUNT.len ∧
      RegsKept [.HBR_TLP_TX] s u ∧
      u = { s with regs := u.regs, grp := { s.grp with frames := u.grp.frames }, outbox := u.outbox }) ∧
    (f.host = false → f.data.length ≠ f.len → ∃ u, exec (.wealeyWrite p f) s0 = .next u ∧ Responds f 4 1 [] s u ∧
      u = { s with grp := { s.grp with frames := u.grp.frames } }) ∧
    (∀ off, f.host = false → f.data.length = f.len → registerOff f.addr = some off →
      (regForm off f.len = true → f.pois = [] → ∃ u t, exec (.wealeyWrite p f) s0 = .next u ∧
        t = s.regWriteAt (.wealey f.src) f.ticket off (wordOf (ofBytes f.data)) ∧ Responds f 4 0 [] t u ∧
        u = { t with grp := { t.grp with frames := u.grp.frames } }) ∧
      (regForm off f.len = false → ∃ u, exec (.wealeyWrite p f) s0 = .next u ∧ Responds f 4 1 [] s u ∧
        u = { s with grp := { s.grp with frames := u.grp.frames } })) ∧
    (∀ q b c, f.host = false → f.data.length = f.len → registerOff f.addr = none → f.pois = [] → s.grp.ingress = [] →
      q = s.memReq (.wealey p) f.addr f.len f.ticket f.held f.data (frameBytePois f) → CleanAccess q s b c →
      ∃ u, exec (.wealeyWrite p f) s0 = .next u ∧ Responds f 4 0 [] s u ∧ u.grp.ingress = [] ∧
        (∀ j, j < f.len → Tab.at u.mem.data (c.key + (f.addr - b) + j) = nth f.data j) ∧
        (∀ k, (k < c.key + (f.addr - b) ∨ c.key + (f.addr - b) + f.len ≤ k) → Tab.at u.mem.data k = Tab.at s.mem.data k) ∧
        u.spans = s.spans ∧ u.engs = s.engs ∧ u.fuses = s.fuses ∧ u.log = s.log)) ∧
  -- WEALEY_READ; the data of a READ that the command carries are none of the frame's
  (∀ (p : Port) (f : Frame) (s0 s : State), s0.portState p.val = 4 → f.hops.val < 63 → f.dst.val = s0.devNum →
    s = s0.slicesFreed p.val { f with typ := 2, data := [], pois := [], segcrc := [] } →
    (f.host = true → s.hostUp = false → ∃ u, exec (.wealeyRead p f) s0 = .next u ∧ Responds f 4 1 [] s u ∧
      u = { s with grp := { s.grp with frames := u.grp.frames } }) ∧
    (f.host = true → s.hostUp = true → ∃ u g, exec (.wealeyRead p f) s0 = .next u ∧ u.grp.hostq = s.grp.hostq ++ [(f.src.val, g)] ∧
      g.tag = f.tag ∧ g.addr = f.addr ∧ g.len = f.len ∧ u.outbox = .hostRead f.addr f.len f.tag.val :: s.outbox ∧
      RegsKept [.HBR_TLP_TX] s u ∧
      u = { s with regs := u.regs, grp := { s.grp with hostq := u.grp.hostq }, outbox := u.outbox }) ∧
    (∀ off, f.host = false → registerOff f.addr = some off →
      (regForm off f.len = true → ∃ u t, exec (.wealeyRead p f) s0 = .next u ∧ t = s.regReadAt off ∧
        Responds f 3 0 (toBytes 4 t.2.toNat) t.1 u ∧ u = { t.1 with grp := { t.1.grp with frames := u.grp.frames } }) ∧
      (regForm off f.len = false → ∃ u, exec (.wealeyRead p f) s0 = .next u ∧ Responds f 4 1 [] s u ∧
        u = { s with grp := { s.grp with frames := u.grp.frames } })) ∧
    (∀ q b c, f.host = false → registerOff f.addr = none → s.grp.ingress = [] →
      q = s.memReq (.wealey p) f.addr f.len f.ticket f.held [] [] → CleanAccess q s b c →
      ∃ u, exec (.wealeyRead p f) s0 = .next u ∧
        Responds f 3 0 ((List.range f.len).map (fun j => Tab.at s.mem.data (c.key + (f.addr - b) + j))) s u ∧
        u.grp.ingress = [] ∧ u.mem.data = s.mem.data ∧ u.spans = s.spans ∧ u.engs = s.engs ∧ u.fuses = s.fuses ∧ u.log = s.log)) ∧
  -- WEALEY_EWRITE: to the engines of the mask, and to one engine
  (∀ (p : Port) (f : Frame) (s0 s : State), ServedHere p f s0 → BundlesFree s → s = s0.slicesFreed p.val { f with typ := 5 } →
    ∃ u st, exec (.wealeyEwrite p f) s0 = .next u ∧ Responds f 4 st [] s u ∧ st.val ≤ 2 ∧ u.spans = s.spans ∧ u.fuses = s.fuses) ∧
  (∀ (p : Port) (f : Frame) (e : Eng) (s0 s : State), ServedHere p f s0 → f.engines = 2 ^ e.val →
    s = s0.slicesFreed p.val { f with typ := 5 } →
    (s.absent e.val = true → BundlesFree s → ∃ u, exec (.wealeyEwrite p f) s0 = .next u ∧ Responds f 4 0 [] s u ∧
      Raised (64 + e.val / 12 * 24 + 19) s u ∧
      u.fget (.CDI_MCAST_SKIP (Fin.ofNat 8 (e.val / 12))) F.CDI_MCAST_SKIP_SKIP =
        min (s.fget (.CDI_MCAST_SKIP (Fin.ofNat 8 (e.val / 12))) F.CDI_MCAST_SKIP_SKIP + 1) (2 ^ F.CDI_MCAST_SKIP_SKIP.len - 1) ∧
      RegsKept (.CDI_MCAST_SKIP (Fin.ofNat 8 (e.val / 12)) :: (signalRegs ++ passRegs)) s u ∧ u.mem = s.mem) ∧
    (∀ t v, s.absent e.val = false → s.routeCross (.wealey p) true [e.val] f.addr f.data.length = .ok t →
      t.lay (.wealey p) (storeAddr e.val f.addr) f.data (frameBytePois f) = .ok v () →
      ∃ u, exec (.wealeyEwrite p f) s0 = .next u ∧ Responds f 4 0 [] v.settle u ∧
        u = { v.settle with grp := { v.settle.grp with frames := u.grp.frames } }) ∧
    (∀ h, s.absent e.val = false → s.routeCross (.wealey p) true [e.val] f.addr f.data.length = .error h →
      exec (.wealeyEwrite p f) s0 = .next s0)) ∧
  -- WEALEY_RDATA, WEALEY_CPL: what this device did not ask for is discarded; what it did is no longer outstanding
  (∀ (p : Port) (f : Frame) (s0 s v : State), ServedHere p f s0 →
    s = s0.slicesFreed p.val { f with typ := 4, data := [], pois := [], segcrc := [] } → v = s0.slicesFreed p.val { f with typ := 3 } →
    ((∀ t ∈ s.grp.tags, t.1 ≠ f.tag.val) → exec (.wealeyRdata p f) s0 = .next v ∧ exec (.wealeyCpl p f) s0 = .next s) ∧
    ((∃ t ∈ s.grp.tags, t.1 = f.tag.val) → (∀ w ∈ s.grp.winReads, ∀ x ∈ w.parts, x.1 ≠ f.tag.val) →
      (∀ w ∈ s.grp.winWrites, w.tag ≠ f.tag.val) → (∀ x ∈ s.engs, ∀ r ∈ x.2.steps, f.tag.val ∉ r.tags) →
      (∃ u, exec (.wealeyRdata p f) s0 = .next u ∧ (∀ t, t ∈ u.grp.tags ↔ t ∈ s.grp.tags ∧ t.1 ≠ f.tag.val) ∧
        u = { v with grp := { s.grp with tags := u.grp.tags } }) ∧
      (∃ u, exec (.wealeyCpl p f) s0 = .next u ∧ (∀ t, t ∈ u.grp.tags ↔ t ∈ s.grp.tags ∧ t.1 ≠ f.tag.val) ∧
        u.resp = (if f.status = 0 then s.resp else .error) ∧
        u = { s with grp := { s.grp with tags := u.grp.tags }, resp := u.resp })) ∧
    -- the last frame of a step completes it; one that is not performed faults it
    (∀ e k r, s.engs.findSome? (fun x => (x.2.steps.find? (fun r => r.tags.contains f.tag.val)).map (fun r => (x.1, r))) = some (e, r) →
      s.engs.at e = k → r.tags = [f.tag.val] → (∃ t ∈ s.grp.tags, t.1 = f.tag.val) →
      (∀ w ∈ s.grp.winReads, ∀ x ∈ w.parts, x.1 ≠ f.tag.val) → (∀ w ∈ s.grp.winWrites, w.tag ≠ f.tag.val) →
      (f.status = 0 → ∃ t : State, t.engs = s.engs.put e (k.runUpd r.num (fun q => { q with tags := [] })) ∧
        t = { s with engs := t.engs, grp := { s.grp with tags := s.grp.tags.filter (fun t => t.1 ≠ f.tag.val) } } ∧
        exec (.wealeyCpl p f) s0 = .next (t.stepDone e r.num r.sync)) ∧
      (f.status ≠ 0 → ∃ t : State, t = { s with resp := .error, grp := { s.grp with tags := s.grp.tags.filter (fun t => t.1 ≠ f.tag.val) } } ∧
        exec (.wealeyCpl p f) s0 = .next (t.stepFault e r.ix (if f.status = 2 then 0x0A else 0x06) none 0))) ∧
    (∀ w n, s.grp.winReads = [w] → w.parts = [(f.tag.val, n, [], [])] → f.data.length = n → 0 < n → n ≤ 512 → f.pois = [] →
      (∃ t ∈ s.grp.tags, t.1 = f.tag.val) →
      ∃ u, exec (.wealeyRdata p f) s0 = .next u ∧ u.grp.winReads = [] ∧
        u.outbox = .completion w.fn w.tag (.data f.data (List.replicate n false)) :: s.outbox ∧ RegsKept [.HBR_TLP_TX] s u))

/-- A request of the host that the bridge serves: the link is up, the bridge ready, the function in D0, and the access not empty (R341, R346, R348). -/
def HostServes (fn n : Nat) (s : State) : Prop :=
  s.hostUp = true ∧ s.bget .HBR_STAT F.HBR_STAT_READY = true ∧ (s.fns.at fn).d3 = false ∧ n ≠ 0

/-- `t` has logged a host error of kind `e` (R346, R350): the error's bit is set and source 342 has one more event. -/
def HostError (e : Fld) (s t : State) : Prop := t.bget .HBR_ERR e = true ∧ Raised 342 s t

/-- The registers that an erroneous access of the host changes (R352). -/
def hostErrorRegs : List Reg := [.HBR_ERR_ADDR_LO, .HBR_ERR_ADDR_HI, .HBR_TLP_RX] ++ signalRegs

/-- R216, R341 to R343, R346, R348: what reads of the host through the bars return, and where they complete with Unsupported Request or Completer Abort. -/
def Obligations.HostReadsComplete : Prop :=
  -- HOST_READ
  (∀ (fn : Fin 17) (bar : Fin 6) (off len tag : Nat) (s : State),
    (s.hostUp = false → exec (.hostRead fn bar off len tag) s = .next s) ∧
    (s.hostUp = true → (s.bget .HBR_STAT F.HBR_STAT_READY = false ∨ (s.fns.at fn.val).d3 = true ∨ len = 0) →
      ∃ u, exec (.hostRead fn bar off len tag) s = .next u ∧ u.outbox.head? = some (.completion fn.val tag .unsupported) ∧
        HostError F.HBR_ERR_UR s u ∧ RegsKept hostErrorRegs s u ∧ u.mem = s.mem ∧ u.grp.frames = s.grp.frames) ∧
    (HostServes fn.val len s →
      -- the registers, by the PF
      (fn = 0 → bar = 0 → regForm off len = true → ∃ u t, exec (.hostRead fn bar off len tag) s = .next u ∧
        t = (s.tlpRx 1).regReadAt off ∧
        u.outbox = .completion 0 tag (.data (toBytes 4 t.2.toNat) (List.replicate 4 false)) :: t.1.outbox ∧
        u.resp = .data (toBytes 4 t.2.toNat) (List.replicate 4 false) ∧
        u = { t.1 with regs := u.regs, resp := u.resp, outbox := u.outbox } ∧ RegsKept [.HBR_TLP_TX] t.1 u) ∧
      (fn = 0 → bar = 0 → regForm off len = false → ∃ u, exec (.hostRead fn bar off len tag) s = .next u ∧
        u.outbox.head? = some (.completion 0 tag .abort) ∧ HostError F.HBR_ERR_CA s u ∧ RegsKept hostErrorRegs s u) ∧
      -- the doorbells of the PF
      (fn = 0 → bar = 4 → off + len ≤ 0x4000 → 4 ≤ s.stageNow → ∃ u, exec (.hostRead fn bar off len tag) s = .next u ∧
        u.outbox = .completion 0 tag (.data (List.replicate len 0) (List.replicate len false)) :: s.outbox ∧
        RegsKept [.HBR_TLP_RX, .HBR_TLP_TX] s u ∧ u.mem = s.mem) ∧
      -- memory of this device, by the PF's window
      (∀ a q b c, fn = 0 → bar = 2 → off + len ≤ 0x20000000 → a = s.fget .HBR_WIN F.HBR_WIN_BASE * 2 ^ 29 + off →
        a / 2 ^ 48 = s.ownNumber → 6 ≤ s.stageNow → s.inStandby = false → registerOff (a % 2 ^ 48) = none → s.grp.hostHeld = [] →
        q = (s.tlpRx 1).memReq (.host 0) (a % 2 ^ 48) len (s.fnTicket 0) 0 [] [] → CleanAccess q s b c →
        ∃ u, exec (.hostRead fn bar off len tag) s = .next u ∧
          .completion 0 tag (.data ((List.range len).map (fun j => Tab.at s.mem.data (c.key + (a % 2 ^ 48 - b) + j)))
            (List.replicate len false)) ∈ u.outbox ∧ u.mem.data = s.mem.data ∧ u.fuses = s.fuses ∧ u.log = s.log) ∧
      -- memory of another device, by the PF's window
      (∀ a, fn = 0 → bar = 2 → off + len ≤ 0x20000000 → a = s.fget .HBR_WIN F.HBR_WIN_BASE * 2 ^ 29 + off →
        a / 2 ^ 48 ≠ s.ownNumber → a / 2 ^ 48 < 64 → a % 1024 + len ≤ 1024 →
        ((s.devs.at (a / 2 ^ 48)).present = true → ∃ u g, exec (.hostRead fn bar off len tag) s = .next u ∧
          u.grp.frames = s.grp.frames ++ [g] ∧ g.typ = 2 ∧ g.dst.val = a / 2 ^ 48 ∧ g.addr = a % 2 ^ 48 ∧ g.len = len ∧
          g.tag.val = s.grp.tag % 65536 ∧
          u.grp.winReads = s.grp.winReads ++ [⟨0, tag, a, [(s.grp.tag % 65536, len, [], [])]⟩] ∧
          RegsKept [.HBR_TLP_RX] s u ∧ u = { s with regs := u.regs, grp := u.grp }) ∧
        ((s.devs.at (a / 2 ^ 48)).present = false → ∃ u, exec (.hostRead fn bar off len tag) s = .next u ∧
          u.outbox.head? = some (.completion 0 tag .abort) ∧ HostError F.HBR_ERR_CA s u ∧ RegsKept hostErrorRegs s u)) ∧
      -- a VF beyond its window
      (fn ≠ 0 → bar = 0 → off + len ≤ 0x4000000 →
        s.fget (.HBR_VFW_LEN (Fin.ofNat 16 (fn.val - 1))) F.HBR_VFW_LEN_LEN * 65536 < off + len →
        ∃ u, exec (.hostRead fn bar off len tag) s = .next u ∧ u.outbox.head? = some (.completion fn.val tag .unsupported) ∧
          HostError F.HBR_ERR_UR s u ∧ u.bget .HBR_ERR F.HBR_ERR_VF_RANGE = true ∧ RegsKept hostErrorRegs s u)))

/-- R216, R342, R343, R346, R347: what writes of the host do: registers, doorbells, memory of this device and of others; poisoned or misplaced ones are dropped
and recorded. -/
def Obligations.HostWritesComplete : Prop :=
  -- HOST_WRITE
  (∀ (fn : Fin 17) (bar : Fin 6) (off : Nat) (data : List Byte) (ep : Bool) (s : State),
    (s.hostUp = false → exec (.hostWrite fn bar off data ep) s = .next s) ∧
    (s.hostUp = true → (s.bget .HBR_STAT F.HBR_STAT_READY = false ∨ (s.fns.at fn.val).d3 = true ∨ data = []) →
      ∃ u, exec (.hostWrite fn bar off data ep) s = .next u ∧ HostError F.HBR_ERR_UR s u ∧ RegsKept hostErrorRegs s u ∧
        u.mem = s.mem ∧ u.grp.frames = s.grp.frames) ∧
    (HostServes fn.val data.length s →
      -- the registers, by the PF
      (fn = 0 → bar = 0 → regForm off data.length = true → doorbellOf (s.regGroup off) = none →
        (ep = false → ∃ u, exec (.hostWrite fn bar off data ep) s = .next u ∧
          u = (((s.tlpRx 1).reply .none).regWriteAt (.host 0) (s.fnTicket 0) off (wordOf (ofBytes data)))) ∧
        (ep = true → ∃ u, exec (.hostWrite fn bar off data ep) s = .next u ∧ u.bget .HBR_ERR F.HBR_ERR_EP_RX = true ∧
          u.bget .HBR_ERR F.HBR_ERR_WDROP = true ∧ RegsKept hostErrorRegs s u ∧ u.mem = s.mem)) ∧
      (fn = 0 → bar = 0 → regForm off data.length = false → ep = false → ∃ u, exec (.hostWrite fn bar off data ep) s = .next u ∧
        HostError F.HBR_ERR_WDROP s u ∧ RegsKept hostErrorRegs s u ∧ u.mem = s.mem) ∧
      -- a doorbell, by the PF, with no earlier write outstanding
      (∀ i : Fin 4096, fn = 0 → bar = 4 → off = 4 * i.val → data.length = 4 → ep = false → 4 ≤ s.stageNow → s.ownNumber < 64 →
        s.grp.winWrites = [] → s.grp.winHeld = [] → s.tkt.heldReqs = [] →
        ∃ u, exec (.hostWrite fn bar off data ep) s = .next u ∧
          u = ((s.tlpRx 1).reply .none).via (execDoorbell i (wordOf (ofBytes data)) (s.fnTicket 0))) ∧
      -- memory of this device, by the PF's window
      (∀ a q b c, fn = 0 → bar = 2 → ep = false → off + data.length ≤ 0x20000000 → a = s.fget .HBR_WIN F.HBR_WIN_BASE * 2 ^ 29 + off →
        a / 2 ^ 48 = s.ownNumber → 6 ≤ s.stageNow → s.inStandby = false → registerOff (a % 2 ^ 48) = none →
        q = ((s.tlpRx (ceilDiv data.length 512)).reply .none).memReq (.host 0) (a % 2 ^ 48) data.length (s.fnTicket 0) 0 data
          (List.replicate data.length false) → CleanAccess q s b c →
        ∃ u, exec (.hostWrite fn bar off data ep) s = .next u ∧
          (∀ j, j < data.length → Tab.at u.mem.data (c.key + (a % 2 ^ 48 - b) + j) = nth data j) ∧
          (∀ k, (k < c.key + (a % 2 ^ 48 - b) ∨ c.key + (a % 2 ^ 48 - b) + data.length ≤ k) → Tab.at u.mem.data k = Tab.at s.mem.data k) ∧
          u.fuses = s.fuses ∧ u.log = s.log) ∧
      -- memory of another device, by the PF's window
      (∀ a, fn = 0 → bar = 2 → ep = false → off + data.length ≤ 0x20000000 → a = s.fget .HBR_WIN F.HBR_WIN_BASE * 2 ^ 29 + off →
        a / 2 ^ 48 ≠ s.ownNumber → a / 2 ^ 48 < 64 → a % 1024 + data.length ≤ 1024 → doorbellOf a = none →
        ((s.devs.at (a / 2 ^ 48)).present = true → ∃ u g, exec (.hostWrite fn bar off data ep) s = .next u ∧
          u.grp.frames = s.grp.frames ++ [g] ∧ g.typ = 1 ∧ g.dst.val = a / 2 ^ 48 ∧ g.addr = a % 2 ^ 48 ∧ g.data = data ∧
          u.grp.winWrites = s.grp.winWrites ++ [⟨0, a, s.grp.tag % 65536⟩] ∧ RegsKept [.HBR_TLP_RX] s u ∧
          u = { s with regs := u.regs, grp := u.grp, resp := u.resp }) ∧
        ((s.devs.at (a / 2 ^ 48)).present = false → ∃ u, exec (.hostWrite fn bar off data ep) s = .next u ∧
          HostError F.HBR_ERR_WDROP s u ∧ RegsKept hostErrorRegs s u ∧ u.mem = s.mem)) ∧
      -- a VF beyond its window, and beyond its doorbells
      (fn ≠ 0 → ep = false →
        ((bar = 0 ∧ off + data.length ≤ 0x4000000 ∧
            s.fget (.HBR_VFW_LEN (Fin.ofNat 16 (fn.val - 1))) F.HBR_VFW_LEN_LEN * 65536 < off + data.length) ∨
          (bar = 2 ∧ off + data.length ≤ 0x4000 ∧ s.fget (.HBR_VFDB (Fin.ofNat 16 (fn.val - 1))) F.HBR_VFDB_COUNT ≤ off / 4)) →
        ∃ u, exec (.hostWrite fn bar off data ep) s = .next u ∧ HostError F.HBR_ERR_VF_RANGE s u ∧ RegsKept hostErrorRegs s u ∧
          u.mem = s.mem)))

/-- R341, R345, R346, R348, R349, R352: configuration requests, changes and a retrain of the host link, function and bridge resets, and the data that
the host returns to a device. -/
def Obligations.HostLinkAndFunctionsComplete : Prop :=
  -- HOST_CONFIG_REQUEST
  (∀ (fn : Fin 17) (q : CfgReq) (s : State),
    (s.hostUp = false → exec (.hostConfigRequest fn q) s = .next s) ∧
    (s.hostUp = true → s.bget .HBR_STAT F.HBR_STAT_READY = false → ∃ u, exec (.hostConfigRequest fn q) s = .next u ∧ u.resp = .retry ∧
      OnlyRegs [.HBR_TLP_RX, .HBR_TLP_TX] { s with resp := u.resp } u)) ∧
  (∀ (fn : Fin 17) (s : State), s.hostUp = true → s.bget .HBR_STAT F.HBR_STAT_READY = true →
    (∃ u w, exec (.hostConfigRequest fn .read) s = .next u ∧ u.resp = .word w ∧
      OnlyRegs [.HBR_TLP_RX, .HBR_TLP_TX] { s with resp := u.resp, free := u.free } u) ∧
    (∀ fmask, ∃ u, exec (.hostConfigRequest fn (.msix false fmask)) s = .next u ∧
      u.fns.at fn.val = { s.fns.at fn.val with en := false, fmask := fmask } ∧ (∀ k, k ≠ fn.val → u.fns.at k = s.fns.at k) ∧
      u.resp = .none ∧ OnlyRegs [.HBR_TLP_RX, .HBR_TLP_TX] { s with resp := u.resp, fns := u.fns } u) ∧
    (∃ u, exec (.hostConfigRequest fn (.msix true false)) s = .next u ∧ (u.fns.at fn.val).en = true ∧
      (u.fns.at fn.val).fmask = false ∧ (∀ v ∈ (s.fns.at fn.val).pending, v ∉ (s.fns.at fn.val).masked →
        .msix fn.val v ∈ u.outbox) ∧ (∀ k, k ≠ fn.val → u.fns.at k = s.fns.at k) ∧ u.mem = s.mem) ∧
    (∀ v : Fin 1024, (s.fns.at fn.val).en = false → ∃ u, exec (.hostConfigRequest fn (.vector v true)) s = .next u ∧
      u.fns.at fn.val = { s.fns.at fn.val with masked := (s.fns.at fn.val).masked.insert v.val } ∧
      (∀ k, k ≠ fn.val → u.fns.at k = s.fns.at k) ∧
      OnlyRegs [.HBR_TLP_RX, .HBR_TLP_TX] { s with resp := u.resp, fns := u.fns } u) ∧
    (∀ d3, ∃ u, exec (.hostConfigRequest fn (.power d3)) s = .next u ∧ u.fns.at fn.val = { s.fns.at fn.val with d3 := d3 } ∧
      (∀ k, k ≠ fn.val → u.fns.at k = s.fns.at k) ∧ OnlyRegs [.HBR_TLP_RX, .HBR_TLP_TX] { s with resp := u.resp, fns := u.fns } u)) ∧
  -- HOST_LINK_CHANGE
  (∀ (rate : Fin 7) (width : Fin 17) (flit up : Bool) (s : State), s.bridgeEn = true → s.perst = false → s.mainOff = false →
    s.dieFenced 11 = false → ∃ u, exec (.hostLinkChange rate width flit up) s = .next u ∧ u.bget .HBR_STAT F.HBR_STAT_UP = up ∧
      (up = true → u.fget .HBR_STAT F.HBR_STAT_WIDTH = width.val ∧
        u.fget .HBR_STAT F.HBR_STAT_RATE = min rate.val (s.fget .HBR_CTL F.HBR_CTL_RATE_MAX) ∧
        u.bget .HBR_STAT F.HBR_STAT_FLIT = flit ∧
        u.bget .HBR_STAT F.HBR_STAT_LOW_RATE = decide (u.fget .HBR_STAT F.HBR_STAT_RATE < 3)) ∧
      (up = false → u.fget .HBR_STAT F.HBR_STAT_RATE = 0 ∧ u.fget .HBR_STAT F.HBR_STAT_WIDTH = 0) ∧
      u.bget .HBR_STAT F.HBR_STAT_READY = s.bget .HBR_STAT F.HBR_STAT_READY ∧ Raised 341 s u ∧
      RegsKept (.HBR_STAT :: signalRegs) s u ∧ u.mem = s.mem) ∧
  -- HOST_LINK_RETRAIN
  (∀ s : State, (s.bridgeEn = true → exec .hostLinkRetrain s = .next { s with outbox := .linkRetrain :: s.outbox }) ∧
    (s.bridgeEn = false → exec .hostLinkRetrain s = .next s)) ∧
  -- FLR
  (∀ (fn : Fin 17) (s : State), (s.hostUp = false → exec (.flr fn) s = .next s) ∧
    (s.hostUp = true → ∃ u, exec (.flr fn) s = .next u ∧
      u.fns.at fn.val = default ∧ Raised 343 s u ∧ u.mem = s.mem ∧ RegsKept signalRegs s u)) ∧
  -- PERST
  (∀ s : State,
    (s.bridgeEn = false → exec .perst s = .next { s with perst := true }) ∧
    (s.bridgeEn = true → ∃ u, exec .perst s = .next u ∧ u.perst = true ∧ u.rget .HBR_STAT = 0 ∧ u.grp.hostq = [] ∧
      u.grp.winReads = [] ∧ u.grp.frames.length = s.grp.frames.length + s.grp.hostq.length ∧
      (s.bget .HBR_STAT F.HBR_STAT_UP = true → 1 ≤ (u.icu.src.at 341).count) ∧ 1 ≤ (u.icu.src.at 343).count ∧
      RegsKept (.HBR_STAT :: signalRegs) s u ∧ u.mem = s.mem ∧ u.grp.winWrites = s.grp.winWrites)) ∧
  -- PERST_DEASSERT
  (∀ s : State, ∃ u, exec .perstDeassert s = .next u ∧ u.perst = false ∧
    (s.bridgeEn = true → s.dieFenced 11 = false → s.linkOn 1 = true → s.mainOff = false →
      u.bget .HBR_STAT F.HBR_STAT_READY = true) ∧ u.mem = s.mem ∧ RegsKept (.HBR_STAT :: signalRegs) s u) ∧
  -- HOST_READ_COMPLETION
  (∀ (d : Dev) (tag : Fin 65536) (data : Option (List Byte)) (s : State),
    ((∀ x ∈ s.grp.hostq, ¬(x.1 = d.val ∧ x.2.tag = tag)) → exec (.hostReadCompletion d tag data) s = .next s) ∧
    (∀ f, s.grp.hostq = [(d.val, f)] → f.tag = tag → f.typ = 2 →
      (∀ l, data = some l → l.length = f.len → ∃ u, exec (.hostReadCompletion d tag data) s = .next u ∧ Responds f 3 0 l s u ∧
        u.grp.hostq = [] ∧ RegsKept [.HBR_TLP_RX] s u ∧ u = { s with regs := u.regs, grp := u.grp }) ∧
      (data = none → ∃ u, exec (.hostReadCompletion d tag data) s = .next u ∧ Responds f 4 1 [] s u ∧
        u.grp.hostq = [] ∧ RegsKept [.HBR_TLP_RX] s u ∧ u = { s with regs := u.regs, grp := u.grp })))

/-- R401, R402, R412: an event of an edge source that some chapter assigns (344 to 383 and the gaps of R399 are assigned to none), the
rise of a level source's line and a software interrupt each count one event of their source; a coalescing window that has run out
makes its source's wait end.  None of them changes anything but the interrupt controller and what its messages change. -/
def EventsAreCounted : Prop :=
  -- SOURCE_EVENT
  (∀ (k : Src) (s : State), levelSource k.val = false → reservedSource k.val = false →
    ∃ t, exec (.sourceEvent k) s = .next t ∧ Raised k.val s t ∧ Signals s t) ∧
  -- LEVEL_LINE_RISE
  (∀ (k : Src) (s : State), levelSource k.val = true →
    ∃ t, exec (.levelLineRise k) s = .next t ∧ (t.icu.src.at k.val).line = true ∧
      ((s.icu.src.at k.val).line = false → Raised k.val s t) ∧
      ((s.icu.src.at k.val).line = true → t.icu.src.at k.val = s.icu.src.at k.val) ∧ Signals s t) ∧
  -- SOFTWARE_INTERRUPT
  (∀ (v : Word) (s : State), ∃ t, exec (.softwareInterrupt v) s = .next t ∧ Raised (448 + v.toNat % 64) s t ∧ Signals s t) ∧
  -- COAL_WINDOW_EXPIRE
  (∀ (k : Src) (s : State) (w : Nat), levelSource k.val = false → (s.icu.src.at k.val).win = some w →
    s.fget (.ICU_COAL k) F.ICU_COAL_WIN ≠ 0 →
    ∃ t, exec (.coalWindowExpire k) s = .next t ∧
      t.icu.src.at k.val = { s.icu.src.at k.val with expired := true } ∧
      w + s.fget (.ICU_COAL k) F.ICU_COAL_WIN ≤ t.icu.tick ∧ Signals s t)

/-- R406, R409: a claim returns the presentable source of highest priority with its count, puts it in service and pushes the running
priority; with none presentable it returns 0x3FF and changes nothing but the outstanding flag.  The end of interrupt of the source
claimed last pops it; any other number sets EOI_ERR and raises source 1; 0x3FF is ignored. -/
def ClaimAndEndOfInterrupt : Prop :=
  -- CLAIM
  (∀ (t : Tgt) (s : State) (k p : Nat), s.best t.val = some (k, p) →
    ∃ u, exec (.claim t) s = .next u ∧ u.resp = .word (claimWord k p (s.icu.src.at k)) ∧
      u.icu.src.at k = { s.icu.src.at k with
        count := 0, ovf := false, insvc := true, tgt := t.val, win := none, expired := false } ∧
      (u.icu.tgt.at t.val).stack = (k, (s.icu.tgt.at t.val).run) :: (s.icu.tgt.at t.val).stack ∧
      (u.icu.tgt.at t.val).run = p ∧ Signals (s.reply (.word (claimWord k p (s.icu.src.at k)))) u) ∧
  (∀ (t : Tgt) (s : State), s.best t.val = none →
    exec (.claim t) s = .next ((s.tgtUpd t.val (fun g => { g with out := false, held := false })).reply (.word 0x3FF))) ∧
  -- EOI
  (∀ (t : Tgt) (v : Word) (s : State) (k r : Nat) (l : List (Nat × Nat)), v.toNat % 1024 = k → k ≠ 0x3FF →
    (s.icu.tgt.at t.val).stack = (k, r) :: l →
    ∃ u, exec (.eoi t v) s = .next u ∧ (u.icu.src.at k).insvc = false ∧
      (u.icu.src.at k).count = (s.icu.src.at k).count ∧
      (u.icu.tgt.at t.val).stack = l ∧ (u.icu.tgt.at t.val).run = r ∧ Signals s u) ∧
  (∀ (t : Tgt) (v : Word) (s : State), v.toNat % 1024 ≠ 0x3FF →
    (∀ r l, (s.icu.tgt.at t.val).stack ≠ (v.toNat % 1024, r) :: l) →
    ∃ u, exec (.eoi t v) s = .next u ∧ (u.icu.tgt.at t.val).eoiErr = true ∧ Raised 1 s u ∧ Signals s u) ∧
  (∀ (t : Tgt) (v : Word) (s : State), v.toNat % 1024 = 0x3FF → exec (.eoi t v) s = .next s)

/-- R401, R402, R406, R409, R412: the events of sources, and the claims and ends of interrupt of targets. -/
def Obligations.InterruptsAreCountedClaimedAndEnded : Prop := EventsAreCounted ∧ ClaimAndEndOfInterrupt

/-- R365, R366, R376, R428 to R434: what a control interval measures and how the power ceiling steps the halves down and lets them go; the calibration by
the diodes, and the thermal shutdown. -/
def Obligations.PowerAndTemperatureAreHeld : Prop :=
  -- POWER_INTERVAL
  (∀ (x : Interval) (s : State), s.pwr.off = true → exec (.powerInterval x) s = .next s) ∧
  (∀ (x : Interval) (s : State), s.pwr.off = false → s.fget .PWR_STATE F.PWR_STATE_STATE = 2 →
    ∃ u, exec (.powerInterval x) s = .next u ∧ u.fget .PWR_PKG F.PWR_PKG_POWER_W = x.watts.val ∧
      u.fget .PWR_PKG F.PWR_PKG_MAX_W = max (s.fget .PWR_PKG F.PWR_PKG_MAX_W) x.watts.val ∧
      u.fget .PWR_VIN F.PWR_VIN_VOLT = x.mv.val ∧ u.rget .PWR_ENERGY = wordOf ((s.pwr.uj + 20 * x.watts.val) / 1000) ∧
      u.thm = s.thm ∧
      (x.watts.val ≤ s.fget .PWR_CAP F.PWR_CAP_CAP_W → x.watts.val ≤ s.fget .PWR_CAP F.PWR_CAP_PEAK_W → s.pwr.vinLow = false →
        u.fget .PWR_STAT F.PWR_STAT_TIMER = s.fget .PWR_STAT F.PWR_STAT_TIMER - 1 ∧ u.spans = s.spans ∧ u.engs = s.engs) ∧
      (s.fget .PWR_CAP F.PWR_CAP_CAP_W ≤ s.fget .PWR_CAP F.PWR_CAP_PEAK_W → s.fget .PWR_CAP F.PWR_CAP_PEAK_W < x.watts.val →
        ∀ h, h < 16 → s.halfWant h < 3 → u.halfGet h pmFld = s.halfWant h + 1)) ∧
  (∀ (x : Interval) (s : State), s.pwr.off = false → s.fget .PWR_STATE F.PWR_STATE_STATE ≠ 2 →
    ∃ u, exec (.powerInterval x) s = .next u ∧
      ((u.pwr.off = true ∧ u.thm.trip = true ∧ u.faultN = true ∧ u.bup.shutdown = 1) ∨
       (u.fget .PWR_PKG F.PWR_PKG_POWER_W = x.watts.val ∧ u.pwr.intervals = s.pwr.intervals + 1 ∧ u.tooHot = false ∧
        u.ldp.mirror.length = 18 ∧ u.thm.silent = x.silent.map (·.val)))) ∧
  -- DIODE_READ
  (∀ (l : List Int) (s : State),
    (s.hotDiode l = true → s.pwr.off = false → ∃ u, exec (.diodeRead l) s = .next u ∧ u.pwr.off = true ∧ u.thm.trip = true ∧
      u.faultN = true ∧ u.bup.shutdown = 1 ∧ u.log.recs = s.log.recs) ∧
    (s.pwr.off = true → exec (.diodeRead l) s = .next s) ∧
    ((∀ r ∈ l, r < 920) → s.fget .PWR_STATE F.PWR_STATE_STATE = 2 → exec (.diodeRead l) s = .next s) ∧
    (s.pwr.off = false → s.fget .PWR_STATE F.PWR_STATE_STATE ≠ 2 → ∃ u, exec (.diodeRead l) s = .next u ∧
      ((u.pwr.off = true ∧ u.thm.trip = true) ∨
       ((∀ pos, pos < 20 → (u.thm.dies.at pos).diodes = (List.range 4).map (fun k => nth l (pos * 4 + k))) ∧
        RegsKept ([.THM_WARN, .THM_THROT, .THM_EVT] ++ signalRegs) s u ∧ u.mem = s.mem ∧ u.spans = s.spans)))) ∧
  -- THERMTRIP_RELEASE
  (∀ s : State, exec .thermtripRelease s = .next { s with thm := { s.thm with trip := false } })

/-- The registers in which the voltage loop keeps the grades (R362, R376). -/
def gradeRegs : List Reg := (List.finRange 8).map .PWR_AVS

/-- R357, R358, R360, R362, R363, R376: the voltage loop of a domain, the steps of a die's halves, the reports of regulators, stretched cycles. -/
def Obligations.VoltageAndStepsFollow : Prop :=
  -- AVS_INTERVAL, of the first domain, the others at guard and none at its limit
  (∀ (g : Fin 4) (s : State) (l : List (Fin 4)), s.dieFenced 1 = false → s.dozing 0 = false → (∀ d : Die, s.fget (.PWR_AVS d) ⟨4, 2⟩ = 0) →
    l = g :: List.replicate 19 1 →
    (g = 0 → s.setpoint 0 < 360 → ∃ u, exec (.avsInterval l) s = .next u ∧ u.setpoint 0 = s.setpoint 0 + 1 ∧
      (∀ r, r ≠ 0 → u.pwr.rails.at r = s.pwr.rails.at r) ∧ RegsKept gradeRegs s u) ∧
    (g = 0 → 360 ≤ s.setpoint 0 → ∃ u, exec (.avsInterval l) s = .next u ∧
      u.halfGet 0 avsFld = min 3 (s.halfGet 0 appliedFld + 1) ∧ u.fget (.PWR_AVS 0) ⟨4, 1⟩ = 1 ∧
      u.bget .PWR_EVT F.PWR_EVT_AVS_LIMIT = true ∧ Raised 52 s u ∧ u.pwr.rails = s.pwr.rails ∧
      RegsKept (gradeRegs ++ [.CLK_HALF 0, .PWR_EVT] ++ signalRegs) s u) ∧
    ((g = 1 ∨ g = 2) → ∃ u, exec (.avsInterval l) s = .next u ∧
      u.fget (.PWR_AVS 0) ⟨0, 2⟩ = g.val ∧ u.pwr.rails = s.pwr.rails ∧ OnlyRegs gradeRegs { s with pwr := u.pwr } u) ∧
    (g = 3 → s.pwr.ample.at 0 = 15 → s.avsFloor 0 < s.setpoint 0 →
      ∃ u, exec (.avsInterval l) s = .next u ∧ u.setpoint 0 = s.setpoint 0 - 1 ∧
        (∀ r, r ≠ 0 → u.pwr.rails.at r = s.pwr.rails.at r) ∧ RegsKept gradeRegs s u)) ∧
  -- STEP_CHANGE_APPLY
  (∀ (d : Die) (s : State),
    (s.dozing d.val = true → exec (.stepChangeApply d) s = .next s) ∧
    (s.dozing d.val = false → ∃ u, exec (.stepChangeApply d) s = .next u ∧
      (∀ h ∈ [2 * d.val, 2 * d.val + 1], u.halfGet h appliedFld = max (s.halfGet h appliedFld) (s.halfWant h)) ∧
      OnlyRegs [.CLK_HALF d, .CLK_CHG] s u)) ∧
  -- STEP_RAMP_DONE
  (∀ (d : Die) (west : Bool) (s : State) (h : Nat), h = 2 * d.val + b2n west →
    (s.halfGet h rampFld = 0 → exec (.stepRampDone d west) s = .next s) ∧
    (s.halfGet h rampFld ≠ 0 → ∃ u, exec (.stepRampDone d west) s = .next u ∧ u.halfGet h appliedFld = s.halfWant h ∧
      u.halfGet h rampFld = 0 ∧
      u.setpoint (halfRail h) = max (s.setpoint (halfRail h)) (s.railStart (halfRail h) (s.halfWant h)) ∧
      (∀ r, r ≠ halfRail h → u.pwr.rails.at r = s.pwr.rails.at r) ∧
      OnlyRegs [.CLK_HALF d, .CLK_CHG] { s with pwr := u.pwr } u)) ∧
  -- REGULATOR_REPORT
  (∀ (r : Fin 65) (mv : Fin 4096) (cur pow : Fin 65536) (temp : Nat) (s : State),
    ∃ u, exec (.regulatorReport r mv cur pow temp) s = .next u ∧
      (u.pwr.rails.at r.val).meas = mv.val ∧ (u.pwr.rails.at r.val).cur = cur.val ∧ (u.pwr.rails.at r.val).pow = pow.val ∧
      (u.pwr.rails.at r.val).setpt = (s.pwr.rails.at r.val).setpt ∧ (u.pwr.rails.at r.val).flt = (s.pwr.rails.at r.val).flt ∧
      (∀ q, q ≠ r.val → u.pwr.rails.at q = s.pwr.rails.at q) ∧ r.val ∉ u.thm.silent ∧
      u = { s with pwr := { s.pwr with rails := u.pwr.rails }, thm := { s.thm with silent := u.thm.silent } }) ∧
  -- CLOCK_STRETCH
  (∀ (d : Fin 20) (n : Nat) (s : State), ∃ u, exec (.clockStretch d n) s = .next u ∧
    u.fget .PWR_DROOP F.PWR_DROOP_STRETCH = min (s.fget .PWR_DROOP F.PWR_DROOP_STRETCH + n) (2 ^ F.PWR_DROOP_STRETCH.len - 1) ∧
    OnlyRegs [.PWR_DROOP] s u)

/-- R368 to R372: gating of an idle site; a compute die into Doze and out of it; the package into Standby and out of it, or to Off-AON; where these are
refused, and with what result. -/
def Obligations.PowerStatesChange : Prop :=
  -- SITE_IDLE
  (∀ (k : Site) (s : State),
    (s.fget .PWR_IDLE F.PWR_IDLE_IDLE_CYC = 0 → exec (.siteIdle k) s = .next s) ∧
    (s.fget .PWR_IDLE F.PWR_IDLE_IDLE_CYC ≠ 0 → s.dieRuns (k.val / 16) = true → s.engineAt k.val = none →
      ∃ u, exec (.siteIdle k) s = .next u ∧ u.sites.at k.val = { s.sites.at k.val with gated := true } ∧
        (∀ q, q ≠ k.val → u.sites.at q = s.sites.at q) ∧ u = { s with sites := u.sites })) ∧
  -- DIE_DOZE
  (∀ (d : Die) (s : State),
    ((s.spans.any (fun e => e.2.st ≠ .empty && e.2.members.any (fun l => match l with
        | .engine x => decide (x / 12 = d.val)
        | _ => false)) = true) → ∃ u, exec (.dieDoze d) s = .next u ∧
      u.fget .PWR_DIE_STAT F.PWR_DIE_STAT_DIE = d.val + 1 ∧ u.fget .PWR_DIE_STAT F.PWR_DIE_STAT_RESULT = 2 ∧
      OnlyRegs [.PWR_DIE_STAT] s u) ∧
    (s.spans = [] → (s.load.busy = true ∨ s.modeBusy = true ∨ s.dozeBusy = true) → ∃ u, exec (.dieDoze d) s = .next u ∧
      u.fget .PWR_DIE_STAT F.PWR_DIE_STAT_DIE = d.val + 1 ∧ u.fget .PWR_DIE_STAT F.PWR_DIE_STAT_RESULT = 3 ∧
      OnlyRegs [.PWR_DIE_STAT] s u) ∧
    (s.spans = [] → s.load.busy = false → s.modeBusy = false → s.dozeBusy = false → s.subst = [] →
      s.fget .TST_STAT F.TST_STAT_STATE = 0 → s.doze.at d.val = 0 → s.dieFenced (d.val + 1) = false →
      ∃ u, exec (.dieDoze d) s = .next u ∧ u.doze.at d.val = 1 ∧ (∀ k, k ≠ d.val → u.doze.at k = s.doze.at k) ∧
        u.fget .PWR_DIE_STAT F.PWR_DIE_STAT_RESULT = 0 ∧ OnlyRegs [.PWR_DIE_STAT] { s with doze := u.doze } u)) ∧
  -- DOZE_ENTRY_DONE
  (∀ (d : Die) (s : State),
    ((s.doze.at d.val ≠ 1 ∨ s.dieRetrains (d.val + 1) = true) → exec (.dozeEntryDone d) s = .next s) ∧
    (s.doze.at d.val = 1 → s.dieRetrains (d.val + 1) = false → ∃ u, exec (.dozeEntryDone d) s = .next u ∧ u.doze.at d.val = 2 ∧
      (∀ k, k ≠ d.val → u.doze.at k = s.doze.at k) ∧ u.fget .PWR_DIE_STAT F.PWR_DIE_STAT_RESULT = 1 ∧
      u.bget .PWR_EVT F.PWR_EVT_STATE_DONE = true ∧ Raised 51 s u ∧ u.mem = s.mem ∧ u.engs = s.engs)) ∧
  -- DIE_WAKE
  (∀ (d : Die) (s : State),
    (s.doze.at d.val = 2 → ∃ u, exec (.dieWake d) s = .next u ∧ u.doze.at d.val = 3 ∧ (∀ k, k ≠ d.val → u.doze.at k = s.doze.at k) ∧
      u.fget .PWR_DIE_STAT F.PWR_DIE_STAT_RESULT = 0 ∧ OnlyRegs [.PWR_DIE_STAT] { s with doze := u.doze } u) ∧
    ((s.doze.at d.val = 1 ∨ s.doze.at d.val = 3) → ∃ u, exec (.dieWake d) s = .next u ∧
      u.fget .PWR_DIE_STAT F.PWR_DIE_STAT_RESULT = 3 ∧ u.fget .PWR_DIE_STAT F.PWR_DIE_STAT_DIE = d.val + 1 ∧ OnlyRegs [.PWR_DIE_STAT] s u)) ∧
  -- DOZE_EXIT_DONE
  (∀ (d : Die) (ok : Bool) (s : State),
    (s.doze.at d.val ≠ 3 → ∀ done, exec (.dozeExitDone d done ok) s = .next s) ∧
    (s.doze.at d.val = 3 → d.val ∉ s.load.wakes →
      (∃ u, exec (.dozeExitDone d true ok) s = .next u ∧ u.doze.at d.val = 0 ∧ (∀ k, k ≠ d.val → u.doze.at k = s.doze.at k) ∧
        u.fget .PWR_DIE_STAT F.PWR_DIE_STAT_RESULT = 1 ∧ u.bget .PWR_EVT F.PWR_EVT_STATE_DONE = true ∧ 1 ≤ (u.icu.src.at 51).count ∧
        u.fuses = s.fuses) ∧
      (∃ u, exec (.dozeExitDone d false ok) s = .next u ∧ u.fget .PWR_DIE_STAT F.PWR_DIE_STAT_RESULT = 4 ∧
        u.dieFenced (d.val + 1) = true ∧ u.fuses = s.fuses))) ∧
  -- STANDBY_ENTER
  (∀ s : State,
    (s.standbyRefusal ≠ 0 → ∃ u, exec .standbyEnter s = .next u ∧ u.fget .PWR_STATE F.PWR_STATE_REASON = s.standbyRefusal ∧
      u.fget .PWR_STATE F.PWR_STATE_STATE = s.fget .PWR_STATE F.PWR_STATE_STATE ∧ OnlyRegs [.PWR_STATE] s u) ∧
    (s.standbyRefusal = 0 → ∃ u, exec .standbyEnter s = .next u ∧ u.fget .PWR_STATE F.PWR_STATE_STATE = 1 ∧
      u.fget .PWR_STATE F.PWR_STATE_REASON = 0 ∧ (∀ q, q < 16 → s.portState q < 8 → u.portState q = 0) ∧ u.mem = s.mem ∧
      u.engs = s.engs ∧ u.fuses = s.fuses)) ∧
  -- STANDBY_ENTRY_DONE
  (∀ s : State,
    ((s.fget .PWR_STATE F.PWR_STATE_STATE ≠ 1 ∨ ∃ d, 1 ≤ d ∧ d ≤ 11 ∧ s.dieRetrains d = true) →
      exec .standbyEntryDone s = .next s) ∧
    (s.fget .PWR_STATE F.PWR_STATE_STATE = 1 → (∀ d, 1 ≤ d → d ≤ 11 → s.dieRetrains d = false) → ∃ u, exec .standbyEntryDone s = .next u ∧
      (∀ d, d < 8 → s.dieFenced (d + 1) = false → u.doze.at d = 2) ∧
      (∀ n : Stack, s.stackFenced n.val = false → u.fget (.STK_STAT n) F.STK_STAT_STATE = 3) ∧
      (s.pwr.wake = false → u.fget .PWR_STATE F.PWR_STATE_STATE = 2) ∧
      (s.pwr.wake = true → s.bget .CLK_STAT F.CLK_STAT_REF_OK = true → u.fget .PWR_STATE F.PWR_STATE_STATE = 3 ∧ u.pwr.wake = false) ∧
      u.mem = s.mem ∧ u.fuses = s.fuses)) ∧
  -- STANDBY_EXIT
  (∀ (s : State) (st : Nat), st = s.fget .PWR_STATE F.PWR_STATE_STATE →
    (st = 0 → exec .standbyExit s = .next s) ∧
    (st = 1 → exec .standbyExit s = .next { s with pwr := { s.pwr with wake := true } }) ∧
    (st = 2 → s.bget .CLK_STAT F.CLK_STAT_REF_OK = false → exec .standbyExit s = .next { s with pwr := { s.pwr with wake := true } }) ∧
    (st = 2 → s.bget .CLK_STAT F.CLK_STAT_REF_OK = true → ∃ u, exec .standbyExit s = .next u ∧
      u.fget .PWR_STATE F.PWR_STATE_STATE = 3 ∧ u.pwr = { s.pwr with wake := false } ∧ OnlyRegs [.PWR_STATE] { s with pwr := u.pwr } u) ∧
    (2 < st → ∃ u, exec .standbyExit s = .next u ∧ u.fget .PWR_STATE F.PWR_STATE_REASON = 4 ∧ OnlyRegs [.PWR_STATE] s u)) ∧
  -- STANDBY_EXIT_DONE
  (∀ s : State,
    (s.fget .PWR_STATE F.PWR_STATE_STATE ≠ 3 → exec .standbyExitDone s = .next s) ∧
    (s.fget .PWR_STATE F.PWR_STATE_STATE = 3 → ∃ u, exec .standbyExitDone s = .next u ∧ u.fget .PWR_STATE F.PWR_STATE_STATE = 0 ∧
      (∀ d, d < 8 → s.doze.at d = 2 → u.doze.at d = 0) ∧ u.bget .PWR_EVT F.PWR_EVT_STATE_DONE = true ∧
      u.fget .FLC_MOUNT F.FLC_MOUNT_STATE = 0 ∧ 1 ≤ (u.icu.src.at 51).count ∧ u.fuses = s.fuses)) ∧
  -- OFF_AON
  (∀ s : State,
    (s.standbyRefusal ≠ 0 → ∃ u, exec .offAon s = .next u ∧ u.fget .PWR_STATE F.PWR_STATE_REASON = s.standbyRefusal ∧
      OnlyRegs [.PWR_STATE] s u) ∧
    (s.standbyRefusal = 0 → ∃ u, exec .offAon s = .next u ∧ u.pwr.off = true ∧ u.mem = default ∧ u.spans = [] ∧ u.engs = [] ∧
      u.icu = default ∧ u.log = s.log ∧ u.flash.blocks = s.flash.blocks ∧ u.ldp.crash = s.ldp.crash ∧
      (∀ r : Reg, r.access.rws = 0 → r ∉ [Reg.LDP_STAT, .LDP_FERRY_STAT, .CLK_STAT] → u.rget r = r.reset)))

/-- R24, R354, R356, R361, R372, R373, R494: faults of rails, clocks and supplies: what is fenced, what turns the main side off, what the crash capture
and the defect log keep. -/
def Obligations.PowerFaultsAreKept : Prop :=
  -- RAIL_FAULT
  (∀ (r : Fin 65) (kind : Fin 4) (ok : Bool) (s : State), ∃ u, exec (.railFault r kind ok) s = .next u ∧
    bitAt (u.pwr.rails.at r.val).flt kind.val = true ∧ u.bup.railFlt = true ∧ u.bget .PWR_EVT F.PWR_EVT_RAIL_FLT = true ∧
    1 ≤ (u.icu.src.at 50).count ∧ (railDie r.val = 0 → u.faultN = true) ∧
    (1 ≤ railDie r.val → railDie r.val ≤ 11 → u.dieFenced (railDie r.val) = true) ∧
    (12 ≤ railDie r.val → s.stackFenced (railDie r.val - 12) = false → u.dieFenced (railDie r.val) = true) ∧
    (s.logRoom ok = true → (s.log.recs ++ [⟨0x0A, 6, r.val + (u.pwr.rails.at r.val).flt * 128, 0, 0, false⟩]) <+: u.log.recs) ∧
    u.fuses = s.fuses) ∧
  -- REFCLK_LOST, PLL_LOCK_LOST
  (∀ (c : Instr) (s : State), c ∈ [Instr.refclkLost, .pllLockLost] → s.pwr.off = false → s.fget .PWR_STATE F.PWR_STATE_STATE ≠ 2 →
    ∃ u, exec c s = .next u ∧ u.pwr.off = true ∧ u.faultN = true ∧ u.bup.shutdown = 2 ∧ u.bget .CLK_EVT F.CLK_EVT_REF_LOST = true ∧
      u.bget .CLK_STAT F.CLK_STAT_AON_RC = true ∧ u.bget .CLK_STAT F.CLK_STAT_PLL_LOCK = false ∧
      u.bget .CLK_STAT F.CLK_STAT_REF_OK = decide (c = .pllLockLost) ∧ u.mem = default ∧ u.spans = [] ∧
      u.log = s.log ∧ (⟨16, 1⟩ : Fld).get (nth u.ldp.crash 0) = 1 ∧ (s.ldp.crash = [] → (⟨0, 8⟩ : Fld).get (nth u.ldp.crash 0) = 2)) ∧
  (∀ s : State, s.pwr.off = true → exec .pllLockLost s = .next s) ∧
  (∀ s : State, (s.pwr.off = true ∨ s.fget .PWR_STATE F.PWR_STATE_STATE = 2) → ∃ u, exec .refclkLost s = .next u ∧
    u.bget .CLK_EVT F.CLK_EVT_REF_LOST = true ∧ u.bget .CLK_STAT F.CLK_STAT_AON_RC = true ∧
    u.bget .CLK_STAT F.CLK_STAT_REF_OK = false ∧ OnlyRegs [.CLK_EVT, .CLK_STAT] s u) ∧
  -- REFCLK_PRESENT
  (∀ s : State,
    ((s.pwr.wake = false ∨ s.fget .PWR_STATE F.PWR_STATE_STATE ≠ 2) → ∃ u, exec .refclkPresent s = .next u ∧
      u.bget .CLK_STAT F.CLK_STAT_REF_OK = true ∧ u.bget .CLK_STAT F.CLK_STAT_AON_RC = false ∧ OnlyRegs [.CLK_STAT] s u) ∧
    (s.pwr.wake = true → s.fget .PWR_STATE F.PWR_STATE_STATE = 2 → ∃ u, exec .refclkPresent s = .next u ∧
      u.bup.kind = 1 ∧ u.fget .PWR_STATE F.PWR_STATE_STATE = 0 ∧ u.mem = default ∧
      u.spans = [] ∧ u.log = s.log)) ∧
  -- VIN_LOW
  (∀ s : State, ∃ u, exec .vinLow s = .next u ∧ u.pwr = { s.pwr with vinLow := true } ∧ u.bget .PWR_EVT F.PWR_EVT_VIN_LOW = true ∧
    Raised 53 s u ∧ RegsKept (.PWR_EVT :: signalRegs) s u ∧ u.mem = s.mem) ∧
  -- VIN_CRITICAL
  (∀ s : State, (s.pwr.off = true → exec .vinCritical s = .next s) ∧
    (s.pwr.off = false → ∃ u, exec .vinCritical s = .next u ∧ u.pwr.off = true ∧ u.faultN = true ∧ u.bup.shutdown = 3 ∧
      u.mem = default ∧ u.log = s.log ∧ (⟨16, 1⟩ : Fld).get (nth u.ldp.crash 0) = 1)) ∧
  -- VAON_LOW
  (∀ s : State, ∃ u, exec .vaonLow s = .next u ∧ u.pwr.off = true ∧ u.mem = default ∧ u.spans = [] ∧ u.log = s.log ∧
    u.outbox = s.outbox) ∧
  -- VNAND_LOW
  (∀ s : State, ∃ u, exec .vnandLow s = .next u ∧ (∀ c : Chan, u.fget (.FLC_STAT c) F.FLC_STAT_STATE = 0) ∧
    (∀ pos, u.dieFenced pos = s.dieFenced pos) ∧ u.fuses = s.fuses) ∧
  -- HUB_FAULT
  (∀ s : State, ∃ u, exec .hubFault s = .next u ∧ u.faultN = true ∧ u.pwr.refuse = true ∧
    (∀ x ∈ s.spans, (x.2.st = .running ∨ x.2.st = .draining ∨ x.2.st = .stopping) → (u.spans.at x.1).st = .faulted) ∧
    (⟨16, 1⟩ : Fld).get (nth u.ldp.crash 0) = 1 ∧ u.fuses = s.fuses)

/-- R169, R209, R377, R378, R380, R396: what each reset leaves: after power-on every register at its reset value; after a cold or a warm one the work of every unit
gone; the defect log always stays, and a record that the reset tears stands in it. -/
def ResetsLeaveTheStateOfTheirKind : Prop :=
  -- POWER_ON_RESET
  (∀ (aon torn : Bool) (s : State), ∃ u, exec (.powerOnReset aon torn) s = .next u ∧ (∀ r, u.rget r = r.reset) ∧ u.mem = default ∧
    u.spans = [] ∧ u.engs = [] ∧ u.icu = default ∧ u.ldp = default ∧ u.bup.kind = 0 ∧ u.bup.src = b2n aon ∧ u.bup.aonLow = true ∧
    u.bup.warm = false ∧ u.pwr.off = false ∧ u.faultN = false ∧ s.log.recs <+: u.log.recs ∧
    (torn = false → u.log = s.log) ∧ (torn = true → s.log.recs.length < 131072 → u.log.recs.length = s.log.recs.length + 1) ∧
    (s.sec.knot = none → u.fuses = s.fuses)) ∧
  -- AON_RST_N_RELEASE
  (∀ (b : Fin 4) (a : Fin 8) (e : Bool) (s : State), exec (.aonRstNRelease b a e) s =
    .next { s with bridgeEn := e, bup := { s.bup with bootSrc := b.val, smbAddr := a.val, aonLow := false } }) ∧
  -- SYS_RESET, COLD_RESET_CMD, WARM_RESET_CMD
  (∀ (c : Instr) (warm : Bool) (src : Nat) (s : State),
    ((c = .sysReset false ∧ warm = s.bget .BUP_CTL F.BUP_CTL_SYS_WARM ∧ src = 2) ∨
     (∃ v, c = .coldResetCmd v ∧ F.BUP_RST_KEY.get v = 0xB007 ∧ F.BUP_RST_KIND.get v = 1 ∧ warm = false ∧ src = 3) ∨
     (∃ v, c = .warmResetCmd v ∧ F.BUP_RST_KEY.get v = 0xB007 ∧ F.BUP_RST_KIND.get v = 2 ∧ warm = true ∧ src = 3)) →
    ∃ u, exec c s = .next u ∧ u.bup.warm = warm ∧ u.bup.kind = 1 + b2n warm ∧ u.bup.src = src ∧ u.spans = [] ∧ u.engs = [] ∧
      u.movers = [] ∧ u.icu = default ∧ u.stageNow = 0 ∧ u.log = s.log ∧ u.flash.blocks = s.flash.blocks ∧ u.outbox = s.outbox ∧
      u.bridgeEn = s.bridgeEn ∧ u.ldp.crash = s.ldp.crash ∧ (s.sec.knot = none → u.fuses = s.fuses) ∧
      ((warm = false ∨ s.memKeep = false) → u.mem = default) ∧
      (warm = true → s.memKeep = true → ∀ k, Tab.at u.mem.data k = if dramCell k then Tab.at s.mem.data k else 0) ∧
      (warm = true → s.memKeep = true → ∀ n : Stack, s.fget (.STK_STAT n) F.STK_STAT_STATE ∈ [2, 3] →
        u.fget (.STK_STAT n) F.STK_STAT_STATE = 3)) ∧
  (∀ (v : Word) (s : State),
    (¬(F.BUP_RST_KEY.get v = 0xB007 ∧ F.BUP_RST_KIND.get v = 1) → exec (.coldResetCmd v) s = .next s) ∧
    (¬(F.BUP_RST_KEY.get v = 0xB007 ∧ F.BUP_RST_KIND.get v = 2) → exec (.warmResetCmd v) s = .next s))

/-- R356, R379, R382, R383, R385 to R389, R398: a start waits for REFCLK and cool diodes; it ends at service level 0, or in recovery where no boot image
verifies; a wave raises the service level; a pushed image is refused or accepted. -/
def StartsComplete : Prop :=
  -- COLD_START
  (∀ (f : Found) (s : State),
    ((s.mayStart = false ∨ s.pwr.off = true ∨ s.bup.warm = true) → exec (.coldStart f) s = .next s) ∧
    (s.mayStart = true → s.pwr.off = false → s.bup.warm = false →
      ((f.ref && f.cool) = false → ∃ u, exec (.coldStart f) s = .next u ∧ u.stageNow = 1 ∧
        u.bget .CLK_STAT F.CLK_STAT_REF_OK = f.ref ∧ OnlyRegs [.CLK_STAT, .BUP_STAT] s u) ∧
      (f.ref = true → f.cool = true → f.words = [] → f.hubOk = false → ∃ u, exec (.coldStart f) s = .next u ∧ u.stageNow = 11 ∧
        u.faultN = true ∧ u.pwr.refuse = true) ∧
      (f.ref = true → f.cool = true → f.words = [] → f.hubOk = true → ∃ u, exec (.coldStart f) s = .next u ∧ u.faultN = false ∧
        u.rget .BUP_CAUSE = wordOf (s.bup.kind + s.bup.src * 16 + s.bup.shutdown * 256) ∧ s.log.recs <+: u.log.recs ∧
        u.bup.complete = false ∧ u.bget .CLK_STAT F.CLK_STAT_REF_OK = true ∧ u.bget .CLK_STAT F.CLK_STAT_PLL_LOCK = true ∧
        ((u.stageNow = 6 ∧ u.fget .BUP_STAT F.BUP_STAT_LEVEL = 0) ∨ (u.stageNow = 4 ∧ u.bget .LDP_ALERT F.LDP_ALERT_RECOVERY = true)) ∧
        (f.flash = false → u.stageNow = 4)))) ∧
  -- WARM_START
  (∀ (f : Found) (kept : Bool) (s : State),
    ((s.mayStart = false ∨ s.bup.warm = false) → exec (.warmStart f kept) s = .next s) ∧
    (s.mayStart = true → s.bup.warm = true → f.flash = false →
      (f.ref = false → ∃ u, exec (.warmStart f kept) s = .next u ∧ u.stageNow = 1 ∧ OnlyRegs [.CLK_STAT, .BUP_STAT] s u) ∧
      (f.ref = true → f.cool = true → f.words = [] → f.hubOk = true → ∃ u, exec (.warmStart f kept) s = .next u ∧ u.stageNow = 4 ∧
        u.fget .BUP_STAT F.BUP_STAT_PATH = (if s.downgrade false = 0 then 1 else 2) ∧
        u.rget .BUP_CAUSE = wordOf (s.bup.kind + s.bup.src * 16 + s.bup.shutdown * 256 + s.downgrade false * 4096) ∧
        s.log.recs <+: u.log.recs))) ∧
  -- COMPUTE_WAVE
  (∀ (f : Found) (s : State),
    ((s.stageNow < 6 ∨ 9 < s.stageNow) → exec (.computeWave f) s = .next s) ∧
    (6 ≤ s.stageNow → s.stageNow ≤ 9 → ∃ u, exec (.computeWave f) s = .next u ∧ u.stageNow = s.stageNow + 1 ∧
      u.fget .BUP_STAT F.BUP_STAT_LEVEL = s.stageNow - 5 ∧ 1 ≤ (u.icu.src.at 8).count ∧ (s.stageNow = 9 → u.bup.complete = true) ∧
      s.log.recs <+: u.log.recs ∧ u.fuses = s.fuses)) ∧
  -- IMAGE_PUSH
  (∀ (v : Word) (f : Found) (s : State),
    ((F.BUP_RCV_GO_GO.get v = 0 ∨ s.rcvState = 1 ∨ s.rcvState = 2) → exec (.imagePush v f) s = .next s) ∧
    (F.BUP_RCV_GO_GO.get v = 1 → s.rcvState ≠ 1 → s.rcvState ≠ 2 → ∃ u, exec (.imagePush v f) s = .next u ∧ u.fuses = s.fuses ∧
      ((u.rcvState = 4 ∧ 1 ≤ (u.icu.src.at 11).count) ∨ (F.BUP_RCV_GO_PROGRAM.get v = 1 ∧ u.rcvState = 2 ∧ u.bup.slot = []) ∨
       (F.BUP_RCV_GO_PROGRAM.get v = 0 ∧ u.rcvState = 3 ∧ 1 ≤ (u.icu.src.at 11).count)) ∧
      (s.rget .BUP_RCV_LEN = 0 → u.rcvState = 4 ∧ u.fget .BUP_RCV_STAT F.BUP_RCV_STAT_CODE = 0x0F))) ∧
  -- IMAGE_PUSH_PROGRAM
  (∀ (ok : Bool) (f : Found) (s : State),
    (s.bup.push = none → exec (.imagePushProgram ok f) s = .next s) ∧
    (∀ l, s.bup.push = some l → ∃ u, exec (.imagePushProgram ok f) s = .next u ∧ u.bup.push = none ∧
      u.bup.slot = (if ok then l else []) ∧ u.bget .BUP_STAT F.BUP_STAT_FLASH_BAD = !ok ∧ (u.rcvState = 3 ∨ u.rcvState = 4) ∧
      (ok = false → u.fget .BUP_RCV_STAT F.BUP_RCV_STAT_PROG_FAIL = 1) ∧ 1 ≤ (u.icu.src.at 11).count ∧ u.fuses = s.fuses))

/-- R377 to R398: what each reset leaves, and how a start goes. -/
def Obligations.ResetsAndStartsComplete : Prop := ResetsLeaveTheStateOfTheirKind ∧ StartsComplete

/-- R15, R17, R18, R509: a register access that is not 32 bits wide and aligned within the register range completes with an error and is not performed; at
any other offset a write changes the fields that its register lets software write, and a read returns the register, and clears its RC fields. -/
def RegisterAccessesComplete : Prop :=
  -- REGISTER_WRITE, CLEAR_BY_READ
  (∀ (a : Agent) (off size : Nat) (v : Word) (s : State), ¬(size = 4 ∧ off % 4 = 0 ∧ off < 0x10000000) →
    exec (.registerWrite a off size v) s = .next { s with resp := .error } ∧
    exec (.clearByRead a off size) s = .next { s with resp := .error }) ∧
  (∀ (a : Agent) (off : Nat) (v : Word) (s : State), off % 4 = 0 → off < 0x10000000 →
    (Reg.ofOffset off = none ∨ ∃ r, Reg.ofOffset off = some r ∧ s.regOff r = true) →
    exec (.registerWrite a off 4 v) s = .next { s with resp := .none } ∧
    (off < 0x08000000 → exec (.clearByRead a off 4) s = .next { s with resp := .word 0 })) ∧
  (∀ (a : Agent) (r : Reg) (v : Word) (s : State), s.regOff r = false → r.offset < 0x08000000 →
    -- a register whose fields have no conditions of their own
    (r ∈ [Reg.MEM_INST_SEL, .TKT_SEL, .THM_SEL, .TEL_CH_SEL, .CFG_SPAN_SEL, .BUP_CTL, .CLK_EVT] → ∃ u, exec (.registerWrite a r.offset 4 v) s = .next u ∧
      u.rget r = (s.rget r &&& ~~~(r.access.rw ||| r.access.rws)) ||| (v &&& (r.access.rw ||| r.access.rws)) ∧
      u.resp = .none ∧ OnlyRegs [r] { s with resp := u.resp } u) ∧
    -- an event register: a 1 clears its bit
    (r ∈ [Reg.PWR_EVT, .THM_EVT, .TEL_EVT] → ∃ u, exec (.registerWrite a r.offset 4 v) s = .next u ∧
      u.rget r = s.rget r &&& ~~~(v &&& r.access.w1c) ∧ u.resp = .none ∧ OnlyRegs [r] { s with resp := u.resp } u) ∧
    -- reading a saturating counter that reads clear, and one that they do not
    (∀ p : Bundle, r = .CWY_CRC p → ∃ u, exec (.clearByRead a r.offset 4) s = .next u ∧ u.resp = .word (s.rget r) ∧
      u.rget r = s.rget r &&& ~~~r.access.rc ∧ OnlyRegs [r] { s with resp := u.resp } u) ∧
    (r ∈ [Reg.GLB_ID, .GLB_STATUS, .ICU_TICK, .SEC_SERIAL_LO] → ∃ u w, exec (.clearByRead a r.offset 4) s = .next u ∧ u.resp = .word w ∧
      w = s.view r ∧ u = { s with resp := u.resp }))

/-- R254, R260, R370, R415, R451: the ferryman wakes the package out of Standby for a watched source or its timer, and records the cause; the mount of the
flash ends MOUNTED or FAILED. -/
def WakesAndMountsComplete : Prop :=
  -- FERRYMAN_WAKE
  (∀ (k : Src) (s : State),
    ((s.fget .ICU_WAKE F.ICU_WAKE_MODE ≠ 1 ∨ s.watched k.val = false ∨ s.srcPending k.val = false) →
      exec (.ferrymanWake k) s = .next s) ∧
    (s.fget .ICU_WAKE F.ICU_WAKE_MODE = 1 → s.watched k.val = true → s.srcPending k.val = true → s.pwr.wake = false →
      s.fget .PWR_STATE F.PWR_STATE_STATE = 2 → s.bget .CLK_STAT F.CLK_STAT_REF_OK = true →
      ∃ u, exec (.ferrymanWake k) s = .next u ∧ u.ldp.ferry = true ∧ u.fget .LDP_FERRY_STAT F.LDP_FERRY_STAT_CAUSE = 1 ∧
        u.fget .LDP_FERRY_STAT F.LDP_FERRY_STAT_SOURCE = k.val ∧ u.fget .PWR_STATE F.PWR_STATE_STATE = 3 ∧
        RegsKept [.LDP_FERRY_STAT, .PWR_STATE] s u ∧ u.icu = s.icu ∧ u.mem = s.mem)) ∧
  -- FERRY_TIMER
  (∀ (ms : Nat) (s : State),
    ((s.fget .PWR_STATE F.PWR_STATE_STATE ≠ 2 ∨ s.fget .LDP_FERRY_TMR F.LDP_FERRY_TMR_MS = 0) → exec (.ferryTimer ms) s = .next s) ∧
    (s.fget .PWR_STATE F.PWR_STATE_STATE = 2 →
      (ms < s.fget .LDP_FERRY_TMR F.LDP_FERRY_TMR_MS → ∃ u, exec (.ferryTimer ms) s = .next u ∧
        u.fget .LDP_FERRY_TMR F.LDP_FERRY_TMR_MS = s.fget .LDP_FERRY_TMR F.LDP_FERRY_TMR_MS - ms ∧ OnlyRegs [.LDP_FERRY_TMR] s u) ∧
      (s.fget .LDP_FERRY_TMR F.LDP_FERRY_TMR_MS ≤ ms → s.fget .LDP_FERRY_TMR F.LDP_FERRY_TMR_MS ≠ 0 → s.pwr.wake = false →
        s.bget .CLK_STAT F.CLK_STAT_REF_OK = true → ∃ u, exec (.ferryTimer ms) s = .next u ∧ u.ldp.ferry = true ∧
          u.fget .LDP_FERRY_TMR F.LDP_FERRY_TMR_MS = 0 ∧ u.fget .LDP_FERRY_STAT F.LDP_FERRY_STAT_CAUSE = 2 ∧
          u.fget .PWR_STATE F.PWR_STATE_STATE = 3 ∧ RegsKept [.LDP_FERRY_TMR, .LDP_FERRY_STAT, .PWR_STATE] s u))) ∧
  -- MOUNT_DONE
  (∀ (a b : Bool) (w : List (Word × Nat)) (s : State),
    (s.fget .FLC_MOUNT F.FLC_MOUNT_STATE ≠ 3 → exec (.mountDone a b w) s = .next s) ∧
    (s.fget .FLC_MOUNT F.FLC_MOUNT_STATE = 3 → ∃ u, exec (.mountDone a b w) s = .next u ∧
      u.fget .FLC_MOUNT F.FLC_MOUNT_STATE = (if (a && b && s.flash.label.isSome) = true then 6 else 7) ∧ 1 ≤ (u.icu.src.at 288).count ∧
      ((a && b && s.flash.label.isSome) = false → u.sec.flashId = []) ∧ u.fuses = s.fuses))

/-- R15 to R18, R254, R260, R370, R415, R451, R509: register accesses, wakes out of Standby, and the end of a mount. -/
def Obligations.AccessesWakesAndMountsComplete : Prop := RegisterAccessesComplete ∧ WakesAndMountsComplete

/-- R34, R131, R419, R420, R422, R424: a wave starts when none is in progress, sends its marker on the chain entries of its dies, latches the shadows as its marker comes, and the sums of its span at its end, and ends DONE when every die and device has
reported, INCOMPLETE when one has not in time; what cannot start is counted as dropped, or held. -/
def Obligations.SnapshotWavesComplete : Prop :=
  -- SNAPSHOT_DEVICE, SNAPSHOT_GROUP
  (∀ s : State, (s.wave.running = true →
    ∃ u, exec .snapshotDevice s = .next u ∧ exec .snapshotGroup s = .next u ∧
      u.fget .TEL_SNAP_STAT F.TEL_SNAP_STAT_DROPPED =
        min (s.fget .TEL_SNAP_STAT F.TEL_SNAP_STAT_DROPPED + 1) (2 ^ F.TEL_SNAP_STAT_DROPPED.len - 1) ∧ OnlyRegs [.TEL_SNAP_STAT] s u) ∧
    (s.wave.running = false → (span 1 11).filter s.waveDie ≠ [] →
      (∃ u, exec .snapshotDevice s = .next u ∧ u.wave.running = true ∧ u.wave.scope = 0 ∧ u.wave.dies = (span 1 11).filter s.waveDie ∧
        u.fget .TEL_SNAP_STAT F.TEL_SNAP_STAT_STATE = 1 ∧
        u.fget .TEL_SNAP_STAT F.TEL_SNAP_STAT_ID = (s.fget .TEL_SNAP_STAT F.TEL_SNAP_STAT_ID + 1) % 65536 ∧
        RegsKept [.TEL_SNAP_STAT, .TEL_SNAP_SKIP] s u ∧
        (∃ l, u.chain.waiting = s.chain.waiting ++ l ∧ l.map (fun x => (x.1, x.2.cls, x.2.lanes)) =
          (((span 1 11).filter s.waveDie).flatMap s.dieLanes).map (fun q => (0, 6, [q]))) ∧
        u = { s with regs := u.regs, wave := u.wave, shadows := u.shadows, chain := u.chain, outbox := u.outbox }) ∧
      (s.numbered = true → ∃ u, exec .snapshotGroup s = .next u ∧ u.wave.running = true ∧ u.wave.scope = 2 ∧
        u.wave.devs = s.devices.filter (fun d => d ≠ s.devNum && !s.lostDevs.contains d) ∧
        u.fget .TEL_SNAP_STAT F.TEL_SNAP_STAT_STATE = 1 ∧ u.rget .TEL_GRP_MISS_LO = 0 ∧ u.rget .TEL_GRP_MISS_HI = 0 ∧
        RegsKept [.TEL_SNAP_STAT, .TEL_SNAP_SKIP, .TEL_GRP_MISS_LO, .TEL_GRP_MISS_HI] s u)) ∧
    (s.wave.running = false → s.numbered = false → ∃ u, exec .snapshotGroup s = .next u ∧
      u.fget .TEL_SNAP_STAT F.TEL_SNAP_STAT_DROPPED =
        min (s.fget .TEL_SNAP_STAT F.TEL_SNAP_STAT_DROPPED + 1) (2 ^ F.TEL_SNAP_STAT_DROPPED.len - 1) ∧ OnlyRegs [.TEL_SNAP_STAT] s u)) ∧
  -- SPAN_SNAPSHOT
  (∀ (sp : SpanIx) (s : State),
    s.groupTops sp.val = [] →
    (((s.spans.at sp.val).st = .empty ∨ (s.spans.at sp.val).st = .loading) → ∃ u, exec (.spanSnapshot sp) s = .next u ∧
      u.bget .CFG_SPAN_ERR F.CFG_SPAN_ERR_CMD_ERR = true ∧ OnlyRegs [.CFG_SPAN_ERR] s u) ∧
    ((s.spans.at sp.val).st ≠ .empty → (s.spans.at sp.val).st ≠ .loading → s.underLoading sp.val = false →
      (s.wave.running = false → s.spanDies sp.val ≠ [] → ∃ u, exec (.spanSnapshot sp) s = .next u ∧ u.wave.running = true ∧
        u.wave.scope = 1 ∧ u.wave.span = sp.val ∧ u.wave.dies = s.spanDies sp.val ∧
        u.fget .TEL_SNAP_STAT F.TEL_SNAP_STAT_STATE = 1 ∧ OnlyRegs [.TEL_SNAP_STAT, .TEL_SNAP_SKIP] { s with wave := u.wave, chain := u.chain } u) ∧
      (s.wave.running = false → s.spanDies sp.val = [] → ∃ u, exec (.spanSnapshot sp) s = .next u ∧ u.wave.running = false ∧
        u.fget .TEL_SNAP_STAT F.TEL_SNAP_STAT_STATE = 2 ∧ Raised 28 s u ∧
        u.shadows.sums.at sp.val = (s.spanSums sp.val)) ∧
      (s.wave.running = true → s.wave.held = none → ∃ u, exec (.spanSnapshot sp) s = .next u ∧
        u = { s with wave := { s.wave with held := some sp.val } }) ∧
      (s.wave.running = true → s.wave.held ≠ none → ∃ u, exec (.spanSnapshot sp) s = .next u ∧
        u.bget .CFG_SPAN_ERR F.CFG_SPAN_ERR_CMD_ERR = true ∧
        u.fget .TEL_SNAP_STAT F.TEL_SNAP_STAT_DROPPED =
          min (s.fget .TEL_SNAP_STAT F.TEL_SNAP_STAT_DROPPED + 1) (2 ^ F.TEL_SNAP_STAT_DROPPED.len - 1) ∧
        OnlyRegs [.CFG_SPAN_ERR, .TEL_SNAP_STAT] s u))) ∧
  -- SNAPSHOT_MARKER
  (∀ (m : Marker) (s : State),
    (s.wave.running = false → m.origin = none → exec (.snapshotMarker m) s = .next s) ∧
    (s.wave.running = true → s.wave.scope ≠ 1 → m.chan.val < 78 → m.id.val = s.waveId → m.at_ ≠ 0 → s.waveDie m.at_.val = true →
      s.wave.dies.contains m.at_.val = true → s.wave.latched.contains m.at_.val = false → ∃ u, exec (.snapshotMarker m) s = .next u ∧
        u.wave.latched = s.wave.latched ++ [m.at_.val] ∧ u.wave.running = true ∧ u.regs = s.regs ∧
        u = { s with wave := u.wave, shadows := u.shadows, outbox := u.outbox, ports := u.ports }) ∧
    (∀ d : Dev, s.wave.running = false → m.origin = some d → 78 ≤ m.chan.val → d.val ≠ s.devNum → s.wave.seen ≠ some (d.val, m.id.val) →
      (span 1 11).filter s.waveDie ≠ [] → ∃ u, exec (.snapshotMarker m) s = .next u ∧ u.wave.running = true ∧ u.wave.scope = 2 ∧
        u.wave.origin = some d.val ∧ u.wave.seen = some (d.val, m.id.val) ∧ u.fget .TEL_SNAP_STAT F.TEL_SNAP_STAT_STATE = 1 ∧
        RegsKept [.TEL_SNAP_STAT, .TEL_SNAP_SKIP] s u) ∧
    (s.wave.running = true → 78 ≤ m.chan.val → m.origin ≠ s.wave.seen.map (fun x => Fin.ofNat 64 x.1) → exec (.snapshotMarker m) s = .next s) ∧
    (∀ k, s.wave.running = true → s.wave.scope ≠ 1 → m.at_ = 0 → m.chan.val < 78 → m.id.val = s.waveId → k = cutKey m.chan.val 1 →
      (s.wave.cuts.at k).id = s.waveId → (s.wave.cuts.at k).marked = false → ∃ u, exec (.snapshotMarker m) s = .next u ∧
        u.wave.cuts.at k = { s.wave.cuts.at k with rcvd := cutMin (s.wave.cuts.at k).rcvd m.sent.toNat, flag := false, marked := true } ∧
        (∀ j, j ≠ k → u.wave.cuts.at j = s.wave.cuts.at j) ∧ u = { s with wave := { s.wave with cuts := u.wave.cuts } })) ∧
  -- WAVE_STATUS_RECEIVE
  (∀ (p : Fin 20) (s : State), s.wave.running = true → s.wave.dies = [p.val] → s.wave.latched.contains p.val = true → s.wave.reported = [] →
    s.wave.ended = false → s.wave.scope = 0 → s.wave.held = none → s.waveWhole = true → s.waveDie p.val = true →
    ∃ u, exec (.waveStatusReceive p none) s = .next u ∧ u.wave.running = false ∧ u.fget .TEL_SNAP_STAT F.TEL_SNAP_STAT_STATE = 2 ∧
      u.bget .TEL_EVT F.TEL_EVT_DONE = true ∧ Raised 28 s u ∧ u.wave.last = s.waveId ∧
      RegsKept ([.TEL_SNAP_STAT, .TEL_EVT] ++ signalRegs) s u ∧ u.shadows = s.shadows) ∧
  (∀ (p : Fin 20) (d : Option Dev) (s : State), s.wave.running = false → exec (.waveStatusReceive p d) s = .next s) ∧
  (∀ (p : Fin 20) (d : Dev) (s : State), s.wave.running = true → d.val ∈ s.wave.devs → s.wave.ended = false →
    ∃ u, exec (.waveStatusReceive p (some d)) s = .next u ∧ u.wave.devs = s.wave.devs.filter (fun x => x ≠ d.val) ∧
      u = { s with wave := { s.wave with devs := u.wave.devs } }) ∧
  -- WAVE_TIMEOUT
  (∀ s : State,
    ((s.wave.running = false ∨ s.wave.ended = true) → exec .waveTimeout s = .next s) ∧
    (s.wave.running = true → s.wave.ended = false → s.wave.scope = 0 → s.wave.held = none →
      s.fget .TEL_SNAP_STAT F.TEL_SNAP_STAT_MISSING = 0 → s.wave.dies.filter (fun p => !s.wave.reported.contains p) ≠ [] →
      ∃ u, exec .waveTimeout s = .next u ∧ u.wave.running = false ∧ u.fget .TEL_SNAP_STAT F.TEL_SNAP_STAT_STATE = 3 ∧
        u.fget .TEL_SNAP_STAT F.TEL_SNAP_STAT_MISSING = min (s.wave.dies.filter (fun p => !s.wave.reported.contains p)).length
          (2 ^ F.TEL_SNAP_STAT_MISSING.len - 1) ∧ u.bget .TEL_EVT F.TEL_EVT_INCOMPLETE = true ∧ Raised 29 s u ∧
        RegsKept ([.TEL_SNAP_STAT, .TEL_EVT] ++ signalRegs) s u)) ∧
  -- GROUP_WAVE_TIMEOUT
  (∀ s : State,
    ((s.wave.running = false ∨ s.wave.devs = []) → exec .groupWaveTimeout s = .next s) ∧
    (∀ d, s.wave.running = true → s.wave.scope = 2 → s.wave.origin = none → s.wave.devs = [d] → d < 32 → s.wave.ended = true →
      s.wave.held = none →
      ∃ u, exec .groupWaveTimeout s = .next u ∧ u.wave.running = false ∧ u.wave.devs = [] ∧ u.fget .TEL_GRP_MISS_LO ⟨d, 1⟩ = 1 ∧
        u.fget .TEL_SNAP_STAT F.TEL_SNAP_STAT_STATE = 3 ∧ Raised 29 s u ∧
        RegsKept ([.TEL_SNAP_STAT, .TEL_EVT, .TEL_GRP_MISS_LO] ++ signalRegs) s u))

/-- R426, R427, R437: a sample record is written behind the others, or lost with OVF when it would overwrite an unread one; the read index never passes the
write index; a new selection clears the histogram. -/
def Obligations.SamplesComplete : Prop :=
  -- TEL_SAMPLE
  (∀ (s : State) (n : Nat), n = s.fget .TEL_RING_LEN F.TEL_RING_LEN_LEN / 64 →
    ((s.bget .TEL_RING_CTL F.TEL_RING_CTL_EN = false ∨ n = 0) → exec .telSample s = .next s) ∧
    (s.bget .TEL_RING_CTL F.TEL_RING_CTL_EN = true → 0 < n →
      (n ≤ (s.rget .TEL_RING_WR - s.rget .TEL_RING_RD).toNat → s.bget .TEL_EVT F.TEL_EVT_OVF = false →
        ∃ u, exec .telSample s = .next u ∧ u.bget .TEL_EVT F.TEL_EVT_OVF = true ∧ Raised 30 s u ∧ u.mem = s.mem ∧
          RegsKept (.TEL_EVT :: signalRegs) s u) ∧
      ((s.rget .TEL_RING_WR - s.rget .TEL_RING_RD).toNat < n → ∃ u, exec .telSample s = .next u ∧
        u.rget .TEL_RING_WR = s.rget .TEL_RING_WR + 1 ∧
        RegsKept (.TEL_RING_WR :: memoryRegs) s u ∧ (Memory.wf s.mem = true → Memory.wf u.mem = true) ∧ u.spans = s.spans ∧
        u.fuses = s.fuses))) ∧
  -- TEL_RING_READ_ADVANCE
  (∀ (v : Word) (s : State),
    ((v - s.rget .TEL_RING_RD).toNat ≤ (s.rget .TEL_RING_WR - s.rget .TEL_RING_RD).toNat → ∃ u, exec (.telRingReadAdvance v) s = .next u ∧
      u.rget .TEL_RING_RD = v ∧ OnlyRegs [.TEL_RING_RD] s u) ∧
    ((s.rget .TEL_RING_WR - s.rget .TEL_RING_RD).toNat < (v - s.rget .TEL_RING_RD).toNat → exec (.telRingReadAdvance v) s = .next s)) ∧
  -- HIST_SELECT
  (∀ (v : Word) (s : State), ∃ u, exec (.histSelect v) s = .next u ∧ u.rget .TEL_HIST_SEL = v &&& 0xF7F ∧
    (∀ b, u.rget (.TEL_HIST b) = 0) ∧ OnlyRegs (.TEL_HIST_SEL :: (List.finRange 16).map .TEL_HIST) s u)

/-- The vendor requests of the landing port (R442). -/
def vendorRequests (addr off : Nat) (count : Byte) (ws : List Word) (x : Word) (key : Fin 65536) (b : Bool) (l : List Byte) (f : Found)
    (o : Fin 65536) : List Instr := [
  .getInfo, .regRead addr count, .regWrite addr count ws, .logRead x, .crashRead (byteOf off), .crashClear, .ldpResetCold key,
  .ldpResetWarm key, .powerStandby, .powerRun, .powerOffAon, .powerStartMain b, .bufWrite x l, .bufRead x count, .imgPush x count f,
  .attestSign l, .attestReadReport o count, .attestReadCert o count]

/-- The landing port takes a request now: it can be reached and serves no other (R440). -/
def LdpReady (s : State) : Prop := s.ldpDead = false ∧ s.ldpBusy = false

/-- `u` is `t` with a response of RESULT DONE, which counts as served (R441, R454). -/
def Done (payload : List Byte) (t u : State) : Prop :=
  u.resp = .vendor 0 payload ∧ u.fget .LDP_REQ F.LDP_REQ_SERVED = min (t.fget .LDP_REQ F.LDP_REQ_SERVED + 1) (2 ^ F.LDP_REQ_SERVED.len - 1) ∧
    OnlyRegs [.LDP_REQ] { t with resp := u.resp } u

/-- `u` is `t` with a response of RESULT DENIED or KEY, which counts as refused and raises source 14 (R441, R453). -/
def Refused (cmd result : Nat) (payload : List Byte) (t u : State) : Prop :=
  u.resp = .vendor result payload ∧ Raised 14 t u ∧ u.fget .LDP_REQ F.LDP_REQ_LAST_CMD = cmd ∧
    u.fget .LDP_REQ F.LDP_REQ_REFUSED = min (t.fget .LDP_REQ F.LDP_REQ_REFUSED + 1) (2 ^ F.LDP_REQ_REFUSED.len - 1) ∧
    RegsKept ([.LDP_REQ, .LDP_EVT] ++ signalRegs) t u ∧ u.mem = t.mem ∧ u.spans = t.spans ∧ u.fuses = t.fuses

/-- R440 to R446, R449, R453, R454: the landing port answers MCTP control messages, register and log requests; it answers BUSY while it serves another
request; the mailboxes, the capture and the alert line. -/
def Obligations.LandingPortAnswers : Prop :=
  -- every vendor request
  (∀ addr off count ws x key b l f o, ∀ c ∈ vendorRequests addr off count ws x key b l f o, ∀ s : State,
    (s.ldpDead = true → exec c s = .next { s with resp := .none }) ∧
    (s.ldpDead = false → s.ldpBusy = true → exec c s = .next { s with resp := .vendor 2 [] })) ∧
  -- SET_ENDPOINT_ID, GET_ENDPOINT_ID, GET_MCTP_VERSION_SUPPORT, GET_MESSAGE_TYPE_SUPPORT, GET_VENDOR_DEFINED_MSG_SUPPORT
  (∀ (e : Byte), ∀ c ∈ [Instr.setEndpointId e, .getEndpointId, .getMctpVersionSupport, .getMessageTypeSupport, .getVendorDefinedMsgSupport],
    ∀ s : State, s.ldpDead = true → exec c s = .next { s with resp := .none }) ∧
  (∀ (e : Byte) (s : State), s.ldpDead = false →
    ((e = 0 ∨ e = 0xFF) → exec (.setEndpointId e) s = .next { s with resp := .mctp [2] }) ∧
    (e ≠ 0 → e ≠ 0xFF → ∃ u, exec (.setEndpointId e) s = .next u ∧ u.resp = .mctp [0, 0, e, 0] ∧
      u.fget .LDP_STAT F.LDP_STAT_EID = e.toNat ∧ OnlyRegs [.LDP_STAT] { s with resp := u.resp } u) ∧
    exec .getEndpointId s = .next { s with resp := .mctp [0, byteOf (s.fget .LDP_STAT F.LDP_STAT_EID), 0, 0] } ∧
    exec .getMessageTypeSupport s = .next { s with resp := .mctp [0, 1, 0x7E] } ∧
    (∃ u l, exec .getMctpVersionSupport s = .next u ∧ u.resp = .mctp ([0, 1] ++ l) ∧ l.length = 4 ∧
      u = { s with resp := u.resp, free := u.free }) ∧
    (∃ u l, exec .getVendorDefinedMsgSupport s = .next u ∧
      u.resp = .mctp ([0, 0xFF, 0, byteOf (s.fuses.vendor / 256), byteOf s.fuses.vendor] ++ l) ∧ l.length = 2 ∧
      u = { s with resp := u.resp, free := u.free })) ∧
  -- GET_INFO, LOG_READ, CRASH_READ, CRASH_CLEAR
  (∀ s : State, LdpReady s →
    (∃ u, exec .getInfo s = .next u ∧ Done (toBytes 4 (s.ldpView .LDP_STAT).toNat ++ toBytes 4 (s.ldpView .BUP_STAT).toNat ++
      toBytes 4 (s.ldpView .PWR_STATE).toNat ++ toBytes 4 s.fuses.serial) s u) ∧
    (∀ i : Word, ∃ u, exec (.logRead i) s = .next u ∧ Done (s.logBytes i.toNat) s u) ∧
    (∀ o : Byte, (o = 0 ∨ o = 64) → ∃ u, exec (.crashRead o) s = .next u ∧
      Done ((List.range 16).flatMap (fun w => toBytes 4 (nth s.ldp.crash (o.toNat / 4 + w)).toNat)) s u) ∧
    (∀ o : Byte, o ≠ 0 → o ≠ 64 → exec (.crashRead o) s = .next { s with resp := .vendor 3 [] }) ∧
    (∃ u, exec .crashClear s = .next u ∧ Done [] { s with ldp := { s.ldp with crash := [] } } u)) ∧
  -- REG_READ, REG_WRITE
  (∀ (addr : Nat) (count : Byte) (ws : List Word) (s : State), LdpReady s →
    ((count = 0 ∨ 16 < count.toNat) → exec (.regRead addr count) s = .next { s with resp := .vendor 3 [] } ∧
      exec (.regWrite addr count ws) s = .next { s with resp := .vendor 3 [] })) ∧
  (∀ (addr : Nat) (s : State), LdpReady s →
    (s.wordRefusal false addr = 0 → ∃ u t, exec (.regRead addr 1) s = .next u ∧ t = s.regReadAt addr ∧
      Done (toBytes 4 t.2.toNat) t.1 u) ∧
    (s.wordRefusal false addr = 4 → ∃ u, exec (.regRead addr 1) s = .next u ∧ Refused 2 4 [] s u) ∧
    (∀ r, s.wordRefusal false addr = r → (r = 1 ∨ r = 5) → exec (.regRead addr 1) s = .next { s with resp := .vendor r [] }) ∧
    (∀ v, s.wordRefusal true addr = 0 → resetWord addr v = false → ∃ u, exec (.regWrite addr 1 [v]) s = .next u ∧
      Done [1] (s.regWriteAt .landing 0 addr v) u) ∧
    (∀ v, s.wordRefusal true addr = 4 → ∃ u, exec (.regWrite addr 1 [v]) s = .next u ∧ Refused 3 4 [0] s u) ∧
    (∀ v, s.wordRefusal true addr = 0 → resetWord addr v = true → ∃ u, exec (.regWrite addr 1 [v]) s = .next u ∧ u.resp = .none ∧
      u = { s.regWriteAt .landing 0 addr v with resp := .none })) ∧
  -- CRASH_CLR_WRITE, MBOX_IN_WRITE, MBOX_OUT_WRITE
  (∀ (v : Word) (s : State),
    (F.LDP_CRASH_CLR_CLR.get v = 1 → exec (.crashClrWrite v) s = .next { s with ldp := { s.ldp with crash := [] } }) ∧
    (F.LDP_CRASH_CLR_CLR.get v = 0 → exec (.crashClrWrite v) s = .next s) ∧
    (∃ u, exec (.mboxInWrite v) s = .next u ∧ u.rget .LDP_MBOX_IN = v ∧ u.fget .LDP_EVT ⟨0, 1⟩ = 1 ∧ Raised 12 s u ∧
      RegsKept ([.LDP_MBOX_IN, .LDP_EVT] ++ signalRegs) s u ∧ u.mem = s.mem) ∧
    (∃ u, exec (.mboxOutWrite v) s = .next u ∧ u.rget .LDP_MBOX_OUT = v ∧ u.bget .LDP_ALERT F.LDP_ALERT_MBOX = true ∧
      RegsKept [.LDP_MBOX_OUT, .LDP_ALERT] s u ∧ u.icu = s.icu ∧ u.mem = s.mem)) ∧
  -- ARA_READ, ALERT_REASSERT
  (∀ s : State,
    ((s.ldpDead = true ∨ s.alertN = false) → exec .araRead s = .next { s with resp := .none }) ∧
    (s.ldpDead = false → s.alertN = true → ∃ u, exec .araRead s = .next u ∧ u.resp = .word (wordOf (0x60 + s.bup.smbAddr)) ∧
      u.alertN = false ∧ u = { s with resp := u.resp, ldp := { s.ldp with released := true } }) ∧
    ((s.rget .LDP_ALERT).toNat &&& s.fget .LDP_ALERT_EN F.LDP_ALERT_EN_EN = 0 → exec .alertReassert s = .next s) ∧
    ((s.rget .LDP_ALERT).toNat &&& s.fget .LDP_ALERT_EN F.LDP_ALERT_EN_EN ≠ 0 → ∃ u, exec .alertReassert s = .next u ∧ u.alertN = true ∧
      u = { s with ldp := { s.ldp with released := false } }))

/-- R442, R445, R447, R448, R451, R452, R465: what the landing port does to the device: resets and power states where LDP_ACCESS lets it, the shared buffer, images and
reports. -/
def Obligations.LandingPortActs : Prop :=
  -- LDP_RESET_COLD, LDP_RESET_WARM, POWER
  (∀ (key : Fin 65536) (vin : Bool) (s : State), LdpReady s → s.bget .LDP_ACCESS F.LDP_ACCESS_CONTROL = false → s.mainOff = false →
    (∃ u, exec (.ldpResetCold key) s = .next u ∧ Refused 7 4 [] s u) ∧ (∃ u, exec (.ldpResetWarm key) s = .next u ∧ Refused 7 4 [] s u) ∧
    (s.inStandby = false → ∃ u, exec .powerStandby s = .next u ∧ Refused 8 4 [] s u) ∧
    (s.inStandby = true → ∃ u, exec .powerRun s = .next u ∧ Refused 8 4 [] s u) ∧
    (∃ u, exec .powerOffAon s = .next u ∧ Refused 8 4 [] s u) ∧
    exec (.powerStartMain vin) s = .next { s with resp := .vendor 1 [] }) ∧
  (∀ (key : Fin 65536) (s : State), LdpReady s → s.bget .LDP_ACCESS F.LDP_ACCESS_CONTROL = true → s.mainOff = false →
    (key.val ≠ 0xB007 → (∃ u, exec (.ldpResetCold key) s = .next u ∧ Refused 7 6 [] s u) ∧
      (∃ u, exec (.ldpResetWarm key) s = .next u ∧ Refused 7 6 [] s u)) ∧
    (key.val = 0xB007 → s.powerBusy = true → exec (.ldpResetCold key) s = .next { s with resp := .vendor 2 [] } ∧
      exec (.ldpResetWarm key) s = .next { s with resp := .vendor 2 [] }) ∧
    (key.val = 0xB007 → s.powerBusy = false →
      (∃ u, exec (.ldpResetCold key) s = .next u ∧ u.resp = .vendor 0 [] ∧ u.bup.kind = 1 ∧ u.bup.src = 4 ∧ u.bup.warm = false ∧
        u.stageNow = 0 ∧ u.spans = [] ∧ u.mem = default ∧ u.log = s.log) ∧
      (∃ u, exec (.ldpResetWarm key) s = .next u ∧ u.resp = .vendor 0 [] ∧ u.bup.kind = 2 ∧ u.bup.src = 4 ∧ u.bup.warm = true ∧
        u.stageNow = 0 ∧ u.spans = [] ∧ u.log = s.log)) ∧
    (s.powerBusy = false → s.inStandby = false →
      (s.standbyRefusal = 0 → ∃ u, exec .powerStandby s = .next u ∧ u.resp = .vendor 0 [] ∧ u.fget .PWR_STATE F.PWR_STATE_STATE = 1 ∧
        u.mem = s.mem) ∧
      (s.standbyRefusal ≠ 0 → ∃ u, exec .powerStandby s = .next u ∧ u.resp = .vendor 2 [] ∧
        u.fget .PWR_STATE F.PWR_STATE_REASON = s.standbyRefusal ∧ OnlyRegs [.PWR_STATE] { s with resp := u.resp } u)) ∧
    (s.powerBusy = false → s.inStandby = true → s.pwr.wake = false → s.bget .CLK_STAT F.CLK_STAT_REF_OK = true →
      ∃ u, exec .powerRun s = .next u ∧ u.resp = .vendor 0 [] ∧ u.fget .PWR_STATE F.PWR_STATE_STATE = 3 ∧
        u.fget .LDP_FERRY_STAT F.LDP_FERRY_STAT_CAUSE = 3 ∧ RegsKept [.PWR_STATE, .LDP_FERRY_STAT, .LDP_REQ] s u) ∧
    (s.inStandby = false → exec .powerRun s = .next { s with resp := .vendor 1 [] }) ∧
    (s.inStandby = true → exec .powerStandby s = .next { s with resp := .vendor 1 [] }) ∧
    (s.powerBusy = false → s.standbyRefusal = 0 → ∃ u, exec .powerOffAon s = .next u ∧ u.resp = .vendor 0 [] ∧ u.pwr.off = true ∧
      u.mem = default ∧ u.spans = [] ∧ u.log = s.log)) ∧
  (∀ (s : State), LdpReady s → s.bget .LDP_ACCESS F.LDP_ACCESS_CONTROL = true → s.mainOff = true → s.powerBusy = false →
    (∃ u, exec (.powerStartMain true) s = .next u ∧ u.pwr = { s.pwr with off := false } ∧ u.bup = { s.bup with kind := 1, src := 4 } ∧
      Done [] { s with pwr := u.pwr, bup := u.bup } u) ∧
    exec (.powerStartMain false) s = .next { s with resp := .vendor 7 [] } ∧
    (∀ key, exec (.ldpResetWarm key) s = .next { s with resp := .vendor 1 [] }) ∧
    exec .powerOffAon s = .next { s with resp := .vendor 1 [] }) ∧
  -- BUF_WRITE, BUF_READ
  (∀ (off : Word) (data : List Byte) (n : Byte) (s : State), LdpReady s →
    (s.bufServed = false → exec (.bufWrite off data) s = .next { s with resp := .vendor 1 [] } ∧
      exec (.bufRead off n) s = .next { s with resp := .vendor 1 [] }) ∧
    (s.bufServed = true →
      (bufForm off data.length = false → exec (.bufWrite off data) s = .next { s with resp := .vendor 3 [] }) ∧
      (bufForm off n.toNat = false → exec (.bufRead off n) s = .next { s with resp := .vendor 3 [] }) ∧
      (bufForm off data.length = true → 0x20000000 < off.toNat + data.length →
        exec (.bufWrite off data) s = .next { s with resp := .vendor 5 [] }) ∧
      (bufForm off n.toNat = true → 0x20000000 < off.toNat + n.toNat →
        exec (.bufRead off n) s = .next { s with resp := .vendor 5 [] }) ∧
      (∀ w, bufForm off data.length = true → off.toNat + data.length ≤ 0x20000000 →
        w = s.writeAt true (sbfAddr off.toNat) data (data.map (fun _ => false)) [] →
        ((w.err = none ∧ w.werr = none) ∨ (Undisturbed s ∧ Readable s (sbfAddr off.toNat) data.length)) →
        ∃ u, exec (.bufWrite off data) s = .next u ∧ Done [] w.st.settle u) ∧
      (∀ r, bufForm off n.toNat = true → off.toNat + n.toNat ≤ 0x20000000 → r = s.hubRead (sbfAddr off.toNat) n.toNat →
        ((r.err = none ∧ ∀ p ∈ r.pois, p = false) ∨ Undisturbed s) → ∃ u, exec (.bufRead off n) s = .next u ∧ Done r.bytes r.st u))) ∧
  -- IMG_PUSH
  (∀ (len : Word) (p : Byte) (f : Found) (s : State), LdpReady s →
    (s.bufServed = false → exec (.imgPush len p f) s = .next { s with resp := .vendor 1 [] }) ∧
    (s.bufServed = true → 1 < p.toNat → exec (.imgPush len p f) s = .next { s with resp := .vendor 3 [] }) ∧
    (s.bufServed = true → p.toNat ≤ 1 → (s.rcvState = 1 ∨ s.rcvState = 2) → exec (.imgPush len p f) s = .next { s with resp := .vendor 2 [] }) ∧
    (s.bufServed = true → p.toNat ≤ 1 → s.rcvState ≠ 1 → s.rcvState ≠ 2 → ∃ u, exec (.imgPush len p f) s = .next u ∧
      u.rget .BUP_RCV_LEN = len ∧
      ((p = 1 ∧ u.rcvState = 2 ∧ u.ldp.push = true) ∨
       (∃ st code, (st = 3 ∨ st = 4) ∧ u.rcvState = st ∧ u.resp = .vendor 0 [byteOf st, byteOf code] ∧ u.ldp.push = false ∧
        1 ≤ (u.icu.src.at 11).count)))) ∧
  -- ATTEST_SIGN, ATTEST_READ_REPORT, ATTEST_READ_CERT
  (∀ (nonce : List Byte) (o : Fin 65536) (n : Byte) (s : State), LdpReady s →
    ((s.mainOff = true ∨ s.inStandby = true) → exec (.attestSign nonce) s = .next { s with resp := .vendor 1 [] } ∧
      exec (.attestReadReport o n) s = .next { s with resp := .vendor 1 [] } ∧
      exec (.attestReadCert o n) s = .next { s with resp := .vendor 1 [] }) ∧
    (s.mainOff = false → s.inStandby = false →
      (nonce.length ≠ 32 → exec (.attestSign nonce) s = .next { s with resp := .vendor 3 [] }) ∧
      (nonce.length = 32 → exec (.attestSign nonce) s = .next { s with
        resp := .none, sec := { s.sec with ldpAtt := some (s.reportBody 1 nonce), reports := s.sec.reports + 1 } }) ∧
      (s.sec.ldpReport = none → exec (.attestReadReport o n) s = .next { s with resp := .vendor 1 [] }) ∧
      (∀ l, s.sec.ldpReport = some l → 4 ≤ n.toNat → n.toNat ≤ 240 → n.toNat % 4 = 0 → o.val + n.toNat ≤ l.length →
        ∃ u, exec (.attestReadReport o n) s = .next u ∧ Done ((l.drop o.val).take n.toNat) s u) ∧
      (4 ≤ n.toNat → n.toNat ≤ 240 → n.toNat % 4 = 0 → o.val + n.toNat ≤ s.certificate.length →
        ∃ u, exec (.attestReadCert o n) s = .next u ∧ Done ((s.certificate.drop o.val).take n.toNat) s u) ∧
      (s.certificate.length < o.val + n.toNat → exec (.attestReadCert o n) s = .next { s with resp := .vendor 3 [] })))

/-- R461 to R466: a key notice is refused with its reason or has its fuses blown, which no slot ever loses again; a report is signed for one requester at a
time and written out, or handed to the landing port. -/
def Obligations.NoticesAndReportsComplete : Prop :=
  -- KEY_ENROL, KEY_REVOKE
  (∀ (v : Word) (s : State), (s.knotGo v = false → exec (.keyEnrol v) s = .next s ∧ exec (.keyRevoke v) s = .next s) ∧
    (s.knotGo v = true →
      (knotOp s.knotRead.2 ≠ 2 → exec (.keyRevoke v) s = .next s) ∧ (knotOp s.knotRead.2 = 2 → exec (.keyEnrol v) s = .next s) ∧
      (∀ c, (c = .keyEnrol v ∧ knotOp s.knotRead.2 ≠ 2) ∨ (c = .keyRevoke v ∧ knotOp s.knotRead.2 = 2) →
        (knotOk s.knotRead.2 = false → ∃ u, exec c s = .next u ∧ u.fget .SEC_KNOT_STAT F.SEC_KNOT_STAT_STATE = 3 ∧
          u.fget .SEC_KNOT_STAT F.SEC_KNOT_STAT_REASON = 1 ∧ u.sec.knot = s.sec.knot ∧ u.fuses = s.fuses ∧ 1 ≤ (u.icu.src.at 6).count ∧
          RegsKept ([.SEC_KNOT_STAT, .SEC_EVT] ++ memoryRegs) s u) ∧
        (∃ u, exec c s = .next u ∧ u.fuses = s.fuses ∧
          ((u.fget .SEC_KNOT_STAT F.SEC_KNOT_STAT_STATE = 3 ∧ u.sec.knot = s.sec.knot) ∨
           (u.fget .SEC_KNOT_STAT F.SEC_KNOT_STAT_STATE = 1 ∧ knotOk s.knotRead.2 = true ∧
            u.sec.knot = some (knotOp s.knotRead.2, knotTarget s.knotRead.2, sub s.knotRead.2 0x10 32) ∧
            (knotOp s.knotRead.2 = 1 → (s.key (knotTarget s.knotRead.2)).empty = true) ∧
            (knotOp s.knotRead.2 = 2 → (s.key (knotTarget s.knotRead.2)).live = true ∧
              s.liveMakers ≠ [knotTarget s.knotRead.2]))))))) ∧
  -- KEY_NOTICE_DONE
  (∀ (ok : Bool) (s : State),
    (s.sec.knot = none → exec (.keyNoticeDone ok) s = .next s) ∧
    (∀ op t dig, s.sec.knot = some (op, t, dig) → t < s.fuses.keys.length →
      (op = 1 → ∃ u, exec (.keyNoticeDone true) s = .next u ∧ (u.key t).digest = dig ∧ (u.key t).valid = true ∧
        (u.key t).revoked = (s.key t).revoked ∧ (∀ k, k ≠ t → u.key k = s.key k) ∧ u.sec.knot = none ∧
        u.fget .SEC_KNOT_STAT F.SEC_KNOT_STAT_STATE = 2 ∧ u.fget .SEC_KNOT_STAT F.SEC_KNOT_STAT_REASON = 0 ∧ Raised 6 s u ∧
        RegsKept ([.SEC_KNOT_STAT, .SEC_EVT] ++ signalRegs) s u) ∧
      (op ≠ 1 → ∃ u, exec (.keyNoticeDone true) s = .next u ∧ u.key t = { s.key t with revoked := true } ∧
        (∀ k, k ≠ t → u.key k = s.key k) ∧ u.sec.knot = none ∧ u.fget .SEC_KNOT_STAT F.SEC_KNOT_STAT_STATE = 2 ∧ Raised 6 s u) ∧
      (∃ u, exec (.keyNoticeDone false) s = .next u ∧ (u.key t).valid = (s.key t).valid ∧
        ((s.key t).revoked = true → (u.key t).revoked = true) ∧ (∀ k, k ≠ t → u.key k = s.key k) ∧ u.sec.knot = none ∧
        u.fget .SEC_KNOT_STAT F.SEC_KNOT_STAT_STATE = 3 ∧ u.fget .SEC_KNOT_STAT F.SEC_KNOT_STAT_REASON = 7 ∧ Raised 6 s u))) ∧
  -- ATTEST_HOST
  (∀ (v : Word) (s : State),
    (F.SEC_ATT_GO_GO.get v = 0 → exec (.attestHost v) s = .next s) ∧
    (F.SEC_ATT_GO_GO.get v = 1 → s.sec.att ≠ none → ∃ u, exec (.attestHost v) s = .next u ∧
      u.bget .SEC_ATT_STAT F.SEC_ATT_STAT_ERR = true ∧ OnlyRegs [.SEC_ATT_STAT] s u) ∧
    (F.SEC_ATT_GO_GO.get v = 1 → s.sec.att = none → ∃ u, exec (.attestHost v) s = .next u ∧
      u.sec = { s.sec with att := some (s.reportBody 0 s.hostNonce), reports := s.sec.reports + 1 } ∧
      u.fget .SEC_ATT_STAT F.SEC_ATT_STAT_STATE = 1 ∧ OnlyRegs [.SEC_ATT_STAT] { s with sec := u.sec } u)) ∧
  -- ATTEST_DONE
  (∀ s : State,
    (s.sec.att = none → exec (.attestDone false) s = .next s) ∧ (s.sec.ldpAtt = none → exec (.attestDone true) s = .next s) ∧
    (∀ b, s.sec.att = some b → ∃ u, exec (.attestDone false) s = .next u ∧ u.sec.att = none ∧
      u.fget .SEC_ATT_STAT F.SEC_ATT_STAT_STATE = 2 ∧ 1 ≤ (u.icu.src.at 5).count ∧ u.fuses = s.fuses ∧
      RegsKept ([.SEC_ATT_STAT, .SEC_EVT] ++ memoryRegs) s u) ∧
    (∀ b, s.sec.ldpAtt = some b → ∃ u, exec (.attestDone true) s = .next u ∧ u.resp = .vendor 0 [0x08, 0x06] ∧
      u.sec = { s.sec with ldpAtt := none, ldpReport := some (report b) } ∧
      u.fget .LDP_REQ F.LDP_REQ_SERVED = min (s.fget .LDP_REQ F.LDP_REQ_SERVED + 1) (2 ^ F.LDP_REQ_SERVED.len - 1) ∧
      OnlyRegs [.LDP_REQ] { s with sec := u.sec, resp := u.resp } u))

/-- R469 to R475: what each TAP instruction shifts out and changes; EXTEST, CLAMP and HIGHZ load as BYPASS outside field test mode. -/
def TapInstructionsComplete : Prop :=
  -- TAP_RESET, TAP_IDCODE, TAP_BYPASS, TAP_SAMPLE_PRELOAD
  (∀ s : State, exec .tapReset s = .next { s with tap := { s.tap with ir := 0x01, diesel := 1 } } ∧
    exec .tapIdcode s = .next { s with tap := { s.tap with ir := 0x01 }, outbox := (s.tapChain.map (fun p => .tdo (s.idcode p))).reverse ++ s.outbox } ∧
    (s.tap.diesel = 1 → s.tapChain = [0]) ∧
    exec .tapBypass s = .next { s with tap := { s.tap with ir := 0xFF } } ∧
    (∀ pins x, exec (.tapSamplePreload pins x) s =
      .next { s with tap := { s.tap with ir := 0x02, boundary := x }, outbox := .tdo pins :: s.outbox }) ∧
    s.idcode 0 = s.fuses.stepping.at 0 % 16 * 2 ^ 28 + 0x48D0 * 2 ^ 12 + s.fuses.jedec % 2048 * 2 + 1) ∧
  -- TAP_EXTEST, TAP_CLAMP, TAP_HIGHZ
  (∀ (s : State), ∀ x ∈ [(Instr.tapExtest, 3), (.tapClamp, 4), (.tapHighz, 5)],
    (s.testState ≠ 0 → exec x.1 s = .next { s with tap := { s.tap with ir := x.2 } }) ∧
    (s.testState = 0 → s.mainOff = false → ∃ u, exec x.1 s = .next u ∧ u.tap = { s.tap with ir := 0xFF } ∧
      u.bget .TST_EVT F.TST_EVT_TAP_REFUSED = true ∧ OnlyRegs [.TST_EVT] { s with tap := u.tap } u) ∧
    (s.testState = 0 → s.mainOff = true → exec x.1 s = .next { s with tap := { s.tap with ir := 0xFF } })) ∧
  -- TAP_DIESEL
  (∀ (v : Fin 1048576) (s : State), ∃ u, exec (.tapDiesel v) s = .next u ∧ u.tap.ir = 0x10 ∧
    (∀ p, p < 20 → bitAt u.tap.diesel p = (s.selectable p && (decide (p = 0) || bitAt v.val p))) ∧
    (∃ w, u.outbox = .tdo w :: s.outbox ∧ ∀ p, p < 20 → bitAt w p = (s.selectable p && bitAt s.tap.diesel p)) ∧
    u = { s with tap := { s.tap with ir := 0x10, diesel := u.tap.diesel }, outbox := u.outbox }) ∧
  -- TAP_IJTAG
  (∀ (p : Fin 20) (v : Word) (s : State),
    ((bitAt s.tap.diesel p.val = false ∨ s.selectable p.val = false) → ∀ w, exec (.tapIjtag p w v) s =
      .next { s with tap := { s.tap with ir := 0x20 }, outbox := .tdo 0 :: s.outbox }) ∧
    (bitAt s.tap.diesel p.val = true → s.selectable p.val = true → s.stageNow = 10 →
      exec (.tapIjtag p false v) s = .next { s with tap := { s.tap with ir := 0x20 }, outbox := .tdo v.toNat :: s.outbox } ∧
      (s.testState ≠ 0 → ∃ u, exec (.tapIjtag p true v) s = .next u ∧ u.tap.inst.at p.val = v ∧
        (∀ q, q ≠ p.val → u.tap.inst.at q = s.tap.inst.at q) ∧ u = { s with tap := { s.tap with ir := 0x20, inst := u.tap.inst } }) ∧
      (s.testState = 0 → s.mainOff = false → ∃ u, exec (.tapIjtag p true v) s = .next u ∧ u.tap = { s.tap with ir := 0x20 } ∧
        u.bget .TST_EVT F.TST_EVT_IJ_REFUSED = true ∧ OnlyRegs [.TST_EVT] { s with tap := u.tap } u))) ∧
  -- TAP_REGACC
  (∀ (w : BitVec 64) (s : State) (off : Nat) (t : State), off = 0x07000000 + (w.toNat / 2 ^ 32) % 65536 →
    t = { s with tap := { s.tap with ir := 0x22 } } →
    (off % 4 ≠ 0 → exec (.tapRegacc w) s = .next { t with resp := .error }) ∧
    (off % 4 = 0 → w.toNat / 2 ^ 63 = 1 → ∃ u, exec (.tapRegacc w) s = .next u ∧ u.resp = .none ∧
      u = { t.regWriteAt .tap 0 off (wordOf w.toNat) with resp := .none }) ∧
    (off % 4 = 0 → w.toNat / 2 ^ 63 ≠ 1 → ∃ u x, exec (.tapRegacc w) s = .next u ∧ x = t.regReadAt off ∧ u.resp = .word x.2 ∧
      u.outbox = .tdo x.2.toNat :: x.1.outbox ∧ u = { x.1 with resp := u.resp, outbox := u.outbox }))

/-- R476 to R480: field test mode is entered or refused with its reason; the interconnect test's results; its exit applies them. -/
def FieldTestCompletes : Prop :=
  -- FIELD_TEST_ENTER
  (∀ s : State,
    (s.testRefusal ≠ 0 → ∃ u, exec .fieldTestEnter s = .next u ∧ u.fget .TST_STAT F.TST_STAT_REASON = s.testRefusal ∧
      u.testState = s.testState ∧ OnlyRegs [.TST_STAT] s u) ∧
    (s.testRefusal = 0 → s.stageNow = 10 → ∃ u, exec .fieldTestEnter s = .next u ∧ u.testState = 2 ∧
      u.fget .TST_STAT F.TST_STAT_NFAILTGT = 0 ∧ u.tap.fails = [] ∧
      (∀ q, q < 16 → s.portState q < 8 → u.portState q = 0) ∧
      (∀ n : Stack, s.stackFenced n.val = false → u.fget (.STK_STAT n) F.STK_STAT_STATE = 3) ∧ u.mem = s.mem ∧ u.fuses = s.fuses)) ∧
  -- INTERCONNECT_TEST_DONE
  (∀ (fails : List (Fin 86 × Bool × List (Fin 704))) (s : State),
    (s.testState ≠ 2 → exec (.interconnectTestDone fails) s = .next s) ∧
    (s.testState = 2 → s.tap.exit = false → ∃ u, exec (.interconnectTestDone fails) s = .next u ∧ u.testState = 3 ∧
      u.tap.ran = s.testTargets ∧ (∀ k ∈ s.testTargets, u.tap.fails.at k = testWires fails k) ∧
      (∀ k, k ∉ s.testTargets → u.tap.fails.at k = []) ∧
      u.fget .TST_STAT F.TST_STAT_NFAILTGT = min 255 (s.testTargets.filter (fun k => testWires fails k ≠ [])).length ∧
      OnlyRegs [.TST_STAT] { s with tap := u.tap } u) ∧
    (s.testState = 2 → s.tap.exit = true → ∃ u, exec (.interconnectTestDone fails) s = .next u ∧ u.testState = 0 ∧
      u.fuses = s.fuses)) ∧
  -- FIELD_TEST_EXIT
  (∀ (ok : Bool) (s : State),
    (s.testState = 2 → exec (.fieldTestExit ok) s = .next { s with tap := { s.tap with exit := true } }) ∧
    (s.testState ≠ 2 → s.testState ≠ 3 → exec (.fieldTestExit ok) s = .next s) ∧
    (s.testState = 3 → ∃ u, exec (.fieldTestExit ok) s = .next u ∧ u.testState = 0 ∧ u.tap.exit = false ∧
      u.tap.ir ∉ [3, 4, 5] ∧ u.tap.ran = s.tap.ran ∧ u.tap.fails = s.tap.fails ∧ u.fuses = s.fuses))

/-- R469 to R480: the TAP and the field test. -/
def Obligations.TestAccessCompletes : Prop := TapInstructionsComplete ∧ FieldTestCompletes

/-- The device takes its commands first in, first out: a step performs the command at the front of the queue with the queue's rest.  With no
command waiting a microsecond passes, which ICU_TICK counts (R403) unless the main side is off; the hub's chain router has then served every
message that waited, an urgent one before a normal one (R124), the edge routers' ingress queues have drained (R118), and, where no request,
write or message waits, the coalescing windows that have run out (R402) have ended, and nothing but what their sources' messages change is
changed (that a step on an empty queue is such a tick is the model's choice: assumptions 1 and 101). -/
def Obligations.AStepPerformsTheFirstCommand : Prop :=
  (∀ (c : Instr) (l : List Instr) (s : State), step { s with pending := c :: l } = exec c { s with pending := l }) ∧
  (∀ s : State, s.pending = [] →
    (s.pwr.off = true → step s = .next s) ∧
    (s.pwr.off = false → ∃ u, step s = .next u ∧ u.icu.tick = s.icu.tick + 1 ∧ (∀ x ∈ s.chain.waiting, .chain x.2 ∈ u.outbox) ∧
      (∀ (d : Die) (b : Fin 8), u.fget (.CDI_EDGE d b) F.CDI_EDGE_INQ = 0) ∧ u.pending = [] ∧
      (∀ p q m n, s.chain.waiting = [(p, n), (q, m)] → urgentClass m.cls = true → urgentClass n.cls = false →
        .chain n :: .chain m :: s.outbox <:+ u.outbox) ∧
      (∀ p q m n, s.chain.waiting = [(p, n), (q, m)] → urgentClass m.cls = urgentClass n.cls → p < q →
        s.chain.lastUrg = p → s.chain.lastNorm = p → .chain n :: .chain m :: s.outbox <:+ u.outbox) ∧
      (s.chain.waiting = [] → s.tkt.heldReqs = [] → (∀ p k, (s.dirOf p k).writes = []) →
        (∀ (d : Die) (b : Fin 8), s.fget (.CDI_EDGE d b) F.CDI_EDGE_INQ = 0) →
        Signals s u ∧
        (∀ k : Src, u.icu.src.at k.val = { s.icu.src.at k.val with expired := (u.icu.src.at k.val).expired }) ∧
        (∀ (k : Src) (w : Nat), levelSource k.val = false → (s.icu.src.at k.val).win = some w →
          s.fget (.ICU_COAL k) F.ICU_COAL_WIN ≠ 0 → w + s.fget (.ICU_COAL k) F.ICU_COAL_WIN ≤ s.icu.tick + 1 →
          (u.icu.src.at k.val).expired = true))))

/-- What reset leaves: every register at its reset value, no span, no engine with work, no source with an event, the queue empty, the defect
log empty, and memory as its initial fill leaves it, every byte 0 (R208), in canonical form.  The reset values of the spec's tables are
their own; the fuses are the model's choice (assumption 3). -/
def Obligations.ResetLeavesRegistersAtTheirResetValues : Prop :=
  (∀ r : Reg, State.reset.rget r = r.reset) ∧ State.reset.pending = [] ∧ State.reset.spans = [] ∧ State.reset.engs = [] ∧
  State.reset.log.recs = [] ∧ (∀ k, State.reset.icu.src.at k = default) ∧ (∀ k, Tab.at State.reset.mem.data k = 0) ∧
  Memory.wf State.reset.mem = true ∧ State.reset.fuses = Fuses.made

/-- Every command that can be sent to the device is performed: the device goes on to a next state, whatever state it is in; no data, no mode
and no fault that it has suffered stops it. -/
def Obligations.EveryWellFormedCommandIsPerformed : Prop :=
  ∀ (c : Instr) (s : State), c.wf = true → ∃ t, exec c s = .next t

/-- The list of memory's cells keeps its canonical form over every step, whatever the command: equal memories are equal data. -/
def Obligations.EveryStepKeepsMemoryCanonical : Prop :=
  ∀ s t : State, Memory.wf s.mem = true → step s = .next t → Memory.wf t.mem = true

/-- R390, R394, R462: what no step undoes.  The defect log only grows, at its end; a fuse that is blown stays blown, so that a key slot that
is VALID stays VALID and one that is REVOKED stays REVOKED; no other fuse changes; and no command changes the queue of those behind it. -/
def Obligations.NoStepUndoesTheLogOrTheFuses : Prop :=
  ∀ (c : Instr) (s t : State), exec c s = .next t →
    s.log.recs <+: t.log.recs ∧ t.fuses = { s.fuses with keys := t.fuses.keys } ∧ t.fuses.keys.length = s.fuses.keys.length ∧
    (∀ k, (s.key k).valid = true → (t.key k).valid = true) ∧ (∀ k, (s.key k).revoked = true → (t.key k).revoked = true) ∧
    t.pending = s.pending

/-- R13, R506: the register map names each register by one offset, a multiple of 4 below the alias at 0x0800_0000, and each offset names at
most one register. -/
def Obligations.RegisterMapIsOneToOne : Prop :=
  (∀ r : Reg, Reg.ofOffset r.offset = some r ∧ r.offset % 4 = 0 ∧ r.offset < 0x08000000) ∧
  (∀ (o : Nat) (r : Reg), Reg.ofOffset o = some r → r.offset = o)

/-- R192 to R195: in either code the check bits locate every single error, of data or of a check bit; every double error is uncorrectable, and
neither corrected nor taken for poison; and the check bits that R195 stores with poisoned data read as poison. -/
def Obligations.CheckCodesLocateEveryError : Prop :=
  -- the word code, with the data `x` and the check bits `wordCheck x`, of which bits have then changed
  (∀ x : Nat,
    wordSyndrome (wordCheck x ^^^ wordCheck x) = .clean ∧
    wordSyndrome ((wordCheck x ^^^ wordPoison) ^^^ wordCheck x) = .poison ∧
    (∀ i, i < 32 → wordSyndrome (wordCheck x ^^^ wordCheck (x ^^^ 2 ^ i)) = .dataBit i) ∧
    (∀ j, j < 7 → wordSyndrome ((wordCheck x ^^^ 2 ^ j) ^^^ wordCheck x) = .checkBit j) ∧
    (∀ i k, i < 32 → k < 32 → i ≠ k → wordSyndrome (wordCheck x ^^^ wordCheck (x ^^^ 2 ^ i ^^^ 2 ^ k)) = .bad) ∧
    (∀ i j, i < 32 → j < 7 → wordSyndrome ((wordCheck x ^^^ 2 ^ j) ^^^ wordCheck (x ^^^ 2 ^ i)) = .bad) ∧
    (∀ j l, j < 7 → l < 7 → j ≠ l → wordSyndrome ((wordCheck x ^^^ 2 ^ j ^^^ 2 ^ l) ^^^ wordCheck x) = .bad)) ∧
  -- the byte-lane code
  (∀ x : Nat,
    byteSyndrome (byteCheck x ^^^ byteCheck x) = .clean ∧
    byteSyndrome ((byteCheck x ^^^ bytePoison) ^^^ byteCheck x) = .poison ∧
    (∀ i, i < 8 → byteSyndrome (byteCheck x ^^^ byteCheck (x ^^^ 2 ^ i)) = .dataBit i) ∧
    (∀ j, j < 5 → byteSyndrome ((byteCheck x ^^^ 2 ^ j) ^^^ byteCheck x) = .checkBit j) ∧
    (∀ i k, i < 8 → k < 8 → i ≠ k → byteSyndrome (byteCheck x ^^^ byteCheck (x ^^^ 2 ^ i ^^^ 2 ^ k)) = .bad) ∧
    (∀ i j, i < 8 → j < 5 → byteSyndrome ((byteCheck x ^^^ 2 ^ j) ^^^ byteCheck (x ^^^ 2 ^ i)) = .bad) ∧
    (∀ j l, j < 5 → l < 5 → j ≠ l → byteSyndrome ((byteCheck x ^^^ 2 ^ j ^^^ 2 ^ l) ^^^ byteCheck x) = .bad))

/-- R162 to R164: the interleaved view names each offset of each stack by one address, in full mode, the one whose A[14:12] is the stack's number
exclusive-or bits 19:17 of the offset, and, with bit 39 ignored, each of the four live stacks in reduced mode. -/
def Obligations.TheInterleavedViewIsOneToOne : Prop :=
  (∀ n o : Nat, n < 8 → o < 2 ^ 37 →
    (∃ a, a < 2 ^ 40 ∧ ilPlace .full a = some (n, o) ∧ bits a 12 3 = n ^^^ bits o 17 3) ∧
    ∀ a b, a < 2 ^ 40 → b < 2 ^ 40 → ilPlace .full a = some (n, o) → ilPlace .full b = some (n, o) → a = b) ∧
  (∀ a, a < 2 ^ 40 → ∃ n o, ilPlace .full a = some (n, o) ∧ n < 8 ∧ o < 2 ^ 37) ∧
  (∀ g n o : Nat, g < 2 → 4 * g ≤ n → n < 4 * g + 4 → o < 2 ^ 37 →
    (∃ a, a < 2 ^ 39 ∧ ilPlace (.reduced g) a = some (n, o)) ∧
    ∀ a b, ilPlace (.reduced g) a = some (n, o) → ilPlace (.reduced g) b = some (n, o) → a % 2 ^ 39 = b % 2 ^ 39) ∧
  (∀ a, ilPlace .off a = none)
end

