-- ==== Sys2Proof/Laws/Codes.lean ====
section
/-! SUPPORT. The CRC registers of memory (R204) and of the causeway (R298) are plain left folds: the laws that proofs cite in place of the
recursions that evaluate. -/

namespace Sys2Proof.Machine

theorem crcFold_eq (l : List Byte) (c : Nat) : crcFold l c = l.foldl crcStep c := by
  induction l generalizing c with
  | nil => rfl
  | cons b l ih => cases c <;> exact ih _

theorem crc16Fold_eq (l : List Bool) (c : Nat) : crc16Fold l c = l.foldl crc16Bit c := by
  induction l generalizing c with
  | nil => rfl
  | cons b l ih => cases c <;> exact ih _

end Sys2Proof.Machine
end

