-- ==== Sys2Proof/Laws/Table.lean ====
section
/-! SUPPORT. Laws of sparse tables, of register fields and of bytes: what a read answers after a write, and that every write keeps
the canonical form. -/

namespace Sys2Proof

section
variable {α : Type} [Inhabited α]

@[simp] theorem Tab.at_nil (k : Nat) : Tab.at ([] : Tab α) k = default := rfl

theorem Tab.at_insert (t : Tab α) (k j : Nat) (v : α) :
    Tab.at (Tab.insert t k v) j = if j = k then v else Tab.at t j := by
  induction t with
  | nil => rfl
  | cons e t ih =>
    obtain ⟨i, u⟩ := e
    simp only [Tab.insert]
    split
    · rfl
    · split
      · subst_vars
        simp only [Tab.at]
        split <;> rfl
      · simp only [Tab.at, ih]
        split
        · split
          · omega
          · rfl
        · rfl

theorem Tab.at_filter_ne (t : Tab α) (k j : Nat) :
    Tab.at (t.filter (fun e => e.1 ≠ k)) j = if j = k then default else Tab.at t j := by
  induction t with
  | nil => simp
  | cons e t ih =>
    obtain ⟨i, u⟩ := e
    by_cases h : i = k
    · subst h
      by_cases hj : j = i
      · simpa [hj, Tab.at] using ih
      · simp [hj, Tab.at] at ih ⊢
        exact ih
    · rw [List.filter_cons_of_pos (by simpa using h)]
      simp only [Tab.at, ih]
      by_cases hj : j = i
      · subst hj; simp [h]
      · simp [hj]

variable [DecidableEq α]

/-- A read after a write: the value written at its key, and every other key as before. -/
theorem Tab.at_put (t : Tab α) (k j : Nat) (v : α) :
    Tab.at (Tab.put t k v) j = if j = k then v else Tab.at t j := by
  unfold Tab.put
  split
  · rename_i h
    subst h
    exact Tab.at_filter_ne t k j
  · exact Tab.at_insert t k j v

@[simp] theorem Tab.at_put_same (t : Tab α) (k : Nat) (v : α) : Tab.at (Tab.put t k v) k = v := by
  simp [Tab.at_put]

theorem Tab.at_put_other (t : Tab α) {k j : Nat} (v : α) (h : j ≠ k) : Tab.at (Tab.put t k v) j = Tab.at t j := by
  simp [Tab.at_put, h]

theorem Tab.at_upd (t : Tab α) (k j : Nat) (f : α → α) :
    Tab.at (Tab.upd t k f) j = if j = k then f (Tab.at t k) else Tab.at t j := Tab.at_put t k j _

@[simp] theorem Tab.at_upd_same (t : Tab α) (k : Nat) (f : α → α) : Tab.at (Tab.upd t k f) k = f (Tab.at t k) := by
  simp [Tab.at_upd]

/-- The canonical form in words: no default value is listed and the keys rise. -/
theorem Tab.wf_iff (t : Tab α) : Tab.wf t = true ↔ (∀ e ∈ t, e.2 ≠ default) ∧ t.Pairwise (fun a b => a.1 < b.1) := by
  induction t with
  | nil => simp [Tab.wf]
  | cons e t ih =>
    obtain ⟨j, v⟩ := e
    cases t with
    | nil => simp [Tab.wf]
    | cons e' t =>
      obtain ⟨k, u⟩ := e'
      simp only [Tab.wf, Bool.and_eq_true, decide_eq_true_eq, ih]
      constructor
      · rintro ⟨⟨hv, hjk⟩, hall, hp⟩
        refine ⟨?_, ?_⟩
        · intro e he
          rcases List.mem_cons.mp he with rfl | he
          · exact hv
          · exact hall e he
        · refine List.Pairwise.cons ?_ hp
          intro b hb
          rcases List.mem_cons.mp hb with rfl | hb
          · exact hjk
          · exact lt_trans hjk ((List.pairwise_cons.mp hp).1 b hb)
      · rintro ⟨hall, hp⟩
        have h := List.pairwise_cons.mp hp
        exact ⟨⟨hall _ (List.mem_cons_self ..), h.1 _ (List.mem_cons_self ..)⟩,
          fun e he => hall e (List.mem_cons_of_mem _ he), h.2⟩

omit [Inhabited α] [DecidableEq α] in
theorem Tab.mem_insert {t : Tab α} {k : Nat} {v : α} {e : Nat × α} (h : e ∈ Tab.insert t k v) :
    e = (k, v) ∨ e ∈ t := by
  induction t with
  | nil => simpa [Tab.insert] using h
  | cons a t ih =>
    obtain ⟨i, u⟩ := a
    simp only [Tab.insert] at h
    split at h
    · simpa using h
    · split at h
      · rcases List.mem_cons.mp h with h | h
        · exact .inl h
        · exact .inr (List.mem_cons_of_mem _ h)
      · rcases List.mem_cons.mp h with h | h
        · exact .inr (h ▸ List.mem_cons_self ..)
        · exact (ih h).imp id (List.mem_cons_of_mem _)

theorem Tab.wf_insert {t : Tab α} (h : Tab.wf t = true) (k : Nat) {v : α} (hv : v ≠ default) :
    Tab.wf (Tab.insert t k v) = true := by
  rw [Tab.wf_iff] at h ⊢
  obtain ⟨hall, hp⟩ := h
  refine ⟨?_, ?_⟩
  · intro e he
    rcases Tab.mem_insert he with rfl | he
    · exact hv
    · exact hall e he
  · clear hall
    induction t with
    | nil => simp [Tab.insert]
    | cons a t ih =>
      obtain ⟨i, u⟩ := a
      have hc := List.pairwise_cons.mp hp
      simp only [Tab.insert]
      split
      · rename_i hk
        refine List.Pairwise.cons ?_ hp
        intro b hb
        rcases List.mem_cons.mp hb with rfl | hb
        · exact hk
        · exact lt_trans hk (hc.1 b hb)
      · split
        · rename_i hk
          subst hk
          exact List.Pairwise.cons hc.1 hc.2
        · refine List.Pairwise.cons ?_ (ih hc.2)
          intro b hb
          rcases Tab.mem_insert hb with rfl | hb
          · show i < k
            omega
          · exact hc.1 b hb

/-- Writing keeps the canonical form. -/
theorem Tab.wf_put {t : Tab α} (h : Tab.wf t = true) (k : Nat) (v : α) : Tab.wf (Tab.put t k v) = true := by
  unfold Tab.put
  split
  · rw [Tab.wf_iff] at h ⊢
    exact ⟨fun e he => h.1 e (List.mem_filter.mp he).1, h.2.filter _⟩
  · rename_i hv
    exact Tab.wf_insert h k hv

theorem Tab.wf_upd {t : Tab α} (h : Tab.wf t = true) (k : Nat) (f : α → α) : Tab.wf (Tab.upd t k f) = true :=
  Tab.wf_put h k _

end

/-! ### Fields of registers -/

theorem add_mul_lt {a b m n : Nat} (ha : a < m) (hb : b < n) : a + m * b < m * n :=
  calc a + m * b < m + m * b := Nat.add_lt_add_right ha _
    _ = m * (b + 1) := by ring
    _ ≤ m * n := Nat.mul_le_mul_left _ hb

theorem Fld.put_toNat (f : Fld) (w : Word) (v : Nat) (h : f.lo + f.len ≤ 32) :
    (f.put w v).toNat = w.toNat % 2 ^ f.lo + 2 ^ f.lo * (v % 2 ^ f.len)
      + 2 ^ (f.lo + f.len) * (w.toNat / 2 ^ (f.lo + f.len)) := by
  unfold Fld.put
  rw [BitVec.toNat_ofNat]
  apply Nat.mod_eq_of_lt
  have hw := w.isLt
  have h1 : w.toNat % 2 ^ f.lo < 2 ^ f.lo := Nat.mod_lt _ (by positivity)
  have h2 : v % 2 ^ f.len < 2 ^ f.len := Nat.mod_lt _ (by positivity)
  have h3 : w.toNat % 2 ^ f.lo + 2 ^ f.lo * (v % 2 ^ f.len) < 2 ^ (f.lo + f.len) := by
    rw [pow_add]
    exact add_mul_lt h1 h2
  have h4 : w.toNat / 2 ^ (f.lo + f.len) < 2 ^ (32 - (f.lo + f.len)) := by
    apply Nat.div_lt_of_lt_mul
    rw [← pow_add]
    have : f.lo + f.len + (32 - (f.lo + f.len)) = 32 := by omega
    rw [this]
    exact hw
  have h5 : 2 ^ (f.lo + f.len) * 2 ^ (32 - (f.lo + f.len)) = 2 ^ 32 := by
    rw [← pow_add]
    congr 1
    omega
  rw [← h5]
  exact add_mul_lt h3 h4

/-- A field that has been set reads as the low bits of what it was set to. -/
theorem Fld.get_put (f : Fld) (w : Word) (v : Nat) (h : f.lo + f.len ≤ 32) : f.get (f.put w v) = v % 2 ^ f.len := by
  have ha : w.toNat % 2 ^ f.lo < 2 ^ f.lo := Nat.mod_lt _ (by positivity)
  unfold Fld.get
  rw [Fld.put_toNat f w v h, pow_add, mul_assoc, add_assoc, ← Nat.mul_add, Nat.add_mul_div_left _ _ (by positivity),
    Nat.div_eq_of_lt ha, Nat.zero_add, Nat.add_mul_mod_self_left, Nat.mod_mod]

/-- Setting a field changes no field below it or above it. -/
theorem Fld.get_put_other (f g : Fld) (w : Word) (v : Nat) (h : f.lo + f.len ≤ 32)
    (d : g.lo + g.len ≤ f.lo ∨ f.lo + f.len ≤ g.lo) : g.get (f.put w v) = g.get w := by
  unfold Fld.get
  rw [Fld.put_toNat f w v h]
  have ha : w.toNat % 2 ^ f.lo < 2 ^ f.lo := Nat.mod_lt _ (by positivity)
  have hm : v % 2 ^ f.len < 2 ^ f.len := Nat.mod_lt _ (by positivity)
  have hlow : w.toNat % 2 ^ f.lo + 2 ^ f.lo * (v % 2 ^ f.len) < 2 ^ (f.lo + f.len) := by
    rw [pow_add]
    exact add_mul_lt ha hm
  rcases d with d | d
  · obtain ⟨c, hc⟩ := Nat.exists_eq_add_of_le d
    have hx : w.toNat = w.toNat % 2 ^ f.lo + 2 ^ f.lo * (w.toNat / 2 ^ f.lo) := (Nat.mod_add_div _ _).symm
    have key : ∀ y, (w.toNat % 2 ^ f.lo + 2 ^ f.lo * y) / 2 ^ g.lo % 2 ^ g.len
        = w.toNat % 2 ^ f.lo / 2 ^ g.lo % 2 ^ g.len := by
      intro y
      rw [hc, pow_add, pow_add, mul_assoc, mul_assoc, Nat.add_mul_div_left _ _ (by positivity), mul_assoc,
        Nat.add_mul_mod_self_left]
    have e1 : w.toNat % 2 ^ f.lo + 2 ^ f.lo * (v % 2 ^ f.len) + 2 ^ (f.lo + f.len) * (w.toNat / 2 ^ (f.lo + f.len))
        = w.toNat % 2 ^ f.lo + 2 ^ f.lo * (v % 2 ^ f.len + 2 ^ f.len * (w.toNat / 2 ^ (f.lo + f.len))) := by
      rw [pow_add]
      ring
    rw [e1, key]
    conv_rhs => rw [hx]
    rw [key]
  · obtain ⟨c, hc⟩ := Nat.exists_eq_add_of_le d
    have key : ∀ x, x < 2 ^ (f.lo + f.len) → ∀ y, (x + 2 ^ (f.lo + f.len) * y) / 2 ^ g.lo = y / 2 ^ c := by
      intro x hx y
      rw [hc, pow_add _ _ c, ← Nat.div_div_eq_div_mul, Nat.add_mul_div_left _ _ (by positivity), Nat.div_eq_of_lt hx,
        Nat.zero_add]
    rw [key _ hlow]
    conv_rhs => rw [← Nat.mod_add_div w.toNat (2 ^ (f.lo + f.len))]
    rw [key _ (Nat.mod_lt _ (by positivity))]

@[simp] theorem toBytes_length (n x : Nat) : (toBytes n x).length = n := by
  induction n generalizing x with
  | zero => rfl
  | succ n ih => simp [toBytes, ih]

/-- The bytes of a number, read back, are its low bytes (R7). -/
theorem ofBytes_toBytes (n x : Nat) : ofBytes (toBytes n x) = x % 256 ^ n := by
  induction n generalizing x with
  | zero => simp [toBytes, ofBytes, Nat.mod_one]
  | succ n ih =>
    have h : (byteOf x).toNat = x % 256 := BitVec.toNat_ofNat x 8
    rw [toBytes, ofBytes, ih, h, pow_succ', Nat.mod_mul]

end Sys2Proof
end

