-- ==== Sys2Proof/Laws/State.lean ====
section
/-! SUPPORT. Laws of State: what the setters of Ops.lean change, each field by field; and of the register file. -/

namespace Sys2Proof.Machine

/-! ### The register file -/

theorem regGet_ins (l : List (Reg × Word)) (r q : Reg) (v : Word) :
    regGet (regIns l r v) q = if q = r then v else regGet l q := by
  induction l with
  | nil => simp [regIns, regGet]
  | cons e l ih =>
    obtain ⟨a, u⟩ := e
    simp only [regIns]
    split
    · subst_vars
      simp only [regGet]
      split <;> rfl
    · split
      · rfl
      · simp only [regGet, ih]
        split
        · split
          · subst_vars
            contradiction
          · rfl
        · rfl

theorem regGet_filter (l : List (Reg × Word)) (r q : Reg) :
    regGet (l.filter (fun e => e.1 ≠ r)) q = if q = r then r.reset else regGet l q := by
  induction l with
  | nil =>
    simp only [List.filter_nil, regGet]
    split
    · subst_vars; rfl
    · rfl
  | cons e l ih =>
    obtain ⟨a, u⟩ := e
    by_cases h : a = r
    · subst h
      rw [List.filter_cons_of_neg (by simp), ih]
      by_cases hq : q = a
      · simp [hq]
      · simp [hq, regGet]
    · rw [List.filter_cons_of_pos (by simpa using h)]
      simp only [regGet, ih]
      by_cases hq : q = a
      · subst hq; simp [h]
      · simp [hq]

/-- A register read after a register write. -/
theorem regGet_set (l : List (Reg × Word)) (r q : Reg) (v : Word) :
    regGet (regSet l r v) q = if q = r then v else regGet l q := by
  unfold regSet
  split
  · rename_i h
    rw [regGet_filter, h]
  · exact regGet_ins l r q v

theorem State.rget_rset (s : State) (r q : Reg) (v : Word) :
    (s.rset r v).rget q = if q = r then v else s.rget q := regGet_set s.regs r q v

@[simp] theorem State.rget_rset_same (s : State) (r : Reg) (v : Word) : (s.rset r v).rget r = v := by
  simp [State.rget_rset]

theorem State.rget_rset_other (s : State) {r q : Reg} (v : Word) (h : q ≠ r) : (s.rset r v).rget q = s.rget q := by
  simp [State.rget_rset, h]

theorem State.rget_fset (s : State) (r q : Reg) (f : Fld) (v : Nat) :
    (s.fset r f v).rget q = if q = r then f.put (s.rget r) v else s.rget q := State.rget_rset s r q _

theorem State.rget_fset_other (s : State) {r q : Reg} (f : Fld) (v : Nat) (h : q ≠ r) :
    (s.fset r f v).rget q = s.rget q := State.rget_rset_other s _ h

/-- A field that has been set reads as the low bits of what it was set to. -/
theorem State.fget_fset_same (s : State) (r : Reg) (f : Fld) (v : Nat) (h : f.lo + f.len ≤ 32) :
    (s.fset r f v).fget r f = v % 2 ^ f.len := by
  simp [State.fget, State.rget_fset, Fld.get_put _ _ _ h]

/-- Setting a field leaves the other fields of the register. -/
theorem State.fget_fset_field (s : State) (r : Reg) (f g : Fld) (v : Nat) (h : f.lo + f.len ≤ 32)
    (d : g.lo + g.len ≤ f.lo ∨ f.lo + f.len ≤ g.lo) : (s.fset r f v).fget r g = s.fget r g := by
  simp [State.fget, State.rget_fset, Fld.get_put_other _ _ _ _ h d]

theorem State.fget_fset_other (s : State) {r q : Reg} (f g : Fld) (v : Nat) (h : q ≠ r) :
    (s.fset r f v).fget q g = s.fget q g := by
  simp [State.fget, State.rget_fset_other s f v h]

/-! ### What `State.rset` leaves -/

@[simp] theorem State.rset_icu (s : State) (r : Reg) (v : Word) : (s.rset r v).icu = s.icu := rfl
@[simp] theorem State.rset_mem (s : State) (r : Reg) (v : Word) : (s.rset r v).mem = s.mem := rfl
@[simp] theorem State.rset_scrub (s : State) (r : Reg) (v : Word) : (s.rset r v).scrub = s.scrub := rfl
@[simp] theorem State.rset_keep (s : State) (r : Reg) (v : Word) : (s.rset r v).keep = s.keep := rfl
@[simp] theorem State.rset_engs (s : State) (r : Reg) (v : Word) : (s.rset r v).engs = s.engs := rfl
@[simp] theorem State.rset_sites (s : State) (r : Reg) (v : Word) : (s.rset r v).sites = s.sites := rfl
@[simp] theorem State.rset_barrier (s : State) (r : Reg) (v : Word) : (s.rset r v).barrier = s.barrier := rfl
@[simp] theorem State.rset_subst (s : State) (r : Reg) (v : Word) : (s.rset r v).subst = s.subst := rfl
@[simp] theorem State.rset_spans (s : State) (r : Reg) (v : Word) : (s.rset r v).spans = s.spans := rfl
@[simp] theorem State.rset_rings (s : State) (r : Reg) (v : Word) : (s.rset r v).rings = s.rings := rfl
@[simp] theorem State.rset_image (s : State) (r : Reg) (v : Word) : (s.rset r v).image = s.image := rfl
@[simp] theorem State.rset_load (s : State) (r : Reg) (v : Word) : (s.rset r v).load = s.load := rfl
@[simp] theorem State.rset_mode (s : State) (r : Reg) (v : Word) : (s.rset r v).mode = s.mode := rfl
@[simp] theorem State.rset_changes (s : State) (r : Reg) (v : Word) : (s.rset r v).changes = s.changes := rfl
@[simp] theorem State.rset_shadow (s : State) (r : Reg) (v : Word) : (s.rset r v).shadow = s.shadow := rfl
@[simp] theorem State.rset_staged (s : State) (r : Reg) (v : Word) : (s.rset r v).staged = s.staged := rfl
@[simp] theorem State.rset_stale (s : State) (r : Reg) (v : Word) : (s.rset r v).stale = s.stale := rfl
@[simp] theorem State.rset_pend (s : State) (r : Reg) (v : Word) : (s.rset r v).pend = s.pend := rfl
@[simp] theorem State.rset_gen (s : State) (r : Reg) (v : Word) : (s.rset r v).gen = s.gen := rfl
@[simp] theorem State.rset_movers (s : State) (r : Reg) (v : Word) : (s.rset r v).movers = s.movers := rfl
@[simp] theorem State.rset_place (s : State) (r : Reg) (v : Word) : (s.rset r v).place = s.place := rfl
@[simp] theorem State.rset_tkt (s : State) (r : Reg) (v : Word) : (s.rset r v).tkt = s.tkt := rfl
@[simp] theorem State.rset_flash (s : State) (r : Reg) (v : Word) : (s.rset r v).flash = s.flash := rfl
@[simp] theorem State.rset_retr (s : State) (r : Reg) (v : Word) : (s.rset r v).retr = s.retr := rfl
@[simp] theorem State.rset_sec (s : State) (r : Reg) (v : Word) : (s.rset r v).sec = s.sec := rfl
@[simp] theorem State.rset_fuses (s : State) (r : Reg) (v : Word) : (s.rset r v).fuses = s.fuses := rfl
@[simp] theorem State.rset_log (s : State) (r : Reg) (v : Word) : (s.rset r v).log = s.log := rfl
@[simp] theorem State.rset_pwr (s : State) (r : Reg) (v : Word) : (s.rset r v).pwr = s.pwr := rfl
@[simp] theorem State.rset_thm (s : State) (r : Reg) (v : Word) : (s.rset r v).thm = s.thm := rfl
@[simp] theorem State.rset_bup (s : State) (r : Reg) (v : Word) : (s.rset r v).bup = s.bup := rfl
@[simp] theorem State.rset_shadows (s : State) (r : Reg) (v : Word) : (s.rset r v).shadows = s.shadows := rfl
@[simp] theorem State.rset_wave (s : State) (r : Reg) (v : Word) : (s.rset r v).wave = s.wave := rfl
@[simp] theorem State.rset_ldp (s : State) (r : Reg) (v : Word) : (s.rset r v).ldp = s.ldp := rfl
@[simp] theorem State.rset_cwy (s : State) (r : Reg) (v : Word) : (s.rset r v).cwy = s.cwy := rfl
@[simp] theorem State.rset_chain (s : State) (r : Reg) (v : Word) : (s.rset r v).chain = s.chain := rfl
@[simp] theorem State.rset_ports (s : State) (r : Reg) (v : Word) : (s.rset r v).ports = s.ports := rfl
@[simp] theorem State.rset_grp (s : State) (r : Reg) (v : Word) : (s.rset r v).grp = s.grp := rfl
@[simp] theorem State.rset_tap (s : State) (r : Reg) (v : Word) : (s.rset r v).tap = s.tap := rfl
@[simp] theorem State.rset_doze (s : State) (r : Reg) (v : Word) : (s.rset r v).doze = s.doze := rfl
@[simp] theorem State.rset_deadRows (s : State) (r : Reg) (v : Word) : (s.rset r v).deadRows = s.deadRows := rfl
@[simp] theorem State.rset_fns (s : State) (r : Reg) (v : Word) : (s.rset r v).fns = s.fns := rfl
@[simp] theorem State.rset_devs (s : State) (r : Reg) (v : Word) : (s.rset r v).devs = s.devs := rfl
@[simp] theorem State.rset_lostDevs (s : State) (r : Reg) (v : Word) : (s.rset r v).lostDevs = s.lostDevs := rfl
@[simp] theorem State.rset_bridgeEn (s : State) (r : Reg) (v : Word) : (s.rset r v).bridgeEn = s.bridgeEn := rfl
@[simp] theorem State.rset_perst (s : State) (r : Reg) (v : Word) : (s.rset r v).perst = s.perst := rfl
@[simp] theorem State.rset_faultN (s : State) (r : Reg) (v : Word) : (s.rset r v).faultN = s.faultN := rfl
@[simp] theorem State.rset_outbox (s : State) (r : Reg) (v : Word) : (s.rset r v).outbox = s.outbox := rfl
@[simp] theorem State.rset_resp (s : State) (r : Reg) (v : Word) : (s.rset r v).resp = s.resp := rfl
@[simp] theorem State.rset_free (s : State) (r : Reg) (v : Word) : (s.rset r v).free = s.free := rfl
@[simp] theorem State.rset_pending (s : State) (r : Reg) (v : Word) : (s.rset r v).pending = s.pending := rfl

/-! ### What `State.fset` leaves -/

@[simp] theorem State.fset_icu (s : State) (r : Reg) (f : Fld) (v : Nat) : (s.fset r f v).icu = s.icu := rfl
@[simp] theorem State.fset_mem (s : State) (r : Reg) (f : Fld) (v : Nat) : (s.fset r f v).mem = s.mem := rfl
@[simp] theorem State.fset_scrub (s : State) (r : Reg) (f : Fld) (v : Nat) : (s.fset r f v).scrub = s.scrub := rfl
@[simp] theorem State.fset_keep (s : State) (r : Reg) (f : Fld) (v : Nat) : (s.fset r f v).keep = s.keep := rfl
@[simp] theorem State.fset_engs (s : State) (r : Reg) (f : Fld) (v : Nat) : (s.fset r f v).engs = s.engs := rfl
@[simp] theorem State.fset_sites (s : State) (r : Reg) (f : Fld) (v : Nat) : (s.fset r f v).sites = s.sites := rfl
@[simp] theorem State.fset_barrier (s : State) (r : Reg) (f : Fld) (v : Nat) : (s.fset r f v).barrier = s.barrier := rfl
@[simp] theorem State.fset_subst (s : State) (r : Reg) (f : Fld) (v : Nat) : (s.fset r f v).subst = s.subst := rfl
@[simp] theorem State.fset_spans (s : State) (r : Reg) (f : Fld) (v : Nat) : (s.fset r f v).spans = s.spans := rfl
@[simp] theorem State.fset_rings (s : State) (r : Reg) (f : Fld) (v : Nat) : (s.fset r f v).rings = s.rings := rfl
@[simp] theorem State.fset_image (s : State) (r : Reg) (f : Fld) (v : Nat) : (s.fset r f v).image = s.image := rfl
@[simp] theorem State.fset_load (s : State) (r : Reg) (f : Fld) (v : Nat) : (s.fset r f v).load = s.load := rfl
@[simp] theorem State.fset_mode (s : State) (r : Reg) (f : Fld) (v : Nat) : (s.fset r f v).mode = s.mode := rfl
@[simp] theorem State.fset_changes (s : State) (r : Reg) (f : Fld) (v : Nat) : (s.fset r f v).changes = s.changes := rfl
@[simp] theorem State.fset_shadow (s : State) (r : Reg) (f : Fld) (v : Nat) : (s.fset r f v).shadow = s.shadow := rfl
@[simp] theorem State.fset_staged (s : State) (r : Reg) (f : Fld) (v : Nat) : (s.fset r f v).staged = s.staged := rfl
@[simp] theorem State.fset_stale (s : State) (r : Reg) (f : Fld) (v : Nat) : (s.fset r f v).stale = s.stale := rfl
@[simp] theorem State.fset_pend (s : State) (r : Reg) (f : Fld) (v : Nat) : (s.fset r f v).pend = s.pend := rfl
@[simp] theorem State.fset_gen (s : State) (r : Reg) (f : Fld) (v : Nat) : (s.fset r f v).gen = s.gen := rfl
@[simp] theorem State.fset_movers (s : State) (r : Reg) (f : Fld) (v : Nat) : (s.fset r f v).movers = s.movers := rfl
@[simp] theorem State.fset_place (s : State) (r : Reg) (f : Fld) (v : Nat) : (s.fset r f v).place = s.place := rfl
@[simp] theorem State.fset_tkt (s : State) (r : Reg) (f : Fld) (v : Nat) : (s.fset r f v).tkt = s.tkt := rfl
@[simp] theorem State.fset_flash (s : State) (r : Reg) (f : Fld) (v : Nat) : (s.fset r f v).flash = s.flash := rfl
@[simp] theorem State.fset_retr (s : State) (r : Reg) (f : Fld) (v : Nat) : (s.fset r f v).retr = s.retr := rfl
@[simp] theorem State.fset_sec (s : State) (r : Reg) (f : Fld) (v : Nat) : (s.fset r f v).sec = s.sec := rfl
@[simp] theorem State.fset_fuses (s : State) (r : Reg) (f : Fld) (v : Nat) : (s.fset r f v).fuses = s.fuses := rfl
@[simp] theorem State.fset_log (s : State) (r : Reg) (f : Fld) (v : Nat) : (s.fset r f v).log = s.log := rfl
@[simp] theorem State.fset_pwr (s : State) (r : Reg) (f : Fld) (v : Nat) : (s.fset r f v).pwr = s.pwr := rfl
@[simp] theorem State.fset_thm (s : State) (r : Reg) (f : Fld) (v : Nat) : (s.fset r f v).thm = s.thm := rfl
@[simp] theorem State.fset_bup (s : State) (r : Reg) (f : Fld) (v : Nat) : (s.fset r f v).bup = s.bup := rfl
@[simp] theorem State.fset_shadows (s : State) (r : Reg) (f : Fld) (v : Nat) : (s.fset r f v).shadows = s.shadows := rfl
@[simp] theorem State.fset_wave (s : State) (r : Reg) (f : Fld) (v : Nat) : (s.fset r f v).wave = s.wave := rfl
@[simp] theorem State.fset_ldp (s : State) (r : Reg) (f : Fld) (v : Nat) : (s.fset r f v).ldp = s.ldp := rfl
@[simp] theorem State.fset_cwy (s : State) (r : Reg) (f : Fld) (v : Nat) : (s.fset r f v).cwy = s.cwy := rfl
@[simp] theorem State.fset_chain (s : State) (r : Reg) (f : Fld) (v : Nat) : (s.fset r f v).chain = s.chain := rfl
@[simp] theorem State.fset_ports (s : State) (r : Reg) (f : Fld) (v : Nat) : (s.fset r f v).ports = s.ports := rfl
@[simp] theorem State.fset_grp (s : State) (r : Reg) (f : Fld) (v : Nat) : (s.fset r f v).grp = s.grp := rfl
@[simp] theorem State.fset_tap (s : State) (r : Reg) (f : Fld) (v : Nat) : (s.fset r f v).tap = s.tap := rfl
@[simp] theorem State.fset_doze (s : State) (r : Reg) (f : Fld) (v : Nat) : (s.fset r f v).doze = s.doze := rfl
@[simp] theorem State.fset_deadRows (s : State) (r : Reg) (f : Fld) (v : Nat) : (s.fset r f v).deadRows = s.deadRows := rfl
@[simp] theorem State.fset_fns (s : State) (r : Reg) (f : Fld) (v : Nat) : (s.fset r f v).fns = s.fns := rfl
@[simp] theorem State.fset_devs (s : State) (r : Reg) (f : Fld) (v : Nat) : (s.fset r f v).devs = s.devs := rfl
@[simp] theorem State.fset_lostDevs (s : State) (r : Reg) (f : Fld) (v : Nat) : (s.fset r f v).lostDevs = s.lostDevs := rfl
@[simp] theorem State.fset_bridgeEn (s : State) (r : Reg) (f : Fld) (v : Nat) : (s.fset r f v).bridgeEn = s.bridgeEn := rfl
@[simp] theorem State.fset_perst (s : State) (r : Reg) (f : Fld) (v : Nat) : (s.fset r f v).perst = s.perst := rfl
@[simp] theorem State.fset_faultN (s : State) (r : Reg) (f : Fld) (v : Nat) : (s.fset r f v).faultN = s.faultN := rfl
@[simp] theorem State.fset_outbox (s : State) (r : Reg) (f : Fld) (v : Nat) : (s.fset r f v).outbox = s.outbox := rfl
@[simp] theorem State.fset_resp (s : State) (r : Reg) (f : Fld) (v : Nat) : (s.fset r f v).resp = s.resp := rfl
@[simp] theorem State.fset_free (s : State) (r : Reg) (f : Fld) (v : Nat) : (s.fset r f v).free = s.free := rfl
@[simp] theorem State.fset_pending (s : State) (r : Reg) (f : Fld) (v : Nat) : (s.fset r f v).pending = s.pending := rfl

/-! ### What `State.bset` leaves -/

@[simp] theorem State.bset_icu (s : State) (r : Reg) (f : Fld) (b : Bool) : (s.bset r f b).icu = s.icu := rfl
@[simp] theorem State.bset_mem (s : State) (r : Reg) (f : Fld) (b : Bool) : (s.bset r f b).mem = s.mem := rfl
@[simp] theorem State.bset_scrub (s : State) (r : Reg) (f : Fld) (b : Bool) : (s.bset r f b).scrub = s.scrub := rfl
@[simp] theorem State.bset_keep (s : State) (r : Reg) (f : Fld) (b : Bool) : (s.bset r f b).keep = s.keep := rfl
@[simp] theorem State.bset_engs (s : State) (r : Reg) (f : Fld) (b : Bool) : (s.bset r f b).engs = s.engs := rfl
@[simp] theorem State.bset_sites (s : State) (r : Reg) (f : Fld) (b : Bool) : (s.bset r f b).sites = s.sites := rfl
@[simp] theorem State.bset_barrier (s : State) (r : Reg) (f : Fld) (b : Bool) : (s.bset r f b).barrier = s.barrier := rfl
@[simp] theorem State.bset_subst (s : State) (r : Reg) (f : Fld) (b : Bool) : (s.bset r f b).subst = s.subst := rfl
@[simp] theorem State.bset_spans (s : State) (r : Reg) (f : Fld) (b : Bool) : (s.bset r f b).spans = s.spans := rfl
@[simp] theorem State.bset_rings (s : State) (r : Reg) (f : Fld) (b : Bool) : (s.bset r f b).rings = s.rings := rfl
@[simp] theorem State.bset_image (s : State) (r : Reg) (f : Fld) (b : Bool) : (s.bset r f b).image = s.image := rfl
@[simp] theorem State.bset_load (s : State) (r : Reg) (f : Fld) (b : Bool) : (s.bset r f b).load = s.load := rfl
@[simp] theorem State.bset_mode (s : State) (r : Reg) (f : Fld) (b : Bool) : (s.bset r f b).mode = s.mode := rfl
@[simp] theorem State.bset_changes (s : State) (r : Reg) (f : Fld) (b : Bool) : (s.bset r f b).changes = s.changes := rfl
@[simp] theorem State.bset_shadow (s : State) (r : Reg) (f : Fld) (b : Bool) : (s.bset r f b).shadow = s.shadow := rfl
@[simp] theorem State.bset_staged (s : State) (r : Reg) (f : Fld) (b : Bool) : (s.bset r f b).staged = s.staged := rfl
@[simp] theorem State.bset_stale (s : State) (r : Reg) (f : Fld) (b : Bool) : (s.bset r f b).stale = s.stale := rfl
@[simp] theorem State.bset_pend (s : State) (r : Reg) (f : Fld) (b : Bool) : (s.bset r f b).pend = s.pend := rfl
@[simp] theorem State.bset_gen (s : State) (r : Reg) (f : Fld) (b : Bool) : (s.bset r f b).gen = s.gen := rfl
@[simp] theorem State.bset_movers (s : State) (r : Reg) (f : Fld) (b : Bool) : (s.bset r f b).movers = s.movers := rfl
@[simp] theorem State.bset_place (s : State) (r : Reg) (f : Fld) (b : Bool) : (s.bset r f b).place = s.place := rfl
@[simp] theorem State.bset_tkt (s : State) (r : Reg) (f : Fld) (b : Bool) : (s.bset r f b).tkt = s.tkt := rfl
@[simp] theorem State.bset_flash (s : State) (r : Reg) (f : Fld) (b : Bool) : (s.bset r f b).flash = s.flash := rfl
@[simp] theorem State.bset_retr (s : State) (r : Reg) (f : Fld) (b : Bool) : (s.bset r f b).retr = s.retr := rfl
@[simp] theorem State.bset_sec (s : State) (r : Reg) (f : Fld) (b : Bool) : (s.bset r f b).sec = s.sec := rfl
@[simp] theorem State.bset_fuses (s : State) (r : Reg) (f : Fld) (b : Bool) : (s.bset r f b).fuses = s.fuses := rfl
@[simp] theorem State.bset_log (s : State) (r : Reg) (f : Fld) (b : Bool) : (s.bset r f b).log = s.log := rfl
@[simp] theorem State.bset_pwr (s : State) (r : Reg) (f : Fld) (b : Bool) : (s.bset r f b).pwr = s.pwr := rfl
@[simp] theorem State.bset_thm (s : State) (r : Reg) (f : Fld) (b : Bool) : (s.bset r f b).thm = s.thm := rfl
@[simp] theorem State.bset_bup (s : State) (r : Reg) (f : Fld) (b : Bool) : (s.bset r f b).bup = s.bup := rfl
@[simp] theorem State.bset_shadows (s : State) (r : Reg) (f : Fld) (b : Bool) : (s.bset r f b).shadows = s.shadows := rfl
@[simp] theorem State.bset_wave (s : State) (r : Reg) (f : Fld) (b : Bool) : (s.bset r f b).wave = s.wave := rfl
@[simp] theorem State.bset_ldp (s : State) (r : Reg) (f : Fld) (b : Bool) : (s.bset r f b).ldp = s.ldp := rfl
@[simp] theorem State.bset_cwy (s : State) (r : Reg) (f : Fld) (b : Bool) : (s.bset r f b).cwy = s.cwy := rfl
@[simp] theorem State.bset_chain (s : State) (r : Reg) (f : Fld) (b : Bool) : (s.bset r f b).chain = s.chain := rfl
@[simp] theorem State.bset_ports (s : State) (r : Reg) (f : Fld) (b : Bool) : (s.bset r f b).ports = s.ports := rfl
@[simp] theorem State.bset_grp (s : State) (r : Reg) (f : Fld) (b : Bool) : (s.bset r f b).grp = s.grp := rfl
@[simp] theorem State.bset_tap (s : State) (r : Reg) (f : Fld) (b : Bool) : (s.bset r f b).tap = s.tap := rfl
@[simp] theorem State.bset_doze (s : State) (r : Reg) (f : Fld) (b : Bool) : (s.bset r f b).doze = s.doze := rfl
@[simp] theorem State.bset_deadRows (s : State) (r : Reg) (f : Fld) (b : Bool) : (s.bset r f b).deadRows = s.deadRows := rfl
@[simp] theorem State.bset_fns (s : State) (r : Reg) (f : Fld) (b : Bool) : (s.bset r f b).fns = s.fns := rfl
@[simp] theorem State.bset_devs (s : State) (r : Reg) (f : Fld) (b : Bool) : (s.bset r f b).devs = s.devs := rfl
@[simp] theorem State.bset_lostDevs (s : State) (r : Reg) (f : Fld) (b : Bool) : (s.bset r f b).lostDevs = s.lostDevs := rfl
@[simp] theorem State.bset_bridgeEn (s : State) (r : Reg) (f : Fld) (b : Bool) : (s.bset r f b).bridgeEn = s.bridgeEn := rfl
@[simp] theorem State.bset_perst (s : State) (r : Reg) (f : Fld) (b : Bool) : (s.bset r f b).perst = s.perst := rfl
@[simp] theorem State.bset_faultN (s : State) (r : Reg) (f : Fld) (b : Bool) : (s.bset r f b).faultN = s.faultN := rfl
@[simp] theorem State.bset_outbox (s : State) (r : Reg) (f : Fld) (b : Bool) : (s.bset r f b).outbox = s.outbox := rfl
@[simp] theorem State.bset_resp (s : State) (r : Reg) (f : Fld) (b : Bool) : (s.bset r f b).resp = s.resp := rfl
@[simp] theorem State.bset_free (s : State) (r : Reg) (f : Fld) (b : Bool) : (s.bset r f b).free = s.free := rfl
@[simp] theorem State.bset_pending (s : State) (r : Reg) (f : Fld) (b : Bool) : (s.bset r f b).pending = s.pending := rfl

/-! ### What `State.cnt` leaves -/

@[simp] theorem State.cnt_icu (s : State) (r : Reg) (f : Fld) (n : Nat) : (s.cnt r f n).icu = s.icu := rfl
@[simp] theorem State.cnt_mem (s : State) (r : Reg) (f : Fld) (n : Nat) : (s.cnt r f n).mem = s.mem := rfl
@[simp] theorem State.cnt_scrub (s : State) (r : Reg) (f : Fld) (n : Nat) : (s.cnt r f n).scrub = s.scrub := rfl
@[simp] theorem State.cnt_keep (s : State) (r : Reg) (f : Fld) (n : Nat) : (s.cnt r f n).keep = s.keep := rfl
@[simp] theorem State.cnt_engs (s : State) (r : Reg) (f : Fld) (n : Nat) : (s.cnt r f n).engs = s.engs := rfl
@[simp] theorem State.cnt_sites (s : State) (r : Reg) (f : Fld) (n : Nat) : (s.cnt r f n).sites = s.sites := rfl
@[simp] theorem State.cnt_barrier (s : State) (r : Reg) (f : Fld) (n : Nat) : (s.cnt r f n).barrier = s.barrier := rfl
@[simp] theorem State.cnt_subst (s : State) (r : Reg) (f : Fld) (n : Nat) : (s.cnt r f n).subst = s.subst := rfl
@[simp] theorem State.cnt_spans (s : State) (r : Reg) (f : Fld) (n : Nat) : (s.cnt r f n).spans = s.spans := rfl
@[simp] theorem State.cnt_rings (s : State) (r : Reg) (f : Fld) (n : Nat) : (s.cnt r f n).rings = s.rings := rfl
@[simp] theorem State.cnt_image (s : State) (r : Reg) (f : Fld) (n : Nat) : (s.cnt r f n).image = s.image := rfl
@[simp] theorem State.cnt_load (s : State) (r : Reg) (f : Fld) (n : Nat) : (s.cnt r f n).load = s.load := rfl
@[simp] theorem State.cnt_mode (s : State) (r : Reg) (f : Fld) (n : Nat) : (s.cnt r f n).mode = s.mode := rfl
@[simp] theorem State.cnt_changes (s : State) (r : Reg) (f : Fld) (n : Nat) : (s.cnt r f n).changes = s.changes := rfl
@[simp] theorem State.cnt_shadow (s : State) (r : Reg) (f : Fld) (n : Nat) : (s.cnt r f n).shadow = s.shadow := rfl
@[simp] theorem State.cnt_staged (s : State) (r : Reg) (f : Fld) (n : Nat) : (s.cnt r f n).staged = s.staged := rfl
@[simp] theorem State.cnt_stale (s : State) (r : Reg) (f : Fld) (n : Nat) : (s.cnt r f n).stale = s.stale := rfl
@[simp] theorem State.cnt_pend (s : State) (r : Reg) (f : Fld) (n : Nat) : (s.cnt r f n).pend = s.pend := rfl
@[simp] theorem State.cnt_gen (s : State) (r : Reg) (f : Fld) (n : Nat) : (s.cnt r f n).gen = s.gen := rfl
@[simp] theorem State.cnt_movers (s : State) (r : Reg) (f : Fld) (n : Nat) : (s.cnt r f n).movers = s.movers := rfl
@[simp] theorem State.cnt_place (s : State) (r : Reg) (f : Fld) (n : Nat) : (s.cnt r f n).place = s.place := rfl
@[simp] theorem State.cnt_tkt (s : State) (r : Reg) (f : Fld) (n : Nat) : (s.cnt r f n).tkt = s.tkt := rfl
@[simp] theorem State.cnt_flash (s : State) (r : Reg) (f : Fld) (n : Nat) : (s.cnt r f n).flash = s.flash := rfl
@[simp] theorem State.cnt_retr (s : State) (r : Reg) (f : Fld) (n : Nat) : (s.cnt r f n).retr = s.retr := rfl
@[simp] theorem State.cnt_sec (s : State) (r : Reg) (f : Fld) (n : Nat) : (s.cnt r f n).sec = s.sec := rfl
@[simp] theorem State.cnt_fuses (s : State) (r : Reg) (f : Fld) (n : Nat) : (s.cnt r f n).fuses = s.fuses := rfl
@[simp] theorem State.cnt_log (s : State) (r : Reg) (f : Fld) (n : Nat) : (s.cnt r f n).log = s.log := rfl
@[simp] theorem State.cnt_pwr (s : State) (r : Reg) (f : Fld) (n : Nat) : (s.cnt r f n).pwr = s.pwr := rfl
@[simp] theorem State.cnt_thm (s : State) (r : Reg) (f : Fld) (n : Nat) : (s.cnt r f n).thm = s.thm := rfl
@[simp] theorem State.cnt_bup (s : State) (r : Reg) (f : Fld) (n : Nat) : (s.cnt r f n).bup = s.bup := rfl
@[simp] theorem State.cnt_shadows (s : State) (r : Reg) (f : Fld) (n : Nat) : (s.cnt r f n).shadows = s.shadows := rfl
@[simp] theorem State.cnt_wave (s : State) (r : Reg) (f : Fld) (n : Nat) : (s.cnt r f n).wave = s.wave := rfl
@[simp] theorem State.cnt_ldp (s : State) (r : Reg) (f : Fld) (n : Nat) : (s.cnt r f n).ldp = s.ldp := rfl
@[simp] theorem State.cnt_cwy (s : State) (r : Reg) (f : Fld) (n : Nat) : (s.cnt r f n).cwy = s.cwy := rfl
@[simp] theorem State.cnt_chain (s : State) (r : Reg) (f : Fld) (n : Nat) : (s.cnt r f n).chain = s.chain := rfl
@[simp] theorem State.cnt_ports (s : State) (r : Reg) (f : Fld) (n : Nat) : (s.cnt r f n).ports = s.ports := rfl
@[simp] theorem State.cnt_grp (s : State) (r : Reg) (f : Fld) (n : Nat) : (s.cnt r f n).grp = s.grp := rfl
@[simp] theorem State.cnt_tap (s : State) (r : Reg) (f : Fld) (n : Nat) : (s.cnt r f n).tap = s.tap := rfl
@[simp] theorem State.cnt_doze (s : State) (r : Reg) (f : Fld) (n : Nat) : (s.cnt r f n).doze = s.doze := rfl
@[simp] theorem State.cnt_deadRows (s : State) (r : Reg) (f : Fld) (n : Nat) : (s.cnt r f n).deadRows = s.deadRows := rfl
@[simp] theorem State.cnt_fns (s : State) (r : Reg) (f : Fld) (n : Nat) : (s.cnt r f n).fns = s.fns := rfl
@[simp] theorem State.cnt_devs (s : State) (r : Reg) (f : Fld) (n : Nat) : (s.cnt r f n).devs = s.devs := rfl
@[simp] theorem State.cnt_lostDevs (s : State) (r : Reg) (f : Fld) (n : Nat) : (s.cnt r f n).lostDevs = s.lostDevs := rfl
@[simp] theorem State.cnt_bridgeEn (s : State) (r : Reg) (f : Fld) (n : Nat) : (s.cnt r f n).bridgeEn = s.bridgeEn := rfl
@[simp] theorem State.cnt_perst (s : State) (r : Reg) (f : Fld) (n : Nat) : (s.cnt r f n).perst = s.perst := rfl
@[simp] theorem State.cnt_faultN (s : State) (r : Reg) (f : Fld) (n : Nat) : (s.cnt r f n).faultN = s.faultN := rfl
@[simp] theorem State.cnt_outbox (s : State) (r : Reg) (f : Fld) (n : Nat) : (s.cnt r f n).outbox = s.outbox := rfl
@[simp] theorem State.cnt_resp (s : State) (r : Reg) (f : Fld) (n : Nat) : (s.cnt r f n).resp = s.resp := rfl
@[simp] theorem State.cnt_free (s : State) (r : Reg) (f : Fld) (n : Nat) : (s.cnt r f n).free = s.free := rfl
@[simp] theorem State.cnt_pending (s : State) (r : Reg) (f : Fld) (n : Nat) : (s.cnt r f n).pending = s.pending := rfl

/-! ### What `State.wrap` leaves -/

@[simp] theorem State.wrap_icu (s : State) (r : Reg) (f : Fld) (n : Nat) : (s.wrap r f n).icu = s.icu := rfl
@[simp] theorem State.wrap_mem (s : State) (r : Reg) (f : Fld) (n : Nat) : (s.wrap r f n).mem = s.mem := rfl
@[simp] theorem State.wrap_scrub (s : State) (r : Reg) (f : Fld) (n : Nat) : (s.wrap r f n).scrub = s.scrub := rfl
@[simp] theorem State.wrap_keep (s : State) (r : Reg) (f : Fld) (n : Nat) : (s.wrap r f n).keep = s.keep := rfl
@[simp] theorem State.wrap_engs (s : State) (r : Reg) (f : Fld) (n : Nat) : (s.wrap r f n).engs = s.engs := rfl
@[simp] theorem State.wrap_sites (s : State) (r : Reg) (f : Fld) (n : Nat) : (s.wrap r f n).sites = s.sites := rfl
@[simp] theorem State.wrap_barrier (s : State) (r : Reg) (f : Fld) (n : Nat) : (s.wrap r f n).barrier = s.barrier := rfl
@[simp] theorem State.wrap_subst (s : State) (r : Reg) (f : Fld) (n : Nat) : (s.wrap r f n).subst = s.subst := rfl
@[simp] theorem State.wrap_spans (s : State) (r : Reg) (f : Fld) (n : Nat) : (s.wrap r f n).spans = s.spans := rfl
@[simp] theorem State.wrap_rings (s : State) (r : Reg) (f : Fld) (n : Nat) : (s.wrap r f n).rings = s.rings := rfl
@[simp] theorem State.wrap_image (s : State) (r : Reg) (f : Fld) (n : Nat) : (s.wrap r f n).image = s.image := rfl
@[simp] theorem State.wrap_load (s : State) (r : Reg) (f : Fld) (n : Nat) : (s.wrap r f n).load = s.load := rfl
@[simp] theorem State.wrap_mode (s : State) (r : Reg) (f : Fld) (n : Nat) : (s.wrap r f n).mode = s.mode := rfl
@[simp] theorem State.wrap_changes (s : State) (r : Reg) (f : Fld) (n : Nat) : (s.wrap r f n).changes = s.changes := rfl
@[simp] theorem State.wrap_shadow (s : State) (r : Reg) (f : Fld) (n : Nat) : (s.wrap r f n).shadow = s.shadow := rfl
@[simp] theorem State.wrap_staged (s : State) (r : Reg) (f : Fld) (n : Nat) : (s.wrap r f n).staged = s.staged := rfl
@[simp] theorem State.wrap_stale (s : State) (r : Reg) (f : Fld) (n : Nat) : (s.wrap r f n).stale = s.stale := rfl
@[simp] theorem State.wrap_pend (s : State) (r : Reg) (f : Fld) (n : Nat) : (s.wrap r f n).pend = s.pend := rfl
@[simp] theorem State.wrap_gen (s : State) (r : Reg) (f : Fld) (n : Nat) : (s.wrap r f n).gen = s.gen := rfl
@[simp] theorem State.wrap_movers (s : State) (r : Reg) (f : Fld) (n : Nat) : (s.wrap r f n).movers = s.movers := rfl
@[simp] theorem State.wrap_place (s : State) (r : Reg) (f : Fld) (n : Nat) : (s.wrap r f n).place = s.place := rfl
@[simp] theorem State.wrap_tkt (s : State) (r : Reg) (f : Fld) (n : Nat) : (s.wrap r f n).tkt = s.tkt := rfl
@[simp] theorem State.wrap_flash (s : State) (r : Reg) (f : Fld) (n : Nat) : (s.wrap r f n).flash = s.flash := rfl
@[simp] theorem State.wrap_retr (s : State) (r : Reg) (f : Fld) (n : Nat) : (s.wrap r f n).retr = s.retr := rfl
@[simp] theorem State.wrap_sec (s : State) (r : Reg) (f : Fld) (n : Nat) : (s.wrap r f n).sec = s.sec := rfl
@[simp] theorem State.wrap_fuses (s : State) (r : Reg) (f : Fld) (n : Nat) : (s.wrap r f n).fuses = s.fuses := rfl
@[simp] theorem State.wrap_log (s : State) (r : Reg) (f : Fld) (n : Nat) : (s.wrap r f n).log = s.log := rfl
@[simp] theorem State.wrap_pwr (s : State) (r : Reg) (f : Fld) (n : Nat) : (s.wrap r f n).pwr = s.pwr := rfl
@[simp] theorem State.wrap_thm (s : State) (r : Reg) (f : Fld) (n : Nat) : (s.wrap r f n).thm = s.thm := rfl
@[simp] theorem State.wrap_bup (s : State) (r : Reg) (f : Fld) (n : Nat) : (s.wrap r f n).bup = s.bup := rfl
@[simp] theorem State.wrap_shadows (s : State) (r : Reg) (f : Fld) (n : Nat) : (s.wrap r f n).shadows = s.shadows := rfl
@[simp] theorem State.wrap_wave (s : State) (r : Reg) (f : Fld) (n : Nat) : (s.wrap r f n).wave = s.wave := rfl
@[simp] theorem State.wrap_ldp (s : State) (r : Reg) (f : Fld) (n : Nat) : (s.wrap r f n).ldp = s.ldp := rfl
@[simp] theorem State.wrap_cwy (s : State) (r : Reg) (f : Fld) (n : Nat) : (s.wrap r f n).cwy = s.cwy := rfl
@[simp] theorem State.wrap_chain (s : State) (r : Reg) (f : Fld) (n : Nat) : (s.wrap r f n).chain = s.chain := rfl
@[simp] theorem State.wrap_ports (s : State) (r : Reg) (f : Fld) (n : Nat) : (s.wrap r f n).ports = s.ports := rfl
@[simp] theorem State.wrap_grp (s : State) (r : Reg) (f : Fld) (n : Nat) : (s.wrap r f n).grp = s.grp := rfl
@[simp] theorem State.wrap_tap (s : State) (r : Reg) (f : Fld) (n : Nat) : (s.wrap r f n).tap = s.tap := rfl
@[simp] theorem State.wrap_doze (s : State) (r : Reg) (f : Fld) (n : Nat) : (s.wrap r f n).doze = s.doze := rfl
@[simp] theorem State.wrap_deadRows (s : State) (r : Reg) (f : Fld) (n : Nat) : (s.wrap r f n).deadRows = s.deadRows := rfl
@[simp] theorem State.wrap_fns (s : State) (r : Reg) (f : Fld) (n : Nat) : (s.wrap r f n).fns = s.fns := rfl
@[simp] theorem State.wrap_devs (s : State) (r : Reg) (f : Fld) (n : Nat) : (s.wrap r f n).devs = s.devs := rfl
@[simp] theorem State.wrap_lostDevs (s : State) (r : Reg) (f : Fld) (n : Nat) : (s.wrap r f n).lostDevs = s.lostDevs := rfl
@[simp] theorem State.wrap_bridgeEn (s : State) (r : Reg) (f : Fld) (n : Nat) : (s.wrap r f n).bridgeEn = s.bridgeEn := rfl
@[simp] theorem State.wrap_perst (s : State) (r : Reg) (f : Fld) (n : Nat) : (s.wrap r f n).perst = s.perst := rfl
@[simp] theorem State.wrap_faultN (s : State) (r : Reg) (f : Fld) (n : Nat) : (s.wrap r f n).faultN = s.faultN := rfl
@[simp] theorem State.wrap_outbox (s : State) (r : Reg) (f : Fld) (n : Nat) : (s.wrap r f n).outbox = s.outbox := rfl
@[simp] theorem State.wrap_resp (s : State) (r : Reg) (f : Fld) (n : Nat) : (s.wrap r f n).resp = s.resp := rfl
@[simp] theorem State.wrap_free (s : State) (r : Reg) (f : Fld) (n : Nat) : (s.wrap r f n).free = s.free := rfl
@[simp] theorem State.wrap_pending (s : State) (r : Reg) (f : Fld) (n : Nat) : (s.wrap r f n).pending = s.pending := rfl

/-! ### What `State.emit` leaves -/

@[simp] theorem State.emit_regs (s : State) (o : Out) : (s.emit o).regs = s.regs := rfl
@[simp] theorem State.emit_icu (s : State) (o : Out) : (s.emit o).icu = s.icu := rfl
@[simp] theorem State.emit_mem (s : State) (o : Out) : (s.emit o).mem = s.mem := rfl
@[simp] theorem State.emit_scrub (s : State) (o : Out) : (s.emit o).scrub = s.scrub := rfl
@[simp] theorem State.emit_keep (s : State) (o : Out) : (s.emit o).keep = s.keep := rfl
@[simp] theorem State.emit_engs (s : State) (o : Out) : (s.emit o).engs = s.engs := rfl
@[simp] theorem State.emit_sites (s : State) (o : Out) : (s.emit o).sites = s.sites := rfl
@[simp] theorem State.emit_barrier (s : State) (o : Out) : (s.emit o).barrier = s.barrier := rfl
@[simp] theorem State.emit_subst (s : State) (o : Out) : (s.emit o).subst = s.subst := rfl
@[simp] theorem State.emit_spans (s : State) (o : Out) : (s.emit o).spans = s.spans := rfl
@[simp] theorem State.emit_rings (s : State) (o : Out) : (s.emit o).rings = s.rings := rfl
@[simp] theorem State.emit_image (s : State) (o : Out) : (s.emit o).image = s.image := rfl
@[simp] theorem State.emit_load (s : State) (o : Out) : (s.emit o).load = s.load := rfl
@[simp] theorem State.emit_mode (s : State) (o : Out) : (s.emit o).mode = s.mode := rfl
@[simp] theorem State.emit_changes (s : State) (o : Out) : (s.emit o).changes = s.changes := rfl
@[simp] theorem State.emit_shadow (s : State) (o : Out) : (s.emit o).shadow = s.shadow := rfl
@[simp] theorem State.emit_staged (s : State) (o : Out) : (s.emit o).staged = s.staged := rfl
@[simp] theorem State.emit_stale (s : State) (o : Out) : (s.emit o).stale = s.stale := rfl
@[simp] theorem State.emit_pend (s : State) (o : Out) : (s.emit o).pend = s.pend := rfl
@[simp] theorem State.emit_gen (s : State) (o : Out) : (s.emit o).gen = s.gen := rfl
@[simp] theorem State.emit_movers (s : State) (o : Out) : (s.emit o).movers = s.movers := rfl
@[simp] theorem State.emit_place (s : State) (o : Out) : (s.emit o).place = s.place := rfl
@[simp] theorem State.emit_tkt (s : State) (o : Out) : (s.emit o).tkt = s.tkt := rfl
@[simp] theorem State.emit_flash (s : State) (o : Out) : (s.emit o).flash = s.flash := rfl
@[simp] theorem State.emit_retr (s : State) (o : Out) : (s.emit o).retr = s.retr := rfl
@[simp] theorem State.emit_sec (s : State) (o : Out) : (s.emit o).sec = s.sec := rfl
@[simp] theorem State.emit_fuses (s : State) (o : Out) : (s.emit o).fuses = s.fuses := rfl
@[simp] theorem State.emit_log (s : State) (o : Out) : (s.emit o).log = s.log := rfl
@[simp] theorem State.emit_pwr (s : State) (o : Out) : (s.emit o).pwr = s.pwr := rfl
@[simp] theorem State.emit_thm (s : State) (o : Out) : (s.emit o).thm = s.thm := rfl
@[simp] theorem State.emit_bup (s : State) (o : Out) : (s.emit o).bup = s.bup := rfl
@[simp] theorem State.emit_shadows (s : State) (o : Out) : (s.emit o).shadows = s.shadows := rfl
@[simp] theorem State.emit_wave (s : State) (o : Out) : (s.emit o).wave = s.wave := rfl
@[simp] theorem State.emit_ldp (s : State) (o : Out) : (s.emit o).ldp = s.ldp := rfl
@[simp] theorem State.emit_cwy (s : State) (o : Out) : (s.emit o).cwy = s.cwy := rfl
@[simp] theorem State.emit_chain (s : State) (o : Out) : (s.emit o).chain = s.chain := rfl
@[simp] theorem State.emit_ports (s : State) (o : Out) : (s.emit o).ports = s.ports := rfl
@[simp] theorem State.emit_grp (s : State) (o : Out) : (s.emit o).grp = s.grp := rfl
@[simp] theorem State.emit_tap (s : State) (o : Out) : (s.emit o).tap = s.tap := rfl
@[simp] theorem State.emit_doze (s : State) (o : Out) : (s.emit o).doze = s.doze := rfl
@[simp] theorem State.emit_deadRows (s : State) (o : Out) : (s.emit o).deadRows = s.deadRows := rfl
@[simp] theorem State.emit_fns (s : State) (o : Out) : (s.emit o).fns = s.fns := rfl
@[simp] theorem State.emit_devs (s : State) (o : Out) : (s.emit o).devs = s.devs := rfl
@[simp] theorem State.emit_lostDevs (s : State) (o : Out) : (s.emit o).lostDevs = s.lostDevs := rfl
@[simp] theorem State.emit_bridgeEn (s : State) (o : Out) : (s.emit o).bridgeEn = s.bridgeEn := rfl
@[simp] theorem State.emit_perst (s : State) (o : Out) : (s.emit o).perst = s.perst := rfl
@[simp] theorem State.emit_faultN (s : State) (o : Out) : (s.emit o).faultN = s.faultN := rfl
@[simp] theorem State.emit_resp (s : State) (o : Out) : (s.emit o).resp = s.resp := rfl
@[simp] theorem State.emit_free (s : State) (o : Out) : (s.emit o).free = s.free := rfl
@[simp] theorem State.emit_pending (s : State) (o : Out) : (s.emit o).pending = s.pending := rfl

/-! ### What `State.reply` leaves -/

@[simp] theorem State.reply_regs (s : State) (p : Resp) : (s.reply p).regs = s.regs := rfl
@[simp] theorem State.reply_icu (s : State) (p : Resp) : (s.reply p).icu = s.icu := rfl
@[simp] theorem State.reply_mem (s : State) (p : Resp) : (s.reply p).mem = s.mem := rfl
@[simp] theorem State.reply_scrub (s : State) (p : Resp) : (s.reply p).scrub = s.scrub := rfl
@[simp] theorem State.reply_keep (s : State) (p : Resp) : (s.reply p).keep = s.keep := rfl
@[simp] theorem State.reply_engs (s : State) (p : Resp) : (s.reply p).engs = s.engs := rfl
@[simp] theorem State.reply_sites (s : State) (p : Resp) : (s.reply p).sites = s.sites := rfl
@[simp] theorem State.reply_barrier (s : State) (p : Resp) : (s.reply p).barrier = s.barrier := rfl
@[simp] theorem State.reply_subst (s : State) (p : Resp) : (s.reply p).subst = s.subst := rfl
@[simp] theorem State.reply_spans (s : State) (p : Resp) : (s.reply p).spans = s.spans := rfl
@[simp] theorem State.reply_rings (s : State) (p : Resp) : (s.reply p).rings = s.rings := rfl
@[simp] theorem State.reply_image (s : State) (p : Resp) : (s.reply p).image = s.image := rfl
@[simp] theorem State.reply_load (s : State) (p : Resp) : (s.reply p).load = s.load := rfl
@[simp] theorem State.reply_mode (s : State) (p : Resp) : (s.reply p).mode = s.mode := rfl
@[simp] theorem State.reply_changes (s : State) (p : Resp) : (s.reply p).changes = s.changes := rfl
@[simp] theorem State.reply_shadow (s : State) (p : Resp) : (s.reply p).shadow = s.shadow := rfl
@[simp] theorem State.reply_staged (s : State) (p : Resp) : (s.reply p).staged = s.staged := rfl
@[simp] theorem State.reply_stale (s : State) (p : Resp) : (s.reply p).stale = s.stale := rfl
@[simp] theorem State.reply_pend (s : State) (p : Resp) : (s.reply p).pend = s.pend := rfl
@[simp] theorem State.reply_gen (s : State) (p : Resp) : (s.reply p).gen = s.gen := rfl
@[simp] theorem State.reply_movers (s : State) (p : Resp) : (s.reply p).movers = s.movers := rfl
@[simp] theorem State.reply_place (s : State) (p : Resp) : (s.reply p).place = s.place := rfl
@[simp] theorem State.reply_tkt (s : State) (p : Resp) : (s.reply p).tkt = s.tkt := rfl
@[simp] theorem State.reply_flash (s : State) (p : Resp) : (s.reply p).flash = s.flash := rfl
@[simp] theorem State.reply_retr (s : State) (p : Resp) : (s.reply p).retr = s.retr := rfl
@[simp] theorem State.reply_sec (s : State) (p : Resp) : (s.reply p).sec = s.sec := rfl
@[simp] theorem State.reply_fuses (s : State) (p : Resp) : (s.reply p).fuses = s.fuses := rfl
@[simp] theorem State.reply_log (s : State) (p : Resp) : (s.reply p).log = s.log := rfl
@[simp] theorem State.reply_pwr (s : State) (p : Resp) : (s.reply p).pwr = s.pwr := rfl
@[simp] theorem State.reply_thm (s : State) (p : Resp) : (s.reply p).thm = s.thm := rfl
@[simp] theorem State.reply_bup (s : State) (p : Resp) : (s.reply p).bup = s.bup := rfl
@[simp] theorem State.reply_shadows (s : State) (p : Resp) : (s.reply p).shadows = s.shadows := rfl
@[simp] theorem State.reply_wave (s : State) (p : Resp) : (s.reply p).wave = s.wave := rfl
@[simp] theorem State.reply_ldp (s : State) (p : Resp) : (s.reply p).ldp = s.ldp := rfl
@[simp] theorem State.reply_cwy (s : State) (p : Resp) : (s.reply p).cwy = s.cwy := rfl
@[simp] theorem State.reply_chain (s : State) (p : Resp) : (s.reply p).chain = s.chain := rfl
@[simp] theorem State.reply_ports (s : State) (p : Resp) : (s.reply p).ports = s.ports := rfl
@[simp] theorem State.reply_grp (s : State) (p : Resp) : (s.reply p).grp = s.grp := rfl
@[simp] theorem State.reply_tap (s : State) (p : Resp) : (s.reply p).tap = s.tap := rfl
@[simp] theorem State.reply_doze (s : State) (p : Resp) : (s.reply p).doze = s.doze := rfl
@[simp] theorem State.reply_deadRows (s : State) (p : Resp) : (s.reply p).deadRows = s.deadRows := rfl
@[simp] theorem State.reply_fns (s : State) (p : Resp) : (s.reply p).fns = s.fns := rfl
@[simp] theorem State.reply_devs (s : State) (p : Resp) : (s.reply p).devs = s.devs := rfl
@[simp] theorem State.reply_lostDevs (s : State) (p : Resp) : (s.reply p).lostDevs = s.lostDevs := rfl
@[simp] theorem State.reply_bridgeEn (s : State) (p : Resp) : (s.reply p).bridgeEn = s.bridgeEn := rfl
@[simp] theorem State.reply_perst (s : State) (p : Resp) : (s.reply p).perst = s.perst := rfl
@[simp] theorem State.reply_faultN (s : State) (p : Resp) : (s.reply p).faultN = s.faultN := rfl
@[simp] theorem State.reply_outbox (s : State) (p : Resp) : (s.reply p).outbox = s.outbox := rfl
@[simp] theorem State.reply_free (s : State) (p : Resp) : (s.reply p).free = s.free := rfl
@[simp] theorem State.reply_pending (s : State) (p : Resp) : (s.reply p).pending = s.pending := rfl

/-! ### What `State.srcUpd` leaves -/

@[simp] theorem State.srcUpd_regs (s : State) (k : Nat) (f : SrcState → SrcState) : (s.srcUpd k f).regs = s.regs := rfl
@[simp] theorem State.srcUpd_mem (s : State) (k : Nat) (f : SrcState → SrcState) : (s.srcUpd k f).mem = s.mem := rfl
@[simp] theorem State.srcUpd_scrub (s : State) (k : Nat) (f : SrcState → SrcState) : (s.srcUpd k f).scrub = s.scrub := rfl
@[simp] theorem State.srcUpd_keep (s : State) (k : Nat) (f : SrcState → SrcState) : (s.srcUpd k f).keep = s.keep := rfl
@[simp] theorem State.srcUpd_engs (s : State) (k : Nat) (f : SrcState → SrcState) : (s.srcUpd k f).engs = s.engs := rfl
@[simp] theorem State.srcUpd_sites (s : State) (k : Nat) (f : SrcState → SrcState) : (s.srcUpd k f).sites = s.sites := rfl
@[simp] theorem State.srcUpd_barrier (s : State) (k : Nat) (f : SrcState → SrcState) : (s.srcUpd k f).barrier = s.barrier := rfl
@[simp] theorem State.srcUpd_subst (s : State) (k : Nat) (f : SrcState → SrcState) : (s.srcUpd k f).subst = s.subst := rfl
@[simp] theorem State.srcUpd_spans (s : State) (k : Nat) (f : SrcState → SrcState) : (s.srcUpd k f).spans = s.spans := rfl
@[simp] theorem State.srcUpd_rings (s : State) (k : Nat) (f : SrcState → SrcState) : (s.srcUpd k f).rings = s.rings := rfl
@[simp] theorem State.srcUpd_image (s : State) (k : Nat) (f : SrcState → SrcState) : (s.srcUpd k f).image = s.image := rfl
@[simp] theorem State.srcUpd_load (s : State) (k : Nat) (f : SrcState → SrcState) : (s.srcUpd k f).load = s.load := rfl
@[simp] theorem State.srcUpd_mode (s : State) (k : Nat) (f : SrcState → SrcState) : (s.srcUpd k f).mode = s.mode := rfl
@[simp] theorem State.srcUpd_changes (s : State) (k : Nat) (f : SrcState → SrcState) : (s.srcUpd k f).changes = s.changes := rfl
@[simp] theorem State.srcUpd_shadow (s : State) (k : Nat) (f : SrcState → SrcState) : (s.srcUpd k f).shadow = s.shadow := rfl
@[simp] theorem State.srcUpd_staged (s : State) (k : Nat) (f : SrcState → SrcState) : (s.srcUpd k f).staged = s.staged := rfl
@[simp] theorem State.srcUpd_stale (s : State) (k : Nat) (f : SrcState → SrcState) : (s.srcUpd k f).stale = s.stale := rfl
@[simp] theorem State.srcUpd_pend (s : State) (k : Nat) (f : SrcState → SrcState) : (s.srcUpd k f).pend = s.pend := rfl
@[simp] theorem State.srcUpd_gen (s : State) (k : Nat) (f : SrcState → SrcState) : (s.srcUpd k f).gen = s.gen := rfl
@[simp] theorem State.srcUpd_movers (s : State) (k : Nat) (f : SrcState → SrcState) : (s.srcUpd k f).movers = s.movers := rfl
@[simp] theorem State.srcUpd_place (s : State) (k : Nat) (f : SrcState → SrcState) : (s.srcUpd k f).place = s.place := rfl
@[simp] theorem State.srcUpd_tkt (s : State) (k : Nat) (f : SrcState → SrcState) : (s.srcUpd k f).tkt = s.tkt := rfl
@[simp] theorem State.srcUpd_flash (s : State) (k : Nat) (f : SrcState → SrcState) : (s.srcUpd k f).flash = s.flash := rfl
@[simp] theorem State.srcUpd_retr (s : State) (k : Nat) (f : SrcState → SrcState) : (s.srcUpd k f).retr = s.retr := rfl
@[simp] theorem State.srcUpd_sec (s : State) (k : Nat) (f : SrcState → SrcState) : (s.srcUpd k f).sec = s.sec := rfl
@[simp] theorem State.srcUpd_fuses (s : State) (k : Nat) (f : SrcState → SrcState) : (s.srcUpd k f).fuses = s.fuses := rfl
@[simp] theorem State.srcUpd_log (s : State) (k : Nat) (f : SrcState → SrcState) : (s.srcUpd k f).log = s.log := rfl
@[simp] theorem State.srcUpd_pwr (s : State) (k : Nat) (f : SrcState → SrcState) : (s.srcUpd k f).pwr = s.pwr := rfl
@[simp] theorem State.srcUpd_thm (s : State) (k : Nat) (f : SrcState → SrcState) : (s.srcUpd k f).thm = s.thm := rfl
@[simp] theorem State.srcUpd_bup (s : State) (k : Nat) (f : SrcState → SrcState) : (s.srcUpd k f).bup = s.bup := rfl
@[simp] theorem State.srcUpd_shadows (s : State) (k : Nat) (f : SrcState → SrcState) : (s.srcUpd k f).shadows = s.shadows := rfl
@[simp] theorem State.srcUpd_wave (s : State) (k : Nat) (f : SrcState → SrcState) : (s.srcUpd k f).wave = s.wave := rfl
@[simp] theorem State.srcUpd_ldp (s : State) (k : Nat) (f : SrcState → SrcState) : (s.srcUpd k f).ldp = s.ldp := rfl
@[simp] theorem State.srcUpd_cwy (s : State) (k : Nat) (f : SrcState → SrcState) : (s.srcUpd k f).cwy = s.cwy := rfl
@[simp] theorem State.srcUpd_chain (s : State) (k : Nat) (f : SrcState → SrcState) : (s.srcUpd k f).chain = s.chain := rfl
@[simp] theorem State.srcUpd_ports (s : State) (k : Nat) (f : SrcState → SrcState) : (s.srcUpd k f).ports = s.ports := rfl
@[simp] theorem State.srcUpd_grp (s : State) (k : Nat) (f : SrcState → SrcState) : (s.srcUpd k f).grp = s.grp := rfl
@[simp] theorem State.srcUpd_tap (s : State) (k : Nat) (f : SrcState → SrcState) : (s.srcUpd k f).tap = s.tap := rfl
@[simp] theorem State.srcUpd_doze (s : State) (k : Nat) (f : SrcState → SrcState) : (s.srcUpd k f).doze = s.doze := rfl
@[simp] theorem State.srcUpd_deadRows (s : State) (k : Nat) (f : SrcState → SrcState) : (s.srcUpd k f).deadRows = s.deadRows := rfl
@[simp] theorem State.srcUpd_fns (s : State) (k : Nat) (f : SrcState → SrcState) : (s.srcUpd k f).fns = s.fns := rfl
@[simp] theorem State.srcUpd_devs (s : State) (k : Nat) (f : SrcState → SrcState) : (s.srcUpd k f).devs = s.devs := rfl
@[simp] theorem State.srcUpd_lostDevs (s : State) (k : Nat) (f : SrcState → SrcState) : (s.srcUpd k f).lostDevs = s.lostDevs := rfl
@[simp] theorem State.srcUpd_bridgeEn (s : State) (k : Nat) (f : SrcState → SrcState) : (s.srcUpd k f).bridgeEn = s.bridgeEn := rfl
@[simp] theorem State.srcUpd_perst (s : State) (k : Nat) (f : SrcState → SrcState) : (s.srcUpd k f).perst = s.perst := rfl
@[simp] theorem State.srcUpd_faultN (s : State) (k : Nat) (f : SrcState → SrcState) : (s.srcUpd k f).faultN = s.faultN := rfl
@[simp] theorem State.srcUpd_outbox (s : State) (k : Nat) (f : SrcState → SrcState) : (s.srcUpd k f).outbox = s.outbox := rfl
@[simp] theorem State.srcUpd_resp (s : State) (k : Nat) (f : SrcState → SrcState) : (s.srcUpd k f).resp = s.resp := rfl
@[simp] theorem State.srcUpd_free (s : State) (k : Nat) (f : SrcState → SrcState) : (s.srcUpd k f).free = s.free := rfl
@[simp] theorem State.srcUpd_pending (s : State) (k : Nat) (f : SrcState → SrcState) : (s.srcUpd k f).pending = s.pending := rfl

/-! ### What `State.tgtUpd` leaves -/

@[simp] theorem State.tgtUpd_regs (s : State) (k : Nat) (f : TgtState → TgtState) : (s.tgtUpd k f).regs = s.regs := rfl
@[simp] theorem State.tgtUpd_mem (s : State) (k : Nat) (f : TgtState → TgtState) : (s.tgtUpd k f).mem = s.mem := rfl
@[simp] theorem State.tgtUpd_scrub (s : State) (k : Nat) (f : TgtState → TgtState) : (s.tgtUpd k f).scrub = s.scrub := rfl
@[simp] theorem State.tgtUpd_keep (s : State) (k : Nat) (f : TgtState → TgtState) : (s.tgtUpd k f).keep = s.keep := rfl
@[simp] theorem State.tgtUpd_engs (s : State) (k : Nat) (f : TgtState → TgtState) : (s.tgtUpd k f).engs = s.engs := rfl
@[simp] theorem State.tgtUpd_sites (s : State) (k : Nat) (f : TgtState → TgtState) : (s.tgtUpd k f).sites = s.sites := rfl
@[simp] theorem State.tgtUpd_barrier (s : State) (k : Nat) (f : TgtState → TgtState) : (s.tgtUpd k f).barrier = s.barrier := rfl
@[simp] theorem State.tgtUpd_subst (s : State) (k : Nat) (f : TgtState → TgtState) : (s.tgtUpd k f).subst = s.subst := rfl
@[simp] theorem State.tgtUpd_spans (s : State) (k : Nat) (f : TgtState → TgtState) : (s.tgtUpd k f).spans = s.spans := rfl
@[simp] theorem State.tgtUpd_rings (s : State) (k : Nat) (f : TgtState → TgtState) : (s.tgtUpd k f).rings = s.rings := rfl
@[simp] theorem State.tgtUpd_image (s : State) (k : Nat) (f : TgtState → TgtState) : (s.tgtUpd k f).image = s.image := rfl
@[simp] theorem State.tgtUpd_load (s : State) (k : Nat) (f : TgtState → TgtState) : (s.tgtUpd k f).load = s.load := rfl
@[simp] theorem State.tgtUpd_mode (s : State) (k : Nat) (f : TgtState → TgtState) : (s.tgtUpd k f).mode = s.mode := rfl
@[simp] theorem State.tgtUpd_changes (s : State) (k : Nat) (f : TgtState → TgtState) : (s.tgtUpd k f).changes = s.changes := rfl
@[simp] theorem State.tgtUpd_shadow (s : State) (k : Nat) (f : TgtState → TgtState) : (s.tgtUpd k f).shadow = s.shadow := rfl
@[simp] theorem State.tgtUpd_staged (s : State) (k : Nat) (f : TgtState → TgtState) : (s.tgtUpd k f).staged = s.staged := rfl
@[simp] theorem State.tgtUpd_stale (s : State) (k : Nat) (f : TgtState → TgtState) : (s.tgtUpd k f).stale = s.stale := rfl
@[simp] theorem State.tgtUpd_pend (s : State) (k : Nat) (f : TgtState → TgtState) : (s.tgtUpd k f).pend = s.pend := rfl
@[simp] theorem State.tgtUpd_gen (s : State) (k : Nat) (f : TgtState → TgtState) : (s.tgtUpd k f).gen = s.gen := rfl
@[simp] theorem State.tgtUpd_movers (s : State) (k : Nat) (f : TgtState → TgtState) : (s.tgtUpd k f).movers = s.movers := rfl
@[simp] theorem State.tgtUpd_place (s : State) (k : Nat) (f : TgtState → TgtState) : (s.tgtUpd k f).place = s.place := rfl
@[simp] theorem State.tgtUpd_tkt (s : State) (k : Nat) (f : TgtState → TgtState) : (s.tgtUpd k f).tkt = s.tkt := rfl
@[simp] theorem State.tgtUpd_flash (s : State) (k : Nat) (f : TgtState → TgtState) : (s.tgtUpd k f).flash = s.flash := rfl
@[simp] theorem State.tgtUpd_retr (s : State) (k : Nat) (f : TgtState → TgtState) : (s.tgtUpd k f).retr = s.retr := rfl
@[simp] theorem State.tgtUpd_sec (s : State) (k : Nat) (f : TgtState → TgtState) : (s.tgtUpd k f).sec = s.sec := rfl
@[simp] theorem State.tgtUpd_fuses (s : State) (k : Nat) (f : TgtState → TgtState) : (s.tgtUpd k f).fuses = s.fuses := rfl
@[simp] theorem State.tgtUpd_log (s : State) (k : Nat) (f : TgtState → TgtState) : (s.tgtUpd k f).log = s.log := rfl
@[simp] theorem State.tgtUpd_pwr (s : State) (k : Nat) (f : TgtState → TgtState) : (s.tgtUpd k f).pwr = s.pwr := rfl
@[simp] theorem State.tgtUpd_thm (s : State) (k : Nat) (f : TgtState → TgtState) : (s.tgtUpd k f).thm = s.thm := rfl
@[simp] theorem State.tgtUpd_bup (s : State) (k : Nat) (f : TgtState → TgtState) : (s.tgtUpd k f).bup = s.bup := rfl
@[simp] theorem State.tgtUpd_shadows (s : State) (k : Nat) (f : TgtState → TgtState) : (s.tgtUpd k f).shadows = s.shadows := rfl
@[simp] theorem State.tgtUpd_wave (s : State) (k : Nat) (f : TgtState → TgtState) : (s.tgtUpd k f).wave = s.wave := rfl
@[simp] theorem State.tgtUpd_ldp (s : State) (k : Nat) (f : TgtState → TgtState) : (s.tgtUpd k f).ldp = s.ldp := rfl
@[simp] theorem State.tgtUpd_cwy (s : State) (k : Nat) (f : TgtState → TgtState) : (s.tgtUpd k f).cwy = s.cwy := rfl
@[simp] theorem State.tgtUpd_chain (s : State) (k : Nat) (f : TgtState → TgtState) : (s.tgtUpd k f).chain = s.chain := rfl
@[simp] theorem State.tgtUpd_ports (s : State) (k : Nat) (f : TgtState → TgtState) : (s.tgtUpd k f).ports = s.ports := rfl
@[simp] theorem State.tgtUpd_grp (s : State) (k : Nat) (f : TgtState → TgtState) : (s.tgtUpd k f).grp = s.grp := rfl
@[simp] theorem State.tgtUpd_tap (s : State) (k : Nat) (f : TgtState → TgtState) : (s.tgtUpd k f).tap = s.tap := rfl
@[simp] theorem State.tgtUpd_doze (s : State) (k : Nat) (f : TgtState → TgtState) : (s.tgtUpd k f).doze = s.doze := rfl
@[simp] theorem State.tgtUpd_deadRows (s : State) (k : Nat) (f : TgtState → TgtState) : (s.tgtUpd k f).deadRows = s.deadRows := rfl
@[simp] theorem State.tgtUpd_fns (s : State) (k : Nat) (f : TgtState → TgtState) : (s.tgtUpd k f).fns = s.fns := rfl
@[simp] theorem State.tgtUpd_devs (s : State) (k : Nat) (f : TgtState → TgtState) : (s.tgtUpd k f).devs = s.devs := rfl
@[simp] theorem State.tgtUpd_lostDevs (s : State) (k : Nat) (f : TgtState → TgtState) : (s.tgtUpd k f).lostDevs = s.lostDevs := rfl
@[simp] theorem State.tgtUpd_bridgeEn (s : State) (k : Nat) (f : TgtState → TgtState) : (s.tgtUpd k f).bridgeEn = s.bridgeEn := rfl
@[simp] theorem State.tgtUpd_perst (s : State) (k : Nat) (f : TgtState → TgtState) : (s.tgtUpd k f).perst = s.perst := rfl
@[simp] theorem State.tgtUpd_faultN (s : State) (k : Nat) (f : TgtState → TgtState) : (s.tgtUpd k f).faultN = s.faultN := rfl
@[simp] theorem State.tgtUpd_outbox (s : State) (k : Nat) (f : TgtState → TgtState) : (s.tgtUpd k f).outbox = s.outbox := rfl
@[simp] theorem State.tgtUpd_resp (s : State) (k : Nat) (f : TgtState → TgtState) : (s.tgtUpd k f).resp = s.resp := rfl
@[simp] theorem State.tgtUpd_free (s : State) (k : Nat) (f : TgtState → TgtState) : (s.tgtUpd k f).free = s.free := rfl
@[simp] theorem State.tgtUpd_pending (s : State) (k : Nat) (f : TgtState → TgtState) : (s.tgtUpd k f).pending = s.pending := rfl

/-! ### What `State.tick` leaves -/

@[simp] theorem State.tick_regs (s : State) : (s.tick ).regs = s.regs := rfl
@[simp] theorem State.tick_icu (s : State) : (s.tick ).icu = s.icu := rfl
@[simp] theorem State.tick_mem (s : State) : (s.tick ).mem = s.mem := rfl
@[simp] theorem State.tick_scrub (s : State) : (s.tick ).scrub = s.scrub := rfl
@[simp] theorem State.tick_keep (s : State) : (s.tick ).keep = s.keep := rfl
@[simp] theorem State.tick_engs (s : State) : (s.tick ).engs = s.engs := rfl
@[simp] theorem State.tick_sites (s : State) : (s.tick ).sites = s.sites := rfl
@[simp] theorem State.tick_barrier (s : State) : (s.tick ).barrier = s.barrier := rfl
@[simp] theorem State.tick_subst (s : State) : (s.tick ).subst = s.subst := rfl
@[simp] theorem State.tick_spans (s : State) : (s.tick ).spans = s.spans := rfl
@[simp] theorem State.tick_rings (s : State) : (s.tick ).rings = s.rings := rfl
@[simp] theorem State.tick_image (s : State) : (s.tick ).image = s.image := rfl
@[simp] theorem State.tick_load (s : State) : (s.tick ).load = s.load := rfl
@[simp] theorem State.tick_mode (s : State) : (s.tick ).mode = s.mode := rfl
@[simp] theorem State.tick_changes (s : State) : (s.tick ).changes = s.changes := rfl
@[simp] theorem State.tick_shadow (s : State) : (s.tick ).shadow = s.shadow := rfl
@[simp] theorem State.tick_staged (s : State) : (s.tick ).staged = s.staged := rfl
@[simp] theorem State.tick_stale (s : State) : (s.tick ).stale = s.stale := rfl
@[simp] theorem State.tick_pend (s : State) : (s.tick ).pend = s.pend := rfl
@[simp] theorem State.tick_gen (s : State) : (s.tick ).gen = s.gen := rfl
@[simp] theorem State.tick_movers (s : State) : (s.tick ).movers = s.movers := rfl
@[simp] theorem State.tick_place (s : State) : (s.tick ).place = s.place := rfl
@[simp] theorem State.tick_tkt (s : State) : (s.tick ).tkt = s.tkt := rfl
@[simp] theorem State.tick_flash (s : State) : (s.tick ).flash = s.flash := rfl
@[simp] theorem State.tick_retr (s : State) : (s.tick ).retr = s.retr := rfl
@[simp] theorem State.tick_sec (s : State) : (s.tick ).sec = s.sec := rfl
@[simp] theorem State.tick_fuses (s : State) : (s.tick ).fuses = s.fuses := rfl
@[simp] theorem State.tick_log (s : State) : (s.tick ).log = s.log := rfl
@[simp] theorem State.tick_pwr (s : State) : (s.tick ).pwr = s.pwr := rfl
@[simp] theorem State.tick_thm (s : State) : (s.tick ).thm = s.thm := rfl
@[simp] theorem State.tick_bup (s : State) : (s.tick ).bup = s.bup := rfl
@[simp] theorem State.tick_shadows (s : State) : (s.tick ).shadows = s.shadows := rfl
@[simp] theorem State.tick_wave (s : State) : (s.tick ).wave = s.wave := rfl
@[simp] theorem State.tick_ldp (s : State) : (s.tick ).ldp = s.ldp := rfl
@[simp] theorem State.tick_cwy (s : State) : (s.tick ).cwy = s.cwy := rfl
@[simp] theorem State.tick_chain (s : State) : (s.tick ).chain = s.chain := rfl
@[simp] theorem State.tick_ports (s : State) : (s.tick ).ports = s.ports := rfl
@[simp] theorem State.tick_grp (s : State) : (s.tick ).grp = s.grp := rfl
@[simp] theorem State.tick_tap (s : State) : (s.tick ).tap = s.tap := rfl
@[simp] theorem State.tick_doze (s : State) : (s.tick ).doze = s.doze := rfl
@[simp] theorem State.tick_deadRows (s : State) : (s.tick ).deadRows = s.deadRows := rfl
@[simp] theorem State.tick_fns (s : State) : (s.tick ).fns = s.fns := rfl
@[simp] theorem State.tick_devs (s : State) : (s.tick ).devs = s.devs := rfl
@[simp] theorem State.tick_lostDevs (s : State) : (s.tick ).lostDevs = s.lostDevs := rfl
@[simp] theorem State.tick_bridgeEn (s : State) : (s.tick ).bridgeEn = s.bridgeEn := rfl
@[simp] theorem State.tick_perst (s : State) : (s.tick ).perst = s.perst := rfl
@[simp] theorem State.tick_faultN (s : State) : (s.tick ).faultN = s.faultN := rfl
@[simp] theorem State.tick_outbox (s : State) : (s.tick ).outbox = s.outbox := rfl
@[simp] theorem State.tick_resp (s : State) : (s.tick ).resp = s.resp := rfl
@[simp] theorem State.tick_pending (s : State) : (s.tick ).pending = s.pending := rfl

@[simp] theorem State.emit_outbox (s : State) (o : Out) : (s.emit o).outbox = o :: s.outbox := rfl
@[simp] theorem State.reply_resp (s : State) (p : Resp) : (s.reply p).resp = p := rfl
@[simp] theorem State.emit_rget (s : State) (o : Out) (r : Reg) : (s.emit o).rget r = s.rget r := rfl
@[simp] theorem State.reply_rget (s : State) (p : Resp) (r : Reg) : (s.reply p).rget r = s.rget r := rfl
@[simp] theorem State.srcUpd_rget (s : State) (k : Nat) (f : SrcState → SrcState) (r : Reg) :
    (s.srcUpd k f).rget r = s.rget r := rfl
@[simp] theorem State.tgtUpd_rget (s : State) (k : Nat) (f : TgtState → TgtState) (r : Reg) :
    (s.tgtUpd k f).rget r = s.rget r := rfl

end Sys2Proof.Machine
end

