-- ==== Sys2Proof/Laws/Interrupts.lean ====
section
/-! SUPPORT. What raising and presenting interrupt sources can do (R401 to R412): nothing but what `Signals` names. -/

namespace Sys2Proof.Machine

theorem RegsKept.refl (p : List Reg) (s : State) : RegsKept p s s := fun _ _ => rfl

theorem RegsKept.trans {p : List Reg} {s t u : State} (h : RegsKept p s t) (g : RegsKept p t u) : RegsKept p s u :=
  fun r hr => (g r hr).trans (h r hr)

theorem RegsKept.fset {p : List Reg} {s : State} {r : Reg} (f : Fld) (v : Nat) (h : r ∈ p) : RegsKept p s (s.fset r f v) :=
  fun _ hq => State.rget_fset_other s f v (fun e => hq (e ▸ h))

theorem RegsKept.rset {p : List Reg} {s : State} {r : Reg} (v : Word) (h : r ∈ p) : RegsKept p s (s.rset r v) :=
  fun _ hq => State.rget_rset_other s v (fun e => hq (e ▸ h))

@[refl] theorem Signals.refl (s : State) : Signals s s := ⟨rfl, RegsKept.refl _ s⟩

theorem Signals.trans {s t u : State} (h : Signals s t) (g : Signals t u) : Signals s u := by
  obtain ⟨h1, h2⟩ := h
  obtain ⟨g1, g2⟩ := g
  refine ⟨?_, h2.trans g2⟩
  rw [g1, h1]

theorem Signals.foldl {α : Type} (f : State → α → State) (h : ∀ s a, Signals s (f s a)) (l : List α) (s : State) :
    Signals s (l.foldl f s) := by
  induction l generalizing s with
  | nil => exact Signals.refl s
  | cons a l ih => exact (h s a).trans (ih (f s a))

theorem Signals.ite {p : Prop} [Decidable p] {s a b : State} (h : Signals s a) (g : Signals s b) :
    Signals s (if p then a else b) := by
  split
  · exact h
  · exact g

theorem Signals.tgtUpd (s : State) (t : Nat) (f : TgtState → TgtState) : Signals s (s.tgtUpd t f) := ⟨rfl, fun _ _ => rfl⟩

theorem Signals.srcUpd (s : State) (k : Nat) (f : SrcState → SrcState) : Signals s (s.srcUpd k f) := ⟨rfl, fun _ _ => rfl⟩

theorem Signals.fset (s : State) (r : Reg) (f : Fld) (v : Nat) (h : r ∈ signalRegs) : Signals s (s.fset r f v) :=
  ⟨rfl, RegsKept.fset f v h⟩

theorem Signals.emit (s : State) (o : Out) : Signals s (s.emit o) := ⟨rfl, fun _ _ => rfl⟩

theorem Signals.msixOut (s : State) (fn v : Nat) : Signals s (s.msixOut fn v) :=
  (Signals.fset s .HBR_TLP_TX _ _ (by decide)).trans (Signals.emit _ _)

theorem Signals.sendMsix (s : State) (t p : Nat) : Signals s (s.sendMsix t p) := by
  unfold State.sendMsix
  dsimp only
  generalize s.fget (.HBR_TGT (Fin.ofNat 15 t)) F.HBR_TGT_BASE
    + (if s.bget (.HBR_TGT (Fin.ofNat 15 t)) F.HBR_TGT_PRIO_SPLIT = true then p else 0) = v
  split
  · exact Signals.tgtUpd s t _
  · split
    · exact Signals.fset s .HBR_ERR _ _ (by decide)
    · split
      · exact ⟨rfl, fun _ _ => rfl⟩
      · exact Signals.msixOut s _ _

theorem Signals.sendIrqFrame (s : State) (t p : Nat) : Signals s (s.sendIrqFrame t p) := by
  unfold State.sendIrqFrame
  dsimp only
  split
  · exact ⟨rfl, fun _ _ => rfl⟩
  · exact Signals.tgtUpd s t _

theorem Signals.alertBit (s : State) (f : Fld) : Signals s (s.alertBit f) := by
  unfold State.alertBit
  split
  · exact Signals.refl s
  · exact ⟨rfl, RegsKept.fset f 1 (by decide)⟩

theorem Signals.deliver (s : State) (t p : Nat) : Signals s (s.deliver t p) := by
  unfold State.deliver
  split
  · exact Signals.alertBit s _
  · split
    · exact Signals.sendMsix s t p
    · exact Signals.sendIrqFrame s t p

theorem Signals.presentTo (s : State) (k t : Nat) : Signals s (s.presentTo k t) := by
  unfold State.presentTo
  split
  · exact (Signals.tgtUpd s t _).trans (Signals.deliver _ t _)
  · exact Signals.refl s

theorem Signals.present (s : State) (k : Nat) : Signals s (s.present k) :=
  Signals.foldl _ (fun s t => Signals.presentTo s k t) _ s

theorem Signals.count (s : State) (k : Nat) : Signals s (s.count k) := by
  unfold State.count
  dsimp only
  split <;> exact Signals.srcUpd s k _

/-- Raising a source changes nothing but what `Signals` names. -/
theorem Signals.raise (s : State) (k : Nat) : Signals s (s.raise k) := by
  unfold State.raise
  dsimp only
  have h := (Signals.count s k).trans (Signals.present _ k)
  split
  · exact h.trans ((Signals.count _ 0).trans (Signals.present _ 0))
  · exact h

theorem Signals.raises (s : State) (l : List Nat) : Signals s (s.raises l) := Signals.foldl _ Signals.raise l s

theorem Signals.setLine (s : State) (k : Nat) (b : Bool) : Signals s (s.setLine k b) := by
  unfold State.setLine
  dsimp only
  split
  · exact (Signals.srcUpd s k _).trans (Signals.raise _ k)
  · exact Signals.srcUpd s k _

theorem Signals.presentBest (s : State) (t : Nat) : Signals s (s.presentBest t) := by
  unfold State.presentBest
  split
  · exact Signals.refl s
  · split
    · exact Signals.presentTo s _ t
    · exact Signals.refl s

theorem Signals.presentAll (s : State) : Signals s s.presentAll := Signals.foldl _ Signals.presentBest _ s

theorem Signals.sendHeld (s : State) (p : State → Nat → Bool) : Signals s (s.sendHeld p) := by
  unfold State.sendHeld
  apply Signals.foldl
  intro s t
  split
  · exact (Signals.tgtUpd s t _).trans (Signals.deliver _ t _)
  · exact Signals.refl s

/-! ### What presenting leaves of the sources -/

theorem State.alertBit_src (s : State) (f : Fld) : (s.alertBit f).icu = s.icu := by
  unfold State.alertBit
  split <;> rfl

theorem State.sendMsix_src (s : State) (t p : Nat) : (s.sendMsix t p).icu.src = s.icu.src := by
  unfold State.sendMsix
  dsimp only
  generalize s.fget (.HBR_TGT (Fin.ofNat 15 t)) F.HBR_TGT_BASE
    + (if s.bget (.HBR_TGT (Fin.ofNat 15 t)) F.HBR_TGT_PRIO_SPLIT = true then p else 0) = v
  split
  · rfl
  · split
    · rfl
    · split <;> rfl

theorem State.deliver_src (s : State) (t p : Nat) : (s.deliver t p).icu.src = s.icu.src := by
  unfold State.deliver
  split
  · rw [State.alertBit_src]
  · split
    · exact State.sendMsix_src s t p
    · unfold State.sendIrqFrame
      dsimp only
      generalize s.fget (.LNK_GRP) F.LNK_GRP_STATE = v
      by_cases h : v = 2 <;> simp [h, State.tgtUpd]

theorem State.presentTo_src (s : State) (k t : Nat) : (s.presentTo k t).icu.src = s.icu.src := by
  unfold State.presentTo
  split
  · rw [State.deliver_src]
    rfl
  · rfl

@[simp] theorem State.present_src (s : State) (k : Nat) : (s.present k).icu.src = s.icu.src := by
  unfold State.present
  generalize List.range 16 = l
  induction l generalizing s with
  | nil => rfl
  | cons t l ih => rw [List.foldl_cons, ih, State.presentTo_src]

theorem State.count_raised (s : State) (k : Nat) : Raised k s (s.count k) := by
  unfold Raised State.count
  dsimp only
  split <;> rename_i h <;> simp [State.srcUpd]

theorem State.count_src_other (s : State) {k j : Nat} (h : j ≠ k) :
    (s.count k).icu.src.at j = s.icu.src.at j := by
  unfold State.count
  dsimp only
  split <;> simp [State.srcUpd, Tab.at_upd, h]

/-- Raising a source is one event of it (R401). -/
theorem State.raise_raised (s : State) (k : Nat) : Raised k s (s.raise k) := by
  have h := s.count_raised k
  unfold State.raise
  dsimp only
  split
  · rename_i g
    have hk : k ≠ 0 := by
      simp only [decide_eq_true_eq] at g
      exact g.2.1
    unfold Raised at h ⊢
    simpa only [State.present_src, State.count_src_other _ hk] using h
  · unfold Raised at h ⊢
    simpa only [State.present_src] using h

/-- Raising a source is no event of another one, but for the first overflow, which is one of source 0 (R416). -/
theorem State.raise_src_other (s : State) {k j : Nat} (h : j ≠ k) (h0 : j ≠ 0) :
    (s.raise k).icu.src.at j = s.icu.src.at j := by
  unfold State.raise
  dsimp only
  split <;> simp [State.count_src_other, h, h0]

end Sys2Proof.Machine
end

