-- ==== Sys2Proof/Laws/Memory.lean ====
section
/-! SUPPORT. Laws of memory: every operation over memory keeps its canonical form, and an access changes nothing but what
`MemoryActs` names. -/

namespace Sys2Proof.Machine

/-! ### Memory units -/

theorem MemUnit.setByte_wf {m : MemUnit} (h : Memory.wf m = true) (k : Nat) (b : Byte) : Memory.wf (m.setByte k b) = true :=
  Tab.wf_put h k b

theorem MemUnit.setRaw_wf {m : MemUnit} (h : Memory.wf m = true) (k w : Nat) : Memory.wf (m.setRaw k w) = true :=
  Tab.wf_put (Tab.wf_put (Tab.wf_put (Tab.wf_put h _ _) _ _) _ _) _ _

theorem MemUnit.setSyn_wf {m : MemUnit} (h : Memory.wf m = true) (k x : Nat) : Memory.wf (m.setSyn k x) = true := h

theorem MemUnit.inst_wf {m : MemUnit} (h : Memory.wf m = true) (i : Nat) (f : MemInst → MemInst) :
    Memory.wf (m.inst i f) = true := h

theorem MemUnit.evt_wf {m : MemUnit} (h : Memory.wf m = true) (k : Nat) : Memory.wf (m.evt k) = true := h

theorem MemUnit.pinCount_wf {m : MemUnit} (h : Memory.wf m = true) (n pin thr : Nat) :
    Memory.wf (m.pinCount n pin thr) = true := by
  unfold MemUnit.pinCount
  dsimp only
  split <;> exact h

theorem MemUnit.correction_wf {m : MemUnit} (h : Memory.wf m = true) (c : CellRef) (w : Nat) (skip pois : Bool) :
    Memory.wf (m.correction c w skip pois).1 = true := by
  unfold MemUnit.correction
  dsimp only
  repeat' split
  all_goals exact h

theorem MemUnit.newUncorrectable_wf {m : MemUnit} (h : Memory.wf m = true) (c : CellRef) :
    Memory.wf (m.newUncorrectable c) = true := h

theorem MemUnit.foldl_wf {α : Type} (f : MemUnit → α → MemUnit)
    (hf : ∀ m a, Memory.wf m = true → Memory.wf (f m a) = true) (l : List α) {m : MemUnit} (h : Memory.wf m = true) :
    Memory.wf (l.foldl f m) = true := by
  induction l generalizing m with
  | nil => exact h
  | cons a l ih => exact ih (hf m a h)

theorem MemUnit.readWord_wf {m : MemUnit} (h : Memory.wf m = true) (c : CellRef) (thr : Nat) :
    Memory.wf (m.readWord c thr).1 = true := by
  unfold MemUnit.readWord
  extract_lets w fix
  have hfix : ∀ w' bit, Memory.wf (fix w' bit).1 = true := by
    intro w' bit
    simp only [fix]
    have h1 : Memory.wf (if c.cls = 5 then m.pinCount c.inst (pinOf c.key bit) thr else m) = true := by
      by_cases g : c.cls = 5
      · rw [if_pos g]
        exact MemUnit.pinCount_wf h _ _ _
      · rw [if_neg g]
        exact h
    generalize (if c.cls = 5 then m.pinCount c.inst (pinOf c.key bit) thr else m) = m1 at h1
    generalize (decide (c.cls = 5) && decide (m.pinFault.at c.inst = some (pinOf c.key bit))) = skip
    have h2 := MemUnit.correction_wf h1 c w' skip false
    generalize m1.correction c w' skip false = r at h2
    by_cases g : r.2 = true
    · rw [if_pos g]
      exact h2
    · rw [if_neg g]
      exact MemUnit.setSyn_wf (MemUnit.setRaw_wf h2 _ _) _ _
  split
  · exact h
  · exact hfix _ _
  · exact hfix _ _
  · exact h
  · exact h

theorem MemUnit.readBytes4_wf {m : MemUnit} (h : Memory.wf m = true) (c : CellRef) : Memory.wf (m.readBytes4 c).1 = true := by
  unfold MemUnit.readBytes4
  extract_lets ks syns bytes w anyPois anyBad anyFix m1 m2 r m3
  split
  · exact h
  · have h1 : Memory.wf m1 = true := by
      simp only [m1]
      split <;> exact h
    have h2 : Memory.wf m2 = true := by
      simp only [m2]
      split <;> exact h1
    have h3 : Memory.wf r.1 = true := by
      simp only [r]
      split
      · exact MemUnit.correction_wf h2 _ _ _ _
      · exact h2
    apply MemUnit.foldl_wf _ _ _ h3
    intro m k hm
    dsimp only
    split
    · exact hm
    · split
      · exact MemUnit.setSyn_wf (MemUnit.setByte_wf hm _ _) _ _
      · exact hm

/-- Reading a word keeps memory in canonical form. -/
theorem MemUnit.read_wf {m : MemUnit} (h : Memory.wf m = true) (c : CellRef) (thr : Nat) :
    Memory.wf (m.read c thr).1 = true := by
  unfold MemUnit.read
  split
  · exact h
  · split
    · exact MemUnit.readBytes4_wf h c
    · exact MemUnit.readWord_wf h c thr

theorem MemUnit.scrubRead_wf {m : MemUnit} (h : Memory.wf m = true) (c : CellRef) (thr : Nat) :
    Memory.wf (m.scrubRead c thr).1 = true := by
  unfold MemUnit.scrubRead
  extract_lets clean m1
  apply MemUnit.read_wf
  simp only [m1]
  generalize (clean && decide (patchOf (m.insts.at c.ik).patch c.key = none)) = g
  cases g
  · exact h
  · exact h

/-- Writing a word keeps memory in canonical form. -/
theorem MemUnit.write_wf {m : MemUnit} (h : Memory.wf m = true) (c : CellRef) (mask w : Nat) (pois : Bool) (thr : Nat) :
    Memory.wf (m.write c mask w pois thr).1 = true := by
  unfold MemUnit.write
  split
  · exact h
  · split
    · apply MemUnit.foldl_wf _ _ _ h
      intro m i hm
      split
      · exact MemUnit.setSyn_wf (MemUnit.setByte_wf hm _ _) _ _
      · exact hm
    · split
      · exact MemUnit.setSyn_wf (MemUnit.setRaw_wf h _ _) _ _
      · have hr := MemUnit.readWord_wf h c thr
        generalize m.readWord c thr = r at hr ⊢
        extract_lets
        by_cases g1 : r.2.2 = true
        · rw [if_pos g1]
          exact hr
        · rw [if_neg g1]
          generalize patchOf (r.1.insts.at c.ik).patch c.key = q
          cases q with
          | some e => exact hr
          | none => exact MemUnit.setSyn_wf (MemUnit.setRaw_wf hr _ _) _ _

theorem MemUnit.inject_wf {m : MemUnit} (h : Memory.wf m = true) (c : CellRef) (dmask cmask : Nat) :
    Memory.wf (m.inject c dmask cmask) = true := by
  unfold MemUnit.inject
  split
  · apply MemUnit.foldl_wf _ _ _ h
    intro m i hm
    exact MemUnit.setSyn_wf (MemUnit.setByte_wf hm _ _) _ _
  · exact MemUnit.setSyn_wf (MemUnit.setRaw_wf h _ _) _ _

theorem MemUnit.fill_wf {m : MemUnit} (h : Memory.wf m = true) (p : Nat → Bool) : Memory.wf (m.fill p) = true := by
  unfold Memory.wf MemUnit.fill at *
  rw [Tab.wf_iff] at h ⊢
  exact ⟨fun e he => h.1 e (List.mem_filter.mp he).1, h.2.filter _⟩

theorem MemUnit.dramKept_wf {m : MemUnit} (h : Memory.wf m = true) : Memory.wf m.dramKept = true :=
  MemUnit.fill_wf h (fun k => !dramCell k)

theorem MemUnit.setManifest_wf {m : MemUnit} (h : Memory.wf m = true) (k : Nat) (v : Word) :
    Memory.wf (m.setManifest k v) = true := h

/-! ### Accesses -/

theorem MemoryActs.refl (s : State) : MemoryActs s s := ⟨rfl, RegsKept.refl _ s, id, List.prefix_rfl⟩

theorem MemoryActs.trans {s t u : State} (h : MemoryActs s t) (g : MemoryActs t u) : MemoryActs s u := by
  refine ⟨?_, h.regs.trans g.regs, fun w => g.wf (h.wf w), h.log.trans g.log⟩
  rw [g.rest, h.rest]

theorem MemoryActs.ite {p : Prop} [Decidable p] {s a b : State} (h : MemoryActs s a) (g : MemoryActs s b) :
    MemoryActs s (if p then a else b) := by
  split
  · exact h
  · exact g

theorem MemoryActs.foldl {α : Type} (f : State → α → State) (h : ∀ s a, MemoryActs s (f s a)) (l : List α) (s : State) :
    MemoryActs s (l.foldl f s) := by
  induction l generalizing s with
  | nil => exact MemoryActs.refl s
  | cons a l ih => exact (h s a).trans (ih (f s a))

theorem MemoryActs.foldOver {α β : Type} (g : β → State) (f : β → α → β) (h : ∀ x a, MemoryActs (g x) (g (f x a)))
    (l : List α) (x : β) : MemoryActs (g x) (g (l.foldl f x)) := by
  induction l generalizing x with
  | nil => exact MemoryActs.refl _
  | cons a l ih => exact (h x a).trans (ih (f x a))

theorem mem_memoryRegs_of_signal {r : Reg} (h : r ∈ signalRegs) : r ∈ memoryRegs :=
  List.mem_append_left _ (List.mem_append_left _ (List.mem_append_left _ (List.mem_append_left _ h)))

theorem Signals.memoryActs {s t : State} (h : Signals s t) : MemoryActs s t := by
  obtain ⟨e, k⟩ := h
  refine ⟨?_, fun r hr => k r (fun hs => hr (mem_memoryRegs_of_signal hs)), ?_, ?_⟩
  · conv_lhs => rw [e]
    rw [e]
  · rw [e]; exact id
  · rw [e]

theorem MemoryActs.fset (s : State) (r : Reg) (f : Fld) (v : Nat) (h : r ∈ memoryRegs) : MemoryActs s (s.fset r f v) :=
  ⟨rfl, RegsKept.fset f v h, id, List.prefix_rfl⟩

theorem MemoryActs.rset (s : State) (r : Reg) (v : Word) (h : r ∈ memoryRegs) : MemoryActs s (s.rset r v) :=
  ⟨rfl, RegsKept.rset v h, id, List.prefix_rfl⟩

theorem MemoryActs.withMem (s : State) {m : MemUnit} (h : Memory.wf s.mem = true → Memory.wf m = true) :
    MemoryActs s (s.withMem m) := ⟨rfl, fun _ _ => rfl, h, List.prefix_rfl⟩

theorem MemoryActs.place (s : State) (p : PlaceUnit) : MemoryActs s { s with place := p } :=
  ⟨rfl, fun _ _ => rfl, id, List.prefix_rfl⟩

/-- Writing a defect-log record appends to the log at most (R394). -/
theorem MemoryActs.logRec (s : State) (r : LogRec) (ok : Bool) : MemoryActs s (s.logRec r ok) := by
  have attempt : MemoryActs s { s with log := { s.log with attempts := s.log.attempts + 1 } } :=
    ⟨rfl, fun _ _ => rfl, id, List.prefix_rfl⟩
  have write : MemoryActs s { s with log := { attempts := s.log.attempts + 1, recs := s.log.recs ++ [r] } } :=
    ⟨rfl, fun _ _ => rfl, id, List.prefix_append ..⟩
  unfold State.logRec
  dsimp only
  split
  · split
    · exact write.trans ((MemoryActs.fset _ .BUP_STAT _ _ (by decide)).trans (Signals.raise _ 9).memoryActs)
    · exact write
  · exact attempt.trans ((MemoryActs.fset _ .BUP_STAT _ _ (by decide)).trans (Signals.raise _ 9).memoryActs)

theorem MemoryActs.settle (s : State) : MemoryActs s s.settle := by
  unfold State.settle
  dsimp only
  refine (MemoryActs.foldl _ ?_ _ s).trans ((MemoryActs.withMem _ ?_).trans (Signals.raises _ _).memoryActs)
  · intro s k
    split
    · exact MemoryActs.logRec s _ _
    · exact MemoryActs.refl s
  · exact id

/-- Reading a block. -/
theorem MemoryActs.readBlock {s : State} {hub scrub : Bool} {a : Nat} {x : State × List Nat × List Bool × Word}
    (h : s.readBlock hub scrub a = some x) : MemoryActs s x.1 := by
  unfold State.readBlock at h
  split at h
  · cases h
  · rename_i c _
    cases h
    refine MemoryActs.withMem s fun w => ?_
    have : ∀ (l : List Nat) (acc : MemUnit × List Nat × List Bool), Memory.wf acc.1 = true →
        Memory.wf (l.foldl (fun (acc : MemUnit × List Nat × List Bool) i =>
          let c' : CellRef := { c with key := c.key + 4 * i }
          let x := if scrub then acc.1.scrubRead c' (s.pinThr c) else acc.1.read c' (s.pinThr c)
          (x.1, acc.2.1 ++ [x.2.1], acc.2.2 ++ [x.2.2])) acc).1 = true := by
      intro l
      induction l with
      | nil => exact fun _ h => h
      | cons i l ih =>
        intro acc hacc
        rw [List.foldl_cons]
        apply ih
        dsimp only
        split
        · exact MemUnit.scrubRead_wf hacc _ _
        · exact MemUnit.read_wf hacc _ _
    exact this _ _ w

theorem MemoryActs.tick (s : State) : MemoryActs s s.tick := ⟨rfl, fun _ _ => rfl, id, List.prefix_rfl⟩

theorem MemoryActs.tkt (s : State) (u : TktUnit) : MemoryActs s { s with tkt := u } := ⟨rfl, fun _ _ => rfl, id, List.prefix_rfl⟩

theorem MemoryActs.cwy (s : State) (u : Tab BundleUnit) : MemoryActs s { s with cwy := u } :=
  ⟨rfl, fun _ _ => rfl, id, List.prefix_rfl⟩

theorem MemoryActs.manifestBad (s : State) (a point : Nat) : MemoryActs s (s.manifestBad a point) := by
  unfold State.manifestBad
  dsimp only
  split
  · exact (MemoryActs.tick s).trans (MemoryActs.withMem s.tick id)
  · exact MemoryActs.withMem s id

theorem stackRd_mem (n : Fin 8) : Reg.STK_RD_CNT n ∈ memoryRegs :=
  List.mem_append_left _ (List.mem_append_left _ (List.mem_append_right _ (List.mem_map_of_mem (List.mem_finRange n))))

theorem stackWr_mem (n : Fin 8) : Reg.STK_WR_CNT n ∈ memoryRegs :=
  List.mem_append_left _ (List.mem_append_right _ (List.mem_map_of_mem (List.mem_finRange n)))

theorem mem_memoryRegs_of_pass {r : Reg} (h : r ∈ passRegs) : r ∈ memoryRegs := List.mem_append_right _ h

theorem stackMiss_mem (n : Fin 8) : Reg.STK_MISS_CNT n ∈ memoryRegs :=
  mem_memoryRegs_of_pass (List.mem_append_left _ (List.mem_append_left _ (List.mem_append_left _
    (List.mem_map_of_mem (List.mem_finRange n)))))

theorem hist_mem (n : Fin 16) : Reg.TEL_HIST n ∈ memoryRegs :=
  mem_memoryRegs_of_pass (List.mem_append_left _ (List.mem_append_left _ (List.mem_append_right _
    (List.mem_map_of_mem (List.mem_finRange n)))))

theorem flitsIn_mem (p : Fin 78) : Reg.CWY_RX p ∈ memoryRegs :=
  mem_memoryRegs_of_pass (List.mem_append_left _ (List.mem_append_right _ (List.mem_map_of_mem (List.mem_finRange p))))

theorem flitsOut_mem (p : Fin 78) : Reg.CWY_TX p ∈ memoryRegs :=
  mem_memoryRegs_of_pass (List.mem_append_right _ (List.mem_map_of_mem (List.mem_finRange p)))

theorem MemoryActs.stackCount (s : State) (rd : Bool) (a n : Nat) : MemoryActs s (s.stackCount rd a n) := by
  unfold State.stackCount
  split
  · rename_i c _
    split
    · cases rd
      · exact MemoryActs.rset s _ _ (stackWr_mem _)
      · have h1 := MemoryActs.rset s _ (s.rget (.STK_RD_CNT (Fin.ofNat 8 c.inst)) + wordOf ((a + n - 1) / 64 - a / 64 + 1))
          (stackRd_mem (Fin.ofNat 8 c.inst))
        simp only [if_true]
        generalize s.rset (.STK_RD_CNT (Fin.ofNat 8 c.inst)) _ = u at h1 ⊢
        split
        · exact h1.trans (MemoryActs.withMem _ fun w => w)
        · exact h1.trans (MemoryActs.withMem _ fun w => w)
    · exact MemoryActs.refl s
  · exact MemoryActs.refl s

theorem MemoryActs.placeCount (s : State) (a n : Nat) : MemoryActs s (s.placeCount a n) := by
  unfold State.placeCount
  split
  · split
    · exact MemoryActs.refl s
    · exact MemoryActs.place s _
  · exact MemoryActs.refl s

theorem MemoryActs.pageDemote (s : State) (b : Nat) : MemoryActs s (s.pageDemote b) := by
  unfold State.pageDemote
  split
  · exact (MemoryActs.place s _).trans (MemoryActs.fset _ .SBF_PL_DEMO _ _ (by decide))
  · exact MemoryActs.refl s

/-- A read of part of a block. -/
theorem MemoryActs.readPart {s : State} {hub : Bool} {point b lo hi : Nat} {x : State × Part256}
    (h : s.readPart hub point b lo hi = some x) : MemoryActs s x.1 := by
  unfold State.readPart at h
  split at h
  · split at h
    · cases h
    · obtain ⟨l, -, rfl⟩ := Option.map_eq_some_iff.mp h
      exact MemoryActs.refl s
  · extract_lets src got0 demote st0 at h
    split at h
    · cases h
    · have hsrc : ∀ x, got0 = some x → MemoryActs s x.1 := fun x h => MemoryActs.readBlock h
      have hst0 : MemoryActs s st0 := by
        simp only [st0]
        generalize got0 = g at hsrc ⊢
        generalize demote = d
        cases d with
        | false => exact MemoryActs.refl _
        | true =>
          cases g with
          | none => exact MemoryActs.pageDemote _ b
          | some g => exact (hsrc g rfl).trans (MemoryActs.pageDemote _ b)
      have hgot : ∀ x, (if demote = true then st0.readBlock hub false b else got0) = some x → MemoryActs s x.1 := by
        intro x h
        split at h
        · exact hst0.trans (MemoryActs.readBlock h)
        · exact hsrc x h
      split at h
      · cases h
      · rename_i st ws ps man hx
        have hst : MemoryActs s st := hgot _ hx
        cases h
        exact hst.trans ((MemoryActs.ite (MemoryActs.manifestBad _ _ _) (MemoryActs.refl _)).trans (MemoryActs.stackCount _ _ _ _))

/-- A read of memory. -/
theorem MemoryActs.readAt (s : State) (hub : Bool) (point a n : Nat) : MemoryActs s (s.readAt hub point a n).st := by
  unfold State.readAt
  extract_lets u
  have h0 : MemoryActs s u := by
    simp only [u]
    split
    · exact MemoryActs.refl s
    · exact MemoryActs.placeCount s a n
  refine h0.trans ?_
  refine MemoryActs.foldOver Read.st _ (fun r b => ?_) _ ⟨u, [], [], [], none, none, []⟩
  split
  · exact MemoryActs.refl _
  · split
    · exact MemoryActs.refl _
    · rename_i st x h
      exact MemoryActs.readPart h

theorem MemoryActs.writeCell (s : State) (c : CellRef) (mask w : Nat) (pois : Bool) :
    MemoryActs s (s.writeCell c mask w pois).1 := by
  unfold State.writeCell
  extract_lets r m arm
  have hw : Memory.wf s.mem = true → Memory.wf r.1 = true := fun h => MemUnit.write_wf h _ _ _ _ _
  split
  · refine MemoryActs.trans ?_ (MemoryActs.fset _ .MEM_FLIP_CTL _ _ (by decide))
    exact MemoryActs.withMem s fun h => MemUnit.evt_wf (m := { m with flipHit := _ }) (MemUnit.inject_wf (hw h) _ _ _) 421
  · exact MemoryActs.withMem s hw

/-- The read before a partial write. -/
theorem MemoryActs.mergeRead (s : State) (c : CellRef) (lo hi : Nat) : MemoryActs s (s.mergeRead c lo hi).1 := by
  unfold State.mergeRead
  refine MemoryActs.withMem s fun w => ?_
  suffices ∀ (l : List Nat) (acc : MemUnit × List Nat × List Bool), Memory.wf acc.1 = true →
      Memory.wf (l.foldl (fun (acc : MemUnit × List Nat × List Bool) i =>
        let x := acc.1.read { c with key := c.key + 4 * i } (s.pinThr c)
        (if wordMask lo hi i = 0 then x.1 else acc.1, acc.2.1 ++ [x.2.1], acc.2.2 ++ [x.2.2])) acc).1 = true from this _ _ w
  intro l
  induction l with
  | nil => exact fun _ h => h
  | cons i l ih =>
    intro acc hacc
    rw [List.foldl_cons]
    apply ih
    dsimp only
    split
    · exact MemUnit.read_wf hacc _ _
    · exact hacc

theorem MemoryActs.writeBlock (s : State) (c : CellRef) (b lo hi : Nat) (bytes : List Byte) (pois : List Bool) (man : Word) :
    MemoryActs s (s.writeBlock c b lo hi bytes pois man).1 := by
  unfold State.writeBlock
  extract_lets words pw put manifested
  have hput : ∀ s, MemoryActs s (put s).1 := by
    intro s
    refine MemoryActs.foldOver Prod.fst _ (fun x i => ?_) _ (s, none, [])
    dsimp only
    split
    · exact MemoryActs.refl _
    · exact MemoryActs.writeCell _ _ _ _ _
  have hman : ∀ (s : State) (k : Nat) (v : Word), MemoryActs s (s.withMem (s.mem.setManifest k v)) :=
    fun s k v => MemoryActs.withMem s fun w => w
  split
  · dsimp only
    split
    · exact (hput s).trans (hman _ _ _)
    · exact hput s
  · split
    · exact hput s
    · have hx : MemoryActs s (s.mergeRead c lo hi).1 := MemoryActs.mergeRead s c lo hi
      split
      · exact hx.trans (MemoryActs.manifestBad _ _ _)
      · exact hx.trans ((hput _).trans (hman _ _ _))

/-- A write of memory. -/
theorem MemoryActs.writeAt (s : State) (hub : Bool) (a : Nat) (data : List Byte) (pois : List Bool) (mans : List Word) :
    MemoryActs s (s.writeAt hub a data pois mans).st := by
  unfold State.writeAt
  extract_lets n one
  have hone : ∀ s hub dst b j, MemoryActs s (one s hub dst b j).1 := by
    intro s hub dst b j
    simp only [one]
    split
    · exact MemoryActs.refl s
    · exact (MemoryActs.stackCount _ _ _ _).trans (MemoryActs.writeBlock _ _ _ _ _ _ _ _)
  refine MemoryActs.foldOver Write.st _ (fun w bj => ?_) _ ⟨s, none, none⟩
  dsimp only
  split
  · exact MemoryActs.refl _
  · split
    · exact MemoryActs.refl _
    · dsimp only
      split
      · split
        · exact (hone _ _ _ _ _).trans ((hone _ _ _ _ _).trans (MemoryActs.pageDemote _ _))
        · exact (hone _ _ _ _ _).trans (hone _ _ _ _ _)
      · exact hone _ _ _ _ _

theorem MemoryActs.dropped (s : State) (a : Nat) : MemoryActs s (s.dropped a) := MemoryActs.withMem s fun w => w

/-! ### Requests on their way (R219, R226, R300) -/

/-- A computation that may come to wait does nothing but what `MemoryActs` names when it goes on. -/
theorem MemoryActs.bind {s : State} {x : Except Hold State} {f : State → Except Hold State}
    (hx : ∀ t, x = .ok t → MemoryActs s t) (hf : ∀ t u, f t = .ok u → MemoryActs t u) :
    ∀ u, x.bind f = .ok u → MemoryActs s u := by
  intro u h
  cases x with
  | error e => cases h
  | ok t => exact (hx t rfl).trans (hf t u h)

theorem MemoryActs.eachUnit {s : State} {a n : Nat} {f : State → Nat → Bool → Except Hold State}
    (hf : ∀ s b p u, f s b p = .ok u → MemoryActs s u) : ∀ u, s.eachUnit a n f = .ok u → MemoryActs s u := by
  unfold State.eachUnit
  suffices ∀ (l : List Nat) (x : Except Hold State), (∀ t, x = .ok t → MemoryActs s t) → ∀ u,
      l.foldl (fun (x : Except Hold State) b => x.bind (fun s => f s b (decide (b < a ∨ a + n < b + 128)))) x = .ok u →
        MemoryActs s u from this _ _ (fun t h => by cases h; exact MemoryActs.refl s)
  intro l
  induction l with
  | nil => exact fun x hx u h => hx u h
  | cons b l ih => exact fun x hx => ih _ (MemoryActs.bind hx fun t u h => hf t b _ u h)

theorem MemoryActs.flitsCross (s : State) (p up down : Nat) : MemoryActs s (s.flitsCross p up down) :=
  (MemoryActs.fset s (.CWY_RX (bundleNo p)) _ _ (flitsIn_mem _)).trans
    ((MemoryActs.fset _ (.CWY_TX (bundleNo p)) _ _ (flitsOut_mem _)).trans ((MemoryActs.cwy _ _).trans (MemoryActs.cwy _ _)))

theorem MemoryActs.crossBy {s : State} {q : Requester} {rd part : Bool} {near : Option Nat} {far : List Nat} :
    ∀ u, s.crossBy q rd part near far = .ok u → MemoryActs s u := by
  intro u h
  unfold State.crossBy at h
  extract_lets ask back at h
  split at h
  · cases h
  · cases h
  · cases h
    refine MemoryActs.trans ?_ (MemoryActs.foldl _ (fun s p => MemoryActs.flitsCross s p _ _) _ _)
    cases near
    · exact MemoryActs.refl s
    · exact MemoryActs.flitsCross s _ _ _

theorem MemoryActs.tktUpd (s : State) (r t : Nat) (f : TktRes → TktRes) : MemoryActs s (s.tktUpd r t f) := MemoryActs.tkt s _

theorem MemoryActs.histCount (s : State) (r t interval : Nat) : MemoryActs s (s.histCount r t interval) :=
  MemoryActs.ite (MemoryActs.fset s _ _ _ (hist_mem _)) (MemoryActs.refl s)

/-- A read counted at its resource. -/
theorem MemoryActs.countRead (s : State) (r t held time : Nat) : MemoryActs s (s.countRead r t held time) := by
  unfold State.countRead
  extract_lets interval hasTarget s1
  have h : MemoryActs s s1 := (MemoryActs.tktUpd s r t _).trans (MemoryActs.histCount _ _ _ _)
  exact MemoryActs.ite h (h.trans (MemoryActs.tkt _ _))

theorem MemoryActs.countAt (s : State) (rd : Bool) (r t held : Nat) : MemoryActs s (s.countAt rd r t held) := by
  unfold State.countAt
  extract_lets x s1
  have h : MemoryActs s s1 :=
    MemoryActs.ite ((MemoryActs.tick s).trans (MemoryActs.fset _ _ _ _ (stackMiss_mem _))) (MemoryActs.tick s)
  exact MemoryActs.ite (h.trans (MemoryActs.countRead _ _ _ _ _)) h

theorem MemoryActs.waitOver (s : State) (q : Requester) (r t : Nat) : MemoryActs s (s.waitOver q r t) := MemoryActs.tkt s _

theorem MemoryActs.letPass {s : State} {q : Requester} {t : Nat} {rd : Bool} {b : Nat} :
    ∀ u, s.letPass q t rd b = .ok u → MemoryActs s u := by
  intro u h
  unfold State.letPass at h
  split at h
  · cases h
    exact MemoryActs.refl s
  · split at h
    · split at h
      · cases h
      · cases h
        exact (MemoryActs.tkt s _).trans ((MemoryActs.waitOver _ _ _ _).trans (MemoryActs.countAt _ _ _ _ _))
    · split at h
      · cases h
        exact (MemoryActs.waitOver _ _ _ _).trans (MemoryActs.countAt _ _ _ _ _)
      · cases h
        exact MemoryActs.countAt _ _ _ _ _

/-- Requests of a unit that reach memory. -/
theorem MemoryActs.pass {s : State} {q : Requester} {t : Nat} {rd : Bool} {a n : Nat} :
    ∀ u, s.pass q t rd a n = .ok u → MemoryActs s u :=
  MemoryActs.eachUnit fun _ _ _ => MemoryActs.bind MemoryActs.letPass fun _ => MemoryActs.crossBy

theorem MemoryActs.hubPass (s : State) (rd : Bool) (a n : Nat) : MemoryActs s (s.hubPass rd a n) := by
  unfold State.hubPass
  split
  · rename_i h
    exact MemoryActs.pass _ h
  · exact MemoryActs.refl s

/-- A write by a unit of the hub. -/
theorem MemoryActs.hubLay (s : State) (a : Nat) (data : List Byte) : MemoryActs s (s.hubLay a data) := by
  unfold State.hubLay
  dsimp only
  refine MemoryActs.trans ?_ (MemoryActs.settle _)
  split
  · exact (MemoryActs.writeAt _ _ _ _ _ _).trans (MemoryActs.dropped _ _)
  · exact MemoryActs.writeAt _ _ _ _ _ _

theorem MemoryActs.hubWrite (s : State) (a : Nat) (data : List Byte) : MemoryActs s (s.hubWrite a data) :=
  (MemoryActs.hubPass _ _ _ _).trans (MemoryActs.hubLay _ _ _)

theorem MemoryActs.hubRead (s : State) (a n : Nat) : MemoryActs s (s.hubRead a n).st :=
  (MemoryActs.hubPass _ _ _ _).trans ((MemoryActs.readAt _ _ _ _ _).trans (MemoryActs.settle _))

theorem MemoryActs.writeLocal (s : State) (ref : Nat → CellRef) (off : Nat) (data : List Byte) (pois : List Bool) :
    MemoryActs s (s.writeLocal ref off data pois) := by
  unfold State.writeLocal
  dsimp only
  split
  · exact MemoryActs.refl s
  · refine MemoryActs.foldl _ (fun s i => ?_) _ s
    exact MemoryActs.ite (MemoryActs.ite (MemoryActs.refl s) (MemoryActs.writeCell _ _ _ _ _))
      (MemoryActs.trans (MemoryActs.ite (MemoryActs.refl s) (MemoryActs.writeCell _ _ _ _ _)) (MemoryActs.writeCell _ _ _ _ _))

end Sys2Proof.Machine
end

