-- ==== Sys2Proof/Machine/Pins.lean ====
section
/-! DEFINITION. The output pins as views of the state (R414, R434, R446, R487, R489, R490, R493, R494): what each group of outputs does in the
state that the device is in. -/

namespace Sys2Proof.Machine

/-- What an output pin does: high impedance, a transmitter that is off or at electrical idle, driven by its unit, an open drain that the
device releases or pulls low. -/
inductive Pad where
  | highZ | off | electricalIdle | driven | released | low
  deriving DecidableEq, Repr

/-- An open-drain output of the device: low while its function asserts it, released while AON_RST_N is low (R490). -/
def State.openDrain (s : State) (asserted : Bool) : Pad := if asserted && !s.bup.aonLow then .low else .released

/-- FAULT_N (R24, R489).  DEDUCED, log entries 24 and 83. -/
def State.padFaultN (s : State) : Pad := s.openDrain s.faultN

/-- THERMTRIP_N (R434).  DEDUCED, log entries 24 and 83. -/
def State.padThermtripN (s : State) : Pad := s.openDrain s.thm.trip

/-- WAKE_N (R414, R415); only the device with BRIDGE_EN set drives it (R487).  DEDUCED, log entry 24. -/
def State.padWakeN (s : State) : Pad := s.openDrain s.wakeN

/-- SMB_ALERT_N (R446).  DEDUCED, log entry 83. -/
def State.padSmbAlertN (s : State) : Pad := s.openDrain s.alertN

/-- The transmitters of SerDes lane `n`, of port n div 4 (R320, R485, R490): off while AON_RST_N is low, at electrical idle until its port
leaves OFF; the lanes of the endpoint follow the endpoint's link instead. -/
def State.padSerdes (s : State) (n : Nat) : Pad :=
  if s.bup.aonLow then .off
  else if s.mainOff then .electricalIdle
  else if s.bridgeEn && decide (48 ≤ n) then (if s.hostUp then .driven else .electricalIdle)
  else if s.portState (n / 4) = 0 then .electricalIdle else .driven

/-- The outputs of flash channel `c` (R490): undriven until the retrieval die has been brought up, and whenever it is off. -/
def State.padFlash (s : State) (c : Nat) : Pad :=
  if s.bup.aonLow || s.mainOff || s.inStandby || decide (s.stageNow < 7) || s.dieFenced 9 then .highZ
  else if s.fget (.FLC_STAT (Fin.ofNat 32 c)) F.FLC_STAT_STATE = 0 then .highZ else .driven

/-- Whether WP_N of flash channel `c` is high, which lets its flash be written: only while the channel is in run (R490). -/
def State.flashWritable (s : State) (c : Nat) : Bool :=
  decide (s.padFlash c = .driven) && decide (s.fget (.FLC_STAT (Fin.ofNat 32 c)) F.FLC_STAT_STATE = 3)

/-- The pins of the boot SPI (R490, R501). -/
def State.padSpi (s : State) : Pad := if s.bup.aonLow then .highZ else .driven

/-- The package's own pins under the instruction in the test access port (R471, R473): HIGHZ holds every output at high impedance. -/
def State.padTested (s : State) (p : Pad) : Pad := if s.tap.ir = 5 then .highZ else p

end Sys2Proof.Machine
end

