-- ==== Sys2Proof/Tests/Slice0.lean ====
section
/-! SUPPORT. Tests: the examples of the spec, the well-formedness checks, and for each obligation states and operands that meet its
hypotheses, with what the command does there. -/

open Sys2Proof Sys2Proof.Machine

set_option Elab.async false

namespace Sys2Proof.Tests

/-- The state in which an outcome goes on (the empty one where it does not). -/
def after (o : Res State) : State := match o with
  | .next t => t
  | _ => default

/-- Whether an outcome is a next state. -/
def goesOn (o : Res State) : Bool := match o with
  | .next _ => true
  | _ => false

/-- The device after reset with some registers at other values. -/
def withRegs (l : List (Reg × Word)) : State := l.foldl (fun s x => s.rset x.1 x.2) State.reset

/-- A state with some bytes of memory, by cell. -/
def withBytes (k : Nat) (l : List Byte) (s : State) : State :=
  { s with mem := l.zipIdx.foldl (fun m x => m.setByte (k + x.2) x.1) s.mem }

/-- The device once its start is complete: STAGE 10, service level 4. -/
def live : State := (State.reset.fset .BUP_STAT F.BUP_STAT_STAGE 10).fset .BUP_STAT F.BUP_STAT_LEVEL 4

/-- Span 3, a leaf of state `st` over engine `e`. -/
def spanOf (st : SpanSt) (l : List Leaf) (s : State) : State :=
  { s with spans := [(3, { (default : SpanEnt) with st := st, members := l })] }


/-! ### The steps of a schedule -/

/-- A step in flight as the first of its task, with one work item that has run. -/
def run0 : StepRun := { ix := 0, iter := 0, items := 1, bound := 1, completed := 1, num := 0, tags := [], sync := 0 }

/-- A task of span 0 under ticket 0 whose next step is `pc`. -/
def taskAt (pc : Nat) : Task := { pc := pc, ticket := 0, span := 0, slots := none, acts := 0, used := [], decode := false }

/-- `s` with engine 0 running a task of span 0 whose step at index 0, of the bytes `l`, is in flight. -/
def running (l : List Byte) (s : State) : State :=
  let s := withBytes (scheduleKey 0) l s
  { s with
    engs := [(0, { (default : EngUnit) with
      contexts := 1, first := 0, nsteps := 2, entries := [0], task := some (taskAt 1), steps := [run0] })]
    spans := [(0, { (default : SpanEnt) with st := .running, members := [.engine 0] })] }

/-- Engine 0 with one task, whose step at index 0 has the opcode and bytes given and is in flight; span 0 runs it. -/
def inStep (opc : Nat) (l : List (Nat × Byte)) : State :=
  running ((List.range 64).map (fun i => if i = 0 then byteOf opc else ((l.find? (fun x => x.1 = i)).map (·.2)).getD 0)) State.reset

/-- The buffer reference of byte `o` of engine 0's local store, in format `fmt`. -/
def ownRef (o fmt : Nat) : Nat := storeAddr 0 o + fmt * 2 ^ 48

/-- A step of operation `opc` with FLAGS, dimensions, the references OPA, OPB, OUT and AUX, and PARAM. -/
def stepBytes (opc flags m k n opa opb out aux param : Nat) : List Byte :=
  toBytes 2 opc ++ toBytes 2 flags ++ toBytes 8 1 ++ toBytes 4 m ++ toBytes 4 k ++ toBytes 4 n ++ toBytes 8 opa ++ toBytes 8 opb ++
    toBytes 8 out ++ toBytes 8 aux ++ toBytes 8 param

/-- Whether `Readable` holds. -/
def readableB (s : State) (a n : Nat) : Bool := (blocksOf a n).all (fun b => match s.readBlock false false b with
  | some x => decide (crc32c (wordsToBytes x.2.1) = x.2.2.2)
  | none => false)

theorem readable_of {s : State} {a n : Nat} (h : readableB s a n = true) : Readable s a n := by
  intro b hb
  have h1 := List.all_eq_true.mp h b hb
  revert h1
  cases s.readBlock false false b with
  | none => intro h1; exact absurd h1 (by decide)
  | some x => intro h1; exact ⟨x, rfl, of_decide_eq_true h1⟩

/-- Whether `Writable` holds. -/
def writableB (s : State) (e a n : Nat) : Bool := readableB s a n && (blocksOf a n).all (fun b => match rangeOf b with
  | .store t _ => decide (t = e)
  | _ => true)

theorem writable_of {s : State} {e a n : Nat} (h : writableB s e a n = true) : Writable s e a n := by
  have h1 := (Bool.and_eq_true _ _ ▸ h : _ ∧ _)
  refine ⟨readable_of h1.1, ?_⟩
  intro b hb t o ht
  have h2 := List.all_eq_true.mp h1.2 b hb
  rw [ht] at h2
  exact of_decide_eq_true h2

/-- Whether the page table of an ATTN_PAGED step leads to cached tokens that can be read. -/
def cachedB (s : State) (r : StepRun) (task : Task) (t : Step) : Bool :=
  let h := attnShape t
  let x := t.aux.at r.iter
  let num (a : Nat) : Nat := ofBytes (s.readAt false 0 a 8).bytes
  !h.append && (List.range t.m).all (fun m => match slotOfRow t task m with
    | none => true
    | some k => readableB s (ptEntry h x k 0) 8 && (List.range (num (ptEntry h x k 0) % 2 ^ 32)).all (fun pos =>
        let a := ptEntry h x k (pos / h.t + 1)
        readableB s a 8 && decide (num a % 2 = 1) && readableB s (bits (num a) 16 32 * 65536 + pos % h.t * (2 * h.half)) (2 * h.half)))

/-- Whether the results of a step can be written. -/
def outB (s : State) (e : Nat) (r : StepRun) (t : Step) (n : Nat) : Bool :=
  let x := s.image.routes.at (t.out.addr % 4096)
  if t.opc = 0x19 then
    decide (t.out.mode = 2) && x.valid && decide (x.get 0 12 4 ≤ 1) && decide (x.engines = [e]) &&
      decide (t.out.advance r.iter + n ≤ (nth x.words 3).toNat) && writableB s e (storeAddr e (s.outAt r.iter t.out)) n
  else decide (t.out.mode ≠ 2) && writableB s e (t.out.at r.iter) n

/-- Whether `StepReady` holds. -/
def readyB (s : State) (e i : Nat) (r : StepRun) (task : Task) (t : Step) : Bool :=
  let b := t.operandBytes r.iter (s.outAt r.iter t.out)
  stepFmts t && !(s.engs.at e).edgeWait && readableB s (t.opa.at r.iter) b.1 && readableB s (t.opb.at r.iter) b.2.1 &&
    readableB s (t.aux.at r.iter) b.2.2.2 && outB s e r t b.2.2.1 &&
    (!t.acc || decide (t.opc ≠ 0x01) || readableB s (t.out.at r.iter) (4 * (t.m * t.n))) && (decide (t.opc ≠ 0x10) || cachedB s r task t) &&
    (decide (t.opc ≠ 0x28) || (chunks 4 (s.readAt false 0 (t.opb.at r.iter) (4 * t.m)).bytes).all (fun x => decide (ofBytes x < t.n))) &&
    (decide (t.opc ≠ 0x42) || s.tokensThere e i)

theorem ready_of {s : State} {e i : Nat} {r : StepRun} {task : Task} {t : Step} (h : readyB s e i r task t = true) :
    StepReady s e i r task t := by
  simp only [readyB, Bool.and_eq_true, Bool.not_eq_true', decide_eq_true_eq, Bool.or_eq_true] at h
  obtain ⟨⟨⟨⟨⟨⟨⟨⟨⟨h1, h2⟩, h3⟩, h4⟩, h5⟩, h6⟩, h7⟩, h8⟩, h9⟩, h10⟩ := h
  refine ⟨h1, h2, readable_of h3, readable_of h4, readable_of h5, ?_, ?_, ?_, ?_, ?_⟩
  · unfold outB at h6
    by_cases ho : t.opc = 0x19
    · rw [if_pos ho] at h6 ⊢
      simp only [Bool.and_eq_true, decide_eq_true_eq] at h6
      exact ⟨h6.1.1.1.1.1, h6.1.1.1.1.2, h6.1.1.1.2, h6.1.1.2, h6.1.2, writable_of h6.2⟩
    · rw [if_neg ho] at h6 ⊢
      simp only [Bool.and_eq_true, decide_eq_true_eq] at h6
      exact ⟨h6.1, writable_of h6.2⟩
  · intro ho ha
    rcases h7 with (h7 | h7) | h7
    · rw [ha] at h7; exact absurd h7 (by decide)
    · exact absurd ho h7
    · exact readable_of h7
  · intro ho
    rcases h8 with h8 | h8
    · exact absurd ho h8
    · simp only [cachedB, Bool.and_eq_true, Bool.not_eq_true'] at h8
      refine ⟨h8.1, ?_⟩
      intro m hm k hk
      have h := List.all_eq_true.mp h8.2 m (List.mem_range.mpr hm)
      rw [hk] at h
      simp only [Bool.and_eq_true] at h
      refine ⟨readable_of h.1, ?_⟩
      intro pos hp
      have h := List.all_eq_true.mp h.2 pos (List.mem_range.mpr hp)
      simp only [Bool.and_eq_true, decide_eq_true_eq] at h
      exact ⟨readable_of h.1.1, h.1.2, readable_of h.2⟩
  · intro ho x hx
    rcases h9 with h9 | h9
    · exact absurd ho h9
    · exact of_decide_eq_true (List.all_eq_true.mp h9 x hx)
  · intro ho
    rcases h10 with h10 | h10
    · exact absurd ho h10
    · exact h10

theorem at_empty {α : Type} [Inhabited α] {t : Tab α} (h : t = []) (k : Nat) : Tab.at t k = default := by rw [h]; rfl

/-- A state in which no bundle has a history or retrains, and no source a hold mask, keeps nobody waiting. -/
theorem pathsFree_of {s : State} (h1 : s.cwy = []) (h2 : s.tkt.hold = [])
    (h7 : (List.finRange 78).all (fun p => s.fget (.CWY_STAT p) F.CWY_STAT_STATE ≠ 3) = true) : PathsFree s := by
  refine ⟨?_, ?_⟩
  · intro p dir
    have h8 := List.all_eq_true.mp h7 (bundleNo p) (List.mem_finRange _)
    unfold State.bundleWaits State.bundleState State.dirOf
    rw [at_empty h1]
    have h9 := of_decide_eq_true h8
    simp only [h9, decide_false, Bool.false_or]
    rfl
  · intro q r t
    unfold State.heldBit State.sourceHold
    rw [h2]
    simp [bitAt]

/-- A state whose memory has no syndromes, no instance with a history, and no path that is held is undisturbed. -/
theorem undisturbed_of {s : State} (h1 : s.cwy = []) (h2 : s.tkt.hold = []) (h3 : s.mem.syn = []) (h4 : s.mem.insts = [])
    (h5 : s.fget .MEM_FLIP_CTL F.MEM_FLIP_CTL_ARM = 0) (h6 : s.place.frames = [])
    (h7 : (List.finRange 78).all (fun p => s.fget (.CWY_STAT p) F.CWY_STAT_STATE ≠ 3) = true) : Undisturbed s :=
  ⟨pathsFree_of h1 h2 h7, fun k => at_empty h3 k, fun i => by rw [at_empty h4]; rfl, h5, h6⟩

/-- Engine 0 in a step meets what `StepsCompleteWhenReady` asks for. -/
def ReadyFor (opc : Nat) (s : State) : Prop :=
  ∃ s1 t, InFlight s 0 0 opc run0 (taskAt 1) s1 t ∧ Undisturbed s ∧ StepReady s 0 0 run0 (taskAt 1) t

/-- What the proof of `ReadyFor` evaluates. -/
def readyForB (opc : Nat) (s : State) : Bool :=
  decide ((s.engs.at 0).steps.find? (fun r => r.ix = 0 && r.tags.isEmpty) = some run0 ∧ (s.engs.at 0).task = some (taskAt 1)) &&
    (match (s.fetchStep 0 0).2 with
      | some t => decide (t.opc = opc) && readyB s 0 0 run0 (taskAt 1) t
      | none => false) &&
    decide (s.cwy = [] ∧ s.tkt.hold = [] ∧ s.mem.syn = [] ∧ s.mem.insts = [] ∧ s.fget .MEM_FLIP_CTL F.MEM_FLIP_CTL_ARM = 0 ∧
      s.place.frames = []) && (List.finRange 78).all (fun p => s.fget (.CWY_STAT p) F.CWY_STAT_STATE ≠ 3)

theorem readyFor_of {opc : Nat} {s : State} (h : readyForB opc s = true) : ReadyFor opc s := by
  simp only [readyForB, Bool.and_eq_true, decide_eq_true_eq] at h
  obtain ⟨⟨⟨h1, h2⟩, h4⟩, h5⟩ := h
  revert h2
  cases ht : (s.fetchStep 0 0).2 with
  | none => intro h2; cases h2
  | some t =>
    intro h2
    simp only [Bool.and_eq_true, decide_eq_true_eq] at h2
    exact ⟨(s.fetchStep 0 0).1, t, ⟨h1.1, h1.2, by rw [← ht], h2.1⟩,
      undisturbed_of h4.1 h4.2.1 h4.2.2.1 h4.2.2.2.1 h4.2.2.2.2.1 h4.2.2.2.2.2 h5, ready_of h2.2⟩

/-- It does, and the step completes. -/
def CompletesReady (c : Instr) (opc : Nat) (s : State) : Prop := ReadyFor opc s ∧ ((after (exec c s)).engs.at 0).steps = []

theorem completes_of {c : Instr} {opc : Nat} {s : State} (h : readyForB opc s = true ∧ ((after (exec c s)).engs.at 0).steps = []) :
    CompletesReady c opc s := ⟨readyFor_of h.1, h.2⟩

/-- `s` with the bytes `l` written at address `a`. -/
def wrote (a : Nat) (l : List Byte) (s : State) : State := (s.writeAt true a l (l.map (fun _ => false)) []).st

/-- A step of engine 0 with operands in its own local store, OPA at byte 0, OPB at 256, OUT at 512 and AUX at 1024. -/
def ownStep (opc flags m k n fa fb fo fx param : Nat) : State :=
  running (stepBytes opc flags m k n (if fa = 99 then 0 else ownRef 0 fa) (ownRef 256 fb) (ownRef 512 fo)
    (if fx = 99 then 0 else ownRef 1024 fx) param) live

theorem witness_StepsCompleteWhenReady_nop : CompletesReady (.nop 0 0) 0x00 (running (stepBytes 0 0 0 0 0 0 0 0 0 0) live) :=
  completes_of (by decide +kernel)

theorem witness_StepsCompleteWhenReady_sync : CompletesReady (.sync 0 0) 0x50 (running (stepBytes 0x50 0 0 0 0 0 0 0 0 0) live) :=
  completes_of (by decide +kernel)

theorem witness_StepsCompleteWhenReady_matmul : CompletesReady (.matmul 0 0 none) 0x01 (ownStep 0x01 0 1 1 1 1 1 1 99 0) :=
  completes_of (by decide +kernel)

theorem witness_StepsCompleteWhenReady_moe_gate : CompletesReady (.moeGate 0 (0, none)) 0x18 (ownStep 0x18 0 1 1 0 1 1 0 99 (1 + 2 ^ 12)) :=
  completes_of (by decide +kernel)

theorem witness_StepsCompleteWhenReady_moe_gather : CompletesReady (.moeGather 0 0 []) 0x1a (ownStep 0x1a 0 1 1 1 99 1 1 0 0) :=
  completes_of (by decide +kernel)

theorem witness_StepsCompleteWhenReady_norm_rms : CompletesReady (.normRms 0 0) 0x20 (ownStep 0x20 0 1 2 0 1 1 1 99 0) :=
  completes_of (by decide +kernel)

theorem witness_StepsCompleteWhenReady_norm_layer : CompletesReady (.normLayer 0 0) 0x21 (ownStep 0x21 0 1 2 0 1 1 1 1 0) :=
  completes_of (by decide +kernel)

theorem witness_StepsCompleteWhenReady_embed_gather : CompletesReady (.embedGather 0 0) 0x28 (ownStep 0x28 0 2 1 3 1 0xF 1 99 0) :=
  completes_of (by decide +kernel)

theorem witness_StepsCompleteWhenReady_vec : CompletesReady (.vec 0 0) 0x30 (ownStep 0x30 0 1 2 0 1 1 1 99 0) :=
  completes_of (by decide +kernel)

theorem witness_StepsCompleteWhenReady_sfu : CompletesReady (.sfu 0 0) 0x31 (ownStep 0x31 0 1 2 0 99 1 1 99 0) :=
  completes_of (by decide +kernel)

theorem witness_StepsCompleteWhenReady_reduce : CompletesReady (.reduce 0 0) 0x32 (ownStep 0x32 0 1 3 0 99 1 1 99 0) :=
  completes_of (by decide +kernel)

theorem witness_StepsCompleteWhenReady_transpose : CompletesReady (.transpose 0 0) 0x33 (ownStep 0x33 0 2 3 0 99 1 1 99 0) :=
  completes_of (by decide +kernel)

theorem witness_StepsCompleteWhenReady_rerank_score : CompletesReady (.rerankScore 0 0) 0x38 (ownStep 0x38 0 1 2 0 0x10 0x10 0 0 0) :=
  completes_of (by decide +kernel)

theorem witness_StepsCompleteWhenReady_topk : CompletesReady (.topk 0 0) 0x39 (ownStep 0x39 0 2 0 0 99 0 0 99 1) :=
  completes_of (by decide +kernel)

theorem witness_StepsCompleteWhenReady_send : CompletesReady (.send 0 0) 0x40 (ownStep 0x40 0 0 0 0 99 0 0 99 5) :=
  completes_of (by decide +kernel)

theorem witness_StepsCompleteWhenReady_logits_out : CompletesReady (.logitsOut 0 0) 0x41 (ownStep 0x41 0 1 1 1 99 1 1 99 0) :=
  completes_of (by decide +kernel)

theorem witness_StepsCompleteWhenReady_token_in : CompletesReady (.tokenIn 0 0) 0x42 (ownStep 0x42 0 1 0 0 99 0 0xF 99 0) :=
  completes_of (by decide +kernel)

/-- One row of attention over one cached token, in the page at the start of engine 0's own store. -/
def attending : State :=
  running (stepBytes 0x10 256 1 0 0 (1 * 2 ^ 48) (ownRef 256 1) (ownRef 512 1) (ownRef 1024 0) (1 + 2 ^ 8 + 2 ^ 16 + 2 ^ 32))
    (wrote (storeAddr 0 1024) (toBytes 8 1 ++ toBytes 8 (storeAddr 0 0 + 1)) live)

theorem witness_StepsCompleteWhenReady_attn_paged : ReadyFor 0x10 attending := readyFor_of (by decide +kernel)

/-- One row dispatched by route 5, a unicast to engine 0 itself. -/
def dispatching : State :=
  let s := running (stepBytes 0x19 0 1 2 1 0 (ownRef 256 1) (5 + 2 * 2 ^ 53) (ownRef 1024 0) 0) live
  { s with image := { s.image with routes := [(5, { (default : RouteEnt) with valid := true, words := [0, 0, 512, 64, 1, 0, 0, 0] })] } }

theorem witness_StepsCompleteWhenReady_moe_dispatch : ReadyFor 0x19 dispatching := readyFor_of (by decide +kernel)

theorem witness_StepsThatRunComplete :
    let s := inStep 0x00 []
    (s.engs.at 0).steps.find? (fun r => r.ix = 0 && r.tags.isEmpty) = some run0 ∧ (s.engs.at 0).task.isSome = true ∧
    (s.fetchStep 0 0).2.map (·.opc) = some 0 ∧ (s.engs.at 0).steps ≠ [] ∧
    ((after (exec (.nop 0 0) s)).engs.at 0).steps = [] := by decide +kernel

theorem witness_ScheduleStepFaults :
    let s := inStep 0x20 [(12, 1), (16, 32), (37, 0x0E)]
    let p := { s with mem := s.mem.setSyn (scheduleKey 0) wordPoison }
    (p.fetchStep 0 0).2 = none ∧ ((after (exec (.normRms 0 0) p)).rget (.ENG_FAULT 0 0)).toNat % 256 = 1 ∧
    (s.fetchStep 0 0).2.map (·.opc) = some 0x20 ∧ (s.engs.at 0).task.isSome = true ∧
    ((after (exec (.normRms 0 0) s)).rget (.ENG_FAULT 0 0)).toNat % 256 = 6 := by decide +kernel

theorem witness_ParityErrorsFault :
    let s := ownStep 0x01 0 1 1 1 1 1 1 99 0
    (s.fetchStep 0 0).2.map (fun t => tileCount t t.n) = some 1 ∧
    ((after (exec (.matmul 0 0 (some 0)) s)).rget (.ENG_FAULT 0 0)).toNat % 256 = 3 ∧
    ((after (exec (.matmul 0 0 (some 1)) s)).engs.at 0).steps = [] := by decide +kernel

/-- A step that sends 4 bytes of the shared buffer under ticket 3, which the engine holds there, while a bundle of its die retrains. -/
def sending : State :=
  let s := running (stepBytes 0x40 0 0 0 0 0 (sbfAddr 0) (ownRef 512 0) 0 4) live
  { s with engs := s.engs.upd 0 (fun u => { u with task := some { taskAt 1 with ticket := 3 } }) }

theorem witness_StepsWaitWhole :
    let h := { sending with tkt := { sending.tkt with hold := [((.engine 0, 8), 8)] } }
    let b := (List.finRange 8).foldl (fun (s : State) p => s.fset (.CWY_STAT (Fin.castLE (by decide) p)) F.CWY_STAT_STATE 3) sending
    h.heldBit (.engine 0) 8 3 = true ∧ (after (exec (.send 0 0) h)).tkt.waits = [(.engine 0, 8, 3)] ∧
    ((after (exec (.send 0 0) h)).engs.at 0).steps = [run0] ∧ b.bundleWaits 0 1 = true ∧
    ((after (exec (.send 0 0) b)).engs.at 0).steps = [run0] ∧ (after (exec (.send 0 0) sending)).mem.data ≠ [] := by decide +kernel

theorem witness_TokenInAndEndOfTask :
    let w := ownStep 0x42 256 1 0 0 99 0 0xF 99 0
    let w1 := { w with gen := { w.gen with slots := [(0, { (default : SlotUnit) with port := some 7 })] } }
    let w2 := w1.rset (.GEN_SEQ 0) 1
    (w.rset (.GEN_SEQ 0) 1).tokensThere 0 0 = false ∧ w2.tokensThere 0 0 = true ∧
    ((after (exec (.tokenIn 0 0) w2)).engs.at 0).steps = [] ∧
    (let s := inStep 0x5F []
     let v := s.runStep 0 0 0x5F nopBody
     (s.engs.at 0).steps = [run0] ∧ (s.engs.at 0).dbq = [] ∧ v.ownEntry (.engine 0) = some 0 ∧
     (v.rings.at (v.spans.at 0).owner).ents.length < 256 ∧
     ((after (exec (.endTask 0 0) s)).rings.at 0).ents = [4096]) := by decide +kernel

/-! ### The control of engines -/

theorem witness_EngineControlCompletes_start :
    let s := { inStep 0x00 [(64, 0), (5, 0)] with engs := [(0, { (default : EngUnit) with
      contexts := 1, first := 0, nsteps := 2, entries := [0], task := some (taskAt 0) })] }
    (s.fetchStep 0 0).2.isSome = true ∧ (s.engs.at 0).steps = [] ∧ s.syncState 0 0 = .go ∧
    ((after (exec (.stepStart 0) s)).engs.at 0).steps.map (·.ix) = [0] := by decide +kernel

/-- A step that waits at synchronisation point 0 of its span, which has, or has not, been released with abort. -/
def waitsAt (aborted : List Nat) (rel : Tab Nat) : State :=
  let s := inStep 0x00 [(5, 1)]
  { s with
    engs := [(0, { (s.engs.at 0) with task := some (taskAt 0), steps := [] })]
    spans := [(0, { (default : SpanEnt) with
      st := .running, members := [.engine 0], syncs := [(1, 3), (0, 3)], aborted := aborted, rel := rel })] }

theorem witness_EngineControlCompletes_sync :
    (waitsAt [] []).syncState 0 1 = .wait ∧ after (exec (.stepStart 0) (waitsAt [] [])) = waitsAt [] [] ∧
    (waitsAt [1] [(1, 1)]).syncState 0 1 = .fault ∧
    ((after (exec (.stepStart 0) (waitsAt [1] [(1, 1)]))).rget (.ENG_FAULT 0 0)).toNat % 256 = 8 ∧
    bitAt ((waitsAt [] []).syncMask 0 1) 0 = true ∧ bitAt ((waitsAt [] []).syncMask 0 1) 1 = true ∧
    ((after (exec (.syncSignal 0 1 (.engine 0)) (waitsAt [] []))).spans.at 0).sig.at 1 = 1 ∧
    ((after (exec (.syncSignal 0 1 (.engine 1)) (after (exec (.syncSignal 0 1 (.engine 0)) (waitsAt [] []))))).spans.at 0).rel.at 1 = 1 :=
  by decide +kernel

theorem witness_EngineControlCompletes_gangs :
    let s := { State.reset with engs := [(0, { (default : EngUnit) with gangs := [(5, ⟨.waitMem, 0, 0, 2⟩), (6, ⟨.issuing, 0, 0, 0⟩)] })] }
    ((s.engs.at 0).gangs.at 5).st = .waitMem ∧ ((s.engs.at 0).gangs.at 6).st = .issuing ∧ (s.engs.at 0).outstanding + 8 ≤ 2048 ∧
    (∀ h ∈ (s.engs.at 0).gangs, h.2.st ≠ .bound) ∧ (s.engs.at 0).steps = [] ∧
    ((after (exec (.gangDataReturn 0 5) s)).engs.at 0).gangs.at 5 = ⟨.ready, 0, 0, 0⟩ ∧
    ((after (exec (.engineIssueCycle 0 [(6, 8)] []) s)).engs.at 0).gangs.at 6 = ⟨.waitMem, 0, 0, 8⟩ := by decide +kernel

theorem witness_EngineControlCompletes_reads :
    let u : EngUnit := { (default : EngUnit) with
      task := some (taskAt 0)
      steps := [{ run0 with items := 2, bound := 2, completed := 0, num := 7 }]
      gangs := [(6, ⟨.issuing, 7, 0, 16⟩)] }
    let s := { State.reset with engs := [(0, u)] }
    ((after (exec (.gangDataReturn 0 6) s)).engs.at 0).gangs.at 6 = ⟨.issuing, 7, 0, 15⟩ ∧
    ((after (exec (.engineIssueCycle 0 [] [6]) s)).engs.at 0).steps.map (fun q => (q.num, q.completed)) = [(7, 1)] := by
  decide +kernel

theorem witness_EngineControlCompletes_ending :
    let s := inStep 0x5F []
    let s := { s with engs := s.engs.upd 0 (fun u => { u with steps := [{ run0 with items := 0, bound := 0, completed := 0 }] }) }
    s.ending 0 = true ∧ (s.fetchStep 0 1).2.isSome = true ∧ after (exec (.stepStart 0) s) = s := by decide +kernel

/-- A group span of engines 0 and 1 here and one engine of device 5, with synchronisation point 1. -/
def groupPoint (sig sigDev : Tab Nat) : State :=
  { State.reset with spans := [(0, { (default : SpanEnt) with
      st := .running, members := [.engine 0, .engine 1], remote := [(5, .engine 2)], group := true, syncs := [(1, 3)], sig := sig,
      sigDev := sigDev })] }

theorem witness_EngineControlCompletes_group :
    let s := groupPoint [(1, 2)] []
    let d := groupPoint [(1, 3)] []
    bitAt (s.syncMask 0 1) 0 = true ∧ s.groupDevs 0 = [5] ∧
    ((after (exec (.syncSignal 0 1 (.engine 0)) s)).grp.entries.map (fun x => (x.dst, x.kind, x.words.tail))) = [(5, 1, [1])] ∧
    bitAt (d.syncDevs 0) 5 = true ∧
    ((after (exec (.syncSignal 0 1 (.device 5)) d)).spans.at 0).rel.at 1 = 1 := by decide +kernel

/-- A matrix step of engine 0 that decodes with codebook 0. -/
def decoding : State := inStep 0x01 [(30, 0x0D)]

theorem witness_CodebookWritesComplete :
    let s := State.reset
    let h : HeldCb := ⟨1, 16, [7, 8], [false, false]⟩
    decoding.decodesWith 0 0 = true ∧
    ((after (exec (.codebookWrite 0 0 0 [7] [false]) decoding)).engs.at 0).held = [⟨0, 0, [7], [false]⟩] ∧
    s.decodesWith 0 1 = false ∧ (s.engs.at 0).held = [] ∧ (s.mem.insts.at (2 * 128 + s.siteOf 0)).patch = [] ∧
    bitAt (s.fget .MEM_FLIP_CTL F.MEM_FLIP_CTL_ARM) 2 = false ∧
    (after (exec (.codebookWrite 0 1 16 [7, 8] [false, false]) s)).mem.data = [(codebookKey 0 + 524288 + 16, 7), (codebookKey 0 + 524288 + 17, 8)] ∧
    (after (exec (.codebookWrite 0 1 524287 [7, 8] [false, false]) s)).resp = .error ∧
    (after (exec (.heldCodebookWrite 0) { s with engs := [(0, { (default : EngUnit) with held := [h] })] })).mem.data.length = 2 := by
  decide +kernel

/-! ### Sequence slots and tokens -/

/-- A sampling entry of the table's bounds (R92): TEMP 0, TOPP 1, MINP 0, REPEAT 1, no grammar. -/
def entry0 : List Word := [0, 0x3F800000, 0, 0x3F800000, 0, 0xFFFF, 0, 0]

theorem witness_SequenceSlotsComplete :
    let s := State.reset
    let a := after (exec (.seqActivate 63) s)
    s.slotActive 63 = false ∧ a.slotActive 63 = true ∧ (after (exec (.seqDeactivate 63) a)).slotActive 63 = false ∧
    ((after (exec (.sampStageWrite 0 7 9) s)).slot 0).staged = [0, 0, 0, 0, 0, 0, 0, 9] ∧
    (let g := F.GEN_SAMP_GO_GO.put 0 1
     let e := { s with gen := { s.gen with slots := [(0, { (default : SlotUnit) with staged := entry0 })] } }
     F.GEN_SAMP_GO_GO.get g ≠ 0 ∧ F.GEN_SAMP_GO_SLOT.get g = 0 ∧ entryOk s.gramDefined (s.slot 0).staged = false ∧
     (after (exec (.sampGo g) s)).bget .GEN_STATUS F.GEN_STATUS_BADSAMP = true ∧ entryOk e.gramDefined (e.slot 0).staged = true ∧
     ((after (exec (.sampGo g) e)).slot 0).waiting = some entry0) ∧
    ((after (exec (.histAppend 5 0xFFFFFFFF) s)).slot 5).hist = [0x3FFFF] := by decide +kernel

/-- Slot 0 with two records in its output ring, one of them not yet counted, and a third that the ring of two is full for. -/
def ringFull : State :=
  let s := withRegs [(.GEN_ORING_WR 0, 1)]
  { s with
    gen := { s.gen with slots := [(0, { (default : SlotUnit) with written := 1, heldRec := some (0x123, 7) })] }
    image := { s.image with ring := some 0, parts := [(0, ⟨true, 1, 0, 0, 0x030000000000, 1024, 0⟩)] } }

theorem witness_SequenceSlotsComplete_ring :
    (ringFull.slot 0).written ≠ 0 ∧ ringFull.oring 0 = some (0x030000000000, 2) ∧ (ringFull.slot 0).heldRec = some (0x123, 7) ∧
    (ringFull.rset (.GEN_ORING_RD 0) 1).oringUsed 0 = 1 ∧ ((after (exec (.oringReadAdvance 0 1) ringFull)).slot 0).port = some 7 ∧
    ((after (exec (.oringAdvance 0) ringFull)).slot 0).written = 0 ∧
    (after (exec (.oringReadAdvance 0 2) ringFull)).rget (.GEN_ORING_RD 0) = 0 ∧
    (after (exec .samplerReseed { State.reset with gen := { (default : GenUnit) with draws := 2 ^ 20 } })).gen.seeds = 1 := by
  decide +kernel

/-- Slot 0 of a vocabulary of two tokens, whose logits 0 and 1.0 have arrived; TEMP 0 takes the highest. -/
def twoTokens (g : Option Nat) (mask : Option (List Nat)) : State :=
  let s := ((withRegs [(.GEN_SEQ 0, 1)]).fset .GEN_VOCAB F.GEN_VOCAB_VOCAB 2).fset .GEN_CTL F.GEN_CTL_SAMP_EN 1
  { s with gen := { s.gen with slots := [(0, { (default : SlotUnit) with
      entry := entry0, logits := [(0, some 0), (1, some 0x3F800000)], gram := g, mask := mask })] } }

theorem witness_TokensAreChosenAmongTheAllowed :
    (twoTokens none none).tokenReady 0 = true ∧ goesOn (exec (.tokenChoose 0) (twoTokens none none)) = true ∧
    (twoTokens (some 0) (some [0])).tokenReady 0 = true ∧
    goesOn (exec (.tokenChoose 0) (twoTokens (some 0) (some [0]))) = true ∧
    (twoTokens (some 0) none).tokenReady 0 = false := by decide +kernel

/-! ### Compute dies -/

theorem witness_SitesAreWatchedAndFenced :
    (List.range 4).map live.siteState = [0, 0, 0, 1] ∧ live.dieRuns 0 = true ∧ State.reset.dieRuns 0 = false ∧ live.logRoom true = true ∧
    live.engineAt 0 = some 0 ∧ live.siteOf 0 = 0 ∧ (after (exec (.engFence 0 1 true) live)).siteState 0 = 2 ∧
    (after (exec (.powerGateFault 3 true) live)).siteState 3 = 4 ∧
    (let a := after (exec (.heartbeatCheck 0 (1, false) true) live)
     (a.sites.at 0).missed = 1 ∧ a.fget (.CDI_HB_MISS 0) F.CDI_HB_MISS_MISS = 1 ∧
     (after (exec (.heartbeatCheck 0 (1, false) true) (a.bset (.CDI_CTL 0) F.CDI_CTL_HB_EN true))).siteState 0 = 2 ∧
     ((after (exec (.heartbeatCheck 0 (0, false) true) a)).sites.at 0).missed = 0) ∧
    (after (exec (.heartbeatCheck 0 (0, true) true) live)).dieFenced 1 = true := by decide +kernel

/-- ROW_SUBST of row 2 of die 3, after the fence of site 41 (R112's example). -/
def substituting : State :=
  after (exec (.rowSubst 2 ((F.CDI_ROW_SUBST_ROW.put 0 2) ||| F.CDI_ROW_SUBST_GO.put 0 1) false) (after (exec (.engFence 41 1 true) live)))

theorem test_example_of_row_substitution :
    live.rget (.CDI_MAP 2 2) = 0x00020064 ∧ (after (exec (.engFence 41 1 true) live)).rget (.CDI_MAP 2 2) = 0x00021064 ∧
    substituting.rget (.CDI_MAP 2 2) = 0x000A1024 ∧
    (after (exec (.substPortBind 2 2 true) substituting)).rget (.CDI_MAP 2 2) = 0x0000182C ∧
    (after (exec (.substPortBind 2 2 true) substituting)).siteOf 31 = 43 := by decide +kernel

theorem witness_RowSubstitution :
    let v := F.CDI_ROW_SUBST_GO.put 0 1
    F.CDI_ROW_SUBST_GO.get v = 1 ∧ F.CDI_ROW_SUBST_ROW.get v = 0 ∧ live.subst.at 0 = none ∧ live.failedSlot 0 0 = none ∧
    (after (exec (.rowSubst 0 v true) live)).fget (.CDI_SUBST_STAT 0) ⟨0, 4⟩ = 3 ∧
    (after (exec (.rowSubst 0 v false) live)).fget (.CDI_SUBST_STAT 0) ⟨0, 4⟩ = 4 ∧
    (let s := live.rset (.CDI_MAP 0 0) 0x00001064
     s.failedSlot 0 0 = some 1 ∧ mapSpare (s.rget (mapReg 0 0)) = none ∧
     (after (exec (.rowSubst 0 v false) s)).fget (.CDI_SUBST_STAT 0) ⟨0, 4⟩ = 5) ∧
    substituting.subst.at 10 = some 1 ∧
    (List.range 4).find? (fun c => mapState (substituting.rget (mapReg 2 2)) c = 5) = some 3 ∧ substituting.siteOf 31 % 4 ≠ 3 ∧
    (after (exec (.substPortBind 2 2 false) substituting)).fget (.CDI_SUBST_STAT 2) ⟨8, 4⟩ = 7 := by decide +kernel

theorem witness_DieFabricCompletes :
    let v := F.CDI_CTL_EDGE_SEL.put 0 1
    let w := after (exec (.edgeSelWrite 0 v) live)
    live.fget (.CDI_CTL 0) F.CDI_CTL_EDGE_SEL ≠ F.CDI_CTL_EDGE_SEL.get v ∧ (w.engs.at 11).edgeWait = true ∧
    ((after (exec (.edgeSelApply 11) w)).engs.at 11).edge = true ∧
    State.reset.absent 0 = true ∧ (after (exec (.mcastDeliver 0 1 0 [1] [false] 0) State.reset)).fget (.CDI_MCAST_SKIP 0) F.CDI_MCAST_SKIP_SKIP = 1 ∧
    live.absent 0 = false ∧ (after (exec (.mcastDeliver 0 1 0 [1] [false] 0) live)).mem.data = [(localKey 0, 1)] ∧
    (after (exec (.seamStallAlert 0 65537) live)).rget (.CDI_SEAM_STALL 0) = 65537 := by decide +kernel

theorem witness_DieFabricCompletes_multicast :
    let w := (List.finRange 8).foldl (fun (s : State) p => s.fset (.CWY_STAT (Fin.castLE (by decide) p)) F.CWY_STAT_STATE 3) live
    after (exec (.mcastDeliver 0 1 0 [1] [false] 0) w) = w ∧
    (∀ p ∈ bundlesOf 1, live.bundleState p ≠ 3 ∧ (live.dirOf p 0).asked = [] ∧ (live.dirOf p 0).writes = []) ∧
    (after (exec (.mcastDeliver 0 0x803 0 [1] [false] 2) live)).fget (.CDI_MCAST_SKIP 0) F.CDI_MCAST_SKIP_SKIP = 1 ∧
    readableB live (storeAddr 11 5) 2 = true ∧ live.ctxGuard .hub (storeAddr 11 5) 2 = false ∧
    rangeOf (storeAddr 11 5) = .store 11 5 ∧
    (after (exec (.mcastDeliver 0 2048 5 [8, 9] [false, false] 0) live)).mem.data =
      [((live.localCell (live.siteOf 11) 5).key, 8), ((live.localCell (live.siteOf 11) 5).key + 1, 9)] := by decide +kernel

theorem witness_DieFabricCompletes_undisturbed : Undisturbed live :=
  undisturbed_of rfl rfl rfl rfl (by decide +kernel) rfl (by decide +kernel)

/-- Engines 0 and 1 with a task; engine 0's gang waits at the barrier. -/
def atBarrier : State := { live with
  engs := [(0, { (default : EngUnit) with task := some (taskAt 0), gangs := [(0, ⟨.waitSync, 0, 0, 0⟩)] }),
    (1, { (default : EngUnit) with task := some (taskAt 0) })] }

theorem witness_DieFabricCompletes_barrier :
    atBarrier.barrierMembers = 3 ∧
    (let a := after (exec (.barrierArrive 0) atBarrier)
     a.barrier = ⟨1, 0⟩ ∧ (1 ||| a.barrier.arrived) &&& a.barrierMembers ≠ a.barrierMembers ∧
     (after (exec (.barrierArrive 1) a)).barrier = ⟨0, 3⟩ ∧
     (((after (exec (.barrierRelease 0) (after (exec (.barrierArrive 1) a)))).engs.at 0).gangs.at 0).st = .ready) := by decide +kernel

/-! ### Spans -/

/-- A live device with span 3 over engine 7, whose entry points are 0 and 5, the second none. -/
def spanLive (st : SpanSt) (task : Option Task) : State :=
  { spanOf st [.engine 7] live with
    engs := [(7, { (default : EngUnit) with contexts := 1, nsteps := 6, entries := [5, 0xFFFF], task := task })] }

theorem witness_DoorbellsAndEventRings :
    let s := spanLive .running none
    let b := spanLive .running (some { taskAt 0 with ticket := 1, span := 3 })
    s.subtree 3 = [3] ∧ s.absent 7 = false ∧ nth (s.engs.at 7).entries 0 = 5 ∧ s.substBusy 7 = false ∧
    ((after (exec (.doorbell 3 4 0) s)).engs.at 7).task.map (fun t => (t.pc, t.ticket, t.span)) = some (5, 15, 3) ∧
    ((after (exec (.doorbell 3 1 0) s)).engs.at 7).task = none ∧
    ((after (exec (.doorbell 3 0 2) b)).engs.at 7).dbq = [(0, 2 + 48)] ∧
    ((after (exec (.doorbell 3 9 0) (spanLive .idle none))).spans.at 3).held = some (9, 15 + 16) ∧
    (after (exec (.doorbell 3 9 0) (spanLive .draining none))).fget .CFG_SPAN_ERR F.CFG_SPAN_ERR_DB_DROP = 1 := by decide +kernel

theorem test_event_ring_pops_oldest :
    let s := { State.reset with rings := [(2, ⟨[4096, 8193], false⟩)] }
    (after (exec (.eventRingPop 2) s)).resp = .word 4096 ∧ ((after (exec (.eventRingPop 2) s)).rings.at 2).ents = [8193] ∧
    (after (exec (.eventRingPop 1) s)).resp = .word 0 := by decide +kernel

theorem witness_SpanCommands :
    let i := spanLive .idle none
    let r := spanLive .running (some { taskAt 0 with ticket := 1, span := 3 })
    3 ∈ i.subtree 3 ∧ i.entryEngines (i.subtree 3) = [7] ∧ i.underLoading 3 = false ∧
    ((after (exec (.spanStart 3 0 0) i)).spans.at 3).st = .running ∧ ((after (exec (.spanStart 3 0 0) i)).engs.at 7).task.isSome = true ∧
    ((after (exec (.spanStop 3) r)).spans.at 3).st = .stopping ∧ ((after (exec (.spanStop 3) r)).engs.at 7).task = none ∧
    ((after (exec (.spanDrain 3) r)).spans.at 3).st = .draining ∧ ((after (exec (.spanClear 3) i)).spans.at 3).st = .idle ∧
    (after (exec (.spanUnload 3) i)).spans.at 3 = default ∧
    (after (exec (.spanStart 3 0 0) r)).bget .CFG_SPAN_ERR F.CFG_SPAN_ERR_CMD_ERR = true ∧
    r.quiet true (.engine 7) = false ∧ i.quiet true (.engine 7) = true ∧
    ((after (exec (.spanQuiet 3) (spanLive .draining none))).spans.at 3).st = .idle := by decide +kernel

/-- A group span with an engine here and one of device 5. -/
def groupSpan (st : SpanSt) (drained : Nat) : State := { live with
  spans := [(3, { (default : SpanEnt) with
    st := st, group := true, members := [.engine 7], remote := [(5, .engine 2)], drained := drained })] }

theorem witness_GroupSpansReachOtherDevices :
    let s := groupSpan .idle 0
    let q := groupSpan .stopping 0
    s.groupTops 3 = [3] ∧ s.groupDevs 3 = [5] ∧ s.fget .LNK_GRP F.LNK_GRP_DEVNUM = 0 ∧ s.devLost 5 = false ∧
    (after (exec (.doorbell 3 9 2) s)).grp.entries.map (·.dst) = [5] ∧ (after (exec (.spanSnapshot 3) s)).grp.entries.length = 1 ∧
    (after (exec (.spanStart 3 0 0) s)).grp.entries.length = 1 ∧ (∀ l ∈ q.leavesOf 3, q.quiet false l = true) ∧
    ((after (exec (.spanQuiet 3) q)).spans.at 3).st = .stopping ∧ (after (exec (.spanQuiet 3) q)).grp.entries.length = 1 ∧
    ((after (exec (.spanQuiet 3) (groupSpan .stopping 32))).spans.at 3).st = .idle ∧
    after (exec (.spanQuiet 3) (groupSpan .stopping 1)) = groupSpan .stopping 1 := by decide +kernel

/-! ### Pair sets, levels and mode changes -/

theorem witness_PairSetCommandsComplete :
    let s := State.reset
    let off := (Reg.TKT_TGT 1).offset
    let c := after (exec (.rwpWrite off 5) s)
    Reg.ofOffset off = some (.TKT_TGT 1) ∧ (Reg.TKT_TGT 1).access.rwp ≠ 0 ∧ s.expert = false ∧ s.pairTakes (s.pairKey (.TKT_TGT 1)) = true ∧
    s.pairTakes (s.pairKey (.TKT_TGT 0)) = false ∧ c.shadow = [(.reg (.TKT_TGT 1), 5 &&& (Reg.TKT_TGT 1).access.rwp)] ∧
    ((c.shadow.filterMap (fun x => x.1.set)).map PairSet.block).eraseDups.length = 1 ∧ c.modeBusy = false ∧ c.staged = [] ∧ c.load.busy = false ∧
    (after (exec (.pairCommit (F.CFG_COMMIT_GO.put 0 1)) c)).mode.map (·.phase) = some 1 ∧
    (after (exec (.shadowClear (F.CFG_SHADOW_CLR_CLR.put 0 1)) c)).shadow = [] ∧
    (after (exec (.levelWrite (F.CFG_CTL_EXPERT.put 0 1)) c)).bget .CFG_PAIR_STAT F.CFG_PAIR_STAT_LEVEL_ERR = true ∧
    (after (exec (.levelWrite (F.CFG_CTL_EXPERT.put 0 1)) s)).expert = true := by decide +kernel

/-- At expert level, ticket 1's two bandwidth words pending. -/
def pairPending (bw : Word) : State := { (State.reset.bset .CFG_CTL F.CFG_CTL_EXPERT true) with
  pend := [(.reg (.TKT_BW0 1), bw), (.reg (.TKT_BW1 1), 0)] }

theorem witness_PairSetCommandsComplete_expert :
    written (pairPending 0).pend (.reg (.TKT_BW0 1)) = some 0 ∧ written (pairPending 0).pend (.reg (.TKT_BW1 1)) = some 0 ∧
    ((((pairPending 0).rset (.TKT_TGT 1) 5).rset (.TKT_BW0 1) 0).rset (.TKT_BW1 1) 0).admitFits = true ∧
    (after (exec (.rwpWrite (Reg.TKT_TGT 1).offset 5) (pairPending 0))).rget (.TKT_TGT 1) = 5 ∧
    ((((pairPending 0xFFFFFFFF).rset (.TKT_TGT 1) 5).rset (.TKT_BW0 1) 0xFFFFFFFF).rset (.TKT_BW1 1) 0).admitFits = false ∧
    (after (exec (.rwpWrite (Reg.TKT_TGT 1).offset 5) (pairPending 0xFFFFFFFF))).bget .CFG_PAIR_STAT F.CFG_PAIR_STAT_PAIR_ERR = true ∧
    (after (exec (.pairAbandon (F.CFG_PAIR_ABANDON_ABANDON.put 0 1)) (pairPending 0))).pend = [] := by decide +kernel

/-- A mode change of span 3, over engine 7, in phase `p`. -/
def changing (p : Nat) (prep : List (MUnit × Nat)) (committed applied : List MUnit) : State :=
  { spanLive .idle none with mode := some ⟨1, 0, 3, [.leaf (.engine 7)], p, prep, [], committed, applied, [], none⟩ }

theorem witness_ModeChanges :
    let u : MUnit := .leaf (.engine 7)
    (after (exec (.prepareReceive (.engine 7) 0 (3, 1)) (changing 1 [] [] []))).mode.map (·.prepared) = some [(u, 0)] ∧
    (after (exec (.modeAckReceive (.engine 7) 0 0) (changing 1 [(u, 0)] [] []))).mode.map (·.phase) = some 2 ∧
    (after (exec (.commitReceive (.engine 7)) (changing 2 [(u, 0)] [] []))).mode.map (·.committed) = some [u] ∧
    (changing 2 [(u, 0)] [u] []).atBoundary u = true ∧
    (after (exec (.modeApply (.engine 7)) (changing 2 [(u, 0)] [u] []))).mode.map (·.applied) = some [u] ∧
    (after (exec (.modeAckReceive (.engine 7) 1 0) (changing 2 [(u, 0)] [u] [u]))).mode.map (·.phase) = some 3 ∧
    (after (exec .modeAckTimeout (changing 1 [(u, 0)] [] []))).fget .CFG_MODE_STAT F.CFG_MODE_STAT_CAUSE = 1 ∧
    (after (exec (.modeAckReceive (.engine 7) 0 0) (changing 1 [(u, 3)] [] []))).fget .CFG_MODE_STAT F.CFG_MODE_STAT_CAUSE = 2 ∧
    (after (exec (.abortReceive (.engine 7, 0)) (changing 4 [(u, 0)] [] []))).mode.map (·.prepared) = some [] ∧
    (after (exec (.prepareReceive (.device 9) 0 (3, 77)) (spanLive .idle none))).mode.map (fun c => (c.coord, c.id)) = some (some 9, 77) ∧
    (let g := { changing 1 [] [] [] with mode := some ⟨1, 0, 3, [.device 9], 1, [], [], [], [], [], none⟩ }
     (after (exec .groupModeTimeout g)).mode.map (·.phase) = some 4) := by decide +kernel

/-! ### Loads -/

theorem witness_ImageLoadsComplete_refused :
    State.reset.loadBusy = true ∧ (after (exec (.imageLoad 1 []) State.reset)).fget .CFG_LOAD_STAT F.CFG_LOAD_STAT_ERR = 1 ∧
    (let s := live.bset .CFG_LOAD_ADDR_HI F.CFG_LOAD_ADDR_HI_HOST true
     s.loadBusy = false ∧ parseHeader [] = none ∧
     (after (exec (.imageLoad 1 []) s)).fget .CFG_LOAD_STAT F.CFG_LOAD_STAT_STATE = 7 ∧
     (after (exec (.imageLoad 1 []) s)).fget .CFG_LOAD_STAT F.CFG_LOAD_STAT_CODE = 0x0F) := by decide +kernel

/-- A load of span 3 that waits for its last step, whose mode change is in phase `p`. -/
def loadingSpan (p : Nat) : State := { (spanOf .loading [] live).fset .CFG_LOAD_STAT F.CFG_LOAD_STAT_STATE 5 with
  load := { (default : LoadUnit) with busy := true, fresh := [3], id := 9 }
  mode := some ⟨1, 1, 3, [], p, [], [], [], [], [], none⟩ }

theorem witness_ImageLoadsComplete_loaded :
    (loadingSpan 3).load.busy = true ∧ (loadingSpan 3).mode.map (·.phase) = some 3 ∧
    ((after (exec .imageLoaded (loadingSpan 3))).spans.at 3).st = .idle := by decide +kernel

theorem witness_ImageLoadsComplete_id : (after (exec .imageLoaded (loadingSpan 3))).rget .CFG_LOAD_ID = 9 := by decide +kernel

theorem witness_ImageLoadsComplete_failed :
    let s := { loadingSpan 4 with load := { (loadingSpan 4).load with partialLoad := true } }
    s.mode.map (·.phase) = some 4 ∧ (after (exec .imageLoaded s)).load.busy = false ∧
    (after (exec .imageLoaded s)).fget .CFG_LOAD_STAT F.CFG_LOAD_STAT_ERR = 3 ∧ (after (exec .imageLoaded s)).spans.at 3 = default := by
  decide +kernel

theorem witness_ImageLoadsComplete_starts :
    let s := { (spanOf .loading [] live).fset .CFG_LOAD_STAT F.CFG_LOAD_STAT_STATE 4 with
      load := { (default : LoadUnit) with busy := true, fresh := [3], id := 9 } }
    s.load.extents = [] ∧ s.modeBusy = false ∧ (after (exec .imageLoaded s)).fget .CFG_LOAD_STAT F.CFG_LOAD_STAT_STATE = 5 ∧
    (after (exec .imageLoaded s)).mode.isSome = true := by decide +kernel

/-! ### Memory -/

/-- A request of mover 0 at the start of the shared buffer under ticket 3. -/
def q0 (n : Nat) (data : List Byte) : MemReq := ⟨.mover 0, 0x030000000000, n, 3, 0, 0, 0, 0, data, data.map (fun _ => false), []⟩

/-- The cell of the shared buffer's first byte. -/
def cell0 : CellRef := ⟨1, 0, 0x030000000000⟩

/-- The hypotheses of the obligations about one access, from what evaluation decides. -/
theorem cleanAccess_of {q : MemReq} {s : State} {b : Nat} {c : CellRef} (hs : s.mem.syn = []) (hf : BundlesFree s)
    (hr : s.holds ((s.resourceOf q.addr).getD 73) q = false)
    (hb : (s.readBlock true false b).all (fun x => crc32c (wordsToBytes x.2.1) = x.2.2.2) = true)
    (hn : (s.stackOf q.addr).all (fun n => !s.stackFenced n) = true)
    (h : 0 < q.len ∧ b = q.addr / 256 * 256 ∧ q.addr + q.len ≤ b + 256 ∧ s.edgeHeld q.rq = false ∧ s.cellOf (decide (q.rq = .hub)) b = some c ∧
      s.promoted b = none ∧ (s.mem.insts.at c.ik).patch = [] ∧ bitAt (s.fget .MEM_FLIP_CTL F.MEM_FLIP_CTL_ARM) c.cls = false ∧
      s.grp.winHeld = [] ∧ s.mem.newPatches = []) : CleanAccess q s b c := by
  obtain ⟨h1, h2, h3, h3', h4, h5, h6, h7, h8, h9⟩ := h
  refine ⟨h1, h2, h3, hr, hf, h3', ?_, h4, h5, h6, fun k => at_empty hs k, h7, ?_, h8, h9⟩
  · intro n e
    rw [e] at hn
    simpa using hn
  · intro x e
    rw [e] at hb
    simpa using hb

/-- They are met by a write at the start of the shared buffer of a device after reset. -/
theorem witness_CleanAccess : CleanAccess (q0 2 [7, 8]) State.reset 0x030000000000 cell0 :=
  cleanAccess_of rfl (undisturbed_of rfl rfl rfl rfl (by decide +kernel) rfl (by decide +kernel)).1.1 (by decide +kernel)
    (by decide +kernel) (by decide +kernel) (by decide +kernel)

theorem test_write_then_read :
    let w := after (exec (.memoryWrite (q0 2 [7, 8])) State.reset)
    w.mem.data = [(0x030000000000, 7), (0x030000000001, 8)] ∧
    (after (exec (.memoryRead (q0 3 [])) w)).resp = .data [7, 8, 0] [false, false, false] := by decide +kernel

theorem witness_MemoryRequestsComplete_held :
    let s := { State.reset with tkt := { State.reset.tkt with hold := [((.mover 0, 8), 8)] } }
    let a := after (exec (.memoryRead (q0 2 [])) s)
    s.resourceOf 0x030000000000 = some 8 ∧ s.holds 8 (q0 2 []) = true ∧ a.tkt.heldReqs = [(8, q0 2 [], false)] ∧
    (after (exec (.memoryWrite (q0 2 [7, 8])) s)).tkt.heldReqs.length = 1 ∧ a.stackRests 0x030000000000 = false ∧ a.tkt.leaked = [] ∧
    ((({ a with tkt := { a.tkt with heldReqs := [], hold := [] } } : State).tick.resUpd 8 (fun u =>
      { u with last := a.turnOf 8 (.mover 0) })).perform (q0 2 []) false (a.heldField (heldBrought (q0 2 [])))).isOk = true ∧
    a.heldBit (.mover 0) 8 3 = true ∧ goesOn (exec (.leakRelease (.mover 0) 8 3) a) = true ∧
    after (exec (.leakRelease (.mover 0) 8 4) a) = a ∧ after (exec (.leakRelease (.mover 0) 8 3) s) = s ∧
    (after (exec (.throttleReceive .hub 8 1 0xFFFF) State.reset)).sourceHold .hub 8 = 0xFFFE ∧
    (after (exec (.memoryWrite { q0 2 [] with data := [1] }) State.reset)) = default := by decide +kernel

theorem witness_MemoryRequestsComplete_bundle :
    let s := (List.finRange 8).foldl (fun (s : State) p => s.fset (.CWY_STAT (Fin.castLE (by decide) p)) F.CWY_STAT_STATE 3) live
    let q := { q0 2 [] with rq := .engine 0 }
    s.holds 8 q = false ∧ (match s.crossAll q.rq true q.addr q.len with | .error _ => true | .ok _ => false) = true ∧
    (after (exec (.memoryRead q) s)).tkt.heldReqs = [(8, q, false)] := by decide +kernel

/-- A flash read of ticket 3 that waits at its retrieval engine for channel 0. -/
def fread : FReq := { (default : FReq) with who := .query 0, ticket := 3, re := 2, waits := true }

theorem witness_MemoryRequestsComplete_flash :
    let s := { State.reset with
      flash := { State.reset.flash with queue := [(0, [.read fread])] }
      tkt := { State.reset.tkt with hold := [((.re 2, 41), 8)] } }
    fread.source = some (.re 2) ∧ s.heldBit (.re 2) 41 3 = true ∧
    ((after (exec (.leakRelease (.re 2) 41 3) s)).flash.queue.at 0).map FCmd.waits = [false] := by
  decide +kernel

/-- Ticket 1 with target 8 (in quarters of a unit) for memory, and counters at stack 0. -/
def regulated (x : TktRes) : State :=
  let s := State.reset.fset (.TKT_TGT 1) F.TKT_TGT_MEM 8
  { s with tkt := { s.tkt with at_ := [(1, x)] } }

theorem witness_TicketRegulation :
    let s := regulated { (default : TktRes) with due := [12800], avg := 100 }
    let m := regulated { (default : TktRes) with ends := [4096 * 33], overs := 3 }
    let n := regulated { (default : TktRes) with ends := [4096 * 8], overs := 3 }
    s.target (resClass 0) 1 = 8 ∧ (s.tktAt 0 1).due = [12800] ∧
    ((after (exec (.ticketAvgUpdate 0 0 1) s)).tktAt 0 1).avg = 125 ∧ ((after (exec (.ticketAvgUpdate 0 0 1) s)).tktAt 0 1).step = 1 ∧
    after (exec (.ticketAvgUpdate 0 0 2) s) = s ∧
    (m.tktAt 0 1).overs = 3 ∧ bitAt ((after (exec (.missWindowEnd 0 0 1) m)).rget .TKT_MISS).toNat 1 = true ∧
    ((after (exec (.missWindowEnd 0 0 1) n)).tktAt 0 1).overs = 0 ∧ ((after (exec (.missWindowEnd 0 0 1) n)).tktAt 0 1).ends = [] ∧
    after (exec (.missWindowEnd 0 0 1) s) = s ∧
    ((after (exec (.queueLevelReceive 72 5 1) m)).tkt.res.at 72).seenLevel = 5 := by decide +kernel

/-- An instance of bonded DRAM with one patch entry. -/
def patched : State :=
  let s := State.reset.fset .MEM_INST_SEL F.MEM_INST_SEL_CLASS 4
  { s with mem := { s.mem with insts := [(512, { (default : MemInst) with patch := [(0, some ⟨bondedAddr 0 8, 0x01020304, false⟩)], full := true })] } }

theorem witness_MemoryRepairsComplete :
    live.stackFenced 7 = false ∧ (after (exec (.stackFence 7 true) live)).stackFenced 7 = true ∧
    (let v := F.MEM_PATCH_CTL_RELEASE.put 0 1
     F.MEM_PATCH_CTL_RELEASE.get v ≠ 0 ∧ F.MEM_PATCH_CTL_ENTRY.get v = 0 ∧ patched.fget .MEM_INST_SEL F.MEM_INST_SEL_INST = 0 ∧
     (after (exec (.patchRelease v true) patched)).mem.data = [(bondedAddr 0 8, 4), (bondedAddr 0 9, 3), (bondedAddr 0 10, 2), (bondedAddr 0 11, 1)] ∧
     ((after (exec (.patchRelease v true) patched)).mem.insts.at 512).patch = []) ∧
    (let v := F.MEM_FENCE_MACRO_MACRO.put (F.MEM_FENCE_MACRO_GO.put 0 1) 127
     F.MEM_FENCE_MACRO_GO.get v ≠ 0 ∧ F.MEM_FENCE_MACRO_SITE.get v = 0 ∧ live.siteState 0 = 0 ∧ live.siteHeld 0 = false ∧
     ((after (exec (.macroFence v true) live)).sites.at 0).fenced = [127] ∧
     (let w := v ||| F.MEM_FENCE_MACRO_SITE.put 0 3
      live.siteState 3 = 1 ∧ ((after (exec (.macroFence w true) live)).sites.at 3).fenced = [127]) ∧
     (let b := after (exec (.engFence 0 1 true) live)
      b.siteState 0 = 2 ∧ (after (exec (.macroFence v true) b)).fget .MEM_FENCE_STAT F.MEM_FENCE_STAT_STATE = 3) ∧
     (let h := spanOf .idle [.engine 0] live
      let p := after (exec (.macroFence v true) h)
      h.siteHeld 0 = true ∧ (p.sites.at 0).fencePend = [127] ∧
      ((after (exec (.macroFenceApply 0 127 true) { p with spans := [] })).sites.at 0).fenced = [127])) ∧
    (let v := F.MEM_RETIRE_CMD_GO.put 0 1
     let s := withRegs [(.MEM_RETIRE_HI, 0x100)]
     F.MEM_RETIRE_CMD_GO.get v ≠ 0 ∧ rangeOf 0x010000000000 = .placed 0 0 ∧
     (after (exec (.pageRetire v true) s)).mem.retired = [0x1000000] ∧
     (after (exec (.pageRetire v true) (after (exec (.pageRetire v true) s)))).fget .MEM_RETIRE_STAT F.MEM_RETIRE_STAT_RESULT = 1 ∧
     (after (exec (.pageRetire v true) State.reset)).fget .MEM_RETIRE_STAT F.MEM_RETIRE_STAT_RESULT = 3) := by decide +kernel

theorem witness_InjectionAndScrubbingComplete :
    let s := (withRegs [(.MEM_SCRUB_BASE_HI, 0x300), (.MEM_SCRUB_LEN_LO, 256)])
    let p := after (exec (.scrubStart 0) s)
    s.scrub = none ∧ p.scrub.map (fun x => (x.base, x.len, x.refused)) = some (0x030000000000, 256, false) ∧
    (after (exec .scrubStop p)).scrub.map (·.stop) = some true ∧ (after (exec (.scrubDone 0) p)).scrub = none ∧
    (after (exec (.scrubDone 0) p)).fget .MEM_SCRUB_STAT F.MEM_SCRUB_STAT_STATE = 2 ∧
    (after (exec (.flipArm (F.MEM_FLIP_CTL_ARM.put 0 2)) s)).fget .MEM_FLIP_CTL F.MEM_FLIP_CTL_ARM = 2 := by decide +kernel

/-! ### Barge movers and the placement loop -/

/-- Mover 0 with a ring of 16 descriptors at the start of the shared buffer, the first written: a copy of 256 bytes within it. -/
def mover0 : State :=
  let s := (withRegs [(.BRG_WR 0, 1), (.BRG_RING_BASE 0, 0)]).fset (.BRG_RING_LEN 0) F.BRG_RING_LEN_LEN 1024
  withBytes 0x030000000000 (toBytes 8 0x0000000000000100 ++ toBytes 8 0) s

/-- A descriptor of one block that writes its pattern to the shared buffer. -/
def fillDesc : Desc := { (default : Desc) with ok := true, op := 1, ticket := 1, dst := 0x030000001000, len := 256, pattern := 0x0101010101010101 }

/-- Mover 0 with a run in flight, or halted. -/
def flying (fl : List MvRun) (halt : Option MvRun) : State :=
  let s := withRegs [(.BRG_WR 0, 2)]
  { (s.fset (.BRG_RING_LEN 0) F.BRG_RING_LEN_LEN 1024) with
    movers := [(0, { (default : MoverUnit) with inflight := fl, halted := halt })] }

/-- Runs of a descriptor that is malformed, and of `fillDesc`. -/
def badRun : MvRun := ⟨0, { fillDesc with ok := false }, 0, none, false, none⟩
@[inherit_doc badRun] def fillRun : MvRun := ⟨0, fillDesc, 0, none, false, none⟩

theorem witness_MoversRunDescriptors :
    ((flying [fillRun] none).mover 0).inflight = [fillRun] ∧
    ((flying [fillRun] none).descOutcome 0 fillRun none none).toOption.map (fun x => x.2) = some (1, 0) ∧ haltStatus fillDesc 1 = false ∧
    ((flying [badRun] none).descOutcome 0 badRun none none).toOption.map (fun x => x.2) = some (6, 0) ∧ haltStatus badRun.d 6 = true ∧
    ((after (exec (.descriptorComplete 0 false none none) (flying [badRun] none))).mover 0).halted = some badRun ∧
    ((after (exec (.brgSkip 0) (flying [] (some badRun)))).mover 0).halted = none ∧
    (after (exec (.brgAbort 0) (flying [] (some badRun)))).rget (.BRG_RD 0) = 2 ∧
    ((after (exec (.brgResume 0) (flying [] (some badRun)))).mover 0).inflight.map (·.ix) = [0] ∧
    (flying [] none).ownEntry (.mover 0) = none ∧ ahead ((flying [] none).brgRd 0) 16 = 16 ∧ (flying [] none).ringLen 0 = 16 ∧
    (after (exec (.brgWriteIndex 0 16) (flying [] none))).rget (.BRG_WR 0) = 16 ∧
    (after (exec (.brgWriteIndex 0 17) (flying [] none))).bget (.BRG_STAT 0) F.BRG_STAT_OVR = true := by decide +kernel

theorem witness_MoversRunDescriptors_start :
    let s := { flying [] none with spans := [(0, { (default : SpanEnt) with st := .running, members := [.mover 0] })] }
    let x : Extent := { (default : Extent) with ix := 4 }
    let h := { s with movers := [(0, { (default : MoverUnit) with hubq := [.place x] })] }
    s.ringReady 0 = true ∧ s.hubReady 0 = false ∧ ((after (exec (.descriptorStart 0 false) s)).mover 0).inflight.length = 1 ∧
    h.hubReady 0 = true ∧ (h.mover 0).lastHub = false ∧ ((after (exec (.descriptorStart 0 true) h)).mover 0).hubq = [] ∧
    (h.placeSource 0 x default none).isOk = true := by decide +kernel

/-- A pool of one KV page in stack 0's interleaved view, and a promotion target of one frame. -/
def pools (mode : Nat) (frames : Tab (Option Nat)) : State :=
  let s := State.reset.fset .SBF_PL_CTL F.SBF_PL_CTL_MODE mode
  { s with
    image := { s.image with parts := [(0, ⟨true, 1, 3, 0, 0, 65536, 0⟩), (1, ⟨true, 0, 4, 0, 0x030000000000, 65536, 0⟩)] }
    place := { s.place with frames := frames, reads := 2 ^ 20, counts := [(0, 9)] } }

theorem witness_PlacementLoopCompletes :
    (pools 2 []).kvPool 0 ≠ none ∧ (pools 2 []).kvPool 1 = none ∧ (pools 2 []).freeFrame = some 0 ∧ (pools 2 []).frameOf 0 = none ∧
    (pools 2 []).fget .SBF_PROMO_STAT F.SBF_PROMO_STAT_STATE = 0 ∧ (pools 2 []).fget .SBF_PL_CTL F.SBF_PL_CTL_EPOCH = 4 ∧
    ((after (exec .promoPromote (pools 2 []))).place.manual = some (0, 0)) ∧
    (pools 2 [(0, some 0)]).frameOf 0 = some 0 ∧ (after (exec .promoDemote (pools 2 [(0, some 0)]))).place.frames = [] ∧
    (after (exec .promoPromote ((pools 2 []).fset .SBF_PROMO_PAGE F.SBF_PROMO_PAGE_PAGE 1))).fget .SBF_PROMO_STAT F.SBF_PROMO_STAT_REASON = 1 ∧
    (after (exec .placeEpochEnd (pools 2 []))).place.counts = [(0, 4)] := by decide +kernel

/-- A copy of one byte to the shared buffer, and one to codebook 0 of engine 0, in mover 0's hub channel. -/
def placing (x : Extent) : State :=
  { State.reset with
    engs := [(0, { (default : EngUnit) with held := [⟨0, 0, [1], [false]⟩] })]
    movers := [(0, { (default : MoverUnit) with hubfl := [(.place x, default)] })] }
@[inherit_doc placing] def toSbf : Extent := { (default : Extent) with dst := 1, dstAddr := 0x030000000000, data := [5], len := 1, ix := 4 }
@[inherit_doc placing] def toCodebook0 : Extent := { (default : Extent) with dst := 2, data := [5], len := 1, ix := 4 }

theorem witness_MoversRunDescriptors_place :
    toSbf.toCodebook = false ∧ ((placing toSbf).placeSource 0 toSbf default none).isOk = true ∧
    ((after (exec (.descriptorComplete 0 true none none) (placing toSbf))).mover 0).hubfl = [] ∧
    (after (exec (.descriptorComplete 0 true none none) (placing toSbf))).mem.data = [(0x030000000000, 5)] ∧
    toCodebook0.toCodebook = true ∧ (placing toCodebook0).codebookHeld 0 0 = true ∧
    after (exec (.descriptorComplete 0 true none none) (placing toCodebook0)) = placing toCodebook0 ∧
    (((placing toSbf).placeSource 0 { toSbf with src := 1 } { (default : MvRun) with d := { (default : Desc) with srcKind := 1, len := 4 } } none).toOption.map (fun y => y.stop.isSome)) = some true := by
  decide +kernel

theorem witness_MoversRunDescriptors_host :
    let r := { fillRun with d := { fillDesc with dstKind := 1 } }
    ((after (exec (.descriptorComplete 0 false none none) (flying [r] none))).mover 0).inflight = [] ∧
    (after (exec (.descriptorComplete 0 false none none) (flying [r] none))).fget (.BRG_STAT 0) F.BRG_STAT_LAST_CODE = 1 := by
  decide +kernel

theorem witness_PlacementLoopCompletes_copied :
    let s := (State.reset.fset (.STK_STAT 0) F.STK_STAT_STATE 2)
    let s := { s with
      image := (pools 1 []).image
      place := { s.place with copying := [(0, 0)], manual := some (0, 0) }
      movers := [(0, { (default : MoverUnit) with hubfl := [(.promote 0 0, default)] })] }
    s.frameBase = some (0, 1) ∧ (s.cellOf true 0).isSome = true ∧ (s.mover 0).hubfl.length = 1 := by decide +kernel

/-! ### Flash -/

/-- A profile of one level and one page per wordline, with offsets from -16 to 16 and one ladder step. -/
def prof0 : Profile := [0x11, 0x90, 0xF0, 0x10, 1, 0, 0, 0, 1] ++ List.replicate 503 0

/-- A live device whose flash is mounted: channel 0 in Run, LUNs 0 and 1 of it in use, LUN 1 open, block 0 of LUN 0 with page 0 programmed. -/
def flashed (st : Nat) : State :=
  let s := (((live.fset (.FLC_STAT 0) F.FLC_STAT_STATE 3).fset .FLC_MOUNT F.FLC_MOUNT_STATE st).fset (.FLC_LUN 0) F.FLC_LUN_USED 3)
  let g : LunGeo := ⟨9344, 4, 2⟩
  { s with flash := { s.flash with
    luns := [(0, some g), (1, some g)], label := some (prof0, [2], g, 7)
    blocks := [(0, ⟨0, 0, 5, [0], false⟩), (8192, ⟨0, 0, 5, [0], false⟩)]
    sbs := [(64, ⟨[0], .free⟩), (65, ⟨[1], .free⟩)] } }

/-- A read of codeword 0 of the first page for mover 0. -/
def fq : FReq := ⟨.ring 0 0, ⟨0, 0, 0, 0, 0⟩, (1, 0), 1, 0, false, 0⟩

/-- The mounted flash with commands queued at channel 0, and LUN 0 or 1 at work. -/
def flashQ (q : List FCmd) (run : Tab (Option FRun)) : State :=
  { flashed 6 with flash := { (flashed 6).flash with queue := [(0, q)], run := run } }

theorem witness_FlashReadsComplete :
    (flashQ [.read fq] []).nextCmd 0 = some (.read fq, 0) ∧ (flashQ [.read fq] []).lunFenced 0 0 = false ∧
    (after (exec (.flashRead 0) (flashQ [.read fq] []))).flash.run.at 0 = some (.read fq 0 (List.replicate 15 0)) ∧
    (let f := (flashQ [.read fq] []).fset (.FLC_LUN_FENCE 0) F.FLC_LUN_FENCE_FENCED 1
     f.nextCmd 0 = some (.read fq, 0) ∧ f.lunFenced 0 0 = true ∧ (after (exec (.flashRead 0) f)).flash.done.map (·.pois) = [true]) ∧
    (flashQ [.retry fq 16 []] []).nextCmd 0 = some (.retry fq 16 [], 0) ∧
    (after (exec (.flashRead 0) (flashQ [.retry fq 16 []] []))).flash.cmds.at 0 = 12 ∧ (flashQ [] []).nextCmd 0 = none := by
  decide +kernel

theorem witness_FlashReadsComplete_done :
    let s (st : Nat) := flashQ [] [(0, some (.read fq st []))]
    fq.addr.lunKey = 0 ∧ fq.addr.page ∈ ((s 0).flash.blocks.at fq.addr.blk).prog ∧ nextStage (s 0).profile.ladderLen 0 = some 1 ∧
    nextStage (s 0).profile.ladderLen 1 = some 16 ∧ nextStage (s 0).profile.ladderLen 16 = none ∧
    (after (exec (.pageReadDone 0 0 (.failed 9) 1) (s 0))).flash.queue.at 0 = [.retry fq 1 []] ∧
    (after (exec (.pageReadDone 0 0 (.failed 9) 1) (s 16))).fget (.FLC_UE 0) F.FLC_UE_COUNT = 1 := by decide +kernel

theorem witness_ReadLoopAndPatrolComplete :
    let g : FlGroup := { (default : FlGroup) with last := some (0, 0), n := 2 ^ 20, sbar := 100 }
    let s := { flashed 6 with flash := { (flashed 6).flash with groups := [(0, g)] } }
    let l : List Int := List.replicate 15 0
    let p := flashQ [] [(0, some (.probe 0 0 true l))]
    let w := { p with flash := { p.flash with groups := [(0, g)] } }
    s.profile.used = [0] ∧ s.fget (.FLC_LOOP 0) F.FLC_LOOP_PROBE_INT ≠ 0 ∧ s.lunIdle 0 0 = true ∧ s.loopRuns 0 0 = true ∧
    (after (exec (.probeIssue 0 0) s)).flash.run.at 0 = some (.probe 0 0 true l) ∧
    w.flash.run.at 0 = some (.probe 0 0 true l) ∧ (w.flash.groups.at 0).list = l ∧
    ((after (exec (.probeResult 0 0 1) w)).flash.groups.at 0).offs.at 0 = 1 ∧
    ((after (exec (.probeResult 0 0 4096) w)).flash.groups.at 0).offs.at 0 = 0 ∧
    (after (exec (.probeResult 0 0 1) { p with flash := { p.flash with groups := [(0, { g with offs := [(0, 1)] })] } })).fget
      (.FLC_DISCARD 0) F.FLC_DISCARD_STALE = 1 := by decide +kernel

theorem witness_ReadLoopAndPatrolComplete_patrol :
    let o := (flashed 6).fset (.FLC_THR_SEL 0) F.FLC_THR_SEL_GROUP 128
    o.isOpen 0 1 = true ∧ (flashed 6).isOpen 0 0 = false ∧ ((after (exec (.thresholdWrite 0 0xFF) o)).flash.groups.at 128).offs.at 0 = -1 ∧
    (let s := (flashed 6).fset .FLC_PATROL F.FLC_PATROL_RD_LIMIT 0
     s.chanRuns 0 = true ∧ ((after (exec (.readDisturbPatrol 0 0 0) s)).flash.blocks.at 0).reads = 0 ∧ s.lunK 0 = 2) ∧
    (after (exec .patrolTimer (flashed 6))).flash.queue.at 0 ≠ [] ∧
    (let z := { flashed 6 with flash := { (flashed 6).flash with cmds := [(0, 2 ^ 24)] } }
     (after (exec (.zqCalibration 0) z)).flash.cmds = []) := by decide +kernel

/-- The mounted flash with zone 1 in a state, one superblock and a write pointer, and an append, if one is in progress. -/
def zoned (st : Nat) (a : Option AppendRun) : State :=
  { (flashed 6).fset .FLC_ZONE_HANDLE F.FLC_ZONE_HANDLE_HANDLE 1 with
    flash := { (flashed 6).flash with zones := [(1, ⟨st, 1, 3, [65], a, 0⟩)], sbs := [(64, ⟨[0], .free⟩), (65, ⟨[1], .used⟩)] } }

theorem witness_ZoneCommandsComplete :
    (flashed 6).dieFenced 9 = false ∧ (flashed 6).mounted = true ∧ (flashed 3).mounted = false ∧ (flashed 6).freeSb = 2 ∧
    (after (exec (.zoneOpen 3) (flashed 6))).fget .FLC_ZONE_STAT F.FLC_ZONE_STAT_REASON = 1 ∧
    (after (exec (.zoneOpen 0) (flashed 6))).fget .FLC_ZONE_STAT F.FLC_ZONE_STAT_REASON = 6 ∧
    (after (exec (.zoneOpen 129) (flashed 6))).fget .FLC_ZONE_STAT F.FLC_ZONE_STAT_REASON = 6 ∧
    (after (exec (.zoneOpen 1) (flashed 3))).fget .FLC_ZONE_STAT F.FLC_ZONE_STAT_REASON = 3 ∧
    ((after (exec .zoneFinish (zoned 1 none))).flash.zones.at 1).st = 2 ∧
    ((after (exec .zoneFinish (zoned 1 (some default)))).flash.zones.at 1).after = 2 ∧
    (after (exec .zoneFree (zoned 2 none))).flash.zones.at 1 = default ∧
    (after (exec .zoneQuery (zoned 2 none))).fget .FLC_ZONE_WP F.FLC_ZONE_WP_WP = 3 ∧
    (after (exec .zoneQuery (zoned 0 none))).fget .FLC_ZONE_STAT F.FLC_ZONE_STAT_REASON = 5 := by decide +kernel

/-- A page program for zone 1, of one unit; an append of one program of mover 0's descriptor 0. -/
def job1 : PgmJob := ⟨.append 1 65 0, 1, [⟨[], []⟩]⟩
@[inherit_doc job1] def append1 (left : Nat) : AppendRun := ⟨0, 0, left, 1, 0, 0⟩

theorem witness_AppendsComplete :
    let d : Desc := { fillDesc with dstKind := 2, dst := 1 + 0xFFFFFFFF * 2 ^ 32, len := 4096 }
    let r : MvRun := ⟨0, d, 0, none, false, none⟩
    let s := { zoned 1 none with movers := [(0, { (default : MoverUnit) with inflight := [r] })] }
    (s.movers.at 0).inflight.find? (fun r => r.d.ok && decide (r.d.dstKind = 2) && !r.started && r.result.isNone) = some r ∧
    (s.moverSource (.ring 0 0) false 5 r none).toOption.isSome = true ∧ (s.flash.zones.at (d.dst % 2 ^ 32)).st = 1 ∧ d.dst / 2 ^ 32 = 0xFFFFFFFF ∧
    (s.moverSource (.ring 0 0) false 5 r none).toOption.any (fun x => (sourceUnits x).length = 1) = true ∧
    (let f := { s with flash := { s.flash with zones := [(1, ⟨2, 1, 3, [65], none, 0⟩)] } }
     ((after (exec (.zoneAppend 0 none) f)).movers.at 0).inflight.map (·.result) = [some (4, 0)]) ∧
    ((after (exec (.appendComplete 1) (zoned 1 (some (append1 0))))).flash.zones.at 1).wp = 4 ∧
    ((after (exec (.appendComplete 1) (zoned 1 (some (append1 1))))).flash.zones.at 1).wp = 3 ∧
    (let q := { zoned 1 (some (append1 1)) with flash := { (zoned 1 (some (append1 1))).flash with queue := [(0, [.program job1])] } }
     q.nextCmd 0 = some (.program job1, 0) ∧ (q.jobAddr job1).lunKey = 0 ∧ q.lunFenced 0 (q.jobAddr job1).lun = false ∧
     (let p := after (exec (.flashProgram 0) q)
      p.flash.run.at 0 = some (.program job1) ∧ ((after (exec (.programStatus 0 0 true) p)).flash.zones.at 1).append = some (append1 0) ∧
      ((after (exec (.programStatus 0 0 true) p)).flash.blocks.at 0).prog.contains 0 = true ∧
      (after (exec (.programStatus 0 0 false) p)).fget (.FLC_FAIL 0) F.FLC_FAIL_PGM = 1)) := by decide +kernel

theorem witness_FlashUpkeepComplete :
    let e := flashQ [.erase 0] []
    e.nextCmd 0 = some (.erase 0, 0) ∧ e.lunFenced 0 0 = false ∧ NoRawWaits 0 e ∧ e.lunIdle 0 0 = true ∧ e.readsOn 0 = false ∧
    ((after (exec (.eraseStatus 0 0 true) e)).flash.blocks.at 0).pe = 1 ∧
    ((after (exec (.eraseStatus 0 0 false) e)).flash.blocks.at 0).bad = 2 ∧
    bitAt ((flashed 6).fget (.FLC_LUN 0) F.FLC_LUN_USED) 1 = true ∧
    bitAt ((after (exec (.lunTimeout 0 1 true) (flashed 6))).fget (.FLC_LUN_FENCE 0) F.FLC_LUN_FENCE_FENCED) 1 = true ∧
    (after (exec .ledgerCheckpoint { flashed 6 with flash := { (flashed 6).flash with journal := 2 ^ 16 } })).flash.journal = 0 := by
  refine ⟨by decide +kernel, by decide +kernel, ?_, by decide +kernel⟩
  intro x hx j h
  rw [h] at hx
  exact absurd (List.mem_singleton.mp hx) (by intro h; cases h)

/-- Zone 1 with a relocation of its superblock 65, marked or moved to superblock 64. -/
def relocated (m : Tab (Option Move)) : State :=
  { zoned 1 none with flash := { (zoned 1 none).flash with relocs := [65], moves := m } }

theorem witness_FlashUpkeepComplete_relocation :
    let r := relocated []
    let d := relocated [(65, some ⟨some 64, [], [], [], []⟩)]
    r.flash.moves.at 65 = none ∧ r.bestFree [] = some 64 ∧ r.appending 65 = false ∧ (r.flash.sbs.at 65).st = .used ∧
    r.mounted = true ∧
    (d.flash.moves.at 65).map (·.new) = some (some 64) ∧
    ((after (exec (.relocationSwitch 65) d)).flash.sbs.at 65).members = [0] ∧
    (after (exec (.relocationSwitch 65) d)).flash.relocs = [] := by decide +kernel

/-- The flash not mounted, with a profile at the start of the shared buffer. -/
def toFormat : State := withBytes 0x030000000000 (prof0.take 9) (flashed 0)

theorem witness_FormatAndMountComplete_read :
    let r := toFormat.hubRead (sbfAddr (toFormat.fget .FLC_FMT_PROF F.FLC_FMT_PROF_OFFSET)) 512
    r.err = none ∧ r.pois.all (fun p => !p) = true ∧ Profile.ok r.bytes = true ∧ toFormat.flashBusy = false ∧ toFormat.lunUsable 0 = true := by
  decide +kernel

theorem witness_FormatAndMountComplete_format :
    (after (exec (.format 7) toFormat)).fget .FLC_FMT_STAT F.FLC_FMT_STAT_STATE = 1 ∧
    (after (exec (.format 0) toFormat)).fget .FLC_FMT_STAT F.FLC_FMT_STAT_REASON = 3 ∧
    (after (exec (.format 7) (flashed 0))).fget .FLC_FMT_STAT F.FLC_FMT_STAT_REASON = 2 ∧
    (after (exec (.format 7) (flashed 3))).fget .FLC_FMT_STAT F.FLC_FMT_STAT_REASON = 1 := by decide +kernel

theorem witness_FormatAndMountComplete_done :
    let g : LunGeo := ⟨9344, 4096, 2⟩
    let f := { flashed 0 with flash := { (flashed 0).flash with luns := [(0, some g)], fmt := some (7, prof0) } }
    g.fits = true ∧ f.lunUsable 0 = true ∧ bitAt (f.fget (.FLC_OPEN (Fin.ofNat 32 0)) F.FLC_OPEN_MASK) 0 = false ∧
    (after (exec (.formatDone [(0, 1, 0)]) f)).fget .FLC_FMT_STAT F.FLC_FMT_STAT_STATE = 2 := by decide +kernel

theorem witness_FormatAndMountComplete_mount :
    let s := live.fset .RTV_STAT F.RTV_STAT_STATE 1
    let f : FoundLun := ⟨0, 0, true, [true], 3, false, 9344, 4, 2⟩
    let m := after (exec (.mount [f] [3] true) s)
    usedLuns [f] = [f] ∧ channelRate [f] (s.fget (.FLC_CTL 0) F.FLC_CTL_RATE_MAX) 3 = 3 ∧
    m.fget (.FLC_STAT 0) F.FLC_STAT_STATE = 3 ∧ m.fget (.FLC_STAT 1) F.FLC_STAT_STATE = 5 ∧ m.fget .FLC_MOUNT F.FLC_MOUNT_STATE = 3 := by
  decide +kernel

/-! ### Raw flash commands, retrieval, the causeway -/

/-- Channel 0's raw registers name LUN 1, which is open, of a mounted flash. -/
def rawFlash : State := (flashed 6).fset (.FLC_RAW_ADDR 0) F.FLC_RAW_ADDR_LUN 1

theorem witness_RawFlashCommands :
    RawIssues 0 rawFlash ∧ rawFlash.flash.luns.at (rawFlash.rawAddr 0).lunKey = some ⟨9344, 4, 2⟩ ∧
    rawFlash.profile.offsetFeature 0x10 = false ∧ rawFlash.profile.offsetFeature 0x90 = true ∧
    (after (exec (.rawEraseBlock 0 1 false) rawFlash)).fget (.FLC_RAW_STAT 0) F.FLC_RAW_STAT_RESULT = 3 ∧
    ((after (exec (.rawEraseBlock 0 1 true) rawFlash)).flash.blocks.at 8192).prog = [] ∧
    (after (exec (.rawGetFeatures 0 0x10 1 5) rawFlash)).rget (.FLC_RAW_PARAM 0) = 5 ∧
    (after (exec (.rawGetFeatures 0 0x90 1 5) rawFlash)).fget (.FLC_RAW_STAT 0) F.FLC_RAW_STAT_RESULT = 1 ∧
    (after (exec (.rawReadStatus 0 1 0xE0) rawFlash)).fget (.FLC_RAW_STAT 0) F.FLC_RAW_STAT_STATUS = 0xE0 ∧
    (after (exec (.rawResetLun 0 1 false true) rawFlash)).fget (.FLC_RAW_STAT 0) F.FLC_RAW_STAT_RESULT = 5 ∧
    (flashed 6).isOpen 0 ((flashed 6).rawAddr 0).lun = false ∧
    (after (exec (.rawEraseBlock 0 1 true) (flashed 6))).fget (.FLC_RAW_STAT 0) F.FLC_RAW_STAT_RESULT = 1 ∧
    (let f := rawFlash.fset (.FLC_LUN_FENCE 0) F.FLC_LUN_FENCE_FENCED 2
     f.lunFenced 0 1 = true ∧ (after (exec (.rawEraseBlock 0 1 true) f)).fget (.FLC_RAW_STAT 0) F.FLC_RAW_STAT_RESULT = 5) := by
  unfold RawIssues
  decide +kernel

/-- Pipeline 0, a scan over engines 0 and 1 whose span 2 runs, with one descriptor waiting. -/
def pipeline (kind ctx : Nat) (rrd : Word) : State :=
  let s := (flashed 6).rset (.RTV_QWR 0) (rrd + 1)
  let s1 := (s.rset (.RTV_QRD 0) rrd).rset (.RTV_RRD 0) 0
  { s1 with
    spans := [(2, { (default : SpanEnt) with st := .running })]
    image := { s1.image with
      pipes := [(0, ⟨true, kind, 3, 0, 1, 0, true, ctx, [], 2⟩)]
      parts := [(0, ⟨true, 0, 5, 1, 0x030000000000, 1024, 2⟩), (1, ⟨true, 0, 6, 1, 0x030000100000, 32896, 2⟩)] } }

/-- A query of pipeline 0 in a stage. -/
def q1 (stage : Nat) (fin fail : Option Nat) : Query :=
  { (default : Query) with pipe := 0, ix := 7, stage := stage, fin := fin, fail := fail, slotAddr := 0x030000100000 }

/-- The device with that query, admitted. -/
def asked (q : Query) : State :=
  { pipeline 1 0 0 with retr := { (pipeline 1 0 0).retr with queries := [(7, some q)] } }

theorem witness_QueriesAdvance :
    (pipeline 1 0 0).hasHead 0 = true ∧ (pipeline 1 0 0).admitHold 0 = none ∧ State.reset.hasHead 0 = false ∧
    (after (exec (.queryAdmit 0) (pipeline 1 0 0))).rget (.RTV_QRD 0) = 1 ∧
    (pipeline 1 0 2).admitHold 0 = some .res ∧ (after (exec (.queryAdmit 0) (pipeline 1 0 2))).bget .RTV_EVT F.RTV_EVT_RES_FULL = true ∧
    (let w := { pipeline 2 0 0 with retr := { (pipeline 2 0 0).retr with queries := [(7, some { q1 0 none none with ctx := 1 })] } }
     w.admitHold 0 = some .ctx ∧ (after (exec (.queryAdmit 0) w)).bget .RTV_EVT F.RTV_EVT_CTX_FULL = true) ∧
    (let d : FDone := { (default : FDone) with who := .query 7 }
     let s := { asked (q1 0 none (some 8)) with flash := { (flashed 6).flash with done := [d] } }
     (s.nextUnit 7).isSome = true ∧ (after (exec (.unitDelivered 0 7) s)).flash.done = []) ∧
    ((asked (q1 0 none none)).pipe 0).valid = true ∧ (after (exec (.resultReadAdvance 0 2) (pipeline 1 0 2))).rget (.RTV_RRD 0) = 2 ∧
    (after (exec (.resultReadAdvance 0 3) (pipeline 1 0 2))).bget .RTV_EVT F.RTV_EVT_OVR = true := by decide +kernel

/-- Nothing keeps the admission of the pipeline's head waiting. -/
theorem witness_QueriesAdvance_paths : PathsFree (pipeline 1 0 0) := pathsFree_of rfl rfl (by decide +kernel)

/-- The head's admission waits while its unit's requests of ticket 0 are held everywhere; no query is admitted while the entry of an engine of
the pipeline is stopped. -/
theorem witness_QueriesAdvance_waits :
    (let s := { pipeline 1 0 0 with tkt := { (pipeline 1 0 0).tkt with
       hold := (List.range 74).map (fun r => ((((pipeline 1 0 0).headQuery 0).unit, r), 0xFFFF)) } }
     s.hasHead 0 = true ∧ s.admitHold 0 = none ∧ (s.takeHead 0).toOption.isNone = true) ∧
    (let s := { pipeline 1 0 0 with spans := (pipeline 1 0 0).spans ++ [(3, { (default : SpanEnt) with st := .idle, members := [.re 0] })] }
     bitAt (s.pipe 0).reMask 0 = true ∧ s.ownEntry (.re 0) = some 3 ∧ (s.spans.at 3).st ≠ .running) := by decide +kernel

/-- A walk whose round has delivered node 0, in a unit of records without identifiers, or with more neighbours than it has room for. -/
def walking (b : Byte) : Query :=
  { q1 0 none none with
    desc := toBytes 4 0x00010002 ++ List.replicate 28 0 ++ toBytes 4 16 ++ List.replicate 8 0 ++ toBytes 4 256 ++ List.replicate 80 0
    list := [⟨0, none, .reading⟩]
    sel := [(0, List.replicate 32 b, 0)] }

theorem witness_QueriesAdvance_walk :
    (let q := walking 0xFF
     (asked q).retr.queries.at (qkey 0 7) = some q ∧ q.fail = none ∧ q.fin = none ∧ q.sel ≠ [] ∧
     q.sel.length = (q.list.filter (fun x => x.st = .reading)).length ∧
     (({ q with sel := [] } : Query).expandAll q.desc (q.sel.foldr nodeIns [])).isOk = true) ∧
    (let q := walking 0x01
     (({ q with sel := [] } : Query).expandAll q.desc (q.sel.foldr nodeIns [])).isOk = false ∧
     ((after (exec (.walkRound 0 7) (asked q))).retr.queries.at 7).map (·.fail) = some (some 8)) := by decide +kernel

theorem witness_QueriesEndAndForward :
    ((asked (q1 0 (some 1) none)).rtvWrite (q1 0 (some 1) none) ((q1 0 (some 1) none).slotAddr + 0x40) []).toOption.map (·.2) = some true ∧
    ((after (exec (.queryEnd 0 7) (asked (q1 0 (some 1) none)))).retr.queries.at 7).map (·.stage) = some 1 ∧
    (after (exec (.queryFail 0 7) (asked (q1 0 none (some 8))))).fget .RTV_FAIL F.RTV_FAIL_STATUS = 8 ∧
    (after (exec (.resultHeaderWrite 0 7) (asked (q1 1 none (some 8))))).retr.queries.at 7 = none ∧
    ((after (exec (.resultHeaderWrite 0 7) (asked (q1 1 (some 1) none)))).retr.pipes.at 0).ended = 1 ∧
    bitAt ((after (exec (.reFence 0x8000 true) live)).fget .RTV_STAT F.RTV_STAT_RE_FENCED) 15 = true := by decide +kernel

/-- Query 7 of the pipeline with its result written, its forward waiting, in copy or outstanding, over a RERANK route of `n` bytes. -/
def forwarding (n : Word) (waiting : List Nat) (copying : List (Nat × Nat)) : State :=
  let s := asked (q1 2 (some 1) none)
  { s with
    image := { s.image with routes := [(0, ⟨true, 2, [0, 0, 0, n, 0, 0, 0, 0]⟩)] }
    retr := { s.retr with pipes := [(0, { (default : PipeUnit) with waiting := waiting, copying := copying, completions := 1, outst := 1 })] } }

theorem witness_QueriesEndAndForward_forwards :
    (let s := forwarding 0x00010000 [7] []
     (s.retr.pipes.at 0).waiting = [7] ∧ (s.retr.queries.at 7).isSome = true ∧ (s.image.routes.at (s.pipe 0).rerank).valid = true ∧
     (s.retr.pipes.at 0).outst + (s.retr.pipes.at 0).copying.length < s.nwin 0 ∧
     ((after (exec (.forwardStart 0) s)).retr.pipes.at 0).copying = [(7, 0)] ∧
     ((after (exec (.forwardFree 0) s)).retr.pipes.at 0).outst = 0) ∧
    (let s := forwarding 16448 [7] []
     s.nwin 0 ≤ (s.retr.pipes.at 0).outst + (s.retr.pipes.at 0).copying.length) ∧
    (let s := forwarding 0x00010000 [] [(7, 0)]
     ((after (exec (.forwardDoorbell 0) s)).retr.pipes.at 0).copying = [] ∧ (after (exec (.forwardDoorbell 0) s)).retr.queries.at 7 = none) := by
  decide +kernel

/-- Nothing keeps a query's writes waiting, as it ends, writes its header or is forwarded. -/
theorem witness_QueriesEndAndForward_paths :
    PathsFree (asked (q1 0 (some 1) none)) ∧ PathsFree (asked (q1 1 (some 1) none)) ∧ PathsFree (forwarding 0x00010000 [7] []) :=
  ⟨pathsFree_of rfl rfl (by decide +kernel), pathsFree_of rfl rfl (by decide +kernel), pathsFree_of rfl rfl (by decide +kernel)⟩

/-- The requests of a query's ticket held wherever they go. -/
theorem witness_QueriesEndAndForward_held :
    let q := { q1 0 (some 1) none with ticket := 1, desc := [1, 0, 1, 0], heaps := [(0, [⟨5, 0, 0⟩])] }
    let s := { asked q with tkt := { (asked q).tkt with hold := (List.range 74).map (fun r => ((q.unit, r), 0xFFFF)) } }
    (s.rtvWrite q (q.slotAddr + 0x40) ((heapMerge (QDesc.k q.desc) (q.heaps.map (·.2))).flatMap QRec.bytes)).toOption.isNone = true ∧
    (after (exec (.queryEnd 0 7) s)).retr.queries.at 7 = some q := by decide +kernel

/-- A live device whose bundle pair 0 is in a state, with feature level 2. -/
def bundled (st : Nat) : State := (live.fset (.CWY_STAT 0) F.CWY_STAT_STATE st).fset .GLB_FEATURE F.GLB_FEATURE_LEVEL 2

/-- A flit of zero words with a valid field, sealed with its CRC. -/
def flit0 (v : Fin 1048576) : Flit := ⟨List.replicate 32 0, 0, Fin.ofNat 65536 (flitCrc ⟨List.replicate 32 0, 0, 0, v⟩), v⟩

theorem witness_FlitsAndFramesComplete :
    let s := bundled 2
    let a := after (exec (.flitReceive 0 false (flit0 1) 0) s)
    s.bundleLive 0 = true ∧ bitAt (flit0 1).valid.val 0 = true ∧ flitCrc (flit0 1) = (flit0 1).crc.val ∧ (flit0 1).words.length = 32 ∧
    (∀ w ∈ (flit0 1).words, (flitWord w).2.2 = none) ∧ (a.dirOf 0 0).seq = 1 ∧
    ((after (exec (.flitReceive 0 false (flit0 1) 0) a)).dirOf 0 0).acc = 1 ∧
    (let b : Flit := { flit0 1 with crc := 0 }
     let f := after (exec (.flitReceive 0 false b 0) s)
     flitCrc b ≠ b.crc.val ∧ (f.dirOf 0 0).fails = 1 ∧ f.outbox = [.dnak 0 false 31]) ∧
    (after (exec (.dnakReceive 0 false 5) s)).fget (.CWY_CRC 0) F.CWY_CRC_REPLAY = 1 := by decide +kernel

/-- A flit of words `l`, sealed with its CRC; one whose CRC fails. -/
def flitOf (l : List Nat) (v : Fin 1048576) : Flit :=
  let f : Flit := ⟨l ++ List.replicate (32 - l.length) 0, 0, 0, v⟩
  { f with crc := Fin.ofNat 65536 (flitCrc f) }

/-- The words of one command header, of operation `op` with TAG 9, in a command flit. -/
def hdrWords (op : Nat) : List Nat :=
  ({ (default : CmdHdr) with op := op, tag := 9, addr := 0x030000000000 } : CmdHdr).words.map (fun w => wireWord w false)

theorem witness_FlitsAndFramesComplete_headers :
    let s := bundled 2
    let w := flitOf (hdrWords 3) 3
    let r := flitOf (hdrWords 2) 3
    let hs (f : Flit) := headersOf (f.words.map (fun w => (flitWord w).1))
    w.words.length = 32 ∧ bitAt w.valid.val 0 = true ∧ bitAt w.valid.val 1 = true ∧ flitCrc w = w.crc.val ∧ flitCrc r = r.crc.val ∧
    bits w.valid.val 2 5 = (s.dirOf 0 0).seq ∧ (∀ x ∈ w.words, (flitWord x).2.2 = none) ∧ (∀ x ∈ r.words, (flitWord x).2.2 = none) ∧
    s.edgeFull 0 0 = false ∧ (∀ h ∈ hs w, h.op = 0 ∨ 3 ≤ h.op) ∧ ((hs r).filter (fun h => h.op ≠ 0)).map (·.op) = [2] ∧
    ((after (exec (.flitReceive 0 false w 0) s)).dirOf 0 0).writes.map (·.hdr.tag) = [9] ∧
    goesOn (exec (.flitReceive 0 false r 0) s) = true := by decide +kernel

theorem witness_FlitsAndFramesComplete_fails :
    let s := bundled 2
    let t := { s with cwy := [(0, { s.cwy.at 0 with dirs := [(0, { s.dirOf 0 0 with fails := 8 })] })] }
    let g (v : Fin 1048576) : Flit := { flit0 v with crc := 0 }
    t.bundleLive 0 = true ∧ (t.dirOf 0 0).fails = 8 ∧ t.edgeFull 0 0 = false ∧ t.bundleState 0 = 2 ∧ t.level2 = true ∧
    t.bundleState (bundleMate 0) ≠ 3 ∧ flitCrc (g 1) ≠ (g 1).crc.val ∧ vparOk (g 1).valid.val = true ∧
    flitCrc (g 3) ≠ (g 3).crc.val ∧ vparOk (g 3).valid.val = false ∧
    (after (exec (.flitReceive 0 false (g 3) 0) t)).bundleState 0 = 3 := by decide +kernel

/-- A chain frame: its valid bit, level 0, the header bit, the word, CSEQ 0, sealed with its CRC. -/
def chainFrame (hdr : Bool) (w : Nat) : BitVec 64 :=
  let x := 1 + b2n hdr * 4 + w * 8
  BitVec.ofNat 64 (x + crc16 (bitsLow 48 x) * 2 ^ 48)

theorem witness_FlitsAndFramesComplete_chain :
    let s := bundled 2
    let x := (chainFrame true 0x20000000).toNat
    s.bundleState 0 ∈ [1, 2, 4] ∧ crc16 (bitsLow 48 x) = bits x 48 16 ∧ bitAt x 0 = true ∧ bits x 35 3 = (s.dirOf 0 0).cseq ∧
    bitAt x 2 = true ∧ bitAt x 1 = false ∧ bits (bits x 3 32) 4 2 = 0 ∧
    (after (exec (.chainFrameReceive 0 false (chainFrame true 0x20000000)) s)).outbox.length = 1 ∧
    (after (exec (.chainFrameReceive 0 true (chainFrame true 0x20000000)) s)).chain.waiting.length = 1 ∧
    ((after (exec (.chainFrameReceive 0 true (chainFrame true 0x20000010)) s)).dirOf 0 1).chainIn.at 0 = [0x20000010] ∧
    crc16 (bitsLow 48 0) ≠ bits 0 48 16 ∧ (after (exec (.chainFrameReceive 0 false 0) s)).outbox = [.cnak 0 false 7] ∧
    (bundled 5).bundleState 0 ∉ [1, 2, 4] := by decide +kernel

theorem witness_BundlesRetrainAndRetire :
    (bundled 2).level2 = true ∧ (bundled 2).bundleState (bundleMate 0) ≠ 3 ∧ (after (exec (.bundleRetrain 0) (bundled 2))).bundleState 0 = 3 ∧
    (bundled 3).bundleState 0 = 3 ∧ repairMap ((bundled 3).rget (repairReg 0 0)) [] [] = some [127, 127, 127, 127] ∧
    (after (exec (.retrainDone 0 [] [] true) (bundled 3))).bundleState 0 = 2 ∧
    (after (exec (.bundleRetire 0 true) (bundled 2))).bundleState 0 = 5 ∧
    ((after (exec (.clockPairLost 0 false true) (bundled 2))).cwy.at 0).clkFail = true ∧
    (let w := F.CWY_DISC_FEATURE.put (F.CWY_DISC_KIND.put 0 (dieKind 1)) 2
     bundleDie 0 = 1 ∧ bundleIx 0 = 0 ∧ ((after (exec (.discReceive 0 w 9 true) (bundled 2))).bup.dies.at 1).feature = 2 ∧
     (after (exec (.discReceive 0 0xFFFFFFFF 9 true) (bundled 2))).dieFenced 1 = true) := by decide +kernel

/-! ### Wealey links -/

/-- A live device whose link die 0 runs, and whose port 0 is in a state. -/
def ported (st : Nat) : State :=
  (live.fset (.CWY_STAT (bundleNo ((bundlesOf 10).headD 0))) F.CWY_STAT_STATE 2).fset (pstatReg 0) F.LNK_PSTAT_STATE st

theorem witness_PortStatesChange :
    (after (exec (.detectRetry 0) (ported 0))).portState 0 = 1 ∧ (ported 0).fget .PWR_STATE F.PWR_STATE_STATE = 0 ∧
    (ported 0).linkOn 0 = true ∧ (ported 0).portRole (ported 0).bootTier 0 = 1 ∧ (ported 0).bootTier = 0 ∧ (after (exec (.portSignalDetect 0) (ported 1))).portState 0 = 2 ∧
    (after (exec (.trainLock 0) (ported 2))).portState 0 = 3 ∧ (after (exec (.trainTimeout 0) (ported 2))).portState 0 = 1 ∧
    (let h := { ported 3 with ports := [(0, { (default : PortUnit) with hello := true })] }
     (after (exec (.checkPass 0) h)).portState 0 = 4) ∧
    (after (exec (.portSignalLost 0) (ported 4))).portState 0 = 1 ∧ (after (exec (.portRetrain 0) (ported 4))).portState 0 = 5 ∧
    (let r := { ported 4 with ports := [(0, { (default : PortUnit) with retrains := [0, 0] })] }
     (after (exec (.portRetrain 0) r)).portState 0 = 6) ∧
    (after (exec (.portRetrainWrite 0) (ported 6))).portState 0 = 2 ∧ (after (exec (.portRetrainDone 0) (ported 5))).portState 0 = 4 ∧
    (after (exec (.portRetrainTimeout 0) (ported 5))).portState 0 = 6 ∧ (after (exec (.portDisable 0) (ported 4))).portState 0 = 7 ∧
    (after (exec (.portEnable 0) (ported 7))).portState 0 = 0 ∧ (after (exec (.portDisable 0) (ported 8))).portState 0 = 8 := by
  decide +kernel

/-- A request frame from device 5 to device `dst`, of no data. -/
def frame (dst : Dev) (hops : Fin 64) : Frame := ⟨2, false, 1, 0, 5, false, dst, hops, 0, 9, 0x030000000000, 4, [], 0, [], []⟩

/-- A control entry for device `dst`. -/
def entry (kind : Fin 16) (dst : Dev) (w : List Word) : Entry := ⟨kind, false, 5, dst, false, w⟩

theorem witness_SlicesAndFramesMove :
    (after (exec (.codewordReceive 0 3 false 2) (ported 4))).fget (lfecReg 0) F.LNK_FEC_CORR = 3 ∧
    ((after (exec (.codewordReceive 0 0 true 2) (ported 3))).ports.at 0).nak = true ∧
    ((after (exec (.controlSliceReceive 0 7 false 0xFFFF 0 0 0) (ported 4))).ports.at 0).crReq = 4096 ∧
    ((after (exec (.controlSliceReceive 0 7 true 0 0 0 0) (ported 4))).fget (ucwReg 0) F.LNK_UCW_REPLAY = 1) ∧
    ((after (exec (.chainEntryReceive 0 (entry 0 63 [0, 0, 0, 0, 0])) (ported 4))).grp.entries.length = 1) ∧
    ((after (exec (.chainEntryReceive 0 (entry 0 0 [0x1, 0, 0, 0, 0])) (ported 4))).chain.waiting.length = 1) ∧
    (let b := { ported 4 with bridgeEn := true }
     let w : List Word := [0x2D, 0, 7, 0, 0]
     bits 0x2D 0 4 = 0xD ∧ bits 0x2D 6 1 = 0 ∧ bits 0x2D 4 2 = 2 ∧ 7 < fnVectors 0 ∧ (b.fns.at 0).en = false ∧
     ((after (exec (.chainEntryReceive 0 (entry 1 0 w)) b)).fns.at 0).pending = [7] ∧
     (after (exec (.chainEntryReceive 0 (entry 1 0 w)) { b with fns := [(0, { (default : FnUnit) with en := true })] })).outbox = [.msix 0 7]) := by
  decide +kernel

/-- The header of a message of class `c` about span 3, with `n` payload words. -/
def aboutSpan (c n : Nat) : Word := wordOf (c + n * 16 + 64 + 3 * 128)

/-- The message that an entry with these words brings. -/
def brings (l : List Word) : ChainMsg :=
  ChainMsg.parse ((l.map (·.toNat)).take (1 + bits ((l[0]?).getD 0).toNat 4 2))

theorem witness_SlicesAndFramesMove_spans :
    let s := spanOf .running [.engine 0] (ported 4)
    let l (c : Nat) (w : List Word) : List Word := aboutSpan c w.length :: w
    let go (c : Nat) (w : List Word) : State := after (exec (.chainEntryReceive 0 (entry 1 0 (l c w))) s)
    (brings (l 3 [2, 0])).toSpan = true ∧ (brings (l 3 [2, 0])).cls = 3 ∧ (brings (l 3 [2, 0])).dest = 3 ∧
    (brings (l 3 [2, 0])).words = [2, 0] ∧ ((go 3 [2, 0]).spans.at 3).st ≠ .running ∧
    (brings (l 3 [8, 5])).words = [8, 5] ∧ (brings (l 3 [4, 0])).words = [4, 0] ∧
    (brings (l 2 [7])).cls = 2 ∧ (brings (l 2 [7])).words = [7] ∧ (brings (l 2 [256 + 7])).words = [256 + 7] ∧
    (brings (l 0xD [1, 0])).cls = 0xD ∧ (brings (l 0xD [1, 0])).words = [1, 0] ∧ ((go 0xD [1, 0]).spans.at 3).drained = 2 ^ 5 ∧
    (brings (l 0xD [1, 0, 0])).words = [1, 0, 0] ∧ (brings (l 1 [])).cls ∉ [2, 3, 7, 8, 9, 0xA, 0xD] ∧
    (go 1 []).chain.waiting.length = 1 ∧ (brings [0x1, 0, 0, 0, 0]).toSpan = false := by decide +kernel

theorem witness_SlicesAndFramesMove_replay :
    let f := frame 9 0
    let s := { ported 4 with ports := [(0, { (default : PortUnit) with sent := [(5, .inl f), (9, .inl f)] })] }
    s.portState 0 = 4 ∧ (s.ports.at 0).fails + 1 < 9 ∧
    ((after (exec (.controlSliceReceive 0 7 false 0 0 0 0) s)).ports.at 0).sent.map (·.1) = [9] ∧
    (after (exec (.controlSliceReceive 0 7 true 0 0 0 0) s)).outbox = [.frame 0 f] := by decide +kernel

/-- A device whose port 0 is the way to devices 0 and 9, with a frame and an entry to send. -/
def queued (es : List Entry) (fs : List Frame) : State :=
  let s := { ported 4 with
    ports := [(0, { (default : PortUnit) with crReq := 64, crRsp := 64, crCtl := 1 })]
    devs := [(0, ⟨true, 1, 1, 1, 0, 0, 0, 0⟩), (9, ⟨true, 1, 1, 1, 0, 0, 0, 0⟩)] }
  { s.fset .LNK_GRP F.LNK_GRP_STATE 2 with grp := { s.grp with entries := es, frames := fs } }

theorem witness_SlicesAndFramesMove_send :
    (queued [entry 0 9 []] []).nextEntry 0 = some (entry 0 9 []) ∧
    (after (exec (.frameSend 0) (queued [entry 0 9 []] []))).grp.entries = [] ∧
    (queued [] [frame 9 0]).nextEntry 0 = none ∧ (queued [] [frame 9 0]).nextFrame 0 = some (frame 9 0) ∧
    (after (exec (.frameSend 0) (queued [] [frame 9 0]))).grp.frames = [] ∧
    (queued [entry 0 9 []] []).readyEntry 0 = some (entry 0 9 []) ∧ (queued [] []).readyEntry 0 = none ∧
    (let t : State := { queued [] [] with ports := [(0, { (default : PortUnit) with since := 64, nak := true, rxSeq := 5, freeReq := 3 })] }
     t.readyEntry 0 = none ∧ (after (exec (.frameSend 0) t)).outbox = [.linkFields 0 5 true 3 0 0]) ∧
    ((after (exec (.frameSend 0) (queued [] []))).ports.at 0).since = 1 ∧
    (let t : State := { queued [] [] with ports := [(0, { (default : PortUnit) with crCtl := 1, due := [entry 0 9 []] })] }
     t.readyEntry 0 = some (entry 0 9 []) ∧ ((after (exec (.frameSend 0) t)).ports.at 0).due = []) ∧
    (queued [] [frame 30 0]).heldFrames = [frame 30 0] ∧ frameRequest (frame 30 0) = true ∧ (queued [] []).devNum ≠ 5 ∧
    ((after (exec .frameExpire (queued [] [frame 30 0]))).grp.frames.map (fun g => (g.typ, g.status, g.dst))) = [(4, 3, 5)] := by
  decide +kernel

theorem witness_TheGroupFormsAndLosesDevices :
    (after (exec (.helloReceive 0 1 0 0 false 0 1 0) (ported 3))).portState 0 = 7 ∧
    ((after (exec (.helloReceive 0 2 3 4 false 0 1 0) (ported 3))).ports.at 0).peer = 2 ∧ live.fuses.serial = 1 ∧
    (let g := live.fset .LNK_GRP F.LNK_GRP_STATE 1
     (after (exec .discoveryEnd g)).fget .LNK_GRP F.LNK_GRP_STATE = 2) ∧
    ((after (exec (.enumReceive 1 8 2 1) live)).fget .LNK_GRP F.LNK_GRP_DEVNUM = 8) ∧
    (let p := { ported 4 with ports := [(0, { (default : PortUnit) with peer := 7 })] }
     (after (exec (.enumReceive 7 8 2 1) p)).outbox.length = 1) ∧
    (let b := { live.fset .LNK_GRP F.LNK_GRP_STATE 2 with bridgeEn := true, lostDevs := [4], devs := [(4, ⟨true, 1, 0, 0, 0, 0, 0, 0⟩)] }
     (after (exec .rescan b)).lostDevs = [] ∧ (after (exec (.deviceLost 4) { b with lostDevs := [] })).lostDevs = [4]) ∧
    ((after (exec (.routeReceive 9 1 1 1 3 true) live)).devs.at 9).up = 1 ∧
    ((after (exec (.routeReceive 9 1 1 1 3 false) live)).grp.arriving.length = 1) ∧
    ((after (exec (.linkstateReceive 2 3 true 1 0 0) live)).grp.links.length = 1) ∧
    (after (exec (.lostReceive 9 false 0) live)).lostDevs = [9] ∧ live.devNum = 0 ∧
    (let i := live.fset .LNK_GRP F.LNK_GRP_STATE 2
     (i.devs.at 0).up = 0 ∧ (after (exec .deviceIsolated i)).fget .LNK_GRP F.LNK_GRP_STATE = 4) := by decide +kernel

theorem witness_FramesReachTheirDevice :
    let s := ported 4
    let f := frame 0 0
    (s.portState 0 = 4 ∧ f.hops.val < 63 ∧ f.dst.val = s.devNum ∧ segCrcs f.addr f.data = f.segcrc) ∧
    (after (exec (.wealeyRead 0 (frame 9 0)) s)).grp.frames = [frame 9 0] ∧
    segOk (frame 9 0) = true ∧ segOk { frame 9 0 with typ := 1, data := [1], segcrc := [0] } = false ∧
    ((after (exec (.wealeyWrite 0 { frame 9 0 with data := [1], segcrc := [0] }) (s.fset (.LNK_CTL 0) F.LNK_CTL_UCW_THR 2))).ports.at 0).nak = true ∧
    ((after (exec (.wealeyRead 0 (frame 9 63)) s)).grp.frames.map (fun g => (g.typ, g.status))) = [(4, 3)] ∧
    ((after (exec (.wealeyRead 0 { f with host := true }) s)).grp.frames.map (fun g => (g.typ, g.status))) = [(4, 1)] ∧
    registerOff 0x0F0000000000 = some 0 ∧ registerOff f.addr = none ∧ regForm 0 4 = true ∧ regForm 2 4 = false ∧ s.grp.ingress = [] ∧
    goesOn (exec (.wealeyRead 0 f) s) = true ∧
    ((after (exec (.wealeyRead 0 { f with addr := 0x0F0000000002 }) s)).grp.frames.map (fun g => (g.typ, g.status))) = [(4, 1)] := by
  decide +kernel

theorem witness_FramesAreServed_answers :
    let s := { ported 4 with grp := { (ported 4).grp with tags := [(9, 5)] } }
    (after (exec (.wealeyRdata 0 (frame 0 0)) s)).grp.tags = [] ∧ (after (exec (.wealeyCpl 0 { frame 0 0 with status := 1 }) s)).resp = .error ∧
    (let e := { frame 0 0 with engines := 2 ^ 95, addr := 0, data := [7], segcrc := segCrcs 0 [7], len := 1 }
     State.reset.absent 95 = true ∧ live.absent 95 = false ∧
     (after (exec (.wealeyEwrite 0 e) s)).mem.data = [(localKey (live.siteOf 95), 7)]) := by decide +kernel

/-- An engine's step waits for the frame of TAG 9 that it has sent; a host's read of another device for that of TAG 9. -/
theorem witness_FramesAreServed_waited :
    let k : EngUnit := { (default : EngUnit) with task := some (taskAt 1), steps := [{ run0 with tags := [9] }] }
    let s := { ported 4 with engs := [(0, k)], grp := { (ported 4).grp with tags := [(9, 5)] } }
    let w : WinRead := ⟨0, 1, 0, [(9, 4, [], [])]⟩
    let r := { ported 4 with grp := { (ported 4).grp with tags := [(9, 5)], winReads := [w] } }
    let d := { frame 0 0 with data := [1, 2, 3, 4], segcrc := segCrcs 0x030000000000 [1, 2, 3, 4] }
    s.engs.findSome? (fun x => (x.2.steps.find? (fun r => r.tags.contains 9)).map (fun r => (x.1, r))) = some (0, { run0 with tags := [9] }) ∧
    ((after (exec (.wealeyCpl 0 (frame 0 0)) s)).engs.at 0).steps = [] ∧
    (after (exec (.wealeyCpl 0 { frame 0 0 with status := 1 }) s)).resp = .error ∧
    segCrcs d.addr d.data = d.segcrc ∧ (after (exec (.wealeyRdata 0 d) r)).grp.winReads = [] := by decide +kernel

/-- An EWRITE to engine 95, by a path that is free, and by one that is held. -/
theorem witness_FramesAreServed_ewrite :
    let e := { frame 0 0 with engines := 2 ^ 95, addr := 0, data := [7], segcrc := segCrcs 0 [7], len := 1 }
    let s := ported 4
    let w := (List.finRange 78).foldl (fun (s : State) p => s.fset (.CWY_STAT p) F.CWY_STAT_STATE 3) s
    ((s.routeCross (.wealey 0) true [95] e.addr e.data.length).toOption.isSome = true) ∧ s.absent 95 = false ∧
    goesOn (exec (.wealeyEwrite 0 e) s) = true ∧
    ((w.routeCross (.wealey 0) true [95] e.addr e.data.length).toOption.isNone = true) := by decide +kernel

theorem witness_FramesAreServed_paths : BundlesFree (ported 4) := (pathsFree_of rfl rfl (by decide +kernel)).1

/-! ### The host bridge -/

/-- A live device with the bridge whose host link is up and ready. -/
def hosted : State :=
  { ((live.bset .HBR_STAT F.HBR_STAT_UP true).bset .HBR_STAT F.HBR_STAT_READY true).fset .HBR_WIN F.HBR_WIN_BASE 0x1800 with bridgeEn := true }

theorem witness_HostReadsComplete :
    (hosted.hostUp = true ∧ hosted.bget .HBR_STAT F.HBR_STAT_READY = true ∧ (hosted.fns.at 0).d3 = false ∧ (4 : Nat) ≠ 0) ∧
    hosted.ownNumber = 0 ∧ live.hostUp = false ∧ 6 ≤ hosted.stageNow ∧ hosted.inStandby = false ∧ hosted.grp.hostHeld = [] ∧
    (after (exec (.hostRead 0 0 0 4 1) hosted)).outbox.head? = some (.completion 0 1 (.data (toBytes 4 (hosted.regReadAt 0).2.toNat) [false, false, false, false])) ∧
    regForm 2 4 = false ∧ goesOn (exec (.hostRead 0 0 2 4 1) hosted) = true ∧
    hosted.fget .HBR_WIN F.HBR_WIN_BASE * 2 ^ 29 = 0x030000000000 ∧ registerOff 0x030000000000 = none ∧
    goesOn (exec (.hostRead 0 2 0 4 1) hosted) = true ∧
    (let w := hosted.fset .HBR_WIN F.HBR_WIN_BASE (9 * 2 ^ 19)
     (w.fget .HBR_WIN F.HBR_WIN_BASE * 2 ^ 29) / 2 ^ 48 = 9 ∧ (w.devs.at 9).present = false ∧
     (after (exec (.hostRead 0 2 0 4 1) { w with devs := [(9, ⟨true, 1, 1, 1, 0, 0, 0, 0⟩)] })).grp.frames.length = 1) ∧
    hosted.fget (.HBR_VFW_LEN 0) F.HBR_VFW_LEN_LEN * 65536 < 0 + 4 ∧
    (after (exec (.hostRead 0 4 0x3FFC 4 1) hosted)).outbox.head? = some (.completion 0 1 (.data [0, 0, 0, 0] [false, false, false, false])) := by
  decide +kernel

theorem witness_HostWritesComplete :
    doorbellOf (hosted.regGroup 0) = none ∧ regForm 0 4 = true ∧
    (after (exec (.hostWrite 0 0 (Reg.MEM_INST_SEL.offset) [1, 0, 0, 0] false) hosted)).rget .MEM_INST_SEL = 1 ∧
    ((after (exec (.hostWrite 0 4 12 [9, 0, 0, 0] false) (spanOf .idle [] hosted))).spans.at 3).held = some (9, 15 + 16) ∧
    goesOn (exec (.hostWrite 0 2 0 [7] false) hosted) = true ∧
    (let w := { hosted.fset .HBR_WIN F.HBR_WIN_BASE (9 * 2 ^ 19) with devs := [(9, ⟨true, 1, 1, 1, 0, 0, 0, 0⟩)] }
     (after (exec (.hostWrite 0 2 0 [7] false) w)).grp.winWrites.length = 1) ∧
    hosted.fget (.HBR_VFDB 0) F.HBR_VFDB_COUNT ≤ 0 / 4 := by decide +kernel

theorem witness_HostLinkAndFunctionsComplete :
    (after (exec (.hostConfigRequest 0 .read) (hosted.bset .HBR_STAT F.HBR_STAT_READY false))).resp = .retry ∧
    (after (exec (.hostConfigRequest 3 (.msix true false)) { hosted with fns := [(3, { (default : FnUnit) with pending := [1] })] })).outbox = [.msix 3 1] ∧
    ((after (exec (.hostConfigRequest 3 (.vector 2 true)) hosted)).fns.at 3).masked = [2] ∧
    ((after (exec (.hostConfigRequest 3 (.power true)) hosted)).fns.at 3).d3 = true ∧ (hosted.fns.at 3).en = false ∧
    hosted.perst = false ∧ hosted.mainOff = false ∧ hosted.dieFenced 11 = false ∧
    (after (exec (.hostLinkChange 6 16 true true) hosted)).fget .HBR_STAT F.HBR_STAT_WIDTH = 16 ∧
    (after (exec (.hostLinkChange 0 0 false false) hosted)).hostUp = false ∧
    (after (exec .hostLinkRetrain hosted)).outbox = [.linkRetrain] ∧
    (after (exec (.flr 3) { hosted with fns := [(3, { (default : FnUnit) with en := true })] })).fns.at 3 = default ∧
    (let q := { hosted with grp := { hosted.grp with hostq := [(5, frame 5 0)] } }
     (after (exec .perst q)).perst = true ∧ (after (exec .perst q)).grp.frames.length = 1 ∧
     ((after (exec (.hostReadCompletion 5 9 none) q)).grp.frames.map (·.status)) = [1]) ∧
    (let q := { hosted with grp := { hosted.grp with hostq := [(5, { frame 5 0 with len := 1 })] } }
     ((after (exec (.hostReadCompletion 5 9 (some [8])) q)).grp.frames.map (·.data)) = [[8]]) ∧
    (after (exec .perstDeassert { hosted with perst := true })).perst = false := by decide +kernel

/-- The requests of a host access and of a frame meet the hypotheses about one access, at the start of the shared buffer. -/
theorem witness_CleanAccess_host :
    CleanAccess ((hosted.tlpRx 1).memReq (.host 0) 0x030000000000 4 (hosted.fnTicket 0) 0 [] []) hosted 0x030000000000 cell0 :=
  cleanAccess_of rfl (pathsFree_of rfl rfl (by decide +kernel)).1 (by decide +kernel) (by decide +kernel) (by decide +kernel)
    (by decide +kernel)

@[inherit_doc witness_CleanAccess_host] theorem witness_CleanAccess_frame :
    CleanAccess ((ported 4).memReq (.wealey 0) 0x030000000000 4 1 0 [] []) (ported 4) 0x030000000000 cell0 :=
  cleanAccess_of rfl (pathsFree_of rfl rfl (by decide +kernel)).1 (by decide +kernel) (by decide +kernel) (by decide +kernel)
    (by decide +kernel)


/-! ### The interrupt controller -/

/-- The sources of the example of R416 at target 2, which runs at priority `run` with some claims in service. -/
def irq (src : Tab SrcState) (run : Nat) (stack : List (Nat × Nat)) : State :=
  let s := withRegs [(.ICU_SRC 261, 6), (.ICU_TMASK 261, 4), (.ICU_SRC 418, 12), (.ICU_TMASK 418, 0x8004), (.ICU_SRC 403, 4),
    (.ICU_TMASK 403, 4), (.ICU_COAL 403, 0x3208)]
  { s with icu := { s.icu with src := src, tgt := [(2, { (default : TgtState) with run := run, stack := stack })] } }

/-- A source with events. -/
def events (n : Nat) : SrcState := { (default : SrcState) with count := n }

/-- The three claims of target 2 in the example of R416, and an empty claim. -/
theorem test_claims_of_R416 :
    (after (exec (.claim 2) (irq [(261, { events 1 with line := true })] 0 []))).resp = .word 0x00011905 ∧
    (after (exec (.claim 2) (irq [(418, events 1)] 6 [(261, 0)]))).resp = .word 0x000131A2 ∧
    (after (exec (.claim 2) (irq [(403, { events 5 with expired := true })] 0 []))).resp = .word 0x00051193 ∧
    (after (exec (.claim 2) (irq [(403, events 5)] 0 []))).resp = .word 0x3FF := by decide +kernel

theorem witness_InterruptsAreCountedClaimedAndEnded :
    levelSource 418 = false ∧ reservedSource 418 = false ∧ levelSource 261 = true ∧
    ((after (exec (.sourceEvent 418) State.reset)).icu.src.at 418).count = 1 ∧
    ((after (exec (.sourceEvent 360) State.reset)).icu.src.at 360).count = 0 ∧ reservedSource 360 = true ∧
    ((after (exec (.levelLineRise 261) State.reset)).icu.src.at 261).line = true ∧
    ((after (exec (.softwareInterrupt 63) State.reset)).icu.src.at 511).count = 1 ∧
    (let s := irq [(403, { events 1 with win := some 5 })] 0 []
     (s.icu.src.at 403).win = some 5 ∧ s.fget (.ICU_COAL 403) F.ICU_COAL_WIN = 50 ∧
     ((after (exec (.coalWindowExpire 403) s)).icu.src.at 403).expired = true) ∧
    (irq [(418, events 1)] 6 [(261, 0)]).best 2 = some (418, 12) ∧ (irq [] 0 []).best 2 = none ∧
    ((after (exec (.eoi 2 418) (irq [] 12 [(418, 6), (261, 0)]))).icu.tgt.at 2).run = 6 ∧
    ((after (exec (.eoi 2 261) (irq [] 12 [(418, 6), (261, 0)]))).icu.tgt.at 2).eoiErr = true ∧
    after (exec (.eoi 2 0x3FF) (irq [] 12 [(418, 6)])) = irq [] 12 [(418, 6)] := by decide +kernel


/-! ### Clocks, power and heat -/

/-- A live device in a power state. -/
def powered (st : Nat) : State := (live.fset .PWR_STATE F.PWR_STATE_STATE st).bset .CLK_STAT F.CLK_STAT_REF_OK true

/-- What an interval measures, by its package power. -/
def watts (w : Fin 4096) : Interval := ⟨w, 12000, 100, [], []⟩

theorem witness_PowerAndTemperatureAreHeld :
    (powered 2).pwr.off = false ∧ (powered 2).fget .PWR_STATE F.PWR_STATE_STATE = 2 ∧ (powered 2).pwr.vinLow = false ∧
    (powered 2).fget .PWR_CAP F.PWR_CAP_CAP_W = 1800 ∧ (powered 2).fget .PWR_CAP F.PWR_CAP_PEAK_W = 2000 ∧
    (after (exec (.powerInterval (watts 1800)) (powered 2))).fget .PWR_PKG F.PWR_PKG_POWER_W = 1800 ∧
    (powered 2).halfWant 0 = 0 ∧ (after (exec (.powerInterval (watts 2001)) (powered 2))).halfGet 0 pmFld = 1 ∧
    (powered 0).fget .PWR_STATE F.PWR_STATE_STATE = 0 ∧
    (after (exec (.diodeRead [920]) (powered 0))).pwr.off = true ∧ (after (exec (.diodeRead [919]) (powered 2))).pwr.off = false ∧
    (after (exec (.diodeRead [1]) (powered 0))).pwr.off = false ∧
    (after (exec .thermtripRelease { powered 0 with thm := { (powered 0).thm with trip := true } })).thm.trip = false := by
  decide +kernel

/-- A live device whose first domain has a setpoint. -/
def trimmed (n : Nat) : State :=
  { live with pwr := { live.pwr with rails := [(0, { (default : Rail) with setpt := some n })], ample := [(0, 15)] } }

/-- The grades of an interval, all but the first at guard. -/
def grades (g : Fin 4) : List (Fin 4) := g :: List.replicate 19 1

theorem witness_VoltageAndStepsFollow :
    live.dieFenced 1 = false ∧ live.dozing 0 = false ∧ (trimmed 359).setpoint 0 = 359 ∧ (trimmed 360).setpoint 0 = 360 ∧
    (∀ d : Die, (trimmed 359).fget (.PWR_AVS d) ⟨4, 2⟩ = 0) ∧ (after (exec (.avsInterval (grades 0)) (trimmed 359))).setpoint 0 = 360 ∧
    (after (exec (.avsInterval (grades 0)) (trimmed 360))).halfGet 0 avsFld = 1 ∧
    (after (exec (.avsInterval (grades 0)) (trimmed 360))).setpoint 0 = 360 ∧
    (after (exec (.avsInterval (grades 2)) (trimmed 320))).fget (.PWR_AVS 0) ⟨0, 2⟩ = 2 ∧
    (trimmed 320).avsFloor 0 < 320 ∧ (after (exec (.avsInterval (grades 3)) (trimmed 320))).setpoint 0 = 319 ∧
    (let h := trimmed 320 |>.fset (.CLK_HALF 0) (pmFld 0) 2
     h.halfWant 0 = 2 ∧ (after (exec (.stepChangeApply 0) h)).halfGet 0 appliedFld = 2) ∧
    (let h := (trimmed 320).fset (.CLK_HALF 0) (rampFld 0) 1
     (after (exec (.stepRampDone 0 false) h)).halfGet 0 rampFld = 0) ∧ (trimmed 320).halfGet 1 rampFld = 0 ∧
    ((after (exec (.regulatorReport 64 750 10 20 55) live)).pwr.rails.at 64).meas = 750 ∧
    (after (exec (.clockStretch 0 9) live)).fget .PWR_DROOP F.PWR_DROOP_STRETCH = 9 := by decide +kernel

theorem witness_PowerStatesChange :
    live.fget .PWR_IDLE F.PWR_IDLE_IDLE_CYC ≠ 0 ∧ live.dieRuns 0 = true ∧ live.engineAt 3 = none ∧
    ((after (exec (.siteIdle 3) live)).sites.at 3).gated = true ∧
    (after (exec (.dieDoze 1) (spanOf .idle [.engine 13] live))).fget .PWR_DIE_STAT F.PWR_DIE_STAT_RESULT = 2 ∧
    (after (exec (.dieDoze 1) { live with doze := [(0, 1)] })).fget .PWR_DIE_STAT F.PWR_DIE_STAT_RESULT = 3 ∧
    live.spans = [] ∧ live.load.busy = false ∧ live.modeBusy = false ∧ live.dozeBusy = false ∧ live.subst = [] ∧
    live.fget .TST_STAT F.TST_STAT_STATE = 0 ∧ live.dieFenced 2 = false ∧ (after (exec (.dieDoze 1) live)).doze.at 1 = 1 ∧
    (after (exec (.dozeEntryDone 1) { live with doze := [(1, 1)] })).doze.at 1 = 2 ∧
    (after (exec (.dieWake 1) { live with doze := [(1, 2)] })).doze.at 1 = 3 ∧
    (after (exec (.dieWake 1) { live with doze := [(1, 3)] })).fget .PWR_DIE_STAT F.PWR_DIE_STAT_RESULT = 3 ∧
    (after (exec (.dozeExitDone 1 true true) { live with doze := [(1, 3)] })).doze.at 1 = 0 ∧
    (after (exec (.dozeExitDone 1 false true) { live with doze := [(1, 3)] })).dieFenced 2 = true ∧ live.load.wakes = [] := by
  decide +kernel

theorem witness_PowerStatesChange_package :
    (powered 0).standbyRefusal = 0 ∧ (powered 1).standbyRefusal = 4 ∧ (spanOf .running [] (powered 0)).standbyRefusal = 1 ∧
    (after (exec .standbyEnter (powered 0))).fget .PWR_STATE F.PWR_STATE_STATE = 1 ∧
    (after (exec .standbyEnter (powered 2))).fget .PWR_STATE F.PWR_STATE_REASON = 4 ∧
    (after (exec .standbyEntryDone (powered 1))).fget .PWR_STATE F.PWR_STATE_STATE = 2 ∧
    (after (exec .standbyEntryDone { powered 1 with pwr := { (powered 1).pwr with wake := true } })).fget .PWR_STATE F.PWR_STATE_STATE = 3 ∧
    (powered 1).dieFenced 1 = false ∧ (powered 1).stackFenced 0 = false ∧
    (after (exec .standbyExit (powered 1))).pwr.wake = true ∧ (powered 2).bget .CLK_STAT F.CLK_STAT_REF_OK = true ∧
    (after (exec .standbyExit (powered 2))).fget .PWR_STATE F.PWR_STATE_STATE = 3 ∧
    (after (exec .standbyExit ((powered 2).bset .CLK_STAT F.CLK_STAT_REF_OK false))).pwr.wake = true ∧
    (after (exec .standbyExit (powered 3))).fget .PWR_STATE F.PWR_STATE_REASON = 4 ∧
    (powered 3).fget .PWR_STATE F.PWR_STATE_STATE = 3 ∧
    (after (exec .offAon (powered 0))).pwr.off = true := by decide +kernel

theorem witness_PowerFaultsAreKept :
    railDie 40 = 0 ∧ railDie 0 = 1 ∧ railDie 64 = 19 ∧ live.stackFenced 7 = false ∧ live.logRoom true = true ∧
    (after (exec (.railFault 40 2 true) live)).faultN = true ∧ (after (exec (.railFault 0 2 true) live)).dieFenced 1 = true ∧
    (after (exec (.railFault 64 2 true) live)).dieFenced 19 = true ∧
    (after (exec .refclkLost (powered 0))).pwr.off = true ∧ (after (exec .refclkLost (powered 0))).bup.shutdown = 2 ∧
    (after (exec .refclkLost (powered 2))).pwr.off = false ∧
    (after (exec .pllLockLost (powered 0))).bget .CLK_STAT F.CLK_STAT_PLL_LOCK = false ∧ (powered 0).ldp.crash = [] ∧
    (after (exec .refclkPresent (powered 0))).bget .CLK_STAT F.CLK_STAT_AON_RC = false ∧
    (after (exec .refclkPresent { powered 2 with pwr := { (powered 2).pwr with wake := true } })).bup.kind = 1 ∧
    (after (exec .vinLow live)).pwr.vinLow = true ∧ (after (exec .vinCritical live)).bup.shutdown = 3 ∧ live.pwr.off = false ∧
    (after (exec .vaonLow live)).pwr.off = true ∧
    (after (exec .hubFault (spanOf .running [] live))).faultN = true ∧
    ((after (exec .hubFault (spanOf .running [] live))).spans.at 3).st = .faulted := by decide +kernel


/-! ### Resets, starts and accesses -/

/-- A start that finds the reference, cool diodes, a hub whose own tests pass, and no boot flash. -/
def bare : Found := { (default : Found) with ref := true, cool := true, hubOk := true, logOk := true }

/-- A device whose warm reset has ended. -/
def warmed : State := { State.reset with bup := { State.reset.bup with warm := true, kind := 2 } }

/-- The device after reset in a stage of the start, or with a push in a state. -/
def staged (n : Nat) : State := State.reset.fset .BUP_STAT F.BUP_STAT_STAGE n

theorem witness_ResetsAndStartsComplete :
    live.sec.knot = none ∧ (after (exec (.powerOnReset true false) live)).bup.aonLow = true ∧
    (after (exec (.powerOnReset false true) live)).log.recs.length = 1 ∧ live.log.recs.length = 0 ∧
    (after (exec (.aonRstNRelease 1 2 true) live)).bridgeEn = true ∧
    F.BUP_RST_KEY.get 0xB0070001 = 0xB007 ∧ F.BUP_RST_KIND.get 0xB0070001 = 1 ∧ F.BUP_RST_KIND.get 0xB0070002 = 2 ∧
    (after (exec (.sysReset false) live)).bup.src = 2 ∧ (after (exec (.coldResetCmd 0xB0070001) live)).bup.kind = 1 ∧
    (after (exec (.warmResetCmd 0xB0070002) live)).bup.kind = 2 ∧ live.memKeep = false ∧
    (let k := (live.bset .BUP_CTL F.BUP_CTL_MEM_KEEP true).fset (.STK_STAT 0) F.STK_STAT_STATE 2
     k.memKeep = true ∧ k.fget (.STK_STAT 0) F.STK_STAT_STATE = 2 ∧ (after (exec (.warmResetCmd 0xB0070002) k)).fget (.STK_STAT 0) F.STK_STAT_STATE = 3) ∧ after (exec (.coldResetCmd 0xB0060001) live) = live := by
  decide +kernel

theorem witness_ResetsAndStartsComplete_start :
    State.reset.mayStart = true ∧ State.reset.pwr.off = false ∧ State.reset.bup.warm = false ∧ live.mayStart = false ∧
    (bare.ref && bare.cool) = true ∧ bare.words = [] ∧
    (after (exec (.coldStart { bare with ref := false }) State.reset)).stageNow = 1 ∧
    (after (exec (.coldStart { bare with hubOk := false }) State.reset)).stageNow = 11 ∧
    warmed.mayStart = true ∧ warmed.bup.warm = true ∧
    (after (exec (.warmStart { bare with ref := false } true) warmed)).stageNow = 1 := by
  decide +kernel

theorem witness_ResetsAndStartsComplete_waves :
    (staged 6).stageNow = 6 ∧ (staged 9).stageNow = 9 ∧
    (after (exec (.computeWave bare) (staged 6))).fget .BUP_STAT F.BUP_STAT_LEVEL = 1 ∧
    (after (exec (.computeWave bare) (staged 9))).bup.complete = true ∧
    F.BUP_RCV_GO_GO.get 1 = 1 ∧ F.BUP_RCV_GO_PROGRAM.get 1 = 0 ∧ F.BUP_RCV_GO_PROGRAM.get 3 = 1 ∧ (staged 4).rcvState = 0 ∧
    (staged 4).rget .BUP_RCV_LEN = 0 ∧ (after (exec (.imagePush 1 bare) (staged 4))).rcvState = 4 ∧
    (let p := { staged 4 with bup := { (staged 4).bup with push := some [1, 2] } }
     (after (exec (.imagePushProgram true bare) p)).bup.slot = [1, 2] ∧
     (after (exec (.imagePushProgram false bare) p)).fget .BUP_RCV_STAT F.BUP_RCV_STAT_PROG_FAIL = 1) := by decide +kernel

theorem witness_AccessesWakesAndMountsComplete :
    (after (exec (.registerWrite (.host 0) 2 4 1) live)).resp = .error ∧ Reg.ofOffset 0x07F00000 = none ∧ live.regOff .MEM_INST_SEL = false ∧
    Reg.MEM_INST_SEL.offset < 0x08000000 ∧
    (after (exec (.registerWrite (.host 0) Reg.MEM_INST_SEL.offset 4 3) live)).rget .MEM_INST_SEL = 3 ∧
    (after (exec (.registerWrite (.host 0) Reg.PWR_EVT.offset 4 1) (live.rset .PWR_EVT 3))).rget .PWR_EVT = 2 ∧
    live.regOff .PWR_EVT = false ∧ live.regOff (.CWY_CRC 0) = false ∧ live.regOff .GLB_ID = false ∧
    (after (exec (.clearByRead (.host 0) (Reg.CWY_CRC 0).offset 4) (live.rset (.CWY_CRC 0) 7))).resp = .word 7 ∧
    (after (exec (.clearByRead (.host 0) Reg.GLB_ID.offset 4) live)).resp = .word (live.view .GLB_ID) := by decide +kernel

/-- A device in Standby that watches source 12, of which it has an event. -/
def watching : State :=
  let s := ((powered 2).fset .ICU_WAKE F.ICU_WAKE_MODE 1).rset (.ICU_FERRY 0) 0x800C
  { ((s.rset (.ICU_SRC 12) 3).rset .LDP_FERRY_TMR 5) with icu := { s.icu with src := [(12, { (default : SrcState) with count := 1 })] } }

theorem witness_AccessesWakesAndMountsComplete_wakes :
    watching.watched 12 = true ∧ watching.srcPending 12 = true ∧ watching.pwr.wake = false ∧ watching.watched 13 = false ∧
    (after (exec (.ferrymanWake 12) watching)).fget .PWR_STATE F.PWR_STATE_STATE = 3 ∧
    (after (exec (.ferrymanWake 12) watching)).fget .LDP_FERRY_STAT F.LDP_FERRY_STAT_SOURCE = 12 ∧
    watching.fget .LDP_FERRY_TMR F.LDP_FERRY_TMR_MS = 5 ∧
    (after (exec (.ferryTimer 4) watching)).fget .LDP_FERRY_TMR F.LDP_FERRY_TMR_MS = 1 ∧
    (after (exec (.ferryTimer 5) watching)).fget .LDP_FERRY_STAT F.LDP_FERRY_STAT_CAUSE = 2 ∧
    (let m := live.fset .FLC_MOUNT F.FLC_MOUNT_STATE 3
     m.fget .FLC_MOUNT F.FLC_MOUNT_STATE = 3 ∧ goesOn (exec (.mountDone true true []) m) = true) := by
  decide +kernel


/-! ### Snapshot waves and samples -/

/-- A live device with a wave in progress over some dies. -/
def waving (dies latched devs : List Nat) (ended : Bool) : State :=
  { (live.fset .TEL_SNAP_STAT F.TEL_SNAP_STAT_STATE 1).fset .TEL_SNAP_STAT F.TEL_SNAP_STAT_ID 9 with
    wave := { (default : WaveUnit) with running := true, dies := dies, latched := latched, devs := devs, ended := ended } }

theorem witness_SnapshotWavesComplete :
    live.wave.running = false ∧ (span 1 11).filter live.waveDie ≠ [] ∧ live.numbered = false ∧
    { live with bridgeEn := true }.numbered = true ∧
    (after (exec .snapshotDevice live)).wave.running = true ∧
    (after (exec .snapshotGroup { live with bridgeEn := true })).wave.scope = 2 ∧
    (after (exec .snapshotGroup live)).fget .TEL_SNAP_STAT F.TEL_SNAP_STAT_DROPPED = 1 ∧
    (after (exec .snapshotDevice (waving [1] [] [] false))).fget .TEL_SNAP_STAT F.TEL_SNAP_STAT_DROPPED = 1 ∧
    (after (exec (.spanSnapshot 3) live)).bget .CFG_SPAN_ERR F.CFG_SPAN_ERR_CMD_ERR = true ∧
    (let s := spanOf .idle [.engine 0] live
     s.underLoading 3 = false ∧ (s.spans.at 3).group = false ∧ s.spanDies 3 = [1] ∧
     (after (exec (.spanSnapshot 3) s)).wave.scope = 1) ∧
    (let s := spanOf .idle [] live
     s.groupTops 3 = [] ∧ s.spanDies 3 = [] ∧ (after (exec (.spanSnapshot 3) s)).fget .TEL_SNAP_STAT F.TEL_SNAP_STAT_STATE = 2) ∧
    (let w := spanOf .idle [.engine 0] (waving [1] [] [] false)
     w.wave.held = none ∧ (after (exec (.spanSnapshot 3) w)).wave.held = some 3 ∧
     (after (exec (.spanSnapshot 3) { w with wave := { w.wave with held := some 4 } })).bget .CFG_SPAN_ERR F.CFG_SPAN_ERR_CMD_ERR = true) := by
  decide +kernel

theorem witness_SnapshotWavesComplete_joins :
    (live.wave.running = false ∧ live.devNum ≠ 3 ∧ live.wave.seen = none ∧
     (after (exec (.snapshotMarker ⟨10, 78, 9, 5, some 3⟩) live)).wave.origin = some 3) ∧
    (let w := waving [1] [] [] false
     w.waveDie 1 = true ∧ w.wave.seen = none ∧ (after (exec (.snapshotMarker ⟨10, 78, 9, 5, some 3⟩) w)).wave.origin = none) := by
  decide +kernel

theorem witness_SnapshotWavesComplete_ends :
    (after (exec (.snapshotMarker ⟨1, 0, 9, 5, none⟩) (waving [1] [] [] false))).wave.latched = [1] ∧
    (waving [1] [1] [] false).wave.latched.contains 1 = true ∧ (waving [1] [1] [] false).waveWhole = true ∧
    ((waving [1] [1] [] false).wave.cuts.at (cutKey 0 1)).id ≠ (waving [1] [1] [] false).waveId ∧
    (let c := waving [1] [1] [] false
     let d := { c with wave := { c.wave with cuts := [(cutKey 0 1, { (default : Cut) with id := c.waveId })] } }
     (d.wave.cuts.at (cutKey 0 1)).id = d.waveId ∧ (d.wave.cuts.at (cutKey 0 1)).marked = false ∧
     ((after (exec (.snapshotMarker ⟨0, 0, 9, 5, none⟩) d)).wave.cuts.at (cutKey 0 1)).marked = true) ∧
    (after (exec (.waveStatusReceive 1 none) (waving [1] [1] [] false))).fget .TEL_SNAP_STAT F.TEL_SNAP_STAT_STATE = 2 ∧
    (after (exec (.waveStatusReceive 0 (some 5)) (waving [1] [1] [5] false))).wave.devs = [] ∧
    (waving [1] [] [] false).fget .TEL_SNAP_STAT F.TEL_SNAP_STAT_MISSING = 0 ∧
    (after (exec .waveTimeout (waving [1] [] [] false))).fget .TEL_SNAP_STAT F.TEL_SNAP_STAT_MISSING = 1 ∧
    (let c := waving [1] [1] [5] true
     let g := { c with wave := { c.wave with scope := 2 } }
     g.wave.origin = none ∧ g.wave.held = none ∧
     (after (exec .groupWaveTimeout g)).fget .TEL_GRP_MISS_LO ⟨5, 1⟩ = 1 ∧
     (after (exec .groupWaveTimeout g)).fget .TEL_SNAP_STAT F.TEL_SNAP_STAT_STATE = 3) := by decide +kernel

/-- A live device that samples into a ring of one record, `n` records of it unread. -/
def sampling (n : Word) : State :=
  (((live.bset .TEL_RING_CTL F.TEL_RING_CTL_EN true).fset .TEL_RING_LEN F.TEL_RING_LEN_LEN 64).rset .TEL_RING_WR n)

theorem witness_SamplesComplete :
    (sampling 1).bget .TEL_RING_CTL F.TEL_RING_CTL_EN = true ∧ (sampling 1).fget .TEL_RING_LEN F.TEL_RING_LEN_LEN / 64 = 1 ∧
    ((sampling 1).rget .TEL_RING_WR - (sampling 1).rget .TEL_RING_RD).toNat = 1 ∧ (sampling 1).bget .TEL_EVT F.TEL_EVT_OVF = false ∧
    (after (exec .telSample (sampling 1))).bget .TEL_EVT F.TEL_EVT_OVF = true ∧
    (after (exec .telSample (sampling 1))).rget .TEL_RING_WR = 1 ∧
    ((sampling 0).rget .TEL_RING_WR - (sampling 0).rget .TEL_RING_RD).toNat = 0 ∧
    (after (exec (.telRingReadAdvance 1) (sampling 1))).rget .TEL_RING_RD = 1 ∧
    (after (exec (.telRingReadAdvance 2) (sampling 1))).rget .TEL_RING_RD = 0 ∧
    (after (exec (.histSelect 0x1FF) (live.rset (.TEL_HIST 2) 4))).rget .TEL_HIST_SEL = 0x17F ∧
    (after (exec (.histSelect 0x1FF) (live.rset (.TEL_HIST 2) 4))).rget (.TEL_HIST 2) = 0 := by decide +kernel


/-! ### The landing port -/

/-- A live device whose landing port lets the agent control it. -/
def control : State := live.bset .LDP_ACCESS F.LDP_ACCESS_CONTROL true

theorem witness_LandingPortAnswers :
    live.ldpDead = false ∧ live.ldpBusy = false ∧ { live with tap := { live.tap with ir := 5 } }.ldpDead = true ∧
    { live with ldp := { live.ldp with push := true } }.ldpBusy = true ∧
    (after (exec .getInfo { live with tap := { live.tap with ir := 5 } })).resp = .none ∧
    (after (exec .getInfo { live with ldp := { live.ldp with push := true } })).resp = .vendor 2 [] ∧
    (after (exec (.setEndpointId 0) live)).resp = .mctp [2] ∧ (after (exec (.setEndpointId 9) live)).resp = .mctp [0, 0, 9, 0] ∧
    (after (exec (.crashRead 4) live)).resp = .vendor 3 [] ∧
    (after (exec .crashClear { live with ldp := { live.ldp with crash := [1] } })).ldp.crash = [] ∧
    live.wordRefusal false 0 = 0 ∧ live.wordRefusal false 0x07000000 = 4 ∧ live.wordRefusal false 2 = 5 ∧
    { live with pwr := { live.pwr with off := true } }.wordRefusal false 0 = 1 ∧
    (after (exec (.regRead 0 0) live)).resp = .vendor 3 [] ∧ (after (exec (.regRead 0x07000000 1) live)).resp = .vendor 4 [] ∧
    (after (exec (.regRead 2 1) live)).resp = .vendor 5 [] ∧
    (after (exec (.regRead Reg.GLB_ID.offset 1) live)).resp = .vendor 0 (toBytes 4 (live.view .GLB_ID).toNat) := by decide +kernel

theorem witness_LandingPortAnswers_writes :
    live.wordRefusal true Reg.ICU_WAKE.offset = 0 ∧ resetWord Reg.ICU_WAKE.offset 1 = false ∧
    (after (exec (.regWrite Reg.ICU_WAKE.offset 1 [1]) live)).resp = .vendor 0 [1] ∧
    live.wordRefusal true 0x60000 = 4 ∧ resetWord Reg.BUP_RST.offset 0xB0070001 = true ∧ live.wordRefusal true Reg.BUP_RST.offset = 0 ∧
    (after (exec (.regWrite Reg.BUP_RST.offset 1 [0xB0070001]) live)).bup.kind = 1 ∧
    (after (exec (.crashClrWrite 1) { live with ldp := { live.ldp with crash := [1] } })).ldp.crash = [] ∧
    F.LDP_CRASH_CLR_CLR.get 1 = 1 ∧ (after (exec (.mboxInWrite 7) live)).rget .LDP_MBOX_IN = 7 ∧
    (after (exec (.mboxOutWrite 7) live)).bget .LDP_ALERT F.LDP_ALERT_MBOX = true ∧
    (let a := (live.bset .LDP_ALERT F.LDP_ALERT_MBOX true).rset .LDP_ALERT_EN 0xFFFF
     a.alertN = true ∧ (after (exec .araRead a)).alertN = false ∧ (after (exec .alertReassert (after (exec .araRead a)))).alertN = true) := by
  decide +kernel

theorem witness_LandingPortActs :
    (live.bset .LDP_ACCESS F.LDP_ACCESS_CONTROL false).bget .LDP_ACCESS F.LDP_ACCESS_CONTROL = false ∧ control.bget .LDP_ACCESS F.LDP_ACCESS_CONTROL = true ∧ live.mainOff = false ∧ live.inStandby = false ∧ control.powerBusy = false ∧
    control.standbyRefusal = 0 ∧
    (after (exec (.ldpResetCold 0xB007) (live.bset .LDP_ACCESS F.LDP_ACCESS_CONTROL false))).resp = .vendor 4 [] ∧ (after (exec (.ldpResetCold 1) control)).resp = .vendor 6 [] ∧
    (after (exec (.ldpResetCold 0xB007) control)).bup.src = 4 ∧ (after (exec (.ldpResetWarm 0xB007) control)).bup.kind = 2 ∧
    (after (exec .powerStandby control)).fget .PWR_STATE F.PWR_STATE_STATE = 1 ∧
    (after (exec .powerStandby (spanOf .running [] control))).resp = .vendor 2 [] ∧
    (after (exec .powerRun control)).resp = .vendor 1 [] ∧
    (let b := (control.fset .PWR_STATE F.PWR_STATE_STATE 2).bset .CLK_STAT F.CLK_STAT_REF_OK true
     b.inStandby = true ∧ b.powerBusy = false ∧ b.pwr.wake = false ∧ (after (exec .powerRun b)).fget .PWR_STATE F.PWR_STATE_STATE = 3) ∧
    (control.fset .PWR_STATE F.PWR_STATE_STATE 1).powerBusy = true ∧
    (after (exec .powerOffAon control)).pwr.off = true ∧
    (let o := { control with pwr := { control.pwr with off := true } }
     o.mainOff = true ∧ o.powerBusy = false ∧ (after (exec (.powerStartMain true) o)).pwr.off = false ∧
     (after (exec (.powerStartMain false) o)).resp = .vendor 7 []) := by decide +kernel

theorem witness_LandingPortActs_data :
    live.bufServed = true ∧ State.reset.bufServed = false ∧ bufForm 0 4 = true ∧ bufForm 2 4 = false ∧ bufForm 0 248 = false ∧
    (after (exec (.bufWrite 0x1FFFFFFC [1, 2, 3, 4, 5, 6, 7, 8]) live)).resp = .vendor 5 [] ∧
    (live.writeAt true (sbfAddr 0) [1, 2, 3, 4] [false, false, false, false] []).err = none ∧
    (live.writeAt true (sbfAddr 0) [1, 2, 3, 4] [false, false, false, false] []).werr = none ∧
    (after (exec (.bufWrite 0 [1, 2, 3, 4]) live)).resp = .vendor 0 [] ∧
    (after (exec (.bufRead 0 4) live)).resp = .vendor 0 [0, 0, 0, 0] ∧ (live.hubRead (sbfAddr 0) 4).err = none ∧
    (after (exec (.imgPush 0 2 bare) live)).resp = .vendor 3 [] ∧ live.rcvState = 0 ∧
    (after (exec (.imgPush 0 0 bare) live)).resp = .vendor 0 [4, 15] ∧
    (after (exec (.attestSign [1]) live)).resp = .vendor 3 [] ∧
    (after (exec (.attestReadReport 0 4) live)).resp = .vendor 1 [] ∧
    (after (exec (.attestReadReport 4 4) { live with sec := { live.sec with ldpReport := some [1, 2, 3, 4, 5, 6, 7, 8] } })).resp =
      .vendor 0 [5, 6, 7, 8] := by decide +kernel

/-- A write and a read of the shared buffer are undisturbed. -/
theorem witness_LandingPortActs_undisturbed : Undisturbed live ∧ Readable live (sbfAddr 0) 4 :=
  ⟨undisturbed_of rfl rfl rfl rfl (by decide +kernel) rfl (by decide +kernel), readable_of (by decide +kernel)⟩


/-! ### Key notices and reports -/

/-- A live device with a notice whose fuses are being blown. -/
def blowing (op t : Nat) : State := { live with sec := { live.sec with knot := some (op, t, List.replicate 32 7) } }

theorem witness_NoticesAndReportsComplete :
    live.knotGo 1 = true ∧ live.knotGo 0 = false ∧ knotOk live.knotRead.2 = false ∧ knotOp live.knotRead.2 ≠ 2 ∧
    (after (exec (.keyEnrol 1) live)).fget .SEC_KNOT_STAT F.SEC_KNOT_STAT_REASON = 1 ∧
    live.fuses.keys.length = 4 ∧
    ((after (exec (.keyNoticeDone true) (blowing 1 2))).key 2).valid = true ∧
    ((after (exec (.keyNoticeDone true) (blowing 2 1))).key 1).revoked = true ∧
    (after (exec (.keyNoticeDone false) (blowing 1 2))).fget .SEC_KNOT_STAT F.SEC_KNOT_STAT_REASON = 7 ∧
    F.SEC_ATT_GO_GO.get 1 = 1 ∧ live.sec.att = none ∧
    (after (exec (.attestHost 1) live)).sec.reports = 1 ∧
    (after (exec (.attestHost 1) { live with sec := { live.sec with att := some [] } })).bget .SEC_ATT_STAT F.SEC_ATT_STAT_ERR = true ∧
    goesOn (exec (.attestDone false) { live with sec := { live.sec with att := some [] } }) = true ∧
    (after (exec (.attestDone true) { live with sec := { live.sec with ldpAtt := some [] } })).resp = .vendor 0 [8, 6] := by
  decide +kernel


/-! ### Test access -/

/-- A live device in a state of the field test, with some dies selected. -/
def tested (st : Nat) (diesel : Nat) : State :=
  { live.fset .TST_STAT F.TST_STAT_STATE st with tap := { live.tap with diesel := diesel } }

theorem witness_TestAccessCompletes_tap :
    (after (exec .tapReset (tested 0 3))).tap.diesel = 1 ∧ (tested 0 1).testState = 0 ∧ (tested 0 1).mainOff = false ∧
    (after (exec .tapExtest (tested 2 1))).tap.ir = 3 ∧ (after (exec .tapExtest (tested 0 1))).tap.ir = 0xFF ∧
    (after (exec .tapExtest (tested 0 1))).bget .TST_EVT F.TST_EVT_TAP_REFUSED = true ∧
    (after (exec (.tapDiesel 0xFFFFF) (tested 0 1))).tap.diesel % 4 = 3 ∧ (tested 0 1).selectable 1 = true ∧
    bitAt (tested 0 3).tap.diesel 1 = true ∧ (tested 0 3).stageNow = 10 ∧
    (after (exec (.tapIjtag 1 false 5) (tested 0 3))).outbox = [.tdo 5] ∧ (after (exec (.tapIjtag 1 false 5) (tested 0 1))).outbox = [.tdo 0] ∧
    (after (exec (.tapIjtag 1 true 5) (tested 2 3))).tap.inst.at 1 = 5 ∧
    (after (exec (.tapIjtag 1 true 5) (tested 0 3))).bget .TST_EVT F.TST_EVT_IJ_REFUSED = true ∧
    (after (exec (.tapRegacc 0x0000000200000000) live)).resp = .error ∧
    (0x07000000 + ((0x8000000000000000 : BitVec 64).toNat / 2 ^ 32) % 65536) % 4 = 0 ∧
    (after (exec (.tapRegacc 0x8000000000000000) live)).resp = .none := by decide +kernel

theorem witness_TestAccessCompletes_field :
    live.testRefusal = 0 ∧ live.stageNow = 10 ∧ State.reset.testRefusal = 1 ∧ (spanOf .idle [] live).testRefusal = 2 ∧
    (tested 2 1).testRefusal = 4 ∧
    (after (exec .fieldTestEnter live)).testState = 2 ∧ (after (exec .fieldTestEnter State.reset)).fget .TST_STAT F.TST_STAT_REASON = 1 ∧
    (after (exec (.interconnectTestDone []) (tested 2 1))).testState = 3 ∧ (tested 2 1).tap.exit = false ∧
    (after (exec (.interconnectTestDone []) { tested 2 1 with tap := { (tested 2 1).tap with exit := true } })).testState = 0 ∧
    (after (exec (.fieldTestExit true) (tested 2 1))).tap.exit = true ∧ (after (exec (.fieldTestExit true) (tested 3 1))).testState = 0 := by
  decide +kernel


/-! ### The device as a whole -/

/-- The front command of a queue is performed with its rest behind it; with none waiting ICU_TICK counts (assumption 1). -/
theorem witness_AStepPerformsTheFirstCommand :
    (after (step { live with pending := [.clockStretch 0 9, .vinLow] })).pending = [.vinLow] ∧
    (after (step { live with pending := [.clockStretch 0 9, .vinLow] })).fget .PWR_DROOP F.PWR_DROOP_STRETCH = 9 ∧
    live.pending = [] ∧ live.pwr.off = false ∧ (after (step live)).icu.tick = 1 ∧
    (after (step { live with pwr := { live.pwr with off := true } })).icu.tick = 0 ∧
    (let s := { live.fset (.ICU_COAL 403) F.ICU_COAL_WIN 1 with
      icu := { live.icu with src := [(403, { (default : SrcState) with count := 1, win := some 0 })] } }
     s.pending = [] ∧ s.fget (.ICU_COAL 403) F.ICU_COAL_WIN = 1 ∧ levelSource 403 = false ∧
     ((after (step s)).icu.src.at 403).expired = true) := by decide +kernel

/-- Of two messages that wait at the chain router the urgent one goes first; of two of one level that of the port after the one served last. -/
theorem witness_AStepPerformsTheFirstCommand_router :
    let m (c : Nat) : ChainMsg := ⟨c, false, 0, 0, 0, [], []⟩
    let s (c d : Nat) := { live with chain := { live.chain with waiting := [(0, m c), (1, m d)] } }
    urgentClass 5 = true ∧ urgentClass 2 = false ∧ urgentClass 3 = false ∧ live.chain.lastUrg = 0 ∧ live.chain.lastNorm = 0 ∧
    (after (step (s 2 5))).outbox = [.chain (m 2), .chain (m 5)] ∧ (after (step (s 2 3))).outbox = [.chain (m 2), .chain (m 3)] ∧
    live.chain.waiting = [] ∧ live.tkt.heldReqs = [] ∧ (∀ d : Die, ∀ b : Fin 8, live.fget (.CDI_EDGE d b) F.CDI_EDGE_INQ = 0) := by
  decide +kernel

/-- No write waits for its flits on any bundle. -/
theorem witness_AStepPerformsTheFirstCommand_writes : ∀ p k, (live.dirOf p k).writes = [] := by
  intro p k
  unfold State.dirOf
  rw [at_empty (show live.cwy = [] from rfl)]
  rfl

/-- The hypotheses of the invariants are met by the device after reset with a command waiting. -/
theorem witness_EveryStepKeepsMemoryCanonical :
    Memory.wf State.reset.mem = true ∧ goesOn (step { State.reset with pending := [.memoryWrite (q0 2 [7, 8])] }) = true ∧
    Memory.wf (after (step { State.reset with pending := [.memoryWrite (q0 2 [7, 8])] })).mem = true ∧
    goesOn (exec (.keyNoticeDone true) (blowing 2 1)) = true ∧ ((blowing 2 1).key 0).valid = true := by decide +kernel

theorem witness_EveryWellFormedCommandIsPerformed :
    (Instr.vinLow).wf = true ∧ (Instr.memoryWrite (q0 2 [7, 8])).wf = true ∧
    Reg.ofOffset (Reg.CDI_MAP 7 15).offset = some (.CDI_MAP 7 15) := by decide +kernel

/-- The examples of R163 and R192, and both ends of the register map's first rows. -/
theorem test_addresses_and_codes :
    ilPlace .full 0x0000123456787800 = some (2, 0x2468AC800) ∨ ilPlace .full 0x001234567800 = some (2, 0x2468AC800) := by decide +kernel

/-- The check bits of the byte 0xA5 in the example of R192. -/
theorem test_byte_check : byteCheck 0xA5 = 0x03 := by decide +kernel

/-! ### Well-formed commands (WellFormed.lean): each check refuses a term that breaks it -/

theorem test_wf_refuses :
    (Instr.memoryWrite { q0 2 [7, 8] with data := [7] }).wf = false ∧ (Instr.memoryWrite { q0 2 [7, 8] with pois := [] }).wf = false ∧
    (Instr.codebookWrite 0 0 0 [1] []).wf = false ∧ (Instr.mcastDeliver 0 0 0 [1] [] 0).wf = false ∧
    (Instr.descriptorComplete 0 false (some ([1], [])) none).wf = false ∧ (Instr.zoneAppend 0 (some ([], [true]))).wf = false ∧
    (Instr.flitReceive 0 false ⟨[], 0, 0, 0⟩ 0).wf = false ∧
    (Instr.flitReceive 0 false ⟨List.replicate 32 (2 ^ 39), 0, 0, 0⟩ 0).wf = false ∧
    (Instr.chainEntryReceive 0 (entry 1 0 [0])).wf = false ∧ (Instr.wealeyWrite 0 { frame 0 0 with data := [1], len := 2 }).wf = false ∧
    (Instr.wealeyRdata 0 { frame 0 0 with pois := [5] }).wf = false ∧ (Instr.wealeyEwrite 0 { frame 0 0 with len := 1 }).wf = false ∧
    (Instr.diodeRead []).wf = false ∧ (Instr.powerInterval ⟨0, 0, 0, [], []⟩).wf = false ∧ (Instr.avsInterval [0]).wf = false ∧
    (Instr.hostLinkChange 0 3 false false).wf = false := by decide +kernel

/-- And lets terms that keep them pass. -/
theorem test_wf_accepts :
    (Instr.memoryWrite (q0 2 [7, 8])).wf = true ∧ (Instr.codebookWrite 0 0 0 [1] [false]).wf = true ∧
    (Instr.descriptorComplete 0 false none (some 5)).wf = true ∧ (Instr.flitReceive 0 false (flit0 1) 0).wf = true ∧
    (Instr.avsInterval (grades 0)).wf = true ∧ (Instr.hostLinkChange 6 16 true true).wf = true ∧
    (Instr.chainEntryReceive 0 (entry 1 0 [0, 0, 0, 0, 0])).wf = true := by decide +kernel

end Sys2Proof.Tests
end

namespace Sys2Proof.Machine

/-! PROOFS. Register accesses, wakes out of Standby and the end of the flash mount; before them, a law of the managed flash: what its work
on superblocks, moves and zones can change (`FlashActs`). -/

/-! ### What the managed flash's work can change -/

/-- The registers that the flash's superblocks, moves and zones can change: the superblock counts and the answer to a zone command (R264), the
levels of queues (R224), and those of interrupt messages. -/
def flashRegs : List Reg :=
  signalRegs ++ [.FLC_CAP, .FLC_CAP_TOTAL, .FLC_ZONE_STAT] ++ (List.finRange 8).map .STK_QLEVEL ++ (List.finRange 32).map .FLC_QLEVEL

/-- `t` is `s` but for what the managed flash's work changes: the flash itself, what resources and chain routers hold, how the movers' appends
ended, and what raising sources changes (R225, R249 to R257). -/
def FlashActs (s t : State) : Prop :=
  t = { s with
    regs := t.regs
    icu := t.icu
    flash := t.flash
    tkt := t.tkt
    chain := t.chain
    movers := t.movers
    fns := t.fns
    grp := { s.grp with entries := t.grp.entries }
    ldp := { s.ldp with released := t.ldp.released }
    outbox := t.outbox } ∧ RegsKept flashRegs s t

theorem RegsKept.mono {p q : List Reg} {s t : State} (h : RegsKept p s t) (hpq : ∀ r ∈ p, r ∈ q) : RegsKept q s t :=
  fun r hr => h r fun hp => hr (hpq r hp)

theorem FlashActs.refl (s : State) : FlashActs s s := ⟨rfl, RegsKept.refl _ s⟩

theorem FlashActs.trans {s t u : State} (h : FlashActs s t) (g : FlashActs t u) : FlashActs s u := by
  obtain ⟨hrest, hregs⟩ := h
  obtain ⟨grest, gregs⟩ := g
  refine ⟨?_, hregs.trans gregs⟩
  rw [grest, hrest]

theorem FlashActs.foldOver {α β : Type} (g : β → State) (f : β → α → β) (h : ∀ x a, FlashActs (g x) (g (f x a)))
    (l : List α) (x : β) : FlashActs (g x) (g (l.foldl f x)) := by
  induction l generalizing x with
  | nil => exact FlashActs.refl _
  | cons a l ih => exact (h x a).trans (ih (f x a))

theorem FlashActs.foldl {α : Type} (f : State → α → State) (h : ∀ s a, FlashActs s (f s a)) (l : List α) (s : State) :
    FlashActs s (l.foldl f s) := FlashActs.foldOver id f h l s

theorem FlashActs.ite {p : Prop} [Decidable p] {s a b : State} (h : FlashActs s a) (g : FlashActs s b) :
    FlashActs s (if p then a else b) := by
  split
  · exact h
  · exact g

theorem FlashActs.fset (s : State) (r : Reg) (f : Fld) (v : Nat) (h : r ∈ flashRegs) : FlashActs s (s.fset r f v) :=
  ⟨rfl, RegsKept.fset f v h⟩

theorem FlashActs.flashUpd (s : State) (f : FlashUnit → FlashUnit) : FlashActs s (s.flashUpd f) := ⟨rfl, fun _ _ => rfl⟩

theorem FlashActs.resUpd (s : State) (r : Nat) (f : ResUnit → ResUnit) : FlashActs s (s.resUpd r f) := ⟨rfl, fun _ _ => rfl⟩

theorem FlashActs.resourceSays (s : State) (r cls : Nat) (words lanes : List Nat) :
    FlashActs s (s.resourceSays r cls words lanes) := ⟨rfl, fun _ _ => rfl⟩

theorem FlashActs.moverResult (s : State) (m ix status errOff : Nat) : FlashActs s (s.moverResult m ix status errOff) :=
  ⟨rfl, fun _ _ => rfl⟩

theorem mem_flashRegs_of_signal {r : Reg} (h : r ∈ signalRegs) : r ∈ flashRegs :=
  List.mem_append_left _ (List.mem_append_left _ (List.mem_append_left _ h))

theorem stackLevel_mem_flashRegs (n : Fin 8) : Reg.STK_QLEVEL n ∈ flashRegs :=
  List.mem_append_left _ (List.mem_append_right _ (List.mem_map_of_mem (List.mem_finRange n)))

theorem flashLevel_mem_flashRegs (c : Fin 32) : Reg.FLC_QLEVEL c ∈ flashRegs :=
  List.mem_append_right _ (List.mem_map_of_mem (List.mem_finRange c))

theorem Signals.flashActs {s t : State} (h : Signals s t) : FlashActs s t := by
  obtain ⟨hrest, hregs⟩ := h
  refine ⟨?_, hregs.mono fun _ => mem_flashRegs_of_signal⟩
  rw [hrest]

theorem FlashActs.raise (s : State) (k : Nat) : FlashActs s (s.raise k) := (Signals.raise s k).flashActs

/-! #### Queues -/

theorem FlashActs.throttle (s : State) (r : Nat) : FlashActs s (s.throttle r) :=
  (FlashActs.resUpd s r _).trans (FlashActs.resourceSays _ r _ _ _)

/-- A resource's level and its highest level yet, as its register shows them. -/
theorem FlashActs.showLevel (s : State) {q : Reg} (f g : Fld) (v w : Nat) (h : q ∈ flashRegs) :
    FlashActs s ((s.fset q f v).fset q g w) := (FlashActs.fset s q f v h).trans (FlashActs.fset _ q g w h)

theorem FlashActs.queueLevel (s : State) (r reached : Nat) : FlashActs s (s.queueLevel r reached) := by
  unfold State.queueLevel
  extract_lets k level b b' counted stackReg flashReg shown
  have hshown : FlashActs s shown := (FlashActs.resUpd s r _).trans
    (FlashActs.ite (FlashActs.showLevel counted _ _ _ _ (stackLevel_mem_flashRegs _))
      (FlashActs.ite (FlashActs.showLevel counted _ _ _ _ (flashLevel_mem_flashRegs _)) (FlashActs.refl counted)))
  exact FlashActs.ite hshown (hshown.trans ((FlashActs.resourceSays _ r _ _ _).trans (FlashActs.throttle _ r)))

theorem FlashActs.flashLevel (s : State) (c : Nat) : FlashActs s (s.flashLevel c) := FlashActs.queueLevel s _ _

theorem FlashActs.flashQueue (s : State) (c : Nat) (x : FCmd) : FlashActs s (s.flashQueue c x) :=
  (FlashActs.flashUpd s _).trans (FlashActs.flashLevel _ c)

theorem FlashActs.flashAsk (s : State) (q : FReq) : FlashActs s (s.flashAsk q) := FlashActs.flashQueue s _ _

theorem FlashActs.flashForget (s : State) (w : FWho) : FlashActs s (s.flashForget w) :=
  (FlashActs.flashUpd s _).trans (FlashActs.foldl _ FlashActs.flashLevel _ _)

/-! #### Superblocks and moves -/

theorem FlashActs.sbUpd (s : State) (i : Nat) (f : Sb → Sb) : FlashActs s (s.sbUpd i f) := FlashActs.flashUpd s _

theorem FlashActs.journal (s : State) (n : Nat) : FlashActs s (s.journal n) := FlashActs.flashUpd s _

theorem FlashActs.putMove (s : State) (k : Nat) (m : Option Move) : FlashActs s (s.putMove k m) := FlashActs.flashUpd s _

theorem FlashActs.replace (s : State) (i blk b : Nat) : FlashActs s (s.replace i blk b) :=
  (FlashActs.flashUpd s _).trans ((FlashActs.sbUpd _ i _).trans (FlashActs.journal _ 1))

theorem FlashActs.returnBlock (s : State) (b : Nat) : FlashActs s (s.returnBlock b) :=
  FlashActs.ite (FlashActs.refl s) (FlashActs.ite (FlashActs.flashUpd s _)
    ((FlashActs.flashUpd s _).trans (FlashActs.flashQueue _ _ _)))

theorem FlashActs.releaseSb (s : State) (i : Nat) : FlashActs s (s.releaseSb i) := by
  unfold State.releaseSb
  extract_lets gone replaced spared dirty renewed
  have hspared : FlashActs s spared := by
    refine FlashActs.foldOver Prod.fst _ (fun a b => ?_) gone (s, true)
    split
    · exact FlashActs.replace a.1 i b _
    · exact FlashActs.refl a.1
  refine hspared.trans (FlashActs.ite ?erased ?dead)
  case erased =>
    exact (FlashActs.sbUpd spared i _).trans ((FlashActs.foldl _ (fun t b => FlashActs.flashQueue t _ _) dirty _).trans
      (FlashActs.journal _ 1))
  case dead =>
    exact (FlashActs.sbUpd spared i _).trans ((FlashActs.foldl _ FlashActs.returnBlock _ _).trans (FlashActs.journal _ 1))

theorem FlashActs.moveAsk (s : State) (k : Nat) (m : Move) (l : List Nat) : FlashActs s (s.moveAsk k m l) :=
  FlashActs.foldl _ (fun s _ => FlashActs.foldl _ (fun s _ => FlashActs.flashAsk s _) _ s) l s

theorem FlashActs.moveFeed (s : State) (k fuel : Nat) : FlashActs s (s.moveFeed k fuel) := by
  induction fuel generalizing s with
  | zero => exact FlashActs.refl s
  | succ n ih =>
    unfold State.moveFeed
    split
    · exact FlashActs.refl s
    · split
      · exact FlashActs.refl s
      · split
        · exact FlashActs.refl s
        · exact (FlashActs.putMove s k _).trans ((FlashActs.flashUpd _ _).trans ((FlashActs.flashQueue _ _ _).trans (ih _)))

theorem FlashActs.moveGo (s : State) (k : Nat) (m : Move) (l : List Nat) : FlashActs s (s.moveGo k m l) :=
  (FlashActs.putMove s k _).trans ((FlashActs.moveAsk _ k m l).trans (FlashActs.moveFeed _ k _))

theorem FlashActs.relocGo (s : State) : FlashActs s s.relocGo := by
  unfold State.relocGo
  refine FlashActs.foldl _ (fun t i => ?_) _ s
  dsimp only
  split
  · exact FlashActs.ite (FlashActs.refl t) ((FlashActs.sbUpd t _ _).trans (FlashActs.moveGo _ i _ _))
  · exact FlashActs.refl t

theorem FlashActs.moveUnqueue (s : State) (k : Nat) (p : Nat → Bool) : FlashActs s (s.moveUnqueue k p) :=
  (FlashActs.flashUpd s _).trans (FlashActs.foldl _ FlashActs.flashLevel _ _)

theorem FlashActs.moveDrop (s : State) (k : Nat) : FlashActs s (s.moveDrop k) := by
  unfold State.moveDrop
  split
  · exact FlashActs.refl s
  · dsimp only
    have hforget (w : FWho) (p : Nat → Bool) : FlashActs s (((s.putMove k none).flashForget w).moveUnqueue k p) :=
      (FlashActs.putMove s k none).trans ((FlashActs.flashForget _ w).trans (FlashActs.moveUnqueue _ k p))
    split
    · exact (hforget _ _).trans (FlashActs.releaseSb _ _)
    · exact (hforget _ _).trans (FlashActs.foldl _ FlashActs.returnBlock _ _)

theorem FlashActs.capShow (s : State) : FlashActs s s.capShow := by
  have hcounts (v w : Nat) : FlashActs s ((s.fset .FLC_CAP F.FLC_CAP_FREE_SB v).fset .FLC_CAP_TOTAL F.FLC_CAP_TOTAL_TOTAL_SB w) :=
    (FlashActs.fset s _ _ _ (by decide)).trans (FlashActs.fset _ _ _ _ (by decide))
  exact FlashActs.ite ((hcounts _ _).trans (FlashActs.raise _ _)) (hcounts _ _)

/-! #### Zones -/

theorem FlashActs.zoneUpd (s : State) (z : Nat) (f : Zone → Zone) : FlashActs s (s.zoneUpd z f) := FlashActs.flashUpd s _

theorem FlashActs.zoneAnswer (s : State) (reason : Nat) : FlashActs s (s.zoneAnswer reason) :=
  (FlashActs.fset s _ _ _ (by decide)).trans ((FlashActs.fset _ _ _ _ (by decide)).trans (FlashActs.raise _ _))

/-- The counts shown and the answer, with which FINISH and FREE of a zone end. -/
theorem FlashActs.zoneDone (s : State) : FlashActs s ((s.journal 1).capShow.zoneAnswer 0) :=
  (FlashActs.journal s 1).trans ((FlashActs.capShow _).trans (FlashActs.zoneAnswer _ 0))

theorem FlashActs.zoneFinish (s : State) (z : Nat) : FlashActs s (s.zoneFinish z) :=
  (FlashActs.zoneUpd s z _).trans ((FlashActs.foldl _ FlashActs.releaseSb _ _).trans (FlashActs.zoneDone _))

theorem FlashActs.zoneFree (s : State) (z : Nat) : FlashActs s (s.zoneFree z) :=
  (FlashActs.flashUpd s _).trans ((FlashActs.foldl _ FlashActs.moveDrop _ _).trans
    ((FlashActs.foldl _ FlashActs.releaseSb _ _).trans (FlashActs.zoneDone _)))

theorem FlashActs.appendEnd (s : State) (z status errOff : Nat) : FlashActs s (s.appendEnd z status errOff) := by
  unfold State.appendEnd
  extract_lets x
  split
  next => exact FlashActs.refl s
  next a _ =>
    extract_lets ended
    have hended : FlashActs s ended := (FlashActs.zoneUpd s z _).trans (FlashActs.moverResult _ _ _ _ _)
    have hafter := FlashActs.ite (p := x.after = 2) (FlashActs.zoneFinish ended z)
      (FlashActs.ite (p := x.after = 3) (FlashActs.zoneFree ended z) (FlashActs.refl ended))
    exact hended.trans (hafter.trans (FlashActs.relocGo _))

theorem FlashActs.appendFail (s : State) (z : Nat) : FlashActs s (s.appendFail z) :=
  (FlashActs.flashUpd s _).trans ((FlashActs.foldl _ FlashActs.flashLevel _ _).trans
    ((FlashActs.foldl _ FlashActs.moveDrop _ _).trans (FlashActs.appendEnd _ z _ _)))

theorem FlashActs.zoneDamage (s : State) (z : Nat) : FlashActs s (s.zoneDamage z) :=
  (FlashActs.zoneUpd s z _).trans ((FlashActs.raise _ _).trans (FlashActs.appendFail _ z))

theorem FlashActs.damageCheck (s : State) : FlashActs s s.damageCheck :=
  FlashActs.foldl _ (fun t z => FlashActs.ite (FlashActs.zoneDamage t z) (FlashActs.refl t)) _ s


/-! ### The end of the mount (R254, R260) -/

/-- An event leaves its source with a count above 0 (R401). -/
theorem Raised.count_pos {k : Nat} {s t : State} (h : Raised k s t) : 1 ≤ (t.icu.src.at k).count := by
  unfold Raised at h
  dsimp only at h
  split at h
  · omega
  · omega

/-- The mount ends with its state set and the flash put in order, and then with source 288. -/
theorem State.mountEnd_eq_raise (s : State) (ok : Bool) (wps : List (Word × Nat)) :
    ∃ t, FlashActs (s.fset .FLC_MOUNT F.FLC_MOUNT_STATE (if ok = true then 6 else 7)) t ∧ s.mountEnd ok wps = t.raise 288 := by
  cases ok with
  | false => exact ⟨_, FlashActs.refl _, rfl⟩
  | true =>
    rw [State.mountEnd, if_pos rfl]
    extract_lets found idle
    have hfound : FlashActs (s.fset .FLC_MOUNT F.FLC_MOUNT_STATE 6) (found.fset .FLC_MOUNT F.FLC_MOUNT_STATE 6) :=
      ⟨rfl, fun _ _ => rfl⟩
    exact ⟨_, hfound.trans ((FlashActs.foldl _ FlashActs.releaseSb idle _).trans
      ((FlashActs.damageCheck _).trans (FlashActs.capShow _))), rfl⟩

theorem State.mountEnd_spec (s : State) (ok : Bool) (wps : List (Word × Nat)) :
    (s.mountEnd ok wps).fget .FLC_MOUNT F.FLC_MOUNT_STATE = (if ok = true then 6 else 7) ∧
      1 ≤ ((s.mountEnd ok wps).icu.src.at 288).count ∧ (s.mountEnd ok wps).fuses = s.fuses := by
  obtain ⟨t, ht, heq⟩ := s.mountEnd_eq_raise ok wps
  have hall : FlashActs _ (s.mountEnd ok wps) := heq ▸ ht.trans (FlashActs.raise t 288)
  obtain ⟨hrest, hregs⟩ := hall
  refine ⟨?_, ?_, ?_⟩
  · rw [State.fget, hregs .FLC_MOUNT (by decide), ← State.fget, State.fget_fset_same _ _ _ _ (by decide)]
    cases ok <;> rfl
  · rw [heq]
    exact (t.raise_raised 288).count_pos
  · rw [hrest]
    rfl

/-- The registers that a doorbell of a retrieval pipeline can change (R266, R295). -/
def doorbellRegs : List Reg := .RTV_EVT :: (List.finRange 64).map .RTV_QWR

/-- `t` is `s` but for what doorbells of retrieval pipelines change: the pipelines, and the registers of `doorbellRegs`. -/
def DoorbellActs (s t : State) : Prop := t = { s with regs := t.regs, retr := t.retr } ∧ RegsKept doorbellRegs s t

theorem DoorbellActs.refl (s : State) : DoorbellActs s s := ⟨rfl, RegsKept.refl _ s⟩

theorem DoorbellActs.trans {s t u : State} (h : DoorbellActs s t) (g : DoorbellActs t u) : DoorbellActs s u := by
  obtain ⟨hrest, hregs⟩ := h
  obtain ⟨grest, gregs⟩ := g
  refine ⟨?_, hregs.trans gregs⟩
  rw [grest, hrest]

theorem DoorbellActs.pipeUpd (s : State) (p : Nat) (f : PipeUnit → PipeUnit) : DoorbellActs s (s.pipeUpd p f) :=
  ⟨rfl, fun _ _ => rfl⟩

theorem DoorbellActs.rtvDoorbell (s : State) (p v : Nat) : DoorbellActs s (s.rtvDoorbell p v) := by
  unfold State.rtvDoorbell
  split
  · exact DoorbellActs.pipeUpd s p _
  · split
    · exact ⟨rfl, RegsKept.rset _ (List.mem_cons_of_mem _ (List.mem_map_of_mem (List.mem_finRange _)))⟩
    · exact ⟨rfl, RegsKept.fset _ _ List.mem_cons_self⟩

theorem DoorbellActs.rtvRelease (s : State) : DoorbellActs s s.rtvRelease := by
  unfold State.rtvRelease
  generalize s.retr.pipes.map (·.1) = l
  induction l generalizing s with
  | nil => exact DoorbellActs.refl s
  | cons p l ih =>
    refine DoorbellActs.trans ?_ (ih _)
    dsimp only
    split
    · exact (DoorbellActs.pipeUpd s p _).trans (DoorbellActs.rtvDoorbell _ p _)
    · exact DoorbellActs.refl s

/-- What the doorbells held at the end of the mount do leaves its outcome (R260). -/
theorem State.mountReleased_spec (s : State) (ok : Bool) (wps : List (Word × Nat)) :
    (s.mountEnd ok wps).rtvRelease.fget .FLC_MOUNT F.FLC_MOUNT_STATE = (if ok = true then 6 else 7) ∧
      1 ≤ ((s.mountEnd ok wps).rtvRelease.icu.src.at 288).count ∧ (s.mountEnd ok wps).rtvRelease.fuses = s.fuses := by
  have hmount := s.mountEnd_spec ok wps
  obtain ⟨hrest, hregs⟩ := DoorbellActs.rtvRelease (s.mountEnd ok wps)
  rw [State.fget, hregs .FLC_MOUNT (by decide), hrest]
  exact hmount

theorem exec_mountDone {s : State} (labelOk ledgerOk : Bool) (wps : List (Word × Nat))
    (h : s.fget .FLC_MOUNT F.FLC_MOUNT_STATE = 3) :
    ∃ u, exec (.mountDone labelOk ledgerOk wps) s = .next u ∧
      u.fget .FLC_MOUNT F.FLC_MOUNT_STATE = (if (labelOk && ledgerOk && s.flash.label.isSome) = true then 6 else 7) ∧
      1 ≤ (u.icu.src.at 288).count ∧ ((labelOk && ledgerOk && s.flash.label.isSome) = false → u.sec.flashId = []) ∧
      u.fuses = s.fuses := by
  refine ⟨_, if_neg (not_not_intro h), ?_⟩
  dsimp only
  generalize (labelOk && ledgerOk && s.flash.label.isSome) = ok
  obtain ⟨hstate, hcount, hfuses⟩ := s.mountReleased_spec ok wps
  generalize (s.mountEnd ok wps).rtvRelease = t at *
  have hkept : (t.rset (.BUP_TS 6) (Config.freeWord t.free)).rget .FLC_MOUNT = t.rget .FLC_MOUNT :=
    State.rget_rset_other t _ (by decide)
  refine ⟨?_, hcount, ?_, hfuses⟩
  · exact (congrArg F.FLC_MOUNT_STATE.get hkept).trans hstate
  · rintro rfl
    rfl

/-! ### Wakes out of Standby (R370, R415, R451) -/

/-- With its reference present the package leaves Standby at once. -/
theorem State.standbyOut_of_ref {s : State} (href : s.bget .CLK_STAT F.CLK_STAT_REF_OK = true) :
    s.standbyOut = ({ s with pwr := { s.pwr with wake := false } } : State).fset .PWR_STATE F.PWR_STATE_STATE 3 := if_pos href

/-- The state with a wake of the ferryman recorded (R451). -/
def State.ferryNoted (s : State) (cause src : Nat) : State :=
  (({ s with ldp := { s.ldp with ferry := true } } : State).fset .LDP_FERRY_STAT F.LDP_FERRY_STAT_CAUSE cause).fset
    .LDP_FERRY_STAT F.LDP_FERRY_STAT_SOURCE src

theorem State.ferryNoted_other (s : State) (cause src : Nat) {r : Reg} (h : r ≠ .LDP_FERRY_STAT) :
    (s.ferryNoted cause src).rget r = s.rget r :=
  (State.rget_fset_other _ _ _ h).trans (State.rget_fset_other _ _ _ h)

theorem State.ferryNoted_cause (s : State) {cause : Nat} (src : Nat) (h : cause < 4) :
    (s.ferryNoted cause src).fget .LDP_FERRY_STAT F.LDP_FERRY_STAT_CAUSE = cause := by
  rw [State.ferryNoted, State.fget_fset_field _ _ _ _ _ (by decide) (by decide), State.fget_fset_same _ _ _ _ (by decide)]
  exact Nat.mod_eq_of_lt h

theorem State.ferryNoted_source (s : State) (cause : Nat) {src : Nat} (h : src < 512) :
    (s.ferryNoted cause src).fget .LDP_FERRY_STAT F.LDP_FERRY_STAT_SOURCE = src := by
  rw [State.ferryNoted, State.fget_fset_same _ _ _ _ (by decide)]
  exact Nat.mod_eq_of_lt h

/-- The first wake of the ferryman in Standby is recorded, and the exit starts. -/
theorem State.ferryWake_eq {s : State} (cause src : Nat) (hst : s.fget .PWR_STATE F.PWR_STATE_STATE = 2)
    (hwake : s.pwr.wake = false) (href : s.bget .CLK_STAT F.CLK_STAT_REF_OK = true) :
    s.ferryWake cause src = ({ s.ferryNoted cause src with pwr := { s.pwr with wake := false } } : State).fset
      .PWR_STATE F.PWR_STATE_STATE 3 := by
  have href' : (s.ferryNoted cause src).bget .CLK_STAT F.CLK_STAT_REF_OK = true := by
    rw [State.bget, State.fget, State.ferryNoted_other _ _ _ (by decide)]
    exact href
  rw [State.ferryWake, if_neg (by simp [hst, hwake]), if_pos hst]
  exact State.standbyOut_of_ref href'

theorem State.ferryWake_of_standby {s : State} {cause src : Nat} (hst : s.fget .PWR_STATE F.PWR_STATE_STATE = 2)
    (hwake : s.pwr.wake = false) (href : s.bget .CLK_STAT F.CLK_STAT_REF_OK = true) (hcause : cause < 4) (hsrc : src < 512) :
    (s.ferryWake cause src).ldp.ferry = true ∧
      (s.ferryWake cause src).fget .LDP_FERRY_STAT F.LDP_FERRY_STAT_CAUSE = cause ∧
      (s.ferryWake cause src).fget .LDP_FERRY_STAT F.LDP_FERRY_STAT_SOURCE = src ∧
      (s.ferryWake cause src).fget .PWR_STATE F.PWR_STATE_STATE = 3 ∧
      RegsKept [.LDP_FERRY_STAT, .PWR_STATE] s (s.ferryWake cause src) ∧
      (s.ferryWake cause src).icu = s.icu ∧ (s.ferryWake cause src).mem = s.mem := by
  rw [State.ferryWake_eq cause src hst hwake href]
  refine ⟨rfl, ?_, ?_, ?_, ?_, rfl, rfl⟩
  · rw [State.fget_fset_other _ _ _ _ (by decide)]
    exact s.ferryNoted_cause src hcause
  · rw [State.fget_fset_other _ _ _ _ (by decide)]
    exact s.ferryNoted_source cause hsrc
  · exact State.fget_fset_same _ _ _ _ (by decide)
  · intro r hr
    obtain ⟨hstat, hpwr⟩ : r ≠ .LDP_FERRY_STAT ∧ r ≠ .PWR_STATE := by simpa using hr
    exact (State.rget_fset_other _ _ _ hpwr).trans (s.ferryNoted_other cause src hstat)

theorem exec_ferrymanWake {k : Src} {s : State} (hmode : s.fget .ICU_WAKE F.ICU_WAKE_MODE = 1) (hwatched : s.watched k.val = true)
    (hpending : s.srcPending k.val = true) : exec (.ferrymanWake k) s = .next (s.ferryWake 1 k.val) :=
  if_pos ⟨hmode, hwatched, hpending⟩

theorem exec_ferrymanWake_idle {k : Src} {s : State}
    (h : s.fget .ICU_WAKE F.ICU_WAKE_MODE ≠ 1 ∨ s.watched k.val = false ∨ s.srcPending k.val = false) :
    exec (.ferrymanWake k) s = .next s := by
  refine if_neg ?_
  rintro ⟨hmode, hwatched, hpending⟩
  simp [hmode, hwatched, hpending] at h

/-- The time that the ferryman's timer has left is set. -/
theorem State.timerSet_fget (s : State) (n : Nat) (h : n < 2 ^ 24) :
    (s.fset .LDP_FERRY_TMR F.LDP_FERRY_TMR_MS n).fget .LDP_FERRY_TMR F.LDP_FERRY_TMR_MS = n := by
  rw [State.fget_fset_same _ _ _ _ (by decide)]
  exact Nat.mod_eq_of_lt h

theorem Fld.get_lt (f : Fld) (w : Word) : f.get w < 2 ^ f.len := Nat.mod_lt _ (by positivity)

theorem exec_ferryTimer_idle {ms : Nat} {s : State}
    (h : s.fget .PWR_STATE F.PWR_STATE_STATE ≠ 2 ∨ s.fget .LDP_FERRY_TMR F.LDP_FERRY_TMR_MS = 0) :
    exec (.ferryTimer ms) s = .next s := if_pos h

theorem exec_ferryTimer_runs {ms : Nat} {s : State} (hst : s.fget .PWR_STATE F.PWR_STATE_STATE = 2)
    (hms : ms < s.fget .LDP_FERRY_TMR F.LDP_FERRY_TMR_MS) :
    exec (.ferryTimer ms) s = .next (s.fset .LDP_FERRY_TMR F.LDP_FERRY_TMR_MS (s.fget .LDP_FERRY_TMR F.LDP_FERRY_TMR_MS - ms)) := by
  have hon : ¬(s.fget .PWR_STATE F.PWR_STATE_STATE ≠ 2 ∨ s.fget .LDP_FERRY_TMR F.LDP_FERRY_TMR_MS = 0) := by omega
  exact (if_neg hon).trans (congrArg Host.Outcome.next (if_neg (Nat.not_le.mpr hms)))

theorem exec_ferryTimer_ends {ms : Nat} {s : State} (hst : s.fget .PWR_STATE F.PWR_STATE_STATE = 2)
    (hms : s.fget .LDP_FERRY_TMR F.LDP_FERRY_TMR_MS ≤ ms) (hset : s.fget .LDP_FERRY_TMR F.LDP_FERRY_TMR_MS ≠ 0) :
    exec (.ferryTimer ms) s = .next ((s.fset .LDP_FERRY_TMR F.LDP_FERRY_TMR_MS 0).ferryWake 2 0) := by
  have hon : ¬(s.fget .PWR_STATE F.PWR_STATE_STATE ≠ 2 ∨ s.fget .LDP_FERRY_TMR F.LDP_FERRY_TMR_MS = 0) := by omega
  refine (if_neg hon).trans (congrArg Host.Outcome.next ((if_pos hms).trans ?_))
  rw [Nat.sub_eq_zero_of_le hms]

theorem wakesAndMountsComplete : WakesAndMountsComplete := by
  refine ⟨fun k s => ⟨exec_ferrymanWake_idle, ?_⟩, fun ms s => ⟨exec_ferryTimer_idle, ?_⟩,
    fun a b w s => ⟨fun h => if_pos h, exec_mountDone a b w⟩⟩
  · intro hmode hwatched hpending hwake hst href
    exact ⟨_, exec_ferrymanWake hmode hwatched hpending, State.ferryWake_of_standby hst hwake href (by decide) k.isLt⟩
  · intro hst
    refine ⟨fun hms => ?_, fun hms hset hwake href => ?_⟩
    · have hlt := Fld.get_lt F.LDP_FERRY_TMR_MS (s.rget .LDP_FERRY_TMR)
      exact ⟨_, exec_ferryTimer_runs hst hms, s.timerSet_fget _ (lt_of_le_of_lt (Nat.sub_le _ _) hlt), rfl,
        RegsKept.fset _ _ List.mem_cons_self⟩
    · have hst' : (s.fset .LDP_FERRY_TMR F.LDP_FERRY_TMR_MS 0).fget .PWR_STATE F.PWR_STATE_STATE = 2 :=
        (State.fget_fset_other _ _ _ _ (by decide)).trans hst
      have href' : (s.fset .LDP_FERRY_TMR F.LDP_FERRY_TMR_MS 0).bget .CLK_STAT F.CLK_STAT_REF_OK = true := by
        rw [State.bget, State.fget_fset_other _ _ _ _ (by decide)]
        exact href
      obtain ⟨hferry, hcause, _, hexit, hregs, _, _⟩ :=
        State.ferryWake_of_standby (src := 0) hst' hwake href' (show 2 < 4 by decide) (by decide)
      refine ⟨_, exec_ferryTimer_ends hst hms hset, hferry, ?_, hcause, hexit, ?_⟩
      · rw [State.fget, hregs .LDP_FERRY_TMR (by decide)]
        exact s.timerSet_fget 0 (by decide)
      · exact (RegsKept.fset _ _ List.mem_cons_self).trans (hregs.mono fun r hr => List.mem_cons_of_mem _ hr)

/-! ### Register accesses (R15, R17) -/

theorem not_regForm {off size : Nat} (h : ¬(size = 4 ∧ off % 4 = 0 ∧ off < 0x10000000)) : ¬(regForm off size = true) :=
  fun hform => h (of_decide_eq_true hform)

theorem exec_registerWrite_of_form (a : Agent) {off : Nat} (v : Word) (s : State) (halign : off % 4 = 0) (hrange : off < 0x10000000) :
    exec (.registerWrite a off 4 v) s = .next ((s.regWriteAt a (agentTicket a) off v).reply .none) :=
  if_pos (decide_eq_true ⟨rfl, halign, hrange⟩)

theorem exec_clearByRead_of_form (a : Agent) {off : Nat} (s : State) (halign : off % 4 = 0) (hrange : off < 0x08000000) :
    exec (.clearByRead a off 4) s = .next ((s.regReadAt off).1.reply (.word (s.regReadAt off).2)) :=
  if_pos (decide_eq_true ⟨rfl, halign, by omega⟩)

/-- At an offset of no register, or of one that is off, a write does nothing (R15, R509). -/
theorem State.regWriteAt_of_off {s : State} (a : Agent) (t : Ticket) {off : Nat} (v : Word)
    (h : Reg.ofOffset off = none ∨ ∃ r, Reg.ofOffset off = some r ∧ s.regOff r = true) : s.regWriteAt a t off v = s := by
  unfold State.regWriteAt
  rcases h with h | ⟨r, h, hoff⟩
  · rw [h]
  · rw [h]
    exact if_pos hoff

/-- And a read returns 0. -/
theorem State.regReadAt_of_off {s : State} {off : Nat} (hrange : off < 0x08000000)
    (h : Reg.ofOffset off = none ∨ ∃ r, Reg.ofOffset off = some r ∧ s.regOff r = true) : s.regReadAt off = (s, 0) := by
  rw [State.regReadAt, if_neg (Nat.not_le.mpr hrange)]
  rcases h with h | ⟨r, h, hoff⟩
  · rw [h]
  · rw [h]
    exact if_pos hoff

/-- Register `r` stands in the register map at its own offset (R13). -/
def Reg.Mapped (r : Reg) : Prop := r.offset % 4 = 0 ∧ Reg.ofOffset r.offset = some r

theorem exec_registerWrite_mapped {r : Reg} {s : State} (a : Agent) (v : Word) (h : r.Mapped) (hrange : r.offset < 0x08000000)
    (hon : s.regOff r = false) :
    exec (.registerWrite a r.offset 4 v) s = .next ((s.writeReg a (agentTicket a) r v).reply .none) := by
  obtain ⟨halign, hat⟩ := h
  rw [exec_registerWrite_of_form a v s halign (by omega), State.regWriteAt, hat]
  dsimp only
  rw [if_neg (by simp [hon])]

theorem exec_clearByRead_mapped {r : Reg} {s : State} (a : Agent) (h : r.Mapped) (hrange : r.offset < 0x08000000) :
    exec (.clearByRead a r.offset 4) s = .next ((s.readReg r).1.reply (.word (s.readReg r).2)) := by
  obtain ⟨halign, hat⟩ := h
  rw [exec_clearByRead_of_form a s halign hrange, State.regReadAt, if_neg (Nat.not_le.mpr hrange), hat]

/-- What software reads after it has written the RW, RWS and W1C fields of a register (R17). -/
theorem State.plainWrite_rget (s : State) (r : Reg) (v : Word) :
    (s.plainWrite r v).rget r = ((s.rget r &&& ~~~(r.access.rw ||| r.access.rws)) ||| (v &&& (r.access.rw ||| r.access.rws))) &&&
      ~~~(v &&& r.access.w1c) := by
  simp [State.plainWrite, State.rput]

theorem State.plainWrite_only (s : State) (r : Reg) (v : Word) (p : Resp) :
    OnlyRegs [r] { s with resp := p } ((s.plainWrite r v).reply p) := by
  refine ⟨rfl, ?_⟩
  exact ((RegsKept.rset _ List.mem_cons_self).trans (RegsKept.rset _ List.mem_cons_self) : RegsKept [r] s (s.plainWrite r v))

/-- Registers whose RW and RWS fields have no conditions of their own, and which have no other fields that software writes. -/
def plainRegs : List Reg := [.MEM_INST_SEL, .TKT_SEL, .THM_SEL, .TEL_CH_SEL, .CFG_SPAN_SEL, .BUP_CTL, .CLK_EVT]

/-- Event registers: of their fields software writes W1C ones only. -/
def eventRegs : List Reg := [.PWR_EVT, .THM_EVT, .TEL_EVT]

/-- Registers with no RC fields, which a read leaves as they are. -/
def quietRegs : List Reg := [.GLB_ID, .GLB_STATUS, .ICU_TICK, .SEC_SERIAL_LO]

theorem mapped_of_mem {r : Reg} (h : r ∈ plainRegs ++ eventRegs ++ quietRegs) : r.Mapped := by
  revert r
  unfold Reg.Mapped
  decide

theorem crc_mapped (p : Bundle) : (Reg.CWY_CRC p).Mapped := by
  revert p
  unfold Reg.Mapped
  decide +kernel

theorem no_rwp_of_mem {r : Reg} (h : r ∈ plainRegs ++ eventRegs) : r.access.rwp = 0 := by
  revert r
  decide

/-- A write to these registers is no command, and its fields have no conditions. -/
theorem State.writeReg_plain (s : State) (a : Agent) (t : Ticket) {r : Reg} (v : Word) (h : r ∈ plainRegs ++ eventRegs) :
    s.writeReg a t r v = s.plainWrite r v := by
  have hdefault : s.writeReg a t r v = if r.access.rwp ≠ 0 then s.rwpWrite r v else s.plainWrite r v := by
    simp only [plainRegs, eventRegs, List.cons_append, List.nil_append, List.mem_cons, List.not_mem_nil, or_false] at h
    rcases h with rfl | rfl | rfl | rfl | rfl | rfl | rfl | rfl | rfl | rfl <;> rfl
  rw [hdefault, if_neg (not_not_intro (no_rwp_of_mem h))]

theorem exec_registerWrite_plain {r : Reg} {s : State} (a : Agent) (v : Word) (h : r ∈ plainRegs ++ eventRegs)
    (hrange : r.offset < 0x08000000) (hon : s.regOff r = false) :
    exec (.registerWrite a r.offset 4 v) s = .next ((s.plainWrite r v).reply .none) := by
  rw [exec_registerWrite_mapped a v (mapped_of_mem (List.mem_append_left _ h)) hrange hon, s.writeReg_plain a _ v h]

theorem plainRegs_w1c {r : Reg} (h : r ∈ plainRegs) : r.access.w1c = 0 := by
  revert r
  decide

theorem eventRegs_rw {r : Reg} (h : r ∈ eventRegs) : r.access.rw ||| r.access.rws = 0 := by
  revert r
  decide

theorem State.readReg_quiet {s : State} {r : Reg} (h : r ∈ quietRegs) (hon : s.regOff r = false) : s.readReg r = (s, s.view r) := by
  simp only [quietRegs, List.mem_cons, List.not_mem_nil, or_false] at h
  have hread : s.readReg r = if s.regOff r = true then (s, 0) else (s, s.view r) := by
    rcases h with rfl | rfl | rfl | rfl <;> rfl
  rw [hread, hon]
  rfl

/-- CWY_CRC is read as it stands, and its RC field is cleared. -/
theorem State.readReg_crc {s : State} {p : Bundle} (hon : s.regOff (.CWY_CRC p) = false) :
    s.readReg (.CWY_CRC p) =
      (s.rset (.CWY_CRC p) (s.rget (.CWY_CRC p) &&& ~~~(Reg.CWY_CRC p).access.rc), s.rget (.CWY_CRC p)) := by
  have hread : s.readReg (.CWY_CRC p) = if s.regOff (.CWY_CRC p) = true then (s, 0) else
      (s.rset (.CWY_CRC p) (s.rget (.CWY_CRC p) &&& ~~~(Reg.CWY_CRC p).access.rc), s.rget (.CWY_CRC p)) := rfl
  rw [hread, hon]
  rfl

theorem registerAccessesComplete : RegisterAccessesComplete := by
  refine ⟨fun a off size v s h => ⟨if_neg (not_regForm h), if_neg (not_regForm h)⟩, ?_, ?_⟩
  · intro a off v s halign hrange hnone
    refine ⟨?_, fun hlow => ?_⟩
    · rw [exec_registerWrite_of_form a v s halign hrange, State.regWriteAt_of_off a _ v hnone]
      rfl
    · rw [exec_clearByRead_of_form a s halign hlow, State.regReadAt_of_off hlow hnone]
      rfl
  · intro a r v s hon hrange
    refine ⟨fun hr => ?plain, fun hr => ?event, ?counter, fun hr => ?quiet⟩
    case plain =>
      refine ⟨_, exec_registerWrite_plain a v (List.mem_append_left _ hr) hrange hon, ?_, rfl, s.plainWrite_only r v .none⟩
      rw [State.reply_rget, State.plainWrite_rget, plainRegs_w1c hr]
      simp only [BitVec.ofNat_eq_ofNat, BitVec.and_zero, BitVec.not_zero, BitVec.and_allOnes]
    case event =>
      refine ⟨_, exec_registerWrite_plain a v (List.mem_append_right _ hr) hrange hon, ?_, rfl, s.plainWrite_only r v .none⟩
      rw [State.reply_rget, State.plainWrite_rget, eventRegs_rw hr]
      simp only [BitVec.ofNat_eq_ofNat, BitVec.and_zero, BitVec.not_zero, BitVec.and_allOnes, BitVec.or_zero]
    case counter =>
      rintro p rfl
      refine ⟨_, exec_clearByRead_mapped a (crc_mapped p) hrange, ?_⟩
      rw [State.readReg_crc hon]
      exact ⟨rfl, State.rget_rset_same s _ _, rfl, RegsKept.rset _ List.mem_cons_self⟩
    case quiet =>
      refine ⟨_, s.view r, exec_clearByRead_mapped a (mapped_of_mem (List.mem_append_right _ hr)) hrange, ?_⟩
      rw [State.readReg_quiet hr hon]
      exact ⟨rfl, rfl, rfl⟩

/-- Settles O46, by what each command does in each case: the accesses by what their registers' fields are (R17), the wakes by the ferryman's record
and the exit (R451), and the end of the mount by what work on the flash can change. -/
theorem accessesWakesAndMountsComplete : Obligations.AccessesWakesAndMountsComplete :=
  ⟨registerAccessesComplete, wakesAndMountsComplete⟩

end Sys2Proof.Machine

namespace Sys2Proof.Machine

/-! PROOFS. Codebook writes (R46, R60); before them, laws of what a write of bytes that are not poisoned does to a byte-lane memory with no
patches and no injection armed: to one word, and to a range that has no device address. -/

/-! ### Numbers summed digit by digit -/

/-- Digits below `B` sum to less than `B ^ n`. -/
theorem foldl_digits_lt {B : Nat} (p : Nat → Bool) {v : Nat → Nat} (hv : ∀ j, v j < B) (n : Nat) :
    (List.range n).foldl (fun m j => if p j then m + v j * B ^ j else m) 0 < B ^ n := by
  induction n with
  | zero => exact Nat.one_pos
  | succ n ih =>
    rw [List.range_succ, List.foldl_append, List.foldl_cons, List.foldl_nil]
    split
    · rw [Nat.mul_comm (v n), pow_succ]
      exact add_mul_lt ih (hv n)
    · exact ih.trans_le (Nat.pow_le_pow_right ((Nat.zero_le _).trans_lt (hv 0)) n.le_succ)

/-- Digit `i` of such a sum is the one that was added for it. -/
theorem foldl_digits_digit {B : Nat} (p : Nat → Bool) {v : Nat → Nat} (hv : ∀ j, v j < B) {n i : Nat} (hi : i < n) :
    (List.range n).foldl (fun m j => if p j then m + v j * B ^ j else m) 0 / B ^ i % B = if p i then v i else 0 := by
  have hB : 0 < B := (Nat.zero_le _).trans_lt (hv 0)
  induction n with
  | zero => exact absurd hi i.not_lt_zero
  | succ n ih =>
    rw [List.range_succ, List.foldl_append, List.foldl_cons, List.foldl_nil]
    have hlow := foldl_digits_lt p hv n
    rcases Nat.lt_succ_iff_lt_or_eq.mp hi with hlt | rfl
    · obtain ⟨d, rfl⟩ := Nat.exists_eq_add_of_lt hlt
      rw [← ih hlt]
      split
      · rw [pow_add, pow_add, pow_one, mul_comm (v _), mul_assoc, mul_assoc, Nat.add_mul_div_left _ _ (Nat.pow_pos hB),
          mul_left_comm, Nat.add_mul_mod_self_left]
      · rfl
    · split
      · rw [Nat.add_mul_div_right _ _ (Nat.pow_pos hB), Nat.div_eq_of_lt hlow, Nat.zero_add, Nat.mod_eq_of_lt (hv i)]
      · rw [Nat.div_eq_of_lt hlow, Nat.zero_mod]

/-! ### One word of a byte-lane memory (R196, R203, R210) -/

/-- One byte of a write: byte `i` of `w` is stored with valid check bits where `mask` names it. -/
def MemUnit.putLane (key mask w : Nat) (m : MemUnit) (i : Nat) : MemUnit :=
  if bitAt mask i then (m.setByte (key + i) (byteOf (w / 256 ^ i))).setSyn (key + i) 0 else m

/-- The bytes of a word that `mask` names, written. -/
def MemUnit.putLanes (m : MemUnit) (key mask w : Nat) : MemUnit := (List.range 4).foldl (MemUnit.putLane key mask w) m

theorem MemUnit.write_of_noPatch {m : MemUnit} {c : CellRef} (hlane : byteLane c.cls = true)
    (hpatch : (m.insts.at c.ik).patch = []) (mask w thr : Nat) :
    m.write c mask w false thr = (m.putLanes c.key mask w, false) := by
  unfold MemUnit.write
  rw [hpatch]
  exact if_pos hlane

theorem MemUnit.putLanes_insts (m : MemUnit) (key mask w : Nat) : (m.putLanes key mask w).insts = m.insts := by
  refine List.foldlRecOn (motive := fun t : MemUnit => t.insts = m.insts) _ _ rfl fun t ht i _ => ?_
  unfold MemUnit.putLane
  split <;> exact ht

theorem MemUnit.putLane_data (key mask w : Nat) (m : MemUnit) (i k : Nat) :
    Tab.at (m.putLane key mask w i).data k = if k = key + i ∧ bitAt mask i = true then byteOf (w / 256 ^ i) else Tab.at m.data k := by
  unfold MemUnit.putLane
  split
  · rename_i hbit
    simp only [hbit, and_true]
    exact Tab.at_put m.data (key + i) k _
  · rename_i hbit
    exact (if_neg fun h => hbit h.2).symm

/-- The cells of a word after a write: those that `mask` names hold its bytes, and every other cell is as before. -/
theorem MemUnit.putLanes_data (m : MemUnit) (key mask w k : Nat) :
    Tab.at (m.putLanes key mask w).data k =
      if key ≤ k ∧ k < key + 4 ∧ bitAt mask (k - key) = true then byteOf (w / 256 ^ (k - key)) else Tab.at m.data k := by
  unfold MemUnit.putLanes
  induction 4 with
  | zero => exact (if_neg (by omega)).symm
  | succ n ih =>
    rw [List.range_succ, List.foldl_append, List.foldl_cons, List.foldl_nil, MemUnit.putLane_data, ih]
    by_cases hk : k = key + n
    · subst hk
      simp
    · have hlt : k < key + (n + 1) ↔ k < key + n := by omega
      simp only [hk, hlt, false_and, if_false]

/-- Memory `inst` of class `cls` stores what is written to it as it is given: none of its words is patched, and no injection is armed for its
class (R198, R210). -/
def State.StoresAsGiven (s : State) (cls inst : Nat) : Prop :=
  (s.mem.insts.at (cls * 128 + inst)).patch = [] ∧ bitAt (s.fget .MEM_FLIP_CTL F.MEM_FLIP_CTL_ARM) cls = false

theorem State.StoresAsGiven.putLanes {s : State} {cls inst : Nat} (h : s.StoresAsGiven cls inst) (key mask w : Nat) :
    (s.withMem (s.mem.putLanes key mask w)).StoresAsGiven cls inst := by
  obtain ⟨hpatch, harm⟩ := h
  refine ⟨?_, harm⟩
  change ((s.mem.putLanes key mask w).insts.at _).patch = []
  rw [MemUnit.putLanes_insts]
  exact hpatch

theorem State.writeCell_of_storesAsGiven {s : State} {c : CellRef} (hlane : byteLane c.cls = true) (h : s.StoresAsGiven c.cls c.inst)
    (mask w : Nat) : s.writeCell c mask w false = (s.withMem (s.mem.putLanes c.key mask w), false) := by
  obtain ⟨hpatch, harm⟩ := h
  have harmed : s.armed c = false := by
    unfold State.armed
    rw [harm]
    rfl
  unfold State.writeCell
  rw [harmed, MemUnit.write_of_noPatch hlane hpatch]
  rfl

/-! ### A range of bytes that has no device address -/

/-- Whether byte `x` is one of the `n` bytes from `off`. -/
def inBytes (off n x : Nat) : Bool := decide (off ≤ x ∧ x < off + n)

/-- The bytes of the word at `w` that a write of `n` bytes from `off` touches. -/
def laneMask (off n w : Nat) : Nat := (List.range 4).foldl (fun m j => if inBytes off n (w + j) then m + 2 ^ j else m) 0

/-- And what it writes to them. -/
def laneWord (off : Nat) (data : List Byte) (w : Nat) : Nat :=
  (List.range 4).foldl (fun m j => if inBytes off data.length (w + j) then m + (nth data (w + j - off)).toNat * 256 ^ j else m) 0

theorem bitAt_laneMask (off n w : Nat) {i : Nat} (hi : i < 4) : bitAt (laneMask off n w) i = inBytes off n (w + i) := by
  have h := foldl_digits_digit (B := 2) (fun j => inBytes off n (w + j)) (v := fun _ => 1) (fun _ => Nat.one_lt_two) hi
  simp only [one_mul] at h
  unfold bitAt laneMask
  rw [h]
  cases inBytes off n (w + i) <;> rfl

theorem byteOf_laneWord {off : Nat} {data : List Byte} {w i : Nat} (hi : i < 4) (hin : inBytes off data.length (w + i) = true) :
    byteOf (laneWord off data w / 256 ^ i) = nth data (w + i - off) := by
  have h := foldl_digits_digit (B := 256) (fun j => inBytes off data.length (w + j)) (v := fun j => (nth data (w + j - off)).toNat)
    (fun j => (nth data (w + j - off)).isLt) hi
  rw [if_pos hin] at h
  apply BitVec.eq_of_toNat_eq
  exact (BitVec.toNat_ofNat _ _).trans h

/-- What a write of bytes that are not poisoned does to the word at `w`. -/
def State.putLocalWord (s : State) (ref : Nat → CellRef) (off : Nat) (data : List Byte) (w : Nat) : State :=
  if laneMask off data.length w = 0 then s
  else (s.writeCell (ref w) (laneMask off data.length w) (laneWord off data w) false).1

theorem State.writeLocal_of_clean (s : State) (ref : Nat → CellRef) (off : Nat) {data : List Byte} {pois : List Bool}
    (hdata : data.length ≠ 0) (hpois : ∀ i, nth pois i = false) :
    s.writeLocal ref off data pois = (List.range ((off + data.length - 1) / 4 - off / 4 + 1)).foldl
      (fun t i => t.putLocalWord ref off data ((off / 4 + i) * 4)) s := by
  have hzero : (List.range 4).foldl (fun m _ => m) 0 = 0 := rfl
  unfold State.writeLocal
  simp only [hdata, hpois, if_false, Bool.and_false, Bool.false_eq_true, hzero, Nat.xor_zero, if_true]
  rfl

/-- The cells of the word at `w` after what a write of the bytes `data` at `off` does to it. -/
theorem MemUnit.putLanes_local_data (m : MemUnit) (base off : Nat) (data : List Byte) (w k : Nat) :
    Tab.at (m.putLanes (base + w) (laneMask off data.length w) (laneWord off data w)).data k =
      if (base + w ≤ k ∧ k < base + w + 4) ∧ base + off ≤ k ∧ k < base + off + data.length then nth data (k - (base + off))
      else Tab.at m.data k := by
  rw [MemUnit.putLanes_data]
  by_cases hword : base + w ≤ k ∧ k < base + w + 4
  · obtain ⟨j, rfl⟩ := Nat.exists_eq_add_of_le hword.1
    have hj : j < 4 := by omega
    have hbit : bitAt (laneMask off data.length w) j = true ↔ base + off ≤ base + w + j ∧ base + w + j < base + off + data.length := by
      rw [bitAt_laneMask _ _ _ hj, inBytes, decide_eq_true_eq]
      omega
    rw [Nat.add_sub_cancel_left]
    by_cases hin : bitAt (laneMask off data.length w) j = true
    · rw [if_pos ⟨hword.1, hword.2, hin⟩, if_pos ⟨hword, hbit.mp hin⟩, byteOf_laneWord hj ((bitAt_laneMask _ _ _ hj).symm.trans hin)]
      congr 1
      omega
    · rw [if_neg fun ⟨_, _, h⟩ => hin h, if_neg fun ⟨_, h⟩ => hin (hbit.mpr h)]
  · rw [if_neg fun ⟨hle, hlt, _⟩ => hword ⟨hle, hlt⟩, if_neg fun ⟨h, _⟩ => hword h]

theorem MemUnit.putLanes_noMask (m : MemUnit) (key w : Nat) : m.putLanes key 0 w = m := by
  have hbit : ∀ i, bitAt 0 i = false := fun i => by simp [bitAt]
  exact List.foldlRecOn (motive := fun t : MemUnit => t = m) _ _ rfl fun t ht i _ =>
    (if_neg (by rw [hbit i]; exact Bool.false_ne_true)).trans ht

section
variable {s : State} {ref : Nat → CellRef} {cls inst base : Nat} (href : ∀ w, ref w = ⟨cls, inst, base + w⟩)
  (hlane : byteLane cls = true) (hs : s.StoresAsGiven cls inst)
include href hlane hs

theorem State.putLocalWord_eq (off : Nat) (data : List Byte) (w : Nat) :
    s.putLocalWord ref off data w = s.withMem (s.mem.putLanes (base + w) (laneMask off data.length w) (laneWord off data w)) := by
  unfold State.putLocalWord
  split
  · rename_i hnone
    rw [hnone, MemUnit.putLanes_noMask]
    rfl
  · rw [href, State.writeCell_of_storesAsGiven (c := ⟨cls, inst, base + w⟩) hlane hs]

/-- The words of a range below word `n`, written. -/
theorem State.putLocalWords_data (off : Nat) (data : List Byte) (n : Nat) :
    ((List.range n).foldl (fun t i => t.putLocalWord ref off data ((off / 4 + i) * 4)) s).StoresAsGiven cls inst ∧
    ∀ k, Tab.at ((List.range n).foldl (fun t i => t.putLocalWord ref off data ((off / 4 + i) * 4)) s).mem.data k =
      if k < base + (off / 4 + n) * 4 ∧ base + off ≤ k ∧ k < base + off + data.length then nth data (k - (base + off))
      else Tab.at s.mem.data k := by
  induction n with
  | zero =>
    refine ⟨hs, fun k => ?_⟩
    rw [List.range_zero, List.foldl_nil, if_neg (by omega)]
  | succ n ih =>
    obtain ⟨hkept, hdata⟩ := ih
    rw [List.range_succ, List.foldl_append, List.foldl_cons, List.foldl_nil, State.putLocalWord_eq href hlane hkept]
    refine ⟨hkept.putLanes .., fun k => (MemUnit.putLanes_local_data ..).trans ?_⟩
    rw [hdata]
    split
    · rw [if_pos (by omega)]
    · exact if_congr (by omega) rfl rfl

/-- A range after a write of bytes that are not poisoned: it holds them, and every other cell is as before. -/
theorem State.writeLocal_data (off : Nat) (data : List Byte) {pois : List Bool} (hpois : ∀ i, nth pois i = false) (k : Nat) :
    Tab.at (s.writeLocal ref off data pois).mem.data k =
      if base + off ≤ k ∧ k < base + off + data.length then nth data (k - (base + off)) else Tab.at s.mem.data k := by
  by_cases hlen : data.length = 0
  · rw [if_neg (by omega), State.writeLocal]
    exact congrArg (fun t : State => Tab.at t.mem.data k) (if_pos hlen)
  · obtain ⟨-, hdata⟩ := State.putLocalWords_data href hlane hs off data ((off + data.length - 1) / 4 - off / 4 + 1)
    rw [State.writeLocal_of_clean s ref off hlen hpois, hdata]
    exact if_congr (by omega) rfl rfl

end

/-! ### Codebook writes (R46, R60) -/

theorem Signals.mem {s t : State} (h : Signals s t) : t.mem = s.mem := by
  obtain ⟨hrest, -⟩ := h
  rw [hrest]

theorem State.logRec_mem (s : State) (r : LogRec) (ok : Bool) : (s.logRec r ok).mem = s.mem := by
  unfold State.logRec
  dsimp only
  split
  · split
    · exact (Signals.raise _ 9).mem
    · rfl
  · exact (Signals.raise _ 9).mem

/-- Completing the events that memory has raised changes no byte of it. -/
theorem State.settle_data (s : State) : s.settle.mem.data = s.mem.data := by
  unfold State.settle
  dsimp only
  rw [(Signals.raises _ _).mem]
  refine List.foldlRecOn (motive := fun t : State => t.mem.data = s.mem.data) _ _ rfl fun t ht k _ => ?_
  split
  · rw [State.logRec_mem]
    exact ht
  · exact ht

theorem nth_map_const {α β : Type} [Inhabited β] (l : List α) {b : β} (hb : b = default) (i : Nat) :
    nth (l.map fun _ => b) i = b := by
  induction l generalizing i with
  | nil => exact hb.symm
  | cons a l ih =>
    cases i with
    | zero => rfl
    | succ i => exact ih i

theorem MemoryActs.codebookPut (s : State) (e : Nat) (h : HeldCb) : MemoryActs s (s.codebookPut e h) :=
  (MemoryActs.writeLocal s _ _ _ _).trans (MemoryActs.settle _)

/-- The memory after a codebook write of bytes that are not poisoned is performed. -/
theorem State.codebookPut_data {s : State} {e : Nat} (hs : s.StoresAsGiven 2 (s.siteOf e)) (cb off : Nat) (data : List Byte) (k : Nat) :
    Tab.at (s.codebookPut e ⟨cb, off, data, data.map fun _ => false⟩).mem.data k =
      if codebookKey (s.siteOf e) + cb * 524288 + off ≤ k ∧ k < codebookKey (s.siteOf e) + cb * 524288 + off + data.length then
        nth data (k - (codebookKey (s.siteOf e) + cb * 524288 + off))
      else Tab.at s.mem.data k := by
  unfold State.codebookPut
  rw [State.settle_data]
  exact State.writeLocal_data (fun _ => rfl) rfl hs off data (nth_map_const data rfl) k

theorem State.codebookHeld_iff (s : State) (e cb : Nat) :
    s.codebookHeld e cb = true ↔ s.decodesWith e cb = true ∨ ∃ h ∈ (s.engs.at e).held, h.cb = cb := by
  simp only [State.codebookHeld, Bool.or_eq_true, List.any_eq_true, decide_eq_true_eq]

section
variable (e : Eng) (cb : Fin 2) {off : Nat} {data : List Byte} (pois : List Bool) {s : State}

theorem exec_codebookWrite_beyond (hoff : 524288 < off + data.length) :
    exec (.codebookWrite e cb off data pois) s = .next (s.reply .error) := if_pos hoff

theorem exec_codebookWrite_held (hoff : off + data.length ≤ 524288) (hheld : s.codebookHeld e.val cb.val = true) :
    exec (.codebookWrite e cb off data pois) s =
      .next (s.engUpd e.val (fun u => { u with held := u.held ++ [⟨cb.val, off, data, pois⟩] })) :=
  (if_neg (Nat.not_lt.mpr hoff)).trans (if_pos hheld)

theorem exec_codebookWrite_performed (hoff : off + data.length ≤ 524288) (hfree : ¬s.codebookHeld e.val cb.val = true) :
    exec (.codebookWrite e cb off data pois) s = .next (s.codebookPut e.val ⟨cb.val, off, data, pois⟩) :=
  (if_neg (Nat.not_lt.mpr hoff)).trans (if_neg hfree)

end

/-- The write at the head of the queue, when it is the only one: it stays held, or leaves the queue and is performed. -/
theorem exec_heldCodebookWrite_one (e : Eng) {s : State} {h : HeldCb} (hheld : (s.engs.at e.val).held = [h]) :
    exec (.heldCodebookWrite e) s = .next (if s.decodesWith e.val h.cb then s.engUpd e.val (fun u => { u with held := [h] })
      else (s.engUpd e.val (fun u => { u with held := [] })).codebookPut e.val h) := by
  have hqueue : s.engUpd e.val (fun u => { u with held := u.held.filter (fun x => s.decodesWith e.val x.cb) }) =
      s.engUpd e.val (fun u => { u with held := [h].filter (fun x => s.decodesWith e.val x.cb) }) := by
    rw [← hheld]
    rfl
  have hexec : exec (.heldCodebookWrite e) s = execHeldCodebookWrite e s := rfl
  rw [hexec, execHeldCodebookWrite, hqueue, hheld]
  cases hdec : s.decodesWith e.val h.cb <;> simp [hdec]

/-- Settles O3, by whether the codebook is held: a write joins the queue, or is performed and lays its bytes word by word over the codebook's
cells. -/
theorem codebookWritesComplete : Obligations.CodebookWritesComplete := by
  refine ⟨fun e cb off data pois s hoff => ⟨fun hheld => ?held, ?performed⟩, ?beyond, fun e s h hheld => ⟨?stays, ?leaves⟩⟩
  case held => exact exec_codebookWrite_held e cb pois hoff ((s.codebookHeld_iff _ _).mpr hheld)
  case performed =>
    intro hdec hqueue hpois hpatch harm
    subst hpois
    have hfree : ¬s.codebookHeld e.val cb.val = true := by
      rw [s.codebookHeld_iff]
      rintro (h | ⟨h, hmem, hcb⟩)
      · exact Bool.false_ne_true (hdec.symm.trans h)
      · exact hqueue h hmem hcb
    have hdata := State.codebookPut_data (e := e.val) ⟨hpatch, harm⟩ cb.val off data
    refine ⟨_, exec_codebookWrite_performed e cb _ hoff hfree, fun j hj => ?_, fun k hk => ?_, MemoryActs.codebookPut ..⟩
    · rw [hdata, if_pos (by omega), Nat.add_sub_cancel_left]
    · rw [hdata, if_neg]
      rintro ⟨hle, hlt⟩
      obtain ⟨j, rfl⟩ := Nat.exists_eq_add_of_le hle
      exact hk j (by omega) rfl
  case beyond => exact fun e cb off data pois s => exec_codebookWrite_beyond e cb pois
  case stays =>
    intro hdec
    rw [exec_heldCodebookWrite_one e hheld, if_pos hdec]
  case leaves =>
    intro hdec
    rw [exec_heldCodebookWrite_one e hheld, hdec]
    rfl

end Sys2Proof.Machine

/-! PROOFS. No step takes memory out of its canonical form (O56).  A step changes the cells of memory only through the operations of
Laws/Memory.lean (`MemUnit.write_wf` and those beside it), which keep the form, and by starting afresh; all else that a step does leaves
them.  So each function of the model has one lemma here, of its own name in `MemUnit.Canon`, in the model's order: where memory is
canonical in the state that it takes, memory is so in the state that it gives.  A lemma's proof is the function's own composition of
states, read from the outside in; branches and folds go through `ite` and `foldl`. -/

/-! ### Canonical memory of states and of outcomes -/

namespace Sys2Proof.Machine

/-- The memory's list of cells is in canonical form. -/
def MemUnit.Canon (m : MemUnit) : Prop := Memory.wf m = true

/-- A command that goes on leaves memory in canonical form. -/
def Res.Canon : Res State → Prop
  | .next t => t.mem.Canon
  | .fault _ => True
  | .refused _ => True

/-- A part of a step leaves memory in canonical form, however it ends. -/
def Got.Canon {α : Type} : Got α → Prop
  | .ok s _ => s.mem.Canon
  | .fault s _ _ _ => s.mem.Canon
  | .wait _ => True

/-- A decode leaves memory in canonical form, whatever it comes to. -/
def Stage.Canon : Stage → Prop
  | .deliver s _ => s.mem.Canon
  | .on s => s.mem.Canon

/-- A copy leaves memory in canonical form, in the state `g` of what it answers or in that in which it waits. -/
def CopyCanon {α : Type} (g : α → State) : Except State α → Prop
  | .ok x => (g x).mem.Canon
  | .error t => t.mem.Canon

theorem Res.Canon.ite {p : Prop} [Decidable p] {a b : Res State} (ha : Res.Canon a) (hb : Res.Canon b) :
    Res.Canon (if p then a else b) := by
  split
  · exact ha
  · exact hb

theorem CopyCanon.ite {α : Type} {g : α → State} {p : Prop} [Decidable p] {a b : Except State α} (ha : CopyCanon g a)
    (hb : CopyCanon g b) : CopyCanon g (if p then a else b) := by
  split
  · exact ha
  · exact hb

section
variable {α β : Type}

theorem Got.Canon.ite {p : Prop} [Decidable p] {a b : Got α} (ha : a.Canon) (hb : b.Canon) :
    (if p then a else b).Canon := by
  split
  · exact ha
  · exact hb

theorem Got.Canon.bind {x : Got α} {f : State → α → Got β} (hx : x.Canon)
    (hf : ∀ {t : State} {a : α}, t.mem.Canon → (f t a).Canon) : (x.bind f).Canon := by
  cases x with
  | ok t a => exact hf hx
  | fault t c k a => exact hx
  | wait w => trivial

theorem Got.Canon.pass {x : Except Hold State} {f : State → Got α} (hx : ∀ {t : State}, x = .ok t → t.mem.Canon)
    (hf : ∀ {t : State}, t.mem.Canon → (f t).Canon) : (Got.pass x f).Canon := by
  cases x with
  | ok t => exact hf (hx rfl)
  | error w => trivial

theorem Got.Canon.foldl {f : Got β → α → Got β} {g : Got β} {l : List α} (hg : g.Canon)
    (hf : ∀ {g : Got β} {a : α}, g.Canon → (f g a).Canon) : (l.foldl f g).Canon := by
  induction l generalizing g with
  | nil => exact hg
  | cons a l ih => exact ih (hf hg)

theorem Got.Canon.each {s : State} {l : List α} {f : State → α → Got Unit} (h : s.mem.Canon)
    (hf : ∀ {t : State} {a : α}, t.mem.Canon → (f t a).Canon) : (Got.each l f s).Canon :=
  Got.Canon.foldl h fun hg => hg.bind hf

theorem Got.Canon.collect {s : State} {l : List α} {f : State → α → Got β} (h : s.mem.Canon)
    (hf : ∀ {t : State} {a : α}, t.mem.Canon → (f t a).Canon) : (Got.collect l f s).Canon :=
  Got.Canon.foldl h fun hg => hg.bind fun h => (hf h).bind fun h => h

end

section
variable {α β : Type} {g : α → State} {k : β → State} {x : Except State α}

theorem CopyCanon.bind {f : α → Except State β} (hx : CopyCanon g x)
    (hf : ∀ {a : α}, (g a).mem.Canon → CopyCanon k (f a)) : CopyCanon k (x.bind f) := by
  cases x with
  | ok a => exact hf hx
  | error t => exact hx

theorem CopyCanon.map {f : α → β} (hx : CopyCanon g x) (hf : ∀ {a : α}, (g a).mem.Canon → (k (f a)).mem.Canon) :
    CopyCanon k (x.map f) := by
  cases x with
  | ok a => exact hf hx
  | error t => exact hx

end

section
variable {α : Type} {t : State}

theorem Got.Canon.ok {x : Got α} {a : α} (hx : x.Canon) (e : x = .ok t a) : t.mem.Canon := by
  rw [e] at hx
  exact hx

theorem Got.Canon.fault {x : Got α} {c : Nat} {k : Option Nat} {a : Nat} (hx : x.Canon) (e : x = .fault t c k a) :
    t.mem.Canon := by
  rw [e] at hx
  exact hx

theorem Stage.Canon.deliver {x : Stage} {p : Bool} (hx : x.Canon) (e : x = .deliver t p) : t.mem.Canon := by
  rw [e] at hx
  exact hx

theorem Stage.Canon.on {x : Stage} (hx : x.Canon) (e : x = .on t) : t.mem.Canon := by
  rw [e] at hx
  exact hx

theorem CopyCanon.ok {g : α → State} {x : Except State α} {a : α} (hx : CopyCanon g x) (e : x = .ok a) : (g a).mem.Canon := by
  rw [e] at hx
  exact hx

theorem CopyCanon.error {g : α → State} {x : Except State α} (hx : CopyCanon g x) (e : x = .error t) : t.mem.Canon := by
  rw [e] at hx
  exact hx

end

theorem MemoryActs.canon {s t : State} (a : MemoryActs s t) (h : s.mem.Canon) : t.mem.Canon := a.wf h

theorem Signals.canon {s t : State} (a : Signals s t) (h : s.mem.Canon) : t.mem.Canon := by
  rw [a.mem]
  exact h

theorem FlashActs.canon {s t : State} (a : FlashActs s t) (h : s.mem.Canon) : t.mem.Canon := by
  obtain ⟨hrest, -⟩ := a
  rw [hrest]
  exact h

theorem DoorbellActs.canon {s t : State} (a : DoorbellActs s t) (h : s.mem.Canon) : t.mem.Canon := by
  obtain ⟨hrest, -⟩ := a
  rw [hrest]
  exact h

namespace MemUnit.Canon

theorem ite {p : Prop} [Decidable p] {a b : State} (ha : a.mem.Canon) (hb : b.mem.Canon) :
    (if p then a else b).mem.Canon := by
  split
  · exact ha
  · exact hb

theorem iteOver {β : Type} {g : β → State} {p : Prop} [Decidable p] {a b : β} (ha : (g a).mem.Canon) (hb : (g b).mem.Canon) :
    (g (if p then a else b)).mem.Canon := by
  split
  · exact ha
  · exact hb

theorem of_eq {α : Type} {x : State × α} {t : State} {a : α} (e : x = (t, a)) (h : x.1.mem.Canon) : t.mem.Canon := by
  rw [e] at h
  exact h

theorem fill {m : MemUnit} {p : Nat → Bool} (h : m.Canon) : (m.fill p).Canon := MemUnit.fill_wf h p

theorem memWrite {m : MemUnit} {c : CellRef} {mask w thr : Nat} {pois : Bool} (h : m.Canon) : (m.write c mask w pois thr).1.Canon :=
  MemUnit.write_wf h c mask w pois thr

theorem memRead {m : MemUnit} {c : CellRef} {thr : Nat} (h : m.Canon) : (m.read c thr).1.Canon :=
  MemUnit.read_wf h c thr

theorem blank : MemUnit.Canon default := rfl

theorem freePatches {m : MemUnit} {ik : Nat} {p : Nat → Bool} (h : m.Canon) : (m.freePatches ik p).Canon := h

theorem preload {m : MemUnit} {x : Nat × Nat} (h : m.Canon) : (m.preload x).Canon := by
  unfold MemUnit.preload
  split <;> exact h

theorem memFoldOver {α β : Type} {g : β → MemUnit} {f : β → α → β} {x : β} {l : List α} (h : (g x).Canon)
    (hf : ∀ {x : β} {a : α}, (g x).Canon → (g (f x a)).Canon) : (g (l.foldl f x)).Canon := by
  induction l generalizing x with
  | nil => exact h
  | cons a l ih => exact ih (hf h)

theorem memFoldl {α : Type} {m : MemUnit} {f : MemUnit → α → MemUnit} {l : List α} (h : m.Canon)
    (hf : ∀ {m : MemUnit} {a : α}, m.Canon → (f m a).Canon) : (l.foldl f m).Canon := memFoldOver (g := id) h hf

theorem with_retired {m : MemUnit} {retired : List Nat} (h : m.Canon) : ({ m with retired } : MemUnit).Canon := h

theorem foldOver {α β : Type} {g : β → State} {f : β → α → β} {x : β} {l : List α} (h : (g x).mem.Canon)
    (hf : ∀ {x : β} {a : α}, (g x).mem.Canon → (g (f x a)).mem.Canon) : (g (l.foldl f x)).mem.Canon :=
  memFoldOver (g := fun x => (g x).mem) h hf

theorem foldOver_of_eq {α β : Type} {g : β → State} {f : β → α → β} {x : β} {l : List α} (h : (g x).mem.Canon)
    (hf : ∀ {x y : β} {a : α}, (g x).mem.Canon → f x a = y → (g y).mem.Canon) : (g (l.foldl f x)).mem.Canon :=
  foldOver h fun h => hf h rfl

theorem foldl {α : Type} {s : State} {f : State → α → State} {l : List α} (h : s.mem.Canon)
    (hf : ∀ {t : State} {a : α}, t.mem.Canon → (f t a).mem.Canon) : (l.foldl f s).mem.Canon := foldOver (g := id) h hf

/-! #### What stands beside memory -/

section
variable {s : State}

theorem with_bup {bup} (h : s.mem.Canon) : ({ s with bup } : State).mem.Canon := h

theorem with_deadRows {deadRows} (h : s.mem.Canon) : ({ s with deadRows } : State).mem.Canon := h

theorem with_doze {doze} (h : s.mem.Canon) : ({ s with doze } : State).mem.Canon := h

theorem with_image_gen {image gen} (h : s.mem.Canon) : ({ s with image, gen } : State).mem.Canon := h

theorem with_faultN {faultN} (h : s.mem.Canon) : ({ s with faultN } : State).mem.Canon := h

theorem with_grp {grp} (h : s.mem.Canon) : ({ s with grp } : State).mem.Canon := h

theorem with_icu {icu} (h : s.mem.Canon) : ({ s with icu } : State).mem.Canon := h

theorem with_ldp {ldp} (h : s.mem.Canon) : ({ s with ldp } : State).mem.Canon := h

theorem with_load {load} (h : s.mem.Canon) : ({ s with load } : State).mem.Canon := h

theorem with_load_sec_bup {load sec bup} (h : s.mem.Canon) : ({ s with load, sec, bup } : State).mem.Canon := h

theorem with_load_doze {load doze} (h : s.mem.Canon) : ({ s with load, doze } : State).mem.Canon := h

theorem with_lostDevs {lostDevs} (h : s.mem.Canon) : ({ s with lostDevs } : State).mem.Canon := h

theorem with_mode {mode} (h : s.mem.Canon) : ({ s with mode } : State).mem.Canon := h

theorem with_movers {movers} (h : s.mem.Canon) : ({ s with movers } : State).mem.Canon := h

theorem with_place {place} (h : s.mem.Canon) : ({ s with place } : State).mem.Canon := h

theorem with_ports {ports} (h : s.mem.Canon) : ({ s with ports } : State).mem.Canon := h

theorem with_pwr {pwr} (h : s.mem.Canon) : ({ s with pwr } : State).mem.Canon := h

theorem with_pwr_bup {pwr bup} (h : s.mem.Canon) : ({ s with pwr, bup } : State).mem.Canon := h

theorem with_retr {retr} (h : s.mem.Canon) : ({ s with retr } : State).mem.Canon := h

theorem with_scrub {scrub} (h : s.mem.Canon) : ({ s with scrub } : State).mem.Canon := h

theorem with_sec {sec} (h : s.mem.Canon) : ({ s with sec } : State).mem.Canon := h

theorem with_sec_free {sec free} (h : s.mem.Canon) : ({ s with sec, free } : State).mem.Canon := h

theorem with_shadows {shadows} (h : s.mem.Canon) : ({ s with shadows } : State).mem.Canon := h

theorem with_staged_pend {staged pend} (h : s.mem.Canon) : ({ s with staged, pend } : State).mem.Canon := h

theorem with_tkt {tkt} (h : s.mem.Canon) : ({ s with tkt } : State).mem.Canon := h

theorem with_tap {tap} (h : s.mem.Canon) : ({ s with tap } : State).mem.Canon := h

theorem with_thm {thm} (h : s.mem.Canon) : ({ s with thm } : State).mem.Canon := h

theorem with_wave {wave} (h : s.mem.Canon) : ({ s with wave } : State).mem.Canon := h

end

theorem ok_of_map {ε α β : Type} {x : Except ε α} {f : α → β} {y : β} (e : x.map f = .ok y) : ∃ a, x = .ok a ∧ f a = y := by
  cases x with
  | error _ => cases e
  | ok a => exact ⟨a, rfl, Except.ok.inj e⟩

theorem ok_of_bind {ε α β : Type} {x : Except ε α} {f : α → Except ε β} {y : β} (e : x.bind f = .ok y) :
    ∃ a, x = .ok a ∧ f a = .ok y := by
  cases x with
  | error _ => cases e
  | ok a => exact ⟨a, rfl, e⟩

section
variable {s : State}

/-! ### The named operations that meanings share -/

/-! #### The register file -/

theorem rset {r v} (h : s.mem.Canon) : (s.rset r v).mem.Canon := h

theorem fset {r f v} (h : s.mem.Canon) : (s.fset r f v).mem.Canon := h

theorem bset {r f b} (h : s.mem.Canon) : (s.bset r f b).mem.Canon := h

theorem cnt {r f n} (h : s.mem.Canon) : (s.cnt r f n).mem.Canon := h

theorem wrap {r f n} (h : s.mem.Canon) : (s.wrap r f n).mem.Canon := h

theorem emit {o} (h : s.mem.Canon) : (s.emit o).mem.Canon := (Signals.emit _ _).canon h

theorem reply {p} (h : s.mem.Canon) : (s.reply p).mem.Canon := h

theorem via {f : State → Res State} (h : s.mem.Canon) (hf : Res.Canon (f s)) : (s.via f).mem.Canon := by
  unfold State.via
  split
  · rename_i e
    rw [e] at hf
    exact hf
  · exact h

/-! #### The host link -/

theorem tlpTx {n} (h : s.mem.Canon) : (s.tlpTx n).mem.Canon := h

theorem tlpRx {n} (h : s.mem.Canon) : (s.tlpRx n).mem.Canon := h

theorem hostOut {addr data pois} (h : s.mem.Canon) : (s.hostOut addr data pois).mem.Canon := emit (ite h h)

theorem msixOut {fn v} (h : s.mem.Canon) : (s.msixOut fn v).mem.Canon := (Signals.msixOut _ _ _).canon h

/-! #### Interrupts -/

theorem tgtUpd {t f} (h : s.mem.Canon) : (s.tgtUpd t f).mem.Canon := (Signals.tgtUpd _ _ _).canon h

theorem srcUpd {k f} (h : s.mem.Canon) : (s.srcUpd k f).mem.Canon := (Signals.srcUpd _ _ _).canon h

theorem alertBit {f} (h : s.mem.Canon) : (s.alertBit f).mem.Canon := (Signals.alertBit _ _).canon h

theorem present {k} (h : s.mem.Canon) : (s.present k).mem.Canon := (Signals.present _ _).canon h

theorem raise {k} (h : s.mem.Canon) : (s.raise k).mem.Canon := (Signals.raise _ _).canon h

theorem setLine {k b} (h : s.mem.Canon) : (s.setLine k b).mem.Canon := (Signals.setLine _ _ _).canon h

theorem presentBest {t} (h : s.mem.Canon) : (s.presentBest t).mem.Canon := (Signals.presentBest _ _).canon h

theorem presentAll (h : s.mem.Canon) : s.presentAll.mem.Canon := (Signals.presentAll _).canon h

theorem sendHeld {p} (h : s.mem.Canon) : (s.sendHeld p).mem.Canon := (Signals.sendHeld _ _).canon h

theorem ldpEvt {i} (h : s.mem.Canon) : (s.ldpEvt i).mem.Canon := raise h

/-! #### The defect log -/

theorem logRec {r ok} (h : s.mem.Canon) : (s.logRec r ok).mem.Canon := (MemoryActs.logRec _ _ _).canon h

/-! #### Free values -/

theorem tick (h : s.mem.Canon) : s.tick.mem.Canon := (MemoryActs.tick _).canon h

/-! ### The causeway's bundles as the rest of the device uses them -/

/-! #### Bundles (R22) -/

theorem bundleUpd {p f} (h : s.mem.Canon) : (s.bundleUpd p f).mem.Canon := h

theorem dirUpd {p dir f} (h : s.mem.Canon) : (s.dirUpd p dir f).mem.Canon := h

/-! #### The bundle that a transfer crosses (R116, R117, R315) -/

theorem flitsCross {p up down} (h : s.mem.Canon) : (s.flitsCross p up down).mem.Canon := (MemoryActs.flitsCross _ _ _ _).canon h

theorem crossBy {q rd part near far u} (h : s.mem.Canon) (e : s.crossBy q rd part near far = .ok u) : u.mem.Canon :=
  (MemoryActs.crossBy _ e).canon h

theorem cross {q rd part a u} (h : s.mem.Canon) (e : s.cross q rd part a = .ok u) : u.mem.Canon := crossBy h e

/-! #### Chain messages (R122, R123, R304) -/

theorem chainSend {port m} (h : s.mem.Canon) : (s.chainSend port m).mem.Canon := h

theorem dieSays {pos cls words lanes} (h : s.mem.Canon) : (s.dieSays pos cls words lanes).mem.Canon := h

theorem resourceSays {r cls words lanes} (h : s.mem.Canon) : (s.resourceSays r cls words lanes).mem.Canon :=
  (FlashActs.resourceSays _ _ _ _ _).canon h

/-! #### The chain router (R124) -/

theorem chainServe (h : s.mem.Canon) : s.chainServe.mem.Canon := by
  unfold State.chainServe
  dsimp only
  split
  · exact h
  · exact h
  · exact h

theorem networkTick (h : s.mem.Canon) : s.networkTick.mem.Canon := foldl (foldl h fun h => chainServe h) fun h => ite h h

/-! ### Frames of the Wealey links -/

theorem frameOut {f} (h : s.mem.Canon) : (s.frameOut f).mem.Canon := h

theorem requestOut {f} (h : s.mem.Canon) : (s.requestOut f).mem.Canon := h

theorem transferOut {typ d mask a ticket host data pois} (h : s.mem.Canon) : (s.transferOut typ d mask a ticket host data pois).mem.Canon :=
  foldOver (g := Prod.fst) h fun h => h

theorem entryOut {x} (h : s.mem.Canon) : (s.entryOut x).mem.Canon := h

theorem chainTo {d cls sp payload} (h : s.mem.Canon) : (s.chainTo d cls sp payload).mem.Canon := h

/-! ### Tickets and latency targets -/

/-! #### Resources -/

theorem tktUpd {r t f} (h : s.mem.Canon) : (s.tktUpd r t f).mem.Canon := (MemoryActs.tktUpd _ _ _ _).canon h

theorem resUpd {r f} (h : s.mem.Canon) : (s.resUpd r f).mem.Canon := (FlashActs.resUpd _ _ _).canon h

/-! #### Bands and holds -/

theorem throttle {r} (h : s.mem.Canon) : (s.throttle r).mem.Canon := (FlashActs.throttle _ _).canon h

theorem queueLevel {r reached} (h : s.mem.Canon) : (s.queueLevel r reached).mem.Canon := (FlashActs.queueLevel _ _ _).canon h

theorem countRead {r t held time} (h : s.mem.Canon) : (s.countRead r t held time).mem.Canon := (MemoryActs.countRead _ _ _ _ _).canon h

/-! #### Averages, steps and misses -/

theorem putStep {r t avg step} (h : s.mem.Canon) : (s.putStep r t avg step).mem.Canon := ite (throttle (tktUpd h)) (tktUpd h)

theorem exec_ticketAvgUpdate {k n t} (h : s.mem.Canon) : Res.Canon (execTicketAvgUpdate k n t s) := by
  unfold execTicketAvgUpdate
  dsimp only
  split
  · exact h
  · exact putStep (tktUpd h)

theorem miss {r t} (h : s.mem.Canon) : (s.miss r t).mem.Canon := raise (cnt (fset (fset (rset (ite (resourceSays h) h)))))

theorem exec_missWindowEnd {k n t} (h : s.mem.Canon) : Res.Canon (execMissWindowEnd k n t s) := by
  unfold execMissWindowEnd
  dsimp only
  split
  · exact h
  · exact ite (miss (tktUpd h)) (tktUpd h)

theorem exec_queueLevelReceive {r level band} (h : s.mem.Canon) : Res.Canon (execQueueLevelReceive r level band s) := resUpd h

/-! #### What a source holds -/

theorem putCredits {q r t n} (h : s.mem.Canon) : (s.putCredits q r t n).mem.Canon := h

theorem eachUnit {a n u} {f : State → Nat → Bool → Except Hold State} (h : s.mem.Canon)
    (hf : ∀ {t u : State} {b : Nat} {p : Bool}, t.mem.Canon → f t b p = .ok u → u.mem.Canon) (e : s.eachUnit a n f = .ok u) :
    u.mem.Canon := by
  unfold State.eachUnit at e
  refine List.foldlRecOn (motive := fun x : Except Hold State => ∀ u, x = .ok u → u.mem.Canon) _ _ ?start (fun x hx b _ => ?unit) u e
  case start =>
    rintro _ ⟨⟩
    exact h
  case unit =>
    intro u e
    cases x with
    | error w => cases e
    | ok t => exact hf (hx t rfl) e

theorem letPass {q t rd b u} (h : s.mem.Canon) (e : s.letPass q t rd b = .ok u) : u.mem.Canon :=
  (MemoryActs.letPass _ e).canon h

theorem pass {q t rd a n u} (h : s.mem.Canon) (e : s.pass q t rd a n = .ok u) : u.mem.Canon := (MemoryActs.pass _ e).canon h

theorem waitFor {q h'} (h : s.mem.Canon) : (s.waitFor q h').mem.Canon := by
  unfold State.waitFor
  split
  · exact h
  · exact ite h h

theorem hubPass {rd a n} (h : s.mem.Canon) : (s.hubPass rd a n).mem.Canon := (MemoryActs.hubPass _ _ _ _).canon h

/-! #### Admission (R229 to R231) -/

theorem avgReset {t} (h : s.mem.Canon) : (s.avgReset t).mem.Canon := foldl h fun h => putStep h

theorem setAside {t} (h : s.mem.Canon) : (s.setAside t).mem.Canon := h

theorem setAsideAll {n} (h : s.mem.Canon) : (State.setAsideAll n s).mem.Canon := by
  induction n generalizing s with
  | zero => exact h
  | succ n ih =>
    unfold State.setAsideAll
    refine ite h ?_
    split
    · exact ih (setAside h)
    · exact h

/-! ### Accesses to memory -/

theorem withMem {m : MemUnit} (h : m.Canon) : (s.withMem m).mem.Canon := h

theorem settle (h : s.mem.Canon) : s.settle.mem.Canon := (MemoryActs.settle _).canon h

theorem readBlock {hub scrub a x} (h : s.mem.Canon) (e : s.readBlock hub scrub a = some x) : x.1.mem.Canon :=
  (MemoryActs.readBlock e).canon h

theorem stackCount {rd a n} (h : s.mem.Canon) : (s.stackCount rd a n).mem.Canon := (MemoryActs.stackCount _ _ _ _).canon h

theorem placeTrim (h : s.mem.Canon) : s.placeTrim.mem.Canon := h

theorem readAt {hub point a n} (h : s.mem.Canon) : (s.readAt hub point a n).st.mem.Canon := (MemoryActs.readAt _ _ _ _ _).canon h

theorem writeBlock {c b lo hi bytes pois man} (h : s.mem.Canon) : (s.writeBlock c b lo hi bytes pois man).1.mem.Canon :=
  (MemoryActs.writeBlock _ _ _ _ _ _ _ _).canon h

theorem writeAt {hub a data pois mans} (h : s.mem.Canon) : (s.writeAt hub a data pois mans).st.mem.Canon :=
  (MemoryActs.writeAt _ _ _ _ _ _).canon h

theorem dropped {a} (h : s.mem.Canon) : (s.dropped a).mem.Canon := (MemoryActs.dropped _ _).canon h

theorem hubLay {a data} (h : s.mem.Canon) : (s.hubLay a data).mem.Canon := (MemoryActs.hubLay _ _ _).canon h

theorem hubWrite {a data} (h : s.mem.Canon) : (s.hubWrite a data).mem.Canon := (MemoryActs.hubWrite _ _ _).canon h

theorem hubRead {a n} (h : s.mem.Canon) : (s.hubRead a n).st.mem.Canon := (MemoryActs.hubRead _ _ _).canon h

theorem writeLocal {ref off data pois} (h : s.mem.Canon) : (s.writeLocal ref off data pois).mem.Canon :=
  (MemoryActs.writeLocal _ _ _ _ _).canon h

/-! ### Operations over the span tree that many meanings share -/

/-! #### The tree -/

theorem spanUpd {i f} (h : s.mem.Canon) : (s.spanUpd i f).mem.Canon := h

theorem engUpd {e f} (h : s.mem.Canon) : (s.engUpd e f).mem.Canon := h

theorem siteUpd {k f} (h : s.mem.Canon) : (s.siteUpd k f).mem.Canon := h

/-! #### Event rings -/

theorem ringWrite {t sp ev} (h : s.mem.Canon) : (s.ringWrite t sp ev).mem.Canon := ite (setLine h) h

theorem spanEvent {i ev} (h : s.mem.Canon) : (s.spanEvent i ev).mem.Canon := ringWrite h

theorem taskReported {i} (h : s.mem.Canon) : (s.taskReported i).mem.Canon := h

theorem setSpans {l x} (h : s.mem.Canon) : (s.setSpans l x).mem.Canon := by
  unfold State.setSpans
  refine foldl h fun h => ?_
  dsimp only
  split
  · exact h
  · exact h
  · exact h
  · exact h

theorem dbDrop {n} (h : s.mem.Canon) : (s.dbDrop n).mem.Canon := h

theorem degradeCheck (h : s.mem.Canon) : s.degradeCheck.mem.Canon := foldl h fun h => ite h (spanEvent h)

/-! #### Group spans (R36) -/

theorem groupSend {i cls payload} (h : s.mem.Canon) : (s.groupSend i cls payload).mem.Canon := ite (foldl h fun h => h) h

theorem groupCmd {i cmd arg ticket} (h : s.mem.Canon) : (s.groupCmd i cmd arg ticket).mem.Canon := foldl h fun h => groupSend h

/-! #### Synchronisation points -/

theorem syncSignal {i p eng dev} (h : s.mem.Canon) : (s.syncSignal i p eng dev).mem.Canon := ite (groupSend h) h

theorem abortPoints {i l} (h : s.mem.Canon) : (s.abortPoints i l).mem.Canon := h

theorem syncAbort {e} (h : s.mem.Canon) : (s.syncAbort e).mem.Canon := foldl h fun h => ite h (foldl h fun h => groupSend h)

/-! #### Ending tasks -/

theorem kvReturn {k} (h : s.mem.Canon) : (s.kvReturn k).mem.Canon := foldl h fun h => hubWrite h

theorem slotEnd {k c} (h : s.mem.Canon) : (s.slotEnd k c).mem.Canon := ite (kvReturn h) h

theorem abortEngine {e} (h : s.mem.Canon) : (s.abortEngine e).mem.Canon :=
  ite (syncAbort (dbDrop (foldl h fun h => slotEnd h))) (dbDrop (foldl h fun h => slotEnd h))

theorem putFault {e rec} (h : s.mem.Canon) : (s.putFault e rec).mem.Canon := h

theorem abortLocal {i rec} (h : s.mem.Canon) : (s.abortLocal i rec).mem.Canon :=
  ite (setSpans (foldl h fun h => abortEngine h)) (spanEvent (spanUpd (setSpans (foldl h fun h => abortEngine h))))

theorem abortTask {i rec} (h : s.mem.Canon) : (s.abortTask i rec).mem.Canon := foldl (abortLocal h) fun h => groupSend h

theorem ownFault {e rec} (h : s.mem.Canon) : (s.ownFault e rec).mem.Canon := by
  unfold State.ownFault
  split
  · exact h
  · exact h

theorem stepFault {e step code slot addr} (h : s.mem.Canon) : (s.stepFault e step code slot addr).mem.Canon := by
  unfold State.stepFault
  split
  · exact h
  · exact settle (ownFault (abortTask (putFault h)))

theorem ringEngine {e i v ticket} (h : s.mem.Canon) : (s.ringEngine e i v ticket).mem.Canon := ite h (ite (ite h h) (ite (stepFault h) h))

theorem loadEngine {e} (h : s.mem.Canon) : (s.loadEngine e).mem.Canon := foldl (writeLocal h) fun h => writeLocal h

/-! ### What the steps of a schedule share -/

/-! #### Steps -/

theorem fetchStep {e i} (h : s.mem.Canon) : (s.fetchStep e i).1.mem.Canon := by
  unfold State.fetchStep
  extract_lets u site r
  have hr : r.1.Canon := memFoldOver (g := Prod.fst) h memRead
  exact iteOver h (withMem hr)

/-! #### Steps that go well and steps that fault -/

theorem carried {e a n} (h : s.mem.Canon) : Got.Canon (s.carried e a n) := by
  unfold State.carried
  refine .pass (pass h) fun h => ?_
  dsimp only
  split
  · exact readAt h
  · split
    · exact readAt h
    · exact readAt h

theorem operand {e a n} (h : s.mem.Canon) : Got.Canon (s.operand e a n) := by
  unfold State.operand
  refine .pass (pass h) fun h => ?_
  dsimp only
  split
  · exact readAt h
  · split
    · exact readAt h
    · split
      · exact readAt h
      · exact readAt h

theorem lay {q a data pois} (h : s.mem.Canon) : Got.Canon (s.lay q a data pois) := by
  unfold State.lay
  refine .ite h ?_
  dsimp only
  split
  · exact writeAt h
  · split
    · exact writeAt h
    · exact writeAt h

theorem store {e a data pois} (h : s.mem.Canon) : Got.Canon (s.store e a data pois) := .pass (pass h) fun h => lay h

theorem mcastSkip {d} (h : s.mem.Canon) : (s.mcastSkip d).mem.Canon := raise h

theorem mcastPrune {dests} (h : s.mem.Canon) : (s.mcastPrune dests).1.mem.Canon :=
  foldl h fun h => ite (mcastSkip h) (foldl h fun h => mcastSkip h)

theorem routeCross {q leaves dests off n u} (h : s.mem.Canon) (e : s.routeCross q leaves dests off n = .ok u) : u.mem.Canon := by
  unfold State.routeCross at e
  refine eachUnit h (fun {t u b p} h e => ?_) e
  split at e
  · cases e
    exact h
  · exact crossBy h e

theorem storeRouteTo {q tk n dests o data pois} (h : s.mem.Canon) :
    Got.Canon (s.storeRouteTo q tk n dests o data pois) := by
  unfold State.storeRouteTo
  dsimp only
  refine .ite h (.ite ?unicast (.ite (.pass (routeCross (mcastPrune h)) fun h => .foldl h fun h => .bind h fun h => lay h)
    (.ite (.ite (.pass (eachUnit h letPass) fun h => .pass (routeCross h) fun h => lay h) h)
      (.ite h (.pass (routeCross h) fun h => transferOut h)))))
  case unicast =>
    split
    · exact .pass (routeCross h) fun h => lay h
    · exact h

theorem storeRoute {q tk n o data pois} (h : s.mem.Canon) : Got.Canon (s.storeRoute q tk n o data pois) := storeRouteTo h

theorem result {e it r o data pois} (h : s.mem.Canon) : Got.Canon (s.result e it r o data pois) := .ite h (.ite (storeRoute h) (store h))

theorem arith {e a} (h : s.mem.Canon) : (s.arith e a).mem.Canon := by
  unfold State.arith
  extract_lets site add s1
  have hadd {t : State} {n : Fin 5} {v : Nat} (ht : t.mem.Canon) : (add t n v).mem.Canon := ite ht (cnt ht)
  have h1 : s1.mem.Canon := hadd (hadd (hadd (hadd (hadd h))))
  exact ite h1 (engUpd h1)

/-! #### Row operands -/

theorem rowsAt {e a c g run rows k} (h : s.mem.Canon) : Got.Canon (s.rowsAt e a c g run rows k) :=
  .bind (operand h) fun h => .ite h (.bind (operand h) fun h => h)

theorem putRows {e it t a rows} (h : s.mem.Canon) : Got.Canon (s.putRows e it t a rows) :=
  .bind (result h) fun h => .bind (result h) fun h => h

theorem putWords {e it r l} (h : s.mem.Canon) : Got.Canon (s.putWords e it r l) := result h

/-! #### Slots, gangs and contexts -/

theorem putContext {e o t g item slot} (h : s.mem.Canon) : (s.putContext e o t g item slot).mem.Canon := writeBlock h

theorem bindContexts {e g item t task} (h : s.mem.Canon) : (s.bindContexts e g item t task).mem.Canon := foldl h fun h => putContext h

theorem bindOne {e k} (h : s.mem.Canon) : (s.bindOne e k).mem.Canon := by
  unfold State.bindOne
  dsimp only
  split
  · split
    · exact ite (engUpd (bindContexts h)) h
    · exact h
  · exact h

theorem bindGangs {n e k} (h : s.mem.Canon) : (s.bindGangs n e k).mem.Canon := by
  induction n generalizing s with
  | zero => exact h
  | succ n ih => exact ih (bindOne h)

theorem rebind {e} (h : s.mem.Canon) : (s.rebind e).mem.Canon := foldl h fun h => bindGangs h

/-! #### Synchronisation and completion -/

theorem stepDone {e k p} (h : s.mem.Canon) : (s.stepDone e k p).mem.Canon := by
  unfold State.stepDone
  dsimp only
  refine rebind (ite h ?_)
  split
  · exact syncSignal h
  · exact h

theorem stepWritten {e k p a b} (h : s.mem.Canon) : (s.stepWritten e k p a b).mem.Canon := ite (stepDone h) h

theorem stepTag {t status} (h : s.mem.Canon) : (s.stepTag t status).mem.Canon := by
  unfold State.stepTag
  split
  · exact h
  · exact ite (stepFault h) (ite (stepDone h) h)

theorem runStep {e i opc} {body : State → Step → StepRun → Task → Got Arith} (h : s.mem.Canon)
    (hbody : ∀ {t : State} {x : Step} {r : StepRun} {k : Task}, t.mem.Canon → (body t x r k).Canon) :
    (s.runStep e i opc body).mem.Canon := by
  unfold State.runStep
  dsimp only
  split
  · rename_i r task _ _
    have hf := fetchStep (e := e) (i := i) h
    split
    · rename_i e1
      exact stepFault (of_eq e1 hf)
    · rename_i s1 t e1
      have hb := hbody (x := t) (r := r) (k := task) (of_eq e1 hf)
      refine ite h ?_
      split
      · rename_i e2
        rw [e2] at hb
        exact stepFault hb
      · rename_i e2
        rw [e2] at hb
        exact settle (stepWritten (arith hb))
      · exact waitFor h
  · exact h

/-! ### The sampling unit and the grammar unit -/

/-! #### Slots -/

theorem slotUpd {k f} (h : s.mem.Canon) : (s.slotUpd k f).mem.Canon := h

/-! #### The grammar unit -/

theorem gramState {g q} (h : s.mem.Canon) : (s.gramState g q).1.mem.Canon := hubRead h

theorem gramTrans {g q} (h : s.mem.Canon) : (s.gramTrans g q).1.mem.Canon := hubRead (gramState h)

theorem gramClasses {g} (h : s.mem.Canon) : (s.gramClasses g).1.mem.Canon := hubRead h

theorem gramMask {k} (h : s.mem.Canon) : (s.gramMask k).1.mem.Canon := by
  unfold State.gramMask
  dsimp only
  split
  · exact h
  · exact gramState (gramTrans (gramClasses h))

theorem gramStep {k tok} (h : s.mem.Canon) : (s.gramStep k tok).mem.Canon := by
  unfold State.gramStep
  dsimp only
  split
  · exact h
  · refine ite h ?_
    split
    · exact gramTrans (gramClasses h)
    · exact slotUpd (gramTrans (gramClasses h))

theorem slotFault {e step code k} (h : s.mem.Canon) : (s.slotFault e step code k).mem.Canon := slotUpd (slotEnd (ownFault (putFault h)))

/-! #### The output ring -/

theorem putRecord {k rec_ tok} (h : s.mem.Canon) : (s.putRecord k rec_ tok).mem.Canon := by
  unfold State.putRecord
  split
  · exact h
  · dsimp only
    refine ite h ?_
    split
    · exact slotUpd (waitFor h)
    · rename_i e
      exact slotUpd (hubLay (pass h e))

theorem retryRecord {k} (h : s.mem.Canon) : (s.retryRecord k).mem.Canon := by
  unfold State.retryRecord
  split
  · exact putRecord h
  · exact h

theorem exec_tokenChoose {k} (h : s.mem.Canon) : Res.Canon (execTokenChoose k s) := by
  unfold execTokenChoose
  refine .ite ?_ h
  have hpost {t : State} {b c : Bool} (ht : t.mem.Canon) :
      (if b then t.slotEnd k.val 1 else if c then t.slotEnd k.val 2 else t).mem.Canon :=
    ite (slotEnd ht) (ite (slotEnd ht) ht)
  exact hpost (putRecord (gramStep (wrap (slotUpd (cnt (ite (tick h) h))))))

theorem exec_oringAdvance {k} (h : s.mem.Canon) : Res.Canon (execOringAdvance k s) := .ite h h

theorem exec_oringReadAdvance {k v} (h : s.mem.Canon) : Res.Canon (execOringReadAdvance k v s) := .ite (retryRecord h) h

theorem exec_samplerReseed (h : s.mem.Canon) : Res.Canon (execSamplerReseed s) := .ite h h

theorem exec_seqActivate {k} (h : s.mem.Canon) : Res.Canon (execSeqActivate k s) := .ite h h

theorem exec_seqDeactivate {k} (h : s.mem.Canon) : Res.Canon (execSeqDeactivate k s) := slotEnd h

theorem exec_sampStageWrite {k w v} (h : s.mem.Canon) : Res.Canon (execSampStageWrite k w v s) := h

theorem exec_sampGo {v} (h : s.mem.Canon) : Res.Canon (execSampGo v s) := .ite h (.ite h h)

theorem exec_histAppend {k v} (h : s.mem.Canon) : Res.Canon (execHistAppend k v s) := h

theorem exec_grammarMaskDone {k} (h : s.mem.Canon) : Res.Canon (execGrammarMaskDone k s) := by
  unfold execGrammarMaskDone
  dsimp only
  refine .ite ?_ h
  split
  · exact slotFault (gramMask h)
  · exact slotEnd (gramMask h)
  · exact slotUpd (gramMask h)

/-! #### Logits and tokens of engine steps -/

theorem takeLogit {k j w} (h : s.mem.Canon) : (s.takeLogit k j w).mem.Canon := ite h (ite h h)

theorem takeRow {e i t task x m} (h : s.mem.Canon) : (s.takeRow e i t task x m).mem.Canon := by
  unfold State.takeRow
  split
  · exact h
  · exact ite (ite (slotFault (foldl h fun h => takeLogit h)) (foldl h fun h => takeLogit h)) h

theorem logitsBody {e i t r task} (h : s.mem.Canon) : Got.Canon (logitsBody e i s t r task) :=
  .bind (rowsAt h) fun h => foldl h fun h => takeRow h

theorem exec_logitsOut {e i} (h : s.mem.Canon) : Res.Canon (execLogitsOut e i s) := runStep h fun h => logitsBody h

theorem tokenRow {e it t task m} (h : s.mem.Canon) : Got.Canon (s.tokenRow e it t task m) := by
  unfold State.tokenRow
  split
  · exact h
  · split
    · exact .ite (.bind (result h) fun h => h) h
    · exact h

theorem tokenInBody {e t r task} (h : s.mem.Canon) : Got.Canon (tokenInBody e s t r task) := .bind (.each h fun h => tokenRow h) fun h => h

theorem exec_tokenIn {e i} (h : s.mem.Canon) : Res.Canon (execTokenIn e i s) := .ite (runStep h fun h => tokenInBody h) h

/-! ### The meanings of the arithmetic steps of a schedule -/

/-! #### Operands of the array -/

theorem codebookEntry {e cb n} (h : s.mem.Canon) : Got.Canon (s.codebookEntry e cb n) := .ite (memRead (memRead h)) (memRead (memRead h))

theorem cb2Elems {e cb l} (h : s.mem.Canon) : Got.Canon (s.cb2Elems e cb l) :=
  .foldl h fun h => .bind h fun h => .bind (codebookEntry h) fun h => h

theorem columns {e x n} (h : s.mem.Canon) : Got.Canon (s.columns e x n) :=
  .ite (.foldl h fun h => .bind h fun h => .bind (cb2Elems h) fun h => h) h

theorem wordsAt {e a n} (h : s.mem.Canon) : Got.Canon (s.wordsAt e a n) := .bind (operand h) fun h => h

/-! #### Steps without arithmetic -/

theorem nopBody {x x1 x2} (h : s.mem.Canon) : Got.Canon (nopBody s x x1 x2) := h

theorem exec_nop {e i} (h : s.mem.Canon) : Res.Canon (execNop e i s) := runStep h fun h => nopBody h

theorem exec_sync {e i} (h : s.mem.Canon) : Res.Canon (execSync e i s) := runStep h fun h => nopBody h

/-! #### Array steps -/

theorem matmulBody {e parity t r x} (h : s.mem.Canon) : Got.Canon (matmulBody e parity s t r x) := by
  unfold Machine.matmulBody
  dsimp only
  split
  · exact h
  · exact .bind (rowsAt h) fun h => .bind (rowsAt h) fun h => .bind (columns h) fun h => .bind (.ite (wordsAt h) h) fun h => .bind
      (.ite h (wordsAt h)) fun h => putRows h

theorem exec_matmul {e i parity} (h : s.mem.Canon) : Res.Canon (execMatmul e i parity s) := runStep h fun h => matmulBody h

/-! #### Attention -/

theorem kvPage {e span h' base slot j} (h : s.mem.Canon) : Got.Canon (s.kvPage e span h' base slot j) := by
  unfold State.kvPage
  dsimp only
  refine .bind (operand h) fun h => ?_
  refine .ite h (.ite h ?_)
  split
  · exact h
  · exact .bind (store (tick h)) fun h => h

theorem appendToken {e span h' base slot pos} (h : s.mem.Canon) : Got.Canon (s.appendToken e span h' base slot pos) :=
  .bind (kvPage h) fun h => store h

theorem tokenAt {e h' base slot pos} (h : s.mem.Canon) : Got.Canon (s.tokenAt e h' base slot pos) := .bind (operand h) fun h => .ite h h

theorem cachedToken {e h' base slot pos} (h : s.mem.Canon) : Got.Canon (s.cachedToken e h' base slot pos) :=
  .bind (tokenAt h) fun h => operand h

theorem attnLens {e base t task} (h : s.mem.Canon) : Got.Canon (s.attnLens e base t task) :=
  .collect h fun h => .bind (operand h) fun h => h

theorem attnAppend {e base t task lens} (h : s.mem.Canon) : Got.Canon (s.attnAppend e base t task lens) :=
  .bind (.each h fun h => .each h fun h => appendToken h) fun h => .each h fun h => store h

theorem attnCached {e base t task full} (h : s.mem.Canon) : Got.Canon (s.attnCached e base t task full) :=
  .collect h fun h => .collect h fun h => cachedToken h

theorem attnBody {e parity t r task} (h : s.mem.Canon) : Got.Canon (attnBody e parity s t r task) := by
  unfold Machine.attnBody
  dsimp only
  refine .bind (rowsAt h) fun h => ?_
  refine .bind (attnLens h) fun h => ?_
  refine .bind (attnAppend h) fun h => ?_
  split
  · exact .bind (tokenAt h) fun h => h
  · exact .bind (attnCached h) fun h => putRows h

theorem exec_attnPaged {e x} (h : s.mem.Canon) : Res.Canon (execAttnPaged e x s) := runStep h fun h => attnBody h

/-! #### Expert layers -/

theorem routing {e a n} (h : s.mem.Canon) : Got.Canon (s.routing e a n) := .bind (operand h) fun h => h

theorem moeGateBody {e parity t r x} (h : s.mem.Canon) : Got.Canon (moeGateBody e parity s t r x) := by
  unfold Machine.moeGateBody
  dsimp only
  split
  · exact h
  · exact .bind (rowsAt h) fun h => .bind (rowsAt h) fun h => .bind (columns h) fun h => .bind (result (tick h)) fun h => h

theorem exec_moeGate {e x} (h : s.mem.Canon) : Res.Canon (execMoeGate e x s) := runStep h fun h => moeGateBody h

theorem dispatchRow {e it t recs m} (h : s.mem.Canon) : Got.Canon (s.dispatchRow e it t recs m) :=
  .bind (carried h) fun h => .bind (.ite h (carried h)) fun h => .ite h (.bind (storeRouteTo h) fun h => .ite h (storeRouteTo h))

theorem moeDispatchBody {e t r x} (h : s.mem.Canon) : Got.Canon (moeDispatchBody e s t r x) :=
  .bind (routing h) fun h => .bind (.each h fun h => dispatchRow h) fun h => h

theorem exec_moeDispatch {e i} (h : s.mem.Canon) : Res.Canon (execMoeDispatch e i s) := runStep h fun h => moeDispatchBody h

theorem moeGatherBody {e order t r x} (h : s.mem.Canon) : Got.Canon (moeGatherBody e order s t r x) :=
  .bind (routing h) fun h => .bind (rowsAt h) fun h => putRows h

theorem exec_moeGather {e i order} (h : s.mem.Canon) : Res.Canon (execMoeGather e i order s) := runStep h fun h => moeGatherBody h

/-! #### Normalisation and embedding -/

theorem normBody {layer e t r x} (h : s.mem.Canon) : Got.Canon (normBody layer e s t r x) :=
  .bind (rowsAt h) fun h => .bind (rowsAt h) fun h => .bind (.ite (rowsAt h) h) fun h => putRows h

theorem exec_normRms {e i} (h : s.mem.Canon) : Res.Canon (execNormRms e i s) := runStep h fun h => normBody h

theorem exec_normLayer {e i} (h : s.mem.Canon) : Res.Canon (execNormLayer e i s) := runStep h fun h => normBody h

theorem tableRow {e t a id} (h : s.mem.Canon) : Got.Canon (s.tableRow e t a id) :=
  .bind (operand h) fun h => .bind (.ite h (operand h)) fun h => h

theorem embedBody {e t r task} (h : s.mem.Canon) : Got.Canon (embedBody e s t r task) :=
  .bind (wordsAt h) fun h => .bind (.collect h fun h => .ite h (tableRow h)) fun h => putRows h

theorem exec_embedGather {e i} (h : s.mem.Canon) : Res.Canon (execEmbedGather e i s) := runStep h fun h => embedBody h

/-! #### Vector, special-function, reduction and transpose steps -/

theorem vecOperand {e used t r it} (h : s.mem.Canon) : Got.Canon (s.vecOperand e used t r it) := .ite (rowsAt h) h

theorem vecBody {e t r x} (h : s.mem.Canon) : Got.Canon (vecBody e s t r x) :=
  .bind (vecOperand h) fun h => .bind (vecOperand h) fun h => .bind (vecOperand h) fun h => .ite (.bind (putWords h) fun h => h) (putRows h)

theorem exec_vec {e i} (h : s.mem.Canon) : Res.Canon (execVec e i s) := runStep h fun h => vecBody h

theorem sfuBody {e t r x} (h : s.mem.Canon) : Got.Canon (sfuBody e s t r x) := .bind (rowsAt h) fun h => putRows h

theorem exec_sfu {e i} (h : s.mem.Canon) : Res.Canon (execSfu e i s) := runStep h fun h => sfuBody h

theorem reduceBody {e t r x} (h : s.mem.Canon) : Got.Canon (reduceBody e s t r x) := .bind (rowsAt h) fun h => putRows h

theorem exec_reduce {e i} (h : s.mem.Canon) : Res.Canon (execReduce e i s) := runStep h fun h => reduceBody h

theorem transposeBody {e t r x} (h : s.mem.Canon) : Got.Canon (transposeBody e s t r x) :=
  .bind (rowsAt h) fun h => .ite (.bind (columns h) fun h => putRows h) (.bind (result h) fun h => h)

theorem exec_transpose {e i} (h : s.mem.Canon) : Res.Canon (execTranspose e i s) := runStep h fun h => transposeBody h

/-! #### Reranking -/

theorem rerankBody {e t r x} (h : s.mem.Canon) : Got.Canon (rerankBody e s t r x) :=
  .bind (rowsAt h) fun h => .bind (rowsAt h) fun h => .bind (operand h) fun h => .bind (result h) fun h => h

theorem exec_rerankScore {e i} (h : s.mem.Canon) : Res.Canon (execRerankScore e i s) := runStep h fun h => rerankBody h

theorem topkBody {e t r x} (h : s.mem.Canon) : Got.Canon (topkBody e s t r x) :=
  .bind (operand h) fun h => .bind (result (tick h)) fun h => h

theorem exec_topk {e i} (h : s.mem.Canon) : Res.Canon (execTopk e i s) := runStep h fun h => topkBody h

theorem sendBody {e t r x} (h : s.mem.Canon) : Got.Canon (sendBody e s t r x) :=
  .ite (.bind (wordsAt h) fun h => .bind (wordsAt h) fun h => .bind (putWords h) fun h => h) (.bind (carried h) fun h => .bind (result h)
    fun h => h)

theorem exec_send {e i} (h : s.mem.Canon) : Res.Canon (execSend e i s) := runStep h fun h => sendBody h

/-! ### The engine's control -/

/-! #### Loops and starting a step -/

theorem useSync {e p} (h : s.mem.Canon) : (s.useSync e p).mem.Canon := by
  unfold State.useSync
  split
  · exact ite h h
  · exact h

theorem launch {e i t task} (h : s.mem.Canon) : (s.launch e i t task).mem.Canon := rebind (useSync (ite h h))

theorem exec_stepStart {e} (h : s.mem.Canon) : Res.Canon (execStepStart e s) := by
  unfold execStepStart
  dsimp only
  split
  · exact h
  · split
    · rename_i e
      exact stepFault (of_eq e (fetchStep h))
    · rename_i e
      refine .ite h ?_
      split
      · exact h
      · exact stepFault (of_eq e (fetchStep h))
      · exact launch (of_eq e (fetchStep h))

/-! #### Ending a task -/

theorem nextDoorbell {e} (h : s.mem.Canon) : (s.nextDoorbell e).mem.Canon := by
  unfold State.nextDoorbell
  split
  · exact h
  · exact ringEngine h

theorem taskEnd {e} (h : s.mem.Canon) : (s.taskEnd e).mem.Canon := by
  unfold State.taskEnd
  dsimp only
  refine nextDoorbell ?_
  split
  · exact taskReported (spanEvent h)
  · exact h

theorem exec_endTask {e i} (h : s.mem.Canon) : Res.Canon (execEndTask e i s) :=
  .ite (.ite (taskEnd (runStep h fun h => nopBody h)) (runStep h fun h => nopBody h)) h

/-! #### Gangs -/

theorem exec_gangDataReturn {e g} (h : s.mem.Canon) : Res.Canon (execGangDataReturn e g s) := .ite h (.ite h h)

theorem exec_engineIssueCycle {e reads items} (h : s.mem.Canon) : Res.Canon (execEngineIssueCycle e reads items s) := rebind h

/-! #### Synchronisation -/

theorem exec_syncSignal {sp p who} (h : s.mem.Canon) : Res.Canon (execSyncSignal sp p who s) := by
  unfold execSyncSignal
  split
  · exact .ite (syncSignal h) h
  · exact .ite (syncSignal h) h

/-! #### Codebooks -/

theorem codebookPut {e h'} (h : s.mem.Canon) : (s.codebookPut e h').mem.Canon := (MemoryActs.codebookPut _ _ _).canon h

theorem exec_codebookWrite {e cb off data pois} (h : s.mem.Canon) : Res.Canon (execCodebookWrite e cb off data pois s) :=
  .ite h (.ite h (codebookPut h))

theorem exec_heldCodebookWrite {e} (h : s.mem.Canon) : Res.Canon (execHeldCodebookWrite e s) := foldl h fun h => codebookPut h

/-! ### The verifier -/

/-! #### Key slots (R455) -/

theorem keyUpd {k f} (h : s.mem.Canon) : (s.keyUpd k f).mem.Canon := h

/-! #### Signed objects -/

theorem secEvt {i} (h : s.mem.Canon) : (s.secEvt i).mem.Canon := raise h

theorem vfyFail {kind reason} (h : s.mem.Canon) : (s.vfyFail kind reason).mem.Canon := secEvt h

/-! #### Licences (R458 to R460) -/

theorem licForce {l src} (h : s.mem.Canon) : (s.licForce l src).mem.Canon :=
  ite (rset (fset (fset (ite h h)))) (secEvt (rset (fset (fset (ite h h)))))

theorem licBoot (h : s.mem.Canon) : s.licBoot.mem.Canon := licForce h

/-! ### The two-phase mode change of the hub -/

theorem modeShow {phase cause change} (h : s.mem.Canon) : (s.modeShow phase cause change).mem.Canon := h

theorem commitShow {c st} (h : s.mem.Canon) : (s.commitShow c st).mem.Canon := ite h h

theorem unstage (h : s.mem.Canon) : s.unstage.mem.Canon := h

theorem modeSend {c cls w0 w1} (h : s.mem.Canon) : (s.modeSend c cls w0 w1).mem.Canon := foldl h fun h => h

theorem unitSays {u cls words} (h : s.mem.Canon) : (s.unitSays u cls words).mem.Canon := h

theorem modeAnswer {c phase result} (h : s.mem.Canon) : (s.modeAnswer c phase result).mem.Canon := by
  unfold State.modeAnswer
  split
  · exact h
  · exact h

theorem modeAbort {k} (h : s.mem.Canon) : (s.modeAbort k).mem.Canon := by
  unfold State.modeAbort
  split
  · exact ite (raise (unstage (commitShow (modeShow (modeAnswer (modeSend h)))))) h
  · exact h

theorem modeFinish (h : s.mem.Canon) : s.modeFinish.mem.Canon := by
  unfold State.modeFinish
  split
  · exact ite (commitShow (modeShow (modeAnswer h))) h
  · exact h

theorem modeGo {c} (h : s.mem.Canon) : (s.modeGo c).mem.Canon := modeFinish (modeShow (modeSend h))

theorem modeCommit (h : s.mem.Canon) : s.modeCommit.mem.Canon := by
  unfold State.modeCommit
  split
  · refine ite ?_ h
    split
    · exact modeGo h
    · exact modeAnswer h
  · exact h

theorem modeBegin {kind span units coord} (h : s.mem.Canon) : (s.modeBegin kind span units coord).mem.Canon :=
  modeCommit (modeShow (modeSend h))

theorem modeStart {kind span units} (h : s.mem.Canon) : (s.modeStart kind span units).mem.Canon := modeBegin h

theorem modeAbsent {u} (h : s.mem.Canon) : (s.modeAbsent u).mem.Canon := by
  unfold State.modeAbsent
  split
  · exact ite h (ite (modeAbort h) (ite (modeFinish h) h))
  · exact h

theorem modeStopped {l} (h : s.mem.Canon) : (s.modeStopped l).mem.Canon := by
  unfold State.modeStopped
  split
  · exact ite (modeAbort h) h
  · exact h

/-! ### What the barge movers share with the flash -/

/-! #### Places in flash -/

theorem flashUpd {f} (h : s.mem.Canon) : (s.flashUpd f).mem.Canon := (FlashActs.flashUpd _ _).canon h

theorem flashLevel {c} (h : s.mem.Canon) : (s.flashLevel c).mem.Canon := (FlashActs.flashLevel _ _).canon h

theorem flashQueue {c x} (h : s.mem.Canon) : (s.flashQueue c x).mem.Canon := (FlashActs.flashQueue _ _ _).canon h

theorem flashAsk {q} (h : s.mem.Canon) : (s.flashAsk q).mem.Canon := (FlashActs.flashAsk _ _).canon h

theorem flashLetGo {c src p n} (h : s.mem.Canon) : (s.flashLetGo c src p n).mem.Canon := ite (flashLevel (flashUpd (tick h))) h

theorem flashForget {w} (h : s.mem.Canon) : (s.flashForget w).mem.Canon := (FlashActs.flashForget _ _).canon h

/-! #### Rings (R180) -/

theorem moverUpd {m f} (h : s.mem.Canon) : (s.moverUpd m f).mem.Canon := h

theorem moverIndex {m v} (h : s.mem.Canon) : (s.moverIndex m v).mem.Canon := ite h h

/-! #### Descriptors -/

theorem passDie {q rd pos a n u} (h : s.mem.Canon) (e : s.passDie q rd pos a n = .ok u) : u.mem.Canon := eachUnit h crossBy e

theorem moverSource {w hub point r ext} (h : s.mem.Canon) : CopyCanon Source.st (s.moverSource w hub point r ext) := by
  unfold State.moverSource
  extract_lets d n go outside
  have hgo {x : Except Hold State} {f : State → Source} (hx : ∀ {t : State}, x = .ok t → t.mem.Canon)
      (hf : ∀ {t : State}, t.mem.Canon → (f t).st.mem.Canon) : CopyCanon Source.st (go x f) := by
    cases x with
    | ok t => exact hf (hx rfl)
    | error e => exact waitFor h
  have hout {t : State} (ht : t.mem.Canon) : (outside t).st.mem.Canon := by
    dsimp only [outside]
    split
    · exact ht
    · exact ht
  refine .ite h (.ite (hgo (passDie h) hout) (.ite ?flash ?memory))
  case flash =>
    split
    · exact h
    · exact hgo (passDie h) fun h => h
  case memory =>
    split
    · exact .ite (hout h) h
    · exact hgo (pass h) fun h => readAt h

/-! ### Reading flash -/

/-! #### Registers, LUNs and the profile -/

theorem flcEvt {c f} (h : s.mem.Canon) : (s.flcEvt c f).mem.Canon := setLine h

theorem groupUpd {g f} (h : s.mem.Canon) : (s.groupUpd g f).mem.Canon := flashUpd h

theorem blockUpd {b f} (h : s.mem.Canon) : (s.blockUpd b f).mem.Canon := flashUpd h

/-! #### ONFI commands (R238) -/

theorem onfi {c l ops} (h : s.mem.Canon) : (s.onfi c l ops).mem.Canon := foldl (flashUpd h) fun h => emit h

theorem applyOffs {c l offs} (h : s.mem.Canon) : (s.applyOffs c l offs).mem.Canon := ite h (flashUpd (onfi h))

theorem stageReads {a stage offs} (h : s.mem.Canon) : (s.stageReads a stage offs).mem.Canon := by
  unfold State.stageReads
  extract_lets c one k s1
  have hone {t : State} {d : Nat → Int} (ht : t.mem.Canon) : (one t d).mem.Canon := onfi (applyOffs ht)
  have h1 : s1.mem.Canon := ite (hone h) (applyOffs (ite (hone (hone (hone h))) (hone h)))
  exact blockUpd h1

/-! #### Superblocks, spare blocks and moves (R249 to R252, R257) -/

theorem sbUpd {i f} (h : s.mem.Canon) : (s.sbUpd i f).mem.Canon := (FlashActs.sbUpd _ _ _).canon h

theorem zoneUpd {z f} (h : s.mem.Canon) : (s.zoneUpd z f).mem.Canon := (FlashActs.zoneUpd _ _ _).canon h

theorem capShow (h : s.mem.Canon) : s.capShow.mem.Canon := (FlashActs.capShow _).canon h

theorem journal {n} (h : s.mem.Canon) : (s.journal n).mem.Canon := (FlashActs.journal _ _).canon h

theorem takeSpare {b} (h : s.mem.Canon) : (s.takeSpare b).mem.Canon := flashUpd h

theorem replace {i blk b} (h : s.mem.Canon) : (s.replace i blk b).mem.Canon := (FlashActs.replace _ _ _ _).canon h

theorem returnBlock {b} (h : s.mem.Canon) : (s.returnBlock b).mem.Canon := (FlashActs.returnBlock _ _).canon h

theorem releaseSb {i} (h : s.mem.Canon) : (s.releaseSb i).mem.Canon := (FlashActs.releaseSb _ _).canon h

theorem putMove {k m} (h : s.mem.Canon) : (s.putMove k m).mem.Canon := (FlashActs.putMove _ _ _).canon h

theorem moveFeed {k fuel} (h : s.mem.Canon) : (s.moveFeed k fuel).mem.Canon := (FlashActs.moveFeed _ _ _).canon h

theorem moveGo {k m l} (h : s.mem.Canon) : (s.moveGo k m l).mem.Canon := (FlashActs.moveGo _ _ _ _).canon h

theorem relocGo (h : s.mem.Canon) : s.relocGo.mem.Canon := (FlashActs.relocGo _).canon h

theorem rebuild {sb a page b us} (h : s.mem.Canon) : (s.rebuild sb a page b us).mem.Canon := moveGo (takeSpare h)

theorem moveDrop {k} (h : s.mem.Canon) : (s.moveDrop k).mem.Canon := (FlashActs.moveDrop _ _).canon h

theorem moveRedo {k i us u} (h : s.mem.Canon) (e : s.moveRedo k i us = some u) : u.mem.Canon := by
  unfold State.moveRedo at e
  split at e
  · cases e
    exact h
  · dsimp only at e
    split at e
    · cases e
    · cases e
      refine (FlashActs.moveGo _ _ _ _).canon ?_
      split
      · exact (FlashActs.replace _ _ _ _).canon ((FlashActs.moveUnqueue _ _ _).canon (takeSpare h))
      · exact (FlashActs.moveUnqueue _ _ _).canon (takeSpare h)

/-! #### The channel queue -/

theorem dequeue {c i} (h : s.mem.Canon) : (s.dequeue c i).mem.Canon := flashLevel (flashUpd h)

theorem setRun {k r} (h : s.mem.Canon) : (s.setRun k r).mem.Canon := flashUpd h

/-! #### Delivery -/

theorem fDeliver {q time stage code pois ue err} (h : s.mem.Canon) : (s.fDeliver q time stage code pois ue err).mem.Canon := by
  unfold State.fDeliver
  dsimp only
  split
  · exact ite h (countRead h)
  · exact moveFeed (flashUpd (ite h (countRead h)))
  · exact flashUpd (ite h (countRead h))

theorem markRefresh {a} (h : s.mem.Canon) : (s.markRefresh a).mem.Canon := by
  unfold State.markRefresh
  dsimp only
  refine ite (flcEvt (blockUpd h)) ?_
  split
  · exact ite (blockUpd h) (relocGo (flashUpd (blockUpd h)))
  · exact blockUpd h

theorem decodeConverged {a stage w n} (h : s.mem.Canon) : (s.decodeConverged a stage w n).mem.Canon := ite (groupUpd h) h

theorem loopDeliver {a stage w offs} (h : s.mem.Canon) : (s.loopDeliver a stage w offs).mem.Canon := ite h (ite (groupUpd h) h)

theorem stageDeliver {a stage} (h : s.mem.Canon) : (s.stageDeliver a stage).mem.Canon :=
  ite (markRefresh (ite h (ite h h))) (ite h (ite h h))

theorem unitLost {c} (h : s.mem.Canon) : (s.unitLost c).mem.Canon := flcEvt h

theorem decodeStage {a stage offs r} (h : s.mem.Canon) : (s.decodeStage a stage offs r).Canon := by
  unfold State.decodeStage
  split
  · exact h
  · dsimp only
    split
    · exact stageDeliver (loopDeliver (decodeConverged h))
    · exact cnt (decodeConverged h)

/-! #### The commands of reading -/

theorem flashRead {c} (h : s.mem.Canon) : (s.flashRead c).mem.Canon := by
  unfold State.flashRead
  split
  · exact ite (fDeliver (tick (dequeue h))) (stageReads (setRun (dequeue h)))
  · exact ite (fDeliver (tick (dequeue h))) (groupUpd (stageReads (setRun (dequeue h))))
  · exact h

theorem readRetry {q time stage offs} (h : s.mem.Canon) : (s.readRetry q time stage offs).mem.Canon := by
  unfold State.readRetry
  dsimp only
  split
  · exact flashLevel (flashUpd (setRun h))
  · exact fDeliver (unitLost (setRun h))

theorem pageRead {c lun r time} (h : s.mem.Canon) : (s.pageRead c lun r time).mem.Canon := by
  unfold State.pageRead
  dsimp only
  split
  · refine ite (fDeliver (setRun h)) ?_
    split
    · rename_i e
      exact readRetry ((decodeStage h).on e)
    · rename_i e
      refine fDeliver ?_
      split
      · exact ite (markRefresh (setRun ((decodeStage h).deliver e))) (setRun ((decodeStage h).deliver e))
      · exact setRun ((decodeStage h).deliver e)
  · exact h

/-! #### Probes -/

theorem exec_probeIssue {c g} (h : s.mem.Canon) : Res.Canon (execProbeIssue c g s) := by
  unfold execProbeIssue
  dsimp only
  split
  · exact .ite h (cnt (blockUpd (onfi (applyOffs (setRun (groupUpd h))))))
  · exact h

theorem probeResult {c lun w} (h : s.mem.Canon) : (s.probeResult c lun w).mem.Canon := by
  unfold State.probeResult
  dsimp only
  split
  · exact ite (cnt (setRun h)) (ite (cnt (groupUpd (setRun h))) (setRun h))
  · exact h

theorem exec_thresholdWrite {c v} (h : s.mem.Canon) : Res.Canon (execThresholdWrite c v s) := .ite h (groupUpd h)

/-! #### Patrol -/

theorem patrol {blk} (h : s.mem.Canon) : (s.patrol blk).mem.Canon := by
  unfold State.patrol
  dsimp only
  split
  · exact h
  · exact foldl h fun h => foldl h fun h => flashAsk h

theorem exec_readDisturbPatrol {c lun block} (h : s.mem.Canon) : Res.Canon (execReadDisturbPatrol c lun block s) :=
  .ite (patrol (blockUpd h)) h

theorem exec_patrolTimer (h : s.mem.Canon) : Res.Canon (execPatrolTimer s) := foldl h fun h => ite (patrol h) h

theorem exec_zqCalibration {c} (h : s.mem.Canon) : Res.Canon (execZqCalibration c s) := .ite h (flashUpd (foldl h fun h => emit h))

/-! ### Writing flash -/

/-! #### Wear -/

theorem wearCheck (h : s.mem.Canon) : s.wearCheck.mem.Canon := by
  unfold State.wearCheck
  dsimp only
  split
  · exact ite (relocGo (flashUpd h)) h
  · exact h

/-! #### Zones -/

theorem zoneAnswer {reason} (h : s.mem.Canon) : (s.zoneAnswer reason).mem.Canon := (FlashActs.zoneAnswer _ _).canon h

theorem zoneFinish {z} (h : s.mem.Canon) : (s.zoneFinish z).mem.Canon := (FlashActs.zoneFinish _ _).canon h

theorem zoneFree {z} (h : s.mem.Canon) : (s.zoneFree z).mem.Canon := (FlashActs.zoneFree _ _).canon h

theorem moverResult {m ix status errOff} (h : s.mem.Canon) : (s.moverResult m ix status errOff).mem.Canon :=
  (FlashActs.moverResult _ _ _ _ _).canon h

theorem appendEnd {z status errOff} (h : s.mem.Canon) : (s.appendEnd z status errOff).mem.Canon := (FlashActs.appendEnd _ _ _ _).canon h

theorem appendFail {z} (h : s.mem.Canon) : (s.appendFail z).mem.Canon := (FlashActs.appendFail _ _).canon h

theorem zoneDamage {z} (h : s.mem.Canon) : (s.zoneDamage z).mem.Canon := (FlashActs.zoneDamage _ _).canon h

theorem damageCheck (h : s.mem.Canon) : s.damageCheck.mem.Canon := (FlashActs.damageCheck _).canon h

theorem exec_zoneOpen {nsb} (h : s.mem.Canon) : Res.Canon (execZoneOpen nsb s) :=
  .ite h (.ite (zoneAnswer h) (.ite (zoneAnswer h)
    (.ite (zoneAnswer h) (.ite (zoneAnswer h)
    (zoneAnswer (wearCheck (capShow (journal (rset (zoneUpd (foldl (tick h) fun h => sbUpd h)))))))))))

theorem exec_zoneFinish (h : s.mem.Canon) : Res.Canon (execZoneFinish s) :=
  .ite h (.ite (zoneAnswer h) (.ite (zoneAnswer h) (.ite (zoneAnswer h) (.ite (fset (zoneUpd h)) (zoneFinish h)))))

theorem exec_zoneFree (h : s.mem.Canon) : Res.Canon (execZoneFree s) :=
  .ite h (.ite (zoneAnswer h) (.ite (zoneAnswer h) (.ite (fset (zoneUpd h)) (zoneFree h))))

theorem exec_zoneQuery (h : s.mem.Canon) : Res.Canon (execZoneQuery s) := .ite h (.ite (zoneAnswer h) (.ite (zoneAnswer h) (zoneAnswer h)))

/-! #### Appends and programs -/

theorem exec_zoneAppend {m ext} (h : s.mem.Canon) : Res.Canon (execZoneAppend m ext s) := by
  unfold execZoneAppend
  extract_lets u g zero
  split
  · exact h
  · extract_lets +onlyGivenNames z off x mark
    have hmark {t : State} (ht : t.mem.Canon) : (mark t).mem.Canon := with_movers ht
    refine .ite (moverResult (hmark h)) (.ite h (.ite (moverResult (hmark h)) ?_))
    split
    · rename_i e
      exact (moverSource h).error e
    · rename_i e
      extract_lets +onlyGivenNames units st s1
      have h1 : s1.mem.Canon := flashForget (hmark (settle ((moverSource h).ok e)))
      exact .ite (moverResult h1) (foldl (zoneUpd h1) fun h => flashQueue h)

theorem exec_appendComplete {z} (h : s.mem.Canon) : Res.Canon (execAppendComplete z s) := by
  unfold execAppendComplete
  dsimp only
  split
  · exact .ite h (appendEnd (zoneUpd h))
  · exact h

theorem programLost {j} (h : s.mem.Canon) : (s.programLost j).mem.Canon := by
  unfold State.programLost
  split
  · exact appendFail h
  · rename_i k i _
    cases e : s.moveRedo k i j.units with
    | none => exact moveDrop h
    | some t => exact moveRedo h e

theorem flashProgram {c} (h : s.mem.Canon) : (s.flashProgram c).mem.Canon := by
  unfold State.flashProgram
  split
  · exact ite (programLost (dequeue h)) (onfi (setRun (dequeue h)))
  · exact h

theorem storePage {blk page units} (h : s.mem.Canon) : (s.storePage blk page units).mem.Canon := blockUpd (flashUpd h)

theorem appendPassed {z} (h : s.mem.Canon) : (s.appendPassed z).mem.Canon := zoneUpd h

theorem programFailed {c b} (h : s.mem.Canon) : (s.programFailed c b).mem.Canon := journal (blockUpd h)

theorem movePassed {k i} (h : s.mem.Canon) : (s.movePassed k i).mem.Canon := by
  unfold State.movePassed
  split
  · exact h
  · exact ite (putMove h) (foldl (replace (putMove h)) fun h => appendPassed h)

theorem programStatus {c lun pass} (h : s.mem.Canon) : (s.programStatus c lun pass).mem.Canon := by
  unfold State.programStatus
  extract_lets k s1
  have h1 : s1.mem.Canon := setRun h
  split
  · rename_i j _
    extract_lets a s2 s3
    have h2 : s2.mem.Canon := programFailed h1
    have h3 : s3.mem.Canon := flcEvt h2
    split
    · refine ite h1 (ite (appendPassed (storePage h1)) ?_)
      dsimp only
      split
      · exact flcEvt (rebuild h2)
      · exact ite (zoneDamage h3) (appendFail h3)
    · rename_i m i _
      refine ite h1 (ite (movePassed (storePage h1)) (flcEvt ?_))
      cases e : s2.moveRedo m i j.units with
      | none => exact foldl (moveDrop h2) fun h => zoneDamage h
      | some t => exact moveRedo h2 e
  · exact h

/-! #### Erases and relocations -/

theorem erased {b} (h : s.mem.Canon) : (s.erased b).mem.Canon := by
  unfold State.erased
  refine ite (flashUpd h) ?_
  split
  · exact sbUpd h
  · exact h

theorem eraseLost {b} (h : s.mem.Canon) : (s.eraseLost b).mem.Canon := by
  unfold State.eraseLost
  split
  · split
    · exact replace (erased h)
    · exact foldl (flashUpd (sbUpd h)) fun h => returnBlock h
  · exact flashUpd h

theorem eraseBlock {b} (h : s.mem.Canon) : (s.eraseBlock b).mem.Canon := flashUpd h

theorem eraseStatus {c lun pass} (h : s.mem.Canon) : (s.eraseStatus c lun pass).mem.Canon := by
  unfold State.eraseStatus
  split
  · exact ite h (ite (relocGo (wearCheck (capShow (erased (eraseBlock (onfi (dequeue h)))))))
      (flcEvt (capShow (eraseLost (journal (blockUpd (cnt (onfi (dequeue h)))))))))
  · exact h

theorem exec_relocationSwitch {sb} (h : s.mem.Canon) : Res.Canon (execRelocationSwitch sb s) := by
  unfold execRelocationSwitch
  split
  · exact relocGo h
  · split
    · exact h
    · exact .ite h (capShow (journal (releaseSb (flashUpd (sbUpd (sbUpd (putMove h)))))))

/-! #### Fences -/

theorem rawEnd {c r} (h : s.mem.Canon) : (s.rawEnd c r).mem.Canon := flcEvt h

theorem lunDrop {c l} (h : s.mem.Canon) : (s.lunDrop c l).mem.Canon := by
  unfold State.lunDrop
  extract_lets k mine drop out s1 s2 s3
  have hdrop {t : State} {x : FCmd} (ht : t.mem.Canon) : (drop t x).mem.Canon := by
    cases x with
    | read _ => exact fDeliver ht
    | retry _ _ _ => exact fDeliver ht
    | program _ => exact programLost ht
    | erase _ => exact eraseLost ht
    | raw _ => exact rawEnd ht
  have h3 : s3.mem.Canon := setRun (foldl (flashLevel (flashUpd h)) hdrop)
  split
  · exact fDeliver h3
  · exact programLost h3
  · exact h3

theorem chanFence {c logOk} (h : s.mem.Canon) : (s.chanFence c logOk).mem.Canon := flcEvt (logRec (foldl h fun h => lunDrop h))

theorem lunFence {c l logOk} (h : s.mem.Canon) : (s.lunFence c l logOk).mem.Canon :=
  ite h (capShow (damageCheck (ite (chanFence (flcEvt (logRec (lunDrop h)))) (flcEvt (logRec (lunDrop h))))))

theorem exec_lunTimeout {c lun logOk} (h : s.mem.Canon) : Res.Canon (execLunTimeout c lun logOk s) := lunFence h

theorem exec_ledgerCheckpoint (h : s.mem.Canon) : Res.Canon (execLedgerCheckpoint s) := .ite h (flashUpd h)

/-! #### Format and mount -/

theorem exec_format {pct} (h : s.mem.Canon) : Res.Canon (execFormat pct s) := by
  unfold execFormat
  extract_lets refuse m r
  have hrefuse {t : State} {n : Nat} (ht : t.mem.Canon) : (refuse t n).mem.Canon := raise (fset (fset ht))
  have hr : r.st.mem.Canon := hubRead h
  exact .ite h (.ite (hrefuse h) (.ite (hrefuse hr) (.ite (hrefuse hr) (.ite (hrefuse hr) (fset (flashUpd hr))))))

theorem writeLabel {k} (h : s.mem.Canon) : (s.writeLabel k).mem.Canon := storePage (ite h (eraseBlock h))

theorem exec_formatDone {marked} (h : s.mem.Canon) : Res.Canon (execFormatDone marked s) := by
  unfold execFormatDone
  split
  · exact h
  · exact raise (fset (fset (capShow (foldl (flashUpd h) fun h => writeLabel h))))

theorem discover {c found} (h : s.mem.Canon) : (s.discover c found).mem.Canon := foldl h fun h => onfi h

theorem setRate {c mine rate} (h : s.mem.Canon) : (s.setRate c mine rate).mem.Canon := foldl h fun h => onfi h

theorem exec_mount {found trained logOk} (h : s.mem.Canon) : Res.Canon (execMount found trained logOk s) := by
  unfold execMount
  refine .ite h (fset (foldl (flashUpd h) fun {t c} h => ?_))
  have h1 {x y z w : Nat} : (((((t.discover c found).fset (.FLC_STAT (chan c)) F.FLC_STAT_TARGETS x).fset (.FLC_LUN (chan c))
      F.FLC_LUN_USED y).fset (.FLC_LUN_FENCE (chan c)) F.FLC_LUN_FENCE_FENCED z).fset (.FLC_OPEN (chan c)) F.FLC_OPEN_MASK w).mem.Canon :=
    fset (fset (fset (fset (discover h))))
  exact ite (fset h1) (ite (fset h1) (ite (chanFence h1) (fset (setRate h1))))

theorem mountEnd {ok wps} (h : s.mem.Canon) : (s.mountEnd ok wps).mem.Canon :=
  ite (raise (capShow (damageCheck (foldl (fset (flashUpd h)) fun h => releaseSb h)))) (raise h)

/-! ### Operations of the retrieval engines -/

/-! #### Pipelines -/

theorem pipeUpd {p f} (h : s.mem.Canon) : (s.pipeUpd p f).mem.Canon := (DoorbellActs.pipeUpd _ _ _).canon h

theorem qUpd {k f} (h : s.mem.Canon) : (s.qUpd k f).mem.Canon := h

theorem queryRelease {k} (h : s.mem.Canon) : (s.queryRelease k).mem.Canon := h

theorem rtvEvt {f src} (h : s.mem.Canon) : (s.rtvEvt f src).mem.Canon := ite h (raise h)

theorem rtvRaise {f src} (h : s.mem.Canon) : (s.rtvRaise f src).mem.Canon := raise h

theorem rtvDoorbell {p v} (h : s.mem.Canon) : (s.rtvDoorbell p v).mem.Canon := (DoorbellActs.rtvDoorbell _ _ _).canon h

theorem rtvRelease (h : s.mem.Canon) : s.rtvRelease.mem.Canon := (DoorbellActs.rtvRelease _).canon h

/-! #### Failing and asking -/

theorem queryFailNow {k code zi off} (h : s.mem.Canon) : (s.queryFailNow k code zi off).mem.Canon := by
  unfold State.queryFailNow
  split
  · exact ite h (qUpd (flashForget h))
  · exact h

theorem qAsk {k zi u re tag} (h : s.mem.Canon) : (s.qAsk k zi u re tag).mem.Canon := by
  unfold State.qAsk
  split
  · refine ite h ?_
    split
    · exact ite (qUpd (flashAsk h)) (queryFailNow h)
    · exact queryFailNow h
  · exact h

theorem scanFeed {k n} (h : s.mem.Canon) : (s.scanFeed k n).mem.Canon := by
  induction n generalizing s with
  | zero => exact h
  | succ n ih =>
    unfold State.scanFeed
    split
    · refine ite h ?_
      split
      · exact ih (qAsk (qUpd h))
      · exact h
    · exact h

theorem lexFeed {k n} (h : s.mem.Canon) : (s.lexFeed k n).mem.Canon := by
  induction n generalizing s with
  | zero => exact h
  | succ n ih =>
    unfold State.lexFeed
    split
    · dsimp only
      refine ite h ?_
      split
      · exact ih (qAsk (qUpd h))
      · exact h
    · exact h

theorem walkSelect {k} (h : s.mem.Canon) : (s.walkSelect k).mem.Canon := by
  unfold State.walkSelect
  split
  · exact ite h (ite h (ite h (ite (queryFailNow h) (foldl h fun h => qAsk h))))
  · exact h

/-! ### The span control interface -/

/-! #### Doorbells (R132) -/

theorem deliverLeaf {i v ticket l} (h : s.mem.Canon) : (s.deliverLeaf i v ticket l).mem.Canon := by
  unfold State.deliverLeaf
  split
  · exact ringEngine h
  · exact foldl h fun h => rtvDoorbell h
  · exact moverIndex h
  · exact h

theorem deliverEntry {i v ticket j} (h : s.mem.Canon) : (s.deliverEntry i v ticket j).mem.Canon := by
  unfold State.deliverEntry
  split
  · exact foldl h fun h => deliverLeaf h
  · exact h
  · exact h
  · exact h
  · exact h

theorem ringSpan {i v ticket} (h : s.mem.Canon) : (s.ringSpan i v ticket).mem.Canon := by
  unfold State.ringSpan
  split
  · exact foldl h fun h => deliverEntry h
  · exact deliverEntry h
  · exact deliverEntry h
  · exact h

theorem exec_doorbell {sp v ticket} (h : s.mem.Canon) : Res.Canon (execDoorbell sp v ticket s) := groupCmd (ringSpan h)

theorem exec_eventRingPop {t} (h : s.mem.Canon) : Res.Canon (execEventRingPop t s) := by
  unfold execEventRingPop
  dsimp only
  split
  · exact h
  · exact reply (setLine h)

/-! #### Commands (R131) -/

theorem cmdErr (h : s.mem.Canon) : s.cmdErr.mem.Canon := h

theorem accepting {i ok} (h : s.mem.Canon) : (s.accepting i ok).1.mem.Canon := iteOver h (ite h h)

theorem deliverHeld {j} (h : s.mem.Canon) : (s.deliverHeld j).mem.Canon := by
  unfold State.deliverHeld
  split
  · exact h
  · exact ite (ringSpan h) (deliverEntry h)

theorem startSpan {i arg ticket} (h : s.mem.Canon) : (s.startSpan i arg ticket).mem.Canon :=
  foldl (foldl (foldl (accepting h) fun h => h) fun h => ite h (ringEngine h)) fun h => deliverHeld h

theorem haltWork {l} (h : s.mem.Canon) : (s.haltWork l).mem.Canon :=
  foldl (foldl (foldl h fun h => abortEngine h) fun h => queryFailNow h) fun h => foldl (pipeUpd h) fun h => h

theorem stopSpan {i} (h : s.mem.Canon) : (s.stopSpan i).mem.Canon := modeStopped (haltWork (setSpans (accepting h)))

theorem drainSpan {i} (h : s.mem.Canon) : (s.drainSpan i).mem.Canon := setSpans (accepting h)

theorem clearSpan {i} (h : s.mem.Canon) : (s.clearSpan i).mem.Canon :=
  setSpans (foldl (foldl (foldl (accepting h) fun h => h) fun h => pipeUpd h) fun h => h)

/-! #### Releasing (R131, R147) -/

theorem release {l} (h : s.mem.Canon) : (s.release l).mem.Canon := foldl (placeTrim (setSpans h)) fun h => h

theorem noImage (h : s.mem.Canon) : s.noImage.mem.Canon := licBoot (foldl h fun h => h)

theorem putTickets {l} (h : s.mem.Canon) : (s.putTickets l).mem.Canon := foldl h fun h => avgReset h

theorem unloadSpan {i} (h : s.mem.Canon) : (s.unloadSpan i).mem.Canon :=
  ite (putTickets (noImage (release (accepting h)))) (release (accepting h))

/-! #### Quiet leaves (R131) -/

theorem spanCommand {i cmd arg ticket} (h : s.mem.Canon) : (s.spanCommand i cmd arg ticket).mem.Canon := by
  unfold State.spanCommand
  split
  · exact startSpan h
  · exact stopSpan h
  · exact drainSpan h
  · exact clearSpan h
  · exact unloadSpan h
  · exact h

theorem exec_spanStart {sp arg ticket} (h : s.mem.Canon) : Res.Canon (execSpanStart sp arg ticket s) := spanCommand (groupCmd h)

theorem exec_spanStop {sp} (h : s.mem.Canon) : Res.Canon (execSpanStop sp s) := spanCommand (groupCmd h)

theorem exec_spanDrain {sp} (h : s.mem.Canon) : Res.Canon (execSpanDrain sp s) := spanCommand (groupCmd h)

theorem exec_spanClear {sp} (h : s.mem.Canon) : Res.Canon (execSpanClear sp s) := spanCommand (groupCmd h)

theorem exec_spanUnload {sp} (h : s.mem.Canon) : Res.Canon (execSpanUnload sp s) := degradeCheck (spanCommand (groupCmd h))

theorem sayQuiet {j} (h : s.mem.Canon) : (s.sayQuiet j).mem.Canon := ite h (groupSend h)

theorem exec_spanQuiet {sp} (h : s.mem.Canon) : Res.Canon (execSpanQuiet sp s) :=
  .ite (ite (setSpans (foldl h fun h => sayQuiet h)) (foldl h fun h => sayQuiet h)) h

/-! ### The fit check -/

/-! #### Tickets (R149, R229, R230) -/

theorem loadTickets {img} (h : s.mem.Canon) : (s.loadTickets img).mem.Canon := putTickets h

/-! ### Loading a workload image -/

/-! #### Ends of a load (R146, R147) -/

theorem loadState {st} (h : s.mem.Canon) : (s.loadState st).mem.Canon := h

theorem loadEnd {st code rec_ span err} (h : s.mem.Canon) : (s.loadEnd st code rec_ span err).mem.Canon := raise (ite h h)

theorem loadRefused {r} (h : s.mem.Canon) : (s.loadRefused r).mem.Canon := loadEnd h

theorem placeFailed {ix err} (h : s.mem.Canon) : (s.placeFailed ix err).mem.Canon :=
  loadEnd (foldl (ite (release h) (putTickets (noImage (release h)))) fun h => ite (flashForget h) h)

theorem loadActivate (h : s.mem.Canon) : s.loadActivate.mem.Canon := ite (modeStart h) h

theorem placeDone {ix} (h : s.mem.Canon) : (s.placeDone ix).mem.Canon := loadActivate h

/-! #### Writing an image (R147, steps 5 to 7) -/

theorem putExtent {x} (h : s.mem.Canon) : (s.putExtent x).mem.Canon := ite h h

theorem putGram {x} (h : s.mem.Canon) : (s.putGram x).mem.Canon := hubWrite (hubWrite (hubWrite h))

theorem putSamp {r} (h : s.mem.Canon) : (s.putSamp r).mem.Canon := fset (foldl h fun h => h)

theorem admitLoad {h' img} (h : s.mem.Canon) : (s.admitLoad h' img).mem.Canon := ite (setAsideAll (loadTickets h)) (loadTickets h)

theorem loadWrite {h' lic img} (h : s.mem.Canon) : (s.loadWrite h' lic img).mem.Canon :=
  degradeCheck (loadActivate (loadState (foldl
    (foldl (foldl (foldl (foldl (foldl (foldl (foldl (ite (release h) (admitLoad (foldl (rset (release h)) fun h => h))) fun h => h)
    fun h => pipeUpd h) fun h => h) fun h => putExtent h) fun h => loadEngine h) fun h => putGram h) fun h => putSamp h) fun h => h)))

/-! #### The fit check of an image's bytes (R145) -/

theorem fitImage {l} (h : s.mem.Canon) : (s.fitImage l).1.mem.Canon := by
  unfold State.fitImage
  split
  · exact h
  · refine iteOver h ?_
    extract_lets v
    refine iteOver (vfyFail h) ?_
    extract_lets
    split
    · exact h
    · split
      · exact h
      · extract_lets c rec_
        refine iteOver (vfyFail h) ?_
        extract_lets
        split
        · exact h
        · exact h

theorem loadBytes {host} (h : s.mem.Canon) : (s.loadBytes host).1.mem.Canon := iteOver h (settle (readAt h))

theorem exec_imageLoad {v host} (h : s.mem.Canon) : Res.Canon (execImageLoad v host s) := by
  unfold execImageLoad
  refine .ite h (.ite (fset h) ?_)
  extract_lets s0 r notIdle
  have hr : r.1.mem.Canon := loadBytes (fset (fset (fset h)))
  refine .ite (loadEnd hr) ?_
  split
  · rename_i e
    exact loadRefused (of_eq e (fitImage hr))
  · rename_i e
    have h1 := of_eq e (fitImage hr)
    exact .ite (loadWrite (with_load h1)) (loadState (with_load_doze h1))

theorem loadWoken {d ok} (h : s.mem.Canon) : (s.loadWoken d ok).mem.Canon := by
  unfold State.loadWoken
  refine ite h (ite (placeFailed h) ?_)
  dsimp only
  refine ite h ?_
  split
  · rename_i e
    exact loadRefused (of_eq e (fitImage h))
  · rename_i e
    exact loadWrite (of_eq e (fitImage h))

theorem seedEngines (h : s.mem.Canon) : s.seedEngines.mem.Canon := tick (foldl h fun h => h)

theorem exec_imageLoaded (h : s.mem.Canon) : Res.Canon (execImageLoaded s) := by
  unfold execImageLoaded
  extract_lets +onlyGivenNames phase
  refine .ite (loadActivate h) (.ite (placeFailed h) (.ite h ?_))
  extract_lets +onlyGivenNames u s1
  have h1 : s1.mem.Canon := foldl h fun h => spanUpd h
  extract_lets _ _ _ s2 s3 s4 s5
  have h2 : s2.mem.Canon := with_image_gen (seedEngines h1)
  have h3 : s3.mem.Canon := fset (foldl (rset h2) fun h => rset h)
  have h4 : s4.mem.Canon := by
    refine ite h3 ?_
    split
    · exact licForce h3
    · exact licBoot h3
  have h5 : s5.mem.Canon := loadEnd h4
  exact degradeCheck (ite (raise h5) h5)

/-! ### The compute die -/

/-! #### The row mapping -/

theorem setMap {d r w} (h : s.mem.Canon) : (s.setMap d r w).mem.Canon := h

theorem logMap {d r w cause ok} (h : s.mem.Canon) : (s.logMap d r w cause ok).mem.Canon := logRec h

theorem substResult {d r v} (h : s.mem.Canon) : (s.substResult d r v).mem.Canon := ite (raise h) h

/-! #### Fencing a site -/

theorem engineLost {e} (h : s.mem.Canon) : (s.engineLost e).mem.Canon := by
  unfold State.engineLost
  dsimp only
  refine modeAbsent (abortEngine ?_)
  split
  · exact ownFault (abortTask h)
  · exact syncAbort h

theorem fence {k cause ok} (h : s.mem.Canon) : (s.fence k cause ok).mem.Canon := by
  unfold State.fence
  dsimp only
  refine ite ?_ (ite (raise (logMap h)) (ite (substResult (raise (logMap (logMap h)))) h))
  refine settle (degradeCheck (raise (logMap ?_)))
  split
  · exact engineLost h
  · exact h

theorem heartbeats {d missed ok} (h : s.mem.Canon) : (s.heartbeats d missed ok).mem.Canon :=
  foldl h fun h => ite (ite (ite (fence h) (raise h)) h) h

theorem exec_engFence {site v logOk} (h : s.mem.Canon) : Res.Canon (execEngFence site v logOk s) := .ite (fence h) h

theorem exec_controlParityError {site logOk} (h : s.mem.Canon) : Res.Canon (execControlParityError site logOk s) := fence h

theorem exec_powerGateFault {site logOk} (h : s.mem.Canon) : Res.Canon (execPowerGateFault site logOk s) := fence h

/-! #### Substitution -/

theorem exec_rowSubst {d v meshBusy} (h : s.mem.Canon) : Res.Canon (execRowSubst d v meshBusy s) := by
  unfold execRowSubst
  dsimp only
  refine .ite h (.ite (substResult h) ?_)
  split
  · exact substResult h
  · exact substResult h
  · exact substResult h

theorem fillSite {k} (h : s.mem.Canon) : (s.fillSite k).mem.Canon := fill h

theorem exec_substPortBind {d r logOk} (h : s.mem.Canon) : Res.Canon (execSubstPortBind d r logOk s) := by
  unfold execSubstPortBind
  dsimp only
  split
  · exact .ite (settle (substResult (degradeCheck (loadEngine (setMap (fillSite (logMap h))))))) (substResult (setMap (logMap h)))
  · exact h

/-! #### Edge routers -/

theorem exec_edgeSelWrite {d v} (h : s.mem.Canon) : Res.Canon (execEdgeSelWrite d v s) := .ite h (foldl h fun h => h)

theorem exec_edgeSelApply {e} (h : s.mem.Canon) : Res.Canon (execEdgeSelApply e s) := .ite h h

/-! #### Multicast -/

theorem exec_mcastDeliver {d mask off data pois lost} (h : s.mem.Canon) :
    Res.Canon (execMcastDeliver d mask off data pois lost s) := by
  unfold execMcastDeliver
  dsimp only
  split
  · exact h
  · rename_i e
    refine foldl (eachUnit h crossBy e) fun {t k} h => ite (mcastSkip h) ?_
    split
    · rename_i e
      exact settle ((lay h).ok e)
    · rename_i e
      exact settle ((lay h).fault e)
    · exact h

/-! #### The barrier -/

theorem exec_barrierArrive {e} (h : s.mem.Canon) : Res.Canon (execBarrierArrive e s) := .ite (.ite h h) h

theorem exec_barrierRelease {e} (h : s.mem.Canon) : Res.Canon (execBarrierRelease e s) := .ite h h

/-! #### The seam -/

theorem exec_seamStallAlert {d cycles} (h : s.mem.Canon) : Res.Canon (execSeamStallAlert d cycles s) := .ite (raise h) h

/-! ### The command headers of the causeway -/

theorem flitsOut {p k kind tag l} (h : s.mem.Canon) : (s.flitsOut p k kind tag l).mem.Canon := foldl (flitsCross h) fun h => emit h

theorem readFlits {p k h' a bytes pois} (h : s.mem.Canon) : (s.readFlits p k h' a bytes pois).mem.Canon := flitsOut h

theorem cplFlit {p k h' st} (h : s.mem.Canon) : (s.cplFlit p k h' st).mem.Canon := flitsOut h

/-! ### How requests that come over a Wealey port or from the host are answered -/

/-! #### Errors and completions (R346) -/

theorem hbrErr {f addr fn} (h : s.mem.Canon) : (s.hbrErr f addr fn).mem.Canon := raise (tick (fset (fset (fset (ite h h)))))

theorem hostComplete {fn tag p} (h : s.mem.Canon) : (s.hostComplete fn tag p).mem.Canon := emit h

theorem hostData {fn tag addr data pois} (h : s.mem.Canon) : (s.hostData fn tag addr data pois).mem.Canon :=
  ite (hostComplete (hbrErr h)) (hostComplete h)

theorem hostAbort {fn tag addr} (h : s.mem.Canon) : (s.hostAbort fn tag addr).mem.Canon := hostComplete (hbrErr h)

theorem hostUnsupported {fn tag addr} (h : s.mem.Canon) : (s.hostUnsupported fn tag addr).mem.Canon := hostComplete (hbrErr h)

theorem hostDrop {fn addr} (h : s.mem.Canon) : (s.hostDrop fn addr).mem.Canon := reply (hbrErr h)

/-! #### Doorbells (R347) -/

theorem hostRing {fn addr v} (h : s.mem.Canon) : (s.hostRing fn addr v).mem.Canon := by
  unfold State.hostRing
  split
  · exact h
  · refine ite (via h (exec_doorbell h)) ?_
    extract_lets t s1
    have h1 : s1.mem.Canon := transferOut h
    exact h1

theorem ringHeld {l} (h : s.mem.Canon) : (State.ringHeld l s).mem.Canon := by
  induction l generalizing s with
  | nil => exact h
  | cons x l ih => exact ite h (ih (hostRing h))

theorem ringNext (h : s.mem.Canon) : s.ringNext.mem.Canon := ringHeld h

theorem hostDoorbell {fn addr v} (h : s.mem.Canon) : (s.hostDoorbell fn addr v).mem.Canon := ringNext h

/-! #### Requests that this device has sent (R326, R346) -/

theorem winPart {w tag data pois} (h : s.mem.Canon) : (s.winPart w tag data pois).mem.Canon := ite (hostData h) h

theorem tagDone {tag status data pois} (h : s.mem.Canon) : (s.tagDone tag status data pois).mem.Canon := by
  unfold State.tagDone
  dsimp only
  split
  · exact ite (winPart h) (hostAbort h)
  · exact ringNext (ite (hostDrop h) (ite (settle (dropped h)) h))
  · exact stepTag (ite h h)

/-! #### Requests served here (R326, R346) -/

theorem respond {f status data pois} (h : s.mem.Canon) : (s.respond f status data pois).mem.Canon := h

theorem answerDie {p q write} (h : s.mem.Canon) : (s.answerDie p q write).mem.Canon := by
  unfold State.answerDie
  split
  · exact h
  · dsimp only
    split
    · exact cplFlit h
    · exact cplFlit h
    · exact readFlits h
    · exact cplFlit h

theorem answer {q write} (h : s.mem.Canon) : (s.answer q write).mem.Canon := by
  unfold State.answer
  split
  · split
    · exact h
    · dsimp only
      split
      · exact h
      · exact h
      · exact h
      · exact h
  · split
    · refine ringNext ?_
      split
      · exact hostDrop h
      · exact h
    · split
      · exact h
      · dsimp only
        split
        · exact hostData h
        · exact hostAbort h
  · exact answerDie h
  · exact h

/-! ### Pair sets -/

/-! #### Consistency and adoption -/

theorem pairPut {l x} (h : s.mem.Canon) : (s.pairPut l x).mem.Canon := by
  unfold State.pairPut
  dsimp only
  split
  · exact h
  · exact h
  · exact h
  · refine foldl h fun h => ?_
    split
    · exact h
    · exact h

theorem pairAdopted {a} (h : s.mem.Canon) : (s.pairAdopted a).mem.Canon := by
  unfold State.pairAdopted
  split
  · exact ite (rset (avgReset h)) (avgReset h)
  · exact ite h h
  · exact h
  · exact h

theorem pairAdopt {l xs} (h : s.mem.Canon) : (s.pairAdopt l xs).mem.Canon := foldl (foldl h fun h => pairPut h) fun h => pairAdopted h

theorem pairShow (h : s.mem.Canon) : s.pairShow.mem.Canon := h

theorem pairTry {x} (h : s.mem.Canon) : (s.pairTry x).mem.Canon := ite h (ite (raise h) (ite h (pairShow (pairAdopt h))))

theorem pairWake {x} (h : s.mem.Canon) : (s.pairWake x).mem.Canon := ite (pairTry h) h

theorem pairWrite {k v} (h : s.mem.Canon) : (s.pairWrite k v).mem.Canon := by
  unfold State.pairWrite
  dsimp only
  refine ite h (ite ?_ h)
  split
  · exact pairTry h
  · exact h

theorem rwpWrite {r v} (h : s.mem.Canon) : (s.rwpWrite r v).mem.Canon := pairWrite h

theorem exec_rwpWrite {off v} (h : s.mem.Canon) : Res.Canon (execRwpWrite off v s) := by
  unfold execRwpWrite
  split
  · exact .ite h (rwpWrite h)
  · exact h

theorem exec_pairCommit {v} (h : s.mem.Canon) : Res.Canon (execPairCommit v s) := .ite h (modeStart h)

theorem exec_shadowClear {v} (h : s.mem.Canon) : Res.Canon (execShadowClear v s) := .ite h h

theorem exec_pairAbandon {v} (h : s.mem.Canon) : Res.Canon (execPairAbandon v s) := .ite h h

theorem exec_levelWrite {v} (h : s.mem.Canon) : Res.Canon (execLevelWrite v s) := .ite h h

/-! ### The meanings of the memory commands -/

/-! #### Reads and writes (R160, R174, R203, R207) -/

theorem wakeSite {a} (h : s.mem.Canon) : (s.wakeSite a).mem.Canon := by
  unfold State.wakeSite
  split
  · exact h
  · exact h

theorem atResource {q r write held} (h : s.mem.Canon) : (s.atResource q r write held).mem.Canon :=
  ite (ite (wrap (queueLevel h)) (queueLevel h)) (countRead (ite (wrap (queueLevel h)) (queueLevel h)))

theorem serveRead {q} (h : s.mem.Canon) : (s.serveRead q).mem.Canon := by
  unfold State.serveRead
  refine ite (reply h) ?_
  extract_lets p r s1
  have h1 : s1.mem.Canon := settle (readAt (wakeSite h))
  refine ite (reply h1) ?_
  split
  · exact ite (reply h1) (reply h1)
  · exact reply h1

theorem serveWrite {q} (h : s.mem.Canon) : (s.serveWrite q).mem.Canon := by
  unfold State.serveWrite
  refine ite (reply h) ?_
  extract_lets w s1
  have h1 : s1.mem.Canon := writeAt (wakeSite h)
  split
  · exact reply (settle h1)
  · split
    · exact reply (settle (dropped h1))
    · exact reply (settle (dropped h1))
    · exact reply (settle h1)
  · exact reply (settle h1)

theorem crossAll {q rd a n u} (h : s.mem.Canon) (e : s.crossAll q rd a n = .ok u) : u.mem.Canon := eachUnit h cross e

theorem perform {q write held u} (h : s.mem.Canon) (e : s.perform q write held = .ok u) : u.mem.Canon := by
  unfold State.perform at e
  obtain ⟨t, ht, rfl⟩ := ok_of_map e
  have ha : t.mem.Canon := crossAll h ht
  extract_lets s1
  have h1 : s1.mem.Canon := by
    dsimp only [s1]
    split
    · exact atResource ha
    · exact ha
  refine answer ?_
  split
  · exact serveWrite h1
  · exact serveRead h1

theorem holdReq {r q write} (h : s.mem.Canon) : (s.holdReq r q write).mem.Canon := h

theorem request {q write} (h : s.mem.Canon) : (s.request q write).mem.Canon := by
  unfold State.request
  dsimp only
  refine ite (holdReq h) ?_
  split
  · rename_i e
    exact perform h e
  · exact holdReq h

theorem exec_memoryRead {q} (h : s.mem.Canon) : Res.Canon (execMemoryRead q s) := request h

theorem exec_memoryWrite {q} (h : s.mem.Canon) : Res.Canon (execMemoryWrite q s) := .ite (request h) trivial

/-! #### Throttling (R25, R166, R223, R226, R227) -/

theorem pumpReqs {n} (h : s.mem.Canon) : (State.pumpReqs n s).mem.Canon := by
  induction n generalizing s with
  | zero => exact h
  | succ n ih =>
    unfold State.pumpReqs
    split
    · exact h
    · extract_lets q t _ s1 s2
      have h1 : s1.mem.Canon := with_tkt h
      have h2 : s2.mem.Canon := ite (putCredits h1) h1
      split
      · rename_i e
        exact ih (perform (resUpd (tick h2)) e)
      · exact h

theorem pump (h : s.mem.Canon) : s.pump.mem.Canon := pumpReqs h

theorem sourceGoes {q} (h : s.mem.Canon) : (s.sourceGoes q).mem.Canon := ite (foldl (pump h) fun h => retryRecord h) (pump h)

theorem exec_throttleReceive {q r band hold} (h : s.mem.Canon) : Res.Canon (execThrottleReceive q r band hold s) :=
  sourceGoes (ite h (flashLetGo h))

theorem exec_leakRelease {q r t} (h : s.mem.Canon) : Res.Canon (execLeakRelease q r t s) :=
  .ite h (sourceGoes (ite (putCredits (ite h (flashLetGo h))) (ite h (flashLetGo h))))

/-! #### Stacks (R168) -/

theorem markFenced {pos cause} (h : s.mem.Canon) : (s.markFenced pos cause).mem.Canon := h

theorem fenceStack {n cause ok} (h : s.mem.Canon) : (s.fenceStack n cause ok).mem.Canon := ite h (raise (logRec h))

theorem exec_stackFence {n logOk} (h : s.mem.Canon) : Res.Canon (execStackFence n logOk s) := fenceStack h

/-! #### Patch entries, macros and pages (R199 to R201) -/

theorem exec_patchRelease {v logOk} (h : s.mem.Canon) : Res.Canon (execPatchRelease v logOk s) := by
  unfold execPatchRelease
  dsimp only
  split
  · exact h
  · exact .ite h (logRec (memWrite h))

theorem macroShow {st} (h : s.mem.Canon) : (s.macroShow st).mem.Canon := h

theorem macroApply {site mac cause ok} (h : s.mem.Canon) : (s.macroApply site mac cause ok).mem.Canon := macroShow (raise (logRec h))

theorem exec_macroFence {v logOk} (h : s.mem.Canon) : Res.Canon (execMacroFence v logOk s) :=
  .ite h (.ite h (.ite h (.ite (macroApply h) h)))

theorem exec_macroFenceApply {site macro_ logOk} (h : s.mem.Canon) : Res.Canon (execMacroFenceApply site macro_ logOk s) :=
  .ite (macroApply h) h

theorem exec_pageRetire {v logOk} (h : s.mem.Canon) : Res.Canon (execPageRetire v logOk s) := by
  unfold execPageRetire
  extract_lets a p inst show_
  have hs {t : State} {r : Nat} (ht : t.mem.Canon) : (show_ t r).mem.Canon := fset ht
  clear_value show_ inst p
  refine .ite h ?_
  split
  · exact hs h
  · refine .ite (hs h) (.ite (hs h) ?_)
    dsimp only
    exact hs (logRec (fset (withMem (with_retired (freePatches h)))))

theorem exec_flipArm {v} (h : s.mem.Canon) : Res.Canon (execFlipArm v s) := h

/-! #### Scrubbing (R211, R212) -/

theorem exec_scrubStart {t} (h : s.mem.Canon) : Res.Canon (execScrubStart t s) := .ite h h

theorem exec_scrubStop (h : s.mem.Canon) : Res.Canon (execScrubStop s) := h

theorem scrubBlock {p a x} (h : s.mem.Canon) (e : s.scrubBlock p a = .ok x) : x.1.mem.Canon := by
  unfold State.scrubBlock at e
  split at e
  · cases e
    exact h
  · obtain ⟨t, ht, rfl⟩ := ok_of_map e
    have h1 : t.mem.Canon := pass h ht
    extract_lets m s0
    have h0 : s0.mem.Canon := stackCount (withMem h1)
    split
    · exact h1
    · rename_i e
      exact settle (readBlock h0 e)

theorem scrubFold {x : Except Hold (State × Scrub)} {l : List Nat} {a : Nat → Nat} {r} (hx : ∀ {r}, x = .ok r → r.1.mem.Canon)
    (e : l.foldl (fun x i => x.bind fun x => x.1.scrubBlock x.2 (a i)) x = .ok r) : r.1.mem.Canon := by
  induction l generalizing x with
  | nil => exact hx e
  | cons i l ih =>
    refine ih (fun e => ?_) e
    obtain ⟨y, hy, e⟩ := ok_of_bind e
    exact scrubBlock (hx hy) e

theorem exec_scrubDone {scanned} (h : s.mem.Canon) : Res.Canon (execScrubDone scanned s) := by
  unfold execScrubDone
  split
  · exact h
  · extract_lets n
    split
    · exact waitFor h
    · rename_i e
      have h1 := scrubFold (by rintro _ ⟨⟩; exact h) e
      exact raise (fset (fset (fset (hubWrite (fset (with_scrub h1))))))

/-! ### The meanings of the retrieval engines' commands -/

/-! #### Admission (R267, R270, R271) -/

theorem rtvRead {q a n x} (h : s.mem.Canon) (e : s.rtvRead q a n = .ok x) : x.1.mem.Canon := by
  unfold State.rtvRead at e
  obtain ⟨t, ht, rfl⟩ := ok_of_map e
  exact settle (readAt (pass h ht))

theorem rtvWrite {q a data x} (h : s.mem.Canon) (e : s.rtvWrite q a data = .ok x) : x.1.mem.Canon := by
  unfold State.rtvWrite at e
  obtain ⟨t, ht, rfl⟩ := ok_of_map e
  exact iteOver (pass h ht) (settle (writeAt (pass h ht)))

theorem orWait {q} {x : Except Hold State} (h : s.mem.Canon) (hx : ∀ {t}, x = .ok t → t.mem.Canon) : Res.Canon (s.orWait q x) := by
  unfold State.orWait
  split
  · exact hx rfl
  · exact waitFor h

theorem searchBegin {k p d} (h : s.mem.Canon) : (s.searchBegin k p d).mem.Canon := by
  unfold State.searchBegin
  refine ite ?_ (ite (walkSelect h) (lexFeed h))
  split
  · exact queryFailNow h
  · exact scanFeed h

theorem readIf {q c a n x} (h : s.mem.Canon) (e : s.readIf q c a n = .ok x) : x.1.mem.Canon := by
  unfold State.readIf at e
  split at e
  · exact rtvRead h e
  · cases e
    exact h

theorem queryReads {q d x} (h : s.mem.Canon) (e : s.queryReads q d = .ok x) : x.1.mem.Canon := by
  unfold State.queryReads at e
  obtain ⟨v, hv, e⟩ := ok_of_bind e
  obtain ⟨t, ht, e⟩ := ok_of_bind e
  obtain ⟨c, hc, e⟩ := ok_of_bind e
  cases e
  exact readIf (readIf (readIf h hv) ht) hc

theorem takeHead {p u} (h : s.mem.Canon) (e : s.takeHead p = .ok u) : u.mem.Canon := by
  unfold State.takeHead at e
  obtain ⟨r, hr, e⟩ := ok_of_bind e
  obtain ⟨x, hx, e⟩ := ok_of_bind e
  have h1 : x.1.mem.Canon := rtvWrite (with_retr (rset (rtvRead (hubWrite (hubRead h)) hr))) hx
  split at e
  · cases e
    exact queryFailNow (ite (rtvRaise h1) h1)
  · obtain ⟨y, hy, e⟩ := ok_of_bind e
    have h2 : y.1.mem.Canon := queryReads h1 hy
    split at e
    · cases e
      exact queryFailNow h2
    · cases e
      exact searchBegin (qUpd h2)

theorem exec_queryAdmit {p} (h : s.mem.Canon) : Res.Canon (execQueryAdmit p s) := by
  unfold execQueryAdmit
  refine .ite h ?_
  split
  · exact rtvEvt h
  · exact rtvEvt h
  · exact h
  · exact orWait h (takeHead h)

/-! #### Delivered units (R277, R278, R282) -/

theorem nextUnit {k x} (h : s.mem.Canon) (e : s.nextUnit k = some x) : x.2.mem.Canon := by
  unfold State.nextUnit at e
  split at e
  · cases e
  · cases e
    exact flashUpd h

theorem useUnit {k p q u} (h : s.mem.Canon) : (s.useUnit k p q u).mem.Canon := by
  unfold State.useUnit
  extract_lets d s0 zo spare
  have h0 : s0.mem.Canon := pipeUpd (qUpd h)
  refine ite h0 (ite (queryFailNow h0) (ite (queryFailNow h0) (ite ?scan (ite ?graph ?lexical))))
  case scan => exact qUpd (scanFeed (qUpd h0))
  case graph =>
    split
    · exact qUpd h0
    · exact queryFailNow h0
  case lexical =>
    split
    · exact queryFailNow h0
    · exact ite (qUpd (with_retr h0)) (lexFeed (with_retr h0))

theorem exec_unitDelivered {p i} (h : s.mem.Canon) : Res.Canon (execUnitDelivered p i s) := by
  unfold execUnitDelivered
  dsimp only
  split
  · rename_i e
    have h1 := nextUnit h e
    exact .ite (qUpd h1) (useUnit h1)
  · exact h

/-! #### Walk rounds (R278) -/

theorem exec_walkRound {p i} (h : s.mem.Canon) : Res.Canon (execWalkRound p i s) := by
  unfold execWalkRound
  dsimp only
  split
  · exact h
  · refine .ite h ?_
    split
    · exact queryFailNow h
    · exact walkSelect h

/-! #### Ends (R285 to R290) -/

theorem exec_queryEnd {p i} (h : s.mem.Canon) : Res.Canon (execQueryEnd p i s) := by
  unfold execQueryEnd
  dsimp only
  split
  · exact h
  · refine .ite h (orWait h fun e => ?_)
    obtain ⟨w, hw, rfl⟩ := ok_of_map e
    have h1 := rtvWrite h hw
    exact ite (qUpd h1) (queryFailNow h1)

theorem exec_queryFail {p i} (h : s.mem.Canon) : Res.Canon (execQueryFail p i s) := by
  unfold execQueryFail
  dsimp only
  split
  · split
    · exact .ite h (rtvRaise h)
    · exact h
  · exact h

theorem exec_resultHeaderWrite {p i} (h : s.mem.Canon) : Res.Canon (execResultHeaderWrite p i s) := by
  unfold execResultHeaderWrite
  extract_lets k
  split
  · exact h
  · refine .ite h (orWait h fun e => ?_)
    obtain ⟨w, hw, rfl⟩ := ok_of_map e
    extract_lets s2 ev s3
    have h2 : s2.mem.Canon := pipeUpd (rtvWrite h hw)
    have h3 : s3.mem.Canon := ite h2 (spanEvent h2)
    exact ite (pipeUpd (qUpd h3)) (queryRelease h3)

/-! #### Forwards (R288, R289) -/

theorem exec_forwardStart {p} (h : s.mem.Canon) : Res.Canon (execForwardStart p s) := by
  unfold execForwardStart
  extract_lets u
  split
  · exact h
  · split
    · exact pipeUpd h
    · refine .ite (queryRelease (pipeUpd h)) (.ite h (orWait h fun e => ?_))
      split at e
      · rename_i e1
        cases e
        exact pipeUpd (settle ((storeRoute h).ok e1))
      · rename_i e1
        cases e
        exact pipeUpd (settle ((storeRoute h).fault e1))
      · cases e

theorem exec_forwardDoorbell {p} (h : s.mem.Canon) : Res.Canon (execForwardDoorbell p s) := by
  unfold execForwardDoorbell
  extract_lets u r run
  split
  · exact h
  · extract_lets tk s0 v s1
    have h0 : s0.mem.Canon := queryRelease (pipeUpd h)
    have h1 : s1.mem.Canon := groupCmd (ringSpan h0)
    exact .ite h0 (.ite (pipeUpd h1) h1)

theorem exec_forwardFree {p} (h : s.mem.Canon) : Res.Canon (execForwardFree p s) := .ite (pipeUpd h) h

/-! #### Fencing, and reading results (R283, R291) -/

theorem reLost {e} (h : s.mem.Canon) : (s.reLost e).mem.Canon := foldl h fun h => queryFailNow h

theorem exec_reFence {mask logOk} (h : s.mem.Canon) : Res.Canon (execReFence mask logOk s) :=
  degradeCheck (foldl h fun h => ite h (rtvRaise (reLost (logRec h))))

theorem rtvDieLost (h : s.mem.Canon) : s.rtvDieLost.mem.Canon := degradeCheck (foldl h fun h => queryFailNow h)

theorem exec_resultReadAdvance {p v} (h : s.mem.Canon) : Res.Canon (execResultReadAdvance p v s) := .ite h (.ite h h)

/-! ### What a reset or the loss of the main side's rails leaves -/

theorem resetTo {k} (h : s.mem.Canon) : (State.resetTo k s).mem.Canon := by
  unfold State.resetTo
  dsimp only
  split
  · exact MemUnit.dramKept_wf h
  · rfl

/-! ### The rails -/

/-! #### Rails (R359) -/

theorem railUpd {r f} (h : s.mem.Canon) : (s.railUpd r f).mem.Canon := h

/-! #### The crash capture (R449, R450) -/

theorem captureOf {cause words} (h : s.mem.Canon) : (s.captureOf cause words).mem.Canon := ite h (alertBit h)

theorem capture {cause span} (h : s.mem.Canon) : (s.capture cause span).mem.Canon := captureOf h

theorem mirror (h : s.mem.Canon) : s.mirror.mem.Canon := h

/-! #### Faults of the whole device (R24, R354, R366, R434) -/

theorem stopAll (h : s.mem.Canon) : s.stopAll.1.mem.Canon := foldl (setSpans (haltWork h)) fun h => spanEvent h

theorem deviceFault {cause} (h : s.mem.Canon) : (s.deviceFault cause).mem.Canon := settle (capture (stopAll h))

theorem shutdown {code} (h : s.mem.Canon) : (s.shutdown code).mem.Canon := resetTo h

theorem thermTrip (h : s.mem.Canon) : s.thermTrip.mem.Canon := with_thm (shutdown (ite (capture h) h))

/-! #### Thresholds (R432, R433) -/

theorem thmEvt {i} (h : s.mem.Canon) : (s.thmEvt i).mem.Canon := raise h

theorem crossThr {r on c pos} (h : s.mem.Canon) : (s.crossThr r on c pos).mem.Canon := ite (thmEvt h) (ite (thmEvt h) h)

theorem crossLimits (h : s.mem.Canon) : s.crossLimits.mem.Canon := foldl h fun h => crossThr (crossThr h)

theorem throttleTick {k} (h : s.mem.Canon) : (s.throttleTick k).mem.Canon := ite (ite h h) (ite h (ite h h))

/-! ### The operations of the Wealey links that several meanings share -/

/-! #### Ports -/

theorem setPort {q st reason} (h : s.mem.Canon) : (s.setPort q st reason).mem.Canon := h

theorem portUpd {q f} (h : s.mem.Canon) : (s.portUpd q f).mem.Canon := h

theorem portEvt {q f} (h : s.mem.Canon) : (s.portEvt q f).mem.Canon := setLine h

/-! #### The group -/

theorem devUpd {d f} (h : s.mem.Canon) : (s.devUpd d f).mem.Canon := h

theorem grpUpd {f} (h : s.mem.Canon) : (s.grpUpd f).mem.Canon := h

theorem slicesFreed {q f} (h : s.mem.Canon) : (s.slicesFreed q f).mem.Canon := h

theorem entryFreed {q} (h : s.mem.Canon) : (s.entryFreed q).mem.Canon := h

theorem reportGo {q} (h : s.mem.Canon) : (s.reportGo q).mem.Canon := emit h

/-! #### Lost devices (R339) -/

theorem markLost {d} (h : s.mem.Canon) : (s.markLost d).mem.Canon := ite h (settle (raise (degradeCheck (modeAbsent (foldl h fun h => h)))))

theorem unmarkLost {d} (h : s.mem.Canon) : (s.unmarkLost d).mem.Canon := ite (raise (degradeCheck h)) h

/-! #### Adopting a table (R337) -/

theorem adoptTable {gen l} (h : s.mem.Canon) : (s.adoptTable gen l).mem.Canon := by
  unfold State.adoptTable
  extract_lets s1 s2 s3 s4
  have h1 : s1.mem.Canon := foldl h fun h => ite (grpUpd (devUpd h)) (devUpd h)
  have h3 : s3.mem.Canon := raise (grpUpd (fset (with_ports h1)))
  have h4 : s4.mem.Canon := foldl h3 fun h => ite (unmarkLost h) h
  exact ite (sendHeld (raise (fset h4))) h4

theorem newTables (h : s.mem.Canon) : s.newTables.mem.Canon := foldl (adoptTable h) fun h => foldl h fun h => h

/-! #### Links recorded (R334, R339) -/

theorem linkDegraded (h : s.mem.Canon) : s.linkDegraded.mem.Canon := ite h (degradeCheck h)

theorem recordLink {d p up peer peerPort} (h : s.mem.Canon) : (s.recordLink d p up peer peerPort).mem.Canon :=
  linkDegraded (ite h (ite h h))

theorem reportPort {q up} (h : s.mem.Canon) : (s.reportPort q up).mem.Canon :=
  ite (newTables (recordLink h)) (ite (entryOut (recordLink h)) h)

/-! #### A port leaving RUN (R338) -/

theorem removePort {q} (h : s.mem.Canon) : (s.removePort q).mem.Canon := h

theorem restorePort {q} (h : s.mem.Canon) : (s.restorePort q).mem.Canon := portUpd (foldl h fun h => h)

theorem resend {q all} (h : s.mem.Canon) : (s.resend q all).mem.Canon := h

theorem portLeavesRun {q retrain} (h : s.mem.Canon) : (s.portLeavesRun q retrain).mem.Canon := by
  unfold State.portLeavesRun
  exact reportPort (resend (removePort h))

theorem portDown {q st reason downEvt} (h : s.mem.Canon) : (s.portDown q st reason downEvt).mem.Canon :=
  ite (portEvt (ite (portLeavesRun h) (ite h h))) (ite (portLeavesRun h) (ite h h))

theorem portRetrainStart {q} (h : s.mem.Canon) : (s.portRetrainStart q).mem.Canon := ite (portEvt (portUpd (portDown h))) (portLeavesRun h)

/-! ### The operations of the causeway that several meanings share -/

/-! #### Bundles (R22) -/

theorem cwyEvt {p f src} (h : s.mem.Canon) : (s.cwyEvt p f src).mem.Canon := ite h (raise h)

theorem refreshRoles {pos} (h : s.mem.Canon) : (s.refreshRoles pos).mem.Canon := foldl h fun h => h

theorem setBundle {p st} (h : s.mem.Canon) : (s.setBundle p st).mem.Canon := refreshRoles h

/-! #### Repair maps (R307, R313) -/

theorem logLanes {p st clk cause ok} (h : s.mem.Canon) : (s.logLanes p st clk cause ok).mem.Canon := foldl h fun h => logRec h

theorem setRepair {p m0 m1} (h : s.mem.Canon) : (s.setRepair p m0 m1).mem.Canon := h

/-! #### Fencing a die -/

theorem dropBundles {pos cause} (h : s.mem.Canon) : (s.dropBundles pos cause).mem.Canon := foldl h fun h => ite h (bundleUpd (setBundle h))

theorem fillBonded {d} (h : s.mem.Canon) : (s.fillBonded d).mem.Canon := fill h

theorem dieEnds {pos cause} (h : s.mem.Canon) : (s.dieEnds pos cause).mem.Canon :=
  ite (ite (fillBonded (foldl h fun h => engineLost h)) (foldl h fun h => engineLost h)) (ite (fset (rtvDieLost h))
    (ite (raise (rset (foldl h fun h => ite (portDown h) h))) (ite (rset (foldl h fun h => ite (portDown h) h))
    (foldl h fun h => ite (portDown h) h))))

theorem fenceDie {pos cause ok} (h : s.mem.Canon) : (s.fenceDie pos cause ok).mem.Canon :=
  ite (deviceFault h) (ite (fenceStack h) (ite h (settle (degradeCheck (dieEnds (dropBundles (logRec h)))))))

theorem exec_heartbeatCheck {d x logOk} (h : s.mem.Canon) : Res.Canon (execHeartbeatCheck d x logOk s) :=
  .ite (ite (fenceDie h) (heartbeats h)) h

/-! #### Requests in command flits (R300) -/

theorem mwrite {q d hdr data pois} (h : s.mem.Canon) : (s.mwrite q d hdr data pois).1.mem.Canon := by
  refine foldOver_of_eq (g := Prod.fst) (mcastPrune h) fun h e => ?_
  split at e
  · rename_i e1
    cases e
    exact settle ((lay h).ok e1)
  · rename_i e1
    cases e
    exact settle ((lay h).fault e1)
  · cases e
    exact h

theorem writeIn {p k w} (h : s.mem.Canon) : (s.writeIn p k w).mem.Canon := by
  unfold State.writeIn
  dsimp only
  refine ite (cplFlit (dirUpd h)) (ite ?route (ite (ite (cplFlit (dirUpd (mwrite h))) (cplFlit (dirUpd h)))
    (request (dirUpd (dirUpd (tick (tick (tick h))))))))
  case route =>
    split
    · rename_i e
      exact cplFlit (dirUpd (settle ((storeRoute h).ok e)))
    · rename_i e
      exact cplFlit (dirUpd (settle ((storeRoute h).fault e)))
    · exact h

theorem writesIn {p k} (h : s.mem.Canon) : (s.writesIn p k).mem.Canon := foldl h fun h => writeIn h

theorem headerIn {p k h'} (h : s.mem.Canon) : (s.headerIn p k h').mem.Canon :=
  ite (ite (cplFlit h) (request (dirUpd (tick (tick (tick h)))))) (ite h h)

theorem dataIn {p k tag ws man} (h : s.mem.Canon) : (s.dataIn p k tag ws man).mem.Canon := by
  unfold State.dataIn
  split
  · exact h
  · exact writesIn h

theorem writesRetry (h : s.mem.Canon) : s.writesRetry.mem.Canon := foldl h fun h => writesIn (writesIn h)

/-! #### Retrains and retirement -/

theorem restoreBundles {pos} (h : s.mem.Canon) : (s.restoreBundles pos).mem.Canon := by
  unfold State.restoreBundles
  refine foldl h fun h => ?_
  refine ite h ?_
  split
  · exact setBundle h
  · exact setBundle h
  · exact h

theorem retrainBundle {p} (h : s.mem.Canon) : (s.retrainBundle p).mem.Canon := ite h (bundleUpd (setBundle h))

theorem mateGoes {p} (h : s.mem.Canon) : (s.mateGoes p).mem.Canon := ite (retrainBundle h) h

theorem moveBundle {p} (h : s.mem.Canon) : (s.moveBundle p).mem.Canon := foldl h fun h => h

theorem retireBundle {p clk cause ok} (h : s.mem.Canon) : (s.retireBundle p clk cause ok).mem.Canon := by
  unfold State.retireBundle
  refine ite h ?_
  extract_lets s1 s2
  have h1 : s1.mem.Canon := cwyEvt (moveBundle (bundleUpd (setBundle h)))
  have h2 : s2.mem.Canon := mateGoes (logLanes h1)
  exact ite (fenceDie h2) h2

theorem laneFailing {p dir lane} (h : s.mem.Canon) : (s.laneFailing p dir lane).mem.Canon :=
  ite (tick (retireBundle h)) (ite (ite (retrainBundle h) (ite (tick (retireBundle h)) (cwyEvt h))) h)

/-! ### The operations of the power manager that several meanings share -/

/-! #### Throttle steps (R357, R358) -/

theorem halfSet {h' f v} (h : s.mem.Canon) : (s.halfSet h' f v).mem.Canon := h

theorem halfUpdate {h'} (h : s.mem.Canon) : (s.halfUpdate h').mem.Canon := ite h (ite h h)

theorem halfRequest {h' f v} (h : s.mem.Canon) : (s.halfRequest h' f v).mem.Canon := halfUpdate h

theorem halfApply {h' v} (h : s.mem.Canon) : (s.halfApply h' v).mem.Canon := ite h (halfUpdate h)

/-! #### Events -/

theorem pwrEvt {f src} (h : s.mem.Canon) : (s.pwrEvt f src).mem.Canon := raise h

theorem dieResult {v} (h : s.mem.Canon) : (s.dieResult v).mem.Canon := h

/-! #### Doze (R369) -/

theorem dozeStart {d} (h : s.mem.Canon) : (s.dozeStart d).mem.Canon := h

theorem dozeIn {d} (h : s.mem.Canon) : (s.dozeIn d).mem.Canon := foldl h fun h => ite h (setBundle h)

theorem dozeOut {d} (h : s.mem.Canon) : (s.dozeOut d).mem.Canon :=
  settle (foldl (foldl (restoreBundles h) fun h => fillSite h) fun h => halfUpdate h)

theorem dozeFail {d ok} (h : s.mem.Canon) : (s.dozeFail d ok).mem.Canon := by
  unfold State.dozeFail
  exact loadWoken (fenceDie (dieResult h))

/-! #### The power ceiling (R365, R366) and VIN12 (R373) -/

theorem pmStep {h'} (h : s.mem.Canon) : (s.pmStep h').mem.Canon := ite (halfRequest h) h

theorem vinStep {h'} (h : s.mem.Canon) : (s.vinStep h').mem.Canon := ite (halfRequest h) h

theorem capping (h : s.mem.Canon) : s.capping.mem.Canon := ite h (pwrEvt h)

theorem timerTick {p} (h : s.mem.Canon) : (s.timerTick p).mem.Canon := h

theorem stepDown {p mv} (h : s.mem.Canon) : (s.stepDown p mv).mem.Canon := by
  unfold State.stepDown
  refine ite (foldl (ite (capping h) h) fun h => pmStep h) ?_
  refine ite (foldl (ite (capping h) h) fun h => vinStep h) ?_
  refine ite ?_ h
  split
  · exact pmStep (capping h)
  · exact h

theorem ceilingRelease {p mv} (h : s.mem.Canon) : (s.ceilingRelease p mv).mem.Canon := by
  unfold State.ceilingRelease
  dsimp only
  refine ite h (ite h ?_)
  split
  · exact h
  · exact halfRequest h

theorem ceilingFlags {p} (h : s.mem.Canon) : (s.ceilingFlags p).mem.Canon := ite (ite h (pwrEvt h)) (ite h h)

theorem exhaustedStop (h : s.mem.Canon) : s.exhaustedStop.mem.Canon := foldl (deviceFault h) fun h => ite h h

theorem peakTick {p} (h : s.mem.Canon) : (s.peakTick p).mem.Canon := ite (ite (exhaustedStop h) h) h

/-! #### The main side off -/

theorem clockLost {ref} (h : s.mem.Canon) : (s.clockLost ref).mem.Canon := bset (bset (bset (bset (shutdown (captureOf h)))))

/-! ### The operations of bring-up -/

/-! #### The boot image (R149, R382) -/

theorem bootVerify {obj l} (h : s.mem.Canon) : (s.bootVerify obj l).1.mem.Canon := by
  unfold State.bootVerify
  split
  · exact h
  · refine iteOver h (iteOver (vfyFail h) ?_)
    split
    · exact h
    · exact iteOver h h

theorem devset {v cold} (h : s.mem.Canon) : (s.devset v cold).mem.Canon := fset (fset (ite (foldl h fun h => h) h))

theorem bootLicence {l} (h : s.mem.Canon) : (s.bootLicence l).mem.Canon := licBoot h

theorem bootApply {b cold} (h : s.mem.Canon) : (s.bootApply b cold).mem.Canon :=
  fset (rset (putTickets (with_load_sec_bup (devset (ite (bootLicence h) (bootLicence (vfyFail h)))))))

theorem recoveryDefaults (h : s.mem.Canon) : s.recoveryDefaults.mem.Canon := putTickets (devset (bootLicence h))

/-! #### Stages, levels and events -/

theorem stage {n} (h : s.mem.Canon) : (s.stage n).mem.Canon := fset h

theorem stamps {l ks} (h : s.mem.Canon) : (s.stamps l ks).mem.Canon := foldl h fun h => ite (rset h) h

theorem feature {lvl final} (h : s.mem.Canon) : (s.feature lvl final).mem.Canon := bset (bset (bset (fset h)))

/-! #### Dies, stacks and bundles -/

theorem startFence {pos cause ok} (h : s.mem.Canon) : (s.startFence pos cause ok).mem.Canon :=
  ite h (ite (raise (fenceStack h)) (raise (ite (with_bup (dropBundles (logRec (markFenced h)))) (dropBundles (logRec (markFenced h))))))

theorem bundleStart {v f warm p} (h : s.mem.Canon) : (s.bundleStart v f warm p).mem.Canon := by
  unfold State.bundleStart
  refine ite h ?_
  extract_lets t known maps base retired
  have hretired {t : State} {clk : Nat} (ht : t.mem.Canon) : (retired t clk).mem.Canon := raise (logLanes (cwyEvt (setBundle ht)))
  have hknown : known.mem.Canon := foldl h fun h => rset (dirUpd h)
  have hbase : base.mem.Canon := by
    dsimp only [base]
    split
    · exact setRepair hknown
    · exact hknown
  clear_value retired base known maps t
  refine ite (bundleUpd (setBundle hbase)) (ite (ite (setBundle hbase) (setBundle hbase)) ?_)
  split
  · split
    · exact setBundle (setRepair hbase)
    · exact ite (setBundle hbase) (hretired hbase)
  · refine ite (hretired (bundleUpd hbase)) ?_
    extract_lets s1
    have h1 : s1.mem.Canon := foldl (foldl hbase fun h => dirUpd h) fun h => dirUpd h
    clear_value s1
    split
    · have h2 {m0 m1 : List Nat} : ((s1.setRepair p m0 m1).setBundle p 2).mem.Canon := setBundle (setRepair h1)
      exact ite h2 (logLanes h2)
    · exact ite (setBundle h1) (hretired h1)

theorem dieStart {v f warm pos} (h : s.mem.Canon) : (s.dieStart v f warm pos).mem.Canon := by
  unfold State.dieStart
  refine ite h ?_
  dsimp only
  split
  · exact startFence h
  · exact ite (startFence (foldl h fun h => bundleStart h)) (foldl h fun h => bundleStart h)

/-! #### Failing words, macros and rows (R388) -/

theorem applyFences {v warm} (h : s.mem.Canon) : (s.applyFences v warm).mem.Canon :=
  foldl (foldl h fun h => ite h (dropBundles (markFenced h))) fun h => ite h (markFenced (fset h))

theorem failWord {a ok} (h : s.mem.Canon) : (s.failWord a ok).1.mem.Canon := by
  unfold State.failWord
  split
  · exact h
  · dsimp only
    refine iteOver h ?_
    split
    · exact logRec h
    · exact iteOver h (logRec (fset h))

theorem failWords {f ik} (h : s.mem.Canon) : (s.failWords f ik).1.mem.Canon := foldOver (g := Prod.fst) h fun h => failWord h

theorem stackStart {f warm n} (h : s.mem.Canon) : (s.stackStart f warm n).mem.Canon := by
  unfold State.stackStart
  refine ite h ?_
  dsimp only
  split
  · exact startFence (fset h)
  · exact ite (fset h) (ite (failWords (fset h)) (startFence (failWords (fset h))))

theorem setIlMode (h : s.mem.Canon) : s.setIlMode.mem.Canon := foldl h fun h => bset (fset (bset h))

/-! #### The row mappings (R102, R103) -/

theorem buildRow {v bad d r ok} (h : s.mem.Canon) : (s.buildRow v bad d r ok).mem.Canon := by
  unfold State.buildRow
  dsimp only
  split
  · exact setMap (foldl h fun h => raise h)
  · exact setMap (logMap (foldl h fun h => raise h))

theorem macroFenced {site mac} (h : s.mem.Canon) : (s.macroFenced site mac).mem.Canon := raise h

theorem macroStart {v f warm site} (h : s.mem.Canon) : (s.macroStart v f warm site).1.mem.Canon := by
  unfold State.macroStart
  extract_lets known pend s1 s2 fails
  have h2 : s2.mem.Canon := foldl (foldl (siteUpd h) fun h => macroFenced h) fun h => macroApply h
  exact iteOver h2 (foldl h2 fun h => ite h (raise (logRec (macroFenced h))))

theorem sitesStart {v f warm d} (h : s.mem.Canon) : (s.sitesStart v f warm d).mem.Canon := by
  unfold State.sitesStart
  extract_lets rows _ s1 macs
  have hrows : rows.1.mem.Canon := foldOver (g := Prod.fst) h fun h => iteOver h (iteOver (failWords h) (failWords h))
  have hmacs : macs.1.mem.Canon := foldOver (g := Prod.fst) (with_deadRows hrows) fun h => macroStart h
  exact foldl hmacs fun h => buildRow h

/-! ### The meanings of the resets, of the starts that follow them and of a pushed boot image -/

/-! #### The starts -/

theorem startCause {down path} (h : s.mem.Canon) : (s.startCause down path).mem.Canon := with_pwr_bup (fset (rset h))

theorem startClocks {ref pll} (h : s.mem.Canon) : (s.startClocks ref pll).mem.Canon := bset (bset (bset h))

theorem fromLog {v warm} (h : s.mem.Canon) : (s.fromLog v warm).mem.Canon := by
  unfold State.fromLog
  extract_lets pages m m1 s1 res
  have hm1 : m1.Canon := memFoldl (memFoldl h preload) freePatches
  have h1 : s1.mem.Canon := settle (withMem (with_retired hm1))
  exact applyFences (bset (fset (fset h1)))

theorem retrievalStart {v f warm} (h : s.mem.Canon) : (s.retrievalStart v f warm).mem.Canon :=
  ite (fset (ite h (markFenced h))) (ite (fset (dieStart h)) (foldl (fset (dieStart h)) fun h => ite h (raise (logRec (fset h)))))

theorem linkStart {v f warm pos} (h : s.mem.Canon) : (s.linkStart v f warm pos).mem.Canon :=
  ite (dieStart h) (foldl (dieStart h) fun h => setPort h)

theorem keptVerify {held} (h : s.mem.Canon) : (s.keptVerify held).mem.Canon := by
  unfold State.keptVerify
  extract_lets _ m0 m
  have h0 : m0.Canon := h
  have hm : m.Canon := memFoldl h0 fun h => h
  exact ite (bset (withMem hm)) (bset (withMem (fill h)))

theorem endpoint (h : s.mem.Canon) : s.endpoint.mem.Canon := bset h

theorem startRest {f warm held} (h : s.mem.Canon) : (s.startRest f warm held).mem.Canon := by
  unfold State.startRest
  extract_lets v s1 s2 s3 s4 s5
  have h1 : s1.mem.Canon := setIlMode (foldl h fun h => stackStart h)
  have h2 : s2.mem.Canon := retrievalStart (endpoint (foldl h1 fun h => linkStart h))
  have h3 : s3.mem.Canon := ite (keptVerify h2) h2
  have h4 : s4.mem.Canon := stamps h3
  exact fset (stage (ite (ldpEvt h4) h4))

theorem recovery {f warm} (h : s.mem.Canon) : (s.recovery f warm).mem.Canon :=
  ite (stamps (endpoint (linkStart (alertBit (stage (recoveryDefaults h)))))) (stamps (alertBit (stage (recoveryDefaults h))))

theorem startRun {f warm held down path} (h : s.mem.Canon) : (s.startRun f warm held down path).mem.Canon := by
  unfold State.startRun
  extract_lets v _ s0 s1 hub _ s2
  have h0 : s0.mem.Canon := ite h (with_bup h)
  have h1 : s1.mem.Canon := bset (fromLog (startCause (startClocks h0)))
  have hh : hub.1.mem.Canon := iteOver h1 (foldOver (g := Prod.fst) h1 fun h => failWords h)
  have h2 : s2.mem.Canon := with_faultN (feature hh)
  refine ite (stage (deviceFault hh)) ?_
  split
  · exact recovery h2
  · split
    · rename_i e
      exact recovery (of_eq e (bootVerify h2))
    · rename_i e
      exact startRest (bootApply (of_eq e (bootVerify h2)))

theorem sampleStraps {x} (h : s.mem.Canon) : (s.sampleStraps x).mem.Canon := by
  unfold State.sampleStraps
  split
  · exact h
  · exact h

theorem exec_coldStart {f} (h : s.mem.Canon) : Res.Canon (execColdStart f s) :=
  .ite h (.ite (stage (startClocks h)) (startRun (sampleStraps h)))

theorem exec_warmStart {f kept} (h : s.mem.Canon) : Res.Canon (execWarmStart f kept s) := by
  unfold execWarmStart
  refine .ite h ?_
  extract_lets down
  refine .ite (stage (startClocks h)) (.ite (startRun h) ?_)
  have h0 : ({ s with mem := default, keep := default, deadRows := [] } : State).mem.Canon := blank
  exact startRun h0

/-! #### The waves -/

theorem startEnd (h : s.mem.Canon) : s.startEnd.mem.Canon :=
  ite (foldl (stage (feature h)) fun h => ite (retrainBundle h) h) (stage (feature h))

theorem dieWave {v f warm d} (h : s.mem.Canon) : (s.dieWave v f warm d).mem.Canon := ite (dieStart h) (sitesStart (dieStart h))

theorem exec_computeWave {f} (h : s.mem.Canon) : Res.Canon (execComputeWave f s) :=
  .ite h (raise (ite (startEnd (stamps (fset (dieWave (dieWave h))))) (stage (stamps (fset (dieWave (dieWave h)))))))

/-! #### Pushed images (R383, R384) -/

theorem pushReply {st code} (h : s.mem.Canon) : (s.pushReply st code).mem.Canon := ite (reply (cnt h)) h

theorem pushEnd {st code} (h : s.mem.Canon) : (s.pushEnd st code).mem.Canon := pushReply (raise (fset (fset h)))

theorem pushAccept {b f} (h : s.mem.Canon) : (s.pushAccept b f).mem.Canon := ite (startRest (bootApply (pushEnd h))) (pushEnd h)

theorem pushVerify {len} (h : s.mem.Canon) : (s.pushVerify len).1.mem.Canon := by
  unfold State.pushVerify
  dsimp only
  split
  · rename_i e
    exact iteOver (of_eq e (bootVerify (settle (readAt h)))) (of_eq e (bootVerify (settle (readAt h))))
  · exact bootVerify (settle (readAt h))

theorem pushImage {len program f} (h : s.mem.Canon) : (s.pushImage len program f).mem.Canon := by
  unfold State.pushImage
  split
  · rename_i e
    exact pushEnd (of_eq e (pushVerify h))
  · rename_i e
    exact ite (fset (with_bup (of_eq e (pushVerify h)))) (pushAccept (of_eq e (pushVerify h)))

theorem exec_imagePush {v f} (h : s.mem.Canon) : Res.Canon (execImagePush v f s) := .ite h (pushImage h)

theorem exec_imagePushProgram {ok f} (h : s.mem.Canon) : Res.Canon (execImagePushProgram ok f s) := by
  unfold execImagePushProgram
  split
  · exact h
  · dsimp only
    split
    · rename_i e
      exact pushAccept (fset (of_eq e (bootVerify (fset (bset h)))))
    · rename_i e
      exact pushEnd (of_eq e (bootVerify (fset (bset h))))

/-! #### Resets (R377, R378, R380) -/

theorem resetFrom {k kind src} (h : s.mem.Canon) : (s.resetFrom k kind src).mem.Canon := with_pwr_bup (resetTo h)

theorem tear {torn} (h : s.mem.Canon) : (s.tear torn).mem.Canon := ite h h

theorem exec_powerOnReset {aon torn} (h : s.mem.Canon) : Res.Canon (execPowerOnReset aon torn s) := with_bup (resetFrom (tear h))

theorem exec_aonRstNRelease {bootSrc smbAddr bridge} (h : s.mem.Canon) : Res.Canon (execAonRstNRelease bootSrc smbAddr bridge s) := h

theorem exec_sysReset {torn} (h : s.mem.Canon) : Res.Canon (execSysReset torn s) := .ite (resetFrom (tear h)) (resetFrom (tear h))

theorem exec_coldResetCmd {v} (h : s.mem.Canon) : Res.Canon (execColdResetCmd v s) := .ite (resetFrom h) h

theorem exec_warmResetCmd {v} (h : s.mem.Canon) : Res.Canon (execWarmResetCmd v s) := .ite (resetFrom h) h

/-! ### The meanings of the causeway's commands -/

/-! #### Flits -/

theorem laneCorrection {p dir lane} (h : s.mem.Canon) : (s.laneCorrection p dir lane).mem.Canon :=
  ite (laneFailing (ite (dieSays (dirUpd h)) (dirUpd h))) (ite (dieSays (dirUpd h)) (dirUpd h))

theorem flitAccept {p dir f} (h : s.mem.Canon) : (s.flitAccept p dir f).mem.Canon := by
  unfold State.flitAccept
  extract_lets ws fixed pois s1 s2 s3 s4
  have h2 : s2.mem.Canon := dirUpd (emit h)
  have h3 : s3.mem.Canon := ite (wrap h2) h2
  have h4 : s4.mem.Canon := foldl h3 fun h => laneCorrection h
  exact ite (foldl h4 fun h => headerIn h) (dataIn h4)

theorem flitSeen {p dir fresh} (h : s.mem.Canon) : (s.flitSeen p dir fresh).mem.Canon :=
  ite (ite (wrap (dirUpd (dirUpd h))) (dirUpd (dirUpd h))) (dirUpd h)

theorem edgeLevel {p dir q} (h : s.mem.Canon) : (s.edgeLevel p dir q).mem.Canon := ite h (ite (raise (fset (fset h))) (fset (fset h)))

theorem exec_flitReceive {p dir f queue} (h : s.mem.Canon) : Res.Canon (execFlitReceive p dir f queue s) := by
  unfold execFlitReceive
  extract_lets k d s1 s2
  have h1 : s1.mem.Canon := cnt (flitSeen h)
  have h2 : s2.mem.Canon := edgeLevel (flitAccept h1)
  refine .ite trivial (.ite h (.ite ?accepted (.ite (emit (dirUpd h1)) (.ite (ite (cwyEvt h2) h2) (laneFailing (dirUpd h1))))))
  exact .ite (edgeLevel (flitAccept (flitSeen h))) (flitSeen h)

theorem exec_dnakReceive {p dir seq} (h : s.mem.Canon) : Res.Canon (execDnakReceive p dir seq s) := .ite (dirUpd (cnt h)) h

/-! #### Chain frames -/

theorem frameAcks {p k x} (h : s.mem.Canon) : (s.frameAcks p k x).mem.Canon := cnt (dirUpd h)

theorem chainWordIn {p k lvl hdr w} (h : s.mem.Canon) : (s.chainWordIn p k lvl hdr w).mem.Canon :=
  ite h (ite (dirUpd h) (ite (chainSend (dirUpd h)) (emit (dirUpd h))))

theorem exec_chainFrameReceive {p dir frame} (h : s.mem.Canon) : Res.Canon (execChainFrameReceive p dir frame s) :=
  .ite h (.ite (.ite (chainWordIn (dirUpd (frameAcks h))) (frameAcks h)) (.ite (emit (dirUpd (cnt h))) (laneFailing (dirUpd (cnt h)))))

/-! #### Retrains and retirement -/

theorem exec_bundleRetrain {p} (h : s.mem.Canon) : Res.Canon (execBundleRetrain p s) := .ite (retrainBundle h) h

theorem retrainEnds {p w ok} (h : s.mem.Canon) : (s.retrainEnds p w ok).mem.Canon := by
  unfold State.retrainEnds
  extract_lets logged
  have hlogged {t : State} {st : Nat} (ht : t.mem.Canon) : (logged t st).mem.Canon := ite (logLanes ht) (cwyEvt (logLanes ht))
  split
  · exact hlogged (cwyEvt (setBundle (bset (setRepair h))))
  · exact hlogged (cwyEvt (setBundle (bset (setRepair h))))
  · exact retireBundle h

theorem exec_retrainDone {p bad0 bad1 logOk} (h : s.mem.Canon) : Res.Canon (execRetrainDone p bad0 bad1 logOk s) :=
  .ite (mateGoes (retrainEnds (foldl (bundleUpd (foldl h fun h => dirUpd h)) fun h => dirUpd h))) h

theorem exec_bundleRetire {p logOk} (h : s.mem.Canon) : Res.Canon (execBundleRetire p logOk s) := retireBundle h

theorem exec_clockPairLost {p dir logOk} (h : s.mem.Canon) : Res.Canon (execClockPairLost p dir logOk s) := by
  unfold execClockPairLost
  refine .ite h ?_
  dsimp only
  split
  · exact .ite (cwyEvt (retireBundle (ite h (bundleUpd h)))) (retireBundle (ite h (bundleUpd h)))
  · exact retireBundle (ite h (bundleUpd h))

/-! #### Discovery -/

theorem exec_discReceive {p w1 w2 logOk} (h : s.mem.Canon) : Res.Canon (execDiscReceive p w1 w2 logOk s) :=
  .ite h (ite (fenceDie (ite (rset h) (with_bup (rset h)))) (ite (rset h) (with_bup (rset h))))

/-! ### The meanings of the clock, power and thermal commands -/

/-! #### The control interval -/

theorem measure {x} (h : s.mem.Canon) : (s.measure x).mem.Canon := rset (with_pwr (rset (fset (fset h))))

theorem ceiling {x} (h : s.mem.Canon) : (s.ceiling x).mem.Canon := peakTick (ceilingFlags (ceilingRelease (stepDown (timerTick h))))

theorem silentRails {l} (h : s.mem.Canon) : (s.silentRails l).mem.Canon := ite (thmEvt h) h

theorem modelTick {busy} (h : s.mem.Canon) : (s.modelTick busy).mem.Canon := h

theorem thmMax (h : s.mem.Canon) : s.thmMax.mem.Canon := ite (fset h) h

theorem thermalTick {x} (h : s.mem.Canon) : (s.thermalTick x).mem.Canon :=
  ite (thermTrip (crossLimits (thmMax (modelTick (silentRails h)))))
    (mirror (foldl (foldl (crossLimits (thmMax (modelTick (silentRails h)))) fun h => throttleTick h) fun h => halfRequest h))

theorem exec_powerInterval {x} (h : s.mem.Canon) : Res.Canon (execPowerInterval x s) :=
  .ite h (.ite (ceiling (measure h)) (thermalTick (ceiling (measure h))))

/-! #### Diodes -/

theorem exec_diodeRead {readings} (h : s.mem.Canon) : Res.Canon (execDiodeRead readings s) := by
  unfold execDiodeRead
  extract_lets l hot s1 s2
  have h2 : s2.mem.Canon := crossLimits (foldl h fun h => ite (thmEvt h) h)
  exact .ite (ite (thermTrip h) h) (ite (thermTrip h2) h2)

theorem exec_thermtripRelease (h : s.mem.Canon) : Res.Canon (execThermtripRelease s) := h

/-! #### Voltage, clocks and regulators -/

theorem setSetpoint {r v} (h : s.mem.Canon) : (s.setSetpoint r v).mem.Canon := railUpd h

theorem avsTick {k grade} (h : s.mem.Canon) : (s.avsTick k grade).mem.Canon := by
  unfold State.avsTick
  extract_lets r sp s1 n _ s2 limit s3
  have h1 : s1.mem.Canon := ite (fset h) h
  have h2 : s2.mem.Canon := with_pwr h1
  have h3 : s3.mem.Canon :=
    ite (ite (setSetpoint h2) (ite (pwrEvt h2) (ite h2 (pwrEvt (halfRequest (fset h2)))))) (ite (setSetpoint h2) h2)
  exact ite (ite (halfRequest (fset (with_pwr h3))) (with_pwr h3)) h3

theorem exec_avsInterval {grades} (h : s.mem.Canon) : Res.Canon (execAvsInterval grades s) := by
  unfold execAvsInterval
  refine foldl h fun h => ?_
  split
  · exact h
  · exact ite h (avsTick h)

theorem exec_stepChangeApply {d} (h : s.mem.Canon) : Res.Canon (execStepChangeApply d s) := .ite h (foldl h fun h => ite (halfApply h) h)

theorem exec_stepRampDone {d west} (h : s.mem.Canon) : Res.Canon (execStepRampDone d west s) := .ite h (halfApply (halfSet (setSetpoint h)))

theorem exec_regulatorReport {r mv cur pow temp} (h : s.mem.Canon) : Res.Canon (execRegulatorReport r mv cur pow temp s) := railUpd h

theorem exec_clockStretch {domain cycles} (h : s.mem.Canon) : Res.Canon (execClockStretch domain cycles s) := cnt h

theorem exec_railFault {r kind logOk} (h : s.mem.Canon) : Res.Canon (execRailFault r kind logOk s) := by
  unfold execRailFault
  extract_lets pos off s1 s2 _ _ s3 s4
  have h1 : s1.mem.Canon := railUpd h
  have h2 : s2.mem.Canon := ite (foldl h1 fun h => railUpd h) h1
  have h4 : s4.mem.Canon := pwrEvt (logRec (with_pwr_bup h2))
  exact .ite (dozeFail h4) (fenceDie h4)

theorem exec_refclkLost (h : s.mem.Canon) : Res.Canon (execRefclkLost s) := .ite (bset (bset (bset h))) (clockLost h)

theorem exec_pllLockLost (h : s.mem.Canon) : Res.Canon (execPllLockLost s) := .ite h (clockLost h)

theorem exec_refclkPresent (h : s.mem.Canon) : Res.Canon (execRefclkPresent s) := .ite (with_bup (resetTo (bset (bset h)))) (bset (bset h))

/-! #### Idle and Doze -/

theorem exec_siteIdle {site} (h : s.mem.Canon) : Res.Canon (execSiteIdle site s) := .ite h (siteUpd h)

theorem exec_dieDoze {d} (h : s.mem.Canon) : Res.Canon (execDieDoze d s) :=
  .ite (dieResult (fset h)) (.ite (dieResult (fset h)) (.ite (dozeStart (dieResult (fset h))) (fset h)))

theorem exec_dozeEntryDone {d} (h : s.mem.Canon) : Res.Canon (execDozeEntryDone d s) := .ite (pwrEvt (dieResult (dozeIn h))) h

theorem exec_dieWake {d} (h : s.mem.Canon) : Res.Canon (execDieWake d s) :=
  .ite (with_doze (dieResult (fset h))) (.ite (fset h) (dieResult (fset h)))

theorem exec_dozeExitDone {d ok logOk} (h : s.mem.Canon) : Res.Canon (execDozeExitDone d ok logOk s) :=
  .ite h (.ite (loadWoken (pwrEvt (dieResult (dozeOut h)))) (dozeFail h))

/-! #### Standby and Off-AON (R370, R371) -/

theorem pwrRefuse {reason} (h : s.mem.Canon) : (s.pwrRefuse reason).mem.Canon := fset h

theorem exec_standbyEnter (h : s.mem.Canon) : Res.Canon (execStandbyEnter s) :=
  .ite (pwrRefuse h) (flashUpd (foldl (fset (pwrRefuse h)) fun h => ite (portDown h) h))

theorem standbyIn (h : s.mem.Canon) : s.standbyIn.mem.Canon :=
  foldl (foldl (foldl h fun h => ite h (setBundle h)) fun h => ite h (dozeIn h)) fun h => ite h (fset h)

theorem standbyOut (h : s.mem.Canon) : s.standbyOut.mem.Canon := ite (fset h) h

theorem exec_standbyEntryDone (h : s.mem.Canon) : Res.Canon (execStandbyEntryDone s) :=
  .ite h (ite (standbyOut (fset (standbyIn h))) (fset (standbyIn h)))

theorem exec_standbyExit (h : s.mem.Canon) : Res.Canon (execStandbyExit s) := .ite (standbyOut h) (.ite h (.ite h (pwrRefuse h)))

theorem exec_standbyExitDone (h : s.mem.Canon) : Res.Canon (execStandbyExitDone s) := by
  unfold execStandbyExitDone
  refine .ite h ?_
  extract_lets s1 s2 s3 s4 s5 s6 _ s7
  have h2 : s2.mem.Canon := foldl (foldl h fun h => ite h (fset h)) fun h => ite h (restoreBundles h)
  have h4 : s4.mem.Canon := foldl (foldl h2 fun h => ite (setPort h) h) fun h => ite (dozeOut h) h
  have h6 : s6.mem.Canon := pwrEvt (fset (fset (foldl h4 fun h => loadEngine h)))
  have h7 : s7.mem.Canon := ite (ldpEvt (with_ldp h6)) h6
  exact presentAll (pump (settle h7))

theorem exec_offAon (h : s.mem.Canon) : Res.Canon (execOffAon s) := .ite (pwrRefuse h) (resetTo h)

/-! #### The supplies (R373, R494) -/

theorem exec_vinLow (h : s.mem.Canon) : Res.Canon (execVinLow s) := pwrEvt h

theorem exec_vinCritical (h : s.mem.Canon) : Res.Canon (execVinCritical s) := .ite h (shutdown (captureOf h))

theorem exec_vaonLow (h : s.mem.Canon) : Res.Canon (execVaonLow s) := resetTo h

theorem exec_vnandLow (h : s.mem.Canon) : Res.Canon (execVnandLow s) := settle (foldl h fun h => foldl (fset h) fun h => lunDrop h)

theorem exec_hubFault (h : s.mem.Canon) : Res.Canon (execHubFault s) := deviceFault h

/-! ### Field test mode -/

theorem setTest {n} (h : s.mem.Canon) : (s.setTest n).mem.Canon := fset h

theorem testStart {f} (h : s.mem.Canon) : (s.testStart f).mem.Canon :=
  retrievalStart (foldl (setIlMode (foldl h fun h => stackStart h)) fun h => linkStart h)

theorem testStops (h : s.mem.Canon) : s.testStops.mem.Canon :=
  foldl (foldl (foldl h fun h => ite (portDown h) h) fun h => ite h (fset h)) fun h => ite (setBundle h) h

theorem exec_fieldTestEnter (h : s.mem.Canon) : Res.Canon (execFieldTestEnter s) :=
  .ite (fset h) (setTest (fset (with_tap (testStops (ite (tick (testStart h)) h)))))

/-! #### The exit (R479) -/

theorem testLanes {k} (h : s.mem.Canon) : (s.testLanes k).mem.Canon := foldl h fun h => dirUpd h

theorem testBundle {p ok} (h : s.mem.Canon) : (s.testBundle p ok).mem.Canon := by
  unfold State.testBundle
  extract_lets l s1 hit
  have h1 : s1.mem.Canon := testLanes (testLanes h)
  refine ite (ite (logLanes h1) h1) (ite h1 (ite (retireBundle (ite (bundleUpd h1) h1)) ?_))
  have hset {m0 m1 : List Nat} {u : Bool} {k : Nat} :
      (((s1.setRepair p m0 m1).bset (.CWY_STAT (bundleNo p)) F.CWY_STAT_HALF_UPPER u).setBundle p k).mem.Canon :=
    setBundle (bset (setRepair h1))
  split
  · exact ite (logLanes hset) hset
  · exact ite (logLanes hset) hset
  · exact retireBundle h1

theorem testStack {n ok} (h : s.mem.Canon) : (s.testStack n ok).mem.Canon := by
  unfold State.testStack
  refine ite h ?_
  dsimp only
  split
  · exact fset h
  · exact ite (fenceStack (fset h)) (ite (fset h) (raise (fset h)))
  · exact fenceStack (fset h)

theorem testExit {ok} (h : s.mem.Canon) : (s.testExit ok).mem.Canon :=
  settle (setTest (foldl (foldl (foldl h fun h => testBundle h) fun h => testStack h) fun h => ite (setPort h) h))

theorem exec_interconnectTestDone {fails} (h : s.mem.Canon) : Res.Canon (execInterconnectTestDone fails s) :=
  .ite h (ite (tick (testExit (setTest (fset h)))) (setTest (fset h)))

theorem exec_fieldTestExit {logOk} (h : s.mem.Canon) : Res.Canon (execFieldTestExit logOk s) := .ite (testExit h) (.ite h h)

/-! ### Raw commands to open-mode LUNs -/

theorem rawPut {a l pois} (h : s.mem.Canon) : (s.rawPut a l pois).mem.Canon := settle (writeAt h)

theorem rawStages {a offs fuel stage decs} (h : s.mem.Canon) : (s.rawStages a offs fuel stage decs).1.mem.Canon := by
  induction fuel generalizing s stage decs with
  | zero => exact h
  | succ f ih =>
    unfold State.rawStages
    split
    · rename_i e
      exact (decodeStage h).deliver e
    · rename_i e
      have h1 := (decodeStage h).on e
      split
      · exact ih (stageReads h1)
      · exact unitLost h1

theorem rawUnit {c t offs a u} (h : s.mem.Canon) : (s.rawUnit c t offs a u).1.mem.Canon :=
  rawPut (iteOver (rawStages (countRead (tick h))) (countRead (tick h)))

theorem rawRead {c j raw units errs} (h : s.mem.Canon) : (s.rawRead c j raw units errs).mem.Canon :=
  ite (rawEnd (rawPut (blockUpd (onfi h)))) (rawEnd (fset (foldOver (g := Prod.fst) (groupUpd (stageReads h)) fun h => rawUnit h)))

theorem programmed {a} (h : s.mem.Canon) : (s.programmed a).mem.Canon := blockUpd h

theorem rawFetch {c n} (h : s.mem.Canon) : (s.rawFetch c n).st.mem.Canon := settle (readAt (hubPass h))

theorem rawProgram {c j raw pass} (h : s.mem.Canon) : (s.rawProgram c j raw pass).mem.Canon := by
  unfold State.rawProgram
  extract_lets a key k r s1
  have h1 : s1.mem.Canon := onfi (rawFetch h)
  exact ite (rawEnd (flcEvt (blockUpd (cnt h1)))) (ite (rawEnd (programmed (flashUpd h1))) (rawEnd (programmed (flashUpd h1))))

theorem rawErase {c j pass} (h : s.mem.Canon) : (s.rawErase c j pass).mem.Canon :=
  ite (rawEnd (eraseBlock (onfi h))) (rawEnd (flcEvt (blockUpd (cnt (onfi h)))))

theorem rawPerform {c j} (h : s.mem.Canon) : (s.rawPerform c j).mem.Canon := by
  unfold State.rawPerform
  dsimp only
  refine ite (rawEnd h) ?_
  split
  · exact rawRead h
  · exact rawProgram h
  · exact rawErase h
  · exact rawEnd (fset (onfi h))
  · exact rawEnd (rset (onfi h))
  · exact rawEnd (onfi h)
  · exact rawEnd (rawPut (onfi h))
  · exact rawEnd (rawPut (onfi h))
  · exact ite (rawEnd (flashUpd (onfi h))) (rawEnd (lunFence (flashUpd (onfi h))))

theorem rawNext {c} (h : s.mem.Canon) : (s.rawNext c).mem.Canon := by
  unfold State.rawNext
  split
  · exact rawPerform (dequeue h)
  · exact h

theorem raw {c stop t op} (h : s.mem.Canon) : (s.raw c stop t op).mem.Canon :=
  ite h (ite (rawEnd h) (ite (rawPerform h) (fset (flashQueue h))))

/-! #### The commands -/

theorem exec_rawReadPage {c asRaw t units errs} (h : s.mem.Canon) : Res.Canon (execRawReadPage c asRaw t units errs s) := raw h

theorem exec_rawProgramPage {c asRaw t pass} (h : s.mem.Canon) : Res.Canon (execRawProgramPage c asRaw t pass s) := raw h

theorem exec_rawEraseBlock {c t pass} (h : s.mem.Canon) : Res.Canon (execRawEraseBlock c t pass s) := raw h

theorem exec_rawReadStatus {c t status} (h : s.mem.Canon) : Res.Canon (execRawReadStatus c t status s) := raw h

theorem exec_rawGetFeatures {c feat t p} (h : s.mem.Canon) : Res.Canon (execRawGetFeatures c feat t p s) := raw h

theorem exec_rawSetFeatures {c feat t} (h : s.mem.Canon) : Res.Canon (execRawSetFeatures c feat t s) := raw h

theorem exec_rawReadId {c t id} (h : s.mem.Canon) : Res.Canon (execRawReadId c t id s) := raw h

theorem exec_rawReadParameterPage {c t page} (h : s.mem.Canon) : Res.Canon (execRawReadParameterPage c t page s) := raw h

theorem exec_rawResetLun {c t same logOk} (h : s.mem.Canon) : Res.Canon (execRawResetLun c t same logOk s) := raw h

theorem exec_flashRead {c} (h : s.mem.Canon) : Res.Canon (execFlashRead c s) := rawNext (flashRead h)

theorem exec_pageReadDone {c lun r interval} (h : s.mem.Canon) : Res.Canon (execPageReadDone c lun r interval s) := rawNext (pageRead h)

theorem exec_probeResult {c lun w} (h : s.mem.Canon) : Res.Canon (execProbeResult c lun w s) := rawNext (probeResult h)

theorem exec_flashProgram {c} (h : s.mem.Canon) : Res.Canon (execFlashProgram c s) := rawNext (flashProgram h)

theorem exec_programStatus {c lun pass} (h : s.mem.Canon) : Res.Canon (execProgramStatus c lun pass s) := rawNext (programStatus h)

theorem exec_eraseStatus {c lun pass} (h : s.mem.Canon) : Res.Canon (execEraseStatus c lun pass s) := rawNext (eraseStatus h)

/-! ### The meanings of the messages of a mode change -/

theorem exec_prepareReceive {u kind x} (h : s.mem.Canon) : Res.Canon (execPrepareReceive u kind x s) := by
  unfold execPrepareReceive
  split
  · exact .ite (chainTo h) (modeBegin h)
  · dsimp only
    split
    · exact .ite (unitSays h) h
    · exact h

theorem exec_modeAckReceive {u phase result} (h : s.mem.Canon) : Res.Canon (execModeAckReceive u phase result s) := by
  unfold execModeAckReceive
  dsimp only
  split
  · refine .ite ?_ (.ite (modeFinish h) h)
    split
    · exact .ite (modeCommit h) h
    · exact modeAbort h
    · exact h
  · exact h

theorem exec_commitReceive {u} (h : s.mem.Canon) : Res.Canon (execCommitReceive u s) := by
  unfold execCommitReceive
  split
  · split
    · exact .ite (modeGo h) h
    · exact .ite h h
  · exact h

theorem blockApply {b} (h : s.mem.Canon) : (s.blockApply b).mem.Canon := pairShow (with_staged_pend (pairAdopt h))

theorem exec_modeApply {u} (h : s.mem.Canon) : Res.Canon (execModeApply u s) := by
  unfold execModeApply
  extract_lets m s1
  have h1 : s1.mem.Canon := by
    clear_value m
    dsimp only [s1]
    split
    · exact blockApply h
    · exact h
  split
  · exact .ite (unitSays (with_mode h1)) h
  · exact h

theorem exec_abortReceive {x} (h : s.mem.Canon) : Res.Canon (execAbortReceive x s) := by
  unfold execAbortReceive
  split
  · split
    · exact .ite (raise (modeShow (modeSend h))) h
    · exact h
  · dsimp only
    split
    · exact .ite h h
    · exact h

theorem exec_modeAckTimeout (h : s.mem.Canon) : Res.Canon (execModeAckTimeout s) := by
  unfold execModeAckTimeout
  split
  · exact .ite (modeAbort h) h
  · exact h

theorem exec_groupModeTimeout (h : s.mem.Canon) : Res.Canon (execGroupModeTimeout s) := by
  unfold execGroupModeTimeout
  split
  · exact .ite (modeAbort h) h
  · exact h

/-! ### Snapshot waves, the sample ring and the latency histogram -/

/-! #### Shadows (R425, R510) -/

theorem latch {l} (h : s.mem.Canon) : (s.latch l).mem.Canon := h

theorem latchPipes {l} (h : s.mem.Canon) : (s.latchPipes l).mem.Canon := h

theorem latchSites {l} (h : s.mem.Canon) : (s.latchSites l).mem.Canon := latch h

theorem latchHub (h : s.mem.Canon) : s.latchHub.mem.Canon := with_shadows (latch h)

theorem latchDie {pos} (h : s.mem.Canon) : (s.latchDie pos).mem.Canon := ite (latchSites h) (ite (latchPipes (latch h)) (ite (latch h) h))

/-! #### Cuts (R422) -/

theorem cutUpd {k f} (h : s.mem.Canon) : (s.cutUpd k f).mem.Canon := h

theorem cutSent {chan dir n} (h : s.mem.Canon) : (s.cutSent chan dir n).mem.Canon := cutUpd h

theorem bundleSent {p dir n} (h : s.mem.Canon) : (s.bundleSent p dir n).mem.Canon := emit (cutSent h)

theorem cutRcvd {chan dir n} (h : s.mem.Canon) : (s.cutRcvd chan dir n).mem.Canon := cutUpd h

theorem cutMark {chan dir sent} (h : s.mem.Canon) : (s.cutMark chan dir sent).mem.Canon := cutUpd h

theorem markerOut {q n} (h : s.mem.Canon) : (s.markerOut q n).mem.Canon := portUpd h

theorem latchEnds {pos} (h : s.mem.Canon) : (s.latchEnds pos).mem.Canon :=
  ite (foldl (foldl h fun h => bundleSent (cutRcvd h)) fun h => ite (markerOut (cutRcvd (cutSent h))) (cutRcvd (cutSent h)))
    (foldl h fun h => bundleSent (cutRcvd h))

/-! #### Waves (R419, R420) -/

theorem waveChannels {dies} (h : s.mem.Canon) : (s.waveChannels dies).mem.Canon := foldl h fun h => cutRcvd (bundleSent h)

theorem waveMarkers {dies} (h : s.mem.Canon) : (s.waveMarkers dies).mem.Canon := foldl h fun h => chainSend h

theorem waveBegin {scope sp origin} (h : s.mem.Canon) : (s.waveBegin scope sp origin).mem.Canon := by
  unfold State.waveBegin
  extract_lets id dies skipped s1 _ s2
  have h2 : s2.mem.Canon := with_wave (fset (fset (fset (fset (fset h)))))
  exact waveMarkers (ite h2 (waveChannels (latchHub h2)))

theorem waveFlags (h : s.mem.Canon) : s.waveFlags.mem.Canon := h

theorem latchSums (h : s.mem.Canon) : s.latchSums.mem.Canon := ite h h

theorem waveClose {done} (h : s.mem.Canon) : (s.waveClose done).mem.Canon := raise (with_wave (latchSums (waveFlags (bset (fset h)))))

theorem missDev {d} (h : s.mem.Canon) : (s.missDev d).mem.Canon := ite (fset h) (fset h)

theorem spanWave {sp} (h : s.mem.Canon) : (s.spanWave sp).mem.Canon := ite (waveClose (waveBegin h)) (waveBegin h)

theorem waveOwnEnd (h : s.mem.Canon) : s.waveOwnEnd.mem.Canon := by
  unfold State.waveOwnEnd
  dsimp only
  refine ite ?_ ?_
  · split
    · split
      · exact spanWave (with_wave (chainTo (waveClose h)))
      · exact chainTo (waveClose h)
    · refine ite ?_ h
      split
      · exact spanWave (with_wave (waveClose h))
      · exact waveClose h
  · split
    · exact spanWave (with_wave (waveClose h))
    · exact waveClose h

theorem waveReport {pos} (h : s.mem.Canon) : (s.waveReport pos).mem.Canon := ite (waveOwnEnd h) h

theorem waveAnswer {d} (h : s.mem.Canon) : (s.waveAnswer d).mem.Canon := by
  unfold State.waveAnswer
  dsimp only
  refine ite ?_ h
  split
  · exact spanWave (with_wave (waveClose h))
  · exact waveClose h

theorem waveLost {d} (h : s.mem.Canon) : (s.waveLost d).mem.Canon := ite (waveAnswer (missDev h)) h

theorem deviceWave {scope origin devs} (h : s.mem.Canon) : (s.deviceWave scope origin devs).mem.Canon :=
  ite (waveOwnEnd (with_wave (waveBegin h))) (with_wave (waveBegin h))

theorem waveDropped (h : s.mem.Canon) : s.waveDropped.mem.Canon := cnt h

theorem exec_snapshotDevice (h : s.mem.Canon) : Res.Canon (execSnapshotDevice s) := .ite (waveDropped h) (deviceWave h)

theorem exec_snapshotGroup (h : s.mem.Canon) : Res.Canon (execSnapshotGroup s) := .ite (waveDropped h) (deviceWave (rset (rset h)))

theorem spanSnapshot {i} (h : s.mem.Canon) : (s.spanSnapshot i).mem.Canon :=
  ite (cmdErr h) (ite (spanWave h) (ite h (cmdErr (waveDropped h))))

theorem exec_spanSnapshot {sp} (h : s.mem.Canon) : Res.Canon (execSpanSnapshot sp s) := spanSnapshot (groupCmd h)

theorem dieLatch {pos} (h : s.mem.Canon) : (s.dieLatch pos).mem.Canon := ite (ite (latchPipes h) (latchSites h)) (latchEnds (latchDie h))

theorem markerJoin {m} (h : s.mem.Canon) : (s.markerJoin m).mem.Canon := by
  unfold State.markerJoin
  split
  · exact ite h (deviceWave h)
  · exact h

theorem exec_snapshotMarker {m} (h : s.mem.Canon) : Res.Canon (execSnapshotMarker m s) :=
  .ite (markerJoin h) (.ite (ite (dieLatch (markerJoin h)) (markerJoin h)) (cutMark (ite (dieLatch (markerJoin h)) (markerJoin h))))

theorem exec_waveStatusReceive {pos dev} (h : s.mem.Canon) : Res.Canon (execWaveStatusReceive pos dev s) := by
  unfold execWaveStatusReceive
  split
  · exact .ite (waveAnswer h) h
  · exact .ite (waveReport h) h

theorem exec_waveTimeout (h : s.mem.Canon) : Res.Canon (execWaveTimeout s) := .ite (waveOwnEnd (cnt h)) h

theorem exec_groupWaveTimeout (h : s.mem.Canon) : Res.Canon (execGroupWaveTimeout s) := .ite (foldl h fun h => waveLost h) h

/-! #### The sample ring (R426) -/

theorem exec_telSample (h : s.mem.Canon) : Res.Canon (execTelSample s) := .ite h (.ite (ite h (raise (bset h))) (wrap (hubWrite h)))

theorem exec_telRingReadAdvance {v} (h : s.mem.Canon) : Res.Canon (execTelRingReadAdvance v s) := .ite (rset h) h

theorem exec_histSelect {v} (h : s.mem.Canon) : Res.Canon (execHistSelect v s) := foldl (rset h) fun h => rset h

/-! ### The meanings of the Wealey links' commands -/

/-! #### Codewords and control slices -/

theorem exec_codewordReceive {p corrected bad counted} (h : s.mem.Canon) : Res.Canon (execCodewordReceive p corrected bad counted s) :=
  .ite h (.ite (ite (portRetrainStart (portUpd (cnt (portUpd h)))) (portUpd (cnt (portUpd h)))) (portUpd (wrap (cnt (portUpd h)))))

theorem replaySent {q} (h : s.mem.Canon) : (s.replaySent q).mem.Canon := by
  unfold State.replaySent
  refine foldl h fun h => ?_
  split
  · exact emit h
  · exact emit h

theorem exec_controlSliceReceive {p ack nak crReq crRsp crCtl txreq} (h : s.mem.Canon) : Res.Canon (execControlSliceReceive p ack nak crReq
  crRsp crCtl txreq s) :=
  .ite h (.ite (portUpd h) (ite (portRetrainStart (replaySent (cnt (portUpd h)))) (replaySent (cnt (portUpd h)))))

theorem groupTake {d cls i l r} (h : s.mem.Canon) (e : s.groupTake d cls i l = some r) : Res.Canon r := by
  unfold State.groupTake at e
  extract_lets sp mine at e
  split at e
  · cases e
    exact ite (ringSpan h) (ite (spanSnapshot h) (degradeCheck (spanCommand h)))
  · cases e
    exact .ite (exec_syncSignal h) (abortPoints h)
  · cases e
    exact settle (abortLocal h)
  · cases e
    exact spanUpd h
  · cases e
    exact exec_prepareReceive h
  · cases e
    exact .ite (exec_modeAckReceive h) h
  · cases e
    exact .ite (exec_commitReceive h) h
  · cases e
    exact .ite (exec_abortReceive h) h
  · cases e

theorem exec_chainEntryReceive {p x} (h : s.mem.Canon) : Res.Canon (execChainEntryReceive p x s) := by
  unfold execChainEntryReceive
  refine .ite h ?_
  extract_lets t
  have h1 : t.mem.Canon := entryFreed h
  refine .ite (entryOut h1) (.ite ?vector ?message)
  case vector =>
    exact .ite (cnt h1) (.ite h1 (msixOut h1))
  case message =>
    extract_lets
    split
    · rename_i e
      split at e
      · exact groupTake h1 e
      · cases e
    · exact chainSend h1

/-! #### Frames sent (R328) -/

theorem frameGo {q f} (h : s.mem.Canon) : (s.frameGo q f).mem.Canon := emit (wrap (portUpd (grpUpd h)))

theorem entryGo {q x} (h : s.mem.Canon) : (s.entryGo q x).mem.Canon := emit (reportGo (wrap (portUpd (ite h (grpUpd h)))))

theorem exec_frameSend {p} (h : s.mem.Canon) : Res.Canon (execFrameSend p s) := by
  unfold execFrameSend
  dsimp only
  refine .ite h ?_
  split
  · exact entryGo h
  · refine .ite (reportGo h) ?_
    split
    · exact frameGo h
    · exact portUpd h

theorem frameLost {f} (h : s.mem.Canon) : (s.frameLost f).mem.Canon := ite (ite (tagDone (raise (cnt h))) (frameOut (raise (cnt h)))) h

theorem exec_frameExpire (h : s.mem.Canon) : Res.Canon (execFrameExpire s) := by
  unfold execFrameExpire
  split
  · exact h
  · exact frameLost (grpUpd h)

/-! #### Ports (R330, R331) -/

theorem exec_portSignalDetect {p} (h : s.mem.Canon) : Res.Canon (execPortSignalDetect p s) := .ite (setPort h) h

theorem exec_detectRetry {p} (h : s.mem.Canon) : Res.Canon (execDetectRetry p s) := .ite (setPort h) h

theorem exec_trainLock {p} (h : s.mem.Canon) : Res.Canon (execTrainLock p s) :=
  .ite (.ite (fset (devUpd (fset (emit (portUpd (setPort h)))))) (emit (portUpd (setPort h)))) h

theorem exec_trainTimeout {p} (h : s.mem.Canon) : Res.Canon (execTrainTimeout p s) := .ite (cnt (setPort h)) h

theorem exec_checkPass {p} (h : s.mem.Canon) : Res.Canon (execCheckPass p s) :=
  .ite (reportPort (ite (fset (portEvt (setPort h))) (portEvt (setPort h)))) h

theorem exec_portSignalLost {p} (h : s.mem.Canon) : Res.Canon (execPortSignalLost p s) := .ite (portDown h) h

theorem exec_portRetrain {p} (h : s.mem.Canon) : Res.Canon (execPortRetrain p s) := .ite (portRetrainStart h) h

theorem exec_portRetrainWrite {p} (h : s.mem.Canon) : Res.Canon (execPortRetrainWrite p s) := .ite (portRetrainStart h) (.ite (setPort h) h)

theorem exec_portRetrainDone {p} (h : s.mem.Canon) : Res.Canon (execPortRetrainDone p s) :=
  .ite (reportPort (portEvt (replaySent (restorePort (setPort h))))) h

theorem exec_portRetrainTimeout {p} (h : s.mem.Canon) : Res.Canon (execPortRetrainTimeout p s) := .ite (portEvt (portDown h)) h

theorem exec_portDisable {p} (h : s.mem.Canon) : Res.Canon (execPortDisable p s) := .ite (portDown (bset h)) h

theorem exec_portEnable {p} (h : s.mem.Canon) : Res.Canon (execPortEnable p s) := .ite (ite (setPort (bset h)) (bset h)) h

/-! #### Discovery (R334, R335) -/

theorem portRefused {q reason} (h : s.mem.Canon) : (s.portRefused q reason).mem.Canon := portEvt (portDown h)

theorem exec_helloReceive {p serial devnum port bridge tier feature gen} (h : s.mem.Canon) :
    Res.Canon (execHelloReceive p serial devnum port bridge tier feature gen s) := by
  unfold execHelloReceive
  extract_lets q t s1 keeps s2
  have h0 : t.mem.Canon := entryFreed h
  have h1 : s1.mem.Canon := portUpd (fset (fset h0))
  have h2 : s2.mem.Canon := ite (devUpd h1) h1
  refine .ite h (.ite (portRefused h0) (.ite (.ite ?_ h0) (.ite (reportPort h2) h2)))
  exact raise (fset (foldl h0 fun h => ite (portRefused h) h))

theorem numberPeer {l} (h : s.mem.Canon) : (s.numberPeer l).mem.Canon := by
  unfold State.numberPeer
  extract_lets u serial level
  split
  · exact ite (portRefused h) h
  · extract_lets x s1 s2
    have h1 : s1.mem.Canon := grpUpd (devUpd h)
    have h2 : s2.mem.Canon := ite h1 (fset h1)
    exact ite (emit (fset h2)) (entryOut (tick h2))

theorem exec_discoveryEnd (h : s.mem.Canon) : Res.Canon (execDiscoveryEnd s) :=
  .ite h (sendHeld (raise (fset (ite (newTables (foldl h fun h => numberPeer h)) h))))

theorem exec_enumReceive {serial devnum level gen} (h : s.mem.Canon) : Res.Canon (execEnumReceive serial devnum level gen s) := by
  unfold execEnumReceive
  refine .ite (foldl (fset (devUpd (devUpd (fset (fset h))))) fun h => ite (reportPort (emit h)) h) ?_
  split
  · exact emit h
  · exact h

theorem exec_rescan (h : s.mem.Canon) : Res.Canon (execRescan s) :=
  .ite (linkDegraded (fset (fset (grpUpd (with_lostDevs (foldl h fun h => devUpd h)))))) h

/-! #### Routes (R336, R337) and link states (R338, R339) -/

theorem exec_routeReceive {dest hops up dn gen last} (h : s.mem.Canon) : Res.Canon (execRouteReceive dest hops up dn gen last s) :=
  .ite (fset (adoptTable (grpUpd h))) (grpUpd h)

theorem exec_linkstateReceive {d port up peer peerPort gen} (h : s.mem.Canon) : Res.Canon (execLinkstateReceive d port up peer peerPort gen
  s) :=
  .ite (ite (fset (newTables (recordLink h))) (newTables (recordLink h))) (recordLink h)

theorem exec_lostReceive {d isolated gen} (h : s.mem.Canon) : Res.Canon (execLostReceive d isolated gen s) := .ite h (waveLost (markLost h))

theorem exec_deviceLost {d} (h : s.mem.Canon) : Res.Canon (execDeviceLost d s) := .ite (foldl (waveLost (markLost h)) fun h => entryOut h) h

theorem exec_deviceIsolated (h : s.mem.Canon) : Res.Canon (execDeviceIsolated s) := .ite (raise (fset h)) h

/-! ### The barge movers and the KV placement loop -/

/-! #### Rings (R179, R180) -/

theorem readDesc {m i} (h : s.mem.Canon) : (s.readDesc m i).1.mem.Canon := hubRead h

theorem askUnits {w r z off ticket n} (h : s.mem.Canon) : (s.askUnits w r z off ticket n).1.mem.Canon := foldl h fun h => flashAsk h

theorem beginDesc {m ix d} (h : s.mem.Canon) : (s.beginDesc m ix d).1.mem.Canon := iteOver (askUnits h) h

theorem startRing {m} (h : s.mem.Canon) : (s.startRing m).mem.Canon := moverUpd (beginDesc (readDesc h))

theorem startHub {m} (h : s.mem.Canon) : (s.startHub m).mem.Canon := by
  unfold State.startHub
  split
  · exact h
  · dsimp only
    refine moverUpd ?_
    split
    · exact iteOver (askUnits h) h
    · exact h

theorem exec_descriptorStart {m hub} (h : s.mem.Canon) : Res.Canon (execDescriptorStart m hub s) :=
  .ite (.ite (startHub h) h) (.ite (startRing h) h)

theorem exec_brgWriteIndex {m v} (h : s.mem.Canon) : Res.Canon (execBrgWriteIndex m v s) := .ite h (moverIndex h)

/-! #### Destinations (R182) -/

theorem putBlocks {w base x} (h : s.mem.Canon) : (s.putBlocks w base x).1.mem.Canon := by
  unfold State.putBlocks
  dsimp only
  refine settle (foldOver (g := Prod.fst) h fun h => ?_)
  split
  · exact h
  · exact iteOver h (writeAt h)

theorem putCodebook {w e cb off x u} (h : s.mem.Canon) (hu : s.putCodebook w e cb off x = .ok u) : u.1.mem.Canon := by
  unfold State.putCodebook at hu
  extract_lets n at hu
  split at hu
  · cases hu
    exact h
  · obtain ⟨t, ht, rfl⟩ := ok_of_map hu
    exact codebookPut (eachUnit h crossBy ht)

theorem moverStore {w d x turned u} (h : s.mem.Canon) (e : s.moverStore w d x turned = .ok u) : u.1.mem.Canon := by
  unfold State.moverStore at e
  extract_lets base n took stop at e
  split at e
  · cases e
    exact h
  split at e
  · obtain ⟨t, ht, rfl⟩ := ok_of_map e
    have h1 := passDie h ht
    exact ite h1 (ite (hostOut h1) (transferOut h1))
  split at e
  · exact putCodebook h e
  split at e
  · split at e
    · cases e
      exact h
    · cases e
      exact ite h (transferOut h)
  · obtain ⟨t, ht, rfl⟩ := ok_of_map e
    exact putBlocks (pass h ht)

theorem descOutcome {m r ext turned} (h : s.mem.Canon) : CopyCanon Prod.fst (s.descOutcome m r ext turned) := by
  unfold State.descOutcome
  extract_lets w
  refine .ite h (.ite ?status (.ite h ?copy))
  case status =>
    split
    · exact h
    · exact h
  case copy =>
    refine .bind (moverSource h) fun {x} hx => ?_
    split
    · exact waitFor h
    · rename_i e
      exact moverStore (settle hx) e
    · rename_i e
      exact moverStore (settle hx) e

theorem descStatus {m ix status errOff} (h : s.mem.Canon) : (s.descStatus m ix status errOff).mem.Canon := fset (hubWrite h)

theorem ringAdvance {m} (h : s.mem.Canon) : (s.ringAdvance m).mem.Canon := pairWake (rset h)

theorem completeRing {m ext turned} (h : s.mem.Canon) : (s.completeRing m ext turned).mem.Canon := by
  unfold State.completeRing
  extract_lets u
  split
  · split
    · rename_i e
      exact (descOutcome h).error e
    · rename_i e
      extract_lets s2 s3
      have h2 : s2.mem.Canon := descStatus (flashForget ((descOutcome h).ok e))
      have h3 : s3.mem.Canon := ringAdvance (moverUpd h2)
      exact ite (raise (moverUpd h2)) (ite (raise h3) h3)
  · exact h

theorem placeSource {m x r ext} (h : s.mem.Canon) : CopyCanon Source.st (s.placeSource m x r ext) := by
  unfold State.placeSource
  refine .ite h (.map (moverSource h) fun {y} hy => ?_)
  split
  · exact hy
  · exact hy

theorem placeStore {m x y u} (h : s.mem.Canon) (e : s.placeStore m x y = .ok u) : u.1.mem.Canon := by
  unfold State.placeStore at e
  extract_lets w at e
  split at e
  · obtain ⟨r, hr, rfl⟩ := ok_of_map e
    exact putCodebook h hr
  · obtain ⟨t, ht, rfl⟩ := ok_of_map e
    exact settle (writeAt (pass h ht))

theorem completePlace {m x r ext} (h : s.mem.Canon) : (s.completePlace m x r ext).mem.Canon := by
  unfold State.completePlace
  refine ite h ?_
  split
  · rename_i e
    exact (placeSource h).error e
  · rename_i e
    have hy := (placeSource h).ok e
    extract_lets s1
    have h1 : s1.mem.Canon := moverUpd (flashForget (settle hy))
    refine ite (placeFailed h1) ?_
    split
    · exact waitFor h
    · rename_i e
      have ht := placeStore h1 e
      exact ite (placeDone ht) (placeFailed ht)

theorem exec_descriptorComplete {m hub ext turned} (h : s.mem.Canon) : Res.Canon (execDescriptorComplete m hub ext turned s) := by
  unfold execDescriptorComplete
  refine .ite ?_ (completeRing h)
  split
  · exact completePlace h
  · exact h

/-! #### A halted ring (R182) -/

theorem exec_brgResume {m} (h : s.mem.Canon) : Res.Canon (execBrgResume m s) := by
  unfold execBrgResume
  split
  · exact h
  · exact moverUpd (beginDesc (readDesc h))

theorem exec_brgSkip {m} (h : s.mem.Canon) : Res.Canon (execBrgSkip m s) := by
  unfold execBrgSkip
  split
  · exact h
  · exact ringAdvance (moverUpd h)

theorem exec_brgAbort {m} (h : s.mem.Canon) : Res.Canon (execBrgAbort m s) := by
  unfold execBrgAbort
  split
  · exact h
  · exact pairWake (fset (rset (moverUpd (foldl (foldl h fun h => hubWrite h) fun h => flashForget h))))

/-! #### The placement loop (R183 to R186) -/

theorem noFrame (h : s.mem.Canon) : s.noFrame.mem.Canon := ite h (raise h)

theorem promoteStart {p f} (h : s.mem.Canon) : (s.promoteStart p f).mem.Canon := moverUpd h

theorem demote {p} (h : s.mem.Canon) : (s.demote p).mem.Canon := cnt h

theorem promoteAll {thr fuel} (h : s.mem.Canon) : (s.promoteAll thr fuel).mem.Canon := by
  induction fuel generalizing s with
  | zero => exact h
  | succ n ih =>
    unfold State.promoteAll
    split
    · exact ih (promoteStart h)
    · exact noFrame h
    · exact h

theorem exec_placeEpochEnd (h : s.mem.Canon) : Res.Canon (execPlaceEpochEnd s) :=
  .ite h (with_place (ite (promoteAll (foldl h fun h => demote h)) h))

theorem promoAnswer {reason} (h : s.mem.Canon) : (s.promoAnswer reason).mem.Canon := fset (fset h)

theorem exec_promoteCopyDone {page} (h : s.mem.Canon) : Res.Canon (execPromoteCopyDone page s) := by
  unfold execPromoteCopyDone
  extract_lets +onlyGivenNames p m
  split
  · refine .ite h ?_
    with_reducible conv => arg 1; whnf
    generalize hr : State.hubRead _ _ _ = r
    have h3 : r.st.mem.Canon := by
      rw [← hr]
      exact hubRead (with_place (moverUpd h))
    have hanswer {b : Bool} {t : State} {k : Nat} (ht : t.mem.Canon) : Res.Canon (.next (if b then t.promoAnswer k else t)) :=
      ite (promoAnswer ht) ht
    split
    · exact .ite (hanswer h3) (hanswer (cnt (with_place (settle (writeAt (hubPass h3))))))
    · exact hanswer h3
  · exact h

theorem exec_promoPromote (h : s.mem.Canon) : Res.Canon (execPromoPromote s) := by
  unfold execPromoPromote
  dsimp only
  refine .ite h (.ite (promoAnswer h) ?_)
  split
  · exact promoAnswer (noFrame h)
  · exact .ite (promoAnswer h) (.ite (promoAnswer h) (.ite (promoAnswer h) (promoteStart (fset (fset h)))))

theorem exec_promoDemote (h : s.mem.Canon) : Res.Canon (execPromoDemote s) :=
  .ite h (.ite (promoAnswer h) (.ite (promoAnswer h) (.ite (promoAnswer h) (promoAnswer (demote h)))))

/-! ### The meanings of the interrupt controller's commands and of the ferryman's -/

/-! #### Sources -/

theorem exec_sourceEvent {k} (h : s.mem.Canon) : Res.Canon (execSourceEvent k s) := .ite h (raise h)

theorem exec_levelLineRise {k} (h : s.mem.Canon) : Res.Canon (execLevelLineRise k s) := .ite (setLine h) h

theorem windowEnd {k} (h : s.mem.Canon) : (s.windowEnd k).mem.Canon := present (srcUpd h)

theorem exec_coalWindowExpire {k} (h : s.mem.Canon) : Res.Canon (execCoalWindowExpire k s) := by
  unfold execCoalWindowExpire
  dsimp only
  split
  · exact h
  · exact .ite h (windowEnd h)

/-! #### Claims -/

theorem claimBy {t} (h : s.mem.Canon) : (s.claimBy t).1.mem.Canon := by
  unfold State.claimBy
  extract_lets s0
  have h0 : s0.mem.Canon := tgtUpd h
  split
  · exact presentBest h0
  · extract_lets c s1 s2
    have h2 : s2.mem.Canon := tgtUpd (srcUpd h0)
    exact presentBest (with_icu h2)

theorem exec_claim {t} (h : s.mem.Canon) : Res.Canon (execClaim t s) := reply (claimBy h)

theorem exec_eoi {t v} (h : s.mem.Canon) : Res.Canon (execEoi t v s) := by
  unfold execEoi
  dsimp only
  refine .ite h ?_
  split
  · exact .ite (presentAll (tgtUpd (srcUpd h))) (raise (tgtUpd h))
  · exact raise (tgtUpd h)

theorem exec_softwareInterrupt {v} (h : s.mem.Canon) : Res.Canon (execSoftwareInterrupt v s) := raise h

/-! #### Wake (R413 to R415, R451) -/

theorem ferryWake {cause src} (h : s.mem.Canon) : (s.ferryWake cause src).mem.Canon :=
  ite h (ite (standbyOut (fset (fset h))) (with_pwr (fset (fset h))))

theorem exec_ferrymanWake {k} (h : s.mem.Canon) : Res.Canon (execFerrymanWake k s) := .ite (ferryWake h) h

theorem exec_ferryTimer {ms} (h : s.mem.Canon) : Res.Canon (execFerryTimer ms s) := .ite h (ite (ferryWake (fset h)) (fset h))

/-! #### The flash mount -/

theorem exec_mountDone {labelOk ledgerOk wps} (h : s.mem.Canon) : Res.Canon (execMountDone labelOk ledgerOk wps s) :=
  .ite h (with_sec_free (tick (rset (rtvRelease (mountEnd h)))))

theorem idle (h : s.mem.Canon) : s.idle.mem.Canon := ite h (foldl (writesRetry (pump (networkTick h))) fun h => ite (windowEnd h) h)

/-! ### The meanings of the security units' commands -/

/-! #### Key notices (R461, R462) -/

theorem knotEnd {reason} (h : s.mem.Canon) : (s.knotEnd reason).mem.Canon := secEvt (fset (fset h))

theorem knotRead (h : s.mem.Canon) : s.knotRead.1.mem.Canon := settle (readAt h)

theorem knotCheck {l} (h : s.mem.Canon) : (s.knotCheck l).mem.Canon :=
  ite (knotEnd h) (ite (knotEnd (vfyFail h)) (ite (knotEnd h) (fset h)))

theorem exec_keyEnrol {v} (h : s.mem.Canon) : Res.Canon (execKeyEnrol v s) := .ite (knotCheck (knotRead h)) h

theorem exec_keyRevoke {v} (h : s.mem.Canon) : Res.Canon (execKeyRevoke v s) := .ite (knotCheck (knotRead h)) h

theorem blow {op target dig} (h : s.mem.Canon) : (s.blow op target dig).mem.Canon := keyUpd h

theorem exec_keyNoticeDone {ok} (h : s.mem.Canon) : Res.Canon (execKeyNoticeDone ok s) := by
  unfold execKeyNoticeDone
  split
  · exact h
  · exact .ite (knotEnd (blow h)) (knotEnd h)

/-! #### Attestation (R463 to R465) -/

theorem exec_attestHost {v} (h : s.mem.Canon) : Res.Canon (execAttestHost v s) := .ite h (.ite (bset h) (fset h))

theorem attestOut {body} (h : s.mem.Canon) : (s.attestOut body).mem.Canon := secEvt (fset (fset (hubWrite h)))

theorem exec_attestDone {landing} (h : s.mem.Canon) : Res.Canon (execAttestDone landing s) := by
  unfold execAttestDone
  split
  · exact attestOut h
  · exact reply (cnt h)
  · exact h

/-! ### Register accesses -/

/-! #### Commands that a write starts -/

theorem viaLog {f : Bool → State → Res State} (h : s.mem.Canon) (hf : ∀ {b : Bool} {t : State}, t.mem.Canon → Res.Canon (f b t)) :
    (s.viaLog f).mem.Canon :=
  via (tick h) (hf (tick h))

/-! #### Fields with conditions of their own -/

theorem rput {r m v} (h : s.mem.Canon) : (s.rput r m v).mem.Canon := rset h

theorem plainWrite {r v} (h : s.mem.Canon) : (s.plainWrite r v).mem.Canon := rset (rput h)

theorem writeCap {v} (h : s.mem.Canon) : (s.writeCap v).mem.Canon := ite (fset (ite (fset h) h)) (ite (fset h) h)

theorem writeCeil {v} (h : s.mem.Canon) : (s.writeCeil v).mem.Canon := fset (ite (fset h) h)

theorem writeThm {v} (h : s.mem.Canon) : (s.writeThm v).mem.Canon :=
  ite (fset (ite (fset (ite (fset h) h)) (ite (fset h) h))) (ite (fset (ite (fset h) h)) (ite (fset h) h))

theorem writeClass {t v} (h : s.mem.Canon) : (s.writeClass t v).mem.Canon := ite h (fset (foldl h fun h => h))

theorem writeQthr {k v} (h : s.mem.Canon) : (s.writeQthr k v).mem.Canon := ite h (plainWrite h)

theorem writePlace {v} (h : s.mem.Canon) : (s.writePlace v).mem.Canon := ite (plainWrite h) (plainWrite h)

theorem writeGen {v} (h : s.mem.Canon) : (s.writeGen v).mem.Canon := ite (fset (fset h)) (fset h)

theorem writeRing {v} (h : s.mem.Canon) : (s.writeRing v).mem.Canon := ite (plainWrite h) h

theorem writeLevelEvt {r src v} (h : s.mem.Canon) : (s.writeLevelEvt r src v).mem.Canon := ite (setLine (plainWrite h)) (plainWrite h)

theorem writeSrc {k v} (h : s.mem.Canon) : (s.writeSrc k v).mem.Canon := presentAll (ite (srcUpd (ite h (fset h))) (ite h (fset h)))

/-! #### Routing -/

theorem writeSpanCmd {ticket v} (h : s.mem.Canon) : (s.writeSpanCmd ticket v).mem.Canon := by
  unfold State.writeSpanCmd
  dsimp only
  split
  · exact via h (exec_spanStart h)
  · exact via h (exec_spanStop h)
  · exact via h (exec_spanDrain h)
  · exact via h (exec_spanSnapshot h)
  · exact via h (exec_spanClear h)
  · exact via h (exec_spanUnload h)
  · exact cmdErr h

theorem writeRaw {c v} (h : s.mem.Canon) : (s.writeRaw c v).mem.Canon := by
  unfold State.writeRaw
  dsimp only
  split
  · exact via (tick h) (exec_rawReadPage (tick h))
  · exact via (tick h) (exec_rawProgramPage (tick h))
  · exact via (tick h) (exec_rawEraseBlock (tick h))
  · exact via (tick h) (exec_rawReadStatus (tick h))
  · exact via (tick h) (exec_rawGetFeatures (tick h))
  · exact via h (exec_rawSetFeatures h)
  · exact via (tick h) (exec_rawReadId (tick h))
  · exact via (tick h) (exec_rawReadParameterPage (tick h))
  · exact via (tick h) (exec_rawResetLun (tick h))
  · exact h

theorem writeZone {v} (h : s.mem.Canon) : (s.writeZone v).mem.Canon := by
  unfold State.writeZone
  split
  · exact via h (exec_zoneOpen h)
  · exact via h (exec_zoneFinish h)
  · exact via h (exec_zoneFree h)
  · exact via h (exec_zoneQuery h)
  · exact h

theorem writePort {q v} (h : s.mem.Canon) : (s.writePort q v).mem.Canon :=
  ite (via h (exec_portDisable h)) (ite (via (via h (exec_portEnable h)) (exec_portRetrainWrite (via h (exec_portEnable h))))
    (via h (exec_portEnable h)))

theorem writeBrg {m v} (h : s.mem.Canon) : (s.writeBrg m v).mem.Canon :=
  ite (via h (exec_brgResume h)) (ite (via h (exec_brgSkip h)) (ite (via h (exec_brgAbort h)) h))

theorem writeCwy {p v} (h : s.mem.Canon) : (s.writeCwy p v).mem.Canon := by
  unfold State.writeCwy
  extract_lets s1 s2
  have h1 : s1.mem.Canon := fset h
  have h2 : s2.mem.Canon := ite (via h1 (exec_bundleRetrain h1)) h1
  exact ite (viaLog h2 exec_bundleRetire) h2

theorem writePwr {v} (h : s.mem.Canon) : (s.writePwr v).mem.Canon := by
  unfold State.writePwr
  split
  · exact via h (exec_standbyEnter h)
  · exact via h (exec_standbyExit h)
  · exact via h (exec_offAon h)
  · exact h

theorem writeDieCmd {v} (h : s.mem.Canon) : (s.writeDieCmd v).mem.Canon := by
  unfold State.writeDieCmd
  dsimp only
  refine ite h ?_
  split
  · exact via h (exec_dieDoze h)
  · exact via h (exec_dieWake h)
  · exact h

theorem writeOther {r v t} (h : s.mem.Canon) (e : t = if r.access.rwp ≠ 0 then s.rwpWrite r v else s.plainWrite r v) :
    t.mem.Canon := by
  rw [e]
  exact ite (rwpWrite h) (plainWrite h)

theorem writeReg {a ticket r v} (h : s.mem.Canon) : (s.writeReg a ticket r v).mem.Canon := by
  have hother := fun {t} => writeOther (r := r) (v := v) (t := t) h
  cases r with
  | CLK_MAX => exact halfUpdate (halfUpdate (plainWrite h))
  | PWR_CTL => exact writePwr h
  | PWR_CAP => exact writeCap h
  | PWR_CEIL => exact writeCeil h
  | PWR_DIE_CMD => exact writeDieCmd h
  | THM_CTL => exact writeThm h
  | BUP_RST =>
    have h1 := via h (exec_coldResetCmd (v := v) h)
    exact via h1 (exec_warmResetCmd h1)
  | BUP_RCV_GO => exact via (tick h) (exec_imagePush (tick h))
  | CFG_CTL => exact via h (exec_levelWrite h)
  | CFG_LOAD_GO => exact via (tick h) (exec_imageLoad (tick h))
  | CFG_SPAN_CMD => exact writeSpanCmd h
  | CFG_DB => exact via h (exec_doorbell h)
  | CFG_COMMIT => exact via h (exec_pairCommit h)
  | CFG_SHADOW_CLR => exact via h (exec_shadowClear h)
  | CFG_PAIR_ABANDON => exact via h (exec_pairAbandon h)
  | SEC_KNOT_GO =>
    have h1 := via h (exec_keyEnrol (v := v) h)
    exact via h1 (exec_keyRevoke h1)
  | SEC_ATT_GO => exact via h (exec_attestHost h)
  | ICU_SRC => exact writeSrc h
  | ICU_TMASK => exact presentAll (plainWrite h)
  | ICU_COAL => exact presentAll (plainWrite h)
  | ICU_TCTL => exact presentAll (plainWrite h)
  | ICU_WAKE => exact presentAll (plainWrite h)
  | ICU_TSTAT => exact ite (tgtUpd h) h
  | ICU_TGT => exact ite h (plainWrite h)
  | ICU_EOI => exact via h (exec_eoi h)
  | ICU_SWI => exact via h (exec_softwareInterrupt h)
  | TKT_CLS => exact writeClass h
  | TKT_QTHR => exact writeQthr h
  | MEM_PATCH_CTL => exact viaLog h exec_patchRelease
  | MEM_FENCE_MACRO => exact viaLog h exec_macroFence
  | MEM_RETIRE_CMD => exact viaLog h exec_pageRetire
  | MEM_FLIP_CTL => exact via h (exec_flipArm h)
  | MEM_SCRUB_GO =>
    have h1 := ite (p := F.MEM_SCRUB_GO_STOP.get v = 1) (via h (exec_scrubStop h)) h
    exact ite (via h1 (exec_scrubStart h1)) h1
  | SBF_PL_CTL => exact writePlace h
  | SBF_PROMO_CMD =>
    unfold State.writeReg
    dsimp only
    split
    · exact via h (exec_promoPromote h)
    · exact via h (exec_promoDemote h)
    · exact h
  | BRG_WR => exact via h (exec_brgWriteIndex h)
  | BRG_CTL => exact writeBrg h
  | GEN_CTL => exact writeGen h
  | GEN_SEQ => exact ite (via h (exec_seqActivate h)) (via h (exec_seqDeactivate h))
  | GEN_SAMP => exact via h (exec_sampStageWrite h)
  | GEN_SAMP_GO => exact via h (exec_sampGo h)
  | GEN_HIST => exact via h (exec_histAppend h)
  | GEN_ORING_RD => exact via h (exec_oringReadAdvance h)
  | CWY_CTL => exact writeCwy h
  | CDI_CTL => exact via h (exec_edgeSelWrite h)
  | CDI_ROW_SUBST => exact via (tick h) (exec_rowSubst (tick h))
  | ENG_CTL => exact viaLog h exec_engFence
  | RTV_RE_FENCE => exact viaLog h exec_reFence
  | RTV_RRD => exact via h (exec_resultReadAdvance h)
  | FLC_THR_DATA => exact via h (exec_thresholdWrite h)
  | FLC_RAW_CMD => exact writeRaw h
  | FLC_FMT => exact ite (via h (exec_format h)) h
  | FLC_ZONE_CMD => exact writeZone h
  | FLC_EVT => exact writeLevelEvt h
  | LNK_EVT => exact writeLevelEvt h
  | LNK_PCTL => exact writePort h
  | LNK_RESCAN => exact ite (via h (exec_rescan h)) h
  | HBR_CTL => exact ite (emit (plainWrite h)) (plainWrite h)
  | TEL_SNAP =>
    unfold State.writeReg
    dsimp only
    split
    · exact via h (exec_snapshotDevice h)
    · exact via h (exec_snapshotGroup h)
    · exact h
  | TEL_RING_BASE => exact ite h (plainWrite h)
  | TEL_RING_LEN => exact ite h (plainWrite h)
  | TEL_RING_CTL => exact writeRing h
  | TEL_RING_RD => exact via h (exec_telRingReadAdvance h)
  | TEL_HIST_SEL =>
    unfold State.writeReg
    exact via h (exec_histSelect h)
  | LDP_ACCESS => exact ite h (plainWrite h)
  | LDP_MBOX_IN => exact ite (ldpEvt (rset h)) h
  | LDP_MBOX_OUT => exact ite h (alertBit (rset h))
  | LDP_CRASH_CLR => exact ite (with_ldp h) h
  | TST_CTL =>
    have h1 := ite (p := F.TST_CTL_ENTER.get v = 1) (via h (exec_fieldTestEnter h)) h
    exact ite (viaLog h1 exec_fieldTestExit) h1
  | _ => exact hother rfl

/-! #### Reads -/

theorem clearMem {r} (h : s.mem.Canon) : (s.clearMem r).mem.Canon := by
  unfold State.clearMem
  dsimp only
  split
  · exact ite h h
  · exact ite h h
  · exact ite h h
  · exact ite h h
  · exact h
  · exact h
  · exact h

theorem clearRc {r} (h : s.mem.Canon) : (s.clearRc r).mem.Canon := by
  unfold State.clearRc
  split
  · exact clearMem h
  · exact clearMem h
  · exact clearMem h
  · exact clearMem h
  · exact clearMem h
  · exact clearMem h
  · exact clearMem h
  · exact ite h h
  · exact h
  · exact h
  · exact dirUpd h
  · exact tick h
  · exact ite h (rset h)

theorem readReg {r} (h : s.mem.Canon) : (s.readReg r).1.mem.Canon := by
  unfold State.readReg
  refine iteOver h ?_
  split
  · exact claimBy h
  · exact via h (exec_eventRingPop h)
  · exact clearRc h

/-! #### Accesses -/

theorem regWriteAt {a ticket off v} (h : s.mem.Canon) : (s.regWriteAt a ticket off v).mem.Canon := by
  unfold State.regWriteAt
  split
  · exact ite h (writeReg h)
  · exact h

theorem regReadAt {off} (h : s.mem.Canon) : (s.regReadAt off).1.mem.Canon := by
  unfold State.regReadAt
  refine iteOver ?_ ?_
  · split
    · exact h
    · exact h
  · split
    · exact readReg h
    · exact h

theorem exec_registerWrite {a off size v} (h : s.mem.Canon) : Res.Canon (execRegisterWrite a off size v s) :=
  .ite (reply (regWriteAt h)) (reply h)

theorem exec_clearByRead {a off size} (h : s.mem.Canon) : Res.Canon (execClearByRead a off size s) := .ite (reply (regReadAt h)) (reply h)

/-! ### The meanings of the frames that arrive on a Wealey port -/

/-! #### Arrival -/

theorem arrive {p f} {serve : State → State} (h : s.mem.Canon) (hs : ∀ {t : State}, t.mem.Canon → (serve t).mem.Canon) :
    Res.Canon (s.arrive p f serve) := by
  unfold State.arrive
  refine .ite h (.ite (via h (exec_codewordReceive h)) ?_)
  extract_lets t
  have h1 : t.mem.Canon := slicesFreed h
  exact .ite (frameLost h1) (.ite (frameOut h1) (hs h1))

theorem ingressGo {p f write} (h : s.mem.Canon) : (s.ingressGo p f write).mem.Canon := by
  unfold State.ingressGo
  exact request (with_grp (tick (tick (tick h))))

/-! #### Requests -/

theorem serveWriteFrame {p f} (h : s.mem.Canon) : (s.serveWriteFrame p f).mem.Canon := by
  unfold State.serveWriteFrame
  refine ite (ite (respond (hostOut h)) (respond h)) (ite (respond h) ?_)
  split
  · exact ite (respond (regWriteAt h)) (respond h)
  · exact ingressGo h

theorem exec_wealeyWrite {p f} (h : s.mem.Canon) : Res.Canon (execWealeyWrite p f s) := by
  unfold execWealeyWrite
  exact arrive h serveWriteFrame

theorem serveReadFrame {p f} (h : s.mem.Canon) : (s.serveReadFrame p f).mem.Canon := by
  unfold State.serveReadFrame
  refine ite (ite (emit (tlpTx h)) (respond h)) ?_
  split
  · exact ite (respond (regReadAt h)) (respond h)
  · exact ingressGo h

theorem exec_wealeyRead {p f} (h : s.mem.Canon) : Res.Canon (execWealeyRead p f s) := by
  unfold execWealeyRead
  exact arrive h serveReadFrame

theorem ewrite {p f u} (h : s.mem.Canon) (e : s.ewrite p f = some u) : u.1.mem.Canon := by
  unfold State.ewrite at e
  extract_lets q x at e
  split at e
  · cases e
  · rename_i e1
    cases e
    refine foldOver_of_eq (g := Prod.fst) (routeCross (mcastPrune h) e1) fun h e => ?_
    split at e
    · rename_i e1
      cases e
      exact settle ((lay h).ok e1)
    · rename_i e1
      cases e
      exact settle ((lay h).fault e1)
    · cases e
      exact h

theorem exec_wealeyEwrite {p f} (h : s.mem.Canon) : Res.Canon (execWealeyEwrite p f s) := by
  unfold execWealeyEwrite
  refine arrive h fun {t} ht => ?_
  split
  · rename_i e
    exact respond (ewrite ht e)
  · exact h

/-! #### Responses -/

theorem exec_wealeyRdata {p f} (h : s.mem.Canon) : Res.Canon (execWealeyRdata p f s) := by
  unfold execWealeyRdata
  exact arrive h fun h => ite (tagDone h) h

theorem exec_wealeyCpl {p f} (h : s.mem.Canon) : Res.Canon (execWealeyCpl p f s) := by
  unfold execWealeyCpl
  exact arrive h fun h => ite (tagDone h) h

/-! ### The meanings of the host bridge's commands -/

/-! #### Functions -/

theorem fnUpd {fn f} (h : s.mem.Canon) : (s.fnUpd fn f).mem.Canon := h

theorem fnFlush {fn} (h : s.mem.Canon) : (s.fnFlush fn).mem.Canon := ite h (sendHeld (foldl h fun h => msixOut (fnUpd h)))

theorem exec_hostConfigRequest {fn q} (h : s.mem.Canon) : Res.Canon (execHostConfigRequest fn q s) := by
  unfold execHostConfigRequest
  refine .ite h ?_
  extract_lets s1
  have h1 : s1.mem.Canon := tlpTx (tlpRx h)
  refine .ite (reply h1) ?_
  split
  · exact reply (tick h1)
  · exact reply (fnFlush (fnUpd h1))
  · exact reply (fnFlush (fnUpd h1))
  · exact reply (fnUpd h1)

/-! #### Reads -/

theorem hostReadMem {fn tag a len} (h : s.mem.Canon) : (s.hostReadMem fn tag a len).mem.Canon := by
  unfold State.hostReadMem
  extract_lets dev l q s1 _ ls r
  have h1 : s1.mem.Canon := tick (tick (tick h))
  have hr : r.1.mem.Canon := foldOver (g := Prod.fst) h fun h => requestOut h
  refine ite (ite (hostUnsupported h) ?_) (ite (hostAbort h) (with_grp hr))
  split
  · exact ite (hostData (regReadAt h)) (hostAbort h)
  · exact ite (hostAbort h) (request (with_grp h1))

theorem exec_hostRead {fn bar off len tag} (h : s.mem.Canon) : Res.Canon (execHostRead fn bar off len tag s) := by
  unfold execHostRead
  refine .ite h ?_
  dsimp only
  refine .ite (hostUnsupported (tlpRx h)) ?_
  split
  · exact .ite (hostData (regReadAt (tlpRx h))) (hostAbort (tlpRx h))
  · exact hostReadMem (tlpRx h)
  · exact .ite (hostUnsupported (tlpRx h)) (hostData (tlpRx h))
  · exact hostUnsupported (bset (tlpRx h))
  · exact hostUnsupported (tlpRx h)

/-! #### Writes -/

theorem hostReg {fn off data ep} (h : s.mem.Canon) : (s.hostReg fn off data ep).mem.Canon :=
  ite (hostDrop h) (ite (hostDoorbell h) (regWriteAt h))

theorem hostWriteMem {fn a data ep} (h : s.mem.Canon) : (s.hostWriteMem fn a data ep).mem.Canon := by
  unfold State.hostWriteMem
  extract_lets dev l pois
  refine ite (ite (hbrErr h) ?own) (ite (hostDrop h) (ite (hostDoorbell h) (with_grp (transferOut h))))
  split
  · exact hostReg h
  · exact ite (hostDrop h) (request (tick (tick (tick h))))

theorem exec_hostWrite {fn bar off data ep} (h : s.mem.Canon) : Res.Canon (execHostWrite fn bar off data ep s) := by
  unfold execHostWrite
  refine .ite h ?_
  extract_lets s1 s2
  have h1 : s1.mem.Canon := reply (tlpRx h)
  have h2 : s2.mem.Canon := ite (hbrErr h1) h1
  refine .ite (hbrErr h1) ?_
  split
  · exact hostReg h2
  · exact hostWriteMem h2
  · exact .ite (hbrErr h2) (hostReg h2)
  · exact hbrErr h2
  · exact hbrErr h2

/-! #### The link, resets, completions -/

theorem exec_hostLinkChange {rate width flit up} (h : s.mem.Canon) : Res.Canon (execHostLinkChange rate width flit up s) :=
  .ite h (raise (bset (bset (bset (fset (fset h))))))

theorem exec_hostLinkRetrain (h : s.mem.Canon) : Res.Canon (execHostLinkRetrain s) := .ite (emit h) h

theorem exec_flr {fn} (h : s.mem.Canon) : Res.Canon (execFlr fn s) := .ite h (raise (fnUpd h))

theorem exec_perst (h : s.mem.Canon) : Res.Canon (execPerst s) :=
  .ite h (raise (rset (ite (raise (foldl h fun h => respond h)) (foldl h fun h => respond h))))

theorem exec_perstDeassert (h : s.mem.Canon) : Res.Canon (execPerstDeassert s) := .ite (endpoint h) h

theorem exec_hostReadCompletion {d tag data} (h : s.mem.Canon) : Res.Canon (execHostReadCompletion d tag data s) := by
  unfold execHostReadCompletion
  split
  · exact h
  · dsimp only
    split
    · exact .ite (respond (tlpRx h)) (respond (tlpRx h))
    · exact respond (tlpRx h)

/-! ### The meanings of the landing port's commands -/

/-! #### Requests -/

theorem vendor {cmd result payload} (h : s.mem.Canon) : (s.vendor cmd result payload).mem.Canon :=
  ite (cnt (reply h)) (ite (ldpEvt (fset (cnt (reply h)))) (reply h))

theorem request442 {cmd} {f : State → State} (h : s.mem.Canon) (hf : (f s).mem.Canon) : Res.Canon (s.request442 cmd f) :=
  .ite (reply h) (.ite (vendor h) hf)

theorem control440 {f : State → State × List Byte} (h : s.mem.Canon) (hf : (f s).1.mem.Canon) : Res.Canon (s.control440 f) :=
  .ite (reply h) (reply hf)

/-! #### MCTP control messages (R440) -/

theorem exec_setEndpointId {eid} (h : s.mem.Canon) : Res.Canon (execSetEndpointId eid s) := control440 h (iteOver h (fset h))

theorem exec_getEndpointId (h : s.mem.Canon) : Res.Canon (execGetEndpointId s) := control440 h h

theorem exec_getMctpVersionSupport (h : s.mem.Canon) : Res.Canon (execGetMctpVersionSupport s) := control440 h (tick h)

theorem exec_getMessageTypeSupport (h : s.mem.Canon) : Res.Canon (execGetMessageTypeSupport s) := control440 h h

theorem exec_getVendorDefinedMsgSupport (h : s.mem.Canon) : Res.Canon (execGetVendorDefinedMsgSupport s) := control440 h (tick h)

/-! #### Information, registers, log -/

theorem exec_getInfo (h : s.mem.Canon) : Res.Canon (execGetInfo s) := request442 h (vendor h)

theorem ldpRead {n off} (h : s.mem.Canon) : (State.ldpRead n off s).1.mem.Canon := by
  induction n generalizing s off with
  | zero => exact h
  | succ n ih => exact iteOver h (ih (regReadAt h))

theorem exec_regRead {addr count} (h : s.mem.Canon) : Res.Canon (execRegRead addr count s) :=
  request442 h (ite (vendor h) (vendor (ldpRead h)))

theorem ldpWrite {l off done} (h : s.mem.Canon) : (State.ldpWrite l off done s).1.mem.Canon := by
  induction l generalizing s off done with
  | nil => exact h
  | cons v l ih => exact iteOver h (iteOver (regWriteAt h) (ih (regWriteAt h)))

theorem exec_regWrite {addr count words} (h : s.mem.Canon) : Res.Canon (execRegWrite addr count words s) := by
  unfold execRegWrite
  refine request442 h (ite (vendor h) ?_)
  extract_lets r
  have hr : r.1.mem.Canon := ldpWrite h
  split
  · exact vendor hr
  · exact reply hr

theorem exec_logRead {index} (h : s.mem.Canon) : Res.Canon (execLogRead index s) := request442 h (vendor h)

/-! #### Crash capture, mailboxes, alert -/

theorem crashZero (h : s.mem.Canon) : s.crashZero.mem.Canon := h

theorem exec_crashRead {off} (h : s.mem.Canon) : Res.Canon (execCrashRead off s) := request442 h (ite (vendor h) (vendor h))

theorem exec_crashClear (h : s.mem.Canon) : Res.Canon (execCrashClear s) := request442 h (vendor (crashZero h))

theorem exec_crashClrWrite {v} (h : s.mem.Canon) : Res.Canon (execCrashClrWrite v s) := .ite (crashZero h) h

theorem exec_mboxInWrite {v} (h : s.mem.Canon) : Res.Canon (execMboxInWrite v s) := writeReg h

theorem exec_mboxOutWrite {v} (h : s.mem.Canon) : Res.Canon (execMboxOutWrite v s) := writeReg h

theorem exec_araRead (h : s.mem.Canon) : Res.Canon (execAraRead s) := .ite (reply h) (reply h)

theorem exec_alertReassert (h : s.mem.Canon) : Res.Canon (execAlertReassert s) := .ite h h

/-! #### Reset and power (R447) -/

theorem controlled {cmd key} {f : State → State} (h : s.mem.Canon) (hf : (f s).mem.Canon) : (s.controlled cmd key f).mem.Canon :=
  ite (vendor h) (ite (vendor h) (ite (vendor h) hf))

theorem startMain {cmd vin} (h : s.mem.Canon) : (s.startMain cmd vin).mem.Canon := ite (vendor h) (vendor h)

theorem exec_ldpResetCold {key} (h : s.mem.Canon) : Res.Canon (execLdpResetCold key s) :=
  request442 h (controlled h (ite (startMain (tick h)) (resetFrom (vendor h))))

theorem exec_ldpResetWarm {key} (h : s.mem.Canon) : Res.Canon (execLdpResetWarm key s) :=
  request442 h (ite (vendor h) (controlled h (resetFrom (vendor h))))

theorem exec_powerStandby (h : s.mem.Canon) : Res.Canon (execPowerStandby s) :=
  request442 h (ite (vendor h) (controlled h (vendor (via h (exec_standbyEnter h)))))

theorem exec_powerRun (h : s.mem.Canon) : Res.Canon (execPowerRun s) :=
  request442 h (ite (vendor h) (controlled h (vendor (ferryWake h))))

theorem exec_powerOffAon (h : s.mem.Canon) : Res.Canon (execPowerOffAon s) :=
  request442 h (ite (vendor h) (controlled h (vendor (via h (exec_offAon h)))))

theorem exec_powerStartMain {vin} (h : s.mem.Canon) : Res.Canon (execPowerStartMain vin s) :=
  request442 h (ite (vendor h) (controlled h (startMain h)))

/-! #### The shared buffer and images (R442, R448) -/

theorem exec_bufWrite {off data} (h : s.mem.Canon) : Res.Canon (execBufWrite off data s) := by
  unfold execBufWrite
  refine request442 h (ite (vendor h) (ite (vendor h) (ite (vendor h) ?_)))
  extract_lets w
  have hw : w.st.mem.Canon := writeAt h
  split
  · exact vendor (settle hw)
  · exact vendor (settle (dropped hw))
  · exact vendor (settle hw)

theorem exec_bufRead {off bytes} (h : s.mem.Canon) : Res.Canon (execBufRead off bytes s) :=
  request442 h (ite (vendor h) (ite (vendor h) (ite (vendor h) (ite (vendor (hubRead h)) (vendor (hubRead h))))))

theorem exec_imgPush {len program f} (h : s.mem.Canon) : Res.Canon (execImgPush len program f s) := by
  have h1 {l} : (({ s with ldp := l } : State).rset .BUP_RCV_LEN len).mem.Canon := rset (with_ldp h)
  exact request442 h (ite (vendor h) (ite (vendor h) (ite (vendor h) (via h1 (exec_imagePush h1)))))

/-! #### Attestation (R465) -/

theorem exec_attestSign {nonce} (h : s.mem.Canon) : Res.Canon (execAttestSign nonce s) :=
  request442 h (ite (vendor h) (ite (vendor h) (reply (with_sec h))))

theorem attestPart {obj off n} (h : s.mem.Canon) : (s.attestPart obj off n).mem.Canon := ite (vendor h) (vendor h)

theorem exec_attestReadReport {off bytes} (h : s.mem.Canon) : Res.Canon (execAttestReadReport off bytes s) := by
  unfold execAttestReadReport
  refine request442 h (ite (vendor h) ?_)
  split
  · exact vendor h
  · exact attestPart h

theorem exec_attestReadCert {off bytes} (h : s.mem.Canon) : Res.Canon (execAttestReadCert off bytes s) :=
  request442 h (ite (vendor h) (attestPart h))

/-! ### The meanings of the test access port's commands -/

theorem tapIr {ir} (h : s.mem.Canon) : (s.tapIr ir).mem.Canon := h

theorem tapOut {v} (h : s.mem.Canon) : (s.tapOut v).mem.Canon := emit h

theorem tstEvt {f} (h : s.mem.Canon) : (s.tstEvt f).mem.Canon := ite h (bset h)

theorem exec_tapReset (h : s.mem.Canon) : Res.Canon (execTapReset s) := h

theorem exec_tapIdcode (h : s.mem.Canon) : Res.Canon (execTapIdcode s) := foldl (tapIr h) fun h => tapOut h

theorem exec_tapSamplePreload {pins load_} (h : s.mem.Canon) : Res.Canon (execTapSamplePreload pins load_ s) := tapOut h

theorem tapTest {ir} (h : s.mem.Canon) : (s.tapTest ir).mem.Canon := ite (tapIr h) (tstEvt (tapIr h))

theorem exec_tapExtest (h : s.mem.Canon) : Res.Canon (execTapExtest s) := tapTest h

theorem exec_tapClamp (h : s.mem.Canon) : Res.Canon (execTapClamp s) := tapTest h

theorem exec_tapHighz (h : s.mem.Canon) : Res.Canon (execTapHighz s) := tapTest h

theorem exec_tapDiesel {v} (h : s.mem.Canon) : Res.Canon (execTapDiesel v s) := tapOut h

theorem exec_tapIjtag {pos write v} (h : s.mem.Canon) : Res.Canon (execTapIjtag pos write v s) :=
  .ite (tapOut (tapIr h)) (.ite (tapOut (tapIr h)) (.ite (with_tap (tapIr h)) (tstEvt (tapIr h))))

theorem exec_tapRegacc {w} (h : s.mem.Canon) : Res.Canon (execTapRegacc w s) :=
  .ite (reply (tapIr h)) (.ite (reply (regWriteAt (tapIr h))) (tapOut (reply (regReadAt (tapIr h)))))

theorem exec_tapBypass (h : s.mem.Canon) : Res.Canon (execTapBypass s) := tapIr h

theorem exec {i : Instr} (h : s.mem.Canon) : Res.Canon (Machine.exec i s) :=
  match i with
  | .registerWrite .. => exec_registerWrite h
  | .nop .. => exec_nop h
  | .matmul .. => exec_matmul h
  | .attnPaged .. => exec_attnPaged h
  | .moeGate .. => exec_moeGate h
  | .moeDispatch .. => exec_moeDispatch h
  | .moeGather .. => exec_moeGather h
  | .normRms .. => exec_normRms h
  | .normLayer .. => exec_normLayer h
  | .embedGather .. => exec_embedGather h
  | .vec .. => exec_vec h
  | .sfu .. => exec_sfu h
  | .reduce .. => exec_reduce h
  | .transpose .. => exec_transpose h
  | .rerankScore .. => exec_rerankScore h
  | .topk .. => exec_topk h
  | .send .. => exec_send h
  | .logitsOut .. => exec_logitsOut h
  | .tokenIn .. => exec_tokenIn h
  | .sync .. => exec_sync h
  | .endTask .. => exec_endTask h
  | .stepStart .. => exec_stepStart h
  | .gangDataReturn .. => exec_gangDataReturn h
  | .engineIssueCycle .. => exec_engineIssueCycle h
  | .syncSignal .. => exec_syncSignal h
  | .codebookWrite .. => exec_codebookWrite h
  | .heldCodebookWrite .. => exec_heldCodebookWrite h
  | .seqActivate .. => exec_seqActivate h
  | .seqDeactivate .. => exec_seqDeactivate h
  | .sampStageWrite .. => exec_sampStageWrite h
  | .sampGo .. => exec_sampGo h
  | .histAppend .. => exec_histAppend h
  | .tokenChoose .. => exec_tokenChoose h
  | .oringAdvance .. => exec_oringAdvance h
  | .oringReadAdvance .. => exec_oringReadAdvance h
  | .grammarMaskDone .. => exec_grammarMaskDone h
  | .heartbeatCheck .. => exec_heartbeatCheck h
  | .engFence .. => exec_engFence h
  | .controlParityError .. => exec_controlParityError h
  | .powerGateFault .. => exec_powerGateFault h
  | .rowSubst .. => exec_rowSubst h
  | .substPortBind .. => exec_substPortBind h
  | .edgeSelWrite .. => exec_edgeSelWrite h
  | .edgeSelApply .. => exec_edgeSelApply h
  | .mcastDeliver .. => exec_mcastDeliver h
  | .barrierArrive .. => exec_barrierArrive h
  | .barrierRelease .. => exec_barrierRelease h
  | .seamStallAlert .. => exec_seamStallAlert h
  | .stepChangeApply .. => exec_stepChangeApply h
  | .spanStart .. => exec_spanStart h
  | .spanStop .. => exec_spanStop h
  | .spanDrain .. => exec_spanDrain h
  | .spanSnapshot .. => exec_spanSnapshot h
  | .spanClear .. => exec_spanClear h
  | .spanUnload .. => exec_spanUnload h
  | .spanQuiet .. => exec_spanQuiet h
  | .doorbell .. => exec_doorbell h
  | .eventRingPop .. => exec_eventRingPop h
  | .imageLoad .. => exec_imageLoad h
  | .rwpWrite .. => exec_rwpWrite h
  | .pairCommit .. => exec_pairCommit h
  | .shadowClear .. => exec_shadowClear h
  | .pairAbandon .. => exec_pairAbandon h
  | .levelWrite .. => exec_levelWrite h
  | .prepareReceive .. => exec_prepareReceive h
  | .modeAckReceive .. => exec_modeAckReceive h
  | .commitReceive .. => exec_commitReceive h
  | .modeApply .. => exec_modeApply h
  | .abortReceive .. => exec_abortReceive h
  | .memoryRead .. => exec_memoryRead h
  | .memoryWrite .. => exec_memoryWrite h
  | .stackFence .. => exec_stackFence h
  | .brgWriteIndex .. => exec_brgWriteIndex h
  | .descriptorStart .. => exec_descriptorStart h
  | .descriptorComplete .. => exec_descriptorComplete h
  | .brgResume .. => exec_brgResume h
  | .brgSkip .. => exec_brgSkip h
  | .brgAbort .. => exec_brgAbort h
  | .promoteCopyDone .. => exec_promoteCopyDone h
  | .patchRelease .. => exec_patchRelease h
  | .macroFence .. => exec_macroFence h
  | .macroFenceApply .. => exec_macroFenceApply h
  | .pageRetire .. => exec_pageRetire h
  | .flipArm .. => exec_flipArm h
  | .scrubStart .. => exec_scrubStart h
  | .scrubDone .. => exec_scrubDone h
  | .ticketAvgUpdate .. => exec_ticketAvgUpdate h
  | .throttleReceive _ _ band _ => exec_throttleReceive (band := band) h
  | .queueLevelReceive .. => exec_queueLevelReceive h
  | .leakRelease .. => exec_leakRelease h
  | .missWindowEnd .. => exec_missWindowEnd h
  | .flashRead .. => exec_flashRead h
  | .pageReadDone .. => exec_pageReadDone h
  | .probeIssue .. => exec_probeIssue h
  | .probeResult .. => exec_probeResult h
  | .readDisturbPatrol .. => exec_readDisturbPatrol h
  | .flashProgram .. => exec_flashProgram h
  | .programStatus .. => exec_programStatus h
  | .eraseStatus .. => exec_eraseStatus h
  | .relocationSwitch .. => exec_relocationSwitch h
  | .lunTimeout .. => exec_lunTimeout h
  | .zqCalibration .. => exec_zqCalibration h
  | .zoneOpen .. => exec_zoneOpen h
  | .zoneAppend .. => exec_zoneAppend h
  | .appendComplete .. => exec_appendComplete h
  | .format .. => exec_format h
  | .formatDone .. => exec_formatDone h
  | .mount .. => exec_mount h
  | .mountDone .. => exec_mountDone h
  | .rawReadPage .. => exec_rawReadPage h
  | .rawProgramPage .. => exec_rawProgramPage h
  | .rawEraseBlock .. => exec_rawEraseBlock h
  | .rawReadStatus .. => exec_rawReadStatus h
  | .rawGetFeatures .. => exec_rawGetFeatures h
  | .rawSetFeatures .. => exec_rawSetFeatures h
  | .rawReadId .. => exec_rawReadId h
  | .rawReadParameterPage .. => exec_rawReadParameterPage h
  | .rawResetLun .. => exec_rawResetLun h
  | .thresholdWrite .. => exec_thresholdWrite h
  | .queryAdmit .. => exec_queryAdmit h
  | .unitDelivered .. => exec_unitDelivered h
  | .walkRound .. => exec_walkRound h
  | .queryEnd .. => exec_queryEnd h
  | .queryFail .. => exec_queryFail h
  | .resultHeaderWrite .. => exec_resultHeaderWrite h
  | .forwardStart .. => exec_forwardStart h
  | .forwardDoorbell .. => exec_forwardDoorbell h
  | .forwardFree .. => exec_forwardFree h
  | .reFence .. => exec_reFence h
  | .resultReadAdvance .. => exec_resultReadAdvance h
  | .flitReceive .. => exec_flitReceive h
  | .dnakReceive .. => exec_dnakReceive h
  | .chainFrameReceive .. => exec_chainFrameReceive h
  | .bundleRetrain .. => exec_bundleRetrain h
  | .retrainDone .. => exec_retrainDone h
  | .bundleRetire .. => exec_bundleRetire h
  | .clockPairLost .. => exec_clockPairLost h
  | .discReceive .. => exec_discReceive h
  | .codewordReceive .. => exec_codewordReceive h
  | .controlSliceReceive .. => exec_controlSliceReceive h
  | .chainEntryReceive .. => exec_chainEntryReceive h
  | .helloReceive _ _ _ _ _ _ _ gen => exec_helloReceive (gen := gen) h
  | .enumReceive .. => exec_enumReceive h
  | .routeReceive .. => exec_routeReceive h
  | .linkstateReceive _ _ _ _ _ gen => exec_linkstateReceive (gen := gen) h
  | .lostReceive _ isolated gen => exec_lostReceive (isolated := isolated) (gen := gen) h
  | .wealeyWrite .. => exec_wealeyWrite h
  | .wealeyRead .. => exec_wealeyRead h
  | .wealeyRdata .. => exec_wealeyRdata h
  | .wealeyCpl .. => exec_wealeyCpl h
  | .wealeyEwrite .. => exec_wealeyEwrite h
  | .frameSend .. => exec_frameSend h
  | .portSignalDetect .. => exec_portSignalDetect h
  | .detectRetry .. => exec_detectRetry h
  | .trainLock .. => exec_trainLock h
  | .trainTimeout .. => exec_trainTimeout h
  | .checkPass .. => exec_checkPass h
  | .portSignalLost .. => exec_portSignalLost h
  | .portRetrain .. => exec_portRetrain h
  | .portRetrainWrite .. => exec_portRetrainWrite h
  | .portRetrainDone .. => exec_portRetrainDone h
  | .portRetrainTimeout .. => exec_portRetrainTimeout h
  | .portDisable .. => exec_portDisable h
  | .portEnable .. => exec_portEnable h
  | .deviceLost .. => exec_deviceLost h
  | .hostConfigRequest .. => exec_hostConfigRequest h
  | .hostRead .. => exec_hostRead h
  | .hostWrite .. => exec_hostWrite h
  | .hostLinkChange .. => exec_hostLinkChange h
  | .flr .. => exec_flr h
  | .hostReadCompletion .. => exec_hostReadCompletion h
  | .powerInterval .. => exec_powerInterval h
  | .diodeRead .. => exec_diodeRead h
  | .avsInterval .. => exec_avsInterval h
  | .stepRampDone .. => exec_stepRampDone h
  | .regulatorReport .. => exec_regulatorReport h
  | .railFault .. => exec_railFault h
  | .clockStretch domain _ => exec_clockStretch (domain := domain) h
  | .siteIdle .. => exec_siteIdle h
  | .dieDoze .. => exec_dieDoze h
  | .dieWake .. => exec_dieWake h
  | .dozeExitDone .. => exec_dozeExitDone h
  | .dozeEntryDone .. => exec_dozeEntryDone h
  | .powerOnReset .. => exec_powerOnReset h
  | .sysReset .. => exec_sysReset h
  | .coldResetCmd .. => exec_coldResetCmd h
  | .warmResetCmd .. => exec_warmResetCmd h
  | .coldStart .. => exec_coldStart h
  | .computeWave .. => exec_computeWave h
  | .warmStart .. => exec_warmStart h
  | .imagePush .. => exec_imagePush h
  | .imagePushProgram .. => exec_imagePushProgram h
  | .sourceEvent .. => exec_sourceEvent h
  | .levelLineRise .. => exec_levelLineRise h
  | .coalWindowExpire .. => exec_coalWindowExpire h
  | .claim .. => exec_claim h
  | .eoi .. => exec_eoi h
  | .softwareInterrupt .. => exec_softwareInterrupt h
  | .ferrymanWake .. => exec_ferrymanWake h
  | .ferryTimer .. => exec_ferryTimer h
  | .snapshotMarker .. => exec_snapshotMarker h
  | .waveStatusReceive .. => exec_waveStatusReceive h
  | .telRingReadAdvance .. => exec_telRingReadAdvance h
  | .histSelect .. => exec_histSelect h
  | .setEndpointId .. => exec_setEndpointId h
  | .regRead .. => exec_regRead h
  | .regWrite .. => exec_regWrite h
  | .logRead .. => exec_logRead h
  | .crashRead .. => exec_crashRead h
  | .ldpResetCold .. => exec_ldpResetCold h
  | .ldpResetWarm .. => exec_ldpResetWarm h
  | .powerStartMain .. => exec_powerStartMain h
  | .bufWrite .. => exec_bufWrite h
  | .bufRead .. => exec_bufRead h
  | .imgPush .. => exec_imgPush h
  | .attestSign .. => exec_attestSign h
  | .attestReadReport .. => exec_attestReadReport h
  | .attestReadCert .. => exec_attestReadCert h
  | .crashClrWrite .. => exec_crashClrWrite h
  | .mboxInWrite .. => exec_mboxInWrite h
  | .mboxOutWrite .. => exec_mboxOutWrite h
  | .keyEnrol .. => exec_keyEnrol h
  | .keyRevoke .. => exec_keyRevoke h
  | .keyNoticeDone .. => exec_keyNoticeDone h
  | .attestHost .. => exec_attestHost h
  | .attestDone .. => exec_attestDone h
  | .tapSamplePreload .. => exec_tapSamplePreload h
  | .tapDiesel .. => exec_tapDiesel h
  | .tapIjtag .. => exec_tapIjtag h
  | .tapRegacc .. => exec_tapRegacc h
  | .interconnectTestDone .. => exec_interconnectTestDone h
  | .fieldTestExit .. => exec_fieldTestExit h
  | .clearByRead a _ _ => exec_clearByRead (a := a) h
  | .aonRstNRelease .. => exec_aonRstNRelease h
  | .hubFault => exec_hubFault h
  | .samplerReseed => exec_samplerReseed h
  | .imageLoaded => exec_imageLoaded h
  | .modeAckTimeout => exec_modeAckTimeout h
  | .groupModeTimeout => exec_groupModeTimeout h
  | .placeEpochEnd => exec_placeEpochEnd h
  | .promoPromote => exec_promoPromote h
  | .promoDemote => exec_promoDemote h
  | .scrubStop => exec_scrubStop h
  | .patrolTimer => exec_patrolTimer h
  | .ledgerCheckpoint => exec_ledgerCheckpoint h
  | .zoneFinish => exec_zoneFinish h
  | .zoneFree => exec_zoneFree h
  | .zoneQuery => exec_zoneQuery h
  | .discoveryEnd => exec_discoveryEnd h
  | .rescan => exec_rescan h
  | .frameExpire => exec_frameExpire h
  | .deviceIsolated => exec_deviceIsolated h
  | .hostLinkRetrain => exec_hostLinkRetrain h
  | .perst => exec_perst h
  | .refclkLost => exec_refclkLost h
  | .pllLockLost => exec_pllLockLost h
  | .thermtripRelease => exec_thermtripRelease h
  | .standbyEnter => exec_standbyEnter h
  | .standbyExit => exec_standbyExit h
  | .standbyExitDone => exec_standbyExitDone h
  | .offAon => exec_offAon h
  | .vinLow => exec_vinLow h
  | .vinCritical => exec_vinCritical h
  | .vaonLow => exec_vaonLow h
  | .vnandLow => exec_vnandLow h
  | .snapshotDevice => exec_snapshotDevice h
  | .snapshotGroup => exec_snapshotGroup h
  | .waveTimeout => exec_waveTimeout h
  | .groupWaveTimeout => exec_groupWaveTimeout h
  | .telSample => exec_telSample h
  | .getEndpointId => exec_getEndpointId h
  | .getMctpVersionSupport => exec_getMctpVersionSupport h
  | .getMessageTypeSupport => exec_getMessageTypeSupport h
  | .getVendorDefinedMsgSupport => exec_getVendorDefinedMsgSupport h
  | .getInfo => exec_getInfo h
  | .crashClear => exec_crashClear h
  | .powerStandby => exec_powerStandby h
  | .powerRun => exec_powerRun h
  | .powerOffAon => exec_powerOffAon h
  | .araRead => exec_araRead h
  | .alertReassert => exec_alertReassert h
  | .tapReset => exec_tapReset h
  | .tapIdcode => exec_tapIdcode h
  | .tapExtest => exec_tapExtest h
  | .tapClamp => exec_tapClamp h
  | .tapHighz => exec_tapHighz h
  | .tapBypass => exec_tapBypass h
  | .fieldTestEnter => exec_fieldTestEnter h
  | .refclkPresent => exec_refclkPresent h
  | .standbyEntryDone => exec_standbyEntryDone h
  | .perstDeassert => exec_perstDeassert h

theorem step {t : State} (h : s.mem.Canon) (e : Machine.step s = .next t) : t.mem.Canon := by
  unfold Machine.step at e
  split at e
  · cases e
    exact idle h
  · rename_i c rest _
    have hnext : Res.Canon (Machine.exec c { s with pending := rest }) := exec h
    rw [e] at hnext
    exact hnext

end

end MemUnit.Canon

/-- Settles O56: every function of the model that a step calls leaves memory's list of cells in canonical form. -/
theorem everyStepKeepsMemoryCanonical : Obligations.EveryStepKeepsMemoryCanonical :=
  fun _ _ h e => MemUnit.Canon.step h e

end Sys2Proof.Machine

namespace Sys2Proof.Machine

/-! PROOFS. Ticket regulation (O15): the averages and steps of tickets at resources (R220 to R222), their misses (R228), and QUEUE_LEVEL
messages (R225); before them, what a change of one ticket or resource, a THROTTLE and a recorded miss do to the state. -/

/-! ### Tickets and resources -/

theorem State.tktAt_tktUpd_same (s : State) (r t : Nat) (f : TktRes → TktRes) :
    (s.tktUpd r t f).tktAt r t = f (s.tktAt r t) := Tab.at_upd_same _ _ _

theorem State.tktAt_tktUpd_other (s : State) {r t q j : Nat} (f : TktRes → TktRes) (h : q * 16 + j ≠ r * 16 + t) :
    (s.tktUpd r t f).tktAt q j = s.tktAt q j := (Tab.at_upd _ _ _ _).trans (if_neg h)

theorem State.resUpd_at_same (s : State) (r : Nat) (f : ResUnit → ResUnit) :
    (s.resUpd r f).tkt.res.at r = f (s.tkt.res.at r) := Tab.at_upd_same _ _ _

theorem State.resUpd_at_other (s : State) {r q : Nat} (f : ResUnit → ResUnit) (h : q ≠ r) :
    (s.resUpd r f).tkt.res.at q = s.tkt.res.at q := (Tab.at_upd _ _ _ _).trans (if_neg h)

theorem resNo_lt (k : Fin 4) (n : Fin 32) : resNo k.val n.val < 73 := by
  unfold resNo
  split_ifs <;> omega

theorem resClass_ne_flash {r : Nat} (h : r < 41) : resClass r ≠ 3 := by
  unfold resClass
  split_ifs <;> decide

/-! ### Steps of a ticket (R221, R222) -/

section
variable {avg target step : Nat}

theorem stepNext_of_noTarget : stepNext avg 0 step = 0 := if_pos rfl

/-- A step rises by one at most. -/
theorem stepNext_le (avg target step : Nat) : stepNext avg target step ≤ step + 1 := by
  unfold stepNext
  split_ifs <;> omega

theorem stepNext_of_up (htarget : target ≠ 0) (hstep : step < 8) (hup : stepUp (step + 1) * target ≤ 4 * avg) :
    stepNext avg target step = step + 1 := by
  rw [stepNext, if_neg htarget, if_pos ⟨hstep, hup⟩]

/-- Below the next threshold, or at the last step, a step does not rise. -/
theorem stepNext_of_not_up (htarget : target ≠ 0) (hno : 8 ≤ step ∨ 4 * avg < stepUp (step + 1) * target) :
    stepNext avg target step = if 0 < step ∧ 4 * avg < (stepUp step - 1) * target then step - 1 else step := by
  rw [stepNext, if_neg htarget, if_neg]
  omega

theorem stepNext_of_down (htarget : target ≠ 0) (hno : 8 ≤ step ∨ 4 * avg < stepUp (step + 1) * target) (hstep : 0 < step)
    (hdown : 4 * avg < (stepUp step - 1) * target) : stepNext avg target step = step - 1 := by
  rw [stepNext_of_not_up htarget hno, if_pos ⟨hstep, hdown⟩]

theorem stepNext_of_stay (htarget : target ≠ 0) (hno : 8 ≤ step ∨ 4 * avg < stepUp (step + 1) * target)
    (hstay : step = 0 ∨ (stepUp step - 1) * target ≤ 4 * avg) : stepNext avg target step = step := by
  rw [stepNext_of_not_up htarget hno, if_neg]
  omega

end

/-- STEP of a ticket at a resource after an update of its average: ticket 0 has none (R217). -/
def State.nextStep (s : State) (r : Nat) (t : Ticket) (avg : Nat) : Nat :=
  if t.val = 0 then 0 else stepNext avg (s.target (resClass r) t.val) (s.tktAt r t.val).step

theorem State.nextStep_le (s : State) (r : Nat) (t : Ticket) (avg : Nat) : s.nextStep r t avg ≤ (s.tktAt r t.val).step + 1 := by
  unfold State.nextStep
  split
  · exact Nat.zero_le _
  · exact stepNext_le _ _ _

theorem State.nextStep_unregulated {s : State} {r : Nat} {t : Ticket} (avg : Nat) (h : t = 0 ∨ s.target (resClass r) t.val = 0) :
    s.nextStep r t avg = 0 := by
  unfold State.nextStep
  split
  · rfl
  next ht =>
    rw [h.resolve_left fun h0 => ht (congrArg Fin.val h0)]
    exact stepNext_of_noTarget

theorem State.nextStep_of_ne_zero (s : State) (r : Nat) {t : Ticket} (avg : Nat) (h : t ≠ 0) :
    s.nextStep r t avg = stepNext avg (s.target (resClass r) t.val) (s.tktAt r t.val).step :=
  if_neg fun h0 => h (Fin.ext h0)

/-! ### Setting a ticket's average and step (R225) -/

section
variable (s : State) (r t avg step : Nat)

/-- A THROTTLE leaves the tickets. -/
theorem State.throttle_tktAt (q j : Nat) : (s.throttle r).tktAt q j = s.tktAt q j := rfl

/-- Setting AVG and STEP of a ticket, whether or not a THROTTLE follows. -/
theorem State.putStep_tktAt (q j : Nat) :
    (s.putStep r t avg step).tktAt q j = (s.tktUpd r t (fun x => { x with avg := avg, step := step })).tktAt q j := by
  unfold State.putStep
  dsimp only
  split
  · exact State.throttle_tktAt _ r q j
  · rfl

theorem State.putStep_rest :
    s.putStep r t avg step = { s with tkt := (s.putStep r t avg step).tkt, chain := (s.putStep r t avg step).chain } := by
  unfold State.putStep
  dsimp only
  split <;> rfl

/-- In band 0 no THROTTLE is sent. -/
theorem State.putStep_chain {s : State} {r : Nat} (h : (s.tkt.res.at r).band = 0) : (s.putStep r t avg step).chain = s.chain := by
  rw [State.putStep, if_neg fun hsent => hsent.2 h]
  rfl

end

/-! ### TICKET_AVG_UPDATE (R220 to R222) -/

section
variable {k : Fin 4} {n : Fin 32} {t : Ticket} {s : State} {sum : Nat} {l : List Nat}

theorem exec_ticketAvgUpdate_eq : exec (.ticketAvgUpdate k n t) s = execTicketAvgUpdate k n t s := rfl

theorem exec_ticketAvgUpdate_idle (h : (s.tktAt (resNo k.val n.val) t.val).due = []) : exec (.ticketAvgUpdate k n t) s = .next s := by
  simp only [exec_ticketAvgUpdate_eq, execTicketAvgUpdate, h]

/-- The state after the end of a window of 256 reads whose intervals sum to `sum`: the windows `l` are still due. -/
def State.avgMoved (s : State) (r : Nat) (t : Ticket) (sum : Nat) (l : List Nat) : State :=
  let avg := (3 * (s.tktAt r t.val).avg + sum / 64) / 4
  (s.tktUpd r t.val (fun x => { x with due := l, oldBase := none })).putStep r t.val avg (s.nextStep r t avg)

theorem exec_ticketAvgUpdate_due (h : (s.tktAt (resNo k.val n.val) t.val).due = sum :: l) :
    exec (.ticketAvgUpdate k n t) s = .next (s.avgMoved (resNo k.val n.val) t sum l) := by
  simp only [exec_ticketAvgUpdate_eq, execTicketAvgUpdate, h]
  rfl

variable (s t sum l) (r : Nat)

theorem State.avgMoved_ticket :
    (s.avgMoved r t sum l).tktAt r t.val =
      { s.tktAt r t.val with
        due := l
        oldBase := none
        avg := (3 * (s.tktAt r t.val).avg + sum / 64) / 4
        step := s.nextStep r t ((3 * (s.tktAt r t.val).avg + sum / 64) / 4) } := by
  rw [State.avgMoved, State.putStep_tktAt, State.tktAt_tktUpd_same, State.tktAt_tktUpd_same]

theorem State.avgMoved_other {r q j : Nat} (h : q * 16 + j ≠ r * 16 + t.val) :
    (s.avgMoved r t sum l).tktAt q j = s.tktAt q j := by
  rw [State.avgMoved, State.putStep_tktAt, State.tktAt_tktUpd_other _ _ h, State.tktAt_tktUpd_other _ _ h]

theorem State.avgMoved_chain {s : State} {r : Nat} (h : (s.tkt.res.at r).band = 0) : (s.avgMoved r t sum l).chain = s.chain :=
  State.putStep_chain _ _ _ h

theorem State.avgMoved_rest :
    s.avgMoved r t sum l = { s with tkt := (s.avgMoved r t sum l).tkt, chain := (s.avgMoved r t sum l).chain } :=
  State.putStep_rest _ _ _ _ _

end

/-! ### A recorded miss (R228) -/

theorem bitAt_eq_testBit (x i : Nat) : bitAt x i = x.testBit i := Nat.testBit_eq_decide_div_mod_eq.symm

theorem bitAt_or_two_pow (w : Word) {i : Nat} (h : i < 32) : bitAt (w ||| wordOf (2 ^ i)).toNat i = true := by
  have hbit : (wordOf (2 ^ i)).toNat = 2 ^ i :=
    (BitVec.toNat_ofNat _ 32).trans (Nat.mod_eq_of_lt (Nat.pow_lt_pow_right (by decide) h))
  rw [bitAt_eq_testBit, BitVec.toNat_or, Nat.testBit_or, hbit, Nat.testBit_two_pow_self, Bool.or_true]

/-- A field that has counted one more holds the count, or stays at the largest that it can hold. -/
theorem State.fget_cnt_same (s : State) (r : Reg) (f : Fld) (n : Nat) (h : f.lo + f.len ≤ 32) :
    (s.cnt r f n).fget r f = min (s.fget r f + n) (2 ^ f.len - 1) := by
  have hfits : satAdd f.len (s.fget r f) n < 2 ^ f.len :=
    (min_le_right _ _).trans_lt (Nat.sub_lt (Nat.two_pow_pos _) Nat.one_pos)
  rw [State.cnt, State.fget_fset_same _ _ _ _ h, Nat.mod_eq_of_lt hfits, satAdd]

theorem Signals.fget {s t : State} (h : Signals s t) {r : Reg} (f : Fld) (hr : r ∉ signalRegs) : t.fget r f = s.fget r f :=
  congrArg f.get (h.2 r hr)

theorem Signals.tkt {s t : State} (h : Signals s t) : t.tkt = s.tkt := by
  obtain ⟨hrest, -⟩ := h
  rw [hrest]

theorem Signals.chain {s t : State} (h : Signals s t) : t.chain = s.chain := by
  obtain ⟨hrest, -⟩ := h
  rw [hrest]

/-- An event counts from what the sources were. -/
theorem Raised.of_icu_eq {k : Nat} {s t u : State} (h : Raised k s u) (hicu : s.icu = t.icu) : Raised k t u := by
  unfold Raised at h ⊢
  rwa [← hicu]

/-- The state with a miss of ticket `t` at resource `r` in TKT_MISS and TKT_MISS_LAST. -/
def State.missNoted (s : State) (r t : Nat) : State :=
  ((((s.rset .TKT_MISS (s.rget .TKT_MISS ||| wordOf (2 ^ t))).fset .TKT_MISS_LAST F.TKT_MISS_LAST_RES r).fset
    .TKT_MISS_LAST F.TKT_MISS_LAST_TICKET t).cnt .TKT_MISS_LAST F.TKT_MISS_LAST_COUNT 1)

section
variable (s : State) (r t : Nat)

/-- A miss is noted and raises source 20; a flash channel alone sends a message first. -/
theorem State.miss_eq_raise :
    ∃ c, s.miss r t = (({ s with chain := c } : State).missNoted r t).raise 20 ∧ (r < 41 → c = s.chain) := by
  by_cases hflash : resClass r = 3
  · exact ⟨(s.resourceSays r 0xD [r + t * 128] []).chain, by rw [State.miss, if_pos hflash]; rfl,
      fun h => absurd hflash (resClass_ne_flash h)⟩
  · exact ⟨s.chain, by rw [State.miss, if_neg hflash]; rfl, fun _ => rfl⟩

theorem State.missNoted_bit {t : Nat} (h : t < 16) : bitAt ((s.missNoted r t).rget .TKT_MISS).toNat t = true := by
  rw [State.missNoted, State.cnt, State.rget_fset_other _ _ _ (by decide), State.rget_fset_other _ _ _ (by decide),
    State.rget_fset_other _ _ _ (by decide), State.rget_rset_same]
  exact bitAt_or_two_pow _ (by omega)

theorem State.missNoted_res {r : Nat} (h : r < 128) : (s.missNoted r t).fget .TKT_MISS_LAST F.TKT_MISS_LAST_RES = r := by
  rw [State.missNoted, State.cnt, State.fget_fset_field _ _ _ _ _ (by decide) (by decide),
    State.fget_fset_field _ _ _ _ _ (by decide) (by decide), State.fget_fset_same _ _ _ _ (by decide)]
  exact Nat.mod_eq_of_lt h

theorem State.missNoted_ticket {t : Nat} (h : t < 16) : (s.missNoted r t).fget .TKT_MISS_LAST F.TKT_MISS_LAST_TICKET = t := by
  rw [State.missNoted, State.cnt, State.fget_fset_field _ _ _ _ _ (by decide) (by decide), State.fget_fset_same _ _ _ _ (by decide)]
  exact Nat.mod_eq_of_lt h

theorem State.missNoted_count : (s.missNoted r t).fget .TKT_MISS_LAST F.TKT_MISS_LAST_COUNT =
    min (s.fget .TKT_MISS_LAST F.TKT_MISS_LAST_COUNT + 1) (2 ^ F.TKT_MISS_LAST_COUNT.len - 1) := by
  rw [State.missNoted, State.fget_cnt_same _ _ _ _ (by decide), State.fget_fset_field _ _ _ _ _ (by decide) (by decide),
    State.fget_fset_field _ _ _ _ _ (by decide) (by decide), State.fget, State.rget_rset_other _ _ (by decide), ← State.fget]

theorem State.missNoted_icu : (s.missNoted r t).icu = s.icu := rfl

theorem State.missNoted_kept : RegsKept [.TKT_MISS, .TKT_MISS_LAST] s (s.missNoted r t) :=
  have hlast : Reg.TKT_MISS_LAST ∈ [Reg.TKT_MISS, .TKT_MISS_LAST] := by decide
  (RegsKept.rset _ List.mem_cons_self).trans
    ((RegsKept.fset _ _ hlast).trans ((RegsKept.fset _ _ hlast).trans (RegsKept.fset _ _ hlast)))

end

/-- What a recorded miss does: its registers, source 20, and nothing to the tickets. -/
theorem State.miss_spec (s : State) {r t : Nat} (hr : r < 73) (ht : t < 16) :
    bitAt ((s.miss r t).rget .TKT_MISS).toNat t = true ∧ (s.miss r t).fget .TKT_MISS_LAST F.TKT_MISS_LAST_RES = r ∧
      (s.miss r t).fget .TKT_MISS_LAST F.TKT_MISS_LAST_TICKET = t ∧
      (s.miss r t).fget .TKT_MISS_LAST F.TKT_MISS_LAST_COUNT =
        min (s.fget .TKT_MISS_LAST F.TKT_MISS_LAST_COUNT + 1) (2 ^ F.TKT_MISS_LAST_COUNT.len - 1) ∧
      Raised 20 s (s.miss r t) ∧ (r < 41 → (s.miss r t).chain = s.chain) ∧
      RegsKept ([.TKT_MISS, .TKT_MISS_LAST] ++ signalRegs) s (s.miss r t) ∧ (s.miss r t).tkt = s.tkt := by
  obtain ⟨c, heq, hchain⟩ := s.miss_eq_raise r t
  have hsignals := Signals.raise (({ s with chain := c } : State).missNoted r t) 20
  rw [← heq] at hsignals
  refine ⟨?bit, ?res, ?ticket, ?count, ?raised, fun h => hsignals.chain.trans (hchain h), ?kept, hsignals.tkt⟩
  case bit =>
    rw [hsignals.2 .TKT_MISS (by decide)]
    exact State.missNoted_bit _ r ht
  case res => exact (hsignals.fget _ (by decide)).trans (State.missNoted_res _ t (by omega))
  case ticket => exact (hsignals.fget _ (by decide)).trans (State.missNoted_ticket _ r ht)
  case count => exact (hsignals.fget _ (by decide)).trans (State.missNoted_count _ r t)
  case raised =>
    rw [heq]
    exact (State.raise_raised _ 20).of_icu_eq (State.missNoted_icu _ r t)
  case kept =>
    have hnoted : RegsKept [.TKT_MISS, .TKT_MISS_LAST] s (({ s with chain := c } : State).missNoted r t) :=
      State.missNoted_kept _ r t
    exact (hnoted.mono fun _ => List.mem_append_left _).trans (hsignals.2.mono fun _ => List.mem_append_right _)

/-! ### MISS_WINDOW_END (R228) -/

section
variable {k : Fin 4} {n : Fin 32} {t : Ticket} {s : State} {sum : Nat} {l : List Nat}

theorem exec_missWindowEnd_eq : exec (.missWindowEnd k n t) s = execMissWindowEnd k n t s := rfl

theorem exec_missWindowEnd_idle (h : (s.tktAt (resNo k.val n.val) t.val).ends = []) : exec (.missWindowEnd k n t) s = .next s := by
  simp only [exec_missWindowEnd_eq, execMissWindowEnd, h]

/-- The fourth window over in a row: the count restarts and a miss is recorded. -/
theorem exec_missWindowEnd_fourth {r : Nat} (hr : r = resNo k.val n.val) (h : (s.tktAt r t.val).ends = sum :: l)
    (hover : 4096 * s.target (resClass r) t.val < sum) (hovers : (s.tktAt r t.val).overs = 3) :
    exec (.missWindowEnd k n t) s = .next ((s.tktUpd r t.val (fun x => { x with ends := l, overs := 0 })).miss r t.val) := by
  subst hr
  simp [exec_missWindowEnd_eq, execMissWindowEnd, h, hover, hovers]

/-- Another window over is one more in a row. -/
theorem exec_missWindowEnd_over {r : Nat} (hr : r = resNo k.val n.val) (h : (s.tktAt r t.val).ends = sum :: l)
    (hover : 4096 * s.target (resClass r) t.val < sum) (hovers : (s.tktAt r t.val).overs ≠ 3) :
    exec (.missWindowEnd k n t) s =
      .next (s.tktUpd r t.val (fun x => { x with ends := l, overs := (s.tktAt r t.val).overs + 1 })) := by
  subst hr
  simp [exec_missWindowEnd_eq, execMissWindowEnd, h, hover, hovers]

/-- A window that is not over ends the row. -/
theorem exec_missWindowEnd_within {r : Nat} (hr : r = resNo k.val n.val) (h : (s.tktAt r t.val).ends = sum :: l)
    (hwithin : sum ≤ 4096 * s.target (resClass r) t.val) :
    exec (.missWindowEnd k n t) s = .next (s.tktUpd r t.val (fun x => { x with ends := l, overs := 0 })) := by
  subst hr
  simp [exec_missWindowEnd_eq, execMissWindowEnd, h, hwithin.not_gt]

end

/-! ### Regulation as a whole -/

/-- Settles O15, by what each command does in each case: the end of a window of 256 reads by the new average against the thresholds of STEP
(R222), the end of a window of 4,096 reads by whether it is over target and the fourth in a row (R228), and a message by the record it
replaces (R225). -/
theorem ticketRegulation : Obligations.TicketRegulation := by
  refine ⟨fun k n t s r hr => ⟨?avgIdle, fun sum l hdue => ?average⟩,
    fun k n t s r hr => ⟨?missIdle, fun sum l hends => ⟨?fourth, ?again, ?within⟩⟩, fun r level band s => ?level⟩
  case avgIdle =>
    rw [hr]
    exact exec_ticketAvgUpdate_idle
  case average =>
    subst hr
    refine ⟨_, exec_ticketAvgUpdate_due hdue, ?_⟩
    rw [State.avgMoved_ticket]
    refine ⟨rfl, rfl, s.nextStep_le _ t _, State.nextStep_unregulated _, ?steps, fun q j => State.avgMoved_other t s sum l,
      State.avgMoved_chain t sum l, State.avgMoved_rest t s sum l _⟩
    case steps =>
      rintro x y T ht rfl hT rfl rfl
      dsimp only
      rw [State.nextStep_of_ne_zero _ _ _ ht]
      exact ⟨stepNext_of_up hT, fun hno => ⟨stepNext_of_down hT hno, stepNext_of_stay hT hno⟩⟩
  case missIdle =>
    rw [hr]
    exact exec_missWindowEnd_idle
  case fourth =>
    intro hover hovers
    refine ⟨_, exec_missWindowEnd_fourth hr hends hover hovers, ?_⟩
    have hr73 : r < 73 := hr ▸ resNo_lt k n
    obtain ⟨hbit, hres, hticket, hcount, hraised, hchain, hkept, htkt⟩ :=
      (s.tktUpd r t.val (fun x => { x with ends := l, overs := 0 })).miss_spec hr73 t.isLt
    rw [State.tktAt, htkt, ← State.tktAt, State.tktAt_tktUpd_same]
    exact ⟨rfl, rfl, hbit, hres, hticket, hcount, hraised, hchain, hkept⟩
  case again =>
    intro hover hovers
    refine ⟨_, exec_missWindowEnd_over hr hends hover hovers, ?_⟩
    rw [State.tktAt_tktUpd_same]
    exact ⟨rfl, rfl, rfl⟩
  case within =>
    intro hwithin
    refine ⟨_, exec_missWindowEnd_within hr hends hwithin, ?_⟩
    rw [State.tktAt_tktUpd_same]
    exact ⟨rfl, rfl, rfl⟩
  case level =>
    exact ⟨_, rfl, s.resUpd_at_same _ _, fun _ => s.resUpd_at_other _, rfl⟩

end Sys2Proof.Machine

namespace Sys2Proof.Machine

/-! PROOFS. The interrupt controller's commands (O40): events of sources (R401, R402, R412), claims (R406) and ends of interrupt (R409);
before them, what raising and presenting sources leaves of the targets and of ICU_TICK. -/

/-! ### What raising and presenting leave of the targets -/

/-- A part of a target that a change of target `t` does not touch is as before, at `t` and at the others. -/
theorem State.tgtUpd_kept {β : Type} (part : TgtState → β) (s : State) (t : Nat) (f : TgtState → TgtState)
    (h : ∀ g, part (f g) = part g) (q : Nat) : part ((s.tgtUpd t f).icu.tgt.at q) = part (s.icu.tgt.at q) := by
  rw [State.tgtUpd, Tab.at_upd]
  split
  next hq => rw [h, hq]
  next => rfl

/-- ICU_TICK, and at every target the claims in service, the running priority and EOI_ERR, are as before: messages change only whether
one is outstanding or held (R405). -/
structure ClaimsKept (s t : State) : Prop where
  tick : t.icu.tick = s.icu.tick
  stack : ∀ q, (t.icu.tgt.at q).stack = (s.icu.tgt.at q).stack
  run : ∀ q, (t.icu.tgt.at q).run = (s.icu.tgt.at q).run
  eoiErr : ∀ q, (t.icu.tgt.at q).eoiErr = (s.icu.tgt.at q).eoiErr

namespace ClaimsKept

@[refl] theorem refl (s : State) : ClaimsKept s s := ⟨rfl, fun _ => rfl, fun _ => rfl, fun _ => rfl⟩

theorem trans {s t u : State} (h : ClaimsKept s t) (g : ClaimsKept t u) : ClaimsKept s u :=
  ⟨g.tick.trans h.tick, fun q => (g.stack q).trans (h.stack q), fun q => (g.run q).trans (h.run q),
    fun q => (g.eoiErr q).trans (h.eoiErr q)⟩

theorem foldl {α : Type} (f : State → α → State) (h : ∀ s a, ClaimsKept s (f s a)) (l : List α) (s : State) :
    ClaimsKept s (l.foldl f s) := by
  induction l generalizing s with
  | nil => rfl
  | cons a l ih => exact (h s a).trans (ih (f s a))

theorem of_icu_eq {s t : State} (h : t.icu = s.icu) : ClaimsKept s t := by
  constructor <;> simp only [h, implies_true]

/-- A change of one target that keeps its claims and EOI_ERR. -/
theorem tgtUpd (s : State) (t : Nat) (f : TgtState → TgtState) (hstack : ∀ g, (f g).stack = g.stack) (hrun : ∀ g, (f g).run = g.run)
    (heoiErr : ∀ g, (f g).eoiErr = g.eoiErr) : ClaimsKept s (s.tgtUpd t f) :=
  ⟨rfl, s.tgtUpd_kept _ t f hstack, s.tgtUpd_kept _ t f hrun, s.tgtUpd_kept _ t f heoiErr⟩

theorem sendMsix (s : State) (t p : Nat) : ClaimsKept s (s.sendMsix t p) := by
  unfold State.sendMsix
  dsimp only
  generalize s.fget (.HBR_TGT (Fin.ofNat 15 t)) F.HBR_TGT_BASE
    + (if s.bget (.HBR_TGT (Fin.ofNat 15 t)) F.HBR_TGT_PRIO_SPLIT = true then p else 0) = v
  split
  · exact tgtUpd s t _ (fun _ => rfl) (fun _ => rfl) (fun _ => rfl)
  · split
    · exact of_icu_eq rfl
    · split <;> exact of_icu_eq rfl

theorem sendIrqFrame (s : State) (t p : Nat) : ClaimsKept s (s.sendIrqFrame t p) := by
  unfold State.sendIrqFrame
  dsimp only
  split
  · exact of_icu_eq rfl
  · exact tgtUpd s t _ (fun _ => rfl) (fun _ => rfl) (fun _ => rfl)

theorem deliver (s : State) (t p : Nat) : ClaimsKept s (s.deliver t p) := by
  unfold State.deliver
  split
  · exact of_icu_eq (State.alertBit_src s _)
  · split
    · exact sendMsix s t p
    · exact sendIrqFrame s t p

theorem presentTo (s : State) (k t : Nat) : ClaimsKept s (s.presentTo k t) := by
  unfold State.presentTo
  split
  · exact (tgtUpd s t (fun g => { g with out := true }) (fun _ => rfl) (fun _ => rfl) (fun _ => rfl)).trans (deliver _ t _)
  · rfl

theorem present (s : State) (k : Nat) : ClaimsKept s (s.present k) := foldl _ (fun s t => presentTo s k t) _ s

theorem presentBest (s : State) (t : Nat) : ClaimsKept s (s.presentBest t) := by
  unfold State.presentBest
  split
  · rfl
  · split
    · exact presentTo s _ t
    · rfl

theorem presentAll (s : State) : ClaimsKept s s.presentAll := foldl _ presentBest _ s

theorem srcUpd (s : State) (k : Nat) (f : SrcState → SrcState) : ClaimsKept s (s.srcUpd k f) :=
  ⟨rfl, fun _ => rfl, fun _ => rfl, fun _ => rfl⟩

theorem count (s : State) (k : Nat) : ClaimsKept s (s.count k) := by
  unfold State.count
  dsimp only
  split <;> exact srcUpd s k _

theorem raise (s : State) (k : Nat) : ClaimsKept s (s.raise k) := by
  have hraised := (count s k).trans (present _ k)
  unfold State.raise
  dsimp only
  split
  · exact hraised.trans ((count _ 0).trans (present _ 0))
  · exact hraised

end ClaimsKept

/-! ### What presenting and raising leave of the sources -/

@[simp] theorem State.presentBest_src (s : State) (t : Nat) : (s.presentBest t).icu.src = s.icu.src := by
  unfold State.presentBest
  split
  · rfl
  · split
    · exact State.presentTo_src s _ t
    · rfl

@[simp] theorem State.presentAll_src (s : State) : s.presentAll.icu.src = s.icu.src := by
  unfold State.presentAll
  generalize List.range 16 = l
  induction l generalizing s with
  | nil => rfl
  | cons t l ih => rw [List.foldl_cons, ih, State.presentBest_src]

/-- An event leaves the lines of level sources. -/
theorem State.count_line (s : State) (k j : Nat) : ((s.count k).icu.src.at j).line = (s.icu.src.at j).line := by
  by_cases h : j = k
  · subst h
    unfold State.count
    dsimp only
    split <;> simp [State.srcUpd]
  · rw [State.count_src_other s h]

@[inherit_doc State.count_line] theorem State.raise_line (s : State) (k j : Nat) :
    ((s.raise k).icu.src.at j).line = (s.icu.src.at j).line := by
  unfold State.raise
  dsimp only
  split <;> simp [State.count_line]

@[simp] theorem State.srcUpd_src_same (s : State) (k : Nat) (f : SrcState → SrcState) :
    (s.srcUpd k f).icu.src.at k = f (s.icu.src.at k) := Tab.at_upd_same _ _ _

@[simp] theorem State.tgtUpd_tgt_same (s : State) (t : Nat) (f : TgtState → TgtState) :
    (s.tgtUpd t f).icu.tgt.at t = f (s.icu.tgt.at t) := Tab.at_upd_same _ _ _

@[simp] theorem State.srcUpd_tgt (s : State) (k : Nat) (f : SrcState → SrcState) : (s.srcUpd k f).icu.tgt = s.icu.tgt := rfl

@[simp] theorem State.tgtUpd_src (s : State) (t : Nat) (f : TgtState → TgtState) : (s.tgtUpd t f).icu.src = s.icu.src := rfl

/-- An event counts from COUNT and OVF alone: nothing else of its source matters. -/
theorem Raised.of_counts_eq {k : Nat} {s t u : State} (h : Raised k t u) (hcount : (t.icu.src.at k).count = (s.icu.src.at k).count)
    (hovf : (t.icu.src.at k).ovf = (s.icu.src.at k).ovf) : Raised k s u := by
  unfold Raised at h ⊢
  simpa only [hcount, hovf] using h

theorem Signals.withIcu (s : State) (icu : Icu) : Signals s { s with icu := icu } := ⟨rfl, fun _ _ => rfl⟩

theorem Signals.reply {s t : State} (h : Signals s t) (p : Resp) : Signals (s.reply p) (t.reply p) :=
  ⟨congrArg (·.reply p) h.1, h.2⟩

/-! ### Events of sources (R401, R402, R412) -/

section
variable {k : Src} {s : State}

theorem exec_sourceEvent_raise (hlevel : levelSource k.val = false) (hreserved : reservedSource k.val = false) :
    exec (.sourceEvent k) s = .next (s.raise k.val) := by
  change execSourceEvent k s = _
  simp [execSourceEvent, hlevel, hreserved]

theorem exec_levelLineRise_setLine (hlevel : levelSource k.val = true) :
    exec (.levelLineRise k) s = .next (s.setLine k.val true) := if_pos hlevel

theorem swiIndex_get (v : Word) : F.ICU_SWI_INDEX.get v = v.toNat % 64 := by simp [Fld.get]

theorem exec_softwareInterrupt_raise {v : Word} : exec (.softwareInterrupt v) s = .next (s.raise (448 + v.toNat % 64)) := by
  rw [← swiIndex_get]
  rfl

/-- A line that rises is one event of its source. -/
theorem State.setLine_rise {k : Nat} (h : (s.icu.src.at k).line = false) :
    s.setLine k true = (s.srcUpd k (fun c => { c with line := true })).raise k := by
  simp [State.setLine, h]

/-- A line that is 1 already stays, with no event. -/
theorem State.setLine_stays {k : Nat} (h : (s.icu.src.at k).line = true) :
    s.setLine k true = s.srcUpd k (fun c => { c with line := true }) := by
  simp [State.setLine, h]

theorem State.setLine_line (s : State) (k : Nat) : ((s.setLine k true).icu.src.at k).line = true := by
  cases h : (s.icu.src.at k).line with
  | false => rw [State.setLine_rise h, State.raise_line, State.srcUpd_src_same]
  | true => rw [State.setLine_stays h, State.srcUpd_src_same]

theorem State.setLine_raised {k : Nat} (h : (s.icu.src.at k).line = false) : Raised k s (s.setLine k true) := by
  rw [State.setLine_rise h]
  refine (State.raise_raised _ k).of_counts_eq ?_ ?_ <;> rw [State.srcUpd_src_same]

theorem State.setLine_kept {k : Nat} (h : (s.icu.src.at k).line = true) : (s.setLine k true).icu.src.at k = s.icu.src.at k := by
  rw [State.setLine_stays h, State.srcUpd_src_same, ← h]

/-- The state in which ICU_TICK has come to `n` at least. -/
def State.tickTo (s : State) (n : Nat) : State := { s with icu := { s.icu with tick := max s.icu.tick n } }

theorem exec_coalWindowExpire_open {w : Nat} (hlevel : levelSource k.val = false) (hopen : (s.icu.src.at k.val).win = some w)
    (hwin : s.fget (.ICU_COAL k) F.ICU_COAL_WIN ≠ 0) :
    exec (.coalWindowExpire k) s = .next ((s.tickTo (w + s.fget (.ICU_COAL k) F.ICU_COAL_WIN)).windowEnd k.val) := by
  change execCoalWindowExpire k s = _
  simp only [execCoalWindowExpire, hopen, hlevel, hwin, or_self, if_false, Bool.false_eq_true]
  rfl

theorem State.windowEnd_src (s : State) (k : Nat) :
    (s.windowEnd k).icu.src.at k = { s.icu.src.at k with expired := true } := by
  rw [State.windowEnd, State.present_src, State.srcUpd_src_same]

theorem ClaimsKept.windowEnd (s : State) (k : Nat) : ClaimsKept s (s.windowEnd k) :=
  (ClaimsKept.srcUpd s k _).trans (ClaimsKept.present _ k)

theorem Signals.windowEnd (s : State) (k : Nat) : Signals s (s.windowEnd k) := (Signals.srcUpd s k _).trans (Signals.present _ k)

end

/-- The events of sources, by what each command does to its source: it raises it, sets its line, or ends its window. -/
theorem eventsAreCounted : EventsAreCounted := by
  refine ⟨fun k s hlevel hreserved => ?event, fun k s hlevel => ?line, fun v s => ?software, fun k s w hlevel hopen hwin => ?window⟩
  case event => exact ⟨_, exec_sourceEvent_raise hlevel hreserved, State.raise_raised s _, Signals.raise s _⟩
  case line =>
    exact ⟨_, exec_levelLineRise_setLine hlevel, State.setLine_line s _, State.setLine_raised, State.setLine_kept,
      Signals.setLine s _ true⟩
  case software => exact ⟨_, exec_softwareInterrupt_raise, State.raise_raised s _, Signals.raise s _⟩
  case window =>
    refine ⟨_, exec_coalWindowExpire_open hlevel hopen hwin, State.windowEnd_src _ _, ?tick,
      (Signals.withIcu s _).trans (Signals.windowEnd _ _)⟩
    case tick =>
      rw [(ClaimsKept.windowEnd _ _).tick]
      exact le_max_right _ _

/-! ### Claims (R406) -/

section
variable {t : Tgt} {s : State} {k p : Nat}

/-- What is presentable to a target depends on its running priority, not on its messages or its stack (R404). -/
theorem State.best_tgtUpd (s : State) (t q : Nat) (f : TgtState → TgtState) (hrun : ∀ g, (f g).run = g.run) :
    (s.tgtUpd t f).best q = s.best q := by
  have hpresentable : (s.tgtUpd t f).presentable q = s.presentable q := by
    funext k
    unfold State.presentable
    rw [s.tgtUpd_kept _ t f hrun q]
    rfl
  have hprio : (s.tgtUpd t f).srcPrio = s.srcPrio := rfl
  have hlast : (s.tgtUpd t f).icu.last = s.icu.last := rfl
  unfold State.best
  rw [hpresentable, hprio, hlast]

/-- The state after target `t` has claimed source `k` of priority `p`, before a next message. -/
def State.claimed (s : State) (t k p : Nat) : State :=
  let s1 := ((s.tgtUpd t (fun g => { g with out := false, held := false })).srcUpd k
    (fun c => { c with count := 0, ovf := false, insvc := true, tgt := t, win := none, expired := false })).tgtUpd t
    (fun g => { g with stack := (k, g.run) :: g.stack, run := p })
  { s1 with icu := { s1.icu with last := s1.icu.last.put p (some k) } }

theorem State.claimBy_some {t : Nat} (h : s.best t = some (k, p)) :
    s.claimBy t = ((s.claimed t k p).presentBest t, claimWord k p (s.icu.src.at k)) := by
  simp only [State.claimBy, h, State.claimed]

theorem exec_claim_some (h : s.best t.val = some (k, p)) :
    exec (.claim t) s =
      .next (((s.claimed t.val k p).presentBest t.val).reply (.word (claimWord k p (s.icu.src.at k)))) := by
  change execClaim t s = _
  rw [execClaim, State.claimBy_some h]

theorem exec_claim_none (h : s.best t.val = none) :
    exec (.claim t) s = .next ((s.tgtUpd t.val (fun g => { g with out := false, held := false })).reply (.word 0x3FF)) := by
  have hbest := (s.best_tgtUpd t.val t.val (fun g => { g with out := false, held := false }) fun _ => rfl).trans h
  change execClaim t s = _
  simp only [execClaim, State.claimBy, h, State.presentBest, hbest, ite_self]

theorem State.claimed_src (s : State) (t k p : Nat) : (s.claimed t k p).icu.src.at k =
    { s.icu.src.at k with count := 0, ovf := false, insvc := true, tgt := t, win := none, expired := false } := by
  simp [State.claimed]

theorem State.claimed_tgt (s : State) (t k p : Nat) : (s.claimed t k p).icu.tgt.at t =
    { s.icu.tgt.at t with
      out := false, held := false, stack := (k, (s.icu.tgt.at t).run) :: (s.icu.tgt.at t).stack, run := p } := by
  simp [State.claimed]

theorem Signals.claimed (s : State) (t k p : Nat) : Signals s (s.claimed t k p) := Signals.withIcu s _

end

/-! ### Ends of interrupt (R409) -/

section
variable {t : Tgt} {v : Word} {s : State}

theorem eoiSource_get (v : Word) : F.ICU_EOI_SOURCE.get v = v.toNat % 1024 := by simp [Fld.get]

theorem exec_eoi_ignored (h : v.toNat % 1024 = 0x3FF) : exec (.eoi t v) s = .next s :=
  if_pos ((eoiSource_get v).trans h)

/-- The state after target `t` has ended its claim of source `k`, before a next message: its claims are `l`, and `r` runs again. -/
def State.claimEnded (s : State) (t k r : Nat) (l : List (Nat × Nat)) : State :=
  (s.srcUpd k (fun c => { c with insvc := false, tgt := 0 })).tgtUpd t
    (fun g => { g with stack := l, run := r, out := false, held := false })

theorem exec_eoi_top {k r : Nat} {l : List (Nat × Nat)} (hv : v.toNat % 1024 = k) (hk : k ≠ 0x3FF)
    (hstack : (s.icu.tgt.at t.val).stack = (k, r) :: l) :
    exec (.eoi t v) s = .next (s.claimEnded t.val k r l).presentAll := by
  change execEoi t v s = _
  simp only [execEoi, eoiSource_get, hv, hk, hstack, if_false, if_true]
  rfl

/-- A number that is not that of the latest claim, or with no claim in service. -/
theorem exec_eoi_mismatch (hv : v.toNat % 1024 ≠ 0x3FF)
    (hstack : ∀ r l, (s.icu.tgt.at t.val).stack ≠ (v.toNat % 1024, r) :: l) :
    exec (.eoi t v) s = .next ((s.tgtUpd t.val (fun g => { g with eoiErr := true })).raise 1) := by
  change execEoi t v s = _
  simp only [execEoi, eoiSource_get, hv, if_false]
  cases htop : (s.icu.tgt.at t.val).stack with
  | nil => rfl
  | cons e l =>
    obtain ⟨j, r⟩ := e
    have hj : j ≠ v.toNat % 1024 := fun hj => hstack r l (hj ▸ htop)
    exact if_neg hj

theorem State.claimEnded_src (s : State) (t k r : Nat) (l : List (Nat × Nat)) :
    (s.claimEnded t k r l).icu.src.at k = { s.icu.src.at k with insvc := false, tgt := 0 } := by
  simp [State.claimEnded]

theorem State.claimEnded_tgt (s : State) (t k r : Nat) (l : List (Nat × Nat)) :
    (s.claimEnded t k r l).icu.tgt.at t = { s.icu.tgt.at t with stack := l, run := r, out := false, held := false } := by
  simp [State.claimEnded]

theorem Signals.claimEnded (s : State) (t k r : Nat) (l : List (Nat × Nat)) : Signals s (s.claimEnded t k r l) :=
  (Signals.srcUpd s k _).trans (Signals.tgtUpd _ t _)

end

/-- Claims and ends of interrupt: each changes its source and its target, and the messages that follow leave both. -/
theorem claimAndEndOfInterrupt : ClaimAndEndOfInterrupt := by
  refine ⟨fun t s k p hbest => ?claim, fun t s => exec_claim_none, fun t v s k r l hv hk hstack => ?ended,
    fun t v s hv hstack => ?mismatch, fun t v s => exec_eoi_ignored⟩
  case claim =>
    have hkept := ClaimsKept.presentBest (s.claimed t.val k p) t.val
    refine ⟨_, exec_claim_some hbest, rfl, ?src, (hkept.stack _).trans ?stack, (hkept.run _).trans ?run,
      ((Signals.claimed s _ k p).trans (Signals.presentBest _ _)).reply _⟩
    case src => rw [State.reply_icu, State.presentBest_src, State.claimed_src]
    case stack => rw [State.claimed_tgt]
    case run => rw [State.claimed_tgt]
  case ended =>
    have hkept := ClaimsKept.presentAll (s.claimEnded t.val k r l)
    refine ⟨_, exec_eoi_top hv hk hstack, ?insvc, ?count, (hkept.stack _).trans ?stack, (hkept.run _).trans ?run,
      (Signals.claimEnded s _ k r l).trans (Signals.presentAll _)⟩
    case insvc => rw [State.presentAll_src, State.claimEnded_src]
    case count => rw [State.presentAll_src, State.claimEnded_src]
    case stack => rw [State.claimEnded_tgt]
    case run => rw [State.claimEnded_tgt]
  case mismatch =>
    refine ⟨_, exec_eoi_mismatch hv hstack, ((ClaimsKept.raise _ 1).eoiErr _).trans ?err,
      (State.raise_raised _ 1).of_counts_eq rfl rfl, (Signals.tgtUpd s _ _).trans (Signals.raise _ 1)⟩
    case err => rw [State.tgtUpd_tgt_same]

/-- Settles O40, by what each command does to its source and target, and by what the messages that follow leave of both
(`ClaimsKept`, `Signals`). -/
theorem interruptsAreCountedClaimedAndEnded : Obligations.InterruptsAreCountedClaimedAndEnded :=
  ⟨eventsAreCounted, claimAndEndOfInterrupt⟩

end Sys2Proof.Machine

section
/-! PROOFS. The statements of the family "other". Their proofs are elaborated one after the other: side by side they would start more threads than
the check's memory limit allows. -/
set_option Elab.async false

namespace Sys2Proof.Machine

/-! PROOFS. The register map (O58): a row spells only offsets of its own registers, no two rows spell one offset, and every register stands in a row. -/

/-- How far from the first register of a row of these counts and strides the register of these indices stands. -/
def ixDistance : List (Nat × Nat) → List Nat → Nat
  | (_, st) :: l, i :: x => i * st + ixDistance l x
  | _, _ => 0

/-- As many indices as a row has, each below its count. -/
def IxValid : List (Nat × Nat) → List Nat → Prop
  | [], [] => True
  | (n, _) :: l, i :: x => i < n ∧ IxValid l x
  | _, _ => False

theorem ixOf_some {l : List (Nat × Nat)} {d : Nat} {x : List Nat} (h : ixOf l d = some x) : IxValid l x ∧ ixDistance l x = d := by
  induction l generalizing d x with
  | nil =>
    cases d with
    | zero =>
      cases h
      exact ⟨trivial, rfl⟩
    | succ d => cases h
  | cons e l ih =>
    obtain ⟨n, st⟩ := e
    rw [ixOf] at h
    split at h
    case isTrue hlt =>
      obtain ⟨y, hy, rfl⟩ := Option.map_eq_some_iff.mp h
      obtain ⟨hvalid, hdist⟩ := ih hy
      exact ⟨⟨hlt, hvalid⟩, by rw [ixDistance, hdist, Nat.div_add_mod']⟩
    case isFalse => cases h

theorem ixOf_cons_add {n st i d : Nat} (l : List (Nat × Nat)) (hi : i < n) (hd : d < st) :
    ixOf ((n, st) :: l) (i * st + d) = (ixOf l d).map (i :: ·) := by
  have hq : (i * st + d) / st = i := by
    rw [Nat.mul_comm, Nat.mul_add_div (by omega), Nat.div_eq_of_lt hd, Nat.add_zero]
  have hr : (i * st + d) % st = d := by rw [Nat.mul_comm, Nat.mul_add_mod, Nat.mod_eq_of_lt hd]
  rw [ixOf, hq, hr, if_pos hi]

/-- Each register that a row gives stands at the offset at which the row gives it. -/
def RegRow.Sound (row : RegRow) : Prop := ∀ x, IxValid row.2.1 x → (row.2.2 x).offset = row.1 + ixDistance row.2.1 x

theorem RegRow.Sound.offset {row : RegRow} (h : row.Sound) {o : Nat} {r : Reg} (hr : row.find o = some r) : r.offset = o := by
  unfold RegRow.find at hr
  split at hr
  case isTrue => cases hr
  case isFalse hbase =>
    obtain ⟨x, hx, rfl⟩ := Option.map_eq_some_iff.mp hr
    obtain ⟨hvalid, hdist⟩ := ixOf_some hx
    rw [h x hvalid, hdist]
    omega

section
variable {b : Nat} {f : List Nat → Reg}

theorem RegRow.sound_iff₀ : RegRow.Sound (b, [], f) ↔ (f []).offset = b :=
  ⟨fun h => h [] trivial, fun h x hx => by
    cases x with
    | nil => exact h
    | cons i x => exact hx.elim⟩

theorem RegRow.sound_iff₁ {n st : Nat} {l : List (Nat × Nat)} :
    RegRow.Sound (b, (n, st) :: l, f) ↔ ∀ i, i < n → RegRow.Sound (b + i * st, l, fun x => f (i :: x)) := by
  refine ⟨fun h i hi x hx => ?_, fun h x hx => ?_⟩
  · rw [h (i :: x) ⟨hi, hx⟩, ixDistance, Nat.add_assoc]
  · cases x with
    | nil => exact hx.elim
    | cons i x =>
      obtain ⟨hi, hx⟩ := hx
      rw [h i hi x hx, ixDistance, Nat.add_assoc]

end

theorem regRows1_sound : ∀ row ∈ regRows1, row.Sound := by
  simp +contextual only [regRows1, List.forall_mem_cons, RegRow.sound_iff₀, RegRow.sound_iff₁, Reg.offset, nth, Fin.val_ofNat,
    Nat.mod_eq_of_lt]
  simp +contextual

theorem regRows2_sound : ∀ row ∈ regRows2, row.Sound := by
  simp +contextual only [regRows2, List.forall_mem_cons, RegRow.sound_iff₀, RegRow.sound_iff₁, Reg.offset, nth, Fin.val_ofNat,
    Nat.mod_eq_of_lt]
  simp +contextual

theorem regRows3_sound : ∀ row ∈ regRows3, row.Sound := by
  simp +contextual only [regRows3, List.forall_mem_cons, RegRow.sound_iff₀, RegRow.sound_iff₁, Reg.offset, nth, Fin.val_ofNat,
    Nat.mod_eq_of_lt]
  simp +contextual

theorem regRows4_sound : ∀ row ∈ regRows4, row.Sound := by
  simp +contextual only [regRows4, List.forall_mem_cons, RegRow.sound_iff₀, RegRow.sound_iff₁, Reg.offset, nth, Fin.val_ofNat,
    Nat.mod_eq_of_lt]
  simp +contextual
  and_intros
  all_goals intros; omega

theorem regRows5_sound : ∀ row ∈ regRows5, row.Sound := by
  simp +contextual only [regRows5, List.forall_mem_cons, RegRow.sound_iff₀, RegRow.sound_iff₁, Reg.offset, nth, Fin.val_ofNat,
    Nat.mod_eq_of_lt]
  simp +contextual

theorem regRows6_sound : ∀ row ∈ regRows6, row.Sound := by
  simp +contextual only [regRows6, List.forall_mem_cons, RegRow.sound_iff₀, RegRow.sound_iff₁, Reg.offset, nth, Fin.val_ofNat,
    Nat.mod_eq_of_lt]
  simp +contextual

theorem regRows_sound : ∀ row ∈ regRows, row.Sound := by
  simp only [regRows, List.forall_mem_append]
  exact ⟨⟨⟨⟨⟨regRows1_sound, regRows2_sound⟩, regRows3_sound⟩, regRows4_sound⟩, regRows5_sound⟩, regRows6_sound⟩

theorem Reg.offset_of_ofOffset {o : Nat} {r : Reg} (h : Reg.ofOffset o = some r) : r.offset = o := by
  obtain ⟨row, hrow, hr⟩ := List.exists_of_findSome?_eq_some h
  exact (regRows_sound row hrow).offset hr

/-! ### No two rows spell one offset

Rows that lie interleaved repeat at one distance: counted from the last multiple of it, what they spell lies in separate ranges. -/

/-- How far from a row's first register its last one stands, but for whole multiples of `m`. -/
def ixSpread (m : Nat) : List (Nat × Nat) → Nat
  | [] => 0
  | (n, st) :: l => (if st % m = 0 then 0 else (n - 1) * st) + ixSpread m l

theorem ixDistance_mod (m : Nat) {l : List (Nat × Nat)} {x : List Nat} (h : IxValid l x) :
    ∃ d, d ≤ ixSpread m l ∧ ixDistance l x % m = d % m := by
  induction l generalizing x with
  | nil => exact ⟨0, Nat.le_refl 0, by cases x <;> rfl⟩
  | cons e l ih =>
    obtain ⟨n, st⟩ := e
    cases x with
    | nil => exact h.elim
    | cons i x =>
      obtain ⟨hi, hx⟩ := h
      obtain ⟨d, hd, hmod⟩ := ih hx
      rw [ixDistance, ixSpread]
      split
      case isTrue hst =>
        refine ⟨d, by omega, ?_⟩
        rw [Nat.add_mod, Nat.mul_mod, hst, hmod]
        simp
      case isFalse =>
        refine ⟨i * st + d, Nat.add_le_add (Nat.mul_le_mul_right st (by omega)) hd, ?_⟩
        rw [Nat.add_mod, hmod, ← Nat.add_mod]

/-- Counted modulo `m`, the offsets of the row `a` lie below those of the row `b`. -/
def RegRow.below (m : Nat) (a b : RegRow) : Bool :=
  Nat.blt (a.1 % m + ixSpread m a.2.1) (b.1 % m) && Nat.blt (b.1 % m + ixSpread m b.2.1) m

theorem RegRow.mod_of_find {row : RegRow} {o m : Nat} {r : Reg} (h : row.find o = some r) (hm : row.1 % m + ixSpread m row.2.1 < m) :
    row.1 % m ≤ o % m ∧ o % m ≤ row.1 % m + ixSpread m row.2.1 := by
  unfold RegRow.find at h
  split at h
  case isTrue => cases h
  case isFalse hbase =>
    obtain ⟨x, hx, -⟩ := Option.map_eq_some_iff.mp h
    obtain ⟨hvalid, hdist⟩ := ixOf_some hx
    obtain ⟨d, hd, hmod⟩ := ixDistance_mod m hvalid
    have ho : o % m = row.1 % m + d := by
      rw [show o = row.1 + ixDistance row.2.1 x by omega, Nat.add_mod, hmod, Nat.mod_eq_of_lt (a := d) (by omega),
        Nat.mod_eq_of_lt (by omega)]
    omega

theorem RegRow.below_find {a b : RegRow} {m o : Nat} {r q : Reg} (h : a.below m b = true) (ha : a.find o = some r) :
    b.find o ≠ some q := by
  intro hb
  simp only [RegRow.below, Bool.and_eq_true, Nat.blt_eq] at h
  obtain ⟨hab, hbm⟩ := h
  have h1 := RegRow.mod_of_find ha (m := m) (by omega)
  have h2 := RegRow.mod_of_find hb hbm
  omega

/-- The distances at which blocks of registers repeat; no offset reaches the first one. -/
def repeats : List Nat := [0x8000000, 0x100000, 0x10000, 0x1000]

/-- Two rows that some distance separates. -/
def RegRow.apart (a b : RegRow) : Bool := repeats.any (fun m => a.below m b || b.below m a)

theorem RegRow.apart_find {a b : RegRow} {o : Nat} {r q : Reg} (h : a.apart b = true) (ha : a.find o = some r) :
    b.find o ≠ some q := by
  obtain ⟨m, -, hm⟩ := List.any_eq_true.mp h
  rcases Bool.or_eq_true_iff.mp hm with hab | hba
  · exact RegRow.below_find hab ha
  · exact fun hb => RegRow.below_find hba hb ha

/-- Whether each row is apart from those behind it. -/
def rowsApart : List RegRow → Bool
  | [] => true
  | a :: l => l.all (fun b => a.apart b) && rowsApart l

theorem rowsApart_pairwise {l : List RegRow} (h : rowsApart l = true) : l.Pairwise (fun a b => a.apart b = true) := by
  induction l with
  | nil => exact List.Pairwise.nil
  | cons a l ih =>
    obtain ⟨ha, hl⟩ := Bool.and_eq_true_iff.mp h
    exact List.Pairwise.cons (List.all_eq_true.mp ha) (ih hl)

theorem regRows_apart : regRows.Pairwise (fun a b => a.apart b = true) :=
  rowsApart_pairwise (by decide +kernel)

theorem findSome?_of_pairwise {l : List RegRow} {o : Nat} {row : RegRow} {r : Reg} (h : l.Pairwise (fun a b => a.apart b = true))
    (hrow : row ∈ l) (hr : row.find o = some r) : l.findSome? (fun row => row.find o) = some r := by
  induction h with
  | nil => cases hrow
  | @cons a l ha _ ih =>
    rcases List.mem_cons.mp hrow with rfl | hmem
    · rw [List.findSome?_cons, hr]
    · cases hfind : a.find o with
      | none => rw [List.findSome?_cons, hfind, ih hmem]
      | some q => exact absurd hr (RegRow.apart_find (ha row hmem) hfind)

/-! ### Every register stands in a row -/

/-- The row whose first register stands at an offset, found part by part. -/
def rowAt (b : Nat) : Option RegRow :=
  [regRows1, regRows2, regRows3, regRows4, regRows5, regRows6].findSome? (fun l => l.find? (fun row => row.1 == b))

theorem mem_of_rowAt {b : Nat} {row : RegRow} (h : rowAt b = some row) : row ∈ regRows := by
  obtain ⟨l, hl, hrow⟩ := List.exists_of_findSome?_eq_some h
  have hmem : row ∈ [regRows1, regRows2, regRows3, regRows4, regRows5, regRows6].flatten :=
    List.mem_flatten_of_mem hl (List.mem_of_find?_eq_some hrow)
  simpa only [List.flatten_cons, List.flatten_nil, List.append_nil, regRows, List.append_assoc] using hmem

theorem Reg.ofOffset_of_row {b d : Nat} {l : List (Nat × Nat)} {f : List Nat → Reg} {x : List Nat} (h : rowAt b = some (b, l, f))
    (hx : ixOf l d = some x) : Reg.ofOffset (b + d) = some (f x) := by
  refine findSome?_of_pairwise regRows_apart (mem_of_rowAt h) ?_
  rw [RegRow.find, if_neg (by simp)]
  dsimp only
  rw [Nat.add_sub_cancel_left, hx]
  rfl

section
variable {b : Nat} {f : List Nat → Reg} {r : Reg}

theorem Reg.ofOffset_single (h : rowAt b = some (b, [], f)) (hf : f [] = r) : Reg.ofOffset b = some r :=
  hf ▸ Reg.ofOffset_of_row (d := 0) h rfl

theorem Reg.ofOffset_array {n st : Nat} {i : Fin n} (h : rowAt b = some (b, [(n, st)], f)) (hst : 0 < st)
    (hf : f [i.val] = r) : Reg.ofOffset (b + i.val * st) = some r :=
  hf ▸ Reg.ofOffset_of_row h (ixOf_cons_add [] i.isLt hst)


theorem Reg.ofOffset_table {n st m su : Nat} {i : Fin n} {j : Fin m} (h : rowAt b = some (b, [(n, st), (m, su)], f)) (hsu : 0 < su)
    (hst : m * su ≤ st) (hf : f [i.val, j.val] = r) : Reg.ofOffset (b + i.val * st + j.val * su) = some r := by
  have hlt : j.val * su < st := Nat.lt_of_lt_of_le (Nat.mul_lt_mul_of_pos_right j.isLt hsu) hst
  rw [Nat.add_assoc]
  exact hf ▸ Reg.ofOffset_of_row h (by rw [ixOf_cons_add _ i.isLt hlt, ← Nat.add_zero (j.val * su), ixOf_cons_add _ j.isLt hsu]; rfl)

theorem Reg.ofOffset_site {i : Site} (h : rowAt b = some (b, [(8, 0x100000), (16, 0x10000)], f))
    (hf : f [i.val / 16, i.val % 16] = r) : Reg.ofOffset (b + i.val / 16 * 0x100000 + i.val % 16 * 0x10000) = some r :=
  Reg.ofOffset_table (i := ⟨i.val / 16, Nat.div_lt_of_lt_mul i.isLt⟩) (j := ⟨i.val % 16, Nat.mod_lt _ (by decide)⟩) h (by decide)
    (by decide) hf

theorem Reg.ofOffset_siteArray {n : Nat} {i : Site} {j : Fin n}
    (h : rowAt b = some (b, [(8, 0x100000), (16, 0x10000), (n, 4)], f)) (hn : n * 4 ≤ 0x10000)
    (hf : f [i.val / 16, i.val % 16, j.val] = r) :
    Reg.ofOffset (b + i.val / 16 * 0x100000 + i.val % 16 * 0x10000 + j.val * 4) = some r := by
  have hi := i.isLt
  have hj := j.isLt
  rw [Nat.add_assoc, Nat.add_assoc]
  refine hf ▸ Reg.ofOffset_of_row h ?_
  rw [ixOf_cons_add _ (by omega) (by omega), ixOf_cons_add _ (by omega) (by omega), ← Nat.add_zero (j.val * 4),
    ixOf_cons_add _ hj (by decide)]
  rfl

end

theorem Reg.ofOffset_offset (r : Reg) : Reg.ofOffset r.offset = some r := by
  cases r with
  | CLK_HALF i | CLK_MAX i | PWR_AVS i | THM_DIODE i | BUP_TS i | BUP_LOG_DATA i | CFG_IMG_DIGEST i | CFG_SPAN_FAULT i | CFG_RT_DATA i
  | CFG_SPAN_EVT i | CFG_DB i | SEC_KEY_DIG i | SEC_NONCE i | ICU_SRC i | ICU_TMASK i | ICU_COAL i | ICU_PEND i | ICU_CLAIM i | ICU_EOI i
  | ICU_TCTL i | ICU_TSTAT i | ICU_TGT i | ICU_FERRY i | TKT_CLS i | TKT_TGT i | TKT_BW0 i | TKT_BW1 i | TKT_QTHR i | TKT_ADMIT i
  | MEM_FLIP_DATA i | MEM_FLIP_CHK i | MEM_FLIP_INST i | SBF_PART_BASE i | SBF_PART_LEN i | BRG_RING_BASE i | BRG_RING_LEN i | BRG_WR i
  | BRG_RD i | BRG_STAT i | BRG_CTL i | GEN_SEQ i | GEN_CNT i | GEN_HIST i | GEN_ORING_WR i | GEN_ORING_RD i | STK_ID i | STK_STAT i
  | STK_PIN_THR i | STK_QLEVEL i | STK_RD_CNT i | STK_WR_CNT i | STK_MISS_CNT i | STK_PART_BASE i | STK_PART_LEN i | CWY_DISC i
  | CWY_STAT i | CWY_CTL i | CWY_LANE_SEL i | CWY_LANE_CNT i | CWY_CRC i | CWY_TX i | CWY_RX i | CWY_EVT i | CDI_ID i | CDI_CTL i
  | CDI_STATUS i | CDI_ROW_SUBST i | CDI_SUBST_STAT i | CDI_EDGE_THR i | CDI_SEAM i | CDI_SEAM_STALL i | CDI_MCAST_SKIP i | CDI_HB_MISS i
  | RTV_QWR i | RTV_QRD i | RTV_RRD i | FLC_STAT i | FLC_LUN i | FLC_LUN_FENCE i | FLC_OPEN i | FLC_CTL i | FLC_LOOP i | FLC_QLEVEL i
  | FLC_RD_CNT i | FLC_CE_BITS i | FLC_RETRY i | FLC_UE i | FLC_PROBE i | FLC_DISCARD i | FLC_FAIL i | FLC_EVT i | FLC_THR_SEL i
  | FLC_THR_DATA i | FLC_PE_SEL i | FLC_PE_DATA i | FLC_RAW_ADDR i | FLC_RAW_BUF i | FLC_RAW_PARAM i | FLC_RAW_CMD i | FLC_RAW_STAT i
  | FLC_BG i | LNK_ID i | LNK_CTL i | LNK_LANE_SEL i | LNK_LANE i | HBR_TGT i | HBR_VFW_BASE i | HBR_VFW_LEN i | HBR_VFDB i | TEL_HIST i
  | LDP_CRASH i | TST_FAILMAP i =>
    exact Reg.ofOffset_array rfl (by decide) (by simp [nth])
  | GEN_SAMP i j | CWY_REPAIR i j | CDI_MAP i j | CDI_EDGE i j | LNK_PSTAT i j | LNK_PCTL i j | LNK_FEC i j | LNK_UCW i j | LNK_RTRN i j
  | LNK_TX i j | LNK_RX i j | LNK_EVT i j =>
    exact Reg.ofOffset_table rfl (by decide) (by decide) (by simp [nth])
  | ENG_STATE i | ENG_CTL i | ENG_CTX i | ENG_LS i =>
    exact Reg.ofOffset_site rfl (by simp [nth, Nat.div_add_mod'])
  | ENG_FAULT i j | ENG_ARITH i j =>
    exact Reg.ofOffset_siteArray rfl (by decide) (by simp [nth, Nat.div_add_mod'])
  | _ => exact Reg.ofOffset_single rfl rfl

/-! ### Where registers stand -/

theorem RegRow.le_of_find {row : RegRow} {o : Nat} {r : Reg} (h : row.find o = some r) : o ≤ row.1 + ixSpread 0 row.2.1 := by
  unfold RegRow.find at h
  split at h
  case isTrue => cases h
  case isFalse hbase =>
    obtain ⟨x, hx, -⟩ := Option.map_eq_some_iff.mp h
    obtain ⟨hvalid, hdist⟩ := ixOf_some hx
    obtain ⟨d, hd, hmod⟩ := ixDistance_mod 0 hvalid
    rw [Nat.mod_zero, Nat.mod_zero] at hmod
    omega

/-- Every row starts at a multiple of 4, goes on in multiples of 4, and ends below the alias. -/
theorem regRows_placed : ∀ row ∈ regRows, row.1 % 4 = 0 ∧ ixSpread 4 row.2.1 = 0 ∧ row.1 + ixSpread 0 row.2.1 < 0x08000000 := by
  decide +kernel

theorem Reg.offset_placed (r : Reg) : r.offset % 4 = 0 ∧ r.offset < 0x08000000 := by
  obtain ⟨row, hrow, hfind⟩ := List.exists_of_findSome?_eq_some r.ofOffset_offset
  obtain ⟨hbase, hspread, hend⟩ := regRows_placed row hrow
  have hmod := RegRow.mod_of_find hfind (m := 4) (by omega)
  have hle := RegRow.le_of_find hfind
  omega

/-- Settles O58: a row spells only offsets of its own registers, rows are apart, and every register stands in a row. -/
theorem registerMapIsOneToOne : Obligations.RegisterMapIsOneToOne :=
  ⟨fun r => ⟨r.ofOffset_offset, r.offset_placed⟩, fun _ _ h => Reg.offset_of_ofOffset h⟩

end Sys2Proof.Machine

namespace Sys2Proof.Machine

/-! PROOFS. No step undoes the defect log, the fuses or the queue (O57).  The log grows in `State.logRec` and where a reset tears a record;
fuses are blown by key notices alone (`State.keyUpd`, `Fuses.cut`); no command touches the queue; all else that a command does leaves the
three.  So each function of the model has one lemma here, of its own name in `Keeps`, in the model's order and in the manner of
`MemUnit.Canon`: what keeps them up to the state that it takes, keeps them up to the state that it gives. -/

/-! ### Fuses -/

/-- The key slot `k` of the fuses. -/
def Fuses.slot (f : Fuses) (k : Nat) : KeySlot := (f.keys[k]?).getD default

/-- Fuses are only blown, and those of key slots only (R462). -/
structure BlownFrom (f g : Fuses) : Prop where
  rest : g = { f with keys := g.keys }
  length : g.keys.length = f.keys.length
  valid : ∀ k, (f.slot k).valid = true → (g.slot k).valid = true
  revoked : ∀ k, (f.slot k).revoked = true → (g.slot k).revoked = true

theorem BlownFrom.refl (f : Fuses) : BlownFrom f f := ⟨rfl, rfl, fun _ h => h, fun _ h => h⟩

theorem BlownFrom.trans {f g k : Fuses} (h : BlownFrom f g) (i : BlownFrom g k) : BlownFrom f k :=
  ⟨by rw [i.rest, h.rest], i.length.trans h.length, fun n hn => i.valid n (h.valid n hn), fun n hn => i.revoked n (h.revoked n hn)⟩

theorem setNth_length {α : Type} (l : List α) (n : Nat) (v : α) : (setNth l n v).length = l.length := by
  induction l generalizing n with
  | nil => rfl
  | cons a l ih =>
    cases n with
    | zero => rfl
    | succ n => exact congrArg Nat.succ (ih n)

theorem setNth_getElem? {α : Type} (l : List α) (n k : Nat) (v : α) :
    (setNth l n v)[k]? = if k = n then l[k]?.map (fun _ => v) else l[k]? := by
  induction l generalizing n k with
  | nil => simp [setNth]
  | cons a l ih =>
    cases n <;> cases k <;> simp [setNth, ih]

theorem Fuses.slot_setNth (f : Fuses) (t k : Nat) (x : KeySlot) :
    Fuses.slot { f with keys := setNth f.keys t x } k = if k = t ∧ k < f.keys.length then x else f.slot k := by
  unfold Fuses.slot
  dsimp only
  rw [setNth_getElem?]
  by_cases hk : k = t <;> by_cases hl : k < f.keys.length <;> simp [hk, hl]
  all_goals simp_all

/-- Changing a slot so that nothing of it is undone blows fuses only. -/
theorem BlownFrom.slot (f : Fuses) (t : Nat) {x : KeySlot} (hvalid : (f.slot t).valid = true → x.valid = true)
    (hrevoked : (f.slot t).revoked = true → x.revoked = true) : BlownFrom f { f with keys := setNth f.keys t x } := by
  refine ⟨rfl, setNth_length _ _ _, fun k hk => ?_, fun k hk => ?_⟩
  · rw [Fuses.slot_setNth]
    split
    case isFalse => exact hk
    case isTrue h => exact hvalid (h.1 ▸ hk)
  · rw [Fuses.slot_setNth]
    split
    case isFalse => exact hk
    case isTrue h => exact hrevoked (h.1 ▸ hk)

theorem BlownFrom.cut (f : Fuses) (n : Nat) (k : Option (Nat × Nat × List Byte)) : BlownFrom f (f.cut n k) := by
  unfold Fuses.cut
  split
  · exact BlownFrom.refl f
  · dsimp only
    split
    · exact BlownFrom.slot f _ id id
    · exact BlownFrom.slot f _ id fun h => Bool.or_eq_true_iff.mpr (.inl h)

/-! ### What a command keeps of the state `s₀` in which it began -/

/-- The log has grown at its end, fuses have been blown, and the queue is as it was. -/
def KeepsParts (B : Fuses → Fuses → Prop) (s₀ : State) (recs : List LogRec) (fuses : Fuses) (pending : List Instr) : Prop :=
  s₀.log.recs <+: recs ∧ B s₀.fuses fuses ∧ pending = s₀.pending

/-- Nothing is undone from `s₀` to `s`. -/
def Keeps (B : Fuses → Fuses → Prop) (s₀ s : State) : Prop := KeepsParts B s₀ s.log.recs s.fuses s.pending

/-- Whether the lists that a command carries have their lengths, which two commands require (log entry 9). -/
def InstrFormed : Instr → Prop
  | .memoryWrite q => q.data.length = q.len ∧ q.pois.length = q.len
  | .flitReceive _ _ f _ => f.words.length = 32
  | _ => True

/-- A command is performed, and undoes nothing. -/
def Res.Kept (B : Fuses → Fuses → Prop) (s₀ : State) : Res State → Prop
  | .next t => Keeps B s₀ t
  | .fault _ => False
  | .refused _ => False

/-- A part of a step undoes nothing, however it ends. -/
def Got.Kept {α : Type} (B : Fuses → Fuses → Prop) (s₀ : State) : Got α → Prop
  | .ok s _ => Keeps B s₀ s
  | .fault s _ _ _ => Keeps B s₀ s
  | .wait _ => True

/-- A decode undoes nothing, whatever it comes to. -/
def Stage.Kept (B : Fuses → Fuses → Prop) (s₀ : State) : Stage → Prop
  | .deliver s _ => Keeps B s₀ s
  | .on s => Keeps B s₀ s

/-- A copy undoes nothing, up to the state `g` of what it answers or that in which it waits. -/
def CopyKeeps {α : Type} (B : Fuses → Fuses → Prop) (s₀ : State) (g : α → State) : Except State α → Prop
  | .ok x => Keeps B s₀ (g x)
  | .error t => Keeps B s₀ t

section
variable {B : Fuses → Fuses → Prop} {s₀ : State}

theorem Res.Kept.ite {p : Prop} [Decidable p] {a b : Res State} (ha : Res.Kept B s₀ a) (hb : Res.Kept B s₀ b) :
    Res.Kept B s₀ (if p then a else b) := by
  split
  · exact ha
  · exact hb

theorem CopyKeeps.ite {α : Type} {g : α → State} {p : Prop} [Decidable p] {a b : Except State α} (ha : CopyKeeps B s₀ g a)
    (hb : CopyKeeps B s₀ g b) : CopyKeeps B s₀ g (if p then a else b) := by
  split
  · exact ha
  · exact hb

section
variable {α β : Type}

theorem Got.Kept.ite {p : Prop} [Decidable p] {a b : Got α} (ha : a.Kept B s₀) (hb : b.Kept B s₀) :
    (if p then a else b).Kept B s₀ := by
  split
  · exact ha
  · exact hb

theorem Got.Kept.bind {x : Got α} {f : State → α → Got β} (hx : x.Kept B s₀)
    (hf : ∀ {t : State} {a : α}, Keeps B s₀ t → (f t a).Kept B s₀) : (x.bind f).Kept B s₀ := by
  cases x with
  | ok t a => exact hf hx
  | fault t c k a => exact hx
  | wait w => trivial

theorem Got.Kept.pass {x : Except Hold State} {f : State → Got α} (hx : ∀ {t : State}, x = .ok t → Keeps B s₀ t)
    (hf : ∀ {t : State}, Keeps B s₀ t → (f t).Kept B s₀) : (Got.pass x f).Kept B s₀ := by
  cases x with
  | ok t => exact hf (hx rfl)
  | error w => trivial

theorem Got.Kept.foldl {f : Got β → α → Got β} {g : Got β} {l : List α} (hg : g.Kept B s₀)
    (hf : ∀ {g : Got β} {a : α}, g.Kept B s₀ → (f g a).Kept B s₀) : (l.foldl f g).Kept B s₀ := by
  induction l generalizing g with
  | nil => exact hg
  | cons a l ih => exact ih (hf hg)

theorem Got.Kept.each {s : State} {l : List α} {f : State → α → Got Unit} (h : Keeps B s₀ s)
    (hf : ∀ {t : State} {a : α}, Keeps B s₀ t → (f t a).Kept B s₀) : (Got.each l f s).Kept B s₀ :=
  Got.Kept.foldl h fun hg => hg.bind hf

theorem Got.Kept.collect {s : State} {l : List α} {f : State → α → Got β} (h : Keeps B s₀ s)
    (hf : ∀ {t : State} {a : α}, Keeps B s₀ t → (f t a).Kept B s₀) : (Got.collect l f s).Kept B s₀ :=
  Got.Kept.foldl h fun hg => hg.bind fun h => (hf h).bind fun h => h

end

section
variable {α β : Type} {g : α → State} {k : β → State} {x : Except State α}

theorem CopyKeeps.bind {f : α → Except State β} (hx : CopyKeeps B s₀ g x)
    (hf : ∀ {a : α}, Keeps B s₀ (g a) → CopyKeeps B s₀ k (f a)) : CopyKeeps B s₀ k (x.bind f) := by
  cases x with
  | ok a => exact hf hx
  | error t => exact hx

theorem CopyKeeps.map {f : α → β} (hx : CopyKeeps B s₀ g x) (hf : ∀ {a : α}, Keeps B s₀ (g a) → Keeps B s₀ (k (f a))) :
    CopyKeeps B s₀ k (x.map f) := by
  cases x with
  | ok a => exact hf hx
  | error t => exact hx

end

section
variable {α : Type} {t : State}

theorem Got.Kept.ok {x : Got α} {a : α} (hx : x.Kept B s₀) (e : x = .ok t a) : Keeps B s₀ t := by
  rw [e] at hx
  exact hx

theorem Got.Kept.fault {x : Got α} {c : Nat} {k : Option Nat} {a : Nat} (hx : x.Kept B s₀) (e : x = .fault t c k a) :
    Keeps B s₀ t := by
  rw [e] at hx
  exact hx

theorem Stage.Kept.deliver {x : Stage} {p : Bool} (hx : x.Kept B s₀) (e : x = .deliver t p) : Keeps B s₀ t := by
  rw [e] at hx
  exact hx

theorem Stage.Kept.on {x : Stage} (hx : x.Kept B s₀) (e : x = .on t) : Keeps B s₀ t := by
  rw [e] at hx
  exact hx

theorem CopyKeeps.ok {g : α → State} {x : Except State α} {a : α} (hx : CopyKeeps B s₀ g x) (e : x = .ok a) : Keeps B s₀ (g a) := by
  rw [e] at hx
  exact hx

theorem CopyKeeps.error {g : α → State} {x : Except State α} (hx : CopyKeeps B s₀ g x) (e : x = .error t) : Keeps B s₀ t := by
  rw [e] at hx
  exact hx

end

theorem MemoryActs.keeps {s t : State} (a : MemoryActs s t) (h : Keeps B s₀ s) : Keeps B s₀ t := by
  obtain ⟨hlog, hfuses, hqueue⟩ := h
  refine ⟨hlog.trans a.log, ?_, ?_⟩
  · rw [a.rest]
    exact hfuses
  · rw [a.rest]
    exact hqueue

theorem Signals.keeps {s t : State} (a : Signals s t) (h : Keeps B s₀ s) : Keeps B s₀ t := by
  obtain ⟨hrest, -⟩ := a
  rw [hrest]
  exact h

theorem FlashActs.keeps {s t : State} (a : FlashActs s t) (h : Keeps B s₀ s) : Keeps B s₀ t := by
  obtain ⟨hrest, -⟩ := a
  rw [hrest]
  exact h

theorem DoorbellActs.keeps {s t : State} (a : DoorbellActs s t) (h : Keeps B s₀ s) : Keeps B s₀ t := by
  obtain ⟨hrest, -⟩ := a
  rw [hrest]
  exact h

namespace Keeps

theorem ite {p : Prop} [Decidable p] {a b : State} (ha : Keeps B s₀ a) (hb : Keeps B s₀ b) :
    Keeps B s₀ (if p then a else b) := by
  split
  · exact ha
  · exact hb

theorem iteOver {β : Type} {g : β → State} {p : Prop} [Decidable p] {a b : β} (ha : Keeps B s₀ (g a)) (hb : Keeps B s₀ (g b)) :
    Keeps B s₀ (g (if p then a else b)) := by
  split
  · exact ha
  · exact hb

theorem of_eq {α : Type} {x : State × α} {t : State} {a : α} (e : x = (t, a)) (h : Keeps B s₀ x.1) : Keeps B s₀ t := by
  rw [e] at h
  exact h

theorem foldOver {α β : Type} {g : β → State} {f : β → α → β} {x : β} {l : List α} (h : Keeps B s₀ (g x))
    (hf : ∀ {x : β} {a : α}, Keeps B s₀ (g x) → Keeps B s₀ (g (f x a))) : Keeps B s₀ (g (l.foldl f x)) :=
  List.foldlRecOn (motive := fun x => Keeps B s₀ (g x)) l f h fun _ hx _ _ => hf hx

theorem foldOver_of_eq {α β : Type} {g : β → State} {f : β → α → β} {x : β} {l : List α} (h : Keeps B s₀ (g x))
    (hf : ∀ {x y : β} {a : α}, Keeps B s₀ (g x) → f x a = y → Keeps B s₀ (g y)) : Keeps B s₀ (g (l.foldl f x)) :=
  foldOver h fun h => hf h rfl

theorem foldl {α : Type} {s : State} {f : State → α → State} {l : List α} (h : Keeps B s₀ s)
    (hf : ∀ {t : State} {a : α}, Keeps B s₀ t → Keeps B s₀ (f t a)) : Keeps B s₀ (l.foldl f s) := foldOver (g := id) h hf

/-! #### What stands beside the log, the fuses and the queue -/

section
variable {s : State}

theorem with_bup {bup} (h : Keeps B s₀ s) : Keeps B s₀ ({ s with bup } : State) := h

theorem with_deadRows {deadRows} (h : Keeps B s₀ s) : Keeps B s₀ ({ s with deadRows } : State) := h

theorem with_doze {doze} (h : Keeps B s₀ s) : Keeps B s₀ ({ s with doze } : State) := h

theorem with_image_gen {image gen} (h : Keeps B s₀ s) : Keeps B s₀ ({ s with image, gen } : State) := h

theorem with_faultN {faultN} (h : Keeps B s₀ s) : Keeps B s₀ ({ s with faultN } : State) := h

theorem with_faultN_bup {faultN bup} (h : Keeps B s₀ s) : Keeps B s₀ ({ s with faultN, bup } : State) := h

theorem with_grp {grp} (h : Keeps B s₀ s) : Keeps B s₀ ({ s with grp } : State) := h

theorem with_icu {icu} (h : Keeps B s₀ s) : Keeps B s₀ ({ s with icu } : State) := h

theorem with_ldp {ldp} (h : Keeps B s₀ s) : Keeps B s₀ ({ s with ldp } : State) := h

theorem with_load {load} (h : Keeps B s₀ s) : Keeps B s₀ ({ s with load } : State) := h

theorem with_load_sec_bup {load sec bup} (h : Keeps B s₀ s) : Keeps B s₀ ({ s with load, sec, bup } : State) := h

theorem with_load_doze {load doze} (h : Keeps B s₀ s) : Keeps B s₀ ({ s with load, doze } : State) := h

theorem with_lostDevs {lostDevs} (h : Keeps B s₀ s) : Keeps B s₀ ({ s with lostDevs } : State) := h

theorem with_mode {mode} (h : Keeps B s₀ s) : Keeps B s₀ ({ s with mode } : State) := h

theorem with_movers {movers} (h : Keeps B s₀ s) : Keeps B s₀ ({ s with movers } : State) := h

theorem with_place {place} (h : Keeps B s₀ s) : Keeps B s₀ ({ s with place } : State) := h

theorem with_ports {ports} (h : Keeps B s₀ s) : Keeps B s₀ ({ s with ports } : State) := h

theorem with_pwr {pwr} (h : Keeps B s₀ s) : Keeps B s₀ ({ s with pwr } : State) := h

theorem with_pwr_bup {pwr bup} (h : Keeps B s₀ s) : Keeps B s₀ ({ s with pwr, bup } : State) := h

theorem with_retr {retr} (h : Keeps B s₀ s) : Keeps B s₀ ({ s with retr } : State) := h

theorem with_scrub {scrub} (h : Keeps B s₀ s) : Keeps B s₀ ({ s with scrub } : State) := h

theorem with_sec {sec} (h : Keeps B s₀ s) : Keeps B s₀ ({ s with sec } : State) := h

theorem with_sec_free {sec free} (h : Keeps B s₀ s) : Keeps B s₀ ({ s with sec, free } : State) := h

theorem with_shadows {shadows} (h : Keeps B s₀ s) : Keeps B s₀ ({ s with shadows } : State) := h

theorem with_staged_pend {staged pend} (h : Keeps B s₀ s) : Keeps B s₀ ({ s with staged, pend } : State) := h

theorem with_tkt {tkt} (h : Keeps B s₀ s) : Keeps B s₀ ({ s with tkt } : State) := h

theorem with_tap {tap} (h : Keeps B s₀ s) : Keeps B s₀ ({ s with tap } : State) := h

theorem with_thm {thm} (h : Keeps B s₀ s) : Keeps B s₀ ({ s with thm } : State) := h

theorem with_wave {wave} (h : Keeps B s₀ s) : Keeps B s₀ ({ s with wave } : State) := h

end

theorem ok_of_map {ε α β : Type} {x : Except ε α} {f : α → β} {y : β} (e : x.map f = .ok y) : ∃ a, x = .ok a ∧ f a = y := by
  cases x with
  | error _ => cases e
  | ok a => exact ⟨a, rfl, Except.ok.inj e⟩

theorem ok_of_bind {ε α β : Type} {x : Except ε α} {f : α → Except ε β} {y : β} (e : x.bind f = .ok y) :
    ∃ a, x = .ok a ∧ f a = .ok y := by
  cases x with
  | error _ => cases e
  | ok a => exact ⟨a, rfl, e⟩

section
variable {s : State}

/-! ### The named operations that meanings share -/

/-! #### The register file -/

theorem rset {r v} (h : Keeps B s₀ s) : Keeps B s₀ (s.rset r v) := h

theorem fset {r f v} (h : Keeps B s₀ s) : Keeps B s₀ (s.fset r f v) := h

theorem bset {r f b} (h : Keeps B s₀ s) : Keeps B s₀ (s.bset r f b) := h

theorem cnt {r f n} (h : Keeps B s₀ s) : Keeps B s₀ (s.cnt r f n) := h

theorem wrap {r f n} (h : Keeps B s₀ s) : Keeps B s₀ (s.wrap r f n) := h

theorem emit {o} (h : Keeps B s₀ s) : Keeps B s₀ (s.emit o) := (Signals.emit _ _).keeps h

theorem reply {p} (h : Keeps B s₀ s) : Keeps B s₀ (s.reply p) := h

theorem via {f : State → Res State} (h : Keeps B s₀ s) (hf : Res.Kept B s₀ (f s)) : Keeps B s₀ (s.via f) := by
  unfold State.via
  split
  · rename_i e
    rw [e] at hf
    exact hf
  · exact h

/-! #### The host link -/

theorem tlpTx {n} (h : Keeps B s₀ s) : Keeps B s₀ (s.tlpTx n) := h

theorem tlpRx {n} (h : Keeps B s₀ s) : Keeps B s₀ (s.tlpRx n) := h

theorem hostOut {addr data pois} (h : Keeps B s₀ s) : Keeps B s₀ (s.hostOut addr data pois) := emit (ite h h)

theorem msixOut {fn v} (h : Keeps B s₀ s) : Keeps B s₀ (s.msixOut fn v) := (Signals.msixOut _ _ _).keeps h

/-! #### Interrupts -/

theorem tgtUpd {t f} (h : Keeps B s₀ s) : Keeps B s₀ (s.tgtUpd t f) := (Signals.tgtUpd _ _ _).keeps h

theorem srcUpd {k f} (h : Keeps B s₀ s) : Keeps B s₀ (s.srcUpd k f) := (Signals.srcUpd _ _ _).keeps h

theorem alertBit {f} (h : Keeps B s₀ s) : Keeps B s₀ (s.alertBit f) := (Signals.alertBit _ _).keeps h

theorem present {k} (h : Keeps B s₀ s) : Keeps B s₀ (s.present k) := (Signals.present _ _).keeps h

theorem raise {k} (h : Keeps B s₀ s) : Keeps B s₀ (s.raise k) := (Signals.raise _ _).keeps h

theorem setLine {k b} (h : Keeps B s₀ s) : Keeps B s₀ (s.setLine k b) := (Signals.setLine _ _ _).keeps h

theorem presentBest {t} (h : Keeps B s₀ s) : Keeps B s₀ (s.presentBest t) := (Signals.presentBest _ _).keeps h

theorem presentAll (h : Keeps B s₀ s) : Keeps B s₀ s.presentAll := (Signals.presentAll _).keeps h

theorem sendHeld {p} (h : Keeps B s₀ s) : Keeps B s₀ (s.sendHeld p) := (Signals.sendHeld _ _).keeps h

theorem ldpEvt {i} (h : Keeps B s₀ s) : Keeps B s₀ (s.ldpEvt i) := raise h

/-! #### The defect log -/

theorem logRec {r ok} (h : Keeps B s₀ s) : Keeps B s₀ (s.logRec r ok) := (MemoryActs.logRec _ _ _).keeps h

/-! #### Free values -/

theorem tick (h : Keeps B s₀ s) : Keeps B s₀ s.tick := (MemoryActs.tick _).keeps h

/-! ### The causeway's bundles as the rest of the device uses them -/

/-! #### Bundles (R22) -/

theorem bundleUpd {p f} (h : Keeps B s₀ s) : Keeps B s₀ (s.bundleUpd p f) := h

theorem dirUpd {p dir f} (h : Keeps B s₀ s) : Keeps B s₀ (s.dirUpd p dir f) := h

/-! #### The bundle that a transfer crosses (R116, R117, R315) -/

theorem flitsCross {p up down} (h : Keeps B s₀ s) : Keeps B s₀ (s.flitsCross p up down) := (MemoryActs.flitsCross _ _ _ _).keeps h

theorem crossBy {q rd part near far u} (h : Keeps B s₀ s) (e : s.crossBy q rd part near far = .ok u) : Keeps B s₀ u :=
  (MemoryActs.crossBy _ e).keeps h

theorem cross {q rd part a u} (h : Keeps B s₀ s) (e : s.cross q rd part a = .ok u) : Keeps B s₀ u := crossBy h e

/-! #### Chain messages (R122, R123, R304) -/

theorem chainSend {port m} (h : Keeps B s₀ s) : Keeps B s₀ (s.chainSend port m) := h

theorem dieSays {pos cls words lanes} (h : Keeps B s₀ s) : Keeps B s₀ (s.dieSays pos cls words lanes) := h

theorem resourceSays {r cls words lanes} (h : Keeps B s₀ s) : Keeps B s₀ (s.resourceSays r cls words lanes) :=
  (FlashActs.resourceSays _ _ _ _ _).keeps h

/-! ### Frames of the Wealey links -/

theorem frameOut {f} (h : Keeps B s₀ s) : Keeps B s₀ (s.frameOut f) := h

theorem requestOut {f} (h : Keeps B s₀ s) : Keeps B s₀ (s.requestOut f) := h

theorem transferOut {typ d mask a ticket host data pois} (h : Keeps B s₀ s) : Keeps B s₀ (s.transferOut typ d mask a ticket host data pois) :=
  foldOver (g := Prod.fst) h fun h => h

theorem entryOut {x} (h : Keeps B s₀ s) : Keeps B s₀ (s.entryOut x) := h

theorem chainTo {d cls sp payload} (h : Keeps B s₀ s) : Keeps B s₀ (s.chainTo d cls sp payload) := h

/-! ### Tickets and latency targets -/

/-! #### Resources -/

theorem tktUpd {r t f} (h : Keeps B s₀ s) : Keeps B s₀ (s.tktUpd r t f) := (MemoryActs.tktUpd _ _ _ _).keeps h

theorem resUpd {r f} (h : Keeps B s₀ s) : Keeps B s₀ (s.resUpd r f) := (FlashActs.resUpd _ _ _).keeps h

/-! #### Bands and holds -/

theorem throttle {r} (h : Keeps B s₀ s) : Keeps B s₀ (s.throttle r) := (FlashActs.throttle _ _).keeps h

theorem queueLevel {r reached} (h : Keeps B s₀ s) : Keeps B s₀ (s.queueLevel r reached) := (FlashActs.queueLevel _ _ _).keeps h

theorem countRead {r t held time} (h : Keeps B s₀ s) : Keeps B s₀ (s.countRead r t held time) := (MemoryActs.countRead _ _ _ _ _).keeps h

/-! #### Averages, steps and misses -/

theorem putStep {r t avg step} (h : Keeps B s₀ s) : Keeps B s₀ (s.putStep r t avg step) := ite (throttle (tktUpd h)) (tktUpd h)

theorem exec_ticketAvgUpdate {k n t} (h : Keeps B s₀ s) : Res.Kept B s₀ (execTicketAvgUpdate k n t s) := by
  unfold execTicketAvgUpdate
  dsimp only
  split
  · exact h
  · exact putStep (tktUpd h)

theorem miss {r t} (h : Keeps B s₀ s) : Keeps B s₀ (s.miss r t) := raise (cnt (fset (fset (rset (ite (resourceSays h) h)))))

theorem exec_missWindowEnd {k n t} (h : Keeps B s₀ s) : Res.Kept B s₀ (execMissWindowEnd k n t s) := by
  unfold execMissWindowEnd
  dsimp only
  split
  · exact h
  · exact ite (miss (tktUpd h)) (tktUpd h)

theorem exec_queueLevelReceive {r level band} (h : Keeps B s₀ s) : Res.Kept B s₀ (execQueueLevelReceive r level band s) := resUpd h

/-! #### What a source holds -/

theorem putCredits {q r t n} (h : Keeps B s₀ s) : Keeps B s₀ (s.putCredits q r t n) := h

theorem eachUnit {a n u} {f : State → Nat → Bool → Except Hold State} (h : Keeps B s₀ s)
    (hf : ∀ {t u : State} {b : Nat} {p : Bool}, Keeps B s₀ t → f t b p = .ok u → Keeps B s₀ u) (e : s.eachUnit a n f = .ok u) :
    Keeps B s₀ u := by
  unfold State.eachUnit at e
  refine List.foldlRecOn (motive := fun x : Except Hold State => ∀ u, x = .ok u → Keeps B s₀ u) _ _ ?start (fun x hx b _ => ?unit) u e
  case start =>
    rintro _ ⟨⟩
    exact h
  case unit =>
    intro u e
    cases x with
    | error w => cases e
    | ok t => exact hf (hx t rfl) e

theorem letPass {q t rd b u} (h : Keeps B s₀ s) (e : s.letPass q t rd b = .ok u) : Keeps B s₀ u :=
  (MemoryActs.letPass _ e).keeps h

theorem pass {q t rd a n u} (h : Keeps B s₀ s) (e : s.pass q t rd a n = .ok u) : Keeps B s₀ u := (MemoryActs.pass _ e).keeps h

theorem waitFor {q h'} (h : Keeps B s₀ s) : Keeps B s₀ (s.waitFor q h') := by
  unfold State.waitFor
  split
  · exact h
  · exact ite h h

theorem hubPass {rd a n} (h : Keeps B s₀ s) : Keeps B s₀ (s.hubPass rd a n) := (MemoryActs.hubPass _ _ _ _).keeps h

/-! #### Admission (R229 to R231) -/

theorem avgReset {t} (h : Keeps B s₀ s) : Keeps B s₀ (s.avgReset t) := foldl h fun h => putStep h

theorem setAside {t} (h : Keeps B s₀ s) : Keeps B s₀ (s.setAside t) := h

theorem setAsideAll {n} (h : Keeps B s₀ s) : Keeps B s₀ (State.setAsideAll n s) := by
  induction n generalizing s with
  | zero => exact h
  | succ n ih =>
    unfold State.setAsideAll
    refine ite h ?_
    split
    · exact ih (setAside h)
    · exact h

/-! ### Accesses to memory -/

theorem withMem {m : MemUnit} (h : Keeps B s₀ s) : Keeps B s₀ (s.withMem m) := h

theorem settle (h : Keeps B s₀ s) : Keeps B s₀ s.settle := (MemoryActs.settle _).keeps h

theorem readBlock {hub scrub a x} (h : Keeps B s₀ s) (e : s.readBlock hub scrub a = some x) : Keeps B s₀ x.1 :=
  (MemoryActs.readBlock e).keeps h

theorem stackCount {rd a n} (h : Keeps B s₀ s) : Keeps B s₀ (s.stackCount rd a n) := (MemoryActs.stackCount _ _ _ _).keeps h

theorem placeTrim (h : Keeps B s₀ s) : Keeps B s₀ s.placeTrim := h

theorem readAt {hub point a n} (h : Keeps B s₀ s) : Keeps B s₀ (s.readAt hub point a n).st := (MemoryActs.readAt _ _ _ _ _).keeps h

theorem writeBlock {c b lo hi bytes pois man} (h : Keeps B s₀ s) : Keeps B s₀ (s.writeBlock c b lo hi bytes pois man).1 :=
  (MemoryActs.writeBlock _ _ _ _ _ _ _ _).keeps h

theorem writeAt {hub a data pois mans} (h : Keeps B s₀ s) : Keeps B s₀ (s.writeAt hub a data pois mans).st :=
  (MemoryActs.writeAt _ _ _ _ _ _).keeps h

theorem dropped {a} (h : Keeps B s₀ s) : Keeps B s₀ (s.dropped a) := (MemoryActs.dropped _ _).keeps h

theorem hubLay {a data} (h : Keeps B s₀ s) : Keeps B s₀ (s.hubLay a data) := (MemoryActs.hubLay _ _ _).keeps h

theorem hubWrite {a data} (h : Keeps B s₀ s) : Keeps B s₀ (s.hubWrite a data) := (MemoryActs.hubWrite _ _ _).keeps h

theorem hubRead {a n} (h : Keeps B s₀ s) : Keeps B s₀ (s.hubRead a n).st := (MemoryActs.hubRead _ _ _).keeps h

theorem writeLocal {ref off data pois} (h : Keeps B s₀ s) : Keeps B s₀ (s.writeLocal ref off data pois) :=
  (MemoryActs.writeLocal _ _ _ _ _).keeps h

/-! ### Operations over the span tree that many meanings share -/

/-! #### The tree -/

theorem spanUpd {i f} (h : Keeps B s₀ s) : Keeps B s₀ (s.spanUpd i f) := h

theorem engUpd {e f} (h : Keeps B s₀ s) : Keeps B s₀ (s.engUpd e f) := h

theorem siteUpd {k f} (h : Keeps B s₀ s) : Keeps B s₀ (s.siteUpd k f) := h

/-! #### Event rings -/

theorem ringWrite {t sp ev} (h : Keeps B s₀ s) : Keeps B s₀ (s.ringWrite t sp ev) := ite (setLine h) h

theorem spanEvent {i ev} (h : Keeps B s₀ s) : Keeps B s₀ (s.spanEvent i ev) := ringWrite h

theorem taskReported {i} (h : Keeps B s₀ s) : Keeps B s₀ (s.taskReported i) := h

theorem setSpans {l x} (h : Keeps B s₀ s) : Keeps B s₀ (s.setSpans l x) := by
  unfold State.setSpans
  refine foldl h fun h => ?_
  dsimp only
  split
  · exact h
  · exact h
  · exact h
  · exact h

theorem dbDrop {n} (h : Keeps B s₀ s) : Keeps B s₀ (s.dbDrop n) := h

theorem degradeCheck (h : Keeps B s₀ s) : Keeps B s₀ s.degradeCheck := foldl h fun h => ite h (spanEvent h)

/-! #### Group spans (R36) -/

theorem groupSend {i cls payload} (h : Keeps B s₀ s) : Keeps B s₀ (s.groupSend i cls payload) := ite (foldl h fun h => h) h

theorem groupCmd {i cmd arg ticket} (h : Keeps B s₀ s) : Keeps B s₀ (s.groupCmd i cmd arg ticket) := foldl h fun h => groupSend h

/-! #### Synchronisation points -/

theorem syncSignal {i p eng dev} (h : Keeps B s₀ s) : Keeps B s₀ (s.syncSignal i p eng dev) := ite (groupSend h) h

theorem abortPoints {i l} (h : Keeps B s₀ s) : Keeps B s₀ (s.abortPoints i l) := h

theorem syncAbort {e} (h : Keeps B s₀ s) : Keeps B s₀ (s.syncAbort e) := foldl h fun h => ite h (foldl h fun h => groupSend h)

/-! #### Ending tasks -/

theorem kvReturn {k} (h : Keeps B s₀ s) : Keeps B s₀ (s.kvReturn k) := foldl h fun h => hubWrite h

theorem slotEnd {k c} (h : Keeps B s₀ s) : Keeps B s₀ (s.slotEnd k c) := ite (kvReturn h) h

theorem abortEngine {e} (h : Keeps B s₀ s) : Keeps B s₀ (s.abortEngine e) :=
  ite (syncAbort (dbDrop (foldl h fun h => slotEnd h))) (dbDrop (foldl h fun h => slotEnd h))

theorem putFault {e rec} (h : Keeps B s₀ s) : Keeps B s₀ (s.putFault e rec) := h

theorem abortLocal {i rec} (h : Keeps B s₀ s) : Keeps B s₀ (s.abortLocal i rec) :=
  ite (setSpans (foldl h fun h => abortEngine h)) (spanEvent (spanUpd (setSpans (foldl h fun h => abortEngine h))))

theorem abortTask {i rec} (h : Keeps B s₀ s) : Keeps B s₀ (s.abortTask i rec) := foldl (abortLocal h) fun h => groupSend h

theorem ownFault {e rec} (h : Keeps B s₀ s) : Keeps B s₀ (s.ownFault e rec) := by
  unfold State.ownFault
  split
  · exact h
  · exact h

theorem stepFault {e step code slot addr} (h : Keeps B s₀ s) : Keeps B s₀ (s.stepFault e step code slot addr) := by
  unfold State.stepFault
  split
  · exact h
  · exact settle (ownFault (abortTask (putFault h)))

theorem ringEngine {e i v ticket} (h : Keeps B s₀ s) : Keeps B s₀ (s.ringEngine e i v ticket) := ite h (ite (ite h h) (ite (stepFault h) h))

theorem loadEngine {e} (h : Keeps B s₀ s) : Keeps B s₀ (s.loadEngine e) := foldl (writeLocal h) fun h => writeLocal h

/-! ### What the steps of a schedule share -/

/-! #### Steps -/

theorem fetchStep {e i} (h : Keeps B s₀ s) : Keeps B s₀ (s.fetchStep e i).1 := by
  unfold State.fetchStep
  extract_lets u site r
  exact iteOver h (withMem h)

/-! #### Steps that go well and steps that fault -/

theorem carried {e a n} (h : Keeps B s₀ s) : Got.Kept B s₀ (s.carried e a n) := by
  unfold State.carried
  refine .pass (pass h) fun h => ?_
  dsimp only
  split
  · exact readAt h
  · split
    · exact readAt h
    · exact readAt h

theorem operand {e a n} (h : Keeps B s₀ s) : Got.Kept B s₀ (s.operand e a n) := by
  unfold State.operand
  refine .pass (pass h) fun h => ?_
  dsimp only
  split
  · exact readAt h
  · split
    · exact readAt h
    · split
      · exact readAt h
      · exact readAt h

theorem lay {q a data pois} (h : Keeps B s₀ s) : Got.Kept B s₀ (s.lay q a data pois) := by
  unfold State.lay
  refine .ite h ?_
  dsimp only
  split
  · exact writeAt h
  · split
    · exact writeAt h
    · exact writeAt h

theorem store {e a data pois} (h : Keeps B s₀ s) : Got.Kept B s₀ (s.store e a data pois) := .pass (pass h) fun h => lay h

theorem mcastSkip {d} (h : Keeps B s₀ s) : Keeps B s₀ (s.mcastSkip d) := raise h

theorem mcastPrune {dests} (h : Keeps B s₀ s) : Keeps B s₀ (s.mcastPrune dests).1 :=
  foldl h fun h => ite (mcastSkip h) (foldl h fun h => mcastSkip h)

theorem routeCross {q leaves dests off n u} (h : Keeps B s₀ s) (e : s.routeCross q leaves dests off n = .ok u) : Keeps B s₀ u := by
  unfold State.routeCross at e
  refine eachUnit h (fun {t u b p} h e => ?_) e
  split at e
  · cases e
    exact h
  · exact crossBy h e

theorem storeRouteTo {q tk n dests o data pois} (h : Keeps B s₀ s) :
    Got.Kept B s₀ (s.storeRouteTo q tk n dests o data pois) := by
  unfold State.storeRouteTo
  dsimp only
  refine .ite h (.ite ?unicast (.ite (.pass (routeCross (mcastPrune h)) fun h => .foldl h fun h => .bind h fun h => lay h)
    (.ite (.ite (.pass (eachUnit h letPass) fun h => .pass (routeCross h) fun h => lay h) h)
      (.ite h (.pass (routeCross h) fun h => transferOut h)))))
  case unicast =>
    split
    · exact .pass (routeCross h) fun h => lay h
    · exact h

theorem storeRoute {q tk n o data pois} (h : Keeps B s₀ s) : Got.Kept B s₀ (s.storeRoute q tk n o data pois) := storeRouteTo h

theorem result {e it r o data pois} (h : Keeps B s₀ s) : Got.Kept B s₀ (s.result e it r o data pois) := .ite h (.ite (storeRoute h) (store h))

theorem arith {e a} (h : Keeps B s₀ s) : Keeps B s₀ (s.arith e a) := by
  unfold State.arith
  extract_lets site add s1
  have hadd {t : State} {n : Fin 5} {v : Nat} (ht : Keeps B s₀ t) : Keeps B s₀ (add t n v) := ite ht (cnt ht)
  have h1 : Keeps B s₀ s1 := hadd (hadd (hadd (hadd (hadd h))))
  exact ite h1 (engUpd h1)

/-! #### Row operands -/

theorem rowsAt {e a c g run rows k} (h : Keeps B s₀ s) : Got.Kept B s₀ (s.rowsAt e a c g run rows k) :=
  .bind (operand h) fun h => .ite h (.bind (operand h) fun h => h)

theorem putRows {e it t a rows} (h : Keeps B s₀ s) : Got.Kept B s₀ (s.putRows e it t a rows) :=
  .bind (result h) fun h => .bind (result h) fun h => h

theorem putWords {e it r l} (h : Keeps B s₀ s) : Got.Kept B s₀ (s.putWords e it r l) := result h

/-! #### Slots, gangs and contexts -/

theorem putContext {e o t g item slot} (h : Keeps B s₀ s) : Keeps B s₀ (s.putContext e o t g item slot) := writeBlock h

theorem bindContexts {e g item t task} (h : Keeps B s₀ s) : Keeps B s₀ (s.bindContexts e g item t task) := foldl h fun h => putContext h

theorem bindOne {e k} (h : Keeps B s₀ s) : Keeps B s₀ (s.bindOne e k) := by
  unfold State.bindOne
  dsimp only
  split
  · split
    · exact ite (engUpd (bindContexts h)) h
    · exact h
  · exact h

theorem bindGangs {n e k} (h : Keeps B s₀ s) : Keeps B s₀ (s.bindGangs n e k) := by
  induction n generalizing s with
  | zero => exact h
  | succ n ih => exact ih (bindOne h)

theorem rebind {e} (h : Keeps B s₀ s) : Keeps B s₀ (s.rebind e) := foldl h fun h => bindGangs h

/-! #### Synchronisation and completion -/

theorem stepDone {e k p} (h : Keeps B s₀ s) : Keeps B s₀ (s.stepDone e k p) := by
  unfold State.stepDone
  dsimp only
  refine rebind (ite h ?_)
  split
  · exact syncSignal h
  · exact h

theorem stepWritten {e k p a b} (h : Keeps B s₀ s) : Keeps B s₀ (s.stepWritten e k p a b) := ite (stepDone h) h

theorem stepTag {t status} (h : Keeps B s₀ s) : Keeps B s₀ (s.stepTag t status) := by
  unfold State.stepTag
  split
  · exact h
  · exact ite (stepFault h) (ite (stepDone h) h)

theorem runStep {e i opc} {body : State → Step → StepRun → Task → Got Arith} (h : Keeps B s₀ s)
    (hbody : ∀ {t : State} {x : Step} {r : StepRun} {k : Task}, Keeps B s₀ t → (body t x r k).Kept B s₀) :
    Keeps B s₀ (s.runStep e i opc body) := by
  unfold State.runStep
  dsimp only
  split
  · rename_i r task _ _
    have hf := fetchStep (e := e) (i := i) h
    split
    · rename_i e1
      exact stepFault (of_eq e1 hf)
    · rename_i s1 t e1
      have hb := hbody (x := t) (r := r) (k := task) (of_eq e1 hf)
      refine ite h ?_
      split
      · rename_i e2
        rw [e2] at hb
        exact stepFault hb
      · rename_i e2
        rw [e2] at hb
        exact settle (stepWritten (arith hb))
      · exact waitFor h
  · exact h

/-! ### The sampling unit and the grammar unit -/

/-! #### Slots -/

theorem slotUpd {k f} (h : Keeps B s₀ s) : Keeps B s₀ (s.slotUpd k f) := h

/-! #### The grammar unit -/

theorem gramState {g q} (h : Keeps B s₀ s) : Keeps B s₀ (s.gramState g q).1 := hubRead h

theorem gramTrans {g q} (h : Keeps B s₀ s) : Keeps B s₀ (s.gramTrans g q).1 := hubRead (gramState h)

theorem gramClasses {g} (h : Keeps B s₀ s) : Keeps B s₀ (s.gramClasses g).1 := hubRead h

theorem gramMask {k} (h : Keeps B s₀ s) : Keeps B s₀ (s.gramMask k).1 := by
  unfold State.gramMask
  dsimp only
  split
  · exact h
  · exact gramState (gramTrans (gramClasses h))

theorem gramStep {k tok} (h : Keeps B s₀ s) : Keeps B s₀ (s.gramStep k tok) := by
  unfold State.gramStep
  dsimp only
  split
  · exact h
  · refine ite h ?_
    split
    · exact gramTrans (gramClasses h)
    · exact slotUpd (gramTrans (gramClasses h))

theorem slotFault {e step code k} (h : Keeps B s₀ s) : Keeps B s₀ (s.slotFault e step code k) := slotUpd (slotEnd (ownFault (putFault h)))

/-! #### The output ring -/

theorem putRecord {k rec_ tok} (h : Keeps B s₀ s) : Keeps B s₀ (s.putRecord k rec_ tok) := by
  unfold State.putRecord
  split
  · exact h
  · dsimp only
    refine ite h ?_
    split
    · exact slotUpd (waitFor h)
    · rename_i e
      exact slotUpd (hubLay (pass h e))

theorem retryRecord {k} (h : Keeps B s₀ s) : Keeps B s₀ (s.retryRecord k) := by
  unfold State.retryRecord
  split
  · exact putRecord h
  · exact h

theorem exec_tokenChoose {k} (h : Keeps B s₀ s) : Res.Kept B s₀ (execTokenChoose k s) := by
  unfold execTokenChoose
  refine .ite ?_ h
  have hpost {t : State} {b c : Bool} (ht : Keeps B s₀ t) :
      Keeps B s₀ (if b then t.slotEnd k.val 1 else if c then t.slotEnd k.val 2 else t) :=
    ite (slotEnd ht) (ite (slotEnd ht) ht)
  exact hpost (putRecord (gramStep (wrap (slotUpd (cnt (ite (tick h) h))))))

theorem exec_oringAdvance {k} (h : Keeps B s₀ s) : Res.Kept B s₀ (execOringAdvance k s) := .ite h h

theorem exec_oringReadAdvance {k v} (h : Keeps B s₀ s) : Res.Kept B s₀ (execOringReadAdvance k v s) := .ite (retryRecord h) h

theorem exec_samplerReseed (h : Keeps B s₀ s) : Res.Kept B s₀ (execSamplerReseed s) := .ite h h

theorem exec_seqActivate {k} (h : Keeps B s₀ s) : Res.Kept B s₀ (execSeqActivate k s) := .ite h h

theorem exec_seqDeactivate {k} (h : Keeps B s₀ s) : Res.Kept B s₀ (execSeqDeactivate k s) := slotEnd h

theorem exec_sampStageWrite {k w v} (h : Keeps B s₀ s) : Res.Kept B s₀ (execSampStageWrite k w v s) := h

theorem exec_sampGo {v} (h : Keeps B s₀ s) : Res.Kept B s₀ (execSampGo v s) := .ite h (.ite h h)

theorem exec_histAppend {k v} (h : Keeps B s₀ s) : Res.Kept B s₀ (execHistAppend k v s) := h

theorem exec_grammarMaskDone {k} (h : Keeps B s₀ s) : Res.Kept B s₀ (execGrammarMaskDone k s) := by
  unfold execGrammarMaskDone
  dsimp only
  refine .ite ?_ h
  split
  · exact slotFault (gramMask h)
  · exact slotEnd (gramMask h)
  · exact slotUpd (gramMask h)

/-! #### Logits and tokens of engine steps -/

theorem takeLogit {k j w} (h : Keeps B s₀ s) : Keeps B s₀ (s.takeLogit k j w) := ite h (ite h h)

theorem takeRow {e i t task x m} (h : Keeps B s₀ s) : Keeps B s₀ (s.takeRow e i t task x m) := by
  unfold State.takeRow
  split
  · exact h
  · exact ite (ite (slotFault (foldl h fun h => takeLogit h)) (foldl h fun h => takeLogit h)) h

theorem logitsBody {e i t r task} (h : Keeps B s₀ s) : Got.Kept B s₀ (logitsBody e i s t r task) :=
  .bind (rowsAt h) fun h => foldl h fun h => takeRow h

theorem exec_logitsOut {e i} (h : Keeps B s₀ s) : Res.Kept B s₀ (execLogitsOut e i s) := runStep h fun h => logitsBody h

theorem tokenRow {e it t task m} (h : Keeps B s₀ s) : Got.Kept B s₀ (s.tokenRow e it t task m) := by
  unfold State.tokenRow
  split
  · exact h
  · split
    · exact .ite (.bind (result h) fun h => h) h
    · exact h

theorem tokenInBody {e t r task} (h : Keeps B s₀ s) : Got.Kept B s₀ (tokenInBody e s t r task) := .bind (.each h fun h => tokenRow h) fun h => h

theorem exec_tokenIn {e i} (h : Keeps B s₀ s) : Res.Kept B s₀ (execTokenIn e i s) := .ite (runStep h fun h => tokenInBody h) h

/-! ### The meanings of the arithmetic steps of a schedule -/

/-! #### Operands of the array -/

theorem codebookEntry {e cb n} (h : Keeps B s₀ s) : Got.Kept B s₀ (s.codebookEntry e cb n) := .ite (withMem h) (withMem h)

theorem cb2Elems {e cb l} (h : Keeps B s₀ s) : Got.Kept B s₀ (s.cb2Elems e cb l) :=
  .foldl h fun h => .bind h fun h => .bind (codebookEntry h) fun h => h

theorem columns {e x n} (h : Keeps B s₀ s) : Got.Kept B s₀ (s.columns e x n) :=
  .ite (.foldl h fun h => .bind h fun h => .bind (cb2Elems h) fun h => h) h

theorem wordsAt {e a n} (h : Keeps B s₀ s) : Got.Kept B s₀ (s.wordsAt e a n) := .bind (operand h) fun h => h

/-! #### Steps without arithmetic -/

theorem nopBody {x x1 x2} (h : Keeps B s₀ s) : Got.Kept B s₀ (nopBody s x x1 x2) := h

theorem exec_nop {e i} (h : Keeps B s₀ s) : Res.Kept B s₀ (execNop e i s) := runStep h fun h => nopBody h

theorem exec_sync {e i} (h : Keeps B s₀ s) : Res.Kept B s₀ (execSync e i s) := runStep h fun h => nopBody h

/-! #### Array steps -/

theorem matmulBody {e parity t r x} (h : Keeps B s₀ s) : Got.Kept B s₀ (matmulBody e parity s t r x) := by
  unfold Machine.matmulBody
  dsimp only
  split
  · exact h
  · exact .bind (rowsAt h) fun h => .bind (rowsAt h) fun h => .bind (columns h) fun h => .bind (.ite (wordsAt h) h) fun h => .bind
      (.ite h (wordsAt h)) fun h => putRows h

theorem exec_matmul {e i parity} (h : Keeps B s₀ s) : Res.Kept B s₀ (execMatmul e i parity s) := runStep h fun h => matmulBody h

/-! #### Attention -/

theorem kvPage {e span h' base slot j} (h : Keeps B s₀ s) : Got.Kept B s₀ (s.kvPage e span h' base slot j) := by
  unfold State.kvPage
  dsimp only
  refine .bind (operand h) fun h => ?_
  refine .ite h (.ite h ?_)
  split
  · exact h
  · exact .bind (store (tick h)) fun h => h

theorem appendToken {e span h' base slot pos} (h : Keeps B s₀ s) : Got.Kept B s₀ (s.appendToken e span h' base slot pos) :=
  .bind (kvPage h) fun h => store h

theorem tokenAt {e h' base slot pos} (h : Keeps B s₀ s) : Got.Kept B s₀ (s.tokenAt e h' base slot pos) := .bind (operand h) fun h => .ite h h

theorem cachedToken {e h' base slot pos} (h : Keeps B s₀ s) : Got.Kept B s₀ (s.cachedToken e h' base slot pos) :=
  .bind (tokenAt h) fun h => operand h

theorem attnLens {e base t task} (h : Keeps B s₀ s) : Got.Kept B s₀ (s.attnLens e base t task) :=
  .collect h fun h => .bind (operand h) fun h => h

theorem attnAppend {e base t task lens} (h : Keeps B s₀ s) : Got.Kept B s₀ (s.attnAppend e base t task lens) :=
  .bind (.each h fun h => .each h fun h => appendToken h) fun h => .each h fun h => store h

theorem attnCached {e base t task full} (h : Keeps B s₀ s) : Got.Kept B s₀ (s.attnCached e base t task full) :=
  .collect h fun h => .collect h fun h => cachedToken h

theorem attnBody {e parity t r task} (h : Keeps B s₀ s) : Got.Kept B s₀ (attnBody e parity s t r task) := by
  unfold Machine.attnBody
  dsimp only
  refine .bind (rowsAt h) fun h => ?_
  refine .bind (attnLens h) fun h => ?_
  refine .bind (attnAppend h) fun h => ?_
  split
  · exact .bind (tokenAt h) fun h => h
  · exact .bind (attnCached h) fun h => putRows h

theorem exec_attnPaged {e x} (h : Keeps B s₀ s) : Res.Kept B s₀ (execAttnPaged e x s) := runStep h fun h => attnBody h

/-! #### Expert layers -/

theorem routing {e a n} (h : Keeps B s₀ s) : Got.Kept B s₀ (s.routing e a n) := .bind (operand h) fun h => h

theorem moeGateBody {e parity t r x} (h : Keeps B s₀ s) : Got.Kept B s₀ (moeGateBody e parity s t r x) := by
  unfold Machine.moeGateBody
  dsimp only
  split
  · exact h
  · exact .bind (rowsAt h) fun h => .bind (rowsAt h) fun h => .bind (columns h) fun h => .bind (result (tick h)) fun h => h

theorem exec_moeGate {e x} (h : Keeps B s₀ s) : Res.Kept B s₀ (execMoeGate e x s) := runStep h fun h => moeGateBody h

theorem dispatchRow {e it t recs m} (h : Keeps B s₀ s) : Got.Kept B s₀ (s.dispatchRow e it t recs m) :=
  .bind (carried h) fun h => .bind (.ite h (carried h)) fun h => .ite h (.bind (storeRouteTo h) fun h => .ite h (storeRouteTo h))

theorem moeDispatchBody {e t r x} (h : Keeps B s₀ s) : Got.Kept B s₀ (moeDispatchBody e s t r x) :=
  .bind (routing h) fun h => .bind (.each h fun h => dispatchRow h) fun h => h

theorem exec_moeDispatch {e i} (h : Keeps B s₀ s) : Res.Kept B s₀ (execMoeDispatch e i s) := runStep h fun h => moeDispatchBody h

theorem moeGatherBody {e order t r x} (h : Keeps B s₀ s) : Got.Kept B s₀ (moeGatherBody e order s t r x) :=
  .bind (routing h) fun h => .bind (rowsAt h) fun h => putRows h

theorem exec_moeGather {e i order} (h : Keeps B s₀ s) : Res.Kept B s₀ (execMoeGather e i order s) := runStep h fun h => moeGatherBody h

/-! #### Normalisation and embedding -/

theorem normBody {layer e t r x} (h : Keeps B s₀ s) : Got.Kept B s₀ (normBody layer e s t r x) :=
  .bind (rowsAt h) fun h => .bind (rowsAt h) fun h => .bind (.ite (rowsAt h) h) fun h => putRows h

theorem exec_normRms {e i} (h : Keeps B s₀ s) : Res.Kept B s₀ (execNormRms e i s) := runStep h fun h => normBody h

theorem exec_normLayer {e i} (h : Keeps B s₀ s) : Res.Kept B s₀ (execNormLayer e i s) := runStep h fun h => normBody h

theorem tableRow {e t a id} (h : Keeps B s₀ s) : Got.Kept B s₀ (s.tableRow e t a id) :=
  .bind (operand h) fun h => .bind (.ite h (operand h)) fun h => h

theorem embedBody {e t r task} (h : Keeps B s₀ s) : Got.Kept B s₀ (embedBody e s t r task) :=
  .bind (wordsAt h) fun h => .bind (.collect h fun h => .ite h (tableRow h)) fun h => putRows h

theorem exec_embedGather {e i} (h : Keeps B s₀ s) : Res.Kept B s₀ (execEmbedGather e i s) := runStep h fun h => embedBody h

/-! #### Vector, special-function, reduction and transpose steps -/

theorem vecOperand {e used t r it} (h : Keeps B s₀ s) : Got.Kept B s₀ (s.vecOperand e used t r it) := .ite (rowsAt h) h

theorem vecBody {e t r x} (h : Keeps B s₀ s) : Got.Kept B s₀ (vecBody e s t r x) :=
  .bind (vecOperand h) fun h => .bind (vecOperand h) fun h => .bind (vecOperand h) fun h => .ite (.bind (putWords h) fun h => h) (putRows h)

theorem exec_vec {e i} (h : Keeps B s₀ s) : Res.Kept B s₀ (execVec e i s) := runStep h fun h => vecBody h

theorem sfuBody {e t r x} (h : Keeps B s₀ s) : Got.Kept B s₀ (sfuBody e s t r x) := .bind (rowsAt h) fun h => putRows h

theorem exec_sfu {e i} (h : Keeps B s₀ s) : Res.Kept B s₀ (execSfu e i s) := runStep h fun h => sfuBody h

theorem reduceBody {e t r x} (h : Keeps B s₀ s) : Got.Kept B s₀ (reduceBody e s t r x) := .bind (rowsAt h) fun h => putRows h

theorem exec_reduce {e i} (h : Keeps B s₀ s) : Res.Kept B s₀ (execReduce e i s) := runStep h fun h => reduceBody h

theorem transposeBody {e t r x} (h : Keeps B s₀ s) : Got.Kept B s₀ (transposeBody e s t r x) :=
  .bind (rowsAt h) fun h => .ite (.bind (columns h) fun h => putRows h) (.bind (result h) fun h => h)

theorem exec_transpose {e i} (h : Keeps B s₀ s) : Res.Kept B s₀ (execTranspose e i s) := runStep h fun h => transposeBody h

/-! #### Reranking -/

theorem rerankBody {e t r x} (h : Keeps B s₀ s) : Got.Kept B s₀ (rerankBody e s t r x) :=
  .bind (rowsAt h) fun h => .bind (rowsAt h) fun h => .bind (operand h) fun h => .bind (result h) fun h => h

theorem exec_rerankScore {e i} (h : Keeps B s₀ s) : Res.Kept B s₀ (execRerankScore e i s) := runStep h fun h => rerankBody h

theorem topkBody {e t r x} (h : Keeps B s₀ s) : Got.Kept B s₀ (topkBody e s t r x) :=
  .bind (operand h) fun h => .bind (result (tick h)) fun h => h

theorem exec_topk {e i} (h : Keeps B s₀ s) : Res.Kept B s₀ (execTopk e i s) := runStep h fun h => topkBody h

theorem sendBody {e t r x} (h : Keeps B s₀ s) : Got.Kept B s₀ (sendBody e s t r x) :=
  .ite (.bind (wordsAt h) fun h => .bind (wordsAt h) fun h => .bind (putWords h) fun h => h) (.bind (carried h) fun h => .bind (result h)
    fun h => h)

theorem exec_send {e i} (h : Keeps B s₀ s) : Res.Kept B s₀ (execSend e i s) := runStep h fun h => sendBody h

/-! ### The engine's control -/

/-! #### Loops and starting a step -/

theorem useSync {e p} (h : Keeps B s₀ s) : Keeps B s₀ (s.useSync e p) := by
  unfold State.useSync
  split
  · exact ite h h
  · exact h

theorem launch {e i t task} (h : Keeps B s₀ s) : Keeps B s₀ (s.launch e i t task) := rebind (useSync (ite h h))

theorem exec_stepStart {e} (h : Keeps B s₀ s) : Res.Kept B s₀ (execStepStart e s) := by
  unfold execStepStart
  dsimp only
  split
  · exact h
  · split
    · rename_i e
      exact stepFault (of_eq e (fetchStep h))
    · rename_i e
      refine .ite h ?_
      split
      · exact h
      · exact stepFault (of_eq e (fetchStep h))
      · exact launch (of_eq e (fetchStep h))

/-! #### Ending a task -/

theorem nextDoorbell {e} (h : Keeps B s₀ s) : Keeps B s₀ (s.nextDoorbell e) := by
  unfold State.nextDoorbell
  split
  · exact h
  · exact ringEngine h

theorem taskEnd {e} (h : Keeps B s₀ s) : Keeps B s₀ (s.taskEnd e) := by
  unfold State.taskEnd
  dsimp only
  refine nextDoorbell ?_
  split
  · exact taskReported (spanEvent h)
  · exact h

theorem exec_endTask {e i} (h : Keeps B s₀ s) : Res.Kept B s₀ (execEndTask e i s) :=
  .ite (.ite (taskEnd (runStep h fun h => nopBody h)) (runStep h fun h => nopBody h)) h

/-! #### Gangs -/

theorem exec_gangDataReturn {e g} (h : Keeps B s₀ s) : Res.Kept B s₀ (execGangDataReturn e g s) := .ite h (.ite h h)

theorem exec_engineIssueCycle {e reads items} (h : Keeps B s₀ s) : Res.Kept B s₀ (execEngineIssueCycle e reads items s) := rebind h

/-! #### Synchronisation -/

theorem exec_syncSignal {sp p who} (h : Keeps B s₀ s) : Res.Kept B s₀ (execSyncSignal sp p who s) := by
  unfold execSyncSignal
  split
  · exact .ite (syncSignal h) h
  · exact .ite (syncSignal h) h

/-! #### Codebooks -/

theorem codebookPut {e h'} (h : Keeps B s₀ s) : Keeps B s₀ (s.codebookPut e h') := (MemoryActs.codebookPut _ _ _).keeps h

theorem exec_codebookWrite {e cb off data pois} (h : Keeps B s₀ s) : Res.Kept B s₀ (execCodebookWrite e cb off data pois s) :=
  .ite h (.ite h (codebookPut h))

theorem exec_heldCodebookWrite {e} (h : Keeps B s₀ s) : Res.Kept B s₀ (execHeldCodebookWrite e s) := foldl h fun h => codebookPut h

/-! ### The verifier -/

/-! #### Key slots (R455) -/

/-- A slot's fuses are blown, none of those that are blown already undone (R462). -/
theorem keyUpd {k f} (hvalid : ∀ x : KeySlot, x.valid = true → (f x).valid = true)
    (hrevoked : ∀ x : KeySlot, x.revoked = true → (f x).revoked = true) (h : Keeps BlownFrom s₀ s) : Keeps BlownFrom s₀ (s.keyUpd k f) := by
  obtain ⟨hlog, hfuses, hqueue⟩ := h
  exact ⟨hlog, hfuses.trans (BlownFrom.slot s.fuses k (hvalid _) (hrevoked _)), hqueue⟩

/-! #### Signed objects -/

theorem secEvt {i} (h : Keeps B s₀ s) : Keeps B s₀ (s.secEvt i) := raise h

theorem vfyFail {kind reason} (h : Keeps B s₀ s) : Keeps B s₀ (s.vfyFail kind reason) := secEvt h

/-! #### Licences (R458 to R460) -/

theorem licForce {l src} (h : Keeps B s₀ s) : Keeps B s₀ (s.licForce l src) :=
  ite (rset (fset (fset (ite h h)))) (secEvt (rset (fset (fset (ite h h)))))

theorem licBoot (h : Keeps B s₀ s) : Keeps B s₀ s.licBoot := licForce h

/-! ### The two-phase mode change of the hub -/

theorem modeShow {phase cause change} (h : Keeps B s₀ s) : Keeps B s₀ (s.modeShow phase cause change) := h

theorem commitShow {c st} (h : Keeps B s₀ s) : Keeps B s₀ (s.commitShow c st) := ite h h

theorem unstage (h : Keeps B s₀ s) : Keeps B s₀ s.unstage := h

theorem modeSend {c cls w0 w1} (h : Keeps B s₀ s) : Keeps B s₀ (s.modeSend c cls w0 w1) := foldl h fun h => h

theorem unitSays {u cls words} (h : Keeps B s₀ s) : Keeps B s₀ (s.unitSays u cls words) := h

theorem modeAnswer {c phase result} (h : Keeps B s₀ s) : Keeps B s₀ (s.modeAnswer c phase result) := by
  unfold State.modeAnswer
  split
  · exact h
  · exact h

theorem modeAbort {k} (h : Keeps B s₀ s) : Keeps B s₀ (s.modeAbort k) := by
  unfold State.modeAbort
  split
  · exact ite (raise (unstage (commitShow (modeShow (modeAnswer (modeSend h)))))) h
  · exact h

theorem modeFinish (h : Keeps B s₀ s) : Keeps B s₀ s.modeFinish := by
  unfold State.modeFinish
  split
  · exact ite (commitShow (modeShow (modeAnswer h))) h
  · exact h

theorem modeGo {c} (h : Keeps B s₀ s) : Keeps B s₀ (s.modeGo c) := modeFinish (modeShow (modeSend h))

theorem modeCommit (h : Keeps B s₀ s) : Keeps B s₀ s.modeCommit := by
  unfold State.modeCommit
  split
  · refine ite ?_ h
    split
    · exact modeGo h
    · exact modeAnswer h
  · exact h

theorem modeBegin {kind span units coord} (h : Keeps B s₀ s) : Keeps B s₀ (s.modeBegin kind span units coord) :=
  modeCommit (modeShow (modeSend h))

theorem modeStart {kind span units} (h : Keeps B s₀ s) : Keeps B s₀ (s.modeStart kind span units) := modeBegin h

theorem modeAbsent {u} (h : Keeps B s₀ s) : Keeps B s₀ (s.modeAbsent u) := by
  unfold State.modeAbsent
  split
  · exact ite h (ite (modeAbort h) (ite (modeFinish h) h))
  · exact h

theorem modeStopped {l} (h : Keeps B s₀ s) : Keeps B s₀ (s.modeStopped l) := by
  unfold State.modeStopped
  split
  · exact ite (modeAbort h) h
  · exact h

/-! ### What the barge movers share with the flash -/

/-! #### Places in flash -/

theorem flashUpd {f} (h : Keeps B s₀ s) : Keeps B s₀ (s.flashUpd f) := (FlashActs.flashUpd _ _).keeps h

theorem flashLevel {c} (h : Keeps B s₀ s) : Keeps B s₀ (s.flashLevel c) := (FlashActs.flashLevel _ _).keeps h

theorem flashQueue {c x} (h : Keeps B s₀ s) : Keeps B s₀ (s.flashQueue c x) := (FlashActs.flashQueue _ _ _).keeps h

theorem flashAsk {q} (h : Keeps B s₀ s) : Keeps B s₀ (s.flashAsk q) := (FlashActs.flashAsk _ _).keeps h

theorem flashLetGo {c src p n} (h : Keeps B s₀ s) : Keeps B s₀ (s.flashLetGo c src p n) := ite (flashLevel (flashUpd (tick h))) h

theorem flashForget {w} (h : Keeps B s₀ s) : Keeps B s₀ (s.flashForget w) := (FlashActs.flashForget _ _).keeps h

/-! #### Rings (R180) -/

theorem moverUpd {m f} (h : Keeps B s₀ s) : Keeps B s₀ (s.moverUpd m f) := h

theorem moverIndex {m v} (h : Keeps B s₀ s) : Keeps B s₀ (s.moverIndex m v) := ite h h

/-! #### Descriptors -/

theorem passDie {q rd pos a n u} (h : Keeps B s₀ s) (e : s.passDie q rd pos a n = .ok u) : Keeps B s₀ u := eachUnit h crossBy e

theorem moverSource {w hub point r ext} (h : Keeps B s₀ s) : CopyKeeps B s₀ Source.st (s.moverSource w hub point r ext) := by
  unfold State.moverSource
  extract_lets d n go outside
  have hgo {x : Except Hold State} {f : State → Source} (hx : ∀ {t : State}, x = .ok t → Keeps B s₀ t)
      (hf : ∀ {t : State}, Keeps B s₀ t → Keeps B s₀ (f t).st) : CopyKeeps B s₀ Source.st (go x f) := by
    cases x with
    | ok t => exact hf (hx rfl)
    | error e => exact waitFor h
  have hout {t : State} (ht : Keeps B s₀ t) : Keeps B s₀ (outside t).st := by
    dsimp only [outside]
    split
    · exact ht
    · exact ht
  refine .ite h (.ite (hgo (passDie h) hout) (.ite ?flash ?memory))
  case flash =>
    split
    · exact h
    · exact hgo (passDie h) fun h => h
  case memory =>
    split
    · exact .ite (hout h) h
    · exact hgo (pass h) fun h => readAt h

/-! ### Reading flash -/

/-! #### Registers, LUNs and the profile -/

theorem flcEvt {c f} (h : Keeps B s₀ s) : Keeps B s₀ (s.flcEvt c f) := setLine h

theorem groupUpd {g f} (h : Keeps B s₀ s) : Keeps B s₀ (s.groupUpd g f) := flashUpd h

theorem blockUpd {b f} (h : Keeps B s₀ s) : Keeps B s₀ (s.blockUpd b f) := flashUpd h

/-! #### ONFI commands (R238) -/

theorem onfi {c l ops} (h : Keeps B s₀ s) : Keeps B s₀ (s.onfi c l ops) := foldl (flashUpd h) fun h => emit h

theorem applyOffs {c l offs} (h : Keeps B s₀ s) : Keeps B s₀ (s.applyOffs c l offs) := ite h (flashUpd (onfi h))

theorem stageReads {a stage offs} (h : Keeps B s₀ s) : Keeps B s₀ (s.stageReads a stage offs) := by
  unfold State.stageReads
  extract_lets c one k s1
  have hone {t : State} {d : Nat → Int} (ht : Keeps B s₀ t) : Keeps B s₀ (one t d) := onfi (applyOffs ht)
  have h1 : Keeps B s₀ s1 := ite (hone h) (applyOffs (ite (hone (hone (hone h))) (hone h)))
  exact blockUpd h1

/-! #### Superblocks, spare blocks and moves (R249 to R252, R257) -/

theorem sbUpd {i f} (h : Keeps B s₀ s) : Keeps B s₀ (s.sbUpd i f) := (FlashActs.sbUpd _ _ _).keeps h

theorem zoneUpd {z f} (h : Keeps B s₀ s) : Keeps B s₀ (s.zoneUpd z f) := (FlashActs.zoneUpd _ _ _).keeps h

theorem capShow (h : Keeps B s₀ s) : Keeps B s₀ s.capShow := (FlashActs.capShow _).keeps h

theorem journal {n} (h : Keeps B s₀ s) : Keeps B s₀ (s.journal n) := (FlashActs.journal _ _).keeps h

theorem takeSpare {b} (h : Keeps B s₀ s) : Keeps B s₀ (s.takeSpare b) := flashUpd h

theorem replace {i blk b} (h : Keeps B s₀ s) : Keeps B s₀ (s.replace i blk b) := (FlashActs.replace _ _ _ _).keeps h

theorem returnBlock {b} (h : Keeps B s₀ s) : Keeps B s₀ (s.returnBlock b) := (FlashActs.returnBlock _ _).keeps h

theorem releaseSb {i} (h : Keeps B s₀ s) : Keeps B s₀ (s.releaseSb i) := (FlashActs.releaseSb _ _).keeps h

theorem putMove {k m} (h : Keeps B s₀ s) : Keeps B s₀ (s.putMove k m) := (FlashActs.putMove _ _ _).keeps h

theorem moveFeed {k fuel} (h : Keeps B s₀ s) : Keeps B s₀ (s.moveFeed k fuel) := (FlashActs.moveFeed _ _ _).keeps h

theorem moveGo {k m l} (h : Keeps B s₀ s) : Keeps B s₀ (s.moveGo k m l) := (FlashActs.moveGo _ _ _ _).keeps h

theorem relocGo (h : Keeps B s₀ s) : Keeps B s₀ s.relocGo := (FlashActs.relocGo _).keeps h

theorem rebuild {sb a page b us} (h : Keeps B s₀ s) : Keeps B s₀ (s.rebuild sb a page b us) := moveGo (takeSpare h)

theorem moveDrop {k} (h : Keeps B s₀ s) : Keeps B s₀ (s.moveDrop k) := (FlashActs.moveDrop _ _).keeps h

theorem moveRedo {k i us u} (h : Keeps B s₀ s) (e : s.moveRedo k i us = some u) : Keeps B s₀ u := by
  unfold State.moveRedo at e
  split at e
  · cases e
    exact h
  · dsimp only at e
    split at e
    · cases e
    · cases e
      refine (FlashActs.moveGo _ _ _ _).keeps ?_
      split
      · exact (FlashActs.replace _ _ _ _).keeps ((FlashActs.moveUnqueue _ _ _).keeps (takeSpare h))
      · exact (FlashActs.moveUnqueue _ _ _).keeps (takeSpare h)

/-! #### The channel queue -/

theorem dequeue {c i} (h : Keeps B s₀ s) : Keeps B s₀ (s.dequeue c i) := flashLevel (flashUpd h)

theorem setRun {k r} (h : Keeps B s₀ s) : Keeps B s₀ (s.setRun k r) := flashUpd h

/-! #### Delivery -/

theorem fDeliver {q time stage code pois ue err} (h : Keeps B s₀ s) : Keeps B s₀ (s.fDeliver q time stage code pois ue err) := by
  unfold State.fDeliver
  dsimp only
  split
  · exact ite h (countRead h)
  · exact moveFeed (flashUpd (ite h (countRead h)))
  · exact flashUpd (ite h (countRead h))

theorem markRefresh {a} (h : Keeps B s₀ s) : Keeps B s₀ (s.markRefresh a) := by
  unfold State.markRefresh
  dsimp only
  refine ite (flcEvt (blockUpd h)) ?_
  split
  · exact ite (blockUpd h) (relocGo (flashUpd (blockUpd h)))
  · exact blockUpd h

theorem decodeConverged {a stage w n} (h : Keeps B s₀ s) : Keeps B s₀ (s.decodeConverged a stage w n) := ite (groupUpd h) h

theorem loopDeliver {a stage w offs} (h : Keeps B s₀ s) : Keeps B s₀ (s.loopDeliver a stage w offs) := ite h (ite (groupUpd h) h)

theorem stageDeliver {a stage} (h : Keeps B s₀ s) : Keeps B s₀ (s.stageDeliver a stage) :=
  ite (markRefresh (ite h (ite h h))) (ite h (ite h h))

theorem unitLost {c} (h : Keeps B s₀ s) : Keeps B s₀ (s.unitLost c) := flcEvt h

theorem decodeStage {a stage offs r} (h : Keeps B s₀ s) : (s.decodeStage a stage offs r).Kept B s₀ := by
  unfold State.decodeStage
  split
  · exact h
  · dsimp only
    split
    · exact stageDeliver (loopDeliver (decodeConverged h))
    · exact cnt (decodeConverged h)

/-! #### The commands of reading -/

theorem flashRead {c} (h : Keeps B s₀ s) : Keeps B s₀ (s.flashRead c) := by
  unfold State.flashRead
  split
  · exact ite (fDeliver (tick (dequeue h))) (stageReads (setRun (dequeue h)))
  · exact ite (fDeliver (tick (dequeue h))) (groupUpd (stageReads (setRun (dequeue h))))
  · exact h

theorem readRetry {q time stage offs} (h : Keeps B s₀ s) : Keeps B s₀ (s.readRetry q time stage offs) := by
  unfold State.readRetry
  dsimp only
  split
  · exact flashLevel (flashUpd (setRun h))
  · exact fDeliver (unitLost (setRun h))

theorem pageRead {c lun r time} (h : Keeps B s₀ s) : Keeps B s₀ (s.pageRead c lun r time) := by
  unfold State.pageRead
  dsimp only
  split
  · refine ite (fDeliver (setRun h)) ?_
    split
    · rename_i e
      exact readRetry ((decodeStage h).on e)
    · rename_i e
      refine fDeliver ?_
      split
      · exact ite (markRefresh (setRun ((decodeStage h).deliver e))) (setRun ((decodeStage h).deliver e))
      · exact setRun ((decodeStage h).deliver e)
  · exact h

/-! #### Probes -/

theorem exec_probeIssue {c g} (h : Keeps B s₀ s) : Res.Kept B s₀ (execProbeIssue c g s) := by
  unfold execProbeIssue
  dsimp only
  split
  · exact .ite h (cnt (blockUpd (onfi (applyOffs (setRun (groupUpd h))))))
  · exact h

theorem probeResult {c lun w} (h : Keeps B s₀ s) : Keeps B s₀ (s.probeResult c lun w) := by
  unfold State.probeResult
  dsimp only
  split
  · exact ite (cnt (setRun h)) (ite (cnt (groupUpd (setRun h))) (setRun h))
  · exact h

theorem exec_thresholdWrite {c v} (h : Keeps B s₀ s) : Res.Kept B s₀ (execThresholdWrite c v s) := .ite h (groupUpd h)

/-! #### Patrol -/

theorem patrol {blk} (h : Keeps B s₀ s) : Keeps B s₀ (s.patrol blk) := by
  unfold State.patrol
  dsimp only
  split
  · exact h
  · exact foldl h fun h => foldl h fun h => flashAsk h

theorem exec_readDisturbPatrol {c lun block} (h : Keeps B s₀ s) : Res.Kept B s₀ (execReadDisturbPatrol c lun block s) :=
  .ite (patrol (blockUpd h)) h

theorem exec_patrolTimer (h : Keeps B s₀ s) : Res.Kept B s₀ (execPatrolTimer s) := foldl h fun h => ite (patrol h) h

theorem exec_zqCalibration {c} (h : Keeps B s₀ s) : Res.Kept B s₀ (execZqCalibration c s) := .ite h (flashUpd (foldl h fun h => emit h))

/-! ### Writing flash -/

/-! #### Wear -/

theorem wearCheck (h : Keeps B s₀ s) : Keeps B s₀ s.wearCheck := by
  unfold State.wearCheck
  dsimp only
  split
  · exact ite (relocGo (flashUpd h)) h
  · exact h

/-! #### Zones -/

theorem zoneAnswer {reason} (h : Keeps B s₀ s) : Keeps B s₀ (s.zoneAnswer reason) := (FlashActs.zoneAnswer _ _).keeps h

theorem zoneFinish {z} (h : Keeps B s₀ s) : Keeps B s₀ (s.zoneFinish z) := (FlashActs.zoneFinish _ _).keeps h

theorem zoneFree {z} (h : Keeps B s₀ s) : Keeps B s₀ (s.zoneFree z) := (FlashActs.zoneFree _ _).keeps h

theorem moverResult {m ix status errOff} (h : Keeps B s₀ s) : Keeps B s₀ (s.moverResult m ix status errOff) :=
  (FlashActs.moverResult _ _ _ _ _).keeps h

theorem appendEnd {z status errOff} (h : Keeps B s₀ s) : Keeps B s₀ (s.appendEnd z status errOff) := (FlashActs.appendEnd _ _ _ _).keeps h

theorem appendFail {z} (h : Keeps B s₀ s) : Keeps B s₀ (s.appendFail z) := (FlashActs.appendFail _ _).keeps h

theorem zoneDamage {z} (h : Keeps B s₀ s) : Keeps B s₀ (s.zoneDamage z) := (FlashActs.zoneDamage _ _).keeps h

theorem damageCheck (h : Keeps B s₀ s) : Keeps B s₀ s.damageCheck := (FlashActs.damageCheck _).keeps h

theorem exec_zoneOpen {nsb} (h : Keeps B s₀ s) : Res.Kept B s₀ (execZoneOpen nsb s) :=
  .ite h (.ite (zoneAnswer h) (.ite (zoneAnswer h)
    (.ite (zoneAnswer h) (.ite (zoneAnswer h)
    (zoneAnswer (wearCheck (capShow (journal (rset (zoneUpd (foldl (tick h) fun h => sbUpd h)))))))))))

theorem exec_zoneFinish (h : Keeps B s₀ s) : Res.Kept B s₀ (execZoneFinish s) :=
  .ite h (.ite (zoneAnswer h) (.ite (zoneAnswer h) (.ite (zoneAnswer h) (.ite (fset (zoneUpd h)) (zoneFinish h)))))

theorem exec_zoneFree (h : Keeps B s₀ s) : Res.Kept B s₀ (execZoneFree s) :=
  .ite h (.ite (zoneAnswer h) (.ite (zoneAnswer h) (.ite (fset (zoneUpd h)) (zoneFree h))))

theorem exec_zoneQuery (h : Keeps B s₀ s) : Res.Kept B s₀ (execZoneQuery s) := .ite h (.ite (zoneAnswer h) (.ite (zoneAnswer h) (zoneAnswer h)))

/-! #### Appends and programs -/

theorem exec_zoneAppend {m ext} (h : Keeps B s₀ s) : Res.Kept B s₀ (execZoneAppend m ext s) := by
  unfold execZoneAppend
  extract_lets u g zero
  split
  · exact h
  · extract_lets +onlyGivenNames z off x mark
    have hmark {t : State} (ht : Keeps B s₀ t) : Keeps B s₀ (mark t) := with_movers ht
    refine .ite (moverResult (hmark h)) (.ite h (.ite (moverResult (hmark h)) ?_))
    split
    · rename_i e
      exact (moverSource h).error e
    · rename_i e
      extract_lets +onlyGivenNames units st s1
      have h1 : Keeps B s₀ s1 := flashForget (hmark (settle ((moverSource h).ok e)))
      exact .ite (moverResult h1) (foldl (zoneUpd h1) fun h => flashQueue h)

theorem exec_appendComplete {z} (h : Keeps B s₀ s) : Res.Kept B s₀ (execAppendComplete z s) := by
  unfold execAppendComplete
  dsimp only
  split
  · exact .ite h (appendEnd (zoneUpd h))
  · exact h

theorem programLost {j} (h : Keeps B s₀ s) : Keeps B s₀ (s.programLost j) := by
  unfold State.programLost
  split
  · exact appendFail h
  · rename_i k i _
    cases e : s.moveRedo k i j.units with
    | none => exact moveDrop h
    | some t => exact moveRedo h e

theorem flashProgram {c} (h : Keeps B s₀ s) : Keeps B s₀ (s.flashProgram c) := by
  unfold State.flashProgram
  split
  · exact ite (programLost (dequeue h)) (onfi (setRun (dequeue h)))
  · exact h

theorem storePage {blk page units} (h : Keeps B s₀ s) : Keeps B s₀ (s.storePage blk page units) := blockUpd (flashUpd h)

theorem appendPassed {z} (h : Keeps B s₀ s) : Keeps B s₀ (s.appendPassed z) := zoneUpd h

theorem programFailed {c b} (h : Keeps B s₀ s) : Keeps B s₀ (s.programFailed c b) := journal (blockUpd h)

theorem movePassed {k i} (h : Keeps B s₀ s) : Keeps B s₀ (s.movePassed k i) := by
  unfold State.movePassed
  split
  · exact h
  · exact ite (putMove h) (foldl (replace (putMove h)) fun h => appendPassed h)

theorem programStatus {c lun pass} (h : Keeps B s₀ s) : Keeps B s₀ (s.programStatus c lun pass) := by
  unfold State.programStatus
  extract_lets k s1
  have h1 : Keeps B s₀ s1 := setRun h
  split
  · rename_i j _
    extract_lets a s2 s3
    have h2 : Keeps B s₀ s2 := programFailed h1
    have h3 : Keeps B s₀ s3 := flcEvt h2
    split
    · refine ite h1 (ite (appendPassed (storePage h1)) ?_)
      dsimp only
      split
      · exact flcEvt (rebuild h2)
      · exact ite (zoneDamage h3) (appendFail h3)
    · rename_i m i _
      refine ite h1 (ite (movePassed (storePage h1)) (flcEvt ?_))
      cases e : s2.moveRedo m i j.units with
      | none => exact foldl (moveDrop h2) fun h => zoneDamage h
      | some t => exact moveRedo h2 e
  · exact h

/-! #### Erases and relocations -/

theorem erased {b} (h : Keeps B s₀ s) : Keeps B s₀ (s.erased b) := by
  unfold State.erased
  refine ite (flashUpd h) ?_
  split
  · exact sbUpd h
  · exact h

theorem eraseLost {b} (h : Keeps B s₀ s) : Keeps B s₀ (s.eraseLost b) := by
  unfold State.eraseLost
  split
  · split
    · exact replace (erased h)
    · exact foldl (flashUpd (sbUpd h)) fun h => returnBlock h
  · exact flashUpd h

theorem eraseBlock {b} (h : Keeps B s₀ s) : Keeps B s₀ (s.eraseBlock b) := flashUpd h

theorem eraseStatus {c lun pass} (h : Keeps B s₀ s) : Keeps B s₀ (s.eraseStatus c lun pass) := by
  unfold State.eraseStatus
  split
  · exact ite h (ite (relocGo (wearCheck (capShow (erased (eraseBlock (onfi (dequeue h)))))))
      (flcEvt (capShow (eraseLost (journal (blockUpd (cnt (onfi (dequeue h)))))))))
  · exact h

theorem exec_relocationSwitch {sb} (h : Keeps B s₀ s) : Res.Kept B s₀ (execRelocationSwitch sb s) := by
  unfold execRelocationSwitch
  split
  · exact relocGo h
  · split
    · exact h
    · exact .ite h (capShow (journal (releaseSb (flashUpd (sbUpd (sbUpd (putMove h)))))))

/-! #### Fences -/

theorem rawEnd {c r} (h : Keeps B s₀ s) : Keeps B s₀ (s.rawEnd c r) := flcEvt h

theorem lunDrop {c l} (h : Keeps B s₀ s) : Keeps B s₀ (s.lunDrop c l) := by
  unfold State.lunDrop
  extract_lets k mine drop out s1 s2 s3
  have hdrop {t : State} {x : FCmd} (ht : Keeps B s₀ t) : Keeps B s₀ (drop t x) := by
    cases x with
    | read _ => exact fDeliver ht
    | retry _ _ _ => exact fDeliver ht
    | program _ => exact programLost ht
    | erase _ => exact eraseLost ht
    | raw _ => exact rawEnd ht
  have h3 : Keeps B s₀ s3 := setRun (foldl (flashLevel (flashUpd h)) hdrop)
  split
  · exact fDeliver h3
  · exact programLost h3
  · exact h3

theorem chanFence {c logOk} (h : Keeps B s₀ s) : Keeps B s₀ (s.chanFence c logOk) := flcEvt (logRec (foldl h fun h => lunDrop h))

theorem lunFence {c l logOk} (h : Keeps B s₀ s) : Keeps B s₀ (s.lunFence c l logOk) :=
  ite h (capShow (damageCheck (ite (chanFence (flcEvt (logRec (lunDrop h)))) (flcEvt (logRec (lunDrop h))))))

theorem exec_lunTimeout {c lun logOk} (h : Keeps B s₀ s) : Res.Kept B s₀ (execLunTimeout c lun logOk s) := lunFence h

theorem exec_ledgerCheckpoint (h : Keeps B s₀ s) : Res.Kept B s₀ (execLedgerCheckpoint s) := .ite h (flashUpd h)

/-! #### Format and mount -/

theorem exec_format {pct} (h : Keeps B s₀ s) : Res.Kept B s₀ (execFormat pct s) := by
  unfold execFormat
  extract_lets refuse m r
  have hrefuse {t : State} {n : Nat} (ht : Keeps B s₀ t) : Keeps B s₀ (refuse t n) := raise (fset (fset ht))
  have hr : Keeps B s₀ r.st := hubRead h
  exact .ite h (.ite (hrefuse h) (.ite (hrefuse hr) (.ite (hrefuse hr) (.ite (hrefuse hr) (fset (flashUpd hr))))))

theorem writeLabel {k} (h : Keeps B s₀ s) : Keeps B s₀ (s.writeLabel k) := storePage (ite h (eraseBlock h))

theorem exec_formatDone {marked} (h : Keeps B s₀ s) : Res.Kept B s₀ (execFormatDone marked s) := by
  unfold execFormatDone
  split
  · exact h
  · exact raise (fset (fset (capShow (foldl (flashUpd h) fun h => writeLabel h))))

theorem discover {c found} (h : Keeps B s₀ s) : Keeps B s₀ (s.discover c found) := foldl h fun h => onfi h

theorem setRate {c mine rate} (h : Keeps B s₀ s) : Keeps B s₀ (s.setRate c mine rate) := foldl h fun h => onfi h

theorem exec_mount {found trained logOk} (h : Keeps B s₀ s) : Res.Kept B s₀ (execMount found trained logOk s) := by
  unfold execMount
  refine .ite h (fset (foldl (flashUpd h) fun {t c} h => ?_))
  have h1 {x y z w : Nat} : Keeps B s₀ (((((t.discover c found).fset (.FLC_STAT (chan c)) F.FLC_STAT_TARGETS x).fset (.FLC_LUN (chan c))
      F.FLC_LUN_USED y).fset (.FLC_LUN_FENCE (chan c)) F.FLC_LUN_FENCE_FENCED z).fset (.FLC_OPEN (chan c)) F.FLC_OPEN_MASK w) :=
    fset (fset (fset (fset (discover h))))
  exact ite (fset h1) (ite (fset h1) (ite (chanFence h1) (fset (setRate h1))))

theorem mountEnd {ok wps} (h : Keeps B s₀ s) : Keeps B s₀ (s.mountEnd ok wps) :=
  ite (raise (capShow (damageCheck (foldl (fset (flashUpd h)) fun h => releaseSb h)))) (raise h)

/-! ### Operations of the retrieval engines -/

/-! #### Pipelines -/

theorem pipeUpd {p f} (h : Keeps B s₀ s) : Keeps B s₀ (s.pipeUpd p f) := (DoorbellActs.pipeUpd _ _ _).keeps h

theorem qUpd {k f} (h : Keeps B s₀ s) : Keeps B s₀ (s.qUpd k f) := h

theorem queryRelease {k} (h : Keeps B s₀ s) : Keeps B s₀ (s.queryRelease k) := h

theorem rtvEvt {f src} (h : Keeps B s₀ s) : Keeps B s₀ (s.rtvEvt f src) := ite h (raise h)

theorem rtvRaise {f src} (h : Keeps B s₀ s) : Keeps B s₀ (s.rtvRaise f src) := raise h

theorem rtvDoorbell {p v} (h : Keeps B s₀ s) : Keeps B s₀ (s.rtvDoorbell p v) := (DoorbellActs.rtvDoorbell _ _ _).keeps h

theorem rtvRelease (h : Keeps B s₀ s) : Keeps B s₀ s.rtvRelease := (DoorbellActs.rtvRelease _).keeps h

/-! #### Failing and asking -/

theorem queryFailNow {k code zi off} (h : Keeps B s₀ s) : Keeps B s₀ (s.queryFailNow k code zi off) := by
  unfold State.queryFailNow
  split
  · exact ite h (qUpd (flashForget h))
  · exact h

theorem qAsk {k zi u re tag} (h : Keeps B s₀ s) : Keeps B s₀ (s.qAsk k zi u re tag) := by
  unfold State.qAsk
  split
  · refine ite h ?_
    split
    · exact ite (qUpd (flashAsk h)) (queryFailNow h)
    · exact queryFailNow h
  · exact h

theorem scanFeed {k n} (h : Keeps B s₀ s) : Keeps B s₀ (s.scanFeed k n) := by
  induction n generalizing s with
  | zero => exact h
  | succ n ih =>
    unfold State.scanFeed
    split
    · refine ite h ?_
      split
      · exact ih (qAsk (qUpd h))
      · exact h
    · exact h

theorem lexFeed {k n} (h : Keeps B s₀ s) : Keeps B s₀ (s.lexFeed k n) := by
  induction n generalizing s with
  | zero => exact h
  | succ n ih =>
    unfold State.lexFeed
    split
    · dsimp only
      refine ite h ?_
      split
      · exact ih (qAsk (qUpd h))
      · exact h
    · exact h

theorem walkSelect {k} (h : Keeps B s₀ s) : Keeps B s₀ (s.walkSelect k) := by
  unfold State.walkSelect
  split
  · exact ite h (ite h (ite h (ite (queryFailNow h) (foldl h fun h => qAsk h))))
  · exact h

/-! ### The span control interface -/

/-! #### Doorbells (R132) -/

theorem deliverLeaf {i v ticket l} (h : Keeps B s₀ s) : Keeps B s₀ (s.deliverLeaf i v ticket l) := by
  unfold State.deliverLeaf
  split
  · exact ringEngine h
  · exact foldl h fun h => rtvDoorbell h
  · exact moverIndex h
  · exact h

theorem deliverEntry {i v ticket j} (h : Keeps B s₀ s) : Keeps B s₀ (s.deliverEntry i v ticket j) := by
  unfold State.deliverEntry
  split
  · exact foldl h fun h => deliverLeaf h
  · exact h
  · exact h
  · exact h
  · exact h

theorem ringSpan {i v ticket} (h : Keeps B s₀ s) : Keeps B s₀ (s.ringSpan i v ticket) := by
  unfold State.ringSpan
  split
  · exact foldl h fun h => deliverEntry h
  · exact deliverEntry h
  · exact deliverEntry h
  · exact h

theorem exec_doorbell {sp v ticket} (h : Keeps B s₀ s) : Res.Kept B s₀ (execDoorbell sp v ticket s) := groupCmd (ringSpan h)

theorem exec_eventRingPop {t} (h : Keeps B s₀ s) : Res.Kept B s₀ (execEventRingPop t s) := by
  unfold execEventRingPop
  dsimp only
  split
  · exact h
  · exact reply (setLine h)

/-! #### Commands (R131) -/

theorem cmdErr (h : Keeps B s₀ s) : Keeps B s₀ s.cmdErr := h

theorem accepting {i ok} (h : Keeps B s₀ s) : Keeps B s₀ (s.accepting i ok).1 := iteOver h (ite h h)

theorem deliverHeld {j} (h : Keeps B s₀ s) : Keeps B s₀ (s.deliverHeld j) := by
  unfold State.deliverHeld
  split
  · exact h
  · exact ite (ringSpan h) (deliverEntry h)

theorem startSpan {i arg ticket} (h : Keeps B s₀ s) : Keeps B s₀ (s.startSpan i arg ticket) :=
  foldl (foldl (foldl (accepting h) fun h => h) fun h => ite h (ringEngine h)) fun h => deliverHeld h

theorem haltWork {l} (h : Keeps B s₀ s) : Keeps B s₀ (s.haltWork l) :=
  foldl (foldl (foldl h fun h => abortEngine h) fun h => queryFailNow h) fun h => foldl (pipeUpd h) fun h => h

theorem stopSpan {i} (h : Keeps B s₀ s) : Keeps B s₀ (s.stopSpan i) := modeStopped (haltWork (setSpans (accepting h)))

theorem drainSpan {i} (h : Keeps B s₀ s) : Keeps B s₀ (s.drainSpan i) := setSpans (accepting h)

theorem clearSpan {i} (h : Keeps B s₀ s) : Keeps B s₀ (s.clearSpan i) :=
  setSpans (foldl (foldl (foldl (accepting h) fun h => h) fun h => pipeUpd h) fun h => h)

/-! #### Releasing (R131, R147) -/

theorem release {l} (h : Keeps B s₀ s) : Keeps B s₀ (s.release l) := foldl (placeTrim (setSpans h)) fun h => h

theorem noImage (h : Keeps B s₀ s) : Keeps B s₀ s.noImage := licBoot (foldl h fun h => h)

theorem putTickets {l} (h : Keeps B s₀ s) : Keeps B s₀ (s.putTickets l) := foldl h fun h => avgReset h

theorem unloadSpan {i} (h : Keeps B s₀ s) : Keeps B s₀ (s.unloadSpan i) :=
  ite (putTickets (noImage (release (accepting h)))) (release (accepting h))

/-! #### Quiet leaves (R131) -/

theorem spanCommand {i cmd arg ticket} (h : Keeps B s₀ s) : Keeps B s₀ (s.spanCommand i cmd arg ticket) := by
  unfold State.spanCommand
  split
  · exact startSpan h
  · exact stopSpan h
  · exact drainSpan h
  · exact clearSpan h
  · exact unloadSpan h
  · exact h

theorem exec_spanStart {sp arg ticket} (h : Keeps B s₀ s) : Res.Kept B s₀ (execSpanStart sp arg ticket s) := spanCommand (groupCmd h)

theorem exec_spanStop {sp} (h : Keeps B s₀ s) : Res.Kept B s₀ (execSpanStop sp s) := spanCommand (groupCmd h)

theorem exec_spanDrain {sp} (h : Keeps B s₀ s) : Res.Kept B s₀ (execSpanDrain sp s) := spanCommand (groupCmd h)

theorem exec_spanClear {sp} (h : Keeps B s₀ s) : Res.Kept B s₀ (execSpanClear sp s) := spanCommand (groupCmd h)

theorem exec_spanUnload {sp} (h : Keeps B s₀ s) : Res.Kept B s₀ (execSpanUnload sp s) := degradeCheck (spanCommand (groupCmd h))

theorem sayQuiet {j} (h : Keeps B s₀ s) : Keeps B s₀ (s.sayQuiet j) := ite h (groupSend h)

theorem exec_spanQuiet {sp} (h : Keeps B s₀ s) : Res.Kept B s₀ (execSpanQuiet sp s) :=
  .ite (ite (setSpans (foldl h fun h => sayQuiet h)) (foldl h fun h => sayQuiet h)) h

/-! ### The fit check -/

/-! #### Tickets (R149, R229, R230) -/

theorem loadTickets {img} (h : Keeps B s₀ s) : Keeps B s₀ (s.loadTickets img) := putTickets h

/-! ### Loading a workload image -/

/-! #### Ends of a load (R146, R147) -/

theorem loadState {st} (h : Keeps B s₀ s) : Keeps B s₀ (s.loadState st) := h

theorem loadEnd {st code rec_ span err} (h : Keeps B s₀ s) : Keeps B s₀ (s.loadEnd st code rec_ span err) := raise (ite h h)

theorem loadRefused {r} (h : Keeps B s₀ s) : Keeps B s₀ (s.loadRefused r) := loadEnd h

theorem placeFailed {ix err} (h : Keeps B s₀ s) : Keeps B s₀ (s.placeFailed ix err) :=
  loadEnd (foldl (ite (release h) (putTickets (noImage (release h)))) fun h => ite (flashForget h) h)

theorem loadActivate (h : Keeps B s₀ s) : Keeps B s₀ s.loadActivate := ite (modeStart h) h

theorem placeDone {ix} (h : Keeps B s₀ s) : Keeps B s₀ (s.placeDone ix) := loadActivate h

/-! #### Writing an image (R147, steps 5 to 7) -/

theorem putExtent {x} (h : Keeps B s₀ s) : Keeps B s₀ (s.putExtent x) := ite h h

theorem putGram {x} (h : Keeps B s₀ s) : Keeps B s₀ (s.putGram x) := hubWrite (hubWrite (hubWrite h))

theorem putSamp {r} (h : Keeps B s₀ s) : Keeps B s₀ (s.putSamp r) := fset (foldl h fun h => h)

theorem admitLoad {h' img} (h : Keeps B s₀ s) : Keeps B s₀ (s.admitLoad h' img) := ite (setAsideAll (loadTickets h)) (loadTickets h)

theorem loadWrite {h' lic img} (h : Keeps B s₀ s) : Keeps B s₀ (s.loadWrite h' lic img) :=
  degradeCheck (loadActivate (loadState (foldl
    (foldl (foldl (foldl (foldl (foldl (foldl (foldl (ite (release h) (admitLoad (foldl (rset (release h)) fun h => h))) fun h => h)
    fun h => pipeUpd h) fun h => h) fun h => putExtent h) fun h => loadEngine h) fun h => putGram h) fun h => putSamp h) fun h => h)))

/-! #### The fit check of an image's bytes (R145) -/

theorem fitImage {l} (h : Keeps B s₀ s) : Keeps B s₀ (s.fitImage l).1 := by
  unfold State.fitImage
  split
  · exact h
  · refine iteOver h ?_
    extract_lets v
    refine iteOver (vfyFail h) ?_
    extract_lets
    split
    · exact h
    · split
      · exact h
      · extract_lets c rec_
        refine iteOver (vfyFail h) ?_
        extract_lets
        split
        · exact h
        · exact h

theorem loadBytes {host} (h : Keeps B s₀ s) : Keeps B s₀ (s.loadBytes host).1 := iteOver h (settle (readAt h))

theorem exec_imageLoad {v host} (h : Keeps B s₀ s) : Res.Kept B s₀ (execImageLoad v host s) := by
  unfold execImageLoad
  refine .ite h (.ite (fset h) ?_)
  extract_lets s0 r notIdle
  have hr : Keeps B s₀ r.1 := loadBytes (fset (fset (fset h)))
  refine .ite (loadEnd hr) ?_
  split
  · rename_i e
    exact loadRefused (of_eq e (fitImage hr))
  · rename_i e
    have h1 := of_eq e (fitImage hr)
    exact .ite (loadWrite (with_load h1)) (loadState (with_load_doze h1))

theorem loadWoken {d ok} (h : Keeps B s₀ s) : Keeps B s₀ (s.loadWoken d ok) := by
  unfold State.loadWoken
  refine ite h (ite (placeFailed h) ?_)
  dsimp only
  refine ite h ?_
  split
  · rename_i e
    exact loadRefused (of_eq e (fitImage h))
  · rename_i e
    exact loadWrite (of_eq e (fitImage h))

theorem seedEngines (h : Keeps B s₀ s) : Keeps B s₀ s.seedEngines := tick (foldl h fun h => h)

theorem exec_imageLoaded (h : Keeps B s₀ s) : Res.Kept B s₀ (execImageLoaded s) := by
  unfold execImageLoaded
  extract_lets +onlyGivenNames phase
  refine .ite (loadActivate h) (.ite (placeFailed h) (.ite h ?_))
  extract_lets +onlyGivenNames u s1
  have h1 : Keeps B s₀ s1 := foldl h fun h => spanUpd h
  extract_lets _ _ _ s2 s3 s4 s5
  have h2 : Keeps B s₀ s2 := with_image_gen (seedEngines h1)
  have h3 : Keeps B s₀ s3 := fset (foldl (rset h2) fun h => rset h)
  have h4 : Keeps B s₀ s4 := by
    refine ite h3 ?_
    split
    · exact licForce h3
    · exact licBoot h3
  have h5 : Keeps B s₀ s5 := loadEnd h4
  exact degradeCheck (ite (raise h5) h5)

/-! ### The compute die -/

/-! #### The row mapping -/

theorem setMap {d r w} (h : Keeps B s₀ s) : Keeps B s₀ (s.setMap d r w) := h

theorem logMap {d r w cause ok} (h : Keeps B s₀ s) : Keeps B s₀ (s.logMap d r w cause ok) := logRec h

theorem substResult {d r v} (h : Keeps B s₀ s) : Keeps B s₀ (s.substResult d r v) := ite (raise h) h

/-! #### Fencing a site -/

theorem engineLost {e} (h : Keeps B s₀ s) : Keeps B s₀ (s.engineLost e) := by
  unfold State.engineLost
  dsimp only
  refine modeAbsent (abortEngine ?_)
  split
  · exact ownFault (abortTask h)
  · exact syncAbort h

theorem fence {k cause ok} (h : Keeps B s₀ s) : Keeps B s₀ (s.fence k cause ok) := by
  unfold State.fence
  dsimp only
  refine ite ?_ (ite (raise (logMap h)) (ite (substResult (raise (logMap (logMap h)))) h))
  refine settle (degradeCheck (raise (logMap ?_)))
  split
  · exact engineLost h
  · exact h

theorem heartbeats {d missed ok} (h : Keeps B s₀ s) : Keeps B s₀ (s.heartbeats d missed ok) :=
  foldl h fun h => ite (ite (ite (fence h) (raise h)) h) h

theorem exec_engFence {site v logOk} (h : Keeps B s₀ s) : Res.Kept B s₀ (execEngFence site v logOk s) := .ite (fence h) h

theorem exec_controlParityError {site logOk} (h : Keeps B s₀ s) : Res.Kept B s₀ (execControlParityError site logOk s) := fence h

theorem exec_powerGateFault {site logOk} (h : Keeps B s₀ s) : Res.Kept B s₀ (execPowerGateFault site logOk s) := fence h

/-! #### Substitution -/

theorem exec_rowSubst {d v meshBusy} (h : Keeps B s₀ s) : Res.Kept B s₀ (execRowSubst d v meshBusy s) := by
  unfold execRowSubst
  dsimp only
  refine .ite h (.ite (substResult h) ?_)
  split
  · exact substResult h
  · exact substResult h
  · exact substResult h

theorem fillSite {k} (h : Keeps B s₀ s) : Keeps B s₀ (s.fillSite k) := withMem h

theorem exec_substPortBind {d r logOk} (h : Keeps B s₀ s) : Res.Kept B s₀ (execSubstPortBind d r logOk s) := by
  unfold execSubstPortBind
  dsimp only
  split
  · exact .ite (settle (substResult (degradeCheck (loadEngine (setMap (fillSite (logMap h))))))) (substResult (setMap (logMap h)))
  · exact h

/-! #### Edge routers -/

theorem exec_edgeSelWrite {d v} (h : Keeps B s₀ s) : Res.Kept B s₀ (execEdgeSelWrite d v s) := .ite h (foldl h fun h => h)

theorem exec_edgeSelApply {e} (h : Keeps B s₀ s) : Res.Kept B s₀ (execEdgeSelApply e s) := .ite h h

/-! #### Multicast -/

theorem exec_mcastDeliver {d mask off data pois lost} (h : Keeps B s₀ s) :
    Res.Kept B s₀ (execMcastDeliver d mask off data pois lost s) := by
  unfold execMcastDeliver
  dsimp only
  split
  · exact h
  · rename_i e
    refine foldl (eachUnit h crossBy e) fun {t k} h => ite (mcastSkip h) ?_
    split
    · rename_i e
      exact settle ((lay h).ok e)
    · rename_i e
      exact settle ((lay h).fault e)
    · exact h

/-! #### The barrier -/

theorem exec_barrierArrive {e} (h : Keeps B s₀ s) : Res.Kept B s₀ (execBarrierArrive e s) := .ite (.ite h h) h

theorem exec_barrierRelease {e} (h : Keeps B s₀ s) : Res.Kept B s₀ (execBarrierRelease e s) := .ite h h

/-! #### The seam -/

theorem exec_seamStallAlert {d cycles} (h : Keeps B s₀ s) : Res.Kept B s₀ (execSeamStallAlert d cycles s) := .ite (raise h) h

/-! ### The command headers of the causeway -/

theorem flitsOut {p k kind tag l} (h : Keeps B s₀ s) : Keeps B s₀ (s.flitsOut p k kind tag l) := foldl (flitsCross h) fun h => emit h

theorem readFlits {p k h' a bytes pois} (h : Keeps B s₀ s) : Keeps B s₀ (s.readFlits p k h' a bytes pois) := flitsOut h

theorem cplFlit {p k h' st} (h : Keeps B s₀ s) : Keeps B s₀ (s.cplFlit p k h' st) := flitsOut h

/-! ### How requests that come over a Wealey port or from the host are answered -/

/-! #### Errors and completions (R346) -/

theorem hbrErr {f addr fn} (h : Keeps B s₀ s) : Keeps B s₀ (s.hbrErr f addr fn) := raise (tick (fset (fset (fset (ite h h)))))

theorem hostComplete {fn tag p} (h : Keeps B s₀ s) : Keeps B s₀ (s.hostComplete fn tag p) := emit h

theorem hostData {fn tag addr data pois} (h : Keeps B s₀ s) : Keeps B s₀ (s.hostData fn tag addr data pois) :=
  ite (hostComplete (hbrErr h)) (hostComplete h)

theorem hostAbort {fn tag addr} (h : Keeps B s₀ s) : Keeps B s₀ (s.hostAbort fn tag addr) := hostComplete (hbrErr h)

theorem hostUnsupported {fn tag addr} (h : Keeps B s₀ s) : Keeps B s₀ (s.hostUnsupported fn tag addr) := hostComplete (hbrErr h)

theorem hostDrop {fn addr} (h : Keeps B s₀ s) : Keeps B s₀ (s.hostDrop fn addr) := reply (hbrErr h)

/-! #### Doorbells (R347) -/

theorem hostRing {fn addr v} (h : Keeps B s₀ s) : Keeps B s₀ (s.hostRing fn addr v) := by
  unfold State.hostRing
  split
  · exact h
  · refine ite (via h (exec_doorbell h)) ?_
    extract_lets t s1
    have h1 : Keeps B s₀ s1 := transferOut h
    exact with_grp h1

theorem ringHeld {l} (h : Keeps B s₀ s) : Keeps B s₀ (State.ringHeld l s) := by
  induction l generalizing s with
  | nil => exact h
  | cons x l ih => exact ite h (ih (hostRing h))

theorem ringNext (h : Keeps B s₀ s) : Keeps B s₀ s.ringNext := ringHeld h

theorem hostDoorbell {fn addr v} (h : Keeps B s₀ s) : Keeps B s₀ (s.hostDoorbell fn addr v) := ringNext h

/-! #### Requests that this device has sent (R326, R346) -/

theorem winPart {w tag data pois} (h : Keeps B s₀ s) : Keeps B s₀ (s.winPart w tag data pois) := ite (hostData h) h

theorem tagDone {tag status data pois} (h : Keeps B s₀ s) : Keeps B s₀ (s.tagDone tag status data pois) := by
  unfold State.tagDone
  dsimp only
  split
  · exact ite (winPart h) (hostAbort h)
  · exact ringNext (ite (hostDrop h) (ite (settle (dropped h)) h))
  · exact stepTag (ite h h)

/-! #### Requests served here (R326, R346) -/

theorem respond {f status data pois} (h : Keeps B s₀ s) : Keeps B s₀ (s.respond f status data pois) := h

theorem answerDie {p q write} (h : Keeps B s₀ s) : Keeps B s₀ (s.answerDie p q write) := by
  unfold State.answerDie
  split
  · exact h
  · dsimp only
    split
    · exact cplFlit h
    · exact cplFlit h
    · exact readFlits h
    · exact cplFlit h

theorem answer {q write} (h : Keeps B s₀ s) : Keeps B s₀ (s.answer q write) := by
  unfold State.answer
  split
  · split
    · exact h
    · dsimp only
      split
      · exact h
      · exact h
      · exact h
      · exact h
  · split
    · refine ringNext ?_
      split
      · exact hostDrop h
      · exact h
    · split
      · exact h
      · dsimp only
        split
        · exact hostData h
        · exact hostAbort h
  · exact answerDie h
  · exact h

/-! ### Pair sets -/

/-! #### Consistency and adoption -/

theorem pairPut {l x} (h : Keeps B s₀ s) : Keeps B s₀ (s.pairPut l x) := by
  unfold State.pairPut
  dsimp only
  split
  · exact h
  · exact h
  · exact h
  · refine foldl h fun h => ?_
    split
    · exact h
    · exact h

theorem pairAdopted {a} (h : Keeps B s₀ s) : Keeps B s₀ (s.pairAdopted a) := by
  unfold State.pairAdopted
  split
  · exact ite (rset (avgReset h)) (avgReset h)
  · exact ite h h
  · exact h
  · exact h

theorem pairAdopt {l xs} (h : Keeps B s₀ s) : Keeps B s₀ (s.pairAdopt l xs) := foldl (foldl h fun h => pairPut h) fun h => pairAdopted h

theorem pairShow (h : Keeps B s₀ s) : Keeps B s₀ s.pairShow := h

theorem pairTry {x} (h : Keeps B s₀ s) : Keeps B s₀ (s.pairTry x) := ite h (ite (raise h) (ite h (pairShow (pairAdopt h))))

theorem pairWake {x} (h : Keeps B s₀ s) : Keeps B s₀ (s.pairWake x) := ite (pairTry h) h

theorem pairWrite {k v} (h : Keeps B s₀ s) : Keeps B s₀ (s.pairWrite k v) := by
  unfold State.pairWrite
  dsimp only
  refine ite h (ite ?_ h)
  split
  · exact pairTry h
  · exact h

theorem rwpWrite {r v} (h : Keeps B s₀ s) : Keeps B s₀ (s.rwpWrite r v) := pairWrite h

theorem exec_rwpWrite {off v} (h : Keeps B s₀ s) : Res.Kept B s₀ (execRwpWrite off v s) := by
  unfold execRwpWrite
  split
  · exact .ite h (rwpWrite h)
  · exact h

theorem exec_pairCommit {v} (h : Keeps B s₀ s) : Res.Kept B s₀ (execPairCommit v s) := .ite h (modeStart h)

theorem exec_shadowClear {v} (h : Keeps B s₀ s) : Res.Kept B s₀ (execShadowClear v s) := .ite h h

theorem exec_pairAbandon {v} (h : Keeps B s₀ s) : Res.Kept B s₀ (execPairAbandon v s) := .ite h h

theorem exec_levelWrite {v} (h : Keeps B s₀ s) : Res.Kept B s₀ (execLevelWrite v s) := .ite h h

/-! ### The meanings of the memory commands -/

/-! #### Reads and writes (R160, R174, R203, R207) -/

theorem wakeSite {a} (h : Keeps B s₀ s) : Keeps B s₀ (s.wakeSite a) := by
  unfold State.wakeSite
  split
  · exact h
  · exact h

theorem atResource {q r write held} (h : Keeps B s₀ s) : Keeps B s₀ (s.atResource q r write held) :=
  ite (ite (wrap (queueLevel h)) (queueLevel h)) (countRead (ite (wrap (queueLevel h)) (queueLevel h)))

theorem serveRead {q} (h : Keeps B s₀ s) : Keeps B s₀ (s.serveRead q) := by
  unfold State.serveRead
  refine ite (reply h) ?_
  extract_lets p r s1
  have h1 : Keeps B s₀ s1 := settle (readAt (wakeSite h))
  refine ite (reply h1) ?_
  split
  · exact ite (reply h1) (reply h1)
  · exact reply h1

theorem serveWrite {q} (h : Keeps B s₀ s) : Keeps B s₀ (s.serveWrite q) := by
  unfold State.serveWrite
  refine ite (reply h) ?_
  extract_lets w s1
  have h1 : Keeps B s₀ s1 := writeAt (wakeSite h)
  split
  · exact reply (settle h1)
  · split
    · exact reply (settle (dropped h1))
    · exact reply (settle (dropped h1))
    · exact reply (settle h1)
  · exact reply (settle h1)

theorem crossAll {q rd a n u} (h : Keeps B s₀ s) (e : s.crossAll q rd a n = .ok u) : Keeps B s₀ u := eachUnit h cross e

theorem perform {q write held u} (h : Keeps B s₀ s) (e : s.perform q write held = .ok u) : Keeps B s₀ u := by
  unfold State.perform at e
  obtain ⟨t, ht, rfl⟩ := ok_of_map e
  have ha : Keeps B s₀ t := crossAll h ht
  extract_lets s1
  have h1 : Keeps B s₀ s1 := by
    dsimp only [s1]
    split
    · exact atResource ha
    · exact ha
  refine answer ?_
  split
  · exact serveWrite h1
  · exact serveRead h1

theorem holdReq {r q write} (h : Keeps B s₀ s) : Keeps B s₀ (s.holdReq r q write) := h

theorem request {q write} (h : Keeps B s₀ s) : Keeps B s₀ (s.request q write) := by
  unfold State.request
  dsimp only
  refine ite (holdReq h) ?_
  split
  · rename_i e
    exact perform h e
  · exact holdReq h

theorem exec_memoryRead {q} (h : Keeps B s₀ s) : Res.Kept B s₀ (execMemoryRead q s) := request h

theorem exec_memoryWrite {q} (e : q.data.length = q.len ∧ q.pois.length = q.len) (h : Keeps B s₀ s) : Res.Kept B s₀ (execMemoryWrite q s) := by
  unfold execMemoryWrite
  rw [if_pos e]
  exact request h

/-! #### Throttling (R25, R166, R223, R226, R227) -/

theorem pumpReqs {n} (h : Keeps B s₀ s) : Keeps B s₀ (State.pumpReqs n s) := by
  induction n generalizing s with
  | zero => exact h
  | succ n ih =>
    unfold State.pumpReqs
    split
    · exact h
    · extract_lets q t _ s1 s2
      have h1 : Keeps B s₀ s1 := with_tkt h
      have h2 : Keeps B s₀ s2 := ite (putCredits h1) h1
      split
      · rename_i e
        exact ih (perform (resUpd (tick h2)) e)
      · exact h

theorem pump (h : Keeps B s₀ s) : Keeps B s₀ s.pump := pumpReqs h

theorem sourceGoes {q} (h : Keeps B s₀ s) : Keeps B s₀ (s.sourceGoes q) := ite (foldl (pump h) fun h => retryRecord h) (pump h)

theorem exec_throttleReceive {q r band hold} (h : Keeps B s₀ s) : Res.Kept B s₀ (execThrottleReceive q r band hold s) :=
  sourceGoes (ite h (flashLetGo h))

theorem exec_leakRelease {q r t} (h : Keeps B s₀ s) : Res.Kept B s₀ (execLeakRelease q r t s) :=
  .ite h (sourceGoes (ite (putCredits (ite h (flashLetGo h))) (ite h (flashLetGo h))))

/-! #### Stacks (R168) -/

theorem markFenced {pos cause} (h : Keeps B s₀ s) : Keeps B s₀ (s.markFenced pos cause) := h

theorem fenceStack {n cause ok} (h : Keeps B s₀ s) : Keeps B s₀ (s.fenceStack n cause ok) := ite h (raise (logRec h))

theorem exec_stackFence {n logOk} (h : Keeps B s₀ s) : Res.Kept B s₀ (execStackFence n logOk s) := fenceStack h

/-! #### Patch entries, macros and pages (R199 to R201) -/

theorem exec_patchRelease {v logOk} (h : Keeps B s₀ s) : Res.Kept B s₀ (execPatchRelease v logOk s) := by
  unfold execPatchRelease
  dsimp only
  split
  · exact h
  · exact .ite h (logRec (withMem h))

theorem macroShow {st} (h : Keeps B s₀ s) : Keeps B s₀ (s.macroShow st) := h

theorem macroApply {site mac cause ok} (h : Keeps B s₀ s) : Keeps B s₀ (s.macroApply site mac cause ok) := macroShow (raise (logRec h))

theorem exec_macroFence {v logOk} (h : Keeps B s₀ s) : Res.Kept B s₀ (execMacroFence v logOk s) :=
  .ite h (.ite h (.ite h (.ite (macroApply h) h)))

theorem exec_macroFenceApply {site macro_ logOk} (h : Keeps B s₀ s) : Res.Kept B s₀ (execMacroFenceApply site macro_ logOk s) :=
  .ite (macroApply h) h

theorem exec_pageRetire {v logOk} (h : Keeps B s₀ s) : Res.Kept B s₀ (execPageRetire v logOk s) := by
  unfold execPageRetire
  extract_lets a p inst show_
  have hs {t : State} {r : Nat} (ht : Keeps B s₀ t) : Keeps B s₀ (show_ t r) := fset ht
  clear_value show_ inst p
  refine .ite h ?_
  split
  · exact hs h
  · refine .ite (hs h) (.ite (hs h) ?_)
    dsimp only
    exact hs (logRec (fset (withMem h)))

theorem exec_flipArm {v} (h : Keeps B s₀ s) : Res.Kept B s₀ (execFlipArm v s) := h

/-! #### Scrubbing (R211, R212) -/

theorem exec_scrubStart {t} (h : Keeps B s₀ s) : Res.Kept B s₀ (execScrubStart t s) := .ite h h

theorem exec_scrubStop (h : Keeps B s₀ s) : Res.Kept B s₀ (execScrubStop s) := h

theorem scrubBlock {p a x} (h : Keeps B s₀ s) (e : s.scrubBlock p a = .ok x) : Keeps B s₀ x.1 := by
  unfold State.scrubBlock at e
  split at e
  · cases e
    exact h
  · obtain ⟨t, ht, rfl⟩ := ok_of_map e
    have h1 : Keeps B s₀ t := pass h ht
    extract_lets m s0
    have h0 : Keeps B s₀ s0 := stackCount (withMem h1)
    split
    · exact h1
    · rename_i e
      exact settle (readBlock h0 e)

theorem scrubFold {x : Except Hold (State × Scrub)} {l : List Nat} {a : Nat → Nat} {r} (hx : ∀ {r}, x = .ok r → Keeps B s₀ r.1)
    (e : l.foldl (fun x i => x.bind fun x => x.1.scrubBlock x.2 (a i)) x = .ok r) : Keeps B s₀ r.1 := by
  induction l generalizing x with
  | nil => exact hx e
  | cons i l ih =>
    refine ih (fun e => ?_) e
    obtain ⟨y, hy, e⟩ := ok_of_bind e
    exact scrubBlock (hx hy) e

theorem exec_scrubDone {scanned} (h : Keeps B s₀ s) : Res.Kept B s₀ (execScrubDone scanned s) := by
  unfold execScrubDone
  split
  · exact h
  · extract_lets n
    split
    · exact waitFor h
    · rename_i e
      have h1 := scrubFold (by rintro _ ⟨⟩; exact h) e
      exact raise (fset (fset (fset (hubWrite (fset (with_scrub h1))))))

/-! ### The meanings of the retrieval engines' commands -/

/-! #### Admission (R267, R270, R271) -/

theorem rtvRead {q a n x} (h : Keeps B s₀ s) (e : s.rtvRead q a n = .ok x) : Keeps B s₀ x.1 := by
  unfold State.rtvRead at e
  obtain ⟨t, ht, rfl⟩ := ok_of_map e
  exact settle (readAt (pass h ht))

theorem rtvWrite {q a data x} (h : Keeps B s₀ s) (e : s.rtvWrite q a data = .ok x) : Keeps B s₀ x.1 := by
  unfold State.rtvWrite at e
  obtain ⟨t, ht, rfl⟩ := ok_of_map e
  exact iteOver (pass h ht) (settle (writeAt (pass h ht)))

theorem orWait {q} {x : Except Hold State} (h : Keeps B s₀ s) (hx : ∀ {t}, x = .ok t → Keeps B s₀ t) : Res.Kept B s₀ (s.orWait q x) := by
  unfold State.orWait
  split
  · exact hx rfl
  · exact waitFor h

theorem searchBegin {k p d} (h : Keeps B s₀ s) : Keeps B s₀ (s.searchBegin k p d) := by
  unfold State.searchBegin
  refine ite ?_ (ite (walkSelect h) (lexFeed h))
  split
  · exact queryFailNow h
  · exact scanFeed h

theorem readIf {q c a n x} (h : Keeps B s₀ s) (e : s.readIf q c a n = .ok x) : Keeps B s₀ x.1 := by
  unfold State.readIf at e
  split at e
  · exact rtvRead h e
  · cases e
    exact h

theorem queryReads {q d x} (h : Keeps B s₀ s) (e : s.queryReads q d = .ok x) : Keeps B s₀ x.1 := by
  unfold State.queryReads at e
  obtain ⟨v, hv, e⟩ := ok_of_bind e
  obtain ⟨t, ht, e⟩ := ok_of_bind e
  obtain ⟨c, hc, e⟩ := ok_of_bind e
  cases e
  exact readIf (readIf (readIf h hv) ht) hc

theorem takeHead {p u} (h : Keeps B s₀ s) (e : s.takeHead p = .ok u) : Keeps B s₀ u := by
  unfold State.takeHead at e
  obtain ⟨r, hr, e⟩ := ok_of_bind e
  obtain ⟨x, hx, e⟩ := ok_of_bind e
  have h1 : Keeps B s₀ x.1 := rtvWrite (with_retr (rset (rtvRead (hubWrite (hubRead h)) hr))) hx
  split at e
  · cases e
    exact queryFailNow (ite (rtvRaise h1) h1)
  · obtain ⟨y, hy, e⟩ := ok_of_bind e
    have h2 : Keeps B s₀ y.1 := queryReads h1 hy
    split at e
    · cases e
      exact queryFailNow h2
    · cases e
      exact searchBegin (qUpd h2)

theorem exec_queryAdmit {p} (h : Keeps B s₀ s) : Res.Kept B s₀ (execQueryAdmit p s) := by
  unfold execQueryAdmit
  refine .ite h ?_
  split
  · exact rtvEvt h
  · exact rtvEvt h
  · exact h
  · exact orWait h (takeHead h)

/-! #### Delivered units (R277, R278, R282) -/

theorem nextUnit {k x} (h : Keeps B s₀ s) (e : s.nextUnit k = some x) : Keeps B s₀ x.2 := by
  unfold State.nextUnit at e
  split at e
  · cases e
  · cases e
    exact flashUpd h

theorem useUnit {k p q u} (h : Keeps B s₀ s) : Keeps B s₀ (s.useUnit k p q u) := by
  unfold State.useUnit
  extract_lets d s0 zo spare
  have h0 : Keeps B s₀ s0 := pipeUpd (qUpd h)
  refine ite h0 (ite (queryFailNow h0) (ite (queryFailNow h0) (ite ?scan (ite ?graph ?lexical))))
  case scan => exact qUpd (scanFeed (qUpd h0))
  case graph =>
    split
    · exact qUpd h0
    · exact queryFailNow h0
  case lexical =>
    split
    · exact queryFailNow h0
    · exact ite (qUpd (with_retr h0)) (lexFeed (with_retr h0))

theorem exec_unitDelivered {p i} (h : Keeps B s₀ s) : Res.Kept B s₀ (execUnitDelivered p i s) := by
  unfold execUnitDelivered
  dsimp only
  split
  · rename_i e
    have h1 := nextUnit h e
    exact .ite (qUpd h1) (useUnit h1)
  · exact h

/-! #### Walk rounds (R278) -/

theorem exec_walkRound {p i} (h : Keeps B s₀ s) : Res.Kept B s₀ (execWalkRound p i s) := by
  unfold execWalkRound
  dsimp only
  split
  · exact h
  · refine .ite h ?_
    split
    · exact queryFailNow h
    · exact walkSelect h

/-! #### Ends (R285 to R290) -/

theorem exec_queryEnd {p i} (h : Keeps B s₀ s) : Res.Kept B s₀ (execQueryEnd p i s) := by
  unfold execQueryEnd
  dsimp only
  split
  · exact h
  · refine .ite h (orWait h fun e => ?_)
    obtain ⟨w, hw, rfl⟩ := ok_of_map e
    have h1 := rtvWrite h hw
    exact ite (qUpd h1) (queryFailNow h1)

theorem exec_queryFail {p i} (h : Keeps B s₀ s) : Res.Kept B s₀ (execQueryFail p i s) := by
  unfold execQueryFail
  dsimp only
  split
  · split
    · exact .ite h (rtvRaise h)
    · exact h
  · exact h

theorem exec_resultHeaderWrite {p i} (h : Keeps B s₀ s) : Res.Kept B s₀ (execResultHeaderWrite p i s) := by
  unfold execResultHeaderWrite
  extract_lets k
  split
  · exact h
  · refine .ite h (orWait h fun e => ?_)
    obtain ⟨w, hw, rfl⟩ := ok_of_map e
    extract_lets s2 ev s3
    have h2 : Keeps B s₀ s2 := pipeUpd (rtvWrite h hw)
    have h3 : Keeps B s₀ s3 := ite h2 (spanEvent h2)
    exact ite (pipeUpd (qUpd h3)) (queryRelease h3)

/-! #### Forwards (R288, R289) -/

theorem exec_forwardStart {p} (h : Keeps B s₀ s) : Res.Kept B s₀ (execForwardStart p s) := by
  unfold execForwardStart
  extract_lets u
  split
  · exact h
  · split
    · exact pipeUpd h
    · refine .ite (queryRelease (pipeUpd h)) (.ite h (orWait h fun e => ?_))
      split at e
      · rename_i e1
        cases e
        exact pipeUpd (settle ((storeRoute h).ok e1))
      · rename_i e1
        cases e
        exact pipeUpd (settle ((storeRoute h).fault e1))
      · cases e

theorem exec_forwardDoorbell {p} (h : Keeps B s₀ s) : Res.Kept B s₀ (execForwardDoorbell p s) := by
  unfold execForwardDoorbell
  extract_lets u r run
  split
  · exact h
  · extract_lets tk s0 v s1
    have h0 : Keeps B s₀ s0 := queryRelease (pipeUpd h)
    have h1 : Keeps B s₀ s1 := groupCmd (ringSpan h0)
    exact .ite h0 (.ite (pipeUpd h1) h1)

theorem exec_forwardFree {p} (h : Keeps B s₀ s) : Res.Kept B s₀ (execForwardFree p s) := .ite (pipeUpd h) h

/-! #### Fencing, and reading results (R283, R291) -/

theorem reLost {e} (h : Keeps B s₀ s) : Keeps B s₀ (s.reLost e) := foldl h fun h => queryFailNow h

theorem exec_reFence {mask logOk} (h : Keeps B s₀ s) : Res.Kept B s₀ (execReFence mask logOk s) :=
  degradeCheck (foldl h fun h => ite h (rtvRaise (reLost (logRec h))))

theorem rtvDieLost (h : Keeps B s₀ s) : Keeps B s₀ s.rtvDieLost := degradeCheck (foldl h fun h => queryFailNow h)

theorem exec_resultReadAdvance {p v} (h : Keeps B s₀ s) : Res.Kept B s₀ (execResultReadAdvance p v s) := .ite h (.ite h h)

/-! ### What a reset or the loss of the main side's rails leaves -/

theorem resetTo {k} (h : Keeps BlownFrom s₀ s) : Keeps BlownFrom s₀ (State.resetTo k s) := by
  obtain ⟨hlog, hfuses, hqueue⟩ := h
  exact ⟨hlog, hfuses.trans (BlownFrom.cut _ _ _), hqueue⟩

/-! ### The rails -/

/-! #### Rails (R359) -/

theorem railUpd {r f} (h : Keeps B s₀ s) : Keeps B s₀ (s.railUpd r f) := h

/-! #### The crash capture (R449, R450) -/

theorem captureOf {cause words} (h : Keeps B s₀ s) : Keeps B s₀ (s.captureOf cause words) := ite h (alertBit h)

theorem capture {cause span} (h : Keeps B s₀ s) : Keeps B s₀ (s.capture cause span) := captureOf h

theorem mirror (h : Keeps B s₀ s) : Keeps B s₀ s.mirror := h

/-! #### Faults of the whole device (R24, R354, R366, R434) -/

theorem stopAll (h : Keeps B s₀ s) : Keeps B s₀ s.stopAll.1 := foldl (setSpans (haltWork h)) fun h => spanEvent h

theorem deviceFault {cause} (h : Keeps B s₀ s) : Keeps B s₀ (s.deviceFault cause) := settle (capture (stopAll h))

theorem shutdown {code} (h : Keeps BlownFrom s₀ s) : Keeps BlownFrom s₀ (s.shutdown code) := with_faultN_bup (resetTo h)

theorem thermTrip (h : Keeps BlownFrom s₀ s) : Keeps BlownFrom s₀ s.thermTrip := with_thm (shutdown (ite (capture h) h))

/-! #### Thresholds (R432, R433) -/

theorem thmEvt {i} (h : Keeps B s₀ s) : Keeps B s₀ (s.thmEvt i) := raise h

theorem crossThr {r on c pos} (h : Keeps B s₀ s) : Keeps B s₀ (s.crossThr r on c pos) := ite (thmEvt h) (ite (thmEvt h) h)

theorem crossLimits (h : Keeps B s₀ s) : Keeps B s₀ s.crossLimits := foldl h fun h => crossThr (crossThr h)

theorem throttleTick {k} (h : Keeps B s₀ s) : Keeps B s₀ (s.throttleTick k) := ite (ite h h) (ite h (ite h h))

/-! ### The operations of the Wealey links that several meanings share -/

/-! #### Ports -/

theorem setPort {q st reason} (h : Keeps B s₀ s) : Keeps B s₀ (s.setPort q st reason) := h

theorem portUpd {q f} (h : Keeps B s₀ s) : Keeps B s₀ (s.portUpd q f) := h

theorem portEvt {q f} (h : Keeps B s₀ s) : Keeps B s₀ (s.portEvt q f) := setLine h

/-! #### The group -/

theorem devUpd {d f} (h : Keeps B s₀ s) : Keeps B s₀ (s.devUpd d f) := h

theorem grpUpd {f} (h : Keeps B s₀ s) : Keeps B s₀ (s.grpUpd f) := h

theorem slicesFreed {q f} (h : Keeps B s₀ s) : Keeps B s₀ (s.slicesFreed q f) := h

theorem entryFreed {q} (h : Keeps B s₀ s) : Keeps B s₀ (s.entryFreed q) := h

theorem reportGo {q} (h : Keeps B s₀ s) : Keeps B s₀ (s.reportGo q) := emit h

/-! #### Lost devices (R339) -/

theorem markLost {d} (h : Keeps B s₀ s) : Keeps B s₀ (s.markLost d) := ite h (settle (raise (degradeCheck (modeAbsent (foldl h fun h => h)))))

theorem unmarkLost {d} (h : Keeps B s₀ s) : Keeps B s₀ (s.unmarkLost d) := ite (raise (degradeCheck h)) h

/-! #### Adopting a table (R337) -/

theorem adoptTable {gen l} (h : Keeps B s₀ s) : Keeps B s₀ (s.adoptTable gen l) := by
  unfold State.adoptTable
  extract_lets s1 s2 s3 s4
  have h1 : Keeps B s₀ s1 := foldl h fun h => ite (grpUpd (devUpd h)) (devUpd h)
  have h3 : Keeps B s₀ s3 := raise (grpUpd (fset (with_ports h1)))
  have h4 : Keeps B s₀ s4 := foldl h3 fun h => ite (unmarkLost h) h
  exact ite (sendHeld (raise (fset h4))) h4

theorem newTables (h : Keeps B s₀ s) : Keeps B s₀ s.newTables := foldl (adoptTable h) fun h => foldl h fun h => h

/-! #### Links recorded (R334, R339) -/

theorem linkDegraded (h : Keeps B s₀ s) : Keeps B s₀ s.linkDegraded := ite h (degradeCheck h)

theorem recordLink {d p up peer peerPort} (h : Keeps B s₀ s) : Keeps B s₀ (s.recordLink d p up peer peerPort) :=
  linkDegraded (ite h (ite h h))

theorem reportPort {q up} (h : Keeps B s₀ s) : Keeps B s₀ (s.reportPort q up) :=
  ite (newTables (recordLink h)) (ite (entryOut (recordLink h)) h)

/-! #### A port leaving RUN (R338) -/

theorem removePort {q} (h : Keeps B s₀ s) : Keeps B s₀ (s.removePort q) := h

theorem restorePort {q} (h : Keeps B s₀ s) : Keeps B s₀ (s.restorePort q) := portUpd (foldl h fun h => h)

theorem resend {q all} (h : Keeps B s₀ s) : Keeps B s₀ (s.resend q all) := h

theorem portLeavesRun {q retrain} (h : Keeps B s₀ s) : Keeps B s₀ (s.portLeavesRun q retrain) := by
  unfold State.portLeavesRun
  exact reportPort (resend (removePort h))

theorem portDown {q st reason downEvt} (h : Keeps B s₀ s) : Keeps B s₀ (s.portDown q st reason downEvt) :=
  ite (portEvt (ite (portLeavesRun h) (ite h h))) (ite (portLeavesRun h) (ite h h))

theorem portRetrainStart {q} (h : Keeps B s₀ s) : Keeps B s₀ (s.portRetrainStart q) := ite (portEvt (portUpd (portDown h))) (portLeavesRun h)

/-! ### The operations of the causeway that several meanings share -/

/-! #### Bundles (R22) -/

theorem cwyEvt {p f src} (h : Keeps B s₀ s) : Keeps B s₀ (s.cwyEvt p f src) := ite h (raise h)

theorem refreshRoles {pos} (h : Keeps B s₀ s) : Keeps B s₀ (s.refreshRoles pos) := foldl h fun h => h

theorem setBundle {p st} (h : Keeps B s₀ s) : Keeps B s₀ (s.setBundle p st) := refreshRoles h

/-! #### Repair maps (R307, R313) -/

theorem logLanes {p st clk cause ok} (h : Keeps B s₀ s) : Keeps B s₀ (s.logLanes p st clk cause ok) := foldl h fun h => logRec h

theorem setRepair {p m0 m1} (h : Keeps B s₀ s) : Keeps B s₀ (s.setRepair p m0 m1) := h

/-! #### Fencing a die -/

theorem dropBundles {pos cause} (h : Keeps B s₀ s) : Keeps B s₀ (s.dropBundles pos cause) := foldl h fun h => ite h (bundleUpd (setBundle h))

theorem fillBonded {d} (h : Keeps B s₀ s) : Keeps B s₀ (s.fillBonded d) := withMem h

theorem dieEnds {pos cause} (h : Keeps B s₀ s) : Keeps B s₀ (s.dieEnds pos cause) :=
  ite (ite (fillBonded (foldl h fun h => engineLost h)) (foldl h fun h => engineLost h)) (ite (fset (rtvDieLost h))
    (ite (raise (rset (foldl h fun h => ite (portDown h) h))) (ite (rset (foldl h fun h => ite (portDown h) h))
    (foldl h fun h => ite (portDown h) h))))

theorem fenceDie {pos cause ok} (h : Keeps B s₀ s) : Keeps B s₀ (s.fenceDie pos cause ok) :=
  ite (deviceFault h) (ite (fenceStack h) (ite h (settle (degradeCheck (dieEnds (dropBundles (logRec h)))))))

theorem exec_heartbeatCheck {d x logOk} (h : Keeps B s₀ s) : Res.Kept B s₀ (execHeartbeatCheck d x logOk s) :=
  .ite (ite (fenceDie h) (heartbeats h)) h

/-! #### Requests in command flits (R300) -/

theorem mwrite {q d hdr data pois} (h : Keeps B s₀ s) : Keeps B s₀ (s.mwrite q d hdr data pois).1 := by
  refine foldOver_of_eq (g := Prod.fst) (mcastPrune h) fun h e => ?_
  split at e
  · rename_i e1
    cases e
    exact settle ((lay h).ok e1)
  · rename_i e1
    cases e
    exact settle ((lay h).fault e1)
  · cases e
    exact h

theorem writeIn {p k w} (h : Keeps B s₀ s) : Keeps B s₀ (s.writeIn p k w) := by
  unfold State.writeIn
  dsimp only
  refine ite (cplFlit (dirUpd h)) (ite ?route (ite (ite (cplFlit (dirUpd (mwrite h))) (cplFlit (dirUpd h)))
    (request (dirUpd (dirUpd (tick (tick (tick h))))))))
  case route =>
    split
    · rename_i e
      exact cplFlit (dirUpd (settle ((storeRoute h).ok e)))
    · rename_i e
      exact cplFlit (dirUpd (settle ((storeRoute h).fault e)))
    · exact h

theorem writesIn {p k} (h : Keeps B s₀ s) : Keeps B s₀ (s.writesIn p k) := foldl h fun h => writeIn h

theorem headerIn {p k h'} (h : Keeps B s₀ s) : Keeps B s₀ (s.headerIn p k h') :=
  ite (ite (cplFlit h) (request (dirUpd (tick (tick (tick h)))))) (ite h h)

theorem dataIn {p k tag ws man} (h : Keeps B s₀ s) : Keeps B s₀ (s.dataIn p k tag ws man) := by
  unfold State.dataIn
  split
  · exact h
  · exact writesIn h

/-! #### Retrains and retirement -/

theorem restoreBundles {pos} (h : Keeps B s₀ s) : Keeps B s₀ (s.restoreBundles pos) := by
  unfold State.restoreBundles
  refine foldl h fun h => ?_
  refine ite h ?_
  split
  · exact setBundle h
  · exact setBundle h
  · exact h

theorem retrainBundle {p} (h : Keeps B s₀ s) : Keeps B s₀ (s.retrainBundle p) := ite h (bundleUpd (setBundle h))

theorem mateGoes {p} (h : Keeps B s₀ s) : Keeps B s₀ (s.mateGoes p) := ite (retrainBundle h) h

theorem moveBundle {p} (h : Keeps B s₀ s) : Keeps B s₀ (s.moveBundle p) := foldl h fun h => h

theorem retireBundle {p clk cause ok} (h : Keeps B s₀ s) : Keeps B s₀ (s.retireBundle p clk cause ok) := by
  unfold State.retireBundle
  refine ite h ?_
  extract_lets s1 s2
  have h1 : Keeps B s₀ s1 := cwyEvt (moveBundle (bundleUpd (setBundle h)))
  have h2 : Keeps B s₀ s2 := mateGoes (logLanes h1)
  exact ite (fenceDie h2) h2

theorem laneFailing {p dir lane} (h : Keeps B s₀ s) : Keeps B s₀ (s.laneFailing p dir lane) :=
  ite (tick (retireBundle h)) (ite (ite (retrainBundle h) (ite (tick (retireBundle h)) (cwyEvt h))) h)

/-! ### The operations of the power manager that several meanings share -/

/-! #### Throttle steps (R357, R358) -/

theorem halfSet {h' f v} (h : Keeps B s₀ s) : Keeps B s₀ (s.halfSet h' f v) := h

theorem halfUpdate {h'} (h : Keeps B s₀ s) : Keeps B s₀ (s.halfUpdate h') := ite h (ite h h)

theorem halfRequest {h' f v} (h : Keeps B s₀ s) : Keeps B s₀ (s.halfRequest h' f v) := halfUpdate h

theorem halfApply {h' v} (h : Keeps B s₀ s) : Keeps B s₀ (s.halfApply h' v) := ite h (halfUpdate h)

/-! #### Events -/

theorem pwrEvt {f src} (h : Keeps B s₀ s) : Keeps B s₀ (s.pwrEvt f src) := raise h

theorem dieResult {v} (h : Keeps B s₀ s) : Keeps B s₀ (s.dieResult v) := h

/-! #### Doze (R369) -/

theorem dozeStart {d} (h : Keeps B s₀ s) : Keeps B s₀ (s.dozeStart d) := h

theorem dozeIn {d} (h : Keeps B s₀ s) : Keeps B s₀ (s.dozeIn d) := foldl h fun h => ite h (setBundle h)

theorem dozeOut {d} (h : Keeps B s₀ s) : Keeps B s₀ (s.dozeOut d) :=
  settle (foldl (with_doze (foldl (restoreBundles h) fun h => fillSite h)) fun h => halfUpdate h)

theorem dozeFail {d ok} (h : Keeps B s₀ s) : Keeps B s₀ (s.dozeFail d ok) := by
  unfold State.dozeFail
  exact loadWoken (fenceDie (dieResult h))

/-! #### The power ceiling (R365, R366) and VIN12 (R373) -/

theorem pmStep {h'} (h : Keeps B s₀ s) : Keeps B s₀ (s.pmStep h') := ite (halfRequest h) h

theorem vinStep {h'} (h : Keeps B s₀ s) : Keeps B s₀ (s.vinStep h') := ite (halfRequest h) h

theorem capping (h : Keeps B s₀ s) : Keeps B s₀ s.capping := ite h (pwrEvt h)

theorem timerTick {p} (h : Keeps B s₀ s) : Keeps B s₀ (s.timerTick p) := h

theorem stepDown {p mv} (h : Keeps B s₀ s) : Keeps B s₀ (s.stepDown p mv) := by
  unfold State.stepDown
  refine ite (foldl (ite (capping h) h) fun h => pmStep h) ?_
  refine ite (foldl (ite (capping h) h) fun h => vinStep h) ?_
  refine ite ?_ h
  split
  · exact pmStep (capping h)
  · exact h

theorem ceilingRelease {p mv} (h : Keeps B s₀ s) : Keeps B s₀ (s.ceilingRelease p mv) := by
  unfold State.ceilingRelease
  dsimp only
  refine ite h (ite h ?_)
  split
  · exact h
  · exact halfRequest h

theorem ceilingFlags {p} (h : Keeps B s₀ s) : Keeps B s₀ (s.ceilingFlags p) := ite (ite h (pwrEvt h)) (ite h h)

theorem exhaustedStop (h : Keeps B s₀ s) : Keeps B s₀ s.exhaustedStop := foldl (deviceFault h) fun h => ite h h

theorem peakTick {p} (h : Keeps B s₀ s) : Keeps B s₀ (s.peakTick p) := ite (ite (exhaustedStop h) h) h

/-! #### The main side off -/

theorem clockLost {ref} (h : Keeps BlownFrom s₀ s) : Keeps BlownFrom s₀ (s.clockLost ref) := bset (bset (bset (bset (shutdown (captureOf h)))))

/-! ### The operations of bring-up -/

/-! #### The boot image (R149, R382) -/

theorem bootVerify {obj l} (h : Keeps B s₀ s) : Keeps B s₀ (s.bootVerify obj l).1 := by
  unfold State.bootVerify
  split
  · exact h
  · refine iteOver h (iteOver (vfyFail h) ?_)
    split
    · exact h
    · exact iteOver h h

theorem devset {v cold} (h : Keeps B s₀ s) : Keeps B s₀ (s.devset v cold) := fset (fset (ite (foldl h fun h => h) h))

theorem bootLicence {l} (h : Keeps B s₀ s) : Keeps B s₀ (s.bootLicence l) := licBoot h

theorem bootApply {b cold} (h : Keeps B s₀ s) : Keeps B s₀ (s.bootApply b cold) :=
  fset (rset (putTickets (with_load_sec_bup (devset (ite (bootLicence h) (bootLicence (vfyFail h)))))))

theorem recoveryDefaults (h : Keeps B s₀ s) : Keeps B s₀ s.recoveryDefaults := putTickets (devset (bootLicence h))

/-! #### Stages, levels and events -/

theorem stage {n} (h : Keeps B s₀ s) : Keeps B s₀ (s.stage n) := fset h

theorem stamps {l ks} (h : Keeps B s₀ s) : Keeps B s₀ (s.stamps l ks) := foldl h fun h => ite (rset h) h

theorem feature {lvl final} (h : Keeps B s₀ s) : Keeps B s₀ (s.feature lvl final) := bset (bset (bset (fset h)))

/-! #### Dies, stacks and bundles -/

theorem startFence {pos cause ok} (h : Keeps B s₀ s) : Keeps B s₀ (s.startFence pos cause ok) :=
  ite h (ite (raise (fenceStack h)) (raise (ite (with_bup (dropBundles (logRec (markFenced h)))) (dropBundles (logRec (markFenced h))))))

theorem bundleStart {v f warm p} (h : Keeps B s₀ s) : Keeps B s₀ (s.bundleStart v f warm p) := by
  unfold State.bundleStart
  refine ite h ?_
  extract_lets t known maps base retired
  have hretired {t : State} {clk : Nat} (ht : Keeps B s₀ t) : Keeps B s₀ (retired t clk) := raise (logLanes (cwyEvt (setBundle ht)))
  have hknown : Keeps B s₀ known := foldl h fun h => rset (dirUpd h)
  have hbase : Keeps B s₀ base := by
    dsimp only [base]
    split
    · exact setRepair hknown
    · exact hknown
  clear_value retired base known maps t
  refine ite (bundleUpd (setBundle hbase)) (ite (ite (setBundle hbase) (setBundle hbase)) ?_)
  split
  · split
    · exact setBundle (setRepair hbase)
    · exact ite (setBundle hbase) (hretired hbase)
  · refine ite (hretired (bundleUpd hbase)) ?_
    extract_lets s1
    have h1 : Keeps B s₀ s1 := foldl (foldl hbase fun h => dirUpd h) fun h => dirUpd h
    clear_value s1
    split
    · have h2 {m0 m1 : List Nat} : Keeps B s₀ ((s1.setRepair p m0 m1).setBundle p 2) := setBundle (setRepair h1)
      exact ite h2 (logLanes h2)
    · exact ite (setBundle h1) (hretired h1)

theorem dieStart {v f warm pos} (h : Keeps B s₀ s) : Keeps B s₀ (s.dieStart v f warm pos) := by
  unfold State.dieStart
  refine ite h ?_
  dsimp only
  split
  · exact startFence h
  · exact ite (startFence (foldl h fun h => bundleStart h)) (foldl h fun h => bundleStart h)

/-! #### Failing words, macros and rows (R388) -/

theorem applyFences {v warm} (h : Keeps B s₀ s) : Keeps B s₀ (s.applyFences v warm) :=
  foldl (foldl h fun h => ite h (dropBundles (markFenced h))) fun h => ite h (markFenced (fset h))

theorem failWord {a ok} (h : Keeps B s₀ s) : Keeps B s₀ (s.failWord a ok).1 := by
  unfold State.failWord
  split
  · exact h
  · dsimp only
    refine iteOver h ?_
    split
    · exact logRec h
    · exact iteOver h (logRec (fset h))

theorem failWords {f ik} (h : Keeps B s₀ s) : Keeps B s₀ (s.failWords f ik).1 := foldOver (g := Prod.fst) h fun h => failWord h

theorem stackStart {f warm n} (h : Keeps B s₀ s) : Keeps B s₀ (s.stackStart f warm n) := by
  unfold State.stackStart
  refine ite h ?_
  dsimp only
  split
  · exact startFence (fset h)
  · exact ite (fset h) (ite (failWords (fset h)) (startFence (failWords (fset h))))

theorem setIlMode (h : Keeps B s₀ s) : Keeps B s₀ s.setIlMode := foldl h fun h => bset (fset (bset h))

/-! #### The row mappings (R102, R103) -/

theorem buildRow {v bad d r ok} (h : Keeps B s₀ s) : Keeps B s₀ (s.buildRow v bad d r ok) := by
  unfold State.buildRow
  dsimp only
  split
  · exact setMap (foldl h fun h => raise h)
  · exact setMap (logMap (foldl h fun h => raise h))

theorem macroFenced {site mac} (h : Keeps B s₀ s) : Keeps B s₀ (s.macroFenced site mac) := raise h

theorem macroStart {v f warm site} (h : Keeps B s₀ s) : Keeps B s₀ (s.macroStart v f warm site).1 := by
  unfold State.macroStart
  extract_lets known pend s1 s2 fails
  have h2 : Keeps B s₀ s2 := foldl (foldl (siteUpd h) fun h => macroFenced h) fun h => macroApply h
  exact iteOver h2 (foldl h2 fun h => ite h (raise (logRec (macroFenced h))))

theorem sitesStart {v f warm d} (h : Keeps B s₀ s) : Keeps B s₀ (s.sitesStart v f warm d) := by
  unfold State.sitesStart
  extract_lets rows _ s1 macs
  have hrows : Keeps B s₀ rows.1 := foldOver (g := Prod.fst) h fun h => iteOver h (iteOver (failWords h) (failWords h))
  have hmacs : Keeps B s₀ macs.1 := foldOver (g := Prod.fst) (with_deadRows hrows) fun h => macroStart h
  exact foldl hmacs fun h => buildRow h

/-! ### The meanings of the resets, of the starts that follow them and of a pushed boot image -/

/-! #### The starts -/

theorem startCause {down path} (h : Keeps B s₀ s) : Keeps B s₀ (s.startCause down path) := with_pwr_bup (fset (rset h))

theorem startClocks {ref pll} (h : Keeps B s₀ s) : Keeps B s₀ (s.startClocks ref pll) := bset (bset (bset h))

theorem fromLog {v warm} (h : Keeps B s₀ s) : Keeps B s₀ (s.fromLog v warm) := by
  unfold State.fromLog
  extract_lets pages m m1 s1 res
  have h1 : Keeps B s₀ s1 := settle (withMem h)
  exact applyFences (bset (fset (fset h1)))

theorem retrievalStart {v f warm} (h : Keeps B s₀ s) : Keeps B s₀ (s.retrievalStart v f warm) :=
  ite (fset (ite h (markFenced h))) (ite (fset (dieStart h)) (foldl (fset (dieStart h)) fun h => ite h (raise (logRec (fset h)))))

theorem linkStart {v f warm pos} (h : Keeps B s₀ s) : Keeps B s₀ (s.linkStart v f warm pos) :=
  ite (dieStart h) (foldl (dieStart h) fun h => setPort h)

theorem keptVerify {held} (h : Keeps B s₀ s) : Keeps B s₀ (s.keptVerify held) := by
  unfold State.keptVerify
  exact ite (bset (withMem h)) (bset (withMem h))

theorem endpoint (h : Keeps B s₀ s) : Keeps B s₀ s.endpoint := bset h

theorem startRest {f warm held} (h : Keeps B s₀ s) : Keeps B s₀ (s.startRest f warm held) := by
  unfold State.startRest
  extract_lets v s1 s2 s3 s4 s5
  have h1 : Keeps B s₀ s1 := setIlMode (foldl h fun h => stackStart h)
  have h2 : Keeps B s₀ s2 := retrievalStart (endpoint (foldl h1 fun h => linkStart h))
  have h3 : Keeps B s₀ s3 := ite (keptVerify h2) h2
  have h4 : Keeps B s₀ s4 := stamps h3
  exact fset (stage (ite (ldpEvt h4) h4))

theorem recovery {f warm} (h : Keeps B s₀ s) : Keeps B s₀ (s.recovery f warm) :=
  ite (stamps (endpoint (linkStart (alertBit (stage (recoveryDefaults h)))))) (stamps (alertBit (stage (recoveryDefaults h))))

theorem startRun {f warm held down path} (h : Keeps B s₀ s) : Keeps B s₀ (s.startRun f warm held down path) := by
  unfold State.startRun
  extract_lets v _ s0 s1 hub _ s2
  have h0 : Keeps B s₀ s0 := ite h (with_bup h)
  have h1 : Keeps B s₀ s1 := bset (fromLog (startCause (startClocks h0)))
  have hh : Keeps B s₀ hub.1 := iteOver h1 (foldOver (g := Prod.fst) h1 fun h => failWords h)
  have h2 : Keeps B s₀ s2 := with_faultN (feature hh)
  refine ite (stage (deviceFault hh)) ?_
  split
  · exact recovery h2
  · split
    · rename_i e
      exact recovery (of_eq e (bootVerify h2))
    · rename_i e
      exact startRest (bootApply (of_eq e (bootVerify h2)))

theorem sampleStraps {x} (h : Keeps B s₀ s) : Keeps B s₀ (s.sampleStraps x) := by
  unfold State.sampleStraps
  split
  · exact h
  · exact h

theorem exec_coldStart {f} (h : Keeps B s₀ s) : Res.Kept B s₀ (execColdStart f s) :=
  .ite h (.ite (stage (startClocks h)) (startRun (sampleStraps h)))

theorem exec_warmStart {f kept} (h : Keeps B s₀ s) : Res.Kept B s₀ (execWarmStart f kept s) := by
  unfold execWarmStart
  refine .ite h ?_
  extract_lets down
  refine .ite (stage (startClocks h)) (.ite (startRun h) ?_)
  have h0 : Keeps B s₀ ({ s with mem := default, keep := default, deadRows := [] } : State) := h
  exact startRun h0

/-! #### The waves -/

theorem startEnd (h : Keeps B s₀ s) : Keeps B s₀ s.startEnd :=
  ite (foldl (stage (feature h)) fun h => ite (retrainBundle h) h) (stage (feature h))

theorem dieWave {v f warm d} (h : Keeps B s₀ s) : Keeps B s₀ (s.dieWave v f warm d) := ite (dieStart h) (sitesStart (dieStart h))

theorem exec_computeWave {f} (h : Keeps B s₀ s) : Res.Kept B s₀ (execComputeWave f s) :=
  .ite h (raise (ite (startEnd (stamps (fset (dieWave (dieWave h))))) (stage (stamps (fset (dieWave (dieWave h)))))))

/-! #### Pushed images (R383, R384) -/

theorem pushReply {st code} (h : Keeps B s₀ s) : Keeps B s₀ (s.pushReply st code) := ite (reply (cnt h)) h

theorem pushEnd {st code} (h : Keeps B s₀ s) : Keeps B s₀ (s.pushEnd st code) := pushReply (raise (fset (fset h)))

theorem pushAccept {b f} (h : Keeps B s₀ s) : Keeps B s₀ (s.pushAccept b f) := ite (startRest (bootApply (pushEnd h))) (pushEnd h)

theorem pushVerify {len} (h : Keeps B s₀ s) : Keeps B s₀ (s.pushVerify len).1 := by
  unfold State.pushVerify
  dsimp only
  split
  · rename_i e
    exact iteOver (of_eq e (bootVerify (settle (readAt h)))) (of_eq e (bootVerify (settle (readAt h))))
  · exact bootVerify (settle (readAt h))

theorem pushImage {len program f} (h : Keeps B s₀ s) : Keeps B s₀ (s.pushImage len program f) := by
  unfold State.pushImage
  split
  · rename_i e
    exact pushEnd (of_eq e (pushVerify h))
  · rename_i e
    exact ite (fset (with_bup (of_eq e (pushVerify h)))) (pushAccept (of_eq e (pushVerify h)))

theorem exec_imagePush {v f} (h : Keeps B s₀ s) : Res.Kept B s₀ (execImagePush v f s) := .ite h (pushImage h)

theorem exec_imagePushProgram {ok f} (h : Keeps B s₀ s) : Res.Kept B s₀ (execImagePushProgram ok f s) := by
  unfold execImagePushProgram
  split
  · exact h
  · dsimp only
    split
    · rename_i e
      exact pushAccept (fset (of_eq e (bootVerify (fset (bset h)))))
    · rename_i e
      exact pushEnd (of_eq e (bootVerify (fset (bset h))))

/-! #### Resets (R377, R378, R380) -/

theorem resetFrom {k kind src} (h : Keeps BlownFrom s₀ s) : Keeps BlownFrom s₀ (s.resetFrom k kind src) := with_pwr_bup (resetTo h)

theorem tear {torn} (h : Keeps B s₀ s) : Keeps B s₀ (s.tear torn) := by
  obtain ⟨hlog, hfuses, hqueue⟩ := h
  exact ite ⟨hlog.trans (List.prefix_append _ _), hfuses, hqueue⟩ ⟨hlog, hfuses, hqueue⟩

theorem exec_powerOnReset {aon torn} (h : Keeps BlownFrom s₀ s) : Res.Kept BlownFrom s₀ (execPowerOnReset aon torn s) := with_bup (resetFrom (tear h))

theorem exec_aonRstNRelease {bootSrc smbAddr bridge} (h : Keeps B s₀ s) : Res.Kept B s₀ (execAonRstNRelease bootSrc smbAddr bridge s) := h

theorem exec_sysReset {torn} (h : Keeps BlownFrom s₀ s) : Res.Kept BlownFrom s₀ (execSysReset torn s) := .ite (resetFrom (tear h)) (resetFrom (tear h))

theorem exec_coldResetCmd {v} (h : Keeps BlownFrom s₀ s) : Res.Kept BlownFrom s₀ (execColdResetCmd v s) := .ite (resetFrom h) h

theorem exec_warmResetCmd {v} (h : Keeps BlownFrom s₀ s) : Res.Kept BlownFrom s₀ (execWarmResetCmd v s) := .ite (resetFrom h) h

/-! ### The meanings of the causeway's commands -/

/-! #### Flits -/

theorem laneCorrection {p dir lane} (h : Keeps B s₀ s) : Keeps B s₀ (s.laneCorrection p dir lane) :=
  ite (laneFailing (ite (dieSays (dirUpd h)) (dirUpd h))) (ite (dieSays (dirUpd h)) (dirUpd h))

theorem flitAccept {p dir f} (h : Keeps B s₀ s) : Keeps B s₀ (s.flitAccept p dir f) := by
  unfold State.flitAccept
  extract_lets ws fixed pois s1 s2 s3 s4
  have h2 : Keeps B s₀ s2 := dirUpd (emit h)
  have h3 : Keeps B s₀ s3 := ite (wrap h2) h2
  have h4 : Keeps B s₀ s4 := foldl h3 fun h => laneCorrection h
  exact ite (foldl h4 fun h => headerIn h) (dataIn h4)

theorem flitSeen {p dir fresh} (h : Keeps B s₀ s) : Keeps B s₀ (s.flitSeen p dir fresh) :=
  ite (ite (wrap (dirUpd (dirUpd h))) (dirUpd (dirUpd h))) (dirUpd h)

theorem edgeLevel {p dir q} (h : Keeps B s₀ s) : Keeps B s₀ (s.edgeLevel p dir q) := ite h (ite (raise (fset (fset h))) (fset (fset h)))

theorem exec_flitReceive {p dir f queue} (e : f.words.length = 32) (h : Keeps B s₀ s) :
    Res.Kept B s₀ (execFlitReceive p dir f queue s) := by
  unfold execFlitReceive
  extract_lets k d s1 s2
  rw [if_neg (not_not.mpr e)]
  have h1 : Keeps B s₀ s1 := cnt (flitSeen h)
  have h2 : Keeps B s₀ s2 := edgeLevel (flitAccept h1)
  refine .ite h (.ite ?accepted (.ite (emit (dirUpd h1)) (.ite (ite (cwyEvt h2) h2) (laneFailing (dirUpd h1)))))
  exact .ite (edgeLevel (flitAccept (flitSeen h))) (flitSeen h)

theorem exec_dnakReceive {p dir seq} (h : Keeps B s₀ s) : Res.Kept B s₀ (execDnakReceive p dir seq s) := .ite (dirUpd (cnt h)) h

/-! #### Chain frames -/

theorem frameAcks {p k x} (h : Keeps B s₀ s) : Keeps B s₀ (s.frameAcks p k x) := cnt (dirUpd h)

theorem chainWordIn {p k lvl hdr w} (h : Keeps B s₀ s) : Keeps B s₀ (s.chainWordIn p k lvl hdr w) :=
  ite h (ite (dirUpd h) (ite (chainSend (dirUpd h)) (emit (dirUpd h))))

theorem exec_chainFrameReceive {p dir frame} (h : Keeps B s₀ s) : Res.Kept B s₀ (execChainFrameReceive p dir frame s) :=
  .ite h (.ite (.ite (chainWordIn (dirUpd (frameAcks h))) (frameAcks h)) (.ite (emit (dirUpd (cnt h))) (laneFailing (dirUpd (cnt h)))))

/-! #### Retrains and retirement -/

theorem exec_bundleRetrain {p} (h : Keeps B s₀ s) : Res.Kept B s₀ (execBundleRetrain p s) := .ite (retrainBundle h) h

theorem retrainEnds {p w ok} (h : Keeps B s₀ s) : Keeps B s₀ (s.retrainEnds p w ok) := by
  unfold State.retrainEnds
  extract_lets logged
  have hlogged {t : State} {st : Nat} (ht : Keeps B s₀ t) : Keeps B s₀ (logged t st) := ite (logLanes ht) (cwyEvt (logLanes ht))
  split
  · exact hlogged (cwyEvt (setBundle (bset (setRepair h))))
  · exact hlogged (cwyEvt (setBundle (bset (setRepair h))))
  · exact retireBundle h

theorem exec_retrainDone {p bad0 bad1 logOk} (h : Keeps B s₀ s) : Res.Kept B s₀ (execRetrainDone p bad0 bad1 logOk s) :=
  .ite (mateGoes (retrainEnds (foldl (bundleUpd (foldl h fun h => dirUpd h)) fun h => dirUpd h))) h

theorem exec_bundleRetire {p logOk} (h : Keeps B s₀ s) : Res.Kept B s₀ (execBundleRetire p logOk s) := retireBundle h

theorem exec_clockPairLost {p dir logOk} (h : Keeps B s₀ s) : Res.Kept B s₀ (execClockPairLost p dir logOk s) := by
  unfold execClockPairLost
  refine .ite h ?_
  dsimp only
  split
  · exact .ite (cwyEvt (retireBundle (ite h (bundleUpd h)))) (retireBundle (ite h (bundleUpd h)))
  · exact retireBundle (ite h (bundleUpd h))

/-! #### Discovery -/

theorem exec_discReceive {p w1 w2 logOk} (h : Keeps B s₀ s) : Res.Kept B s₀ (execDiscReceive p w1 w2 logOk s) :=
  .ite h (ite (fenceDie (ite (rset h) (with_bup (rset h)))) (ite (rset h) (with_bup (rset h))))

/-! ### The meanings of the clock, power and thermal commands -/

/-! #### The control interval -/

theorem measure {x} (h : Keeps B s₀ s) : Keeps B s₀ (s.measure x) := rset (with_pwr (rset (fset (fset h))))

theorem ceiling {x} (h : Keeps B s₀ s) : Keeps B s₀ (s.ceiling x) := peakTick (ceilingFlags (ceilingRelease (stepDown (timerTick h))))

theorem silentRails {l} (h : Keeps B s₀ s) : Keeps B s₀ (s.silentRails l) := ite (thmEvt h) h

theorem modelTick {busy} (h : Keeps B s₀ s) : Keeps B s₀ (s.modelTick busy) := h

theorem thmMax (h : Keeps B s₀ s) : Keeps B s₀ s.thmMax := ite (fset h) h

theorem thermalTick {x} (h : Keeps BlownFrom s₀ s) : Keeps BlownFrom s₀ (s.thermalTick x) :=
  ite (thermTrip (crossLimits (thmMax (modelTick (silentRails h)))))
    (mirror (foldl (foldl (crossLimits (thmMax (modelTick (silentRails h)))) fun h => throttleTick h) fun h => halfRequest h))

theorem exec_powerInterval {x} (h : Keeps BlownFrom s₀ s) : Res.Kept BlownFrom s₀ (execPowerInterval x s) :=
  .ite h (.ite (ceiling (measure h)) (thermalTick (ceiling (measure h))))

/-! #### Diodes -/

theorem exec_diodeRead {readings} (h : Keeps BlownFrom s₀ s) : Res.Kept BlownFrom s₀ (execDiodeRead readings s) := by
  unfold execDiodeRead
  extract_lets l hot s1 s2
  have h2 : Keeps BlownFrom s₀ s2 := crossLimits (foldl h fun h => ite (thmEvt h) h)
  exact .ite (ite (thermTrip h) h) (ite (thermTrip h2) h2)

theorem exec_thermtripRelease (h : Keeps B s₀ s) : Res.Kept B s₀ (execThermtripRelease s) := h

/-! #### Voltage, clocks and regulators -/

theorem setSetpoint {r v} (h : Keeps B s₀ s) : Keeps B s₀ (s.setSetpoint r v) := railUpd h

theorem avsTick {k grade} (h : Keeps B s₀ s) : Keeps B s₀ (s.avsTick k grade) := by
  unfold State.avsTick
  extract_lets r sp s1 n _ s2 limit s3
  have h1 : Keeps B s₀ s1 := ite (fset h) h
  have h2 : Keeps B s₀ s2 := with_pwr h1
  have h3 : Keeps B s₀ s3 :=
    ite (ite (setSetpoint h2) (ite (pwrEvt h2) (ite h2 (pwrEvt (halfRequest (fset h2)))))) (ite (setSetpoint h2) h2)
  exact ite (ite (halfRequest (fset (with_pwr h3))) (with_pwr h3)) h3

theorem exec_avsInterval {grades} (h : Keeps B s₀ s) : Res.Kept B s₀ (execAvsInterval grades s) := by
  unfold execAvsInterval
  refine foldl h fun h => ?_
  split
  · exact h
  · exact ite h (avsTick h)

theorem exec_stepChangeApply {d} (h : Keeps B s₀ s) : Res.Kept B s₀ (execStepChangeApply d s) := .ite h (foldl h fun h => ite (halfApply h) h)

theorem exec_stepRampDone {d west} (h : Keeps B s₀ s) : Res.Kept B s₀ (execStepRampDone d west s) := .ite h (halfApply (halfSet (setSetpoint h)))

theorem exec_regulatorReport {r mv cur pow temp} (h : Keeps B s₀ s) : Res.Kept B s₀ (execRegulatorReport r mv cur pow temp s) := railUpd h

theorem exec_clockStretch {domain cycles} (h : Keeps B s₀ s) : Res.Kept B s₀ (execClockStretch domain cycles s) := cnt h

theorem exec_railFault {r kind logOk} (h : Keeps B s₀ s) : Res.Kept B s₀ (execRailFault r kind logOk s) := by
  unfold execRailFault
  extract_lets pos off s1 s2 _ _ s3 s4
  have h1 : Keeps B s₀ s1 := railUpd h
  have h2 : Keeps B s₀ s2 := ite (foldl h1 fun h => railUpd h) h1
  have h4 : Keeps B s₀ s4 := pwrEvt (logRec (with_pwr_bup h2))
  exact .ite (dozeFail h4) (fenceDie h4)

theorem exec_refclkLost (h : Keeps BlownFrom s₀ s) : Res.Kept BlownFrom s₀ (execRefclkLost s) := .ite (bset (bset (bset h))) (clockLost h)

theorem exec_pllLockLost (h : Keeps BlownFrom s₀ s) : Res.Kept BlownFrom s₀ (execPllLockLost s) := .ite h (clockLost h)

theorem exec_refclkPresent (h : Keeps BlownFrom s₀ s) : Res.Kept BlownFrom s₀ (execRefclkPresent s) := .ite (with_bup (resetTo (bset (bset h)))) (bset (bset h))

/-! #### Idle and Doze -/

theorem exec_siteIdle {site} (h : Keeps B s₀ s) : Res.Kept B s₀ (execSiteIdle site s) := .ite h (siteUpd h)

theorem exec_dieDoze {d} (h : Keeps B s₀ s) : Res.Kept B s₀ (execDieDoze d s) :=
  .ite (dieResult (fset h)) (.ite (dieResult (fset h)) (.ite (dozeStart (dieResult (fset h))) (fset h)))

theorem exec_dozeEntryDone {d} (h : Keeps B s₀ s) : Res.Kept B s₀ (execDozeEntryDone d s) := .ite (pwrEvt (dieResult (dozeIn h))) h

theorem exec_dieWake {d} (h : Keeps B s₀ s) : Res.Kept B s₀ (execDieWake d s) :=
  .ite (with_doze (dieResult (fset h))) (.ite (fset h) (dieResult (fset h)))

theorem exec_dozeExitDone {d ok logOk} (h : Keeps B s₀ s) : Res.Kept B s₀ (execDozeExitDone d ok logOk s) :=
  .ite h (.ite (loadWoken (pwrEvt (dieResult (dozeOut h)))) (dozeFail h))

/-! #### Standby and Off-AON (R370, R371) -/

theorem pwrRefuse {reason} (h : Keeps B s₀ s) : Keeps B s₀ (s.pwrRefuse reason) := fset h

theorem exec_standbyEnter (h : Keeps B s₀ s) : Res.Kept B s₀ (execStandbyEnter s) :=
  .ite (pwrRefuse h) (flashUpd (foldl (fset (pwrRefuse h)) fun h => ite (portDown h) h))

theorem standbyIn (h : Keeps B s₀ s) : Keeps B s₀ s.standbyIn :=
  foldl (foldl (foldl h fun h => ite h (setBundle h)) fun h => ite h (dozeIn h)) fun h => ite h (fset h)

theorem standbyOut (h : Keeps B s₀ s) : Keeps B s₀ s.standbyOut := ite (fset h) h

theorem exec_standbyEntryDone (h : Keeps B s₀ s) : Res.Kept B s₀ (execStandbyEntryDone s) :=
  .ite h (ite (standbyOut (fset (standbyIn h))) (fset (standbyIn h)))

theorem exec_standbyExit (h : Keeps B s₀ s) : Res.Kept B s₀ (execStandbyExit s) := .ite (standbyOut h) (.ite h (.ite h (pwrRefuse h)))

theorem exec_standbyExitDone (h : Keeps B s₀ s) : Res.Kept B s₀ (execStandbyExitDone s) := by
  unfold execStandbyExitDone
  refine .ite h ?_
  extract_lets s1 s2 s3 s4 s5 s6 _ s7
  have h2 : Keeps B s₀ s2 := foldl (foldl h fun h => ite h (fset h)) fun h => ite h (restoreBundles h)
  have h4 : Keeps B s₀ s4 := foldl (foldl h2 fun h => ite (setPort h) h) fun h => ite (dozeOut h) h
  have h6 : Keeps B s₀ s6 := pwrEvt (fset (fset (foldl h4 fun h => loadEngine h)))
  have h7 : Keeps B s₀ s7 := ite (ldpEvt (with_ldp h6)) h6
  exact presentAll (pump (settle h7))

theorem exec_offAon (h : Keeps BlownFrom s₀ s) : Res.Kept BlownFrom s₀ (execOffAon s) := .ite (pwrRefuse h) (resetTo h)

/-! #### The supplies (R373, R494) -/

theorem exec_vinLow (h : Keeps B s₀ s) : Res.Kept B s₀ (execVinLow s) := pwrEvt h

theorem exec_vinCritical (h : Keeps BlownFrom s₀ s) : Res.Kept BlownFrom s₀ (execVinCritical s) := .ite h (shutdown (captureOf h))

theorem exec_vaonLow (h : Keeps BlownFrom s₀ s) : Res.Kept BlownFrom s₀ (execVaonLow s) := resetTo h

theorem exec_vnandLow (h : Keeps B s₀ s) : Res.Kept B s₀ (execVnandLow s) := settle (foldl h fun h => foldl (fset h) fun h => lunDrop h)

theorem exec_hubFault (h : Keeps B s₀ s) : Res.Kept B s₀ (execHubFault s) := deviceFault h

/-! ### Field test mode -/

theorem setTest {n} (h : Keeps B s₀ s) : Keeps B s₀ (s.setTest n) := fset h

theorem testStart {f} (h : Keeps B s₀ s) : Keeps B s₀ (s.testStart f) :=
  retrievalStart (foldl (setIlMode (foldl h fun h => stackStart h)) fun h => linkStart h)

theorem testStops (h : Keeps B s₀ s) : Keeps B s₀ s.testStops :=
  foldl (foldl (foldl h fun h => ite (portDown h) h) fun h => ite h (fset h)) fun h => ite (setBundle h) h

theorem exec_fieldTestEnter (h : Keeps B s₀ s) : Res.Kept B s₀ (execFieldTestEnter s) :=
  .ite (fset h) (setTest (fset (with_tap (testStops (ite (tick (testStart h)) h)))))

/-! #### The exit (R479) -/

theorem testLanes {k} (h : Keeps B s₀ s) : Keeps B s₀ (s.testLanes k) := foldl h fun h => dirUpd h

theorem testBundle {p ok} (h : Keeps B s₀ s) : Keeps B s₀ (s.testBundle p ok) := by
  unfold State.testBundle
  extract_lets l s1 hit
  have h1 : Keeps B s₀ s1 := testLanes (testLanes h)
  refine ite (ite (logLanes h1) h1) (ite h1 (ite (retireBundle (ite (bundleUpd h1) h1)) ?_))
  have hset {m0 m1 : List Nat} {u : Bool} {k : Nat} :
      Keeps B s₀ (((s1.setRepair p m0 m1).bset (.CWY_STAT (bundleNo p)) F.CWY_STAT_HALF_UPPER u).setBundle p k) :=
    setBundle (bset (setRepair h1))
  split
  · exact ite (logLanes hset) hset
  · exact ite (logLanes hset) hset
  · exact retireBundle h1

theorem testStack {n ok} (h : Keeps B s₀ s) : Keeps B s₀ (s.testStack n ok) := by
  unfold State.testStack
  refine ite h ?_
  dsimp only
  split
  · exact fset h
  · exact ite (fenceStack (fset h)) (ite (fset h) (raise (withMem (fset h))))
  · exact fenceStack (fset h)

theorem testExit {ok} (h : Keeps B s₀ s) : Keeps B s₀ (s.testExit ok) :=
  settle (setTest (foldl (foldl (foldl h fun h => testBundle h) fun h => testStack h) fun h => ite (setPort h) h))

theorem exec_interconnectTestDone {fails} (h : Keeps B s₀ s) : Res.Kept B s₀ (execInterconnectTestDone fails s) :=
  .ite h (ite (tick (testExit (setTest (fset h)))) (setTest (fset h)))

theorem exec_fieldTestExit {logOk} (h : Keeps B s₀ s) : Res.Kept B s₀ (execFieldTestExit logOk s) := .ite (testExit h) (.ite h h)

/-! ### Raw commands to open-mode LUNs -/

theorem rawPut {a l pois} (h : Keeps B s₀ s) : Keeps B s₀ (s.rawPut a l pois) := settle (writeAt h)

theorem rawStages {a offs fuel stage decs} (h : Keeps B s₀ s) : Keeps B s₀ (s.rawStages a offs fuel stage decs).1 := by
  induction fuel generalizing s stage decs with
  | zero => exact h
  | succ f ih =>
    unfold State.rawStages
    split
    · rename_i e
      exact (decodeStage h).deliver e
    · rename_i e
      have h1 := (decodeStage h).on e
      split
      · exact ih (stageReads h1)
      · exact unitLost h1

theorem rawUnit {c t offs a u} (h : Keeps B s₀ s) : Keeps B s₀ (s.rawUnit c t offs a u).1 :=
  rawPut (iteOver (rawStages (countRead (tick h))) (countRead (tick h)))

theorem rawRead {c j raw units errs} (h : Keeps B s₀ s) : Keeps B s₀ (s.rawRead c j raw units errs) :=
  ite (rawEnd (rawPut (blockUpd (onfi h)))) (rawEnd (fset (foldOver (g := Prod.fst) (groupUpd (stageReads h)) fun h => rawUnit h)))

theorem programmed {a} (h : Keeps B s₀ s) : Keeps B s₀ (s.programmed a) := blockUpd h

theorem rawFetch {c n} (h : Keeps B s₀ s) : Keeps B s₀ (s.rawFetch c n).st := settle (readAt (hubPass h))

theorem rawProgram {c j raw pass} (h : Keeps B s₀ s) : Keeps B s₀ (s.rawProgram c j raw pass) := by
  unfold State.rawProgram
  extract_lets a key k r s1
  have h1 : Keeps B s₀ s1 := onfi (rawFetch h)
  exact ite (rawEnd (flcEvt (blockUpd (cnt h1)))) (ite (rawEnd (programmed (flashUpd h1))) (rawEnd (programmed (flashUpd h1))))

theorem rawErase {c j pass} (h : Keeps B s₀ s) : Keeps B s₀ (s.rawErase c j pass) :=
  ite (rawEnd (eraseBlock (onfi h))) (rawEnd (flcEvt (blockUpd (cnt (onfi h)))))

theorem rawPerform {c j} (h : Keeps B s₀ s) : Keeps B s₀ (s.rawPerform c j) := by
  unfold State.rawPerform
  dsimp only
  refine ite (rawEnd h) ?_
  split
  · exact rawRead h
  · exact rawProgram h
  · exact rawErase h
  · exact rawEnd (fset (onfi h))
  · exact rawEnd (rset (onfi h))
  · exact rawEnd (onfi h)
  · exact rawEnd (rawPut (onfi h))
  · exact rawEnd (rawPut (onfi h))
  · exact ite (rawEnd (flashUpd (onfi h))) (rawEnd (lunFence (flashUpd (onfi h))))

theorem rawNext {c} (h : Keeps B s₀ s) : Keeps B s₀ (s.rawNext c) := by
  unfold State.rawNext
  split
  · exact rawPerform (dequeue h)
  · exact h

theorem raw {c stop t op} (h : Keeps B s₀ s) : Keeps B s₀ (s.raw c stop t op) :=
  ite h (ite (rawEnd h) (ite (rawPerform h) (fset (flashQueue h))))

/-! #### The commands -/

theorem exec_rawReadPage {c asRaw t units errs} (h : Keeps B s₀ s) : Res.Kept B s₀ (execRawReadPage c asRaw t units errs s) := raw h

theorem exec_rawProgramPage {c asRaw t pass} (h : Keeps B s₀ s) : Res.Kept B s₀ (execRawProgramPage c asRaw t pass s) := raw h

theorem exec_rawEraseBlock {c t pass} (h : Keeps B s₀ s) : Res.Kept B s₀ (execRawEraseBlock c t pass s) := raw h

theorem exec_rawReadStatus {c t status} (h : Keeps B s₀ s) : Res.Kept B s₀ (execRawReadStatus c t status s) := raw h

theorem exec_rawGetFeatures {c feat t p} (h : Keeps B s₀ s) : Res.Kept B s₀ (execRawGetFeatures c feat t p s) := raw h

theorem exec_rawSetFeatures {c feat t} (h : Keeps B s₀ s) : Res.Kept B s₀ (execRawSetFeatures c feat t s) := raw h

theorem exec_rawReadId {c t id} (h : Keeps B s₀ s) : Res.Kept B s₀ (execRawReadId c t id s) := raw h

theorem exec_rawReadParameterPage {c t page} (h : Keeps B s₀ s) : Res.Kept B s₀ (execRawReadParameterPage c t page s) := raw h

theorem exec_rawResetLun {c t same logOk} (h : Keeps B s₀ s) : Res.Kept B s₀ (execRawResetLun c t same logOk s) := raw h

theorem exec_flashRead {c} (h : Keeps B s₀ s) : Res.Kept B s₀ (execFlashRead c s) := rawNext (flashRead h)

theorem exec_pageReadDone {c lun r interval} (h : Keeps B s₀ s) : Res.Kept B s₀ (execPageReadDone c lun r interval s) := rawNext (pageRead h)

theorem exec_probeResult {c lun w} (h : Keeps B s₀ s) : Res.Kept B s₀ (execProbeResult c lun w s) := rawNext (probeResult h)

theorem exec_flashProgram {c} (h : Keeps B s₀ s) : Res.Kept B s₀ (execFlashProgram c s) := rawNext (flashProgram h)

theorem exec_programStatus {c lun pass} (h : Keeps B s₀ s) : Res.Kept B s₀ (execProgramStatus c lun pass s) := rawNext (programStatus h)

theorem exec_eraseStatus {c lun pass} (h : Keeps B s₀ s) : Res.Kept B s₀ (execEraseStatus c lun pass s) := rawNext (eraseStatus h)

/-! ### The meanings of the messages of a mode change -/

theorem exec_prepareReceive {u kind x} (h : Keeps B s₀ s) : Res.Kept B s₀ (execPrepareReceive u kind x s) := by
  unfold execPrepareReceive
  split
  · exact .ite (chainTo h) (modeBegin h)
  · dsimp only
    split
    · exact .ite (unitSays h) h
    · exact h

theorem exec_modeAckReceive {u phase result} (h : Keeps B s₀ s) : Res.Kept B s₀ (execModeAckReceive u phase result s) := by
  unfold execModeAckReceive
  dsimp only
  split
  · refine .ite ?_ (.ite (modeFinish h) h)
    split
    · exact .ite (modeCommit h) h
    · exact modeAbort h
    · exact h
  · exact h

theorem exec_commitReceive {u} (h : Keeps B s₀ s) : Res.Kept B s₀ (execCommitReceive u s) := by
  unfold execCommitReceive
  split
  · split
    · exact .ite (modeGo h) h
    · exact .ite h h
  · exact h

theorem blockApply {b} (h : Keeps B s₀ s) : Keeps B s₀ (s.blockApply b) := pairShow (with_staged_pend (pairAdopt h))

theorem exec_modeApply {u} (h : Keeps B s₀ s) : Res.Kept B s₀ (execModeApply u s) := by
  unfold execModeApply
  extract_lets m s1
  have h1 : Keeps B s₀ s1 := by
    clear_value m
    dsimp only [s1]
    split
    · exact blockApply h
    · exact h
  split
  · exact .ite (unitSays (with_mode h1)) h
  · exact h

theorem exec_abortReceive {x} (h : Keeps B s₀ s) : Res.Kept B s₀ (execAbortReceive x s) := by
  unfold execAbortReceive
  split
  · split
    · exact .ite (raise (modeShow (modeSend h))) h
    · exact h
  · dsimp only
    split
    · exact .ite h h
    · exact h

theorem exec_modeAckTimeout (h : Keeps B s₀ s) : Res.Kept B s₀ (execModeAckTimeout s) := by
  unfold execModeAckTimeout
  split
  · exact .ite (modeAbort h) h
  · exact h

theorem exec_groupModeTimeout (h : Keeps B s₀ s) : Res.Kept B s₀ (execGroupModeTimeout s) := by
  unfold execGroupModeTimeout
  split
  · exact .ite (modeAbort h) h
  · exact h

/-! ### Snapshot waves, the sample ring and the latency histogram -/

/-! #### Shadows (R425, R510) -/

theorem latch {l} (h : Keeps B s₀ s) : Keeps B s₀ (s.latch l) := h

theorem latchPipes {l} (h : Keeps B s₀ s) : Keeps B s₀ (s.latchPipes l) := h

theorem latchSites {l} (h : Keeps B s₀ s) : Keeps B s₀ (s.latchSites l) := latch h

theorem latchHub (h : Keeps B s₀ s) : Keeps B s₀ s.latchHub := with_shadows (latch h)

theorem latchDie {pos} (h : Keeps B s₀ s) : Keeps B s₀ (s.latchDie pos) := ite (latchSites h) (ite (latchPipes (latch h)) (ite (latch h) h))

/-! #### Cuts (R422) -/

theorem cutUpd {k f} (h : Keeps B s₀ s) : Keeps B s₀ (s.cutUpd k f) := h

theorem cutSent {chan dir n} (h : Keeps B s₀ s) : Keeps B s₀ (s.cutSent chan dir n) := cutUpd h

theorem bundleSent {p dir n} (h : Keeps B s₀ s) : Keeps B s₀ (s.bundleSent p dir n) := emit (cutSent h)

theorem cutRcvd {chan dir n} (h : Keeps B s₀ s) : Keeps B s₀ (s.cutRcvd chan dir n) := cutUpd h

theorem cutMark {chan dir sent} (h : Keeps B s₀ s) : Keeps B s₀ (s.cutMark chan dir sent) := cutUpd h

theorem markerOut {q n} (h : Keeps B s₀ s) : Keeps B s₀ (s.markerOut q n) := portUpd h

theorem latchEnds {pos} (h : Keeps B s₀ s) : Keeps B s₀ (s.latchEnds pos) :=
  ite (foldl (foldl h fun h => bundleSent (cutRcvd h)) fun h => ite (markerOut (cutRcvd (cutSent h))) (cutRcvd (cutSent h)))
    (foldl h fun h => bundleSent (cutRcvd h))

/-! #### Waves (R419, R420) -/

theorem waveChannels {dies} (h : Keeps B s₀ s) : Keeps B s₀ (s.waveChannels dies) := foldl h fun h => cutRcvd (bundleSent h)

theorem waveMarkers {dies} (h : Keeps B s₀ s) : Keeps B s₀ (s.waveMarkers dies) := foldl h fun h => chainSend h

theorem waveBegin {scope sp origin} (h : Keeps B s₀ s) : Keeps B s₀ (s.waveBegin scope sp origin) := by
  unfold State.waveBegin
  extract_lets id dies skipped s1 _ s2
  have h2 : Keeps B s₀ s2 := with_wave (fset (fset (fset (fset (fset h)))))
  exact waveMarkers (ite h2 (waveChannels (latchHub h2)))

theorem waveFlags (h : Keeps B s₀ s) : Keeps B s₀ s.waveFlags := h

theorem latchSums (h : Keeps B s₀ s) : Keeps B s₀ s.latchSums := ite h h

theorem waveClose {done} (h : Keeps B s₀ s) : Keeps B s₀ (s.waveClose done) := raise (with_wave (latchSums (waveFlags (bset (fset h)))))

theorem missDev {d} (h : Keeps B s₀ s) : Keeps B s₀ (s.missDev d) := ite (fset h) (fset h)

theorem spanWave {sp} (h : Keeps B s₀ s) : Keeps B s₀ (s.spanWave sp) := ite (waveClose (waveBegin h)) (waveBegin h)

theorem waveOwnEnd (h : Keeps B s₀ s) : Keeps B s₀ s.waveOwnEnd := by
  unfold State.waveOwnEnd
  dsimp only
  refine ite ?_ ?_
  · split
    · split
      · exact spanWave (with_wave (chainTo (waveClose h)))
      · exact chainTo (waveClose h)
    · refine ite ?_ h
      split
      · exact spanWave (with_wave (waveClose h))
      · exact waveClose h
  · split
    · exact spanWave (with_wave (waveClose h))
    · exact waveClose h

theorem waveReport {pos} (h : Keeps B s₀ s) : Keeps B s₀ (s.waveReport pos) := ite (waveOwnEnd h) h

theorem waveAnswer {d} (h : Keeps B s₀ s) : Keeps B s₀ (s.waveAnswer d) := by
  unfold State.waveAnswer
  dsimp only
  refine ite ?_ h
  split
  · exact spanWave (with_wave (waveClose h))
  · exact waveClose h

theorem waveLost {d} (h : Keeps B s₀ s) : Keeps B s₀ (s.waveLost d) := ite (waveAnswer (missDev h)) h

theorem deviceWave {scope origin devs} (h : Keeps B s₀ s) : Keeps B s₀ (s.deviceWave scope origin devs) :=
  ite (waveOwnEnd (with_wave (waveBegin h))) (with_wave (waveBegin h))

theorem waveDropped (h : Keeps B s₀ s) : Keeps B s₀ s.waveDropped := cnt h

theorem exec_snapshotDevice (h : Keeps B s₀ s) : Res.Kept B s₀ (execSnapshotDevice s) := .ite (waveDropped h) (deviceWave h)

theorem exec_snapshotGroup (h : Keeps B s₀ s) : Res.Kept B s₀ (execSnapshotGroup s) := .ite (waveDropped h) (deviceWave (rset (rset h)))

theorem spanSnapshot {i} (h : Keeps B s₀ s) : Keeps B s₀ (s.spanSnapshot i) :=
  ite (cmdErr h) (ite (spanWave h) (ite h (cmdErr (waveDropped h))))

theorem exec_spanSnapshot {sp} (h : Keeps B s₀ s) : Res.Kept B s₀ (execSpanSnapshot sp s) := spanSnapshot (groupCmd h)

theorem dieLatch {pos} (h : Keeps B s₀ s) : Keeps B s₀ (s.dieLatch pos) := ite (ite (latchPipes h) (latchSites h)) (latchEnds (latchDie h))

theorem markerJoin {m} (h : Keeps B s₀ s) : Keeps B s₀ (s.markerJoin m) := by
  unfold State.markerJoin
  split
  · exact ite h (deviceWave h)
  · exact h

theorem exec_snapshotMarker {m} (h : Keeps B s₀ s) : Res.Kept B s₀ (execSnapshotMarker m s) :=
  .ite (markerJoin h) (.ite (ite (dieLatch (markerJoin h)) (markerJoin h)) (cutMark (ite (dieLatch (markerJoin h)) (markerJoin h))))

theorem exec_waveStatusReceive {pos dev} (h : Keeps B s₀ s) : Res.Kept B s₀ (execWaveStatusReceive pos dev s) := by
  unfold execWaveStatusReceive
  split
  · exact .ite (waveAnswer h) h
  · exact .ite (waveReport h) h

theorem exec_waveTimeout (h : Keeps B s₀ s) : Res.Kept B s₀ (execWaveTimeout s) := .ite (waveOwnEnd (cnt h)) h

theorem exec_groupWaveTimeout (h : Keeps B s₀ s) : Res.Kept B s₀ (execGroupWaveTimeout s) := .ite (foldl h fun h => waveLost h) h

/-! #### The sample ring (R426) -/

theorem exec_telSample (h : Keeps B s₀ s) : Res.Kept B s₀ (execTelSample s) := .ite h (.ite (ite h (raise (bset h))) (wrap (hubWrite h)))

theorem exec_telRingReadAdvance {v} (h : Keeps B s₀ s) : Res.Kept B s₀ (execTelRingReadAdvance v s) := .ite (rset h) h

theorem exec_histSelect {v} (h : Keeps B s₀ s) : Res.Kept B s₀ (execHistSelect v s) := foldl (rset h) fun h => rset h

/-! ### The meanings of the Wealey links' commands -/

/-! #### Codewords and control slices -/

theorem exec_codewordReceive {p corrected bad counted} (h : Keeps B s₀ s) : Res.Kept B s₀ (execCodewordReceive p corrected bad counted s) :=
  .ite h (.ite (ite (portRetrainStart (portUpd (cnt (portUpd h)))) (portUpd (cnt (portUpd h)))) (portUpd (wrap (cnt (portUpd h)))))

theorem replaySent {q} (h : Keeps B s₀ s) : Keeps B s₀ (s.replaySent q) := by
  unfold State.replaySent
  refine foldl h fun h => ?_
  split
  · exact emit h
  · exact emit h

theorem exec_controlSliceReceive {p ack nak crReq crRsp crCtl txreq} (h : Keeps B s₀ s) : Res.Kept B s₀ (execControlSliceReceive p ack nak crReq
  crRsp crCtl txreq s) :=
  .ite h (.ite (portUpd h) (ite (portRetrainStart (replaySent (cnt (portUpd h)))) (replaySent (cnt (portUpd h)))))

theorem groupTake {d cls i l r} (h : Keeps B s₀ s) (e : s.groupTake d cls i l = some r) : Res.Kept B s₀ r := by
  unfold State.groupTake at e
  extract_lets sp mine at e
  split at e
  · cases e
    exact ite (ringSpan h) (ite (spanSnapshot h) (degradeCheck (spanCommand h)))
  · cases e
    exact .ite (exec_syncSignal h) (abortPoints h)
  · cases e
    exact settle (abortLocal h)
  · cases e
    exact spanUpd h
  · cases e
    exact exec_prepareReceive h
  · cases e
    exact .ite (exec_modeAckReceive h) h
  · cases e
    exact .ite (exec_commitReceive h) h
  · cases e
    exact .ite (exec_abortReceive h) h
  · cases e

theorem exec_chainEntryReceive {p x} (h : Keeps B s₀ s) : Res.Kept B s₀ (execChainEntryReceive p x s) := by
  unfold execChainEntryReceive
  refine .ite h ?_
  extract_lets t
  have h1 : Keeps B s₀ t := entryFreed h
  refine .ite (entryOut h1) (.ite ?vector ?message)
  case vector =>
    exact .ite (cnt h1) (.ite h1 (msixOut h1))
  case message =>
    extract_lets
    split
    · rename_i e
      split at e
      · exact groupTake h1 e
      · cases e
    · exact chainSend h1

/-! #### Frames sent (R328) -/

theorem frameGo {q f} (h : Keeps B s₀ s) : Keeps B s₀ (s.frameGo q f) := emit (wrap (portUpd (grpUpd h)))

theorem entryGo {q x} (h : Keeps B s₀ s) : Keeps B s₀ (s.entryGo q x) := emit (reportGo (wrap (portUpd (ite h (grpUpd h)))))

theorem exec_frameSend {p} (h : Keeps B s₀ s) : Res.Kept B s₀ (execFrameSend p s) := by
  unfold execFrameSend
  dsimp only
  refine .ite h ?_
  split
  · exact entryGo h
  · refine .ite (reportGo h) ?_
    split
    · exact frameGo h
    · exact portUpd h

theorem frameLost {f} (h : Keeps B s₀ s) : Keeps B s₀ (s.frameLost f) := ite (ite (tagDone (raise (cnt h))) (frameOut (raise (cnt h)))) h

theorem exec_frameExpire (h : Keeps B s₀ s) : Res.Kept B s₀ (execFrameExpire s) := by
  unfold execFrameExpire
  split
  · exact h
  · exact frameLost (grpUpd h)

/-! #### Ports (R330, R331) -/

theorem exec_portSignalDetect {p} (h : Keeps B s₀ s) : Res.Kept B s₀ (execPortSignalDetect p s) := .ite (setPort h) h

theorem exec_detectRetry {p} (h : Keeps B s₀ s) : Res.Kept B s₀ (execDetectRetry p s) := .ite (setPort h) h

theorem exec_trainLock {p} (h : Keeps B s₀ s) : Res.Kept B s₀ (execTrainLock p s) :=
  .ite (.ite (fset (devUpd (fset (emit (portUpd (setPort h)))))) (emit (portUpd (setPort h)))) h

theorem exec_trainTimeout {p} (h : Keeps B s₀ s) : Res.Kept B s₀ (execTrainTimeout p s) := .ite (cnt (setPort h)) h

theorem exec_checkPass {p} (h : Keeps B s₀ s) : Res.Kept B s₀ (execCheckPass p s) :=
  .ite (reportPort (ite (fset (portEvt (setPort h))) (portEvt (setPort h)))) h

theorem exec_portSignalLost {p} (h : Keeps B s₀ s) : Res.Kept B s₀ (execPortSignalLost p s) := .ite (portDown h) h

theorem exec_portRetrain {p} (h : Keeps B s₀ s) : Res.Kept B s₀ (execPortRetrain p s) := .ite (portRetrainStart h) h

theorem exec_portRetrainWrite {p} (h : Keeps B s₀ s) : Res.Kept B s₀ (execPortRetrainWrite p s) := .ite (portRetrainStart h) (.ite (setPort h) h)

theorem exec_portRetrainDone {p} (h : Keeps B s₀ s) : Res.Kept B s₀ (execPortRetrainDone p s) :=
  .ite (reportPort (portEvt (replaySent (restorePort (setPort h))))) h

theorem exec_portRetrainTimeout {p} (h : Keeps B s₀ s) : Res.Kept B s₀ (execPortRetrainTimeout p s) := .ite (portEvt (portDown h)) h

theorem exec_portDisable {p} (h : Keeps B s₀ s) : Res.Kept B s₀ (execPortDisable p s) := .ite (portDown (bset h)) h

theorem exec_portEnable {p} (h : Keeps B s₀ s) : Res.Kept B s₀ (execPortEnable p s) := .ite (ite (setPort (bset h)) (bset h)) h

/-! #### Discovery (R334, R335) -/

theorem portRefused {q reason} (h : Keeps B s₀ s) : Keeps B s₀ (s.portRefused q reason) := portEvt (portDown h)

theorem exec_helloReceive {p serial devnum port bridge tier feature gen} (h : Keeps B s₀ s) :
    Res.Kept B s₀ (execHelloReceive p serial devnum port bridge tier feature gen s) := by
  unfold execHelloReceive
  extract_lets q t s1 keeps s2
  have h0 : Keeps B s₀ t := entryFreed h
  have h1 : Keeps B s₀ s1 := portUpd (fset (fset h0))
  have h2 : Keeps B s₀ s2 := ite (devUpd h1) h1
  refine .ite h (.ite (portRefused h0) (.ite (.ite ?_ h0) (.ite (reportPort h2) h2)))
  exact raise (fset (foldl h0 fun h => ite (portRefused h) h))

theorem numberPeer {l} (h : Keeps B s₀ s) : Keeps B s₀ (s.numberPeer l) := by
  unfold State.numberPeer
  extract_lets u serial level
  split
  · exact ite (portRefused h) h
  · extract_lets x s1 s2
    have h1 : Keeps B s₀ s1 := grpUpd (devUpd h)
    have h2 : Keeps B s₀ s2 := ite h1 (fset h1)
    exact ite (emit (fset h2)) (entryOut (tick h2))

theorem exec_discoveryEnd (h : Keeps B s₀ s) : Res.Kept B s₀ (execDiscoveryEnd s) :=
  .ite h (sendHeld (raise (fset (ite (newTables (foldl h fun h => numberPeer h)) h))))

theorem exec_enumReceive {serial devnum level gen} (h : Keeps B s₀ s) : Res.Kept B s₀ (execEnumReceive serial devnum level gen s) := by
  unfold execEnumReceive
  refine .ite (foldl (fset (devUpd (devUpd (fset (fset h))))) fun h => ite (reportPort (emit h)) h) ?_
  split
  · exact emit h
  · exact h

theorem exec_rescan (h : Keeps B s₀ s) : Res.Kept B s₀ (execRescan s) :=
  .ite (linkDegraded (fset (fset (grpUpd (with_lostDevs (foldl h fun h => devUpd h)))))) h

/-! #### Routes (R336, R337) and link states (R338, R339) -/

theorem exec_routeReceive {dest hops up dn gen last} (h : Keeps B s₀ s) : Res.Kept B s₀ (execRouteReceive dest hops up dn gen last s) :=
  .ite (fset (adoptTable (grpUpd h))) (grpUpd h)

theorem exec_linkstateReceive {d port up peer peerPort gen} (h : Keeps B s₀ s) : Res.Kept B s₀ (execLinkstateReceive d port up peer peerPort gen
  s) :=
  .ite (ite (fset (newTables (recordLink h))) (newTables (recordLink h))) (recordLink h)

theorem exec_lostReceive {d isolated gen} (h : Keeps B s₀ s) : Res.Kept B s₀ (execLostReceive d isolated gen s) := .ite h (waveLost (markLost h))

theorem exec_deviceLost {d} (h : Keeps B s₀ s) : Res.Kept B s₀ (execDeviceLost d s) := .ite (foldl (waveLost (markLost h)) fun h => entryOut h) h

theorem exec_deviceIsolated (h : Keeps B s₀ s) : Res.Kept B s₀ (execDeviceIsolated s) := .ite (raise (fset h)) h

/-! ### The barge movers and the KV placement loop -/

/-! #### Rings (R179, R180) -/

theorem readDesc {m i} (h : Keeps B s₀ s) : Keeps B s₀ (s.readDesc m i).1 := hubRead h

theorem askUnits {w r z off ticket n} (h : Keeps B s₀ s) : Keeps B s₀ (s.askUnits w r z off ticket n).1 := foldl h fun h => flashAsk h

theorem beginDesc {m ix d} (h : Keeps B s₀ s) : Keeps B s₀ (s.beginDesc m ix d).1 := iteOver (askUnits h) h

theorem startRing {m} (h : Keeps B s₀ s) : Keeps B s₀ (s.startRing m) := moverUpd (beginDesc (readDesc h))

theorem startHub {m} (h : Keeps B s₀ s) : Keeps B s₀ (s.startHub m) := by
  unfold State.startHub
  split
  · exact h
  · dsimp only
    refine moverUpd ?_
    split
    · exact iteOver (askUnits h) h
    · exact h

theorem exec_descriptorStart {m hub} (h : Keeps B s₀ s) : Res.Kept B s₀ (execDescriptorStart m hub s) :=
  .ite (.ite (startHub h) h) (.ite (startRing h) h)

theorem exec_brgWriteIndex {m v} (h : Keeps B s₀ s) : Res.Kept B s₀ (execBrgWriteIndex m v s) := .ite h (moverIndex h)

/-! #### Destinations (R182) -/

theorem putBlocks {w base x} (h : Keeps B s₀ s) : Keeps B s₀ (s.putBlocks w base x).1 := by
  unfold State.putBlocks
  dsimp only
  refine settle (foldOver (g := Prod.fst) h fun h => ?_)
  split
  · exact h
  · exact iteOver h (writeAt h)

theorem putCodebook {w e cb off x u} (h : Keeps B s₀ s) (hu : s.putCodebook w e cb off x = .ok u) : Keeps B s₀ u.1 := by
  unfold State.putCodebook at hu
  extract_lets n at hu
  split at hu
  · cases hu
    exact h
  · obtain ⟨t, ht, rfl⟩ := ok_of_map hu
    exact codebookPut (eachUnit h crossBy ht)

theorem moverStore {w d x turned u} (h : Keeps B s₀ s) (e : s.moverStore w d x turned = .ok u) : Keeps B s₀ u.1 := by
  unfold State.moverStore at e
  extract_lets base n took stop at e
  split at e
  · cases e
    exact h
  split at e
  · obtain ⟨t, ht, rfl⟩ := ok_of_map e
    have h1 := passDie h ht
    exact ite h1 (ite (hostOut h1) (transferOut h1))
  split at e
  · exact putCodebook h e
  split at e
  · split at e
    · cases e
      exact h
    · cases e
      exact ite h (transferOut h)
  · obtain ⟨t, ht, rfl⟩ := ok_of_map e
    exact putBlocks (pass h ht)

theorem descOutcome {m r ext turned} (h : Keeps B s₀ s) : CopyKeeps B s₀ Prod.fst (s.descOutcome m r ext turned) := by
  unfold State.descOutcome
  extract_lets w
  refine .ite h (.ite ?status (.ite h ?copy))
  case status =>
    split
    · exact h
    · exact h
  case copy =>
    refine .bind (moverSource h) fun {x} hx => ?_
    split
    · exact waitFor h
    · rename_i e
      exact moverStore (settle hx) e
    · rename_i e
      exact moverStore (settle hx) e

theorem descStatus {m ix status errOff} (h : Keeps B s₀ s) : Keeps B s₀ (s.descStatus m ix status errOff) := fset (hubWrite h)

theorem ringAdvance {m} (h : Keeps B s₀ s) : Keeps B s₀ (s.ringAdvance m) := pairWake (rset h)

theorem completeRing {m ext turned} (h : Keeps B s₀ s) : Keeps B s₀ (s.completeRing m ext turned) := by
  unfold State.completeRing
  extract_lets u
  split
  · split
    · rename_i e
      exact (descOutcome h).error e
    · rename_i e
      extract_lets s2 s3
      have h2 : Keeps B s₀ s2 := descStatus (flashForget ((descOutcome h).ok e))
      have h3 : Keeps B s₀ s3 := ringAdvance (moverUpd h2)
      exact ite (raise (moverUpd h2)) (ite (raise h3) h3)
  · exact h

theorem placeSource {m x r ext} (h : Keeps B s₀ s) : CopyKeeps B s₀ Source.st (s.placeSource m x r ext) := by
  unfold State.placeSource
  refine .ite h (.map (moverSource h) fun {y} hy => ?_)
  split
  · exact hy
  · exact hy

theorem placeStore {m x y u} (h : Keeps B s₀ s) (e : s.placeStore m x y = .ok u) : Keeps B s₀ u.1 := by
  unfold State.placeStore at e
  extract_lets w at e
  split at e
  · obtain ⟨r, hr, rfl⟩ := ok_of_map e
    exact putCodebook h hr
  · obtain ⟨t, ht, rfl⟩ := ok_of_map e
    exact settle (writeAt (pass h ht))

theorem completePlace {m x r ext} (h : Keeps B s₀ s) : Keeps B s₀ (s.completePlace m x r ext) := by
  unfold State.completePlace
  refine ite h ?_
  split
  · rename_i e
    exact (placeSource h).error e
  · rename_i e
    have hy := (placeSource h).ok e
    extract_lets s1
    have h1 : Keeps B s₀ s1 := moverUpd (flashForget (settle hy))
    refine ite (placeFailed h1) ?_
    split
    · exact waitFor h
    · rename_i e
      have ht := placeStore h1 e
      exact ite (placeDone ht) (placeFailed ht)

theorem exec_descriptorComplete {m hub ext turned} (h : Keeps B s₀ s) : Res.Kept B s₀ (execDescriptorComplete m hub ext turned s) := by
  unfold execDescriptorComplete
  refine .ite ?_ (completeRing h)
  split
  · exact completePlace h
  · exact h

/-! #### A halted ring (R182) -/

theorem exec_brgResume {m} (h : Keeps B s₀ s) : Res.Kept B s₀ (execBrgResume m s) := by
  unfold execBrgResume
  split
  · exact h
  · exact moverUpd (beginDesc (readDesc h))

theorem exec_brgSkip {m} (h : Keeps B s₀ s) : Res.Kept B s₀ (execBrgSkip m s) := by
  unfold execBrgSkip
  split
  · exact h
  · exact ringAdvance (moverUpd h)

theorem exec_brgAbort {m} (h : Keeps B s₀ s) : Res.Kept B s₀ (execBrgAbort m s) := by
  unfold execBrgAbort
  split
  · exact h
  · exact pairWake (fset (rset (moverUpd (foldl (foldl h fun h => hubWrite h) fun h => flashForget h))))

/-! #### The placement loop (R183 to R186) -/

theorem noFrame (h : Keeps B s₀ s) : Keeps B s₀ s.noFrame := ite h (raise h)

theorem promoteStart {p f} (h : Keeps B s₀ s) : Keeps B s₀ (s.promoteStart p f) := moverUpd h

theorem demote {p} (h : Keeps B s₀ s) : Keeps B s₀ (s.demote p) := cnt h

theorem promoteAll {thr fuel} (h : Keeps B s₀ s) : Keeps B s₀ (s.promoteAll thr fuel) := by
  induction fuel generalizing s with
  | zero => exact h
  | succ n ih =>
    unfold State.promoteAll
    split
    · exact ih (promoteStart h)
    · exact noFrame h
    · exact h

theorem exec_placeEpochEnd (h : Keeps B s₀ s) : Res.Kept B s₀ (execPlaceEpochEnd s) :=
  .ite h (with_place (ite (promoteAll (foldl h fun h => demote h)) h))

theorem promoAnswer {reason} (h : Keeps B s₀ s) : Keeps B s₀ (s.promoAnswer reason) := fset (fset h)

theorem exec_promoteCopyDone {page} (h : Keeps B s₀ s) : Res.Kept B s₀ (execPromoteCopyDone page s) := by
  unfold execPromoteCopyDone
  extract_lets +onlyGivenNames p m
  split
  · refine .ite h ?_
    with_reducible conv => arg 3; whnf
    generalize hr : State.hubRead _ _ _ = r
    have h3 : Keeps B s₀ r.st := by
      rw [← hr]
      exact hubRead (with_place (moverUpd h))
    have hanswer {b : Bool} {t : State} {k : Nat} (ht : Keeps B s₀ t) : Res.Kept B s₀ (.next (if b then t.promoAnswer k else t)) :=
      ite (promoAnswer ht) ht
    split
    · exact .ite (hanswer h3) (hanswer (cnt (with_place (settle (writeAt (hubPass h3))))))
    · exact hanswer h3
  · exact h

theorem exec_promoPromote (h : Keeps B s₀ s) : Res.Kept B s₀ (execPromoPromote s) := by
  unfold execPromoPromote
  dsimp only
  refine .ite h (.ite (promoAnswer h) ?_)
  split
  · exact promoAnswer (noFrame h)
  · exact .ite (promoAnswer h) (.ite (promoAnswer h) (.ite (promoAnswer h) (promoteStart (fset (fset h)))))

theorem exec_promoDemote (h : Keeps B s₀ s) : Res.Kept B s₀ (execPromoDemote s) :=
  .ite h (.ite (promoAnswer h) (.ite (promoAnswer h) (.ite (promoAnswer h) (promoAnswer (demote h)))))

/-! ### The meanings of the interrupt controller's commands and of the ferryman's -/

/-! #### Sources -/

theorem exec_sourceEvent {k} (h : Keeps B s₀ s) : Res.Kept B s₀ (execSourceEvent k s) := .ite h (raise h)

theorem exec_levelLineRise {k} (h : Keeps B s₀ s) : Res.Kept B s₀ (execLevelLineRise k s) := .ite (setLine h) h

theorem windowEnd {k} (h : Keeps B s₀ s) : Keeps B s₀ (s.windowEnd k) := present (srcUpd h)

theorem exec_coalWindowExpire {k} (h : Keeps B s₀ s) : Res.Kept B s₀ (execCoalWindowExpire k s) := by
  unfold execCoalWindowExpire
  dsimp only
  split
  · exact h
  · exact .ite h (windowEnd h)

/-! #### Claims -/

theorem claimBy {t} (h : Keeps B s₀ s) : Keeps B s₀ (s.claimBy t).1 := by
  unfold State.claimBy
  extract_lets s0
  have h0 : Keeps B s₀ s0 := tgtUpd h
  split
  · exact presentBest h0
  · extract_lets c s1 s2
    have h2 : Keeps B s₀ s2 := tgtUpd (srcUpd h0)
    exact presentBest (with_icu h2)

theorem exec_claim {t} (h : Keeps B s₀ s) : Res.Kept B s₀ (execClaim t s) := reply (claimBy h)

theorem exec_eoi {t v} (h : Keeps B s₀ s) : Res.Kept B s₀ (execEoi t v s) := by
  unfold execEoi
  dsimp only
  refine .ite h ?_
  split
  · exact .ite (presentAll (tgtUpd (srcUpd h))) (raise (tgtUpd h))
  · exact raise (tgtUpd h)

theorem exec_softwareInterrupt {v} (h : Keeps B s₀ s) : Res.Kept B s₀ (execSoftwareInterrupt v s) := raise h

/-! #### Wake (R413 to R415, R451) -/

theorem ferryWake {cause src} (h : Keeps B s₀ s) : Keeps B s₀ (s.ferryWake cause src) :=
  ite h (ite (standbyOut (fset (fset h))) (with_pwr (fset (fset h))))

theorem exec_ferrymanWake {k} (h : Keeps B s₀ s) : Res.Kept B s₀ (execFerrymanWake k s) := .ite (ferryWake h) h

theorem exec_ferryTimer {ms} (h : Keeps B s₀ s) : Res.Kept B s₀ (execFerryTimer ms s) := .ite h (ite (ferryWake (fset h)) (fset h))

/-! #### The flash mount -/

theorem exec_mountDone {labelOk ledgerOk wps} (h : Keeps B s₀ s) : Res.Kept B s₀ (execMountDone labelOk ledgerOk wps s) :=
  .ite h (with_sec_free (tick (rset (rtvRelease (mountEnd h)))))

/-! ### The meanings of the security units' commands -/

/-! #### Key notices (R461, R462) -/

theorem knotEnd {reason} (h : Keeps B s₀ s) : Keeps B s₀ (s.knotEnd reason) := secEvt (fset (fset h))

theorem knotRead (h : Keeps B s₀ s) : Keeps B s₀ s.knotRead.1 := settle (readAt h)

theorem knotCheck {l} (h : Keeps B s₀ s) : Keeps B s₀ (s.knotCheck l) :=
  ite (knotEnd h) (ite (knotEnd (vfyFail h)) (ite (knotEnd h) (fset h)))

theorem exec_keyEnrol {v} (h : Keeps B s₀ s) : Res.Kept B s₀ (execKeyEnrol v s) := .ite (knotCheck (knotRead h)) h

theorem exec_keyRevoke {v} (h : Keeps B s₀ s) : Res.Kept B s₀ (execKeyRevoke v s) := .ite (knotCheck (knotRead h)) h

theorem blow {op target dig} (h : Keeps BlownFrom s₀ s) : Keeps BlownFrom s₀ (s.blow op target dig) :=
  keyUpd (fun x hx => by split <;> simp [hx]) (fun x hx => by split <;> simp [hx]) h

theorem cut {n k free sec} (h : Keeps BlownFrom s₀ s) : Keeps BlownFrom s₀ { s with fuses := s.fuses.cut n k, free, sec } := by
  obtain ⟨hlog, hfuses, hqueue⟩ := h
  exact ⟨hlog, hfuses.trans (BlownFrom.cut _ _ _), hqueue⟩

theorem exec_keyNoticeDone {ok} (h : Keeps BlownFrom s₀ s) : Res.Kept BlownFrom s₀ (execKeyNoticeDone ok s) := by
  unfold execKeyNoticeDone
  split
  · exact h
  · exact .ite (knotEnd (blow h)) (knotEnd (cut h))

/-! #### Attestation (R463 to R465) -/

theorem exec_attestHost {v} (h : Keeps B s₀ s) : Res.Kept B s₀ (execAttestHost v s) := .ite h (.ite (bset h) (fset h))

theorem attestOut {body} (h : Keeps B s₀ s) : Keeps B s₀ (s.attestOut body) := secEvt (fset (fset (hubWrite h)))

theorem exec_attestDone {landing} (h : Keeps B s₀ s) : Res.Kept B s₀ (execAttestDone landing s) := by
  unfold execAttestDone
  split
  · exact attestOut h
  · exact reply (cnt h)
  · exact h

/-! ### Register accesses -/

/-! #### Commands that a write starts -/

theorem viaLog {f : Bool → State → Res State} (h : Keeps B s₀ s) (hf : ∀ {b : Bool} {t : State}, Keeps B s₀ t → Res.Kept B s₀ (f b t)) :
    Keeps B s₀ (s.viaLog f) :=
  via (tick h) (hf (tick h))

/-! #### Fields with conditions of their own -/

theorem rput {r m v} (h : Keeps B s₀ s) : Keeps B s₀ (s.rput r m v) := rset h

theorem plainWrite {r v} (h : Keeps B s₀ s) : Keeps B s₀ (s.plainWrite r v) := rset (rput h)

theorem writeCap {v} (h : Keeps B s₀ s) : Keeps B s₀ (s.writeCap v) := ite (fset (ite (fset h) h)) (ite (fset h) h)

theorem writeCeil {v} (h : Keeps B s₀ s) : Keeps B s₀ (s.writeCeil v) := fset (ite (fset h) h)

theorem writeThm {v} (h : Keeps B s₀ s) : Keeps B s₀ (s.writeThm v) :=
  ite (fset (ite (fset (ite (fset h) h)) (ite (fset h) h))) (ite (fset (ite (fset h) h)) (ite (fset h) h))

theorem writeClass {t v} (h : Keeps B s₀ s) : Keeps B s₀ (s.writeClass t v) := ite h (fset (foldl h fun h => h))

theorem writeQthr {k v} (h : Keeps B s₀ s) : Keeps B s₀ (s.writeQthr k v) := ite h (plainWrite h)

theorem writePlace {v} (h : Keeps B s₀ s) : Keeps B s₀ (s.writePlace v) := ite (plainWrite h) (plainWrite h)

theorem writeGen {v} (h : Keeps B s₀ s) : Keeps B s₀ (s.writeGen v) := ite (fset (fset h)) (fset h)

theorem writeRing {v} (h : Keeps B s₀ s) : Keeps B s₀ (s.writeRing v) := ite (plainWrite h) h

theorem writeLevelEvt {r src v} (h : Keeps B s₀ s) : Keeps B s₀ (s.writeLevelEvt r src v) := ite (setLine (plainWrite h)) (plainWrite h)

theorem writeSrc {k v} (h : Keeps B s₀ s) : Keeps B s₀ (s.writeSrc k v) := presentAll (ite (srcUpd (ite h (fset h))) (ite h (fset h)))

/-! #### Routing -/

theorem writeSpanCmd {ticket v} (h : Keeps B s₀ s) : Keeps B s₀ (s.writeSpanCmd ticket v) := by
  unfold State.writeSpanCmd
  dsimp only
  split
  · exact via h (exec_spanStart h)
  · exact via h (exec_spanStop h)
  · exact via h (exec_spanDrain h)
  · exact via h (exec_spanSnapshot h)
  · exact via h (exec_spanClear h)
  · exact via h (exec_spanUnload h)
  · exact cmdErr h

theorem writeRaw {c v} (h : Keeps B s₀ s) : Keeps B s₀ (s.writeRaw c v) := by
  unfold State.writeRaw
  dsimp only
  split
  · exact via (tick h) (exec_rawReadPage (tick h))
  · exact via (tick h) (exec_rawProgramPage (tick h))
  · exact via (tick h) (exec_rawEraseBlock (tick h))
  · exact via (tick h) (exec_rawReadStatus (tick h))
  · exact via (tick h) (exec_rawGetFeatures (tick h))
  · exact via h (exec_rawSetFeatures h)
  · exact via (tick h) (exec_rawReadId (tick h))
  · exact via (tick h) (exec_rawReadParameterPage (tick h))
  · exact via (tick h) (exec_rawResetLun (tick h))
  · exact h

theorem writeZone {v} (h : Keeps B s₀ s) : Keeps B s₀ (s.writeZone v) := by
  unfold State.writeZone
  split
  · exact via h (exec_zoneOpen h)
  · exact via h (exec_zoneFinish h)
  · exact via h (exec_zoneFree h)
  · exact via h (exec_zoneQuery h)
  · exact h

theorem writePort {q v} (h : Keeps B s₀ s) : Keeps B s₀ (s.writePort q v) :=
  ite (via h (exec_portDisable h)) (ite (via (via h (exec_portEnable h)) (exec_portRetrainWrite (via h (exec_portEnable h))))
    (via h (exec_portEnable h)))

theorem writeBrg {m v} (h : Keeps B s₀ s) : Keeps B s₀ (s.writeBrg m v) :=
  ite (via h (exec_brgResume h)) (ite (via h (exec_brgSkip h)) (ite (via h (exec_brgAbort h)) h))

theorem writeCwy {p v} (h : Keeps B s₀ s) : Keeps B s₀ (s.writeCwy p v) := by
  unfold State.writeCwy
  extract_lets s1 s2
  have h1 : Keeps B s₀ s1 := fset h
  have h2 : Keeps B s₀ s2 := ite (via h1 (exec_bundleRetrain h1)) h1
  exact ite (viaLog h2 exec_bundleRetire) h2

theorem writePwr {v} (h : Keeps BlownFrom s₀ s) : Keeps BlownFrom s₀ (s.writePwr v) := by
  unfold State.writePwr
  split
  · exact via h (exec_standbyEnter h)
  · exact via h (exec_standbyExit h)
  · exact via h (exec_offAon h)
  · exact h

theorem writeDieCmd {v} (h : Keeps B s₀ s) : Keeps B s₀ (s.writeDieCmd v) := by
  unfold State.writeDieCmd
  dsimp only
  refine ite h ?_
  split
  · exact via h (exec_dieDoze h)
  · exact via h (exec_dieWake h)
  · exact h

theorem writeOther {r v t} (h : Keeps B s₀ s) (e : t = if r.access.rwp ≠ 0 then s.rwpWrite r v else s.plainWrite r v) :
    Keeps B s₀ t := by
  rw [e]
  exact ite (rwpWrite h) (plainWrite h)

theorem writeReg {a ticket r v} (h : Keeps BlownFrom s₀ s) : Keeps BlownFrom s₀ (s.writeReg a ticket r v) := by
  have hother := fun {t} => writeOther (r := r) (v := v) (t := t) h
  cases r with
  | CLK_MAX => exact halfUpdate (halfUpdate (plainWrite h))
  | PWR_CTL => exact writePwr h
  | PWR_CAP => exact writeCap h
  | PWR_CEIL => exact writeCeil h
  | PWR_DIE_CMD => exact writeDieCmd h
  | THM_CTL => exact writeThm h
  | BUP_RST =>
    have h1 := via h (exec_coldResetCmd (v := v) h)
    exact via h1 (exec_warmResetCmd h1)
  | BUP_RCV_GO => exact via (tick h) (exec_imagePush (tick h))
  | CFG_CTL => exact via h (exec_levelWrite h)
  | CFG_LOAD_GO => exact via (tick h) (exec_imageLoad (tick h))
  | CFG_SPAN_CMD => exact writeSpanCmd h
  | CFG_DB => exact via h (exec_doorbell h)
  | CFG_COMMIT => exact via h (exec_pairCommit h)
  | CFG_SHADOW_CLR => exact via h (exec_shadowClear h)
  | CFG_PAIR_ABANDON => exact via h (exec_pairAbandon h)
  | SEC_KNOT_GO =>
    have h1 := via h (exec_keyEnrol (v := v) h)
    exact via h1 (exec_keyRevoke h1)
  | SEC_ATT_GO => exact via h (exec_attestHost h)
  | ICU_SRC => exact writeSrc h
  | ICU_TMASK => exact presentAll (plainWrite h)
  | ICU_COAL => exact presentAll (plainWrite h)
  | ICU_TCTL => exact presentAll (plainWrite h)
  | ICU_WAKE => exact presentAll (plainWrite h)
  | ICU_TSTAT => exact ite (tgtUpd h) h
  | ICU_TGT => exact ite h (plainWrite h)
  | ICU_EOI => exact via h (exec_eoi h)
  | ICU_SWI => exact via h (exec_softwareInterrupt h)
  | TKT_CLS => exact writeClass h
  | TKT_QTHR => exact writeQthr h
  | MEM_PATCH_CTL => exact viaLog h exec_patchRelease
  | MEM_FENCE_MACRO => exact viaLog h exec_macroFence
  | MEM_RETIRE_CMD => exact viaLog h exec_pageRetire
  | MEM_FLIP_CTL => exact via h (exec_flipArm h)
  | MEM_SCRUB_GO =>
    have h1 := ite (p := F.MEM_SCRUB_GO_STOP.get v = 1) (via h (exec_scrubStop h)) h
    exact ite (via h1 (exec_scrubStart h1)) h1
  | SBF_PL_CTL => exact writePlace h
  | SBF_PROMO_CMD =>
    unfold State.writeReg
    dsimp only
    split
    · exact via h (exec_promoPromote h)
    · exact via h (exec_promoDemote h)
    · exact h
  | BRG_WR => exact via h (exec_brgWriteIndex h)
  | BRG_CTL => exact writeBrg h
  | GEN_CTL => exact writeGen h
  | GEN_SEQ => exact ite (via h (exec_seqActivate h)) (via h (exec_seqDeactivate h))
  | GEN_SAMP => exact via h (exec_sampStageWrite h)
  | GEN_SAMP_GO => exact via h (exec_sampGo h)
  | GEN_HIST => exact via h (exec_histAppend h)
  | GEN_ORING_RD => exact via h (exec_oringReadAdvance h)
  | CWY_CTL => exact writeCwy h
  | CDI_CTL => exact via h (exec_edgeSelWrite h)
  | CDI_ROW_SUBST => exact via (tick h) (exec_rowSubst (tick h))
  | ENG_CTL => exact viaLog h exec_engFence
  | RTV_RE_FENCE => exact viaLog h exec_reFence
  | RTV_RRD => exact via h (exec_resultReadAdvance h)
  | FLC_THR_DATA => exact via h (exec_thresholdWrite h)
  | FLC_RAW_CMD => exact writeRaw h
  | FLC_FMT => exact ite (via h (exec_format h)) h
  | FLC_ZONE_CMD => exact writeZone h
  | FLC_EVT => exact writeLevelEvt h
  | LNK_EVT => exact writeLevelEvt h
  | LNK_PCTL => exact writePort h
  | LNK_RESCAN => exact ite (via h (exec_rescan h)) h
  | HBR_CTL => exact ite (emit (plainWrite h)) (plainWrite h)
  | TEL_SNAP =>
    unfold State.writeReg
    dsimp only
    split
    · exact via h (exec_snapshotDevice h)
    · exact via h (exec_snapshotGroup h)
    · exact h
  | TEL_RING_BASE => exact ite h (plainWrite h)
  | TEL_RING_LEN => exact ite h (plainWrite h)
  | TEL_RING_CTL => exact writeRing h
  | TEL_RING_RD => exact via h (exec_telRingReadAdvance h)
  | TEL_HIST_SEL =>
    unfold State.writeReg
    exact via h (exec_histSelect h)
  | LDP_ACCESS => exact ite h (plainWrite h)
  | LDP_MBOX_IN => exact ite (ldpEvt (rset h)) h
  | LDP_MBOX_OUT => exact ite h (alertBit (rset h))
  | LDP_CRASH_CLR => exact ite (with_ldp h) h
  | TST_CTL =>
    have h1 := ite (p := F.TST_CTL_ENTER.get v = 1) (via h (exec_fieldTestEnter h)) h
    exact ite (viaLog h1 exec_fieldTestExit) h1
  | _ => exact hother rfl

/-! #### Reads -/

theorem clearMem {r} (h : Keeps B s₀ s) : Keeps B s₀ (s.clearMem r) := by
  unfold State.clearMem
  dsimp only
  split
  · exact ite h h
  · exact ite h h
  · exact ite h h
  · exact ite h h
  · exact h
  · exact h
  · exact h

theorem clearRc {r} (h : Keeps B s₀ s) : Keeps B s₀ (s.clearRc r) := by
  unfold State.clearRc
  split
  · exact clearMem h
  · exact clearMem h
  · exact clearMem h
  · exact clearMem h
  · exact clearMem h
  · exact clearMem h
  · exact clearMem h
  · exact ite h h
  · exact h
  · exact h
  · exact dirUpd h
  · exact tick h
  · exact ite h (rset h)

theorem readReg {r} (h : Keeps B s₀ s) : Keeps B s₀ (s.readReg r).1 := by
  unfold State.readReg
  refine iteOver h ?_
  split
  · exact claimBy h
  · exact via h (exec_eventRingPop h)
  · exact clearRc h

/-! #### Accesses -/

theorem regWriteAt {a ticket off v} (h : Keeps BlownFrom s₀ s) : Keeps BlownFrom s₀ (s.regWriteAt a ticket off v) := by
  unfold State.regWriteAt
  split
  · exact ite h (writeReg h)
  · exact h

theorem regReadAt {off} (h : Keeps B s₀ s) : Keeps B s₀ (s.regReadAt off).1 := by
  unfold State.regReadAt
  refine iteOver ?_ ?_
  · split
    · exact h
    · exact h
  · split
    · exact readReg h
    · exact h

theorem exec_registerWrite {a off size v} (h : Keeps BlownFrom s₀ s) : Res.Kept BlownFrom s₀ (execRegisterWrite a off size v s) :=
  .ite (reply (regWriteAt h)) (reply h)

theorem exec_clearByRead {a off size} (h : Keeps B s₀ s) : Res.Kept B s₀ (execClearByRead a off size s) := .ite (reply (regReadAt h)) (reply h)

/-! ### The meanings of the frames that arrive on a Wealey port -/

/-! #### Arrival -/

theorem arrive {p f} {serve : State → State} (h : Keeps B s₀ s) (hs : ∀ {t : State}, Keeps B s₀ t → Keeps B s₀ (serve t)) :
    Res.Kept B s₀ (s.arrive p f serve) := by
  unfold State.arrive
  refine .ite h (.ite (via h (exec_codewordReceive h)) ?_)
  extract_lets t
  have h1 : Keeps B s₀ t := slicesFreed h
  exact .ite (frameLost h1) (.ite (frameOut h1) (hs h1))

theorem ingressGo {p f write} (h : Keeps B s₀ s) : Keeps B s₀ (s.ingressGo p f write) := by
  unfold State.ingressGo
  exact request (with_grp (tick (tick (tick h))))

/-! #### Requests -/

theorem serveWriteFrame {p f} (h : Keeps BlownFrom s₀ s) : Keeps BlownFrom s₀ (s.serveWriteFrame p f) := by
  unfold State.serveWriteFrame
  refine ite (ite (respond (hostOut h)) (respond h)) (ite (respond h) ?_)
  split
  · exact ite (respond (regWriteAt h)) (respond h)
  · exact ingressGo h

theorem exec_wealeyWrite {p f} (h : Keeps BlownFrom s₀ s) : Res.Kept BlownFrom s₀ (execWealeyWrite p f s) := by
  unfold execWealeyWrite
  exact arrive h serveWriteFrame

theorem serveReadFrame {p f} (h : Keeps B s₀ s) : Keeps B s₀ (s.serveReadFrame p f) := by
  unfold State.serveReadFrame
  refine ite (ite (emit (tlpTx h)) (respond h)) ?_
  split
  · exact ite (respond (regReadAt h)) (respond h)
  · exact ingressGo h

theorem exec_wealeyRead {p f} (h : Keeps B s₀ s) : Res.Kept B s₀ (execWealeyRead p f s) := by
  unfold execWealeyRead
  exact arrive h serveReadFrame

theorem ewrite {p f u} (h : Keeps B s₀ s) (e : s.ewrite p f = some u) : Keeps B s₀ u.1 := by
  unfold State.ewrite at e
  extract_lets q x at e
  split at e
  · cases e
  · rename_i e1
    cases e
    refine foldOver_of_eq (g := Prod.fst) (routeCross (mcastPrune h) e1) fun h e => ?_
    split at e
    · rename_i e1
      cases e
      exact settle ((lay h).ok e1)
    · rename_i e1
      cases e
      exact settle ((lay h).fault e1)
    · cases e
      exact h

theorem exec_wealeyEwrite {p f} (h : Keeps B s₀ s) : Res.Kept B s₀ (execWealeyEwrite p f s) := by
  unfold execWealeyEwrite
  refine arrive h fun {t} ht => ?_
  split
  · rename_i e
    exact respond (ewrite ht e)
  · exact h

/-! #### Responses -/

theorem exec_wealeyRdata {p f} (h : Keeps B s₀ s) : Res.Kept B s₀ (execWealeyRdata p f s) := by
  unfold execWealeyRdata
  exact arrive h fun h => ite (tagDone h) h

theorem exec_wealeyCpl {p f} (h : Keeps B s₀ s) : Res.Kept B s₀ (execWealeyCpl p f s) := by
  unfold execWealeyCpl
  exact arrive h fun h => ite (tagDone h) h

/-! ### The meanings of the host bridge's commands -/

/-! #### Functions -/

theorem fnUpd {fn f} (h : Keeps B s₀ s) : Keeps B s₀ (s.fnUpd fn f) := h

theorem fnFlush {fn} (h : Keeps B s₀ s) : Keeps B s₀ (s.fnFlush fn) := ite h (sendHeld (foldl h fun h => msixOut (fnUpd h)))

theorem exec_hostConfigRequest {fn q} (h : Keeps B s₀ s) : Res.Kept B s₀ (execHostConfigRequest fn q s) := by
  unfold execHostConfigRequest
  refine .ite h ?_
  extract_lets s1
  have h1 : Keeps B s₀ s1 := tlpTx (tlpRx h)
  refine .ite (reply h1) ?_
  split
  · exact reply (tick h1)
  · exact reply (fnFlush (fnUpd h1))
  · exact reply (fnFlush (fnUpd h1))
  · exact reply (fnUpd h1)

/-! #### Reads -/

theorem hostReadMem {fn tag a len} (h : Keeps B s₀ s) : Keeps B s₀ (s.hostReadMem fn tag a len) := by
  unfold State.hostReadMem
  extract_lets dev l q s1 _ ls r
  have h1 : Keeps B s₀ s1 := tick (tick (tick h))
  have hr : Keeps B s₀ r.1 := foldOver (g := Prod.fst) h fun h => requestOut h
  refine ite (ite (hostUnsupported h) ?_) (ite (hostAbort h) (with_grp hr))
  split
  · exact ite (hostData (regReadAt h)) (hostAbort h)
  · exact ite (hostAbort h) (request (with_grp h1))

theorem exec_hostRead {fn bar off len tag} (h : Keeps B s₀ s) : Res.Kept B s₀ (execHostRead fn bar off len tag s) := by
  unfold execHostRead
  refine .ite h ?_
  dsimp only
  refine .ite (hostUnsupported (tlpRx h)) ?_
  split
  · exact .ite (hostData (regReadAt (tlpRx h))) (hostAbort (tlpRx h))
  · exact hostReadMem (tlpRx h)
  · exact .ite (hostUnsupported (tlpRx h)) (hostData (tlpRx h))
  · exact hostUnsupported (bset (tlpRx h))
  · exact hostUnsupported (tlpRx h)

/-! #### Writes -/

theorem hostReg {fn off data ep} (h : Keeps BlownFrom s₀ s) : Keeps BlownFrom s₀ (s.hostReg fn off data ep) :=
  ite (hostDrop h) (ite (hostDoorbell h) (regWriteAt h))

theorem hostWriteMem {fn a data ep} (h : Keeps BlownFrom s₀ s) : Keeps BlownFrom s₀ (s.hostWriteMem fn a data ep) := by
  unfold State.hostWriteMem
  extract_lets dev l pois
  refine ite (ite (hbrErr h) ?own) (ite (hostDrop h) (ite (hostDoorbell h) (with_grp (transferOut h))))
  split
  · exact hostReg h
  · exact ite (hostDrop h) (request (tick (tick (tick h))))

theorem exec_hostWrite {fn bar off data ep} (h : Keeps BlownFrom s₀ s) : Res.Kept BlownFrom s₀ (execHostWrite fn bar off data ep s) := by
  unfold execHostWrite
  refine .ite h ?_
  extract_lets s1 s2
  have h1 : Keeps BlownFrom s₀ s1 := reply (tlpRx h)
  have h2 : Keeps BlownFrom s₀ s2 := ite (hbrErr h1) h1
  refine .ite (hbrErr h1) ?_
  split
  · exact hostReg h2
  · exact hostWriteMem h2
  · exact .ite (hbrErr h2) (hostReg h2)
  · exact hbrErr h2
  · exact hbrErr h2

/-! #### The link, resets, completions -/

theorem exec_hostLinkChange {rate width flit up} (h : Keeps B s₀ s) : Res.Kept B s₀ (execHostLinkChange rate width flit up s) :=
  .ite h (raise (bset (bset (bset (fset (fset h))))))

theorem exec_hostLinkRetrain (h : Keeps B s₀ s) : Res.Kept B s₀ (execHostLinkRetrain s) := .ite (emit h) h

theorem exec_flr {fn} (h : Keeps B s₀ s) : Res.Kept B s₀ (execFlr fn s) := .ite h (raise (fnUpd h))

theorem exec_perst (h : Keeps B s₀ s) : Res.Kept B s₀ (execPerst s) :=
  .ite h (raise (rset (ite (raise (foldl h fun h => respond h)) (foldl h fun h => respond h))))

theorem exec_perstDeassert (h : Keeps B s₀ s) : Res.Kept B s₀ (execPerstDeassert s) := .ite (endpoint h) h

theorem exec_hostReadCompletion {d tag data} (h : Keeps B s₀ s) : Res.Kept B s₀ (execHostReadCompletion d tag data s) := by
  unfold execHostReadCompletion
  split
  · exact h
  · dsimp only
    split
    · exact .ite (respond (tlpRx h)) (respond (tlpRx h))
    · exact respond (tlpRx h)

/-! ### The meanings of the landing port's commands -/

/-! #### Requests -/

theorem vendor {cmd result payload} (h : Keeps B s₀ s) : Keeps B s₀ (s.vendor cmd result payload) :=
  ite (cnt (reply h)) (ite (ldpEvt (fset (cnt (reply h)))) (reply h))

theorem request442 {cmd} {f : State → State} (h : Keeps B s₀ s) (hf : Keeps B s₀ (f s)) : Res.Kept B s₀ (s.request442 cmd f) :=
  .ite (reply h) (.ite (vendor h) hf)

theorem control440 {f : State → State × List Byte} (h : Keeps B s₀ s) (hf : Keeps B s₀ (f s).1) : Res.Kept B s₀ (s.control440 f) :=
  .ite (reply h) (reply hf)

/-! #### MCTP control messages (R440) -/

theorem exec_setEndpointId {eid} (h : Keeps B s₀ s) : Res.Kept B s₀ (execSetEndpointId eid s) := control440 h (iteOver h (fset h))

theorem exec_getEndpointId (h : Keeps B s₀ s) : Res.Kept B s₀ (execGetEndpointId s) := control440 h h

theorem exec_getMctpVersionSupport (h : Keeps B s₀ s) : Res.Kept B s₀ (execGetMctpVersionSupport s) := control440 h (tick h)

theorem exec_getMessageTypeSupport (h : Keeps B s₀ s) : Res.Kept B s₀ (execGetMessageTypeSupport s) := control440 h h

theorem exec_getVendorDefinedMsgSupport (h : Keeps B s₀ s) : Res.Kept B s₀ (execGetVendorDefinedMsgSupport s) := control440 h (tick h)

/-! #### Information, registers, log -/

theorem exec_getInfo (h : Keeps B s₀ s) : Res.Kept B s₀ (execGetInfo s) := request442 h (vendor h)

theorem ldpRead {n off} (h : Keeps B s₀ s) : Keeps B s₀ (State.ldpRead n off s).1 := by
  induction n generalizing s off with
  | zero => exact h
  | succ n ih => exact iteOver h (ih (regReadAt h))

theorem exec_regRead {addr count} (h : Keeps B s₀ s) : Res.Kept B s₀ (execRegRead addr count s) :=
  request442 h (ite (vendor h) (vendor (ldpRead h)))

theorem ldpWrite {l off done} (h : Keeps BlownFrom s₀ s) : Keeps BlownFrom s₀ (State.ldpWrite l off done s).1 := by
  induction l generalizing s off done with
  | nil => exact h
  | cons v l ih => exact iteOver h (iteOver (regWriteAt h) (ih (regWriteAt h)))

theorem exec_regWrite {addr count words} (h : Keeps BlownFrom s₀ s) : Res.Kept BlownFrom s₀ (execRegWrite addr count words s) := by
  unfold execRegWrite
  refine request442 h (ite (vendor h) ?_)
  extract_lets r
  have hr : Keeps BlownFrom s₀ r.1 := ldpWrite h
  split
  · exact vendor hr
  · exact reply hr

theorem exec_logRead {index} (h : Keeps B s₀ s) : Res.Kept B s₀ (execLogRead index s) := request442 h (vendor h)

/-! #### Crash capture, mailboxes, alert -/

theorem crashZero (h : Keeps B s₀ s) : Keeps B s₀ s.crashZero := h

theorem exec_crashRead {off} (h : Keeps B s₀ s) : Res.Kept B s₀ (execCrashRead off s) := request442 h (ite (vendor h) (vendor h))

theorem exec_crashClear (h : Keeps B s₀ s) : Res.Kept B s₀ (execCrashClear s) := request442 h (vendor (crashZero h))

theorem exec_crashClrWrite {v} (h : Keeps B s₀ s) : Res.Kept B s₀ (execCrashClrWrite v s) := .ite (crashZero h) h

theorem exec_mboxInWrite {v} (h : Keeps BlownFrom s₀ s) : Res.Kept BlownFrom s₀ (execMboxInWrite v s) := writeReg h

theorem exec_mboxOutWrite {v} (h : Keeps BlownFrom s₀ s) : Res.Kept BlownFrom s₀ (execMboxOutWrite v s) := writeReg h

theorem exec_araRead (h : Keeps B s₀ s) : Res.Kept B s₀ (execAraRead s) := .ite (reply h) (reply h)

theorem exec_alertReassert (h : Keeps B s₀ s) : Res.Kept B s₀ (execAlertReassert s) := .ite h h

/-! #### Reset and power (R447) -/

theorem controlled {cmd key} {f : State → State} (h : Keeps B s₀ s) (hf : Keeps B s₀ (f s)) : Keeps B s₀ (s.controlled cmd key f) :=
  ite (vendor h) (ite (vendor h) (ite (vendor h) hf))

theorem startMain {cmd vin} (h : Keeps B s₀ s) : Keeps B s₀ (s.startMain cmd vin) := ite (vendor h) (vendor h)

theorem exec_ldpResetCold {key} (h : Keeps BlownFrom s₀ s) : Res.Kept BlownFrom s₀ (execLdpResetCold key s) :=
  request442 h (controlled h (ite (startMain (tick h)) (resetFrom (vendor h))))

theorem exec_ldpResetWarm {key} (h : Keeps BlownFrom s₀ s) : Res.Kept BlownFrom s₀ (execLdpResetWarm key s) :=
  request442 h (ite (vendor h) (controlled h (resetFrom (vendor h))))

theorem exec_powerStandby (h : Keeps B s₀ s) : Res.Kept B s₀ (execPowerStandby s) :=
  request442 h (ite (vendor h) (controlled h (vendor (via h (exec_standbyEnter h)))))

theorem exec_powerRun (h : Keeps B s₀ s) : Res.Kept B s₀ (execPowerRun s) :=
  request442 h (ite (vendor h) (controlled h (vendor (ferryWake h))))

theorem exec_powerOffAon (h : Keeps BlownFrom s₀ s) : Res.Kept BlownFrom s₀ (execPowerOffAon s) :=
  request442 h (ite (vendor h) (controlled h (vendor (via h (exec_offAon h)))))

theorem exec_powerStartMain {vin} (h : Keeps B s₀ s) : Res.Kept B s₀ (execPowerStartMain vin s) :=
  request442 h (ite (vendor h) (controlled h (startMain h)))

/-! #### The shared buffer and images (R442, R448) -/

theorem exec_bufWrite {off data} (h : Keeps B s₀ s) : Res.Kept B s₀ (execBufWrite off data s) := by
  unfold execBufWrite
  refine request442 h (ite (vendor h) (ite (vendor h) (ite (vendor h) ?_)))
  extract_lets w
  have hw : Keeps B s₀ w.st := writeAt h
  split
  · exact vendor (settle hw)
  · exact vendor (settle (dropped hw))
  · exact vendor (settle hw)

theorem exec_bufRead {off bytes} (h : Keeps B s₀ s) : Res.Kept B s₀ (execBufRead off bytes s) :=
  request442 h (ite (vendor h) (ite (vendor h) (ite (vendor h) (ite (vendor (hubRead h)) (vendor (hubRead h))))))

theorem exec_imgPush {len program f} (h : Keeps B s₀ s) : Res.Kept B s₀ (execImgPush len program f s) := by
  have h1 {l} : Keeps B s₀ (({ s with ldp := l } : State).rset .BUP_RCV_LEN len) := rset (with_ldp h)
  exact request442 h (ite (vendor h) (ite (vendor h) (ite (vendor h) (via h1 (exec_imagePush h1)))))

/-! #### Attestation (R465) -/

theorem exec_attestSign {nonce} (h : Keeps B s₀ s) : Res.Kept B s₀ (execAttestSign nonce s) :=
  request442 h (ite (vendor h) (ite (vendor h) (reply (with_sec h))))

theorem attestPart {obj off n} (h : Keeps B s₀ s) : Keeps B s₀ (s.attestPart obj off n) := ite (vendor h) (vendor h)

theorem exec_attestReadReport {off bytes} (h : Keeps B s₀ s) : Res.Kept B s₀ (execAttestReadReport off bytes s) := by
  unfold execAttestReadReport
  refine request442 h (ite (vendor h) ?_)
  split
  · exact vendor h
  · exact attestPart h

theorem exec_attestReadCert {off bytes} (h : Keeps B s₀ s) : Res.Kept B s₀ (execAttestReadCert off bytes s) :=
  request442 h (ite (vendor h) (attestPart h))

/-! ### The meanings of the test access port's commands -/

theorem tapIr {ir} (h : Keeps B s₀ s) : Keeps B s₀ (s.tapIr ir) := h

theorem tapOut {v} (h : Keeps B s₀ s) : Keeps B s₀ (s.tapOut v) := emit h

theorem tstEvt {f} (h : Keeps B s₀ s) : Keeps B s₀ (s.tstEvt f) := ite h (bset h)

theorem exec_tapReset (h : Keeps B s₀ s) : Res.Kept B s₀ (execTapReset s) := h

theorem exec_tapIdcode (h : Keeps B s₀ s) : Res.Kept B s₀ (execTapIdcode s) := foldl (tapIr h) fun h => tapOut h

theorem exec_tapSamplePreload {pins load_} (h : Keeps B s₀ s) : Res.Kept B s₀ (execTapSamplePreload pins load_ s) := tapOut h

theorem tapTest {ir} (h : Keeps B s₀ s) : Keeps B s₀ (s.tapTest ir) := ite (tapIr h) (tstEvt (tapIr h))

theorem exec_tapExtest (h : Keeps B s₀ s) : Res.Kept B s₀ (execTapExtest s) := tapTest h

theorem exec_tapClamp (h : Keeps B s₀ s) : Res.Kept B s₀ (execTapClamp s) := tapTest h

theorem exec_tapHighz (h : Keeps B s₀ s) : Res.Kept B s₀ (execTapHighz s) := tapTest h

theorem exec_tapDiesel {v} (h : Keeps B s₀ s) : Res.Kept B s₀ (execTapDiesel v s) := tapOut h

theorem exec_tapIjtag {pos write v} (h : Keeps B s₀ s) : Res.Kept B s₀ (execTapIjtag pos write v s) :=
  .ite (tapOut (tapIr h)) (.ite (tapOut (tapIr h)) (.ite (with_tap (tapIr h)) (tstEvt (tapIr h))))

theorem exec_tapRegacc {w} (h : Keeps BlownFrom s₀ s) : Res.Kept BlownFrom s₀ (execTapRegacc w s) :=
  .ite (reply (tapIr h)) (.ite (reply (regWriteAt (tapIr h))) (tapOut (reply (regReadAt (tapIr h)))))

theorem exec_tapBypass (h : Keeps B s₀ s) : Res.Kept B s₀ (execTapBypass s) := tapIr h

theorem exec {i : Instr} (w : InstrFormed i) (h : Keeps BlownFrom s₀ s) : Res.Kept BlownFrom s₀ (Machine.exec i s) :=
  match i, w with
  | .registerWrite .., _ => exec_registerWrite h
  | .nop .., _ => exec_nop h
  | .matmul .., _ => exec_matmul h
  | .attnPaged .., _ => exec_attnPaged h
  | .moeGate .., _ => exec_moeGate h
  | .moeDispatch .., _ => exec_moeDispatch h
  | .moeGather .., _ => exec_moeGather h
  | .normRms .., _ => exec_normRms h
  | .normLayer .., _ => exec_normLayer h
  | .embedGather .., _ => exec_embedGather h
  | .vec .., _ => exec_vec h
  | .sfu .., _ => exec_sfu h
  | .reduce .., _ => exec_reduce h
  | .transpose .., _ => exec_transpose h
  | .rerankScore .., _ => exec_rerankScore h
  | .topk .., _ => exec_topk h
  | .send .., _ => exec_send h
  | .logitsOut .., _ => exec_logitsOut h
  | .tokenIn .., _ => exec_tokenIn h
  | .sync .., _ => exec_sync h
  | .endTask .., _ => exec_endTask h
  | .stepStart .., _ => exec_stepStart h
  | .gangDataReturn .., _ => exec_gangDataReturn h
  | .engineIssueCycle .., _ => exec_engineIssueCycle h
  | .syncSignal .., _ => exec_syncSignal h
  | .codebookWrite .., _ => exec_codebookWrite h
  | .heldCodebookWrite .., _ => exec_heldCodebookWrite h
  | .seqActivate .., _ => exec_seqActivate h
  | .seqDeactivate .., _ => exec_seqDeactivate h
  | .sampStageWrite .., _ => exec_sampStageWrite h
  | .sampGo .., _ => exec_sampGo h
  | .histAppend .., _ => exec_histAppend h
  | .tokenChoose .., _ => exec_tokenChoose h
  | .oringAdvance .., _ => exec_oringAdvance h
  | .oringReadAdvance .., _ => exec_oringReadAdvance h
  | .grammarMaskDone .., _ => exec_grammarMaskDone h
  | .heartbeatCheck .., _ => exec_heartbeatCheck h
  | .engFence .., _ => exec_engFence h
  | .controlParityError .., _ => exec_controlParityError h
  | .powerGateFault .., _ => exec_powerGateFault h
  | .rowSubst .., _ => exec_rowSubst h
  | .substPortBind .., _ => exec_substPortBind h
  | .edgeSelWrite .., _ => exec_edgeSelWrite h
  | .edgeSelApply .., _ => exec_edgeSelApply h
  | .mcastDeliver .., _ => exec_mcastDeliver h
  | .barrierArrive .., _ => exec_barrierArrive h
  | .barrierRelease .., _ => exec_barrierRelease h
  | .seamStallAlert .., _ => exec_seamStallAlert h
  | .stepChangeApply .., _ => exec_stepChangeApply h
  | .spanStart .., _ => exec_spanStart h
  | .spanStop .., _ => exec_spanStop h
  | .spanDrain .., _ => exec_spanDrain h
  | .spanSnapshot .., _ => exec_spanSnapshot h
  | .spanClear .., _ => exec_spanClear h
  | .spanUnload .., _ => exec_spanUnload h
  | .spanQuiet .., _ => exec_spanQuiet h
  | .doorbell .., _ => exec_doorbell h
  | .eventRingPop .., _ => exec_eventRingPop h
  | .imageLoad .., _ => exec_imageLoad h
  | .rwpWrite .., _ => exec_rwpWrite h
  | .pairCommit .., _ => exec_pairCommit h
  | .shadowClear .., _ => exec_shadowClear h
  | .pairAbandon .., _ => exec_pairAbandon h
  | .levelWrite .., _ => exec_levelWrite h
  | .prepareReceive .., _ => exec_prepareReceive h
  | .modeAckReceive .., _ => exec_modeAckReceive h
  | .commitReceive .., _ => exec_commitReceive h
  | .modeApply .., _ => exec_modeApply h
  | .abortReceive .., _ => exec_abortReceive h
  | .memoryRead .., _ => exec_memoryRead h
  | .memoryWrite .., w => exec_memoryWrite w h
  | .stackFence .., _ => exec_stackFence h
  | .brgWriteIndex .., _ => exec_brgWriteIndex h
  | .descriptorStart .., _ => exec_descriptorStart h
  | .descriptorComplete .., _ => exec_descriptorComplete h
  | .brgResume .., _ => exec_brgResume h
  | .brgSkip .., _ => exec_brgSkip h
  | .brgAbort .., _ => exec_brgAbort h
  | .promoteCopyDone .., _ => exec_promoteCopyDone h
  | .patchRelease .., _ => exec_patchRelease h
  | .macroFence .., _ => exec_macroFence h
  | .macroFenceApply .., _ => exec_macroFenceApply h
  | .pageRetire .., _ => exec_pageRetire h
  | .flipArm .., _ => exec_flipArm h
  | .scrubStart .., _ => exec_scrubStart h
  | .scrubDone .., _ => exec_scrubDone h
  | .ticketAvgUpdate .., _ => exec_ticketAvgUpdate h
  | .throttleReceive _ _ band _, _ => exec_throttleReceive (band := band) h
  | .queueLevelReceive .., _ => exec_queueLevelReceive h
  | .leakRelease .., _ => exec_leakRelease h
  | .missWindowEnd .., _ => exec_missWindowEnd h
  | .flashRead .., _ => exec_flashRead h
  | .pageReadDone .., _ => exec_pageReadDone h
  | .probeIssue .., _ => exec_probeIssue h
  | .probeResult .., _ => exec_probeResult h
  | .readDisturbPatrol .., _ => exec_readDisturbPatrol h
  | .flashProgram .., _ => exec_flashProgram h
  | .programStatus .., _ => exec_programStatus h
  | .eraseStatus .., _ => exec_eraseStatus h
  | .relocationSwitch .., _ => exec_relocationSwitch h
  | .lunTimeout .., _ => exec_lunTimeout h
  | .zqCalibration .., _ => exec_zqCalibration h
  | .zoneOpen .., _ => exec_zoneOpen h
  | .zoneAppend .., _ => exec_zoneAppend h
  | .appendComplete .., _ => exec_appendComplete h
  | .format .., _ => exec_format h
  | .formatDone .., _ => exec_formatDone h
  | .mount .., _ => exec_mount h
  | .mountDone .., _ => exec_mountDone h
  | .rawReadPage .., _ => exec_rawReadPage h
  | .rawProgramPage .., _ => exec_rawProgramPage h
  | .rawEraseBlock .., _ => exec_rawEraseBlock h
  | .rawReadStatus .., _ => exec_rawReadStatus h
  | .rawGetFeatures .., _ => exec_rawGetFeatures h
  | .rawSetFeatures .., _ => exec_rawSetFeatures h
  | .rawReadId .., _ => exec_rawReadId h
  | .rawReadParameterPage .., _ => exec_rawReadParameterPage h
  | .rawResetLun .., _ => exec_rawResetLun h
  | .thresholdWrite .., _ => exec_thresholdWrite h
  | .queryAdmit .., _ => exec_queryAdmit h
  | .unitDelivered .., _ => exec_unitDelivered h
  | .walkRound .., _ => exec_walkRound h
  | .queryEnd .., _ => exec_queryEnd h
  | .queryFail .., _ => exec_queryFail h
  | .resultHeaderWrite .., _ => exec_resultHeaderWrite h
  | .forwardStart .., _ => exec_forwardStart h
  | .forwardDoorbell .., _ => exec_forwardDoorbell h
  | .forwardFree .., _ => exec_forwardFree h
  | .reFence .., _ => exec_reFence h
  | .resultReadAdvance .., _ => exec_resultReadAdvance h
  | .flitReceive .., w => exec_flitReceive w h
  | .dnakReceive .., _ => exec_dnakReceive h
  | .chainFrameReceive .., _ => exec_chainFrameReceive h
  | .bundleRetrain .., _ => exec_bundleRetrain h
  | .retrainDone .., _ => exec_retrainDone h
  | .bundleRetire .., _ => exec_bundleRetire h
  | .clockPairLost .., _ => exec_clockPairLost h
  | .discReceive .., _ => exec_discReceive h
  | .codewordReceive .., _ => exec_codewordReceive h
  | .controlSliceReceive .., _ => exec_controlSliceReceive h
  | .chainEntryReceive .., _ => exec_chainEntryReceive h
  | .helloReceive _ _ _ _ _ _ _ gen, _ => exec_helloReceive (gen := gen) h
  | .enumReceive .., _ => exec_enumReceive h
  | .routeReceive .., _ => exec_routeReceive h
  | .linkstateReceive _ _ _ _ _ gen, _ => exec_linkstateReceive (gen := gen) h
  | .lostReceive _ isolated gen, _ => exec_lostReceive (isolated := isolated) (gen := gen) h
  | .wealeyWrite .., _ => exec_wealeyWrite h
  | .wealeyRead .., _ => exec_wealeyRead h
  | .wealeyRdata .., _ => exec_wealeyRdata h
  | .wealeyCpl .., _ => exec_wealeyCpl h
  | .wealeyEwrite .., _ => exec_wealeyEwrite h
  | .frameSend .., _ => exec_frameSend h
  | .portSignalDetect .., _ => exec_portSignalDetect h
  | .detectRetry .., _ => exec_detectRetry h
  | .trainLock .., _ => exec_trainLock h
  | .trainTimeout .., _ => exec_trainTimeout h
  | .checkPass .., _ => exec_checkPass h
  | .portSignalLost .., _ => exec_portSignalLost h
  | .portRetrain .., _ => exec_portRetrain h
  | .portRetrainWrite .., _ => exec_portRetrainWrite h
  | .portRetrainDone .., _ => exec_portRetrainDone h
  | .portRetrainTimeout .., _ => exec_portRetrainTimeout h
  | .portDisable .., _ => exec_portDisable h
  | .portEnable .., _ => exec_portEnable h
  | .deviceLost .., _ => exec_deviceLost h
  | .hostConfigRequest .., _ => exec_hostConfigRequest h
  | .hostRead .., _ => exec_hostRead h
  | .hostWrite .., _ => exec_hostWrite h
  | .hostLinkChange .., _ => exec_hostLinkChange h
  | .flr .., _ => exec_flr h
  | .hostReadCompletion .., _ => exec_hostReadCompletion h
  | .powerInterval .., _ => exec_powerInterval h
  | .diodeRead .., _ => exec_diodeRead h
  | .avsInterval .., _ => exec_avsInterval h
  | .stepRampDone .., _ => exec_stepRampDone h
  | .regulatorReport .., _ => exec_regulatorReport h
  | .railFault .., _ => exec_railFault h
  | .clockStretch domain _, _ => exec_clockStretch (domain := domain) h
  | .siteIdle .., _ => exec_siteIdle h
  | .dieDoze .., _ => exec_dieDoze h
  | .dieWake .., _ => exec_dieWake h
  | .dozeExitDone .., _ => exec_dozeExitDone h
  | .dozeEntryDone .., _ => exec_dozeEntryDone h
  | .powerOnReset .., _ => exec_powerOnReset h
  | .sysReset .., _ => exec_sysReset h
  | .coldResetCmd .., _ => exec_coldResetCmd h
  | .warmResetCmd .., _ => exec_warmResetCmd h
  | .coldStart .., _ => exec_coldStart h
  | .computeWave .., _ => exec_computeWave h
  | .warmStart .., _ => exec_warmStart h
  | .imagePush .., _ => exec_imagePush h
  | .imagePushProgram .., _ => exec_imagePushProgram h
  | .sourceEvent .., _ => exec_sourceEvent h
  | .levelLineRise .., _ => exec_levelLineRise h
  | .coalWindowExpire .., _ => exec_coalWindowExpire h
  | .claim .., _ => exec_claim h
  | .eoi .., _ => exec_eoi h
  | .softwareInterrupt .., _ => exec_softwareInterrupt h
  | .ferrymanWake .., _ => exec_ferrymanWake h
  | .ferryTimer .., _ => exec_ferryTimer h
  | .snapshotMarker .., _ => exec_snapshotMarker h
  | .waveStatusReceive .., _ => exec_waveStatusReceive h
  | .telRingReadAdvance .., _ => exec_telRingReadAdvance h
  | .histSelect .., _ => exec_histSelect h
  | .setEndpointId .., _ => exec_setEndpointId h
  | .regRead .., _ => exec_regRead h
  | .regWrite .., _ => exec_regWrite h
  | .logRead .., _ => exec_logRead h
  | .crashRead .., _ => exec_crashRead h
  | .ldpResetCold .., _ => exec_ldpResetCold h
  | .ldpResetWarm .., _ => exec_ldpResetWarm h
  | .powerStartMain .., _ => exec_powerStartMain h
  | .bufWrite .., _ => exec_bufWrite h
  | .bufRead .., _ => exec_bufRead h
  | .imgPush .., _ => exec_imgPush h
  | .attestSign .., _ => exec_attestSign h
  | .attestReadReport .., _ => exec_attestReadReport h
  | .attestReadCert .., _ => exec_attestReadCert h
  | .crashClrWrite .., _ => exec_crashClrWrite h
  | .mboxInWrite .., _ => exec_mboxInWrite h
  | .mboxOutWrite .., _ => exec_mboxOutWrite h
  | .keyEnrol .., _ => exec_keyEnrol h
  | .keyRevoke .., _ => exec_keyRevoke h
  | .keyNoticeDone .., _ => exec_keyNoticeDone h
  | .attestHost .., _ => exec_attestHost h
  | .attestDone .., _ => exec_attestDone h
  | .tapSamplePreload .., _ => exec_tapSamplePreload h
  | .tapDiesel .., _ => exec_tapDiesel h
  | .tapIjtag .., _ => exec_tapIjtag h
  | .tapRegacc .., _ => exec_tapRegacc h
  | .interconnectTestDone .., _ => exec_interconnectTestDone h
  | .fieldTestExit .., _ => exec_fieldTestExit h
  | .clearByRead a _ _, _ => exec_clearByRead (a := a) h
  | .aonRstNRelease .., _ => exec_aonRstNRelease h
  | .hubFault, _ => exec_hubFault h
  | .samplerReseed, _ => exec_samplerReseed h
  | .imageLoaded, _ => exec_imageLoaded h
  | .modeAckTimeout, _ => exec_modeAckTimeout h
  | .groupModeTimeout, _ => exec_groupModeTimeout h
  | .placeEpochEnd, _ => exec_placeEpochEnd h
  | .promoPromote, _ => exec_promoPromote h
  | .promoDemote, _ => exec_promoDemote h
  | .scrubStop, _ => exec_scrubStop h
  | .patrolTimer, _ => exec_patrolTimer h
  | .ledgerCheckpoint, _ => exec_ledgerCheckpoint h
  | .zoneFinish, _ => exec_zoneFinish h
  | .zoneFree, _ => exec_zoneFree h
  | .zoneQuery, _ => exec_zoneQuery h
  | .discoveryEnd, _ => exec_discoveryEnd h
  | .rescan, _ => exec_rescan h
  | .frameExpire, _ => exec_frameExpire h
  | .deviceIsolated, _ => exec_deviceIsolated h
  | .hostLinkRetrain, _ => exec_hostLinkRetrain h
  | .perst, _ => exec_perst h
  | .refclkLost, _ => exec_refclkLost h
  | .pllLockLost, _ => exec_pllLockLost h
  | .thermtripRelease, _ => exec_thermtripRelease h
  | .standbyEnter, _ => exec_standbyEnter h
  | .standbyExit, _ => exec_standbyExit h
  | .standbyExitDone, _ => exec_standbyExitDone h
  | .offAon, _ => exec_offAon h
  | .vinLow, _ => exec_vinLow h
  | .vinCritical, _ => exec_vinCritical h
  | .vaonLow, _ => exec_vaonLow h
  | .vnandLow, _ => exec_vnandLow h
  | .snapshotDevice, _ => exec_snapshotDevice h
  | .snapshotGroup, _ => exec_snapshotGroup h
  | .waveTimeout, _ => exec_waveTimeout h
  | .groupWaveTimeout, _ => exec_groupWaveTimeout h
  | .telSample, _ => exec_telSample h
  | .getEndpointId, _ => exec_getEndpointId h
  | .getMctpVersionSupport, _ => exec_getMctpVersionSupport h
  | .getMessageTypeSupport, _ => exec_getMessageTypeSupport h
  | .getVendorDefinedMsgSupport, _ => exec_getVendorDefinedMsgSupport h
  | .getInfo, _ => exec_getInfo h
  | .crashClear, _ => exec_crashClear h
  | .powerStandby, _ => exec_powerStandby h
  | .powerRun, _ => exec_powerRun h
  | .powerOffAon, _ => exec_powerOffAon h
  | .araRead, _ => exec_araRead h
  | .alertReassert, _ => exec_alertReassert h
  | .tapReset, _ => exec_tapReset h
  | .tapIdcode, _ => exec_tapIdcode h
  | .tapExtest, _ => exec_tapExtest h
  | .tapClamp, _ => exec_tapClamp h
  | .tapHighz, _ => exec_tapHighz h
  | .tapBypass, _ => exec_tapBypass h
  | .fieldTestEnter, _ => exec_fieldTestEnter h
  | .refclkPresent, _ => exec_refclkPresent h
  | .standbyEntryDone, _ => exec_standbyEntryDone h
  | .perstDeassert, _ => exec_perstDeassert h

end

end Keeps

end

theorem instrFormed_of_wf {c : Instr} (w : c.wf = true) : InstrFormed c := by
  unfold InstrFormed
  split
  next q => simpa [Instr.wf] using w
  next f _ =>
    simp only [Instr.wf, Bool.and_eq_true, beq_iff_eq] at w
    exact w.1
  next => trivial

theorem instrFormed_of_next {c : Instr} {s t : State} (e : exec c s = .next t) : InstrFormed c := by
  unfold InstrFormed
  split
  next q =>
    simp only [exec, execMemoryWrite] at e
    split at e
    next hlength => exact hlength
    next => cases e
  next p dir f queue =>
    by_contra hlength
    have hfault : exec (.flitReceive p dir f queue) s = .fault (.illFormed "FLIT_RECEIVE: words") := if_pos hlength
    rw [hfault] at e
    cases e
  next => trivial

/-- A formed command is performed, and from the state in which it begins nothing is undone. -/
theorem exec_kept {c : Instr} (w : InstrFormed c) (s : State) : Res.Kept BlownFrom s (exec c s) :=
  Keeps.exec w ⟨List.prefix_rfl, BlownFrom.refl _, rfl⟩

/-- Settles O55: each command is performed where it is formed, by the lemma over its arm of `exec`. -/
theorem everyWellFormedCommandIsPerformed : Obligations.EveryWellFormedCommandIsPerformed := by
  intro c s w
  have hkept := exec_kept (instrFormed_of_wf w) s
  revert hkept
  cases exec c s with
  | next t => exact fun _ => ⟨t, rfl⟩
  | fault f => exact False.elim
  | refused r => exact False.elim

/-- Settles O57: every function of the model that a command calls undoes nothing of the log, the fuses and the queue. -/
theorem noStepUndoesTheLogOrTheFuses : Obligations.NoStepUndoesTheLogOrTheFuses := by
  intro c s t e
  have hnext := exec_kept (instrFormed_of_next e) s
  rw [e] at hnext
  obtain ⟨hlog, ⟨hrest, hlength, hvalid, hrevoked⟩, hqueue⟩ := hnext
  exact ⟨hlog, hrest, hlength, hvalid, hrevoked, hqueue⟩

end Sys2Proof.Machine

namespace Sys2Proof.Machine

/-! PROOFS. The commands that leave the fuses as they are: `Keeps` with equal fuses. -/

theorem Keeps.rfl (s : State) : Keeps Eq s s := ⟨List.prefix_rfl, Eq.refl _, Eq.refl _⟩

theorem Keeps.fuses_eq {s t : State} (h : Keeps Eq s t) : t.fuses = s.fuses := h.2.1.symm

theorem Keeps.log_grows {B : Fuses → Fuses → Prop} {s t : State} (h : Keeps B s t) : s.log.recs <+: t.log.recs := h.1

theorem Res.Kept.fuses_eq {s u : State} {r : Res State} (h : Res.Kept Eq s r) (hr : r = .next u) : u.fuses = s.fuses := by
  subst hr
  exact Keeps.fuses_eq h

end Sys2Proof.Machine

namespace Sys2Proof.Machine

/-! PROOFS. The two check codes (O59) are linear, so that a syndrome depends on the bits that changed alone; and the interleaved view (O60)
is split into the row, the stack digit and the byte of an address. -/

/-! ### The check codes (R192 to R195) -/

/-- The check bits are linear: those of an exclusive-or are the exclusive-or of the check bits. -/
theorem checkBits_xor (cols : List Nat) (x y : Nat) : checkBits cols (x ^^^ y) = checkBits cols x ^^^ checkBits cols y := by
  induction cols generalizing x y with
  | nil => simp [checkBits]
  | cons c cs ih =>
    have hhalf : (x ^^^ y) / 2 = x / 2 ^^^ y / 2 := Nat.xor_div_two
    have hodd : (x ^^^ y) % 2 = (x + y) % 2 := Nat.xor_mod_two_eq
    have hcancel (a b : Nat) : (c ^^^ a) ^^^ (c ^^^ b) = a ^^^ b := by
      rw [Nat.xor_comm c a, Nat.xor_assoc, Nat.xor_xor_cancel_left]
    simp only [checkBits, hodd, hhalf, ih]
    rcases Nat.mod_two_eq_zero_or_one x with hx | hx <;> rcases Nat.mod_two_eq_zero_or_one y with hy | hy <;>
      simp [Nat.add_mod, hx, hy, hcancel, Nat.xor_assoc, Nat.xor_left_comm]

/-- A changed datum under the check bits stored leaves the check bits of the change. -/
theorem checkBits_changed (cols : List Nat) (x e : Nat) : checkBits cols x ^^^ checkBits cols (x ^^^ e) = checkBits cols e := by
  rw [checkBits_xor, Nat.xor_xor_cancel_left]

/-- Changed check bits leave the change itself. -/
theorem xor_changed (c e : Nat) : (c ^^^ e) ^^^ c = e := by
  rw [Nat.xor_comm, Nat.xor_xor_cancel_left]

/-- What the syndromes of a code say of the errors of at most two bits: `check` are its check bits, of a datum of `k` bits, `n` of them. -/
def LocatesErrors (check : Nat → Nat) (tells : Nat → Syndrome) (k n p : Nat) : Prop :=
  tells 0 = .clean ∧ tells p = .poison ∧ (∀ i < k, tells (check (2 ^ i)) = .dataBit i) ∧ (∀ j < n, tells (2 ^ j) = .checkBit j) ∧
  (∀ i < k, ∀ l < k, i ≠ l → tells (check (2 ^ i) ^^^ check (2 ^ l)) = .bad) ∧
  (∀ i < k, ∀ j < n, tells (2 ^ j ^^^ check (2 ^ i)) = .bad) ∧
  (∀ j < n, ∀ l < n, j ≠ l → tells (2 ^ j ^^^ 2 ^ l) = .bad)

theorem wordCode_locates : LocatesErrors wordCheck wordSyndrome 32 7 wordPoison := by
  unfold LocatesErrors
  decide +kernel

theorem byteCode_locates : LocatesErrors byteCheck byteSyndrome 8 5 bytePoison := by
  unfold LocatesErrors
  decide +kernel

/-- A linear code that locates the errors of the datum 0 locates those of every datum. -/
theorem LocatesErrors.all {check : Nat → Nat} {tells : Nat → Syndrome} {k n p : Nat} (h : LocatesErrors check tells k n p)
    (hlin : ∀ x y, check (x ^^^ y) = check x ^^^ check y) (x : Nat) :
    tells (check x ^^^ check x) = .clean ∧ tells ((check x ^^^ p) ^^^ check x) = .poison ∧
    (∀ i, i < k → tells (check x ^^^ check (x ^^^ 2 ^ i)) = .dataBit i) ∧
    (∀ j, j < n → tells ((check x ^^^ 2 ^ j) ^^^ check x) = .checkBit j) ∧
    (∀ i l, i < k → l < k → i ≠ l → tells (check x ^^^ check (x ^^^ 2 ^ i ^^^ 2 ^ l)) = .bad) ∧
    (∀ i j, i < k → j < n → tells ((check x ^^^ 2 ^ j) ^^^ check (x ^^^ 2 ^ i)) = .bad) ∧
    (∀ j l, j < n → l < n → j ≠ l → tells ((check x ^^^ 2 ^ j ^^^ 2 ^ l) ^^^ check x) = .bad) := by
  obtain ⟨hclean, hpoison, hdata, hcheck, hdata2, hmixed, hcheck2⟩ := h
  simp only [hlin, Nat.xor_self, xor_changed, Nat.xor_assoc, Nat.xor_xor_cancel_left]
  simp only [Nat.xor_left_comm _ (check x), Nat.xor_xor_cancel_left]
  exact ⟨hclean, hpoison, hdata, hcheck, fun i l hi hl => hdata2 i hi l hl, fun i j hi hj => hmixed i hi j hj,
    fun j l hj hl => hcheck2 j hj l hl⟩

/-- Settles O59: both codes are linear, and a linear code is decided on the datum 0. -/
theorem checkCodesLocateEveryError : Obligations.CheckCodesLocateEveryError :=
  ⟨fun x => wordCode_locates.all (checkBits_xor wordCols) x, fun x => byteCode_locates.all (checkBits_xor byteCols) x⟩

/-! ### The interleaved view (R162 to R164) -/

theorem xor_eq_iff {a b c : Nat} : a ^^^ b = c ↔ a = c ^^^ b := by
  constructor <;> rintro rfl <;> rw [Nat.xor_assoc, Nat.xor_self, Nat.xor_zero]

/-- In full mode A[14:12] holds the stack's number, masked by bits 19:17 of the offset; the bits above and below are the offset. -/
theorem ilPlace_full_iff {a n o : Nat} :
    ilPlace .full a = some (n, o) ↔ a / 2 ^ 12 % 8 = n ^^^ bits o 17 3 ∧ a / 2 ^ 15 = o / 4096 ∧ a % 4096 = o % 4096 := by
  have hsplit : a / 2 ^ 15 * 4096 + a % 4096 = o ↔ a / 2 ^ 15 = o / 4096 ∧ a % 4096 = o % 4096 := by omega
  have hmask (h : a / 2 ^ 15 = o / 4096) : bits a 20 3 = bits o 17 3 := by unfold bits; omega
  simp only [ilPlace, Option.some.injEq, Prod.mk.injEq, hsplit, xor_eq_iff]
  constructor <;> rintro ⟨hstack, hrow, hbyte⟩
  · exact ⟨hmask hrow ▸ hstack, hrow, hbyte⟩
  · exact ⟨(hmask hrow).symm ▸ hstack, hrow, hbyte⟩

/-- In reduced mode A[13:12] holds the stack's number in its group, masked by bits 19:18 of the offset. -/
theorem ilPlace_reduced_iff {g a n o : Nat} (hg : 4 * g ≤ n) :
    ilPlace (.reduced g) a = some (n, o) ↔
      a / 2 ^ 12 % 4 = (n - 4 * g) ^^^ bits o 18 2 ∧ a % 2 ^ 39 / 2 ^ 14 = o / 4096 ∧ a % 4096 = o % 4096 := by
  have hsplit : a % 2 ^ 39 / 2 ^ 14 * 4096 + a % 2 ^ 39 % 4096 = o ↔
      a % 2 ^ 39 / 2 ^ 14 = o / 4096 ∧ a % 4096 = o % 4096 := by omega
  have hmask (h : a % 2 ^ 39 / 2 ^ 14 = o / 4096) : bits (a % 2 ^ 39) 20 2 = bits o 18 2 := by unfold bits; omega
  have hdigit : bits (a % 2 ^ 39) 12 2 = a / 2 ^ 12 % 4 := by unfold bits; omega
  have hstackEq (x : Nat) : 4 * g + x = n ↔ x = n - 4 * g := by omega
  simp only [ilPlace, Option.some.injEq, Prod.mk.injEq, hsplit, hdigit, hstackEq, xor_eq_iff]
  constructor <;> rintro ⟨hstack, hrow, hbyte⟩
  · exact ⟨hmask hrow ▸ hstack, hrow, hbyte⟩
  · exact ⟨(hmask hrow).symm ▸ hstack, hrow, hbyte⟩

/-- Settles O60: an address is its row, its stack digit and its byte, each of which the place determines. -/
theorem theInterleavedViewIsOneToOne : Obligations.TheInterleavedViewIsOneToOne := by
  refine ⟨fun n o hn ho => ⟨?full, ?fullOnce⟩, fun a ha => ⟨_, _, rfl, ?stack, by omega⟩,
    fun g n o hg hlo hhi ho => ⟨?reduced, ?reducedOnce⟩, fun _ => rfl⟩
  case full =>
    have hdigit : n ^^^ bits o 17 3 < 2 ^ 3 := Nat.xor_lt_two_pow hn (Nat.mod_lt _ (by decide))
    refine ⟨o / 4096 * 2 ^ 15 + (n ^^^ bits o 17 3) * 2 ^ 12 + o % 4096, by omega, ilPlace_full_iff.mpr ?_, ?_⟩
    · omega
    · unfold bits at hdigit ⊢; omega
  case fullOnce =>
    intro a b ha hb hpa hpb
    obtain ⟨_, _, _⟩ := ilPlace_full_iff.mp hpa
    obtain ⟨_, _, _⟩ := ilPlace_full_iff.mp hpb
    omega
  case stack => exact Nat.xor_lt_two_pow (n := 3) (Nat.mod_lt _ (by decide)) (Nat.mod_lt _ (by decide))
  case reduced =>
    have hdigit : (n - 4 * g) ^^^ bits o 18 2 < 2 ^ 2 := Nat.xor_lt_two_pow (by omega) (Nat.mod_lt _ (by decide))
    refine ⟨o / 4096 * 2 ^ 14 + ((n - 4 * g) ^^^ bits o 18 2) * 2 ^ 12 + o % 4096, by omega, (ilPlace_reduced_iff hlo).mpr ?_⟩
    omega
  case reducedOnce =>
    intro a b hpa hpb
    obtain ⟨_, _, _⟩ := (ilPlace_reduced_iff hlo).mp hpa
    obtain ⟨_, _, _⟩ := (ilPlace_reduced_iff hlo).mp hpb
    omega

end Sys2Proof.Machine

namespace Sys2Proof.Machine

/-! PROOFS. What reset leaves (O54), and the step: the first command, or a microsecond (O53). -/

/-- Settles O54: the reset state lists nothing, and what is not listed is at its reset value. -/
theorem resetLeavesRegistersAtTheirResetValues : Obligations.ResetLeavesRegistersAtTheirResetValues :=
  ⟨fun _ => rfl, rfl, rfl, rfl, rfl, fun _ => rfl, fun _ => rfl, rfl, rfl⟩

end Sys2Proof.Machine

namespace Sys2Proof.Machine

/-! PROOFS. What raising a source leaves, part by part of the state and register by register (R401 to R405). -/

section
variable {s t : State}

theorem Signals.scrub (h : Signals s t) : t.scrub = s.scrub := by rw [h.1]
theorem Signals.keep (h : Signals s t) : t.keep = s.keep := by rw [h.1]
theorem Signals.engs (h : Signals s t) : t.engs = s.engs := by rw [h.1]
theorem Signals.sites (h : Signals s t) : t.sites = s.sites := by rw [h.1]
theorem Signals.barrier (h : Signals s t) : t.barrier = s.barrier := by rw [h.1]
theorem Signals.subst (h : Signals s t) : t.subst = s.subst := by rw [h.1]
theorem Signals.spans (h : Signals s t) : t.spans = s.spans := by rw [h.1]
theorem Signals.rings (h : Signals s t) : t.rings = s.rings := by rw [h.1]
theorem Signals.image (h : Signals s t) : t.image = s.image := by rw [h.1]
theorem Signals.load (h : Signals s t) : t.load = s.load := by rw [h.1]
theorem Signals.mode (h : Signals s t) : t.mode = s.mode := by rw [h.1]
theorem Signals.changes (h : Signals s t) : t.changes = s.changes := by rw [h.1]
theorem Signals.shadow (h : Signals s t) : t.shadow = s.shadow := by rw [h.1]
theorem Signals.staged (h : Signals s t) : t.staged = s.staged := by rw [h.1]
theorem Signals.stale (h : Signals s t) : t.stale = s.stale := by rw [h.1]
theorem Signals.pend (h : Signals s t) : t.pend = s.pend := by rw [h.1]
theorem Signals.gen (h : Signals s t) : t.gen = s.gen := by rw [h.1]
theorem Signals.movers (h : Signals s t) : t.movers = s.movers := by rw [h.1]
theorem Signals.place (h : Signals s t) : t.place = s.place := by rw [h.1]
theorem Signals.flash (h : Signals s t) : t.flash = s.flash := by rw [h.1]
theorem Signals.retr (h : Signals s t) : t.retr = s.retr := by rw [h.1]
theorem Signals.sec (h : Signals s t) : t.sec = s.sec := by rw [h.1]
theorem Signals.fuses (h : Signals s t) : t.fuses = s.fuses := by rw [h.1]
theorem Signals.log (h : Signals s t) : t.log = s.log := by rw [h.1]
theorem Signals.pwr (h : Signals s t) : t.pwr = s.pwr := by rw [h.1]
theorem Signals.thm (h : Signals s t) : t.thm = s.thm := by rw [h.1]
theorem Signals.bup (h : Signals s t) : t.bup = s.bup := by rw [h.1]
theorem Signals.shadows (h : Signals s t) : t.shadows = s.shadows := by rw [h.1]
theorem Signals.wave (h : Signals s t) : t.wave = s.wave := by rw [h.1]
theorem Signals.cwy (h : Signals s t) : t.cwy = s.cwy := by rw [h.1]
theorem Signals.ports (h : Signals s t) : t.ports = s.ports := by rw [h.1]
theorem Signals.tap (h : Signals s t) : t.tap = s.tap := by rw [h.1]
theorem Signals.doze (h : Signals s t) : t.doze = s.doze := by rw [h.1]
theorem Signals.deadRows (h : Signals s t) : t.deadRows = s.deadRows := by rw [h.1]
theorem Signals.devs (h : Signals s t) : t.devs = s.devs := by rw [h.1]
theorem Signals.lostDevs (h : Signals s t) : t.lostDevs = s.lostDevs := by rw [h.1]
theorem Signals.bridgeEn (h : Signals s t) : t.bridgeEn = s.bridgeEn := by rw [h.1]
theorem Signals.perst (h : Signals s t) : t.perst = s.perst := by rw [h.1]
theorem Signals.faultN (h : Signals s t) : t.faultN = s.faultN := by rw [h.1]
theorem Signals.resp (h : Signals s t) : t.resp = s.resp := by rw [h.1]
theorem Signals.free (h : Signals s t) : t.free = s.free := by rw [h.1]
theorem Signals.pending (h : Signals s t) : t.pending = s.pending := by rw [h.1]

theorem Signals.rget (h : Signals s t) {r : Reg} (hr : r ∉ signalRegs) : t.rget r = s.rget r := h.2 r hr

theorem Signals.bget (h : Signals s t) {r : Reg} (hr : r ∉ signalRegs) (f : Fld) : t.bget r f = s.bget r f := by
  simp only [State.bget, h.fget f hr]

theorem Signals.regsKept (h : Signals s t) {p : List Reg} (hp : signalRegs ⊆ p) : RegsKept p s t :=
  fun r hr => h.2 r fun hs => hr (hp hs)

end

section
variable (s : State) (k : Nat)

@[simp] theorem State.raise_mem : (s.raise k).mem = s.mem := (Signals.raise s k).mem
@[simp] theorem State.raise_scrub : (s.raise k).scrub = s.scrub := (Signals.raise s k).scrub
@[simp] theorem State.raise_keep : (s.raise k).keep = s.keep := (Signals.raise s k).keep
@[simp] theorem State.raise_engs : (s.raise k).engs = s.engs := (Signals.raise s k).engs
@[simp] theorem State.raise_sites : (s.raise k).sites = s.sites := (Signals.raise s k).sites
@[simp] theorem State.raise_barrier : (s.raise k).barrier = s.barrier := (Signals.raise s k).barrier
@[simp] theorem State.raise_subst : (s.raise k).subst = s.subst := (Signals.raise s k).subst
@[simp] theorem State.raise_spans : (s.raise k).spans = s.spans := (Signals.raise s k).spans
@[simp] theorem State.raise_rings : (s.raise k).rings = s.rings := (Signals.raise s k).rings
@[simp] theorem State.raise_image : (s.raise k).image = s.image := (Signals.raise s k).image
@[simp] theorem State.raise_load : (s.raise k).load = s.load := (Signals.raise s k).load
@[simp] theorem State.raise_mode : (s.raise k).mode = s.mode := (Signals.raise s k).mode
@[simp] theorem State.raise_changes : (s.raise k).changes = s.changes := (Signals.raise s k).changes
@[simp] theorem State.raise_shadow : (s.raise k).shadow = s.shadow := (Signals.raise s k).shadow
@[simp] theorem State.raise_staged : (s.raise k).staged = s.staged := (Signals.raise s k).staged
@[simp] theorem State.raise_stale : (s.raise k).stale = s.stale := (Signals.raise s k).stale
@[simp] theorem State.raise_pend : (s.raise k).pend = s.pend := (Signals.raise s k).pend
@[simp] theorem State.raise_gen : (s.raise k).gen = s.gen := (Signals.raise s k).gen
@[simp] theorem State.raise_movers : (s.raise k).movers = s.movers := (Signals.raise s k).movers
@[simp] theorem State.raise_place : (s.raise k).place = s.place := (Signals.raise s k).place
@[simp] theorem State.raise_tkt : (s.raise k).tkt = s.tkt := (Signals.raise s k).tkt
@[simp] theorem State.raise_flash : (s.raise k).flash = s.flash := (Signals.raise s k).flash
@[simp] theorem State.raise_retr : (s.raise k).retr = s.retr := (Signals.raise s k).retr
@[simp] theorem State.raise_sec : (s.raise k).sec = s.sec := (Signals.raise s k).sec
@[simp] theorem State.raise_fuses : (s.raise k).fuses = s.fuses := (Signals.raise s k).fuses
@[simp] theorem State.raise_log : (s.raise k).log = s.log := (Signals.raise s k).log
@[simp] theorem State.raise_pwr : (s.raise k).pwr = s.pwr := (Signals.raise s k).pwr
@[simp] theorem State.raise_thm : (s.raise k).thm = s.thm := (Signals.raise s k).thm
@[simp] theorem State.raise_bup : (s.raise k).bup = s.bup := (Signals.raise s k).bup
@[simp] theorem State.raise_shadows : (s.raise k).shadows = s.shadows := (Signals.raise s k).shadows
@[simp] theorem State.raise_wave : (s.raise k).wave = s.wave := (Signals.raise s k).wave
@[simp] theorem State.raise_cwy : (s.raise k).cwy = s.cwy := (Signals.raise s k).cwy
@[simp] theorem State.raise_chain : (s.raise k).chain = s.chain := (Signals.raise s k).chain
@[simp] theorem State.raise_ports : (s.raise k).ports = s.ports := (Signals.raise s k).ports
@[simp] theorem State.raise_tap : (s.raise k).tap = s.tap := (Signals.raise s k).tap
@[simp] theorem State.raise_doze : (s.raise k).doze = s.doze := (Signals.raise s k).doze
@[simp] theorem State.raise_deadRows : (s.raise k).deadRows = s.deadRows := (Signals.raise s k).deadRows
@[simp] theorem State.raise_devs : (s.raise k).devs = s.devs := (Signals.raise s k).devs
@[simp] theorem State.raise_lostDevs : (s.raise k).lostDevs = s.lostDevs := (Signals.raise s k).lostDevs
@[simp] theorem State.raise_bridgeEn : (s.raise k).bridgeEn = s.bridgeEn := (Signals.raise s k).bridgeEn
@[simp] theorem State.raise_perst : (s.raise k).perst = s.perst := (Signals.raise s k).perst
@[simp] theorem State.raise_faultN : (s.raise k).faultN = s.faultN := (Signals.raise s k).faultN
@[simp] theorem State.raise_resp : (s.raise k).resp = s.resp := (Signals.raise s k).resp
@[simp] theorem State.raise_free : (s.raise k).free = s.free := (Signals.raise s k).free
@[simp] theorem State.raise_pending : (s.raise k).pending = s.pending := (Signals.raise s k).pending

theorem State.raise_rget {r : Reg} (hr : r ∉ signalRegs) : (s.raise k).rget r = s.rget r := (Signals.raise s k).rget hr

theorem State.raise_fget {r : Reg} (hr : r ∉ signalRegs) (f : Fld) : (s.raise k).fget r f = s.fget r f :=
  (Signals.raise s k).fget f hr

theorem State.raise_bget {r : Reg} (hr : r ∉ signalRegs) (f : Fld) : (s.raise k).bget r f = s.bget r f :=
  (Signals.raise s k).bget hr f

/-- A source that has been raised has had an event. -/
theorem State.raise_count_pos : 1 ≤ ((s.raise k).icu.src.at k).count := by
  have hraised := s.raise_raised k
  unfold Raised at hraised
  dsimp only at hraised
  split at hraised <;> omega

end

end Sys2Proof.Machine

namespace Sys2Proof.Machine

/-! PROOFS. Fields of registers after the operations that count and set them, and the relations `RegsKept` and `OnlyRegs` over them. -/

section
variable {s : State} {r : Reg} {f g : Fld}

theorem State.fget_bset_same (s : State) (r : Reg) (f : Fld) (b : Bool) (h : f.lo + f.len ≤ 32) :
    (s.bset r f b).fget r f = b2n b % 2 ^ f.len := State.fget_fset_same s r f _ h

theorem State.bget_bset_same (s : State) (r : Reg) (f : Fld) (b : Bool) (h : f.lo + f.len ≤ 32) (h1 : 1 ≤ f.len) :
    (s.bset r f b).bget r f = b := by
  have hpow : 2 ^ 1 ≤ 2 ^ f.len := Nat.pow_le_pow_right (by decide) h1
  have hb : b2n b < 2 ^ f.len := by cases b <;> simp only [b2n] <;> split_ifs <;> omega
  rw [State.bget, State.fget_bset_same s r f b h, Nat.mod_eq_of_lt hb]
  cases b <;> rfl

theorem State.fget_lt (s : State) (r : Reg) (f : Fld) : s.fget r f < 2 ^ f.len := Fld.get_lt f _

theorem State.fget_wrap_same (s : State) (r : Reg) (f : Fld) (n : Nat) (h : f.lo + f.len ≤ 32) :
    (s.wrap r f n).fget r f = (s.fget r f + n) % 2 ^ f.len := State.fget_fset_same s r f _ h

end

/-- Registers set to one value, one after the other. -/
theorem State.rget_foldl_rset {α : Type} (reg : α → Reg) (v : Word) (l : List α) (s : State) (q : Reg) :
    (l.foldl (fun s a => s.rset (reg a) v) s).rget q = if q ∈ l.map reg then v else s.rget q := by
  induction l generalizing s with
  | nil => simp
  | cons a l ih =>
    rw [List.foldl_cons, ih, State.rget_rset, List.map_cons]
    by_cases hl : q ∈ l.map reg <;> by_cases ha : q = reg a <;> simp only [hl, ha, List.mem_cons, or_true, true_or, if_true, if_false, or_self]
    all_goals simp_all

/-! ### What only registers change -/

theorem RegsKept.bset {p : List Reg} {s : State} {r : Reg} (f : Fld) (b : Bool) (h : r ∈ p) : RegsKept p s (s.bset r f b) :=
  RegsKept.fset f _ h

theorem RegsKept.cnt {p : List Reg} {s : State} {r : Reg} (f : Fld) (n : Nat) (h : r ∈ p) : RegsKept p s (s.cnt r f n) :=
  RegsKept.fset f _ h

theorem RegsKept.wrap {p : List Reg} {s : State} {r : Reg} (f : Fld) (n : Nat) (h : r ∈ p) : RegsKept p s (s.wrap r f n) :=
  RegsKept.fset f _ h

theorem RegsKept.fget {p : List Reg} {s t : State} (h : RegsKept p s t) {r : Reg} (hr : r ∉ p) (f : Fld) : t.fget r f = s.fget r f :=
  congrArg f.get (h r hr)

theorem RegsKept.bget {p : List Reg} {s t : State} (h : RegsKept p s t) {r : Reg} (hr : r ∉ p) (f : Fld) : t.bget r f = s.bget r f := by
  simp only [State.bget, h.fget hr]

namespace OnlyRegs

theorem refl (p : List Reg) (s : State) : OnlyRegs p s s := ⟨rfl, RegsKept.refl p s⟩

theorem trans {p : List Reg} {s t u : State} (h : OnlyRegs p s t) (g : OnlyRegs p t u) : OnlyRegs p s u := by
  refine ⟨?_, h.2.trans g.2⟩
  rw [g.1, h.1]

theorem rset {p : List Reg} {s : State} {r : Reg} (v : Word) (h : r ∈ p) : OnlyRegs p s (s.rset r v) := ⟨rfl, RegsKept.rset v h⟩

theorem fset {p : List Reg} {s : State} {r : Reg} (f : Fld) (v : Nat) (h : r ∈ p) : OnlyRegs p s (s.fset r f v) :=
  ⟨rfl, RegsKept.fset f v h⟩

theorem bset {p : List Reg} {s : State} {r : Reg} (f : Fld) (b : Bool) (h : r ∈ p) : OnlyRegs p s (s.bset r f b) := fset f _ h

theorem cnt {p : List Reg} {s : State} {r : Reg} (f : Fld) (n : Nat) (h : r ∈ p) : OnlyRegs p s (s.cnt r f n) := fset f _ h

theorem wrap {p : List Reg} {s : State} {r : Reg} (f : Fld) (n : Nat) (h : r ∈ p) : OnlyRegs p s (s.wrap r f n) := fset f _ h

theorem ite {p : List Reg} {c : Prop} [Decidable c] {s a b : State} (ha : OnlyRegs p s a) (hb : OnlyRegs p s b) :
    OnlyRegs p s (if c then a else b) := by
  split
  · exact ha
  · exact hb

theorem foldl {α : Type} {p : List Reg} {f : State → α → State} {l : List α} (hf : ∀ s, ∀ a ∈ l, OnlyRegs p s (f s a)) (s : State) :
    OnlyRegs p s (l.foldl f s) :=
  List.foldlRecOn (motive := fun t => OnlyRegs p s t) l f (refl p s) fun t ht a ha => ht.trans (hf t a ha)

theorem mono {p q : List Reg} {s t : State} (h : OnlyRegs p s t) (hpq : ∀ r ∈ p, r ∈ q) : OnlyRegs q s t := ⟨h.1, h.2.mono hpq⟩

end OnlyRegs

end Sys2Proof.Machine

namespace Sys2Proof.Machine

/-! PROOFS. Telemetry samples and their ring (O48; R426, R427, R437). -/

/-- The entries that a ring holds, as its two free-running indices count them (R426). -/
theorem ringLevel_toNat (a b : Word) : (a - b).toNat = (a.toNat + 2 ^ 32 - b.toNat) % 2 ^ 32 := by
  rw [BitVec.toNat_sub]
  congr 1
  omega

section
variable {s : State}

/-- The histogram's buckets cleared, from the state in which its selection has been set. -/
def State.histCleared (s : State) : State := (List.range 16).foldl (fun s b => s.rset (.TEL_HIST (Fin.ofNat 16 b)) 0) s

theorem State.histCleared_bucket (s : State) (b : Fin 16) : s.histCleared.rget (.TEL_HIST b) = 0 := by
  have hb : Reg.TEL_HIST b ∈ (List.range 16).map (fun b => Reg.TEL_HIST (Fin.ofNat 16 b)) :=
    List.mem_map.mpr ⟨b, List.mem_range.mpr b.isLt, by rw [Fin.ofNat_val_eq_self]⟩
  rw [State.histCleared, State.rget_foldl_rset, if_pos hb]

theorem State.histCleared_only (s : State) : OnlyRegs ((List.finRange 16).map .TEL_HIST) s s.histCleared :=
  OnlyRegs.foldl (fun _ _ _ => OnlyRegs.rset _ (List.mem_map_of_mem (List.mem_finRange _))) s

/-- Where the next sample record goes, with the ring's `n` records (R426). -/
def State.sampled (s : State) (n : Nat) : State :=
  s.hubWrite (sbfAddr (s.fget .TEL_RING_BASE F.TEL_RING_BASE_BASE + (s.rget .TEL_RING_WR).toNat % n * 64))
    (s.sampleRecord (s.rget .TEL_RING_WR).toNat)

theorem MemoryActs.sampled (s : State) (n : Nat) : MemoryActs s (s.sampled n) := MemoryActs.hubWrite s _ _

theorem telRingWr_not_mem_memoryRegs : Reg.TEL_RING_WR ∉ memoryRegs := by simp [memoryRegs, passRegs, signalRegs]

theorem wrap_ringIndex {t : State} : (t.wrap .TEL_RING_WR F.TEL_RING_WR_INDEX 1).rget .TEL_RING_WR = t.rget .TEL_RING_WR + 1 := by
  rw [State.wrap, State.fset, State.rget_rset_same]
  apply BitVec.eq_of_toNat_eq
  rw [Fld.put_toNat _ _ _ (by decide), BitVec.toNat_add]
  have hone : (1 : Word).toNat = 1 := rfl
  simp only [State.fget, Fld.get, hone]
  omega

end

/-- Settles O48, by the branches of each command; a record goes through `State.hubWrite`, which does what `MemoryActs` names. -/
theorem samplesComplete : Obligations.SamplesComplete := by
  refine ⟨fun s n hn => ⟨?off, fun hen hpos => ⟨?full, ?room⟩⟩, fun v s => ⟨?advance, ?beyond⟩, fun v s => ?select⟩
  case off =>
    intro h
    exact if_pos (by simpa [← hn] using h)
  case full =>
    intro hfull hovf
    have hexec : exec .telSample s = .next ((s.bset .TEL_EVT F.TEL_EVT_OVF true).raise 30) := by
      change execTelSample s = _
      rw [ringLevel_toNat] at hfull
      simp only [execTelSample, hen, ← hn, hfull, hovf, hpos.ne', decide_false, Bool.not_true, Bool.or_self, Bool.false_eq_true,
        if_false, if_true]
    refine ⟨_, hexec, ?ovf, (State.raise_raised _ 30).of_counts_eq rfl rfl, State.raise_mem _ _, ?kept⟩
    case ovf => rw [State.raise_bget _ _ (by decide), State.bget_bset_same _ _ _ _ (by decide) (by decide)]
    case kept =>
      exact (RegsKept.bset _ _ (by simp)).trans ((Signals.raise _ 30).regsKept (List.subset_cons_self _ _))
  case room =>
    intro hroom
    have hexec : exec .telSample s = .next ((s.sampled n).wrap .TEL_RING_WR F.TEL_RING_WR_INDEX 1) := by
      change execTelSample s = _
      simp only [execTelSample, hen, ← hn, ← ringLevel_toNat, hpos.ne', hroom.not_ge, decide_false, Bool.not_true, Bool.or_self,
        Bool.false_eq_true, if_false]
      rfl
    have hacts := MemoryActs.sampled s n
    refine ⟨_, hexec, ?index, ?regs, ?canonical, ?spans, ?fuses⟩
    case index => rw [wrap_ringIndex, hacts.regs _ telRingWr_not_mem_memoryRegs]
    case regs =>
      exact (hacts.regs.mono fun _ => List.mem_cons_of_mem _).trans (RegsKept.wrap _ _ List.mem_cons_self)
    case canonical =>
      rw [State.wrap_mem]
      exact hacts.wf
    case spans => rw [State.wrap_spans, hacts.rest]
    case fuses => rw [State.wrap_fuses, hacts.rest]
  case advance =>
    intro h
    exact ⟨_, if_pos h, State.rget_rset_same _ _ _, OnlyRegs.rset v (by decide)⟩
  case beyond => exact fun h => if_neg (by omega)
  case select =>
    refine ⟨_, rfl, ?_, State.histCleared_bucket _, ?_⟩
    · exact ((State.histCleared_only _).2 _ (by simp)).trans (State.rget_rset_same _ _ _)
    · exact (OnlyRegs.rset _ (by simp)).trans ((State.histCleared_only _).mono fun r hr => List.mem_cons_of_mem _ hr)

end Sys2Proof.Machine

namespace Sys2Proof.Machine

/-! PROOFS. What a change of the Wealey group changes (R330 to R339): routing tables and what is recorded of links (`LinkKeeps`), of which
the tables leave the links recorded (`TableActs`), and the states of ports (`LinkActs`). -/

theorem foldl_kept {α β : Type} {f : State → α → State} (part : State → β) {l : List α}
    (hf : ∀ s a, a ∈ l → part (f s a) = part s) (s : State) : part (l.foldl f s) = part s :=
  List.foldlRecOn (motive := fun t => part t = part s) l f rfl fun t ht a ha => (hf t a ha).trans ht

/-! ### Raising never takes an event or a line back -/

theorem State.count_mono (s : State) (k j : Nat) : (s.icu.src.at j).count ≤ ((s.count k).icu.src.at j).count := by
  by_cases h : j = k
  · subst h
    have hraised := s.count_raised j
    unfold Raised at hraised
    dsimp only at hraised
    split at hraised <;> omega
  · rw [State.count_src_other s h]

theorem State.raise_mono (s : State) (k j : Nat) : (s.icu.src.at j).count ≤ ((s.raise k).icu.src.at j).count := by
  have hk := s.count_mono k j
  unfold State.raise
  dsimp only
  split
  · rw [State.present_src]
    refine le_trans ?_ (State.count_mono _ 0 j)
    rwa [State.present_src]
  · rwa [State.present_src]

/-- No event of a source and no level line is lost, between two states of the sources. -/
structure EventsKept (a b : Tab SrcState) : Prop where
  count : ∀ k, (a.at k).count ≤ (b.at k).count
  line : ∀ k, (a.at k).line = true → (b.at k).line = true

namespace EventsKept

theorem refl (a : Tab SrcState) : EventsKept a a := ⟨fun _ => le_rfl, fun _ => id⟩

theorem trans {a b c : Tab SrcState} (h : EventsKept a b) (g : EventsKept b c) : EventsKept a c :=
  ⟨fun k => (h.count k).trans (g.count k), fun k hk => g.line k (h.line k hk)⟩

theorem raise (s : State) (k : Nat) : EventsKept s.icu.src (s.raise k).icu.src := by
  constructor
  · exact s.raise_mono k
  · intro j hj
    exact Eq.trans (s.raise_line k j) hj

theorem setLine (s : State) (k : Nat) : EventsKept s.icu.src (s.setLine k true).icu.src := by
  have hset : EventsKept s.icu.src (s.srcUpd k (fun c => { c with line := true })).icu.src := by
    constructor <;> intro j <;> rw [State.srcUpd, Tab.at_upd] <;> split <;> simp_all
  unfold State.setLine
  dsimp only
  split
  · exact hset.trans (raise _ k)
  · exact hset

theorem sendHeld (s : State) (p : State → Nat → Bool) : EventsKept s.icu.src (s.sendHeld p).icu.src := by
  have hsrc : (s.sendHeld p).icu.src = s.icu.src := by
    unfold State.sendHeld
    refine foldl_kept (fun t : State => t.icu.src) (fun s t _ => ?_) s
    split
    · exact State.deliver_src _ _ _
    · rfl
  rw [hsrc]
  exact refl _

end EventsKept

/-! ### Tables and links -/

/-- The registers that a change of tables or of what is recorded of links can change. -/
def groupRegs : List Reg := [.LNK_GRP, .LNK_GEN] ++ signalRegs

/-- `t` is `s` but for what a change of tables, and of what is recorded of links, changes. -/
structure LinkKeeps (s t : State) : Prop where
  rest : t = { s with
    regs := t.regs
    icu := t.icu
    fns := t.fns
    grp := t.grp
    ldp := { s.ldp with released := t.ldp.released }
    ports := t.ports
    devs := t.devs
    lostDevs := t.lostDevs
    spans := t.spans
    rings := t.rings
    free := t.free
    outbox := t.outbox }
  regs : RegsKept groupRegs s t
  events : EventsKept s.icu.src t.icu.src

theorem pstatReg_mem_linkRegs (q : Nat) : pstatReg q ∈ linkRegs := by
  have hport : pstatReg q = pstatReg (q % 16) := by
    unfold pstatReg
    congr 1 <;> apply Fin.ext <;> simp only [Fin.ofNat] <;> omega
  rw [hport]
  exact List.mem_append_right _ (List.mem_flatMap.mpr ⟨q % 16, List.mem_range.mpr (Nat.mod_lt _ (by decide)), by simp⟩)

theorem levtReg_mem_linkRegs (q : Nat) : levtReg q ∈ linkRegs := by
  have hport : levtReg q = levtReg (q % 16) := by
    unfold levtReg
    congr 1 <;> apply Fin.ext <;> simp only [Fin.ofNat] <;> omega
  rw [hport]
  exact List.mem_append_right _ (List.mem_flatMap.mpr ⟨q % 16, List.mem_range.mpr (Nat.mod_lt _ (by decide)), by simp⟩)

theorem groupRegs_subset_linkRegs : ∀ r ∈ groupRegs, r ∈ linkRegs := by
  intro r hr
  refine List.mem_append_left _ ?_
  simp only [groupRegs, List.cons_append, List.nil_append, List.mem_cons] at hr ⊢
  exact hr.elim .inl fun h => .inr (h.elim .inl fun h => .inr (.inr h))

@[simp] theorem pstatReg_notMem_groupRegs (q : Nat) : pstatReg q ∉ groupRegs := by simp [groupRegs, signalRegs, pstatReg]
@[simp] theorem levtReg_notMem_groupRegs (q : Nat) : levtReg q ∉ groupRegs := by simp [groupRegs, signalRegs, levtReg]

namespace LinkKeeps

theorem refl (s : State) : LinkKeeps s s := ⟨rfl, RegsKept.refl _ s, EventsKept.refl _⟩

theorem trans {s t u : State} (h : LinkKeeps s t) (g : LinkKeeps t u) : LinkKeeps s u := by
  refine ⟨?_, h.regs.trans g.regs, h.events.trans g.events⟩
  rw [g.rest, h.rest]

theorem of_signals {s t : State} (h : Signals s t) (he : EventsKept s.icu.src t.icu.src) : LinkKeeps s t := by
  refine ⟨?_, h.2.mono fun r hr => List.mem_append_right _ hr, he⟩
  conv_lhs => rw [h.1]
  rw [h.1]

theorem raise (s : State) (k : Nat) : LinkKeeps s (s.raise k) := of_signals (Signals.raise s k) (EventsKept.raise s k)

theorem setLine (s : State) (k : Nat) : LinkKeeps s (s.setLine k true) :=
  of_signals (Signals.setLine s k true) (EventsKept.setLine s k)

theorem fset (s : State) {r : Reg} (f : Fld) (v : Nat) (h : r ∈ groupRegs) : LinkKeeps s (s.fset r f v) :=
  ⟨rfl, RegsKept.fset f v h, EventsKept.refl _⟩

theorem foldl {α : Type} {f : State → α → State} (hf : ∀ s a, LinkKeeps s (f s a)) (l : List α) (s : State) :
    LinkKeeps s (l.foldl f s) :=
  List.foldlRecOn (motive := fun t => LinkKeeps s t) l f (refl s) fun t ht a _ => ht.trans (hf t a)

theorem ite {c : Prop} [Decidable c] {s a b : State} (ha : LinkKeeps s a) (hb : LinkKeeps s b) : LinkKeeps s (if c then a else b) := by
  split
  · exact ha
  · exact hb

theorem linkActs {p : List Reg} {s t : State} (h : LinkKeeps s t) : LinkActs p s t :=
  ⟨h.rest, h.regs.mono fun r hr => List.mem_append_right _ (groupRegs_subset_linkRegs r hr)⟩

theorem portState {s t : State} (h : LinkKeeps s t) (q : Nat) : t.portState q = s.portState q := h.regs.fget (by simp) _

end LinkKeeps

/-- `t` is `s` but for what a change of tables changes: the links recorded are as they were. -/
structure TableActs (s t : State) : Prop extends LinkKeeps s t where
  links : t.grp.links = s.grp.links

namespace TableActs

theorem refl (s : State) : TableActs s s := ⟨.refl s, rfl⟩

theorem trans {s t u : State} (h : TableActs s t) (g : TableActs t u) : TableActs s u :=
  ⟨h.toLinkKeeps.trans g.toLinkKeeps, g.links.trans h.links⟩

theorem ite {c : Prop} [Decidable c] {s a b : State} (ha : TableActs s a) (hb : TableActs s b) : TableActs s (if c then a else b) := by
  split
  · exact ha
  · exact hb

theorem foldl {α : Type} {f : State → α → State} (hf : ∀ s a, TableActs s (f s a)) (l : List α) (s : State) :
    TableActs s (l.foldl f s) :=
  List.foldlRecOn (motive := fun t => TableActs s t) l f (refl s) fun t ht a _ => ht.trans (hf t a)

theorem raise (s : State) (k : Nat) : TableActs s (s.raise k) := ⟨.raise s k, by rw [(Signals.raise s k).1]⟩

theorem setLine (s : State) (k : Nat) : TableActs s (s.setLine k true) := ⟨.setLine s k, by rw [(Signals.setLine s k true).1]⟩

theorem sendHeld (s : State) (p : State → Nat → Bool) : TableActs s (s.sendHeld p) :=
  ⟨.of_signals (Signals.sendHeld s p) (EventsKept.sendHeld s p), by rw [(Signals.sendHeld s p).1]⟩

theorem fset (s : State) {r : Reg} (f : Fld) (v : Nat) (h : r ∈ groupRegs) : TableActs s (s.fset r f v) := ⟨.fset s f v h, rfl⟩

theorem devUpd (s : State) (d : Nat) (f : DevUnit → DevUnit) : TableActs s (s.devUpd d f) := ⟨⟨rfl, fun _ _ => rfl, .refl _⟩, rfl⟩

theorem spanEvent (s : State) (i ev : Nat) : TableActs s (s.spanEvent i ev) := by
  have hrings (x : Tab EvRing) : TableActs s { s with rings := x } := ⟨⟨rfl, fun _ _ => rfl, .refl _⟩, rfl⟩
  exact TableActs.ite ((hrings _).trans (setLine _ _)) (hrings _)

theorem degradeCheck (s : State) : TableActs s s.degradeCheck := by
  refine foldl (fun s i => ?_) _ s
  have hspan (f : SpanEnt → SpanEnt) : TableActs s (s.spanUpd i f) := ⟨⟨rfl, fun _ _ => rfl, .refl _⟩, rfl⟩
  exact ite (refl s) ((hspan _).trans (spanEvent _ _ _))

theorem linkDegraded (s : State) : TableActs s s.linkDegraded :=
  ite (refl s) ((fset s _ _ (by decide)).trans (degradeCheck _))

theorem unmarkLost (s : State) (d : Nat) : TableActs s (s.unmarkLost d) := by
  have hlost (l : List Nat) : TableActs s { s with lostDevs := l } := ⟨⟨rfl, fun _ _ => rfl, .refl _⟩, rfl⟩
  exact ite (((hlost _).trans (degradeCheck _)).trans (raise _ 338)) (refl s)

theorem entryOut (s : State) (x : Entry) : TableActs s (s.entryOut x) := ⟨⟨rfl, fun _ _ => rfl, .refl _⟩, rfl⟩

end TableActs

/-- The sets of one destination adopted (R337). -/
def State.adoptRoute (s : State) (r : RouteTo) : State :=
  let d := s.devs.at r.dest
  let tags := (s.grp.tags.filter (fun t => t.2 = r.dest)).map (·.1)
  let s1 := s.devUpd r.dest (fun d => { d with present := true, hops := r.hops, up := r.up, dn := r.dn })
  if (d.up ≠ r.up ∨ d.dn ≠ r.dn) ∧ tags ≠ [] then
    s1.grpUpd (fun g => { g with drains := g.drains.filter (fun x => x.1 ≠ r.dest) ++ [(r.dest, tags)] })
  else s1

/-- The table's generation noted, and source 337, once its routes are adopted (R337). -/
def State.tableNoted (s : State) (gen : Nat) : State :=
  ((({ s with ports := s.ports.map (fun (p : Nat × PortUnit) => (p.1, { p.2 with cut := [] })) } : State).fset .LNK_GEN F.LNK_GEN_GEN gen).grpUpd
    (fun g => { g with arriving := [] })).raise 337

/-- The devices to which a route has returned are not LOST (R339). -/
def State.routesBack (s : State) (l : List RouteTo) : State := l.foldl (fun s r => if r.up ≠ 0 then s.unmarkLost r.dest else s) s

/-- A device that has a route to device 0 again is not ISOLATED (R339). -/
def State.isolationOver (s : State) : State :=
  if s.fget .LNK_GRP F.LNK_GRP_STATE = 4 ∧ (s.devs.at 0).up ≠ 0 then
    ((s.fset .LNK_GRP F.LNK_GRP_STATE 2).raise 338).sendHeld (fun _ _ => true)
  else s

theorem State.adoptTable_eq (s : State) (gen : Nat) (l : List RouteTo) :
    s.adoptTable gen l = (((l.foldl State.adoptRoute s).tableNoted gen).routesBack l).isolationOver := rfl

namespace TableActs

theorem adoptRoute (s : State) (r : RouteTo) : TableActs s (s.adoptRoute r) :=
  ite ((devUpd s _ _).trans ⟨⟨rfl, fun _ _ => rfl, .refl _⟩, rfl⟩) (devUpd s _ _)

theorem tableNoted (s : State) (gen : Nat) : TableActs s (s.tableNoted gen) := by
  have hcut (x : Tab PortUnit) : TableActs s { s with ports := x } := ⟨⟨rfl, fun _ _ => rfl, .refl _⟩, rfl⟩
  have harrived (t : State) : TableActs t (t.grpUpd (fun g => { g with arriving := [] })) := ⟨⟨rfl, fun _ _ => rfl, .refl _⟩, rfl⟩
  exact (((hcut _).trans (fset _ _ _ (by decide))).trans (harrived _)).trans (raise _ 337)

theorem routesBack (s : State) (l : List RouteTo) : TableActs s (s.routesBack l) :=
  foldl (f := fun s (r : RouteTo) => if r.up ≠ 0 then s.unmarkLost r.dest else s)
    (fun s (r : RouteTo) => ite (unmarkLost s r.dest) (refl s)) l s

theorem isolationOver (s : State) : TableActs s s.isolationOver :=
  ite (((fset s _ _ (by decide)).trans (raise _ 338)).trans (sendHeld _ _)) (refl s)

theorem adoptTable (s : State) (gen : Nat) (l : List RouteTo) : TableActs s (s.adoptTable gen l) := by
  rw [State.adoptTable_eq]
  exact (((foldl adoptRoute l s).trans (tableNoted _ _)).trans (routesBack _ _)).trans (isolationOver _)

theorem newTables (s : State) : TableActs s s.newTables :=
  (adoptTable s _ _).trans (foldl (fun s x => foldl entryOut (s.routeEntries x _) s) _ _)

end TableActs

namespace LinkKeeps

theorem grpUpd (s : State) (f : GroupUnit → GroupUnit) : LinkKeeps s (s.grpUpd f) := ⟨rfl, fun _ _ => rfl, .refl _⟩

theorem portUpd (s : State) (q : Nat) (f : PortUnit → PortUnit) : LinkKeeps s (s.portUpd q f) := ⟨rfl, fun _ _ => rfl, .refl _⟩

theorem devUpd (s : State) (q : Nat) (f : DevUnit → DevUnit) : LinkKeeps s (s.devUpd q f) := ⟨rfl, fun _ _ => rfl, .refl _⟩

theorem emit (s : State) (o : Out) : LinkKeeps s (s.emit o) := ⟨rfl, fun _ _ => rfl, .refl _⟩

theorem recordLink (s : State) (d p : Nat) (up : Bool) (peer peerPort : Nat) : LinkKeeps s (s.recordLink d p up peer peerPort) :=
  LinkKeeps.trans (ite (grpUpd s _) (ite (grpUpd s _) (refl s))) (TableActs.linkDegraded _).toLinkKeeps

theorem reportPort (s : State) (q : Nat) (up : Bool) : LinkKeeps s (s.reportPort q up) :=
  ite ((recordLink s _ _ _ _ _).trans (TableActs.newTables _).toLinkKeeps)
    (ite ((recordLink s _ _ _ _ _).trans (TableActs.entryOut _ _).toLinkKeeps) (refl s))

theorem removePort (s : State) (q : Nat) : LinkKeeps s (s.removePort q) := ⟨rfl, fun _ _ => rfl, .refl _⟩

theorem resend (s : State) (q : Nat) (all : Bool) : LinkKeeps s (s.resend q all) := (grpUpd s _).trans (portUpd _ _ _)

theorem portLeavesRun (s : State) (q : Nat) (retrain : Bool) : LinkKeeps s (s.portLeavesRun q retrain) :=
  ((removePort s q).trans (resend _ _ _)).trans (reportPort _ _ _)

theorem restorePort (s : State) (q : Nat) : LinkKeeps s (s.restorePort q) :=
  (foldl (fun s _ => devUpd s _ _) _ s).trans (portUpd _ _ _)

theorem replaySent (s : State) (q : Nat) : LinkKeeps s (s.replaySent q) := by
  refine foldl (fun s x => ?_) _ s
  split <;> exact emit s _

end LinkKeeps

end Sys2Proof.Machine

namespace Sys2Proof.Machine

/-! PROOFS. The states of a Wealey port (O32; R1, R3, R320, R330, R331). -/

/-! ### What a port's state and events are after a change -/

section
variable (s : State) (q st reason : Nat)

theorem State.setPort_portState (h : st < 16) : (s.setPort q st reason).portState q = st := by
  rw [State.setPort, State.portState, State.fget_fset_field _ _ _ _ _ (by decide) (by decide), State.fget_fset_same _ _ _ _ (by decide)]
  exact Nat.mod_eq_of_lt h

theorem State.setPort_reason (h : reason < 16) : (s.setPort q st reason).fget (pstatReg q) F.LNK_PSTAT_REASON = reason := by
  rw [State.setPort, State.fget_fset_same _ _ _ _ (by decide)]
  exact Nat.mod_eq_of_lt h

theorem OnlyRegs.setPort : OnlyRegs [pstatReg q] s (s.setPort q st reason) :=
  (OnlyRegs.fset _ _ (by simp)).trans (OnlyRegs.fset _ _ (by simp))

theorem RegsKept.setPort {p : List Reg} (h : pstatReg q ∈ p) : RegsKept p s (s.setPort q st reason) :=
  (RegsKept.fset _ _ h).trans (RegsKept.fset _ _ h)

theorem State.portUpd_portState (f : PortUnit → PortUnit) (q' : Nat) : (s.portUpd q f).portState q' = s.portState q' := rfl

end

namespace LinkActs
variable {p : List Reg}

theorem refl (s : State) : LinkActs p s s := (LinkKeeps.refl s).linkActs

theorem trans {s t u : State} (h : LinkActs p s t) (g : LinkActs p t u) : LinkActs p s u := by
  refine ⟨?_, h.2.trans g.2⟩
  rw [g.1, h.1]

theorem fset (s : State) {r : Reg} (f : Fld) (v : Nat) (h : r ∈ p ++ linkRegs) : LinkActs p s (s.fset r f v) := ⟨rfl, RegsKept.fset f v h⟩

theorem setPort (s : State) (q st reason : Nat) : LinkActs p s (s.setPort q st reason) :=
  ⟨rfl, RegsKept.setPort _ _ _ _ (List.mem_append_right _ (pstatReg_mem_linkRegs q))⟩

theorem portEvt (s : State) (q : Nat) (f : Fld) : LinkActs p s (s.portEvt q f) :=
  (fset s f 1 (List.mem_append_right _ (levtReg_mem_linkRegs q))).trans (LinkKeeps.setLine _ _).linkActs

theorem ite {c : Prop} [Decidable c] {s a b : State} (ha : LinkActs p s a) (hb : LinkActs p s b) : LinkActs p s (if c then a else b) := by
  split
  · exact ha
  · exact hb

theorem portDown (s : State) (q st reason : Nat) (downEvt : Bool) : LinkActs p s (s.portDown q st reason downEvt) := by
  have hset : LinkActs p s ((s.setPort q st reason).portUpd q (fun p => { p with hello := false })) :=
    (setPort s q st reason).trans (LinkKeeps.portUpd _ _ _).linkActs
  have hleft := ite (c := s.portState q = 4) (hset.trans (LinkKeeps.portLeavesRun _ q false).linkActs)
    (ite (c := s.portState q = 5) (hset.trans (LinkKeeps.resend _ q true).linkActs) hset)
  exact ite (hleft.trans (portEvt _ q _)) hleft

end LinkActs

section
variable (s : State) (q : Nat)

theorem State.portEvt_bget {f : Fld} (hf : f.lo + f.len ≤ 32) (hlen : 1 ≤ f.len) : (s.portEvt q f).bget (levtReg q) f = true := by
  rw [State.portEvt, (Signals.setLine _ _ _).bget (by simp [signalRegs, levtReg]), State.bget_bset_same _ _ _ _ hf hlen]

theorem State.portEvt_fget (f : Fld) {r : Reg} (hr : r ∉ signalRegs) (hlevt : r ≠ levtReg q) (g : Fld) :
    (s.portEvt q f).fget r g = s.fget r g := by
  rw [State.portEvt, (Signals.setLine _ _ _).fget _ hr, State.bset, State.fget_fset_other _ _ _ _ hlevt]

theorem State.portEvt_pstat (f g : Fld) (q' : Nat) : (s.portEvt q f).fget (pstatReg q') g = s.fget (pstatReg q') g :=
  s.portEvt_fget q f (by simp [signalRegs, pstatReg]) (by simp [pstatReg, levtReg]) g

theorem State.portEvt_line (f : Fld) : ((s.portEvt q f).icu.src.at (320 + q)).line = true := State.setLine_line _ _

/-- The ports' registers after one goes down: what else happens leaves PSTAT. -/
theorem State.portDown_pstat (st reason : Nat) (downEvt : Bool) (q' : Nat) (g : Fld) :
    (s.portDown q st reason downEvt).fget (pstatReg q') g = (s.setPort q st reason).fget (pstatReg q') g := by
  have hkept {a b : State} (h : LinkKeeps a b) : b.fget (pstatReg q') g = a.fget (pstatReg q') g := h.regs.fget (by simp) g
  have hhello : ((s.setPort q st reason).portUpd q (fun p => { p with hello := false })).fget (pstatReg q') g =
    (s.setPort q st reason).fget (pstatReg q') g := rfl
  unfold State.portDown
  extract_lets was s1 s2
  have hs2 : s2.fget (pstatReg q') g = (s.setPort q st reason).fget (pstatReg q') g := by
    simp only [s2]
    split
    · exact (hkept (LinkKeeps.portLeavesRun s1 q false)).trans hhello
    · split
      · exact (hkept (LinkKeeps.resend s1 q true)).trans hhello
      · exact hhello
  split
  · rw [State.portEvt_pstat, hs2]
  · exact hs2

theorem State.portDown_portState (st reason : Nat) (downEvt : Bool) (h : st < 16) : (s.portDown q st reason downEvt).portState q = st :=
  (s.portDown_pstat q st reason downEvt q _).trans (s.setPort_portState q st reason h)

theorem State.portDown_reason (st reason : Nat) (downEvt : Bool) (h : reason < 16) :
    (s.portDown q st reason downEvt).fget (pstatReg q) F.LNK_PSTAT_REASON = reason :=
  (s.portDown_pstat q st reason downEvt q _).trans (s.setPort_reason q st reason h)

theorem State.portDown_downEvt (st reason : Nat) (h : s.portState q = 4) :
    (s.portDown q st reason true).bget (levtReg q) F.LNK_EVT_DOWN = true := by
  unfold State.portDown
  simp only [h, and_self, if_true]
  exact State.portEvt_bget _ _ (by decide) (by decide)

end

/-! ### Detection, training and checking (R320, R330, R331) -/

section
variable {p : Port} {s : State}

theorem exec_portSignalDetect_ready (h : s.portState p.val = 1) :
    ∃ u, exec (.portSignalDetect p) s = .next u ∧ u.portState p.val = 2 ∧ OnlyRegs [pstatReg p.val] s u :=
  ⟨_, if_pos h, State.setPort_portState _ _ _ _ (by decide), OnlyRegs.setPort _ _ _ _⟩

theorem exec_trainTimeout_training (h : s.portState p.val = 2) :
    ∃ u, exec (.trainTimeout p) s = .next u ∧ u.portState p.val = 1 ∧
      u.fget (rtrnReg p.val) F.LNK_RTRN_TRAIN_FAIL =
        min (s.fget (rtrnReg p.val) F.LNK_RTRN_TRAIN_FAIL + 1) (2 ^ F.LNK_RTRN_TRAIN_FAIL.len - 1) ∧
      OnlyRegs [pstatReg p.val, rtrnReg p.val] s u := by
  have hother : pstatReg p.val ≠ rtrnReg p.val := by simp [pstatReg, rtrnReg]
  refine ⟨_, if_pos h, ?state, ?count, ?only⟩
  case state => exact (State.fget_fset_other _ _ _ _ hother).trans (State.setPort_portState _ _ _ _ (by decide))
  case count =>
    rw [State.fget_cnt_same _ _ _ _ (by decide), (OnlyRegs.setPort s p.val 1 0).2.fget (by simpa using hother.symm)]
  case only => exact ((OnlyRegs.setPort s p.val 1 0).mono (by simp)).trans (OnlyRegs.cnt _ _ (by simp))

/-- The port after its training has locked: its credits are full and its HELLO is sent. -/
def State.locked (s : State) (q : Nat) : State :=
  ((s.setPort q 3 0).portUpd q (fun u => { u with
    hello := false, crReq := 4096, crRsp := 2048, crCtl := 64, txSeq := 0, acked := 0, rxSeq := 0, fails := 0, nak := false
    freeReq := 0, freeRsp := 0, freeCtl := 0, since := 0 })).emit (.entry q (s.helloEntry q))

/-- Discovery begins at the bridge device, which is device 0 (R334). -/
def State.discovering (s : State) (serial : Nat) : State :=
  ((s.fset .LNK_GRP F.LNK_GRP_STATE 1).devUpd 0 (fun d => { d with present := true, serial := serial })).fset .LNK_GRP F.LNK_GRP_NDEV 1

theorem exec_trainLock_training (h : s.portState p.val = 2) :
    exec (.trainLock p) s = .next (if s.bridgeEn ∧ s.fget .LNK_GRP F.LNK_GRP_STATE = 0 then
      (s.locked p.val).discovering s.fuses.serial else s.locked p.val) := by
  change execTrainLock p s = _
  rw [execTrainLock, if_pos h]
  dsimp only
  split <;> rfl

/-- What a port whose training has locked has: full credits, no HELLO yet from its peer, and its own HELLO sent. -/
def Locks (p : Port) (s u : State) : Prop :=
  u.portState p.val = 3 ∧
    (u.ports.at p.val).hello = false ∧ (u.ports.at p.val).crReq = 4096 ∧ (u.ports.at p.val).crRsp = 2048 ∧
    (u.ports.at p.val).crCtl = 64 ∧ (∃ e, e.kind = 2 ∧ u.outbox = .entry p.val e :: s.outbox) ∧
    RegsKept [pstatReg p.val, .LNK_GRP] s u ∧
    u = { s with regs := u.regs, ports := u.ports, devs := u.devs, outbox := u.outbox }

theorem State.locked_locks (p : Port) (s : State) : Locks p s (s.locked p.val) := by
  have hport : (s.locked p.val).ports.at p.val = { s.ports.at p.val with
      hello := false, crReq := 4096, crRsp := 2048, crCtl := 64, txSeq := 0, acked := 0, rxSeq := 0, fails := 0, nak := false
      freeReq := 0, freeRsp := 0, freeCtl := 0, since := 0 } := by
    simp only [State.locked, State.emit, State.portUpd, State.setPort, State.fset, State.rset, Tab.at_upd_same]
  refine ⟨State.setPort_portState _ _ _ _ (by decide), ?_, ?_, ?_, ?_, ⟨s.helloEntry p.val, rfl, rfl⟩,
    RegsKept.setPort _ _ _ _ (by simp), rfl⟩ <;> rw [hport]

theorem Locks.discovering {p : Port} {s u : State} (h : Locks p s u) (serial : Nat) : Locks p s (u.discovering serial) := by
  obtain ⟨hstate, hhello, hreq, hrsp, hctl, hout, hregs, hrest⟩ := h
  have hgroup : RegsKept [.LNK_GRP] u (u.discovering serial) := (RegsKept.fset _ _ (by simp)).trans (RegsKept.fset _ _ (by simp))
  refine ⟨(hgroup.fget (by simp [pstatReg]) _).trans hstate, hhello, hreq, hrsp, hctl, hout, hregs.trans (hgroup.mono (by simp)), ?_⟩
  conv_lhs => rw [hrest]
  rfl

theorem exec_trainLock_locks (h : s.portState p.val = 2) : ∃ u, exec (.trainLock p) s = .next u ∧ Locks p s u := by
  refine ⟨_, exec_trainLock_training h, ?_⟩
  split
  · exact (State.locked_locks p s).discovering _
  · exact State.locked_locks p s

theorem exec_detectRetry_detects (hoff : s.portState p.val = 0) (hlink : s.linkOn (p.val / 8) = true)
    (hrole : s.portRole s.bootTier p.val = 1) (hrun : s.fget .PWR_STATE F.PWR_STATE_STATE = 0)
    (htest : s.fget .TST_STAT F.TST_STAT_STATE = 0) :
    ∃ u, exec (.detectRetry p) s = .next u ∧ u.portState p.val = 1 ∧ OnlyRegs [pstatReg p.val] s u := by
  have henabled : s.bget (pctlReg p.val) F.LNK_PCTL_DISABLE = false := by
    by_contra hdis
    simp only [State.portRole, Bool.not_eq_false] at hrole hdis
    simp only [hdis, if_true] at hrole
    split_ifs at hrole <;> omega
  exact ⟨_, if_pos ⟨hoff, hlink, hrole, hrun, htest, by rw [henabled]; rfl⟩, State.setPort_portState _ _ _ _ (by decide),
    OnlyRegs.setPort _ _ _ _⟩

theorem exec_detectRetry_stays (h : s.portState p.val ≠ 0 ∨ (s.bootTier = 0 ∧ 8 ≤ p.val) ∨ (s.bridgeEn = true ∧ 12 ≤ p.val) ∨
    s.bget (pctlReg p.val) F.LNK_PCTL_DISABLE = true) : exec (.detectRetry p) s = .next s := by
  refine if_neg ?_
  rintro ⟨hoff, -, hrole, -, -, henabled⟩
  simp only [Bool.not_eq_true'] at henabled
  rcases h with h | h | h | h
  · exact h hoff
  · simp only [State.portRole, h, if_true, and_self] at hrole
    split_ifs at hrole <;> omega
  · simp only [State.portRole, h, if_true, and_self, Nat.reduceEqDiff] at hrole
  · rw [henabled] at h
    cases h

theorem exec_checkPass_passes (hstate : s.portState p.val = 3) (hhello : (s.ports.at p.val).hello = true) :
    ∃ u, exec (.checkPass p) s = .next u ∧ u.portState p.val = 4 ∧
      u.bget (levtReg p.val) F.LNK_EVT_UP = true ∧ (u.icu.src.at (320 + p.val)).line = true ∧ LinkActs [] s u := by
  have hregroup (t : State) : LinkKeeps t (if s.bridgeEn ∧ s.fget .LNK_GRP F.LNK_GRP_STATE = 2 then t.fset .LNK_GRP F.LNK_GRP_STATE 1 else t) :=
    LinkKeeps.ite (LinkKeeps.fset t _ _ (by decide)) (LinkKeeps.refl t)
  have hreport := (hregroup ((s.setPort p.val 4 0).portEvt p.val F.LNK_EVT_UP)).trans (LinkKeeps.reportPort _ p.val true)
  refine ⟨_, if_pos ⟨hstate, hhello⟩, ?state, ?up, ?line, ?acts⟩
  case state =>
    rw [hreport.portState, State.portState, State.portEvt_pstat]
    exact State.setPort_portState _ _ _ _ (by decide)
  case up => rw [hreport.regs.bget (by simp), State.portEvt_bget _ _ (by decide) (by decide)]
  case line => exact hreport.events.line _ (State.portEvt_line _ _ _)
  case acts => exact ((LinkActs.setPort s _ _ _).trans (LinkActs.portEvt _ _ _)).trans hreport.linkActs

/-! ### Links lost and retrained (R331) -/

theorem State.degradeCheck_devs (s : State) : s.degradeCheck.devs = s.devs := by
  refine foldl_kept (·.devs) (fun s i _ => ?_) s
  dsimp only
  split
  · rfl
  · simp only [State.spanEvent, State.ringWrite]
    split
    · exact (Signals.setLine _ _ _).devs
    · rfl

theorem State.recordLink_devs (s : State) (d p : Nat) (up : Bool) (peer peerPort : Nat) :
    (s.recordLink d p up peer peerPort).devs = s.devs := by
  have hdegraded (s : State) : s.linkDegraded.devs = s.devs := by
    unfold State.linkDegraded
    dsimp only
    split
    · rfl
    · exact State.degradeCheck_devs _
  rw [State.recordLink, hdegraded]
  split
  · rfl
  · split <;> rfl

/-- A port that has left RUN is in no route any more, at a device that does not compute the tables itself. -/
theorem State.portLeavesRun_routes {q : Nat} {retrain : Bool} (hbridge : s.bridgeEn = false) :
    ∀ d ∈ (s.portLeavesRun q retrain).devs, bitAt d.2.up q = false ∧ bitAt d.2.dn q = false := by
  have hcleared (m : Nat) : bitAt (if bitAt m q then m - 2 ^ q else m) q = false := by
    by_cases h : bitAt m q = true
    · rw [if_pos h]
      simp only [bitAt, decide_eq_true_eq, decide_eq_false_iff_not] at h ⊢
      have hdiv : (m - 2 ^ q) / 2 ^ q = m / 2 ^ q - 1 := by
        simpa using Nat.sub_mul_div m (2 ^ q) 1
      rw [hdiv]
      omega
    · rw [if_neg h]
      simpa using h
  have hdevs : (s.portLeavesRun q retrain).devs = (s.removePort q).devs := by
    have hstill : ((s.removePort q).resend q (!retrain)).bridgeEn = false := hbridge
    unfold State.portLeavesRun State.reportPort
    dsimp only
    rw [hstill]
    simp only [Bool.false_eq_true, if_false]
    split
    · exact State.recordLink_devs _ _ _ _ _ _
    · rfl
  intro d hd
  rw [hdevs] at hd
  obtain ⟨e, -, rfl⟩ := List.mem_map.mp hd
  exact ⟨hcleared _, hcleared _⟩

theorem exec_portSignalLost_running (h : s.portState p.val = 4) :
    ∃ u, exec (.portSignalLost p) s = .next u ∧ u.portState p.val = 1 ∧ u.bget (levtReg p.val) F.LNK_EVT_DOWN = true ∧
      (∀ d ∈ u.devs, s.bridgeEn = false → bitAt d.2.up p.val = false ∧ bitAt d.2.dn p.val = false) ∧ LinkActs [] s u := by
  refine ⟨_, if_pos h, State.portDown_portState _ _ _ _ _ (by decide), State.portDown_downEvt _ _ _ _ h, ?routes, LinkActs.portDown _ _ _ _ _⟩
  case routes =>
    intro d hd hbridge
    have hdevs : (s.portDown p.val 1 0 true).devs =
        (((s.setPort p.val 1 0).portUpd p.val (fun p => { p with hello := false })).portLeavesRun p.val false).devs := by
      unfold State.portDown
      simp only [h, and_self, if_true, State.portEvt]
      exact (Signals.setLine _ _ _).devs
    rw [hdevs] at hd
    exact State.portLeavesRun_routes (s := (s.setPort p.val 1 0).portUpd p.val _) hbridge d hd

/-- The retrains of a port that still count: those of its last 2^32 codewords (R331). -/
def State.recentRetrains (s : State) (q : Nat) : List Nat :=
  (s.ports.at q).retrains.filter (fun x => (s.ports.at q).total - x < 4294967296)

/-- The retrain counted. -/
def State.retrainCounted (s : State) (q : Nat) : State :=
  (s.cnt (rtrnReg q) F.LNK_RTRN_RETRAINS 1).portUpd q
    (fun u => { u with retrains := s.recentRetrains q ++ [(s.ports.at q).total], cws := 0, ucws := 0, fails := 0 })

theorem LinkActs.retrainCounted (s : State) (q : Nat) : LinkActs [rtrnReg q] s (s.retrainCounted q) :=
  (LinkActs.fset s _ _ (by simp)).trans (LinkKeeps.portUpd _ _ _).linkActs

theorem State.portRetrainStart_retrains {q : Nat} (h : (s.recentRetrains q).length < 2) :
    s.portRetrainStart q = ((s.retrainCounted q).setPort q 5 0).portLeavesRun q true := by
  have hlength : ¬ 3 ≤ (s.recentRetrains q ++ [(s.ports.at q).total]).length := by
    rw [List.length_append, List.length_singleton]
    omega
  exact if_neg hlength

theorem State.portRetrainStart_fails {q : Nat} (h : 2 ≤ (s.recentRetrains q).length) :
    s.portRetrainStart q =
      (((s.retrainCounted q).portDown q 6 2 false).portUpd q (fun u => { u with retrains := [] })).portEvt q F.LNK_EVT_FAILED := by
  have hlength : 3 ≤ (s.recentRetrains q ++ [(s.ports.at q).total]).length := by
    rw [List.length_append, List.length_singleton]
    omega
  exact if_pos hlength

theorem State.portRetrainStart_state {q : Nat} (h : (s.recentRetrains q).length < 2) :
    (s.portRetrainStart q).portState q = 5 ∧
      (s.portRetrainStart q).fget (rtrnReg q) F.LNK_RTRN_RETRAINS =
        min (s.fget (rtrnReg q) F.LNK_RTRN_RETRAINS + 1) (2 ^ F.LNK_RTRN_RETRAINS.len - 1) ∧
      LinkActs [rtrnReg q] s (s.portRetrainStart q) := by
  have hleaves := LinkKeeps.portLeavesRun ((s.retrainCounted q).setPort q 5 0) q true
  rw [State.portRetrainStart_retrains h]
  refine ⟨?state, ?count, ?acts⟩
  case state =>
    rw [hleaves.portState]
    exact State.setPort_portState _ _ _ _ (by decide)
  case count =>
    rw [hleaves.regs.fget (by simp [groupRegs, signalRegs, rtrnReg]),
      (OnlyRegs.setPort (s.retrainCounted q) q 5 0).2.fget (by simp [pstatReg, rtrnReg])]
    exact State.fget_cnt_same _ _ _ _ (by decide)
  case acts => exact ((LinkActs.retrainCounted s q).trans (LinkActs.setPort _ _ _ _)).trans hleaves.linkActs

theorem State.portRetrainStart_failed {q : Nat} (h : 2 ≤ (s.recentRetrains q).length) :
    (s.portRetrainStart q).portState q = 6 ∧ (s.portRetrainStart q).fget (pstatReg q) F.LNK_PSTAT_REASON = 2 ∧
      (s.portRetrainStart q).bget (levtReg q) F.LNK_EVT_FAILED = true ∧ LinkActs [rtrnReg q] s (s.portRetrainStart q) := by
  rw [State.portRetrainStart_fails h]
  refine ⟨?state, ?reason, State.portEvt_bget _ _ (by decide) (by decide), ?acts⟩
  case state =>
    rw [State.portState, State.portEvt_pstat]
    exact State.portDown_portState _ _ _ _ _ (by decide)
  case reason =>
    rw [State.portEvt_pstat]
    exact State.portDown_reason _ _ _ _ _ (by decide)
  case acts =>
    exact (((LinkActs.retrainCounted s q).trans (LinkActs.portDown _ _ _ _ _)).trans (LinkKeeps.portUpd _ _ _).linkActs).trans
      (LinkActs.portEvt _ _ _)

/-- Both commands that retrain a port in RUN start the retrain. -/
theorem exec_portRetrains (h : s.portState p.val = 4) {c : Instr} (hc : c ∈ [Instr.portRetrain p, .portRetrainWrite p]) :
    exec c s = .next (s.portRetrainStart p.val) := by
  simp only [List.mem_cons, List.not_mem_nil, or_false] at hc
  rcases hc with rfl | rfl <;> exact if_pos h

theorem exec_portRetrainDone_retraining (h : s.portState p.val = 5) :
    ∃ u, exec (.portRetrainDone p) s = .next u ∧ u.portState p.val = 4 ∧
      u.bget (levtReg p.val) F.LNK_EVT_RETRAINED = true ∧ LinkActs [] s u := by
  have hrestored := (LinkKeeps.restorePort (s.setPort p.val 4 0) p.val).trans (LinkKeeps.replaySent _ p.val)
  have hreport := LinkKeeps.reportPort
    ((((s.setPort p.val 4 0).restorePort p.val).replaySent p.val).portEvt p.val F.LNK_EVT_RETRAINED) p.val true
  refine ⟨_, if_pos h, ?state, ?evt, ?acts⟩
  case state =>
    rw [hreport.portState, State.portState, State.portEvt_pstat]
    exact (hrestored.portState _).trans (State.setPort_portState _ _ _ _ (by decide))
  case evt => rw [hreport.regs.bget (by simp), State.portEvt_bget _ _ (by decide) (by decide)]
  case acts =>
    exact (((LinkActs.setPort s _ _ _).trans hrestored.linkActs).trans (LinkActs.portEvt _ _ _)).trans hreport.linkActs

theorem exec_portRetrainTimeout_retraining (h : s.portState p.val = 5) :
    ∃ u, exec (.portRetrainTimeout p) s = .next u ∧ u.portState p.val = 6 ∧
      u.fget (pstatReg p.val) F.LNK_PSTAT_REASON = 2 ∧ u.bget (levtReg p.val) F.LNK_EVT_FAILED = true ∧ LinkActs [] s u := by
  refine ⟨_, if_pos h, ?state, ?reason, State.portEvt_bget _ _ (by decide) (by decide), ?acts⟩
  case state =>
    rw [State.portState, State.portEvt_pstat]
    exact State.portDown_portState _ _ _ _ _ (by decide)
  case reason =>
    rw [State.portEvt_pstat]
    exact State.portDown_reason _ _ _ _ _ (by decide)
  case acts => exact (LinkActs.portDown _ _ _ _ _).trans (LinkActs.portEvt _ _ _)

/-! ### Ports disabled and enabled -/

theorem exec_portDisable_wealey (h : s.portState p.val < 8) :
    ∃ u, exec (.portDisable p) s = .next u ∧ u.portState p.val = 7 ∧
      u.fget (pstatReg p.val) F.LNK_PSTAT_REASON = 7 ∧ u.bget (pctlReg p.val) F.LNK_PCTL_DISABLE = true ∧
      LinkActs [pctlReg p.val] s u := by
  have hacts := LinkActs.portDown (p := []) (s.bset (pctlReg p.val) F.LNK_PCTL_DISABLE true) p.val 7 7 true
  have hother : pctlReg p.val ∉ [] ++ linkRegs := by simp [linkRegs, signalRegs, pctlReg, pstatReg, levtReg]
  refine ⟨_, if_pos (decide_eq_true h), State.portDown_portState _ _ _ _ _ (by decide), State.portDown_reason _ _ _ _ _ (by decide), ?dis, ?acts⟩
  case dis => rw [hacts.2.bget hother, State.bget_bset_same _ _ _ _ (by decide) (by decide)]
  case acts => exact (LinkActs.fset s _ _ (by simp)).trans (LinkActs.portDown _ _ _ _ _)

theorem exec_portEnable_wealey (h : s.portState p.val < 8) :
    ∃ u, exec (.portEnable p) s = .next u ∧ u.bget (pctlReg p.val) F.LNK_PCTL_DISABLE = false ∧
      u.portState p.val = (if s.portState p.val = 7 then 0 else s.portState p.val) ∧
      OnlyRegs [pctlReg p.val, pstatReg p.val] s u := by
  have hother : pctlReg p.val ≠ pstatReg p.val := by simp [pctlReg, pstatReg]
  have henabled : (s.bset (pctlReg p.val) F.LNK_PCTL_DISABLE false).bget (pctlReg p.val) F.LNK_PCTL_DISABLE = false :=
    State.bget_bset_same _ _ _ _ (by decide) (by decide)
  have honly : OnlyRegs [pctlReg p.val, pstatReg p.val] s (s.bset (pctlReg p.val) F.LNK_PCTL_DISABLE false) := OnlyRegs.bset _ _ (by simp)
  refine ⟨_, if_pos (decide_eq_true h), ?_⟩
  split
  · have hport := OnlyRegs.setPort (s.bset (pctlReg p.val) F.LNK_PCTL_DISABLE false) p.val 0 0
    exact ⟨(hport.2.bget (by simpa using hother) _).trans henabled, State.setPort_portState _ _ _ _ (by decide),
      honly.trans (hport.mono (by simp))⟩
  · exact ⟨henabled, State.fget_fset_other _ _ _ _ hother.symm, honly⟩

end

/-- Settles O32: each event acts on a port in its state alone, and what a port's change does to the group leaves the states of ports. -/
theorem portStatesChange : Obligations.PortStatesChange := by
  refine ⟨fun p s => ⟨exec_portSignalDetect_ready, fun h => if_neg h, exec_trainTimeout_training, exec_trainLock_locks,
      fun h => ⟨if_neg h, if_neg h⟩⟩,
    fun p s => ⟨exec_detectRetry_detects, exec_detectRetry_stays⟩, fun p s => ⟨exec_checkPass_passes, ?unchecked⟩,
    fun p s h => ⟨exec_portSignalLost_running h, fun c hc => ⟨fun hfew => ?retrain, fun hmany => ?failed⟩⟩,
    fun p s h => ⟨if_neg h, if_neg h, fun h6 => ?restart, fun h6 => ?ignored⟩,
    fun p s => ⟨fun h => ⟨exec_portRetrainDone_retraining h, exec_portRetrainTimeout_retraining h⟩, fun h => ⟨if_neg h, if_neg h⟩⟩,
    fun p s => ⟨fun h => ?notWealey, fun h => ⟨exec_portDisable_wealey h, exec_portEnable_wealey h⟩⟩⟩
  case unchecked =>
    intro h
    refine if_neg fun ⟨hstate, hhello⟩ => ?_
    rcases h with h | h
    · exact h hstate
    · rw [hhello] at h
      cases h
  case retrain => exact ⟨_, exec_portRetrains h hc, State.portRetrainStart_state hfew⟩
  case failed => exact ⟨_, exec_portRetrains h hc, State.portRetrainStart_failed hmany⟩
  case restart =>
    exact ⟨_, (if_neg h).trans (if_pos h6), State.setPort_portState _ _ _ _ (by decide), OnlyRegs.setPort _ _ _ _⟩
  case ignored => exact (if_neg h).trans (if_neg h6)
  case notWealey =>
    have hnot : ¬ s.portWealey p.val = true := by simpa [State.portWealey] using h
    exact ⟨if_neg hnot, if_neg hnot⟩

end Sys2Proof.Machine

namespace Sys2Proof.Machine

/-! PROOFS. Mode changes (O13; R153 to R156): what their messages and CFG_MODE_STAT change, then message by message. -/

/-! ### What a mode change shows and sends -/

/-- `t` is `s` but for the mode change itself, what it shows in the registers `p`, and the messages it sends. -/
structure ModeActs (p : List Reg) (s t : State) : Prop where
  rest : t = { s with
    regs := t.regs
    mode := t.mode
    chain := t.chain
    grp := { s.grp with entries := t.grp.entries } }
  regs : RegsKept p s t

namespace ModeActs
variable {p : List Reg}

theorem refl (s : State) : ModeActs p s s := ⟨rfl, RegsKept.refl p s⟩

theorem trans {s t u : State} (h : ModeActs p s t) (g : ModeActs p t u) : ModeActs p s u := by
  refine ⟨?_, h.regs.trans g.regs⟩
  rw [g.rest, h.rest]

theorem mono {q : List Reg} {s t : State} (h : ModeActs p s t) (hpq : ∀ r ∈ p, r ∈ q) : ModeActs q s t := ⟨h.rest, h.regs.mono hpq⟩

theorem ite {c : Prop} [Decidable c] {s a b : State} (ha : ModeActs p s a) (hb : ModeActs p s b) : ModeActs p s (if c then a else b) := by
  split
  · exact ha
  · exact hb

theorem foldl {α : Type} {f : State → α → State} (hf : ∀ s a, ModeActs p s (f s a)) (l : List α) (s : State) :
    ModeActs p s (l.foldl f s) :=
  List.foldlRecOn (motive := fun t => ModeActs p s t) l f (refl s) fun t ht a _ => ht.trans (hf t a)

theorem withMode (s : State) (m : Option ModeChange) : ModeActs p s { s with mode := m } := ⟨rfl, fun _ _ => rfl⟩

theorem chainTo (s : State) (d cls sp : Nat) (l : List Nat) : ModeActs p s (s.chainTo d cls sp l) := ⟨rfl, fun _ _ => rfl⟩

theorem chainSend (s : State) (port : Nat) (m : ChainMsg) : ModeActs p s (s.chainSend port m) := ⟨rfl, fun _ _ => rfl⟩

theorem modeSend (s : State) (c : ModeChange) (cls w0 w1 : Nat) : ModeActs p s (s.modeSend c cls w0 w1) := by
  unfold State.modeSend
  exact (chainSend s _ _).trans (foldl (fun s d => chainTo s d _ _ _) _ _)

theorem modeAnswer (s : State) (c : ModeChange) (phase result : Nat) : ModeActs p s (s.modeAnswer c phase result) := by
  unfold State.modeAnswer
  split
  · exact chainTo s _ _ _ _
  · exact refl s

theorem fset (s : State) {r : Reg} (f : Fld) (v : Nat) (h : r ∈ p) : ModeActs p s (s.fset r f v) := ⟨rfl, RegsKept.fset f v h⟩

theorem modeShow (s : State) (phase cause change : Nat) (h : Reg.CFG_MODE_STAT ∈ p) : ModeActs p s (s.modeShow phase cause change) :=
  ((fset s _ _ h).trans (fset _ _ _ h)).trans (fset _ _ _ h)

theorem modeFinish (s : State) : ModeActs [.CFG_MODE_STAT, .CFG_COMMIT_STAT] s s.modeFinish := by
  unfold State.modeFinish
  split
  next c _ =>
    have hcommit (t : State) : ModeActs [.CFG_MODE_STAT, .CFG_COMMIT_STAT] t (t.commitShow c 2) := ite (fset t _ _ (by simp)) (refl t)
    exact ite ((((withMode s _).trans (modeAnswer _ c 1 0)).trans (modeShow _ 3 0 c.id (by simp))).trans (hcommit _)) (refl s)
  next => exact refl s

end ModeActs

section
variable (s : State) (phase cause change : Nat)

theorem State.modeShow_phase : (s.modeShow phase cause change).fget .CFG_MODE_STAT F.CFG_MODE_STAT_PHASE = phase % 8 := by
  rw [State.modeShow, State.fget_fset_field _ _ _ _ _ (by decide) (by decide), State.fget_fset_field _ _ _ _ _ (by decide) (by decide),
    State.fget_fset_same _ _ _ _ (by decide)]
  rfl

theorem State.modeShow_cause : (s.modeShow phase cause change).fget .CFG_MODE_STAT F.CFG_MODE_STAT_CAUSE = cause % 256 := by
  rw [State.modeShow, State.fget_fset_field _ _ _ _ _ (by decide) (by decide), State.fget_fset_same _ _ _ _ (by decide)]
  rfl

theorem State.modeShow_change : (s.modeShow phase cause change).fget .CFG_MODE_STAT F.CFG_MODE_STAT_CHANGE = change % 65536 :=
  State.fget_fset_same _ _ _ _ (by decide)

theorem OnlyRegs.modeShow : OnlyRegs [.CFG_MODE_STAT] s (s.modeShow phase cause change) :=
  ((OnlyRegs.fset _ _ (by simp)).trans (OnlyRegs.fset _ _ (by simp))).trans (OnlyRegs.fset _ _ (by simp))

end

/-- The units of a change that are not devices take their messages from the chain network alone (R153). -/
theorem State.modeSend_local {c : ModeChange} (h : ∀ x ∈ c.units, ∀ d, x ≠ .device d) (s : State) (cls w0 w1 : Nat) :
    s.modeSend c cls w0 w1 = s.chainSend 0
      ⟨cls, true, c.span, 0, 0, if cls = 0x7 then [w0, w1] else [w0], s.allLanes⟩ := by
  have hdevices : c.devices = [] := by
    refine List.filterMap_eq_nil_iff.mpr fun x hx => ?_
    cases x with
    | leaf l => rfl
    | block b => rfl
    | device d => exact absurd rfl (h _ hx d)
  rw [State.modeSend, hdevices]
  rfl

theorem State.modeAnswer_own {c : ModeChange} (h : c.coord = none) (s : State) (phase result : Nat) : s.modeAnswer c phase result = s := by
  rw [State.modeAnswer, h]

theorem State.commitShow_other {c : ModeChange} (h : c.kind ≠ 2) (s : State) (st : Nat) : s.commitShow c st = s := if_neg h

/-! ### The branches of a change's progress (R154) -/

section
variable {s : State} {c : ModeChange}

theorem State.modeCommit_waits (hmode : s.mode = some c) (h : ∃ x ∈ c.units, x ∉ c.acked) : s.modeCommit = s := by
  have hnot : ¬ (c.phase = 1 ∧ c.units.all (fun u => c.acked.contains u) = true) := by
    rintro ⟨-, hall⟩
    obtain ⟨x, hx, hxa⟩ := h
    exact hxa (by simpa using List.all_eq_true.mp hall x hx)
  rw [State.modeCommit, hmode]
  exact if_neg hnot

theorem State.modeCommit_goes (hmode : s.mode = some c) (hphase : c.phase = 1) (hcoord : c.coord = none) (h : ∀ x ∈ c.units, x ∈ c.acked) :
    s.modeCommit = s.modeGo c := by
  have hall : c.phase = 1 ∧ c.units.all (fun u => c.acked.contains u) = true :=
    ⟨hphase, List.all_eq_true.mpr fun x hx => by simpa using h x hx⟩
  rw [State.modeCommit, hmode]
  simp only [hall, and_self, if_true, hcoord]

theorem State.modeFinish_waits (hmode : s.mode = some c) (h : ∃ x ∈ c.units, x ∉ c.done) : s.modeFinish = s := by
  have hnot : ¬ (c.phase = 2 ∧ c.units.all (fun u => c.done.contains u) = true) := by
    rintro ⟨-, hall⟩
    obtain ⟨x, hx, hxa⟩ := h
    exact hxa (by simpa using List.all_eq_true.mp hall x hx)
  rw [State.modeFinish, hmode]
  exact if_neg hnot

theorem State.modeFinish_ends (hmode : s.mode = some c) (hphase : c.phase = 2) (hcoord : c.coord = none) (hkind : c.kind ≠ 2)
    (h : ∀ x ∈ c.units, x ∈ c.done) : s.modeFinish = ({ s with mode := some { c with phase := 3 } } : State).modeShow 3 0 c.id := by
  have hall : c.phase = 2 ∧ c.units.all (fun u => c.done.contains u) = true :=
    ⟨hphase, List.all_eq_true.mpr fun x hx => by simpa using h x hx⟩
  rw [State.modeFinish, hmode]
  simp only [hall, and_self, if_true, State.modeAnswer_own hcoord, State.commitShow_other hkind]

/-- COMMIT goes out, and the change waits for the units that have not applied it. -/
theorem State.modeGo_local (hlocal : ∀ x ∈ c.units, ∀ d, x ≠ .device d) (h : ∃ x ∈ c.units, x ∉ c.done) :
    s.modeGo c = (({ s with mode := some { c with phase := 2 } } : State).chainSend 0
      ⟨0x9, true, c.span, 0, 0, [c.id], s.allLanes⟩).modeShow 2 0 c.id := by
  have hsend : ({ s with mode := some { c with phase := 2 } } : State).modeSend c 0x9 c.id 0 =
      ({ s with mode := some { c with phase := 2 } } : State).chainSend 0 ⟨0x9, true, c.span, 0, 0, [c.id], s.allLanes⟩ :=
    State.modeSend_local hlocal _ _ _ _
  rw [State.modeGo, hsend]
  exact State.modeFinish_waits (c := { c with phase := 2 }) rfl h

/-- The state of an aborted change (R155), after its messages and before source 17. -/
def State.aborted (s : State) (c : ModeChange) (k result : Nat) : State :=
  (((((({ s with mode := some { c with phase := 4 } }).modeSend c 0xA (c.id + k * 65536) 0).modeAnswer c 0
    result).modeShow 4 k c.id).commitShow c 3).unstage)

/-- The RESULT that a device gives for a change of another's that aborts here with cause `k` (R156). -/
def ModeChange.answerOf (c : ModeChange) (k : Nat) : Nat :=
  if k = 2 then ((c.prepared.find? (fun x => x.2 ≠ 0)).map (·.2)).getD 2 else if k = 4 then 1 else 2

theorem State.modeAbort_eq (hmode : s.mode = some c) (hphase : c.phase = 1) (k : Nat) :
    s.modeAbort k = (s.aborted c k (c.answerOf k)).raise 17 := by
  rw [State.modeAbort, hmode]
  exact if_pos hphase

theorem ModeActs.shown (s : State) (c : ModeChange) (k result : Nat) : ModeActs [.CFG_MODE_STAT] s
    (((({ s with mode := some { c with phase := 4 } } : State).modeSend c 0xA (c.id + k * 65536) 0).modeAnswer c 0 result).modeShow 4 k
      c.id) :=
  (((withMode s _).trans (modeSend _ _ _ _ _)).trans (modeAnswer _ _ _ _)).trans (modeShow _ _ _ _ (by simp))

end

/-! ### Messages from and to units (R154) -/

section
variable {s : State} {c : ModeChange} {w : ModeUnit} {m : MUnit}

/-- A unit of this device's answer goes to the hub's chain router. -/
theorem State.unitSays_eq (s : State) (u : MUnit) (cls : Nat) (words : List Nat) :
    ∃ x : Nat × ChainMsg, x.2.cls = cls ∧ x.2.words = words ∧
      s.unitSays u cls words = { s with chain := { s.chain with waiting := s.chain.waiting ++ [x] } } :=
  ⟨(_, _), rfl, rfl, rfl⟩

theorem exec_prepareReceive_unit {kind : Fin 4} {x : SpanIx × Fin 65536} (hw : ∀ d, unitOf w ≠ .device d) (hmode : s.mode = some c)
    (hphase : c.phase = 1) (hunit : unitOf w ∈ c.units) (hnew : ∀ x ∈ c.prepared, x.1 ≠ unitOf w) :
    exec (.prepareReceive w kind x) s = .next (({ s with
      mode := some { c with prepared := c.prepared ++ [(unitOf w, s.unitResult (unitOf w))] } } : State).unitSays (unitOf w) 0x8
        [c.id + s.unitResult (unitOf w) * 131072]) := by
  have htakes : c.phase = 1 ∧ c.units.contains (unitOf w) = true ∧ ¬ c.prepared.any (fun x => x.1 = unitOf w) = true := by
    refine ⟨hphase, by simpa using hunit, ?_⟩
    simpa using fun b hb => hnew (unitOf w, b) hb rfl
  change execPrepareReceive w kind x s = _
  cases w with
  | device d => exact absurd rfl (hw d.val)
  | engine | mover | re | part | block =>
    simp only [execPrepareReceive, hmode]
    exact if_pos htakes

theorem exec_prepareReceive_device {d : Fin 64} {kind : Fin 4} {sp : SpanIx} {change : Fin 65536} (h : s.modeBusy = false) :
    exec (.prepareReceive (.device d) kind (sp, change)) s =
      .next (s.modeBegin kind.val sp.val (s.groupUnits sp.val) (some (d.val, change.val))) := by
  have hnot : ¬ s.modeBusy = true := by simp [h]
  exact if_neg hnot

theorem State.modeSend_mode (s : State) (c : ModeChange) (cls w0 w1 : Nat) : (s.modeSend c cls w0 w1).mode = s.mode := by
  unfold State.modeSend
  refine (foldl_kept (·.mode) (fun _ _ _ => ?_) _).trans ?_ <;> rfl

theorem State.modeAnswer_mode (s : State) (c : ModeChange) (phase result : Nat) : (s.modeAnswer c phase result).mode = s.mode := by
  unfold State.modeAnswer
  split <;> rfl

/-- A device that takes part in another's change at most answers once its units have. -/
theorem State.modeCommit_other {d : Nat} (hmode : s.mode = some c) (hcoord : c.coord = some d) :
    s.modeCommit = s ∨ s.modeCommit = s.modeAnswer c 0 0 := by
  rw [State.modeCommit, hmode]
  dsimp only
  rw [hcoord]
  exact (ite_eq_or_eq _ _ _).symm

/-- A change that `begun` has started is shown, and its PREPARE is sent; nothing is answered yet. -/
def State.begun (s : State) (c : ModeChange) (changes : Nat) (stale : List MUnit) : State :=
  (({ s with changes := changes, stale := stale, mode := some c } : State).modeSend c 0x7 (c.id + c.kind * 65536) c.span).modeShow 1 0 c.id

theorem State.begun_mode (s : State) (c : ModeChange) (changes : Nat) (stale : List MUnit) : (s.begun c changes stale).mode = some c := by
  change (State.modeSend _ _ _ _ _).mode = _
  rw [State.modeSend_mode]

theorem State.begun_regs (s : State) (c : ModeChange) (changes : Nat) (stale : List MUnit) :
    RegsKept [.CFG_MODE_STAT] s (s.begun c changes stale) := by
  have hsend := ModeActs.modeSend (p := [.CFG_MODE_STAT]) ({ s with changes := changes, stale := stale, mode := some c } : State) c 0x7
    (c.id + c.kind * 65536) c.span
  exact (hsend.trans (ModeActs.modeShow _ 1 0 c.id (by simp))).regs

/-- The change that a device's PREPARE starts here (R156). -/
def otherChange (kind sp d change : Nat) (units : List MUnit) : ModeChange := ⟨change, kind, sp, units, 1, [], [], [], [], [], some d⟩

theorem State.modeBegin_other (s : State) (kind sp d change : Nat) (units : List MUnit) (hchange : change < 65536) :
    ∃ u, u = s.modeBegin kind sp units (some (d, change)) ∧ u.mode = some (otherChange kind sp d change units) ∧
      u.fget .CFG_MODE_STAT F.CFG_MODE_STAT_CHANGE = change ∧ RegsKept [.CFG_MODE_STAT] s u := by
  obtain ⟨stale, hbegin⟩ : ∃ stale, s.modeBegin kind sp units (some (d, change)) =
      (s.begun (otherChange kind sp d change units) s.changes stale).modeCommit := ⟨_, rfl⟩
  have hshown : (s.begun (otherChange kind sp d change units) s.changes stale).fget .CFG_MODE_STAT F.CFG_MODE_STAT_CHANGE = change :=
    (State.modeShow_change _ _ _ _).trans (Nat.mod_eq_of_lt hchange)
  have hmode := s.begun_mode (otherChange kind sp d change units) s.changes stale
  have hregs := s.begun_regs (otherChange kind sp d change units) s.changes stale
  refine ⟨_, rfl, ?_⟩
  rw [hbegin]
  rcases State.modeCommit_other hmode rfl with h | h
  · rw [h]
    exact ⟨hmode, hshown, hregs⟩
  · have hanswer := ModeActs.modeAnswer (p := []) (s.begun (otherChange kind sp d change units) s.changes stale)
      (otherChange kind sp d change units) 0 0
    rw [h]
    refine ⟨?_, (hanswer.regs.fget (by simp) _).trans hshown, hregs.trans (hanswer.regs.mono (by simp))⟩
    rw [State.modeAnswer_mode, hmode]

end

/-! ### Answers, commits and applications -/

section
variable {s : State} {c : ModeChange} {w : ModeUnit} {result : Fin 5}

theorem exec_modeAckReceive_good (hw : ∀ d, unitOf w ≠ .device d) (hmode : s.mode = some c) (hphase : c.phase = 1)
    (hnew : unitOf w ∉ c.acked) (hsent : c.prepared.find? (fun x => x.1 = unitOf w) = some (unitOf w, 0)) :
    exec (.modeAckReceive w 0 result) s =
      .next ({ s with mode := some { c with acked := unitOf w :: c.acked } } : State).modeCommit := by
  have htakes : c.phase = 1 ∧ ¬ c.acked.contains (unitOf w) = true := ⟨hphase, by simpa using hnew⟩
  change execModeAckReceive w 0 result s = _
  unfold execModeAckReceive
  generalize unitOf w = m at *
  cases m with
  | device d => exact absurd rfl (hw d)
  | leaf | block =>
    simp only [hmode, hsent, Option.map_some, Fin.val_zero, if_true]
    exact if_pos htakes

theorem exec_modeAckReceive_bad {x : Nat} (hw : ∀ d, unitOf w ≠ .device d) (hmode : s.mode = some c) (hx : x ≠ 0)
    (hsent : c.prepared.find? (fun x => x.1 = unitOf w) = some (unitOf w, x)) :
    exec (.modeAckReceive w 0 result) s = .next (s.modeAbort 2) := by
  obtain ⟨n, rfl⟩ := Nat.exists_eq_succ_of_ne_zero hx
  change execModeAckReceive w 0 result s = _
  unfold execModeAckReceive
  generalize unitOf w = m at *
  cases m with
  | device d => exact absurd rfl (hw d)
  | leaf | block => simp only [hmode, hsent, Option.map_some, Fin.val_zero, if_true]

theorem exec_modeAckReceive_applied (hw : ∀ d, unitOf w ≠ .device d) (hmode : s.mode = some c) (hphase : c.phase = 2)
    (happlied : unitOf w ∈ c.applied) (hnew : unitOf w ∉ c.done) :
    exec (.modeAckReceive w 1 result) s =
      .next ({ s with mode := some { c with done := unitOf w :: c.done } } : State).modeFinish := by
  have htakes : c.phase = 2 ∧ c.applied.contains (unitOf w) = true ∧ ¬ c.done.contains (unitOf w) = true :=
    ⟨hphase, by simpa using happlied, by simpa using hnew⟩
  change execModeAckReceive w 1 result s = _
  unfold execModeAckReceive
  generalize unitOf w = m at *
  cases m with
  | device d => exact absurd rfl (hw d)
  | leaf | block =>
    simp only [hmode, Fin.val_one, one_ne_zero, if_false]
    exact if_pos htakes

theorem exec_commitReceive_unit (hw : ∀ d, unitOf w ≠ .device d) (hmode : s.mode = some c) (hphase : c.phase = 2)
    (hprepared : (unitOf w, 0) ∈ c.prepared) (hnew : unitOf w ∉ c.committed) :
    exec (.commitReceive w) s = .next { s with mode := some { c with committed := unitOf w :: c.committed } } := by
  have htakes : c.phase = 2 ∧ c.prepared.contains (unitOf w, 0) = true ∧ ¬ c.committed.contains (unitOf w) = true :=
    ⟨hphase, by simpa using hprepared, by simpa using hnew⟩
  change execCommitReceive w s = _
  cases w with
  | device d => exact absurd rfl (hw d.val)
  | engine | mover | re | part | block =>
    simp only [execCommitReceive, hmode]
    exact if_pos htakes

/-- What a unit adopts at its step boundary: a block its staged pair sets (R154, step 6). -/
def State.unitApplies (s : State) (m : MUnit) : State :=
  match m with
  | .block b => s.blockApply b
  | _ => s

theorem exec_modeApply_boundary (hmode : s.mode = some c) (hphase : c.phase = 2) (hcommitted : unitOf w ∈ c.committed)
    (hnew : unitOf w ∉ c.applied) (hboundary : s.atBoundary (unitOf w) = true) :
    exec (.modeApply w) s = .next (({ s.unitApplies (unitOf w) with
      mode := some { c with applied := unitOf w :: c.applied } } : State).unitSays (unitOf w) 0x8 [c.id + 65536]) := by
  have htakes : c.phase = 2 ∧ c.committed.contains (unitOf w) = true ∧ ¬ c.applied.contains (unitOf w) = true ∧
      s.atBoundary (unitOf w) = true := ⟨hphase, by simpa using hcommitted, by simpa using hnew, hboundary⟩
  change execModeApply w s = _
  simp only [execModeApply, hmode]
  refine (if_pos htakes).trans ?_
  cases unitOf w <;> rfl

theorem exec_modeApply_waits (hmode : s.mode = some c) (hboundary : s.atBoundary (unitOf w) = false) :
    exec (.modeApply w) s = .next s := by
  change execModeApply w s = _
  simp only [execModeApply, hmode]
  exact if_neg fun h => by simp [hboundary] at h

theorem State.pairAdopted_staged (s : State) (x : PairSet) : (s.pairAdopted x).staged = s.staged := by
  cases x with
  | tkt t =>
    have hsteps : ((s.bestEffort t.val).avgReset t.val).staged = s.staged := by
      unfold State.avgReset
      refine (foldl_kept (·.staged) (fun t' r _ => ?_) _).trans rfl
      unfold State.putStep
      split <;> rfl
    simp only [State.pairAdopted]
    split
    · exact (State.rset_staged _ _ _).trans hsteps
    · exact hsteps
  | sbf p =>
    simp only [State.pairAdopted]
    split <;> rfl
  | stk | route | ring | vf => rfl

theorem State.pairPut_staged (s : State) (l : List (RwpKey × Word)) (x : PairSet) : (s.pairPut l x).staged = s.staged := by
  cases x with
  | sbf | stk | route => rfl
  | tkt | ring | vf =>
    refine foldl_kept (·.staged) (fun t k _ => ?_) s
    cases k <;> rfl

theorem State.pairAdopt_staged (s : State) (l : List (RwpKey × Word)) (xs : List PairSet) : (s.pairAdopt l xs).staged = s.staged := by
  unfold State.pairAdopt
  rw [foldl_kept (·.staged) (fun _ _ _ => State.pairAdopted_staged _ _) _, foldl_kept (·.staged) (fun _ _ _ => State.pairPut_staged _ _ _) _]

/-- What a block has applied is staged no more. -/
theorem State.blockApply_staged (s : State) (b : Nat) {x : RwpKey × Word} (hx : x ∈ (s.blockApply b).staged) :
    x ∈ s.staged ∧ ∀ y, x.1.set = some y → y.block ≠ b := by
  have hfilter : (s.blockApply b).staged = s.staged.filter (fun x => !(s.stagedOf b).any (fun y => y.1 = x.1)) := by
    change (State.pairAdopt _ _ _).staged.filter _ = _
    rw [State.pairAdopt_staged]
  rw [hfilter, List.mem_filter] at hx
  obtain ⟨hstaged, hnot⟩ := hx
  refine ⟨hstaged, fun y hy hblock => ?_⟩
  have hof : x ∈ s.stagedOf b := List.mem_filter.mpr ⟨hstaged, by simp [hy, hblock]⟩
  simp only [Bool.not_eq_true', List.any_eq_false, decide_eq_true_eq] at hnot
  exact hnot x hof rfl

end

/-- The messages of a mode change, in the order of its progress. -/
theorem modeChangesAdvance : ModeChangesAdvance := by
  refine ⟨fun w m kind sp change s c hm hw hmode hphase hunit hnew => ?prepare, fun d kind sp change s => ⟨fun h => if_pos h, fun h => ?other⟩,
    fun w m result s c hm hw hmode hphase hnew hsent hlocal hcoord => ⟨fun hmore => ?acked, fun hall hdone => ?goes⟩,
    fun w m result s c hm hw hmode hphase happlied hnew hkind hcoord => ⟨fun hall => ?ends, fun hmore => ?counted⟩,
    fun w m s c hm hw hmode hphase hprepared hnew => ?committed,
    fun w m s c hm hw hmode hphase hcommitted hnew => ⟨fun h => ?waits, fun h => ?applies⟩⟩
  case prepare =>
    subst hm
    obtain ⟨x, hcls, hwords, hsays⟩ := State.unitSays_eq ({ s with
      mode := some { c with prepared := c.prepared ++ [(unitOf w, s.unitResult (unitOf w))] } } : State) (unitOf w) 0x8
      [c.id + s.unitResult (unitOf w) * 131072]
    refine ⟨_, x, (exec_prepareReceive_unit hw hmode hphase hunit hnew).trans (congrArg _ hsays), rfl, rfl, hcls, hwords, rfl⟩
  case other =>
    obtain ⟨u, hu, hmode, hchange, hregs⟩ := s.modeBegin_other kind.val sp.val d.val change.val (s.groupUnits sp.val) change.isLt
    refine ⟨u, _, (exec_prepareReceive_device h).trans (congrArg _ hu.symm), hmode, rfl, rfl, rfl, hchange, rfl, rfl, rfl, hregs⟩
  case acked =>
    subst hm
    refine ⟨_, (exec_modeAckReceive_good hw hmode hphase hnew hsent).trans (congrArg _ (State.modeCommit_waits rfl ?_)), rfl, rfl⟩
    obtain ⟨x, hx, hxm, hxa⟩ := hmore
    exact ⟨x, hx, by simp [hxm, hxa]⟩
  case goes =>
    subst hm
    have hgo := (State.modeCommit_goes (s := { s with mode := some { c with acked := unitOf w :: c.acked } })
      (c := { c with acked := unitOf w :: c.acked }) rfl hphase hcoord fun x hx => by simpa using hall x hx).trans
      (State.modeGo_local hlocal hdone)
    refine ⟨_, (exec_modeAckReceive_good hw hmode hphase hnew hsent).trans (congrArg _ hgo), rfl, rfl, State.modeShow_phase _ _ _ _,
      (OnlyRegs.modeShow _ _ _ _).2, ?_⟩
    rw [(OnlyRegs.modeShow _ _ _ _).1]
    rfl
  case ends =>
    subst hm
    have hend := State.modeFinish_ends (s := { s with mode := some { c with done := unitOf w :: c.done } })
      (c := { c with done := unitOf w :: c.done }) rfl hphase hcoord hkind fun x hx => by simpa using hall x hx
    exact ⟨_, (exec_modeAckReceive_applied hw hmode hphase happlied hnew).trans (congrArg _ hend), rfl, State.modeShow_phase _ _ _ _,
      (OnlyRegs.modeShow _ _ _ _).2, rfl⟩
  case counted =>
    subst hm
    refine (exec_modeAckReceive_applied hw hmode hphase happlied hnew).trans (congrArg _ (State.modeFinish_waits rfl ?_))
    obtain ⟨x, hx, hxm, hxa⟩ := hmore
    exact ⟨x, hx, by simp [hxm, hxa]⟩
  case committed =>
    subst hm
    exact exec_commitReceive_unit hw hmode hphase hprepared hnew
  case waits =>
    subst hm
    exact exec_modeApply_waits hmode h
  case applies =>
    subst hm
    obtain ⟨x, hcls, hwords, hsays⟩ := State.unitSays_eq ({ s.unitApplies (unitOf w) with
      mode := some { c with applied := unitOf w :: c.applied } } : State) (unitOf w) 0x8 [c.id + 65536]
    refine ⟨_, (exec_modeApply_boundary hmode hphase hcommitted hnew h).trans (congrArg _ hsays), rfl,
      ⟨x, List.getLast?_concat .., hcls, hwords⟩, fun hblock => ?leaf, fun b hb => ?block⟩
    case leaf =>
      generalize unitOf w = m at *
      cases m with
      | block b => exact absurd rfl (hblock b)
      | leaf | device => rfl
    case block =>
      rw [hb]
      exact fun x => State.blockApply_staged s b

/-! ### Aborts (R155) -/

section
variable {s : State} {c : ModeChange}

/-- A change that aborts here is over, with its cause shown and source 17 raised. -/
theorem State.modeAbort_ends (hmode : s.mode = some c) (hphase : c.phase = 1) (hkind : c.kind ≠ 2) (hcoord : c.coord = none)
    {k : Nat} (hk : k < 256) :
    (s.modeAbort k).mode = some { c with phase := 4 } ∧ (s.modeAbort k).fget .CFG_MODE_STAT F.CFG_MODE_STAT_PHASE = 4 ∧
      (s.modeAbort k).fget .CFG_MODE_STAT F.CFG_MODE_STAT_CAUSE = k ∧ (s.modeAbort k).staged = [] ∧ Raised 17 s (s.modeAbort k) ∧
      RegsKept (.CFG_MODE_STAT :: signalRegs) s (s.modeAbort k) := by
  have hsend := (ModeActs.withMode s (some { c with phase := 4 })).trans (ModeActs.modeSend (p := []) _ c 0xA (c.id + k * 65536) 0)
  have haborted : s.aborted c k (c.answerOf k) = ((({ s with mode := some { c with phase := 4 } } : State).modeSend c 0xA
      (c.id + k * 65536) 0).modeShow 4 k c.id).unstage := by
    rw [State.aborted, State.modeAnswer_own hcoord, State.commitShow_other hkind]
  rw [State.modeAbort_eq hmode hphase, haborted]
  refine ⟨?mode, ?shown, ?cause, ?staged, ?raised, ?regs⟩
  case mode =>
    rw [State.raise_mode]
    exact State.modeSend_mode _ _ _ _ _
  case shown => exact (State.raise_fget _ _ (by decide) _).trans (State.modeShow_phase _ _ _ _)
  case staged => rw [State.raise_staged, State.unstage]
  case cause => exact (State.raise_fget _ _ (by decide) _).trans ((State.modeShow_cause _ _ _ _).trans (Nat.mod_eq_of_lt hk))
  case raised =>
    have hicu : (({ s with mode := some { c with phase := 4 } } : State).modeSend c 0xA (c.id + k * 65536) 0).icu = s.icu := by
      rw [hsend.rest]
    exact (State.raise_raised _ 17).of_counts_eq (congrArg (fun i => (i.src.at 17).count) hicu) (congrArg (fun i => (i.src.at 17).ovf) hicu)
  case regs =>
    have hshow := (hsend.regs.mono (q := .CFG_MODE_STAT :: signalRegs) (by simp)).trans
      ((OnlyRegs.modeShow _ 4 k c.id).2.mono (by simp))
    have hunstage (t : State) : RegsKept (.CFG_MODE_STAT :: signalRegs) t t.unstage := fun _ _ => rfl
    exact (hshow.trans (hunstage _)).trans ((Signals.raise _ 17).regsKept (List.subset_cons_self _ _))

theorem exec_modeAckTimeout_missing (hmode : s.mode = some c) (hphase : c.phase = 1)
    (h : ∃ x ∈ c.units, x ∉ c.acked ∧ ∀ d, x ≠ .device d) : exec .modeAckTimeout s = .next (s.modeAbort 1) := by
  obtain ⟨x, hx, hacked, hunit⟩ := h
  change execModeAckTimeout s = _
  unfold execModeAckTimeout
  rw [hmode]
  refine if_pos ⟨hphase, List.any_eq_true.mpr ⟨x, hx, ?_⟩⟩
  cases x with
  | device d => exact absurd rfl (hunit d)
  | leaf | block => simpa using hacked

theorem exec_groupModeTimeout_missing (hmode : s.mode = some c) (hphase : c.phase = 1)
    (h : ∃ d, .device d ∈ c.units ∧ .device d ∉ c.acked) : exec .groupModeTimeout s = .next (s.modeAbort 1) := by
  obtain ⟨d, hd, hacked⟩ := h
  change execGroupModeTimeout s = _
  unfold execGroupModeTimeout
  rw [hmode]
  exact if_pos ⟨hphase, List.any_eq_true.mpr ⟨_, hd, by simpa using hacked⟩⟩

theorem exec_abortReceive_unit {w : ModeUnit} {cause : Fin 256} (hw : ∀ d, unitOf w ≠ .device d) (hmode : s.mode = some c)
    (hphase : c.phase = 4) : exec (.abortReceive (w, cause)) s = .next { s with
      stale := s.stale.filter (· ≠ unitOf w), mode := some { c with prepared := c.prepared.filter (fun x => x.1 ≠ unitOf w) } } := by
  change execAbortReceive (w, cause) s = _
  cases w with
  | device d => exact absurd rfl (hw d.val)
  | engine | mover | re | part | block =>
    simp only [execAbortReceive, hmode]
    exact if_pos hphase

/-- A coordinating device's ABORT ends its change here, with the cause that it brings (R156). -/
def State.abortedBy (s : State) (c : ModeChange) (cause : Nat) : State :=
  (({ s with mode := some { c with phase := 4 } } : State).modeSend c 0xA (c.id + cause * 65536) 0).modeShow 4 cause c.id

theorem exec_abortReceive_device {d : Fin 64} {cause : Fin 256} (hmode : s.mode = some c) (hcoord : c.coord = some d.val)
    (hphase : c.phase = 1) : exec (.abortReceive (.device d, cause)) s = .next ((s.abortedBy c cause.val).raise 17) := by
  change execAbortReceive (.device d, cause) s = _
  simp only [execAbortReceive, hmode]
  exact if_pos ⟨hcoord, hphase⟩

end

/-- How a mode change ends before its COMMIT. -/
theorem modeChangesAbort : ModeChangesAbort := by
  refine ⟨fun i k s c hmode hphase hkind hcoord hi => ?aborts, fun s hmode => ⟨?noAck, ?noGroup⟩,
    fun w m cause s c hm hw hmode hphase => ?unit, fun d cause s c hmode hcoord hphase => ?device⟩
  case aborts =>
    have hexec : exec i s = .next (s.modeAbort k) ∧ k < 256 := by
      rcases hi with ⟨rfl, rfl, h⟩ | ⟨rfl, rfl, h⟩ | ⟨w, r, x, rfl, rfl, hx, hw, hsent⟩
      · exact ⟨exec_modeAckTimeout_missing hmode hphase h, by decide⟩
      · exact ⟨exec_groupModeTimeout_missing hmode hphase h, by decide⟩
      · exact ⟨exec_modeAckReceive_bad hw hmode hx hsent, by decide⟩
    exact ⟨_, hexec.1, State.modeAbort_ends hmode hphase hkind hcoord hexec.2⟩
  case noAck =>
    change execModeAckTimeout s = _
    rw [execModeAckTimeout, hmode]
  case noGroup =>
    change execGroupModeTimeout s = _
    rw [execGroupModeTimeout, hmode]
  case unit =>
    subst hm
    exact ⟨_, exec_abortReceive_unit hw hmode hphase, by simp, rfl, rfl⟩
  case device =>
    have hsend := (ModeActs.withMode s (some { c with phase := 4 })).trans (ModeActs.modeSend (p := []) _ c 0xA (c.id + cause.val * 65536) 0)
    have hicu : (s.abortedBy c cause.val).icu = s.icu := by
      change (State.modeSend _ _ _ _ _).icu = _
      rw [hsend.rest]
    refine ⟨_, exec_abortReceive_device hmode hcoord hphase, ?_, (State.raise_fget _ _ (by decide) _).trans (State.modeShow_phase _ _ _ _),
      (State.raise_fget _ _ (by decide) _).trans ((State.modeShow_cause _ _ _ _).trans (Nat.mod_eq_of_lt cause.isLt)), ?_⟩
    · rw [State.raise_mode]
      exact State.modeSend_mode _ _ _ _ _
    · exact (State.raise_raised _ 17).of_counts_eq (congrArg (fun i => (i.src.at 17).count) hicu) (congrArg (fun i => (i.src.at 17).ovf) hicu)

/-- Settles O13: message by message, from its PREPARE to its end or its abort. -/
theorem modeChanges : Obligations.ModeChanges := ⟨modeChangesAdvance, modeChangesAbort⟩

end Sys2Proof.Machine

namespace Sys2Proof.Machine

/-! PROOFS. Pair sets (O12; R150 to R152, R157): written fields, the adoption or discard of a ticket's target, commits. -/

/-! ### Lists of written fields -/

/-- A list of written fields in which `k` has been written again. -/
def writtenPut (l : List (RwpKey × Word)) (k : RwpKey) (v : Word) : List (RwpKey × Word) := l.filter (fun x => x.1 ≠ k) ++ [(k, v)]

theorem written_writtenPut_same (l : List (RwpKey × Word)) (k : RwpKey) (v : Word) : written (writtenPut l k v) k = some v := by
  have hnone : (l.filter (fun x => x.1 ≠ k)).find? (fun x => decide (x.1 = k)) = none := by
    rw [List.find?_eq_none]
    intro x hx
    simpa using (List.mem_filter.mp hx).2
  simp only [written, writtenPut, List.find?_append, hnone, Option.none_or, List.find?_cons, decide_true, Option.map_some]

theorem written_writtenPut_other (l : List (RwpKey × Word)) {k j : RwpKey} (v : Word) (h : j ≠ k) :
    written (writtenPut l k v) j = written l j := by
  have hfilter : (l.filter (fun x => x.1 ≠ k)).find? (fun x => decide (x.1 = j)) = l.find? (fun x => decide (x.1 = j)) := by
    rw [List.find?_filter]
    congr 1
    funext x
    by_cases hx : x.1 = j <;> simp [hx, h]
  simp only [written, writtenPut, List.find?_append, hfilter, List.find?_cons, Ne.symm h, decide_false, List.find?_nil, Option.or_none]

/-! ### Writes to pair-set fields (R151, R152) -/

section
variable {s : State}

theorem exec_rwpWrite_field {off : Nat} {v : Word} {r : Reg} (hoff : Reg.ofOffset off = some r) (hrwp : r.access.rwp ≠ 0) :
    exec (.rwpWrite off v) s = .next (s.pairWrite (s.pairKey r) (v &&& r.access.rwp)) := by
  change execRwpWrite off v s = _
  rw [execRwpWrite, hoff]
  exact if_neg hrwp

theorem State.pairWrite_refused {k : RwpKey} (h : s.pairTakes k = false) (v : Word) : s.pairWrite k v = s := by
  simp [State.pairWrite, h]

theorem State.pairWrite_basic {k : RwpKey} (h : s.pairTakes k = true) (hbasic : s.expert = false) (v : Word) :
    s.pairWrite k v = { s with shadow := writtenPut s.shadow k v } := by
  simp [State.pairWrite, h, hbasic, writtenPut]

theorem State.pairWrite_expert {k : RwpKey} {x : PairSet} (h : s.pairTakes k = true) (hexpert : s.expert = true) (hset : k.set = some x)
    (v : Word) : s.pairWrite k v = ({ s with pend := writtenPut s.pend k v } : State).pairTry x := by
  simp [State.pairWrite, h, hexpert, hset, writtenPut]

/-! ### A ticket's target (R231) -/

section
variable {t : Fin 16} {w b0 b1 : Word}

/-- The registers of a ticket's target set together. -/
def State.targetPut (s : State) (t : Fin 16) (w b0 b1 : Word) : State :=
  ((s.rset (.TKT_TGT t) w).rset (.TKT_BW0 t) b0).rset (.TKT_BW1 t) b1

/-- All three fields of the target of ticket `t` have been written. -/
def TargetWritten (l : List (RwpKey × Word)) (t : Fin 16) (w b0 b1 : Word) : Prop :=
  written l (.reg (.TKT_TGT t)) = some w ∧ written l (.reg (.TKT_BW0 t)) = some b0 ∧ written l (.reg (.TKT_BW1 t)) = some b1

theorem State.pairPut_target (h : TargetWritten s.pend t w b0 b1) : s.pairPut s.pend (.tkt t) = s.targetPut t w b0 b1 := by
  obtain ⟨hw, hb0, hb1⟩ := h
  simp only [State.pairPut, PairSet.keys, List.foldl_cons, List.foldl_nil, hw, hb0, hb1, Option.getD_some]
  rfl

theorem State.pairFits_target (h : TargetWritten s.pend t w b0 b1) :
    s.pairFits s.pend [.tkt t] = (s.targetPut t w b0 b1).admitFits := by
  simp only [State.pairFits, List.foldl_cons, List.foldl_nil, State.pairPut_target h, List.all_cons, List.all_nil, Bool.and_true,
    State.pairOk]

theorem allWritten_target (h : TargetWritten s.pend t w b0 b1) : [PairSet.tkt t].all (allWritten s.pend) = true := by
  obtain ⟨hw, hb0, hb1⟩ := h
  simp [allWritten, PairSet.keys, hw, hb0, hb1]

theorem State.pairTry_target_adopts (h : TargetWritten s.pend t w b0 b1) (hfits : (s.targetPut t w b0 b1).admitFits = true) :
    s.pairTry (.tkt t) =
      ({ (s.targetPut t w b0 b1).pairAdopted (.tkt t) with pend := without s.pend [.tkt t] } : State).pairShow := by
  have hadopt : s.pairAdopt s.pend [.tkt t] = (s.targetPut t w b0 b1).pairAdopted (.tkt t) := by
    simp only [State.pairAdopt, List.foldl_cons, List.foldl_nil, State.pairPut_target h]
  simp only [State.pairTry, State.pairAll, allWritten_target h, State.pairFits_target h, hfits, Bool.not_true, Bool.false_eq_true,
    if_false, List.any_cons, List.any_nil, State.pairWaits, Bool.or_self, hadopt]

theorem State.pairTry_target_discards (h : TargetWritten s.pend t w b0 b1) (hfits : (s.targetPut t w b0 b1).admitFits = false) :
    s.pairTry (.tkt t) =
      ((({ s with pend := without s.pend [.tkt t] } : State).pairShow).bset .CFG_PAIR_STAT F.CFG_PAIR_STAT_PAIR_ERR true).raise 18 := by
  simp only [State.pairTry, State.pairAll, allWritten_target h, State.pairFits_target h, hfits, Bool.not_true, Bool.not_false,
    Bool.false_eq_true, if_false, if_true]

theorem mem_keys_of_target {k : RwpKey} {t : Fin 16} (h : k.set = some (.tkt t)) : k ∈ (PairSet.tkt t).keys := by
  unfold RwpKey.set at h
  split at h <;> cases h <;> simp [PairSet.keys]

theorem without_target (l : List (RwpKey × Word)) (t : Fin 16) : ∀ x ∈ without l [.tkt t], x.1.set ≠ some (.tkt t) := by
  intro x hx hset
  have hkept := (List.mem_filter.mp hx).2
  simp [mem_keys_of_target hset] at hkept

/-- `t` is `s` but for what the ticket's resources hold and say of it. -/
def ThrottleActs (s t : State) : Prop := t = { s with tkt := t.tkt, chain := t.chain }

theorem ThrottleActs.trans {s t u : State} (h : ThrottleActs s t) (g : ThrottleActs t u) : ThrottleActs s u := by
  unfold ThrottleActs at *
  rw [g, h]

theorem ThrottleActs.regsKept {p : List Reg} {s t : State} (h : ThrottleActs s t) : RegsKept p s t := by
  intro r _
  rw [h]
  rfl

theorem ThrottleActs.avgReset (s : State) (t : Nat) : ThrottleActs s (s.avgReset t) :=
  List.foldlRecOn (motive := fun u => ThrottleActs s u) (List.range 73) _ rfl fun _ hu _ _ => hu.trans (State.putStep_rest _ _ _ _ _)

/-- What a ticket's target brings with it: BEST_EFFORT, its averages and steps, and TKT_DROP (R231). -/
theorem State.pairAdopted_target (s : State) (t : Fin 16) :
    RegsKept [.TKT_CLS t, .TKT_DROP] s (s.pairAdopted (.tkt t)) ∧
      s.pairAdopted (.tkt t) = { s with
        regs := (s.pairAdopted (.tkt t)).regs, tkt := (s.pairAdopted (.tkt t)).tkt, chain := (s.pairAdopted (.tkt t)).chain } := by
  have hclass : RegsKept [.TKT_CLS t, .TKT_DROP] s (s.bestEffort t.val) := RegsKept.bset _ _ (by simp)
  have hreset := ThrottleActs.avgReset (s.bestEffort t.val) t.val
  simp only [State.pairAdopted]
  generalize (s.bestEffort t.val).avgReset t.val = u at hreset ⊢
  have hregs : RegsKept [.TKT_CLS t, .TKT_DROP] s u := hclass.trans hreset.regsKept
  have hrest : u = { s with regs := u.regs, tkt := u.tkt, chain := u.chain } := by
    rw [hreset]
    rfl
  split
  · refine ⟨hregs.trans (RegsKept.rset _ (by simp)), ?_⟩
    conv_lhs => rw [hrest]
    rfl
  · exact ⟨hregs, hrest⟩

theorem OnlyRegs.pairShow (s : State) : OnlyRegs [.CFG_PAIR_STAT] s s.pairShow :=
  (OnlyRegs.bset _ _ (by simp)).trans (OnlyRegs.fset _ _ (by simp))

/-- A ticket's target adopted from its pending values, which `l` are without. -/
theorem State.targetAdopted (s : State) (t : Fin 16) (l : List (RwpKey × Word)) :
    ∃ u, u = ({ s.pairAdopted (.tkt t) with pend := l } : State).pairShow ∧ RegsKept [.TKT_CLS t, .TKT_DROP, .CFG_PAIR_STAT] s u ∧
      u.pend = l ∧ u = { s with regs := u.regs, pend := u.pend, tkt := u.tkt, chain := u.chain } := by
  obtain ⟨hregs, hrest⟩ := s.pairAdopted_target t
  generalize s.pairAdopted (.tkt t) = x at hregs hrest ⊢
  have hpend : RegsKept [.TKT_CLS t, .TKT_DROP, .CFG_PAIR_STAT] x { x with pend := l } := fun _ _ => rfl
  have hshow := OnlyRegs.pairShow ({ x with pend := l } : State)
  refine ⟨_, rfl, ((hregs.mono (by simp)).trans hpend).trans (hshow.2.mono (by simp)), rfl, ?_⟩
  rw [hshow.1, hrest]

theorem targetWritten (hb0 : written s.pend (.reg (.TKT_BW0 t)) = some b0) (hb1 : written s.pend (.reg (.TKT_BW1 t)) = some b1) :
    TargetWritten (writtenPut s.pend (.reg (.TKT_TGT t)) w) t w b0 b1 :=
  ⟨written_writtenPut_same _ _ _, (written_writtenPut_other _ _ (by simp)).trans hb0, (written_writtenPut_other _ _ (by simp)).trans hb1⟩

theorem exec_target {v : Word} (ht : t ≠ 0) (hexpert : s.expert = true) : exec (.rwpWrite (Reg.TKT_TGT t).offset v) s =
    .next (({ s with pend := writtenPut s.pend (.reg (.TKT_TGT t)) (v &&& (Reg.TKT_TGT t).access.rwp) } : State).pairTry (.tkt t)) := by
  have hrwp : (Reg.TKT_TGT t).access.rwp ≠ 0 := by
    change (0xFFFFFFFF : Word) ≠ 0
    decide
  exact (exec_rwpWrite_field (registerMapIsOneToOne.1 _).1 hrwp).trans
    (congrArg _ (State.pairWrite_expert (by simpa [State.pairTakes, State.pairKey] using ht) hexpert rfl _))

/-- Whether the targets can be admitted depends on the registers alone. -/
theorem State.admitFits_withPend (s : State) (l : List (RwpKey × Word)) : ({ s with pend := l } : State).admitFits = s.admitFits := by
  unfold State.admitFits
  rfl

theorem State.targetPut_withPend (s : State) (l : List (RwpKey × Word)) (t : Fin 16) (w b0 b1 : Word) :
    ({ s with pend := l } : State).targetPut t w b0 b1 = { s.targetPut t w b0 b1 with pend := l } := rfl

theorem adopts_target {v : Word} (ht : t ≠ 0) (hexpert : s.expert = true)
    (hwritten : TargetWritten (writtenPut s.pend (.reg (.TKT_TGT t)) (v &&& (Reg.TKT_TGT t).access.rwp)) t
      (v &&& (Reg.TKT_TGT t).access.rwp) b0 b1)
    (hfits : (s.targetPut t (v &&& (Reg.TKT_TGT t).access.rwp) b0 b1).admitFits = true) :
    ∃ u, exec (.rwpWrite (Reg.TKT_TGT t).offset v) s = .next u ∧
      u.rget (.TKT_TGT t) = v &&& (Reg.TKT_TGT t).access.rwp ∧ u.rget (.TKT_BW0 t) = b0 ∧ u.rget (.TKT_BW1 t) = b1 ∧
      (∀ x ∈ u.pend, x.1.set ≠ some (.tkt t)) ∧
      RegsKept [.TKT_TGT t, .TKT_BW0 t, .TKT_BW1 t, .TKT_CLS t, .TKT_DROP, .CFG_PAIR_STAT] s u ∧
      u = { s with regs := u.regs, pend := u.pend, tkt := u.tkt, chain := u.chain } := by
  rw [exec_target ht hexpert]
  generalize v &&& (Reg.TKT_TGT t).access.rwp = w at *
  generalize writtenPut s.pend (.reg (.TKT_TGT t)) w = l at *
  have hfits' : (({ s with pend := l } : State).targetPut t w b0 b1).admitFits = true := by
    rw [State.targetPut_withPend, State.admitFits_withPend, hfits]
  have hput : RegsKept [.TKT_TGT t, .TKT_BW0 t, .TKT_BW1 t] s (({ s with pend := l } : State).targetPut t w b0 b1) :=
    ((RegsKept.rset _ (by simp)).trans (RegsKept.rset _ (by simp))).trans (RegsKept.rset _ (by simp))
  have hvalues : (({ s with pend := l } : State).targetPut t w b0 b1).rget (.TKT_TGT t) = w ∧
      (({ s with pend := l } : State).targetPut t w b0 b1).rget (.TKT_BW0 t) = b0 ∧
      (({ s with pend := l } : State).targetPut t w b0 b1).rget (.TKT_BW1 t) = b1 := by
    simp [State.targetPut, State.rget_rset]
  rw [State.pairTry_target_adopts (s := { s with pend := l }) hwritten hfits']
  obtain ⟨u, hu, hregs, hpend, hrest⟩ := (({ s with pend := l } : State).targetPut t w b0 b1).targetAdopted t (without l [.tkt t])
  refine ⟨u, congrArg _ hu.symm, (hregs _ (by simp)).trans hvalues.1, (hregs _ (by simp)).trans hvalues.2.1,
    (hregs _ (by simp)).trans hvalues.2.2, ?_, (hput.mono (by simp)).trans (hregs.mono (by simp)), ?_⟩
  · rw [hpend]
    exact without_target _ t
  · rw [hrest]
    rfl

theorem discards_target {v : Word} (ht : t ≠ 0) (hexpert : s.expert = true)
    (hwritten : TargetWritten (writtenPut s.pend (.reg (.TKT_TGT t)) (v &&& (Reg.TKT_TGT t).access.rwp)) t
      (v &&& (Reg.TKT_TGT t).access.rwp) b0 b1)
    (hfits : (s.targetPut t (v &&& (Reg.TKT_TGT t).access.rwp) b0 b1).admitFits = false) :
    ∃ u, exec (.rwpWrite (Reg.TKT_TGT t).offset v) s = .next u ∧
      u.bget .CFG_PAIR_STAT F.CFG_PAIR_STAT_PAIR_ERR = true ∧ Raised 18 s u ∧
      (∀ x ∈ u.pend, x.1.set ≠ some (.tkt t)) ∧ u.rget (.TKT_TGT t) = s.rget (.TKT_TGT t) ∧
      RegsKept (.CFG_PAIR_STAT :: signalRegs) s u := by
  rw [exec_target ht hexpert]
  generalize v &&& (Reg.TKT_TGT t).access.rwp = w at *
  generalize writtenPut s.pend (.reg (.TKT_TGT t)) w = l at *
  have hfits' : (({ s with pend := l } : State).targetPut t w b0 b1).admitFits = false := by
    rw [State.targetPut_withPend, State.admitFits_withPend, hfits]
  have hshow := OnlyRegs.pairShow ({ s with pend := without l [.tkt t] } : State)
  have herr := hshow.trans (OnlyRegs.bset F.CFG_PAIR_STAT_PAIR_ERR true List.mem_cons_self)
  have hwith : RegsKept [.CFG_PAIR_STAT] s ({ s with pend := without l [.tkt t] } : State) := fun _ _ => rfl
  have hregs := ((hwith.trans herr.2).mono (q := .CFG_PAIR_STAT :: signalRegs) (by simp)).trans
    ((Signals.raise _ 18).regsKept (List.subset_cons_self _ _))
  rw [State.pairTry_target_discards (s := { s with pend := l }) hwritten hfits']
  refine ⟨_, rfl, (State.raise_bget _ _ (by decide) _).trans (State.bget_bset_same _ _ _ _ (by decide) (by decide)),
    (State.raise_raised _ 18).of_counts_eq rfl rfl, ?_, hregs _ (by simp [signalRegs]), hregs⟩
  rw [State.raise_pend]
  exact without_target _ t

end

/-! ### Commits (R151) -/

/-- The state with its shadows staged, the commit shown, before its mode change. -/
def State.shadowsStaged (s : State) : State :=
  (({ s with staged := s.shadow, shadow := [] } : State).fset .CFG_COMMIT_STAT F.CFG_COMMIT_STAT_STATE 1).fset
    .CFG_COMMIT_STAT F.CFG_COMMIT_STAT_CHANGE ((s.changes + 1) % 65536)

/-- The mode change of a commit over one block. -/
def blockChange (s : State) (b : Nat) : ModeChange := ⟨(s.changes + 1) % 65536, 2, 0xFFF, [.block b], 1, [], [], [], [], [], none⟩

theorem exec_pairCommit_starts {v : Word} {b : Nat} (hgo : F.CFG_COMMIT_GO.get v ≠ 0) (hidle : s.modeBusy = false) (hstaged : s.staged = [])
    (hload : s.load.busy = false) (hblocks : ((s.shadow.filterMap (fun x => x.1.set)).map PairSet.block).eraseDups = [b]) :
    ∃ stale, exec (.pairCommit v) s = .next (s.shadowsStaged.begun (blockChange s b) ((s.changes + 1) % 65536) stale) := by
  have hstarts : ¬ (F.CFG_COMMIT_GO.get v = 0 ∨ s.modeBusy = true ∨ s.staged ≠ [] ∨
      (s.load.busy = true ∧ s.fget .CFG_LOAD_STAT F.CFG_LOAD_STAT_STATE = 5)) := by simp [hgo, hidle, hstaged, hload]
  obtain ⟨stale, hbegin⟩ : ∃ stale, s.shadowsStaged.modeStart 2 0xFFF [.block b] =
      (s.shadowsStaged.begun (blockChange s b) ((s.changes + 1) % 65536) stale).modeCommit := ⟨_, rfl⟩
  have hwaits : (s.shadowsStaged.begun (blockChange s b) ((s.changes + 1) % 65536) stale).modeCommit =
      s.shadowsStaged.begun (blockChange s b) ((s.changes + 1) % 65536) stale :=
    State.modeCommit_waits (State.begun_mode _ _ _ _) ⟨.block b, by simp [blockChange], by simp [blockChange]⟩
  refine ⟨stale, (if_neg hstarts).trans ?_⟩
  rw [hblocks, ← hwaits, ← hbegin]
  rfl

/-- A commit's change is of blocks alone: its PREPARE goes to the chain network. -/
theorem State.begun_block (s : State) (b : Nat) (stale : List MUnit) :
    ∃ m, s.shadowsStaged.begun (blockChange s b) ((s.changes + 1) % 65536) stale =
      ((({ s.shadowsStaged with changes := (s.changes + 1) % 65536, stale := stale, mode := some (blockChange s b) } : State).chainSend 0
        m).modeShow 1 0 ((s.changes + 1) % 65536)) := by
  have hlocal : ∀ x ∈ (blockChange s b).units, ∀ d, x ≠ .device d := by simp [blockChange]
  exact ⟨_, congrArg (fun t : State => t.modeShow 1 0 ((s.changes + 1) % 65536)) (State.modeSend_local hlocal _ _ _ _)⟩

end

/-- Settles O12: writes, commits, clears and the level, each by its command's branches. -/
theorem pairSetCommandsComplete : Obligations.PairSetCommandsComplete := by
  refine ⟨fun off v s r hoff hrwp hbasic => ⟨fun htakes => ?held, fun hrefused => ?refused⟩,
    fun t v b0 b1 s ht hexpert hb0 hb1 w hw => ⟨fun hfits => ?adopted, fun hfits => ?discarded⟩,
    fun v s => ⟨fun h => ?ignored, fun b hgo hidle hstaged hload hblocks => ?commit⟩, fun v s => ⟨fun h => if_pos h, fun h => ?kept⟩,
    fun v s => ⟨fun h => ?notAbandoned, fun h => ?abandoned⟩, fun v s => ⟨fun h => ?levelErr, fun hpend hshadow hstaged => ?level⟩⟩
  case held =>
    refine ⟨_, (exec_rwpWrite_field hoff hrwp).trans (congrArg _ (State.pairWrite_basic htakes hbasic _)), written_writtenPut_same _ _ _,
      fun k hk => written_writtenPut_other _ _ hk, rfl⟩
  case refused => exact (exec_rwpWrite_field hoff hrwp).trans (congrArg _ (State.pairWrite_refused hrefused _))
  case adopted =>
    subst hw
    exact adopts_target ht hexpert (targetWritten hb0 hb1) hfits
  case discarded =>
    subst hw
    exact discards_target ht hexpert (targetWritten hb0 hb1) hfits
  case ignored => exact if_pos (h.imp_right .inl)
  case commit =>
    obtain ⟨stale, hexec⟩ := exec_pairCommit_starts hgo hidle hstaged hload hblocks
    obtain ⟨m, hbegun⟩ := s.begun_block b stale
    have hid : (s.changes + 1) % 65536 < 65536 := Nat.mod_lt _ (by decide)
    have hregs : RegsKept [.CFG_COMMIT_STAT] s s.shadowsStaged := (RegsKept.fset _ _ (by simp)).trans (RegsKept.fset _ _ (by simp))
    rw [hbegun] at hexec
    refine ⟨_, _, hexec, rfl, rfl, rfl, rfl, rfl, rfl, rfl, ?state, ?change, State.modeShow_phase _ _ _ _,
      (hregs.mono (by simp)).trans ((OnlyRegs.modeShow _ _ _ _).2.mono (by simp)), rfl⟩
    case state =>
      refine ((OnlyRegs.modeShow _ _ _ _).2.fget (by simp) _).trans ?_
      refine (State.fget_fset_field _ _ _ _ _ (by decide) (by decide)).trans (State.fget_fset_same _ _ _ _ (by decide))
    case change =>
      refine ((OnlyRegs.modeShow _ _ _ _).2.fget (by simp) _).trans ((State.fget_fset_same _ _ _ _ (by decide)).trans ?_)
      exact Nat.mod_eq_of_lt hid
  case kept => exact if_neg (by omega)
  case notAbandoned => exact if_neg (by omega)
  case abandoned =>
    refine ⟨_, if_pos h, rfl, ?_, ?_, (OnlyRegs.pairShow _).2, (OnlyRegs.pairShow _).1⟩
    · rw [State.pairShow, State.bget, State.fget_fset_field _ _ _ _ _ (by decide) (by decide)]
      exact State.bget_bset_same _ _ _ _ (by decide) (by decide)
    · exact State.fget_fset_same _ _ _ _ (by decide)
  case levelErr => exact ⟨_, if_pos h, State.bget_bset_same _ _ _ _ (by decide) (by decide), OnlyRegs.bset _ _ (by simp)⟩
  case level =>
    refine ⟨_, if_neg (by simp [hpend, hshadow, hstaged]), ?_, OnlyRegs.fset _ _ (by simp)⟩
    rw [State.fget_fset_same _ _ _ _ (by decide)]
    exact Nat.mod_eq_of_lt (Fld.get_lt _ _)

end Sys2Proof.Machine

namespace Sys2Proof.Machine

/-! PROOFS. Snapshot waves (O47; R419 to R424): what latching, starting and ending a wave change, then command by command. -/

theorem State.fget_of_rget {s t : State} {r : Reg} (h : t.rget r = s.rget r) (f : Fld) : t.fget r f = s.fget r f := congrArg f.get h

theorem State.bget_of_rget {s t : State} {r : Reg} (h : t.rget r = s.rget r) (f : Fld) : t.bget r f = s.bget r f := by
  rw [State.bget, State.bget, State.fget_of_rget h]

/-! ### What latching changes -/

/-- `t` is `s` but for what latching changes: shadows, the cuts of counted channels, and the copies of the marker. -/
def LatchActs (s t : State) : Prop :=
  t = { s with
    wave := { s.wave with cuts := t.wave.cuts }
    shadows := t.shadows
    ports := t.ports
    outbox := t.outbox }

namespace LatchActs

theorem refl (s : State) : LatchActs s s := rfl

theorem trans {s t u : State} (h : LatchActs s t) (g : LatchActs t u) : LatchActs s u := by
  unfold LatchActs at *
  rw [g, h]

theorem foldl {α : Type} {f : State → α → State} (hf : ∀ s a, LatchActs s (f s a)) (l : List α) (s : State) : LatchActs s (l.foldl f s) :=
  List.foldlRecOn (motive := fun t => LatchActs s t) l f (refl s) fun t ht a _ => ht.trans (hf t a)

theorem ite {c : Prop} [Decidable c] {s a b : State} (ha : LatchActs s a) (hb : LatchActs s b) : LatchActs s (if c then a else b) := by
  split
  · exact ha
  · exact hb

theorem withShadows (s : State) (x : Shadows) : LatchActs s { s with shadows := x } := rfl

theorem latchHub (s : State) : LatchActs s s.latchHub := withShadows s _

theorem latchSites (s : State) (l : List Nat) : LatchActs s (s.latchSites l) := withShadows s _

theorem latchDie (s : State) (pos : Nat) : LatchActs s (s.latchDie pos) :=
  ite (latchSites s _) (ite (withShadows s _) (ite (withShadows s _) (refl s)))

theorem cutUpd (s : State) (k : Nat) (f : Cut → Cut) : LatchActs s (s.cutUpd k f) := rfl

theorem bundleSent (s : State) (p dir n : Nat) : LatchActs s (s.bundleSent p dir n) := rfl

theorem markerOut (s : State) (q n : Nat) : LatchActs s (s.markerOut q n) := rfl

theorem latchEnds (s : State) (pos : Nat) : LatchActs s (s.latchEnds pos) := by
  have hbundles (l : List Nat) (dir : State → Nat → Nat) (sent : State → Nat → Nat) :
      LatchActs s (l.foldl (fun (s : State) p => (s.cutRcvd p 0 (dir s p)).bundleSent p 1 (sent s p)) s) :=
    foldl (fun s p => (cutUpd s _ _).trans (bundleSent _ _ _ _)) l s
  refine ite ((hbundles _ _ _).trans (foldl (fun s q => ?_) _ _)) (hbundles _ _ _)
  exact ite (((cutUpd s _ _).trans (cutUpd _ _ _)).trans (markerOut _ _ _)) ((cutUpd s _ _).trans (cutUpd _ _ _))

theorem waveChannels (s : State) (dies : List Nat) : LatchActs s (s.waveChannels dies) :=
  foldl (fun s _ => (bundleSent s _ _ _).trans (cutUpd _ _ _)) _ s

end LatchActs

theorem State.waveChannels_ports (s : State) (dies : List Nat) : (s.waveChannels dies).ports = s.ports := by
  unfold State.waveChannels
  refine foldl_kept (fun t : State => t.ports) (fun t p _ => ?_) s
  simp only [State.cutRcvd, State.bundleSent, State.cutSent, State.cutUpd, State.emit]

/-! ### The markers of a wave -/

theorem State.foldl_chainSend_rest (m : State → Nat → ChainMsg) (l : List Nat) (s : State) :
    l.foldl (fun s p => s.chainSend 0 (m s p)) s = { s with chain := (l.foldl (fun s p => s.chainSend 0 (m s p)) s).chain } := by
  refine List.foldlRecOn (motive := fun t : State => t = { s with chain := t.chain }) l _ rfl fun t ht p _ => ?_
  have hsend : t.chainSend 0 (m t p) = { t with chain := (t.chainSend 0 (m t p)).chain } := rfl
  rw [hsend, ht]

/-- The markers sent are chain messages of class 6 for one lane each. -/
theorem State.foldl_chainSend (m : State → Nat → ChainMsg) (hm : ∀ s p, (m s p).cls = 6 ∧ (m s p).lanes = [p]) (l : List Nat) (s : State) :
    ∃ new, (l.foldl (fun s p => s.chainSend 0 (m s p)) s).chain.waiting = s.chain.waiting ++ new ∧
      new.map (fun x => (x.1, x.2.cls, x.2.lanes)) = l.map (fun q => (0, 6, [q])) := by
  induction l generalizing s with
  | nil => exact ⟨[], by simp, rfl⟩
  | cons p l ih =>
    obtain ⟨new, hnew, hmap⟩ := ih (s.chainSend 0 (m s p))
    refine ⟨(0, m s p) :: new, ?_, ?_⟩
    · rw [List.foldl_cons, hnew, State.chainSend, List.append_assoc, List.singleton_append]
    · rw [List.map_cons, hmap, List.map_cons, (hm s p).1, (hm s p).2]

theorem State.waveMarkers_sends (s : State) (dies : List Nat) :
    s.waveMarkers dies = { s with chain := (s.waveMarkers dies).chain } ∧
      ∃ new, (s.waveMarkers dies).chain.waiting = s.chain.waiting ++ new ∧
        new.map (fun x => (x.1, x.2.cls, x.2.lanes)) = (dies.flatMap s.dieLanes).map (fun q => (0, 6, [q])) :=
  ⟨State.foldl_chainSend_rest _ _ s, State.foldl_chainSend _ (fun _ _ => ⟨rfl, rfl⟩) _ s⟩

/-! ### The start of a wave -/

/-- TEL_SNAP_STAT and TEL_SNAP_SKIP at the start of a wave. -/
def State.waveShown (s : State) (scope skipped : Nat) : State :=
  ((((s.fset .TEL_SNAP_STAT F.TEL_SNAP_STAT_STATE 1).fset .TEL_SNAP_STAT F.TEL_SNAP_STAT_SCOPE scope).fset
    .TEL_SNAP_STAT F.TEL_SNAP_STAT_MISSING 0).fset .TEL_SNAP_STAT F.TEL_SNAP_STAT_ID ((s.waveId + 1) % 65536)).fset .TEL_SNAP_SKIP
      F.TEL_SNAP_SKIP_SKIPPED skipped

theorem OnlyRegs.waveShown (s : State) (scope skipped : Nat) : OnlyRegs [.TEL_SNAP_STAT, .TEL_SNAP_SKIP] s (s.waveShown scope skipped) :=
  ((((OnlyRegs.fset _ _ (by simp)).trans (OnlyRegs.fset _ _ (by simp))).trans (OnlyRegs.fset _ _ (by simp))).trans
    (OnlyRegs.fset _ _ (by simp))).trans (OnlyRegs.fset _ _ (by simp))

theorem State.waveShown_stat (s : State) (scope skipped : Nat) :
    (s.waveShown scope skipped).fget .TEL_SNAP_STAT F.TEL_SNAP_STAT_STATE = 1 ∧
      (s.waveShown scope skipped).fget .TEL_SNAP_STAT F.TEL_SNAP_STAT_ID = (s.waveId + 1) % 65536 := by
  constructor
  · rw [State.waveShown, State.fget_fset_other _ _ _ _ (by decide), State.fget_fset_field _ _ _ _ _ (by decide) (by decide), State.fget_fset_field _ _ _ _ _ (by decide) (by decide),
      State.fget_fset_field _ _ _ _ _ (by decide) (by decide), State.fget_fset_same _ _ _ _ (by decide)]
    rfl
  · rw [State.waveShown, State.fget_fset_other _ _ _ _ (by decide), State.fget_fset_same _ _ _ _ (by decide)]
    exact Nat.mod_mod _ 65536

/-- The wave that starts over `dies`. -/
def WaveUnit.begun (w : WaveUnit) (scope sp : Nat) (origin : Option Nat) (dies : List Nat) : WaveUnit :=
  { w with
    running := true, scope := scope, span := sp, origin := origin, dies := dies, latched := [], reported := []
    devs := [], ended := false }

/-- The dies over which a wave starts. -/
def State.waveDies (s : State) (scope sp : Nat) : List Nat := if scope = 1 then s.spanDies sp else (span 1 11).filter s.waveDie

/-- What the start of a wave leaves: `t` is `s` but for the wave, its registers, shadows and markers. -/
structure WaveBegins (scope sp : Nat) (origin : Option Nat) (s t : State) : Prop where
  rest : t = { s with regs := t.regs, wave := t.wave, shadows := t.shadows, chain := t.chain, outbox := t.outbox }
  regs : RegsKept [.TEL_SNAP_STAT, .TEL_SNAP_SKIP] s t
  wave : t.wave = { s.wave.begun scope sp origin (s.waveDies scope sp) with cuts := t.wave.cuts }
  stat : t.fget .TEL_SNAP_STAT F.TEL_SNAP_STAT_STATE = 1
  id : t.fget .TEL_SNAP_STAT F.TEL_SNAP_STAT_ID = (s.waveId + 1) % 65536
  markers : ∃ new, t.chain.waiting = s.chain.waiting ++ new ∧
    new.map (fun x => (x.1, x.2.cls, x.2.lanes)) = ((s.waveDies scope sp).flatMap s.dieLanes).map (fun q => (0, 6, [q]))
  spanOnly : scope = 1 → t.shadows = s.shadows ∧ t.outbox = s.outbox

/-- Which dies take part depends on the fences, the service level and Doze alone. -/
theorem State.waveDie_congr {s t : State} (hfenced : t.rget .BUP_FENCED = s.rget .BUP_FENCED) (hstat : t.rget .BUP_STAT = s.rget .BUP_STAT)
    (hdoze : t.doze = s.doze) : t.waveDie = s.waveDie := by
  have hdies : t.dieFenced = s.dieFenced := by
    funext pos
    rw [State.dieFenced, State.dieFenced, State.fget_of_rget hfenced]
  have hreleased : t.released = s.released := by
    funext d
    rw [State.released, State.released, State.fget_of_rget hstat]
  have hdozing : t.dozing = s.dozing := by
    funext d
    rw [State.dozing, State.dozing, hdoze]
  funext pos
  simp only [State.waveDie, State.dieRuns, hdies, hreleased, hdozing]

/-- The lanes of a die depend on the states of its bundles alone. -/
theorem State.dieLanes_congr {s t : State} (h : ∀ p, t.bundleState p = s.bundleState p) : t.dieLanes = s.dieLanes := by
  have hlive : t.bundleLive = s.bundleLive := by
    funext p
    rw [State.bundleLive, State.bundleLive, h]
  funext pos
  simp only [State.dieLanes, State.columnEntry, State.entryOf, hlive]

/-- The wave as it starts, before anything is latched and sent. -/
def State.waveStarted (s : State) (scope sp : Nat) (origin : Option Nat) : State :=
  { s.waveShown scope (if scope = 1 then 20 - (s.waveDies scope sp).length
      else ((span 1 11).filter (fun p => !s.waveDie p)).length + ((List.range 8).filter s.stackFenced).length) with
    wave := s.wave.begun scope sp origin (s.waveDies scope sp) }

theorem State.waveBegin_eq (s : State) (scope sp : Nat) (origin : Option Nat) :
    s.waveBegin scope sp origin = (if scope = 1 then s.waveStarted scope sp origin
      else ((s.waveStarted scope sp origin).latchHub).waveChannels (s.waveDies scope sp)).waveMarkers (s.waveDies scope sp) := rfl

/-- What the hub latches at the start of a wave. -/
theorem State.waveBegin_latches (s : State) (scope sp : Nat) (origin : Option Nat) :
    ∃ t, LatchActs (s.waveStarted scope sp origin) t ∧ t.ports = s.ports ∧ (scope = 1 → t = s.waveStarted scope sp origin) ∧
      s.waveBegin scope sp origin = t.waveMarkers (s.waveDies scope sp) := by
  refine ⟨_, ?latched, ?ports, fun h => if_pos h, State.waveBegin_eq s scope sp origin⟩
  case latched => exact LatchActs.ite (.refl _) ((LatchActs.latchHub _).trans (LatchActs.waveChannels _ _))
  case ports =>
    split
    · rfl
    · exact State.waveChannels_ports _ _

theorem State.waveBegin_begins (s : State) (scope sp : Nat) (origin : Option Nat) :
    WaveBegins scope sp origin s (s.waveBegin scope sp origin) := by
  obtain ⟨t, hlatch, hports, hspan, hbegin⟩ := s.waveBegin_latches scope sp origin
  have ht : t = { s.waveStarted scope sp origin with
      wave := { (s.waveStarted scope sp origin).wave with cuts := t.wave.cuts }
      shadows := t.shadows, ports := s.ports, outbox := t.outbox } := by
    rw [← hports]
    exact hlatch
  obtain ⟨hsent, new, hnew, hmap⟩ := t.waveMarkers_sends (s.waveDies scope sp)
  rw [← hbegin] at hsent hnew
  generalize hn : (if scope = 1 then 20 - (s.waveDies scope sp).length
    else ((span 1 11).filter (fun p => !s.waveDie p)).length + ((List.range 8).filter s.stackFenced).length) = skipped
  have hregs : (s.waveBegin scope sp origin).regs = (s.waveShown scope skipped).regs := by
    rw [hsent, ht, ← hn]
    rfl
  have hread (r : Reg) : (s.waveBegin scope sp origin).rget r = (s.waveShown scope skipped).rget r := congrArg (regGet · r) hregs
  have hstat := s.waveShown_stat scope skipped
  refine ⟨?rest, ?regs, ?wave, ?stat, ?id, ⟨new, ?waiting, ?map⟩, ?spanOnly⟩
  case rest =>
    rw [hsent, ht]
    rfl
  case regs => exact fun r hr => (hread r).trans ((OnlyRegs.waveShown s scope skipped).2 r hr)
  case wave =>
    rw [hsent, ht]
    rfl
  case stat => exact (congrArg F.TEL_SNAP_STAT_STATE.get (hread _)).trans hstat.1
  case id => exact (congrArg F.TEL_SNAP_STAT_ID.get (hread _)).trans hstat.2
  case waiting =>
    rw [hnew, ht]
    rfl
  case map =>
    have hlanes : t.dieLanes = s.dieLanes := by
      refine State.dieLanes_congr fun p => ?_
      have hstate : t.regs = (s.waveShown scope skipped).regs := by rw [ht, ← hn]; rfl
      exact congrArg F.CWY_STAT_STATE.get ((congrArg (regGet · _) hstate).trans ((OnlyRegs.waveShown s scope skipped).2 _ (by simp)))
    rw [hmap, hlanes]
  case spanOnly =>
    intro h
    rw [hsent, hspan h]
    exact ⟨rfl, rfl⟩

/-! ### The end of a wave -/

/-- The registers that the end of a wave changes. -/
def waveRegs : List Reg := [.TEL_SNAP_STAT, .TEL_EVT]

/-- TEL_SNAP_STAT and TEL_EVT at the end of a wave. -/
def State.waveEndShown (s : State) (done : Bool) : State :=
  (s.fset .TEL_SNAP_STAT F.TEL_SNAP_STAT_STATE (if done then 2 else 3)).bset .TEL_EVT
    (if done then F.TEL_EVT_DONE else F.TEL_EVT_INCOMPLETE) true

theorem OnlyRegs.waveEndShown (s : State) (done : Bool) : OnlyRegs waveRegs s (s.waveEndShown done) :=
  (OnlyRegs.fset _ _ (by simp [waveRegs])).trans (OnlyRegs.bset _ _ (by simp [waveRegs]))

theorem State.waveEndShown_stat (s : State) (done : Bool) :
    (s.waveEndShown done).fget .TEL_SNAP_STAT F.TEL_SNAP_STAT_STATE = if done then 2 else 3 := by
  rw [State.waveEndShown, State.bset, State.fget_fset_other _ _ _ _ (by decide), State.fget_fset_same _ _ _ _ (by decide)]
  cases done <;> rfl

theorem State.waveEndShown_id (s : State) (done : Bool) : (s.waveEndShown done).waveId = s.waveId := by
  rw [State.waveId, State.waveEndShown, State.bset, State.fget_fset_other _ _ _ _ (by decide),
    State.fget_fset_field _ _ _ _ _ (by decide) (by decide)]
  rfl

theorem State.waveEndShown_missing (s : State) (done : Bool) :
    (s.waveEndShown done).fget .TEL_SNAP_STAT F.TEL_SNAP_STAT_MISSING = s.fget .TEL_SNAP_STAT F.TEL_SNAP_STAT_MISSING := by
  rw [State.waveEndShown, State.bset, State.fget_fset_other _ _ _ _ (by decide),
    State.fget_fset_field _ _ _ _ _ (by decide) (by decide)]

theorem State.waveEndShown_evt (s : State) (done : Bool) :
    (s.waveEndShown done).bget .TEL_EVT (if done then F.TEL_EVT_DONE else F.TEL_EVT_INCOMPLETE) = true := by
  refine State.bget_bset_same _ _ _ _ ?_ ?_ <;> cases done <;> decide

/-- The wave as it ends, before its source is raised. -/
def State.waveOver (s : State) (done : Bool) : State :=
  let s2 := (s.waveEndShown done).waveFlags.latchSums
  { s2 with wave := { s2.wave with running := false, last := s2.waveId } }

theorem State.waveClose_eq (s : State) (done : Bool) : s.waveClose done = (s.waveOver done).raise (if done then 28 else 29) := rfl

/-- `t` is the state with the wave in progress over, but for its source: `done` or INCOMPLETE. -/
structure WaveEnds (done : Bool) (s t : State) : Prop where
  rest : t = { s with
    regs := t.regs, wave := { s.wave with running := false, last := s.waveId, cuts := t.wave.cuts }, shadows := t.shadows }
  regs : RegsKept waveRegs s t
  stat : t.fget .TEL_SNAP_STAT F.TEL_SNAP_STAT_STATE = if done then 2 else 3
  missing : t.fget .TEL_SNAP_STAT F.TEL_SNAP_STAT_MISSING = s.fget .TEL_SNAP_STAT F.TEL_SNAP_STAT_MISSING
  evt : t.bget .TEL_EVT (if done then F.TEL_EVT_DONE else F.TEL_EVT_INCOMPLETE) = true
  shadows : s.wave.scope ≠ 1 → t.shadows = s.shadows
  sums : s.wave.scope = 1 → t.shadows.sums.at s.wave.span = s.spanSums s.wave.span

theorem State.waveFlags_keeps (s : State) : s.waveFlags = { s with wave := { s.wave with cuts := s.waveFlags.wave.cuts } } := rfl

theorem State.latchSums_keeps (s : State) : s.latchSums = { s with shadows := s.latchSums.shadows } := by
  unfold State.latchSums
  split <;> rfl

theorem State.latchSums_other {s : State} (h : s.wave.scope ≠ 1) : s.latchSums = s := if_neg h

/-- The sums of a span depend on the spans, the pipelines, the engines' sites and the shadows alone. -/
theorem State.spanSums_congr {s t : State} (hspans : t.spans = s.spans) (himage : t.image = s.image) (hshadows : t.shadows = s.shadows)
    (hmap : ∀ d r, t.rget (.CDI_MAP d r) = s.rget (.CDI_MAP d r)) : t.spanSums = s.spanSums := by
  have hsite : t.siteOf = s.siteOf := by
    funext e
    simp only [State.siteOf, State.fget, hmap]
  funext i
  simp only [State.spanSums, State.enginesOf, State.leavesOf, State.subtree, State.entryPipes, State.pipesOf, hspans, himage, hshadows, hsite]

theorem State.waveOver_ends (s : State) (done : Bool) : WaveEnds done s (s.waveOver done) := by
  have hshown := OnlyRegs.waveEndShown s done
  have hsums := (s.waveEndShown done).waveFlags.latchSums_keeps
  have hregs : (s.waveOver done).regs = (s.waveEndShown done).regs := by
    rw [State.waveOver, hsums]
    rfl
  have hread (r : Reg) : (s.waveOver done).rget r = (s.waveEndShown done).rget r := congrArg (regGet · r) hregs
  have hid : (s.waveEndShown done).waveFlags.latchSums.waveId = s.waveId := by
    rw [hsums]
    exact s.waveEndShown_id done
  have hwave : (s.waveEndShown done).wave = s.wave := by rw [hshown.1]
  refine ⟨?rest, ?regs, ?stat, ?missing, ?evt, ?shadows, ?sums⟩
  case rest =>
    rw [State.waveOver, hid, hsums, State.waveFlags_keeps, hshown.1]
  case regs => exact fun r hr => (hread r).trans (hshown.2 r hr)
  case stat => exact (congrArg F.TEL_SNAP_STAT_STATE.get (hread _)).trans (s.waveEndShown_stat done)
  case missing => exact (congrArg F.TEL_SNAP_STAT_MISSING.get (hread _)).trans (s.waveEndShown_missing done)
  case evt =>
    have hevt (f : Fld) : (s.waveOver done).bget .TEL_EVT f = (s.waveEndShown done).bget .TEL_EVT f :=
      State.bget_of_rget (hread _) f
    exact (hevt _).trans (s.waveEndShown_evt done)
  case shadows =>
    intro h
    have hscope : (s.waveEndShown done).waveFlags.wave.scope ≠ 1 := by rwa [State.waveFlags_keeps, hwave]
    rw [State.waveOver, State.latchSums_other hscope, State.waveFlags_keeps, hshown.1]
  case sums =>
    intro h
    have hflags : (s.waveEndShown done).waveFlags.wave.scope = 1 ∧ (s.waveEndShown done).waveFlags.wave.span = s.wave.span := by
      rw [State.waveFlags_keeps, hwave]
      exact ⟨h, rfl⟩
    have hlatch : (s.waveOver done).shadows.sums =
        (s.waveEndShown done).waveFlags.shadows.sums.put s.wave.span ((s.waveEndShown done).waveFlags.spanSums s.wave.span) := by
      rw [State.waveOver, State.latchSums, if_pos hflags.1, hflags.2]
    have hsame : (s.waveEndShown done).waveFlags.spanSums = s.spanSums := by
      refine State.spanSums_congr ?_ ?_ ?_ fun d r => hshown.2 _ (by simp [waveRegs]) <;> rw [State.waveFlags_keeps, hshown.1]
    rw [hlatch, Tab.at_put, if_pos rfl, hsame]

theorem waveRegs_disjoint : ∀ r ∈ signalRegs, r ∉ waveRegs := by decide

/-- What a wave that has ended leaves: the state with the wave over, and its source raised. -/
theorem State.waveClose_ends (s : State) (done : Bool) :
    ∃ t, WaveEnds done s t ∧ s.waveClose done = t.raise (if done then 28 else 29) :=
  ⟨_, s.waveOver_ends done, s.waveClose_eq done⟩

/-! ### Starting a wave -/

theorem State.waveDropped_counts (s : State) :
    s.waveDropped.fget .TEL_SNAP_STAT F.TEL_SNAP_STAT_DROPPED =
      min (s.fget .TEL_SNAP_STAT F.TEL_SNAP_STAT_DROPPED + 1) (2 ^ F.TEL_SNAP_STAT_DROPPED.len - 1) :=
  State.fget_cnt_same s _ _ _ (by decide)

theorem OnlyRegs.waveDropped (s : State) : OnlyRegs [.TEL_SNAP_STAT] s s.waveDropped := OnlyRegs.cnt _ _ (by simp)

/-- A wave over some dies begins, and its own part goes on. -/
theorem State.deviceWave_begins {s : State} (scope : Nat) (origin : Option Nat) (devs : List Nat)
    (hdies : s.waveDies scope 0xFFF ≠ []) :
    s.deviceWave scope origin devs = { s.waveBegin scope 0xFFF origin with
      wave := { (s.waveBegin scope 0xFFF origin).wave with devs := devs } } := by
  have hwave := (s.waveBegin_begins scope 0xFFF origin).wave
  unfold State.deviceWave
  refine if_neg ?_
  rw [hwave]
  exact hdies

/-! ### SNAPSHOT_DEVICE and SNAPSHOT_GROUP (R419) -/

section
variable (s : State)

theorem snapshot_while_running (h : s.wave.running = true) :
    ∃ u, exec .snapshotDevice s = .next u ∧ exec .snapshotGroup s = .next u ∧
      u.fget .TEL_SNAP_STAT F.TEL_SNAP_STAT_DROPPED =
        min (s.fget .TEL_SNAP_STAT F.TEL_SNAP_STAT_DROPPED + 1) (2 ^ F.TEL_SNAP_STAT_DROPPED.len - 1) ∧ OnlyRegs [.TEL_SNAP_STAT] s u := by
  refine ⟨_, ?_, ?_, s.waveDropped_counts, OnlyRegs.waveDropped s⟩
  · change execSnapshotDevice s = _
    exact if_pos h
  · change execSnapshotGroup s = _
    exact if_pos (by simp [h])

theorem snapshotGroup_unnumbered (hnum : s.numbered = false) :
    ∃ u, exec .snapshotGroup s = .next u ∧
      u.fget .TEL_SNAP_STAT F.TEL_SNAP_STAT_DROPPED =
        min (s.fget .TEL_SNAP_STAT F.TEL_SNAP_STAT_DROPPED + 1) (2 ^ F.TEL_SNAP_STAT_DROPPED.len - 1) ∧ OnlyRegs [.TEL_SNAP_STAT] s u := by
  refine ⟨_, ?_, s.waveDropped_counts, OnlyRegs.waveDropped s⟩
  change execSnapshotGroup s = _
  exact if_pos (by simp [hnum])

theorem snapshotDevice_begins (h : s.wave.running = false) (hdies : (span 1 11).filter s.waveDie ≠ []) :
    ∃ u, exec .snapshotDevice s = .next u ∧ u.wave.running = true ∧ u.wave.scope = 0 ∧ u.wave.dies = (span 1 11).filter s.waveDie ∧
      u.fget .TEL_SNAP_STAT F.TEL_SNAP_STAT_STATE = 1 ∧
      u.fget .TEL_SNAP_STAT F.TEL_SNAP_STAT_ID = (s.fget .TEL_SNAP_STAT F.TEL_SNAP_STAT_ID + 1) % 65536 ∧
      RegsKept [.TEL_SNAP_STAT, .TEL_SNAP_SKIP] s u ∧
      (∃ l, u.chain.waiting = s.chain.waiting ++ l ∧ l.map (fun x => (x.1, x.2.cls, x.2.lanes)) =
        (((span 1 11).filter s.waveDie).flatMap s.dieLanes).map (fun q => (0, 6, [q]))) ∧
      u = { s with regs := u.regs, wave := u.wave, shadows := u.shadows, chain := u.chain, outbox := u.outbox } := by
  have hbegins := s.waveBegin_begins 0 0xFFF none
  have hwave := hbegins.wave
  refine ⟨s.deviceWave 0 none [], ?run, ?_⟩
  case run =>
    change execSnapshotDevice s = _
    exact if_neg (by simp [h])
  rw [State.deviceWave_begins 0 none [] hdies]
  refine ⟨?running, ?scope, ?dies, hbegins.stat, hbegins.id, hbegins.regs, hbegins.markers, ?rest⟩
  case rest => conv_lhs => rw [hbegins.rest]
  all_goals
    dsimp only
    rw [hwave]
    rfl

/-- The group wave of this device before it begins: its ID, and no device missed (R424). -/
def State.groupWaveReady (s : State) : State :=
  ({ s with wave := { s.wave with seen := some (s.devNum, (s.waveId + 1) % 65536), port := none } }.rset .TEL_GRP_MISS_LO 0).rset
    .TEL_GRP_MISS_HI 0

theorem State.groupWaveReady_regs : RegsKept [.TEL_GRP_MISS_LO, .TEL_GRP_MISS_HI] s s.groupWaveReady :=
  RegsKept.trans (t := { s with wave := { s.wave with seen := some (s.devNum, (s.waveId + 1) % 65536), port := none } })
    (fun _ _ => rfl) ((RegsKept.rset _ (by simp)).trans (RegsKept.rset _ (by simp)))

theorem snapshotGroup_begins (h : s.wave.running = false) (hdies : (span 1 11).filter s.waveDie ≠ []) (hnum : s.numbered = true) :
    ∃ u, exec .snapshotGroup s = .next u ∧ u.wave.running = true ∧ u.wave.scope = 2 ∧
      u.wave.devs = s.devices.filter (fun d => d ≠ s.devNum && !s.lostDevs.contains d) ∧
      u.fget .TEL_SNAP_STAT F.TEL_SNAP_STAT_STATE = 1 ∧ u.rget .TEL_GRP_MISS_LO = 0 ∧ u.rget .TEL_GRP_MISS_HI = 0 ∧
      RegsKept [.TEL_SNAP_STAT, .TEL_SNAP_SKIP, .TEL_GRP_MISS_LO, .TEL_GRP_MISS_HI] s u := by
  have hready := s.groupWaveReady_regs
  have hdies' : s.groupWaveReady.waveDies 2 0xFFF ≠ [] := by
    have hsame : s.groupWaveReady.waveDie = s.waveDie := State.waveDie_congr (hready _ (by simp)) (hready _ (by simp)) rfl
    rwa [State.waveDies, if_neg (by decide : ¬ (2 = 1)), hsame]
  have hbegins := s.groupWaveReady.waveBegin_begins 2 0xFFF none
  have hlo : s.groupWaveReady.rget .TEL_GRP_MISS_LO = 0 := by simp [State.groupWaveReady, State.rget_rset]
  have hhi : s.groupWaveReady.rget .TEL_GRP_MISS_HI = 0 := by simp [State.groupWaveReady]
  have hwave := hbegins.wave
  refine ⟨s.groupWaveReady.deviceWave 2 none (s.devices.filter (fun d => d ≠ s.devNum && !s.lostDevs.contains d)), ?run, ?_⟩
  case run =>
    change execSnapshotGroup s = _
    exact if_neg (by simp [h, hnum])
  rw [State.deviceWave_begins 2 none _ hdies']
  refine ⟨?running, ?kind, rfl, hbegins.stat, (hbegins.regs _ (by simp)).trans hlo, (hbegins.regs _ (by simp)).trans hhi, ?regs⟩
  case regs => exact (hready.mono (by simp)).trans (hbegins.regs.mono (by simp))
  all_goals
    dsimp only
    rw [hwave]
    rfl

end

/-! ### SPAN_SNAPSHOT (R34, R131) -/

section
variable (sp : SpanIx) (s : State) (htops : s.groupTops sp.val = [])
include htops

theorem exec_spanSnapshot : exec (.spanSnapshot sp) s = .next (s.spanSnapshot sp.val) := by
  have hcmd : s.groupCmd sp.val 4 0 0 = s := by rw [State.groupCmd, htops]; rfl
  change execSpanSnapshot sp s = _
  rw [execSpanSnapshot, hcmd]

theorem spanSnapshot_refused (h : (s.spans.at sp.val).st = .empty ∨ (s.spans.at sp.val).st = .loading) :
    ∃ u, exec (.spanSnapshot sp) s = .next u ∧ u.bget .CFG_SPAN_ERR F.CFG_SPAN_ERR_CMD_ERR = true ∧ OnlyRegs [.CFG_SPAN_ERR] s u := by
  refine ⟨s.cmdErr, ?_, State.bget_bset_same _ _ _ _ (by decide) (by decide), OnlyRegs.bset _ _ (by simp)⟩
  rw [exec_spanSnapshot sp s htops, State.spanSnapshot]
  exact congrArg _ (if_pos (h.imp_right .inl))

section
variable (hempty : (s.spans.at sp.val).st ≠ .empty) (hloading : (s.spans.at sp.val).st ≠ .loading) (hunder : s.underLoading sp.val = false)
include hempty hloading hunder

theorem spanSnapshot_idle (hrun : s.wave.running = false) : exec (.spanSnapshot sp) s = .next (s.spanWave sp.val) := by
  rw [exec_spanSnapshot sp s htops]
  simp [State.spanSnapshot, hempty, hloading, hunder, hrun]

theorem spanSnapshot_held (hrun : s.wave.running = true) (hheld : s.wave.held = none) :
    exec (.spanSnapshot sp) s = .next { s with wave := { s.wave with held := some sp.val } } := by
  rw [exec_spanSnapshot sp s htops]
  simp [State.spanSnapshot, hempty, hloading, hunder, hrun, hheld]

theorem spanSnapshot_dropped (hrun : s.wave.running = true) (hheld : s.wave.held ≠ none) :
    exec (.spanSnapshot sp) s = .next s.waveDropped.cmdErr := by
  rw [exec_spanSnapshot sp s htops]
  simp [State.spanSnapshot, hempty, hloading, hunder, hrun, hheld]

theorem spanSnapshot_begins (hrun : s.wave.running = false) (hdies : s.spanDies sp.val ≠ []) :
    ∃ u, exec (.spanSnapshot sp) s = .next u ∧ u.wave.running = true ∧
      u.wave.scope = 1 ∧ u.wave.span = sp.val ∧ u.wave.dies = s.spanDies sp.val ∧
      u.fget .TEL_SNAP_STAT F.TEL_SNAP_STAT_STATE = 1 ∧
      OnlyRegs [.TEL_SNAP_STAT, .TEL_SNAP_SKIP] { s with wave := u.wave, chain := u.chain } u := by
  have hbegins := s.waveBegin_begins 1 sp.val none
  have hwave := hbegins.wave
  obtain ⟨hshadows, houtbox⟩ := hbegins.spanOnly rfl
  have hgoes : s.spanWave sp.val = s.waveBegin 1 sp.val none := by
    unfold State.spanWave
    refine if_neg ?_
    rw [hwave]
    exact hdies
  refine ⟨s.spanWave sp.val, spanSnapshot_idle sp s htops hempty hloading hunder hrun, ?_⟩
  rw [hgoes]
  refine ⟨?running, ?scope, ?span, ?dies, hbegins.stat, ?rest, fun r hr => hbegins.regs r hr⟩
  case rest => rw [← hshadows, ← houtbox]; exact hbegins.rest
  all_goals
    rw [hwave]
    rfl

theorem spanSnapshot_ends (hrun : s.wave.running = false) (hdies : s.spanDies sp.val = []) :
    ∃ u, exec (.spanSnapshot sp) s = .next u ∧ u.wave.running = false ∧
      u.fget .TEL_SNAP_STAT F.TEL_SNAP_STAT_STATE = 2 ∧ Raised 28 s u ∧ u.shadows.sums.at sp.val = (s.spanSums sp.val) := by
  have hbegins := s.waveBegin_begins 1 sp.val none
  have hwave := hbegins.wave
  have hrest := hbegins.rest
  obtain ⟨hshadows, houtbox⟩ := hbegins.spanOnly rfl
  have hgoes : s.spanWave sp.val = (s.waveBegin 1 sp.val none).waveClose true := by
    unfold State.spanWave
    refine if_pos ?_
    rw [hwave]
    exact hdies
  have hscope : (s.waveBegin 1 sp.val none).wave.scope = 1 := by rw [hwave]; rfl
  have hspan : (s.waveBegin 1 sp.val none).wave.span = sp.val := by rw [hwave]; rfl
  have hsums : (s.waveBegin 1 sp.val none).spanSums = s.spanSums := by
    refine State.spanSums_congr ?_ ?_ hshadows fun d r => hbegins.regs _ (by simp) <;> rw [hrest]
  have hicu : (s.waveBegin 1 sp.val none).icu = s.icu := by rw [hrest]
  generalize s.waveBegin 1 sp.val none = b at *
  obtain ⟨t, hends, hclose⟩ := b.waveClose_ends true
  refine ⟨s.spanWave sp.val, spanSnapshot_idle sp s htops hempty hloading hunder hrun, ?_⟩
  rw [hgoes, hclose, if_pos rfl, State.raise_wave, State.raise_shadows, State.raise_fget _ _ (by decide)]
  have hticu : t.icu = s.icu := by rw [hends.rest, ← hicu]
  refine ⟨by rw [hends.rest], hends.stat, ?raised, ?sums⟩
  case raised => exact Raised.of_icu_eq (State.raise_raised t 28) hticu
  case sums => rw [← hspan, hends.sums hscope, hsums]

end
end

/-! ### SNAPSHOT_MARKER (R420, R422, R424) -/

/-- What a copy of the marker changes in the wave that it belongs to: a die latches, and a cut is settled. -/
def MarkerActs (s t : State) : Prop :=
  t = { s with
    wave := { s.wave with latched := t.wave.latched, cuts := t.wave.cuts }
    shadows := t.shadows
    ports := t.ports
    outbox := t.outbox }

namespace MarkerActs

theorem refl (s : State) : MarkerActs s s := rfl

theorem trans {s t u : State} (h : MarkerActs s t) (g : LatchActs t u) : MarkerActs s u := by
  unfold MarkerActs LatchActs at *
  rw [g, h]

theorem dieLatch (s : State) (pos : Nat) :
    MarkerActs s (s.dieLatch pos) ∧ (s.dieLatch pos).wave.latched = s.wave.latched ++ [pos] := by
  have hfirst : MarkerActs s { s with wave := { s.wave with latched := s.wave.latched ++ [pos] } } := rfl
  have hlatch : LatchActs { s with wave := { s.wave with latched := s.wave.latched ++ [pos] } } (s.dieLatch pos) :=
    LatchActs.ite (LatchActs.ite (LatchActs.withShadows _ _) (LatchActs.latchSites _ _))
      ((LatchActs.latchDie _ _).trans (LatchActs.latchEnds _ _))
  refine ⟨hfirst.trans hlatch, ?_⟩
  rw [hlatch]

end MarkerActs

/-- A copy of the marker in the wave that it belongs to, as the commands of this device's wave are: the first copy makes the die latch,
and then the cut of the channel is settled. -/
def State.markerTaken (s : State) (m : Marker) : State :=
  if s.wave.running ∧ m.at_.val ≠ 0 ∧ s.wave.dies.contains m.at_.val ∧ !s.wave.latched.contains m.at_.val ∧ s.waveDie m.at_.val then
    s.dieLatch m.at_.val
  else s

/-- The direction of the channel that a copy of the marker settles. -/
def markerDir (m : Marker) : Nat := if m.chan.val < 78 then (if m.at_.val = 0 then 1 else 0) else 1

/-- Whether a copy of the marker settles a cut. -/
def State.CutOpen (s : State) (m : Marker) : Prop :=
  ¬ (s.wave.scope = 1 ∨ (s.wave.cuts.at (cutKey m.chan.val (markerDir m))).id ≠ s.waveId ∨ (s.wave.cuts.at (cutKey m.chan.val (markerDir m))).marked)

theorem MarkerActs.markerTaken (s : State) (m : Marker) : MarkerActs s (s.markerTaken m) := by
  unfold State.markerTaken
  split
  · exact (MarkerActs.dieLatch s _).1
  · exact .refl s

section
variable {m : Marker} {s : State}

theorem exec_snapshotMarker_elsewhere (h : (s.markerJoin m).markerHere m = false) :
    exec (.snapshotMarker m) s = .next (s.markerJoin m) := by
  change execSnapshotMarker m s = _
  simp only [execSnapshotMarker, h]
  rfl

theorem exec_snapshotMarker_here (h : (s.markerJoin m).markerHere m = true) :
    exec (.snapshotMarker m) s = .next (((s.markerJoin m).markerTaken m)) ∧ ¬ ((s.markerJoin m).markerTaken m).CutOpen m ∨
    exec (.snapshotMarker m) s = .next (((s.markerJoin m).markerTaken m).cutMark m.chan.val (markerDir m) m.sent.toNat) ∧
      ((s.markerJoin m).markerTaken m).CutOpen m := by
  by_cases hcut : ((s.markerJoin m).markerTaken m).CutOpen m
  · refine .inr ⟨?_, hcut⟩
    change execSnapshotMarker m s = _
    unfold execSnapshotMarker
    refine (if_neg (by simp [h])).trans ?_
    exact if_neg hcut
  · refine .inl ⟨?_, hcut⟩
    change execSnapshotMarker m s = _
    unfold execSnapshotMarker
    refine (if_neg (by simp [h])).trans ?_
    exact if_pos (not_not.mp hcut)

/-- In every case a copy of the marker that belongs to the wave makes the die latch, and settles at most a cut. -/
theorem exec_snapshotMarker_acts (h : (s.markerJoin m).markerHere m = true) :
    ∃ u, exec (.snapshotMarker m) s = .next u ∧ LatchActs ((s.markerJoin m).markerTaken m) u := by
  obtain ⟨hexec, -⟩ | ⟨hexec, -⟩ := exec_snapshotMarker_here h
  · exact ⟨_, hexec, LatchActs.refl _⟩
  · exact ⟨_, hexec, LatchActs.cutUpd _ _ _⟩

/-- A marker within the device, or one that came while a wave runs, starts none. -/
theorem State.markerJoin_none (h : m.origin = none ∨ m.chan.val < 78 ∨ s.wave.running = true) : s.markerJoin m = s := by
  unfold State.markerJoin
  cases horigin : m.origin with
  | none => rfl
  | some d => exact if_pos ((h.resolve_left (by simp [horigin])).imp_right .inl)

theorem snapshotMarker_idle (hrun : s.wave.running = false) (horigin : m.origin = none) : exec (.snapshotMarker m) s = .next s := by
  have hjoin : s.markerJoin m = s := State.markerJoin_none (.inl horigin)
  rw [exec_snapshotMarker_elsewhere, hjoin]
  rw [hjoin]
  simp [State.markerHere, hrun, horigin]

theorem snapshotMarker_other (hrun : s.wave.running = true) (hchan : 78 ≤ m.chan.val)
    (horigin : m.origin ≠ s.wave.seen.map (fun x => Fin.ofNat 64 x.1)) : exec (.snapshotMarker m) s = .next s := by
  have hjoin : s.markerJoin m = s := State.markerJoin_none (.inr (.inr hrun))
  rw [exec_snapshotMarker_elsewhere, hjoin]
  rw [hjoin, State.markerHere, if_neg (by omega)]
  cases ho : m.origin with
  | none => rfl
  | some d =>
    have hseen : s.wave.seen ≠ some (d.val, m.id.val) := by
      intro hs
      exact horigin (by simp [ho, hs])
    simpa using hseen

/-- A marker within the device belongs to the wave of its ID. -/
theorem State.markerHere_own (hrun : s.wave.running = true) (hchan : m.chan.val < 78) (hid : m.id.val = s.waveId) :
    (s.markerJoin m).markerHere m = true := by
  rw [State.markerJoin_none (.inr (.inl hchan)), State.markerHere, if_pos hchan]
  simp [hrun, hid]

theorem snapshotMarker_latches (hrun : s.wave.running = true) (hchan : m.chan.val < 78) (hid : m.id.val = s.waveId) (hat : m.at_ ≠ 0)
    (hdie : s.waveDie m.at_.val = true) (hdies : s.wave.dies.contains m.at_.val = true)
    (hlatched : s.wave.latched.contains m.at_.val = false) :
    ∃ u, exec (.snapshotMarker m) s = .next u ∧
      u.wave.latched = s.wave.latched ++ [m.at_.val] ∧ u.wave.running = true ∧ u.regs = s.regs ∧
      u = { s with wave := u.wave, shadows := u.shadows, outbox := u.outbox, ports := u.ports } := by
  have hjoin : s.markerJoin m = s := State.markerJoin_none (.inr (.inl hchan))
  have hpos : m.at_.val ≠ 0 := fun h => hat (Fin.ext h)
  have htaken : s.markerTaken m = s.dieLatch m.at_.val := if_pos ⟨hrun, hpos, hdies, by simp only [hlatched, Bool.not_false], hdie⟩
  obtain ⟨u, hexec, hacts⟩ := exec_snapshotMarker_acts (State.markerHere_own hrun hchan hid)
  rw [hjoin, htaken] at hacts
  obtain ⟨hdie, hlast⟩ := MarkerActs.dieLatch s m.at_.val
  refine ⟨u, hexec, ?latched, ?running, ?regs, ?rest⟩
  case latched => rw [hacts]; exact hlast
  all_goals rw [hdie.trans hacts]
  exact hrun

/-- The state that has seen the group wave of marker `m` of device `d`. -/
def State.waveSeen (s : State) (m : Marker) (d : Nat) : State :=
  { s with wave := { s.wave with seen := some (d, m.id.val), port := some (m.chan.val - 78) } }

theorem snapshotMarker_joins {d : Dev} (hrun : s.wave.running = false) (horigin : m.origin = some d) (hchan : 78 ≤ m.chan.val)
    (hd : d.val ≠ s.devNum) (hseen : s.wave.seen ≠ some (d.val, m.id.val)) (hdies : (span 1 11).filter s.waveDie ≠ []) :
    ∃ u, exec (.snapshotMarker m) s = .next u ∧ u.wave.running = true ∧ u.wave.scope = 2 ∧
      u.wave.origin = some d.val ∧ u.wave.seen = some (d.val, m.id.val) ∧ u.fget .TEL_SNAP_STAT F.TEL_SNAP_STAT_STATE = 1 ∧
      RegsKept [.TEL_SNAP_STAT, .TEL_SNAP_SKIP] s u := by
  have hjoin : s.markerJoin m = (s.waveSeen m d.val).deviceWave 2 (some d.val) [] := by
    unfold State.markerJoin
    rw [horigin]
    exact if_neg (by simp [hrun, hd, hseen]; omega)
  have hbegins := (s.waveSeen m d.val).waveBegin_begins 2 0xFFF (some d.val)
  rw [State.deviceWave_begins (s := s.waveSeen m d.val) 2 (some d.val) [] hdies] at hjoin
  have hwave := hbegins.wave
  have hhere : (s.markerJoin m).markerHere m = true := by
    rw [hjoin, State.markerHere, if_neg (by omega), horigin]
    dsimp only
    rw [hwave]
    simp [WaveUnit.begun, State.waveSeen]
  obtain ⟨u, hexec, hacts⟩ := exec_snapshotMarker_acts hhere
  replace hacts := (MarkerActs.markerTaken (s.markerJoin m) m).trans hacts
  have hregs : RegsKept [.TEL_SNAP_STAT, .TEL_SNAP_SKIP] s (s.markerJoin m) := by
    rw [hjoin]
    exact fun r hr => hbegins.regs r hr
  have hstat : (s.markerJoin m).fget .TEL_SNAP_STAT F.TEL_SNAP_STAT_STATE = 1 := by
    rw [hjoin]
    exact hbegins.stat
  have hjoined : (s.markerJoin m).wave.running = true ∧ (s.markerJoin m).wave.scope = 2 ∧ (s.markerJoin m).wave.origin = some d.val ∧
      (s.markerJoin m).wave.seen = some (d.val, m.id.val) := by
    rw [hjoin]
    dsimp only
    rw [hwave]
    exact ⟨rfl, rfl, rfl, rfl⟩
  obtain ⟨hrun', hscope', horigin', hseen'⟩ := hjoined
  refine ⟨u, hexec, ?_⟩
  generalize s.markerJoin m = b at *
  rw [hacts]
  exact ⟨hrun', hscope', horigin', hseen', hstat, hregs⟩

theorem snapshotMarker_cuts {k : Nat} (hrun : s.wave.running = true) (hscope : s.wave.scope ≠ 1) (hat : m.at_ = 0) (hchan : m.chan.val < 78)
    (hid : m.id.val = s.waveId) (hk : k = cutKey m.chan.val 1) (hcut : (s.wave.cuts.at k).id = s.waveId)
    (hmarked : (s.wave.cuts.at k).marked = false) :
    ∃ u, exec (.snapshotMarker m) s = .next u ∧
      u.wave.cuts.at k = { s.wave.cuts.at k with rcvd := cutMin (s.wave.cuts.at k).rcvd m.sent.toNat, flag := false, marked := true } ∧
      (∀ j, j ≠ k → u.wave.cuts.at j = s.wave.cuts.at j) ∧ u = { s with wave := { s.wave with cuts := u.wave.cuts } } := by
  subst hk
  have hjoin : s.markerJoin m = s := State.markerJoin_none (.inr (.inl hchan))
  have hpos : m.at_.val = 0 := by rw [hat]; rfl
  have htaken : s.markerTaken m = s := if_neg fun h => h.2.1 hpos
  have hdir : (markerDir m) = 1 := by rw [markerDir, if_pos hchan, if_pos hpos]
  have hopen : s.CutOpen m := by
    rw [State.CutOpen, hdir]
    simp [hscope, hcut, hmarked]
  have hexec := exec_snapshotMarker_here (State.markerHere_own hrun hchan hid)
  rw [hjoin, htaken, hdir] at hexec
  obtain ⟨-, hclosed⟩ | ⟨hexec, -⟩ := hexec
  · exact absurd hopen hclosed
  refine ⟨_, hexec, ?cut, ?others, rfl⟩
  case cut => rw [State.cutMark, State.cutUpd, Tab.at_upd, if_pos rfl]
  case others =>
    intro j hj
    rw [State.cutMark, State.cutUpd, Tab.at_upd, if_neg hj]

end

/-! ### The end of a wave by reports and timeouts (R420, R424) -/

theorem State.waveClose_held (s : State) (done : Bool) : (s.waveClose done).wave.held = s.wave.held := by
  obtain ⟨t, hends, hclose⟩ := s.waveClose_ends done
  rw [hclose, State.raise_wave, hends.rest]

/-- A device's own wave closes as its own part ends. -/
theorem State.waveOwnEnd_closes {s : State} (hscope : s.wave.scope ≠ 2) (hheld : s.wave.held = none) :
    s.waveOwnEnd = s.waveClose s.waveWhole := by
  unfold State.waveOwnEnd
  dsimp only
  rw [if_neg hscope]
  have h := (s.waveClose_held s.waveWhole).trans hheld
  split
  next i hi => exact absurd (hi.symm.trans h) (by simp)
  next => rfl

theorem State.waveAnswer_waits {s : State} (d : Nat) (h : s.wave.ended = false) :
    s.waveAnswer d = { s with wave := { s.wave with devs := s.wave.devs.filter (fun x => x ≠ d) } } := by
  unfold State.waveAnswer
  exact if_neg fun hend => absurd (h.symm.trans hend.1) (by decide)

/-- The last answer of a group wave whose own part has ended closes it. -/
theorem State.waveAnswer_closes {s : State} {d : Nat} (hdevs : s.wave.devs = [d]) (hended : s.wave.ended = true) (hheld : s.wave.held = none) :
    s.waveAnswer d = ({ s with wave := { s.wave with devs := [] } } : State).waveClose
      ({ s with wave := { s.wave with devs := [] } } : State).waveWhole := by
  have hnone : s.wave.devs.filter (fun x => x ≠ d) = [] := by simp [hdevs]
  unfold State.waveAnswer
  rw [hnone]
  dsimp only
  rw [if_pos ⟨hended, rfl⟩]
  have h := (State.waveClose_held { s with wave := { s.wave with devs := [] } }
    ({ s with wave := { s.wave with devs := [] } } : State).waveWhole).trans hheld
  split
  next i hi => exact absurd (hi.symm.trans h) (by simp)
  next => rfl

theorem WaveEnds.raise_regs {done : Bool} {s t : State} (h : WaveEnds done s t) (k : Nat) :
    RegsKept (waveRegs ++ signalRegs) s (t.raise k) :=
  (h.regs.mono fun _ hr => List.mem_append_left _ hr).trans ((Signals.raise t k).regsKept (List.subset_append_right _ _))

/-- A die has reported. -/
def State.waveNoted (s : State) (pos : Nat) : State := { s with wave := { s.wave with reported := s.wave.reported ++ [pos] } }

section
variable (p : Fin 20) (s : State)

theorem waveStatusReceive_idle (dev : Option Dev) (h : s.wave.running = false) : exec (.waveStatusReceive p dev) s = .next s := by
  change execWaveStatusReceive p dev s = _
  cases dev <;> simp [execWaveStatusReceive, h]

theorem waveStatusReceive_device (d : Dev) (h : s.wave.running = true) (hd : d.val ∈ s.wave.devs) (hended : s.wave.ended = false) :
    ∃ u, exec (.waveStatusReceive p (some d)) s = .next u ∧ u.wave.devs = s.wave.devs.filter (fun x => x ≠ d.val) ∧
      u = { s with wave := { s.wave with devs := u.wave.devs } } := by
  refine ⟨s.waveAnswer d.val, ?run, ?_⟩
  case run =>
    change execWaveStatusReceive p (some d) s = _
    exact if_pos ⟨h, by simpa using hd⟩
  rw [State.waveAnswer_waits d.val hended]
  exact ⟨rfl, rfl⟩

theorem waveStatusReceive_last (hrun : s.wave.running = true) (hdies : s.wave.dies = [p.val]) (hlatched : s.wave.latched.contains p.val = true)
    (hreported : s.wave.reported = []) (hended : s.wave.ended = false) (hscope : s.wave.scope = 0) (hheld : s.wave.held = none)
    (hwhole : s.waveWhole = true) (hdie : s.waveDie p.val = true) :
    ∃ u, exec (.waveStatusReceive p none) s = .next u ∧ u.wave.running = false ∧ u.fget .TEL_SNAP_STAT F.TEL_SNAP_STAT_STATE = 2 ∧
      u.bget .TEL_EVT F.TEL_EVT_DONE = true ∧ Raised 28 s u ∧ u.wave.last = s.waveId ∧
      RegsKept ([.TEL_SNAP_STAT, .TEL_EVT] ++ signalRegs) s u ∧ u.shadows = s.shadows := by
  have hreport : s.waveReport p.val = (s.waveNoted p.val).waveClose true := by
    change (if (s.waveNoted p.val).wave.dies.all (s.waveNoted p.val).wave.reported.contains then (s.waveNoted p.val).waveOwnEnd
      else s.waveNoted p.val) = _
    rw [if_pos (by simp [State.waveNoted, hreported, hdies]), ← hwhole]
    exact State.waveOwnEnd_closes (s := s.waveNoted p.val) (by simp [State.waveNoted, hscope]) hheld
  obtain ⟨t, hends, hclose⟩ := (s.waveNoted p.val).waveClose_ends true
  refine ⟨t.raise 28, ?run, ?_⟩
  case run =>
    change execWaveStatusReceive p none s = _
    refine (if_pos ⟨hrun, by simp [hdies], hlatched, by simp [hreported], by simp [hended], hdie⟩).trans ?_
    rw [hreport, hclose, if_pos rfl]
  have hicu : t.icu = s.icu := by rw [hends.rest]; rfl
  refine ⟨?running, ?stat, ?evt, ?raised, ?last, fun r hr => hends.raise_regs 28 r hr, ?shadows⟩
  case running => rw [State.raise_wave, hends.rest]
  case stat => exact (t.raise_fget 28 (by decide) _).trans hends.stat
  case evt => exact (t.raise_bget 28 (by decide) _).trans hends.evt
  case raised => exact Raised.of_icu_eq (t.raise_raised 28) hicu
  case last =>
    rw [State.raise_wave, hends.rest]
    rfl
  case shadows => exact (t.raise_shadows 28).trans (hends.shadows (by simp [State.waveNoted, hscope]))

end

section
variable (s : State)

theorem waveTimeout_ignored (h : s.wave.running = false ∨ s.wave.ended = true) : exec .waveTimeout s = .next s := by
  change execWaveTimeout s = _
  refine if_neg ?_
  rcases h with h | h <;> simp [h]

theorem waveTimeout_ends (hrun : s.wave.running = true) (hended : s.wave.ended = false) (hscope : s.wave.scope = 0)
    (hheld : s.wave.held = none) (hmissing : s.fget .TEL_SNAP_STAT F.TEL_SNAP_STAT_MISSING = 0)
    (hdies : s.wave.dies.filter (fun p => !s.wave.reported.contains p) ≠ []) :
    ∃ u, exec .waveTimeout s = .next u ∧ u.wave.running = false ∧ u.fget .TEL_SNAP_STAT F.TEL_SNAP_STAT_STATE = 3 ∧
      u.fget .TEL_SNAP_STAT F.TEL_SNAP_STAT_MISSING = min (s.wave.dies.filter (fun p => !s.wave.reported.contains p)).length
        (2 ^ F.TEL_SNAP_STAT_MISSING.len - 1) ∧ u.bget .TEL_EVT F.TEL_EVT_INCOMPLETE = true ∧ Raised 29 s u ∧
      RegsKept ([.TEL_SNAP_STAT, .TEL_EVT] ++ signalRegs) s u := by
  have hpos := List.length_pos_iff.mpr hdies
  have hcount := State.fget_cnt_same s .TEL_SNAP_STAT F.TEL_SNAP_STAT_MISSING
    (s.wave.dies.filter (fun p => !s.wave.reported.contains p)).length (by decide)
  have hexec : exec .waveTimeout s = .next (s.cnt .TEL_SNAP_STAT F.TEL_SNAP_STAT_MISSING
      (s.wave.dies.filter (fun p => !s.wave.reported.contains p)).length).waveOwnEnd := by
    change execWaveTimeout s = _
    exact if_pos ⟨hrun, by simp [hended]⟩
  generalize (s.wave.dies.filter (fun p => !s.wave.reported.contains p)).length = n at *
  rw [hmissing, Nat.zero_add] at hcount
  have hcnt : OnlyRegs [.TEL_SNAP_STAT] s (s.cnt .TEL_SNAP_STAT F.TEL_SNAP_STAT_MISSING n) := OnlyRegs.cnt _ _ (by simp)
  have hwave : (s.cnt .TEL_SNAP_STAT F.TEL_SNAP_STAT_MISSING n).wave = s.wave := rfl
  generalize s.cnt .TEL_SNAP_STAT F.TEL_SNAP_STAT_MISSING n = b at *
  have hwhole : b.waveWhole = false := by
    have hlen : 1 ≤ 2 ^ F.TEL_SNAP_STAT_MISSING.len - 1 := by decide
    have hne : b.fget .TEL_SNAP_STAT F.TEL_SNAP_STAT_MISSING ≠ 0 := by omega
    rw [State.waveWhole, decide_eq_false hne, Bool.false_and]
  obtain ⟨t, hends, hclose⟩ := b.waveClose_ends false
  rw [State.waveOwnEnd_closes (by rw [hwave, hscope]; decide) (by rw [hwave, hheld]), hwhole, hclose, if_neg Bool.false_ne_true] at hexec
  have hicu : t.icu = s.icu := by rw [hends.rest, hcnt.1]
  refine ⟨_, hexec, ?running, ?stat, ?missing, ?evt, ?raised, ?regs⟩
  case running => rw [State.raise_wave, hends.rest]
  case stat => exact (t.raise_fget 29 (by decide) _).trans hends.stat
  case missing => exact ((t.raise_fget 29 (by decide) _).trans hends.missing).trans hcount
  case evt => exact (t.raise_bget 29 (by decide) _).trans hends.evt
  case raised => exact Raised.of_icu_eq (t.raise_raised 29) hicu
  case regs => exact (hcnt.2.mono (by simp)).trans (hends.raise_regs 29)

theorem groupWaveTimeout_ignored (h : s.wave.running = false ∨ s.wave.devs = []) : exec .groupWaveTimeout s = .next s := by
  change execGroupWaveTimeout s = _
  refine if_neg ?_
  rcases h with h | h <;> simp [h]

theorem groupWaveTimeout_last {d : Nat} (hrun : s.wave.running = true) (hscope : s.wave.scope = 2) (horigin : s.wave.origin = none)
    (hdevs : s.wave.devs = [d]) (hd : d < 32) (hended : s.wave.ended = true) (hheld : s.wave.held = none) :
    ∃ u, exec .groupWaveTimeout s = .next u ∧ u.wave.running = false ∧ u.wave.devs = [] ∧ u.fget .TEL_GRP_MISS_LO ⟨d, 1⟩ = 1 ∧
      u.fget .TEL_SNAP_STAT F.TEL_SNAP_STAT_STATE = 3 ∧ Raised 29 s u ∧
      RegsKept ([.TEL_SNAP_STAT, .TEL_EVT, .TEL_GRP_MISS_LO] ++ signalRegs) s u := by
  have hexec : exec .groupWaveTimeout s = .next ((s.missDev d).waveAnswer d) := by
    change execGroupWaveTimeout s = _
    refine (if_pos ⟨hrun, by simp [hdevs]⟩).trans ?_
    rw [hdevs]
    exact congrArg _ (if_pos ⟨hrun, by simp [hdevs]⟩)
  have hmiss : s.missDev d = s.fset .TEL_GRP_MISS_LO ⟨d, 1⟩ 1 := if_pos hd
  have hbit : (s.missDev d).fget .TEL_GRP_MISS_LO ⟨d, 1⟩ = 1 := by rw [hmiss, State.fget_fset_same _ _ _ _ (by dsimp only; omega)]; rfl
  have hkept : OnlyRegs [.TEL_GRP_MISS_LO] s (s.missDev d) := by
    rw [hmiss]
    exact OnlyRegs.fset _ _ (by simp)
  have hwave : (s.missDev d).wave = s.wave := by rw [hkept.1]
  rw [State.waveAnswer_closes (by rw [hwave, hdevs]) (by rw [hwave, hended]) (by rw [hwave, hheld])] at hexec
  generalize s.missDev d = b at *
  have hwhole : ({ b with wave := { b.wave with devs := [] } } : State).waveWhole = false := by
    have hne : b.rget .TEL_GRP_MISS_LO ≠ 0 := by
      intro h0
      rw [State.fget, h0] at hbit
      simp [Fld.get] at hbit
    have hlo : ({ b with wave := { b.wave with devs := [] } } : State).rget .TEL_GRP_MISS_LO ≠ 0 := hne
    have hscope' : ({ b with wave := { b.wave with devs := [] } } : State).wave.scope = 2 := by rw [hwave, hscope]
    have horigin' : ({ b with wave := { b.wave with devs := [] } } : State).wave.origin = none := by rw [hwave, horigin]
    rw [State.waveWhole, decide_eq_false hlo, decide_eq_false (not_not.mpr hscope'), horigin']
    simp
  obtain ⟨t, hends, hclose⟩ := State.waveClose_ends { b with wave := { b.wave with devs := [] } } false
  rw [hwhole, hclose, if_neg Bool.false_ne_true] at hexec
  have hicu : t.icu = s.icu := by rw [hends.rest, hkept.1]
  have hreg : t.fget .TEL_GRP_MISS_LO ⟨d, 1⟩ = b.fget .TEL_GRP_MISS_LO ⟨d, 1⟩ := hends.regs.fget (by decide) _
  refine ⟨_, hexec, ?running, ?devs, ?miss, ?stat, ?raised, ?regs⟩
  case running => rw [State.raise_wave, hends.rest]
  case devs => rw [State.raise_wave, hends.rest]
  case miss => rw [t.raise_fget 29 (by decide), hreg, hbit]
  case stat => exact (t.raise_fget 29 (by decide) _).trans hends.stat
  case raised => exact Raised.of_icu_eq (t.raise_raised 29) hicu
  case regs => exact (hkept.2.mono (by simp)).trans ((hends.raise_regs 29).mono (by simp +contextual [waveRegs]))

end

/-- Settles O47, command by command: a wave that begins, the marker at a die and at a cut, and the ends by reports and timeouts. -/
theorem snapshotWavesComplete : Obligations.SnapshotWavesComplete := by
  unfold Obligations.SnapshotWavesComplete
  refine ⟨fun s => ⟨snapshot_while_running s, fun hrun hdies => ⟨snapshotDevice_begins s hrun hdies, snapshotGroup_begins s hrun hdies⟩,
      fun _ hnum => snapshotGroup_unnumbered s hnum⟩, ?span, ?marker, ?status, ?idle, ?device, ?timeout, ?group⟩
  case span =>
    intro sp s htops
    refine ⟨spanSnapshot_refused sp s htops, fun hempty hloading hunder => ⟨?begins, ?ends, ?held, ?dropped⟩⟩
    case begins => exact fun hrun hdies => spanSnapshot_begins sp s htops hempty hloading hunder hrun hdies
    case ends => exact fun hrun hdies => spanSnapshot_ends sp s htops hempty hloading hunder hrun hdies
    case held => exact fun hrun hheld => ⟨_, spanSnapshot_held sp s htops hempty hloading hunder hrun hheld, rfl⟩
    case dropped =>
      intro hrun hheld
      refine ⟨_, spanSnapshot_dropped sp s htops hempty hloading hunder hrun hheld, ?err, ?count, ?regs⟩
      case err => exact State.bget_bset_same _ _ _ _ (by decide) (by decide)
      case count => exact (State.fget_fset_other _ _ _ _ (by decide)).trans s.waveDropped_counts
      case regs => exact ((OnlyRegs.waveDropped s).mono (by simp)).trans (OnlyRegs.bset _ _ (by simp))
  case marker =>
    refine fun m s => ⟨snapshotMarker_idle, ?latches, ?joins, snapshotMarker_other, ?cuts⟩
    case latches => exact fun hrun _ hchan hid hat => snapshotMarker_latches hrun hchan hid hat
    case joins => exact fun d => snapshotMarker_joins
    case cuts => exact fun k => snapshotMarker_cuts
  case status => exact waveStatusReceive_last
  case idle => exact fun p d s => waveStatusReceive_idle p s d
  case device => exact fun p d s => waveStatusReceive_device p s d
  case timeout => exact fun s => ⟨waveTimeout_ignored s, waveTimeout_ends s⟩
  case group => exact fun s => ⟨groupWaveTimeout_ignored s, fun d => groupWaveTimeout_last s⟩

end Sys2Proof.Machine

namespace Sys2Proof.Machine

/-! PROOFS. The group of devices (O34; R330, R334 to R339): discovery, numbering and routes; links and devices that are lost. -/

/-! ### What the check of the DEGRADED flags changes -/

/-- `t` is `s` but for the DEGRADED flags of spans, their events, and what raising sources changes. -/
structure FlagActs (s t : State) : Prop where
  rest : t = { s with
    regs := t.regs
    icu := t.icu
    fns := t.fns
    grp := { s.grp with entries := t.grp.entries }
    ldp := { s.ldp with released := t.ldp.released }
    spans := t.spans
    rings := t.rings
    outbox := t.outbox }
  regs : RegsKept signalRegs s t

namespace FlagActs

theorem refl (s : State) : FlagActs s s := ⟨rfl, RegsKept.refl _ s⟩

theorem trans {s t u : State} (h : FlagActs s t) (g : FlagActs t u) : FlagActs s u := by
  refine ⟨?_, h.regs.trans g.regs⟩
  rw [g.rest, h.rest]

theorem ite {c : Prop} [Decidable c] {s a b : State} (ha : FlagActs s a) (hb : FlagActs s b) : FlagActs s (if c then a else b) := by
  split
  · exact ha
  · exact hb

theorem of_signals {s t : State} (h : Signals s t) : FlagActs s t := ⟨by rw [h.1], h.2⟩

theorem spanEvent (s : State) (i ev : Nat) : FlagActs s (s.spanEvent i ev) := by
  have hrings (x : Tab EvRing) : FlagActs s { s with rings := x } := ⟨rfl, fun _ _ => rfl⟩
  exact FlagActs.ite ((hrings _).trans (of_signals (Signals.setLine _ _ _))) (hrings _)

theorem degradeCheck (s : State) : FlagActs s s.degradeCheck := by
  refine List.foldlRecOn (motive := fun t => FlagActs s t) _ _ (refl s) fun t ht i _ => ht.trans ?_
  have hspan (f : SpanEnt → SpanEnt) : FlagActs t (t.spanUpd i f) := ⟨rfl, fun _ _ => rfl⟩
  exact ite (refl t) ((hspan _).trans (spanEvent _ _ _))

end FlagActs

/-- `t` is `s` but for the DEGRADED flags of the group and of spans. -/
structure LinkFlagActs (s t : State) : Prop where
  rest : t = { s with
    regs := t.regs
    icu := t.icu
    fns := t.fns
    grp := { s.grp with entries := t.grp.entries }
    ldp := { s.ldp with released := t.ldp.released }
    spans := t.spans
    rings := t.rings
    outbox := t.outbox }
  regs : RegsKept (.LNK_GRP :: signalRegs) s t
  grp : ∀ f : Fld, F.LNK_GRP_DEGRADED.lo + F.LNK_GRP_DEGRADED.len ≤ f.lo ∨ f.lo + f.len ≤ F.LNK_GRP_DEGRADED.lo →
    t.fget .LNK_GRP f = s.fget .LNK_GRP f

theorem State.linkDegraded_acts (s : State) : LinkFlagActs s s.linkDegraded := by
  unfold State.linkDegraded
  dsimp only
  split
  · exact ⟨rfl, RegsKept.refl _ s, fun _ _ => rfl⟩
  · have hflags := FlagActs.degradeCheck (s.bset .LNK_GRP F.LNK_GRP_DEGRADED (s.grp.links.any (fun l => !l.up)))
    refine ⟨?rest, ?regs, ?grp⟩
    case rest => rw [hflags.rest]; rfl
    case regs => exact (RegsKept.bset _ _ (by simp)).trans (hflags.regs.mono fun _ h => List.mem_cons_of_mem _ h)
    case grp =>
      intro f hf
      exact (hflags.regs.fget (by decide) f).trans (State.fget_fset_field _ _ _ _ _ (by decide) hf.symm)

/-! ### HELLO_RECEIVE (R330, R334, R335) -/

section
variable (p : Port) (serial : Word) (d : Dev) (pp : Port) (b : Bool) (tier : Fin 4) (ft : Fin 256) (gen : Fin 65536) (s : State)

theorem State.portRefused_refuses (s : State) (q reason : Nat) (h : reason < 16) :
    (s.portRefused q reason).portState q = 7 ∧ (s.portRefused q reason).fget (pstatReg q) F.LNK_PSTAT_REASON = reason ∧
      (s.portRefused q reason).bget (levtReg q) F.LNK_EVT_REFUSED = true ∧ LinkActs [] s (s.portRefused q reason) := by
  refine ⟨?state, ?reason, State.portEvt_bget _ _ (by decide) (by decide), (LinkActs.portDown _ _ _ _ _).trans (LinkActs.portEvt _ _ _)⟩
  case state => exact (State.portEvt_pstat _ _ _ _ _).trans (State.portDown_portState _ _ _ _ _ (by decide))
  case reason => exact (State.portEvt_pstat _ _ _ _ _).trans (State.portDown_reason _ _ _ _ _ h)

theorem exec_helloReceive_off (h3 : s.portState p.val ≠ 3) (h4 : s.portState p.val ≠ 4) :
    exec (.helloReceive p serial d pp b tier ft gen) s = .next s := by
  change execHelloReceive p serial d pp b tier ft gen s = _
  exact if_pos ⟨h3, h4⟩

theorem exec_helloReceive_loopback (hstate : s.portState p.val = 3 ∨ s.portState p.val = 4) (hserial : serial.toNat = s.fuses.serial % 2 ^ 32) :
    ∃ u, exec (.helloReceive p serial d pp b tier ft gen) s = .next u ∧ u.portState p.val = 7 ∧
      u.fget (pstatReg p.val) F.LNK_PSTAT_REASON = 4 ∧ u.bget (levtReg p.val) F.LNK_EVT_REFUSED = true ∧ LinkActs [] s u := by
  obtain ⟨hoff, hreason, hevt, hacts⟩ := (s.entryFreed p.val).portRefused_refuses p.val 4 (by decide)
  have hon : ¬ ((s.entryFreed p.val).portState p.val ≠ 3 ∧ (s.entryFreed p.val).portState p.val ≠ 4) := by
    rintro ⟨h3, h4⟩
    exact hstate.elim h3 h4
  refine ⟨_, ?_, hoff, hreason, hevt, (LinkKeeps.portUpd s _ _).linkActs.trans hacts⟩
  change execHelloReceive p serial d pp b tier ft gen s = _
  exact (if_neg hon).trans (if_pos hserial)

/-- The peer of a port in CHECK noted. -/
def State.peerNoted (s : State) (q d port : Nat) (f : PortUnit → PortUnit) : State :=
  ((s.fset (pstatReg q) F.LNK_PSTAT_PEER_DEV d).fset (pstatReg q) F.LNK_PSTAT_PEER_PORT port).portUpd q f

theorem OnlyRegs.peerFields (s : State) (q d port : Nat) : OnlyRegs [pstatReg q] s
    ((s.fset (pstatReg q) F.LNK_PSTAT_PEER_DEV d).fset (pstatReg q) F.LNK_PSTAT_PEER_PORT port) :=
  (OnlyRegs.fset _ _ (by simp)).trans (OnlyRegs.fset _ _ (by simp))

/-- The port after its peer is noted. -/
theorem State.peerNoted_notes (s : State) (q d port : Nat) (f : PortUnit → PortUnit) (hd : d < 64) (hport : port < 16) :
    (s.peerNoted q d port f).fget (pstatReg q) F.LNK_PSTAT_PEER_DEV = d ∧
      (s.peerNoted q d port f).fget (pstatReg q) F.LNK_PSTAT_PEER_PORT = port ∧
      (s.peerNoted q d port f).portState q = s.portState q ∧ (s.peerNoted q d port f).ports.at q = f (s.ports.at q) ∧
      RegsKept [pstatReg q] s (s.peerNoted q d port f) ∧
      s.peerNoted q d port f = { s with regs := (s.peerNoted q d port f).regs, ports := (s.peerNoted q d port f).ports } := by
  have hread (g : Fld) : (s.peerNoted q d port f).fget (pstatReg q) g =
      ((s.fset (pstatReg q) F.LNK_PSTAT_PEER_DEV d).fset (pstatReg q) F.LNK_PSTAT_PEER_PORT port).fget (pstatReg q) g := rfl
  refine ⟨?dev, ?port, ?state, Tab.at_upd_same _ _ _, (OnlyRegs.peerFields s q d port).2, rfl⟩
  case dev =>
    rw [hread, State.fget_fset_field _ _ _ _ _ (by decide) (by decide), State.fget_fset_same _ _ _ _ (by decide)]
    exact Nat.mod_eq_of_lt hd
  case port =>
    rw [hread, State.fget_fset_same _ _ _ _ (by decide)]
    exact Nat.mod_eq_of_lt hport
  case state =>
    rw [State.portState, hread, State.fget_fset_field _ _ _ _ _ (by decide) (by decide),
      State.fget_fset_field _ _ _ _ _ (by decide) (by decide)]
    rfl

theorem exec_helloReceive_noted (hstate : s.portState p.val = 3) (hserial : serial.toNat ≠ s.fuses.serial % 2 ^ 32)
    (hbridge : b = false ∨ s.bridgeEn = false) :
    ∃ u, exec (.helloReceive p serial d pp b tier ft gen) s = .next u ∧
      u.fget (pstatReg p.val) F.LNK_PSTAT_PEER_DEV = d.val ∧ u.fget (pstatReg p.val) F.LNK_PSTAT_PEER_PORT = pp.val ∧
      (u.ports.at p.val).hello = true ∧ (u.ports.at p.val).peer = serial.toNat ∧ u.portState p.val = 3 ∧
      RegsKept [pstatReg p.val] s u ∧ u = { s with regs := u.regs, ports := u.ports, devs := u.devs } := by
  have hon : ¬ ((s.entryFreed p.val).portState p.val ≠ 3 ∧ (s.entryFreed p.val).portState p.val ≠ 4) := fun h => h.1 hstate
  have hone : ¬ (b = true ∧ (s.entryFreed p.val).bridgeEn = true) := by
    rintro ⟨rfl, hb⟩
    rcases hbridge with h | h
    · cases h
    · exact absurd (hb.symm.trans h) (by decide)
  have hrun : ¬ ((s.entryFreed p.val).portState p.val = 4 ∧ (s.entryFreed p.val).numbered = true) := by
    rintro ⟨h4, -⟩
    exact absurd (h4.symm.trans hstate) (by decide)
  have hother : ¬ serial.toNat = (s.entryFreed p.val).fuses.serial % 2 ^ 32 := hserial
  obtain ⟨devs, hexec⟩ : ∃ devs : Tab DevUnit, exec (.helloReceive p serial d pp b tier ft gen) s =
      .next { (s.entryFreed p.val).peerNoted p.val d.val pp.val
        (fun u => { u with hello := true, peer := serial.toNat, tier := tier.val, feature := ft.val }) with devs := devs } := by
    have hnoted : exec (.helloReceive p serial d pp b tier ft gen) s =
        .next (if (((s.entryFreed p.val).devs.at d.val).present && decide (((s.entryFreed p.val).devs.at d.val).serial = serial.toNat)) = true then
            ((s.entryFreed p.val).peerNoted p.val d.val pp.val
              (fun u => { u with hello := true, peer := serial.toNat, tier := tier.val, feature := ft.val })).devUpd d.val
                (fun d => { d with tier := tier.val, feature := ft.val })
          else (s.entryFreed p.val).peerNoted p.val d.val pp.val
            (fun u => { u with hello := true, peer := serial.toNat, tier := tier.val, feature := ft.val })) :=
      (if_neg hon).trans ((if_neg hother).trans ((if_neg hone).trans (if_neg hrun)))
    rw [hnoted]
    split
    · exact ⟨_, rfl⟩
    · exact ⟨_, rfl⟩
  obtain ⟨hdev, hport, hst, hat, hregs, hrest⟩ := (s.entryFreed p.val).peerNoted_notes p.val d.val pp.val
    (fun u => { u with hello := true, peer := serial.toNat, tier := tier.val, feature := ft.val }) d.isLt pp.isLt
  generalize (s.entryFreed p.val).peerNoted p.val d.val pp.val
    (fun u => { u with hello := true, peer := serial.toNat, tier := tier.val, feature := ft.val }) = a at *
  refine ⟨{ a with devs := devs }, hexec, hdev, hport, ?hello, ?peer, hst.trans hstate, hregs, ?rest⟩
  case rest => conv_lhs => rw [hrest, State.entryFreed, State.portUpd]
  all_goals
    dsimp only
    rw [hat]

end

/-! ### Discovery and numbering (R334) -/

section
variable (s : State)

theorem LinkActs.numberPeer (s : State) (l : LinkRec) : LinkActs [] s (s.numberPeer l) := by
  unfold State.numberPeer
  extract_lets u serial
  split
  · exact LinkActs.ite (s.portRefused_refuses _ 6 (by decide)).2.2.2 (refl s)
  next n _ =>
    have hnamed (f : DevUnit → DevUnit) (g : GroupUnit → GroupUnit) : LinkActs [] s ((s.devUpd n f).grpUpd g) :=
      ((LinkKeeps.devUpd s _ _).trans (LinkKeeps.grpUpd _ _)).linkActs
    have hcounted (c : Prop) [Decidable c] (f : DevUnit → DevUnit) (g : GroupUnit → GroupUnit) (v : Nat) :
        LinkActs [] s (if c then (s.devUpd n f).grpUpd g else ((s.devUpd n f).grpUpd g).fset .LNK_GRP F.LNK_GRP_NDEV v) :=
      LinkActs.ite (hnamed f g) ((hnamed f g).trans (fset _ _ _ (by decide)))
    have htick (t : State) : LinkActs [] t t.tick := ⟨rfl, fun _ _ => rfl⟩
    exact LinkActs.ite (((hcounted _ _ _ _).trans (fset _ _ _ (List.mem_append_right _ (pstatReg_mem_linkRegs _)))).trans
      (LinkKeeps.emit _ _).linkActs) (((hcounted _ _ _ _).trans (htick _)).trans (TableActs.entryOut _ _).linkActs)

theorem exec_discoveryEnd_idle (h : s.fget .LNK_GRP F.LNK_GRP_STATE ≠ 1) : exec .discoveryEnd s = .next s := by
  change execDiscoveryEnd s = _
  exact if_pos h

theorem exec_discoveryEnd_ready (h : s.fget .LNK_GRP F.LNK_GRP_STATE = 1) :
    ∃ u, exec .discoveryEnd s = .next u ∧ u.fget .LNK_GRP F.LNK_GRP_STATE = 2 ∧ 1 ≤ (u.icu.src.at 336).count ∧ LinkActs [] s u := by
  have hfound : LinkActs [] s (if s.bridgeEn then (s.unnumberedLinks.foldl State.numberPeer s).newTables else s) := by
    refine LinkActs.ite (LinkActs.trans ?_ (TableActs.newTables _).linkActs) (LinkActs.refl s)
    exact List.foldlRecOn (motive := fun t => LinkActs [] s t) _ _ (LinkActs.refl s) fun t ht l _ => ht.trans (LinkActs.numberPeer t l)
  have hexec : exec .discoveryEnd s = .next ((((if s.bridgeEn then (s.unnumberedLinks.foldl State.numberPeer s).newTables else s).fset
      .LNK_GRP F.LNK_GRP_STATE 2).raise 336).sendHeld (fun s _ => !s.bridgeEn)) := by
    change execDiscoveryEnd s = _
    exact if_neg (not_not.mpr h)
  generalize (if s.bridgeEn then (s.unnumberedLinks.foldl State.numberPeer s).newTables else s) = a at hfound hexec
  have hsend := TableActs.sendHeld ((a.fset .LNK_GRP F.LNK_GRP_STATE 2).raise 336) (fun s _ => !s.bridgeEn)
  refine ⟨_, hexec, ?state, ?count, ?acts⟩
  case state =>
    rw [(Signals.sendHeld _ _).fget _ (by decide), State.raise_fget _ _ (by decide), State.fget_fset_same _ _ _ _ (by decide)]
    rfl
  case count => exact (State.raise_count_pos _ 336).trans (hsend.events.count 336)
  case acts => exact ((hfound.trans (LinkActs.fset a _ _ (by decide))).trans (LinkKeeps.raise _ 336).linkActs).trans hsend.linkActs

end

section
variable (serial : Word) (d level : Dev) (gen : Fin 65536) (s : State)

/-- The number of this device taken: LNK_GRP discovers, and both it and device 0 are present. -/
def State.numberTaken (s : State) (d level : Nat) : State :=
  let s1 := (((s.fset .LNK_GRP F.LNK_GRP_DEVNUM d).fset .LNK_GRP F.LNK_GRP_STATE 1).devUpd d (fun x => { x with
    present := true, level := level, serial := s.fuses.serial })).devUpd 0 (fun x => { x with present := true })
  s1.fset .LNK_GRP F.LNK_GRP_NDEV s1.devices.length

/-- The report of a port in RUN to the neighbour and to device 0. -/
def State.portReported (s : State) (q : Nat) : State :=
  if s.portState q = 4 then (s.emit (.entry q (s.helloEntry q))).reportPort q true else s

/-- What a device that is not device 0 keeps while it reports its ports: its number, and the devices. -/
structure Reports (s t : State) : Prop where
  acts : LinkActs [] s t
  bridge : t.bridgeEn = false
  devs : t.devs = s.devs
  grp : ∀ f : Fld, F.LNK_GRP_DEGRADED.lo + F.LNK_GRP_DEGRADED.len ≤ f.lo ∨ f.lo + f.len ≤ F.LNK_GRP_DEGRADED.lo →
    t.fget .LNK_GRP f = s.fget .LNK_GRP f

theorem State.recordLink_grp (s : State) (d p : Nat) (up : Bool) (peer peerPort : Nat) {f : Fld}
    (h : F.LNK_GRP_DEGRADED.lo + F.LNK_GRP_DEGRADED.len ≤ f.lo ∨ f.lo + f.len ≤ F.LNK_GRP_DEGRADED.lo) :
    (s.recordLink d p up peer peerPort).fget .LNK_GRP f = s.fget .LNK_GRP f := by
  unfold State.recordLink
  dsimp only
  rw [(State.linkDegraded_acts _).grp f h]
  split
  · rfl
  · split <;> rfl

theorem State.reportPort_reports {s : State} (hbridge : s.bridgeEn = false) (q : Nat) (up : Bool) : Reports s (s.reportPort q up) := by
  have hacts := (LinkKeeps.reportPort s q up).linkActs (p := [])
  refine ⟨hacts, by rw [hacts.1, hbridge], ?devs, fun f hf => ?grp⟩ <;> unfold State.reportPort <;> simp only [hbridge, Bool.false_eq_true, if_false]
  case devs =>
    split
    · exact State.recordLink_devs _ _ _ _ _ _
    · rfl
  case grp =>
    split
    · exact State.recordLink_grp _ _ _ _ _ _ hf
    · rfl

theorem State.portReported_reports {s : State} (hbridge : s.bridgeEn = false) (q : Nat) : Reports s (s.portReported q) := by
  unfold State.portReported
  split
  · obtain ⟨hacts, hb, hdevs, hgrp⟩ := State.reportPort_reports (s := s.emit (.entry q (s.helloEntry q))) hbridge q true
    exact ⟨(LinkKeeps.emit s _).linkActs.trans hacts, hb, hdevs, hgrp⟩
  · exact ⟨LinkActs.refl s, hbridge, rfl, fun _ _ => rfl⟩

theorem exec_enumReceive_own (hserial : serial.toNat = s.fuses.serial % 2 ^ 32) (hbridge : s.bridgeEn = false) :
    ∃ u, exec (.enumReceive serial d level gen) s = .next u ∧
      u.fget .LNK_GRP F.LNK_GRP_DEVNUM = d.val ∧ u.fget .LNK_GRP F.LNK_GRP_STATE = 1 ∧ (u.devs.at d.val).present = true ∧
      (d ≠ 0 → (u.devs.at d.val).level = level.val) ∧ LinkActs [] s u := by
  have hexec : exec (.enumReceive serial d level gen) s =
      .next ((List.range 16).foldl State.portReported (s.numberTaken d.val level.val)) := by
    change execEnumReceive serial d level gen s = _
    exact if_pos ⟨hserial, by simp [hbridge]⟩
  have hnum : (s.numberTaken d.val level.val).fget .LNK_GRP F.LNK_GRP_DEVNUM = d.val := by
    refine (State.fget_fset_field _ _ F.LNK_GRP_NDEV _ _ (by decide) (by decide)).trans ?_
    refine (State.fget_fset_field (s.fset _ _ _) _ F.LNK_GRP_STATE _ _ (by decide) (by decide)).trans ?_
    exact (State.fget_fset_same _ _ _ _ (by decide)).trans (Nat.mod_eq_of_lt d.isLt)
  have hstate : (s.numberTaken d.val level.val).fget .LNK_GRP F.LNK_GRP_STATE = 1 := by
    refine (State.fget_fset_field _ _ F.LNK_GRP_NDEV _ _ (by decide) (by decide)).trans ?_
    exact State.fget_fset_same (s.fset _ _ _) _ _ _ (by decide)
  have htaken : LinkActs [] s (s.numberTaken d.val level.val) :=
    ((((LinkActs.fset s _ _ (by decide)).trans (LinkActs.fset _ _ _ (by decide))).trans (LinkKeeps.devUpd _ _ _).linkActs).trans
      (LinkKeeps.devUpd _ _ _).linkActs).trans (LinkActs.fset _ _ _ (by decide))
  have hdevs : (s.numberTaken d.val level.val).devs = (s.devs.upd d.val (fun x => { x with
      present := true, level := level.val, serial := s.fuses.serial })).upd 0 (fun x => { x with present := true }) := rfl
  have hb : (s.numberTaken d.val level.val).bridgeEn = false := hbridge
  generalize s.numberTaken d.val level.val = a at *
  have hreports : Reports a ((List.range 16).foldl State.portReported a) := by
    refine List.foldlRecOn (motive := fun t => Reports a t) _ _ ⟨LinkActs.refl a, hb, rfl, fun _ _ => rfl⟩ fun t ht q _ => ?_
    obtain ⟨hacts, hbt, hdevs, hgrp⟩ := State.portReported_reports ht.bridge q
    exact ⟨ht.acts.trans hacts, hbt, hdevs.trans ht.devs, fun f hf => (hgrp f hf).trans (ht.grp f hf)⟩
  refine ⟨_, hexec, (hreports.grp _ (by decide)).trans hnum, (hreports.grp _ (by decide)).trans hstate, ?present, ?level,
    htaken.trans hreports.acts⟩
  case present =>
    rw [hreports.devs, hdevs, Tab.at_upd]
    split
    · rfl
    · rw [Tab.at_upd_same]
  case level =>
    intro hd
    have hne : d.val ≠ 0 := fun h => hd (Fin.ext h)
    rw [hreports.devs, hdevs, Tab.at_upd, if_neg hne, Tab.at_upd_same]

theorem exec_enumReceive_unknown (hserial : serial.toNat ≠ s.fuses.serial % 2 ^ 32)
    (hfind : (List.range 16).find? (fun q => s.portState q = 4 && (s.ports.at q).peer = serial.toNat) = none) :
    exec (.enumReceive serial d level gen) s = .next s := by
  change execEnumReceive serial d level gen s = _
  unfold execEnumReceive
  rw [if_neg (fun h => hserial h.1), hfind]

theorem exec_enumReceive_forwards {q : Nat} (hserial : serial.toNat ≠ s.fuses.serial % 2 ^ 32)
    (hfind : (List.range 16).find? (fun q => s.portState q = 4 && (s.ports.at q).peer = serial.toNat) = some q) :
    ∃ u e, exec (.enumReceive serial d level gen) s = .next u ∧ u.outbox = .entry q e :: s.outbox ∧ e.kind = 3 ∧
      e.words.head? = some serial ∧ u = { s with outbox := u.outbox } := by
  refine ⟨s.emit (.entry q ⟨3, false, 0, 0, false, [serial, wordOf (d.val + level.val * 64), wordOf gen.val, 0, 0]⟩),
    ⟨3, false, 0, 0, false, [serial, wordOf (d.val + level.val * 64), wordOf gen.val, 0, 0]⟩, ?_, rfl, rfl, rfl, rfl⟩
  change execEnumReceive serial d level gen s = _
  unfold execEnumReceive
  rw [if_neg (fun h => hserial h.1), hfind]

end

/-! ### RESCAN (R334, R351) -/

theorem State.foldl_devUpd_default (l : List Nat) (s : State) (d : Nat) :
    (l.foldl (fun (s : State) d => s.devUpd d (fun _ => default)) s).devs.at d = if d ∈ l then default else s.devs.at d := by
  induction l generalizing s with
  | nil => simp
  | cons x l ih =>
    rw [List.foldl_cons, ih, State.devUpd, Tab.at_upd]
    by_cases hl : d ∈ l
    · simp [hl]
    · by_cases hx : d = x <;> simp [hl, hx]

/-- The numbers of LOST devices free again, with their links forgotten. -/
def State.lostForgotten (s : State) : State :=
  ({ s.lostDevs.foldl (fun (s : State) d => s.devUpd d (fun _ => default)) s with lostDevs := [] } : State).grpUpd
    (fun g => { g with links := g.links.filter (fun l => !s.lostDevs.contains l.a && !s.lostDevs.contains l.b) })

theorem LinkActs.lostForgotten (s : State) : LinkActs [] s s.lostForgotten := by
  have hgone := (LinkKeeps.foldl (f := fun (s : State) d => s.devUpd d (fun _ => default)) (fun s _ => LinkKeeps.devUpd s _ _) s.lostDevs s).linkActs
    (p := [])
  have hnone (t : State) : LinkActs [] t { t with lostDevs := [] } := ⟨rfl, fun _ _ => rfl⟩
  exact (hgone.trans (hnone _)).trans (LinkKeeps.grpUpd _ _).linkActs

section
variable (s : State)

theorem exec_rescan_ignored (h : s.bridgeEn = false ∨ s.fget .LNK_GRP F.LNK_GRP_STATE ≠ 2) : exec .rescan s = .next s := by
  change execRescan s = _
  refine if_neg ?_
  rintro ⟨hb, hst⟩
  rcases h with h | h
  · exact absurd (hb.symm.trans h) (by decide)
  · exact h hst

theorem exec_rescan_discovers (hbridge : s.bridgeEn = true) (hstate : s.fget .LNK_GRP F.LNK_GRP_STATE = 2) :
    ∃ u, exec .rescan s = .next u ∧
      u.fget .LNK_GRP F.LNK_GRP_STATE = 1 ∧ u.lostDevs = [] ∧ (∀ d ∈ s.lostDevs, u.devs.at d = default) ∧
      (∀ d, d ∉ s.lostDevs → u.devs.at d = s.devs.at d) ∧ LinkActs [] s u := by
  have hexec : exec .rescan s = .next (((s.lostForgotten.fset .LNK_GRP F.LNK_GRP_NDEV s.lostForgotten.devices.length).fset
      .LNK_GRP F.LNK_GRP_STATE 1).linkDegraded) := by
    change execRescan s = _
    exact if_pos ⟨hbridge, hstate⟩
  have hdevs (d : Nat) : s.lostForgotten.devs.at d = if d ∈ s.lostDevs then default else s.devs.at d := State.foldl_devUpd_default s.lostDevs s d
  have hlost : s.lostForgotten.lostDevs = [] := rfl
  have hacts := LinkActs.lostForgotten s
  generalize s.lostForgotten = a at *
  have hflags := ((a.fset .LNK_GRP F.LNK_GRP_NDEV a.devices.length).fset .LNK_GRP F.LNK_GRP_STATE 1).linkDegraded_acts
  have hlast := (TableActs.linkDegraded ((a.fset .LNK_GRP F.LNK_GRP_NDEV a.devices.length).fset .LNK_GRP F.LNK_GRP_STATE 1)).linkActs (p := [])
  refine ⟨_, hexec, ?state, ?lost, ?gone, ?kept, ((hacts.trans (LinkActs.fset _ _ _ (by decide))).trans (LinkActs.fset _ _ _ (by decide))).trans hlast⟩
  case state =>
    rw [hflags.grp _ (by decide), State.fget_fset_same _ _ _ _ (by decide)]
    rfl
  case lost =>
    rw [hflags.rest]
    exact hlost
  case gone =>
    intro d hd
    rw [hflags.rest]
    exact (hdevs d).trans (if_pos hd)
  case kept =>
    intro d hd
    rw [hflags.rest]
    exact (hdevs d).trans (if_neg hd)

/-! ### ROUTE_RECEIVE (R336, R337) -/

/-- What comes after the routes of a table leaves the devices, the generation and the entries that arrive. -/
structure RouteEnd (s t : State) : Prop where
  devs : t.devs = s.devs
  gen : t.rget .LNK_GEN = s.rget .LNK_GEN
  arriving : t.grp.arriving = s.grp.arriving

namespace RouteEnd

theorem refl (s : State) : RouteEnd s s := ⟨rfl, rfl, rfl⟩

theorem trans {s t u : State} (h : RouteEnd s t) (g : RouteEnd t u) : RouteEnd s u :=
  ⟨g.devs.trans h.devs, g.gen.trans h.gen, g.arriving.trans h.arriving⟩

theorem of_signals {s t : State} (h : Signals s t) : RouteEnd s t := ⟨h.devs, h.rget (by decide), by rw [h.1]⟩

theorem unmarkLost (s : State) (d : Nat) : RouteEnd s (s.unmarkLost d) := by
  unfold State.unmarkLost
  split
  · have hflags := FlagActs.degradeCheck { s with lostDevs := s.lostDevs.filter (fun x => x ≠ d) }
    have hchecked : RouteEnd s ({ s with lostDevs := s.lostDevs.filter (fun x => x ≠ d) } : State).degradeCheck :=
      ⟨by rw [hflags.rest], hflags.regs _ (by decide), by rw [hflags.rest]⟩
    exact hchecked.trans (of_signals (Signals.raise _ 338))
  · exact refl s

theorem routesBack (s : State) (l : List RouteTo) : RouteEnd s (s.routesBack l) := by
  refine List.foldlRecOn (motive := fun t => RouteEnd s t) l _ (refl s) fun t ht r _ => ht.trans ?_
  split
  · exact unmarkLost t _
  · exact refl t

theorem isolationOver (s : State) : RouteEnd s s.isolationOver := by
  unfold State.isolationOver
  split
  · have hset : RouteEnd s (s.fset .LNK_GRP F.LNK_GRP_STATE 2) := ⟨rfl, State.rget_fset_other _ _ _ (by decide), rfl⟩
    exact (hset.trans (of_signals (Signals.raise _ 338))).trans (of_signals (Signals.sendHeld _ _))
  · exact refl s

end RouteEnd

theorem State.tableNoted_notes (gen : Nat) :
    (s.tableNoted gen).devs = s.devs ∧ (s.tableNoted gen).fget .LNK_GEN F.LNK_GEN_GEN = gen % 65536 ∧ (s.tableNoted gen).grp.arriving = [] ∧
      1 ≤ ((s.tableNoted gen).icu.src.at 337).count := by
  refine ⟨State.raise_devs _ _, ?gen, ?arriving, State.raise_count_pos _ _⟩
  case gen =>
    rw [State.tableNoted, State.raise_fget _ _ (by decide)]
    exact State.fget_fset_same _ _ _ _ (by decide)
  case arriving =>
    rw [State.tableNoted, (Signals.raise _ 337).1]
    rfl

/-- The routes of one entry adopted. -/
theorem State.adoptRoute_devs (r : RouteTo) : (s.adoptRoute r).devs =
    s.devs.upd r.dest (fun d => { d with present := true, hops := r.hops, up := r.up, dn := r.dn }) := by
  unfold State.adoptRoute
  dsimp only
  split <;> rfl

/-- A table of one entry adopted whole. -/
theorem State.adoptTable_one (gen : Nat) (r : RouteTo) :
    (s.adoptTable gen [r]).devs = s.devs.upd r.dest (fun d => { d with present := true, hops := r.hops, up := r.up, dn := r.dn }) ∧
      (s.adoptTable gen [r]).fget .LNK_GEN F.LNK_GEN_GEN = gen % 65536 ∧ (s.adoptTable gen [r]).grp.arriving = [] ∧
      1 ≤ ((s.adoptTable gen [r]).icu.src.at 337).count := by
  rw [State.adoptTable_eq, List.foldl_cons, List.foldl_nil]
  have hroute := s.adoptRoute_devs r
  obtain ⟨hdevs, hgen, harr, hcount⟩ := (s.adoptRoute r).tableNoted_notes gen
  generalize (s.adoptRoute r).tableNoted gen = b at *
  have hend := (RouteEnd.routesBack b [r]).trans (RouteEnd.isolationOver _)
  have hevents := ((TableActs.routesBack b [r]).trans (TableActs.isolationOver _)).events
  exact ⟨hend.devs.trans (hdevs.trans hroute), (State.fget_of_rget hend.gen _).trans hgen, hend.arriving.trans harr,
    hcount.trans (hevents.count 337)⟩

section
variable (dest hops : Dev) (up dn gen : Fin 65536)

/-- The entry as it stands in the table. -/
def routeOf : RouteTo := ⟨dest.val, hops.val, up.val, dn.val⟩

theorem exec_routeReceive_entry :
    ∃ u, exec (.routeReceive dest hops up dn gen false) s = .next u ∧ u.grp.gen = gen.val ∧
      ⟨dest.val, hops.val, up.val, dn.val⟩ ∈ u.grp.arriving ∧ u.devs = s.devs ∧
      u = { s with grp := { s.grp with gen := u.grp.gen, arriving := u.grp.arriving } } :=
  ⟨_, rfl, rfl, List.mem_append_right _ (List.mem_singleton_self _), rfl, rfl⟩

theorem exec_routeReceive_last (harriving : s.grp.arriving = []) :
    ∃ u, exec (.routeReceive dest hops up dn gen true) s = .next u ∧
      u.fget .LNK_GEN F.LNK_GEN_GEN = gen.val ∧ (u.devs.at dest.val).present = true ∧ (u.devs.at dest.val).up = up.val ∧
      (u.devs.at dest.val).dn = dn.val ∧ (u.devs.at dest.val).hops = hops.val ∧
      (∀ d, d ≠ dest.val → u.devs.at d = s.devs.at d) ∧ u.grp.arriving = [] ∧ 1 ≤ (u.icu.src.at 337).count ∧ LinkActs [] s u := by
  have hexec : exec (.routeReceive dest hops up dn gen true) s =
      .next (((s.grpUpd (fun g => { g with gen := gen.val, arriving := [routeOf dest hops up dn] })).adoptTable gen.val
        [routeOf dest hops up dn]).fset .LNK_GRP F.LNK_GRP_NDEV
        ((s.grpUpd (fun g => { g with gen := gen.val, arriving := [routeOf dest hops up dn] })).adoptTable gen.val
          [routeOf dest hops up dn]).devices.length) := by
    change execRouteReceive dest hops up dn gen true s = _
    simp only [execRouteReceive, harriving, List.filter_nil, ite_self, List.nil_append, if_true, routeOf]
  have hdevs0 : (s.grpUpd (fun g => { g with gen := gen.val, arriving := [routeOf dest hops up dn] })).devs = s.devs := rfl
  have hacts0 : LinkActs [] s (s.grpUpd (fun g => { g with gen := gen.val, arriving := [routeOf dest hops up dn] })) :=
    (LinkKeeps.grpUpd _ _).linkActs
  generalize s.grpUpd (fun g => { g with gen := gen.val, arriving := [routeOf dest hops up dn] }) = a at *
  have hadopt := (TableActs.adoptTable a gen.val [routeOf dest hops up dn]).linkActs (p := [])
  obtain ⟨hdevs, hgen, harr, hcount⟩ := a.adoptTable_one gen.val (routeOf dest hops up dn)
  rw [hdevs0] at hdevs
  generalize a.adoptTable gen.val [routeOf dest hops up dn] = b at *
  have hat : b.devs.at dest.val = { s.devs.at dest.val with present := true, hops := hops.val, up := up.val, dn := dn.val } := by
    rw [hdevs]
    exact Tab.at_upd_same _ _ _
  refine ⟨_, hexec, ?generation, ?present, ?upset, ?dnset, ?length, ?others, harr, hcount, (hacts0.trans hadopt).trans (LinkActs.fset b _ _ (by decide))⟩
  case generation =>
    rw [State.fget_fset_other _ _ _ _ (by decide), hgen]
    exact Nat.mod_eq_of_lt gen.isLt
  case others =>
    intro d hd
    change b.devs.at d = _
    rw [hdevs, Tab.at_upd]
    exact if_neg hd
  case present => exact congrArg DevUnit.present hat
  case upset => exact congrArg DevUnit.up hat
  case dnset => exact congrArg DevUnit.dn hat
  case length => exact congrArg DevUnit.hops hat

end
end

theorem groupIsDiscovered : GroupIsDiscovered := by
  unfold GroupIsDiscovered
  refine ⟨?hello, ?discovery, ?enum, ?rescan, ?route⟩
  case hello =>
    exact fun p serial d pp b tier ft gen s => ⟨exec_helloReceive_off p serial d pp b tier ft gen s,
      exec_helloReceive_loopback p serial d pp b tier ft gen s, exec_helloReceive_noted p serial d pp b tier ft gen s⟩
  case discovery => exact fun s => ⟨exec_discoveryEnd_idle s, exec_discoveryEnd_ready s⟩
  case enum =>
    exact fun serial d level gen s => ⟨exec_enumReceive_own serial d level gen s, exec_enumReceive_unknown serial d level gen s,
      fun q => exec_enumReceive_forwards serial d level gen s⟩
  case rescan => exact fun s => ⟨exec_rescan_ignored s, exec_rescan_discovers s⟩
  case route =>
    exact fun dest hops up dn gen s => ⟨exec_routeReceive_entry s dest hops up dn gen, exec_routeReceive_last s dest hops up dn gen⟩

/-! ### LINKSTATE_RECEIVE (R338, R339) -/

section
variable (s : State)

theorem State.linkDegraded_links : s.linkDegraded.grp.links = s.grp.links := (TableActs.linkDegraded s).links

theorem State.recordLink_up (d p peer peerPort : Nat) : ⟨d, p, peer, peerPort, true⟩ ∈ (s.recordLink d p true peer peerPort).grp.links := by
  unfold State.recordLink
  dsimp only
  rw [if_pos rfl, State.linkDegraded_links]
  exact List.mem_append_right _ (List.mem_singleton_self _)

theorem State.recordLink_down (d p peer peerPort : Nat) :
    (∀ l ∈ (s.recordLink d p false peer peerPort).grp.links, l.at_ d p = true → l.up = false) ∧
      (s.recordLink d p false peer peerPort).grp.links.length = s.grp.links.length := by
  unfold State.recordLink
  dsimp only
  rw [if_neg Bool.false_ne_true, State.linkDegraded_links]
  split
  next hknown =>
    constructor
    · intro l hl hat
      obtain ⟨k, -, rfl⟩ := List.mem_map.mp hl
      split
      · rfl
      next hnot => exact absurd (by simpa only [if_neg hnot] using hat) hnot
    · exact List.length_map _
  next hknown =>
    refine ⟨fun l hl hat => ?_, rfl⟩
    exact absurd (List.any_eq_true.mpr ⟨l, hl, hat⟩) hknown

/-- After its link is recorded, a report changes tables alone. -/
theorem exec_linkstateReceive (d peer : Dev) (p pp : Port) (gen : Fin 65536) (up : Bool) :
    ∃ u, exec (.linkstateReceive d p up peer pp gen) s = .next u ∧
      TableActs (s.recordLink d.val p.val up (if (s.devs.at peer.val).present = true then peer.val else 64) pp.val) u := by
  generalize hn : (if (s.devs.at peer.val).present = true then peer.val else 64) = n
  have hexec : exec (.linkstateReceive d p up peer pp gen) s =
      if s.bridgeEn then .next (if up ∧ n = 64 ∧ s.fget .LNK_GRP F.LNK_GRP_STATE = 2 then
          (s.recordLink d.val p.val up n pp.val).newTables.fset .LNK_GRP F.LNK_GRP_STATE 1
        else (s.recordLink d.val p.val up n pp.val).newTables)
      else .next (s.recordLink d.val p.val up n pp.val) := by
    subst hn
    rfl
  rw [hexec]
  split
  · refine ⟨_, rfl, TableActs.ite ((TableActs.newTables _).trans (TableActs.fset _ _ _ (by decide))) (TableActs.newTables _)⟩
  · exact ⟨_, rfl, TableActs.refl _⟩

end

/-! ### Devices that are lost (R339) -/

/-- The devices of the group, those lost, and the fuses are as they were. -/
structure DevsKept (s t : State) : Prop where
  devs : t.devs = s.devs
  lost : t.lostDevs = s.lostDevs
  fuses : t.fuses = s.fuses

namespace DevsKept

theorem refl (s : State) : DevsKept s s := ⟨rfl, rfl, rfl⟩

theorem trans {s t u : State} (h : DevsKept s t) (g : DevsKept t u) : DevsKept s u :=
  ⟨g.devs.trans h.devs, g.lost.trans h.lost, g.fuses.trans h.fuses⟩

theorem of_modeActs {p : List Reg} {s t : State} (h : ModeActs p s t) : DevsKept s t := by
  constructor <;> rw [h.rest]

theorem of_flagActs {s t : State} (h : FlagActs s t) : DevsKept s t := by
  constructor <;> rw [h.rest]

theorem of_memoryActs {s t : State} (h : MemoryActs s t) : DevsKept s t := by
  constructor <;> rw [h.rest]

theorem of_signals {s t : State} (h : Signals s t) : DevsKept s t := of_flagActs (FlagActs.of_signals h)

theorem modeAbort (s : State) (k : Nat) : DevsKept s (s.modeAbort k) := by
  cases hmode : s.mode with
  | none =>
    rw [State.modeAbort, hmode]
    exact refl s
  | some c =>
    by_cases hphase : c.phase = 1
    · have hshown := ModeActs.shown s c k (c.answerOf k)
      have hcommit (t : State) : DevsKept t (t.commitShow c 3) := by
        unfold State.commitShow
        split <;> exact ⟨rfl, rfl, rfl⟩
      have hunstage (t : State) : DevsKept t t.unstage := ⟨rfl, rfl, rfl⟩
      rw [State.modeAbort_eq hmode hphase]
      exact (((of_modeActs hshown).trans (hcommit _)).trans (hunstage _)).trans (of_signals (Signals.raise _ 17))
    · rw [State.modeAbort, hmode]
      dsimp only
      rw [if_neg hphase]
      exact refl s

theorem modeAbsent (s : State) (u : MUnit) : DevsKept s (s.modeAbsent u) := by
  unfold State.modeAbsent
  split
  · split
    · exact refl s
    · split
      · exact modeAbort s 3
      · split
        · exact of_modeActs ((ModeActs.withMode _ _).trans (ModeActs.modeFinish _))
        · exact refl s
  · exact refl s

theorem waveClose (s : State) (done : Bool) : DevsKept s (s.waveClose done) := by
  obtain ⟨t, hends, hclose⟩ := s.waveClose_ends done
  rw [hclose]
  refine DevsKept.trans ?_ (of_signals (Signals.raise t _))
  constructor <;> rw [hends.rest]

theorem spanWave (s : State) (sp : Nat) : DevsKept s (s.spanWave sp) := by
  have hbegins := s.waveBegin_begins 1 sp none
  have hkept : DevsKept s (s.waveBegin 1 sp none) := by constructor <;> rw [hbegins.rest]
  unfold State.spanWave
  dsimp only
  split
  · exact hkept.trans (waveClose _ _)
  · exact hkept

theorem waveAnswer (s : State) (d : Nat) : DevsKept s (s.waveAnswer d) := by
  have hwave (t : State) (w : WaveUnit) : DevsKept t { t with wave := w } := ⟨rfl, rfl, rfl⟩
  unfold State.waveAnswer
  dsimp only
  split
  · split
    · exact (((hwave s _).trans (waveClose _ _)).trans (hwave _ _)).trans (spanWave _ _)
    · exact (hwave s _).trans (waveClose _ _)
  · exact hwave s _

theorem waveLost (s : State) (d : Nat) : DevsKept s (s.waveLost d) := by
  have hmiss : DevsKept s (s.missDev d) := by
    unfold State.missDev
    split <;> exact ⟨rfl, rfl, rfl⟩
  unfold State.waveLost
  split
  · exact hmiss.trans (waveAnswer _ _)
  · exact refl s

theorem markLost {s : State} {d : Nat} (h : d ∉ s.lostDevs) : DevsKept { s with lostDevs := s.lostDevs ++ [d] } (s.markLost d) := by
  have habsent (t : State) (hit : List Nat) (f : State → Nat → SpanEnt → SpanEnt) :
      DevsKept t (hit.foldl (fun (s : State) i => s.spanUpd i (f s i)) t) :=
    List.foldlRecOn (motive := fun u => DevsKept t u) hit _ (refl t) fun u hu i _ => hu.trans ⟨rfl, rfl, rfl⟩
  unfold State.markLost
  rw [if_neg (by simpa using h)]
  dsimp only
  exact ((((habsent _ _ _).trans (modeAbsent _ _)).trans (of_flagActs (FlagActs.degradeCheck _))).trans
    (of_signals (Signals.raise _ 338))).trans (of_memoryActs (MemoryActs.settle _))

end DevsKept

section
variable (d : Dev) (s : State)

/-- A device marked LOST, in the group and in the wave in progress. -/
theorem State.lost_keeps : ((s.markLost d.val).waveLost d.val).devs = s.devs ∧ ((s.markLost d.val).waveLost d.val).fuses = s.fuses ∧
    ((s.markLost d.val).waveLost d.val).lostDevs = if d.val ∈ s.lostDevs then s.lostDevs else s.lostDevs ++ [d.val] := by
  by_cases h : d.val ∈ s.lostDevs
  · have hmark : s.markLost d.val = s := if_pos (by simpa using h)
    obtain ⟨hdevs, hlost, hfuses⟩ := DevsKept.waveLost s d.val
    rw [hmark, if_pos h]
    exact ⟨hdevs, hfuses, hlost⟩
  · obtain ⟨hdevs, hlost, hfuses⟩ := (DevsKept.markLost h).trans (DevsKept.waveLost _ d.val)
    rw [if_neg h]
    exact ⟨hdevs, hfuses, hlost⟩

theorem exec_lostReceive_own (gen : Fin 65536) (iso : Bool) (h : d.val = s.devNum) : exec (.lostReceive d iso gen) s = .next s := by
  change execLostReceive d iso gen s = _
  exact if_pos h

theorem exec_lostReceive_other (gen : Fin 65536) (iso : Bool) (h : d.val ≠ s.devNum) :
    ∃ u, exec (.lostReceive d iso gen) s = .next u ∧ d.val ∈ u.lostDevs ∧
      (∀ x, x ≠ d.val → (x ∈ u.lostDevs ↔ x ∈ s.lostDevs)) ∧ u.devs = s.devs ∧ u.fuses = s.fuses := by
  obtain ⟨hdevs, hfuses, hlost⟩ := State.lost_keeps d s
  refine ⟨(s.markLost d.val).waveLost d.val, if_neg h, ?member, ?others, hdevs, hfuses⟩
  case member =>
    rw [hlost]
    split
    · assumption
    · simp
  case others =>
    intro x hx
    rw [hlost]
    split <;> simp [hx]

theorem exec_deviceLost_elsewhere (h : s.bridgeEn = false) : exec (.deviceLost d) s = .next s := by
  change execDeviceLost d s = _
  exact if_neg fun hl => absurd (hl.1.symm.trans h) (by decide)

/-- The announcement of a lost device, to each device (R339). -/
def State.lostAnnounced (s : State) (d : Nat) (l : List Nat) : State :=
  l.foldl (fun (s : State) x => s.entryOut { kind := 6, urg := false, src := 0, dst := Fin.ofNat 64 x, bcast := false
                                             words := [wordOf d, wordOf (s.fget .LNK_GEN F.LNK_GEN_GEN), 0, 0, 0] }) s

theorem State.lostAnnounced_keeps (n : Nat) (l : List Nat) : DevsKept s (s.lostAnnounced n l) :=
  List.foldlRecOn (motive := fun t => DevsKept s t) l _ (.refl s) fun _ ht _ _ => ht.trans ⟨rfl, rfl, rfl⟩

theorem State.lostAnnounced_mono (n : Nat) (l : List Nat) {e : Entry} (h : e ∈ s.grp.entries) : e ∈ (s.lostAnnounced n l).grp.entries :=
  List.foldlRecOn (motive := fun t : State => e ∈ t.grp.entries) l _ h fun _ ht _ _ => List.mem_append_left _ ht

theorem State.lostAnnounced_entry (n : Nat) {l : List Nat} {x : Nat} (hx : x ∈ l) :
    ∃ e ∈ (s.lostAnnounced n l).grp.entries, e.kind = 6 ∧ e.dst = Fin.ofNat 64 x ∧ e.words.head? = some (wordOf n) := by
  induction l generalizing s with
  | nil => cases hx
  | cons y l ih =>
    have hstep : s.lostAnnounced n (y :: l) = (s.entryOut { kind := 6, urg := false, src := 0, dst := Fin.ofNat 64 y, bcast := false
                                                            words := [wordOf n, wordOf (s.fget .LNK_GEN F.LNK_GEN_GEN), 0, 0, 0] }).lostAnnounced n l := rfl
    rw [hstep]
    rcases List.mem_cons.mp hx with rfl | hx
    · exact ⟨_, State.lostAnnounced_mono _ _ _ (List.mem_append_right _ (List.mem_singleton_self _)), rfl, rfl, rfl⟩
    · exact ih _ hx

theorem exec_deviceLost_announced (hbridge : s.bridgeEn = true) (hd : d ≠ 0) (hpresent : (s.devs.at d.val).present = true)
    (hup : (s.devs.at d.val).up = 0) (hlost : d.val ∉ s.lostDevs) :
    ∃ u, exec (.deviceLost d) s = .next u ∧ d.val ∈ u.lostDevs ∧ u.devs = s.devs ∧ u.fuses = s.fuses ∧
      ∀ x : Dev, x ≠ 0 → x ≠ d → (s.devs.at x.val).present = true → x.val ∉ s.lostDevs →
        ∃ e ∈ u.grp.entries, e.kind = 6 ∧ e.dst = x ∧ e.words.head? = some (wordOf d.val) := by
  have hexec : exec (.deviceLost d) s = .next (((s.markLost d.val).waveLost d.val).lostAnnounced d.val
      (((s.markLost d.val).waveLost d.val).devices.filter
        (fun x => x ≠ 0 && x ≠ d.val && !((s.markLost d.val).waveLost d.val).lostDevs.contains x))) := by
    change execDeviceLost d s = _
    exact if_pos ⟨hbridge, fun h => hd (Fin.ext h), hpresent, hup, by simpa using hlost⟩
  obtain ⟨hdevs, hfuses, hnow⟩ := State.lost_keeps d s
  rw [if_neg hlost] at hnow
  generalize (s.markLost d.val).waveLost d.val = a at *
  obtain ⟨hdevs', hlost', hfuses'⟩ := a.lostAnnounced_keeps d.val
    (a.devices.filter (fun x => x ≠ 0 && x ≠ d.val && !a.lostDevs.contains x))
  refine ⟨_, hexec, ?member, hdevs'.trans hdevs, hfuses'.trans hfuses, ?told⟩
  case member =>
    rw [hlost', hnow]
    exact List.mem_append_right _ (List.mem_singleton_self _)
  case told =>
    intro x hx0 hxd hxp hxl
    have hx : x.val ∈ a.devices.filter (fun x => x ≠ 0 && x ≠ d.val && !a.lostDevs.contains x) := by
      have h0 : x.val ≠ 0 := fun h => hx0 (Fin.ext h)
      have hne : x.val ≠ d.val := fun h => hxd (Fin.ext h)
      simp [State.devices, hdevs, hnow, hxp, hxl, h0, hne]
    obtain ⟨e, he, hkind, hdst, hwords⟩ := a.lostAnnounced_entry d.val hx
    exact ⟨e, he, hkind, hdst.trans (Fin.ext (Nat.mod_eq_of_lt x.isLt)), hwords⟩

theorem exec_deviceIsolated_ignored (h : s.bridgeEn = true ∨ s.fget .LNK_GRP F.LNK_GRP_STATE ≠ 2 ∨ (s.devs.at 0).up ≠ 0) :
    exec .deviceIsolated s = .next s := by
  change execDeviceIsolated s = _
  refine if_neg ?_
  rintro ⟨hb, hst, hu⟩
  rcases h with h | h | h
  · exact hb h
  · exact h hst
  · exact h hu

theorem exec_deviceIsolated_isolated (hbridge : s.bridgeEn = false) (hstate : s.fget .LNK_GRP F.LNK_GRP_STATE = 2) (hup : (s.devs.at 0).up = 0) :
    ∃ u, exec .deviceIsolated s = .next u ∧
      u.fget .LNK_GRP F.LNK_GRP_STATE = 4 ∧ Raised 338 s u ∧ Signals (s.fset .LNK_GRP F.LNK_GRP_STATE 4) u := by
  refine ⟨(s.fset .LNK_GRP F.LNK_GRP_STATE 4).raise 338, if_pos ⟨by simp [hbridge], hstate, hup⟩, ?state, ?raised, Signals.raise _ 338⟩
  case state => exact (State.raise_fget _ _ (by decide) _).trans (State.fget_fset_same _ _ _ _ (by decide))
  case raised => exact (State.raise_raised _ 338).of_counts_eq rfl rfl

end

theorem linksAndDevicesAreLost : LinksAndDevicesAreLost := by
  unfold LinksAndDevicesAreLost
  refine ⟨?linkstate, ?lost, ?announced, fun s => ⟨exec_deviceIsolated_ignored s, exec_deviceIsolated_isolated s⟩⟩
  case linkstate =>
    intro d peer p pp gen s
    constructor
    · obtain ⟨u, hexec, hacts⟩ := exec_linkstateReceive s d peer p pp gen true
      refine ⟨u, hexec, ?_, (LinkKeeps.recordLink _ _ _ _ _ _).linkActs.trans hacts.linkActs⟩
      rw [hacts.links]
      exact s.recordLink_up _ _ _ _
    · obtain ⟨u, hexec, hacts⟩ := exec_linkstateReceive s d peer p pp gen false
      obtain ⟨hdown, hlength⟩ := s.recordLink_down d.val p.val (if (s.devs.at peer.val).present = true then peer.val else 64) pp.val
      rw [← hacts.links] at hdown hlength
      exact ⟨u, hexec, hdown, hlength, (LinkKeeps.recordLink _ _ _ _ _ _).linkActs.trans hacts.linkActs⟩
  case lost => exact fun d iso gen s => ⟨exec_lostReceive_own d s gen iso, exec_lostReceive_other d s gen iso⟩
  case announced => exact fun d s => ⟨exec_deviceLost_elsewhere d s, exec_deviceLost_announced d s⟩

/-- Settles O34, by the two parts of the statement. -/
theorem theGroupFormsAndLosesDevices : Obligations.TheGroupFormsAndLosesDevices := ⟨groupIsDiscovered, linksAndDevicesAreLost⟩

end Sys2Proof.Machine

namespace Sys2Proof.Machine

/-! PROOFS. The voltage loop and the throttle steps (O42; R357, R358, R360, R362, R363, R376). -/

/-- Setting a field leaves every field of another register, and those of the register that it has no bit in common with. -/
theorem State.fget_fset_apart (s : State) {r q : Reg} {f g : Fld} (v : Nat) (hf : f.lo + f.len ≤ 32)
    (h : q ≠ r ∨ g.lo + g.len ≤ f.lo ∨ f.lo + f.len ≤ g.lo) : (s.fset r f v).fget q g = s.fget q g := by
  by_cases hq : q = r
  · subst hq
    exact State.fget_fset_field _ _ _ _ _ hf (h.resolve_left (not_not.mpr rfl))
  · exact State.fget_fset_other _ _ _ _ hq

/-! ### The fields of a half (R357, R358) -/

/-- Field `g` of register `q` has no bit in common with field `f` of half `h`. -/
def HalfApart (h : Nat) (f : Nat → Fld) (q : Reg) (g : Fld) : Prop :=
  q ≠ .CLK_HALF (halfDie h) ∨ g.lo + g.len ≤ (f h).lo ∨ (f h).lo + (f h).len ≤ g.lo

section
variable (s : State) (h : Nat)

theorem rampFld_fits : (rampFld h).lo + (rampFld h).len ≤ 32 := by simp only [rampFld]; omega
theorem appliedFld_fits : (appliedFld h).lo + (appliedFld h).len ≤ 32 := by simp only [appliedFld]; omega
theorem avsFld_fits : (avsFld h).lo + (avsFld h).len ≤ 32 := by simp only [avsFld]; omega

theorem State.halfGet_halfSet_same {f : Nat → Fld} (v : Nat) (hf : (f h).lo + (f h).len ≤ 32) :
    (s.halfSet h f v).halfGet h f = v % 2 ^ (f h).len := State.fget_fset_same _ _ _ _ hf

theorem State.fget_halfSet_apart {f : Nat → Fld} (v : Nat) (hf : (f h).lo + (f h).len ≤ 32) {q : Reg} {g : Fld} (hg : HalfApart h f q g) :
    (s.halfSet h f v).fget q g = s.fget q g := State.fget_fset_apart _ _ hf hg

theorem OnlyRegs.halfSet (f : Nat → Fld) (v : Nat) : OnlyRegs [.CLK_HALF (halfDie h)] s (s.halfSet h f v) := OnlyRegs.fset _ _ (by simp)

theorem State.fget_halfUpdate_apart {q : Reg} {g : Fld} (hg : HalfApart h rampFld q g) : (s.halfUpdate h).fget q g = s.fget q g := by
  unfold State.halfUpdate
  dsimp only
  split
  · rfl
  · split <;> exact State.fget_halfSet_apart _ _ _ (rampFld_fits h) hg

theorem OnlyRegs.halfUpdate : OnlyRegs [.CLK_HALF (halfDie h)] s (s.halfUpdate h) := by
  unfold State.halfUpdate
  dsimp only
  split
  · exact OnlyRegs.refl _ s
  · split <;> exact OnlyRegs.halfSet _ _ _ _

/-- A half that has the step it wants has no ramp. -/
theorem State.halfUpdate_still (hwant : s.halfGet h appliedFld ≤ s.halfWant h) (hramp : s.halfGet h rampFld = 0) :
    (s.halfUpdate h).halfGet h rampFld = 0 := by
  unfold State.halfUpdate
  dsimp only
  split
  · exact hramp
  · rw [if_neg (by omega), State.halfGet_halfSet_same _ _ _ (rampFld_fits h)]
    exact Nat.zero_mod _

theorem HalfApart.halves {f : Nat → Fld} {k h : Nat} (hk : k % 2 ≠ h % 2) (hf : ∃ b w, ∀ i, f i = ⟨b + w * (i % 2), w⟩) :
    HalfApart h f (.CLK_HALF (halfDie k)) (f k) := by
  obtain ⟨b, w, hf⟩ := hf
  rw [HalfApart, hf, hf]
  refine .inr ?_
  dsimp only
  have hcases : (k % 2 = 0 ∧ h % 2 = 1) ∨ (k % 2 = 1 ∧ h % 2 = 0) := by omega
  rcases hcases with ⟨h0, h1⟩ | ⟨h0, h1⟩ <;> rw [h0, h1] <;> omega

/-- What a half wants is told by the four requests alone. -/
theorem State.halfWant_congr {s t : State} {h : Nat} (hpm : t.halfGet h pmFld = s.halfGet h pmFld) (hthm : t.halfGet h thmFld = s.halfGet h thmFld)
    (havs : t.halfGet h avsFld = s.halfGet h avsFld)
    (hmax : t.fget (.CLK_MAX (halfDie h)) (appliedFld h) = s.fget (.CLK_MAX (halfDie h)) (appliedFld h)) : t.halfWant h = s.halfWant h := by
  rw [State.halfWant, State.halfWant, hpm, hthm, havs, hmax]

/-- Setting the applied step or the ramp of any half leaves what a half wants. -/
theorem State.halfWant_of_kept {s t : State} {h k : Nat}
    (hkept : ∀ q g, HalfApart k appliedFld q g → HalfApart k rampFld q g → q ≠ .CLK_CHG → t.fget q g = s.fget q g) :
    t.halfWant h = s.halfWant h := by
  refine State.halfWant_congr (hkept _ _ (.inr ?_) (.inr ?_) (by simp)) (hkept _ _ (.inr ?_) (.inr ?_) (by simp))
    (hkept _ _ (.inr ?_) (.inr ?_) (by simp)) (hkept _ _ (.inl (by simp)) (.inl (by simp)) (by simp)) <;>
  simp only [appliedFld, rampFld, pmFld, thmFld, avsFld] <;> omega

theorem State.halfWant_lt : s.halfWant h < 4 := by
  have hlt (r : Reg) (f : Nat → Fld) (hf : (f h).len = 2) : s.fget r (f h) < 4 := by
    have := s.fget_lt r (f h)
    rwa [hf] at this
  rw [State.halfWant]
  exact max_lt (max_lt (hlt _ _ rfl) (hlt _ _ rfl)) (max_lt (hlt _ _ rfl) (hlt _ _ rfl))

/-! ### A step applied (R127, R375) -/

theorem State.fget_halfApply_apart (v : Nat) {q : Reg} {g : Fld} (ha : HalfApart h appliedFld q g) (hr : HalfApart h rampFld q g)
    (hq : q ≠ .CLK_CHG) : (s.halfApply h v).fget q g = s.fget q g := by
  unfold State.halfApply
  split
  · rfl
  · rw [State.fget_halfUpdate_apart _ _ hr, State.cnt, State.fget_fset_other _ _ _ _ hq, State.fget_halfSet_apart _ _ _ (appliedFld_fits h) ha]

theorem State.halfApply_applied {v : Nat} (hv : v < 4) : (s.halfApply h v).halfGet h appliedFld = v := by
  have hapart : HalfApart h rampFld (.CLK_HALF (halfDie h)) (appliedFld h) := by
    refine .inr (.inl ?_)
    simp only [appliedFld, rampFld]
    omega
  unfold State.halfApply
  split
  · assumption
  · rw [State.halfGet, State.fget_halfUpdate_apart _ _ hapart, State.cnt, State.fget_fset_other _ _ _ _ (by simp)]
    exact (State.halfGet_halfSet_same _ _ _ (appliedFld_fits h)).trans (Nat.mod_eq_of_lt hv)

theorem OnlyRegs.halfApply (v : Nat) : OnlyRegs [.CLK_HALF (halfDie h), .CLK_CHG] s (s.halfApply h v) := by
  unfold State.halfApply
  split
  · exact OnlyRegs.refl _ s
  · exact (((OnlyRegs.halfSet _ _ _ _).mono (by simp)).trans (OnlyRegs.cnt _ _ (by simp))).trans ((OnlyRegs.halfUpdate _ _).mono (by simp))

theorem State.halfWant_halfSet_applied (v : Nat) : (s.halfSet h appliedFld v).halfWant h = s.halfWant h :=
  State.halfWant_of_kept (k := h) fun _ _ ha _ _ => s.fget_halfSet_apart h v (appliedFld_fits h) ha

theorem State.halfWant_halfSet_ramp (v : Nat) : (s.halfSet h rampFld v).halfWant h = s.halfWant h :=
  State.halfWant_of_kept (k := h) fun _ _ _ hr _ => s.fget_halfSet_apart h v (rampFld_fits h) hr

/-- A half that takes the step it wants has no ramp left. -/
theorem State.halfApply_ramp (hramp : s.halfGet h rampFld = 0) : (s.halfApply h (s.halfWant h)).halfGet h rampFld = 0 := by
  unfold State.halfApply
  split
  · exact hramp
  · refine State.halfUpdate_still _ _ ?_ ?_
    · have happlied : ((s.halfSet h appliedFld (s.halfWant h)).cnt .CLK_CHG F.CLK_CHG_COUNT 1).halfGet h appliedFld = s.halfWant h := by
        rw [State.halfGet, State.cnt, State.fget_fset_other _ _ _ _ (by simp)]
        exact (State.halfGet_halfSet_same _ _ _ (appliedFld_fits h)).trans (Nat.mod_eq_of_lt (s.halfWant_lt h))
      have hwant : ((s.halfSet h appliedFld (s.halfWant h)).cnt .CLK_CHG F.CLK_CHG_COUNT 1).halfWant h = s.halfWant h :=
        State.halfWant_of_kept (k := h) fun q g ha _ hq => by
          rw [State.cnt, State.fget_fset_other _ _ _ _ hq, State.fget_halfSet_apart _ _ _ (appliedFld_fits h) ha]
      omega
    · rw [State.halfGet, State.cnt, State.fget_fset_other _ _ _ _ (by simp),
        State.fget_halfSet_apart _ _ _ (appliedFld_fits h) (.inr (.inr (by simp only [appliedFld, rampFld]; omega)))]
      exact hramp

theorem State.halfWant_halfApply (k v : Nat) : (s.halfApply k v).halfWant h = s.halfWant h :=
  State.halfWant_of_kept fun _ _ ha hr hq => s.fget_halfApply_apart k v ha hr hq

end

/-! ### STEP_CHANGE_APPLY (R127, R358) -/

/-- A half takes the slower step that it wants. -/
def State.halfSlower (s : State) (h : Nat) : State := if s.halfGet h appliedFld < s.halfWant h then s.halfApply h (s.halfWant h) else s

section
variable (s : State) (h : Nat)

theorem State.halfSlower_applied : (s.halfSlower h).halfGet h appliedFld = max (s.halfGet h appliedFld) (s.halfWant h) := by
  unfold State.halfSlower
  split
  · rw [State.halfApply_applied _ _ (s.halfWant_lt h)]
    omega
  · omega

theorem State.fget_halfSlower_apart {q : Reg} {g : Fld} (ha : HalfApart h appliedFld q g) (hr : HalfApart h rampFld q g)
    (hq : q ≠ .CLK_CHG) : (s.halfSlower h).fget q g = s.fget q g := by
  unfold State.halfSlower
  split
  · exact s.fget_halfApply_apart h _ ha hr hq
  · rfl

theorem OnlyRegs.halfSlower : OnlyRegs [.CLK_HALF (halfDie h), .CLK_CHG] s (s.halfSlower h) :=
  OnlyRegs.ite (OnlyRegs.halfApply _ _ _) (OnlyRegs.refl _ s)

end

/-- The applied step of a half has no bit in common with the fields that the change of the other half sets. -/
theorem HalfApart.other {k h : Nat} (hkh : k % 2 ≠ h % 2) :
    HalfApart h appliedFld (.CLK_HALF (halfDie k)) (appliedFld k) ∧ HalfApart h rampFld (.CLK_HALF (halfDie k)) (appliedFld k) := by
  constructor <;> refine .inr ?_ <;> simp only [appliedFld, rampFld] <;> omega

theorem exec_stepChangeApply_applies (d : Die) (s : State) (hdoze : s.dozing d.val = false) :
    ∃ u, exec (.stepChangeApply d) s = .next u ∧
      (∀ h ∈ [2 * d.val, 2 * d.val + 1], u.halfGet h appliedFld = max (s.halfGet h appliedFld) (s.halfWant h)) ∧
      OnlyRegs [.CLK_HALF d, .CLK_CHG] s u := by
  have hexec : exec (.stepChangeApply d) s = .next ((s.halfSlower (2 * d.val)).halfSlower (2 * d.val + 1)) := by
    change execStepChangeApply d s = _
    exact if_neg (by simp [hdoze])
  have hd0 : halfDie (2 * d.val) = d := Fin.ext (by simp [halfDie])
  have hd1 : halfDie (2 * d.val + 1) = d := Fin.ext (by simp only [halfDie, Fin.ofNat]; omega)
  refine ⟨_, hexec, ?applied, ?only⟩
  case applied =>
    intro h hh
    simp only [List.mem_cons, List.not_mem_nil, or_false] at hh
    rcases hh with rfl | rfl
    · obtain ⟨ha, hr⟩ := HalfApart.other (k := 2 * d.val) (h := 2 * d.val + 1) (by omega)
      exact (State.fget_halfSlower_apart _ _ ha hr (by simp)).trans (s.halfSlower_applied _)
    · obtain ⟨ha, hr⟩ := HalfApart.other (k := 2 * d.val + 1) (h := 2 * d.val) (by omega)
      have happlied : (s.halfSlower (2 * d.val)).halfGet (2 * d.val + 1) appliedFld = s.halfGet (2 * d.val + 1) appliedFld :=
        State.fget_halfSlower_apart _ _ ha hr (by simp)
      have hwant : (s.halfSlower (2 * d.val)).halfWant (2 * d.val + 1) = s.halfWant (2 * d.val + 1) :=
        State.halfWant_of_kept fun _ _ ha hr hq => State.fget_halfSlower_apart s _ ha hr hq
      rw [State.halfSlower_applied, happlied, hwant]
  case only =>
    have h0 := OnlyRegs.halfSlower s (2 * d.val)
    have h1 := OnlyRegs.halfSlower (s.halfSlower (2 * d.val)) (2 * d.val + 1)
    rw [hd0] at h0
    rw [hd1] at h1
    exact h0.trans h1

/-! ### STEP_RAMP_DONE (R358) -/

theorem State.setpoint_of_some {s : State} {r v : Nat} (hr : r ≠ 41) (h : (s.pwr.rails.at r).setpt = some v) : s.setpoint r = v := by
  rw [State.setpoint, if_neg fun h => hr h.1, h]
  rfl

theorem State.setSetpoint_rail (s : State) (r v : Nat) : ((s.setSetpoint r v).pwr.rails.at r).setpt = some v := by
  rw [State.setSetpoint, State.railUpd, Tab.at_upd_same]

theorem State.setSetpoint_others (s : State) {r q : Nat} (v : Nat) (h : q ≠ r) : (s.setSetpoint r v).pwr.rails.at q = s.pwr.rails.at q := by
  rw [State.setSetpoint, State.railUpd, Tab.at_upd, if_neg h]

/-- The step and the divider change once the ramp is done. -/
def State.rampEnds (s : State) (h v : Nat) : State :=
  ((s.setSetpoint (halfRail h) (max (s.setpoint (halfRail h)) (s.railStart (halfRail h) v))).halfSet h rampFld 0).halfApply h v

theorem exec_stepRampDone_ends (d : Die) (west : Bool) (s : State) (h : Nat) (hh : h = 2 * d.val + b2n west) (hramp : s.halfGet h rampFld ≠ 0) :
    ∃ u, exec (.stepRampDone d west) s = .next u ∧ u.halfGet h appliedFld = s.halfWant h ∧
      u.halfGet h rampFld = 0 ∧
      u.setpoint (halfRail h) = max (s.setpoint (halfRail h)) (s.railStart (halfRail h) (s.halfWant h)) ∧
      (∀ r, r ≠ halfRail h → u.pwr.rails.at r = s.pwr.rails.at r) ∧
      OnlyRegs [.CLK_HALF d, .CLK_CHG] { s with pwr := u.pwr } u := by
  have hb : b2n west ≤ 1 := by cases west <;> decide
  have hrail : halfRail h ≠ 41 := by simp only [halfRail]; omega
  have hdie : halfDie h = d := Fin.ext (by simp only [halfDie, Fin.ofNat]; omega)
  have hexec : exec (.stepRampDone d west) s = .next (s.rampEnds h (s.halfWant h)) := by
    subst hh
    change execStepRampDone d west s = _
    exact if_neg hramp
  generalize hsp : max (s.setpoint (halfRail h)) (s.railStart (halfRail h) (s.halfWant h)) = sp at *
  have hends : s.rampEnds h (s.halfWant h) = ((s.setSetpoint (halfRail h) sp).halfSet h rampFld 0).halfApply h (s.halfWant h) := by
    rw [State.rampEnds, hsp]
  have hwant : (s.setSetpoint (halfRail h) sp).halfWant h = s.halfWant h := rfl
  have hsetpt := s.setSetpoint_rail (halfRail h) sp
  have hothers (r : Nat) (hr : r ≠ halfRail h) := s.setSetpoint_others sp hr
  have honly : s.setSetpoint (halfRail h) sp = { s with pwr := (s.setSetpoint (halfRail h) sp).pwr } := rfl
  rw [hends] at hexec
  generalize s.setSetpoint (halfRail h) sp = a at *
  have hlt := s.halfWant_lt h
  have hwantb : (a.halfSet h rampFld 0).halfWant h = s.halfWant h := (a.halfWant_halfSet_ramp h 0).trans hwant
  have hrampb : (a.halfSet h rampFld 0).halfGet h rampFld = 0 := (a.halfGet_halfSet_same h 0 (rampFld_fits h)).trans (Nat.zero_mod _)
  have honlyb : OnlyRegs [.CLK_HALF d, .CLK_CHG] a ((a.halfSet h rampFld 0).halfApply h (s.halfWant h)) := by
    have h0 := OnlyRegs.halfSet a h rampFld 0
    have h1 := OnlyRegs.halfApply (a.halfSet h rampFld 0) h (s.halfWant h)
    rw [hdie] at h0 h1
    exact (h0.mono (by simp)).trans h1
  have hpwr : ((a.halfSet h rampFld 0).halfApply h (s.halfWant h)).pwr = a.pwr := by rw [honlyb.1]
  have happlied := (a.halfSet h rampFld 0).halfApply_applied h hlt
  have hrampu := (a.halfSet h rampFld 0).halfApply_ramp h hrampb
  rw [hwantb] at hrampu
  refine ⟨_, hexec, happlied, hrampu, ?setpoint, ?others, ?only⟩
  case setpoint => exact State.setpoint_of_some hrail (by rw [hpwr, hsetpt])
  case others =>
    intro r hr
    rw [hpwr]
    exact hothers r hr
  case only =>
    rw [hpwr, ← honly]
    exact honlyb

/-! ### REGULATOR_REPORT and CLOCK_STRETCH (R360, R363) -/

theorem exec_regulatorReport_reports (r : Fin 65) (mv : Fin 4096) (cur pow : Fin 65536) (temp : Nat) (s : State) :
    ∃ u, exec (.regulatorReport r mv cur pow temp) s = .next u ∧
      (u.pwr.rails.at r.val).meas = mv.val ∧ (u.pwr.rails.at r.val).cur = cur.val ∧ (u.pwr.rails.at r.val).pow = pow.val ∧
      (u.pwr.rails.at r.val).setpt = (s.pwr.rails.at r.val).setpt ∧ (u.pwr.rails.at r.val).flt = (s.pwr.rails.at r.val).flt ∧
      (∀ q, q ≠ r.val → u.pwr.rails.at q = s.pwr.rails.at q) ∧ r.val ∉ u.thm.silent ∧
      u = { s with pwr := { s.pwr with rails := u.pwr.rails }, thm := { s.thm with silent := u.thm.silent } } := by
  refine ⟨_, rfl, ?meas, ?cur, ?pow, ?setpt, ?flt, ?others, ?silent, rfl⟩
  case others =>
    intro q hq
    rw [State.railUpd, Tab.at_upd]
    exact if_neg hq
  case silent => simp [State.railUpd]
  all_goals simp only [State.railUpd, Tab.at_upd_same]

theorem exec_clockStretch_counts (d : Fin 20) (n : Nat) (s : State) :
    ∃ u, exec (.clockStretch d n) s = .next u ∧
      u.fget .PWR_DROOP F.PWR_DROOP_STRETCH = min (s.fget .PWR_DROOP F.PWR_DROOP_STRETCH + n) (2 ^ F.PWR_DROOP_STRETCH.len - 1) ∧
      OnlyRegs [.PWR_DROOP] s u :=
  ⟨_, rfl, State.fget_cnt_same _ _ _ _ (by decide), OnlyRegs.cnt _ _ (by simp)⟩

/-! ### AVS_INTERVAL (R362) -/

/-- The limit flag of half `k`. -/
def avsLimit (k : Nat) : Fld := ⟨4 + k % 2, 1⟩

/-- The measured grade of a half noted. -/
def State.avsGraded (s : State) (k grade n : Nat) : State :=
  let s1 := if k < 16 then s.fset (.PWR_AVS (halfDie k)) ⟨2 * (k % 2), 2⟩ grade else s
  { s1 with pwr := { s1.pwr with ample := s1.pwr.ample.put k (n % 16) } }

/-- What noting a grade changes: the grades, and the count of ample ones. -/
structure GradeActs (s t : State) : Prop where
  rest : t = { s with regs := t.regs, pwr := { s.pwr with ample := t.pwr.ample } }
  regs : RegsKept gradeRegs s t
  limit : ∀ k, t.fget (.PWR_AVS (halfDie k)) (avsLimit k) = s.fget (.PWR_AVS (halfDie k)) (avsLimit k)

theorem avs_mem_gradeRegs (d : Die) : Reg.PWR_AVS d ∈ gradeRegs := List.mem_map_of_mem (List.mem_finRange d)

namespace GradeActs

theorem refl (s : State) : GradeActs s s := ⟨rfl, RegsKept.refl _ s, fun _ => rfl⟩

theorem trans {s t u : State} (h : GradeActs s t) (g : GradeActs t u) : GradeActs s u := by
  refine ⟨?_, h.regs.trans g.regs, fun k => (g.limit k).trans (h.limit k)⟩
  rw [g.rest, h.rest]

theorem avsGraded (s : State) (k grade n : Nat) : GradeActs s (s.avsGraded k grade n) := by
  have hample (t : State) (x : Tab Nat) : GradeActs t { t with pwr := { t.pwr with ample := x } } := ⟨rfl, fun _ _ => rfl, fun _ => rfl⟩
  refine GradeActs.trans (t := if k < 16 then s.fset (.PWR_AVS (halfDie k)) ⟨2 * (k % 2), 2⟩ grade else s) ?_ (hample _ _)
  split
  · refine ⟨rfl, RegsKept.fset _ _ (avs_mem_gradeRegs _), fun j => State.fget_fset_apart s grade ?_ (.inr ?_)⟩ <;>
      simp only [avsLimit] <;> omega
  · exact refl s

end GradeActs

/-- A tick of a domain that is at guard, or low but not at its limit, only notes its grade. -/
theorem State.avsTick_quiet {s : State} {k grade : Nat} (hg : grade = 1 ∨ grade = 2)
    (hlimit : k < 16 → s.fget (.PWR_AVS (halfDie k)) (avsLimit k) ≠ 1) : s.avsTick k grade = s.avsGraded k grade 0 := by
  have hacts := GradeActs.avsGraded s k grade 0
  have h0 : grade ≠ 0 := by omega
  have h3 : grade ≠ 3 := by omega
  have hnot : ¬ (k < 16 ∧ (s.avsGraded k grade 0).fget (.PWR_AVS (halfDie k)) (avsLimit k) = 1) := by
    rintro ⟨hk, hl⟩
    exact hlimit hk ((hacts.limit k).symm.trans hl)
  unfold State.avsTick
  simp only [h0, h3, if_false, false_and, OfNat.zero_ne_ofNat]
  exact if_neg hnot

/-- The tick of one domain in an interval with the grades `l`. -/
def State.avsStep (l : List (Fin 4)) (s : State) (k : Nat) : State :=
  match l[k]? with
  | none => s
  | some g => if k < 16 ∧ (s.dieFenced (k / 2 + 1) ∨ s.dozing (k / 2)) then s else s.avsTick k g.val

/-- What the ticks of the other domains at guard change. -/
structure OthersActs (s t : State) : Prop extends GradeActs s t where
  first : t.fget (.PWR_AVS 0) ⟨0, 2⟩ = s.fget (.PWR_AVS 0) ⟨0, 2⟩

theorem OthersActs.trans {s t u : State} (h : OthersActs s t) (g : OthersActs t u) : OthersActs s u :=
  ⟨h.toGradeActs.trans g.toGradeActs, g.first.trans h.first⟩

/-- The limit flag of half `k` is clear. -/
def State.LimitClear (s : State) (k : Nat) : Prop := s.fget (.PWR_AVS (halfDie k)) (avsLimit k) ≠ 1

theorem State.avsStep_other {l : List (Fin 4)} {g : Fin 4} (hl : l = g :: List.replicate 19 1) (s : State) (j : Nat)
    (hlimit : j + 1 < 16 → s.LimitClear (j + 1)) : OthersActs s (s.avsStep l (j + 1)) := by
  have hrefl : OthersActs s s := ⟨GradeActs.refl s, rfl⟩
  subst hl
  unfold State.avsStep
  split
  · exact hrefl
  next g' hg' =>
    have h1 : g' = 1 := by
      rw [List.getElem?_cons_succ, List.getElem?_replicate] at hg'
      split at hg' <;> simp_all
    subst h1
    split
    · exact hrefl
    · change OthersActs s (s.avsTick (j + 1) 1)
      rw [State.avsTick_quiet (.inl rfl) hlimit]
      refine ⟨GradeActs.avsGraded s _ _ _, ?_⟩
      unfold State.avsGraded
      change (if j + 1 < 16 then _ else s).fget _ _ = _
      split
      next hj16 =>
        refine State.fget_fset_apart s _ (by dsimp only; omega) ?_
        by_cases hj : j + 1 = 1
        · exact .inr (.inl (by simp [hj]))
        · refine .inl fun h => ?_
          injection h with h
          have hval := congrArg Fin.val h
          simp only [halfDie, Fin.ofNat, Fin.val_zero] at hval
          omega
      next => rfl

/-- An interval in which the other domains are at guard: the first one ticks. -/
theorem exec_avsInterval_first {l : List (Fin 4)} {g : Fin 4} {s a : State} (hl : l = g :: List.replicate 19 1) (hfenced : s.dieFenced 1 = false)
    (hdoze : s.dozing 0 = false) (hfirst : s.avsTick 0 g.val = a) (hlimit : ∀ k, 1 ≤ k → k < 16 → a.LimitClear k) :
    ∃ u, exec (.avsInterval l) s = .next u ∧ OthersActs a u := by
  have hstep : s.avsStep l 0 = a := by
    subst hl
    unfold State.avsStep
    exact (if_neg (by simp [hfenced, hdoze])).trans hfirst
  have hrange : exec (.avsInterval l) s = .next ((List.range (19 + 1)).foldl (State.avsStep l) s) := rfl
  rw [List.range_succ_eq_map, List.foldl_cons, hstep] at hrange
  refine ⟨_, hrange, ?_⟩
  refine List.foldlRecOn (motive := fun t => OthersActs a t) _ _ ⟨GradeActs.refl a, rfl⟩ fun t ht k hk => ?_
  obtain ⟨j, -, rfl⟩ := List.mem_map.mp hk
  refine ht.trans (State.avsStep_other hl t j fun hj hone => ?_)
  exact hlimit (j + 1) (by omega) hj ((ht.limit _).symm.trans hone)

/-- The setpoint, or the slower step, that a grade calls for. -/
def State.avsMoved (s : State) (k grade n : Nat) : State :=
  let s2 := s.avsGraded k grade n
  if grade = 0 then
    if s.setpoint (avsRail k) < 360 then s2.setSetpoint (avsRail k) (s.setpoint (avsRail k) + 1)
    else if 16 ≤ k then s2.pwrEvt F.PWR_EVT_AVS_LIMIT 52
    else if s2.fget (.PWR_AVS (halfDie k)) (avsLimit k) = 1 then s2
    else ((s2.fset (.PWR_AVS (halfDie k)) (avsLimit k) 1).halfRequest k avsFld (min 3 (s2.halfGet k appliedFld + 1))).pwrEvt
      F.PWR_EVT_AVS_LIMIT 52
  else if n = 16 ∧ s2.avsFloor k < s.setpoint (avsRail k) then s2.setSetpoint (avsRail k) (s.setpoint (avsRail k) - 1)
  else s2

/-- The count of calm intervals of a half at its limit. -/
def State.avsCalmed (s : State) (k grade : Nat) : State :=
  if k < 16 ∧ s.fget (.PWR_AVS (halfDie k)) (avsLimit k) = 1 then
    let c := if grade = 0 then 0 else s.pwr.calm.at k + 1
    if c = 1000 then
      (({ s with pwr := { s.pwr with calm := s.pwr.calm.put k 0 } } : State).fset (.PWR_AVS (halfDie k)) (avsLimit k) 0).halfRequest k avsFld 0
    else { s with pwr := { s.pwr with calm := s.pwr.calm.put k c } }
  else s

theorem State.avsTick_eq (s : State) (k grade : Nat) :
    s.avsTick k grade = (s.avsMoved k grade (if grade = 3 then s.pwr.ample.at k + 1 else 0)).avsCalmed k grade := rfl

section
variable {s : State}

theorem State.limitClear_of_zero (h : ∀ d : Die, s.fget (.PWR_AVS d) ⟨4, 2⟩ = 0) (k : Nat) : s.LimitClear k := by
  have hd := h (halfDie k)
  have hk : k % 2 = 0 ∨ k % 2 = 1 := by omega
  rw [State.LimitClear, avsLimit]
  simp only [State.fget, Fld.get] at hd ⊢
  rcases hk with hk | hk <;> rw [hk] <;> omega

theorem State.avsCalmed_clear {k grade : Nat} (h : s.LimitClear k) : s.avsCalmed k grade = s := if_neg fun hc => h hc.2

theorem GradeActs.limitClear {t : State} (hacts : GradeActs s t) {k : Nat} (h : s.LimitClear k) : t.LimitClear k :=
  fun hl => h ((hacts.limit k).symm.trans hl)

/-- A new setpoint after its grade is noted: the limits stay clear. -/
theorem State.setSetpoint_clear {a : State} {k : Nat} (h : a.LimitClear k) (r v : Nat) : (a.setSetpoint r v).LimitClear k := h

/-- The first domain's setpoint moves by one step, up or down, while no half is at its limit. -/
theorem exec_avsInterval_moves {l : List (Fin 4)} {g : Fin 4} {v : Nat} (hl : l = g :: List.replicate 19 1) (hfenced : s.dieFenced 1 = false)
    (hdoze : s.dozing 0 = false) (hlimit : ∀ k, s.LimitClear k) (n : Nat)
    (hmoved : s.avsMoved 0 g.val (if g.val = 3 then s.pwr.ample.at 0 + 1 else 0) = (s.avsGraded 0 g.val n).setSetpoint 0 v) :
    ∃ u, exec (.avsInterval l) s = .next u ∧ u.setpoint 0 = v ∧ (∀ r, r ≠ 0 → u.pwr.rails.at r = s.pwr.rails.at r) ∧ RegsKept gradeRegs s u := by
  have hgraded := GradeActs.avsGraded s 0 g.val n
  have hclear (k : Nat) : ((s.avsGraded 0 g.val n).setSetpoint 0 v).LimitClear k := State.setSetpoint_clear (hgraded.limitClear (hlimit k)) 0 v
  obtain ⟨u, hexec, hothers⟩ := exec_avsInterval_first hl hfenced hdoze
    (show s.avsTick 0 g.val = (s.avsGraded 0 g.val n).setSetpoint 0 v by rw [State.avsTick_eq, hmoved, State.avsCalmed_clear (hclear 0)])
    fun k _ _ => hclear k
  have hsetpt := (s.avsGraded 0 g.val n).setSetpoint_rail 0 v
  have hrails (r : Nat) (hr : r ≠ 0) := (s.avsGraded 0 g.val n).setSetpoint_others v hr
  have hregs : RegsKept gradeRegs (s.avsGraded 0 g.val n) ((s.avsGraded 0 g.val n).setSetpoint 0 v) := fun _ _ => rfl
  have hrails0 : (s.avsGraded 0 g.val n).pwr.rails = s.pwr.rails := by rw [hgraded.rest]
  have hpwr : u.pwr.rails = ((s.avsGraded 0 g.val n).setSetpoint 0 v).pwr.rails := by rw [hothers.rest]
  refine ⟨u, hexec, State.setpoint_of_some (by decide) (by rw [hpwr, hsetpt]), ?others, (hgraded.regs.trans hregs).trans hothers.regs⟩
  case others =>
    intro r hr
    rw [hpwr, hrails r hr, hrails0]

/-- The first domain asks for a slower step where its setpoint is at its highest, and is at its limit. -/
def State.avsAtLimit (s : State) : State :=
  (((s.avsGraded 0 0 0).fset (.PWR_AVS 0) ⟨4, 1⟩ 1).halfRequest 0 avsFld (min 3 ((s.avsGraded 0 0 0).halfGet 0 appliedFld + 1))).pwrEvt
    F.PWR_EVT_AVS_LIMIT 52

theorem State.avsAtLimit_limits (s : State) :
    s.avsAtLimit.halfGet 0 avsFld = min 3 (s.halfGet 0 appliedFld + 1) ∧ s.avsAtLimit.fget (.PWR_AVS 0) ⟨4, 1⟩ = 1 ∧
      s.avsAtLimit.bget .PWR_EVT F.PWR_EVT_AVS_LIMIT = true ∧ Raised 52 s s.avsAtLimit ∧ s.avsAtLimit.pwr.rails = s.pwr.rails ∧
      RegsKept (gradeRegs ++ [.CLK_HALF 0, .PWR_EVT] ++ signalRegs) s s.avsAtLimit ∧
      ∀ k, 1 ≤ k → k < 16 → s.LimitClear k → s.avsAtLimit.LimitClear k := by
  have hgraded := GradeActs.avsGraded s 0 0 0
  have happlied : (s.avsGraded 0 0 0).halfGet 0 appliedFld = s.halfGet 0 appliedFld := hgraded.regs.fget (by simp [gradeRegs]) _
  unfold State.avsAtLimit State.pwrEvt State.halfRequest
  rw [happlied]
  have hrails : (s.avsGraded 0 0 0).pwr.rails = s.pwr.rails := by rw [hgraded.rest]
  have hicu : (s.avsGraded 0 0 0).icu = s.icu := by rw [hgraded.rest]
  generalize hb : s.avsGraded 0 0 0 = b at *
  have hset : OnlyRegs (gradeRegs ++ [.CLK_HALF 0, .PWR_EVT] ++ signalRegs) b (b.fset (.PWR_AVS 0) ⟨4, 1⟩ 1) :=
    OnlyRegs.fset _ _ (List.mem_append_left _ (List.mem_append_left _ (avs_mem_gradeRegs 0)))
  have hflag : (b.fset (.PWR_AVS 0) ⟨4, 1⟩ 1).fget (.PWR_AVS 0) ⟨4, 1⟩ = 1 := State.fget_fset_same _ _ _ _ (by decide)
  have hclear (k : Nat) (h1 : 1 ≤ k) (h16 : k < 16) (hk : b.LimitClear k) : (b.fset (.PWR_AVS 0) ⟨4, 1⟩ 1).LimitClear k := by
    intro hl
    refine hk (Eq.trans (State.fget_fset_apart b 1 (by decide) ?_).symm hl)
    by_cases hone : k = 1
    · exact .inr (.inr (by rw [hone]; decide))
    · refine .inl fun h => ?_
      injection h with h
      have hval := congrArg Fin.val h
      simp only [halfDie, Fin.ofNat, Fin.val_zero] at hval
      omega
  generalize b.fset (.PWR_AVS 0) ⟨4, 1⟩ 1 = c at *
  have hhalf := (OnlyRegs.halfSet c 0 avsFld (min 3 (s.halfGet 0 appliedFld + 1))).trans (OnlyRegs.halfUpdate _ 0)
  have hwant : ((c.halfSet 0 avsFld (min 3 (s.halfGet 0 appliedFld + 1))).halfUpdate 0).halfGet 0 avsFld = min 3 (s.halfGet 0 appliedFld + 1) := by
    rw [State.halfGet, State.fget_halfUpdate_apart _ _ (.inr (.inl (by decide)))]
    refine (State.halfGet_halfSet_same _ _ _ (avsFld_fits 0)).trans (Nat.mod_eq_of_lt ?_)
    have : (avsFld 0).len = 2 := rfl
    rw [this]
    omega
  generalize (c.halfSet 0 avsFld (min 3 (s.halfGet 0 appliedFld + 1))).halfUpdate 0 = d at *
  have havs (f : Fld) (k : Die) : (((d.bset .PWR_EVT F.PWR_EVT_AVS_LIMIT true).raise 52).fget (.PWR_AVS k) f) = c.fget (.PWR_AVS k) f := by
    rw [State.raise_fget _ _ (by simp [signalRegs]), State.bset, State.fget_fset_other _ _ _ _ (by simp), hhalf.2.fget (by simp)]
  refine ⟨?want, (havs _ _).trans hflag, ?evt, ?raised, ?rails, ?regs, ?clear⟩
  case want =>
    rw [State.halfGet, State.raise_fget _ _ (by simp [signalRegs]), State.bset, State.fget_fset_other _ _ _ _ (by simp)]
    exact hwant
  case evt => exact (State.raise_bget _ _ (by decide) _).trans (State.bget_bset_same _ _ _ _ (by decide) (by decide))
  case raised =>
    refine Raised.of_icu_eq (State.raise_raised _ 52) ?_
    change d.icu = s.icu
    rw [hhalf.1, hset.1, ← hicu]
  case rails =>
    rw [State.raise_pwr]
    change d.pwr.rails = _
    rw [hhalf.1, hset.1, ← hrails]
  case regs =>
    have hsignal := (Signals.raise (d.bset .PWR_EVT F.PWR_EVT_AVS_LIMIT true) 52).regsKept
      (p := gradeRegs ++ [.CLK_HALF 0, .PWR_EVT] ++ signalRegs) (List.subset_append_right _ _)
    refine (((hgraded.regs.mono fun _ h => ?_).trans hset.2).trans ((hhalf.2.mono ?_).trans (RegsKept.bset _ _ ?_))).trans hsignal
    · exact List.mem_append_left _ (List.mem_append_left _ h)
    · simp [halfDie]
    · simp
  case clear =>
    intro k h1 h16 hk hl
    exact hclear k h1 h16 (hgraded.limitClear hk) ((havs _ _).symm.trans hl)

end

section
variable {s : State}

theorem State.avsMoved_up (h : s.setpoint 0 < 360) : s.avsMoved 0 0 0 = (s.avsGraded 0 0 0).setSetpoint 0 (s.setpoint 0 + 1) := by
  unfold State.avsMoved
  dsimp only
  rw [if_pos rfl]
  exact if_pos h

theorem State.avsMoved_down (h : (s.avsGraded 0 3 16).avsFloor 0 < s.setpoint 0) :
    s.avsMoved 0 3 16 = (s.avsGraded 0 3 16).setSetpoint 0 (s.setpoint 0 - 1) := by
  unfold State.avsMoved
  dsimp only
  rw [if_neg (by decide)]
  exact if_pos ⟨rfl, h⟩

theorem State.avsMoved_limit (h : 360 ≤ s.setpoint 0) (hlimit : s.LimitClear 0) : s.avsMoved 0 0 0 = s.avsAtLimit := by
  have hsp : ¬ s.setpoint (avsRail 0) < 360 := not_lt.mpr h
  unfold State.avsMoved
  dsimp only
  rw [if_pos rfl, if_neg hsp, if_neg (by decide)]
  exact if_neg ((GradeActs.avsGraded s 0 0 0).limitClear hlimit)

end

section
variable {s : State} {l : List (Fin 4)} (hfenced : s.dieFenced 1 = false) (hdoze : s.dozing 0 = false) (hlimit : ∀ k, s.LimitClear k)
include hfenced hdoze hlimit

theorem exec_avsInterval_raises (hl : l = 0 :: List.replicate 19 1) (hsp : s.setpoint 0 < 360) :
    ∃ u, exec (.avsInterval l) s = .next u ∧ u.setpoint 0 = s.setpoint 0 + 1 ∧
      (∀ r, r ≠ 0 → u.pwr.rails.at r = s.pwr.rails.at r) ∧ RegsKept gradeRegs s u :=
  exec_avsInterval_moves hl hfenced hdoze hlimit 0 (State.avsMoved_up hsp)

theorem exec_avsInterval_lowers (hl : l = 3 :: List.replicate 19 1) (hample : s.pwr.ample.at 0 = 15) (hsp : s.avsFloor 0 < s.setpoint 0) :
    ∃ u, exec (.avsInterval l) s = .next u ∧ u.setpoint 0 = s.setpoint 0 - 1 ∧
      (∀ r, r ≠ 0 → u.pwr.rails.at r = s.pwr.rails.at r) ∧ RegsKept gradeRegs s u := by
  refine exec_avsInterval_moves hl hfenced hdoze hlimit 16 ?_
  have hgraded := GradeActs.avsGraded s 0 3 16
  have hfuses : (s.avsGraded 0 3 16).fuses = s.fuses := by rw [hgraded.rest]
  have hfloor : (s.avsGraded 0 3 16).avsFloor 0 = s.avsFloor 0 := by
    have hhalf : (s.avsGraded 0 3 16).halfGet 0 appliedFld = s.halfGet 0 appliedFld := hgraded.regs.fget (by simp [gradeRegs]) _
    simp only [State.avsFloor, State.railStart, hfuses, hhalf]
  have hcount : (if (3 : Fin 4).val = 3 then s.pwr.ample.at 0 + 1 else 0) = 16 := by rw [hample]; rfl
  rw [hcount]
  exact State.avsMoved_down (by rw [hfloor]; exact hsp)

theorem exec_avsInterval_notes {g : Fin 4} (hl : l = g :: List.replicate 19 1) (hg : g = 1 ∨ g = 2) :
    ∃ u, exec (.avsInterval l) s = .next u ∧
      u.fget (.PWR_AVS 0) ⟨0, 2⟩ = g.val ∧ u.pwr.rails = s.pwr.rails ∧ OnlyRegs gradeRegs { s with pwr := u.pwr } u := by
  have hgraded := GradeActs.avsGraded s 0 g.val 0
  have hval : g.val = 1 ∨ g.val = 2 := by rcases hg with rfl | rfl <;> decide
  obtain ⟨u, hexec, hothers⟩ := exec_avsInterval_first hl hfenced hdoze (State.avsTick_quiet hval fun _ => hlimit 0)
    fun k _ _ => hgraded.limitClear (hlimit k)
  have hfirst : (s.avsGraded 0 g.val 0).fget (.PWR_AVS 0) ⟨0, 2⟩ = g.val :=
    (State.fget_fset_same s _ _ _ (by decide)).trans (Nat.mod_eq_of_lt g.isLt)
  have hall := hgraded.trans hothers.toGradeActs
  exact ⟨u, hexec, hothers.first.trans hfirst, by rw [hall.rest], by rw [hall.rest], fun r hr => hall.regs r hr⟩

theorem exec_avsInterval_limited (hl : l = 0 :: List.replicate 19 1) (hsp : 360 ≤ s.setpoint 0) :
    ∃ u, exec (.avsInterval l) s = .next u ∧
      u.halfGet 0 avsFld = min 3 (s.halfGet 0 appliedFld + 1) ∧ u.fget (.PWR_AVS 0) ⟨4, 1⟩ = 1 ∧
      u.bget .PWR_EVT F.PWR_EVT_AVS_LIMIT = true ∧ Raised 52 s u ∧ u.pwr.rails = s.pwr.rails ∧
      RegsKept (gradeRegs ++ [.CLK_HALF 0, .PWR_EVT] ++ signalRegs) s u := by
  obtain ⟨hwant, hflag, hevt, hraised, hrails, hregs, hclear⟩ := s.avsAtLimit_limits
  have hmoved := State.avsMoved_limit hsp (hlimit 0)
  have hfirst : s.avsTick 0 0 = { s.avsAtLimit with pwr := { s.avsAtLimit.pwr with calm := s.avsAtLimit.pwr.calm.put 0 0 } } := by
    have hcalmed : s.avsAtLimit.avsCalmed 0 0 =
        { s.avsAtLimit with pwr := { s.avsAtLimit.pwr with calm := s.avsAtLimit.pwr.calm.put 0 0 } } := if_pos ⟨by decide, hflag⟩
    rw [State.avsTick_eq, ← hcalmed, ← hmoved]
    rfl
  generalize s.avsAtLimit = a at *
  obtain ⟨u, hexec, hothers⟩ := exec_avsInterval_first hl hfenced hdoze hfirst fun k h1 h16 => hclear k h1 h16 (hlimit k)
  have hicu : u.icu = a.icu := by rw [hothers.rest]
  refine ⟨u, hexec, ?want, (hothers.limit 0).trans hflag, ?evt, ?raised, ?rails, ?regs⟩
  case want => exact (hothers.regs.fget (by simp [gradeRegs]) _).trans hwant
  case evt => exact (hothers.regs.bget (by simp [gradeRegs]) _).trans hevt
  case raised =>
    unfold Raised at hraised ⊢
    rwa [hicu]
  case rails => rw [hothers.rest, ← hrails]
  case regs => exact hregs.trans (hothers.regs.mono fun _ h => List.mem_append_left _ (List.mem_append_left _ h))

end

/-- Settles O42, command by command. -/
theorem voltageAndStepsFollow : Obligations.VoltageAndStepsFollow := by
  unfold Obligations.VoltageAndStepsFollow
  refine ⟨?avs, ?change, ?ramp, exec_regulatorReport_reports, exec_clockStretch_counts⟩
  case avs =>
    intro g s l hfenced hdoze hzero hl
    have hlimit (k : Nat) : s.LimitClear k := State.limitClear_of_zero hzero k
    refine ⟨?raises, ?limited, exec_avsInterval_notes hfenced hdoze hlimit hl, ?lowers⟩
    case raises =>
      rintro rfl hsp
      exact exec_avsInterval_raises hfenced hdoze hlimit hl hsp
    case limited =>
      rintro rfl hsp
      exact exec_avsInterval_limited hfenced hdoze hlimit hl hsp
    case lowers =>
      rintro rfl hample hsp
      exact exec_avsInterval_lowers hfenced hdoze hlimit hl hample hsp
  case change => exact fun d s => ⟨fun h => if_pos h, exec_stepChangeApply_applies d s⟩
  case ramp =>
    intro d west s h hh
    refine ⟨fun h0 => ?_, exec_stepRampDone_ends d west s h hh⟩
    subst hh
    exact if_pos h0

end Sys2Proof.Machine

namespace Sys2Proof.Machine

/-! PROOFS. The substitution of a row's slot (O7; R110 to R113). -/

/-! ### The row mapping (R101, R129) -/

section
variable (w : Word)

theorem mapFix_get {f : Fld} (h : f.lo + f.len ≤ 6 ∨ 7 ≤ f.lo) : f.get (mapFix w) = f.get w :=
  Fld.get_put_other _ _ _ _ (by decide) (by dsimp only [F.CDI_MAP_SPARE_AVAIL]; omega)

theorem mapState_mapPut_same {c st : Nat} (hc : c < 4) (hst : st < 8) : mapState (mapPut w c st) c = st := by
  rw [mapState, mapPut, mapFix_get _ (by simp only [colFld]; omega), Fld.get_put _ _ _ (by simp only [colFld]; omega)]
  exact Nat.mod_eq_of_lt hst

theorem mapState_mapPut_other {c k : Nat} (st : Nat) (hc : c < 4) (hk : k ≠ c) : mapState (mapPut w c st) k = mapState w k := by
  rw [mapState, mapPut, mapFix_get _ (by simp only [colFld]; omega)]
  exact Fld.get_put_other _ _ _ _ (by simp only [colFld]; omega) (by simp only [colFld]; omega)

theorem slotFld_mapPut {k : Nat} (c st : Nat) (hk : k < 3) (hc : c < 4) : (slotFld k).get (mapPut w c st) = (slotFld k).get w := by
  rw [mapPut, mapFix_get _ (by simp only [slotFld]; omega)]
  exact Fld.get_put_other _ _ _ _ (by simp only [colFld]; omega) (by simp only [colFld, slotFld]; omega)

/-- The mapping with slot `k` on column `c`, whose old column is retired. -/
def mapBound (k c old : Nat) : Word := mapPut (mapPut ((slotFld k).put w c) c 0) old 3

theorem mapBound_slot {k c old : Nat} (hk : k < 3) (hc : c < 4) (hold : old < 4) : (slotFld k).get (mapBound w k c old) = c := by
  rw [mapBound, slotFld_mapPut _ _ _ hk hold, slotFld_mapPut _ _ _ hk hc, Fld.get_put _ _ _ (by simp only [slotFld]; omega)]
  exact Nat.mod_eq_of_lt hc

theorem mapBound_new {k c old : Nat} (hc : c < 4) (hold : old < 4) (hne : old ≠ c) : mapState (mapBound w k c old) c = 0 := by
  rw [mapBound, mapState_mapPut_other _ _ hold hne.symm]
  exact mapState_mapPut_same _ hc (by decide)

theorem mapBound_old {k c old : Nat} (hold : old < 4) : mapState (mapBound w k c old) old = 3 := mapState_mapPut_same _ hold (by decide)

end

theorem find_column {p : Nat → Bool} {c : Nat} (h : (List.range 4).find? p = some c) : c < 4 :=
  List.mem_range.mp (List.mem_of_find?_eq_some h)

theorem Fin.ofNat_val_self {n : Nat} [NeZero n] (d : Fin n) : Fin.ofNat n d.val = d := Fin.ext (Nat.mod_eq_of_lt d.isLt)

/-! ### ROW_SUBST (R110) -/

section
variable (d : Die) (v : Word) (busy : Bool) (s : State)

theorem State.substResult_fails {r x : Nat} (hr : r < 4) (h2 : 2 ≤ x) (h16 : x < 16) :
    (s.substResult d.val r x).fget (.CDI_SUBST_STAT d) ⟨4 * r, 4⟩ = x ∧ Raised (64 + d.val * 24 + 16) s (s.substResult d.val r x) ∧
      Signals (s.fset (.CDI_SUBST_STAT d) ⟨4 * r, 4⟩ x) (s.substResult d.val r x) := by
  have hresult : s.substResult d.val r x = (s.fset (.CDI_SUBST_STAT d) ⟨4 * r, 4⟩ x).raise (64 + d.val * 24 + 16) := by
    unfold State.substResult
    rw [Fin.ofNat_val_self]
    exact if_pos h2
  rw [hresult]
  refine ⟨?stat, ?raised, Signals.raise _ _⟩
  case stat =>
    rw [State.raise_fget _ _ (by simp [signalRegs]), State.fget_fset_same _ _ _ _ (by dsimp only; omega)]
    exact Nat.mod_eq_of_lt h16
  case raised => exact (State.raise_raised _ _).of_counts_eq rfl rfl

theorem exec_rowSubst_ignored {r : Nat} (hr : r = F.CDI_ROW_SUBST_ROW.get v)
    (h : F.CDI_ROW_SUBST_GO.get v = 0 ∨ (s.subst.at (d.val * 4 + r)).isSome = true) : exec (.rowSubst d v busy) s = .next s := by
  subst hr
  exact if_pos h

theorem exec_rowSubst_refused {r : Nat} (hr : r = F.CDI_ROW_SUBST_ROW.get v) (hgo : F.CDI_ROW_SUBST_GO.get v = 1)
    (hnone : s.subst.at (d.val * 4 + r) = none) {x : Nat}
    (hx : x = if busy || (List.range 3).any (fun k => (s.engs.at (d.val * 12 + r * 3 + k)).task.isSome) then 3
      else if s.failedSlot d.val r = none then 4 else 5)
    (h : busy = true ∨ (List.range 3).any (fun k => (s.engs.at (d.val * 12 + r * 3 + k)).task.isSome) = true ∨ s.failedSlot d.val r = none ∨
      mapSpare (s.rget (mapReg d.val r)) = none) : exec (.rowSubst d v busy) s = .next (s.substResult d.val r x) := by
  subst hr
  have hgoes : ¬ (F.CDI_ROW_SUBST_GO.get v = 0 ∨ (s.subst.at (d.val * 4 + F.CDI_ROW_SUBST_ROW.get v)).isSome = true) := by
    simp [hgo, hnone]
  change execRowSubst d v busy s = _
  unfold execRowSubst
  dsimp only
  rw [if_neg hgoes]
  by_cases hbusy : (busy || (List.range 3).any
      (fun k => (s.engs.at (d.val * 12 + F.CDI_ROW_SUBST_ROW.get v * 3 + k)).task.isSome)) = true
  · rw [if_pos hbusy] at hx ⊢
    rw [hx]
  · rw [if_neg hbusy] at hx ⊢
    have hidle := Bool.or_eq_false_iff.mp (Bool.not_eq_true _ ▸ hbusy)
    cases hfailed : s.failedSlot d.val (F.CDI_ROW_SUBST_ROW.get v) with
    | none => rw [hx, if_pos hfailed]
    | some k =>
      have hspare : mapSpare (s.rget (mapReg d.val (F.CDI_ROW_SUBST_ROW.get v))) = none := by simpa [hidle, hfailed] using h
      rw [hx, hspare, if_neg (by simp [hfailed])]

theorem exec_rowSubst_starts {r k c : Nat} (hr : r = F.CDI_ROW_SUBST_ROW.get v) (hgo : F.CDI_ROW_SUBST_GO.get v = 1)
    (hnone : s.subst.at (d.val * 4 + r) = none) (hbusy : busy = false) (hidle : ∀ j, j < 3 → (s.engs.at (d.val * 12 + r * 3 + j)).task = none)
    (hfailed : s.failedSlot d.val r = some k) (hspare : mapSpare (s.rget (mapReg d.val r)) = some c) :
    ∃ u, exec (.rowSubst d v busy) s = .next u ∧ mapState (u.rget (mapReg d.val r)) c = 5 ∧
      u.subst.at (d.val * 4 + r) = some k ∧ u.fget (.CDI_SUBST_STAT d) ⟨4 * r, 4⟩ = 1 ∧
      RegsKept [mapReg d.val r, .CDI_SUBST_STAT d] s u ∧ u = { s with regs := u.regs, subst := u.subst } := by
  have hr4 : r < 4 := hr ▸ Fld.get_lt F.CDI_ROW_SUBST_ROW v
  have hexec : exec (.rowSubst d v busy) s = .next ((({ s with subst := s.subst.put (d.val * 4 + r) (some k) } : State).rset (mapReg d.val r)
      (mapPut (s.rget (mapReg d.val r)) c 5)).fset (.CDI_SUBST_STAT d) ⟨4 * r, 4⟩ 1) := by
    subst hr
    have hgoes : ¬ (F.CDI_ROW_SUBST_GO.get v = 0 ∨ (s.subst.at (d.val * 4 + F.CDI_ROW_SUBST_ROW.get v)).isSome = true) := by
      simp [hgo, hnone]
    have hall : ¬ (busy || (List.range 3).any
        (fun k => (s.engs.at (d.val * 12 + F.CDI_ROW_SUBST_ROW.get v * 3 + k)).task.isSome)) = true := by
      simp only [hbusy, Bool.false_or, List.any_eq_true, List.mem_range, not_exists, not_and]
      intro j hj
      simp [hidle j hj]
    change execRowSubst d v busy s = _
    unfold execRowSubst
    dsimp only
    rw [if_neg hgoes, if_neg hall, hfailed, hspare, ← Fin.ofNat_val_self d]
    simp only [State.substResult, State.setMap, Fin.ofNat_val_self]
    rfl
  refine ⟨_, hexec, ?map, ?subst, ?stat, ?regs, rfl⟩
  case map =>
    rw [State.rget_fset_other _ _ _ (by simp [mapReg]), State.rget_rset_same]
    exact mapState_mapPut_same _ (find_column hspare) (by decide)
  case subst =>
    change (s.subst.put (d.val * 4 + r) (some k)).at (d.val * 4 + r) = some k
    rw [Tab.at_put, if_pos rfl]
  case stat =>
    rw [State.fget_fset_same _ _ _ _ (by dsimp only; omega)]
    rfl
  case regs =>
    have hsubst : RegsKept [mapReg d.val r, .CDI_SUBST_STAT d] s { s with subst := s.subst.put (d.val * 4 + r) (some k) } := fun _ _ => rfl
    exact (hsubst.trans (RegsKept.rset _ (by simp))).trans (RegsKept.fset _ _ (by simp))

end

/-! ### SUBST_PORT_BIND (R111 to R113) -/

/-- The mapping, the result and the record stay. -/
structure BindKeeps (s t : State) : Prop where
  regs : RegsKept memoryRegs s t
  subst : t.subst = s.subst
  recs : s.log.recs <+: t.log.recs

namespace BindKeeps

theorem trans {s t u : State} (h : BindKeeps s t) (g : BindKeeps t u) : BindKeeps s u :=
  ⟨h.regs.trans g.regs, g.subst.trans h.subst, h.recs.trans g.recs⟩

theorem of_memoryActs {s t : State} (h : MemoryActs s t) : BindKeeps s t := ⟨h.regs, by rw [h.rest], h.log⟩

theorem of_flagActs {s t : State} (h : FlagActs s t) : BindKeeps s t :=
  ⟨h.regs.mono fun r hr => by simp [memoryRegs, hr], by rw [h.rest], by rw [h.rest]⟩

theorem fillSite (s : State) (k : Nat) : BindKeeps s (s.fillSite k) := ⟨fun _ _ => rfl, rfl, List.prefix_rfl⟩

theorem loadEngine (s : State) (e : Nat) : BindKeeps s (s.loadEngine e) :=
  of_memoryActs ((MemoryActs.writeLocal _ _ _ _ _).trans (MemoryActs.foldl _ (fun _ _ => MemoryActs.writeLocal _ _ _ _ _) _ _))

end BindKeeps

theorem mapReg_notMem_memoryRegs (d r : Nat) : mapReg d r ∉ memoryRegs := by simp [mapReg, memoryRegs, passRegs, signalRegs]

theorem CDI_SUBST_STAT_notMem_memoryRegs (d : Die) : Reg.CDI_SUBST_STAT d ∉ memoryRegs := by simp [memoryRegs, passRegs, signalRegs]

/-- A record that has room stands in the log. -/
theorem State.logRec_room {s : State} (r : LogRec) (h : s.log.recs.length < 131072) : r ∈ (s.logRec r true).log.recs := by
  have hroom : (true && decide (s.log.recs.length < 131072)) = true := by simp [h]
  unfold State.logRec
  dsimp only
  rw [if_pos hroom]
  split
  · rw [State.raise_log]
    exact List.mem_append_right _ (List.mem_singleton_self _)
  · exact List.mem_append_right _ (List.mem_singleton_self _)

/-- A record that has no room, or that the boot flash does not take, is reported and lost. -/
theorem State.logRec_lost {s : State} {ok : Bool} (r : LogRec) (h : s.logRoom ok = false) :
    (s.logRec r ok).log.recs = s.log.recs ∧ (s.logRec r ok).bget .BUP_STAT F.BUP_STAT_LOG_FAIL = true := by
  have hroom : ¬ (ok && decide (s.log.recs.length < 131072)) = true := by simpa [State.logRoom] using h
  unfold State.logRec
  dsimp only
  rw [if_neg hroom, State.raise_log, State.raise_bget _ _ (by decide), State.bget_bset_same _ _ _ _ (by decide) (by decide)]
  exact ⟨rfl, rfl⟩

section
variable (d : Die) (r : Fin 4) (s : State)

theorem State.siteOf_slot {k : Nat} (hk : k < 3) :
    s.siteOf (d.val * 12 + r.val * 3 + k) = d.val * 16 + r.val * 4 + (slotFld k).get (s.rget (mapReg d.val r.val)) := by
  have hr := r.isLt
  have hd : (d.val * 12 + r.val * 3 + k) / 12 = d.val := by omega
  have hrow : (d.val * 12 + r.val * 3 + k) % 12 / 3 = r.val := by omega
  have hslot : (d.val * 12 + r.val * 3 + k) % 3 = k := by omega
  rw [State.siteOf, engDie, engRow, hd, hrow, hslot]
  rfl

theorem State.siteState_column {c : Nat} (hc : c < 4) :
    s.siteState (d.val * 16 + r.val * 4 + c) = mapState (s.rget (mapReg d.val r.val)) c := by
  have hr := r.isLt
  have hd : (d.val * 16 + r.val * 4 + c) / 16 = d.val := by omega
  have hrow : siteRow (d.val * 16 + r.val * 4 + c) = r := Fin.ext (by simp only [siteRow, Fin.ofNat]; omega)
  have hcol : (d.val * 16 + r.val * 4 + c) % 4 = c := by omega
  rw [State.siteState, siteDie, hd, hrow, hcol, mapReg, Fin.ofNat_val_self r]
  rfl

variable {d r s} {ok : Bool} {k c e : Nat} (hk : k < 3) (hsubst : s.subst.at (d.val * 4 + r.val) = some k)
  (hfind : (List.range 4).find? (fun c => mapState (s.rget (mapReg d.val r.val)) c = 5) = some c)
  (he : e = d.val * 12 + r.val * 3 + k) (hne : s.siteOf e % 4 ≠ c)
include hk hsubst hfind he hne

theorem exec_substPortBind_bound (hroom : s.logRoom ok = true) :
    ∃ u, exec (.substPortBind d r ok) s = .next u ∧
      u.siteOf e = d.val * 16 + r.val * 4 + c ∧ u.siteState (u.siteOf e) = 0 ∧ u.siteState (s.siteOf e) = 3 ∧
      u.fget (.CDI_SUBST_STAT d) ⟨4 * r.val, 4⟩ = 2 ∧ u.subst.at (d.val * 4 + r.val) = none ∧
      ∃ x ∈ u.log.recs, x.typ = 0x01 ∧ x.cause = 0 ∧ x.b = (u.rget (mapReg d.val r.val)).toNat % 2 ^ 20 := by
  have hold : s.siteOf e % 4 < 4 := Nat.mod_lt _ (by decide)
  generalize hnew : mapBound (s.rget (mapReg d.val r.val)) k c (s.siteOf e % 4) = new
  have hexec : exec (.substPortBind d r ok) s = .next ((((((({ s with subst := s.subst.put (d.val * 4 + r.val) none } : State).logMap d.val r.val
      new 0 true).fillSite (d.val * 16 + r.val * 4 + c)).setMap d.val r.val new).loadEngine e).degradeCheck).substResult d.val r.val 2).settle := by
    subst he hnew
    change execSubstPortBind d r ok s = _
    unfold execSubstPortBind
    dsimp only
    rw [hsubst, hfind]
    exact if_pos hroom
  have hrecord : (⟨0x01, 0, d.val + 1 + r.val * 16, new.toNat % 2 ^ 20, 0, false⟩ : LogRec) ∈
      (({ s with subst := s.subst.put (d.val * 4 + r.val) none } : State).logMap d.val r.val new 0 true).log.recs :=
    State.logRec_room _ (by simpa using (Bool.and_eq_true_iff.mp hroom).2)
  have hlogged := BindKeeps.of_memoryActs (MemoryActs.logRec { s with subst := s.subst.put (d.val * 4 + r.val) none }
    ⟨0x01, 0, d.val + 1 + r.val * 16, new.toNat % 2 ^ 20, 0, false⟩ true)
  have hnone : (({ s with subst := s.subst.put (d.val * 4 + r.val) none } : State).logMap d.val r.val new 0 true).subst.at
      (d.val * 4 + r.val) = none := by
    rw [State.logMap, hlogged.subst]
    change (s.subst.put (d.val * 4 + r.val) none).at (d.val * 4 + r.val) = none
    rw [Tab.at_put, if_pos rfl]
  generalize ({ s with subst := s.subst.put (d.val * 4 + r.val) none } : State).logMap d.val r.val new 0 true = a at *
  have hfill := BindKeeps.fillSite a (d.val * 16 + r.val * 4 + c)
  generalize a.fillSite (d.val * 16 + r.val * 4 + c) = b at *
  have hmap : (b.setMap d.val r.val new).rget (mapReg d.val r.val) = new := State.rget_rset_same _ _ _
  have hsetSubst : (b.setMap d.val r.val new).subst = b.subst := rfl
  have hsetRecs : (b.setMap d.val r.val new).log.recs = b.log.recs := rfl
  generalize b.setMap d.val r.val new = f at *
  have hload := (BindKeeps.loadEngine f e).trans (BindKeeps.of_flagActs (FlagActs.degradeCheck _))
  generalize (f.loadEngine e).degradeCheck = g at *
  obtain ⟨hstat, -, hsignals⟩ := State.substResult_fails d g (x := 2) r.isLt (by decide) (by decide)
  have hresultSubst : (g.substResult d.val r.val 2).subst = g.subst := by rw [hsignals.subst]; rfl
  have hresultRecs : (g.substResult d.val r.val 2).log.recs = g.log.recs := by rw [hsignals.log]; rfl
  have hresultMap : (g.substResult d.val r.val 2).rget (mapReg d.val r.val) = g.rget (mapReg d.val r.val) :=
    (hsignals.rget (by simp [signalRegs, mapReg])).trans (State.rget_fset_other _ _ _ (by simp [mapReg]))
  generalize g.substResult d.val r.val 2 = h at *
  have hsettle := BindKeeps.of_memoryActs (MemoryActs.settle h)
  have hword : h.settle.rget (mapReg d.val r.val) = new := by
    rw [hsettle.regs _ (mapReg_notMem_memoryRegs _ _), hresultMap, hload.regs _ (mapReg_notMem_memoryRegs _ _), hmap]
  have hsite : h.settle.siteOf e = d.val * 16 + r.val * 4 + c := by
    rw [he, State.siteOf_slot d r _ hk, hword, ← hnew, mapBound_slot _ hk (find_column hfind) hold]
  refine ⟨_, hexec, hsite, ?new, ?old, ?stat, ?subst,
    ⟨0x01, 0, d.val + 1 + r.val * 16, new.toNat % 2 ^ 20, 0, false⟩, ?logged, rfl, rfl, by rw [hword]⟩
  case new => rw [hsite, State.siteState_column d r _ (find_column hfind), hword, ← hnew, mapBound_new _ (find_column hfind) hold hne]
  case old =>
    have hcolumn : s.siteOf e = d.val * 16 + r.val * 4 + s.siteOf e % 4 := by
      have hslot : (slotFld k).get (s.rget (mapReg d.val r.val)) < 4 := Fld.get_lt (slotFld k) _
      rw [he, State.siteOf_slot d r s hk]
      omega
    rw [hcolumn, State.siteState_column d r _ hold, hword, ← hnew, mapBound_old _ hold]
  case stat => exact (hsettle.regs.fget (CDI_SUBST_STAT_notMem_memoryRegs _) _).trans hstat
  case subst => rw [hsettle.subst, hresultSubst, hload.subst, hsetSubst, hfill.subst, hnone]
  case logged =>
    refine hsettle.recs.subset ?_
    rw [hresultRecs]
    refine hload.recs.subset ?_
    rw [hsetRecs]
    exact hfill.recs.subset hrecord

theorem exec_substPortBind_lost (hroom : s.logRoom ok = false) :
    ∃ u, exec (.substPortBind d r ok) s = .next u ∧
      u.siteState (d.val * 16 + r.val * 4 + c) = 1 ∧ u.siteOf e = s.siteOf e ∧
      u.fget (.CDI_SUBST_STAT d) ⟨4 * r.val, 4⟩ = 7 ∧ u.bget .BUP_STAT F.BUP_STAT_LOG_FAIL = true ∧ u.log.recs = s.log.recs := by
  have hc := find_column hfind
  generalize hnew : mapBound (s.rget (mapReg d.val r.val)) k c (s.siteOf e % 4) = new
  have hexec : exec (.substPortBind d r ok) s = .next (((({ s with subst := s.subst.put (d.val * 4 + r.val) none } : State).logMap d.val r.val
      new 0 ok).setMap d.val r.val (mapPut (s.rget (mapReg d.val r.val)) c 1)).substResult d.val r.val 7) := by
    subst he hnew
    change execSubstPortBind d r ok s = _
    unfold execSubstPortBind
    dsimp only
    rw [hsubst, hfind]
    exact if_neg (by simp [hroom])
  obtain ⟨hrecs, hfail⟩ := State.logRec_lost (s := { s with subst := s.subst.put (d.val * 4 + r.val) none })
    ⟨0x01, 0, d.val + 1 + r.val * 16, new.toNat % 2 ^ 20, 0, false⟩ hroom
  change (({ s with subst := s.subst.put (d.val * 4 + r.val) none } : State).logMap d.val r.val new 0 ok).log.recs = s.log.recs at hrecs
  change (({ s with subst := s.subst.put (d.val * 4 + r.val) none } : State).logMap d.val r.val new 0 ok).bget .BUP_STAT _ = true at hfail
  generalize ({ s with subst := s.subst.put (d.val * 4 + r.val) none } : State).logMap d.val r.val new 0 ok = a at *
  have hmap : (a.setMap d.val r.val (mapPut (s.rget (mapReg d.val r.val)) c 1)).rget (mapReg d.val r.val) =
      mapPut (s.rget (mapReg d.val r.val)) c 1 := State.rget_rset_same _ _ _
  have hsetFail : (a.setMap d.val r.val (mapPut (s.rget (mapReg d.val r.val)) c 1)).bget .BUP_STAT F.BUP_STAT_LOG_FAIL = true :=
    (State.bget_of_rget (State.rget_rset_other _ _ (by simp [mapReg])) _).trans hfail
  have hsetRecs : (a.setMap d.val r.val (mapPut (s.rget (mapReg d.val r.val)) c 1)).log.recs = s.log.recs := hrecs
  generalize a.setMap d.val r.val (mapPut (s.rget (mapReg d.val r.val)) c 1) = b at *
  obtain ⟨hstat, -, hsignals⟩ := State.substResult_fails d b (x := 7) r.isLt (by decide) (by decide)
  have hword : (b.substResult d.val r.val 7).rget (mapReg d.val r.val) = mapPut (s.rget (mapReg d.val r.val)) c 1 := by
    rw [hsignals.rget (by simp [signalRegs, mapReg]), State.rget_fset_other _ _ _ (by simp [mapReg]), hmap]
  refine ⟨_, hexec, ?spare, ?site, hstat, ?fail, ?recs⟩
  case spare => rw [State.siteState_column d r _ hc, hword, mapState_mapPut_same _ hc (by decide)]
  case site => rw [he, State.siteOf_slot d r _ hk, State.siteOf_slot d r _ hk, hword, slotFld_mapPut _ _ _ hk hc]
  case fail => rw [hsignals.bget (by decide), State.bget, State.fget_fset_other _ _ _ _ (by simp)]; exact hsetFail
  case recs => rw [hsignals.log]; exact hsetRecs

end

/-- Settles O7: the command refuses or starts, and the record of the mapping decides the slot. -/
theorem rowSubstitution : Obligations.RowSubstitution := by
  unfold Obligations.RowSubstitution
  constructor
  · intro d v busy s r hr
    refine ⟨fun h => exec_rowSubst_ignored d v busy s hr (.inl h), fun h => exec_rowSubst_ignored d v busy s hr (.inr h),
      fun hgo hnone => ⟨fun x hx h => ?_, fun k c hbusy hidle hfailed hspare => exec_rowSubst_starts d v busy s hr hgo hnone hbusy hidle
        hfailed hspare⟩⟩
    have hr4 : r < 4 := hr ▸ Fld.get_lt F.CDI_ROW_SUBST_ROW v
    have hrange : 2 ≤ x ∧ x < 16 := by
      rw [hx]
      split_ifs <;> omega
    exact ⟨_, exec_rowSubst_refused d v busy s hr hgo hnone hx h, s.substResult_fails d hr4 hrange.1 hrange.2⟩
  · exact fun d r ok s k c e hk hsubst hfind he hne => ⟨exec_substPortBind_bound hk hsubst hfind he hne,
      exec_substPortBind_lost hk hsubst hfind he hne⟩

end Sys2Proof.Machine

namespace Sys2Proof.Machine

/-! PROOFS. The sampling unit: the sequence slots (O5; R89, R92 to R94) and the choice of a token (O6; R90, R91, R96). -/

/-! ### A slot's unit -/

section
variable (s : State) (k : Nat) (f : SlotUnit → SlotUnit)

@[simp] theorem State.slot_slotUpd_same : (s.slotUpd k f).slot k = f (s.slot k) := Tab.at_upd_same _ _ _

theorem State.slot_slotUpd_other {j : Nat} (h : j ≠ k) : (s.slotUpd k f).slot j = s.slot j :=
  (Tab.at_upd _ _ _ _).trans (if_neg h)

@[simp] theorem State.slotUpd_rget (r : Reg) : (s.slotUpd k f).rget r = s.rget r := rfl

/-- A slot's unit is changed, and nothing else. -/
theorem State.slotUpd_rest :
    s.slotUpd k f = { s with gen := { s.gen with slots := (s.slotUpd k f).gen.slots } } := rfl

end

theorem MemoryActs.genEq {s t : State} (h : MemoryActs s t) : t.gen = s.gen := by rw [h.rest]

theorem MemoryActs.slotEq {s t : State} (h : MemoryActs s t) (k : Nat) : t.slot k = s.slot k := by
  simp only [State.slot, h.genEq]

/-- What only the memory system does, it does whatever the sampling unit holds. -/
theorem MemoryActs.withGen {s t : State} (h : MemoryActs s t) (g : GenUnit) : MemoryActs { s with gen := g } { t with gen := g } := by
  refine ⟨?_, h.regs, h.wf, h.log⟩
  conv_lhs => rw [h.rest]

/-! ### The end of a slot (R89) -/

theorem State.slotEnd_inactive {s : State} {k : Nat} (c : Nat) (h : s.slotActive k = false) : s.slotEnd k c = s := by
  refine if_neg ?_
  rw [show s.bget (.GEN_SEQ (Fin.ofNat 64 k)) F.GEN_SEQ_ACT = false from h]
  exact Bool.false_ne_true

theorem State.slotEnd_active {s : State} {k : Nat} (c : Nat) (h : s.slotActive k = true) :
    s.slotEnd k c = ((s.bset (seqReg k) F.GEN_SEQ_ACT false).fset (seqReg k) F.GEN_SEQ_END c).kvReturn k := if_pos h

/-- The pages of a slot are given back by writes of the hub. -/
theorem State.kvReturn_acts (s : State) (k : Nat) :
    MemoryActs { s with gen := { s.gen with kv := s.gen.kv.filter (fun x => x.1 ≠ k) } } (s.kvReturn k) :=
  MemoryActs.foldl _ (fun s _ => MemoryActs.hubWrite s _ _) _ _

theorem seqReg_notMem_memoryRegs (k : Nat) : seqReg k ∉ memoryRegs := by simp [seqReg, memoryRegs, passRegs, signalRegs]

/-! ### Slots and their indices (O5) -/

/-- The registers of a slot that begins: ACT is set, END and the token count are 0. -/
def State.slotOpened (s : State) (k : Slot) : State :=
  ((s.bset (.GEN_SEQ k) F.GEN_SEQ_ACT true).fset (.GEN_SEQ k) F.GEN_SEQ_END 0).rset (.GEN_CNT k) 0

section
variable (s : State) (k : Slot)

theorem State.slotOpened_rest : s.slotOpened k = { s with regs := (s.slotOpened k).regs } := rfl

theorem State.slotOpened_regsKept : RegsKept [.GEN_SEQ k, .GEN_CNT k] s (s.slotOpened k) :=
  ((RegsKept.bset _ _ (by simp)).trans (RegsKept.fset _ _ (by simp))).trans (RegsKept.rset _ (by simp))

theorem State.slotOpened_rget_cnt : (s.slotOpened k).rget (.GEN_CNT k) = 0 := State.rget_rset_same _ _ _

theorem State.slotOpened_fget_end : (s.slotOpened k).fget (.GEN_SEQ k) F.GEN_SEQ_END = 0 := by
  rw [State.slotOpened, State.fget_of_rget (State.rget_rset_other _ _ (by simp)), State.fget_fset_same _ _ _ _ (by decide)]
  rfl

theorem State.slotOpened_bget_act : (s.slotOpened k).bget (.GEN_SEQ k) F.GEN_SEQ_ACT = true := by
  rw [State.slotOpened, State.bget_of_rget (State.rget_rset_other _ _ (by simp)), State.bget,
    State.fget_fset_field _ _ _ _ _ (by decide) (by decide), ← State.bget, State.bget_bset_same _ _ _ _ (by decide) (by decide)]

end

theorem seqActivate_completes (k : Slot) (s : State) (h : s.slotActive k.val = false) : ∃ u, exec (.seqActivate k) s = .next u ∧
      u.bget (.GEN_SEQ k) F.GEN_SEQ_ACT = true ∧ u.fget (.GEN_SEQ k) F.GEN_SEQ_END = 0 ∧ u.rget (.GEN_CNT k) = 0 ∧
      (u.slot k.val).hist = [] ∧ (u.slot k.val).gstate = 0 ∧ (u.slot k.val).gstack = [] ∧
      (u.slot k.val).entry = (s.slot k.val).entry ∧ (u.slot k.val).act = s.gen.acts + 1 ∧ (∀ j, j ≠ k.val → u.slot j = s.slot j) ∧
      RegsKept [.GEN_SEQ k, .GEN_CNT k] s u ∧
      u = { s with regs := u.regs, gen := { s.gen with slots := u.gen.slots, acts := s.gen.acts + 1 } } := by
  have hexec : exec (.seqActivate k) s = .next (({ s.slotOpened k with gen := { s.gen with acts := s.gen.acts + 1 } } : State).slotUpd
      k.val (fun u =>
        { u with
          act := s.gen.acts + 1, hist := [], logits := [], mask := none, port := none, gstate := 0, gstack := []
          gram := if entryGram u.entry = 0xFFFF ∨ 8 ≤ entryGram u.entry ∨ u.entry = [] then none else some (entryGram u.entry) })) :=
    if_neg (ne_true_of_eq_false h)
  have hact := s.slotOpened_bget_act k
  have hend := s.slotOpened_fget_end k
  have hcnt := s.slotOpened_rget_cnt k
  have hregs := s.slotOpened_regsKept k
  have hrest := s.slotOpened_rest k
  generalize s.slotOpened k = a at *
  refine ⟨_, hexec, hact, hend, hcnt, ?_⟩
  simp only [State.slot_slotUpd_same, true_and]
  refine ⟨rfl, fun j hj => State.slot_slotUpd_other _ _ _ hj, hregs, ?rest⟩
  case rest =>
    rw [hrest]
    rfl

theorem seqDeactivate_completes (k : Slot) (s : State) (h : s.slotActive k.val = true) : ∃ u, exec (.seqDeactivate k) s = .next u ∧
      u.bget (.GEN_SEQ k) F.GEN_SEQ_ACT = false ∧ u.fget (.GEN_SEQ k) F.GEN_SEQ_END = 0 ∧
      u.gen = { s.gen with kv := s.gen.kv.filter (fun x => x.1 ≠ k.val) } ∧ RegsKept (.GEN_SEQ k :: memoryRegs) s u ∧
      (s.gen.kv.filter (fun x => x.1 = k.val) = [] → OnlyRegs [.GEN_SEQ k] { s with gen := u.gen } u) := by
  have hk : seqReg k.val = .GEN_SEQ k := congrArg Reg.GEN_SEQ (Fin.ofNat_val_self k)
  have hexec : exec (.seqDeactivate k) s = .next (s.slotEnd k.val 0) := rfl
  have hregs : OnlyRegs [.GEN_SEQ k] s ((s.bset (.GEN_SEQ k) F.GEN_SEQ_ACT false).fset (.GEN_SEQ k) F.GEN_SEQ_END 0) :=
    (OnlyRegs.bset _ _ (by simp)).trans (OnlyRegs.fset _ _ (by simp))
  have hact : ((s.bset (.GEN_SEQ k) F.GEN_SEQ_ACT false).fset (.GEN_SEQ k) F.GEN_SEQ_END 0).bget (.GEN_SEQ k) F.GEN_SEQ_ACT = false := by
    rw [State.bget, State.fget_fset_field _ _ _ _ _ (by decide) (by decide), ← State.bget,
      State.bget_bset_same _ _ _ _ (by decide) (by decide)]
  have hend : ((s.bset (.GEN_SEQ k) F.GEN_SEQ_ACT false).fset (.GEN_SEQ k) F.GEN_SEQ_END 0).fget (.GEN_SEQ k) F.GEN_SEQ_END = 0 :=
    State.fget_fset_same _ _ _ _ (by decide)
  rw [State.slotEnd_active 0 h, hk] at hexec
  generalize (s.bset (.GEN_SEQ k) F.GEN_SEQ_ACT false).fset (.GEN_SEQ k) F.GEN_SEQ_END 0 = a at *
  have hgen : a.gen = s.gen := by rw [hregs.1]
  have ha := a.kvReturn_acts k.val
  rw [hgen] at ha
  have hseq := ha.regs (.GEN_SEQ k) (hk ▸ seqReg_notMem_memoryRegs k.val)
  refine ⟨_, hexec, (State.bget_of_rget hseq _).trans hact, (State.fget_of_rget hseq _).trans hend, ha.genEq, ?kept, fun hnil => ?none⟩
  case kept =>
    exact RegsKept.trans (t := a) (hregs.2.mono (by simp)) (RegsKept.mono ha.regs fun r hr => List.mem_cons_of_mem _ hr)
  case none =>
    have hu : a.kvReturn k.val = { a with gen := { s.gen with kv := s.gen.kv.filter (fun x => x.1 ≠ k.val) } } := by
      rw [State.kvReturn, hgen, hnil, List.foldl_nil]
    rw [hu]
    refine ⟨?_, hregs.2⟩
    conv_lhs => rw [hregs.1]

theorem nth_setNth {α : Type} [Inhabited α] (l : List α) (n j : Nat) (v : α) (hn : n < l.length) :
    nth (setNth l n v) j = if j = n then v else nth l j := by
  induction l generalizing n j with
  | nil => simp at hn
  | cons a l ih =>
    cases n with
    | zero => cases j <;> simp [setNth, nth]
    | succ n =>
      cases j with
      | zero => simp [setNth, nth]
      | succ j => simpa [setNth, nth] using ih n j (by simpa using hn)

theorem nth_map_range {α : Type} [Inhabited α] (n : Nat) (f : Nat → α) {j : Nat} (h : j < n) : nth ((List.range n).map f) j = f j := by
  induction n generalizing j f with
  | zero => omega
  | succ n ih =>
    rw [List.range_succ_eq_map, List.map_cons]
    cases j with
    | zero => rfl
    | succ j =>
      rw [nth, List.map_map]
      exact ih _ (by omega)

theorem toNat_sub_word (a b : Word) : (a - b).toNat = (a.toNat + 2 ^ 32 - b.toNat) % 2 ^ 32 := by
  have hb := b.isLt
  rw [BitVec.toNat_sub]
  congr 1
  omega

/-- How far an index is ahead of the read index of a slot's ring (R94). -/
theorem oringReadAdvance_eq (k : Slot) (v : Word) (s : State) : exec (.oringReadAdvance k v) s =
    if (v - s.rget (.GEN_ORING_RD k)).toNat ≤ (s.rget (.GEN_ORING_WR k) - s.rget (.GEN_ORING_RD k)).toNat then
      .next ((s.rset (.GEN_ORING_RD k) v).retryRecord k.val)
    else .next s := by
  rw [toNat_sub_word, toNat_sub_word]
  rfl

/-- A field that is the whole register. -/
theorem toNat_of_word_field (w : Word) : (⟨0, 32⟩ : Fld).get w = w.toNat := by
  rw [Fld.get, Nat.pow_zero, Nat.div_one, Nat.mod_eq_of_lt w.isLt]

theorem oringAdvance_completes (k : Slot) (s : State) (h : (s.slot k.val).written ≠ 0) : ∃ u, exec (.oringAdvance k) s = .next u ∧
      (u.rget (.GEN_ORING_WR k)).toNat = ((s.rget (.GEN_ORING_WR k)).toNat + 1) % 2 ^ 32 ∧
      u.slot k.val = { s.slot k.val with written := (s.slot k.val).written - 1 } ∧ RegsKept [.GEN_ORING_WR k] s u ∧
      u = { s with regs := u.regs, gen := { s.gen with slots := u.gen.slots } } := by
  refine ⟨_, if_neg h, ?index, ?slot, RegsKept.wrap _ _ (by simp), rfl⟩
  case index => exact (toNat_of_word_field _).symm.trans ((State.fget_wrap_same _ _ _ _ (by decide)).trans (by rw [State.fget, toNat_of_word_field]; rfl))
  case slot => exact State.slot_slotUpd_same _ _ _

theorem State.putRecord_of_pass {s s1 : State} {k b n a rec_ tok : Nat} (hr : s.oring k = some (b, n)) (hn : s.oringUsed k < n)
    (ha : a = b + ((s.rget (.GEN_ORING_WR (Fin.ofNat 64 k))).toNat + (s.slot k).written) % 2 ^ 32 % n * 8)
    (hp : s.pass .hub (s.slot k).ticket false a 8 = .ok s1) :
    s.putRecord k rec_ tok = (s1.hubLay a (toBytes 8 rec_)).slotUpd k
      (fun u => { u with heldRec := none, written := u.written + 1, port := some tok }) := by
  subst ha
  simp only [State.putRecord, hr, if_neg hn.not_ge, hp]

theorem oringReadAdvance_writes (k : Slot) (v : Word) (s : State) (r tok b n a : Nat) (s1 : State)
    (hd : (v - s.rget (.GEN_ORING_RD k)).toNat ≤ (s.rget (.GEN_ORING_WR k) - s.rget (.GEN_ORING_RD k)).toNat)
    (hheld : (s.slot k.val).heldRec = some (r, tok)) (hring : s.oring k.val = some (b, n))
    (hroom : (s.rset (.GEN_ORING_RD k) v).oringUsed k.val < n)
    (ha : a = b + ((s.rget (.GEN_ORING_WR k)).toNat + (s.slot k.val).written) % 2 ^ 32 % n * 8)
    (hpass : (s.rset (.GEN_ORING_RD k) v).pass .hub (s.slot k.val).ticket false a 8 = .ok s1) :
    ∃ u, exec (.oringReadAdvance k v) s = .next u ∧ u.rget (.GEN_ORING_RD k) = v ∧
        (u.slot k.val).heldRec = none ∧ (u.slot k.val).port = some tok ∧
        (u.slot k.val).written = (s.slot k.val).written + 1 ∧ MemoryActs { s1 with gen := u.gen } u := by
  have hexec : exec (.oringReadAdvance k v) s = .next ((s.rset (.GEN_ORING_RD k) v).putRecord k.val r tok) := by
    rw [oringReadAdvance_eq, if_pos hd, State.retryRecord, show (s.rset (.GEN_ORING_RD k) v).slot k.val = s.slot k.val from rfl, hheld]
  have hwr : (s.rset (.GEN_ORING_RD k) v).rget (.GEN_ORING_WR (Fin.ofNat 64 k.val)) = s.rget (.GEN_ORING_WR k) := by
    rw [State.rget_rset_other _ _ (by simp), Fin.ofNat_val_self]
  have hput := State.putRecord_of_pass (rec_ := r) (tok := tok) (s := s.rset (.GEN_ORING_RD k) v) (k := k.val) hring hroom
    (by rw [hwr]; exact ha) hpass
  rw [hput] at hexec
  have hlay := MemoryActs.hubLay s1 a (toBytes 8 r)
  have hall := (MemoryActs.pass _ hpass).trans hlay
  have hrd : ((s1.hubLay a (toBytes 8 r)).rget (.GEN_ORING_RD k)) = v :=
    (hall.regs _ (by simp [memoryRegs, passRegs, signalRegs])).trans (State.rget_rset_same _ _ _)
  have hslot : (s1.hubLay a (toBytes 8 r)).slot k.val = s.slot k.val := hall.slotEq k.val
  generalize s1.hubLay a (toBytes 8 r) = c at *
  refine ⟨_, hexec, hrd, ?_⟩
  rw [State.slot_slotUpd_same, hslot]
  exact ⟨rfl, rfl, rfl, hlay.withGen _⟩

/-- Settles O5, by the operations on a slot's unit and the registers of its ring. -/
theorem sequenceSlotsComplete : Obligations.SequenceSlotsComplete := by
  unfold Obligations.SequenceSlotsComplete
  refine ⟨fun k s => ⟨fun h => if_pos h, seqActivate_completes k s⟩, fun k s => ⟨fun h => ?idle, seqDeactivate_completes k s⟩,
    fun k w v s => ⟨_, rfl, fun j hj => ?stage, ?stageRest, fun j hj => State.slot_slotUpd_other _ _ _ hj, rfl⟩,
    fun v s k hk => ⟨fun h => if_pos h, fun h hok => ?bad, fun h hok => ?go⟩,
    fun k v s => ⟨_, rfl, ?hist, ?histRest, fun j hj => State.slot_slotUpd_other _ _ _ hj, rfl⟩,
    fun k s => ⟨fun h => if_pos h, oringAdvance_completes k s⟩,
    fun k v s => ⟨fun h => ?beyond, fun h hnone => ?free, oringReadAdvance_writes k v s⟩,
    fun s => ⟨fun h => if_neg (by omega), fun h => if_pos h⟩⟩
  case idle => exact congrArg Host.Outcome.next (State.slotEnd_inactive 0 h)
  case stage =>
    rw [State.slot_slotUpd_same, nth_setNth _ _ _ _ (by simp), nth_map_range _ _ hj]
  case stageRest => rw [State.slot_slotUpd_same]
  case bad =>
    subst hk
    exact (if_neg h).trans (if_neg (ne_true_of_eq_false hok))
  case go =>
    subst hk
    exact ⟨_, (if_neg h).trans (if_pos hok), State.slot_slotUpd_same _ _ _, fun j hj => State.slot_slotUpd_other _ _ _ hj, rfl⟩
  case hist =>
    rw [State.slot_slotUpd_same]
    simp only [Fld.get, Nat.pow_zero, Nat.div_one]
  case histRest => rw [State.slot_slotUpd_same]
  case beyond => rw [oringReadAdvance_eq, if_neg (by omega)]
  case free =>
    rw [oringReadAdvance_eq, if_pos h, State.retryRecord, show (s.rset (.GEN_ORING_RD k) v).slot k.val = s.slot k.val from rfl, hnone]

/-! ### The token is among the allowed ones (R91) -/

section
variable {l : List (Word × Nat)} {allowed : List Nat}

/-- The tokens of every entry are among the allowed ones. -/
def TokensIn (allowed : List Nat) (l : List (Word × Nat)) : Prop := ∀ x ∈ l, x.2 ∈ allowed

theorem mem_descending {x : Word × Nat} : x ∈ descending l ↔ x ∈ l := List.mem_mergeSort

theorem descending_ne_nil (h : l ≠ []) : descending l ≠ [] := by
  obtain ⟨x, hx⟩ := List.exists_mem_of_ne_nil l h
  exact List.ne_nil_of_mem (mem_descending.mpr hx)

theorem TokensIn.descending (h : TokensIn allowed l) : TokensIn allowed (descending l) := fun x hx => h x (mem_descending.mp hx)

theorem TokensIn.head (h : TokensIn allowed l) (hl : l ≠ []) (d : Nat) : ((l.head?.map (·.2)).getD d) ∈ allowed := by
  cases l with
  | nil => exact absurd rfl hl
  | cons x l => exact h x List.mem_cons_self

theorem TokensIn.map (h : TokensIn allowed l) (f : Word × Nat → Word) : TokensIn allowed (l.map fun x => (f x, x.2)) := by
  intro x hx
  obtain ⟨y, hy, rfl⟩ := List.mem_map.mp hx
  exact h y hy

theorem mem_of_mem_prefixTo {p : FV} {x : Word × Nat} (sum : FV) (hx : x ∈ prefixTo p sum l) : x ∈ l := by
  induction l generalizing sum with
  | nil => exact hx
  | cons a l ih =>
    rw [prefixTo] at hx
    split at hx
    · rcases List.mem_cons.mp hx with rfl | hx
      · exact List.mem_cons_self
      · exact List.mem_cons_of_mem _ (ih _ hx)
    · exact List.mem_cons.mpr (Or.inl (List.mem_singleton.mp hx))

theorem prefixTo_ne_nil (p sum : FV) (h : l ≠ []) : prefixTo p sum l ≠ [] := by
  cases l with
  | nil => exact absurd rfl h
  | cons a l =>
    rw [prefixTo]
    split <;> exact List.cons_ne_nil _ _

theorem TokensIn.kept (h : TokensIn allowed l) (topK : Nat) (topP minP : FV) : TokensIn allowed (keptTokens topK topP minP l) := by
  have htake : ∀ n, TokensIn allowed ((Machine.descending l).take n) := fun n x hx => h.descending x (List.mem_of_mem_take hx)
  unfold keptTokens
  dsimp only
  split
  · exact htake _
  · split
    · exact htake _
    · exact h.descending

theorem keptTokens_ne_nil (topK : Nat) (topP minP : FV) (h : l ≠ []) : keptTokens topK topP minP l ≠ [] := by
  have htake : ∀ n, n ≠ 0 → (Machine.descending l).take n ≠ [] := fun n hn => by
    simp only [ne_eq, List.take_eq_nil_iff, hn, false_or, descending_ne_nil h, not_false_eq_true]
  unfold keptTokens
  dsimp only
  split
  · exact htake _ ‹_›
  · split
    · exact htake _ (by decide)
    · exact descending_ne_nil h

/-- The token drawn is one of the list's. -/
theorem TokensIn.draw (h : TokensIn allowed l) (hl : l ≠ []) (u : Nat) : drawToken u l ∈ allowed := by
  have hlast : ((l.getLast?.map (·.2)).getD 0) ∈ allowed := by
    rw [List.getLast?_eq_some_getLast hl]
    exact h _ (List.getLast_mem hl)
  unfold drawToken
  extract_lets total goal r
  have hfound : ∀ t, r.2 = some t → t ∈ allowed := by
    refine List.foldlRecOn (motive := fun acc : FV × Option Nat => ∀ t, acc.2 = some t → t ∈ allowed) l _
      (fun t ht => nomatch ht) fun acc hacc x hx t ht => ?_
    dsimp only at ht
    split at ht
    · cases ht
      exact h x hx
    · exact hacc t ht
  cases hr : r.2 with
  | none => exact hlast
  | some t => exact hfound t hr

/-- The tokens left after the two probability thresholds. -/
theorem TokensIn.trimmed (h : TokensIn allowed l) (p : Word × Nat → Bool) : TokensIn allowed (l.take 1 ++ l.tail.filter p) := by
  intro x hx
  rcases List.mem_append.mp hx with hx | hx
  · exact h x (List.mem_of_mem_take hx)
  · exact h x (List.mem_of_mem_tail (List.mem_of_mem_filter hx))

theorem take_one_append_ne_nil {l' : List (Word × Nat)} (h : l ≠ []) : l.take 1 ++ l' ≠ [] := by
  cases l with
  | nil => exact absurd rfl h
  | cons a l => exact List.cons_ne_nil _ _

/-- R91: the token chosen is an allowed one. -/
theorem pickToken_mem (entry : List Word) (logits : List Word) (draw : Nat) (h : allowed ≠ []) :
    (pickToken entry allowed logits draw).1 ∈ allowed := by
  unfold pickToken
  extract_lets temp topP minP cand
  have hcand : TokensIn allowed cand := fun x hx => List.contains_iff_mem.mp (List.mem_filter.mp hx).2
  split
  · cases allowed with
    | nil => exact absurd rfl h
    | cons a l => exact List.mem_cons_self
  · next hall =>
    have hne : cand ≠ [] := fun hnil => hall (by rw [hnil]; rfl)
    split
    · exact hcand.descending.head (descending_ne_nil hne) 0
    · rename_i scaled kept logits m probs pre top fin _
      have hkept : TokensIn allowed kept := (hcand.map _).kept _ _ _
      have hprobs : TokensIn allowed probs := (hkept.map _).descending
      have hprobsNe : probs ≠ [] :=
        descending_ne_nil (List.map_eq_nil_iff.not.mpr (keptTokens_ne_nil _ _ _ (List.map_eq_nil_iff.not.mpr hne)))
      have hpre : TokensIn allowed pre ∧ pre ≠ [] := by
        by_cases hp : FV.lt topP (.num false 1 0) = true
        · rw [show pre = prefixTo topP fvZero probs from if_pos hp]
          exact ⟨fun x hx => hprobs x (mem_of_mem_prefixTo _ hx), prefixTo_ne_nil _ _ hprobsNe⟩
        · rw [show pre = probs from if_neg hp]
          exact ⟨hprobs, hprobsNe⟩
      exact (hpre.1.trimmed _).draw (take_one_append_ne_nil hpre.2) draw

end

/-! ### What follows the choice of a token -/

/-- What the grammar's step, the output record and the slot's end leave of slot `k`: its history, its logits and its mask. -/
structure TokenKeeps (k : Nat) (s t : State) : Prop where
  regs : RegsKept (seqReg k :: memoryRegs) s t
  hist : (t.slot k).hist = (s.slot k).hist
  logits : (t.slot k).logits = (s.slot k).logits
  mask : (t.slot k).mask = (s.slot k).mask

namespace TokenKeeps
variable {k : Nat} {s t u : State}

theorem refl (k : Nat) (s : State) : TokenKeeps k s s := ⟨RegsKept.refl _ s, rfl, rfl, rfl⟩

theorem trans (h : TokenKeeps k s t) (g : TokenKeeps k t u) : TokenKeeps k s u :=
  ⟨h.regs.trans g.regs, g.hist.trans h.hist, g.logits.trans h.logits, g.mask.trans h.mask⟩

theorem of_memoryActs (h : MemoryActs s t) : TokenKeeps k s t := by
  refine ⟨h.regs.mono fun r hr => List.mem_cons_of_mem _ hr, ?_, ?_, ?_⟩ <;> rw [h.slotEq k]

theorem slotUpd (s : State) {f : SlotUnit → SlotUnit} (hh : (f (s.slot k)).hist = (s.slot k).hist)
    (hl : (f (s.slot k)).logits = (s.slot k).logits) (hm : (f (s.slot k)).mask = (s.slot k).mask) : TokenKeeps k s (s.slotUpd k f) := by
  refine ⟨fun _ _ => rfl, ?_, ?_, ?_⟩ <;> rwa [State.slot_slotUpd_same]

end TokenKeeps

section
variable (s : State) (k : Nat)

theorem MemoryActs.gramState (g : GramRec) (q : Nat) : MemoryActs s (s.gramState g q).1 := MemoryActs.hubRead s _ _

theorem MemoryActs.gramTrans (g : GramRec) (q : Nat) : MemoryActs s (s.gramTrans g q).1 :=
  (MemoryActs.gramState s g q).trans (MemoryActs.hubRead _ _ _)

theorem MemoryActs.gramClasses (g : GramRec) : MemoryActs s (s.gramClasses g).1 := MemoryActs.hubRead s _ _

theorem MemoryActs.gramMask : MemoryActs s (s.gramMask k).1 := by
  unfold State.gramMask
  dsimp only
  split
  · exact MemoryActs.refl s
  · exact (MemoryActs.gramClasses s _).trans ((MemoryActs.gramTrans _ _ _).trans (MemoryActs.gramState _ _ _))

theorem MemoryActs.waitFor (q : Requester) (h : Hold) : MemoryActs s (s.waitFor q h) := by
  unfold State.waitFor
  split
  · exact MemoryActs.refl s
  · exact MemoryActs.ite (MemoryActs.refl s) (MemoryActs.tkt s _)

theorem TokenKeeps.gramStep (tok : Nat) : TokenKeeps k s (s.gramStep k tok) := by
  unfold State.gramStep
  dsimp only
  split
  · exact refl k s
  · next n _ =>
    have htrans := (MemoryActs.gramClasses s (s.image.grams.at n)).trans
      (MemoryActs.gramTrans _ (s.image.grams.at n) (s.slot k).gstate)
    split
    · exact refl k s
    · split
      · exact of_memoryActs htrans
      · refine (of_memoryActs htrans).trans (slotUpd _ ?_ ?_ ?_) <;> split_ifs <;> rfl

theorem TokenKeeps.putRecord (rec_ tok : Nat) : TokenKeeps k s (s.putRecord k rec_ tok) := by
  unfold State.putRecord
  split
  · exact slotUpd s rfl rfl rfl
  · dsimp only
    split
    · exact slotUpd s rfl rfl rfl
    · split
      · exact (of_memoryActs (MemoryActs.waitFor s _ _)).trans (slotUpd _ rfl rfl rfl)
      · next hpass =>
        exact (of_memoryActs ((MemoryActs.pass _ hpass).trans (MemoryActs.hubLay _ _ _))).trans (slotUpd _ rfl rfl rfl)

theorem TokenKeeps.slotEnd (c : Nat) : TokenKeeps k s (s.slotEnd k c) := by
  cases h : s.slotActive k with
  | false =>
    rw [State.slotEnd_inactive c h]
    exact refl k s
  | true =>
    rw [State.slotEnd_active c h]
    have hregs : TokenKeeps k s ((s.bset (seqReg k) F.GEN_SEQ_ACT false).fset (seqReg k) F.GEN_SEQ_END c) :=
      ⟨(RegsKept.bset _ _ (by simp)).trans (RegsKept.fset _ _ (by simp)), rfl, rfl, rfl⟩
    generalize (s.bset (seqReg k) F.GEN_SEQ_ACT false).fset (seqReg k) F.GEN_SEQ_END c = a at *
    have hkv : TokenKeeps k a { a with gen := { a.gen with kv := a.gen.kv.filter (fun x => x.1 ≠ k) } } := ⟨fun _ _ => rfl, rfl, rfl, rfl⟩
    exact hregs.trans (hkv.trans (of_memoryActs (a.kvReturn_acts k)))

end

/-! ### The choice (R91) -/

/-- The generator gives a draw, if one is needed. -/
def State.drawn (s : State) (draw : Bool) : State :=
  if draw then { s.tick with gen := { s.gen with draws := s.gen.draws + 1 } } else s

/-- The token joins the slot's history, and its logits and mask are over. -/
def SlotUnit.take (u : SlotUnit) (tok : Nat) : SlotUnit :=
  { u with logits := [], mask := none, hist := (u.hist ++ [tok]).drop (u.hist.length + 1 - 1024) }

/-- The token is taken and counted; `nan` NaN logits are counted, and a `draw` of the generator is. -/
def State.tokenTaken (s : State) (k : Slot) (tok nan : Nat) (draw : Bool) : State :=
  (((s.drawn draw).cnt .GEN_STATUS F.GEN_STATUS_NANLOGIT nan).slotUpd k.val (·.take tok)).wrap (.GEN_CNT k) F.GEN_CNT_TOKENS 1

/-- The tokens that the grammar of slot `k` allows (R91). -/
def State.allowedTokens (s : State) (k : Nat) : List Nat := match (s.slot k).gram with
  | none => List.range s.vocab
  | some _ => (s.slot k).mask.getD []

section
variable (s : State) (k : Slot)

theorem State.adopt_slot (k : Nat) : ((s.adopt k).slot k).hist = (s.slot k).hist ∧ ((s.adopt k).slot k).gram = (s.slot k).gram ∧
    ((s.adopt k).slot k).mask = (s.slot k).mask := by
  rw [State.adopt, State.slot_slotUpd_same]
  split <;> exact ⟨rfl, rfl, rfl⟩

theorem State.adopt_allowedTokens (k : Nat) : (s.adopt k).allowedTokens k = s.allowedTokens k := by
  obtain ⟨_, hgram, hmask⟩ := s.adopt_slot k
  simp only [State.allowedTokens, hgram, hmask]
  rfl

theorem State.drawn_slot (draw : Bool) (k : Nat) : (s.drawn draw).slot k = s.slot k := by cases draw <;> rfl

theorem State.drawn_regs (p : List Reg) (draw : Bool) : RegsKept p s (s.drawn draw) := by
  cases draw <;> exact fun _ _ => rfl

theorem State.cnt_slot (r : Reg) (f : Fld) (n k : Nat) : (s.cnt r f n).slot k = s.slot k := rfl

theorem State.wrap_slot (r : Reg) (f : Fld) (n k : Nat) : (s.wrap r f n).slot k = s.slot k := rfl

theorem State.tokenTaken_slot (tok nan : Nat) (draw : Bool) : (s.tokenTaken k tok nan draw).slot k.val = (s.slot k.val).take tok := by
  rw [State.tokenTaken, State.wrap_slot, State.slot_slotUpd_same, State.cnt_slot, State.drawn_slot]

theorem State.tokenTaken_regs (tok nan : Nat) (draw : Bool) :
    RegsKept [.GEN_SEQ k, .GEN_CNT k, .GEN_STATUS] s (s.tokenTaken k tok nan draw) ∧
    (s.tokenTaken k tok nan draw).fget (.GEN_CNT k) F.GEN_CNT_TOKENS = (s.fget (.GEN_CNT k) F.GEN_CNT_TOKENS + 1) % 2 ^ F.GEN_CNT_TOKENS.len := by
  have hdraw : RegsKept [.GEN_STATUS] s ((s.drawn draw).cnt .GEN_STATUS F.GEN_STATUS_NANLOGIT nan) :=
    (s.drawn_regs _ draw).trans (RegsKept.cnt _ _ (by simp))
  unfold State.tokenTaken
  generalize (s.drawn draw).cnt .GEN_STATUS F.GEN_STATUS_NANLOGIT nan = a at hdraw ⊢
  have hupd : ∀ p, RegsKept p a (a.slotUpd k.val (·.take tok)) := fun _ _ _ => rfl
  refine ⟨(hdraw.mono (by simp)).trans ((hupd _).trans (RegsKept.wrap _ _ (by simp))), ?_⟩
  rw [State.fget_wrap_same _ _ _ _ (by decide), (hupd []).fget (by simp), hdraw.fget (by simp)]

/-- A token is chosen: it is an allowed one, and is taken. -/
theorem tokenChoose_takes (h : s.tokenReady k.val = true) : ∃ u tok nan draw, exec (.tokenChoose k) s = .next u ∧
    (s.allowedTokens k.val ≠ [] → tok ∈ s.allowedTokens k.val) ∧ TokenKeeps k.val ((s.adopt k.val).tokenTaken k tok nan draw) u := by
  have hexec : exec (.tokenChoose k) s = execTokenChoose k s := rfl
  unfold execTokenChoose at hexec
  rw [if_pos h] at hexec
  have hallowed := s.adopt_allowedTokens k.val
  extract_lets s1 u allowed raw ml window recent l z tok ticked gen s2 s3 s4 eos lim limit lp recd s5 at hexec
  refine ⟨_, tok, ml.2, z.2.2, hexec, fun hne => ?mem, ?keeps⟩
  case mem =>
    rw [← hallowed] at hne ⊢
    exact pickToken_mem _ _ _ hne
  case keeps =>
    have h5 : TokenKeeps k.val s3 s5 := (TokenKeeps.gramStep s3 k.val tok).trans (TokenKeeps.putRecord _ _ _ _)
    refine TokenKeeps.trans (t := s5) h5 ?_
    split
    · exact TokenKeeps.slotEnd _ _ _
    · split
      · exact TokenKeeps.slotEnd _ _ _
      · exact TokenKeeps.refl _ _

end

/-! ### The obligation -/

theorem tokenChoose_completes (k : Slot) (s : State) (h : s.tokenReady k.val = true) :
    ∃ u tok, exec (.tokenChoose k) s = .next u ∧ (s.allowedTokens k.val ≠ [] → tok ∈ s.allowedTokens k.val) ∧
      (u.slot k.val).hist = ((s.slot k.val).hist ++ [tok]).drop ((s.slot k.val).hist.length + 1 - 1024) ∧
      (u.slot k.val).logits = [] ∧ (u.slot k.val).mask = none ∧
      u.fget (.GEN_CNT k) F.GEN_CNT_TOKENS = (s.fget (.GEN_CNT k) F.GEN_CNT_TOKENS + 1) % 2 ^ F.GEN_CNT_TOKENS.len ∧
      RegsKept ([.GEN_SEQ k, .GEN_CNT k, .GEN_STATUS] ++ memoryRegs) s u := by
  obtain ⟨u, tok, nan, draw, hexec, hmem, hkeeps⟩ := tokenChoose_takes s k h
  have hslot := (s.adopt k.val).tokenTaken_slot k tok nan draw
  obtain ⟨hregs, hcount⟩ := (s.adopt k.val).tokenTaken_regs k tok nan draw
  have hk : seqReg k.val = .GEN_SEQ k := congrArg Reg.GEN_SEQ (Fin.ofNat_val_self k)
  refine ⟨u, tok, hexec, hmem, ?hist, hkeeps.logits.trans (congrArg _ hslot), hkeeps.mask.trans (congrArg _ hslot), ?count, ?regs⟩
  case hist =>
    rw [hkeeps.hist, hslot, SlotUnit.take, (s.adopt_slot k.val).1]
  case count =>
    exact (hkeeps.regs.fget (by simp [seqReg, memoryRegs, passRegs, signalRegs]) _).trans hcount
  case regs =>
    refine RegsKept.trans (RegsKept.mono (s := s.adopt k.val) hregs fun r hr => List.mem_append_left _ hr) (hkeeps.regs.mono ?_)
    rw [hk]
    exact List.cons_subset.mpr ⟨by simp, List.subset_append_right _ _⟩

theorem grammarMaskDone_completes (k : Slot) (s s1 : State) (l : List Nat) (hact : s.slotActive k.val = true)
    (hgram : (s.slot k.val).gram.isSome = true) (hen : s.bget .GEN_CTL F.GEN_CTL_GRAM_EN = true) (hon : s.gen.gramOn = true)
    (hnone : (s.slot k.val).mask = none) (hmask : s.gramMask k.val = (s1, l)) :
    (∀ e i, l = [] → s1.slotTask k.val = some (e, i) → exec (.grammarMaskDone k) s = .next (s1.slotFault e i 0x09 k.val)) ∧
    (l ≠ [] → ∃ u, exec (.grammarMaskDone k) s = .next u ∧ u.slot k.val = { s.slot k.val with mask := some l } ∧
      (∀ j, j ≠ k.val → u.slot j = s.slot j) ∧ MemoryActs { s with gen := u.gen } u) := by
  have hcond : (s.slotActive k.val && (s.slot k.val).gram.isSome && s.bget .GEN_CTL F.GEN_CTL_GRAM_EN && s.gen.gramOn &&
      decide ((s.slot k.val).mask = none)) = true := by
    simp only [hact, hgram, hen, hon, hnone, Bool.and_self, decide_true]
  have hs1 : MemoryActs s s1 := by
    have := MemoryActs.gramMask s k.val
    rwa [hmask] at this
  have hexec : exec (.grammarMaskDone k) s = _ := if_pos hcond
  simp only [hmask] at hexec
  refine ⟨fun e i hl htask => ?fault, fun hl => ?mask⟩
  case fault =>
    rw [hexec, hl, htask]
  case mask =>
    obtain ⟨t, l, rfl⟩ := List.exists_cons_of_ne_nil hl
    refine ⟨_, hexec, ?_, fun j hj => ?_, hs1.withGen _⟩
    · rw [State.slot_slotUpd_same, hs1.slotEq]
    · rw [State.slot_slotUpd_other _ _ _ hj, hs1.slotEq]

/-- Settles O6, by the choice among the allowed tokens and what the grammar's step, the output record and the slot's end leave. -/
theorem tokensAreChosenAmongTheAllowed : Obligations.TokensAreChosenAmongTheAllowed := by
  unfold Obligations.TokensAreChosenAmongTheAllowed
  refine ⟨fun k s h => if_neg (ne_true_of_eq_false h), fun k s allowed h hallowed => ?_, grammarMaskDone_completes⟩
  obtain rfl : allowed = s.allowedTokens k.val := hallowed
  exact tokenChoose_completes k s h

end Sys2Proof.Machine

namespace Sys2Proof.Machine

/-! PROOFS. Key notices and attestation reports (O51; R461 to R466). -/

/-! ### Key slots -/

theorem State.key_of_keys {s : State} {t : Nat} {x : KeySlot} {f : Fuses} (h : s.fuses = { f with keys := setNth f.keys t x }) (k : Nat) :
    s.key k = if k = t ∧ k < f.keys.length then x else f.slot k := by
  rw [← Fuses.slot_setNth, ← h]
  rfl

theorem State.key_of_fuses {s u : State} (h : u.fuses = s.fuses) (k : Nat) : u.key k = s.key k := by
  simp only [State.key, h]

/-! ### A notice is refused or blown (R461, R462) -/

/-- What a notice's end leaves: its STATE and REASON, and source 6. -/
structure KnotEnded (reason : Nat) (s u : State) : Prop where
  state : u.fget .SEC_KNOT_STAT F.SEC_KNOT_STAT_STATE = if reason = 0 then 2 else 3
  reason : u.fget .SEC_KNOT_STAT F.SEC_KNOT_STAT_REASON = reason
  sec : u.sec = s.sec
  fuses : u.fuses = s.fuses
  raised : Raised 6 s u
  regs : RegsKept ([.SEC_KNOT_STAT, .SEC_EVT] ++ signalRegs) s u

theorem State.knotEnd_ends (s : State) {reason : Nat} (h : reason < 16) : KnotEnded reason s (s.knotEnd reason) := by
  have hstat : Reg.SEC_KNOT_STAT ∉ signalRegs := by simp [signalRegs]
  have hset : ∀ f, (s.knotEnd reason).fget .SEC_KNOT_STAT f = ((s.fset .SEC_KNOT_STAT F.SEC_KNOT_STAT_STATE
      (if reason = 0 then 2 else 3)).fset .SEC_KNOT_STAT F.SEC_KNOT_STAT_REASON reason).fget .SEC_KNOT_STAT f := fun f => by
    rw [State.knotEnd, State.secEvt, State.raise_fget _ _ hstat, State.fget_of_rget (State.rget_rset_other _ _ (by simp))]
  refine ⟨?state, ?reasonKept, State.raise_sec _ _, State.raise_fuses _ _, Raised.of_counts_eq (State.raise_raised _ _) rfl rfl, ?regs⟩
  case state =>
    rw [hset, State.fget_fset_field _ _ _ _ _ (by decide) (by decide), State.fget_fset_same _ _ _ _ (by decide)]
    split <;> rfl
  case reasonKept =>
    rw [hset, State.fget_fset_same _ _ _ _ (by decide)]
    exact Nat.mod_eq_of_lt h
  case regs =>
    exact (((RegsKept.fset _ _ (by simp)).trans (RegsKept.fset _ _ (by simp))).trans (RegsKept.rset _ (by simp))).trans
      ((Signals.raise _ _).regsKept (List.subset_append_right _ _))

theorem State.sec_vfyFail (s : State) (kind reason : Nat) : (s.vfyFail kind reason).sec = s.sec := State.raise_sec _ _

theorem State.fuses_vfyFail (s : State) (kind reason : Nat) : (s.vfyFail kind reason).fuses = s.fuses := State.raise_fuses _ _

theorem State.knotRead_acts (s : State) : MemoryActs s s.knotRead.1 := (MemoryActs.readAt s _ _ _ _).trans (MemoryActs.settle _)

theorem State.knotRefusal_lt (s : State) (l : List Byte) : s.knotRefusal l < 16 := by
  unfold State.knotRefusal
  dsimp only
  split_ifs <;> omega

/-- A notice that nothing refuses enrols an empty slot, or revokes one that is live and not the last of the makers'. -/
theorem State.of_knotRefusal_zero {s : State} {l : List Byte} (h : s.knotRefusal l = 0) :
    (knotOp l = 1 → (s.key (knotTarget l)).empty = true) ∧
    (knotOp l = 2 → (s.key (knotTarget l)).live = true ∧ s.liveMakers ≠ [knotTarget l]) := by
  unfold State.knotRefusal at h
  dsimp only at h
  split at h
  · exact absurd h (by decide)
  · split at h
    · next hop =>
      split at h
      · exact absurd h (by decide)
      · next hempty =>
        simp only [not_or, Bool.not_eq_true', Bool.not_eq_false] at hempty
        exact ⟨fun _ => hempty.2.2, fun hrevoke => absurd ((of_decide_eq_true hop).symm.trans hrevoke) (by decide)⟩
    · next hop =>
      refine ⟨fun henrol => absurd (decide_eq_true henrol) hop, fun _ => ?_⟩
      split at h
      · exact absurd h (by decide)
      · next hlive =>
        split at h
        · exact absurd h (by decide)
        · next hlast =>
          simp only [not_or, Bool.not_eq_true', Bool.not_eq_false] at hlive hlast
          exact ⟨hlive.2, hlast.1⟩

/-- What checking a notice leads to. -/
theorem State.knotCheck_cases (s : State) (l : List Byte) : (s.knotCheck l).fuses = s.fuses ∧
    (((s.knotCheck l).fget .SEC_KNOT_STAT F.SEC_KNOT_STAT_STATE = 3 ∧ (s.knotCheck l).sec.knot = s.sec.knot) ∨
     ((s.knotCheck l).fget .SEC_KNOT_STAT F.SEC_KNOT_STAT_STATE = 1 ∧ knotOk l = true ∧
      (s.knotCheck l).sec.knot = some (knotOp l, knotTarget l, sub l 0x10 32) ∧ s.knotRefusal l = 0)) := by
  unfold State.knotCheck
  dsimp only
  split
  · have h := s.knotEnd_ends (reason := 1) (by decide)
    exact ⟨h.fuses, .inl ⟨h.state, congrArg _ h.sec⟩⟩
  · next hok =>
    split
    · have h := (s.vfyFail 5 (s.sigCheck (knotSlot l) (sub l 0 64) (sub l 0x40 3088))).knotEnd_ends (reason := 2) (by decide)
      exact ⟨h.fuses.trans (s.fuses_vfyFail _ _), .inl ⟨h.state, congrArg _ (h.sec.trans (s.sec_vfyFail _ _))⟩⟩
    · split
      · next hr =>
        have h := s.knotEnd_ends (s.knotRefusal_lt l)
        exact ⟨h.fuses, .inl ⟨h.state.trans (if_neg hr), congrArg _ h.sec⟩⟩
      · next hr =>
        exact ⟨rfl, .inr ⟨State.fget_fset_same _ _ _ _ (by decide), by simpa using hok, rfl, not_not.mp hr⟩⟩

theorem notice_checked (v : Word) (s : State) (hgo : s.knotGo v = true) (c : Instr)
    (hc : (c = .keyEnrol v ∧ knotOp s.knotRead.2 ≠ 2) ∨ (c = .keyRevoke v ∧ knotOp s.knotRead.2 = 2)) :
    exec c s = .next (s.knotRead.1.knotCheck s.knotRead.2) := by
  rcases hc with ⟨rfl, hop⟩ | ⟨rfl, hop⟩ <;> exact if_pos ⟨hgo, hop⟩

theorem notice_refused (s : State) (hbad : knotOk s.knotRead.2 = false) (u : State) (hu : u = s.knotRead.1.knotCheck s.knotRead.2) :
    u.fget .SEC_KNOT_STAT F.SEC_KNOT_STAT_STATE = 3 ∧
    u.fget .SEC_KNOT_STAT F.SEC_KNOT_STAT_REASON = 1 ∧ u.sec.knot = s.sec.knot ∧ u.fuses = s.fuses ∧ 1 ≤ (u.icu.src.at 6).count ∧
    RegsKept ([.SEC_KNOT_STAT, .SEC_EVT] ++ memoryRegs) s u := by
  have hacts := s.knotRead_acts
  have hend : u = s.knotRead.1.knotEnd 1 := by rw [hu, State.knotCheck, hbad, if_pos (by decide)]
  generalize s.knotRead.1 = a at *
  have h : KnotEnded 1 a u := hend ▸ a.knotEnd_ends (by decide)
  refine ⟨h.state, h.reason, ?_, ?_, h.raised.count_pos, ?_⟩
  · rw [h.sec, hacts.rest]
  · rw [h.fuses, hacts.rest]
  · refine (hacts.regs.mono (List.subset_append_right _ _)).trans (h.regs.mono fun r hr => ?_)
    exact (List.mem_append.mp hr).elim (List.mem_append_left _) fun hs => List.mem_append_right _ (mem_memoryRegs_of_signal hs)

theorem notice_outcome (s : State) (u : State) (hu : u = s.knotRead.1.knotCheck s.knotRead.2) : u.fuses = s.fuses ∧
    ((u.fget .SEC_KNOT_STAT F.SEC_KNOT_STAT_STATE = 3 ∧ u.sec.knot = s.sec.knot) ∨
     (u.fget .SEC_KNOT_STAT F.SEC_KNOT_STAT_STATE = 1 ∧ knotOk s.knotRead.2 = true ∧
      u.sec.knot = some (knotOp s.knotRead.2, knotTarget s.knotRead.2, sub s.knotRead.2 0x10 32) ∧
      (knotOp s.knotRead.2 = 1 → (s.key (knotTarget s.knotRead.2)).empty = true) ∧
      (knotOp s.knotRead.2 = 2 → (s.key (knotTarget s.knotRead.2)).live = true ∧
        s.liveMakers ≠ [knotTarget s.knotRead.2]))) := by
  have hacts := s.knotRead_acts
  have hcases := s.knotRead.1.knotCheck_cases s.knotRead.2
  rw [← hu] at hcases
  generalize s.knotRead.2 = l at *
  generalize s.knotRead.1 = a at *
  have hfuses : a.fuses = s.fuses := by rw [hacts.rest]
  have hsec : a.sec = s.sec := by rw [hacts.rest]
  have hkey := State.key_of_fuses hfuses
  obtain ⟨hf, ⟨hstate, hknot⟩ | ⟨hstate, hok, hknot, hzero⟩⟩ := hcases
  · exact ⟨hf.trans hfuses, .inl ⟨hstate, hknot.trans (congrArg _ hsec)⟩⟩
  · have hrefusal := State.of_knotRefusal_zero hzero
    simp only [State.liveMakers, hkey] at hrefusal
    exact ⟨hf.trans hfuses, .inr ⟨hstate, hok, hknot, hrefusal.1, hrefusal.2⟩⟩

/-! ### The fuses are blown, or some of them (R462) -/

/-- The notice in hand is over. -/
def State.knotOver (s : State) : State := { s with sec := { s.sec with knot := none } }

/-- Some of the fuses of a notice are blown. -/
def State.halfBlown (s : State) (op t : Nat) (dig : List Byte) : State :=
  { s.knotOver with fuses := s.fuses.cut s.free (some (op, t, dig)), free := s.free + 32 }

section
variable {s : State} {op t : Nat} {dig : List Byte}

theorem keyNoticeDone_true (h : s.sec.knot = some (op, t, dig)) :
    exec (.keyNoticeDone true) s = .next ((s.knotOver.blow op t dig).knotEnd 0) := by
  change execKeyNoticeDone true s = _
  simp only [execKeyNoticeDone, h]
  rfl

theorem keyNoticeDone_false (h : s.sec.knot = some (op, t, dig)) :
    exec (.keyNoticeDone false) s = .next ((s.halfBlown op t dig).knotEnd 7) := by
  change execKeyNoticeDone false s = _
  simp only [execKeyNoticeDone, h]
  rfl

theorem State.blow_key (ht : t < s.fuses.keys.length) (k : Nat) : (s.knotOver.blow op t dig).key k =
    if k = t then (if op = 1 then { s.key t with digest := dig, valid := true } else { s.key t with revoked := true }) else s.key k := by
  rw [State.key_of_keys (t := t) (f := s.fuses) rfl]
  by_cases hk : k = t
  · subst hk
    rw [if_pos ⟨rfl, ht⟩, if_pos rfl]
    rfl
  · rw [if_neg fun h => hk h.1, if_neg hk]
    rfl

theorem State.halfBlown_key (k : Nat) : ((s.halfBlown op t dig).key k).valid = (s.key k).valid ∧
    ((s.key k).revoked = true → ((s.halfBlown op t dig).key k).revoked = true) ∧ (k ≠ t → (s.halfBlown op t dig).key k = s.key k) := by
  rw [State.key_of_keys (t := t) (f := s.fuses) rfl]
  by_cases hk : k = t ∧ k < s.fuses.keys.length
  · obtain ⟨rfl, _⟩ := hk
    rw [if_pos ⟨rfl, ‹_›⟩]
    refine ⟨?_, fun h => ?_, fun h => absurd rfl h⟩
    · split <;> rfl
    · split
      · exact h
      · exact Bool.or_eq_true_iff.mpr (.inl h)
  · rw [if_neg hk]
    exact ⟨rfl, id, fun _ => rfl⟩

end

theorem keyNoticeDone_completes (s : State) (op t : Nat) (dig : List Byte) (h : s.sec.knot = some (op, t, dig))
    (ht : t < s.fuses.keys.length) :
      (op = 1 → ∃ u, exec (.keyNoticeDone true) s = .next u ∧ (u.key t).digest = dig ∧ (u.key t).valid = true ∧
        (u.key t).revoked = (s.key t).revoked ∧ (∀ k, k ≠ t → u.key k = s.key k) ∧ u.sec.knot = none ∧
        u.fget .SEC_KNOT_STAT F.SEC_KNOT_STAT_STATE = 2 ∧ u.fget .SEC_KNOT_STAT F.SEC_KNOT_STAT_REASON = 0 ∧ Raised 6 s u ∧
        RegsKept ([.SEC_KNOT_STAT, .SEC_EVT] ++ signalRegs) s u) ∧
      (op ≠ 1 → ∃ u, exec (.keyNoticeDone true) s = .next u ∧ u.key t = { s.key t with revoked := true } ∧
        (∀ k, k ≠ t → u.key k = s.key k) ∧ u.sec.knot = none ∧ u.fget .SEC_KNOT_STAT F.SEC_KNOT_STAT_STATE = 2 ∧ Raised 6 s u) ∧
      (∃ u, exec (.keyNoticeDone false) s = .next u ∧ (u.key t).valid = (s.key t).valid ∧
        ((s.key t).revoked = true → (u.key t).revoked = true) ∧ (∀ k, k ≠ t → u.key k = s.key k) ∧ u.sec.knot = none ∧
        u.fget .SEC_KNOT_STAT F.SEC_KNOT_STAT_STATE = 3 ∧ u.fget .SEC_KNOT_STAT F.SEC_KNOT_STAT_REASON = 7 ∧ Raised 6 s u) := by
  have hdone := (s.knotOver.blow op t dig).knotEnd_ends (reason := 0) (by decide)
  have hhalf := (s.halfBlown op t dig).knotEnd_ends (reason := 7) (by decide)
  have hkey := State.key_of_fuses hdone.fuses
  have hkeyHalf := State.key_of_fuses hhalf.fuses
  have hblown := State.blow_key (op := op) (dig := dig) ht
  refine ⟨fun hop => ⟨_, keyNoticeDone_true h, ?_⟩, fun hop => ⟨_, keyNoticeDone_true h, ?_⟩, _, keyNoticeDone_false h, ?_⟩
  · simp only [if_pos hop] at hblown
    simp only [hkey, hblown, if_true]
    exact ⟨trivial, trivial, trivial, fun k hk => if_neg hk, congrArg SecUnit.knot hdone.sec, hdone.state, hdone.reason,
      hdone.raised.of_counts_eq rfl rfl, hdone.regs⟩
  · simp only [if_neg hop] at hblown
    simp only [hkey, hblown, if_true]
    exact ⟨trivial, fun k hk => if_neg hk, congrArg SecUnit.knot hdone.sec, hdone.state, hdone.raised.of_counts_eq rfl rfl⟩
  · simp only [hkeyHalf]
    exact ⟨(State.halfBlown_key t).1, (State.halfBlown_key t).2.1, fun k hk => (State.halfBlown_key k).2.2 hk,
      congrArg SecUnit.knot hhalf.sec, hhalf.state, hhalf.reason, hhalf.raised.of_counts_eq rfl rfl⟩

/-! ### Reports (R464, R465) -/

theorem attestHost_completes (v : Word) (s : State) :
    (F.SEC_ATT_GO_GO.get v = 0 → exec (.attestHost v) s = .next s) ∧
    (F.SEC_ATT_GO_GO.get v = 1 → s.sec.att ≠ none → ∃ u, exec (.attestHost v) s = .next u ∧
      u.bget .SEC_ATT_STAT F.SEC_ATT_STAT_ERR = true ∧ OnlyRegs [.SEC_ATT_STAT] s u) ∧
    (F.SEC_ATT_GO_GO.get v = 1 → s.sec.att = none → ∃ u, exec (.attestHost v) s = .next u ∧
      u.sec = { s.sec with att := some (s.reportBody 0 s.hostNonce), reports := s.sec.reports + 1 } ∧
      u.fget .SEC_ATT_STAT F.SEC_ATT_STAT_STATE = 1 ∧ OnlyRegs [.SEC_ATT_STAT] { s with sec := u.sec } u) := by
  refine ⟨fun h => if_pos h, fun hgo hbusy => ?busy, fun hgo hfree => ?free⟩
  case busy =>
    have hexec : exec (.attestHost v) s = .next (s.bset .SEC_ATT_STAT F.SEC_ATT_STAT_ERR true) :=
      (if_neg (by omega)).trans (if_pos (Option.isSome_iff_ne_none.mpr hbusy))
    exact ⟨_, hexec, State.bget_bset_same _ _ _ _ (by decide) (by decide), OnlyRegs.bset _ _ (by simp)⟩
  case free =>
    have hexec : exec (.attestHost v) s = _ := (if_neg (by omega)).trans (if_neg (by simp [hfree]))
    exact ⟨_, hexec, rfl, State.fget_fset_same _ _ _ _ (by decide), OnlyRegs.fset _ _ (by simp)⟩

/-- The end of a report of the host path leaves its STATE, and source 5. -/
theorem State.attestOut_ends (s : State) (body : List Byte) : (s.attestOut body).sec = { s.sec with att := none } ∧
    (s.attestOut body).fget .SEC_ATT_STAT F.SEC_ATT_STAT_STATE = 2 ∧ 1 ≤ ((s.attestOut body).icu.src.at 5).count ∧
    RegsKept ([.SEC_ATT_STAT, .SEC_EVT] ++ memoryRegs) s (s.attestOut body) := by
  have hwrite : MemoryActs { s with sec := { s.sec with att := none } } _ :=
    MemoryActs.hubWrite _ (sbfAddr (s.fget .SEC_ATT_OFF F.SEC_ATT_OFF_OFFSET)) (report body)
  unfold State.attestOut
  generalize ({ s with sec := { s.sec with att := none } } : State).hubWrite (sbfAddr (s.fget .SEC_ATT_OFF F.SEC_ATT_OFF_OFFSET))
    (report body) = a at hwrite ⊢
  have hregs : RegsKept memoryRegs s a := hwrite.regs
  refine ⟨?sec, ?state, State.raise_count_pos _ 5, ?regs⟩
  case sec => exact (State.raise_sec _ _).trans (show a.sec = _ by rw [hwrite.rest])
  case state =>
    rw [State.secEvt, State.raise_fget _ _ (by simp [signalRegs]), State.fget_of_rget (State.rget_rset_other _ _ (by simp)),
      State.fget_fset_field _ _ _ _ _ (by decide) (by decide)]
    exact State.fget_fset_same _ _ _ _ (by decide)
  case regs =>
    refine (hregs.mono (List.subset_append_right _ _)).trans ?_
    exact (((RegsKept.fset _ _ (by simp)).trans (RegsKept.fset _ _ (by simp))).trans (RegsKept.rset _ (by simp))).trans
      ((Signals.raise _ _).regsKept fun r hr => List.mem_append_right _ (mem_memoryRegs_of_signal hr))

theorem attestDone_completes (s : State) :
    (s.sec.att = none → exec (.attestDone false) s = .next s) ∧ (s.sec.ldpAtt = none → exec (.attestDone true) s = .next s) ∧
    (∀ b, s.sec.att = some b → ∃ u, exec (.attestDone false) s = .next u ∧ u.sec.att = none ∧
      u.fget .SEC_ATT_STAT F.SEC_ATT_STAT_STATE = 2 ∧ 1 ≤ (u.icu.src.at 5).count ∧ u.fuses = s.fuses ∧
      RegsKept ([.SEC_ATT_STAT, .SEC_EVT] ++ memoryRegs) s u) ∧
    (∀ b, s.sec.ldpAtt = some b → ∃ u, exec (.attestDone true) s = .next u ∧ u.resp = .vendor 0 [0x08, 0x06] ∧
      u.sec = { s.sec with ldpAtt := none, ldpReport := some (report b) } ∧
      u.fget .LDP_REQ F.LDP_REQ_SERVED = min (s.fget .LDP_REQ F.LDP_REQ_SERVED + 1) (2 ^ F.LDP_REQ_SERVED.len - 1) ∧
      OnlyRegs [.LDP_REQ] { s with sec := u.sec, resp := u.resp } u) := by
  have hexec : ∀ b, exec (.attestDone b) s = execAttestDone b s := fun _ => rfl
  refine ⟨fun h => ?idleHost, fun h => ?idleLanding, fun b h => ?host, fun b h => ?landing⟩
  case idleHost => simp only [hexec, execAttestDone, h]
  case idleLanding => simp only [hexec, execAttestDone, h]
  case host =>
    have hu : exec (.attestDone false) s = .next (s.attestOut b) := by simp only [hexec, execAttestDone, h]
    obtain ⟨hsec, hstate, hcount, hregs⟩ := s.attestOut_ends b
    exact ⟨_, hu, by rw [hsec], hstate, hcount, (Keeps.attestOut (Keeps.rfl s)).fuses_eq, hregs⟩
  case landing =>
    have hu := hexec true
    simp only [execAttestDone, h] at hu
    exact ⟨_, hu, rfl, rfl, State.fget_cnt_same _ _ _ _ (by decide), OnlyRegs.cnt _ _ (by simp)⟩

/-! ### The obligation -/

/-- Settles O51, by the outcomes of checking a notice, the fuses that its end blows, and the two paths of a report. -/
theorem noticesAndReportsComplete : Obligations.NoticesAndReportsComplete := by
  unfold Obligations.NoticesAndReportsComplete
  refine ⟨fun v s => ⟨fun h => ?ignored, fun h => ⟨fun hop => if_neg fun hc => hop hc.2, fun hop => if_neg fun hc => hc.2 hop,
    fun c hc => ⟨fun hbad => ?_, ?_⟩⟩⟩, fun ok s => ⟨fun h => ?none, fun op t dig h ht => keyNoticeDone_completes s op t dig h ht⟩,
    attestHost_completes, attestDone_completes⟩
  case ignored =>
    exact ⟨if_neg fun hc => ne_true_of_eq_false h hc.1, if_neg fun hc => ne_true_of_eq_false h hc.1⟩
  case none =>
    change execKeyNoticeDone ok s = _
    simp only [execKeyNoticeDone, h]
  · exact ⟨_, notice_checked v s h c hc, notice_refused s hbad _ rfl⟩
  · exact ⟨_, notice_checked v s h c hc, notice_outcome s _ rfl⟩

end Sys2Proof.Machine

namespace Sys2Proof.Machine

/-! PROOFS. The landing port's answers (O49; R440 to R446, R449, R453, R454). -/

/-! ### The form of requests and of their responses (R440, R441) -/

section
variable {s : State} {cmd : Nat} {f : State → State}

theorem State.request442_ready (h : LdpReady s) : s.request442 cmd f = .next (f s) := by
  obtain ⟨hdead, hbusy⟩ := h
  rw [State.request442, hdead, hbusy, if_neg Bool.false_ne_true, if_neg Bool.false_ne_true]

theorem State.request442_dead (h : s.ldpDead = true) : s.request442 cmd f = .next { s with resp := .none } := by
  rw [State.request442, if_pos h]
  rfl

theorem State.vendor_plain (s : State) (cmd : Nat) {result : Nat} (payload : List Byte) (h0 : result ≠ 0) (h4 : result ≠ 4)
    (h6 : result ≠ 6) : s.vendor cmd result payload = { s with resp := .vendor result payload } :=
  (if_neg h0).trans (if_neg (by omega))

theorem State.request442_busy (hdead : s.ldpDead = false) (hbusy : s.ldpBusy = true) :
    s.request442 cmd f = .next { s with resp := .vendor 2 [] } := by
  rw [State.request442, hdead, hbusy, if_neg Bool.false_ne_true, if_pos rfl,
    State.vendor_plain s cmd [] (by decide) (by decide) (by decide)]

theorem State.vendor_done (s : State) (cmd : Nat) (payload : List Byte) : Done payload s (s.vendor cmd 0 payload) := by
  rw [State.vendor, if_pos rfl]
  exact ⟨rfl, State.fget_cnt_same _ _ _ _ (by decide), OnlyRegs.cnt _ _ (by simp)⟩

/-- LDP_REQ of a request that is refused. -/
def State.refusalNoted (s : State) (cmd result : Nat) (payload : List Byte) : State :=
  ((s.reply (.vendor result payload)).cnt .LDP_REQ F.LDP_REQ_REFUSED 1).fset .LDP_REQ F.LDP_REQ_LAST_CMD cmd

theorem State.refusalNoted_regs (s : State) (cmd result : Nat) (payload : List Byte) :
    RegsKept [.LDP_REQ] s (s.refusalNoted cmd result payload) :=
  RegsKept.trans (t := s.reply (.vendor result payload)) (fun _ _ => rfl) ((RegsKept.cnt _ _ (by simp)).trans (RegsKept.fset _ _ (by simp)))

theorem State.vendor_refused (s : State) {cmd result : Nat} (payload : List Byte) (hcmd : cmd < 256) (h : result = 4 ∨ result = 6) :
    Refused cmd result payload s (s.vendor cmd result payload) := by
  have hu : s.vendor cmd result payload = (s.refusalNoted cmd result payload).ldpEvt 2 := (if_neg (by omega)).trans (if_pos h)
  have hreq : ∀ f, ((s.refusalNoted cmd result payload).ldpEvt 2).fget .LDP_REQ f =
      (s.refusalNoted cmd result payload).fget .LDP_REQ f := fun f => by
    rw [State.ldpEvt, State.raise_fget _ _ (by simp [signalRegs]), State.fget_fset_other _ _ _ _ (by simp)]
  rw [hu]
  refine ⟨State.raise_resp _ _, (State.raise_raised _ 14).of_counts_eq rfl rfl, ?cmd, ?count, ?regs, State.raise_mem _ _, State.raise_spans _ _,
    State.raise_fuses _ _⟩
  case cmd =>
    rw [hreq, State.refusalNoted, State.fget_fset_same _ _ _ _ (by decide)]
    exact Nat.mod_eq_of_lt hcmd
  case count =>
    rw [hreq, State.refusalNoted, State.fget_fset_field _ _ _ _ _ (by decide) (by decide)]
    exact State.fget_cnt_same _ _ _ _ (by decide)
  case regs =>
    exact ((s.refusalNoted_regs cmd result payload).mono (by simp)).trans
      ((RegsKept.fset _ _ (by simp)).trans ((Signals.raise _ _).regsKept (List.subset_append_right _ _)))

end

theorem exec_of_request442 {c : Instr} {cmd : Nat} {f : State → State} {s : State} (hc : exec c s = s.request442 cmd f) (h : LdpReady s) :
    exec c s = .next (f s) := hc.trans (State.request442_ready h)

/-- Every vendor request is one of R440. -/
theorem vendorRequests_requested (addr off : Nat) (count : Byte) (ws : List Word) (x : Word) (key : Fin 65536) (b : Bool) (l : List Byte)
    (f : Found) (o : Fin 65536) :
    ∀ c ∈ vendorRequests addr off count ws x key b l f o, ∃ cmd g, ∀ s, exec c s = s.request442 cmd g := by
  simp only [vendorRequests, List.forall_mem_cons]
  exact ⟨⟨1, _, fun _ => rfl⟩, ⟨2, _, fun _ => rfl⟩, ⟨3, _, fun _ => rfl⟩, ⟨4, _, fun _ => rfl⟩, ⟨5, _, fun _ => rfl⟩,
    ⟨6, _, fun _ => rfl⟩, ⟨7, _, fun _ => rfl⟩, ⟨7, _, fun _ => rfl⟩, ⟨8, _, fun _ => rfl⟩, ⟨8, _, fun _ => rfl⟩, ⟨8, _, fun _ => rfl⟩,
    ⟨8, _, fun _ => rfl⟩, ⟨9, _, fun _ => rfl⟩, ⟨10, _, fun _ => rfl⟩, ⟨11, _, fun _ => rfl⟩, ⟨12, _, fun _ => rfl⟩,
    ⟨12, _, fun _ => rfl⟩, ⟨12, _, fun _ => rfl⟩, List.forall_mem_nil _⟩

/-! ### MCTP control messages (R440) -/

theorem State.control440_dead {s : State} {f : State → State × List Byte} (h : s.ldpDead = true) :
    s.control440 f = .next { s with resp := .none } := by
  rw [State.control440, if_pos h]
  rfl

theorem State.control440_live {s : State} {f : State → State × List Byte} (h : s.ldpDead = false) :
    s.control440 f = .next ((f s).1.reply (.mctp (f s).2)) := if_neg (ne_true_of_eq_false h)

theorem exec_of_control440 {c : Instr} {s : State} {f : State → State × List Byte} (hc : exec c s = s.control440 f)
    (h : s.ldpDead = false) : exec c s = .next ((f s).1.reply (.mctp (f s).2)) := hc.trans (State.control440_live h)

/-- Every control message has the form of R440. -/
theorem controlMessages_controlled (e : Byte) :
    ∀ c ∈ [Instr.setEndpointId e, .getEndpointId, .getMctpVersionSupport, .getMessageTypeSupport, .getVendorDefinedMsgSupport],
      ∃ g, ∀ s, exec c s = s.control440 g := by
  simp only [List.forall_mem_cons]
  exact ⟨⟨_, fun _ => rfl⟩, ⟨_, fun _ => rfl⟩, ⟨_, fun _ => rfl⟩, ⟨_, fun _ => rfl⟩, ⟨_, fun _ => rfl⟩, List.forall_mem_nil _⟩

theorem controlMessages_answered (e : Byte) (s : State) (h : s.ldpDead = false) :
    ((e = 0 ∨ e = 0xFF) → exec (.setEndpointId e) s = .next { s with resp := .mctp [2] }) ∧
    (e ≠ 0 → e ≠ 0xFF → ∃ u, exec (.setEndpointId e) s = .next u ∧ u.resp = .mctp [0, 0, e, 0] ∧
      u.fget .LDP_STAT F.LDP_STAT_EID = e.toNat ∧ OnlyRegs [.LDP_STAT] { s with resp := u.resp } u) ∧
    exec .getEndpointId s = .next { s with resp := .mctp [0, byteOf (s.fget .LDP_STAT F.LDP_STAT_EID), 0, 0] } ∧
    exec .getMessageTypeSupport s = .next { s with resp := .mctp [0, 1, 0x7E] } ∧
    (∃ u l, exec .getMctpVersionSupport s = .next u ∧ u.resp = .mctp ([0, 1] ++ l) ∧ l.length = 4 ∧
      u = { s with resp := u.resp, free := u.free }) ∧
    (∃ u l, exec .getVendorDefinedMsgSupport s = .next u ∧
      u.resp = .mctp ([0, 0xFF, 0, byteOf (s.fuses.vendor / 256), byteOf s.fuses.vendor] ++ l) ∧ l.length = 2 ∧
      u = { s with resp := u.resp, free := u.free }) := by
  have hset := exec_of_control440 (c := .setEndpointId e) (s := s) (show execSetEndpointId e s = _ from rfl) h
  have hid := exec_of_control440 (c := .getEndpointId) (s := s) (show execGetEndpointId s = _ from rfl) h
  have htypes := exec_of_control440 (c := .getMessageTypeSupport) (s := s) (show execGetMessageTypeSupport s = _ from rfl) h
  have hversion := exec_of_control440 (c := .getMctpVersionSupport) (s := s) (show execGetMctpVersionSupport s = _ from rfl) h
  have hvendor := exec_of_control440 (c := .getVendorDefinedMsgSupport) (s := s) (show execGetVendorDefinedMsgSupport s = _ from rfl) h
  refine ⟨fun he => ?null, fun h0 h255 => ?set, hid, htypes,
    ⟨_, _, hversion, rfl, toBytes_length _ _, rfl⟩, ⟨_, _, hvendor, rfl, toBytes_length _ _, rfl⟩⟩
  case null =>
    rw [if_pos he] at hset
    exact hset
  case set =>
    rw [if_neg (by tauto)] at hset
    refine ⟨_, hset, rfl, ?_, OnlyRegs.fset _ _ (by simp)⟩
    exact (State.fget_fset_same s .LDP_STAT F.LDP_STAT_EID e.toNat (by decide)).trans (Nat.mod_eq_of_lt e.isLt)

/-! ### Information, log and crash capture (R442, R449) -/

theorem informationRead (s : State) (h : LdpReady s) :
    (∃ u, exec .getInfo s = .next u ∧ Done (toBytes 4 (s.ldpView .LDP_STAT).toNat ++ toBytes 4 (s.ldpView .BUP_STAT).toNat ++
      toBytes 4 (s.ldpView .PWR_STATE).toNat ++ toBytes 4 s.fuses.serial) s u) ∧
    (∀ i : Word, ∃ u, exec (.logRead i) s = .next u ∧ Done (s.logBytes i.toNat) s u) ∧
    (∀ o : Byte, (o = 0 ∨ o = 64) → ∃ u, exec (.crashRead o) s = .next u ∧
      Done ((List.range 16).flatMap (fun w => toBytes 4 (nth s.ldp.crash (o.toNat / 4 + w)).toNat)) s u) ∧
    (∀ o : Byte, o ≠ 0 → o ≠ 64 → exec (.crashRead o) s = .next { s with resp := .vendor 3 [] }) ∧
    (∃ u, exec .crashClear s = .next u ∧ Done [] { s with ldp := { s.ldp with crash := [] } } u) := by
  have hinfo := exec_of_request442 (c := .getInfo) (s := s) (show execGetInfo s = _ from rfl) h
  have hlog := fun i => exec_of_request442 (c := .logRead i) (s := s) (show execLogRead i s = _ from rfl) h
  have hclear := exec_of_request442 (c := .crashClear) (s := s) (show execCrashClear s = _ from rfl) h
  have hread := fun o => exec_of_request442 (c := .crashRead o) (s := s) (show execCrashRead o s = _ from rfl) h
  refine ⟨⟨_, hinfo, State.vendor_done _ _ _⟩, fun i => ⟨_, hlog i, State.vendor_done _ _ _⟩,
    fun o ho => ⟨_, hread o, ?half⟩, fun o h0 h64 => (hread o).trans ?other, ⟨_, hclear, State.vendor_done _ _ _⟩⟩
  case half =>
    rw [if_pos (by rcases ho with rfl | rfl <;> decide), span, List.flatMap_map]
    exact State.vendor_done _ _ _
  case other =>
    rw [if_neg, State.vendor_plain _ _ _ (by decide) (by decide) (by decide)]
    rintro (h | h)
    · exact h0 (BitVec.eq_of_toNat_eq h)
    · exact h64 (BitVec.eq_of_toNat_eq h)

/-! ### Registers (R444, R445) -/

/-- The word at an offset that is not refused. -/
theorem State.ldpRead_one (s : State) (addr : Nat) : State.ldpRead 1 addr s =
    if s.wordRefusal false addr ≠ 0 then (s, s.wordRefusal false addr, [])
    else ((s.regReadAt addr).1, 0, toBytes 4 (s.regReadAt addr).2.toNat) := by
  rw [State.ldpRead]
  dsimp only
  split
  · rfl
  · rw [State.ldpRead, List.append_nil]

theorem State.ldpWrite_one (s : State) (addr : Nat) (v : Word) : State.ldpWrite [v] addr 0 s =
    if s.wordRefusal true addr ≠ 0 then (s, some (s.wordRefusal true addr), 0)
    else if resetWord addr v then (s.regWriteAt .landing 0 addr v, none, 0)
    else (s.regWriteAt .landing 0 addr v, some 0, 1) := by
  rw [State.ldpWrite]
  rfl

section
variable (addr : Nat) (s : State)

theorem regRead_one (h : LdpReady s) : exec (.regRead addr 1) s =
    .next ((State.ldpRead 1 addr s).1.vendor 2 (State.ldpRead 1 addr s).2.1 (State.ldpRead 1 addr s).2.2) := by
  have hexec := exec_of_request442 (c := .regRead addr 1) (s := s) (show execRegRead addr 1 s = _ from rfl) h
  rwa [if_neg (by decide)] at hexec

theorem regWrite_one (v : Word) (h : LdpReady s) : exec (.regWrite addr 1 [v]) s = .next (match (State.ldpWrite [v] addr 0 s).2.1 with
    | some x => (State.ldpWrite [v] addr 0 s).1.vendor 3 x [byteOf (State.ldpWrite [v] addr 0 s).2.2]
    | none => (State.ldpWrite [v] addr 0 s).1.reply .none) := by
  have hexec := exec_of_request442 (c := .regWrite addr 1 [v]) (s := s) (show execRegWrite addr 1 [v] s = _ from rfl) h
  rwa [if_neg (by simp)] at hexec

theorem wordsServed (h : LdpReady s) :
    (s.wordRefusal false addr = 0 → ∃ u t, exec (.regRead addr 1) s = .next u ∧ t = s.regReadAt addr ∧
      Done (toBytes 4 t.2.toNat) t.1 u) ∧
    (s.wordRefusal false addr = 4 → ∃ u, exec (.regRead addr 1) s = .next u ∧ Refused 2 4 [] s u) ∧
    (∀ r, s.wordRefusal false addr = r → (r = 1 ∨ r = 5) → exec (.regRead addr 1) s = .next { s with resp := .vendor r [] }) ∧
    (∀ v, s.wordRefusal true addr = 0 → resetWord addr v = false → ∃ u, exec (.regWrite addr 1 [v]) s = .next u ∧
      Done [1] (s.regWriteAt .landing 0 addr v) u) ∧
    (∀ v, s.wordRefusal true addr = 4 → ∃ u, exec (.regWrite addr 1 [v]) s = .next u ∧ Refused 3 4 [0] s u) ∧
    (∀ v, s.wordRefusal true addr = 0 → resetWord addr v = true → ∃ u, exec (.regWrite addr 1 [v]) s = .next u ∧ u.resp = .none ∧
      u = { s.regWriteAt .landing 0 addr v with resp := .none }) := by
  have hread := regRead_one addr s h
  have hwrite := fun v => regWrite_one addr s v h
  simp only [State.ldpRead_one] at hread
  simp only [State.ldpWrite_one] at hwrite
  refine ⟨fun h0 => ?read, fun h4 => ?readDenied, fun r hr hr' => ?readRefused, fun v h0 hv => ?write, fun v h4 => ?writeDenied, fun v h0 hv => ?reset⟩
  case read =>
    rw [if_neg (not_not.mpr h0)] at hread
    exact ⟨_, _, hread, rfl, State.vendor_done _ _ _⟩
  case readDenied =>
    rw [if_pos (by omega), h4] at hread
    exact ⟨_, hread, State.vendor_refused _ _ (by decide) (.inl rfl)⟩
  case readRefused =>
    rw [if_pos (by omega), hr] at hread
    rw [hread, State.vendor_plain _ _ _ (by rintro rfl; omega) (by rintro rfl; omega) (by rintro rfl; omega)]
  case write =>
    specialize hwrite v
    rw [if_neg (not_not.mpr h0), if_neg (ne_true_of_eq_false hv)] at hwrite
    exact ⟨_, hwrite, State.vendor_done _ _ _⟩
  case writeDenied =>
    specialize hwrite v
    rw [if_pos (by omega), h4] at hwrite
    exact ⟨_, hwrite, State.vendor_refused _ _ (by decide) (.inl rfl)⟩
  case reset =>
    specialize hwrite v
    rw [if_neg (not_not.mpr h0), if_pos hv] at hwrite
    exact ⟨_, hwrite, rfl, rfl⟩

end

/-! ### Mailboxes and the alert line (R446, R449, R453, R454) -/

theorem mailboxesWritten (v : Word) (s : State) :
    (F.LDP_CRASH_CLR_CLR.get v = 1 → exec (.crashClrWrite v) s = .next { s with ldp := { s.ldp with crash := [] } }) ∧
    (F.LDP_CRASH_CLR_CLR.get v = 0 → exec (.crashClrWrite v) s = .next s) ∧
    (∃ u, exec (.mboxInWrite v) s = .next u ∧ u.rget .LDP_MBOX_IN = v ∧ u.fget .LDP_EVT ⟨0, 1⟩ = 1 ∧ Raised 12 s u ∧
      RegsKept ([.LDP_MBOX_IN, .LDP_EVT] ++ signalRegs) s u ∧ u.mem = s.mem) ∧
    (∃ u, exec (.mboxOutWrite v) s = .next u ∧ u.rget .LDP_MBOX_OUT = v ∧ u.bget .LDP_ALERT F.LDP_ALERT_MBOX = true ∧
      RegsKept [.LDP_MBOX_OUT, .LDP_ALERT] s u ∧ u.icu = s.icu ∧ u.mem = s.mem) := by
  have hin : exec (.mboxInWrite v) s = .next ((s.rset .LDP_MBOX_IN v).ldpEvt 0) := rfl
  have hout : exec (.mboxOutWrite v) s = .next ((s.rset .LDP_MBOX_OUT v).alertBit F.LDP_ALERT_MBOX) := rfl
  refine ⟨fun h => if_pos h, fun h => if_neg (by omega), ⟨_, hin, ?value, ?event, ?raised, ?inRegs, State.raise_mem _ _⟩, _, hout, ?_⟩
  case value =>
    rw [State.ldpEvt, State.raise_rget _ _ (by simp [signalRegs]), State.rget_fset_other _ _ _ (by simp), State.rget_rset_same]
  case event =>
    rw [State.ldpEvt, State.raise_fget _ _ (by simp [signalRegs]), State.fget_fset_same _ _ _ _ (by decide)]
    rfl
  case raised => exact (State.raise_raised _ 12).of_counts_eq rfl rfl
  case inRegs =>
    exact ((RegsKept.rset _ (by simp)).trans (RegsKept.fset _ _ (by simp))).trans ((Signals.raise _ _).regsKept (List.subset_append_right _ _))
  · unfold State.alertBit
    split
    · next hset => exact ⟨State.rget_rset_same _ _ _, hset, RegsKept.rset _ (by simp), rfl, rfl⟩
    · refine ⟨?_, State.bget_bset_same _ _ _ _ (by decide) (by decide), ?_, rfl, rfl⟩
      · exact (State.rget_fset_other _ _ _ (by simp)).trans (State.rget_rset_same _ _ _)
      · exact (RegsKept.rset _ (by simp)).trans (RegsKept.bset _ _ (by simp))

theorem alertLine (s : State) :
    ((s.ldpDead = true ∨ s.alertN = false) → exec .araRead s = .next { s with resp := .none }) ∧
    (s.ldpDead = false → s.alertN = true → ∃ u, exec .araRead s = .next u ∧ u.resp = .word (wordOf (0x60 + s.bup.smbAddr)) ∧
      u.alertN = false ∧ u = { s with resp := u.resp, ldp := { s.ldp with released := true } }) ∧
    ((s.rget .LDP_ALERT).toNat &&& s.fget .LDP_ALERT_EN F.LDP_ALERT_EN_EN = 0 → exec .alertReassert s = .next s) ∧
    ((s.rget .LDP_ALERT).toNat &&& s.fget .LDP_ALERT_EN F.LDP_ALERT_EN_EN ≠ 0 → ∃ u, exec .alertReassert s = .next u ∧ u.alertN = true ∧
      u = { s with ldp := { s.ldp with released := false } }) := by
  refine ⟨fun h => if_pos (by simpa using h), fun hdead halert => ⟨_, if_neg (by simp [hdead, halert]), rfl, Bool.and_false _, rfl⟩,
    fun h => if_neg (not_not.mpr h), fun h => ⟨_, if_pos h, ?_, rfl⟩⟩
  exact Bool.and_eq_true_iff.mpr ⟨decide_eq_true h, rfl⟩

/-- Settles O49, by the form that the port's requests share, and the answer of each. -/
theorem landingPortAnswers : Obligations.LandingPortAnswers := by
  unfold Obligations.LandingPortAnswers
  refine ⟨fun addr off count ws x key b l f o c hc s => ?vendor, fun e c hc s hdead => ?control, controlMessages_answered, informationRead,
    fun addr count ws s h hcount => ⟨?regRead, ?regWrite⟩, wordsServed, mailboxesWritten, alertLine⟩
  case vendor =>
    obtain ⟨cmd, g, hexec⟩ := vendorRequests_requested addr off count ws x key b l f o c hc
    exact ⟨fun hdead => (hexec s).trans (State.request442_dead hdead), fun hdead hbusy => (hexec s).trans (State.request442_busy hdead hbusy)⟩
  case control =>
    obtain ⟨g, hexec⟩ := controlMessages_controlled e c hc
    exact (hexec s).trans (State.control440_dead hdead)
  case regRead =>
    have hexec := exec_of_request442 (c := .regRead addr count) (s := s) (show execRegRead addr count s = _ from rfl) h
    rw [if_pos hcount] at hexec
    exact hexec.trans (congrArg Host.Outcome.next (State.vendor_plain _ _ _ (by decide) (by decide) (by decide)))
  case regWrite =>
    have hexec := exec_of_request442 (c := .regWrite addr count ws) (s := s) (show execRegWrite addr count ws s = _ from rfl) h
    rw [if_pos (or_assoc.mp (.inl hcount))] at hexec
    exact hexec.trans (congrArg Host.Outcome.next (State.vendor_plain _ _ _ (by decide) (by decide) (by decide)))

end Sys2Proof.Machine

namespace Sys2Proof.Machine

/-! PROOFS. What a reset leaves (R17, R377, R380), and the ports as Standby begins (R370). -/

/-! ### Registers after a reset -/

/-- A register of which a reset keeps nothing is at its reset value. -/
theorem regGet_regsAfter_of_keeps_zero {k : ResetKind} {r : Reg} (h : k.keeps r = 0) (l : List (Reg × Word)) :
    regGet (regsAfter k l) r = r.reset := by
  induction l with
  | nil => rfl
  | cons e l ih =>
    rw [regsAfter, List.map_cons, List.filter_cons]
    split
    · next hlisted =>
      rw [regGet, if_neg, ← regsAfter]
      · exact ih
      · rintro rfl
        exact of_decide_eq_true hlisted (by
          rw [h]
          change e.2 &&& 0#32 ||| e.1.reset &&& ~~~0#32 = e.1.reset
          rw [BitVec.and_zero, BitVec.zero_or, BitVec.not_zero, BitVec.and_allOnes])
    · exact ih

theorem regGet_regSet_other (l : List (Reg × Word)) {r q : Reg} (v : Word) (h : q ≠ r) : regGet (regSet l r v) q = regGet l q :=
  State.rget_rset_other { (default : State) with regs := l } v h

theorem regGet_restStacks (old new : List (Reg × Word)) {r : Reg} (h : ∀ n, r ≠ .STK_STAT n) : regGet (restStacks old new) r = regGet new r := by
  refine List.foldlRecOn (motive := fun l => regGet l r = regGet new r) (List.range 8) _ rfl fun l hl n _ => ?_
  dsimp only
  split
  · exact (regGet_regSet_other _ _ (h _)).trans hl
  · exact hl

theorem State.rget_resetTo_of_keeps_zero (k : ResetKind) (s : State) {r : Reg} (h : k.keeps r = 0) (hstk : ∀ n, r ≠ .STK_STAT n) :
    (State.resetTo k s).rget r = r.reset := by
  refine (apply_ite (regGet · r) _ _ _).trans ?_
  rw [regGet_restStacks _ _ hstk, ite_self, regGet_regsAfter_of_keeps_zero h]

/-- A start begins at stage 0. -/
theorem State.resetTo_stageNow (k : ResetKind) (s : State) : (State.resetTo k s).stageNow = 0 := by
  rw [State.stageNow, State.fget, State.rget_resetTo_of_keeps_zero k s (by cases k <;> rfl) (by simp)]
  rfl

/-! ### Standby begins (R370) -/

/-- The Wealey ports go to OFF. -/
def State.portsOff (s : State) : State :=
  (List.range 16).foldl (fun (s : State) q => if s.portWealey q then s.portDown q 0 0 true else s) s

theorem State.portsOff_acts (s : State) : LinkActs [] s s.portsOff :=
  List.foldlRecOn (motive := fun t => LinkActs [] s t) (List.range 16) _ (LinkActs.refl s) fun t ht q _ =>
    ht.trans (LinkActs.ite (LinkActs.portDown t q 0 0 true) (LinkActs.refl t))

/-- REASON 0 and STATE 1: Standby is being entered. -/
def State.standbyNoted (s : State) : State := (s.pwrRefuse 0).fset .PWR_STATE F.PWR_STATE_STATE 1

/-- The retrieval die saves a checkpoint. -/
def State.standbyBegun (s : State) : State :=
  s.standbyNoted.portsOff.flashUpd (fun f => { f with journal := 0, saved := f.groups })

theorem standbyEnter_begins {s : State} (h : s.standbyRefusal = 0) : execStandbyEnter s = .next s.standbyBegun :=
  if_neg (not_not.mpr h)

theorem pwrState_notMem_linkRegs : Reg.PWR_STATE ∉ [] ++ linkRegs := by
  simp [linkRegs, signalRegs, pstatReg, levtReg]

theorem State.standbyBegun_state (s : State) : s.standbyBegun.fget .PWR_STATE F.PWR_STATE_STATE = 1 := by
  refine (s.standbyNoted.portsOff_acts.2.fget pwrState_notMem_linkRegs _).trans ?_
  exact State.fget_fset_same _ _ _ _ (by decide)

theorem State.standbyBegun_reason (s : State) : s.standbyBegun.fget .PWR_STATE F.PWR_STATE_REASON = 0 := by
  refine (s.standbyNoted.portsOff_acts.2.fget pwrState_notMem_linkRegs _).trans ?_
  exact (State.fget_fset_field _ _ _ _ _ (by decide) (by decide)).trans (State.fget_fset_same _ _ _ _ (by decide))

theorem State.standbyBegun_mem (s : State) : s.standbyBegun.mem = s.mem := by
  have h : s.standbyNoted.portsOff.mem = s.mem := by rw [s.standbyNoted.portsOff_acts.1]; rfl
  exact h

theorem State.standbyBegun_engs (s : State) : s.standbyBegun.engs = s.engs := by
  have h : s.standbyNoted.portsOff.engs = s.engs := by rw [s.standbyNoted.portsOff_acts.1]; rfl
  exact h

theorem State.standbyBegun_fuses (s : State) : s.standbyBegun.fuses = s.fuses := by
  have h : s.standbyNoted.portsOff.fuses = s.fuses := by rw [s.standbyNoted.portsOff_acts.1]; rfl
  exact h

/-- A refused request leaves its REASON alone. -/
theorem State.pwrRefuse_reason (s : State) {reason : Nat} (h : reason < 8) :
    (s.pwrRefuse reason).fget .PWR_STATE F.PWR_STATE_REASON = reason :=
  (State.fget_fset_same _ _ _ _ (by decide)).trans (Nat.mod_eq_of_lt h)

theorem OnlyRegs.pwrRefuse (s : State) (reason : Nat) : OnlyRegs [.PWR_STATE] s (s.pwrRefuse reason) := OnlyRegs.fset _ _ (by simp)

theorem State.standbyRefusal_lt (s : State) : s.standbyRefusal < 8 := by
  unfold State.standbyRefusal
  split_ifs <;> omega

end Sys2Proof.Machine

namespace Sys2Proof.Machine

/-! PROOFS. Memory in which nothing is poisoned, patched or armed: what reads answer and what writes store (R174, R194 to R206). -/

/-! ### Bytes and words -/

theorem nth_drop {α : Type} [Inhabited α] (l : List α) (n i : Nat) : nth (l.drop n) i = nth l (n + i) := by
  induction n generalizing l with
  | zero => rw [List.drop_zero, Nat.zero_add]
  | succ n ih =>
    cases l with
    | nil => rfl
    | cons a l => rw [List.drop_succ_cons, ih, Nat.succ_add]; rfl

theorem nth_take {α : Type} [Inhabited α] (l : List α) {n i : Nat} (h : i < n) : nth (l.take n) i = nth l i := by
  induction n generalizing l i with
  | zero => omega
  | succ n ih =>
    cases l with
    | nil => rfl
    | cons a l =>
      cases i with
      | zero => rfl
      | succ i => exact ih l (by omega)

theorem nth_chunksAux {α : Type} [Inhabited α] {n : Nat} (hn : 0 < n) (f : Nat) (l : List α) (hf : l.length ≤ f) (i : Nat) {j : Nat}
    (hj : j < n) : nth (nth (chunksAux n f l) i) j = nth l (n * i + j) := by
  induction f generalizing l i with
  | zero =>
    obtain rfl := List.length_eq_zero_iff.mp (Nat.le_zero.mp hf)
    rfl
  | succ f ih =>
    cases l with
    | nil => rfl
    | cons a l =>
      rw [chunksAux]
      cases i with
      | zero => rw [Nat.mul_zero, Nat.zero_add]; exact nth_take _ hj
      | succ i =>
        refine (ih ((a :: l).drop n) ?_ i).trans ?_
        · rw [List.length_drop, List.length_cons] at *
          omega
        · rw [nth_drop]
          congr 1
          rw [Nat.mul_succ]
          omega
      all_goals exact fun h => absurd h (List.cons_ne_nil _ _)

/-- The `j`-th element of the `i`-th chunk. -/
theorem nth_chunks {α : Type} [Inhabited α] {n : Nat} (l : List α) (i : Nat) {j : Nat} (hj : j < n) :
    nth (nth (chunks n l) i) j = nth l (n * i + j) := nth_chunksAux (by omega) _ l le_rfl i hj

theorem byteOf_ofBytes (l : List Byte) (j : Nat) : byteOf (ofBytes l / 256 ^ j) = nth l j := by
  induction l generalizing j with
  | nil => simp only [ofBytes, nth, Nat.zero_div]; rfl
  | cons b l ih =>
    cases j with
    | zero =>
      rw [nth, ofBytes, Nat.pow_zero, Nat.div_one, byteOf]
      refine BitVec.eq_of_toNat_eq ?_
      have hb := b.isLt
      rw [BitVec.toNat_ofNat]
      omega
    | succ j =>
      rw [nth, ← ih, ofBytes, Nat.pow_succ', ← Nat.div_div_eq_div_mul]
      have hb := b.isLt
      congr 2
      omega

theorem toBytes_raw (m : MemUnit) (k : Nat) :
    toBytes 4 (m.raw k) = [Tab.at m.data k, Tab.at m.data (k + 1), Tab.at m.data (k + 2), Tab.at m.data (k + 3)] := by
  have h0 := (Tab.at m.data k).isLt
  have h1 := (Tab.at m.data (k + 1)).isLt
  have h2 := (Tab.at m.data (k + 2)).isLt
  have h3 := (Tab.at m.data (k + 3)).isLt
  simp only [toBytes, byteOf, MemUnit.raw, List.cons.injEq, and_true]
  refine ⟨?_, ?_, ?_, ?_⟩ <;> refine BitVec.eq_of_toNat_eq ?_ <;> rw [BitVec.toNat_ofNat] <;> omega

/-- The words of `n` words' cells, as bytes. -/
theorem wordsToBytes_raw (m : MemUnit) (key n : Nat) :
    wordsToBytes ((List.range n).map fun i => m.raw (key + 4 * i)) = (List.range (4 * n)).map fun j => Tab.at m.data (key + j) := by
  induction n with
  | zero => rfl
  | succ n ih =>
    rw [List.range_succ, List.map_append, wordsToBytes, List.flatMap_append, ← wordsToBytes, ih, Nat.mul_succ, List.range_add,
      List.map_append]
    congr 1
    rw [List.map_singleton, List.flatMap_singleton, toBytes_raw]
    rfl

/-! ### One word (R196, R203) -/

/-- No cell shows a syndrome: nothing is poisoned, and nothing waits for correction. -/
def MemUnit.Sound (m : MemUnit) : Prop := ∀ k, Tab.at m.syn k = 0

/-- Instance `ik` has no patch entries. -/
def MemUnit.Unpatched (m : MemUnit) (ik : Nat) : Prop := (Tab.at m.insts ik).patch = []

theorem MemUnit.read_sound {m : MemUnit} {c : CellRef} (h : m.Sound) (hp : m.Unpatched c.ik) (thr : Nat) :
    m.read c thr = (m, m.raw c.key, false) := by
  rw [MemUnit.read, show (Tab.at m.insts c.ik).patch = [] from hp]
  change (if byteLane c.cls then m.readBytes4 c else m.readWord c thr) = _
  split
  · refine if_pos ?_
    simp only [List.map_cons, List.map_nil, h _, List.all_cons, List.all_nil, decide_true, Bool.and_self]
  · rw [MemUnit.readWord, h]
    rfl

/-- `t` is `m` with the bytes of `w` that `mask` names stored at word `key`, nothing else. -/
structure StoresWord (key mask w : Nat) (m t : MemUnit) : Prop where
  rest : t = { m with data := t.data, syn := t.syn }
  data : ∀ k, Tab.at t.data k = if key ≤ k ∧ k < key + 4 ∧ bitAt mask (k - key) = true then byteOf (w / 256 ^ (k - key)) else Tab.at m.data k
  sound : t.Sound

theorem MemUnit.setRaw_data (m : MemUnit) (key w k : Nat) : Tab.at (m.setRaw key w).data k =
    if key ≤ k ∧ k < key + 4 then byteOf (w / 256 ^ (k - key)) else Tab.at m.data k := by
  simp only [MemUnit.setRaw, Tab.at_put]
  by_cases h3 : k = key + 3
  · subst h3; simp
  by_cases h2 : k = key + 2
  · subst h2; simp
  by_cases h1 : k = key + 1
  · subst h1; simp
  by_cases h0 : k = key
  · subst h0; simp
  rw [if_neg h3, if_neg h2, if_neg h1, if_neg h0, if_neg (by omega)]

theorem MemUnit.Sound.setSyn {m : MemUnit} (h : m.Sound) (key : Nat) : (m.setSyn key 0).Sound := fun k => by
  rw [MemUnit.setSyn, Tab.at_put]
  split
  · rfl
  · exact h k

theorem MemUnit.Sound.setRaw {m : MemUnit} (h : m.Sound) (key w : Nat) : (m.setRaw key w).Sound := h

theorem byteOf_mod (x : Nat) : byteOf (x % 256) = byteOf x :=
  BitVec.eq_of_toNat_eq (by rw [byteOf, byteOf, BitVec.toNat_ofNat, BitVec.toNat_ofNat, Nat.mod_mod_of_dvd _ (by decide)])

theorem byteOf_mergeBytes (old w mask : Nat) {j : Nat} (hj : j < 4) :
    byteOf (mergeBytes old w mask / 256 ^ j) = byteOf ((if bitAt mask j then w else old) / 256 ^ j) := by
  rw [← byteOf_mod, ← byteOf_mod (_ / _)]
  congr 1
  simp only [mergeBytes]
  have h : ∀ x : Nat, x % 256 < 256 := fun x => Nat.mod_lt _ (by decide)
  have h0 := h ((if bitAt mask 0 then w else old) / 256 ^ 0)
  have h1 := h ((if bitAt mask 1 then w else old) / 256 ^ 1)
  have h2 := h ((if bitAt mask 2 then w else old) / 256 ^ 2)
  have h3 := h ((if bitAt mask 3 then w else old) / 256 ^ 3)
  interval_cases j <;> omega

theorem byteOf_raw (m : MemUnit) (key : Nat) {j : Nat} (hj : j < 4) : byteOf (m.raw key / 256 ^ j) = Tab.at m.data (key + j) := by
  have h := toBytes_raw m key
  simp only [toBytes, List.cons.injEq, and_true, Nat.div_div_eq_div_mul] at h
  obtain ⟨h0, h1, h2, h3⟩ := h
  interval_cases j
  · simpa using h0
  · exact h1
  · exact h2
  · exact h3

/-- A write of a word stores its bytes, and completes without a write error. -/
theorem MemUnit.write_sound {m : MemUnit} {c : CellRef} (h : m.Sound) (hp : m.Unpatched c.ik) {mask : Nat} (hmask : mask < 16) (w thr : Nat) :
    ∃ t, m.write c mask w false thr = (t, false) ∧ StoresWord c.key mask w m t := by
  by_cases hlane : byteLane c.cls = true
  · refine ⟨_, MemUnit.write_of_noPatch hlane hp mask w thr, ?rest, m.putLanes_data c.key mask w, ?sound⟩
    case rest =>
      refine List.foldlRecOn (motive := fun t : MemUnit => t = { m with data := t.data, syn := t.syn }) _ _ rfl fun t ht i _ => ?_
      unfold MemUnit.putLane
      split
      · conv_lhs => rw [ht]
        rfl
      · exact ht
    case sound =>
      refine List.foldlRecOn (motive := fun t : MemUnit => t.Sound) _ _ h fun t ht i _ => ?_
      unfold MemUnit.putLane
      split
      · exact MemUnit.Sound.setSyn (m := t.setByte _ _) ht _
      · exact ht
  · rw [MemUnit.write, show (Tab.at m.insts c.ik).patch = [] from hp]
    change ∃ t, (if byteLane c.cls then _ else if mask = 15 then _ else _) = (t, false) ∧ _
    rw [if_neg hlane]
    by_cases hfull : mask = 15
    · subst hfull
      rw [if_pos rfl]
      refine ⟨_, rfl, rfl, fun k => ?_, MemUnit.Sound.setSyn (m := m.setRaw c.key w) h _⟩
      refine (m.setRaw_data c.key w k).trans (if_congr ⟨fun hk => ⟨hk.1, hk.2, ?_⟩, fun hk => ⟨hk.1, hk.2.1⟩⟩ rfl rfl)
      obtain ⟨j, rfl⟩ := Nat.exists_eq_add_of_le hk.1
      have hj : j < 4 := by omega
      rw [Nat.add_sub_cancel_left]
      interval_cases j <;> rfl
    · rw [if_neg hfull]
      have hread : m.readWord c thr = (m, m.raw c.key, false) := by
        rw [MemUnit.readWord, h]
        rfl
      simp only [hread, Bool.false_eq_true, if_false]
      rw [show (Tab.at m.insts c.ik).patch = [] from hp, if_neg (by simp [patchOf])]
      refine ⟨_, rfl, rfl, fun k => ?_, MemUnit.Sound.setSyn (m := m.setRaw c.key _) h _⟩
      refine (m.setRaw_data c.key _ k).trans ?_
      by_cases hk : c.key ≤ k ∧ k < c.key + 4
      · obtain ⟨j, rfl⟩ := Nat.exists_eq_add_of_le hk.1
        have hj : j < 4 := by omega
        rw [if_pos hk, Nat.add_sub_cancel_left, byteOf_mergeBytes _ _ _ hj]
        by_cases hbit : bitAt mask j = true
        · rw [if_pos hbit, if_pos ⟨hk.1, hk.2, hbit⟩]
        · rw [if_neg hbit, if_neg fun hc => hbit hc.2.2, byteOf_raw m _ hj]
      · rw [if_neg hk, if_neg fun hc => hk ⟨hc.1, hc.2.1⟩]

/-! ### One block (R206) -/

/-- The 64 words of the block whose first cell is `key`. -/
def MemUnit.blockWords (m : MemUnit) (key : Nat) : List Nat := (List.range 64).map fun i => m.raw (key + 4 * i)

/-- The block matches its manifest (R204). -/
def MemUnit.Matches (m : MemUnit) (key : Nat) : Prop := crc32c (wordsToBytes (m.blockWords key)) = m.manifest key

/-- Reads of sound words change nothing and answer what the cells hold. -/
theorem MemUnit.foldl_read_sound {m : MemUnit} {c : CellRef} (h : m.Sound) (hp : m.Unpatched c.ik) (thr n : Nat) :
    (List.range n).foldl (fun (acc : MemUnit × List Nat × List Bool) i =>
      ((acc.1.read { c with key := c.key + 4 * i } thr).1, acc.2.1 ++ [(acc.1.read { c with key := c.key + 4 * i } thr).2.1],
        acc.2.2 ++ [(acc.1.read { c with key := c.key + 4 * i } thr).2.2])) (m, [], []) =
      (m, (List.range n).map (fun i => m.raw (c.key + 4 * i)), List.replicate n false) := by
  induction n with
  | zero => rfl
  | succ n ih =>
    have hread := MemUnit.read_sound (c := { c with key := c.key + 4 * n }) h hp thr
    rw [List.range_succ, List.foldl_append, ih, List.foldl_cons, List.foldl_nil, List.map_append, List.replicate_succ']
    simp only [hread, List.map_singleton]

theorem State.withMem_self (s : State) : s.withMem s.mem = s := rfl

theorem State.readBlock_sound {s : State} {hub : Bool} {a : Nat} {c : CellRef} (hc : s.cellOf hub a = some c) (h : s.mem.Sound)
    (hp : s.mem.Unpatched c.ik) :
    s.readBlock hub false a = some (s, s.mem.blockWords c.key, List.replicate 64 false, s.mem.manifest c.key) := by
  have hread := MemUnit.foldl_read_sound h hp (s.pinThr c) 64
  simp only [State.readBlock, hc, Bool.false_eq_true, if_false, hread, State.withMem_self]
  rfl

theorem State.mergeRead_sound {s : State} {c : CellRef} (h : s.mem.Sound) (hp : s.mem.Unpatched c.ik) (lo hi : Nat) :
    s.mergeRead c lo hi = (s, s.mem.blockWords c.key, List.replicate 64 false) := by
  suffices hfold : ∀ n, (List.range n).foldl (fun (acc : MemUnit × List Nat × List Bool) i =>
      (if wordMask lo hi i = 0 then (acc.1.read { c with key := c.key + 4 * i } (s.pinThr c)).1 else acc.1,
        acc.2.1 ++ [(acc.1.read { c with key := c.key + 4 * i } (s.pinThr c)).2.1],
        acc.2.2 ++ [(acc.1.read { c with key := c.key + 4 * i } (s.pinThr c)).2.2])) (s.mem, [], []) =
      (s.mem, (List.range n).map (fun i => s.mem.raw (c.key + 4 * i)), List.replicate n false) by
    simp only [State.mergeRead, hfold, State.withMem_self]
    rfl
  intro n
  induction n with
  | zero => rfl
  | succ n ih =>
    have hread := MemUnit.read_sound (c := { c with key := c.key + 4 * n }) h hp (s.pinThr c)
    rw [List.range_succ, List.foldl_append, ih, List.foldl_cons, List.foldl_nil, List.map_append, List.replicate_succ']
    simp only [hread, List.map_singleton, ite_self]

theorem wordMask_lt (lo hi i : Nat) : wordMask lo hi i < 16 := by
  unfold wordMask
  dsimp only
  split_ifs <;> decide

theorem bitAt_wordMask (lo hi i : Nat) {j : Nat} (hj : j < 4) : bitAt (wordMask lo hi i) j = true ↔ lo ≤ 4 * i + j ∧ 4 * i + j < hi := by
  unfold wordMask
  dsimp only
  interval_cases j <;> split_ifs <;> simp only [bitAt, decide_eq_true_eq] <;> omega

/-- One word of a block's write. -/
def putWord (c : CellRef) (b lo hi : Nat) (words : List (List Byte)) (pw : List (List Bool)) (acc : State × Option Nat × List Nat) (i : Nat) :
    State × Option Nat × List Nat :=
  if wordMask lo hi i = 0 then acc
  else
    let p := (List.range 4).any (fun j => bitAt (wordMask lo hi i) j && nth (nth pw i) j)
    let r := acc.1.writeCell { c with key := c.key + 4 * i } (wordMask lo hi i) (ofBytes (nth words i)) p
    (r.1, if r.2 && decide (acc.2.1 = none) then some (b + 4 * i) else acc.2.1, if r.2 then acc.2.2 else i :: acc.2.2)

/-- `t` is `m` with bytes `lo` to `hi - 1` of the block whose first cell is `key` stored from `bytes`, nothing else but its manifest. -/
structure StoresBlock (key lo hi : Nat) (bytes : List Byte) (m t : MemUnit) : Prop where
  rest : t = { m with data := t.data, syn := t.syn, man := t.man }
  data : ∀ k, Tab.at t.data k = if key + lo ≤ k ∧ k < key + hi then nth bytes (k - key) else Tab.at m.data k
  sound : t.Sound
  manifest : ∀ k, k / 256 ≠ key / 256 → t.manifest k = m.manifest k

/-- What the words below word `n` store. -/
structure StoresWords (key lo hi n : Nat) (bytes : List Byte) (m t : MemUnit) : Prop where
  rest : t = { m with data := t.data, syn := t.syn }
  data : ∀ k, Tab.at t.data k = if key + lo ≤ k ∧ k < key + hi ∧ k < key + 4 * n then nth bytes (k - key) else Tab.at m.data k
  sound : t.Sound

theorem StoresWords.succ {key lo hi n : Nat} {bytes : List Byte} {m t u : MemUnit} (h : StoresWords key lo hi n bytes m t)
    (g : StoresWord (key + 4 * n) (wordMask lo hi n) (ofBytes (nth (chunks 4 bytes) n)) t u) : StoresWords key lo hi (n + 1) bytes m u := by
  refine ⟨?_, fun k => ?_, g.sound⟩
  · rw [g.rest, h.rest]
  · rw [g.data, h.data]
    by_cases hk : key + 4 * n ≤ k ∧ k < key + 4 * n + 4
    · obtain ⟨j, rfl⟩ := Nat.exists_eq_add_of_le hk.1
      have hj : j < 4 := by omega
      have hbit := bitAt_wordMask lo hi n hj
      rw [Nat.add_sub_cancel_left, byteOf_ofBytes, nth_chunks _ _ hj, if_neg (c := key + lo ≤ _ ∧ _ ∧ key + 4 * n + j < key + 4 * n) (by omega)]
      by_cases hin : lo ≤ 4 * n + j ∧ 4 * n + j < hi
      · rw [if_pos ⟨hk.1, hk.2, hbit.mpr hin⟩, if_pos (by omega)]
        congr 1
        omega
      · rw [if_neg fun hc => hin (hbit.mp hc.2.2), if_neg (by omega)]
    · rw [if_neg fun hc => hk ⟨hc.1, hc.2.1⟩]
      exact if_congr (by omega) rfl rfl

theorem StoresWords.skip {key lo hi n : Nat} {bytes : List Byte} {m t : MemUnit} (h : StoresWords key lo hi n bytes m t)
    (hmask : wordMask lo hi n = 0) : StoresWords key lo hi (n + 1) bytes m t := by
  refine ⟨h.rest, fun k => ?_, h.sound⟩
  rw [h.data]
  refine if_congr ⟨fun hk => ⟨hk.1, hk.2.1, by omega⟩, fun hk => ⟨hk.1, hk.2.1, ?_⟩⟩ rfl rfl
  by_contra hge
  have hbit := (bitAt_wordMask lo hi n (j := k - (key + 4 * n)) (by omega)).mpr (by omega)
  rw [hmask, bitAt, Nat.zero_div] at hbit
  exact Bool.false_ne_true hbit

/-- The class of cell `c` takes what is written as it is given (R198, R210). -/
structure State.TakesWrites (s : State) (c : CellRef) : Prop where
  sound : s.mem.Sound
  unpatched : s.mem.Unpatched c.ik
  unarmed : bitAt (s.fget .MEM_FLIP_CTL F.MEM_FLIP_CTL_ARM) c.cls = false

theorem State.writeCell_sound {s : State} {c : CellRef} (h : s.TakesWrites c) {mask : Nat} (hmask : mask < 16) (w : Nat) :
    ∃ t, s.writeCell c mask w false = (s.withMem t, false) ∧ StoresWord c.key mask w s.mem t := by
  obtain ⟨t, hwrite, hstores⟩ := MemUnit.write_sound h.sound h.unpatched hmask w (s.pinThr c)
  refine ⟨t, ?_, hstores⟩
  have harmed : s.armed c = false := by
    unfold State.armed
    rw [h.unarmed]
    rfl
  rw [State.writeCell, hwrite, harmed]
  rfl

theorem State.putWords_sound {s : State} {c : CellRef} (h : s.TakesWrites c) (b lo hi : Nat) (bytes : List Byte) {pw : List (List Bool)}
    (hpois : ∀ i j, j < 4 → nth (nth pw i) j = false) (n : Nat) :
    ∃ t done, (List.range n).foldl (putWord c b lo hi (chunks 4 bytes) pw) (s, none, []) = (s.withMem t, none, done) ∧
      StoresWords c.key lo hi n bytes s.mem t ∧ ∀ i, i ∈ done ↔ i < n ∧ wordMask lo hi i ≠ 0 := by
  induction n with
  | zero => exact ⟨s.mem, [], rfl, ⟨rfl, fun k => (if_neg (by omega)).symm, h.sound⟩, fun i => by simp⟩
  | succ n ih =>
    obtain ⟨t, done, hfold, hstores, hdone⟩ := ih
    rw [List.range_succ, List.foldl_append, hfold, List.foldl_cons, List.foldl_nil, putWord]
    by_cases hmask : wordMask lo hi n = 0
    · rw [if_pos hmask]
      refine ⟨t, done, rfl, hstores.skip hmask, fun i => ?_⟩
      rw [hdone]
      refine ⟨fun hi => ⟨by omega, hi.2⟩, fun hi => ⟨?_, hi.2⟩⟩
      rcases Nat.lt_succ_iff_lt_or_eq.mp hi.1 with hlt | rfl
      · exact hlt
      · exact absurd hmask hi.2
    · rw [if_neg hmask]
      have hnone : (List.range 4).any (fun j => bitAt (wordMask lo hi n) j && nth (nth pw n) j) = false :=
        List.any_eq_false.mpr fun j hj => by rw [hpois n j (List.mem_range.mp hj), Bool.and_false]; exact Bool.false_ne_true
      have htakes : (s.withMem t).TakesWrites { c with key := c.key + 4 * n } := by
        refine ⟨hstores.sound, ?_, h.unarmed⟩
        change (Tab.at t.insts _).patch = []
        rw [hstores.rest]
        exact h.unpatched
      obtain ⟨u, hcell, hword⟩ := State.writeCell_sound htakes (wordMask_lt lo hi n) (ofBytes (nth (chunks 4 bytes) n))
      dsimp only
      rw [hnone, hcell]
      refine ⟨u, n :: done, rfl, hstores.succ hword, fun i => ?_⟩
      rw [List.mem_cons, hdone]
      refine ⟨fun hmem => ?_, fun hmem => ?_⟩
      · rcases hmem with rfl | hmem
        · exact ⟨by omega, hmask⟩
        · exact ⟨by omega, hmem.2⟩
      · rcases Nat.lt_succ_iff_lt_or_eq.mp hmem.1 with hlt | rfl
        · exact .inr ⟨hlt, hmem.2⟩
        · exact .inl rfl

theorem raw_lt (m : MemUnit) (k : Nat) : m.raw k < 2 ^ 32 := by
  have h0 := (Tab.at m.data k).isLt
  have h1 := (Tab.at m.data (k + 1)).isLt
  have h2 := (Tab.at m.data (k + 2)).isLt
  have h3 := (Tab.at m.data (k + 3)).isLt
  rw [MemUnit.raw]
  omega

/-- Words below 2^32 with the same four bytes are equal. -/
theorem eq_of_byteOf {x y : Nat} (hx : x < 2 ^ 32) (hy : y < 2 ^ 32) (h : ∀ j, j < 4 → byteOf (x / 256 ^ j) = byteOf (y / 256 ^ j)) :
    x = y := by
  have hb : ∀ j, j < 4 → x / 256 ^ j % 256 = y / 256 ^ j % 256 := fun j hj => by
    have := congrArg BitVec.toNat (h j hj)
    rwa [byteOf, byteOf, BitVec.toNat_ofNat, BitVec.toNat_ofNat] at this
  have h0 := hb 0 (by decide)
  have h1 := hb 1 (by decide)
  have h2 := hb 2 (by decide)
  have h3 := hb 3 (by decide)
  omega

theorem mergeBytes_lt (old w mask : Nat) : mergeBytes old w mask < 2 ^ 32 := by
  simp only [mergeBytes]
  have h : ∀ x : Nat, x % 256 < 256 := fun x => Nat.mod_lt _ (by decide)
  have h0 := h ((if bitAt mask 0 then w else old) / 256 ^ 0)
  have h1 := h ((if bitAt mask 1 then w else old) / 256 ^ 1)
  have h2 := h ((if bitAt mask 2 then w else old) / 256 ^ 2)
  have h3 := h ((if bitAt mask 3 then w else old) / 256 ^ 3)
  omega

/-- A word of a block after a write of some of its bytes. -/
theorem StoresWords.raw {key lo hi : Nat} {bytes : List Byte} {m t : MemUnit} (h : StoresWords key lo hi 64 bytes m t) {i : Nat} (hi64 : i < 64) :
    t.raw (key + 4 * i) = if wordMask lo hi i ≠ 0 then mergeBytes (m.raw (key + 4 * i)) (ofBytes (nth (chunks 4 bytes) i)) (wordMask lo hi i)
      else m.raw (key + 4 * i) := by
  have hbyte : ∀ j, j < 4 → Tab.at t.data (key + 4 * i + j) = if lo ≤ 4 * i + j ∧ 4 * i + j < hi then nth bytes (4 * i + j)
      else Tab.at m.data (key + 4 * i + j) := fun j hj => by
    rw [h.data]
    refine if_congr (by omega) ?_ rfl
    congr 1
    omega
  split
  · refine eq_of_byteOf (raw_lt _ _) (mergeBytes_lt _ _ _) fun j hj => ?_
    rw [byteOf_raw _ _ hj, byteOf_mergeBytes _ _ _ hj, hbyte j hj]
    have hbit := bitAt_wordMask lo hi i hj
    by_cases hin : lo ≤ 4 * i + j ∧ 4 * i + j < hi
    · rw [if_pos hin, if_pos (hbit.mpr hin), byteOf_ofBytes, nth_chunks _ _ hj]
    · rw [if_neg hin, if_neg fun hc => hin (hbit.mp hc), byteOf_raw _ _ hj]
  · next hmask =>
    refine eq_of_byteOf (raw_lt _ _) (raw_lt _ _) fun j hj => ?_
    rw [byteOf_raw _ _ hj, byteOf_raw _ _ hj, hbyte j hj, if_neg]
    intro hin
    have hbit := (bitAt_wordMask lo hi i hj).mpr hin
    rw [not_not.mp hmask, bitAt, Nat.zero_div] at hbit
    exact Bool.false_ne_true hbit

/-- The merged words, as the manifest of a partial write takes them, are those that the cells hold afterwards. -/
theorem StoresWords.merged {key lo hi : Nat} {bytes : List Byte} {m t : MemUnit} (h : StoresWords key lo hi 64 bytes m t) {done : List Nat}
    (hdone : ∀ i, i ∈ done ↔ i < 64 ∧ wordMask lo hi i ≠ 0) :
    ((m.blockWords key).zipIdx).map (fun y =>
      if done.contains y.2 then mergeBytes y.1 (ofBytes (nth (chunks 4 bytes) y.2)) (wordMask lo hi y.2) else y.1) = t.blockWords key := by
  refine List.ext_getElem (by simp [MemUnit.blockWords]) fun i hi1 hi2 => ?_
  have hi64 : i < 64 := by simpa [MemUnit.blockWords] using hi2
  simp only [MemUnit.blockWords, List.getElem_map, List.getElem_zipIdx, List.getElem_range, Nat.zero_add]
  rw [h.raw hi64]
  refine if_congr ?_ rfl rfl
  rw [List.contains_iff_mem, hdone]
  exact ⟨fun hm => hm.2, fun hm => ⟨hi64, hm⟩⟩

theorem MemUnit.setManifest_manifest (m : MemUnit) (key k : Nat) (v : Word) :
    (m.setManifest key v).manifest k = if k / 256 = key / 256 then v else m.manifest k := by
  rw [MemUnit.setManifest, MemUnit.manifest, Tab.at_put]
  by_cases hk : k / 256 = key / 256
  · rw [if_pos hk, if_pos hk]
    split
    · next hzero => exact hzero.symm
    · rfl
  · rw [if_neg hk, if_neg hk]
    rfl

theorem StoresWords.block {key lo hi : Nat} {bytes : List Byte} {m t : MemUnit} (h : StoresWords key lo hi 64 bytes m t) (hhi : hi ≤ 256) :
    StoresBlock key lo hi bytes m t := by
  refine ⟨?_, fun k => (h.data k).trans (if_congr (by omega) rfl rfl), h.sound, fun k _ => ?_⟩
  · rw [h.rest]
  · rw [h.rest]
    rfl

theorem StoresBlock.setManifest {key lo hi : Nat} {bytes : List Byte} {m t : MemUnit} (h : StoresBlock key lo hi bytes m t) (v : Word) :
    StoresBlock key lo hi bytes m (t.setManifest key v) := by
  refine ⟨?_, h.data, h.sound, fun k hk => ?_⟩
  · conv_lhs => rw [h.rest]
    rfl
  · rw [MemUnit.setManifest_manifest, if_neg hk, h.manifest k hk]

/-- The words of a block's write. -/
def State.putBlock (s : State) (c : CellRef) (b lo hi : Nat) (bytes : List Byte) (pois : List Bool) : State × Option Nat × List Nat :=
  (List.range 64).foldl (putWord c b lo hi (chunks 4 bytes) (chunks 4 pois)) (s, none, [])

section
variable (s : State) (c : CellRef) (b lo hi : Nat) (bytes : List Byte) (pois : List Bool) (man : Word)

theorem State.writeBlock_whole (h : lo = 0 ∧ hi = 256) : s.writeBlock c b lo hi bytes pois man =
    (if decide (c.cls ≠ 2 ∧ c.cls ≠ 3) then (s.putBlock c b lo hi bytes pois).1.withMem
      ((s.putBlock c b lo hi bytes pois).1.mem.setManifest c.key man) else (s.putBlock c b lo hi bytes pois).1,
      (s.putBlock c b lo hi bytes pois).2.1) := if_pos h

theorem State.writeBlock_plain (h : ¬(lo = 0 ∧ hi = 256)) (hc : ¬(c.cls ≠ 2 ∧ c.cls ≠ 3)) : s.writeBlock c b lo hi bytes pois man =
    ((s.putBlock c b lo hi bytes pois).1, (s.putBlock c b lo hi bytes pois).2.1) :=
  (if_neg h).trans (if_pos (by rw [decide_eq_false hc]; rfl))

theorem State.writeBlock_part {x : State × List Nat × List Bool} (h : ¬(lo = 0 ∧ hi = 256)) (hc : c.cls ≠ 2 ∧ c.cls ≠ 3)
    (hx : s.mergeRead c lo hi = x) (hmatch : crc32c (wordsToBytes x.2.1) = s.mem.manifest c.key) : s.writeBlock c b lo hi bytes pois man =
    ((x.1.putBlock c b lo hi bytes pois).1.withMem ((x.1.putBlock c b lo hi bytes pois).1.mem.setManifest c.key
      (s.mem.manifest c.key ^^^ crc32c (wordsToBytes x.2.1) ^^^ crc32c (wordsToBytes ((x.2.1.zipIdx).map (fun y =>
        if (x.1.putBlock c b lo hi bytes pois).2.2.contains y.2 then
          mergeBytes y.1 (ofBytes (nth (chunks 4 bytes) y.2)) (wordMask lo hi y.2) else y.1))))),
      (x.1.putBlock c b lo hi bytes pois).2.1) := by
  subst hx
  refine (if_neg h).trans ((if_neg (by rw [decide_eq_true hc]; exact Bool.false_ne_true)).trans (if_neg ?_))
  rw [hmatch]
  simp only [ne_eq, not_true_eq_false, decide_false, Bool.and_false, Bool.false_eq_true, not_false_eq_true]

end

/-- R206: a write into a sound block stores its bytes and completes; a whole block stores the manifest it brings, and a part leaves a block
that matches its manifest matching. -/
theorem State.writeBlock_sound {s : State} {c : CellRef} (h : s.TakesWrites c) (b : Nat) {lo hi : Nat} (hhi : hi ≤ 256) (bytes : List Byte)
    {pois : List Bool} (hpois : ∀ i, nth pois i = false) (man : Word) (hmatch : ¬(lo = 0 ∧ hi = 256) → s.mem.Matches c.key) :
    ∃ t, s.writeBlock c b lo hi bytes pois man = (s.withMem t, none) ∧ StoresBlock c.key lo hi bytes s.mem t ∧
      (c.cls ≠ 2 ∧ c.cls ≠ 3 → if lo = 0 ∧ hi = 256 then t.manifest c.key = man else t.Matches c.key) := by
  obtain ⟨t, done, hput, hstores, hdone⟩ := State.putWords_sound h b lo hi bytes (pw := chunks 4 pois)
    (fun i j hj => (nth_chunks _ _ hj).trans (hpois _)) 64
  rw [← State.putBlock] at hput
  have hblock := hstores.block hhi
  by_cases hwhole : lo = 0 ∧ hi = 256
  · rw [State.writeBlock_whole _ _ _ _ _ _ _ _ hwhole, hput]
    by_cases hc : c.cls ≠ 2 ∧ c.cls ≠ 3
    · refine ⟨t.setManifest c.key man, ?_, hblock.setManifest man, fun _ => ?_⟩
      · rw [decide_eq_true hc]
        rfl
      · rw [if_pos hwhole, MemUnit.setManifest_manifest, if_pos rfl]
    · refine ⟨t, ?_, hblock, fun hc' => absurd hc' hc⟩
      rw [decide_eq_false hc]
      rfl
  · by_cases hc : c.cls ≠ 2 ∧ c.cls ≠ 3
    · have hm := hmatch hwhole
      rw [State.writeBlock_part _ _ _ _ _ _ _ _ hwhole hc (State.mergeRead_sound h.sound h.unpatched lo hi) hm]
      dsimp only
      rw [hput, hstores.merged hdone, show crc32c (wordsToBytes (s.mem.blockWords c.key)) = s.mem.manifest c.key from hm, BitVec.xor_self,
        BitVec.zero_xor]
      refine ⟨_, rfl, hblock.setManifest _, fun _ => ?_⟩
      rw [if_neg hwhole, MemUnit.Matches, MemUnit.setManifest_manifest, if_pos rfl]
      rfl
    · rw [State.writeBlock_plain _ _ _ _ _ _ _ _ hwhole hc, hput]
      exact ⟨t, rfl, hblock, fun hc' => absurd hc' hc⟩

/-! ### What leaves the cells as they are -/

/-- Every cell, its check bits, the manifests and patch tables, the retired pages, the promoted ones and the arming of injection are the
same. -/
structure CellsKept (s t : State) : Prop where
  data : t.mem.data = s.mem.data
  syn : t.mem.syn = s.mem.syn
  man : t.mem.man = s.mem.man
  insts : t.mem.insts = s.mem.insts
  retired : t.mem.retired = s.mem.retired
  frames : t.place.frames = s.place.frames
  flip : t.rget .MEM_FLIP_CTL = s.rget .MEM_FLIP_CTL
  level : t.fget .BUP_STAT F.BUP_STAT_LEVEL = s.fget .BUP_STAT F.BUP_STAT_LEVEL

namespace CellsKept
variable {s t u : State}

theorem refl (s : State) : CellsKept s s := ⟨rfl, rfl, rfl, rfl, rfl, rfl, rfl, rfl⟩

theorem trans (h : CellsKept s t) (g : CellsKept t u) : CellsKept s u :=
  ⟨g.data.trans h.data, g.syn.trans h.syn, g.man.trans h.man, g.insts.trans h.insts, g.retired.trans h.retired, g.frames.trans h.frames,
    g.flip.trans h.flip, g.level.trans h.level⟩

theorem ite {p : Prop} [Decidable p] {a b : State} (h : CellsKept s a) (g : CellsKept s b) : CellsKept s (if p then a else b) := by
  split
  · exact h
  · exact g

/-- What leaves memory and the placement loop alone, and does not arm injection. -/
theorem of_mem_eq (hmem : t.mem = s.mem) (hplace : t.place = s.place) (hflip : t.rget .MEM_FLIP_CTL = s.rget .MEM_FLIP_CTL)
    (hlevel : t.fget .BUP_STAT F.BUP_STAT_LEVEL = s.fget .BUP_STAT F.BUP_STAT_LEVEL) : CellsKept s t := by
  refine ⟨?_, ?_, ?_, ?_, ?_, ?_, hflip, hlevel⟩
  · rw [hmem]
  · rw [hmem]
  · rw [hmem]
  · rw [hmem]
  · rw [hmem]
  · rw [hplace]

theorem rset (s : State) {r : Reg} (v : Word) (h : r ∉ [Reg.MEM_FLIP_CTL, .BUP_STAT]) : CellsKept s (s.rset r v) :=
  of_mem_eq rfl rfl (State.rget_rset_other _ _ (by rintro rfl; simp at h)) (State.fget_of_rget (State.rget_rset_other _ _ (by rintro rfl; simp at h)) _)

theorem fset (s : State) {r : Reg} (f : Fld) (v : Nat) (h : r ∉ [Reg.MEM_FLIP_CTL, .BUP_STAT]) : CellsKept s (s.fset r f v) := rset s _ h

theorem of_signals (h : Signals s t) : CellsKept s t :=
  of_mem_eq h.mem (by rw [h.1]) (h.rget (by simp [signalRegs])) (h.fget _ (by simp [signalRegs]))

theorem raise (s : State) (k : Nat) : CellsKept s (s.raise k) := of_signals (Signals.raise s k)

theorem raw (h : CellsKept s t) (k : Nat) : t.mem.raw k = s.mem.raw k := by simp only [MemUnit.raw, h.data]

theorem manifest (h : CellsKept s t) (k : Nat) : t.mem.manifest k = s.mem.manifest k := by simp only [MemUnit.manifest, h.man]

theorem blockWords (h : CellsKept s t) (key : Nat) : t.mem.blockWords key = s.mem.blockWords key := by
  simp only [MemUnit.blockWords, h.raw]

theorem matches_iff (h : CellsKept s t) (key : Nat) : t.mem.Matches key ↔ s.mem.Matches key := by
  rw [MemUnit.Matches, h.blockWords, h.manifest, MemUnit.Matches]

theorem sound (h : CellsKept s t) (hs : s.mem.Sound) : t.mem.Sound := fun k => by rw [h.syn]; exact hs k

theorem unpatched (h : CellsKept s t) {ik : Nat} (hs : s.mem.Unpatched ik) : t.mem.Unpatched ik := by
  rw [MemUnit.Unpatched, h.insts]
  exact hs

theorem takesWrites (h : CellsKept s t) {c : CellRef} (hs : s.TakesWrites c) : t.TakesWrites c := by
  refine ⟨h.sound hs.sound, h.unpatched hs.unpatched, ?_⟩
  rw [State.fget_of_rget h.flip]
  exact hs.unarmed

theorem bset (s : State) {r : Reg} (f : Fld) (b : Bool) (h : r ∉ [Reg.MEM_FLIP_CTL, .BUP_STAT]) : CellsKept s (s.bset r f b) := fset s f _ h

theorem withMem (s : State) {m : MemUnit} (hdata : m.data = s.mem.data) (hsyn : m.syn = s.mem.syn) (hman : m.man = s.mem.man)
    (hinsts : m.insts = s.mem.insts) (hretired : m.retired = s.mem.retired) : CellsKept s (s.withMem m) :=
  ⟨hdata, hsyn, hman, hinsts, hretired, rfl, rfl, rfl⟩

theorem stackCount (s : State) (rd : Bool) (a n : Nat) : CellsKept s (s.stackCount rd a n) := by
  unfold State.stackCount
  split
  · refine ite ?_ (refl s)
    cases rd
    · exact rset (r := .STK_WR_CNT _) s _ (by simp)
    · simp only [if_true]
      split
      · exact (rset (r := .STK_RD_CNT _) s _ (by simp)).trans (withMem _ rfl rfl rfl rfl rfl)
      · exact (rset (r := .STK_RD_CNT _) s _ (by simp)).trans (withMem _ rfl rfl rfl rfl rfl)
  · exact refl s

theorem placeCount (s : State) (a n : Nat) : CellsKept s (s.placeCount a n) := by
  unfold State.placeCount
  split
  · exact ite (refl s) ⟨rfl, rfl, rfl, rfl, rfl, rfl, rfl, rfl⟩
  · exact refl s

theorem manifestBad (s : State) (a point : Nat) : CellsKept s (s.manifestBad a point) := by
  unfold State.manifestBad
  dsimp only
  split <;> exact ⟨rfl, rfl, rfl, rfl, rfl, rfl, rfl, rfl⟩

theorem withLog (s : State) (l : LogUnit) : CellsKept s { s with log := l } := of_mem_eq rfl rfl rfl rfl

theorem logRec (s : State) (r : LogRec) (ok : Bool) : CellsKept s (s.logRec r ok) := by
  have hfull : ∀ l, ∀ f ∈ [F.BUP_STAT_LOG_FULL, F.BUP_STAT_LOG_FAIL],
      CellsKept s ((({ s with log := l } : State).bset .BUP_STAT f true).raise 9) := fun l f hf => by
    refine (withLog s l).trans (trans (t := State.bset _ _ _ _) ?_ (raise _ 9))
    refine of_mem_eq rfl rfl (State.rget_fset_other _ _ _ (by simp)) (State.fget_fset_field _ _ _ _ _ ?_ ?_)
    all_goals rcases List.mem_pair.mp hf with rfl | rfl <;> decide
  unfold State.logRec
  exact ite (ite (hfull _ _ (by simp)) (withLog s _)) (hfull _ _ (by simp))

theorem settle (s : State) : CellsKept s s.settle := by
  unfold State.settle
  extract_lets s1 evts
  have hlog : CellsKept s s1 := by
    refine List.foldlRecOn (motive := fun t => CellsKept s t) _ _ (refl s) fun t ht k _ => ?_
    dsimp only
    split
    · exact ht.trans (logRec _ _ _)
    · exact ht
  have hcleared : CellsKept s1 (s1.withMem { s1.mem with evts := [], newPatches := [], newCe := [], newUe := [] }) :=
    withMem s1 rfl rfl rfl rfl rfl
  exact hlog.trans (hcleared.trans (of_signals (Signals.raises _ _)))

end CellsKept

/-! ### Requests on their way leave the cells (R219, R226, R300) -/

namespace CellsKept
variable {s : State}

theorem bind {x : Except Hold State} {f : State → Except Hold State} (hx : ∀ t, x = .ok t → CellsKept s t)
    (hf : ∀ t u, f t = .ok u → CellsKept t u) : ∀ u, x.bind f = .ok u → CellsKept s u := by
  intro u h
  cases x with
  | error e => cases h
  | ok t => exact (hx t rfl).trans (hf t u h)

theorem eachUnit {a n : Nat} {f : State → Nat → Bool → Except Hold State} (hf : ∀ s b p u, f s b p = .ok u → CellsKept s u) :
    ∀ u, s.eachUnit a n f = .ok u → CellsKept s u := by
  unfold State.eachUnit
  refine List.foldlRecOn (motive := fun x : Except Hold State => ∀ u, x = .ok u → CellsKept s u) _ _ (fun u h => ?_) fun x hx b _ => ?_
  · cases h
    exact refl s
  · exact bind hx fun t u h => hf t b _ u h

theorem withTkt (s : State) (u : TktUnit) : CellsKept s { s with tkt := u } := of_mem_eq rfl rfl rfl rfl

theorem tick (s : State) : CellsKept s s.tick := of_mem_eq rfl rfl rfl rfl

theorem flitsCross (s : State) (p up down : Nat) : CellsKept s (s.flitsCross p up down) :=
  have hregs : CellsKept s ((s.wrap (.CWY_RX (bundleNo p)) F.CWY_RX_FLITS up).wrap (.CWY_TX (bundleNo p)) F.CWY_TX_FLITS down) :=
    trans (fset s _ _ (by simp)) (fset _ _ _ (by simp))
  hregs.trans (of_mem_eq rfl rfl rfl rfl)

theorem foldl {α : Type} {f : State → α → State} (hf : ∀ s a, CellsKept s (f s a)) (l : List α) (s : State) : CellsKept s (l.foldl f s) :=
  List.foldlRecOn (motive := fun t => CellsKept s t) l f (refl s) fun t ht a _ => ht.trans (hf t a)

theorem crossBy {q : Requester} {rd part : Bool} {near : Option Nat} {far : List Nat} :
    ∀ u, s.crossBy q rd part near far = .ok u → CellsKept s u := by
  intro u h
  unfold State.crossBy at h
  extract_lets ask back at h
  split at h
  · cases h
  · cases h
  · cases h
    refine trans ?_ (foldl (fun s p => flitsCross s p _ _) _ _)
    cases near
    · exact refl s
    · exact flitsCross s _ _ _

theorem countAt (s : State) (rd : Bool) (r t held : Nat) : CellsKept s (s.countAt rd r t held) := by
  unfold State.countAt
  extract_lets x s1
  have h : CellsKept s s1 := ite ((tick s).trans (fset _ (r := .STK_MISS_CNT _) _ _ (by simp))) (tick s)
  refine ite (h.trans ?_) h
  unfold State.countRead
  extract_lets interval hasTarget s2
  have h2 : CellsKept s1 s2 := (withTkt s1 _).trans (ite (fset _ (r := .TEL_HIST _) _ _ (by simp)) (refl _))
  exact ite h2 (h2.trans (withTkt _ _))

theorem letPass {q : Requester} {t : Nat} {rd : Bool} {b : Nat} : ∀ u, s.letPass q t rd b = .ok u → CellsKept s u := by
  intro u h
  unfold State.letPass at h
  split at h
  · cases h
    exact refl s
  · split at h
    · split at h
      · cases h
      · cases h
        exact (withTkt s _).trans ((withTkt _ _).trans (countAt _ _ _ _ _))
    · split at h
      · cases h
        exact (withTkt s _).trans (countAt _ _ _ _ _)
      · cases h
        exact countAt _ _ _ _ _

theorem pass {q : Requester} {t : Nat} {rd : Bool} {a n : Nat} : ∀ u, s.pass q t rd a n = .ok u → CellsKept s u :=
  eachUnit fun _ _ _ => bind letPass fun _ => crossBy

theorem hubPass (s : State) (rd : Bool) (a n : Nat) : CellsKept s (s.hubPass rd a n) := by
  unfold State.hubPass
  split
  · next h => exact pass _ h
  · exact refl s

end CellsKept

/-! ### Reads of a sound block -/

/-- The bytes of `n` cells from `key`. -/
def MemUnit.bytesAt (m : MemUnit) (key n : Nat) : List Byte := (List.range n).map fun j => Tab.at m.data (key + j)

theorem MemUnit.bytesAt_part (m : MemUnit) (key : Nat) {lo hi : Nat} (hhi : hi ≤ 256) :
    ((wordsToBytes (m.blockWords key)).drop lo).take (hi - lo) = m.bytesAt (key + lo) (hi - lo) := by
  rw [MemUnit.blockWords, wordsToBytes_raw, MemUnit.bytesAt]
  refine List.ext_getElem ?_ fun j h1 h2 => ?_
  · simp only [List.length_take, List.length_drop, List.length_map, List.length_range]
    omega
  · simp only [List.getElem_take, List.getElem_drop, List.getElem_map, List.getElem_range]
    congr 1
    omega

theorem State.cellOf_retrieval {s : State} {hub : Bool} {a o : Nat} (h : rangeOf a = .retrieval o) : s.cellOf hub a = none := by
  rw [State.cellOf, h]

theorem replicate_flatMap_false (n : Nat) : (List.replicate n false).flatMap (fun p => List.replicate 4 p) = List.replicate (4 * n) false := by
  induction n with
  | zero => rfl
  | succ n ih => rw [List.replicate_succ, List.flatMap_cons, ih, List.replicate_append_replicate]; congr 1; omega

/-- A read of part of a sound block: its bytes, none of them poisoned. -/
theorem State.readPart_sound {s : State} {hub : Bool} {point b lo hi : Nat} {c : CellRef} (hc : s.cellOf hub b = some c)
    (hprom : s.promoted b = none) (h : s.mem.Sound) (hp : s.mem.Unpatched c.ik) (hmatch : point = 0 ∨ s.mem.Matches c.key) (hhi : hi ≤ 256) :
    s.readPart hub point b lo hi = some (s.stackCount true (b + lo) (hi - lo),
      ⟨s.mem.bytesAt (c.key + lo) (hi - lo), List.replicate (hi - lo) false, s.mem.manifest c.key, false⟩) := by
  have hblock := State.readBlock_sound hc h hp
  unfold State.readPart
  split
  · next hr => exact absurd (hc.symm.trans (State.cellOf_retrieval hr)) (by simp)
  · simp only [hprom, Option.getD_none, ne_eq, not_true_eq_false, false_and, decide_false, Bool.or_false, Bool.false_and, Bool.false_eq_true,
      if_false, hblock, MemUnit.bytesAt_part _ _ hhi]
    have hany : (List.replicate 64 false).any id = false := by decide
    have hmism : (decide ¬point = 0 && !(List.replicate 64 false).any id && decide
        ¬crc32c (wordsToBytes (s.mem.blockWords c.key)) = s.mem.manifest c.key) = false := by
      rcases hmatch with h0 | hm
      · simp [h0]
      · simp [show crc32c (wordsToBytes (s.mem.blockWords c.key)) = s.mem.manifest c.key from hm]
    rw [hmism, replicate_flatMap_false, List.drop_replicate, List.take_replicate, show min (hi - lo) (4 * 64 - lo) = hi - lo by omega]
    rfl

/-! ### Writes of a sound block -/

/-- The part of a write of `data` at `a` that lies in the block at `b`, brought to that block's 256 bytes; and which of them are poisoned. -/
def blockPart {α : Type} (z : α) (a n b : Nat) (l : List α) : List α :=
  List.replicate (max a b - b) z ++ (l.drop (max a b - a)).take (min (a + n) (b + 256) - b - (max a b - b)) ++
    List.replicate (256 - (min (a + n) (b + 256) - b)) z

/-- The part of a write that lies in the block at `b`, written to the block at `dst`. -/
def State.writePart (s : State) (hub : Bool) (a : Nat) (data : List Byte) (pois : List Bool) (mans : List Word) (dst b j : Nat) :
    State × Option Nat × Option Nat :=
  match s.cellOf hub dst with
  | none => (s, some (max a b), none)
  | some c =>
    let lo := max a b - b
    let hi := min (a + data.length) (b + 256) - b
    let r := (s.stackCount false (dst + lo) (hi - lo)).writeBlock c dst lo hi (blockPart (0 : Byte) a data.length b data)
      (blockPart false a data.length b pois) ((mans[j]?).getD (crc32c (blockPart (0 : Byte) a data.length b data)))
    (r.1, none, r.2)

/-- One block of a write, and the frame that holds its page. -/
def writeStep (hub : Bool) (a : Nat) (data : List Byte) (pois : List Bool) (mans : List Word) (w : Write) (bj : Nat × Nat) : Write :=
  match w.err with
  | some _ => w
  | none =>
    let r := w.st.writePart hub a data pois mans bj.1 bj.1 bj.2
    match r.2.1 with
    | some e => { w with err := some e }
    | none =>
      let st := match w.st.promoted bj.1 with
        | some d =>
          let f := r.1.writePart true a data pois mans d bj.1 bj.2
          if f.2.1.isSome || f.2.2.isSome then f.1.pageDemote bj.1 else f.1
        | none => r.1
      { st := st, err := none, werr := if w.werr = none then r.2.2 else w.werr }

theorem State.writeAt_eq (s : State) (hub : Bool) (a : Nat) (data : List Byte) (pois : List Bool) (mans : List Word) :
    s.writeAt hub a data pois mans = ((blocksOf a data.length).zipIdx).foldl (writeStep hub a data pois mans) ⟨s, none, none⟩ := rfl

theorem nth_append {α : Type} [Inhabited α] (l m : List α) (i : Nat) : nth (l ++ m) i = if i < l.length then nth l i else nth m (i - l.length) := by
  induction l generalizing i with
  | nil => simp
  | cons a l ih =>
    cases i with
    | zero => simp [nth]
    | succ i => simp only [List.cons_append, nth, ih, List.length_cons, Nat.add_lt_add_iff_right, Nat.add_sub_add_right]

theorem nth_replicate_default {α : Type} [Inhabited α] {z : α} (hz : z = default) (n i : Nat) : nth (List.replicate n z) i = z := by
  induction n generalizing i with
  | zero => exact hz.symm
  | succ n ih =>
    cases i with
    | zero => rfl
    | succ i => exact ih i

section
variable {a n b : Nat} (hlow : a < b + 256) (hhigh : b < a + n)
include hlow hhigh

theorem nth_blockPart {α : Type} [Inhabited α] {z : α} {l : List α} (hl : l.length = n) {x : Nat}
    (h1 : max a b - b ≤ x) (h2 : x < min (a + n) (b + 256) - b) : nth (blockPart z a n b l) x = nth l (b + x - a) := by
  rw [blockPart, nth_append, if_pos, nth_append, if_neg, List.length_replicate, nth_take _ (by omega), nth_drop]
  · congr 1
    omega
  · rw [List.length_replicate]
    omega
  · simp only [List.length_append, List.length_replicate, List.length_take, List.length_drop]
    omega

theorem length_blockPart {α : Type} {z : α} {l : List α} (hl : l.length = n) : (blockPart z a n b l).length = 256 := by
  simp only [blockPart, List.length_append, List.length_replicate, List.length_take, List.length_drop, hl]
  omega

end

theorem nth_eq_getElem {α : Type} [Inhabited α] {l : List α} {i : Nat} (h : i < l.length) : nth l i = l[i] := by
  induction l generalizing i with
  | nil => exact absurd h (Nat.not_lt_zero _)
  | cons a l ih =>
    cases i with
    | zero => rfl
    | succ i => exact ih (Nat.lt_of_succ_lt_succ h)

theorem nth_of_length_le {α : Type} [Inhabited α] {l : List α} {i : Nat} (h : l.length ≤ i) : nth l i = default := by
  induction l generalizing i with
  | nil => rfl
  | cons a l ih =>
    cases i with
    | zero => exact absurd h (by simp)
    | succ i => exact ih (Nat.le_of_succ_le_succ h)

theorem nth_blockPart_false {a n b : Nat} {l : List Bool} (hl : ∀ i, nth l i = false) (i : Nat) : nth (blockPart false a n b l) i = false := by
  rw [blockPart, nth_append]
  split
  · rw [nth_append]
    split
    · exact nth_replicate_default rfl _ _
    · by_cases hi : i - (List.replicate (max a b - b) false).length < min (a + n) (b + 256) - b - (max a b - b)
      · rw [nth_take _ hi, nth_drop, hl]
      · exact nth_of_length_le ((List.length_take_le _ _).trans (not_lt.mp hi))
  · exact nth_replicate_default rfl _ _

/-- `t` is `s` with the part of the write of `data` at `a` that lies in the block at `b` stored at the cells from `key`. -/
structure BlockStored (a b key : Nat) (data : List Byte) (s t : State) : Prop where
  data : ∀ k, Tab.at t.mem.data k = if (key ≤ k ∧ k < key + 256) ∧ a ≤ b + (k - key) ∧ b + (k - key) < a + data.length
    then nth data (b + (k - key) - a) else Tab.at s.mem.data k
  sound : t.mem.Sound
  insts : t.mem.insts = s.mem.insts
  retired : t.mem.retired = s.mem.retired
  newPatches : t.mem.newPatches = s.mem.newPatches
  frames : t.place.frames = s.place.frames
  flip : t.rget .MEM_FLIP_CTL = s.rget .MEM_FLIP_CTL
  level : t.fget .BUP_STAT F.BUP_STAT_LEVEL = s.fget .BUP_STAT F.BUP_STAT_LEVEL
  manifest : ∀ k, k / 256 ≠ key / 256 → t.mem.manifest k = s.mem.manifest k
  log : t.log = s.log

theorem BlockStored.cellsKept_left {a b key : Nat} {data : List Byte} {s u t : State} (h : CellsKept s u)
    (hp : u.mem.newPatches = s.mem.newPatches) (hlog : u.log = s.log) (g : BlockStored a b key data u t) : BlockStored a b key data s t :=
  ⟨fun k => by rw [g.data, h.data], g.sound, g.insts.trans h.insts, g.retired.trans h.retired, g.newPatches.trans hp, g.frames.trans h.frames,
    g.flip.trans h.flip, g.level.trans h.level, fun k hk => (g.manifest k hk).trans (h.manifest k), g.log.trans hlog⟩

theorem State.stackCount_newPatches (s : State) (rd : Bool) (a n : Nat) : (s.stackCount rd a n).mem.newPatches = s.mem.newPatches := by
  unfold State.stackCount
  dsimp only
  split
  · split
    · split
      · split <;> rfl
      · rfl
    · rfl
  · rfl

theorem State.stackCount_log (s : State) (rd : Bool) (a n : Nat) : (s.stackCount rd a n).log = s.log := by
  unfold State.stackCount
  dsimp only
  split
  · split
    · split
      · split <;> rfl
      · rfl
    · rfl
  · rfl

/-- A part of a write into a sound block stores its bytes, and completes. -/
theorem State.writePart_sound {s : State} {hub : Bool} {a b : Nat} {data : List Byte} {pois : List Bool} {c : CellRef}
    (hc : s.cellOf hub b = some c) (h : s.TakesWrites c) (hlow : a < b + 256) (hhigh : b < a + data.length)
    (hpois : ∀ i, nth pois i = false) (hmatch : s.mem.Matches c.key) (mans : List Word) (j : Nat) :
    ∃ t, s.writePart hub a data pois mans b b j = (t, none, none) ∧ BlockStored a b c.key data s t ∧ MemoryActs s t ∧
      (c.cls ≠ 2 ∧ c.cls ≠ 3 → mans[j]? = none → t.mem.Matches c.key) := by
  have hcount := CellsKept.stackCount s false (b + (max a b - b)) (min (a + data.length) (b + 256) - b - (max a b - b))
  have hacts := MemoryActs.stackCount s false (b + (max a b - b)) (min (a + data.length) (b + 256) - b - (max a b - b))
  have hnew := State.stackCount_newPatches s false (b + (max a b - b)) (min (a + data.length) (b + 256) - b - (max a b - b))
  have hlog := State.stackCount_log s false (b + (max a b - b)) (min (a + data.length) (b + 256) - b - (max a b - b))
  have hpart : ∀ {r}, ((s.stackCount false (b + (max a b - b)) (min (a + data.length) (b + 256) - b - (max a b - b))).writeBlock c b (max a b - b)
      (min (a + data.length) (b + 256) - b) (blockPart 0 a data.length b data) (blockPart false a data.length b pois)
        ((mans[j]?).getD (crc32c (blockPart 0 a data.length b data)))) = r → s.writePart hub a data pois mans b b j = (r.1, none, r.2) :=
    fun hr => by simp only [State.writePart, hc, hr]
  generalize s.stackCount false (b + (max a b - b)) (min (a + data.length) (b + 256) - b - (max a b - b)) = u at *
  obtain ⟨t, hwrite, hstored, hman⟩ := State.writeBlock_sound (hcount.takesWrites h) b (hi := min (a + data.length) (b + 256) - b) (by omega)
    (blockPart 0 a data.length b data) (lo := max a b - b) (fun i => nth_blockPart_false hpois i)
    ((mans[j]?).getD (crc32c (blockPart 0 a data.length b data))) fun _ => (hcount.matches_iff _).mpr hmatch
  have hdone := hpart hwrite
  have hwb := MemoryActs.writeBlock u c b (max a b - b) (min (a + data.length) (b + 256) - b) (blockPart 0 a data.length b data)
    (blockPart false a data.length b pois) ((mans[j]?).getD (crc32c (blockPart 0 a data.length b data)))
  rw [hwrite] at hwb
  refine ⟨u.withMem t, hdone, ?stored, hacts.trans hwb, fun hcls hmans => ?own⟩
  case stored =>
    refine BlockStored.cellsKept_left hcount hnew hlog ⟨fun k => ?_, hstored.sound, ?_, ?_, ?_, rfl, rfl, rfl, hstored.manifest, rfl⟩
    · refine (hstored.data k).trans ?_
      by_cases hk : c.key + (max a b - b) ≤ k ∧ k < c.key + (min (a + data.length) (b + 256) - b)
      · rw [if_pos hk, if_pos (by omega), nth_blockPart hlow hhigh rfl (by omega) (by omega)]
      · rw [if_neg hk, if_neg (by omega)]
    · rw [show (u.withMem t).mem = t from rfl, hstored.rest]
    · rw [show (u.withMem t).mem = t from rfl, hstored.rest]
    · rw [show (u.withMem t).mem = t from rfl, hstored.rest]
  case own =>
    have hm := hman hcls
    rw [hmans, Option.getD_none] at hm
    split at hm
    · next hwhole =>
      rw [MemUnit.Matches, show (u.withMem t).mem = t from rfl, hm]
      congr 1
      rw [MemUnit.blockWords, wordsToBytes_raw]
      refine List.ext_getElem ?_ fun i h1 h2 => ?_
      · rw [length_blockPart hlow hhigh rfl, List.length_map, List.length_range]
      · have hi : i < 256 := by simpa using h1
        rw [List.getElem_map, List.getElem_range, hstored.data, if_pos (by omega), Nat.add_sub_cancel_left, nth_eq_getElem]
    · exact hm

/-! ### Where addresses lead -/

/-- The address map is the same: stacks that run and their views, sites and their slots, dies that are released, fenced or doze, fenced
macros, dead rows and retired pages. -/
structure AddressesKept (s t : State) : Prop where
  stk : ∀ n, t.rget (.STK_STAT n) = s.rget (.STK_STAT n)
  map : ∀ d r, t.rget (.CDI_MAP d r) = s.rget (.CDI_MAP d r)
  fenced : t.rget .BUP_FENCED = s.rget .BUP_FENCED
  level : t.fget .BUP_STAT F.BUP_STAT_LEVEL = s.fget .BUP_STAT F.BUP_STAT_LEVEL
  doze : t.doze = s.doze
  deadRows : t.deadRows = s.deadRows
  macros : ∀ k, (t.sites.at k).fenced = (s.sites.at k).fenced
  retired : t.mem.retired = s.mem.retired

namespace AddressesKept
variable {s t : State} (h : AddressesKept s t)
include h

theorem siteOf_eq (e : Nat) : t.siteOf e = s.siteOf e := by rw [State.siteOf, State.siteOf, State.fget_of_rget (h.map _ _)]

theorem usable_eq (k : Nat) : t.usable k = s.usable k := by rw [State.usable, State.usable, h.macros]

theorem absent_eq (e : Nat) : t.absent e = s.absent e := by
  have hstate : ∀ k, t.siteState k = s.siteState k := fun k => by rw [State.siteState, State.siteState, State.fget_of_rget (h.map _ _)]
  have hfence : ∀ p, t.dieFenced p = s.dieFenced p := fun p => by rw [State.dieFenced, State.dieFenced, State.fget_of_rget h.fenced]
  have hrelease : ∀ d, t.released d = s.released d := fun d => by rw [State.released, State.released, h.level]
  rw [State.absent, State.absent, h.siteOf_eq, hstate, hfence, hrelease]

theorem ilMode_eq : t.ilMode = s.ilMode := by
  have hstk : ∀ n f, t.fget (.STK_STAT n) f = s.fget (.STK_STAT n) f := fun n => State.fget_of_rget (h.stk n)
  rw [State.ilMode, State.ilMode, State.bget, State.bget, State.bget, State.bget, hstk, hstk, hstk]

theorem cellOf_eq (hub : Bool) (a : Nat) : t.cellOf hub a = s.cellOf hub a := by
  have hstk : ∀ n f, t.fget (.STK_STAT n) f = s.fget (.STK_STAT n) f := fun n => State.fget_of_rget (h.stk n)
  have hfence : ∀ p, t.dieFenced p = s.dieFenced p := fun p => by rw [State.dieFenced, State.dieFenced, State.fget_of_rget h.fenced]
  have hdozing : ∀ d, t.dozing d = s.dozing d := fun d => by rw [State.dozing, State.dozing, h.doze]
  have hlocal : ∀ k o, t.localCell k o = s.localCell k o := fun k o => by rw [State.localCell, State.localCell, h.macros]
  have hstack : ∀ n o, t.stackCell n o = s.stackCell n o := fun n o => by
    rw [State.stackCell, State.stackCell, State.stackRuns, State.stackRuns, hstk, h.retired]
  rw [State.cellOf, State.cellOf]
  cases rangeOf a with
  | interleaved b => simp only [h.ilMode_eq, hstack]
  | placed n o => simp only [h.ilMode_eq, hstack]
  | bonded row o => simp only [hfence, hdozing, h.deadRows, h.retired]
  | store e o =>
    dsimp only
    rw [h.absent_eq, h.siteOf_eq, hdozing, h.usable_eq, hlocal]
  | sbf o => rfl
  | retrieval o => rfl
  | register o => rfl
  | outside => rfl

end AddressesKept

/-- What only the memory system does, retiring no page and releasing no die, leaves the address map. -/
theorem MemoryActs.addressesKept {s t : State} (h : MemoryActs s t) (hretired : t.mem.retired = s.mem.retired)
    (hlevel : t.fget .BUP_STAT F.BUP_STAT_LEVEL = s.fget .BUP_STAT F.BUP_STAT_LEVEL) : AddressesKept s t where
  stk := fun n => h.regs _ (by simp [memoryRegs, passRegs, signalRegs])
  map := fun d r => h.regs _ (by simp [memoryRegs, passRegs, signalRegs])
  fenced := h.regs _ (by simp [memoryRegs, passRegs, signalRegs])
  level := hlevel
  doze := by rw [h.rest]
  deadRows := by rw [h.rest]
  macros := fun k => by rw [show t.sites = s.sites by rw [h.rest]]
  retired := hretired

theorem MemoryActs.cellOf_eq {s t : State} (h : MemoryActs s t) (hretired : t.mem.retired = s.mem.retired)
    (hlevel : t.fget .BUP_STAT F.BUP_STAT_LEVEL = s.fget .BUP_STAT F.BUP_STAT_LEVEL) (hub : Bool) (a : Nat) :
    t.cellOf hub a = s.cellOf hub a := (h.addressesKept hretired hlevel).cellOf_eq hub a

theorem stackCell_aligned {s : State} {n o : Nat} {c : CellRef} (h : s.stackCell n o = some c) (ho : o % 256 = 0) : c.key % 256 = 0 := by
  unfold State.stackCell at h
  split at h
  · cases h
  · cases h
    simp only [stackKey]
    omega

theorem State.cellOf_aligned {s : State} {hub : Bool} {b : Nat} {c : CellRef} (h : s.cellOf hub b = some c) (hb : b % 256 = 0) :
    c.key % 256 = 0 ∧ c.cls ≠ 2 ∧ c.cls ≠ 3 := by
  have hstack : ∀ {n o}, s.stackCell n o = some c → o % 256 = 0 → c.key % 256 = 0 ∧ c.cls ≠ 2 ∧ c.cls ≠ 3 := fun {n o} hc ho => by
    refine ⟨stackCell_aligned hc ho, ?_⟩
    unfold State.stackCell at hc
    split at hc
    · cases hc
    · cases hc
      exact ⟨by simp, by simp⟩
  unfold State.cellOf at h
  split at h
  · next x hr =>
    have hx : x = b := by
      unfold rangeOf at hr
      split_ifs at hr
      simp_all
    subst hx
    split at h
    · cases h
    · split at h
      · next n o hplace =>
        refine hstack h ?_
        unfold ilPlace at hplace
        split at hplace
        · cases hplace
          omega
        · cases hplace
          omega
        · cases hplace
      · cases h
  · next n o hr =>
    split at h
    · cases h
    · refine hstack h ?_
      unfold rangeOf at hr
      split_ifs at hr
      simp only [Range.placed.injEq] at hr
      omega
  · next row o hr =>
    split at h
    · cases h
    · cases h
      unfold rangeOf at hr
      split_ifs at hr
      simp only [Range.bonded.injEq] at hr
      exact ⟨by simp only [bondedAddr]; omega, by simp, by simp⟩
  · next o hr =>
    cases h
    unfold rangeOf at hr
    split_ifs at hr
    simp only [Range.sbf.injEq] at hr
    exact ⟨by simp only [sbfAddr]; omega, by simp, by simp⟩
  · next e o hr =>
    split at h
    · cases h
    · cases h
      unfold rangeOf at hr
      split_ifs at hr
      simp only [Range.store.injEq] at hr
      exact ⟨by simp only [State.localCell, localKey]; omega, by simp [State.localCell], by simp [State.localCell]⟩
  · cases h

/-! ### Quiet memory -/

/-- Nothing of memory is poisoned, waits for correction or is patched, no fault injection is armed, and no page is promoted. -/
structure State.Quiet (s : State) : Prop where
  sound : s.mem.Sound
  unpatched : ∀ ik, s.mem.Unpatched ik
  unarmed : s.fget .MEM_FLIP_CTL F.MEM_FLIP_CTL_ARM = 0
  frames : s.place.frames = []

theorem Undisturbed.quiet {s : State} (h : Undisturbed s) : s.Quiet := by
  obtain ⟨-, hsyn, hpatch, harm, hframes⟩ := h
  exact ⟨hsyn, hpatch, harm, hframes⟩

theorem State.Quiet.takesWrites {s : State} (h : s.Quiet) (c : CellRef) : s.TakesWrites c :=
  ⟨h.sound, h.unpatched _, by rw [h.unarmed, bitAt, Nat.zero_div]; rfl⟩

theorem State.promoted_of_frames_nil {s : State} (h : s.place.frames = []) (a : Nat) : s.promoted a = none := by
  unfold State.promoted
  split
  · rw [State.frameOf, h]
    rfl
  · rfl

theorem CellsKept.quiet {s t : State} (h : CellsKept s t) (hs : s.Quiet) : t.Quiet :=
  ⟨h.sound hs.sound, fun ik => h.unpatched (hs.unpatched ik), by rw [State.fget_of_rget h.flip]; exact hs.unarmed, h.frames.trans hs.frames⟩

theorem BlockStored.quiet {a b key : Nat} {data : List Byte} {s t : State} (h : BlockStored a b key data s t) (hs : s.Quiet) : t.Quiet :=
  ⟨h.sound, fun ik => by rw [MemUnit.Unpatched, h.insts]; exact hs.unpatched ik, by rw [State.fget_of_rget h.flip]; exact hs.unarmed,
    h.frames.trans hs.frames⟩

/-- A block other than the one written still matches its manifest. -/
theorem BlockStored.keeps_matches {a b key : Nat} {data : List Byte} {s t : State} (h : BlockStored a b key data s t) (hkey : key % 256 = 0) {k : Nat}
    (hk : k % 256 = 0) (hne : k ≠ key) (hm : s.mem.Matches k) : t.mem.Matches k := by
  have hbytes : ∀ i, i < 256 → Tab.at t.mem.data (k + i) = Tab.at s.mem.data (k + i) := fun i hi => by
    rw [h.data, if_neg (by omega)]
  have hwords : t.mem.blockWords k = s.mem.blockWords k := by
    refine List.map_congr_left fun i hi => ?_
    have hi64 := List.mem_range.mp hi
    have h0 := hbytes (4 * i) (by omega)
    have h1 := hbytes (4 * i + 1) (by omega)
    have h2 := hbytes (4 * i + 2) (by omega)
    have h3 := hbytes (4 * i + 3) (by omega)
    simp only [← Nat.add_assoc] at h1 h2 h3
    simp only [MemUnit.raw, h0, h1, h2, h3]
  rw [MemUnit.Matches, hwords, h.manifest _ (by omega)]
  exact hm

/-- What an access to quiet memory leaves: it is quiet still, addresses lead where they led, and the blocks that match their manifests do. -/
structure QuietActs (s t : State) : Prop where
  acts : MemoryActs s t
  quiet : t.Quiet
  cells : ∀ hub a, t.cellOf hub a = s.cellOf hub a
  matching : ∀ k, k % 256 = 0 → s.mem.Matches k → t.mem.Matches k

theorem QuietActs.refl {s : State} (h : s.Quiet) : QuietActs s s := ⟨MemoryActs.refl s, h, fun _ _ => rfl, fun _ _ h => h⟩

theorem QuietActs.trans {s t u : State} (h : QuietActs s t) (g : QuietActs t u) : QuietActs s u :=
  ⟨h.acts.trans g.acts, g.quiet, fun hub a => (g.cells hub a).trans (h.cells hub a), fun k hk hm => g.matching k hk (h.matching k hk hm)⟩

theorem CellsKept.quietActs {s t : State} (h : CellsKept s t) (hacts : MemoryActs s t) (hs : s.Quiet) : QuietActs s t :=
  ⟨hacts, h.quiet hs, hacts.cellOf_eq h.retired h.level, fun k _ hm => (h.matches_iff k).mpr hm⟩

theorem BlockStored.quietActs {a b key : Nat} {data : List Byte} {s t : State} (h : BlockStored a b key data s t) (hacts : MemoryActs s t)
    (hs : s.Quiet) (hkey : key % 256 = 0) (hown : t.mem.Matches key) : QuietActs s t := by
  refine ⟨hacts, h.quiet hs, hacts.cellOf_eq h.retired h.level, fun k hk hm => ?_⟩
  by_cases hne : k = key
  · exact hne ▸ hown
  · exact h.keeps_matches hkey hk hne hm

/-- Each block of the range leads to a cell, and matches its manifest. -/
def State.Served (s : State) (hub : Bool) (a n : Nat) : Prop := ∀ b ∈ blocksOf a n, ∃ c, s.cellOf hub b = some c ∧ s.mem.Matches c.key

theorem mem_blocksOf {a n b : Nat} (h : b ∈ blocksOf a n) : b % 256 = 0 ∧ a < b + 256 ∧ b < a + n := by
  unfold blocksOf at h
  split at h
  · exact absurd h List.not_mem_nil
  · obtain ⟨i, hi, rfl⟩ := List.mem_map.mp h
    have := List.mem_range.mp hi
    omega

theorem QuietActs.served {s t : State} (h : QuietActs s t) {hub : Bool} {a n : Nat} (hs : s.Served hub a n) : t.Served hub a n := by
  intro b hb
  obtain ⟨c, hc, hm⟩ := hs b hb
  exact ⟨c, (h.cells hub b).trans hc, h.matching c.key (State.cellOf_aligned hc (mem_blocksOf hb).1).1 hm⟩

theorem Readable.served {s : State} (hq : s.Quiet) {a n : Nat} (h : Readable s a n) : s.Served false a n := by
  intro b hb
  obtain ⟨x, hread, hcrc⟩ := h b hb
  cases hc : s.cellOf false b with
  | none =>
    rw [State.readBlock, hc] at hread
    cases hread
  | some c =>
    rw [State.readBlock_sound hc hq.sound (hq.unpatched _)] at hread
    obtain rfl := Option.some.inj hread
    exact ⟨c, rfl, hcrc⟩

/-- A hub unit reaches every cell that another requester does (R160). -/
theorem State.cellOf_hub {s : State} {a : Nat} {c : CellRef} (h : s.cellOf false a = some c) : s.cellOf true a = some c := by
  unfold State.cellOf at h ⊢
  split at h
  · split at h
    · cases h
    · rwa [if_neg (by simp)]
  · split at h
    · cases h
    · rwa [if_neg (by simp)]
  all_goals exact h

theorem State.Served.hub {s : State} {a n : Nat} (h : s.Served false a n) (hub : Bool) : s.Served hub a n := by
  cases hub with
  | false => exact h
  | true => exact fun b hb => (h b hb).imp fun c hc => ⟨State.cellOf_hub hc.1, hc.2⟩

/-! ### Ranges of quiet memory -/

/-- One block of a read. -/
def readStep (hub : Bool) (point a n : Nat) (r : Read) (b : Nat) : Read :=
  match r.err with
  | some _ => r
  | none =>
    match r.st.readPart hub point b (max a b - b) (min (a + n) (b + 256) - b) with
    | none => { r with err := some (max a b) }
    | some (st, x) =>
      { st := st,
        bytes := r.bytes ++ x.bytes,
        pois := r.pois ++ x.pois,
        mans := r.mans ++ [x.man],
        err := none,
        bad := if x.mism && decide (r.bad = none) then some b else r.bad
        bads := if x.mism then b :: r.bads else r.bads }

theorem State.readAt_eq (s : State) (hub : Bool) (point a n : Nat) : s.readAt hub point a n =
    (blocksOf a n).foldl (readStep hub point a n) ⟨if hub then s else s.placeCount a n, [], [], [], none, none, []⟩ := rfl

/-- What a read of quiet memory answers, so far. -/
structure ReadsQuiet (s : State) (r : Read) : Prop where
  st : QuietActs s r.st
  kept : CellsKept s r.st
  err : r.err = none
  pois : ∀ p ∈ r.pois, p = false
  bad : r.bad = none
  bads : r.bads = []

theorem readStep_quiet {s : State} {r : Read} (h : ReadsQuiet s r) {hub : Bool} {point a n b : Nat} {c : CellRef}
    (hc : s.cellOf hub b = some c) (hm : point = 0 ∨ s.mem.Matches c.key) : ReadsQuiet s (readStep hub point a n r b) := by
  have hcell : r.st.cellOf hub b = some c := (h.st.cells hub b).trans hc
  have hmatch : point = 0 ∨ r.st.mem.Matches c.key := hm.imp_right (h.kept.matches_iff _).mpr
  have hpart := State.readPart_sound (point := point) (lo := max a b - b) hcell (State.promoted_of_frames_nil h.st.quiet.frames b) h.st.quiet.sound
    (h.st.quiet.unpatched c.ik) hmatch (hi := min (a + n) (b + 256) - b) (by omega)
  have hcount := CellsKept.stackCount r.st true (b + (max a b - b)) (min (a + n) (b + 256) - b - (max a b - b))
  unfold readStep
  rw [h.err]
  simp only [hpart, Bool.false_and, Bool.false_eq_true, if_false]
  refine ⟨h.st.trans (hcount.quietActs (MemoryActs.stackCount _ _ _ _) h.st.quiet), h.kept.trans hcount, rfl, fun p hp => ?_, h.bad, h.bads⟩
  rcases List.mem_append.mp hp with hp | hp
  · exact h.pois p hp
  · exact List.eq_of_mem_replicate hp

/-- A read of quiet memory, whose manifests match where they are checked. -/
theorem State.readAt_quiet {s : State} (hq : s.Quiet) {hub : Bool} {point a n : Nat}
    (h : ∀ b ∈ blocksOf a n, ∃ c, s.cellOf hub b = some c ∧ (point = 0 ∨ s.mem.Matches c.key)) : ReadsQuiet s (s.readAt hub point a n) := by
  rw [State.readAt_eq]
  have hstart : ReadsQuiet s ⟨if hub then s else s.placeCount a n, [], [], [], none, none, []⟩ := by
    cases hub
    · have hcount := CellsKept.placeCount s a n
      exact ⟨hcount.quietActs (MemoryActs.placeCount s a n) hq, hcount, rfl, fun _ hp => absurd hp List.not_mem_nil, rfl, rfl⟩
    · exact ⟨QuietActs.refl hq, CellsKept.refl s, rfl, fun _ hp => absurd hp List.not_mem_nil, rfl, rfl⟩
  refine List.foldlRecOn (motive := fun r => ReadsQuiet s r) _ _ hstart fun r hr b hb => ?_
  obtain ⟨c, hc, hm⟩ := h b hb
  exact readStep_quiet hr hc hm

theorem State.Served.readAt_quiet {s : State} (hq : s.Quiet) {hub : Bool} {a n : Nat} (h : s.Served hub a n) (point : Nat) :
    ReadsQuiet s (s.readAt hub point a n) :=
  State.readAt_quiet hq fun b hb => (h b hb).imp fun _ hc => ⟨hc.1, .inr hc.2⟩

/-- What a write of quiet memory leaves, so far. -/
structure WritesQuiet (s : State) (w : Write) : Prop where
  st : QuietActs s w.st
  err : w.err = none
  werr : w.werr = none

/-- A write of quiet memory completes, and leaves it quiet. -/
theorem State.writeAt_quiet {s : State} (hq : s.Quiet) {hub : Bool} {a : Nat} {data : List Byte} {pois : List Bool}
    (h : s.Served hub a data.length) (hpois : ∀ i, nth pois i = false) : WritesQuiet s (s.writeAt hub a data pois []) := by
  rw [State.writeAt_eq]
  refine List.foldlRecOn (motive := fun w => WritesQuiet s w) _ _ ⟨QuietActs.refl hq, rfl, rfl⟩ fun w hw bj hbj => ?_
  obtain ⟨b, j⟩ := bj
  have hb : b ∈ blocksOf a data.length := by
    have := List.mem_zipIdx hbj
    exact this.2.2 ▸ List.getElem_mem _
  obtain ⟨halign, hlow, hhigh⟩ := mem_blocksOf hb
  obtain ⟨c, hc, hm⟩ := hw.st.served h b hb
  obtain ⟨hkey, hcls⟩ := State.cellOf_aligned hc halign
  obtain ⟨t, hpart, hstored, hacts, hown⟩ := State.writePart_sound hc (hw.st.quiet.takesWrites c) hlow hhigh hpois hm [] j
  unfold writeStep
  rw [hw.err]
  simp only [hpart, State.promoted_of_frames_nil hw.st.quiet.frames]
  refine ⟨hw.st.trans (hstored.quietActs hacts hw.st.quiet hkey (hown hcls rfl)), rfl, ?_⟩
  rw [hw.werr, if_pos rfl]

end Sys2Proof.Machine

namespace Sys2Proof.Machine

/-! PROOFS. Requests on their way where nothing holds them (R226, R300): every bundle that takes requests goes on taking them, and so a
request crosses and passes. -/

/-- Whether bundles take requests, engines wait at their edge, and sources hold tickets is the same. -/
structure PathsKept (s t : State) : Prop where
  states : ∀ p, t.bundleState p = s.bundleState p
  asked : ∀ p dir, (t.dirOf p dir).asked = (s.dirOf p dir).asked
  writes : ∀ p dir, (t.dirOf p dir).writes = (s.dirOf p dir).writes
  engs : t.engs = s.engs
  hold : t.tkt.hold = s.tkt.hold

namespace PathsKept
variable {s t u : State}

theorem refl (s : State) : PathsKept s s := ⟨fun _ => rfl, fun _ _ => rfl, fun _ _ => rfl, rfl, rfl⟩

theorem trans (h : PathsKept s t) (g : PathsKept t u) : PathsKept s u :=
  ⟨fun p => (g.states p).trans (h.states p), fun p d => (g.asked p d).trans (h.asked p d), fun p d => (g.writes p d).trans (h.writes p d),
    g.engs.trans h.engs, g.hold.trans h.hold⟩

theorem ite {p : Prop} [Decidable p] {a b : State} (h : PathsKept s a) (g : PathsKept s b) : PathsKept s (if p then a else b) := by
  split
  · exact h
  · exact g

theorem bundleWaits_eq (h : PathsKept s t) (p dir : Nat) : t.bundleWaits p dir = s.bundleWaits p dir := by
  rw [State.bundleWaits, State.bundleWaits, h.states, h.asked, h.writes]

theorem edgeHeld_eq (h : PathsKept s t) (q : Requester) : t.edgeHeld q = s.edgeHeld q := by
  cases q <;> simp only [State.edgeHeld, h.engs]

theorem heldBit_eq (h : PathsKept s t) (q : Requester) (r k : Nat) : t.heldBit q r k = s.heldBit q r k := by
  rw [State.heldBit, State.heldBit, State.sourceHold, State.sourceHold, h.hold]

theorem bundlesFree (h : PathsKept s t) (hs : BundlesFree s) : BundlesFree t := fun p dir => (h.bundleWaits_eq p dir).trans (hs p dir)

theorem pathsFree (h : PathsKept s t) (hs : PathsFree s) : PathsFree t :=
  ⟨h.bundlesFree hs.1, fun q r k => (h.heldBit_eq q r k).trans (hs.2 q r k)⟩

/-- What leaves the bundles, engines and the tickets' masks alone. -/
theorem of_eq (hregs : ∀ b, t.rget (.CWY_STAT b) = s.rget (.CWY_STAT b)) (hcwy : t.cwy = s.cwy) (hengs : t.engs = s.engs)
    (hhold : t.tkt.hold = s.tkt.hold) : PathsKept s t :=
  ⟨fun _ => State.fget_of_rget (hregs _) _, fun _ _ => by rw [State.dirOf, State.dirOf, hcwy], fun _ _ => by rw [State.dirOf, State.dirOf, hcwy],
    hengs, hhold⟩

theorem rset (s : State) {r : Reg} (v : Word) (h : ∀ b, Reg.CWY_STAT b ≠ r) : PathsKept s (s.rset r v) :=
  of_eq (fun b => State.rget_rset_other _ _ (h b)) rfl rfl rfl

theorem fset (s : State) {r : Reg} (f : Fld) (v : Nat) (h : ∀ b, Reg.CWY_STAT b ≠ r) : PathsKept s (s.fset r f v) := rset s _ h

theorem tick (s : State) : PathsKept s s.tick := of_eq (fun _ => rfl) rfl rfl rfl

theorem withTkt (s : State) {u : TktUnit} (h : u.hold = s.tkt.hold) : PathsKept s { s with tkt := u } := of_eq (fun _ => rfl) rfl rfl h

/-- Counting flits of a direction leaves what it waits for. -/
theorem dirUpd (s : State) (p dir : Nat) {f : DirUnit → DirUnit} (hasked : ∀ d, (f d).asked = d.asked) (hwrites : ∀ d, (f d).writes = d.writes) :
    PathsKept s (s.dirUpd p dir f) := by
  have hdir : ∀ q k, (s.dirUpd p dir f).dirOf q k = if q = p ∧ k = dir then f (s.dirOf q k) else s.dirOf q k := fun q k => by
    rw [State.dirOf, State.dirUpd, State.bundleUpd]
    simp only [Tab.at_upd]
    by_cases hq : q = p
    · by_cases hk : k = dir
      · rw [if_pos hq, if_pos ⟨hq, hk⟩, Tab.at_upd, if_pos hk, hq, hk]
        rfl
      · rw [if_pos hq, if_neg fun h => hk h.2, Tab.at_upd, if_neg hk, hq]
        rfl
    · rw [if_neg hq, if_neg fun h => hq h.1]
      rfl
  refine ⟨fun _ => rfl, fun q k => ?_, fun q k => ?_, rfl, rfl⟩
  · rw [hdir]
    split
    · exact hasked _
    · rfl
  · rw [hdir]
    split
    · exact hwrites _
    · rfl

theorem flitsCross (s : State) (p up down : Nat) : PathsKept s (s.flitsCross p up down) :=
  (fset s (r := .CWY_RX (bundleNo p)) _ _ (by simp)).trans ((fset _ (r := .CWY_TX (bundleNo p)) _ _ (by simp)).trans
    ((dirUpd _ p 1 (f := fun d => { d with sent := d.sent + up, acc := d.acc + up }) (fun _ => rfl) (fun _ => rfl)).trans
      (dirUpd _ p 0 (f := fun d => { d with sent := d.sent + down, acc := d.acc + down }) (fun _ => rfl) (fun _ => rfl))))

theorem foldl {α : Type} {f : State → α → State} (hf : ∀ s a, PathsKept s (f s a)) (l : List α) (s : State) : PathsKept s (l.foldl f s) :=
  List.foldlRecOn (motive := fun t => PathsKept s t) l f (refl s) fun t ht a _ => ht.trans (hf t a)

theorem tktUpd (s : State) (r t : Nat) (f : TktRes → TktRes) : PathsKept s (s.tktUpd r t f) := withTkt s rfl

theorem waitOver (s : State) (q : Requester) (r t : Nat) : PathsKept s (s.waitOver q r t) := withTkt s rfl

theorem countAt (s : State) (rd : Bool) (r t held : Nat) : PathsKept s (s.countAt rd r t held) := by
  unfold State.countAt
  extract_lets x s1
  have h : PathsKept s s1 := ite ((tick s).trans (fset _ (r := .STK_MISS_CNT _) _ _ (by simp))) (tick s)
  refine ite (h.trans ?_) h
  unfold State.countRead
  extract_lets interval hasTarget s2
  have h2 : PathsKept s1 s2 := (tktUpd s1 _ _ _).trans (ite (fset _ (r := .TEL_HIST _) _ _ (by simp)) (refl _))
  exact ite h2 (h2.trans (withTkt _ rfl))

end PathsKept

/-! ### Requests cross and pass -/

/-- A request crosses where its bundles take requests. -/
theorem State.crossBy_ok {s : State} (hb : BundlesFree s) {q : Requester} (he : s.edgeHeld q = false) (rd part : Bool) (near : Option Nat)
    (far : List Nat) : ∃ u, s.crossBy q rd part near far = .ok u ∧ PathsKept s u := by
  unfold State.crossBy
  extract_lets ask back
  have hnear : near.filter (fun p => s.edgeHeld q || s.bundleWaits p 1) = none := by simp [he, hb _ _]
  have hfar : far.find? (fun p => s.bundleWaits p 0) = none := List.find?_eq_none.mpr fun p _ => by simp [hb _ _]
  rw [hnear, hfar]
  refine ⟨_, rfl, PathsKept.trans ?_ (PathsKept.foldl (fun s p => PathsKept.flitsCross s p _ _) _ _)⟩
  cases near
  · exact PathsKept.refl s
  · exact PathsKept.flitsCross s _ _ _

theorem State.eachUnit_ok {s : State} {a n : Nat} {f : State → Nat → Bool → Except Hold State}
    (hf : ∀ t b p, PathsKept s t → ∃ u, f t b p = .ok u ∧ PathsKept t u) : ∃ u, s.eachUnit a n f = .ok u ∧ PathsKept s u := by
  unfold State.eachUnit
  refine List.foldlRecOn (motive := fun x : Except Hold State => ∃ u, x = .ok u ∧ PathsKept s u) _ _ ⟨s, rfl, PathsKept.refl s⟩ ?_
  rintro _ ⟨t, rfl, ht⟩ b _
  obtain ⟨u, hu, hkept⟩ := hf t b _ ht
  exact ⟨u, hu, ht.trans hkept⟩

theorem State.crossAll_ok {s : State} (hb : BundlesFree s) {q : Requester} (he : s.edgeHeld q = false) (rd : Bool) (a n : Nat) :
    ∃ u, s.crossAll q rd a n = .ok u ∧ PathsKept s u :=
  State.eachUnit_ok fun _ _ _ ht => State.crossBy_ok (ht.bundlesFree hb) ((ht.edgeHeld_eq q).trans he) _ _ _ _

/-- A request of a source that holds no requests of its ticket goes on. -/
theorem State.letPass_ok {s : State} {q : Requester} {k : Nat} (hh : ∀ r, s.heldBit q r k = false) (rd : Bool) (b : Nat) :
    ∃ u, s.letPass q k rd b = .ok u ∧ PathsKept s u := by
  unfold State.letPass
  split
  · exact ⟨s, rfl, PathsKept.refl s⟩
  · rw [if_neg (by simp [hh])]
    split
    · exact ⟨_, rfl, (PathsKept.waitOver s _ _ _).trans (PathsKept.countAt _ _ _ _ _)⟩
    · exact ⟨_, rfl, PathsKept.countAt _ _ _ _ _⟩

theorem State.pass_ok {s : State} (hb : BundlesFree s) {q : Requester} {k : Nat} (he : s.edgeHeld q = false) (hh : ∀ r, s.heldBit q r k = false)
    (rd : Bool) (a n : Nat) : ∃ u, s.pass q k rd a n = .ok u ∧ PathsKept s u := by
  refine State.eachUnit_ok fun t b p ht => ?_
  obtain ⟨u, hu, hkept⟩ := State.letPass_ok (q := q) (k := k) (s := t) (fun r => (ht.heldBit_eq q r k).trans (hh r)) rd b
  have hu' := ht.trans hkept
  obtain ⟨v, hv, hkept'⟩ := State.crossBy_ok (s := u) (hu'.bundlesFree hb) (q := q) ((hu'.edgeHeld_eq q).trans he) rd p
    (u.nearBundle q (addressDie b) b) (u.farBundle q b).toList
  refine ⟨v, ?_, hkept.trans hkept'⟩
  rw [hu]
  exact hv

end Sys2Proof.Machine

namespace Sys2Proof.Machine

/-! PROOFS. Requests to memory (O18): what a request does beside its reading and writing leaves memory alone (R165, R189, R219, R346), and a
request to a sound block reads or stores its bytes (R160, R174). -/

/-! ### What a request does beside memory -/

/-- The registers that the counting and answering of requests changes. -/
def besideRegs : List Reg :=
  signalRegs ++ [.HBR_ERR_ADDR_LO, .HBR_ERR_ADDR_HI] ++ (List.finRange 8).map .STK_QLEVEL ++ (List.finRange 32).map .FLC_QLEVEL ++ passRegs

/-- Where no doorbell of the host waits, none is delivered. -/
theorem State.ringNext_of_none {s : State} (h : s.grp.winHeld = []) : s.ringNext = s := by
  rw [State.ringNext, h]
  rfl

/-- `t` is `s` but for queue levels and what is measured of tickets, flits, messages, completions and gated sites. -/
structure Beside (s t : State) : Prop where
  rest : t = { s with
    regs := t.regs
    icu := t.icu
    tkt := t.tkt
    cwy := t.cwy
    chain := t.chain
    free := t.free
    fns := t.fns
    grp := t.grp
    ldp := { s.ldp with released := t.ldp.released }
    outbox := t.outbox
    sites := t.sites
    resp := t.resp }
  regs : RegsKept besideRegs s t
  macros : ∀ k, (t.sites.at k).fenced = (s.sites.at k).fenced
  winHeld : t.grp.winHeld = s.grp.winHeld

namespace Beside
variable {s t u : State}

theorem refl (s : State) : Beside s s := ⟨rfl, RegsKept.refl _ s, fun _ => rfl, rfl⟩

theorem trans (h : Beside s t) (g : Beside t u) : Beside s u := by
  refine ⟨?_, h.regs.trans g.regs, fun k => (g.macros k).trans (h.macros k), g.winHeld.trans h.winHeld⟩
  rw [g.rest, h.rest]

theorem ite {p : Prop} [Decidable p] {a b : State} (h : Beside s a) (g : Beside s b) : Beside s (if p then a else b) := by
  split
  · exact h
  · exact g

theorem foldl {α : Type} {f : State → α → State} (hf : ∀ s a, Beside s (f s a)) (l : List α) (s : State) : Beside s (l.foldl f s) :=
  List.foldlRecOn (motive := fun t => Beside s t) l f (refl s) fun t ht a _ => ht.trans (hf t a)

theorem of_signals (h : Signals s t) : Beside s t := by
  refine ⟨?_, fun r hr => h.rget fun hm => hr (by simp [besideRegs, hm]), fun k => ?_, ?_⟩
  · rw [h.1]
  · rw [h.1]
  · rw [h.1]

theorem raise (s : State) (k : Nat) : Beside s (s.raise k) := of_signals (Signals.raise s k)

theorem rset (s : State) {r : Reg} (v : Word) (h : r ∈ besideRegs) : Beside s (s.rset r v) :=
  ⟨rfl, fun _ hq => State.rget_rset_other _ _ fun he => hq (he ▸ h), fun _ => rfl, rfl⟩

theorem fset (s : State) {r : Reg} (f : Fld) (v : Nat) (h : r ∈ besideRegs) : Beside s (s.fset r f v) := rset s _ h

theorem bset (s : State) {r : Reg} (f : Fld) (v : Bool) (h : r ∈ besideRegs) : Beside s (s.bset r f v) := rset s _ h

theorem emit (s : State) (o : Out) : Beside s (s.emit o) := ⟨rfl, RegsKept.refl _ s, fun _ => rfl, rfl⟩

theorem tick (s : State) : Beside s s.tick := ⟨rfl, RegsKept.refl _ s, fun _ => rfl, rfl⟩

theorem reply (s : State) (p : Resp) : Beside s (s.reply p) := ⟨rfl, RegsKept.refl _ s, fun _ => rfl, rfl⟩

theorem withTkt (s : State) (u : TktUnit) : Beside s { s with tkt := u } := ⟨rfl, RegsKept.refl _ s, fun _ => rfl, rfl⟩

theorem withGrp (s : State) {g : GroupUnit} (h : g.winHeld = s.grp.winHeld) : Beside s { s with grp := g } :=
  ⟨rfl, RegsKept.refl _ s, fun _ => rfl, h⟩

theorem withCwy (s : State) (u : Tab BundleUnit) : Beside s { s with cwy := u } := ⟨rfl, RegsKept.refl _ s, fun _ => rfl, rfl⟩

theorem chainSend (s : State) (port : Nat) (m : ChainMsg) : Beside s (s.chainSend port m) := ⟨rfl, RegsKept.refl _ s, fun _ => rfl, rfl⟩

theorem resourceSays (s : State) (r cls : Nat) (words lanes : List Nat) : Beside s (s.resourceSays r cls words lanes) := chainSend s _ _

theorem flitsCross (s : State) (p up down : Nat) : Beside s (s.flitsCross p up down) :=
  have hregs : Beside s ((s.wrap (.CWY_RX (bundleNo p)) F.CWY_RX_FLITS up).wrap (.CWY_TX (bundleNo p)) F.CWY_TX_FLITS down) :=
    trans (fset s _ _ (by simp [besideRegs, passRegs])) (fset _ _ _ (by simp [besideRegs, passRegs]))
  hregs.trans ((withCwy _ _).trans (withCwy _ _))

theorem bind {x : Except Hold State} {f : State → Except Hold State} (hx : ∀ t, x = .ok t → Beside s t)
    (hf : ∀ t u, f t = .ok u → Beside t u) : ∀ u, x.bind f = .ok u → Beside s u := by
  intro u h
  cases x with
  | error e => cases h
  | ok t => exact (hx t rfl).trans (hf t u h)

theorem eachUnit {a n : Nat} {f : State → Nat → Bool → Except Hold State} (hf : ∀ s b p u, f s b p = .ok u → Beside s u) :
    ∀ u, s.eachUnit a n f = .ok u → Beside s u := by
  unfold State.eachUnit
  refine List.foldlRecOn (motive := fun x : Except Hold State => ∀ u, x = .ok u → Beside s u) _ _ (fun u h => ?_) fun x hx b _ => ?_
  · cases h
    exact refl s
  · exact bind hx fun t u h => hf t b _ u h

theorem crossBy {q : Requester} {rd part : Bool} {near : Option Nat} {far : List Nat} :
    ∀ u, s.crossBy q rd part near far = .ok u → Beside s u := by
  intro u h
  unfold State.crossBy at h
  extract_lets ask back at h
  split at h
  · cases h
  · cases h
  · cases h
    refine trans ?_ (foldl (fun s p => flitsCross s p _ _) _ _)
    cases near
    · exact refl s
    · exact flitsCross s _ _ _

theorem crossAll {q : Requester} {rd : Bool} {a n : Nat} : ∀ u, s.crossAll q rd a n = .ok u → Beside s u :=
  eachUnit fun _ _ _ => crossBy

theorem wakeSite (s : State) (a : Nat) : Beside s (s.wakeSite a) := by
  unfold State.wakeSite
  split
  · refine ⟨rfl, RegsKept.refl _ s, fun k => ?_, rfl⟩
    simp only [State.siteUpd, Tab.at_upd]
    split
    · next h => rw [h]
    · rfl
  · exact refl s

theorem countRead (s : State) (r t held time : Nat) : Beside s (s.countRead r t held time) := by
  unfold State.countRead
  extract_lets interval hasTarget s1
  have h : Beside s s1 := (withTkt s _).trans (ite (fset _ (r := .TEL_HIST _) _ _ (by simp [besideRegs, passRegs])) (refl _))
  exact ite h (h.trans (withTkt _ _))

theorem throttle (s : State) (r : Nat) : Beside s (s.throttle r) := (withTkt s _).trans (resourceSays _ _ _ _ _)

theorem showLevel (s : State) {q : Reg} (f g : Fld) (v w : Nat) (h : q ∈ besideRegs) : Beside s ((s.fset q f v).fset q g w) :=
  (fset s f v h).trans (fset _ g w h)

theorem queueLevel (s : State) (r reached : Nat) : Beside s (s.queueLevel r reached) := by
  unfold State.queueLevel
  extract_lets k level b b' s1 q2 q3 s2
  have hshown : Beside s s2 :=
    (withTkt s _).trans (ite (showLevel _ _ _ _ _ (by simp [besideRegs, q2])) (ite (showLevel _ _ _ _ _ (by simp [besideRegs, q3])) (refl _)))
  exact ite hshown (hshown.trans ((resourceSays _ _ _ _ _).trans (throttle _ _)))

theorem atResource (s : State) (q : MemReq) (r : Nat) (write : Bool) (held : Nat) : Beside s (s.atResource q r write held) := by
  unfold State.atResource
  extract_lets s1 s2
  have h : Beside s s2 :=
    (queueLevel s _ _).trans (ite (fset _ (r := .STK_MISS_CNT _) _ _ (by simp [besideRegs, passRegs])) (refl _))
  exact ite h (h.trans (countRead _ _ _ _ _))

/-! ### Answers -/

theorem hbrErr (s : State) (f : Fld) (addr fn : Nat) : Beside s (s.hbrErr f addr fn) := by
  unfold State.hbrErr
  extract_lets s1 s2 s3
  have hmem : ∀ r ∈ [Reg.HBR_ERR, .HBR_ERR_ADDR_LO, .HBR_ERR_ADDR_HI], r ∈ besideRegs := by simp [besideRegs, signalRegs]
  have h1 : Beside s s1 := (bset s f true (hmem _ (by simp))).trans (fset _ _ _ (hmem .HBR_ERR (by simp)))
  have h2 : Beside s s2 := h1.trans (ite (bset _ _ _ (hmem .HBR_ERR (by simp))) (refl _))
  have h3 : Beside s s3 := h2.trans ((fset _ _ _ (hmem .HBR_ERR_ADDR_LO (by simp))).trans
    ((fset _ _ _ (hmem .HBR_ERR_ADDR_HI (by simp))).trans (fset _ _ _ (hmem .HBR_ERR_ADDR_HI (by simp)))))
  exact h3.trans ((tick s3).trans (raise _ _))

theorem tlpTx (s : State) (n : Nat) : Beside s (s.tlpTx n) := fset s (r := .HBR_TLP_TX) _ _ (by simp [besideRegs, signalRegs])

theorem hostComplete (s : State) (fn tag : Nat) (p : Resp) : Beside s (s.hostComplete fn tag p) :=
  (tlpTx s 1).trans ((reply _ _).trans (emit _ _))

theorem hostData (s : State) (fn tag addr : Nat) (data : List Byte) (pois : List Bool) : Beside s (s.hostData fn tag addr data pois) := by
  unfold State.hostData
  exact (tlpTx s _).trans (ite ((hbrErr _ _ _ _).trans (hostComplete _ _ _ _)) (hostComplete _ _ _ _))

theorem hostAbort (s : State) (fn tag addr : Nat) : Beside s (s.hostAbort fn tag addr) := (hbrErr s _ _ _).trans (hostComplete _ _ _ _)

theorem hostDrop (s : State) (fn addr : Nat) : Beside s (s.hostDrop fn addr) := (hbrErr s _ _ _).trans (reply _ _)

theorem respond (s : State) (f : Frame) (status : Nat) (data : List Byte) (pois : List Bool) : Beside s (s.respond f status data pois) :=
  withGrp s rfl

theorem flitsOut (s : State) (p k kind tag : Nat) (l : List (Nat × List Nat × Nat)) : Beside s (s.flitsOut p k kind tag l) :=
  (flitsCross s _ _ _).trans (foldl (fun s _ => emit s _) _ _)

theorem cplFlit (s : State) (p k : Nat) (h : CmdHdr) (st : Nat) : Beside s (s.cplFlit p k h st) := flitsOut s _ _ _ _ _

theorem readFlits (s : State) (p k : Nat) (h : CmdHdr) (a : Nat) (bytes : List Byte) (pois : List Bool) :
    Beside s (s.readFlits p k h a bytes pois) := flitsOut s _ _ _ _ _

theorem answerDie (s : State) (p : Nat) (q : MemReq) (write : Bool) : Beside s (s.answerDie p q write) := by
  unfold State.answerDie
  split
  · exact refl s
  · extract_lets s1 o
    have h : Beside s s1 := withCwy s _
    split
    · exact h.trans (cplFlit _ _ _ _ _)
    · exact h.trans (cplFlit _ _ _ _ _)
    · exact h.trans (readFlits _ _ _ _ _ _ _)
    · exact h.trans (cplFlit _ _ _ _ _)

theorem answer {s : State} (q : MemReq) (write : Bool) (hwin : s.grp.winHeld = []) : Beside s (s.answer q write) := by
  unfold State.answer
  split
  · split
    · exact refl s
    · extract_lets g s1
      have h : Beside s s1 := withGrp s rfl
      split <;> exact h.trans (respond _ _ _ _ _)
  · split
    · split
      · rw [State.ringNext_of_none ((hostDrop s _ _).winHeld.trans hwin)]
        exact hostDrop s _ _
      · rw [State.ringNext_of_none hwin]
        exact refl s
    · split
      · exact refl s
      · extract_lets g s1
        have h : Beside s s1 := withGrp s rfl
        split
        · exact h.trans (hostData _ _ _ _ _ _)
        · exact h.trans (hostAbort _ _ _ _)
  · exact answerDie s _ _ _
  · exact refl s

/-! ### What it keeps -/

theorem mem_eq (h : Beside s t) : t.mem = s.mem := by rw [h.rest]
theorem spans_eq (h : Beside s t) : t.spans = s.spans := by rw [h.rest]
theorem engs_eq (h : Beside s t) : t.engs = s.engs := by rw [h.rest]
theorem fuses_eq (h : Beside s t) : t.fuses = s.fuses := by rw [h.rest]
theorem log_eq (h : Beside s t) : t.log = s.log := by rw [h.rest]

theorem cellsKept (h : Beside s t) : CellsKept s t :=
  CellsKept.of_mem_eq h.mem_eq (by rw [h.rest]) (h.regs _ (by simp [besideRegs, passRegs, signalRegs]))
    (h.regs.fget (by simp [besideRegs, passRegs, signalRegs]) _)

theorem addressesKept (h : Beside s t) : AddressesKept s t where
  stk := fun n => h.regs _ (by simp [besideRegs, passRegs, signalRegs])
  map := fun d r => h.regs _ (by simp [besideRegs, passRegs, signalRegs])
  fenced := h.regs _ (by simp [besideRegs, passRegs, signalRegs])
  level := h.regs.fget (by simp [besideRegs, passRegs, signalRegs]) _
  doze := by rw [h.rest]
  deadRows := by rw [h.rest]
  macros := h.macros
  retired := by rw [h.mem_eq]

end Beside

/-! ### What the requester of a read sees -/

theorem State.resp_flitsOut (s : State) (p k kind tag : Nat) (l : List (Nat × List Nat × Nat)) : (s.flitsOut p k kind tag l).resp = s.resp := by
  unfold State.flitsOut
  exact List.foldlRecOn (motive := fun t : State => t.resp = s.resp) _ _ rfl fun t ht x _ => ht

/-- The answer to a read whose data are not poisoned is its data, whoever asked. -/
theorem State.answer_data {s : State} {q : MemReq} {bytes : List Byte} {pois : List Bool} (h : s.resp = .data bytes pois)
    (hp : ∀ p ∈ pois, p = false) : (s.answer q false).resp = .data bytes pois := by
  have hany : pois.any id = false := List.any_eq_false.mpr fun p hm => by simp [hp p hm]
  unfold State.answer
  split
  · split
    · exact h
    · simp only [h]
      rfl
  · simp only
    split
    · exact h
    · simp only [h, State.hostData, hany]
      rfl
  · unfold State.answerDie
    split
    · exact h
    · simp only [h, State.readFlits]
      exact (State.resp_flitsOut _ _ _ _ _ _).trans h
  · exact h

/-! ### One block -/

/-- An access that lies within one block touches that block alone. -/
theorem blocksOf_within {a n b : Nat} (h0 : 0 < n) (hb : b = a / 256 * 256) (hn : a + n ≤ b + 256) : blocksOf a n = [b] := by
  have hcount : (a + n - 1) / 256 - a / 256 = 0 := by omega
  unfold blocksOf
  rw [if_neg (by omega)]
  simp [hcount, hb]

theorem CellsKept.promoted_eq {s t : State} (h : CellsKept s t) (hmode : t.ilMode = s.ilMode) (hbase : t.frameBase = s.frameBase) (b : Nat) :
    t.promoted b = s.promoted b := by
  unfold State.promoted State.pageOf State.frameOf
  rw [h.frames, hmode, hbase]

/-- A read within a sound block that matches its manifest: its bytes, none of them poisoned. -/
theorem State.readAt_within {s : State} {hub : Bool} {point a n b : Nat} {c : CellRef} (h0 : 0 < n) (hb : b = a / 256 * 256)
    (hn : a + n ≤ b + 256) (hc : s.cellOf hub b = some c) (hprom : s.promoted b = none) (h : s.mem.Sound) (hp : s.mem.Unpatched c.ik)
    (hm : s.mem.Matches c.key) :
    ∃ t m, s.readAt hub point a n = ⟨t, s.mem.bytesAt (c.key + (a - b)) n, List.replicate n false, m, none, none, []⟩ ∧
      CellsKept s t ∧ MemoryActs s t ∧ t.log = s.log ∧ t.mem.newPatches = s.mem.newPatches := by
  have hplaced : ∃ t, (if hub then s else s.placeCount a n) = t ∧ CellsKept s t ∧ MemoryActs s t ∧ t.log = s.log ∧ t.mem = s.mem := by
    refine ⟨_, rfl, (CellsKept.refl s).ite (CellsKept.placeCount s a n), MemoryActs.ite (MemoryActs.refl s) (MemoryActs.placeCount s a n), ?_, ?_⟩
    all_goals
      unfold State.placeCount
      dsimp only
      repeat' split
      all_goals rfl
  obtain ⟨t, ht, hkept, hacts, hlog, hmem⟩ := hplaced
  have haddr := hacts.addressesKept hkept.retired hkept.level
  have hlo : max a b - b = a - b := by omega
  have hpart := State.readPart_sound (point := point) (lo := a - b) (hi := a + n - b) ((haddr.cellOf_eq hub b).trans hc)
    ((hkept.promoted_eq haddr.ilMode_eq (by rw [State.frameBase, State.frameBase, hacts.rest]) b).trans hprom) (hkept.sound h) (hkept.unpatched hp) (.inr ((hkept.matches_iff _).mpr hm)) (by omega)
  refine ⟨t.stackCount true (b + (a - b)) (a + n - b - (a - b)), [t.mem.manifest c.key], ?_, hkept.trans (CellsKept.stackCount _ _ _ _),
    hacts.trans (MemoryActs.stackCount _ _ _ _), (State.stackCount_log _ _ _ _).trans hlog, ?_⟩
  · rw [State.readAt_eq, blocksOf_within h0 hb hn, ht, List.foldl_cons, List.foldl_nil, readStep]
    simp only [hlo, show min (a + n) (b + 256) - b = a + n - b by omega, hpart, List.nil_append, Bool.false_and, Bool.false_eq_true, if_false,
      hmem, show a + n - b - (a - b) = n by omega]
  · rw [State.stackCount_newPatches, hmem]

/-- Where no patch entry is new, settling accounts logs nothing. -/
theorem State.settle_log {s : State} (h : s.mem.newPatches = []) : s.settle.log = s.log := by
  unfold State.settle
  rw [h]
  exact (Signals.raises _ _).log

/-- A write within a sound block stores its bytes. -/
theorem State.writeAt_within {s : State} {hub : Bool} {a b : Nat} {c : CellRef} {data : List Byte} {pois : List Bool} (mans : List Word)
    (h0 : 0 < data.length) (hb : b = a / 256 * 256) (hn : a + data.length ≤ b + 256) (hc : s.cellOf hub b = some c)
    (hprom : s.promoted b = none) (h : s.TakesWrites c) (hpois : ∀ i, nth pois i = false) (hm : s.mem.Matches c.key) :
    ∃ t, s.writeAt hub a data pois mans = ⟨t, none, none⟩ ∧ BlockStored a b c.key data s t ∧ MemoryActs s t := by
  obtain ⟨t, hpart, hstored, hacts, -⟩ := State.writePart_sound hc h (a := a) (data := data) (by omega) (by omega) hpois hm mans 0
  refine ⟨t, ?_, hstored, hacts⟩
  rw [State.writeAt_eq, blocksOf_within h0 hb hn]
  simp only [List.zipIdx_cons, List.zipIdx_nil, List.foldl_cons, List.foldl_nil, writeStep, hpart, hprom, if_true]

/-! ### A request to a sound block is performed -/

theorem Beside.ctxGuard_eq {s t : State} (h : Beside s t) (q : Requester) (a n : Nat) : t.ctxGuard q a n = s.ctxGuard q a n := by
  have hruns : ∀ e, t.spanRuns e = s.spanRuns e := fun e => by
    rw [State.spanRuns, State.spanRuns, State.ownEntry, State.ownEntry, h.spans_eq]
  unfold State.ctxGuard
  simp only [h.addressesKept.usable_eq, h.addressesKept.siteOf_eq, h.engs_eq, hruns]

/-- What a request to a block that is as `CleanAccess` says needs of the state when it is performed. -/
structure State.Serves (s : State) (q : MemReq) (b : Nat) (c : CellRef) : Prop where
  pos : 0 < q.len
  block : b = q.addr / 256 * 256
  within : q.addr + q.len ≤ b + 256
  runs : ∀ n, s.stackOf q.addr = some n → s.stackFenced n = false
  cell : s.cellOf (decide (q.rq = .hub)) b = some c
  unpromoted : s.promoted b = none
  writes : s.TakesWrites c
  agrees : s.mem.Matches c.key
  winHeld : s.grp.winHeld = []
  newPatches : s.mem.newPatches = []

theorem State.Serves.of_clean {q : MemReq} {s : State} {b : Nat} {c : CellRef} (h : CleanAccess q s b c) : s.Serves q b c := by
  obtain ⟨h0, hb, hn, -, -, -, hruns, hc, hprom, hpatch, hsyn, hflip, hcrc, hwin, hnew⟩ := h
  have hhub : s.cellOf true b = some c := by
    cases hq : decide (q.rq = .hub) with
    | false => exact State.cellOf_hub (hq ▸ hc)
    | true => exact hq ▸ hc
  exact ⟨h0, hb, hn, hruns, hc, hprom, ⟨hsyn, hpatch, hflip⟩, hcrc _ (State.readBlock_sound hhub hsyn hpatch), hwin, hnew⟩

theorem Beside.serves {s t : State} (h : Beside s t) {q : MemReq} {b : Nat} {c : CellRef} (g : s.Serves q b c) : t.Serves q b c := by
  have hil := h.addressesKept.ilMode_eq
  have hstack : t.stackOf q.addr = s.stackOf q.addr := by rw [State.stackOf, State.stackOf, hil]
  refine ⟨g.pos, g.block, g.within, fun n hn => ?_, (h.addressesKept.cellOf_eq _ b).trans g.cell,
    (h.cellsKept.promoted_eq hil (by rw [State.frameBase, State.frameBase, h.rest]) b).trans g.unpromoted, h.cellsKept.takesWrites g.writes,
    (h.cellsKept.matches_iff _).mpr g.agrees, h.winHeld.trans g.winHeld, by rw [h.mem_eq, g.newPatches]⟩
  rw [State.stackFenced, State.fget_of_rget (h.addressesKept.stk _)]
  exact g.runs n (hstack ▸ hn)

/-- What a request leaves of the rest of the device. -/
structure RequestKeeps (s t : State) : Prop where
  spans : t.spans = s.spans
  engs : t.engs = s.engs
  fuses : t.fuses = s.fuses
  log : t.log = s.log

theorem RequestKeeps.trans {s t u : State} (h : RequestKeeps s t) (g : RequestKeeps t u) : RequestKeeps s u :=
  ⟨g.spans.trans h.spans, g.engs.trans h.engs, g.fuses.trans h.fuses, g.log.trans h.log⟩

theorem Beside.keeps {s t : State} (h : Beside s t) : RequestKeeps s t := ⟨h.spans_eq, h.engs_eq, h.fuses_eq, h.log_eq⟩

theorem MemoryActs.requestKeeps {s t : State} (h : MemoryActs s t) (hlog : t.log = s.log) : RequestKeeps s t :=
  ⟨by rw [h.rest], by rw [h.rest], by rw [h.rest], hlog⟩

/-- A request whose bundles take it is counted, served and answered. -/
theorem State.perform_ok {s : State} (hb : BundlesFree s) {q : MemReq} (he : s.edgeHeld q.rq = false) (write : Bool) (held : Nat) :
    ∃ t, Beside s t ∧ s.perform q write held = .ok ((if write then t.serveWrite q else t.serveRead q).answer q write) := by
  obtain ⟨u, hu, -⟩ := State.crossAll_ok hb he (!write) q.addr q.len
  unfold State.perform
  rw [hu]
  have hcross := Beside.crossAll u hu
  cases hr : u.resourceOf q.addr with
  | none => exact ⟨u, hcross, by simp only [Except.map, hr]⟩
  | some r => exact ⟨_, hcross.trans (Beside.atResource u q r write held), by simp only [Except.map, hr]⟩

theorem State.serveRead_data {s : State} {q : MemReq} {b : Nat} {c : CellRef} (h : s.Serves q b c) :
    ∃ t, s.serveRead q = t.reply (.data (s.mem.bytesAt (c.key + (q.addr - b)) q.len) (List.replicate q.len false)) ∧ CellsKept s t ∧
      RequestKeeps s t ∧ t.grp.winHeld = [] := by
  have hwake := Beside.wakeSite s q.addr
  have g := hwake.serves h
  obtain ⟨t, m, hread, hkept, hacts, hlog, hnew⟩ := State.readAt_within (point := pointOf q.rq) g.pos g.block g.within g.cell g.unpromoted
    g.writes.sound g.writes.unpatched g.agrees
  have hsettle := MemoryActs.settle t
  refine ⟨t.settle, ?_, hwake.cellsKept.trans (hkept.trans (CellsKept.settle t)), hwake.keeps.trans ((hacts.requestKeeps hlog).trans
    (hsettle.requestKeeps (State.settle_log (hnew.trans g.newPatches)))), ?_⟩
  · have hfenced : ¬(match s.stackOf q.addr with | some n => s.stackFenced n | none => false) = true := by
      cases hn : s.stackOf q.addr with
      | none => exact Bool.false_ne_true
      | some n => exact Bool.not_eq_true _ ▸ h.runs n hn
    refine (if_neg hfenced).trans ?_
    simp only [hread, hwake.mem_eq]
    rfl
  · rw [show t.settle.grp.winHeld = t.grp.winHeld by rw [hsettle.rest], show t.grp.winHeld = (s.wakeSite q.addr).grp.winHeld by rw [hacts.rest]]
    exact g.winHeld

theorem State.serveWrite_stores {s : State} {q : MemReq} {b : Nat} {c : CellRef} (h : s.Serves q b c) (hguard : s.ctxGuard q.rq q.addr q.len = false)
    (hlen : q.data.length = q.len) (hpois : ∀ i, nth q.pois i = false) :
    ∃ t u, s.serveWrite q = u.reply .none ∧ BlockStored q.addr b c.key q.data s t ∧ CellsKept t u ∧ RequestKeeps s u ∧ u.grp.winHeld = [] := by
  have hwake := Beside.wakeSite s q.addr
  have g := hwake.serves h
  obtain ⟨t, hwrite, hstored, hacts⟩ := State.writeAt_within q.mans (by rw [hlen]; exact g.pos) g.block (by rw [hlen]; exact g.within) g.cell
    g.unpromoted g.writes hpois g.agrees
  have hsettle := MemoryActs.settle t
  refine ⟨t, t.settle, ?_, hstored.cellsKept_left hwake.cellsKept (by rw [hwake.mem_eq]) hwake.log_eq, CellsKept.settle t,
    hwake.keeps.trans ((hacts.requestKeeps hstored.log).trans (hsettle.requestKeeps (State.settle_log (hstored.newPatches.trans g.newPatches)))), ?_⟩
  · unfold State.serveWrite
    rw [hguard, if_neg Bool.false_ne_true]
    simp only [hwrite]
  · rw [show t.settle.grp.winHeld = t.grp.winHeld by rw [hsettle.rest], show t.grp.winHeld = (s.wakeSite q.addr).grp.winHeld by rw [hacts.rest]]
    exact g.winHeld

theorem State.request_performed {s t : State} {q : MemReq} {write : Bool} (hh : s.holds ((s.resourceOf q.addr).getD 73) q = false)
    (h : s.perform q write (heldBrought q) = .ok t) : s.request q write = t := by
  unfold State.request
  simp only [hh, h]
  rfl

/-- R160, R174, R203, R206, R207: an access to a sound block reads or stores its bytes. -/
theorem readsAndWritesComplete : ReadsAndWritesComplete := by
  refine ⟨fun q s b c h => ?read, fun q s b c h hguard hlen hlenp hpois => ?write, fun q s h => if_neg h⟩
  case read =>
    have g := State.Serves.of_clean h
    obtain ⟨-, -, -, hholds, hbundles, hedge, -⟩ := h
    obtain ⟨t, hbeside, hperform⟩ := State.perform_ok hbundles hedge false (heldBrought q)
    obtain ⟨u, hserve, hcells, hkeeps, hwin⟩ := State.serveRead_data (hbeside.serves g)
    have hans := Beside.answer (s := t.serveRead q) q false (by rw [hserve]; exact hwin)
    have hcells2 := hbeside.cellsKept.trans hcells
    refine ⟨_, congrArg Host.Outcome.next (State.request_performed hholds hperform), ?_, ?_⟩
    · refine State.answer_data (by rw [if_neg Bool.false_ne_true, hserve, hbeside.mem_eq]; rfl) fun p hp => List.eq_of_mem_replicate hp
    · rw [if_neg Bool.false_ne_true]
      have hmem : ((t.serveRead q).answer q false).mem = u.mem := by rw [hans.mem_eq, hserve]; rfl
      have hrest : RequestKeeps s ((t.serveRead q).answer q false) := by
        refine hbeside.keeps.trans (RequestKeeps.trans ?_ hans.keeps)
        rw [hserve]
        exact ⟨hkeeps.spans, hkeeps.engs, hkeeps.fuses, hkeeps.log⟩
      exact ⟨by rw [hmem]; exact hcells2.data, by rw [hmem]; exact hcells2.syn, by rw [hmem]; exact hcells2.man, hrest.spans, hrest.engs,
        hrest.fuses, hrest.log⟩
  case write =>
    have g := State.Serves.of_clean h
    obtain ⟨-, -, -, hholds, hbundles, hedge, -⟩ := h
    obtain ⟨t, hbeside, hperform⟩ := State.perform_ok hbundles hedge true (heldBrought q)
    have hfalse : ∀ i, nth q.pois i = false := fun i => by
      by_cases hi : i < q.pois.length
      · rw [nth_eq_getElem hi]
        exact hpois _ (List.getElem_mem hi)
      · exact nth_of_length_le (not_lt.mp hi)
    obtain ⟨v, u, hserve, hstored, hcells, hkeeps, hwin⟩ := State.serveWrite_stores (hbeside.serves g)
      ((hbeside.ctxGuard_eq _ _ _).trans hguard) hlen hfalse
    have hans := Beside.answer (s := t.serveWrite q) q true (by rw [hserve]; exact hwin)
    have hmem : ((t.serveWrite q).answer q true).mem = u.mem := by rw [hans.mem_eq, hserve]; rfl
    have hdata : ∀ k, Tab.at u.mem.data k = if (c.key ≤ k ∧ k < c.key + 256) ∧ q.addr ≤ b + (k - c.key) ∧ b + (k - c.key) < q.addr + q.len
        then nth q.data (b + (k - c.key) - q.addr) else Tab.at s.mem.data k := fun k => by
      rw [hcells.data, hstored.data, hlen, hbeside.mem_eq]
    have hrest : RequestKeeps s ((t.serveWrite q).answer q true) := by
      refine hbeside.keeps.trans (RequestKeeps.trans ?_ hans.keeps)
      rw [hserve]
      exact ⟨hkeeps.spans, hkeeps.engs, hkeeps.fuses, hkeeps.log⟩
    have hb := g.block
    have hn := g.within
    refine ⟨_, (if_pos ⟨hlen, hlenp⟩).trans (congrArg Host.Outcome.next (State.request_performed hholds hperform)), ?_⟩
    rw [if_pos rfl]
    refine ⟨fun j hj => ?_, fun k hk => ?_, fun k => ?_, hrest.spans, hrest.engs, hrest.fuses, hrest.log⟩
    · rw [hmem, hdata, if_pos (by omega)]
      congr 1
      omega
    · rw [hmem, hdata, if_neg (by omega)]
    · rw [hmem]
      exact hcells.sound hstored.sound k

end Sys2Proof.Machine

namespace Sys2Proof.Machine

/-! PROOFS. Requests that their sources hold, and their release by THROTTLE and by the leak timer (O18; R226, R227). -/

/-! ### Whether a request crosses does not depend on the tickets -/

/-- `s` with other accounts of tickets, and other values of what is free. -/
def State.withTickets (s : State) (u : TktUnit) (n : Nat) : State := { s with tkt := u, free := n }

theorem State.flitsCross_withTickets (s : State) (u : TktUnit) (n p up down : Nat) :
    (s.withTickets u n).flitsCross p up down = (s.flitsCross p up down).withTickets u n := rfl

theorem State.cross_withTickets (s : State) (u : TktUnit) (n : Nat) (q : Requester) (rd part : Bool) (a : Nat) :
    (s.withTickets u n).cross q rd part a = (s.cross q rd part a).map (·.withTickets u n) := by
  have hfold : ∀ (far : List Nat) (x y : Nat) (t : State), far.foldl (fun (s : State) p => s.flitsCross p x y) (t.withTickets u n) =
      (far.foldl (fun (s : State) p => s.flitsCross p x y) t).withTickets u n := fun far x y => by
    induction far with
    | nil => exact fun _ => rfl
    | cons p far ih => exact fun t => ih (t.flitsCross p x y)
  have hnear : (s.withTickets u n).nearBundle q (addressDie a) a = s.nearBundle q (addressDie a) a := rfl
  have hfar : (s.withTickets u n).farBundle q a = s.farBundle q a := rfl
  have hedge : (s.withTickets u n).edgeHeld q = s.edgeHeld q := by cases q <;> rfl
  have hwaits : ∀ p dir, (s.withTickets u n).bundleWaits p dir = s.bundleWaits p dir := fun _ _ => rfl
  rw [State.cross, State.cross, hnear, hfar, State.crossBy, State.crossBy]
  simp only [hedge, hwaits]
  split
  · rfl
  · rfl
  · cases s.nearBundle q (addressDie a) a with
    | none => exact congrArg Except.ok (hfold _ _ _ _)
    | some p => exact congrArg Except.ok (hfold _ _ _ (s.flitsCross p _ _))

theorem State.crossAll_withTickets (s : State) (u : TktUnit) (n : Nat) (q : Requester) (rd : Bool) (a len : Nat) :
    (s.withTickets u n).crossAll q rd a len = (s.crossAll q rd a len).map (·.withTickets u n) := by
  unfold State.crossAll State.eachUnit
  have h : ∀ (l : List Nat) (x : Except Hold State),
      l.foldl (fun (x : Except Hold State) b => x.bind fun s => s.cross q rd (decide (b < a ∨ a + len < b + 128)) b)
          (x.map (·.withTickets u n)) =
        (l.foldl (fun (x : Except Hold State) b => x.bind fun s => s.cross q rd (decide (b < a ∨ a + len < b + 128)) b) x).map
          (·.withTickets u n) := fun l => by
    induction l with
    | nil => exact fun _ => rfl
    | cons b l ih =>
      intro x
      rw [List.foldl_cons, List.foldl_cons, ← ih]
      congr 1
      cases x with
      | error e => rfl
      | ok t => exact State.cross_withTickets t u n q rd _ b
  exact h _ (.ok s)

/-- A request that is performed crosses its bundles, whatever the accounts of tickets are. -/
theorem State.crosses_of_perform {s t : State} {u : TktUnit} {n : Nat} {q : MemReq} {write : Bool} {held : Nat}
    (h : (s.withTickets u n).perform q write held = .ok t) : (s.crossAll q.rq (!write) q.addr q.len).isOk = true := by
  rw [State.perform, State.crossAll_withTickets] at h
  cases hx : s.crossAll q.rq (!write) q.addr q.len with
  | error e =>
    rw [hx] at h
    cases h
  | ok v => rfl

/-! ### Requests wait -/

theorem State.request_held {s : State} {q : MemReq} {r : Nat} {write : Bool} (hr : s.resourceOf q.addr = some r)
    (h : s.holds r q = true ∨ ∃ e, s.crossAll q.rq (!write) q.addr q.len = .error e) : s.request q write = s.holdReq r q write := by
  unfold State.request
  simp only [hr, Option.getD_some]
  rcases h with hh | ⟨e, he⟩
  · rw [if_pos hh]
  · split
    · rfl
    · rw [State.perform, he]
      rfl

/-! ### The one request that waits goes -/

theorem sourceOf_sourceOf (q : Requester) : sourceOf (sourceOf q) = sourceOf q := by cases q <;> rfl

theorem sourceOf_eq_hub {q : Requester} : sourceOf q = .hub ↔ q = .hub := by cases q <;> simp [sourceOf]

theorem State.sourceHold_congr {s : State} {p q : Requester} (h : sourceOf p = sourceOf q) (r : Nat) : s.sourceHold p r = s.sourceHold q r := by
  rw [State.sourceHold, h, State.sourceHold]

theorem State.heldBit_congr {s : State} {p q : Requester} (h : sourceOf p = sourceOf q) (r t : Nat) : s.heldBit p r t = s.heldBit q r t := by
  rw [State.heldBit, State.sourceHold_congr h, State.heldBit]

theorem State.pump_none {s : State} (h : s.tkt.heldReqs = []) : s.pump = s := by
  rw [State.pump, h]
  rfl

/-- The only request that waits is the next, when it may go. -/
theorem State.pickHeld_only {s : State} {x : Nat × MemReq × Bool} (h : s.tkt.heldReqs = [x]) (hready : s.ready x = true) :
    s.pickHeld = some x := by
  have hturn : ∀ p last, nextPort [p] last = some p := fun p last => by
    unfold nextPort
    by_cases hp : last < p <;> simp [hp]
  unfold State.pickHeld
  simp only [h, List.filter_cons, hready, if_true, List.filter_nil, decide_true, List.foldl_cons, List.foldl_nil, Nat.zero_max, List.map_cons,
    List.map_nil, hturn, List.head?_cons, Option.bind_some, List.find?_cons]
  exact ite_self _

/-- What the release of request `x` leaves of the state before it is performed. -/
def State.letOut (s : State) (x : Nat × MemReq × Bool) : State :=
  let s1 : State := { s with tkt := { s.tkt with heldReqs := [] } }
  let q := x.2.1
  let s2 := if s.heldBit q.rq x.1 q.ticket.val then s1.putCredits q.rq x.1 q.ticket.val (s.credits q.rq x.1 q.ticket.val - 1) else s1
  s2.tick.resUpd x.1 fun u => { u with last := s.turnOf x.1 q.rq }

/-- A request goes whose ticket is not held any more, or is leaked. -/
theorem State.pump_only {s t : State} {x : Nat × MemReq × Bool} (h : s.tkt.heldReqs = [x])
    (hheld : s.heldBit x.2.1.rq x.1 x.2.1.ticket.val = false ∨ 0 < s.credits x.2.1.rq x.1 x.2.1.ticket.val)
    (hrest : s.stackRests x.2.1.addr = false)
    (hp : (s.letOut x).perform x.2.1 x.2.2 (s.heldField (heldBrought x.2.1)) = .ok t) : s.pump = t := by
  have htickets : s.letOut x = s.withTickets (s.letOut x).tkt (s.free + 1) := by
    unfold State.letOut
    dsimp only
    split <;> rfl
  have hcross : (s.crossAll x.2.1.rq (!x.2.2) x.2.1.addr x.2.1.len).isOk = true := State.crosses_of_perform (htickets ▸ hp)
  have hready : s.ready x = true := by
    simp only [State.ready, hrest, h, hcross, List.takeWhile_cons]
    rcases hheld with hheld | hheld <;> simp [hheld]
  rw [State.pump, h, List.length_singleton, State.pumpReqs, State.pickHeld_only h hready]
  simp only [h, List.erase_cons_head]
  rw [State.letOut] at hp
  rw [hp]
  rfl

/-- A source other than the hub lets its requests go. -/
theorem State.sourceGoes_of_ne_hub {s : State} {q : Requester} (h : q ≠ .hub) : s.sourceGoes (sourceOf q) = s.pump :=
  if_neg fun he => h (sourceOf_eq_hub.mp he)

/-- A source whose requests and output records do not wait lets nothing go. -/
theorem State.sourceGoes_none {s : State} {q : Requester} (hreqs : s.tkt.heldReqs = [])
    (hrec : q = .hub → ∀ k, k < 64 → (s.slot k).heldRec = none) : s.sourceGoes (sourceOf q) = s := by
  by_cases hq : q = .hub
  · have hfold : ∀ l : List Nat, (∀ k ∈ l, (s.slot k).heldRec = none) → l.foldl State.retryRecord s = s := fun l => by
      induction l with
      | nil => exact fun _ => rfl
      | cons k l ih =>
        intro hl
        have hk : s.retryRecord k = s := by rw [State.retryRecord, hl k List.mem_cons_self]
        rw [List.foldl_cons, hk]
        exact ih fun j hj => hl j (List.mem_cons_of_mem _ hj)
    rw [State.sourceGoes, if_pos (sourceOf_eq_hub.mpr hq), State.pump_none hreqs]
    exact hfold _ fun k hk => hrec hq k (List.mem_range.mp hk)
  · rw [State.sourceGoes_of_ne_hub hq, State.pump_none hreqs]

/-! ### THROTTLE -/

/-- The tickets that a source holds for a resource once THROTTLE has told it so. -/
def State.throttled (s : State) (q : Requester) (r hold : Nat) : State :=
  { s with tkt := { s.tkt with
    hold := if hold = 0 then s.tkt.hold.filter (fun x => x.1 ≠ (sourceOf q, r))
      else ((sourceOf q, r), hold) :: s.tkt.hold.filter (fun x => x.1 ≠ (sourceOf q, r))
    leaked := s.tkt.leaked.filter (fun x => decide (x.1.1 ≠ sourceOf q ∨ x.1.2.1 ≠ r) || bitAt hold x.1.2.2) } }

theorem State.throttled_sourceHold_same (s : State) (q : Requester) (r hold : Nat) : (s.throttled q r hold).sourceHold q r = hold := by
  have hrest : (s.tkt.hold.filter (fun x => x.1 ≠ (sourceOf q, r))).find? (fun x => x.1 = (sourceOf q, r)) = none :=
    List.find?_eq_none.mpr fun x hx => by simpa using (List.mem_filter.mp hx).2
  rw [State.sourceHold, State.throttled]
  by_cases h : hold = 0
  · simp only [h, if_true, hrest]
    rfl
  · simp only [h, if_false, List.find?_cons, decide_true]
    rfl

theorem State.throttled_sourceHold_other (s : State) {p q : Requester} {k r : Nat} (hold : Nat) (h : (sourceOf p, k) ≠ (sourceOf q, r)) :
    (s.throttled q r hold).sourceHold p k = s.sourceHold p k := by
  have hrest : (s.tkt.hold.filter (fun x => x.1 ≠ (sourceOf q, r))).find? (fun x => x.1 = (sourceOf p, k)) =
      s.tkt.hold.find? (fun x => x.1 = (sourceOf p, k)) := by
    rw [List.find?_filter]
    congr 1
    funext x
    by_cases hx : x.1 = (sourceOf p, k)
    · simp [hx, h]
    · simp [hx]
  rw [State.sourceHold, State.sourceHold, State.throttled]
  by_cases h0 : hold = 0
  · simp only [h0, if_true, hrest]
  · simp only [h0, if_false, List.find?_cons, h.symm, decide_false, hrest]

theorem State.flashLetGo_none {s : State} {c : Nat} (h : ∀ x ∈ s.flash.queue.at c, x.waits = false) (src : Requester) (p : Nat → Bool) (n : Nat) :
    s.flashLetGo c src p n = s := by
  refine if_neg ?_
  rw [Bool.not_eq_true, List.any_eq_false]
  intro x hx
  have hwaits := h x hx
  cases x with
  | read q => simp [show q.waits = false from hwaits]
  | retry | program | erase | raw => exact Bool.false_ne_true

/-! ### The leak timer -/

theorem State.credits_of_none {s : State} (h : s.tkt.leaked = []) (q : Requester) (r t : Nat) : s.credits q r t = 0 := by
  rw [State.credits, h]
  rfl

/-- A leaked request is the only credit, and is spent by it. -/
theorem State.credits_putCredits {s : State} {p q : Requester} (h : s.tkt.leaked = []) (hpq : sourceOf p = sourceOf q) (r t : Nat) :
    (s.putCredits p r t 1).credits q r t = 1 := by
  rw [State.credits, State.putCredits]
  simp [h, hpq]

theorem State.putCredits_spent {s : State} {p q : Requester} (h : s.tkt.leaked = []) (hpq : sourceOf p = sourceOf q) (r t : Nat) :
    (s.putCredits p r t 1).putCredits q r t 0 = s := by
  have hempty : ((s.putCredits p r t 1).putCredits q r t 0).tkt.leaked = s.tkt.leaked := by
    simp [State.putCredits, h, hpq]
  calc (s.putCredits p r t 1).putCredits q r t 0
      = { s with tkt := { s.tkt with leaked := ((s.putCredits p r t 1).putCredits q r t 0).tkt.leaked } } := rfl
    _ = s := by rw [hempty]

theorem State.queueLevel_rest (s : State) (r reached : Nat) : s.queueLevel r reached =
    { s with
      regs := (s.queueLevel r reached).regs
      tkt := (s.queueLevel r reached).tkt
      chain := (s.queueLevel r reached).chain } := by
  unfold State.queueLevel
  extract_lets k level b b' s1 q2 q3 s2
  have hs2 : s2 = { s with regs := s2.regs, tkt := s2.tkt } := by
    unfold s2
    split
    · rfl
    · split <;> rfl
  generalize s2 = u at hs2 ⊢
  split
  · rw [hs2]
  · rw [hs2]
    rfl

theorem State.queueLevel_regs {s : State} {r : Nat} (reached : Nat) (hr : 41 ≤ r) :
    RegsKept ((List.finRange 32).map .FLC_QLEVEL) s (s.queueLevel r reached) := by
  unfold State.queueLevel
  extract_lets k level b b' s1 q2 q3 s2
  have hs2 : RegsKept ((List.finRange 32).map .FLC_QLEVEL) s s2 := by
    unfold s2
    rw [if_neg (by omega), if_pos hr]
    have hq : q3 ∈ (List.finRange 32).map Reg.FLC_QLEVEL := by simp [q3]
    exact RegsKept.trans (t := s1.fset q3 F.FLC_QLEVEL_LEVEL level) (RegsKept.fset _ _ hq) (RegsKept.fset _ _ hq)
  split
  · exact hs2
  · exact hs2

theorem State.queueLevel_heldReqs (s : State) (r reached : Nat) : (s.queueLevel r reached).tkt.heldReqs = s.tkt.heldReqs := by
  unfold State.queueLevel
  extract_lets k level b b' s1 q2 q3 s2
  have hs2 : s2.tkt.heldReqs = s.tkt.heldReqs := by
    unfold s2
    split
    · rfl
    · split <;> rfl
  split
  · exact hs2
  · exact hs2

/-- The queue of channel `c` once the leak timer has let a read go. -/
def State.letGoAt (s : State) (c : Nat) (q : Requester) (p : Nat → Bool) : State :=
  s.tick.flashUpd fun f => { f with queue := f.queue.upd c (letGo q p (s.heldField 0) 1) }

/-- The leak timer releases the first read of the ticket that waits for a flash channel. -/
theorem State.flashLetGo_first {s : State} {c : Nat} {q : Requester} {x : FReq} {l : List FCmd} {p : Nat → Bool}
    (hq : s.flash.queue.at c = .read x :: l) (hsrc : x.source = some q) (hp : p x.ticket = true) (hwaits : x.waits = true) :
    ∃ u, s.flashLetGo c q p 1 = u ∧ u.flash.queue.at c = .read { x with waits := false, held := s.heldField 0 } :: l ∧
      (∀ k, k ≠ c → u.flash.queue.at k = s.flash.queue.at k) ∧ RegsKept ((List.finRange 32).map .FLC_QLEVEL) s u ∧
      u = { s with
        regs := u.regs
        flash := { s.flash with queue := u.flash.queue }
        tkt := u.tkt
        chain := u.chain
        free := u.free } ∧ u.tkt.heldReqs = s.tkt.heldReqs := by
  have hgo : (x.waits && decide (x.source = some q) && p x.ticket) = true := by simp [hsrc, hp, hwaits]
  have hany : (s.flash.queue.at c).any (fun x => match x with
      | .read q' => q'.waits && decide (q'.source = some q) && p q'.ticket
      | _ => false) = true := by
    rw [hq, List.any_cons]
    exact Bool.or_eq_true_iff.mpr (.inl hgo)
  have hmain : s.flashLetGo c q p 1 = (s.letGoAt c q p).flashLevel c := if_pos hany
  have hqueue : ∀ k, (s.letGoAt c q p).flash.queue.at k =
      if k = c then letGo q p (s.heldField 0) 1 (s.flash.queue.at c) else s.flash.queue.at k := fun k => Tab.at_upd _ _ _ _
  have hrest : s.letGoAt c q p = { s with
      flash := { s.flash with queue := (s.letGoAt c q p).flash.queue }
      free := (s.letGoAt c q p).free } := rfl
  have hreqs : (s.letGoAt c q p).tkt.heldReqs = s.tkt.heldReqs := rfl
  generalize s.letGoAt c q p = v at hmain hqueue hrest hreqs
  have hlevel := State.queueLevel_rest v (41 + c) ((v.flash.queue.at c).filter fun x => !x.waits).length
  have hregs := State.queueLevel_regs (s := v) ((v.flash.queue.at c).filter fun x => !x.waits).length (Nat.le_add_right 41 c)
  have hreqs' := (State.queueLevel_heldReqs v (41 + c) ((v.flash.queue.at c).filter fun x => !x.waits).length).trans hreqs
  rw [hmain, State.flashLevel]
  generalize v.queueLevel (41 + c) ((v.flash.queue.at c).filter fun x => !x.waits).length = u at hlevel hregs hreqs'
  have hsame : u.flash = v.flash := by rw [hlevel]
  refine ⟨u, rfl, ?_, fun k hk => ?_, fun r hr => ?_, ?_, hreqs'⟩
  · rw [hsame, hqueue, if_pos rfl, hq, letGo, if_pos hgo]
    cases l <;> rfl
  · rw [hsame, hqueue, if_neg hk]
  · rw [hregs r hr, hrest]
    rfl
  · rw [hlevel, hrest]

/-! ### The obligation -/

/-- R225 to R227: held requests wait; THROTTLE and the leak timer let them go. -/
theorem heldRequestsWaitAndLeave : HeldRequestsWaitAndLeave := by
  refine ⟨fun q s r hr h => ?read, fun q s r hr hlen hlenp h => ?write, fun q r band hold s hreqs hrec hflash => ?told,
    fun q r band s t x w hx hr hsrc hq hleak hrest hp => ?freed, fun q r t s h => ?calm, fun q r t s hr hreqs hwaits hrec => ?idle,
    fun q r tk s t x w hx hr hsrc htk hq hleak hheld hrest hp => ?leaked, fun q r t s x l hr hqueue hsrc htk hwaits hheld hreqs hq => ?flash⟩
  case read => exact congrArg Host.Outcome.next (State.request_held hr h)
  case write => exact (if_pos ⟨hlen, hlenp⟩).trans (congrArg Host.Outcome.next (State.request_held hr h))
  case told =>
    have hexec : exec (.throttleReceive q r band hold) s = .next (s.throttled q r (hold.val / 2 * 2)) := by
      refine congrArg Host.Outcome.next ?_
      have hflashed : (if r.val < 41 then s.throttled q r (hold.val / 2 * 2) else (s.throttled q r (hold.val / 2 * 2)).flashLetGo (r.val - 41)
          (sourceOf q) (fun t => !bitAt (hold.val / 2 * 2) t) (s.flash.queue.at (r.val - 41)).length) = s.throttled q r (hold.val / 2 * 2) := by
        split
        · rfl
        · next hr => exact State.flashLetGo_none (s := s.throttled q r (hold.val / 2 * 2)) (hflash (by omega)) _ _ _
      exact (congrArg (fun u : State => u.sourceGoes (sourceOf q)) hflashed).trans (State.sourceGoes_none hreqs hrec)
    exact ⟨_, hexec, State.throttled_sourceHold_same s q _ _, fun p k hne => State.throttled_sourceHold_other s _ hne, rfl⟩
  case freed =>
    have hexec : exec (.throttleReceive q r band 0) s = .next ((s.throttled q r 0).sourceGoes (sourceOf q)) := by
      refine congrArg (fun u : State => Host.Outcome.next (u.sourceGoes (sourceOf q))) ?_
      exact if_pos hr
    have hheld : (s.throttled q r 0).heldBit x.rq r x.ticket.val = false := by
      rw [State.heldBit_congr hsrc, State.heldBit, State.throttled_sourceHold_same]
      simp [bitAt]
    rw [hexec, State.sourceGoes_of_ne_hub hq]
    refine congrArg Host.Outcome.next (State.pump_only (x := (r.val, x, w)) hx (.inl hheld) hrest ?_)
    have hout : (s.throttled q r 0).letOut (r.val, x, w) =
        (({ s with tkt := { s.tkt with
          heldReqs := []
          hold := s.tkt.hold.filter (fun y => y.1 ≠ (sourceOf q, r.val)) } } : State).tick.resUpd r.val (fun u =>
            { u with last := s.turnOf r.val x.rq })) := by
      have hnone : (s.throttled q r 0).tkt.leaked = s.tkt.leaked := by simp [State.throttled, hleak]
      unfold State.letOut
      simp only [hheld, Bool.false_eq_true, if_false]
      rw [show (s.throttled q r 0).tkt = { s.tkt with
        hold := s.tkt.hold.filter (fun y => y.1 ≠ (sourceOf q, r.val)), leaked := (s.throttled q r 0).tkt.leaked } from rfl, hnone]
      rfl
    rw [hout]
    exact hp
  case calm => exact if_pos (by rw [h]; rfl)
  case idle =>
    have hnone : (s.tkt.waits.contains (sourceOf q, r.val, t.val) ||
        s.tkt.heldReqs.any (fun x => decide (x.1 = r.val ∧ sourceOf x.2.1.rq = sourceOf q ∧ x.2.1.ticket = t))) = false := by
      rw [hreqs, hwaits]
      rfl
    by_cases hheld : s.heldBit (sourceOf q) r.val t.val = false
    · exact if_pos (by rw [hheld]; rfl)
    · refine (if_neg (by simpa using hheld)).trans (congrArg Host.Outcome.next ?_)
      simp only [if_pos hr, hnone, Bool.false_eq_true, if_false]
      exact State.sourceGoes_none hreqs hrec
  case leaked =>
    have hexec : exec (.leakRelease q r tk) s = .next ((s.putCredits (sourceOf q) r.val tk.val 1).sourceGoes (sourceOf q)) := by
      have hwaits : (s.tkt.waits.contains (sourceOf q, r.val, tk.val) ||
          s.tkt.heldReqs.any (fun y => decide (y.1 = r.val ∧ sourceOf y.2.1.rq = sourceOf q ∧ y.2.1.ticket = tk))) = true := by
        rw [hx, List.any_cons]
        simp [hsrc, htk]
      refine (if_neg (by rw [hheld]; exact Bool.false_ne_true)).trans (congrArg (fun u : State => Host.Outcome.next (u.sourceGoes (sourceOf q))) ?_)
      simp only [if_pos hr, hwaits, if_true, State.credits_of_none hleak]
    have hsrc' : sourceOf (sourceOf q) = sourceOf x.rq := (sourceOf_sourceOf q).trans hsrc.symm
    have hcredit : (s.putCredits (sourceOf q) r.val tk.val 1).credits x.rq r.val x.ticket.val = 1 := by
      rw [htk]
      exact State.credits_putCredits hleak hsrc' _ _
    have hbit : (s.putCredits (sourceOf q) r.val tk.val 1).heldBit x.rq r.val x.ticket.val = true := by
      rw [htk, State.heldBit_congr (hsrc.trans (sourceOf_sourceOf q).symm)]
      exact hheld
    rw [hexec, State.sourceGoes_of_ne_hub hq]
    refine congrArg Host.Outcome.next (State.pump_only (x := (r.val, x, w)) hx (.inr (by rw [hcredit]; exact Nat.one_pos)) hrest ?_)
    have hout : (s.putCredits (sourceOf q) r.val tk.val 1).letOut (r.val, x, w) =
        (({ s with tkt := { s.tkt with heldReqs := [] } } : State).tick.resUpd r.val (fun u =>
          { u with last := s.turnOf r.val x.rq })) := by
      have hspent : ({ s with tkt := { s.tkt with heldReqs := [] } } : State) =
          (({ s with tkt := { s.tkt with heldReqs := [] } } : State).putCredits (sourceOf q) r.val tk.val 1).putCredits x.rq r.val tk.val 0 :=
        (State.putCredits_spent (s := { s with tkt := { s.tkt with heldReqs := [] } }) hleak hsrc' _ _).symm
      unfold State.letOut
      simp only [hbit, if_true, hcredit]
      rw [htk, hspent]
      rfl
    rw [hout]
    exact hp
  case flash =>
    obtain ⟨u, hu, hhead, hrest, hregs, hu', hreqs'⟩ := State.flashLetGo_first (s := s) (c := r.val - 41) (p := fun k => decide (k = t.val)) hqueue hsrc
      (by simp [htk]) hwaits
    have hexec : ∃ v, exec (.leakRelease q r t) s = .next v ∧ v = { u with tkt := v.tkt } := by
      refine ⟨_, if_neg (by rw [hheld]; exact Bool.false_ne_true), ?_⟩
      simp only [if_neg (Nat.not_lt.mpr hr), hu]
      rw [State.sourceGoes_of_ne_hub hq]
      split
      · rw [State.pump_none (s := u.putCredits _ _ _ _) (hreqs'.trans hreqs)]
        rfl
      · rw [State.pump_none (hreqs'.trans hreqs)]
    obtain ⟨v, hexec, hv⟩ := hexec
    refine ⟨v, hexec, by rw [hv]; exact hhead, fun c hc => by rw [hv]; exact hrest c hc, fun k hk => ?_, ?_⟩
    · rw [hv]
      exact hregs k hk
    · rw [hv, hu']

/-- Settles O18, by what requests do beside memory and what the accesses of a sound block do to it, and by the one request that waits at its
source. -/
theorem memoryRequestsComplete : Obligations.MemoryRequestsComplete := ⟨readsAndWritesComplete, heldRequestsWaitAndLeave⟩

end Sys2Proof.Machine

namespace Sys2Proof.Machine

/-! PROOFS. The fabric of a compute die (O8): edge routers (R117), multicast (R120, R121), the package barrier (R305) and the seam (R128). -/

/-! ### Writes to memory leave the service level (R160, R387) -/

/-- The service level is the same. -/
def LevelKept (s t : State) : Prop := t.fget .BUP_STAT F.BUP_STAT_LEVEL = s.fget .BUP_STAT F.BUP_STAT_LEVEL

namespace LevelKept
variable {s t u : State}

theorem refl (s : State) : LevelKept s s := rfl

theorem trans (h : LevelKept s t) (g : LevelKept t u) : LevelKept s u := Eq.trans g h

theorem ite {p : Prop} [Decidable p] {a b : State} (h : LevelKept s a) (g : LevelKept s b) : LevelKept s (if p then a else b) := by
  split
  · exact h
  · exact g

theorem rset (s : State) {r : Reg} (v : Word) (h : r ≠ .BUP_STAT) : LevelKept s (s.rset r v) :=
  State.fget_of_rget (State.rget_rset_other s v h.symm) _

theorem fset (s : State) {r : Reg} (f : Fld) (v : Nat) (h : r ≠ .BUP_STAT) : LevelKept s (s.fset r f v) := rset s _ h

theorem withMem (s : State) (m : MemUnit) : LevelKept s (s.withMem m) := rfl

theorem of_cells (h : CellsKept s t) : LevelKept s t := h.level

theorem foldOver {α β : Type} (g : β → State) (f : β → α → β) (h : ∀ x a, LevelKept (g x) (g (f x a))) (l : List α) (x : β) :
    LevelKept (g x) (g (l.foldl f x)) := by
  induction l generalizing x with
  | nil => exact refl _
  | cons a l ih => exact (h x a).trans (ih _)

theorem writeCell (s : State) (c : CellRef) (mask w : Nat) (pois : Bool) : LevelKept s (s.writeCell c mask w pois).1 := by
  unfold State.writeCell
  extract_lets r m arm
  split
  · exact (withMem s _).trans (fset _ (r := .MEM_FLIP_CTL) _ _ (by decide))
  · exact withMem s _

theorem writeBlock (s : State) (c : CellRef) (b lo hi : Nat) (bytes : List Byte) (pois : List Bool) (man : Word) :
    LevelKept s (s.writeBlock c b lo hi bytes pois man).1 := by
  unfold State.writeBlock
  extract_lets words pw put manifested
  have hput : ∀ s, LevelKept s (put s).1 := fun s => foldOver Prod.fst _ (fun x i => by
    dsimp only
    split
    · exact refl _
    · exact writeCell _ _ _ _ _) _ (s, none, [])
  have hmerge : LevelKept s (s.mergeRead c lo hi).1 := withMem s _
  split
  · dsimp only
    split
    · exact (hput s).trans (withMem _ _)
    · exact hput s
  · split
    · exact hput s
    · split
      · exact hmerge.trans (of_cells (CellsKept.manifestBad _ _ _))
      · exact hmerge.trans ((hput _).trans (withMem _ _))

theorem pageDemote (s : State) (b : Nat) : LevelKept s (s.pageDemote b) := by
  unfold State.pageDemote
  split
  · exact trans (t := { s with place := _ }) rfl (fset _ (r := .SBF_PL_DEMO) _ _ (by decide))
  · exact refl s

theorem writePart (s : State) (hub : Bool) (a : Nat) (data : List Byte) (pois : List Bool) (mans : List Word) (dst b j : Nat) :
    LevelKept s (s.writePart hub a data pois mans dst b j).1 := by
  unfold State.writePart
  split
  · exact refl s
  · exact (of_cells (CellsKept.stackCount _ _ _ _)).trans (writeBlock _ _ _ _ _ _ _ _)

theorem writeAt (s : State) (hub : Bool) (a : Nat) (data : List Byte) (pois : List Bool) (mans : List Word) :
    LevelKept s (s.writeAt hub a data pois mans).st := by
  rw [State.writeAt_eq]
  refine foldOver Write.st _ (fun w bj => ?_) _ ⟨s, none, none⟩
  unfold writeStep
  split
  · exact refl _
  · dsimp only
    split
    · exact refl _
    · have hpart := writePart w.st hub a data pois mans bj.1 bj.1 bj.2
      refine hpart.trans ?_
      split
      · exact ite ((writePart _ _ _ _ _ _ _ _ _).trans (pageDemote _ _)) (writePart _ _ _ _ _ _ _ _ _)
      · exact refl _

end LevelKept

/-- What only the memory system does, at the same service level, leaves which engines are absent. -/
theorem MemoryActs.absent_eq {s t : State} (h : MemoryActs s t) (hlevel : LevelKept s t) (e : Nat) : t.absent e = s.absent e := by
  have hmap : ∀ d r f, t.fget (.CDI_MAP d r) f = s.fget (.CDI_MAP d r) f := fun d r => h.regs.fget (by simp [memoryRegs, passRegs, signalRegs])
  have hfenced : ∀ f, t.fget .BUP_FENCED f = s.fget .BUP_FENCED f := h.regs.fget (by simp [memoryRegs, passRegs, signalRegs])
  have hsite : t.siteOf e = s.siteOf e := by rw [State.siteOf, State.siteOf, hmap]
  have hstate : ∀ k, t.siteState k = s.siteState k := fun k => by rw [State.siteState, State.siteState, hmap]
  have hfence : ∀ p, t.dieFenced p = s.dieFenced p := fun p => by rw [State.dieFenced, State.dieFenced, hfenced]
  have hrelease : ∀ d, t.released d = s.released d := fun d => by rw [State.released, State.released, hlevel]
  rw [State.absent, State.absent, hsite, hstate, hfence, hrelease]

/-! ### Edge routers (R117) -/

theorem nearest_mem {l : List Nat} {b k : Nat} (h : nearest l b = some k) : k ∈ l := by
  obtain ⟨i, -, hi⟩ := List.exists_of_findSome?_eq_some h
  split at hi
  · next hc =>
    obtain rfl := Option.some.inj hi
    simpa using hc.2
  · split at hi
    · next hc =>
      obtain rfl := Option.some.inj hi
      simpa using hc
    · cases hi

theorem xor_one_lt {b : Nat} (h : b < 8) : b ^^^ 1 < 8 := Nat.xor_lt_two_pow (n := 3) h (by decide)

/-- An edge router of a die stands for another of the same die. -/
theorem State.edgeStands_lt (s : State) (d : Nat) {b : Nat} (hb : b < 8) : s.edgeStands d b < 8 := by
  have hmem : ∀ k ∈ (List.range 8).filter (fun k => s.bundleState (8 * d + k) ≠ 5), k < 8 := fun k hk =>
    List.mem_range.mp (List.mem_filter.mp hk).1
  unfold State.edgeStands
  extract_lets l
  split
  · exact hb
  · split
    · exact xor_one_lt hb
    · cases hn : nearest (l.filter (fun k => k / 4 = b / 4)) b with
      | some k => exact hmem k (List.mem_filter.mp (nearest_mem hn)).1
      | none =>
        cases hm : nearest l b with
        | some k => exact hmem k (nearest_mem hm)
        | none => exact hb

theorem edgeSelect_lt (own : Bool) {h : Nat} (hh : h < 2) (a : Nat) : edgeSelect own h a < 8 := by
  have hbits : ∀ lo len, bits a lo len < 2 ^ len := fun lo len => Nat.mod_lt _ (Nat.two_pow_pos len)
  unfold edgeSelect
  split
  · have := Nat.xor_lt_two_pow (hbits 7 2) (hbits 9 2)
    omega
  · exact Nat.xor_lt_two_pow (Nat.xor_lt_two_pow (hbits 7 3) (hbits 10 3)) (hbits 13 3)

/-- What enters a compute die enters it by one of the die's own bundles. -/
theorem State.entryBundle_mem (s : State) {d h : Nat} (hd : d < 8) (hh : h < 2) (a : Nat) : s.entryBundle (d + 1) h a ∈ bundlesOf (d + 1) := by
  have hmem : ∀ x, x < 8 → 8 * d + x ∈ bundlesOf (d + 1) := fun x hx => by
    have hdie : bundleDie (8 * d + x) = d + 1 := by
      unfold bundleDie
      rw [if_pos (by omega)]
      omega
    exact List.mem_filter.mpr ⟨List.mem_range.mpr (by omega), decide_eq_true hdie⟩
  have hmate : ∀ x, x < 8 → bundleMate (8 * d + x) = 8 * d + (x ^^^ 1) := fun x hx => by
    have hix : bundleIx (8 * d + x) = x := by
      simp only [bundleIx]
      rw [if_pos (by omega)]
      omega
    rw [bundleMate, hix]
    omega
  have hlt := s.edgeStands_lt d (edgeSelect_lt (s.bget (.CDI_CTL (Fin.ofNat 8 d)) F.CDI_CTL_EDGE_SEL) hh a)
  rw [State.entryBundle, if_pos (by omega), Nat.add_sub_cancel, State.edgeBundle]
  split
  · rw [hmate _ hlt]
    exact hmem _ (xor_one_lt hlt)
  · exact hmem _ hlt

/-- The fields that a write of CDI_CTL_d sets. -/
def State.edgeWritten (s : State) (d : Die) (v : Word) : State :=
  ((s.bset (.CDI_CTL d) F.CDI_CTL_EDGE_SEL (decide (F.CDI_CTL_EDGE_SEL.get v = 1))).fset (.CDI_CTL d) F.CDI_CTL_AUTO_SUBST
    (F.CDI_CTL_AUTO_SUBST.get v)).fset (.CDI_CTL d) F.CDI_CTL_HB_EN (F.CDI_CTL_HB_EN.get v)

theorem State.edgeWritten_fields (s : State) (d : Die) (v : Word) :
    (s.edgeWritten d v).fget (.CDI_CTL d) F.CDI_CTL_EDGE_SEL = F.CDI_CTL_EDGE_SEL.get v ∧
      (s.edgeWritten d v).fget (.CDI_CTL d) F.CDI_CTL_AUTO_SUBST = F.CDI_CTL_AUTO_SUBST.get v ∧
      (s.edgeWritten d v).fget (.CDI_CTL d) F.CDI_CTL_HB_EN = F.CDI_CTL_HB_EN.get v ∧ OnlyRegs [.CDI_CTL d] s (s.edgeWritten d v) := by
  have hsel : b2n (decide (F.CDI_CTL_EDGE_SEL.get v = 1)) % 2 ^ F.CDI_CTL_EDGE_SEL.len = F.CDI_CTL_EDGE_SEL.get v := by
    have hlt : F.CDI_CTL_EDGE_SEL.get v < 2 := Fld.get_lt _ v
    by_cases h1 : F.CDI_CTL_EDGE_SEL.get v = 1
    · rw [h1]
      rfl
    · rw [show F.CDI_CTL_EDGE_SEL.get v = 0 by omega]
      rfl
  unfold State.edgeWritten
  refine ⟨?_, ?_, ?_, ?_⟩
  · rw [State.fget_fset_field _ _ _ _ _ (by decide) (by decide), State.fget_fset_field _ _ _ _ _ (by decide) (by decide),
      State.fget_bset_same _ _ _ _ (by decide), hsel]
  · rw [State.fget_fset_field _ _ _ _ _ (by decide) (by decide), State.fget_fset_same _ _ _ _ (by decide),
      Nat.mod_eq_of_lt (Fld.get_lt _ v)]
  · rw [State.fget_fset_same _ _ _ _ (by decide), Nat.mod_eq_of_lt (Fld.get_lt _ v)]
  · exact (OnlyRegs.bset _ _ (List.mem_singleton.mpr rfl)).trans
      ((OnlyRegs.fset _ _ (List.mem_singleton.mpr rfl)).trans (OnlyRegs.fset _ _ (List.mem_singleton.mpr rfl)))

/-- The `n` engines from `b` wait for their transfers before EDGE_SEL applies. -/
def State.edgesWait (s : State) (b n : Nat) : State :=
  (List.range n).foldl (fun (s : State) k => s.engUpd (b + k) fun u => { u with edgeWait := true }) s

theorem State.edgesWait_succ (s : State) (b n : Nat) :
    s.edgesWait b (n + 1) = (s.edgesWait b n).engUpd (b + n) fun u => { u with edgeWait := true } := by
  rw [State.edgesWait, List.range_succ, List.foldl_append, List.foldl_cons, List.foldl_nil]
  rfl

theorem State.edgesWait_engs (s : State) (b : Nat) : ∀ n k, k < n → ((s.edgesWait b n).engs.at (b + k)).edgeWait = true
  | 0, k, hk => absurd hk (Nat.not_lt_zero k)
  | n + 1, k, hk => by
    rw [State.edgesWait_succ, State.engUpd, Tab.at_upd]
    split
    · rfl
    · exact State.edgesWait_engs s b n k (by omega)

theorem State.edgesWait_rest (s : State) (b n : Nat) : s.edgesWait b n = { s with engs := (s.edgesWait b n).engs } := by
  induction n with
  | zero => rfl
  | succ n ih =>
    rw [State.edgesWait_succ]
    generalize s.edgesWait b n = t at ih
    rw [ih]
    rfl

theorem edgeSelWrite_completes (d : Die) (v : Word) (s : State) : ∃ u, exec (.edgeSelWrite d v) s = .next u ∧
    u.fget (.CDI_CTL d) F.CDI_CTL_EDGE_SEL = F.CDI_CTL_EDGE_SEL.get v ∧
    u.fget (.CDI_CTL d) F.CDI_CTL_AUTO_SUBST = F.CDI_CTL_AUTO_SUBST.get v ∧
    u.fget (.CDI_CTL d) F.CDI_CTL_HB_EN = F.CDI_CTL_HB_EN.get v ∧
    (s.fget (.CDI_CTL d) F.CDI_CTL_EDGE_SEL ≠ F.CDI_CTL_EDGE_SEL.get v →
      ∀ k, k < 12 → (u.engs.at (d.val * 12 + k)).edgeWait = true) ∧
    RegsKept [.CDI_CTL d] s u ∧ u = { s with regs := u.regs, engs := u.engs } := by
  obtain ⟨hsel, hauto, hhb, honly⟩ := s.edgeWritten_fields d v
  by_cases hsame : s.bget (.CDI_CTL d) F.CDI_CTL_EDGE_SEL = decide (F.CDI_CTL_EDGE_SEL.get v = 1)
  · refine ⟨s.edgeWritten d v, if_pos hsame, hsel, hauto, hhb, fun hne => absurd ?_ hne, honly.2, ?_⟩
    · have h1 : F.CDI_CTL_EDGE_SEL.get v < 2 := Fld.get_lt _ v
      have h2 : s.fget (.CDI_CTL d) F.CDI_CTL_EDGE_SEL < 2 := State.fget_lt s _ _
      rw [State.bget, decide_eq_decide] at hsame
      omega
    · rw [honly.1]
  · have hrest := (s.edgeWritten d v).edgesWait_rest (d.val * 12) 12
    have hregs : ∀ r, ((s.edgeWritten d v).edgesWait (d.val * 12) 12).rget r = (s.edgeWritten d v).rget r := fun r => by
      rw [State.rget, hrest]
      rfl
    refine ⟨(s.edgeWritten d v).edgesWait (d.val * 12) 12, if_neg hsame, (State.fget_of_rget (hregs _) _).trans hsel,
      (State.fget_of_rget (hregs _) _).trans hauto, (State.fget_of_rget (hregs _) _).trans hhb,
      fun _ => (s.edgeWritten d v).edgesWait_engs (d.val * 12) 12, fun r hr => (hregs r).trans (honly.2 r hr), ?_⟩
    rw [hrest, honly.1]

/-! ### Multicast (R120, R121) -/

/-- A packet enters a die none of whose bundles waits. -/
theorem mcastEntersDie_ok {s : State} {d : Die} (mask off n : Nat)
    (h : ∀ p ∈ bundlesOf (d.val + 1), s.bundleState p ≠ 3 ∧ (s.dirOf p 0).asked = [] ∧ (s.dirOf p 0).writes = []) :
    ∃ u, mcastEntersDie s d.val mask off n = .ok u ∧ PathsKept s u := by
  refine State.eachUnit_ok fun t b part ht => ?_
  have hmem := t.entryBundle_mem d.isLt (show t.engHalf (d.val * 12 + ((List.range 12).filter (bitAt mask)).headD 0) < 2 by
    unfold State.engHalf
    omega) b
  have hwaits : t.bundleWaits (t.entryBundle (d.val + 1) (t.engHalf (d.val * 12 + ((List.range 12).filter (bitAt mask)).headD 0)) b) 0 = false := by
    obtain ⟨hstate, hasked, hwrites⟩ := h _ hmem
    rw [ht.bundleWaits_eq, State.bundleWaits, hasked, hwrites, decide_eq_false hstate]
    rfl
  unfold State.crossBy
  simp only [List.find?_cons, hwaits, List.find?_nil]
  exact ⟨_, rfl, PathsKept.flitsCross t _ _ _⟩

/-- Data laid down by the hub, and what the write leaves settled. -/
def State.mcastLaid (s : State) (a : Nat) (data : List Byte) (pois : List Bool) : State := match s.lay .hub a data pois with
  | .ok s1 _ => s1.settle
  | .fault s1 _ _ _ => s1.settle
  | .wait _ => s

/-- The copy of a multicast for slot `k` of die `d`: skipped and counted where the slot is absent, and else laid down. -/
def State.mcastCopy (d off : Nat) (data : List Byte) (pois : List Bool) (lost : Nat) (s : State) (k : Nat) : State :=
  if s.absent (d * 12 + k) || bitAt lost k then s.mcastSkip d else s.mcastLaid (storeAddr (d * 12 + k) off) data pois

theorem State.eachUnit_congr {s : State} {a n : Nat} {f g : State → Nat → Bool → Except Hold State} (p : State → Prop) (hs : p s)
    (hfg : ∀ t b k, p t → f t b k = g t b k ∧ ∀ u, g t b k = .ok u → p u) : s.eachUnit a n f = s.eachUnit a n g := by
  unfold State.eachUnit
  have h : ∀ (l : List Nat) (x : Except Hold State), (∀ t, x = .ok t → p t) →
      l.foldl (fun (x : Except Hold State) b => x.bind fun s => f s b (decide (b < a ∨ a + n < b + 128))) x =
        l.foldl (fun (x : Except Hold State) b => x.bind fun s => g s b (decide (b < a ∨ a + n < b + 128))) x := fun l => by
    induction l with
    | nil => exact fun _ _ => rfl
    | cons b l ih =>
      intro x hx
      rw [List.foldl_cons, List.foldl_cons]
      cases x with
      | error e => exact ih (.error e) fun t ht => by cases ht
      | ok t =>
        obtain ⟨heq, hkeep⟩ := hfg t b (decide (b < a ∨ a + n < b + 128)) (hx t rfl)
        change l.foldl _ (f t b _) = l.foldl _ (g t b _)
        rw [heq]
        exact ih _ hkeep
  exact h _ _ fun t ht => by cases ht; exact hs

/-- The half of a die that an engine is in does not change while a packet crosses. -/
theorem mcastEntersDie_eq (s : State) (d mask off n : Nat) : s.eachUnit off n (fun t b part =>
    t.crossBy .hub false part none [t.entryBundle (d + 1) (s.engHalf (d * 12 + ((List.range 12).filter (bitAt mask)).headD 0)) b]) =
      mcastEntersDie s d mask off n :=
  State.eachUnit_congr (fun t => ∀ e, t.engHalf e = s.engHalf e) (fun _ => rfl) fun t b k ht =>
    ⟨by rw [ht], fun u hu e => by
      rw [← ht e, State.engHalf, State.engHalf, (Beside.crossBy u hu).addressesKept.siteOf_eq]⟩

theorem exec_mcastDeliver {d : Die} {mask : Fin 4096} {off : Nat} {data : List Byte} {pois : List Bool} {lost : Fin 4096} {s s1 : State}
    (h : mcastEntersDie s d.val mask.val off data.length = .ok s1) : exec (.mcastDeliver d mask off data pois lost) s =
      .next (((List.range 12).filter (bitAt mask.val)).foldl (State.mcastCopy d.val off data pois lost.val) s1) := by
  change execMcastDeliver d mask off data pois lost s = _
  unfold execMcastDeliver
  simp only [mcastEntersDie_eq, h]
  refine congrArg Host.Outcome.next (congrArg (fun f => List.foldl f s1 ((List.range 12).filter (bitAt mask.val))) ?_)
  funext t k
  rw [State.mcastCopy, State.mcastLaid] <;>
  · generalize t.lay .hub (storeAddr (d.val * 12 + k) off) data pois = x
    cases x <;> rfl

/-- Laying data down for the hub is done by the memory system, at the same service level. -/
theorem State.mcastLaid_acts (s : State) (a : Nat) (data : List Byte) (pois : List Bool) :
    MemoryActs s (s.mcastLaid a data pois) ∧ LevelKept s (s.mcastLaid a data pois) := by
  have hsettle : ∀ {t}, MemoryActs s t → LevelKept s t → MemoryActs s t.settle ∧ LevelKept s t.settle := fun {t} hm hl =>
    ⟨hm.trans (MemoryActs.settle t), hl.trans (LevelKept.of_cells (CellsKept.settle t))⟩
  have hwrite := hsettle (MemoryActs.writeAt s false a data pois []) (LevelKept.writeAt s false a data pois [])
  unfold State.mcastLaid State.lay
  by_cases hguard : s.ctxGuard .hub a data.length = true
  · rw [if_pos hguard]
    exact hsettle (MemoryActs.refl s) (LevelKept.refl s)
  · rw [if_neg hguard]
    dsimp only
    generalize s.writeAt false a data pois [] = w at hwrite
    obtain ⟨t, err, werr⟩ := w
    cases err with
    | some x => exact hwrite
    | none =>
      cases werr with
      | some x => exact hwrite
      | none => exact hwrite

/-- Each copy counts when it is skipped, and leaves which engines are absent. -/
theorem State.mcastCopy_counts {d : Die} {off k lost : Nat} {data : List Byte} {pois : List Bool} (s : State) :
    (s.mcastCopy d.val off data pois lost k).fget (.CDI_MCAST_SKIP d) F.CDI_MCAST_SKIP_SKIP =
        min (s.fget (.CDI_MCAST_SKIP d) F.CDI_MCAST_SKIP_SKIP + if s.absent (d.val * 12 + k) || bitAt lost k then 1 else 0)
          (2 ^ F.CDI_MCAST_SKIP_SKIP.len - 1) ∧
      ∀ e, (s.mcastCopy d.val off data pois lost k).absent e = s.absent e := by
  by_cases h : (s.absent (d.val * 12 + k) || bitAt lost k) = true
  · have hcopy : s.mcastCopy d.val off data pois lost k = (s.cnt (.CDI_MCAST_SKIP d) F.CDI_MCAST_SKIP_SKIP 1).raise (64 + d.val * 24 + 19) := by
      rw [State.mcastCopy, if_pos h, State.mcastSkip, Fin.ofNat_val_self]
    rw [hcopy, if_pos h]
    refine ⟨?_, fun e => ?_⟩
    · rw [State.raise_fget _ _ (by simp [signalRegs]), State.fget_cnt_same _ _ _ _ (by decide)]
    · have hkept : MemoryActs (s.cnt (.CDI_MCAST_SKIP d) F.CDI_MCAST_SKIP_SKIP 1)
          ((s.cnt (.CDI_MCAST_SKIP d) F.CDI_MCAST_SKIP_SKIP 1).raise (64 + d.val * 24 + 19)) := (Signals.raise _ _).memoryActs
      have hmap : ∀ q, q ≠ .CDI_MCAST_SKIP d → (s.cnt (.CDI_MCAST_SKIP d) F.CDI_MCAST_SKIP_SKIP 1).rget q = s.rget q := fun q hq =>
        State.rget_fset_other _ _ _ hq
      rw [hkept.absent_eq (LevelKept.of_cells (CellsKept.raise _ _))]
      have haddr : AddressesKept s (s.cnt (.CDI_MCAST_SKIP d) F.CDI_MCAST_SKIP_SKIP 1) :=
        ⟨fun n => hmap _ (by simp), fun d r => hmap _ (by simp), hmap _ (by simp), State.fget_of_rget (hmap _ (by simp)) _, rfl, rfl,
          fun _ => rfl, rfl⟩
      exact haddr.absent_eq e
  · obtain ⟨hacts, hlevel⟩ := s.mcastLaid_acts (storeAddr (d.val * 12 + k) off) data pois
    rw [State.mcastCopy, if_neg h, if_neg h, hacts.regs.fget (by simp [memoryRegs, passRegs, signalRegs])]
    have hlt := State.fget_lt s (.CDI_MCAST_SKIP d) F.CDI_MCAST_SKIP_SKIP
    exact ⟨by omega, hacts.absent_eq hlevel⟩

theorem State.foldl_mcastCopy_counts {d : Die} {off lost : Nat} {data : List Byte} {pois : List Bool} (l : List Nat) (s : State) :
    (l.foldl (State.mcastCopy d.val off data pois lost) s).fget (.CDI_MCAST_SKIP d) F.CDI_MCAST_SKIP_SKIP =
      min (s.fget (.CDI_MCAST_SKIP d) F.CDI_MCAST_SKIP_SKIP + (l.filter fun k => s.absent (d.val * 12 + k) || bitAt lost k).length)
        (2 ^ F.CDI_MCAST_SKIP_SKIP.len - 1) := by
  induction l generalizing s with
  | nil =>
    have hlt := State.fget_lt s (.CDI_MCAST_SKIP d) F.CDI_MCAST_SKIP_SKIP
    rw [List.foldl_nil, List.filter_nil, List.length_nil]
    omega
  | cons k l ih =>
    obtain ⟨hcount, habsent⟩ := s.mcastCopy_counts (d := d) (off := off) (k := k) (lost := lost) (data := data) (pois := pois)
    rw [List.foldl_cons, ih, hcount, List.filter_cons]
    simp only [habsent]
    generalize 2 ^ F.CDI_MCAST_SKIP_SKIP.len - 1 = m
    by_cases h : (s.absent (d.val * 12 + k) || bitAt lost k) = true
    · rw [if_pos h, if_pos h, List.length_cons]
      omega
    · rw [if_neg h, if_neg h]
      omega

theorem slots_of_one (k : Fin 12) : (List.range 12).filter (bitAt (Fin.ofNat 4096 (2 ^ k.val)).val) = [k.val] ∧
    (Fin.ofNat 4096 (2 ^ k.val)).val = 2 ^ k.val := by
  revert k
  decide

/-! ### A write whose blocks lie one behind the other (R160) -/

/-- A write of quiet memory, whose blocks' cells lie as their addresses do, from `key`, stores its bytes in order. -/
theorem State.writeAt_linear {s : State} (hq : s.Quiet) {hub : Bool} {a key : Nat} {data : List Byte} {pois : List Bool}
    (h : s.Served hub a data.length) (hpois : ∀ i, nth pois i = false)
    (hlin : ∀ b ∈ blocksOf a data.length, ∀ c, s.cellOf hub b = some c → c.key + a = key + b) {j : Nat} (hj : j < data.length) :
    Tab.at (s.writeAt hub a data pois []).st.mem.data (key + j) = nth data j := by
  rw [State.writeAt_eq]
  suffices hall : ∀ (l : List (Nat × Nat)) (w : Write), (∀ x ∈ l, x.1 ∈ blocksOf a data.length) → WritesQuiet s w →
      (((a + j) / 256 * 256 ∈ l.map (·.1)) ∨ Tab.at w.st.mem.data (key + j) = nth data j) →
      Tab.at (l.foldl (writeStep hub a data pois []) w).st.mem.data (key + j) = nth data j by
    have hmem : (a + j) / 256 * 256 ∈ blocksOf a data.length := by
      unfold blocksOf
      rw [if_neg (by omega)]
      exact List.mem_map.mpr ⟨(a + j) / 256 - a / 256, List.mem_range.mpr (by omega), by congr 1; omega⟩
    refine hall _ ⟨s, none, none⟩ (fun x hx => ?_) ⟨QuietActs.refl hq, rfl, rfl⟩ (.inl ?_)
    · have := List.mem_zipIdx hx
      exact this.2.2 ▸ List.getElem_mem _
    · rwa [List.zipIdx_map_fst]
  intro l
  induction l with
  | nil =>
    intro w _ _ hdone
    exact hdone.resolve_left List.not_mem_nil
  | cons x l ih =>
    intro w hl hw hdone
    have hb := hl x List.mem_cons_self
    obtain ⟨halign, hlow, hhigh⟩ := mem_blocksOf hb
    obtain ⟨c, hc, hm⟩ := hw.st.served h x.1 hb
    obtain ⟨hkey, hcls⟩ := State.cellOf_aligned hc halign
    obtain ⟨t, hpart, hstored, hacts, hown⟩ := State.writePart_sound hc (hw.st.quiet.takesWrites c) hlow hhigh hpois hm [] x.2
    have hstep : writeStep hub a data pois [] w x = ⟨t, none, none⟩ := by
      unfold writeStep
      rw [hw.err]
      simp only [hpart, State.promoted_of_frames_nil hw.st.quiet.frames, hw.werr, if_true]
    have hcell := hlin x.1 hb c (((hw.st.cells hub x.1).symm).trans hc)
    rw [List.foldl_cons, hstep]
    refine ih _ (fun y hy => hl y (List.mem_cons_of_mem _ hy)) ⟨hw.st.trans (hstored.quietActs hacts hw.st.quiet hkey (hown hcls rfl)), rfl, rfl⟩ ?_
    by_cases hx : (a + j) / 256 * 256 = x.1
    · refine .inr ((hstored.data _).trans ?_)
      rw [if_pos (by omega)]
      congr 1
      omega
    · rcases hdone with hdone | hdone
      · rcases List.mem_cons.mp hdone with hhead | htail
        · exact absurd hhead hx
        · exact .inl htail
      · refine .inr ((hstored.data _).trans ?_)
        split
        · congr 1
          omega
        · exact hdone

/-! ### A local store's cells lie as its addresses do, within a macro (R200) -/

theorem rangeOf_eq_store {a e o : Nat} (h : rangeOf a = .store e o) : a = storeAddr e o ∧ o < 0x2000000 ∧ e < 96 := by
  unfold rangeOf at h
  split_ifs at h
  cases h
  unfold storeAddr
  omega

theorem rangeOf_storeAddr {e o : Nat} (he : e < 96) (ho : o < 0x2000000) : rangeOf (storeAddr e o) = .store e o := by
  obtain ⟨a, ha⟩ : ∃ a, a = storeAddr e o := ⟨_, rfl⟩
  have hsum := ha
  unfold storeAddr at hsum
  have hslot : (a - 0x031000000000) / 0x2000000 = e := by omega
  have hoff : (a - 0x031000000000) % 0x2000000 = o := by omega
  rw [← ha, rangeOf, if_neg (by omega), if_neg (by omega), if_neg (by omega), if_neg (by omega), if_pos (by omega), hslot, hoff]

/-- Where engine `e`'s local store begins. -/
def storeBase (e : Nat) : Nat := storeAddr e 0

theorem storeAddr_eq (e o : Nat) : storeAddr e o = storeBase e + o := by
  unfold storeBase storeAddr
  omega

theorem storeBase_aligned (e : Nat) : storeBase e % 262144 = 0 := by
  unfold storeBase storeAddr
  omega

theorem State.cellOf_store_linear {s : State} {hub : Bool} {a n e o b : Nat} (ha : rangeOf a = .store e o)
    (hmacro : (o + n - 1) / 262144 = o / 262144) (hb : b ∈ blocksOf a n) {c : CellRef} (hc : s.cellOf hub b = some c) :
    c.key + a = (s.localCell (s.siteOf e) o).key + b := by
  obtain ⟨haddr, ho, he⟩ := rangeOf_eq_store ha
  obtain ⟨halign, hlow, hhigh⟩ := mem_blocksOf hb
  have hbase := storeBase_aligned e
  rw [storeAddr_eq] at haddr
  obtain ⟨p, hp⟩ : ∃ p, b = storeAddr e p := ⟨b - storeBase e, by rw [storeAddr_eq]; omega⟩
  have hsum := hp
  rw [storeAddr_eq] at hsum
  have hsame : p / 262144 = o / 262144 := by omega
  rw [State.cellOf, hp, rangeOf_storeAddr he (by omega)] at hc
  dsimp only at hc
  split at hc
  · cases hc
  · cases hc
    simp only [State.localCell, hsame]
    omega

/-! ### Copies of a multicast -/

theorem Beside.mcastEntersDie {s u : State} {d mask off n : Nat} (h : mcastEntersDie s d mask off n = .ok u) : Beside s u :=
  Beside.eachUnit (fun _ _ _ => Beside.crossBy) u h

theorem State.crossBy_icu {s u : State} {q : Requester} {rd part : Bool} {near : Option Nat} {far : List Nat}
    (h : s.crossBy q rd part near far = .ok u) : u.icu = s.icu := by
  have hfold : ∀ (x y : Nat) (l : List Nat) (t : State), (l.foldl (fun (s : State) p => s.flitsCross p x y) t).icu = t.icu := fun x y l t =>
    List.foldlRecOn (motive := fun v : State => v.icu = t.icu) _ _ rfl fun v hv p _ => hv
  unfold State.crossBy at h
  extract_lets ask back at h
  split at h
  · cases h
  · cases h
  · cases h
    rw [hfold]
    cases near <;> rfl

/-- What each part of a request keeps, the request keeps. -/
theorem State.eachUnit_keeps {s u : State} {a n : Nat} {f : State → Nat → Bool → Except Hold State} (p : State → Prop) (hs : p s)
    (hf : ∀ t b k v, p t → f t b k = .ok v → p v) (h : s.eachUnit a n f = .ok u) : p u := by
  unfold State.eachUnit at h
  refine List.foldlRecOn (motive := fun x : Except Hold State => ∀ v, x = .ok v → p v) _ _ (fun v hv => ?_) (fun x hx b _ v hv => ?_) u h
  · cases hv
    exact hs
  · cases x with
    | error e => cases hv
    | ok t => exact hf t b _ v (hx t rfl) hv

theorem exec_mcastDeliver_one {d : Die} {k : Fin 12} {off : Nat} {data : List Byte} {pois : List Bool} {lost : Fin 4096} {s s1 : State}
    (h : mcastEntersDie s d.val (2 ^ k.val) off data.length = .ok s1) :
    exec (.mcastDeliver d (Fin.ofNat 4096 (2 ^ k.val)) off data pois lost) s = .next (s1.mcastCopy d.val off data pois lost.val k.val) := by
  obtain ⟨hslots, hmask⟩ := slots_of_one k
  rw [exec_mcastDeliver (s1 := s1) (by rw [hmask]; exact h), hslots]
  rfl

/-- A copy is laid down where the slot is present. -/
theorem State.mcastCopy_present {s t : State} {d k off lost : Nat} {data : List Byte} {pois : List Bool} (habsent : s.absent (d * 12 + k) = false)
    (hlost : bitAt lost k = false) (h : s.lay .hub (storeAddr (d * 12 + k) off) data pois = .ok t ()) :
    s.mcastCopy d off data pois lost k = t.settle := by
  rw [State.mcastCopy, habsent, hlost, if_neg (by decide), State.mcastLaid, h]

theorem mcastDeliver_skips {d : Die} {k : Fin 12} {off : Nat} {data : List Byte} {pois : List Bool} {lost : Fin 4096} {s s1 : State}
    (h : mcastEntersDie s d.val (2 ^ k.val) off data.length = .ok s1)
    (hskip : s.absent (d.val * 12 + k.val) = true ∨ bitAt lost.val k.val = true) :
    ∃ u, exec (.mcastDeliver d (Fin.ofNat 4096 (2 ^ k.val)) off data pois lost) s = .next u ∧
      Raised (64 + d.val * 24 + 19) s u ∧ Signals (s1.cnt (.CDI_MCAST_SKIP d) F.CDI_MCAST_SKIP_SKIP 1) u := by
  have hbeside := Beside.mcastEntersDie h
  have hcond : (s1.absent (d.val * 12 + k.val) || bitAt lost.val k.val) = true := by
    rw [hbeside.addressesKept.absent_eq]
    exact Bool.or_eq_true_iff.mpr hskip
  refine ⟨_, exec_mcastDeliver_one h, ?_, ?_⟩
  · rw [State.mcastCopy, if_pos hcond, State.mcastSkip, Fin.ofNat_val_self]
    have hicu : s1.icu = s.icu :=
      State.eachUnit_keeps (fun t => t.icu = s.icu) rfl (fun t b k v ht hv => (State.crossBy_icu hv).trans ht) h
    exact Raised.of_counts_eq (State.raise_raised _ _) (by rw [← hicu]; rfl) (by rw [← hicu]; rfl)
  · rw [State.mcastCopy, if_pos hcond, State.mcastSkip, Fin.ofNat_val_self]
    exact Signals.raise _ _

theorem mcastDeliver_stores {d : Die} {k : Fin 12} {off : Nat} {data : List Byte} {lost : Fin 4096} {s : State} {a : Nat}
    (ha : a = storeAddr (d.val * 12 + k.val) off) (habsent : s.absent (d.val * 12 + k.val) = false) (hlost : bitAt lost.val k.val = false)
    (hun : Undisturbed s) (hread : Readable s a data.length) (hguard : s.ctxGuard .hub a data.length = false) :
    ∃ t, exec (.mcastDeliver d (Fin.ofNat 4096 (2 ^ k.val)) off data (data.map (fun _ => false)) lost) s = .next t ∧
      (∀ o j, rangeOf a = .store (d.val * 12 + k.val) o → (o + data.length - 1) / 262144 = o / 262144 → j < data.length →
        Tab.at t.mem.data ((s.localCell (s.siteOf (d.val * 12 + k.val)) o).key + j) = nth data j) ∧
      (∀ i, Tab.at t.mem.syn i = 0) ∧ t.spans = s.spans ∧ t.engs = s.engs := by
  obtain ⟨s1, henter, -⟩ : ∃ u, mcastEntersDie s d.val (2 ^ k.val) off data.length = .ok u ∧ PathsKept s u :=
    State.eachUnit_ok fun t b part ht => State.crossBy_ok (ht.bundlesFree hun.1.1) rfl _ _ _ _
  have hbeside := Beside.mcastEntersDie henter
  have hquiet := hbeside.cellsKept.quiet (Undisturbed.quiet hun)
  have hserved : s1.Served false a data.length := fun b hb => by
    obtain ⟨c, hc, hm⟩ := Readable.served (Undisturbed.quiet hun) hread b hb
    exact ⟨c, (hbeside.addressesKept.cellOf_eq false b).trans hc, (hbeside.cellsKept.matches_iff _).mpr hm⟩
  have hpois : ∀ i, nth (data.map (fun _ => false)) i = false := fun i => by
    by_cases hi : i < (data.map (fun _ => false)).length
    · rw [nth_eq_getElem hi, List.getElem_map]
    · exact nth_of_length_le (not_lt.mp hi)
  have hwrite := State.writeAt_quiet hquiet hserved hpois
  have hacts := hwrite.st.acts
  have hlinear := fun {key : Nat} hlin {j : Nat} => State.writeAt_linear (key := key) hquiet hserved hpois hlin (j := j)
  have hlay : s1.lay .hub a data (data.map fun _ => false) = .ok (s1.writeAt false a data (data.map fun _ => false) []).st () := by
    rw [State.lay, hbeside.ctxGuard_eq, hguard, if_neg Bool.false_ne_true]
    simp only [hwrite.err, hwrite.werr]
  have hexec : exec (.mcastDeliver d (Fin.ofNat 4096 (2 ^ k.val)) off data (data.map (fun _ => false)) lost) s =
      .next (s1.writeAt false a data (data.map fun _ => false) []).st.settle := by
    rw [exec_mcastDeliver_one henter, State.mcastCopy_present ((hbeside.addressesKept.absent_eq _).trans habsent) hlost (ha ▸ hlay), ha]
  have hsyn := hwrite.st.quiet.sound
  generalize (s1.writeAt false a data (data.map fun _ => false) []).st = w at hexec hlinear hacts hsyn
  have hcells := CellsKept.settle w
  have hrest := hacts.trans (MemoryActs.settle w)
  refine ⟨w.settle, hexec, fun o j ho hmacro hj => ?_, hcells.sound hsyn, ?_, ?_⟩
  · rw [hcells.data]
    refine hlinear (fun b hb c hc => ?_) hj
    rw [hbeside.addressesKept.cellOf_eq] at hc
    exact State.cellOf_store_linear ho hmacro hb hc
  · rw [hrest.rest]
    exact hbeside.spans_eq
  · rw [hrest.rest]
    exact hbeside.engs_eq

/-! ### The barrier (R67, R305) and the seam (R128) -/

theorem State.moveGangs_none (s : State) (e : Nat) {a b : GangSt} (hne : a ≠ b) : ∀ g ∈ ((s.moveGangs e a b).engs.at e).gangs, g.2.st ≠ a := by
  intro g hg
  rw [State.moveGangs, State.engUpd, Tab.at_upd_same] at hg
  obtain ⟨x, -, rfl⟩ := List.mem_map.mp hg
  dsimp only
  split
  · exact fun h => hne h.symm
  · assumption

/-- Settles O8, by what crossing does beside memory, the writes of quiet memory for a copy of a multicast, and the moves of gangs at the
barrier. -/
theorem dieFabricCompletes : Obligations.DieFabricCompletes := by
  refine ⟨edgeSelWrite_completes, fun e s => ⟨fun h => ?idle, fun h => ?apply⟩, fun d mask off data pois lost w s h => ?waits,
    fun d mask off data pois lost s h => ?counts, fun d k off data pois lost s s1 h => ⟨fun hskip => mcastDeliver_skips h hskip,
      fun t habsent hlost hlay => ?lays⟩, fun d k off data lost s a ha habsent hlost hun hread hguard =>
      mcastDeliver_stores ha habsent hlost hun hread hguard, fun e s a ha hmem => ⟨fun hall => ?last, fun hnot => ?arrives⟩,
    fun e s h => ?stranger, fun e s => ⟨fun h => ?unreleased, fun h => ?released⟩, fun d n s => ?seam⟩
  case idle => exact if_neg (by rw [h]; exact Bool.false_ne_true)
  case apply =>
    refine ⟨_, if_pos h, ?_, fun j hj => ?_, rfl⟩
    · rw [State.engUpd, Tab.at_upd_same]
    · rw [State.engUpd, Tab.at_upd, if_neg hj]
  case waits =>
    change execMcastDeliver d mask off data pois lost s = _
    unfold execMcastDeliver
    simp only [mcastEntersDie_eq, h]
  case counts =>
    obtain ⟨s1, henter, -⟩ := mcastEntersDie_ok mask.val off data.length h
    have hbeside := Beside.mcastEntersDie henter
    refine ⟨_, exec_mcastDeliver henter, ?_⟩
    rw [State.foldl_mcastCopy_counts, hbeside.regs.fget (by simp [besideRegs, signalRegs, passRegs]), List.filter_filter]
    simp only [hbeside.addressesKept.absent_eq, Bool.and_comm]
  case lays =>
    have hbeside := Beside.mcastEntersDie h
    rw [exec_mcastDeliver_one h, State.mcastCopy_present ((hbeside.addressesKept.absent_eq _).trans habsent) hlost hlay]
  case last =>
    subst ha
    refine ⟨_, (if_pos hmem).trans (if_pos hall), rfl, ?_, rfl, rfl⟩
    exact State.moveGangs_none s e.val (by decide)
  case arrives =>
    subst ha
    refine ⟨_, (if_pos hmem).trans (if_neg hnot), rfl, ?_, rfl⟩
    exact State.moveGangs_none s e.val (by decide)
  case stranger => exact if_neg (by rw [h]; exact Bool.false_ne_true)
  case unreleased => exact if_neg (by rw [h]; exact Bool.false_ne_true)
  case released =>
    exact ⟨_, if_pos h, rfl, State.moveGangs_none _ e.val (by decide), rfl⟩
  case seam =>
    by_cases hover : (s.rget (.CDI_SEAM_STALL d)).toNat ≤ 65536 ∧ 65536 < (s.rget (.CDI_SEAM_STALL d)).toNat + n
    · refine ⟨_, if_pos hover, ?_, fun _ _ => ?_, Signals.raise _ _⟩
      · rw [State.raise_fget _ _ (by simp [signalRegs]), State.fget_cnt_same _ _ _ _ (by decide)]
      · exact Raised.of_counts_eq (State.raise_raised _ _) rfl rfl
    · exact ⟨_, if_neg hover, State.fget_cnt_same _ _ _ _ (by decide), fun h1 h2 => absurd ⟨h1, h2⟩ hover, Signals.refl _⟩

end Sys2Proof.Machine

namespace Sys2Proof.Machine

/-! PROOFS. Repairs of memory (O16): fenced stacks (R168), released patch entries (R199), fenced macros (R200) and retired pages (R201), each
with its record in the defect log. -/

/-! ### A record in the defect log (R393) -/

theorem State.logRec_recs {s : State} {ok : Bool} (r : LogRec) (h : s.logRoom ok = true) : (s.logRec r ok).log.recs = s.log.recs ++ [r] := by
  have hroom : (ok && decide (s.log.recs.length < 131072)) = true := h
  unfold State.logRec
  dsimp only
  rw [if_pos hroom]
  split
  · rw [State.raise_log]
    rfl
  · rfl

/-- A record raises no source but the log's own, 9. -/
theorem State.logRec_src (s : State) (r : LogRec) (ok : Bool) {k : Nat} (h9 : k ≠ 9) (h0 : k ≠ 0) :
    (s.logRec r ok).icu.src.at k = s.icu.src.at k := by
  unfold State.logRec
  dsimp only
  split
  · split
    · exact State.raise_src_other _ h9 h0
    · rfl
  · exact State.raise_src_other _ h9 h0

theorem State.logRec_regs (s : State) (r : LogRec) (ok : Bool) : RegsKept (.BUP_STAT :: signalRegs) s (s.logRec r ok) := by
  have hfull : ∀ (t : State) f, (∀ q, t.rget q = s.rget q) → RegsKept (.BUP_STAT :: signalRegs) s ((t.bset .BUP_STAT f true).raise 9) :=
    fun t f ht => RegsKept.trans (t := t.bset .BUP_STAT f true)
      (fun q hq => (State.rget_fset_other t f _ (r := .BUP_STAT) (q := q) fun he => hq (he ▸ List.mem_cons_self)).trans (ht q))
      ((Signals.raise _ 9).regsKept fun q hq => List.mem_cons_of_mem _ hq)
  unfold State.logRec
  dsimp only
  split
  · split
    · exact hfull _ _ fun _ => rfl
    · exact fun _ _ => rfl
  · exact hfull _ _ fun _ => rfl

/-- An event raised after a record is one event of its source. -/
theorem State.raised_logRec (s : State) (r : LogRec) (ok : Bool) {k : Nat} (h9 : k ≠ 9) (h0 : k ≠ 0) : Raised k s ((s.logRec r ok).raise k) :=
  Raised.of_counts_eq (State.raise_raised _ _) (by rw [State.logRec_src s r ok h9 h0]) (by rw [State.logRec_src s r ok h9 h0])

/-! ### Stacks (R168) -/

/-- A die is fenced when its bit of BUP_FENCED is set. -/
theorem State.dieFenced_eq (s : State) {pos : Nat} (h : pos < 20) : s.dieFenced pos = decide (s.fget .BUP_FENCED ⟨pos, 1⟩ = 1) := by
  have hbit : bitAt (s.fget .BUP_FENCED F.BUP_FENCED_DIES) pos = ((s.rget .BUP_FENCED).toNat).testBit pos := by
    rw [bitAt_eq_testBit, State.fget, Fld.get]
    exact (Nat.testBit_mod_two_pow _ 20 pos).trans (by simp [h])
  rw [State.dieFenced, hbit, Nat.testBit_eq_decide_div_mod_eq]
  rfl

theorem State.markFenced_fenced (s : State) {pos : Nat} (cause : Nat) (h : pos < 20) : (s.markFenced pos cause).dieFenced pos = true := by
  rw [State.dieFenced_eq _ h, decide_eq_true_eq]
  exact State.fget_fset_same s _ _ _ (show pos + 1 ≤ 32 by omega)

/-- The state in which a stack is fenced, before it is logged. -/
def State.stackMarked (s : State) (n cause : Nat) : State := (s.fset (.STK_STAT (Fin.ofNat 8 n)) F.STK_STAT_STATE 4).markFenced (12 + n) cause

theorem fenceStack_eq {s : State} {n : Nat} (cause : Nat) (ok : Bool) (h : s.stackFenced n = false) :
    s.fenceStack n cause ok = ((s.stackMarked n cause).logRec ⟨0x07, cause, n, 0, 0, false⟩ ok).raise (385 + 2 * n) := by
  rw [State.fenceStack, h, if_neg Bool.false_ne_true]
  rfl

theorem State.stackMarked_stat (s : State) (n cause : Nat) :
    (s.stackMarked n cause).rget (.STK_STAT (Fin.ofNat 8 n)) = (s.fset (.STK_STAT (Fin.ofNat 8 n)) F.STK_STAT_STATE 4).rget
      (.STK_STAT (Fin.ofNat 8 n)) := State.rget_fset_other _ _ _ (by simp)

theorem stackFence_completes (n : Stack) (ok : Bool) (s : State) :
    (s.stackFenced n.val = true → exec (.stackFence n ok) s = .next s) ∧
    (s.stackFenced n.val = false → ∃ u, exec (.stackFence n ok) s = .next u ∧ u.stackFenced n.val = true ∧
      u.dieFenced (12 + n.val) = true ∧ Raised (385 + 2 * n.val) s u ∧
      (s.logRoom ok = true → u.log.recs = s.log.recs ++ [⟨0x07, 5, n.val, 0, 0, false⟩]) ∧
      (s.logRoom ok = false → u.log.recs = s.log.recs ∧ u.bget .BUP_STAT F.BUP_STAT_LOG_FAIL = true) ∧
      RegsKept ([.STK_STAT n, .BUP_FENCED, .BUP_STAT] ++ signalRegs) s u ∧ u.mem = s.mem) := by
  refine ⟨fun h => congrArg Host.Outcome.next (if_pos h), fun h => ⟨_, congrArg Host.Outcome.next (fenceStack_eq 5 ok h), ?_⟩⟩
  have hn : Fin.ofNat 8 n.val = n := Fin.ofNat_val_self n
  have hstat := s.stackMarked_stat n.val 5
  rw [hn] at hstat
  have hfour : (s.stackMarked n.val 5).fget (.STK_STAT n) F.STK_STAT_STATE = 4 := by
    rw [State.fget_of_rget hstat, State.fget_fset_same _ _ _ _ (by decide)]
    rfl
  have hbit : (s.stackMarked n.val 5).dieFenced (12 + n.val) = true := State.markFenced_fenced _ _ (by omega)
  have hregs : RegsKept [.STK_STAT n, .BUP_FENCED] s (s.stackMarked n.val 5) := by
    rw [State.stackMarked, hn]
    exact RegsKept.trans (t := s.fset (.STK_STAT n) F.STK_STAT_STATE 4) (RegsKept.fset _ _ (by simp)) (RegsKept.fset _ _ (by simp))
  have hmem : (s.stackMarked n.val 5).mem = s.mem := rfl
  have hlog : (s.stackMarked n.val 5).log = s.log := rfl
  have hicu : (s.stackMarked n.val 5).icu = s.icu := rfl
  generalize s.stackMarked n.val 5 = m at *
  have hlogged := m.logRec_regs ⟨0x07, 5, n.val, 0, 0, false⟩ ok
  refine ⟨?_, ?_, ?_, fun hroom => ?_, fun hroom => ?_, ?_, ?_⟩
  · rw [State.stackFenced, hn, State.raise_fget _ _ (by simp [signalRegs]), hlogged.fget (by simp [signalRegs]), hfour]
    rfl
  · rw [State.dieFenced, State.raise_fget _ _ (by simp [signalRegs]), hlogged.fget (by simp [signalRegs])]
    exact hbit
  · exact Raised.of_counts_eq (m.raised_logRec _ ok (by omega) (by omega)) (by rw [hicu]) (by rw [hicu])
  · rw [State.raise_log, State.logRec_recs _ (by rw [State.logRoom, hlog]; exact hroom), hlog]
  · obtain ⟨hrecs, hfail⟩ := State.logRec_lost (s := m) ⟨0x07, 5, n.val, 0, 0, false⟩ (by rw [State.logRoom, hlog]; exact hroom)
    rw [State.raise_log, State.raise_bget _ _ (by simp [signalRegs]), hrecs, hlog]
    exact ⟨rfl, hfail⟩
  · refine RegsKept.trans (t := m) (hregs.mono (by simp)) (RegsKept.trans (t := m.logRec ⟨0x07, 5, n.val, 0, 0, false⟩ ok)
      (hlogged.mono (by simp +contextual)) ((Signals.raise _ _).regsKept (List.subset_append_right _ _)))
  · rw [State.raise_mem, State.logRec_mem, hmem]

/-! ### Patch entries (R199) -/

theorem bitAt_fifteen {i : Nat} (h : i < 4) : bitAt 15 i = true := by
  interval_cases i <;> rfl

/-- A whole word that is written to a cell without a patch entry is stored, whatever stood in the cell. -/
theorem MemUnit.write_whole {m : MemUnit} {c : CellRef} (h : m.Unpatched c.ik) (w : Nat) (pois : Bool) (thr : Nat) :
    (∀ k, Tab.at (m.write c 15 w pois thr).1.data k = if c.key ≤ k ∧ k < c.key + 4 then byteOf (w / 256 ^ (k - c.key)) else Tab.at m.data k) ∧
      (m.write c 15 w pois thr).1.insts = m.insts := by
  have hwrite : (m.write c 15 w pois thr).1 = if byteLane c.cls then
      (List.range 4).foldl (fun (m : MemUnit) i => if bitAt 15 i then
        (m.setByte (c.key + i) (byteOf (w / 256 ^ i))).setSyn (c.key + i) (if pois then bytePoison else 0) else m) m
      else (m.setRaw c.key w).setSyn c.key (if pois then wordPoison else 0) := by
    unfold MemUnit.write
    rw [show (Tab.at m.insts c.ik).patch = [] from h]
    change (if byteLane c.cls then _ else if 15 = 15 then _ else _ : MemUnit × Bool).1 = _
    split <;> rfl
  rw [hwrite]
  split
  · refine ⟨fun k => ?_, ?_⟩
    · have hdata : ∀ (l : List Nat) (x y : MemUnit), x.data = y.data → (l.foldl (fun (m : MemUnit) i => if bitAt 15 i then
          (m.setByte (c.key + i) (byteOf (w / 256 ^ i))).setSyn (c.key + i) (if pois then bytePoison else 0) else m) x).data =
            (l.foldl (MemUnit.putLane c.key 15 w) y).data := fun l => by
        induction l with
        | nil => exact fun x y hxy => hxy
        | cons i l ih =>
          intro x y hxy
          refine ih _ _ ?_
          unfold MemUnit.putLane
          dsimp only
          by_cases hbit : bitAt 15 i = true
          · rw [if_pos hbit, if_pos hbit]
            exact congrArg (fun d => Tab.put d (c.key + i) (byteOf (w / 256 ^ i))) hxy
          · rw [if_neg hbit, if_neg hbit]
            exact hxy
      rw [hdata _ m m rfl]
      refine (m.putLanes_data c.key 15 w k).trans (if_congr ⟨fun hk => ⟨hk.1, hk.2.1⟩, fun hk => ⟨hk.1, hk.2, bitAt_fifteen ?_⟩⟩ rfl rfl)
      omega
    · refine List.foldlRecOn (motive := fun t : MemUnit => t.insts = m.insts) _ _ rfl fun t ht i _ => ?_
      split <;> exact ht
  · exact ⟨m.setRaw_data c.key w, rfl⟩

/-- The cell of the memory that MEM_INST_SEL selects. -/
def State.selCell (s : State) (key : Nat) : CellRef := ⟨s.fget .MEM_INST_SEL F.MEM_INST_SEL_CLASS, s.fget .MEM_INST_SEL F.MEM_INST_SEL_INST, key⟩

/-- Memory with patch entry `e` of an instance free. -/
def MemUnit.unpatch (m : MemUnit) (ik e : Nat) : MemUnit :=
  m.inst ik fun i => { i with patch := i.patch.filter (fun x => x.1 ≠ e), full := false }

/-- The state in which patch entry `e`, which names `p`, has gone back to its cell. -/
def State.patchBack (s : State) (e : Nat) (p : Patch) : State :=
  s.withMem ((s.mem.unpatch (s.selCell p.key).ik e).write (s.selCell p.key) 15 p.data.toNat p.bad (s.pinThr (s.selCell p.key))).1

theorem exec_patchRelease {v : Word} {s : State} {p : Patch} (ok : Bool) (hgo : F.MEM_PATCH_CTL_RELEASE.get v ≠ 0)
    (h : (s.mem.insts.at (s.selCell p.key).ik).patch.at (F.MEM_PATCH_CTL_ENTRY.get v) = some p) :
    exec (.patchRelease v ok) s = .next ((s.patchBack (F.MEM_PATCH_CTL_ENTRY.get v) p).logRec
      ⟨0x04, 0, (s.selCell p.key).cls + (s.selCell p.key).inst * 8, (s.selCell p.key).logAddr % 2 ^ 32, (s.selCell p.key).logAddr / 2 ^ 32, false⟩
      ok) := by
  change execPatchRelease v ok s = _
  unfold execPatchRelease
  extract_lets cls inst ik e
  rw [show (s.mem.insts.at ik).patch.at e = some p from h]
  exact if_neg hgo

theorem patchRelease_frees (v : Word) (ok : Bool) (s : State) (ik e : Nat) (p : Patch)
    (hik : ik = s.fget .MEM_INST_SEL F.MEM_INST_SEL_CLASS * 128 + s.fget .MEM_INST_SEL F.MEM_INST_SEL_INST)
    (he : e = F.MEM_PATCH_CTL_ENTRY.get v) (hgo : F.MEM_PATCH_CTL_RELEASE.get v ≠ 0) (hpatch : (s.mem.insts.at ik).patch = [(e, some p)]) :
    ∃ u, exec (.patchRelease v ok) s = .next u ∧ (u.mem.insts.at ik).patch = [] ∧ (u.mem.insts.at ik).full = false ∧
      (∀ i, i < 4 → Tab.at u.mem.data (p.key + i) = byteOf (p.data.toNat / 256 ^ i)) ∧
      (∀ k, (k < p.key ∨ p.key + 4 ≤ k) → Tab.at u.mem.data k = Tab.at s.mem.data k) ∧
      (s.logRoom ok = true → ∃ x, u.log.recs = s.log.recs ++ [x] ∧ x.typ = 0x04) ∧
      RegsKept (.BUP_STAT :: signalRegs) s u := by
  have hcell : ik = (s.selCell p.key).ik := hik
  subst hcell he
  have hfreed : (Tab.at (s.mem.unpatch (s.selCell p.key).ik (F.MEM_PATCH_CTL_ENTRY.get v)).insts (s.selCell p.key).ik).patch = [] ∧
      (Tab.at (s.mem.unpatch (s.selCell p.key).ik (F.MEM_PATCH_CTL_ENTRY.get v)).insts (s.selCell p.key).ik).full = false := by
    rw [MemUnit.unpatch, MemUnit.inst, Tab.at_upd_same]
    exact ⟨by simp [hpatch], rfl⟩
  obtain ⟨hdata, hinsts⟩ := MemUnit.write_whole (c := s.selCell p.key) hfreed.1 p.data.toNat p.bad (s.pinThr (s.selCell p.key))
  have hmem : ∀ r, ((s.patchBack (F.MEM_PATCH_CTL_ENTRY.get v) p).logRec r ok).mem = (s.patchBack (F.MEM_PATCH_CTL_ENTRY.get v) p).mem :=
    fun r => State.logRec_mem _ _ _
  refine ⟨_, exec_patchRelease ok hgo (by rw [hpatch]; exact if_pos rfl), ?_, ?_, fun i hi => ?_, fun k hk => ?_,
    fun hroom => ⟨_, State.logRec_recs _ hroom, rfl⟩, ?_⟩
  · rw [hmem, State.patchBack, State.withMem, hinsts]
    exact hfreed.1
  · rw [hmem, State.patchBack, State.withMem, hinsts]
    exact hfreed.2
  · rw [hmem, State.patchBack, State.withMem]
    refine (hdata _).trans ((if_pos ?_).trans ?_)
    · exact ⟨Nat.le_add_right _ _, Nat.add_lt_add_left hi _⟩
    · rw [show p.key + i - (s.selCell p.key).key = i from Nat.add_sub_cancel_left _ _]
  · rw [hmem, State.patchBack, State.withMem]
    refine (hdata k).trans (if_neg fun hin => ?_)
    have hkey : (s.selCell p.key).key = p.key := rfl
    omega
  · exact RegsKept.trans (t := s.patchBack (F.MEM_PATCH_CTL_ENTRY.get v) p) (fun _ _ => rfl) (State.logRec_regs _ _ _)

/-! ### Macros (R200) -/

theorem State.macroShow_stat (s : State) {st : Nat} (h : st < 4) : (s.macroShow st).fget .MEM_FENCE_STAT F.MEM_FENCE_STAT_STATE = st :=
  (State.fget_fset_same _ _ _ _ (by decide)).trans (Nat.mod_eq_of_lt h)

/-- A site whose macro `m` is fenced, and pending no more. -/
def SiteUnit.macroFenced (m : Nat) (u : SiteUnit) : SiteUnit :=
  { u with fenced := if u.fenced.contains m then u.fenced else m :: u.fenced, fencePend := u.fencePend.filter (· ≠ m) }

/-- A macro fence takes effect: the macro is fenced and pending no more, the fence is logged and raised. -/
theorem State.macroApply_done (s : State) (k m cause : Nat) (ok : Bool) :
    (((s.macroApply k m cause ok).sites.at k).fenced = if (s.sites.at k).fenced.contains m then (s.sites.at k).fenced
        else m :: (s.sites.at k).fenced) ∧
      ((s.macroApply k m cause ok).sites.at k).fencePend = (s.sites.at k).fencePend.filter (· ≠ m) ∧
      (s.macroApply k m cause ok).fget .MEM_FENCE_STAT F.MEM_FENCE_STAT_STATE = 2 ∧ Raised 425 s (s.macroApply k m cause ok) ∧
      (s.macroApply k m cause ok).mem.data = s.mem.data ∧
      (s.logRoom ok = true → (s.macroApply k m cause ok).log.recs = s.log.recs ++ [⟨0x02, cause, k + m * 256, 0, 0, false⟩]) ∧
      RegsKept ([.MEM_FENCE_STAT, .BUP_STAT] ++ signalRegs) s (s.macroApply k m cause ok) := by
  have hshow := fun t : State => t.macroShow_stat (st := 2) (by decide)
  unfold State.macroApply
  extract_lets base s1
  have hsites : s1.sites.at k = (s.sites.at k).macroFenced m := Tab.at_upd_same s.sites k (SiteUnit.macroFenced m)
  have hdata : s1.mem.data = s.mem.data := rfl
  have hlog : s1.log = s.log := rfl
  have hicu : s1.icu = s.icu := rfl
  have hregs : s1.regs = s.regs := rfl
  generalize s1 = a at *
  have hacts := MemoryActs.logRec a ⟨0x02, cause, k + m * 256, 0, 0, false⟩ ok
  have hraised := a.raised_logRec ⟨0x02, cause, k + m * 256, 0, 0, false⟩ ok (k := 425) (by decide) (by decide)
  have hlogged := a.logRec_regs ⟨0x02, cause, k + m * 256, 0, 0, false⟩ ok
  have hrecs := fun h => State.logRec_recs (s := a) (ok := ok) ⟨0x02, cause, k + m * 256, 0, 0, false⟩ h
  have hmem := State.logRec_mem a ⟨0x02, cause, k + m * 256, 0, 0, false⟩ ok
  generalize a.logRec ⟨0x02, cause, k + m * 256, 0, 0, false⟩ ok = b at *
  have hsame : ((b.raise 425).macroShow 2).sites.at k = a.sites.at k := by
    rw [State.macroShow, show ((b.raise 425).fset _ _ _).sites = (b.raise 425).sites from rfl, State.raise_sites, hacts.rest]
  refine ⟨by rw [hsame, hsites]; rfl, by rw [hsame, hsites]; rfl, hshow _, ?_, ?_, fun hroom => ?_, ?_⟩
  · exact Raised.of_counts_eq hraised (by rw [hicu]) (by rw [hicu])
  · rw [← hdata, ← hmem]
    exact congrArg MemUnit.data (State.raise_mem b 425)
  · rw [← hlog]
    refine Eq.trans ?_ (hrecs (by rw [State.logRoom, hlog]; exact hroom))
    exact congrArg LogUnit.recs (State.raise_log b 425)
  · refine RegsKept.trans (t := a) (fun r _ => by rw [State.rget, hregs, State.rget]) (RegsKept.trans (t := b) (hlogged.mono (by simp +contextual))
      (RegsKept.trans (t := b.raise 425) ((Signals.raise b 425).regsKept (List.subset_append_right _ _)) (RegsKept.fset _ _ (by simp))))

/-- A site whose macro `m` is to be fenced once no loaded span holds its engine. -/
def SiteUnit.macroPending (m : Nat) (u : SiteUnit) : SiteUnit :=
  { u with fencePend := if u.fencePend.contains m then u.fencePend else u.fencePend ++ [m] }

theorem macroFence_completes (v : Word) (ok : Bool) (s : State) (k m : Nat) (hk : k = F.MEM_FENCE_MACRO_SITE.get v)
    (hm : m = F.MEM_FENCE_MACRO_MACRO.get v) (hgo : F.MEM_FENCE_MACRO_GO.get v ≠ 0) :
    (s.siteState k ∈ [2, 3, 4] → ∃ u, exec (.macroFence v ok) s = .next u ∧
      u.fget .MEM_FENCE_STAT F.MEM_FENCE_STAT_STATE = 3 ∧ OnlyRegs [.MEM_FENCE_STAT] s u) ∧
    (s.siteState k ∉ [2, 3, 4] → m ∉ (s.sites.at k).fenced → (s.siteState k = 1 ∨ s.siteHeld k = false) →
      ∃ u, exec (.macroFence v ok) s = .next u ∧ (u.sites.at k).fenced = m :: (s.sites.at k).fenced ∧
        u.usable k + 262144 = s.usable k + (if 128 ≤ (s.sites.at k).fenced.length then 262144 else 0) ∧
        u.fget .MEM_FENCE_STAT F.MEM_FENCE_STAT_STATE = 2 ∧ Raised 425 s u ∧ u.mem.data = s.mem.data ∧
        (s.logRoom ok = true → u.log.recs = s.log.recs ++ [⟨0x02, 0, k + m * 256, 0, 0, false⟩]) ∧
        RegsKept ([.MEM_FENCE_STAT, .BUP_STAT] ++ signalRegs) s u) ∧
    (s.siteState k ∉ [1, 2, 3, 4] → m ∉ (s.sites.at k).fenced → s.siteHeld k = true →
      ∃ u, exec (.macroFence v ok) s = .next u ∧ m ∈ (u.sites.at k).fencePend ∧
        u.fget .MEM_FENCE_STAT F.MEM_FENCE_STAT_STATE = 1 ∧ u = { s with regs := u.regs, sites := u.sites }) := by
  subst hk hm
  generalize hk : F.MEM_FENCE_MACRO_SITE.get v = k
  generalize hm : F.MEM_FENCE_MACRO_MACRO.get v = m
  have hexec : exec (.macroFence v ok) s = if s.siteState k = 2 ∨ s.siteState k = 3 ∨ s.siteState k = 4 then .next (s.macroShow 3)
      else if (s.sites.at k).fenced.contains m then .next (s.macroShow 2)
      else if s.siteState k = 1 ∨ !s.siteHeld k then .next (s.macroApply k m 0 ok)
      else .next ((s.siteUpd k (fun u => { u with
        fencePend := if u.fencePend.contains m then u.fencePend else u.fencePend ++ [m] })).macroShow 1) := by
    subst hk hm
    exact if_neg hgo
  refine ⟨fun hst => ?gone, fun hst hnew hfree => ?now, fun hst hnew hheld => ?later⟩
  case gone =>
    rw [if_pos (by simpa using hst)] at hexec
    exact ⟨_, hexec, s.macroShow_stat (by decide), OnlyRegs.fset _ _ (by simp)⟩
  case now =>
    obtain ⟨hfenced, -, hstat, hraised, hdata, hrecs, hregs⟩ := s.macroApply_done k m 0 ok
    rw [if_neg (by simpa using hst), if_neg (by simpa using hnew), if_pos (by simpa using hfree)] at hexec
    rw [if_neg (by simpa using hnew)] at hfenced
    refine ⟨_, hexec, hfenced, ?_, hstat, hraised, hdata, hrecs, hregs⟩
    rw [State.usable, State.usable, hfenced, List.length_cons]
    split <;> omega
  case later =>
    have hst' : s.siteState k ≠ 1 ∧ s.siteState k ≠ 2 ∧ s.siteState k ≠ 3 ∧ s.siteState k ≠ 4 := by simpa using hst
    rw [if_neg (by omega), if_neg (by simpa using hnew), if_neg (by simp [hst'.1, hheld])] at hexec
    refine ⟨_, hexec, ?_, State.macroShow_stat _ (by decide), rfl⟩
    change m ∈ ((s.sites.upd k (SiteUnit.macroPending m)).at k).fencePend
    rw [Tab.at_upd_same, SiteUnit.macroPending]
    dsimp only
    split
    · next h => simpa using h
    · simp

theorem macroFenceApply_completes (k : Site) (m : Fin 128) (ok : Bool) (s : State) :
    ((m.val ∉ (s.sites.at k.val).fencePend ∨ s.siteHeld k.val = true) → exec (.macroFenceApply k m ok) s = .next s) ∧
    (m.val ∈ (s.sites.at k.val).fencePend → s.siteHeld k.val = false → ∃ u, exec (.macroFenceApply k m ok) s = .next u ∧
      m.val ∈ (u.sites.at k.val).fenced ∧ m.val ∉ (u.sites.at k.val).fencePend ∧ Raised 425 s u ∧
      u.fget .MEM_FENCE_STAT F.MEM_FENCE_STAT_STATE = 2 ∧ RegsKept ([.MEM_FENCE_STAT, .BUP_STAT] ++ signalRegs) s u) := by
  constructor
  · intro h
    refine if_neg fun hc => ?_
    obtain ⟨hpend, hheld⟩ := hc
    rcases h with h | h
    · exact h (by simpa using hpend)
    · exact hheld h
  · intro hpend hheld
    obtain ⟨hfenced, hrest, hstat, hraised, -, -, hregs⟩ := s.macroApply_done k.val m.val 0 ok
    refine ⟨_, if_pos ⟨by simpa using hpend, by simp [hheld]⟩, ?_, ?_, hraised, hstat, hregs⟩
    · rw [hfenced]
      split
      · next h => simpa using h
      · exact List.mem_cons_self
    · rw [hrest]
      simp

/-! ### Pages (R201) -/

/-- The state in which page `p` is retired, with the patch entries of its instance free, before it is logged. -/
def State.pageGone (s : State) (ik p : Nat) : State :=
  (s.withMem { s.mem.freePatches ik (fun k => k / 65536 = p) with retired := s.mem.retired ++ [p] }).fset .MEM_RETIRE_STAT
    F.MEM_RETIRE_STAT_COUNT (s.mem.retired.length + 1)

/-- The instance of the DRAM that an address lies in. -/
def retireInst (a : Nat) : Option Nat := match rangeOf a with
  | .bonded row _ => some (4 * 128 + row)
  | .placed n _ => some (5 * 128 + n)
  | _ => none

theorem exec_pageRetire {v : Word} (ok : Bool) {s : State} {a : Nat}
    (ha : a = (s.rget .MEM_RETIRE_LO).toNat + s.fget .MEM_RETIRE_HI F.MEM_RETIRE_HI_ADDR * 2 ^ 32) (hgo : F.MEM_RETIRE_CMD_GO.get v ≠ 0) :
    exec (.pageRetire v ok) s = match retireInst a with
    | none => .next (s.fset .MEM_RETIRE_STAT F.MEM_RETIRE_STAT_RESULT 3)
    | some ik => if s.mem.retired.contains (a / 65536) then .next (s.fset .MEM_RETIRE_STAT F.MEM_RETIRE_STAT_RESULT 1)
      else if 256 ≤ s.mem.retired.length then .next (s.fset .MEM_RETIRE_STAT F.MEM_RETIRE_STAT_RESULT 2)
      else .next (((s.pageGone ik (a / 65536)).logRec ⟨0x05, 0, 0, a / 65536 * 65536 % 2 ^ 32, a / 65536 * 65536 / 2 ^ 32, false⟩ ok).fset
        .MEM_RETIRE_STAT F.MEM_RETIRE_STAT_RESULT 1) := by
  change execPageRetire v ok s = _
  unfold execPageRetire
  simp only [if_neg hgo, ← ha]
  unfold retireInst
  cases rangeOf a <;> rfl

theorem retireInst_some {a : Nat} (h : ∃ n o, rangeOf a = .placed n o ∨ rangeOf a = .bonded n o) : ∃ ik, retireInst a = some ik := by
  obtain ⟨n, o, h | h⟩ := h
  · exact ⟨5 * 128 + n, by rw [retireInst, h]⟩
  · exact ⟨4 * 128 + n, by rw [retireInst, h]⟩

theorem retireInst_none {a : Nat} (h : ∀ n o, rangeOf a ≠ .placed n o ∧ rangeOf a ≠ .bonded n o) : retireInst a = none := by
  unfold retireInst
  cases hr : rangeOf a with
  | placed n o => exact absurd hr (h n o).1
  | bonded n o => exact absurd hr (h n o).2
  | interleaved | sbf | store | retrieval | register | outside => rfl

theorem pageRetire_retires {v : Word} {ok : Bool} {s : State} {ik a : Nat}
    (ha : a = (s.rget .MEM_RETIRE_LO).toNat + s.fget .MEM_RETIRE_HI F.MEM_RETIRE_HI_ADDR * 2 ^ 32) (hgo : F.MEM_RETIRE_CMD_GO.get v ≠ 0)
    (hik : retireInst a = some ik) (hnew : a / 65536 ∉ s.mem.retired) (hroom : s.mem.retired.length < 256) :
    ∃ u, exec (.pageRetire v ok) s = .next u ∧ u.mem.retired = s.mem.retired ++ [a / 65536] ∧ u.mem.data = s.mem.data ∧
      u.fget .MEM_RETIRE_STAT F.MEM_RETIRE_STAT_RESULT = 1 ∧
      (s.logRoom ok = true → ∃ x, u.log.recs = s.log.recs ++ [x] ∧ x.typ = 0x05) ∧
      RegsKept ([.MEM_RETIRE_STAT, .BUP_STAT] ++ signalRegs) s u := by
  have hexec := exec_pageRetire ok ha hgo
  rw [hik] at hexec
  dsimp only at hexec
  rw [if_neg (by simpa using hnew), if_neg (by omega)] at hexec
  have hgone : (s.pageGone ik (a / 65536)).mem.retired = s.mem.retired ++ [a / 65536] := rfl
  have hdata : (s.pageGone ik (a / 65536)).mem.data = s.mem.data := rfl
  have hlog : (s.pageGone ik (a / 65536)).log = s.log := rfl
  have hregs : RegsKept [.MEM_RETIRE_STAT] s (s.pageGone ik (a / 65536)) :=
    RegsKept.trans (t := s.withMem _) (fun _ _ => rfl) (RegsKept.fset _ _ (List.mem_singleton.mpr rfl))
  generalize s.pageGone ik (a / 65536) = g at *
  refine ⟨_, hexec, ?_, ?_, ?_, fun hr => ⟨_, (State.logRec_recs (s := g) _ (by rw [State.logRoom, hlog]; exact hr)).trans (by rw [hlog]), rfl⟩, ?_⟩
  · exact (congrArg MemUnit.retired (State.logRec_mem g _ ok)).trans hgone
  · exact (congrArg MemUnit.data (State.logRec_mem g _ ok)).trans hdata
  · exact State.fget_fset_same _ _ _ _ (by decide)
  · exact RegsKept.trans (t := g) (hregs.mono (by simp)) (RegsKept.trans (t := g.logRec _ ok)
      ((State.logRec_regs g _ ok).mono (by simp +contextual)) (RegsKept.fset _ _ (by simp)))

theorem pageRetire_completes (v : Word) (ok : Bool) (s : State) (a : Nat)
    (ha : a = (s.rget .MEM_RETIRE_LO).toNat + s.fget .MEM_RETIRE_HI F.MEM_RETIRE_HI_ADDR * 2 ^ 32) (hgo : F.MEM_RETIRE_CMD_GO.get v ≠ 0) :
    (∀ n o, (rangeOf a = .placed n o ∨ rangeOf a = .bonded n o) →
      (a / 65536 ∉ s.mem.retired → s.mem.retired.length < 256 → ∃ u, exec (.pageRetire v ok) s = .next u ∧
        u.mem.retired = s.mem.retired ++ [a / 65536] ∧ u.mem.data = s.mem.data ∧
        u.fget .MEM_RETIRE_STAT F.MEM_RETIRE_STAT_RESULT = 1 ∧
        (s.logRoom ok = true → ∃ x, u.log.recs = s.log.recs ++ [x] ∧ x.typ = 0x05) ∧
        RegsKept ([.MEM_RETIRE_STAT, .BUP_STAT] ++ signalRegs) s u) ∧
      (a / 65536 ∉ s.mem.retired → 256 ≤ s.mem.retired.length →
        exec (.pageRetire v ok) s = .next (s.fset .MEM_RETIRE_STAT F.MEM_RETIRE_STAT_RESULT 2)) ∧
      (a / 65536 ∈ s.mem.retired →
        exec (.pageRetire v ok) s = .next (s.fset .MEM_RETIRE_STAT F.MEM_RETIRE_STAT_RESULT 1))) ∧
    ((∀ n o, rangeOf a ≠ .placed n o ∧ rangeOf a ≠ .bonded n o) →
      exec (.pageRetire v ok) s = .next (s.fset .MEM_RETIRE_STAT F.MEM_RETIRE_STAT_RESULT 3)) := by
  have hexec := exec_pageRetire ok ha hgo
  refine ⟨fun n o hr => ?_, fun h => ?_⟩
  · obtain ⟨ik, hik⟩ := retireInst_some ⟨n, o, hr⟩
    refine ⟨fun hnew hroom => pageRetire_retires ha hgo hik hnew hroom, fun hnew hfull => ?_, fun hold => ?_⟩
    · rw [hexec, hik]
      exact (if_neg (by simpa using hnew)).trans (if_pos hfull)
    · rw [hexec, hik]
      exact if_pos (by simpa using hold)
  · rw [hexec, retireInst_none h]

/-- Settles O16, by what a record in the defect log leaves and what each repair does before it is logged. -/
theorem memoryRepairsComplete : Obligations.MemoryRepairsComplete := by
  refine ⟨stackFence_completes, fun v ok s ik e p hik _ he hgo hp => patchRelease_frees v ok s ik e p hik he hgo hp, fun v ok s h => ?_, macroFence_completes, macroFenceApply_completes, pageRetire_completes⟩
  change execPatchRelease v ok s = _
  unfold execPatchRelease
  extract_lets cls inst ik e
  rw [show (s.mem.insts.at ik).patch = [] from h]
  rfl

end Sys2Proof.Machine

namespace Sys2Proof.Machine

/-! PROOFS. Fault injection and scrubbing (O17; R210 to R212). -/

/-! ### What does not stand in the way of requests -/

namespace PathsKept
variable {s t : State}

theorem of_signals (h : Signals s t) : PathsKept s t :=
  of_eq (fun _ => h.rget (by simp [signalRegs])) (by rw [h.1]) (by rw [h.1]) (by rw [h.1])

theorem withMem (s : State) (m : MemUnit) : PathsKept s (s.withMem m) := of_eq (fun _ => rfl) rfl rfl rfl

theorem logRec (s : State) (r : LogRec) (ok : Bool) : PathsKept s (s.logRec r ok) := by
  have hlog : ∀ l, PathsKept s { s with log := l } := fun _ => of_eq (fun _ => rfl) rfl rfl rfl
  have hfull : ∀ l f, PathsKept s ((({ s with log := l } : State).bset .BUP_STAT f true).raise 9) := fun l f =>
    (hlog l).trans ((fset _ (r := .BUP_STAT) f _ (by simp)).trans (of_signals (Signals.raise _ 9)))
  unfold State.logRec
  exact ite (ite (hfull _ _) (hlog _)) (hfull _ _)

theorem settle (s : State) : PathsKept s s.settle := by
  unfold State.settle
  extract_lets s1 evts
  have hlog : PathsKept s s1 := foldl (fun t k => by
    dsimp only
    split
    · exact logRec _ _ _
    · exact refl t) _ s
  exact hlog.trans ((withMem s1 _).trans (of_signals (Signals.raises _ _)))

theorem stackCount (s : State) (rd : Bool) (a n : Nat) : PathsKept s (s.stackCount rd a n) := by
  unfold State.stackCount
  split
  · refine ite ?_ (refl s)
    cases rd
    · exact rset (r := .STK_WR_CNT _) s _ (by simp)
    · simp only [if_true]
      split
      · exact (rset (r := .STK_RD_CNT _) s _ (by simp)).trans (withMem _ _)
      · exact (rset (r := .STK_RD_CNT _) s _ (by simp)).trans (withMem _ _)
  · exact refl s

theorem readBlock {hub scrub : Bool} {a : Nat} {x : State × List Nat × List Bool × Word} (h : s.readBlock hub scrub a = some x) :
    PathsKept s x.1 := by
  unfold State.readBlock at h
  split at h
  · cases h
  · cases h
    exact withMem s _

end PathsKept

/-! ### A pass (R211) -/

/-- A block of a pass whose requests nothing holds is scrubbed. -/
theorem State.scrubBlock_ok {s : State} (hb : BundlesFree s) (hh : ∀ r k, s.heldBit .hub r k = false) (p : Scrub) (a : Nat) :
    ∃ t q, s.scrubBlock p a = .ok (t, q) ∧ PathsKept s t ∧ MemoryActs s t := by
  unfold State.scrubBlock
  split
  · exact ⟨s, p, rfl, PathsKept.refl s, MemoryActs.refl s⟩
  · next c _ =>
    obtain ⟨u, hu, hpaths⟩ := State.pass_ok hb (q := .hub) (k := p.ticket) rfl (fun r => hh r _) true a 256
    have hacts := MemoryActs.pass u hu
    rw [hu]
    simp only [Except.map]
    split
    · exact ⟨u, p, rfl, hpaths, hacts⟩
    · next s1 w ps m hread =>
      have hclear : MemoryActs u (u.withMem { u.mem with newCe := [], newUe := [], newPatches := [] }) := MemoryActs.withMem u fun w => w
      exact ⟨s1.settle, _, rfl, hpaths.trans ((PathsKept.withMem u _).trans ((PathsKept.stackCount _ _ _ _).trans
        ((PathsKept.readBlock hread).trans (PathsKept.settle s1)))), hacts.trans (hclear.trans ((MemoryActs.stackCount _ _ _ _).trans
          ((MemoryActs.readBlock hread).trans (MemoryActs.settle s1))))⟩

/-- A whole pass whose requests nothing holds goes through. -/
theorem State.scrubBlocks_ok {s : State} (hb : BundlesFree s) (hh : ∀ r k, s.heldBit .hub r k = false) (p : Scrub) (base : Nat) (l : List Nat) :
    ∃ t q, l.foldl (fun (x : Except Hold (State × Scrub)) i => x.bind fun x => x.1.scrubBlock x.2 (base + 256 * i)) (.ok (s, p)) = .ok (t, q) ∧
      MemoryActs s t := by
  suffices h : ∃ t q, l.foldl (fun (x : Except Hold (State × Scrub)) i => x.bind fun x => x.1.scrubBlock x.2 (base + 256 * i)) (.ok (s, p)) =
      .ok (t, q) ∧ PathsKept s t ∧ MemoryActs s t by
    obtain ⟨t, q, hfold, -, hacts⟩ := h
    exact ⟨t, q, hfold, hacts⟩
  refine List.foldlRecOn (motive := fun x : Except Hold (State × Scrub) => ∃ t q, x = .ok (t, q) ∧ PathsKept s t ∧ MemoryActs s t) _ _
    ⟨s, p, rfl, PathsKept.refl s, MemoryActs.refl s⟩ ?_
  rintro _ ⟨t, q, rfl, hpaths, hacts⟩ i _
  obtain ⟨u, q', hu, hpaths', hacts'⟩ := State.scrubBlock_ok (hpaths.bundlesFree hb) (fun r k => (hpaths.heldBit_eq .hub r k).trans (hh r k)) q
    (base + 256 * i)
  exact ⟨u, q', hu, hpaths.trans hpaths', hacts.trans hacts'⟩

/-! ### The end of a pass (R212) -/

/-- The pass is over. -/
def State.withoutScrub (s : State) : State := { s with scrub := none }

theorem MemoryActs.withoutScrub {s t : State} (h : MemoryActs s t) : MemoryActs s.withoutScrub t.withoutScrub :=
  ⟨(congrArg State.withoutScrub h.rest).trans rfl, h.regs, h.wf, h.log⟩

/-- The summary of a pass `p` written to the shared buffer, no injection armed meanwhile. -/
def State.summarised (s : State) (a arm : Nat) (bytes : List Byte) : State :=
  ((s.withoutScrub.fset .MEM_FLIP_CTL F.MEM_FLIP_CTL_ARM 0).hubWrite a bytes).fset .MEM_FLIP_CTL F.MEM_FLIP_CTL_ARM arm

theorem MemoryActs.summarised (s : State) (a arm : Nat) (bytes : List Byte) : MemoryActs s.withoutScrub (s.summarised a arm bytes) :=
  (MemoryActs.fset _ .MEM_FLIP_CTL _ _ (by simp [memoryRegs])).trans ((MemoryActs.hubWrite _ _ _).trans
    (MemoryActs.fset _ .MEM_FLIP_CTL _ _ (by simp [memoryRegs])))

/-- A pass shown as over, with source 420. -/
def State.scrubShown (s : State) (n : Nat) : State :=
  ((s.fset .MEM_SCRUB_STAT F.MEM_SCRUB_STAT_STATE 2).fset .MEM_SCRUB_STAT F.MEM_SCRUB_STAT_PROGRESS n).raise 420

theorem scrubDone_ends {s : State} {p : Scrub} (n : Nat) (hp : s.scrub = some p) (hb : BundlesFree s) (hh : ∀ r t, s.heldBit .hub r t = false) :
    ∃ t k, exec (.scrubDone n) s = .next (t.scrubShown k) ∧ MemoryActs s.withoutScrub t := by
  obtain ⟨t, q, hfold, hacts⟩ := State.scrubBlocks_ok hb hh p p.base
    (List.range ((if p.refused then 0 else if p.stop then min p.len (n / 256 * 256) else p.len) / 256))
  refine ⟨t.summarised (sbfAddr (s.fget .MEM_SCRUB_DST F.MEM_SCRUB_DST_OFFSET)) (s.fget .MEM_FLIP_CTL F.MEM_FLIP_CTL_ARM)
    (q.summary (if p.refused then 3 else if p.stop then 2 else 1)
      (if p.refused then 0 else if p.stop then min p.len (n / 256 * 256) else p.len)),
    (if p.refused then 0 else if p.stop then min p.len (n / 256 * 256) else p.len) / 65536, ?_,
    hacts.withoutScrub.trans (MemoryActs.summarised _ _ _ _)⟩
  change execScrubDone n s = _
  unfold execScrubDone
  simp only [hp, hfold]
  rfl

theorem scrubDone_completes (n : Nat) (s : State) (p : Scrub) :
    (s.scrub = none → exec (.scrubDone n) s = .next s) ∧
    (s.scrub = some p → BundlesFree s → (∀ r t, s.heldBit .hub r t = false) → ∃ u, exec (.scrubDone n) s = .next u ∧ u.scrub = none ∧
      u.fget .MEM_SCRUB_STAT F.MEM_SCRUB_STAT_STATE = 2 ∧ 1 ≤ (u.icu.src.at 420).count ∧
      (Memory.wf s.mem = true → Memory.wf u.mem = true) ∧ s.log.recs <+: u.log.recs ∧
      RegsKept (.MEM_SCRUB_STAT :: memoryRegs) s u ∧
      u = { s with
        regs := u.regs
        icu := u.icu
        mem := u.mem
        place := u.place
        log := u.log
        tkt := u.tkt
        cwy := u.cwy
        free := u.free
        fns := u.fns
        grp := { s.grp with entries := u.grp.entries }
        ldp := { s.ldp with released := u.ldp.released }
        outbox := u.outbox
        scrub := none }) := by
  refine ⟨fun h => ?_, fun hp hb hh => ?_⟩
  · change execScrubDone n s = _
    unfold execScrubDone
    rw [h]
  · obtain ⟨t, k, hexec, hacts⟩ := scrubDone_ends n hp hb hh
    have hsig := Signals.raise ((t.fset .MEM_SCRUB_STAT F.MEM_SCRUB_STAT_STATE 2).fset .MEM_SCRUB_STAT F.MEM_SCRUB_STAT_PROGRESS k) 420
    have hmem : (t.scrubShown k).mem = t.mem := hsig.mem
    have hlog : (t.scrubShown k).log = t.log := hsig.log
    refine ⟨_, hexec, ?_, ?_, State.raise_count_pos _ _, fun hw => ?_, ?_, ?_, ?_⟩
    · rw [State.scrubShown, hsig.scrub]
      change t.scrub = none
      rw [hacts.rest]
      rfl
    · rw [State.scrubShown, State.raise_fget _ _ (by simp [signalRegs]), State.fget_fset_field _ _ _ _ _ (by decide) (by decide),
        State.fget_fset_same _ _ _ _ (by decide)]
      rfl
    · rw [hmem]
      exact hacts.wf hw
    · rw [hlog]
      exact hacts.log
    · refine RegsKept.trans (t := s.withoutScrub) (fun _ _ => rfl) (RegsKept.trans (t := t) (hacts.regs.mono (by simp +contextual)) ?_)
      refine RegsKept.trans (t := t.fset .MEM_SCRUB_STAT F.MEM_SCRUB_STAT_STATE 2) (RegsKept.fset _ _ (by simp)) (RegsKept.trans
        (t := (t.fset .MEM_SCRUB_STAT F.MEM_SCRUB_STAT_STATE 2).fset .MEM_SCRUB_STAT F.MEM_SCRUB_STAT_PROGRESS k) (RegsKept.fset _ _ (by simp)) ?_)
      exact hsig.regsKept fun r hr => List.mem_cons_of_mem _ (by simp only [memoryRegs, List.mem_append]; tauto)
    · rw [State.scrubShown]
      generalize ((t.fset .MEM_SCRUB_STAT F.MEM_SCRUB_STAT_STATE 2).fset .MEM_SCRUB_STAT F.MEM_SCRUB_STAT_PROGRESS k).raise 420 = u at hsig
      rw [hsig.1]
      rw [hacts.rest]
      rfl

/-- Settles O17: a pass whose requests nothing holds goes through block by block, and its end shows it. -/
theorem injectionAndScrubbingComplete : Obligations.InjectionAndScrubbingComplete := by
  refine ⟨fun v s => ⟨_, rfl, ?_, OnlyRegs.fset _ _ (List.mem_singleton.mpr rfl)⟩, fun t s => ⟨fun h => if_pos h, fun h => ?_⟩,
    fun s p => ⟨fun h => ?_, fun h => ?_⟩, scrubDone_completes⟩
  · exact (State.fget_fset_same _ _ _ _ (by decide)).trans (Nat.mod_eq_of_lt (Fld.get_lt _ v))
  · refine ⟨_, _, if_neg (by simp [h]), rfl, rfl, rfl, rfl, rfl, ?_, ?_, ?_, rfl⟩
    · exact (State.fget_fset_field _ _ _ _ _ (by decide) (by decide)).trans (State.fget_fset_same _ _ _ _ (by decide))
    · exact State.fget_fset_same _ _ _ _ (by decide)
    · intro r hr
      have hne : r ≠ .MEM_SCRUB_STAT := fun h => hr (List.mem_singleton.mpr h)
      exact (State.rget_fset_other _ _ _ hne).trans (State.rget_fset_other _ _ _ hne)
  · change Host.Outcome.next ({ s with scrub := s.scrub.map fun p => { p with stop := true } } : State) = _
    rw [h]
    rfl
  · change Host.Outcome.next ({ s with scrub := s.scrub.map fun p => { p with stop := true } } : State) = _
    rw [h, Option.map_none, ← h]

end Sys2Proof.Machine

namespace Sys2Proof.Machine

/-! PROOFS. What the functions of a start leave as it is (O45, O50): the cause, the clocks and the push of BUP, the stage, level and path of
BUP_STAT, what the landing port answers, and every event counted.  One lemma for each function, of its own name in `Boots`. -/

/-- The registers that the units of a start do not write. -/
def startRegs : List Reg := [.BUP_RCV_STAT, .BUP_RCV_LEN, .BUP_CAUSE, .CLK_STAT]

/-- The fields of BUP_STAT that the units of a start do not write. -/
def startFields : List Fld := [F.BUP_STAT_STAGE, F.BUP_STAT_LEVEL, F.BUP_STAT_PATH, F.BUP_STAT_FLASH_BAD]

/-- What of the state the units of a start leave. -/
structure StartView where
  regs : List (Reg × Word)
  src : Tab SrcState
  resp : Resp
  answering : Bool
  faultN : Bool
  complete : Bool
  push : Option (List Byte)
  slot : List Byte

def State.startView (s : State) : StartView :=
  ⟨s.regs, s.icu.src, s.resp, s.ldp.push, s.faultN, s.bup.complete, s.bup.push, s.bup.slot⟩

/-- `b` keeps of `a` what a start leaves, and of BUP_STAT the fields `fs`. -/
structure StartView.Keeps (fs : List Fld) (a b : StartView) : Prop where
  regs : ∀ r ∈ startRegs, regGet b.regs r = regGet a.regs r
  fields : ∀ f ∈ fs, f.get (regGet b.regs .BUP_STAT) = f.get (regGet a.regs .BUP_STAT)
  alert : F.LDP_ALERT_RECOVERY.get (regGet a.regs .LDP_ALERT) = 1 → F.LDP_ALERT_RECOVERY.get (regGet b.regs .LDP_ALERT) = 1
  events : EventsKept a.src b.src
  resp : b.resp = a.resp
  answering : b.answering = a.answering
  faultN : b.faultN = a.faultN
  complete : b.complete = a.complete
  push : b.push = a.push
  slot : b.slot = a.slot

/-- `s` keeps of `s₀` what a start leaves. -/
def Boots (s₀ s : State) : Prop := s₀.startView.Keeps startFields s.startView

/-! ### The interrupt controller and the alert of recovery -/

/-- The bit RECOVERY of LDP_ALERT, once set, stays. -/
def RecoveryKept (s t : State) : Prop := F.LDP_ALERT_RECOVERY.get (s.rget .LDP_ALERT) = 1 → F.LDP_ALERT_RECOVERY.get (t.rget .LDP_ALERT) = 1

namespace RecoveryKept

theorem of_rget {s t : State} (h : t.rget .LDP_ALERT = s.rget .LDP_ALERT) : RecoveryKept s t := fun hs => h ▸ hs

theorem trans {s t u : State} (h : RecoveryKept s t) (g : RecoveryKept t u) : RecoveryKept s u := fun hs => g (h hs)

theorem foldl {α : Type} {f : State → α → State} (h : ∀ s a, RecoveryKept s (f s a)) (l : List α) (s : State) : RecoveryKept s (l.foldl f s) := by
  induction l generalizing s with
  | nil => exact id
  | cons a l ih => exact (h s a).trans (ih _)

theorem alertBit (s : State) {f : Fld} (hf : f ∈ [F.LDP_ALERT_RECOVERY, F.LDP_ALERT_IRQ]) : RecoveryKept s (s.alertBit f) := by
  intro hs
  unfold State.alertBit
  split
  · exact hs
  · show (s.bset .LDP_ALERT f true).fget .LDP_ALERT F.LDP_ALERT_RECOVERY = 1
    simp only [List.mem_cons, List.not_mem_nil, or_false] at hf
    rcases hf with rfl | rfl
    · exact State.fget_fset_same s .LDP_ALERT F.LDP_ALERT_RECOVERY 1 (by decide)
    · exact (State.fget_fset_field s .LDP_ALERT F.LDP_ALERT_IRQ F.LDP_ALERT_RECOVERY 1 (by decide) (by decide)).trans hs

theorem sendMsix (s : State) (t p : Nat) : RecoveryKept s (s.sendMsix t p) := by
  unfold State.sendMsix
  extract_lets r fn v f
  split_ifs
  · exact of_rget rfl
  · exact of_rget (State.rget_fset_other _ _ _ (by simp))
  · exact of_rget rfl
  · exact of_rget (State.rget_fset_other _ _ _ (by simp))

theorem deliver (s : State) (t p : Nat) : RecoveryKept s (s.deliver t p) := by
  unfold State.deliver
  split_ifs
  · exact alertBit s (by simp)
  · exact sendMsix s t p
  · unfold State.sendIrqFrame
    extract_lets r v
    split_ifs
    · exact of_rget rfl
    · exact of_rget rfl

theorem presentTo (s : State) (k t : Nat) : RecoveryKept s (s.presentTo k t) := by
  have hout (p : Nat) : RecoveryKept s ((s.tgtUpd t (fun g => { g with out := true })).deliver t p) :=
    deliver (s.tgtUpd t (fun g => { g with out := true })) t p
  unfold State.presentTo
  split
  · exact hout _
  · exact id

theorem present (s : State) (k : Nat) : RecoveryKept s (s.present k) := by
  refine foldl (fun s t => presentTo s k t) _ _

theorem count (s : State) (k : Nat) : RecoveryKept s (s.count k) := by
  unfold State.count
  dsimp only
  split
  · exact of_rget rfl
  · exact of_rget rfl

theorem raise (s : State) (k : Nat) : RecoveryKept s (s.raise k) := by
  have h := (count s k).trans (present _ k)
  unfold State.raise
  dsimp only
  split
  · exact h.trans ((count _ 0).trans (present _ 0))
  · exact h

end RecoveryKept

theorem State.raise_ldp_push (s : State) (k : Nat) : (s.raise k).ldp.push = s.ldp.push := by
  rw [(Signals.raise s k).1]

namespace Boots
variable {s₀ s : State}

theorem refl (s : State) : Boots s s :=
  ⟨fun _ _ => rfl, fun _ _ => rfl, id, EventsKept.refl _, rfl, rfl, rfl, rfl, rfl, rfl⟩

/-- A step that keeps what a start leaves may follow any other. -/
theorem trans {t : State} (h : Boots s₀ s) (g : Boots s t) : Boots s₀ t :=
  ⟨fun r hr => (g.regs r hr).trans (h.regs r hr), fun f hf => (g.fields f hf).trans (h.fields f hf), fun ha => g.alert (h.alert ha),
    h.events.trans g.events, g.resp.trans h.resp, g.answering.trans h.answering, g.faultN.trans h.faultN, g.complete.trans h.complete,
    g.push.trans h.push, g.slot.trans h.slot⟩

/-- A register that no start keeps may be written. -/
theorem rset {r : Reg} {v : Word} (h : Boots s₀ s) (hr : r ∉ [.BUP_STAT, .LDP_ALERT] ++ startRegs := by simp [startRegs]) :
    Boots s₀ (s.rset r v) := by
  simp only [List.mem_append, List.mem_cons, List.not_mem_nil, or_false, not_or] at hr
  obtain ⟨⟨hstat, halert⟩, hregs⟩ := hr
  have hother {q : Reg} (hq : q ≠ r) : regGet (regSet s.regs r v) q = regGet s.regs q := regGet_regSet_other _ _ hq
  refine h.trans ⟨fun q hq => hother (ne_of_mem_of_not_mem hq hregs), fun f _ => ?_, fun ha => ?_, EventsKept.refl _, rfl, rfl, rfl, rfl, rfl, rfl⟩
  · exact congrArg f.get (hother (Ne.symm hstat))
  · exact (congrArg F.LDP_ALERT_RECOVERY.get (hother (Ne.symm halert))).trans ha

theorem fset {r : Reg} {f : Fld} {v : Nat} (h : Boots s₀ s) (hr : r ∉ [.BUP_STAT, .LDP_ALERT] ++ startRegs := by simp [startRegs]) :
    Boots s₀ (s.fset r f v) := rset h hr

theorem bset {r : Reg} {f : Fld} {b : Bool} (h : Boots s₀ s) (hr : r ∉ [.BUP_STAT, .LDP_ALERT] ++ startRegs := by simp [startRegs]) :
    Boots s₀ (s.bset r f b) := rset h hr

/-- The fields of BUP_STAT that say what a start has found may be written. -/
theorem statBit {f : Fld} {b : Bool} (h : Boots s₀ s)
    (hf : f ∈ [F.BUP_STAT_LOG_FULL, F.BUP_STAT_LOG_FAIL, F.BUP_STAT_KEPT, F.BUP_STAT_LOG_DAMAGED] := by simp) :
    Boots s₀ (s.bset .BUP_STAT f b) := by
  refine h.trans ⟨fun q hq => ?_, fun g hg => ?_, fun ha => ?_, EventsKept.refl _, rfl, rfl, rfl, rfl, rfl, rfl⟩
  · exact regGet_regSet_other _ _ (ne_of_mem_of_not_mem hq (by simp [startRegs]))
  · have hapart : f.lo + f.len ≤ 32 ∧ (g.lo + g.len ≤ f.lo ∨ f.lo + f.len ≤ g.lo) := by
      simp only [startFields, List.mem_cons, List.not_mem_nil, or_false] at hf hg
      rcases hf with rfl | rfl | rfl | rfl <;> rcases hg with rfl | rfl | rfl | rfl <;> decide
    exact State.fget_fset_apart s _ hapart.1 (.inr hapart.2)
  · exact (congrArg F.LDP_ALERT_RECOVERY.get (regGet_regSet_other s.regs _ (by simp : Reg.LDP_ALERT ≠ .BUP_STAT))).trans ha

theorem raise {k : Nat} (h : Boots s₀ s) : Boots s₀ (s.raise k) := by
  have hreg {r : Reg} (hr : r ∉ signalRegs) : (s.raise k).rget r = s.rget r := (Signals.raise s k).rget hr
  refine h.trans ⟨fun q hq => hreg ?_, fun g hg => congrArg g.get (hreg (by simp [signalRegs])), RecoveryKept.raise s k, EventsKept.raise s k,
    State.raise_resp _ _, ?_, State.raise_faultN _ _, ?_, ?_, ?_⟩
  · exact fun hmem => absurd hq (by simp only [signalRegs, List.mem_cons, List.not_mem_nil, or_false] at hmem; rcases hmem with rfl | rfl | rfl <;> simp [startRegs])
  · exact State.raise_ldp_push s k
  · exact congrArg (·.complete) (State.raise_bup s k)
  · exact congrArg (·.push) (State.raise_bup s k)
  · exact congrArg (·.slot) (State.raise_bup s k)

theorem throttle {r : Nat} (h : Boots s₀ s) : Boots s₀ (s.throttle r) := h

theorem logRec {r ok} (h : Boots s₀ s) : Boots s₀ (s.logRec r ok) := by
  unfold State.logRec
  dsimp only
  split_ifs
  · exact raise (statBit h)
  · exact h
  · exact raise (statBit h)

theorem ite {p : Prop} [Decidable p] {a b : State} (ha : Boots s₀ a) (hb : Boots s₀ b) :
    Boots s₀ (if p then a else b) := by
  split
  · exact ha
  · exact hb
theorem iteOver {β : Type} {g : β → State} {p : Prop} [Decidable p] {a b : β} (ha : Boots s₀ (g a)) (hb : Boots s₀ (g b)) :
    Boots s₀ (g (if p then a else b)) := by
  split
  · exact ha
  · exact hb
theorem foldOver {α β : Type} {g : β → State} {f : β → α → β} {x : β} {l : List α} (h : Boots s₀ (g x))
    (hf : ∀ {x : β} {a : α}, Boots s₀ (g x) → Boots s₀ (g (f x a))) : Boots s₀ (g (l.foldl f x)) :=
  List.foldlRecOn (motive := fun x => Boots s₀ (g x)) l f h fun _ hx _ _ => hf hx
theorem foldl {α : Type} {s : State} {f : State → α → State} {l : List α} (h : Boots s₀ s)
    (hf : ∀ {t : State} {a : α}, Boots s₀ t → Boots s₀ (f t a)) : Boots s₀ (l.foldl f s) := foldOver (g := id) h hf

theorem with_deadRows {deadRows} (h : Boots s₀ s) : Boots s₀ ({ s with deadRows } : State) := h

theorem ldpEvt {i} (h : Boots s₀ s) : Boots s₀ (s.ldpEvt i) := raise (fset h)
theorem bundleUpd {p f} (h : Boots s₀ s) : Boots s₀ (s.bundleUpd p f) := h
theorem dirUpd {p dir f} (h : Boots s₀ s) : Boots s₀ (s.dirUpd p dir f) := h
theorem tktUpd {r t f} (h : Boots s₀ s) : Boots s₀ (s.tktUpd r t f) := h
theorem putStep {r t avg step} (h : Boots s₀ s) : Boots s₀ (s.putStep r t avg step) := ite (throttle (tktUpd h)) (tktUpd h)
theorem avgReset {t} (h : Boots s₀ s) : Boots s₀ (s.avgReset t) := foldl h fun h => putStep h
theorem withMem {m : MemUnit} (h : Boots s₀ s) : Boots s₀ (s.withMem m) := h
theorem siteUpd {k f} (h : Boots s₀ s) : Boots s₀ (s.siteUpd k f) := h
theorem secEvt {i} (h : Boots s₀ s) : Boots s₀ (s.secEvt i) := raise (rset h)
theorem vfyFail {kind reason} (h : Boots s₀ s) : Boots s₀ (s.vfyFail kind reason) := secEvt (fset (fset (fset h)))
theorem licForce {l src} (h : Boots s₀ s) : Boots s₀ (s.licForce l src) := by
  have hgram : Boots s₀ (if (l.map licTier).getD 0 = 2 then s else s.fset .GEN_CTL F.GEN_CTL_GRAM_EN 0) := ite h (fset h)
  unfold State.licForce
  extract_lets t old s0 sec s1
  have hin : Boots s₀ s1 := rset (fset (fset (s := { s0 with sec := _ }) hgram))
  exact ite hin (secEvt hin)
theorem licBoot (h : Boots s₀ s) : Boots s₀ s.licBoot := licForce h
theorem bestEffort {t} (h : Boots s₀ s) : Boots s₀ (s.bestEffort t) := bset h
theorem putTickets {l} (h : Boots s₀ s) : Boots s₀ (s.putTickets l) :=
  foldl (rset h) fun h => avgReset (bestEffort (fset (rset (rset (rset h)))))
theorem setMap {d r w} (h : Boots s₀ s) : Boots s₀ (s.setMap d r w) := rset h (by simp [startRegs, mapReg])
theorem logMap {d r w cause ok} (h : Boots s₀ s) : Boots s₀ (s.logMap d r w cause ok) := logRec h
theorem markFenced {pos cause} (h : Boots s₀ s) : Boots s₀ (s.markFenced pos cause) := fset (f := ⟨pos, 1⟩) h
theorem fenceStack {n cause ok} (h : Boots s₀ s) : Boots s₀ (s.fenceStack n cause ok) := ite h (raise (logRec (markFenced (fset h))))
theorem macroShow {st} (h : Boots s₀ s) : Boots s₀ (s.macroShow st) := fset h
theorem settle (h : Boots s₀ s) : Boots s₀ s.settle := by
  unfold State.settle
  extract_lets s1 evts
  have h1 : Boots s₀ s1 := by
    refine foldl h fun h => ?_
    dsimp only
    split
    · exact logRec h
    · exact h
  exact foldl (s := s1.withMem _) h1 fun h => raise h

theorem macroApply {site mac cause ok} (h : Boots s₀ s) : Boots s₀ (s.macroApply site mac cause ok) :=
  macroShow (raise (logRec (s := (s.siteUpd _ _).withMem _) h))
theorem setPort {q st reason} (h : Boots s₀ s) : Boots s₀ (s.setPort q st reason) :=
  fset (fset h (by simp [startRegs, pstatReg])) (by simp [startRegs, pstatReg])
theorem cwyEvt {p f src} (h : Boots s₀ s) : Boots s₀ (s.cwyEvt p f src) := ite (bset h) (raise (bset h))
theorem refreshRoles {pos} (h : Boots s₀ s) : Boots s₀ (s.refreshRoles pos) := foldl h fun h => bset (bset (fset h))
theorem setBundle {p st} (h : Boots s₀ s) : Boots s₀ (s.setBundle p st) := refreshRoles (fset h)
theorem logLanes {p st clk cause ok} (h : Boots s₀ s) : Boots s₀ (s.logLanes p st clk cause ok) := foldl h fun h => logRec h
theorem setRepair {p m0 m1} (h : Boots s₀ s) : Boots s₀ (s.setRepair p m0 m1) :=
  rset (rset h (by simp [startRegs, repairReg])) (by simp [startRegs, repairReg])
theorem dropBundles {pos cause} (h : Boots s₀ s) : Boots s₀ (s.dropBundles pos cause) := foldl h fun h => ite h (bundleUpd (setBundle h))
theorem retrainBundle {p} (h : Boots s₀ s) : Boots s₀ (s.retrainBundle p) := ite h (bundleUpd (setBundle h))
theorem bootVerify {obj l} (h : Boots s₀ s) : Boots s₀ (s.bootVerify obj l).1 := by
  unfold State.bootVerify
  split
  · exact h
  · refine iteOver h (iteOver (vfyFail h) ?_)
    split
    · exact h
    · exact iteOver h h
theorem devset {v cold} (h : Boots s₀ s) : Boots s₀ (s.devset v cold) := fset (fset (ite (foldl h fun h => fset h) h))
theorem bootLicence {l} (h : Boots s₀ s) : Boots s₀ (s.bootLicence l) :=
  licBoot (fset (s := { s with sec := { s.sec with bootLic := l } }) h)
theorem bootApply {b cold} (h : Boots s₀ s) : Boots s₀ (s.bootApply b cold) := by
  unfold State.bootApply
  extract_lets c s1 s2 load sec bup s3
  have h2 : Boots s₀ s2 := devset (ite (bootLicence h) (bootLicence (vfyFail h)))
  exact fset (rset (putTickets (s := s3) h2))

theorem recoveryDefaults (h : Boots s₀ s) : Boots s₀ s.recoveryDefaults := putTickets (devset (bootLicence h))
theorem stamps {l ks} (h : Boots s₀ s) : Boots s₀ (s.stamps l ks) := foldl h fun h => ite (rset h) h
theorem feature {lvl final} (h : Boots s₀ s) : Boots s₀ (s.feature lvl final) := bset (bset (bset (fset h)))
theorem startFence {pos cause ok} (h : Boots s₀ s) : Boots s₀ (s.startFence pos cause ok) := by
  have hdrop : Boots s₀ (((s.markFenced pos cause).logRec ⟨0x09, cause, pos, 0, 0, false⟩ ok).dropBundles pos cause) :=
    dropBundles (logRec (markFenced h))
  exact ite h (ite (raise (fenceStack h)) (raise (ite hdrop hdrop)))
theorem bundleStart {v f warm p} (h : Boots s₀ s) : Boots s₀ (s.bundleStart v f warm p) := by
  unfold State.bundleStart
  refine ite h ?_
  extract_lets t known maps base retired
  have hretired {t : State} {clk : Nat} (ht : Boots s₀ t) : Boots s₀ (retired t clk) := raise (logLanes (cwyEvt (setBundle ht)))
  have hknown : Boots s₀ known := foldl h fun h => rset (dirUpd h) (by simp [startRegs, repairReg])
  have hbase : Boots s₀ base := by
    dsimp only [base]
    split
    · exact setRepair hknown
    · exact hknown
  clear_value retired base known maps t
  refine ite (bundleUpd (setBundle hbase)) (ite (ite (setBundle hbase) (setBundle hbase)) ?_)
  split
  · split
    · exact setBundle (setRepair hbase)
    · exact ite (setBundle hbase) (hretired hbase)
  · refine ite (hretired (bundleUpd hbase)) ?_
    extract_lets s1
    have h1 : Boots s₀ s1 := foldl (foldl hbase fun h => dirUpd h) fun h => dirUpd h
    clear_value s1
    split
    · have h2 {m0 m1 : List Nat} : Boots s₀ ((s1.setRepair p m0 m1).setBundle p 2) := setBundle (setRepair h1)
      exact ite h2 (logLanes h2)
    · exact ite (setBundle h1) (hretired h1)
theorem dieStart {v f warm pos} (h : Boots s₀ s) : Boots s₀ (s.dieStart v f warm pos) := by
  unfold State.dieStart
  refine ite h ?_
  dsimp only
  split
  · exact startFence h
  · exact ite (startFence (foldl h fun h => bundleStart h)) (foldl h fun h => bundleStart h)
theorem applyFences {v warm} (h : Boots s₀ s) : Boots s₀ (s.applyFences v warm) :=
  foldl (foldl h fun h => ite h (dropBundles (markFenced h))) fun h => ite h (markFenced (fset h))
theorem failWord {a ok} (h : Boots s₀ s) : Boots s₀ (s.failWord a ok).1 := by
  unfold State.failWord
  split
  · exact h
  · dsimp only
    refine iteOver h ?_
    split
    · exact logRec h
    · exact iteOver h (logRec (fset h))
theorem failWords {f ik} (h : Boots s₀ s) : Boots s₀ (s.failWords f ik).1 := foldOver (g := Prod.fst) h fun h => failWord h
theorem stackStart {f warm n} (h : Boots s₀ s) : Boots s₀ (s.stackStart f warm n) := by
  unfold State.stackStart
  refine ite h ?_
  dsimp only
  split
  · exact startFence (fset h)
  · exact ite (fset h) (ite (failWords (fset h)) (startFence (failWords (fset h))))
theorem setIlMode (h : Boots s₀ s) : Boots s₀ s.setIlMode := foldl h fun h => bset (fset (bset h))
theorem buildRow {v bad d r ok} (h : Boots s₀ s) : Boots s₀ (s.buildRow v bad d r ok) := by
  unfold State.buildRow
  dsimp only
  split
  · exact setMap (foldl h fun h => raise h)
  · exact setMap (logMap (foldl h fun h => raise h))
theorem macroFenced {site mac} (h : Boots s₀ s) : Boots s₀ (s.macroFenced site mac) := raise h
theorem macroStart {v f warm site} (h : Boots s₀ s) : Boots s₀ (s.macroStart v f warm site).1 := by
  unfold State.macroStart
  extract_lets known pend s1 s2 fails
  have h2 : Boots s₀ s2 := foldl (foldl (siteUpd h) fun h => macroFenced h) fun h => macroApply h
  exact iteOver h2 (foldl h2 fun h => ite h (raise (logRec (macroFenced h))))
theorem sitesStart {v f warm d} (h : Boots s₀ s) : Boots s₀ (s.sitesStart v f warm d) := by
  unfold State.sitesStart
  extract_lets rows _ s1 macs
  have hrows : Boots s₀ rows.1 := foldOver (g := Prod.fst) h fun h => iteOver h (iteOver (failWords h) (failWords h))
  have hmacs : Boots s₀ macs.1 := foldOver (g := Prod.fst) (with_deadRows hrows) fun h => macroStart h
  exact foldl hmacs fun h => buildRow h
theorem fromLog {v warm} (h : Boots s₀ s) : Boots s₀ (s.fromLog v warm) := by
  unfold State.fromLog
  extract_lets pages m m1 s1 res
  have h1 : Boots s₀ s1 := settle (withMem h)
  exact applyFences (statBit (fset (fset h1)))
theorem retrievalStart {v f warm} (h : Boots s₀ s) : Boots s₀ (s.retrievalStart v f warm) :=
  ite (fset (ite h (markFenced h))) (ite (fset (dieStart h)) (foldl (fset (dieStart h)) fun h => ite h (raise (logRec (fset h)))))
theorem linkStart {v f warm pos} (h : Boots s₀ s) : Boots s₀ (s.linkStart v f warm pos) :=
  ite (dieStart h) (foldl (dieStart h) fun h => setPort h)
theorem keptVerify {held} (h : Boots s₀ s) : Boots s₀ (s.keptVerify held) := by
  unfold State.keptVerify
  exact ite (statBit (withMem h)) (statBit (withMem h))
theorem endpoint (h : Boots s₀ s) : Boots s₀ s.endpoint := bset h
theorem dieWave {v f warm d} (h : Boots s₀ s) : Boots s₀ (s.dieWave v f warm d) := ite (dieStart h) (sitesStart (dieStart h))

end Boots

/-! ### Stages -/

/-- `s` keeps of `s₀` what a start leaves but the stage and the level. -/
def Proceeds (s₀ s : State) : Prop := s₀.startView.Keeps [F.BUP_STAT_PATH, F.BUP_STAT_FLASH_BAD] s.startView

namespace Proceeds
variable {s₀ s t : State}

theorem of_boots (h : Boots s₀ s) : Proceeds s₀ s :=
  { h with fields := fun f hf => h.fields f (by simp only [startFields, List.mem_cons, List.not_mem_nil, or_false] at hf ⊢; tauto) }

theorem trans (h : Proceeds s₀ s) (g : Proceeds s t) : Proceeds s₀ t :=
  ⟨fun r hr => (g.regs r hr).trans (h.regs r hr), fun f hf => (g.fields f hf).trans (h.fields f hf), fun ha => g.alert (h.alert ha),
    h.events.trans g.events, g.resp.trans h.resp, g.answering.trans h.answering, g.faultN.trans h.faultN, g.complete.trans h.complete,
    g.push.trans h.push, g.slot.trans h.slot⟩

theorem boots (h : Proceeds s₀ s) (g : Boots s t) : Proceeds s₀ t := h.trans (of_boots g)

/-- The stage and the level of BUP_STAT are written beside what a start leaves. -/
theorem stat {f : Fld} {v : Nat} (hf : f ∈ [F.BUP_STAT_STAGE, F.BUP_STAT_LEVEL]) : Proceeds s (s.fset .BUP_STAT f v) := by
  refine ⟨fun q hq => ?_, fun g hg => ?_, fun ha => ?_, EventsKept.refl _, rfl, rfl, rfl, rfl, rfl, rfl⟩
  · exact regGet_regSet_other _ _ (ne_of_mem_of_not_mem hq (by simp [startRegs]))
  · have hapart : f.lo + f.len ≤ 32 ∧ (g.lo + g.len ≤ f.lo ∨ f.lo + f.len ≤ g.lo) := by
      simp only [List.mem_cons, List.not_mem_nil, or_false] at hf hg
      rcases hf with rfl | rfl <;> rcases hg with rfl | rfl <;> decide
    exact State.fget_fset_apart s _ hapart.1 (.inr hapart.2)
  · exact (congrArg F.LDP_ALERT_RECOVERY.get (regGet_regSet_other s.regs _ (by simp : Reg.LDP_ALERT ≠ .BUP_STAT))).trans ha

theorem stage (s : State) (n : Nat) : Proceeds s (s.stage n) := stat (by simp)

theorem level (s : State) (n : Nat) : Proceeds s (s.fset .BUP_STAT F.BUP_STAT_LEVEL n) := stat (by simp)

theorem alertRecovery (s : State) : Proceeds s (s.alertBit F.LDP_ALERT_RECOVERY) := by
  have hsig := Signals.alertBit s F.LDP_ALERT_RECOVERY
  have hreg {r : Reg} (hr : r ∉ signalRegs) : (s.alertBit F.LDP_ALERT_RECOVERY).rget r = s.rget r := hsig.rget hr
  refine ⟨fun q hq => hreg ?_, fun g _ => congrArg g.get (hreg (by simp [signalRegs])), RecoveryKept.alertBit s (by simp), ?_, hsig.resp, ?_, hsig.faultN,
    congrArg (·.complete) hsig.bup, congrArg (·.push) hsig.bup, congrArg (·.slot) hsig.bup⟩
  · exact fun hmem => absurd hq (by simp only [signalRegs, List.mem_cons, List.not_mem_nil, or_false] at hmem; rcases hmem with rfl | rfl | rfl <;> simp [startRegs])
  · unfold State.alertBit
    split
    · exact EventsKept.refl _
    · exact EventsKept.refl _
  · show (s.alertBit F.LDP_ALERT_RECOVERY).ldp.push = s.ldp.push
    rw [hsig.1]

end Proceeds

theorem State.alertRecovery_set (s : State) : F.LDP_ALERT_RECOVERY.get ((s.alertBit F.LDP_ALERT_RECOVERY).rget .LDP_ALERT) = 1 := by
  unfold State.alertBit
  split
  · next h => exact of_decide_eq_true h
  · exact State.fget_fset_same s .LDP_ALERT F.LDP_ALERT_RECOVERY 1 (by decide)

theorem State.stage_stageNow (s : State) {n : Nat} (h : n < 16) : (s.stage n).stageNow = n := by
  rw [State.stageNow, State.stage, State.fget_fset_same _ _ _ _ (by decide)]
  exact Nat.mod_eq_of_lt h

theorem State.stageNow_level (s : State) (n : Nat) : (s.fset .BUP_STAT F.BUP_STAT_LEVEL n).stageNow = s.stageNow :=
  State.fget_fset_field s .BUP_STAT F.BUP_STAT_LEVEL F.BUP_STAT_STAGE n (by decide) (by decide)

theorem Boots.stageNow {s t : State} (h : Boots s t) : t.stageNow = s.stageNow := h.fields F.BUP_STAT_STAGE (by simp [startFields])

theorem Boots.level {s t : State} (h : Boots s t) : t.fget .BUP_STAT F.BUP_STAT_LEVEL = s.fget .BUP_STAT F.BUP_STAT_LEVEL :=
  h.fields F.BUP_STAT_LEVEL (by simp [startFields])

theorem Boots.recovering {s t : State} (h : Boots s t) (hs : F.LDP_ALERT_RECOVERY.get (s.rget .LDP_ALERT) = 1) :
    t.bget .LDP_ALERT F.LDP_ALERT_RECOVERY = true := decide_eq_true (h.alert hs)

/-- The rest of a start ends at stage 6 and service level 0. -/
theorem State.startRest_ends (s : State) (f : Found) (warm held : Bool) :
    Proceeds s (s.startRest f warm held) ∧ (s.startRest f warm held).stageNow = 6 ∧
      (s.startRest f warm held).fget .BUP_STAT F.BUP_STAT_LEVEL = 0 := by
  unfold State.startRest
  extract_lets v s1 s2 s3 s4 s5
  have h1 : Boots s s1 := Boots.setIlMode (Boots.foldl (Boots.refl s) fun h => Boots.stackStart h)
  have h2 : Boots s s2 := Boots.retrievalStart (Boots.endpoint (Boots.foldl h1 fun h => Boots.linkStart h))
  have h3 : Boots s s3 := Boots.ite (Boots.keptVerify h2) h2
  have h4 : Boots s s4 := Boots.stamps h3
  have h5 : Boots s s5 := Boots.ite (Boots.ldpEvt h4) h4
  refine ⟨((Proceeds.of_boots h5).trans (Proceeds.stage _ _)).trans (Proceeds.level _ _), ?_, ?_⟩
  · rw [State.stageNow_level, State.stage_stageNow _ (by decide)]
  · rw [State.fget_fset_same _ _ _ _ (by decide)]
    rfl

/-- The state in which recovery takes `d11` up. -/
def State.recoveryBegun (s : State) : State := (s.recoveryDefaults.stage 4).alertBit F.LDP_ALERT_RECOVERY

theorem State.recovery_boots (s : State) (f : Found) (warm : Bool) : Boots s.recoveryBegun (s.recovery f warm) := by
  unfold State.recovery
  extract_lets s1
  have h1 : s.recoveryBegun = s1 := rfl
  rw [h1]
  clear_value s1
  split
  · exact Boots.stamps (Boots.endpoint (Boots.linkStart (Boots.refl s1)))
  · exact Boots.stamps (Boots.refl s1)

theorem State.recoveryBegun_proceeds (s : State) : Proceeds s s.recoveryBegun :=
  ((Proceeds.of_boots (Boots.recoveryDefaults (Boots.refl s))).trans (Proceeds.stage _ 4)).trans (Proceeds.alertRecovery _)

theorem State.recoveryBegun_stage (s : State) : s.recoveryBegun.stageNow = 4 := by
  rw [State.recoveryBegun, State.stageNow,
    State.fget_of_rget ((Signals.alertBit _ _).rget (by simp [signalRegs] : Reg.BUP_STAT ∉ signalRegs))]
  exact State.stage_stageNow _ (by decide)

theorem State.recoveryBegun_alert (s : State) : F.LDP_ALERT_RECOVERY.get (s.recoveryBegun.rget .LDP_ALERT) = 1 := State.alertRecovery_set _

/-- Recovery ends at stage 4, with its bit of LDP_ALERT set. -/
theorem State.recovery_ends (s : State) (f : Found) (warm : Bool) :
    Proceeds s (s.recovery f warm) ∧ (s.recovery f warm).stageNow = 4 ∧ (s.recovery f warm).bget .LDP_ALERT F.LDP_ALERT_RECOVERY = true := by
  have hboots := s.recovery_boots f warm
  refine ⟨s.recoveryBegun_proceeds.boots hboots, hboots.stageNow.trans s.recoveryBegun_stage, ?_⟩
  exact hboots.recovering s.recoveryBegun_alert

end Sys2Proof.Machine

namespace Sys2Proof.Machine

/-! PROOFS. What the loss of a unit leaves as it is (O31, O43, O44, O45, O52): the power unit, the test access, bring-up but for what it
knows of dies, every fence, and every event counted.  One lemma for each function, of its own name in `Survives`. -/

/-- The registers that the loss of a unit does not write. -/
def lossRegs : List Reg :=
  [.PWR_STATE, .PWR_DIE_STAT, .PWR_EVT, .CLK_STAT, .CLK_EVT, .TST_STAT, .FLC_MOUNT]

/-- What of the state the loss of a unit leaves. -/
structure LossView where
  regs : List (Reg × Word)
  src : Tab SrcState
  resp : Resp
  faultN : Bool
  pwr : PowerUnit
  tap : TapUnit
  bup : BupUnit
  cwy : Tab BundleUnit
  doze : Tab Nat

def State.lossView (s : State) : LossView := ⟨s.regs, s.icu.src, s.resp, s.faultN, s.pwr, s.tap, s.bup, s.cwy, s.doze⟩

/-- The registers that say how a bundle runs. -/
def bundleReg : Reg → Bool
  | .CWY_STAT _ => true
  | .CWY_REPAIR _ _ => true
  | .CWY_EVT _ => true
  | _ => false

/-- `b` keeps of `a` what the loss of a unit leaves; where `k` says so, how the bundles run too. -/
structure LossView.Keeps (k : Bool) (a b : LossView) : Prop where
  regs : ∀ r ∈ lossRegs, regGet b.regs r = regGet a.regs r
  fields : ∀ f ∈ startFields, f.get (regGet b.regs .BUP_STAT) = f.get (regGet a.regs .BUP_STAT)
  fenced : ∀ pos, bitAt (F.BUP_FENCED_DIES.get (regGet a.regs .BUP_FENCED)) pos = true →
    bitAt (F.BUP_FENCED_DIES.get (regGet b.regs .BUP_FENCED)) pos = true
  counts : ∀ k, (a.src.at k).count ≤ (b.src.at k).count
  resp : b.resp = a.resp
  faultN : a.faultN = true → b.faultN = true
  pwr : b.pwr = a.pwr
  tap : b.tap = a.tap
  bup : { b.bup with dies := [] } = { a.bup with dies := [] }
  woken : ∀ d, a.doze.at d = 0 → b.doze.at d = 0
  bundles : k = true → (∀ r, bundleReg r = true → regGet b.regs r = regGet a.regs r) ∧
    ∀ q, (b.cwy.at q).failing = (a.cwy.at q).failing ∧ (b.cwy.at q).clkFail = (a.cwy.at q).clkFail

/-- `s` keeps of `s₀` what the loss of a unit leaves. -/
def Survives (k : Bool) (s₀ s : State) : Prop := s₀.lossView.Keeps k s.lossView

theorem Fld.put_above (w : Word) {pos : Nat} (v : Nat) (h : 32 ≤ pos) : Fld.put ⟨pos, 1⟩ w v = w := by
  have hw : w.toNat < 2 ^ pos := lt_of_lt_of_le w.isLt (Nat.pow_le_pow_right (by decide) h)
  have hpos : 2 ^ pos * (v % 2 ^ 1) = 2 ^ 32 * (2 ^ (pos - 32) * (v % 2 ^ 1)) := by
    rw [← Nat.mul_assoc, ← Nat.pow_add, Nat.add_sub_cancel' h]
  apply BitVec.eq_of_toNat_eq
  rw [Fld.put, BitVec.toNat_ofNat]
  dsimp only
  rw [Nat.mod_eq_of_lt hw, Nat.div_eq_of_lt (hw.trans (Nat.pow_lt_pow_right (by decide) (Nat.lt_succ_self _))),
    Nat.mul_zero, Nat.add_zero, hpos, Nat.add_mul_mod_self_left, Nat.mod_eq_of_lt w.isLt]

theorem State.dieFenced_lt {s : State} {pos : Nat} (h : s.dieFenced pos = true) : pos < 20 := by
  by_contra hpos
  have hlt : s.fget .BUP_FENCED F.BUP_FENCED_DIES < 2 ^ pos :=
    lt_of_lt_of_le (Fld.get_lt _ _) (Nat.pow_le_pow_right (by decide) (show F.BUP_FENCED_DIES.len ≤ pos from not_lt.mp hpos))
  simp [State.dieFenced, bitAt, Nat.div_eq_of_lt hlt] at h

/-- A fence stays where it stands. -/
theorem State.dieFenced_markFenced (s : State) (pos cause : Nat) {p : Nat} (h : s.dieFenced p = true) :
    (s.markFenced pos cause).dieFenced p = true := by
  have hp := State.dieFenced_lt h
  by_cases hsame : p = pos
  · exact hsame ▸ State.markFenced_fenced s cause hp
  · rw [State.dieFenced_eq _ hp, decide_eq_true_eq] at h ⊢
    by_cases hpos : pos < 32
    · exact (State.fget_fset_field s .BUP_FENCED ⟨pos, 1⟩ ⟨p, 1⟩ 1 (show pos + 1 ≤ 32 by omega) (show p + 1 ≤ pos ∨ pos + 1 ≤ p by omega)).trans h
    · show (s.rset .BUP_FENCED (Fld.put ⟨pos, 1⟩ (s.rget .BUP_FENCED) 1)).fget .BUP_FENCED ⟨p, 1⟩ = 1
      rw [State.fget, State.rget_rset_same, Fld.put_above _ _ (not_lt.mp hpos)]
      exact h

namespace Survives
variable {bk : Bool} {s₀ s : State}

theorem refl (s : State) : Survives bk s s :=
  ⟨fun _ _ => rfl, fun _ _ => rfl, fun _ => id, fun _ => le_rfl, rfl, id, rfl, rfl, rfl, fun _ => id, fun _ => ⟨fun _ _ => rfl, fun _ => ⟨rfl, rfl⟩⟩⟩

theorem trans {t : State} (h : Survives bk s₀ s) (g : Survives bk s t) : Survives bk s₀ t :=
  ⟨fun r hr => (g.regs r hr).trans (h.regs r hr), fun f hf => (g.fields f hf).trans (h.fields f hf), fun p hp => g.fenced p (h.fenced p hp),
    fun k => (h.counts k).trans (g.counts k), g.resp.trans h.resp, fun hf => g.faultN (h.faultN hf), g.pwr.trans h.pwr, g.tap.trans h.tap,
    g.bup.trans h.bup, fun d hd => g.woken d (h.woken d hd), fun hk => ⟨fun r hr => ((g.bundles hk).1 r hr).trans ((h.bundles hk).1 r hr), fun q =>
      ⟨((g.bundles hk).2 q).1.trans ((h.bundles hk).2 q).1, ((g.bundles hk).2 q).2.trans ((h.bundles hk).2 q).2⟩⟩⟩

theorem ite {p : Prop} [Decidable p] {a b : State} (ha : Survives bk s₀ a) (hb : Survives bk s₀ b) : Survives bk s₀ (if p then a else b) := by
  split
  · exact ha
  · exact hb

theorem foldOver {α β : Type} {g : β → State} {f : β → α → β} {x : β} {l : List α} (h : Survives bk s₀ (g x))
    (hf : ∀ {x : β} {a : α}, Survives bk s₀ (g x) → Survives bk s₀ (g (f x a))) : Survives bk s₀ (g (l.foldl f x)) :=
  List.foldlRecOn (motive := fun x => Survives bk s₀ (g x)) l f h fun _ hx _ _ => hf hx

theorem foldl {α : Type} {s : State} {f : State → α → State} {l : List α} (h : Survives bk s₀ s)
    (hf : ∀ {t : State} {a : α}, Survives bk s₀ t → Survives bk s₀ (f t a)) : Survives bk s₀ (l.foldl f s) := foldOver (g := id) h hf

/-! ### Registers, signals and the log -/

/-- A register that no loss keeps may be written; one of a bundle where the bundles are not to be kept. -/
theorem rsetIf {r : Reg} {v : Word} (h : Survives bk s₀ s) (hr : r ∉ [.BUP_STAT, .BUP_FENCED] ++ lossRegs) (hk : bk = true → bundleReg r = false) :
    Survives bk s₀ (s.rset r v) := by
  simp only [List.mem_append, List.mem_cons, List.not_mem_nil, or_false, not_or] at hr
  obtain ⟨⟨hstat, hfenced⟩, hregs⟩ := hr
  have hother {q : Reg} (hq : q ≠ r) : regGet (regSet s.regs r v) q = regGet s.regs q := regGet_regSet_other _ _ hq
  refine h.trans ⟨fun q hq => hother (ne_of_mem_of_not_mem hq hregs), fun f _ => ?_, fun p hp => ?_, fun _ => le_rfl, rfl, id, rfl, rfl, rfl, fun _ => id,
    fun hkept => ⟨fun q hq => hother ?_, fun _ => ⟨rfl, rfl⟩⟩⟩
  · exact congrArg f.get (hother (Ne.symm hstat))
  · exact (congrArg (fun w => bitAt (F.BUP_FENCED_DIES.get w) p) (hother (Ne.symm hfenced))).trans hp
  · rintro rfl
    exact absurd hq (by rw [hk hkept]; decide)

theorem rset {r : Reg} {v : Word} (h : Survives bk s₀ s)
    (hr : r ∉ [.BUP_STAT, .BUP_FENCED] ++ lossRegs ∧ bundleReg r = false := by simp [lossRegs, bundleReg]) : Survives bk s₀ (s.rset r v) :=
  rsetIf h hr.1 fun _ => hr.2

theorem fset {r : Reg} {f : Fld} {v : Nat} (h : Survives bk s₀ s)
    (hr : r ∉ [.BUP_STAT, .BUP_FENCED] ++ lossRegs ∧ bundleReg r = false := by simp [lossRegs, bundleReg]) : Survives bk s₀ (s.fset r f v) :=
  rset h hr

theorem bset {r : Reg} {f : Fld} {b : Bool} (h : Survives bk s₀ s)
    (hr : r ∉ [.BUP_STAT, .BUP_FENCED] ++ lossRegs ∧ bundleReg r = false := by simp [lossRegs, bundleReg]) : Survives bk s₀ (s.bset r f b) :=
  rset h hr

theorem cnt {r : Reg} {f : Fld} {n : Nat} (h : Survives bk s₀ s)
    (hr : r ∉ [.BUP_STAT, .BUP_FENCED] ++ lossRegs ∧ bundleReg r = false := by simp [lossRegs, bundleReg]) : Survives bk s₀ (s.cnt r f n) :=
  rset h hr

/-- The bundles of a state. -/
theorem bundleUpd {p : Nat} {f : BundleUnit → BundleUnit} (h : Survives bk s₀ s)
    (hf : ∀ b, (f b).failing = b.failing ∧ (f b).clkFail = b.clkFail) : Survives bk s₀ (s.bundleUpd p f) := by
  refine h.trans ⟨fun _ _ => rfl, fun _ _ => rfl, fun _ => id, fun _ => le_rfl, rfl, id, rfl, rfl, rfl, fun _ => id, fun _ => ⟨fun _ _ => rfl, fun q => ?_⟩⟩
  show (Tab.at (s.cwy.upd p f) q).failing = _ ∧ (Tab.at (s.cwy.upd p f) q).clkFail = _
  rw [Tab.at_upd]
  split
  · next hq => exact hq ▸ hf _
  · exact ⟨rfl, rfl⟩

theorem dirUpd {p dir : Nat} {f : DirUnit → DirUnit} (h : Survives bk s₀ s) : Survives bk s₀ (s.dirUpd p dir f) := bundleUpd h fun _ => ⟨rfl, rfl⟩

theorem statBit {f : Fld} {b : Bool} (h : Survives bk s₀ s)
    (hf : f ∈ [F.BUP_STAT_LOG_FULL, F.BUP_STAT_LOG_FAIL] := by simp) : Survives bk s₀ (s.bset .BUP_STAT f b) := by
  refine h.trans ⟨fun q hq => ?_, fun g hg => ?_, fun p hp => ?_, fun _ => le_rfl, rfl, id, rfl, rfl, rfl, fun _ => id,
    fun _ => ⟨fun q hq => regGet_regSet_other _ _ (by rintro rfl; cases hq), fun _ => ⟨rfl, rfl⟩⟩⟩
  · exact regGet_regSet_other _ _ (ne_of_mem_of_not_mem hq (by simp [lossRegs]))
  · have hapart : f.lo + f.len ≤ 32 ∧ (g.lo + g.len ≤ f.lo ∨ f.lo + f.len ≤ g.lo) := by
      simp only [startFields, List.mem_cons, List.not_mem_nil, or_false] at hf hg
      rcases hf with rfl | rfl <;> rcases hg with rfl | rfl | rfl | rfl <;> decide
    exact State.fget_fset_apart s _ hapart.1 (.inr hapart.2)
  · exact (congrArg (fun w => bitAt (F.BUP_FENCED_DIES.get w) p)
      (regGet_regSet_other s.regs _ (by simp : Reg.BUP_FENCED ≠ .BUP_STAT))).trans hp

/-- What is but a signal, or a change of the group, is none of a loss's. -/
theorem of_kept {t : State} (h : Survives bk s₀ s) {p : List Reg} (hregs : RegsKept p s t) (hp : ∀ r ∈ [.BUP_STAT, .BUP_FENCED] ++ lossRegs, r ∉ p)
    (hbundle : ∀ r ∈ p, bundleReg r = false) (hcwy : t.cwy = s.cwy)
    (hcounts : ∀ k, (s.icu.src.at k).count ≤ (t.icu.src.at k).count) (hresp : t.resp = s.resp) (hfault : t.faultN = s.faultN)
    (hpwr : t.pwr = s.pwr) (htap : t.tap = s.tap) (hbup : t.bup = s.bup) (hdoze : t.doze = s.doze) : Survives bk s₀ t := by
  have hsame {r : Reg} (hr : r ∈ [.BUP_STAT, .BUP_FENCED] ++ lossRegs) : t.rget r = s.rget r := hregs r (hp r hr)
  refine h.trans ⟨fun r hr => hsame (List.mem_append_right _ hr), fun f _ => congrArg f.get (hsame (by simp)), fun q hq => ?_, hcounts, hresp,
    fun hf => hfault.trans hf, hpwr, htap, congrArg (fun b : BupUnit => { b with dies := [] }) hbup,
    fun d hd => (congrArg (fun m => Tab.at m d) hdoze).trans hd,
    fun _ => ⟨fun r hr => hregs r fun hmem => absurd hr (by rw [hbundle r hmem]; decide), fun q => ?_⟩⟩
  · exact (congrArg (fun w => bitAt (F.BUP_FENCED_DIES.get w) q) (hsame (r := .BUP_FENCED) (by simp))).trans hq
  · show (t.cwy.at q).failing = (s.cwy.at q).failing ∧ (t.cwy.at q).clkFail = (s.cwy.at q).clkFail
    rw [hcwy]
    exact ⟨rfl, rfl⟩

theorem signals {t : State} (h : Survives bk s₀ s) (g : Signals s t) (hcounts : ∀ k, (s.icu.src.at k).count ≤ (t.icu.src.at k).count) :
    Survives bk s₀ t :=
  of_kept h g.2 (by decide) (by decide) g.cwy hcounts g.resp g.faultN g.pwr g.tap g.bup g.doze

theorem links {t : State} (h : Survives bk s₀ s) (g : LinkKeeps s t) : Survives bk s₀ t :=
  of_kept h g.regs (by decide) (by decide) (by rw [g.rest]) g.events.count (by rw [g.rest]) (by rw [g.rest]) (by rw [g.rest]) (by rw [g.rest]) (by rw [g.rest])
    (by rw [g.rest])

theorem raise {k : Nat} (h : Survives bk s₀ s) : Survives bk s₀ (s.raise k) := signals h (Signals.raise s k) (State.raise_mono s k)

theorem alertBit {f : Fld} (h : Survives bk s₀ s) : Survives bk s₀ (s.alertBit f) :=
  signals h (Signals.alertBit s f) fun k => (by unfold State.alertBit; split <;> exact le_rfl)

theorem setLine {k b} (h : Survives bk s₀ s) : Survives bk s₀ (s.setLine k b) := by
  refine signals h (Signals.setLine s k b) fun j => ?_
  have hset : (s.icu.src.at j).count ≤ ((s.srcUpd k (fun c => { c with line := b })).icu.src.at j).count := by
    rw [State.srcUpd, Tab.at_upd]
    split
    · next hj => exact hj ▸ le_rfl
    · exact le_rfl
  unfold State.setLine
  dsimp only
  split
  · exact hset.trans (State.raise_mono _ k j)
  · exact hset

theorem logRec {r ok} (h : Survives bk s₀ s) : Survives bk s₀ (s.logRec r ok) := by
  unfold State.logRec
  dsimp only
  split_ifs
  · exact raise (statBit h)
  · exact h
  · exact raise (statBit h)

theorem withMem {m : MemUnit} (h : Survives bk s₀ s) : Survives bk s₀ (s.withMem m) := h

theorem settle (h : Survives bk s₀ s) : Survives bk s₀ s.settle := by
  unfold State.settle
  extract_lets s1 evts
  have h1 : Survives bk s₀ s1 := by
    refine foldl h fun h => ?_
    dsimp only
    split
    · exact logRec h
    · exact h
  exact foldl (s := s1.withMem _) h1 fun h => raise h

/-! ### Writes to memory -/

theorem writeCell {c mask w pois} (h : Survives bk s₀ s) : Survives bk s₀ (s.writeCell c mask w pois).1 := by
  unfold State.writeCell
  extract_lets r m arm
  split
  · exact fset (withMem h)
  · exact withMem h

theorem manifestBad {a point} (h : Survives bk s₀ s) : Survives bk s₀ (s.manifestBad a point) := withMem (ite h h)

theorem writeBlock {c b lo hi bytes pois man} (h : Survives bk s₀ s) : Survives bk s₀ (s.writeBlock c b lo hi bytes pois man).1 := by
  unfold State.writeBlock
  extract_lets words pw put manifested
  have hput {s : State} (h : Survives bk s₀ s) : Survives bk s₀ (put s).1 := foldOver (g := Prod.fst) h fun h => by
    dsimp only
    split
    · exact h
    · exact writeCell h
  have hmerge : Survives bk s₀ (s.mergeRead c lo hi).1 := h
  split
  · dsimp only
    split
    · exact withMem (hput h)
    · exact hput h
  · split
    · exact hput h
    · split
      · exact manifestBad hmerge
      · exact withMem (hput hmerge)

theorem pageDemote {b} (h : Survives bk s₀ s) : Survives bk s₀ (s.pageDemote b) := by
  unfold State.pageDemote
  split
  · exact cnt (s := { s with place := _ }) h
  · exact h

theorem stackCount {rd a n} (h : Survives bk s₀ s) : Survives bk s₀ (s.stackCount rd a n) := by
  unfold State.stackCount
  split
  · dsimp only
    split_ifs
    · exact rset h
    · exact rset h
    · exact rset h
    · exact h
  · exact h

theorem writePart {hub a data pois mans dst b j} (h : Survives bk s₀ s) : Survives bk s₀ (s.writePart hub a data pois mans dst b j).1 := by
  unfold State.writePart
  split
  · exact h
  · exact writeBlock (stackCount h)

theorem writeAt {hub a data pois mans} (h : Survives bk s₀ s) : Survives bk s₀ (s.writeAt hub a data pois mans).st := by
  rw [State.writeAt_eq]
  refine foldOver (g := Write.st) (x := ⟨s, none, none⟩) h fun {w bj} h => ?_
  unfold writeStep
  split
  · exact h
  · dsimp only
    split
    · exact h
    · have hpart : Survives bk s₀ (w.st.writePart hub a data pois mans bj.1 bj.1 bj.2).1 := writePart h
      split
      · exact ite (pageDemote (writePart hpart)) (writePart hpart)
      · exact hpart

theorem hubLay {a data} (h : Survives bk s₀ s) : Survives bk s₀ (s.hubLay a data) := by
  unfold State.hubLay
  extract_lets w
  have hw : Survives bk s₀ w.st := writeAt h
  refine settle ?_
  split
  · exact withMem hw
  · exact hw

/-! ### Requests on their way -/

theorem flitsCross {p up down} (h : Survives bk s₀ s) : Survives bk s₀ (s.flitsCross p up down) := dirUpd (dirUpd (rset (rset h)))

theorem crossBy {q rd part near far u} (h : Survives bk s₀ s) (e : s.crossBy q rd part near far = .ok u) : Survives bk s₀ u := by
  unfold State.crossBy at e
  dsimp only at e
  split at e
  · cases e
  · cases e
  · cases e
    refine foldl ?_ fun h => flitsCross h
    cases near with
    | none => exact h
    | some p => exact flitsCross h

theorem bind {x : Except Hold State} {f : State → Except Hold State} {u : State} (hx : ∀ t, x = .ok t → Survives bk s₀ t)
    (hf : ∀ t u, Survives bk s₀ t → f t = .ok u → Survives bk s₀ u) (e : x.bind f = .ok u) : Survives bk s₀ u := by
  cases x with
  | error w => cases e
  | ok t => exact hf t u (hx t rfl) e

theorem eachUnit {a n u} {f : State → Nat → Bool → Except Hold State} (h : Survives bk s₀ s)
    (hf : ∀ t u b p, Survives bk s₀ t → f t b p = .ok u → Survives bk s₀ u) (e : s.eachUnit a n f = .ok u) : Survives bk s₀ u := by
  unfold State.eachUnit at e
  refine List.foldlRecOn (motive := fun x : Except Hold State => ∀ u, x = .ok u → Survives bk s₀ u) _ _ ?start (fun x hx b _ => ?unit) u e
  case start =>
    rintro _ ⟨⟩
    exact h
  case unit => exact fun u e => bind hx (fun t u ht e => hf t u _ _ ht e) e

theorem countRead {r t held time} (h : Survives bk s₀ s) : Survives bk s₀ (s.countRead r t held time) := by
  unfold State.countRead
  extract_lets interval hasTarget s1
  have h1 : Survives bk s₀ s1 := ite (cnt (s := s.tktUpd _ _ _) h) h
  exact ite h1 h1

theorem countAt {rd r t held} (h : Survives bk s₀ s) : Survives bk s₀ (s.countAt rd r t held) := by
  have htick : Survives bk s₀ (if r < 8 then s.tick.wrap (.STK_MISS_CNT (Fin.ofNat 8 r)) F.STK_MISS_CNT_MISSES ((Config.freeWord s.free).toNat % 2)
      else s.tick) := ite (rset (s := s.tick) h) h
  exact ite (countRead htick) htick

theorem letPass {q t rd b u} (h : Survives bk s₀ s) (e : s.letPass q t rd b = .ok u) : Survives bk s₀ u := by
  unfold State.letPass at e
  split at e
  · cases e
    exact h
  · split_ifs at e
    · split at e
      · cases e
      · cases e
        exact countAt h
    · cases e
      exact countAt h
    · cases e
      exact countAt h

theorem pass {q t rd a n u} (h : Survives bk s₀ s) (e : s.pass q t rd a n = .ok u) : Survives bk s₀ u :=
  eachUnit h (fun _ _ _ _ h e => bind (fun _ e => letPass h e) (fun _ _ h e => crossBy h e) e) e

theorem hubPass {rd a n} (h : Survives bk s₀ s) : Survives bk s₀ (s.hubPass rd a n) := by
  unfold State.hubPass
  split
  · next e => exact pass h e
  · exact h

theorem hubWrite {a data} (h : Survives bk s₀ s) : Survives bk s₀ (s.hubWrite a data) := hubLay (hubPass h)

/-! ### Spans, engines and queries -/

theorem ringWrite {t sp ev} (h : Survives bk s₀ s) : Survives bk s₀ (s.ringWrite t sp ev) := ite (setLine (s := { s with rings := _ }) h) h

theorem spanEvent {i ev} (h : Survives bk s₀ s) : Survives bk s₀ (s.spanEvent i ev) := ringWrite h

theorem setSpans {l x} (h : Survives bk s₀ s) : Survives bk s₀ (s.setSpans l x) := by
  unfold State.setSpans
  refine foldl h fun h => ?_
  dsimp only
  split
  · exact h
  · exact h
  · exact h
  · exact h

theorem dbDrop {n} (h : Survives bk s₀ s) : Survives bk s₀ (s.dbDrop n) := cnt h

theorem degradeCheck (h : Survives bk s₀ s) : Survives bk s₀ s.degradeCheck := links h (TableActs.degradeCheck s).toLinkKeeps

theorem groupSend {i cls payload} (h : Survives bk s₀ s) : Survives bk s₀ (s.groupSend i cls payload) := ite (foldl h fun h => h) h

theorem syncAbort {e} (h : Survives bk s₀ s) : Survives bk s₀ (s.syncAbort e) := foldl h fun h => ite h (foldl h fun h => groupSend h)

theorem kvReturn {k} (h : Survives bk s₀ s) : Survives bk s₀ (s.kvReturn k) := foldl (s := { s with gen := _ }) h fun h => hubWrite h

theorem slotEnd {k c} (h : Survives bk s₀ s) : Survives bk s₀ (s.slotEnd k c) := ite (kvReturn (fset (bset h))) h

theorem abortEngine {e} (h : Survives bk s₀ s) : Survives bk s₀ (s.abortEngine e) := by
  unfold State.abortEngine
  extract_lets u slots s1 s2 s3
  have h2 : Survives bk s₀ s2 := foldl (s := s1) h fun h => slotEnd h
  exact ite (syncAbort (dbDrop h2)) (dbDrop h2)

theorem abortLocal {i rec} (h : Survives bk s₀ s) : Survives bk s₀ (s.abortLocal i rec) := by
  unfold State.abortLocal
  extract_lets hit engs s1 s2
  have h2 : Survives bk s₀ s2 := setSpans (foldl h fun h => abortEngine h)
  exact ite h2 (spanEvent (s := s2.spanUpd _ _) h2)

theorem abortTask {i rec} (h : Survives bk s₀ s) : Survives bk s₀ (s.abortTask i rec) := foldl (abortLocal h) fun h => groupSend h

theorem ownFault {e rec} (h : Survives bk s₀ s) : Survives bk s₀ (s.ownFault e rec) := by
  unfold State.ownFault
  split
  · exact h
  · exact h

theorem putFault {e rec} (h : Survives bk s₀ s) : Survives bk s₀ (s.putFault e rec) := rset (rset (rset (rset h)))

theorem throttle {r} (h : Survives bk s₀ s) : Survives bk s₀ (s.throttle r) := h

theorem queueLevel {r reached} (h : Survives bk s₀ s) : Survives bk s₀ (s.queueLevel r reached) := by
  unfold State.queueLevel
  extract_lets k level b b' s1 q q' s2
  have h2 : Survives bk s₀ s2 := ite (fset (fset (s := s1) h)) (ite (fset (fset (s := s1) h)) h)
  exact ite h2 (throttle (s := s2.resourceSays _ _ _ _) h2)

theorem flashForget {w} (h : Survives bk s₀ s) : Survives bk s₀ (s.flashForget w) := by
  unfold State.flashForget
  extract_lets mine hit
  exact foldl (s := s.flashUpd _) h fun h => queueLevel h

theorem queryFailNow {k code zi off} (h : Survives bk s₀ s) : Survives bk s₀ (s.queryFailNow k code zi off) := by
  unfold State.queryFailNow
  split
  · exact ite h (flashForget h)
  · exact h

theorem haltWork {l} (h : Survives bk s₀ s) : Survives bk s₀ (s.haltWork l) :=
  foldl (foldl (foldl h fun h => abortEngine h) fun h => queryFailNow h) fun {t p} h =>
    foldl (s := t.pipeUpd p (fun u => { u with waiting := [] })) h fun h => h

theorem stopAll (h : Survives bk s₀ s) : Survives bk s₀ s.stopAll.1 :=
  foldl (setSpans (haltWork h)) fun {t j} h => spanEvent (s := t.spanUpd j (fun e => { e with fault := 0 })) h

theorem rtvDieLost (h : Survives bk s₀ s) : Survives bk s₀ s.rtvDieLost := degradeCheck (foldl h fun h => queryFailNow h)

/-! ### Mode changes -/

theorem modeShow {phase cause change} (h : Survives bk s₀ s) : Survives bk s₀ (s.modeShow phase cause change) := fset (fset (fset h))

theorem commitShow {c st} (h : Survives bk s₀ s) : Survives bk s₀ (s.commitShow c st) := ite (fset h) h

theorem modeSend {c cls w0 w1} (h : Survives bk s₀ s) : Survives bk s₀ (s.modeSend c cls w0 w1) :=
  foldl (s := s.chainSend _ _) h fun h => h

theorem modeAnswer {c phase result} (h : Survives bk s₀ s) : Survives bk s₀ (s.modeAnswer c phase result) := by
  unfold State.modeAnswer
  split
  · exact h
  · exact h

theorem unstage (h : Survives bk s₀ s) : Survives bk s₀ s.unstage := h

theorem modeAbort {k} (h : Survives bk s₀ s) : Survives bk s₀ (s.modeAbort k) := by
  unfold State.modeAbort
  split
  · exact ite (raise (unstage (commitShow (modeShow (modeAnswer (modeSend (s := { s with mode := _ }) h)))))) h
  · exact h

theorem modeFinish (h : Survives bk s₀ s) : Survives bk s₀ s.modeFinish := by
  unfold State.modeFinish
  split
  · exact ite (commitShow (modeShow (modeAnswer (s := { s with mode := _ }) h))) h
  · exact h

theorem modeAbsent {u} (h : Survives bk s₀ s) : Survives bk s₀ (s.modeAbsent u) := by
  unfold State.modeAbsent
  split
  · exact ite h (ite (modeAbort h) (ite (modeFinish (s := { s with mode := _ }) h) h))
  · exact h

theorem engineLost {e} (h : Survives bk s₀ s) : Survives bk s₀ (s.engineLost e) := by
  unfold State.engineLost
  dsimp only
  refine modeAbsent (abortEngine ?_)
  split
  · exact ownFault (abortTask (putFault h))
  · exact syncAbort (putFault h)

/-! ### Images and licences -/

theorem secEvt {i} (h : Survives bk s₀ s) : Survives bk s₀ (s.secEvt i) := raise (rset h)

theorem licForce {l src} (h : Survives bk s₀ s) : Survives bk s₀ (s.licForce l src) := by
  have hgram : Survives bk s₀ (if (l.map licTier).getD 0 = 2 then s else s.fset .GEN_CTL F.GEN_CTL_GRAM_EN 0) := ite h (fset h)
  unfold State.licForce
  extract_lets t old s0 sec s1
  have hin : Survives bk s₀ s1 := rset (fset (fset (s := { s0 with sec := _ }) hgram))
  exact ite hin (secEvt hin)

theorem licBoot (h : Survives bk s₀ s) : Survives bk s₀ s.licBoot := licForce h

theorem release {l} (h : Survives bk s₀ s) : Survives bk s₀ (s.release l) := by
  unfold State.release
  extract_lets engs s1 gone s2
  have h1 : Survives bk s₀ s1 := setSpans h
  exact foldl (s := State.placeTrim _) h1 fun h => h

theorem noImage (h : Survives bk s₀ s) : Survives bk s₀ s.noImage := by
  unfold State.noImage
  extract_lets image gen s1 s2
  have h2 : Survives bk s₀ s2 := fset (rset (rset (s := s1) h))
  exact licBoot (foldl h2 fun h => rset h)

theorem putStep {r t avg step} (h : Survives bk s₀ s) : Survives bk s₀ (s.putStep r t avg step) := ite (throttle (s := s.tktUpd _ _ _) h) h

theorem avgReset {t} (h : Survives bk s₀ s) : Survives bk s₀ (s.avgReset t) := foldl h fun h => putStep h

theorem bestEffort {t} (h : Survives bk s₀ s) : Survives bk s₀ (s.bestEffort t) := bset h

theorem putTickets {l} (h : Survives bk s₀ s) : Survives bk s₀ (s.putTickets l) :=
  foldl (rset h) fun h => avgReset (bestEffort (fset (rset (rset (rset h)))))

theorem loadEnd {st code rec_ span err} (h : Survives bk s₀ s) : Survives bk s₀ (s.loadEnd st code rec_ span err) := by
  unfold State.loadEnd
  extract_lets s1 s2 load
  have h1 : Survives bk s₀ s1 := fset (fset (fset (fset h)))
  have h2 : Survives bk s₀ s2 := ite h1 (fset h1)
  refine raise ?_
  exact h2

theorem placeFailed {ix err} (h : Survives bk s₀ s) : Survives bk s₀ (s.placeFailed ix err) := by
  unfold State.placeFailed
  extract_lets s1 s2 s3
  have h1 : Survives bk s₀ s1 := release h
  have h2 : Survives bk s₀ s2 := ite h1 (putTickets (noImage h1))
  exact loadEnd (foldl (s := s3) h2 fun h => ite (flashForget h) h)

/-! ### Bundles, ports and dies -/

theorem fsetBundle {r : Reg} {f : Fld} {v : Nat} (h : Survives false s₀ s) (hr : r ∉ [.BUP_STAT, .BUP_FENCED] ++ lossRegs := by simp [lossRegs]) :
    Survives false s₀ (s.fset r f v) := rsetIf h hr fun hno => absurd hno Bool.false_ne_true

theorem bsetBundle {r : Reg} {f : Fld} {b : Bool} (h : Survives false s₀ s) (hr : r ∉ [.BUP_STAT, .BUP_FENCED] ++ lossRegs := by simp [lossRegs]) :
    Survives false s₀ (s.bset r f b) := fsetBundle h hr

theorem refreshRoles {pos} (h : Survives false s₀ s) : Survives false s₀ (s.refreshRoles pos) :=
  foldl h fun h => bsetBundle (bsetBundle (fsetBundle h))

theorem setBundle {p st} (h : Survives false s₀ s) : Survives false s₀ (s.setBundle p st) := refreshRoles (fsetBundle h)

theorem dropBundles {pos cause} (h : Survives false s₀ s) : Survives false s₀ (s.dropBundles pos cause) :=
  foldl h fun h => ite h (bundleUpd (setBundle h) fun _ => ⟨rfl, rfl⟩)

theorem restoreBundles {pos} (h : Survives false s₀ s) : Survives false s₀ (s.restoreBundles pos) := by
  unfold State.restoreBundles
  refine foldl h fun h => ite h ?_
  split
  · exact setBundle h
  · exact setBundle h
  · exact h

theorem setPort {q st reason} (h : Survives bk s₀ s) : Survives bk s₀ (s.setPort q st reason) :=
  fset (fset h (by simp [lossRegs, bundleReg, pstatReg])) (by simp [lossRegs, bundleReg, pstatReg])

theorem portDown {q st reason downEvt} (h : Survives bk s₀ s) : Survives bk s₀ (s.portDown q st reason downEvt) := by
  unfold State.portDown
  extract_lets was s1 s2
  have h1 : Survives bk s₀ s1 := setPort h
  have h2 : Survives bk s₀ s2 := ite (links h1 (LinkKeeps.portLeavesRun _ _ _)) (ite (links h1 (LinkKeeps.resend _ _ _)) h1)
  exact ite (setLine (bset h2 (by simp [lossRegs, bundleReg, levtReg]))) h2

theorem markFenced {pos cause} (h : Survives bk s₀ s) : Survives bk s₀ (s.markFenced pos cause) := by
  have hreg {r : Reg} (hr : r ≠ .BUP_FENCED) : regGet (regSet s.regs .BUP_FENCED (Fld.put ⟨pos, 1⟩ (s.rget .BUP_FENCED) 1)) r = regGet s.regs r :=
    regGet_regSet_other _ _ hr
  refine h.trans ⟨fun r hr => hreg (ne_of_mem_of_not_mem hr (by simp [lossRegs])), fun f _ => congrArg f.get (hreg (by simp)),
    fun p hp => State.dieFenced_markFenced s pos cause hp, fun _ => le_rfl, rfl, id, rfl, rfl, rfl, fun _ => id,
    fun _ => ⟨fun r hr => hreg (by rintro rfl; cases hr), fun _ => ⟨rfl, rfl⟩⟩⟩

theorem fenceStack {n cause ok} (h : Survives bk s₀ s) : Survives bk s₀ (s.fenceStack n cause ok) := ite h (raise (logRec (markFenced (fset h))))

theorem captureOf {cause words} (h : Survives bk s₀ s) : Survives bk s₀ (s.captureOf cause words) := ite h (alertBit (s := { s with ldp := _ }) h)

theorem capture {cause span} (h : Survives bk s₀ s) : Survives bk s₀ (s.capture cause span) := captureOf h

theorem fillBonded {d} (h : Survives bk s₀ s) : Survives bk s₀ (s.fillBonded d) := withMem h

/-- A die that is no longer in Doze. -/
theorem wakes {d : Nat} (h : Survives bk s₀ s) : Survives bk s₀ { s with doze := s.doze.put d 0 } := by
  refine h.trans ⟨fun _ _ => rfl, fun _ _ => rfl, fun _ => id, fun _ => le_rfl, rfl, id, rfl, rfl, rfl, fun k hk => ?_,
    fun _ => ⟨fun _ _ => rfl, fun _ => ⟨rfl, rfl⟩⟩⟩
  show Tab.at (s.doze.put d 0) k = 0
  rw [Tab.at_put]
  split
  · rfl
  · exact hk

theorem dieEnds {pos cause} (h : Survives bk s₀ s) : Survives bk s₀ (s.dieEnds pos cause) := by
  have hports : Survives bk s₀ ((span (8 * (pos - 10)) 8).foldl (fun (s : State) q => if s.portWealey q then s.portDown q 0 0 true else s) s) :=
    foldl h fun h => ite (portDown h) h
  have hlost (d : Nat) : Survives bk s₀ ((span (12 * d) 12).foldl State.engineLost { s with doze := s.doze.put d 0 }) :=
    foldl (wakes h) fun h => engineLost h
  unfold State.dieEnds
  dsimp only
  split_ifs
  · exact fillBonded (hlost _)
  · exact hlost _
  · exact fset (rtvDieLost h)
  · exact raise (rset hports)
  · exact rset hports
  · exact hports

theorem fenceDie {pos cause ok} (h : Survives false s₀ s) (hpos : pos ≠ 0) : Survives false s₀ (s.fenceDie pos cause ok) := by
  unfold State.fenceDie
  dsimp only
  rw [if_neg hpos]
  exact ite (fenceStack h) (ite h (settle (degradeCheck (dieEnds (dropBundles (logRec (markFenced h)))))))

theorem bundleState (h : Survives true s₀ s) (p : Nat) : s.bundleState p = s₀.bundleState p :=
  congrArg F.CWY_STAT_STATE.get ((h.bundles rfl).1 (.CWY_STAT (bundleNo p)) rfl)

theorem counted (h : Survives bk s₀ s) {k n : Nat} (hn : n ≤ (s₀.icu.src.at k).count) : n ≤ (s.icu.src.at k).count := hn.trans (h.counts k)

theorem rget (h : Survives bk s₀ s) {r : Reg} (hr : r ∈ lossRegs) : s.rget r = s₀.rget r := h.regs r hr

theorem fget (h : Survives bk s₀ s) {r : Reg} (f : Fld) (hr : r ∈ lossRegs) : s.fget r f = s₀.fget r f := congrArg f.get (h.regs r hr)

theorem bget (h : Survives bk s₀ s) {r : Reg} (f : Fld) (hr : r ∈ lossRegs) : s.bget r f = s₀.bget r f := by
  rw [State.bget, State.bget, h.fget f hr]

end Survives

/-- The state that a device fault begins with. -/
def State.faultNoted (s : State) : State := { s with faultN := true, pwr := { s.pwr with refuse := true } }

/-- A device fault leaves what the loss of a unit leaves, with FAULT_N low and Standby refused. -/
theorem Survives.deviceFault {bk : Bool} (s : State) (cause : Nat) : Survives bk s.faultNoted (s.deviceFault cause) := by
  have hstop : Survives bk { s with faultN := true } ({ s with faultN := true } : State).stopAll.1 := Survives.stopAll (Survives.refl _)
  unfold State.deviceFault
  extract_lets r
  have hrefused : Survives bk s.faultNoted { r.1 with pwr := { r.1.pwr with refuse := true } } :=
    ⟨hstop.regs, hstop.fields, hstop.fenced, hstop.counts, hstop.resp, hstop.faultN,
      congrArg (fun p : PowerUnit => { p with refuse := true }) hstop.pwr, hstop.tap, hstop.bup, hstop.woken, hstop.bundles⟩
  exact Survives.settle (Survives.capture hrefused)

theorem State.deviceFault_faultN (s : State) (cause : Nat) : (s.deviceFault cause).faultN = true := (Survives.deviceFault (bk := true) s cause).faultN rfl

theorem State.deviceFault_refuse (s : State) (cause : Nat) : (s.deviceFault cause).pwr.refuse = true :=
  congrArg PowerUnit.refuse (Survives.deviceFault (bk := true) s cause).pwr

/-- Bundles that are retired stay as they are when their die is lost. -/
theorem State.dropBundles_retired {s : State} {pos : Nat} (cause : Nat) (h : ∀ p ∈ bundlesOf pos, s.bundleState p = 5) :
    s.dropBundles pos cause = s := by
  unfold State.dropBundles
  exact List.foldlRecOn (motive := fun t => t = s) _ _ rfl fun t ht p hp => by
    subst ht
    exact if_pos (h p hp)

/-- A die whose bundles are all retired is fenced with them as they are. -/
theorem Survives.fenceDie_retired {s : State} {pos : Nat} (cause : Nat) (ok : Bool) (hpos : pos ≠ 0)
    (h : ∀ p ∈ bundlesOf pos, s.bundleState p = 5) : Survives true s (s.fenceDie pos cause ok) := by
  have hlogged : Survives true s ((s.markFenced pos cause).logRec ⟨0x09, cause, pos, 0, 0, false⟩ ok) := Survives.logRec (Survives.markFenced (Survives.refl s))
  have hdrop := State.dropBundles_retired cause fun p hp => (hlogged.bundleState p).trans (h p hp)
  unfold State.fenceDie
  dsimp only
  rw [if_neg hpos, hdrop]
  exact Survives.ite (Survives.fenceStack (Survives.refl s)) (Survives.ite (Survives.refl s)
    (Survives.settle (Survives.degradeCheck (Survives.dieEnds hlogged))))

/-- A die other than the hub is fenced by its fence. -/
theorem State.fenceDie_fenced (s : State) {pos : Nat} (cause : Nat) (ok : Bool) (h : 1 ≤ pos) (hlast : pos < 20)
    (hstack : 12 ≤ pos → s.stackFenced (pos - 12) = false) : (s.fenceDie pos cause ok).dieFenced pos = true := by
  have hmark (t : State) (q : Nat) (hq : q < 20) : (t.markFenced q cause).dieFenced q = true := State.markFenced_fenced t cause hq
  unfold State.fenceDie
  dsimp only
  rw [if_neg (by omega)]
  split
  · next h12 =>
    rw [fenceStack_eq cause ok (hstack h12)]
    have hkept := Survives.raise (k := 385 + 2 * (pos - 12)) (Survives.logRec (r := ⟨0x07, cause, pos - 12, 0, 0, false⟩) (ok := ok)
      (Survives.refl (bk := true) (s.stackMarked (pos - 12) cause)))
    refine hkept.fenced pos ?_
    have hsum : 12 + (pos - 12) = pos := by omega
    have := hmark (s.fset (.STK_STAT (Fin.ofNat 8 (pos - 12))) F.STK_STAT_STATE 4) pos hlast
    rw [State.stackMarked, hsum]
    exact this
  · split
    · next hfenced => exact hfenced
    · have hkept := Survives.settle (Survives.degradeCheck (Survives.dieEnds (pos := pos) (cause := cause) (Survives.dropBundles
        (pos := pos) (cause := cause) (Survives.logRec (r := ⟨0x09, cause, pos, 0, 0, false⟩) (ok := ok) (Survives.refl (s.markFenced pos cause))))))
      exact hkept.fenced pos (hmark s pos hlast)

end Sys2Proof.Machine

namespace Sys2Proof.Machine

/-! PROOFS. Resets and starts (O45): what a reset leaves of its kind, how a cold and a warm start go, the waves of compute dies, and the
images that are pushed. -/

/-! ### How a start goes -/

theorem State.bget_bset_apart (s : State) {r q : Reg} {f g : Fld} (b : Bool) (hf : f.lo + f.len ≤ 32)
    (h : q ≠ r ∨ g.lo + g.len ≤ f.lo ∨ f.lo + f.len ≤ g.lo) : (s.bset r f b).bget q g = s.bget q g := by
  rw [State.bget, State.bset, State.fget_fset_apart _ _ hf h]
  rfl

theorem State.startClocks_ref (s : State) (ref pll : Bool) : (s.startClocks ref pll).bget .CLK_STAT F.CLK_STAT_REF_OK = ref := by
  rw [State.startClocks, State.bget_bset_apart _ _ (by decide) (.inr (by decide)), State.bget_bset_apart _ _ (by decide) (.inr (by decide)),
    State.bget_bset_same _ _ _ _ (by decide) (by decide)]

theorem State.startClocks_lock (s : State) (ref pll : Bool) : (s.startClocks ref pll).bget .CLK_STAT F.CLK_STAT_PLL_LOCK = pll :=
  State.bget_bset_same _ _ _ _ (by decide) (by decide)

theorem OnlyRegs.startClocks (s : State) (ref pll : Bool) : OnlyRegs [.CLK_STAT] s (s.startClocks ref pll) :=
  (OnlyRegs.trans (OnlyRegs.bset _ _ (by simp)) (OnlyRegs.bset _ _ (by simp))).trans (OnlyRegs.bset _ _ (by simp))

/-- The state in which a start has noted its clocks and its cause. -/
def State.startNoted (s : State) (down path : Nat) : State := { (s.startClocks true true).startCause down path with faultN := false }

theorem State.startNoted_cause (s : State) (down path : Nat) :
    (s.startNoted down path).rget .BUP_CAUSE = wordOf (s.bup.kind + s.bup.src * 16 + s.bup.shutdown * 256 + down * 4096) := by
  show (((s.startClocks true true).rset .BUP_CAUSE _).fset .BUP_STAT F.BUP_STAT_PATH path).rget .BUP_CAUSE = _
  rw [State.rget_fset_other _ _ _ (by simp), State.rget_rset_same]
  rfl

theorem State.startNoted_path (s : State) (down : Nat) {path : Nat} (h : path < 4) :
    (s.startNoted down path).fget .BUP_STAT F.BUP_STAT_PATH = path := by
  show (((s.startClocks true true).rset .BUP_CAUSE _).fset .BUP_STAT F.BUP_STAT_PATH path).fget .BUP_STAT F.BUP_STAT_PATH = _
  rw [State.fget_fset_same _ _ _ _ (by decide)]
  exact Nat.mod_eq_of_lt h

theorem State.startNoted_clocks (s : State) (down path : Nat) :
    (s.startNoted down path).bget .CLK_STAT F.CLK_STAT_REF_OK = true ∧ (s.startNoted down path).bget .CLK_STAT F.CLK_STAT_PLL_LOCK = true := by
  have hword : (s.startNoted down path).rget .CLK_STAT = (s.startClocks true true).rget .CLK_STAT := by
    show (((s.startClocks true true).rset .BUP_CAUSE _).fset .BUP_STAT F.BUP_STAT_PATH path).rget .CLK_STAT = _
    rw [State.rget_fset_other _ _ _ (by simp), State.rget_rset_other _ _ (by simp)]
  rw [State.bget_of_rget hword, State.bget_of_rget hword]
  exact ⟨State.startClocks_ref s true true, State.startClocks_lock s true true⟩

/-- The state in which a start has its cause: a cold one keeps the length of the log. -/
def State.startCaused (s : State) (warm : Bool) (down path : Nat) : State :=
  ((if warm then s else ({ s with bup := { s.bup with coldSeq := s.log.recs.length } } : State)).startClocks true true).startCause down path

theorem State.startCaused_view (s : State) (warm : Bool) (down path : Nat) :
    (s.startCaused warm down path).startView = ((s.startClocks true true).startCause down path).startView := by
  cases warm with
  | true => rfl
  | false => rfl

/-- The state in which a start has read the fuses and the log. -/
def State.startRead (s : State) (f : Found) (warm : Bool) (down path : Nat) : State :=
  ((s.startCaused warm down path).fromLog (s.logView f.flash warm) warm).bset .BUP_STAT F.BUP_STAT_LOG_FULL
    (f.flash && decide (131072 ≤ s.log.recs.length))

/-- The state in which a start reads its boot image. -/
def State.bootBegun (s : State) (f : Found) (warm : Bool) (down path : Nat) : State :=
  { (s.startRead f warm down path).feature 1 false with faultN := false }

/-- A start releases FAULT_N and keeps the rest. -/
theorem Boots.faultReleased {s t : State} (h : Boots s t) : Boots { s with faultN := false } { t with faultN := false } :=
  ⟨h.regs, h.fields, h.alert, h.events, h.resp, h.answering, rfl, h.complete, h.push, h.slot⟩

theorem Boots.of_view {s s' t : State} (h : Boots s t) (hview : s.startView = s'.startView) : Boots s' t := by
  unfold Boots at h ⊢
  rw [← hview]
  exact h

theorem State.startRead_boots (s : State) (f : Found) (warm : Bool) (down path : Nat) :
    Boots (s.startCaused warm down path) (s.startRead f warm down path) := Boots.statBit (Boots.fromLog (Boots.refl _))

theorem State.bootBegun_boots (s : State) (f : Found) (warm : Bool) (down path : Nat) :
    Boots (s.startNoted down path) (s.bootBegun f warm down path) := by
  have h := (Boots.feature (lvl := 1) (final := false) (s.startRead_boots f warm down path)).faultReleased
  exact h.of_view (congrArg (fun v : StartView => { v with faultN := false }) (s.startCaused_view warm down path))

theorem failWords_of_none {f : Found} (h : f.words = []) (s : State) (ik : Nat) : s.failWords f ik = (s, true) := by
  rw [State.failWords, h]
  rfl

/-- The words of the hub's memories: a warm start tests none, and none fails where the start finds no failing word. -/
theorem hubWords_of_none {f : Found} (h : f.words = []) (l : List Nat) (s : State) (ok : Bool) :
    l.foldl (fun (x : State × Bool) ik => let r := x.1.failWords f ik; (r.1, x.2 && r.2)) (s, ok) = (s, ok) := by
  induction l with
  | nil => rfl
  | cons ik l ih => simpa only [List.foldl_cons, failWords_of_none h, Bool.and_true] using ih

/-- A start whose hub passes its tests goes on from the hub to the boot image. -/
theorem State.startRun_hub (s : State) {f : Found} {warm : Bool} (held : Bool) (down path : Nat) (h : f.words = []) (hok : f.hubOk = true) :
    s.startRun f warm held down path = match (s.bootBegun f warm down path).bootRead f.flash with
      | none => (s.bootBegun f warm down path).recovery f warm
      | some l => match (s.bootBegun f warm down path).bootVerify 2 l with
        | (s3, .error _) => s3.recovery f warm
        | (s3, .ok b) => (s3.bootApply b (!warm)).startRest f warm held := by
  unfold State.startRun State.bootBegun State.startRead State.startCaused
  dsimp only
  rw [hubWords_of_none h]
  cases warm with
  | true => rfl
  | false =>
    rw [hok]
    rfl

theorem State.startRun_fault (s : State) {f : Found} (held : Bool) (down path : Nat) (h : f.words = []) (hok : f.hubOk = false) :
    s.startRun f false held down path = ((s.startRead f false down path).deviceFault 4).stage 11 := by
  unfold State.startRun State.startRead State.startCaused
  dsimp only
  rw [hubWords_of_none h, hok]
  rfl

/-- How a start ends: at service level 0, or in recovery. -/
def State.StartEnds (u : State) : Prop :=
  (u.stageNow = 6 ∧ u.fget .BUP_STAT F.BUP_STAT_LEVEL = 0) ∨ (u.stageNow = 4 ∧ u.bget .LDP_ALERT F.LDP_ALERT_RECOVERY = true)

theorem State.startRun_ends (s : State) {f : Found} {warm : Bool} (held : Bool) (down path : Nat) (h : f.words = []) (hok : f.hubOk = true) :
    Proceeds (s.startNoted down path) (s.startRun f warm held down path) ∧ (s.startRun f warm held down path).StartEnds ∧
      (f.flash = false → (s.startRun f warm held down path).stageNow = 4) := by
  have hhub := s.bootBegun_boots f warm down path
  have hrecovery {t : State} (ht : Boots (s.startNoted down path) t) : Proceeds (s.startNoted down path) (t.recovery f warm) ∧
      (t.recovery f warm).StartEnds ∧ (f.flash = false → (t.recovery f warm).stageNow = 4) := by
    obtain ⟨hgoes, hstage, halert⟩ := t.recovery_ends f warm
    exact ⟨(Proceeds.of_boots ht).trans hgoes, .inr ⟨hstage, halert⟩, fun _ => hstage⟩
  rw [s.startRun_hub held down path h hok]
  generalize s.bootBegun f warm down path = t at hhub
  cases hread : t.bootRead f.flash with
  | none => exact hrecovery hhub
  | some l =>
    dsimp only
    have hflash : f.flash ≠ false := by
      intro hno
      rw [State.bootRead, if_pos (.inr (.inr (by simp [hno])))] at hread
      cases hread
    have hverified : Boots (s.startNoted down path) (t.bootVerify 2 l).1 := Boots.bootVerify hhub
    rcases hboot : t.bootVerify 2 l with ⟨s3, e | b⟩
    · rw [hboot] at hverified
      exact hrecovery hverified
    · rw [hboot] at hverified
      have happly : Boots (s.startNoted down path) (s3.bootApply b (!warm)) := Boots.bootApply hverified
      obtain ⟨hgoes, hstage, hlevel⟩ := (s3.bootApply b (!warm)).startRest_ends f warm held
      exact ⟨(Proceeds.of_boots happly).trans hgoes, .inl ⟨hstage, hlevel⟩, fun hno => absurd hno hflash⟩

/-! ### Cold and warm starts -/

theorem State.startWaits (s : State) (ref : Bool) : ((s.startClocks ref false).stage 1).stageNow = 1 ∧
    ((s.startClocks ref false).stage 1).bget .CLK_STAT F.CLK_STAT_REF_OK = ref ∧
    OnlyRegs [.CLK_STAT, .BUP_STAT] s ((s.startClocks ref false).stage 1) := by
  refine ⟨State.stage_stageNow _ (by decide), ?_, ?_⟩
  · rw [State.stage, State.bget_of_rget (State.rget_fset_other _ _ _ (by simp)), State.startClocks_ref]
  · exact ((OnlyRegs.startClocks s ref false).mono (by simp)).trans (OnlyRegs.fset _ _ (by simp))

theorem State.sampleStraps_bup (s : State) (x : Option (Fin 4 × Fin 8 × Bool)) :
    (s.sampleStraps x).bup.kind = s.bup.kind ∧ (s.sampleStraps x).bup.src = s.bup.src ∧ (s.sampleStraps x).bup.shutdown = s.bup.shutdown ∧
      (s.sampleStraps x).log = s.log := by
  cases x with
  | none => exact ⟨rfl, rfl, rfl, rfl⟩
  | some x => exact ⟨rfl, rfl, rfl, rfl⟩

theorem State.StartEnds.stage_eq {u : State} (h : u.StartEnds) : u.stageNow = 6 ∨ u.stageNow = 4 := h.imp And.left And.left

theorem coldStart_completes (f : Found) (s : State) :
    ((s.mayStart = false ∨ s.pwr.off = true ∨ s.bup.warm = true) → exec (.coldStart f) s = .next s) ∧
    (s.mayStart = true → s.pwr.off = false → s.bup.warm = false →
      ((f.ref && f.cool) = false → ∃ u, exec (.coldStart f) s = .next u ∧ u.stageNow = 1 ∧
        u.bget .CLK_STAT F.CLK_STAT_REF_OK = f.ref ∧ OnlyRegs [.CLK_STAT, .BUP_STAT] s u) ∧
      (f.ref = true → f.cool = true → f.words = [] → f.hubOk = false → ∃ u, exec (.coldStart f) s = .next u ∧ u.stageNow = 11 ∧
        u.faultN = true ∧ u.pwr.refuse = true) ∧
      (f.ref = true → f.cool = true → f.words = [] → f.hubOk = true → ∃ u, exec (.coldStart f) s = .next u ∧ u.faultN = false ∧
        u.rget .BUP_CAUSE = wordOf (s.bup.kind + s.bup.src * 16 + s.bup.shutdown * 256) ∧ s.log.recs <+: u.log.recs ∧
        u.bup.complete = false ∧ u.bget .CLK_STAT F.CLK_STAT_REF_OK = true ∧ u.bget .CLK_STAT F.CLK_STAT_PLL_LOCK = true ∧
        ((u.stageNow = 6 ∧ u.fget .BUP_STAT F.BUP_STAT_LEVEL = 0) ∨ (u.stageNow = 4 ∧ u.bget .LDP_ALERT F.LDP_ALERT_RECOVERY = true)) ∧
        (f.flash = false → u.stageNow = 4))) := by
  refine ⟨fun h => ?idle, fun hmay hoff hwarm => ?_⟩
  case idle =>
    refine if_pos ?_
    rcases h with h | h | h <;> simp [h]
  have hgo : exec (.coldStart f) s = if !(f.ref && f.cool) then .next ((s.startClocks f.ref false).stage 1)
      else .next ((s.sampleStraps f.straps).startRun f false false 0 0) := if_neg (by simp [hmay, hoff, hwarm])
  have hrun (href : f.ref = true) (hcool : f.cool = true) :
      exec (.coldStart f) s = .next ((s.sampleStraps f.straps).startRun f false false 0 0) := by
    rw [hgo, if_neg (by simp [href, hcool])]
  obtain ⟨hkind, hsrc, hshut, hlog⟩ := s.sampleStraps_bup f.straps
  refine ⟨fun h => ⟨_, hgo.trans (if_pos (by simp [h])), s.startWaits f.ref⟩, fun href hcool hwords hok => ⟨_, hrun href hcool, ?_⟩,
    fun href hcool hwords hok => ⟨_, hrun href hcool, ?_⟩⟩
  · rw [State.startRun_fault _ _ _ _ hwords hok]
    exact ⟨State.stage_stageNow _ (by decide), State.deviceFault_faultN _ 4, State.deviceFault_refuse _ 4⟩
  · obtain ⟨hgoes, hends, hflash⟩ := (s.sampleStraps f.straps).startRun_ends (warm := false) false 0 0 hwords hok
    have hgrows := Keeps.log_grows (Keeps.startRun (f := f) (warm := false) (held := false) (down := 0) (path := 0)
      (Keeps.rfl (s.sampleStraps f.straps)))
    obtain ⟨href, hlock⟩ := (s.sampleStraps f.straps).startNoted_clocks 0 0
    have hcause := (s.sampleStraps f.straps).startNoted_cause 0 0
    rw [hkind, hsrc, hshut, Nat.zero_mul, Nat.add_zero] at hcause
    rw [hlog] at hgrows
    generalize (s.sampleStraps f.straps).startRun f false false 0 0 = u at *
    exact ⟨hgoes.faultN, (hgoes.regs .BUP_CAUSE (by simp [startRegs])).trans hcause, hgrows, hgoes.complete,
      (State.bget_of_rget (hgoes.regs .CLK_STAT (by simp [startRegs])) _).trans href,
      (State.bget_of_rget (hgoes.regs .CLK_STAT (by simp [startRegs])) _).trans hlock, hends, hflash⟩

/-- A warm request runs as a start from the boot image on: the warm path, or the cold start that it is downgraded to. -/
theorem warmStart_completes (f : Found) (kept : Bool) (s : State) :
    ((s.mayStart = false ∨ s.bup.warm = false) → exec (.warmStart f kept) s = .next s) ∧
    (s.mayStart = true → s.bup.warm = true → f.flash = false →
      (f.ref = false → ∃ u, exec (.warmStart f kept) s = .next u ∧ u.stageNow = 1 ∧ OnlyRegs [.CLK_STAT, .BUP_STAT] s u) ∧
      (f.ref = true → f.cool = true → f.words = [] → f.hubOk = true → ∃ u, exec (.warmStart f kept) s = .next u ∧ u.stageNow = 4 ∧
        u.fget .BUP_STAT F.BUP_STAT_PATH = (if s.downgrade false = 0 then 1 else 2) ∧
        u.rget .BUP_CAUSE = wordOf (s.bup.kind + s.bup.src * 16 + s.bup.shutdown * 256 + s.downgrade false * 4096) ∧
        s.log.recs <+: u.log.recs)) := by
  refine ⟨fun h => ?idle, fun hmay hwarm hflash => ?_⟩
  case idle =>
    refine if_pos ?_
    rcases h with h | h <;> simp [h]
  have hdown : s.downgrade (s.logView f.flash true).damaged = s.downgrade false := by rw [hflash]; rfl
  have hgo : exec (.warmStart f kept) s =
      if !(f.ref && (f.cool || s.downgrade false = 0)) then .next ((s.startClocks f.ref false).stage 1)
      else if s.downgrade false = 0 then .next (s.startRun f true kept 0 1)
      else .next (({ s with mem := default, keep := default, deadRows := [] } : State).startRun f false false (s.downgrade false) 2) := by
    rw [← hdown]
    exact if_neg (by simp [hmay, hwarm])
  have hends (t : State) (warm held : Bool) (down path : Nat) (hpath : path < 4) (hwords : f.words = []) (hok : f.hubOk = true) :
      (t.startRun f warm held down path).stageNow = 4 ∧ (t.startRun f warm held down path).fget .BUP_STAT F.BUP_STAT_PATH = path ∧
      (t.startRun f warm held down path).rget .BUP_CAUSE = wordOf (t.bup.kind + t.bup.src * 16 + t.bup.shutdown * 256 + down * 4096) ∧
      t.log.recs <+: (t.startRun f warm held down path).log.recs := by
    obtain ⟨hgoes, _, hstage⟩ := t.startRun_ends (warm := warm) held down path hwords hok
    have hgrows := Keeps.log_grows (Keeps.startRun (f := f) (warm := warm) (held := held) (down := down) (path := path) (Keeps.rfl t))
    have hcause := t.startNoted_cause down path
    have hnoted := t.startNoted_path down hpath
    generalize t.startRun f warm held down path = u at *
    exact ⟨hstage hflash, (hgoes.fields F.BUP_STAT_PATH (by simp)).trans hnoted, (hgoes.regs .BUP_CAUSE (by simp [startRegs])).trans hcause, hgrows⟩
  refine ⟨fun href => ⟨_, hgo.trans (if_pos (by simp [href])), (s.startWaits f.ref).1, (s.startWaits f.ref).2.2⟩, fun href hcool hwords hok => ?_⟩
  rw [if_neg (by simp [href, hcool])] at hgo
  by_cases hdown0 : s.downgrade false = 0
  · rw [if_pos hdown0] at hgo
    rw [if_pos hdown0, hdown0]
    exact ⟨_, hgo, hends s true kept 0 1 (by decide) hwords hok⟩
  · rw [if_neg hdown0] at hgo
    rw [if_neg hdown0]
    exact ⟨_, hgo, hends { s with mem := default, keep := default, deadRows := [] } false false (s.downgrade false) 2 (by decide) hwords hok⟩

/-! ### Waves -/

/-- The state in which the fourth wave ends a start. -/
def State.startEnded (s : State) : State := ({ s with bup := { s.bup with complete := true } }.feature s.lowestFeature true).stage 10

theorem State.startEnd_boots (s : State) : Boots s.startEnded s.startEnd :=
  Boots.ite (Boots.foldl (Boots.refl _) fun h => Boots.ite (Boots.retrainBundle h) h) (Boots.refl _)

theorem State.startEnded_stage (s : State) : s.startEnded.stageNow = 10 := State.stage_stageNow _ (by decide)

theorem State.startEnded_level (s : State) : s.startEnded.fget .BUP_STAT F.BUP_STAT_LEVEL = s.fget .BUP_STAT F.BUP_STAT_LEVEL := by
  have hfeature := (Boots.feature (lvl := s.lowestFeature) (final := true) (Boots.refl { s with bup := { s.bup with complete := true } })).level
  rw [State.startEnded, State.stage, State.fget_fset_field _ _ _ _ _ (by decide) (by decide), hfeature]
  rfl

theorem State.startEnded_complete (s : State) : s.startEnded.bup.complete = true := rfl

theorem State.level_set (s : State) {n : Nat} (h : n < 8) : (s.fset .BUP_STAT F.BUP_STAT_LEVEL n).fget .BUP_STAT F.BUP_STAT_LEVEL = n := by
  rw [State.fget_fset_same _ _ _ _ (by decide)]
  exact Nat.mod_eq_of_lt h

theorem State.level_stage (s : State) (n : Nat) : (s.stage n).fget .BUP_STAT F.BUP_STAT_LEVEL = s.fget .BUP_STAT F.BUP_STAT_LEVEL :=
  State.fget_fset_field s .BUP_STAT F.BUP_STAT_STAGE F.BUP_STAT_LEVEL n (by decide) (by decide)

theorem computeWave_completes (f : Found) (s : State) :
    ((s.stageNow < 6 ∨ 9 < s.stageNow) → exec (.computeWave f) s = .next s) ∧
    (6 ≤ s.stageNow → s.stageNow ≤ 9 → ∃ u, exec (.computeWave f) s = .next u ∧ u.stageNow = s.stageNow + 1 ∧
      u.fget .BUP_STAT F.BUP_STAT_LEVEL = s.stageNow - 5 ∧ 1 ≤ (u.icu.src.at 8).count ∧ (s.stageNow = 9 → u.bup.complete = true) ∧
      s.log.recs <+: u.log.recs ∧ u.fuses = s.fuses) := by
  refine ⟨fun h => if_pos h, fun h6 h9 => ?_⟩
  have hkept : Res.Kept Eq s (execComputeWave f s) := Keeps.exec_computeWave (Keeps.rfl s)
  suffices hwave : ∃ u, execComputeWave f s = .next u ∧ u.stageNow = s.stageNow + 1 ∧ u.fget .BUP_STAT F.BUP_STAT_LEVEL = s.stageNow - 5 ∧
      1 ≤ (u.icu.src.at 8).count ∧ (s.stageNow = 9 → u.bup.complete = true) by
    obtain ⟨u, hexec, hstage, hlevel, hcount, hcomplete⟩ := hwave
    rw [hexec] at hkept
    exact ⟨u, hexec, hstage, hlevel, hcount, hcomplete, Keeps.log_grows hkept, Keeps.fuses_eq hkept⟩
  unfold execComputeWave
  extract_lets st w warm v s1 s2
  rw [if_neg (show ¬(st < 6 ∨ 9 < st) from fun h => h.elim (fun h => absurd h6 (not_le.mpr h)) fun h => absurd h9 (not_le.mpr h))]
  have hlevel2 : s2.fget .BUP_STAT F.BUP_STAT_LEVEL = s.stageNow - 5 := by
    rw [(Boots.stamps (l := f.times) (ks := [w + 2]) (Boots.refl s1)).level, State.level_set _ (show w + 1 < 8 by omega)]
    show s.stageNow - 6 + 1 = _
    omega
  refine ⟨_, rfl, ?_⟩
  have hraise (t : State) : (t.raise 8).stageNow = t.stageNow ∧ (t.raise 8).fget .BUP_STAT F.BUP_STAT_LEVEL = t.fget .BUP_STAT F.BUP_STAT_LEVEL ∧
      1 ≤ ((t.raise 8).icu.src.at 8).count ∧ (t.raise 8).bup = t.bup :=
    ⟨State.raise_fget _ _ (by simp [signalRegs]) _, State.raise_fget _ _ (by simp [signalRegs]) _, State.raise_count_pos t 8, State.raise_bup t 8⟩
  obtain ⟨hstage, hlevel, hcount, hbup⟩ := hraise (if w = 3 then s2.startEnd else s2.stage (st + 1))
  rw [hstage, hlevel, hbup]
  refine ⟨?_, ?_, hcount, fun h => ?_⟩
  · split
    · next hw => rw [s2.startEnd_boots.stageNow, s2.startEnded_stage]; omega
    · exact State.stage_stageNow _ (by omega)
  · split
    · rw [s2.startEnd_boots.level, s2.startEnded_level, hlevel2]
    · rw [State.level_stage, hlevel2]
  · rw [if_pos (show w = 3 by omega)]
    exact s2.startEnd_boots.complete

/-! ### Pushed images -/

/-- The state in which a push has its result, before the landing port answers. -/
def State.pushEnded (s : State) (st code : Nat) : State :=
  ((s.fset .BUP_RCV_STAT F.BUP_RCV_STAT_STATE st).fset .BUP_RCV_STAT F.BUP_RCV_STAT_CODE code).raise 11

theorem State.pushReply_rget (s : State) (st code : Nat) {r : Reg} (hr : r ≠ .LDP_REQ) : (s.pushReply st code).rget r = s.rget r := by
  unfold State.pushReply
  split
  · exact State.rget_fset_other _ _ _ hr
  · rfl

theorem State.pushReply_bup (s : State) (st code : Nat) : (s.pushReply st code).bup = s.bup := by
  unfold State.pushReply
  split
  · rfl
  · rfl

theorem State.pushReply_icu (s : State) (st code : Nat) : (s.pushReply st code).icu = s.icu := by
  unfold State.pushReply
  split
  · rfl
  · rfl

theorem State.pushReply_answers (s : State) (st code : Nat) (h : s.ldp.push = true) :
    (s.pushReply st code).resp = .vendor 0 [byteOf st, byteOf code] ∧ (s.pushReply st code).ldp.push = false := by
  unfold State.pushReply
  rw [if_pos h]
  exact ⟨rfl, rfl⟩

theorem State.pushEnd_rget (s : State) (st code : Nat) {r : Reg} (hr : r ∉ [.LDP_REQ, .BUP_RCV_STAT] ++ signalRegs) :
    (s.pushEnd st code).rget r = s.rget r := by
  simp only [List.mem_append, List.mem_cons, List.not_mem_nil, or_false, not_or] at hr
  obtain ⟨⟨hreq, hstat⟩, hsig⟩ := hr
  show ((s.pushEnded st code).pushReply st code).rget r = _
  rw [State.pushReply_rget _ _ _ hreq, State.pushEnded, State.raise_rget _ _ hsig, State.rget_fset_other _ _ _ hstat,
    State.rget_fset_other _ _ _ hstat]

theorem State.pushEnd_bup (s : State) (st code : Nat) : (s.pushEnd st code).bup = s.bup := by
  show ((s.pushEnded st code).pushReply st code).bup = _
  rw [State.pushReply_bup, State.pushEnded, State.raise_bup]
  rfl

theorem State.pushEnd_stat (s : State) (st code : Nat) : (s.pushEnd st code).rget .BUP_RCV_STAT =
    ((s.fset .BUP_RCV_STAT F.BUP_RCV_STAT_STATE st).fset .BUP_RCV_STAT F.BUP_RCV_STAT_CODE code).rget .BUP_RCV_STAT := by
  show ((s.pushEnded st code).pushReply st code).rget .BUP_RCV_STAT = _
  rw [State.pushReply_rget _ _ _ (by simp), State.pushEnded, State.raise_rget _ _ (by simp [signalRegs])]

theorem State.pushEnd_state (s : State) {st : Nat} (code : Nat) (h : st < 8) : (s.pushEnd st code).rcvState = st := by
  rw [State.rcvState, State.fget_of_rget (s.pushEnd_stat st code), State.fget_fset_field _ _ _ _ _ (by decide) (by decide),
    State.fget_fset_same _ _ _ _ (by decide)]
  exact Nat.mod_eq_of_lt h

theorem State.pushEnd_code (s : State) (st : Nat) {code : Nat} (h : code < 256) :
    (s.pushEnd st code).fget .BUP_RCV_STAT F.BUP_RCV_STAT_CODE = code := by
  rw [State.fget_of_rget (s.pushEnd_stat st code), State.fget_fset_same _ _ _ _ (by decide)]
  exact Nat.mod_eq_of_lt h

theorem State.pushEnd_progFail (s : State) (st code : Nat) :
    (s.pushEnd st code).fget .BUP_RCV_STAT F.BUP_RCV_STAT_PROG_FAIL = s.fget .BUP_RCV_STAT F.BUP_RCV_STAT_PROG_FAIL := by
  rw [State.fget_of_rget (s.pushEnd_stat st code), State.fget_fset_field _ _ _ _ _ (by decide) (by decide),
    State.fget_fset_field _ _ _ _ _ (by decide) (by decide)]

theorem State.pushEnd_count (s : State) (st code : Nat) : 1 ≤ ((s.pushEnd st code).icu.src.at 11).count := by
  show 1 ≤ (((s.pushEnded st code).pushReply st code).icu.src.at 11).count
  rw [State.pushReply_icu]
  exact State.raise_count_pos _ 11

theorem State.pushEnd_answers (s : State) (st code : Nat) (h : s.ldp.push = true) :
    (s.pushEnd st code).resp = .vendor 0 [byteOf st, byteOf code] ∧ (s.pushEnd st code).ldp.push = false :=
  State.pushReply_answers _ _ _ ((State.raise_ldp_push _ _).trans h)

/-- An image that is accepted ends its push; in recovery the start goes on with it. -/
theorem State.pushAccept_proceeds (s : State) (b : Boot) (f : Found) : Proceeds (s.pushEnd 3 0) (s.pushAccept b f) := by
  unfold State.pushAccept
  extract_lets s1 warm
  split
  · exact (Proceeds.of_boots (Boots.bootApply (Boots.refl s1))).trans (State.startRest_ends _ f warm false).1
  · exact Proceeds.of_boots (Boots.refl _)

theorem State.pushAccept_state (s : State) (b : Boot) (f : Found) : (s.pushAccept b f).rcvState = 3 :=
  (State.fget_of_rget ((s.pushAccept_proceeds b f).regs .BUP_RCV_STAT (by simp [startRegs])) _).trans (s.pushEnd_state 0 (by decide))

theorem State.pushAccept_count (s : State) (b : Boot) (f : Found) : 1 ≤ ((s.pushAccept b f).icu.src.at 11).count :=
  (s.pushEnd_count 3 0).trans ((s.pushAccept_proceeds b f).events.count 11)

/-- The state in which a pushed image is programmed into the boot flash. -/
def State.pushProgrammed (s : State) (b : Boot) : State :=
  ({ s with bup := { s.bup with push := some b.bytes, slot := [] } } : State).fset .BUP_RCV_STAT F.BUP_RCV_STAT_STATE 2

theorem State.pushProgrammed_state (s : State) (b : Boot) : (s.pushProgrammed b).rcvState = 2 := by
  rw [State.rcvState, State.pushProgrammed, State.fget_fset_same _ _ _ _ (by decide)]
  rfl

/-- A push fails, is programmed, or is accepted. -/
theorem State.pushImage_ends (s : State) (len : Nat) (program : Bool) (f : Found) :
    (∃ c, s.pushImage len program f = (s.pushVerify len).1.pushEnd 4 c) ∨
    (∃ b, program = true ∧ s.pushImage len program f = (s.pushVerify len).1.pushProgrammed b) ∨
    (∃ b, program = false ∧ s.pushImage len program f = (s.pushVerify len).1.pushAccept b f) := by
  unfold State.pushImage
  rcases s.pushVerify len with ⟨s1, c | b⟩
  · exact .inl ⟨c, rfl⟩
  · cases program with
    | true => exact .inr (.inl ⟨b, rfl, rfl⟩)
    | false => exact .inr (.inr ⟨b, rfl, rfl⟩)

/-- The image that is verified is read from the shared buffer. -/
theorem State.pushVerify_state (s : State) (len : Nat) : ∃ t bytes, MemoryActs s t ∧ (s.pushVerify len).1 = (t.bootVerify 3 bytes).1 := by
  have hread := (MemoryActs.readAt s true 0 (sbfAddr 0) len).trans (MemoryActs.settle _)
  unfold State.pushVerify
  extract_lets r bytes
  refine ⟨r.st.settle, bytes, hread, ?_⟩
  rcases r.st.settle.bootVerify 3 bytes with ⟨t, e | b⟩
  · rfl
  · dsimp only
    split
    · rfl
    · rfl

theorem State.pushVerify_len (s : State) (len : Nat) : (s.pushVerify len).1.rget .BUP_RCV_LEN = s.rget .BUP_RCV_LEN := by
  obtain ⟨t, bytes, hacts, heq⟩ := s.pushVerify_state len
  rw [heq, ← hacts.regs .BUP_RCV_LEN (by decide)]
  exact (Boots.bootVerify (Boots.refl t)).regs .BUP_RCV_LEN (by simp [startRegs])

theorem State.pushVerify_push (s : State) (len : Nat) : (s.pushVerify len).1.ldp.push = s.ldp.push := by
  obtain ⟨t, bytes, hacts, heq⟩ := s.pushVerify_state len
  have hpush : t.ldp.push = s.ldp.push := by rw [hacts.rest]
  rw [heq, ← hpush]
  exact (Boots.bootVerify (Boots.refl t)).answering

theorem readAt_zero (s : State) (point a : Nat) : s.readAt true point a 0 = ⟨s, [], [], [], none, none, []⟩ := rfl

/-- A push of no bytes is malformed. -/
theorem State.pushVerify_zero (s : State) : s.pushVerify 0 = (s.settle, .error 0x0F) := by
  unfold State.pushVerify
  rw [readAt_zero]
  rfl

theorem imagePush_completes (v : Word) (f : Found) (s : State) :
    ((F.BUP_RCV_GO_GO.get v = 0 ∨ s.rcvState = 1 ∨ s.rcvState = 2) → exec (.imagePush v f) s = .next s) ∧
    (F.BUP_RCV_GO_GO.get v = 1 → s.rcvState ≠ 1 → s.rcvState ≠ 2 → ∃ u, exec (.imagePush v f) s = .next u ∧ u.fuses = s.fuses ∧
      ((u.rcvState = 4 ∧ 1 ≤ (u.icu.src.at 11).count) ∨ (F.BUP_RCV_GO_PROGRAM.get v = 1 ∧ u.rcvState = 2 ∧ u.bup.slot = []) ∨
       (F.BUP_RCV_GO_PROGRAM.get v = 0 ∧ u.rcvState = 3 ∧ 1 ≤ (u.icu.src.at 11).count)) ∧
      (s.rget .BUP_RCV_LEN = 0 → u.rcvState = 4 ∧ u.fget .BUP_RCV_STAT F.BUP_RCV_STAT_CODE = 0x0F)) := by
  refine ⟨fun h => if_pos h, fun hgo h1 h2 => ?_⟩
  have hexec : exec (.imagePush v f) s = .next (s.pushImage (s.rget .BUP_RCV_LEN).toNat (F.BUP_RCV_GO_PROGRAM.get v = 1) f) :=
    if_neg (by simp [hgo, h1, h2])
  have hfuses := Keeps.fuses_eq (Keeps.pushImage (len := (s.rget .BUP_RCV_LEN).toNat) (program := F.BUP_RCV_GO_PROGRAM.get v = 1) (f := f)
    (Keeps.rfl s))
  refine ⟨_, hexec, hfuses, ?_, fun hlen => ?_⟩
  · rcases s.pushImage_ends (s.rget .BUP_RCV_LEN).toNat (F.BUP_RCV_GO_PROGRAM.get v = 1) f with ⟨c, heq⟩ | ⟨b, hprog, heq⟩ | ⟨b, hprog, heq⟩
    · rw [heq]
      exact .inl ⟨State.pushEnd_state _ _ (by decide), State.pushEnd_count _ _ _⟩
    · rw [heq]
      exact .inr (.inl ⟨of_decide_eq_true hprog, State.pushProgrammed_state _ _, rfl⟩)
    · rw [heq]
      have hbit : F.BUP_RCV_GO_PROGRAM.get v < 2 := Fld.get_lt _ _
      have hno : F.BUP_RCV_GO_PROGRAM.get v ≠ 1 := of_decide_eq_false hprog
      exact .inr (.inr ⟨by omega, State.pushAccept_state _ _ _, State.pushAccept_count _ _ _⟩)
  · have hzero : s.pushImage (s.rget .BUP_RCV_LEN).toNat (F.BUP_RCV_GO_PROGRAM.get v = 1) f = s.settle.pushEnd 4 0x0F := by
      rw [hlen, State.pushImage, show (0 : Word).toNat = 0 from rfl, State.pushVerify_zero]
    rw [hzero]
    exact ⟨State.pushEnd_state _ _ (by decide), State.pushEnd_code _ _ (by decide)⟩

/-- The state in which the boot flash has taken a pushed image, or has not. -/
def State.slotWritten (s : State) (ok : Bool) (l : List Byte) : State :=
  let s1 : State := { s with bup := { s.bup with push := none, slot := if ok then l else [] } }
  (s1.bset .BUP_STAT F.BUP_STAT_FLASH_BAD (!ok)).fset .BUP_RCV_STAT F.BUP_RCV_STAT_PROG_FAIL
    (if ok then s1.fget .BUP_RCV_STAT F.BUP_RCV_STAT_PROG_FAIL else 1)

theorem State.slotWritten_bad (s : State) (ok : Bool) (l : List Byte) :
    F.BUP_STAT_FLASH_BAD.get ((s.slotWritten ok l).rget .BUP_STAT) = b2n (!ok) := by
  rw [State.slotWritten, State.rget_fset_other _ _ _ (by simp)]
  refine (State.fget_fset_same _ .BUP_STAT F.BUP_STAT_FLASH_BAD (b2n (!ok)) (by decide)).trans ?_
  cases ok with
  | true => rfl
  | false => rfl

theorem State.slotWritten_failed (s : State) (l : List Byte) :
    (s.slotWritten false l).fget .BUP_RCV_STAT F.BUP_RCV_STAT_PROG_FAIL = 1 :=
  State.fget_fset_same _ _ _ _ (by decide)

/-- What the end of a push programmed keeps of the boot flash's answer. -/
structure PushKept (s u : State) : Prop where
  push : u.bup.push = s.bup.push
  slot : u.bup.slot = s.bup.slot
  bad : F.BUP_STAT_FLASH_BAD.get (u.rget .BUP_STAT) = F.BUP_STAT_FLASH_BAD.get (s.rget .BUP_STAT)
  failed : u.fget .BUP_RCV_STAT F.BUP_RCV_STAT_PROG_FAIL = s.fget .BUP_RCV_STAT F.BUP_RCV_STAT_PROG_FAIL

theorem PushKept.trans {s t u : State} (h : PushKept s t) (g : PushKept t u) : PushKept s u :=
  ⟨g.push.trans h.push, g.slot.trans h.slot, g.bad.trans h.bad, g.failed.trans h.failed⟩

theorem PushKept.of_proceeds {s t : State} (h : Proceeds s t) : PushKept s t :=
  ⟨h.push, h.slot, h.fields F.BUP_STAT_FLASH_BAD (by simp), State.fget_of_rget (h.regs .BUP_RCV_STAT (by simp [startRegs])) _⟩

theorem PushKept.pushEnd (s : State) (st code : Nat) : PushKept s (s.pushEnd st code) := by
  refine ⟨?_, ?_, ?_, s.pushEnd_progFail st code⟩
  · rw [State.pushEnd_bup]
  · rw [State.pushEnd_bup]
  · rw [State.pushEnd_rget _ _ _ (by simp [signalRegs])]

theorem PushKept.pushAccept (s : State) (b : Boot) (f : Found) : PushKept s (s.pushAccept b f) :=
  (PushKept.pushEnd s 3 0).trans (.of_proceeds (s.pushAccept_proceeds b f))

/-- A pushed image that was programmed is accepted, or refused where it does not verify any more. -/
theorem imagePushProgram_ends (ok : Bool) (f : Found) (s : State) (l : List Byte) (h : s.bup.push = some l) :
    ∃ u, exec (.imagePushProgram ok f) s = .next u ∧ PushKept (s.slotWritten ok l) u ∧ (u.rcvState = 3 ∨ u.rcvState = 4) ∧
      1 ≤ (u.icu.src.at 11).count := by
  have hboot : Boots (s.slotWritten ok l) ((s.slotWritten ok l).bootVerify 3 l).1 := Boots.bootVerify (Boots.refl _)
  have hexec : exec (.imagePushProgram ok f) s = match (s.slotWritten ok l).bootVerify 3 l with
      | (s3, .ok b) => .next ((s3.fset .SEC_KEYS F.SEC_KEYS_BOOT_SLOT b.hdr.slot).pushAccept b f)
      | (s3, .error c) => .next (s3.pushEnd 4 c) := by
    show execImagePushProgram ok f s = _
    unfold execImagePushProgram
    rw [h]
    rfl
  rw [hexec]
  rcases hverify : (s.slotWritten ok l).bootVerify 3 l with ⟨t, e | b⟩ <;> rw [hverify] at hboot
  · exact ⟨_, rfl, (PushKept.of_proceeds (.of_boots hboot)).trans (PushKept.pushEnd t 4 e), .inr (State.pushEnd_state _ _ (by decide)),
      State.pushEnd_count _ _ _⟩
  · have hslot : Boots (s.slotWritten ok l) (t.fset .SEC_KEYS F.SEC_KEYS_BOOT_SLOT b.hdr.slot) := Boots.fset hboot
    exact ⟨_, rfl, (PushKept.of_proceeds (.of_boots hslot)).trans (PushKept.pushAccept _ b f), .inl (State.pushAccept_state _ _ _),
      State.pushAccept_count _ _ _⟩

theorem imagePushProgram_completes (ok : Bool) (f : Found) (s : State) :
    (s.bup.push = none → exec (.imagePushProgram ok f) s = .next s) ∧
    (∀ l, s.bup.push = some l → ∃ u, exec (.imagePushProgram ok f) s = .next u ∧ u.bup.push = none ∧
      u.bup.slot = (if ok then l else []) ∧ u.bget .BUP_STAT F.BUP_STAT_FLASH_BAD = !ok ∧ (u.rcvState = 3 ∨ u.rcvState = 4) ∧
      (ok = false → u.fget .BUP_RCV_STAT F.BUP_RCV_STAT_PROG_FAIL = 1) ∧ 1 ≤ (u.icu.src.at 11).count ∧ u.fuses = s.fuses) := by
  refine ⟨fun h => ?_, fun l h => ?_⟩
  · show execImagePushProgram ok f s = _
    rw [execImagePushProgram, h]
  · obtain ⟨u, hexec, hkept, hstate, hcount⟩ := imagePushProgram_ends ok f s l h
    have hfuses := Res.Kept.fuses_eq (Keeps.exec_imagePushProgram (ok := ok) (f := f) (Keeps.rfl s)) hexec
    refine ⟨u, hexec, hkept.push, hkept.slot, ?_, hstate, fun hok => ?_, hcount, hfuses⟩
    · rw [State.bget, State.fget, hkept.bad, State.slotWritten_bad]
      cases ok with
      | true => rfl
      | false => rfl
    · subst hok
      exact hkept.failed.trans (s.slotWritten_failed l)

/-! ### Resets -/

theorem Fuses.cut_none (f : Fuses) (n : Nat) : f.cut n none = f := rfl

/-- After power-on every register is at its reset value. -/
theorem State.rget_resetTo_power (s : State) (r : Reg) : (State.resetTo .power s).rget r = r.reset :=
  regGet_regsAfter_of_keeps_zero (k := .power) rfl s.regs

theorem State.tear_log (s : State) (torn : Bool) : s.log.recs <+: (s.tear torn).log.recs := by
  unfold State.tear
  split
  · exact List.prefix_append _ _
  · exact List.prefix_rfl

theorem State.tear_false (s : State) : s.tear false = s := if_neg (by simp)

theorem State.tear_sec (s : State) (torn : Bool) : (s.tear torn).sec = s.sec ∧ (s.tear torn).fuses = s.fuses := by
  unfold State.tear
  split
  · exact ⟨rfl, rfl⟩
  · exact ⟨rfl, rfl⟩

theorem State.tear_true (s : State) (h : s.log.recs.length < 131072) : (s.tear true).log.recs.length = s.log.recs.length + 1 := by
  unfold State.tear
  rw [if_pos ⟨rfl, h⟩]
  exact List.length_append

theorem powerOnReset_completes (aon torn : Bool) (s : State) : ∃ u, exec (.powerOnReset aon torn) s = .next u ∧ (∀ r, u.rget r = r.reset) ∧
    u.mem = default ∧ u.spans = [] ∧ u.engs = [] ∧ u.icu = default ∧ u.ldp = default ∧ u.bup.kind = 0 ∧ u.bup.src = b2n aon ∧
    u.bup.aonLow = true ∧ u.bup.warm = false ∧ u.pwr.off = false ∧ u.faultN = false ∧ s.log.recs <+: u.log.recs ∧
    (torn = false → u.log = s.log) ∧ (torn = true → s.log.recs.length < 131072 → u.log.recs.length = s.log.recs.length + 1) ∧
    (s.sec.knot = none → u.fuses = s.fuses) := by
  refine ⟨_, rfl, (s.tear torn).rget_resetTo_power, rfl, rfl, rfl, rfl, rfl, rfl, rfl, rfl, rfl, ?_, rfl, s.tear_log torn, fun h => ?_,
    fun h hroom => ?_, fun hknot => ?_⟩
  · rfl
  · subst h
    show (s.tear false).log = s.log
    rw [s.tear_false]
  · subst h
    exact s.tear_true hroom
  · obtain ⟨hsec, hfuses⟩ := s.tear_sec torn
    show (s.tear torn).fuses.cut (s.tear torn).free (s.tear torn).sec.knot = _
    rw [hsec, hknot, Fuses.cut_none, hfuses]

/-- Stacks that ran, or already rested, are in self-refresh (R169). -/
theorem restStacks_state (old new : List (Reg × Word)) (n : Stack) (h : F.STK_STAT_STATE.get (regGet old (.STK_STAT n)) ∈ [2, 3]) :
    F.STK_STAT_STATE.get (regGet (restStacks old new) (.STK_STAT n)) = 3 := by
  have hrest : F.STK_STAT_STATE.get (regGet old (.STK_STAT n)) = 2 ∨ F.STK_STAT_STATE.get (regGet old (.STK_STAT n)) = 3 := by simpa using h
  have hset (l : List (Reg × Word)) : F.STK_STAT_STATE.get (regGet (regSet l (.STK_STAT n)
      (F.STK_STAT_STATE.put (regGet l (.STK_STAT n)) 3)) (.STK_STAT n)) = 3 :=
    State.fget_fset_same { (default : State) with regs := l } (.STK_STAT n) F.STK_STAT_STATE 3 (by decide)
  have hgo : ∀ (ns : List Nat) (l : List (Reg × Word)), (n.val ∈ ns ∨ F.STK_STAT_STATE.get (regGet l (.STK_STAT n)) = 3) →
      F.STK_STAT_STATE.get (regGet (ns.foldl (fun (l : List (Reg × Word)) k =>
        let r : Reg := .STK_STAT (Fin.ofNat 8 k)
        let st := F.STK_STAT_STATE.get (regGet old r)
        if st = 2 ∨ st = 3 then regSet l r (F.STK_STAT_STATE.put (regGet l r) 3) else l) l) (.STK_STAT n)) = 3 := by
    intro ns
    induction ns with
    | nil => exact fun l hl => hl.resolve_left (by simp)
    | cons k ns ih =>
      intro l hl
      rw [List.foldl_cons]
      refine ih _ ?_
      dsimp only
      by_cases hk : Fin.ofNat 8 k = n
      · rw [hk, if_pos hrest]
        exact .inr (hset l)
      · have hother : Reg.STK_STAT n ≠ .STK_STAT (Fin.ofNat 8 k) := fun e => hk (Reg.STK_STAT.inj e).symm
        rcases hl with hl | hl
        · refine .inl ((List.mem_cons.mp hl).resolve_left fun e => hk ?_)
          rw [← e]
          exact Fin.ofNat_val_eq_self n
        · refine .inr ?_
          split
          · rw [regGet_regSet_other _ _ hother]
            exact hl
          · exact hl
  exact hgo (List.range 8) new (.inl (List.mem_range.mpr n.isLt))

/-- A tab in which some entries are left out. -/
theorem Tab.at_filter {α : Type} [Inhabited α] (t : Tab α) (p : Nat → Bool) (k : Nat) :
    Tab.at (List.filter (fun e => p e.1) t : Tab α) k = if p k then Tab.at t k else default := by
  induction t with
  | nil => exact (ite_self _).symm
  | cons e t ih =>
    obtain ⟨j, v⟩ := e
    rw [List.filter_cons]
    by_cases hk : k = j
    · subst hk
      cases hp : p k with
      | true => simp [Tab.at]
      | false => simpa [hp] using ih
    · cases hp : p j with
      | true => simpa [hp, Tab.at, hk] using ih
      | false => simpa [hp, Tab.at, hk] using ih

/-- What a cold or warm reset leaves. -/
theorem resetFrom_leaves (s : State) (warm : Bool) (src : Nat) :
    let u := s.resetFrom (if warm then .warm else .cold) (1 + b2n warm) src
    u.bup.warm = warm ∧ u.bup.kind = 1 + b2n warm ∧ u.bup.src = src ∧ u.spans = [] ∧ u.engs = [] ∧
      u.movers = [] ∧ u.icu = default ∧ u.stageNow = 0 ∧ u.log = s.log ∧ u.flash.blocks = s.flash.blocks ∧ u.outbox = s.outbox ∧
      u.bridgeEn = s.bridgeEn ∧ u.ldp.crash = s.ldp.crash ∧ (s.sec.knot = none → u.fuses = s.fuses) ∧
      ((warm = false ∨ s.memKeep = false) → u.mem = default) ∧
      (warm = true → s.memKeep = true → ∀ k, Tab.at u.mem.data k = if dramCell k then Tab.at s.mem.data k else 0) ∧
      (warm = true → s.memKeep = true → ∀ n : Stack, s.fget (.STK_STAT n) F.STK_STAT_STATE ∈ [2, 3] →
        u.fget (.STK_STAT n) F.STK_STAT_STATE = 3) := by
  cases warm with
  | false =>
    refine ⟨rfl, rfl, rfl, rfl, rfl, rfl, rfl, State.resetTo_stageNow .cold s, rfl, rfl, rfl, rfl, rfl, fun h => ?_, fun _ => rfl,
      fun h => absurd h (by decide), fun h => absurd h (by decide)⟩
    show s.fuses.cut s.free s.sec.knot = _
    rw [h, Fuses.cut_none]
  | true =>
    refine ⟨rfl, rfl, rfl, rfl, rfl, rfl, rfl, State.resetTo_stageNow .warm s, rfl, rfl, rfl, rfl, rfl, fun h => ?_, fun h => ?_,
      fun _ hkeep k => ?_, fun _ hkeep n hn => ?_⟩
    · show s.fuses.cut s.free s.sec.knot = _
      rw [h, Fuses.cut_none]
    · exact if_neg (by simpa using h)
    · show Tab.at (if decide (ResetKind.warm = .warm) && s.memKeep then s.mem.dramKept else default).data k = _
      rw [hkeep]
      refine (Tab.at_filter s.mem.data (fun k => !!dramCell k) k).trans ?_
      rw [Bool.not_not]
      rfl
    · show F.STK_STAT_STATE.get (regGet (if decide (ResetKind.warm = .warm) && s.memKeep then restStacks s.regs (regsAfter .warm s.regs)
        else regsAfter .warm s.regs) (.STK_STAT n)) = 3
      rw [hkeep]
      exact restStacks_state s.regs _ n hn

theorem resets_complete (c : Instr) (warm : Bool) (src : Nat) (s : State)
    (h : (c = .sysReset false ∧ warm = s.bget .BUP_CTL F.BUP_CTL_SYS_WARM ∧ src = 2) ∨
     (∃ v, c = .coldResetCmd v ∧ F.BUP_RST_KEY.get v = 0xB007 ∧ F.BUP_RST_KIND.get v = 1 ∧ warm = false ∧ src = 3) ∨
     (∃ v, c = .warmResetCmd v ∧ F.BUP_RST_KEY.get v = 0xB007 ∧ F.BUP_RST_KIND.get v = 2 ∧ warm = true ∧ src = 3)) :
    exec c s = .next (s.resetFrom (if warm then .warm else .cold) (1 + b2n warm) src) := by
  rcases h with ⟨rfl, hwarm, rfl⟩ | ⟨v, rfl, hkey, hkind, rfl, rfl⟩ | ⟨v, rfl, hkey, hkind, rfl, rfl⟩
  · show execSysReset false s = _
    rw [execSysReset, State.tear_false, ← hwarm]
    cases warm with
    | false => rfl
    | true => rfl
  · exact if_pos ⟨hkey, hkind⟩
  · exact if_pos ⟨hkey, hkind⟩

/-- Settles O45, by what a reset keeps of each part of the state, and by what the units of a start leave of its stage, its cause and its
push (`Boots`). -/
theorem resetsAndStartsComplete : Obligations.ResetsAndStartsComplete := by
  unfold Obligations.ResetsAndStartsComplete
  refine ⟨⟨powerOnReset_completes, fun b a e s => rfl, fun c warm src s h => ?_, fun v s => ⟨fun h => if_neg h, fun h => if_neg h⟩⟩,
    coldStart_completes, warmStart_completes, computeWave_completes, imagePush_completes, imagePushProgram_completes⟩
  exact ⟨_, resets_complete c warm src s h, resetFrom_leaves s warm src⟩

end Sys2Proof.Machine

namespace Sys2Proof.Machine

/-! PROOFS. What the landing port does to the device (O50; R447, R448, R465): resets and power states, the shared buffer, images and reports. -/

section
variable {s : State} {cmd : Nat}

/-! ### Reset and power -/

theorem State.controlled_denied {f : State → State} {key : Bool} (h : s.bget .LDP_ACCESS F.LDP_ACCESS_CONTROL = false) :
    s.controlled cmd key f = s.vendor cmd 4 [] := if_pos (by simp [h])

theorem State.controlled_keyless {f : State → State} (h : s.bget .LDP_ACCESS F.LDP_ACCESS_CONTROL = true) :
    s.controlled cmd false f = s.vendor cmd 6 [] := by
  rw [State.controlled, h]
  rfl

theorem State.controlled_busy {f : State → State} (h : s.bget .LDP_ACCESS F.LDP_ACCESS_CONTROL = true) (hbusy : s.powerBusy = true) :
    s.controlled cmd true f = { s with resp := .vendor 2 [] } := by
  rw [State.controlled, h, hbusy, ← State.vendor_plain s cmd [] (by decide) (by decide) (by decide)]
  rfl

theorem State.controlled_done {f : State → State} (h : s.bget .LDP_ACCESS F.LDP_ACCESS_CONTROL = true) (hbusy : s.powerBusy = false) :
    s.controlled cmd true f = f s := by
  rw [State.controlled, h, hbusy]
  rfl

theorem State.vendor_unavailable (s : State) (cmd : Nat) : s.vendor cmd 1 [] = { s with resp := .vendor 1 [] } :=
  s.vendor_plain cmd [] (by decide) (by decide) (by decide)

theorem exec_ldpResetCold {key : Fin 65536} (h : LdpReady s) : exec (.ldpResetCold key) s =
    .next (s.controlled 7 (key.val = 0xB007) (fun s => if s.mainOff then s.tick.startMain 7 (Config.freeBool s.free)
      else (s.vendor 7 0 []).resetFrom .cold 1 4)) :=
  exec_of_request442 (show exec (.ldpResetCold key) s = execLdpResetCold key s from rfl) h

theorem exec_ldpResetWarm {key : Fin 65536} (h : LdpReady s) (hoff : s.mainOff = false) : exec (.ldpResetWarm key) s =
    .next (s.controlled 7 (key.val = 0xB007) (fun s => (s.vendor 7 0 []).resetFrom .warm 2 4)) := by
  refine (exec_of_request442 (show exec (.ldpResetWarm key) s = execLdpResetWarm key s from rfl) h).trans ?_
  rw [hoff]
  rfl

theorem exec_powerStandby (h : LdpReady s) (hoff : s.mainOff = false) (hst : s.inStandby = false) : exec .powerStandby s =
    .next (s.controlled 8 true (fun s => (s.via execStandbyEnter).vendor 8 (if s.standbyRefusal = 0 then 0 else 2) [])) :=
  (exec_of_request442 (show exec .powerStandby s = execPowerStandby s from rfl) h).trans
    (congrArg Host.Outcome.next (if_neg (by simp [hoff, hst])))

theorem exec_powerRun (h : LdpReady s) (hoff : s.mainOff = false) (hst : s.inStandby = true) : exec .powerRun s =
    .next (s.controlled 8 true (fun s => (s.ferryWake 3 0).vendor 8 0 [])) :=
  (exec_of_request442 (show exec .powerRun s = execPowerRun s from rfl) h).trans
    (congrArg Host.Outcome.next (if_neg (by simp [hoff, hst])))

theorem exec_powerOffAon (h : LdpReady s) (hoff : s.mainOff = false) : exec .powerOffAon s =
    .next (s.controlled 8 true (fun s => (s.via execOffAon).vendor 8 (if s.standbyRefusal = 0 then 0 else 2) [])) :=
  (exec_of_request442 (show exec .powerOffAon s = execPowerOffAon s from rfl) h).trans
    (congrArg Host.Outcome.next (if_neg (by simp [hoff])))

theorem powerStartMain_running (vin : Bool) (h : LdpReady s) (hoff : s.mainOff = false) :
    exec (.powerStartMain vin) s = .next { s with resp := .vendor 1 [] } :=
  (exec_of_request442 (show exec (.powerStartMain vin) s = execPowerStartMain vin s from rfl) h).trans
    (congrArg Host.Outcome.next ((if_pos (by simp [hoff])).trans (s.vendor_unavailable 8)))

/-- Without CONTROL in LDP_ACCESS the port neither resets the device nor changes its power state. -/
theorem powerRequests_denied (key : Fin 65536) (vin : Bool) (h : LdpReady s) (hctl : s.bget .LDP_ACCESS F.LDP_ACCESS_CONTROL = false)
    (hoff : s.mainOff = false) :
    (∃ u, exec (.ldpResetCold key) s = .next u ∧ Refused 7 4 [] s u) ∧ (∃ u, exec (.ldpResetWarm key) s = .next u ∧ Refused 7 4 [] s u) ∧
    (s.inStandby = false → ∃ u, exec .powerStandby s = .next u ∧ Refused 8 4 [] s u) ∧
    (s.inStandby = true → ∃ u, exec .powerRun s = .next u ∧ Refused 8 4 [] s u) ∧
    (∃ u, exec .powerOffAon s = .next u ∧ Refused 8 4 [] s u) ∧
    exec (.powerStartMain vin) s = .next { s with resp := .vendor 1 [] } := by
  have hdenied {cmd : Nat} (key : Bool) (f : State → State) (hcmd : cmd < 256) : Refused cmd 4 [] s (s.controlled cmd key f) := by
    rw [State.controlled_denied hctl]
    exact s.vendor_refused [] hcmd (.inl rfl)
  exact ⟨⟨_, exec_ldpResetCold h, hdenied _ _ (by decide)⟩, ⟨_, exec_ldpResetWarm h hoff, hdenied _ _ (by decide)⟩,
    fun hst => ⟨_, exec_powerStandby h hoff hst, hdenied _ _ (by decide)⟩, fun hst => ⟨_, exec_powerRun h hoff hst, hdenied _ _ (by decide)⟩,
    ⟨_, exec_powerOffAon h hoff, hdenied _ _ (by decide)⟩, powerStartMain_running vin h hoff⟩

theorem State.standbyEnter_refused (h : s.standbyRefusal ≠ 0) : s.via execStandbyEnter = s.pwrRefuse s.standbyRefusal := by
  rw [State.via, execStandbyEnter, if_pos h]

theorem State.standbyEnter_via (h : s.standbyRefusal = 0) : s.via execStandbyEnter = s.standbyBegun := by
  rw [State.via, standbyEnter_begins h]

/-- With CONTROL the port performs what the device can take. -/
theorem powerRequests_performed (key : Fin 65536) (h : LdpReady s) (hctl : s.bget .LDP_ACCESS F.LDP_ACCESS_CONTROL = true)
    (hoff : s.mainOff = false) :
    (key.val ≠ 0xB007 → (∃ u, exec (.ldpResetCold key) s = .next u ∧ Refused 7 6 [] s u) ∧
      (∃ u, exec (.ldpResetWarm key) s = .next u ∧ Refused 7 6 [] s u)) ∧
    (key.val = 0xB007 → s.powerBusy = true → exec (.ldpResetCold key) s = .next { s with resp := .vendor 2 [] } ∧
      exec (.ldpResetWarm key) s = .next { s with resp := .vendor 2 [] }) ∧
    (key.val = 0xB007 → s.powerBusy = false →
      (∃ u, exec (.ldpResetCold key) s = .next u ∧ u.resp = .vendor 0 [] ∧ u.bup.kind = 1 ∧ u.bup.src = 4 ∧ u.bup.warm = false ∧
        u.stageNow = 0 ∧ u.spans = [] ∧ u.mem = default ∧ u.log = s.log) ∧
      (∃ u, exec (.ldpResetWarm key) s = .next u ∧ u.resp = .vendor 0 [] ∧ u.bup.kind = 2 ∧ u.bup.src = 4 ∧ u.bup.warm = true ∧
        u.stageNow = 0 ∧ u.spans = [] ∧ u.log = s.log)) := by
  refine ⟨fun hkey => ?_, fun hkey hbusy => ?_, fun hkey hbusy => ?_⟩
  · have hrefused (f : State → State) : Refused 7 6 [] s (s.controlled 7 (key.val = 0xB007) f) := by
      rw [decide_eq_false hkey, State.controlled_keyless hctl]
      exact s.vendor_refused [] (by decide) (.inr rfl)
    exact ⟨⟨_, exec_ldpResetCold h, hrefused _⟩, ⟨_, exec_ldpResetWarm h hoff, hrefused _⟩⟩
  · rw [exec_ldpResetCold h, exec_ldpResetWarm h hoff, decide_eq_true hkey, State.controlled_busy hctl hbusy, State.controlled_busy hctl hbusy]
    exact ⟨rfl, rfl⟩
  · rw [exec_ldpResetCold h, exec_ldpResetWarm h hoff, decide_eq_true hkey, State.controlled_done hctl hbusy,
      State.controlled_done hctl hbusy, if_neg (by simp [hoff])]
    exact ⟨⟨_, rfl, rfl, rfl, rfl, rfl, State.resetTo_stageNow .cold _, rfl, rfl, rfl⟩,
      ⟨_, rfl, rfl, rfl, rfl, rfl, State.resetTo_stageNow .warm _, rfl, rfl⟩⟩

theorem State.vendor_resp (s : State) (cmd result : Nat) (payload : List Byte) (h : result ≠ 4 ∧ result ≠ 6) :
    (s.vendor cmd result payload).resp = .vendor result payload := by
  by_cases h0 : result = 0
  · subst h0
    exact (s.vendor_done cmd payload).1
  · rw [s.vendor_plain cmd payload h0 h.1 h.2]

theorem standbyRequested (h : LdpReady s) (hctl : s.bget .LDP_ACCESS F.LDP_ACCESS_CONTROL = true) (hoff : s.mainOff = false)
    (hbusy : s.powerBusy = false) (hst : s.inStandby = false) :
    (s.standbyRefusal = 0 → ∃ u, exec .powerStandby s = .next u ∧ u.resp = .vendor 0 [] ∧ u.fget .PWR_STATE F.PWR_STATE_STATE = 1 ∧
      u.mem = s.mem) ∧
    (s.standbyRefusal ≠ 0 → ∃ u, exec .powerStandby s = .next u ∧ u.resp = .vendor 2 [] ∧
      u.fget .PWR_STATE F.PWR_STATE_REASON = s.standbyRefusal ∧ OnlyRegs [.PWR_STATE] { s with resp := u.resp } u) := by
  have hexec := exec_powerStandby h hoff hst
  rw [State.controlled_done hctl hbusy] at hexec
  refine ⟨fun hgo => ⟨_, hexec, ?_⟩, fun hno => ⟨_, hexec, ?_⟩⟩
  · rw [State.standbyEnter_via hgo, if_pos hgo]
    obtain ⟨hresp, -, heq, hregs⟩ := s.standbyBegun.vendor_done 8 []
    refine ⟨hresp, ?_, ?_⟩
    · rw [hregs.fget (by simp)]
      exact s.standbyBegun_state
    · rw [heq]
      exact s.standbyBegun_mem
  · rw [State.standbyEnter_refused hno, if_neg hno, State.vendor_plain _ _ _ (by decide) (by decide) (by decide)]
    exact ⟨rfl, s.pwrRefuse_reason s.standbyRefusal_lt, OnlyRegs.pwrRefuse { s with resp := .vendor 2 [] } _⟩

theorem runRequested (h : LdpReady s) (hctl : s.bget .LDP_ACCESS F.LDP_ACCESS_CONTROL = true) (hoff : s.mainOff = false)
    (hbusy : s.powerBusy = false) (hst : s.inStandby = true) (hwake : s.pwr.wake = false)
    (href : s.bget .CLK_STAT F.CLK_STAT_REF_OK = true) : ∃ u, exec .powerRun s = .next u ∧ u.resp = .vendor 0 [] ∧
      u.fget .PWR_STATE F.PWR_STATE_STATE = 3 ∧ u.fget .LDP_FERRY_STAT F.LDP_FERRY_STAT_CAUSE = 3 ∧
      RegsKept [.PWR_STATE, .LDP_FERRY_STAT, .LDP_REQ] s u := by
  have hexec := exec_powerRun h hoff hst
  rw [State.controlled_done hctl hbusy] at hexec
  obtain ⟨-, hcause, -, hstate, hkept, -, -⟩ := State.ferryWake_of_standby (cause := 3) (src := 0) (of_decide_eq_true hst) hwake href
    (by decide) (by decide)
  obtain ⟨hresp, -, -, hregs⟩ := (s.ferryWake 3 0).vendor_done 8 []
  refine ⟨_, hexec, hresp, ?_, ?_, ?_⟩
  · rw [hregs.fget (by simp)]
    exact hstate
  · rw [hregs.fget (by simp)]
    exact hcause
  · exact (hkept.mono (by simp +contextual)).trans (RegsKept.mono hregs (by simp))

theorem offRequested (h : LdpReady s) (hctl : s.bget .LDP_ACCESS F.LDP_ACCESS_CONTROL = true) (hoff : s.mainOff = false)
    (hbusy : s.powerBusy = false) (hgo : s.standbyRefusal = 0) : ∃ u, exec .powerOffAon s = .next u ∧ u.resp = .vendor 0 [] ∧
      u.pwr.off = true ∧ u.mem = default ∧ u.spans = [] ∧ u.log = s.log := by
  have hexec := exec_powerOffAon h hoff
  have hvia : s.via execOffAon = s.resetTo .off := by
    rw [State.via, execOffAon, if_neg (by simp [hgo])]
  rw [State.controlled_done hctl hbusy, hvia, if_pos hgo] at hexec
  obtain ⟨hresp, -, heq, -⟩ := (s.resetTo .off).vendor_done 8 []
  refine ⟨_, hexec, hresp, ?_⟩
  rw [heq]
  exact ⟨rfl, rfl, rfl, rfl⟩

/-- With the main side off the port can only start it. -/
theorem startRequested (h : LdpReady s) (hctl : s.bget .LDP_ACCESS F.LDP_ACCESS_CONTROL = true) (hoff : s.mainOff = true)
    (hbusy : s.powerBusy = false) :
    (∃ u, exec (.powerStartMain true) s = .next u ∧ u.pwr = { s.pwr with off := false } ∧ u.bup = { s.bup with kind := 1, src := 4 } ∧
      Done [] { s with pwr := u.pwr, bup := u.bup } u) ∧
    exec (.powerStartMain false) s = .next { s with resp := .vendor 7 [] } ∧
    (∀ key, exec (.ldpResetWarm key) s = .next { s with resp := .vendor 1 [] }) ∧
    exec .powerOffAon s = .next { s with resp := .vendor 1 [] } := by
  have hexec (vin : Bool) : exec (.powerStartMain vin) s = .next (s.startMain 8 vin) := by
    refine (exec_of_request442 (show exec (.powerStartMain vin) s = execPowerStartMain vin s from rfl) h).trans
      (congrArg Host.Outcome.next ((if_neg (by simp [hoff])).trans ?_))
    exact State.controlled_done hctl hbusy
  refine ⟨⟨_, hexec true, rfl, rfl, ?_⟩, (hexec false).trans (congrArg Host.Outcome.next ?_), fun key => ?_, ?_⟩
  · exact State.vendor_done { s with pwr := { s.pwr with off := false }, bup := { s.bup with kind := 1, src := 4 } } 8 []
  · show s.vendor 8 7 [] = _
    exact s.vendor_plain 8 [] (by decide) (by decide) (by decide)
  · exact (exec_of_request442 (show exec (.ldpResetWarm key) s = execLdpResetWarm key s from rfl) h).trans
      (congrArg Host.Outcome.next ((if_pos hoff).trans (s.vendor_unavailable 7)))
  · exact (exec_of_request442 (show exec .powerOffAon s = execPowerOffAon s from rfl) h).trans
      (congrArg Host.Outcome.next ((if_pos hoff).trans (s.vendor_unavailable 8)))

/-! ### The shared buffer -/

theorem exec_bufWrite (off : Word) (data : List Byte) (h : LdpReady s) (hserved : s.bufServed = true)
    (hform : bufForm off data.length = true) (hlen : off.toNat + data.length ≤ 0x20000000) {w : Write}
    (hw : w = s.writeAt true (sbfAddr off.toNat) data (data.map (fun _ => false)) []) (herr : w.err = none) (hwerr : w.werr = none) :
    exec (.bufWrite off data) s = .next (w.st.settle.vendor 9 0 []) := by
  refine (exec_of_request442 (show exec (.bufWrite off data) s = execBufWrite off data s from rfl) h).trans (congrArg Host.Outcome.next ?_)
  rw [if_neg (by simp [hserved]), if_neg (by simp [hform]), if_neg (not_lt.mpr hlen), ← hw]
  dsimp only
  rw [herr, hwerr]

theorem exec_bufRead (off : Word) (n : Byte) (h : LdpReady s) (hserved : s.bufServed = true)
    (hform : bufForm off n.toNat = true) (hlen : off.toNat + n.toNat ≤ 0x20000000) {r : Read}
    (hr : r = s.hubRead (sbfAddr off.toNat) n.toNat) (herr : r.err = none) (hpois : ∀ p ∈ r.pois, p = false) :
    exec (.bufRead off n) s = .next (r.st.vendor 10 0 r.bytes) := by
  refine (exec_of_request442 (show exec (.bufRead off n) s = execBufRead off n s from rfl) h).trans (congrArg Host.Outcome.next ?_)
  rw [if_neg (by simp [hserved]), if_neg (by simp [hform]), if_neg (not_lt.mpr hlen), ← hr]
  dsimp only
  have hclean : r.pois.any id = false := List.any_eq_false.mpr fun p hp => by simp [hpois p hp]
  rw [herr, hclean]
  rfl

/-- The bytes of a write without poison. -/
theorem nth_map_false {α : Type} (l : List α) (i : Nat) : nth (l.map (fun _ => false)) i = false := by
  rw [List.map_const']
  exact nth_replicate_default rfl _ _

theorem rangeOf_sbf {a : Nat} (hlow : 0x030000000000 ≤ a) (hhigh : a < 0x030020000000) : rangeOf a = .sbf (a - 0x030000000000) := by
  unfold rangeOf
  rw [if_neg (by omega), if_neg (by omega), if_neg (by omega), if_pos ⟨hlow, hhigh⟩]

/-- Every block of the shared buffer is in place. -/
theorem State.cellOf_sbf (s : State) (hub : Bool) {a : Nat} (hlow : 0x030000000000 ≤ a) (hhigh : a < 0x030020000000) :
    ∃ c, s.cellOf hub a = some c := by
  unfold State.cellOf
  rw [rangeOf_sbf hlow hhigh]
  exact ⟨_, rfl⟩

/-- In quiet memory a read of the shared buffer completes. -/
theorem State.hubRead_sbf_quiet {a n : Nat} (hq : s.Quiet) (hlow : 0x030000000000 ≤ a) (hhigh : a + n ≤ 0x030020000000) :
    (s.hubRead a n).err = none ∧ ∀ p ∈ (s.hubRead a n).pois, p = false := by
  have hpass := (CellsKept.hubPass s true a n).quietActs (MemoryActs.hubPass s true a n) hq
  have hread := State.readAt_quiet (hub := true) (point := 0) (a := a) (n := n) hpass.quiet fun b hb => by
    obtain ⟨halign, hfirst, hlast⟩ := mem_blocksOf hb
    obtain ⟨c, hc⟩ := (s.hubPass true a n).cellOf_sbf true (a := b) (by omega) (by omega)
    exact ⟨c, hc, .inl rfl⟩
  exact ⟨hread.err, hread.pois⟩

theorem bufferRequests (off : Word) (data : List Byte) (n : Byte) (h : LdpReady s) :
    (s.bufServed = false → exec (.bufWrite off data) s = .next { s with resp := .vendor 1 [] } ∧
      exec (.bufRead off n) s = .next { s with resp := .vendor 1 [] }) ∧
    (s.bufServed = true →
      (bufForm off data.length = false → exec (.bufWrite off data) s = .next { s with resp := .vendor 3 [] }) ∧
      (bufForm off n.toNat = false → exec (.bufRead off n) s = .next { s with resp := .vendor 3 [] }) ∧
      (bufForm off data.length = true → 0x20000000 < off.toNat + data.length →
        exec (.bufWrite off data) s = .next { s with resp := .vendor 5 [] }) ∧
      (bufForm off n.toNat = true → 0x20000000 < off.toNat + n.toNat →
        exec (.bufRead off n) s = .next { s with resp := .vendor 5 [] }) ∧
      (∀ w, bufForm off data.length = true → off.toNat + data.length ≤ 0x20000000 →
        w = s.writeAt true (sbfAddr off.toNat) data (data.map (fun _ => false)) [] →
        ((w.err = none ∧ w.werr = none) ∨ (Undisturbed s ∧ Readable s (sbfAddr off.toNat) data.length)) →
        ∃ u, exec (.bufWrite off data) s = .next u ∧ Done [] w.st.settle u) ∧
      (∀ r, bufForm off n.toNat = true → off.toNat + n.toNat ≤ 0x20000000 → r = s.hubRead (sbfAddr off.toNat) n.toNat →
        ((r.err = none ∧ ∀ p ∈ r.pois, p = false) ∨ Undisturbed s) → ∃ u, exec (.bufRead off n) s = .next u ∧ Done r.bytes r.st u)) := by
  have hwrite := exec_of_request442 (show exec (.bufWrite off data) s = execBufWrite off data s from rfl) h
  have hread := exec_of_request442 (show exec (.bufRead off n) s = execBufRead off n s from rfl) h
  have hplain (cmd : Nat) {result : Nat} (h0 : result ≠ 0 ∧ result ≠ 4 ∧ result ≠ 6) : s.vendor cmd result [] = { s with resp := .vendor result [] } :=
    s.vendor_plain cmd [] h0.1 h0.2.1 h0.2.2
  refine ⟨fun hserved => ⟨?_, ?_⟩, fun hserved => ⟨fun hform => ?_, fun hform => ?_, fun hform hlen => ?_, fun hform hlen => ?_,
    fun w hform hlen hw hclean => ?_, fun r hform hlen hr hclean => ?_⟩⟩
  · rw [hwrite, if_pos (by simp [hserved]), hplain 9 (by decide)]
  · rw [hread, if_pos (by simp [hserved]), hplain 10 (by decide)]
  · rw [hwrite, if_neg (by simp [hserved]), if_pos (by simp [hform]), hplain 9 (by decide)]
  · rw [hread, if_neg (by simp [hserved]), if_pos (by simp [hform]), hplain 10 (by decide)]
  · rw [hwrite, if_neg (by simp [hserved]), if_neg (by simp [hform]), if_pos hlen, hplain 9 (by decide)]
  · rw [hread, if_neg (by simp [hserved]), if_neg (by simp [hform]), if_pos hlen, hplain 10 (by decide)]
  · have hdone : w.err = none ∧ w.werr = none := by
      refine hclean.elim id fun ⟨hquiet, hreadable⟩ => ?_
      have hq := Undisturbed.quiet hquiet
      have hserve : s.Served true (sbfAddr off.toNat) data.length := fun b hb => by
        obtain ⟨c, hc, hm⟩ := Readable.served hq hreadable b hb
        exact ⟨c, State.cellOf_hub hc, hm⟩
      have hwrites := State.writeAt_quiet hq hserve (pois := data.map (fun _ => false)) fun i => nth_map_false data i
      rw [hw]
      exact ⟨hwrites.err, hwrites.werr⟩
    exact ⟨_, exec_bufWrite off data h hserved hform hlen hw hdone.1 hdone.2, State.vendor_done _ 9 []⟩
  · have hdone : r.err = none ∧ ∀ p ∈ r.pois, p = false := by
      refine hclean.elim id fun hquiet => ?_
      rw [hr]
      exact State.hubRead_sbf_quiet (Undisturbed.quiet hquiet) (by unfold sbfAddr; omega) (by unfold sbfAddr; omega)
    exact ⟨_, exec_bufRead off n h hserved hform hlen hr hdone.1 hdone.2, State.vendor_done _ 10 _⟩

/-! ### Images -/

/-- The state in which the port has asked for a push. -/
def State.pushAsked (s : State) (len : Word) : State := ({ s with ldp := { s.ldp with push := true } } : State).rset .BUP_RCV_LEN len

theorem State.pushAsked_state (s : State) (len : Word) : (s.pushAsked len).rcvState = s.rcvState :=
  State.fget_of_rget (State.rget_rset_other _ _ (by simp)) _

theorem pushGo (p : Byte) (hp : p.toNat ≤ 1) : F.BUP_RCV_GO_GO.get (wordOf (1 + 2 * p.toNat)) = 1 ∧
    (F.BUP_RCV_GO_PROGRAM.get (wordOf (1 + 2 * p.toNat)) = 1 ↔ p = 1) := by
  have hcases : p = 0 ∨ p = 1 := by
    have : p.toNat = 0 ∨ p.toNat = 1 := by omega
    exact this.imp (fun h => BitVec.eq_of_toNat_eq h) fun h => BitVec.eq_of_toNat_eq h
  rcases hcases with rfl | rfl <;> decide

theorem PushAnswer.answered (t : State) (st code : Nat) (hst : st = 3 ∨ st = 4) (hpush : t.ldp.push = true) :
    (t.pushEnd st code).rcvState = st ∧ (t.pushEnd st code).resp = .vendor 0 [byteOf st, byteOf code] ∧ (t.pushEnd st code).ldp.push = false ∧
      1 ≤ ((t.pushEnd st code).icu.src.at 11).count :=
  ⟨t.pushEnd_state code (by omega), (t.pushEnd_answers st code hpush).1, (t.pushEnd_answers st code hpush).2, t.pushEnd_count st code⟩

theorem imagePushed (len : Word) (p : Byte) (f : Found) (h : LdpReady s) :
    (s.bufServed = false → exec (.imgPush len p f) s = .next { s with resp := .vendor 1 [] }) ∧
    (s.bufServed = true → 1 < p.toNat → exec (.imgPush len p f) s = .next { s with resp := .vendor 3 [] }) ∧
    (s.bufServed = true → p.toNat ≤ 1 → (s.rcvState = 1 ∨ s.rcvState = 2) → exec (.imgPush len p f) s = .next { s with resp := .vendor 2 [] }) ∧
    (s.bufServed = true → p.toNat ≤ 1 → s.rcvState ≠ 1 → s.rcvState ≠ 2 → ∃ u, exec (.imgPush len p f) s = .next u ∧
      u.rget .BUP_RCV_LEN = len ∧
      ((p = 1 ∧ u.rcvState = 2 ∧ u.ldp.push = true) ∨
       (∃ st code, (st = 3 ∨ st = 4) ∧ u.rcvState = st ∧ u.resp = .vendor 0 [byteOf st, byteOf code] ∧ u.ldp.push = false ∧
        1 ≤ (u.icu.src.at 11).count))) := by
  have hexec := exec_of_request442 (show exec (.imgPush len p f) s = execImgPush len p f s from rfl) h
  have hplain {result : Nat} (h0 : result ≠ 0 ∧ result ≠ 4 ∧ result ≠ 6) : s.vendor 11 result [] = { s with resp := .vendor result [] } :=
    s.vendor_plain 11 [] h0.1 h0.2.1 h0.2.2
  refine ⟨fun hserved => ?_, fun hserved hp => ?_, fun hserved hp hst => ?_, fun hserved hp h1 h2 => ?_⟩
  · rw [hexec, if_pos (by simp [hserved]), hplain (by decide)]
  · rw [hexec, if_neg (by simp [hserved]), if_pos hp, hplain (by decide)]
  · rw [hexec, if_neg (by simp [hserved]), if_neg (not_lt.mpr hp), if_pos hst, hplain (by decide)]
  rw [if_neg (by simp [hserved]), if_neg (not_lt.mpr hp), if_neg (by simp [h1, h2])] at hexec
  obtain ⟨hgo, hprogram⟩ := pushGo p hp
  have hvia : (s.pushAsked len).via (execImagePush (wordOf (1 + 2 * p.toNat)) f) =
      (s.pushAsked len).pushImage len.toNat (F.BUP_RCV_GO_PROGRAM.get (wordOf (1 + 2 * p.toNat)) = 1) f := by
    have hrun : execImagePush (wordOf (1 + 2 * p.toNat)) f (s.pushAsked len) = .next ((s.pushAsked len).pushImage
        ((s.pushAsked len).rget .BUP_RCV_LEN).toNat (F.BUP_RCV_GO_PROGRAM.get (wordOf (1 + 2 * p.toNat)) = 1) f) :=
      if_neg (by rw [State.pushAsked_state]; simp [hgo, h1, h2])
    rw [State.via, hrun, State.pushAsked, State.rget_rset_same]
  refine ⟨_, hexec.trans (congrArg Host.Outcome.next hvia), ?_⟩
  have hlen : ((s.pushAsked len).pushVerify len.toNat).1.rget .BUP_RCV_LEN = len :=
    ((s.pushAsked len).pushVerify_len len.toNat).trans (State.rget_rset_same _ _ _)
  have hpush : ((s.pushAsked len).pushVerify len.toNat).1.ldp.push = true := (s.pushAsked len).pushVerify_push len.toNat
  have hends := (s.pushAsked len).pushImage_ends len.toNat (F.BUP_RCV_GO_PROGRAM.get (wordOf (1 + 2 * p.toNat)) = 1) f
  generalize ((s.pushAsked len).pushVerify len.toNat).1 = t at hlen hpush hends
  rcases hends with ⟨c, heq⟩ | ⟨b, hprog, heq⟩ | ⟨b, -, heq⟩
  · rw [heq]
    obtain ⟨hst, hresp, hover, hcount⟩ := PushAnswer.answered t 4 c (.inr rfl) hpush
    exact ⟨(t.pushEnd_rget 4 c (by simp [signalRegs])).trans hlen, .inr ⟨4, c, .inr rfl, hst, hresp, hover, hcount⟩⟩
  · rw [heq]
    refine ⟨(State.rget_fset_other _ _ _ (by simp)).trans hlen, .inl ⟨hprogram.mp (of_decide_eq_true hprog), t.pushProgrammed_state b, hpush⟩⟩
  · rw [heq]
    obtain ⟨hst, hresp, hover, hcount⟩ := PushAnswer.answered t 3 0 (.inl rfl) hpush
    have hgoes := t.pushAccept_proceeds b f
    exact ⟨(hgoes.regs .BUP_RCV_LEN (by simp [startRegs])).trans ((t.pushEnd_rget 3 0 (by simp [signalRegs])).trans hlen),
      .inr ⟨3, 0, .inl rfl, t.pushAccept_state b f, hgoes.resp.trans hresp, hgoes.answering.trans hover, t.pushAccept_count b f⟩⟩

/-! ### Attestation -/

theorem State.attestPart_done {obj : List Byte} {off n : Nat} (h4 : 4 ≤ n) (h240 : n ≤ 240) (hmod : n % 4 = 0) (hlen : off + n ≤ obj.length) :
    Done ((obj.drop off).take n) s (s.attestPart obj off n) := by
  rw [State.attestPart, if_neg (by omega)]
  exact s.vendor_done 12 _

theorem attestRequests (nonce : List Byte) (o : Fin 65536) (n : Byte) (h : LdpReady s) :
    ((s.mainOff = true ∨ s.inStandby = true) → exec (.attestSign nonce) s = .next { s with resp := .vendor 1 [] } ∧
      exec (.attestReadReport o n) s = .next { s with resp := .vendor 1 [] } ∧
      exec (.attestReadCert o n) s = .next { s with resp := .vendor 1 [] }) ∧
    (s.mainOff = false → s.inStandby = false →
      (nonce.length ≠ 32 → exec (.attestSign nonce) s = .next { s with resp := .vendor 3 [] }) ∧
      (nonce.length = 32 → exec (.attestSign nonce) s = .next { s with
        resp := .none, sec := { s.sec with ldpAtt := some (s.reportBody 1 nonce), reports := s.sec.reports + 1 } }) ∧
      (s.sec.ldpReport = none → exec (.attestReadReport o n) s = .next { s with resp := .vendor 1 [] }) ∧
      (∀ l, s.sec.ldpReport = some l → 4 ≤ n.toNat → n.toNat ≤ 240 → n.toNat % 4 = 0 → o.val + n.toNat ≤ l.length →
        ∃ u, exec (.attestReadReport o n) s = .next u ∧ Done ((l.drop o.val).take n.toNat) s u) ∧
      (4 ≤ n.toNat → n.toNat ≤ 240 → n.toNat % 4 = 0 → o.val + n.toNat ≤ s.certificate.length →
        ∃ u, exec (.attestReadCert o n) s = .next u ∧ Done ((s.certificate.drop o.val).take n.toNat) s u) ∧
      (s.certificate.length < o.val + n.toNat → exec (.attestReadCert o n) s = .next { s with resp := .vendor 3 [] })) := by
  have hsign := exec_of_request442 (show exec (.attestSign nonce) s = execAttestSign nonce s from rfl) h
  have hreport := exec_of_request442 (show exec (.attestReadReport o n) s = execAttestReadReport o n s from rfl) h
  have hcert := exec_of_request442 (show exec (.attestReadCert o n) s = execAttestReadCert o n s from rfl) h
  have hinvalid : s.vendor 12 3 [] = { s with resp := .vendor 3 [] } := s.vendor_plain 12 [] (by decide) (by decide) (by decide)
  refine ⟨fun hoff => ?_, fun hoff hst => ?_⟩
  · rw [hsign, hreport, hcert, if_pos hoff, if_pos hoff, if_pos hoff, s.vendor_unavailable 12]
    exact ⟨rfl, rfl, rfl⟩
  have hon : ¬(s.mainOff = true ∨ s.inStandby = true) := by simp [hoff, hst]
  rw [if_neg hon] at hsign hreport hcert
  refine ⟨fun hlen => ?_, fun hlen => ?_, fun hnone => ?_, fun l hl h4 h240 hmod hlen => ?_, fun h4 h240 hmod hlen => ⟨_, hcert, ?_⟩, fun hlen => ?_⟩
  · rw [hsign, if_pos hlen, hinvalid]
  · rw [hsign, if_neg (not_not.mpr hlen)]
    rfl
  · rw [hreport, hnone]
    dsimp only
    rw [s.vendor_unavailable 12]
  · rw [hreport, hl]
    exact ⟨_, rfl, State.attestPart_done h4 h240 hmod hlen⟩
  · exact State.attestPart_done h4 h240 hmod hlen
  · rw [hcert, State.attestPart, if_pos (.inr (.inr (.inr hlen))), hinvalid]

end

/-- Settles O50, request by request: each is answered by one vendor response, and a push by what the start keeps of it (`Boots`). -/
theorem landingPortActs : Obligations.LandingPortActs := by
  unfold Obligations.LandingPortActs
  refine ⟨fun key vin s => powerRequests_denied key vin, fun key s h hctl hoff => ?_, fun s => startRequested, fun off data n s => bufferRequests off data n,
    fun len p f s => imagePushed len p f, fun nonce o n s => attestRequests nonce o n⟩
  obtain ⟨hkey, hbusy, hreset⟩ := powerRequests_performed key h hctl hoff
  refine ⟨hkey, hbusy, hreset, standbyRequested h hctl hoff, runRequested h hctl hoff, fun hst => ?_, fun hst => ?_, offRequested h hctl hoff⟩
  · exact (exec_of_request442 (show exec .powerRun s = execPowerRun s from rfl) h).trans
      (congrArg Host.Outcome.next ((if_pos (by simp [hst])).trans (s.vendor_unavailable 8)))
  · exact (exec_of_request442 (show exec .powerStandby s = execPowerStandby s from rfl) h).trans
      (congrArg Host.Outcome.next ((if_pos (by simp [hst])).trans (s.vendor_unavailable 8)))

end Sys2Proof.Machine

namespace Sys2Proof.Machine

/-! PROOFS. Bundles retrain, move lanes and retire (O31; R297, R307 to R309, R312 to R316). -/

/-! ### The bundles of a die -/

theorem bundleNo_val (p : Bundle) : bundleNo p.val = p := Fin.ofNat_val_self p

theorem bundleNo_inj {p q : Nat} (hp : p < 78) (hq : q < 78) (h : bundleNo p = bundleNo q) : p = q := by
  have := congrArg Fin.val h
  simpa [bundleNo, Fin.ofNat, Nat.mod_eq_of_lt hp, Nat.mod_eq_of_lt hq] using this

theorem bundleMate_ne : ∀ p, p < 78 → bundleMate p ≠ p ∧ bundleMate p < 78 := by decide

theorem mem_bundlesOf (p : Bundle) : p.val ∈ bundlesOf (bundleDie p.val) :=
  List.mem_filter.mpr ⟨List.mem_range.mpr p.isLt, decide_eq_true rfl⟩

theorem bundleDie_range (p : Nat) (h : p < 78) : 1 ≤ bundleDie p ∧ bundleDie p ≤ 11 := by
  unfold bundleDie
  split_ifs <;> omega

theorem State.bundleUpd_at (s : State) (p : Nat) (f : BundleUnit → BundleUnit) : (s.bundleUpd p f).cwy.at p = f (s.cwy.at p) :=
  Tab.at_upd_same _ _ _

/-- The roles of a die's bundles are shown in registers of its bundles, and their states are as they were. -/
theorem State.refreshRoles_keeps (s : State) (pos : Nat) : OnlyRegs ((bundlesOf pos).map (fun q => .CWY_STAT (bundleNo q))) s (s.refreshRoles pos) ∧
    ∀ p, (s.refreshRoles pos).bundleState p = s.bundleState p := by
  unfold State.refreshRoles
  dsimp only
  refine List.foldlRecOn (motive := fun t => OnlyRegs _ s t ∧ ∀ p, t.bundleState p = s.bundleState p) _ _ ⟨OnlyRegs.refl _ s, fun _ => rfl⟩
    fun t ⟨ht, hstate⟩ q hq => ⟨?_, fun p => ?_⟩
  · have hmem : Reg.CWY_STAT (bundleNo q) ∈ (bundlesOf pos).map (fun q => Reg.CWY_STAT (bundleNo q)) := List.mem_map_of_mem hq
    exact ((ht.trans (OnlyRegs.fset _ _ hmem)).trans (OnlyRegs.bset _ _ hmem)).trans (OnlyRegs.bset _ _ hmem)
  · refine Eq.trans ?_ (hstate p)
    unfold State.bundleState State.bset
    rw [State.fget_fset_apart _ _ (by decide) (.inr (by decide)), State.fget_fset_apart _ _ (by decide) (.inr (by decide)),
      State.fget_fset_apart _ _ (by decide) (.inr (by decide))]

theorem State.setBundle_keeps (s : State) (p : Bundle) (st : Nat) :
    OnlyRegs ((bundlesOf (bundleDie p.val)).map (fun q => .CWY_STAT (bundleNo q))) s (s.setBundle p.val st) :=
  (OnlyRegs.fset _ _ (List.mem_map_of_mem (mem_bundlesOf p))).trans (State.refreshRoles_keeps _ _).1

theorem State.setBundle_state (s : State) (p : Nat) {st : Nat} (h : st < 8) : (s.setBundle p st).bundleState p = st := by
  rw [State.setBundle, (State.refreshRoles_keeps _ _).2, State.bundleState, State.fget_fset_same _ _ _ _ (by decide)]
  exact Nat.mod_eq_of_lt h

theorem State.setBundle_other (s : State) {p q : Nat} (st : Nat) (hp : p < 78) (hq : q < 78) (h : q ≠ p) :
    (s.setBundle p st).bundleState q = s.bundleState q := by
  rw [State.setBundle, (State.refreshRoles_keeps _ _).2, State.bundleState,
    State.fget_fset_other _ _ _ _ (by intro e; exact h (bundleNo_inj hq hp (Reg.CWY_STAT.inj e)))]
  rfl

/-- What the bundle `p` shows, and the log, when another bundle's state changes. -/
structure BundleRests (p : Nat) (s t : State) : Prop where
  state : t.bundleState p = s.bundleState p
  failing : (t.cwy.at p).failing = (s.cwy.at p).failing
  clkFail : (t.cwy.at p).clkFail = (s.cwy.at p).clkFail
  repair : ∀ d, t.rget (repairReg p d) = s.rget (repairReg p d)
  evt : ∀ f ∈ [F.CWY_EVT_RETRAINED, F.CWY_EVT_RETIRED], t.bget (.CWY_EVT (bundleNo p)) f = s.bget (.CWY_EVT (bundleNo p)) f
  log : s.log.recs <+: t.log.recs

namespace BundleRests
variable {p : Nat} {s t u : State}

theorem refl (p : Nat) (s : State) : BundleRests p s s := ⟨rfl, rfl, rfl, fun _ => rfl, fun _ _ => rfl, List.prefix_rfl⟩

theorem trans (h : BundleRests p s t) (g : BundleRests p t u) : BundleRests p s u :=
  ⟨g.state.trans h.state, g.failing.trans h.failing, g.clkFail.trans h.clkFail, fun d => (g.repair d).trans (h.repair d),
    fun f hf => (g.evt f hf).trans (h.evt f hf),
    h.log.trans g.log⟩

theorem of_survives (h : Survives true s t) (hlog : s.log.recs <+: t.log.recs) : BundleRests p s t :=
  ⟨h.bundleState p, ((h.bundles rfl).2 p).1, ((h.bundles rfl).2 p).2, fun _ => (h.bundles rfl).1 _ rfl,
    fun f _ => State.bget_of_rget ((h.bundles rfl).1 _ rfl) f, hlog⟩

/-- The neighbour of a bundle retrains without it. -/
theorem mateGoes (s : State) (p : Bundle) : BundleRests p.val s (s.mateGoes p.val) := by
  obtain ⟨hne, hlt⟩ := bundleMate_ne p.val p.isLt
  have hupd (t : State) (f : BundleUnit → BundleUnit) : BundleRests p.val t (t.bundleUpd (bundleMate p.val) f) := by
    have hcwy : (t.bundleUpd (bundleMate p.val) f).cwy.at p.val = t.cwy.at p.val :=
      (Tab.at_upd _ _ _ _).trans (if_neg (Ne.symm hne))
    exact ⟨rfl, by rw [hcwy], by rw [hcwy], fun _ => rfl, fun _ _ => rfl, List.prefix_rfl⟩
  have hset (t : State) (st : Nat) : BundleRests p.val t (t.setBundle (bundleMate p.val) st) := by
    have honly := t.setBundle_keeps ⟨bundleMate p.val, hlt⟩ st
    have hregs {r : Reg} (hr : ∀ q, r ≠ .CWY_STAT q) : (t.setBundle (bundleMate p.val) st).rget r = t.rget r :=
      honly.2 r fun hmem => by
        obtain ⟨q, -, hq⟩ := List.mem_map.mp hmem
        exact hr _ hq.symm
    have hrest := honly.1
    refine ⟨t.setBundle_other st hlt p.isLt (Ne.symm hne), ?_, ?_, fun d => hregs (by simp [repairReg]),
      fun f _ => State.bget_of_rget (hregs (by simp)) f, ?_⟩
    · rw [hrest]
    · rw [hrest]
    · rw [hrest]
  unfold State.mateGoes State.retrainBundle
  dsimp only
  split_ifs
  · exact hupd s _
  · exact (hset s 3).trans (hupd _ _)
  · exact refl _ s

end BundleRests

/-- The event of a bundle is set, and stays beside the others. -/
theorem State.cwyEvt_evt (s : State) (p : Nat) {f : Fld} (src : Nat) (hf : f.lo + f.len ≤ 32) (h1 : 1 ≤ f.len) :
    (s.cwyEvt p f src).bget (.CWY_EVT (bundleNo p)) f = true := by
  have hset : (s.bset (.CWY_EVT (bundleNo p)) f true).bget (.CWY_EVT (bundleNo p)) f = true := State.bget_bset_same _ _ _ _ hf h1
  unfold State.cwyEvt
  dsimp only
  split
  · exact hset
  · rw [State.raise_bget _ _ (by simp [signalRegs])]
    exact hset

theorem State.cwyEvt_rget (s : State) (p : Nat) (f : Fld) (src : Nat) {r : Reg} (hr : r ∉ .CWY_EVT (bundleNo p) :: signalRegs) :
    (s.cwyEvt p f src).rget r = s.rget r := by
  obtain ⟨hevt, hsig⟩ : r ≠ .CWY_EVT (bundleNo p) ∧ r ∉ signalRegs := by simpa using hr
  unfold State.cwyEvt
  dsimp only
  split
  · exact State.rget_fset_other _ _ _ hevt
  · rw [State.raise_rget _ _ hsig]
    exact State.rget_fset_other _ _ _ hevt

theorem State.cwyEvt_cwy (s : State) (p : Nat) (f : Fld) (src : Nat) : (s.cwyEvt p f src).cwy = s.cwy ∧ (s.cwyEvt p f src).log = s.log := by
  unfold State.cwyEvt
  dsimp only
  split
  · exact ⟨rfl, rfl⟩
  · exact ⟨State.raise_cwy _ _, State.raise_log _ _⟩

/-- The state of a bundle that retires, before its record is written. -/
def State.bundleGone (s : State) (p : Nat) : State :=
  (((s.setBundle p 5).bundleUpd p (fun b => { b with wait := false, failing := [] })).moveBundle p).cwyEvt p F.CWY_EVT_RETIRED 26

/-- The work of one direction of the bundle `p` goes to the bundle that stands in for it. -/
def State.moveDir (s : State) (p k : Nat) : State :=
  (s.dirUpd p k (fun d => { d with writes := [], asked := d.asked.filter (fun x => 3 ≤ x.2.op) })).dirUpd (s.standIn p) k
    (fun x => { x with writes := x.writes ++ (s.dirOf p k).writes })

theorem Survives.moveDir {s₀ s : State} {p k : Nat} (h : Survives true s₀ s) : Survives true s₀ (s.moveDir p k) :=
  Survives.dirUpd (Survives.dirUpd h)

theorem State.moveDir_log (s : State) (p k : Nat) : (s.moveDir p k).log = s.log := rfl

theorem State.moveBundle_eq (s : State) (p : Nat) : s.moveBundle p = (s.moveDir p 0).moveDir p 1 := rfl

theorem State.moveBundle_survives (s : State) (p : Nat) : Survives true s (s.moveBundle p) ∧ (s.moveBundle p).log = s.log := by
  rw [State.moveBundle_eq]
  exact ⟨Survives.moveDir (Survives.moveDir (Survives.refl s)), ((s.moveDir p 0).moveDir_log p 1).trans (s.moveDir_log p 0)⟩

theorem State.bundleGone_state (s : State) (p : Bundle) : (s.bundleGone p.val).bundleState p.val = 5 := by
  have hmove := (((s.setBundle p.val 5).bundleUpd p.val (fun b => { b with wait := false, failing := [] })).moveBundle_survives p.val).1
  rw [State.bundleGone, State.bundleState, State.fget_of_rget (State.cwyEvt_rget _ _ _ _ (by simp [signalRegs]))]
  exact (hmove.bundleState p.val).trans (s.setBundle_state p.val (by decide))

/-- The unit of a bundle that retires, once its state is shown. -/
def State.bundleIdle (s : State) (p : Nat) : State := (s.setBundle p 5).bundleUpd p (fun b => { b with wait := false, failing := [] })

theorem State.bundleGone_eq (s : State) (p : Nat) : s.bundleGone p = ((s.bundleIdle p).moveBundle p).cwyEvt p F.CWY_EVT_RETIRED 26 := rfl

theorem State.bundleIdle_cwy (s : State) (p : Bundle) : ((s.bundleIdle p.val).cwy.at p.val).failing = [] ∧
    ((s.bundleIdle p.val).cwy.at p.val).clkFail = (s.cwy.at p.val).clkFail := by
  have hset : (s.setBundle p.val 5).cwy = s.cwy := by rw [(s.setBundle_keeps p 5).1]
  rw [State.bundleIdle, State.bundleUpd_at, hset]
  exact ⟨rfl, rfl⟩

theorem State.bundleGone_cwy (s : State) (p : Bundle) : ((s.bundleGone p.val).cwy.at p.val).failing = [] ∧
    ((s.bundleGone p.val).cwy.at p.val).clkFail = (s.cwy.at p.val).clkFail := by
  obtain ⟨hfail, hclk⟩ := s.bundleIdle_cwy p
  obtain ⟨hmove, hlog⟩ := (s.bundleIdle p.val).moveBundle_survives p.val
  have hrests := BundleRests.of_survives (p := p.val) hmove (by rw [hlog])
  rw [State.bundleGone_eq, (State.cwyEvt_cwy _ _ _ _).1]
  exact ⟨hrests.failing.trans hfail, hrests.clkFail.trans hclk⟩

theorem State.bundleGone_evt (s : State) (p : Nat) : (s.bundleGone p).bget (.CWY_EVT (bundleNo p)) F.CWY_EVT_RETIRED = true :=
  State.cwyEvt_evt _ _ _ (by decide) (by decide)

theorem State.bundleGone_repair (s : State) (p : Bundle) (d : Nat) : (s.bundleGone p.val).rget (repairReg p.val d) = s.rget (repairReg p.val d) := by
  have hmove := (((s.setBundle p.val 5).bundleUpd p.val (fun b => { b with wait := false, failing := [] })).moveBundle_survives p.val).1
  rw [State.bundleGone, State.cwyEvt_rget _ _ _ _ (by simp [repairReg, signalRegs])]
  refine ((hmove.bundles rfl).1 (repairReg p.val d) rfl).trans ?_
  exact (s.setBundle_keeps p 5).2 _ (by simp [repairReg])

theorem State.bundleGone_log (s : State) (p : Bundle) : (s.bundleGone p.val).log = s.log := by
  have hmove := (((s.setBundle p.val 5).bundleUpd p.val (fun b => { b with wait := false, failing := [] })).moveBundle_survives p.val).2
  rw [State.bundleGone, (State.cwyEvt_cwy _ _ _ _).2]
  refine hmove.trans ?_
  show (s.setBundle p.val 5).log = s.log
  rw [(s.setBundle_keeps p 5).1]

theorem Survives.logLanes {bk : Bool} {s₀ s : State} {p st clk cause ok} (h : Survives bk s₀ s) : Survives bk s₀ (s.logLanes p st clk cause ok) :=
  Survives.foldl h fun h => Survives.logRec h

/-- From a bundle's retirement on, only its neighbour and, with the last bundle, its die follow. -/
theorem State.retireBundle_rests (s : State) (p : Bundle) (clk cause : Nat) (ok : Bool) (h : s.bundleState p.val ∉ [0, 5]) :
    BundleRests p.val ((s.bundleGone p.val).logLanes p.val 5 clk cause ok) (s.retireBundle p.val clk cause ok) := by
  obtain ⟨h0, h5⟩ : s.bundleState p.val ≠ 0 ∧ s.bundleState p.val ≠ 5 := by simpa using h
  have hmate := BundleRests.mateGoes ((s.bundleGone p.val).logLanes p.val 5 clk cause ok) p
  have hretire : s.retireBundle p.val clk cause ok = if (bundlesOf (bundleDie p.val)).all (fun q =>
        (((s.bundleGone p.val).logLanes p.val 5 clk cause ok).mateGoes p.val).bundleState q = 5)
      then (((s.bundleGone p.val).logLanes p.val 5 clk cause ok).mateGoes p.val).fenceDie (bundleDie p.val) 5 ok
      else ((s.bundleGone p.val).logLanes p.val 5 clk cause ok).mateGoes p.val := if_neg (by simp [h0, h5])
  rw [hretire]
  generalize ((s.bundleGone p.val).logLanes p.val 5 clk cause ok).mateGoes p.val = t at hmate
  split
  · next hall =>
    have hpos := (bundleDie_range p.val p.isLt).1
    exact hmate.trans (.of_survives (Survives.fenceDie_retired 5 ok (by omega) fun q hq => by simpa using List.all_eq_true.mp hall q hq)
      (Keeps.log_grows (Keeps.fenceDie (Keeps.rfl t))))
  · exact hmate

theorem State.logLanes_rests (s : State) (p st clk cause : Nat) (ok : Bool) : BundleRests p s (s.logLanes p st clk cause ok) :=
  .of_survives (Survives.logLanes (Survives.refl s)) (Keeps.log_grows (Keeps.logLanes (Keeps.rfl s)))

/-- The record of a bundle's first direction stands in the log when it has room. -/
theorem State.logLanes_logged (s : State) (p st clk cause : Nat) (hroom : s.log.recs.length < 131072) :
    ∃ x ∈ (s.logLanes p st clk cause true).log.recs, x.typ = 0x06 ∧ x.cause = cause ∧ x.a = p + st * 256 + clk * 2048 := by
  have hmem := State.logRec_room (s := s) ⟨0x06, cause, p + 0 * 128 + st * 256 + clk * 2048, (s.rget (repairReg p 0)).toNat, 0, false⟩ hroom
  have hstep (t : State) (r : LogRec) : t.log.recs <+: (t.logRec r true).log.recs := Keeps.log_grows (Keeps.logRec (Keeps.rfl t))
  exact ⟨_, (hstep _ _).subset hmem, rfl, rfl, by simp⟩

/-! ### Retirement -/

theorem bundleRetire_retires (p : Bundle) (clk cause : Nat) (ok : Bool) (s : State) (h : s.bundleState p.val ∉ [0, 5]) :
    (s.retireBundle p.val clk cause ok).bundleState p.val = 5 ∧
    ((s.retireBundle p.val clk cause ok).cwy.at p.val).failing = [] ∧
    ((s.retireBundle p.val clk cause ok).cwy.at p.val).clkFail = (s.cwy.at p.val).clkFail ∧
    (s.retireBundle p.val clk cause ok).bget (.CWY_EVT p) F.CWY_EVT_RETIRED = true ∧
    (s.retireBundle p.val clk cause ok).rget (repairReg p.val 0) = s.rget (repairReg p.val 0) ∧
    (ok = true → s.log.recs.length < 131072 → ∃ x ∈ (s.retireBundle p.val clk cause ok).log.recs, x.typ = 0x06 ∧ x.cause = cause ∧
      x.a = p.val + 5 * 256 + clk * 2048) := by
  have hrests := (State.logLanes_rests (s.bundleGone p.val) p.val 5 clk cause ok).trans (s.retireBundle_rests p clk cause ok h)
  obtain ⟨hfail, hclk⟩ := s.bundleGone_cwy p
  have hevt := s.bundleGone_evt p.val
  have hrest := hrests.evt F.CWY_EVT_RETIRED (by simp)
  rw [bundleNo_val] at hevt hrest
  refine ⟨hrests.state.trans (s.bundleGone_state p), hrests.failing.trans hfail, hrests.clkFail.trans hclk,
    hrest.trans hevt, (hrests.repair 0).trans (s.bundleGone_repair p 0), fun hok hroom => ?_⟩
  subst hok
  obtain ⟨x, hx, htyp, hcause, ha⟩ := (s.bundleGone p.val).logLanes_logged p.val 5 clk cause (by rw [s.bundleGone_log]; exact hroom)
  exact ⟨x, (s.retireBundle_rests p clk cause true h).log.subset hx, htyp, hcause, ha⟩

theorem bundleRetire_completes (p : Bundle) (dir ok : Bool) (s : State) :
    (s.bundleState p.val ∈ [0, 5] → exec (.bundleRetire p ok) s = .next s ∧ exec (.clockPairLost p dir ok) s = .next s) ∧
    (s.bundleState p.val ∉ [0, 5] →
      (∃ u, exec (.bundleRetire p ok) s = .next u ∧ u.bundleState p.val = 5 ∧ u.bget (.CWY_EVT p) F.CWY_EVT_RETIRED = true ∧
        u.rget (repairReg p.val 0) = s.rget (repairReg p.val 0) ∧
        (ok = true → s.log.recs.length < 131072 → ∃ x ∈ u.log.recs, x.typ = 0x06 ∧ x.cause = 0 ∧ x.a = p.val + 5 * 256)) ∧
      (∃ u, exec (.clockPairLost p dir ok) s = .next u ∧ u.bundleState p.val = 5 ∧
        (dir = false → (u.cwy.at p.val).clkFail = true))) := by
  refine ⟨fun h => ?_, fun h => ⟨?_, ?_⟩⟩
  · have hno : s.bundleState p.val = 0 ∨ s.bundleState p.val = 5 := by simpa using h
    exact ⟨congrArg Host.Outcome.next (if_pos hno.symm), if_pos hno⟩
  · obtain ⟨hstate, -, -, hevt, hrepair, hlog⟩ := bundleRetire_retires p 0 0 ok s h
    exact ⟨_, rfl, hstate, hevt, hrepair, fun hok hroom => by simpa using hlog hok hroom⟩
  · obtain ⟨h0, h5⟩ : s.bundleState p.val ≠ 0 ∧ s.bundleState p.val ≠ 5 := by simpa using h
    change ∃ u, execClockPairLost p dir ok s = .next u ∧ _
    unfold execClockPairLost
    rw [if_neg (by simp [h0, h5])]
    extract_lets was s1 s2
    have hstate1 : s1.bundleState p.val ∉ [0, 5] := by
      dsimp only [s1]
      split
      · exact h
      · exact h
    have hclk1 : dir = false → (s1.cwy.at p.val).clkFail = true := fun hdir => by
      dsimp only [s1]
      rw [hdir, if_neg Bool.false_ne_true]
      rw [State.bundleUpd_at]
    obtain ⟨hstate, -, hclk, -⟩ := bundleRetire_retires p 1 5 ok s1 hstate1
    have hmoved (t : State) (q : Nat) (ht : t.bundleState p.val = 5 ∧ (dir = false → (t.cwy.at p.val).clkFail = true)) :
        (t.cwyEvt q F.CWY_EVT_CLK_MOVE 0).bundleState p.val = 5 ∧
          (dir = false → ((t.cwyEvt q F.CWY_EVT_CLK_MOVE 0).cwy.at p.val).clkFail = true) := by
      refine ⟨?_, fun hdir => ?_⟩
      · rw [State.bundleState, State.fget_of_rget (State.cwyEvt_rget _ _ _ _ (by simp [signalRegs]))]
        exact ht.1
      · rw [(State.cwyEvt_cwy _ _ _ _).1]
        exact ht.2 hdir
    have hretired : s2.bundleState p.val = 5 ∧ (dir = false → (s2.cwy.at p.val).clkFail = true) := ⟨hstate, fun hdir => hclk.trans (hclk1 hdir)⟩
    split
    · split
      · exact ⟨_, rfl, hmoved s2 _ hretired⟩
      · exact ⟨_, rfl, hretired⟩
    · exact ⟨_, rfl, hretired⟩

/-! ### Retrains -/

theorem State.bundleUpd_rest {s t : State} {p : Nat} (f : BundleUnit → BundleUnit) (h : t = { s with regs := t.regs }) :
    t.bundleUpd p f = { s with regs := (t.bundleUpd p f).regs, cwy := (t.bundleUpd p f).cwy } := by
  rw [h]
  rfl

theorem bundleRetrain_completes (p : Bundle) (s : State) :
    ((s.bundleLive p.val = false ∨ s.level2 = false) → exec (.bundleRetrain p) s = .next s) ∧
    (s.bundleLive p.val = true → s.level2 = true → s.bundleState (bundleMate p.val) ≠ 3 →
      ∃ u, exec (.bundleRetrain p) s = .next u ∧ u.bundleState p.val = 3 ∧
        RegsKept ((bundlesOf (bundleDie p.val)).map (fun q => .CWY_STAT (bundleNo q))) s u ∧
        u = { s with regs := u.regs, cwy := u.cwy }) ∧
    (s.bundleLive p.val = true → s.level2 = true → s.bundleState (bundleMate p.val) = 3 →
      ∃ u, exec (.bundleRetrain p) s = .next u ∧ u.cwy.at p.val = { s.cwy.at p.val with wait := true } ∧
        u = { s with cwy := u.cwy }) := by
  have hexec (hlive : s.bundleLive p.val = true) (hlevel : s.level2 = true) : exec (.bundleRetrain p) s = .next (s.retrainBundle p.val) :=
    if_pos (by simp [hlive, hlevel])
  refine ⟨fun h => if_neg ?_, fun hlive hlevel hmate => ⟨_, hexec hlive hlevel, ?_⟩, fun hlive hlevel hmate => ⟨_, hexec hlive hlevel, ?_⟩⟩
  · rcases h with h | h <;> simp [h]
  · obtain ⟨hrest, hregs⟩ := s.setBundle_keeps p 3
    rw [State.retrainBundle, if_neg hmate]
    exact ⟨s.setBundle_state p.val (by decide), hregs, State.bundleUpd_rest _ hrest⟩
  · rw [State.retrainBundle, if_pos hmate]
    exact ⟨State.bundleUpd_at s p.val _, rfl⟩

/-- A bundle that comes back with the maps `m0` and `m1` in the state `st`, before its record is written. -/
def State.bundleBack (s : State) (p : Nat) (m0 m1 : List Nat) (u : Bool) (st : Nat) (f : Fld) (src : Nat) : State :=
  (((s.setRepair p m0 m1).bset (.CWY_STAT (bundleNo p)) F.CWY_STAT_HALF_UPPER u).setBundle p st).cwyEvt p f src

/-- The record of a bundle that came back. -/
def State.backLogged (s : State) (p st : Nat) (ok : Bool) : State :=
  if s.logRoom ok then s.logLanes p st 0 5 ok else (s.logLanes p st 0 5 ok).cwyEvt p F.CWY_EVT_LOG_FAIL 27

theorem State.retrainEnds_full (s : State) (p : Nat) (m0 m1 : List Nat) (ok : Bool) :
    s.retrainEnds p (.full m0 m1) ok = (s.bundleBack p m0 m1 false 2 F.CWY_EVT_RETRAINED 24).backLogged p 2 ok := rfl

theorem State.retrainEnds_half (s : State) (p : Nat) (u : Bool) (m0 m1 : List Nat) (ok : Bool) :
    s.retrainEnds p (.half u m0 m1) ok = (s.bundleBack p m0 m1 u 4 F.CWY_EVT_HALF 25).backLogged p 4 ok := rfl

theorem State.cwyEvt_logFail_rests (s : State) (p : Nat) : BundleRests p s (s.cwyEvt p F.CWY_EVT_LOG_FAIL 27) := by
  obtain ⟨hcwy, hlog⟩ := s.cwyEvt_cwy p F.CWY_EVT_LOG_FAIL 27
  refine ⟨State.fget_of_rget (State.cwyEvt_rget _ _ _ _ (by simp [signalRegs])) _, by rw [hcwy], by rw [hcwy],
    fun d => State.cwyEvt_rget _ _ _ _ (by simp [repairReg, signalRegs]), fun f hf => ?_, by rw [hlog]⟩
  have hraise : (s.cwyEvt p F.CWY_EVT_LOG_FAIL 27).rget (.CWY_EVT (bundleNo p)) =
      (s.bset (.CWY_EVT (bundleNo p)) F.CWY_EVT_LOG_FAIL true).rget (.CWY_EVT (bundleNo p)) := State.raise_rget _ _ (by simp [signalRegs])
  refine (State.bget_of_rget hraise f).trans (State.bget_bset_apart _ _ (by decide) (.inr (.inl ?_)))
  obtain rfl | rfl : f = F.CWY_EVT_RETRAINED ∨ f = F.CWY_EVT_RETIRED := by simpa using hf
  · decide
  · decide

theorem State.backLogged_rests (s : State) (p st : Nat) (ok : Bool) : BundleRests p s (s.backLogged p st ok) := by
  unfold State.backLogged
  split
  · exact s.logLanes_rests p st 0 5 ok
  · exact (s.logLanes_rests p st 0 5 ok).trans (State.cwyEvt_logFail_rests _ p)

theorem State.bundleBack_state (s : State) (p : Nat) (m0 m1 : List Nat) (u : Bool) {st : Nat} (f : Fld) (src : Nat) (h : st < 8) :
    (s.bundleBack p m0 m1 u st f src).bundleState p = st :=
  (State.fget_of_rget (State.cwyEvt_rget _ _ _ _ (by simp [signalRegs])) _).trans (State.setBundle_state _ p h)

theorem State.bundleBack_cwy (s : State) (p : Bundle) (m0 m1 : List Nat) (u : Bool) (st : Nat) (f : Fld) (src : Nat) :
    (s.bundleBack p.val m0 m1 u st f src).cwy = s.cwy := by
  rw [State.bundleBack, (State.cwyEvt_cwy _ _ _ _).1, (State.setBundle_keeps _ p st).1]
  rfl

theorem State.bundleBack_repair (s : State) (p : Bundle) (m0 m1 : List Nat) (u : Bool) (st : Nat) (f : Fld) (src : Nat) :
    (s.bundleBack p.val m0 m1 u st f src).rget (repairReg p.val 0) = repairWord m0 ∧
    (s.bundleBack p.val m0 m1 u st f src).rget (repairReg p.val 1) = repairWord m1 := by
  have hother (d : Nat) : (s.bundleBack p.val m0 m1 u st f src).rget (repairReg p.val d) = (s.setRepair p.val m0 m1).rget (repairReg p.val d) := by
    rw [State.bundleBack, State.cwyEvt_rget _ _ _ _ (by simp [repairReg, signalRegs]),
      (State.setBundle_keeps _ p st).2 _ (by simp [repairReg])]
    exact State.rget_fset_other _ _ _ (by simp [repairReg])
  refine ⟨(hother 0).trans ?_, (hother 1).trans (State.rget_rset_same _ _ _)⟩
  exact (State.rget_rset_other _ _ (by simp [repairReg])).trans (State.rget_rset_same _ _ _)

theorem State.bundleBack_evt (s : State) (p : Nat) (m0 m1 : List Nat) (u : Bool) (st : Nat) (f : Fld) (src : Nat) (hf : f.lo + f.len ≤ 32)
    (h1 : 1 ≤ f.len) : (s.bundleBack p m0 m1 u st f src).bget (.CWY_EVT (bundleNo p)) f = true := State.cwyEvt_evt _ _ _ hf h1

/-- A retrain takes the state of a bundle that is known, and leaves no failing lane waiting. -/
theorem State.retrainEnds_ends (s : State) (p : Bundle) (w : Width) (ok : Bool) (h : s.bundleState p.val = 3)
    (hfail : (s.cwy.at p.val).failing = []) :
    (s.retrainEnds p.val w ok).bundleState p.val ∈ [2, 4, 5] ∧ ((s.retrainEnds p.val w ok).cwy.at p.val).failing = [] := by
  have hback (m0 m1 : List Nat) (u : Bool) (st : Nat) (f : Fld) (src : Nat) (hst : st < 8) :
      ((s.bundleBack p.val m0 m1 u st f src).backLogged p.val st ok).bundleState p.val = st ∧
      (((s.bundleBack p.val m0 m1 u st f src).backLogged p.val st ok).cwy.at p.val).failing = [] := by
    have hrests := (s.bundleBack p.val m0 m1 u st f src).backLogged_rests p.val st ok
    refine ⟨hrests.state.trans (State.bundleBack_state s p.val m0 m1 u f src hst), hrests.failing.trans ?_⟩
    rw [State.bundleBack_cwy, hfail]
  cases w with
  | full m0 m1 =>
    obtain ⟨hstate, hnone⟩ := hback m0 m1 false 2 F.CWY_EVT_RETRAINED 24 (by decide)
    exact ⟨by rw [State.retrainEnds_full, hstate]; decide, hnone⟩
  | half u m0 m1 =>
    obtain ⟨hstate, hnone⟩ := hback m0 m1 u 4 F.CWY_EVT_HALF 25 (by decide)
    exact ⟨by rw [State.retrainEnds_half, hstate]; decide, hnone⟩
  | none =>
    obtain ⟨hstate, hnone, -⟩ := bundleRetire_retires p 0 5 ok s (by rw [h]; decide)
    exact ⟨(congrArg (· ∈ [2, 4, 5]) hstate).mpr (by decide), hnone⟩

/-- The bad lanes of a bundle are taken in, and its windows begin again. -/
def State.lanesTaken (s : State) (p : Nat) (l : List Nat) : State :=
  [0, 1].foldl (fun (s : State) k => s.dirUpd p k (fun d => { d with win := [], flits := 0 }))
    ((l.foldl (fun (s : State) x => s.dirUpd p (x / 128) (fun d => d.laneBad (x % 128))) s).bundleUpd p (fun b => { b with failing := [] }))

theorem State.lanesTaken_cwy (s : State) (p : Nat) (l : List Nat) : s.lanesTaken p l = { s with cwy := (s.lanesTaken p l).cwy } := by
  have hdir {t : State} (k : Nat) (f : DirUnit → DirUnit) (h : t = { s with cwy := t.cwy }) :
      t.dirUpd p k f = { s with cwy := (t.dirUpd p k f).cwy } := by
    rw [h]
    rfl
  have hbundle {t : State} (f : BundleUnit → BundleUnit) (h : t = { s with cwy := t.cwy }) :
      t.bundleUpd p f = { s with cwy := (t.bundleUpd p f).cwy } := by
    rw [h]
    rfl
  exact hdir 1 _ (hdir 0 _ (hbundle _ (List.foldlRecOn (motive := fun (t : State) => t = { s with cwy := t.cwy }) l _ rfl fun t ht x _ => hdir _ _ ht)))

theorem State.dirUpd_at (s : State) (p k : Nat) (f : DirUnit → DirUnit) :
    (s.dirUpd p k f).cwy.at p = { s.cwy.at p with dirs := (s.cwy.at p).dirs.upd k f } := State.bundleUpd_at s p _

theorem State.dirOf_dirUpd (s : State) (p k j : Nat) (f : DirUnit → DirUnit) :
    (s.dirUpd p k f).dirOf p j = if j = k then f (s.dirOf p k) else s.dirOf p j := by
  rw [State.dirOf, State.dirUpd_at]
  exact Tab.at_upd _ _ _ _

theorem State.lanesTaken_failing (s : State) (p : Nat) (l : List Nat) : ((s.lanesTaken p l).cwy.at p).failing = [] := by
  have htwo (t : State) (f g : DirUnit → DirUnit) (h : (t.cwy.at p).failing = []) : (((t.dirUpd p 0 f).dirUpd p 1 g).cwy.at p).failing = [] := by
    rw [State.dirUpd_at, State.dirUpd_at]
    exact h
  exact htwo _ _ _ (by rw [State.bundleUpd_at])

theorem State.lanesTaken_dirOf (s : State) (p k : Nat) : ((s.lanesTaken p []).dirOf p k).bad = (s.dirOf p k).bad ∧
    ((s.lanesTaken p []).dirOf p k).spareBad = (s.dirOf p k).spareBad := by
  have hbundle : ((s.bundleUpd p (fun b => { b with failing := [] })).dirOf p k) = s.dirOf p k := by
    rw [State.dirOf, State.bundleUpd_at]
    rfl
  have htwo (t : State) (f : DirUnit → DirUnit) (hf : ∀ d, (f d).bad = d.bad ∧ (f d).spareBad = d.spareBad) :
      (((t.dirUpd p 0 f).dirUpd p 1 f).dirOf p k).bad = (t.dirOf p k).bad ∧
      (((t.dirUpd p 0 f).dirUpd p 1 f).dirOf p k).spareBad = (t.dirOf p k).spareBad := by
    rcases eq_or_ne k 1 with rfl | hk
    · simp [State.dirOf_dirUpd, hf]
    · rcases eq_or_ne k 0 with rfl | hk'
      · simp [State.dirOf_dirUpd, hf]
      · simp [State.dirOf_dirUpd, hk, hk']
  have hrest := htwo (s.bundleUpd p (fun b => { b with failing := [] })) (fun d => { d with win := [], flits := 0 }) fun _ => ⟨rfl, rfl⟩
  rw [hbundle] at hrest
  exact hrest

theorem exec_retrainDone (p : Bundle) (b0 b1 : List (Fin 70)) (ok : Bool) (s : State) (h : s.bundleState p.val = 3)
    (htest : s.fget .TST_STAT F.TST_STAT_STATE = 0) : ∃ l, (l = (s.cwy.at p.val).failing ++ b0.map (·.val) ++ b1.map (fun x => 128 + x.val)) ∧
      exec (.retrainDone p b0 b1 ok) s =
        .next (((s.lanesTaken p.val l).retrainEnds p.val ((s.lanesTaken p.val l).bundleWidth p.val) ok).mateGoes p.val) :=
  ⟨_, rfl, if_pos ⟨h, htest⟩⟩

theorem State.lanesTaken_state (s : State) (p : Nat) (l : List Nat) : (s.lanesTaken p l).bundleState p = s.bundleState p :=
  (congrArg (fun t => State.bundleState t p) (s.lanesTaken_cwy p l)).trans rfl

theorem retrainDone_ends (p : Bundle) (b0 b1 : List (Fin 70)) (ok : Bool) (s : State) :
    (s.bundleState p.val ≠ 3 → exec (.retrainDone p b0 b1 ok) s = .next s) ∧
    (s.bundleState p.val = 3 → s.fget .TST_STAT F.TST_STAT_STATE = 0 → ∃ u, exec (.retrainDone p b0 b1 ok) s = .next u ∧
      u.bundleState p.val ∈ [2, 4, 5] ∧ (u.cwy.at p.val).failing = []) := by
  refine ⟨fun h => if_neg (by simp [h]), fun h htest => ?_⟩
  obtain ⟨l, -, hexec⟩ := exec_retrainDone p b0 b1 ok s h htest
  obtain ⟨hstate, hfail⟩ := (s.lanesTaken p.val l).retrainEnds_ends p ((s.lanesTaken p.val l).bundleWidth p.val) ok
    ((s.lanesTaken_state p.val l).trans h) (s.lanesTaken_failing p.val l)
  have hmate := BundleRests.mateGoes ((s.lanesTaken p.val l).retrainEnds p.val ((s.lanesTaken p.val l).bundleWidth p.val) ok) p
  exact ⟨_, hexec, (congrArg (· ∈ [2, 4, 5]) hmate.state).mpr hstate, hmate.failing.trans hfail⟩

theorem State.bundleWidth_full (s : State) (p : Nat) {m0 m1 : List Nat}
    (h0 : repairMap (s.rget (repairReg p 0)) (s.dirOf p 0).bad (s.dirOf p 0).spareBad = some m0)
    (h1 : repairMap (s.rget (repairReg p 1)) (s.dirOf p 1).bad (s.dirOf p 1).spareBad = some m1) : s.bundleWidth p = .full m0 m1 := by
  unfold State.bundleWidth
  dsimp only
  rw [h0, h1]

theorem retrainDone_full (p : Bundle) (ok : Bool) (s : State) (m0 m1 : List Nat) (h : s.bundleState p.val = 3)
    (htest : s.fget .TST_STAT F.TST_STAT_STATE = 0) (hfail : (s.cwy.at p.val).failing = [])
    (h0 : repairMap (s.rget (repairReg p.val 0)) (s.dirOf p.val 0).bad (s.dirOf p.val 0).spareBad = some m0)
    (h1 : repairMap (s.rget (repairReg p.val 1)) (s.dirOf p.val 1).bad (s.dirOf p.val 1).spareBad = some m1) :
    ∃ u, exec (.retrainDone p [] [] ok) s = .next u ∧ u.bundleState p.val = 2 ∧ u.rget (repairReg p.val 0) = repairWord m0 ∧
      u.rget (repairReg p.val 1) = repairWord m1 ∧ u.bget (.CWY_EVT p) F.CWY_EVT_RETRAINED = true := by
  obtain ⟨l, hl, hexec⟩ := exec_retrainDone p [] [] ok s h htest
  obtain rfl : l = [] := by simpa [hfail] using hl
  have hregs (d : Nat) : (s.lanesTaken p.val []).rget (repairReg p.val d) = s.rget (repairReg p.val d) :=
    (congrArg (fun t => State.rget t (repairReg p.val d)) (s.lanesTaken_cwy p.val [])).trans rfl
  obtain ⟨hbad0, hspare0⟩ := s.lanesTaken_dirOf p.val 0
  obtain ⟨hbad1, hspare1⟩ := s.lanesTaken_dirOf p.val 1
  have hwidth := (s.lanesTaken p.val []).bundleWidth_full p.val (m0 := m0) (m1 := m1) (by rw [hregs, hbad0, hspare0, h0])
    (by rw [hregs, hbad1, hspare1, h1])
  rw [hwidth, State.retrainEnds_full] at hexec
  refine ⟨_, hexec, ?_⟩
  generalize s.lanesTaken p.val [] = t
  have hrests := ((t.bundleBack p.val m0 m1 false 2 F.CWY_EVT_RETRAINED 24).backLogged_rests p.val 2 ok).trans (BundleRests.mateGoes _ p)
  obtain ⟨hmap0, hmap1⟩ := t.bundleBack_repair p m0 m1 false 2 F.CWY_EVT_RETRAINED 24
  have hevt := hrests.evt F.CWY_EVT_RETRAINED (by simp)
  rw [bundleNo_val] at hevt
  refine ⟨hrests.state.trans (t.bundleBack_state p.val m0 m1 false _ _ (by decide)), (hrests.repair 0).trans hmap0, (hrests.repair 1).trans hmap1,
    hevt.trans ?_⟩
  have hset := t.bundleBack_evt p.val m0 m1 false 2 F.CWY_EVT_RETRAINED 24 (by decide) (by decide)
  rw [bundleNo_val] at hset
  exact hset

/-! ### Discovery -/

/-- What a die tells of itself. -/
def discDie (d : DieInfo) (w1 w2 : Word) : DieInfo :=
  { d with stepping := F.CWY_DISC_STEPPING.get w1, feature := F.CWY_DISC_FEATURE.get w1, serial := w2.toNat }

/-- The state of a bundle whose die has told what it is. -/
def State.discTaken (s : State) (p : Bundle) (w1 w2 : Word) : State :=
  let t := s.rset (.CWY_DISC p) (w1 &&& 0x07FFFF0F)
  { t with bup := { t.bup with dies := t.bup.dies.put (bundleDie p.val) (discDie (s.bup.dies.at (bundleDie p.val)) w1 w2) } }

theorem exec_discReceive (p : Bundle) (w1 w2 : Word) (ok : Bool) (s : State) (h : s.bundleState p.val ∉ [0, 5])
    (hnone : ∀ q ∈ bundlesOf (bundleDie p.val), q ≠ p.val → s.fget (.CWY_DISC (bundleNo q)) F.CWY_DISC_KIND = 0) :
    exec (.discReceive p w1 w2 ok) s = .next (if F.CWY_DISC_KIND.get w1 ≠ dieKind (bundleDie p.val) ∨ F.CWY_DISC_FEATURE.get w1 < 1 ∨
      F.CWY_DISC_LOCAL.get w1 ≠ bundleIx p.val then (s.discTaken p w1 w2).fenceDie (bundleDie p.val) 4 ok else s.discTaken p w1 w2) := by
  obtain ⟨h0, h5⟩ : s.bundleState p.val ≠ 0 ∧ s.bundleState p.val ≠ 5 := by simpa using h
  have hfirst : (bundlesOf (bundleDie p.val)).any (fun q => decide (q ≠ p.val) &&
      decide (s.fget (.CWY_DISC (bundleNo q)) F.CWY_DISC_KIND ≠ 0)) = false :=
    List.any_eq_false.mpr fun q hq => by
      by_cases hne : q = p.val
      · simp [hne]
      · simp [hnone q hq hne]
  show execDiscReceive p w1 w2 ok s = _
  unfold execDiscReceive
  extract_lets pos kind step feat old reported bad s1 bup s2
  rw [if_neg (by simp [h0, h5])]
  have htaken : s2 = s.discTaken p w1 w2 := if_neg (by rw [show reported = false from hfirst]; decide)
  have hbad : bad = (decide (kind ≠ dieKind pos) || decide (feat < 1) || decide (F.CWY_DISC_LOCAL.get w1 ≠ bundleIx p.val)) := by
    rw [show bad = (_ || (reported && _)) from rfl, show reported = false from hfirst, Bool.false_and, Bool.or_false]
  rw [htaken, hbad]
  simp only [Bool.or_eq_true, decide_eq_true_eq, or_assoc]
  rfl

theorem discReceive_completes (p : Bundle) (w1 w2 : Word) (ok : Bool) (s : State) (pos : Nat) (hpos : pos = bundleDie p.val)
    (h : s.bundleState p.val ∉ [0, 5])
    (hnone : ∀ q ∈ bundlesOf pos, q ≠ p.val → s.fget (.CWY_DISC (bundleNo q)) F.CWY_DISC_KIND = 0) :
    (F.CWY_DISC_KIND.get w1 = dieKind pos → 1 ≤ F.CWY_DISC_FEATURE.get w1 → F.CWY_DISC_LOCAL.get w1 = bundleIx p.val →
      ∃ u, exec (.discReceive p w1 w2 ok) s = .next u ∧ u.rget (.CWY_DISC p) = w1 &&& 0x07FFFF0F ∧
        (u.bup.dies.at pos).feature = F.CWY_DISC_FEATURE.get w1 ∧ (u.bup.dies.at pos).stepping = F.CWY_DISC_STEPPING.get w1 ∧
        (u.bup.dies.at pos).serial = w2.toNat ∧ RegsKept [.CWY_DISC p] s u ∧ u = { s with regs := u.regs, bup := u.bup }) ∧
    ((F.CWY_DISC_KIND.get w1 ≠ dieKind pos ∨ F.CWY_DISC_FEATURE.get w1 = 0 ∨ F.CWY_DISC_LOCAL.get w1 ≠ bundleIx p.val) →
      ∃ u, exec (.discReceive p w1 w2 ok) s = .next u ∧ u.dieFenced pos = true) := by
  subst hpos
  have hexec := exec_discReceive p w1 w2 ok s h hnone
  obtain ⟨hfirst, hlast⟩ := bundleDie_range p.val p.isLt
  refine ⟨fun hkind hfeat hlocal => ?_, fun hbad => ?_⟩
  · rw [if_neg (by simp only [hkind, hlocal]; omega)] at hexec
    have hdie : (s.discTaken p w1 w2).bup.dies.at (bundleDie p.val) = discDie (s.bup.dies.at (bundleDie p.val)) w1 w2 := Tab.at_put_same _ _ _
    refine ⟨_, hexec, State.rget_rset_same _ _ _, by rw [hdie]; rfl, by rw [hdie]; rfl, by rw [hdie]; rfl, fun r hr => ?_, rfl⟩
    exact State.rget_rset_other _ _ (by simpa using hr)
  · rw [if_pos (by rcases hbad with hkind | hfeat | hlocal; exacts [.inl hkind, .inr (.inl (by omega)), .inr (.inr hlocal)])] at hexec
    exact ⟨_, hexec, State.fenceDie_fenced _ 4 ok hfirst (by omega) (by omega)⟩

/-- Settles O31, by the state of the bundle that each event meets, what its retirement leaves to its neighbour and its die, and the width
that its lanes allow. -/
theorem bundlesRetrainAndRetire : Obligations.BundlesRetrainAndRetire :=
  ⟨bundleRetrain_completes, retrainDone_ends, fun p ok s m0 m1 => retrainDone_full p ok s m0 m1, bundleRetire_completes,
    discReceive_completes, fun p w1 w2 ok s h => if_pos (by simpa using h)⟩

end Sys2Proof.Machine

namespace Sys2Proof.Machine

/-! PROOFS. What the units go on with leaves the power unit's registers, the counts of events and every die that has woken as they are
(O43, O44): what `Survives` says, but for the answer that a request gets.  One lemma for each function, of its own name in `Endures`. -/

/-- `s` keeps of `s₀` what the loss of a unit leaves, but for the answer to a request. -/
def Endures (s₀ s : State) : Prop := Survives false { s₀ with resp := s.resp } s

theorem State.src_presentBest (s : State) (t : Nat) : (s.presentBest t).icu.src = s.icu.src := by
  unfold State.presentBest
  split
  · rfl
  · split
    · exact State.presentTo_src s _ t
    · rfl

theorem State.src_presentAll (s : State) : s.presentAll.icu.src = s.icu.src := by
  unfold State.presentAll
  generalize List.range 16 = l
  induction l generalizing s with
  | nil => rfl
  | cons t l ih => rw [List.foldl_cons, ih, State.src_presentBest]

namespace Survives
variable {bk : Bool} {s₀ s : State}

theorem presentAll (h : Survives bk s₀ s) : Survives bk s₀ s.presentAll :=
  signals h (Signals.presentAll s) fun k => by rw [State.src_presentAll]

theorem wrap {r f n} (h : Survives bk s₀ s)
    (hr : r ∉ [.BUP_STAT, .BUP_FENCED] ++ lossRegs ∧ bundleReg r = false := by simp [lossRegs, bundleReg]) : Survives bk s₀ (s.wrap r f n) := rset h hr

theorem emit {o} (h : Survives bk s₀ s) : Survives bk s₀ (s.emit o) := h

theorem readPart {hub point b lo hi} {x : State × Part256} (h : Survives bk s₀ s) (e : s.readPart hub point b lo hi = some x) :
    Survives bk s₀ x.1 := by
  have hread {hub scrub a} {t : State} {y : State × List Nat × List Bool × Word} (ht : Survives bk s₀ t) (e : t.readBlock hub scrub a = some y) :
      Survives bk s₀ y.1 := by
    unfold State.readBlock at e
    split at e
    · cases e
    · cases e
      exact withMem ht
  unfold State.readPart at e
  split at e
  · split at e
    · cases e
    · obtain ⟨_, _, rfl⟩ := Option.map_eq_some_iff.mp e
      exact h
  · extract_lets src got0 demote st0 at e
    split at e
    · cases e
    · have hgot {g : State × List Nat × List Bool × Word} (hg : got0 = some g) : Survives bk s₀ g.1 := hread h hg
      have h0 : Survives bk s₀ st0 := by
        clear_value got0
        refine ite (pageDemote ?_) h
        split
        · next g => exact hgot rfl
        · exact h
      split at e
      · cases e
      · next st ws ps man hgot =>
        cases e
        have hst : Survives bk s₀ st := by
          split at hgot
          · exact hread h0 hgot
          · exact hread h hgot
        exact stackCount (ite (manifestBad hst) hst)

theorem placeCount {a n} (h : Survives bk s₀ s) : Survives bk s₀ (s.placeCount a n) := by
  unfold State.placeCount
  split
  · exact ite h h
  · exact h

theorem readAt {hub point a n} (h : Survives bk s₀ s) : Survives bk s₀ (s.readAt hub point a n).st := by
  refine foldOver (g := Read.st) (ite h (placeCount h)) fun h => ?_
  split
  · exact h
  · split
    · exact h
    · next hp => exact readPart h hp

theorem dropped {a} (h : Survives bk s₀ s) : Survives bk s₀ (s.dropped a) := withMem h

theorem writeLocal {ref off data pois} (h : Survives bk s₀ s) : Survives bk s₀ (s.writeLocal ref off data pois) :=
  ite h (foldl h fun h => ite (ite h (writeCell h)) (writeCell (ite h (writeCell h))))

theorem loadEngine {e} (h : Survives bk s₀ s) : Survives bk s₀ (s.loadEngine e) := foldl (writeLocal h) fun h => writeLocal h

theorem groupCmd {i cmd arg ticket} (h : Survives bk s₀ s) : Survives bk s₀ (s.groupCmd i cmd arg ticket) := foldl h fun h => groupSend h

theorem stepFault {e step code slot addr} (h : Survives bk s₀ s) : Survives bk s₀ (s.stepFault e step code slot addr) := by
  unfold State.stepFault
  split
  · exact h
  · exact settle (ownFault (abortTask (putFault h)))

theorem ringEngine {e i v ticket} (h : Survives bk s₀ s) : Survives bk s₀ (s.ringEngine e i v ticket) :=
  ite (dbDrop h) (ite (ite h (dbDrop h)) (ite (stepFault h) h))

theorem rtvDoorbell {p v} (h : Survives bk s₀ s) : Survives bk s₀ (s.rtvDoorbell p v) := ite h (ite (rset h) (bset h))

theorem deliverLeaf {i v ticket l} (h : Survives bk s₀ s) : Survives bk s₀ (s.deliverLeaf i v ticket l) := by
  unfold State.deliverLeaf
  split
  · exact ringEngine h
  · exact foldl h fun h => rtvDoorbell h
  · exact ite (rset h) (bset h)
  · exact h

theorem deliverEntry {i v ticket j} (h : Survives bk s₀ s) : Survives bk s₀ (s.deliverEntry i v ticket j) := by
  unfold State.deliverEntry
  split
  · exact foldl h fun h => deliverLeaf h
  · exact h
  · exact h
  · exact h
  · exact dbDrop h

theorem ringSpan {i v ticket} (h : Survives bk s₀ s) : Survives bk s₀ (s.ringSpan i v ticket) := by
  unfold State.ringSpan
  split
  · exact foldl h fun h => deliverEntry h
  · exact deliverEntry h
  · exact deliverEntry h
  · exact dbDrop h

theorem transferOut {typ d mask a ticket host data pois} (h : Survives bk s₀ s) : Survives bk s₀ (s.transferOut typ d mask a ticket host data pois) :=
  foldOver (g := Prod.fst) h fun h => h

theorem withGrp {grp} (h : Survives bk s₀ s) : Survives bk s₀ ({ s with grp } : State) := h

theorem withTkt {tkt} (h : Survives bk s₀ s) : Survives bk s₀ ({ s with tkt } : State) := h

theorem tick (h : Survives bk s₀ s) : Survives bk s₀ s.tick := h

theorem hostRing {fn addr v} (h : Survives bk s₀ s) : Survives bk s₀ (s.hostRing fn addr v) := by
  unfold State.hostRing
  split
  · exact h
  · refine ite (groupCmd (ringSpan h)) ?_
    extract_lets t s1
    have h1 : Survives bk s₀ s1 := transferOut h
    exact withGrp h1

theorem ringNext (h : Survives bk s₀ s) : Survives bk s₀ s.ringNext := by
  have hheld (l) : ∀ {t : State}, Survives bk s₀ t → Survives bk s₀ (State.ringHeld l t) := by
    induction l with
    | nil => exact fun h => h
    | cons x l ih => exact fun h => ite h (ih (hostRing h))
  exact hheld _ h

theorem flitsOut {p k kind tag l} (h : Survives bk s₀ s) : Survives bk s₀ (s.flitsOut p k kind tag l) := foldl (flitsCross h) fun h => emit h

theorem fillSite {k} (h : Survives bk s₀ s) : Survives bk s₀ (s.fillSite k) := withMem h

theorem halfUpdate {h'} (h : Survives bk s₀ s) : Survives bk s₀ (s.halfUpdate h') := ite h (ite (fset h) (fset h))

theorem dozeOut {d} (h : Survives false s₀ s) : Survives false s₀ (s.dozeOut d) :=
  settle (foldl (wakes (foldl (restoreBundles h) fun h => fillSite h)) fun h => halfUpdate h)

theorem ldpEvt {i} (h : Survives bk s₀ s) : Survives bk s₀ (s.ldpEvt i) := raise (fset h)

end Survives

namespace Endures
variable {s₀ s : State}

theorem of_survives (h : Survives false s₀ s) : Endures s₀ s := by
  have hresp : s.resp = s₀.resp := h.resp
  unfold Endures
  rw [hresp]
  exact h

theorem refl (s : State) : Endures s s := Survives.refl s

theorem next {t : State} (h : Endures s₀ s) (g : Survives false s t) : Endures s₀ t := by
  have hall := Survives.trans h g
  have hresp : t.resp = s.resp := g.resp
  unfold Endures
  rw [hresp]
  exact hall

theorem ite {p : Prop} [Decidable p] {a b : State} (ha : Endures s₀ a) (hb : Endures s₀ b) : Endures s₀ (if p then a else b) := by
  split
  · exact ha
  · exact hb

theorem reply {p} (h : Endures s₀ s) : Endures s₀ (s.reply p) :=
  ⟨h.regs, h.fields, h.fenced, h.counts, rfl, h.faultN, h.pwr, h.tap, h.bup, h.woken, fun hk => absurd hk Bool.false_ne_true⟩

theorem cplFlit {p k h' st} (h : Endures s₀ s) : Endures s₀ (s.cplFlit p k h' st) := h.next (Survives.flitsOut (Survives.refl s))

theorem readFlits {p k h' a bytes pois} (h : Endures s₀ s) : Endures s₀ (s.readFlits p k h' a bytes pois) := h.next (Survives.flitsOut (Survives.refl s))

theorem hbrErr {f addr fn} (h : Endures s₀ s) : Endures s₀ (s.hbrErr f addr fn) :=
  have hcount : Survives false s ((s.bset .HBR_ERR f true).cnt .HBR_ERR F.HBR_ERR_COUNT 1) := Survives.cnt (Survives.bset (Survives.refl s))
  h.next (Survives.raise (Survives.fset (Survives.fset (Survives.fset (Survives.ite (Survives.bset hcount) hcount)))))

theorem tlpTx {n} (h : Endures s₀ s) : Endures s₀ (s.tlpTx n) := h.next (Survives.wrap (Survives.refl s))

theorem hostComplete {fn tag p} (h : Endures s₀ s) : Endures s₀ (s.hostComplete fn tag p) :=
  (reply (tlpTx h)).next (Survives.emit (Survives.refl _))

theorem hostData {fn tag addr data pois} (h : Endures s₀ s) : Endures s₀ (s.hostData fn tag addr data pois) :=
  ite (hostComplete (hbrErr (tlpTx h))) (hostComplete (tlpTx h))

theorem hostAbort {fn tag addr} (h : Endures s₀ s) : Endures s₀ (s.hostAbort fn tag addr) := hostComplete (hbrErr h)

theorem hostDrop {fn addr} (h : Endures s₀ s) : Endures s₀ (s.hostDrop fn addr) := reply (hbrErr h)

theorem ringNext (h : Endures s₀ s) : Endures s₀ s.ringNext := h.next (Survives.ringNext (Survives.refl s))

theorem asked {p k x} (h : Endures s₀ s) : Endures s₀ (s.dirUpd p k (fun d => { d with asked := d.asked.erase x })) :=
  h.next (Survives.dirUpd (Survives.refl s))

theorem answerDie {p q write} (h : Endures s₀ s) : Endures s₀ (s.answerDie p q write) := by
  unfold State.answerDie
  split
  · exact h
  · dsimp only
    split
    · exact cplFlit (asked h)
    · exact cplFlit (asked h)
    · exact readFlits (asked h)
    · exact cplFlit (asked h)

theorem answer {q write} (h : Endures s₀ s) : Endures s₀ (s.answer q write) := by
  unfold State.answer
  split
  · split
    · exact h
    · dsimp only
      split
      · exact h
      · exact h
      · exact h
      · exact h
  · split
    · refine ringNext ?_
      split
      · exact hostDrop h
      · exact h
    · split
      · exact h
      · dsimp only
        split
        · exact hostData h
        · exact hostAbort h
  · exact answerDie h
  · exact h

theorem wakeSite {a} (h : Endures s₀ s) : Endures s₀ (s.wakeSite a) := by
  unfold State.wakeSite
  split
  · exact h
  · exact h

theorem atResource {q r write held} (h : Endures s₀ s) : Endures s₀ (s.atResource q r write held) := by
  have hlevel : Survives false s (s.queueLevel r q.level.val) := Survives.queueLevel (Survives.refl s)
  have hwrap := Survives.ite (p := r < 8) (Survives.wrap (r := .STK_MISS_CNT (Fin.ofNat 8 r)) (f := F.STK_MISS_CNT_MISSES) (n := q.misses) hlevel) hlevel
  exact h.next (Survives.ite hwrap (Survives.countRead hwrap))

theorem serveRead {q} (h : Endures s₀ s) : Endures s₀ (s.serveRead q) := by
  unfold State.serveRead
  refine ite (reply h) ?_
  extract_lets p r s1
  have h1 : Endures s₀ s1 := (wakeSite h).next (Survives.settle (Survives.readAt (Survives.refl _)))
  refine ite (reply h1) ?_
  split
  · exact ite (reply h1) (reply h1)
  · exact reply h1

theorem serveWrite {q} (h : Endures s₀ s) : Endures s₀ (s.serveWrite q) := by
  unfold State.serveWrite
  refine ite (reply h) ?_
  extract_lets w s1
  have h1 : Endures s₀ s1 := (wakeSite h).next (Survives.writeAt (Survives.refl _))
  have hsettle {t : State} (g : Endures s₀ t) : Endures s₀ t.settle := g.next (Survives.settle (Survives.refl t))
  have hdrop (a : Nat) : Endures s₀ (s1.dropped a) := h1.next (Survives.dropped (Survives.refl s1))
  split
  · exact reply (hsettle h1)
  · split
    · exact reply (hsettle (hdrop _))
    · exact reply (hsettle (hdrop _))
    · exact reply (hsettle h1)
  · exact reply (hsettle h1)

theorem perform {q write held u} (h : Endures s₀ s) (e : s.perform q write held = .ok u) : Endures s₀ u := by
  unfold State.perform at e
  obtain ⟨t, ht, rfl⟩ := Keeps.ok_of_map e
  have ha : Endures s₀ t := h.next (Survives.eachUnit (Survives.refl s) (fun _ _ _ _ h e => Survives.crossBy h e) ht)
  extract_lets s1
  have h1 : Endures s₀ s1 := by
    dsimp only [s1]
    split
    · exact atResource ha
    · exact ha
  refine answer ?_
  split
  · exact serveWrite h1
  · exact serveRead h1

theorem pumpReqs {n} (h : Endures s₀ s) : Endures s₀ (State.pumpReqs n s) := by
  induction n generalizing s with
  | zero => exact h
  | succ n ih =>
    unfold State.pumpReqs
    split
    · exact h
    · next x _ =>
      extract_lets q t _ s1 s2
      have h1 : Endures s₀ s1 := h.next (Survives.withTkt (Survives.refl s))
      have h2 : Endures s₀ s2 := ite (h1.next (Survives.withTkt (Survives.refl s1))) h1
      have h3 (f : ResUnit → ResUnit) : Endures s₀ (s2.tick.resUpd x.1 f) := h2.next (Survives.withTkt (Survives.tick (Survives.refl s2)))
      split
      · rename_i e
        exact ih (perform (h3 _) e)
      · exact h

theorem pump (h : Endures s₀ s) : Endures s₀ s.pump := pumpReqs h

theorem rget {r : Reg} (h : Endures s₀ s) (hr : r ∈ lossRegs := by simp [lossRegs]) : s.rget r = s₀.rget r := Survives.rget h hr

theorem fget {r : Reg} (h : Endures s₀ s) (f : Fld) (hr : r ∈ lossRegs := by simp [lossRegs]) : s.fget r f = s₀.fget r f :=
  congrArg f.get (h.rget hr)

theorem bget {r : Reg} (h : Endures s₀ s) (f : Fld) (hr : r ∈ lossRegs := by simp [lossRegs]) : s.bget r f = s₀.bget r f :=
  State.bget_of_rget (h.rget hr) f

end Endures
end Sys2Proof.Machine

namespace Sys2Proof.Machine

/-! PROOFS. Idle sites, Doze, Standby and Off-AON (O43; R361, R367 to R373). -/

theorem Survives.withLoad {bk : Bool} {s₀ s : State} {load} (h : Survives bk s₀ s) : Survives bk s₀ ({ s with load } : State) := h

theorem Survives.loadWoken_false {bk : Bool} {s₀ s : State} {d : Nat} (h : Survives bk s₀ s) : Survives bk s₀ (s.loadWoken d false) := by
  unfold State.loadWoken
  split
  · exact h
  · rw [if_pos (by rfl : (!false) = true)]
    exact Survives.placeFailed (Survives.withLoad h)

theorem Survives.dieWoken {bk : Bool} {s₀ s : State} (h : Survives bk s₀ s) {d : Nat} (hd : s₀.doze.at d = 0) : s.doze.at d = 0 := h.woken d hd

theorem Endures.dieWoken {s₀ s : State} (h : Endures s₀ s) {d : Nat} (hd : s₀.doze.at d = 0) : s.doze.at d = 0 := h.woken d hd

theorem Endures.counted {s₀ s : State} (h : Endures s₀ s) {k n : Nat} (hn : n ≤ (s₀.icu.src.at k).count) : n ≤ (s.icu.src.at k).count :=
  hn.trans (h.counts k)

/-! ### Folds that bring each of a list's units into a state of its own -/

/-- When each act of a fold brings its own unit to `P`, and takes no other's from it, every unit of the list ends in `P`. -/
theorem foldl_reaches {ι : Type} (l : List ι) (f : State → ι → State) (I : State → Prop) (P : ι → State → Prop) {s : State} (h0 : I s)
    (hI : ∀ t, ∀ i ∈ l, I t → I (f t i)) (hset : ∀ t, ∀ i ∈ l, I t → P i (f t i)) (hkeep : ∀ t, ∀ i ∈ l, ∀ j ∈ l, I t → P j t → P j (f t i)) :
    I (l.foldl f s) ∧ ∀ i ∈ l, P i (l.foldl f s) := by
  have hgo : ∀ (todo done : List ι) (t : State), (∀ i ∈ todo, i ∈ l) → (∀ i ∈ done, i ∈ l) → I t → (∀ i ∈ done, P i t) →
      I (todo.foldl f t) ∧ ∀ i ∈ todo ++ done, P i (todo.foldl f t) := by
    intro todo
    induction todo with
    | nil => exact fun done t _ _ ht hdone => ⟨ht, hdone⟩
    | cons i todo ih =>
      intro done t htodo hin ht hdone
      have hi := htodo i List.mem_cons_self
      obtain ⟨hinv, hall⟩ := ih (i :: done) (f t i) (fun j hj => htodo j (List.mem_cons_of_mem _ hj))
        (fun j hj => (List.mem_cons.mp hj).elim (fun e => e ▸ hi) (hin j)) (hI t i hi ht) fun j hj => by
          rcases List.mem_cons.mp hj with rfl | hj
          · exact hset t j hi ht
          · exact hkeep t i hi j (hin j hj) ht (hdone j hj)
      refine ⟨hinv, fun j hj => hall j ?_⟩
      simp only [List.cons_append, List.mem_cons, List.mem_append] at hj ⊢
      tauto
  simpa using hgo l [] s (fun _ h => h) (by simp) h0 (by simp)

/-! ### Sites (R367) -/

theorem siteIdle_completes (k : Site) (s : State) :
    (s.fget .PWR_IDLE F.PWR_IDLE_IDLE_CYC = 0 → exec (.siteIdle k) s = .next s) ∧
    (s.fget .PWR_IDLE F.PWR_IDLE_IDLE_CYC ≠ 0 → s.dieRuns (k.val / 16) = true → s.engineAt k.val = none →
      ∃ u, exec (.siteIdle k) s = .next u ∧ u.sites.at k.val = { s.sites.at k.val with gated := true } ∧
        (∀ q, q ≠ k.val → u.sites.at q = s.sites.at q) ∧ u = { s with sites := u.sites }) := by
  refine ⟨fun h => if_pos (.inl h), fun hcyc hruns hnone => ⟨s.siteUpd k.val (fun x => { x with gated := true }), ?_, ?_, fun q hq => ?_, rfl⟩⟩
  · show execSiteIdle k s = _
    unfold execSiteIdle
    rw [hnone, hruns]
    exact if_neg (by simp [hcyc])
  · exact Tab.at_upd_same s.sites k.val (fun x => { x with gated := true })
  · exact (Tab.at_upd s.sites k.val q (fun x => { x with gated := true })).trans (if_neg hq)

/-! ### Doze of a compute die (R369) -/

/-- The die that a command names and the result of the command are shown. -/
def State.dieShown (s : State) (d v : Nat) : State := (s.fset .PWR_DIE_STAT F.PWR_DIE_STAT_DIE (d + 1)).dieResult v

theorem State.dieResult_result (s : State) {v : Nat} (h : v < 16) : (s.dieResult v).fget .PWR_DIE_STAT F.PWR_DIE_STAT_RESULT = v := by
  rw [State.dieResult, State.fget_fset_same _ _ _ _ (by decide)]
  exact Nat.mod_eq_of_lt h

theorem State.dieShown_die (s : State) (d : Die) (v : Nat) : (s.dieShown d.val v).fget .PWR_DIE_STAT F.PWR_DIE_STAT_DIE = d.val + 1 := by
  rw [State.dieShown, State.dieResult, State.fget_fset_field _ _ _ _ _ (by decide) (by decide), State.fget_fset_same _ _ _ _ (by decide)]
  exact Nat.mod_eq_of_lt (by have := d.isLt; show d.val + 1 < 16; omega)

theorem State.dieShown_result (s : State) (d : Nat) {v : Nat} (h : v < 16) : (s.dieShown d v).fget .PWR_DIE_STAT F.PWR_DIE_STAT_RESULT = v :=
  State.dieResult_result _ h

theorem OnlyRegs.dieShown (s : State) (d v : Nat) : OnlyRegs [.PWR_DIE_STAT] s (s.dieShown d v) :=
  (OnlyRegs.fset _ _ (by simp)).trans (OnlyRegs.fset _ _ (by simp))

/-- Registers that only are changed where Doze changes too. -/
theorem OnlyRegs.withDoze {p : List Reg} {s t : State} (h : OnlyRegs p s t) (doze : Tab Nat) : OnlyRegs p { s with doze } { t with doze } := by
  refine ⟨?_, h.2⟩
  have hrest := h.1
  show _ = { s with regs := t.regs, doze }
  conv_lhs => rw [hrest]

theorem dieDoze_completes (d : Die) (s : State) :
    ((s.spans.any (fun e => e.2.st ≠ .empty && e.2.members.any (fun l => match l with
        | .engine x => decide (x / 12 = d.val)
        | _ => false)) = true) → ∃ u, exec (.dieDoze d) s = .next u ∧
      u.fget .PWR_DIE_STAT F.PWR_DIE_STAT_DIE = d.val + 1 ∧ u.fget .PWR_DIE_STAT F.PWR_DIE_STAT_RESULT = 2 ∧
      OnlyRegs [.PWR_DIE_STAT] s u) ∧
    (s.spans = [] → (s.load.busy = true ∨ s.modeBusy = true ∨ s.dozeBusy = true) → ∃ u, exec (.dieDoze d) s = .next u ∧
      u.fget .PWR_DIE_STAT F.PWR_DIE_STAT_DIE = d.val + 1 ∧ u.fget .PWR_DIE_STAT F.PWR_DIE_STAT_RESULT = 3 ∧
      OnlyRegs [.PWR_DIE_STAT] s u) ∧
    (s.spans = [] → s.load.busy = false → s.modeBusy = false → s.dozeBusy = false → s.subst = [] →
      s.fget .TST_STAT F.TST_STAT_STATE = 0 → s.doze.at d.val = 0 → s.dieFenced (d.val + 1) = false →
      ∃ u, exec (.dieDoze d) s = .next u ∧ u.doze.at d.val = 1 ∧ (∀ k, k ≠ d.val → u.doze.at k = s.doze.at k) ∧
        u.fget .PWR_DIE_STAT F.PWR_DIE_STAT_RESULT = 0 ∧ OnlyRegs [.PWR_DIE_STAT] { s with doze := u.doze } u) := by
  refine ⟨fun hused => ⟨s.dieShown d.val 2, if_pos hused, s.dieShown_die d 2, s.dieShown_result _ (by decide), OnlyRegs.dieShown _ _ _⟩,
    fun hspans hbusy => ⟨s.dieShown d.val 3, ?_, s.dieShown_die d 3, s.dieShown_result _ (by decide), OnlyRegs.dieShown _ _ _⟩,
    fun hspans hload hmode hdoze hsubst htest hzero hfenced => ⟨(s.dieShown d.val 0).dozeStart d.val, ?_, ?_, fun k hk => ?_,
      s.dieShown_result _ (by decide), (OnlyRegs.dieShown s d.val 0).withDoze _⟩⟩
  · refine (if_neg (by simp [hspans])).trans (if_pos ?_)
    rcases hbusy with h | h | h
    all_goals simp [h]
  · exact (if_neg (by simp [hspans])).trans ((if_neg (by simp [hload, hmode, hdoze, hsubst, htest])).trans (if_pos ⟨hzero, by simp [hfenced]⟩))
  · exact Tab.at_put_same s.doze d.val 1
  · exact (Tab.at_put s.doze d.val k 1).trans (if_neg hk)

theorem State.dieWake_exec (d : Die) (s : State) : exec (.dieWake d) s = .next (if s.doze.at d.val = 2 then { s.dieShown d.val 0 with doze := s.doze.put d.val 3 }
    else if s.doze.at d.val = 0 then s.fset .PWR_DIE_STAT F.PWR_DIE_STAT_DIE (d.val + 1) else s.dieShown d.val 3) := by
  show execDieWake d s = _
  unfold execDieWake
  dsimp only
  split_ifs
  · rfl
  · rfl
  · rfl

theorem dieWake_completes (d : Die) (s : State) :
    (s.doze.at d.val = 2 → ∃ u, exec (.dieWake d) s = .next u ∧ u.doze.at d.val = 3 ∧ (∀ k, k ≠ d.val → u.doze.at k = s.doze.at k) ∧
      u.fget .PWR_DIE_STAT F.PWR_DIE_STAT_RESULT = 0 ∧ OnlyRegs [.PWR_DIE_STAT] { s with doze := u.doze } u) ∧
    ((s.doze.at d.val = 1 ∨ s.doze.at d.val = 3) → ∃ u, exec (.dieWake d) s = .next u ∧
      u.fget .PWR_DIE_STAT F.PWR_DIE_STAT_RESULT = 3 ∧ u.fget .PWR_DIE_STAT F.PWR_DIE_STAT_DIE = d.val + 1 ∧ OnlyRegs [.PWR_DIE_STAT] s u) := by
  refine ⟨fun h => ⟨{ s.dieShown d.val 0 with doze := s.doze.put d.val 3 }, (s.dieWake_exec d).trans (congrArg Host.Outcome.next (if_pos h)), Tab.at_put_same s.doze d.val 3, fun k hk => (Tab.at_put s.doze d.val k 3).trans (if_neg hk),
    s.dieShown_result d.val (by decide), (OnlyRegs.dieShown s d.val 0).withDoze _⟩, fun h => ⟨s.dieShown d.val 3, ?_, s.dieShown_result d.val (by decide),
    s.dieShown_die d 3, OnlyRegs.dieShown _ _ _⟩⟩
  rw [s.dieWake_exec d, if_neg (by omega), if_neg (by omega)]

/-! #### Into Doze and out of it -/

/-- The registers that show how bundles run. -/
def bundleStats : List Reg := (List.range 78).map (fun q => .CWY_STAT (bundleNo q))

theorem bundlesOf_lt {pos p : Nat} (h : p ∈ bundlesOf pos) : p < 78 := List.mem_range.mp (List.mem_filter.mp h).1

theorem OnlyRegs.setBundle (s : State) {p : Nat} (st : Nat) (h : p < 78) : OnlyRegs bundleStats s (s.setBundle p st) :=
  (s.setBundle_keeps ⟨p, h⟩ st).mono fun r hr => by
    obtain ⟨q, hq, rfl⟩ := List.mem_map.mp hr
    exact List.mem_map_of_mem (List.mem_range.mpr (bundlesOf_lt hq))

theorem OnlyRegs.bundlesOff (s : State) (l : List Nat) (h : ∀ p ∈ l, p < 78) :
    OnlyRegs bundleStats s (l.foldl (fun (s : State) p => if s.bundleState p = 5 then s else s.setBundle p 0) s) :=
  OnlyRegs.foldl (fun t p hp => by
    split
    · exact OnlyRegs.refl _ t
    · exact OnlyRegs.setBundle t 0 (h p hp)) s

theorem OnlyRegs.restoreBundles (s : State) (pos : Nat) : OnlyRegs bundleStats s (s.restoreBundles pos) :=
  OnlyRegs.foldl (fun t p hp => by
    split
    · exact OnlyRegs.refl _ t
    · split
      · exact OnlyRegs.setBundle t 2 (bundlesOf_lt hp)
      · exact OnlyRegs.setBundle t 4 (bundlesOf_lt hp)
      · exact OnlyRegs.refl _ t) s

theorem State.dozeIn_only (s : State) (d : Nat) : OnlyRegs bundleStats { s with doze := s.doze.put d 2 } (s.dozeIn d) := by
  have hoff := OnlyRegs.bundlesOff s (bundlesOf (d + 1)) fun p hp => bundlesOf_lt hp
  unfold State.dozeIn
  dsimp only
  generalize (bundlesOf (d + 1)).foldl (fun (s : State) p => if s.bundleState p = 5 then s else s.setBundle p 0) s = t at hoff
  have hdoze : t.doze = s.doze := by rw [hoff.1]
  rw [hdoze]
  exact hoff.withDoze _

theorem State.pwrEvt_event (s : State) {f : Fld} (k : Nat) (hf : f.lo + f.len ≤ 32) (h1 : 1 ≤ f.len) : (s.pwrEvt f k).bget .PWR_EVT f = true := by
  rw [State.pwrEvt, State.raise_bget _ _ (by simp [signalRegs])]
  exact State.bget_bset_same _ _ _ _ hf h1

theorem State.pwrEvt_rget (s : State) (f : Fld) (k : Nat) {r : Reg} (hr : r ∉ .PWR_EVT :: signalRegs) : (s.pwrEvt f k).rget r = s.rget r := by
  obtain ⟨hevt, hsig⟩ : r ≠ .PWR_EVT ∧ r ∉ signalRegs := by simpa using hr
  rw [State.pwrEvt, State.raise_rget _ _ hsig]
  exact State.rget_fset_other _ _ _ hevt

theorem State.pwrEvt_count (s : State) (f : Fld) (k : Nat) : 1 ≤ ((s.pwrEvt f k).icu.src.at k).count := State.raise_count_pos (s.bset .PWR_EVT f true) k

theorem dozeEntryDone_completes (d : Die) (s : State) :
    ((s.doze.at d.val ≠ 1 ∨ s.dieRetrains (d.val + 1) = true) → exec (.dozeEntryDone d) s = .next s) ∧
    (s.doze.at d.val = 1 → s.dieRetrains (d.val + 1) = false → ∃ u, exec (.dozeEntryDone d) s = .next u ∧ u.doze.at d.val = 2 ∧
      (∀ k, k ≠ d.val → u.doze.at k = s.doze.at k) ∧ u.fget .PWR_DIE_STAT F.PWR_DIE_STAT_RESULT = 1 ∧
      u.bget .PWR_EVT F.PWR_EVT_STATE_DONE = true ∧ Raised 51 s u ∧ u.mem = s.mem ∧ u.engs = s.engs) := by
  refine ⟨fun h => if_neg ?_, fun h hretrain => ⟨((s.dozeIn d.val).dieResult 1).pwrEvt F.PWR_EVT_STATE_DONE 51, if_pos ⟨h, by simp [hretrain]⟩, ?_⟩⟩
  · rcases h with h | h
    all_goals simp [h]
  · have hrest := (s.dozeIn_only d.val).1
    have hdoze : (((s.dozeIn d.val).dieResult 1).pwrEvt F.PWR_EVT_STATE_DONE 51).doze = s.doze.put d.val 2 := by
      rw [State.pwrEvt, State.raise_doze, State.bset_doze, State.dieResult, State.fset_doze, hrest]
    have hicu : ((s.dozeIn d.val).dieResult 1).icu = s.icu := by
      rw [State.dieResult, State.fset_icu, hrest]
    refine ⟨?_, fun k hk => ?_, ?_, State.pwrEvt_event _ 51 (by decide) (by decide), ?_, ?_, ?_⟩
    · rw [hdoze, Tab.at_put_same]
    · rw [hdoze, Tab.at_put, if_neg hk]
    · exact (State.fget_of_rget (State.pwrEvt_rget _ _ 51 (by simp [signalRegs])) _).trans (State.dieResult_result _ (by decide))
    · have hraised := State.raise_raised (((s.dozeIn d.val).dieResult 1).bset .PWR_EVT F.PWR_EVT_STATE_DONE true) 51
      unfold Raised at hraised ⊢
      rw [State.bset_icu, hicu] at hraised
      exact hraised
    · rw [State.pwrEvt, State.raise_mem, State.bset_mem, State.dieResult, State.fset_mem, hrest]
    · rw [State.pwrEvt, State.raise_engs, State.bset_engs, State.dieResult, State.fset_engs, hrest]

/-- The state of a die that has left Doze, before the steps requested meanwhile are applied. -/
def State.dozeLeft (s : State) (d : Nat) : State := { s with doze := s.doze.put d 0 }

theorem State.dozeLeft_doze (s : State) (d : Nat) : (s.dozeLeft d).doze = s.doze.put d 0 ∧ (s.dozeLeft d).load = s.load := ⟨rfl, rfl⟩

theorem State.dozeOut_eq (s : State) (d : Nat) : s.dozeOut d =
    (((((span (16 * d) 16).foldl State.fillSite (s.restoreBundles (d + 1))).dozeLeft d).halfUpdate (2 * d)).halfUpdate (2 * d + 1)).settle := rfl

theorem State.fillSites_doze (s : State) (l : List Nat) : (l.foldl State.fillSite s).doze = s.doze ∧ (l.foldl State.fillSite s).load = s.load :=
  List.foldlRecOn (motive := fun (t : State) => t.doze = s.doze ∧ t.load = s.load) l State.fillSite ⟨rfl, rfl⟩ fun _ ht _ _ => ht

theorem State.halfUpdate_doze (s : State) (h : Nat) : (s.halfUpdate h).doze = s.doze ∧ (s.halfUpdate h).load = s.load := by
  unfold State.halfUpdate
  dsimp only
  split_ifs
  · exact ⟨rfl, rfl⟩
  · exact ⟨rfl, rfl⟩
  · exact ⟨rfl, rfl⟩

theorem State.settle_doze (s : State) : s.settle.doze = s.doze ∧ s.settle.load = s.load := by
  rw [(MemoryActs.settle s).rest]
  exact ⟨rfl, rfl⟩

theorem State.restoreBundles_doze (s : State) (pos : Nat) : (s.restoreBundles pos).doze = s.doze ∧ (s.restoreBundles pos).load = s.load := by
  rw [(OnlyRegs.restoreBundles s pos).1]
  exact ⟨rfl, rfl⟩

theorem State.dozeOut_doze (s : State) (d : Nat) : (s.dozeOut d).doze = s.doze.put d 0 ∧ (s.dozeOut d).load = s.load := by
  obtain ⟨hfilled, hfilled'⟩ := (s.restoreBundles (d + 1)).fillSites_doze (span (16 * d) 16)
  obtain ⟨hbundles, hbundles'⟩ := s.restoreBundles_doze (d + 1)
  rw [State.dozeOut_eq, (State.settle_doze _).1, (State.settle_doze _).2, (State.halfUpdate_doze _ _).1, (State.halfUpdate_doze _ _).2,
    (State.halfUpdate_doze _ _).1, (State.halfUpdate_doze _ _).2, (State.dozeLeft_doze _ d).1, (State.dozeLeft_doze _ d).2, hfilled, hfilled', hbundles, hbundles']
  exact ⟨rfl, rfl⟩

theorem State.dozeShown_doze (s : State) : ((s.dieResult 1).pwrEvt F.PWR_EVT_STATE_DONE 51).doze = s.doze ∧
    ((s.dieResult 1).pwrEvt F.PWR_EVT_STATE_DONE 51).load = s.load := by
  rw [State.pwrEvt, State.raise_doze, State.raise_load]
  exact ⟨rfl, rfl⟩

theorem State.loadWoken_other {s : State} {d : Nat} (ok : Bool) (h : d ∉ s.load.wakes) : s.loadWoken d ok = s := if_pos (by simpa using h)

theorem dozeExitDone_completes (d : Die) (ok : Bool) (s : State) :
    (s.doze.at d.val ≠ 3 → ∀ done, exec (.dozeExitDone d done ok) s = .next s) ∧
    (s.doze.at d.val = 3 → d.val ∉ s.load.wakes →
      (∃ u, exec (.dozeExitDone d true ok) s = .next u ∧ u.doze.at d.val = 0 ∧ (∀ k, k ≠ d.val → u.doze.at k = s.doze.at k) ∧
        u.fget .PWR_DIE_STAT F.PWR_DIE_STAT_RESULT = 1 ∧ u.bget .PWR_EVT F.PWR_EVT_STATE_DONE = true ∧ 1 ≤ (u.icu.src.at 51).count ∧
        u.fuses = s.fuses) ∧
      (∃ u, exec (.dozeExitDone d false ok) s = .next u ∧ u.fget .PWR_DIE_STAT F.PWR_DIE_STAT_RESULT = 4 ∧
        u.dieFenced (d.val + 1) = true ∧ u.fuses = s.fuses)) := by
  refine ⟨fun h done => if_pos h, fun h hwakes => ⟨?out, ?fails⟩⟩
  case out =>
    obtain ⟨hdoze, hload⟩ := s.dozeOut_doze d.val
    have hload' : (((s.dozeOut d.val).dieResult 1).pwrEvt F.PWR_EVT_STATE_DONE 51).load = s.load := by
      rw [(State.dozeShown_doze _).2, hload]
    have hdoze' : (((s.dozeOut d.val).dieResult 1).pwrEvt F.PWR_EVT_STATE_DONE 51).doze = s.doze.put d.val 0 := by
      rw [(State.dozeShown_doze _).1, hdoze]
    have hexec : exec (.dozeExitDone d true ok) s = .next (((s.dozeOut d.val).dieResult 1).pwrEvt F.PWR_EVT_STATE_DONE 51) := by
      show execDozeExitDone d true ok s = _
      unfold execDozeExitDone
      rw [if_neg (not_not.mpr h), if_pos rfl]
      exact congrArg Host.Outcome.next (State.loadWoken_other true (by rw [hload']; exact hwakes))
    refine ⟨_, hexec, ?_, fun k hk => ?_, ?_, State.pwrEvt_event _ 51 (by decide) (by decide), State.pwrEvt_count _ _ _, ?_⟩
    · rw [hdoze', Tab.at_put_same]
    · rw [hdoze', Tab.at_put, if_neg hk]
    · exact (State.fget_of_rget (State.pwrEvt_rget _ _ 51 (by simp [signalRegs])) _).trans (State.dieResult_result _ (by decide))
    · exact Res.Kept.fuses_eq (Keeps.exec_dozeExitDone (Keeps.rfl s)) hexec
  case fails =>
    have hexec : exec (.dozeExitDone d false ok) s = .next (s.dozeFail d.val ok) := (if_neg (not_not.mpr h)).trans (if_neg Bool.false_ne_true)
    have hpos : d.val + 1 ≠ 0 := by omega
    have hfence : Survives false (s.dieResult 4) ((s.dieResult 4).fenceDie (d.val + 1) 6 ok) := Survives.fenceDie (Survives.refl _) hpos
    have hwoken : Survives false ((s.dieResult 4).fenceDie (d.val + 1) 6 ok) (s.dozeFail d.val ok) := Survives.loadWoken_false (Survives.refl _)
    refine ⟨_, hexec, ?_, hwoken.fenced _ (State.fenceDie_fenced _ 6 ok (by omega) (by have := d.isLt; omega) (by have := d.isLt; omega)), ?_⟩
    · exact ((hfence.trans hwoken).fget _ (by simp [lossRegs])).trans (s.dieResult_result (by decide))
    · exact Res.Kept.fuses_eq (Keeps.exec_dozeExitDone (Keeps.rfl s)) hexec

/-! ### Standby (R370 to R372) -/

theorem pstatReg_inj {p q : Nat} (hp : p < 16) (hq : q < 16) (h : pstatReg p = pstatReg q) : p = q := by
  have hpair := Reg.LNK_PSTAT.inj h
  have hdie := congrArg Fin.val hpair.1
  have hport := congrArg Fin.val hpair.2
  simp only [Fin.ofNat] at hdie hport
  omega

/-- Another port's state is as it was when a port goes down. -/
theorem State.portDown_other (s : State) {p q : Nat} (st reason : Nat) (downEvt : Bool) (hp : p < 16) (hq : q < 16) (h : q ≠ p) :
    (s.portDown p st reason downEvt).portState q = s.portState q := by
  have hne : pstatReg q ≠ pstatReg p := fun e => h (pstatReg_inj hq hp e)
  refine (s.portDown_pstat p st reason downEvt q _).trans ?_
  rw [State.setPort, State.fget_fset_other _ _ _ _ hne, State.fget_fset_other _ _ _ _ hne]
  rfl

/-- Every Wealey port that runs is OFF once all are down. -/
theorem State.portsOff_portState (s : State) {q : Nat} (hq : q < 16) (h : s.portState q < 8) : s.portsOff.portState q = 0 := by
  refine (foldl_reaches (List.range 16) _ (fun t => ∀ k, k < 16 → t.portState k = s.portState k ∨ t.portState k = 0)
    (fun k t => s.portState k < 8 → t.portState k = 0) (fun k _ => .inl rfl) (fun t p hp ht k hk => ?_) (fun t p hp ht hlive => ?_)
    (fun t p hp j hj ht hoff hlive => ?_)).2 q (List.mem_range.mpr hq) h
  · split
    · by_cases hkp : k = p
      · exact .inr (hkp ▸ State.portDown_portState t p 0 0 true (by decide))
      · rw [t.portDown_other 0 0 true (List.mem_range.mp hp) hk hkp]
        exact ht k hk
    · exact ht k hk
  · split
    · exact State.portDown_portState t p 0 0 true (by decide)
    · next hdown =>
      refine (ht p (List.mem_range.mp hp)).resolve_left fun hsame => hdown ?_
      exact decide_eq_true (hsame ▸ hlive)
  · split
    · by_cases hjp : j = p
      · exact hjp ▸ State.portDown_portState t p 0 0 true (by decide)
      · rw [t.portDown_other 0 0 true (List.mem_range.mp hp) (List.mem_range.mp hj) hjp]
        exact hoff hlive
    · exact hoff hlive

theorem State.pwrRefuse_state (s : State) (reason : Nat) :
    (s.pwrRefuse reason).fget .PWR_STATE F.PWR_STATE_STATE = s.fget .PWR_STATE F.PWR_STATE_STATE :=
  State.fget_fset_field _ _ _ _ _ (by decide) (by decide)

theorem standbyEnter_completes (s : State) :
    (s.standbyRefusal ≠ 0 → ∃ u, exec .standbyEnter s = .next u ∧ u.fget .PWR_STATE F.PWR_STATE_REASON = s.standbyRefusal ∧
      u.fget .PWR_STATE F.PWR_STATE_STATE = s.fget .PWR_STATE F.PWR_STATE_STATE ∧ OnlyRegs [.PWR_STATE] s u) ∧
    (s.standbyRefusal = 0 → ∃ u, exec .standbyEnter s = .next u ∧ u.fget .PWR_STATE F.PWR_STATE_STATE = 1 ∧
      u.fget .PWR_STATE F.PWR_STATE_REASON = 0 ∧ (∀ q, q < 16 → s.portState q < 8 → u.portState q = 0) ∧ u.mem = s.mem ∧
      u.engs = s.engs ∧ u.fuses = s.fuses) := by
  refine ⟨fun h => ⟨_, if_pos h, s.pwrRefuse_reason s.standbyRefusal_lt, s.pwrRefuse_state _, OnlyRegs.pwrRefuse _ _⟩,
    fun h => ⟨_, standbyEnter_begins h, s.standbyBegun_state, s.standbyBegun_reason, fun q hq hlive => ?_, s.standbyBegun_mem, s.standbyBegun_engs,
      s.standbyBegun_fuses⟩⟩
  have hnoted : s.standbyNoted.portState q = s.portState q :=
    (State.fget_fset_other _ _ _ _ (by simp [pstatReg])).trans (State.fget_fset_other _ _ _ _ (by simp [pstatReg]))
  exact s.standbyNoted.portsOff_portState hq (hnoted ▸ hlive)

/-- Every bundle of a die that goes into Standby is off. -/
def State.standbyBundles (s : State) : State := (span 64 14).foldl (fun (s : State) p => if s.bundleState p = 5 then s else s.setBundle p 0) s

/-- Every die that is not fenced goes into Doze. -/
def State.standbyDies (s : State) : State :=
  (List.range 8).foldl (fun (s : State) d => if s.dieFenced (d + 1) then s else s.dozeIn d) s

/-- Every stack that is not fenced is in self-refresh. -/
def State.standbyStacks (s : State) : State :=
  (List.range 8).foldl (fun (s : State) n => if s.stackFenced n then s else s.fset (.STK_STAT (Fin.ofNat 8 n)) F.STK_STAT_STATE 3) s

theorem State.standbyIn_eq (s : State) : s.standbyIn = s.standbyBundles.standbyDies.standbyStacks := rfl

/-- `t` is `s` but for which dies doze and the registers that `p` names. -/
structure Standing (p : List Reg) (s t : State) : Prop where
  rest : t = { s with regs := t.regs, doze := t.doze }
  regs : RegsKept p s t

/-- The registers that show what stacks are in. -/
def stackStats : List Reg := (List.range 8).map (fun n => .STK_STAT (Fin.ofNat 8 n))

namespace Standing
variable {p : List Reg} {s t u : State}

theorem refl (p : List Reg) (s : State) : Standing p s s := ⟨rfl, fun _ _ => rfl⟩

theorem trans (h : Standing p s t) (g : Standing p t u) : Standing p s u := ⟨by rw [g.rest, h.rest], h.regs.trans g.regs⟩

theorem mono {q : List Reg} (h : Standing p s t) (hpq : ∀ r ∈ p, r ∈ q) : Standing q s t := ⟨h.rest, h.regs.mono hpq⟩

theorem of_only {doze : Tab Nat} (h : OnlyRegs p { s with doze } t) : Standing p s t := by
  have hrest := h.1
  have hdoze : t.doze = doze := by rw [hrest]
  refine ⟨?_, h.2⟩
  rw [hdoze]
  exact hrest

theorem stack (s : State) {n : Nat} (h : n < 8) : Standing stackStats s (s.fset (.STK_STAT (Fin.ofNat 8 n)) F.STK_STAT_STATE 3) :=
  ⟨rfl, RegsKept.fset _ _ (List.mem_map_of_mem (List.mem_range.mpr h))⟩

theorem bundlesOff (s : State) : Standing bundleStats s s.standbyBundles :=
  of_only (doze := s.doze) (OnlyRegs.bundlesOff s (span 64 14) (by decide))

theorem dozeIn (s : State) (d : Nat) : Standing bundleStats s (s.dozeIn d) := of_only (s.dozeIn_only d)

theorem dieFenced (h : Standing bundleStats s t) (pos : Nat) : t.dieFenced pos = s.dieFenced pos := by
  have hreg := h.regs .BUP_FENCED (by simp [bundleStats])
  unfold State.dieFenced State.fget
  rw [hreg]

theorem stackFenced (h : Standing bundleStats s t) (n : Nat) : t.stackFenced n = s.stackFenced n := by
  have hreg := h.regs (.STK_STAT (Fin.ofNat 8 n)) (by simp [bundleStats])
  unfold State.stackFenced State.fget
  rw [hreg]

end Standing

theorem State.dozeIn_doze (s : State) (d : Nat) : (s.dozeIn d).doze = s.doze.put d 2 := by rw [(s.dozeIn_only d).1]

theorem State.standbyDies_doze (s : State) : Standing bundleStats s s.standbyDies ∧
    ∀ d, d < 8 → s.dieFenced (d + 1) = false → s.standbyDies.doze.at d = 2 := by
  refine And.imp_right (fun hall d hd => hall d (List.mem_range.mpr hd)) (foldl_reaches (List.range 8)
    (fun (s : State) d => if s.dieFenced (d + 1) then s else s.dozeIn d) (fun t => Standing bundleStats s t)
    (fun d t => s.dieFenced (d + 1) = false → t.doze.at d = 2) (Standing.refl _ s) (fun t d _ ht => ?_) (fun t d _ ht hlive => ?_)
    (fun t d _ j _ ht hdoze hlive => ?_))
  · split
    · exact ht
    · exact ht.trans (Standing.dozeIn t d)
  · rw [if_neg (by rw [ht.dieFenced, hlive]; decide), t.dozeIn_doze, Tab.at_put_same]
  · split
    · exact hdoze hlive
    · rw [t.dozeIn_doze, Tab.at_put]
      split
      · rfl
      · exact hdoze hlive

theorem State.standbyStacks_stacks (s : State) : Standing stackStats s s.standbyStacks ∧
    (∀ n : Stack, s.stackFenced n.val = false → s.standbyStacks.fget (.STK_STAT n) F.STK_STAT_STATE = 3) ∧ s.standbyStacks.doze = s.doze := by
  suffices hmain : (Standing stackStats s s.standbyStacks ∧ s.standbyStacks.doze = s.doze ∧ ∀ n, n < 8 → s.standbyStacks.stackFenced n = s.stackFenced n) ∧ ∀ n ∈ List.range 8, s.stackFenced n = false →
      s.standbyStacks.fget (.STK_STAT (Fin.ofNat 8 n)) F.STK_STAT_STATE = 3 by
    obtain ⟨⟨hstand, hdoze, -⟩, hall⟩ := hmain
    refine ⟨hstand, fun n hn => ?_, hdoze⟩
    have hn8 := hall n.val (List.mem_range.mpr n.isLt) hn
    rwa [Fin.ofNat_val_self] at hn8
  refine foldl_reaches (List.range 8)
    (fun (s : State) n => if s.stackFenced n then s else s.fset (.STK_STAT (Fin.ofNat 8 n)) F.STK_STAT_STATE 3)
    (fun t => Standing stackStats s t ∧ t.doze = s.doze ∧ ∀ n, n < 8 → t.stackFenced n = s.stackFenced n)
    (fun n t => s.stackFenced n = false → t.fget (.STK_STAT (Fin.ofNat 8 n)) F.STK_STAT_STATE = 3) ⟨Standing.refl _ s, rfl, fun _ _ => rfl⟩
    (fun t n hn ht => ?_) (fun t n hn ht hlive => ?_) (fun t n hn j hj ht hself hlive => ?_)
  · obtain ⟨hs, hd, hf⟩ := ht
    split
    · exact ⟨hs, hd, hf⟩
    · next hlive =>
      refine ⟨hs.trans (Standing.stack t (List.mem_range.mp hn)), hd, fun k hk => ?_⟩
      by_cases hkn : k = n
      · subst hkn
        rw [← hf k hk, State.stackFenced, State.fget_fset_same _ _ _ _ (by decide)]
        simpa using hlive
      · rw [← hf k hk]
        exact congrArg (fun x => decide (x = 4)) (State.fget_fset_other _ _ _ _ fun e => hkn (by
          have := congrArg Fin.val (Reg.STK_STAT.inj e)
          simp only [Fin.ofNat] at this
          have := List.mem_range.mp hn
          omega))
  · rw [if_neg (by rw [ht.2.2 n (List.mem_range.mp hn), hlive]; decide), State.fget_fset_same _ _ _ _ (by decide)]
    rfl
  · split
    · exact hself hlive
    · by_cases hjn : Reg.STK_STAT (Fin.ofNat 8 j) = .STK_STAT (Fin.ofNat 8 n)
      · rw [hjn, State.fget_fset_same _ _ _ _ (by decide)]
        rfl
      · rw [State.fget_fset_other _ _ _ _ hjn]
        exact hself hlive

theorem State.standbyIn_stands (s : State) : Standing (bundleStats ++ stackStats) s s.standbyIn ∧
    (∀ d, d < 8 → s.dieFenced (d + 1) = false → s.standbyIn.doze.at d = 2) ∧
    ∀ n : Stack, s.stackFenced n.val = false → s.standbyIn.fget (.STK_STAT n) F.STK_STAT_STATE = 3 := by
  have hbundles := Standing.bundlesOff s
  obtain ⟨hdies, hdoze⟩ := s.standbyBundles.standbyDies_doze
  obtain ⟨hstacks, hself, hkept⟩ := s.standbyBundles.standbyDies.standbyStacks_stacks
  rw [State.standbyIn_eq]
  refine ⟨((hbundles.trans hdies).mono fun _ => List.mem_append_left _).trans (hstacks.mono fun _ => List.mem_append_right _),
    fun d hd hlive => ?_, fun n hn => hself n (((hbundles.trans hdies).stackFenced _).trans hn)⟩
  rw [hkept]
  exact hdoze d hd ((hbundles.dieFenced _).trans hlive)

theorem State.pwrState_set (s : State) {v : Nat} (h : v < 8) : (s.fset .PWR_STATE F.PWR_STATE_STATE v).fget .PWR_STATE F.PWR_STATE_STATE = v := by
  rw [State.fget_fset_same _ _ _ _ (by decide)]
  exact Nat.mod_eq_of_lt h

theorem State.standbyOut_ready {s : State} (h : s.bget .CLK_STAT F.CLK_STAT_REF_OK = true) :
    s.standbyOut = ({ s with pwr := { s.pwr with wake := false } } : State).fset .PWR_STATE F.PWR_STATE_STATE 3 := if_pos h

theorem State.standbyOut_mem (s : State) : s.standbyOut.mem = s.mem ∧ s.standbyOut.doze = s.doze ∧
    ∀ {r : Reg}, r ≠ .PWR_STATE → s.standbyOut.rget r = s.rget r := by
  unfold State.standbyOut
  split
  · exact ⟨rfl, rfl, fun hr => State.rget_fset_other _ _ _ hr⟩
  · exact ⟨rfl, rfl, fun _ => rfl⟩

theorem standbyEntryDone_completes (s : State) :
    ((s.fget .PWR_STATE F.PWR_STATE_STATE ≠ 1 ∨ ∃ d, 1 ≤ d ∧ d ≤ 11 ∧ s.dieRetrains d = true) →
      exec .standbyEntryDone s = .next s) ∧
    (s.fget .PWR_STATE F.PWR_STATE_STATE = 1 → (∀ d, 1 ≤ d → d ≤ 11 → s.dieRetrains d = false) → ∃ u, exec .standbyEntryDone s = .next u ∧
      (∀ d, d < 8 → s.dieFenced (d + 1) = false → u.doze.at d = 2) ∧
      (∀ n : Stack, s.stackFenced n.val = false → u.fget (.STK_STAT n) F.STK_STAT_STATE = 3) ∧
      (s.pwr.wake = false → u.fget .PWR_STATE F.PWR_STATE_STATE = 2) ∧
      (s.pwr.wake = true → s.bget .CLK_STAT F.CLK_STAT_REF_OK = true → u.fget .PWR_STATE F.PWR_STATE_STATE = 3 ∧ u.pwr.wake = false) ∧
      u.mem = s.mem ∧ u.fuses = s.fuses) := by
  refine ⟨fun h => if_pos (h.imp_right ?_), fun hstate hretrain => ?_⟩
  · rintro ⟨d, h1, h11, hd⟩
    exact List.any_eq_true.mpr ⟨d, List.mem_map.mpr ⟨d - 1, List.mem_range.mpr (by omega), by omega⟩, hd⟩
  · have hnone : (span 1 11).any s.dieRetrains = false := List.any_eq_false.mpr fun d hd => by
      obtain ⟨k, hk, rfl⟩ := List.mem_map.mp hd
      have hk11 := List.mem_range.mp hk
      simp [hretrain (1 + k) (by omega) (by omega)]
    obtain ⟨hstand, hdoze, hstacks⟩ := s.standbyIn_stands
    have hexec : exec .standbyEntryDone s = .next (if s.pwr.wake then (s.standbyIn.fset .PWR_STATE F.PWR_STATE_STATE 2).standbyOut
        else s.standbyIn.fset .PWR_STATE F.PWR_STATE_STATE 2) := if_neg (by simp [hstate, hnone])
    have hmem : s.standbyIn.mem = s.mem := by rw [hstand.rest]
    have hclk : (s.standbyIn.fset .PWR_STATE F.PWR_STATE_STATE 2).rget .CLK_STAT = s.rget .CLK_STAT :=
      (State.rget_fset_other _ _ _ (by simp)).trans (hstand.regs _ (by simp [bundleStats, stackStats]))
    have hstk (n : Stack) (hn : s.stackFenced n.val = false) :
        (s.standbyIn.fset .PWR_STATE F.PWR_STATE_STATE 2).fget (.STK_STAT n) F.STK_STAT_STATE = 3 :=
      (State.fget_fset_other _ _ _ _ (by simp)).trans (hstacks n hn)
    have hfuses {u : State} (hu : exec .standbyEntryDone s = .next u) : u.fuses = s.fuses :=
      Res.Kept.fuses_eq (Keeps.exec_standbyEntryDone (Keeps.rfl s)) hu
    have hset := State.pwrState_set s.standbyIn (v := 2) (by decide)
    have htdoze : (s.standbyIn.fset .PWR_STATE F.PWR_STATE_STATE 2).doze = s.standbyIn.doze := rfl
    have htmem : (s.standbyIn.fset .PWR_STATE F.PWR_STATE_STATE 2).mem = s.mem := hmem
    generalize s.standbyIn.fset .PWR_STATE F.PWR_STATE_STATE 2 = t at hexec hclk hstk hset htdoze htmem
    cases hwake : s.pwr.wake with
    | false =>
      rw [if_neg (by simp [hwake])] at hexec
      exact ⟨t, hexec, fun d hd hlive => htdoze ▸ hdoze d hd hlive, hstk, fun _ => hset, fun h => absurd h Bool.false_ne_true, htmem, hfuses hexec⟩
    | true =>
      rw [if_pos hwake] at hexec
      obtain ⟨houtmem, houtdoze, houtregs⟩ := t.standbyOut_mem
      refine ⟨_, hexec, fun d hd hlive => ?_, fun n hn => (State.fget_of_rget (houtregs (by simp)) _).trans (hstk n hn),
        fun h => absurd h.symm Bool.false_ne_true, fun _ href => ?_, houtmem.trans htmem, hfuses hexec⟩
      · rw [houtdoze, htdoze]
        exact hdoze d hd hlive
      · rw [State.standbyOut_ready ((State.bget_of_rget hclk _).trans href)]
        exact ⟨State.pwrState_set _ (by decide), rfl⟩

theorem standbyExit_completes (s : State) (st : Nat) (hst : st = s.fget .PWR_STATE F.PWR_STATE_STATE) :
    (st = 0 → exec .standbyExit s = .next s) ∧
    (st = 1 → exec .standbyExit s = .next { s with pwr := { s.pwr with wake := true } }) ∧
    (st = 2 → s.bget .CLK_STAT F.CLK_STAT_REF_OK = false → exec .standbyExit s = .next { s with pwr := { s.pwr with wake := true } }) ∧
    (st = 2 → s.bget .CLK_STAT F.CLK_STAT_REF_OK = true → ∃ u, exec .standbyExit s = .next u ∧
      u.fget .PWR_STATE F.PWR_STATE_STATE = 3 ∧ u.pwr = { s.pwr with wake := false } ∧ OnlyRegs [.PWR_STATE] { s with pwr := u.pwr } u) ∧
    (2 < st → ∃ u, exec .standbyExit s = .next u ∧ u.fget .PWR_STATE F.PWR_STATE_REASON = 4 ∧ OnlyRegs [.PWR_STATE] s u) := by
  subst hst
  have hout (h : s.fget .PWR_STATE F.PWR_STATE_STATE = 2) : exec .standbyExit s = .next s.standbyOut := if_pos h
  refine ⟨fun h => ?_, fun h => ?_, fun h href => (hout h).trans (congrArg Host.Outcome.next (if_neg (by simp [href]))), fun h href => ?_, fun h => ?_⟩
  · exact (if_neg (by omega)).trans ((if_neg (by omega)).trans (if_pos h))
  · exact (if_neg (by omega)).trans (if_pos h)
  · refine ⟨_, hout h, ?_⟩
    rw [State.standbyOut_ready href]
    exact ⟨State.pwrState_set _ (by decide), rfl, OnlyRegs.fset _ _ (by simp)⟩
  · exact ⟨s.pwrRefuse 4, (if_neg (by omega)).trans ((if_neg (by omega)).trans (if_neg (by omega))), s.pwrRefuse_reason (by decide), OnlyRegs.pwrRefuse _ _⟩

theorem State.rget_resetTo_off (s : State) {r : Reg} (h : ResetKind.off.keeps r = 0) : (State.resetTo .off s).rget r = r.reset :=
  regGet_regsAfter_of_keeps_zero h s.regs

theorem offAon_completes (s : State) :
    (s.standbyRefusal ≠ 0 → ∃ u, exec .offAon s = .next u ∧ u.fget .PWR_STATE F.PWR_STATE_REASON = s.standbyRefusal ∧
      OnlyRegs [.PWR_STATE] s u) ∧
    (s.standbyRefusal = 0 → ∃ u, exec .offAon s = .next u ∧ u.pwr.off = true ∧ u.mem = default ∧ u.spans = [] ∧ u.engs = [] ∧
      u.icu = default ∧ u.log = s.log ∧ u.flash.blocks = s.flash.blocks ∧ u.ldp.crash = s.ldp.crash ∧
      (∀ r : Reg, r.access.rws = 0 → r ∉ [Reg.LDP_STAT, .LDP_FERRY_STAT, .CLK_STAT] → u.rget r = r.reset)) := by
  refine ⟨fun h => ⟨_, if_pos h, s.pwrRefuse_reason s.standbyRefusal_lt, OnlyRegs.pwrRefuse _ _⟩,
    fun h => ⟨State.resetTo .off s, if_neg (not_not.mpr h), rfl, rfl, rfl, rfl, rfl, rfl, rfl, rfl, fun r hr hnot => s.rget_resetTo_off ?_⟩⟩
  obtain ⟨hldp, hferry, hclk⟩ : r ≠ .LDP_STAT ∧ r ≠ .LDP_FERRY_STAT ∧ r ≠ .CLK_STAT := by simpa using hnot
  show (if r = .LDP_STAT ∨ r = .LDP_FERRY_STAT then _ else if r = .CLK_STAT then _ else if _ then r.access.rws else 0) = (0 : Word)
  rw [if_neg (by simp [hldp, hferry]), if_neg hclk, hr, ite_self]

/-- Stacks leave self-refresh. -/
def State.stacksBack (s : State) : State :=
  (List.range 8).foldl (fun (s : State) n => if s.stackFenced n then s else s.fset (.STK_STAT (Fin.ofNat 8 n)) F.STK_STAT_STATE 2) s

/-- The bundles of the retrieval die and the link dies come back. -/
def State.linksBack (s : State) : State := [9, 10, 11].foldl (fun (s : State) pos => if s.dieFenced pos then s else s.restoreBundles pos) s

/-- The ports begin again. -/
def State.portsBack (s : State) : State :=
  (List.range 16).foldl (fun (s : State) q =>
    if s.portState q = 0 ∧ ¬s.dieFenced (10 + q / 8) then s.setPort q (s.portRole s.bootTier q) 0 else s) s

/-- The dies in Doze leave it. -/
def State.diesWoken (s : State) : State := (List.range 8).foldl (fun (s : State) d => if s.doze.at d = 2 then s.dozeOut d else s) s

/-- Schedules and codebooks are loaded again. -/
def State.enginesLoaded (s : State) : State := (s.image.scheds.map (·.1)).foldl State.loadEngine s

/-- Standby has ended. -/
def State.standbyEnded (s : State) : State :=
  ((s.fset .FLC_MOUNT F.FLC_MOUNT_STATE 0).fset .PWR_STATE F.PWR_STATE_STATE 0).pwrEvt F.PWR_EVT_STATE_DONE 51

/-- The landing port is told that the package runs. -/
def State.ferryTold (s : State) : State := if s.ldp.ferry then { s with ldp := { s.ldp with ferry := false } }.ldpEvt 1 else s

theorem exec_standbyExitDone {s : State} (h : s.fget .PWR_STATE F.PWR_STATE_STATE = 3) :
    exec .standbyExitDone s =
      .next s.stacksBack.linksBack.portsBack.diesWoken.enginesLoaded.standbyEnded.ferryTold.settle.pump.presentAll := by
  show execStandbyExitDone s = _
  unfold execStandbyExitDone
  extract_lets s1 s2 s3 s4 s5 s6 _ s7
  rw [if_neg (not_not.mpr h)]
  have h1 : s1 = s.stacksBack := rfl
  have h2 : s2 = s1.linksBack := rfl
  have h3 : s3 = s2.portsBack := rfl
  have h4 : s4 = s3.diesWoken := rfl
  have h5 : s5 = s4.enginesLoaded := rfl
  have h6 : s6 = s5.standbyEnded := rfl
  have h7 : s7 = s6.ferryTold := rfl
  rw [h7, h6, h5, h4, h3, h2, h1]

theorem foldl_doze {α : Type} (l : List α) (f : State → α → State) (s : State) (hf : ∀ t a, (f t a).doze = t.doze) : (l.foldl f s).doze = s.doze :=
  List.foldlRecOn (motive := fun (u : State) => u.doze = s.doze) l f rfl fun u hu a _ => (hf u a).trans hu

theorem State.stacksBack_doze (s : State) : s.stacksBack.doze = s.doze := by
  unfold State.stacksBack
  refine foldl_doze _ _ s fun t n => ?_
  split
  · rfl
  · rfl

theorem State.linksBack_doze (s : State) : s.linksBack.doze = s.doze := by
  unfold State.linksBack
  refine foldl_doze _ _ s fun t pos => ?_
  split
  · rfl
  · exact (t.restoreBundles_doze pos).1

theorem State.portsBack_doze (s : State) : s.portsBack.doze = s.doze := by
  unfold State.portsBack
  refine foldl_doze _ _ s fun t q => ?_
  split
  · rfl
  · rfl

theorem State.diesWoken_doze (s : State) {d : Nat} (hd : d < 8) (h : s.doze.at d = 2) : s.diesWoken.doze.at d = 0 := by
  refine (foldl_reaches (List.range 8) (fun (s : State) d => if s.doze.at d = 2 then s.dozeOut d else s)
    (fun t => ∀ k, t.doze.at k = s.doze.at k ∨ t.doze.at k = 0) (fun k t => s.doze.at k = 2 → t.doze.at k = 0) (fun k => .inl rfl)
    (fun t j _ ht k => ?_) (fun t j _ ht hj => ?_) (fun t j _ k _ ht hk hdoze => ?_)).2 d (List.mem_range.mpr hd) h
  · split
    · rw [(t.dozeOut_doze j).1, Tab.at_put]
      split
      · exact .inr rfl
      · exact ht k
    · exact ht k
  · split
    · rw [(t.dozeOut_doze j).1, Tab.at_put_same]
    · next hne => exact (ht j).resolve_left fun e => hne (e.trans hj)
  · split
    · rw [(t.dozeOut_doze j).1, Tab.at_put]
      split
      · rfl
      · exact hk hdoze
    · exact hk hdoze

theorem State.standbyEnded_shows (s : State) : s.standbyEnded.doze = s.doze ∧ s.standbyEnded.fget .PWR_STATE F.PWR_STATE_STATE = 0 ∧
    s.standbyEnded.bget .PWR_EVT F.PWR_EVT_STATE_DONE = true ∧ s.standbyEnded.fget .FLC_MOUNT F.FLC_MOUNT_STATE = 0 ∧
    1 ≤ (s.standbyEnded.icu.src.at 51).count := by
  refine ⟨?_, ?_, State.pwrEvt_event _ 51 (by decide) (by decide), ?_, State.pwrEvt_count _ _ 51⟩
  · rw [State.standbyEnded, State.pwrEvt, State.raise_doze]
    rfl
  · exact (State.fget_of_rget (State.pwrEvt_rget _ _ 51 (by simp [signalRegs])) _).trans (State.pwrState_set _ (by decide))
  · refine (State.fget_of_rget (State.pwrEvt_rget _ _ 51 (by simp [signalRegs])) _).trans ((State.fget_fset_other _ _ _ _ (by simp)).trans ?_)
    rw [State.fget_fset_same _ _ _ _ (by decide)]
    rfl

theorem Survives.withLdp {bk : Bool} {s₀ s : State} {ldp} (h : Survives bk s₀ s) : Survives bk s₀ ({ s with ldp } : State) := h

theorem Survives.ferryTold {bk : Bool} {s₀ s : State} (h : Survives bk s₀ s) : Survives bk s₀ s.ferryTold :=
  Survives.ite (Survives.ldpEvt (Survives.withLdp h)) h

theorem State.standbyRuns_endures (s : State) : Endures s s.ferryTold.settle.pump.presentAll :=
  (Endures.pump (Endures.of_survives (Survives.settle (Survives.ferryTold (Survives.refl s))))).next (Survives.presentAll (Survives.refl _))

theorem standbyExitDone_completes (s : State) :
    (s.fget .PWR_STATE F.PWR_STATE_STATE ≠ 3 → exec .standbyExitDone s = .next s) ∧
    (s.fget .PWR_STATE F.PWR_STATE_STATE = 3 → ∃ u, exec .standbyExitDone s = .next u ∧ u.fget .PWR_STATE F.PWR_STATE_STATE = 0 ∧
      (∀ d, d < 8 → s.doze.at d = 2 → u.doze.at d = 0) ∧ u.bget .PWR_EVT F.PWR_EVT_STATE_DONE = true ∧
      u.fget .FLC_MOUNT F.FLC_MOUNT_STATE = 0 ∧ 1 ≤ (u.icu.src.at 51).count ∧ u.fuses = s.fuses) := by
  refine ⟨fun h => if_pos h, fun h => ⟨_, exec_standbyExitDone h, ?_⟩⟩
  have hfuses := Res.Kept.fuses_eq (Keeps.exec_standbyExitDone (Keeps.rfl s)) (exec_standbyExitDone h)
  have hwoken (d : Nat) (hd : d < 8) (hdoze : s.doze.at d = 2) : s.stacksBack.linksBack.portsBack.diesWoken.doze.at d = 0 :=
    State.diesWoken_doze _ hd (by rw [State.portsBack_doze, State.linksBack_doze, State.stacksBack_doze]; exact hdoze)
  generalize s.stacksBack.linksBack.portsBack.diesWoken = t at hfuses hwoken
  have hloaded : Survives false t t.enginesLoaded := Survives.foldl (Survives.refl t) fun h => Survives.loadEngine h
  obtain ⟨hdoze, hstate, hevt, hmount, hcount⟩ := t.enginesLoaded.standbyEnded_shows
  have hkept := t.enginesLoaded.standbyEnded.standbyRuns_endures
  exact ⟨(hkept.fget _).trans hstate, fun d hd h2 => hkept.dieWoken (by rw [hdoze]; exact hloaded.dieWoken (hwoken d hd h2)),
    (hkept.bget _).trans hevt, (hkept.fget _).trans hmount, hkept.counted hcount, hfuses⟩

/-- Settles O43, command by command: what a die's Doze and the package's Standby change, and what is left as it was. -/
theorem powerStatesChange : Obligations.PowerStatesChange :=
  ⟨siteIdle_completes, dieDoze_completes, dozeEntryDone_completes, dieWake_completes, dozeExitDone_completes, standbyEnter_completes,
    standbyEntryDone_completes, fun s st hst => standbyExit_completes s st hst, standbyExitDone_completes, offAon_completes⟩

end Sys2Proof.Machine

namespace Sys2Proof.Machine

/-! PROOFS. Faults of rails, clocks and supplies (O44; R24, R354, R356, R361, R372, R373, R494). -/

/-! ### The crash capture (R449, R450) -/

theorem State.alertBit_crash (s : State) (f : Fld) : (s.alertBit f).ldp.crash = s.ldp.crash := by
  unfold State.alertBit
  split
  · rfl
  · rfl

theorem nth_captureSeal_setNth {l : List Word} (w : Word) (h : l ≠ []) : nth (captureSeal (setNth (l.take 31) 0 w)) 0 = w := by
  cases l with
  | nil => exact absurd rfl h
  | cons a l => rfl

/-- Whatever was in it, the capture is valid once written, and holds the first cause. -/
theorem State.captureOf_valid (s : State) (cause : Nat) (words : List Word) (hc : cause < 8) :
    (⟨16, 1⟩ : Fld).get (nth (s.captureOf cause words).ldp.crash 0) = 1 ∧
    (s.ldp.crash = [] → (⟨0, 8⟩ : Fld).get (nth (s.captureOf cause words).ldp.crash 0) = cause) := by
  unfold State.captureOf
  dsimp only
  split
  · next hvalid =>
    have hne : s.ldp.crash ≠ [] := by
      intro e
      rw [e] at hvalid
      revert hvalid
      decide
    refine ⟨?_, fun e => absurd e hne⟩
    show (⟨16, 1⟩ : Fld).get (nth (captureSeal (setNth (s.ldp.crash.take 31) 0 _)) 0) = 1
    rw [nth_captureSeal_setNth _ hne, Fld.get_put_other _ _ _ _ (by decide) (by decide), Fld.get]
    simpa using hvalid
  · rw [State.alertBit_crash]
    have hword : ∀ c, c < 8 → (⟨16, 1⟩ : Fld).get (wordOf (c + 65536)) = 1 ∧ (⟨0, 8⟩ : Fld).get (wordOf (c + 65536)) = c := by decide
    obtain ⟨hv, hcause⟩ := hword cause hc
    exact ⟨hv, fun _ => hcause⟩

theorem State.captureOf_log (s : State) (cause : Nat) (words : List Word) : (s.captureOf cause words).log = s.log := by
  unfold State.captureOf State.alertBit
  dsimp only
  split_ifs
  · rfl
  · rfl
  · rfl

theorem State.captureOf_spans (s : State) (cause : Nat) (words : List Word) : (s.captureOf cause words).spans = s.spans := by
  unfold State.captureOf State.alertBit
  dsimp only
  split_ifs
  · rfl
  · rfl
  · rfl

/-! ### The main side off (R354, R373, R494) -/

/-- A shutdown with the capture written before it. -/
theorem State.shutdown_leaves (s : State) (cause : Nat) (words : List Word) (code : Nat) :
    ((s.captureOf cause words).shutdown code).pwr.off = true ∧ ((s.captureOf cause words).shutdown code).faultN = true ∧
    ((s.captureOf cause words).shutdown code).bup.shutdown = code ∧ ((s.captureOf cause words).shutdown code).mem = default ∧
    ((s.captureOf cause words).shutdown code).spans = [] ∧ ((s.captureOf cause words).shutdown code).log = s.log ∧
    ((s.captureOf cause words).shutdown code).ldp.crash = (s.captureOf cause words).ldp.crash :=
  ⟨rfl, rfl, rfl, rfl, rfl, s.captureOf_log cause words, rfl⟩

/-- The clock unit's bits once a clock is lost. -/
def State.clockNoted (s : State) (ref : Bool) : State :=
  (((s.bset .CLK_EVT F.CLK_EVT_REF_LOST true).bset .CLK_STAT F.CLK_STAT_AON_RC true).bset .CLK_STAT F.CLK_STAT_PLL_LOCK false).bset
    .CLK_STAT F.CLK_STAT_REF_OK ref

theorem State.clockLost_eq (s : State) (ref : Bool) : s.clockLost ref = ((s.captureOf 2 s.ldp.mirror).shutdown 2).clockNoted ref := rfl

theorem State.bget_bset (s : State) (r : Reg) (f : Fld) (b : Bool) (hf : f.lo + f.len ≤ 32) (h1 : 1 ≤ f.len) : (s.bset r f b).bget r f = b := by
  rw [State.bset, State.bget, State.fget_fset_same _ _ _ _ hf]
  cases b
  · simp [b2n]
  · simp only [b2n, if_true]
    rw [Nat.mod_eq_of_lt (Nat.one_lt_two_pow (by omega))]
    rfl

theorem State.clockNoted_bits (s : State) (ref : Bool) : (s.clockNoted ref).bget .CLK_EVT F.CLK_EVT_REF_LOST = true ∧
    (s.clockNoted ref).bget .CLK_STAT F.CLK_STAT_AON_RC = true ∧ (s.clockNoted ref).bget .CLK_STAT F.CLK_STAT_PLL_LOCK = false ∧
    (s.clockNoted ref).bget .CLK_STAT F.CLK_STAT_REF_OK = ref := by
  refine ⟨?_, ?_, ?_, State.bget_bset _ _ _ _ (by decide) (by decide)⟩
  · rw [State.clockNoted, State.bget_bset_apart _ _ (by decide) (.inl (by simp)), State.bget_bset_apart _ _ (by decide) (.inl (by simp)),
      State.bget_bset_apart _ _ (by decide) (.inl (by simp)), State.bget_bset _ _ _ _ (by decide) (by decide)]
  · rw [State.clockNoted, State.bget_bset_apart _ _ (by decide) (.inr (by decide)), State.bget_bset_apart _ _ (by decide) (.inr (by decide)),
      State.bget_bset _ _ _ _ (by decide) (by decide)]
  · rw [State.clockNoted, State.bget_bset_apart _ _ (by decide) (.inr (by decide)), State.bget_bset _ _ _ _ (by decide) (by decide)]

theorem clockLost_completes (s : State) (ref : Bool) : (s.clockLost ref).pwr.off = true ∧ (s.clockLost ref).faultN = true ∧
    (s.clockLost ref).bup.shutdown = 2 ∧ (s.clockLost ref).bget .CLK_EVT F.CLK_EVT_REF_LOST = true ∧
    (s.clockLost ref).bget .CLK_STAT F.CLK_STAT_AON_RC = true ∧ (s.clockLost ref).bget .CLK_STAT F.CLK_STAT_PLL_LOCK = false ∧
    (s.clockLost ref).bget .CLK_STAT F.CLK_STAT_REF_OK = ref ∧ (s.clockLost ref).mem = default ∧ (s.clockLost ref).spans = [] ∧
    (s.clockLost ref).log = s.log ∧ (⟨16, 1⟩ : Fld).get (nth (s.clockLost ref).ldp.crash 0) = 1 ∧
    (s.ldp.crash = [] → (⟨0, 8⟩ : Fld).get (nth (s.clockLost ref).ldp.crash 0) = 2) := by
  rw [State.clockLost_eq]
  obtain ⟨hoff, hfault, hcode, hmem, hspans, hlog, hcrash⟩ := s.shutdown_leaves 2 s.ldp.mirror 2
  obtain ⟨hvalid, hcause⟩ := s.captureOf_valid 2 s.ldp.mirror (by decide)
  rw [← hcrash] at hvalid hcause
  generalize (s.captureOf 2 s.ldp.mirror).shutdown 2 = t at *
  obtain ⟨hlost, hrc, hpll, href⟩ := t.clockNoted_bits ref
  exact ⟨hoff, hfault, hcode, hlost, hrc, hpll, href, hmem, hspans, hlog, hvalid, hcause⟩

theorem clocksLost_complete (c : Instr) (s : State) (hc : c ∈ [Instr.refclkLost, .pllLockLost]) (hon : s.pwr.off = false)
    (hstate : s.fget .PWR_STATE F.PWR_STATE_STATE ≠ 2) :
    ∃ u, exec c s = .next u ∧ u.pwr.off = true ∧ u.faultN = true ∧ u.bup.shutdown = 2 ∧ u.bget .CLK_EVT F.CLK_EVT_REF_LOST = true ∧
      u.bget .CLK_STAT F.CLK_STAT_AON_RC = true ∧ u.bget .CLK_STAT F.CLK_STAT_PLL_LOCK = false ∧
      u.bget .CLK_STAT F.CLK_STAT_REF_OK = decide (c = .pllLockLost) ∧ u.mem = default ∧ u.spans = [] ∧
      u.log = s.log ∧ (⟨16, 1⟩ : Fld).get (nth u.ldp.crash 0) = 1 ∧ (s.ldp.crash = [] → (⟨0, 8⟩ : Fld).get (nth u.ldp.crash 0) = 2) := by
  rcases (by simpa using hc : c = .refclkLost ∨ c = .pllLockLost) with rfl | rfl
  · exact ⟨s.clockLost false, if_neg (by simp [hon, hstate]), clockLost_completes s false⟩
  · exact ⟨s.clockLost true, if_neg (by simp [hon]), clockLost_completes s true⟩

theorem refclkLost_off (s : State) (h : s.pwr.off = true ∨ s.fget .PWR_STATE F.PWR_STATE_STATE = 2) :
    ∃ u, exec .refclkLost s = .next u ∧ u.bget .CLK_EVT F.CLK_EVT_REF_LOST = true ∧ u.bget .CLK_STAT F.CLK_STAT_AON_RC = true ∧
      u.bget .CLK_STAT F.CLK_STAT_REF_OK = false ∧ OnlyRegs [.CLK_EVT, .CLK_STAT] s u := by
  refine ⟨_, if_pos h, ?_, ?_, State.bget_bset _ _ _ _ (by decide) (by decide),
    ((OnlyRegs.bset _ _ (by simp)).trans (OnlyRegs.bset _ _ (by simp))).trans (OnlyRegs.bset _ _ (by simp))⟩
  · rw [State.bget_bset_apart _ _ (by decide) (.inl (by simp)), State.bget_bset_apart _ _ (by decide) (.inl (by simp)),
      State.bget_bset _ _ _ _ (by decide) (by decide)]
  · rw [State.bget_bset_apart _ _ (by decide) (.inr (by decide)), State.bget_bset _ _ _ _ (by decide) (by decide)]

theorem refclkPresent_completes (s : State) :
    ((s.pwr.wake = false ∨ s.fget .PWR_STATE F.PWR_STATE_STATE ≠ 2) → ∃ u, exec .refclkPresent s = .next u ∧
      u.bget .CLK_STAT F.CLK_STAT_REF_OK = true ∧ u.bget .CLK_STAT F.CLK_STAT_AON_RC = false ∧ OnlyRegs [.CLK_STAT] s u) ∧
    (s.pwr.wake = true → s.fget .PWR_STATE F.PWR_STATE_STATE = 2 → ∃ u, exec .refclkPresent s = .next u ∧
      u.bup.kind = 1 ∧ u.fget .PWR_STATE F.PWR_STATE_STATE = 0 ∧ u.mem = default ∧
      u.spans = [] ∧ u.log = s.log) := by
  refine ⟨fun h => ⟨_, if_neg (by rcases h with h | h <;> simp [h]), ?_, State.bget_bset _ _ _ _ (by decide) (by decide),
    (OnlyRegs.bset _ _ (by simp)).trans (OnlyRegs.bset _ _ (by simp))⟩, fun hwake hstate => ⟨_, if_pos ⟨hwake, hstate⟩, rfl, ?_, rfl, rfl, rfl⟩⟩
  · rw [State.bget_bset_apart _ _ (by decide) (.inr (by decide)), State.bget_bset _ _ _ _ (by decide) (by decide)]
  · show F.PWR_STATE_STATE.get ((State.resetTo .cold _).rget .PWR_STATE) = 0
    rw [State.rget_resetTo_of_keeps_zero .cold _ (by decide) (by simp)]
    rfl

theorem State.pwrEvt_pwr (s : State) (f : Fld) (k : Nat) : (s.pwrEvt f k).pwr = s.pwr ∧ (s.pwrEvt f k).mem = s.mem := by
  rw [State.pwrEvt, State.raise_pwr, State.raise_mem]
  exact ⟨rfl, rfl⟩

theorem State.pwrEvt_raised (s : State) (f : Fld) (k : Nat) : Raised k s (s.pwrEvt f k) := State.raise_raised (s.bset .PWR_EVT f true) k

theorem vinLow_completes (s : State) : ∃ u, exec .vinLow s = .next u ∧ u.pwr = { s.pwr with vinLow := true } ∧
    u.bget .PWR_EVT F.PWR_EVT_VIN_LOW = true ∧ Raised 53 s u ∧ RegsKept (.PWR_EVT :: signalRegs) s u ∧ u.mem = s.mem := by
  obtain ⟨hpwr, hmem⟩ := State.pwrEvt_pwr { s with pwr := { s.pwr with vinLow := true } } F.PWR_EVT_VIN_LOW 53
  have hraised := State.pwrEvt_raised { s with pwr := { s.pwr with vinLow := true } } F.PWR_EVT_VIN_LOW 53
  exact ⟨_, rfl, hpwr, State.pwrEvt_event _ 53 (by decide) (by decide), hraised, fun r hr => State.pwrEvt_rget _ _ 53 hr, hmem⟩

theorem vinCritical_completes (s : State) : (s.pwr.off = true → exec .vinCritical s = .next s) ∧
    (s.pwr.off = false → ∃ u, exec .vinCritical s = .next u ∧ u.pwr.off = true ∧ u.faultN = true ∧ u.bup.shutdown = 3 ∧
      u.mem = default ∧ u.log = s.log ∧ (⟨16, 1⟩ : Fld).get (nth u.ldp.crash 0) = 1) := by
  refine ⟨fun h => if_pos h, fun h => ⟨(s.captureOf 3 s.ldp.mirror).shutdown 3, if_neg (by simp [h]), ?_⟩⟩
  obtain ⟨hoff, hfault, hcode, hmem, -, hlog, hcrash⟩ := s.shutdown_leaves 3 s.ldp.mirror 3
  exact ⟨hoff, hfault, hcode, hmem, hlog, hcrash ▸ (s.captureOf_valid 3 s.ldp.mirror (by decide)).1⟩

/-! ### Rails (R361, R363) -/

theorem State.railUpd_at (s : State) (q r : Nat) (f : Rail → Rail) :
    (s.railUpd q f).pwr.rails.at r = if r = q then f (s.pwr.rails.at q) else s.pwr.rails.at r := Tab.at_upd _ _ _ _

theorem State.rail_orFault (s : State) (q r v k : Nat) (h : bitAt (s.pwr.rails.at r).flt k = true) :
    bitAt ((s.railUpd q (fun x => { x with flt := x.flt ||| v })).pwr.rails.at r).flt k = true := by
  rw [State.railUpd_at]
  split
  · next e =>
    rw [bitAt_eq_testBit] at h ⊢
    simp [Nat.testBit_or, ← e, h]
  · exact h

/-- The fault of rail `r` stands in its register, and in those of its die's other rails when it is a compute die's. -/
def State.railNoted (s : State) (r kind : Nat) : State :=
  let off := decide (kind = 1 ∨ kind = 2) || decide (1 ≤ railDie r ∧ railDie r ≤ 8)
  let s1 := s.railUpd r (fun x => { x with flt := x.flt ||| 2 ^ kind ||| (if off then 16 else 0) })
  let s2 := if 1 ≤ railDie r ∧ railDie r ≤ 8 then
      (railsOf (railDie r)).foldl (fun (s : State) q => s.railUpd q (fun x => { x with flt := x.flt ||| 16 })) s1
    else s1
  { s2 with pwr := { s2.pwr with first := s2.pwr.first.orElse (fun _ => some r) }
            bup := { s2.bup with railFlt := true } }

theorem State.railNoted_bit (s : State) (r kind : Nat) : bitAt ((s.railNoted r kind).pwr.rails.at r).flt kind = true := by
  unfold State.railNoted
  extract_lets off s1 s2
  have h1 : bitAt (s1.pwr.rails.at r).flt kind = true := by
    dsimp only [s1]
    rw [State.railUpd_at, if_pos rfl, bitAt_eq_testBit]
    simp [Nat.testBit_or, Nat.testBit_two_pow_self]
  show bitAt (s2.pwr.rails.at r).flt kind = true
  dsimp only [s2]
  split
  · exact List.foldlRecOn (motive := fun (t : State) => bitAt (t.pwr.rails.at r).flt kind = true) _ _ h1 fun t ht q _ => t.rail_orFault q r 16 kind ht
  · exact h1

theorem State.railNoted_rest (s : State) (r kind : Nat) : s.railNoted r kind = { s with pwr := (s.railNoted r kind).pwr, bup := { s.bup with railFlt := true } } := by
  have hfold (l : List Nat) (t : State) : l.foldl (fun (s : State) q => s.railUpd q (fun x => { x with flt := x.flt ||| 16 })) t =
      { t with pwr := (l.foldl (fun (s : State) q => s.railUpd q (fun x => { x with flt := x.flt ||| 16 })) t).pwr } :=
    List.foldlRecOn (motive := fun (u : State) => u = { t with pwr := u.pwr }) l _ rfl fun u hu q _ => by
      rw [hu]
      rfl
  unfold State.railNoted
  dsimp only
  split
  · rw [hfold]
    rfl
  · rfl

/-- The record of a rail's fault, and its event. -/
def State.railLogged (s : State) (r kind : Nat) (ok : Bool) : State :=
  ((s.railNoted r kind).logRec ⟨0x0A, 6, r + ((s.railNoted r kind).pwr.rails.at r).flt * 128, 0, 0, false⟩ ok).pwrEvt F.PWR_EVT_RAIL_FLT 50

theorem exec_railFault (r : Fin 65) (kind : Fin 4) (ok : Bool) (s : State) : exec (.railFault r kind ok) s =
    .next (if 1 ≤ railDie r.val ∧ railDie r.val ≤ 8 ∧ (s.railLogged r.val kind.val ok).doze.at (railDie r.val - 1) = 3 then
      (s.railLogged r.val kind.val ok).dozeFail (railDie r.val - 1) ok else (s.railLogged r.val kind.val ok).fenceDie (railDie r.val) 6 ok) := by
  show execRailFault r kind ok s = _
  unfold execRailFault
  extract_lets pos off s1 s2 bup pwr s3 s4
  have h4 : s4 = s.railLogged r.val kind.val ok := rfl
  rw [h4]
  split
  · rfl
  · rfl

/-- What a rail's fault leaves noted, whatever ends with it. -/
structure RailFaulted (r kind : Nat) (ok : Bool) (s t : State) : Prop where
  bit : bitAt (t.pwr.rails.at r).flt kind = true
  boot : t.bup.railFlt = true
  event : t.bget .PWR_EVT F.PWR_EVT_RAIL_FLT = true
  count : 1 ≤ (t.icu.src.at 50).count
  log : s.logRoom ok = true → (s.log.recs ++ [⟨0x0A, 6, r + (t.pwr.rails.at r).flt * 128, 0, 0, false⟩]) <+: t.log.recs

theorem Survives.logRec_pwr (s : State) (r : LogRec) (ok : Bool) : (s.logRec r ok).pwr = s.pwr ∧ { (s.logRec r ok).bup with dies := [] } = { s.bup with dies := [] } :=
  have h : Survives true s (s.logRec r ok) := Survives.logRec (Survives.refl s)
  ⟨h.pwr, h.bup⟩

theorem State.railLogged_faulted (s : State) (r kind : Nat) (ok : Bool) : RailFaulted r kind ok s (s.railLogged r kind ok) := by
  have hrest := s.railNoted_rest r kind
  have hbit := s.railNoted_bit r kind
  have hlog : (s.railNoted r kind).log = s.log := by rw [hrest]
  have hboot : (s.railNoted r kind).bup.railFlt = true := by rw [hrest]
  unfold State.railLogged
  generalize s.railNoted r kind = t at hbit hlog hboot
  obtain ⟨hpwr, hbup⟩ := Survives.logRec_pwr t ⟨0x0A, 6, r + (t.pwr.rails.at r).flt * 128, 0, 0, false⟩ ok
  have hrecs (h : t.logRoom ok = true) := State.logRec_recs ⟨0x0A, 6, r + (t.pwr.rails.at r).flt * 128, 0, 0, false⟩ h
  generalize t.logRec ⟨0x0A, 6, r + (t.pwr.rails.at r).flt * 128, 0, 0, false⟩ ok = u at hpwr hbup hrecs
  have hpwr' : (u.pwrEvt F.PWR_EVT_RAIL_FLT 50).pwr = t.pwr := (u.pwrEvt_pwr _ _).1.trans hpwr
  refine ⟨by rw [hpwr']; exact hbit, ?_, State.pwrEvt_event _ 50 (by decide) (by decide), State.pwrEvt_count _ _ 50, fun hroom => ?_⟩
  · rw [State.pwrEvt, State.raise_bup]
    exact (congrArg BupUnit.railFlt hbup).trans hboot
  · have hroom' : t.logRoom ok = true := by
      rw [State.logRoom, hlog]
      exact hroom
    rw [hpwr', State.pwrEvt, State.raise_log, State.bset_log, hrecs hroom', hlog]

theorem RailFaulted.kept {r kind : Nat} {ok : Bool} {s t u : State} (h : RailFaulted r kind ok s t) (hu : Survives false t u)
    (hlog : t.log.recs <+: u.log.recs) : RailFaulted r kind ok s u := by
  have hpwr : u.pwr = t.pwr := hu.pwr
  refine ⟨by rw [hpwr]; exact h.bit, (congrArg BupUnit.railFlt hu.bup).trans h.boot, (hu.bget _ (by simp [lossRegs])).trans h.event,
    hu.counted h.count, fun hroom => ?_⟩
  rw [hpwr]
  exact (h.log hroom).trans hlog

theorem RailFaulted.faultNoted {r kind : Nat} {ok : Bool} {s t : State} (h : RailFaulted r kind ok s t) : RailFaulted r kind ok s t.faultNoted :=
  ⟨h.bit, h.boot, h.event, h.count, h.log⟩

theorem RailFaulted.dieResult {r kind : Nat} {ok : Bool} {s t : State} (h : RailFaulted r kind ok s t) (v : Nat) : RailFaulted r kind ok s (t.dieResult v) :=
  ⟨h.bit, h.boot, (State.bget_of_rget (State.rget_fset_other _ _ _ (by simp)) _).trans h.event, h.count, h.log⟩

theorem railDie_lt : ∀ r : Fin 65, railDie r.val < 20 := by decide

theorem State.railLogged_stack (s : State) (r kind : Nat) (ok : Bool) (n : Nat) : (s.railLogged r kind ok).stackFenced n = s.stackFenced n := by
  have hnoted : (s.railNoted r kind).rget (.STK_STAT (Fin.ofNat 8 n)) = s.rget (.STK_STAT (Fin.ofNat 8 n)) := by
    rw [s.railNoted_rest r kind]
    rfl
  have hreg : (s.railLogged r kind ok).rget (.STK_STAT (Fin.ofNat 8 n)) = s.rget (.STK_STAT (Fin.ofNat 8 n)) :=
    (State.pwrEvt_rget _ _ 50 (by simp [signalRegs])).trans ((State.logRec_regs _ _ _ _ (by simp [signalRegs])).trans hnoted)
  unfold State.stackFenced State.fget
  rw [hreg]

theorem railFault_completes (r : Fin 65) (kind : Fin 4) (ok : Bool) (s : State) : ∃ u, exec (.railFault r kind ok) s = .next u ∧
    bitAt (u.pwr.rails.at r.val).flt kind.val = true ∧ u.bup.railFlt = true ∧ u.bget .PWR_EVT F.PWR_EVT_RAIL_FLT = true ∧
    1 ≤ (u.icu.src.at 50).count ∧ (railDie r.val = 0 → u.faultN = true) ∧
    (1 ≤ railDie r.val → railDie r.val ≤ 11 → u.dieFenced (railDie r.val) = true) ∧
    (12 ≤ railDie r.val → s.stackFenced (railDie r.val - 12) = false → u.dieFenced (railDie r.val) = true) ∧
    (s.logRoom ok = true → (s.log.recs ++ [⟨0x0A, 6, r.val + (u.pwr.rails.at r.val).flt * 128, 0, 0, false⟩]) <+: u.log.recs) ∧
    u.fuses = s.fuses := by
  have hfaulted := s.railLogged_faulted r.val kind.val ok
  have hstack := s.railLogged_stack r.val kind.val ok
  have hlt := railDie_lt r
  have hexec := exec_railFault r kind ok s
  have hfuses {u : State} (hu : exec (.railFault r kind ok) s = .next u) : u.fuses = s.fuses :=
    Res.Kept.fuses_eq (Keeps.exec_railFault (Keeps.rfl s)) hu
  generalize s.railLogged r.val kind.val ok = t at hfaulted hexec hstack
  split at hexec
  · next hdoze =>
    obtain ⟨h1, h8, -⟩ := hdoze
    have hfence : Survives false (t.dieResult 4) ((t.dieResult 4).fenceDie (railDie r.val - 1 + 1) 6 ok) := Survives.fenceDie (Survives.refl _) (by omega)
    have hwoken : Survives false ((t.dieResult 4).fenceDie (railDie r.val - 1 + 1) 6 ok) (t.dozeFail (railDie r.val - 1) ok) :=
      Survives.loadWoken_false (Survives.refl _)
    have hpos : railDie r.val - 1 + 1 = railDie r.val := by omega
    have hdie := hwoken.fenced _ (State.fenceDie_fenced (t.dieResult 4) 6 ok (pos := railDie r.val - 1 + 1) (by omega) (by omega) (by omega))
    rw [hpos] at hdie
    obtain ⟨hbit, hboot, hevt, hcount, hlog⟩ := (hfaulted.dieResult 4).kept (hfence.trans hwoken)
      (Keeps.log_grows (Keeps.dozeFail (Keeps.rfl t)) : t.log.recs <+: _)
    exact ⟨_, hexec, hbit, hboot, hevt, hcount, fun h0 => by omega, fun _ _ => hdie, fun h12 => by omega, hlog, hfuses hexec⟩
  · by_cases h0 : railDie r.val = 0
    · rw [h0] at hexec
      have hfence : t.fenceDie 0 6 ok = t.deviceFault 4 := if_pos rfl
      rw [hfence] at hexec
      obtain ⟨hbit, hboot, hevt, hcount, hlog⟩ := hfaulted.faultNoted.kept (Survives.deviceFault t 4)
        (Keeps.log_grows (Keeps.deviceFault (Keeps.rfl t)) : t.log.recs <+: _)
      exact ⟨_, hexec, hbit, hboot, hevt, hcount, fun _ => t.deviceFault_faultN 4, fun h1 => by omega, fun h12 => by omega, hlog, hfuses hexec⟩
    · obtain ⟨hbit, hboot, hevt, hcount, hlog⟩ := hfaulted.kept (Survives.fenceDie (Survives.refl t) h0)
        (Keeps.log_grows (Keeps.fenceDie (Keeps.rfl t)))
      exact ⟨_, hexec, hbit, hboot, hevt, hcount, fun h => absurd h h0,
        fun h1 h11 => t.fenceDie_fenced 6 ok h1 hlt fun h12 => by omega,
        fun h12 hlive => t.fenceDie_fenced 6 ok (by omega) hlt fun _ => (hstack _).trans hlive, hlog, hfuses hexec⟩

/-! ### The hub (R24) -/

theorem State.setSpans_faulted (s : State) (l : List Nat) {i : Nat} (h : i ∈ l) : ((s.setSpans l .faulted).spans.at i).st = .faulted := by
  unfold State.setSpans
  refine (foldl_reaches l _ (fun _ => True) (fun i t => (t.spans.at i).st = .faulted) trivial (fun _ _ _ _ => trivial) (fun t j _ _ => ?_)
    (fun t j _ k _ _ hk => ?_)).2 i h
  · show (Tab.at (Tab.upd t.spans j (fun e => { e with st := .faulted })) j).st = .faulted
    rw [Tab.at_upd_same]
  · show (Tab.at (Tab.upd t.spans j (fun e => { e with st := .faulted })) k).st = .faulted
    rw [Tab.at_upd]
    split
    · rfl
    · exact hk

/-- What the loss of the hub tells each span's owner leaves the span faulted. -/
theorem State.faultTold_st (s : State) (j i : Nat) (h : (s.spans.at i).st = .faulted) :
    (((s.spanUpd j (fun e => { e with fault := 0 })).spanEvent j 2).spans.at i).st = .faulted := by
  have hspans (t : State) (ev : Nat) : (t.spanEvent j ev).spans = t.spans := by
    unfold State.spanEvent State.ringWrite
    dsimp only
    split
    · rw [(Signals.setLine _ _ _).spans]
    · rfl
  rw [hspans]
  show (Tab.at (Tab.upd s.spans j (fun e => { e with fault := 0 })) i).st = .faulted
  rw [Tab.at_upd]
  split
  · next e => exact e ▸ h
  · exact h

theorem State.stopAll_faulted (s : State) {x : Nat × SpanEnt} (hx : x ∈ s.spans) (h : x.2.st = .running ∨ x.2.st = .draining ∨ x.2.st = .stopping) :
    (s.stopAll.1.spans.at x.1).st = .faulted := by
  unfold State.stopAll
  extract_lets l s1
  have hmem : x.1 ∈ l := by
    refine List.mem_map.mpr ⟨x, List.mem_filter.mpr ⟨hx, ?_⟩, rfl⟩
    rcases h with h | h | h
    all_goals rw [h]
  have h1 : (s1.spans.at x.1).st = .faulted := State.setSpans_faulted _ l hmem
  exact List.foldlRecOn (motive := fun (t : State) => (t.spans.at x.1).st = .faulted) l _ h1 fun t ht j _ => t.faultTold_st j x.1 ht

theorem State.deviceFault_leaves (s : State) (cause : Nat) (hc : cause < 8) :
    (s.deviceFault cause).spans = ({ s with faultN := true } : State).stopAll.1.spans ∧
    (⟨16, 1⟩ : Fld).get (nth (s.deviceFault cause).ldp.crash 0) = 1 := by
  unfold State.deviceFault
  generalize ({ s with faultN := true } : State).stopAll = r
  dsimp only
  rw [(MemoryActs.settle _).rest]
  exact ⟨State.captureOf_spans _ _ _, (State.captureOf_valid _ _ _ hc).1⟩

theorem hubFault_completes (s : State) : ∃ u, exec .hubFault s = .next u ∧ u.faultN = true ∧ u.pwr.refuse = true ∧
    (∀ x ∈ s.spans, (x.2.st = .running ∨ x.2.st = .draining ∨ x.2.st = .stopping) → (u.spans.at x.1).st = .faulted) ∧
    (⟨16, 1⟩ : Fld).get (nth u.ldp.crash 0) = 1 ∧ u.fuses = s.fuses := by
  obtain ⟨hspans, hcrash⟩ := s.deviceFault_leaves 4 (by decide)
  refine ⟨s.deviceFault 4, rfl, s.deviceFault_faultN 4, s.deviceFault_refuse 4, fun x hx h => ?_, hcrash, Keeps.fuses_eq (Keeps.deviceFault (Keeps.rfl s))⟩
  rw [hspans]
  exact State.stopAll_faulted { s with faultN := true } hx h

/-! ### VNAND (R373, R494) -/

/-- The registers that say which LUNs' channels run and which dies are fenced. -/
def statReg : Reg → Bool
  | .BUP_FENCED => true
  | .FLC_STAT _ => true
  | _ => false

/-- What happens to the work of a LUN leaves channels and dies as they are. -/
def StatsKept (s t : State) : Prop := ∀ r, statReg r = true → t.rget r = s.rget r

namespace StatsKept
variable {s t u : State}

theorem refl (s : State) : StatsKept s s := fun _ _ => rfl

theorem trans (h : StatsKept s t) (g : StatsKept t u) : StatsKept s u := fun r hr => (g r hr).trans (h r hr)

theorem of_regs {p : List Reg} (h : RegsKept p s t) (hp : ∀ r ∈ p, statReg r = false) : StatsKept s t :=
  fun r hr => h r fun hmem => by rw [hp r hmem] at hr; exact absurd hr Bool.false_ne_true

theorem flash (h : FlashActs s t) : StatsKept s t := of_regs h.2 (by decide)

theorem signals (h : Signals s t) : StatsKept s t := of_regs h.2 (by decide)

theorem fset (s : State) {r : Reg} (f : Fld) (v : Nat) (h : statReg r = false) : StatsKept s (s.fset r f v) :=
  fun q hq => State.rget_fset_other _ _ _ (by rintro rfl; rw [h] at hq; exact absurd hq Bool.false_ne_true)

theorem foldl {α : Type} {f : State → α → State} (l : List α) (s : State) (hf : ∀ t a, StatsKept t (f t a)) : StatsKept s (l.foldl f s) :=
  List.foldlRecOn (motive := fun t => StatsKept s t) l f (refl s) fun t ht a _ => ht.trans (hf t a)

theorem countRead (s : State) (r t held time : Nat) : StatsKept s (s.countRead r t held time) := by
  have hhist (u : State) (n : Nat) : StatsKept u (u.histCount r t n) := by
    unfold State.histCount
    split
    · exact fset u _ _ rfl
    · exact refl u
  unfold State.countRead
  dsimp only
  split
  · exact hhist (s.tktUpd r t _) _
  · exact hhist (s.tktUpd r t _) _

theorem fDeliver (s : State) (q : FReq) (time stage : Nat) (code : Code) (pois ue err : Bool) : StatsKept s (s.fDeliver q time stage code pois ue err) := by
  unfold State.fDeliver
  extract_lets s1 s2
  have h1 : StatsKept s s1 := by
    dsimp only [s1]
    split
    · exact refl s
    · exact countRead s _ _ _ _
  have h2 : StatsKept s s2 := h1
  split
  · exact h1
  · exact h2.trans (flash (FlashActs.moveFeed _ _ _))
  · exact h2

theorem moveRedo {k i : Nat} {us : List Code} (h : s.moveRedo k i us = some u) : StatsKept s u := by
  unfold State.moveRedo at h
  split at h
  · cases h
    exact refl s
  · dsimp only at h
    split at h
    · cases h
    · cases h
      have hspare (n : Nat) : StatsKept s (s.takeSpare n) := refl s
      refine trans ?_ (flash (FlashActs.moveGo _ _ _ _))
      split
      · exact ((hspare _).trans (flash (FlashActs.moveUnqueue _ _ _))).trans (flash (FlashActs.replace _ _ _ _))
      · exact (hspare _).trans (flash (FlashActs.moveUnqueue _ _ _))

theorem programLost (s : State) (j : PgmJob) : StatsKept s (s.programLost j) := by
  unfold State.programLost
  split
  · exact flash (FlashActs.appendFail _ _)
  · next k i _ =>
    cases e : s.moveRedo k i j.units with
    | none => exact flash (FlashActs.moveDrop _ _)
    | some t => exact moveRedo e

theorem erased (s : State) (b : Nat) : StatsKept s (s.erased b) := by
  unfold State.erased
  split
  · exact refl s
  · split
    · exact flash (FlashActs.sbUpd _ _ _)
    · exact refl s

theorem eraseLost (s : State) (b : Nat) : StatsKept s (s.eraseLost b) := by
  unfold State.eraseLost
  split
  · split
    · exact (erased s b).trans (flash (FlashActs.replace _ _ _ _))
    · have hdead (i : Nat) (l : List Nat) : StatsKept s ((s.sbUpd i (fun x => { x with st := .dead })).flashUpd (fun f => { f with returning := f.returning ++ l })) :=
        (flash (FlashActs.sbUpd _ _ _)).trans (flash (FlashActs.flashUpd _ _))
      exact (hdead _ _).trans (foldl _ _ fun t b => flash (FlashActs.returnBlock t b))
  · exact refl s

theorem rawEnd (s : State) (c : Chan) (r : Nat) : StatsKept s (s.rawEnd c r) :=
  (((fset s _ _ rfl).trans (fset _ _ _ rfl)).trans (fset _ _ _ rfl)).trans (signals (Signals.setLine _ _ _))

theorem lunDrop (s : State) (c l : Nat) : StatsKept s (s.lunDrop c l) := by
  unfold State.lunDrop
  extract_lets k mine drop out s1 s2 s3
  have hdrop (t : State) (x : FCmd) : StatsKept t (drop t x) := by
    cases x with
    | read _ => exact fDeliver _ _ _ _ _ _ _ _
    | retry _ _ _ => exact fDeliver _ _ _ _ _ _ _ _
    | program _ => exact programLost _ _
    | erase _ => exact eraseLost _ _
    | raw _ => exact rawEnd _ _ _
  have h1 : StatsKept s s1 := (flash (FlashActs.flashUpd _ _)).trans (flash (FlashActs.flashLevel _ _))
  have h3 : StatsKept s s3 := h1.trans (foldl _ _ hdrop)
  split
  · exact h3.trans (fDeliver _ _ _ _ _ _ _ _)
  · exact h3.trans (programLost _ _)
  · exact h3

theorem settle (s : State) : StatsKept s s.settle := fun r hr => (MemoryActs.settle s).regs r fun hmem => by
  cases r with
  | BUP_FENCED => simp [memoryRegs, signalRegs, passRegs] at hmem
  | FLC_STAT c => simp [memoryRegs, signalRegs, passRegs] at hmem
  | _ => cases hr

end StatsKept

/-- A channel goes off with the commands of its LUNs. -/
def State.chanDrop (s : State) (c : Nat) : State :=
  (List.range 32).foldl (fun (s : State) l => s.lunDrop c l) (s.fset (.FLC_STAT (chan c)) F.FLC_STAT_STATE 0)

theorem State.chanDrop_stats (s : State) (c : Nat) : StatsKept (s.fset (.FLC_STAT (chan c)) F.FLC_STAT_STATE 0) (s.chanDrop c) :=
  StatsKept.foldl _ _ fun t l => StatsKept.lunDrop t c l

theorem State.chansDropped (s : State) : ((List.range 32).foldl State.chanDrop s).rget .BUP_FENCED = s.rget .BUP_FENCED ∧
    ∀ c ∈ List.range 32, ((List.range 32).foldl State.chanDrop s).fget (.FLC_STAT (chan c)) F.FLC_STAT_STATE = 0 := by
  have hzero (t : State) (c : Nat) : (t.chanDrop c).fget (.FLC_STAT (chan c)) F.FLC_STAT_STATE = 0 := by
    rw [State.fget_of_rget (t.chanDrop_stats c _ rfl), State.fget_fset_same _ _ _ _ (by decide)]
    rfl
  refine foldl_reaches (List.range 32) State.chanDrop (fun t => t.rget .BUP_FENCED = s.rget .BUP_FENCED)
    (fun c t => t.fget (.FLC_STAT (chan c)) F.FLC_STAT_STATE = 0) rfl (fun t c _ ht => ?_) (fun t c _ _ => hzero t c) (fun t c _ j _ _ hj => ?_)
  · exact (t.chanDrop_stats c _ rfl).trans ((State.rget_fset_other _ _ _ (by simp)).trans ht)
  · by_cases hcj : chan j = chan c
    · rw [hcj]
      exact hzero t c
    · rw [State.fget_of_rget (t.chanDrop_stats c _ rfl), State.fget_fset_other _ _ _ _ (fun e => hcj (Reg.FLC_STAT.inj e))]
      exact hj

theorem vnandLow_completes (s : State) : ∃ u, exec .vnandLow s = .next u ∧ (∀ c : Chan, u.fget (.FLC_STAT c) F.FLC_STAT_STATE = 0) ∧
    (∀ pos, u.dieFenced pos = s.dieFenced pos) ∧ u.fuses = s.fuses := by
  obtain ⟨hfenced, hzero⟩ := s.chansDropped
  have hexec : exec .vnandLow s = .next ((List.range 32).foldl State.chanDrop s).settle := rfl
  have hfuses := Res.Kept.fuses_eq (Keeps.exec_vnandLow (Keeps.rfl s)) hexec
  generalize (List.range 32).foldl State.chanDrop s = t at hexec hfenced hzero hfuses
  refine ⟨_, hexec, fun c => ?_, fun pos => ?_, hfuses⟩
  · rw [State.fget_of_rget (StatsKept.settle t _ rfl)]
    have hc := hzero c.val (List.mem_range.mpr c.isLt)
    rwa [chan, Fin.ofNat_val_self] at hc
  · unfold State.dieFenced State.fget
    rw [StatsKept.settle t _ rfl, hfenced]

/-- Settles O44, fault by fault: what is fenced, what turns the main side off, and what capture and log keep. -/
theorem powerFaultsAreKept : Obligations.PowerFaultsAreKept :=
  ⟨railFault_completes, clocksLost_complete, fun _ h => if_pos h, refclkLost_off, refclkPresent_completes, vinLow_completes, vinCritical_completes,
    fun s => ⟨s.resetTo .off, rfl, rfl, rfl, rfl, rfl, rfl⟩, vnandLow_completes, hubFault_completes⟩

end Sys2Proof.Machine

namespace Sys2Proof.Machine

/-! PROOFS. The test access port and the field test (O52; R469 to R480). -/

/-! ### The test access port -/

theorem State.tapOuts (l : List Nat) (f : Nat → Nat) (s : State) :
    l.foldl (fun (x : State) p => x.tapOut (f p)) s = { s with outbox := (l.map (fun p => .tdo (f p))).reverse ++ s.outbox } := by
  induction l generalizing s with
  | nil => rfl
  | cons p l ih =>
    rw [List.foldl_cons, ih, List.map_cons, List.reverse_cons, List.append_assoc]
    rfl

theorem testBit_one (p : Nat) : Nat.testBit 1 p = decide (p = 0) := by
  rw [Bool.eq_iff_iff, Nat.testBit_one_eq_true_iff_self_eq_zero, decide_eq_true_eq]

theorem State.tapChain_hub {s : State} (h : s.tap.diesel = 1) : s.tapChain = [0] := by
  have hcongr : s.tapChain = (List.range 20).filter (fun p => decide (p = 0)) := List.filter_congr fun p _ => by
    rw [h, bitAt_eq_testBit, testBit_one]
    cases decide (p = 0)
    · rfl
    · rfl
  rw [hcongr]
  decide

/-- A number made of one bit for each position has these bits. -/
theorem bitsSum (f : Nat → Bool) (n : Nat) : (List.range n).foldl (fun m k => m + b2n (f k) * 2 ^ k) 0 < 2 ^ n ∧
    ∀ p, p < n → ((List.range n).foldl (fun m k => m + b2n (f k) * 2 ^ k) 0).testBit p = f p := by
  induction n with
  | zero => exact ⟨Nat.one_pos, fun p hp => absurd hp (Nat.not_lt_zero p)⟩
  | succ n ih =>
    obtain ⟨hlt, hbits⟩ := ih
    rw [List.range_succ, List.foldl_append, List.foldl_cons, List.foldl_nil]
    generalize (List.range n).foldl (fun m k => m + b2n (f k) * 2 ^ k) 0 = m at hlt hbits
    cases hf : f n with
    | false =>
      refine ⟨by simp only [b2n]; rw [Nat.pow_succ]; simp; omega, fun p hp => ?_⟩
      rcases Nat.lt_succ_iff_lt_or_eq.mp hp with hp | rfl
      · simpa [b2n] using hbits p hp
      · simpa [b2n, hf] using Nat.testBit_lt_two_pow hlt
    | true =>
      refine ⟨by simp only [b2n]; rw [Nat.pow_succ]; simp; omega, fun p hp => ?_⟩
      have hsum : m + b2n true * 2 ^ n = 2 ^ n + m := by simp [b2n, Nat.add_comm]
      rw [hsum]
      rcases Nat.lt_succ_iff_lt_or_eq.mp hp with hp | rfl
      · rw [Nat.testBit_two_pow_add_gt hp]
        exact hbits p hp
      · rw [Nat.testBit_two_pow_add_eq, Nat.testBit_lt_two_pow hlt, hf]
        rfl

theorem State.selectMask_bit (s : State) {p : Nat} (h : p < 20) : s.selectMask.testBit p = s.selectable p := (bitsSum s.selectable 20).2 p h

theorem tapControl_completes (s : State) : exec .tapReset s = .next { s with tap := { s.tap with ir := 0x01, diesel := 1 } } ∧
    exec .tapIdcode s = .next { s with tap := { s.tap with ir := 0x01 }, outbox := (s.tapChain.map (fun p => .tdo (s.idcode p))).reverse ++ s.outbox } ∧
    (s.tap.diesel = 1 → s.tapChain = [0]) ∧
    exec .tapBypass s = .next { s with tap := { s.tap with ir := 0xFF } } ∧
    (∀ pins x, exec (.tapSamplePreload pins x) s =
      .next { s with tap := { s.tap with ir := 0x02, boundary := x }, outbox := .tdo pins :: s.outbox }) ∧
    s.idcode 0 = s.fuses.stepping.at 0 % 16 * 2 ^ 28 + 0x48D0 * 2 ^ 12 + s.fuses.jedec % 2048 * 2 + 1 :=
  ⟨rfl, congrArg Host.Outcome.next (State.tapOuts s.tapChain s.idcode (s.tapIr 0x01)), State.tapChain_hub, rfl, fun _ _ => rfl, rfl⟩

theorem State.tstEvt_event {s : State} {f : Fld} (h : s.mainOff = false) (hf : f.lo + f.len ≤ 32) (h1 : 1 ≤ f.len) :
    (s.tstEvt f).bget .TST_EVT f = true ∧ OnlyRegs [.TST_EVT] s (s.tstEvt f) := by
  have hon : s.tstEvt f = s.bset .TST_EVT f true := if_neg (by simp [h])
  rw [hon]
  exact ⟨State.bget_bset_same _ _ _ _ hf h1, OnlyRegs.bset _ _ (by simp)⟩

theorem OnlyRegs.tap_eq {p : List Reg} {s t : State} (h : OnlyRegs p s t) : t.tap = s.tap := by rw [h.1]

theorem tapTests_complete (s : State) : ∀ x ∈ [(Instr.tapExtest, 3), (.tapClamp, 4), (.tapHighz, 5)],
    (s.testState ≠ 0 → exec x.1 s = .next { s with tap := { s.tap with ir := x.2 } }) ∧
    (s.testState = 0 → s.mainOff = false → ∃ u, exec x.1 s = .next u ∧ u.tap = { s.tap with ir := 0xFF } ∧
      u.bget .TST_EVT F.TST_EVT_TAP_REFUSED = true ∧ OnlyRegs [.TST_EVT] { s with tap := u.tap } u) ∧
    (s.testState = 0 → s.mainOff = true → exec x.1 s = .next { s with tap := { s.tap with ir := 0xFF } }) := by
  have hmain (ir : Nat) : (s.testState ≠ 0 → s.tapTest ir = { s with tap := { s.tap with ir } }) ∧
      (s.testState = 0 → s.mainOff = false → (s.tapTest ir).tap = { s.tap with ir := 0xFF } ∧
        (s.tapTest ir).bget .TST_EVT F.TST_EVT_TAP_REFUSED = true ∧ OnlyRegs [.TST_EVT] { s with tap := (s.tapTest ir).tap } (s.tapTest ir)) ∧
      (s.testState = 0 → s.mainOff = true → s.tapTest ir = { s with tap := { s.tap with ir := 0xFF } }) := by
    refine ⟨fun h => if_pos h, fun h hon => ?_, fun h hoff => (if_neg (not_not.mpr h)).trans (if_pos hoff)⟩
    have heq : s.tapTest ir = (s.tapIr 0xFF).tstEvt F.TST_EVT_TAP_REFUSED := if_neg (not_not.mpr h)
    obtain ⟨hevt, honly⟩ := State.tstEvt_event (s := s.tapIr 0xFF) (f := F.TST_EVT_TAP_REFUSED) hon (by decide) (by decide)
    rw [heq]
    refine ⟨honly.tap_eq, hevt, ?_⟩
    rw [honly.tap_eq]
    exact honly
  have hall (c : Instr) (ir : Nat) (hc : exec c s = .next (s.tapTest ir)) : (s.testState ≠ 0 → exec c s = .next { s with tap := { s.tap with ir } }) ∧
      (s.testState = 0 → s.mainOff = false → ∃ u, exec c s = .next u ∧ u.tap = { s.tap with ir := 0xFF } ∧
        u.bget .TST_EVT F.TST_EVT_TAP_REFUSED = true ∧ OnlyRegs [.TST_EVT] { s with tap := u.tap } u) ∧
      (s.testState = 0 → s.mainOff = true → exec c s = .next { s with tap := { s.tap with ir := 0xFF } }) := by
    obtain ⟨htest, hrefused, hoff⟩ := hmain ir
    exact ⟨fun h => hc.trans (congrArg _ (htest h)), fun h hon => ⟨_, hc, hrefused h hon⟩, fun h hmain => hc.trans (congrArg _ (hoff h hmain))⟩
  rintro x hx
  rcases (by simpa using hx : x = (Instr.tapExtest, 3) ∨ x = (.tapClamp, 4) ∨ x = (.tapHighz, 5)) with rfl | rfl | rfl
  · exact hall _ _ rfl
  · exact hall _ _ rfl
  · exact hall _ _ rfl

theorem tapDiesel_completes (v : Fin 1048576) (s : State) : ∃ u, exec (.tapDiesel v) s = .next u ∧ u.tap.ir = 0x10 ∧
    (∀ p, p < 20 → bitAt u.tap.diesel p = (s.selectable p && (decide (p = 0) || bitAt v.val p))) ∧
    (∃ w, u.outbox = .tdo w :: s.outbox ∧ ∀ p, p < 20 → bitAt w p = (s.selectable p && bitAt s.tap.diesel p)) ∧
    u = { s with tap := { s.tap with ir := 0x10, diesel := u.tap.diesel }, outbox := u.outbox } := by
  refine ⟨_, rfl, rfl, fun p hp => ?_, ⟨_, rfl, fun p hp => ?_⟩, rfl⟩
  · show bitAt ((v.val ||| 1) &&& s.selectMask) p = _
    rw [bitAt_eq_testBit, bitAt_eq_testBit, Nat.testBit_and, Nat.testBit_or, s.selectMask_bit hp, testBit_one, Bool.and_comm, Bool.or_comm]
  · rw [bitAt_eq_testBit, bitAt_eq_testBit, Nat.testBit_and, s.selectMask_bit hp, Bool.and_comm]

theorem tapIjtag_completes (p : Fin 20) (v : Word) (s : State) :
    ((bitAt s.tap.diesel p.val = false ∨ s.selectable p.val = false) → ∀ w, exec (.tapIjtag p w v) s =
      .next { s with tap := { s.tap with ir := 0x20 }, outbox := .tdo 0 :: s.outbox }) ∧
    (bitAt s.tap.diesel p.val = true → s.selectable p.val = true → s.stageNow = 10 →
      exec (.tapIjtag p false v) s = .next { s with tap := { s.tap with ir := 0x20 }, outbox := .tdo v.toNat :: s.outbox } ∧
      (s.testState ≠ 0 → ∃ u, exec (.tapIjtag p true v) s = .next u ∧ u.tap.inst.at p.val = v ∧
        (∀ q, q ≠ p.val → u.tap.inst.at q = s.tap.inst.at q) ∧ u = { s with tap := { s.tap with ir := 0x20, inst := u.tap.inst } }) ∧
      (s.testState = 0 → s.mainOff = false → ∃ u, exec (.tapIjtag p true v) s = .next u ∧ u.tap = { s.tap with ir := 0x20 } ∧
        u.bget .TST_EVT F.TST_EVT_IJ_REFUSED = true ∧ OnlyRegs [.TST_EVT] { s with tap := u.tap } u)) := by
  refine ⟨fun h w => if_pos ?_, fun hbit hsel hstage => ?_⟩
  · rcases h with h | h
    all_goals simp [h]
  · have hin (w : Bool) : exec (.tapIjtag p w v) s = (if !w then .next ((s.tapIr 0x20).tapOut v.toNat)
        else if s.testState ≠ 0 then .next { s.tapIr 0x20 with tap := { (s.tapIr 0x20).tap with inst := s.tap.inst.put p.val v } }
        else .next ((s.tapIr 0x20).tstEvt F.TST_EVT_IJ_REFUSED)) := if_neg (by simp [hbit, hsel, hstage])
    refine ⟨hin false, fun htest => ⟨_, (hin true).trans ((if_neg (by decide)).trans (if_pos htest)), Tab.at_put_same s.tap.inst p.val v,
      fun q hq => (Tab.at_put s.tap.inst p.val q v).trans (if_neg hq), rfl⟩, fun htest hon => ?_⟩
    obtain ⟨hevt, honly⟩ := State.tstEvt_event (s := s.tapIr 0x20) (f := F.TST_EVT_IJ_REFUSED) hon (by decide) (by decide)
    refine ⟨_, (hin true).trans ((if_neg (by decide)).trans (if_neg (not_not.mpr htest))), honly.tap_eq, hevt, ?_⟩
    rw [honly.tap_eq]
    exact honly

theorem tapRegacc_completes (w : BitVec 64) (s : State) (off : Nat) (t : State) (hoff : off = 0x07000000 + (w.toNat / 2 ^ 32) % 65536)
    (ht : t = { s with tap := { s.tap with ir := 0x22 } }) :
    (off % 4 ≠ 0 → exec (.tapRegacc w) s = .next { t with resp := .error }) ∧
    (off % 4 = 0 → w.toNat / 2 ^ 63 = 1 → ∃ u, exec (.tapRegacc w) s = .next u ∧ u.resp = .none ∧
      u = { t.regWriteAt .tap 0 off (wordOf w.toNat) with resp := .none }) ∧
    (off % 4 = 0 → w.toNat / 2 ^ 63 ≠ 1 → ∃ u x, exec (.tapRegacc w) s = .next u ∧ x = t.regReadAt off ∧ u.resp = .word x.2 ∧
      u.outbox = .tdo x.2.toNat :: x.1.outbox ∧ u = { x.1 with resp := u.resp, outbox := u.outbox }) := by
  subst hoff ht
  exact ⟨fun h => if_pos h, fun h hw => ⟨_, (if_neg (not_not.mpr h)).trans (if_pos hw), rfl, rfl⟩,
    fun h hr => ⟨_, _, (if_neg (not_not.mpr h)).trans (if_neg hr), rfl, rfl, rfl, rfl⟩⟩

theorem tapInstructionsComplete : TapInstructionsComplete :=
  ⟨tapControl_completes, tapTests_complete, tapDiesel_completes, tapIjtag_completes, fun w s off t hoff ht => tapRegacc_completes w s off t hoff ht⟩

/-! ### The exit of the field test keeps the port's registers (R477, R479) -/

namespace Survives
variable {s₀ s : State}

theorem withCwy {cwy} (h : Survives false s₀ s) : Survives false s₀ ({ s with cwy } : State) :=
  ⟨h.regs, h.fields, h.fenced, h.counts, h.resp, h.faultN, h.pwr, h.tap, h.bup, h.woken, fun hk => absurd hk Bool.false_ne_true⟩

theorem bundleSet {p f} (h : Survives false s₀ s) : Survives false s₀ (s.bundleUpd p f) := withCwy h

theorem dirSet {p dir f} (h : Survives false s₀ s) : Survives false s₀ (s.dirUpd p dir f) := bundleSet h

theorem moveBundle {p} (h : Survives false s₀ s) : Survives false s₀ (s.moveBundle p) := foldl h fun h => dirSet (dirSet h)

theorem cwyEvt {p f src} (h : Survives false s₀ s) : Survives false s₀ (s.cwyEvt p f src) := ite (bsetBundle h) (raise (bsetBundle h))

theorem retrainBundle {p} (h : Survives false s₀ s) : Survives false s₀ (s.retrainBundle p) := ite (bundleSet h) (bundleSet (setBundle h))

theorem mateGoes {p} (h : Survives false s₀ s) : Survives false s₀ (s.mateGoes p) := ite (retrainBundle h) h

theorem retireBundle {p clk cause ok} (h : Survives false s₀ s) (hp : p < 78) : Survives false s₀ (s.retireBundle p clk cause ok) := by
  have hgone : Survives false s₀ ((s.bundleGone p).logLanes p 5 clk cause ok) := logLanes (cwyEvt (moveBundle (bundleSet (setBundle h))))
  have hdie := (bundleDie_range p hp).1
  exact ite h (ite (fenceDie (mateGoes hgone) (by omega)) (mateGoes hgone))

theorem testLanes {k} (h : Survives false s₀ s) : Survives false s₀ (s.testLanes k) := foldl h fun h => dirSet h

/-- A bundle that comes back after the test. -/
theorem bundleTested {p m0 m1 u st} (h : Survives false s₀ s) :
    Survives false s₀ (((s.setRepair p m0 m1).bset (.CWY_STAT (bundleNo p)) F.CWY_STAT_HALF_UPPER u).setBundle p st) := by
  have hrepair (t : State) (d : Nat) (w : Word) (ht : Survives false s₀ t) : Survives false s₀ (t.rset (repairReg p d) w) :=
    rsetIf ht (by simp [lossRegs, repairReg]) fun hno => absurd hno Bool.false_ne_true
  exact setBundle (bsetBundle (hrepair _ 1 _ (hrepair _ 0 _ h)))

theorem testBundle {p ok} (h : Survives false s₀ s) (hp : p < 78) : Survives false s₀ (s.testBundle p ok) := by
  unfold State.testBundle
  extract_lets l s1 hit
  have h1 : Survives false s₀ s1 := testLanes (testLanes h)
  refine ite (ite (logLanes h1) h1) (ite h1 (ite (retireBundle (ite (bundleSet h1) h1) hp) ?_))
  split
  · exact ite (logLanes (bundleTested h1)) (bundleTested h1)
  · exact ite (logLanes (bundleTested h1)) (bundleTested h1)
  · exact retireBundle h1 hp

theorem testStack {n ok} (h : Survives false s₀ s) : Survives false s₀ (s.testStack n ok) := by
  unfold State.testStack
  split
  · exact h
  · dsimp only
    have h1 : Survives false s₀ (s.fset (.STK_STAT (Fin.ofNat 8 n)) F.STK_STAT_STATE 2) := fset h
    split
    · exact h1
    · exact ite (fenceStack h1) (ite h1 (raise (withMem h1)))
    · exact fenceStack h1

end Survives

/-- The port's instruction register as the test ends, with the results still to apply. -/
def State.testLeaving (s : State) : State :=
  { s with tap := { s.tap with exit := false, ir := if s.tap.ir = 3 ∨ s.tap.ir = 4 ∨ s.tap.ir = 5 then 0xFF else s.tap.ir } }

/-- The results of the test are applied, and the ports begin again. -/
def State.testApplied (s : State) (ok : Bool) : State :=
  ((List.range 8).foldl (fun (s : State) n => s.testStack n ok) ((List.range 78).foldl (fun (s : State) p => s.testBundle p ok) s)).portsBack

theorem State.testExit_eq (s : State) (ok : Bool) : s.testExit ok = ((s.testLeaving.testApplied ok).setTest 0).settle := rfl

theorem State.testApplied_survives (s : State) (ok : Bool) : Survives false s (s.testApplied ok) := by
  have hbundles : Survives false s ((List.range 78).foldl (fun (s : State) p => s.testBundle p ok) s) :=
    List.foldlRecOn (motive := fun t => Survives false s t) _ _ (Survives.refl s) fun t ht p hp => Survives.testBundle ht (List.mem_range.mp hp)
  exact Survives.foldl (Survives.foldl hbundles fun h => Survives.testStack h) fun h => Survives.ite (Survives.setPort h) h

theorem State.testExit_leaves (s : State) (ok : Bool) : (s.testExit ok).testState = 0 ∧ (s.testExit ok).tap.exit = false ∧
    (s.testExit ok).tap.ir ∉ [3, 4, 5] ∧ (s.testExit ok).tap.ran = s.tap.ran ∧ (s.testExit ok).tap.fails = s.tap.fails ∧
    (s.testExit ok).fuses = s.fuses := by
  have hfuses : (s.testExit ok).fuses = s.fuses := Keeps.fuses_eq (Keeps.testExit (Keeps.rfl s))
  have htap : (s.testLeaving.testApplied ok).tap = s.testLeaving.tap := (State.testApplied_survives s.testLeaving ok).tap
  have hir : s.testLeaving.tap.ir ∉ [3, 4, 5] := by
    show (if s.tap.ir = 3 ∨ s.tap.ir = 4 ∨ s.tap.ir = 5 then 0xFF else s.tap.ir) ∉ [3, 4, 5]
    split
    · decide
    · next h => simpa using h
  have hleft : s.testLeaving.tap.exit = false ∧ s.testLeaving.tap.ran = s.tap.ran ∧ s.testLeaving.tap.fails = s.tap.fails := ⟨rfl, rfl, rfl⟩
  rw [State.testExit_eq] at hfuses ⊢
  generalize s.testLeaving.testApplied ok = t at htap hfuses
  have hstap : (t.setTest 0).settle.tap = s.testLeaving.tap := by
    rw [(MemoryActs.settle _).rest]
    exact htap
  have hstate : (t.setTest 0).settle.testState = 0 := by
    rw [State.testState, State.fget_of_rget ((MemoryActs.settle _).regs .TST_STAT (by simp [memoryRegs, signalRegs, passRegs])), State.setTest,
      State.fget_fset_same _ _ _ _ (by decide)]
    rfl
  rw [hstap]
  exact ⟨hstate, hleft.1, hir, hleft.2.1, hleft.2.2, hfuses⟩

theorem fieldTestExit_completes (ok : Bool) (s : State) :
    (s.testState = 2 → exec (.fieldTestExit ok) s = .next { s with tap := { s.tap with exit := true } }) ∧
    (s.testState ≠ 2 → s.testState ≠ 3 → exec (.fieldTestExit ok) s = .next s) ∧
    (s.testState = 3 → ∃ u, exec (.fieldTestExit ok) s = .next u ∧ u.testState = 0 ∧ u.tap.exit = false ∧
      u.tap.ir ∉ [3, 4, 5] ∧ u.tap.ran = s.tap.ran ∧ u.tap.fails = s.tap.fails ∧ u.fuses = s.fuses) :=
  ⟨fun h => (if_neg (by omega)).trans (if_pos h), fun h2 h3 => (if_neg h3).trans (if_neg h2), fun h => ⟨_, if_pos h, s.testExit_leaves ok⟩⟩

/-! ### The interconnect test (R478) -/

/-- A table that takes a value for each of some keys. -/
theorem at_foldl_put (g : Nat → List Nat) (l : List Nat) (t : Tab (List Nat)) (k : Nat) :
    Tab.at ((l.map (fun k => (k, g k))).foldl (fun (t : Tab (List Nat)) x => t.put x.1 x.2) t) k = if k ∈ l then g k else Tab.at t k := by
  induction l generalizing t with
  | nil => rfl
  | cons j l ih =>
    rw [List.map_cons, List.foldl_cons, ih, Tab.at_put]
    by_cases hl : k ∈ l
    · simp [hl]
    · by_cases hj : k = j
      · subst hj
        simp [hl]
      · simp [hl, hj]

/-- The results of the interconnect test stand in the port's registers. -/
def State.testResults (s : State) (fails : List (Fin 86 × Bool × List (Fin 704))) : State :=
  let ran := s.testTargets
  let bad := (ran.map (fun k => (k, testWires fails k))).filter (fun x => decide (x.2 ≠ []))
  let s1 : State := { s with tap := { s.tap with ran := ran, fails := bad.foldl (fun (t : Tab (List Nat)) x => t.put x.1 x.2) [] } }
  (s1.fset .TST_STAT F.TST_STAT_NFAILTGT (min 255 bad.length)).setTest 3

theorem testBad_eq (fails : List (Fin 86 × Bool × List (Fin 704))) (ran : List Nat) :
    (ran.map (fun k => (k, testWires fails k))).filter (fun x => decide (x.2 ≠ [])) =
      (ran.filter (fun k => testWires fails k ≠ [])).map (fun k => (k, testWires fails k)) := List.filter_map

theorem State.testResults_stand (s : State) (fails : List (Fin 86 × Bool × List (Fin 704))) :
    (s.testResults fails).testState = 3 ∧ (s.testResults fails).tap.ran = s.testTargets ∧
    (∀ k ∈ s.testTargets, (s.testResults fails).tap.fails.at k = testWires fails k) ∧
    (∀ k, k ∉ s.testTargets → (s.testResults fails).tap.fails.at k = []) ∧
    (s.testResults fails).fget .TST_STAT F.TST_STAT_NFAILTGT = min 255 (s.testTargets.filter (fun k => testWires fails k ≠ [])).length ∧
    OnlyRegs [.TST_STAT] { s with tap := (s.testResults fails).tap } (s.testResults fails) ∧ (s.testResults fails).tap.exit = s.tap.exit := by
  have hfails : (s.testResults fails).tap.fails =
      ((s.testTargets.filter (fun k => testWires fails k ≠ [])).map (fun k => (k, testWires fails k))).foldl (fun (t : Tab (List Nat)) x => t.put x.1 x.2) [] := by
    rw [← testBad_eq]
    rfl
  refine ⟨?_, rfl, fun k hk => ?_, fun k hk => ?_, ?_, (OnlyRegs.fset _ _ (by simp)).trans (OnlyRegs.fset _ _ (by simp)), rfl⟩
  · exact (State.fget_fset_same _ _ _ _ (by decide)).trans rfl
  · rw [hfails, at_foldl_put]
    by_cases hw : testWires fails k = []
    · rw [if_neg (by simp [hw]), hw]
      rfl
    · rw [if_pos (by simp [hk, hw])]
  · rw [hfails, at_foldl_put, if_neg (by simp [hk])]
    rfl
  · refine (State.fget_fset_field _ _ _ _ _ (by decide) (by decide)).trans ((State.fget_fset_same _ _ _ _ (by decide)).trans ?_)
    rw [testBad_eq, List.length_map]
    exact Nat.mod_eq_of_lt (show min 255 _ < 256 by omega)

theorem interconnectTestDone_completes (fails : List (Fin 86 × Bool × List (Fin 704))) (s : State) :
    (s.testState ≠ 2 → exec (.interconnectTestDone fails) s = .next s) ∧
    (s.testState = 2 → s.tap.exit = false → ∃ u, exec (.interconnectTestDone fails) s = .next u ∧ u.testState = 3 ∧
      u.tap.ran = s.testTargets ∧ (∀ k ∈ s.testTargets, u.tap.fails.at k = testWires fails k) ∧
      (∀ k, k ∉ s.testTargets → u.tap.fails.at k = []) ∧
      u.fget .TST_STAT F.TST_STAT_NFAILTGT = min 255 (s.testTargets.filter (fun k => testWires fails k ≠ [])).length ∧
      OnlyRegs [.TST_STAT] { s with tap := u.tap } u) ∧
    (s.testState = 2 → s.tap.exit = true → ∃ u, exec (.interconnectTestDone fails) s = .next u ∧ u.testState = 0 ∧
      u.fuses = s.fuses) := by
  have hexec (h : s.testState = 2) : exec (.interconnectTestDone fails) s = .next (if (s.testResults fails).tap.exit
      then ((s.testResults fails).testExit (Config.logWriteOk (s.testResults fails).free)).tick else s.testResults fails) := if_neg (not_not.mpr h)
  obtain ⟨hstate, hran, hbad, hnone, hcount, honly, hexit⟩ := s.testResults_stand fails
  refine ⟨fun h => if_pos h, fun h hno => ⟨_, (hexec h).trans (congrArg _ (if_neg (by simp [hexit, hno]))), hstate, hran, hbad, hnone, hcount, honly⟩,
    fun h hyes => ⟨_, (hexec h).trans (congrArg _ (if_pos (hexit.trans hyes))), ?_, ?_⟩⟩
  · exact ((s.testResults fails).testExit_leaves _).1
  · exact ((s.testResults fails).testExit_leaves _).2.2.2.2.2

/-! ### Field test mode is entered (R476, R477) -/

/-- The bundles that run stop for the test. -/
def State.bundlesHalted (s : State) : State := (List.range 78).foldl (fun (s : State) p => if s.bundleLive p then s.setBundle p 3 else s) s

theorem State.testStops_eq (s : State) : s.testStops = s.portsOff.standbyStacks.bundlesHalted := rfl

theorem OnlyRegs.bundlesHalted (s : State) : OnlyRegs bundleStats s s.bundlesHalted :=
  OnlyRegs.foldl (fun t p hp => by
    split
    · exact OnlyRegs.setBundle t 3 (List.mem_range.mp hp)
    · exact OnlyRegs.refl _ t) s

theorem State.testStops_stops (s : State) : (∀ q, q < 16 → s.portState q < 8 → s.testStops.portState q = 0) ∧
    (∀ n : Stack, s.stackFenced n.val = false → s.testStops.fget (.STK_STAT n) F.STK_STAT_STATE = 3) ∧ s.testStops.mem = s.mem := by
  have hports := s.portsOff_acts
  have hlive (n : Nat) : s.portsOff.stackFenced n = s.stackFenced n := by
    have hreg := hports.2 (.STK_STAT (Fin.ofNat 8 n)) (by simp [linkRegs, signalRegs, pstatReg, levtReg])
    unfold State.stackFenced State.fget
    rw [hreg]
  obtain ⟨hstacks, hself, -⟩ := s.portsOff.standbyStacks_stacks
  have hbundles := OnlyRegs.bundlesHalted s.portsOff.standbyStacks
  rw [State.testStops_eq]
  refine ⟨fun q hq hrun => ?_, fun n hn => ?_, ?_⟩
  · have hreg : s.portsOff.standbyStacks.bundlesHalted.rget (pstatReg q) = s.portsOff.rget (pstatReg q) :=
      (hbundles.2 _ (by simp [bundleStats, pstatReg])).trans (hstacks.regs _ (by simp [stackStats, pstatReg]))
    exact (State.fget_of_rget hreg _).trans (s.portsOff_portState hq hrun)
  · exact (State.fget_of_rget (hbundles.2 _ (by simp [bundleStats])) _).trans (hself n ((hlive _).trans hn))
  · rw [hbundles.1, hstacks.rest, hports.1]

theorem State.testRefusal_lt (s : State) : s.testRefusal < 8 := by
  unfold State.testRefusal
  split_ifs <;> decide

theorem fieldTestEnter_completes (s : State) :
    (s.testRefusal ≠ 0 → ∃ u, exec .fieldTestEnter s = .next u ∧ u.fget .TST_STAT F.TST_STAT_REASON = s.testRefusal ∧
      u.testState = s.testState ∧ OnlyRegs [.TST_STAT] s u) ∧
    (s.testRefusal = 0 → s.stageNow = 10 → ∃ u, exec .fieldTestEnter s = .next u ∧ u.testState = 2 ∧
      u.fget .TST_STAT F.TST_STAT_NFAILTGT = 0 ∧ u.tap.fails = [] ∧
      (∀ q, q < 16 → s.portState q < 8 → u.portState q = 0) ∧
      (∀ n : Stack, s.stackFenced n.val = false → u.fget (.STK_STAT n) F.STK_STAT_STATE = 3) ∧ u.mem = s.mem ∧ u.fuses = s.fuses) := by
  refine ⟨fun h => ⟨_, if_pos h, ?_, State.fget_fset_field _ _ _ _ _ (by decide) (by decide), OnlyRegs.fset _ _ (by simp)⟩, fun h hstage => ?_⟩
  · exact (State.fget_fset_same _ _ _ _ (by decide)).trans (Nat.mod_eq_of_lt s.testRefusal_lt)
  · have hexec : exec .fieldTestEnter s = .next (((({ s.testStops with tap := { s.tap with ran := [], fails := [], exit := false } } : State)).fset
        .TST_STAT F.TST_STAT_NFAILTGT 0).setTest 2) := by
      show execFieldTestEnter s = _
      unfold execFieldTestEnter
      extract_lets r s1 _ _ s2
      have h1 : s1 = s := if_neg (by omega)
      have h2 : s2 = { s1.testStops with tap := { s1.tap with ran := [], fails := [], exit := false } } := rfl
      rw [if_neg (not_not.mpr h), h2, h1]
    obtain ⟨hports, hstacks, hmem⟩ := s.testStops_stops
    have hfuses := Res.Kept.fuses_eq (Keeps.exec_fieldTestEnter (Keeps.rfl s)) hexec
    generalize s.testStops = t at hexec hports hstacks hmem hfuses
    have hother {r : Reg} (hr : r ≠ .TST_STAT) (f : Fld) : (((({ t with tap := { s.tap with ran := [], fails := [], exit := false } } : State)).fset
        .TST_STAT F.TST_STAT_NFAILTGT 0).setTest 2).fget r f = t.fget r f :=
      (State.fget_fset_other _ _ _ _ hr).trans (State.fget_fset_other _ _ _ _ hr)
    refine ⟨_, hexec, (State.fget_fset_same _ _ _ _ (by decide)).trans rfl, ?_, rfl, fun q hq hrun => (hother (by simp [pstatReg]) _).trans (hports q hq hrun),
      fun n hn => (hother (by simp) _).trans (hstacks n hn), hmem, hfuses⟩
    exact (State.fget_fset_field _ _ _ _ _ (by decide) (by decide)).trans ((State.fget_fset_same _ _ _ _ (by decide)).trans rfl)

theorem fieldTestCompletes : FieldTestCompletes :=
  ⟨fieldTestEnter_completes, interconnectTestDone_completes, fieldTestExit_completes⟩

/-- Settles O52, instruction by instruction of the port, and for the field test through what its exit leaves of the port's registers. -/
theorem testAccessCompletes : Obligations.TestAccessCompletes := ⟨tapInstructionsComplete, fieldTestCompletes⟩

end Sys2Proof.Machine

namespace Sys2Proof.Machine

/-! PROOFS. What the flash channel's queues and the managed flash's upkeep change of the flash, and what they leave (O21 to O27; R225, R249
to R257). -/

/-! ### Levels of queues (R224, R225) -/

/-- The registers that show the levels of the flash channels' queues. -/
def flcLevels : List Reg := (List.finRange 32).map .FLC_QLEVEL

theorem chan_mem_flcLevels (c : Nat) : Reg.FLC_QLEVEL (chan c) ∈ flcLevels := List.mem_map_of_mem (List.mem_finRange _)

/-- `t` is `s` but for the level of a channel's queue, and what it lets its sources do. -/
structure LevelActs (p : List Reg) (s t : State) : Prop where
  rest : t = { s with regs := t.regs, tkt := t.tkt, chain := t.chain }
  regs : RegsKept p s t

namespace LevelActs
variable {p : List Reg} {s t u : State}

theorem refl (p : List Reg) (s : State) : LevelActs p s s := ⟨rfl, fun _ _ => rfl⟩

theorem trans (h : LevelActs p s t) (g : LevelActs p t u) : LevelActs p s u := ⟨by rw [g.rest, h.rest], h.regs.trans g.regs⟩

theorem mono {q : List Reg} (h : LevelActs p s t) (hpq : ∀ r ∈ p, r ∈ q) : LevelActs q s t := ⟨h.rest, h.regs.mono hpq⟩

theorem fset (s : State) (r : Reg) (f : Fld) (v : Nat) (h : r ∈ p) : LevelActs p s (s.fset r f v) := ⟨rfl, RegsKept.fset f v h⟩

theorem flash (h : LevelActs p s t) : t.flash = s.flash := by rw [h.rest]

theorem resUpd (s : State) (r : Nat) (f : ResUnit → ResUnit) : LevelActs p s (s.resUpd r f) := ⟨rfl, fun _ _ => rfl⟩

theorem resourceSays (s : State) (r cls : Nat) (words lanes : List Nat) : LevelActs p s (s.resourceSays r cls words lanes) := ⟨rfl, fun _ _ => rfl⟩

theorem throttle (s : State) (r : Nat) : LevelActs p s (s.throttle r) := (resUpd s r _).trans (resourceSays _ r _ _ _)

theorem flashLevel (s : State) (c : Nat) : LevelActs [.FLC_QLEVEL (chan c)] s (s.flashLevel c) := by
  have hreg : Reg.FLC_QLEVEL (Fin.ofNat 32 (41 + c - 41)) = .FLC_QLEVEL (chan c) := by rw [Nat.add_sub_cancel_left]; rfl
  unfold State.flashLevel State.queueLevel
  extract_lets k level b b' counted stackReg flashReg shown
  have hcounted : LevelActs [.FLC_QLEVEL (chan c)] s counted := resUpd s _ _
  have hshown : LevelActs [.FLC_QLEVEL (chan c)] s shown := by
    dsimp only [shown]
    rw [if_neg (by omega), if_pos (by omega)]
    exact hcounted.trans ((fset _ _ _ _ (by simp [flashReg, hreg])).trans (fset _ _ _ _ (by simp [flashReg, hreg])))
  split
  · exact hshown
  · exact hshown.trans ((resourceSays _ _ _ _ _).trans (throttle _ _))

theorem foldl {α : Type} {f : State → α → State} (l : List α) (s : State) (hf : ∀ t a, LevelActs p t (f t a)) : LevelActs p s (l.foldl f s) :=
  List.foldlRecOn (motive := fun t => LevelActs p s t) l f (refl p s) fun t ht a _ => ht.trans (hf t a)

theorem flashLevels (s : State) (l : List Nat) : LevelActs flcLevels s (l.foldl State.flashLevel s) :=
  foldl l s fun t c => (flashLevel t c).mono (by simp [chan_mem_flcLevels])

end LevelActs

/-- A command joins its channel's queue, behind the others. -/
theorem State.flashQueue_queue (s : State) (c : Nat) (x : FCmd) : (s.flashQueue c x).flash = { s.flash with queue := s.flash.queue.upd c (· ++ [x]) } :=
  (LevelActs.flashLevel _ c).flash

/-! ### Upkeep (R249 to R252, R257) -/

/-- `t` is `s` but for what the upkeep of the managed flash changes: superblocks, spare blocks, moves, and the commands queued for them. -/
structure Upkeep (s t : State) : Prop where
  rest : t = { s with regs := t.regs, flash := t.flash, tkt := t.tkt, chain := t.chain }
  flash : t.flash = { s.flash with queue := t.flash.queue, done := t.flash.done, sbs := t.flash.sbs, spare := t.flash.spare, moves := t.flash.moves,
                                   returning := t.flash.returning, journal := t.flash.journal }
  regs : RegsKept flcLevels s t

namespace Upkeep
variable {s t u : State}

theorem refl (s : State) : Upkeep s s := ⟨rfl, rfl, fun _ _ => rfl⟩

theorem trans (h : Upkeep s t) (g : Upkeep t u) : Upkeep s u := ⟨by rw [g.rest, h.rest], by rw [g.flash, h.flash], h.regs.trans g.regs⟩

theorem ite {p : Prop} [Decidable p] {a b : State} (ha : Upkeep s a) (hb : Upkeep s b) : Upkeep s (if p then a else b) := by
  split
  · exact ha
  · exact hb

theorem foldOver {α β : Type} (g : β → State) (f : β → α → β) (h : ∀ x a, Upkeep (g x) (g (f x a))) (l : List α) (x : β) : Upkeep (g x) (g (l.foldl f x)) :=
  List.foldlRecOn (motive := fun y => Upkeep (g x) (g y)) l f (refl _) fun y hy a _ => hy.trans (h y a)

theorem foldl {α : Type} {f : State → α → State} (l : List α) (s : State) (hf : ∀ t a, Upkeep t (f t a)) : Upkeep s (l.foldl f s) := foldOver id f hf l s

theorem level (h : LevelActs flcLevels s t) : Upkeep s t := by
  obtain ⟨hrest, hregs⟩ := h
  refine ⟨?_, ?_, hregs⟩
  · rw [hrest]
  · rw [hrest]

theorem flashLevels (s : State) (l : List Nat) : Upkeep s (l.foldl State.flashLevel s) := level (LevelActs.flashLevels s l)

theorem flashLevel (s : State) (c : Nat) : Upkeep s (s.flashLevel c) := flashLevels s [c]

theorem flashQueue (s : State) (c : Nat) (x : FCmd) : Upkeep s (s.flashQueue c x) :=
  trans (t := s.flashUpd (fun f => { f with queue := f.queue.upd c (· ++ [x]) })) ⟨rfl, rfl, fun _ _ => rfl⟩ (flashLevel _ c)

theorem flashAsk (s : State) (q : FReq) : Upkeep s (s.flashAsk q) := flashQueue s _ _

theorem flashForget (s : State) (w : FWho) : Upkeep s (s.flashForget w) := by
  unfold State.flashForget
  extract_lets mine hit
  exact trans (t := s.flashUpd (fun f => { f with
    queue := (f.queue.map (fun e => (e.1, e.2.filter (fun x => !mine x)))).filter (fun e => e.2 ≠ [])
    done := f.done.filter (fun d => d.who ≠ w) })) ⟨rfl, rfl, fun _ _ => rfl⟩ (flashLevels _ _)

theorem sbUpd (s : State) (i : Nat) (f : Sb → Sb) : Upkeep s (s.sbUpd i f) := ⟨rfl, rfl, fun _ _ => rfl⟩

theorem journal (s : State) (n : Nat) : Upkeep s (s.journal n) := ⟨rfl, rfl, fun _ _ => rfl⟩

theorem putMove (s : State) (k : Nat) (m : Option Move) : Upkeep s (s.putMove k m) := ⟨rfl, rfl, fun _ _ => rfl⟩

theorem takeSpare (s : State) (b : Nat) : Upkeep s (s.takeSpare b) := ⟨rfl, rfl, fun _ _ => rfl⟩

theorem replace (s : State) (i blk b : Nat) : Upkeep s (s.replace i blk b) := ((takeSpare s b).trans (sbUpd _ i _)).trans (journal _ 1)

theorem returnBlock (s : State) (b : Nat) : Upkeep s (s.returnBlock b) :=
  ite (refl s) (ite ⟨rfl, rfl, fun _ _ => rfl⟩
    (trans (t := s.flashUpd (fun f => { f with returning := f.returning ++ [b] })) ⟨rfl, rfl, fun _ _ => rfl⟩ (flashQueue _ _ _)))

theorem releaseSb (s : State) (i : Nat) : Upkeep s (s.releaseSb i) := by
  unfold State.releaseSb
  extract_lets gone r s1 dirty s2
  have h1 : Upkeep s s1 := foldOver Prod.fst _ (fun x b => by
    split
    · exact replace _ _ _ _
    · exact refl _) gone (s, true)
  refine ite ?_ ?_
  · exact ((h1.trans (sbUpd _ _ _)).trans (foldl dirty _ fun t b => flashQueue t _ _)).trans (journal _ 1)
  · exact ((h1.trans (sbUpd _ _ _)).trans (foldl _ _ fun t b => returnBlock t b)).trans (journal _ 1)

theorem moveAsk (s : State) (k : Nat) (m : Move) (l : List Nat) : Upkeep s (s.moveAsk k m l) :=
  foldl l s fun t _ => foldl _ t fun u _ => flashAsk u _

theorem moveFeed (s : State) (k fuel : Nat) : Upkeep s (s.moveFeed k fuel) := by
  induction fuel generalizing s with
  | zero => exact refl s
  | succ n ih =>
    have hfed (m : Option Move) (l : List FDone) : Upkeep s ((s.putMove k m).flashUpd (fun f => { f with done := l })) :=
      ⟨rfl, rfl, fun _ _ => rfl⟩
    unfold State.moveFeed
    split
    · exact refl s
    · split
      · exact refl s
      · split
        · exact refl s
        · exact ((hfed _ _).trans (flashQueue _ _ _)).trans (ih _)

theorem moveGo (s : State) (k : Nat) (m : Move) (l : List Nat) : Upkeep s (s.moveGo k m l) :=
  ((putMove s k _).trans (moveAsk _ k m l)).trans (moveFeed _ k _)

theorem relocGo (s : State) : Upkeep s s.relocGo := foldl _ s fun t i => by
  split
  · exact ite (refl t) ((sbUpd t _ _).trans (moveGo _ _ _ _))
  · exact refl t

theorem moveUnqueue (s : State) (k : Nat) (p : Nat → Bool) : Upkeep s (s.moveUnqueue k p) := by
  unfold State.moveUnqueue
  extract_lets mine hit
  exact trans (t := s.flashUpd (fun f => { f with
    queue := (f.queue.map (fun e => (e.1, e.2.filter (fun x => !mine x)))).filter (fun e => e.2 ≠ []) })) ⟨rfl, rfl, fun _ _ => rfl⟩ (flashLevels _ _)

theorem moveDrop (s : State) (k : Nat) : Upkeep s (s.moveDrop k) := by
  unfold State.moveDrop
  split
  · exact refl s
  · dsimp only
    have hdropped := ((putMove s k none).trans (flashForget _ (.move k))).trans (moveUnqueue _ k (fun _ => true))
    split
    · exact hdropped.trans (releaseSb _ _)
    · exact hdropped.trans (foldl _ _ fun t b => returnBlock t b)

theorem moveRedo {k i : Nat} {us : List Code} (h : s.moveRedo k i us = some t) : Upkeep s t := by
  unfold State.moveRedo at h
  split at h
  · cases h
    exact refl s
  · dsimp only at h
    split at h
    · cases h
    · cases h
      have hspare (n : Nat) (p : Nat → Bool) : Upkeep s ((s.takeSpare n).moveUnqueue k p) := (takeSpare s n).trans (moveUnqueue _ k p)
      refine trans ?_ (moveGo _ _ _ _)
      split
      · exact (hspare _ _).trans (replace _ _ _ _)
      · exact hspare _ _

theorem zones (h : Upkeep s t) : t.flash.zones = s.flash.zones := by rw [h.flash]

theorem codes (h : Upkeep s t) : t.flash.codes = s.flash.codes := by rw [h.flash]

theorem blocks (h : Upkeep s t) : t.flash.blocks = s.flash.blocks := by rw [h.flash]

end Upkeep

end Sys2Proof.Machine

namespace Sys2Proof.Machine

/-! PROOFS. Zone commands: what opening, finishing, freeing and querying a zone do, and how each is answered (O23; R250, R254, R255). -/

/-! ### Answers -/

section ZoneAnswer
variable (s : State) (k : Nat)

@[simp] theorem State.zoneAnswer_flash : (s.zoneAnswer k).flash = s.flash := by simp [State.zoneAnswer]

theorem State.zoneAnswer_regs : RegsKept (.FLC_ZONE_STAT :: signalRegs) s (s.zoneAnswer k) :=
  ((RegsKept.fset _ _ (by simp)).trans (RegsKept.fset _ _ (by simp))).trans fun _ hr => State.raise_rget _ _ fun h => hr (List.mem_cons_of_mem _ h)

theorem State.zoneAnswer_state : (s.zoneAnswer k).fget .FLC_ZONE_STAT F.FLC_ZONE_STAT_STATE = if k = 0 then 2 else 3 := by
  unfold State.zoneAnswer
  rw [State.raise_fget _ _ (by simp [signalRegs]), State.fget_fset_field _ _ _ _ _ (by decide) (by decide), State.fget_fset_same _ _ _ _ (by decide)]
  split <;> rfl

theorem State.zoneAnswer_reason (hk : k < 16) : (s.zoneAnswer k).fget .FLC_ZONE_STAT F.FLC_ZONE_STAT_REASON = k := by
  unfold State.zoneAnswer
  rw [State.raise_fget _ _ (by simp [signalRegs]), State.fget_fset_same _ _ _ _ (by decide)]
  exact Nat.mod_eq_of_lt hk

theorem State.zoneAnswer_field (f : Fld) (hf : 8 ≤ f.lo) :
    (s.zoneAnswer k).fget .FLC_ZONE_STAT f = s.fget .FLC_ZONE_STAT f := by
  unfold State.zoneAnswer
  rw [State.raise_fget _ _ (by simp [signalRegs]), State.fget_fset_field _ _ _ _ _ (by decide) (.inr (show 4 + 4 ≤ f.lo from hf)),
    State.fget_fset_field _ _ _ _ _ (by decide) (.inr (Nat.le_trans (show 0 + 2 ≤ 8 by decide) hf))]

theorem State.zoneAnswer_raised : Raised 289 s (s.zoneAnswer k) := by
  unfold State.zoneAnswer
  exact (State.raise_raised _ 289).of_counts_eq rfl rfl

@[simp] theorem State.capShow_flash : s.capShow.flash = s.flash := by
  unfold State.capShow
  dsimp only
  split <;> simp

theorem State.capShow_regs : RegsKept ([.FLC_CAP, .FLC_CAP_TOTAL] ++ signalRegs) s s.capShow := by
  unfold State.capShow
  extract_lets _ _ shown
  have hshown : RegsKept ([.FLC_CAP, .FLC_CAP_TOTAL] ++ signalRegs) s shown :=
    (RegsKept.fset _ _ (by simp)).trans (RegsKept.fset _ _ (by simp))
  split
  · exact hshown.trans fun _ hr => State.raise_rget _ _ fun h => hr (List.mem_append_right _ h)
  · exact hshown

end ZoneAnswer

/-! ### Superblocks in use stay in use while relocations start (R250) -/

section SbsKept
variable (s : State) (k : Nat)

theorem State.flashQueue_sbs (c : Nat) (x : FCmd) : (s.flashQueue c x).flash.sbs = s.flash.sbs := by rw [State.flashQueue_queue]

theorem State.moveAsk_sbs (m : Move) (l : List Nat) : (s.moveAsk k m l).flash.sbs = s.flash.sbs :=
  List.foldlRecOn (motive := fun t : State => t.flash.sbs = s.flash.sbs) l _ rfl fun t ht _ _ =>
    List.foldlRecOn (motive := fun t : State => t.flash.sbs = s.flash.sbs) (List.range t.geo.k) _ ht fun u hu _ _ =>
      (State.flashQueue_sbs u _ _).trans hu

theorem State.moveFeed_sbs (fuel : Nat) : (s.moveFeed k fuel).flash.sbs = s.flash.sbs := by
  induction fuel generalizing s with
  | zero => rfl
  | succ n ih =>
    unfold State.moveFeed
    split
    · rfl
    · split
      · rfl
      · split
        · rfl
        · rw [ih, State.flashQueue_sbs]
          rfl

theorem State.moveGo_sbs (m : Move) (l : List Nat) : (s.moveGo k m l).flash.sbs = s.flash.sbs := by
  unfold State.moveGo
  rw [State.moveFeed_sbs, State.moveAsk_sbs]
  rfl

theorem State.sbUpd_used {i f : Nat} (h : (s.flash.sbs.at i).st = .used) :
    ((s.sbUpd f (fun x => { x with st := .used })).flash.sbs.at i).st = .used := by
  show ((s.flash.sbs.upd f (fun x => { x with st := .used })).at i).st = .used
  rw [Tab.at_upd]
  split
  · rfl
  · exact h

theorem State.sbUpd_used_self (i : Nat) : ((s.sbUpd i (fun x => { x with st := .used })).flash.sbs.at i).st = .used := by
  show ((s.flash.sbs.upd i (fun x => { x with st := .used })).at i).st = .used
  rw [Tab.at_upd_same]

theorem State.relocGo_used {i : Nat} (h : (s.flash.sbs.at i).st = .used) : (s.relocGo.flash.sbs.at i).st = .used := by
  unfold State.relocGo
  refine List.foldlRecOn (motive := fun t : State => (t.flash.sbs.at i).st = .used) s.flash.relocs _ h fun t ht j _ => ?_
  split
  · next f _ =>
    split
    · exact ht
    · dsimp only
      rw [State.moveGo_sbs]
      exact State.sbUpd_used _ ht
  · exact ht

end SbsKept

/-- `t` is a state that the wear check may lead to: zones, codewords and blocks stand, and what is in use stays in use. -/
structure WearActs (s t : State) : Prop where
  zones : t.flash.zones = s.flash.zones
  codes : t.flash.codes = s.flash.codes
  blocks : t.flash.blocks = s.flash.blocks
  used : ∀ i, (s.flash.sbs.at i).st = .used → (t.flash.sbs.at i).st = .used
  regs : RegsKept flcLevels s t

theorem State.wearCheck_acts (s : State) : WearActs s s.wearCheck := by
  have hrefl : WearActs s s := ⟨rfl, rfl, rfl, fun _ h => h, RegsKept.refl _ _⟩
  unfold State.wearCheck
  extract_lets _ _ _ _ best
  cases best with
  | some i =>
    dsimp only
    split
    · have h := Upkeep.relocGo (s.flashUpd (fun f => { f with relocs := f.relocs ++ [i] }))
      exact ⟨h.zones, h.codes, h.blocks, fun j hj => State.relocGo_used _ hj, h.regs⟩
    · exact hrefl
  | none => exact hrefl

/-! ### The handle of a zone that is opened is free (R255) -/

theorem Tab.mem_keys_of_at_ne {α : Type} [Inhabited α] {t : Tab α} {k : Nat} (h : t.at k ≠ default) : k ∈ t.map (·.1) := by
  induction t with
  | nil => exact absurd rfl h
  | cons e t ih =>
    obtain ⟨j, v⟩ := e
    by_cases hk : k = j
    · exact List.mem_cons.mpr (.inl hk)
    · refine List.mem_cons_of_mem _ (ih ?_)
      rwa [Tab.at, if_neg hk] at h

/-- Among as many names as there are zones and one more, one is free. -/
theorem zones_have_free_handle (t : Tab Zone) :
    ∃ i, (List.range (t.length + 1)).find? (fun i => !decide ((t.at (i + 1)).st ≠ 0)) = some i := by
  cases hfind : (List.range (t.length + 1)).find? (fun i => !decide ((t.at (i + 1)).st ≠ 0)) with
  | some i => exact ⟨i, rfl⟩
  | none =>
    have hknown : (List.range (t.length + 1)).map (· + 1) ⊆ t.map (·.1) := by
      intro k hk
      obtain ⟨i, hi, rfl⟩ := List.mem_map.mp hk
      have hst := List.find?_eq_none.mp hfind i hi
      refine Tab.mem_keys_of_at_ne fun hdef => hst ?_
      rw [hdef]
      rfl
    have hnodup : ((List.range (t.length + 1)).map (· + 1)).Nodup := List.nodup_range.map (add_left_injective 1)
    have hlen := (hnodup.subperm hknown).length_le
    simp at hlen

/-- The handle that ZONE_OPEN gives (log entry 79). -/
def State.newHandle (s : State) : Nat :=
  let known (h : Nat) : Bool := decide ((s.flash.zones.at h).st ≠ 0)
  let w := (Config.freeWord s.free).toNat
  if 1 ≤ w ∧ w ≤ 0xFFFFFFFE ∧ ¬known w then w
  else ((List.range (s.flash.zones.length + 1)).find? (fun i => !known (i + 1))).getD 0 + 1

theorem State.newHandle_free (s : State) (hlen : s.flash.zones.length < 8388608) :
    (s.flash.zones.at s.newHandle).st = 0 ∧ 1 ≤ s.newHandle ∧ s.newHandle < 2 ^ 32 - 1 := by
  unfold State.newHandle
  dsimp only
  split
  · next h =>
    obtain ⟨hlo, hhi, hfree⟩ := h
    exact ⟨by simpa using hfree, hlo, by omega⟩
  · obtain ⟨i, hi⟩ := zones_have_free_handle s.flash.zones
    rw [hi]
    have hrange := List.mem_range.mp (List.mem_of_find?_eq_some hi)
    exact ⟨by simpa using List.find?_some hi, Nat.le_add_left 1 i, by simp only [Option.getD_some]; omega⟩

/-! ### ZONE_OPEN -/

theorem State.useSbs_used (l : List Nat) (s : State) (i : Nat) (h : i ∈ l ∨ (s.flash.sbs.at i).st = .used) :
    ((l.foldl (fun (s : State) i => s.sbUpd i (fun x => { x with st := .used })) s).flash.sbs.at i).st = .used := by
  induction l generalizing s with
  | nil => exact h.resolve_left List.not_mem_nil
  | cons j l ih =>
    refine ih _ ?_
    by_cases hij : i = j
    · exact .inr (hij ▸ State.sbUpd_used_self s i)
    · exact h.imp (fun hm => (List.mem_cons.mp hm).resolve_left hij) (State.sbUpd_used s)

theorem State.useSbs_upkeep (l : List Nat) (s : State) :
    Upkeep s (l.foldl (fun (s : State) i => s.sbUpd i (fun x => { x with st := .used })) s) :=
  Upkeep.foldl l s fun t i => Upkeep.sbUpd t i _

/-- The state in which ZONE_OPEN has reserved the superblocks of its zone and named it. -/
def State.zoneNew (s : State) (n : Nat) : State :=
  let l := s.pickSbs n []
  let s1 := l.foldl (fun (s : State) i => s.sbUpd i (fun x => { x with st := .used })) s.tick
  (s1.zoneUpd s.newHandle (fun _ => ⟨1, n, 0, l, none, 0⟩)).rset .FLC_ZONE_HANDLE (wordOf s.newHandle)

theorem State.zoneNew_zones (s : State) (n : Nat) :
    (s.zoneNew n).flash.zones = s.flash.zones.upd s.newHandle (fun _ => ⟨1, n, 0, s.pickSbs n [], none, 0⟩) :=
  congrArg (fun t : Tab Zone => t.upd s.newHandle (fun _ => ⟨1, n, 0, s.pickSbs n [], none, 0⟩)) (State.useSbs_upkeep (s.pickSbs n []) s.tick).zones

theorem State.zoneNew_codes (s : State) (n : Nat) : (s.zoneNew n).flash.codes = s.flash.codes :=
  (State.useSbs_upkeep (s.pickSbs n []) s.tick).codes

theorem State.zoneNew_blocks (s : State) (n : Nat) : (s.zoneNew n).flash.blocks = s.flash.blocks :=
  (State.useSbs_upkeep (s.pickSbs n []) s.tick).blocks

theorem State.zoneNew_used (s : State) (n : Nat) {i : Nat} (hi : i ∈ s.pickSbs n []) : ((s.zoneNew n).flash.sbs.at i).st = .used :=
  State.useSbs_used _ s.tick i (.inl hi)

theorem State.zoneNew_handle (s : State) (n : Nat) : (s.zoneNew n).rget .FLC_ZONE_HANDLE = wordOf s.newHandle := by
  unfold State.zoneNew
  simp

theorem State.zoneNew_regs (s : State) (n : Nat) : RegsKept (.FLC_ZONE_HANDLE :: flcLevels) s (s.zoneNew n) :=
  have hused : RegsKept flcLevels s _ := (State.useSbs_upkeep (s.pickSbs n []) s.tick).regs
  (hused.mono fun _ => List.mem_cons_of_mem _).trans (RegsKept.rset _ (by simp))

theorem execZoneOpen_opens {n : Fin 256} {s : State} (hfence : s.dieFenced 9 = false)
    (hbusy : s.fget .FLC_ZONE_STAT F.FLC_ZONE_STAT_STATE ≠ 1) (hmount : s.mounted = true) (hlo : 1 ≤ n.val) (hhi : n.val ≤ 128)
    (hfree : n.val ≤ s.freeSb) (hlen : s.flash.zones.length < 8388608) :
    execZoneOpen n s = .next ((((s.zoneNew n.val).journal 1).capShow.wearCheck).zoneAnswer 0) := by
  unfold execZoneOpen
  rw [if_neg (by simp [hfence, hbusy]), if_neg (by simp [hmount]), if_neg (by omega), if_neg (by omega), if_neg (by omega)]
  rfl

/-- ZONE_OPEN makes the zone, on superblocks of lowest wear, under a handle that no zone has (R255). -/
theorem exec_zoneOpen_opens {n : Fin 256} {s : State} (hfence : s.dieFenced 9 = false)
    (hbusy : s.fget .FLC_ZONE_STAT F.FLC_ZONE_STAT_STATE ≠ 1) (hmount : s.mounted = true) (hlo : 1 ≤ n.val) (hhi : n.val ≤ 128)
    (hfree : n.val ≤ s.freeSb) (hlen : s.flash.zones.length < 8388608) :
    ∃ u h, exec (.zoneOpen n) s = .next u ∧ (s.flash.zones.at h).st = 0 ∧ u.rget .FLC_ZONE_HANDLE = wordOf h ∧ 1 ≤ h ∧
      h < 2 ^ 32 - 1 ∧ u.flash.zones.at h = ⟨1, n.val, 0, s.pickSbs n.val [], none, 0⟩ ∧
      (∀ k, k ≠ h → u.flash.zones.at k = s.flash.zones.at k) ∧ (∀ i ∈ s.pickSbs n.val [], (u.flash.sbs.at i).st = .used) ∧
      u.fget .FLC_ZONE_STAT F.FLC_ZONE_STAT_STATE = 2 ∧ u.fget .FLC_ZONE_STAT F.FLC_ZONE_STAT_REASON = 0 ∧
      u.flash.codes = s.flash.codes ∧ u.flash.blocks = s.flash.blocks ∧
      RegsKept ([.FLC_ZONE_STAT, .FLC_ZONE_HANDLE, .FLC_CAP, .FLC_CAP_TOTAL] ++ (List.finRange 32).map .FLC_QLEVEL ++ signalRegs) s u := by
  obtain ⟨hunused, hpos, hlt⟩ := s.newHandle_free hlen
  have hworn := ((s.zoneNew n.val).journal 1).capShow.wearCheck_acts
  have hshown : ((s.zoneNew n.val).journal 1).capShow.flash = ((s.zoneNew n.val).journal 1).flash := State.capShow_flash _
  have hzones : (((s.zoneNew n.val).journal 1).capShow.wearCheck.zoneAnswer 0).flash.zones =
      s.flash.zones.upd s.newHandle (fun _ => ⟨1, n.val, 0, s.pickSbs n.val [], none, 0⟩) := by
    rw [State.zoneAnswer_flash, hworn.zones, hshown]
    exact s.zoneNew_zones n.val
  refine ⟨_, s.newHandle, execZoneOpen_opens hfence hbusy hmount hlo hhi hfree hlen, hunused, ?handle, hpos, hlt, ?zone, ?others, ?used,
    State.zoneAnswer_state _ _, State.zoneAnswer_reason _ _ (by decide), ?codes, ?blocks, ?regs⟩
  case zone => rw [hzones, Tab.at_upd_same]
  case others =>
    intro k hk
    rw [hzones, Tab.at_upd, if_neg hk]
  case used =>
    intro i hi
    rw [State.zoneAnswer_flash]
    refine hworn.used i ?_
    rw [hshown]
    exact s.zoneNew_used n.val hi
  case codes =>
    rw [State.zoneAnswer_flash, hworn.codes, hshown]
    exact s.zoneNew_codes n.val
  case blocks =>
    rw [State.zoneAnswer_flash, hworn.blocks, hshown]
    exact s.zoneNew_blocks n.val
  case handle =>
    rw [State.zoneAnswer_regs _ _ _ (by simp [signalRegs]), hworn.regs _ (by simp [flcLevels]), State.capShow_regs _ _ (by simp [signalRegs])]
    exact s.zoneNew_handle n.val
  case regs =>
    have hnew : RegsKept (.FLC_ZONE_HANDLE :: flcLevels) s ((s.zoneNew n.val).journal 1) := s.zoneNew_regs n.val
    refine (((hnew.mono ?_).trans ((State.capShow_regs _).mono ?_)).trans (hworn.regs.mono ?_)).trans ((State.zoneAnswer_regs _ _).mono ?_)
    · simp +contextual [flcLevels]
    · simp +contextual
    · simp +contextual [flcLevels]
    · simp +contextual

/-- A zone command that is refused changes nothing but its answer. -/
theorem State.zoneAnswer_refuses (s : State) {k : Nat} (hk : k ≠ 0) (hlt : k < 16) :
    (s.zoneAnswer k).fget .FLC_ZONE_STAT F.FLC_ZONE_STAT_STATE = 3 ∧ (s.zoneAnswer k).fget .FLC_ZONE_STAT F.FLC_ZONE_STAT_REASON = k ∧
      Raised 289 s (s.zoneAnswer k) ∧ RegsKept (.FLC_ZONE_STAT :: signalRegs) s (s.zoneAnswer k) ∧ (s.zoneAnswer k).flash = s.flash :=
  ⟨by rw [State.zoneAnswer_state, if_neg hk], State.zoneAnswer_reason s k hlt, s.zoneAnswer_raised k, s.zoneAnswer_regs k, s.zoneAnswer_flash k⟩

theorem exec_zoneOpen_refused {n : Fin 256} {k : Nat} {s : State} (hfence : s.dieFenced 9 = false)
    (hbusy : s.fget .FLC_ZONE_STAT F.FLC_ZONE_STAT_STATE ≠ 1)
    (hk : (k = 3 ∧ s.mounted = false) ∨ (k = 6 ∧ s.mounted = true ∧ (n.val = 0 ∨ 128 < n.val)) ∨
      (k = 1 ∧ s.mounted = true ∧ 1 ≤ n.val ∧ n.val ≤ 128 ∧ s.freeSb < n.val)) :
    exec (.zoneOpen n) s = .next (s.zoneAnswer k) := by
  show execZoneOpen n s = _
  unfold execZoneOpen
  rw [if_neg (by simp [hfence, hbusy])]
  rcases hk with ⟨rfl, hmount⟩ | ⟨rfl, hmount, hn⟩ | ⟨rfl, hmount, hlo, hhi, hfree⟩
  · rw [if_pos (by simp [hmount])]
  · rw [if_neg (by simp [hmount]), if_pos hn]
  · rw [if_neg (by simp [hmount]), if_neg (by omega), if_pos hfree]

/-! ### ZONE_FINISH and ZONE_FREE (R255, R256) -/

/-- What giving superblocks back and showing the capacity does, before the answer of a zone command. -/
theorem zoneDone_flash {s t : State} (h : Upkeep s t) :
    ((t.journal 1).capShow.zoneAnswer 0).flash.zones = s.flash.zones ∧ ((t.journal 1).capShow.zoneAnswer 0).flash.codes = s.flash.codes := by
  rw [State.zoneAnswer_flash, State.capShow_flash]
  exact ⟨h.zones, h.codes⟩

theorem State.zoneFinish_zone (s : State) (z : Nat) :
    (s.zoneFinish z).flash.zones = s.flash.zones.upd z (fun x => { x with
        st := if x.st = 1 then 2 else x.st, nsb := ceilDiv (s.flash.zones.at z).wp 8192
        sbs := x.sbs.take (ceilDiv (s.flash.zones.at z).wp 8192), after := 0 }) ∧
      (s.zoneFinish z).flash.codes = s.flash.codes :=
  zoneDone_flash (Upkeep.foldl _ (s.zoneUpd z _) Upkeep.releaseSb)

theorem State.zoneFree_zone (s : State) (z : Nat) :
    (s.zoneFree z).flash.zones = s.flash.zones.filter (fun e => e.1 ≠ z) ∧ (s.zoneFree z).flash.codes = s.flash.codes :=
  zoneDone_flash (s := s.flashUpd (fun f => { f with zones := f.zones.filter (fun e => e.1 ≠ z), relocs := f.relocs.filter (fun i => !(s.flash.zones.at z).sbs.contains i) }))
    ((Upkeep.foldl _ _ Upkeep.moveDrop).trans (Upkeep.foldl _ _ Upkeep.releaseSb))

/-- A FINISH or FREE that must wait for an append notes it and shows that it is busy. -/
theorem zoneUpd_waits (s : State) (z : Nat) (f : Zone → Zone) :
    let u := (s.zoneUpd z f).fset .FLC_ZONE_STAT F.FLC_ZONE_STAT_STATE 1
    u.flash.zones.at z = f (s.flash.zones.at z) ∧ u.fget .FLC_ZONE_STAT F.FLC_ZONE_STAT_STATE = 1 ∧ RegsKept [.FLC_ZONE_STAT] s u :=
  ⟨Tab.at_upd_same s.flash.zones z f, State.fget_fset_same _ _ _ _ (by decide),
    fun r hr => (RegsKept.fset (s := s.zoneUpd z f) _ _ (by simp)) r hr⟩

section ZoneFinishFree
variable {s : State} (hfence : s.dieFenced 9 = false) (hbusy : s.fget .FLC_ZONE_STAT F.FLC_ZONE_STAT_STATE ≠ 1) (hmount : s.mounted = true)
include hfence hbusy hmount

theorem exec_zoneFinish_goes (hst : (s.flash.zones.at s.zoneNamed).st ∈ [1, 3]) :
    exec .zoneFinish s = .next (if (s.flash.zones.at s.zoneNamed).append.isSome then
      (s.zoneUpd s.zoneNamed (fun x => { x with after := 2 })).fset .FLC_ZONE_STAT F.FLC_ZONE_STAT_STATE 1
      else s.zoneFinish s.zoneNamed) := by
  show execZoneFinish s = _
  unfold execZoneFinish
  extract_lets z x
  have hx : x.st = 1 ∨ x.st = 3 := by simpa [x, z] using hst
  rw [if_neg (by simp [hfence, hbusy]), if_neg (by simp [hmount]), if_neg (show ¬x.st = 0 by omega), if_neg (show ¬x.st = 2 by omega)]
  split <;> rfl

theorem exec_zoneFree_goes (hst : (s.flash.zones.at s.zoneNamed).st ≠ 0) :
    exec .zoneFree s = .next (if (s.flash.zones.at s.zoneNamed).append.isSome then
      (s.zoneUpd s.zoneNamed (fun x => { x with after := 3 })).fset .FLC_ZONE_STAT F.FLC_ZONE_STAT_STATE 1
      else s.zoneFree s.zoneNamed) := by
  show execZoneFree s = _
  unfold execZoneFree
  extract_lets z x
  rw [if_neg (by simp [hfence, hbusy]), if_neg (by simp [hmount]), if_neg hst]
  split <;> rfl

/-- The state of a query's answer before its result is shown. -/
theorem exec_zoneQuery_goes (hst : (s.flash.zones.at s.zoneNamed).st ≠ 0) :
    exec .zoneQuery s = .next ((((s.fset .FLC_ZONE_STAT F.FLC_ZONE_STAT_ZSTATE (s.flash.zones.at s.zoneNamed).st).fset
      .FLC_ZONE_STAT F.FLC_ZONE_STAT_NSB (s.flash.zones.at s.zoneNamed).nsb).fset
      .FLC_ZONE_WP F.FLC_ZONE_WP_WP (s.flash.zones.at s.zoneNamed).wp).zoneAnswer 0) := by
  show execZoneQuery s = _
  unfold execZoneQuery
  extract_lets x
  rw [if_neg (by simp [hfence, hbusy]), if_neg (by simp [hmount]), if_neg hst]

end ZoneFinishFree

/-- FINISH of a zone without an append shortens it to what is written (R255). -/
theorem State.zoneFinish_ends (s : State) (z : Nat) :
    ((s.zoneFinish z).flash.zones.at z).st = (if (s.flash.zones.at z).st = 1 then 2 else (s.flash.zones.at z).st) ∧
      ((s.zoneFinish z).flash.zones.at z).nsb = ceilDiv (s.flash.zones.at z).wp 8192 ∧
      ((s.zoneFinish z).flash.zones.at z).sbs = (s.flash.zones.at z).sbs.take (ceilDiv (s.flash.zones.at z).wp 8192) ∧
      (∀ k, k ≠ z → (s.zoneFinish z).flash.zones.at k = s.flash.zones.at k) ∧
      (s.zoneFinish z).fget .FLC_ZONE_STAT F.FLC_ZONE_STAT_STATE = 2 ∧ (s.zoneFinish z).flash.codes = s.flash.codes := by
  obtain ⟨hzones, hcodes⟩ := s.zoneFinish_zone z
  rw [hzones, Tab.at_upd_same]
  exact ⟨rfl, rfl, rfl, fun k hk => by rw [Tab.at_upd, if_neg hk], State.zoneAnswer_state _ _, hcodes⟩

theorem State.zoneFree_ends (s : State) (z : Nat) :
    (s.zoneFree z).flash.zones.at z = default ∧ (∀ k, k ≠ z → (s.zoneFree z).flash.zones.at k = s.flash.zones.at k) ∧
      (s.zoneFree z).fget .FLC_ZONE_STAT F.FLC_ZONE_STAT_STATE = 2 ∧ (s.zoneFree z).flash.codes = s.flash.codes := by
  obtain ⟨hzones, hcodes⟩ := s.zoneFree_zone z
  rw [hzones]
  exact ⟨by rw [Tab.at_filter_ne, if_pos rfl], fun k hk => by rw [Tab.at_filter_ne, if_neg hk], State.zoneAnswer_state _ _, hcodes⟩

theorem State.zoneQueried (s : State) (st nsb wp : Nat) :
    let u := (((s.fset .FLC_ZONE_STAT F.FLC_ZONE_STAT_ZSTATE st).fset .FLC_ZONE_STAT F.FLC_ZONE_STAT_NSB nsb).fset
      .FLC_ZONE_WP F.FLC_ZONE_WP_WP wp).zoneAnswer 0
    u.fget .FLC_ZONE_STAT F.FLC_ZONE_STAT_ZSTATE = st % 2 ^ F.FLC_ZONE_STAT_ZSTATE.len ∧
    u.fget .FLC_ZONE_STAT F.FLC_ZONE_STAT_NSB = nsb % 2 ^ F.FLC_ZONE_STAT_NSB.len ∧
    u.fget .FLC_ZONE_WP F.FLC_ZONE_WP_WP = wp % 2 ^ F.FLC_ZONE_WP_WP.len ∧
    u.fget .FLC_ZONE_STAT F.FLC_ZONE_STAT_STATE = 2 ∧ Raised 289 s u ∧ u.flash = s.flash ∧
    RegsKept ([.FLC_ZONE_STAT, .FLC_ZONE_WP] ++ signalRegs) s u := by
  refine ⟨?_, ?_, ?_, State.zoneAnswer_state _ _, (State.zoneAnswer_raised _ _).of_counts_eq rfl rfl, State.zoneAnswer_flash _ _, ?_⟩
  · rw [State.zoneAnswer_field _ _ _ (by decide), State.fget_fset_other _ _ _ _ (by decide), State.fget_fset_field _ _ _ _ _ (by decide) (by decide),
      State.fget_fset_same _ _ _ _ (by decide)]
  · rw [State.zoneAnswer_field _ _ _ (by decide), State.fget_fset_other _ _ _ _ (by decide), State.fget_fset_same _ _ _ _ (by decide)]
  · rw [(State.zoneAnswer_regs _ 0).fget (by simp [signalRegs]), State.fget_fset_same _ _ _ _ (by decide)]
  · exact (((RegsKept.fset _ _ (by simp)).trans (RegsKept.fset _ _ (by simp))).trans (RegsKept.fset _ _ (by simp))).trans
      ((State.zoneAnswer_regs _ 0).mono (by simp +contextual))

/-- On a flash that is not mounted, or of a name that no zone has, the command is refused. -/
theorem exec_zone_refused {s : State} (hfence : s.dieFenced 9 = false) (hbusy : s.fget .FLC_ZONE_STAT F.FLC_ZONE_STAT_STATE ≠ 1)
    (hbad : s.mounted = false ∨ (s.flash.zones.at s.zoneNamed).st = 0) {c : Instr} (hc : c ∈ [Instr.zoneFinish, .zoneFree, .zoneQuery]) :
    exec c s = .next (s.zoneAnswer (if s.mounted = true then 5 else 3)) := by
  have hexec : ∀ f ∈ [execZoneFinish, execZoneFree, execZoneQuery], f s = .next (s.zoneAnswer (if s.mounted = true then 5 else 3)) := by
    simp only [List.forall_mem_cons, execZoneFinish, execZoneFree, execZoneQuery]
    cases hmount : s.mounted with
    | false => simp [hfence, hbusy]
    | true =>
      have hst := hbad.resolve_left (by simp [hmount])
      simp [hfence, hbusy, hst]
  simp only [List.mem_cons, List.not_mem_nil, or_false] at hc
  rcases hc with rfl | rfl | rfl
  · exact hexec execZoneFinish (by simp)
  · exact hexec execZoneFree (by simp)
  · exact hexec execZoneQuery (by simp)

/-- Settles O23, by what each zone command does to the zone it names: the upkeep of superblocks leaves zones and codewords as they are, and a
handle is free because there is one more name than zones. -/
theorem zoneCommandsComplete : Obligations.ZoneCommandsComplete := by
  unfold Obligations.ZoneCommandsComplete
  intro s hfence hbusy
  refine ⟨fun n hmount hlo hhi hfree hlen => exec_zoneOpen_opens hfence hbusy hmount hlo hhi hfree hlen, ?refused, ?finish, ?free, ?query, ?unknown⟩
  case refused =>
    intro n k hk
    have hrange : k ≠ 0 ∧ k < 16 := by rcases hk with ⟨rfl, _⟩ | ⟨rfl, _⟩ | ⟨rfl, _⟩ <;> decide
    exact ⟨_, exec_zoneOpen_refused hfence hbusy hk, s.zoneAnswer_refuses hrange.1 hrange.2⟩
  case finish =>
    intro hmount hst
    have hgoes := exec_zoneFinish_goes hfence hbusy hmount hst
    refine ⟨fun hnone => ?_, fun a ha => ?_⟩
    · rw [if_neg (by simp [hnone])] at hgoes
      obtain ⟨hstate, hrest⟩ := s.zoneFinish_ends s.zoneNamed
      refine ⟨_, hgoes, hstate.trans ?_, hrest⟩
      split
      · rfl
      · next h1 => simpa [h1] using hst
    · rw [if_pos (by simp [ha])] at hgoes
      exact ⟨_, hgoes, zoneUpd_waits s s.zoneNamed _⟩
  case free =>
    intro hmount hst
    have hgoes := exec_zoneFree_goes hfence hbusy hmount hst
    refine ⟨fun hnone => ?_, fun a ha => ?_⟩
    · rw [if_neg (by simp [hnone])] at hgoes
      exact ⟨_, hgoes, s.zoneFree_ends s.zoneNamed⟩
    · rw [if_pos (by simp [ha])] at hgoes
      exact ⟨_, hgoes, zoneUpd_waits s s.zoneNamed _⟩
  case query =>
    intro hmount hst
    exact ⟨_, exec_zoneQuery_goes hfence hbusy hmount hst, s.zoneQueried _ _ _⟩
  case unknown =>
    intro hbad c hc
    have hrange : (if s.mounted = true then 5 else 3) ≠ 0 ∧ (if s.mounted = true then 5 else 3) < 16 := by split <;> decide
    obtain ⟨hstate, hreason, hraised, -, hflash⟩ := s.zoneAnswer_refuses hrange.1 hrange.2
    exact ⟨_, exec_zone_refused hfence hbusy hbad hc, hstate, hreason, hraised, hflash⟩

end Sys2Proof.Machine

namespace Sys2Proof.Machine

/-! PROOFS. What waits at the flash channels: which command a channel performs next, and that upkeep adds commands behind the others and no
raw command (O21, O22, O24, O25, O27; R225, R244, R262). -/

/-! ### The next command of a channel (R244) -/

section NextCmd
variable {s : State} {c : Nat}

/-- The next command is one of the channel's queue, at the place that the choice names. -/
theorem State.nextCmd_mem {x : FCmd} {i : Nat} (h : s.nextCmd c = some (x, i)) : (x, i) ∈ (s.flash.queue.at c).zipIdx := by
  suffices hall : ∀ y ∈ s.nextCmd c, y ∈ (s.flash.queue.at c).zipIdx from hall _ h
  unfold State.nextCmd
  refine List.foldlRecOn (motive := fun b => ∀ y ∈ b, y ∈ (s.flash.queue.at c).zipIdx) _ _ (by simp) fun b hb x hx => ?_
  split
  · split
    · split
      · simpa using hx
      · exact hb
    · simpa using hx
  · exact hb

theorem State.nextCmd_queued {x : FCmd} {i : Nat} (h : s.nextCmd c = some (x, i)) : x ∈ s.flash.queue.at c := by
  obtain ⟨-, -, hx⟩ := List.mem_zipIdx (State.nextCmd_mem h)
  rw [hx]
  exact List.getElem_mem _

/-- Where no raw command waits, none follows the command at hand. -/
theorem State.rawNext_rests {c : Chan} (h : NoRawWaits c.val s) : s.rawNext c = s := by
  unfold State.rawNext
  split
  · next j i hnext => exact absurd rfl (h _ (State.nextCmd_queued hnext) j)
  · rfl

theorem NoRawWaits.of_subset {t : State} (h : NoRawWaits c s) (hq : t.flash.queue.at c ⊆ s.flash.queue.at c) : NoRawWaits c t :=
  fun x hx => h x (hq hx)

end NextCmd

/-! ### A command leaves its queue -/

section Dequeue
variable (s : State) (c i : Nat)

theorem State.dequeue_acts : LevelActs [.FLC_QLEVEL (chan c)] (s.flashUpd (fun f => { f with queue := f.queue.upd c (fun l => l.eraseIdx i) })) (s.dequeue c i) :=
  LevelActs.flashLevel _ c

theorem State.dequeue_flash : (s.dequeue c i).flash = { s.flash with queue := s.flash.queue.upd c (fun l => l.eraseIdx i) } :=
  (s.dequeue_acts c i).flash

theorem State.dequeue_queue : (s.dequeue c i).flash.queue.at c = (s.flash.queue.at c).eraseIdx i := by
  rw [State.dequeue_flash]
  exact Tab.at_upd_same s.flash.queue c (fun l => l.eraseIdx i)

/-- `t` is `s` but for what is told to a LUN: the commands of its channel are counted, and the pins carry them. -/
theorem State.onfi_eq (l : Nat) (ops : List (List Nat)) : s.onfi c l ops =
    { s with flash := { s.flash with cmds := s.flash.cmds.upd c (· + ops.length) }, outbox := (s.onfi c l ops).outbox } := by
  unfold State.onfi
  refine List.foldlRecOn (motive := fun t : State => t = { s with flash := { s.flash with cmds := s.flash.cmds.upd c (· + ops.length) }, outbox := t.outbox })
    ops _ rfl fun t ht x _ => ?_
  rw [ht]
  rfl

theorem State.onfi_flash (l : Nat) (ops : List (List Nat)) : (s.onfi c l ops).flash = { s.flash with cmds := s.flash.cmds.upd c (· + ops.length) } := by
  rw [State.onfi_eq]

theorem State.onfi_regs (l : Nat) (ops : List (List Nat)) : (s.onfi c l ops).regs = s.regs := by
  rw [State.onfi_eq]

end Dequeue

/-! ### Upkeep adds commands behind the others, and no raw command -/

/-- Each channel's queue is continued by commands none of which is raw. -/
def QueueGrows (s t : State) : Prop :=
  ∀ c, ∃ l, t.flash.queue.at c = s.flash.queue.at c ++ l ∧ ∀ x ∈ l, ∀ j, x ≠ FCmd.raw j

namespace QueueGrows
variable {s t u : State}

theorem of_queue (h : t.flash.queue = s.flash.queue) : QueueGrows s t := fun c => ⟨[], by rw [h, List.append_nil], by simp⟩

theorem refl (s : State) : QueueGrows s s := of_queue rfl

theorem trans (h : QueueGrows s t) (g : QueueGrows t u) : QueueGrows s u := fun c => by
  obtain ⟨l, hl, hraw⟩ := h c
  obtain ⟨m, hm, hraw'⟩ := g c
  exact ⟨l ++ m, by rw [hm, hl, List.append_assoc], fun x hx => (List.mem_append.mp hx).elim (hraw x) (hraw' x)⟩

theorem ite {p : Prop} [Decidable p] {a b : State} (ha : QueueGrows s a) (hb : QueueGrows s b) : QueueGrows s (if p then a else b) := by
  split
  · exact ha
  · exact hb

theorem foldOver {α β : Type} (g : β → State) (f : β → α → β) (h : ∀ x a, QueueGrows (g x) (g (f x a))) (l : List α) (x : β) :
    QueueGrows (g x) (g (l.foldl f x)) :=
  List.foldlRecOn (motive := fun y => QueueGrows (g x) (g y)) l f (refl _) fun y hy a _ => hy.trans (h y a)

theorem foldl {α : Type} {f : State → α → State} (l : List α) (s : State) (hf : ∀ t a, QueueGrows t (f t a)) : QueueGrows s (l.foldl f s) :=
  foldOver id f hf l s

theorem flashQueue (s : State) (k : Nat) {x : FCmd} (hx : ∀ j, x ≠ .raw j) : QueueGrows s (s.flashQueue k x) := fun c => by
  rw [State.flashQueue_queue]
  dsimp only
  rw [Tab.at_upd]
  split
  · next hck => exact ⟨[x], by rw [hck], by simpa using hx⟩
  · exact ⟨[], (List.append_nil _).symm, by simp⟩

theorem flashAsk (s : State) (q : FReq) : QueueGrows s (s.flashAsk q) := flashQueue s _ (by simp)

theorem replace (s : State) (i blk b : Nat) : QueueGrows s (s.replace i blk b) := of_queue rfl

theorem returnBlock (s : State) (b : Nat) : QueueGrows s (s.returnBlock b) :=
  ite (refl s) (ite (of_queue rfl) (trans (t := s.flashUpd (fun f => { f with returning := f.returning ++ [b] })) (of_queue rfl) (flashQueue _ _ (by simp))))

theorem moveAsk (s : State) (k : Nat) (m : Move) (l : List Nat) : QueueGrows s (s.moveAsk k m l) :=
  foldl l s fun t _ => foldl _ t fun u _ => flashAsk u _

theorem moveFeed (s : State) (k fuel : Nat) : QueueGrows s (s.moveFeed k fuel) := by
  induction fuel generalizing s with
  | zero => exact refl s
  | succ n ih =>
    have hfed (m : Option Move) (l : List FDone) : QueueGrows s ((s.putMove k m).flashUpd (fun f => { f with done := l })) := of_queue rfl
    unfold State.moveFeed
    split
    · exact refl s
    · split
      · exact refl s
      · split
        · exact refl s
        · exact ((hfed _ _).trans (flashQueue _ _ (by simp))).trans (ih _)

theorem moveGo (s : State) (k : Nat) (m : Move) (l : List Nat) : QueueGrows s (s.moveGo k m l) :=
  (trans (t := s.putMove k (some m)) (of_queue rfl) (moveAsk _ k m l)).trans (moveFeed _ k _)

theorem relocGo (s : State) : QueueGrows s s.relocGo := foldl _ s fun t i => by
  split
  · next f _ => exact ite (refl t) (trans (t := t.sbUpd f (fun x => { x with st := .used })) (of_queue rfl) (moveGo _ _ _ _))
  · exact refl t

theorem wearCheck (s : State) : QueueGrows s s.wearCheck := by
  unfold State.wearCheck
  extract_lets _ _ _ _ best
  cases best with
  | some i => exact ite (trans (t := s.flashUpd (fun f => { f with relocs := f.relocs ++ [i] })) (of_queue rfl) (relocGo _)) (refl s)
  | none => exact refl s

theorem capShow (s : State) : QueueGrows s s.capShow := of_queue (by rw [State.capShow_flash])

theorem erased (s : State) (b : Nat) : QueueGrows s (s.erased b) := by
  unfold State.erased
  split
  · exact of_queue rfl
  · split
    · exact of_queue rfl
    · exact refl s

theorem eraseLost (s : State) (b : Nat) : QueueGrows s (s.eraseLost b) := by
  unfold State.eraseLost
  split
  · split
    · exact (erased s b).trans (replace _ _ _ _)
    · dsimp only
      exact trans (t := (s.sbUpd _ _).flashUpd _) (of_queue rfl) (foldl _ _ fun t b => returnBlock t b)
  · exact of_queue rfl

/-- What is queued already stands first. -/
theorem prefix_queue (h : QueueGrows s t) (c : Nat) : s.flash.queue.at c <+: t.flash.queue.at c := by
  obtain ⟨l, hl, -⟩ := h c
  exact ⟨l, hl.symm⟩

theorem noRawWaits {c : Nat} (h : QueueGrows s t) (hs : NoRawWaits c s) : NoRawWaits c t := by
  obtain ⟨l, hl, hraw⟩ := h c
  intro x hx
  rw [hl] at hx
  exact (List.mem_append.mp hx).elim (hs x) (hraw x)

end QueueGrows

theorem NoRawWaits.dequeue {s : State} {c : Nat} (h : NoRawWaits c s) (i : Nat) : NoRawWaits c (s.dequeue c i) :=
  NoRawWaits.of_subset h (by rw [State.dequeue_queue]; exact List.eraseIdx_subset)

end Sys2Proof.Machine

namespace Sys2Proof.Machine

/-! PROOFS. Erases, relocations, LUN timeouts and the ledger's checkpoints (O25; R236, R249 to R252, R254, R257). -/

/-! ### Erases and what becomes of a block are upkeep -/

namespace Upkeep
variable {s t : State}

theorem erased (s : State) (b : Nat) : Upkeep s (s.erased b) := by
  unfold State.erased
  split
  · exact ⟨rfl, rfl, fun _ _ => rfl⟩
  · split
    · exact sbUpd s _ _
    · exact refl s

theorem eraseLost (s : State) (b : Nat) : Upkeep s (s.eraseLost b) := by
  have hdead (i : Nat) (l : List Nat) : Upkeep s ((s.sbUpd i (fun x => { x with st := .dead })).flashUpd (fun f => { f with returning := f.returning ++ l })) :=
    ⟨rfl, rfl, fun _ _ => rfl⟩
  unfold State.eraseLost
  split
  · split
    · exact (erased s b).trans (replace _ _ _ _)
    · exact (hdead _ _).trans (foldl _ _ fun t b => returnBlock t b)
  · exact ⟨rfl, rfl, fun _ _ => rfl⟩

theorem run (h : Upkeep s t) : t.flash.run = s.flash.run := by rw [h.flash]

theorem log (h : Upkeep s t) : t.log = s.log := by rw [h.rest]

end Upkeep

/-! ### What ends at a LUN (R236, R254) -/

/-- The events of a flash channel (R264). -/
def flcEvents : List Fld := [F.FLC_EVT_PGM_FAIL, F.FLC_EVT_ERS_FAIL, F.FLC_EVT_UE, F.FLC_EVT_REFRESH, F.FLC_EVT_LUN_FENCED, F.FLC_EVT_CHAN_FENCED, F.FLC_EVT_RAW_DONE]

theorem State.flcEvt_shows (s : State) (c : Chan) {f : Fld} (hf : f ∈ flcEvents) : (s.flcEvt c.val f).bget (.FLC_EVT c) f = true := by
  have hshape : f.lo + f.len ≤ 32 ∧ 1 ≤ f.len := by
    revert f
    decide
  unfold State.flcEvt
  rw [show chan c.val = c from Fin.ofNat_val_self c, (Signals.setLine _ _ _).bget (by simp [signalRegs])]
  exact State.bget_bset_same _ _ _ _ hshape.1 hshape.2

theorem State.flcEvt_line (s : State) (c : Nat) (f : Fld) : ((s.flcEvt c f).icu.src.at (256 + c)).line = true := State.setLine_line _ _

theorem State.flcEvt_regs (s : State) (c : Nat) (f : Fld) : RegsKept (.FLC_EVT (chan c) :: signalRegs) s (s.flcEvt c f) :=
  (RegsKept.bset _ _ (by simp)).trans ((Signals.setLine _ _ _).2.mono fun _ => List.mem_cons_of_mem _)

theorem State.flcEvt_rest (s : State) (c : Nat) (f : Fld) : (s.flcEvt c f).flash = s.flash ∧ (s.flcEvt c f).log = s.log := by
  unfold State.flcEvt
  rw [(Signals.setLine _ _ _).1]
  exact ⟨rfl, rfl⟩

theorem State.flcEvt_rises (s : State) (k : Nat) {f g : Fld} (hf : f ∈ flcEvents) (hg : g ∈ flcEvents) (c : Chan)
    (h : s.bget (.FLC_EVT c) g = true) : (s.flcEvt k f).bget (.FLC_EVT c) g = true := by
  by_cases hc : c = chan k ∧ g = f
  · obtain ⟨rfl, rfl⟩ := hc
    have hnum : s.flcEvt k g = (s.bset (.FLC_EVT (chan k)) g true).setLine (256 + k) true := rfl
    have hshape : g.lo + g.len ≤ 32 ∧ 1 ≤ g.len := by
      clear h hnum hf
      revert g
      decide
    rw [hnum, (Signals.setLine _ _ _).bget (by simp [signalRegs])]
    exact State.bget_bset_same _ _ _ _ hshape.1 hshape.2
  · have happart : ∀ f ∈ flcEvents, ∀ g ∈ flcEvents, g ≠ f → g.lo + g.len ≤ f.lo ∨ f.lo + f.len ≤ g.lo := by decide
    have hlen : f.lo + f.len ≤ 32 := by
      clear h hc happart
      revert f
      decide
    unfold State.flcEvt
    rw [(Signals.setLine _ _ _).bget (by simp [signalRegs]), State.bget_bset_apart _ _ hlen ?_]
    · exact h
    · by_cases hck : c = chan k
      · exact .inr (happart f hf g hg fun hgf => hc ⟨hck, hgf⟩)
      · exact .inl (by simpa using hck)

theorem State.logRec_flash (s : State) (r : LogRec) (ok : Bool) : (s.logRec r ok).flash = s.flash := by
  unfold State.logRec
  dsimp only
  split
  · split
    · rw [State.raise_flash]
      rfl
    · rfl
  · rw [State.raise_flash]
    rfl

/-- The registers of a channel that say what its LUNs are, and which of them are fenced. -/
def lunReg : Reg → Bool
  | .FLC_LUN _ => true
  | .FLC_LUN_FENCE _ => true
  | .FLC_OPEN _ => true
  | .FLC_CTL _ => true
  | _ => false

/-- `t` is `s` but for the end of work at LUNs: none is busy that was not, and no event goes. -/
structure LunActs (s t : State) : Prop where
  run : ∀ k, s.flash.run.at k = none → t.flash.run.at k = none
  luns : ∀ r, lunReg r = true → t.rget r = s.rget r
  evts : ∀ c, ∀ f ∈ flcEvents, s.bget (.FLC_EVT c) f = true → t.bget (.FLC_EVT c) f = true

namespace LunActs
variable {s t u : State}

theorem refl (s : State) : LunActs s s := ⟨fun _ h => h, fun _ _ => rfl, fun _ _ _ h => h⟩

theorem trans (h : LunActs s t) (g : LunActs t u) : LunActs s u :=
  ⟨fun k hk => g.run k (h.run k hk), fun r hr => (g.luns r hr).trans (h.luns r hr), fun c f hf hs => g.evts c f hf (h.evts c f hf hs)⟩

theorem of_regs {p : List Reg} (hregs : RegsKept p s t) (hp : ∀ r ∈ p, lunReg r = false ∧ ∀ c, r ≠ .FLC_EVT c)
    (hrun : t.flash.run = s.flash.run) : LunActs s t :=
  ⟨fun k hk => by rw [hrun]; exact hk, fun r hr => hregs r fun hmem => by simp [(hp r hmem).1] at hr,
    fun c f _ hs => by rw [hregs.bget fun hmem => (hp _ hmem).2 c rfl]; exact hs⟩

/-- What changes neither registers nor commands in progress. -/
theorem of_same (hregs : t.regs = s.regs) (hrun : t.flash.run = s.flash.run) : LunActs s t :=
  of_regs (p := []) (fun r _ => by rw [State.rget, hregs]; rfl) (by simp) hrun

theorem flashActs (h : FlashActs s t) (hrun : t.flash.run = s.flash.run) : LunActs s t :=
  of_regs h.2 (by decide) hrun

theorem upkeep (h : Upkeep s t) : LunActs s t := of_regs h.regs (by simp [flcLevels, lunReg]) h.run

theorem foldl {α : Type} {f : State → α → State} (l : List α) (s : State) (hf : ∀ t a, LunActs t (f t a)) : LunActs s (l.foldl f s) :=
  List.foldlRecOn (motive := fun t => LunActs s t) l f (refl s) fun t ht a _ => ht.trans (hf t a)

theorem lunReg_apart {k : Nat} {r : Reg} (hmem : r ∈ .FLC_EVT (chan k) :: .BUP_STAT :: signalRegs) (hr : lunReg r = true) : False := by
  have hall : ∀ r ∈ .FLC_EVT (chan k) :: .BUP_STAT :: signalRegs, lunReg r = false := by simp [signalRegs, lunReg]
  simp [hall r hmem] at hr

theorem flcEvt (s : State) (k : Nat) {f : Fld} (hf : f ∈ flcEvents) : LunActs s (s.flcEvt k f) := by
  have hflash := (s.flcEvt_rest k f).1
  exact ⟨fun j hj => by rw [hflash]; exact hj, fun r hr => s.flcEvt_regs k f r fun hmem => lunReg_apart (k := k) (by simpa using (List.mem_cons.mp hmem).imp_right .inr) hr,
    fun c g hg hs => s.flcEvt_rises k hf hg c hs⟩

theorem countRead (s : State) (r t held time : Nat) : LunActs s (s.countRead r t held time) := by
  have hhist (u : State) (n : Nat) : LunActs u (u.histCount r t n) := by
    unfold State.histCount
    split
    · exact of_regs (p := [.TEL_HIST (Fin.ofNat 16 (histBucket n))]) (RegsKept.cnt _ _ (by simp)) (by simp [lunReg]) rfl
    · exact refl u
  unfold State.countRead
  dsimp only
  have hcounted (f : TktRes → TktRes) (n : Nat) : LunActs s ((s.tktUpd r t f).histCount r t n) :=
    (of_same (s := s) (t := s.tktUpd r t f) rfl rfl).trans (hhist _ n)
  split
  · exact hcounted _ _
  · exact (hcounted _ _).trans (of_same rfl rfl)

theorem fDeliver (s : State) (q : FReq) (time stage : Nat) (code : Code) (pois ue err : Bool) : LunActs s (s.fDeliver q time stage code pois ue err) := by
  unfold State.fDeliver
  extract_lets s1 s2
  have h1 : LunActs s s1 := by
    dsimp only [s1]
    split
    · exact refl s
    · exact countRead s _ _ _ _
  have h2 : LunActs s s2 := h1.trans (of_same rfl rfl)
  split
  · exact h1
  · exact h2.trans (upkeep (Upkeep.moveFeed _ _ _))
  · exact h2

theorem zoneFinish_run (s : State) (z : Nat) : (s.zoneFinish z).flash.run = s.flash.run := by
  unfold State.zoneFinish
  rw [State.zoneAnswer_flash, State.capShow_flash]
  exact (Upkeep.foldl _ (s.zoneUpd z _) Upkeep.releaseSb).run

theorem zoneFree_run (s : State) (z : Nat) : (s.zoneFree z).flash.run = s.flash.run := by
  unfold State.zoneFree
  rw [State.zoneAnswer_flash, State.capShow_flash]
  exact ((Upkeep.foldl _ (s.flashUpd _) Upkeep.moveDrop).trans (Upkeep.foldl _ _ Upkeep.releaseSb)).run

theorem appendEnd_run (s : State) (z status errOff : Nat) : (s.appendEnd z status errOff).flash.run = s.flash.run := by
  unfold State.appendEnd
  dsimp only
  split
  · rfl
  · rw [(Upkeep.relocGo _).run]
    split
    · exact zoneFinish_run _ z
    · split
      · exact zoneFree_run _ z
      · rfl

theorem appendFail_run (s : State) (z : Nat) : (s.appendFail z).flash.run = s.flash.run := by
  unfold State.appendFail
  extract_lets hit s1 fixes
  rw [appendEnd_run, (Upkeep.foldl fixes s1 Upkeep.moveDrop).run]
  have hqueued (f : FlashUnit → FlashUnit) (hf : (f s.flash).run = s.flash.run) : (hit.foldl State.flashLevel (s.flashUpd f)).flash.run = s.flash.run := by
    rw [(LevelActs.flashLevels (s.flashUpd f) hit).flash]
    exact hf
  exact hqueued _ rfl

theorem appendFail (s : State) (z : Nat) : LunActs s (s.appendFail z) := flashActs (FlashActs.appendFail s z) (appendFail_run s z)

theorem zoneDamage_run (s : State) (z : Nat) : (s.zoneDamage z).flash.run = s.flash.run := by
  unfold State.zoneDamage
  rw [appendFail_run, State.raise_flash]
  rfl

theorem damageCheck (s : State) : LunActs s s.damageCheck := by
  refine flashActs (FlashActs.damageCheck s) ?_
  unfold State.damageCheck
  refine List.foldlRecOn (motive := fun t : State => t.flash.run = s.flash.run) _ _ rfl fun t ht z _ => ?_
  dsimp only
  split
  · rw [zoneDamage_run, ht]
  · exact ht

theorem capShow (s : State) : LunActs s s.capShow := flashActs (FlashActs.capShow s) (by rw [State.capShow_flash])

theorem programLost (s : State) (j : PgmJob) : LunActs s (s.programLost j) := by
  unfold State.programLost
  split
  · exact appendFail s _
  · next k i _ =>
    cases e : s.moveRedo k i j.units with
    | none => exact upkeep (Upkeep.moveDrop s k)
    | some t => exact upkeep (Upkeep.moveRedo e)

theorem rawEnd (s : State) (c : Chan) (r : Nat) : LunActs s (s.rawEnd c r) := by
  have hstat : LunActs s ((s.fset (.FLC_RAW_STAT c) F.FLC_RAW_STAT_STATE (if r = 0 then 2 else 3)).fset (.FLC_RAW_STAT c) F.FLC_RAW_STAT_RESULT r) :=
    of_regs (p := [.FLC_RAW_STAT c]) ((RegsKept.fset _ _ (by simp)).trans (RegsKept.fset _ _ (by simp))) (by simp [lunReg]) rfl
  exact hstat.trans (flcEvt _ _ (by decide))

theorem setRun_none (s : State) (k : Nat) : LunActs s (s.setRun k none) := by
  refine ⟨fun j hj => ?_, fun _ _ => rfl, fun _ _ _ h => h⟩
  show (s.flash.run.put k none).at j = none
  rw [Tab.at_put]
  split
  · rfl
  · exact hj

theorem lunDrop (s : State) (c l : Nat) : LunActs s (s.lunDrop c l) ∧ (s.lunDrop c l).flash.run.at (c * 32 + l) = none := by
  unfold State.lunDrop
  extract_lets k mine drop out s1 s2 s3
  have hdrop (t : State) (x : FCmd) : LunActs t (drop t x) := by
    cases x with
    | read _ => exact fDeliver _ _ _ _ _ _ _ _
    | retry _ _ _ => exact fDeliver _ _ _ _ _ _ _ _
    | program _ => exact programLost _ _
    | erase _ => exact upkeep (Upkeep.eraseLost _ _)
    | raw _ => exact rawEnd _ _ _
  have hleft (f : FlashUnit → FlashUnit) (hf : (f s.flash).run = s.flash.run) : LunActs s ((s.flashUpd f).flashLevel c) :=
    (of_same (s := s) (t := s.flashUpd f) rfl hf).trans
      (flashActs (FlashActs.flashLevel _ _) (congrArg FlashUnit.run (LevelActs.flashLevel _ c).flash))
  have h1 : LunActs s s1 := hleft _ rfl
  have h3 : LunActs s s3 := (h1.trans (foldl out s1 hdrop)).trans (setRun_none s2 k)
  have hnone : s3.flash.run.at k = none := Tab.at_put_same s2.flash.run k none
  have hends {t : State} (h : LunActs s3 t) : LunActs s t ∧ t.flash.run.at k = none := ⟨h3.trans h, h.run k hnone⟩
  split
  · exact hends (fDeliver _ _ _ _ _ _ _ _)
  · exact hends (programLost _ _)
  · exact hends (refl s3)

theorem fDeliver_log (s : State) (q : FReq) (time stage : Nat) (code : Code) (pois ue err : Bool) :
    (s.fDeliver q time stage code pois ue err).log = s.log := by
  have hcounted (r t held time : Nat) : (s.countRead r t held time).log = s.log := by
    have hhist (u : State) (n : Nat) : (u.histCount r t n).log = u.log := by
      unfold State.histCount
      split <;> rfl
    unfold State.countRead
    dsimp only
    split
    · exact hhist (s.tktUpd r t _) _
    · exact hhist (s.tktUpd r t _) _
  unfold State.fDeliver
  extract_lets s1 s2
  have h1 : s1.log = s.log := by
    dsimp only [s1]
    split
    · rfl
    · exact hcounted _ _ _ _
  split
  · exact h1
  · exact (Upkeep.moveFeed s2 _ _).log.trans h1
  · exact h1

theorem programLost_log (s : State) (j : PgmJob) : (s.programLost j).log = s.log := by
  unfold State.programLost
  split
  · rw [(FlashActs.appendFail s _).1]
  · next k i _ =>
    cases e : s.moveRedo k i j.units with
    | none => exact (Upkeep.moveDrop s k).log
    | some t => exact (Upkeep.moveRedo e).log

theorem lunDrop_log (s : State) (c l : Nat) : (s.lunDrop c l).log = s.log := by
  unfold State.lunDrop
  extract_lets k mine drop out s1 s2 s3
  have hdrop (t : State) (x : FCmd) : (drop t x).log = t.log := by
    cases x with
    | read _ => exact fDeliver_log _ _ _ _ _ _ _ _
    | retry _ _ _ => exact fDeliver_log _ _ _ _ _ _ _ _
    | program _ => exact programLost_log _ _
    | erase _ => exact (Upkeep.eraseLost _ _).log
    | raw _ => exact (State.flcEvt_rest _ _ _).2
  have h1 : s1.log = s.log := by
    dsimp only [s1]
    rw [(LevelActs.flashLevel _ c).rest]
    rfl
  have h3 : s3.log = s.log :=
    (List.foldlRecOn (motive := fun t : State => t.log = s1.log) out drop rfl fun t ht x _ => (hdrop t x).trans ht).trans h1
  split
  · exact (fDeliver_log _ _ _ _ _ _ _ _).trans h3
  · exact (programLost_log _ _).trans h3
  · exact h3

theorem logRec (s : State) (r : LogRec) (ok : Bool) : LunActs s (s.logRec r ok) :=
  ⟨fun k hk => by rw [State.logRec_flash]; exact hk, fun q hq => s.logRec_regs r ok q fun hmem => lunReg_apart (k := 0) (List.mem_cons_of_mem _ hmem) hq,
    fun c f _ hs => by rw [(s.logRec_regs r ok).bget (by simp [signalRegs])]; exact hs⟩

theorem chanFence (s : State) (c : Nat) (ok : Bool) : LunActs s (s.chanFence c ok) := by
  unfold State.chanFence
  extract_lets s1
  have h1 : LunActs s s1 :=
    (of_regs (p := [.FLC_STAT (chan c)]) (RegsKept.fset _ _ (by simp)) (by simp [lunReg]) rfl).trans (foldl _ _ fun t l => (lunDrop t c l).1)
  exact (h1.trans (logRec _ _ _)).trans (flcEvt _ _ (by decide))

end LunActs

/-! ### ERASE_STATUS (R249, R250) -/

/-- The state of an erase that has ended, before anything of it is noted. -/
def State.eraseEnds (s : State) (c : Chan) (lun : Fin 32) (i : Nat) : State := (s.dequeue c.val i).onfi c.val lun.val onfiErase

section EraseEnds
variable (s : State) (c : Chan) (lun : Fin 32) (i : Nat)

theorem State.eraseEnds_flash : (s.eraseEnds c lun i).flash =
    { s.flash with queue := s.flash.queue.upd c.val (fun l => l.eraseIdx i), cmds := s.flash.cmds.upd c.val (· + onfiErase.length) } := by
  rw [State.eraseEnds, State.onfi_flash, State.dequeue_flash]

theorem State.eraseEnds_queue : (s.eraseEnds c lun i).flash.queue.at c.val = (s.flash.queue.at c.val).eraseIdx i := by
  rw [State.eraseEnds_flash]
  exact Tab.at_upd_same s.flash.queue c.val (fun l => l.eraseIdx i)

variable {s i}

theorem State.eraseEnds_waits (h : NoRawWaits c.val s) : NoRawWaits c.val (s.eraseEnds c lun i) :=
  NoRawWaits.of_subset h (by rw [State.eraseEnds_queue]; exact List.eraseIdx_subset)

variable {b : Nat} (hnext : s.nextCmd c.val = some (.erase b, i)) (hb : b / 8192 = c.val * 32 + lun.val)
  (hfence : s.lunFenced c.val lun.val = false)
include hnext hb hfence

theorem State.eraseStatus_passes : s.eraseStatus c lun true = (((s.eraseEnds c lun i).eraseBlock b).erased b).capShow.wearCheck.relocGo := by
  unfold State.eraseStatus
  rw [hnext]
  dsimp only
  rw [if_neg (by simp [hb, hfence]), if_pos rfl]
  rfl

theorem State.eraseStatus_fails : s.eraseStatus c lun false =
    (((((s.eraseEnds c lun i).cnt (.FLC_FAIL c) F.FLC_FAIL_ERS 1).blockUpd b (fun x => { x with bad := 2 })).journal 1).eraseLost b).capShow.flcEvt
      c.val F.FLC_EVT_ERS_FAIL := by
  unfold State.eraseStatus
  rw [hnext]
  dsimp only
  rw [if_neg (by simp [hb, hfence]), if_neg (by simp)]
  rfl

/-- An erase that passed leaves its block empty, and one use more worn (R249, R250). -/
theorem exec_eraseStatus_passes (hraw : NoRawWaits c.val s) :
    ∃ u, exec (.eraseStatus c lun true) s = .next u ∧ (u.flash.blocks.at b).prog = [] ∧ (u.flash.blocks.at b).reads = 0 ∧
      (u.flash.blocks.at b).pe = min ((s.flash.blocks.at b).pe + 1) (2 ^ 24 - 1) ∧
      (∀ x ∈ u.flash.codes, x.1 / 131072 ≠ b) ∧ (∀ k, k ≠ b → u.flash.blocks.at k = s.flash.blocks.at k) ∧
      (s.flash.queue.at c.val).eraseIdx i <+: u.flash.queue.at c.val ∧ u.flash.zones = s.flash.zones := by
  have hpass := State.eraseStatus_passes c lun hnext hb hfence
  have herased := Upkeep.erased ((s.eraseEnds c lun i).eraseBlock b) b
  have hqueue : QueueGrows (s.eraseEnds c lun i) (((s.eraseEnds c lun i).eraseBlock b).erased b).capShow.wearCheck.relocGo :=
    QueueGrows.trans (t := (s.eraseEnds c lun i).eraseBlock b) (.of_queue rfl)
      ((((QueueGrows.erased _ b).trans (QueueGrows.capShow _)).trans (QueueGrows.wearCheck _)).trans (QueueGrows.relocGo _))
  have hworn := (((s.eraseEnds c lun i).eraseBlock b).erased b).capShow.wearCheck_acts
  have hreloc := Upkeep.relocGo (((s.eraseEnds c lun i).eraseBlock b).erased b).capShow.wearCheck
  have hblocks : (s.eraseStatus c lun true).flash.blocks =
      s.flash.blocks.upd b (fun x => { x with pe := min (x.pe + 1) (2 ^ 24 - 1), reads := 0, prog := [], refresh := false }) := by
    rw [hpass, hreloc.blocks, hworn.blocks, State.capShow_flash, herased.blocks]
    show (s.eraseEnds c lun i).flash.blocks.upd b (fun x => { x with pe := min (x.pe + 1) (2 ^ 24 - 1), reads := 0, prog := [], refresh := false }) = _
    rw [State.eraseEnds_flash]
  have hcodes : (s.eraseStatus c lun true).flash.codes = s.flash.codes.filter (fun e => e.1 / 131072 ≠ b) := by
    rw [hpass, hreloc.codes, hworn.codes, State.capShow_flash, herased.codes]
    show (s.eraseEnds c lun i).flash.codes.filter _ = _
    rw [State.eraseEnds_flash]
  have hzones : (s.eraseStatus c lun true).flash.zones = s.flash.zones := by
    rw [hpass, hreloc.zones, hworn.zones, State.capShow_flash, herased.zones]
    show (s.eraseEnds c lun i).flash.zones = _
    rw [State.eraseEnds_flash]
  rw [← hpass] at hqueue
  have hexec : exec (.eraseStatus c lun true) s = .next (s.eraseStatus c lun true) :=
    congrArg _ (State.rawNext_rests (hqueue.noRawWaits (State.eraseEnds_waits c lun hraw)))
  refine ⟨_, hexec, ?_, ?_, ?_, ?_, fun k hk => ?_, ?_, hzones⟩
  · rw [hblocks, Tab.at_upd_same]
  · rw [hblocks, Tab.at_upd_same]
  · rw [hblocks, Tab.at_upd_same]
  · intro x hx
    rw [hcodes] at hx
    simpa using (List.mem_filter.mp hx).2
  · rw [hblocks, Tab.at_upd, if_neg hk]
  · rw [← State.eraseEnds_queue s c lun i]
    exact hqueue.prefix_queue c.val

/-- An erase that failed leaves its block marked bad, and the channel reports so (R250). -/
theorem exec_eraseStatus_fails (hraw : NoRawWaits c.val s) :
    ∃ u, exec (.eraseStatus c lun false) s = .next u ∧ (u.flash.blocks.at b).bad = 2 ∧
      u.bget (.FLC_EVT c) F.FLC_EVT_ERS_FAIL = true ∧ u.flash.codes = s.flash.codes := by
  have hfail := State.eraseStatus_fails c lun hnext hb hfence
  let noted := (((s.eraseEnds c lun i).cnt (.FLC_FAIL c) F.FLC_FAIL_ERS 1).blockUpd b (fun x => { x with bad := 2 })).journal 1
  have hlost := Upkeep.eraseLost noted b
  have hflash : (s.eraseStatus c lun false).flash = (noted.eraseLost b).flash := by
    rw [hfail, (State.flcEvt_rest _ _ _).1, State.capShow_flash]
  have hqueue : QueueGrows (s.eraseEnds c lun i) (s.eraseStatus c lun false) :=
    (QueueGrows.trans (t := noted) (.of_queue rfl) (QueueGrows.eraseLost noted b)).trans (.of_queue (congrArg FlashUnit.queue hflash))
  have hexec : exec (.eraseStatus c lun false) s = .next (s.eraseStatus c lun false) :=
    congrArg _ (State.rawNext_rests (hqueue.noRawWaits (State.eraseEnds_waits c lun hraw)))
  refine ⟨_, hexec, ?_, ?_, ?_⟩
  · rw [hflash, hlost.blocks]
    show (((s.eraseEnds c lun i).flash.blocks.upd b (fun x => { x with bad := 2 })).at b).bad = 2
    rw [Tab.at_upd_same]
  · rw [hfail]
    exact State.flcEvt_shows _ c (by decide)
  · rw [hflash, hlost.codes]
    show (s.eraseEnds c lun i).flash.codes = _
    rw [State.eraseEnds_flash]

end EraseEnds

/-! ### RELOCATION_SWITCH (R251, R252) -/

/-- Giving the superblock `f` back leaves the moves in progress and the other superblocks as they are. -/
def ReleasesOnly (f : Nat) (s t : State) : Prop := t.flash.moves = s.flash.moves ∧ ∀ i, i ≠ f → t.flash.sbs.at i = s.flash.sbs.at i

namespace ReleasesOnly
variable {f : Nat} {s t u : State}

theorem of_same (hmoves : t.flash.moves = s.flash.moves) (hsbs : t.flash.sbs = s.flash.sbs) : ReleasesOnly f s t := ⟨hmoves, fun _ _ => by rw [hsbs]⟩

theorem trans (h : ReleasesOnly f s t) (g : ReleasesOnly f t u) : ReleasesOnly f s u :=
  ⟨g.1.trans h.1, fun i hi => (g.2 i hi).trans (h.2 i hi)⟩

theorem foldOver {α β : Type} (g : β → State) (k : β → α → β) (h : ∀ x a, ReleasesOnly f (g x) (g (k x a))) (l : List α) (x : β) :
    ReleasesOnly f (g x) (g (l.foldl k x)) :=
  List.foldlRecOn (motive := fun y => ReleasesOnly f (g x) (g y)) l k (of_same rfl rfl) fun y hy a _ => hy.trans (h y a)

theorem sbUpd (s : State) (k : Sb → Sb) : ReleasesOnly f s (s.sbUpd f k) :=
  ⟨rfl, fun i hi => (Tab.at_upd s.flash.sbs f i k).trans (if_neg hi)⟩

theorem flashQueue (s : State) (c : Nat) (x : FCmd) : ReleasesOnly f s (s.flashQueue c x) := by
  refine of_same ?_ ?_ <;> rw [State.flashQueue_queue]

theorem replace (s : State) (blk b : Nat) : ReleasesOnly f s (s.replace f blk b) :=
  
  ((of_same (s := s) (t := s.takeSpare b) rfl rfl).trans (sbUpd _ (fun x => { x with members := x.members.map (fun m => if m = blk then b else m) }))).trans
    (of_same rfl rfl)

theorem returnBlock (s : State) (b : Nat) : ReleasesOnly f s (s.returnBlock b) := by
  unfold State.returnBlock
  split
  · exact of_same rfl rfl
  · split
    · exact of_same rfl rfl
    · exact (of_same (s := s) (t := s.flashUpd (fun x => { x with returning := x.returning ++ [b] })) rfl rfl).trans (flashQueue _ _ _)

theorem releaseSb (s : State) : ReleasesOnly f s (s.releaseSb f) := by
  unfold State.releaseSb
  extract_lets gone r s1 dirty s2
  have h1 : ReleasesOnly f s s1 := foldOver Prod.fst _ (fun x b => by
    split
    · exact replace _ _ _
    · exact of_same rfl rfl) gone (s, true)
  split
  · exact ((h1.trans (sbUpd _ _)).trans (foldOver id _ (fun t b => flashQueue t _ _) dirty s2)).trans (of_same rfl rfl)
  · exact ((h1.trans (sbUpd _ _)).trans (foldOver id _ (fun t b => returnBlock t b) _ _)).trans (of_same rfl rfl)

end ReleasesOnly

/-- The state in which a relocated superblock and its copy have changed places. -/
def State.relocSwitched (s : State) (sb f : Nat) : State :=
  (((s.putMove sb none).sbUpd sb (fun x => { x with members := (s.flash.sbs.at f).members })).sbUpd f
    (fun x => { x with members := (s.flash.sbs.at sb).members })).flashUpd (fun u => { u with relocs := u.relocs.filter (· ≠ sb) })

section RelocSwitched
variable (s : State) {sb f : Nat}

theorem State.relocSwitched_sb (h : f ≠ sb) :
    (s.relocSwitched sb f).flash.sbs.at sb = { s.flash.sbs.at sb with members := (s.flash.sbs.at f).members } := by
  show ((s.flash.sbs.upd sb (fun x => { x with members := (s.flash.sbs.at f).members })).upd f
    (fun x => { x with members := (s.flash.sbs.at sb).members })).at sb = _
  rw [Tab.at_upd, if_neg h.symm, Tab.at_upd_same]

theorem State.relocSwitched_move : (s.relocSwitched sb f).flash.moves.at sb = none := Tab.at_put_same s.flash.moves sb none

theorem State.relocSwitched_relocs : sb ∉ (s.relocSwitched sb f).flash.relocs := by
  show sb ∉ s.flash.relocs.filter (· ≠ sb)
  simp

end RelocSwitched

theorem exec_relocationSwitch_switches {s : State} {sb f : Nat} {m : Move} (hm : s.flash.moves.at sb = some m) (hnew : m.new = some f) (hf : f ≠ sb)
    (hdone : m.pages.length ≤ m.passed.length) :
    ∃ u, exec (.relocationSwitch sb) s = .next u ∧
      (u.flash.sbs.at sb).members = (s.flash.sbs.at f).members ∧ (u.flash.sbs.at sb).st = (s.flash.sbs.at sb).st ∧
      sb ∉ u.flash.relocs ∧ u.flash.moves.at sb = none ∧ u.flash.zones = s.flash.zones ∧ u.flash.codes = s.flash.codes := by
  have hexec : exec (.relocationSwitch sb) s = .next (((s.relocSwitched sb f).releaseSb f).journal 1).capShow := by
    show execRelocationSwitch sb s = _
    unfold execRelocationSwitch
    rw [hm]
    dsimp only
    rw [hnew]
    dsimp only
    rw [if_neg (Nat.not_lt.mpr hdone)]
    rfl
  obtain ⟨hmoves, hsbs⟩ := (ReleasesOnly.releaseSb (f := f) (s.relocSwitched sb f)).trans (.of_same (t := ((s.relocSwitched sb f).releaseSb f).journal 1) rfl rfl)
  have hup : Upkeep (s.relocSwitched sb f) (((s.relocSwitched sb f).releaseSb f).journal 1) := (Upkeep.releaseSb _ f).trans (Upkeep.journal _ 1)
  have hsb := s.relocSwitched_sb hf
  refine ⟨_, hexec, ?_, ?_, ?_, ?_, ?_, ?_⟩ <;> rw [State.capShow_flash]
  · rw [hsbs sb hf.symm, hsb]
  · rw [hsbs sb hf.symm, hsb]
  · rw [show (((s.relocSwitched sb f).releaseSb f).journal 1).flash.relocs = (s.relocSwitched sb f).flash.relocs by rw [hup.flash]]
    exact s.relocSwitched_relocs
  · rw [hmoves]
    exact s.relocSwitched_move
  · exact hup.zones
  · exact hup.codes

/-- The move of a superblock keeps its aim while its pages are asked for and written. -/
theorem State.moveFeed_aim {s : State} {k : Nat} {new : Option Nat} (fuel : Nat) (h : ∃ m, s.flash.moves.at k = some m ∧ m.new = new) :
    ∃ m, (s.moveFeed k fuel).flash.moves.at k = some m ∧ m.new = new := by
  induction fuel generalizing s with
  | zero => exact h
  | succ n ih =>
    obtain ⟨m, hm, hnew⟩ := h
    unfold State.moveFeed
    rw [hm]
    dsimp only
    split
    · exact ⟨m, hm, hnew⟩
    · split
      · exact ⟨m, hm, hnew⟩
      · next _ l _ _ _ _ =>
        refine ih ⟨{ m with todo := l }, ?_, hnew⟩
        rw [State.flashQueue_queue]
        exact Tab.at_put_same s.flash.moves k (some { m with todo := l })

theorem State.moveAsk_moves (s : State) (k : Nat) (m : Move) (l : List Nat) : (s.moveAsk k m l).flash.moves = s.flash.moves :=
  List.foldlRecOn (motive := fun t : State => t.flash.moves = s.flash.moves) l _ rfl fun t ht _ _ =>
    List.foldlRecOn (motive := fun t : State => t.flash.moves = s.flash.moves) (List.range t.geo.k) _ ht fun u hu _ _ =>
      (congrArg FlashUnit.moves (State.flashQueue_queue u _ _)).trans hu

theorem State.moveGo_aim (s : State) (k : Nat) (m : Move) (l : List Nat) : ∃ m', (s.moveGo k m l).flash.moves.at k = some m' ∧ m'.new = m.new :=
  State.moveFeed_aim _ ⟨m, by rw [State.moveAsk_moves]; exact Tab.at_put_same s.flash.moves k (some m), rfl⟩

theorem exec_relocationSwitch_begins {s : State} {sb f : Nat} (hm : s.flash.moves.at sb = none) (hrelocs : s.flash.relocs = [sb])
    (hfree : s.bestFree [] = some f) (happ : s.appending sb = false) (hst : (s.flash.sbs.at sb).st = .used) (hmount : s.mounted = true) :
    ∃ u m, exec (.relocationSwitch sb) s = .next u ∧ u.flash.moves.at sb = some m ∧ m.new = some f ∧
      (u.flash.sbs.at f).st = .used ∧ u.flash.codes = s.flash.codes ∧ u.flash.zones = s.flash.zones := by
  have hexec : exec (.relocationSwitch sb) s = .next s.relocGo := by
    show execRelocationSwitch sb s = _
    unfold execRelocationSwitch
    rw [hm]
  have hgo : ∃ m l, m.new = some f ∧ s.relocGo = (s.sbUpd f (fun x => { x with st := .used })).moveGo sb m l := by
    unfold State.relocGo
    rw [hrelocs, List.foldl_cons, List.foldl_nil, hfree]
    dsimp only
    rw [if_neg (by simp [hm, happ, hst, hmount])]
    exact ⟨_, _, rfl, rfl⟩
  have hup := Upkeep.relocGo s
  obtain ⟨m, l, hnew, hgo⟩ := hgo
  obtain ⟨m', hm', hnew'⟩ := State.moveGo_aim (s.sbUpd f (fun x => { x with st := .used })) sb m l
  refine ⟨_, m', hexec, by rw [hgo]; exact hm', hnew'.trans hnew, ?_, hup.codes, hup.zones⟩
  rw [hgo, State.moveGo_sbs]
  exact s.sbUpd_used_self f

theorem State.relocGo_rests {s : State} (h : s.flash.relocs = [] ∨ s.bestFree [] = none) : s.relocGo = s := by
  unfold State.relocGo
  rcases h with h | h
  · rw [h]
    rfl
  · refine List.foldlRecOn (motive := fun t : State => t = s) _ _ rfl fun t ht i _ => ?_
    subst ht
    rw [h]

/-! ### LUN_TIMEOUT (R236) -/

theorem bitAt_lor (a l : Nat) : bitAt (a ||| 2 ^ l) l = true := by simp [bitAt_eq_testBit]

/-- A LUN that does not answer is fenced, its command in progress ends, and the fence is logged (R236). -/
theorem exec_lunTimeout_fences {c : Chan} {lun : Fin 32} {ok : Bool} {s : State} (hfence : s.lunFenced c.val lun.val = false)
    (hused : bitAt (s.fget (.FLC_LUN c) F.FLC_LUN_USED) lun.val = true) :
    ∃ u, exec (.lunTimeout c lun ok) s = .next u ∧
        bitAt (u.fget (.FLC_LUN_FENCE c) F.FLC_LUN_FENCE_FENCED) lun.val = true ∧
        u.bget (.FLC_EVT c) F.FLC_EVT_LUN_FENCED = true ∧ u.flash.run.at (c.val * 32 + lun.val) = none ∧
        (s.logRoom ok = true → ∃ x ∈ u.log.recs, x.typ = 0x08 ∧ x.cause = 5 ∧
          x.a = c.val + lun.val / 4 * 2 ^ 5 + lun.val % 4 * 2 ^ 8) := by
  have hchan : chan c.val = c := Fin.ofNat_val_self c
  let marked := s.fset (.FLC_LUN_FENCE c) F.FLC_LUN_FENCE_FENCED (s.fget (.FLC_LUN_FENCE c) F.FLC_LUN_FENCE_FENCED ||| 2 ^ lun.val)
  let logged := (marked.lunDrop c.val lun.val).logRec ⟨0x08, 5, c.val + lun.val / 4 * 2 ^ 5 + lun.val % 4 * 2 ^ 8, 0, 0, false⟩ ok
  let told := logged.flcEvt c.val F.FLC_EVT_LUN_FENCED
  obtain ⟨hdrop, hnone⟩ := LunActs.lunDrop marked c.val lun.val
  have hlogged : LunActs (marked.lunDrop c.val lun.val) logged := LunActs.logRec _ _ _
  have htold : LunActs logged told := LunActs.flcEvt _ _ (by decide)
  have hends : ∃ u, exec (.lunTimeout c lun ok) s = .next u ∧ LunActs told u ∧ told.log.recs <+: u.log.recs := by
    refine ⟨_, rfl, ?_⟩
    unfold State.lunFence
    extract_lets used fenced s1 s2 s3
    rw [if_neg (by simp [hfence, used, hchan, hused])]
    have hs2 : s2 = told := by
      dsimp only [s2, s1, fenced, told, logged, marked]
      rw [hchan]
    have h3 : LunActs told s3 ∧ told.log.recs <+: s3.log.recs := by
      dsimp only [s3]
      rw [hs2]
      split
      · exact ⟨LunActs.chanFence _ _ _, Keeps.log_grows (Keeps.chanFence (Keeps.rfl told))⟩
      · exact ⟨LunActs.refl _, List.prefix_rfl⟩
    have hkept : s3.damageCheck.capShow.log = s3.log := by rw [((FlashActs.damageCheck s3).trans (FlashActs.capShow _)).1]
    exact ⟨(h3.1.trans (LunActs.damageCheck _)).trans (LunActs.capShow _), by rw [hkept]; exact h3.2⟩
  obtain ⟨u, hexec, hu, hlog⟩ := hends
  refine ⟨u, hexec, ?_, hu.evts c _ (by decide) (State.flcEvt_shows _ c (by decide)), hu.run _ (htold.run _ (hlogged.run _ hnone)), fun hroom => ?_⟩
  · have hkept := (((hdrop.trans hlogged).trans htold).trans hu).luns (.FLC_LUN_FENCE c) rfl
    rw [State.fget_of_rget hkept, State.fget_fset_same _ _ _ _ (by decide)]
    have hlt : s.fget (.FLC_LUN_FENCE c) F.FLC_LUN_FENCE_FENCED < 2 ^ 32 := Fld.get_lt F.FLC_LUN_FENCE_FENCED _
    rw [Nat.mod_eq_of_lt (show _ < 2 ^ 32 from Nat.or_lt_two_pow hlt (Nat.pow_lt_pow_right (by decide) lun.isLt))]
    exact bitAt_lor _ _
  · have hroom' : (marked.lunDrop c.val lun.val).logRoom ok = true := by
      unfold State.logRoom
      rw [LunActs.lunDrop_log]
      exact hroom
    have hgrows : told.log.recs <+: u.log.recs := hlog
    rw [show told.log = logged.log from (State.flcEvt_rest _ _ _).2, State.logRec_recs _ hroom'] at hgrows
    exact ⟨_, hgrows.subset (List.mem_append_right _ (List.mem_singleton.mpr rfl)), rfl, rfl, rfl⟩

/-- Settles O25, by what upkeep keeps: zones and codewords stay, commands join their queues behind the others, and what ends at a LUN
leaves its fence and the channel's events. -/
theorem flashUpkeepComplete : Obligations.FlashUpkeepComplete := by
  unfold Obligations.FlashUpkeepComplete
  refine ⟨fun c lun s b i hnext hb hfence hraw => ⟨exec_eraseStatus_passes c lun hnext hb hfence hraw, exec_eraseStatus_fails c lun hnext hb hfence hraw⟩,
    fun sb s m hm => ⟨fun hwait => ?waits, fun f hnew hf hdone => exec_relocationSwitch_switches hm hnew hf hdone⟩,
    fun sb f s hm hrelocs hfree _ happ hst hmount => exec_relocationSwitch_begins hm hrelocs hfree happ hst hmount, fun sb s hm hrests => ?rests,
    fun c lun ok s => ⟨fun hout => ?out, fun hfence hused => exec_lunTimeout_fences hfence hused⟩, fun s => ⟨fun hj => ?early, fun hj => ?late⟩⟩
  case waits =>
    show execRelocationSwitch sb s = _
    unfold execRelocationSwitch
    rw [hm]
    dsimp only
    split
    · rfl
    · next f hnew => exact if_pos (hwait.resolve_left (by simp [hnew]))
  case rests =>
    show execRelocationSwitch sb s = _
    unfold execRelocationSwitch
    rw [hm]
    dsimp only
    rw [State.relocGo_rests hrests]
  case out =>
    show (.next (s.lunFence c.val lun.val ok) : Res State) = _
    unfold State.lunFence
    dsimp only
    rw [show chan c.val = c from Fin.ofNat_val_self c, if_pos (by simpa using hout)]
  case early => exact if_pos hj
  case late => exact if_neg (Nat.not_lt.mpr hj)

end Sys2Proof.Machine

namespace Sys2Proof.Machine

/-! PROOFS. Why the statement about appends fails: a queue table that names a channel twice (O24; R250, R254, R262). -/

/-- The job of the only page of an append to zone 1. -/
def appendJob : PgmJob := ⟨.append 1 0 0, 0, []⟩

/-- A raw program to page 1 of block 0 of the same LUN, whose status is a failure. -/
def failingRawJob : RawJob := ⟨.program false false, ⟨0, 0, 0, 1, 0⟩, 0⟩

/-- A device in use with channel 0 in Run. LUN 0 programs the page of an append to zone 1. The table of queues names channel 0 twice:
first with another program of the append, then with a raw command. -/
def twiceQueued : State :=
  let s := ((State.reset.fset (.FLC_STAT 0) F.FLC_STAT_STATE 3).fset .FLC_MOUNT F.FLC_MOUNT_STATE 6).fset (.FLC_LUN 0) F.FLC_LUN_USED 1
  { s with flash := { s.flash with
    luns := [(0, some ⟨9344, 4, 2⟩)]
    blocks := [(0, ⟨0, 0, 0, [0], false⟩)]
    sbs := [(65, ⟨[0], .used⟩)]
    zones := [(1, ⟨1, 1, 0, [65], some ⟨0, 0, 1, 1, 1, 0⟩, 0⟩)]
    run := [(0, some (.program appendJob))]
    queue := [(0, [.program appendJob]), (0, [.raw failingRawJob])] } }

/-- Only the first entry of a channel is its queue, so that no raw command waits at channel 0. -/
theorem twiceQueued_noRawWaits : NoRawWaits 0 twiceQueued := by
  intro x hx j
  obtain rfl : x = .program appendJob := List.mem_singleton.mp hx
  simp

/-- The state that the failed program of the page leads to. -/
def twiceFailed : State := (twiceQueued.programStatus 0 0 false).rawNext 0

/-- The failed program fails the append, whose other program leaves its queue: the second entry of channel 0 is now its queue, and its raw
command, which fails too, is performed and counted in the same step. -/
theorem twiceFailed_counts : twiceFailed.fget (.FLC_FAIL 0) F.FLC_FAIL_PGM = 2 := by decide +kernel

theorem twiceQueued_counts : twiceQueued.fget (.FLC_FAIL 0) F.FLC_FAIL_PGM = 0 := by decide +kernel

/-- Refutes O24: where the table of queues names a channel twice, a failed program of an append drops the channel's first entry, and the raw
command of the second one is performed in the same step, so that FLC_FAIL counts two failures. -/
theorem not_appendsComplete : ¬ Obligations.AppendsComplete := by
  unfold Obligations.AppendsComplete
  intro h
  obtain ⟨-, -, -, hstatus, -⟩ := h
  obtain ⟨-, u, hexec, -, -, -, hcount⟩ := hstatus 0 0 twiceQueued appendJob ⟨0, 0, 1, 1, 1, 0⟩ 1 0 0 rfl rfl rfl twiceQueued_noRawWaits
  have hu : twiceFailed = u := Host.Outcome.next.inj hexec
  rw [← hu, twiceFailed_counts, twiceQueued_counts] at hcount
  exact absurd hcount (by decide)

end Sys2Proof.Machine

namespace Sys2Proof.Machine

/-! PROOFS. Formatting and mounting the flash (O26; R235 to R237, R250, R253, R259 to R261). -/

/-! ### FORMAT (R259, R261) -/

/-- How a format is refused. -/
def State.fmtRefuse (s : State) (n : Nat) : State :=
  ((s.fset .FLC_FMT_STAT F.FLC_FMT_STAT_STATE 3).fset .FLC_FMT_STAT F.FLC_FMT_STAT_REASON n).raise 290

theorem State.fmtRefuse_answers (s : State) {n : Nat} (hn : n < 16) :
    (s.fmtRefuse n).fget .FLC_FMT_STAT F.FLC_FMT_STAT_STATE = 3 ∧ (s.fmtRefuse n).fget .FLC_FMT_STAT F.FLC_FMT_STAT_REASON = n ∧
      Raised 290 s (s.fmtRefuse n) ∧ (s.fmtRefuse n).flash = s.flash := by
  unfold State.fmtRefuse
  refine ⟨?_, ?_, (State.raise_raised _ 290).of_counts_eq rfl rfl, by rw [State.raise_flash]; rfl⟩
  · rw [State.raise_fget _ _ (by simp [signalRegs]), State.fget_fset_field _ _ _ _ _ (by decide) (by decide), State.fget_fset_same _ _ _ _ (by decide)]
    rfl
  · rw [State.raise_fget _ _ (by simp [signalRegs]), State.fget_fset_same _ _ _ _ (by decide)]
    exact Nat.mod_eq_of_lt hn

/-- The profile that a format reads from the shared buffer. -/
def State.fmtProfile (s : State) : Read := s.hubRead (sbfAddr (s.fget .FLC_FMT_PROF F.FLC_FMT_PROF_OFFSET)) 512

theorem State.fmtProfile_flash (s : State) : s.fmtProfile.st.flash = s.flash := by
  unfold State.fmtProfile
  rw [(MemoryActs.hubRead _ _ _).rest]

section Format
variable {pct : Fin 32} {s : State} (hfence : s.dieFenced 9 = false)
include hfence

theorem exec_format_busy (hbusy : s.flash.fmt.isSome = true ∨ s.flashBusy = true ∨
    (1 ≤ s.fget .FLC_MOUNT F.FLC_MOUNT_STATE ∧ s.fget .FLC_MOUNT F.FLC_MOUNT_STATE ≤ 5)) : exec (.format pct) s = .next (s.fmtRefuse 1) := by
  show execFormat pct s = _
  unfold execFormat
  dsimp only
  rw [if_neg (by simp [hfence]), if_pos (by tauto)]
  rfl

variable (hnone : s.flash.fmt = none) (hidle : s.flashBusy = false)
  (hmount : ¬(1 ≤ s.fget .FLC_MOUNT F.FLC_MOUNT_STATE ∧ s.fget .FLC_MOUNT F.FLC_MOUNT_STATE ≤ 5))
include hnone hidle hmount

/-- A format that may start goes by the profile and by what is asked. -/
theorem exec_format_reads : exec (.format pct) s =
    (if s.fmtProfile.err.isSome ∨ s.fmtProfile.pois.any id ∨ ¬Profile.ok s.fmtProfile.bytes then .next (s.fmtProfile.st.fmtRefuse 2)
    else if pct.val = 0 then .next (s.fmtProfile.st.fmtRefuse 3)
    else if !(s.flash.luns.any (fun e => s.lunUsable e.1)) then .next (s.fmtProfile.st.fmtRefuse 4)
    else .next ((s.fmtProfile.st.flashUpd (fun f => { f with fmt := some (pct.val, s.fmtProfile.bytes) })).fset .FLC_FMT_STAT F.FLC_FMT_STAT_STATE 1)) := by
  show execFormat pct s = _
  unfold execFormat
  dsimp only
  rw [if_neg (by simp [hfence]), if_neg (by simp [hnone, hidle, hmount])]
  rfl

end Format

/-- A profile that was read whole and is well formed is not refused. -/
theorem readsWell {r : Read} (herr : r.err = none) (hpois : ∀ p ∈ r.pois, p = false) (hok : Profile.ok r.bytes = true) :
    ¬(r.err.isSome = true ∨ r.pois.any id = true ∨ ¬Profile.ok r.bytes = true) := by
  have hclean : r.pois.any id = false := by
    rw [List.any_eq_false]
    exact fun p hp => by simp [hpois p hp]
  simp [herr, hclean, hok]

/-! ### FORMAT_DONE: labels (R259) -/

theorem Tab.mem_put {α : Type} [Inhabited α] [DecidableEq α] {t : Tab α} {k : Nat} {v : α} {e : Nat × α} (h : e ∈ t.put k v) : e ∈ t ∨ e = (k, v) := by
  unfold Tab.put at h
  split at h
  · exact .inl (List.mem_of_mem_filter h)
  · exact (Tab.mem_insert h).symm

theorem Tab.at_mem_or {α : Type} [Inhabited α] (t : Tab α) (k : Nat) : t.at k = default ∨ (k, t.at k) ∈ t := by
  induction t with
  | nil => exact .inl rfl
  | cons e t ih =>
    obtain ⟨j, v⟩ := e
    by_cases hk : k = j
    · subst hk
      exact .inr (by rw [Tab.at, if_pos rfl]; exact List.mem_cons_self)
    · rw [Tab.at, if_neg hk]
      exact ih.imp_right (List.mem_cons_of_mem _)

theorem Tab.at_filter_ne_default {α : Type} [Inhabited α] [DecidableEq α] {t : Tab α} {k : Nat} (h : t.at k ≠ default) :
    Tab.at (t.filter (fun e => e.2 ≠ default)) k = t.at k := by
  induction t with
  | nil => exact absurd rfl h
  | cons e t ih =>
    obtain ⟨j, v⟩ := e
    by_cases hk : k = j
    · rw [Tab.at, if_pos hk] at h
      rw [List.filter_cons_of_pos (by simpa using h), Tab.at, Tab.at, if_pos hk, if_pos hk]
    · rw [Tab.at, if_neg hk] at h ⊢
      by_cases hv : v = default
      · rw [List.filter_cons_of_neg (by simp [hv])]
        exact ih h
      · rw [List.filter_cons_of_pos (by simpa using hv), Tab.at, if_neg hk]
        exact ih h

theorem LunGeo.k_le (g : LunGeo) : g.k ≤ 8 := by
  unfold LunGeo.k
  dsimp only
  split_ifs <;> omega

theorem State.lunK_le (s : State) (k : Nat) : s.lunK k ≤ 8 := by
  unfold State.lunK
  cases s.flash.luns.at k with
  | none => exact Nat.zero_le 8
  | some g => exact g.k_le

theorem State.eraseBlock_blocks (s : State) (b : Nat) : (s.eraseBlock b).flash.blocks =
    s.flash.blocks.upd b (fun x => { x with pe := min (x.pe + 1) (2 ^ 24 - 1), reads := 0, prog := [], refresh := false }) := rfl

theorem State.storePage_blocks (s : State) (b p : Nat) (us : List Code) : (s.storePage b p us).flash.blocks =
    s.flash.blocks.upd b (fun x => { x with prog := x.prog ++ [p] }) := rfl

/-- `t` is `s` but for labels in the first pages of first blocks of LUNs. -/
structure LabelActs (s t : State) : Prop where
  rest : t = { s with flash := { s.flash with codes := t.flash.codes, raws := t.flash.raws, blocks := t.flash.blocks } }
  codes : ∀ x ∈ t.flash.codes, x ∈ s.flash.codes ∨ ∃ k i, i < 8 ∧ x.1 = k * 2 ^ 30 + i
  raws : ∀ x ∈ t.flash.raws, x ∈ s.flash.raws
  bad : ∀ b, (t.flash.blocks.at b).bad = (s.flash.blocks.at b).bad
  blocks : ∀ b, b % 8192 ≠ 0 → t.flash.blocks.at b = s.flash.blocks.at b

namespace LabelActs
variable {s t u : State}

theorem refl (s : State) : LabelActs s s := ⟨rfl, fun _ => .inl, fun _ h => h, fun _ => rfl, fun _ _ => rfl⟩

theorem trans (h : LabelActs s t) (g : LabelActs t u) : LabelActs s u where
  rest := by rw [g.rest, h.rest]
  codes x hx := (g.codes x hx).elim (h.codes x) .inr
  raws x hx := h.raws x (g.raws x hx)
  bad b := (g.bad b).trans (h.bad b)
  blocks b hb := (g.blocks b hb).trans (h.blocks b hb)

theorem foldl {α : Type} {f : State → α → State} (l : List α) (s : State) (hf : ∀ t a, LabelActs t (f t a)) : LabelActs s (l.foldl f s) :=
  List.foldlRecOn (motive := fun t => LabelActs s t) l f (refl s) fun t ht a _ => ht.trans (hf t a)

theorem eraseBlock (s : State) (k : Nat) : LabelActs s (s.eraseBlock (k * 8192)) where
  rest := rfl
  codes x hx := .inl (List.mem_of_mem_filter hx)
  raws x hx := List.mem_of_mem_filter hx
  bad b := by
    rw [State.eraseBlock_blocks, Tab.at_upd]
    split
    · next h => rw [h]
    · rfl
  blocks b hb := by rw [State.eraseBlock_blocks, Tab.at_upd, if_neg (by rintro rfl; exact hb (Nat.mul_mod_left _ _))]

theorem storePage (s : State) (k : Nat) (us : List Code) (hus : us.length ≤ 8) : LabelActs s (s.storePage (k * 8192) 0 us) where
  rest := rfl
  codes := by
    have hput (l : List (Code × Nat)) (hl : ∀ y ∈ l, y.2 < 8) (t : Tab (Option Code)) :
        ∀ x ∈ l.foldl (fun t x => t.put ((k * 8192 * 16384 + 0) * 8 + x.2) (some x.1)) t, x ∈ t ∨ ∃ k i, i < 8 ∧ x.1 = k * 2 ^ 30 + i := by
      refine List.foldlRecOn (motive := fun v : Tab (Option Code) => ∀ x ∈ v, x ∈ t ∨ ∃ k i, i < 8 ∧ x.1 = k * 2 ^ 30 + i) l _ (fun _ => .inl)
        fun v hv y hy x hx => ?_
      rcases Tab.mem_put hx with h | rfl
      · exact hv x h
      · exact .inr ⟨k, y.2, hl y hy, by dsimp only; omega⟩
    exact hput _ (fun y hy => by have := (List.mem_zipIdx hy).2.1; omega) _
  raws x hx := hx
  bad b := by
    rw [State.storePage_blocks, Tab.at_upd]
    split
    · next h => rw [h]
    · rfl
  blocks b hb := by rw [State.storePage_blocks, Tab.at_upd, if_neg (by rintro rfl; exact hb (Nat.mul_mod_left _ _))]

theorem writeLabel (s : State) (k : Nat) : LabelActs s (s.writeLabel k) := by
  unfold State.writeLabel
  extract_lets b s1
  have h1 : LabelActs s s1 := by
    dsimp only [s1]
    split
    · exact refl s
    · exact eraseBlock s k
  exact h1.trans (storePage s1 k _ (by simpa using s.lunK_le k))

end LabelActs

/-! ### FORMAT_DONE: blocks (R250, R259) -/

/-- Records the blocks that the factory marked bad. -/
def markBad (t : Tab FlBlock) (marks : List Nat) : Tab FlBlock :=
  marks.foldl (fun (t : Tab FlBlock) b => t.upd b (fun x => { x with bad := if x.bad = 2 then 2 else 1 })) t

theorem markBad_marked (marks : List Nat) : ∀ (t : Tab FlBlock) (b : Nat), b ∈ marks ∨ (t.at b).bad ≠ 0 → ((markBad t marks).at b).bad ≠ 0 := by
  induction marks with
  | nil => exact fun t b h => h.resolve_left List.not_mem_nil
  | cons m marks ih =>
    intro t b h
    refine ih _ b ?_
    rw [Tab.at_upd]
    split
    · refine .inr ?_
      dsimp only
      split <;> decide
    · next hne => exact h.imp_left fun hmem => (List.mem_cons.mp hmem).resolve_left hne

/-- What holds of the programmed pages of every entry holds after bad blocks are recorded. -/
theorem markBad_prog {p : Nat → Prop} {t : Tab FlBlock} (h : ∀ e ∈ t, p e.1 → e.2.prog = []) (marks : List Nat) :
    ∀ e ∈ markBad t marks, p e.1 → e.2.prog = [] := by
  refine List.foldlRecOn (motive := fun t : Tab FlBlock => ∀ e ∈ t, p e.1 → e.2.prog = []) marks _ h fun v hv m _ e he hp => ?_
  rcases Tab.mem_put he with hold | rfl
  · exact hv e hold hp
  · rcases Tab.at_mem_or v m with hdef | hmem
    · rw [hdef]
      rfl
    · exact hv (m, v.at m) hmem hp

theorem prog_eq_nil_of_entries {t : Tab FlBlock} {b : Nat} (h : ∀ e ∈ t, e.1 = b → e.2.prog = []) : (t.at b).prog = [] := by
  rcases Tab.at_mem_or t b with hdef | hmem
  · rw [hdef]
    rfl
  · exact h _ hmem rfl

/-! ### FORMAT_DONE: what it leaves -/

/-- The block table of a format: the blocks of managed LUNs are erased, and the bad ones recorded. -/
def State.formatBlocks (s : State) (managed marks : List Nat) : Tab FlBlock :=
  (markBad (s.flash.blocks.map (fun e => (e.1, if managed.contains (e.1 / 8192) then
    { e.2 with pe := if e.2.prog = [] then e.2.pe else min (e.2.pe + 1) (2 ^ 24 - 1), reads := 0, prog := [], refresh := false }
    else e.2))) marks).filter (fun e => e.2 ≠ default)

theorem State.formatBlocks_marked (s : State) (managed : List Nat) {marks : List Nat} {b : Nat} (hb : b ∈ marks) :
    (Tab.at (s.formatBlocks managed marks) b).bad ≠ 0 := by
  unfold State.formatBlocks
  have hbad := markBad_marked marks (s.flash.blocks.map (fun e => (e.1, if managed.contains (e.1 / 8192) then
    { e.2 with pe := if e.2.prog = [] then e.2.pe else min (e.2.pe + 1) (2 ^ 24 - 1), reads := 0, prog := [], refresh := false }
    else e.2))) b (.inl hb)
  rw [Tab.at_filter_ne_default fun hdef => hbad (by rw [hdef]; rfl)]
  exact hbad

theorem State.formatBlocks_empty (s : State) {managed : List Nat} (marks : List Nat) {b : Nat} (hb : managed.contains (b / 8192) = true) :
    (Tab.at (s.formatBlocks managed marks) b).prog = [] := by
  refine prog_eq_nil_of_entries fun e he hkey => ?_
  refine markBad_prog (p := fun n => managed.contains (n / 8192) = true) ?_ marks e (List.mem_of_mem_filter he) (by rw [hkey]; exact hb)
  intro e he hman
  obtain ⟨x, -, rfl⟩ := List.mem_map.mp he
  dsimp only at hman ⊢
  rw [if_pos hman]

/-- The state of a format before its labels are written and it is answered: `managed` are the LUNs that it manages. -/
structure Formatted (s t : State) (prof : Profile) (managed marks : List Nat) : Prop where
  rest : t = { s with flash := t.flash }
  zones : t.flash.zones = []
  fmt : t.flash.fmt = none
  journal : t.flash.journal = 0
  label : t.flash.label.map (·.1) = some prof
  sbs : ∀ e ∈ t.flash.sbs, e.2.st = if e.1 < 64 then .ledger else .free
  blocks : t.flash.blocks = s.formatBlocks managed marks
  codes : ∀ x ∈ t.flash.codes, managed.contains (x.1 / 2 ^ 30) = false
  raws : ∀ x ∈ t.flash.raws, managed.contains (x.1 / 2 ^ 27) = false

/-- The LUNs that a format manages: those in use, not open, of a geometry that fits, and all of the first one's geometry (R253). -/
def State.formatManaged (s : State) : List Nat :=
  let masks := (List.range 32).map (fun c => s.fget (.FLC_OPEN (chan c)) F.FLC_OPEN_MASK)
  let openLun (k : Nat) : Bool := bitAt (nth masks (k / 32)) (k % 32)
  let usable := (s.flash.luns.map (·.1)).filter s.lunUsable
  let managed0 := usable.filter (fun k => !openLun k && ((s.flash.luns.at k).map LunGeo.fits).getD false)
  let geo := (managed0.head?.bind (fun k => s.flash.luns.at k)).getD default
  managed0.filter (fun k => s.flash.luns.at k = some geo)

/-- The number of a block in the table of blocks. -/
def markedBlock (x : Chan × Fin 32 × Fin 8192) : Nat := (x.1.val * 32 + x.2.1.val) * 8192 + x.2.2.val

/-- How a format that is done is answered. -/
def State.fmtDone (s : State) : State := ((s.capShow.fset .FLC_FMT_STAT F.FLC_FMT_STAT_STATE 2).fset .FLC_FMT_STAT F.FLC_FMT_STAT_REASON 0).raise 290

theorem exec_formatDone_formats {marked : List (Chan × Fin 32 × Fin 8192)} {s : State} {pct : Nat} {prof : Profile} (hfmt : s.flash.fmt = some (pct, prof)) :
    ∃ (t : State) (l : List Nat) (n : Nat), exec (.formatDone marked) s = .next { l.foldl State.writeLabel t with free := n }.fmtDone ∧
      Formatted s t prof s.formatManaged (marked.map markedBlock) := by
  show ∃ t l n, execFormatDone marked s = _ ∧ _
  unfold execFormatDone
  rw [hfmt]
  dsimp -zeta only
  extract_lets masks openLun usable managed0 geo managed order marks blocks0 blocks goodOf keep spare byChan groups sbs s1 s2
  refine ⟨s1, usable.filter (fun k => k % 32 < 4), s1.free + 8, rfl, rfl, rfl, rfl, rfl, rfl, fun e he => ?_, rfl, fun x hx => ?_, fun x hx => ?_⟩
  · obtain ⟨x, -, rfl⟩ := List.mem_map.mp he
    rfl
  · have hx' : (!managed.contains (x.1 / 2 ^ 30)) = true := (List.mem_filter.mp hx).2
    exact (Bool.not_eq_true' _).mp hx'
  · have hx' : (!managed.contains (x.1 / 2 ^ 27)) = true := (List.mem_filter.mp hx).2
    exact (Bool.not_eq_true' _).mp hx'

theorem State.formatManaged_single {s : State} {k : Nat} {g : LunGeo} (hluns : s.flash.luns = [(k, some g)]) (huse : s.lunUsable k = true) (hfits : g.fits = true)
    (hopen : bitAt (s.fget (.FLC_OPEN (Fin.ofNat 32 (k / 32))) F.FLC_OPEN_MASK) (k % 32) = false) : s.formatManaged = [k] := by
  have hmask : bitAt (nth ((List.range 32).map (fun c => s.fget (.FLC_OPEN (chan c)) F.FLC_OPEN_MASK)) (k / 32)) (k % 32) = false := by
    by_cases h : k / 32 < 32
    · rw [nth_map_range _ _ h]
      exact hopen
    · rw [nth_of_length_le (by simpa using h)]
      simp [bitAt, default]
  unfold State.formatManaged
  extract_lets masks openLun usable managed0 geo
  have hat : s.flash.luns.at k = some g := by rw [hluns, Tab.at, if_pos rfl]
  have husable : usable = [k] := by
    dsimp only [usable]
    rw [hluns]
    simp [huse]
  have hmanaged0 : managed0 = [k] := by
    dsimp only [managed0]
    rw [husable]
    simp [openLun, masks, hmask, hat, hfits]
  have hgeo : geo = g := by
    dsimp only [geo]
    rw [hmanaged0]
    simp [hat]
  rw [hmanaged0, hgeo]
  simp [hat]

theorem State.fmtDone_flash (s : State) : s.fmtDone.flash = s.flash := by
  unfold State.fmtDone
  rw [State.raise_flash]
  exact s.capShow_flash

theorem State.fmtDone_answers (s : State) :
    s.fmtDone.fget .FLC_FMT_STAT F.FLC_FMT_STAT_STATE = 2 ∧ s.fmtDone.fget .FLC_FMT_STAT F.FLC_FMT_STAT_REASON = 0 ∧
      RegsKept ([.FLC_FMT_STAT, .FLC_CAP, .FLC_CAP_TOTAL] ++ signalRegs) s s.fmtDone := by
  unfold State.fmtDone
  refine ⟨?_, ?_, ?_⟩
  · rw [State.raise_fget _ _ (by simp [signalRegs]), State.fget_fset_field _ _ _ _ _ (by decide) (by decide), State.fget_fset_same _ _ _ _ (by decide)]
    rfl
  · rw [State.raise_fget _ _ (by simp [signalRegs]), State.fget_fset_same _ _ _ _ (by decide)]
    rfl
  · exact ((s.capShow_regs.mono (by simp +contextual)).trans ((RegsKept.fset _ _ (by simp)).trans (RegsKept.fset _ _ (by simp)))).trans
      fun _ hr => State.raise_rget _ _ fun h => hr (List.mem_append_right _ h)

/-- When a format is done, the flash is empty but for labels, and the first superblocks hold the ledger (R259). -/
theorem exec_formatDone_done {marked : List (Chan × Fin 32 × Fin 8192)} {s : State} {pct : Nat} {prof : Profile} (hfmt : s.flash.fmt = some (pct, prof)) :
    ∃ u, exec (.formatDone marked) s = .next u ∧ u.flash.zones = [] ∧
      (∀ k g, s.flash.luns = [(k, some g)] → s.lunUsable k = true → g.fits = true →
        bitAt (s.fget (.FLC_OPEN (Fin.ofNat 32 (k / 32))) F.FLC_OPEN_MASK) (k % 32) = false →
        (∀ x ∈ u.flash.codes, x.1 / 2 ^ 30 = k → x.1 / 8 = k * 2 ^ 27) ∧ (∀ x ∈ u.flash.raws, x.1 / 2 ^ 27 ≠ k) ∧
        ∀ b, k * 8192 < b → b < (k + 1) * 8192 → (u.flash.blocks.at b).prog = []) ∧ u.flash.fmt = none ∧ u.flash.journal = 0 ∧
      u.flash.label.map (·.1) = some prof ∧ (∀ e ∈ u.flash.sbs, e.2.st = if e.1 < 64 then .ledger else .free) ∧
      (∀ x ∈ marked, (u.flash.blocks.at ((x.1.val * 32 + x.2.1.val) * 8192 + x.2.2.val)).bad ≠ 0) ∧
      u.fget .FLC_FMT_STAT F.FLC_FMT_STAT_STATE = 2 ∧ u.fget .FLC_FMT_STAT F.FLC_FMT_STAT_REASON = 0 ∧
      RegsKept ([.FLC_FMT_STAT, .FLC_CAP, .FLC_CAP_TOTAL] ++ signalRegs) s u := by
  obtain ⟨t, l, n, hexec, hformed⟩ := exec_formatDone_formats (marked := marked) hfmt
  have hlabels : LabelActs t (l.foldl State.writeLabel t) := LabelActs.foldl l t LabelActs.writeLabel
  have hflash : { l.foldl State.writeLabel t with free := n }.fmtDone.flash = (l.foldl State.writeLabel t).flash := State.fmtDone_flash _
  obtain ⟨hstate, hreason, hregs⟩ := { l.foldl State.writeLabel t with free := n }.fmtDone_answers
  generalize { l.foldl State.writeLabel t with free := n }.fmtDone = u at *
  generalize l.foldl State.writeLabel t = v at *
  have hrest : v.flash = { t.flash with codes := v.flash.codes, raws := v.flash.raws, blocks := v.flash.blocks } := by rw [hlabels.rest]
  have hzones : v.flash.zones = [] := by rw [hrest]; exact hformed.zones
  have hnone : v.flash.fmt = none := by rw [hrest]; exact hformed.fmt
  have hjournal : v.flash.journal = 0 := by rw [hrest]; exact hformed.journal
  have hlabel : v.flash.label.map (·.1) = some prof := by rw [hrest]; exact hformed.label
  have hsbs : v.flash.sbs = t.flash.sbs := by rw [hrest]
  have hvregs : v.regs = s.regs := by rw [hlabels.rest, hformed.rest]
  refine ⟨u, hexec, hflash ▸ hzones, fun k g hluns huse hfits hopen => ?managed, hflash ▸ hnone, hflash ▸ hjournal, hflash ▸ hlabel, ?sbs, ?marked,
    hstate, hreason, fun r hr => ?regs⟩
  case sbs =>
    rw [hflash, hsbs]
    exact hformed.sbs
  case marked =>
    intro x hx
    rw [hflash, hlabels.bad, hformed.blocks]
    exact s.formatBlocks_marked _ (List.mem_map_of_mem (f := markedBlock) hx)
  case regs =>
    refine (hregs r hr).trans ?_
    show v.rget r = s.rget r
    rw [State.rget, hvregs]
    rfl
  case managed =>
    have hman := State.formatManaged_single hluns huse hfits hopen
    rw [hflash]
    refine ⟨fun x hx hk => ?_, fun x hx hk => ?_, fun b hlo hhi => ?_⟩
    · rcases hlabels.codes x hx with hold | ⟨k', i, hi, hkey⟩
      · exact absurd (hformed.codes x hold) (by rw [hman, hk]; simp)
      · omega
    · exact absurd (hformed.raws x (hlabels.raws x hx)) (by rw [hman, hk]; simp)
    · rw [hlabels.blocks b (by omega), hformed.blocks]
      exact s.formatBlocks_empty _ (by simp [hman]; omega)

/-! ### MOUNT (R235 to R237, R260) -/

/-- When each act of a fold but the one for `c` keeps what that one asks for and what it brings, the fold brings it. -/
theorem foldl_visits {ι : Type} {l : List ι} {f : State → ι → State} {c : ι} (hc : c ∈ l) (hnodup : l.Nodup) (I P : State → Prop) {s : State} (h0 : I s)
    (hI : ∀ t, ∀ i ∈ l, i ≠ c → I t → I (f t i)) (hset : ∀ t, I t → P (f t c)) (hkeep : ∀ t, ∀ i ∈ l, i ≠ c → P t → P (f t i)) : P (l.foldl f s) := by
  obtain ⟨before, after, rfl⟩ := List.append_of_mem hc
  have hne : (∀ i ∈ before, i ≠ c) ∧ ∀ i ∈ after, i ≠ c := by
    rw [List.nodup_append, List.nodup_cons] at hnodup
    obtain ⟨-, ⟨hafter, -⟩, hbefore⟩ := hnodup
    exact ⟨fun i hi he => hbefore i hi c List.mem_cons_self he, fun i hi he => hafter (he ▸ hi)⟩
  rw [List.foldl_append, List.foldl_cons]
  refine List.foldlRecOn (motive := P) after f (hset _ ?_) fun t ht i hi => hkeep t i (by simp [hi]) (hne.2 i hi) ht
  exact List.foldlRecOn (motive := I) before f h0 fun t ht i hi => hI t i (by simp [hi]) (hne.1 i hi) ht

/-- What the mount does to the channel `c` (R235, R237). -/
def State.mountChan (found : List FoundLun) (trained : List (Fin 8)) (ok : Bool) (s : State) (c : Nat) : State :=
  let r : Reg := .FLC_STAT (chan c)
  let mine := (usedLuns found).filter (fun x => x.chan.val = c)
  let targets := (found.filter (fun x => x.chan.val = c)).foldl (fun m x => m ||| 2 ^ (x.lun.val / 4)) 0
  let mask := mine.foldl (fun m x => m ||| 2 ^ x.lun.val) 0
  let fences := s.loggedFences c
  let rate := channelRate mine (s.fget (.FLC_CTL (chan c)) F.FLC_CTL_RATE_MAX) ((trained[c]?).map (·.val) |>.getD 0)
  let openMask := match s.flash.label with
    | some (_, l, _, _) => nth l c
    | none => s.fget (.FLC_OPEN (chan c)) F.FLC_OPEN_MASK
  let s1 := ((((s.discover c found).fset r F.FLC_STAT_TARGETS targets).fset (.FLC_LUN (chan c)) F.FLC_LUN_USED mask).fset
    (.FLC_LUN_FENCE (chan c)) F.FLC_LUN_FENCE_FENCED (fences.1 &&& mask)).fset (.FLC_OPEN (chan c)) F.FLC_OPEN_MASK openMask
  if mine.isEmpty then s1.fset r F.FLC_STAT_STATE 5
  else if fences.2 || decide (fences.1 &&& mask = mask) then s1.fset r F.FLC_STAT_STATE 4
  else if rate = 0 then s1.chanFence c ok
  else (s1.setRate c mine rate).fset r F.FLC_STAT_STATE 3

/-- The mount finds the LUNs that it uses, and goes over the channels. -/
def State.mounting (s : State) (found : List FoundLun) (trained : List (Fin 8)) (ok : Bool) : State :=
  let s0 := s.flashUpd (fun f => { f with luns := (usedLuns found).foldl (fun t x =>
      t.put (x.chan.val * 32 + x.lun.val) (some ⟨x.pageBytes, x.pages, x.blocks⟩)) [] })
  (List.range 32).foldl (State.mountChan found trained ok) s0

/-- What mounting one channel leaves of the others: their registers, and the defect log but for records of the channel itself. -/
structure ChanMounts (c : Nat) (s t : State) : Prop where
  stat : ∀ d, chan d ≠ chan c → t.rget (.FLC_STAT (chan d)) = s.rget (.FLC_STAT (chan d))
  luns : ∀ d, chan d ≠ chan c → t.rget (.FLC_LUN (chan d)) = s.rget (.FLC_LUN (chan d))
  ctl : ∀ d, t.rget (.FLC_CTL (chan d)) = s.rget (.FLC_CTL (chan d))
  log : ∀ x ∈ t.log.recs, x ∈ s.log.recs ∨ x.a % 32 = c


namespace ChanMounts
variable {c : Nat} {s t u : State}

theorem trans (h : ChanMounts c s t) (g : ChanMounts c t u) : ChanMounts c s u where
  stat d hd := (g.stat d hd).trans (h.stat d hd)
  luns d hd := (g.luns d hd).trans (h.luns d hd)
  ctl d := (g.ctl d).trans (h.ctl d)
  log x hx := (g.log x hx).elim (h.log x) .inr

theorem of_regs {p : List Reg} (h : RegsKept p s t) (hp : ∀ r ∈ p, r = .FLC_STAT (chan c) ∨ r = .FLC_LUN (chan c) ∨ lunReg r = false ∧ statReg r = false ∨
    (∃ d, r = .FLC_LUN_FENCE d ∨ r = .FLC_OPEN d)) (hlog : t.log = s.log) : ChanMounts c s t where
  stat d hd := h _ fun hmem => by
    rcases hp _ hmem with hr | hr | ⟨-, hr⟩ | ⟨e, hr | hr⟩ <;> simp [statReg, hd] at hr
  luns d hd := h _ fun hmem => by
    rcases hp _ hmem with hr | hr | ⟨hr, -⟩ | ⟨e, hr | hr⟩ <;> simp [lunReg, hd] at hr
  ctl d := h _ fun hmem => by
    rcases hp _ hmem with hr | hr | ⟨hr, -⟩ | ⟨e, hr | hr⟩ <;> simp [lunReg] at hr
  log x hx := .inl (by rw [← hlog]; exact hx)

theorem onfi (s : State) (k l : Nat) (ops : List (List Nat)) : ChanMounts c s (s.onfi k l ops) :=
  of_regs (p := []) (fun r _ => by rw [State.rget, State.onfi_regs]; rfl) (by simp) (by rw [State.onfi_eq])

theorem foldl {α : Type} {f : State → α → State} (l : List α) (s : State) (hf : ∀ t a, ChanMounts c t (f t a)) : ChanMounts c s (l.foldl f s) :=
  List.foldlRecOn (motive := fun t => ChanMounts c s t) l f (of_regs (p := []) (fun _ _ => rfl) (by simp) rfl) fun t ht a _ => ht.trans (hf t a)

theorem fset (s : State) {r : Reg} (f : Fld) (v : Nat) (hr : r = .FLC_STAT (chan c) ∨ r = .FLC_LUN (chan c) ∨ ∃ d, r = .FLC_LUN_FENCE d ∨ r = .FLC_OPEN d) :
    ChanMounts c s (s.fset r f v) :=
  of_regs (p := [r]) (RegsKept.fset _ _ (by simp)) (fun q hq => by
    obtain rfl := List.mem_singleton.mp hq
    exact hr.imp_right fun h => h.imp_right .inr) rfl

/-- Fencing a channel leaves the others, and logs a record of the channel itself. -/
theorem chanFence (s : State) {c : Nat} (hc : c < 32) (ok : Bool) : ChanMounts c s (s.chanFence c ok) := by
  have hdrop (t : State) (l : Nat) : ChanMounts c t (t.lunDrop c l) :=
    ⟨fun d _ => StatsKept.lunDrop t c l _ rfl, fun d _ => (LunActs.lunDrop t c l).1.luns _ rfl, fun d => (LunActs.lunDrop t c l).1.luns _ rfl,
      fun x hx => .inl (by rw [← LunActs.lunDrop_log t c l]; exact hx)⟩
  have hlogged (t : State) : ChanMounts c t (t.logRec ⟨0x08, 5, c + 2 ^ 10, 0, 0, false⟩ ok) := by
    refine ⟨fun d _ => t.logRec_regs _ ok _ (by simp [signalRegs]), fun d _ => t.logRec_regs _ ok _ (by simp [signalRegs]),
      fun d => t.logRec_regs _ ok _ (by simp [signalRegs]), fun x hx => ?_⟩
    cases hroom : t.logRoom ok with
    | true =>
      rw [State.logRec_recs _ hroom, List.mem_append, List.mem_singleton] at hx
      refine hx.imp_right fun h => ?_
      rw [h]
      dsimp only
      omega
    | false =>
      rw [(State.logRec_lost _ hroom).1] at hx
      exact .inl hx
  have htold (t : State) (f : Fld) : ChanMounts c t (t.flcEvt c f) :=
    of_regs (t.flcEvt_regs c f) (by simp [signalRegs, lunReg, statReg]) (t.flcEvt_rest c f).2
  unfold State.chanFence
  extract_lets s1
  have h1 : ChanMounts c s s1 := (fset s _ _ (.inl rfl)).trans (foldl _ _ hdrop)
  exact (h1.trans (hlogged s1)).trans (htold _ _)

theorem setRate (s : State) (mine : List FoundLun) (rate : Nat) : ChanMounts c s (s.setRate c mine rate) :=
  (fset s _ _ (.inl rfl)).trans (foldl _ _ fun t _ => onfi t _ _ _)

theorem mountChan (s : State) {c : Nat} (hc : c < 32) (found : List FoundLun) (trained : List (Fin 8)) (ok : Bool) :
    ChanMounts c s (State.mountChan found trained ok s c) := by
  unfold State.mountChan
  extract_lets r mine targets mask fences rate openMask s1
  have h1 : ChanMounts c s s1 :=
    ((((foldl _ s fun t _ => onfi t _ _ _).trans (fset _ _ _ (.inl rfl))).trans (fset _ _ _ (.inr (.inl rfl)))).trans
      (fset _ _ _ (.inr (.inr ⟨_, .inl rfl⟩)))).trans (fset _ _ _ (.inr (.inr ⟨_, .inr rfl⟩)))
  split
  · exact h1.trans (fset s1 _ _ (.inl rfl))
  · split
    · exact h1.trans (fset s1 _ _ (.inl rfl))
    · split
      · exact h1.trans (chanFence s1 hc ok)
      · exact (h1.trans (setRate s1 mine rate)).trans (fset _ _ _ (.inl rfl))

end ChanMounts

section MountChan
variable (s : State) (found : List FoundLun) (trained : List (Fin 8)) (ok : Bool) (c : Nat)

/-- A channel on which no LUN is used has none, and its state says so. -/
theorem State.mountChan_empty (h : (usedLuns found).filter (fun x => x.chan.val = c) = []) :
    (State.mountChan found trained ok s c).fget (.FLC_STAT (chan c)) F.FLC_STAT_STATE = 5 ∧
      (State.mountChan found trained ok s c).fget (.FLC_LUN (chan c)) F.FLC_LUN_USED = 0 := by
  unfold State.mountChan
  extract_lets r mine targets mask fences rate openMask s1
  have hmine : mine = [] := h
  have hmask : mask = 0 := by
    dsimp only [mask]
    rw [hmine]
    rfl
  rw [if_pos (by rw [hmine]; rfl)]
  refine ⟨State.fget_fset_same _ _ _ _ (by decide), ?_⟩
  rw [State.fget_fset_other _ _ _ _ (by simp [r])]
  dsimp only [s1]
  rw [State.fget_fset_other _ _ _ _ (by simp), State.fget_fset_other _ _ _ _ (by simp), State.fget_fset_same _ _ _ _ (by decide), hmask]
  rfl

theorem foldl_or_ne_zero {α : Type} (l : List α) (f : α → Nat) (hne : l ≠ []) : l.foldl (fun m x => m ||| 2 ^ f x) 0 ≠ 0 := by
  have hgrow : ∀ (l : List α) (m : Nat), m ≠ 0 → l.foldl (fun m x => m ||| 2 ^ f x) m ≠ 0 := by
    intro l
    induction l with
    | nil => exact fun m hm => hm
    | cons x l ih => exact fun m hm => ih _ (by simp [Nat.or_eq_zero_iff, hm])
  cases l with
  | nil => exact absurd rfl hne
  | cons x l => exact hgrow l _ (by simp)

/-- A channel with LUNs that no record fences runs, where its parts and its training allow a rate. -/
theorem State.mountChan_runs (h : (usedLuns found).filter (fun x => x.chan.val = c) ≠ []) (hlog : ∀ x ∈ s.log.recs, x.a % 32 ≠ c)
    (hrate : channelRate ((usedLuns found).filter (fun x => x.chan.val = c)) (s.fget (.FLC_CTL (chan c)) F.FLC_CTL_RATE_MAX)
      (((trained[c]?).map (·.val)).getD 0) ≠ 0) :
    (State.mountChan found trained ok s c).fget (.FLC_STAT (chan c)) F.FLC_STAT_STATE = 3 := by
  unfold State.mountChan
  extract_lets r mine targets mask fences rate openMask s1
  have hfences : fences = (0, false) := by
    dsimp only [fences]
    unfold State.loggedFences
    rw [List.filter_eq_nil_iff.mpr fun x hx => by simp [hlog x hx]]
    rfl
  have hmask : mask ≠ 0 := foldl_or_ne_zero _ (fun x : FoundLun => x.lun.val) h
  rw [if_neg (by rw [List.isEmpty_iff]; exact h), if_neg (by simpa [hfences] using hmask.symm), if_neg hrate]
  exact State.fget_fset_same _ _ _ _ (by decide)

end MountChan

/-- A mount that may start takes the channels as discovery found them (R235 to R237, R260). -/
theorem exec_mount_starts {found : List FoundLun} {trained : List (Fin 8)} {ok : Bool} {s : State} (hfence : s.dieFenced 9 = false)
    (hrtv : s.fget .RTV_STAT F.RTV_STAT_STATE = 1) (hmount : s.fget .FLC_MOUNT F.FLC_MOUNT_STATE = 0) :
    exec (.mount found trained ok) s = .next ((s.mounting found trained ok).fset .FLC_MOUNT F.FLC_MOUNT_STATE 3) := by
  show execMount found trained ok s = _
  unfold execMount
  rw [if_neg (by simp [hfence, hrtv, hmount])]
  rfl

section Mounting
variable (s : State) (found : List FoundLun) (trained : List (Fin 8)) (ok : Bool) (c : Chan)

theorem chan_ne_of_ne {d : Nat} (hd : d < 32) (hne : d ≠ c.val) : chan c.val ≠ chan d := by
  intro h
  exact hne (by simpa [chan, Nat.mod_eq_of_lt hd, Nat.mod_eq_of_lt c.isLt] using (congrArg Fin.val h).symm)

theorem State.mounting_empty (h : ∀ x ∈ usedLuns found, x.chan ≠ c) :
    (s.mounting found trained ok).fget (.FLC_STAT c) F.FLC_STAT_STATE = 5 ∧ (s.mounting found trained ok).fget (.FLC_LUN c) F.FLC_LUN_USED = 0 := by
  have hchan : chan c.val = c := Fin.ofNat_val_self c
  refine foldl_visits (List.mem_range.mpr c.isLt) List.nodup_range (fun _ => True)
    (fun t => t.fget (.FLC_STAT c) F.FLC_STAT_STATE = 5 ∧ t.fget (.FLC_LUN c) F.FLC_LUN_USED = 0) trivial (fun _ _ _ _ _ => trivial) (fun t _ => ?_)
    fun t d hd hne ht => ?_
  · have hset := t.mountChan_empty found trained ok c.val
      (List.filter_eq_nil_iff.mpr fun x hx => by simpa using fun hxc => h x hx (Fin.ext hxc))
    rwa [hchan] at hset
  · have hkept := ChanMounts.mountChan t (List.mem_range.mp hd) found trained ok
    have hapart := chan_ne_of_ne c (List.mem_range.mp hd) hne
    have hstat := hkept.stat c.val hapart
    have hluns := hkept.luns c.val hapart
    rw [hchan] at hstat hluns
    rw [State.fget_of_rget hstat, State.fget_of_rget hluns]
    exact ht

theorem State.mounting_runs (hlog : s.log.recs = []) (hused : ∃ x ∈ usedLuns found, x.chan = c)
    (hrate : channelRate ((usedLuns found).filter (fun x => x.chan.val = c.val)) (s.fget (.FLC_CTL c) F.FLC_CTL_RATE_MAX)
      (((trained[c.val]?).map (·.val)).getD 0) ≠ 0) : (s.mounting found trained ok).fget (.FLC_STAT c) F.FLC_STAT_STATE = 3 := by
  have hchan : chan c.val = c := Fin.ofNat_val_self c
  refine foldl_visits (List.mem_range.mpr c.isLt) List.nodup_range
    (fun t => t.rget (.FLC_CTL c) = s.rget (.FLC_CTL c) ∧ ∀ x ∈ t.log.recs, x.a % 32 ≠ c.val)
    (fun t => t.fget (.FLC_STAT c) F.FLC_STAT_STATE = 3) ⟨rfl, fun x hx => ?_⟩ (fun t d hd hne ht => ?_) (fun t ht => ?_) fun t d hd hne ht => ?_
  · have hrec : x ∈ s.log.recs := hx
    rw [hlog] at hrec
    exact absurd hrec List.not_mem_nil
  · have hkept := ChanMounts.mountChan t (List.mem_range.mp hd) found trained ok
    have hctl := hkept.ctl c.val
    rw [hchan] at hctl
    refine ⟨hctl.trans ht.1, fun x hx hxc => ?_⟩
    exact (hkept.log x hx).elim (fun h => ht.2 x h hxc) fun h => hne (h.symm.trans hxc)
  · have hruns := t.mountChan_runs found trained ok c.val ?_ ht.2 ?_
    · rwa [hchan] at hruns
    · obtain ⟨x, hx, hxc⟩ := hused
      exact List.ne_nil_of_mem (List.mem_filter.mpr ⟨hx, by simp [hxc]⟩)
    · rw [hchan, State.fget_of_rget ht.1]
      exact hrate
  · have hstat := (ChanMounts.mountChan t (List.mem_range.mp hd) found trained ok).stat c.val (chan_ne_of_ne c (List.mem_range.mp hd) hne)
    rw [hchan] at hstat
    rw [State.fget_of_rget hstat]
    exact ht

end Mounting

/-- Settles O26, by what labels, blocks and channels a format and a mount touch: every LUN that is managed is emptied but for its label, and
each channel's mount leaves the others. -/
theorem formatAndMountComplete : Obligations.FormatAndMountComplete := by
  unfold Obligations.FormatAndMountComplete
  refine ⟨?format, fun marked s => ⟨fun hnone => ?undone, fun pct prof hfmt => exec_formatDone_done hfmt⟩,
    fun found trained ok s => ⟨fun hbusy => ?running, fun hfence hrtv hmount => ?mount⟩⟩
  case format =>
    rintro pct s r hfence rfl
    refine ⟨?refused, ?starts⟩
    case refused =>
      rintro k (⟨rfl, hbusy⟩ | ⟨hnone, hidle, hmount, ⟨rfl, hbad⟩ | ⟨rfl, rfl, herr, hpois, hok⟩⟩)
      · exact ⟨_, exec_format_busy hfence hbusy, s.fmtRefuse_answers (by decide)⟩
      · have hexec := exec_format_reads (pct := pct) hfence hnone hidle hmount
        rw [if_pos (.inr (.inr (by rw [State.fmtProfile, hbad]; simp)))] at hexec
        obtain ⟨hstate, hreason, hraised, hflash⟩ := s.fmtProfile.st.fmtRefuse_answers (n := 2) (by decide)
        exact ⟨_, hexec, hstate, hreason, hraised, hflash.trans s.fmtProfile_flash⟩
      · have hexec := exec_format_reads (pct := 0) hfence hnone hidle hmount
        rw [if_neg (readsWell (r := s.fmtProfile) herr hpois hok), if_pos (show (0 : Fin 32).val = 0 from rfl)] at hexec
        obtain ⟨hstate, hreason, hraised, hflash⟩ := s.fmtProfile.st.fmtRefuse_answers (n := 3) (by decide)
        exact ⟨_, hexec, hstate, hreason, hraised, hflash.trans s.fmtProfile_flash⟩
    case starts =>
      intro hnone hidle hmount herr hpois hok hpct hluns
      have hexec := exec_format_reads (pct := pct) hfence hnone hidle hmount
      rw [if_neg (readsWell (r := s.fmtProfile) herr hpois hok), if_neg (show ¬pct.val = 0 from fun h => hpct (Fin.ext h)), if_neg (by simpa using hluns)] at hexec
      refine ⟨_, hexec, ?_, State.fget_fset_same _ _ _ _ (by decide), ?_⟩
      · show { s.fmtProfile.st.flash with fmt := some (pct.val, s.fmtProfile.bytes) } = _
        rw [s.fmtProfile_flash]
        rfl
      · have hread : RegsKept memoryRegs s s.fmtProfile.st := (MemoryActs.hubRead _ _ _).regs
        exact (hread.mono fun _ => List.mem_cons_of_mem _).trans (RegsKept.trans (t := s.fmtProfile.st.flashUpd _) (fun _ _ => rfl) (RegsKept.fset _ _ (by simp)))
  case undone =>
    show execFormatDone marked s = _
    unfold execFormatDone
    rw [hnone]
  case running =>
    show execMount found trained ok s = _
    unfold execMount
    rw [if_pos (.inr (.inr hbusy))]
  case mount =>
    refine ⟨_, exec_mount_starts hfence hrtv hmount, State.fget_fset_same _ _ _ _ (by decide), fun c hnone => ?_, fun c hlog hused hrate => ?_⟩
    · rw [State.fget_fset_other _ _ _ _ (by simp), State.fget_fset_other _ _ _ _ (by simp)]
      exact s.mounting_empty found trained ok c hnone
    · rw [State.fget_fset_other _ _ _ _ (by simp)]
      exact s.mounting_runs found trained ok c hlog hused hrate

end Sys2Proof.Machine

namespace Sys2Proof.Machine

/-! PROOFS. Flash reads: issue, decode stages, delivery (O21; R236, R238, R240 to R244, R246, R248). -/

/-! ### What a read is told to the LUN (R238, R245) -/

/-- `t` is `s` but for what telling a LUN to read changes: the count of its channel's commands, which only grows, the offsets that it
applies, its blocks' counts of reads, and the pins. -/
structure ReadTold (s t : State) : Prop where
  rest : t = { s with flash := { s.flash with cmds := t.flash.cmds, applied := t.flash.applied, blocks := t.flash.blocks }, outbox := t.outbox }
  cmds : ∀ c, s.flash.cmds.at c ≤ t.flash.cmds.at c

namespace ReadTold
variable {s t u : State}

theorem refl (s : State) : ReadTold s s := ⟨rfl, fun _ => Nat.le_refl _⟩

theorem trans (h : ReadTold s t) (g : ReadTold t u) : ReadTold s u := ⟨by rw [g.rest, h.rest], fun c => (h.cmds c).trans (g.cmds c)⟩

theorem onfi (s : State) (c l : Nat) (ops : List (List Nat)) : ReadTold s (s.onfi c l ops) := by
  refine ⟨by rw [State.onfi_eq], fun k => ?_⟩
  rw [State.onfi_flash]
  dsimp only
  rw [Tab.at_upd]
  split
  · next h => rw [h]; exact Nat.le_add_right _ _
  · exact Nat.le_refl _

theorem applyOffs (s : State) (c l : Nat) (offs : List Int) : ReadTold s (s.applyOffs c l offs) := by
  unfold State.applyOffs
  split
  · exact refl s
  · exact (onfi s c l _).trans ⟨rfl, fun _ => Nat.le_refl _⟩

theorem flash (h : ReadTold s t) : t.flash = { s.flash with cmds := t.flash.cmds, applied := t.flash.applied, blocks := t.flash.blocks } :=
  congrArg State.flash h.rest

end ReadTold

theorem State.onfi_cmds (s : State) (c l : Nat) (ops : List (List Nat)) : (s.onfi c l ops).flash.cmds.at c = s.flash.cmds.at c + ops.length := by
  rw [State.onfi_flash]
  exact Tab.at_upd_same s.flash.cmds c (· + ops.length)

theorem State.applyOffs_blocks (s : State) (c l : Nat) (offs : List Int) : (s.applyOffs c l offs).flash.blocks = s.flash.blocks := by
  unfold State.applyOffs
  split
  · rfl
  · show (s.onfi c l _).flash.blocks = _
    rw [State.onfi_flash]

/-- One read of a page with the offsets that a stage asks for. -/
def State.readOnce (s : State) (a : FAddr) (offs : List Int) (d : Nat → Int) : State :=
  (s.applyOffs a.chan a.lun (s.shifted offs d)).onfi a.chan a.lun onfiRead

theorem State.readOnce_told (s : State) (a : FAddr) (offs : List Int) (d : Nat → Int) :
    ReadTold s (s.readOnce a offs d) ∧ s.flash.cmds.at a.chan + 3 ≤ (s.readOnce a offs d).flash.cmds.at a.chan ∧
      (s.readOnce a offs d).flash.blocks = s.flash.blocks := by
  have happlied := ReadTold.applyOffs s a.chan a.lun (s.shifted offs d)
  refine ⟨happlied.trans (.onfi _ _ _ _), ?_, ?_⟩
  · rw [State.readOnce, State.onfi_cmds]
    have := happlied.cmds a.chan
    simp only [onfiRead, List.length_cons, List.length_nil]
    omega
  · rw [State.readOnce, State.onfi_flash]
    exact s.applyOffs_blocks _ _ _

/-- A stage reads its page once, and three times for the soft decode; each read is counted (R243, R248). -/
theorem State.stageReads_told (s : State) (a : FAddr) (stage : Nat) (offs : List Int) :
    ReadTold s (s.stageReads a stage offs) ∧
      s.flash.cmds.at a.chan + (if stage = 16 then 9 else 3) ≤ (s.stageReads a stage offs).flash.cmds.at a.chan ∧
      ((s.stageReads a stage offs).flash.blocks.at a.blk).reads = (s.flash.blocks.at a.blk).reads + (if stage = 16 then 3 else 1) := by
  have hone := fun (t : State) (d : Nat → Int) => t.readOnce_told a offs d
  have hread : ∃ t, s.stageReads a stage offs = t.blockUpd a.blk (fun b => { b with reads := b.reads + (if stage = 16 then 3 else 1) }) ∧ ReadTold s t ∧
      s.flash.cmds.at a.chan + (if stage = 16 then 9 else 3) ≤ t.flash.cmds.at a.chan ∧ t.flash.blocks = s.flash.blocks := by
    refine ⟨_, rfl, ?_⟩
    dsimp only
    by_cases h0 : stage = 0
    · rw [if_pos h0, if_neg (by omega)]
      exact hone s _
    · rw [if_neg h0]
      by_cases h16 : stage = 16
      · rw [if_pos h16, if_pos h16]
        obtain ⟨h1, hc1, hb1⟩ := hone s (fun _ => 0)
        obtain ⟨h2, hc2, hb2⟩ := hone (s.readOnce a offs (fun _ => 0)) (fun _ => -(s.fget (.FLC_LOOP (chan a.chan)) F.FLC_LOOP_SOFT_DELTA : Int))
        obtain ⟨h3, hc3, hb3⟩ := hone ((s.readOnce a offs (fun _ => 0)).readOnce a offs (fun _ => -(s.fget (.FLC_LOOP (chan a.chan)) F.FLC_LOOP_SOFT_DELTA : Int)))
          (fun _ => (s.fget (.FLC_LOOP (chan a.chan)) F.FLC_LOOP_SOFT_DELTA : Int))
        have h4 := ReadTold.applyOffs (((s.readOnce a offs (fun _ => 0)).readOnce a offs
          (fun _ => -(s.fget (.FLC_LOOP (chan a.chan)) F.FLC_LOOP_SOFT_DELTA : Int))).readOnce a offs
          (fun _ => (s.fget (.FLC_LOOP (chan a.chan)) F.FLC_LOOP_SOFT_DELTA : Int))) a.chan a.lun offs
        refine ⟨((h1.trans h2).trans h3).trans h4, ?_, ?_⟩
        · have := h4.cmds a.chan
          exact Nat.le_trans (by omega) this
        · exact (State.applyOffs_blocks _ _ _ _).trans (hb3.trans (hb2.trans hb1))
      · rw [if_neg h16, if_neg h16]
        obtain ⟨h1, hc1, hb1⟩ := hone s (s.profile.delta stage)
        have h2 := ReadTold.applyOffs (s.readOnce a offs (s.profile.delta stage)) a.chan a.lun offs
        exact ⟨h1.trans h2, hc1.trans (h2.cmds _), (State.applyOffs_blocks _ _ _ _).trans hb1⟩
  obtain ⟨t, heq, ht, hcmds, hblocks⟩ := hread
  rw [heq]
  refine ⟨ht.trans ⟨rfl, fun _ => Nat.le_refl _⟩, hcmds, ?_⟩
  show ((t.flash.blocks.upd a.blk (fun b => { b with reads := b.reads + (if stage = 16 then 3 else 1) })).at a.blk).reads = _
  rw [Tab.at_upd_same, hblocks]

/-! ### Delivery (R219, R227) -/

/-- The buckets of the histogram of reads. -/
def histRegs : List Reg := (List.finRange 16).map .TEL_HIST

theorem State.countRead_acts (s : State) (r t held time : Nat) : (s.countRead r t held time).flash = s.flash ∧ (s.countRead r t held time).icu = s.icu ∧
    RegsKept histRegs s (s.countRead r t held time) := by
  have hhist (u : State) (n : Nat) : (u.histCount r t n).flash = u.flash ∧ (u.histCount r t n).icu = u.icu ∧ RegsKept histRegs u (u.histCount r t n) := by
    unfold State.histCount
    split
    · exact ⟨rfl, rfl, RegsKept.cnt _ _ (List.mem_map_of_mem (List.mem_finRange _))⟩
    · exact ⟨rfl, rfl, RegsKept.refl _ u⟩
  unfold State.countRead
  dsimp only
  split
  · exact hhist (s.tktUpd r t _) _
  · exact hhist (s.tktUpd r t _) _

/-- A unit that a mover or a query waits for joins those delivered. -/
theorem State.fDeliver_reader (s : State) {q : FReq} (hq : flashReader q.who = true) (time stage : Nat) (code : Code) (pois ue : Bool) :
    (s.fDeliver q time stage code pois ue false).flash = { s.flash with done := s.flash.done ++ [⟨q.who, q.tag, q.re, stage, code, pois, ue, false⟩] } ∧
      (s.fDeliver q time stage code pois ue false).icu = s.icu ∧ RegsKept histRegs s (s.fDeliver q time stage code pois ue false) := by
  obtain ⟨hflash, hicu, hregs⟩ := s.countRead_acts (41 + q.addr.chan) q.ticket q.held time
  unfold State.fDeliver
  rw [if_neg (by simp)]
  dsimp only
  have hdone : ((s.countRead (41 + q.addr.chan) q.ticket q.held time).flashUpd
      (fun f => { f with done := f.done ++ [⟨q.who, q.tag, q.re, stage, code, pois, ue, false⟩] })).flash =
        { s.flash with done := s.flash.done ++ [⟨q.who, q.tag, q.re, stage, code, pois, ue, false⟩] } := by
    rw [← hflash]
    rfl
  cases hwho : q.who with
  | patrol => simp [flashReader, hwho] at hq
  | move k => simp [flashReader, hwho] at hq
  | ring m k =>
    rw [hwho] at hdone
    exact ⟨hdone, hicu, hregs⟩
  | hub m =>
    rw [hwho] at hdone
    exact ⟨hdone, hicu, hregs⟩
  | query k =>
    rw [hwho] at hdone
    exact ⟨hdone, hicu, hregs⟩

/-! ### FLASH_READ (R236, R243, R244) -/

section FlashRead
variable {c : Chan} {s : State} {q : FReq} {i : Nat}

/-- What leaves a channel's queue for its LUN. -/
theorem State.dequeue_level (s : State) (c : Chan) (i : Nat) : LevelActs [.FLC_QLEVEL c] (s.flashUpd (fun f => { f with queue := f.queue.upd c.val (fun l => l.eraseIdx i) })) (s.dequeue c.val i) := by
  have hchan : chan c.val = c := Fin.ofNat_val_self c
  have hacts := s.dequeue_acts c.val i
  rwa [hchan] at hacts

/-- A LUN begins a stage of a read. -/
def State.readStage (s : State) (c : Chan) (i : Nat) (q : FReq) (st : Nat) (offs : List Int) : State :=
  ((s.dequeue c.val i).setRun q.addr.lunKey (some (.read q st offs))).stageReads q.addr st offs

theorem State.readStage_told (s : State) (c : Chan) (i : Nat) (q : FReq) (st : Nat) (offs : List Int) :
    ReadTold ((s.dequeue c.val i).setRun q.addr.lunKey (some (.read q st offs))) (s.readStage c i q st offs) :=
  (State.stageReads_told _ _ _ _).1

theorem State.readStage_flash (s : State) (c : Chan) (i : Nat) (q : FReq) (st : Nat) (offs : List Int) : (s.readStage c i q st offs).flash =
    { s.flash with queue := s.flash.queue.upd c.val (fun l => l.eraseIdx i), run := s.flash.run.put q.addr.lunKey (some (.read q st offs))
                   cmds := (s.readStage c i q st offs).flash.cmds, applied := (s.readStage c i q st offs).flash.applied
                   blocks := (s.readStage c i q st offs).flash.blocks } := by
  have hset : ((s.dequeue c.val i).setRun q.addr.lunKey (some (.read q st offs))).flash =
      { s.flash with queue := s.flash.queue.upd c.val (fun l => l.eraseIdx i), run := s.flash.run.put q.addr.lunKey (some (.read q st offs)) } := by
    show { (s.dequeue c.val i).flash with run := (s.dequeue c.val i).flash.run.put q.addr.lunKey (some (.read q st offs)) } = _
    rw [State.dequeue_flash]
  refine (s.readStage_told c i q st offs).flash.trans ?_
  rw [hset]

theorem State.readStage_queue (s : State) (c : Chan) (i : Nat) (q : FReq) (st : Nat) (offs : List Int) :
    (s.readStage c i q st offs).flash.queue.at c.val = (s.flash.queue.at c.val).eraseIdx i := by
  rw [State.readStage_flash]
  exact Tab.at_upd_same s.flash.queue c.val (fun l => l.eraseIdx i)

theorem State.readStage_run (s : State) (c : Chan) (i : Nat) (q : FReq) (st : Nat) (offs : List Int) :
    (s.readStage c i q st offs).flash.run = s.flash.run.put q.addr.lunKey (some (.read q st offs)) := by
  rw [State.readStage_flash]

theorem State.readStage_counts (s : State) (c : Chan) (i : Nat) (q : FReq) (st : Nat) (offs : List Int) (hchan : q.addr.chan = c.val) :
    s.flash.cmds.at c.val + (if st = 16 then 9 else 3) ≤ (s.readStage c i q st offs).flash.cmds.at c.val ∧
      ((s.readStage c i q st offs).flash.blocks.at q.addr.blk).reads = (s.flash.blocks.at q.addr.blk).reads + (if st = 16 then 3 else 1) := by
  have htold := (State.stageReads_told ((s.dequeue c.val i).setRun q.addr.lunKey (some (.read q st offs))) q.addr st offs).2
  have hstart : ((s.dequeue c.val i).setRun q.addr.lunKey (some (.read q st offs))).flash.cmds = s.flash.cmds ∧
      ((s.dequeue c.val i).setRun q.addr.lunKey (some (.read q st offs))).flash.blocks = s.flash.blocks := by
    show (s.dequeue c.val i).flash.cmds = _ ∧ (s.dequeue c.val i).flash.blocks = _
    rw [State.dequeue_flash]
    exact ⟨rfl, rfl⟩
  rw [hstart.1, hstart.2, hchan] at htold
  exact htold

theorem State.readStage_rest (s : State) (c : Chan) (i : Nat) (q : FReq) (st : Nat) (offs : List Int) :
    RegsKept [.FLC_QLEVEL c] s (s.readStage c i q st offs) ∧ s.readStage c i q st offs =
      { s with regs := (s.readStage c i q st offs).regs, flash := (s.readStage c i q st offs).flash, tkt := (s.readStage c i q st offs).tkt
               chain := (s.readStage c i q st offs).chain, outbox := (s.readStage c i q st offs).outbox } := by
  have htold := (s.readStage_told c i q st offs).rest
  have hlevel := s.dequeue_level c i
  refine ⟨fun r hr => ?_, ?_⟩
  · have hregs : (s.readStage c i q st offs).regs = (s.dequeue c.val i).regs := by rw [htold]; rfl
    rw [State.rget, hregs]
    exact hlevel.regs r hr
  · have hrest := hlevel.rest
    have hset : (s.dequeue c.val i).setRun q.addr.lunKey (some (.read q st offs)) = { s with
        regs := (s.dequeue c.val i).regs, flash := ((s.dequeue c.val i).setRun q.addr.lunKey (some (.read q st offs))).flash
        tkt := (s.dequeue c.val i).tkt, chain := (s.dequeue c.val i).chain } := by
      unfold State.setRun State.flashUpd
      rw [hrest]
      rfl
    rw [htold, hset]

theorem State.flashRead_read (hnext : s.nextCmd c.val = some (.read q, i)) (hfence : s.lunFenced c.val q.addr.lun = false) :
    s.flashRead c.val = (s.readStage c i q 0 (s.flash.groups.at q.addr.grp).list).groupUpd q.addr.grp
      (fun g => { g with n := g.n + 1, last := some (q.addr.block, q.addr.page) }) := by
  unfold State.flashRead
  rw [hnext]
  dsimp only
  rw [if_neg (by simp [hfence])]
  rfl

theorem State.flashRead_retry {st : Nat} {offs : List Int} (hnext : s.nextCmd c.val = some (.retry q st offs, i))
    (hfence : s.lunFenced c.val q.addr.lun = false) : s.flashRead c.val = s.readStage c i q st offs := by
  unfold State.flashRead
  rw [hnext]
  dsimp only
  rw [if_neg (by simp [hfence])]
  rfl

theorem State.flashRead_fenced (hnext : s.nextCmd c.val = some (.read q, i)) (hfence : s.lunFenced c.val q.addr.lun = true) :
    s.flashRead c.val = (s.dequeue c.val i).tick.fDeliver q s.freeTime 0 (s.codeAt q.addr) true true false := by
  unfold State.flashRead
  rw [hnext]
  dsimp only
  rw [if_pos (by simp [hfence])]

/-- Where no raw command waits, reading is all that FLASH_READ does. -/
theorem exec_flashRead_of_queue (hraw : NoRawWaits c.val s) (hqueue : (s.flashRead c.val).flash.queue.at c.val ⊆ s.flash.queue.at c.val) :
    exec (.flashRead c) s = .next (s.flashRead c.val) :=
  congrArg _ (State.rawNext_rests (NoRawWaits.of_subset hraw hqueue))

/-- A read is issued to its LUN, and counted (R243, R244, R248). -/
theorem exec_flashRead_issues (hnext : s.nextCmd c.val = some (.read q, i)) (hchan : q.addr.chan = c.val) (hraw : NoRawWaits c.val s)
    (hfence : s.lunFenced c.val q.addr.lun = false) : ∃ u, exec (.flashRead c) s = .next u ∧
      u.flash.run.at q.addr.lunKey = some (.read q 0 (s.flash.groups.at q.addr.grp).list) ∧
      (∀ k, k ≠ q.addr.lunKey → u.flash.run.at k = s.flash.run.at k) ∧
      u.flash.queue.at c.val = (s.flash.queue.at c.val).eraseIdx i ∧
      (u.flash.blocks.at q.addr.blk).reads = (s.flash.blocks.at q.addr.blk).reads + 1 ∧
      (u.flash.groups.at q.addr.grp).n = (s.flash.groups.at q.addr.grp).n + 1 ∧
      s.flash.cmds.at c.val + 3 ≤ u.flash.cmds.at c.val ∧ u.flash.codes = s.flash.codes ∧
      RegsKept [.FLC_QLEVEL c] s u ∧
      u = { s with regs := u.regs, flash := u.flash, tkt := u.tkt, chain := u.chain, outbox := u.outbox } := by
  have hread := State.flashRead_read hnext hfence
  obtain ⟨hcmds, hreads⟩ := s.readStage_counts c i q 0 (s.flash.groups.at q.addr.grp).list hchan
  obtain ⟨hregs, hrest⟩ := s.readStage_rest c i q 0 (s.flash.groups.at q.addr.grp).list
  have hqueue := s.readStage_queue c i q 0 (s.flash.groups.at q.addr.grp).list
  have hrun := s.readStage_run c i q 0 (s.flash.groups.at q.addr.grp).list
  have hflash := s.readStage_flash c i q 0 (s.flash.groups.at q.addr.grp).list
  generalize s.readStage c i q 0 (s.flash.groups.at q.addr.grp).list = t at *
  have hexec := exec_flashRead_of_queue hraw (by rw [hread]; exact hqueue ▸ List.eraseIdx_subset)
  rw [hread] at hexec
  refine ⟨_, hexec, ?_, fun k hk => ?_, hqueue, hreads, ?_, hcmds, ?_, hregs, ?_⟩
  · show t.flash.run.at _ = _
    rw [hrun, Tab.at_put_same]
  · show t.flash.run.at _ = _
    rw [hrun, Tab.at_put_other _ _ hk]
  · show ((t.flash.groups.upd q.addr.grp (fun g => { g with n := g.n + 1, last := some (q.addr.block, q.addr.page) })).at q.addr.grp).n = _
    rw [Tab.at_upd_same, show t.flash.groups = s.flash.groups by rw [hflash]]
  · show t.flash.codes = _
    rw [hflash]
  · unfold State.groupUpd State.flashUpd
    rw [hrest]

/-- A later stage of a read is issued to its LUN (R243). -/
theorem exec_flashRead_retries {st : Nat} {offs : List Int} (hnext : s.nextCmd c.val = some (.retry q st offs, i)) (hchan : q.addr.chan = c.val)
    (hraw : NoRawWaits c.val s) (hfence : s.lunFenced c.val q.addr.lun = false) : ∃ u, exec (.flashRead c) s = .next u ∧
      u.flash.run.at q.addr.lunKey = some (.read q st offs) ∧ u.flash.queue.at c.val = (s.flash.queue.at c.val).eraseIdx i ∧
      (u.flash.blocks.at q.addr.blk).reads = (s.flash.blocks.at q.addr.blk).reads + (if st = 16 then 3 else 1) ∧
      s.flash.cmds.at c.val + (if st = 16 then 9 else 3) ≤ u.flash.cmds.at c.val := by
  have hread := State.flashRead_retry hnext hfence
  have hqueue := s.readStage_queue c i q st offs
  obtain ⟨hcmds, hreads⟩ := s.readStage_counts c i q st offs hchan
  have hexec := exec_flashRead_of_queue hraw (by rw [hread, hqueue]; exact List.eraseIdx_subset)
  rw [hread] at hexec
  exact ⟨_, hexec, by rw [State.readStage_run, Tab.at_put_same], hqueue, hreads, hcmds⟩

/-- A read of a fenced LUN is delivered at once, poisoned (R236). -/
theorem exec_flashRead_fenced (hnext : s.nextCmd c.val = some (.read q, i)) (hraw : NoRawWaits c.val s)
    (hfence : s.lunFenced c.val q.addr.lun = true) (hq : flashReader q.who = true) : ∃ u, exec (.flashRead c) s = .next u ∧
      u.flash.done = s.flash.done ++ [⟨q.who, q.tag, q.re, 0, s.codeAt q.addr, true, true, false⟩] ∧
      u.flash.queue.at c.val = (s.flash.queue.at c.val).eraseIdx i ∧ u.flash.run = s.flash.run ∧
      RegsKept (.FLC_QLEVEL c :: (List.finRange 16).map .TEL_HIST) s u := by
  have hread := State.flashRead_fenced hnext hfence
  obtain ⟨hflash, -, hregs⟩ := (s.dequeue c.val i).tick.fDeliver_reader hq s.freeTime 0 (s.codeAt q.addr) true true
  rw [← hread] at hflash hregs
  have hdone : (s.dequeue c.val i).tick.flash = { s.flash with queue := s.flash.queue.upd c.val (fun l => l.eraseIdx i) } := s.dequeue_flash c.val i
  rw [hdone] at hflash
  have hqueue : (s.flashRead c.val).flash.queue.at c.val = (s.flash.queue.at c.val).eraseIdx i := by
    rw [hflash]
    exact Tab.at_upd_same s.flash.queue c.val (fun l => l.eraseIdx i)
  refine ⟨_, exec_flashRead_of_queue hraw (by rw [hqueue]; exact List.eraseIdx_subset), by rw [hflash], hqueue, by rw [hflash], fun r hr => ?_⟩
  rw [List.mem_cons, not_or] at hr
  exact (hregs r hr.2).trans ((s.dequeue_level c i).regs r (by simpa using hr.1))

theorem exec_flashRead_rests (hnext : s.nextCmd c.val = none) : exec (.flashRead c) s = .next s := by
  show (.next ((s.flashRead c.val).rawNext c) : Res State) = _
  unfold State.flashRead
  rw [hnext]
  dsimp only
  unfold State.rawNext
  rw [hnext]

end FlashRead

/-! ### Decode stages (R242 to R246, R251) -/

/-- The registers that the decode of a unit of channel `c` may change, beside the counts of converged decodes. -/
def decodeRegs (c : Nat) : List Reg := [.FLC_DISCARD (chan c), .FLC_RETRY (chan c), .FLC_EVT (chan c)] ++ flcLevels ++ signalRegs

/-- `t` is a state to which what a decode leads to: nothing begins or ends at a LUN, and no codeword changes. -/
structure DecodeActs (c : Nat) (s t : State) : Prop where
  run : t.flash.run = s.flash.run
  codes : t.flash.codes = s.flash.codes
  queue : QueueGrows s t
  regs : RegsKept (decodeRegs c) s t

namespace DecodeActs
variable {c : Nat} {s t u : State}

theorem refl (s : State) : DecodeActs c s s := ⟨rfl, rfl, .refl s, RegsKept.refl _ s⟩

theorem trans (h : DecodeActs c s t) (g : DecodeActs c t u) : DecodeActs c s u :=
  ⟨g.run.trans h.run, g.codes.trans h.codes, h.queue.trans g.queue, h.regs.trans g.regs⟩

theorem cnt (s : State) {r : Reg} (f : Fld) (n : Nat) (hr : r ∈ decodeRegs c) : DecodeActs c s (s.cnt r f n) :=
  ⟨rfl, rfl, .of_queue rfl, RegsKept.cnt _ _ hr⟩

theorem markRefresh (s : State) (a : FAddr) : DecodeActs a.chan s (s.markRefresh a) := by
  have hmark : DecodeActs a.chan s (s.blockUpd a.blk (fun b => { b with refresh := true })) := ⟨rfl, rfl, .of_queue rfl, RegsKept.refl _ s⟩
  unfold State.markRefresh
  extract_lets s1
  refine hmark.trans (t := s1) ?_
  have hreloc (i : Nat) : DecodeActs a.chan s1 (s1.flashUpd (fun f => { f with relocs := f.relocs ++ [i] })).relocGo := by
    have hgo := Upkeep.relocGo (s1.flashUpd (fun f => { f with relocs := f.relocs ++ [i] }))
    exact ⟨hgo.run, hgo.codes, .trans (.of_queue rfl) (.relocGo _), hgo.regs.mono (by simp +contextual [decodeRegs])⟩
  split
  · obtain ⟨hflash, -⟩ := s1.flcEvt_rest a.chan F.FLC_EVT_REFRESH
    exact ⟨by rw [hflash], by rw [hflash], .of_queue (by rw [hflash]), (s1.flcEvt_regs _ _).mono (by simp +contextual [decodeRegs])⟩
  · split
    · split
      · exact refl s1
      · exact hreloc _
    · exact refl s1

theorem loopDeliver (s : State) (a : FAddr) (stage w : Nat) (offs : List Int) : DecodeActs a.chan s (s.loopDeliver a stage w offs) := by
  unfold State.loopDeliver
  dsimp only
  split
  · exact refl s
  · split
    · exact ⟨rfl, rfl, .of_queue rfl, RegsKept.refl _ s⟩
    · exact cnt s _ _ (by simp [decodeRegs])

theorem stageDeliver (s : State) (a : FAddr) (stage : Nat) : DecodeActs a.chan s (s.stageDeliver a stage) := by
  unfold State.stageDeliver
  extract_lets r s1
  have h1 : DecodeActs a.chan s s1 := by
    dsimp only [s1]
    split
    · exact refl s
    · split
      · exact cnt s _ _ (by simp [r, decodeRegs])
      · exact cnt s _ _ (by simp [r, decodeRegs])
  split
  · exact h1.trans (markRefresh s1 a)
  · exact h1

theorem setRun_codes (s : State) (k : Nat) : (s.setRun k none).flash = { s.flash with run := s.flash.run.put k none } := rfl

end DecodeActs

/-- What the counters of a converged decode leave (R264). -/
theorem State.decodeConverged_acts (s : State) (a : FAddr) (stage w n : Nat) :
    (s.decodeConverged a stage w n).flash = { s.flash with groups := (s.decodeConverged a stage w n).flash.groups } ∧
      (s.decodeConverged a stage w n).fget (.FLC_RD_CNT (chan a.chan)) F.FLC_RD_CNT_COUNT =
        (s.fget (.FLC_RD_CNT (chan a.chan)) F.FLC_RD_CNT_COUNT + 1) % 2 ^ F.FLC_RD_CNT_COUNT.len ∧
      RegsKept [.FLC_RD_CNT (chan a.chan), .FLC_CE_BITS (chan a.chan)] s (s.decodeConverged a stage w n) := by
  have hcounted : (s.countDecode a.chan n).fget (.FLC_RD_CNT (chan a.chan)) F.FLC_RD_CNT_COUNT =
      (s.fget (.FLC_RD_CNT (chan a.chan)) F.FLC_RD_CNT_COUNT + 1) % 2 ^ F.FLC_RD_CNT_COUNT.len := by
    unfold State.countDecode State.cnt
    rw [State.fget_fset_other _ _ _ _ (by simp)]
    exact State.fget_wrap_same _ _ _ _ (by decide)
  have hregs : RegsKept [.FLC_RD_CNT (chan a.chan), .FLC_CE_BITS (chan a.chan)] s (s.countDecode a.chan n) :=
    (RegsKept.wrap _ _ (by simp)).trans (RegsKept.cnt _ _ (by simp))
  unfold State.decodeConverged
  dsimp only
  split
  · exact ⟨rfl, hcounted, hregs⟩
  · exact ⟨rfl, hcounted, hregs⟩

/-- A read goes on to its next stage, ahead of the channel's other commands (R243). -/
theorem State.readRetry_on (s : State) {q : FReq} {c : Chan} (hchan : q.addr.chan = c.val) (time : Nat) {stage k : Nat} {offs : List Int}
    (hnext : nextStage s.profile.ladderLen stage = some k) :
    (s.readRetry q time stage offs).flash = { s.flash with
        run := s.flash.run.put q.addr.lunKey none, queue := s.flash.queue.upd c.val (fun l => .retry q k offs :: l) } ∧
      RegsKept [.FLC_QLEVEL c] s (s.readRetry q time stage offs) := by
  unfold State.readRetry
  rw [hnext]
  dsimp only
  rw [hchan]
  have hacts := LevelActs.flashLevel ((s.setRun q.addr.lunKey none).flashUpd (fun f => { f with queue := f.queue.upd c.val (fun l => .retry q k offs :: l) })) c.val
  rw [show chan c.val = c from Fin.ofNat_val_self c] at hacts
  exact ⟨hacts.flash, hacts.regs⟩

/-- A unit that no stage delivers is counted and delivered poisoned (R243). -/
theorem State.readRetry_lost (s : State) {q : FReq} {c : Chan} (hchan : q.addr.chan = c.val) (hq : flashReader q.who = true) (time : Nat) {stage : Nat}
    {offs : List Int} (hnext : nextStage s.profile.ladderLen stage = none) :
    (s.readRetry q time stage offs).flash = { s.flash with
        run := s.flash.run.put q.addr.lunKey none, done := s.flash.done ++ [⟨q.who, q.tag, q.re, stage, s.codeAt q.addr, true, true, false⟩] } ∧
      (s.readRetry q time stage offs).fget (.FLC_UE c) F.FLC_UE_COUNT = min (s.fget (.FLC_UE c) F.FLC_UE_COUNT + 1) (2 ^ F.FLC_UE_COUNT.len - 1) ∧
      (s.readRetry q time stage offs).bget (.FLC_EVT c) F.FLC_EVT_UE = true ∧ ((s.readRetry q time stage offs).icu.src.at (256 + c.val)).line = true := by
  have hread : s.readRetry q time stage offs = ((s.setRun q.addr.lunKey none).unitLost c.val).fDeliver q time stage (s.codeAt q.addr) true true false := by
    unfold State.readRetry
    rw [hnext]
    dsimp only
    rw [hchan]
  obtain ⟨hflash, hicu, hregs⟩ := ((s.setRun q.addr.lunKey none).unitLost c.val).fDeliver_reader hq time stage (s.codeAt q.addr) true true
  rw [← hread] at hflash hicu hregs
  have hcnum : chan c.val = c := Fin.ofNat_val_self c
  have hlost : (s.setRun q.addr.lunKey none).unitLost c.val =
      ((s.setRun q.addr.lunKey none).cnt (.FLC_UE c) F.FLC_UE_COUNT 1).flcEvt c.val F.FLC_EVT_UE := by
    unfold State.unitLost
    rw [hcnum]
  refine ⟨?_, ?_, ?_, ?_⟩
  · rw [hflash, hlost, (State.flcEvt_rest _ _ _).1]
    rfl
  · rw [hregs.fget (by simp [histRegs]), hlost, (State.flcEvt_regs _ _ _).fget (by simp [signalRegs])]
    exact State.fget_cnt_same (s.setRun q.addr.lunKey none) _ _ _ (by decide)
  · rw [hregs.bget (by simp [histRegs]), hlost]
    exact State.flcEvt_shows _ c (by decide)
  · rw [hicu, hlost]
    exact State.flcEvt_line _ _ _

/-- What a decode that converges leaves, whether its unit is clean or not. -/
theorem State.decodeStage_converged (s : State) (a : FAddr) (st : Nat) (offs : List Int) (w f : Nat) (clean : Bool) :
    s.decodeStage a st offs (.converged w f clean) =
      (if clean && ((s.codeAt a).poisoned || (s.codeAt a).clean) then
        .deliver (((s.decodeConverged a st w f).loopDeliver a st w offs).stageDeliver a st) (s.codeAt a).poisoned
      else .on ((s.decodeConverged a st w f).cnt (.FLC_UE (chan a.chan)) F.FLC_UE_MISCORR 1)) := rfl

section PageRead
variable {c : Chan} {lun : Fin 32} {n : Nat} {s : State} {q : FReq} {st : Nat} {offs : List Int}

theorem exec_pageReadDone_idle {r : Decoded} (hrun : s.flash.run.at (c.val * 32 + lun.val) = none) (hraw : NoRawWaits c.val s) :
    exec (.pageReadDone c lun r n) s = .next s := by
  show (.next ((s.pageRead c lun r n).rawNext c) : Res State) = _
  unfold State.pageRead
  dsimp only
  rw [hrun]
  dsimp only
  rw [State.rawNext_rests hraw]

theorem exec_pageReadDone_of_waits {r : Decoded} (h : NoRawWaits c.val (s.pageRead c lun r n)) :
    exec (.pageReadDone c lun r n) s = .next (s.pageRead c lun r n) := congrArg _ (State.rawNext_rests h)

variable (hrun : s.flash.run.at (c.val * 32 + lun.val) = some (.read q st offs)) (hkey : q.addr.lunKey = c.val * 32 + lun.val)
  (hchan : q.addr.chan = c.val) (hq : flashReader q.who = true) (hraw : NoRawWaits c.val s)
include hrun hq hraw

/-- A page that was never programmed is delivered poisoned (R240). -/
theorem exec_pageReadDone_erased (hprog : q.addr.page ∉ (s.flash.blocks.at q.addr.blk).prog) (r : Decoded) :
    ∃ u, exec (.pageReadDone c lun r n) s = .next u ∧
      u.flash.done = s.flash.done ++ [⟨q.who, q.tag, q.re, st, s.codeAt q.addr, true, false, false⟩] ∧
      u.flash.run.at (c.val * 32 + lun.val) = none ∧ u.flash.codes = s.flash.codes ∧
      RegsKept ((List.finRange 16).map .TEL_HIST) s u := by
  have hread : s.pageRead c lun r n = (s.setRun (c.val * 32 + lun.val) none).fDeliver q n st (s.codeAt q.addr) true false false := by
    unfold State.pageRead
    dsimp only
    rw [hrun]
    dsimp only
    rw [if_pos (by simpa using hprog)]
  obtain ⟨hflash, -, hregs⟩ := (s.setRun (c.val * 32 + lun.val) none).fDeliver_reader hq n st (s.codeAt q.addr) true false
  rw [← hread] at hflash hregs
  refine ⟨_, exec_pageReadDone_of_waits (NoRawWaits.of_subset hraw (by rw [hflash]; exact List.Subset.refl _)), by rw [hflash]; rfl, ?_, by rw [hflash]; rfl, hregs⟩
  rw [hflash]
  exact Tab.at_put_same s.flash.run _ none

variable (hprog : q.addr.page ∈ (s.flash.blocks.at q.addr.blk).prog)
include hprog

omit hraw in
theorem State.pageRead_stage (r : Decoded) : s.pageRead c lun r n = (match s.decodeStage q.addr st offs r with
    | .on s1 => s1.readRetry q n st offs
    | .deliver s1 pois => (s1.setRun (c.val * 32 + lun.val) none).fDeliver q n st (s.codeAt q.addr) pois false false) := by
  unfold State.pageRead
  dsimp only
  rw [hrun]
  dsimp only
  rw [if_neg (by simpa using hprog)]
  cases s.decodeStage q.addr st offs r with
  | on s1 => rfl
  | deliver s1 pois =>
    dsimp only
    cases hwho : q.who with
    | patrol => simp [flashReader, hwho] at hq
    | move k => rfl
    | ring m k => rfl
    | hub m => rfl
    | query k => rfl

include hchan

/-- A clean or poisoned unit is delivered as it was written (R242, R243). -/
theorem exec_pageReadDone_delivers (w f : Nat) (hgood : (s.codeAt q.addr).clean = true ∨ (s.codeAt q.addr).poisoned = true) :
    ∃ u, exec (.pageReadDone c lun (.converged w f true) n) s = .next u ∧
      u.flash.done.getLast? = some ⟨q.who, q.tag, q.re, st, s.codeAt q.addr, (s.codeAt q.addr).poisoned, false, false⟩ ∧
      u.flash.run.at (c.val * 32 + lun.val) = none ∧ u.flash.codes = s.flash.codes ∧
      u.fget (.FLC_RD_CNT c) F.FLC_RD_CNT_COUNT = (s.fget (.FLC_RD_CNT c) F.FLC_RD_CNT_COUNT + 1) % 2 ^ F.FLC_RD_CNT_COUNT.len := by
  have hcnum : chan q.addr.chan = c := by rw [hchan]; exact Fin.ofNat_val_self c
  have hread := State.pageRead_stage (lun := lun) (n := n) hrun hq hprog (.converged w f true)
  rw [State.decodeStage_converged, if_pos (by simpa using hgood.symm)] at hread
  dsimp only at hread
  obtain ⟨hflash1, hcount, -⟩ := s.decodeConverged_acts q.addr st w f
  have hacts := (DecodeActs.loopDeliver (s.decodeConverged q.addr st w f) q.addr st w offs).trans (.stageDeliver _ _ st)
  generalize ((s.decodeConverged q.addr st w f).loopDeliver q.addr st w offs).stageDeliver q.addr st = t at *
  obtain ⟨hflash, -, hregs⟩ := (t.setRun (c.val * 32 + lun.val) none).fDeliver_reader hq n st (s.codeAt q.addr) (s.codeAt q.addr).poisoned false
  rw [← hread] at hflash hregs
  have hwaits : NoRawWaits c.val (s.pageRead c lun (.converged w f true) n) := by
    refine NoRawWaits.of_subset (hacts.queue.noRawWaits (s := s.decodeConverged q.addr st w f) (NoRawWaits.of_subset hraw ?_)) ?_
    · rw [hflash1]
      exact List.Subset.refl _
    · rw [hflash]
      exact List.Subset.refl _
  refine ⟨_, exec_pageReadDone_of_waits hwaits, ?_, ?_, ?_, ?_⟩
  · rw [hflash]
    simp
  · rw [hflash]
    exact Tab.at_put_same t.flash.run _ none
  · rw [hflash]
    show t.flash.codes = _
    rw [hacts.codes, hflash1]
  · rw [hregs.fget (by simp [histRegs])]
    show t.fget _ _ = _
    rw [hacts.regs.fget (by simp [decodeRegs, flcLevels, signalRegs]), ← hcnum]
    exact hcount

/-- A miscorrected unit goes on to the next stage (R242, R243). -/
theorem exec_pageReadDone_miscorrects (hkey : q.addr.lunKey = c.val * 32 + lun.val) (w f : Nat) (clean : Bool) {k : Nat}
    (hbad : clean = false ∨ ((s.codeAt q.addr).clean = false ∧ (s.codeAt q.addr).poisoned = false)) (hnext : nextStage s.profile.ladderLen st = some k) :
    ∃ u, exec (.pageReadDone c lun (.converged w f clean) n) s = .next u ∧
      u.flash.queue.at c.val = .retry q k offs :: s.flash.queue.at c.val ∧ u.flash.run.at (c.val * 32 + lun.val) = none ∧
      u.flash.done = s.flash.done ∧
      u.fget (.FLC_UE c) F.FLC_UE_MISCORR = min (s.fget (.FLC_UE c) F.FLC_UE_MISCORR + 1) (2 ^ F.FLC_UE_MISCORR.len - 1) := by
  have hcnum : chan q.addr.chan = c := by rw [hchan]; exact Fin.ofNat_val_self c
  have hread := State.pageRead_stage (lun := lun) (n := n) hrun hq hprog (.converged w f clean)
  rw [State.decodeStage_converged, if_neg (by rcases hbad with rfl | ⟨hc, hp⟩ <;> simp [*])] at hread
  dsimp only at hread
  obtain ⟨hflash1, -, hregs1⟩ := s.decodeConverged_acts q.addr st w f
  let counted := (s.decodeConverged q.addr st w f).cnt (.FLC_UE (chan q.addr.chan)) F.FLC_UE_MISCORR 1
  have hcounted : counted.flash = { s.flash with groups := counted.flash.groups } := hflash1
  have hlabel : counted.profile = s.profile := by
    unfold State.profile
    rw [show counted.flash.label = s.flash.label by rw [hcounted]]
  obtain ⟨hflash, hregs⟩ := counted.readRetry_on hchan n (stage := st) (offs := offs) (by rw [hlabel]; exact hnext)
  rw [← hread] at hflash hregs
  have hqueue : (s.pageRead c lun (.converged w f clean) n).flash.queue.at c.val = .retry q k offs :: s.flash.queue.at c.val := by
    rw [hflash]
    refine (Tab.at_upd_same counted.flash.queue c.val (fun l => .retry q k offs :: l)).trans ?_
    rw [show counted.flash.queue = s.flash.queue by rw [hcounted]]
  refine ⟨_, exec_pageReadDone_of_waits fun x hx => ?_, hqueue, ?_, ?_, ?_⟩
  · rw [hqueue] at hx
    rcases List.mem_cons.mp hx with rfl | hx
    · simp
    · exact hraw x hx
  · rw [hflash, hkey]
    exact Tab.at_put_same counted.flash.run _ none
  · rw [hflash]
    show counted.flash.done = _
    rw [hcounted]
  · rw [hregs.fget (by simp)]
    show State.fget (State.cnt _ _ _ _) _ _ = _
    rw [hcnum]
    refine (State.fget_cnt_same _ _ _ _ (by decide)).trans ?_
    rw [hregs1.fget (by simp)]

/-- A failed decode goes on to the next stage (R243). -/
theorem exec_pageReadDone_goesOn (hkey : q.addr.lunKey = c.val * 32 + lun.val) (w : Nat) {k : Nat} (hnext : nextStage s.profile.ladderLen st = some k) :
    ∃ u, exec (.pageReadDone c lun (.failed w) n) s = .next u ∧
      u.flash.queue.at c.val = .retry q k offs :: s.flash.queue.at c.val ∧ u.flash.run.at (c.val * 32 + lun.val) = none ∧
      u.flash.done = s.flash.done ∧ RegsKept [.FLC_QLEVEL c] s u := by
  have hread : s.pageRead c lun (.failed w) n = s.readRetry q n st offs := State.pageRead_stage (lun := lun) (n := n) hrun hq hprog (.failed w)
  obtain ⟨hflash, hregs⟩ := s.readRetry_on hchan n (offs := offs) hnext
  rw [← hread] at hflash hregs
  have hqueue : (s.pageRead c lun (.failed w) n).flash.queue.at c.val = .retry q k offs :: s.flash.queue.at c.val := by
    rw [hflash]
    exact Tab.at_upd_same s.flash.queue c.val (fun l => .retry q k offs :: l)
  refine ⟨_, exec_pageReadDone_of_waits fun x hx => ?_, hqueue, ?_, by rw [hflash], hregs⟩
  · rw [hqueue] at hx
    rcases List.mem_cons.mp hx with rfl | hx
    · simp
    · exact hraw x hx
  · rw [hflash, hkey]
    exact Tab.at_put_same s.flash.run _ none

/-- A unit that no stage delivers is lost, and delivered poisoned (R243). -/
theorem exec_pageReadDone_loses (w : Nat) (hnext : nextStage s.profile.ladderLen st = none) :
    ∃ u, exec (.pageReadDone c lun (.failed w) n) s = .next u ∧
      u.flash.done = s.flash.done ++ [⟨q.who, q.tag, q.re, st, s.codeAt q.addr, true, true, false⟩] ∧
      u.fget (.FLC_UE c) F.FLC_UE_COUNT = min (s.fget (.FLC_UE c) F.FLC_UE_COUNT + 1) (2 ^ F.FLC_UE_COUNT.len - 1) ∧
      u.bget (.FLC_EVT c) F.FLC_EVT_UE = true ∧ (u.icu.src.at (256 + c.val)).line = true := by
  have hread : s.pageRead c lun (.failed w) n = s.readRetry q n st offs := State.pageRead_stage (lun := lun) (n := n) hrun hq hprog (.failed w)
  obtain ⟨hflash, hshown⟩ := s.readRetry_lost hchan hq n (offs := offs) hnext
  rw [← hread] at hflash hshown
  exact ⟨_, exec_pageReadDone_of_waits (NoRawWaits.of_subset hraw (by rw [hflash]; exact List.Subset.refl _)), by rw [hflash], hshown⟩

end PageRead

/-- Settles O21, by the stages of a read: what its issue tells the LUN, what a decode may change, and how a unit reaches its reader. -/
theorem flashReadsComplete : Obligations.FlashReadsComplete := by
  unfold Obligations.FlashReadsComplete
  refine ⟨fun c s q i hnext hchan hraw => ⟨fun hfence => exec_flashRead_issues hnext hchan hraw hfence,
      fun hfence hq => exec_flashRead_fenced hnext hraw hfence hq⟩,
    fun c s q st i offs hnext hchan hraw hfence => exec_flashRead_retries hnext hchan hraw hfence, fun c s hnext => exec_flashRead_rests hnext,
    fun c lun r n s hrun hraw => exec_pageReadDone_idle hrun hraw,
    fun c lun n s q st offs hrun hkey hchan hq hraw => ⟨fun hprog r => exec_pageReadDone_erased hrun hq hraw hprog r, fun hprog => ?_⟩⟩
  exact ⟨fun w f hgood => exec_pageReadDone_delivers hrun hchan hq hraw hprog w f hgood,
    fun w f clean k hbad hnext => exec_pageReadDone_miscorrects hrun hchan hq hraw hprog hkey w f clean hbad hnext,
    fun w k hnext => exec_pageReadDone_goesOn hrun hchan hq hraw hprog hkey w hnext,
    fun w hnext => exec_pageReadDone_loses hrun hchan hq hraw hprog w hnext⟩

end Sys2Proof.Machine

namespace Sys2Proof.Machine

/-! PROOFS. The read-threshold loop's probes and thresholds, patrols, and calibration (O22; R238, R244 to R248, R251, R264). -/

/-! ### PROBE_ISSUE (R244, R245) -/

section ProbeIssue
variable {c : Chan} {g : Fin 4096} {s : State} {b p v : Nat}

/-- A probe of the level `v` is issued to the LUN of its group: the group's turn is over, and the LUN reads with the level moved. -/
def State.probeGoes (s : State) (c : Chan) (g : Fin 4096) (b p v : Nat) : State :=
  let key := c.val * 4096 + g.val
  let x := s.flash.groups.at key
  let up := !x.downs.contains v
  let a : FAddr := ⟨c.val, g.val / 128, b, p, 0⟩
  let s1 := s.groupUpd key (fun y => { y with
    n := y.n - 16 * s.fget (.FLC_LOOP c) F.FLC_LOOP_PROBE_INT
    lvl := v + 1
    downs := if up then (y.downs ++ [v]) else y.downs.filter (· ≠ v) })
  let s2 := (s1.setRun (c.val * 32 + g.val / 128) (some (.probe key v up x.list))).applyOffs c.val (g.val / 128)
    (s.shifted x.list (fun w => if w = v then (if up then 1 else -1) else 0))
  ((s2.onfi c.val (g.val / 128) onfiRead).blockUpd a.blk (fun y => { y with reads := y.reads + 1 })).cnt (.FLC_PROBE c) F.FLC_PROBE_ISSUED 1

theorem exec_probeIssue_goes (hlast : (s.flash.groups.at (c.val * 4096 + g.val)).last = some (b, p))
    (hlvl : s.profile.used.find? (fun v => (s.flash.groups.at (c.val * 4096 + g.val)).lvl ≤ v) = some v)
    (hint : s.fget (.FLC_LOOP c) F.FLC_LOOP_PROBE_INT ≠ 0)
    (hn : 16 * s.fget (.FLC_LOOP c) F.FLC_LOOP_PROBE_INT ≤ (s.flash.groups.at (c.val * 4096 + g.val)).n)
    (hlo : s.fget (.FLC_QLEVEL c) F.FLC_QLEVEL_LEVEL ≤ s.lo 3) (hfence : s.lunFenced c.val (g.val / 128) = false)
    (hidle : s.lunIdle c.val (g.val / 128) = true) (hloop : s.loopRuns c.val (g.val / 128) = true) (hroom : s.arrayRoom c.val = true)
    (hfree : s.chanFree c.val (3 * s.priority (41 + c.val) (s.bgTicket c.val) + 2) = true) :
    exec (.probeIssue c g) s = .next (s.probeGoes c g b p v) := by
  obtain ⟨v0, hhead⟩ : ∃ v0, s.profile.used.head? = some v0 := by
    cases hused : s.profile.used with
    | nil => rw [hused] at hlvl; simp at hlvl
    | cons v0 l => exact ⟨v0, rfl⟩
  show execProbeIssue c g s = _
  unfold execProbeIssue
  extract_lets lun key x int used
  have hlast' : x.last = some (b, p) := hlast
  have hlvl' : used.find? (fun v => x.lvl ≤ v) = some v := hlvl
  rw [hlast', hlvl', show used.head? = some v0 from hhead]
  dsimp only
  rw [if_neg (by simp [int, x, key, lun, hint, Nat.not_lt.mpr hn, Nat.not_lt.mpr hlo, hfence, hidle, hloop, hroom, hfree])]
  rfl

theorem State.probeGoes_does (s : State) (c : Chan) (g : Fin 4096) (b p v : Nat) :
    ∃ up, (s.probeGoes c g b p v).flash.run.at (c.val * 32 + g.val / 128) =
        some (.probe (c.val * 4096 + g.val) v up (s.flash.groups.at (c.val * 4096 + g.val)).list) ∧
      ((s.probeGoes c g b p v).flash.groups.at (c.val * 4096 + g.val)).offs = (s.flash.groups.at (c.val * 4096 + g.val)).offs ∧
      (s.probeGoes c g b p v).fget (.FLC_PROBE c) F.FLC_PROBE_ISSUED =
        min (s.fget (.FLC_PROBE c) F.FLC_PROBE_ISSUED + 1) (2 ^ F.FLC_PROBE_ISSUED.len - 1) ∧
      RegsKept [.FLC_PROBE c] s (s.probeGoes c g b p v) ∧
      s.probeGoes c g b p v = { s with regs := (s.probeGoes c g b p v).regs, flash := (s.probeGoes c g b p v).flash, outbox := (s.probeGoes c g b p v).outbox } := by
  unfold State.probeGoes
  extract_lets key x up a s1 s2
  have htold : ReadTold (s1.setRun (c.val * 32 + g.val / 128) (some (.probe key v up x.list))) (s2.onfi c.val (g.val / 128) onfiRead) :=
    (ReadTold.applyOffs _ _ _ _).trans (.onfi _ _ _ _)
  have hrest := htold.rest
  generalize s2.onfi c.val (g.val / 128) onfiRead = t at *
  have hregs : t.regs = s.regs := by rw [hrest]; rfl
  have hprobe : t.fget (.FLC_PROBE c) F.FLC_PROBE_ISSUED = s.fget (.FLC_PROBE c) F.FLC_PROBE_ISSUED := by rw [State.fget, State.rget, hregs]; rfl
  refine ⟨up, ?_, ?_, ?_, fun r hr => ?_, ?_⟩
  · show t.flash.run.at _ = _
    rw [htold.flash]
    exact Tab.at_put_same s1.flash.run (c.val * 32 + g.val / 128) (some (.probe key v up x.list))
  · show (t.flash.groups.at _).offs = _
    rw [htold.flash]
    show ((s.flash.groups.upd key (fun y => { y with
      n := y.n - 16 * s.fget (.FLC_LOOP c) F.FLC_LOOP_PROBE_INT, lvl := v + 1
      downs := if up then (y.downs ++ [v]) else y.downs.filter (· ≠ v) })).at key).offs = _
    rw [Tab.at_upd_same]
  · refine (State.fget_cnt_same _ _ _ _ (by decide)).trans ?_
    show min (t.fget (.FLC_PROBE c) F.FLC_PROBE_ISSUED + 1) _ = _
    rw [hprobe]
  · refine (State.rget_fset_other _ _ _ (by simpa using hr)).trans ?_
    show t.rget r = _
    rw [State.rget, hregs]
    rfl
  · obtain ⟨f, o, rfl⟩ : ∃ f o, t = { s with flash := f, outbox := o } := ⟨_, _, hrest⟩
    rfl

end ProbeIssue

/-! ### PROBE_RESULT (R245, R246) -/

section ProbeResult
variable {c : Chan} {lun : Fin 32} {w : Fin 4097} {s : State} {g v : Nat} {up : Bool} {offs : List Int}

theorem exec_probeResult_of_queue (hraw : NoRawWaits c.val s) (hqueue : (s.probeResult c lun w).flash.queue = s.flash.queue) :
    exec (.probeResult c lun w) s = .next (s.probeResult c lun w) :=
  congrArg _ (State.rawNext_rests (NoRawWaits.of_subset hraw (by rw [hqueue]; exact List.Subset.refl _)))

variable (hrun : s.flash.run.at (c.val * 32 + lun.val) = some (.probe g v up offs)) (hraw : NoRawWaits c.val s)
include hrun

theorem State.probeResult_ends : s.probeResult c lun w =
    (if (s.flash.groups.at g).list ≠ offs then (s.setRun (c.val * 32 + lun.val) none).cnt (.FLC_DISCARD c) F.FLC_DISCARD_STALE 1
    else if w.val + s.fget (.FLC_LOOP c) F.FLC_LOOP_HYST < (s.flash.groups.at g).sbar then
      ((s.setRun (c.val * 32 + lun.val) none).groupUpd g (fun y => { y with
        offs := y.offs.put v (s.profile.clamp (y.offs.at v + (if up then 1 else -1))) })).cnt (.FLC_PROBE c) F.FLC_PROBE_ADOPTED 1
    else s.setRun (c.val * 32 + lun.val) none) := by
  unfold State.probeResult
  dsimp only
  rw [hrun]

include hraw

theorem exec_probeResult_stale (hstale : (s.flash.groups.at g).list ≠ offs) : ∃ u, exec (.probeResult c lun w) s = .next u ∧
      u.flash.run.at (c.val * 32 + lun.val) = none ∧ u.flash.groups = s.flash.groups ∧
      u.fget (.FLC_DISCARD c) F.FLC_DISCARD_STALE =
        min (s.fget (.FLC_DISCARD c) F.FLC_DISCARD_STALE + 1) (2 ^ F.FLC_DISCARD_STALE.len - 1) := by
  have hends := State.probeResult_ends (w := w) hrun
  rw [if_pos hstale] at hends
  refine ⟨_, exec_probeResult_of_queue hraw (by rw [hends]; rfl), ?_, by rw [hends]; rfl, ?_⟩
  · rw [hends]
    exact Tab.at_put_same s.flash.run _ none
  · rw [hends]
    exact State.fget_cnt_same (s.setRun (c.val * 32 + lun.val) none) _ _ _ (by decide)

theorem exec_probeResult_adopts (hlist : (s.flash.groups.at g).list = offs)
    (hw : w.val + s.fget (.FLC_LOOP c) F.FLC_LOOP_HYST < (s.flash.groups.at g).sbar) :
    ∃ u, exec (.probeResult c lun w) s = .next u ∧ u.flash.run.at (c.val * 32 + lun.val) = none ∧
        (u.flash.groups.at g).offs.at v =
          s.profile.clamp ((s.flash.groups.at g).offs.at v + (if up = true then 1 else -1)) ∧
        (∀ k, k ≠ g → u.flash.groups.at k = s.flash.groups.at k) ∧ RegsKept [.FLC_PROBE c] s u := by
  have hends := State.probeResult_ends (w := w) hrun
  rw [if_neg (by simp [hlist]), if_pos hw] at hends
  have hgroups : (s.probeResult c lun w).flash.groups = s.flash.groups.upd g (fun y => { y with
      offs := y.offs.put v (s.profile.clamp (y.offs.at v + (if up then 1 else -1))) }) := by rw [hends]; rfl
  refine ⟨_, exec_probeResult_of_queue hraw (by rw [hends]; rfl), ?_, ?_, fun k hk => ?_, ?_⟩
  · rw [hends]
    exact Tab.at_put_same s.flash.run _ none
  · rw [hgroups, Tab.at_upd_same, Tab.at_put_same]
  · rw [hgroups, Tab.at_upd, if_neg hk]
  · rw [hends]
    intro r hr
    exact State.rget_fset_other _ _ _ (by simpa using hr)

theorem exec_probeResult_rests (hlist : (s.flash.groups.at g).list = offs)
    (hw : (s.flash.groups.at g).sbar ≤ w.val + s.fget (.FLC_LOOP c) F.FLC_LOOP_HYST) :
    ∃ u, exec (.probeResult c lun w) s = .next u ∧ u.flash.run.at (c.val * 32 + lun.val) = none ∧
        u.flash.groups = s.flash.groups ∧ u.regs = s.regs := by
  have hends := State.probeResult_ends (w := w) hrun
  rw [if_neg (by simp [hlist]), if_neg (Nat.not_lt.mpr hw)] at hends
  refine ⟨_, exec_probeResult_of_queue hraw (by rw [hends]; rfl), ?_, by rw [hends]; rfl, by rw [hends]; rfl⟩
  rw [hends]
  exact Tab.at_put_same s.flash.run _ none

end ProbeResult

/-! ### Patrols (R248, R251) -/

/-- `t` is `s` but for reads that wait at channels: each queue is only continued. -/
structure PatrolActs (s t : State) : Prop where
  rest : t = { s with regs := t.regs, flash := t.flash, tkt := t.tkt, chain := t.chain }
  flash : t.flash = { s.flash with queue := t.flash.queue }
  regs : RegsKept flcLevels s t
  queue : QueueGrows s t

namespace PatrolActs
variable {s t u : State}

theorem refl (s : State) : PatrolActs s s := ⟨rfl, rfl, RegsKept.refl _ s, .refl s⟩

theorem trans (h : PatrolActs s t) (g : PatrolActs t u) : PatrolActs s u :=
  ⟨by rw [g.rest, h.rest], by rw [g.flash, h.flash], h.regs.trans g.regs, h.queue.trans g.queue⟩

theorem foldl {α : Type} {f : State → α → State} (l : List α) (s : State) (hf : ∀ t a, PatrolActs t (f t a)) : PatrolActs s (l.foldl f s) :=
  List.foldlRecOn (motive := fun t => PatrolActs s t) l f (refl s) fun t ht a _ => ht.trans (hf t a)

theorem flashAsk (s : State) (q : FReq) : PatrolActs s (s.flashAsk q) :=
  ⟨(Upkeep.flashAsk s q).rest, State.flashQueue_queue s _ _ |>.trans (by rw [State.flashAsk, State.flashQueue_queue]), (Upkeep.flashAsk s q).regs, .flashAsk s q⟩

theorem patrol (s : State) (b : Nat) : PatrolActs s (s.patrol b) := by
  unfold State.patrol
  dsimp only
  split
  · exact refl s
  · exact foldl _ s fun t _ => foldl _ t fun u _ => flashAsk u _

theorem mem_queue (h : PatrolActs s t) {x : FCmd} {k : Nat} (hx : x ∈ s.flash.queue.at k) : x ∈ t.flash.queue.at k := (h.queue.prefix_queue k).subset hx

end PatrolActs

/-- A read of the patrol is asked for whatever its source holds: it has none. -/
theorem State.flashAsk_patrol_mem (s : State) {q : FReq} (hq : q.who = .patrol) (hw : q.waits = false) : .read q ∈ (s.flashAsk q).flash.queue.at q.addr.chan := by
  have hsame : { q with waits := s.flashHeld q } = q := by
    have hheld : s.flashHeld q = false := by simp [State.flashHeld, FReq.source, hq]
    rw [hheld, ← hw]
  rw [State.flashAsk, hsame, State.flashQueue_queue]
  show FCmd.read q ∈ (s.flash.queue.upd q.addr.chan (· ++ [.read q])).at q.addr.chan
  rw [Tab.at_upd_same]
  simp

/-- The patrol of a block asks for the first codeword of its first programmed page (R248, R251). -/
theorem State.patrol_mem (s : State) {b p : Nat} {l : List Nat} (hprog : (s.flash.blocks.at b).prog = p :: l) (hk : 0 < s.lunK (b / 8192)) :
    .read ⟨.patrol, blkAddr b (l.foldl min p) 0, (0, 0), s.bgTicket (b / 262144), 0, false, 0⟩ ∈ (s.patrol b).flash.queue.at (b / 262144) := by
  have hpages : ∃ rest, (if l.foldl min p = l.foldl max p then [l.foldl min p] else [l.foldl min p, l.foldl max p]) = l.foldl min p :: rest := by
    split
    · exact ⟨[], rfl⟩
    · exact ⟨_, rfl⟩
  obtain ⟨rest, hpages⟩ := hpages
  obtain ⟨n, hn⟩ := Nat.exists_eq_succ_of_ne_zero (Nat.pos_iff_ne_zero.mp hk)
  unfold State.patrol
  dsimp only
  rw [hprog]
  dsimp only
  rw [hpages, List.foldl_cons, hn, List.range_succ_eq_map, List.foldl_cons]
  refine PatrolActs.mem_queue (.foldl rest _ fun t _ => .foldl _ t fun u _ => .flashAsk u _) (PatrolActs.mem_queue (.foldl _ _ fun u _ => .flashAsk u _) ?_)
  exact s.flashAsk_patrol_mem (q := ⟨.patrol, blkAddr b (l.foldl min p) 0, (0, 0), s.bgTicket (b / 262144), 0, false, 0⟩) rfl rfl

theorem exec_readDisturbPatrol_reads {c : Chan} {lun : Fin 32} {b : Fin 8192} {s : State} {k : Nat} (hk : k = (c.val * 32 + lun.val) * 8192 + b.val)
    (hruns : s.chanRuns c.val = true) (hlimit : s.fget (.FLC_PATROL) F.FLC_PATROL_RD_LIMIT * 4096 ≤ (s.flash.blocks.at k).reads) :
    ∃ u, exec (.readDisturbPatrol c lun b) s = .next u ∧ (u.flash.blocks.at k).reads = 0 ∧
        (∀ j, j ≠ k → u.flash.blocks.at j = s.flash.blocks.at j) ∧
        (∀ p l, (s.flash.blocks.at k).prog = p :: l → 0 < s.lunK (k / 8192) →
          .read ⟨.patrol, blkAddr k (l.foldl min p) 0, (0, 0), s.bgTicket (k / 262144), 0, false, 0⟩ ∈ u.flash.queue.at (k / 262144)) := by
  subst hk
  let zeroed := s.blockUpd ((c.val * 32 + lun.val) * 8192 + b.val) (fun x => { x with reads := 0 })
  have hacts := PatrolActs.patrol zeroed ((c.val * 32 + lun.val) * 8192 + b.val)
  have hblocks : (zeroed.patrol ((c.val * 32 + lun.val) * 8192 + b.val)).flash.blocks =
      s.flash.blocks.upd ((c.val * 32 + lun.val) * 8192 + b.val) (fun x => { x with reads := 0 }) := by
    rw [hacts.flash]
    rfl
  refine ⟨_, if_pos ⟨hruns, hlimit⟩, ?_, fun j hj => ?_, fun p l hprog hlun => ?_⟩
  · show ((zeroed.patrol _).flash.blocks.at _).reads = 0
    rw [hblocks, Tab.at_upd_same]
  · show (zeroed.patrol _).flash.blocks.at j = _
    rw [hblocks, Tab.at_upd, if_neg hj]
  · refine zeroed.patrol_mem ?_ hlun
    show ((s.flash.blocks.upd _ (fun x => { x with reads := 0 })).at _).prog = _
    rw [Tab.at_upd_same]
    exact hprog

theorem exec_patrolTimer_reads (s : State) : ∃ u, exec .patrolTimer s = .next u ∧ u.flash.blocks = s.flash.blocks ∧ u.flash.codes = s.flash.codes ∧
    (∀ b x p l, s.flash.blocks = [(b, x)] → x.prog = p :: l → s.chanRuns (b / 262144) = true → 0 < s.lunK (b / 8192) →
      .read ⟨.patrol, blkAddr b (l.foldl min p) 0, (0, 0), s.bgTicket (b / 262144), 0, false, 0⟩ ∈ u.flash.queue.at (b / 262144)) ∧
    RegsKept ((List.finRange 32).map .FLC_QLEVEL) s u ∧
    u = { s with regs := u.regs, flash := u.flash, tkt := u.tkt, chain := u.chain } := by
  have hacts : PatrolActs s ((s.flash.blocks.map (·.1)).foldl (fun (s : State) b => if s.chanRuns (b / 262144) then s.patrol b else s) s) := by
    refine PatrolActs.foldl _ s fun t b => ?_
    split
    · exact .patrol t b
    · exact .refl t
  refine ⟨_, rfl, ?_, ?_, fun b x p l hblocks hprog hruns hk => ?_, hacts.regs, hacts.rest⟩
  · rw [hacts.flash]
  · rw [hacts.flash]
  · rw [hblocks]
    show _ ∈ (if s.chanRuns (b / 262144) then s.patrol b else s).flash.queue.at _
    rw [if_pos hruns]
    refine s.patrol_mem ?_ hk
    rw [hblocks, Tab.at, if_pos rfl]
    exact hprog

/-! ### ZQ_CALIBRATION (R238) -/

theorem State.foldl_emit {α : Type} (l : List α) (f : α → Out) (s : State) :
    l.foldl (fun (s : State) x => s.emit (f x)) s = { s with outbox := (l.foldl (fun (s : State) x => s.emit (f x)) s).outbox } := by
  refine List.foldlRecOn (motive := fun t : State => t = { s with outbox := t.outbox }) l _ rfl fun t ht x _ => ?_
  rw [ht]
  rfl

/-- Settles O22, by what each part of the loop changes: a probe and its result one group, a threshold write one offset, a patrol only the queues. -/
theorem readLoopAndPatrolComplete : Obligations.ReadLoopAndPatrolComplete := by
  unfold Obligations.ReadLoopAndPatrolComplete
  refine ⟨fun c g s b p v hlast hlvl hint hn hlo hfence hidle hloop hroom hfree => ?probe,
    fun c lun w s g v up offs hrun hraw => ⟨fun hstale => exec_probeResult_stale hrun hraw hstale, fun hlist hw => exec_probeResult_adopts hrun hraw hlist hw,
      fun hlist hw => exec_probeResult_rests hrun hraw hlist hw⟩,
    fun c v s g l hg hl => ⟨fun hopen => ?closed, fun hopen hfence hlt => ?written⟩,
    fun c lun b s k hk => ⟨fun hruns hlimit => exec_readDisturbPatrol_reads hk hruns hlimit, fun hlt => ?few⟩, exec_patrolTimer_reads,
    fun c s => ⟨fun hlt => if_pos hlt, fun hge => ?calibrates⟩⟩
  case probe =>
    obtain ⟨up, hdoes⟩ := s.probeGoes_does c g b p v
    exact ⟨_, up, exec_probeIssue_goes hlast hlvl hint hn hlo hfence hidle hloop hroom hfree, hdoes⟩
  case closed =>
    subst hg
    exact if_pos (.inr (.inl (by simp [hopen])))
  case written =>
    subst hg hl
    have hexec : exec (.thresholdWrite c v) s = .next _ := if_neg (by simp [hfence, hopen, Nat.not_le.mpr hlt])
    refine ⟨_, hexec, ?_, fun k hk => ?_, rfl⟩
    · show ((s.flash.groups.upd _ (fun x => { x with offs := x.offs.put _ (s.profile.clamp (sbyte (F.FLC_THR_DATA_OFFSET.get v))) })).at _).offs.at _ = _
      rw [Tab.at_upd_same, Tab.at_put_same]
    · show (s.flash.groups.upd _ (fun x => { x with offs := x.offs.put _ (s.profile.clamp (sbyte (F.FLC_THR_DATA_OFFSET.get v))) })).at k = _
      rw [Tab.at_upd, if_neg hk]
  case few =>
    subst hk
    exact if_neg fun h => Nat.not_le.mpr hlt h.2
  case calibrates =>
    let luns := (List.range 32).filter (fun l => bitAt (s.fget (.FLC_LUN c) F.FLC_LUN_USED) l)
    let told := luns.foldl (fun (s : State) l => s.emit (.onfi c.val l [0xF9])) s
    have htold : told = { s with outbox := told.outbox } := State.foldl_emit luns _ s
    have hexec : exec (.zqCalibration c) s = .next (told.flashUpd (fun f => { f with cmds := f.cmds.put c.val 0 })) := if_neg (Nat.not_lt.mpr hge)
    have hcmds : (told.flashUpd (fun f => { f with cmds := f.cmds.put c.val 0 })).flash = { s.flash with cmds := s.flash.cmds.put c.val 0 } := by
      rw [htold]
      rfl
    refine ⟨_, hexec, ?_, fun k hk => ?_, ?_⟩
    · rw [hcmds]
      exact Tab.at_put_same s.flash.cmds _ 0
    · rw [hcmds]
      exact Tab.at_put_other s.flash.cmds 0 hk
    · rw [htold]
      rfl

end Sys2Proof.Machine

namespace Sys2Proof.Machine

/-! PROOFS. Raw commands to LUNs in open mode (O27; R234, R236, R243, R244, R249, R250, R262, R263). -/

/-! ### Memory does not see the flash -/

/-- The state with another flash, and other messages on their way. -/
def State.aside (f : FlashUnit) (o : List Out) (s : State) : State := { s with flash := f, outbox := o }

/-- The words of a block, written one after the other. -/
def blockWords (c : CellRef) (b lo hi : Nat) (words : List (List Byte)) (pw : List (List Bool)) (s : State) : State × Option Nat × List Nat :=
  (List.range 64).foldl (fun (acc : State × Option Nat × List Nat) i =>
    let mask := wordMask lo hi i
    if mask = 0 then acc
    else
      let p := (List.range 4).any (fun j => bitAt mask j && nth (nth pw i) j)
      let r := acc.1.writeCell { c with key := c.key + 4 * i } mask (ofBytes (nth words i)) p
      (r.1, if r.2 && decide (acc.2.1 = none) then some (b + 4 * i) else acc.2.1,
        if r.2 then acc.2.2 else i :: acc.2.2)) (s, none, [])

section Aside
variable (f : FlashUnit) (o : List Out) (s : State)

theorem State.aside_withMem (m : MemUnit) : (s.aside f o).withMem m = (s.withMem m).aside f o := rfl

theorem State.aside_stackCount (a n : Nat) : (s.aside f o).stackCount false a n = (s.stackCount false a n).aside f o := by
  unfold State.stackCount
  rw [show (s.aside f o).cellOf true a = s.cellOf true a from rfl]
  cases s.cellOf true a with
  | none => rfl
  | some c =>
    dsimp -zeta only
    split <;> rfl

theorem State.aside_manifestBad (a point : Nat) : (s.aside f o).manifestBad a point = (s.manifestBad a point).aside f o := by
  unfold State.manifestBad
  dsimp only
  split <;> rfl

theorem State.aside_pageDemote (b : Nat) : (s.aside f o).pageDemote b = (s.pageDemote b).aside f o := by
  unfold State.pageDemote
  cases rangeOf b <;> rfl

theorem State.aside_writeCell (c : CellRef) (mask w : Nat) (pois : Bool) :
    (s.aside f o).writeCell c mask w pois = ((s.writeCell c mask w pois).1.aside f o, (s.writeCell c mask w pois).2) := by
  unfold State.writeCell
  extract_lets r m arm r' m' arm'
  have hr : r = r' := rfl
  have harm : (s.aside f o).armed c = s.armed c := rfl
  rw [hr, harm]
  split <;> rfl

theorem State.aside_mergeRead (c : CellRef) (lo hi : Nat) :
    (s.aside f o).mergeRead c lo hi = ((s.mergeRead c lo hi).1.aside f o, (s.mergeRead c lo hi).2) := rfl

theorem aside_blockWords (c : CellRef) (b lo hi : Nat) (words : List (List Byte)) (pw : List (List Bool)) :
    blockWords c b lo hi words pw (s.aside f o) = ((blockWords c b lo hi words pw s).1.aside f o, (blockWords c b lo hi words pw s).2) := by
  unfold blockWords
  refine List.foldl_hom (fun x : State × Option Nat × List Nat => (x.1.aside f o, x.2)) (init := (s, none, [])) fun x i => ?_
  dsimp only
  split
  · rfl
  · rw [State.aside_writeCell]

theorem State.writeBlock_eq (c : CellRef) (b lo hi : Nat) (bytes : List Byte) (pois : List Bool) (man : Word) :
    s.writeBlock c b lo hi bytes pois man =
      (if lo = 0 ∧ hi = 256 then
        (if decide (c.cls ≠ 2 ∧ c.cls ≠ 3) then
            (blockWords c b lo hi (chunks 4 bytes) (chunks 4 pois) s).1.withMem ((blockWords c b lo hi (chunks 4 bytes) (chunks 4 pois) s).1.mem.setManifest c.key man)
          else (blockWords c b lo hi (chunks 4 bytes) (chunks 4 pois) s).1, (blockWords c b lo hi (chunks 4 bytes) (chunks 4 pois) s).2.1)
      else if !decide (c.cls ≠ 2 ∧ c.cls ≠ 3) then
        ((blockWords c b lo hi (chunks 4 bytes) (chunks 4 pois) s).1, (blockWords c b lo hi (chunks 4 bytes) (chunks 4 pois) s).2.1)
      else
        if !((s.mergeRead c lo hi).2.2.any id) && decide (crc32c (wordsToBytes (s.mergeRead c lo hi).2.1) ≠ s.mem.manifest c.key) then
          ((s.mergeRead c lo hi).1.manifestBad b 6, some b)
        else
          let r := blockWords c b lo hi (chunks 4 bytes) (chunks 4 pois) (s.mergeRead c lo hi).1
          let merged := ((s.mergeRead c lo hi).2.1.zipIdx).map (fun y =>
            if r.2.2.contains y.2 then mergeBytes y.1 (ofBytes (nth (chunks 4 bytes) y.2)) (wordMask lo hi y.2) else y.1)
          (r.1.withMem (r.1.mem.setManifest c.key (s.mem.manifest c.key ^^^ crc32c (wordsToBytes (s.mergeRead c lo hi).2.1) ^^^ crc32c (wordsToBytes merged))), r.2.1)) :=
  rfl

theorem State.aside_writeBlock (c : CellRef) (b lo hi : Nat) (bytes : List Byte) (pois : List Bool) (man : Word) :
    (s.aside f o).writeBlock c b lo hi bytes pois man =
      ((s.writeBlock c b lo hi bytes pois man).1.aside f o, (s.writeBlock c b lo hi bytes pois man).2) := by
  rw [State.writeBlock_eq, State.writeBlock_eq, aside_blockWords f o s, State.aside_mergeRead]
  dsimp -zeta only
  rw [aside_blockWords, State.aside_manifestBad]
  split
  · split <;> rfl
  · split
    · rfl
    · rw [show (s.aside f o).mem = s.mem from rfl]
      split <;> rfl

/-- A write to memory writes the same bytes whatever the flash holds. -/
theorem State.aside_writeAt (hub : Bool) (a : Nat) (data : List Byte) (pois : List Bool) (mans : List Word) :
    (s.aside f o).writeAt hub a data pois mans =
      { s.writeAt hub a data pois mans with st := (s.writeAt hub a data pois mans).st.aside f o } := by
  unfold State.writeAt
  extract_lets n one
  have hone (t : State) (hub : Bool) (dst b j : Nat) : one (t.aside f o) hub dst b j = ((one t hub dst b j).1.aside f o, (one t hub dst b j).2) := by
    dsimp only [one]
    rw [show (t.aside f o).cellOf hub dst = t.cellOf hub dst from rfl]
    cases t.cellOf hub dst with
    | none => rfl
    | some c =>
      dsimp only
      rw [State.aside_stackCount, State.aside_writeBlock]
  refine List.foldl_hom (fun w : Write => { w with st := w.st.aside f o }) (init := ⟨s, none, none⟩) fun w bj => ?_
  obtain ⟨t, err, werr⟩ := w
  cases err with
  | some e => rfl
  | none =>
    dsimp only
    rw [hone]
    cases (one t hub bj.1 bj.1 bj.2).2.1 with
    | some e => rfl
    | none =>
      dsimp only
      rw [show (t.aside f o).promoted bj.1 = t.promoted bj.1 from rfl]
      cases t.promoted bj.1 with
      | none => rfl
      | some d =>
        dsimp only
        rw [hone]
        split
        · rw [State.aside_pageDemote]
        · rfl

/-- What a raw command writes to its buffer is the same whatever the flash holds. -/
theorem State.aside_rawPut (a : Nat) (l : List Byte) (pois : Bool) : ((s.aside f o).rawPut a l pois).mem.data = (s.rawPut a l pois).mem.data := by
  unfold State.rawPut
  rw [State.settle_data, State.settle_data, State.aside_writeAt]
  rfl

end Aside

/-! ### How a raw command ends (R262) -/

section RawEnd
variable (s : State) (c : Chan) {r : Nat}

theorem State.rawEnd_regs (r : Nat) : RegsKept ([.FLC_RAW_STAT c, .FLC_EVT c] ++ signalRegs) s (s.rawEnd c r) := by
  have htold := State.flcEvt_regs ((s.fset (.FLC_RAW_STAT c) F.FLC_RAW_STAT_STATE (if r = 0 then 2 else 3)).fset (.FLC_RAW_STAT c) F.FLC_RAW_STAT_RESULT r)
    c.val F.FLC_EVT_RAW_DONE
  rw [show chan c.val = c from Fin.ofNat_val_self c] at htold
  exact ((RegsKept.fset _ _ (by simp)).trans (RegsKept.fset _ _ (by simp))).trans (htold.mono (by simp +contextual))

theorem State.rawEnd_flash (r : Nat) : (s.rawEnd c r).flash = s.flash := (State.flcEvt_rest _ _ _).1

theorem State.rawEnd_mem (r : Nat) : (s.rawEnd c r).mem = s.mem := by
  unfold State.rawEnd State.flcEvt
  rw [(Signals.setLine _ _ _).1]
  rfl

/-- A field of FLC_RAW_STAT beside STATE and RESULT stands. -/
theorem State.rawEnd_field (r : Nat) {f : Fld} (hf : 6 ≤ f.lo) : (s.rawEnd c r).fget (.FLC_RAW_STAT c) f = s.fget (.FLC_RAW_STAT c) f := by
  unfold State.rawEnd
  rw [(State.flcEvt_regs _ _ _).fget (by simp [signalRegs]), State.fget_fset_field _ _ _ _ _ (by decide) (.inr (show 2 + 4 ≤ f.lo from hf)),
    State.fget_fset_field _ _ _ _ _ (by decide) (.inr (Nat.le_trans (show 0 + 2 ≤ 6 by decide) hf))]

theorem State.rawEnd_ends (hr : r < 16) : RawEnds c r (s.rawEnd c r) := by
  refine ⟨?_, ?_, ?_, State.flcEvt_line _ _ _⟩
  · unfold State.rawEnd
    rw [(State.flcEvt_regs _ _ _).fget (by simp [signalRegs]), State.fget_fset_field _ _ _ _ _ (by decide) (by decide), State.fget_fset_same _ _ _ _ (by decide)]
    split <;> rfl
  · unfold State.rawEnd
    rw [(State.flcEvt_regs _ _ _).fget (by simp [signalRegs]), State.fget_fset_same _ _ _ _ (by decide)]
    exact Nat.mod_eq_of_lt hr
  · exact State.flcEvt_shows _ c (by decide)

end RawEnd

/-! ### Issue, refusal and waiting -/

section RawIssue
variable {c : Chan} {t : Ticket} {s : State}

/-- A raw command that may be issued at once is performed (R234, R244, R262). -/
theorem State.raw_performs (h : RawIssues c s) (op : RawOp) : s.raw c false t op = s.rawPerform c ⟨op, s.rawAddr c, rawTicket t⟩ := by
  obtain ⟨hdie, hidle, hmount, hopen, hlun, hfence, hfree, hroom, hnext⟩ := h
  have hcan : s.canIssue c.val (.raw ⟨op, s.rawAddr c, rawTicket t⟩) = true := by simp [State.canIssue, State.cmdLun, hfree, hroom]
  unfold State.raw
  dsimp only
  rw [if_neg (by simp [hdie, hidle]), if_neg (by simpa [Nat.not_lt.mpr hmount, hopen, Option.isSome_iff_ne_none] using hlun),
    if_pos ⟨hcan, by simp [State.chanFree, hnext]⟩]

theorem State.raw_ignored (stop : Bool) (op : RawOp) (h : s.dieFenced 9 = true ∨ s.fget (.FLC_RAW_STAT c) F.FLC_RAW_STAT_STATE = 1) :
    s.raw c stop t op = s := by
  unfold State.raw
  dsimp only
  rw [if_pos (by simpa using h)]

theorem State.raw_refused (stop : Bool) (op : RawOp) (hdie : s.dieFenced 9 = false) (hidle : s.fget (.FLC_RAW_STAT c) F.FLC_RAW_STAT_STATE ≠ 1)
    (hopen : s.isOpen c.val (s.rawAddr c).lun = false) : s.raw c stop t op = s.rawEnd c 1 := by
  unfold State.raw
  dsimp only
  rw [if_neg (by simp [hdie, hidle]), if_pos (by simp [hopen])]

theorem State.raw_fenced (op : RawOp) (hdie : s.dieFenced 9 = false) (hidle : s.fget (.FLC_RAW_STAT c) F.FLC_RAW_STAT_STATE ≠ 1)
    (hopen : s.isOpen c.val (s.rawAddr c).lun = true) (hmount : 3 ≤ s.fget .FLC_MOUNT F.FLC_MOUNT_STATE)
    (hlun : (s.flash.luns.at (c.val * 32 + (s.rawAddr c).lun)).isSome = true) (hfence : s.lunFenced c.val (s.rawAddr c).lun = true)
    (hnext : s.nextCmd c.val = none) : s.raw c false t op = s.rawEnd c 5 := by
  have hcan : s.canIssue c.val (.raw ⟨op, s.rawAddr c, rawTicket t⟩) = true := by simp [State.canIssue, State.cmdLun, hfence]
  unfold State.raw
  dsimp only
  rw [if_neg (by simp [hdie, hidle]), if_neg (by simpa [Nat.not_lt.mpr hmount, hopen, Option.isSome_iff_ne_none] using hlun),
    if_pos ⟨hcan, by simp [State.chanFree, hnext]⟩]
  unfold State.rawPerform
  dsimp only
  rw [if_pos (by simp [hfence])]

theorem State.raw_waits (op : RawOp) (hdie : s.dieFenced 9 = false) (hidle : s.fget (.FLC_RAW_STAT c) F.FLC_RAW_STAT_STATE ≠ 1)
    (hopen : s.isOpen c.val (s.rawAddr c).lun = true) (hmount : 3 ≤ s.fget .FLC_MOUNT F.FLC_MOUNT_STATE)
    (hlun : (s.flash.luns.at (c.val * 32 + (s.rawAddr c).lun)).isSome = true) (hfence : s.lunFenced c.val (s.rawAddr c).lun = false)
    (hbusy : s.lunIdle c.val (s.rawAddr c).lun = false) : s.raw c false t op =
      (s.flashQueue c.val (.raw ⟨op, s.rawAddr c, rawTicket t⟩)).fset (.FLC_RAW_STAT c) F.FLC_RAW_STAT_STATE 1 := by
  have hcan : s.canIssue c.val (.raw ⟨op, s.rawAddr c, rawTicket t⟩) = false := by simp [State.canIssue, State.cmdLun, hfence, hbusy]
  unfold State.raw
  dsimp only
  rw [if_neg (by simp [hdie, hidle]), if_neg (by simpa [Nat.not_lt.mpr hmount, hopen, Option.isSome_iff_ne_none] using hlun), if_neg (by simp [hcan])]

end RawIssue

/-! ### Each raw command -/

/-- What a raw command tells its LUN leaves the registers. -/
theorem State.onfi_kept (s : State) (k l : Nat) (ops : List (List Nat)) (p : List Reg) : RegsKept p s (s.onfi k l ops) := fun r _ => by
  rw [State.rget, State.onfi_regs]
  rfl

theorem State.onfi_mem (s : State) (k l : Nat) (ops : List (List Nat)) : (s.onfi k l ops).mem = s.mem := by rw [State.onfi_eq]

theorem State.rawPut_acts (s : State) (a : Nat) (l : List Byte) (pois : Bool) : MemoryActs s (s.rawPut a l pois) :=
  (MemoryActs.writeAt _ _ _ _ _ _).trans (.settle _)

theorem State.rawPut_flash (s : State) (a : Nat) (l : List Byte) (pois : Bool) : (s.rawPut a l pois).flash = s.flash := by
  rw [(s.rawPut_acts a l pois).rest]

theorem State.onfi_rawPut_data (s : State) (k l : Nat) (ops : List (List Nat)) (a : Nat) (bytes : List Byte) :
    ((s.onfi k l ops).rawPut a bytes false).mem.data = (s.rawPut a bytes false).mem.data := by
  rw [State.onfi_eq]
  exact State.aside_rawPut _ _ s a bytes false

/-- What a LUN's reset does before its parameter page is read again: it applies no offsets any more. -/
def State.lunReset (s : State) (c : Chan) : State :=
  (s.onfi c.val (s.rawAddr c).lun [[0xFA]]).flashUpd (fun f => { f with applied := f.applied.put (s.rawAddr c).lunKey [] })

section RawCommand
variable {c : Chan} {t : Ticket} {s : State} (h : RawIssues c s)
include h

theorem RawIssues.perform (op : RawOp) : s.raw c false t op = (match op with
    | .readPage raw units errs => s.rawRead c ⟨op, s.rawAddr c, rawTicket t⟩ raw units errs
    | .program raw pass => s.rawProgram c ⟨op, s.rawAddr c, rawTicket t⟩ raw pass
    | .erase pass => s.rawErase c ⟨op, s.rawAddr c, rawTicket t⟩ pass
    | .status b => ((s.onfi c.val (s.rawAddr c).lun [[0x78]]).fset (.FLC_RAW_STAT c) F.FLC_RAW_STAT_STATUS b.toNat).rawEnd c 0
    | .getFeatures _ p => ((s.onfi c.val (s.rawAddr c).lun [[0xD4]]).rset (.FLC_RAW_PARAM c) p).rawEnd c 0
    | .setFeatures _ => (s.onfi c.val (s.rawAddr c).lun [[0xD5]]).rawEnd c 0
    | .readId l => ((s.onfi c.val (s.rawAddr c).lun [[0x90]]).rawPut (s.rawBuf c) l false).rawEnd c 0
    | .paramPage l => ((s.onfi c.val (s.rawAddr c).lun [[0xEC]]).rawPut (s.rawBuf c) l false).rawEnd c 0
    | .reset same ok =>
      let s1 := (s.onfi c.val (s.rawAddr c).lun [[0xFA]]).flashUpd (fun f => { f with applied := f.applied.put (s.rawAddr c).lunKey [] })
      if same then s1.rawEnd c 0 else (s1.lunFence c.val (s.rawAddr c).lun ok).rawEnd c 5) := by
  have hfence : s.lunFenced c.val (s.rawAddr c).lun = false := h.2.2.2.2.2.1
  rw [State.raw_performs h]
  unfold State.rawPerform
  dsimp -zeta only
  extract_lets a op'
  rw [if_neg (by simp [a, hfence])]
  cases op <;> rfl

theorem exec_rawReadStatus_ends (b : Byte) : ∃ u, exec (.rawReadStatus c t b) s = .next u ∧ RawEnds c 0 u ∧
    u.fget (.FLC_RAW_STAT c) F.FLC_RAW_STAT_STATUS = b.toNat ∧
    RegsKept ([.FLC_RAW_STAT c, .FLC_EVT c] ++ signalRegs) s u ∧ u.mem = s.mem := by
  refine ⟨_, congrArg Host.Outcome.next (RawIssues.perform (t := t) h (.status b)), State.rawEnd_ends _ c (by decide), ?_, ?_, ?_⟩
  · rw [State.rawEnd_field _ _ _ (by decide), State.fget_fset_same _ _ _ _ (by decide)]
    exact Nat.mod_eq_of_lt b.isLt
  · exact ((State.onfi_kept s _ _ _ _).trans (RegsKept.fset _ _ (by simp))).trans (State.rawEnd_regs _ c _)
  · exact (State.rawEnd_mem _ _ _).trans (State.onfi_mem _ _ _ _)

theorem exec_rawGetFeatures_ends (f : Byte) (p : Word) (hf : s.profile.offsetFeature f.toNat = false) : ∃ u, exec (.rawGetFeatures c f t p) s = .next u ∧
    RawEnds c 0 u ∧ u.rget (.FLC_RAW_PARAM c) = p ∧ RegsKept ([.FLC_RAW_PARAM c, .FLC_RAW_STAT c, .FLC_EVT c] ++ signalRegs) s u := by
  have hexec : exec (.rawGetFeatures c f t p) s = .next (s.raw c false t (.getFeatures f.toNat p)) := by rw [← hf]; rfl
  rw [hexec]
  refine ⟨_, congrArg Host.Outcome.next (RawIssues.perform (t := t) h (.getFeatures f.toNat p)), State.rawEnd_ends _ c (by decide), ?_, ?_⟩
  · exact (State.rawEnd_regs _ c 0 _ (by simp [signalRegs])).trans (State.rget_rset_same _ _ _)
  · exact ((State.onfi_kept s _ _ _ _).trans (RegsKept.rset _ (by simp))).trans ((State.rawEnd_regs _ c _).mono (by simp +contextual))

theorem exec_rawSetFeatures_ends (f : Byte) (hf : s.profile.offsetFeature f.toNat = false) : ∃ u, exec (.rawSetFeatures c f t) s = .next u ∧
    RawEnds c 0 u ∧ RegsKept ([.FLC_RAW_STAT c, .FLC_EVT c] ++ signalRegs) s u ∧ u.mem = s.mem := by
  have hexec : exec (.rawSetFeatures c f t) s = .next (s.raw c false t (.setFeatures f.toNat)) := by rw [← hf]; rfl
  rw [hexec]
  refine ⟨_, congrArg Host.Outcome.next (RawIssues.perform (t := t) h (.setFeatures f.toNat)), State.rawEnd_ends _ c (by decide), ?_, ?_⟩
  · exact (State.onfi_kept s _ _ _ _).trans (State.rawEnd_regs _ c _)
  · exact (State.rawEnd_mem _ _ _).trans (State.onfi_mem _ _ _ _)

omit h in
/-- What a raw command that fetches bytes leaves: they stand in its buffer. -/
theorem State.rawFetches (s : State) (c : Chan) (k l : Nat) (ops : List (List Nat)) (a : Nat) (bytes : List Byte) :
    RawEnds c 0 (((s.onfi k l ops).rawPut a bytes false).rawEnd c 0) ∧
      (((s.onfi k l ops).rawPut a bytes false).rawEnd c 0).mem.data = (s.rawPut a bytes false).mem.data ∧
      RegsKept ([.FLC_RAW_STAT c, .FLC_EVT c] ++ memoryRegs) s (((s.onfi k l ops).rawPut a bytes false).rawEnd c 0) := by
  refine ⟨State.rawEnd_ends _ c (by decide), ?_, ?_⟩
  · rw [State.rawEnd_mem]
    exact s.onfi_rawPut_data _ _ _ _ _
  · have hsignal : ∀ r ∈ signalRegs, r ∈ memoryRegs := by simp +contextual [memoryRegs]
    have hend := (State.rawEnd_regs ((s.onfi k l ops).rawPut a bytes false) c 0).mono (q := [.FLC_RAW_STAT c, .FLC_EVT c] ++ memoryRegs)
      (fun r hr => (List.mem_append.mp hr).elim (List.mem_append_left _) (fun hr => List.mem_append_right _ (hsignal r hr)))
    exact ((State.onfi_kept s _ _ _ _).trans ((State.rawPut_acts _ _ _ _).regs.mono (by simp +contextual))).trans hend

theorem exec_rawReadId_ends (l : List Byte) : ∃ u, exec (.rawReadId c t l) s = .next u ∧ RawEnds c 0 u ∧
    u.mem.data = (s.rawPut (s.rawBuf c) l false).mem.data ∧ RegsKept ([.FLC_RAW_STAT c, .FLC_EVT c] ++ memoryRegs) s u :=
  ⟨_, congrArg Host.Outcome.next (RawIssues.perform (t := t) h (.readId l)), State.rawFetches s c _ _ _ _ _⟩

theorem exec_rawReadParameterPage_ends (l : List Byte) : ∃ u, exec (.rawReadParameterPage c t l) s = .next u ∧ RawEnds c 0 u ∧
    u.mem.data = (s.rawPut (s.rawBuf c) l false).mem.data ∧ RegsKept ([.FLC_RAW_STAT c, .FLC_EVT c] ++ memoryRegs) s u :=
  ⟨_, congrArg Host.Outcome.next (RawIssues.perform (t := t) h (.paramPage l)), State.rawFetches s c _ _ _ _ _⟩

/-- A reset of a LUN that keeps its parameter page ends the command well. -/
theorem exec_rawResetLun_same (ok : Bool) : ∃ u, exec (.rawResetLun c t true ok) s = .next u ∧ RawEnds c 0 u ∧
    RegsKept ([.FLC_RAW_STAT c, .FLC_EVT c] ++ signalRegs) s u := by
  have hraw : s.raw c false t (.reset true ok) = (s.lunReset c).rawEnd c 0 := (RawIssues.perform h (.reset true ok)).trans (if_pos rfl)
  have hreset : RegsKept ([.FLC_RAW_STAT c, .FLC_EVT c] ++ signalRegs) s (s.lunReset c) := State.onfi_kept s _ _ _ _
  exact ⟨_, congrArg Host.Outcome.next hraw, State.rawEnd_ends _ c (by decide), hreset.trans (State.rawEnd_regs _ c _)⟩

/-- A reset after which the parameter page differs fences the LUN (R236). -/
theorem exec_rawResetLun_differs (ok : Bool) (hused : bitAt (s.fget (.FLC_LUN c) F.FLC_LUN_USED) (s.rawAddr c).lun = true) (hlun : (s.rawAddr c).lun < 32) :
    ∃ u, exec (.rawResetLun c t false ok) s = .next u ∧ RawEnds c 5 u ∧
      bitAt (u.fget (.FLC_LUN_FENCE c) F.FLC_LUN_FENCE_FENCED) (s.rawAddr c).lun = true := by
  have hraw : s.raw c false t (.reset false ok) = ((s.lunReset c).lunFence c.val (s.rawAddr c).lun ok).rawEnd c 5 :=
    (RawIssues.perform h (.reset false ok)).trans (if_neg Bool.false_ne_true)
  have hsame (r : Reg) (f : Fld) : (s.lunReset c).fget r f = s.fget r f :=
    State.fget_of_rget (State.onfi_kept s c.val (s.rawAddr c).lun [[0xFA]] [] r (by simp)) f
  have hfence : (s.lunReset c).lunFenced c.val (s.rawAddr c).lun = false := by
    rw [← h.2.2.2.2.2.1]
    unfold State.lunFenced State.chanRuns State.dieFenced
    rw [hsame, hsame, hsame]
  obtain ⟨u, hexec, hbit, -⟩ := exec_lunTimeout_fences (c := c) (lun := ⟨(s.rawAddr c).lun, hlun⟩) (ok := ok) hfence (by rw [hsame]; exact hused)
  obtain rfl : (s.lunReset c).lunFence c.val (s.rawAddr c).lun ok = u := Host.Outcome.next.inj hexec
  refine ⟨_, congrArg Host.Outcome.next hraw, State.rawEnd_ends _ c (by decide), ?_⟩
  rw [(State.rawEnd_regs _ c 5).fget (by simp [signalRegs])]
  exact hbit

end RawCommand

/-! ### RAW_ERASE_BLOCK (R249, R250) -/

section RawErase
variable {c : Chan} {t : Ticket} {s : State} (h : RawIssues c s)

/-- A block whose program or erase failed is bad, and the channel's event shows it (R249). -/
def State.rawFails (s : State) (c : Chan) (blk : Nat) (count ev : Fld) : State :=
  ((s.cnt (.FLC_FAIL c) count 1).blockUpd blk (fun b => { b with bad := 2 })).flcEvt c.val ev

theorem State.rawFails_shows (s : State) (c : Chan) (blk : Nat) (count : Fld) {ev : Fld} (hev : ev ∈ flcEvents) {r : Nat} (hr : r < 16) :
    RawEnds c r ((s.rawFails c blk count ev).rawEnd c r) ∧ (((s.rawFails c blk count ev).rawEnd c r).flash.blocks.at blk).bad = 2 ∧
      ((s.rawFails c blk count ev).rawEnd c r).bget (.FLC_EVT c) ev = true ∧ ((s.rawFails c blk count ev).rawEnd c r).flash.codes = s.flash.codes := by
  have hflash : ((s.rawFails c blk count ev).rawEnd c r).flash = { s.flash with blocks := s.flash.blocks.upd blk (fun b => { b with bad := 2 }) } := by
    rw [State.rawEnd_flash, State.rawFails, (State.flcEvt_rest _ _ _).1]
    rfl
  refine ⟨State.rawEnd_ends _ c hr, ?_, ?_, ?_⟩
  · rw [hflash]
    show ((s.flash.blocks.upd blk (fun b => { b with bad := 2 })).at blk).bad = 2
    rw [Tab.at_upd_same]
  · exact (LunActs.rawEnd _ c r).evts c ev hev (State.flcEvt_shows _ c hev)
  · rw [hflash]

include h

theorem exec_rawEraseBlock_passes : ∃ u, exec (.rawEraseBlock c t true) s = .next u ∧ RawEnds c 0 u ∧ (u.flash.blocks.at (s.rawAddr c).blk).prog = [] ∧
    (∀ x ∈ u.flash.codes, x.1 / 131072 ≠ (s.rawAddr c).blk) ∧ (∀ b, b ≠ (s.rawAddr c).blk → u.flash.blocks.at b = s.flash.blocks.at b) := by
  have hraw : s.raw c false t (.erase true) = ((s.onfi c.val (s.rawAddr c).lun onfiErase).eraseBlock (s.rawAddr c).blk).rawEnd c 0 :=
    RawIssues.perform h (.erase true)
  have hblocks : (((s.onfi c.val (s.rawAddr c).lun onfiErase).eraseBlock (s.rawAddr c).blk).rawEnd c 0).flash.blocks =
      s.flash.blocks.upd (s.rawAddr c).blk (fun x => { x with pe := min (x.pe + 1) (2 ^ 24 - 1), reads := 0, prog := [], refresh := false }) := by
    rw [State.rawEnd_flash, State.eraseBlock_blocks, State.onfi_flash]
  refine ⟨_, congrArg Host.Outcome.next hraw, State.rawEnd_ends _ c (by decide), ?_, ?_, fun b hb => ?_⟩
  · rw [hblocks, Tab.at_upd_same]
  · rw [State.rawEnd_flash]
    intro x hx
    simpa using (List.mem_filter.mp hx).2
  · rw [hblocks, Tab.at_upd, if_neg hb]

theorem exec_rawEraseBlock_fails : ∃ u, exec (.rawEraseBlock c t false) s = .next u ∧ RawEnds c 3 u ∧ (u.flash.blocks.at (s.rawAddr c).blk).bad = 2 ∧
    u.bget (.FLC_EVT c) F.FLC_EVT_ERS_FAIL = true ∧ u.flash.codes = s.flash.codes := by
  have hraw : s.raw c false t (.erase false) =
      ((s.onfi c.val (s.rawAddr c).lun onfiErase).rawFails c (s.rawAddr c).blk F.FLC_FAIL_ERS F.FLC_EVT_ERS_FAIL).rawEnd c 3 := RawIssues.perform h (.erase false)
  obtain ⟨hends, hbad, hevt, hcodes⟩ := State.rawFails_shows (s.onfi c.val (s.rawAddr c).lun onfiErase) c (s.rawAddr c).blk F.FLC_FAIL_ERS
    (ev := F.FLC_EVT_ERS_FAIL) (by decide) (r := 3) (by decide)
  exact ⟨_, congrArg Host.Outcome.next hraw, hends, hbad, hevt, by rw [hcodes, State.onfi_flash]⟩

end RawErase

/-! ### RAW_PROGRAM_PAGE (R202, R249) -/

section RawProgram
variable {c : Chan} {t : Ticket} {s : State}

theorem State.rawFetch_flash (s : State) (c : Chan) (n : Nat) : (s.rawFetch c n).st.flash = s.flash := by
  have hacts : MemoryActs s (s.rawFetch c n).st := (MemoryActs.hubPass _ _ _ _).trans ((MemoryActs.readAt _ _ _ _ _).trans (MemoryActs.settle _))
  rw [hacts.rest]

/-- A page that is programmed is among its block's programmed pages. -/
theorem State.programmed_page (s : State) (a : FAddr) : a.page ∈ ((s.programmed a).flash.blocks.at a.blk).prog := by
  show a.page ∈ ((s.flash.blocks.upd a.blk (fun b => { b with prog := if b.prog.contains a.page then b.prog else b.prog ++ [a.page] })).at a.blk).prog
  rw [Tab.at_upd_same]
  dsimp only
  split
  · next hmem => simpa using hmem
  · exact List.mem_append_right _ (List.mem_singleton.mpr rfl)

/-- Unit `i` of a page that is encoded from the bytes and poison flags of a buffer (R202, R262). -/
def rawCode (r : Read) (i : Nat) : Code :=
  let b := (r.bytes.drop (4160 * i)).take 4160
  let p := (r.pois.drop (4160 * i)).take 4160
  ⟨b.take 4096, (List.range 16).map (fun j =>
    if ((p.drop (256 * j)).take 256).any id then ~~~ crc32c ((b.drop (256 * j)).take 256) else wordOf (leNat b (4096 + 4 * j) 4))⟩

/-- The units of a page, put one after the other, all stand. -/
theorem at_foldl_put_units (key : Nat) (f : Nat → Option Code) (t : Tab (Option Code)) {k i : Nat} (hi : i < k) :
    ((List.range k).foldl (fun t i => t.put (key * 8 + i) (f i)) t).at (key * 8 + i) = f i := by
  induction k with
  | zero => exact absurd hi (by omega)
  | succ k ih =>
    rw [List.range_succ, List.foldl_append]
    dsimp only [List.foldl_cons, List.foldl_nil]
    rcases Nat.lt_succ_iff_lt_or_eq.mp hi with hlt | rfl
    · rw [Tab.at_put_other _ _ (by omega)]
      exact ih hlt
    · exact Tab.at_put_same _ _ _

variable (h : RawIssues c s)
include h

theorem exec_rawProgramPage_fails (raw : Bool) : ∃ u, exec (.rawProgramPage c raw t false) s = .next u ∧ RawEnds c 2 u ∧
    (u.flash.blocks.at (s.rawAddr c).blk).bad = 2 ∧ u.bget (.FLC_EVT c) F.FLC_EVT_PGM_FAIL = true ∧ u.flash.codes = s.flash.codes := by
  have hraw : s.raw c false t (.program raw false) = s.rawProgram c ⟨.program raw false, s.rawAddr c, rawTicket t⟩ raw false := RawIssues.perform h (.program raw false)
  unfold State.rawProgram at hraw
  extract_lets a key k r s1 unit at hraw
  rw [if_pos (by decide)] at hraw
  obtain ⟨hends, hbad, hevt, hcodes⟩ := State.rawFails_shows s1 c (s.rawAddr c).blk F.FLC_FAIL_PGM
    (ev := F.FLC_EVT_PGM_FAIL) (by decide) (r := 2) (by decide)
  refine ⟨_, congrArg Host.Outcome.next hraw, hends, hbad, hevt, hcodes.trans ?_⟩
  dsimp only [s1, r]
  rw [State.onfi_flash, State.rawFetch_flash]

theorem exec_rawProgramPage_raw {g : LunGeo} (hlun : s.flash.luns.at (s.rawAddr c).lunKey = some g) :
    ∃ u, exec (.rawProgramPage c true t true) s = .next u ∧ RawEnds c 0 u ∧ (s.rawAddr c).page ∈ (u.flash.blocks.at (s.rawAddr c).blk).prog ∧
      u.flash.raws.at ((s.rawAddr c).blk * 16384 + (s.rawAddr c).page) = some (s.rawFetch c g.pageBytes).bytes := by
  have hraw : s.raw c false t (.program true true) = s.rawProgram c ⟨.program true true, s.rawAddr c, rawTicket t⟩ true true := RawIssues.perform h (.program true true)
  unfold State.rawProgram at hraw
  extract_lets a key k r s1 unit at hraw
  rw [if_neg (by simp), if_pos rfl] at hraw
  have hr : r = s.rawFetch c g.pageBytes := by
    dsimp only [r, a]
    rw [if_pos rfl, hlun]
    rfl
  refine ⟨_, congrArg Host.Outcome.next hraw, State.rawEnd_ends _ c (by decide), ?_, ?_⟩
  · rw [State.rawEnd_flash]
    exact State.programmed_page _ _
  · rw [State.rawEnd_flash]
    exact (Tab.at_put_same s1.flash.raws key (some r.bytes)).trans (by rw [hr])

theorem exec_rawProgramPage_encodes {g : LunGeo} (hlun : s.flash.luns.at (s.rawAddr c).lunKey = some g) :
    ∃ u, exec (.rawProgramPage c false t true) s = .next u ∧ RawEnds c 0 u ∧ (s.rawAddr c).page ∈ (u.flash.blocks.at (s.rawAddr c).blk).prog ∧
      ∀ i, i < g.k → ((u.flash.codes.at (((s.rawAddr c).blk * 16384 + (s.rawAddr c).page) * 8 + i)).map (·.data)) =
        some (((((s.rawFetch c (4160 * g.k)).bytes).drop (4160 * i)).take 4160).take 4096) := by
  have hk : s.lunK (s.rawAddr c).lunKey = g.k := by rw [State.lunK, hlun]; rfl
  have hraw : s.raw c false t (.program false true) = s.rawProgram c ⟨.program false true, s.rawAddr c, rawTicket t⟩ false true := RawIssues.perform h (.program false true)
  unfold State.rawProgram at hraw
  extract_lets a key k r s1 unit at hraw
  rw [if_neg (by simp), if_neg (by simp)] at hraw
  have hr : r = s.rawFetch c (4160 * g.k) := by
    dsimp only [r, k, a]
    rw [if_neg (by simp), hk]
  refine ⟨_, congrArg Host.Outcome.next hraw, State.rawEnd_ends _ c (by decide), ?_, fun i hi => ?_⟩
  · rw [State.rawEnd_flash]
    exact State.programmed_page _ _
  · rw [State.rawEnd_flash]
    have hat := at_foldl_put_units key (fun i => some (rawCode r i)) s1.flash.codes (show i < k from hi.trans_eq hk.symm)
    exact (congrArg (Option.map Code.data) hat).trans (by rw [hr]; rfl)

end RawProgram

/-! ### RAW_READ_PAGE (R243, R248) -/

section RawRead
variable {c : Chan} {t : Ticket} {s : State}

/-- No stage of a raw page's decode changes a codeword. -/
theorem State.rawStages_codes (a : FAddr) (offs : List Int) (fuel : Nat) : ∀ (s : State) (stage : Nat) (decs : List Decoded),
    (s.rawStages a offs fuel stage decs).1.flash.codes = s.flash.codes := by
  induction fuel with
  | zero => exact fun _ _ _ => rfl
  | succ f ih =>
    intro s stage decs
    have hon (s1 : State) (h1 : s1.flash.codes = s.flash.codes) : (match nextStage s.profile.ladderLen stage with
        | some st => (s1.stageReads a st offs).rawStages a offs f st decs.tail
        | none => (s1.unitLost a.chan, false)).1.flash.codes = s.flash.codes := by
      cases nextStage s.profile.ladderLen stage with
      | some st => exact (ih _ _ _).trans (by rw [(s1.stageReads_told a st offs).1.flash]; exact h1)
      | none =>
        dsimp only
        rw [State.unitLost, (State.flcEvt_rest _ _ _).1]
        exact h1
    unfold State.rawStages
    cases decs.headD (.failed 0) with
    | failed n => exact hon s rfl
    | converged w n clean =>
      have hconv : (s.decodeConverged a stage w n).flash.codes = s.flash.codes := by rw [(s.decodeConverged_acts a stage w n).1]
      rw [State.decodeStage_converged]
      by_cases hgood : (clean && ((s.codeAt a).poisoned || (s.codeAt a).clean)) = true
      · rw [if_pos hgood]
        exact ((DecodeActs.stageDeliver _ _ _).codes.trans (DecodeActs.loopDeliver _ _ _ _ _).codes).trans hconv
      · rw [if_neg hgood]
        exact hon _ hconv

theorem State.rawUnit_codes (s : State) (c : Chan) (t : Nat) (offs : List Int) (a : FAddr) (u : RawUnit) :
    (s.rawUnit c t offs a u).1.flash.codes = s.flash.codes := by
  have hcount : (s.tick.countRead (41 + c.val) t 0 s.freeTime).flash.codes = s.flash.codes := by
    rw [(State.countRead_acts _ _ _ _ _).1]
    rfl
  unfold State.rawUnit
  dsimp only
  rw [State.rawPut_flash]
  split
  · exact (State.rawStages_codes _ _ _ _ _ _).trans hcount
  · exact hcount

variable (h : RawIssues c s)
include h

theorem exec_rawReadPage_raw (units : List RawUnit) (bytes : List Byte) : ∃ u, exec (.rawReadPage c true t units bytes) s = .next u ∧ RawEnds c 0 u ∧
    (u.flash.blocks.at (s.rawAddr c).blk).reads = (s.flash.blocks.at (s.rawAddr c).blk).reads + 1 ∧
    u.mem.data = (s.rawPut (s.rawBuf c) ((s.pageBytes (s.rawAddr c)).zipIdx.map (fun x => x.1 ^^^ nth bytes x.2)) false).mem.data ∧
    u.flash.codes = s.flash.codes := by
  let l := (s.pageBytes (s.rawAddr c)).zipIdx.map (fun x => x.1 ^^^ nth bytes x.2)
  let s0 := (s.onfi c.val (s.rawAddr c).lun onfiRead).blockUpd (s.rawAddr c).blk (fun b => { b with reads := b.reads + 1 })
  have hraw : s.raw c false t (.readPage true units bytes) = s.rawRead c ⟨.readPage true units bytes, s.rawAddr c, rawTicket t⟩ true units bytes :=
    RawIssues.perform h (.readPage true units bytes)
  have hread : s.rawRead c ⟨.readPage true units bytes, s.rawAddr c, rawTicket t⟩ true units bytes = (s0.rawPut (s.rawBuf c) l false).rawEnd c 0 := by
    unfold State.rawRead
    extract_lets
    rw [if_pos rfl]
    rfl
  rw [hread] at hraw
  have hs0 : s0.flash = { s.flash with cmds := s0.flash.cmds, blocks := s.flash.blocks.upd (s.rawAddr c).blk (fun b => { b with reads := b.reads + 1 }) } := by
    dsimp only [s0, State.blockUpd, State.flashUpd]
    rw [State.onfi_flash]
  have hflash : ((s0.rawPut (s.rawBuf c) l false).rawEnd c 0).flash = s0.flash := by rw [State.rawEnd_flash, State.rawPut_flash]
  refine ⟨_, congrArg Host.Outcome.next hraw, State.rawEnd_ends _ c (by decide), ?_, ?_, ?_⟩
  · rw [hflash, hs0]
    dsimp only
    rw [Tab.at_upd_same]
  · rw [State.rawEnd_mem]
    have hs : s0 = s.aside s0.flash s0.outbox := by
      dsimp only [s0]
      rw [State.onfi_eq]
      rfl
    rw [hs]
    exact State.aside_rawPut _ _ s _ _ _
  · rw [hflash, hs0]

theorem exec_rawReadPage_decodes (units : List RawUnit) (bytes : List Byte) {g : LunGeo} (hlun : s.flash.luns.at (s.rawAddr c).lunKey = some g) :
    ∃ u, exec (.rawReadPage c false t units bytes) s = .next u ∧ u.flash.codes = s.flash.codes ∧
      ((RawEnds c 0 u ∧ u.fget (.FLC_RAW_STAT c) F.FLC_RAW_STAT_CW_OK = 2 ^ g.k - 1) ∨ RawEnds c 4 u) := by
  have hk : s.lunK (s.rawAddr c).lunKey = g.k := by rw [State.lunK, hlun]; rfl
  have hraw : s.raw c false t (.readPage false units bytes) = s.rawRead c ⟨.readPage false units bytes, s.rawAddr c, rawTicket t⟩ false units bytes :=
    RawIssues.perform h (.readPage false units bytes)
  unfold State.rawRead at hraw
  dsimp -zeta only at hraw
  extract_lets a offs _ k s0 s1 r at hraw
  rw [if_neg (by simp)] at hraw
  have hs0 : s1.flash.codes = s.flash.codes := by
    show s0.flash.codes = _
    dsimp only [s0]
    rw [(s.stageReads_told a 0 offs).1.flash]
  have hr : r.1.flash.codes = s.flash.codes :=
    List.foldlRecOn (motive := fun x : State × Nat => x.1.flash.codes = s.flash.codes) _ _ hs0 fun x hx i _ => (State.rawUnit_codes _ _ _ _ _ _).trans hx
  refine ⟨_, congrArg Host.Outcome.next hraw, by rw [State.rawEnd_flash]; exact hr, ?_⟩
  by_cases hall : r.2 = 2 ^ k - 1
  · rw [if_pos hall]
    refine .inl ⟨State.rawEnd_ends _ c (by decide), ?_⟩
    rw [State.rawEnd_field _ _ _ (by decide), State.fget_fset_same _ _ _ _ (by decide), hall, show k = g.k from hk]
    have hpow : 2 ^ g.k ≤ 2 ^ 8 := Nat.pow_le_pow_right (by decide) g.k_le
    exact Nat.mod_eq_of_lt (show 2 ^ g.k - 1 < 2 ^ 8 by omega)
  · rw [if_neg hall]
    exact .inr (State.rawEnd_ends _ c (by decide))

end RawRead

/-! ### The statement -/

theorem rawCommandsComplete : RawCommandsComplete := fun _ _ _ h =>
  ⟨fun units bytes _ hlun => ⟨exec_rawReadPage_raw h units bytes, exec_rawReadPage_decodes h units bytes hlun⟩,
    fun _ hlun => ⟨exec_rawProgramPage_fails h, exec_rawProgramPage_raw h hlun, exec_rawProgramPage_encodes h hlun⟩,
    exec_rawEraseBlock_passes h, exec_rawEraseBlock_fails h, exec_rawReadStatus_ends h,
    fun f p hf => ⟨exec_rawGetFeatures_ends h f p hf, exec_rawSetFeatures_ends h f hf⟩,
    fun l => ⟨exec_rawReadId_ends h l, exec_rawReadParameterPage_ends h l⟩,
    fun ok => ⟨exec_rawResetLun_same h ok, exec_rawResetLun_differs h ok⟩⟩

/-- Each raw command is given to its channel; only one for a read-offset feature is stopped. -/
theorem exec_raw {c : Chan} {t : Ticket} {i : Instr} {raw pass ok : Bool} {f : Byte} {p : Word} {us : List RawUnit} {l : List Byte}
    (hi : i ∈ [Instr.rawReadPage c raw t us l, .rawProgramPage c raw t pass, .rawEraseBlock c t pass, .rawReadStatus c t f,
      .rawGetFeatures c f t p, .rawSetFeatures c f t, .rawReadId c t l, .rawReadParameterPage c t l, .rawResetLun c t pass ok]) (s : State) :
    ∃ stop op, exec i s = .next (s.raw c stop t op) ∧ (stop = true → s.profile.offsetFeature f.toNat = true) := by
  simp only [List.mem_cons, List.not_mem_nil, or_false] at hi
  rcases hi with rfl | rfl | rfl | rfl | rfl | rfl | rfl | rfl | rfl
  case inr.inr.inr.inr.inl => exact ⟨_, _, rfl, id⟩
  case inr.inr.inr.inr.inr.inl => exact ⟨_, _, rfl, id⟩
  all_goals exact ⟨false, _, rfl, nofun⟩

theorem rawCommandsRefused : RawCommandsRefused := by
  intro c t s i raw pass ok f p us l hi
  obtain ⟨stop, op, hexec, hstop⟩ := exec_raw hi s
  rw [hexec]
  refine ⟨fun h => congrArg _ (State.raw_ignored stop op h), fun hdie hidle => ⟨fun hopen => ?_, fun hopen hmount hlun hfence hoffset hnext => ?_⟩⟩
  · rw [State.raw_refused stop op hdie hidle hopen]
    exact ⟨_, rfl, State.rawEnd_ends _ c (by decide), State.rawEnd_flash _ _ _, State.rawEnd_regs _ _ _⟩
  · obtain rfl : stop = false := by
      cases stop with
      | false => rfl
      | true => exact absurd (hstop rfl) (by simp [hoffset])
    rw [State.raw_fenced op hdie hidle hopen hmount hlun hfence hnext]
    exact ⟨_, rfl, State.rawEnd_ends _ c (by decide), State.rawEnd_flash _ _ _⟩

theorem rawCommandsWait : RawCommandsWait := by
  refine ⟨fun c t b s hdie hidle hmount hopen hlun hfence hbusy => ?_, fun c s j i hnext x hx => ?_⟩
  · have hraw := State.raw_waits (t := t) (.status b) hdie hidle hopen hmount hlun hfence hbusy
    have hqueue := State.flashQueue_queue s c.val (.raw ⟨.status b, s.rawAddr c, rawTicket t⟩)
    have hlevel := (LevelActs.flashLevel (s.flashUpd (fun f => { f with queue := f.queue.upd c.val (· ++ [.raw ⟨.status b, s.rawAddr c, rawTicket t⟩]) })) c.val).regs
    rw [show chan c.val = c from Fin.ofNat_val_self c] at hlevel
    refine ⟨_, congrArg Host.Outcome.next hraw, ?_, State.fget_fset_same _ _ _ _ (by decide), ?_, ?_⟩
    · show (s.flashQueue c.val _).flash.queue.at c.val = _
      rw [hqueue]
      exact Tab.at_upd_same s.flash.queue c.val (· ++ [.raw ⟨.status b, s.rawAddr c, rawTicket t⟩])
    · show (s.flashQueue c.val _).flash.run = _
      rw [hqueue]
    · exact RegsKept.trans (t := s.flashQueue c.val _) (fun r hr => hlevel r (by simp_all)) (RegsKept.fset _ _ (by simp))
  · simp only [List.mem_cons, List.not_mem_nil, or_false] at hx
    have hnow (u : State) (hu : u = s) : (u.rawNext c) = (s.dequeue c.val i).rawPerform c j := by
      rw [hu, State.rawNext, hnext]
    rcases hx with rfl | rfl
    · exact congrArg Host.Outcome.next (hnow (s.flashRead c.val) (by rw [State.flashRead, hnext]))
    · exact congrArg Host.Outcome.next (hnow (s.flashProgram c.val) (by rw [State.flashProgram, hnext]))

/-- Settles O27, by what each raw command does once it is issued: the buffer's bytes do not depend on the flash, no decode changes a codeword, and
the command's end shows its result. -/
theorem rawFlashCommands : Obligations.RawFlashCommands := ⟨rawCommandsComplete, rawCommandsRefused, rawCommandsWait⟩

end Sys2Proof.Machine

namespace Sys2Proof.Machine

/-! PROOFS. Why the statement about doorbells and event rings fails: a span table whose keys do not rise (O10; R34, R36). -/

/-- A device whose span table lists entry 9 before entry 5. Entry 5 is an idle group span, of which device 3 holds a partition. -/
def unsortedSpans : State :=
  { State.reset with spans := [(9, { (default : SpanEnt) with st := .idle }),
      (5, { (default : SpanEnt) with st := .idle, group := true, remote := [(3, .part 0)] })] }

/-- Entry 5 is the only group entry of its subtree. -/
theorem unsortedSpans_groupTops : unsortedSpans.groupTops 5 = [5] := by decide +kernel

/-- The state after a doorbell of entry 5. -/
def unsortedRung : State := (unsortedSpans.ringSpan 5 0 (unsortedSpans.taskTicket 0)).groupCmd 5 8 0 (unsortedSpans.taskTicket 0)

/-- The held doorbell is put before entry 9, and the old entry 5 stays listed behind it: the message to device 3 goes out for each of the two. -/
theorem unsortedRung_entries : unsortedRung.grp.entries.length = 2 := by decide +kernel

theorem unsortedSpans_chainTo (sp : Nat) (l : List Nat) : (unsortedSpans.chainTo 3 0x3 sp l).grp.entries.length = 1 := rfl

/-- Refutes O10: where the keys of the span table do not rise, a doorbell that is held lists its span a second time, and the other device
that holds units of the span receives two messages instead of one. -/
theorem not_doorbellsAndEventRings : ¬ Obligations.DoorbellsAndEventRings := by
  unfold Obligations.DoorbellsAndEventRings
  rintro ⟨-, -, hgroup, -, -⟩
  obtain ⟨u, hexec, -, hentries⟩ := hgroup 5 0 0 unsortedSpans 3 unsortedSpans_groupTops rfl rfl (.inl rfl)
  have hu : unsortedRung = u := Host.Outcome.next.inj hexec
  have hlength := congrArg List.length hentries
  rw [← hu, unsortedRung_entries, unsortedSpans_chainTo] at hlength
  exact absurd hlength (by decide)

end Sys2Proof.Machine

namespace Sys2Proof.Machine

/-! PROOFS. Control of an engine: step start, gangs, synchronisation signals (O2; R67, R68, R75, R76). -/

/-! ### Reading a step and binding gangs leave the steps in flight as they are numbered -/

theorem State.fetchStep_state (s : State) (e i : Nat) : ∃ m, (s.fetchStep e i).1 = s.withMem m := by
  unfold State.fetchStep
  dsimp only
  split
  · exact ⟨s.mem, rfl⟩
  · exact ⟨_, rfl⟩

theorem State.putContext_acts (s : State) (e o t g item slot : Nat) : MemoryActs s (s.putContext e o t g item slot) :=
  MemoryActs.trans (t := { s with free := s.free + 60 }) ⟨rfl, fun _ _ => rfl, id, List.prefix_rfl⟩ (.writeBlock _ _ _ _ _ _ _ _)

theorem State.bindContexts_acts (s : State) (e g item : Nat) (t : Step) (task : Task) : MemoryActs s (s.bindContexts e g item t task) :=
  .foldl _ (fun _ _ => State.putContext_acts _ _ _ _ _ _ _) _ s

theorem MemoryActs.engs {s t : State} (h : MemoryActs s t) : t.engs = s.engs := by rw [h.rest]

/-- `f` is a view of a step in flight that binding its work items leaves. -/
def BoundApart {α : Type} (f : StepRun → α) : Prop := ∀ q n, f { q with bound := n } = f q

section Rebind
variable {α : Type} {f : StepRun → α} (hf : BoundApart f)
include hf

theorem EngUnit.runUpd_bound_map (u : EngUnit) (k : Nat) :
    (u.runUpd k (fun q => { q with bound := q.bound + 1 })).steps.map f = u.steps.map f := by
  rw [EngUnit.runUpd, List.map_map]
  refine List.map_congr_left fun q _ => ?_
  rw [Function.comp_apply]
  split
  · exact hf q _
  · rfl

theorem State.bindOne_steps (s : State) (e k : Nat) : ((s.bindOne e k).engs.at e).steps.map f = (s.engs.at e).steps.map f := by
  unfold State.bindOne
  extract_lets u
  split
  next r g task _ _ _ =>
    split
    next t _ =>
      have hctx := (s.bindContexts_acts e g r.bound t task).engs
      generalize s.bindContexts e g r.bound t task = v at hctx
      split
      · dsimp only [State.engUpd]
        rw [Tab.at_upd_same, EngUnit.runUpd_bound_map hf, hctx]
      · rfl
    · rfl
  · rfl

theorem State.bindGangs_steps (n : Nat) : ∀ (s : State) (e k : Nat), ((s.bindGangs n e k).engs.at e).steps.map f = (s.engs.at e).steps.map f := by
  induction n with
  | zero => exact fun _ _ _ => rfl
  | succ n ih => exact fun s e k => (ih _ e k).trans (State.bindOne_steps hf s e k)

theorem State.rebind_steps (s : State) (e : Nat) : ((s.rebind e).engs.at e).steps.map f = (s.engs.at e).steps.map f :=
  List.foldlRecOn (motive := fun t : State => (t.engs.at e).steps.map f = (s.engs.at e).steps.map f) _ _ rfl
    fun _ ht r _ => (State.bindGangs_steps hf 128 _ e r.num).trans ht

end Rebind

theorem State.rebind_idle {s : State} {e : Nat} (h : (s.engs.at e).steps = []) : s.rebind e = s := by
  rw [State.rebind, h]
  rfl

/-! ### STEP_START (R75, R76) -/

theorem State.useSync_steps (s : State) (e p : Nat) : ((s.useSync e p).engs.at e).steps = (s.engs.at e).steps := by
  unfold State.useSync
  split
  · split
    · rfl
    · rw [State.engUpd, Tab.at_upd_same]
  · rfl

/-- A step that is launched joins the steps in flight. -/
theorem State.launch_steps (s : State) (e i : Nat) (t : Step) (task : Task) :
    ((s.launch e i t task).engs.at e).steps.map (·.ix) = (s.engs.at e).steps.map (·.ix) ++ [i] := by
  unfold State.launch
  extract_lets u it loop nx firstStep slots task1 s1 _ s2
  rw [State.rebind_steps (f := (·.ix)) (fun _ _ => rfl), State.useSync_steps]
  have hs2 : s2.engs = s1.engs := by
    dsimp only [s2]
    split <;> rfl
  rw [hs2]
  dsimp only [s1, State.engUpd]
  rw [Tab.at_upd_same, List.map_append]
  rfl

section StepStart
variable {e : Eng} {s s1 : State} {task : Task} {t : Step} (htask : (s.engs.at e.val).task = some task)
  (hfetch : s.fetchStep e.val task.pc = (s1, some t))
include htask hfetch

theorem exec_stepStart_ending (hend : s.ending e.val = true) : exec (.stepStart e) s = .next s := by
  show execStepStart e s = _
  unfold execStepStart
  extract_lets u
  rw [show u.task = some task from htask]
  dsimp -zeta only
  extract_lets i
  rw [show s.fetchStep e.val i = (s1, some t) from hfetch]
  dsimp only
  rw [hend]
  rfl

variable (hend : s.ending e.val = false) (hbound : ∀ r, (s.engs.at e.val).steps.getLast? = some r → r.bound = r.items)
  (hroom : (s.engs.at e.val).steps.length < 4) (halone : (s.engs.at e.val).steps = [] ∨ t.wait = false ∧
    s.overlaps e.val (((innermost (s.engs.at e.val).loops task.pc).map (fun l => (s.engs.at e.val).iters.at l.close)).getD 0) t = false)
include hend hbound hroom halone

/-- Nothing stands in the way of the next step but the point that it awaits. -/
theorem exec_stepStart_of_ready : exec (.stepStart e) s = (match s1.syncState e.val t.syncIn with
    | .wait => .next s
    | .fault => .next (s1.stepFault e.val task.pc 0x08 none 0)
    | .go => .next (s1.launch e.val task.pc t task)) := by
  show execStepStart e s = _
  unfold execStepStart
  extract_lets u prevBound
  rw [show u.task = some task from htask]
  dsimp -zeta only
  extract_lets i it
  rw [show s.fetchStep e.val i = (s1, some t) from hfetch]
  dsimp -zeta only
  extract_lets alone
  have hprev : prevBound = true := by
    dsimp only [prevBound]
    cases hlast : u.steps.getLast? with
    | none => rfl
    | some r => exact decide_eq_true (hbound r hlast)
  have hfree : (alone && !u.steps.isEmpty) = false := by
    rcases halone with hnone | ⟨hwait, hoverlap⟩
    · rw [show u.steps = [] from hnone]
      exact Bool.and_false _
    · have : alone = false := by
        dsimp only [alone, it, u, i]
        rw [hwait, hoverlap]
        rfl
      rw [this]
      rfl
  refine (if_neg ?_).trans rfl
  rw [hend, hprev, hfree, decide_eq_false (show ¬4 ≤ u.steps.length from Nat.not_le.mpr hroom)]
  decide

theorem exec_stepStart_starts :
    (s1.syncState e.val t.syncIn = .go → ∃ u, exec (.stepStart e) s = .next u ∧
      (u.engs.at e.val).steps.map (·.ix) = (s.engs.at e.val).steps.map (·.ix) ++ [task.pc]) ∧
    (s1.syncState e.val t.syncIn = .wait → exec (.stepStart e) s = .next s) ∧
    (s1.syncState e.val t.syncIn = .fault → exec (.stepStart e) s = .next (s1.stepFault e.val task.pc 0x08 none 0)) := by
  rw [exec_stepStart_of_ready htask hfetch hend hbound hroom halone]
  have hengs : s1.engs = s.engs := by
    obtain ⟨m, hm⟩ := s.fetchStep_state e.val task.pc
    rw [hfetch] at hm
    rw [show s1 = s.withMem m from hm]
    rfl
  refine ⟨fun h => ?_, fun h => by rw [h], fun h => by rw [h]⟩
  rw [h]
  exact ⟨_, rfl, (State.launch_steps s1 _ _ _ _).trans (by rw [hengs])⟩

end StepStart

/-! ### GANG_DATA_RETURN (R67, R68) -/

/-- What putting another state of a gang leaves. -/
theorem State.putGang_leaves (s : State) (e g : Nat) (x : Gang) :
    ((s.engUpd e (fun u => { u with gangs := u.gangs.put g x })).engs.at e).gangs.at g = x ∧
      (∀ h, h ≠ g → ((s.engUpd e (fun u => { u with gangs := u.gangs.put g x })).engs.at e).gangs.at h = (s.engs.at e).gangs.at h) := by
  have hupd : ((s.engUpd e (fun u => { u with gangs := u.gangs.put g x })).engs.at e).gangs = (s.engs.at e).gangs.put g x := by
    dsimp only [State.engUpd]
    rw [Tab.at_upd_same]
  exact ⟨by rw [hupd, Tab.at_put_same], fun h hne => by rw [hupd, Tab.at_put_other _ _ hne]⟩

section GangDataReturn
variable {e : Eng} {g : Fin 128} {s : State}

theorem exec_gangDataReturn_ready (h : ((s.engs.at e.val).gangs.at g.val).st = .waitMem) : ∃ u, exec (.gangDataReturn e g) s = .next u ∧
    (u.engs.at e.val).gangs.at g.val = { (s.engs.at e.val).gangs.at g.val with st := .ready, reads := 0 } ∧
    (∀ h, h ≠ g.val → (u.engs.at e.val).gangs.at h = (s.engs.at e.val).gangs.at h) ∧ u = { s with engs := u.engs } := by
  have hexec : exec (.gangDataReturn e g) s = .next _ := if_pos h
  obtain ⟨hsame, hothers⟩ := s.putGang_leaves e.val g.val { (s.engs.at e.val).gangs.at g.val with st := .ready, reads := 0 }
  exact ⟨_, hexec, hsame, hothers, rfl⟩

theorem exec_gangDataReturn_counts {n : Nat} (h : ((s.engs.at e.val).gangs.at g.val).st = .issuing)
    (hreads : ((s.engs.at e.val).gangs.at g.val).reads = n + 1) : ∃ u, exec (.gangDataReturn e g) s = .next u ∧
    (u.engs.at e.val).gangs.at g.val = { (s.engs.at e.val).gangs.at g.val with reads := n } ∧
    (∀ h, h ≠ g.val → (u.engs.at e.val).gangs.at h = (s.engs.at e.val).gangs.at h) ∧ u = { s with engs := u.engs } := by
  have hexec : exec (.gangDataReturn e g) s = .next _ := (if_neg (by rw [h]; decide)).trans (if_pos ⟨h, by rw [hreads]; exact Nat.succ_ne_zero n⟩)
  obtain ⟨hsame, hothers⟩ := s.putGang_leaves e.val g.val { (s.engs.at e.val).gangs.at g.val with reads := ((s.engs.at e.val).gangs.at g.val).reads - 1 }
  refine ⟨_, hexec, hsame.trans ?_, hothers, rfl⟩
  rw [hreads]
  rfl

end GangDataReturn

/-! ### ENGINE_ISSUE_CYCLE (R67, R68) -/

/-- The gangs of an engine, those bound issuing. -/
def EngUnit.issue (u : EngUnit) : EngUnit :=
  { u with gangs := u.gangs.map (fun g => (g.1, if g.2.st = .bound then { g.2 with st := .issuing } else g.2)) }

theorem EngUnit.issue_at (u : EngUnit) (k : Nat) : u.issue.gangs.at k =
    if (u.gangs.at k).st = .bound then { u.gangs.at k with st := .issuing } else u.gangs.at k := by
  dsimp only [EngUnit.issue]
  induction u.gangs with
  | nil => rfl
  | cons x l ih =>
    obtain ⟨j, v⟩ := x
    rw [List.map_cons]
    by_cases hk : k = j
    · simp only [Tab.at, if_pos hk]
    · simp only [Tab.at, if_neg hk]
      exact ih

theorem EngUnit.issue_eq {u : EngUnit} (h : ∀ g ∈ u.gangs, g.2.st ≠ .bound) : u.issue = u := by
  have hmap : u.gangs.map (fun g => (g.1, if g.2.st = .bound then { g.2 with st := .issuing } else g.2)) = u.gangs :=
    (List.map_congr_left fun g hg => by rw [if_neg (h g hg)]; rfl).trans (List.map_id u.gangs)
  rw [EngUnit.issue, hmap]

/-- The gang selected for the array or for the vector unit, if one is, feeds it. -/
def EngUnit.selected (u : EngUnit) (array : Bool) : Option Nat → EngUnit
  | some g => if array then { (u.feed g) with rrArray := g } else { (u.feed g) with rrVec := g }
  | none => u

theorem EngUnit.selected_steps (u : EngUnit) (array : Bool) (o : Option Nat) : (u.selected array o).steps = u.steps := by
  cases o with
  | none => rfl
  | some g => cases array <;> rfl

/-- A gang that issues already is not changed when one feeds its unit. -/
theorem EngUnit.selected_issuing (u : EngUnit) (array : Bool) (o : Option Nat) {k : Nat} (h : (u.gangs.at k).st = .issuing) :
    (u.selected array o).gangs.at k = u.gangs.at k := by
  have hfeed (g : Nat) : (u.feed g).gangs.at k = u.gangs.at k := by
    dsimp only [EngUnit.feed]
    rw [Tab.at_upd]
    split
    · next heq =>
      subst heq
      rw [← h]
    · rfl
  cases o with
  | none => rfl
  | some g => cases array <;> exact hfeed g

/-- The engine of a cycle once its gangs are selected. -/
def State.cycleSelects (s : State) (e : Nat) : EngUnit :=
  ((s.engs.at e).issue.selected true (s.selectGang e true (s.engs.at e).rrArray)).selected false (s.selectGang e false (s.engs.at e).rrVec)

/-- A gang issues reads, as many as it may and the engine has room for. -/
def issueReads (acc : EngUnit × Nat) (x : Fin 128 × Fin 17) : EngUnit × Nat :=
  let g := x.1.val
  let q := acc.1.gangs.at g
  if q.st = .issuing then
    let n := min (min x.2.val (16 - q.reads)) (min acc.2 (2048 - acc.1.outstanding))
    ({ acc.1 with gangs := acc.1.gangs.put g { q with
        reads := q.reads + n, st := if n = x.2.val ∧ n ≠ 0 then .waitMem else .issuing } }, acc.2 - n)
  else acc

/-- A gang whose item completes is free, and its step counts the item. -/
def EngUnit.itemDone (u : EngUnit) (g : Fin 128) : EngUnit :=
  if (u.gangs.at g.val).st = .issuing then
    ({ u with gangs := u.gangs.put g.val default }).runUpd (u.gangs.at g.val).run (fun q => { q with completed := q.completed + 1 })
  else u

theorem exec_engineIssueCycle (e : Eng) (reads : List (Fin 128 × Fin 17)) (items : List (Fin 128)) (s : State) :
    exec (.engineIssueCycle e reads items) s =
      .next ((s.engUpd e.val (fun _ => items.foldl EngUnit.itemDone (reads.foldl issueReads (s.cycleSelects e.val, 8)).1)).rebind e.val) := by
  have hselects : (match s.selectGang e.val false (s.engs.at e.val).rrVec with
      | some g => { ((match s.selectGang e.val true (s.engs.at e.val).rrArray with
        | some g => { ((s.engs.at e.val).issue.feed g) with rrArray := g }
        | none => (s.engs.at e.val).issue).feed g) with rrVec := g }
      | none => match s.selectGang e.val true (s.engs.at e.val).rrArray with
        | some g => { ((s.engs.at e.val).issue.feed g) with rrArray := g }
        | none => (s.engs.at e.val).issue) = s.cycleSelects e.val := by
    unfold State.cycleSelects EngUnit.selected
    cases s.selectGang e.val false (s.engs.at e.val).rrVec <;> cases s.selectGang e.val true (s.engs.at e.val).rrArray <;> rfl
  rw [← hselects]
  rfl

section IssueCycle
variable {e : Eng} {g : Fin 128} {s : State}

theorem State.selectGang_none (h : (s.engs.at e.val).steps = []) (array : Bool) (last : Nat) : s.selectGang e.val array last = none := by
  unfold State.selectGang
  dsimp only
  rw [h]
  rfl

/-- A bound gang that issues reads waits for memory with as many outstanding. -/
theorem exec_engineIssueCycle_issues {n : Fin 17} (hpos : 0 < n.val) (hn : n.val ≤ 8) (hst : ((s.engs.at e.val).gangs.at g.val).st = .issuing)
    (hreads : ((s.engs.at e.val).gangs.at g.val).reads = 0) (hbound : ∀ h ∈ (s.engs.at e.val).gangs, h.2.st ≠ .bound)
    (hroom : (s.engs.at e.val).outstanding + n.val ≤ 2048) (hsteps : (s.engs.at e.val).steps = []) :
    ∃ u, exec (.engineIssueCycle e [(g, n)] []) s = .next u ∧
      (u.engs.at e.val).gangs.at g.val = { (s.engs.at e.val).gangs.at g.val with st := .waitMem, reads := n.val } ∧
      (∀ h, h ≠ g.val → (u.engs.at e.val).gangs.at h = (s.engs.at e.val).gangs.at h) ∧ u = { s with engs := u.engs } := by
  have hselects : s.cycleSelects e.val = s.engs.at e.val := by
    rw [State.cycleSelects, State.selectGang_none hsteps, State.selectGang_none hsteps, EngUnit.issue_eq hbound]
    rfl
  have hmin : min (min n.val (16 - ((s.engs.at e.val).gangs.at g.val).reads)) (min 8 (2048 - (s.engs.at e.val).outstanding)) = n.val := by omega
  have hissues : issueReads (s.engs.at e.val, 8) (g, n) =
      ({ s.engs.at e.val with gangs := (s.engs.at e.val).gangs.put g.val { (s.engs.at e.val).gangs.at g.val with st := .waitMem, reads := n.val } }, 8 - n.val) := by
    unfold issueReads
    dsimp only
    rw [if_pos hst, hmin, hreads, if_pos ⟨rfl, by omega⟩, Nat.zero_add]
  have hexec := exec_engineIssueCycle e [(g, n)] [] s
  rw [hselects, List.foldl_cons, List.foldl_nil, List.foldl_nil, hissues, State.rebind_idle (by rw [State.engUpd, Tab.at_upd_same]; exact hsteps)] at hexec
  have hat : ((s.engUpd e.val (fun _ => { s.engs.at e.val with gangs := (s.engs.at e.val).gangs.put g.val ({ (s.engs.at e.val).gangs.at g.val
      with st := .waitMem, reads := n.val }) })).engs.at e.val).gangs = (s.engs.at e.val).gangs.put g.val
        { (s.engs.at e.val).gangs.at g.val with st := .waitMem, reads := n.val } := by
    rw [State.engUpd, Tab.at_upd_same]
  exact ⟨_, hexec, by rw [hat, Tab.at_put_same], fun h hne => by rw [hat, Tab.at_put_other _ _ hne], rfl⟩

/-- A gang whose item completes is counted by its step. -/
theorem exec_engineIssueCycle_completes (hst : ((s.engs.at e.val).gangs.at g.val).st = .issuing) : ∃ u, exec (.engineIssueCycle e [] [g]) s = .next u ∧
    (u.engs.at e.val).steps.map (fun q => (q.num, q.completed)) = (s.engs.at e.val).steps.map (fun q =>
      (q.num, if q.num = ((s.engs.at e.val).gangs.at g.val).run then q.completed + 1 else q.completed)) := by
  have hissue : (s.engs.at e.val).issue.gangs.at g.val = (s.engs.at e.val).gangs.at g.val := by rw [EngUnit.issue_at, if_neg (by rw [hst]; decide)]
  have hgang : (s.cycleSelects e.val).gangs.at g.val = (s.engs.at e.val).gangs.at g.val := by
    have harray := EngUnit.selected_issuing (s.engs.at e.val).issue true (s.selectGang e.val true (s.engs.at e.val).rrArray) (hissue ▸ hst)
    exact (EngUnit.selected_issuing _ false _ (by rw [harray, hissue]; exact hst)).trans (harray.trans hissue)
  have hsteps : (s.cycleSelects e.val).steps = (s.engs.at e.val).steps := by
    rw [State.cycleSelects, EngUnit.selected_steps, EngUnit.selected_steps]
    rfl
  have hexec := exec_engineIssueCycle e [] [g] s
  rw [List.foldl_nil, List.foldl_cons, List.foldl_nil, EngUnit.itemDone, if_pos (by rw [hgang]; exact hst), hgang] at hexec
  refine ⟨_, hexec, (State.rebind_steps (f := fun q => (q.num, q.completed)) (fun _ _ => rfl) _ _).trans ?_⟩
  rw [State.engUpd, Tab.at_upd_same, EngUnit.runUpd, hsteps, List.map_map]
  refine List.map_congr_left fun q _ => ?_
  rw [Function.comp_apply]
  split <;> rfl

end IssueCycle

/-! ### SYNC_SIGNAL (R76, R138) -/

section SyncSignal
variable (s : State) (i p eng dev : Nat)

/-- The state with a signal counted, before other devices are told. -/
def State.signalCounted : State :=
  let sg := (s.spans.at i).sig.at p ||| eng
  let sd := (s.spans.at i).sigDev.at p ||| dev
  s.spanUpd i (fun x =>
    if decide (sg &&& s.syncMask i p = s.syncMask i p) && (!(s.spans.at i).group || decide (sd &&& s.syncDevs i = s.syncDevs i)) then
      { x with sig := x.sig.put p 0, sigDev := x.sigDev.put p 0, rel := x.rel.put p (x.rel.at p + 1) }
    else { x with sig := x.sig.put p sg, sigDev := x.sigDev.put p sd })

theorem State.syncSignal_eq : s.syncSignal i p eng dev =
    if decide (((s.spans.at i).sig.at p ||| eng) &&& s.syncMask i p = s.syncMask i p) &&
        decide ((s.spans.at i).sig.at p &&& s.syncMask i p ≠ s.syncMask i p) then
      (s.signalCounted i p eng dev).groupSend i 0x2 [p]
    else s.signalCounted i p eng dev := rfl

theorem State.signalCounted_at : (s.signalCounted i p eng dev).spans.at i =
    if decide (((s.spans.at i).sig.at p ||| eng) &&& s.syncMask i p = s.syncMask i p) &&
        (!(s.spans.at i).group || decide (((s.spans.at i).sigDev.at p ||| dev) &&& s.syncDevs i = s.syncDevs i)) then
      { s.spans.at i with sig := (s.spans.at i).sig.put p 0, sigDev := (s.spans.at i).sigDev.put p 0, rel := (s.spans.at i).rel.put p ((s.spans.at i).rel.at p + 1) }
    else { s.spans.at i with sig := (s.spans.at i).sig.put p ((s.spans.at i).sig.at p ||| eng)
                             sigDev := (s.spans.at i).sigDev.put p ((s.spans.at i).sigDev.at p ||| dev) } := by
  rw [State.signalCounted, State.spanUpd, Tab.at_upd_same]

/-- Telling other devices of a group span only adds messages. -/
theorem State.groupSend_eq (cls : Nat) (payload : List Nat) :
    s.groupSend i cls payload = { s with grp := { s.grp with entries := (s.groupSend i cls payload).grp.entries } } := by
  unfold State.groupSend
  split
  · exact List.foldlRecOn (motive := fun t : State => t = { s with grp := { s.grp with entries := t.grp.entries } }) _ _ rfl
      fun t ht d _ => by rw [ht]; rfl
  · rfl

theorem State.groupSend_local (cls : Nat) (payload : List Nat) (h : (s.spans.at i).group = false) : s.groupSend i cls payload = s := by
  rw [State.groupSend, h]
  rfl

/-- Each other device of a group span has its message. -/
theorem State.groupSend_reaches (cls : Nat) (payload : List Nat) (h : (s.spans.at i).group = true) {d : Nat} (hd : d ∈ s.groupDevs i) :
    ∃ x ∈ (s.groupSend i cls payload).grp.entries, x.kind = 1 ∧ x.dst = Fin.ofNat 64 d ∧ x.words.tail = payload.map wordOf := by
  have hgrows (l : List Nat) : ∀ t : State, t.grp.entries ⊆ (l.foldl (fun (s : State) d => s.chainTo d cls i payload) t).grp.entries := by
    induction l with
    | nil => exact fun t => List.Subset.refl _
    | cons d l ih => exact fun t => List.Subset.trans (List.subset_append_left _ _) (ih (t.chainTo d cls i payload))
  rw [State.groupSend, if_pos h]
  generalize s.groupDevs i = l at hd
  induction l generalizing s with
  | nil => exact absurd hd List.not_mem_nil
  | cons c l ih =>
    rw [List.foldl_cons]
    rcases List.mem_cons.mp hd with rfl | hd
    · exact ⟨_, hgrows l _ (List.mem_append_right _ (List.mem_singleton.mpr rfl)), rfl, rfl, rfl⟩
    · exact ih (s.chainTo c cls i payload) h hd

end SyncSignal

section SyncSignals
variable {sp : SpanIx} {p : Fin 256} {s : State}

/-- A signal leaves all but the span table and the messages to other devices. -/
theorem State.syncSignal_rest (s : State) (i p eng dev : Nat) : s.syncSignal i p eng dev =
    { s with spans := (s.signalCounted i p eng dev).spans, grp := { s.grp with entries := (s.syncSignal i p eng dev).grp.entries } } := by
  rw [State.syncSignal_eq]
  split
  · rw [State.groupSend_eq]
    rfl
  · rfl

theorem exec_syncSignal_engine {e : Eng} (hmember : bitAt (s.syncMask sp.val p.val) e.val = true) :
    ∃ u, exec (.syncSignal sp p (.engine e)) s = .next u ∧
      ((s.spans.at sp.val).group = false →
        ((s.spans.at sp.val).sig.at p.val ||| 2 ^ e.val) &&& s.syncMask sp.val p.val = s.syncMask sp.val p.val →
        (u.spans.at sp.val).rel.at p.val = (s.spans.at sp.val).rel.at p.val + 1 ∧ (u.spans.at sp.val).sig.at p.val = 0) ∧
      (((s.spans.at sp.val).sig.at p.val ||| 2 ^ e.val) &&& s.syncMask sp.val p.val ≠ s.syncMask sp.val p.val →
        (u.spans.at sp.val).rel = (s.spans.at sp.val).rel ∧
        (u.spans.at sp.val).sig.at p.val = (s.spans.at sp.val).sig.at p.val ||| 2 ^ e.val) ∧
      ((s.spans.at sp.val).group = true →
        ((s.spans.at sp.val).sig.at p.val ||| 2 ^ e.val) &&& s.syncMask sp.val p.val = s.syncMask sp.val p.val →
        (s.spans.at sp.val).sig.at p.val &&& s.syncMask sp.val p.val ≠ s.syncMask sp.val p.val →
        ∀ d ∈ s.groupDevs sp.val, ∃ x ∈ u.grp.entries, x.kind = 1 ∧ x.dst = Fin.ofNat 64 d ∧ x.words.tail = [wordOf p.val]) ∧
      ((s.spans.at sp.val).group = false → u.grp = s.grp) ∧
      u = { s with spans := u.spans, grp := { s.grp with entries := u.grp.entries } } := by
  have hexec : exec (.syncSignal sp p (.engine e)) s = .next (s.syncSignal sp.val p.val (2 ^ e.val) 0) := if_pos hmember
  have hrest := s.syncSignal_rest sp.val p.val (2 ^ e.val) 0
  have hspans : (s.syncSignal sp.val p.val (2 ^ e.val) 0).spans = (s.signalCounted sp.val p.val (2 ^ e.val) 0).spans := by
    have h := congrArg State.spans hrest
    exact h
  have hat := s.signalCounted_at sp.val p.val (2 ^ e.val) 0
  refine ⟨_, hexec, fun hlocal hall => ?_, fun hwait => ?_, fun hgroup hall hnew d hd => ?_, fun hlocal => ?_, ?_⟩
  · rw [hspans, hat, if_pos (by simp [hlocal, hall])]
    dsimp only
    exact ⟨Tab.at_put_same _ _ _, Tab.at_put_same _ _ _⟩
  · rw [hspans, hat, if_neg (by simp [hwait])]
    exact ⟨rfl, Tab.at_put_same _ _ _⟩
  · rw [State.syncSignal_eq, if_pos (by simp [hall, hnew])]
    have hsame : ((s.signalCounted sp.val p.val (2 ^ e.val) 0).spans.at sp.val).group = (s.spans.at sp.val).group ∧
        ((s.signalCounted sp.val p.val (2 ^ e.val) 0).spans.at sp.val).remote = (s.spans.at sp.val).remote := by
      rw [hat]
      split <;> exact ⟨rfl, rfl⟩
    refine State.groupSend_reaches _ sp.val 0x2 [p.val] (hsame.1.trans hgroup) ?_
    rw [State.groupDevs, hsame.2]
    exact hd
  · rw [State.syncSignal_eq]
    have hsame : ((s.signalCounted sp.val p.val (2 ^ e.val) 0).spans.at sp.val).group = false := by
      rw [hat, ← hlocal]
      split <;> rfl
    split
    · rw [State.groupSend_local _ _ _ _ hsame]
      rfl
    · rfl
  · rw [hspans]
    exact hrest

theorem exec_syncSignal_device {d : Fin 64} (hdev : bitAt (s.syncDevs sp.val) d.val = true) (hgroup : (s.spans.at sp.val).group = true)
    (hpoint : (s.spans.at sp.val).syncs.any (fun x => x.1 = p.val) = true)
    (hhere : (s.spans.at sp.val).sig.at p.val &&& s.syncMask sp.val p.val = s.syncMask sp.val p.val)
    (hall : ((s.spans.at sp.val).sigDev.at p.val ||| 2 ^ d.val) &&& s.syncDevs sp.val = s.syncDevs sp.val) :
    ∃ u, exec (.syncSignal sp p (.device d)) s = .next u ∧ u = { s with spans := u.spans } ∧
      (u.spans.at sp.val).rel.at p.val = (s.spans.at sp.val).rel.at p.val + 1 ∧ (u.spans.at sp.val).sig.at p.val = 0 ∧
      (u.spans.at sp.val).sigDev.at p.val = 0 := by
  have hexec : exec (.syncSignal sp p (.device d)) s = .next (s.syncSignal sp.val p.val 0 (2 ^ d.val)) := if_pos (by rw [hdev, hpoint]; rfl)
  have hsignal : s.syncSignal sp.val p.val 0 (2 ^ d.val) = s.signalCounted sp.val p.val 0 (2 ^ d.val) := by
    rw [State.syncSignal_eq, if_neg (by simp [hhere])]
  rw [hsignal] at hexec
  refine ⟨_, hexec, rfl, ?_⟩
  rw [State.signalCounted_at, if_pos (by simp [hhere, hgroup, hall])]
  dsimp only
  exact ⟨Tab.at_put_same _ _ _, Tab.at_put_same _ _ _, Tab.at_put_same _ _ _⟩

end SyncSignals

/-- Settles O2, by what each control command of an engine leaves: binding gangs keeps the steps in flight as they are numbered, and a signal changes the
span table and the messages to other devices only. -/
theorem engineControlCompletes : Obligations.EngineControlCompletes :=
  ⟨fun _ _ _ _ _ htask hfetch hend hbound hroom halone => exec_stepStart_starts htask hfetch hend hbound hroom halone,
    fun _ _ _ _ _ htask hfetch hend => exec_stepStart_ending htask hfetch hend,
    fun _ _ _ h => exec_gangDataReturn_ready h, fun _ _ _ _ h hreads => exec_gangDataReturn_counts h hreads,
    fun _ _ _ _ hpos hn hst hreads hbound hroom hsteps => exec_engineIssueCycle_issues hpos hn hst hreads hbound hroom hsteps,
    fun _ _ _ hst => exec_engineIssueCycle_completes hst, fun _ _ _ _ hmember => exec_syncSignal_engine hmember,
    fun _ _ _ _ hdev hgroup hpoint hhere hall => exec_syncSignal_device hdev hgroup hpoint hhere hall⟩

end Sys2Proof.Machine

namespace Sys2Proof.Machine

/-! PROOFS. The commands of spans and their quiet leaves (O11; R131). -/

/-! ### Entries of the span table, changed one after the other -/

section Entries
variable (l : List Nat) (s : State)

/-- Where a change of an entry does nothing the second time, each entry of a list is changed once. -/
theorem State.foldl_spanUpd_at {f : SpanEnt → SpanEnt} (hf : ∀ x, f (f x) = f x) (j : Nat) :
    (l.foldl (fun (s : State) j => s.spanUpd j f) s).spans.at j = if j ∈ l then f (s.spans.at j) else s.spans.at j := by
  induction l generalizing s with
  | nil => rfl
  | cons i l ih =>
    rw [List.foldl_cons, ih, State.spanUpd, Tab.at_upd]
    by_cases hj : j = i
    · subst hj
      by_cases hl : j ∈ l <;> simp [hl, hf]
    · by_cases hl : j ∈ l <;> simp [hj, hl]

theorem State.foldl_spanUpd_rest (f : SpanEnt → SpanEnt) :
    l.foldl (fun (s : State) j => s.spanUpd j f) s = { s with spans := (l.foldl (fun (s : State) j => s.spanUpd j f) s).spans } :=
  List.foldlRecOn (motive := fun t : State => t = { s with spans := t.spans }) _ _ rfl fun t ht _ _ => by rw [ht]; rfl

end Entries

/-- An entry put in a state, its forwards freed unless it runs. -/
def State.setSpan (s : State) (j : Nat) (x : SpanSt) : State := s.setSpans [j] x

theorem State.setSpans_cons (s : State) (j : Nat) (l : List Nat) (x : SpanSt) : s.setSpans (j :: l) x = (s.setSpan j x).setSpans l x := rfl

theorem State.setSpan_spans (s : State) (j : Nat) (x : SpanSt) : (s.setSpan j x).spans = s.spans.upd j (fun e => { e with st := x }) := by
  cases x <;> rfl

theorem State.setSpan_rest (s : State) (j : Nat) (x : SpanSt) :
    s.setSpan j x = { s with spans := (s.setSpan j x).spans, retr := (s.setSpan j x).retr } := by
  cases x <;> rfl

theorem State.setSpans_at (l : List Nat) (s : State) (x : SpanSt) (j : Nat) :
    (s.setSpans l x).spans.at j = if j ∈ l then { s.spans.at j with st := x } else s.spans.at j := by
  induction l generalizing s with
  | nil => rfl
  | cons i l ih =>
    rw [State.setSpans_cons, ih, State.setSpan_spans, Tab.at_upd]
    by_cases hj : j = i
    · subst hj
      by_cases hl : j ∈ l <;> simp [hl]
    · by_cases hl : j ∈ l <;> simp [hj, hl]

theorem State.setSpans_rest (l : List Nat) (s : State) (x : SpanSt) :
    s.setSpans l x = { s with spans := (s.setSpans l x).spans, retr := (s.setSpans l x).retr } := by
  induction l generalizing s with
  | nil => rfl
  | cons i l ih =>
    rw [State.setSpans_cons]
    refine (ih _).trans ?_
    rw [State.setSpan_rest]

/-- An entry that drains keeps its forwards. -/
theorem State.setSpans_draining (l : List Nat) (s : State) : s.setSpans l .draining = { s with spans := (s.setSpans l .draining).spans } :=
  List.foldlRecOn (motive := fun t : State => t = { s with spans := t.spans }) l _ rfl fun t ht _ _ => by rw [ht]; rfl

/-! ### Which entries accept a command (R131) -/

section Accepting
variable {s : State} {i : Nat} {ok : SpanSt → Bool}

theorem State.accepting_all (hi : i ∈ s.subtree i) (h : ∀ j ∈ s.subtree i, ok (s.spans.at j).st = true ∧ s.underLoading j = false) :
    s.accepting i ok = (s, s.subtree i) := by
  have hall : (s.subtree i).filter (fun j => ok (s.spans.at j).st && !s.underLoading j) = s.subtree i :=
    List.filter_eq_self.mpr fun j hj => by rw [(h j hj).1, (h j hj).2]; rfl
  unfold State.accepting
  dsimp only
  rw [if_neg (by rw [(h i hi).1, (h i hi).2]; decide), hall, if_pos rfl]

theorem State.accepting_none (h : ok (s.spans.at i).st = false) : s.accepting i ok = (s.cmdErr, []) := if_pos (by rw [h]; rfl)

theorem State.groupCmd_local (h : s.groupTops i = []) (cmd arg ticket : Nat) : s.groupCmd i cmd arg ticket = s := by
  rw [State.groupCmd, h]
  rfl

/-- A command that is not performed sets CMD_ERR. -/
theorem State.cmdErr_shows (s : State) : s.cmdErr.bget .CFG_SPAN_ERR F.CFG_SPAN_ERR_CMD_ERR = true ∧ OnlyRegs [.CFG_SPAN_ERR] s s.cmdErr :=
  ⟨State.bget_bset_same _ _ _ _ (by decide) (by decide), OnlyRegs.bset _ _ (by simp)⟩

theorem exec_spanStart {sp : SpanIx} (h : s.groupTops sp.val = []) (arg : Fin 4) (tk : Ticket) :
    exec (.spanStart sp arg tk) s = .next (s.startSpan sp.val arg.val (s.taskTicket tk.val)) :=
  congrArg Host.Outcome.next (congrArg (fun u : State => u.startSpan sp.val arg.val (s.taskTicket tk.val)) (State.groupCmd_local h _ _ _))

theorem exec_spanStop {sp : SpanIx} (h : s.groupTops sp.val = []) : exec (.spanStop sp) s = .next (s.stopSpan sp.val) :=
  congrArg Host.Outcome.next (congrArg (fun u : State => u.stopSpan sp.val) (State.groupCmd_local h _ _ _))

theorem exec_spanDrain {sp : SpanIx} (h : s.groupTops sp.val = []) : exec (.spanDrain sp) s = .next (s.drainSpan sp.val) :=
  congrArg Host.Outcome.next (congrArg (fun u : State => u.drainSpan sp.val) (State.groupCmd_local h _ _ _))

theorem exec_spanClear {sp : SpanIx} (h : s.groupTops sp.val = []) : exec (.spanClear sp) s = .next (s.clearSpan sp.val) :=
  congrArg Host.Outcome.next (congrArg (fun u : State => u.clearSpan sp.val) (State.groupCmd_local h _ _ _))

theorem exec_spanUnload {sp : SpanIx} (h : s.groupTops sp.val = []) : exec (.spanUnload sp) s = .next (s.unloadSpan sp.val).degradeCheck :=
  congrArg Host.Outcome.next (congrArg (fun u : State => (u.unloadSpan sp.val).degradeCheck) (State.groupCmd_local h _ _ _))

end Accepting

/-! ### SPAN_DRAIN -/

theorem exec_spanDrain_drains {sp : SpanIx} {s : State} (hlocal : s.groupTops sp.val = []) (hsp : sp.val ∈ s.subtree sp.val)
    (h : ∀ j ∈ s.subtree sp.val, (s.spans.at j).st = .running ∧ s.underLoading j = false) : ∃ u, exec (.spanDrain sp) s = .next u ∧
      (∀ j ∈ s.subtree sp.val, u.spans.at j = { s.spans.at j with st := .draining }) ∧
      (∀ j, j ∉ s.subtree sp.val → u.spans.at j = s.spans.at j) ∧ u = { s with spans := u.spans } := by
  have hdrain : s.drainSpan sp.val = s.setSpans (s.subtree sp.val) .draining := by
    rw [State.drainSpan, State.accepting_all hsp (fun j hj => ⟨by rw [(h j hj).1]; rfl, (h j hj).2⟩)]
  rw [exec_spanDrain hlocal, hdrain]
  exact ⟨_, rfl, fun j hj => by rw [State.setSpans_at, if_pos hj], fun j hj => by rw [State.setSpans_at, if_neg hj], State.setSpans_draining _ s⟩

/-! ### SPAN_CLEAR -/

/-- The arithmetic counts of an engine's site cleared. -/
def State.clearArith (s : State) (e : Nat) : State :=
  let site : Site := Fin.ofNat 128 (s.siteOf e)
  ((((s.rset (.ENG_ARITH site 0) 0).rset (.ENG_ARITH site 1) 0).rset (.ENG_ARITH site 2) 0).rset (.ENG_ARITH site 3) 0).rset
    (.ENG_ARITH site 4) 0

/-- The arithmetic counts of engines. -/
def arithRegs (s : State) (l : List Nat) : List Reg := l.flatMap (fun e => (List.finRange 5).map (fun p => .ENG_ARITH (Fin.ofNat 128 (s.siteOf e)) p))

/-- The state with the registers of a list cleared. -/
def State.zeroRegs (s : State) (l : List Reg) : State := l.foldl (fun (s : State) r => s.rset r 0) s

theorem State.zeroRegs_rget (l : List Reg) (s : State) (r : Reg) : (s.zeroRegs l).rget r = if r ∈ l then 0 else s.rget r := by
  induction l generalizing s with
  | nil => rfl
  | cons q l ih =>
    refine (ih _).trans ?_
    rw [State.rget_rset]
    by_cases hr : r = q <;> by_cases hl : r ∈ l <;> simp [hr, hl]

theorem State.zeroRegs_rest (l : List Reg) (s : State) : s.zeroRegs l = { s with regs := (s.zeroRegs l).regs } :=
  List.foldlRecOn (motive := fun t : State => t = { s with regs := t.regs }) l _ rfl fun t ht _ _ => by rw [ht]; rfl

theorem State.siteOf_zeroRegs (l : List Reg) (s : State) (hl : ∀ r ∈ l, ∃ k p, r = .ENG_ARITH k p) (e : Nat) : (s.zeroRegs l).siteOf e = s.siteOf e := by
  have hmap : Reg.CDI_MAP (engDie e) (engRow e) ∉ l := fun h => by
    obtain ⟨k, p, hr⟩ := hl _ h
    cases hr
  rw [State.siteOf, State.siteOf, State.fget_of_rget]
  rw [State.zeroRegs_rget, if_neg hmap]

theorem mem_arithRegs {s : State} {l : List Nat} {r : Reg} (h : r ∈ arithRegs s l) : ∃ k p, r = .ENG_ARITH k p := by
  obtain ⟨e, -, hr⟩ := List.mem_flatMap.mp h
  obtain ⟨p, -, rfl⟩ := List.mem_map.mp hr
  exact ⟨_, p, rfl⟩

theorem State.clearArith_eq (l : List Nat) (s : State) : l.foldl State.clearArith s = s.zeroRegs (arithRegs s l) := by
  induction l generalizing s with
  | nil => rfl
  | cons e l ih =>
    have hone : s.clearArith e = s.zeroRegs (arithRegs s [e]) := by
      rw [arithRegs, List.flatMap_singleton]
      rfl
    have hsame : arithRegs (s.clearArith e) l = arithRegs s l := by
      unfold arithRegs
      refine List.flatMap_congr fun k _ => ?_
      rw [hone, State.siteOf_zeroRegs _ _ fun r hr => mem_arithRegs hr]
    rw [List.foldl_cons, ih, hsame, hone]
    show (arithRegs s l).foldl _ ((arithRegs s [e]).foldl _ s) = (arithRegs s (e :: l)).foldl _ s
    rw [← List.foldl_append, arithRegs, arithRegs, arithRegs, List.flatMap_singleton, List.flatMap_cons]

/-- CLEAR of a subtree that accepts it: arithmetic counts, the counts of pipelines, fault records and states. -/
theorem State.clearSpan_eq {s : State} {i : Nat} (h : s.accepting i stIdle = (s, s.subtree i)) : ∃ pipes : List Nat, s.clearSpan i =
    (((s.subtree i).foldl (fun (s : State) j => s.spanUpd j (fun e => { e with fault := 0 })) (pipes.foldl (fun (s : State) p =>
      s.pipeUpd p (fun u => { u with cntQ := 0, cntF := 0 })) (s.zeroRegs (arithRegs s (s.entryEngines (s.subtree i)))))).setSpans (s.subtree i) .idle) := by
  refine ⟨(s.zeroRegs (arithRegs s (s.entryEngines (s.subtree i)))).entryPipes (s.subtree i), ?_⟩
  unfold State.clearSpan
  rw [h, ← State.clearArith_eq]
  rfl

theorem exec_spanClear_clears {sp : SpanIx} {s : State} (hlocal : s.groupTops sp.val = []) (hsp : sp.val ∈ s.subtree sp.val)
    (h : ∀ j ∈ s.subtree sp.val, stIdle (s.spans.at j).st = true ∧ s.underLoading j = false) : ∃ u, exec (.spanClear sp) s = .next u ∧
      (∀ j ∈ s.subtree sp.val, u.spans.at j = { s.spans.at j with st := .idle, fault := 0 }) ∧
      (∀ j, j ∉ s.subtree sp.val → u.spans.at j = s.spans.at j) ∧
      (∀ e ∈ s.entryEngines (s.subtree sp.val), ∀ p : Fin 5, u.rget (.ENG_ARITH (Fin.ofNat 128 (s.siteOf e)) p) = 0) ∧
      RegsKept ((s.entryEngines (s.subtree sp.val)).flatMap (fun e =>
        (List.finRange 5).map (fun p => .ENG_ARITH (Fin.ofNat 128 (s.siteOf e)) p))) s u ∧
      u = { s with regs := u.regs, spans := u.spans, retr := u.retr } := by
  obtain ⟨pipes, hclear⟩ := State.clearSpan_eq (State.accepting_all hsp h)
  let cleared := s.zeroRegs (arithRegs s (s.entryEngines (s.subtree sp.val)))
  let counted := pipes.foldl (fun (s : State) p => s.pipeUpd p (fun u => { u with cntQ := 0, cntF := 0 })) cleared
  let healed := (s.subtree sp.val).foldl (fun (s : State) j => s.spanUpd j (fun e => { e with fault := 0 })) counted
  have hcleared : cleared = { s with regs := cleared.regs } := State.zeroRegs_rest _ s
  have hcounted : counted = { cleared with retr := counted.retr } :=
    List.foldlRecOn (motive := fun t : State => t = { cleared with retr := t.retr }) pipes _ rfl fun t ht _ _ => by rw [ht]; rfl
  have hhealed : healed = { counted with spans := healed.spans } := State.foldl_spanUpd_rest _ counted _
  have hset := State.setSpans_rest (s.subtree sp.val) healed .idle
  have hrest : healed.setSpans (s.subtree sp.val) .idle = { s with regs := cleared.regs, spans := (healed.setSpans (s.subtree sp.val) .idle).spans
                                                                   retr := (healed.setSpans (s.subtree sp.val) .idle).retr } := by
    refine hset.trans ?_
    rw [hhealed, hcounted, hcleared]
  have hregs (r : Reg) : (healed.setSpans (s.subtree sp.val) .idle).rget r = cleared.rget r := by
    rw [hrest]
    rfl
  have hspans : counted.spans = s.spans := by
    rw [hcounted, hcleared]
  have hat (j : Nat) : healed.spans.at j = if j ∈ s.subtree sp.val then { s.spans.at j with fault := 0 } else s.spans.at j := by
    rw [← hspans]
    exact State.foldl_spanUpd_at _ counted (f := fun e => { e with fault := 0 }) (fun _ => rfl) j
  rw [exec_spanClear hlocal, hclear]
  refine ⟨_, rfl, fun j hj => ?_, fun j hj => ?_, fun e he p => ?_, fun r hr => ?_, ?_⟩
  · rw [State.setSpans_at, if_pos hj, hat, if_pos hj]
  · rw [State.setSpans_at, if_neg hj, hat, if_neg hj]
  · have hmem : Reg.ENG_ARITH (Fin.ofNat 128 (s.siteOf e)) p ∈ arithRegs s (s.entryEngines (s.subtree sp.val)) :=
      List.mem_flatMap.mpr ⟨e, he, List.mem_map_of_mem (List.mem_finRange p)⟩
    rw [hregs, State.zeroRegs_rget, if_pos hmem]
  · have hnot : r ∉ arithRegs s (s.entryEngines (s.subtree sp.val)) := hr
    rw [hregs, State.zeroRegs_rget, if_neg hnot]
  · refine hrest.trans ?_
    rw [hrest]

/-! ### SPAN_START -/

/-- `t` is `s` but for what starting an engine changes: engines, their sites' gates, and the count of dropped doorbells. -/
structure RingActs (s t : State) : Prop where
  rest : t = { s with regs := t.regs, engs := t.engs, sites := t.sites }
  regs : RegsKept [.CFG_SPAN_ERR] s t

namespace RingActs
variable {s t u : State}

theorem refl (s : State) : RingActs s s := ⟨rfl, RegsKept.refl _ s⟩

theorem trans (h : RingActs s t) (g : RingActs t u) : RingActs s u := ⟨by rw [g.rest, h.rest], h.regs.trans g.regs⟩

theorem engUpd (s : State) (e : Nat) (f : EngUnit → EngUnit) : RingActs s (s.engUpd e f) := ⟨rfl, fun _ _ => rfl⟩

theorem siteUpd (s : State) (k : Nat) (f : SiteUnit → SiteUnit) : RingActs s (s.siteUpd k f) := ⟨rfl, fun _ _ => rfl⟩

theorem dbDrop (s : State) (n : Nat) : RingActs s (s.dbDrop n) := ⟨rfl, RegsKept.cnt _ _ (by simp)⟩

theorem spans (h : RingActs s t) : t.spans = s.spans := by rw [h.rest]

theorem substBusy (h : RingActs s t) (e : Nat) : t.substBusy e = s.substBusy e := by rw [h.rest]; rfl

/-- An engine whose row is not under substitution takes a doorbell, or drops it. -/
theorem ringEngine {e : Nat} (h : s.substBusy e = false) (i v ticket : Nat) : RingActs s (s.ringEngine e i v ticket) := by
  unfold State.ringEngine
  extract_lets u entry s1
  have hs1 : RingActs s s1 := (engUpd s e _).trans (siteUpd _ _ _)
  split
  · exact dbDrop s 1
  · split
    · split
      · exact engUpd s e _
      · exact dbDrop s 1
    · rw [if_neg (by simp [h])]
      exact hs1

end RingActs

/-- What START does at an engine of the span: the synchronisation points of the entries begin anew, and its task starts. -/
def State.startEngine (s : State) (l : List Nat) (i arg ticket e : Nat) : State :=
  let s1 := s.engUpd e (fun u => { u with seen := u.seen.filter (fun x => !l.contains (x.1 / 256)) })
  if (((s1.engs.at e).entries[arg]?).getD 0xFFFF) = 0xFFFF ∨ s1.absent e then s1 else s1.ringEngine e i arg ticket

theorem RingActs.startEngine {s : State} {e : Nat} (h : s.substBusy e = false) (l : List Nat) (i arg ticket : Nat) :
    RingActs s (s.startEngine l i arg ticket e) := by
  have hs1 := RingActs.engUpd s e (fun u => { u with seen := u.seen.filter (fun x => !l.contains (x.1 / 256)) })
  unfold State.startEngine
  dsimp only
  split
  · exact hs1
  · exact hs1.trans (.ringEngine ((hs1.substBusy e).trans h) _ _ _)

theorem RingActs.startEngines {l : List Nat} {i arg ticket : Nat} (engs : List Nat) (s : State) (h : ∀ e ∈ engs, s.substBusy e = false) :
    RingActs s (engs.foldl (fun (s : State) e => s.startEngine l i arg ticket e) s) :=
  List.foldlRecOn (motive := RingActs s) engs _ (.refl s) fun _ ht e he => ht.trans (.startEngine ((ht.substBusy e).trans (h e he)) _ _ _ _)

/-- An idle engine begins at the entry point (R75, R131). -/
theorem State.startEngine_task {s : State} {e : Nat} (l : List Nat) (i ticket : Nat) {arg : Nat} (harg : arg < 4) (htask : (s.engs.at e).task = none)
    (habsent : s.absent e = false) (hlen : arg < (s.engs.at e).entries.length) (hentry : nth (s.engs.at e).entries arg ≠ 0xFFFF)
    (hfree : s.substBusy e = false) :
    (((s.startEngine l i arg ticket e).engs.at e).task.map (fun t => (t.pc, t.ticket, t.span))) = some (nth (s.engs.at e).entries arg, ticket, i) := by
  let s1 := s.engUpd e (fun u => { u with seen := u.seen.filter (fun x => !l.contains (x.1 / 256)) })
  have hat : s1.engs.at e = { s.engs.at e with seen := (s.engs.at e).seen.filter (fun x => !l.contains (x.1 / 256)) } :=
    Tab.at_upd_same s.engs e (fun u => { u with seen := u.seen.filter (fun x => !l.contains (x.1 / 256)) })
  have hpoint : ((s1.engs.at e).entries[arg]?).getD 0xFFFF = nth (s.engs.at e).entries arg := by
    rw [hat, nth_eq_getElem hlen]
    dsimp only
    rw [List.getElem?_eq_getElem hlen]
    rfl
  have hnone : (s1.engs.at e).task = none := by rw [hat]; exact htask
  have hnot : ¬ (nth (s.engs.at e).entries arg = 0xFFFF ∨ s1.absent e = true) := by
    rw [show s1.absent e = s.absent e from rfl, habsent]
    simpa using hentry
  have hring : s.startEngine l i arg ticket e = s1.ringEngine e i arg ticket := by
    unfold State.startEngine
    exact if_neg (by rw [hpoint]; exact hnot)
  rw [hring]
  unfold State.ringEngine
  dsimp only
  rw [Nat.mod_eq_of_lt harg, hpoint, if_neg hnot, hnone, if_neg (by simp), if_neg (by rw [show s1.substBusy e = s.substBusy e from rfl, hfree]; simp)]
  dsimp only [State.siteUpd, State.engUpd]
  rw [Tab.at_upd_same]
  rfl

/-- The entries of a subtree running, their points anew. -/
def State.runSpans (s : State) (l : List Nat) : State :=
  l.foldl (fun (s : State) j => s.spanUpd j (fun e => { e with st := .running, fault := 0, sig := [], sigDev := [], rel := [], aborted := [], drained := 0 })) s

/-- Where no entry holds a doorbell, none is delivered. -/
theorem State.deliverHeld_none {l : List Nat} {s : State} (h : ∀ j ∈ l, (s.spans.at j).held = none) : l.foldl State.deliverHeld s = s :=
  List.foldlRecOn (motive := fun t : State => t = s) l _ rfl fun t ht j hj => by rw [ht, State.deliverHeld, h j hj]

theorem exec_spanStart_starts {sp : SpanIx} {arg : Fin 4} {tk : Ticket} {s : State} (hlocal : s.groupTops sp.val = []) (hsp : sp.val ∈ s.subtree sp.val)
    (h : ∀ j ∈ s.subtree sp.val, stIdle (s.spans.at j).st = true ∧ s.underLoading j = false ∧ (s.spans.at j).held = none)
    (hfree : ∀ e ∈ s.entryEngines (s.subtree sp.val), s.substBusy e = false) :
    ∃ u, exec (.spanStart sp arg tk) s = .next u ∧
      (∀ j ∈ s.subtree sp.val, (u.spans.at j).st = .running ∧ (u.spans.at j).fault = 0) ∧
      (∀ j, j ∉ s.subtree sp.val → u.spans.at j = s.spans.at j) ∧
      (∀ e, s.entryEngines (s.subtree sp.val) = [e] → (s.engs.at e).task = none → s.absent e = false →
        arg.val < (s.engs.at e).entries.length → nth (s.engs.at e).entries arg.val ≠ 0xFFFF →
        (u.engs.at e).task.map (fun t => (t.pc, t.ticket, t.span)) =
          some (nth (s.engs.at e).entries arg.val, s.taskTicket tk.val, sp.val)) ∧
      RegsKept [.CFG_SPAN_ERR] s u ∧ u = { s with regs := u.regs, spans := u.spans, engs := u.engs, sites := u.sites } := by
  let running := s.runSpans (s.subtree sp.val)
  let started := (s.entryEngines (s.subtree sp.val)).foldl
    (fun (t : State) e => t.startEngine (s.subtree sp.val) sp.val arg.val (s.taskTicket tk.val) e) running
  have hrunning : running = { s with spans := running.spans } := State.foldl_spanUpd_rest _ s _
  have hat (j : Nat) : running.spans.at j = if j ∈ s.subtree sp.val then
      { s.spans.at j with st := .running, fault := 0, sig := [], sigDev := [], rel := [], aborted := [], drained := 0 } else s.spans.at j :=
    State.foldl_spanUpd_at _ s
      (f := fun e => { e with st := .running, fault := 0, sig := [], sigDev := [], rel := [], aborted := [], drained := 0 }) (fun _ => rfl) j
  have hstarted : RingActs running started := .startEngines _ _ fun e he => by rw [hrunning]; exact hfree e he
  have hspans : started.spans = running.spans := hstarted.spans
  have hstart : s.startSpan sp.val arg.val (s.taskTicket tk.val) = started := by
    unfold State.startSpan
    rw [State.accepting_all hsp fun j hj => ⟨(h j hj).1, (h j hj).2.1⟩]
    refine State.deliverHeld_none (s := started) fun j hj => ?_
    rw [hspans, hat, if_pos hj]
    exact (h j hj).2.2
  rw [exec_spanStart hlocal, hstart]
  refine ⟨_, rfl, fun j hj => ?_, fun j hj => ?_, fun e he htask habsent hlen hentry => ?_, fun r hr => ?_, ?_⟩
  · rw [hspans, hat, if_pos hj]
    exact ⟨rfl, rfl⟩
  · rw [hspans, hat, if_neg hj]
  · dsimp only [started]
    rw [he, List.foldl_cons, List.foldl_nil]
    have hengs : running.engs = s.engs := by rw [hrunning]
    rw [← hengs] at htask hlen hentry ⊢
    exact State.startEngine_task _ _ _ arg.isLt htask (by rw [hrunning]; exact habsent) hlen hentry
      (by rw [hrunning]; exact hfree e (by rw [he]; exact List.mem_singleton.mpr rfl))
  · refine (hstarted.regs r hr).trans ?_
    rw [hrunning]
    rfl
  · refine hstarted.rest.trans ?_
    rw [hspans, hrunning]

/-! ### SPAN_STOP -/

/-- An engine without work. -/
def EngUnit.rests (u : EngUnit) : Prop := u.task = none ∧ u.steps = [] ∧ u.gangs = [] ∧ u.dbq = []

/-- `t` is reached from `s` by ending work: the image stands, no span changes its state, and no engine that rests takes up work. -/
structure HaltActs (s t : State) : Prop where
  image : t.image = s.image
  st : ∀ j, (t.spans.at j).st = (s.spans.at j).st
  rests : ∀ e, (s.engs.at e).rests → (t.engs.at e).rests

namespace HaltActs
variable {s t u : State}

theorem refl (s : State) : HaltActs s s := ⟨rfl, fun _ => rfl, fun _ h => h⟩

theorem trans (h : HaltActs s t) (g : HaltActs t u) : HaltActs s u :=
  ⟨g.image.trans h.image, fun j => (g.st j).trans (h.st j), fun e he => g.rests e (h.rests e he)⟩

theorem ite {p : Prop} [Decidable p] {a b : State} (ha : HaltActs s a) (hb : HaltActs s b) : HaltActs s (if p then a else b) := by
  split
  · exact ha
  · exact hb

theorem foldl {α : Type} {f : State → α → State} (l : List α) (s : State) (hf : ∀ t a, HaltActs t (f t a)) : HaltActs s (l.foldl f s) :=
  List.foldlRecOn (motive := HaltActs s) l f (refl s) fun t ht a _ => ht.trans (hf t a)

/-- What leaves the image, the span table and the engines. -/
theorem of_same (himage : t.image = s.image) (hspans : t.spans = s.spans) (hengs : t.engs = s.engs) : HaltActs s t :=
  ⟨himage, fun j => by rw [hspans], fun e he => by rw [hengs]; exact he⟩

theorem memory (h : MemoryActs s t) : HaltActs s t := of_same (by rw [h.rest]) (by rw [h.rest]) (by rw [h.rest])

theorem slotEnd (s : State) (k c : Nat) : HaltActs s (s.slotEnd k c) := by
  let r : Reg := .GEN_SEQ (Fin.ofNat 64 k)
  let ended := (s.bset r F.GEN_SEQ_ACT false).fset r F.GEN_SEQ_END c
  have hended : HaltActs s ended := of_same rfl rfl rfl
  have hfreed : HaltActs ended { ended with gen := { ended.gen with kv := ended.gen.kv.filter (fun x => x.1 ≠ k) } } := of_same rfl rfl rfl
  exact ite ((hended.trans hfreed).trans (memory (State.kvReturn_acts ended k))) (refl s)

theorem abortPoints (s : State) (i : Nat) (l : List Nat) : HaltActs s (s.abortPoints i l) := by
  refine ⟨rfl, fun j => ?_, fun _ h => h⟩
  rw [State.abortPoints, State.spanUpd, Tab.at_upd]
  split
  · next h => rw [h]
  · rfl

theorem chainTo (s : State) (d cls sp : Nat) (l : List Nat) : HaltActs s (s.chainTo d cls sp l) := of_same rfl rfl rfl

theorem groupSend (s : State) (i cls : Nat) (l : List Nat) : HaltActs s (s.groupSend i cls l) := ite (foldl _ s fun t d => chainTo t d cls i l) (refl s)

theorem syncAbort (s : State) (e : Nat) : HaltActs s (s.syncAbort e) := foldl _ s fun t x =>
  ite (refl t) ((abortPoints t x.1 _).trans (foldl _ _ fun v _ => groupSend v _ _ _))

/-- An engine that is aborted has no work any more. -/
theorem abortEngine (s : State) (e : Nat) : HaltActs s (s.abortEngine e) ∧ ((s.abortEngine e).engs.at e).rests := by
  let s1 := s.engUpd e (fun u => { u with task := none, steps := [], gangs := [], dbq := [], iters := [] })
  have hat (k : Nat) : s1.engs.at k = if k = e then { s.engs.at e with task := none, steps := [], gangs := [], dbq := [], iters := [] } else s.engs.at k :=
    Tab.at_upd s.engs e k (fun u => { u with task := none, steps := [], gangs := [], dbq := [], iters := [] })
  have hs1 : HaltActs s s1 := by
    refine ⟨rfl, fun _ => rfl, fun k hk => ?_⟩
    rw [hat]
    split
    · exact ⟨rfl, rfl, rfl, rfl⟩
    · exact hk
  have hrest : HaltActs s1 (s.abortEngine e) := by
    unfold State.abortEngine
    extract_lets u slots s2 s3
    have hs3 : HaltActs s1 s3 := trans (t := s2) (foldl _ _ fun t k => slotEnd t k 3) (of_same rfl rfl rfl)
    exact ite (hs3.trans (syncAbort _ _)) hs3
  refine ⟨hs1.trans hrest, hrest.rests e ?_⟩
  rw [hat, if_pos rfl]
  exact ⟨rfl, rfl, rfl, rfl⟩

theorem abortEngines (l : List Nat) (s : State) : HaltActs s (l.foldl State.abortEngine s) ∧ ∀ e ∈ l, ((l.foldl State.abortEngine s).engs.at e).rests := by
  induction l generalizing s with
  | nil => exact ⟨refl s, fun _ h => absurd h List.not_mem_nil⟩
  | cons e l ih =>
    obtain ⟨hone, hrests⟩ := abortEngine s e
    obtain ⟨hl, hall⟩ := ih (s.abortEngine e)
    refine ⟨hone.trans hl, fun k hk => ?_⟩
    rcases List.mem_cons.mp hk with rfl | hk
    · exact hl.rests k hrests
    · exact hall k hk

theorem flashForget (s : State) (w : FWho) : HaltActs s (s.flashForget w) :=
  of_same (by rw [(Upkeep.flashForget s w).rest]) (by rw [(Upkeep.flashForget s w).rest]) (by rw [(Upkeep.flashForget s w).rest])

theorem queryFailNow (s : State) (k code zi off : Nat) : HaltActs s (s.queryFailNow k code zi off) := by
  unfold State.queryFailNow
  split
  · exact ite (refl s) ((flashForget s _).trans (of_same rfl rfl rfl))
  · exact refl s

theorem haltWork (s : State) (l : List Nat) : HaltActs s (s.haltWork l) ∧ ∀ e ∈ s.entryEngines l, ((s.haltWork l).engs.at e).rests := by
  unfold State.haltWork
  extract_lets pipes s1 s2
  obtain ⟨h1, hrests⟩ := abortEngines (s.entryEngines l) s
  have h2 : HaltActs s1 s2 := foldl _ s1 fun t q => queryFailNow t _ _ _ _
  have h3 : HaltActs s2 (pipes.foldl (fun (s : State) p => (s.retr.pipes.at p).waiting.foldl State.queryRelease
      (s.pipeUpd p (fun u => { u with waiting := [] }))) s2) := foldl _ s2 fun t p =>
    trans (t := t.pipeUpd p (fun u => { u with waiting := [] })) (of_same rfl rfl rfl) (foldl _ _ fun v k => of_same rfl rfl rfl)
  exact ⟨(h1.trans h2).trans h3, fun e he => h3.rests e (h2.rests e (hrests e he))⟩

theorem modeAbort (s : State) (k : Nat) : HaltActs s (s.modeAbort k) := by
  unfold State.modeAbort
  split
  next c _ =>
    refine ite ?_ (refl s)
    have hshown := (ModeActs.shown s c k (c.answerOf k)).rest
    have hraise (u : State) : HaltActs u (u.raise 17) :=
      of_same (by rw [(Signals.raise u 17).1]) (by rw [(Signals.raise u 17).1]) (by rw [(Signals.raise u 17).1])
    refine trans (trans (t := ((({ s with mode := some { c with phase := 4 } } : State).modeSend c 0xA (c.id + k * 65536) 0).modeAnswer c 0
      (c.answerOf k)).modeShow 4 k c.id) (of_same (by rw [hshown]) (by rw [hshown]) (by rw [hshown])) ?_) (hraise _)
    unfold State.commitShow State.unstage
    exact of_same (by split <;> rfl) (by split <;> rfl) (by split <;> rfl)
  · exact refl s

theorem modeStopped (s : State) (l : List Nat) : HaltActs s (s.modeStopped l) := by
  unfold State.modeStopped
  split
  · exact ite (modeAbort s 4) (refl s)
  · exact refl s

end HaltActs

/-- The members of entries do not depend on their states. -/
theorem State.entryEngines_setSpans (s : State) (l m : List Nat) (x : SpanSt) : (s.setSpans l x).entryEngines m = s.entryEngines m := by
  unfold State.entryEngines
  refine List.flatMap_congr fun j _ => ?_
  rw [State.setSpans_at]
  split <;> rfl

theorem exec_spanStop_stops {sp : SpanIx} {s : State} (hlocal : s.groupTops sp.val = []) (hsp : sp.val ∈ s.subtree sp.val)
    (h : ∀ j ∈ s.subtree sp.val, stBusy (s.spans.at j).st = true ∧ s.underLoading j = false) :
    ∃ u, exec (.spanStop sp) s = .next u ∧ (∀ j ∈ s.subtree sp.val, (u.spans.at j).st = .stopping) ∧
      (∀ e ∈ s.entryEngines (s.subtree sp.val), (u.engs.at e).task = none ∧ (u.engs.at e).steps = [] ∧
        (u.engs.at e).gangs = [] ∧ (u.engs.at e).dbq = []) ∧ u.image = s.image ∧ u.fuses = s.fuses := by
  let stopping := s.setSpans (s.subtree sp.val) .stopping
  have hstop : s.stopSpan sp.val = (stopping.haltWork (s.subtree sp.val)).modeStopped (s.subtree sp.val) := by
    unfold State.stopSpan
    rw [State.accepting_all hsp h]
  obtain ⟨hhalt, hrests⟩ := HaltActs.haltWork stopping (s.subtree sp.val)
  have hmode := HaltActs.modeStopped (stopping.haltWork (s.subtree sp.val)) (s.subtree sp.val)
  have hacts := hhalt.trans hmode
  have hexec := exec_spanStop hlocal
  refine ⟨_, hexec, fun j hj => ?_, fun e he => ?_, ?_, Res.Kept.fuses_eq (Keeps.exec_spanStop (Keeps.rfl s)) hexec⟩
  · rw [hstop, hacts.st, State.setSpans_at, if_pos hj]
  · rw [hstop]
    exact hmode.rests e (hrests e (by rw [State.entryEngines_setSpans]; exact he))
  · rw [hstop, hacts.image]
    dsimp only [stopping]
    rw [State.setSpans_rest]

/-! ### SPAN_UNLOAD -/

/-- `t` is `s` but for registers, the licence in force, the tickets, and what raising sources changes; the identifier of the image stands. -/
structure SettingActs (s t : State) : Prop where
  rest : t = { s with
    regs := t.regs
    icu := t.icu
    sec := t.sec
    tkt := t.tkt
    chain := t.chain
    fns := t.fns
    grp := { s.grp with entries := t.grp.entries }
    ldp := { s.ldp with released := t.ldp.released }
    outbox := t.outbox }
  loadId : t.rget .CFG_LOAD_ID = s.rget .CFG_LOAD_ID

namespace SettingActs
variable {s t u : State}

theorem refl (s : State) : SettingActs s s := ⟨rfl, rfl⟩

theorem trans (h : SettingActs s t) (g : SettingActs t u) : SettingActs s u := ⟨by rw [g.rest, h.rest], g.loadId.trans h.loadId⟩

theorem ite {p : Prop} [Decidable p] {a b : State} (ha : SettingActs s a) (hb : SettingActs s b) : SettingActs s (if p then a else b) := by
  split
  · exact ha
  · exact hb

theorem foldl {α : Type} {f : State → α → State} (l : List α) (s : State) (hf : ∀ t a, SettingActs t (f t a)) : SettingActs s (l.foldl f s) :=
  List.foldlRecOn (motive := SettingActs s) l f (refl s) fun t ht a _ => ht.trans (hf t a)

theorem rset (s : State) {r : Reg} (v : Word) (h : .CFG_LOAD_ID ≠ r) : SettingActs s (s.rset r v) := ⟨rfl, State.rget_rset_other s v h⟩

theorem fset (s : State) {r : Reg} (f : Fld) (v : Nat) (h : .CFG_LOAD_ID ≠ r) : SettingActs s (s.fset r f v) := ⟨rfl, State.rget_fset_other s _ _ h⟩

theorem signals (h : Signals s t) : SettingActs s t := ⟨by rw [h.1], h.2 _ (by simp [signalRegs])⟩

theorem secEvt (s : State) (i : Nat) : SettingActs s (s.secEvt i) := (rset s _ (by simp)).trans (signals (Signals.raise _ _))

theorem licBoot (s : State) : SettingActs s s.licBoot := by
  unfold State.licBoot State.licForce
  extract_lets n old s0 _ s1
  have h0 : SettingActs s s0 := ite (refl s) (fset s _ _ (by simp))
  have h1 : SettingActs s0 s1 := trans (trans (trans (t := { s0 with sec := { s0.sec with lic := s.sec.bootLic } }) ⟨rfl, rfl⟩ (fset _ _ _ (by simp)))
    (fset _ _ _ (by simp))) (rset _ _ (by simp))
  exact ite (h0.trans h1) ((h0.trans h1).trans (secEvt _ _))

theorem level {p : List Reg} (h : LevelActs p s t) (hp : .CFG_LOAD_ID ∉ p) : SettingActs s t := ⟨by rw [h.rest], h.regs _ hp⟩

theorem putStep (s : State) (r t avg step : Nat) : SettingActs s (s.putStep r t avg step) := by
  have h1 : SettingActs s (s.tktUpd r t (fun x => { x with avg := avg, step := step })) := ⟨rfl, rfl⟩
  exact ite (h1.trans (level (LevelActs.throttle (p := []) _ _) List.not_mem_nil)) h1

theorem putTickets (s : State) (l : Option (List (List Byte))) : SettingActs s (s.putTickets l) := by
  have htold (t : State) (k : Fin 16) (a b c : Word) (d : Nat) : SettingActs t ((((t.rset (.TKT_TGT k) a).rset (.TKT_BW0 k) b).rset (.TKT_BW1 k) c).fset
      (.TKT_CLS k) F.TKT_CLS_BASE d) :=
    (((rset t a (by simp)).trans (rset _ b (by simp))).trans (rset _ c (by simp))).trans (fset _ _ d (by simp))
  have hbest (t : State) (k : Nat) : SettingActs t (t.bestEffort k) := fset t _ _ (by simp)
  have hreset (t : State) (k : Nat) : SettingActs t (t.avgReset k) := foldl _ t fun v r => putStep v r k 0 0
  exact (rset s 0 (by simp)).trans (foldl _ _ fun t k => ((htold t _ _ _ _ _).trans (hbest _ _)).trans (hreset _ _))

end SettingActs

/-- Without an image the identifier of the image is 0 and none is loaded; routes and partitions stand. -/
theorem State.noImage_acts (s : State) : ∃ u : State, SettingActs u s.noImage ∧ u.rget .CFG_LOAD_ID = 0 ∧
    u = { s with image := { s.image with loaded := false, grams := [], ring := none, vocab := 0 }, gen := u.gen, regs := u.regs } := by
  unfold State.noImage
  extract_lets _ _ s1 s2
  refine ⟨s2, (SettingActs.foldl _ s2 fun t w => SettingActs.rset t 0 (by simp)).trans (.licBoot _), ?_, rfl⟩
  dsimp only [s2]
  rw [State.rget_fset_other _ _ _ (by simp), State.rget_rset_same]

section Release
variable (s : State) (l : List Nat)

/-- Engines lose their schedules one after the other. -/
theorem State.foldl_engUpd_at {f : EngUnit → EngUnit} (hf : ∀ x, f (f x) = f x) (j : Nat) :
    (l.foldl (fun (s : State) j => s.engUpd j f) s).engs.at j = if j ∈ l then f (s.engs.at j) else s.engs.at j := by
  induction l generalizing s with
  | nil => rfl
  | cons i l ih =>
    rw [List.foldl_cons, ih, State.engUpd, Tab.at_upd]
    by_cases hj : j = i
    · subst hj
      by_cases hl : j ∈ l <;> simp [hl, hf]
    · by_cases hl : j ∈ l <;> simp [hj, hl]

/-- What the release of entries frees (R131, R147). -/
theorem State.release_frees : (∀ j ∈ l, (s.release l).spans.at j = default) ∧
    (∀ e ∈ s.entryEngines l, ((s.release l).engs.at e).entries = [] ∧ ((s.release l).engs.at e).contexts = 0) ∧
    (∀ x ∈ (s.release l).image.routes, x.2.span ∉ l) ∧ (∀ x ∈ (s.release l).image.parts, x.2.span ∉ l) ∧ (s.release l).mem = s.mem := by
  have hrest (t : State) (f : EngUnit → EngUnit) (m : List Nat) : m.foldl (fun (s : State) e => s.engUpd e f) t =
      { t with engs := (m.foldl (fun (s : State) e => s.engUpd e f) t).engs } :=
    List.foldlRecOn (motive := fun v : State => v = { t with engs := v.engs }) m _ rfl fun v hv _ _ => by rw [hv]; rfl
  have hset := s.setSpans_rest l .empty
  unfold State.release
  extract_lets engs s1 gone s2
  have hs1 : s1.mem = s.mem := by
    dsimp only [s1]
    rw [hset]
  refine ⟨fun j hj => ?_, fun e he => ?_, fun x hx => ?_, fun x hx => ?_, ?_⟩
  · rw [hrest]
    show Tab.at (s1.spans.filter (fun e => !gone e.1)) j = default
    by_contra hne
    refine hne ((Tab.at_mem_or _ j).resolve_right fun hmem => ?_)
    have := (List.mem_filter.mp hmem).2
    simp [gone, hj] at this
  · rw [State.foldl_engUpd_at _ engs (f := fun u => { u with contexts := 0, first := 0, nsteps := 0, entries := [], decodes := [], loops := [], seen := [] })
      (fun _ => rfl), if_pos he]
    exact ⟨rfl, rfl⟩
  · rw [hrest] at hx
    have := (List.mem_filter.mp hx).2
    simpa [gone] using this
  · rw [hrest] at hx
    have := (List.mem_filter.mp hx).2
    simpa [gone] using this
  · rw [hrest]
    exact hs1

end Release

theorem State.spanEvent_spans (s : State) (i ev : Nat) : (s.spanEvent i ev).spans = s.spans := by
  unfold State.spanEvent State.ringWrite
  dsimp only
  split
  · rw [(Signals.setLine _ _ _).1]
  · rfl

/-- Looking for DEGRADED flags that have changed leaves an entry that is empty. -/
theorem State.degradeCheck_empty (s : State) {j : Nat} (h : s.spans.at j = default) : s.degradeCheck.spans.at j = default := by
  refine List.foldlRecOn (motive := fun t : State => t.spans.at j = default) _ _ h fun t ht i _ => ?_
  dsimp only
  split
  · exact ht
  next hchanged =>
    have hne : j ≠ i := fun hj => hchanged (.inl (by rw [← hj, ht]; rfl))
    rw [State.spanEvent_spans, State.spanUpd, Tab.at_upd, if_neg hne]
    exact ht

theorem exec_spanUnload_unloads {sp : SpanIx} {s : State} (hlocal : s.groupTops sp.val = []) (hsp : sp.val ∈ s.subtree sp.val)
    (h : ∀ j ∈ s.subtree sp.val, stIdle (s.spans.at j).st = true ∧ s.underLoading j = false) :
    ∃ u, exec (.spanUnload sp) s = .next u ∧ (∀ j ∈ s.subtree sp.val, u.spans.at j = default) ∧
      (∀ e ∈ s.entryEngines (s.subtree sp.val), (u.engs.at e).entries = [] ∧ (u.engs.at e).contexts = 0) ∧
      (∀ x ∈ u.image.routes, x.2.span ∉ s.subtree sp.val) ∧ (∀ x ∈ u.image.parts, x.2.span ∉ s.subtree sp.val) ∧
      (0 ∈ s.subtree sp.val → u.image.loaded = false ∧ u.rget .CFG_LOAD_ID = 0) ∧ u.mem = s.mem ∧ u.fuses = s.fuses := by
  obtain ⟨hspans, hengs, hroutes, hparts, hmem⟩ := s.release_frees (s.subtree sp.val)
  have hexec := exec_spanUnload hlocal
  have hfuses := Res.Kept.fuses_eq (Keeps.exec_spanUnload (Keeps.rfl s)) hexec
  have hends : ∃ t, s.unloadSpan sp.val = t ∧ t.spans = (s.release (s.subtree sp.val)).spans ∧ t.engs = (s.release (s.subtree sp.val)).engs ∧
      t.image.routes = (s.release (s.subtree sp.val)).image.routes ∧ t.image.parts = (s.release (s.subtree sp.val)).image.parts ∧
      t.mem = (s.release (s.subtree sp.val)).mem ∧ (0 ∈ s.subtree sp.val → t.image.loaded = false ∧ t.rget .CFG_LOAD_ID = 0) := by
    refine ⟨_, rfl, ?_⟩
    unfold State.unloadSpan
    rw [State.accepting_all hsp h]
    dsimp only
    generalize s.release (s.subtree sp.val) = r
    split
    · obtain ⟨u, hu, hid, hrest⟩ := r.noImage_acts
      have hall := hu.trans (SettingActs.putTickets r.noImage r.load.bootTickets)
      have hsame := hall.rest
      refine ⟨?_, ?_, ?_, ?_, ?_, fun _ => ⟨?_, ?_⟩⟩
      · rw [hsame, hrest]
      · rw [hsame, hrest]
      · rw [hsame, hrest]
      · rw [hsame, hrest]
      · rw [hsame, hrest]
      · rw [hsame, hrest]
      · rw [hall.loadId, hid]
    · next hroot => exact ⟨rfl, rfl, rfl, rfl, rfl, fun h0 => absurd (by simpa using h0) hroot⟩
  obtain ⟨t, ht, htspans, htengs, htroutes, htparts, htmem, hroot⟩ := hends
  rw [ht] at hexec hfuses
  have hflags := FlagActs.degradeCheck t
  refine ⟨_, hexec, fun j hj => State.degradeCheck_empty t (by rw [htspans]; exact hspans j hj), fun e he => ?_, fun x hx => ?_, fun x hx => ?_, fun h0 => ?_, ?_, hfuses⟩
  · rw [hflags.rest]
    dsimp only
    rw [htengs]
    exact hengs e he
  · rw [hflags.rest] at hx
    exact hroutes x (htroutes ▸ hx)
  · rw [hflags.rest] at hx
    exact hparts x (htparts ▸ hx)
  · refine ⟨?_, (hflags.regs _ (by simp [signalRegs])).trans (hroot h0).2⟩
    rw [hflags.rest]
    exact (hroot h0).1
  · rw [hflags.rest]
    exact htmem.trans hmem

/-! ### Commands turned away, and quiet leaves -/

section TurnedAway
variable {sp : SpanIx} {s : State} (hlocal : s.groupTops sp.val = [])
include hlocal

theorem exec_spanStart_refused (arg : Fin 4) (tk : Ticket) (h : stIdle (s.spans.at sp.val).st = false) : ∃ u, exec (.spanStart sp arg tk) s = .next u ∧
    u.bget .CFG_SPAN_ERR F.CFG_SPAN_ERR_CMD_ERR = true ∧ OnlyRegs [.CFG_SPAN_ERR] s u := by
  have hstart : s.startSpan sp.val arg.val (s.taskTicket tk.val) = s.cmdErr := by
    unfold State.startSpan
    rw [State.accepting_none h]
    rfl
  exact ⟨_, (exec_spanStart hlocal arg tk).trans (by rw [hstart]), s.cmdErr_shows⟩

theorem exec_spanClear_refused (h : stIdle (s.spans.at sp.val).st = false) : ∃ u, exec (.spanClear sp) s = .next u ∧
    u.bget .CFG_SPAN_ERR F.CFG_SPAN_ERR_CMD_ERR = true ∧ OnlyRegs [.CFG_SPAN_ERR] s u := by
  have hclear : s.clearSpan sp.val = s.cmdErr := by
    unfold State.clearSpan
    rw [State.accepting_none h]
    rfl
  exact ⟨_, (exec_spanClear hlocal).trans (by rw [hclear]), s.cmdErr_shows⟩

theorem exec_spanDrain_refused (h : (s.spans.at sp.val).st ≠ .running) : ∃ u, exec (.spanDrain sp) s = .next u ∧
    u.bget .CFG_SPAN_ERR F.CFG_SPAN_ERR_CMD_ERR = true ∧ OnlyRegs [.CFG_SPAN_ERR] s u := by
  have hdrain : s.drainSpan sp.val = s.cmdErr := by
    unfold State.drainSpan
    rw [State.accepting_none (decide_eq_false h)]
    rfl
  exact ⟨_, (exec_spanDrain hlocal).trans (by rw [hdrain]), s.cmdErr_shows⟩

/-- A span whose leaves are all quiet becomes IDLE. -/
theorem exec_spanQuiet_idle (hst : (s.spans.at sp.val).st = .draining ∨ (s.spans.at sp.val).st = .stopping)
    (h : ∀ l ∈ s.leavesOf sp.val, s.quiet (decide ((s.spans.at sp.val).st = .draining)) l = true) :
    ∃ u, exec (.spanQuiet sp) s = .next u ∧ u.spans.at sp.val = { s.spans.at sp.val with st := .idle } ∧
      (∀ j, j ≠ sp.val → u.spans.at j = s.spans.at j) ∧ u = { s with spans := u.spans, retr := u.retr } := by
  have hexec : exec (.spanQuiet sp) s = .next (s.setSpans [sp.val] .idle) := by
    show execSpanQuiet sp s = _
    unfold execSpanQuiet
    dsimp only
    rw [if_pos ⟨by simpa using hst, List.all_eq_true.mpr h⟩, hlocal]
    rfl
  exact ⟨_, hexec, by rw [State.setSpans_at, if_pos (List.mem_singleton.mpr rfl)],
    fun j hj => by rw [State.setSpans_at, if_neg (by simpa using hj)], State.setSpans_rest _ s _⟩

end TurnedAway

theorem exec_spanQuiet_waits {sp : SpanIx} {s : State} (h : ∃ l ∈ s.leavesOf sp.val, s.quiet (decide ((s.spans.at sp.val).st = .draining)) l = false) :
    exec (.spanQuiet sp) s = .next s := by
  obtain ⟨l, hl, hquiet⟩ := h
  refine if_neg fun hall => ?_
  have := List.all_eq_true.mp hall.2 l hl
  rw [hquiet] at this
  exact Bool.false_ne_true this

theorem exec_spanQuiet_other {sp : SpanIx} {s : State} (hdrain : (s.spans.at sp.val).st ≠ .draining) (hstop : (s.spans.at sp.val).st ≠ .stopping) :
    exec (.spanQuiet sp) s = .next s := by
  refine if_neg fun hall => ?_
  rcases hall.1 with h | h
  · exact hdrain (of_decide_eq_true h)
  · exact hstop h

/-- Settles O11, by what each command does with the entries that accept it, one after the other, and by what ending their work and releasing their image
leave. -/
theorem spanCommands : Obligations.SpanCommands :=
  ⟨⟨fun _ _ _ _ hlocal hsp h hfree => exec_spanStart_starts hlocal hsp h hfree, fun _ _ hlocal hsp h => exec_spanStop_stops hlocal hsp h,
      fun _ _ hlocal hsp h => exec_spanDrain_drains hlocal hsp h, fun _ _ hlocal hsp h => exec_spanClear_clears hlocal hsp h,
      fun _ _ hlocal hsp h => exec_spanUnload_unloads hlocal hsp h⟩,
    fun _ arg tk _ hlocal => ⟨fun h => ⟨exec_spanStart_refused hlocal arg tk h, exec_spanClear_refused hlocal h⟩, exec_spanDrain_refused hlocal⟩,
    fun _ _ hst => ⟨fun hlocal h => exec_spanQuiet_idle hlocal hst h, exec_spanQuiet_waits⟩, fun _ _ hdrain hstop => exec_spanQuiet_other hdrain hstop⟩

end Sys2Proof.Machine

namespace Sys2Proof.Machine

/-! PROOFS. Why the statement about the ends of queries fails: the fence of a retrieval engine takes reads from a flash queue (O29; R224, R290, R291). -/

/-- A device with one query, which holds slot 0 of retrieval engine 0 and has asked for a unit of channel 0. -/
def queryAsks : State :=
  State.flashAsk { State.reset with retr := { State.reset.retr with queries := [(0, some { (default : Query) with slots := [(0, 0)] })] } }
    ⟨.query 0, ⟨0, 0, 0, 0, 0⟩, (0, 0), 15, 0, false, 0⟩

/-- The state once retrieval engine 0 is fenced. -/
def engineFenced : State := match exec (.reFence 1 true) queryAsks with
  | .next u => u
  | _ => queryAsks

/-- The level of channel 0's queue is 1 before the fence and 0 after it: the failing query's read leaves the queue. -/
theorem queryAsks_level : queryAsks.rget (.FLC_QLEVEL 0) = 65537 ∧ engineFenced.rget (.FLC_QLEVEL 0) = 65536 := by decide +kernel

/-- Refutes O29: the fence of a retrieval engine fails the queries that use it, whose reads leave their channels' queues, and FLC_QLEVEL follows; the
statement allows no change of it. -/
theorem not_queriesEndAndForward : ¬ Obligations.QueriesEndAndForward := by
  unfold Obligations.QueriesEndAndForward
  intro h
  obtain ⟨-, -, -, -, -, -, -, hfence⟩ := h
  obtain ⟨u, hexec, -, -, -, hregs, -⟩ := hfence 1 true queryAsks
  have hu : engineFenced = u := by
    rw [engineFenced, hexec]
  have hlevel := hregs (.FLC_QLEVEL 0) (by simp [signalRegs])
  rw [← hu, queryAsks_level.1, queryAsks_level.2] at hlevel
  exact absurd hlevel (by decide)

end Sys2Proof.Machine

namespace Sys2Proof.Machine

/-! PROOFS. The host bridge: its functions, its link and what it completes (O39; R341, R345, R346, R348, R349, R352). -/

/-! ### What messages of interrupt targets leave of the bridge -/

/-- `t` is reached from `s` by messages of interrupt targets: the bits of HBR_ERR and the enables of functions stand, a function whose MSI-X is off is as it
was, and what was sent remains sent. -/
structure MessageActs (s t : State) : Prop where
  err : ∀ f : Fld, f.lo + f.len ≤ F.HBR_ERR_COUNT.lo ∨ F.HBR_ERR_COUNT.lo + F.HBR_ERR_COUNT.len ≤ f.lo → t.fget .HBR_ERR f = s.fget .HBR_ERR f
  en : ∀ fn, (t.fns.at fn).en = (s.fns.at fn).en ∧ (t.fns.at fn).fmask = (s.fns.at fn).fmask
  off : ∀ fn, (s.fns.at fn).en = false → t.fns.at fn = s.fns.at fn
  sent : ∀ o ∈ s.outbox, o ∈ t.outbox

namespace MessageActs
variable {s t u : State}

theorem refl (s : State) : MessageActs s s := ⟨fun _ _ => rfl, fun _ => ⟨rfl, rfl⟩, fun _ _ => rfl, fun _ h => h⟩

theorem trans (h : MessageActs s t) (g : MessageActs t u) : MessageActs s u :=
  ⟨fun f hf => (g.err f hf).trans (h.err f hf), fun fn => ⟨(g.en fn).1.trans (h.en fn).1, (g.en fn).2.trans (h.en fn).2⟩,
    fun fn hoff => (g.off fn (((h.en fn).1).trans hoff)).trans (h.off fn hoff), fun o ho => g.sent o (h.sent o ho)⟩

theorem foldl {α : Type} {f : State → α → State} (l : List α) (s : State) (hf : ∀ t a, MessageActs t (f t a)) : MessageActs s (l.foldl f s) :=
  List.foldlRecOn (motive := MessageActs s) l f (refl s) fun t ht a _ => ht.trans (hf t a)

theorem icu (s : State) (i : Icu) : MessageActs s { s with icu := i } := ⟨fun _ _ => rfl, fun _ => ⟨rfl, rfl⟩, fun _ _ => rfl, fun _ h => h⟩

theorem msixOut (s : State) (fn v : Nat) : MessageActs s (s.msixOut fn v) :=
  ⟨fun f _ => State.fget_fset_other s (r := .HBR_TLP_TX) _ f _ (by simp), fun _ => ⟨rfl, rfl⟩, fun _ _ => rfl, fun _ h => List.mem_cons_of_mem _ h⟩

theorem sendMsix (s : State) (t p : Nat) : MessageActs s (s.sendMsix t p) := by
  unfold State.sendMsix
  extract_lets r fn v f
  split
  · exact icu s _
  next hen =>
    split
    · exact ⟨fun g hg => State.fget_fset_field s .HBR_ERR _ g _ (by decide) hg, fun _ => ⟨rfl, rfl⟩, fun _ _ => rfl, fun _ h => h⟩
    · split
      · have hat (k : Nat) : (s.fns.put fn { f with pending := f.pending.insert v }).at k =
            if k = fn then { f with pending := f.pending.insert v } else s.fns.at k := Tab.at_put _ _ _ _
        refine ⟨fun _ _ => rfl, fun k => ?_, fun k hk => ?_, fun _ h => h⟩
        · dsimp only
          rw [hat]
          by_cases hk : k = fn
          · rw [if_pos hk, hk]
            exact ⟨rfl, rfl⟩
          · rw [if_neg hk]
            exact ⟨rfl, rfl⟩
        · have hne : k ≠ fn := fun he => hen (by rw [show f = s.fns.at k from he ▸ rfl, hk]; rfl)
          dsimp only
          rw [hat, if_neg hne]
      · exact msixOut s _ _

theorem deliver (s : State) (t p : Nat) : MessageActs s (s.deliver t p) := by
  unfold State.deliver
  split
  · unfold State.alertBit
    split
    · exact refl s
    · exact ⟨fun f _ => State.fget_fset_other s (r := .LDP_ALERT) _ f _ (by simp), fun _ => ⟨rfl, rfl⟩, fun _ _ => rfl, fun _ h => h⟩
  · split
    · exact sendMsix s t p
    · unfold State.sendIrqFrame
      dsimp only
      split
      · exact ⟨fun _ _ => rfl, fun _ => ⟨rfl, rfl⟩, fun _ _ => rfl, fun _ h => h⟩
      · exact icu s _

theorem present (s : State) (k : Nat) : MessageActs s (s.present k) := foldl _ s fun t n => by
  unfold State.presentTo
  split
  · exact (icu t _).trans (deliver _ _ _)
  · exact refl t

theorem count (s : State) (k : Nat) : MessageActs s (s.count k) := by
  unfold State.count
  dsimp only
  split
  · exact icu s _
  · exact icu s _

theorem raise (s : State) (k : Nat) : MessageActs s (s.raise k) := by
  have h1 := (count s k).trans (present _ k)
  unfold State.raise
  dsimp only
  split
  · exact (h1.trans (count _ 0)).trans (present _ 0)
  · exact h1

theorem sendHeld (s : State) (p : State → Nat → Bool) : MessageActs s (s.sendHeld p) := foldl _ s fun t n => by
  split
  · exact (icu t _).trans (deliver _ _ _)
  · exact refl t

end MessageActs

/-- A message changes no function but its target's. -/
theorem State.sendMsix_others {s : State} {t k : Nat} (hk : k ≠ s.fget (.HBR_TGT (Fin.ofNat 15 t)) F.HBR_TGT_FUNC) (p : Nat) :
    (s.sendMsix t p).fns.at k = s.fns.at k := by
  unfold State.sendMsix
  extract_lets r fn v f
  split
  · rfl
  · split
    · rfl
    · split
      · exact Tab.at_put_other _ _ hk
      · rfl

/-- With BRIDGE_EN the messages held for a function change no other function. -/
theorem State.sendHeld_others {s : State} (hbridge : s.bridgeEn = true) {fn k : Nat} (hk : k ≠ fn) :
    (s.sendHeld (fun s t => s.fget (.HBR_TGT (Fin.ofNat 15 t)) F.HBR_TGT_FUNC = fn)).fns.at k = s.fns.at k := by
  have hstep : ∀ (l : List Nat), (∀ t ∈ l, t < 15) → ∀ (v : State), v.bridgeEn = true →
      (l.foldl (fun (s : State) t => if (s.icu.tgt.at t).held && decide (s.fget (.HBR_TGT (Fin.ofNat 15 t)) F.HBR_TGT_FUNC = fn) then
        (s.tgtUpd t (fun g => { g with held := false })).deliver t (s.icu.tgt.at t).heldPrio else s) v).fns.at k = v.fns.at k := by
    intro l hl
    induction l with
    | nil => exact fun v _ => rfl
    | cons t l ih =>
      intro v hv
      have hout : ∀ w : State, w.bridgeEn = true → (l.foldl _ w).fns.at k = w.fns.at k := ih fun t ht => hl t (List.mem_cons_of_mem _ ht)
      rw [List.foldl_cons]
      split
      next hheld =>
        have hfunc : v.fget (.HBR_TGT (Fin.ofNat 15 t)) F.HBR_TGT_FUNC = fn := of_decide_eq_true (Bool.and_eq_true_iff.mp hheld).2
        have hsend : (v.tgtUpd t (fun g => { g with held := false })).deliver t (v.icu.tgt.at t).heldPrio =
            (v.tgtUpd t (fun g => { g with held := false })).sendMsix t (v.icu.tgt.at t).heldPrio := by
          have := hl t List.mem_cons_self
          exact (if_neg (by omega)).trans (if_pos hv)
        have hsig := Signals.sendMsix (v.tgtUpd t (fun g => { g with held := false })) t (v.icu.tgt.at t).heldPrio
        rw [hsend, hout _ (by rw [hsig.1]; exact hv)]
        exact State.sendMsix_others (s := v.tgtUpd t (fun g => { g with held := false })) (fun he => hk (he.trans hfunc)) _
      next => exact hout v hv
  exact hstep (List.range 15) (fun t ht => List.mem_range.mp ht) s hbridge

/-! ### Configuration requests -/

section
variable {s : State} {fn : Fin 17}

/-- The state in which the bridge has taken a configuration request in. -/
def State.cfgTaken (s : State) : State := (s.tlpRx 1).tlpTx 1

theorem State.cfgTaken_regs (s : State) : OnlyRegs [.HBR_TLP_RX, .HBR_TLP_TX] s s.cfgTaken := (OnlyRegs.fset _ _ (by simp)).trans (OnlyRegs.fset _ _ (by simp))

theorem exec_hostConfigRequest_retry (hup : s.hostUp = true) (hready : s.bget .HBR_STAT F.HBR_STAT_READY = false) (q : CfgReq) :
    exec (.hostConfigRequest fn q) s = .next (s.cfgTaken.reply .retry) := by
  change execHostConfigRequest fn q s = _
  unfold execHostConfigRequest
  rw [if_neg (by simp [hup])]
  exact if_pos (by simp [hready])

theorem exec_hostConfigRequest_ready (hup : s.hostUp = true) (hready : s.bget .HBR_STAT F.HBR_STAT_READY = true) (q : CfgReq) :
    exec (.hostConfigRequest fn q) s = match q with
      | .read => .next (s.cfgTaken.tick.reply (.word (Config.freeWord s.free)))
      | .msix en fmask => .next (((s.cfgTaken.fnUpd fn.val (fun u => { u with en := en, fmask := fmask })).fnFlush fn.val).reply .none)
      | .vector v masked =>
        .next (((s.cfgTaken.fnUpd fn.val (fun u => { u with masked := if masked then u.masked.insert v.val else u.masked.erase v.val })).fnFlush
          fn.val).reply .none)
      | .power d3 => .next ((s.cfgTaken.fnUpd fn.val (fun u => { u with d3 := d3 })).reply .none) := by
  change execHostConfigRequest fn q s = _
  unfold execHostConfigRequest
  rw [if_neg (by simp [hup])]
  dsimp only
  exact (if_neg (by simp [hready])).trans rfl

theorem State.fnFlush_off {n : Nat} (h : (s.fns.at n).en = false) : s.fnFlush n = s := by
  unfold State.fnFlush
  exact if_pos (by simp [h])

theorem State.fnUpd_same (s : State) (n : Nat) (f : FnUnit → FnUnit) : (s.fnUpd n f).fns.at n = f (s.fns.at n) := Tab.at_upd_same _ _ _

theorem State.fnUpd_other (s : State) {n k : Nat} (f : FnUnit → FnUnit) (h : k ≠ n) : (s.fnUpd n f).fns.at k = s.fns.at k :=
  (Tab.at_upd _ _ _ _).trans (if_neg h)

/-- A pending vector of function `n` is sent. -/
def State.vectorSent (s : State) (n v : Nat) : State := (s.fnUpd n (fun x => { x with pending := x.pending.erase v })).msixOut n v

theorem State.vectorSent_same (s : State) (n v : Nat) : (s.vectorSent n v).fns.at n = { s.fns.at n with pending := (s.fns.at n).pending.erase v } :=
  s.fnUpd_same n (fun x => { x with pending := x.pending.erase v })

theorem State.vectorSent_other (s : State) {n k : Nat} (v : Nat) (h : k ≠ n) : (s.vectorSent n v).fns.at k = s.fns.at k :=
  s.fnUpd_other (fun x => { x with pending := x.pending.erase v }) h

/-- What becomes of a function whose MSI-X is enabled, nothing masking the function: its pending vectors are sent (R345). -/
theorem State.fnFlush_on {n : Nat} (hbridge : s.bridgeEn = true) (hen : (s.fns.at n).en = true) (hmask : (s.fns.at n).fmask = false) :
    ((s.fnFlush n).fns.at n).en = true ∧ ((s.fnFlush n).fns.at n).fmask = false ∧
      (∀ v ∈ (s.fns.at n).pending, v ∉ (s.fns.at n).masked → .msix n v ∈ (s.fnFlush n).outbox) ∧
      (∀ k, k ≠ n → (s.fnFlush n).fns.at k = s.fns.at k) ∧ (s.fnFlush n).mem = s.mem := by
  have hfold : ∀ (l : List Nat) (t : State), t.bridgeEn = true →
      let w := l.foldl (fun (s : State) v => s.vectorSent n v) t
      w.bridgeEn = true ∧ (w.fns.at n).en = (t.fns.at n).en ∧ (w.fns.at n).fmask = (t.fns.at n).fmask ∧ (∀ o ∈ t.outbox, o ∈ w.outbox) ∧
        (∀ v ∈ l, .msix n v ∈ w.outbox) ∧ (∀ k, k ≠ n → w.fns.at k = t.fns.at k) ∧ w.mem = t.mem := by
    intro l
    induction l with
    | nil => exact fun t ht => ⟨ht, rfl, rfl, fun _ h => h, by simp, fun _ _ => rfl, rfl⟩
    | cons v l ih =>
      intro t ht
      have hsame := t.vectorSent_same n v
      obtain ⟨h1, h2, h3, h4, h5, h6, h7⟩ := ih (t.vectorSent n v) ht
      refine ⟨h1, h2.trans (by rw [hsame]), h3.trans (by rw [hsame]), fun o ho => h4 o (List.mem_cons_of_mem _ ho), fun x hx => ?_,
        fun k hk => (h6 k hk).trans (t.vectorSent_other v hk), h7⟩
      rcases List.mem_cons.mp hx with rfl | hx
      · exact h4 _ List.mem_cons_self
      · exact h5 x hx
  unfold State.fnFlush
  extract_lets u go s1
  rw [if_neg (by simp [u, hen])]
  obtain ⟨h1, h2, h3, h4, h5, h6, h7⟩ := hfold go s hbridge
  have hsend := MessageActs.sendHeld s1 (fun s t => s.fget (.HBR_TGT (Fin.ofNat 15 t)) F.HBR_TGT_FUNC = n)
  have hsig := Signals.sendHeld s1 (fun s t => s.fget (.HBR_TGT (Fin.ofNat 15 t)) F.HBR_TGT_FUNC = n)
  refine ⟨((hsend.en n).1.trans h2).trans hen, ((hsend.en n).2.trans h3).trans hmask, fun v hv hnot => hsend.sent _ (h5 v ?_),
    fun k hk => (State.sendHeld_others h1 hk).trans (h6 k hk), ?_⟩
  · dsimp only [go]
    rw [if_neg (by simp [u, hmask])]
    exact List.mem_filter.mpr ⟨hv, by simpa [u] using hnot⟩
  · rw [hsig.1]
    exact h7

end

/-! ### The link and the resets of the endpoint -/

/-- The registers of the host link with a rate, a width and a mode. -/
def State.linkShown (s : State) (rate width : Nat) (flit up low : Bool) : State :=
  ((((s.fset .HBR_STAT F.HBR_STAT_RATE rate).fset .HBR_STAT F.HBR_STAT_WIDTH width).bset .HBR_STAT F.HBR_STAT_FLIT flit).bset .HBR_STAT
    F.HBR_STAT_UP up).bset .HBR_STAT F.HBR_STAT_LOW_RATE low

section
variable (s : State) (rate width : Nat) (flit up low : Bool)

theorem State.linkShown_rate : (s.linkShown rate width flit up low).fget .HBR_STAT F.HBR_STAT_RATE = rate % 8 := by
  rw [State.linkShown, State.bset, State.fget_fset_field _ _ _ _ _ (by decide) (by decide), State.bset,
    State.fget_fset_field _ _ _ _ _ (by decide) (by decide), State.bset, State.fget_fset_field _ _ _ _ _ (by decide) (by decide),
    State.fget_fset_field _ _ _ _ _ (by decide) (by decide), State.fget_fset_same _ _ _ _ (by decide)]
  rfl

theorem State.linkShown_width : (s.linkShown rate width flit up low).fget .HBR_STAT F.HBR_STAT_WIDTH = width % 32 := by
  rw [State.linkShown, State.bset, State.fget_fset_field _ _ _ _ _ (by decide) (by decide), State.bset,
    State.fget_fset_field _ _ _ _ _ (by decide) (by decide), State.bset, State.fget_fset_field _ _ _ _ _ (by decide) (by decide),
    State.fget_fset_same _ _ _ _ (by decide)]
  rfl

theorem State.linkShown_flit : (s.linkShown rate width flit up low).bget .HBR_STAT F.HBR_STAT_FLIT = flit := by
  rw [State.linkShown, State.bget_bset_apart _ _ (by decide) (.inr (by decide)), State.bget_bset_apart _ _ (by decide) (.inr (by decide)),
    State.bget_bset_same _ _ _ _ (by decide) (by decide)]

theorem State.linkShown_up : (s.linkShown rate width flit up low).bget .HBR_STAT F.HBR_STAT_UP = up := by
  rw [State.linkShown, State.bget_bset_apart _ _ (by decide) (.inr (by decide)), State.bget_bset_same _ _ _ _ (by decide) (by decide)]

theorem State.linkShown_low : (s.linkShown rate width flit up low).bget .HBR_STAT F.HBR_STAT_LOW_RATE = low :=
  State.bget_bset_same _ _ _ _ (by decide) (by decide)

theorem State.linkShown_ready : (s.linkShown rate width flit up low).bget .HBR_STAT F.HBR_STAT_READY = s.bget .HBR_STAT F.HBR_STAT_READY := by
  rw [State.linkShown, State.bget_bset_apart _ _ (by decide) (.inr (by decide)), State.bget_bset_apart _ _ (by decide) (.inr (by decide)),
    State.bget_bset_apart _ _ (by decide) (.inr (by decide)), State.bget, State.fget_fset_field _ _ _ _ _ (by decide) (by decide),
    State.fget_fset_field _ _ _ _ _ (by decide) (by decide)]
  rfl

theorem State.linkShown_regs : OnlyRegs [.HBR_STAT] s (s.linkShown rate width flit up low) :=
  ((((OnlyRegs.fset _ _ (by simp)).trans (OnlyRegs.fset _ _ (by simp))).trans (OnlyRegs.bset _ _ (by simp))).trans (OnlyRegs.bset _ _ (by simp))).trans
    (OnlyRegs.bset _ _ (by simp))

end

section
variable {s : State} {fn : Fin 17}

theorem exec_hostLinkChange_eq {rate : Fin 7} {width : Fin 17} {flit up : Bool} (hbridge : s.bridgeEn = true) (hperst : s.perst = false)
    (hmain : s.mainOff = false) (hdie : s.dieFenced 11 = false) : ∃ r, r < 7 ∧
      r = (if up then min rate.val (s.fget .HBR_CTL F.HBR_CTL_RATE_MAX) else 0) ∧
      exec (.hostLinkChange rate width flit up) s =
        .next ((s.linkShown r (if up then width.val else 0) (up && flit) up (up && decide (r < 3))).raise 341) := by
  refine ⟨_, ?_, rfl, ?_⟩
  · split <;> omega
  · change execHostLinkChange rate width flit up s = _
    unfold execHostLinkChange
    rw [if_neg (by simp [hbridge, hperst, hmain, hdie])]
    rfl

/-- What a change of the link shows (R341, R350). -/
theorem exec_hostLinkChange_shows {rate : Fin 7} {width : Fin 17} {flit up : Bool} (hbridge : s.bridgeEn = true) (hperst : s.perst = false)
    (hmain : s.mainOff = false) (hdie : s.dieFenced 11 = false) : ∃ u, exec (.hostLinkChange rate width flit up) s = .next u ∧
      u.bget .HBR_STAT F.HBR_STAT_UP = up ∧
      (up = true → u.fget .HBR_STAT F.HBR_STAT_WIDTH = width.val ∧
        u.fget .HBR_STAT F.HBR_STAT_RATE = min rate.val (s.fget .HBR_CTL F.HBR_CTL_RATE_MAX) ∧
        u.bget .HBR_STAT F.HBR_STAT_FLIT = flit ∧
        u.bget .HBR_STAT F.HBR_STAT_LOW_RATE = decide (u.fget .HBR_STAT F.HBR_STAT_RATE < 3)) ∧
      (up = false → u.fget .HBR_STAT F.HBR_STAT_RATE = 0 ∧ u.fget .HBR_STAT F.HBR_STAT_WIDTH = 0) ∧
      u.bget .HBR_STAT F.HBR_STAT_READY = s.bget .HBR_STAT F.HBR_STAT_READY ∧ Raised 341 s u ∧
      RegsKept (.HBR_STAT :: signalRegs) s u ∧ u.mem = s.mem := by
  obtain ⟨r, hlt, hr, hexec⟩ := exec_hostLinkChange_eq (rate := rate) (width := width) (flit := flit) (up := up) hbridge hperst hmain hdie
  have hfree : Reg.HBR_STAT ∉ signalRegs := by simp [signalRegs]
  obtain ⟨hrest, hregs⟩ := s.linkShown_regs r (if up then width.val else 0) (up && flit) up (up && decide (r < 3))
  have hraised := (s.linkShown r (if up then width.val else 0) (up && flit) up (up && decide (r < 3))).raise_raised 341
  refine ⟨_, hexec, ?_, fun hup => ?_, fun hup => ?_, ?_, ?_, ?_, ?_⟩
  · rw [State.raise_bget _ _ hfree, State.linkShown_up]
  · subst hup
    rw [State.raise_fget _ _ hfree, State.raise_fget _ _ hfree, State.raise_bget _ _ hfree, State.raise_bget _ _ hfree, State.linkShown_width,
      State.linkShown_rate, State.linkShown_flit, State.linkShown_low, Nat.mod_eq_of_lt (show r < 8 by omega)]
    exact ⟨Nat.mod_eq_of_lt (by simp only [if_true]; omega), hr, rfl, rfl⟩
  · subst hup
    rw [State.raise_fget _ _ hfree, State.raise_fget _ _ hfree, State.linkShown_width, State.linkShown_rate, hr]
    exact ⟨rfl, rfl⟩
  · rw [State.raise_bget _ _ hfree, State.linkShown_ready]
  · exact hraised
  · exact (hregs.mono (by simp)).trans ((Signals.raise _ 341).2.mono fun r hr => List.mem_cons_of_mem _ hr)
  · rw [(Signals.raise _ 341).1]
    rfl

/-- A function level reset leaves nothing of the function (R348). -/
theorem exec_flr_resets (hup : s.hostUp = true) : ∃ u, exec (.flr fn) s = .next u ∧ u.fns.at fn.val = default ∧ Raised 343 s u ∧ u.mem = s.mem ∧
    RegsKept signalRegs s u := by
  have hexec : exec (.flr fn) s = .next ((s.fnUpd fn.val (fun _ => default)).raise 343) := by
    change execFlr fn s = _
    unfold execFlr
    exact if_neg (by simp [hup])
  have hsame : (s.fnUpd fn.val (fun _ => default)).fns.at fn.val = default := s.fnUpd_same fn.val _
  have hkept : (s.fnUpd fn.val (fun _ => default)).icu = s.icu ∧ (s.fnUpd fn.val (fun _ => default)).mem = s.mem ∧
      RegsKept signalRegs s (s.fnUpd fn.val (fun _ => default)) := ⟨rfl, rfl, fun _ _ => rfl⟩
  rw [hexec]
  generalize s.fnUpd fn.val (fun _ => default) = t at *
  obtain ⟨hicu, hmem, hregs⟩ := hkept
  have hacts := MessageActs.raise t 343
  have hsig := Signals.raise t 343
  have hraised := t.raise_raised 343
  unfold Raised at hraised
  rw [hicu] at hraised
  have hoff : (t.fns.at fn.val).en = false := by rw [hsame]; rfl
  exact ⟨_, rfl, (hacts.off _ hoff).trans hsame, hraised, by rw [hsig.1]; exact hmem, hregs.trans hsig.2⟩

/-- What PERST_N leaves of the endpoint (R348): the requests of devices to host memory are answered with an error. -/
theorem exec_perst_resets (hbridge : s.bridgeEn = true) : ∃ u, exec .perst s = .next u ∧ u.perst = true ∧ u.rget .HBR_STAT = 0 ∧ u.grp.hostq = [] ∧
    u.grp.winReads = [] ∧ u.grp.frames.length = s.grp.frames.length + s.grp.hostq.length ∧
    (s.bget .HBR_STAT F.HBR_STAT_UP = true → 1 ≤ (u.icu.src.at 341).count) ∧ 1 ≤ (u.icu.src.at 343).count ∧
    RegsKept (.HBR_STAT :: signalRegs) s u ∧ u.mem = s.mem ∧ u.grp.winWrites = s.grp.winWrites := by
  have hexec : exec .perst s = execPerst s := rfl
  unfold execPerst at hexec
  rw [if_neg (by simp [hbridge])] at hexec
  have hanswer : ∀ (l : List (Nat × Frame)) (t : State), ∃ fs : List Frame, fs.length = l.length ∧
      l.foldl (fun (s : State) x => s.respond x.2 1 [] []) t = { t with grp := { t.grp with frames := t.grp.frames ++ fs } } := by
    intro l
    induction l using List.reverseRecOn with
    | nil => exact fun t => ⟨[], rfl, by simp⟩
    | append_singleton l x ih =>
      intro t
      obtain ⟨fs, hlen, hfold⟩ := ih t
      obtain ⟨g, hg⟩ : ∃ g, ({ t with grp := { t.grp with frames := t.grp.frames ++ fs } } : State).respond x.2 1 [] [] =
          ({ t with grp := { t.grp with frames := t.grp.frames ++ fs } } : State).frameOut g := ⟨_, rfl⟩
      refine ⟨fs ++ [g], by simp [hlen], ?_⟩
      rw [List.foldl_append, hfold, List.foldl_cons, List.foldl_nil, hg, State.frameOut, ← List.append_assoc]
  obtain ⟨fs, hlen, hfold⟩ := hanswer s.grp.hostq
    { s with perst := true, fns := [], grp := { s.grp with hostq := [], winReads := [], hostHeld := [] } }
  obtain ⟨t, ht⟩ : ∃ t, t = ({ s with perst := true, fns := [], grp := { s.grp with
      hostq := [], winReads := [], hostHeld := [], frames := s.grp.frames ++ fs } } : State) := ⟨_, rfl⟩
  obtain ⟨v, hv, hsig⟩ : ∃ v, v = (if s.bget .HBR_STAT F.HBR_STAT_UP then t.raise 341 else t) ∧ Signals t v := by
    refine ⟨_, rfl, ?_⟩
    split
    · exact Signals.raise _ _
    · exact Signals.refl _
  have hnext : exec .perst s = .next ((v.rset .HBR_STAT 0).raise 343) := by
    rw [hexec, hv, ht]
    exact congrArg (fun w : State => Host.Outcome.next ((State.rset (if s.bget .HBR_STAT F.HBR_STAT_UP then w.raise 341 else w) .HBR_STAT 0).raise 343)) hfold
  have hlast := Signals.raise (v.rset .HBR_STAT 0) 343
  have hgrp : ((v.rset .HBR_STAT 0).raise 343).grp = { t.grp with entries := ((v.rset .HBR_STAT 0).raise 343).grp.entries } := by
    rw [hlast.1]
    dsimp only
    rw [hsig.1]
    rfl
  refine ⟨_, hnext, ?_, ?_, ?_, ?_, ?_, fun hup => ?_, State.raise_count_pos _ _, ?_, ?_, ?_⟩
  · rw [hlast.1]
    dsimp only
    rw [hsig.1, ht]
    rfl
  · rw [State.raise_rget _ _ (by simp [signalRegs]), State.rget_rset_same]
  · rw [hgrp, ht]
  · rw [hgrp, ht]
  · rw [hgrp, ht]
    simp [hlen]
  · rw [State.raise_src_other _ (by decide) (by decide)]
    change 1 ≤ (v.icu.src.at 341).count
    rw [hv, if_pos hup]
    exact State.raise_count_pos _ _
  · have hstat : RegsKept (.HBR_STAT :: signalRegs) v (v.rset .HBR_STAT 0) := RegsKept.rset _ (by simp)
    have hstart : RegsKept (.HBR_STAT :: signalRegs) s t := by
      rw [ht]
      exact fun _ _ => rfl
    exact ((hstart.trans (hsig.2.mono fun r hr => List.mem_cons_of_mem _ hr)).trans hstat).trans (hlast.2.mono fun r hr => List.mem_cons_of_mem _ hr)
  · rw [hlast.1]
    dsimp only
    rw [hsig.1, ht]
    rfl
  · rw [hgrp, ht]

/-- The endpoint after PERST_N: the bridge is ready once its die runs (R348). -/
theorem exec_perstDeassert_readies (s : State) : ∃ u, exec .perstDeassert s = .next u ∧ u.perst = false ∧
    (s.bridgeEn = true → s.dieFenced 11 = false → s.linkOn 1 = true → s.mainOff = false → u.bget .HBR_STAT F.HBR_STAT_READY = true) ∧ u.mem = s.mem ∧
    RegsKept (.HBR_STAT :: signalRegs) s u := by
  have hexec : exec .perstDeassert s = execPerstDeassert s := rfl
  unfold execPerstDeassert at hexec
  by_cases hon : ((({ s with perst := false } : State).linkOn 1 ∨ s.inStandby) ∧ ¬s.mainOff)
  · rw [if_pos hon] at hexec
    refine ⟨_, hexec, rfl, fun hbridge hdie _ _ => ?_, rfl, RegsKept.bset (s := { s with perst := false }) _ _ (by simp)⟩
    refine (State.bget_bset_same _ _ _ _ (by decide) (by decide)).trans ?_
    have hdie' : ({ s with perst := false } : State).dieFenced 11 = false := hdie
    rw [hdie']
    simp [hbridge]
  · rw [if_neg hon] at hexec
    exact ⟨_, hexec, rfl, fun _ _ hlink hmain => absurd ⟨.inl hlink, by simp [hmain]⟩ hon, rfl, fun _ _ => rfl⟩

/-! ### What the host returns -/

theorem exec_hostReadCompletion_unasked {d : Dev} {tag : Fin 65536} {data : Option (List Byte)} (h : ∀ x ∈ s.grp.hostq, ¬(x.1 = d.val ∧ x.2.tag = tag)) :
    exec (.hostReadCompletion d tag data) s = .next s := by
  have hnone : s.grp.hostq.find? (fun x => x.1 = d.val && decide (x.2.tag = tag)) = none :=
    List.find?_eq_none.mpr fun x hx => by simpa using h x hx
  change execHostReadCompletion d tag data s = _
  unfold execHostReadCompletion
  rw [hnone]

/-- The state in which the bridge has taken in what the host returns for its only request. -/
def State.hostReturned (s : State) (n : Nat) : State := ({ s with grp := { s.grp with hostq := [] } } : State).tlpRx n

theorem exec_hostReadCompletion_asked {d : Dev} {tag : Fin 65536} {f : Frame} (hq : s.grp.hostq = [(d.val, f)]) (htag : f.tag = tag) :
    (∀ l, l.length = f.len → exec (.hostReadCompletion d tag (some l)) s =
      .next ((s.hostReturned (max 1 (ceilDiv l.length 512))).respond f 0 l (l.map (fun _ => false)))) ∧
    exec (.hostReadCompletion d tag none) s = .next ((s.hostReturned 1).respond f 1 [] []) := by
  have hfound : s.grp.hostq.find? (fun x => x.1 = d.val && decide (x.2.tag = tag)) = some (d.val, f) := by
    rw [hq, List.find?_cons_of_pos (by simp [htag])]
  have herase : s.grp.hostq.erase (d.val, f) = [] := by rw [hq, List.erase_cons_head]
  refine ⟨fun l hl => ?_, ?_⟩
  · change execHostReadCompletion d tag (some l) s = _
    unfold execHostReadCompletion
    rw [hfound]
    dsimp only
    rw [if_pos hl, herase]
    rfl
  · change execHostReadCompletion d tag none s = _
    unfold execHostReadCompletion
    rw [hfound]
    dsimp only
    rw [herase]
    rfl

end

theorem exec_hostConfigRequest_down {s : State} (h : s.hostUp = false) (fn : Fin 17) (q : CfgReq) : exec (.hostConfigRequest fn q) s = .next s := by
  change execHostConfigRequest fn q s = _
  unfold execHostConfigRequest
  exact if_pos (by simp [h])

/-- Taking a configuration request in changes the counts of TLPs alone. -/
theorem State.cfgTaken_only {s u : State} (hregs : u.regs = s.cfgTaken.regs) {v : State} (hu : u = { v with regs := u.regs }) (hv : v.regs = s.regs) :
    OnlyRegs [.HBR_TLP_RX, .HBR_TLP_TX] v u := by
  refine ⟨hu, fun r hr => ?_⟩
  have h := s.cfgTaken_regs.2 r hr
  unfold State.rget at h ⊢
  rw [hregs, hv]
  exact h

/-- The configuration requests of the host (R341, R345, R346, R348). -/
theorem hostConfigRequests_complete (fn : Fin 17) (s : State) (hup : s.hostUp = true) (hready : s.bget .HBR_STAT F.HBR_STAT_READY = true) :
    (∃ u w, exec (.hostConfigRequest fn .read) s = .next u ∧ u.resp = .word w ∧
      OnlyRegs [.HBR_TLP_RX, .HBR_TLP_TX] { s with resp := u.resp, free := u.free } u) ∧
    (∀ fmask, ∃ u, exec (.hostConfigRequest fn (.msix false fmask)) s = .next u ∧
      u.fns.at fn.val = { s.fns.at fn.val with en := false, fmask := fmask } ∧ (∀ k, k ≠ fn.val → u.fns.at k = s.fns.at k) ∧
      u.resp = .none ∧ OnlyRegs [.HBR_TLP_RX, .HBR_TLP_TX] { s with resp := u.resp, fns := u.fns } u) ∧
    (∃ u, exec (.hostConfigRequest fn (.msix true false)) s = .next u ∧ (u.fns.at fn.val).en = true ∧
      (u.fns.at fn.val).fmask = false ∧ (∀ v ∈ (s.fns.at fn.val).pending, v ∉ (s.fns.at fn.val).masked →
        .msix fn.val v ∈ u.outbox) ∧ (∀ k, k ≠ fn.val → u.fns.at k = s.fns.at k) ∧ u.mem = s.mem) ∧
    (∀ v : Fin 1024, (s.fns.at fn.val).en = false → ∃ u, exec (.hostConfigRequest fn (.vector v true)) s = .next u ∧
      u.fns.at fn.val = { s.fns.at fn.val with masked := (s.fns.at fn.val).masked.insert v.val } ∧
      (∀ k, k ≠ fn.val → u.fns.at k = s.fns.at k) ∧
      OnlyRegs [.HBR_TLP_RX, .HBR_TLP_TX] { s with resp := u.resp, fns := u.fns } u) ∧
    (∀ d3, ∃ u, exec (.hostConfigRequest fn (.power d3)) s = .next u ∧ u.fns.at fn.val = { s.fns.at fn.val with d3 := d3 } ∧
      (∀ k, k ≠ fn.val → u.fns.at k = s.fns.at k) ∧ OnlyRegs [.HBR_TLP_RX, .HBR_TLP_TX] { s with resp := u.resp, fns := u.fns } u) := by
  refine ⟨?read, fun fmask => ?off, ?on, fun v hoff => ?mask, fun d3 => ?power⟩
  case read => exact ⟨_, _, exec_hostConfigRequest_ready hup hready .read, rfl, State.cfgTaken_only (s := s) (by rfl) (by rfl) (by rfl)⟩
  case off =>
    have hsame := s.cfgTaken.fnUpd_same fn.val (fun u => { u with en := false, fmask := fmask })
    have hflush : (s.cfgTaken.fnUpd fn.val (fun u => { u with en := false, fmask := fmask })).fnFlush fn.val =
        s.cfgTaken.fnUpd fn.val (fun u => { u with en := false, fmask := fmask }) := State.fnFlush_off (congrArg FnUnit.en hsame)
    refine ⟨_, exec_hostConfigRequest_ready hup hready (.msix false fmask), ?_⟩
    rw [hflush]
    exact ⟨hsame, fun k hk => s.cfgTaken.fnUpd_other (fun u => { u with en := false, fmask := fmask }) hk, rfl, State.cfgTaken_only (s := s) (by rfl) (by rfl) (by rfl)⟩
  case on =>
    have hsame := s.cfgTaken.fnUpd_same fn.val (fun u => { u with en := true, fmask := false })
    have hbridge : s.bridgeEn = true := by
      unfold State.hostUp at hup
      simp only [Bool.and_eq_true] at hup
      exact hup.1.1.1.1
    obtain ⟨hen, hmask, hsent, hothers, hmem⟩ := State.fnFlush_on (s := s.cfgTaken.fnUpd fn.val (fun u => { u with en := true, fmask := false }))
      hbridge (congrArg FnUnit.en hsame) (congrArg FnUnit.fmask hsame)
    rw [hsame] at hsent
    exact ⟨_, exec_hostConfigRequest_ready hup hready (.msix true false), hen, hmask, hsent,
      fun k hk => (hothers k hk).trans (s.cfgTaken.fnUpd_other (fun u => { u with en := true, fmask := false }) hk), hmem⟩
  case mask =>
    have hsame := s.cfgTaken.fnUpd_same fn.val (fun u => { u with masked := u.masked.insert v.val })
    have hflush : (s.cfgTaken.fnUpd fn.val (fun u => { u with masked := u.masked.insert v.val })).fnFlush fn.val =
        s.cfgTaken.fnUpd fn.val (fun u => { u with masked := u.masked.insert v.val }) := State.fnFlush_off ((congrArg FnUnit.en hsame).trans hoff)
    refine ⟨_, exec_hostConfigRequest_ready hup hready (.vector v true), ?_⟩
    simp only [if_true]
    rw [hflush]
    exact ⟨hsame, fun k hk => s.cfgTaken.fnUpd_other (fun u => { u with masked := u.masked.insert v.val }) hk, State.cfgTaken_only (s := s) (by rfl) (by rfl) (by rfl)⟩
  case power =>
    exact ⟨_, exec_hostConfigRequest_ready hup hready (.power d3), s.cfgTaken.fnUpd_same fn.val (fun u => { u with d3 := d3 }),
      fun k hk => s.cfgTaken.fnUpd_other (fun u => { u with d3 := d3 }) hk, State.cfgTaken_only (s := s) (by rfl) (by rfl) (by rfl)⟩

/-- Settles O39, by the kinds of configuration request, by what a change of the link shows, and by what each reset and each return of data leaves. -/
theorem hostLinkAndFunctionsComplete : Obligations.HostLinkAndFunctionsComplete := by
  refine ⟨fun fn q s => ⟨fun hdown => exec_hostConfigRequest_down hdown fn q, fun hup hready => ?_⟩, hostConfigRequests_complete,
    fun rate width flit up s hbridge hperst hmain hdie => exec_hostLinkChange_shows hbridge hperst hmain hdie, fun s => ⟨fun h => if_pos h, fun h => ?_⟩,
    fun fn s => ⟨fun hdown => ?_, fun hup => exec_flr_resets hup⟩, fun s => ⟨fun h => ?_, fun h => exec_perst_resets h⟩, exec_perstDeassert_readies,
    fun d tag data s => ⟨exec_hostReadCompletion_unasked, fun f hq htag htyp => ⟨fun l hl hlen => ?_, fun hnone => ?_⟩⟩⟩
  · exact ⟨_, exec_hostConfigRequest_retry hup hready q, rfl, State.cfgTaken_only (s := s) (by rfl) (by rfl) (by rfl)⟩
  · exact if_neg (by simp [h])
  · change execFlr fn s = _
    unfold execFlr
    exact if_pos (by simp [hdown])
  · change execPerst s = _
    unfold execPerst
    exact if_pos (by simp [h])
  · subst hl
    have hexec := (exec_hostReadCompletion_asked hq htag).1 l hlen
    refine ⟨_, hexec, ⟨_, rfl, ?_, rfl, rfl, rfl, rfl, rfl, rfl⟩, rfl, RegsKept.wrap (s := { s with grp := { s.grp with hostq := [] } }) _ _ (by simp), rfl⟩
    dsimp only
    rw [if_pos ⟨rfl, htyp⟩]
    rfl
  · subst hnone
    exact ⟨_, (exec_hostReadCompletion_asked hq htag).2, ⟨_, rfl, rfl, rfl, rfl, rfl, rfl, rfl, rfl⟩, rfl,
      RegsKept.wrap (s := { s with grp := { s.grp with hostq := [] } }) _ _ (by simp), rfl⟩

end Sys2Proof.Machine

namespace Sys2Proof.Machine

/-! PROOFS. What interrupts leave of the clock and of the messages that went before (O53; R403, R405): ICU_TICK stands, and messages are added in front. -/

/-- What was sent before `t` stands behind what has been sent since `s`, and no tick has passed. -/
structure SentOn (s t : State) : Prop where
  sent : s.outbox <:+ t.outbox
  tick : t.icu.tick = s.icu.tick

namespace SentOn
variable {s t u : State}

theorem refl (s : State) : SentOn s s := ⟨List.suffix_rfl, rfl⟩

theorem trans (h : SentOn s t) (g : SentOn t u) : SentOn s u := ⟨h.sent.trans g.sent, g.tick.trans h.tick⟩

theorem foldl {α : Type} {f : State → α → State} (l : List α) (s : State) (hf : ∀ t a, SentOn t (f t a)) : SentOn s (l.foldl f s) :=
  List.foldlRecOn (motive := SentOn s) l f (refl s) fun t ht a _ => ht.trans (hf t a)

/-- What leaves the messages and the clock. -/
theorem of_same (hout : t.outbox = s.outbox) (htick : t.icu.tick = s.icu.tick) : SentOn s t := ⟨by rw [hout], htick⟩

theorem srcUpd (s : State) (k : Nat) (f : SrcState → SrcState) : SentOn s (s.srcUpd k f) := of_same rfl rfl

theorem tgtUpd (s : State) (k : Nat) (f : TgtState → TgtState) : SentOn s (s.tgtUpd k f) := of_same rfl rfl

theorem msixOut (s : State) (fn v : Nat) : SentOn s (s.msixOut fn v) := ⟨List.suffix_cons _ _, rfl⟩

theorem sendMsix (s : State) (t p : Nat) : SentOn s (s.sendMsix t p) := by
  unfold State.sendMsix
  extract_lets r fn v f
  split
  · exact tgtUpd s _ _
  · split
    · exact of_same rfl rfl
    · split
      · exact of_same rfl rfl
      · exact msixOut s _ _

theorem sendIrqFrame (s : State) (t p : Nat) : SentOn s (s.sendIrqFrame t p) := by
  unfold State.sendIrqFrame
  dsimp only
  split
  · exact of_same rfl rfl
  · exact tgtUpd s _ _

theorem alertBit (s : State) (f : Fld) : SentOn s (s.alertBit f) := by
  unfold State.alertBit
  split
  · exact refl s
  · exact of_same rfl rfl

theorem deliver (s : State) (t p : Nat) : SentOn s (s.deliver t p) := by
  unfold State.deliver
  split
  · exact alertBit s _
  · split
    · exact sendMsix s t p
    · exact sendIrqFrame s t p

theorem present (s : State) (k : Nat) : SentOn s (s.present k) := foldl _ s fun t n => by
  unfold State.presentTo
  split
  · exact (tgtUpd t n _).trans (deliver _ _ _)
  · exact refl t

theorem count (s : State) (k : Nat) : SentOn s (s.count k) := by
  unfold State.count
  dsimp only
  split
  · exact srcUpd s _ _
  · exact srcUpd s _ _

theorem raise (s : State) (k : Nat) : SentOn s (s.raise k) := by
  have h1 := (count s k).trans (present _ k)
  unfold State.raise
  dsimp only
  split
  · exact (h1.trans (count _ 0)).trans (present _ 0)
  · exact h1

theorem setLine (s : State) (k : Nat) (b : Bool) : SentOn s (s.setLine k b) := by
  unfold State.setLine
  dsimp only
  split
  · exact (srcUpd s k _).trans (raise _ _)
  · exact srcUpd s k _

end SentOn

end Sys2Proof.Machine

namespace Sys2Proof.Machine

/-! PROOFS. An access to memory leaves the bundles and the tickets (R219, R226, R300): only the requests on their way change them. -/

/-! ### Words and blocks -/

/-- The placement loop, the tickets and the bundles stand, what was sent remains sent, and no tick passes. -/
structure WordsKept (s t : State) : Prop where
  place : t.place = s.place
  tkt : t.tkt = s.tkt
  cwy : t.cwy = s.cwy
  sent : s.outbox <:+ t.outbox
  tick : t.icu.tick = s.icu.tick

namespace WordsKept
variable {s t u : State}

theorem refl (s : State) : WordsKept s s := ⟨rfl, rfl, rfl, List.suffix_rfl, rfl⟩

theorem trans (h : WordsKept s t) (g : WordsKept t u) : WordsKept s u :=
  ⟨g.place.trans h.place, g.tkt.trans h.tkt, g.cwy.trans h.cwy, h.sent.trans g.sent, g.tick.trans h.tick⟩

theorem ite {p : Prop} [Decidable p] {a b : State} (h : WordsKept s a) (g : WordsKept s b) : WordsKept s (if p then a else b) := by
  split
  · exact h
  · exact g

theorem foldOver {α β : Type} (g : β → State) (f : β → α → β) (h : ∀ x a, WordsKept (g x) (g (f x a))) (l : List α) (x : β) :
    WordsKept (g x) (g (l.foldl f x)) :=
  List.foldlRecOn (motive := fun y => WordsKept (g x) (g y)) l f (refl _) fun _ hy a _ => hy.trans (h _ a)

theorem raise (s : State) (k : Nat) : WordsKept s (s.raise k) := by
  have h := (Signals.raise s k).1
  exact ⟨by rw [h], by rw [h], by rw [h], (SentOn.raise s k).sent, (SentOn.raise s k).tick⟩

theorem logRec (s : State) (r : LogRec) (ok : Bool) : WordsKept s (s.logRec r ok) := by
  have told (u : State) (f : Fld) : WordsKept u ((u.bset .BUP_STAT f true).raise 9) :=
    trans (t := u.bset .BUP_STAT f true) ⟨rfl, rfl, rfl, List.suffix_rfl, rfl⟩ (raise _ 9)
  unfold State.logRec
  extract_lets _ s0 _ s1
  have h0 : WordsKept s s0 := ⟨rfl, rfl, rfl, List.suffix_rfl, rfl⟩
  have h1 : WordsKept s s1 := ⟨rfl, rfl, rfl, List.suffix_rfl, rfl⟩
  exact ite (ite (h1.trans (told s1 _)) h1) (h0.trans (told s0 _))

theorem withMem (s : State) (m : MemUnit) : WordsKept s (s.withMem m) := ⟨rfl, rfl, rfl, List.suffix_rfl, rfl⟩

theorem foldl {α : Type} (f : State → α → State) (h : ∀ s a, WordsKept s (f s a)) (l : List α) (s : State) : WordsKept s (l.foldl f s) :=
  foldOver id f h l s

theorem settle (s : State) : WordsKept s s.settle := by
  unfold State.settle
  dsimp only
  refine (foldl _ (fun t k => ?_) _ s).trans ((withMem _ _).trans (foldl _ raise _ _))
  split
  · exact logRec t _ _
  · exact refl t

theorem readBlock {hub scrub : Bool} {a : Nat} {x : State × List Nat × List Bool × Word} (h : s.readBlock hub scrub a = some x) : WordsKept s x.1 := by
  unfold State.readBlock at h
  split at h
  · cases h
  · cases h
    exact ⟨rfl, rfl, rfl, List.suffix_rfl, rfl⟩

theorem manifestBad (s : State) (a point : Nat) : WordsKept s (s.manifestBad a point) := by
  unfold State.manifestBad
  dsimp only
  split <;> exact ⟨rfl, rfl, rfl, List.suffix_rfl, rfl⟩

theorem writeCell (s : State) (c : CellRef) (mask w : Nat) (pois : Bool) : WordsKept s (s.writeCell c mask w pois).1 := by
  unfold State.writeCell
  extract_lets r m arm
  split <;> exact ⟨rfl, rfl, rfl, List.suffix_rfl, rfl⟩

theorem mergeRead (s : State) (c : CellRef) (lo hi : Nat) : WordsKept s (s.mergeRead c lo hi).1 := ⟨rfl, rfl, rfl, List.suffix_rfl, rfl⟩

theorem writeBlock (s : State) (c : CellRef) (b lo hi : Nat) (bytes : List Byte) (pois : List Bool) (man : Word) :
    WordsKept s (s.writeBlock c b lo hi bytes pois man).1 := by
  unfold State.writeBlock
  extract_lets words pw put manifested
  have hput (t : State) : WordsKept t (put t).1 := foldOver Prod.fst _ (fun x i => by
    dsimp only
    split
    · exact refl _
    · exact writeCell _ _ _ _ _) _ (t, none, [])
  have hman (t : State) (k : Nat) (v : Word) : WordsKept t (t.withMem (t.mem.setManifest k v)) := ⟨rfl, rfl, rfl, List.suffix_rfl, rfl⟩
  split
  · dsimp only
    split
    · exact (hput s).trans (hman _ _ _)
    · exact hput s
  · split
    · exact hput s
    · split
      · exact (mergeRead s c lo hi).trans (manifestBad _ _ _)
      · exact (mergeRead s c lo hi).trans ((hput _).trans (hman _ _ _))

end WordsKept

/-! ### Reads and writes -/

/-- The tickets and the bundles stand, what was sent remains sent, and no tick passes. -/
structure RoutesKept (s t : State) : Prop where
  tkt : t.tkt = s.tkt
  cwy : t.cwy = s.cwy
  sent : s.outbox <:+ t.outbox
  tick : t.icu.tick = s.icu.tick

theorem WordsKept.routes {s t : State} (h : WordsKept s t) : RoutesKept s t := ⟨h.tkt, h.cwy, h.sent, h.tick⟩

namespace RoutesKept
variable {s t u : State}

theorem refl (s : State) : RoutesKept s s := ⟨rfl, rfl, List.suffix_rfl, rfl⟩

theorem trans (h : RoutesKept s t) (g : RoutesKept t u) : RoutesKept s u :=
  ⟨g.tkt.trans h.tkt, g.cwy.trans h.cwy, h.sent.trans g.sent, g.tick.trans h.tick⟩

theorem foldOver {α β : Type} (g : β → State) (f : β → α → β) (h : ∀ x a, RoutesKept (g x) (g (f x a))) (l : List α) (x : β) :
    RoutesKept (g x) (g (l.foldl f x)) :=
  List.foldlRecOn (motive := fun y => RoutesKept (g x) (g y)) l f (refl _) fun _ hy a _ => hy.trans (h _ a)

theorem stackCount (s : State) (rd : Bool) (a n : Nat) : RoutesKept s (s.stackCount rd a n) := by
  unfold State.stackCount
  split
  · split
    · cases rd
      · exact ⟨rfl, rfl, List.suffix_rfl, rfl⟩
      · dsimp only
        generalize hu : s.rset (if true = true then _ else _) _ = u
        have h : RoutesKept s u := by
          subst hu
          exact ⟨rfl, rfl, List.suffix_rfl, rfl⟩
        rw [if_pos rfl]
        split
        · exact h.trans (WordsKept.withMem u _).routes
        · exact h.trans (WordsKept.withMem u _).routes
    · exact refl s
  · exact refl s

theorem placeCount (s : State) (a n : Nat) : RoutesKept s (s.placeCount a n) := by
  unfold State.placeCount
  split
  · split <;> exact ⟨rfl, rfl, List.suffix_rfl, rfl⟩
  · exact refl s

theorem pageDemote (s : State) (b : Nat) : RoutesKept s (s.pageDemote b) := by
  unfold State.pageDemote
  split <;> exact ⟨rfl, rfl, List.suffix_rfl, rfl⟩

theorem readPart {hub : Bool} {point b lo hi : Nat} {x : State × Part256} (h : s.readPart hub point b lo hi = some x) : RoutesKept s x.1 := by
  unfold State.readPart at h
  split at h
  · split at h
    · cases h
    · obtain ⟨l, -, rfl⟩ := Option.map_eq_some_iff.mp h
      exact refl s
  · extract_lets src got0 demote st0 at h
    split at h
    · cases h
    · have hsrc : ∀ x, got0 = some x → RoutesKept s x.1 := fun x h => (WordsKept.readBlock h).routes
      have hst0 : RoutesKept s st0 := by
        dsimp only [st0]
        cases hgot : got0 with
        | none =>
          cases demote
          · exact refl s
          · exact pageDemote s b
        | some g =>
          cases demote
          · exact refl s
          · exact (hsrc g hgot).trans (pageDemote _ b)
      have hgot : ∀ x, (if demote = true then st0.readBlock hub false b else got0) = some x → RoutesKept s x.1 := by
        intro x h
        split at h
        · exact hst0.trans (WordsKept.readBlock h).routes
        · exact hsrc x h
      split at h
      · cases h
      · next st ws ps man hx =>
        have hst : RoutesKept s st := hgot _ hx
        cases h
        exact hst.trans ((WordsKept.ite (.manifestBad _ _ _) (.refl _)).routes.trans (stackCount _ _ _ _))

theorem readAt (s : State) (hub : Bool) (point a n : Nat) : RoutesKept s (s.readAt hub point a n).st := by
  unfold State.readAt
  extract_lets u
  have h0 : RoutesKept s u := by
    dsimp only [u]
    split
    · exact refl s
    · exact placeCount s a n
  refine h0.trans (foldOver Read.st _ (fun r b => ?_) _ ⟨u, [], [], [], none, none, []⟩)
  split
  · exact refl _
  · split
    · exact refl _
    · next h => exact readPart h

theorem writeAt (s : State) (hub : Bool) (a : Nat) (data : List Byte) (pois : List Bool) (mans : List Word) :
    RoutesKept s (s.writeAt hub a data pois mans).st := by
  unfold State.writeAt
  extract_lets n one
  have hone (t : State) (hub : Bool) (dst b j : Nat) : RoutesKept t (one t hub dst b j).1 := by
    dsimp only [one]
    split
    · exact refl t
    · exact (stackCount _ _ _ _).trans (WordsKept.writeBlock _ _ _ _ _ _ _ _).routes
  refine foldOver Write.st _ (fun w bj => ?_) _ ⟨s, none, none⟩
  dsimp only
  split
  · exact refl _
  · split
    · exact refl _
    · dsimp only
      split
      · split
        · exact (hone _ _ _ _ _).trans ((hone _ _ _ _ _).trans (pageDemote _ _))
        · exact (hone _ _ _ _ _).trans (hone _ _ _ _ _)
      · exact hone _ _ _ _ _

end RoutesKept

/-! ### The paths of memory -/

namespace PathsKept
variable {s t : State}

theorem of_access (h : MemoryActs s t) (g : RoutesKept s t) : PathsKept s t :=
  of_eq (fun b => h.regs _ (by simp [memoryRegs, signalRegs, passRegs])) g.cwy (by rw [h.rest]) (by rw [g.tkt])

theorem readAt (s : State) (hub : Bool) (point a n : Nat) : PathsKept s (s.readAt hub point a n).st := of_access (.readAt s hub point a n) (.readAt s hub point a n)

theorem writeAt (s : State) (hub : Bool) (a : Nat) (data : List Byte) (pois : List Bool) (mans : List Word) :
    PathsKept s (s.writeAt hub a data pois mans).st := of_access (.writeAt s hub a data pois mans) (.writeAt s hub a data pois mans)

/-- Where the paths are free, so are they after the hub's own accesses: these go on. -/
theorem hubPass (hs : PathsFree s) (rd : Bool) (a n : Nat) : PathsKept s (s.hubPass rd a n) := by
  obtain ⟨u, hu, hkept⟩ := State.pass_ok (q := .hub) (k := 0) hs.1 rfl (fun r => hs.2 _ r _) rd a n
  unfold State.hubPass
  rw [hu]
  exact hkept

theorem hubRead (hs : PathsFree s) (a n : Nat) : PathsKept s (s.hubRead a n).st := (hubPass hs true a n).trans ((readAt _ _ _ _ _).trans (settle _))

theorem hubWrite (hs : PathsFree s) (a : Nat) (data : List Byte) : PathsKept s (s.hubWrite a data) := by
  refine (hubPass hs false a data.length).trans ?_
  unfold State.hubWrite State.hubLay
  dsimp only
  refine PathsKept.trans ?_ (settle _)
  split
  · exact (writeAt _ _ _ _ _ _).trans (of_eq (fun _ => rfl) rfl rfl rfl)
  · exact writeAt _ _ _ _ _ _

end PathsKept

end Sys2Proof.Machine

namespace Sys2Proof.Machine

/-! PROOFS. Queries are admitted, take their units and rounds (O28; R267, R271, R277, R278, R282, R283). -/

/-! ### What a search asks for (R271, R277, R278, R282) -/

/-- `t` is `s` but for what the search of query `k` changes: the queues of flash, whose delivered units only get fewer, and query `k`, of which `v`
is left. -/
structure SearchActs {α : Type} (v : Query → α) (k : Nat) (s t : State) : Prop where
  rest : t = { s with regs := t.regs, flash := t.flash, tkt := t.tkt, chain := t.chain, retr := t.retr }
  regs : RegsKept flcLevels s t
  pipes : t.retr.pipes = s.retr.pipes
  done : t.flash.done ⊆ s.flash.done
  query : (t.retr.queries.at k).map v = (s.retr.queries.at k).map v

/-- What asking for units leaves of a query. -/
def Query.core (q : Query) : (Nat × Nat × Nat × Nat × Nat) × List (Nat × List Byte × Nat) × Tab (List QRec) × List Nat × Nat :=
  ((q.pipe, q.ix, q.ticket, q.stage, q.units), q.sel, q.heaps, q.visited, q.evals)

namespace SearchActs
variable {α β : Type} {v : Query → α} {k : Nat} {s t u : State}

theorem refl (s : State) : SearchActs v k s s := ⟨rfl, RegsKept.refl _ s, rfl, List.Subset.refl _, rfl⟩

theorem trans (h : SearchActs v k s t) (g : SearchActs v k t u) : SearchActs v k s u :=
  ⟨by rw [g.rest, h.rest], h.regs.trans g.regs, g.pipes.trans h.pipes, List.Subset.trans g.done h.done, g.query.trans h.query⟩

theorem ite {p : Prop} [Decidable p] {a b : State} (ha : SearchActs v k s a) (hb : SearchActs v k s b) : SearchActs v k s (if p then a else b) := by
  split
  · exact ha
  · exact hb

theorem foldl {ι : Type} {f : State → ι → State} (l : List ι) (s : State) (hf : ∀ t a, SearchActs v k t (f t a)) : SearchActs v k s (l.foldl f s) :=
  List.foldlRecOn (motive := SearchActs v k s) l f (refl s) fun t ht a _ => ht.trans (hf t a)

/-- What leaves `v` of the query leaves any part of it. -/
theorem part (h : SearchActs v k s t) (g : α → β) : SearchActs (g ∘ v) k s t := by
  refine ⟨h.rest, h.regs, h.pipes, h.done, ?_⟩
  rw [← Option.map_map, ← Option.map_map, h.query]

/-- A change of the query that leaves `v` of it. -/
theorem qUpd (s : State) {f : Query → Query} (hf : ∀ q, v (f q) = v q) : SearchActs v k s (s.qUpd k f) := by
  refine ⟨rfl, RegsKept.refl _ s, rfl, List.Subset.refl _, ?_⟩
  rw [State.qUpd, Tab.at_upd_same, Option.map_map, show v ∘ f = v from funext hf]

/-- Upkeep of the queues leaves queries. -/
theorem upkeep (h : Upkeep s t) (hdone : t.flash.done ⊆ s.flash.done) : SearchActs v k s t := by
  have hretr : t.retr = s.retr := by rw [h.rest]
  exact ⟨by rw [h.rest], h.regs, by rw [hretr], hdone, by rw [hretr]⟩

theorem flashAsk (s : State) (q : FReq) : SearchActs v k s (s.flashAsk q) := by
  refine upkeep (Upkeep.flashAsk s q) ?_
  rw [State.flashAsk, State.flashQueue_queue]
  exact List.Subset.refl _

theorem flashForget (s : State) (w : FWho) : SearchActs v k s (s.flashForget w) := by
  refine upkeep (Upkeep.flashForget s w) ?_
  unfold State.flashForget
  extract_lets mine hit
  rw [(LevelActs.flashLevels _ hit).flash]
  exact List.filter_subset_self _

theorem queryFailNow (s : State) (code zi off : Nat) : SearchActs Query.core k s (s.queryFailNow k code zi off) := by
  unfold State.queryFailNow
  split
  · exact ite (refl s) ((flashForget s _).trans (qUpd _ fun _ => rfl))
  · exact refl s

theorem qAsk (s : State) (zi n re : Nat) (tag : Nat × Nat) : SearchActs Query.core k s (s.qAsk k zi n re tag) := by
  unfold State.qAsk
  split
  · refine ite (refl s) ?_
    split
    · exact ite ((flashAsk s _).trans (qUpd _ fun _ => rfl)) (queryFailNow s _ _ _)
    · exact queryFailNow s _ _ _
  · exact refl s

theorem scanFeed (fuel : Nat) : ∀ s : State, SearchActs Query.core k s (s.scanFeed k fuel) := by
  induction fuel with
  | zero => exact refl
  | succ n ih =>
    intro s
    unfold State.scanFeed
    split
    · refine ite (refl s) ?_
      split
      · refine ((qUpd s ?_).trans (qAsk _ _ _ _ _)).trans (ih _)
        exact fun _ => rfl
      · exact refl s
    · exact refl s

theorem lexFeed (fuel : Nat) : ∀ s : State, SearchActs Query.core k s (s.lexFeed k fuel) := by
  induction fuel with
  | zero => exact refl
  | succ n ih =>
    intro s
    unfold State.lexFeed
    split
    · refine ite (refl s) ?_
      dsimp only
      split
      · refine ((qUpd s ?_).trans (qAsk _ _ _ _ _)).trans (ih _)
        exact fun _ => rfl
      · exact refl s
    · exact refl s

theorem walkSelect (s : State) : SearchActs Query.core k s (s.walkSelect k) := by
  unfold State.walkSelect
  split
  · dsimp only
    refine ite (refl s) (ite (qUpd s fun _ => rfl) (ite (qUpd s fun _ => rfl) (ite (queryFailNow s _ _ _)
      ((qUpd s ?_).trans (foldl _ _ fun t n => qAsk t _ _ _ _)))))
    exact fun _ => rfl
  · exact refl s

/-- What is left of the query. -/
theorem query_of {q : Query} (h : SearchActs v k s t) (hq : s.retr.queries.at k = some q) : ∃ q', t.retr.queries.at k = some q' ∧ v q' = v q := by
  have hmap := h.query
  rw [hq] at hmap
  obtain ⟨q', hq', hv⟩ := Option.map_eq_some_iff.mp hmap
  exact ⟨q', hq', hv⟩

theorem spans (h : SearchActs v k s t) : t.spans = s.spans := by rw [h.rest]
theorem mem (h : SearchActs v k s t) : t.mem = s.mem := by rw [h.rest]

end SearchActs

/-! ### RESULT_READ_ADVANCE (R283) -/

theorem exec_resultReadAdvance_moves (p : Fin 64) (v : Word) (s : State) :
    ((s.pipe p.val).valid = false → exec (.resultReadAdvance p v) s = .next s) ∧
    ((s.pipe p.val).valid = true → ahead (s.rrd p.val) v.toNat ≤ ahead (s.rrd p.val) (s.qrd p.val) →
      ∃ u, exec (.resultReadAdvance p v) s = .next u ∧ u.rget (.RTV_RRD p) = v ∧ OnlyRegs [.RTV_RRD p] s u) ∧
    ((s.pipe p.val).valid = true → ahead (s.rrd p.val) (s.qrd p.val) < ahead (s.rrd p.val) v.toNat →
      ∃ u, exec (.resultReadAdvance p v) s = .next u ∧ u.bget .RTV_EVT F.RTV_EVT_OVR = true ∧ OnlyRegs [.RTV_EVT] s u) := by
  refine ⟨fun hvalid => if_pos (by rw [hvalid]; rfl), fun hvalid hahead => ?_, fun hvalid hahead => ?_⟩
  · have hexec : exec (.resultReadAdvance p v) s = .next (s.rset (.RTV_RRD p) v) := (if_neg (by rw [hvalid]; decide)).trans (if_pos hahead)
    exact ⟨_, hexec, State.rget_rset_same _ _ _, OnlyRegs.rset v (by simp)⟩
  · have hexec : exec (.resultReadAdvance p v) s = .next (s.bset .RTV_EVT F.RTV_EVT_OVR true) :=
      (if_neg (by rw [hvalid]; decide)).trans (if_neg (by omega))
    exact ⟨_, hexec, State.bget_bset_same _ _ _ _ (by decide) (by decide), OnlyRegs.bset _ _ (by simp)⟩

/-! ### WALK_ROUND (R278) -/

section WalkRound
variable {p : Fin 64} {i : Word} {s : State} {q : Query} (hq : s.retr.queries.at (qkey p.val i.toNat) = some q) (hfail : q.fail = none) (hfin : q.fin = none)
  (hsel : q.sel ≠ []) (hall : q.sel.length = (q.list.filter (fun x => x.st = .reading)).length)
include hq hfail hfin hsel hall

theorem exec_walkRound : exec (.walkRound p i) s = (match ({ q with sel := [] } : Query).expandAll q.desc (q.sel.foldr nodeIns []) with
    | .error n => .next (s.queryFailNow (qkey p.val i.toNat) 0x08 (q.place (n, 0)).1 (q.place (n, 0)).2)
    | .ok q1 => .next (({ s with retr := { s.retr with queries := s.retr.queries.put (qkey p.val i.toNat) (some q1) } } : State).walkSelect
        (qkey p.val i.toNat))) := by
  show execWalkRound p i s = _
  unfold execWalkRound
  dsimp only
  rw [hq]
  dsimp only
  exact (if_neg (by simp [hfail, hfin, hsel, hall])).trans rfl

/-- The next round begins with what the nodes of this one have given. -/
theorem exec_walkRound_goesOn {q1 : Query} (hexpand : ({ q with sel := [] } : Query).expandAll q.desc (q.sel.foldr nodeIns []) = .ok q1) :
    ∃ u q', exec (.walkRound p i) s = .next u ∧ u.retr.queries.at (qkey p.val i.toNat) = some q' ∧ q'.sel = q1.sel ∧
      q'.heaps = q1.heaps ∧ q'.visited = q1.visited ∧ q'.evals = q1.evals ∧ u.spans = s.spans ∧ u.mem = s.mem := by
  let taken : State := { s with retr := { s.retr with queries := s.retr.queries.put (qkey p.val i.toNat) (some q1) } }
  have hacts := SearchActs.walkSelect (k := qkey p.val i.toNat) taken
  obtain ⟨q', hq', hcore⟩ := hacts.query_of (q := q1) (Tab.at_put_same s.retr.queries _ (some q1))
  simp only [Query.core, Prod.mk.injEq] at hcore
  obtain ⟨-, hsel', hheaps, hvisited, hevals⟩ := hcore
  have hexec := exec_walkRound hq hfail hfin hsel hall
  rw [hexpand] at hexec
  exact ⟨_, q', hexec, hq', hsel', hheaps, hvisited, hevals, hacts.spans, hacts.mem⟩

/-- A node whose neighbours leave its record fails the query. -/
theorem exec_walkRound_fails {n : Nat} (hexpand : ({ q with sel := [] } : Query).expandAll q.desc (q.sel.foldr nodeIns []) = .error n) (hstage : q.stage = 0) :
    ∃ u q', exec (.walkRound p i) s = .next u ∧ u.retr.queries.at (qkey p.val i.toNat) = some q' ∧ q'.fail = some 0x08 ∧
      u.spans = s.spans ∧ u.mem = s.mem := by
  have hacts := SearchActs.queryFailNow (k := qkey p.val i.toNat) s 0x08 (q.place (n, 0)).1 (q.place (n, 0)).2
  have hexec := exec_walkRound hq hfail hfin hsel hall
  rw [hexpand] at hexec
  have hfailed : ∃ q', (s.queryFailNow (qkey p.val i.toNat) 0x08 (q.place (n, 0)).1 (q.place (n, 0)).2).retr.queries.at (qkey p.val i.toNat) = some q' ∧
      q'.fail = some 0x08 := by
    have hforget := (SearchActs.flashForget (v := id) (k := qkey p.val i.toNat) s (.query (qkey p.val i.toNat))).query
    unfold State.queryFailNow
    rw [hq]
    dsimp only
    rw [if_neg (by simp [hfail, hstage]), State.qUpd, Tab.at_upd_same]
    rw [Option.map_id, id, id, hq] at hforget
    rw [hforget]
    exact ⟨_, rfl, rfl⟩
  obtain ⟨q', hq', hcode⟩ := hfailed
  exact ⟨_, q', hexec, hq', hcode, hacts.spans, hacts.mem⟩

end WalkRound

/-! ### UNIT_DELIVERED (R277, R278, R282, R290) -/

theorem State.nextUnit_eq {s s1 : State} {k : Nat} {d : FDone} (h : s.nextUnit k = some (d, s1)) :
    s1 = s.flashUpd (fun f => { f with done := f.done.erase d }) := by
  unfold State.nextUnit at h
  split at h
  · cases h
  · cases h
    rfl

theorem Query.takeRec_units (q : Query) (d : QDesc) (h : Nat) (r : List Byte) : (q.takeRec d h r).units = q.units := by
  unfold Query.takeRec
  split <;> rfl

theorem Query.takeUnit_units (q : Query) (d : QDesc) (e : Nat) (data : List Byte) : (q.takeUnit d e data).units = q.units := by
  unfold Query.takeUnit
  exact List.foldlRecOn (motive := fun x : Query => x.units = q.units) _ _ rfl fun x hx r _ => (Query.takeRec_units _ _ _ _).trans hx

theorem Query.takePosts_units {q q1 : Query} {d : QDesc} {j t : Nat} {data : List Byte} (h : q.takePosts d j t data = some q1) : q1.units = q.units := by
  unfold Query.takePosts at h
  dsimp only at h
  split at h
  · cases h
  · cases h
    rfl

/-- What is left of a query's count of units. -/
theorem SearchActs.units {k : Nat} {s t : State} (h : SearchActs Query.core k s t) : SearchActs Query.units k s t :=
  h.part (fun c => c.1.2.2.2.2)

/-- The query with a unit more, which counts for its pipeline too. -/
def State.unitCounted (s : State) (k p : Nat) : State :=
  (s.qUpd k (fun q => { q with fly := q.fly - 1, units := q.units + 1 })).pipeUpd p (fun x => { x with cntU := (x.cntU + 1) % 2 ^ 32 })

/-- Once it is counted, the use of a unit leaves the counts. -/
theorem SearchActs.useUnit (s : State) {k p : Nat} {q : Query} (hq : s.retr.queries.at k = some q) (u : FDone) :
    SearchActs Query.units k (s.unitCounted k p) (s.useUnit k p q u) := by
  have hfails (t : State) (code zi off : Nat) : SearchActs Query.units k t (t.queryFailNow k code zi off) := (queryFailNow t code zi off).units
  have hcounted : (s.unitCounted k p).retr.queries.at k = some { q with fly := q.fly - 1, units := q.units + 1 } := by
    show (s.retr.queries.upd k (Option.map (fun q => { q with fly := q.fly - 1, units := q.units + 1 }))).at k = _
    rw [Tab.at_upd_same, hq]
    rfl
  unfold State.useUnit
  extract_lets d s0 zo spare s1
  change SearchActs Query.units k s0 _
  refine ite (refl s0) (ite (hfails s0 _ _ _) (ite (hfails s0 _ _ _) (ite ?scan (ite ?walk ?lexical))))
  case scan =>
    have htaken : SearchActs Query.units k s0 (s0.qUpd k (fun q => q.takeUnit d u.re u.code.data)) := qUpd s0 fun q => Query.takeUnit_units q _ _ _
    refine (htaken.trans (scanFeed 64 _).units).trans (qUpd _ fun q => ?_)
    split <;> rfl
  case walk =>
    split
    · exact qUpd s0 fun _ => rfl
    · exact hfails s0 _ _ _
  case lexical =>
    split
    · exact hfails s0 _ _ _
    next q1 hposts =>
      have hunits : q1.units = q.units + 1 := by
        rw [show s0.retr.queries.at k = _ from hcounted] at hposts
        exact Query.takePosts_units hposts
      have htaken : SearchActs Query.units k s0 { s0 with retr := { s0.retr with queries := s0.retr.queries.put k (some q1) } } := by
        refine ⟨rfl, RegsKept.refl _ s0, rfl, List.Subset.refl _, ?_⟩
        dsimp only
        rw [Tab.at_put_same, show s0.retr.queries.at k = _ from hcounted]
        exact congrArg some hunits
      exact ite (htaken.trans (qUpd _ fun _ => rfl)) (htaken.trans (lexFeed 64 _).units)

section UnitDelivered
variable {p : Fin 64} {i : Word} {s s1 : State} {q : Query} {d : FDone} (hq : s.retr.queries.at (qkey p.val i.toNat) = some q)
  (hnext : s.nextUnit (qkey p.val i.toNat) = some (d, s1))
include hq hnext

theorem exec_unitDelivered_discards (hfail : q.fail.isSome = true) : ∃ u, exec (.unitDelivered p i) s = .next u ∧
    u.retr.queries.at (qkey p.val i.toNat) = some { q with fly := q.fly - 1 } ∧ u.flash.done = s.flash.done.erase d ∧
    u = { s with flash := u.flash, retr := u.retr } := by
  have hexec : exec (.unitDelivered p i) s = .next (s1.qUpd (qkey p.val i.toNat) (fun q => { q with fly := q.fly - 1 })) := by
    show execUnitDelivered p i s = _
    unfold execUnitDelivered
    dsimp only
    rw [hq, hnext]
    exact if_pos hfail
  have hs1 := State.nextUnit_eq hnext
  subst hs1
  refine ⟨_, hexec, ?_, rfl, rfl⟩
  show (s.retr.queries.upd _ (Option.map (fun q => { q with fly := q.fly - 1 }))).at _ = _
  rw [Tab.at_upd_same, hq]
  rfl

theorem exec_unitDelivered_counts (hfail : q.fail = none) : ∃ u q', exec (.unitDelivered p i) s = .next u ∧
    u.retr.queries.at (qkey p.val i.toNat) = some q' ∧
    q'.units = q.units + 1 ∧ (u.retr.pipes.at p.val).cntU = ((s.retr.pipes.at p.val).cntU + 1) % 2 ^ 32 ∧
    (s.flash.done.count d = 1 → d ∉ u.flash.done) ∧ u.spans = s.spans ∧ u.mem = s.mem := by
  have hexec : exec (.unitDelivered p i) s = .next (s1.useUnit (qkey p.val i.toNat) p.val q d) := by
    show execUnitDelivered p i s = _
    unfold execUnitDelivered
    dsimp only
    rw [hq, hnext]
    exact if_neg (by simp [hfail])
  have hs1 := State.nextUnit_eq hnext
  subst hs1
  have hacts := SearchActs.useUnit (p := p.val) (s.flashUpd (fun f => { f with done := f.done.erase d })) hq d
  obtain ⟨q', hq', hunits⟩ := hacts.query_of (q := { q with fly := q.fly - 1, units := q.units + 1 }) (by
    show (s.retr.queries.upd _ (Option.map (fun q => { q with fly := q.fly - 1, units := q.units + 1 }))).at _ = _
    rw [Tab.at_upd_same, hq]
    rfl)
  refine ⟨_, q', hexec, hq', hunits, ?_, fun hcount hmem => ?_, hacts.spans, hacts.mem⟩
  · rw [hacts.pipes]
    show ((s.retr.pipes.upd p.val (fun x => { x with cntU := (x.cntU + 1) % 2 ^ 32 })).at p.val).cntU = _
    rw [Tab.at_upd_same]
  · have herase : d ∈ s.flash.done.erase d := hacts.done hmem
    have hpos := List.count_pos_iff.mpr herase
    rw [List.count_erase_self] at hpos
    omega

end UnitDelivered

/-! ### QUERY_ADMIT (R267, R270, R271) -/

/-- What names a query, and its stage. -/
def Query.name (q : Query) : Nat × Nat × Nat × Nat := (q.pipe, q.ix, q.ticket, q.stage)

theorem SearchActs.name {k : Nat} {s t : State} (h : SearchActs Query.core k s t) : SearchActs Query.name k s t :=
  h.part (fun c => (c.1.1, c.1.2.1, c.1.2.2.1, c.1.2.2.2.1))

theorem SearchActs.searchBegin (s : State) (k p : Nat) (d : QDesc) : SearchActs Query.name k s (s.searchBegin k p d) := by
  unfold State.searchBegin
  split
  · split
    · exact (queryFailNow s _ _ _).name
    · refine (qUpd s ?_).trans (scanFeed 512 _).name
      exact fun _ => rfl
  · split
    · refine (qUpd s ?_).trans (walkSelect _).name
      exact fun _ => rfl
    · refine (qUpd s ?_).trans (lexFeed 64 _).name
      exact fun _ => rfl

section Access
variable {s : State} (hs : PathsFree s) (q : Query) (a : Nat)
include hs

/-- Where the paths are free, a query's reads and writes go on. -/
theorem State.rtvRead_ok (n : Nat) : ∃ t x, s.rtvRead q a n = .ok (t, x) ∧ MemoryActs s t ∧ PathsKept s t := by
  obtain ⟨u, hu, hkept⟩ := State.pass_ok (q := q.unit) (k := q.ticket) hs.1 rfl (fun r => hs.2 _ r _) true a n
  have hacts : MemoryActs s u := MemoryActs.pass _ hu
  unfold State.rtvRead
  rw [hu]
  exact ⟨_, _, rfl, hacts.trans ((MemoryActs.readAt _ _ _ _ _).trans (.settle _)), hkept.trans ((PathsKept.readAt _ _ _ _ _).trans (.settle _))⟩

theorem State.rtvWrite_ok (data : List Byte) : ∃ t ok, s.rtvWrite q a data = .ok (t, ok) ∧ MemoryActs s t ∧ PathsKept s t := by
  obtain ⟨u, hu, hkept⟩ := State.pass_ok (q := q.unit) (k := q.ticket) hs.1 rfl (fun r => hs.2 _ r _) false a data.length
  have hacts : MemoryActs s u := MemoryActs.pass _ hu
  unfold State.rtvWrite
  rw [hu]
  dsimp only [Except.map]
  split
  · exact ⟨_, _, rfl, hacts, hkept⟩
  · exact ⟨_, _, rfl, hacts.trans ((MemoryActs.writeAt _ _ _ _ _ _).trans (.settle _)), hkept.trans ((PathsKept.writeAt _ _ _ _ _ _).trans (.settle _))⟩

theorem State.readIf_ok (c : Bool) (n : Nat) : ∃ t x, s.readIf q c a n = .ok (t, x) ∧ MemoryActs s t ∧ PathsKept s t := by
  cases c with
  | false => exact ⟨s, _, rfl, .refl s, .refl s⟩
  | true => exact State.rtvRead_ok hs q a n

omit a in
theorem State.queryReads_ok (d : QDesc) : ∃ t q' x, s.queryReads q d = .ok (t, q', x) ∧ q'.name = q.name ∧ MemoryActs s t ∧ PathsKept s t := by
  obtain ⟨t1, x1, h1, m1, p1⟩ := State.readIf_ok hs q (d.f 8 6) (decide (d.kind ≠ 3 ∧ d.vfmt ≠ 1)) d.vb
  obtain ⟨t2, x2, h2, m2, p2⟩ := State.readIf_ok (p1.pathsFree hs) q (d.f 0x10 6) (decide (d.kind ≠ 3 ∧ d.vfmt = 1)) (d.vdim * 512)
  obtain ⟨t3, x3, h3, m3, p3⟩ := State.readIf_ok (p2.pathsFree (p1.pathsFree hs)) q (d.f 0x18 6) (decide (d.kind = 2)) d.csize
  unfold State.queryReads
  rw [h1]
  dsimp only [Except.bind]
  rw [h2]
  dsimp only
  rw [h3]
  exact ⟨_, _, _, rfl, rfl, (m1.trans m2).trans m3, (p1.trans p2).trans p3⟩

end Access

/-- The head of pipeline `p` of `s` is admitted in `u`. -/
structure Admitted (s : State) (p : Nat) (u : State) : Prop where
  qrd : u.rget (.RTV_QRD (Fin.ofNat 64 p)) = wordOf (s.qrd p + 1)
  query : ∃ q, u.retr.queries.at (qkey p (s.qrd p)) = some q ∧ q.name = (p, s.qrd p, (s.queuePart p).ticket, 0)
  spans : u.spans = s.spans

namespace Admitted
variable {s t u : State} {p : Nat}

theorem search (h : Admitted s p t) (g : SearchActs Query.name (qkey p (s.qrd p)) t u) : Admitted s p u := by
  obtain ⟨q, hq, hname⟩ := h.query
  obtain ⟨q', hq', hname'⟩ := g.query_of hq
  exact ⟨(g.regs _ (by simp [flcLevels])).trans h.qrd, ⟨q', hq', hname'.trans hname⟩, g.spans.trans h.spans⟩

theorem memory (h : Admitted s p t) (g : MemoryActs t u) : Admitted s p u := by
  have hretr : u.retr = t.retr := by rw [g.rest]
  refine ⟨(g.regs _ (by simp [memoryRegs, signalRegs, passRegs])).trans h.qrd, ?_, ?_⟩
  · rw [hretr]
    exact h.query
  · rw [g.rest]
    exact h.spans

theorem rtvRaise (h : Admitted s p t) (f : Fld) (k : Nat) : Admitted s p (t.rtvRaise f k) := by
  have hset : Admitted s p (t.bset .RTV_EVT f true) := ⟨(State.rget_fset_other _ _ _ (by simp)).trans h.qrd, h.query, h.spans⟩
  exact hset.memory (Signals.raise _ k).memoryActs

/-- What an admitted query reads gives it vectors and tables, and no other name. -/
theorem named (h : Admitted s p t) {q : Query} (hname : q.name = (p, s.qrd p, (s.queuePart p).ticket, 0)) :
    Admitted s p (t.qUpd (qkey p (s.qrd p)) (fun _ => q)) := by
  obtain ⟨q0, hq0, -⟩ := h.query
  refine ⟨h.qrd, ⟨q, ?_, hname⟩, h.spans⟩
  rw [State.qUpd, Tab.at_upd_same, hq0]
  rfl

end Admitted

/-- Where the paths are free, the head is taken (R267): its descriptor and vectors are read, its header is written, and its search begins or fails. -/
theorem State.takeHead_admits {s : State} (hs : PathsFree s) (p : Nat) : ∃ u, s.takeHead p = .ok u ∧ Admitted s p u := by
  unfold State.takeHead
  extract_lets i k a q0 b s1
  have hs1 : PathsKept s s1 := (PathsKept.hubRead hs _ _).trans (PathsKept.hubWrite ((PathsKept.hubRead hs _ _).pathsFree hs) _ _)
  have m1 : MemoryActs s s1 := (MemoryActs.hubRead _ _ _).trans (.hubWrite _ _ _)
  obtain ⟨t, x, hread, m2, p2⟩ := State.rtvRead_ok (hs1.pathsFree hs) q0 a 256
  rw [hread]
  dsimp -zeta only [Except.bind]
  extract_lets d q s2 _ s3
  have hspans : t.spans = s.spans := by rw [(m1.trans m2).rest]
  have h3 : Admitted s p s3 := ⟨State.rget_rset_same _ _ _, ⟨q, Tab.at_put_same s2.retr.queries k (some q), rfl⟩, hspans⟩
  have p3 : PathsKept t s3 := (PathsKept.rset t (r := .RTV_QRD (Fin.ofNat 64 p)) _ (by simp)).trans (.of_eq (fun _ => rfl) rfl rfl rfl)
  have hfree3 := p3.pathsFree (p2.pathsFree (hs1.pathsFree hs))
  obtain ⟨v, ok, hwrite, m4, p4⟩ := State.rtvWrite_ok hfree3 q q.slotAddr q.firstHeader
  rw [hwrite]
  dsimp only
  have h4 := h3.memory m4
  split
  · refine ⟨_, rfl, Admitted.search ?_ (SearchActs.queryFailNow _ _ _ _).name⟩
    split
    · exact h4.rtvRaise _ _
    · exact h4
  · obtain ⟨w, q', y, hreads, hname, m5, -⟩ := State.queryReads_ok (p4.pathsFree hfree3) q d
    rw [hreads]
    dsimp only
    have h5 := h4.memory m5
    split
    · exact ⟨_, rfl, h5.search (SearchActs.queryFailNow _ _ _ _).name⟩
    · exact ⟨_, rfl, (h5.named hname).search (SearchActs.searchBegin _ _ _ _)⟩

section QueryAdmit
variable {p : Fin 64} {s : State}

theorem exec_queryAdmit_empty (h : s.hasHead p.val = false) : exec (.queryAdmit p) s = .next s := if_pos (by rw [h]; rfl)

theorem exec_queryAdmit_takes (hhead : s.hasHead p.val = true) (hhold : s.admitHold p.val = none) :
    exec (.queryAdmit p) s = s.orWait (s.headQuery p.val) (s.takeHead p.val) := by
  refine (if_neg (by rw [hhead]; decide)).trans ?_
  rw [hhold]

theorem exec_queryAdmit_admits (hhead : s.hasHead p.val = true) (hhold : s.admitHold p.val = none) (hs : PathsFree s) :
    ∃ u q, exec (.queryAdmit p) s = .next u ∧ u.rget (.RTV_QRD p) = wordOf (s.qrd p.val + 1) ∧
      u.retr.queries.at (qkey p.val (s.qrd p.val)) = some q ∧ q.pipe = p.val ∧ q.ix = s.qrd p.val ∧ q.stage = 0 ∧
      q.ticket = (s.queuePart p.val).ticket ∧ u.spans = s.spans ∧ u.fuses = s.fuses := by
  obtain ⟨u, hu, hadmitted⟩ := State.takeHead_admits hs p.val
  have hexec : exec (.queryAdmit p) s = .next u := by
    rw [exec_queryAdmit_takes hhead hhold, hu]
    rfl
  obtain ⟨q, hq, hname⟩ := hadmitted.query
  simp only [Query.name, Prod.mk.injEq] at hname
  obtain ⟨hpipe, hix, hticket, hstage⟩ := hname
  have hqrd := hadmitted.qrd
  rw [show (Fin.ofNat 64 p.val) = p from Fin.ofNat_val_eq_self p] at hqrd
  exact ⟨u, q, hexec, hqrd, hq, hpipe, hix, hstage, hticket, hadmitted.spans, Res.Kept.fuses_eq (Keeps.exec_queryAdmit (Keeps.rfl s)) hexec⟩

/-- The want of a slot or of contexts is reported once (R294). -/
theorem State.rtvEvt_reports (s : State) {f : Fld} {k : Nat} (hf : f.lo + f.len ≤ 32) (hlen : 1 ≤ f.len) :
    (s.rtvEvt f k).bget .RTV_EVT f = true ∧ RegsKept (.RTV_EVT :: signalRegs) s (s.rtvEvt f k) ∧ (s.rtvEvt f k).retr = s.retr := by
  unfold State.rtvEvt
  split
  · next h => exact ⟨h, RegsKept.refl _ s, rfl⟩
  · refine ⟨?_, ?_, by rw [(Signals.raise _ k).1]; rfl⟩
    · rw [State.raise_bget _ _ (by simp [signalRegs])]
      exact State.bget_bset_same _ _ _ _ hf hlen
    · exact (RegsKept.bset _ _ (by simp)).trans ((Signals.raise _ k).2.mono (by simp +contextual))

theorem exec_queryAdmit_waits {e j : Nat} (he : e < 16) (hmask : bitAt (s.pipe p.val).reMask e = true) (hentry : s.ownEntry (.re e) = some j)
    (hst : (s.spans.at j).st ≠ .running) : exec (.queryAdmit p) s = .next s := by
  have hruns : s.pipeRuns p.val = false := by
    refine List.all_eq_false.mpr ⟨e, List.mem_filter.mpr ⟨List.mem_range.mpr he, hmask⟩, ?_⟩
    rw [hentry]
    simpa using hst
  refine exec_queryAdmit_empty ?_
  unfold State.hasHead
  rw [hruns]
  simp

theorem exec_queryAdmit_reports (hhead : s.hasHead p.val = true) :
    (s.admitHold p.val = some .eng → exec (.queryAdmit p) s = .next s) ∧
    (s.admitHold p.val = some .res → ∃ u, exec (.queryAdmit p) s = .next u ∧
      u.bget .RTV_EVT F.RTV_EVT_RES_FULL = true ∧ RegsKept (.RTV_EVT :: signalRegs) s u ∧ u.retr = s.retr) ∧
    (s.admitHold p.val = some .ctx → ∃ u, exec (.queryAdmit p) s = .next u ∧
      u.bget .RTV_EVT F.RTV_EVT_CTX_FULL = true ∧ RegsKept (.RTV_EVT :: signalRegs) s u ∧ u.retr = s.retr) := by
  have hexec : exec (.queryAdmit p) s = (match s.admitHold p.val with
      | some .res => .next (s.rtvEvt F.RTV_EVT_RES_FULL 297)
      | some .ctx => .next (s.rtvEvt F.RTV_EVT_CTX_FULL 298)
      | some .eng => .next s
      | none => s.orWait (s.headQuery p.val) (s.takeHead p.val)) := if_neg (by rw [hhead]; decide)
  rw [hexec]
  refine ⟨fun h => ?_, fun h => ?_, fun h => ?_⟩
  · rw [h]
  · rw [h]
    exact ⟨_, rfl, s.rtvEvt_reports (by decide) (by decide)⟩
  · rw [h]
    exact ⟨_, rfl, s.rtvEvt_reports (by decide) (by decide)⟩

end QueryAdmit

/-- Settles O28, by what asking for units leaves of a query: its name, its count of units and what its walk has gathered. -/
theorem queriesAdvance : Obligations.QueriesAdvance :=
  ⟨fun _ _ => ⟨exec_queryAdmit_empty, exec_queryAdmit_admits, fun h hhead hhold herror => by rw [exec_queryAdmit_takes hhead hhold, herror]; rfl,
      fun _ _ => exec_queryAdmit_waits, fun hhead => (exec_queryAdmit_reports hhead).1, fun hhead => (exec_queryAdmit_reports hhead).2.1,
      fun hhead => (exec_queryAdmit_reports hhead).2.2⟩,
    fun _ _ _ _ _ _ hq hnext => ⟨exec_unitDelivered_discards hq hnext, exec_unitDelivered_counts hq hnext⟩,
    fun _ _ _ _ hq hfail hfin hsel hall => ⟨fun _ => exec_walkRound_goesOn hq hfail hfin hsel hall, fun _ => exec_walkRound_fails hq hfail hfin hsel hall⟩,
    exec_resultReadAdvance_moves⟩

end Sys2Proof.Machine

namespace Sys2Proof.Machine

/-! PROOFS. Loading a workload image (O14; R24, R145 to R148). -/

/-! ### The end of a load -/

section
variable (s : State) (st code rec_ span err : Nat)

/-- The state whose source 16 the end of a load raises. -/
def State.loadShown (s : State) (st code rec_ span err : Nat) : State :=
  let s1 := (((s.loadState st).fset .CFG_LOAD_STAT F.CFG_LOAD_STAT_CODE code).fset .CFG_LOAD_STAT F.CFG_LOAD_STAT_RECORD
    rec_).fset .CFG_LOAD_SPAN F.CFG_LOAD_SPAN_SPAN span
  let s2 := if err = 0 then s1 else s1.fset .CFG_LOAD_STAT F.CFG_LOAD_STAT_ERR err
  { s2 with load := { s2.load with busy := false, extents := [], data := [], wakes := [] } }

theorem State.loadEnd_eq : s.loadEnd st code rec_ span err = (s.loadShown st code rec_ span err).raise 16 := rfl

theorem State.loadShown_rest : s.loadShown st code rec_ span err = { s with
    regs := (s.loadShown st code rec_ span err).regs
    load := { s.load with busy := false, extents := [], data := [], wakes := [] } } := by
  unfold State.loadShown
  split <;> rfl

theorem State.loadEnd_rest : ∃ t : State, t = { s with
    regs := t.regs, load := { s.load with busy := false, extents := [], data := [], wakes := [] } } ∧ Signals t (s.loadEnd st code rec_ span err) :=
  ⟨_, s.loadShown_rest st code rec_ span err, Signals.raise _ _⟩

theorem State.loadEnd_busy : (s.loadEnd st code rec_ span err).load.busy = false := by
  rw [State.loadEnd_eq, (Signals.raise _ 16).load]
  rfl

theorem State.loadEnd_raised : Raised 16 s (s.loadEnd st code rec_ span err) := by
  have h := (s.loadShown st code rec_ span err).raise_raised 16
  rw [s.loadShown_rest] at h
  rw [State.loadEnd_eq, s.loadShown_rest]
  exact h

theorem State.loadEnd_regs : RegsKept (.CFG_LOAD_STAT :: .CFG_LOAD_SPAN :: signalRegs) s (s.loadEnd st code rec_ span err) := by
  have hset : RegsKept (.CFG_LOAD_STAT :: .CFG_LOAD_SPAN :: signalRegs) s (s.loadShown st code rec_ span err) := by
    have h1 := ((RegsKept.fset (p := .CFG_LOAD_STAT :: .CFG_LOAD_SPAN :: signalRegs) (s := s) (r := .CFG_LOAD_STAT) F.CFG_LOAD_STAT_STATE st (by simp)).trans
      (RegsKept.fset (r := .CFG_LOAD_STAT) F.CFG_LOAD_STAT_CODE code (by simp))).trans ((RegsKept.fset (r := .CFG_LOAD_STAT) F.CFG_LOAD_STAT_RECORD rec_ (by simp)).trans
      (RegsKept.fset (r := .CFG_LOAD_SPAN) F.CFG_LOAD_SPAN_SPAN span (by simp)))
    unfold State.loadShown
    dsimp only
    split
    · exact h1
    · exact h1.trans (RegsKept.fset _ _ (by simp))
  exact hset.trans ((Signals.raise _ 16).2.mono fun r hr => List.mem_cons_of_mem _ (List.mem_cons_of_mem _ hr))

/-- The fields of CFG_LOAD_STAT that the end of a load writes lie apart. -/
theorem State.loadEnd_field {f : Fld} (hf : F.CFG_LOAD_STAT_ERR.lo + F.CFG_LOAD_STAT_ERR.len ≤ f.lo ∨ f.lo + f.len ≤ F.CFG_LOAD_STAT_ERR.lo) :
    (s.loadEnd st code rec_ span err).fget .CFG_LOAD_STAT f =
      (((s.loadState st).fset .CFG_LOAD_STAT F.CFG_LOAD_STAT_CODE code).fset .CFG_LOAD_STAT F.CFG_LOAD_STAT_RECORD rec_).fget .CFG_LOAD_STAT f := by
  rw [State.loadEnd_eq, State.raise_fget _ _ (by simp [signalRegs])]
  unfold State.loadShown
  dsimp only
  split
  · exact State.fget_fset_other _ _ _ _ (by simp)
  · exact (State.fget_fset_field _ _ _ _ _ (by decide) (by simpa using hf.symm)).trans (State.fget_fset_other _ _ _ _ (by simp))

theorem State.loadEnd_state (hst : st < 16) : (s.loadEnd st code rec_ span err).fget .CFG_LOAD_STAT F.CFG_LOAD_STAT_STATE = st := by
  rw [State.loadEnd_field _ _ _ _ _ _ (by decide), State.fget_fset_field _ _ _ _ _ (by decide) (by decide),
    State.fget_fset_field _ _ _ _ _ (by decide) (by decide), State.loadState, State.fget_fset_same _ _ _ _ (by decide)]
  exact Nat.mod_eq_of_lt hst

theorem State.loadEnd_code : (s.loadEnd st code rec_ span err).fget .CFG_LOAD_STAT F.CFG_LOAD_STAT_CODE = code % 2 ^ F.CFG_LOAD_STAT_CODE.len := by
  rw [State.loadEnd_field _ _ _ _ _ _ (by decide), State.fget_fset_field _ _ _ _ _ (by decide) (by decide),
    State.fget_fset_same _ _ _ _ (by decide)]

theorem State.loadEnd_record :
    (s.loadEnd st code rec_ span err).fget .CFG_LOAD_STAT F.CFG_LOAD_STAT_RECORD = rec_ % 2 ^ F.CFG_LOAD_STAT_RECORD.len := by
  rw [State.loadEnd_field _ _ _ _ _ _ (by decide), State.fget_fset_same _ _ _ _ (by decide)]

theorem State.loadEnd_span : (s.loadEnd st code rec_ span err).fget .CFG_LOAD_SPAN F.CFG_LOAD_SPAN_SPAN = span % 2 ^ F.CFG_LOAD_SPAN_SPAN.len := by
  have h : ((((s.loadState st).fset .CFG_LOAD_STAT F.CFG_LOAD_STAT_CODE code).fset .CFG_LOAD_STAT F.CFG_LOAD_STAT_RECORD rec_).fset
      .CFG_LOAD_SPAN F.CFG_LOAD_SPAN_SPAN span).fget .CFG_LOAD_SPAN F.CFG_LOAD_SPAN_SPAN = span % 2 ^ F.CFG_LOAD_SPAN_SPAN.len :=
    State.fget_fset_same _ _ _ _ (by decide)
  rw [State.loadEnd_eq, State.raise_fget _ _ (by simp [signalRegs])]
  unfold State.loadShown
  dsimp only
  split
  · exact h
  · exact (State.fget_fset_other _ _ _ _ (by simp)).trans h

theorem State.loadEnd_err (herr : err ≠ 0) :
    (s.loadEnd st code rec_ span err).fget .CFG_LOAD_STAT F.CFG_LOAD_STAT_ERR = err % 2 ^ F.CFG_LOAD_STAT_ERR.len := by
  rw [State.loadEnd_eq, State.raise_fget _ _ (by simp [signalRegs])]
  unfold State.loadShown
  dsimp only
  rw [if_neg herr]
  exact State.fget_fset_same _ _ _ _ (by decide)

end

/-! ### What the steps of a load leave -/

/-- The span table and the load stand. -/
structure LoadsKept (s t : State) : Prop where
  spans : t.spans = s.spans
  load : t.load = s.load

namespace LoadsKept
variable {s t u : State}

theorem refl (s : State) : LoadsKept s s := ⟨rfl, rfl⟩

theorem trans (h : LoadsKept s t) (g : LoadsKept t u) : LoadsKept s u := ⟨g.spans.trans h.spans, g.load.trans h.load⟩

theorem foldl {α : Type} {f : State → α → State} (l : List α) (s : State) (hf : ∀ t a, LoadsKept t (f t a)) : LoadsKept s (l.foldl f s) :=
  List.foldlRecOn (motive := LoadsKept s) l f (refl s) fun t ht a _ => ht.trans (hf t a)

theorem memory (h : MemoryActs s t) : LoadsKept s t := ⟨by rw [h.rest], by rw [h.rest]⟩

theorem setting (h : SettingActs s t) : LoadsKept s t := ⟨by rw [h.rest], by rw [h.rest]⟩

theorem putExtent (s : State) (x : Extent) : LoadsKept s (s.putExtent x) := by
  unfold State.putExtent
  dsimp only
  split
  · exact ⟨rfl, rfl⟩
  · exact ⟨rfl, rfl⟩

theorem loadEngine (s : State) (e : Nat) : LoadsKept s (s.loadEngine e) :=
  (memory (.writeLocal _ _ _ _ _)).trans (foldl _ _ fun _ _ => memory (.writeLocal _ _ _ _ _))

theorem putGram (s : State) (x : GramIn) : LoadsKept s (s.putGram x) := by
  have h := ((memory (.hubWrite s ((s.image.parts.at x.g.part).base + x.g.classOff) x.cls)).trans
    (memory (.hubWrite _ ((s.image.parts.at x.g.part).base + x.g.stateOff) x.st))).trans
    (memory (.hubWrite _ ((s.image.parts.at x.g.part).base + x.g.transOff) x.tr))
  exact ⟨h.spans, h.load⟩

theorem putSamp (s : State) (r : SampRec) : LoadsKept s (s.putSamp r) := by
  have h := foldl (f := fun (s : State) (e : List Word × Nat) =>
    s.slotUpd (r.first + e.2) (fun u => { u with entry := e.1, staged := e.1, waiting := none })) r.entries.zipIdx s fun _ _ => ⟨rfl, rfl⟩
  exact ⟨h.spans, h.load⟩

theorem degradeLoad (s : State) : s.degradeCheck.load = s.load := by rw [(FlagActs.degradeCheck s).rest]

end LoadsKept

theorem SettingActs.setAside (s : State) (t : Nat) : SettingActs s (s.setAside t) :=
  ((rset s 0 (by simp)).trans (fset _ _ _ (by simp))).trans (rset _ _ (by simp))

theorem SettingActs.setAsideAll (n : Nat) (s : State) : SettingActs s (State.setAsideAll n s) := by
  induction n generalizing s with
  | zero => exact refl s
  | succ n ih =>
    unfold State.setAsideAll
    split
    · exact refl s
    · split
      next t _ => exact (setAside s t).trans (ih _)
      next => exact refl s

theorem State.admitLoad_busy (s : State) (h : Hdr) (img : Img) : (s.admitLoad h img).load.busy = s.load.busy := by
  have h1 : SettingActs s (s.loadTickets img) := .putTickets _ _
  unfold State.admitLoad
  dsimp only
  split
  · rw [(SettingActs.setAsideAll _ _).rest, h1.rest]
  · rw [h1.rest]

theorem State.release_load (s : State) (l : List Nat) : (s.release l).load = s.load := by
  refine List.foldlRecOn (motive := fun t : State => t.load = s.load) _ _ ?_ fun t ht _ _ => ht
  change (s.setSpans l .empty).load = s.load
  rw [State.setSpans_rest]

/-- The states of the entries stand when the DEGRADED flags are looked at. -/
theorem State.degradeCheck_st (s : State) (j : Nat) : (s.degradeCheck.spans.at j).st = (s.spans.at j).st := by
  refine List.foldlRecOn (motive := fun t : State => (t.spans.at j).st = (s.spans.at j).st) _ _ rfl fun t ht i _ => ?_
  dsimp only
  split
  · exact ht
  · rw [State.spanEvent_spans, State.spanUpd, Tab.at_upd, ← ht]
    by_cases hj : j = i
    · rw [if_pos hj, hj]
    · rw [if_neg hj]

/-- The entries that an image brings are put into the span table. -/
theorem foldl_put_entry (l : List SpanRec) (s : State) (j : Nat) (h : (∃ x ∈ l, x.index = j) ∨ (s.spans.at j).st = .loading) :
    ((l.foldl (fun (s : State) x => { s with spans := s.spans.put x.index x.entry }) s).spans.at j).st = .loading ∧
      (l.foldl (fun (s : State) x => { s with spans := s.spans.put x.index x.entry }) s).load = s.load := by
  induction l generalizing s with
  | nil => exact ⟨h.resolve_left (by simp), rfl⟩
  | cons x l ih =>
    refine ih _ ?_
    by_cases hx : x.index = j
    · refine .inr ?_
      dsimp only
      rw [hx, Tab.at_put_same]
      rfl
    · rcases h with ⟨y, hy, hyj⟩ | h
      · exact .inl ⟨y, (List.mem_cons.mp hy).resolve_left (fun he => hx (he ▸ hyj)), hyj⟩
      · refine .inr ?_
        dsimp only
        rw [Tab.at_put_other _ _ (Ne.symm hx)]
        exact h

theorem foldl_put_load (l : List SpanRec) (s : State) :
    (l.foldl (fun (s : State) x => { s with spans := s.spans.put x.index x.entry }) s).load = s.load :=
  List.foldlRecOn (motive := fun t : State => t.load = s.load) l _ rfl fun _ ht _ _ => ht

/-! ### The mode change of step 8 -/

/-- `t` is `s` but for the mode change in progress, what it shows and its messages; a change stays one. -/
structure ModeRuns (s t : State) : Prop where
  acts : ModeActs [.CFG_MODE_STAT, .CFG_COMMIT_STAT] s t
  runs : s.mode.isSome = true → t.mode.isSome = true

namespace ModeRuns
variable {s t u : State}

theorem refl (s : State) : ModeRuns s s := ⟨.refl s, id⟩

theorem trans (h : ModeRuns s t) (g : ModeRuns t u) : ModeRuns s u := ⟨h.acts.trans g.acts, g.runs ∘ h.runs⟩

theorem withMode (s : State) (c : ModeChange) : ModeRuns s { s with mode := some c } := ⟨.withMode s _, fun _ => rfl⟩

theorem modeSend (s : State) (c : ModeChange) (cls w0 w1 : Nat) : ModeRuns s (s.modeSend c cls w0 w1) :=
  ⟨.modeSend s c cls w0 w1, by rw [State.modeSend_mode]; exact id⟩

theorem modeAnswer (s : State) (c : ModeChange) (phase result : Nat) : ModeRuns s (s.modeAnswer c phase result) :=
  ⟨.modeAnswer s c phase result, by rw [State.modeAnswer_mode]; exact id⟩

theorem modeShow (s : State) (phase cause change : Nat) : ModeRuns s (s.modeShow phase cause change) := ⟨.modeShow s _ _ _ (by simp), id⟩

theorem commitShow (s : State) (c : ModeChange) (st : Nat) : ModeRuns s (s.commitShow c st) := by
  unfold State.commitShow
  split
  · exact ⟨.fset s _ _ (by simp), id⟩
  · exact refl s

theorem modeFinish (s : State) : ModeRuns s s.modeFinish := by
  unfold State.modeFinish
  split
  · split
    · exact (((withMode s _).trans (modeAnswer _ _ _ _)).trans (modeShow _ _ _ _)).trans (commitShow _ _ _)
    · exact refl s
  · exact refl s

theorem modeCommit (s : State) : ModeRuns s s.modeCommit := by
  unfold State.modeCommit
  split
  · split
    · split
      · exact (((withMode s _).trans (modeSend _ _ _ _ _)).trans (modeShow _ _ _ _)).trans (modeFinish _)
      · exact modeAnswer _ _ _ _
    · exact refl s
  · exact refl s

end ModeRuns

/-- A mode change that this device starts is in progress, or over when no unit has a part in it. -/
theorem State.modeStart_runs (s : State) (kind span : Nat) (units : List MUnit) : (s.modeStart kind span units).mode.isSome = true ∧
    ∃ u : State, u = { s with changes := u.changes, stale := u.stale, mode := u.mode } ∧
      ModeActs [.CFG_MODE_STAT, .CFG_COMMIT_STAT] u (s.modeStart kind span units) := by
  have hruns (u : State) (c : ModeChange) (w0 id : Nat) : ModeRuns u ((u.modeSend c 0x7 w0 span).modeShow 1 0 id).modeCommit :=
    ((ModeRuns.modeSend _ _ _ _ _).trans (.modeShow _ _ _ _)).trans (.modeCommit _)
  unfold State.modeStart State.modeBegin
  extract_lets id c s1
  exact ⟨(hruns s1 c _ _).runs rfl, s1, rfl, (hruns s1 c _ _).acts⟩

/-- Step 8 of a load: the new spans, the load and memory stand, and STATE is 4 or 5. -/
theorem State.loadActivate_keeps (s : State) : LoadsKept s s.loadActivate ∧ s.loadActivate.mem = s.mem ∧
    (s.loadActivate.fget .CFG_LOAD_STAT F.CFG_LOAD_STAT_STATE = s.fget .CFG_LOAD_STAT F.CFG_LOAD_STAT_STATE ∨
      s.loadActivate.fget .CFG_LOAD_STAT F.CFG_LOAD_STAT_STATE = 5) := by
  unfold State.loadActivate
  split
  · obtain ⟨-, u, hu, hacts⟩ := (s.loadState 5).modeStart_runs 1 (if s.load.partialLoad then (s.load.fresh.foldl min 4095) else 0xFFF) s.freshUnits
    refine ⟨⟨by rw [hacts.rest, hu]; rfl, by rw [hacts.rest, hu]; rfl⟩, by rw [hacts.rest, hu]; rfl, .inr ?_⟩
    rw [hacts.regs.fget (by simp), hu]
    exact State.fget_fset_same s .CFG_LOAD_STAT F.CFG_LOAD_STAT_STATE 5 (by decide)
  · exact ⟨.refl s, rfl, .inl rfl⟩

/-! ### IMAGE_LOAD -/

/-- What a load writes: the spans of its records, as LOADING, and what it goes on with (R147). -/
theorem State.loadWrite_places {s : State} (hbusy : s.load.busy = true) (h : Hdr) (lic : Option (List Byte)) (img : Img) :
    (s.loadWrite h lic img).load.busy = true ∧
      ((s.loadWrite h lic img).fget .CFG_LOAD_STAT F.CFG_LOAD_STAT_STATE = 4 ∨ (s.loadWrite h lic img).fget .CFG_LOAD_STAT F.CFG_LOAD_STAT_STATE = 5) ∧
      (s.loadWrite h lic img).load.id = h.id ∧ (s.loadWrite h lic img).load.fresh = img.spans.map (fun x => x.index) ∧
      ∀ x ∈ img.spans, ((s.loadWrite h lic img).spans.at x.index).st = .loading := by
  unfold State.loadWrite
  extract_lets part s0 _ _ _ _ s1 s2 _ s3 s3' s4 s5 s6 moved s7 _ s8
  have h0 : s0.load.busy = true := by
    dsimp only [s0]
    rw [State.release_load]
    exact hbusy
  have h1 : s1.load.busy = true := by
    have hzero (t : State) : ((List.range 64).foldl (fun (s : State) k =>
        (s.rset (.GEN_ORING_WR (Fin.ofNat 64 k)) 0).rset (.GEN_ORING_RD (Fin.ofNat 64 k)) 0) t).load = t.load :=
      List.foldlRecOn (motive := fun v : State => v.load = t.load) _ _ rfl fun _ hv _ _ => hv
    dsimp only [s1]
    split
    · exact h0
    · rw [State.admitLoad_busy, hzero]
      exact h0
  have h2 : s2.load.busy = true := by
    dsimp only [s2]
    rw [foldl_put_load]
    exact h1
  have h7 : LoadsKept s2 s7 := by
    have hpipes : LoadsKept s3 s3' := .foldl _ _ fun _ _ => ⟨rfl, rfl⟩
    have hscheds : LoadsKept s3' s4 := (LoadsKept.foldl (f := State.putSched) img.scheds s3' fun _ _ => ⟨rfl, rfl⟩).trans
      (.foldl _ _ fun _ _ => .putExtent _ _)
    have hengs : LoadsKept s4 s5 := .foldl _ _ .loadEngine
    have hgrams : LoadsKept s5 s6 := (LoadsKept.foldl img.grams s5 fun t x => .putGram t x.2).trans (.foldl _ _ fun _ _ => .putSamp _ _)
    have hmoved : LoadsKept s6 s7 := .foldl _ _ fun _ _ => ⟨rfl, rfl⟩
    have hrecs : LoadsKept s2 s3 := ⟨rfl, rfl⟩
    exact ((((hrecs.trans hpipes).trans hscheds).trans hengs).trans hgrams).trans hmoved
  have h8 : s8.load.busy = true := by
    change s7.load.busy = true
    rw [h7.load]
    exact h2
  obtain ⟨hkept, -, hstate⟩ := (s8.loadState 4).loadActivate_keeps
  have hload : (s8.loadState 4).loadActivate.degradeCheck.load = s8.load := by
    rw [LoadsKept.degradeLoad, hkept.load]
    rfl
  have hplaced (x : SpanRec) (hx : x ∈ img.spans) : (s2.spans.at x.index).st = .loading := (foldl_put_entry img.spans s1 _ (.inl ⟨x, hx, rfl⟩)).1
  have hshown : (s8.loadState 4).fget .CFG_LOAD_STAT F.CFG_LOAD_STAT_STATE = 4 := State.fget_fset_same _ _ _ _ (by decide)
  rw [hload, (FlagActs.degradeCheck _).regs.fget (by simp [signalRegs])]
  rw [hshown] at hstate
  refine ⟨h8, hstate, rfl, rfl, fun x hx => ?_⟩
  rw [State.degradeCheck_st, hkept.spans]
  change (s7.spans.at x.index).st = _
  rw [h7.spans]
  exact hplaced x hx

section
variable {v : Word} {host : List Byte} {s s1 s2 : State} {l : List Byte}

theorem exec_imageLoad_read (hgo : v.toNat % 2 = 1) (hbusy : s.loadBusy = false)
    (hbytes : (((s.fset .CFG_LOAD_STAT F.CFG_LOAD_STAT_CODE 0).fset .CFG_LOAD_STAT F.CFG_LOAD_STAT_RECORD 0).fset
      .CFG_LOAD_SPAN F.CFG_LOAD_SPAN_SPAN 0).loadBytes host = (s1, l))
    (hidle : ∀ e ∈ s.spans, e.2.st = .idle ∨ e.2.st = .faulted ∨ e.2.st = .empty) :
    exec (.imageLoad v host) s = match s1.fitImage l with
      | (s2, .error e) => .next (s2.loadRefused e)
      | (s2, .ok (h, lic, img)) =>
        let s3 := { s2 with load := { s2.load with busy := true } }
        let w := s3.dozeNeeded img
        if w = [] then .next (s3.loadWrite h lic img)
        else .next ({ s3 with
          load := { s3.load with data := l, wakes := w }
          doze := w.foldl (fun t d => if t.at d = 2 then t.put d 3 else t) s3.doze }.loadState 2) := by
  have hnone : s.spans.any (fun e => e.2.st ≠ .idle && e.2.st ≠ .faulted && e.2.st ≠ .empty) = false := by
    refine List.any_eq_false.mpr fun e he => ?_
    rcases hidle e he with h | h | h <;> simp [h]
  have hodd : ¬ v.toNat % 2 = 0 := by omega
  change execImageLoad v host s = _
  unfold execImageLoad
  rw [if_neg hodd, hbusy, if_neg (by simp)]
  dsimp only
  rw [hbytes, hnone]
  exact (if_neg (by simp)).trans rfl

end

/-! ### IMAGE_LOADED -/

section
variable {s : State}

/-- What step 8 leaves when the engines are seeded anew. -/
theorem State.seedEngines_eq (s : State) : s.seedEngines = { s with engs := s.seedEngines.engs, free := s.free + 1 } ∧
    ∀ e, e < 96 → (s.seedEngines.engs.at e).seed = s.free ∧ (s.seedEngines.engs.at e).draws = 0 := by
  have hfold : ∀ l : List Nat, ∃ g : Tab EngUnit,
      l.foldl (fun (s : State) e => s.engUpd e (fun u => { u with seed := s.free, draws := 0 })) s = { s with engs := g } ∧
        ∀ e, e ∈ l → (g.at e).seed = s.free ∧ (g.at e).draws = 0 := by
    intro l
    induction l using List.reverseRecOn with
    | nil => exact ⟨s.engs, rfl, by simp⟩
    | append_singleton l a ih =>
      obtain ⟨g, hg, hseeds⟩ := ih
      refine ⟨g.upd a (fun u => { u with seed := s.free, draws := 0 }), ?_, fun e he => ?_⟩
      · rw [List.foldl_append, hg]
        rfl
      · rw [Tab.at_upd]
        split
        · exact ⟨rfl, rfl⟩
        next hne => exact hseeds e (by simpa [hne] using he)
  obtain ⟨g, hg, hseeds⟩ := hfold (List.range 96)
  unfold State.seedEngines
  rw [hg]
  exact ⟨rfl, fun e he => hseeds e (List.mem_range.mpr he)⟩

/-- What a change of the licence in force changes (R460). -/
structure LicenceActs (s t : State) : Prop where
  rest : t = { s with
    regs := t.regs
    icu := t.icu
    sec := t.sec
    fns := t.fns
    grp := { s.grp with entries := t.grp.entries }
    ldp := { s.ldp with released := t.ldp.released }
    outbox := t.outbox }
  regs : RegsKept (.GEN_CTL :: .SEC_LIC :: .SEC_LIC_NUM :: .SEC_EVT :: signalRegs) s t

namespace LicenceActs
variable {t u : State}

theorem refl (s : State) : LicenceActs s s := ⟨rfl, .refl _ s⟩

theorem trans (h : LicenceActs s t) (g : LicenceActs t u) : LicenceActs s u := ⟨by rw [g.rest, h.rest], h.regs.trans g.regs⟩

theorem ite {c : Prop} [Decidable c] {a b : State} (ha : LicenceActs s a) (hb : LicenceActs s b) : LicenceActs s (if c then a else b) := by
  split
  · exact ha
  · exact hb

theorem rset (s : State) {r : Reg} (v : Word) (h : r ∈ [.GEN_CTL, .SEC_LIC, .SEC_LIC_NUM, .SEC_EVT]) : LicenceActs s (s.rset r v) :=
  ⟨rfl, RegsKept.rset v (List.mem_append_left signalRegs h)⟩

theorem fset (s : State) {r : Reg} (f : Fld) (v : Nat) (h : r ∈ [.GEN_CTL, .SEC_LIC, .SEC_LIC_NUM, .SEC_EVT]) : LicenceActs s (s.fset r f v) :=
  rset s _ h

theorem signals (h : Signals s t) : LicenceActs s t := ⟨by rw [h.1], h.2.mono fun _ hr => List.mem_append_right [_, _, _, _] hr⟩

theorem licForce (s : State) (l : Option (List Byte)) (src : Nat) : LicenceActs s (s.licForce l src) := by
  unfold State.licForce
  extract_lets n old s0 _ s1
  have h0 : LicenceActs s s0 := ite (refl s) (fset s _ _ (by simp))
  have h1 : LicenceActs s0 s1 := (((show LicenceActs s0 { s0 with sec := { s0.sec with lic := l } } from ⟨rfl, fun _ _ => rfl⟩).trans
    (fset _ _ _ (by simp))).trans (fset _ _ _ (by simp))).trans (rset _ _ (by simp))
  exact ite (h0.trans h1) ((h0.trans h1).trans ((rset _ _ (by simp)).trans (signals (Signals.raise _ _))))

end LicenceActs

/-- The words of a digest, written one after the other. -/
theorem State.foldl_rset (reg : Nat → Reg) (val : Nat → Word) (s : State) {l : List Nat} (hreg : ∀ i ∈ l, ∀ j ∈ l, reg i = reg j → i = j) :
    l.foldl (fun (s : State) w => s.rset (reg w) (val w)) s = { s with regs := (l.foldl (fun (s : State) w => s.rset (reg w) (val w)) s).regs } ∧
      (∀ i ∈ l, (l.foldl (fun (s : State) w => s.rset (reg w) (val w)) s).rget (reg i) = val i) ∧
      ∀ r, (∀ i ∈ l, r ≠ reg i) → (l.foldl (fun (s : State) w => s.rset (reg w) (val w)) s).rget r = s.rget r := by
  induction l using List.reverseRecOn with
  | nil => exact ⟨rfl, by simp, fun _ _ => rfl⟩
  | append_singleton l a ih =>
    obtain ⟨hrest, hval, hother⟩ := ih fun i hi j hj => hreg i (by simp [hi]) j (by simp [hj])
    rw [List.foldl_append]
    refine ⟨?_, fun i hi => ?_, fun r hr => ?_⟩
    · rw [List.foldl_cons, List.foldl_nil, hrest]
      rfl
    · rw [List.foldl_cons, List.foldl_nil, State.rget_rset]
      split
      next heq => rw [hreg i hi a (by simp) heq]
      next hne => exact hval i ((List.mem_append.mp hi).resolve_right fun h => hne (by rw [List.mem_singleton.mp h]))
    · rw [List.foldl_cons, List.foldl_nil, State.rget_rset_other _ _ (hr a (by simp))]
      exact hother r fun i hi => hr i (by simp [hi])

/-- What the end of a load leaves of the state `s` in which its image is in force (R147). -/
structure LoadDone (s u : State) : Prop where
  st : ∀ j, (u.spans.at j).st = (s.spans.at j).st
  image : u.image = s.image
  engs : u.engs = s.engs
  gen : u.gen = s.gen
  mem : u.mem = s.mem
  busy : u.load.busy = false
  state : u.fget .CFG_LOAD_STAT F.CFG_LOAD_STAT_STATE = 6
  regs : RegsKept [.GEN_CTL, .SEC_LIC, .SEC_LIC_NUM, .SEC_EVT, .CFG_LOAD_STAT, .CFG_LOAD_SPAN, .HBR_ERR, .HBR_TLP_TX, .LDP_ALERT] s u

theorem LicenceActs.loadDone {t : State} (h : LicenceActs s t) (p : Prop) [Decidable p] :
    LoadDone s (if p then (t.loadEnd 6 0 0 0 0).raise 21 else t.loadEnd 6 0 0 0 0).degradeCheck := by
  obtain ⟨w, hw, hend⟩ := t.loadEnd_rest 6 0 0 0 0
  have hregs := t.loadEnd_regs 6 0 0 0 0
  have hstat := t.loadEnd_state 6 0 0 0 0 (by decide)
  have hbusy := t.loadEnd_busy 6 0 0 0 0
  generalize t.loadEnd 6 0 0 0 0 = x at *
  have hsig : Signals x (if p then x.raise 21 else x) := by
    split
    · exact Signals.raise _ _
    · exact Signals.refl _
  generalize (if p then x.raise 21 else x) = v at *
  have hflags := FlagActs.degradeCheck v
  refine ⟨fun j => ?_, ?_, ?_, ?_, ?_, ?_, ?_, fun r hr => ?_⟩
  · rw [State.degradeCheck_st, hsig.spans, hend.spans, hw, h.rest]
  · rw [hflags.rest, hsig.image, hend.image, hw, h.rest]
  · rw [hflags.rest, hsig.engs, hend.engs, hw, h.rest]
  · rw [hflags.rest, hsig.1, hend.1, hw, h.rest]
  · rw [hflags.rest, hsig.1, hend.1, hw, h.rest]
  · rw [hflags.rest, hsig.load]
    exact hbusy
  · rw [hflags.regs.fget (by simp [signalRegs]), hsig.fget _ (by simp [signalRegs])]
    exact hstat
  · simp only [List.mem_cons, not_or, List.not_mem_nil] at hr
    rw [hflags.regs r (by simp [signalRegs, hr]), hsig.2 r (by simp [signalRegs, hr]), hregs r (by simp [signalRegs, hr]),
      h.regs r (by simp [signalRegs, hr])]

/-- The state with the new entries IDLE and the generators seeded anew (R53, R91, R147). -/
def State.loadSeeded (s : State) : State :=
  let s1 := s.load.fresh.foldl (fun (s : State) j => s.spanUpd j (fun e => { e with st := .idle })) s
  { s1.seedEngines with
    image := { s1.image with loaded := true }
    gen := { s1.gen with draws := 0, seeds := s1.gen.seeds + 1 } }

theorem State.loadSeeded_eq (s : State) : s.loadSeeded = { s with
    spans := s.loadSeeded.spans
    engs := s.loadSeeded.engs
    free := s.free + 1
    image := { s.image with loaded := true }
    gen := { s.gen with draws := 0, seeds := s.gen.seeds + 1 } } := by
  unfold State.loadSeeded
  dsimp only
  rw [(State.seedEngines_eq _).1, State.foldl_spanUpd_rest]

theorem State.loadSeeded_keeps (s : State) : s.loadSeeded.image.loaded = true ∧ s.loadSeeded.gen.seeds = s.gen.seeds + 1 ∧
    s.loadSeeded.gen.draws = 0 ∧ s.loadSeeded.mem = s.mem :=
  ⟨(congrArg (·.image.loaded) s.loadSeeded_eq :), (congrArg (·.gen.seeds) s.loadSeeded_eq :), (congrArg (·.gen.draws) s.loadSeeded_eq :),
    (congrArg (·.mem) s.loadSeeded_eq :)⟩

theorem State.loadSeeded_spans (s : State) (j : Nat) :
    (s.loadSeeded.spans.at j).st = if j ∈ s.load.fresh then .idle else (s.spans.at j).st := by
  have h := State.foldl_spanUpd_at s.load.fresh s (f := fun e => { e with st := .idle }) (fun _ => rfl) j
  unfold State.loadSeeded
  dsimp only
  rw [(State.seedEngines_eq _).1, h]
  split <;> rfl

theorem State.loadSeeded_engs (s : State) {e : Nat} (he : e < 96) : (s.loadSeeded.engs.at e).seed = s.free ∧ (s.loadSeeded.engs.at e).draws = 0 := by
  have h := (s.load.fresh.foldl (fun (s : State) j => s.spanUpd j (fun e => { e with st := .idle })) s).seedEngines_eq.2 e he
  rw [State.foldl_spanUpd_rest] at h
  unfold State.loadSeeded
  dsimp only
  rw [State.foldl_spanUpd_rest]
  exact h

/-- The state with the name and the digest of the image shown (R147). -/
def State.loadNamed (s : State) (u : LoadUnit) : State :=
  ((List.range 16).foldl (fun (s : State) w => s.rset (.CFG_IMG_DIGEST (Fin.ofNat 16 w)) (wordOf (num u.digest (4 * w) 4)))
    (s.rset .CFG_LOAD_ID (wordOf u.id))).fset .SEC_KEYS F.SEC_KEYS_IMG_SLOT u.slot

theorem State.loadNamed_shows (s : State) (u : LoadUnit) : s.loadNamed u = { s with regs := (s.loadNamed u).regs } ∧
    (s.loadNamed u).rget .CFG_LOAD_ID = wordOf u.id ∧ ∀ w : Fin 16, (s.loadNamed u).rget (.CFG_IMG_DIGEST w) = wordOf (num u.digest (4 * w.val) 4) := by
  have hdigests : ∀ i ∈ List.range 16, ∀ j ∈ List.range 16, Reg.CFG_IMG_DIGEST (Fin.ofNat 16 i) = .CFG_IMG_DIGEST (Fin.ofNat 16 j) → i = j := by
    intro i hi j hj h
    have hval := congrArg Fin.val (Reg.CFG_IMG_DIGEST.inj h)
    have := List.mem_range.mp hi
    have := List.mem_range.mp hj
    simp only [Fin.val_ofNat] at hval
    omega
  obtain ⟨hrest, hwords, hother⟩ := (s.rset .CFG_LOAD_ID (wordOf u.id)).foldl_rset (fun w => .CFG_IMG_DIGEST (Fin.ofNat 16 w))
    (fun w => wordOf (num u.digest (4 * w) 4)) hdigests
  refine ⟨?_, ?_, fun w => ?_⟩
  · unfold State.loadNamed
    rw [hrest]
    rfl
  · exact (State.rget_fset_other _ _ _ (by simp)).trans ((hother _ (by simp)).trans (State.rget_rset_same _ _ _))
  · have h := hwords w.val (List.mem_range.mpr w.isLt)
    rw [Fin.ofNat_val_self] at h
    exact (State.rget_fset_other _ _ _ (by simp)).trans h

theorem State.loadNamed_keeps (s : State) (u : LoadUnit) : (s.loadNamed u).spans = s.spans ∧ (s.loadNamed u).image = s.image ∧
    (s.loadNamed u).engs = s.engs ∧ (s.loadNamed u).gen = s.gen ∧ (s.loadNamed u).mem = s.mem :=
  have h := (s.loadNamed_shows u).1
  ⟨(congrArg (·.spans) h :), (congrArg (·.image) h :), (congrArg (·.engs) h :), (congrArg (·.gen) h :), (congrArg (·.mem) h :)⟩

/-- A load whose mode change is over is LOADED (R147, R460). -/
theorem exec_imageLoaded_over {c : ModeChange} (hbusy : s.load.busy = true) (hstate : s.fget .CFG_LOAD_STAT F.CFG_LOAD_STAT_STATE = 5)
    (hmode : s.mode = some c) (hphase : c.phase = 3) : ∃ u, exec .imageLoaded s = .next u ∧ LoadDone (s.loadSeeded.loadNamed s.load) u := by
  change ∃ u, execImageLoaded s = .next u ∧ _
  unfold execImageLoaded
  rw [hmode]
  dsimp only
  rw [if_neg (by simp [hbusy, hstate]), if_neg (by simp [hphase]), if_neg (by simp [hphase])]
  refine ⟨_, rfl, LicenceActs.loadDone (s := s.loadSeeded.loadNamed s.load) ?_ _⟩
  split
  · exact .refl _
  · split
    · exact .licForce _ _ _
    · exact .licForce _ _ _

/-- A load whose mode change aborts fails: the new entries are EMPTY (R147). -/
theorem exec_imageLoaded_aborted {c : ModeChange} (hbusy : s.load.busy = true) (hstate : s.fget .CFG_LOAD_STAT F.CFG_LOAD_STAT_STATE = 5)
    (hmode : s.mode = some c) (hphase : c.phase = 4) : ∃ u, exec .imageLoaded s = .next u ∧ u.fget .CFG_LOAD_STAT F.CFG_LOAD_STAT_STATE = 8 ∧
      u.fget .CFG_LOAD_STAT F.CFG_LOAD_STAT_ERR = 3 ∧ u.load.busy = false ∧ ∀ j ∈ s.load.fresh, u.spans.at j = default := by
  have hexec : exec .imageLoaded s = .next (s.placeFailed 0 3) := by
    change execImageLoaded s = _
    unfold execImageLoaded
    rw [hmode]
    dsimp only
    rw [if_neg (by simp [hbusy, hstate]), if_pos (by simp [hphase])]
  refine ⟨_, hexec, ?_⟩
  unfold State.placeFailed
  extract_lets s1 s2 s3
  refine ⟨State.loadEnd_state _ _ _ _ _ _ (by decide), State.loadEnd_err _ _ _ _ _ _ (by decide), State.loadEnd_busy _ _ _ _ _ _, fun j hj => ?_⟩
  have hfreed : s1.spans.at j = default := (State.release_frees s _).1 j hj
  have h2 : s2.spans = s1.spans := by
    dsimp only [s2]
    split
    · rfl
    · obtain ⟨u, hu, -, hu'⟩ := s1.noImage_acts
      rw [(SettingActs.putTickets _ _).rest, hu.rest, hu']
  have hforget (l : List Nat) (t : State) : (l.foldl (fun (s : State) m => if (s.movers.at m).hubfl = [] then s.flashForget (.hub m) else s) t).spans = t.spans := by
    refine List.foldlRecOn (motive := fun v : State => v.spans = t.spans) l _ rfl fun v hv m _ => ?_
    split
    · rw [(Upkeep.flashForget v (.hub m)).rest]
      exact hv
    · exact hv
  obtain ⟨t, ht, hend⟩ := State.loadEnd_rest ((List.range 16).foldl (fun (s : State) m => if (s.movers.at m).hubfl = [] then s.flashForget (.hub m) else s) s3) 8 0 0 0 3
  rw [hend.spans, ht]
  dsimp only
  rw [hforget]
  change s2.spans.at j = _
  rw [h2]
  exact hfreed

/-- Step 8 begins once nothing is left to copy and no mode change is in progress (R147, R153). -/
theorem exec_imageLoaded_begins (hbusy : s.load.busy = true) (hstate : s.fget .CFG_LOAD_STAT F.CFG_LOAD_STAT_STATE = 4)
    (hextents : s.load.extents = []) (hfree : s.modeBusy = false) : ∃ u, exec .imageLoaded s = .next u ∧
      u.fget .CFG_LOAD_STAT F.CFG_LOAD_STAT_STATE = 5 ∧ u.mode.isSome = true ∧ u.load = s.load ∧ u.spans = s.spans ∧ u.mem = s.mem := by
  obtain ⟨hmode, u, hu, hacts⟩ := (s.loadState 5).modeStart_runs 1 (if s.load.partialLoad then (s.load.fresh.foldl min 4095) else 0xFFF) s.freshUnits
  refine ⟨(s.loadState 5).modeStart 1 (if s.load.partialLoad then (s.load.fresh.foldl min 4095) else 0xFFF) s.freshUnits, ?_, ?_, hmode, ?_, ?_, ?_⟩
  · change execImageLoaded s = _
    unfold execImageLoaded State.loadActivate
    rw [if_pos (.inr (by rw [hstate]; decide)), if_pos ⟨hbusy, hstate, hextents, by simp [hfree]⟩]
  · rw [hacts.regs.fget (by simp), hu]
    exact State.fget_fset_same s .CFG_LOAD_STAT F.CFG_LOAD_STAT_STATE 5 (by decide)
  · rw [hacts.rest, hu]
    rfl
  · rw [hacts.rest, hu]
    rfl
  · rw [hacts.rest, hu]
    rfl

theorem exec_imageLoaded_idle (hbusy : s.load.busy = false) : exec .imageLoaded s = .next s := by
  change execImageLoaded s = _
  unfold execImageLoaded State.loadActivate
  rw [if_pos (.inl (by simp [hbusy])), if_neg (by simp [hbusy])]

theorem exec_imageLoaded_waits {c : ModeChange} (hbusy : s.load.busy = true) (hstate : s.fget .CFG_LOAD_STAT F.CFG_LOAD_STAT_STATE = 5)
    (hmode : s.mode = some c) (h3 : c.phase ≠ 3) (h4 : c.phase ≠ 4) : exec .imageLoaded s = .next s := by
  change execImageLoaded s = _
  unfold execImageLoaded
  rw [hmode]
  dsimp only
  rw [if_neg (by simp [hbusy, hstate]), if_neg (by simp [h4]), if_pos (by simp [h3])]

end

/-- Settles O14, by what the end of a load shows, by what its steps leave of the span table and of the load, and by the three ends that the mode
change of step 8 can have. -/
theorem imageLoadsComplete : Obligations.ImageLoadsComplete := by
  refine ⟨fun v host s hgo hbusy => ?_, fun v host s heven => ?_, fun v host s s0 s1 s2 l hgo hbusy hs0 hbytes hidle => ?_,
    fun s => exec_imageLoaded_idle, fun s => exec_imageLoaded_begins, fun s c hbusy hstate hmode => ⟨fun h3 => ?_, fun h4 => ?_, fun h3 h4 => ?_⟩⟩
  · change execImageLoad v host s = _
    unfold execImageLoad
    rw [if_neg (by omega), if_pos hbusy]
  · exact if_pos heven
  · subst hs0
    have hread := exec_imageLoad_read hgo hbusy hbytes hidle
    refine ⟨fun r hfit => ?_, fun h lic img hfit hnone => ?_, fun h lic img d w hfit hsome => ?_⟩
    · rw [hfit] at hread
      obtain ⟨t, ht, hend⟩ := s2.loadEnd_rest 7 r.code r.rec_ r.span 0
      refine ⟨s2.loadRefused r, hread, s2.loadEnd_state _ _ _ _ _ (by decide), s2.loadEnd_code _ _ _ _ _, s2.loadEnd_record _ _ _ _ _,
        s2.loadEnd_span _ _ _ _ _, s2.loadEnd_busy _ _ _ _ _, s2.loadEnd_raised _ _ _ _ _, ?_, ?_, ?_⟩
      · exact hend.spans.trans (by rw [ht])
      · exact hend.image.trans (by rw [ht])
      · exact hend.mem.trans (by rw [ht])
    · rw [hfit] at hread
      have hready : ({ s2 with load := { s2.load with busy := true } } : State).dozeNeeded img = [] := hnone
      dsimp only at hread
      rw [if_pos hready] at hread
      exact ⟨_, hread, State.loadWrite_places rfl h lic img⟩
    · rw [hfit] at hread
      have hwait : ¬ ({ s2 with load := { s2.load with busy := true } } : State).dozeNeeded img = [] := by
        rw [show ({ s2 with load := { s2.load with busy := true } } : State).dozeNeeded img = d :: w from hsome]
        exact List.cons_ne_nil _ _
      dsimp only at hread
      rw [if_neg hwait] at hread
      exact ⟨_, hread, rfl, hsome, rfl, State.fget_fset_same _ _ _ _ (by decide), rfl⟩
  · obtain ⟨u, hu, hdone⟩ := exec_imageLoaded_over hbusy hstate hmode h3
    obtain ⟨-, hid, hdigest⟩ := s.loadSeeded.loadNamed_shows s.load
    obtain ⟨hspans, himage, hengs, hgen, hmem⟩ := s.loadSeeded.loadNamed_keeps s.load
    obtain ⟨hloaded, hseeds, hdraws, hkept⟩ := s.loadSeeded_keeps
    have hst (j : Nat) : (u.spans.at j).st = if j ∈ s.load.fresh then .idle else (s.spans.at j).st := by
      rw [hdone.st, hspans, State.loadSeeded_spans]
    refine ⟨u, hu, fun j hj => (hst j).trans (if_pos hj), fun j hj => (hst j).trans (if_neg hj), ?_, (hdone.regs _ (by simp)).trans hid, hdone.state,
      hdone.busy, fun e he => ?_, ?_, ?_, fun w => (hdone.regs _ (by simp)).trans (hdigest w), hdone.mem.trans (hmem.trans hkept)⟩
    · rw [hdone.image, himage, hloaded]
    · rw [hdone.engs, hengs]
      exact s.loadSeeded_engs he
    · rw [hdone.gen, hgen, hseeds]
    · rw [hdone.gen, hgen, hdraws]
  · exact exec_imageLoaded_aborted hbusy hstate hmode h4
  · exact exec_imageLoaded_waits hbusy hstate hmode h3 h4

end Sys2Proof.Machine

namespace Sys2Proof.Machine

/-! PROOFS. A frame that arrives on a Wealey port (O35; R325, R329, R336, R338). -/

section
variable {p : Port} {f : Frame} {x : Instr × Frame} {serve : State → State}

/-- Every command of a frame that arrives serves it as its TYPE makes it, where it is served at all. -/
theorem exec_arrival (hx : x ∈ arrivals p f) (s : State) : ∃ serve, exec x.1 s = s.arrive p x.2 serve := by
  simp only [arrivals, List.mem_cons, List.not_mem_nil, or_false] at hx
  rcases hx with rfl | rfl | rfl | rfl | rfl
  · exact ⟨fun s => s.serveWriteFrame p { f with typ := 1 }, rfl⟩
  · exact ⟨fun s => s.serveReadFrame p { f with typ := 2, data := [], pois := [], segcrc := [] }, rfl⟩
  · exact ⟨_, rfl⟩
  · exact ⟨_, rfl⟩
  · exact ⟨fun t => match t.ewrite p { f with typ := 5 } with
      | some r => r.1.respond { f with typ := 5 } r.2 [] []
      | none => s, rfl⟩

/-- The TYPE, and the data that only some frames carry, are all that a command changes of its frame. -/
theorem arrival_header (hx : x ∈ arrivals p f) : x.2.hops = f.hops ∧ x.2.dst = f.dst ∧ x.2.src = f.src ∧ x.2.tag = f.tag := by
  simp only [arrivals, List.mem_cons, List.not_mem_nil, or_false] at hx
  rcases hx with rfl | rfl | rfl | rfl | rfl
  · exact ⟨rfl, rfl, rfl, rfl⟩
  · exact ⟨rfl, rfl, rfl, rfl⟩
  · exact ⟨rfl, rfl, rfl, rfl⟩
  · exact ⟨rfl, rfl, rfl, rfl⟩
  · exact ⟨rfl, rfl, rfl, rfl⟩

variable {s : State}

theorem State.arrive_down (h : s.portState p.val ≠ 4) (f : Frame) (serve : State → State) : s.arrive p f serve = .next s := if_pos h

theorem State.arrive_bad (h : s.portState p.val = 4) (hseg : segOk f = false) (serve : State → State) :
    s.arrive p f serve = .next (s.via (execCodewordReceive p 0 true 0)) := by
  unfold State.arrive
  rw [if_neg (not_not.mpr h), hseg]
  rfl

theorem State.arrive_expired (h : s.portState p.val = 4) (hseg : segOk f = true) (hhops : f.hops.val = 63) (serve : State → State) :
    s.arrive p f serve = .next ((s.slicesFreed p.val f).frameLost f) := by
  unfold State.arrive
  rw [if_neg (not_not.mpr h), hseg, if_neg (by simp)]
  exact if_pos hhops

theorem State.arrive_onwards (h : s.portState p.val = 4) (hseg : segOk f = true) (hhops : f.hops.val < 63) (hdst : f.dst.val ≠ s.devNum)
    (serve : State → State) : s.arrive p f serve = .next ((s.slicesFreed p.val f).frameOut f) := by
  unfold State.arrive
  rw [if_neg (not_not.mpr h), hseg, if_neg (by simp)]
  exact (if_neg (by omega)).trans (if_pos hdst)

theorem State.arrive_here (h : s.portState p.val = 4) (hseg : segOk f = true) (hhops : f.hops.val < 63) (hdst : f.dst.val = s.devNum)
    (serve : State → State) : s.arrive p f serve = .next (serve (s.slicesFreed p.val f)) := by
  unfold State.arrive
  rw [if_neg (not_not.mpr h), hseg, if_neg (by simp)]
  exact (if_neg (by omega)).trans (if_neg (not_not.mpr hdst))

/-- A codeword that fails, short of the threshold, is asked for again and counted (R329). -/
theorem State.badCodeword_counts (h : s.portState p.val = 4)
    (hthr : (s.ports.at p.val).ucws + 1 < max 1 (s.fget (.LNK_CTL (Fin.ofNat 2 (p.val / 8))) F.LNK_CTL_UCW_THR)) :
    ∃ u, s.via (execCodewordReceive p 0 true 0) = u ∧ (u.ports.at p.val).nak = true ∧
      u.fget (ucwReg p.val) F.LNK_UCW_UCW = min (s.fget (ucwReg p.val) F.LNK_UCW_UCW + 1) (2 ^ F.LNK_UCW_UCW.len - 1) ∧
      RegsKept [ucwReg p.val] s u ∧ u = { s with regs := u.regs, ports := u.ports } := by
  refine ⟨_, rfl, ?_⟩
  unfold State.via execCodewordReceive
  rw [if_neg (by simp [h])]
  extract_lets u n w thr s1 s2 _
  have hbelow : ¬ (s.portState p.val = 4 ∧ thr ≤ u.ucws + 1) := fun hno => absurd hno.2 (by dsimp only [u, thr]; omega)
  rw [if_pos rfl, if_neg hbelow]
  refine ⟨?_, State.fget_cnt_same s1 _ _ _ (by decide), ?_, rfl⟩
  · exact congrArg PortUnit.nak (Tab.at_upd_same _ p.val (fun x : PortUnit => { x with nak := true }))
  · exact RegsKept.cnt (s := s1) F.LNK_UCW_UCW 1 (by simp)

/-- A request that has crossed too many devices is completed to its requester with STATUS 3 (R336). -/
theorem State.frameLost_responds (hreq : frameRequest f = true) (hsrc : f.src.val ≠ s.devNum) : Responds f 4 3 [] s (s.frameLost f) ∧
    Raised 340 s (s.frameLost f) ∧
    (s.frameLost f).fget .LNK_EXP F.LNK_EXP_EXPIRED = min (s.fget .LNK_EXP F.LNK_EXP_EXPIRED + 1) (2 ^ F.LNK_EXP_EXPIRED.len - 1) ∧
    RegsKept (.LNK_EXP :: signalRegs) s (s.frameLost f) ∧ (s.frameLost f).mem = s.mem ∧ (s.frameLost f).ports = s.ports := by
  have hsig := Signals.raise (s.cnt .LNK_EXP F.LNK_EXP_EXPIRED 1) 340
  have hraised := (s.cnt .LNK_EXP F.LNK_EXP_EXPIRED 1).raise_raised 340
  unfold State.frameLost
  rw [if_pos hreq]
  dsimp only
  rw [if_neg hsrc]
  refine ⟨⟨{ f with typ := 4, src := Fin.ofNat 64 s.devNum, dst := f.src, down := false, hops := 0, status := 3, len := 0
                    segcrc := [], data := [], pois := [] }, ?_, rfl, rfl, rfl, rfl, rfl, rfl, rfl⟩, hraised, ?_, ?_, ?_, ?_⟩
  · change (((s.cnt .LNK_EXP F.LNK_EXP_EXPIRED 1).raise 340).grp.frames ++ _) = _
    rw [hsig.1]
    rfl
  · exact (State.raise_fget _ _ (by simp [signalRegs]) _).trans (State.fget_cnt_same s _ _ _ (by decide))
  · exact (RegsKept.cnt (s := s) (r := .LNK_EXP) F.LNK_EXP_EXPIRED 1 (by simp)).trans (hsig.2.mono fun r hr => List.mem_cons_of_mem _ hr)
  · change ((s.cnt .LNK_EXP F.LNK_EXP_EXPIRED 1).raise 340).mem = _
    rw [hsig.1]
    rfl
  · change ((s.cnt .LNK_EXP F.LNK_EXP_EXPIRED 1).raise 340).ports = _
    rw [hsig.1]
    rfl

end

/-- Settles O35, by the branches of an arrival: the port is down, a segment fails its CRC, HOPS is at its limit, or the frame goes on. -/
theorem framesReachTheirDevice : Obligations.FramesReachTheirDevice := by
  intro p f s x hx
  obtain ⟨serve, hexec⟩ := exec_arrival hx s
  obtain ⟨hhops, hdst, hsrc, htag⟩ := arrival_header hx
  rw [hexec]
  refine ⟨fun hdown => State.arrive_down hdown _ _, fun hrun hseg hthr => ?_,
    fun hrun hseg => ⟨fun hlow hother => ?_, fun hlimit hresponse => ?_, fun hlimit hrequest hother => ?_⟩⟩
  · obtain ⟨u, hu, h⟩ := State.badCodeword_counts hrun hthr
    exact ⟨u, by rw [State.arrive_bad hrun hseg, hu], h⟩
  · exact State.arrive_onwards hrun hseg (hhops ▸ hlow) (hdst ▸ hother) serve
  · rw [State.arrive_expired hrun hseg (hhops ▸ hlimit)]
    exact congrArg Host.Outcome.next (if_neg (by simp [hresponse]))
  · refine ⟨_, State.arrive_expired hrun hseg (hhops ▸ hlimit) serve, ?_⟩
    have h := State.frameLost_responds (s := s.slicesFreed p.val x.2) hrequest (hsrc ▸ hother)
    unfold Responds at h ⊢
    rw [hsrc, htag] at h
    exact h

end Sys2Proof.Machine

namespace Sys2Proof.Machine

/-! PROOFS. Writes to the thread contexts of an engine that works (O36, O38; R173): others than the engine are refused, also a frame of another device and
the host, which the statements on memory do not leave out. -/

/-! ### An engine that works -/

/-- A started device in which engine 0 works for span 0, with contexts in the last 256 bytes of its local store; port 0 is in RUN, and the host link is up,
with the PF's window at the local stores. -/
def guarding : State :=
  { ((((((State.reset.fset .BUP_STAT F.BUP_STAT_STAGE 10).fset .BUP_STAT F.BUP_STAT_LEVEL 4).fset (pstatReg 0) F.LNK_PSTAT_STATE 4).bset .HBR_STAT F.HBR_STAT_UP true).bset
      .HBR_STAT F.HBR_STAT_READY true).fset .HBR_WIN F.HBR_WIN_BASE 0x1880) with
    bridgeEn := true
    engs := [(0, { (default : EngUnit) with contexts := 1 })]
    spans := [(0, { (default : SpanEnt) with st := .running, members := [.engine 0] })] }

/-- The last word of engine 0's local store, its block, and the cell of that. -/
def contextWord : Nat := storeAddr 0 0x1FFFFFC
@[inherit_doc contextWord] def contextBlock : Nat := storeAddr 0 0x1FFFF00
@[inherit_doc contextWord] def contextCell : CellRef := guarding.localCell (guarding.siteOf 0) 0x1FFFF00

/-- Bundles that have no history and do not retrain take requests. -/
theorem bundlesFree_of_fresh {s : State} (hcwy : s.cwy = []) (h : (List.finRange 78).all (fun p => s.fget (.CWY_STAT p) F.CWY_STAT_STATE ≠ 3) = true) :
    BundlesFree s := by
  intro p dir
  have hp : s.fget (.CWY_STAT (bundleNo p)) F.CWY_STAT_STATE ≠ 3 := of_decide_eq_true (List.all_eq_true.mp h _ (List.mem_finRange _))
  unfold State.bundleWaits State.bundleState State.dirOf
  rw [hcwy]
  simp only [hp, decide_false, Bool.false_or]
  rfl

theorem guarding_bundlesFree : BundlesFree guarding := bundlesFree_of_fresh rfl (by decide +kernel)

/-- A request to that word meets what the statements take for granted of an access, where it is not held and is no edge router's. -/
theorem guarding_clean {q : MemReq} (haddr : q.addr = contextWord) (hlen : q.len = 4) (hhub : decide (q.rq = .hub) = false)
    (hheld : guarding.holds ((guarding.resourceOf contextWord).getD 73) q = false) (hedge : guarding.edgeHeld q.rq = false) :
    CleanAccess q guarding contextBlock contextCell := by
  have hstack : guarding.stackOf contextWord = none := by decide +kernel
  have hplace : contextBlock = contextWord / 256 * 256 ∧ contextWord + 4 ≤ contextBlock + 256 ∧ guarding.cellOf false contextBlock = some contextCell ∧
      guarding.promoted contextBlock = none ∧ (guarding.mem.insts.at contextCell.ik).patch = [] ∧
      bitAt (guarding.fget .MEM_FLIP_CTL F.MEM_FLIP_CTL_ARM) contextCell.cls = false := by decide +kernel
  have hmanifest : (guarding.readBlock true false contextBlock).all (fun x => crc32c (wordsToBytes x.2.1) = x.2.2.2) = true := by decide +kernel
  obtain ⟨hblock, hend, hcell, hpage, hpatch, hflip⟩ := hplace
  unfold CleanAccess
  rw [haddr, hlen, hhub]
  refine ⟨by decide, hblock, hend, hheld, guarding_bundlesFree, hedge, ?_, hcell, hpage, hpatch, fun k => rfl, hflip, fun x hx => ?_, rfl, rfl⟩
  · rw [hstack]
    exact fun n hn => absurd hn (by simp)
  · rw [hx] at hmanifest
    simpa using hmanifest

theorem guarding_guards : guarding.ctxGuard (.wealey 0) contextWord 4 = true ∧ guarding.ctxGuard (.host 0) contextWord 4 = true := by decide +kernel

/-- A request that the contexts' guard refuses changes no memory (R173). -/
theorem State.request_guarded {s : State} {q : MemReq} (hheld : s.holds ((s.resourceOf q.addr).getD 73) q = false) (hbundles : BundlesFree s)
    (hedge : s.edgeHeld q.rq = false) (hwin : s.grp.winHeld = []) (hguard : s.ctxGuard q.rq q.addr q.len = true) :
    (s.request q true).mem = s.mem := by
  obtain ⟨t, hbeside, hperform⟩ := State.perform_ok hbundles hedge true (heldBrought q)
  rw [State.request_performed hheld hperform, if_pos rfl]
  have hserve : t.serveWrite q = t.reply .error := if_pos ((hbeside.ctxGuard_eq _ _ _).trans hguard)
  rw [hserve, (Beside.answer (s := t.reply .error) q true (hbeside.winHeld.trans hwin)).mem_eq]
  exact hbeside.mem_eq

/-! ### A frame of another device -/

/-- The slices that a port frees are no part of what an access needs. -/
theorem cleanAccess_slicesFreed {q : MemReq} {s : State} {b : Nat} {c : CellRef} {p : Nat} {f : Frame} (h : CleanAccess q s b c)
    (hread : ∀ x, (s.slicesFreed p f).readBlock true false b = some x → crc32c (wordsToBytes x.2.1) = x.2.2.2) :
    CleanAccess q (s.slicesFreed p f) b c := by
  obtain ⟨hpos, hblock, hend, hheld, hbundles, hedge, hstack, hcell, hpage, hpatch, hsyn, hflip, -, hwin, hnew⟩ := h
  exact ⟨hpos, hblock, hend, hheld, hbundles, hedge, hstack, hcell, hpage, hpatch, hsyn, hflip, hread, hwin, hnew⟩

theorem State.memReq_slicesFreed (s : State) (p : Nat) (f : Frame) (rq : Requester) (a n : Nat) (t : Ticket) (held : Fin 1024) (data : List Byte)
    (pois : List Bool) : (s.slicesFreed p f).memReq rq a n t held data pois = s.memReq rq a n t held data pois := rfl

section
variable (s : State) (n : Nat) (g : GroupUnit)

/-- The state with other numbers drawn and other requests waiting: what a request needs of it is as before. -/
def State.asking (s : State) (n : Nat) (g : GroupUnit) : State := { s with free := n, grp := g }

theorem State.holds_asking (r : Nat) (q : MemReq) : (s.asking n g).holds r q = s.holds r q := rfl
theorem State.resourceOf_asking (a : Nat) : (s.asking n g).resourceOf a = s.resourceOf a := rfl
theorem State.edgeHeld_asking (q : Requester) : (s.asking n g).edgeHeld q = s.edgeHeld q := rfl
theorem State.ctxGuard_asking (q : Requester) (a len : Nat) : (s.asking n g).ctxGuard q a len = s.ctxGuard q a len := rfl

theorem BundlesFree.asking {s : State} (h : BundlesFree s) : BundlesFree (s.asking n g) := h

variable {s n g}

theorem State.request_asking_guarded {q : MemReq} (hheld : s.holds ((s.resourceOf q.addr).getD 73) q = false) (hbundles : BundlesFree s)
    (hedge : s.edgeHeld q.rq = false) (hwin : g.winHeld = []) (hguard : s.ctxGuard q.rq q.addr q.len = true) :
    ((s.asking n g).request q true).mem = s.mem :=
  State.request_guarded (s := s.asking n g) (by rw [State.resourceOf_asking, State.holds_asking]; exact hheld) (BundlesFree.asking n g hbundles)
    ((s.edgeHeld_asking n g _).trans hedge) hwin ((s.ctxGuard_asking n g _ _ _).trans hguard)

theorem State.ingressGo_eq (s : State) (p : Port) (f : Frame) (write : Bool) : ∃ g : GroupUnit, g.winHeld = s.grp.winHeld ∧
    s.ingressGo p f write = (s.asking (s.free + 1 + 1 + 1) g).request (s.memReq (.wealey p) f.addr f.len f.ticket f.held f.data (frameBytePois f)) write := by
  refine ⟨{ s.grp with ingress := s.grp.ingress ++ [(s.memReq (.wealey p) f.addr f.len f.ticket f.held f.data (frameBytePois f), f)] }, rfl, ?_⟩
  unfold State.ingressGo State.asking State.tick
  rfl

/-- A frame's write that the contexts' guard refuses changes no memory. -/
theorem State.ingressGo_guarded {p : Port} {f : Frame}
    (hheld : s.holds ((s.resourceOf f.addr).getD 73) (s.memReq (.wealey p) f.addr f.len f.ticket f.held f.data (frameBytePois f)) = false)
    (hbundles : BundlesFree s) (hedge : s.edgeHeld (.wealey p) = false) (hwin : s.grp.winHeld = [])
    (hguard : s.ctxGuard (.wealey p) f.addr f.len = true) : (s.ingressGo p f true).mem = s.mem :=
  have ⟨_, hwaits, hrequest⟩ := s.ingressGo_eq p f true
  (congrArg State.mem hrequest).trans (State.request_asking_guarded hheld hbundles hedge (hwaits.trans hwin) hguard)

/-- So does one that a port has taken in. -/
theorem State.ingressGo_taken_guarded {p : Port} {f : Frame}
    (hheld : s.holds ((s.resourceOf f.addr).getD 73) (s.memReq (.wealey p) f.addr f.len f.ticket f.held f.data (frameBytePois f)) = false)
    (hbundles : BundlesFree s) (hedge : s.edgeHeld (.wealey p) = false) (hwin : s.grp.winHeld = [])
    (hguard : s.ctxGuard (.wealey p) f.addr f.len = true) : ((s.slicesFreed p.val f).ingressGo p f true).mem = s.mem :=
  State.ingressGo_guarded (s := s.slicesFreed p.val f) hheld hbundles hedge hwin hguard

end

/-- A WRITE frame of device 5 to that word. -/
def contextFrame : Frame :=
  ⟨1, false, 1, 0, 5, false, 0, 0, 0, 9, contextWord, 4, segCrcs contextWord [1, 2, 3, 4], 0, [1, 2, 3, 4], []⟩

theorem contextFrame_served : ServedHere 0 contextFrame guarding := by
  unfold ServedHere
  decide +kernel

/-- The request that it makes, where the port has its slices free again. -/
def contextWrite : MemReq := guarding.memReq (.wealey 0) contextWord 4 1 0 [1, 2, 3, 4] (frameBytePois contextFrame)

theorem contextWrite_held : guarding.holds ((guarding.resourceOf contextWord).getD 73) contextWrite = false := by decide +kernel

theorem contextWrite_clean : CleanAccess contextWrite guarding contextBlock contextCell := guarding_clean rfl rfl rfl contextWrite_held rfl

theorem contextTaken_sound (x : State × List Nat × List Bool × Word)
    (hx : (guarding.slicesFreed 0 { contextFrame with typ := 1 }).readBlock true false contextBlock = some x) : crc32c (wordsToBytes x.2.1) = x.2.2.2 := by
  have hmanifest : ((guarding.slicesFreed 0 { contextFrame with typ := 1 }).readBlock true false contextBlock).all
      (fun x => crc32c (wordsToBytes x.2.1) = x.2.2.2) = true := by decide +kernel
  rw [hx] at hmanifest
  simpa using hmanifest

theorem contextFrame_refused : ∃ u, exec (.wealeyWrite 0 contextFrame) guarding = .next u ∧ u.mem = guarding.mem := by
  have hserved := contextFrame_served
  have hnone : registerOff contextFrame.addr = none := by decide +kernel
  have hseg : segOk contextFrame = true := by decide +kernel
  have hwrite (s : State) : s.serveWriteFrame 0 contextFrame = s.ingressGo 0 contextFrame true := by
    unfold State.serveWriteFrame
    rw [if_neg (by decide), if_neg (by decide), hnone]
  have harrive := State.arrive_here hserved.1 hseg hserved.2.1 hserved.2.2.1 (fun s => s.serveWriteFrame 0 contextFrame)
  refine ⟨_, harrive, ?_⟩
  rw [hwrite]
  exact State.ingressGo_taken_guarded (s := guarding) contextWrite_held guarding_bundlesFree rfl rfl guarding_guards.1

/-- Refutes O36: a WRITE frame to the thread contexts of an engine that runs for a span is refused (R173), where the statement has it stored and answered
with STATUS 0: its hypotheses on the access do not leave the contexts out. -/
theorem not_framesAreServed : ¬ Obligations.FramesAreServed := by
  intro h
  obtain ⟨-, -, -, -, hmem⟩ := h.1 0 contextFrame guarding _ contextFrame_served rfl
  have hnone : registerOff contextFrame.addr = none := by decide +kernel
  obtain ⟨u, hexec, -, -, hdata, -⟩ := hmem contextWrite contextBlock contextCell rfl rfl hnone rfl rfl (State.memReq_slicesFreed _ _ _ _ _ _ _ _ _ _).symm
    (cleanAccess_slicesFreed contextWrite_clean contextTaken_sound)
  obtain ⟨v, hv, hkept⟩ := contextFrame_refused
  obtain rfl := Host.Outcome.next.inj (hexec.symm.trans hv)
  have hone := hdata 0 (by decide)
  rw [hkept] at hone
  exact absurd hone (by decide +kernel)

/-! ### The host -/

/-- A write to memory of this device is performed as a request, where it may be (R349). -/
theorem State.hostWriteMem_request {s : State} {fn a : Nat} {data : List Byte} {ep : Bool} (hdev : a / 2 ^ 48 = s.ownNumber)
    (hfill : s.fillEnded (a % 2 ^ 48) = true) (hmem : registerOff (a % 2 ^ 48) = none) (hawake : s.inStandby = false) :
    s.hostWriteMem fn a data ep = (s.asking (s.free + 1 + 1 + 1) s.grp).request
      (s.memReq (.host (Fin.ofNat 17 fn)) (a % 2 ^ 48) data.length (s.fnTicket fn) 0 data (List.replicate data.length ep)) true := by
  unfold State.hostWriteMem
  rw [if_pos hdev, hfill, if_neg (by decide), hmem, hawake]
  rfl

/-- What the bridge does with a write that falls into memory (R348, R349). -/
theorem exec_hostWrite_mem {s : State} {fn : Fin 17} {bar : Fin 6} {off a : Nat} {data : List Byte} (hup : s.hostUp = true)
    (hready : s.bget .HBR_STAT F.HBR_STAT_READY = true) (hd0 : (s.fns.at fn.val).d3 = false) (hdata : data ≠ [])
    (hbar : s.barTo fn.val bar.val off data.length = .mem a) : exec (.hostWrite fn bar off data false) s =
      .next (((s.tlpRx (ceilDiv data.length 512)).reply .none).hostWriteMem fn.val a data false) := by
  change execHostWrite fn bar off data false s = _
  unfold execHostWrite
  rw [if_neg (by simp [hup])]
  dsimp only
  rw [if_neg (by simp [hready, hd0, hdata]), hbar]
  rfl

/-- The state in which the bridge has taken the write in. -/
def hostTaken : State := (guarding.tlpRx 1).reply .none

/-- The request that the write makes. -/
def hostContext : MemReq := hostTaken.memReq (.host 0) contextWord 4 (guarding.fnTicket 0) 0 [1, 2, 3, 4] [false, false, false, false]

theorem hostContext_clean : CleanAccess hostContext guarding contextBlock contextCell := by
  have hheld : guarding.holds ((guarding.resourceOf contextWord).getD 73) hostContext = false := by decide +kernel
  exact guarding_clean rfl rfl rfl hheld rfl

theorem hostContext_refused : ∃ u, exec (.hostWrite 0 2 0x1FFFFFC [1, 2, 3, 4] false) guarding = .next u ∧ u.mem = guarding.mem := by
  have hup : guarding.hostUp = true ∧ guarding.bget .HBR_STAT F.HBR_STAT_READY = true ∧ (guarding.fns.at 0).d3 = false ∧
      guarding.barTo 0 2 0x1FFFFFC 4 = .mem contextWord := by decide +kernel
  obtain ⟨hhost, hready, hd0, hbar⟩ := hup
  have hhere : contextWord / 2 ^ 48 = hostTaken.ownNumber ∧ hostTaken.fillEnded (contextWord % 2 ^ 48) = true ∧
      registerOff (contextWord % 2 ^ 48) = none ∧ hostTaken.inStandby = false := by decide +kernel
  have hasked := State.hostWriteMem_request (fn := 0) (data := [1, 2, 3, 4]) (ep := false) hhere.1 hhere.2.1 hhere.2.2.1 hhere.2.2.2
  refine ⟨hostTaken.hostWriteMem 0 contextWord [1, 2, 3, 4] false, exec_hostWrite_mem hhost hready hd0 (List.cons_ne_nil _ _) hbar, ?_⟩
  rw [hasked]
  have hheld : hostTaken.holds ((hostTaken.resourceOf (contextWord % 2 ^ 48)).getD 73) (hostTaken.memReq (.host (Fin.ofNat 17 0)) (contextWord % 2 ^ 48)
      [1, 2, 3, 4].length (hostTaken.fnTicket 0) 0 [1, 2, 3, 4] (List.replicate [1, 2, 3, 4].length false)) = false := by decide +kernel
  have hguard : hostTaken.ctxGuard (.host (Fin.ofNat 17 0)) (contextWord % 2 ^ 48) [1, 2, 3, 4].length = true := by decide +kernel
  have hbundles : BundlesFree hostTaken := bundlesFree_of_fresh rfl (by decide +kernel)
  have hfree : hostTaken.edgeHeld (.host (Fin.ofNat 17 0)) = false ∧ hostTaken.grp.winHeld = [] := by decide +kernel
  have hmem (s : State) : ((s.tlpRx 1).reply .none).mem = s.mem := rfl
  exact (State.request_asking_guarded hheld hbundles hfree.1 hfree.2 hguard).trans (hmem guarding)

/-- Refutes O38: a write of the host, through the PF's window, to the thread contexts of an engine that runs for a span is refused (R173), where the
statement has its bytes stored: its hypotheses on the access do not leave the contexts out. -/
theorem not_hostWritesComplete : ¬ Obligations.HostWritesComplete := by
  intro h
  have hserves : HostServes 0 4 guarding := by
    unfold HostServes
    decide +kernel
  have hstage : 6 ≤ guarding.stageNow ∧ contextWord = guarding.fget .HBR_WIN F.HBR_WIN_BASE * 2 ^ 29 + 0x1FFFFFC ∧ contextWord / 2 ^ 48 = guarding.ownNumber ∧
      guarding.inStandby = false ∧ registerOff (contextWord % 2 ^ 48) = none := by decide +kernel
  obtain ⟨hstarted, hwindow, hown, hawake, hnone⟩ := hstage
  obtain ⟨-, -, -, hmem, -⟩ := ((h 0 2 0x1FFFFFC [1, 2, 3, 4] false guarding).2.2 hserves)
  obtain ⟨u, hexec, hdata, -⟩ := hmem contextWord hostContext contextBlock contextCell rfl rfl rfl (by decide) hwindow hown hstarted hawake hnone rfl
    hostContext_clean
  obtain ⟨v, hv, hkept⟩ := hostContext_refused
  obtain rfl := Host.Outcome.next.inj (hexec.symm.trans hv)
  have hone := hdata 0 (by decide)
  rw [hkept] at hone
  exact absurd hone (by decide +kernel)

end Sys2Proof.Machine

namespace Sys2Proof.Machine

/-! PROOFS. Reads of the host through the bars (O37; R216, R341 to R343, R346, R348). -/

/-! ### Errors that are logged -/

section
variable (s : State)

/-- The registers of an error, before source 342 is raised. -/
def State.errShown (s : State) (f : Fld) (addr fn : Nat) : State :=
  let s1 := (s.bset .HBR_ERR f true).cnt .HBR_ERR F.HBR_ERR_COUNT 1
  let s2 := if Config.freeBool s.free then s1.bset .HBR_ERR F.HBR_ERR_AER true else s1
  ((s2.fset .HBR_ERR_ADDR_LO F.HBR_ERR_ADDR_LO_ADDR addr).fset .HBR_ERR_ADDR_HI F.HBR_ERR_ADDR_HI_ADDR (addr / 2 ^ 32)).fset
    .HBR_ERR_ADDR_HI F.HBR_ERR_ADDR_HI_FUNC fn

theorem State.hbrErr_eq (f : Fld) (addr fn : Nat) : s.hbrErr f addr fn = (s.errShown f addr fn).tick.raise 342 := rfl

theorem State.errShown_regs (f : Fld) (addr fn : Nat) : OnlyRegs [.HBR_ERR, .HBR_ERR_ADDR_LO, .HBR_ERR_ADDR_HI] s (s.errShown f addr fn) := by
  have h1 : OnlyRegs [.HBR_ERR, .HBR_ERR_ADDR_LO, .HBR_ERR_ADDR_HI] s ((s.bset .HBR_ERR f true).cnt .HBR_ERR F.HBR_ERR_COUNT 1) :=
    (OnlyRegs.bset _ _ (by simp)).trans (OnlyRegs.cnt _ _ (by simp))
  have haddr (t : State) (a b c : Nat) : OnlyRegs [.HBR_ERR, .HBR_ERR_ADDR_LO, .HBR_ERR_ADDR_HI] t (((t.fset .HBR_ERR_ADDR_LO F.HBR_ERR_ADDR_LO_ADDR
      a).fset .HBR_ERR_ADDR_HI F.HBR_ERR_ADDR_HI_ADDR b).fset .HBR_ERR_ADDR_HI F.HBR_ERR_ADDR_HI_FUNC c) :=
    ((OnlyRegs.fset _ _ (by simp)).trans (OnlyRegs.fset _ _ (by simp))).trans (OnlyRegs.fset _ _ (by simp))
  unfold State.errShown
  dsimp only
  split
  · exact (h1.trans (OnlyRegs.bset _ _ (by simp))).trans (haddr _ _ _ _)
  · exact h1.trans (haddr _ _ _ _)

/-- The bits below AER and the count are the error's own. -/
theorem State.errShown_bits {g : Fld} (hg : g.lo + g.len ≤ 6) (f : Fld) (addr fn : Nat) :
    (s.errShown f addr fn).fget .HBR_ERR g = (s.bset .HBR_ERR f true).fget .HBR_ERR g := by
  have hcount : ((s.bset .HBR_ERR f true).cnt .HBR_ERR F.HBR_ERR_COUNT 1).fget .HBR_ERR g = (s.bset .HBR_ERR f true).fget .HBR_ERR g :=
    State.fget_fset_field _ _ _ _ _ (by decide) (.inl (hg.trans (by decide)))
  have haddr (t : State) (a b c : Nat) : (((t.fset .HBR_ERR_ADDR_LO F.HBR_ERR_ADDR_LO_ADDR a).fset .HBR_ERR_ADDR_HI F.HBR_ERR_ADDR_HI_ADDR b).fset
      .HBR_ERR_ADDR_HI F.HBR_ERR_ADDR_HI_FUNC c).fget .HBR_ERR g = t.fget .HBR_ERR g := by
    rw [State.fget_fset_other _ _ _ _ (by simp), State.fget_fset_other _ _ _ _ (by simp), State.fget_fset_other _ _ _ _ (by simp)]
  unfold State.errShown
  dsimp only
  split
  · exact (haddr _ _ _ _).trans ((State.fget_fset_field _ _ _ _ _ (by decide) (.inl (hg.trans (by decide)))).trans hcount)
  · exact (haddr _ _ _ _).trans hcount

theorem State.hbrErr_bits {g : Fld} (hg : g.lo + g.len ≤ 6) (f : Fld) (addr fn : Nat) :
    (s.hbrErr f addr fn).fget .HBR_ERR g = (s.bset .HBR_ERR f true).fget .HBR_ERR g :=
  ((MessageActs.raise _ 342).err g (.inl (hg.trans (by decide)))).trans (s.errShown_bits hg f addr fn)

variable {s}

/-- An error that is logged shows its bit and raises source 342 (R346, R350). -/
theorem State.hbrErr_logs {f : Fld} (hf : f.lo + f.len ≤ 6) (hlen : 1 ≤ f.len) (addr fn : Nat) : HostError f s (s.hbrErr f addr fn) ∧
    RegsKept hostErrorRegs s (s.hbrErr f addr fn) ∧ (s.hbrErr f addr fn).mem = s.mem ∧
    (s.hbrErr f addr fn).grp = { s.grp with entries := (s.hbrErr f addr fn).grp.entries } := by
  obtain ⟨hrest, hregs⟩ := s.errShown_regs f addr fn
  have hraised := (s.errShown f addr fn).tick.raise_raised 342
  have hsig := Signals.raise (s.errShown f addr fn).tick 342
  have hticked : (s.errShown f addr fn).tick = { s with regs := (s.errShown f addr fn).regs, free := s.free + 1 } := by
    rw [State.tick, hrest]
  refine ⟨⟨?_, ?_⟩, ?_, ?_, ?_⟩
  · rw [State.bget, State.hbrErr_bits s hf f addr fn]
    exact State.bget_bset_same s .HBR_ERR f true (by omega) hlen
  · rw [State.hbrErr_eq]
    unfold Raised at hraised ⊢
    rw [hticked] at hraised ⊢
    exact hraised
  · have hsub : ∀ r ∈ [Reg.HBR_ERR, .HBR_ERR_ADDR_LO, .HBR_ERR_ADDR_HI], r ∈ hostErrorRegs := by simp [hostErrorRegs, signalRegs]
    have htick : RegsKept hostErrorRegs (s.errShown f addr fn) (s.errShown f addr fn).tick := fun _ _ => rfl
    exact ((hregs.mono hsub).trans htick).trans (hsig.2.mono fun r hr => List.mem_append_right _ hr)
  · rw [State.hbrErr_eq, hsig.1, hticked]
  · rw [State.hbrErr_eq, hsig.1, hticked]

end

/-! ### Completions -/

section
variable {s : State}

/-- A read that completes with an error that is logged (R346). -/
theorem State.hostFailed_shows {f : Fld} (hf : f.lo + f.len ≤ 6) (hlen : 1 ≤ f.len) (addr fn tag : Nat) (p : Resp) :
    ((s.hbrErr f addr fn).hostComplete fn tag p).outbox.head? = some (.completion fn tag p) ∧
    HostError f s ((s.hbrErr f addr fn).hostComplete fn tag p) ∧ RegsKept hostErrorRegs s ((s.hbrErr f addr fn).hostComplete fn tag p) ∧
    ((s.hbrErr f addr fn).hostComplete fn tag p).mem = s.mem ∧ ((s.hbrErr f addr fn).hostComplete fn tag p).grp.frames = s.grp.frames ∧
    (∀ g : Fld, g.lo + g.len ≤ 6 → ((s.hbrErr f addr fn).hostComplete fn tag p).fget .HBR_ERR g = (s.bset .HBR_ERR f true).fget .HBR_ERR g) := by
  obtain ⟨⟨hbit, hraised⟩, hregs, hmem, hgrp⟩ := s.hbrErr_logs hf hlen addr fn
  have hcount : RegsKept [.HBR_TLP_TX] (s.hbrErr f addr fn) ((s.hbrErr f addr fn).hostComplete fn tag p) :=
    RegsKept.wrap (s := s.hbrErr f addr fn) (r := .HBR_TLP_TX) F.HBR_TLP_TX_COUNT 1 (by simp)
  have hkept : ((s.hbrErr f addr fn).hostComplete fn tag p).rget .HBR_ERR = (s.hbrErr f addr fn).rget .HBR_ERR := hcount _ (by simp)
  refine ⟨rfl, ⟨(State.bget_of_rget hkept _).trans hbit, hraised⟩, hregs.trans (hcount.mono (by simp [hostErrorRegs, signalRegs])), hmem, ?_, fun g hg => ?_⟩
  · change (s.hbrErr f addr fn).grp.frames = _
    rw [hgrp]
  · rw [State.fget_of_rget hkept, State.hbrErr_bits s hg]

/-- What the bridge's count of a TLP leaves. -/
theorem State.tlpRx_regs (s : State) (n : Nat) : OnlyRegs [.HBR_TLP_RX] s (s.tlpRx n) := OnlyRegs.fset _ _ (by simp)

/-- So does a read of the host, whose TLP has been counted. -/
theorem State.hostRead_fails {f : Fld} (hf : f.lo + f.len ≤ 6) (hlen : 1 ≤ f.len) (addr fn tag : Nat) (p : Resp) {u : State}
    (hu : u = ((s.tlpRx 1).hbrErr f addr fn).hostComplete fn tag p) : u.outbox.head? = some (.completion fn tag p) ∧
      HostError f s u ∧ RegsKept hostErrorRegs s u ∧ u.mem = s.mem ∧ u.grp.frames = s.grp.frames := by
  obtain ⟨hsent, herror, hregs, hmem, hframes, -⟩ := (s.tlpRx 1).hostFailed_shows hf hlen addr fn tag p
  have hcount : RegsKept hostErrorRegs s (s.tlpRx 1) := (s.tlpRx_regs 1).2.mono (by simp [hostErrorRegs])
  rw [← hu] at hsent herror hregs hmem hframes
  exact ⟨hsent, herror, hcount.trans hregs, hmem, hframes⟩

/-- A completion with data that are not poisoned. -/
theorem State.hostData_sends {fn tag addr : Nat} {data : List Byte} {pois : List Bool} (hpois : ∀ p ∈ pois, p = false) :
    (s.hostData fn tag addr data pois).outbox = .completion fn tag (.data data pois) :: s.outbox ∧
    (s.hostData fn tag addr data pois).resp = .data data pois ∧ RegsKept [.HBR_TLP_TX] s (s.hostData fn tag addr data pois) ∧
    s.hostData fn tag addr data pois = { s with
      regs := (s.hostData fn tag addr data pois).regs, resp := .data data pois, outbox := .completion fn tag (.data data pois) :: s.outbox } := by
  have hany : pois.any id = false := List.any_eq_false.mpr fun p hp => by simp [hpois p hp]
  have heq : s.hostData fn tag addr data pois = (s.tlpTx (ceilDiv data.length 512 - 1)).hostComplete fn tag (.data data pois) := by
    unfold State.hostData
    rw [hany]
    rfl
  rw [heq]
  exact ⟨rfl, rfl, (RegsKept.wrap (s := s) _ _ (by simp)).trans (RegsKept.wrap (s := s.tlpTx _) _ _ (by simp)), rfl⟩

end

/-! ### HOST_READ -/

section
variable {fn : Fin 17} {bar : Fin 6} {off len tag : Nat} {s : State}

theorem exec_hostRead_down (h : s.hostUp = false) : exec (.hostRead fn bar off len tag) s = .next s := by
  change execHostRead fn bar off len tag s = _
  unfold execHostRead
  exact if_pos (by simp [h])

theorem exec_hostRead_unserved (h : s.hostUp = true) (hun : s.bget .HBR_STAT F.HBR_STAT_READY = false ∨ (s.fns.at fn.val).d3 = true ∨ len = 0) :
    exec (.hostRead fn bar off len tag) s = .next ((s.tlpRx 1).hostUnsupported fn.val tag off) := by
  change execHostRead fn bar off len tag s = _
  unfold execHostRead
  rw [if_neg (by simp [h])]
  exact if_pos (by simpa using hun)

/-- What a read of the host that is served does, by where it goes (R342, R343). -/
def State.hostReadBar (s : State) (fn tag off len : Nat) : BarTo → State
  | .reg o =>
    if regForm o len then
      ((s.tlpRx 1).regReadAt o).1.hostData fn tag (s.regGroup o) (toBytes 4 ((s.tlpRx 1).regReadAt o).2.toNat) (List.replicate 4 false)
    else (s.tlpRx 1).hostAbort fn tag (s.regGroup o)
  | .mem a => (s.tlpRx 1).hostReadMem fn tag a len
  | .bell _ =>
    if s.stageNow < 4 then (s.tlpRx 1).hostUnsupported fn tag off
    else (s.tlpRx 1).hostData fn tag off (List.replicate len 0) (List.replicate len false)
  | .range a => ((s.tlpRx 1).bset .HBR_ERR F.HBR_ERR_VF_RANGE true).hostUnsupported fn tag a
  | .none => (s.tlpRx 1).hostUnsupported fn tag off

theorem exec_hostRead_served (h : HostServes fn.val len s) {x : BarTo} (hbar : s.barTo fn.val bar.val off len = x) :
    exec (.hostRead fn bar off len tag) s = .next (s.hostReadBar fn.val tag off len x) := by
  obtain ⟨hup, hready, hd0, hlen⟩ := h
  change execHostRead fn bar off len tag s = _
  unfold execHostRead
  refine (if_neg (by simp [hup])).trans ((if_neg (by simp [hready, hd0, hlen])).trans ?_)
  rw [hbar]
  cases x with
  | reg o => exact (apply_ite Host.Outcome.next _ _ _).symm
  | mem a => rfl
  | bell i => exact (apply_ite Host.Outcome.next _ _ _).symm
  | range a => rfl
  | none => rfl

/-! ### Reads of memory of this device -/

/-- What a request to memory needs of a state that is like another but for what no request depends on. -/
theorem State.Serves.of_kept {t : State} {q : MemReq} {b : Nat} {c : CellRef} (g : s.Serves q b c) (hcells : CellsKept s t) (haddr : AddressesKept s t)
    (himage : t.image = s.image) (hwin : t.grp.winHeld = []) (hnew : t.mem.newPatches = s.mem.newPatches) : t.Serves q b c := by
  have hil := haddr.ilMode_eq
  have hstack : t.stackOf q.addr = s.stackOf q.addr := by rw [State.stackOf, State.stackOf, hil]
  refine ⟨g.pos, g.block, g.within, fun n hn => ?_, (haddr.cellOf_eq _ b).trans g.cell,
    (hcells.promoted_eq hil (by rw [State.frameBase, State.frameBase, himage]) b).trans g.unpromoted, hcells.takesWrites g.writes,
    (hcells.matches_iff _).mpr g.agrees, hwin, hnew.trans g.newPatches⟩
  rw [State.stackFenced, State.fget_of_rget (haddr.stk _)]
  exact g.runs n (hstack ▸ hn)

theorem State.holds_of_kept {t : State} (q : MemReq) (hcells : CellsKept s t) (haddr : AddressesKept s t) (hpaths : PathsKept s t)
    (himage : t.image = s.image) (hheld : t.tkt.heldReqs = s.tkt.heldReqs) :
    t.holds ((t.resourceOf q.addr).getD 73) q = s.holds ((s.resourceOf q.addr).getD 73) q := by
  have hil := haddr.ilMode_eq
  have hres : t.resourceOf q.addr = s.resourceOf q.addr := by
    rw [State.resourceOf, State.resourceOf, hcells.promoted_eq hil (by rw [State.frameBase, State.frameBase, himage]), haddr.cellOf_eq]
  have hrests : t.stackRests q.addr = s.stackRests q.addr := by
    have hstack : t.stackOf q.addr = s.stackOf q.addr := by rw [State.stackOf, State.stackOf, hil]
    rw [State.stackRests, State.stackRests, hstack]
    split
    · rw [State.fget_of_rget (haddr.stk _)]
    · rfl
  rw [hres, State.holds, State.holds, hpaths.heldBit_eq, hheld, hrests]

/-- The state in which the bridge has taken a read of this device in: the read waits at it. -/
def State.hostReading (s : State) (q : MemReq) (fn tag : Nat) : State :=
  (s.tlpRx 1).asking (s.free + 1 + 1 + 1) { s.grp with hostHeld := s.grp.hostHeld ++ [(q, fn, tag)] }

theorem State.hostReadMem_request {a : Nat} (hdev : a / 2 ^ 48 = (s.tlpRx 1).ownNumber) (hfill : (s.tlpRx 1).fillEnded (a % 2 ^ 48) = true)
    (hmem : registerOff (a % 2 ^ 48) = none) (hawake : (s.tlpRx 1).inStandby = false) (n : Nat) : (s.tlpRx 1).hostReadMem n tag a len =
      (s.hostReading ((s.tlpRx 1).memReq (.host (Fin.ofNat 17 n)) (a % 2 ^ 48) len ((s.tlpRx 1).fnTicket n) 0 [] []) n tag).request
        ((s.tlpRx 1).memReq (.host (Fin.ofNat 17 n)) (a % 2 ^ 48) len ((s.tlpRx 1).fnTicket n) 0 [] []) false := by
  unfold State.hostReadMem
  refine (if_pos hdev).trans ((if_neg (by rw [hfill]; decide)).trans ?_)
  rw [hmem]
  exact (if_neg (by rw [hawake]; decide)).trans rfl

/-- The reads of the host that wait stay while a request is on its way. -/
theorem State.hostHeld_of_acts {t : State} (h : MemoryActs s t) : t.grp.hostHeld = s.grp.hostHeld := by rw [h.rest]

theorem State.crossAll_hostHeld {q : Requester} {rd : Bool} {a n : Nat} {u : State} (h : s.crossAll q rd a n = .ok u) :
    u.grp.hostHeld = s.grp.hostHeld :=
  State.hostHeld_of_acts (MemoryActs.eachUnit (fun _ _ _ _ e => MemoryActs.crossBy _ e) _ h)

theorem State.queueLevel_grp (s : State) (r reached : Nat) : (s.queueLevel r reached).grp = s.grp := by
  unfold State.queueLevel
  extract_lets k level b b' s1 q2 q3 s2
  have h2 : s2.grp = s.grp := by
    dsimp only [s2]
    split
    · rfl
    · split
      · rfl
      · rfl
  split
  · exact h2
  · exact h2

theorem State.atResource_hostHeld (s : State) (q : MemReq) (r : Nat) (write : Bool) (held : Nat) :
    (s.atResource q r write held).grp.hostHeld = s.grp.hostHeld := by
  unfold State.atResource
  extract_lets s1 s2
  have h1 : s1.grp = s.grp := s.queueLevel_grp _ _
  have h2 : s2.grp = s.grp := by
    dsimp only [s2]
    split
    · exact h1
    · exact h1
  split
  · rw [h2]
  · rw [State.hostHeld_of_acts (MemoryActs.countRead _ _ _ _ _), h2]

theorem State.serveRead_hostHeld (s : State) (q : MemReq) : (s.serveRead q).grp.hostHeld = s.grp.hostHeld := by
  have hwake : (s.wakeSite q.addr).grp = s.grp := by
    unfold State.wakeSite
    split
    · rfl
    · rfl
  have hread (hub : Bool) (p : Nat) : ((s.wakeSite q.addr).readAt hub p q.addr q.len).st.settle.grp.hostHeld = s.grp.hostHeld := by
    rw [State.hostHeld_of_acts ((MemoryActs.readAt _ _ _ _ _).trans (.settle _)), hwake]
  have hite (p : Prop) [Decidable p] (x y : State) (hx : x.grp.hostHeld = s.grp.hostHeld) (hy : y.grp.hostHeld = s.grp.hostHeld) :
      (if p then x else y).grp.hostHeld = s.grp.hostHeld := by
    split
    · exact hx
    · exact hy
  unfold State.serveRead
  extract_lets p r s1
  have h1 : s1.grp.hostHeld = s.grp.hostHeld := hread _ _
  refine hite _ _ _ rfl (hite _ _ _ h1 ?_)
  split
  · exact hite _ _ _ h1 h1
  · exact h1

/-- The answer to a read of the host that waits is completed to it (R346). -/
theorem State.answer_host {q : MemReq} {n : Fin 17} {fn tag : Nat} {bytes : List Byte} {pois : List Bool} (hrq : q.rq = .host n)
    (hheld : s.grp.hostHeld = [(q, fn, tag)]) (hresp : s.resp = .data bytes pois) (hpois : ∀ p ∈ pois, p = false) :
    .completion fn tag (.data bytes pois) ∈ (s.answer q false).outbox := by
  have hfound : s.grp.hostHeld.find? (fun x => x.1 = q) = some (q, fn, tag) := by
    rw [hheld, List.find?_cons_of_pos (by simp)]
  unfold State.answer
  simp only [hrq, hfound, hresp]
  rw [(State.hostData_sends hpois).1]
  exact List.mem_cons_self

/-- A read of the host that waits at a state that serves it, is performed and completed. -/
theorem State.request_hostRead {q : MemReq} {b : Nat} {c : CellRef} {n : Fin 17} {fn tag : Nat} (g : s.Serves q b c)
    (hholds : s.holds ((s.resourceOf q.addr).getD 73) q = false) (hbundles : BundlesFree s) (hedge : s.edgeHeld q.rq = false) (hrq : q.rq = .host n)
    (hheld : s.grp.hostHeld = [(q, fn, tag)]) :
    .completion fn tag (.data (s.mem.bytesAt (c.key + (q.addr - b)) q.len) (List.replicate q.len false)) ∈ (s.request q false).outbox ∧
      (s.request q false).mem.data = s.mem.data ∧ (s.request q false).fuses = s.fuses ∧ (s.request q false).log = s.log := by
  obtain ⟨u, hu, -⟩ := State.crossAll_ok hbundles hedge (!false) q.addr q.len
  obtain ⟨t, hbeside, ht, hperform⟩ : ∃ t, Beside s t ∧ t.grp.hostHeld = s.grp.hostHeld ∧
      s.perform q false (heldBrought q) = .ok ((t.serveRead q).answer q false) := by
    have hcross := Beside.crossAll u hu
    have hwaits := State.crossAll_hostHeld hu
    unfold State.perform
    rw [hu]
    cases hr : u.resourceOf q.addr with
    | none => exact ⟨u, hcross, hwaits, by simp only [Except.map, hr]; rfl⟩
    | some r =>
      exact ⟨_, hcross.trans (Beside.atResource u q r false (heldBrought q)), (u.atResource_hostHeld q r false (heldBrought q)).trans hwaits,
        by simp only [Except.map, hr]; rfl⟩
  obtain ⟨v, hserve, hcells, hkeeps, hwin⟩ := State.serveRead_data (hbeside.serves g)
  have hans := Beside.answer (s := t.serveRead q) q false (by rw [hserve]; exact hwin)
  rw [State.request_performed hholds hperform]
  refine ⟨State.answer_host hrq ((t.serveRead_hostHeld q).trans (ht.trans hheld)) ?_ (fun p hp => List.eq_of_mem_replicate hp), ?_, ?_, ?_⟩
  · rw [hserve, hbeside.mem_eq]
    rfl
  · rw [hans.mem_eq, hserve]
    exact hcells.data.trans (congrArg MemUnit.data hbeside.mem_eq)
  · rw [hans.fuses_eq, hserve]
    exact hkeeps.fuses.trans hbeside.fuses_eq
  · rw [hans.log_eq, hserve]
    exact hkeeps.log.trans hbeside.log_eq

/-- Taking a read in changes nothing that it needs to be performed. -/
theorem State.hostReading_kept (s : State) (q : MemReq) (fn tag : Nat) : CellsKept s (s.hostReading q fn tag) ∧
    AddressesKept s (s.hostReading q fn tag) ∧ PathsKept s (s.hostReading q fn tag) := by
  have hregs : RegsKept [.HBR_TLP_RX] s (s.hostReading q fn tag) := (s.tlpRx_regs 1).2
  refine ⟨.of_mem_eq rfl rfl (hregs _ (by simp)) (hregs.fget (by simp) _), ⟨fun n => hregs _ (by simp), fun d r => hregs _ (by simp), hregs _ (by simp),
    hregs.fget (by simp) _, rfl, rfl, fun _ => rfl, rfl⟩, .of_eq (fun b => hregs _ (by simp)) rfl rfl rfl⟩

theorem exec_hostRead_memory {a : Nat} {q : MemReq} {b : Nat} {c : CellRef} {tag : Nat} (h : HostServes 0 len s)
    (hbar : s.barTo 0 2 off len = .mem a) (hown : a / 2 ^ 48 = s.ownNumber) (hstage : 6 ≤ s.stageNow) (hawake : s.inStandby = false)
    (hmem : registerOff (a % 2 ^ 48) = none) (hnone : s.grp.hostHeld = [])
    (hq : q = (s.tlpRx 1).memReq (.host 0) (a % 2 ^ 48) len (s.fnTicket 0) 0 [] []) (hclean : CleanAccess q s b c) :
    ∃ u, exec (.hostRead 0 2 off len tag) s = .next u ∧
      .completion 0 tag (.data ((List.range len).map (fun j => Tab.at s.mem.data (c.key + (a % 2 ^ 48 - b) + j))) (List.replicate len false)) ∈ u.outbox ∧
      u.mem.data = s.mem.data ∧ u.fuses = s.fuses ∧ u.log = s.log := by
  have hregs := (s.tlpRx_regs 1).2
  have hown' : a / 2 ^ 48 = (s.tlpRx 1).ownNumber := hown.trans (hregs.fget (by simp) _).symm
  have hstage' : (s.tlpRx 1).stageNow = s.stageNow := hregs.fget (by simp) _
  have hfill : (s.tlpRx 1).fillEnded (a % 2 ^ 48) = true := by
    rw [State.fillEnded, hstage', decide_eq_true hstage, Bool.true_or]
  have hawake' : (s.tlpRx 1).inStandby = false := by
    rw [State.inStandby, hregs.fget (by simp)]
    exact hawake
  have hticket : (s.tlpRx 1).fnTicket 0 = s.fnTicket 0 := by
    rw [State.fnTicket, State.fnTicket, State.taskTicket, State.taskTicket, hregs.fget (by simp)]
  have hrequest := State.hostReadMem_request (s := s) (len := len) (tag := tag) hown' hfill hmem hawake' 0
  rw [hticket, show Fin.ofNat 17 0 = (0 : Fin 17) from rfl, ← hq] at hrequest
  obtain ⟨hcells, haddr, hpaths⟩ := s.hostReading_kept q 0 tag
  have hlen : q.len = len := by rw [hq]; rfl
  have haddress : q.addr = a % 2 ^ 48 := by rw [hq]; rfl
  have hwaits : (s.hostReading q 0 tag).grp.hostHeld = [(q, 0, tag)] := by
    change s.grp.hostHeld ++ [(q, 0, tag)] = _
    rw [hnone, List.nil_append]
  have g := State.Serves.of_clean hclean
  obtain ⟨-, -, -, hholds, hbundles, hedge, -⟩ := hclean
  obtain ⟨hsent, hdata, hfuses, hlog⟩ := State.request_hostRead (g.of_kept hcells haddr rfl g.winHeld rfl)
    ((State.holds_of_kept q hcells haddr hpaths rfl rfl).trans hholds) (hpaths.bundlesFree hbundles) ((hpaths.edgeHeld_eq _).trans hedge)
    (show q.rq = .host 0 by rw [hq]; rfl) hwaits
  rw [hlen, haddress] at hsent
  exact ⟨_, (exec_hostRead_served (fn := 0) (bar := 2) h hbar).trans (congrArg Host.Outcome.next hrequest), hsent, hdata, hfuses, hlog⟩

/-! ### Reads of memory of another device -/

theorem pieces_one {a n : Nat} (hpos : n ≠ 0) (hfits : a % 1024 + n ≤ 1024) : pieces 1024 (n / 1024 + 2) a n = [n] := by
  have hmin : min n (1024 - a % 1024) = n := by omega
  rw [pieces, if_neg hpos]
  dsimp only
  rw [hmin, Nat.sub_self, pieces, if_pos rfl]

/-- A read of another device leaves as one frame, which it waits for (R343, R346). -/
theorem State.hostReadMem_sends {fn tag a len : Nat} (hother : a / 2 ^ 48 ≠ s.ownNumber) (hdev : a / 2 ^ 48 < 64)
    (hthere : (s.devs.at (a / 2 ^ 48)).present = true) (hpos : len ≠ 0) (hfits : a % 1024 + len ≤ 1024) : ∃ g : Frame,
      s.hostReadMem fn tag a len = { s with grp := { s.grp with
        frames := s.grp.frames ++ [g], tag := s.grp.tag + 1, winReads := s.grp.winReads ++ [⟨fn, tag, a, [(s.grp.tag % 65536, len, [], [])]⟩] } } ∧
      g.typ = 2 ∧ g.dst.val = a / 2 ^ 48 ∧ g.addr = a % 2 ^ 48 ∧ g.len = len ∧ g.tag.val = s.grp.tag % 65536 := by
  have hlow : a % 2 ^ 48 % 1024 + len ≤ 1024 := by omega
  have hgo : ¬ (64 ≤ a / 2 ^ 48 ∨ (!(s.devs.at (a / 2 ^ 48)).present) = true) := by
    rw [hthere]
    simp only [Bool.not_true, Bool.false_eq_true, or_false, not_le]
    exact hdev
  refine ⟨{ s.newFrame 2 (a / 2 ^ 48) (a % 2 ^ 48) (s.fnTicket fn).val len [] [] with tag := Fin.ofNat 65536 s.grp.tag }, ?_, rfl, ?_, rfl, rfl, rfl⟩
  · unfold State.hostReadMem
    refine (if_neg hother).trans ((if_neg hgo).trans ?_)
    dsimp only
    rw [pieces_one hpos hlow]
    rfl
  · exact Nat.mod_eq_of_lt hdev

theorem State.hostReadMem_gone {fn tag a len : Nat} (hother : a / 2 ^ 48 ≠ s.ownNumber) (hgone : (s.devs.at (a / 2 ^ 48)).present = false) :
    s.hostReadMem fn tag a len = s.hostAbort fn tag a := by
  unfold State.hostReadMem
  exact (if_neg hother).trans (if_pos (.inr (by rw [hgone]; rfl)))

/-! ### Where an access goes -/

theorem State.barTo_registers (s : State) (off n : Nat) : s.barTo 0 0 off n = .reg off := rfl

theorem State.barTo_window {off n : Nat} (h : off + n ≤ 0x20000000) : s.barTo 0 2 off n = .mem (s.fget .HBR_WIN F.HBR_WIN_BASE * 2 ^ 29 + off) := by
  unfold State.barTo
  rw [if_pos rfl, if_neg (by decide), if_pos ⟨rfl, h⟩]

theorem State.barTo_doorbells {off n : Nat} (h : off + n ≤ 0x4000) : s.barTo 0 4 off n = .bell (off / 4) := by
  unfold State.barTo
  rw [if_pos rfl, if_neg (by decide), if_neg (by simp), if_pos ⟨rfl, h⟩]

theorem State.barTo_beyond {fn off n : Nat} (hfn : fn ≠ 0) (h : off + n ≤ 0x4000000)
    (hlen : s.fget (.HBR_VFW_LEN (Fin.ofNat 16 (fn - 1))) F.HBR_VFW_LEN_LEN * 65536 < off + n) : ∃ a, s.barTo fn 0 off n = .range a :=
  ⟨_, (if_neg hfn).trans ((if_pos ⟨rfl, h⟩).trans (if_pos hlen))⟩

/-- An access beyond a VF's window is unsupported, and its kind is shown (R342, R346). -/
theorem exec_hostRead_beyond {fn : Fin 17} {off len tag : Nat} (h : HostServes fn.val len s) (hfn : fn ≠ 0) (hbar : off + len ≤ 0x4000000)
    (hlen : s.fget (.HBR_VFW_LEN (Fin.ofNat 16 (fn.val - 1))) F.HBR_VFW_LEN_LEN * 65536 < off + len) : ∃ u,
      exec (.hostRead fn 0 off len tag) s = .next u ∧ u.outbox.head? = some (.completion fn.val tag .unsupported) ∧
        HostError F.HBR_ERR_UR s u ∧ u.bget .HBR_ERR F.HBR_ERR_VF_RANGE = true ∧ RegsKept hostErrorRegs s u := by
  obtain ⟨a, ha⟩ := State.barTo_beyond (fun he => hfn (Fin.ext he)) hbar hlen
  have hrange := State.bget_bset_same (s.tlpRx 1) .HBR_ERR F.HBR_ERR_VF_RANGE true (by decide) (by decide)
  obtain ⟨hsent, herror, hregs, -, -, hbits⟩ := ((s.tlpRx 1).bset .HBR_ERR F.HBR_ERR_VF_RANGE true).hostFailed_shows (f := F.HBR_ERR_UR)
    (by decide) (by decide) a fn.val tag .unsupported
  have hstart : RegsKept hostErrorRegs s ((s.tlpRx 1).bset .HBR_ERR F.HBR_ERR_VF_RANGE true) :=
    ((s.tlpRx_regs 1).2.mono (by simp [hostErrorRegs])).trans (RegsKept.bset _ _ (by simp [hostErrorRegs, signalRegs]))
  refine ⟨_, exec_hostRead_served (fn := fn) (bar := 0) h ha, hsent, herror, ?_, hstart.trans hregs⟩
  unfold State.bget
  refine (congrArg (fun x => decide (x = 1)) ((hbits F.HBR_ERR_VF_RANGE (by decide)).trans
    (State.fget_fset_field _ _ _ _ _ (by decide) (by decide)))).trans ?_
  exact hrange

end

/-- Settles O37, by where a read goes: registers, the doorbells, memory of this device or of another, or beyond a VF's window; and by what an error logs. -/
theorem hostReadsComplete : Obligations.HostReadsComplete := by
  refine fun fn bar off len tag s => ⟨exec_hostRead_down, fun hup hun => ⟨_, exec_hostRead_unserved hup hun,
    s.hostRead_fails (f := F.HBR_ERR_UR) (by decide) (by decide) off fn.val tag .unsupported rfl⟩,
    fun h => ⟨?regs, ?misformed, ?bells, ?memory, ?other, ?beyond⟩⟩
  case regs =>
    rintro rfl rfl hform
    obtain ⟨houtbox, hresp, hregs, hrest⟩ := State.hostData_sends (s := ((s.tlpRx 1).regReadAt off).1) (fn := 0) (tag := tag) (addr := s.regGroup off)
      (data := toBytes 4 ((s.tlpRx 1).regReadAt off).2.toNat) (pois := List.replicate 4 false) (fun p hp => List.eq_of_mem_replicate hp)
    refine ⟨_, _, (exec_hostRead_served (fn := 0) (bar := 0) h rfl).trans (congrArg Host.Outcome.next (if_pos hform)), rfl, houtbox, hresp, ?_, hregs⟩
    rw [← houtbox, ← hresp] at hrest
    exact hrest
  case misformed =>
    rintro rfl rfl hform
    have hfails := s.hostRead_fails (f := F.HBR_ERR_CA) (by decide) (by decide) (s.regGroup off) 0 tag .abort rfl
    exact ⟨_, (exec_hostRead_served (fn := 0) (bar := 0) h rfl).trans (congrArg Host.Outcome.next (if_neg (by rw [hform]; decide))), hfails.1, hfails.2.1,
      hfails.2.2.1⟩
  case bells =>
    rintro rfl rfl hoff hstage
    obtain ⟨houtbox, -, hregs, hrest⟩ := State.hostData_sends (s := s.tlpRx 1) (fn := 0) (tag := tag) (addr := off) (data := List.replicate len 0)
      (pois := List.replicate len false) (fun p hp => List.eq_of_mem_replicate hp)
    refine ⟨_, (exec_hostRead_served (fn := 0) (bar := 4) h (State.barTo_doorbells hoff)).trans (congrArg Host.Outcome.next (if_neg (by omega))), houtbox,
      ((s.tlpRx_regs 1).2.mono (by simp)).trans (hregs.mono (by simp)), ?_⟩
    have hmem := congrArg State.mem hrest
    exact hmem
  case memory =>
    rintro a q b c rfl rfl hoff ha hown hstage hawake hmem hnone hq hclean
    exact exec_hostRead_memory h (ha ▸ State.barTo_window hoff) hown hstage hawake hmem hnone hq hclean
  case other =>
    rintro a rfl rfl hoff ha hown hdev hfits
    have hexec := exec_hostRead_served (fn := 0) (bar := 2) (tag := tag) h (State.barTo_window hoff)
    rw [← ha] at hexec
    have hown' : a / 2 ^ 48 ≠ (s.tlpRx 1).ownNumber := by
      rw [State.ownNumber, (s.tlpRx_regs 1).2.fget (by simp)]
      exact hown
    refine ⟨fun hthere => ?_, fun hgone => ?_⟩
    · obtain ⟨g, hsent, htyp, hdst, haddr, hlen, htag⟩ := (s.tlpRx 1).hostReadMem_sends (fn := 0) (tag := tag) hown' hdev hthere h.2.2.2 hfits
      refine ⟨_, g, hexec.trans (congrArg Host.Outcome.next hsent), rfl, htyp, hdst, haddr, hlen, htag, rfl, (s.tlpRx_regs 1).2, rfl⟩
    · have hfails := s.hostRead_fails (f := F.HBR_ERR_CA) (by decide) (by decide) a 0 tag .abort rfl
      exact ⟨_, hexec.trans (congrArg Host.Outcome.next ((s.tlpRx 1).hostReadMem_gone hown' hgone)), hfails.1, hfails.2.1, hfails.2.2.1⟩
  case beyond =>
    rintro hfn rfl hbar hlen
    exact exec_hostRead_beyond h hfn hbar hlen

end Sys2Proof.Machine

namespace Sys2Proof.Machine

/-! PROOFS. A LOGITS_OUT step that faults a slot (O1; R96, R98): a slot whose entry names a grammar that no mask can be made for is faulted with 0x0C when
its logits are complete, and the step completes all the same, so that a fault record changes in a state that is ready. -/

/-- LOGITS_OUT of one row, that of slot 0 by SLOTMAP 2, as it stands in schedule memory: OPC, FLAGS and DIM_M. -/
def logitsStep : Step := stepOf (wordsToBytes [0x01000041, 0, 0, 1, 0, 0, 0, 0, 0, 0, 0, 0, 0, 0, 0, 0])

/-- The step in flight, and the task to which it belongs. -/
def logitsRun : StepRun := { (default : StepRun) with items := 1, bound := 1 }
@[inherit_doc logitsRun] def logitsTask : Task := default

/-- A device whose engine 0 has that step in flight; slot 0 is active and its entry names grammar 0, which no image defines. -/
def blockedSlot : State :=
  { (State.reset.bset (.GEN_SEQ 0) F.GEN_SEQ_ACT true) with
    mem := { State.reset.mem with data := [(scheduleKey 0, 0x41), (scheduleKey 0 + 3, 1), (scheduleKey 0 + 12, 1)] }
    engs := [(0, { (default : EngUnit) with nsteps := 1, task := some logitsTask, steps := [logitsRun] })]
    gen := { State.reset.gen with slots := [(0, { (default : SlotUnit) with gram := some 0 })] } }

theorem blockedSlot_inFlight : InFlight blockedSlot 0 0 0x41 logitsRun logitsTask (blockedSlot.fetchStep 0 0).1 logitsStep := by
  have hstep : (blockedSlot.fetchStep 0 0).2 = some logitsStep := by decide +kernel
  exact ⟨rfl, rfl, Prod.ext rfl hstep, by decide +kernel⟩

theorem blockedSlot_undisturbed : Undisturbed blockedSlot := by
  have hbundles : BundlesFree blockedSlot := bundlesFree_of_fresh rfl (by decide +kernel)
  have hheld (q : Requester) (r t : Nat) : blockedSlot.heldBit q r t = false := by
    have hnone : blockedSlot.sourceHold q r = 0 := rfl
    rw [State.heldBit, hnone]
    simp [bitAt]
  exact ⟨⟨hbundles, hheld⟩, fun k => rfl, fun i => rfl, by decide +kernel, rfl⟩

theorem blockedSlot_ready : StepReady blockedSlot 0 0 logitsRun logitsTask logitsStep := by
  have hsizes : stepFmts logitsStep = true ∧ (blockedSlot.engs.at 0).edgeWait = false ∧ logitsStep.opc = 0x41 ∧ logitsStep.out.mode = 0 ∧
      logitsStep.operandBytes 0 (blockedSlot.outAt 0 logitsStep.out) = (0, 0, 0, 0) := by decide +kernel
  obtain ⟨hfmts, hedge, hopc, hmode, hbytes⟩ := hsizes
  have hread (a : Nat) : Readable blockedSlot a 0 := fun b hb => absurd hb (by simp [blocksOf])
  have hbytes' : logitsStep.operandBytes logitsRun.iter (blockedSlot.outAt logitsRun.iter logitsStep.out) = (0, 0, 0, 0) := hbytes
  unfold StepReady
  dsimp only
  rw [hbytes', hopc, if_neg (by decide), hmode]
  exact ⟨hfmts, hedge, hread _, hread _, hread _, ⟨by decide, hread _, fun b hb => absurd hb (by simp [blocksOf])⟩, fun h => absurd h (by decide), fun h => absurd h (by decide), fun h => absurd h (by decide),
    fun h => absurd h (by decide)⟩

theorem blockedSlot_faults : ∃ u, exec (.logitsOut 0 0) blockedSlot = .next u ∧ u.rget (.ENG_FAULT 0 0) ≠ blockedSlot.rget (.ENG_FAULT 0 0) := by
  refine ⟨blockedSlot.runStep 0 0 0x41 (logitsBody 0 0), rfl, ?_⟩
  decide +kernel

/-- Refutes O1: LOGITS_OUT of a slot whose grammar is not defined faults the slot, and its fault record stands in ENG_FAULT (R96, R98), where the statement
has no fault record change. -/
theorem not_scheduleStepsComplete : ¬ Obligations.ScheduleStepsComplete := by
  intro h
  obtain ⟨u, -, -, hexec, -, -, -, -, -, hrecords⟩ := h.1 0 0 [] (.logitsOut 0 0, 0x41, logitsBody 0 0) (by simp [stepCommands]) blockedSlot _ logitsRun
    logitsTask logitsStep blockedSlot_inFlight blockedSlot_undisturbed blockedSlot_ready
  obtain ⟨v, hv, hfaults⟩ := blockedSlot_faults
  obtain rfl := Host.Outcome.next.inj (hexec.symm.trans hv)
  exact hfaults (hrecords 0 0)

end Sys2Proof.Machine

namespace Sys2Proof.Machine

/-! PROOFS. Steps that fault, wait, or end their task (O4): what a step in flight does by what its body answers; the fault record, which aborting the task
leaves; TOKEN_IN and END. -/

/-! ### What a step in flight does -/

section
variable {s s1 : State} {e i opc : Nat} {r : StepRun} {task : Task} {t : Step} {body : State → Step → StepRun → Task → Got Arith}

theorem State.runStep_poisoned (hrun : (s.engs.at e).steps.find? (fun r => r.ix = i && r.tags.isEmpty) = some r) (htask : (s.engs.at e).task = some task)
    (hfetch : s.fetchStep e i = (s1, none)) : s.runStep e i opc body = s1.stepFault e i 0x01 none 0 := by
  unfold State.runStep
  dsimp only
  rw [hrun, htask]
  dsimp only
  rw [hfetch]

theorem State.runStep_eq (h : InFlight s e i opc r task s1 t) : s.runStep e i opc body =
    match body s1 t r task with
    | .fault s2 code slot a => s2.stepFault e i code slot a
    | .ok s2 a => stepEnds s s2 e r t a
    | .wait w => s.waitFor (engineNo e) w := by
  obtain ⟨hrun, htask, hfetch, hopc⟩ := h
  unfold State.runStep
  dsimp only
  rw [hrun, htask]
  dsimp only
  rw [hfetch]
  exact if_neg (by simp [hopc])

theorem State.runStep_ok {s2 : State} {a : Arith} (h : InFlight s e i opc r task s1 t) (hbody : body s1 t r task = .ok s2 a) :
    s.runStep e i opc body = stepEnds s s2 e r t a := by rw [State.runStep_eq h, hbody]

theorem State.runStep_fault {s2 : State} {code a : Nat} {slot : Option Nat} (h : InFlight s e i opc r task s1 t)
    (hbody : body s1 t r task = .fault s2 code slot a) : s.runStep e i opc body = s2.stepFault e i code slot a := by rw [State.runStep_eq h, hbody]

theorem State.runStep_wait {w : Hold} (h : InFlight s e i opc r task s1 t) (hbody : body s1 t r task = .wait w) :
    s.runStep e i opc body = s.waitFor (engineNo e) w := by rw [State.runStep_eq h, hbody]

end

/-- Each of the commands that run a step runs the step by its opcode and its body (R78). -/
theorem exec_stepCommands (e : Eng) (i : SpanIx) (parity : Option Nat) (order : List Nat) :
    ∀ c ∈ stepCommands e i parity order, ∀ s : State, exec c.1 s = .next (s.runStep e.val i.val c.2.1 c.2.2) := by
  simp only [stepCommands, List.forall_mem_cons]
  exact ⟨fun _ => rfl, fun _ => rfl, fun _ => rfl, fun _ => rfl, fun _ => rfl, fun _ => rfl, fun _ => rfl, fun _ => rfl, fun _ => rfl, fun _ => rfl,
    fun _ => rfl, fun _ => rfl, fun _ => rfl, fun _ => rfl, fun _ => rfl, fun _ => rfl, fun _ => rfl, fun _ => rfl, fun _ h => absurd h List.not_mem_nil⟩

/-! ### The fault record -/

/-- The fault records of the engines' sites stand as they were. -/
def RecordsKept (s t : State) : Prop := ∀ (site : Site) (w : Fin 4), t.rget (.ENG_FAULT site w) = s.rget (.ENG_FAULT site w)

namespace RecordsKept
variable {s t u : State}

theorem refl (s : State) : RecordsKept s s := fun _ _ => rfl

theorem trans (h : RecordsKept s t) (g : RecordsKept t u) : RecordsKept s u := fun site w => (g site w).trans (h site w)

theorem ite {p : Prop} [Decidable p] {a b : State} (ha : RecordsKept s a) (hb : RecordsKept s b) : RecordsKept s (if p then a else b) := by
  split
  · exact ha
  · exact hb

theorem foldl {α : Type} {f : State → α → State} (l : List α) (s : State) (hf : ∀ t a, RecordsKept t (f t a)) : RecordsKept s (l.foldl f s) :=
  List.foldlRecOn (motive := RecordsKept s) l f (refl s) fun t ht a _ => ht.trans (hf t a)

/-- What leaves the registers. -/
theorem of_same (h : t.regs = s.regs) : RecordsKept s t := fun site w => by rw [State.rget, State.rget, h]

theorem of_regs {p : List Reg} (h : RegsKept p s t) (hp : ∀ site w, Reg.ENG_FAULT site w ∉ p) : RecordsKept s t := fun site w => h _ (hp site w)

theorem memory (h : MemoryActs s t) : RecordsKept s t := of_regs h.regs (by simp [memoryRegs, signalRegs, passRegs])

theorem signals (h : Signals s t) : RecordsKept s t := of_regs h.2 (by simp [signalRegs])

theorem slotEnd (s : State) (k c : Nat) : RecordsKept s (s.slotEnd k c) := by
  let r : Reg := .GEN_SEQ (Fin.ofNat 64 k)
  let ended := (s.bset r F.GEN_SEQ_ACT false).fset r F.GEN_SEQ_END c
  have hended : RecordsKept s ended := of_regs (p := [r]) ((RegsKept.bset _ _ (by simp)).trans (RegsKept.fset _ _ (by simp))) (by simp [r])
  exact ite (hended.trans ((of_same (by rfl)).trans (memory (State.kvReturn_acts ended k)))) (refl s)

theorem groupSend (s : State) (i cls : Nat) (l : List Nat) : RecordsKept s (s.groupSend i cls l) := ite (foldl _ s fun _ _ => of_same rfl) (refl s)

theorem syncAbort (s : State) (e : Nat) : RecordsKept s (s.syncAbort e) := foldl _ s fun t x =>
  ite (refl t) ((of_same (t := t.abortPoints x.1 _) rfl).trans (foldl _ _ fun v _ => groupSend v _ _ _))

theorem dbDrop (s : State) (n : Nat) : RecordsKept s (s.dbDrop n) := of_regs (p := [.CFG_SPAN_ERR]) (RegsKept.cnt _ _ (by simp)) (by simp)

theorem abortEngine (s : State) (e : Nat) : RecordsKept s (s.abortEngine e) := by
  unfold State.abortEngine
  extract_lets u slots s1 s2 s3
  have hs1 : RecordsKept s s1 := of_same rfl
  have hs3 : RecordsKept s s3 := (hs1.trans (foldl _ _ fun t k => slotEnd t k 3)).trans (dbDrop s2 _)
  exact ite (hs3.trans (syncAbort _ _)) hs3

theorem setLine (s : State) (k : Nat) (v : Bool) : RecordsKept s (s.setLine k v) := signals (Signals.setLine s k v)

theorem spanEvent (s : State) (i ev : Nat) : RecordsKept s (s.spanEvent i ev) := by
  unfold State.spanEvent State.ringWrite
  dsimp only
  split
  · refine trans ?_ (setLine _ _ _)
    exact of_same rfl
  · exact of_same rfl

theorem setSpans (s : State) (l : List Nat) (x : SpanSt) : RecordsKept s (s.setSpans l x) := of_same (by rw [State.setSpans_rest])

theorem abortLocal (s : State) (i rec : Nat) : RecordsKept s (s.abortLocal i rec) := by
  unfold State.abortLocal
  extract_lets hit engs s1 s2
  have hs1 : RecordsKept s s1 := foldl engs s abortEngine
  have hs2 : RecordsKept s s2 := hs1.trans (setSpans s1 hit .faulted)
  have hreported (f : SpanEnt → SpanEnt) : RecordsKept s2 ((s2.spanUpd i f).spanEvent i 2) := (of_same (t := s2.spanUpd i f) rfl).trans (spanEvent _ _ _)
  exact ite hs2 (hs2.trans (hreported _))

theorem abortTask (s : State) (i rec : Nat) : RecordsKept s (s.abortTask i rec) := (abortLocal s i rec).trans (foldl _ _ fun t _ => groupSend t _ _ _)

theorem ownFault (s : State) (e rec : Nat) : RecordsKept s (s.ownFault e rec) := by
  unfold State.ownFault
  split
  · exact of_same rfl
  · exact refl s

end RecordsKept

/-- The record of a fault stands in the four words of ENG_FAULT of the engine's site (R129). -/
theorem State.putFault_words (s : State) (e rec : Nat) (w : Fin 4) :
    (s.putFault e rec).rget (.ENG_FAULT (Fin.ofNat 128 (s.siteOf e)) w) = wordOf (rec / 2 ^ (32 * w.val)) := by
  unfold State.putFault
  have hword (m : Fin 4) (hm : m ≠ w) (v : State) (x : Word) :
      (v.rset (.ENG_FAULT (Fin.ofNat 128 (s.siteOf e)) m) x).rget (.ENG_FAULT (Fin.ofNat 128 (s.siteOf e)) w) =
        v.rget (.ENG_FAULT (Fin.ofNat 128 (s.siteOf e)) w) := State.rget_rset_other _ _ (by simpa using hm.symm)
  match w with
  | 0 => simpa using (hword 3 (by decide) _ _).trans ((hword 2 (by decide) _ _).trans ((hword 1 (by decide) _ _).trans (State.rget_rset_same _ _ _)))
  | 1 => exact (hword 3 (by decide) _ _).trans ((hword 2 (by decide) _ _).trans (State.rget_rset_same _ _ _))
  | 2 => exact (hword 3 (by decide) _ _).trans (State.rget_rset_same _ _ _)
  | 3 => exact State.rget_rset_same _ _ _

/-- A step that faults leaves its fault's record (R87). -/
theorem State.stepFault_words {s : State} {e : Nat} {task : Task} (step code addr : Nat) (slot : Option Nat) (h : (s.engs.at e).task = some task) (w : Fin 4) :
    (s.stepFault e step code slot addr).rget (.ENG_FAULT (Fin.ofNat 128 (s.siteOf e)) w) =
      wordOf (faultRecord code e step slot addr / 2 ^ (32 * w.val)) := by
  unfold State.stepFault
  rw [h]
  exact (((RecordsKept.abortTask _ _ _).trans (RecordsKept.ownFault _ _ _)).trans (RecordsKept.memory (MemoryActs.settle _)) _ _).trans
    (s.putFault_words e _ w)

theorem scheduleStepFaults : ScheduleStepFaults := by
  refine fun e i parity order c hc s s1 r task hrun htask => ⟨fun hfetch => ?_, fun s2 t code addr slot task2 hfetch hopc hbody htask2 => ?_⟩
  · rw [exec_stepCommands e i parity order c hc, State.runStep_poisoned hrun htask hfetch]
  · refine ⟨_, (exec_stepCommands e i parity order c hc s).trans (congrArg Host.Outcome.next (State.runStep_fault ⟨hrun, htask, hfetch, hopc⟩ hbody)), ?_⟩
    exact State.stepFault_words i.val code addr slot htask2

/-! ### Parity errors, and waiting -/

theorem parityErrorsFault : ParityErrorsFault := by
  refine fun e i p s s1 r task t => ⟨fun hflight htile => ?_, fun hflight htile => ?_⟩
  · have hbody : matmulBody e.val (some p) s1 t r task = .fault s1 0x03 none (tileAddr t r.iter p) := by
      unfold matmulBody
      rw [Option.filter_some_pos (by simpa using htile)]
    exact congrArg Host.Outcome.next (State.runStep_fault hflight hbody)
  · have hbody : moeGateBody e.val (some p) s1 t r task = .fault s1 0x03 none (tileAddr t r.iter p) := by
      unfold moeGateBody
      dsimp only
      rw [Option.filter_some_pos (by simpa using htile)]
    exact congrArg Host.Outcome.next (State.runStep_fault hflight hbody)

theorem stepsWaitWhole : StepsWaitWhole := by
  refine fun e i parity order c hc s s1 r task t hflight => ⟨fun p hbody => ?_, fun k q hbody => ?_⟩
  · exact (exec_stepCommands e i parity order c hc s).trans (congrArg Host.Outcome.next (State.runStep_wait hflight hbody))
  · refine ⟨_, (exec_stepCommands e i parity order c hc s).trans (congrArg Host.Outcome.next (State.runStep_wait hflight hbody)), ?_⟩
    unfold State.waitFor
    dsimp only
    split
    · exact ⟨rfl, rfl⟩
    · exact ⟨rfl, rfl⟩

/-! ### TOKEN_IN and END -/

theorem Arith.default_counts (s : State) (e : Nat) : s.arith e default = s := rfl

section
variable {s s1 : State} {e i : Nat} {r : StepRun} {task : Task} {t : Step}

/-- What the end of a lone step leaves: the engine has its task and no step, and the event rings are as they were. -/
theorem stepEnds_alone (hsteps : (s.engs.at e).steps = [r]) (hdoorbells : (s.engs.at e).dbq = []) (hflight : InFlight s e i 0x5F r task s1 t) :
    ((stepEnds s s1 e r t default).engs.at e).steps = [] ∧ ((stepEnds s s1 e r t default).engs.at e).task = some task ∧
      ((stepEnds s s1 e r t default).engs.at e).dbq = [] ∧ (stepEnds s s1 e r t default).rings = s.rings := by
  obtain ⟨-, htask, hfetch, -⟩ := hflight
  obtain ⟨m, hm⟩ := s.fetchStep_state e i
  obtain rfl : s1 = s.withMem m := (congrArg Prod.fst hfetch).symm.trans hm
  let free (u : EngUnit) : EngUnit := { u with gangs := u.gangs.filter (fun g => g.2.run ≠ r.num), steps := u.steps.filter (fun q => q.num ≠ r.num) }
  let v : State := (s.withMem m).engUpd e free
  have hv : v.engs.at e = free (s.engs.at e) := Tab.at_upd_same s.engs e free
  let signalled : State := if t.syncOut = 0 then v else match v.pointSpan e t.syncOut with
    | some j => v.syncSignal j t.syncOut (2 ^ e) 0
    | none => v
  have hsignalled : signalled.engs = v.engs ∧ signalled.rings = s.rings := by
    unfold signalled
    split
    · exact ⟨rfl, rfl⟩
    · split
      · rw [State.syncSignal_rest]
        exact ⟨rfl, rfl⟩
      · exact ⟨rfl, rfl⟩
  have hidle : (signalled.engs.at e).steps = [] := by
    rw [hsignalled.1, hv]
    simp [free, hsteps]
  have hends : stepEnds s (s.withMem m) e r t default = signalled.settle := by
    unfold stepEnds State.stepWritten
    refine (congrArg State.settle (if_pos rfl)).trans ?_
    exact congrArg State.settle (State.rebind_idle hidle)
  rw [hends, (MemoryActs.settle signalled).rest]
  refine ⟨hidle, ?_, ?_, hsignalled.2⟩
  · exact (congrArg (fun x : Tab EngUnit => (x.at e).task) hsignalled.1).trans ((congrArg EngUnit.task hv).trans htask)
  · exact (congrArg (fun x : Tab EngUnit => (x.at e).dbq) hsignalled.1).trans ((congrArg EngUnit.dbq hv).trans hdoorbells)

/-- The end of a task whose engine has no doorbells (R132, R133). -/
theorem State.taskEnd_reports {j : Nat} (hdoorbells : (s.engs.at e).dbq = []) (hsteps : (s.engs.at e).steps = []) (hown : s.ownEntry (.engine e) = some j)
    (hroom : (s.rings.at (s.spans.at j).owner).ents.length < 256) :
    ((s.taskEnd e).engs.at e).task = none ∧ ((s.taskEnd e).engs.at e).steps = [] ∧
      ((s.taskEnd e).rings.at (s.spans.at j).owner).ents = (s.rings.at (s.spans.at j).owner).ents ++
        [j + 4096 + (if (s.rings.at (s.spans.at j).owner).lost then 65536 else 0)] ∧
      ∀ o, o ≠ (s.spans.at j).owner → (s.taskEnd e).rings.at o = s.rings.at o := by
  let ended (u : EngUnit) : EngUnit := { u with task := none, iters := [] }
  let s1 : State := s.engUpd e ended
  have hs1 : s1.engs.at e = ended (s.engs.at e) := Tab.at_upd_same s.engs e ended
  let ring : EvRing := ⟨(s.rings.at (s.spans.at j).owner).ents ++ [j + 1 * 4096 + (if (s.rings.at (s.spans.at j).owner).lost then 65536 else 0)], false⟩
  let reported : State := (({ s1 with rings := s1.rings.put (s.spans.at j).owner ring } : State).setLine (32 + (s.spans.at j).owner) true).taskReported j
  have hevent : s1.spanEvent j 1 = ({ s1 with rings := s1.rings.put (s.spans.at j).owner ring } : State).setLine (32 + (s.spans.at j).owner) true := if_pos hroom
  have hown1 : s1.ownEntry (.engine e) = some j := hown
  have hframe : reported.engs = s1.engs ∧ reported.rings = s.rings.put (s.spans.at j).owner ring := by
    unfold reported State.taskReported
    rw [(Signals.setLine _ _ _).1]
    exact ⟨rfl, rfl⟩
  have hdone : s.taskEnd e = reported := by
    have hnone : (reported.engs.at e).dbq = [] := by
      rw [hframe.1, hs1]
      exact hdoorbells
    unfold State.taskEnd
    dsimp only
    rw [hown1]
    dsimp only
    rw [hevent]
    unfold State.nextDoorbell
    rw [hnone]
  rw [hdone, hframe.1, hframe.2, hs1]
  refine ⟨rfl, hsteps, ?_, fun o ho => Tab.at_put_other _ _ ho⟩
  rw [Tab.at_put_same]

end

theorem tokenInAndEndOfTask : TokenInAndEndOfTask := by
  refine ⟨fun e i s hnone => if_neg (by simp [hnone]), fun e i s s1 s2 r task t hthere hflight htokens => ?_,
    fun e i s s1 v r task t j hsteps hix hdoorbells hflight hv hown hroom => ?_⟩
  · have hbody : tokenInBody e.val s1 t r task = .ok s2 default := by
      unfold tokenInBody
      rw [htokens]
      rfl
    exact (if_pos hthere).trans (congrArg Host.Outcome.next (State.runStep_ok hflight hbody))
  · obtain ⟨hnone, htask, hidle, hrings⟩ := stepEnds_alone hsteps hdoorbells hflight
    rw [← hv] at hnone htask hidle hrings
    have hrun : s.runStep e.val i.val 0x5F nopBody = v := (State.runStep_ok hflight (s2 := s1) (a := default) rfl).trans hv.symm
    obtain ⟨hended, hno, hents, hothers⟩ := State.taskEnd_reports hidle hnone hown hroom
    refine ⟨v.taskEnd e.val, ?_, hended, hno, hents, fun o ho => (hothers o ho).trans (by rw [hrings])⟩
    change execEndTask e i s = _
    unfold execEndTask
    dsimp only
    rw [if_pos (by rw [hsteps]; simp [hix]), hrun]
    exact if_pos ⟨hnone, by rw [htask]; rfl⟩

/-- Settles O4, by what the body of a step in flight answers: a fault, whose record aborting the task leaves, a wait, or its end. -/
theorem stepsFaultWaitAndEnd : Obligations.StepsFaultWaitAndEnd := ⟨scheduleStepFaults, parityErrorsFault, stepsWaitWhole, tokenInAndEndOfTask⟩

end Sys2Proof.Machine

namespace Sys2Proof.Machine

/-! PROOFS. What requests leave of the bundles that they cross (O30; R300, R301): the receivers' places in the streams of flits, the work that waits on each
bundle, and what has been sent. -/

/-! ### What crosses, is served and is sent -/

/-- The receiver's place in the stream of flits of a direction stands, and the work that waits there. -/
structure SameWork (d e : DirUnit) : Prop where
  seq : e.seq = d.seq
  fails : e.fails = d.fails
  asked : e.asked = d.asked
  writes : e.writes = d.writes

theorem SameWork.refl (d : DirUnit) : SameWork d d := ⟨rfl, rfl, rfl, rfl⟩

theorem SameWork.trans {d e f : DirUnit} (h : SameWork d e) (g : SameWork e f) : SameWork d f :=
  ⟨g.seq.trans h.seq, g.fails.trans h.fails, g.asked.trans h.asked, g.writes.trans h.writes⟩

/-- `t` is reached from `s` by requests that cross, are served and are answered, but for the lists of what waits. -/
structure TransitActs (s t : State) : Prop where
  spans : t.spans = s.spans
  work : ∀ p k, SameWork (s.dirOf p k) (t.dirOf p k)
  sent : ∀ o ∈ s.outbox, o ∈ t.outbox

/-- What a part of a step answers is reached so. -/
def Got.Reaches {α : Type} (R : State → Prop) : Got α → Prop
  | .ok s _ => R s
  | .fault s _ _ _ => R s
  | .wait _ => True

/-- A change of one direction of a bundle leaves the others. -/
theorem State.dirOf_dirUpd_at (s : State) (p k q j : Nat) (f : DirUnit → DirUnit) :
    (s.dirUpd p k f).dirOf q j = if q = p ∧ j = k then f (s.dirOf p k) else s.dirOf q j := by
  by_cases hq : q = p
  · subst hq
    rw [State.dirOf_dirUpd]
    by_cases hj : j = k
    · rw [if_pos hj, if_pos ⟨rfl, hj⟩]
    · rw [if_neg hj, if_neg fun h => hj h.2]
  · rw [if_neg fun h => hq h.1, State.dirOf, State.dirUpd, State.bundleUpd]
    dsimp only
    rw [Tab.at_upd, if_neg hq, State.dirOf]

namespace TransitActs
variable {s t u : State}

theorem refl (s : State) : TransitActs s s := ⟨rfl, fun _ _ => .refl _, fun _ h => h⟩

theorem trans (h : TransitActs s t) (g : TransitActs t u) : TransitActs s u :=
  ⟨g.spans.trans h.spans, fun p k => (h.work p k).trans (g.work p k), fun o ho => g.sent o (h.sent o ho)⟩

theorem ite {p : Prop} [Decidable p] {a b : State} (ha : TransitActs s a) (hb : TransitActs s b) : TransitActs s (if p then a else b) := by
  split
  · exact ha
  · exact hb

theorem foldOver {α β : Type} (g : β → State) (f : β → α → β) (h : ∀ x a, TransitActs (g x) (g (f x a))) (l : List α) (x : β) :
    TransitActs (g x) (g (l.foldl f x)) :=
  List.foldlRecOn (motive := fun y => TransitActs (g x) (g y)) l f (refl _) fun _ hy a _ => hy.trans (h _ a)

theorem foldl {α : Type} {f : State → α → State} (l : List α) (s : State) (h : ∀ t a, TransitActs t (f t a)) : TransitActs s (l.foldl f s) :=
  foldOver id f h l s

/-- What leaves the spans, the bundles and what was sent. -/
theorem of_same (hspans : t.spans = s.spans) (hcwy : t.cwy = s.cwy) (hsent : t.outbox = s.outbox) : TransitActs s t :=
  ⟨hspans, fun p k => by rw [State.dirOf, State.dirOf, hcwy]; exact .refl _, fun o ho => by rw [hsent]; exact ho⟩

theorem emit (s : State) (o : Out) : TransitActs s (s.emit o) := ⟨rfl, fun _ _ => .refl _, fun _ h => List.mem_cons_of_mem _ h⟩

theorem fset (s : State) (r : Reg) (f : Fld) (v : Nat) : TransitActs s (s.fset r f v) := of_same rfl rfl rfl

theorem bset (s : State) (r : Reg) (f : Fld) (v : Bool) : TransitActs s (s.bset r f v) := of_same rfl rfl rfl

theorem cnt (s : State) (r : Reg) (f : Fld) (n : Nat) : TransitActs s (s.cnt r f n) := of_same rfl rfl rfl

theorem wrap (s : State) (r : Reg) (f : Fld) (n : Nat) : TransitActs s (s.wrap r f n) := of_same rfl rfl rfl

theorem raise (s : State) (k : Nat) : TransitActs s (s.raise k) := by
  have h := (Signals.raise s k).1
  refine ⟨by rw [h], fun p j => ?_, (MessageActs.raise s k).sent⟩
  rw [State.dirOf, State.dirOf, show (s.raise k).cwy = s.cwy by rw [h]]
  exact .refl _

/-- An access to memory. -/
theorem access (h : MemoryActs s t) (g : RoutesKept s t) : TransitActs s t :=
  ⟨by rw [h.rest], fun p k => by rw [State.dirOf, State.dirOf, g.cwy]; exact .refl _, fun _ ho => g.sent.subset ho⟩

theorem settle (s : State) : TransitActs s s.settle := access (.settle s) (WordsKept.settle s).routes

/-- A change of a direction that leaves its place and its work. -/
theorem dirUpd (s : State) (p k : Nat) {f : DirUnit → DirUnit} (h : ∀ d, SameWork d (f d)) : TransitActs s (s.dirUpd p k f) := by
  refine ⟨rfl, fun q j => ?_, fun _ h => h⟩
  rw [State.dirOf_dirUpd_at]
  split
  next hat =>
    obtain ⟨rfl, rfl⟩ := hat
    exact h _
  · exact .refl _

theorem flitsCross (s : State) (p up down : Nat) : TransitActs s (s.flitsCross p up down) :=
  have hregs : TransitActs s ((s.wrap (.CWY_RX (bundleNo p)) F.CWY_RX_FLITS up).wrap (.CWY_TX (bundleNo p)) F.CWY_TX_FLITS down) := of_same rfl rfl rfl
  (hregs.trans (dirUpd _ p 1 (f := fun d => { d with sent := d.sent + up, acc := d.acc + up }) fun _ => ⟨rfl, rfl, rfl, rfl⟩)).trans
    (dirUpd _ p 0 (f := fun d => { d with sent := d.sent + down, acc := d.acc + down }) fun _ => ⟨rfl, rfl, rfl, rfl⟩)

theorem flitsOut (s : State) (p k kind tag : Nat) (l : List (Nat × List Nat × Nat)) : TransitActs s (s.flitsOut p k kind tag l) :=
  (flitsCross s _ _ _).trans (foldl _ _ fun t _ => emit t _)

theorem cplFlit (s : State) (p k : Nat) (h : CmdHdr) (st : Nat) : TransitActs s (s.cplFlit p k h st) := flitsOut s _ _ _ _ _

theorem readFlits (s : State) (p k : Nat) (h : CmdHdr) (a : Nat) (bytes : List Byte) (pois : List Bool) :
    TransitActs s (s.readFlits p k h a bytes pois) := flitsOut s _ _ _ _ _

/-! Requests that cross -/

theorem bind {x : Except Hold State} {f : State → Except Hold State} (hx : ∀ t, x = .ok t → TransitActs s t)
    (hf : ∀ t u, f t = .ok u → TransitActs t u) : ∀ u, x.bind f = .ok u → TransitActs s u := by
  intro u h
  cases x with
  | error e => cases h
  | ok t => exact (hx t rfl).trans (hf t u h)

theorem eachUnit {a n : Nat} {f : State → Nat → Bool → Except Hold State} (hf : ∀ s b p u, f s b p = .ok u → TransitActs s u) :
    ∀ u, s.eachUnit a n f = .ok u → TransitActs s u := by
  unfold State.eachUnit
  refine List.foldlRecOn (motive := fun x : Except Hold State => ∀ u, x = .ok u → TransitActs s u) _ _ (fun u h => ?_) fun x hx b _ => ?_
  · cases h
    exact refl s
  · exact bind hx fun t u h => hf t b _ u h

theorem crossBy {q : Requester} {rd part : Bool} {near : Option Nat} {far : List Nat} :
    ∀ u, s.crossBy q rd part near far = .ok u → TransitActs s u := by
  intro u h
  unfold State.crossBy at h
  extract_lets ask back at h
  split at h
  · cases h
  · cases h
  · cases h
    refine trans ?_ (foldl _ _ fun s p => flitsCross s p _ _)
    cases near
    · exact refl s
    · exact flitsCross s _ _ _

theorem crossAll {q : Requester} {rd : Bool} {a n : Nat} : ∀ u, s.crossAll q rd a n = .ok u → TransitActs s u := eachUnit fun _ _ _ => crossBy

theorem routeCross {q : Requester} {leaves : Bool} {dests : List Nat} {off n : Nat} : ∀ u, s.routeCross q leaves dests off n = .ok u → TransitActs s u := by
  unfold State.routeCross
  dsimp only
  refine eachUnit fun t b p u h => ?_
  split at h
  · cases h
    exact refl t
  · exact crossBy u h

/-! Requests at their resources -/

theorem tktUpd (s : State) (r t : Nat) (f : TktRes → TktRes) : TransitActs s (s.tktUpd r t f) := of_same rfl rfl rfl

theorem histCount (s : State) (r t interval : Nat) : TransitActs s (s.histCount r t interval) := by
  unfold State.histCount
  exact ite (of_same rfl rfl rfl) (refl s)

theorem putCredits (s : State) (q : Requester) (r t n : Nat) : TransitActs s (s.putCredits q r t n) := of_same rfl rfl rfl

theorem waitOver (s : State) (q : Requester) (r t : Nat) : TransitActs s (s.waitOver q r t) := of_same rfl rfl rfl

theorem countRead (s : State) (r t held time : Nat) : TransitActs s (s.countRead r t held time) := by
  unfold State.countRead
  extract_lets interval hasTarget s1
  have h : TransitActs s s1 := (tktUpd s r t _).trans (histCount _ _ _ _)
  exact ite h (h.trans (of_same rfl rfl rfl))

theorem countAt (s : State) (rd : Bool) (r t held : Nat) : TransitActs s (s.countAt rd r t held) := by
  unfold State.countAt
  extract_lets x s1
  have h : TransitActs s s1 := ite (of_same rfl rfl rfl) (of_same rfl rfl rfl)
  exact ite (h.trans (countRead _ _ _ _ _)) h

theorem letPass {q : Requester} {k : Nat} {rd : Bool} {b : Nat} : ∀ u, s.letPass q k rd b = .ok u → TransitActs s u := by
  intro u h
  unfold State.letPass at h
  split at h
  · cases h
    exact refl s
  · split at h
    · split at h
      · cases h
      · cases h
        exact ((putCredits s _ _ _ _).trans (waitOver _ _ _ _)).trans (countAt _ _ _ _ _)
    · split at h
      · cases h
        exact (waitOver s _ _ _).trans (countAt _ _ _ _ _)
      · cases h
        exact countAt s _ _ _ _

theorem queueLevel (s : State) (r reached : Nat) : TransitActs s (s.queueLevel r reached) :=
  of_same (by rw [State.queueLevel_rest]) (by rw [State.queueLevel_rest]) (by rw [State.queueLevel_rest])

theorem atResource (s : State) (q : MemReq) (r : Nat) (write : Bool) (held : Nat) : TransitActs s (s.atResource q r write held) := by
  unfold State.atResource
  extract_lets s1 s2
  have h : TransitActs s s2 := (queueLevel s _ _).trans (ite (wrap _ _ _ _) (refl _))
  exact ite h (h.trans (countRead _ _ _ _ _))

theorem wakeSite (s : State) (a : Nat) : TransitActs s (s.wakeSite a) := by
  unfold State.wakeSite
  split
  · exact of_same rfl rfl rfl
  · exact refl s

theorem reply (s : State) (r : Resp) : TransitActs s (s.reply r) := of_same rfl rfl rfl

theorem dropped (s : State) (a : Nat) : TransitActs s (s.dropped a) := of_same rfl rfl rfl

theorem serveRead (s : State) (q : MemReq) : TransitActs s (s.serveRead q) := by
  unfold State.serveRead
  extract_lets p r s1
  have h : TransitActs s s1 := (wakeSite s _).trans ((access (.readAt _ _ _ _ _) (.readAt _ _ _ _ _)).trans (settle _))
  refine ite (reply s _) (ite (h.trans (reply _ _)) ?_)
  split
  · exact ite (h.trans (reply _ _)) (h.trans (reply _ _))
  · exact h.trans (reply _ _)

theorem serveWrite (s : State) (q : MemReq) : TransitActs s (s.serveWrite q) := by
  unfold State.serveWrite
  extract_lets w s1
  have h : TransitActs s s1 := (wakeSite s _).trans (access (.writeAt _ _ _ _ _ _) (.writeAt _ _ _ _ _ _))
  have hdrop (a : Nat) : TransitActs s (s1.dropped a).settle := (h.trans (dropped s1 a)).trans (settle _)
  refine ite (reply s _) ?_
  split
  · exact (h.trans (settle _)).trans (reply _ _)
  · split
    · exact (hdrop _).trans (reply _ _)
    · exact (hdrop _).trans (reply _ _)
    · exact (h.trans (settle _)).trans (reply _ _)
  · exact (h.trans (settle _)).trans (reply _ _)

/-! Writes through routes -/

theorem reaches_bind {α β : Type} {g : Got α} {f : State → α → Got β} (hg : g.Reaches (TransitActs s))
    (hf : ∀ t a, TransitActs s t → (f t a).Reaches (TransitActs s)) : (g.bind f).Reaches (TransitActs s) := by
  cases g with
  | ok t a => exact hf t a hg
  | fault t c k a => exact hg
  | wait w => trivial

theorem reaches_pass {α : Type} {x : Except Hold State} {f : State → Got α} (hx : ∀ t, x = .ok t → TransitActs s t)
    (hf : ∀ t, TransitActs s t → (f t).Reaches (TransitActs s)) : (Got.pass x f).Reaches (TransitActs s) := by
  cases x with
  | ok t => exact hf t (hx t rfl)
  | error w => trivial

theorem lay {s₀ : State} (h : TransitActs s₀ s) (q : Requester) (a : Nat) (data : List Byte) (pois : List Bool) :
    (s.lay q a data pois).Reaches (TransitActs s₀) := by
  have hwrite := h.trans (access (MemoryActs.writeAt s false a data pois []) (RoutesKept.writeAt s false a data pois []))
  unfold State.lay
  split
  · exact h
  · dsimp only
    split
    · exact hwrite
    · split
      · exact hwrite
      · exact hwrite

theorem mcastSkip (s : State) (d : Nat) : TransitActs s (s.mcastSkip d) := (cnt s _ _ _).trans (raise _ _)

theorem mcastPrune (s : State) (dests : List Nat) : TransitActs s (s.mcastPrune dests).1 :=
  foldl _ s fun t _ => ite (mcastSkip t _) (foldl _ t fun v _ => mcastSkip v _)

theorem requestOut (s : State) (f : Frame) : TransitActs s (s.requestOut f) := of_same rfl rfl rfl

theorem transferOut (s : State) (typ d mask a ticket : Nat) (host : Bool) (data : List Byte) (pois : List Bool) :
    TransitActs s (s.transferOut typ d mask a ticket host data pois) :=
  foldOver (g := Prod.fst) _ (fun _ _ => requestOut _ _) _ (s, a)

theorem storeRoute (s : State) (q : Requester) (tk n o : Nat) (data : List Byte) (pois : List Bool) :
    (s.storeRoute q tk n o data pois).Reaches (TransitActs s) := by
  unfold State.storeRoute State.storeRouteTo
  extract_lets r off len kind x p d
  split
  · exact refl s
  · split
    · split
      · exact reaches_pass routeCross fun t ht => lay ht _ _ _ _
      · exact refl s
    · split
      · refine reaches_pass (fun t ht => (mcastPrune s _).trans (routeCross t ht)) fun t ht => ?_
        exact List.foldlRecOn (motive := Got.Reaches (TransitActs s)) _ _ (show Got.Reaches (TransitActs s) (Got.ok t ()) from ht) fun g hg e _ =>
          reaches_bind hg fun v _ hv => lay hv _ _ _ _
      · split
        · split
          · exact reaches_pass (eachUnit fun _ _ _ => letPass) fun t ht => reaches_pass (fun v hv => ht.trans (routeCross v hv)) fun v hv => lay hv _ _ _ _
          · exact refl s
        · split
          · exact refl s
          · exact reaches_pass routeCross fun t ht => ht.trans (transferOut _ _ _ _ _ _ _ _ _)

theorem mwrite (s : State) (q : Requester) (d : Nat) (h : CmdHdr) (data : List Byte) (pois : List Bool) : TransitActs s (s.mwrite q d h data pois).1 := by
  unfold State.mwrite
  dsimp only
  have hpruned : TransitActs s (((s.mcastPrune (((List.range 12).filter (bitAt h.arg)).map (fun k => 12 * d + k))).1, 0) : State × Nat).1 := mcastPrune s _
  generalize ((s.mcastPrune _).1, 0) = r at hpruned ⊢
  generalize (s.mcastPrune _).2 = l
  induction l generalizing r with
  | nil => exact hpruned
  | cons e l ih =>
    rw [List.foldl_cons]
    refine ih _ (hpruned.trans ?_)
    have hlay := lay (refl r.1) q (storeAddr e (h.place.1 % 2 ^ 25)) data pois
    revert hlay
    generalize r.1.lay q (storeAddr e (h.place.1 % 2 ^ 25)) data pois = got
    intro hlay
    cases got with
    | ok t _ => exact TransitActs.trans hlay (settle t)
    | fault t _ _ _ => exact TransitActs.trans hlay (settle t)
    | wait _ => exact refl _

/-! What a flit counts -/

theorem edgeLevel (s : State) (p dir q : Nat) : TransitActs s (s.edgeLevel p dir q) := by
  unfold State.edgeLevel
  extract_lets die r lvl top was now thr s1
  have h : TransitActs s s1 := (fset s _ _ _).trans (fset _ _ _ _)
  exact ite (refl s) (ite (h.trans (raise _ _)) h)

theorem cwyEvt (s : State) (p : Nat) (f : Fld) (src : Nat) : TransitActs s (s.cwyEvt p f src) := by
  unfold State.cwyEvt
  exact ite (bset s _ _ _) ((bset s _ _ _).trans (raise _ _))

end TransitActs

end Sys2Proof.Machine

namespace Sys2Proof.Machine

/-! PROOFS. What requests, writes that wait and doorbells go on with (O33, O53): no tag is taken, no expiry counted, no command taken from the queue, the
edge routers' queues and the clock stand, and messages are added in front of those sent. -/

/-- The tags in use, the count of expired frames, the edge routers' registers and the queue of commands stand; no tick has passed, and what was sent stands
behind what has been sent since. -/
structure Onward (s t : State) : Prop extends SentOn s t where
  tags : t.grp.tags = s.grp.tags
  exp : t.rget .LNK_EXP = s.rget .LNK_EXP
  edge : ∀ d b, t.rget (.CDI_EDGE d b) = s.rget (.CDI_EDGE d b)
  pending : t.pending = s.pending

namespace Onward
variable {s t u : State}

theorem refl (s : State) : Onward s s := ⟨.refl s, rfl, rfl, fun _ _ => rfl, rfl⟩

theorem trans (h : Onward s t) (g : Onward t u) : Onward s u :=
  ⟨h.toSentOn.trans g.toSentOn, g.tags.trans h.tags, g.exp.trans h.exp, fun d b => (g.edge d b).trans (h.edge d b), g.pending.trans h.pending⟩

theorem ite {p : Prop} [Decidable p] {a b : State} (ha : Onward s a) (hb : Onward s b) : Onward s (if p then a else b) := by
  split
  · exact ha
  · exact hb

theorem foldOver {α β : Type} (g : β → State) {f : β → α → β} (h : ∀ x a, Onward (g x) (g (f x a))) (l : List α) (x : β) : Onward (g x) (g (l.foldl f x)) :=
  List.foldlRecOn (motive := fun y => Onward (g x) (g y)) l f (refl _) fun _ hy a _ => hy.trans (h _ a)

theorem foldl {α : Type} {f : State → α → State} (l : List α) (s : State) (hf : ∀ t a, Onward t (f t a)) : Onward s (l.foldl f s) := foldOver id hf l s

/-- What leaves all registers but some. -/
theorem of_regs {p : List Reg} (hregs : RegsKept p s t) (hsent : SentOn s t) (htags : t.grp.tags = s.grp.tags) (hpending : t.pending = s.pending)
    (hp : Reg.LNK_EXP ∉ p ∧ ∀ d b, Reg.CDI_EDGE d b ∉ p) : Onward s t := ⟨hsent, htags, hregs _ hp.1, fun d b => hregs _ (hp.2 d b), hpending⟩

/-- What leaves the registers, the messages, the clock, the tags and the queue. -/
theorem of_same (hregs : t.regs = s.regs) (hout : t.outbox = s.outbox) (htick : t.icu.tick = s.icu.tick) (htags : t.grp.tags = s.grp.tags)
    (hpending : t.pending = s.pending) : Onward s t :=
  of_regs (p := []) (fun r _ => by rw [State.rget, State.rget, hregs]) (.of_same hout htick) htags hpending (by simp)

/-! ### Registers, signals and memory -/

theorem rset (s : State) (r : Reg) (v : Word) (h : Reg.LNK_EXP ∉ [r] ∧ ∀ d b, Reg.CDI_EDGE d b ∉ [r] := by simp) : Onward s (s.rset r v) :=
  of_regs (RegsKept.rset v (List.mem_singleton_self r)) (.of_same rfl rfl) rfl rfl h

theorem fset (s : State) (r : Reg) (f : Fld) (v : Nat) (h : Reg.LNK_EXP ∉ [r] ∧ ∀ d b, Reg.CDI_EDGE d b ∉ [r] := by simp) : Onward s (s.fset r f v) :=
  rset s r _ h

theorem emit (s : State) (o : Out) : Onward s (s.emit o) := ⟨⟨List.suffix_cons _ _, rfl⟩, rfl, rfl, fun _ _ => rfl, rfl⟩

theorem ticked (s : State) : Onward s s.tick := of_same rfl rfl rfl rfl rfl

theorem reply (s : State) (p : Resp) : Onward s (s.reply p) := of_same rfl rfl rfl rfl rfl

theorem withTkt (s : State) (u : TktUnit) : Onward s { s with tkt := u } := of_same rfl rfl rfl rfl rfl

theorem withCwy (s : State) (u : Tab BundleUnit) : Onward s { s with cwy := u } := of_same rfl rfl rfl rfl rfl

theorem dirUpd (s : State) (p k : Nat) (f : DirUnit → DirUnit) : Onward s (s.dirUpd p k f) := withCwy s _

theorem signals (h : Signals s t) (hsent : SentOn s t) : Onward s t :=
  of_regs h.2 hsent (by rw [h.1]) (by rw [h.1]) (by simp [signalRegs])

theorem raise (s : State) (k : Nat) : Onward s (s.raise k) := signals (Signals.raise s k) (.raise s k)

theorem setLine (s : State) (k : Nat) (b : Bool) : Onward s (s.setLine k b) := signals (Signals.setLine s k b) (.setLine s k b)

/-- An access to memory. -/
theorem access (h : MemoryActs s t) (g : RoutesKept s t) : Onward s t :=
  of_regs h.regs ⟨g.sent, g.tick⟩ (by rw [h.rest]) (by rw [h.rest]) (by simp [memoryRegs, signalRegs, passRegs])

theorem settle (s : State) : Onward s s.settle := access (.settle s) (WordsKept.settle s).routes

theorem writeAt (s : State) (hub : Bool) (a : Nat) (data : List Byte) (pois : List Bool) (mans : List Word) :
    Onward s (s.writeAt hub a data pois mans).st := access (.writeAt _ _ _ _ _ _) (.writeAt _ _ _ _ _ _)

theorem dropped (s : State) (a : Nat) : Onward s (s.dropped a) := of_same rfl rfl rfl rfl rfl

/-! ### Requests that cross (R23, R226, R300) -/

theorem flitsCross (s : State) (p up down : Nat) : Onward s (s.flitsCross p up down) :=
  have hregs : Onward s ((s.wrap (.CWY_RX (bundleNo p)) F.CWY_RX_FLITS up).wrap (.CWY_TX (bundleNo p)) F.CWY_TX_FLITS down) :=
    (fset s _ _ _).trans (fset _ _ _ _)
  (hregs.trans (dirUpd _ p 1 _)).trans (dirUpd _ p 0 _)

theorem flitsOut (s : State) (p k kind tag : Nat) (l : List (Nat × List Nat × Nat)) : Onward s (s.flitsOut p k kind tag l) :=
  (flitsCross s _ _ _).trans (foldl _ _ fun t _ => emit t _)

theorem cplFlit (s : State) (p k : Nat) (h : CmdHdr) (st : Nat) : Onward s (s.cplFlit p k h st) := flitsOut s _ _ _ _ _

theorem readFlits (s : State) (p k : Nat) (h : CmdHdr) (a : Nat) (bytes : List Byte) (pois : List Bool) : Onward s (s.readFlits p k h a bytes pois) :=
  flitsOut s _ _ _ _ _

theorem bind {x : Except Hold State} {f : State → Except Hold State} (hx : ∀ t, x = .ok t → Onward s t)
    (hf : ∀ t u, f t = .ok u → Onward t u) : ∀ u, x.bind f = .ok u → Onward s u := by
  intro u h
  cases x with
  | error e => cases h
  | ok t => exact (hx t rfl).trans (hf t u h)

theorem eachUnit {a n : Nat} {f : State → Nat → Bool → Except Hold State} (hf : ∀ s b p u, f s b p = .ok u → Onward s u) :
    ∀ u, s.eachUnit a n f = .ok u → Onward s u := by
  unfold State.eachUnit
  refine List.foldlRecOn (motive := fun x : Except Hold State => ∀ u, x = .ok u → Onward s u) _ _ (fun u h => ?_) fun x hx b _ => ?_
  · cases h
    exact refl s
  · exact bind hx fun t u h => hf t b _ u h

theorem crossBy {q : Requester} {rd part : Bool} {near : Option Nat} {far : List Nat} : ∀ u, s.crossBy q rd part near far = .ok u → Onward s u := by
  intro u h
  unfold State.crossBy at h
  extract_lets ask back at h
  split at h
  · cases h
  · cases h
  · cases h
    refine trans ?_ (foldl _ _ fun s p => flitsCross s p _ _)
    cases near
    · exact refl s
    · exact flitsCross s _ _ _

theorem crossAll {q : Requester} {rd : Bool} {a n : Nat} : ∀ u, s.crossAll q rd a n = .ok u → Onward s u := eachUnit fun _ _ _ => crossBy

theorem routeCross {q : Requester} {leaves : Bool} {dests : List Nat} {off n : Nat} : ∀ u, s.routeCross q leaves dests off n = .ok u → Onward s u := by
  unfold State.routeCross
  dsimp only
  refine eachUnit fun t b p u h => ?_
  split at h
  · cases h
    exact refl t
  · exact crossBy u h

theorem countRead (s : State) (r t held time : Nat) : Onward s (s.countRead r t held time) := by
  unfold State.countRead
  extract_lets interval hasTarget s1
  have h : Onward s s1 := (withTkt s _).trans (ite (fset _ _ _ _) (refl _))
  exact ite h (h.trans (withTkt _ _))

theorem countAt (s : State) (rd : Bool) (r t held : Nat) : Onward s (s.countAt rd r t held) := by
  unfold State.countAt
  extract_lets x s1
  have h : Onward s s1 := ite ((ticked s).trans (fset _ _ _ _)) (ticked s)
  exact ite (h.trans (countRead _ _ _ _ _)) h

theorem letPass {q : Requester} {k : Nat} {rd : Bool} {b : Nat} : ∀ u, s.letPass q k rd b = .ok u → Onward s u := by
  intro u h
  unfold State.letPass at h
  split at h
  · cases h
    exact refl s
  · split at h
    · split at h
      · cases h
      · cases h
        exact ((withTkt s _).trans (withTkt _ _)).trans (countAt _ _ _ _ _)
    · split at h
      · cases h
        exact (withTkt s _).trans (countAt _ _ _ _ _)
      · cases h
        exact countAt s _ _ _ _

theorem pass {q : Requester} {k : Nat} {rd : Bool} {a n : Nat} : ∀ u, s.pass q k rd a n = .ok u → Onward s u :=
  eachUnit fun _ _ _ => bind letPass fun _ => crossBy

theorem hubWrite (s : State) (a : Nat) (data : List Byte) : Onward s (s.hubWrite a data) := by
  have hpass : Onward s (s.hubPass false a data.length) := by
    unfold State.hubPass
    split
    next t ht => exact pass t ht
    · exact refl s
  unfold State.hubWrite State.hubLay
  dsimp only
  refine hpass.trans (trans ?_ (settle _))
  split
  · exact (writeAt _ _ _ _ _ _).trans (dropped _ _)
  · exact writeAt _ _ _ _ _ _

theorem queueLevel (s : State) (r reached : Nat) : Onward s (s.queueLevel r reached) :=
  of_regs (Beside.queueLevel s r reached).regs (.of_same (by rw [State.queueLevel_rest]) (by rw [State.queueLevel_rest])) (by rw [State.queueLevel_rest])
    (by rw [State.queueLevel_rest]) (by simp [besideRegs, signalRegs, passRegs])

theorem atResource (s : State) (q : MemReq) (r : Nat) (write : Bool) (held : Nat) : Onward s (s.atResource q r write held) := by
  unfold State.atResource
  extract_lets s1 s2
  have h : Onward s s2 := (queueLevel s _ _).trans (ite (fset _ _ _ _) (refl _))
  exact ite h (h.trans (countRead _ _ _ _ _))

theorem wakeSite (s : State) (a : Nat) : Onward s (s.wakeSite a) := by
  unfold State.wakeSite
  split
  · exact of_same rfl rfl rfl rfl rfl
  · exact refl s

theorem serveRead (s : State) (q : MemReq) : Onward s (s.serveRead q) := by
  unfold State.serveRead
  extract_lets p r s1
  have h : Onward s s1 := (wakeSite s _).trans ((access (.readAt _ _ _ _ _) (.readAt _ _ _ _ _)).trans (settle _))
  refine ite (reply s _) (ite (h.trans (reply _ _)) ?_)
  split
  · exact ite (h.trans (reply _ _)) (h.trans (reply _ _))
  · exact h.trans (reply _ _)

theorem serveWrite (s : State) (q : MemReq) : Onward s (s.serveWrite q) := by
  unfold State.serveWrite
  extract_lets w s1
  have h : Onward s s1 := (wakeSite s _).trans (writeAt _ _ _ _ _ _)
  have hdrop (a : Nat) : Onward s (s1.dropped a).settle := (h.trans (dropped s1 a)).trans (settle _)
  refine ite (reply s _) ?_
  split
  · exact (h.trans (settle _)).trans (reply _ _)
  · split
    · exact (hdrop _).trans (reply _ _)
    · exact (hdrop _).trans (reply _ _)
    · exact (h.trans (settle _)).trans (reply _ _)
  · exact (h.trans (settle _)).trans (reply _ _)

/-! ### Completions and errors of the host (R346) -/

theorem tlpTx (s : State) (n : Nat) : Onward s (s.tlpTx n) := fset s _ _ _ (by simp)

theorem hbrErr (s : State) (f : Fld) (addr fn : Nat) : Onward s (s.hbrErr f addr fn) := by
  unfold State.hbrErr
  extract_lets s1 s2 s3
  have h1 : Onward s s1 := (fset s .HBR_ERR f 1).trans (fset _ .HBR_ERR _ _)
  have h2 : Onward s s2 := ite (h1.trans (fset s1 .HBR_ERR _ _)) h1
  have h3 : Onward s s3 := h2.trans ((fset s2 .HBR_ERR_ADDR_LO _ _).trans
    ((fset _ .HBR_ERR_ADDR_HI _ _).trans (fset _ .HBR_ERR_ADDR_HI _ _)))
  exact (h3.trans (ticked s3)).trans (raise _ _)

theorem hostComplete (s : State) (fn tag : Nat) (p : Resp) : Onward s (s.hostComplete fn tag p) := ((tlpTx s 1).trans (reply _ _)).trans (emit _ _)

theorem hostData (s : State) (fn tag addr : Nat) (data : List Byte) (pois : List Bool) : Onward s (s.hostData fn tag addr data pois) :=
  (tlpTx s _).trans (ite ((hbrErr _ _ _ _).trans (hostComplete _ _ _ _)) (hostComplete _ _ _ _))

theorem hostAbort (s : State) (fn tag addr : Nat) : Onward s (s.hostAbort fn tag addr) := (hbrErr s _ _ _).trans (hostComplete _ _ _ _)

theorem hostDrop (s : State) (fn addr : Nat) : Onward s (s.hostDrop fn addr) := (hbrErr s _ _ _).trans (of_same rfl rfl rfl rfl rfl)

/-! ### Steps that fault or end (R87, R175) -/

theorem groupSend (s : State) (i cls : Nat) (l : List Nat) : Onward s (s.groupSend i cls l) := ite (foldl _ s fun _ _ => of_same rfl rfl rfl rfl rfl) (refl s)

theorem dbDrop (s : State) (n : Nat) : Onward s (s.dbDrop n) := fset s _ _ _ (by simp)

theorem spanUpd (s : State) (i : Nat) (f : SpanEnt → SpanEnt) : Onward s (s.spanUpd i f) := of_same rfl rfl rfl rfl rfl

theorem abortPoints (s : State) (i : Nat) (l : List Nat) : Onward s (s.abortPoints i l) := spanUpd s _ _

theorem engUpd (s : State) (e : Nat) (f : EngUnit → EngUnit) : Onward s (s.engUpd e f) := of_same rfl rfl rfl rfl rfl

theorem kvReturn (s : State) (k : Nat) : Onward s (s.kvReturn k) :=
  trans (t := { s with gen := { s.gen with kv := s.gen.kv.filter (fun x => x.1 ≠ k) } }) (of_same rfl rfl rfl rfl rfl) (foldl _ _ fun t _ => hubWrite t _ _)

theorem slotEnd (s : State) (k c : Nat) : Onward s (s.slotEnd k c) := by
  let r : Reg := .GEN_SEQ (Fin.ofNat 64 k)
  let ended := (s.bset r F.GEN_SEQ_ACT false).fset r F.GEN_SEQ_END c
  have hended : Onward s ended := (fset s r _ _).trans (fset _ r _ _)
  exact ite (hended.trans (kvReturn ended k)) (refl s)

theorem syncAbort (s : State) (e : Nat) : Onward s (s.syncAbort e) := foldl _ s fun t x =>
  ite (refl t) ((abortPoints t x.1 _).trans (foldl _ _ fun v _ => groupSend v _ _ _))

theorem abortEngine (s : State) (e : Nat) : Onward s (s.abortEngine e) := by
  unfold State.abortEngine
  extract_lets u slots s1 s2 s3
  have hs1 : Onward s s1 := of_same rfl rfl rfl rfl rfl
  have hs3 : Onward s s3 := (hs1.trans (foldl _ _ fun t k => slotEnd t k 3)).trans (dbDrop s2 _)
  exact ite (hs3.trans (syncAbort _ _)) hs3

theorem spanEvent (s : State) (i ev : Nat) : Onward s (s.spanEvent i ev) := by
  unfold State.spanEvent State.ringWrite
  dsimp only
  split
  · refine trans ?_ (setLine _ _ _)
    exact of_same rfl rfl rfl rfl rfl
  · exact of_same rfl rfl rfl rfl rfl

theorem setSpans (s : State) (l : List Nat) (x : SpanSt) : Onward s (s.setSpans l x) :=
  of_same (t := s.setSpans l x) (by rw [State.setSpans_rest]) (by rw [State.setSpans_rest]) (by rw [State.setSpans_rest]) (by rw [State.setSpans_rest])
    (by rw [State.setSpans_rest])

theorem abortLocal (s : State) (i rec : Nat) : Onward s (s.abortLocal i rec) := by
  unfold State.abortLocal
  extract_lets hit engs s1 s2
  have hs2 : Onward s s2 := (foldl engs s abortEngine).trans (setSpans s1 hit .faulted)
  have hreported (f : SpanEnt → SpanEnt) : Onward s2 ((s2.spanUpd i f).spanEvent i 2) := (spanUpd s2 i f).trans (spanEvent _ _ _)
  exact ite hs2 (hs2.trans (hreported _))

theorem putFault (s : State) (e rec : Nat) : Onward s (s.putFault e rec) :=
  ((rset s _ _).trans (rset _ _ _)).trans ((rset _ _ _).trans (rset _ _ _))

theorem ownFault (s : State) (e rec : Nat) : Onward s (s.ownFault e rec) := by
  unfold State.ownFault
  split
  · exact of_same rfl rfl rfl rfl rfl
  · exact refl s

theorem stepFault (s : State) (e step code : Nat) (slot : Option Nat) (addr : Nat) : Onward s (s.stepFault e step code slot addr) := by
  unfold State.stepFault
  split
  · exact refl s
  · exact ((putFault s e _).trans ((abortLocal _ _ _).trans (foldl _ _ fun t _ => groupSend t _ _ _))).trans ((ownFault _ _ _).trans (settle _))

theorem putContext (s : State) (e o t g item slot : Nat) : Onward s (s.putContext e o t g item slot) := by
  have hfree : WordsKept s { s with free := s.free + 60 } := ⟨rfl, rfl, rfl, List.suffix_rfl, rfl⟩
  exact access (s.putContext_acts e o t g item slot) (hfree.trans (.writeBlock _ _ _ _ _ _ _ _)).routes

theorem bindContexts (s : State) (e g item : Nat) (t : Step) (task : Task) : Onward s (s.bindContexts e g item t task) :=
  foldl _ s fun v _ => putContext v _ _ _ _ _ _

theorem bindOne (s : State) (e k : Nat) : Onward s (s.bindOne e k) := by
  unfold State.bindOne
  extract_lets u
  split
  next r g task _ _ _ =>
    split
    next t _ =>
      have hctx := bindContexts s e g r.bound t task
      generalize s.bindContexts e g r.bound t task = v at hctx
      exact ite (hctx.trans (engUpd v _ _)) (refl s)
    · exact refl s
  · exact refl s

theorem bindGangs (n : Nat) : ∀ (s : State) (e k : Nat), Onward s (s.bindGangs n e k) := by
  induction n with
  | zero => exact fun s _ _ => refl s
  | succ n ih => exact fun s e k => (bindOne s e k).trans (ih _ e k)

theorem rebind (s : State) (e : Nat) : Onward s (s.rebind e) := foldl _ s fun t _ => bindGangs 128 t _ _

theorem syncSignal (s : State) (i p eng dev : Nat) : Onward s (s.syncSignal i p eng dev) :=
  of_same (by rw [State.syncSignal_rest]) (by rw [State.syncSignal_rest]) (by rw [State.syncSignal_rest]) (by rw [State.syncSignal_rest])
    (by rw [State.syncSignal_rest])

theorem stepDone (s : State) (e k p : Nat) : Onward s (s.stepDone e k p) := by
  unfold State.stepDone
  extract_lets s1 s2
  have h1 : Onward s s1 := of_same rfl rfl rfl rfl rfl
  have h2 : Onward s1 s2 := by
    refine ite (refl s1) ?_
    split
    · exact syncSignal _ _ _ _ _
    · exact refl s1
  exact h1.trans (h2.trans (rebind _ _))

theorem stepTag (s : State) (t status : Nat) : Onward s (s.stepTag t status) := by
  unfold State.stepTag
  split
  · exact refl s
  · next e r _ =>
    exact ite (stepFault _ _ _ _ _ _) (ite ((engUpd s e _).trans (stepDone _ _ _ _)) (engUpd s e _))

/-! ### Doorbells of the host (R347) -/

theorem ringEngine (s : State) (e i v ticket : Nat) : Onward s (s.ringEngine e i v ticket) := by
  unfold State.ringEngine
  extract_lets u entry s1
  have h1 : Onward s s1 := of_same rfl rfl rfl rfl rfl
  exact ite (dbDrop s 1) (ite (ite (of_same rfl rfl rfl rfl rfl) (dbDrop s 1)) (ite (h1.trans (stepFault _ _ _ _ _ _)) h1))

theorem rtvDoorbell (s : State) (p v : Nat) : Onward s (s.rtvDoorbell p v) :=
  ite (of_same rfl rfl rfl rfl rfl) (ite (rset s _ _) (fset s _ _ _))

theorem moverIndex (s : State) (m v : Nat) : Onward s (s.moverIndex m v) := ite (rset s _ _) (fset s _ _ _)

theorem deliverLeaf (s : State) (i v ticket : Nat) (l : Leaf) : Onward s (s.deliverLeaf i v ticket l) := by
  unfold State.deliverLeaf
  split
  · exact ringEngine s _ _ _ _
  · exact foldl _ s fun t _ => rtvDoorbell t _ _
  · exact moverIndex s _ _
  · exact refl s

theorem deliverEntry (s : State) (i v ticket j : Nat) : Onward s (s.deliverEntry i v ticket j) := by
  unfold State.deliverEntry
  split
  · exact foldl _ s fun t _ => deliverLeaf t _ _ _ _
  · exact of_same rfl rfl rfl rfl rfl
  · exact of_same rfl rfl rfl rfl rfl
  · exact refl s
  · exact dbDrop s 1

theorem ringSpan (s : State) (i v ticket : Nat) : Onward s (s.ringSpan i v ticket) := by
  unfold State.ringSpan
  split
  · exact foldl _ s fun t _ => deliverEntry t _ _ _ _
  · exact deliverEntry s _ _ _ _
  · exact deliverEntry s _ _ _ _
  · exact dbDrop s 1

theorem transferOut (s : State) (typ d mask a ticket : Nat) (host : Bool) (data : List Byte) (pois : List Bool) :
    Onward s (s.transferOut typ d mask a ticket host data pois) :=
  List.foldlRecOn (motive := fun x : State × Nat => Onward s x.1) _ _ (refl s) fun _ hx _ _ => hx.trans (of_same rfl rfl rfl rfl rfl)

theorem hostRing (s : State) (fn addr : Nat) (v : Word) : Onward s (s.hostRing fn addr v) := by
  unfold State.hostRing
  split
  · exact refl s
  · refine ite ((ringSpan s _ _ _).trans (foldl _ _ fun t _ => groupSend t _ _ _)) ?_
    exact (transferOut s _ _ _ _ _ _ _ _).trans (of_same rfl rfl rfl rfl rfl)

theorem ringNext (s : State) : Onward s s.ringNext := by
  have hheld (l) : ∀ t : State, Onward t (State.ringHeld l t) := by
    induction l with
    | nil => exact refl
    | cons x l ih =>
      intro t
      have hwaits (g : List (List Nat × List MemReq × Nat × Nat × Word)) : Onward t { t with grp := { t.grp with winHeld := g } } := of_same rfl rfl rfl rfl rfl
      exact ite (hwaits _) (((hwaits _).trans (hostRing _ _ _ _)).trans (ih _))
  exact hheld _ s

/-! ### Requests of this device that complete (R338, R346) -/

theorem winPart (s : State) (w : WinRead) (tag : Nat) (data : List Byte) (pois : List Bool) : Onward s (s.winPart w tag data pois) := by
  unfold State.winPart
  extract_lets parts rest
  let freed : State := { s with grp := { s.grp with winReads := rest } }
  have hfreed : Onward s freed := of_same rfl rfl rfl rfl rfl
  exact ite (hfreed.trans (hostData freed _ _ _ _ _)) (of_same rfl rfl rfl rfl rfl)

/-! ### Writes through routes -/

theorem reaches_bind {α β : Type} {g : Got α} {f : State → α → Got β} (hg : g.Reaches (Onward s))
    (hf : ∀ t a, Onward s t → (f t a).Reaches (Onward s)) : (g.bind f).Reaches (Onward s) := by
  cases g with
  | ok t a => exact hf t a hg
  | fault t c k a => exact hg
  | wait w => trivial

theorem reaches_pass {α : Type} {x : Except Hold State} {f : State → Got α} (hx : ∀ t, x = .ok t → Onward s t)
    (hf : ∀ t, Onward s t → (f t).Reaches (Onward s)) : (Got.pass x f).Reaches (Onward s) := by
  cases x with
  | ok t => exact hf t (hx t rfl)
  | error w => trivial

theorem lay {s₀ : State} (h : Onward s₀ s) (q : Requester) (a : Nat) (data : List Byte) (pois : List Bool) :
    (s.lay q a data pois).Reaches (Onward s₀) := by
  have hwrite := h.trans (writeAt s false a data pois [])
  unfold State.lay
  split
  · exact h
  · dsimp only
    split
    · exact hwrite
    · split
      · exact hwrite
      · exact hwrite

theorem mcastSkip (s : State) (d : Nat) : Onward s (s.mcastSkip d) := (fset s _ _ _).trans (raise _ _)

theorem mcastPrune (s : State) (dests : List Nat) : Onward s (s.mcastPrune dests).1 :=
  foldl _ s fun t _ => ite (mcastSkip t _) (foldl _ t fun v _ => mcastSkip v _)

theorem storeRoute (s : State) (q : Requester) (tk n o : Nat) (data : List Byte) (pois : List Bool) :
    (s.storeRoute q tk n o data pois).Reaches (Onward s) := by
  unfold State.storeRoute State.storeRouteTo
  extract_lets r off len kind x p d
  split
  · exact refl s
  · split
    · split
      · exact reaches_pass routeCross fun t ht => lay ht _ _ _ _
      · exact refl s
    · split
      · refine reaches_pass (fun t ht => (mcastPrune s _).trans (routeCross t ht)) fun t ht => ?_
        exact List.foldlRecOn (motive := Got.Reaches (Onward s)) _ _ (show Got.Reaches (Onward s) (Got.ok t ()) from ht) fun g hg e _ =>
          reaches_bind hg fun v _ hv => lay hv _ _ _ _
      · split
        · split
          · exact reaches_pass (eachUnit fun _ _ _ => letPass) fun t ht => reaches_pass (fun v hv => ht.trans (routeCross v hv)) fun v hv => lay hv _ _ _ _
          · exact refl s
        · split
          · exact refl s
          · exact reaches_pass routeCross fun t ht => ht.trans (transferOut _ _ _ _ _ _ _ _ _)

theorem mwrite (s : State) (q : Requester) (d : Nat) (h : CmdHdr) (data : List Byte) (pois : List Bool) : Onward s (s.mwrite q d h data pois).1 := by
  unfold State.mwrite
  dsimp only
  have hpruned : Onward s (((s.mcastPrune (((List.range 12).filter (bitAt h.arg)).map (fun k => 12 * d + k))).1, 0) : State × Nat).1 := mcastPrune s _
  generalize ((s.mcastPrune _).1, 0) = r at hpruned ⊢
  generalize (s.mcastPrune _).2 = l
  induction l generalizing r with
  | nil => exact hpruned
  | cons e l ih =>
    rw [List.foldl_cons]
    refine ih _ (hpruned.trans ?_)
    have hlay := lay (refl r.1) q (storeAddr e (h.place.1 % 2 ^ 25)) data pois
    revert hlay
    generalize r.1.lay q (storeAddr e (h.place.1 % 2 ^ 25)) data pois = got
    intro hlay
    cases got with
    | ok t _ => exact Onward.trans hlay (settle t)
    | fault t _ _ _ => exact Onward.trans hlay (settle t)
    | wait _ => exact refl _

/-! ### Answers, and requests and writes that go on (R223, R304) -/

theorem withGrp (s : State) (u : GroupUnit) (h : u.tags = s.grp.tags) : Onward s { s with grp := u } := of_same rfl rfl rfl h rfl

theorem respond (s : State) (f : Frame) (status : Nat) (data : List Byte) (pois : List Bool) : Onward s (s.respond f status data pois) :=
  of_same rfl rfl rfl rfl rfl

theorem answerDie (s : State) (p : Nat) (q : MemReq) (write : Bool) : Onward s (s.answerDie p q write) := by
  unfold State.answerDie
  split
  · exact refl s
  · extract_lets s1 o
    have h1 : Onward s s1 := dirUpd s _ _ _
    split
    · exact h1.trans (cplFlit _ _ _ _ _)
    · exact h1.trans (cplFlit _ _ _ _ _)
    · exact h1.trans (readFlits _ _ _ _ _ _ _)
    · exact h1.trans (cplFlit _ _ _ _ _)

theorem answer (s : State) (q : MemReq) (write : Bool) : Onward s (s.answer q write) := by
  unfold State.answer
  split
  · split
    · exact refl s
    · extract_lets _ s1
      have h1 : Onward s s1 := withGrp s _ rfl
      split
      · exact h1.trans (respond _ _ _ _ _)
      · exact h1.trans (respond _ _ _ _ _)
      · exact h1.trans (respond _ _ _ _ _)
      · exact h1.trans (respond _ _ _ _ _)
  · split
    · split
      · exact (hostDrop s _ _).trans (ringNext _)
      · exact ringNext s
    · split
      · exact refl s
      · extract_lets _ s1
        have h1 : Onward s s1 := withGrp s _ rfl
        split
        · exact h1.trans (hostData _ _ _ _ _ _)
        · exact h1.trans (hostAbort _ _ _ _)
  · exact answerDie s _ _ _
  · exact refl s

theorem perform {q : MemReq} {write : Bool} {held : Nat} (t : State) (h : s.perform q write held = .ok t) : Onward s t := by
  unfold State.perform at h
  cases hcross : s.crossAll q.rq (!write) q.addr q.len with
  | error e =>
    rw [hcross] at h
    cases h
  | ok v =>
    rw [hcross] at h
    cases h
    have hv := crossAll v hcross
    have harrived (r : Option Nat) : Onward v (match r with
      | some r => v.atResource q r write held
      | none => v) := by
      cases r with
      | none => exact refl v
      | some r => exact atResource v _ _ _ _
    exact (hv.trans (harrived _)).trans ((ite (serveWrite _ _) (serveRead _ _)).trans (answer _ _ _))

theorem holdReq (s : State) (r : Nat) (q : MemReq) (write : Bool) : Onward s (s.holdReq r q write) := of_same rfl rfl rfl rfl rfl

theorem request (s : State) (q : MemReq) (write : Bool) : Onward s (s.request q write) := by
  unfold State.request
  extract_lets r
  split
  · exact holdReq s _ _ _
  · split
    next t ht => exact perform t ht
    · exact holdReq s _ _ _

theorem pumpReqs (n : Nat) : ∀ s : State, Onward s (State.pumpReqs n s) := by
  induction n with
  | zero => exact refl
  | succ n ih =>
    intro s
    unfold State.pumpReqs
    split
    · exact refl s
    next x _ =>
      extract_lets q t _ s1 s2
      have h2 : Onward s s2 := (withTkt s _).trans (ite (withTkt s1 _) (refl s1))
      split
      next s3 h3 => exact ((h2.trans ((ticked s2).trans (withTkt _ _))).trans (perform s3 h3)).trans (ih s3)
      · exact refl s

theorem pump (s : State) : Onward s s.pump := pumpReqs _ s

theorem writeIn (s : State) (p k : Nat) (w : WriteIn) : Onward s (s.writeIn p k w) := by
  unfold State.writeIn
  extract_lets h q ws o data pois man gone done r
  have hdone (t : State) (st : Nat) : Onward t (done t st) := (dirUpd t p k _).trans (cplFlit _ _ _ _ _)
  refine ite (hdone s 1) ?_
  split
  · have hstored := storeRoute s q h.ticket h.route o.1 data pois
    revert hstored
    generalize s.storeRoute q h.ticket h.route o.1 data pois = got
    intro hstored
    cases got with
    | ok t _ => exact Onward.trans hstored ((settle t).trans (hdone _ _))
    | fault t _ _ _ => exact Onward.trans hstored ((settle t).trans (hdone _ _))
    | wait _ => exact refl s
  · refine ite (ite ((mwrite s q (p / 8) h data pois).trans (hdone _ _)) (hdone s 1)) ?_
    exact (((ticked s).trans (ticked _)).trans ((ticked _).trans (dirUpd _ p k _))).trans ((dirUpd _ p k _).trans (request _ _ _))

theorem writesIn (s : State) (p k : Nat) : Onward s (s.writesIn p k) := foldl _ s fun t w => writeIn t p k w

theorem writesRetry (s : State) : Onward s s.writesRetry := foldl _ s fun t p => (writesIn t p 0).trans (writesIn _ p 1)

/-- A coalescing window that ends (R402). -/
theorem windowEnd (s : State) (k : Nat) : Onward s (s.windowEnd k) :=
  signals ((Signals.srcUpd s k _).trans (.present _ _)) ((SentOn.srcUpd s k _).trans (.present _ _))

end Onward

end Sys2Proof.Machine

namespace Sys2Proof.Machine

/-! PROOFS. Flits and the requests that they bring (O30; R299 to R302): a flit that is accepted, is delivered, and the work that its headers or its data
begin leaves the receiver's place. -/

/-! ### Work on a bundle -/

/-- The receivers' places in the streams of flits stand, and the spans; what was sent remains sent. -/
structure PlacesKept (s t : State) : Prop where
  spans : t.spans = s.spans
  place : ∀ p k, (t.dirOf p k).seq = (s.dirOf p k).seq ∧ (t.dirOf p k).fails = (s.dirOf p k).fails
  sent : ∀ o ∈ s.outbox, o ∈ t.outbox

theorem TransitActs.places {s t : State} (h : TransitActs s t) : PlacesKept s t := ⟨h.spans, fun p k => ⟨(h.work p k).seq, (h.work p k).fails⟩, h.sent⟩

namespace PlacesKept
variable {s t u : State}

theorem refl (s : State) : PlacesKept s s := (TransitActs.refl s).places

theorem trans (h : PlacesKept s t) (g : PlacesKept t u) : PlacesKept s u :=
  ⟨g.spans.trans h.spans, fun p k => ⟨(g.place p k).1.trans (h.place p k).1, (g.place p k).2.trans (h.place p k).2⟩, fun o ho => g.sent o (h.sent o ho)⟩

theorem ite {p : Prop} [Decidable p] {a b : State} (ha : PlacesKept s a) (hb : PlacesKept s b) : PlacesKept s (if p then a else b) := by
  split
  · exact ha
  · exact hb

theorem foldl {α : Type} {f : State → α → State} (l : List α) (s : State) (hf : ∀ t a, PlacesKept t (f t a)) : PlacesKept s (l.foldl f s) :=
  List.foldlRecOn (motive := PlacesKept s) l f (refl s) fun t ht a _ => ht.trans (hf t a)

theorem dirUpd (s : State) (p k : Nat) {f : DirUnit → DirUnit} (h : ∀ d, (f d).seq = d.seq ∧ (f d).fails = d.fails) : PlacesKept s (s.dirUpd p k f) := by
  refine ⟨rfl, fun q j => ?_, fun _ h => h⟩
  rw [State.dirOf_dirUpd_at]
  split
  next hat =>
    obtain ⟨rfl, rfl⟩ := hat
    exact h _
  · exact ⟨rfl, rfl⟩

theorem setAsked (s : State) (p k : Nat) (g : List (MemReq × CmdHdr) → List (MemReq × CmdHdr)) :
    PlacesKept s (s.dirUpd p k (fun d => { d with asked := g d.asked })) := dirUpd s p k fun _ => ⟨rfl, rfl⟩

theorem setWrites (s : State) (p k : Nat) (g : List WriteIn → List WriteIn) : PlacesKept s (s.dirUpd p k (fun d => { d with writes := g d.writes })) :=
  dirUpd s p k fun _ => ⟨rfl, rfl⟩

theorem tick (s : State) : PlacesKept s s.tick := (TransitActs.of_same (s := s) (t := s.tick) rfl rfl rfl).places

theorem answerDie (s : State) (p : Nat) (q : MemReq) (write : Bool) : PlacesKept s (s.answerDie p q write) := by
  unfold State.answerDie
  split
  · exact refl s
  next k x _ =>
    extract_lets s1 o
    have h : PlacesKept s s1 := dirUpd s p k fun _ => ⟨rfl, rfl⟩
    split
    · exact h.trans (TransitActs.cplFlit _ _ _ _ _).places
    · exact h.trans (TransitActs.cplFlit _ _ _ _ _).places
    · exact h.trans (TransitActs.readFlits _ _ _ _ _ _ _).places
    · exact h.trans (TransitActs.cplFlit _ _ _ _ _).places

end PlacesKept

/-- What is done to serve a request of a bundle, before it is answered (R219, R300). -/
theorem State.perform_die {s u : State} {q : MemReq} {p : Bundle} {write : Bool} {held : Nat} (hq : q.rq = .die p) (h : s.perform q write held = .ok u) :
    ∃ v, TransitActs s v ∧ u = v.answerDie p.val q write := by
  unfold State.perform at h
  cases hcross : s.crossAll q.rq (!write) q.addr q.len with
  | error e => rw [hcross] at h; cases h
  | ok t =>
    rw [hcross] at h
    have ht := TransitActs.crossAll t hcross
    let s1 : State := match t.resourceOf q.addr with
      | some r => t.atResource q r write held
      | none => t
    have hs1 : TransitActs t s1 := by
      dsimp only [s1]
      split
      · exact TransitActs.atResource _ _ _ _ _
      · exact .refl t
    have hu : u = (if write then s1.serveWrite q else s1.serveRead q).answer q write := (Except.ok.inj h).symm
    refine ⟨if write then s1.serveWrite q else s1.serveRead q, (ht.trans hs1).trans (.ite (.serveWrite _ _) (.serveRead _ _)), ?_⟩
    rw [hu, State.answer, hq]

/-- A request of a bundle waits at its source, or is served and answered. -/
theorem State.request_die {s : State} {q : MemReq} {p : Bundle} (hq : q.rq = .die p) (write : Bool) :
    (∃ r, s.request q write = s.holdReq r q write) ∨ ∃ v, TransitActs s v ∧ s.request q write = v.answerDie p.val q write := by
  unfold State.request
  extract_lets r
  split
  · exact .inl ⟨r, rfl⟩
  · split
    next t hperform => exact .inr (State.perform_die hq hperform)
    · exact .inl ⟨r, rfl⟩

theorem TransitActs.holdReq (s : State) (r : Nat) (q : MemReq) (write : Bool) : TransitActs s (s.holdReq r q write) := of_same rfl rfl rfl

namespace PlacesKept

theorem request {s : State} {q : MemReq} {p : Bundle} (hq : q.rq = .die p) (write : Bool) : PlacesKept s (s.request q write) := by
  rcases State.request_die (s := s) hq write with ⟨r, hr⟩ | ⟨v, hv, hr⟩
  · rw [hr]
    exact (TransitActs.holdReq s r q write).places
  · rw [hr]
    exact hv.places.trans (answerDie v p.val q write)

theorem cplFlit (s : State) (p k : Nat) (h : CmdHdr) (st : Nat) : PlacesKept s (s.cplFlit p k h st) := (TransitActs.cplFlit s p k h st).places

theorem writeIn (s : State) (p k : Nat) (w : WriteIn) : PlacesKept s (s.writeIn p k w) := by
  unfold State.writeIn
  extract_lets h q ws o data pois man gone done r _ m
  have hgone (t : State) : PlacesKept t (gone t) := dirUpd t p k fun _ => ⟨rfl, rfl⟩
  have hdone (t : State) (st : Nat) : PlacesKept t (done t st) := (hgone t).trans (cplFlit _ _ _ _ _)
  refine ite (hdone s 1) (ite ?_ (ite (ite ?_ (hdone s 1)) ?_))
  · have hroute := TransitActs.storeRoute s q h.ticket h.route o.1 data pois
    split
    next heq =>
      rw [heq] at hroute
      exact (TransitActs.trans hroute (.settle _)).places.trans (hdone _ _)
    next heq =>
      rw [heq] at hroute
      exact (TransitActs.trans hroute (.settle _)).places.trans (hdone _ _)
    · exact refl s
  · exact (TransitActs.mwrite s q _ h data pois).places.trans (hdone _ _)
  · refine PlacesKept.trans ?_ (request (p := bundleNo p) rfl true)
    exact (((tick s).trans ((tick _).trans (tick _))).trans (hgone _)).trans (setAsked _ p k fun l => l ++ [(m, h)])

theorem writesIn (s : State) (p k : Nat) : PlacesKept s (s.writesIn p k) := foldl _ s fun t w => writeIn t p k w

theorem headerIn (s : State) (p k : Nat) (h : CmdHdr) : PlacesKept s (s.headerIn p k h) := by
  unfold State.headerIn
  extract_lets n q
  refine ite (ite (cplFlit s _ _ _ _) ?_) (ite (setWrites s p k fun l => l ++ [⟨h, []⟩]) (refl s))
  refine PlacesKept.trans ?_ (request (p := bundleNo p) rfl false)
  exact ((tick s).trans ((tick _).trans (tick _))).trans (setAsked _ p k fun l => l ++ [(q, h)])

theorem dataIn (s : State) (p k tag : Nat) (ws : List Nat) (man : Nat) : PlacesKept s (s.dataIn p k tag ws man) := by
  unfold State.dataIn
  split
  · exact refl s
  next w _ => exact (setWrites s p k fun l => l.map (fun x => if x = w then { w with flits := w.flits ++ [(ws, man)] } else x)).trans (writesIn _ p k)

end PlacesKept

/-! ### Reads that headers ask for -/

theorem State.flitsOut_sent (s : State) (p k kind tag : Nat) (x : Nat × List Nat × Nat) (l : List (Nat × List Nat × Nat)) :
    .flitSent p (decide (k = 1)) kind tag x.1 x.2.1 x.2.2 ∈ (s.flitsOut p k kind tag (x :: l)).outbox :=
  (TransitActs.foldl l _ fun t _ => TransitActs.emit t _).sent _ (List.mem_cons_self ..)

/-- A header is answered with flits of its TAG in direction `k`. -/
def Answered (k : Nat) (h : CmdHdr) (s : State) : Prop := ∃ o kind i ws m, .flitSent o (decide (k = 1)) kind h.tag i ws m ∈ s.outbox

theorem State.cplFlit_answers (s : State) (p k : Nat) (h : CmdHdr) (st : Nat) : Answered k h (s.cplFlit p k h st) :=
  ⟨_, _, _, _, _, s.flitsOut_sent p k 1 h.tag _ []⟩

theorem State.readFlits_answers (s : State) (p k : Nat) (h : CmdHdr) (a : Nat) (bytes : List Byte) (pois : List Bool) :
    Answered k h (s.readFlits p k h a bytes pois) := by
  unfold State.readFlits
  dsimp only
  split
  · exact ⟨_, _, _, _, _, s.flitsOut_sent p k 0 h.tag _ _⟩
  · exact ⟨_, _, _, _, _, s.flitsOut_sent p k 0 h.tag _ _⟩

/-- A read that waits on a bundle still waits once a request is answered there, or that was its answer. -/
theorem State.answerDie_asked {s : State} {p k : Nat} {q : MemReq} {h : CmdHdr} (hin : (q, h) ∈ (s.dirOf p k).asked) :
    (q, h) ∈ ((s.answerDie p q false).dirOf p k).asked ∨ Answered (1 - k) h (s.answerDie p q false) := by
  unfold State.answerDie
  split
  · exact .inl hin
  next j x _ =>
    extract_lets s1 o
    by_cases hx : j = k ∧ x = (q, h)
    · obtain ⟨rfl, rfl⟩ := hx
      right
      split
      · exact s1.cplFlit_answers _ _ _ _
      · exact s1.cplFlit_answers _ _ _ _
      · exact s1.readFlits_answers _ _ _ _ _ _
      · exact s1.cplFlit_answers _ _ _ _
    · left
      have hs1 : (q, h) ∈ (s1.dirOf p k).asked := by
        dsimp only [s1]
        rw [State.dirOf_dirUpd]
        split
        next hk =>
          subst hk
          exact (List.mem_erase_of_ne fun he => hx ⟨rfl, he.symm⟩).mpr hin
        · exact hin
      split
      · rw [((TransitActs.cplFlit s1 o (1 - j) x.2 0).work p k).asked]
        exact hs1
      · rw [((TransitActs.cplFlit s1 o (1 - j) x.2 2).work p k).asked]
        exact hs1
      next b z _ _ =>
        rw [((TransitActs.readFlits s1 o (1 - j) x.2 q.addr b z).work p k).asked]
        exact hs1
      · rw [((TransitActs.cplFlit s1 o (1 - j) x.2 1).work p k).asked]
        exact hs1

/-- A read that a header asks for is answered, or waits (R300). -/
theorem State.headerIn_read (s : State) (p : Bundle) (k : Nat) {h : CmdHdr} (hop : h.op = 1 ∨ h.op = 2) :
    (∃ x ∈ ((s.headerIn p.val k h).dirOf p.val k).asked, x.2 = h) ∨ Answered (1 - k) h (s.headerIn p.val k h) := by
  unfold State.headerIn
  extract_lets n q
  rw [if_pos hop]
  split
  · exact .inr (s.cplFlit_answers _ _ _ _)
  · let a : State := s.tick.tick.tick.dirUpd p.val k (fun d => { d with asked := d.asked ++ [(q, h)] })
    have hin : (q, h) ∈ (a.dirOf p.val k).asked := by
      dsimp only [a]
      rw [State.dirOf_dirUpd, if_pos rfl]
      exact List.mem_append_right _ (List.mem_singleton_self _)
    have hq : q.rq = .die p := congrArg Requester.die (bundleNo_val p)
    rcases State.request_die (s := a) hq false with ⟨r, hr⟩ | ⟨v, hv, hr⟩
    · refine .inl ⟨(q, h), ?_, rfl⟩
      rw [hr]
      exact hin
    · rw [hr]
      have hinv : (q, h) ∈ (v.dirOf p.val k).asked := (hv.work p.val k).asked ▸ hin
      exact (State.answerDie_asked hinv).imp (fun hmem => ⟨_, hmem, rfl⟩) id

/-- Headers with OP 0 ask for nothing. -/
theorem State.headersIn_nonzero (p k : Nat) (hs : List CmdHdr) (s : State) :
    hs.foldl (fun s h => s.headerIn p k h) s = (hs.filter (fun h => h.op ≠ 0)).foldl (fun s h => s.headerIn p k h) s := by
  induction hs generalizing s with
  | nil => rfl
  | cons h hs ih =>
    by_cases hop : h.op = 0
    · have hnone : s.headerIn p k h = s := by
        unfold State.headerIn
        dsimp only
        rw [if_neg (by omega), if_neg (by omega)]
      rw [List.foldl_cons, hnone, List.filter_cons_of_neg (by simp [hop])]
      exact ih s
    · rw [List.foldl_cons, List.filter_cons_of_pos (by simp [hop]), List.foldl_cons]
      exact ih _

/-- Headers that ask for no read leave what waits listed, and no more. -/
theorem State.headersIn_waiting (p k : Nat) (hs : List CmdHdr) (hall : ∀ h ∈ hs, h.op = 0 ∨ 3 ≤ h.op) (s : State) :
    hs.foldl (fun s h => s.headerIn p k h) s = { s with cwy := (hs.foldl (fun s h => s.headerIn p k h) s).cwy } ∧
    ((hs.foldl (fun s h => s.headerIn p k h) s).dirOf p k).acc = (s.dirOf p k).acc ∧
    ((hs.foldl (fun s h => s.headerIn p k h) s).dirOf p k).writes =
      (s.dirOf p k).writes ++ (hs.filter (fun h => decide (3 ≤ h.op ∧ h.op ≤ 6))).map (fun h => ⟨h, []⟩) := by
  induction hs generalizing s with
  | nil => exact ⟨rfl, rfl, (List.append_nil _).symm⟩
  | cons h hs ih =>
    obtain ⟨hop, hrest⟩ := List.forall_mem_cons.mp hall
    obtain ⟨hst, hacc, hwrites⟩ := ih hrest (s.headerIn p k h)
    rw [List.foldl_cons]
    by_cases hw : 3 ≤ h.op ∧ h.op ≤ 6
    · have hone : s.headerIn p k h = s.dirUpd p k (fun d => { d with writes := d.writes ++ [⟨h, []⟩] }) := by
        unfold State.headerIn
        dsimp only
        rw [if_neg (by omega), if_pos hw]
      rw [hone] at hst hacc hwrites ⊢
      rw [State.dirOf_dirUpd, if_pos rfl] at hacc hwrites
      refine ⟨hst, hacc, hwrites.trans ?_⟩
      rw [List.filter_cons_of_pos (by simpa using hw), List.map_cons, List.append_assoc]
      rfl
    · have hone : s.headerIn p k h = s := by
        unfold State.headerIn
        dsimp only
        rw [if_neg (by omega), if_neg hw]
      rw [hone] at hst hacc hwrites ⊢
      rw [List.filter_cons_of_neg (by simpa using hw)]
      exact ⟨hst, hacc, hwrites⟩

end Sys2Proof.Machine

namespace Sys2Proof.Machine

/-! PROOFS. Flits and chain frames at a receiver (O30; R122, R298 to R303): accepted, dropped, or asked for again. -/

/-! ### A flit that is accepted -/

/-- `t` is `s` after a flit has been counted or shown: the bundles and memory stand. -/
structure ShownActs (p : List Reg) (s t : State) : Prop where
  cwy : t.cwy = s.cwy
  mem : t.mem = s.mem
  regs : RegsKept (p ++ signalRegs) s t

theorem ShownActs.trans {p : List Reg} {s t u : State} (h : ShownActs p s t) (g : ShownActs p t u) : ShownActs p s u :=
  ⟨g.cwy.trans h.cwy, g.mem.trans h.mem, h.regs.trans g.regs⟩

theorem ShownActs.refl (p : List Reg) (s : State) : ShownActs p s s := ⟨rfl, rfl, .refl _ s⟩

theorem ShownActs.set {p : List Reg} {s : State} {r : Reg} (f : Fld) (v : Nat) (h : r ∈ p) : ShownActs p s (s.fset r f v) :=
  ⟨rfl, rfl, .fset _ _ (List.mem_append_left _ h)⟩

theorem ShownActs.raise (p : List Reg) (s : State) (k : Nat) : ShownActs p s (s.raise k) := by
  obtain ⟨hrest, hregs⟩ := Signals.raise s k
  exact ⟨by rw [hrest], by rw [hrest], hregs.mono fun r hr => List.mem_append_right p hr⟩

/-- The registers of an edge router's level and of a bundle's events. -/
def flitRegs (p : Nat) : List Reg := [.CWY_EVT (bundleNo p), .CDI_EDGE (Fin.ofNat 8 (p / 8)) (Fin.ofNat 8 p)]

theorem State.edgeLevel_shown (s : State) (p k q : Nat) : ShownActs (flitRegs p) s (s.edgeLevel p k q) := by
  unfold State.edgeLevel
  extract_lets die r lvl top was now thr s1
  have h : ShownActs (flitRegs p) s s1 := (ShownActs.set (r := r) _ _ (by simp [flitRegs, r, die])).trans (ShownActs.set (r := r) _ _ (by simp [flitRegs, r, die]))
  split
  · exact .refl _ s
  · split
    · exact h.trans (.raise _ s1 _)
    · exact h

theorem State.cwyEvt_shown (s : State) (p : Nat) (f : Fld) : ShownActs (flitRegs p) s (s.cwyEvt p f 0) :=
  ShownActs.set (r := .CWY_EVT (bundleNo p)) _ _ (by simp [flitRegs])

/-- The state in which an accepted flit is delivered, and the next number expected, before what it brings is looked at. -/
def State.flitTaken (s : State) (p k : Nat) (f : Flit) : State :=
  let ws := f.words.map flitWord
  let pois := (List.range 32).filter (fun i => match ws[i]? with
    | some w => w.2.1
    | none => false)
  let s1 := s.emit (.flit p (decide (k = 1)) (bits f.valid.val 1 1) (bits f.valid.val 7 9) (ws.map (·.1)) pois f.man.val)
  let s2 := s1.dirUpd p k (fun d => { d with seq := (d.seq + 1) % 32, fails := 0, acc := d.acc + 1 })
  if k = 1 then s2.wrap (.CWY_RX (bundleNo p)) F.CWY_RX_FLITS 1 else s2

/-- What an accepted flit brings: headers, or data for a write (R300). -/
def State.flitBrings (s : State) (p k : Nat) (f : Flit) : State :=
  if bitAt f.valid.val 1 then (headersOf ((f.words.map flitWord).map (·.1))).foldl (fun (s : State) h => s.headerIn p k h) s
  else s.dataIn p k (bits f.valid.val 7 9) ((f.words.map flitWord).map (·.1)) f.man.val

section
variable {s : State} {p k : Nat} {f : Flit}

theorem State.flitAccept_eq (hclean : ∀ w ∈ f.words, (flitWord w).2.2 = none) : s.flitAccept p k f = (s.flitTaken p k f).flitBrings p k f := by
  have hfixed : (List.range 32).filterMap (fun i => (((f.words.map flitWord)[i]?).bind (fun w => w.2.2)).map (fun b => 39 * i + b)) = [] := by
    refine List.filterMap_eq_nil_iff.mpr fun i _ => ?_
    rw [List.getElem?_map]
    cases hw : f.words[i]? with
    | none => rfl
    | some w =>
      have hnone := hclean w (List.mem_of_getElem? hw)
      simp [hnone]
  unfold State.flitAccept
  dsimp only
  rw [hfixed]
  rfl

theorem State.flitTaken_takes : ((s.flitTaken p k f).dirOf p k).seq = ((s.dirOf p k).seq + 1) % 32 ∧ ((s.flitTaken p k f).dirOf p k).fails = 0 ∧
    ((s.flitTaken p k f).dirOf p k).acc = (s.dirOf p k).acc + 1 ∧ ((s.flitTaken p k f).dirOf p k).writes = (s.dirOf p k).writes ∧
    (s.flitTaken p k f).spans = s.spans ∧ (s.flitTaken p k f).mem = s.mem ∧ RegsKept [.CWY_RX (bundleNo p)] s (s.flitTaken p k f) := by
  unfold State.flitTaken
  extract_lets ws pois s1 s2
  have hdir : s2.dirOf p k = { s.dirOf p k with seq := ((s.dirOf p k).seq + 1) % 32, fails := 0, acc := (s.dirOf p k).acc + 1 } := by
    dsimp only [s2]
    rw [State.dirOf_dirUpd, if_pos rfl]
    rfl
  have hs2 : (s2.dirOf p k).seq = ((s.dirOf p k).seq + 1) % 32 ∧ (s2.dirOf p k).fails = 0 ∧ (s2.dirOf p k).acc = (s.dirOf p k).acc + 1 ∧
      (s2.dirOf p k).writes = (s.dirOf p k).writes := by
    rw [hdir]
    exact ⟨rfl, rfl, rfl, rfl⟩
  obtain ⟨hseq, hfails, hacc, hwrites⟩ := hs2
  split
  · exact ⟨hseq, hfails, hacc, hwrites, rfl, rfl, RegsKept.wrap (s := s2) _ _ (by simp)⟩
  · exact ⟨hseq, hfails, hacc, hwrites, rfl, rfl, RegsKept.refl _ s⟩

theorem State.flitTaken_sent : .flit p (decide (k = 1)) (bits f.valid.val 1 1) (bits f.valid.val 7 9) (f.words.map (fun w => (flitWord w).1))
    ((List.range 32).filter (fun i => match (f.words.map flitWord)[i]? with
      | some w => w.2.1
      | none => false)) f.man.val ∈ (s.flitTaken p k f).outbox := by
  unfold State.flitTaken
  extract_lets ws pois s1 s2
  have hs1 : .flit p (decide (k = 1)) (bits f.valid.val 1 1) (bits f.valid.val 7 9) (f.words.map (fun w => (flitWord w).1)) pois f.man.val ∈ s1.outbox := by
    have hws : f.words.map (fun w => (flitWord w).1) = ws.map (·.1) := List.map_map.symm
    rw [hws]
    exact List.mem_cons_self ..
  split
  · exact hs1
  · exact hs1

theorem State.flitBrings_places : PlacesKept s (s.flitBrings p k f) :=
  .ite (.foldl _ s fun t h => .headerIn t p k h) (.dataIn s p k _ _ _)

/-- A data flit for no write, and headers that ask for no read, leave what waits listed, and memory as it is. -/
theorem State.flitBrings_quiet (h : (bitAt f.valid.val 1 = false ∧ ∀ w ∈ (s.dirOf p k).writes, w.hdr.tag ≠ bits f.valid.val 7 9) ∨
    (bitAt f.valid.val 1 = true ∧ ∀ x ∈ headersOf (f.words.map (fun w => (flitWord w).1)), x.op = 0 ∨ 3 ≤ x.op)) :
    s.flitBrings p k f = { s with cwy := (s.flitBrings p k f).cwy } ∧ ((s.flitBrings p k f).dirOf p k).acc = (s.dirOf p k).acc ∧
    ((s.flitBrings p k f).dirOf p k).writes = (s.dirOf p k).writes ++ (if bitAt f.valid.val 1 then
      ((headersOf (f.words.map (fun w => (flitWord w).1))).filter (fun x => decide (3 ≤ x.op ∧ x.op ≤ 6))).map (fun x => ⟨x, []⟩) else []) := by
  rcases h with ⟨hdata, htag⟩ | ⟨hcmd, hall⟩
  · have hnone : (s.dirOf p k).writes.find? (fun w => decide (w.hdr.tag = bits f.valid.val 7 9 ∧ w.flits.length < w.hdr.dataFlits)) = none :=
      List.find?_eq_none.mpr fun w hw => by simp [htag w hw]
    have hsame : s.flitBrings p k f = s := by
      unfold State.flitBrings State.dataIn
      rw [hnone, hdata]
      rfl
    rw [hsame, hdata]
    exact ⟨rfl, rfl, (List.append_nil _).symm⟩
  · have hmap : (f.words.map flitWord).map (·.1) = f.words.map (fun w => (flitWord w).1) := List.map_map
    have hbrings : s.flitBrings p k f = (headersOf (f.words.map (fun w => (flitWord w).1))).foldl (fun s h => s.headerIn p k h) s := by
      rw [← hmap]
      exact if_pos hcmd
    rw [hbrings, if_pos hcmd]
    exact State.headersIn_waiting p k _ hall s

end

/-- Headers of which one alone asks for something, a read: it is answered, or waits. -/
theorem State.flitBrings_read {s : State} {p : Bundle} {k : Nat} {f : Flit} {h : CmdHdr} (hcmd : bitAt f.valid.val 1 = true)
    (hone : (headersOf (f.words.map (fun w => (flitWord w).1))).filter (fun h => h.op ≠ 0) = [h]) (hop : h.op = 1 ∨ h.op = 2) :
    (∃ x ∈ ((s.flitBrings p.val k f).dirOf p.val k).asked, x.2 = h) ∨ Answered (1 - k) h (s.flitBrings p.val k f) := by
  have hmap : (f.words.map flitWord).map (·.1) = f.words.map (fun w => (flitWord w).1) := List.map_map
  have hbrings : s.flitBrings p.val k f = s.headerIn p.val k h := by
    unfold State.flitBrings
    rw [if_pos hcmd, hmap, State.headersIn_nonzero, hone]
    rfl
  rw [hbrings]
  exact s.headerIn_read p k hop

/-! ### A flit at a receiver -/

theorem dirNo_one (dir : Bool) : decide (dirNo dir = 1) = dir := by cases dir <;> rfl

theorem dirNo_other (dir : Bool) : decide (1 - dirNo dir = 1) = !dir := by cases dir <;> rfl

theorem State.flitSeen_seen (s : State) (p k : Nat) (fresh : Bool) : TransitActs s (s.flitSeen p k fresh) ∧ (s.flitSeen p k fresh).outbox = s.outbox ∧
    ((s.flitSeen p k fresh).dirOf p k).acc = (s.dirOf p k).acc ∧ RegsKept [.CWY_TX (bundleNo p)] s (s.flitSeen p k fresh) ∧
    s.flitSeen p k fresh = { s with regs := (s.flitSeen p k fresh).regs, cwy := (s.flitSeen p k fresh).cwy } := by
  let g (d : DirUnit) : DirUnit := if d.flits + 1 = 1048576 then { d with flits := 0, win := [] } else { d with flits := d.flits + 1 }
  have hg (d : DirUnit) : SameWork d (g d) ∧ (g d).acc = d.acc := by
    dsimp only [g]
    split
    · exact ⟨⟨rfl, rfl, rfl, rfl⟩, rfl⟩
    · exact ⟨⟨rfl, rfl, rfl, rfl⟩, rfl⟩
  let s1 := s.dirUpd p k g
  have hs1 : TransitActs s s1 := .dirUpd s p k fun d => (hg d).1
  have hacc : (s1.dirOf p k).acc = (s.dirOf p k).acc := by
    dsimp only [s1]
    rw [State.dirOf_dirUpd, if_pos rfl]
    exact (hg _).2
  let s2 := s1.dirUpd p k (fun d => { d with sent := d.sent + 1 })
  have hs2 : TransitActs s s2 := hs1.trans (.dirUpd s1 p k fun _ => ⟨rfl, rfl, rfl, rfl⟩)
  have hacc2 : (s2.dirOf p k).acc = (s.dirOf p k).acc := by
    dsimp only [s2]
    rw [State.dirOf_dirUpd, if_pos rfl]
    exact hacc
  have hseen : s.flitSeen p k fresh = if fresh then (if k = 0 then s2.wrap (.CWY_TX (bundleNo p)) F.CWY_TX_FLITS 1 else s2) else s1 := rfl
  have hrest1 : s1 = { s with cwy := s1.cwy } := rfl
  have hrest2 : s2 = { s with cwy := s2.cwy } := rfl
  rw [hseen]
  generalize s2 = v at hs2 hacc2 hrest2 ⊢
  generalize s1 = w at hs1 hacc hrest1 ⊢
  have hsent2 : v.outbox = s.outbox := by rw [hrest2]
  have hregs2 : RegsKept [.CWY_TX (bundleNo p)] s v := by
    rw [hrest2]
    exact RegsKept.refl _ s
  cases fresh with
  | false =>
    rw [hrest1] at hs1 hacc ⊢
    exact ⟨hs1, rfl, hacc, RegsKept.refl _ s, rfl⟩
  | true =>
    rw [if_pos rfl]
    split
    · refine ⟨hs2.trans (.wrap v _ _ _), hsent2, hacc2, hregs2.trans (RegsKept.wrap _ _ (by simp)), ?_⟩
      rw [hrest2]
      rfl
    · refine ⟨hs2, hsent2, hacc2, hregs2, ?_⟩
      rw [hrest2]

section
variable {p : Bundle} {dir : Bool} {f : Flit} {q : Fin 97} {s : State} (hlen : f.words.length = 32) (hlive : s.bundleLive p.val = true)
  (hvalid : bitAt f.valid.val 0 = true) (hroom : s.edgeFull p.val (dirNo dir) = false)
include hlen hlive hvalid hroom

/-- A flit at a receiver that takes it is judged by its CRC and its number (R301). -/
theorem exec_flitReceive : exec (.flitReceive p dir f q) s = .next
    (if flitCrc f = f.crc.val then
      if bits f.valid.val 2 5 = (s.dirOf p.val (dirNo dir)).seq then
        ((s.flitSeen p.val (dirNo dir) ((s.dirOf p.val (dirNo dir)).fails = 0)).flitAccept p.val (dirNo dir) f).edgeLevel p.val (dirNo dir) q.val
      else s.flitSeen p.val (dirNo dir) false
    else
      let s1 := (s.flitSeen p.val (dirNo dir) ((s.dirOf p.val (dirNo dir)).fails = 0)).cnt (.CWY_CRC p) F.CWY_CRC_CRC_ERR 1
      if (s.dirOf p.val (dirNo dir)).fails < 8 then
        (s1.dirUpd p.val (dirNo dir) (fun d => { d with fails := d.fails + 1 })).emit (.dnak p.val dir (((s.dirOf p.val (dirNo dir)).seq + 31) % 32))
      else if vparOk f.valid.val then
        (fun s2 : State => if f.words.any (fun w => (flitWord w).2.1) then s2.cwyEvt p.val F.CWY_EVT_POISON_RX 0 else s2)
          ((s1.flitAccept p.val (dirNo dir) f).edgeLevel p.val (dirNo dir) q.val)
      else (s1.dirUpd p.val (dirNo dir) (fun d => { d with fails := 0 })).laneFailing p.val (dirNo dir) (s.laneCarrier p.val (dirNo dir) 64)) := by
  change execFlitReceive p dir f q s = _
  unfold execFlitReceive
  dsimp only
  rw [if_neg (by simp [hlen]), if_neg (by simp [hlive, hvalid, hroom])]
  split
  · split
    · rfl
    · rfl
  · split
    · rfl
    · split
      · rfl
      · rfl

/-- A flit that is accepted is counted, taken, and looked at, and what it did is shown. -/
theorem flitReceive_accepted (hgood : (flitCrc f = f.crc.val ∧ bits f.valid.val 2 5 = (s.dirOf p.val (dirNo dir)).seq) ∨
      (flitCrc f ≠ f.crc.val ∧ 8 ≤ (s.dirOf p.val (dirNo dir)).fails ∧ vparOk f.valid.val = true))
    (hclean : ∀ w ∈ f.words, (flitWord w).2.2 = none) : ∃ a u, exec (.flitReceive p dir f q) s = .next u ∧ TransitActs s a ∧
      (a.dirOf p.val (dirNo dir)).acc = (s.dirOf p.val (dirNo dir)).acc ∧ RegsKept [.CWY_TX p, .CWY_CRC p] s a ∧ a.mem = s.mem ∧
      TransitActs ((a.flitTaken p.val (dirNo dir) f).flitBrings p.val (dirNo dir) f) u ∧
      ShownActs (flitRegs p.val) ((a.flitTaken p.val (dirNo dir) f).flitBrings p.val (dirNo dir) f) u := by
  have hexec := exec_flitReceive (q := q) hlen hlive hvalid hroom
  obtain ⟨hseen, -, hacc, hregs, hrest⟩ := s.flitSeen_seen p.val (dirNo dir) ((s.dirOf p.val (dirNo dir)).fails = 0)
  have hmem := congrArg State.mem hrest
  rw [bundleNo_val] at hregs
  rcases hgood with ⟨hcrc, hseq⟩ | ⟨hcrc, hfails, hvpar⟩
  · rw [if_pos hcrc, if_pos hseq, State.flitAccept_eq hclean] at hexec
    exact ⟨_, _, hexec, hseen, hacc, hregs.mono (by simp), hmem, .edgeLevel _ _ _ _, State.edgeLevel_shown _ _ _ _⟩
  · rw [if_neg hcrc] at hexec
    dsimp only at hexec
    rw [if_neg (by omega), if_pos hvpar, State.flitAccept_eq hclean] at hexec
    have hcounted : TransitActs s ((s.flitSeen p.val (dirNo dir) ((s.dirOf p.val (dirNo dir)).fails = 0)).cnt (.CWY_CRC p) F.CWY_CRC_CRC_ERR 1) :=
      hseen.trans (.cnt _ _ _ _)
    refine ⟨_, _, hexec, hcounted, hacc, (hregs.mono (by simp)).trans (RegsKept.cnt (r := .CWY_CRC p) _ _ (by simp)), hmem, ?_, ?_⟩
    · exact TransitActs.trans (.edgeLevel _ p.val (dirNo dir) q.val) (.ite (.cwyEvt _ _ _ _) (.refl _))
    · refine (State.edgeLevel_shown _ p.val (dirNo dir) q.val).trans ?_
      split
      · exact State.cwyEvt_shown _ _ _
      · exact .refl _ _

end

end Sys2Proof.Machine

namespace Sys2Proof.Machine

/-! PROOFS. What becomes of flits, DNAKs and chain frames (O30; R122, R298 to R303). -/

/-! ### Flits -/

theorem mem_laneInsert (x : Nat) (l : List Nat) : x ∈ laneInsert x l := by
  induction l with
  | nil => exact List.mem_singleton_self x
  | cons y l ih =>
    unfold laneInsert
    split
    · exact List.mem_cons_self ..
    · split
      next hxy =>
        rw [hxy]
        exact List.mem_cons_self ..
      · exact List.mem_cons_of_mem _ ih

/-- At level 2 a failing lane of a bundle in RUN has it retrained, where its neighbour does not retrain (R310 to R312). -/
theorem State.laneFailing_retrains {s : State} (p : Bundle) (dir lane : Nat) (hstate : s.bundleState p.val = 2) (hlevel : s.level2 = true)
    (hmate : s.bundleState (bundleMate p.val) ≠ 3) : (s.laneFailing p.val dir lane).bundleState p.val = 3 ∧
      dir * 128 + lane ∈ ((s.laneFailing p.val dir lane).cwy.at p.val).failing ∧ (s.laneFailing p.val dir lane).outbox = s.outbox := by
  let s1 := s.bundleUpd p.val (fun b => { b with failing := laneInsert (dir * 128 + lane) b.failing })
  have hmate1 : s1.bundleState (bundleMate p.val) ≠ 3 := hmate
  have hretrains : s.laneFailing p.val dir lane = (s1.setBundle p.val 3).bundleUpd p.val (fun b => { b with wait := false }) := by
    unfold State.laneFailing
    dsimp only
    rw [hstate, if_neg (by decide), if_pos rfl, hlevel, if_pos rfl]
    exact if_neg hmate1
  have hset : s1.setBundle p.val 3 = { s1 with regs := (s1.setBundle p.val 3).regs } := (s1.setBundle_keeps p 3).1
  rw [hretrains]
  refine ⟨s1.setBundle_state p.val (by decide), ?_, ?_⟩
  · rw [State.bundleUpd_at, hset]
    dsimp only [s1]
    rw [State.bundleUpd_at]
    exact mem_laneInsert _ _
  · exact (congrArg State.outbox hset :)

section
variable {p : Bundle} {dir : Bool} {f : Flit} {q : Fin 97} {s : State} (hlen : f.words.length = 32) (hlive : s.bundleLive p.val = true)
  (hvalid : bitAt f.valid.val 0 = true) (hroom : s.edgeFull p.val (dirNo dir) = false)
include hlen hlive hvalid hroom

/-- An accepted flit is delivered, and the next number expected (R300 to R302). -/
theorem flitReceive_delivers {hs : List CmdHdr} (hgood : (flitCrc f = f.crc.val ∧ bits f.valid.val 2 5 = (s.dirOf p.val (dirNo dir)).seq) ∨
      (flitCrc f ≠ f.crc.val ∧ 8 ≤ (s.dirOf p.val (dirNo dir)).fails ∧ vparOk f.valid.val = true))
    (hclean : ∀ w ∈ f.words, (flitWord w).2.2 = none) (hhs : hs = headersOf (f.words.map (fun w => (flitWord w).1))) :
    ∃ u, exec (.flitReceive p dir f q) s = .next u ∧ (u.dirOf p.val (dirNo dir)).seq = ((s.dirOf p.val (dirNo dir)).seq + 1) % 32 ∧
      (u.dirOf p.val (dirNo dir)).fails = 0 ∧ u.spans = s.spans ∧
      .flit p.val dir (bits f.valid.val 1 1) (bits f.valid.val 7 9) (f.words.map (fun w => (flitWord w).1))
        ((List.range 32).filter (fun i => match (f.words.map flitWord)[i]? with
          | some w => w.2.1
          | none => false)) f.man.val ∈ u.outbox ∧
      (((bitAt f.valid.val 1 = false ∧ ∀ w ∈ (s.dirOf p.val (dirNo dir)).writes, w.hdr.tag ≠ bits f.valid.val 7 9) ∨
          (bitAt f.valid.val 1 = true ∧ ∀ h ∈ hs, h.op = 0 ∨ 3 ≤ h.op)) →
        (u.dirOf p.val (dirNo dir)).acc = (s.dirOf p.val (dirNo dir)).acc + 1 ∧
        (u.dirOf p.val (dirNo dir)).writes = (s.dirOf p.val (dirNo dir)).writes ++ (if bitAt f.valid.val 1 then
          (hs.filter (fun h => decide (3 ≤ h.op ∧ h.op ≤ 6))).map (fun h => ⟨h, []⟩) else []) ∧
        RegsKept ([.CWY_RX p, .CWY_TX p, .CWY_CRC p, .CWY_EVT p, .CDI_EDGE (Fin.ofNat 8 (p.val / 8)) (Fin.ofNat 8 p.val)] ++
          signalRegs) s u ∧ u.mem = s.mem) ∧
      (∀ h, bitAt f.valid.val 1 = true → hs.filter (fun h => h.op ≠ 0) = [h] → (h.op = 1 ∨ h.op = 2) →
        (∃ x ∈ (u.dirOf p.val (dirNo dir)).asked, x.2 = h) ∨
        (∃ o kind i ws m, .flitSent o (!dir) kind h.tag i ws m ∈ u.outbox)) := by
  subst hhs
  obtain ⟨a, u, hexec, hcounted, hacc, hregs, hmem, hshown, hshow⟩ := flitReceive_accepted (q := q) hlen hlive hvalid hroom hgood hclean
  obtain ⟨hseq, hfails, haccs, hwrites, hspans, hmems, hregs1⟩ := State.flitTaken_takes (s := a) (p := p.val) (k := dirNo dir) (f := f)
  have hplaces := (State.flitBrings_places (s := a.flitTaken p.val (dirNo dir) f) (p := p.val) (k := dirNo dir) (f := f)).trans hshown.places
  have hwork := hcounted.work p.val (dirNo dir)
  have hsent := State.flitTaken_sent (s := a) (p := p.val) (k := dirNo dir) (f := f)
  rw [dirNo_one] at hsent
  rw [bundleNo_val] at hregs1
  refine ⟨u, hexec, ?seq, (hplaces.place _ _).2.trans hfails, hplaces.spans.trans (hspans.trans hcounted.spans), hplaces.sent _ hsent, fun hquiet => ?quiet,
    fun h hcmd hone hop => ?read⟩
  case seq => rw [(hplaces.place _ _).1, hseq, hwork.seq]
  case quiet =>
    rw [← hwork.writes, ← hwrites] at hquiet
    obtain ⟨hrest, haccb, hwritesb⟩ := State.flitBrings_quiet hquiet
    have hregsb : RegsKept [] (a.flitTaken p.val (dirNo dir) f) ((a.flitTaken p.val (dirNo dir) f).flitBrings p.val (dirNo dir) f) := by
      rw [hrest]
      exact RegsKept.refl _ _
    have haccu : (u.dirOf p.val (dirNo dir)).acc = (((a.flitTaken p.val (dirNo dir) f).flitBrings p.val (dirNo dir) f).dirOf p.val (dirNo dir)).acc := by
      rw [State.dirOf, State.dirOf, hshow.cwy]
    refine ⟨haccu.trans (haccb.trans (haccs.trans (by rw [hacc]))), ?_, ?_, ?_⟩
    · rw [(hshown.work _ _).writes, hwritesb, hwrites, hwork.writes]
    · refine (hregs.mono ?_).trans ((hregs1.mono ?_).trans ((hregsb.mono (by simp)).trans (hshow.regs.mono ?_)))
      · simp
      · simp
      · intro r hr
        simp only [flitRegs, bundleNo_val, List.mem_append, List.mem_cons, List.not_mem_nil, or_false] at hr ⊢
        tauto
    · rw [hshow.mem, hrest]
      exact hmems.trans hmem
  case read =>
    rcases State.flitBrings_read (s := a.flitTaken p.val (dirNo dir) f) (k := dirNo dir) hcmd hone hop with ⟨x, hx, hxh⟩ | ⟨o, kind, i, ws, m, hout⟩
    · exact .inl ⟨x, (hshown.work _ _).asked ▸ hx, hxh⟩
    · rw [dirNo_other] at hout
      exact .inr ⟨o, kind, i, ws, m, hshown.sent _ hout⟩

/-- A flit that is not accepted is dropped, or asked for again (R301); where its replays have failed too often, its bundle retrains (R310). -/
theorem flitReceive_refused :
    (flitCrc f = f.crc.val → bits f.valid.val 2 5 ≠ (s.dirOf p.val (dirNo dir)).seq → ∃ u, exec (.flitReceive p dir f q) s = .next u ∧
      (u.dirOf p.val (dirNo dir)).seq = (s.dirOf p.val (dirNo dir)).seq ∧ (u.dirOf p.val (dirNo dir)).acc = (s.dirOf p.val (dirNo dir)).acc ∧
      u = { s with cwy := u.cwy }) ∧
    (flitCrc f ≠ f.crc.val → (s.dirOf p.val (dirNo dir)).fails < 8 → ∃ u, exec (.flitReceive p dir f q) s = .next u ∧
      (u.dirOf p.val (dirNo dir)).fails = (s.dirOf p.val (dirNo dir)).fails + 1 ∧ (u.dirOf p.val (dirNo dir)).seq = (s.dirOf p.val (dirNo dir)).seq ∧
      u.outbox = .dnak p.val dir (((s.dirOf p.val (dirNo dir)).seq + 31) % 32) :: s.outbox ∧
      u.fget (.CWY_CRC p) F.CWY_CRC_CRC_ERR = min (s.fget (.CWY_CRC p) F.CWY_CRC_CRC_ERR + 1) (2 ^ F.CWY_CRC_CRC_ERR.len - 1) ∧
      RegsKept [.CWY_CRC p, .CWY_TX p] s u ∧ u = { s with regs := u.regs, cwy := u.cwy, outbox := u.outbox }) ∧
    (flitCrc f ≠ f.crc.val → 8 ≤ (s.dirOf p.val (dirNo dir)).fails → vparOk f.valid.val = false → s.bundleState p.val = 2 → s.level2 = true →
      s.bundleState (bundleMate p.val) ≠ 3 → ∃ u, exec (.flitReceive p dir f q) s = .next u ∧ u.bundleState p.val = 3 ∧
        dirNo dir * 128 + s.laneCarrier p.val (dirNo dir) 64 ∈ (u.cwy.at p.val).failing ∧ u.outbox = s.outbox) := by
  have hexec := exec_flitReceive (q := q) hlen hlive hvalid hroom
  refine ⟨fun hcrc hseq => ?late, fun hcrc hfails => ?again, fun hcrc hfails hvpar hstate hlevel hmate => ?severe⟩
  case late =>
    rw [if_pos hcrc, if_neg hseq] at hexec
    obtain ⟨hseen, -, hacc, -, -⟩ := s.flitSeen_seen p.val (dirNo dir) false
    exact ⟨_, hexec, (hseen.work _ _).seq, hacc, rfl⟩
  case again =>
    rw [if_neg hcrc] at hexec
    dsimp only at hexec
    rw [if_pos hfails] at hexec
    obtain ⟨hseen, hsent, -, hregs, hrest⟩ := s.flitSeen_seen p.val (dirNo dir) ((s.dirOf p.val (dirNo dir)).fails = 0)
    rw [bundleNo_val] at hregs
    have hwork := hseen.work p.val (dirNo dir)
    have hcrcs := hregs.fget (r := .CWY_CRC p) (by simp) F.CWY_CRC_CRC_ERR
    generalize s.flitSeen p.val (dirNo dir) _ = a at hexec hsent hregs hrest hwork hcrcs
    have hdir : ((a.cnt (.CWY_CRC p) F.CWY_CRC_CRC_ERR 1).dirUpd p.val (dirNo dir) (fun d => { d with fails := d.fails + 1 })).dirOf p.val (dirNo dir) =
        { a.dirOf p.val (dirNo dir) with fails := (a.dirOf p.val (dirNo dir)).fails + 1 } := by
      rw [State.dirOf_dirUpd, if_pos rfl]
      rfl
    refine ⟨_, hexec, ?_, ?_, ?_, ?_, ?_, ?_⟩
    · exact (congrArg DirUnit.fails hdir).trans (congrArg (· + 1) hwork.fails)
    · exact (congrArg DirUnit.seq hdir).trans hwork.seq
    · exact congrArg (Out.dnak p.val dir (((s.dirOf p.val (dirNo dir)).seq + 31) % 32) :: ·) hsent
    · exact (State.fget_cnt_same a _ _ _ (by decide)).trans (by rw [hcrcs])
    · exact (hregs.mono (by simp)).trans (RegsKept.cnt (r := .CWY_CRC p) _ _ (by simp))
    · rw [hrest]
      rfl
  case severe =>
    rw [if_neg hcrc] at hexec
    dsimp only at hexec
    rw [if_neg (by omega), hvpar, if_neg (by decide)] at hexec
    obtain ⟨-, hsent, -, hregs, -⟩ := s.flitSeen_seen p.val (dirNo dir) ((s.dirOf p.val (dirNo dir)).fails = 0)
    rw [bundleNo_val] at hregs
    generalize s.flitSeen p.val (dirNo dir) _ = a at hexec hsent hregs
    let b := (a.cnt (.CWY_CRC p) F.CWY_CRC_CRC_ERR 1).dirUpd p.val (dirNo dir) (fun d => { d with fails := 0 })
    have hregsb : RegsKept [.CWY_TX p, .CWY_CRC p] s b := (hregs.mono (by simp)).trans (RegsKept.cnt (r := .CWY_CRC p) (s := a) _ _ (by simp))
    have hstates (j : Nat) : b.bundleState j = s.bundleState j := hregsb.fget (r := .CWY_STAT (bundleNo j)) (by simp) _
    have hlevelb : b.level2 = true := by
      rw [State.level2, hregsb.fget (by simp)]
      exact hlevel
    obtain ⟨hthree, hfailing, hout⟩ := State.laneFailing_retrains (s := b) p (dirNo dir) (s.laneCarrier p.val (dirNo dir) 64) ((hstates _).trans hstate) hlevelb
      (by rw [hstates]; exact hmate)
    exact ⟨_, hexec, hthree, hfailing, hout.trans hsent⟩

end

/-! ### DNAKs -/

theorem dnakReceive_replays (p : Bundle) (dir : Bool) (n : Fin 32) (s : State) :
    (s.bundleLive p.val = false → exec (.dnakReceive p dir n) s = .next s) ∧
    (s.bundleLive p.val = true → ∃ u, exec (.dnakReceive p dir n) s = .next u ∧
      u.dirOf p.val (dirNo dir) = { s.dirOf p.val (dirNo dir) with ack := n.val } ∧
      u.fget (.CWY_CRC p) F.CWY_CRC_REPLAY = min (s.fget (.CWY_CRC p) F.CWY_CRC_REPLAY + 1) (2 ^ F.CWY_CRC_REPLAY.len - 1) ∧
      RegsKept [.CWY_CRC p] s u ∧ u = { s with regs := u.regs, cwy := u.cwy }) := by
  refine ⟨fun hdown => if_neg (by simp [hdown]), fun hlive => ⟨_, if_pos hlive, ?_, ?_, ?_, rfl⟩⟩
  · rw [State.dirOf_dirUpd, if_pos rfl]
    rfl
  · exact State.fget_cnt_same s _ _ _ (by decide)
  · exact RegsKept.cnt (r := .CWY_CRC p) (s := s) _ _ (by simp)

/-! ### Chain frames -/

/-- Where the words of a chain message stand, and where one that is whole has gone (R122, R303). -/
structure WordTaken (p : Bundle) (dir : Bool) (lvl : Nat) (l : List Nat) (s t : State) : Prop where
  waits : l.length < 1 + bits (l.headD 0) 4 2 → (t.dirOf p.val (dirNo dir)).chainIn.at lvl = l ∧ t.chain = s.chain ∧ t.outbox = s.outbox
  whole : 1 + bits (l.headD 0) 4 2 ≤ l.length → (t.dirOf p.val (dirNo dir)).chainIn.at lvl = [] ∧
    (dir = true → t.outbox = s.outbox ∧ t.chain.waiting = s.chain.waiting ++ [(p.val + 1, { ChainMsg.parse l with lanes := s.lanesFor (ChainMsg.parse l) })]) ∧
    (dir = false → t.chain = s.chain ∧ t.outbox = .chain { ChainMsg.parse l with lanes := [p.val] } :: s.outbox)

/-- A word of a chain message changes nothing of the bundles but the words that stand there. -/
theorem State.chainWordIn_rest (s : State) (p k lvl : Nat) (hdr : Bool) (w : Nat) :
    s.chainWordIn p k lvl hdr w = { s with
      cwy := (s.chainWordIn p k lvl hdr w).cwy, outbox := (s.chainWordIn p k lvl hdr w).outbox, chain := (s.chainWordIn p k lvl hdr w).chain } ∧
    ∀ j, ∃ c, (s.chainWordIn p k lvl hdr w).dirOf p j = { s.dirOf p j with chainIn := c } := by
  have hput (x : List Nat) (j : Nat) : ∃ c, (s.dirUpd p k (fun d => { d with chainIn := d.chainIn.put lvl x })).dirOf p j = { s.dirOf p j with chainIn := c } := by
    rw [State.dirOf_dirUpd]
    split
    next hj =>
      subst hj
      exact ⟨_, rfl⟩
    · exact ⟨_, rfl⟩
  unfold State.chainWordIn
  extract_lets l put m
  split
  · exact ⟨rfl, fun j => ⟨_, rfl⟩⟩
  · split
    · exact ⟨rfl, hput l⟩
    · split
      · exact ⟨rfl, hput []⟩
      · exact ⟨rfl, hput []⟩

theorem State.chainWordIn_takes (s : State) (p : Bundle) (dir : Bool) (lvl : Nat) (hdr : Bool) (w : Nat) {l : List Nat}
    (hl : l = (if hdr then [w] else (s.dirOf p.val (dirNo dir)).chainIn.at lvl ++ [w])) (hstarted : hdr = true ∨ (s.dirOf p.val (dirNo dir)).chainIn.at lvl ≠ []) :
    WordTaken p dir lvl l s (s.chainWordIn p.val (dirNo dir) lvl hdr w) := by
  have hput (x : List Nat) : ((s.dirUpd p.val (dirNo dir) (fun d => { d with chainIn := d.chainIn.put lvl x })).dirOf p.val (dirNo dir)).chainIn.at lvl = x := by
    rw [State.dirOf_dirUpd, if_pos rfl]
    exact Tab.at_put_same _ _ _
  have hcontinues : ¬ (!hdr && l.length = 1) = true := by
    rcases hstarted with h | h
    · simp [h]
    · cases hdr
      · simp [hl, h]
      · simp
  unfold State.chainWordIn
  extract_lets l' put m
  have hl' : l' = l := hl.symm
  have hm : m = ChainMsg.parse l := congrArg ChainMsg.parse hl'
  rw [hl', hm, if_neg hcontinues]
  refine ⟨fun hpart => ?_, fun hwhole => ?_⟩
  · rw [if_pos hpart]
    exact ⟨hput l, rfl, rfl⟩
  · rw [if_neg (by omega)]
    cases dir with
    | true => exact ⟨hput [], fun _ => ⟨rfl, rfl⟩, fun h => absurd h (by decide)⟩
    | false => exact ⟨hput [], fun h => absurd h (by decide), fun _ => ⟨rfl, rfl⟩⟩

theorem State.chainOpen {s : State} {p : Nat} (h : s.bundleState p ∈ [1, 2, 4]) : ¬ (!s.bundleLive p && decide (s.bundleState p ≠ 1)) = true := by
  have h' : s.bundleState p = 1 ∨ s.bundleState p = 2 ∨ s.bundleState p = 4 := by simpa using h
  rcases h' with h | h | h <;> simp [State.bundleLive, h]

/-- Where the bundles stand as they did, chain messages leave the hub by the same lanes. -/
theorem State.lanesFor_congr {s t : State} (h : ∀ p, t.bundleState p = s.bundleState p) (m : ChainMsg) : t.lanesFor m = s.lanesFor m := by
  have hlive : t.bundleLive = s.bundleLive := funext fun p => by rw [State.bundleLive, State.bundleLive, h]
  have hentry : t.entryOf = s.entryOf := funext fun l => by rw [State.entryOf, State.entryOf, hlive]
  have hcolumn : t.columnEntry = s.columnEntry := funext fun d => funext fun c => by rw [State.columnEntry, State.columnEntry, hentry]
  rw [State.lanesFor, State.lanesFor, State.allLanes, State.allLanes, State.siteLanes, State.siteLanes, State.dieLanes_congr h, hcolumn]

/-- A frame whose CRC matches acknowledges what the other direction has sent, and its word is taken when its number comes next. -/
theorem chainFrameReceive_taken {p : Bundle} {dir : Bool} {x : BitVec 64} {s : State} (hstate : s.bundleState p.val ∈ [1, 2, 4])
    (hcrc : crc16 (bitsLow 48 x.toNat) = bits x.toNat 48 16) (hword : bitAt x.toNat 0 = true) (hnum : bits x.toNat 35 3 = (s.dirOf p.val (dirNo dir)).cseq) :
    ∃ u, exec (.chainFrameReceive p dir x) s = .next u ∧ (u.dirOf p.val (dirNo dir)).cseq = ((s.dirOf p.val (dirNo dir)).cseq + 1) % 8 ∧
      (u.dirOf p.val (dirNo dir)).cfails = 0 ∧ (u.dirOf p.val (1 - dirNo dir)).cack = bits x.toNat 38 3 ∧
      (u.dirOf p.val (1 - dirNo dir)).ack = bits x.toNat 42 5 ∧
      (∀ l, l = (if bitAt x.toNat 2 then [bits x.toNat 3 32] else (s.dirOf p.val (dirNo dir)).chainIn.at (b2n (bitAt x.toNat 1)) ++ [bits x.toNat 3 32]) →
        (bitAt x.toNat 2 = true ∨ (s.dirOf p.val (dirNo dir)).chainIn.at (b2n (bitAt x.toNat 1)) ≠ []) → WordTaken p dir (b2n (bitAt x.toNat 1)) l s u) ∧
      RegsKept [.CWY_CRC p] s u ∧ u = { s with regs := u.regs, cwy := u.cwy, outbox := u.outbox, chain := u.chain } := by
  have hne : 1 - dirNo dir ≠ dirNo dir := by cases dir <;> decide
  let a := s.frameAcks p.val (dirNo dir) x.toNat
  let b := a.dirUpd p.val (dirNo dir) (fun d => { d with cseq := (d.cseq + 1) % 8, cfails := 0 })
  have hacks : a.dirOf p.val (dirNo dir) = s.dirOf p.val (dirNo dir) ∧
      a.dirOf p.val (1 - dirNo dir) = { s.dirOf p.val (1 - dirNo dir) with cack := bits x.toNat 38 3, ack := bits x.toNat 42 5 } := by
    have hdir (j : Nat) : a.dirOf p.val j = if j = 1 - dirNo dir then
        { s.dirOf p.val (1 - dirNo dir) with cack := bits x.toNat 38 3, ack := bits x.toNat 42 5 } else s.dirOf p.val j := State.dirOf_dirUpd s p.val _ j _
    exact ⟨(hdir _).trans (if_neg hne.symm), (hdir _).trans (if_pos rfl)⟩
  have hmine : b.dirOf p.val (dirNo dir) = { s.dirOf p.val (dirNo dir) with cseq := ((s.dirOf p.val (dirNo dir)).cseq + 1) % 8, cfails := 0 } := by
    dsimp only [b]
    rw [State.dirOf_dirUpd, if_pos rfl, hacks.1]
  have hother : b.dirOf p.val (1 - dirNo dir) = { s.dirOf p.val (1 - dirNo dir) with cack := bits x.toNat 38 3, ack := bits x.toNat 42 5 } := by
    dsimp only [b]
    rw [State.dirOf_dirUpd, if_neg hne, hacks.2]
  have hregs : RegsKept [.CWY_CRC p] s b := by
    have h := RegsKept.cnt (p := [.CWY_CRC p]) (r := .CWY_CRC (bundleNo p.val)) (s := s) F.CWY_CRC_REPLAY (b2n (bitAt x.toNat 41) + b2n (bitAt x.toNat 47))
      (by simp [bundleNo_val])
    exact h
  have hexec : exec (.chainFrameReceive p dir x) s = .next (b.chainWordIn p.val (dirNo dir) (b2n (bitAt x.toNat 1)) (bitAt x.toNat 2) (bits x.toNat 3 32)) := by
    change execChainFrameReceive p dir x s = _
    unfold execChainFrameReceive
    dsimp only
    rw [if_neg (State.chainOpen hstate), if_pos hcrc, if_pos ⟨hword, hnum⟩]
  have hlanes (m : ChainMsg) : b.lanesFor m = s.lanesFor m :=
    State.lanesFor_congr (fun j => hregs.fget (r := .CWY_STAT (bundleNo j)) (by simp) _) m
  obtain ⟨hrest, hdirs⟩ := b.chainWordIn_rest p.val (dirNo dir) (b2n (bitAt x.toNat 1)) (bitAt x.toNat 2) (bits x.toNat 3 32)
  have htakes {l : List Nat} := b.chainWordIn_takes p dir (b2n (bitAt x.toNat 1)) (bitAt x.toNat 2) (bits x.toNat 3 32) (l := l)
  rw [hmine] at htakes
  generalize b.chainWordIn p.val (dirNo dir) (b2n (bitAt x.toNat 1)) (bitAt x.toNat 2) (bits x.toNat 3 32) = u at hexec hrest hdirs htakes
  obtain ⟨c, hc⟩ := hdirs (dirNo dir)
  obtain ⟨c', hc'⟩ := hdirs (1 - dirNo dir)
  rw [hmine] at hc
  rw [hother] at hc'
  refine ⟨u, hexec, ?_, ?_, ?_, ?_, fun l hl hstarted => ?_, ?_, ?_⟩
  · rw [hc]
  · rw [hc]
  · rw [hc']
  · rw [hc']
  · obtain ⟨hwaits, hwhole⟩ := htakes hl hstarted
    refine ⟨hwaits, fun hlen => ?_⟩
    obtain ⟨hnone, htrue, hfalse⟩ := hwhole hlen
    rw [hlanes] at htrue
    exact ⟨hnone, htrue, hfalse⟩
  · rw [hrest]
    exact hregs
  · rw [hrest]
    rfl

/-- A frame whose CRC fails is asked for again (R303). -/
theorem chainFrameReceive_again {p : Bundle} {dir : Bool} {x : BitVec 64} {s : State} (hstate : s.bundleState p.val ∈ [1, 2, 4])
    (hcrc : crc16 (bitsLow 48 x.toNat) ≠ bits x.toNat 48 16) (hfails : (s.dirOf p.val (dirNo dir)).cfails < 8) :
    ∃ u, exec (.chainFrameReceive p dir x) s = .next u ∧ (u.dirOf p.val (dirNo dir)).cfails = (s.dirOf p.val (dirNo dir)).cfails + 1 ∧
      u.outbox = .cnak p.val dir (((s.dirOf p.val (dirNo dir)).cseq + 7) % 8) :: s.outbox ∧ RegsKept [.CWY_CRC p] s u ∧
      u = { s with regs := u.regs, cwy := u.cwy, outbox := u.outbox } := by
  let a := s.cnt (.CWY_CRC p) F.CWY_CRC_CRC_ERR 1
  have hexec : exec (.chainFrameReceive p dir x) s = .next ((a.dirUpd p.val (dirNo dir) (fun d => { d with cfails := d.cfails + 1 })).emit
      (.cnak p.val dir (((s.dirOf p.val (dirNo dir)).cseq + 7) % 8))) := by
    change execChainFrameReceive p dir x s = _
    unfold execChainFrameReceive
    dsimp only
    rw [if_neg (State.chainOpen hstate), if_neg hcrc, if_pos hfails]
  have hdir : (a.dirUpd p.val (dirNo dir) (fun d => { d with cfails := d.cfails + 1 })).dirOf p.val (dirNo dir) =
      { s.dirOf p.val (dirNo dir) with cfails := (s.dirOf p.val (dirNo dir)).cfails + 1 } := (State.dirOf_dirUpd a p.val _ _ _).trans (if_pos rfl)
  exact ⟨_, hexec, congrArg DirUnit.cfails hdir, rfl, RegsKept.cnt (r := .CWY_CRC p) (s := s) _ _ (by simp), rfl⟩

/-- Settles O30, by the CRC and the number of what comes, and by the work that the headers or the data of an accepted flit begin. -/
theorem flitsAndFramesComplete : Obligations.FlitsAndFramesComplete := by
  refine ⟨fun p dir f q s hlen => if_pos hlen, fun p dir f q s hlen hnone => ?dropped, fun p dir f q s d hs hlen hlive hvalid hroom hd hgood hclean hhs => ?accepted,
    fun p dir f q s d hlen hlive hvalid hroom hd => ?refused, dnakReceive_replays, fun p dir x s hdown => ?down, fun p dir x s d hstate hd => ?frames⟩
  case dropped =>
    refine (if_neg (by simp [hlen])).trans (if_pos ?_)
    rcases hnone with h | h | h <;> simp [h]
  case accepted =>
    subst hd
    exact flitReceive_delivers hlen hlive hvalid hroom hgood hclean hhs
  case refused =>
    subst hd
    exact flitReceive_refused hlen hlive hvalid hroom
  case down => exact if_pos (by simpa [State.bundleLive, and_comm, and_assoc] using hdown)
  case frames =>
    subst hd
    refine ⟨fun hcrc hword hnum => ?_, fun hcrc hfails => chainFrameReceive_again hstate hcrc hfails⟩
    obtain ⟨u, hexec, hcseq, hcfails, hcack, hack, htaken, hregs, hrest⟩ := chainFrameReceive_taken hstate hcrc hword hnum
    refine ⟨u, hexec, hcseq, hcfails, hcack, hack, fun lvl l hlvl hl hstarted => ?_, hregs, hrest⟩
    subst hlvl
    exact ⟨(htaken l hl hstarted).waits, (htaken l hl hstarted).whole⟩

end Sys2Proof.Machine

namespace Sys2Proof.Machine

/-! PROOFS. Codewords and control slices that a port receives, and what it sends next (O33; R324, R327 to R329). -/

theorem State.portUpd_at (s : State) (q : Nat) (f : PortUnit → PortUnit) : (s.portUpd q f).ports.at q = f (s.ports.at q) := Tab.at_upd_same _ _ _

theorem State.portUpd_other (s : State) {q r : Nat} (f : PortUnit → PortUnit) (h : r ≠ q) : (s.portUpd q f).ports.at r = s.ports.at r :=
  Tab.at_put_other _ _ h

/-! ### CODEWORD_RECEIVE (R321, R329) -/

section
variable {p : Port} {n : Fin 16} {k : Fin 11} {s : State}

/-- The port has counted one codeword more (R329). -/
def PortUnit.codewordSeen (u : PortUnit) (bad : Bool) : PortUnit :=
  let n := if u.cws + 1 = 16777216 then 0 else u.cws + 1
  { u with cws := n, ucws := if n = 0 then 0 else u.ucws + b2n bad, total := u.total + 1 }

theorem exec_codewordReceive_off {bad : Bool} (h4 : s.portState p.val ≠ 4) (h3 : s.portState p.val ≠ 3) : exec (.codewordReceive p n bad k) s = .next s :=
  if_pos ⟨h4, h3⟩

theorem State.port_on {q : Nat} (h : s.portState q = 4 ∨ s.portState q = 3) : ¬ (s.portState q ≠ 4 ∧ s.portState q ≠ 3) :=
  fun ⟨h4, h3⟩ => h.elim h4 h3

/-- A good codeword on a port: its corrected symbols and its slices counted. -/
def State.codewordGood (s : State) (q n c : Nat) : State :=
  (((s.portUpd q (·.codewordSeen false)).cnt (lfecReg q) F.LNK_FEC_CORR n).wrap (lrxReg q) F.LNK_RX_SLICES c).portUpd q
    (fun x => { x with rxSeq := (x.rxSeq + c) % 65536 })

/-- An uncorrectable codeword on a port: counted, and its NAK due. -/
def State.codewordBad (s : State) (q : Nat) : State :=
  ((s.portUpd q (·.codewordSeen true)).cnt (ucwReg q) F.LNK_UCW_UCW 1).portUpd q (fun x => { x with nak := true })

theorem exec_codewordReceive_good (h : s.portState p.val = 4 ∨ s.portState p.val = 3) : exec (.codewordReceive p n false k) s =
    .next (s.codewordGood p.val n.val (if (s.ports.at p.val).nak = true then 0 else k.val)) := if_neg (State.port_on h)

theorem exec_codewordReceive_bad (h : s.portState p.val = 4 ∨ s.portState p.val = 3)
    (hfew : s.portState p.val = 3 ∨ (s.ports.at p.val).ucws + 1 < max 1 (s.fget (.LNK_CTL (Fin.ofNat 2 (p.val / 8))) F.LNK_CTL_UCW_THR)) :
    exec (.codewordReceive p n true k) s = .next (s.codewordBad p.val) := by
  refine (if_neg (State.port_on h)).trans (congrArg Host.Outcome.next (if_neg ?_))
  omega

theorem State.codewordGood_port (q n c : Nat) : (s.codewordGood q n c).ports.at q =
    { (s.ports.at q).codewordSeen false with rxSeq := ((s.ports.at q).rxSeq + c) % 65536 } :=
  (State.portUpd_at _ _ _).trans (congrArg (fun x : PortUnit => { x with rxSeq := (x.rxSeq + c) % 65536 }) (State.portUpd_at s q (·.codewordSeen false)))

theorem State.codewordBad_port (q : Nat) : (s.codewordBad q).ports.at q = { (s.ports.at q).codewordSeen true with nak := true } :=
  (State.portUpd_at _ _ _).trans (congrArg (fun x : PortUnit => { x with nak := true }) (State.portUpd_at s q (·.codewordSeen true)))

theorem codewords_good (h : s.portState p.val = 4 ∨ s.portState p.val = 3) (c : Nat) (hc : c = if (s.ports.at p.val).nak = true then 0 else k.val) :
    ∃ u, exec (.codewordReceive p n false k) s = .next u ∧
      (u.ports.at p.val).rxSeq = ((s.ports.at p.val).rxSeq + c) % 65536 ∧ (u.ports.at p.val).nak = (s.ports.at p.val).nak ∧
      (u.ports.at p.val).total = (s.ports.at p.val).total + 1 ∧
      u.fget (lfecReg p.val) F.LNK_FEC_CORR = min (s.fget (lfecReg p.val) F.LNK_FEC_CORR + n.val) (2 ^ F.LNK_FEC_CORR.len - 1) ∧
      u.fget (lrxReg p.val) F.LNK_RX_SLICES = (s.fget (lrxReg p.val) F.LNK_RX_SLICES + c) % 2 ^ F.LNK_RX_SLICES.len ∧
      RegsKept [lfecReg p.val, lrxReg p.val] s u ∧ u = { s with regs := u.regs, ports := u.ports } := by
  subst hc
  refine ⟨_, exec_codewordReceive_good h, ?_⟩
  rw [State.codewordGood_port]
  generalize (if (s.ports.at p.val).nak = true then 0 else k.val) = c
  let counted : State := (s.portUpd p.val (·.codewordSeen false)).cnt (lfecReg p.val) F.LNK_FEC_CORR n.val
  refine ⟨rfl, rfl, rfl, ?fec, ?rx, ?regs, rfl⟩
  case fec =>
    exact (State.fget_fset_other counted _ _ _ (by simp [lfecReg, lrxReg])).trans
      (State.fget_cnt_same (s.portUpd p.val (·.codewordSeen false)) (lfecReg p.val) F.LNK_FEC_CORR n.val (by decide))
  case rx =>
    refine (State.fget_wrap_same counted (lrxReg p.val) F.LNK_RX_SLICES c (by decide)).trans ?_
    rw [show counted.fget (lrxReg p.val) F.LNK_RX_SLICES = s.fget (lrxReg p.val) F.LNK_RX_SLICES from
      State.fget_fset_other (s.portUpd p.val (·.codewordSeen false)) _ _ _ (by simp [lfecReg, lrxReg])]
  case regs =>
    exact (RegsKept.cnt (s := s.portUpd p.val (·.codewordSeen false)) (r := lfecReg p.val) _ _ (by simp)).trans
      (RegsKept.wrap (s := counted) (r := lrxReg p.val) _ _ (by simp))

theorem codewords_bad (h : s.portState p.val = 4 ∨ s.portState p.val = 3)
    (hfew : s.portState p.val = 3 ∨ (s.ports.at p.val).ucws + 1 < max 1 (s.fget (.LNK_CTL (Fin.ofNat 2 (p.val / 8))) F.LNK_CTL_UCW_THR)) :
    ∃ u, exec (.codewordReceive p n true k) s = .next u ∧ (u.ports.at p.val).nak = true ∧
      u.fget (ucwReg p.val) F.LNK_UCW_UCW = min (s.fget (ucwReg p.val) F.LNK_UCW_UCW + 1) (2 ^ F.LNK_UCW_UCW.len - 1) ∧
      (u.ports.at p.val).rxSeq = (s.ports.at p.val).rxSeq ∧ RegsKept [ucwReg p.val] s u ∧
      u = { s with regs := u.regs, ports := u.ports } := by
  refine ⟨_, exec_codewordReceive_bad h hfew, ?_⟩
  rw [State.codewordBad_port]
  exact ⟨rfl, State.fget_cnt_same (s.portUpd p.val (·.codewordSeen true)) _ _ _ (by decide), rfl,
    RegsKept.cnt (s := s.portUpd p.val (·.codewordSeen true)) (r := ucwReg p.val) _ _ (by simp), rfl⟩

end

/-! ### CONTROL_SLICE_RECEIVE (R327 to R329) -/

/-- What a control slice leaves of the port that it comes to: what it acknowledges is gone from the replay buffer, its credits are added. -/
structure SliceTaken (a cq cr cc : Nat) (u v : PortUnit) : Prop where
  acked : v.acked = a
  sent : v.sent = u.sent.filter (fun x => !ackCovers a x.1)
  crReq : v.crReq = min 4096 (u.crReq + cq)
  crRsp : v.crRsp = min 2048 (u.crRsp + cr)
  crCtl : v.crCtl = min 64 (u.crCtl + cc)

/-- The port after a control slice. -/
def PortUnit.slice (u : PortUnit) (a fails cq cr cc : Nat) (tx : Byte) : PortUnit :=
  { (u.txStep tx) with
    acked := a, sent := u.sent.filter (fun x => !ackCovers a x.1), fails := fails
    crReq := min 4096 (u.crReq + cq), crRsp := min 2048 (u.crRsp + cr), crCtl := min 64 (u.crCtl + cc) }

theorem PortUnit.slice_taken (u : PortUnit) (a fails cq cr cc : Nat) (tx : Byte) : SliceTaken a cq cr cc u (u.slice a fails cq cr cc tx) := ⟨rfl, rfl, rfl, rfl, rfl⟩

theorem State.replaySent_frame (s : State) (q : Nat) : s.replaySent q = { s with outbox := (s.replaySent q).outbox } := by
  refine List.foldlRecOn (motive := fun t : State => t = { s with outbox := t.outbox }) _ _ rfl fun t ht x _ => ?_
  split
  · rw [ht]
    rfl
  · rw [ht]
    rfl

/-- Every frame of the replay buffer is sent again (R329). -/
theorem State.replaySent_frames (s : State) (q : Nat) : ∀ x ∈ (s.ports.at q).sent, ∀ f, x.2 = .inl f → .frame q f ∈ (s.replaySent q).outbox := by
  let again (t : State) (x : Nat × Sum Frame Entry) : State := match x.2 with
    | .inl f => t.emit (.frame q f)
    | .inr e => t.emit (.entry q e)
  have hkeeps (t : State) (x : Nat × Sum Frame Entry) : ∀ o ∈ t.outbox, o ∈ (again t x).outbox := by
    intro o ho
    unfold again
    split
    · exact List.mem_cons_of_mem _ ho
    · exact List.mem_cons_of_mem _ ho
  have hall (l : List (Nat × Sum Frame Entry)) : ∀ t : State, (∀ o ∈ t.outbox, o ∈ (l.foldl again t).outbox) ∧
      ∀ x ∈ l, ∀ f, x.2 = .inl f → .frame q f ∈ (l.foldl again t).outbox := by
    induction l with
    | nil => exact fun t => ⟨fun _ h => h, fun _ h => absurd h List.not_mem_nil⟩
    | cons y l ih =>
      refine fun t => ⟨fun o ho => (ih (again t y)).1 o (hkeeps t y o ho), fun x hx f hf => ?_⟩
      rcases List.mem_cons.mp hx with rfl | hx
      · refine (ih (again t x)).1 _ ?_
        unfold again
        rw [hf]
        exact List.mem_cons_self
      · exact (ih (again t y)).2 x hx f hf
  exact (hall _ s).2

section
variable {p : Port} {a : Fin 65536} {cq cr : Fin 65536} {cc : Fin 256} {tx : Byte} {s : State}

theorem controlSlices_off {nak : Bool} (h4 : s.portState p.val ≠ 4) (h3 : s.portState p.val ≠ 3) :
    exec (.controlSliceReceive p a nak cq cr cc tx) s = .next s := if_pos ⟨h4, h3⟩

/-- How often the NAKs of a port have failed in turn, with one more. -/
def PortUnit.nakFails (u : PortUnit) (a : Nat) : Nat :=
  if decide ((u.sent.filter (fun x => !ackCovers a x.1)).length < u.sent.length) then 1 else u.fails + 1

@[inherit_doc PortUnit.nakFails] def PortUnit.ackFails (u : PortUnit) (a : Nat) : Nat :=
  if decide ((u.sent.filter (fun x => !ackCovers a x.1)).length < u.sent.length) then 0 else u.fails

theorem PortUnit.nakFails_le (u : PortUnit) (a : Nat) : u.nakFails a ≤ u.fails + 1 := by
  unfold PortUnit.nakFails
  split
  · exact Nat.le_add_left _ _
  · exact le_refl _

/-- A control slice is taken in on a port. -/
def State.sliceTaken (s : State) (q a fails cq cr cc : Nat) (tx : Byte) : State := s.portUpd q (·.slice a fails cq cr cc tx)

theorem exec_controlSliceReceive_ack (h : s.portState p.val = 4 ∨ s.portState p.val = 3) : exec (.controlSliceReceive p a false cq cr cc tx) s =
    .next (s.sliceTaken p.val a.val ((s.ports.at p.val).ackFails a.val) cq.val cr.val cc.val tx) := by
  refine (if_neg (State.port_on h)).trans ((if_pos rfl).trans ?_)
  rfl

theorem exec_controlSliceReceive_nak (h : s.portState p.val = 4 ∨ s.portState p.val = 3)
    (hfew : s.portState p.val = 3 ∨ (s.ports.at p.val).fails + 1 < 9) : exec (.controlSliceReceive p a true cq cr cc tx) s =
    .next (((s.sliceTaken p.val a.val ((s.ports.at p.val).nakFails a.val) cq.val cr.val cc.val tx).cnt (ucwReg p.val) F.LNK_UCW_REPLAY 1).replaySent
      p.val) := by
  have hle := (s.ports.at p.val).nakFails_le a.val
  have hgoes : ¬ (s.portState p.val = 4 ∧ 9 ≤ (s.ports.at p.val).nakFails a.val) := by omega
  refine (if_neg (State.port_on h)).trans ((if_neg Bool.false_ne_true).trans ?_)
  exact congrArg Host.Outcome.next (if_neg hgoes)

theorem controlSlices_acks (h : s.portState p.val = 4 ∨ s.portState p.val = 3) :
    ∃ u, exec (.controlSliceReceive p a false cq cr cc tx) s = .next u ∧
      SliceTaken a.val cq.val cr.val cc.val (s.ports.at p.val) (u.ports.at p.val) ∧
      (∀ q, q ≠ p.val → u.ports.at q = s.ports.at q) ∧ u = { s with ports := u.ports } := by
  refine ⟨_, exec_controlSliceReceive_ack h, ?_, fun q hq => State.portUpd_other _ _ hq, rfl⟩
  rw [State.sliceTaken, State.portUpd_at]
  exact PortUnit.slice_taken _ _ _ _ _ _ _

theorem controlSlices_nak (h : s.portState p.val = 4 ∨ s.portState p.val = 3) (hfew : s.portState p.val = 3 ∨ (s.ports.at p.val).fails + 1 < 9) :
    ∃ u, exec (.controlSliceReceive p a true cq cr cc tx) s = .next u ∧ (u.ports.at p.val).acked = a.val ∧
      u.fget (ucwReg p.val) F.LNK_UCW_REPLAY = min (s.fget (ucwReg p.val) F.LNK_UCW_REPLAY + 1) (2 ^ F.LNK_UCW_REPLAY.len - 1) ∧
      (∀ x ∈ (u.ports.at p.val).sent, ∀ f, x.2 = .inl f → .frame p.val f ∈ u.outbox) ∧
      RegsKept [ucwReg p.val] s u ∧ u = { s with regs := u.regs, ports := u.ports, outbox := u.outbox } := by
  let taken : State := s.sliceTaken p.val a.val ((s.ports.at p.val).nakFails a.val) cq.val cr.val cc.val tx
  let counted : State := taken.cnt (ucwReg p.val) F.LNK_UCW_REPLAY 1
  refine ⟨_, exec_controlSliceReceive_nak h hfew, ?_⟩
  have hframe := counted.replaySent_frame p.val
  have hport : counted.ports.at p.val = (s.ports.at p.val).slice a.val _ cq.val cr.val cc.val tx := State.portUpd_at s p.val (·.slice a.val _ cq.val cr.val cc.val tx)
  have hports : (counted.replaySent p.val).ports = counted.ports := (congrArg (·.ports) hframe :)
  have hregs : (counted.replaySent p.val).regs = counted.regs := (congrArg (·.regs) hframe :)
  refine ⟨?acked, ?replay, ?sent, ?regs, ?rest⟩
  case acked => rw [hports, hport]; rfl
  case replay =>
    rw [State.fget, State.rget, hregs]
    exact State.fget_cnt_same taken _ _ _ (by decide)
  case sent =>
    rw [hports]
    exact counted.replaySent_frames p.val
  case regs =>
    intro r hr
    rw [State.rget, hregs]
    exact RegsKept.cnt (p := [ucwReg p.val]) (s := taken) (r := ucwReg p.val) F.LNK_UCW_REPLAY 1 (by simp) r hr
  case rest =>
    rw [hframe]
    rfl

end

/-! ### FRAME_SEND (R328) -/

section
variable {p : Port} {s : State} {w : PortUnit}

theorem exec_frameSend_off (h : s.portState p.val ≠ 4) : exec (.frameSend p) s = .next s := if_pos h

theorem exec_frameSend_entry {x : Entry} (h : s.portState p.val = 4) (hx : s.readyEntry p.val = some x) :
    exec (.frameSend p) s = .next (s.entryGo p.val x) := by
  change execFrameSend p s = _
  unfold execFrameSend
  dsimp only
  rw [if_neg (not_not_intro h), hx]

theorem exec_frameSend_none (h : s.portState p.val = 4) (hx : s.readyEntry p.val = none) : exec (.frameSend p) s =
    if 64 ≤ (s.ports.at p.val).since then .next (s.reportGo p.val) else match s.nextFrame p.val with
      | some f => .next (s.frameGo p.val f)
      | none => .next (s.portUpd p.val (fun u => { u with since := u.since + 1 })) := by
  change execFrameSend p s = _
  unfold execFrameSend
  dsimp only
  exact (if_neg (not_not_intro h)).trans (by rw [hx] <;> rfl)

/-- The port after a control entry and its report. -/
def PortUnit.entryGone (u : PortUnit) (x : Entry) : PortUnit :=
  { u with due := u.due.tail, txSeq := (u.txSeq + 1) % 65536, sent := u.sent ++ [((u.txSeq + 1) % 65536, .inr x)], crCtl := u.crCtl - 1 }

@[inherit_doc PortUnit.entryGone] def PortUnit.reported (u : PortUnit) : PortUnit :=
  { u with nak := false, freeReq := 0, freeRsp := 0, freeCtl := 0, since := 0 }

theorem State.reportGo_port (q : Nat) : (s.reportGo q).ports.at q = (s.ports.at q).reported := State.portUpd_at s q PortUnit.reported

/-- What the entry that goes on a port changes beside the entries that wait (R327). -/
structure EntrySent (q : Nat) (x : Entry) (s u : State) : Prop where
  port : u.ports.at q = ((s.ports.at q).entryGone x).reported
  outbox : u.outbox = .entry q x :: .linkFields q (s.ports.at q).rxSeq (s.ports.at q).nak (s.ports.at q).freeReq (s.ports.at q).freeRsp
    (s.ports.at q).freeCtl :: s.outbox
  regs : RegsKept [ltxReg q] s u

theorem State.entryGo_sends (q : Nat) (x : Entry) : EntrySent q x s (s.entryGo q x) := by
  unfold State.entryGo
  extract_lets own s1
  have hport : s1.ports.at q = (s.ports.at q).entryGone x := by
    unfold s1
    rw [State.portUpd_at]
    split
    · rfl
    · rfl
  have hs1 : s1.regs = s.regs ∧ s1.outbox = s.outbox := by
    unfold s1
    split
    · exact ⟨rfl, rfl⟩
    · exact ⟨rfl, rfl⟩
  have hat : (s1.wrap (ltxReg q) F.LNK_TX_SLICES 1).ports.at q = (s.ports.at q).entryGone x := hport
  refine ⟨(State.reportGo_port q).trans (congrArg PortUnit.reported hat), ?_, fun r hr => ?_⟩
  · unfold State.reportGo
    dsimp only
    rw [hat]
    exact congrArg (List.cons _ ∘ List.cons _) hs1.2
  · refine (RegsKept.wrap (p := [ltxReg q]) (s := s1) (r := ltxReg q) F.LNK_TX_SLICES 1 (by simp) r hr).trans ?_
    rw [State.rget, State.rget, hs1.1]

theorem State.entryGo_entries (q : Nat) (x : Entry) :
    (s.entryGo q x).grp.entries = if (s.ports.at q).due ≠ [] then s.grp.entries else s.grp.entries.erase x := by
  unfold State.entryGo
  extract_lets own s1
  change s1.grp.entries = _
  unfold s1 own
  split
  · rfl
  · rfl

theorem frameSend_entry {x : Entry} (h : s.portState p.val = 4) (hw : w = s.ports.at p.val) (hx : s.readyEntry p.val = some x) (hdue : w.due = []) :
    ∃ u, exec (.frameSend p) s = .next u ∧ u.grp.entries = s.grp.entries.erase x ∧
      u.outbox = .entry p.val x :: .linkFields p.val w.rxSeq w.nak w.freeReq w.freeRsp w.freeCtl :: s.outbox ∧
      (u.ports.at p.val).crCtl = w.crCtl - 1 ∧ (u.ports.at p.val).txSeq = (w.txSeq + 1) % 65536 ∧
      (u.ports.at p.val).nak = false ∧ (u.ports.at p.val).since = 0 ∧ RegsKept [ltxReg p.val] s u := by
  subst hw
  obtain ⟨hport, hout, hregs⟩ := s.entryGo_sends p.val x
  refine ⟨_, exec_frameSend_entry h hx, ?_, hout, ?_⟩
  · rw [State.entryGo_entries, hdue]
    exact if_neg (not_not_intro rfl)
  · rw [hport]
    exact ⟨rfl, rfl, rfl, rfl, hregs⟩

theorem frameSend_due {x : Entry} {l : List Entry} (h : s.portState p.val = 4) (hw : w = s.ports.at p.val) (hx : s.readyEntry p.val = some x)
    (hdue : w.due = x :: l) :
    ∃ u, exec (.frameSend p) s = .next u ∧ (u.ports.at p.val).due = l ∧ u.grp.entries = s.grp.entries ∧
      u.outbox = .entry p.val x :: .linkFields p.val w.rxSeq w.nak w.freeReq w.freeRsp w.freeCtl :: s.outbox ∧
      (u.ports.at p.val).crCtl = w.crCtl - 1 ∧ (u.ports.at p.val).txSeq = (w.txSeq + 1) % 65536 ∧ RegsKept [ltxReg p.val] s u := by
  subst hw
  obtain ⟨hport, hout, hregs⟩ := s.entryGo_sends p.val x
  refine ⟨_, exec_frameSend_entry h hx, ?_, ?_, hout, ?_⟩
  · rw [hport]
    exact congrArg List.tail hdue
  · rw [State.entryGo_entries, hdue]
    exact if_pos (List.cons_ne_nil _ _)
  · rw [hport]
    exact ⟨rfl, rfl, hregs⟩

theorem frameSend_report (h : s.portState p.val = 4) (hw : w = s.ports.at p.val) (hx : s.readyEntry p.val = none) (hsince : 64 ≤ w.since) :
    ∃ u, exec (.frameSend p) s = .next u ∧
      u.outbox = .linkFields p.val w.rxSeq w.nak w.freeReq w.freeRsp w.freeCtl :: s.outbox ∧
      u.ports.at p.val = { w with nak := false, freeReq := 0, freeRsp := 0, freeCtl := 0, since := 0 } ∧
      (∀ q, q ≠ p.val → u.ports.at q = s.ports.at q) ∧ u = { s with ports := u.ports, outbox := u.outbox } := by
  subst hw
  exact ⟨_, (exec_frameSend_none h hx).trans (if_pos hsince), rfl, State.reportGo_port _, fun q hq => State.portUpd_other s PortUnit.reported hq, rfl⟩

theorem frameSend_frame {f : Frame} (h : s.portState p.val = 4) (hw : w = s.ports.at p.val) (hx : s.readyEntry p.val = none) (hsince : w.since < 64)
    (hf : s.nextFrame p.val = some f) : ∃ u g, exec (.frameSend p) s = .next u ∧
      u.grp.frames = s.grp.frames.erase f ∧ u.outbox = .frame p.val g :: s.outbox ∧ g.hops = Fin.ofNat 64 (f.hops.val + 1) ∧
      g.data = f.data ∧ g.addr = f.addr ∧ g.dst = f.dst ∧
      (u.ports.at p.val).txSeq = (w.txSeq + frameSlices f) % 65536 ∧ (u.ports.at p.val).since = w.since + frameSlices f ∧
      u.fget (ltxReg p.val) F.LNK_TX_SLICES = (s.fget (ltxReg p.val) F.LNK_TX_SLICES + frameSlices f) % 2 ^ F.LNK_TX_SLICES.len ∧
      RegsKept [ltxReg p.val] s u := by
  subst hw
  have hexec : exec (.frameSend p) s = .next (s.frameGo p.val f) := by
    rw [exec_frameSend_none h hx, if_neg (by omega), hf]
  refine ⟨_, _, hexec, rfl, rfl, rfl, rfl, rfl, rfl, ?_⟩
  unfold State.frameGo
  extract_lets up g n own s1 s2
  have hport : s2.ports.at p.val = _ := State.portUpd_at s1 p.val _
  have hsent : ((s2.wrap (ltxReg p.val) F.LNK_TX_SLICES n).emit (.frame p.val g)).ports.at p.val = s2.ports.at p.val := rfl
  rw [hsent, hport]
  exact ⟨rfl, rfl, State.fget_wrap_same s2 _ _ _ (by decide), RegsKept.wrap (s := s2) (r := ltxReg p.val) _ _ (by simp)⟩

theorem frameSend_idle (h : s.portState p.val = 4) (hw : w = s.ports.at p.val) (hx : s.readyEntry p.val = none) (hsince : w.since < 64)
    (hf : s.nextFrame p.val = none) : ∃ u, exec (.frameSend p) s = .next u ∧
      u.ports.at p.val = { w with since := w.since + 1 } ∧ (∀ q, q ≠ p.val → u.ports.at q = s.ports.at q) ∧ u = { s with ports := u.ports } := by
  subst hw
  have hexec : exec (.frameSend p) s = .next (s.portUpd p.val (fun u => { u with since := u.since + 1 })) := by
    rw [exec_frameSend_none h hx, if_neg (by omega), hf]
  exact ⟨_, hexec, State.portUpd_at _ _ _, fun q hq => State.portUpd_other _ _ hq, rfl⟩

end

end Sys2Proof.Machine

namespace Sys2Proof.Machine

/-! PROOFS. Control entries that a port receives (O33; R36, R123, R327, R405): they go on, act on a group span, join the chain network, or become a
vector of the host. -/

/-- A chain message of a class that group spans do not have is none about one (R36, R156). -/
theorem State.groupTake_none (s : State) (d : Dev) {cls : Nat} (i : Nat) (l : List Nat) (h : cls ∉ [2, 3, 7, 8, 9, 0xA, 0xD]) :
    s.groupTake d cls i l = none := by
  simp only [List.mem_cons, List.not_mem_nil, or_false, not_or] at h
  obtain ⟨h2, h3, h7, h8, h9, ha, hd⟩ := h
  unfold State.groupTake
  dsimp only
  split
  · exact absurd rfl h3
  · exact absurd rfl h2
  · exact absurd rfl hd
  · exact absurd rfl hd
  · exact absurd rfl h7
  · exact absurd rfl h8
  · exact absurd rfl h9
  · exact absurd rfl ha
  · rfl

/-- The word of an entry. -/
def wordOfEntry (x : Entry) (i : Nat) : Nat := ((x.words[i]?).getD 0).toNat

/-- A chain message that an entry has brought acts on its part of a group span, or joins the chain network (R36, R123). -/
def State.entryActs (s : State) (p : Port) (x : Entry) (cls : Nat) (m : ChainMsg) : Res State :=
  match (if m.toSpan then s.groupTake x.src cls m.dest m.words else none) with
  | some r => r
  | none => .next (s.chainSend ((s.dieLanes (10 + p.val / 8)).headD 0 + 1) { m with lanes := s.lanesFor m })

section
variable {p : Port} {x : Entry} {s0 s : State}

theorem exec_chainEntryReceive_off (h : s0.portState p.val ≠ 4) : exec (.chainEntryReceive p x) s0 = .next s0 := if_pos h

theorem exec_chainEntryReceive_on (h : s0.portState p.val = 4) (hs : s = s0.entryFreed p.val) (hbcast : x.bcast = false) (hdst : x.dst.val ≠ s.devNum) :
    exec (.chainEntryReceive p x) s0 = .next (s.entryOut x) := by
  subst hs
  refine (if_neg (not_not_intro h)).trans (if_pos ?_)
  rw [hbcast, decide_eq_false hdst]
  rfl

theorem entryHere (hhere : x.bcast = true ∨ x.dst.val = s.devNum) : ¬ ((!(x.bcast || decide (x.dst.val = s.devNum))) = true) := by
  rcases hhere with hb | hd
  · simp [hb]
  · simp [hd]

theorem exec_chainEntryReceive_message (h : s0.portState p.val = 4) (hs : s = s0.entryFreed p.val) (hhere : x.bcast = true ∨ x.dst.val = s.devNum)
    (hmsg : s.bridgeEn = false ∨ bits (wordOfEntry x 0) 0 4 ≠ 0xD ∨ bits (wordOfEntry x 0) 6 1 ≠ 0 ∨ bits (wordOfEntry x 0) 4 2 ≠ 2) {m : ChainMsg}
    (hm : m = ChainMsg.parse ((x.words.map (·.toNat)).take (1 + bits (wordOfEntry x 0) 4 2))) :
    exec (.chainEntryReceive p x) s0 = s.entryActs p x m.cls m := by
  subst hs
  have hvector : ¬ ((s0.entryFreed p.val).bridgeEn = true ∧ bits (wordOfEntry x 0) 0 4 = 0xD ∧ bits (wordOfEntry x 0) 6 1 = 0 ∧ bits (wordOfEntry x 0) 4 2 = 2) := by
    rintro ⟨hb, hc, h6, h4⟩
    rcases hmsg with hb' | hc' | h6' | h4'
    · exact Bool.false_ne_true (hb'.symm.trans hb)
    · exact hc' hc
    · exact h6' h6
    · exact h4' h4
  have hcls : bits (wordOfEntry x 0) 0 4 = m.cls := by
    rw [hm]
    unfold ChainMsg.parse wordOfEntry
    cases x.words with
    | nil => rfl
    | cons a l => rw [Nat.add_comm, List.map_cons, List.take_succ_cons]; rfl
  rw [← hcls, hm]
  exact (if_neg (not_not_intro h)).trans ((if_neg (entryHere hhere)).trans (if_neg hvector))

theorem exec_chainEntryReceive_vector (h : s0.portState p.val = 4) (hs : s = s0.entryFreed p.val) (hdst : x.dst.val = s.devNum) (hb : s.bridgeEn = true)
    (hc : bits (wordOfEntry x 0) 0 4 = 0xD) (h6 : bits (wordOfEntry x 0) 6 1 = 0) (h4 : bits (wordOfEntry x 0) 4 2 = 2)
    (hv : bits (wordOfEntry x 2) 0 11 < fnVectors (bits (wordOfEntry x 1) 0 5)) : exec (.chainEntryReceive p x) s0 =
    if (!(s.fns.at (bits (wordOfEntry x 1) 0 5)).en || (s.fns.at (bits (wordOfEntry x 1) 0 5)).fmask ||
        (s.fns.at (bits (wordOfEntry x 1) 0 5)).masked.contains (bits (wordOfEntry x 2) 0 11)) = true then
      .next { s with fns := s.fns.upd (bits (wordOfEntry x 1) 0 5) (fun f => { f with pending := f.pending.insert (bits (wordOfEntry x 2) 0 11) }) }
    else .next (s.msixOut (bits (wordOfEntry x 1) 0 5) (bits (wordOfEntry x 2) 0 11)) := by
  subst hs
  exact (if_neg (not_not_intro h)).trans ((if_neg (entryHere (.inr hdst))).trans ((if_pos ⟨hb, hc, h6, h4⟩).trans (if_neg (Nat.not_le.mpr hv))))

theorem State.entryActs_joins {m : ChainMsg} (h : m.toSpan = false ∨ m.cls ∉ [2, 3, 7, 8, 9, 0xA, 0xD]) : s.entryActs p x m.cls m =
    .next (s.chainSend ((s.dieLanes (10 + p.val / 8)).headD 0 + 1) { m with lanes := s.lanesFor m }) := by
  have hnone : (if m.toSpan then s.groupTake x.src m.cls m.dest m.words else none) = none := by
    rcases h with hspan | hcls
    · exact if_neg (by rw [hspan]; exact Bool.false_ne_true)
    · rw [State.groupTake_none _ _ _ _ hcls, ite_self]
  unfold State.entryActs
  rw [hnone]

theorem State.entryActs_span {m : ChainMsg} {cls : Nat} {l : List Nat} {r : Res State} (hspan : m.toSpan = true) (hcls : m.cls = cls) (hwords : m.words = l)
    (hr : s.groupTake x.src cls m.dest l = some r) : s.entryActs p x m.cls m = r := by
  unfold State.entryActs
  rw [if_pos hspan, hcls, hwords, hr]

/-- What an interrupt message of another device does at device 0 (R405): its vector waits, or is sent to the host. -/
theorem chainEntries_vector (h : s0.portState p.val = 4) (hs : s = s0.entryFreed p.val) (hdst : x.dst.val = s.devNum) (hb : s.bridgeEn = true)
    (hc : bits (wordOfEntry x 0) 0 4 = 0xD) (h6 : bits (wordOfEntry x 0) 6 1 = 0) (h4 : bits (wordOfEntry x 0) 4 2 = 2)
    (hv : bits (wordOfEntry x 2) 0 11 < fnVectors (bits (wordOfEntry x 1) 0 5)) :
    ((s.fns.at (bits (wordOfEntry x 1) 0 5)).en = false → ∃ u, exec (.chainEntryReceive p x) s0 = .next u ∧
      (u.fns.at (bits (wordOfEntry x 1) 0 5)).pending = (s.fns.at (bits (wordOfEntry x 1) 0 5)).pending.insert (bits (wordOfEntry x 2) 0 11) ∧
      u = { s with fns := u.fns }) ∧
    ((s.fns.at (bits (wordOfEntry x 1) 0 5)).en = true → (s.fns.at (bits (wordOfEntry x 1) 0 5)).fmask = false →
      (s.fns.at (bits (wordOfEntry x 1) 0 5)).masked.contains (bits (wordOfEntry x 2) 0 11) = false →
      ∃ u, exec (.chainEntryReceive p x) s0 = .next u ∧ u.outbox = .msix (bits (wordOfEntry x 1) 0 5) (bits (wordOfEntry x 2) 0 11) :: s.outbox ∧
        OnlyRegs [.HBR_TLP_TX] { s with outbox := u.outbox } u) := by
  have hexec := exec_chainEntryReceive_vector h hs hdst hb hc h6 h4 hv
  generalize bits (wordOfEntry x 1) 0 5 = fn at hexec
  generalize bits (wordOfEntry x 2) 0 11 = v at hexec
  refine ⟨fun hoff => ⟨_, hexec.trans (if_pos (by simp [hoff])), ?_, rfl⟩, fun hon hfmask hmasked => ⟨_, hexec.trans (if_neg (by rw [hon, hfmask, hmasked]; decide)), rfl, ?_⟩⟩
  · exact congrArg FnUnit.pending (Tab.at_upd_same s.fns fn (fun f => { f with pending := f.pending.insert v }))
  · exact OnlyRegs.wrap (s := s.emit (.msix fn v)) (r := .HBR_TLP_TX) _ _ (by simp)

/-- What a message about a group span does on this device (R36, R76, R88). -/
theorem chainEntries_span (h : s0.portState p.val = 4) (hs : s = s0.entryFreed p.val) (hhere : x.bcast = true ∨ x.dst.val = s.devNum)
    (hmsg : s.bridgeEn = false ∨ bits (wordOfEntry x 0) 0 4 ≠ 0xD ∨ bits (wordOfEntry x 0) 6 1 ≠ 0 ∨ bits (wordOfEntry x 0) 4 2 ≠ 2) {m : ChainMsg}
    (hm : m = ChainMsg.parse ((x.words.map (·.toNat)).take (1 + bits (wordOfEntry x 0) 4 2))) (hspan : m.toSpan = true) :
    (∀ v arg, m.cls = 3 → m.words = [v, arg] →
      (v % 16 = 8 → exec (.chainEntryReceive p x) s0 = .next (s.ringSpan m.dest arg (v / 16 % 16))) ∧
      (v % 16 = 4 → exec (.chainEntryReceive p x) s0 = .next (s.spanSnapshot m.dest)) ∧
      (v % 16 ≠ 8 → v % 16 ≠ 4 → exec (.chainEntryReceive p x) s0 =
        .next (s.spanCommand m.dest (v % 16) arg (v / 16 % 16)).degradeCheck)) ∧
    (∀ n, m.cls = 2 → m.words = [n] → n < 256 →
      exec (.chainEntryReceive p x) s0 = exec (.syncSignal (Fin.ofNat 4096 m.dest) (Fin.ofNat 256 n) (.device x.src)) s) ∧
    (∀ n, m.cls = 2 → m.words = [n] → 256 ≤ n → exec (.chainEntryReceive p x) s0 = .next (s.abortPoints m.dest [n % 256])) ∧
    (∀ a b, m.cls = 0xD → m.words = [a, b] → ∃ u, exec (.chainEntryReceive p x) s0 = .next u ∧
      (u.spans.at m.dest).drained = (s.spans.at m.dest).drained ||| 2 ^ x.src.val ∧ (∀ k, k ≠ m.dest → u.spans.at k = s.spans.at k) ∧
      u = { s with spans := u.spans }) ∧
    (∀ a b c, m.cls = 0xD → m.words = [a, b, c] → exec (.chainEntryReceive p x) s0 =
      .next (s.abortLocal m.dest (a + b % 8 * 2 ^ 32 + c * 2 ^ 64 + b / 65536 * 2 ^ 96)).settle) := by
  have hexec := exec_chainEntryReceive_message h hs hhere hmsg hm
  have hacts {cls : Nat} {l : List Nat} {r : Res State} (hcls : m.cls = cls) (hwords : m.words = l) (hr : s.groupTake x.src cls m.dest l = some r) :
      exec (.chainEntryReceive p x) s0 = r := hexec.trans (State.entryActs_span hspan hcls hwords hr)
  refine ⟨fun v arg hcls hwords => ⟨fun h8 => ?_, fun h4 => ?_, fun h8 h4 => ?_⟩, fun n hcls hwords hn => ?_, fun n hcls hwords hn => ?_,
    fun a b hcls hwords => ?_, fun a b c hcls hwords => hacts hcls hwords rfl⟩
  · refine (hacts hcls hwords rfl).trans ?_
    rw [if_pos h8]
  · refine (hacts hcls hwords rfl).trans ?_
    rw [if_neg (by omega), if_pos h4]
  · refine (hacts hcls hwords rfl).trans ?_
    rw [if_neg h8, if_neg h4]
  · exact (hacts hcls hwords rfl).trans (if_pos hn)
  · exact (hacts hcls hwords rfl).trans (if_neg (by omega))
  · refine ⟨_, hacts hcls hwords rfl, ?_, fun k hk => Tab.at_put_other _ _ hk, rfl⟩
    exact congrArg SpanEnt.drained (Tab.at_upd_same s.spans m.dest (fun e => { e with drained := e.drained ||| 2 ^ x.src.val }))

end

end Sys2Proof.Machine

namespace Sys2Proof.Machine

/-! PROOFS. Frames that expire (O33; R338): the tag of a request that is over is free again. -/

/-- The tag of a request that has completed is free. -/
def State.tagFree (s : State) (tag : Nat) : State := { s with grp := { s.grp with tags := s.grp.tags.filter (fun t => t.1 ≠ tag) } }

theorem State.tagDone_keeps (s : State) (tag status : Nat) (data : List Byte) (pois : List Bool) :
    Onward (s.tagFree tag) (s.tagDone tag status data pois) := by
  unfold State.tagDone
  dsimp only
  split
  · split
    · exact Onward.winPart (s.tagFree tag) _ _ _ _
    · refine Onward.trans ?_ (Onward.hostAbort _ _ _ _)
      exact Onward.of_same rfl rfl rfl rfl rfl
  · next w _ _ =>
    let freed : State := { s.tagFree tag with grp := { (s.tagFree tag).grp with winWrites := (s.tagFree tag).grp.winWrites.erase w } }
    have hfreed : Onward (s.tagFree tag) freed := Onward.of_same rfl rfl rfl rfl rfl
    refine Onward.trans (t := if status = 1 ∨ status = 3 then freed.hostDrop w.fn w.addr else if status = 2 then (freed.dropped w.addr).settle else freed)
      ?_ (Onward.ringNext _)
    refine Onward.ite (hfreed.trans (Onward.hostDrop freed _ _)) (Onward.ite (hfreed.trans ?_) hfreed)
    exact (Onward.dropped freed _).trans (Onward.settle _)
  · refine Onward.trans ?_ (Onward.stepTag _ _ _)
    exact Onward.ite (Onward.of_same rfl rfl rfl rfl rfl) (Onward.of_same rfl rfl rfl rfl rfl)

/-! ### FRAME_EXPIRE -/

section
variable {s : State} {f : Frame} {l : List Frame}

/-- The frame has left the queue. -/
def State.frameGone (s : State) (f : Frame) : State := s.grpUpd (fun g => { g with frames := g.frames.erase f })

theorem exec_frameExpire (h : s.heldFrames = f :: l) : exec .frameExpire s = .next ((s.frameGone f).frameLost f) := by
  change execFrameExpire s = _
  unfold execFrameExpire
  rw [h]
  rfl

theorem exec_frameExpire_none (h : s.heldFrames = []) : exec .frameExpire s = .next s := by
  change execFrameExpire s = _
  unfold execFrameExpire
  rw [h]
  rfl

theorem frameExpire_response (h : s.heldFrames = f :: l) (hreq : frameRequest f = false) : ∃ u, exec .frameExpire s = .next u ∧
    u.grp.frames = s.grp.frames.erase f ∧ u = { s with grp := { s.grp with frames := u.grp.frames } } := by
  refine ⟨s.frameGone f, (exec_frameExpire h).trans (congrArg Host.Outcome.next (if_neg ?_)), rfl, rfl⟩
  rw [hreq]
  exact Bool.false_ne_true

theorem frameExpire_returned (h : s.heldFrames = f :: l) (hreq : frameRequest f = true) (hsrc : f.src.val ≠ s.devNum) : ∃ u g, exec .frameExpire s = .next u ∧
    u.grp.frames = s.grp.frames.erase f ++ [g] ∧ g.typ = 4 ∧ g.status = 3 ∧ g.dst = f.src ∧ g.tag = f.tag ∧
    u.fget .LNK_EXP F.LNK_EXP_EXPIRED = min (s.fget .LNK_EXP F.LNK_EXP_EXPIRED + 1) (2 ^ F.LNK_EXP_EXPIRED.len - 1) ∧
    Raised 340 s u ∧ RegsKept (.LNK_EXP :: signalRegs) s u := by
  obtain ⟨⟨g, hframes, htyp, hstatus, hdst, htag, -, -, -⟩, hraised, hexp, hregs, -, -⟩ := State.frameLost_responds (s := s.frameGone f) hreq hsrc
  exact ⟨_, g, exec_frameExpire h, hframes, htyp, hstatus, hdst, htag, hexp, hraised, hregs⟩

theorem frameExpire_own (h : s.heldFrames = f :: l) (hreq : frameRequest f = true) (hsrc : f.src.val = s.devNum) : ∃ u, exec .frameExpire s = .next u ∧
    (∀ t ∈ u.grp.tags, t.1 ≠ f.tag.val) ∧
    u.fget .LNK_EXP F.LNK_EXP_EXPIRED = min (s.fget .LNK_EXP F.LNK_EXP_EXPIRED + 1) (2 ^ F.LNK_EXP_EXPIRED.len - 1) := by
  let counted : State := (s.frameGone f).cnt .LNK_EXP F.LNK_EXP_EXPIRED 1
  have hlost : (s.frameGone f).frameLost f = (counted.raise 340).tagDone f.tag.val 3 [] [] := (if_pos hreq).trans (if_pos hsrc)
  have hdone := (counted.raise 340).tagDone_keeps f.tag.val 3 [] []
  refine ⟨_, (exec_frameExpire h).trans (congrArg Host.Outcome.next hlost), fun t ht => ?_, ?_⟩
  · rw [hdone.tags] at ht
    exact of_decide_eq_true (List.mem_filter.mp ht).2
  · rw [State.fget, hdone.exp]
    exact (State.raise_fget counted 340 (by simp [signalRegs]) _).trans (State.fget_cnt_same (s.frameGone f) _ _ _ (by decide))

end

/-- Settles O33, by the branches of each command: what a port counts, what an entry brings, what is sent next, and what an expired request is told. -/
theorem slicesAndFramesMove : Obligations.SlicesAndFramesMove := by
  refine ⟨fun p n k bad s h4 h3 => exec_codewordReceive_off h4 h3, fun p n k s h => ⟨fun c hc => codewords_good h c hc, fun hfew => codewords_bad h hfew⟩,
    fun p a nak cq cr cc tx s => ⟨fun h4 h3 => controlSlices_off h4 h3, fun h => ?acks, fun hfew h => controlSlices_nak h hfew⟩,
    fun p x s h => exec_chainEntryReceive_off h, fun p x s0 s w h hs hw => ?entries, fun p s h => exec_frameSend_off h, fun p s w h hw => ?send,
    fun s => ⟨exec_frameExpire_none, fun f l => frameExpire_response, fun f l => frameExpire_returned, fun f l => frameExpire_own⟩⟩
  case acks =>
    obtain ⟨u, hexec, ⟨hacked, hsent, hreq, hrsp, hctl⟩, hrest⟩ := controlSlices_acks (a := a) (cq := cq) (cr := cr) (cc := cc) (tx := tx) h
    exact ⟨u, hexec, hacked, hsent, hreq, hrsp, hctl, hrest⟩
  case entries =>
    subst hw
    refine ⟨fun hbcast hdst => ⟨_, exec_chainEntryReceive_on h hs hbcast hdst, rfl, rfl⟩, fun hhere hmsg m hm => ⟨fun hjoins => ?_, fun hspan => ?_⟩,
      fun hdst hb hc h6 h4 hv => chainEntries_vector h hs hdst hb hc h6 h4 hv⟩
    · exact ⟨_, (exec_chainEntryReceive_message h hs hhere hmsg hm).trans (State.entryActs_joins hjoins), rfl, rfl⟩
    · exact chainEntries_span h hs hhere hmsg hm hspan
  case send =>
    exact ⟨fun x hx hdue => frameSend_entry h hw hx hdue, fun x l hx hdue => frameSend_due h hw hx hdue, fun hx hsince => frameSend_report h hw hx hsince,
      fun f hx hsince hf => frameSend_frame h hw hx hsince hf, fun hx hsince hf => frameSend_idle h hw hx hsince hf⟩

end Sys2Proof.Machine

namespace Sys2Proof.Machine

/-! PROOFS. Barge movers (O19; R143, R147, R179, R180, R182): the ring and the hub channel start their copies, descriptors complete in their order, and a
halted ring goes on. -/

/-- The movers, the span table, the fuses, the load in progress, and the read index and status of every ring stand as they were. -/
structure RingKept (s t : State) : Prop where
  movers : t.movers = s.movers
  spans : t.spans = s.spans
  fuses : t.fuses = s.fuses
  load : t.load = s.load
  rd : ∀ m, t.rget (.BRG_RD m) = s.rget (.BRG_RD m)
  stat : ∀ m, t.rget (.BRG_STAT m) = s.rget (.BRG_STAT m)

namespace RingKept
variable {s t u : State}

theorem refl (s : State) : RingKept s s := ⟨rfl, rfl, rfl, rfl, fun _ => rfl, fun _ => rfl⟩

theorem trans (h : RingKept s t) (g : RingKept t u) : RingKept s u :=
  ⟨g.movers.trans h.movers, g.spans.trans h.spans, g.fuses.trans h.fuses, g.load.trans h.load, fun m => (g.rd m).trans (h.rd m),
    fun m => (g.stat m).trans (h.stat m)⟩

theorem foldl {α : Type} {f : State → α → State} (l : List α) (s : State) (hf : ∀ t a, RingKept t (f t a)) : RingKept s (l.foldl f s) :=
  List.foldlRecOn (motive := RingKept s) l f (refl s) fun t ht a _ => ht.trans (hf t a)

theorem ite {p : Prop} [Decidable p] {a b : State} (ha : RingKept s a) (hb : RingKept s b) : RingKept s (if p then a else b) := by
  split
  · exact ha
  · exact hb

theorem mover (h : RingKept s t) (m : Nat) : t.mover m = s.mover m := congrArg (fun x : Tab MoverUnit => x.at m) h.movers

theorem memory (h : MemoryActs s t) : RingKept s t := by
  have hreg (r : Reg) (hr : r ∉ memoryRegs) : t.rget r = s.rget r := h.regs r hr
  refine ⟨?_, ?_, ?_, ?_, fun m => hreg _ (by simp [memoryRegs, signalRegs, passRegs]), fun m => hreg _ (by simp [memoryRegs, signalRegs, passRegs])⟩
  · rw [h.rest]
  · rw [h.rest]
  · rw [h.rest]
  · rw [h.rest]

theorem level (h : LevelActs flcLevels s t) : RingKept s t := by
  refine ⟨?_, ?_, ?_, ?_, fun m => h.regs _ (by simp [flcLevels]), fun m => h.regs _ (by simp [flcLevels])⟩
  · rw [h.rest]
  · rw [h.rest]
  · rw [h.rest]
  · rw [h.rest]

theorem flashUpd (s : State) (f : FlashUnit → FlashUnit) : RingKept s (s.flashUpd f) := ⟨rfl, rfl, rfl, rfl, fun _ => rfl, fun _ => rfl⟩

theorem flashAsk (s : State) (q : FReq) : RingKept s (s.flashAsk q) :=
  (flashUpd s (fun f => { f with queue := f.queue.upd q.addr.chan (· ++ [.read { q with waits := s.flashHeld q }]) })).trans
    (level (LevelActs.flashLevels _ [q.addr.chan]))

theorem flashForget (s : State) (w : FWho) : RingKept s (s.flashForget w) := by
  unfold State.flashForget
  extract_lets mine hit
  exact (flashUpd s (fun f => { f with
    queue := (f.queue.map (fun e => (e.1, e.2.filter (fun x => !mine x)))).filter (fun e => e.2 ≠ [])
    done := f.done.filter (fun d => d.who ≠ w) })).trans (level (LevelActs.flashLevels _ _))

theorem hubRead (s : State) (a n : Nat) : RingKept s (s.hubRead a n).st := memory (MemoryActs.hubRead s a n)

theorem hubWrite (s : State) (a : Nat) (data : List Byte) : RingKept s (s.hubWrite a data) := memory (MemoryActs.hubWrite s a data)

theorem readDesc (s : State) (m i : Nat) : RingKept s (s.readDesc m i).1 := hubRead s _ _

theorem askUnits (s : State) (w : FWho) (r : MvRun) (z off ticket n : Nat) : RingKept s (s.askUnits w r z off ticket n).1 :=
  foldl _ s fun t _ => flashAsk t _

theorem beginDesc (s : State) (m ix : Nat) (d : Desc) : RingKept s (s.beginDesc m ix d).1 := by
  unfold State.beginDesc
  dsimp only
  split
  · exact askUnits s _ _ _ _ _ _
  · exact refl s

end RingKept

theorem State.moverUpd_at (s : State) (m : Nat) (f : MoverUnit → MoverUnit) : (s.moverUpd m f).mover m = f (s.mover m) := Tab.at_upd_same _ _ _

theorem State.moverUpd_other (s : State) {m k : Nat} (f : MoverUnit → MoverUnit) (h : k ≠ m) : (s.moverUpd m f).mover k = s.mover k :=
  Tab.at_put_other _ _ h

theorem State.raise_mover (s : State) (k m : Nat) : (s.raise k).mover m = s.mover m := by
  unfold State.mover
  rw [(Signals.raise s k).1]

/-- The run that a descriptor starts names it. -/
theorem State.beginDesc_run (s : State) (m ix : Nat) (d : Desc) : (s.beginDesc m ix d).2.ix = ix ∧ (s.beginDesc m ix d).2.d = d := by
  unfold State.beginDesc
  dsimp only
  split
  · exact ⟨rfl, rfl⟩
  · exact ⟨rfl, rfl⟩

/-! ### DESCRIPTOR_START (R179, R180) -/

section
variable {m : Mover} {s : State}

theorem exec_descriptorStart_ring (h : s.ringReady m.val = true) (hturn : (s.mover m.val).lastHub = true ∨ s.hubReady m.val = false) :
    exec (.descriptorStart m false) s = .next (s.startRing m.val) := by
  change execDescriptorStart m false s = _
  unfold execDescriptorStart
  refine (if_neg Bool.false_ne_true).trans (if_pos ⟨h, ?_⟩)
  rintro ⟨hlast, hhub⟩
  rcases hturn with hl | hh
  · exact hlast hl
  · exact Bool.false_ne_true (hh.symm.trans hhub)

theorem exec_descriptorStart_hub (h : s.hubReady m.val = true) (hturn : (s.mover m.val).lastHub = false ∨ s.ringReady m.val = false) :
    exec (.descriptorStart m true) s = .next (s.startHub m.val) := by
  change execDescriptorStart m true s = _
  unfold execDescriptorStart
  refine (if_pos rfl).trans (if_pos ⟨h, ?_⟩)
  rintro ⟨hlast, hring⟩
  rcases hturn with hl | hr
  · exact Bool.false_ne_true (hl.symm.trans hlast)
  · exact Bool.false_ne_true (hr.symm.trans hring)

theorem exec_descriptorStart_notRing (h : s.ringReady m.val = false) : exec (.descriptorStart m false) s = .next s := by
  change execDescriptorStart m false s = _
  unfold execDescriptorStart
  exact (if_neg Bool.false_ne_true).trans (if_neg fun hr => Bool.false_ne_true (h.symm.trans hr.1))

theorem exec_descriptorStart_notHub (h : s.hubReady m.val = false) : exec (.descriptorStart m true) s = .next s := by
  change execDescriptorStart m true s = _
  unfold execDescriptorStart
  exact (if_pos rfl).trans (if_neg fun hr => Bool.false_ne_true (h.symm.trans hr.1))

/-- The ring starts its next descriptor. -/
theorem State.startRing_starts (s : State) (m : Nat) : ∃ r, ((s.startRing m).mover m).inflight = (s.mover m).inflight ++ [r] ∧
    r.ix = (s.brgRd m + (s.mover m).inflight.length) % 2 ^ 32 ∧ r.d = (s.readDesc m r.ix).2 ∧ ((s.startRing m).mover m).lastHub = false ∧
    (∀ k, k ≠ m → (s.startRing m).mover k = s.mover k) ∧ (s.startRing m).spans = s.spans ∧ (s.startRing m).fuses = s.fuses := by
  unfold State.startRing
  extract_lets ix x y
  have hkept : RingKept s y.1 := (RingKept.readDesc s m ix).trans (RingKept.beginDesc _ _ _ _)
  obtain ⟨hix, hd⟩ : y.2.ix = ix ∧ y.2.d = x.2 := State.beginDesc_run _ _ _ _
  refine ⟨y.2, ?_, hix, ?_, ?_, fun k hk => (State.moverUpd_other _ _ hk).trans (hkept.mover k), hkept.spans, hkept.fuses⟩
  · rw [State.moverUpd_at, hkept.mover]
  · rw [hix, hd]
  · rw [State.moverUpd_at]

/-- What a copy of the hub channel asks of the flash before it starts. -/
def State.jobBegun (s : State) (m : Nat) : HubJob → State × MvRun
  | .place x =>
    let r : MvRun := ⟨0, x.desc, 0, none, true, none⟩
    if x.src = 2 then s.askUnits (.hub m) r x.flashUnits.1 x.flashUnits.2.1 0 x.flashUnits.2.2 else (s, r)
  | .promote _ _ => (s, ⟨0, default, 0, none, true, none⟩)

theorem RingKept.jobBegun (s : State) (m : Nat) (j : HubJob) : RingKept s (s.jobBegun m j).1 := by
  cases j with
  | place x =>
    unfold State.jobBegun
    dsimp only
    split
    · exact askUnits s _ _ _ _ _ _
    · exact refl s
  | promote p f => exact refl s

theorem State.startHub_eq (s : State) {m : Nat} {j : HubJob} {l : List HubJob} (h : (s.mover m).hubq = j :: l) :
    s.startHub m = (s.jobBegun m j).1.moverUpd m (fun u => { u with hubq := l, hubfl := [(j, (s.jobBegun m j).2)], lastHub := true }) := by
  unfold State.startHub
  rw [h]
  cases j with
  | place x => rfl
  | promote p f => rfl

theorem State.startHub_starts (s : State) {m : Nat} {j : HubJob} {l : List HubJob} (h : (s.mover m).hubq = j :: l) :
    ∃ r, ((s.startHub m).mover m).hubq = l ∧ ((s.startHub m).mover m).hubfl = [(j, r)] ∧ ((s.startHub m).mover m).lastHub = true ∧
      (∀ k, k ≠ m → (s.startHub m).mover k = s.mover k) ∧ (s.startHub m).spans = s.spans ∧ (s.startHub m).fuses = s.fuses := by
  have hkept := RingKept.jobBegun s m j
  rw [State.startHub_eq s h]
  refine ⟨(s.jobBegun m j).2, ?_, ?_, ?_, fun k hk => (State.moverUpd_other _ _ hk).trans (hkept.mover k), hkept.spans, hkept.fuses⟩
  · rw [State.moverUpd_at]
  · rw [State.moverUpd_at]
  · rw [State.moverUpd_at]

end

/-! ### The adoption of a pending ring (R152, R190) -/

/-- `t` is `s` but for the place of ring `m`, the pending fields, and what raising sources changes. -/
structure RingPaired (m : Mover) (s t : State) : Prop where
  rest : t = { s with
    regs := t.regs
    pend := t.pend
    icu := t.icu
    fns := t.fns
    grp := { s.grp with entries := t.grp.entries }
    ldp := { s.ldp with released := t.ldp.released }
    outbox := t.outbox }
  regs : RegsKept ([.BRG_RING_BASE m, .BRG_RING_LEN m, .CFG_PAIR_STAT] ++ signalRegs) s t

namespace RingPaired
variable {m : Mover} {s t u : State}

theorem refl (m : Mover) (s : State) : RingPaired m s s := ⟨rfl, RegsKept.refl _ s⟩

theorem trans (h : RingPaired m s t) (g : RingPaired m t u) : RingPaired m s u := by
  refine ⟨?_, h.regs.trans g.regs⟩
  rw [g.rest, h.rest]

theorem rset (s : State) {r : Reg} (v : Word) (h : r ∈ [Reg.BRG_RING_BASE m, .BRG_RING_LEN m, .CFG_PAIR_STAT]) : RingPaired m s (s.rset r v) :=
  ⟨rfl, RegsKept.rset v (List.mem_append_left _ h)⟩

theorem raise (s : State) (k : Nat) : RingPaired m s (s.raise k) :=
  ⟨by rw [(Signals.raise s k).1], (Signals.raise s k).2.mono fun _ h => List.mem_append_right _ h⟩

theorem withPend (s : State) (l : List (RwpKey × Word)) : RingPaired m s { s with pend := l } := ⟨rfl, fun _ _ => rfl⟩

theorem pairShow (s : State) : RingPaired m s s.pairShow :=
  trans (t := s.bset .CFG_PAIR_STAT _ _) (rset s _ (by simp)) (rset _ _ (by simp))

theorem pairPut (s : State) (l : List (RwpKey × Word)) : RingPaired m s (s.pairPut l (.ring m)) :=
  trans (t := s.rset (.BRG_RING_BASE m) _) (rset s _ (by simp)) (rset _ _ (by simp))

theorem pairTry (s : State) : RingPaired m s (s.pairTry (.ring m)) := by
  unfold State.pairTry
  dsimp only
  split
  · exact pairShow s
  · split
    · exact (((withPend s _).trans (pairShow _)).trans (rset _ _ (by simp))).trans (raise _ _)
    · split
      · exact pairShow s
      · exact ((pairPut s s.pend).trans (withPend _ _)).trans (pairShow _)

theorem pairWake (s : State) : RingPaired m s (s.pairWake (.ring m)) := by
  unfold State.pairWake
  split
  · exact pairTry s
  · exact refl m s

theorem mover (h : RingPaired m s t) (k : Nat) : t.mover k = s.mover k := by
  unfold State.mover
  rw [h.rest]

theorem rd (h : RingPaired m s t) (k : Mover) : t.rget (.BRG_RD k) = s.rget (.BRG_RD k) := h.regs _ (by simp [signalRegs])

theorem stat (h : RingPaired m s t) (k : Mover) : t.rget (.BRG_STAT k) = s.rget (.BRG_STAT k) := h.regs _ (by simp [signalRegs])

end RingPaired

/-- What the advance of a ring's read index leaves (R180). -/
theorem State.ringAdvance_advances (m : Mover) (s : State) : RingPaired m (s.rset (.BRG_RD m) (wordOf (s.brgRd m.val + 1))) (s.ringAdvance m.val) := by
  have hm : Fin.ofNat 16 m.val = m := Fin.ofNat_val_self m
  unfold State.ringAdvance
  rw [hm]
  exact RingPaired.pairWake _

theorem State.ringAdvance_rd (m : Mover) (s : State) : (s.ringAdvance m.val).rget (.BRG_RD m) = wordOf (s.brgRd m.val + 1) :=
  ((s.ringAdvance_advances m).rd m).trans (State.rget_rset_same _ _ _)

theorem State.ringAdvance_stat (m k : Mover) (s : State) : (s.ringAdvance m.val).rget (.BRG_STAT k) = s.rget (.BRG_STAT k) :=
  ((s.ringAdvance_advances m).stat k).trans (State.rget_rset_other _ _ (by simp))

theorem State.ringAdvance_mover (m : Mover) (k : Nat) (s : State) : (s.ringAdvance m.val).mover k = s.mover k := (s.ringAdvance_advances m).mover k

theorem State.brgRd_of_rget {s t : State} {m : Mover} (h : t.rget (.BRG_RD m) = s.rget (.BRG_RD m)) : t.brgRd m.val = s.brgRd m.val := by
  unfold State.brgRd
  rw [Fin.ofNat_val_self m, h]

/-! ### DESCRIPTOR_COMPLETE of the ring (R182) -/

/-- What a descriptor that has its outcome leaves of its ring. -/
structure DescEnded (m : Mover) (r : MvRun) (l : List MvRun) (s1 : State) (st : Nat) (u : State) : Prop where
  inflight : (u.mover m.val).inflight = l
  code : u.fget (.BRG_STAT m) F.BRG_STAT_LAST_CODE = st % 2 ^ F.BRG_STAT_LAST_CODE.len
  halts : haltStatus r.d st = true → (u.mover m.val).halted = some r ∧ u.rget (.BRG_RD m) = s1.rget (.BRG_RD m) ∧ 1 ≤ (u.icu.src.at (400 + m.val)).count
  goes : haltStatus r.d st = false → (u.mover m.val).halted = (s1.mover m.val).halted ∧ u.rget (.BRG_RD m) = wordOf (s1.brgRd m.val + 1)

/-- STATUS and ERR_OFF of a descriptor are written, and what flash has for it is forgotten. -/
def State.descNoted (s : State) (m : Nat) (r : MvRun) (st off : Nat) : State := (s.flashForget (.ring m r.ix)).descStatus m r.ix st off

section
variable {m : Mover} {s s1 : State} {r : MvRun} {l : List MvRun} {st off : Nat}

theorem State.descNoted_code : (s.descNoted m.val r st off).fget (.BRG_STAT m) F.BRG_STAT_LAST_CODE = st % 2 ^ F.BRG_STAT_LAST_CODE.len := by
  unfold State.descNoted State.descStatus
  rw [Fin.ofNat_val_self m]
  exact State.fget_fset_same _ _ _ _ (by decide)

theorem State.descNoted_rd : (s.descNoted m.val r st off).rget (.BRG_RD m) = s.rget (.BRG_RD m) := by
  have hkept := (RingKept.flashForget s (.ring m.val r.ix)).trans (RingKept.hubWrite _
    ((s.flashForget (.ring m.val r.ix)).descAddr m.val r.ix + 0x30) (toBytes 8 st ++ toBytes 8 off))
  exact (State.rget_fset_other _ _ _ (by simp)).trans (hkept.rd m)

theorem State.descNoted_mover (k : Nat) : (s.descNoted m.val r st off).mover k = s.mover k := by
  have hkept := (RingKept.flashForget s (.ring m.val r.ix)).trans (RingKept.hubWrite _
    ((s.flashForget (.ring m.val r.ix)).descAddr m.val r.ix + 0x30) (toBytes 8 st ++ toBytes 8 off))
  exact hkept.mover k

/-- The ring after a descriptor's outcome. -/
def State.descEnds (s1 : State) (m : Nat) (r : MvRun) (l : List MvRun) (st off : Nat) : State :=
  let s2 := s1.descNoted m r st off
  if haltStatus r.d st then (s2.moverUpd m (fun u => { u with inflight := l, halted := some r })).raise (400 + m)
  else
    let s3 := (s2.moverUpd m (fun u => { u with inflight := l })).ringAdvance m
    if r.d.irq then s3.raise (400 + m) else s3

theorem State.descEnds_ended : DescEnded m r l s1 st (s1.descEnds m.val r l st off) := by
  have hcode := State.descNoted_code (m := m) (s := s1) (r := r) (st := st) (off := off)
  have hrd := State.descNoted_rd (m := m) (s := s1) (r := r) (st := st) (off := off)
  have hmover := State.descNoted_mover (m := m) (s := s1) (r := r) (st := st) (off := off) m.val
  unfold State.descEnds
  generalize s1.descNoted m.val r st off = s2 at hcode hrd hmover
  dsimp only
  split
  next hhalt =>
    let v : State := s2.moverUpd m.val (fun u => { u with inflight := l, halted := some r })
    have hv : v.mover m.val = { s2.mover m.val with inflight := l, halted := some r } := State.moverUpd_at s2 m.val _
    refine ⟨?_, (State.raise_fget v _ (by simp [signalRegs]) _).trans hcode, fun _ => ⟨?_, (State.raise_rget v _ (by simp [signalRegs])).trans hrd,
      v.raise_count_pos _⟩, fun hgo => absurd (hhalt.symm.trans hgo) (by decide)⟩
    · rw [State.raise_mover, hv]
    · rw [State.raise_mover, hv]
  next hgo =>
    let w : State := s2.moverUpd m.val (fun u => { u with inflight := l })
    have hw : w.mover m.val = { s2.mover m.val with inflight := l } := State.moverUpd_at s2 m.val _
    have hadvanced : DescEnded m r l s1 st (w.ringAdvance m.val) := by
      refine ⟨?_, (State.fget_of_rget (w.ringAdvance_stat m m) _).trans hcode, fun hhalt => absurd hhalt hgo, fun _ => ⟨?_, ?_⟩⟩
      · rw [State.ringAdvance_mover, hw]
      · rw [State.ringAdvance_mover, hw]
        change (s2.mover m.val).halted = _
        rw [hmover]
      · refine (w.ringAdvance_rd m).trans ?_
        rw [show w.brgRd m.val = s1.brgRd m.val from State.brgRd_of_rget hrd]
    split
    · obtain ⟨hinflight, hcode', -, hgoes⟩ := hadvanced
      refine ⟨?_, (State.raise_fget _ _ (by simp [signalRegs]) _).trans hcode', fun hhalt => absurd hhalt hgo, fun hno => ?_⟩
      · rw [State.raise_mover, hinflight]
      · rw [State.raise_mover]
        exact ⟨(hgoes hno).1, (State.raise_rget _ _ (by simp [signalRegs])).trans (hgoes hno).2⟩
    · exact hadvanced

variable {ext : Option (List Byte × List Bool)} {turned : Option Nat}

theorem exec_descriptorComplete_ring (hhalted : (s.mover m.val).halted = none) (hinflight : (s.mover m.val).inflight = r :: l) :
    exec (.descriptorComplete m false ext turned) s = .next (match s.descOutcome m.val r ext turned with
      | .error t => t
      | .ok (t, st, off) => t.descEnds m.val r l st off) := by
  change execDescriptorComplete m false ext turned s = _
  refine (if_neg Bool.false_ne_true).trans (congrArg Host.Outcome.next ?_)
  unfold State.completeRing
  dsimp only
  rw [hhalted, hinflight] <;> rfl

theorem descriptorComplete_waits (hhalted : (s.mover m.val).halted = none) (hinflight : (s.mover m.val).inflight = r :: l)
    (ho : s.descOutcome m.val r ext turned = .error s1) : exec (.descriptorComplete m false ext turned) s = .next s1 := by
  rw [exec_descriptorComplete_ring hhalted hinflight, ho]

theorem descriptorComplete_ends (hhalted : (s.mover m.val).halted = none) (hinflight : (s.mover m.val).inflight = r :: l)
    (ho : s.descOutcome m.val r ext turned = .ok (s1, st, off)) :
    ∃ u, exec (.descriptorComplete m false ext turned) s = .next u ∧ DescEnded m r l s1 st u := by
  refine ⟨_, ?_, State.descEnds_ended (off := off)⟩
  rw [exec_descriptorComplete_ring hhalted hinflight, ho]

end

end Sys2Proof.Machine

namespace Sys2Proof.Machine

/-! PROOFS. What descriptors and the copies of the hub channel come to (O19; R143, R147, R182), and the commands to a ring (R179, R180, R182). -/

/-! ### A fill of host memory, and a malformed descriptor -/

section
variable {m : Mover} {s t u : State} {r : MvRun} {l : List MvRun}

/-- Bytes cross to a die where its bundles take requests. -/
theorem State.passDie_ok (hb : BundlesFree s) (m : Mover) (rd : Bool) (pos a n : Nat) : ∃ t, s.passDie (.mover m) rd pos a n = .ok t ∧ RingKept s t := by
  obtain ⟨t, ht, -⟩ : ∃ t, s.passDie (.mover m) rd pos a n = .ok t ∧ PathsKept s t :=
    State.eachUnit_ok fun v b p hv => State.crossBy_ok (q := .mover m) (hv.bundlesFree hb) rfl rd p none [v.otherBundle pos b]
  exact ⟨t, ht, RingKept.memory (MemoryActs.eachUnit (fun _ _ _ => MemoryActs.crossBy) t ht)⟩

theorem RingKept.hostOut (s : State) (a : Nat) (data : List Byte) (pois : List Bool) : RingKept s (s.hostOut a data pois) := by
  unfold State.hostOut State.tlpTx
  split
  · exact ⟨rfl, rfl, rfl, rfl, fun _ => State.rget_rset_other _ _ (by simp), fun _ => State.rget_rset_other _ _ (by simp)⟩
  · exact ⟨rfl, rfl, rfl, rfl, fun _ => rfl, fun _ => rfl⟩

theorem RingKept.transferOut (s : State) (typ d mask a ticket : Nat) (host : Bool) (data : List Byte) (pois : List Bool) :
    RingKept s (s.transferOut typ d mask a ticket host data pois) :=
  List.foldlRecOn (motive := fun x : State × Nat => RingKept s x.1) _ _ (RingKept.refl s) fun _ hx _ _ =>
    hx.trans ⟨rfl, rfl, rfl, rfl, fun _ => rfl, fun _ => rfl⟩

/-- A copy to host memory is taken whole. -/
theorem State.moverStore_host (hb : BundlesFree s) {d : Desc} (hkind : d.dstKind = 1) (x : Source) :
    ∃ t, s.moverStore (.mover m) d x none = .ok (t, none) ∧ RingKept s t := by
  unfold State.moverStore
  extract_lets base n took stop
  have hstop : stop = none := if_neg (Nat.lt_irrefl _)
  by_cases hn : n = 0
  · exact ⟨s, if_pos hn, RingKept.refl s⟩
  · obtain ⟨t, ht, hkept⟩ := State.passDie_ok hb m false 11 d.dst n
    let b := x.bytes.take took
    let p := x.pois.take took
    let u : State := if took = 0 then t else if t.bridgeEn then t.hostOut d.dst b p else t.transferOut 1 0 0 d.dst d.ticket true b p
    have hu : RingKept t u := RingKept.ite (RingKept.refl t) (RingKept.ite (RingKept.hostOut t _ _ _) (RingKept.transferOut t _ _ _ _ _ _ _ _))
    refine ⟨u, ?_, hkept.trans hu⟩
    rw [if_neg hn, if_pos hkind, ht, hstop]
    rfl

/-- A fill of host memory ends with STATUS 0x01 (R181, R182). -/
theorem State.descOutcome_fill (hb : BundlesFree s) (hok : r.d.ok = true) (hop : r.d.op = 1) (hkind : r.d.dstKind = 1)
    (ext : Option (List Byte × List Bool)) : ∃ t off, s.descOutcome m.val r ext none = .ok (t, 1, off) ∧ RingKept s t := by
  let x : Source := ⟨s, (List.replicate (ceilDiv r.d.len 8) (toBytes 8 r.d.pattern)).flatten.take r.d.len, List.replicate r.d.len false, [], none, none, false⟩
  have hsource : s.moverSource (.ring m.val r.ix) false (s.egress r.d) r ext = .ok x := if_pos hop
  obtain ⟨t, ht, hkept⟩ := State.moverStore_host (m := m) ((PathsKept.settle s).bundlesFree hb) hkind x
  refine ⟨t, 0, ?_, (RingKept.memory (MemoryActs.settle s)).trans hkept⟩
  have hstore : x.st.settle.moverStore (FWho.ring m.val r.ix).mover r.d x none = .ok (t, none) := by
    rw [show (FWho.ring m.val r.ix).mover = .mover m from congrArg Requester.mover (Fin.ofNat_val_self m)]
    exact ht
  unfold State.descOutcome
  dsimp only
  rw [hok, if_neg (by decide), if_neg (by omega), if_neg (by omega), hsource]
  simp only [Except.bind, hstore]
  rfl

theorem descriptorComplete_fill {ext : Option (List Byte × List Bool)} (hhalted : (s.mover m.val).halted = none)
    (hinflight : (s.mover m.val).inflight = r :: l) (hok : r.d.ok = true) (hop : r.d.op = 1) (hkind : r.d.dstKind = 1) (hb : BundlesFree s) :
    ∃ u, exec (.descriptorComplete m false ext none) s = .next u ∧ (u.mover m.val).inflight = l ∧
      (u.mover m.val).halted = none ∧ u.fget (.BRG_STAT m) F.BRG_STAT_LAST_CODE = 1 ∧ u.rget (.BRG_RD m) = wordOf (s.brgRd m.val + 1) := by
  obtain ⟨t, off, ho, hkept⟩ := State.descOutcome_fill (m := m) hb hok hop hkind ext
  obtain ⟨u, hexec, ⟨hfl, hcode, -, hgoes⟩⟩ := descriptorComplete_ends hhalted hinflight ho
  obtain ⟨hh, hrd⟩ := hgoes (by simp [haltStatus])
  refine ⟨u, hexec, hfl, ?_, hcode, ?_⟩
  · rw [hh, hkept.mover, hhalted]
  · rw [hrd, State.brgRd_of_rget (hkept.rd m)]

theorem descriptorComplete_malformed {ext : Option (List Byte × List Bool)} (hhalted : (s.mover m.val).halted = none)
    (hinflight : (s.mover m.val).inflight = r :: l) (hbad : r.d.ok = false) :
    ∃ u, exec (.descriptorComplete m false ext none) s = .next u ∧ (u.mover m.val).inflight = l ∧
      (u.mover m.val).halted = some r ∧ u.fget (.BRG_STAT m) F.BRG_STAT_LAST_CODE = 6 ∧ u.rget (.BRG_RD m) = s.rget (.BRG_RD m) := by
  have ho : s.descOutcome m.val r ext none = .ok (s, 6, 0) := if_pos (by rw [hbad]; rfl)
  obtain ⟨u, hexec, ⟨hfl, hcode, hhalts, -⟩⟩ := descriptorComplete_ends hhalted hinflight ho
  obtain ⟨hh, hrd, -⟩ := hhalts (by simp [haltStatus])
  exact ⟨u, hexec, hfl, hh, hcode, hrd⟩

end

/-! ### A PLACE copy of the hub channel (R143, R147) -/

section
variable {m : Mover} {s t z : State} {x : Extent} {r : MvRun} {l : List (HubJob × MvRun)} {y : Source}
  {ext : Option (List Byte × List Bool)} {turned : Option Nat}

theorem State.loadActivate_movers (s : State) : s.loadActivate.movers = s.movers := by
  unfold State.loadActivate
  split
  · obtain ⟨-, u, hu, hacts⟩ := (s.loadState 5).modeStart_runs 1 (if s.load.partialLoad then (s.load.fresh.foldl min 4095) else 0xFFF) s.freshUnits
    rw [hacts.rest, hu]
    rfl
  · rfl

theorem State.release_movers (s : State) (l : List Nat) : (s.release l).movers = s.movers := by
  refine List.foldlRecOn (motive := fun t : State => t.movers = s.movers) _ _ ?_ fun t ht _ _ => ht
  change (s.setSpans l .empty).movers = s.movers
  rw [State.setSpans_rest]

theorem State.noImage_movers (s : State) : s.noImage.movers = s.movers := by
  obtain ⟨u, hacts, -, hu⟩ := s.noImage_acts
  rw [hacts.rest, hu]

/-- A PLACE copy that fails ends the load (R147). -/
theorem State.placeFailed_fails (s : State) (m : Mover) (ix : Nat) (h : (s.mover m.val).hubfl = []) :
    ((s.placeFailed ix 0).mover m.val).hubfl = [] ∧ (s.placeFailed ix 0).load.extents = [] ∧ (s.placeFailed ix 0).load.busy = false ∧
      (s.placeFailed ix 0).fget .CFG_LOAD_STAT F.CFG_LOAD_STAT_STATE = 8 := by
  unfold State.placeFailed
  extract_lets s1 s2 s3
  have h2 : s2.movers = s.movers := by
    unfold s2
    split
    · exact s.release_movers _
    · rw [(SettingActs.putTickets _ _).rest]
      exact (State.noImage_movers s1).trans (s.release_movers _)
  let idle (u : MoverUnit) : MoverUnit := { u with
    hubq := u.hubq.filter (fun j => match j with | .place _ => false | _ => true)
    hubfl := u.hubfl.filter (fun j => match j.1 with | .place _ => false | _ => true) }
  have h3 : s3.mover m.val = idle (s.mover m.val) := by
    change Tab.at (s2.movers.map (fun e => (e.1, idle e.2))) m.val = _
    rw [h2]
    unfold State.mover
    generalize s.movers = l
    induction l with
    | nil => rfl
    | cons e l ih =>
      obtain ⟨j, v⟩ := e
      simp only [List.map_cons, Tab.at]
      split
      · rfl
      · exact ih
  have hfl : (s3.mover m.val).hubfl = [] := by
    rw [h3]
    exact congrArg (List.filter _) h
  have hforgot : RingKept s3 ((List.range 16).foldl (fun (s : State) m => if (s.movers.at m).hubfl = [] then s.flashForget (.hub m) else s) s3) := by
    refine RingKept.foldl _ _ fun t k => ?_
    split
    · exact RingKept.flashForget t _
    · exact RingKept.refl t
  generalize (List.range 16).foldl (fun (s : State) m => if (s.movers.at m).hubfl = [] then s.flashForget (.hub m) else s) s3 = v at hforgot
  unfold State.loadEnd
  extract_lets v1 v2
  let ended : State := { v2 with load := { v2.load with busy := false, extents := [], data := [], wakes := [] } }
  have hended : ended.movers = v.movers := rfl
  refine ⟨?_, ?_, ?_, (State.raise_fget ended _ (by simp [signalRegs]) _).trans ?_⟩
  · rw [State.raise_mover, State.mover, hended, ← State.mover, hforgot.mover]
    exact hfl
  · rw [(Signals.raise ended 16).1]
  · rw [(Signals.raise ended 16).1]
  · change v1.fget .CFG_LOAD_STAT F.CFG_LOAD_STAT_STATE = 8
    exact (State.fget_fset_other _ _ _ _ (by simp)).trans ((State.fget_fset_field _ _ _ _ _ (by decide) (by decide)).trans
      ((State.fget_fset_field _ _ _ _ _ (by decide) (by decide)).trans (State.fget_fset_same v .CFG_LOAD_STAT F.CFG_LOAD_STAT_STATE 8 (by decide))))

theorem Except.map_eq_ok {ε α β : Type} {f : α → β} {e : Except ε α} {b : β} (h : e.map f = .ok b) : ∃ a, e = .ok a ∧ f a = b := by
  cases e with
  | error e => cases h
  | ok a => exact ⟨a, rfl, Except.ok.inj h⟩

/-- What PLACE writes leaves the movers. -/
theorem State.placeStore_movers {took : Bool} (h : s.placeStore m.val x y = .ok (t, took)) : t.movers = s.movers := by
  unfold State.placeStore at h
  dsimp only at h
  split at h
  · obtain ⟨⟨v, o⟩, hv, hpair⟩ := Except.map_eq_ok h
    obtain rfl : v = t := congrArg Prod.fst hpair
    unfold State.putCodebook at hv
    dsimp only at hv
    split at hv
    · cases hv
      rfl
    · obtain ⟨w, hw, hput⟩ := Except.map_eq_ok hv
      obtain rfl := congrArg Prod.fst hput
      exact ((RingKept.memory (MemoryActs.eachUnit (fun _ _ _ => MemoryActs.crossBy) w hw)).trans (RingKept.memory (MemoryActs.codebookPut w _ _))).movers
  · obtain ⟨w, hw, hput⟩ := Except.map_eq_ok h
    obtain rfl := congrArg Prod.fst hput
    exact ((RingKept.memory (MemoryActs.pass w hw)).trans
      ((RingKept.memory (MemoryActs.writeAt w _ _ _ _ _)).trans (RingKept.memory (MemoryActs.settle _)))).movers

theorem exec_descriptorComplete_place (hfl : (s.mover m.val).hubfl = (.place x, r) :: l) :
    exec (.descriptorComplete m true ext turned) s = .next (s.completePlace m.val x r ext) := by
  change execDescriptorComplete m true ext turned s = _
  unfold execDescriptorComplete
  rw [if_pos rfl, hfl]

theorem State.completePlace_held (h : x.toCodebook = true ∧ s.codebookHeld x.engine (x.dst - 2) = true) (k : Nat) : s.completePlace k x r ext = s :=
  if_pos (by rw [h.1, h.2]; rfl)

/-- What becomes of a PLACE copy that has read `y` and is over in `z` (R147); `s` is the state in which it would wait. -/
def State.placeOutcome (s z : State) (m : Nat) (x : Extent) (y : Source) : State :=
  if y.stop.isSome || y.ue.isSome || y.poison then z.placeFailed x.ix 0
  else match z.placeStore m x y with
    | .error h => s.waitFor (FWho.hub m).mover h
    | .ok (t, took) => if took then t.placeDone x.ix else t.placeFailed x.ix 0

theorem State.placeOutcome_bad (h : (y.stop.isSome || y.ue.isSome || y.poison) = true) (k : Nat) : s.placeOutcome z k x y = z.placeFailed x.ix 0 :=
  if_pos h

theorem State.placeOutcome_waits {k : Nat} {w : Hold} (h : ¬ (y.stop.isSome || y.ue.isSome || y.poison) = true) (hw : z.placeStore k x y = .error w) :
    s.placeOutcome z k x y = s.waitFor (FWho.hub k).mover w := by
  unfold State.placeOutcome
  rw [if_neg h, hw]

theorem State.placeOutcome_stored {k : Nat} {took : Bool} (h : ¬ (y.stop.isSome || y.ue.isSome || y.poison) = true)
    (ht : z.placeStore k x y = .ok (t, took)) : s.placeOutcome z k x y = if took then t.placeDone x.ix else t.placeFailed x.ix 0 := by
  unfold State.placeOutcome
  rw [if_neg h, ht]

theorem State.completePlace_free (h : x.toCodebook = false ∨ s.codebookHeld x.engine (x.dst - 2) = false) (k : Nat) : s.completePlace k x r ext =
    match s.placeSource k x r ext with
    | .error t => t
    | .ok y => s.placeOutcome ((y.st.settle.flashForget (.hub k)).moverUpd k (fun u => { u with hubfl := [] })) k x y := by
  refine (if_neg ?_).trans rfl
  rcases h with h | h
  · rw [h]
    exact Bool.false_ne_true
  · rw [h, Bool.and_false]
    exact Bool.false_ne_true

/-- A PLACE copy that has been taken is over, and its extent is done (R147). -/
theorem State.placeDone_ends (s : State) (ix : Nat) : (s.placeDone ix).movers = s.movers ∧ ∀ e ∈ (s.placeDone ix).load.extents, e.ix ≠ ix := by
  unfold State.placeDone
  refine ⟨State.loadActivate_movers _, fun e he => ?_⟩
  rw [(State.loadActivate_keeps _).1.load] at he
  exact of_decide_eq_true (List.mem_filter.mp he).2

/-- What becomes of a PLACE copy whose source is read (R147). -/
theorem descriptorComplete_place (hfl : (s.mover m.val).hubfl = (.place x, r) :: l)
    (hfree : x.toCodebook = false ∨ s.codebookHeld x.engine (x.dst - 2) = false) (hy : s.placeSource m.val x r ext = .ok y)
    (hz : z = (y.st.settle.flashForget (.hub m.val)).moverUpd m.val (fun u => { u with hubfl := [] })) :
    ((y.stop.isSome = true ∨ y.ue.isSome = true ∨ y.poison = true ∨ ∃ t, z.placeStore m.val x y = .ok (t, false)) →
      ∃ u, exec (.descriptorComplete m true ext turned) s = .next u ∧ (u.mover m.val).hubfl = [] ∧ u.load.extents = [] ∧
        u.load.busy = false ∧ u.fget .CFG_LOAD_STAT F.CFG_LOAD_STAT_STATE = 8) ∧
    (y.stop = none → y.ue = none → y.poison = false →
      (∀ h, z.placeStore m.val x y = .error h → exec (.descriptorComplete m true ext turned) s = .next (s.waitFor (.mover m) h)) ∧
      (∀ t, z.placeStore m.val x y = .ok (t, true) →
        ∃ u, exec (.descriptorComplete m true ext turned) s = .next u ∧ (u.mover m.val).hubfl = [] ∧ ∀ e ∈ u.load.extents, e.ix ≠ x.ix)) := by
  have hidle : (z.mover m.val).hubfl = [] := by
    rw [hz, State.moverUpd_at]
  have hstored {t : State} {took : Bool} (ht : z.placeStore m.val x y = .ok (t, took)) : (t.mover m.val).hubfl = [] := by
    rw [State.mover, State.placeStore_movers ht]
    exact hidle
  have hexec : exec (.descriptorComplete m true ext turned) s = .next (s.placeOutcome z m.val x y) := by
    rw [exec_descriptorComplete_place hfl, State.completePlace_free hfree, hy, hz]
  refine ⟨fun hfails => ?_, fun hstop hue hpoison => ?_⟩
  · by_cases hbad : (y.stop.isSome || y.ue.isSome || y.poison) = true
    · rw [State.placeOutcome_bad hbad] at hexec
      exact ⟨z.placeFailed x.ix 0, hexec, z.placeFailed_fails m x.ix hidle⟩
    · obtain ⟨t, ht⟩ : ∃ t, z.placeStore m.val x y = .ok (t, false) := by
        simp only [Bool.or_eq_true, not_or] at hbad
        obtain ⟨⟨hs, hu⟩, hp⟩ := hbad
        exact ((hfails.resolve_left hs).resolve_left hu).resolve_left hp
      rw [State.placeOutcome_stored hbad ht, if_neg Bool.false_ne_true] at hexec
      exact ⟨t.placeFailed x.ix 0, hexec, t.placeFailed_fails m x.ix (hstored ht)⟩
  · have hgood : ¬ (y.stop.isSome || y.ue.isSome || y.poison) = true := by simp [hstop, hue, hpoison]
    refine ⟨fun h hh => ?_, fun t ht => ?_⟩
    · rw [hexec, State.placeOutcome_waits hgood hh]
      exact congrArg (fun q => Host.Outcome.next (s.waitFor q h)) (congrArg Requester.mover (Fin.ofNat_val_self m))
    · obtain ⟨hmovers, hdone⟩ := t.placeDone_ends x.ix
      rw [State.placeOutcome_stored hgood ht, if_pos rfl] at hexec
      refine ⟨t.placeDone x.ix, hexec, ?_, hdone⟩
      rw [State.mover, hmovers]
      exact hstored ht

end

/-! ### BRG_WRITE_INDEX, BRG_RESUME, BRG_SKIP, BRG_ABORT (R179, R180, R182) -/

section
variable {m : Mover} {s : State} {r : MvRun} {v : Word}

theorem exec_brgWriteIndex_held (h : (s.ownEntry (.mover m.val)).isSome = true) : exec (.brgWriteIndex m v) s = .next s := if_pos h

theorem exec_brgWriteIndex_free (h : s.ownEntry (.mover m.val) = none) : exec (.brgWriteIndex m v) s = .next (s.moverIndex m.val v.toNat) :=
  if_neg (by rw [h]; exact Bool.false_ne_true)

theorem brgWriteIndex_taken (h : s.ownEntry (.mover m.val) = none) (hroom : ahead (s.brgRd m.val) v.toNat ≤ s.ringLen m.val) :
    ∃ u, exec (.brgWriteIndex m v) s = .next u ∧ u.rget (.BRG_WR m) = v ∧ OnlyRegs [.BRG_WR m] s u := by
  refine ⟨_, (exec_brgWriteIndex_free h).trans (congrArg Host.Outcome.next (if_pos hroom)), ?_⟩
  rw [Fin.ofNat_val_self m]
  refine ⟨?_, OnlyRegs.rset _ (by simp)⟩
  rw [State.rget_rset_same]
  exact BitVec.ofNat_toNat _ v |>.trans (BitVec.setWidth_eq v)

theorem brgWriteIndex_over (h : s.ownEntry (.mover m.val) = none) (hfull : s.ringLen m.val < ahead (s.brgRd m.val) v.toNat) :
    ∃ u, exec (.brgWriteIndex m v) s = .next u ∧ u.bget (.BRG_STAT m) F.BRG_STAT_OVR = true ∧ OnlyRegs [.BRG_STAT m] s u := by
  refine ⟨_, (exec_brgWriteIndex_free h).trans (congrArg Host.Outcome.next (if_neg (by omega))), ?_⟩
  rw [Fin.ofNat_val_self m]
  exact ⟨State.bget_bset_same _ _ _ _ (by decide) (by decide), OnlyRegs.bset _ _ (by simp)⟩

theorem ringCommands_ignored (h : (s.mover m.val).halted = none) :
    exec (.brgResume m) s = .next s ∧ exec (.brgSkip m) s = .next s ∧ exec (.brgAbort m) s = .next s := by
  refine ⟨?_, ?_, ?_⟩
  · change execBrgResume m s = _
    unfold execBrgResume
    rw [h]
  · change execBrgSkip m s = _
    unfold execBrgSkip
    rw [h]
  · change execBrgAbort m s = _
    unfold execBrgAbort
    rw [h]

theorem brgResume_resumes (h : (s.mover m.val).halted = some r) : ∃ u q, exec (.brgResume m) s = .next u ∧ (u.mover m.val).halted = none ∧
    (u.mover m.val).inflight = q :: (s.mover m.val).inflight ∧ q.ix = r.ix ∧ q.d = (s.readDesc m.val r.ix).2 ∧
    u.rget (.BRG_RD m) = s.rget (.BRG_RD m) ∧ u.fuses = s.fuses := by
  let x := s.readDesc m.val r.ix
  let y := x.1.beginDesc m.val r.ix x.2
  have hkept : RingKept s y.1 := (RingKept.readDesc s m.val r.ix).trans (RingKept.beginDesc _ _ _ _)
  obtain ⟨hix, hd⟩ : y.2.ix = r.ix ∧ y.2.d = x.2 := State.beginDesc_run _ _ _ _
  refine ⟨y.1.moverUpd m.val (fun u => { u with halted := none, inflight := y.2 :: u.inflight }), y.2, ?_, ?_, ?_, hix, hd, hkept.rd m, hkept.fuses⟩
  · change execBrgResume m s = _
    unfold execBrgResume
    rw [h]
  · rw [State.moverUpd_at]
  · rw [State.moverUpd_at, hkept.mover]

theorem brgSkip_skips (h : (s.mover m.val).halted = some r) : ∃ u, exec (.brgSkip m) s = .next u ∧ (u.mover m.val).halted = none ∧
    (u.mover m.val).inflight = (s.mover m.val).inflight ∧ u.rget (.BRG_RD m) = wordOf (s.brgRd m.val + 1) ∧ u.mem = s.mem ∧ u.flash = s.flash := by
  let v : State := s.moverUpd m.val (fun u => { u with halted := none })
  have hadvanced := v.ringAdvance_advances m
  refine ⟨v.ringAdvance m.val, ?_, ?_, ?_, v.ringAdvance_rd m, ?_, ?_⟩
  · change execBrgSkip m s = _
    unfold execBrgSkip
    rw [h]
  · rw [State.ringAdvance_mover, State.moverUpd_at]
  · rw [State.ringAdvance_mover, State.moverUpd_at]
  · rw [hadvanced.rest]
    rfl
  · rw [hadvanced.rest]
    rfl

/-- 0x08 goes to every descriptor written, and what flash has for the ring is forgotten (R182). -/
def State.ringDropped (s : State) (m : Nat) (r : MvRun) : State :=
  let n := min (s.ringLen m) (ahead (s.brgRd m) (s.brgWr m))
  let s1 := (List.range n).foldl (fun (t : State) i => t.hubWrite (t.descAddr m (t.brgRd m + i) + 0x30) (toBytes 8 0x08)) s
  (r :: (s1.mover m).inflight).foldl (fun (t : State) q => t.flashForget (.ring m q.ix)) s1

theorem RingKept.ringDropped (s : State) (m : Nat) (r : MvRun) : RingKept s (s.ringDropped m r) :=
  (foldl _ s fun t _ => hubWrite t _ _).trans (foldl _ _ fun t _ => flashForget t _)

/-- An aborted ring, before a pending one is adopted. -/
def State.ringEmptied (s : State) (m : Mover) (r : MvRun) : State :=
  (((s.ringDropped m.val r).moverUpd m.val (fun u => { u with halted := none, inflight := [] })).rset (.BRG_RD m) (wordOf (s.brgWr m.val))).fset
    (.BRG_STAT m) F.BRG_STAT_LAST_CODE 0x08

theorem State.ringEmptied_mover : (s.ringEmptied m r).mover m.val = { (s.ringDropped m.val r).mover m.val with halted := none, inflight := [] } :=
  State.moverUpd_at (s.ringDropped m.val r) m.val (fun u => { u with halted := none, inflight := [] })

theorem exec_brgAbort (h : (s.mover m.val).halted = some r) : exec (.brgAbort m) s = .next ((s.ringEmptied m r).pairWake (.ring m)) := by
  change execBrgAbort m s = _
  unfold execBrgAbort State.ringEmptied State.ringDropped
  rw [h]

theorem brgAbort_aborts (h : (s.mover m.val).halted = some r) : ∃ u, exec (.brgAbort m) s = .next u ∧ (u.mover m.val).halted = none ∧
    (u.mover m.val).inflight = [] ∧ u.rget (.BRG_RD m) = s.rget (.BRG_WR m) ∧ u.fget (.BRG_STAT m) F.BRG_STAT_LAST_CODE = 8 ∧ u.fuses = s.fuses := by
  have hpaired : RingPaired m (s.ringEmptied m r) ((s.ringEmptied m r).pairWake (.ring m)) := RingPaired.pairWake _
  refine ⟨_, exec_brgAbort h, ?_, ?_, ?_, ?_, ?_⟩
  · rw [hpaired.mover, State.ringEmptied_mover]
  · rw [hpaired.mover, State.ringEmptied_mover]
  · rw [hpaired.rd]
    refine (State.rget_fset_other _ _ _ (by simp)).trans ((State.rget_rset_same _ _ _).trans ?_)
    unfold State.brgWr
    rw [Fin.ofNat_val_self m]
    exact BitVec.ofNat_toNat _ _ |>.trans (BitVec.setWidth_eq _)
  · exact (State.fget_of_rget (hpaired.stat m) _).trans (State.fget_fset_same _ _ _ _ (by decide))
  · rw [hpaired.rest]
    exact (RingKept.ringDropped s m.val r).fuses

end

/-- Settles O19, by what the start, the outcome and the end of a copy leave of its mover. -/
theorem moversRunDescriptors : Obligations.MoversRunDescriptors := by
  refine ⟨fun m s => ⟨exec_descriptorStart_notRing, fun h hturn => ?start, exec_descriptorStart_notHub, fun j l h hq hturn => ?startHub⟩,
    fun m ext turned s s1 r l st off hh hi => ⟨descriptorComplete_waits hh hi, fun ho => ?ends⟩,
    fun m ext s r l hh hi => ⟨fun hok hop hkind hb => descriptorComplete_fill hh hi hok hop hkind hb, fun hbad => descriptorComplete_malformed hh hi hbad⟩,
    fun m ext turned s x r l hfl => ⟨fun hheld => ?held, fun hfree => ⟨fun t ht => ?wait, fun y z hy hz => descriptorComplete_place hfl hfree hy hz⟩⟩,
    fun m v s => ⟨exec_brgWriteIndex_held, brgWriteIndex_taken, brgWriteIndex_over⟩, fun m s h => ringCommands_ignored h,
    fun m s r h => ⟨brgResume_resumes h, brgSkip_skips h, brgAbort_aborts h⟩⟩
  case start =>
    obtain ⟨r, hstarts⟩ := s.startRing_starts m.val
    exact ⟨_, r, exec_descriptorStart_ring h hturn, hstarts⟩
  case startHub =>
    obtain ⟨r, hstarts⟩ := s.startHub_starts hq
    exact ⟨_, r, exec_descriptorStart_hub h hturn, hstarts⟩
  case ends =>
    obtain ⟨u, hexec, hfl, hcode, hhalts, hgoes⟩ := descriptorComplete_ends hh hi ho
    exact ⟨u, hexec, hfl, hcode, hhalts, hgoes⟩
  case held => rw [exec_descriptorComplete_place hfl, State.completePlace_held hheld]
  case wait => rw [exec_descriptorComplete_place hfl, State.completePlace_free hfree, ht]

end Sys2Proof.Machine

namespace Sys2Proof.Machine

/-! PROOFS. A microsecond without a command (O53; R118, R124, R402, R403): the chain router serves every message that waits, the ingress queues drain, what
waits goes on, and the coalescing windows that have run out end. -/

/-! ### The next port (R124) -/

/-- The least number of a list. -/
def leastOf (l : List Nat) : Option Nat := l.foldl (fun (m : Option Nat) p => match m with
  | none => some p
  | some x => some (min x p)) none

theorem nextPort_eq (l : List Nat) (last : Nat) : nextPort l last = (leastOf (l.filter (fun p => last < p))).orElse (fun _ => leastOf l) := rfl

theorem leastOf_mem {l : List Nat} (h : l ≠ []) : ∃ p ∈ l, leastOf l = some p := by
  obtain ⟨x, l, rfl⟩ := List.exists_cons_of_ne_nil h
  suffices hfold : ∀ (l : List Nat) (x : Nat), ∃ p ∈ x :: l, l.foldl (fun (m : Option Nat) p => match m with
      | none => some p
      | some x => some (min x p)) (some x) = some p from hfold l x
  intro l
  induction l with
  | nil => exact fun x => ⟨x, List.mem_singleton_self x, rfl⟩
  | cons y l ih =>
    intro x
    obtain ⟨p, hp, hleast⟩ := ih (min x y)
    refine ⟨p, ?_, hleast⟩
    rcases List.mem_cons.mp hp with rfl | hp
    · rcases min_choice x y with h | h <;> simp [h]
    · exact List.mem_cons_of_mem _ (List.mem_cons_of_mem _ hp)

/-- Among waiting ports one is always chosen. -/
theorem nextPort_mem {l : List Nat} (h : l ≠ []) (last : Nat) : ∃ p ∈ l, nextPort l last = some p := by
  rw [nextPort_eq]
  by_cases hlater : l.filter (fun p => last < p) = []
  · obtain ⟨p, hp, hleast⟩ := leastOf_mem h
    exact ⟨p, hp, by rw [hlater]; exact hleast⟩
  · obtain ⟨p, hp, hleast⟩ := leastOf_mem hlater
    exact ⟨p, (List.mem_filter.mp hp).1, by rw [hleast]; rfl⟩

theorem nextPort_single (p last : Nat) : nextPort [p] last = some p := by
  obtain ⟨q, hq, hnext⟩ := nextPort_mem (List.cons_ne_nil p []) last
  rw [hnext, List.mem_singleton.mp hq]

/-- The port after the last one goes first. -/
theorem nextPort_later {p q : Nat} (h : p < q) : nextPort [p, q] p = some q := by simp [nextPort_eq, leastOf, h]

/-! ### The chain router (R124) -/

/-- The message of a list that is served next. -/
def chainPick (l : List (Nat × ChainMsg)) (last : Nat) : Option (Nat × ChainMsg) :=
  (nextPort (l.map (·.1)) last).bind (fun p => l.find? (fun x => x.1 = p))

theorem chainPick_mem {l : List (Nat × ChainMsg)} (h : l ≠ []) (last : Nat) : ∃ x ∈ l, chainPick l last = some x := by
  obtain ⟨p, hp, hnext⟩ := nextPort_mem (l := l.map (·.1)) (by simpa using h) last
  obtain ⟨y, hy, rfl⟩ := List.mem_map.mp hp
  obtain ⟨x, hx⟩ := Option.isSome_iff_exists.mp ((List.find?_isSome (p := fun x => decide (x.1 = y.1))).mpr ⟨y, hy, decide_eq_true rfl⟩)
  exact ⟨x, List.mem_of_find?_eq_some hx, by rw [chainPick, hnext]; exact hx⟩

theorem chainPick_single (x : Nat × ChainMsg) (last : Nat) : chainPick [x] last = some x := by
  obtain ⟨y, hy, hpick⟩ := chainPick_mem (List.cons_ne_nil x []) last
  rw [hpick, List.mem_singleton.mp hy]

theorem chainPick_later {p q : Nat} (h : p < q) (m n : ChainMsg) : chainPick [(p, n), (q, m)] p = some (q, m) := by
  rw [chainPick, show ([(p, n), (q, m)] : List (Nat × ChainMsg)).map (·.1) = [p, q] from rfl, nextPort_later h]
  simp [h.ne]

/-- The urgent messages that wait. -/
def State.urgentWaiting (s : State) : List (Nat × ChainMsg) := s.chain.waiting.filter fun x => urgentClass x.2.cls

/-- The others. -/
def State.normalWaiting (s : State) : List (Nat × ChainMsg) := s.chain.waiting.filter fun x => !urgentClass x.2.cls

/-- An urgent message leaves. -/
def State.serveUrgent (s : State) (x : Nat × ChainMsg) : State :=
  { s with chain := { s.chain with waiting := s.chain.waiting.erase x, lastUrg := x.1 }, outbox := .chain x.2 :: s.outbox }

/-- Another message leaves. -/
def State.serveNormal (s : State) (x : Nat × ChainMsg) : State :=
  { s with chain := { s.chain with waiting := s.chain.waiting.erase x, lastNorm := x.1 }, outbox := .chain x.2 :: s.outbox }

section
variable {s : State} {x : Nat × ChainMsg}

theorem chainServe_urgent (h : chainPick s.urgentWaiting s.chain.lastUrg = some x) : s.chainServe = s.serveUrgent x := by
  change (match chainPick s.urgentWaiting s.chain.lastUrg, chainPick s.normalWaiting s.chain.lastNorm with
    | some x, _ => s.serveUrgent x
    | none, some x => s.serveNormal x
    | none, none => s) = _
  rw [h]

theorem chainServe_normal (hurg : s.urgentWaiting = []) (h : chainPick s.normalWaiting s.chain.lastNorm = some x) : s.chainServe = s.serveNormal x := by
  have hnone : chainPick s.urgentWaiting s.chain.lastUrg = none := by
    rw [hurg]
    rfl
  change (match chainPick s.urgentWaiting s.chain.lastUrg, chainPick s.normalWaiting s.chain.lastNorm with
    | some x, _ => s.serveUrgent x
    | none, some x => s.serveNormal x
    | none, none => s) = _
  rw [hnone, h]

/-- While messages wait, one of them is served. -/
theorem chainServe_serves (h : s.chain.waiting ≠ []) : ∃ x ∈ s.chain.waiting, ∃ c : ChainUnit, c.waiting = s.chain.waiting.erase x ∧
    s.chainServe = { s with chain := c, outbox := .chain x.2 :: s.outbox } := by
  by_cases hurg : s.urgentWaiting = []
  · have hnorm : s.normalWaiting ≠ [] := by
      intro hnorm
      obtain ⟨y, hy⟩ := List.exists_mem_of_ne_nil _ h
      have hnot : urgentClass y.2.cls ≠ true := List.filter_eq_nil_iff.mp hurg y hy
      have hall := List.filter_eq_nil_iff.mp hnorm y hy
      simp [hnot] at hall
    obtain ⟨x, hx, hpick⟩ := chainPick_mem hnorm s.chain.lastNorm
    exact ⟨x, (List.mem_filter.mp hx).1, _, rfl, chainServe_normal hurg hpick⟩
  · obtain ⟨x, hx, hpick⟩ := chainPick_mem hurg s.chain.lastUrg
    exact ⟨x, (List.mem_filter.mp hx).1, _, rfl, chainServe_urgent hpick⟩

/-- One urgent message and one normal wait: the urgent one goes first. -/
theorem chainServe_urgent_first {p q : Nat} {m n : ChainMsg} (h : s.chain.waiting = [(p, n), (q, m)]) (hm : urgentClass m.cls = true)
    (hn : urgentClass n.cls = false) : s.chainServe.chainServe.outbox = .chain n :: .chain m :: s.outbox := by
  have hne : (p, n) ≠ (q, m) := by
    rintro ⟨⟩
    exact Bool.false_ne_true (hn.symm.trans hm)
  have hurg : s.urgentWaiting = [(q, m)] := by simp [State.urgentWaiting, h, hm, hn]
  have hfirst : s.chainServe = s.serveUrgent (q, m) := chainServe_urgent (by rw [hurg, chainPick_single])
  have hwaits : (s.serveUrgent (q, m)).chain.waiting = [(p, n)] := by simp [State.serveUrgent, h, hne]
  have hnone : (s.serveUrgent (q, m)).urgentWaiting = [] := by simp [State.urgentWaiting, hwaits, hn]
  have hnorm : (s.serveUrgent (q, m)).normalWaiting = [(p, n)] := by simp [State.normalWaiting, hwaits, hn]
  rw [hfirst, chainServe_normal hnone (by rw [hnorm, chainPick_single])]
  rfl

/-- Two messages of one class wait: the port after the one served last goes first. -/
theorem chainServe_next_port {p q : Nat} {m n : ChainMsg} (h : s.chain.waiting = [(p, n), (q, m)]) (hsame : urgentClass m.cls = urgentClass n.cls)
    (hpq : p < q) (hurg : s.chain.lastUrg = p) (hnorm : s.chain.lastNorm = p) :
    s.chainServe.chainServe.outbox = .chain n :: .chain m :: s.outbox := by
  have hne : (p, n) ≠ (q, m) := fun he => hpq.ne (Prod.mk.inj he).1
  cases hn : urgentClass n.cls with
  | true =>
    have hm := hsame.trans hn
    have hboth : s.urgentWaiting = [(p, n), (q, m)] := by simp [State.urgentWaiting, h, hm, hn]
    have hfirst : s.chainServe = s.serveUrgent (q, m) := chainServe_urgent (by rw [hboth, hurg, chainPick_later hpq])
    have hlast : (s.serveUrgent (q, m)).urgentWaiting = [(p, n)] := by simp [State.urgentWaiting, State.serveUrgent, h, hne, hn]
    rw [hfirst, chainServe_urgent (by rw [hlast, chainPick_single])]
    rfl
  | false =>
    have hm := hsame.trans hn
    have hnone : s.urgentWaiting = [] := by simp [State.urgentWaiting, h, hm, hn]
    have hboth : s.normalWaiting = [(p, n), (q, m)] := by simp [State.normalWaiting, h, hm, hn]
    have hfirst : s.chainServe = s.serveNormal (q, m) := chainServe_normal hnone (by rw [hboth, hnorm, chainPick_later hpq])
    have hstill : (s.serveNormal (q, m)).urgentWaiting = [] := by simp [State.urgentWaiting, State.serveNormal, h, hne, hn]
    have hlast : (s.serveNormal (q, m)).normalWaiting = [(p, n)] := by simp [State.normalWaiting, State.serveNormal, h, hne, hn]
    rw [hfirst, chainServe_normal hstill (by rw [hlast, chainPick_single])]
    rfl

end

/-- Every message that waits is served. -/
def State.chainServeAll (s : State) : State := s.chain.waiting.foldl (fun (s : State) _ => s.chainServe) s

theorem chainServeAll_none {s : State} (h : s.chain.waiting = []) : s.chainServeAll = s := by
  rw [State.chainServeAll, h]
  rfl

theorem chainServeAll_two {s : State} {x y : Nat × ChainMsg} (h : s.chain.waiting = [x, y]) : s.chainServeAll = s.chainServe.chainServe := by
  rw [State.chainServeAll, h]
  rfl

theorem chainServe_rest (s : State) : s.chainServe = { s with chain := s.chainServe.chain, outbox := s.chainServe.outbox } := by
  unfold State.chainServe
  dsimp only
  split
  · rfl
  · rfl
  · rfl

theorem chainServe_sent (s : State) : s.outbox <:+ s.chainServe.outbox := by
  unfold State.chainServe
  dsimp only
  split
  · exact List.suffix_cons _ _
  · exact List.suffix_cons _ _
  · exact List.suffix_rfl

theorem chainServe_onward (s : State) : Onward s s.chainServe := by
  have hrest := chainServe_rest s
  refine ⟨⟨chainServe_sent s, ?_⟩, ?_, ?_, fun d b => ?_, ?_⟩ <;> rw [hrest] <;> rfl

/-- Rounds enough to serve all that wait send each message. -/
theorem chainServe_foldl_sends {α : Type} (l : List α) : ∀ s : State, s.chain.waiting.length = l.length →
    ∀ x ∈ s.chain.waiting, .chain x.2 ∈ (l.foldl (fun (s : State) _ => s.chainServe) s).outbox := by
  induction l with
  | nil =>
    intro s hlen x hx
    rw [List.length_eq_zero_iff.mp hlen] at hx
    cases hx
  | cons a l ih =>
    intro s hlen x hx
    obtain ⟨y, hy, c, hwaits, hserve⟩ := chainServe_serves (s := s) fun h => by simp [h] at hlen
    have hon := Onward.foldl l s.chainServe fun t _ => chainServe_onward t
    rw [List.foldl_cons]
    have hlen' : s.chainServe.chain.waiting.length = l.length := by
      rw [hserve, hwaits, List.length_erase_of_mem hy, hlen]
      rfl
    by_cases hxy : x = y
    · exact hon.sent.subset (by rw [hserve, hxy]; exact List.mem_cons_self)
    · exact ih s.chainServe hlen' x (by rw [hserve, hwaits]; exact (List.mem_erase_of_ne hxy).mpr hx)

theorem chainServeAll_sends (s : State) : ∀ x ∈ s.chain.waiting, .chain x.2 ∈ s.chainServeAll.outbox := chainServe_foldl_sends s.chain.waiting s rfl

theorem chainServeAll_onward (s : State) : Onward s s.chainServeAll := Onward.foldl _ s fun t _ => chainServe_onward t

/-! ### The ingress queues of the edge routers (R118) -/

/-- The register of edge router `p`. -/
def edgeReg (p : Nat) : Reg := .CDI_EDGE (Fin.ofNat 8 (p / 8)) (Fin.ofNat 8 p)

/-- The ingress queue of edge router `p` drains. -/
def State.edgeDrain (s : State) (p : Nat) : State := if s.fget (edgeReg p) F.CDI_EDGE_INQ = 0 then s else s.fset (edgeReg p) F.CDI_EDGE_INQ 0

theorem networkTick_eq (s : State) : s.networkTick = (List.range 64).foldl State.edgeDrain s.chainServeAll := rfl

theorem edgeReg_of (d b : Fin 8) : edgeReg (8 * d.val + b.val) = .CDI_EDGE d b := by
  have hd : Fin.ofNat 8 ((8 * d.val + b.val) / 8) = d := Fin.ext (by simp only [Fin.val_ofNat]; omega)
  have hb : Fin.ofNat 8 (8 * d.val + b.val) = b := Fin.ext (by simp only [Fin.val_ofNat]; omega)
  rw [edgeReg, hd, hb]

theorem edgeDrain_empty (s : State) (p : Nat) : (s.edgeDrain p).fget (edgeReg p) F.CDI_EDGE_INQ = 0 := by
  unfold State.edgeDrain
  split
  next h => exact h
  · rw [State.fget_fset_same _ _ _ _ (by decide)]
    rfl

theorem edgeDrain_stays {s : State} {r : Reg} (h : s.fget r F.CDI_EDGE_INQ = 0) (p : Nat) : (s.edgeDrain p).fget r F.CDI_EDGE_INQ = 0 := by
  by_cases hr : r = edgeReg p
  · rw [hr]
    exact edgeDrain_empty s p
  · unfold State.edgeDrain
    split
    · exact h
    · rw [State.fget_fset_other _ _ _ _ hr]
      exact h

theorem edgeDrain_foldl_empty (l : List Nat) {p : Nat} (hp : p ∈ l) : ∀ s : State, (l.foldl State.edgeDrain s).fget (edgeReg p) F.CDI_EDGE_INQ = 0 := by
  have hstays (l : List Nat) {s : State} {r : Reg} (h : s.fget r F.CDI_EDGE_INQ = 0) : (l.foldl State.edgeDrain s).fget r F.CDI_EDGE_INQ = 0 :=
    List.foldlRecOn (motive := fun t : State => t.fget r F.CDI_EDGE_INQ = 0) l _ h fun _ ht a _ => edgeDrain_stays ht a
  induction l with
  | nil => cases hp
  | cons a l ih =>
    intro s
    rcases List.mem_cons.mp hp with rfl | hp
    · exact hstays l (edgeDrain_empty s p)
    · exact ih hp _

theorem networkTick_drains (s : State) (d b : Fin 8) : s.networkTick.fget (.CDI_EDGE d b) F.CDI_EDGE_INQ = 0 := by
  rw [networkTick_eq, ← edgeReg_of]
  exact edgeDrain_foldl_empty _ (List.mem_range.mpr (by omega)) _

/-- Queues that are empty stay as they are. -/
theorem networkTick_quiet {s : State} (h : s.chain.waiting = []) (hempty : ∀ d b : Fin 8, s.fget (.CDI_EDGE d b) F.CDI_EDGE_INQ = 0) : s.networkTick = s := by
  rw [networkTick_eq, chainServeAll_none h]
  exact List.foldlRecOn (motive := fun t => t = s) _ _ rfl fun t ht p _ => by
    rw [ht]
    exact if_pos (hempty _ _)

/-- The drain changes the edge routers' registers alone. -/
theorem edgeDrain_foldl_rest (l : List Nat) (s : State) : l.foldl State.edgeDrain s = { s with regs := (l.foldl State.edgeDrain s).regs } := by
  refine List.foldlRecOn (motive := fun t : State => t = { s with regs := t.regs }) l _ rfl fun t ht p _ => ?_
  unfold State.edgeDrain
  split
  · exact ht
  · rw [ht]
    rfl

theorem networkTick_rest (s : State) : s.networkTick.outbox = s.chainServeAll.outbox ∧ s.networkTick.icu.tick = s.chainServeAll.icu.tick ∧
    s.networkTick.pending = s.chainServeAll.pending := by
  have hrest := edgeDrain_foldl_rest (List.range 64) s.chainServeAll
  rw [networkTick_eq]
  exact ⟨by rw [hrest], by rw [hrest], by rw [hrest]⟩

/-! ### Windows that have run out (R402) -/

/-- The window of source `k` ends when its ticks have passed. -/
def State.windowTurn (s : State) (k : Nat) : State := if s.windowOver k then s.windowEnd k else s

/-- The clock has counted a microsecond. -/
def State.clocked (s : State) : State := { s with icu := { s.icu with tick := s.icu.tick + 1 } }

theorem idle_eq {s : State} (h : s.pwr.off = false) : s.idle = (s.clocked.icu.src.map (·.1)).foldl State.windowTurn s.clocked.networkTick.pump.writesRetry := by
  unfold State.idle
  rw [h]
  rfl

theorem windowTurn_onward (s : State) (k : Nat) : Onward s (s.windowTurn k) := .ite (.windowEnd s k) (.refl s)

/-- `t` is reached from `s` by windows that end: sources' messages apart, their ends are all that has changed. -/
structure WindowsOn (s t : State) : Prop where
  signals : Signals s t
  tick : t.icu.tick = s.icu.tick
  src : ∀ k, t.icu.src.at k = { s.icu.src.at k with expired := (t.icu.src.at k).expired }
  expired : ∀ k, (s.icu.src.at k).expired = true → (t.icu.src.at k).expired = true

namespace WindowsOn
variable {s t u : State}

theorem refl (s : State) : WindowsOn s s := ⟨.refl s, rfl, fun _ => rfl, fun _ h => h⟩

theorem trans (h : WindowsOn s t) (g : WindowsOn t u) : WindowsOn s u :=
  ⟨h.signals.trans g.signals, g.tick.trans h.tick, fun k => by rw [g.src k, h.src k], fun k hk => g.expired k (h.expired k hk)⟩

theorem windowEnd_at (s : State) (k j : Nat) : (s.windowEnd k).icu.src.at j = if j = k then { s.icu.src.at k with expired := true } else s.icu.src.at j := by
  rw [State.windowEnd, State.present_src]
  exact Tab.at_upd s.icu.src k j fun c => { c with expired := true }

theorem windowEnd (s : State) (k : Nat) : WindowsOn s (s.windowEnd k) := by
  refine ⟨(Signals.srcUpd s k _).trans (.present _ _), (Onward.windowEnd s k).tick, fun j => ?_, fun j hj => ?_⟩ <;> rw [windowEnd_at]
  · split
    next h => rw [h]
    · rfl
  · split
    · rfl
    · exact hj

theorem windowTurn (s : State) (k : Nat) : WindowsOn s (s.windowTurn k) := by
  unfold State.windowTurn
  split
  · exact windowEnd s k
  · exact refl s

theorem foldl (l : List Nat) (s : State) : WindowsOn s (l.foldl State.windowTurn s) :=
  List.foldlRecOn (motive := WindowsOn s) l _ (refl s) fun t ht k _ => ht.trans (windowTurn t k)

end WindowsOn

/-- The window of source `k` has run out or ended. -/
def State.windowDue (s : State) (k : Nat) : Prop := (s.icu.src.at k).expired = true ∨ s.windowOver k = true

theorem windowTurn_ends {s : State} {k : Nat} (h : s.windowDue k) : ((s.windowTurn k).icu.src.at k).expired = true := by
  unfold State.windowTurn
  split
  · rw [WindowsOn.windowEnd_at, if_pos rfl]
  next hover => exact h.resolve_right hover

theorem windowOver_of {s : State} {k w : Nat} (hwin : (s.icu.src.at k).win = some w) (hlevel : levelSource k = false)
    (hset : s.fget (.ICU_COAL (srcOf k)) F.ICU_COAL_WIN ≠ 0) (hexp : (s.icu.src.at k).expired = false)
    (hover : w + s.fget (.ICU_COAL (srcOf k)) F.ICU_COAL_WIN ≤ s.icu.tick) : s.windowOver k = true := by
  unfold State.windowOver
  simp [hwin, hlevel, hset, hexp, hover]

theorem windowOver_congr {s t : State} {k : Nat} (h : WindowsOn s t) (hexp : (t.icu.src.at k).expired = false) (hover : s.windowOver k = true) :
    t.windowOver k = true := by
  have hwin : (t.icu.src.at k).win = (s.icu.src.at k).win := by rw [h.src k]
  have hreg : t.fget (.ICU_COAL (srcOf k)) F.ICU_COAL_WIN = s.fget (.ICU_COAL (srcOf k)) F.ICU_COAL_WIN := by
    rw [State.fget, State.fget, h.signals.2 _ (by simp [signalRegs])]
  have hold : (s.icu.src.at k).expired = false := by
    cases hs : (s.icu.src.at k).expired with
    | false => rfl
    | true => exact absurd (h.expired k hs) (by rw [hexp]; exact Bool.false_ne_true)
  unfold State.windowOver at hover ⊢
  dsimp only at hover ⊢
  rw [hwin, hreg, hexp, h.tick]
  rw [hold] at hover
  exact hover

theorem windowDue_congr {s t : State} {k : Nat} (h : WindowsOn s t) (hdue : s.windowDue k) : t.windowDue k := by
  cases hexp : (t.icu.src.at k).expired with
  | true => exact .inl hexp
  | false =>
    refine .inr (windowOver_congr h hexp (hdue.resolve_left fun hs => ?_))
    exact absurd (h.expired k hs) (by rw [hexp]; exact Bool.false_ne_true)

/-- Every window of the list that is due has ended. -/
theorem windowTurn_foldl_ends (l : List Nat) {k : Nat} (hk : k ∈ l) : ∀ s : State, s.windowDue k → ((l.foldl State.windowTurn s).icu.src.at k).expired = true := by
  induction l with
  | nil => cases hk
  | cons a l ih =>
    intro s hdue
    rw [List.foldl_cons]
    rcases List.mem_cons.mp hk with rfl | hk
    · exact (WindowsOn.foldl l _).expired k (windowTurn_ends hdue)
    · exact ih hk _ (windowDue_congr (.windowTurn s a) hdue)

/-! ### The idle step -/

section
variable {s : State}

/-- Behind the chain router and the edge routers, what waits goes on and windows end. -/
theorem idle_onward (h : s.pwr.off = false) : Onward s.clocked.networkTick s.idle := by
  rw [idle_eq h]
  exact ((Onward.pump _).trans (.writesRetry _)).trans (.foldl _ _ windowTurn_onward)

theorem idle_sent (h : s.pwr.off = false) : s.clocked.chainServeAll.outbox <:+ s.idle.outbox := by
  have hsent := (idle_onward h).sent
  rwa [(networkTick_rest s.clocked).1] at hsent

theorem idle_tick (h : s.pwr.off = false) : s.idle.icu.tick = s.icu.tick + 1 :=
  (idle_onward h).tick.trans ((networkTick_rest s.clocked).2.1.trans (chainServeAll_onward s.clocked).tick)

theorem idle_pending (h : s.pwr.off = false) : s.idle.pending = s.pending :=
  (idle_onward h).pending.trans ((networkTick_rest s.clocked).2.2.trans (chainServeAll_onward s.clocked).pending)

theorem idle_drains (h : s.pwr.off = false) (d b : Fin 8) : s.idle.fget (.CDI_EDGE d b) F.CDI_EDGE_INQ = 0 := by
  rw [State.fget, (idle_onward h).edge d b]
  exact networkTick_drains s.clocked d b

/-- Nothing waits: the windows that have run out end, and that is all. -/
theorem idle_quiet (h : s.pwr.off = false) (hchain : s.chain.waiting = []) (hreqs : s.tkt.heldReqs = []) (hwrites : ∀ p k, (s.dirOf p k).writes = [])
    (hempty : ∀ d b : Fin 8, s.fget (.CDI_EDGE d b) F.CDI_EDGE_INQ = 0) : s.idle = (s.icu.src.map (·.1)).foldl State.windowTurn s.clocked := by
  have hretry : s.clocked.writesRetry = s.clocked := by
    have hnone (p k : Nat) : s.clocked.writesIn p k = s.clocked := by
      rw [State.writesIn, show (s.clocked.dirOf p k).writes = [] from hwrites p k]
      rfl
    exact List.foldlRecOn (motive := fun t => t = s.clocked) _ _ rfl fun t ht p _ => by rw [ht, hnone, hnone]
  rw [idle_eq h, networkTick_quiet (s := s.clocked) hchain hempty, State.pump_none (s := s.clocked) hreqs, hretry]
  rfl

theorem clocked_signals (s : State) : Signals s s.clocked := ⟨rfl, fun _ _ => rfl⟩

/-- A source whose window is open has an entry. -/
theorem mem_sources_of_win {k w : Nat} (h : (s.icu.src.at k).win = some w) : k ∈ s.icu.src.map (·.1) := by
  rcases Tab.at_mem_or s.icu.src k with hdef | hmem
  · rw [hdef] at h
    cases h
  · exact List.mem_map.mpr ⟨_, hmem, rfl⟩

theorem windowDue_of {k : Src} {w : Nat} (hlevel : levelSource k.val = false) (hwin : (s.icu.src.at k.val).win = some w)
    (hset : s.fget (.ICU_COAL k) F.ICU_COAL_WIN ≠ 0) (hover : w + s.fget (.ICU_COAL k) F.ICU_COAL_WIN ≤ s.icu.tick + 1) : s.clocked.windowDue k.val := by
  have hk : srcOf k.val = k := Fin.ofNat_val_self k
  cases hexp : (s.icu.src.at k.val).expired with
  | true => exact .inl hexp
  | false => exact .inr (windowOver_of (s := s.clocked) hwin hlevel (by rw [hk]; exact hset) hexp (by rw [hk]; exact hover))

end

theorem step_idle {s : State} (h : s.pending = []) : step s = .next s.idle := by
  unfold step
  rw [h]

/-- Settles O53, by what each part of the idle step leaves of the messages, the clock, the edge routers and the sources. -/
theorem aStepPerformsTheFirstCommand : Obligations.AStepPerformsTheFirstCommand := by
  refine ⟨fun c l s => rfl, fun s hnone => ⟨fun hoff => ?off, fun hon => ⟨s.idle, step_idle hnone, idle_tick hon, fun x hx => ?served, idle_drains hon,
    (idle_pending hon).trans hnone, fun p q m n hw hm hn => ?urgent, fun p q m n hw hsame hpq hurg hnorm => ?next, fun hchain hreqs hwrites hempty => ?quiet⟩⟩⟩
  case off => rw [step_idle hnone, State.idle, hoff, if_pos rfl]
  case served => exact (idle_sent hon).subset (chainServeAll_sends s.clocked x hx)
  case urgent =>
    have hsent := idle_sent hon
    rwa [chainServeAll_two (s := s.clocked) hw, chainServe_urgent_first (s := s.clocked) hw hm hn] at hsent
  case next =>
    have hsent := idle_sent hon
    rwa [chainServeAll_two (s := s.clocked) hw, chainServe_next_port (s := s.clocked) hw hsame hpq hurg hnorm] at hsent
  case quiet =>
    rw [idle_quiet hon hchain hreqs hwrites hempty]
    have hwin := WindowsOn.foldl (s.icu.src.map (·.1)) s.clocked
    exact ⟨(clocked_signals s).trans hwin.signals, fun k => hwin.src k.val,
      fun k w hlevel hopen hset hover => windowTurn_foldl_ends _ (mem_sources_of_win hopen) _ (windowDue_of hlevel hopen hset hover)⟩

end Sys2Proof.Machine

end
